-- ==== Sys2Proof/Word.lean ====
section
/-! DEFINITION. The byte and word types, and nothing else (00_scope.md R6, R7, R10). -/

namespace Sys2Proof

/-- One byte of a slot, a window buffer or a frame. -/
abbrev Byte := BitVec 8

/-- A 32-bit register word (15_host_interface.md R431). -/
abbrev Word := BitVec 32

end Sys2Proof
end

