-- ==== Sys2Proof/Syntax.lean ====
section
/-! DEFINITION. The commands of the block: one constructor per row of spec/opcode_table.json, and the
records their operands are made of. Times are whole nanoseconds. -/

namespace Sys2Proof

/-- The three ports of the command set (15_host_interface.md R428), in the order of the envelope's code. -/
inductive Port where
  | host | mgmt | app
  deriving DecidableEq, Repr

/-- One request: the envelope of R433 with its payload. `slot` is the mailbox slot that carries it;
a request with no slot is one whose response is read from `lastDone` alone. -/
structure Req where
  port : Port
  slot : Option Nat
  seq : Nat
  /-- flags bit 0 of the envelope -/
  retry : Bool
  /-- flags bit 1 of the envelope: no completion interrupt -/
  noIrq : Bool
  payload : List Byte
  /-- offset of the first reserved field of the envelope that is not 0 -/
  envBad : Option Nat := none
  deriving DecidableEq, Repr

/-- The interrupt targets of 17_app_core_icu.md R482, in the order of the TARGET code. -/
inductive Target where
  | sup | app | host
  deriving DecidableEq, Repr

/-- Who writes a register: the host over QSPI, APP over its bus, or SUP. -/
inductive RegAgent where
  | host | app | sup
  deriving DecidableEq, Repr

/-- A register, by the map it belongs to and its offset there: HPR (R432), the ICU frame of a target (R492),
TSU (R425), CAN controller `c` (R472), CAN message RAM (R466). -/
inductive RegAddr where
  | hpr (off : Nat)
  | icu (g : Target) (off : Nat)
  | tsu (off : Nat)
  | can (c off : Nat)
  | canRam (off : Nat)
  deriving DecidableEq, Repr

/-- A received CAN frame, R465 and R471. -/
structure CanFrame where
  id : Nat
  xtd : Bool
  remote : Bool
  esi : Bool
  dlc : Nat
  fd : Bool
  brs : Bool
  bytes : List Byte
  deriving DecidableEq, Repr

/-- What a received Ethernet frame is, as far as *Receive classification* (16_ethernet_can.md R458) looks. -/
inductive EthKind where
  | ptp (domain : Nat)
  | udp (dstPort : Nat) (bytes : List Byte)
  | arp
  | icmpEcho
  | ipv6
  | fragment
  | pause
  | other
  deriving DecidableEq, Repr

/-- A received Ethernet frame: length with tag, VLAN identifier when tagged, IPv4 destination, source. -/
structure EthFrame where
  len : Nat
  vlan : Option Nat
  dstIp : Nat
  srcIp : Nat
  kind : EthKind
  deriving DecidableEq, Repr

/-- A master's data set as IEEE 1588 compares it: the smaller list is the better master; `gm` is the
grandmaster identity and `utc` its currentUtcOffset when valid (14_time.md R411, R413). -/
structure Master where
  quality : List Nat
  gm : Nat
  utc : Option Nat
  deriving DecidableEq, Repr

/-- Sources of time, in the order of TSU_STATUS.SRC from 1 (14_time.md R425). -/
inductive TimeSource where
  | neta | netb | pps
  deriving DecidableEq, Repr

/-- The wake events of 02_power_states_clocks.md R45. -/
inductive WakeCause where
  | doorbell | mgmtFrame | pbN | xclEdge | safetyInput | monitorFlag | insulationAlarm | rtcAlarm | vbakDue
  deriving DecidableEq, Repr

/-- The clock domains of *Clock checkers* (R50), and XREF (R52). -/
inductive ClockDomain where
  | aon | sys | loop | est | safe | sloe | time | eth | ring | can | isoH | xref
  deriving DecidableEq, Repr

/-- The on requests of 13_sequencing.md R383. -/
inductive OnSource where
  | pbN | vinValid | rtcAlarm | vinReturn | seqLine
  deriving DecidableEq, Repr

/-- What a unit with an on request saw on the SEQ line after 3 ms (R395). -/
inductive LineSeen where
  | beacons | idle | other
  deriving DecidableEq, Repr

/-- The overlap comparison of 03_string_measurement.md R63: mean difference and mean current in µA, and the
reference cross-check in ppm. -/
structure Overlap where
  meanDiff : Int
  meanCurrent : Int
  refPpm : Nat
  deriving DecidableEq, Repr

/-- The side of an insulation fault, in the order of iso_flags bits [4:3] (R82). -/
inductive FaultSide where
  | undetermined | positive | negative | symmetrical
  deriving DecidableEq, Repr

/-- The rows of *HVI plausibility checks* (R80). -/
inductive HviCheck where
  | activity | density | agreement | cellSum | partnerVoltage | partnerCurrent | delivery
  deriving DecidableEq, Repr

/-- A returned beacon copy (04_fenline_rings.md R95, R110, R114). `closed`: it came back at the opposite
terminal; `turned`: its turned bit is set. -/
structure BeaconCopy where
  term : Nat
  alarmMap : BitVec 16
  presenceMap : BitVec 16
  unaddressed : Bool
  turned : Bool
  closed : Bool
  deriving DecidableEq, Repr

/-- What the returned ENUM (or the two of them at a break) brought back: counts and identities (R93). -/
structure EnumReturn where
  count1 : Nat
  count2 : Nat
  turned : Bool
  ids : List Nat
  deriving DecidableEq, Repr

/-- The layout *Round data* (R103). Voltages in 100 µV, temperatures in 0.01 °C, charges in 0.1 mC. -/
structure RoundData where
  round : Nat
  status : BitVec 16
  thrCrc : BitVec 16
  ovMap : BitVec 32
  uvMap : BitVec 32
  openMap : BitVec 32
  otMap : BitVec 8
  shuttleCh : Nat
  timeErr : Int
  vCell : List Nat
  tSens : List Int
  bleedMap : BitVec 32
  qShuttle : BitVec 32
  qBleed : BitVec 32
  vStack : Nat
  iShuttle : Int
  deriving DecidableEq, Repr

/-- Payload of SHUTTLE_SET (R116): mA, s, 0.1 mC, mV. -/
structure ShuttleArgs where
  channel : Nat
  outOfCell : Bool
  current : Nat
  duration : Nat
  limit : Nat
  vStop : Nat
  deriving DecidableEq, Repr

/-- The threshold set of a monitor: offsets 4 to 15 of *THR_LOAD payload* (10_safety.md R304). -/
structure Thresholds where
  ov : Nat
  uv : Nat
  ot : Int
  openMv : Nat
  filt : Nat
  deriving DecidableEq, Repr

/-- A monitor's hardware comparators (R114). -/
inductive Comparator where
  | ov | uv | ot | openLead | selfTest
  deriving DecidableEq, Repr

/-- The two engines with catch-up (01_system.md R32). -/
inductive Engine where
  | cee | le (slot : Nat)
  deriving DecidableEq, Repr

/-- The current phasors of one string at a window end (06_impedance_thermal.md R165, R169), in µA, and the
spread of its 100 ms mean currents in µA (R168). -/
structure StringPhasor where
  string : Nat
  re : List Int
  im : List Int
  spread : Nat
  deriving DecidableEq, Repr

/-- One tone of one channel of an *Impedance result block* (R167). -/
structure ImpEntry where
  re : Int
  im : Int
  quality : Nat
  zflags : BitVec 8
  deriving DecidableEq, Repr

/-- An *Impedance result block* (R167): `entries` has channel c, tone k at 8c + k. -/
structure ImpBlock where
  window : Nat
  planId : Nat
  zScale : Nat
  status : BitVec 8
  entries : List ImpEntry
  deriving DecidableEq, Repr

/-- One conversion of a thermal input (R177 to R181): the temperature in 0.01 °C that the configured curve
gives, and whether the open or short condition of *Broken sensor detection* held. -/
structure TiReading where
  temp : Int
  openLead : Bool
  short : Bool
  /-- the internal reference reads within 1 % (18_faults_peat_log.md R498) -/
  refOk : Bool
  deriving DecidableEq, Repr

/-- The reply of one GX-2 to a status poll (08_converter_control.md R244). -/
structure Gx2Reply where
  answered : Bool
  crcOk : Bool
  ready : Bool
  desat : Bool
  undervoltage : Bool
  overtempWarn : Bool
  overtemp : Bool
  inputFault : Bool
  /-- it follows this unit -/
  own : Bool
  claim : Nat
  deriving DecidableEq, Repr

/-- *Pause causes* (R234). -/
inductive PauseCause where
  | headroom | desaturation | softStart | ambiguous
  deriving DecidableEq, Repr

/-- The two safety channels (10_safety.md R281). -/
inductive Channel where
  | sp | sloe
  deriving DecidableEq, Repr

/-- *Safety functions* (R292), in the order of sf_map (R317). -/
inductive SafetyFn where
  | ov | uv | ot | oc | iso | ext | comm | cont | run
  deriving DecidableEq, Repr

/-- An output stage: GX-2 of phase `p`, or CX-4 of string `i` (11_redundancy.md R325). -/
inductive Stage where
  | gx2 (p : Nat)
  | cx4 (i : Nat)
  deriving DecidableEq, Repr

/-- A chunk of the resync snapshot (11_redundancy.md R346) or of what a STANDBY unit adopts at each journal write
(05_cell_estimation.md R137): a configuration record by the opcode of its command; the filter state of a cell (x as SOC,
v_p1, v_p2, h and Q; the triangle of P; R_ohm, g and the charge accounts); a cell's core offset (06_impedance_thermal.md
R175); the histories e, y, integrator and derivative of a loop slot; the journal values of a cell, the variance of Q
standing for its standard deviation. -/
inductive BulkPart where
  | config (opcode : Nat) (record : List Byte)
  | cell (c : Nat) (x p : List Rat) (rOhm g : Rat) (qcc qbal : Int)
  | offset (c : Nat) (offset : Rat) (learned : Bool)
  | loop (slot : Nat) (e y : List Int) (integ deriv : Int)
  | journal (c : Nat) (q varQ g : Rat) (efc : Nat) (tMean : Int)
  deriving DecidableEq, Repr

/-- The bodies of *PEER messages* (R343) that the model distinguishes. -/
inductive PeerBody where
  /-- `levels`: part, if_level in force, and the lowest and highest level its image accepts of the partner's -/
  | hello (identity : Nat) (variant : Nat) (floor : Nat) (levels : List (Nat × Nat × Nat × Nat)) (setCrc : Nat)
  | state (strings : List Nat) (tiers : List Nat) (vinValid : Bool) (e : List Nat)
  | config (opcode : Nat) (record : List Byte)
  /-- target in W; a request with its effective instant in TSU ns and whether it came late -/
  | dispatch (target : Int) (inForce : Option (List Byte × Nat × Bool)) (queue : List (List Byte × Nat × Bool))
  | shadow
  | bulk (part : BulkPart)
  | heartbeat
  | swapRequest (ts : Nat)
  | swapGrant
  | swapRefuse (reason : Nat)
  | meas (rIso cE : Nat) (side : FaultSide) (belowRange valid isoOff : Bool)
  | ack
  deriving DecidableEq, Repr

/-- A received PEER message: header fields of *PEER header* and its body. -/
structure PeerMsg where
  seq : Nat
  claim : Nat
  role : Nat
  ackSeq : Nat
  crcOk : Bool
  body : PeerBody
  deriving DecidableEq, Repr

/-- One value of *Shadow comparison* (R347) as both units have it. `row` 0 to 5 is the table's row, `obj` the
object within it (string, phase, cell or monitor); units: duty 10⁻⁴, mA, W, SOC 10⁻⁷. -/
structure ShadowValue where
  row : Nat
  obj : Nat
  active : Int
  own : Int
  deriving DecidableEq, Repr

/-- What one PMBus poll of one rectifier brought (12_rack_power.md R354): mV, mA, W. -/
structure RectReading where
  answered : Bool
  statusWord : BitVec 16
  vout : Nat
  iout : Int
  statusInput : BitVec 8
  vin : Nat
  pout : Nat
  voutModeOk : Bool
  writeAcked : Bool
  deriving DecidableEq, Repr

/-- What the EFC derives every 50 µs (R368): mA, mV, mV, bus in mV, presence input level. -/
structure EfReading where
  i : Int
  vds : Int
  vgs : Int
  presentLow : Bool
  deriving DecidableEq, Repr

/-- The faults of a channel (R377). -/
inductive EfFault where
  | fastTrip | curve | stress | softStart | diode | gate
  deriving DecidableEq, Repr

/-- Memories with ECC (18_faults_peat_log.md R500). -/
inductive Memory where
  | sup | cee | le | sp | appTcm | appDram | dram (owner : Nat) | nor (part bank : Nat)
  deriving DecidableEq, Repr

/-- Rows of *Background schedule* that make passes (R501). -/
inductive Background where
  | scrubSup | scrubCee | scrubLe | scrubSp | scrubTcm | scrubDram | scrubNor | verifyMram | wear (block : Nat)
  deriving DecidableEq, Repr

/-- A Peat record as a block submits it (R503). -/
structure PeatIn where
  code : Nat
  source : Nat
  level : Nat
  p0 : Nat
  p1 : Nat
  p2 : Nat
  deriving DecidableEq, Repr


/-- One constructor per row of spec/opcode_table.json. A host command carries its request `q`; an event
carries the instant `t` (elapsed ns) at which it happens, and the data the outside world brings. -/
inductive Instr where
  /-- SYS_GET_INFO (R454): Returns the variant, the unique identity, the image versions and interface levels, and the present epoch. -/
  | sysGetInfo (q : Req)
  /-- SYS_GET_STATUS (R451): Returns the unit's system status. -/
  | sysGetStatus (q : Req)
  /-- SYS_ECHO (R454): Returns its payload unchanged and changes nothing. -/
  | sysEcho (q : Req)
  /-- SYS_RESTART (R454): Completes with OK and then resets the units of R408, so the unit enters BOOT. -/
  | sysRestart (q : Req)
  /-- SYS_SET_POWER_POLICY (R41): Enables or disables FLOAT and DORMANT and sets their dwell times. -/
  | sysSetPowerPolicy (q : Req)
  /-- SYS_GET_POWER_STATE (R53): Returns the power state, VIN, VBAK, E_avail, C_meas with series resistance, and the clock checker states. -/
  | sysGetPowerState (q : Req)
  /-- SYS_SET_VBAK (R39): Sets the VBAK charger target and the minimum end-of-life capacitance. -/
  | sysSetVbak (q : Req)
  /-- SYS_SET_ALARM (R45): Sets or clears the AON RTC alarm. -/
  | sysSetAlarm (q : Req)
  /-- SYS_SET_TI (R177): Configures one thermal input, subject to the string and e-fuse state conditions. -/
  | sysSetTi (q : Req)
  /-- SYS_GET_TI (R187): Returns the configuration, value, status and levels of one or all thermal inputs. -/
  | sysGetTi (q : Req)
  /-- SYS_SET_THERMAL_WARN (R185): Sets the 21 thermal warning thresholds. -/
  | sysSetThermalWarn (q : Req)
  /-- SYS_GET_THERMAL (R187): Returns every asserted thermal level and every broken sensor. -/
  | sysGetThermal (q : Req)
  /-- SYS_WIN_ALLOC (R441): Allocates a window buffer descriptor from the pool of the issuing port. -/
  | sysWinAlloc (q : Req)
  /-- SYS_WIN_FREE (R441): Releases a window descriptor of the issuing port. -/
  | sysWinFree (q : Req)
  /-- SYS_SET_SLOTS (R428): Reassigns mailbox slots to ports and stores the assignment in MRAM. -/
  | sysSetSlots (q : Req)
  /-- STR_GET_STATE (R451): Returns the state of one string or all strings. -/
  | strGetState (q : Req)
  /-- STR_CONNECT (R235): Moves an ISOLATED string to PRECHARGE and starts the precharge stages. -/
  | strConnect (q : Req)
  /-- STR_DISCONNECT (R25): Ramps the string current to zero, opens the contactors and returns the string to ISOLATED. -/
  | strDisconnect (q : Req)
  /-- STR_REGULATE (R25): Moves a CONNECTED string at tier F to REGULATING and starts its converter. -/
  | strRegulate (q : Req)
  /-- STR_IDLE (R241): Ramps a REGULATING string to zero current and returns it to CONNECTED. -/
  | strIdle (q : Req)
  /-- STR_RESET (R25): Returns a HALTED string to ISOLATED once both channels report the cause cleared and the mirrors confirm open. -/
  | strReset (q : Req)
  /-- STR_RETIRE (R25): Moves an ISOLATED or HALTED string to RETIRED. -/
  | strRetire (q : Req)
  /-- STR_RESTORE (R497): Self-tests the string's retired units and, if they pass and the tier allows, returns the string to ISOLATED. -/
  | strRestore (q : Req)
  /-- STR_GET_MEAS (R82): Returns the measurement record of one or all present strings. -/
  | strGetMeas (q : Req)
  /-- STR_SET_SHUNT (R81): Sets R_cfg and R_path of one string. -/
  | strSetShunt (q : Req)
  /-- STR_GET_CAL (R81): Returns both modulators' coefficients, acceptance results and calibration times. -/
  | strGetCal (q : Req)
  /-- STR_SET_ISO (R71): Sets the insulation monitor mode and the warning threshold. -/
  | strSetIso (q : Req)
  /-- STR_GET_ISO (R82): Returns the latest insulation result. -/
  | strGetIso (q : Req)
  /-- STR_CLEAR_MEAS_FLAGS (R57): Clears the overrange, uncertain and discontinuity flags of one string. -/
  | strClearMeasFlags (q : Req)
  /-- STR_SET_RING (R121): Stores the ring declaration and round rates, then re-enumerates the ring. -/
  | strSetRing (q : Req)
  /-- STR_ENUMERATE (R93): Re-enumerates a ring and, with the accept flag, stores new identities. -/
  | strEnumerate (q : Req)
  /-- STR_RING_LINK (R112): Disables or re-enables one ring link. -/
  | strRingLink (q : Req)
  /-- STR_GET_RING (R121): Returns ring mode, break location, presence and counters. -/
  | strGetRing (q : Req)
  /-- STR_GET_ROUND (R121): Returns the latest round of one or all rings. -/
  | strGetRound (q : Req)
  /-- DSP_SET_REQUEST (R204): Submits a dispatch request, which takes effect at once or is queued for its instant. -/
  | dspSetRequest (q : Req)
  /-- DSP_CANCEL (R208): Removes one queued dispatch entry by req_id, or the whole queue. -/
  | dspCancel (q : Req)
  /-- DSP_GET_STATUS (R216): Returns the request in force, target, allocation and dispatch flags. -/
  | dspGetStatus (q : Req)
  /-- DSP_GET_QUEUE (R216): Returns the queued dispatch entries. -/
  | dspGetQueue (q : Req)
  /-- DSP_SET_CONFIG (R213): Sets the device-wide dispatch configuration. -/
  | dspSetConfig (q : Req)
  /-- DSP_GET_CONFIG (R216): Returns the dispatch configuration. -/
  | dspGetConfig (q : Req)
  /-- EST_SET_CONFIG (R152): Sets one string's estimator configuration, effective at its next step. -/
  | estSetConfig (q : Req)
  /-- EST_GET_CONFIG (R153): Returns one string's estimator configuration. -/
  | estGetConfig (q : Req)
  /-- EST_GET_CELLS (R150): Copies consistent cell table entries into a window buffer. -/
  | estGetCells (q : Req)
  /-- EST_MAP_TABLE (R441): Returns a read-only live window descriptor onto the cell table. -/
  | estMapTable (q : Req)
  /-- EST_GET_SOP (R144): Returns the state-of-power record of one or all present strings. -/
  | estGetSop (q : Req)
  /-- EST_SET_SOC (R153): Sets SOC and its standard deviation for a range of cells. -/
  | estSetSoc (q : Req)
  /-- EST_RESET_CELL (R136): Restarts the filters of a range of cells. -/
  | estResetCell (q : Req)
  /-- EST_JOURNAL (R149): Returns the journal slot status and, with the write flag, triggers a journal write. -/
  | estJournal (q : Req)
  /-- EST_REQUEST_ANCHOR (R143): Makes SUP request a rest window for the string at once. -/
  | estRequestAnchor (q : Req)
  /-- EST_GET_STATUS (R153): Returns CEE load, catch-up, deadline, books and divergence counts. -/
  | estGetStatus (q : Req)
  /-- TPE_SET_PLAN (R155): Checks and accepts a tone plan, which takes effect under R163. -/
  | tpeSetPlan (q : Req)
  /-- TPE_GET_PLAN (R187): Returns the plan in force, any pending plan and each pair's status. -/
  | tpeGetPlan (q : Req)
  /-- TPE_GET_RESULTS (R170): Copies consistent impedance table entries into a window buffer. -/
  | tpeGetResults (q : Req)
  /-- TPE_MAP_RESULTS (R441): Returns a read-only live window descriptor onto the impedance table. -/
  | tpeMapResults (q : Req)
  /-- TPE_GET_PRECURSOR (R186): Copies precursor indicators of a range of cells into a window buffer. -/
  | tpeGetPrecursor (q : Req)
  /-- TPE_GET_STATUS (R187): Returns window counts, missing blocks, offset learning state and table slots. -/
  | tpeGetStatus (q : Req)
  /-- BAL_SET_CONFIG (R190): Sets one string's balancing configuration, effective at its next planning cycle. -/
  | balSetConfig (q : Req)
  /-- BAL_GET_CONFIG (R216): Returns one string's balancing configuration. -/
  | balGetConfig (q : Req)
  /-- BAL_SET_BUDGET (R196): Sets the balancing budget. -/
  | balSetBudget (q : Req)
  /-- BAL_HOLD (R194): Holds balancing on one string for a time and stops its transfers, or releases a hold. -/
  | balHold (q : Req)
  /-- BAL_GET_PLAN (R216): Returns the transfers in force, deviations and allowances per monitor. -/
  | balGetPlan (q : Req)
  /-- BAL_GET_LEDGER (R203): Returns the ledger accounts of each string. -/
  | balGetLedger (q : Req)
  /-- CNV_SET_CONFIG (R253): Sets one string's converter configuration. -/
  | cnvSetConfig (q : Req)
  /-- CNV_GET_CONFIG (R254): Returns one string's converter configuration. -/
  | cnvGetConfig (q : Req)
  /-- CNV_SET_SLOT (R228): Schedules a change of interleave slot or sync_phase at a named TSU instant. -/
  | cnvSetSlot (q : Req)
  /-- CNV_GET_STATUS (R254): Returns per-string phase, pause, braking, sync and precharge model status. -/
  | cnvGetStatus (q : Req)
  /-- CNV_PHASE_DISABLE (R251): Disables one phase and re-divides and re-interleaves the string. -/
  | cnvPhaseDisable (q : Req)
  /-- CNV_PHASE_RESTORE (R254): Self-tests a phase and enables it on a pass. -/
  | cnvPhaseRestore (q : Req)
  /-- CNV_GET_DRIVERS (R254): Returns each GX-2's status, fault history and followed unit. -/
  | cnvGetDrivers (q : Req)
  /-- LEP_LOAD_DESC (R267): Loads a loop descriptor into a slot and zeroes its state. -/
  | lepLoadDesc (q : Req)
  /-- LEP_CLEAR_SLOT (R267): Sets a loop slot empty. -/
  | lepClearSlot (q : Req)
  /-- LEP_GET_DESC (R280): Returns a slot's descriptor. -/
  | lepGetDesc (q : Req)
  /-- LEP_SET_COEF (R268): Writes a slot's inactive coefficient bank. -/
  | lepSetCoef (q : Req)
  /-- LEP_GET_COEF (R280): Returns both banks of a slot and which is active. -/
  | lepGetCoef (q : Req)
  /-- LEP_SWAP (R269): Schedules a bank swap for a set of slots at a swap instant. -/
  | lepSwap (q : Req)
  /-- LEP_LOAD_LUT (R270): Loads a gain table not in use. -/
  | lepLoadLut (q : Req)
  /-- LEP_GET_LUT (R280): Returns a gain table. -/
  | lepGetLut (q : Req)
  /-- LEP_SET_PARAM (R274): Writes auxiliary parameter registers, effective at each reading slot's next sample instant. -/
  | lepSetParam (q : Req)
  /-- LEP_GET_OUTPUT (R280): Returns slot outputs and auxiliary output registers. -/
  | lepGetOutput (q : Req)
  /-- LEP_GET_STATUS (R280): Returns per-datapath load and per-slot counters, bank and tag. -/
  | lepGetStatus (q : Req)
  /-- SAF_STAGE (R308): Delivers a safety parameter set to the staging areas of SP and Sloe for checking. -/
  | safStage (q : Req)
  /-- SAF_GET_STAGED (R308): Returns both channels' verdicts and computed CRCs of the staged set. -/
  | safGetStaged (q : Req)
  /-- SAF_COMMIT (R309): Commits the staged set when both channels and the confirmed CRC agree. -/
  | safCommit (q : Req)
  /-- SAF_DISCARD (R321): Discards the staged safety set. -/
  | safDiscard (q : Req)
  /-- SAF_GET_SET (R321): Copies the active safety set into a window buffer. -/
  | safGetSet (q : Req)
  /-- SAF_GET_STATUS (R321): Returns per-string latches, permits, trips, PDU and network status. -/
  | safGetStatus (q : Req)
  /-- SAF_GET_INPUTS (R321): Returns safety input levels, demands, faults and TP state. -/
  | safGetInputs (q : Req)
  /-- RED_GET_STATUS (R350): Returns role, claims, beat and PEER counters, readiness and swap times. -/
  | redGetStatus (q : Req)
  /-- RED_SET_CONFIG (R349): Sets the pair configuration. -/
  | redSetConfig (q : Req)
  /-- RED_GET_CONFIG (R350): Returns the pair configuration. -/
  | redGetConfig (q : Req)
  /-- RED_SWAP (R337): Requests a role swap now. -/
  | redSwap (q : Req)
  /-- RED_POSTPONE (R340): Postpones the due scheduled swap. -/
  | redPostpone (q : Req)
  /-- RED_GET_SHADOW (R350): Returns shadow mismatch counts and self-test outcomes. -/
  | redGetShadow (q : Req)
  /-- AUX_SET_BUS (R367): Sets the auxiliary bus configuration. -/
  | auxSetBus (q : Req)
  /-- AUX_GET_BUS (R382): Returns the auxiliary bus configuration. -/
  | auxGetBus (q : Req)
  /-- AUX_SET_CAP (R362): Sets the commanded power cap and the return allowance p_ret. -/
  | auxSetCap (q : Req)
  /-- AUX_SET_FAN (R365): Sets the commanded duty of a fan tray. -/
  | auxSetFan (q : Req)
  /-- AUX_GET_STATUS (R382): Returns bus voltage, load, cap, allowances, shed steps, AC and rectifier state. -/
  | auxGetStatus (q : Req)
  /-- AUX_SET_EF (R381): Sets one e-fuse channel's configuration. -/
  | auxSetEf (q : Req)
  /-- AUX_GET_EF (R382): Returns the configuration and live state of one or all e-fuse channels. -/
  | auxGetEf (q : Req)
  /-- AUX_EF_ON (R369): Commands an e-fuse channel on. -/
  | auxEfOn (q : Req)
  /-- AUX_EF_OFF (R369): Commands an e-fuse channel off. -/
  | auxEfOff (q : Req)
  /-- AUX_EF_RESET (R377): Clears a LATCHED channel's fault count and moves it to OFF. -/
  | auxEfReset (q : Req)
  /-- SEQ_SET_TABLE (R389): Checks and stores a rail table for the next power-up. -/
  | seqSetTable (q : Req)
  /-- SEQ_GET_TABLE (R409): Returns the rail table in force or the one for the next power-up. -/
  | seqGetTable (q : Req)
  /-- SEQ_GET_STATUS (R409): Returns sequence position, line levels, rails, pending requests and faults. -/
  | seqGetStatus (q : Req)
  /-- SEQ_OFF (R399): Makes an off request of local or system scope. -/
  | seqOff (q : Req)
  /-- SEQ_CANCEL_OFF (R399): Withdraws a pending local off request. -/
  | seqCancelOff (q : Req)
  /-- TIM_GET_TIME (R427): Returns TSU time, sync state and UTC offset. -/
  | timGetTime (q : Req)
  /-- TIM_GET_STATUS (R427): Returns sync state, PTP port data, step count and holdover estimate. -/
  | timGetStatus (q : Req)
  /-- TIM_SET_CONFIG (R426): Sets the time configuration. -/
  | timSetConfig (q : Req)
  /-- TIM_GET_CONFIG (R426): Returns the time configuration. -/
  | timGetConfig (q : Req)
  /-- TIM_SET_TIME (R416): Steps TSU time to a given value in FREERUN. -/
  | timSetTime (q : Req)
  /-- TIM_SET_TRIGGER (R422): Programs one of the user triggers 8 to 15. -/
  | timSetTrigger (q : Req)
  /-- TIM_GET_TRIGGER (R427): Returns one user trigger. -/
  | timGetTrigger (q : Req)
  /-- TIM_SET_CAPTURE (R424): Configures one of captures 2 to 15. -/
  | timSetCapture (q : Req)
  /-- TIM_READ_CAPTURE (R424): Pops up to 4 entries of a capture FIFO. -/
  | timReadCapture (q : Req)
  /-- TIM_DELEGATE (R422): Gives user triggers and captures to APP or takes them back. -/
  | timDelegate (q : Req)
  /-- NET_SET_PORT (R462): Sets one Ethernet port record. -/
  | netSetPort (q : Req)
  /-- NET_GET_PORT (R462): Returns one Ethernet port record. -/
  | netGetPort (q : Req)
  /-- NET_GET_STATS (R457): Returns one port's counters. -/
  | netGetStats (q : Req)
  /-- NET_SET_MGMT (R464): Sets one management client record and key. -/
  | netSetMgmt (q : Req)
  /-- NET_GET_MGMT (R464): Returns management client records without keys. -/
  | netGetMgmt (q : Req)
  /-- CAN_SET_CONFIG (R474): Configures a non-delegated CAN controller's timing, queues and filter list. -/
  | canSetConfig (q : Req)
  /-- CAN_GET_CONFIG (R474): Returns a CAN controller's configuration. -/
  | canGetConfig (q : Req)
  /-- CAN_SET_FILTER (R474): Writes filter elements of a controller in INIT. -/
  | canSetFilter (q : Req)
  /-- CAN_SEND (R474): Queues a transmit element on a controller. -/
  | canSend (q : Req)
  /-- CAN_READ (R474): Copies and acknowledges owned receive entries of a queue. -/
  | canRead (q : Req)
  /-- CAN_GET_STATUS (R474): Returns a controller's status, error counters and queue counters. -/
  | canGetStatus (q : Req)
  /-- CAN_DELEGATE (R473): Gives whole CAN controllers to APP or takes them back. -/
  | canDelegate (q : Req)
  /-- LOG_GET_STATUS (R509): Returns the Peat log status. -/
  | logGetStatus (q : Req)
  /-- LOG_READ (R510): Copies a range of Peat records into a window buffer. -/
  | logRead (q : Req)
  /-- LOG_CLEAR (R508): Discards the whole log atomically and writes LOG_CLEARED at index 0. -/
  | logClear (q : Req)
  /-- UPD_GET_VERSIONS (R537): Returns the floor, revocation bits and per-part bank states. -/
  | updGetVersions (q : Req)
  /-- UPD_BEGIN (R519): Accepts an authentic container header into a transfer, fresh or resumed. -/
  | updBegin (q : Req)
  /-- UPD_CHUNK (R519): Verifies, programs and records consecutive container chunks. -/
  | updChunk (q : Req)
  /-- UPD_GET_STATUS (R537): Returns transfer states and activation progress. -/
  | updGetStatus (q : Req)
  /-- UPD_VERIFY (R520): Runs the integrity checks on a COMPLETE transfer. -/
  | updVerify (q : Req)
  /-- UPD_ACTIVATE (R522): Starts taking a READY transfer into effect. -/
  | updActivate (q : Req)
  /-- UPD_CONFIRM (R526): Gives host confirmation to an image on trial. -/
  | updConfirm (q : Req)
  /-- UPD_ABORT (R537): Aborts a transfer, optionally erasing it or falling back now. -/
  | updAbort (q : Req)
  /-- TRC_SET_PROBE (R277): Configures a trace probe. -/
  | trcSetProbe (q : Req)
  /-- TRC_ARM (R278): Arms a set of trace probes. -/
  | trcArm (q : Req)
  /-- TRC_STOP (R278): Stops a set of trace probes. -/
  | trcStop (q : Req)
  /-- TRC_GET_STATUS (R279): Returns the probe headers. -/
  | trcGetStatus (q : Req)
  /-- TRC_MAP (R279): Returns a read-only window descriptor onto the trace region. -/
  | trcMap (q : Req)
  /-- TRC_READ (R279): Copies part of a probe buffer into a window buffer. -/
  | trcRead (q : Req)
  /-- QSPI_READ (R430): A host READ transaction returns data from the host address map. -/
  | qspiRead (t : Nat) (addr len : Nat)
  /-- QSPI_WRITE (R431): A host WRITE transaction writes slots, window or registers under the access rules. -/
  | qspiWrite (t : Nat) (addr : Nat) (bytes : List Byte) (cut : Bool)
  /-- QSPI_STATUS (R430): A host STATUS transaction returns the HPR status byte. -/
  | qspiStatus (t : Nat)
  /-- HPR_DOORBELL_WRITE (R434): Posting a slot sets its ownership bit and clears its done bit, or is ignored with DB_ERR. -/
  | hprDoorbellWrite (t : Nat) (port : Port) (mask : BitVec 16)
  /-- SLOT_TAKE (R434): SUP takes posted slots in doorbell order and begins executing their commands. -/
  | slotTake (t : Nat)
  /-- HPR_DONE_CLEAR (R434): A W1C write clears done bits, freeing the slots. -/
  | hprDoneClear (t : Nat) (port : Port) (mask : BitVec 16)
  /-- HPR_ERR_CLEAR (R432): A W1C write clears HPR error bits. -/
  | hprErrClear (t : Nat) (mask : BitVec 32)
  /-- HPR_HB_TICK (R432): SUP increments the heartbeat count every 1 ms unless in handover. -/
  | hprHbTick (t : Nat)
  /-- DESCRIPTOR_OWN_WRITE (R440): A requester hands a window buffer to the device by writing 1 to its own word. -/
  | descriptorOwnWrite (t : Nat) (port : Port) (desc value : Nat) (partialWrite : Bool)
  /-- REGISTER_WRITE (R8): A write to a register without behaviour of its own stores or discards by access code. -/
  | registerWrite (t : Nat) (a : RegAgent) (r : RegAddr) (value : BitVec 32)
  /-- MGMT_REQUEST (R444): An accepted REQUEST frame enters a free MGMT slot or the wait queue. -/
  | mgmtRequest (t : Nat) (net src : Nat) (frame : List Byte)
  /-- MGMT_WAIT_TIMEOUT (R444): A request that has waited 100 ms is answered with RESOURCE and not executed. -/
  | mgmtWaitTimeout (t : Nat)
  /-- WIN_READ (R442): A WIN_READ frame returns window data in WIN_DATA. -/
  | winRead (t : Nat) (net src : Nat) (frame : List Byte)
  /-- WIN_WRITE (R443): A WIN_WRITE frame writes window data under R440 and is acknowledged. -/
  | winWrite (t : Nat) (net src : Nat) (frame : List Byte)
  /-- WAKE (R445): A WAKE frame recognised by the MACs in DORMANT wakes the KZV. -/
  | wake (t : Nat) (net : Nat) (frame : List Byte)
  /-- VERSION (R478): The monitor call returns the monitor version and interface level. -/
  | monVersion (t : Nat)
  /-- TIME (R478): The monitor call returns TSU seconds and nanoseconds. -/
  | monTime (t : Nat)
  /-- TIMER (R478): The monitor call sets or cancels the monitor timer. -/
  | monTimer (t : Nat) (us : Nat)
  /-- WDOG_SET (R478): The monitor call sets or disables the APP watchdog. -/
  | wdogSet (t : Nat) (ms : Nat)
  /-- WDOG_FEED (R478): The monitor call restarts the APP watchdog. -/
  | wdogFeed (t : Nat)
  /-- RESTART (R480): The monitor call restarts APP. -/
  | monRestart (t : Nat)
  /-- MONITOR_TIMER_FIRE (R478): The monitor timer reaches its instant and raises its source. -/
  | monitorTimerFire (t : Nat)
  /-- WATCHDOG_WARNING (R478): The APP watchdog reaches half its timeout and raises the warning source. -/
  | watchdogWarning (t : Nat)
  /-- WATCHDOG_EXPIRY (R480): The APP watchdog expires and APP restarts with cause 1. -/
  | watchdogExpiry (t : Nat)
  /-- APP_START (R479): APP starts when the unit first enters a role after BOOT. -/
  | appStart (t : Nat)
  /-- APP_RESTART (R480): APP restarts with the restart effects, and three fault restarts in 10 min leave it stopped. -/
  | appRestart (t : Nat) (cause : Nat)
  /-- ACCESS_FAULT (R476): An APP access outside its map raises an access fault delegated to the supervisor handler. -/
  | accessFault (t : Nat) (addr size : Nat) (write : Bool)
  /-- APP_MEMORY_ERROR (R477): An uncorrectable APP memory error restarts APP. -/
  | appMemoryError (t : Nat) (dram correctable : Bool)
  /-- ICU_SOURCE_EDGE (R483): A rising edge of a source event sets or merges into its pending bit. -/
  | icuSourceEdge (t : Nat) (g : Target) (n : Nat)
  /-- ICU_DECISION (R484): The ICU selects the highest eligible source, latches it and asserts the target line. -/
  | icuDecision (t : Nat) (g : Target)
  /-- ICU_CLAIM_READ (R485): A read of ICU_CLAIM claims the latched source or returns 0 and releases the line. -/
  | icuClaimRead (t : Nat) (g : Target)
  /-- ICU_COMPLETE_WRITE (R486): A write ends a source's active state or is discarded with ACC_ERR. -/
  | icuCompleteWrite (t : Nat) (g : Target) (value : BitVec 32)
  /-- ICU_PEND_SET (R483): A W1S write sets pending bits. -/
  | icuPendSet (t : Nat) (g : Target) (w : Nat) (mask : BitVec 32)
  /-- ICU_PEND_CLR (R483): A W1C write clears pending bits. -/
  | icuPendClr (t : Nat) (g : Target) (w : Nat) (mask : BitVec 32)
  /-- ICU_MASK_SET (R488): A W1S write masks sources. -/
  | icuMaskSet (t : Nat) (g : Target) (w : Nat) (mask : BitVec 32)
  /-- ICU_MASK_CLR (R488): A W1C write unmasks sources. -/
  | icuMaskClr (t : Nat) (g : Target) (w : Nat) (mask : BitVec 32)
  /-- ICU_TGT_EN_WRITE (R491): Setting EN enables the target and returns every source redirected from it. -/
  | icuTgtEnWrite (t : Nat) (g : Target) (value : BitVec 32)
  /-- HOLD_OFF_EXPIRY (R487): A moderation group's hold-off ends. -/
  | holdOffExpiry (t : Nat) (g : Target) (grp : Nat)
  /-- STRANDED_TIMEOUT (R491): A source stranded for 1 ms is redirected to SUP. -/
  | strandedTimeout (t : Nat) (g : Target) (n : Nat)
  /-- SOURCE_RETARGET (R489): A source route change moves its pending bit, PRIO and GROUP to the new target. -/
  | sourceRetarget (t : Nat) (n : Nat) (g : Target)
  /-- TSU_SNAP_WRITE (R425): Writing 1 latches the present time into the snapshot registers. -/
  | tsuSnapWrite (t : Nat) (value : BitVec 32)
  /-- TSU_EVT_CLEAR (R425): A W1C write clears trigger and capture event bits. -/
  | tsuEvtClear (t : Nat) (app : Bool) (mask : BitVec 32)
  /-- TSU_TRG_CTRL_WRITE (R423): A write arms or disarms a trigger, with its simultaneous-firing rule. -/
  | tsuTrgCtrlWrite (t : Nat) (app : Bool) (n : Nat) (value : BitVec 32)
  /-- TSU_CAP_POP (R424): Writing POP discards a capture's head entry. -/
  | tsuCapPop (t : Nat) (app : Bool) (n : Nat)
  /-- TRIGGER_FIRE (R423): A TSU trigger fires at its instant and advances by its period. -/
  | triggerFire (t : Nat) (n : Nat)
  /-- CAPTURE_EDGE (R424): An edge on a capture input is timestamped into its FIFO or discarded with OVF. -/
  | captureEdge (t : Nat) (n : Nat) (rising : Bool) (frac levelNs : Nat)
  /-- CAN_TXQ_PUT_WRITE (R469): Advancing PUT queues a transmit buffer or is discarded with ACC_ERR. -/
  | canTxqPutWrite (t : Nat) (app : Bool) (c put : Nat)
  /-- CANCEL (R470): Writing CANCEL ends the transmit head after its present attempt. -/
  | canCancel (t : Nat) (app : Bool) (c : Nat)
  /-- CAN_RXQ_GET_WRITE (R471): Advancing GET acknowledges receive entries or is discarded. -/
  | canRxqGetWrite (t : Nat) (app : Bool) (c k get : Nat)
  /-- CAN_CTRL_WRITE (R472): Writing INIT enters or leaves configuration mode, emptying queues on entry. -/
  | canCtrlWrite (t : Nat) (app : Bool) (c : Nat) (value : BitVec 32)
  /-- CAN_FRAME_RECEIVED (R468): A received CAN frame is filtered and published to a queue or rejected. -/
  | canFrameReceived (t : Nat) (c : Nat) (f : CanFrame)
  /-- CAN_TX_COMPLETE (R469): The transmit head is sent, cancelled or fails one-shot, advancing GET. -/
  | canTxComplete (t : Nat) (c outcome : Nat)
  /-- TX_HOL (R470): The head has lost arbitration for HOL_LIM and TX_HOL is set. -/
  | txHol (t : Nat) (c : Nat)
  /-- BUS_OFF (R472): A controller enters bus-off, recovering automatically under ABO. -/
  | busOff (t : Nat) (c : Nat)
  /-- ETH_FRAME_RECEIVED (R458): A received Ethernet frame is classified to TSU, safe path, PEER, management, SUP or discarded. -/
  | ethFrameReceived (t : Nat) (port : Nat) (f : EthFrame)
  /-- LINK_LOSS_RETURN (R463): Link loss or return on a port is counted, logged and raised. -/
  | linkLossReturn (t : Nat) (port : Nat) (up : Bool)
  /-- SYNC_MESSAGE (R412): A PTP Sync from the master gives an offset update to the servo. -/
  | syncMessage (t : Nat) (port domain : Nat) (offset : Int)
  /-- ANNOUNCE (R413): An Announce message updates the port's best master data. -/
  | announce (t : Nat) (port domain : Nat) (m : Master)
  /-- ANNOUNCE_TIMEOUT (R412): No Announce for 3 intervals removes the port as a candidate. -/
  | announceTimeout (t : Nat) (port : Nat)
  /-- PDELAY_REQ (R414): A neighbour's Pdelay_Req is answered with a one-step Pdelay_Resp. -/
  | pdelayReq (t : Nat) (port domain turnaround : Nat)
  /-- PDELAY_MEASUREMENT (R412): Each port sends Pdelay_Req every 1 s to measure its link. -/
  | pdelayMeasurement (t : Nat) (port delay : Nat)
  /-- SERVO_UPDATE (R415): An offset update moves the sync state and is slewed or stepped. -/
  | servoUpdate (t : Nat) (src : TimeSource) (offset : Int)
  /-- HOLDOVER_EXPIRY (R415): holdover_max elapses and the TSU enters FREERUN. -/
  | holdoverExpiry (t : Nat)
  /-- PPS_IN_EDGE (R421): A PPS_IN edge serves as a phase source or is discarded. -/
  | ppsInEdge (t : Nat)
  /-- VIN_LOSS (R37): A filtered fall below 33 V enters HOLD-UP. -/
  | vinLoss (t : Nat) (vin : Nat)
  /-- VIN_RETURN (R41): VIN held above 35 V for 2 ms returns HOLD-UP or RETENTION toward ACTIVE. -/
  | vinReturn (t : Nat) (vin : Nat)
  /-- HOLDUP_RAMP_STEP (R46): At 20 ms regulating strings ramp to zero and dispatch becomes unavailable. -/
  | holdupRampStep (t : Nat)
  /-- HOLDUP_SWAP_REQUEST (R48): At 5 ms the active unit with a healthy partner requests a role swap. -/
  | holdupSwapRequest (t : Nat)
  /-- HOLDUP_DISCONNECT_STEP (R46): At 80 ms every connected string is disconnected. -/
  | holdupDisconnectStep (t : Nat)
  /-- MRAM_WRITEBACK (R46): At 100 ms the durable state is written back to MRAM. -/
  | mramWriteback (t : Nat)
  /-- RETENTION_ENTRY (R46): At 120 ms fast domains stop and RETENTION is entered. -/
  | retentionEntry (t : Nat)
  /-- VBAK_CRITICAL (R47): VBAK below 9.5 V in HOLD-UP jumps to the disconnect step with gate-off first. -/
  | vbakCritical (t : Nat) (vbak : Nat)
  /-- VBAK_RETENTION_FLOOR (R41): VBAK below 8 V unpowers AON and the unit is OFF. -/
  | vbakRetentionFloor (t : Nat) (vbak : Nat)
  /-- E_AVAIL_UPDATE (R39): Every 1 ms E_avail is updated and deferred guarded writes retried. -/
  | eAvailUpdate (t : Nat) (vbak : Nat)
  /-- CAPACITANCE_MEASUREMENT (R39): The 40 ms test load measures C_meas and series resistance. -/
  | capacitanceMeasurement (t : Nat) (droop esr : Nat)
  /-- FLOAT_ENTRY (R41): The FLOAT conditions hold for the dwell and the unit enters FLOAT. -/
  | floatEntry (t : Nat)
  /-- DORMANT_ENTRY (R41): The DORMANT conditions hold for the dwell and the unit enters DORMANT. -/
  | dormantEntry (t : Nat)
  /-- FLOAT_EXIT (R41): A command, request, current or trip returns FLOAT to ACTIVE. -/
  | floatExit (t : Nat)
  /-- WAKE_EVENT (R45): A wake event returns DORMANT to ACTIVE. -/
  | wakeEvent (t : Nat) (w : WakeCause)
  /-- FLOAT_CLOCK_RAISE (R49): AON starts PLL-E and raises SYS 300 us before a scheduled trigger in FLOAT. -/
  | floatClockRaise (t : Nat) (instant : Nat)
  /-- CLOCK_FAILURE (R50): A clock checker window violation on two intervals fails the domain with its response. -/
  | clockFailure (t : Nat) (d : ClockDomain)
  /-- XREF_RETRY (R52): PMU retries XREF every 1 s and SUP restarts in SAFE-HOLD once it runs. -/
  | xrefRetry (t : Nat) (ok : Bool)
  /-- ON_REQUEST (R383): An on request with VIN valid starts POWERUP after the minimum off time. -/
  | onRequest (t : Nat) (src : OnSource)
  /-- MINIMUM_OFF_TIME_END (R383): The 2 s minimum off time ends and a held on request is served. -/
  | minimumOffTimeEnd (t : Nat)
  /-- POWERUP_STEP_DONE (R384): A module power-up step completes and the next begins, entering BOOT after step 6. -/
  | powerupStepDone (t : Nat) (failing : BitVec 8)
  /-- POWER_UP_FAILURE (R385): A step misses its limit and the completed steps are undone to OFF. -/
  | powerUpFailure (t : Nat)
  /-- BOOT_LISTEN_END (R324): After 2 s of listening the unit takes its role by start-up arbitration. -/
  | bootListenEnd (t : Nat)
  /-- IMAGE_BOOT_CHECK (R530): At BOOT the ROM checks the banks and starts an image or enters RECOVERY. -/
  | imageBootCheck (t : Nat)
  /-- RAIL_START (R391): In an ascending state the unit enables its rails after delay_on. -/
  | railStart (t : Nat) (r : Nat)
  /-- RAIL_GOOD (R387): A rail comes into window and becomes good. -/
  | railGood (t : Nat) (r : Nat)
  /-- START_FAILURE (R391): A rail not good within t_good acts as a system off request. -/
  | startFailure (t : Nat) (r : Nat)
  /-- RAIL_DISCHARGE (R392): In a descending state the unit releases a rail and waits for v_dis or t_dis. -/
  | railDischarge (t : Nat) (r : Nat) (below : Bool)
  /-- SYSTEM_POWER_UP_START (R395): A fall of the idle SEQ line begins state 0 ascending. -/
  | systemPowerUpStart (t : Nat)
  /-- STEP (R394): A step on the SEQ line ends the present state and begins the next. -/
  | seqStep (t : Nat)
  /-- REVERSE_MARKER (R394): A short high repeats the state descending and continues downward. -/
  | reverseMarker (t : Nat)
  /-- UP_BEACON (R394): An up participant sends a 4 us beacon every 1 ms. -/
  | upBeacon (t : Nat)
  /-- SYSTEM_POWER_DOWN_START (R397): A long low while up begins state top descending. -/
  | systemPowerDownStart (t : Nat)
  /-- SEQ_WATCH_END (R395): After 3 ms of watching the unit runs a local or system power-up. -/
  | seqWatchEnd (t : Nat) (seen : LineSeen)
  /-- STUCK_LINE (R396): A state held low beyond its limit runs a local power-down. -/
  | stuckLine (t : Nat)
  /-- SEQ_CIN_HIGH (R398): SEQ_CIN high starts a cascaded participant's work. -/
  | seqCinHigh (t : Nat)
  /-- PRE_OFF_STEPS (R400): Before descending, strings ramp to zero and the writeback follows. -/
  | preOffSteps (t : Nat)
  /-- PRE_OFF_DISCONNECT (R400): 60 ms after the off request the ramping strings are disconnected. -/
  | preOffDisconnect (t : Nat)
  /-- RUNNING_RAIL_FAULT (R403): A running rail leaving its window shuts off every sequenced output and the unit goes OFF. -/
  | runningRailFault (t : Nat) (r : Nat)
  /-- RAIL_FAULT_HOLD_END (R404): A fed-from-bus rail fault held 10 us becomes a running-rail fault if no VIN loss came. -/
  | railFaultHoldEnd (t : Nat) (r : Nat)
  /-- PB_N_PRESS (R407): A debounced PB_N release is judged as on, off or ignored. -/
  | pbNPress (t : Nat) (heldMs : Nat)
  /-- FORCED_OFF (R407): PB_N held 8 s forces the unit off. -/
  | forcedOff (t : Nat)
  /-- MR_N (R408): MR_N low for 1 ms resets the processors and engines. -/
  | mrN (t : Nat)
  /-- MR_N_RELEASE (R408): The release of MR_N enters or restarts BOOT. -/
  | mrNRelease (t : Nat)
  /-- SHUNT_SAMPLE (R58): A shunt sample is produced and added to the coulomb integrator. -/
  | shuntSample (t : Nat) (i : Nat) (code : Int)
  /-- INTEGRATOR_CHECKPOINT (R60): Every hour the integrator checkpoint is written to MRAM. -/
  | integratorCheckpoint (t : Nat)
  /-- CALIBRATION_STEP (R62): The calibrating modulator moves to its next calibration input at its scheduled time. -/
  | calibrationStep (t : Nat) (i : Nat) (avg : Rat)
  /-- CALIBRATION_SWAP (R64): At 60 s accepted coefficients swap the modulators at a sample boundary. -/
  | calibrationSwap (t : Nat) (i : Nat) (ov : Overlap)
  /-- OVERLAP_REPEAT (R65): A current change over 20 A repeats the overlap comparison for 10 s. -/
  | overlapRepeat (t : Nat) (i : Nat) (dI : Int)
  /-- VOLTAGE_SAMPLE (R68): A voltage channel publishes a corrected sample every 250 us. -/
  | voltageSample (t : Nat) (ch : Nat) (value : Int) (discarded beyond : Bool)
  /-- INSULATION_RESULT (R70): An R_iso result is published at the end of a half-period. -/
  | insulationResult (t : Nat) (rIso cE : Nat) (side : FaultSide)
  /-- INJECTION_HANDOVER (R72): The new active unit starts injecting after the old one stops. -/
  | injectionHandover (t : Nat)
  /-- FAST_TRIP (R74): A shunt threshold crossing gates off the string's PM outputs in hardware and latches. -/
  | fastTrip (t : Nat) (i : Nat) (charge : Bool)
  /-- HVI_PLAUSIBILITY_FAILURE (R80): A failed HVI plausibility check is a detected error. -/
  | hviPlausibilityFailure (t : Nat) (c : HviCheck) (i : Nat)
  /-- ROUND_TRIGGER (R102): The round trigger samples every cell and starts the READ sequence. -/
  | roundTrigger (t : Nat)
  /-- ROUND_READ (R102): A READ of kind 0x00 is sent to each position on the round grid. -/
  | roundRead (t : Nat) (i m : Nat)
  /-- ROUND_CLOSE (R105): At 2 ms the round closes, missing monitors are marked and data published. -/
  | roundClose (t : Nat)
  /-- BEACON (R95): The master sends a time beacon every 1 ms, or 10 ms in DORMANT. -/
  | beacon (t : Nat) (i : Nat)
  /-- BEACON_RETURN (R114): A returned beacon copy drives the alarm and unreachable lines. -/
  | beaconReturn (t : Nat) (i : Nat) (b : BeaconCopy)
  /-- SCHED (R101): A SCHED frame sets a new round schedule from its epoch. -/
  | sched (t : Nat) (i : Nat)
  /-- ENUM (R93): An ENUM frame assigns positions and gathers identities. -/
  | enumFrame (t : Nat) (i : Nat)
  /-- ENUM_RETURN (R93): The returned ENUM decides the outcome of enumeration. -/
  | enumReturn (t : Nat) (i : Nat) (e : EnumReturn)
  /-- DATA (R103): A DATA response returns a credit and delivers round data. -/
  | data (t : Nat) (i m seq : Nat) (kind : Nat) (d : RoundData)
  /-- ACK (R116): An ACK response returns a credit and reports the command result. -/
  | ack (t : Nat) (i m seq code result value : Nat)
  /-- FRAME_LOST (R106): No response 250 us after departure declares the frame lost. -/
  | frameLost (t : Nat) (i m seq : Nat)
  /-- TURNED_FRAME (R107): A turned addressed frame returns its credit and is resent from the other terminal. -/
  | turnedFrame (t : Nat) (i m seq : Nat)
  /-- DELAY (R97): A DELAY exchange measures a link's delay once per second. -/
  | delay (t : Nat) (i link delayNs : Nat)
  /-- PORT_DOWN (R87): No valid code group for 2 us declares a Fenline port down. -/
  | portDown (t : Nat) (i term : Nat)
  /-- PORT_UP (R87): 100 ms of error-free idle declares a Fenline port up. -/
  | portUp (t : Nat) (i term : Nat)
  /-- TWO_ENDED_OPERATION (R110): The master enters two-ended operation on a turned frame or lost beacons. -/
  | twoEndedOperation (t : Nat) (i : Nat)
  /-- TWO_ENDED_EXIT (R111): 100 closed beacons with all monitors end two-ended operation. -/
  | twoEndedExit (t : Nat) (i : Nat)
  /-- LINK_CRC_BURST (R112): 16 CRC errors in 1 s retire a link with LINK_DISABLE. -/
  | linkCrcBurst (t : Nat) (i pos port count : Nat)
  /-- UNADDRESSED_MONITOR (R94): An unaddressed flag in a beacon sends a fresh ENUM. -/
  | unaddressedMonitor (t : Nat) (i : Nat)
  /-- ALARM_DETAIL_READ (R115): A rising alarm bit sends an out-of-grid READ to the monitor. -/
  | alarmDetailRead (t : Nat) (i m : Nat)
  /-- BLEED_SET (R117): A monitor starts bleed on channels within its limits or refuses. -/
  | bleedSet (t : Nat) (i m : Nat) (own : Bool) (mask : BitVec 32) (floor duration : Nat)
  /-- BLEED_STOP (R116): A monitor stops bleed on the named channels. -/
  | bleedStop (t : Nat) (i m : Nat) (own : Bool) (mask : BitVec 32)
  /-- SHUTTLE_SET (R118): A monitor starts its charge shuttle on one channel or refuses. -/
  | shuttleSet (t : Nat) (i m : Nat) (own : Bool) (a : ShuttleArgs)
  /-- SHUTTLE_STOP (R116): A monitor stops its charge shuttle. -/
  | shuttleStop (t : Nat) (i m : Nat) (own : Bool)
  /-- THR_LOAD (R304): A monitor loads comparator thresholds and returns thr_crc. -/
  | thrLoad (t : Nat) (i m : Nat) (own : Bool) (thr : Thresholds)
  /-- LINK_DISABLE (R116): A node disables one of its ports. -/
  | linkDisable (t : Nat) (i m : Nat) (own : Bool) (port : Nat)
  /-- LINK_ENABLE (R116): A node re-enables one of its ports. -/
  | linkEnable (t : Nat) (i m : Nat) (own : Bool) (port : Nat)
  /-- THRESHOLD_RELOAD (R305): The FLC retries THR_LOAD each round period until thr_crc matches. -/
  | thresholdReload (t : Nat) (i : Nat)
  /-- LOADING_WINDOW_END (R305): 5 s after activation only the new thr_crc is accepted. -/
  | loadingWindowEnd (t : Nat)
  /-- BALANCE_READ (R119): At low round rates the FLC reads kind 0x02 at least every 500 ms. -/
  | balanceRead (t : Nat) (i : Nat)
  /-- CEE_PERIOD (R130): Each 100 ms CEE period runs its mandatory filter steps, books check and SOP. -/
  | ceePeriod (t : Nat)
  /-- DEADLINE_FAULT (R34): A schedule not regained in 8 periods is a deadline fault. -/
  | deadlineFault (t : Nat) (e : Engine)
  /-- STEP_RATE_CHANGE (R128): A string's step rate band changes on |I| and dwell. -/
  | stepRateChange (t : Nat) (i : Nat)
  /-- JOURNAL_WRITE (R148): A journal slot write starts once triggered and the hold-up check passes. -/
  | journalWrite (t : Nat) (reason : Nat)
  /-- JOURNAL_WRITE_DONE (R148): The header CRC is written and the slot becomes the newer valid one. -/
  | journalWriteDone (t : Nat)
  /-- REST_WINDOW_REQUEST (R142): The anchor age reaching its interval requests a rest window. -/
  | restWindowRequest (t : Nat) (i : Nat)
  /-- REST_WINDOW_GRANT (R214): SUP grants a rest window and shifts the string's share to its partner. -/
  | restWindowGrant (t : Nat) (i : Nat)
  /-- REST_WINDOW_END (R215): The counted rest reaches its duration and the weights are restored. -/
  | restWindowEnd (t : Nat) (i : Nat)
  /-- ANCHOR_OVERDUE (R143): Anchor age at twice the interval sets anchor overdue. -/
  | anchorOverdue (t : Nat) (i : Nat)
  /-- CORE_OFFSET_LEARNING (R175): A valid-but-for-offset core value moves the cell's learned offset. -/
  | coreOffsetLearning (t : Nat) (c : Nat)
  /-- TONE_WINDOW_END (R169): At a window end current phasors are completed and PHASOR sent. -/
  | toneWindowEnd (t : Nat) (ph : List StringPhasor)
  /-- IMPEDANCE_READ (R169): The TPE reads impedance result blocks from every monitor. -/
  | impedanceRead (t : Nat) (i m block : Nat) (b : ImpBlock)
  /-- IMPEDANCE_PUBLISH (R170): Impedance table entries are published and the ICU source raised. -/
  | impedancePublish (t : Nat)
  /-- BLOCK_MISSING (R169): At 5 s a block not received is published invalid. -/
  | blockMissing (t : Nat) (i m block : Nat)
  /-- PRECURSOR_DELIVERY (R186): Precursor indicators are computed and delivered to SP. -/
  | precursorDelivery (t : Nat)
  /-- PLAN_EFFECT (R163): A pending tone plan takes effect at a window boundary. -/
  | planEffect (t : Nat)
  /-- INJECTION_START (R161): Injection ramps up over 100 ms before a pair's first window. -/
  | injectionStart (t : Nat) (pair : Nat)
  /-- INJECTION_STOP (R162): Injection ramps down and the window in progress is aborted. -/
  | injectionStop (t : Nat) (pair : Nat)
  /-- WINDOW_START (R159): At a window start the pair's amplitudes are set or the pair skips the window. -/
  | windowStart (t : Nat)
  /-- PLAN (R165): A TONE PLAN frame is sent before the epoch and every 1 s. -/
  | tonePlan (t : Nat) (i : Nat)
  /-- PHASOR (R166): A monitor receives the PHASOR and forms Z within 10 ms. -/
  | phasor (t : Nat) (i m : Nat)
  /-- HALT (R165): A TONE HALT frame aborts the window at the monitors. -/
  | toneHalt (t : Nat) (i : Nat)
  /-- TI_SAMPLE (R177): Each thermal input is sampled every 100 ms. -/
  | tiSample (t : Nat) (n : Nat) (r : TiReading)
  /-- SENSOR_RECOVERY (R182): A sensor recovers after 60 s without the broken condition. -/
  | sensorRecovery (t : Nat) (n : Nat)
  /-- PLANNING_CYCLE (R192): Every 60 s the planner decides bleed and shuttle for each monitor. -/
  | planningCycle (t : Nat) (i : Nat)
  /-- BALANCING_STOP (R194): A stop condition sends BLEED_STOP and SHUTTLE_STOP to running monitors. -/
  | balancingStop (t : Nat) (i : Nat)
  /-- ALLOWANCE_CHANGE (R197): An allowance below the power in use stops transfers in ascending |d|. -/
  | allowanceChange (t : Nat)
  /-- ALLOCATION (R211): Every 10 ms SUP allocates the dispatch target among included strings. -/
  | allocation (t : Nat)
  /-- ARMING (R205): A queued request is allocated 2 ms before its instant and armed on a trigger. -/
  | arming (t : Nat)
  /-- SETPOINT_COMMIT (R274): Committed setpoint registers become visible at the commit instant. -/
  | setpointCommit (t : Nat)
  /-- REQUEST_EXPIRY (R206): An expired request ramps the target to 0. -/
  | requestExpiry (t : Nat)
  /-- SLOT_PERIOD (R272): A loop slot reads sources, computes its law and applies the output next period. -/
  | slotPeriod (t : Nat) (n cycles : Nat) (late : Bool)
  /-- BANK_SWAP (R269): A slot activates its inactive bank at the first period at or after the swap instant. -/
  | bankSwap (t : Nat) (n : Nat)
  /-- PROBE_COMPLETE (R278): A one-shot probe captures its post-trigger samples and enters COMPLETE. -/
  | probeComplete (t : Nat) (p : Nat)
  /-- PERIOD_BOUNDARY (R223): At a phase period boundary the duty is latched and the phase sample centred. -/
  | periodBoundary (t : Nat) (p : Nat) (code : Int)
  /-- PWM_READBACK_MISMATCH (R224): A PWM readback mismatch gates off the phase. -/
  | pwmReadbackMismatch (t : Nat) (p : Nat)
  /-- CYCLE_BY_CYCLE_LIMIT (R224): The fast path ends the active pulse when the current exceeds cbc_limit. -/
  | cycleByCycleLimit (t : Nat) (p : Nat) (acted : Bool)
  /-- PHASE_INPUT_IMPLAUSIBLE (R220): A phase input with no Manchester transition or full-scale codes is implausible. -/
  | phaseInputImplausible (t : Nat) (p : Nat)
  /-- BRAKING (R242): A phase overshooting its setpoint enters body-diode braking. -/
  | braking (t : Nat) (p : Nat)
  /-- BRAKING_END (R243): Braking ends on convergence, zero current or brake_max. -/
  | brakingEnd (t : Nat) (p : Nat)
  /-- PHASE_EVALUATION (R245): Every 100 us the residual and peer deviations of each phase are evaluated. -/
  | phaseEvaluation (t : Nat) (i : Nat)
  /-- ESTIMATE_MODE (R248): An implausible phase enters estimate mode at its next boundary. -/
  | estimateMode (t : Nat) (p : Nat)
  /-- ESTIMATE_MODE_END (R248): After 10 s the phase returns to its samples or is disabled. -/
  | estimateModeEnd (t : Nat) (p : Nat)
  /-- RE_INTERLEAVE (R251): Two periods after a disable the remaining phases take new offsets. -/
  | reInterleave (t : Nat) (i : Nat)
  /-- SLOT_SHIFT (R228): At the named instant carriers move toward their new slot by at most 1 % per period. -/
  | slotShift (t : Nat) (i : Nat)
  /-- SYNC_IN_LOSS (R226): Missing or irregular SYNC_IN edges put the carriers in holdover. -/
  | syncInLoss (t : Nat) (i : Nat)
  /-- SYNC_IN_RELOCK (R226): 16 good periods relock the carriers to SYNC_IN. -/
  | syncInRelock (t : Nat) (i : Nat)
  /-- GX2_POLL (R244): Every 100 us the KZV polls each GX-2's status. -/
  | gx2Poll (t : Nat) (i : Nat) (r : List Gx2Reply)
  /-- GDB_FLT (R244): GDBn_FLT_N falling gates off the string in hardware and starts fault handling. -/
  | gdbFlt (t : Nat) (i : Nat)
  /-- CONVERTER_PAUSE (R234): A pause cause gates off the string's converter without a state change. -/
  | converterPause (t : Nat) (i : Nat) (cause : PauseCause)
  /-- PAUSE_END (R234): The pause cause clears and the converter restarts. -/
  | pauseEnd (t : Nat) (i : Nat)
  /-- CONVERTER_START (R239): The converter starts with pre-biased duty and zero setpoint. -/
  | converterStart (t : Nat) (i : Nat)
  /-- SOFT_START_TIMEOUT (R240): VB not reaching v_set in time pauses the string with a doubling retry delay. -/
  | softStartTimeout (t : Nat) (i : Nat)
  /-- RAMP_COMPLETE (R241): |I| below i_pc_done after a stop ramp gates off the converter. -/
  | rampComplete (t : Nat) (i : Nat)
  /-- COOLING_WAIT_END (R235): The resistor model falls to 25 % and stage 2 begins. -/
  | coolingWaitEnd (t : Nat) (i : Nat) (fastTripTestPasses : Bool)
  /-- PRECHARGE_COMPLETE (R235): The completion criteria hold and the main contactor closes. -/
  | prechargeComplete (t : Nat) (i : Nat)
  /-- PRECHARGE_FAULT (R237): A resistor, timeout, current or voltage fault ends precharge in HALTED. -/
  | prechargeFault (t : Nat) (i : Nat)
  /-- CONNECTED_ENTRY (R235): The precharge path mirror confirms open and the string is CONNECTED. -/
  | connectedEntry (t : Nat) (i : Nat)
  /-- CLOSE_REQUEST (R283): A closure request goes to both channels, which write close if permitted. -/
  | closeRequest (t : Nat) (i : Nat)
  /-- CLOSE_REQUEST_TIMEOUT (R284): 100 ms after a close request disagreement halts, or no grant returns to ISOLATED. -/
  | closeRequestTimeout (t : Nat) (i : Nat)
  /-- CDB_CYCLE (R288): Every 500 us the CDB carries coil words and reads mirrors. -/
  | cdbCycle (t : Nat) (bus : Nat) (mirrors : List (BitVec 4)) (crcOk : Bool)
  /-- OPEN_SECOND_POLE (R289): Coil 1 opens when the first step confirms open or cont_open elapses. -/
  | openSecondPole (t : Nat) (i : Nat)
  /-- WELD (R291): A weld opens the other pole and asserts BKR_TRIP. -/
  | weld (t : Nat) (i coil : Nat)
  /-- BKR_TRIP_END (R291): The 500 ms BKR_TRIP pulse ends. -/
  | bkrTripEnd (t : Nat)
  /-- TRIP (R292): A safety function trips, setting the latch and gating off the string. -/
  | trip (t : Nat) (ch : Channel) (i : Nat) (sf : SafetyFn)
  /-- SAFETY_INPUT_SAMPLE (R301): Every 10 us both channels read the safety inputs and judge demands and faults. -/
  | safetyInputSample (t : Nat) (ch : Channel) (levels : BitVec 16)
  /-- TEST_PULSE (R300): Sloe pulls each enabled TP output low for 400 us every 50 ms. -/
  | testPulse (t : Nat) (n : Nat) (overload : Bool)
  /-- CROSS_LINK_PUBLISH (R285): Every 1 ms each channel publishes and compares common function states. -/
  | crossLinkPublish (t : Nat)
  /-- DISCREPANCY (R285): A lasting disagreement halts the string and self-tests the non-tripping channel. -/
  | discrepancy (t : Nat) (i : Nat) (sf : SafetyFn)
  /-- SILENT_PARTNER (R285): 10 ms without a cross-link message opens every connected string. -/
  | silentPartner (t : Nat)
  /-- SET_ACTIVATION (R310): Each channel activates the committed set at its first 10 ms boundary after 20 ms. -/
  | setActivation (t : Nat) (ch : Channel)
  /-- STAGED_SET_DISCARD (R308): A staged set not committed within 10 min is discarded. -/
  | stagedSetDiscard (t : Nat)
  /-- SAFE_PDU_RECEIVED (R315): A plant PDU copy is paired and checked for acceptance. -/
  | safePduReceived (t : Nat) (ch : Channel) (net : Nat) (pdu : List Byte)
  /-- COMM_WINDOW_EXPIRY (R315): A single copy at the end of comm_window is a loss. -/
  | commWindowExpiry (t : Nat) (ch : Channel) (net : Nat)
  /-- BLACK_CHANNEL_PDU (R318): A black-channel PDU from a KZV2 peer is checked and accepted. -/
  | blackChannelPdu (t : Nat) (ch : Channel) (net : Nat) (pdu : List Byte)
  /-- COMM_WATCHDOG_EXPIRY (R298): The SF-COMM watchdog reaches comm_wd. -/
  | commWatchdogExpiry (t : Nat) (ch : Channel)
  /-- NETWORK_DOWN (R316): A network without valid copies for 1 s is declared down. -/
  | networkDown (t : Nat) (ch : Channel) (net : Nat)
  /-- DEGRADE_EXPIRY (R316): The degrade_max total is spent and single copies are no longer accepted. -/
  | degradeExpiry (t : Nat) (ch : Channel)
  /-- HEARTBEAT_SEND (R327): A unit sends an XCL beat every 10 us. -/
  | heartbeatSend (t : Nat)
  /-- BEAT_RECEIVED (R329): A valid partner beat is received. -/
  | beatReceived (t : Nat) (beat : List Byte)
  /-- TAKEOVER (R333): The standby issues a new claim and continues the strings from its replica. -/
  | takeover (t : Nat)
  /-- CLAIM_FRAME (R325): An output stage follows a higher claim frame. -/
  | claimFrame (t : Nat) (st : Stage) (own : Bool) (claim : Nat)
  /-- DUTY_HOLD_EXPIRY (R334): A GX-2 duty hold runs out and is an input fault. -/
  | dutyHoldExpiry (t : Nat) (p : Nat)
  /-- COIL_HOLD_EXPIRY (R335): A CX-4 without valid words for 100 ms opens the coil. -/
  | coilHoldExpiry (t : Nat) (i : Nat)
  /-- YIELD (R330): The active unit sets the yield flag on a lower tier or lost SUP. -/
  | yield (t : Nat)
  /-- HIGHER_CLAIM_SEEN (R323): An active unit seeing a higher partner claim moves to RESYNC. -/
  | higherClaimSeen (t : Nat) (claim : Nat)
  /-- PEER_MESSAGE (R343): A PEER message is accepted in sequence or discarded. -/
  | peerMessage (t : Nat) (m : PeerMsg)
  /-- HEARTBEAT (R331): A PEER HEARTBEAT is sent every 1 ms. -/
  | heartbeat (t : Nat)
  /-- PEER_BEAT_LOSS (R331): With XCL unproven, 3 ms without a PEER beat starts a takeover. -/
  | peerBeatLoss (t : Nat)
  /-- PEER_DOWN (R345): PEER is down after 10 ms and RESYNC follows after 1 s. -/
  | peerDown (t : Nat)
  /-- PARTNER_ABSENT (R323): A partner not present for 1 s moves the unit to SOLO. -/
  | partnerAbsent (t : Nat)
  /-- DORMANT_PARTNER_TIMEOUT (R332): A dormant partner not back 1 s after wake is no longer present. -/
  | dormantPartnerTimeout (t : Nat)
  /-- STATE (R344): A STATE message is sent within 1 ms of a change and every 5 ms. -/
  | peerState (t : Nat)
  /-- SWAP (R338): A SWAP request is granted or refused and the roles change at t_s. -/
  | swap (t : Nat)
  /-- SWAP_VERIFY (R339): 20 ms after t_s the new active unit checks the outputs or reverts. -/
  | swapVerify (t : Nat) (cdbAck gateOk : Bool)
  /-- SCHEDULED_SWAP_DUE (R340): A due swap runs in the daily window or is retried every 10 min. -/
  | scheduledSwapDue (t : Nat)
  /-- SWAP_OVERDUE (R340): A swap not done within postpone_max is recorded overdue. -/
  | swapOverdue (t : Nat)
  /-- RESYNC_STEP (R346): A resync step completes and the next begins. -/
  | resyncStep (t : Nat)
  /-- RESYNC_TIMEOUT (R346): A resync not complete within 300 s restarts. -/
  | resyncTimeout (t : Nat)
  /-- SHADOW (R347): The standby compares a SHADOW message with its own values. -/
  | shadow (t : Nat) (v : ShadowValue)
  /-- PMBUS_POLL (R354): Every 100 ms AUX reads the rectifiers and trims their shares. -/
  | pmbusPoll (t : Nat) (r : List RectReading)
  /-- PMBUS_ALERT (R353): A falling alert reads STATUS_WORD of every device on the segment. -/
  | pmbusAlert (t : Nat) (segment : Nat) (words : List (Nat × BitVec 16))
  /-- RECTIFIER_REJOIN (R356): A rectifier good for 10 s rejoins sharing. -/
  | rectifierRejoin (t : Nat) (r : Nat)
  /-- AC_LOSS (R360): AC loss caps to the shelf, zeroes the draw allowance and sheds class 1. -/
  | acLoss (t : Nat)
  /-- AC_RETURN (R361): AC return restores the cap and manages shelf charging. -/
  | acReturn (t : Nat)
  /-- SHELF_LOW (R360): Remaining time at t_shelf_low sets fans to floor and sheds class 3. -/
  | shelfLow (t : Nat)
  /-- SHELF_CUT (R360): V_bus below v_shelf_cut sheds class 3. -/
  | shelfCut (t : Nat)
  /-- SHELF_FULL (R358): A shelf charging slowly for 1 h is set full. -/
  | shelfFull (t : Nat)
  /-- CAP_EVALUATION (R364): Every 100 ms AUX grants allowances and takes one shed step if over cap. -/
  | capEvaluation (t : Nat)
  /-- SHED_RESTORE (R365): A step is restored after 10 s within 90 % of cap. -/
  | shedRestore (t : Nat)
  /-- EFUSE_SAMPLE (R368): Every 50 us the EFC samples current and voltages and runs curve and models. -/
  | efuseSample (t : Nat) (n : Nat) (v : EfReading)
  /-- INSERTION_DELAY_END (R370): The insertion delay completes and the channel enters RAMP. -/
  | insertionDelayEnd (t : Nat) (n : Nat)
  /-- WINDOW_EXIT (R370): Bus voltage or presence leaves the window and the channel returns to QUALIFY. -/
  | windowExit (t : Nat) (n : Nat)
  /-- EFUSE_FAST_TRIP (R372): The sense comparator pulls the gate down within 1 us. -/
  | efuseFastTrip (t : Nat) (n : Nat)
  /-- SOFT_START_EXPIRY (R371): t_ss expires in RAMP and is a fault. -/
  | softStartExpiry (t : Nat) (n : Nat)
  /-- POWER_GOOD (R376): VGS and VDS held for 1 ms assert power-good and the channel enters ON. -/
  | powerGood (t : Nat) (n : Nat)
  /-- GATE_FAULT (R376): VGS low or VDS high in ON for 1 ms is a gate fault. -/
  | gateFault (t : Nat) (n : Nat)
  /-- EFUSE_FAULT (R377): A channel fault pulls the gate down and enters RETRY or LATCHED. -/
  | efuseFault (t : Nat) (n : Nat) (f : EfFault)
  /-- RETRY_TIMER_EXPIRY (R369): The retry timer expires and the channel goes to QUALIFY or OFF. -/
  | retryTimerExpiry (t : Nat) (n : Nat)
  /-- FAULT_COUNT_CLEAR (R377): 60 s continuously ON clears the fault count. -/
  | faultCountClear (t : Nat) (n : Nat)
  /-- DETECTED_ERROR (R494): A detected error suspends its unit and starts its self-test. -/
  | detectedError (t : Nat) (unit rule detail : Nat)
  /-- SELF_TEST_OUTCOME (R496): A targeted self-test passes, fails or runs out, resuming or retiring the unit. -/
  | selfTestOutcome (t : Nat) (unit outcome : Nat)
  /-- MEMORY_ERROR (R500): An ECC error is corrected or charged to its owning block. -/
  | memoryError (t : Nat) (mem : Memory) (word : Nat) (uncorrectable : Bool)
  /-- SCRUB_PASS (R502): A background scrub or verify pass completes or runs late. -/
  | scrubPass (t : Nat) (a : Background)
  /-- IMBALANCE (R36): A conserved quantity imbalanced beyond its window is a detected error. -/
  | imbalance (t : Nat) (row obj : Nat) (amount : Int)
  /-- RECORD_SUBMIT (R505): A block submits a Peat record, written, suppressed or dropped. -/
  | recordSubmit (t : Nat) (r : PeatIn)
  /-- DORMANT_RECORD_FLUSH (R505): Records buffered in DORMANT are written at wake. -/
  | dormantRecordFlush (t : Nat)
  /-- CHUNK_FLUSH (R518): Received-chunk bits are flushed to MRAM every 1 s. -/
  | chunkFlush (t : Nat)
  /-- PRE_ERASE_COMPLETE (R521): The target slot erase completes and the transfer becomes READY. -/
  | preEraseComplete (t : Nat)
  /-- SUP_HANDOVER_ADOPT (R523): The new SUP adopts the handover and clears HANDOVER. -/
  | supHandoverAdopt (t : Nat) (ok : Bool)
  /-- HANDOVER_WINDOW_EXCEEDED (R523): A handover over 2 s restarts SUP from fallback or RECOVERY. -/
  | handoverWindowExceeded (t : Nat)
  /-- SP_ACTIVATION_TIMEOUT (R524): SP not resumed within 300 ms applies the silent-partner rule and falls back. -/
  | spActivationTimeout (t : Nat)
  /-- TRIAL_CONFIRMATION (R526): The health criteria hold for the dwell and the image is confirmed. -/
  | trialConfirmation (t : Nat) (part : Nat)
  /-- TRIAL_WINDOW_EXPIRY (R527): An unconfirmed image at the end of its trial falls back. -/
  | trialWindowExpiry (t : Nat) (part : Nat)
  /-- FALLBACK (R527): An image on trial falls back to its fallback bank. -/
  | fallback (t : Nat) (part : Nat)
  /-- RECOVERY_ENTRY (R528): No runnable SUP or SP image remains and the unit enters RECOVERY. -/
  | recoveryEntry (t : Nat)
  /-- BEGIN (R532): A monitor receives an FW BEGIN and prepares its inactive flash. -/
  | fwBegin (t : Nat) (i m len : Nat)
  /-- FW_DATA (R532): A monitor writes FW DATA and acknowledges the next offset. -/
  | fwData (t : Nat) (i m offset : Nat) (bytes : List Byte)
  /-- END (R532): A monitor checks the image CRC at FW END. -/
  | fwEnd (t : Nat) (i m crc : Nat)
  /-- SWITCH (R533): A monitor restarts into its new image keeping its comparators. -/
  | fwSwitch (t : Nat) (i m : Nat) (startsOk : Bool)
  /-- MONITOR_RETURN_TIMEOUT (R533): A monitor not back within 400 ms stops the activation. -/
  | monitorReturnTimeout (t : Nat) (i m : Nat)
  /-- DRIVER_CONFIG_LOAD (R534): A GX-2 or CX-4 is loaded, read back and polled. -/
  | driverConfigLoad (t : Nat) (cx : Bool) (driver : Nat) (accepted : Bool)
  /-- BEACON_TIMEOUT (R98): A monitor that has received no valid unturned beacon for 50 ms becomes unsynchronised and clears the synchronised bit in its DATA. -/
  | beaconTimeout (t : Nat) (i m : Nat)
  /-- MONITOR_RESTART (R94): An SM-32 monitor restarts, loses its position, answers nothing and sets the unaddressed flag in every passing beacon. -/
  | monitorRestart (t : Nat) (i m : Nat)
  /-- HARDWARE_COMPARATOR_ALARM (R114): A monitor's hardware comparator crosses its threshold after mon_filt: the latched map bit is set, the alarm bit goes into passing beacons, and a shuttle on the channel stops. -/
  | hardwareComparatorAlarm (t : Nat) (i m : Nat) (k : Comparator) (ch : Nat)
  /-- BLEED_END (R117): A bleeding channel stops by itself when its voltage falls below the floor or its duration expires. -/
  | bleedEnd (t : Nat) (i m ch vMv : Nat)
  /-- SHUTTLE_END (R118): The charge shuttle stops by itself at its charge limit, duration or voltage stop. -/
  | shuttleEnd (t : Nat) (i m vMv : Nat)
  /-- BUS_OFF_RECOVERY (R472): A bus-off controller with ABO set recovers after 128 occurrences of 11 recessive bits. -/
  | busOffRecovery (t : Nat) (c : Nat)
  /-- SUP_RESTART (R50): The PMU's restart of a lost SUP completes, SUP runs again and the tiers are re-evaluated. -/
  | supRestart (t : Nat)
  /-- AUX_SAMPLE (R358): Every 1 ms AUX samples AUX_VSNS and the shelf shunt and counts the shelf's charge. -/
  | auxSample (t : Nat) (vsns : Nat) (shelfUv : Int) (acOk : Bool)
  deriving DecidableEq, Repr

end Sys2Proof
end

