-- ==== Sys2Proof/Decode.lean ====
section
/-! DEFINITION. Words of the command table. Every row of spec/opcode_table.json gives no bits: a command of this block
is an operand record at a port, a bus event or an instant, and no word spells one. -/

namespace Sys2Proof

/-- The command a word of `nbits` bits spells: none, since no row has bits. -/
def decodeTableWord (_nbits _w : Nat) : Option Instr := none

end Sys2Proof
end

