-- ==== Sys2Proof/Config.lean ====
section
/-! DEFINITION. Free values: what the manual leaves open, as constants with no body, and functions of keys that
lie in ROM or OTP, which the manual does not give. No statement may rest on a value of one. -/

namespace Sys2Proof.Config

/-- A value the manual does not fix, drawn fresh: applied to the counter `State.free` (log entry 3). -/
opaque freeNat : Nat → Nat

/-- As `freeNat`, signed. -/
opaque freeInt : Nat → Int

/-- As `freeNat`, real. -/
opaque freeRat : Nat → Rat

/-- The 64-bit unique device identity and the block versions in OTP and hardware (log entry 9). -/
opaque uniqueId : Nat
opaque blockVersion : Nat
opaque monitorVersion : Nat

/-- e to the power x, as the hardware computes it (log entry 8). -/
opaque expR : Rat → Rat

/-- The square root, as the hardware computes it (log entry 8). -/
opaque sqrtR : Rat → Rat

/-- The sine of x turns, as the hardware computes it (log entry 8). -/
opaque sinTurn : Rat → Rat

/-- arctan2 y x in degrees, as the hardware computes it (log entry 8). -/
opaque atan2R : Rat → Rat → Rat

/-- The binary32 value the CEE computes for component `k` of a step, where `x` is its exact value: the manual does not state
the order of the operations (05_cell_estimation.md R124; log entry 8). `n` is a fresh draw. -/
opaque f32 : Nat → Nat → Rat → Rat

/-- The value of a binary32 field whose exponent is all ones, by its bits (log entry 8). -/
opaque nonFinite : Nat → Rat

/-- Whether the measurement update of 05_cell_estimation.md R125 forms its sigma points anew from the time update's result;
the manual does not state it (log entry 8). -/
opaque redraws : Bool

/-- The current in A at which the bracket of the bisection of 05_cell_estimation.md R144 ends, for horizon and direction
(true: charge), and whether SOC is named as the reason where voltage and SOC both or neither stop the bisection; the manual
states neither (log entry 8). -/
opaque bisectTop : Nat → Bool → Rat
opaque socReason : Nat → Bool → Bool

/-- HMAC-SHA-256 of a message under a key, as bytes (15_host_interface.md R442; log entry 10). -/
opaque hmac : List Byte → List Byte → List Byte

/-- SHA-256 and SHA-384 of a message (19_update.md; log entry 10). -/
opaque sha256 : List Byte → List Byte
opaque sha384 : List Byte → List Byte

/-- Signature check of a digest under key set `k` (19_update.md; log entry 10). -/
opaque ecdsaOk : Nat → List Byte → List Byte → Bool
opaque mldsaOk : Nat → List Byte → List Byte → Bool

/-- The images that the part store holds as delivered, by part code (19_update.md R517; log entry 10). -/
opaque baseImage : Nat → List Byte

/-- Decryption of an image payload chunk with its tag check (19_update.md; log entry 10). -/
opaque gcmOpen : List Byte → Nat → List Byte → Option (List Byte)

end Sys2Proof.Config
end

