-- ==== Sys2Proof/Machine/State.lean ====
section
/-! DEFINITION. The state of the block: every piece of state the spec gives the machine, as plain data.
A field's default value is its value in `State.reset`; INVENTORY.md names the rule or the log entry of each.
Times: an instant `…T`, `…At`, `…Since` or `…End` is in elapsed nanoseconds (`State.clk`) unless its comment says TSU. -/

namespace Sys2Proof.Machine

/-- No command of this block stops it with a fault: the type has one constructor that no meaning answers, so that the
outcome type is inhabited (safe). -/
inductive Fault where
  /-- Raised by nothing; safe. -/
  | none
  deriving DecidableEq, Repr

/-- Why a command has no meaning. -/
inductive Refusal where
  /-- Raised by an arm of `exec` that is not written yet; safe: the run stops. -/
  | notModelled (mnemonic : String)
  deriving DecidableEq, Repr

/-- What every meaning answers. -/
abbrev Out (σ : Type) := Host.Outcome σ Fault Refusal

/-- A record, payload or buffer as the bytes the manual lays out (00_scope.md R10). -/
abbrev Bytes := List Byte

/-! ## Enumerations -/

/-- The two variants (00_scope.md R2). -/
inductive Variant where
  | kzv4096 | kzv1024
  deriving DecidableEq, Repr

/-- Unit states and roles (01_system.md R21, R22). -/
inductive UnitState where
  | off | powerup | boot | recovery | safeHold | resync | standby | active | solo
  deriving DecidableEq, Repr

/-- Per-string states in the order of HPR_UNIT's code (01_system.md R25, 15_host_interface.md R432). -/
inductive StrState where
  | isolated | precharge | connected | regulating | halted | retired
  deriving DecidableEq, Repr

/-- Service tiers in the order of *XCL beat* (01_system.md R28, 11_redundancy.md R327). -/
inductive Tier where
  | safe | p | m | f
  deriving DecidableEq, Repr

/-- Power states (02_power_states_clocks.md R41). -/
inductive PowerState where
  | active | float | dormant | holdup | retention | unpowered
  deriving DecidableEq, Repr

/-- Insulation monitor modes (03_string_measurement.md R71). -/
inductive IsoMode where
  | inject | off | test
  deriving DecidableEq, Repr

/-- Step rate bands in the order of the cell table's rate field (05_cell_estimation.md R128, R150). -/
inductive Band where
  | high | mid | low | rest
  deriving DecidableEq, Repr

/-- Sync states in the order of TSU_STATUS.SYNC (14_time.md R415). -/
inductive Sync where
  | freerun | locking | locked | holdover
  deriving DecidableEq, Repr

/-- E-fuse channel states (12_rack_power.md R369). -/
inductive EfState where
  | off | qualify | ramp | on | retry | latched
  deriving DecidableEq, Repr

/-- Update transfer states in the order of their code (19_update.md R518). -/
inductive XferState where
  | empty | receiving | complete | verified | ready | activating
  deriving DecidableEq, Repr

/-! ## Host interface (15_host_interface.md) -/

/-- The outcome of a completed command, as the slot, the result cache and the transport carry it (R433, R449). -/
structure Done where
  port : Port
  slot : Option Nat
  seq : Nat
  opcode : Nat
  status : Nat
  detail : Nat
  payload : Bytes
  /-- when it completed -/
  at_ : Nat
  deriving DecidableEq, Repr

/-- A command that has been taken and has not completed (R434, R436). -/
structure Exec where
  req : Req
  opcode : Nat
  /-- retries of it that wait for its result (R449) -/
  followers : List Req := []
  deriving DecidableEq, Repr

/-- A window descriptor (R439); `kind` 0 unallocated, 1 buffer, 2 live. -/
structure Desc where
  own : Bool := false
  kind : Nat := 0
  requester : Nat := 0
  gen : Nat := 0
  offset : Nat := 0
  size : Nat := 0
  used : Nat := 0
  opcode : Nat := 0
  seq : Nat := 0
  deriving DecidableEq, Repr

/-- Count of CMD_REJECTED suppressed for a port and opcode, and when one was last written (R448). -/
structure RejCount where
  port : Port
  opcode : Nat
  lastT : Nat
  carried : Nat
  deriving DecidableEq, Repr

/-- A management client (16_ethernet_can.md R464), with its transport sequences (R443). -/
structure Client where
  configured : Bool := false
  enabled : Bool := false
  ports : Nat := 0
  source : Nat := 0
  key : Bytes := []
  rxSeq : Nat := 0
  txSeq : Nat := 0
  deriving DecidableEq, Repr

/-- A management REQUEST that waits for a slot (R444). -/
structure MgmtWait where
  client : Nat
  net : Nat
  body : Bytes
  since : Nat
  deriving DecidableEq, Repr

/-- A management frame the device has sent: network port, client and bytes (R442). -/
structure MgmtTx where
  net : Nat
  client : Nat
  type : Nat
  body : Bytes
  deriving DecidableEq, Repr

/-- HPR registers, slots, window and result caches. Reset values: *HPR register map* (R432). -/
structure Hpr where
  hb : Nat := 0
  own : BitVec 16 := 0
  done : BitVec 16 := 0
  irqEn : BitVec 18 := 0x1FFFF
  err : BitVec 5 := 0
  slotPort : BitVec 32 := 0xA5500000
  scratch : BitVec 32 := 0
  ready : Bool := false
  rom : Bool := false
  handover : Bool := false
  /-- the HPR_UNIT word as it last stood, for the change source -/
  lastUnit : Nat := 0xFFFFFF00
  /-- posted slots in the order they will be taken (R434) -/
  order : List Nat := []
  exec : List Exec := []
  desc : List Desc := List.replicate 256 {}
  cache : List Done := []
  rejects : List RejCount := []
  lastDone : Option Done := none
  /-- data of the newest READ and STATUS transactions -/
  readData : Bytes := []
  statusByte : Nat := 0
  epoch : Nat := 0
  clients : List Client := List.replicate 9 {}
  waiting : List MgmtWait := []
  mgmtTx : List MgmtTx := []
  mgmtDiscards : Nat := 0
  /-- client and network of the request each MGMT slot carries -/
  mgmtSlot : List (Nat × Nat × Nat) := []
  deriving DecidableEq, Repr

/-! ## Strings (01_system.md) -/

structure Str where
  state : StrState := .isolated
  /-- the command whose transition is in progress (R25) -/
  trans : Option Exec := none
  /-- the tier last evaluated (R28) -/
  tier : Tier := .safe
  /-- in the included set of the newest allocation (R27; 07_balancing_dispatch.md R209) -/
  included : Bool := false
  /-- when it last moved, or began to, other than by a command or trip (19_update.md R526) -/
  strayT : Option Nat := none
  deriving DecidableEq, Repr

/-! ## Power (02_power_states_clocks.md) -/

structure Power where
  state : PowerState := .unpowered
  /-- the power state HOLD-UP was entered from (R46) -/
  prev : PowerState := .active
  vin : Nat := 0
  vinValid : Bool := false
  vbak : Nat := 0
  chargerOn : Bool := false
  /-- charger target in half volts (R39) -/
  target : Nat := 28
  /-- minimum end-of-life capacitance, mF, and measured capacitance, µF (R39) -/
  cmin : Nat := 0
  cmeas : Option Nat := none
  esr : Nat := 0
  cmeasT : Nat := 0
  /-- usable energy in µJ (R39) -/
  eAvail : Nat := 0
  vbakLow : Bool := false
  floatEn : Bool := false
  dormantEn : Bool := false
  floatDwell : Nat := 10
  dormantDwell : Nat := 60
  /-- when the last command was taken, and when DORMANT was entered -/
  lastCmdT : Nat := 0
  dormantT : Nat := 0
  rtcAlarm : Option Nat := none
  rtcDegraded : Bool := false
  /-- hold-up sequence: t0 and the last step done: 0 grace, 1 ramp, 2 disconnect, 3 writeback (R46) -/
  holdT0 : Nat := 0
  holdStep : Nat := 0
  /-- the swap of R48 replaces the ramp and disconnect steps while it is pending or done -/
  holdSwap : Bool := false
  returnPending : Bool := false
  /-- guarded writes waiting for R40 -/
  deferred : List Nat := []
  failedClocks : List ClockDomain := []
  xrefFailed : Bool := false
  plgOnSloe : Bool := false
  supLost : Bool := false
  supRestarting : Bool := false
  /-- SYS raised and PLL-E running in FLOAT (R49) -/
  floatRaised : Bool := false
  dispatchUnavailable : Bool := false
  minOffEnd : Nat := 0
  /-- what the closing record of the log holds -/
  bootCause : Nat := 0
  aonFault : Nat := 0
  deriving DecidableEq, Repr

/-! ## HV island (03_string_measurement.md) -/

/-- One shunt modulator: latest accepted coefficients (R55), the outcome of each check of R63, and when. -/
structure Modulator where
  offset : Rat := 0
  gain : Rat := 1
  checks : List Bool := []
  acceptedT : Nat := 0
  rejects : List Nat := []
  deriving DecidableEq, Repr

/-- The aligned current sample and what is published with it (R77). `time` is TSU. -/
structure Aligned where
  time : Nat := 0
  frac : Nat := 0
  current : Int := 0
  v : Int := 0
  vb : Int := 0
  seq : Nat := 0
  acc : Int := 0
  accIn : Nat := 0
  accOut : Nat := 0
  laterTime : Nat := 0
  deriving DecidableEq, Repr

structure HviStr where
  /-- nΩ and µΩ (R55, R80) -/
  rCfg : Nat := 100000
  rPath : Nat := 0
  /-- 0: SD(2s) measures, 1: SD(2s+1) (R54) -/
  measuring : Nat := 0
  mod0 : Modulator := {}
  mod1 : Modulator := {}
  /-- calibration cycle (R62): origin, next step and averages of the calibrating modulator -/
  calT0 : Nat := 0
  calStep : Nat := 0
  z1 : Rat := 0
  cPlus : Rat := 0
  cMinus : Rat := 0
  z2 : Rat := 0
  /-- the overlap repeats until this instant (R65) -/
  overlapEnd : Option Nat := none
  single : Bool := false
  overCount : Nat := 0
  overrange : Bool := false
  uncertain : Bool := false
  discontinuity : Bool := false
  /-- net accumulator and throughput counters with their remainders, units of 0.1 pC (R58, R59) -/
  acc : Int := 0
  accIn : Nat := 0
  accOut : Nat := 0
  /-- newest and previous shunt sample, µA, with the centre instants they represent (R54) -/
  cur : Int := 0
  curT : Nat := 0
  prevCur : Int := 0
  prevT : Nat := 0
  sampled : Bool := false
  vs : Int := 0
  vsT : Nat := 0
  vOver : Bool := false
  /-- times of discards of the last 1 s (R68) -/
  discards : List Nat := []
  suspensions : Nat := 0
  tripLatched : Bool := false
  tripCount : Nat := 0
  chargeCrossed : Bool := false
  dischargeCrossed : Bool := false
  testFailed : Bool := false
  aligned : Aligned := {}
  /-- a round trigger whose aligned sample waits for the shunt sample after it (R77) -/
  alignAt : Option Nat := none
  /-- aligned currents of the last second, newest first (R128) -/
  recent : List (Nat × Int) := []
  /-- sum and number of aligned currents since the tone window's start (06_impedance_thermal.md R174) -/
  winSum : Int := 0
  winN : Nat := 0
  deriving DecidableEq, Repr

/-- One insulation result (R70, R82). -/
structure IsoResult where
  rIso : Nat
  cE : Nat
  side : FaultSide
  belowRange : Bool
  at_ : Nat
  deriving DecidableEq, Repr

structure Iso where
  mode : IsoMode := .inject
  threshold : Nat := 400000
  injecting : Bool := false
  startT : Nat := 0
  /-- a new active unit waits for the old one to stop (R72) -/
  handoverWait : Bool := false
  handover : Bool := false
  result : Option IsoResult := none
  lows : Nat := 0
  highs : Nat := 0
  warning : Bool := false
  partnerOff : Bool := false
  deriving DecidableEq, Repr

/-- One entry of the integrator checkpoint (R60). -/
structure CheckEntry where
  time : Nat := 0
  acc : Int := 0
  accIn : Nat := 0
  accOut : Nat := 0
  uncertain : Bool := false
  deriving DecidableEq, Repr

/-- A slot of a two-slot MRAM record (05_cell_estimation.md R147, R148). -/
structure Slot2 (α : Type) where
  valid : Bool
  seq : Nat
  body : α
  deriving DecidableEq, Repr

structure Hvi where
  vb : Int := 0
  vbT : Nat := 0
  vbDiscards : List Nat := []
  isoDiscards : List Nat := []
  iso : Iso := {}
  check0 : Slot2 (List CheckEntry) := ⟨true, 1, []⟩
  check1 : Slot2 (List CheckEntry) := ⟨false, 0, []⟩
  checkT : Nat := 0
  deriving DecidableEq, Repr

/-! ## Rings (04_fenline_rings.md) -/

/-- A frame that holds a credit (R106). -/
structure Outstanding where
  m : Nat
  seq : Nat
  /-- frame type 0x4 READ, 0x6 CMD or 0xA FW; kind or code in `arg` -/
  type : Nat
  arg : Nat
  departed : Nat
  resent : Bool
  deriving DecidableEq, Repr

/-- A shuttle in progress in a monitor (R118). -/
structure Shuttle where
  args : ShuttleArgs
  startT : Nat
  q0 : BitVec 32
  deriving DecidableEq, Repr

/-- One bleeding channel of a monitor (R117). -/
structure BleedCh where
  ch : Nat
  floor : Nat
  endT : Nat
  deriving DecidableEq, Repr

/-- Firmware download state of a monitor (19_update.md R532, R533). -/
structure MonFw where
  len : Nat := 0
  next : Nat := 0
  bytes : Bytes := []
  checked : Bool := false
  /-- the new image failed its own start and the previous one runs -/
  failed : Bool := false
  switchedT : Option Nat := none
  deriving DecidableEq, Repr

/-- One SM-32 monitor as the ring sees it. -/
structure Monitor where
  identity : Nat := 0
  /-- the position it holds (R92) -/
  position : Option Nat := none
  /-- it follows this unit (R99) -/
  followsUs : Bool := true
  followClaim : Nat := 0
  synced : Bool := false
  lastBeaconT : Nat := 0
  /-- comparators active and maps latched since last read (R103, R114) -/
  ovActive : BitVec 32 := 0
  uvActive : BitVec 32 := 0
  openActive : BitVec 32 := 0
  otActive : BitVec 8 := 0
  selfActive : Bool := false
  ovMap : BitVec 32 := 0
  uvMap : BitVec 32 := 0
  openMap : BitVec 32 := 0
  otMap : BitVec 8 := 0
  alarmLatched : Bool := false
  bleed : List BleedCh := []
  shuttle : Option Shuttle := none
  restarted : Bool := false
  dieLimit : Bool := false
  thr : Option Thresholds := none
  port0Off : Bool := false
  port1Off : Bool := false
  /-- the last ACK it gave: code, result, value (R116) -/
  ack : Option (Nat × Nat × Nat) := none
  fw : MonFw := {}
  /-- what this unit's FLC has of it: latest DATA, the reading before, when sampled, missing rounds in a row -/
  round : Option RoundData := none
  prevRead : Option RoundData := none
  roundT : Nat := 0
  missing : Nat := 0
  missingSince : Option Nat := none
  got : Bool := false
  /-- alarm line and unreachable line to Sloe and SP (R111, R114) -/
  alarmLine : Bool := false
  alarmBeacons : Nat := 0
  unreachable : Bool := false
  absent : Nat := 0
  credits : Nat := 4
  seq : Nat := 0
  /-- since when its thr_crc has matched neither accepted set (10_safety.md R294) -/
  badCrcSince : Option Nat := none
  idMatch : Bool := true
  /-- a TONE PLAN it holds, and the window whose PHASOR it has (06_impedance_thermal.md R165) -/
  plan : Bool := false
  phasorWindow : Option Nat := none
  /-- the shuttle current last commanded, mA, negative out of the cell (07_balancing_dispatch.md R202) -/
  cmdCur : Int := 0
  /-- a kind 0x02 reading has arrived since the last command sent to it (07_balancing_dispatch.md R193) -/
  fresh2 : Bool := false
  deriving DecidableEq, Repr

structure Ring where
  declared : Bool := false
  headEnd2 : Bool := false
  n : Nat := 16
  ids : List Nat := []
  served : Bool := false
  /-- the identity mismatch or count failure of the last enumeration (R93) -/
  enumFailed : Bool := false
  enumPending : Bool := false
  enumAccept : Bool := false
  /-- an ENUM is on the ring, and the one of an STR_ENUMERATE or STR_SET_RING -/
  enumSent : Bool := false
  enumReq : Option Exec := none
  mons : List Monitor := List.replicate 16 {}
  twoEnded : Bool := false
  breakAt : Option (Nat × Nat) := none
  closedCount : Nat := 0
  lostBeacons : Nat := 0
  headUp : Bool := true
  tailUp : Bool := true
  headMap : BitVec 16 := 0
  tailMap : BitVec 16 := 0
  lastBeaconT : Nat := 0
  schedId : Nat := 0
  epoch : Nat := 0
  period : Nat := 10000
  newEpoch : Option (Nat × Nat) := none
  round : Nat := 0
  roundOpen : Bool := false
  roundT0 : Nat := 0
  outstanding : List Outstanding := []
  /-- links retired or disabled, as position × 2 + port (R112) -/
  linksOff : List Nat := []
  linkErrors : List (Nat × Nat) := []
  linkDelay : List (Nat × Nat) := []
  lost : Nat := 0
  late : Nat := 0
  foreign : Nat := 0
  refusedCmds : Nat := 0
  missedTwice : Bool := false
  /-- monitors still waiting for THR_LOAD (10_safety.md R305) -/
  thrTodo : List Nat := []
  publishT : Nat := 0
  deriving DecidableEq, Repr

structure Rings where
  ring : List Ring := List.replicate 8 {}
  rate : Nat := 100
  floatRate : Nat := 10
  deriving DecidableEq, Repr

/-! ## Cell estimation (05_cell_estimation.md) -/

/-- What the journal holds of a cell (R146). -/
structure JEntry where
  capacity : Nat := 0
  capSigma : Nat := 0
  soc : Nat := 0
  hyst : Int := 0
  growth : Nat := 10000
  rOhm : Nat := 0
  efc : Nat := 0
  tMean : Int := 0
  modelId : Nat := 0
  learned : Bool := false
  present : Bool := false
  /-- TSU instant of the journal's first write for the cell (R134) -/
  firstT : Nat := 0
  deriving DecidableEq, Repr

/-- A cell: filter state x and upper triangle of P (R122, R124), accounts and flags (R138, R150), core temperature and
precursor inputs (06_impedance_thermal.md R173 to R175, R186). Reals are exact rationals (DESIGN CHOICE, log entry 8). -/
structure Cell where
  started : Bool := false
  soc : Rat := 0
  vp1 : Rat := 0
  vp2 : Rat := 0
  h : Rat := 0
  q : Rat := 0
  p : List Rat := []
  /-- P at start-up (R126) -/
  p0 : List Rat := []
  rOhm : Rat := 0
  g : Rat := 1
  /-- the impedance result last used for R_ohm: elapsed instant and TSU instant -/
  rOhmT : Nat := 0
  rOhmAt : Nat := 0
  rFromTable : Bool := true
  qcc : Int := 0
  qbal : Int := 0
  /-- Δq_bal booked since the last step, nC -/
  dBal : Int := 0
  rejects : Nat := 0
  rejected : Bool := false
  diverged : Bool := false
  divergences : List Nat := []
  resetT : Nat := 0
  extrapolated : Bool := false
  unlearned : Bool := true
  unsynced : Bool := false
  predOnly : Bool := false
  anchored : Bool := false
  /-- charge since the last sign change of Δq, nC (R141) -/
  run : Int := 0
  stale : Bool := false
  stepT : Nat := 0
  steps : Nat := 0
  gen : Nat := 0
  innov : Rat := 0
  nis : Rat := 0
  v : Nat := 0
  iMa : Int := 0
  t : Int := 2500
  tSurface : Int := 2500
  journal : JEntry := {}
  /-- EFC and T_mean adopted from the partner's journal write, for the next write (R137) -/
  adopted : Option (Nat × Int) := none
  anomalyT : Nat := 0
  sop : List Nat := []
  core : Option Int := none
  coreT : Nat := 0
  /-- the newest valid-but-for-offset core value without offset, until learning has used it (06 R175) -/
  coreRaw : Option Rat := none
  offset : Rat := 0
  offLearned : Bool := false
  offTime : Nat := 0
  /-- valid results of the last hour (R186): window end, |Z| and θ at t_tone; window end, Re Z at the highest tone -/
  history : List (Nat × Rat × Rat) := []
  ohmHistory : List (Nat × Rat) := []
  coreHist : List (Nat × Int) := []
  /-- indicators of R186, none = invalid: dT_core, dT_surf, dT_cs, s_mag, s_phase, s_ohm -/
  prec : List (Option Int) := []
  /-- windows in a row on which the combination of 10_safety.md R299 held -/
  runHits : Nat := 0
  deriving DecidableEq, Repr

/-- One state-of-power horizon (R144): mA, mA, W, W, cells and reasons. -/
structure Sop where
  iChg : Nat := 0
  iDis : Nat := 0
  pChg : Nat := 0
  pDis : Nat := 0
  cellChg : Nat := 0
  cellDis : Nat := 0
  reasonChg : Nat := 4
  reasonDis : Nat := 4
  deriving DecidableEq, Repr

/-- A rest window in progress (07_balancing_dispatch.md R215). -/
structure Rest where
  t0 : Nat
  /-- setpoint, W, and weight of the string at the grant -/
  p0 : Int
  w : Rat
  counted : Option Nat := none
  limitedSince : Option Nat := none
  deriving DecidableEq, Repr

structure Est where
  /-- *Estimator configuration* (R152) as its bytes -/
  cfg : Bytes := []
  band : Band := .low
  lowSince : Option Nat := none
  /-- TSU instant and integrator of the last step -/
  lastStep : Nat := 0
  lastAcc : Int := 0
  /-- round index from which the rate counts, and the round of the last step (R129) -/
  rateRound : Nat := 0
  stepRound : Option Nat := none
  sop0 : Sop := {}
  sop1 : Sop := {}
  sop2 : Sop := {}
  sopT : Nat := 0
  sopStale : Bool := true
  anchorT : Nat := 0
  restSince : Option Nat := none
  overdue : Bool := false
  restRequested : Bool := false
  requestT : Nat := 0
  rest : Option Rest := none
  /-- when a window ended whose string ramps up again (07_balancing_dispatch.md R215) -/
  restEnd : Option Nat := none
  /-- since when |I| stays below 0.05 C (06 R175) -/
  quietSince : Option Nat := none
  bookFailures : Nat := 0
  bookChecks : Nat := 0
  deriving DecidableEq, Repr

structure Journal where
  slot0 : Slot2 (List (Nat × JEntry)) := ⟨false, 0, []⟩
  slot1 : Slot2 (List (Nat × JEntry)) := ⟨false, 0, []⟩
  time0 : Nat := 0
  time1 : Nat := 0
  writing : Option Nat := none
  again : Option Nat := none
  lastT : Nat := 0
  changeT : Nat := 0
  deriving DecidableEq, Repr

structure Cee where
  cells : List (Nat × Cell) := []
  est : List Est := List.replicate 8 {}
  /-- model tables and core temperature tables of slots 0 to 3, as their bytes -/
  model : List Bytes := List.replicate 4 []
  core : List Bytes := List.replicate 4 []
  journal : Journal := {}
  /-- offsets kept in MRAM at the newest journal write (06 R175) -/
  offsets : List (Nat × Rat) := []
  periodIdx : Nat := 0
  late : Nat := 0
  catchUp : Nat := 0
  deadlines : Nat := 0
  load : Nat := 0
  diverged : Nat := 0
  deriving DecidableEq, Repr

/-! ## Tone probe and thermal inputs (06_impedance_thermal.md) -/

/-- Envelope of a pair's injection (R161, R162). -/
inductive Envelope where
  | off | rising (start : Nat) | on | falling (start : Nat)
  deriving DecidableEq, Repr

structure Pair where
  env : Envelope := .off
  /-- amplitude scale of the lower and the higher string, as a fraction of the plan's -/
  scaleLo : Rat := 0
  scaleHi : Rat := 0
  mismatch : Bool := false
  noHeadroom : Bool := false
  rateConflict : Bool := false
  notRegulating : Bool := true
  restWindow : Bool := false
  aborted : Bool := false
  deriving DecidableEq, Repr

/-- One tone of an impedance table entry (R170). -/
structure ToneZ where
  re : Int := 0
  im : Int := 0
  quality : Nat := 0
  zflags : BitVec 8 := 0
  deriving DecidableEq, Repr

structure ImpCell where
  gen : Nat := 0
  aborted : Bool := false
  disturbed : Bool := false
  unsynced : Bool := false
  missing : Bool := false
  planId : Nat := 0
  time : Nat := 0
  window : Nat := 0
  tones : List ToneZ := []
  deriving DecidableEq, Repr

/-- What is kept of the window whose results are collected: its index and plan, the strings whose window was aborted, each
string's tone amplitudes in A and its mean aligned current in µA. -/
structure WinRes where
  idx : Nat := 0
  plan : Bytes := []
  aborted : List Nat := []
  amps : List (Nat × List Rat) := []
  means : List (Nat × Int) := []
  deriving DecidableEq, Repr

structure Tpe where
  plan : Option Bytes := none
  pending : Option Bytes := none
  windowIdx : Nat := 0
  windowT : Nat := 0
  pairs : List Pair := List.replicate 4 {}
  phasors : List StringPhasor := []
  disturbed : List Nat := []
  /-- the window whose results are collected; its blocks by ring, monitor and block, not yet published; blocks read again,
  and blocks done with -/
  res : WinRes := {}
  blocks : List ((Nat × Nat × Nat) × ImpBlock) := []
  retried : List (Nat × Nat × Nat) := []
  done : List (Nat × Nat × Nat) := []
  collecting : Bool := false
  endT : Nat := 0
  imp : List (Nat × ImpCell) := []
  windows : Nat := 0
  abortedWindows : Nat := 0
  disturbedWindows : Nat := 0
  missingBlocks : Nat := 0
  startAt : Option Nat := none
  deriving DecidableEq, Repr

/-- A level with its counters in ns (R183). `region`: 0 beyond, 1 band, 2 clear; none before the first sample. -/
structure Level where
  asserted : Bool := false
  assertNs : Nat := 0
  clearNs : Nat := 0
  region : Option Nat := none
  lastT : Nat := 0
  deriving DecidableEq, Repr

/-- High, low and rate-of-rise level of one source. -/
structure Levels where
  high : Level := {}
  low : Level := {}
  rate : Level := {}
  deriving DecidableEq, Repr

structure Ti where
  /-- *TI configuration* as its bytes -/
  cfg : Bytes := []
  value : Int := 0
  good : Option Int := none
  suspect : Bool := false
  broken : Bool := false
  bad : Nat := 0
  badT : Nat := 0
  sampleT : Nat := 0
  samples : List (Nat × Int) := []
  /-- warning levels; SF-OT levels of each channel by string; e-fuse level (R183, R295, R375) -/
  warn : Levels := {}
  sp : List (Nat × Levels) := []
  sloe : List (Nat × Levels) := []
  ef : Level := {}
  deriving DecidableEq, Repr

/-- Levels of one SM-32 sensor: ring × 128 + monitor × 8 + sensor. -/
structure Sensor where
  samples : List (Nat × Int) := []
  broken : Bool := false
  okSince : Nat := 0
  value : Int := 0
  warn : Levels := {}
  sp : Levels := {}
  sloe : Levels := {}
  deriving DecidableEq, Repr

structure Thermal where
  ti : List Ti := List.replicate 24 {}
  sensors : List (Nat × Sensor) := []
  /-- the 21 thresholds of R185, row × 3 + (high, low, rate); −32768 disables -/
  warn : List Int := [5000, 0, 200, 5500, -32768, 200, 800, -32768, -32768, 9000, -3000, -32768,
    4500, -3000, -32768, 6000, -3000, -32768, 5500, -3000, -32768]
  /-- group levels asserted, same index -/
  warnOn : List Bool := List.replicate 21 false
  /-- levels of core temperatures: per cell, warning high, rate, core minus surface, SP ot_core and ot_core_rate -/
  core : List (Nat × List Level) := []
  deriving DecidableEq, Repr

/-! ## Balancing and dispatch (07_balancing_dispatch.md) -/

/-- The ledger of one string (R203), nC and mJ. -/
structure Ledger where
  time : Nat := 0
  drawn : Nat := 0
  returned : Nat := 0
  intoCells : Nat := 0
  outOfCells : Nat := 0
  bled : Nat := 0
  loss : Int := 0
  unattributed : Int := 0
  eDrawn : Nat := 0
  eReturned : Nat := 0
  estimates : Nat := 0
  estimated : Bool := false
  unattr : Bool := false
  identityFailed : Bool := false
  deriving DecidableEq, Repr

/-- A transfer the planner has in force on a monitor. `dev` is |d| in nC. -/
structure Transfer where
  m : Nat
  ch : Nat
  outOfCell : Bool
  current : Nat
  power : Nat
  dev : Nat
  deriving DecidableEq, Repr

structure Bal where
  /-- *Balancing configuration* as its bytes -/
  cfg : Bytes := []
  holdEnd : Option Nat := none
  /-- a monitor followed another unit: no planning of this ring until the next cycle (R193) -/
  ringStopped : Bool := false
  /-- TSU instant of the next planning cycle, 0 for at once (R191, R195) -/
  cycleT : Nat := 0
  omitted : Nat := 0
  shuttles : List Transfer := []
  /-- channels commanded to bleed: monitor × 32 + channel, with deviation -/
  bleeds : List (Nat × Nat) := []
  ledger : Ledger := {}
  deriving DecidableEq, Repr

/-- A dispatch request with its acceptance (R204). -/
structure DspEntry where
  req : Bytes
  /-- effective instant, TSU ns -/
  eff : Nat
  late : Bool
  deriving DecidableEq, Repr

structure DspStr where
  setpoint : Int := 0
  weight : Rat := 0
  limit : Nat := 0
  deriving DecidableEq, Repr

structure Dsp where
  /-- *Dispatch configuration* as its bytes -/
  cfg : Bytes := []
  force : Option DspEntry := none
  forceT : Nat := 0
  /-- an unscheduled or late request waiting for the next allocation -/
  next : Option DspEntry := none
  queue : List DspEntry := []
  armed : Option (DspEntry × List Int) := none
  /-- target in W, and the VBUS voltage it has reached in mV, at elapsed instant targetT (R206, R207) -/
  target : Rat := 0
  vTarget : Rat := 0
  targetT : Nat := 0
  allocated : Int := 0
  shortfall : Int := 0
  expired : Bool := false
  limited : Bool := false
  late : Bool := false
  str : List DspStr := List.replicate 8 {}
  allocT : Nat := 0
  budget : Nat := 1500
  drawAllow : Option Nat := none
  returnAllow : Nat := 1500
  deriving DecidableEq, Repr

/-! ## Converter (08_converter_control.md) -/

structure Phase where
  enabled : Bool := true
  /-- disabled by CNV_PHASE_DISABLE or a fault -/
  disabled : Bool := false
  rejoin : Bool := false
  gatedOff : Bool := true
  offset : Nat := 0
  newOffset : Option Nat := none
  /-- duty in force and computed, units of 2⁻³¹; taps (R261) -/
  duty : Int := 0
  nextDuty : Option Int := none
  taps : Nat := 0
  /-- phase sample in 10 mA, TSU time, previous full-scale -/
  sample : Int := 0
  sampleT : Nat := 0
  fullScale : Nat := 0
  sum : Int := 0
  sums : Nat := 0
  dutySum : Int := 0
  implausible : Bool := false
  estimate : Option Nat := none
  agreeSince : Option Nat := none
  openCount : Nat := 0
  senseCount : Nat := 0
  braking : Bool := false
  brakePeriods : Nat := 0
  brakes : Nat := 0
  /-- it braked in this evaluation period -/
  braked : Bool := false
  /-- pulse lengths of the period in taps, 0 for an omitted pulse (R221, R222) -/
  low : Nat := 0
  high : Nat := 0
  cbcRun : Nat := 0
  cbcs : Nat := 0
  boundaries : Nat := 0
  setpoint : Int := 0
  deriving DecidableEq, Repr

structure Gx2 where
  ready : Bool := false
  followsUs : Bool := true
  claim : Nat := 0
  unanswered : Nat := 0
  faults : List Nat := []
  overtempWarn : Bool := false
  configLoaded : Bool := false
  dutyHoldNs : Nat := 0
  deriving DecidableEq, Repr

structure Conv where
  /-- *Converter configuration* as its bytes -/
  cfg : Bytes := []
  running : Bool := false
  startT : Nat := 0
  pause : Option PauseCause := none
  pauseT : Nat := 0
  headroomSince : Option Nat := none
  /-- 0 none, 1 cooling, 2 checks, 3 path closed, 4 main closed (R235) -/
  stage : Nat := 0
  tPc : Option Nat := none
  lowSince : Option Nat := none
  peak : Nat := 0
  /-- resistor model E in J and the value in MRAM with its time (R236) -/
  e : Rat := 0
  stored : Option (Rat × Nat) := none
  heating : Bool := false
  /-- slewed outer output and its ramp to zero, mA (R233, R241) -/
  ref : Rat := 0
  rampStop : Bool := false
  rampThen : Option StrState := none
  softStart : Option Nat := none
  ssVref : Nat := 0
  ssRetry : Nat := 0
  ssUntil : Nat := 0
  /-- first boundary count at which offsets change (R251) -/
  reinterleave : Option Nat := none
  shift : Option (Nat × Nat × Nat × Nat) := none
  /-- periods of a shift still to run (R228) -/
  shiftLeft : Nat := 0
  syncHoldover : Bool := false
  syncPeriods : List Nat := []
  syncEdge : Nat := 0
  syncGood : Nat := 0
  shuntSum : Int := 0
  shuntSums : Nat := 0
  residual : Int := 0
  armedPeriods : Nat := 0
  fltLine : Bool := false
  deriving DecidableEq, Repr

/-! ## Loop engine (09_loop_engine.md) -/

/-- A coefficient bank: block bytes, valid, written since the last swap (R268, R269). -/
structure Bank where
  block : Bytes := []
  valid : Bool := false
  fresh : Bool := false
  deriving DecidableEq, Repr

structure LoopSlot where
  /-- *Loop descriptor* as its bytes; empty list when the slot is empty -/
  desc : Bytes := []
  bankA : Bank := {}
  bankB : Bank := {}
  activeB : Bool := false
  /-- swap instant, TSU ns (R269) -/
  swapAt : Option Nat := none
  e1 : Int := 0
  e2 : Int := 0
  e3 : Int := 0
  y1 : Int := 0
  y2 : Int := 0
  y3 : Int := 0
  integ : Int := 0
  deriv : Int := 0
  /-- applied output, and the output computed last (R272) -/
  out : Int := 0
  computed : Int := 0
  repeated : Bool := false
  clamped : Bool := false
  saturated : Bool := false
  /-- trace nodes 0 to 11 of the last period (R277) -/
  nodes : List Int := []
  period : Nat := 0
  sampleT : Nat := 0
  /-- index of the newest period within its TSU second, from 0 (R273) -/
  secIdx : Nat := 0
  busy : Bool := false
  late : Nat := 0
  lateRun : Nat := 0
  catchUp : Nat := 0
  deadline : Nat := 0
  saturations : Nat := 0
  stopped : Bool := false
  /-- output the first period after a change of mode starts from (R256) -/
  bump : Option Int := none
  deriving DecidableEq, Repr

structure Probe where
  /-- *Probe configuration* as its bytes -/
  cfg : Bytes := []
  /-- 0 OFF, 1 ARMED, 2 TRIGGERED, 3 COMPLETE, 4 STOPPED -/
  state : Nat := 0
  count : Nat := 0
  writeIndex : Nat := 0
  trigIndex : Option Nat := none
  trigT : Nat := 0
  after : Nat := 0
  skip : Nat := 0
  gaps : Nat := 0
  decimCount : Nat := 0
  lastValue : Int := 0
  /-- samples by index: value, skip, flags (R279) -/
  buf : List (Nat × Int × Nat × Nat) := []
  deriving DecidableEq, Repr

structure Le where
  slot : List LoopSlot := List.replicate 128 {}
  lut : List Bytes := List.replicate 64 []
  /-- setpoint registers: committed, shadow, and the commit instant (R274) -/
  setp : List Int := List.replicate 16 0
  shadow : List Int := List.replicate 16 0
  commit : Option Nat := none
  param : List Int := List.replicate 64 0
  auxOut : List Int := List.replicate 64 0
  outer : List Int := List.replicate 8 0
  corr : List Int := List.replicate 8 0
  probe : List Probe := List.replicate 16 {}
  vbusMode : Bool := false
  deriving DecidableEq, Repr

/-! ## Safety channel (10_safety.md) -/

/-- A copy of a plant PDU that waits for its partner (R315). -/
structure PduWait where
  bytes : Bytes
  since : Nat
  deriving DecidableEq, Repr

/-- A safety input as one channel judges it (R300 to R303). -/
structure SafeIn where
  high : Bool := true
  lowNs : Nat := 0
  lastT : Nat := 0
  demand : Bool := false
  fault : Bool := false
  pairFault : Bool := false
  pairSince : Option Nat := none
  pairOkSince : Option Nat := none
  goodCycles : Nat := 0
  held : Bool := false
  /-- cross-short candidate (R301): 1 + the TP in whose pulse it read low, 0 for none; when it last read low, whether it
  read high in the 100 µs before the present pulse, and whether this cycle held a short -/
  crossLow : Nat := 0
  lastLowT : Option Nat := none
  preHigh : Bool := false
  badCycle : Bool := false
  deriving DecidableEq, Repr

/-- One channel's state for one string. -/
structure ChanStr where
  latch : Bool := false
  /-- functions that tripped, in sf_map's order, and the other causes: weld, close disagreement, discrepancy, stale -/
  tripped : List SafetyFn := []
  weld : Bool := false
  disagreement : Bool := false
  discrepancy : Bool := false
  stale : Bool := false
  gateOff : Bool := true
  /-- coils commanded closed by this channel's words (R283) -/
  coils : BitVec 4 := 0
  granted : Bool := false
  /-- SF-OV and SF-UV runs: cell, first sample instant -/
  ovRun : List (Nat × Nat) := []
  uvRun : List (Nat × Nat) := []
  ocSince : Option Nat := none
  runCount : Nat := 0
  /-- closing withdrawn by SF-ISO or SF-COMM on this string -/
  isoForbid : Bool := false
  /-- since when the partner channel has not matched a tripped function, by its sf_map bit (R285) -/
  discSince : List (Nat × Nat) := []
  /-- a plant PDU accepted after an SF-COMM trip permits the string (R568) -/
  commClear : Bool := false
  deriving DecidableEq, Repr

structure Chan where
  alive : Bool := true
  set : Option Bytes := none
  prevSet : Option Bytes := none
  slot0 : Slot2 Bytes := ⟨false, 0, []⟩
  slot1 : Slot2 Bytes := ⟨false, 0, []⟩
  staged : Option Bytes := none
  /-- first offending offset of the staged set, none when accepted -/
  stagedBad : Option Nat := none
  stagedCrc : Nat := 0
  activateAt : Option Nat := none
  str : List ChanStr := List.replicate 8 {}
  inputs : List SafeIn := List.replicate 16 {}
  isoLows : Nat := 0
  isoHighs : Nat := 0
  isoForbidAll : Bool := false
  lastIsoT : Option Nat := none
  commForbid : Bool := true
  lastSeq : Option Nat := none
  wdEnd : Option Nat := none
  waitA : Option PduWait := none
  waitB : Option PduWait := none
  /-- network and copy of the newest PDU accepted by a single copy (R316) -/
  lastSingle : Option (Nat × PduWait) := none
  lastA : Nat := 0
  lastB : Nat := 0
  downA : Bool := false
  downB : Bool := false
  upSince : Option Nat := none
  degradeUsed : Nat := 0
  downSince : Option Nat := none
  bothUpSince : Nat := 0
  accepted : Nat := 0
  losses : Nat := 0
  expiries : Nat := 0
  permits : BitVec 8 := 0
  crossT : Nat := 0
  discrepancies : Nat := 0
  singleUntil : Option Nat := none
  deriving DecidableEq, Repr

/-- The contactors of one string at its CX-4 (R283 to R291). -/
structure Cont where
  energised : BitVec 4 := 0
  /-- since when each coil's command stands -/
  cmdT : List Nat := [0, 0, 0, 0]
  mirror : BitVec 4 := 0
  confirmed : BitVec 4 := 0
  /-- coils the open request of a channel asks: step 1 running since -/
  opening : Option Nat := none
  weld : BitVec 4 := 0
  weldPulse : Bool := false
  weldT : Nat := 0
  /-- a close request: coils wanted and when (R284) -/
  request : Option (BitVec 4 × Nat) := none
  followsUs : Bool := true
  claim : Nat := 0
  heldSince : Option Nat := none
  ackMissing : Nat := 0
  configLoaded : Bool := false
  deriving DecidableEq, Repr

/-- An entry of the safe receive path that SP or Sloe has not read yet. -/
structure SafeRx where
  net : Nat
  bytes : Bytes
  spRead : Bool := false
  sloeRead : Bool := false
  deriving DecidableEq, Repr

structure Saf where
  sp : Chan := {}
  sloe : Chan := {}
  cont : List Cont := List.replicate 8 {}
  bkrTrip : Bool := false
  bkrEnd : Nat := 0
  stageT : Nat := 0
  loadingEnd : Option Nat := none
  activationPending : Bool := false
  txSeq : Nat := 0
  txBc : Nat := 0
  /-- PDUs SP has sent: networks and bytes -/
  tx : List (Nat × Bytes) := []
  tpT : List Nat := List.replicate 8 0
  tpOverload : BitVec 8 := 0
  setMismatch : Bool := false
  runWarning : Bool := false
  /-- rings of the safe receive path of both networks, oldest first (16_ethernet_can.md R459) -/
  rxRing : List SafeRx := []
  rxDrops : Nat := 0
  deriving DecidableEq, Repr

/-! ## Pair (11_redundancy.md) -/

/-- The fields of the last valid partner beat (R327). -/
structure Beat where
  role : Nat := 0
  flags : Nat := 0
  seq : Nat := 0
  claim : Nat := 0
  tiers : Nat := 0
  deriving DecidableEq, Repr

/-- The replica a STANDBY unit holds (R333, R344). -/
structure Replica where
  strings : List Nat := []
  tiers : List Nat := []
  e : List Nat := []
  target : Int := 0
  vinValid : Bool := false
  at_ : Nat := 0
  deriving DecidableEq, Repr

/-- A command whose success waits for the partner's acknowledgement of message `seq` (R344). -/
structure AckWait where
  exec : Exec
  seq : Nat
  payload : Bytes
  deriving DecidableEq, Repr

structure Red where
  /-- *Pair configuration* as its bytes -/
  cfg : Bytes := []
  claim : Nat := 0
  storedClaim : Nat := 0
  stageClaim : Nat := 0
  partnerClaim : Nat := 0
  partnerIdentity : Option Nat := none
  partnerFloor : Nat := 0
  partnerVariantOk : Bool := true
  /-- the partner's images as HELLO lists them: part, if_level, lowest and highest level accepted -/
  partnerLevels : List (Nat × Nat × Nat × Nat) := []
  partnerLevelsOk : Bool := true
  partnerSetCrc : Nat := 0
  /-- the partner's last STATE message reports valid VIN (R48) -/
  partnerVin : Bool := false
  beatsOn : Bool := false
  beatSeq : Nat := 0
  beatsSent : Nat := 0
  lastBeatTx : Bytes := []
  beat : Beat := {}
  beatT : Option Nat := none
  beatsRx : Nat := 0
  beatsBad : Nat := 0
  xclProven : Bool := true
  provenSince : Option Nat := none
  peerTx : Nat := 0
  peerRx : Option Nat := none
  peerT : Option Nat := none
  peerBeatT : Option Nat := none
  peerDown : Bool := false
  peerDiscards : Nat := 0
  resends : Nat := 0
  /-- messages sent: type codes, newest first -/
  peerOut : List Nat := []
  ackWait : List AckWait := []
  present : Bool := false
  partnerDormant : Bool := false
  wakeT : Option Nat := none
  yield : Bool := false
  lowerSince : List (Option Nat) := List.replicate 8 none
  partnerYieldT : Option Nat := none
  replica : Option Replica := none
  listenT : Nat := 0
  swapAt : Option Nat := none
  swapAsked : Bool := false
  swapGranted : Bool := false
  swapVerifyAt : Option Nat := none
  lastSwapT : Nat := 0
  lastTakeoverT : Nat := 0
  dueT : Nat := 0
  dueSince : Option Nat := none
  retryT : Nat := 0
  overdue : Bool := false
  postponeEnd : Option Nat := none
  failedSwaps : Nat := 0
  resyncStep : Nat := 0
  resyncT : Nat := 0
  restarts : Nat := 0
  shadowCleanSince : Nat := 0
  mismatches : Nat := 0
  lastMismatch : Option (Nat × Nat) := none
  runs : List ((Nat × Nat) × Nat × Nat) := []
  mismatchT : List ((Nat × Nat) × Nat) := []
  unresolved : Bool := false
  shadowTests : List (Nat × Nat) := []
  deriving DecidableEq, Repr

/-! ## Rack power (12_rack_power.md) -/

structure Rect where
  /-- last acknowledged VOUT_COMMAND, mV, 0 before the first; trim in mV -/
  commanded : Nat := 0
  trim : Rat := 0
  misses : Nat := 0
  good : Bool := false
  lost : Bool := false
  goodSince : Option Nat := none
  reading : Option RectReading := none
  deriving DecidableEq, Repr

/-- A shed step in force (R364): kind 0 channel of class 1, 1 fans, 2 channel of class 3; power in W. -/
structure Shed where
  kind : Nat
  ch : Nat
  power : Nat
  deriving DecidableEq, Repr

structure Ef where
  /-- *E-fuse channel configuration* as its bytes -/
  cfg : Bytes := []
  state : EfState := .off
  commanded : Bool := false
  shed : Bool := false
  faults : Nat := 0
  reading : EfReading := ⟨0, 0, 0, true⟩
  /-- breaker curve accumulator, junction rise and case temperature in 0.01 K, stress (R373, R374) -/
  acc : Rat := 0
  dTj : Rat := 0
  tCase : Rat := 7000
  stress : Rat := 0
  pgood : Bool := false
  pgSince : Option Nat := none
  gfSince : Option Nat := none
  insertSince : Option Nat := none
  rampT : Nat := 0
  retryEnd : Nat := 0
  onSince : Nat := 0
  lowSince : Option Nat := none
  highSince : Option Nat := none
  presSince : Option Nat := none
  needRegain : Bool := false
  retired : Bool := false
  deriving DecidableEq, Repr

structure Rack where
  /-- *Auxiliary bus configuration* as its bytes -/
  cfg : Bytes := []
  /-- newest AUX_VSNS, mV, and its sum and count over the poll interval (R351, R357) -/
  vBus : Nat := 0
  vSum : Nat := 0
  vCount : Nat := 0
  vMean : Nat := 0
  /-- shelf current, mA (R351) -/
  iShelf : Int := 0
  /-- shelf charge in mA·ms, and the discharge current samples of the last 60 s, newest first (R358) -/
  shelf : Int := 0
  disch : List Nat := []
  slowSince : Option Nat := none
  /-- auxiliary load, mW, and total rectifier current, mA (R357) -/
  pAux : Nat := 0
  iTot : Int := 0
  acLoss : Bool := false
  acOkLowSince : Option Nat := none
  lowVSince : Option Nat := none
  noLossSince : Option Nat := none
  inputFault : Bool := false
  cap : Option Nat := none
  cmdCap : Nat := 0
  pRet : Nat := 1500
  capUnmet : Bool := false
  shed : List Shed := []
  restoreSince : Option Nat := none
  fanCmd : List Nat := List.replicate 4 100
  fanNow : List Nat := List.replicate 4 100
  rect : List Rect := List.replicate 16 {}
  trimC : Int := 0
  shelfLow : Bool := false
  shelfCut : Bool := false
  alerts : Nat := 0
  ef : List Ef := List.replicate 16 {}
  deriving DecidableEq, Repr

/-! ## Sequencer (13_sequencing.md) -/

structure Rail where
  enabled : Bool := false
  good : Bool := false
  running : Bool := false
  enableT : Nat := 0
  downT : Nat := 0
  downDone : Bool := true
  /-- it left its window in a power-down before its own state (R405) -/
  leftWindow : Bool := false
  faultHold : Option Nat := none
  deriving DecidableEq, Repr

/-- What the sequencer is doing. -/
inductive SeqPhase where
  | idle | watching | ascending | up | descending
  deriving DecidableEq, Repr

structure Seq where
  /-- rail table in force and the one for the next power-up, as bytes -/
  table : Bytes := []
  next : Option Bytes := none
  phase : SeqPhase := .idle
  /-- the numbered state, and when this unit's work in it began -/
  pos : Nat := 0
  posT : Nat := 0
  /-- a local sequence: the line and the cascade are not used -/
  local_ : Bool := false
  /-- this unit pulls SEQ_SYNC low; when the line fell for the present state -/
  pulling : Bool := false
  lineT : Nat := 0
  /-- the line is ignored after a stuck line (R396) -/
  ignoring : Bool := false
  /-- the levels of SEQ_CIN as last seen and of SEQ_COUT (R398) -/
  cin : Bool := false
  cout : Bool := false
  beaconT : Nat := 0
  watchT : Nat := 0
  rails : List Rail := List.replicate 32 {}
  heldOn : Option OnSource := none
  /-- step of the module power-up, 0 outside it, and its origin t0 (R384) -/
  step : Nat := 0
  stepT : Nat := 0
  pendingLocal : Bool := false
  /-- pre-off steps (R400): 0 none, 1 requested, 2 strings ramping, 3 done; and the off request's instant -/
  preOff : Nat := 0
  preOffT : Nat := 0
  /-- the last fault: rail, and cause 1 start failure, 2 running-rail fault, 3 stuck line, 4 forced off -/
  faultRail : Option Nat := none
  faultCause : Nat := 0
  otherPresses : Nat := 0
  mrLow : Bool := false
  deriving DecidableEq, Repr

/-! ## Time (14_time.md) -/

/-- A TSU trigger (R422, R425): instant in TSU ns with its fraction, period in ns. -/
structure Trigger where
  arm : Bool := false
  late : Bool := false
  icu : Bool := false
  le : Bool := false
  at_ : Nat := 0
  frac : Nat := 0
  period : Nat := 0
  count : Nat := 0
  firedT : Option Nat := none
  deriving DecidableEq, Repr

/-- One capture FIFO entry: TSU ns, fraction, step count (R424). -/
structure CapEntry where
  time : Nat
  frac : Nat
  steps : Nat
  deriving DecidableEq, Repr

structure Capture where
  en : Bool := false
  edge : Nat := 1
  /-- SRC; its reset value is the capture's own number, kept as none (R425) -/
  src : Option Nat := none
  ovf : Bool := false
  /-- when an edge was last discarded -/
  ovfT : Option Nat := none
  icu : Bool := false
  filt : Nat := 0
  fifo : List CapEntry := []
  count : Nat := 0
  deriving DecidableEq, Repr

/-- A PTP port (R412, R413). -/
structure PtpPort where
  master : Option Master := none
  offset : Int := 0
  offsetKnown : Bool := false
  delay : Nat := 0
  announceT : Nat := 0
  ignored : Nat := 0
  pdelays : Nat := 0
  responses : Nat := 0
  /-- correctionField of the last Pdelay_Resp sent (R414) -/
  lastCorrection : Nat := 0
  deriving DecidableEq, Repr

structure Tsu where
  /-- TSU time in ns since the PTP epoch, and its fraction in 2⁻¹⁶ ns (R410) -/
  now : Nat := 0
  frac : Nat := 0
  sync : Sync := .freerun
  src : Option TimeSource := none
  stepped : Bool := false
  accErr : Bool := false
  stepCnt : Nat := 0
  evt : BitVec 32 := 0
  snap : Nat := 0
  snapFrac : Nat := 0
  own : BitVec 32 := 0
  trig : List Trigger := List.replicate 8 ({ le := true } : Trigger) ++ List.replicate 8 ({} : Trigger)
  cap : List Capture := List.replicate 16 {}
  ports : List PtpPort := List.replicate 2 {}
  /-- *Time configuration* as its bytes -/
  cfg : Bytes := []
  inLimit : Nat := 0
  overLimit : Nat := 0
  holdT : Nat := 0
  errEst : Nat := 0
  converging : Bool := false
  /-- offset still to be slewed, ns (R416) -/
  slew : Int := 0
  ppsDiscards : Nat := 0
  ppsOuts : Nat := 0
  timeLoaded : Bool := false
  deriving DecidableEq, Repr

/-! ## Network and CAN (16_ethernet_can.md) -/

structure NetPort where
  /-- *Port record* as its bytes -/
  cfg : Bytes := []
  link : Bool := true
  linkChanges : Nat := 0
  rx : Nat := 0
  toTsu : Nat := 0
  toSafe : Nat := 0
  toPeer : Nat := 0
  toMgmt : Nat := 0
  toSup : Nat := 0
  discards : Nat := 0
  pauses : Nat := 0
  arpAnswers : Nat := 0
  icmpAnswers : Nat := 0
  deriving DecidableEq, Repr

structure CanQ where
  depth : Nat := 4
  put : Nat := 0
  get : Nat := 0
  ovf : Nat := 0
  deriving DecidableEq, Repr

structure Can where
  init : Bool := true
  fd : Bool := true
  tdc : Bool := true
  abo : Bool := true
  listen : Bool := false
  loop : Bool := false
  noMatch : Nat := 2
  nbt : BitVec 32 := 0x1F1F7E00
  dbt : BitVec 32 := 0x07071E00
  tdcOff : Nat := 0
  /-- 0 error-active, 1 error-passive, 2 bus-off, 3 INIT -/
  state : Nat := 3
  /-- event bits [21:16] of CAN_STATUS -/
  evt : BitVec 6 := 0
  tec : Nat := 0
  recCnt : Nat := 0
  recPassive : Bool := false
  protoErrs : Nat := 0
  ie : BitVec 4 := 0
  fltBase : Nat := 0
  fltCount : Nat := 0
  txPut : Nat := 0
  txGet : Nat := 0
  cancel : Bool := false
  holLim : Nat := 0
  lastMarker : Nat := 0
  lastOutcome : Nat := 0
  txTs : Nat := 0
  q0 : CanQ := {}
  q1 : CanQ := {}
  delegated : Bool := false
  sent : Nat := 0
  received : Nat := 0
  cfg : Bytes := []
  deriving DecidableEq, Repr

structure Net where
  port : List NetPort := List.replicate 4 {}
  can : List Can := List.replicate 4 {}
  deriving DecidableEq, Repr

/-! ## APP and ICU (17_app_core_icu.md) -/

structure App where
  /-- 0 not started, 1 running, 2 stopped by three fault restarts -/
  run : Nat := 0
  cause : Nat := 0
  restarts : Nat := 0
  faults : List Nat := []
  wdMs : Nat := 0
  wdT : Nat := 0
  wdWarned : Bool := false
  /-- TSU instant in µs -/
  timer : Option Nat := none
  accessFaults : Nat := 0
  corrected : Nat := 0
  dramZeroed : Bool := false
  a0 : Int := 0
  a1 : Nat := 0
  deriving DecidableEq, Repr

/-- A source (R482 to R491). Private sources stand once in each target's bank, shared ones once. -/
structure Src where
  /-- the target it is routed to, and the one it returns to from a redirection (R491) -/
  route : Target := .sup
  home : Target := .sup
  pend : Bool := false
  mask : Bool := true
  prio : Nat := 0
  group : Nat := 0
  /-- the target on which it is active -/
  active : Option Target := none
  stranded : Option Nat := none
  redirected : Bool := false
  /-- active-and-pending at its completion (R486) -/
  reentry : Bool := false
  redirCount : Nat := 0
  redirRecT : Option Nat := none
  deriving DecidableEq, Repr

/-- Reset route of shared source `n` (*Shared sources*): nothing is delegated. -/
def sharedRoute (n : Nat) : Target :=
  if 80 ≤ n ∧ n ≤ 83 then .host else if n = 84 ∨ n = 85 then .app else .sup

structure Tgt where
  en : Bool := false
  idleByp : Bool := true
  line : Bool := false
  sleep : Bool := false
  accErr : Bool := false
  redirCnt : Nat := 0
  deliv : Option Nat := none
  idleUs : Nat := 20
  hold : List Nat := List.replicate 16 0
  holdEnd : List Nat := List.replicate 16 0
  lastClaim : Option Nat := none
  /-- value of the last ICU_CLAIM read -/
  claim : Nat := 0
  wakes : Nat := 0
  deriving DecidableEq, Repr

structure Icu where
  /-- private sources 0 to 31 of SUP, APP, HOST -/
  psup : List Src := List.replicate 32 {}
  papp : List Src := List.replicate 32 { route := .app, home := .app }
  phost : List Src := List.replicate 3 ({ route := .host, home := .host, mask := false } : Src) ++
    List.replicate 29 ({ route := .host, home := .host } : Src)
  /-- sources 32 to 255 -/
  shared : List Src := (List.range 224).map fun k => { route := sharedRoute (k + 32), home := sharedRoute (k + 32) }
  sup : Tgt := {}
  app : Tgt := {}
  host : Tgt := { en := true }
  deriving DecidableEq, Repr

/-! ## Faults and the Peat log (18_faults_peat_log.md) -/

/-- A unit under or before its test (R494, R495): code, since when, whether its test runs, and whether a restoring
command asked for it (R497). -/
structure Susp where
  unit : Nat
  since : Nat
  testing : Bool
  restoring : Bool
  deriving DecidableEq, Repr

/-- A restoring command that waits for its tests (R497): units still under test, whether one failed, and the string
of an STR_RESTORE. -/
structure Restore where
  exec : Exec
  units : List Nat
  failed : Bool
  string : Option Nat
  deriving DecidableEq, Repr

/-- A Peat record as stored (R503). -/
structure Peat where
  seq : Nat
  code : Nat
  source : Nat
  severity : Nat
  time : Nat
  p0 : Nat
  p1 : Nat
  p2 : Nat
  deriving DecidableEq, Repr

structure Flt where
  susp : List Susp := []
  restores : List Restore := []
  /-- transient detections: unit, instant (R496) -/
  transients : List (Nat × Nat) := []
  /-- retired units with their reason (R497), kept in MRAM -/
  retired : List (Nat × Nat) := []
  /-- strings RETIRED, kept in MRAM -/
  retiredStr : List Nat := []
  corrected : List (Nat × Nat × Nat) := []
  /-- corrected single-bit errors per memory (R500) -/
  correctedCnt : List (Nat × Nat) := []
  scrubT : List (Nat × Nat) := []
  erase : List (Nat × Nat) := []
  errors : Nat := 0
  deriving DecidableEq, Repr

structure Plg where
  /-- newest first -/
  log : List Peat := []
  nextIndex : Nat := 0
  nextSeq : Nat := 0
  baseSeq : Nat := 0
  clearGen : Nat := 0
  dropped : Nat := 0
  suppressed : Nat := 0
  droppedLife : Nat := 0
  clearT : Nat := 0
  full : Bool := false
  /-- the AON buffer of DORMANT, in order of submission: record and level (R505) -/
  buffer : List Peat := []
  /-- code, source and time of the records of the last second (R506) -/
  recent : List (Nat × Nat × Nat) := []
  deriving DecidableEq, Repr

/-! ## Update (19_update.md) -/

structure Xfer where
  state : XferState := .empty
  /-- container bytes 0 to 4,095 -/
  header : Bytes := []
  /-- received and flushed chunk numbers (R518) -/
  got : List Nat := []
  flushed : List Nat := []
  /-- chunks programmed and not yet flushed keep their bytes; ciphertext by chunk -/
  chunks : List (Nat × Bytes) := []
  duplicates : Nat := 0
  deriving DecidableEq, Repr

/-- The bank directory of one part (R521): banks 0 = A, 1 = B. -/
structure BankImage where
  present : Bool := false
  valid : Bool := false
  version : Nat := 0
  ifLevel : Nat := 0
  svn : Nat := 0
  keySet : Nat := 0
  flags : Nat := 0
  /-- requirement entries: part, lowest and highest if_level (R516) -/
  reqs : List (Nat × Nat × Nat) := []
  deriving DecidableEq, Repr

structure Part where
  active : Nat := 0
  bankA : BankImage := { present := true, valid := true }
  bankB : BankImage := {}
  trial : Bool := false
  deadline : Nat := 0
  restarted : Bool := false
  okSince : Option Nat := none
  confirmed : Bool := false
  needHost : Bool := false
  swapOn : Bool := false
  dwell : Nat := 5
  transfer : Nat := 0
  deriving DecidableEq, Repr

/-- The activation in progress (R522): transfer, part, target, done count. -/
structure Activation where
  transfer : Nat
  part : Nat
  flags : Nat
  target : Nat
  dwell : Nat
  /-- 1 taking effect, 2 falling back -/
  stage : Nat
  /-- monitors or drivers done -/
  count : Nat
  t0 : Nat
  req : Option Exec
  deriving DecidableEq, Repr

structure Upd where
  xfer : List Xfer := List.replicate 5 {}
  sup : Part := {}
  sp : Part := {}
  app : Part := {}
  /-- what containers have put in force beside the banks, by 16 × part + slot: the part store's images of SM-32, GX-2 and
  CX-4 with their bytes (R517), and the tables of the model and core temperature slots -/
  store : List (Nat × BankImage × Bytes) := []
  floor : Nat := 0
  revoked : BitVec 4 := 0
  act : Option Activation := none
  /-- the ROM's check at this BOOT has passed (R530) -/
  checked : Bool := false
  flushT : Nat := 0
  handoverT : Nat := 0
  /-- when the ramps before RECOVERY began (R528) -/
  recT : Option Nat := none
  deriving DecidableEq, Repr

/-! ## The machine -/

/-- The whole block, and the queue of commands that wait. -/
structure State where
  pending : List Instr := []
  variant : Variant := .kzv4096
  /-- elapsed time in ns: AON, SAFE, SLOE, LOOP and TIME count it alike (DESIGN CHOICE, log entry 2) -/
  clk : Nat := 0
  unit : UnitState := .off
  str : List Str := List.replicate 8 {}
  pwr : Power := {}
  hvi : Hvi := {}
  hviStr : List HviStr := List.replicate 8 {}
  rings : Rings := {}
  cee : Cee := {}
  tpe : Tpe := {}
  th : Thermal := {}
  bal : List Bal := List.replicate 8 {}
  dsp : Dsp := {}
  conv : List Conv := List.replicate 8 {}
  phase : List Phase := List.replicate 32 {}
  gx2 : List Gx2 := List.replicate 32 {}
  le : Le := {}
  saf : Saf := {}
  red : Red := {}
  rack : Rack := {}
  seq : Seq := {}
  tsu : Tsu := {}
  hpr : Hpr := {}
  net : Net := {}
  app : App := {}
  icu : Icu := {}
  flt : Flt := {}
  plg : Plg := {}
  upd : Upd := {}
  /-- bytes of the slots and of the window, by host address (15_host_interface.md R431); an unlisted byte reads 0 (log entry 4) -/
  mem : List Host.Cell := []
  /-- CAN message RAM by offset (16_ethernet_can.md R466); an unlisted byte reads 0 (log entry 4) -/
  canRam : List Host.Cell := []
  /-- the model's own counter of free values drawn; no spec state (log entry 3) -/
  free : Nat := 0
  deriving DecidableEq, Repr

/-- The machine right after reset: unpowered, in OFF (13_sequencing.md R383), every field at its default. -/
def State.reset : State := {}

end Sys2Proof.Machine
end

