-- ==== Sys2Proof/Machine/Layout.lean ====
section
/-! DEFINITION. Byte layouts: little-endian reads and writes (00_scope.md R10), checksums, and records whose fields carry
offset, size, range and default. -/

namespace Sys2Proof.Machine

/-- `n` bytes of `b` from `off` as an unsigned little-endian number; bytes past the end read 0. -/
def getU (b : Bytes) (off : Nat) : Nat → Nat
  | 0 => 0
  | n + 1 => (b.getD off 0).toNat + 256 * getU b (off + 1) n

/-- `v` read as two's complement in `n` bytes. -/
def toSigned (n v : Nat) : Int :=
  if v < 2 ^ (8 * n - 1) then (v : Int) else (v : Int) - 2 ^ (8 * n)

/-- As `getU`, two's complement. -/
def getS (b : Bytes) (off n : Nat) : Int := toSigned n (getU b off n)

/-- Bit `k` of the field of `n` bytes at `off`. -/
def getBit (b : Bytes) (off k : Nat) : Bool := (getU b (off + k / 8) 1).testBit (k % 8)

/-- The `n` low bytes of `v`, least significant first. -/
def leU (n v : Nat) : Bytes :=
  match n with
  | 0 => []
  | n + 1 => BitVec.ofNat 8 v :: leU n (v / 256)

/-- The `n` bytes of `v` in two's complement. -/
def leS (n : Nat) (v : Int) : Bytes := leU n (v % 2 ^ (8 * n)).toNat

def leB (b : Bool) : Bytes := [if b then 1 else 0]

/-- Pads with zeros or cuts to `n` bytes. -/
def fitTo (n : Nat) (b : Bytes) : Bytes := (b ++ List.replicate (n - b.length) 0).take n

/-- Replaces the bytes of `b` at `off` by `v`. -/
def putAt (b : Bytes) (off : Nat) (v : Bytes) : Bytes :=
  b.take off ++ v ++ b.drop (off + v.length)

/-- Bits from least significant, packed. -/
def bitsToNat : List Bool → Nat
  | [] => 0
  | b :: bs => b.toNat + 2 * bitsToNat bs

def slice (b : Bytes) (off n : Nat) : Bytes := (b.drop off).take n

/-! ## Checksums -/

/-- One bit of a reflected CRC. -/
def crcStepR (poly c : Nat) : Nat → Nat
  | 0 => c
  | k + 1 => crcStepR poly (if c % 2 = 1 then (c / 2) ^^^ poly else c / 2) k

/-- One bit of a CRC of width `w`, most significant bit first. -/
def crcStepL (w poly c : Nat) : Nat → Nat
  | 0 => c
  | k + 1 => crcStepL w poly (if c.testBit (w - 1) then (2 * c) % 2 ^ w ^^^ poly else (2 * c) % 2 ^ w) k

/-- CRC over bytes, least significant bit first. -/
def crcR (poly init : Nat) (b : Bytes) : Nat := b.foldl (fun c x => crcStepR poly (c ^^^ x.toNat) 8) init

/-- CRC of width `w` over bytes, most significant bit first. -/
def crcL (w poly init : Nat) (b : Bytes) : Nat :=
  b.foldl (fun c x => crcStepL w poly (c ^^^ (x.toNat <<< (w - 8))) 8) init

/-- CRC-32C (04_fenline_rings.md R89): reflected Castagnoli, initial value and final inversion 0xFFFF_FFFF. -/
def crc32c (b : Bytes) : Nat := crcR 0x82F63B78 0xFFFFFFFF b ^^^ 0xFFFFFFFF

/-- CRC-8 of the XCL beat (11_redundancy.md R327). -/
def crc8 (b : Bytes) : Nat := crcL 8 0x07 0 b

/-! ## Records -/

/-- A field of a record: offset, size, sign, range and default. A reserved field has the range 0 to 0. -/
structure Field where
  off : Nat
  size : Nat
  signed : Bool
  lo : Int
  hi : Int
  dflt : Int
  deriving DecidableEq, Repr

/-- Unsigned field with its range and default. -/
def uf (off size : Nat) (lo hi dflt : Int) : Field := ⟨off, size, false, lo, hi, dflt⟩
/-- Signed field. -/
def sf (off size : Nat) (lo hi dflt : Int) : Field := ⟨off, size, true, lo, hi, dflt⟩
/-- Reserved bytes, which must be 0 (15_host_interface.md R452). -/
def rsv (off size : Nat) : Field := ⟨off, size, false, 0, 0, 0⟩

def Field.get (f : Field) (b : Bytes) : Int :=
  if f.signed then getS b f.off f.size else (getU b f.off f.size : Int)

def Field.ok (f : Field) (b : Bytes) : Bool := decide (f.lo ≤ f.get b) && decide (f.get b ≤ f.hi)

/-- Offset of the first field outside its range (R447: the first offending field). -/
def badField (fs : List Field) (b : Bytes) : Option Nat :=
  match fs with
  | [] => none
  | f :: fs => if f.ok b then badField fs b else some f.off

/-- The record of `fs` with every field at its default. -/
def defaults (fs : List Field) : Bytes :=
  fs.flatMap fun f => leS f.size f.dflt

/-- A stored record: its bytes, or the defaults when nothing was stored. -/
def orDefault (fs : List Field) (b : Bytes) : Bytes := if b.isEmpty then defaults fs else b

/-- The lowest offset of `l`: the first offending field of several checks (R447). -/
def firstBad : List (Option Nat) → Option Nat
  | [] => none
  | none :: l => firstBad l
  | some n :: l => match firstBad l with | none => some n | some m => some (min n m)

/-- `some off` when the condition of the field at `off` fails. -/
def must (c : Bool) (off : Nat) : Option Nat := if c then none else some off

/-- Division rounding half away from zero; 0 for a zero divisor. -/
def roundDiv (a : Int) (b : Nat) : Int :=
  if a < 0 then -(((-a).toNat * 2 + b) / (2 * b) : Nat) else ((a.toNat * 2 + b) / (2 * b) : Nat)

/-- Nearest integer of a rational, halves away from zero. -/
def roundR (x : Rat) : Int := roundDiv x.num x.den

def clampI (lo hi x : Int) : Int := if x < lo then lo else if hi < x then hi else x

def clampR (lo hi x : Rat) : Rat := if x < lo then lo else if hi < x then hi else x

def absI (x : Int) : Int := if x < 0 then -x else x
def absR (x : Rat) : Rat := if x < 0 then -x else x

/-! ## Association lists kept in ascending key order -/

/-- Value at key `k`, the default where no entry has the key. -/
def tblGet {α : Type} (d : α) (k : Nat) : List (Nat × α) → α
  | [] => d
  | (j, v) :: t => if j = k then v else tblGet d k t

/-- Replaces or inserts the entry of key `k`. -/
def tblSet {α : Type} (k : Nat) (v : α) : List (Nat × α) → List (Nat × α)
  | [] => [(k, v)]
  | (j, w) :: t => if k < j then (k, v) :: (j, w) :: t else if k = j then (k, v) :: t else (j, w) :: tblSet k v t

/-- Removes the entry of key `k`. -/
def tblDel {α : Type} (k : Nat) (l : List (Nat × α)) : List (Nat × α) := l.filter fun e => e.1 ≠ k

/-! ## Byte memory in canonical form -/

/-- What a byte nobody has written reads as (log entry 4). -/
def memDefault : Byte := 0

/-- Addresses strictly rising and no entry equal to what an unlisted address reads as. -/
def Memory.wf : List Host.Cell → Bool
  | [] => true
  | [(_, v)] => v != memDefault
  | (a, v) :: (b, w) :: t => v != memDefault && decide (a < b) && Memory.wf ((b, w) :: t)

def memRead (m : List Host.Cell) (a : Nat) : Byte := tblGet memDefault a m

/-- Writes one byte; writing what an unlisted address reads as removes the entry. -/
def memWrite (a : Nat) (v : Byte) : List Host.Cell → List Host.Cell
  | [] => if v = memDefault then [] else [(a, v)]
  | (b, w) :: t =>
    if a < b then (if v = memDefault then (b, w) :: t else (a, v) :: (b, w) :: t)
    else if a = b then (if v = memDefault then t else (a, v) :: t)
    else (b, w) :: memWrite a v t

def memWrites (m : List Host.Cell) (a : Nat) : Bytes → List Host.Cell
  | [] => m
  | v :: vs => memWrites (memWrite a v m) (a + 1) vs

def memReads (m : List Host.Cell) (a : Nat) : Nat → Bytes
  | 0 => []
  | n + 1 => memRead m a :: memReads m (a + 1) n

end Sys2Proof.Machine
end

