-- ==== Sys2Proof/Machine/Filter.lean ====
section
/-! DEFINITION. Model tables and the cell filter's arithmetic (05_cell_estimation.md R122 to R127, R133 to R136). A state is
the list SOC, v_p1, v_p2, h, Q; a covariance is the upper triangle of P row by row (R150). -/

namespace Sys2Proof.Machine

/-! ## binary32 -/

/-- Two to the power `e`. -/
def pow2R (e : Int) : Rat := if 0 ≤ e then (2 ^ e.toNat : Nat) else 1 / ((2 ^ (-e).toNat : Nat) : Rat)

/-- The value of a binary32 by its bits. -/
def f32Dec (n : Nat) : Rat :=
  let e : Nat := n / 2 ^ 23 % 256
  let m : Nat := n % 2 ^ 23
  let v : Rat := if e = 0 then (m : Rat) * pow2R (-149) else ((2 ^ 23 + m : Nat) : Rat) * pow2R ((e : Int) - 150)
  if e = 255 then Config.nonFinite n else if n / 2 ^ 31 % 2 = 1 then -v else v

/-- Nearest integer, ties to even, of a rational that is not negative. -/
def roundEven (x : Rat) : Nat :=
  let q := x.num.toNat / x.den
  let r := x.num.toNat % x.den
  if 2 * r < x.den then q else if x.den < 2 * r then q + 1 else q + q % 2

/-- Exponent of the binade of a positive rational. -/
def binade (x : Rat) : Int :=
  let e : Int := (Nat.log2 x.num.toNat : Int) - Nat.log2 x.den
  if pow2R e ≤ x then e else e - 1

/-- The bits of the binary32 nearest to a rational. -/
def f32Enc (x : Rat) : Nat :=
  if x = 0 then 0
  else
    let a := absR x
    let sign : Nat := if x < 0 then 2 ^ 31 else 0
    let e := max (binade a) (-126)
    let m := roundEven (a * pow2R (23 - e))
    let bits := if m < 2 ^ 23 then m else (e + 126).toNat * 2 ^ 23 + m
    sign + min bits (255 * 2 ^ 23)

/-! ## *Model table* (R133, R134) -/

/-- Index and fraction of `x` on an axis, clamped to its ends. -/
def axisPos : List Rat → Rat → Nat × Rat
  | a :: b :: t, x =>
    if x ≤ a then (0, 0)
    else if x < b ∨ t = [] then (0, min 1 ((x - a) / (b - a)))
    else let (k, f) := axisPos (b :: t) x; (k + 1, f)
  | _, _ => (0, 0)

def axisU (b : Bytes) (off n : Nat) : List Rat := (List.range n).map fun k => (getU b (off + 2 * k) 2 : Rat)
/-- SOC axis, fractions; temperature axis, units of 0.01 °C. -/
def socAxis (b : Bytes) : List Rat := (axisU b 64 64).map (· / 50000)
def tAxis (b : Bytes) : List Rat := (List.range 8).map fun k => (getS b (192 + 2 * k) 2 : Rat)

/-- The array at `off` with rows of `w` entries, interpolated bilinearly. -/
def bilinear (b : Bytes) (off w : Nat) (ax : List Rat) (x t : Rat) : Rat :=
  let (k, f) := axisPos ax x
  let (j, g) := axisPos (tAxis b) t
  let v (j k : Nat) : Rat := (getU b (off + 2 * (w * j + k)) 2 : Rat)
  (1 - g) * ((1 - f) * v j k + f * v j (k + 1)) + g * ((1 - f) * v (j + 1) k + f * v (j + 1) (k + 1))

def onSoc (b : Bytes) (off : Nat) (soc t : Rat) : Rat := bilinear b off 64 (socAxis b) soc t
/-- An array over temperature alone. -/
def onT (b : Bytes) (off : Nat) (t : Rat) : Rat :=
  let (j, g) := axisPos (tAxis b) t
  (1 - g) * (getU b (off + 2 * j) 2 : Rat) + g * (getU b (off + 2 * j + 2) 2 : Rat)

def mtId (b : Bytes) : Nat := getU b 12 4
def mtHyst (b : Bytes) : Bool := getBit b 17 0
def mtRc2 (b : Bytes) : Bool := getBit b 17 1
/-- q_nom in mC and in C. -/
def mtQ (b : Bytes) : Nat := getU b 24 4
def mtQC (b : Bytes) : Rat := (mtQ b : Rat) / 1000
/-- Resistance unit, Ω. -/
def mtRes (b : Bytes) : Rat := (2 ^ getU b 16 1 : Nat) / 10000000
def ocvOf (b : Bytes) (soc t : Rat) : Rat := onSoc b 208 soc t / 10000
def hystOf (b : Bytes) (soc t : Rat) : Rat := if mtHyst b then onSoc b 1232 soc t / 100000 else 0
def rOhmOf (b : Bytes) (soc t : Rat) : Rat := onSoc b 2256 soc t * mtRes b
def rP1Of (b : Bytes) (soc t : Rat) : Rat := onSoc b 3280 soc t * mtRes b
def tauP1Of (b : Bytes) (soc t : Rat) : Rat := onSoc b 4304 soc t / 1000
def rP2Of (b : Bytes) (soc t : Rat) : Rat := onSoc b 5328 soc t * mtRes b
def tauP2Of (b : Bytes) (soc t : Rat) : Rat := onSoc b 6352 soc t / 10

/-- Predicted capacity retention and resistance growth at EFC, age (years) and mean temperature. -/
def retention (b : Bytes) (efc age t : Rat) : Rat :=
  bilinear b 7472 16 (axisU b 7408 16) efc t / 10000 * (bilinear b 7728 16 ((axisU b 7440 16).map (· / 100)) age t / 10000)

/-- The temperature lies outside the table's axis (R131). -/
def tOutside (b : Bytes) (t : Rat) : Bool := decide (t < (getS b 192 2 : Rat)) || decide ((getS b 206 2 : Rat) < t)

def ascending (l : List Rat) : Bool := (l.zip (l.drop 1)).all fun e => decide (e.1 < e.2)
def nonincreasing (l : List Rat) : Bool := (l.zip (l.drop 1)).all fun e => decide (e.2 ≤ e.1)
def rowOf (b : Bytes) (off w j : Nat) : List Rat := axisU b (off + 2 * w * j) w

/-- What a model table must satisfy before a slot accepts it (R135). -/
def modelOk (b : Bytes) : Bool :=
  let rows := List.range 8
  b.length == 8500 && getU b 0 4 == 0x4C444D4B && getU b 4 2 == 1 && getU b 8 4 == 8500 &&
    getU b 8496 4 == crc32c (b.take 8496) &&
    ascending (socAxis b) && getU b 64 2 == 0 && getU b 190 2 == 50000 && ascending (tAxis b) &&
    ascending (axisU b 7408 16) && getU b 7408 2 == 0 && ascending (axisU b 7440 16) && getU b 7440 2 == 0 &&
    rows.all (fun j => (rowOf b 208 64 j).zip ((rowOf b 208 64 j).drop 1) |>.all fun e => decide (e.1 ≤ e.2)) &&
    rows.all (fun j => decide (getU b (208 + 128 * j) 2 + 1000 ≤ getU b (208 + 128 * j + 126) 2)) &&
    (axisU b 4304 512).all (· != 0) && (axisU b 6352 512).all (· != 0) && mtQ b != 0 && decide (getU b 16 1 ≤ 7) &&
    rows.all (fun j => nonincreasing (rowOf b 7472 16 j) && nonincreasing (rowOf b 7728 16 j))

/-! ## State and covariance -/

def xAt (x : List Rat) (k : Nat) : Rat := x.getD k 0

/-- Index of element (r, c) in the upper triangle. -/
def triIdx (r c : Nat) : Nat := let a := min r c; let b := max r c; 5 * a - a * (a - 1) / 2 + (b - a)
def pAt (p : List Rat) (r c : Nat) : Rat := p.getD (triIdx r c) 0

/-- The triangle of a symmetric function of row and column. -/
def triangle (f : Nat → Nat → Rat) : List Rat :=
  (List.range 5).flatMap fun r => (List.range (5 - r)).map fun k => f r (r + k)

/-- Bounds of R127: SOC and Q. -/
def clipState (b : Bytes) (x : List Rat) : List Rat :=
  [clampR (-5 / 100) (105 / 100) (xAt x 0), xAt x 1, if mtRc2 b then xAt x 2 else 0, xAt x 3,
    clampR (mtQC b / 2) (12 * mtQC b / 10) (xAt x 4)]

/-- With the second branch out of use, v_p2 is 0 and so are its row and column (R134). -/
def clipCov (b : Bytes) (p : List Rat) : List Rat :=
  if mtRc2 b then p else triangle fun r c => if r = 2 ∨ c = 2 then 0 else pAt p r c

def signR (x : Rat) : Rat := if 0 < x then 1 else if x < 0 then -1 else 0

/-- The state after `dt` s with charge `dq` C (R123), g the resistance growth. -/
def propagate (b : Bytes) (g t dt dq : Rat) (x : List Rat) : List Rat :=
  let soc := xAt x 0
  let q := xAt x 4
  let eta := if 0 < dq then 1 - onT b 7376 t / 1000000 else 1
  let i := if dt = 0 then 0 else dq / dt
  let a1 := Config.expR (-(dt / tauP1Of b soc t))
  let a2 := Config.expR (-(dt / tauP2Of b soc t))
  let bh := Config.expR (-(onT b 7392 t / 100 * absR (eta * dq) / q))
  [soc + eta * dq / q, a1 * xAt x 1 + rP1Of b soc t * g * (1 - a1) * i,
    if mtRc2 b then a2 * xAt x 2 + rP2Of b soc t * g * (1 - a2) * i else 0,
    if dq = 0 then xAt x 3 else bh * xAt x 3 + (1 - bh) * signR dq, q]

/-- Columns of the factorisation L·D·Lᵀ of 5 × P, each with its pivot; none where P is not positive definite. A branch
out of use has a zero column. -/
def ldl (b : Bytes) (p : List Rat) : Option (List (Rat × List Rat)) :=
  (List.range 5).foldl (fun acc j => acc.bind fun cols =>
    let s (r : Nat) : Rat := 5 * pAt p r j - (cols.map fun e => xAt e.2 r * xAt e.2 j * e.1).sum
    let d := s j
    if 0 < d then some (cols ++ [(d, (List.range 5).map fun r => if r < j then 0 else if r = j then 1 else s r / d)])
    else if j = 2 ∧ !mtRc2 b then some (cols ++ [(0, List.replicate 5 0)])
    else none) (some [])

/-- The eleven sigma points, clipped (R124, R127). -/
def sigmaPoints (b : Bytes) (x : List Rat) (cols : List (Rat × List Rat)) : List (List Rat) :=
  let shift (k : Rat) : List (List Rat) := cols.map fun e =>
    (List.range 5).map fun r => xAt x r + k * xAt e.2 r * Config.sqrtR e.1
  (x :: shift 1 ++ shift (-1)).map (clipState b)

/-- Mean and covariance of propagated points with the weights of R124, plus the process noise of `dt` s. -/
def recombine (pts : List (List Rat)) (noise : List Rat) (dt : Rat) : List Rat × List Rat :=
  let ten := pts.drop 1
  let mean := (List.range 5).map fun r => (ten.map fun y => xAt y r).sum / 10
  let dev (y : List Rat) (r : Nat) : Rat := xAt y r - xAt mean r
  let cov := triangle fun r c =>
    2 * dev (pts.getD 0 mean) r * dev (pts.getD 0 mean) c + (ten.map fun y => dev y r * dev y c).sum / 10 +
      (if r = c then xAt noise r * dt else 0)
  (mean, cov)

/-- The time update (R123, R124), each component in binary32: mean, covariance and the propagated points. -/
def timeUpdate (n : Nat) (b : Bytes) (g t dt dq : Rat) (noise x p : List Rat) :
    Option (List Rat × List Rat × List (List Rat)) :=
  (ldl b p).map fun cols =>
    let pts := (sigmaPoints b x cols).map (propagate b g t dt dq)
    let (m, c) := recombine pts noise dt
    (clipState b (m.mapIdx fun k v => Config.f32 n k v), clipCov b (c.mapIdx fun k v => Config.f32 n (5 + k) v), pts)

/-- The terminal voltage the model predicts at current `i` A (R123), V. -/
def voltageOf (b : Bytes) (t i rOhm : Rat) (x : List Rat) : Rat :=
  ocvOf b (xAt x 0) t + hystOf b (xAt x 0) t * xAt x 3 + xAt x 1 + xAt x 2 + i * rOhm

/-- The points of the measurement update: the propagated ones, or points formed anew from the time update's result; the
manual does not state which (log entry 8). -/
def measurePoints (b : Bytes) (x p : List Rat) (pts : List (List Rat)) : Option (List (List Rat)) :=
  if Config.redraws then (ldl b p).map (sigmaPoints b x) else some pts

/-- The measurement update (R124, R125) at voltage `v` V with variance `r`: state, triangle, innovation and normalised
innovation squared, each in binary32. -/
def measurementUpdate (n : Nat) (b : Bytes) (pts : List (List Rat)) (t i rOhm r v : Rat) (x p : List Rat) :
    List Rat × List Rat × Rat × Rat :=
  let ys := pts.map (voltageOf b t i rOhm)
  let mean := (ys.drop 1).sum / 10
  let w (k : Nat) : Rat := if k = 0 then 2 else 1 / 10
  let var := r + (ys.mapIdx fun k y => w k * ((y - mean) * (y - mean))).sum
  let cross (j : Nat) : Rat := ((pts.zip ys).mapIdx fun k e => w k * ((xAt e.1 j - xAt x j) * (e.2 - mean))).sum
  let innov := v - mean
  let x2 := (List.range 5).map fun j => Config.f32 n (20 + j) (xAt x j + cross j / var * innov)
  let p2 := (triangle fun j k => pAt p j k - cross j * cross k / var).mapIdx fun k y => Config.f32 n (25 + k) y
  (x2, p2, Config.f32 n 40 innov, Config.f32 n 41 (innov * innov / var))

/-- The variance of h at most 0.0025 and no cross-covariance with it (R141). -/
def anchorCov (p : List Rat) : List Rat :=
  triangle fun r c => if r = 3 ∧ c = 3 then min (pAt p 3 3) (25 / 10000) else if r = 3 ∨ c = 3 then 0 else pAt p r c

/-- SOC and its standard deviation by inverting OCV + M × h at a voltage (R136): the first segment that holds the voltage,
a flat one by its midpoint. -/
def invertOcv (b : Bytes) (t h v sigmaV : Rat) : Rat × Rat × Bool :=
  let f (x : Rat) : Rat := ocvOf b x t + hystOf b x t * h
  let segs := (socAxis b).zip ((socAxis b).drop 1)
  let pick := segs.find? fun e => decide (min (f e.1) (f e.2) ≤ v) && decide (v ≤ max (f e.1) (f e.2))
  let seg := pick.getD (if v < f 0 then segs.getD 0 (0, 1) else segs.getD 62 (0, 1))
  let slope := (f seg.2 - f seg.1) / (seg.2 - seg.1)
  let soc := if pick.isNone then (if v < f 0 then 0 else 1)
    else if f seg.1 = f seg.2 then (seg.1 + seg.2) / 2
    else seg.1 + (seg.2 - seg.1) * (v - f seg.1) / (f seg.2 - f seg.1)
  let sd := if slope = 0 then 20 / 100 else clampR (5 / 1000) (20 / 100) (absR (sigmaV / slope))
  (soc, sd, decide (absR slope < 5 / 100))

end Sys2Proof.Machine
end

