-- ==== Sys2Proof/Machine/Flags.lean ====
section
/-! DEFINITION. Codes, status words and derived bits that registers, payloads and records carry. -/

namespace Sys2Proof.Machine

/-! ## Population (00_scope.md R2, R3, R12, R13) -/

def State.strings (s : State) : Nat := match s.variant with | .kzv4096 => 8 | .kzv1024 => 2
def State.phases (s : State) : Nat := 4 * s.strings
def State.cells (s : State) : Nat := 512 * s.strings
def State.isStr (s : State) (i : Nat) : Bool := decide (i < s.strings)

/-! ## Access to the indexed parts -/

def State.strAt (s : State) (i : Nat) : Str := s.str.getD i {}
def State.modStr (s : State) (i : Nat) (f : Str → Str) : State := { s with str := s.str.modify i f }
def State.hviAt (s : State) (i : Nat) : HviStr := s.hviStr.getD i {}
def State.modHvi (s : State) (i : Nat) (f : HviStr → HviStr) : State := { s with hviStr := s.hviStr.modify i f }
def State.ringAt (s : State) (i : Nat) : Ring := s.rings.ring.getD i {}
def State.modRing (s : State) (i : Nat) (f : Ring → Ring) : State :=
  { s with rings := { s.rings with ring := s.rings.ring.modify i f } }
def Ring.mon (r : Ring) (m : Nat) : Monitor := r.mons.getD m {}
def Ring.modMon (r : Ring) (m : Nat) (f : Monitor → Monitor) : Ring := { r with mons := r.mons.modify m f }
def State.monAt (s : State) (i m : Nat) : Monitor := (s.ringAt i).mon m
def State.modMon (s : State) (i m : Nat) (f : Monitor → Monitor) : State := s.modRing i fun r => r.modMon m f
def State.cellAt (s : State) (c : Nat) : Cell := tblGet {} c s.cee.cells
def State.modCell (s : State) (c : Nat) (f : Cell → Cell) : State :=
  { s with cee := { s.cee with cells := tblSet c (f (s.cellAt c)) s.cee.cells } }
def State.estAt (s : State) (i : Nat) : Est := s.cee.est.getD i {}
def State.modEst (s : State) (i : Nat) (f : Est → Est) : State :=
  { s with cee := { s.cee with est := s.cee.est.modify i f } }
def State.balAt (s : State) (i : Nat) : Bal := s.bal.getD i {}
def State.modBal (s : State) (i : Nat) (f : Bal → Bal) : State := { s with bal := s.bal.modify i f }
def State.convAt (s : State) (i : Nat) : Conv := s.conv.getD i {}
def State.modConv (s : State) (i : Nat) (f : Conv → Conv) : State := { s with conv := s.conv.modify i f }
def State.phaseAt (s : State) (p : Nat) : Phase := s.phase.getD p {}
def State.modPhase (s : State) (p : Nat) (f : Phase → Phase) : State := { s with phase := s.phase.modify p f }
def State.gx2At (s : State) (p : Nat) : Gx2 := s.gx2.getD p {}
def State.modGx2 (s : State) (p : Nat) (f : Gx2 → Gx2) : State := { s with gx2 := s.gx2.modify p f }
def State.contAt (s : State) (i : Nat) : Cont := s.saf.cont.getD i {}
def State.modCont (s : State) (i : Nat) (f : Cont → Cont) : State :=
  { s with saf := { s.saf with cont := s.saf.cont.modify i f } }
def State.chan (s : State) : Channel → Chan | .sp => s.saf.sp | .sloe => s.saf.sloe
def State.modChan (s : State) (c : Channel) (f : Chan → Chan) : State :=
  match c with
  | .sp => { s with saf := { s.saf with sp := f s.saf.sp } }
  | .sloe => { s with saf := { s.saf with sloe := f s.saf.sloe } }
def Chan.at (c : Chan) (i : Nat) : ChanStr := c.str.getD i {}
def Chan.mod (c : Chan) (i : Nat) (f : ChanStr → ChanStr) : Chan := { c with str := c.str.modify i f }
def State.modChanStr (s : State) (c : Channel) (i : Nat) (f : ChanStr → ChanStr) : State :=
  s.modChan c fun ch => ch.mod i f
def State.efAt (s : State) (n : Nat) : Ef := s.rack.ef.getD n {}
def State.modEf (s : State) (n : Nat) (f : Ef → Ef) : State :=
  { s with rack := { s.rack with ef := s.rack.ef.modify n f } }
def State.tiAt (s : State) (n : Nat) : Ti := s.th.ti.getD n {}
def State.modTi (s : State) (n : Nat) (f : Ti → Ti) : State := { s with th := { s.th with ti := s.th.ti.modify n f } }
def State.canAt (s : State) (c : Nat) : Can := s.net.can.getD c {}
def State.modCan (s : State) (c : Nat) (f : Can → Can) : State :=
  { s with net := { s.net with can := s.net.can.modify c f } }
def State.portAt (s : State) (n : Nat) : NetPort := s.net.port.getD n {}
def State.modPort (s : State) (n : Nat) (f : NetPort → NetPort) : State :=
  { s with net := { s.net with port := s.net.port.modify n f } }
def State.railAt (s : State) (r : Nat) : Rail := s.seq.rails.getD r {}
def State.modRail (s : State) (r : Nat) (f : Rail → Rail) : State :=
  { s with seq := { s.seq with rails := s.seq.rails.modify r f } }
def State.loopAt (s : State) (n : Nat) : LoopSlot := s.le.slot.getD n {}
def State.modLoop (s : State) (n : Nat) (f : LoopSlot → LoopSlot) : State :=
  { s with le := { s.le with slot := s.le.slot.modify n f } }

def State.setHpr (s : State) (f : Hpr → Hpr) : State := { s with hpr := f s.hpr }
def State.setPwr (s : State) (f : Power → Power) : State := { s with pwr := f s.pwr }
def State.setRed (s : State) (f : Red → Red) : State := { s with red := f s.red }
def State.setPlg (s : State) (f : Plg → Plg) : State := { s with plg := f s.plg }
def State.setFlt (s : State) (f : Flt → Flt) : State := { s with flt := f s.flt }
def State.setDsp (s : State) (f : Dsp → Dsp) : State := { s with dsp := f s.dsp }
def State.setRack (s : State) (f : Rack → Rack) : State := { s with rack := f s.rack }
def State.setTsu (s : State) (f : Tsu → Tsu) : State := { s with tsu := f s.tsu }
def State.setSaf (s : State) (f : Saf → Saf) : State := { s with saf := f s.saf }
def State.setApp (s : State) (f : App → App) : State := { s with app := f s.app }
def State.setTpe (s : State) (f : Tpe → Tpe) : State := { s with tpe := f s.tpe }
def State.setCee (s : State) (f : Cee → Cee) : State := { s with cee := f s.cee }
def State.setSeq (s : State) (f : Seq → Seq) : State := { s with seq := f s.seq }
def State.setUpd (s : State) (f : Upd → Upd) : State := { s with upd := f s.upd }
def State.setLe (s : State) (f : Le → Le) : State := { s with le := f s.le }

/-! ## Codes -/

def portCode : Port → Nat | .host => 0 | .mgmt => 1 | .app => 2

/-- UNIT of *HPR_UNIT* (15_host_interface.md R432); none in OFF and POWERUP (R429). -/
def UnitState.code? : UnitState → Option Nat
  | .off => none | .powerup => none | .boot => some 0 | .recovery => some 1 | .safeHold => some 2
  | .resync => some 3 | .standby => some 4 | .active => some 5 | .solo => some 6

def UnitState.code (u : UnitState) : Nat := u.code?.getD 0

/-- The four roles (01_system.md R21). -/
def UnitState.isRole : UnitState → Bool
  | .resync | .standby | .active | .solo => true
  | _ => false

/-- The ACTIVE role or SOLO: the unit that commands strings (01_system.md R24). -/
def UnitState.commands : UnitState → Bool
  | .active | .solo => true
  | _ => false

/-- Role code of *XCL beat* (11_redundancy.md R327). -/
def UnitState.beatCode : UnitState → Nat
  | .resync => 1 | .standby => 2 | .active => 3 | .solo => 4 | _ => 0

def StrState.code : StrState → Nat
  | .isolated => 0 | .precharge => 1 | .connected => 2 | .regulating => 3 | .halted => 4 | .retired => 5

def Tier.code : Tier → Nat | .safe => 0 | .p => 1 | .m => 2 | .f => 3

/-- POWER of *HPR_UNIT*. RETENTION and unpowered have no code (R429). -/
def PowerState.code : PowerState → Nat
  | .active => 0 | .float => 1 | .dormant => 2 | .holdup => 3 | _ => 0

def fnBit : SafetyFn → Nat
  | .ov => 0 | .uv => 1 | .ot => 2 | .oc => 3 | .iso => 4 | .ext => 5 | .comm => 6 | .cont => 7 | .run => 8

/-- No string is connected: every one ISOLATED, HALTED or RETIRED. -/
def State.allOpen (s : State) : Bool :=
  (s.str.take s.strings).all fun x => x.state == .isolated || x.state == .halted || x.state == .retired

/-! ## HPR words (15_host_interface.md R430, R432) -/

/-- *HPR_UNIT*: unit code, power code and the state of each string, 7 outside the population. -/
def hprUnit (s : State) : Nat :=
  s.unit.code + 16 * s.pwr.state.code +
    256 * ((List.range 8).map fun i =>
      8 ^ i * (if i < s.strings then (s.strAt i).state.code else 7)).sum

/-- DORMANT, or a HOLD-UP entered from it, in which nothing more runs (02_power_states_clocks.md, *Power states*). -/
def State.asleep (s : State) : Bool := s.pwr.state == .dormant || (s.pwr.state == .holdup && s.pwr.prev == .dormant)

/-- Posted slots are held: in BOOT, and in DORMANT until the wake (R429). -/
def hprHold (s : State) : Bool := s.unit == .boot || s.asleep

def hprStatus (s : State) : Nat :=
  (s.hpr.ready && !hprHold s).toNat + 2 * s.hpr.rom.toNat + 4 * s.hpr.handover.toNat + 8 * (hprHold s).toNat

def hprId (s : State) : Nat :=
  Config.blockVersion % 65536 + 65536 * (match s.variant with | .kzv4096 => 0 | .kzv1024 => 1)

/-- The STATUS byte of the HOST port (R430). -/
def statusByte (s : State) : Nat :=
  (s.hpr.ready && !hprHold s).toNat + 2 * (decide (s.hpr.done ≠ 0)).toNat + 4 * (decide (s.hpr.err ≠ 0)).toNat +
    8 * s.hpr.handover.toNat

/-- The port a slot belongs to (R432, bits [2n+1:2n] of HPR_SLOT_PORT). -/
def slotPort (s : State) (n : Nat) : Port :=
  match (s.hpr.slotPort.toNat / 4 ^ n) % 4 with
  | 0 => .host
  | 1 => .mgmt
  | _ => .app

/-- The HOST port is served (R429): not in OFF, POWERUP and RETENTION. -/
def hostServed (s : State) : Bool := s.unit != .off && s.unit != .powerup

end Sys2Proof.Machine
end

