-- ==== Sys2Proof/Machine/Ops.lean ====
section
/-! DEFINITION. Operations that several families share: time, interrupt edges, Peat records, unit and string
transitions, detected errors and retirement, and the completion of a command. -/

namespace Sys2Proof.Machine

/-- Nanoseconds in a second, a millisecond and a microsecond. -/
def nsS : Nat := 1000000000
def nsMs : Nat := 1000000
def nsUs : Nat := 1000

/-! ## Time -/

/-- TIME runs: not failed (02_power_states_clocks.md R50) and not lost with all power. -/
def timeRuns (s : State) : Bool := !s.pwr.failedClocks.contains .time && !s.pwr.failedClocks.contains .xref

/-- What the servo takes from `d` ns of TIME: the offset still to be slewed, at most 40 ppm (14_time.md R416). -/
def slewed (slew : Int) (d : Nat) : Int := clampI (-(d * 40 / 1000000 : Nat)) (d * 40 / 1000000 : Nat) slew

/-- Elapsed time moves to `t`, never back. TSU time moves with it while TIME runs (log entry 2), less what is slewed. -/
def State.advance (s : State) (t : Nat) : State :=
  let d := t - s.clk
  { s with
    clk := s.clk + d
    tsu :=
      if timeRuns s then
        let c := slewed s.tsu.slew d
        { s.tsu with now := ((s.tsu.now + d : Nat) - c).toNat, slew := s.tsu.slew - c }
      else s.tsu }

/-- SUP programs a fixed trigger (14_time.md R422): first instant and period, TSU ns. -/
def progTrigger (s : State) (n at_ period : Nat) : State :=
  { s with tsu := { s.tsu with trig := s.tsu.trig.modify n fun (x : Trigger) =>
      { x with arm := true, late := false, at_ := at_, frac := 0, period := period, count := 0, firedT := none } } }

/-- A condition that began at `since` has held for `d` ns by now. -/
def heldFor (s : State) (since : Option Nat) (d : Nat) : Bool :=
  match since with
  | none => false
  | some t => decide (t + d ≤ s.clk)

/-- Keeps the start of a condition: set when it first holds, cleared when it fails. -/
def track (s : State) (holds : Bool) (since : Option Nat) : Option Nat :=
  if holds then some (since.getD s.clk) else none

/-- Draws a fresh free value: its index, and the state with the counter advanced (log entry 3). -/
def State.draw (s : State) : State := { s with free := s.free + 1 }

/-! ## Interrupt sources (17_app_core_icu.md R482, R483) -/

/-- A source that never fires: RSV in *Private sources* and *Shared sources*. -/
def icuReserved (g : Target) (n : Nat) : Bool :=
  (decide (g ≠ .sup ∧ 8 ≤ n ∧ n ≤ 23)) || (decide (g = .host ∧ n = 7)) || decide (86 ≤ n ∧ n ≤ 95)

def State.tgt (s : State) : Target → Tgt | .sup => s.icu.sup | .app => s.icu.app | .host => s.icu.host

def State.modTgt (s : State) (g : Target) (f : Tgt → Tgt) : State :=
  match g with
  | .sup => { s with icu := { s.icu with sup := f s.icu.sup } }
  | .app => { s with icu := { s.icu with app := f s.icu.app } }
  | .host => { s with icu := { s.icu with host := f s.icu.host } }

/-- Source `n` as the frame of target `g` numbers it. -/
def State.srcAt (s : State) (g : Target) (n : Nat) : Src :=
  if n < 32 then
    (match g with | .sup => s.icu.psup | .app => s.icu.papp | .host => s.icu.phost).getD n {}
  else s.icu.shared.getD (n - 32) {}

def State.modSrc (s : State) (g : Target) (n : Nat) (f : Src → Src) : State :=
  if n < 32 then
    match g with
    | .sup => { s with icu := { s.icu with psup := s.icu.psup.modify n f } }
    | .app => { s with icu := { s.icu with papp := s.icu.papp.modify n f } }
    | .host => { s with icu := { s.icu with phost := s.icu.phost.modify n f } }
  else { s with icu := { s.icu with shared := s.icu.shared.modify (n - 32) f } }

/-- Sets a source pending; on a disabled target other than SUP it is stranded from now on (R491). -/
def icuPend (s : State) (g : Target) (n : Nat) : State :=
  let r := (s.srcAt g n).route
  let en := (s.tgt r).en || r == .sup
  s.modSrc g n fun x => { x with pend := true, stranded := if en then x.stranded else some (x.stranded.getD s.clk) }

/-- A rising edge of source `n` of the bank of `g` (R483). The ICU stands reset in OFF and POWERUP (R492). While the
source is redirected, SUP clears it and counts it (R491). -/
def icuPrivate (s : State) (g : Target) (n : Nat) : State :=
  if icuReserved g n || !hostServed s then s
  else if (s.srcAt g n).redirected then s.modSrc g n fun y => { y with redirCount := y.redirCount + 1 }
  else icuPend s g n

/-! ## The Peat log (18_faults_peat_log.md R503 to R507) -/

/-- Record severity levels. -/
def lvInfo : Nat := 0
def lvWarn : Nat := 1
def lvErr : Nat := 2
def lvCrit : Nat := 3

/-- Time and severity of a record (R503, R505): AON time with bit 7 before the TSU holds time, in DORMANT, or while
SYS has failed; bit 6 while the TSU is not LOCKED. -/
def peatTime (s : State) : Nat × Nat :=
  let aon := !s.tsu.timeLoaded || s.asleep || s.pwr.failedClocks.contains .sys ||
    s.pwr.failedClocks.contains .xref
  (if aon then s.clk else s.tsu.now,
    (if s.tsu.sync == .locked then 0 else 64) + (if aon then 128 else 0))

/-- Drops a record (R507). -/
def Plg.drop (p : Plg) : Plg := { p with dropped := p.dropped + 1, droppedLife := p.droppedLife + 1 }

/-- Puts a record at the next index with the next sequence number. -/
def Plg.put (p : Plg) (r : Peat) : Plg :=
  { p with log := { r with seq := p.nextSeq } :: p.log, nextIndex := p.nextIndex + 1
           nextSeq := (p.nextSeq + 1) % 2 ^ 32 }

/-- Writes a record of level `lv`: the reserve zone, the last index and the full log (R507). -/
def Plg.write (p : Plg) (lv : Nat) (r : Peat) : Plg :=
  if p.full then p.drop
  else if lv = 0 ∧ 126976 ≤ p.nextIndex then p.drop
  else if 131071 ≤ p.nextIndex then
    let full : Peat := { seq := 0, code := 2, source := 0x19, severity := 1 + r.severity / 64 * 64, time := r.time,
                         p0 := 131071, p1 := 0, p2 := 0 }
    { (p.drop).put full with full := true }
  else p.put r

/-- An information record is suppressed when 8 of its code and source were written within the last second (R506). -/
def Plg.suppresses (p : Plg) (now code src : Nat) : Bool :=
  decide (8 ≤ (p.recent.filter fun e => e.1 = code ∧ e.2.1 = src ∧ now < e.2.2 + nsS).length)

def Plg.remember (p : Plg) (now code src : Nat) : Plg :=
  { p with recent := (code, src, now) :: p.recent.filter fun e => now < e.2.2 + nsS }

/-- PLG records: not in RETENTION and not without power (R505). -/
def plgRuns (s : State) : Bool := s.pwr.state != .retention && s.pwr.state != .unpowered

/-- Submits a record. In DORMANT it goes to the AON buffer of 64 records (R505). A record of warning level or above
raises HOST source 6 (17_app_core_icu.md R482). -/
def record (s : State) (code src lv p0 p1 p2 : Nat) : State :=
  if !plgRuns s then s
  else
    let (tm, sev) := peatTime s
    let r : Peat := { seq := 0, code := code, source := src, severity := lv + sev, time := tm
                      p0 := p0 % 2 ^ 32, p1 := p1 % 2 ^ 32, p2 := p2 % 2 ^ 32 }
    if s.asleep then
      if 64 ≤ s.plg.buffer.length then s.setPlg Plg.drop
      else s.setPlg fun p => { p with buffer := p.buffer ++ [r] }
    else if lv = 0 ∧ code ≠ 0x50 ∧ s.plg.suppresses s.clk code src then
      s.setPlg fun p => { p with suppressed := p.suppressed + 1 }
    else
      let s := s.setPlg fun p => ((p.write lv r).remember s.clk code src)
      if lv = 0 then s else icuPrivate s .host 6

/-- Source codes (*Source codes*). -/
def srcSup : Nat := 0
def srcApp : Nat := 1
def srcSp : Nat := 2
def srcSloe : Nat := 3
def srcCee : Nat := 4
def srcTpe : Nat := 5
def srcLe : Nat := 6
def srcHvi : Nat := 7
def srcFlc (n : Nat) : Nat := 8 + n
def srcTsu : Nat := 0x10
def srcEmac : Nat := 0x11
def srcCan : Nat := 0x12
def srcIcu : Nat := 0x13
def srcPmu : Nat := 0x15
def srcEfc : Nat := 0x16
def srcThm : Nat := 0x17
def srcAux : Nat := 0x18
def srcPlg : Nat := 0x19
def srcAon : Nat := 0x1A
def srcScrub : Nat := 0x1B

/-- A group record (R504): the group byte of the rule's chapter, the rule's number, object and value. -/
def groupRecord (s : State) (grp src lv rule obj val : Nat) : State := record s (grp * 256) src lv rule obj val

/-- Group bytes (*Command groups*). -/
def gSys : Nat := 0x01
def gStr : Nat := 0x02
def gDsp : Nat := 0x03
def gEst : Nat := 0x04
def gTpe : Nat := 0x05
def gBal : Nat := 0x06
def gCnv : Nat := 0x07
def gLep : Nat := 0x08
def gSaf : Nat := 0x09
def gRed : Nat := 0x0A
def gAux : Nat := 0x0B
def gSeq : Nat := 0x0C
def gTim : Nat := 0x0D
def gNet : Nat := 0x0E
def gCan : Nat := 0x0F
def gLog : Nat := 0x10
def gUpd : Nat := 0x11

/-- The record of a redirected source, at most one in each second (R491). -/
def redirRecord (s : State) (g : Target) (n : Nat) : State :=
  let x := s.srcAt g n
  if heldFor s (some (x.redirRecT.getD 0)) nsS || x.redirRecT.isNone then
    groupRecord (s.modSrc g n fun y => { y with redirRecT := some s.clk }) gSys srcIcu lvInfo 491 n x.redirCount
  else s

/-- An edge of shared source `n` (R483), with the record of R491 while it is redirected. -/
def icuShared (s : State) (n : Nat) : State :=
  let s' := icuPrivate s .sup n
  if (s.srcAt .sup n).redirected then redirRecord s' .sup n else s'

/-! ## Unit word and unit state -/

/-- A change of HPR_UNIT raises its sources (15_host_interface.md R432, 17_app_core_icu.md R482). -/
def syncUnit (s : State) : State :=
  let w := hprUnit s
  if w = s.hpr.lastUnit then s
  else
    let s := s.setHpr fun h => { h with lastUnit := w }
    let s := icuPrivate s .app 2
    if s.hpr.irqEn.getLsbD 17 then icuPrivate s .host 2 else s

/-- The insulation monitor in mode INJECT injects while the unit commands strings and not otherwise (03_string_measurement.md
R71); in mode TEST injection starts again at BOOT (R70). -/
def isoRole (s : State) : State :=
  let iso := s.hvi.iso
  let on := s.unit.commands
  if iso.mode == .inject && iso.injecting != on then
    { s with hvi := { s.hvi with iso := { iso with injecting := on, startT := s.clk, handoverWait := false, handover := false
                                                   result := none, lows := 0, highs := 0 } } }
  else if iso.mode == .test && s.unit == .boot then
    { s with hvi := { s.hvi with iso := { iso with injecting := true, startT := s.clk, result := none } } }
  else s

/-- Enters unit state `u` for the reason of rule `cause`; recorded where both states have a code (R504). -/
def setUnit (s : State) (u : UnitState) (cause : Nat) : State :=
  if s.unit == u then s
  else
    let old := s.unit
    let s := isoRole { s with unit := u }
    let s := { s with app := if u.isRole then s.app else { s.app with run := 0 } }
    let s := s.setHpr fun h => { h with ready := u.isRole || u == .safeHold || u == .recovery, rom := u == .recovery }
    let s := match old.code?, u.code? with
      | some a, some b => record s 0x10 srcSup (if u == .safeHold || u == .recovery then lvCrit else lvInfo) a b cause
      | _, _ => s
    syncUnit s

/-- ROLE record (R504), warning level on a takeover. -/
def roleRecord (s : State) (old : UnitState) (takeover : Bool) : State :=
  record s 0x40 srcSup (if takeover then lvWarn else lvInfo) old.beatCode s.unit.beatCode s.red.claim

/-- RETENTION and unpowered have no code (R429). -/
def PowerState.coded : PowerState → Bool
  | .retention | .unpowered => false
  | _ => true

/-- Enters power state `p`, recorded where both states have a code (R504). -/
def setPower (s : State) (p : PowerState) : State :=
  if s.pwr.state == p then s
  else
    let old := s.pwr.state
    let s := s.setPwr fun w => { w with state := p }
    syncUnit (if old.coded && p.coded then record s 0x13 srcAon lvInfo old.code p.code 0 else s)

/-- FLOAT ends (02_power_states_clocks.md R41). -/
def exitFloat (s : State) : State :=
  if s.pwr.state == .float then
    setPower (s.setPwr fun p => { p with floatRaised := false }) .active
  else s

/-! ## Completion of a command (15_host_interface.md R433, R434, R449) -/

/-- Host addresses of a slot and of the window (*Host address map*). -/
def slotAddr (n : Nat) : Nat := 0x1000 + 0x100 * n
def windowBase : Nat := 0x04000000

def State.desc (s : State) (d : Nat) : Desc := s.hpr.desc.getD d {}
def State.modDesc (s : State) (d : Nat) (f : Desc → Desc) : State :=
  s.setHpr fun h => { h with desc := h.desc.modify d f }

/-- The response envelope in slot `n`: payload, length, detail and port, status last (R433, R434). -/
def slotRespond (s : State) (n status detail : Nat) (port : Port) (payload : Bytes) : State :=
  let m := memWrites s.mem (slotAddr n + 16) payload
  let m := memWrites m (slotAddr n + 4) (leU 2 payload.length)
  let m := memWrites m (slotAddr n + 10) (leU 2 detail ++ leU 1 (portCode port) ++ [0, 0, 0])
  { s with mem := memWrites m (slotAddr n + 8) (leU 2 status) }

/-- The 32 newest results of each port, each for 60 s (R449). -/
def cachePut (now : Nat) (c : List Done) (d : Done) : List Done :=
  let others := c.filter fun e => e.port ≠ d.port ∧ now < e.at_ + 60 * nsS
  let mine := c.filter fun e => e.port = d.port ∧ now < e.at_ + 60 * nsS
  d :: mine.take 31 ++ others

/-- The RESPONSE frame of an MGMT slot leaves, and the slot is free again (R444). -/
def mgmtRespond (s : State) (n status detail : Nat) (op seq : Nat) (payload : Bytes) : State :=
  let (cl, net) := (s.hpr.mgmtSlot.find? fun e => e.1 = n).map (fun e => e.2) |>.getD (0, 0)
  let env := leU 2 op ++ leU 2 seq ++ leU 2 payload.length ++ leU 2 0 ++ leU 2 status ++ leU 2 detail ++
    leU 1 (portCode .mgmt) ++ [0, 0, 0] ++ payload
  s.setHpr fun h =>
    { h with
      mgmtTx := { net := net, client := cl, type := 2, body := env } :: h.mgmtTx
      clients := h.clients.modify cl fun c => { c with txSeq := c.txSeq + 1 }
      mgmtSlot := h.mgmtSlot.filter fun e => e.1 ≠ n
      done := h.done &&& ~~~ (BitVec.twoPow 16 n) }

/-- Completes request `q` of opcode `op`: response in its slot, own cleared and done set in one step, the completion
source unless flags bit 1 asks for none, the result cache, and descriptors back to their requester (R434). -/
def finish1 (s : State) (op : Nat) (q : Req) (status detail : Nat) (payload : Bytes) : State :=
  let d : Done := { port := q.port, slot := q.slot, seq := q.seq, opcode := op, status := status, detail := detail
                    payload := payload, at_ := s.clk }
  let s := s.setHpr fun h =>
    { h with lastDone := some d, cache := cachePut s.clk h.cache d
             desc := h.desc.map fun e =>
               if e.kind = 1 ∧ e.own ∧ e.requester = portCode q.port ∧ e.opcode = op ∧ e.seq = q.seq then
                 { e with own := false } else e }
  match q.slot with
  | none => s
  | some n =>
    let s := slotRespond s n status detail q.port payload
    let s := s.setHpr fun h =>
      { h with own := h.own &&& ~~~ (BitVec.twoPow 16 n), done := h.done ||| BitVec.twoPow 16 n }
    match q.port with
    | .mgmt => mgmtRespond s n status detail op q.seq payload
    | .host => if q.noIrq || !s.hpr.irqEn.getLsbD n then s else icuPrivate s .host 0
    | .app => if q.noIrq then s else icuPrivate s .app 0

/-- Completes a command and every retry of it that waits (R449). -/
def completeExec (s : State) (e : Exec) (status detail : Nat) (payload : Bytes) : State :=
  let fs := ((s.hpr.exec.find? fun x => x.req = e.req ∧ x.opcode = e.opcode).getD e).followers
  let s := s.setHpr fun h => { h with exec := h.exec.filter fun x => x.req ≠ e.req ∨ x.opcode ≠ e.opcode }
  fs.foldl (fun s q => finish1 s e.opcode q status detail payload) (finish1 s e.opcode e.req status detail payload)

/-- Status codes (*Status codes*). -/
def stOk : Nat := 0
def stBadOpcode : Nat := 1
def stBadLength : Nat := 2
def stPopulation : Nat := 3
def stPort : Nat := 4
def stState : Nat := 5
def stArg : Nat := 6
def stOwner : Nat := 7
def stResource : Nat := 8
def stAborted : Nat := 9
def stIntegrity : Nat := 0xA
def stFailed : Nat := 0xB

/-- State-conflict details (R448). -/
def conflictUnit (s : State) : Nat := s.unit.code
def conflictStr (s : State) (i : Nat) : Nat := 0x1000 + 256 * i + (s.strAt i).state.code
def conflictPower (s : State) : Nat := 0x2000 + s.pwr.state.code
def conflictObj (n : Nat) : Nat := 0x3000 + n % 0x1000

/-! ## Strings (01_system.md R25 to R28) -/

/-- Rules by which a string moves other than by a command or trip: tiers, power, precharge and close faults, channels and
roles (19_update.md R526). -/
def strayCause (cause : Nat) : Bool := [28, 46, 47, 237, 284, 285, 323, 335, 567].contains cause

/-- The string moves, or begins to, by none of a command or trip. -/
def strayStr (s : State) (i : Nat) : State := s.modStr i fun x => { x with strayT := some s.clk }

/-- Moves string `i` to `new` for the reason of rule `cause`. Leaving REGULATING, or entering HALTED or RETIRED,
removes the string from allocation (R27). -/
def setStr (s : State) (i : Nat) (new : StrState) (cause : Nat) : State :=
  let old := (s.strAt i).state
  if old == new then s
  else
    let s := if strayCause cause then strayStr s i else s
    let s := s.modStr i fun x => { x with state := new, included := false }
    syncUnit (record s 0x11 srcSup lvInfo i (old.code * 256 + new.code) cause)

/-- Ends the command in progress on string `i` with `status`. -/
def endTrans (s : State) (i status detail : Nat) : State :=
  match (s.strAt i).trans with
  | none => s
  | some e => completeExec (s.modStr i fun x => { x with trans := none }) e status detail []

/-- Ends it ABORTED, with the string's state code as detail (R26, R446). -/
def abortTrans (s : State) (i : Nat) : State := endTrans s i stAborted (conflictStr s i)

/-- Gates off the PM outputs of string `i` and ends its converter. -/
def gateOffString (s : State) (i : Nat) : State :=
  let s := s.modConv i fun c => { c with running := false, ref := 0, rampStop := false, rampThen := none
                                         softStart := none, pause := none, headroomSince := none }
  { s with phase := s.phase.mapIdx fun p x => if p / 4 = i then { x with gatedOff := true } else x }

/-- Every contactor of string `i` is commanded open in two steps (10_safety.md R283, R289): coils 0, 2 and 3 now, coil 1
with OPEN_SECOND_POLE. -/
def openCoils (s : State) (i : Nat) : State :=
  let closed : Bool := (s.saf.sp.at i).coils != 0 || (s.saf.sloe.at i).coils != 0
  let s := s.modCont i fun c => { c with request := none
                                         opening := if closed then some (c.opening.getD s.clk) else c.opening }
  let s := s.modChanStr .sp i fun c => { c with coils := c.coils &&& 2, granted := false }
  s.modChanStr .sloe i fun c => { c with coils := c.coils &&& 2, granted := false }

/-- The hold-up energy check (02_power_states_clocks.md R40), energy in µJ. -/
def energyOk (s : State) : Bool := decide (250000 ≤ s.pwr.eAvail)

/-- Guarded writes that wait for R40, by kind. -/
def wrClaim : Nat := 0
def wrConfig : Nat := 1
def wrJournal : Nat := 2
def wrCheck : Nat := 3

def deferWrite (s : State) (k : Nat) : State :=
  s.setPwr fun p => { p with deferred := if p.deferred.contains k then p.deferred else p.deferred ++ [k] }

/-- Writes the resistor model of string `i` to MRAM under R40 (08_converter_control.md R236). -/
def storeE (s : State) (i : Nat) : State :=
  if energyOk s then s.modConv i fun c => { c with stored := some (c.e, s.clk) } else deferWrite s wrConfig

/-- Ends precharge of string `i` where it stands. -/
def endPrecharge (s : State) (i : Nat) : State :=
  if (s.convAt i).stage = 0 then s
  else
    storeE (s.modConv i fun c => { c with stage := 0, tPc := none, lowSince := none, peak := 0 }) i

/-- Stops bleeding and shuttles of string `i` as commanded by this unit (07_balancing_dispatch.md R194). -/
def stopBalancing (s : State) (i : Nat) : State :=
  let s := s.modBal i fun b => { b with shuttles := [], bleeds := [] }
  s.modRing i fun r => { r with mons := r.mons.map fun m => if m.followsUs then { m with bleed := [], shuttle := none } else m }

/-- HALTED takes precedence over everything in progress (R26). -/
def haltStr (s : State) (i cause : Nat) : State :=
  match (s.strAt i).state with
  | .precharge | .connected | .regulating =>
    let s := openCoils (endPrecharge (gateOffString s i) i) i
    let s := setStr s i .halted cause
    stopBalancing (abortTrans s i) i
  | _ => s

/-- HALTED or ISOLATED to RETIRED. -/
def retireStr (s : State) (i cause : Nat) : State :=
  let s := haltStr s i cause
  match (s.strAt i).state with
  | .isolated | .halted =>
    stopBalancing (setStr (s.setFlt fun f => { f with retiredStr := i :: f.retiredStr.filter (· ≠ i) }) i .retired cause) i
  | _ => s

/-- PRECHARGE back to ISOLATED, the precharge path commanded open and the STR_CONNECT aborted (R25). -/
def prechargeAbort (s : State) (i cause : Nat) : State :=
  if (s.strAt i).state == .precharge then
    abortTrans (setStr (openCoils (endPrecharge s i) i) i .isolated cause) i
  else s

/-- Starts the ramp to zero of string `i`, after which it goes to `dest` (08_converter_control.md R241). -/
def startRamp (s : State) (i : Nat) (dest : StrState) : State :=
  s.modConv i fun c => { c with rampStop := true, rampThen := some dest }

/-! ## Units, tiers and retirement (01_system.md R28, R567; 18_faults_peat_log.md R494 to R498) -/

/-- Unit codes of the single units. -/
def uMod (n : Nat) : Nat := 0x0100 + n
def uVolt (n : Nat) : Nat := 0x0200 + n
def uLink (ring pos port : Nat) : Nat := 0x0300 + ring * 32 + pos * 2 + port
def uMon (ring pos : Nat) : Nat := 0x0400 + ring * 16 + pos
def uPhase (p : Nat) : Nat := 0x0500 + p
def uGdb (i : Nat) : Nat := 0x0600 + i
def uCdb (b : Nat) : Nat := 0x0700 + b
def uTi (n : Nat) : Nat := 0x0800 + n
def uEf (n : Nat) : Nat := 0x0900 + n
def uCee : Nat := 0x0A00
def uLe : Nat := 0x0B00
def uSp : Nat := 0x0C00
def uSloe : Nat := 0x0D00
def uHvi : Nat := 0x0E00

/-- The block that holds a unit, as record source (R504). -/
def unitSource (u : Nat) : Nat :=
  match u / 256 with
  | 3 => srcFlc ((u % 256) / 32)
  | 4 => srcFlc ((u % 256) / 16)
  | 5 | 6 | 0xB => srcLe
  | 7 | 0xC => srcSp
  | 8 => srcThm
  | 9 => srcEfc
  | 0xA => srcCee
  | 0xD => srcSloe
  | _ => srcHvi

def State.retired (s : State) (u : Nat) : Bool := s.flt.retired.any fun e => e.1 == u
def State.suspended (s : State) (u : Nat) : Bool := s.flt.susp.any fun e => e.unit == u
/-- A unit whose outputs no consumer uses (R494, R497). -/
def State.unitOut (s : State) (u : Nat) : Bool := s.retired u || s.suspended u

def State.clockLost (s : State) (d : ClockDomain) : Bool :=
  s.pwr.failedClocks.contains d ||
    (s.pwr.failedClocks.contains .xref && d != .aon && d != .safe && d != .sloe)

/-- A unit of the tier P set shared by all strings is lost (R567). -/
def sharedLost (s : State) : Bool :=
  s.retired uSp || s.retired uSloe || s.retired uHvi || s.clockLost .safe || s.clockLost .sloe || s.clockLost .isoH

/-- The ring of string `i` serves tier P: every monitor is reachable with a matching identity and none is retired
(04_fenline_rings.md R113, 18_faults_peat_log.md R498). -/
def ringServesP (s : State) (i : Nat) : Bool :=
  let r := s.ringAt i
  r.declared && r.served &&
    (List.range r.n).all fun m => !(r.mon m).unreachable && (r.mon m).idMatch && !s.retired (uMon i m)

def ringServesM (s : State) (i : Nat) : Bool := ringServesP s i && !(s.ringAt i).missedTwice

/-- A string-specific unit of the tier P set is lost for good (R567): both modulators, the contactor bus, the ring with
its clock, or a ring that a retired link or monitor keeps from tier P. -/
def permanentLoss (s : State) (i : Nat) : Bool :=
  (s.retired (uMod (2 * i)) && s.retired (uMod (2 * i + 1))) || s.retired (uCdb (i / 4)) || s.clockLost .ring ||
    (!ringServesP s i && s.flt.retired.any fun e =>
      (e.1 / 32 == 0x0300 / 32 + i) || (e.1 / 16 == 0x0400 / 16 + i))

/-- Leg `p` is fitted: its bit of phase_mask, 0x0F by default (08_converter_control.md R253). -/
def legFitted (s : State) (p : Nat) : Bool :=
  let c := (s.convAt (p / 4)).cfg
  c.isEmpty || getBit c 3 (p % 4)

/-- Phases of string `i` that are enabled, in ascending order. -/
def enabledPhases (s : State) (i : Nat) : List Nat :=
  (List.range 4).map (fun k => 4 * i + k) |>.filter fun p =>
    legFitted s p && (s.phaseAt p).enabled && !(s.phaseAt p).disabled && !s.retired (uPhase p)

/-- Loop slot `n` holds a valid descriptor with a valid active bank. -/
def slotValid (s : State) (n : Nat) : Bool :=
  let x := s.loopAt n
  !x.desc.isEmpty && (if x.activeB then x.bankB.valid else x.bankA.valid)

/-- The LE counts as present for string `i` (09_loop_engine.md R257). -/
def lePresent (s : State) (i : Nat) : Bool :=
  slotValid s i && slotValid s (8 + i) &&
    (List.range 4).all fun k => !legFitted s (4 * i + k) || slotValid s (16 + 4 * i + k)

/-- The tier of string `i` (*Service tiers*, R498, R252). -/
def tierOf (s : State) (i : Nat) : Tier :=
  if sharedLost s || permanentLoss s i || !ringServesP s i then .safe
  else if s.clockLost .sys || s.pwr.supLost || s.clockLost .est || s.retired uCee || !ringServesM s i then .p
  else if s.clockLost .loop || s.clockLost .time || s.retired uLe || !lePresent s i || s.retired (uVolt i) || s.retired (uVolt 8) ||
      s.retired (uGdb i) || decide ((enabledPhases s i).length < 2) then .m
  else .f

/-- Enters SAFE-HOLD (R22): strings halted, contactors open, PM outputs off, no claim asserted and no beats. -/
def enterSafeHold (s : State) (cause : Nat) : State :=
  if s.unit.isRole || s.unit == .boot then
    let s := (List.range s.strings).foldl (fun s i =>
      abortTrans (openCoils (gateOffString (haltStr s i cause) i) i) i) s
    let s := s.setRed fun r => { r with beatsOn := false }
    setUnit s .safeHold cause
  else s

/-- What a change of tier forces on string `i`: the rows of *Per-string state transitions* that name a tier. A fall
during the ramp of STR_DISCONNECT leaves its destination ISOLATED. -/
def forceTier (s : State) (i : Nat) (old new : Tier) : State :=
  if old.code ≤ new.code then s
  else
    match new, (s.strAt i).state with
    | .safe, _ => haltStr s i 28
    | .p, .precharge => prechargeAbort s i 28
    | .p, .regulating | .m, .regulating =>
      if (s.convAt i).rampThen.isSome then s else startRamp (strayStr s i) i .connected
    | _, _ => s

/-- Re-evaluates the tier of string `i` (R28). -/
def retierStr (s : State) (i : Nat) : State :=
  let old := (s.strAt i).tier
  let new := tierOf s i
  let s :=
    if old == new then s
    else
      let s := s.modStr i fun x => { x with tier := new }
      let s := record s 0x12 srcSup (if new.code < old.code then lvWarn else lvInfo) i old.code new.code
      forceTier s i old new
  if permanentLoss s i then retireStr s i 28 else s

/-- Re-evaluates every tier, at each retirement and restoration (R28). Tiers are held through a SUP handover (R29). The
loss of a shared unit of the tier P set takes a unit in a role to SAFE-HOLD (R567). -/
def retier (s : State) : State :=
  let s := (List.range s.strings).foldl retierStr s
  if sharedLost s && s.unit.isRole then enterSafeHold s 567 else s

/-- What the retirement of a unit does besides lowering tiers (*Retirable units*, effect column). -/
def retireEffect (s : State) (u : Nat) : State :=
  match u / 256 with
  | 1 =>
    let n := u % 256
    s.modHvi (n / 2) fun h => { h with single := true, measuring := 1 - n % 2 }
  | 3 =>
    let n := u % 256
    s.modRing (n / 32) fun r => { r with linksOff := (n % 32) :: r.linksOff.filter (· ≠ n % 32), twoEnded := true }
  | 5 => s.modPhase (u % 256) fun p => { p with enabled := false, gatedOff := true }
  | 8 => s.modTi (u % 256) fun x => { x with broken := true }
  | 9 => s.modEf (u % 256) fun e => { e with retired := true, state := .off }
  | 0xA => s.setCee fun c => { c with cells := c.cells.map fun e => (e.1, { e.2 with stale := true }) }
  | _ => s

/-- Retires unit `u` with a reason: 0 test failed, 1 third transient, 2 owning rule, 3 clock loss. -/
def retireUnit (s : State) (u reason : Nat) : State :=
  if s.retired u then s
  else
    let s := s.setFlt fun f =>
      { f with retired := (u, reason) :: f.retired, susp := f.susp.filter (fun e => e.unit ≠ u)
               transients := f.transients.filter fun e => e.1 ≠ u }
    retier (retireEffect (record s 0x22 (unitSource u) lvErr u reason 0) u)

/-- A detected error charged to unit `u` by rule `rule` (R493 to R496): recorded; the unit is suspended and its test
starts, at most 8 at once; on a unit already suspended it only adds to the count. -/
def detected (s : State) (u rule detail : Nat) : State :=
  let s := record s 0x20 (unitSource u) lvWarn u rule detail
  if s.retired u then s
  else if s.suspended u then s.setFlt fun f => { f with transients := (u, s.clk) :: f.transients, errors := f.errors + 1 }
  else s.setFlt fun f =>
    { f with errors := f.errors + 1
             susp := f.susp ++ [{ unit := u, since := s.clk
                                  testing := decide ((f.susp.filter (·.testing)).length < 8), restoring := false }] }

/-- The FLC of ring `i` runs (*Clock domains*; R85). -/
def ringRuns (s : State) (i : Nat) : Bool :=
  s.isStr i && s.pwr.state != .retention && s.pwr.state != .unpowered && s.unit != .off && !s.clockLost .ring

/-- A partner commands strings, as its beats say. -/
def partnerCommands (s : State) : Bool := s.red.present && (s.red.beat.role == 3 || s.red.beat.role == 4)

/-- This unit is the master of its rings (R85, R95): the unit in the ACTIVE role or SOLO; outside a role only where no
partner commands. -/
def ringMaster (s : State) : Bool :=
  s.unit.commands || ((s.unit == .safeHold || s.unit == .recovery || s.unit == .boot) && !partnerCommands s)

end Sys2Proof.Machine
end

