-- ==== Sys2Proof/Machine/Command.lean ====
section
/-! DEFINITION. The one path every host command takes: the checks of 15_host_interface.md R447 in their order, the
result cache of R449, rejection, response and the partner's acknowledgement of 11_redundancy.md R344. -/

namespace Sys2Proof.Machine

/-- The Roles column of *Opcodes* (R452). -/
inductive Roles where
  | all | as | a | sa
  deriving DecidableEq, Repr

/-- What a row of *Opcodes* and its owning chapter fix about a command. Each check answers the detail of its
rejection, or none where it passes. `desc` is the window descriptor the command names and the size it needs. -/
structure Spec where
  op : Nat
  /-- the length it expects, for a payload of the wrong length -/
  len : Bytes → Option Nat
  roles : Roles
  h : Bool := true
  v : Bool := false
  noApp : Bool := false
  pop : State → Bytes → Option Nat := fun _ _ => none
  state : State → Req → Option Nat := fun _ _ => none
  arg : State → Req → Option Nat := fun _ _ => none
  desc : State → Req → Option (Nat × Nat) := fun _ _ => none
  owner : State → Req → Option Nat := fun _ _ => none
  res : State → Req → Bool := fun _ _ => false

/-- A payload of exactly `n` bytes. -/
def lenIs (n : Nat) (p : Bytes) : Option Nat := if p.length = n then none else some n

/-- The unit state or role admits the command (R429, R451, R452). -/
def rolesOk (sp : Spec) (u : UnitState) : Bool :=
  match u with
  | .safeHold => sp.h
  | .recovery => sp.v
  | .active => true
  | .solo => sp.roles == .all || sp.roles == .as
  | .standby => sp.roles == .all || sp.roles == .sa
  | .resync => sp.roles == .all
  | _ => false

/-- The descriptor passes the checks of R440: kind 1, allocated by the issuing port, DEV_OWNS, large enough. -/
def descOk (s : State) (q : Req) (d need : Nat) : Bool :=
  let e := s.desc d
  decide (d < 256) && e.kind == 1 && e.requester == portCode q.port && e.own && decide (need ≤ e.size)

/-- The ownership check. -/
def ownerBad (sp : Spec) (s : State) (q : Req) : Option Nat :=
  match sp.desc s q with
  | none => sp.owner s q
  | some (d, need) => if descOk s q d need then none else some d

/-- The first status of R447 that applies, with its detail. -/
def rejection (sp : Spec) (s : State) (q : Req) : Option (Nat × Nat) :=
  match sp.len q.payload with
  | some n => some (stBadLength, n)
  | none =>
  match sp.pop s q.payload with
  | some o => some (stPopulation, o)
  | none =>
  if sp.noApp && q.port == .app then some (stPort, 0)
  else if !rolesOk sp s.unit then some (stState, conflictUnit s)
  else
  match sp.state s q with
  | some d => some (stState, d)
  | none =>
  match firstBad [q.envBad, sp.arg s q] with
  | some o => some (stArg, o)
  | none =>
  match ownerBad sp s q with
  | some d => some (stOwner, d)
  | none => if sp.res s q then some (stResource, 0) else none

/-- The command set runs and SUP takes slots (R429, R437): not in OFF, POWERUP, BOOT and DORMANT, nor in a SUP
handover. -/
def takes (s : State) : Bool :=
  s.hpr.ready && !s.hpr.handover && !s.asleep && s.pwr.state != .retention &&
    s.pwr.state != .unpowered && !s.clockLost .sys && !s.pwr.supLost

/-- The cached result a retry finds (R449). -/
def cacheHit (s : State) (op : Nat) (q : Req) : Option Done :=
  if q.retry then
    s.hpr.cache.find? fun e => e.port = q.port ∧ e.seq = q.seq ∧ e.opcode = op ∧ s.clk < e.at_ + 60 * nsS
  else none

/-- The executing command a retry matches (R449). -/
def execHit (s : State) (op : Nat) (q : Req) : Bool :=
  q.retry && s.hpr.exec.any fun e => e.opcode == op && e.req.port == q.port && e.req.seq == q.seq

/-- A STATE_CONFLICT is recorded once in each second for a port and opcode; others are counted (R448). -/
def recordReject (s : State) (op : Nat) (q : Req) (detail : Nat) : State :=
  let key : RejCount → Bool := fun r => r.port == q.port && r.opcode == op
  match s.hpr.rejects.find? key with
  | some r =>
    if s.clk < r.lastT + nsS then
      s.setHpr fun h => { h with rejects := h.rejects.map fun x => if key x then { x with carried := x.carried + 1 } else x }
    else
      let s := s.setHpr fun h =>
        { h with rejects := h.rejects.map fun x => if key x then { x with lastT := s.clk, carried := 0 } else x }
      record s 0x50 0x14 lvInfo (op + portCode q.port * 65536) q.seq (detail + r.carried * 65536)
  | none =>
    let s := s.setHpr fun h => { h with rejects := { port := q.port, opcode := op, lastT := s.clk, carried := 0 } :: h.rejects }
    record s 0x50 0x14 lvInfo (op + portCode q.port * 65536) q.seq detail

/-- Completes a rejected command: no side effect but the response, and for STATE_CONFLICT the record (R447, R448). -/
def rejectCmd (s : State) (op : Nat) (q : Req) (status detail : Nat) : State :=
  if status = stState then
    let pay := leU 4 (hprUnit s)
    finish1 (recordReject s op q detail) op q status detail pay
  else finish1 s op q status detail []

/-- Marks the named descriptor as used by this command (R439: opcode and seq). -/
def noteDesc (sp : Spec) (s : State) (q : Req) : State :=
  match sp.desc s q with
  | none => s
  | some (d, _) =>
    s.modDesc d fun e =>
      if e.kind = 1 ∧ e.requester = portCode q.port then { e with opcode := sp.op, seq := q.seq } else e

/-- A rejected command gives the descriptor it names back to its requester (R440). -/
def giveBack (sp : Spec) (s : State) (q : Req) : State :=
  match sp.desc s q with
  | none => s
  | some (d, _) =>
    s.modDesc d fun e => if e.kind = 1 ∧ e.requester = portCode q.port then { e with own := false } else e

/-- Retries wait for the executing command they match. -/
def follow (s : State) (op : Nat) (q : Req) : State :=
  s.setHpr fun h => { h with exec := h.exec.map fun e =>
    if e.opcode = op ∧ e.req.port = q.port ∧ e.req.seq = q.seq then { e with followers := e.followers ++ [q] } else e }

/-- A command is taken: the time of the newest one, and in FLOAT the rise of SYS (02_power_states_clocks.md R41, R49). -/
def touch (s : State) : State :=
  s.setPwr fun p => { p with lastCmdT := s.clk, floatRaised := p.floatRaised || p.state == .float }

/-- A taken command: cache, checks, then `run`. Where the command set does not run nothing is taken (log entry 11). In FLOAT it
raises SYS and is not held back (02_power_states_clocks.md R49). -/
def command (sp : Spec) (run : State → Req → State) (q : Req) (s : State) : Out State :=
  if !takes s then .next s
  else
    match cacheHit s sp.op q with
    | some d => .next (finish1 (touch s) sp.op q d.status d.detail d.payload)
    | none =>
      if execHit s sp.op q then .next (follow (touch s) sp.op q)
      else
        match rejection sp s q with
        | some (st, d) => .next (rejectCmd (giveBack sp (touch s) q) sp.op q st d)
        | none => .next (run (noteDesc sp (touch s) q) q)

/-! ## Responses -/

/-- Completes with OK. -/
def ok (s : State) (op : Nat) (q : Req) (payload : Bytes) : State := finish1 s op q stOk 0 payload

/-- Writes `b` into the buffer of descriptor `d` (R439: used). -/
def bufWrite (s : State) (d : Nat) (b : Bytes) : State :=
  let e := s.desc d
  let s := { s with mem := memWrites s.mem (windowBase + e.offset) b }
  s.modDesc d fun x => { x with used := b.length }

/-- `n` bytes of the buffer of descriptor `d`. -/
def bufRead (s : State) (d n : Nat) : Bytes := memReads s.mem (windowBase + (s.desc d).offset) n

/-- Completes with a response: in the slot up to 240 bytes, else in the buffer with its count (R452). -/
def respond (s : State) (op : Nat) (q : Req) (d : Nat) (b : Bytes) : State :=
  if b.length ≤ 240 then ok s op q b else ok (bufWrite s d b) op q (leU 4 b.length)

/-- Completes with the response in the buffer of `d` and its count (forms C and W). -/
def respondBuf (s : State) (op : Nat) (q : Req) (d : Nat) (b : Bytes) : State :=
  ok (bufWrite s d b) op q (leU 4 b.length)

/-- Keeps a command executing. -/
def keepExec (s : State) (op : Nat) (q : Req) : State :=
  s.setHpr fun h => { h with exec := h.exec ++ [{ req := q, opcode := op }] }

/-- A partner is there to acknowledge: the ACTIVE role, PEER up and the partner awake (11_redundancy.md R332, R344). -/
def ackNeeded (s : State) : Bool :=
  s.unit == .active && s.red.present && !s.red.peerDown && !s.red.partnerDormant

/-- Sends a PEER message of type `ty` (R343). -/
def peerSend (s : State) (ty : Nat) : State :=
  s.setRed fun r => { r with peerTx := (r.peerTx + 1) % 2 ^ 32, peerOut := (ty :: r.peerOut).take 64 }

/-- Completes with OK, after the partner has acknowledged message type `ty` where there is one (R344). -/
def commit (s : State) (op : Nat) (q : Req) (ty : Nat) (payload : Bytes) : State :=
  if ackNeeded s then
    let s := peerSend s ty
    let s := keepExec s op q
    s.setRed fun r =>
      { r with ackWait := r.ackWait ++ [{ exec := { req := q, opcode := op }, seq := r.peerTx, payload := payload }] }
  else ok s op q payload

/-- PEER message types (*PEER messages*). -/
def peerState : Nat := 2
def peerConfig : Nat := 3
def peerDispatch : Nat := 4

/-- Completes an executing command with OK, after the partner has acknowledged message type `ty` where there is one (R344). -/
def commitExec (s : State) (e : Exec) (ty : Nat) (payload : Bytes) : State :=
  if ackNeeded s then
    (peerSend s ty).setRed fun r => { r with ackWait := r.ackWait ++ [{ exec := e, seq := r.peerTx, payload := payload }] }
  else completeExec s e stOk 0 payload

/-- The transition of string `i` is complete: its command has changed the string's state. -/
def endTransOk (s : State) (i : Nat) : State :=
  match (s.strAt i).trans with
  | none => s
  | some e => commitExec (s.modStr i fun x => { x with trans := none }) e peerState []

end Sys2Proof.Machine
end

