-- ==== Sys2Proof/Machine/Icu.lean ====
section
/-! DEFINITION. The interrupt control unit: pending, decision, claim, completion, moderation, masks, routes and
redirection (17_app_core_icu.md R482 to R492). -/

namespace Sys2Proof.Machine

/-- The target is idle (R487): nothing active on it and no claim within its IDLE_US. -/
def activeOn (s : State) (g : Target) : Nat :=
  (s.icu.psup ++ s.icu.papp ++ s.icu.phost ++ s.icu.shared).countP fun x => x.active == some g

def tgtIdle (s : State) (g : Target) : Bool :=
  activeOn s g == 0 &&
    match (s.tgt g).lastClaim with
    | none => true
    | some t => decide (t + (s.tgt g).idleUs * nsUs ≤ s.clk)

/-- Eligible on `g` (R484). -/
def eligible (s : State) (g : Target) (n : Nat) : Bool :=
  let x := s.srcAt g n
  x.route == g && (s.tgt g).en && x.pend && !x.mask && x.active.isNone

/-- Moderation permits the source: its group's hold-off has ended, the idle bypass applies, or it completed
active-and-pending (R486, R487). -/
def permitted (s : State) (g : Target) (n : Nat) : Bool :=
  let x := s.srcAt g n
  let t := s.tgt g
  x.reentry || decide (t.holdEnd.getD x.group 0 ≤ s.clk) || (t.idleByp && tgtIdle s g)

/-- Source `n` goes before `m`, of a lower number: by PRIO, and on a tie where only it completed active-and-pending (R486). -/
def precedes (s : State) (g : Target) (n m : Nat) : Bool :=
  let x := s.srcAt g n
  let y := s.srcAt g m
  decide (y.prio < x.prio) || (y.prio == x.prio && x.reentry && !y.reentry)

/-- The source that goes first: highest PRIO, an active-and-pending one on a tie, then the lowest number (R484, R486). -/
def bestSource (s : State) (g : Target) : Option Nat :=
  (List.range 256).foldl (fun b n =>
    if eligible s g n && permitted s g n then
      match b with
      | none => some n
      | some m => if precedes s g n m then some n else b
    else b) none

/-- ICU_DECISION: latches the best source where none is latched, asserts the line and wakes a sleeping target
(R484, R490). -/
def icuDecide (s : State) (g : Target) : State :=
  if (s.tgt g).deliv.isSome then s
  else
    match bestSource s g with
    | none => s
    | some n => s.modTgt g fun t =>
        { t with deliv := some n, line := true, sleep := false, wakes := t.wakes + t.sleep.toNat }

def execIcuDecision (t : Nat) (g : Target) (s : State) : Out State := .next (icuDecide (s.advance t) g)

/-- A read of ICU_CLAIM (R485): the word read is left in the target's `claim`. -/
def icuClaim (s : State) (g : Target) : State :=
  match (s.tgt g).deliv with
  | none => s.modTgt g fun t => { t with claim := 0, line := false }
  | some n =>
    if eligible s g n then
      let grp := (s.srcAt g n).group
      let s := s.modSrc g n fun x => { x with pend := false, active := some g, reentry := false, stranded := none }
      s.modTgt g fun t =>
        { t with deliv := none, line := false, claim := 0x80000000 + n, lastClaim := some s.clk
                 holdEnd := t.holdEnd.modify grp fun _ => s.clk + t.hold.getD grp 0 * nsUs }
    else s.modTgt g fun t => { t with deliv := none, line := false, claim := 0 }

def execIcuClaimRead (t : Nat) (g : Target) (s : State) : Out State := .next (icuClaim (s.advance t) g)

/-- A write of ICU_COMPLETE (R486). -/
def icuComplete (s : State) (g : Target) (value : BitVec 32) : State :=
  let n := value.toNat % 256
  if (s.srcAt g n).active == some g then
    s.modSrc g n fun x => { x with active := none, reentry := x.pend }
  else s.modTgt g fun t => { t with accErr := true }

def execIcuCompleteWrite (t : Nat) (g : Target) (value : BitVec 32) (s : State) : Out State :=
  .next (icuComplete (s.advance t) g value)

/-- Applies `f` to every source of word `w` whose mask bit is 1 and that is routed to `g` (R492). -/
def icuWord (s : State) (g : Target) (w : Nat) (mask : BitVec 32) (f : State → Nat → State) : State :=
  (List.range 32).foldl (fun s b =>
    let n := 32 * w + b
    if mask.getLsbD b && decide (w < 8) && (s.srcAt g n).route == g then f s n else s) s

def execIcuPendSet (t : Nat) (g : Target) (w : Nat) (mask : BitVec 32) (s : State) : Out State :=
  .next (icuWord (s.advance t) g w mask fun s n => icuPend s g n)

def execIcuPendClr (t : Nat) (g : Target) (w : Nat) (mask : BitVec 32) (s : State) : Out State :=
  .next (icuWord (s.advance t) g w mask fun s n =>
    s.modSrc g n fun x => { x with pend := false, stranded := none, reentry := false })

def execIcuMaskSet (t : Nat) (g : Target) (w : Nat) (mask : BitVec 32) (s : State) : Out State :=
  .next (icuWord (s.advance t) g w mask fun s n => s.modSrc g n fun x => { x with mask := true })

def execIcuMaskClr (t : Nat) (g : Target) (w : Nat) (mask : BitVec 32) (s : State) : Out State :=
  .next (icuWord (s.advance t) g w mask fun s n => s.modSrc g n fun x => { x with mask := false })

/-- An edge of a source's event (R483). The bank of a private source is its target's; a shared source goes where its
route leads. -/
def execIcuSourceEdge (t : Nat) (g : Target) (n : Nat) (s : State) : Out State :=
  let s := s.advance t
  .next (if n < 32 then icuPrivate s g n else if n < 256 then icuShared s n else s)

/-- Writes EN and IDLE_BYP. EN 1 ends stranding and returns every source redirected from the target, pending clear
(R491). -/
def icuCtrl (s : State) (g : Target) (value : BitVec 32) : State :=
  let en := value.getLsbD 0
  let s := s.modTgt g fun t => { t with en := en, idleByp := value.getLsbD 1 }
  if en then
    let f : Src → Src := fun x =>
      if x.redirected && x.home == g then { x with route := x.home, redirected := false, pend := false, stranded := none }
      else if x.route == g then { x with stranded := none }
      else x
    { s with icu := { s.icu with psup := s.icu.psup.map f, papp := s.icu.papp.map f, phost := s.icu.phost.map f
                                 shared := s.icu.shared.map f } }
  else
    let f : Src → Src := fun x =>
      if x.route == g && x.pend && g != .sup then { x with stranded := some (x.stranded.getD s.clk) } else x
    { s with icu := { s.icu with papp := s.icu.papp.map f, phost := s.icu.phost.map f, shared := s.icu.shared.map f } }

def execIcuTgtEnWrite (t : Nat) (g : Target) (value : BitVec 32) (s : State) : Out State :=
  .next (icuCtrl (s.advance t) g value)

/-- A group's hold-off ends: its end instant has passed, so the RUNNING bit reads 0 (R487, R492). -/
def execHoldOffExpiry (t : Nat) (g : Target) (grp : Nat) (s : State) : Out State :=
  let s := s.advance t
  .next (if (s.tgt g).holdEnd.getD grp 0 ≤ s.clk then
    s.modTgt g fun x => { x with holdEnd := x.holdEnd.modify grp fun _ => 0 } else s)

/-- A source stranded for 1 ms on a target still disabled is redirected to SUP (R491). -/
def execStrandedTimeout (t : Nat) (g : Target) (n : Nat) (s : State) : Out State :=
  let s := s.advance t
  let x := s.srcAt g n
  .next (if x.route == g && g != .sup && !(s.tgt g).en && x.pend && heldFor s x.stranded nsMs then
      let s := s.modSrc g n fun y =>
        { y with route := .sup, redirected := true, pend := false, stranded := none, redirCount := y.redirCount + 1 }
      let s := s.modTgt g fun y => { y with redirCnt := (y.redirCnt + 1) % 65536 }
      redirRecord s g n
    else s)

/-- Routes shared source `n` to `g`: its pending bit, PRIO and GROUP move with it; an active state stays (R489). A
pending one strands on a disabled target (R491). A source redirected from its owner keeps its place at SUP and returns to the new one. -/
def retarget (s : State) (n : Nat) (g : Target) : State :=
  s.modSrc .sup n fun x =>
    if x.redirected then { x with home := g }
    else
      let strands : Bool := x.pend && g != .sup && !(s.tgt g).en
      { x with route := g, home := g, stranded := if strands then some (x.stranded.getD s.clk) else none }

/-- The owner that delegation gives a shared source (*Shared sources*). -/
def delegatedTo (s : State) (n : Nat) : Target :=
  if 40 ≤ n ∧ n ≤ 47 then if s.tsu.own.getLsbD (n - 32) then .app else .sup
  else if 50 ≤ n ∧ n ≤ 63 then if s.tsu.own.getLsbD (n - 32) then .app else .sup
  else if 64 ≤ n ∧ n ≤ 79 then if (s.canAt ((n - 64) / 4)).delegated then .app else .sup
  else sharedRoute n

/-- A route changes only where delegation makes `g` the owner (R482). -/
def execSourceRetarget (t : Nat) (n : Nat) (g : Target) (s : State) : Out State :=
  let s := s.advance t
  .next (if 32 ≤ n ∧ n < 256 ∧ delegatedTo s n = g then retarget s n g else s)

/-! ## Registers of a frame (*ICU register map*) -/

def icuBits (s : State) (g : Target) (w : Nat) (f : Src → Bool) : Nat :=
  bitsToNat ((List.range 32).map fun b =>
    let x := s.srcAt g (32 * w + b)
    x.route == g && f x)

/-- *ICU_SRCn_CFG*. A redirected source reads in its owner's frame. -/
def icuSrcCfg (s : State) (g : Target) (n : Nat) : Nat :=
  let x := s.srcAt g n
  let tg := match x.route with | .sup => 0 | .app => 1 | .host => 2
  if x.route == g || (x.redirected && x.home == g) then
    x.prio + 16 * x.group + 256 * tg + 1024 * x.stranded.isSome.toNat + 2048 * x.redirected.toNat
  else 0

/-- The word a read of the frame returns; a read of ICU_CLAIM claims besides (`icuClaim`). -/
def icuRead (s : State) (g : Target) (off : Nat) : Nat :=
  let t := s.tgt g
  if off = 0 then Config.blockVersion % 2 ^ 32
  else if off = 4 then t.en.toNat + 2 * t.idleByp.toNat
  else if off = 8 then
    t.line.toNat + 2 * (tgtIdle s g).toNat + 4 * t.sleep.toNat + 8 * t.accErr.toNat +
      256 * (activeOn s g % 256) + 65536 * (t.redirCnt % 65536)
  else if off = 0x14 then match t.deliv with | none => 0 | some n => 0x80000000 + n
  else if off = 0x18 then t.idleUs
  else if 0x40 ≤ off ∧ off < 0x80 then
    let g := (off - 0x40) / 4
    t.hold.getD g 0 + (if s.clk < t.holdEnd.getD g 0 then 0x80000000 else 0)
  else if 0x100 ≤ off ∧ off < 0x160 then icuBits s g (off / 4 % 8) (·.pend)
  else if 0x160 ≤ off ∧ off < 0x1C0 then icuBits s g (off / 4 % 8) (·.mask)
  else if 0x1C0 ≤ off ∧ off < 0x1E0 then icuBits s g (off / 4 % 8) (·.active.isSome)
  else if 0x1E0 ≤ off ∧ off < 0x200 then icuBits s g (off / 4 % 8) (·.stranded.isSome)
  else if 0x400 ≤ off ∧ off < 0x800 then icuSrcCfg s g ((off - 0x400) / 4)
  else 0

/-- A write to the frame of `g`. -/
def icuWrite (s : State) (g : Target) (off : Nat) (v : BitVec 32) : State :=
  if off = 4 then icuCtrl s g v
  else if off = 8 then if v.getLsbD 3 then s.modTgt g fun t => { t with accErr := false } else s
  else if off = 0x10 then icuComplete s g v
  else if off = 0x18 then s.modTgt g fun t => { t with idleUs := v.toNat % 65536 }
  else if 0x40 ≤ off ∧ off < 0x80 then
    let k := (off - 0x40) / 4
    s.modTgt g fun t =>
      { t with hold := t.hold.modify k fun _ => v.toNat % 65536
               holdEnd := if v.toNat % 65536 = 0 then t.holdEnd.modify k fun _ => 0 else t.holdEnd }
  else if 0x120 ≤ off ∧ off < 0x140 then icuWord s g ((off - 0x120) / 4) v fun s n => icuPend s g n
  else if 0x140 ≤ off ∧ off < 0x160 then
    icuWord s g ((off - 0x140) / 4) v fun s n =>
      s.modSrc g n fun x => { x with pend := false, stranded := none, reentry := false }
  else if 0x180 ≤ off ∧ off < 0x1A0 then
    icuWord s g ((off - 0x180) / 4) v fun s n => s.modSrc g n fun x => { x with mask := true }
  else if 0x1A0 ≤ off ∧ off < 0x1C0 then
    icuWord s g ((off - 0x1A0) / 4) v fun s n => s.modSrc g n fun x => { x with mask := false }
  else if 0x400 ≤ off ∧ off < 0x800 then
    let n := (off - 0x400) / 4
    if (s.srcAt g n).route == g then
      s.modSrc g n fun x => { x with prio := v.toNat % 8, group := v.toNat / 16 % 16 }
    else s
  else s

end Sys2Proof.Machine
end

