-- ==== Sys2Proof/Machine/AppCore.lean ====
section
/-! DEFINITION. The application core: start, restart, monitor calls, watchdog and access faults (17_app_core_icu.md R475
to R481). -/

namespace Sys2Proof.Machine

/-- APP runs: started, in a role, and not in DORMANT or RETENTION (R479, R481). -/
def appRuns (s : State) : Bool :=
  s.app.run == 1 && s.unit.isRole && (s.pwr.state == .active || s.pwr.state == .float || s.pwr.state == .holdup)

/-- INIT 1 empties the queues of a CAN controller (16_ethernet_can.md R472). -/
def enterInit (x : Can) : Can :=
  { x with init := true, state := 3, cancel := false, txGet := x.txPut, q0 := { x.q0 with get := x.q0.put }
           q1 := { x.q1 with get := x.q1.put } }

/-- Effects of a restart on what APP holds (*Restart effects*). -/
def restartEffects (s : State) : State :=
  let s := icuCtrl s .app (if (s.tgt .app).idleByp then 2 else 0)
  let s := s.setHpr fun h =>
    { h with
      desc := h.desc.map fun d => if d.kind ≠ 0 ∧ d.requester = 2 then { gen := d.gen } else d
      done := BitVec.ofNat 16 (bitsToNat ((List.range 16).map fun n =>
        h.done.getLsbD n && !(slotPort s n == .app && !h.own.getLsbD n))) }
  let s := { s with net := { s.net with can := s.net.can.map fun (c : Can) => if c.delegated then enterInit c else c } }
  s.setTsu fun t =>
    { t with
      trig := t.trig.mapIdx fun n (x : Trigger) => if t.own.getLsbD n then { x with arm := false } else x
      cap := t.cap.mapIdx fun n (x : Capture) => if t.own.getLsbD (16 + n) then { x with en := false } else x }

/-- Restart of APP with a start cause; three within 10 min with causes 1, 3 or 4 leave it stopped (R480). -/
def appRestart (s : State) (cause : Nat) : State :=
  let s := restartEffects s
  let fault := cause = 1 ∨ cause = 3 ∨ cause = 4
  let recent := s.app.faults.filter fun x => s.clk < x + 600 * nsS
  let faults := if fault then s.clk :: recent else recent
  let stop : Bool := decide (fault ∧ 3 ≤ faults.length)
  let s := s.setApp fun a =>
    { a with run := if stop then 2 else 1, cause := cause, restarts := a.restarts + 1, faults := faults
             wdMs := 0, wdWarned := false, a0 := cause, a1 := a.restarts + 1 }
  if stop then groupRecord s gSys srcApp lvErr 480 cause faults.length else s

/-- The first start after BOOT (R479). -/
def execAppStart (t : Nat) (s : State) : Out State :=
  let s := s.advance t
  .next (if s.app.run = 0 ∧ s.unit.isRole then
      s.setApp fun a => { a with run := 1, cause := 0, restarts := 0, faults := [], wdMs := 0, wdWarned := false
                                 dramZeroed := true, a0 := 0, a1 := 0 }
    else s)

/-- A restart by any cause of R480; a new image (cause 5) also starts a stopped APP. -/
def execAppRestart (t : Nat) (cause : Nat) (s : State) : Out State :=
  let s := s.advance t
  .next (if (1 ≤ cause ∧ cause ≤ 5) ∧ (appRuns s ∨ (cause = 5 ∧ s.app.run = 2)) then appRestart s cause else s)

/-- The answer of a monitor call in a0 and a1 (R478); only a running APP calls. -/
def monitorAnswer (s : State) (a0 : Int) (a1 : Nat) : State := s.setApp fun a => { a with a0 := a0, a1 := a1 }

def execMonVersion (t : Nat) (s : State) : Out State :=
  let s := s.advance t
  .next (if appRuns s then monitorAnswer s 0 Config.monitorVersion else s)

def execMonTime (t : Nat) (s : State) : Out State :=
  let s := s.advance t
  .next (if appRuns s then monitorAnswer s (s.tsu.now / nsS : Nat) (s.tsu.now % nsS) else s)

def execMonTimer (t : Nat) (us : Nat) (s : State) : Out State :=
  let s := s.advance t
  .next (if appRuns s then
    (monitorAnswer s 0 s.app.a1).setApp fun a => { a with timer := if us = 0 then none else some us } else s)

def execWdogSet (t : Nat) (ms : Nat) (s : State) : Out State :=
  let s := s.advance t
  .next (if appRuns s then
      if ms = 0 ∨ (10 ≤ ms ∧ ms ≤ 10000) then
        (monitorAnswer s 0 s.app.a1).setApp fun a => { a with wdMs := ms, wdT := s.clk, wdWarned := false }
      else monitorAnswer s (-1) s.app.a1
    else s)

def execWdogFeed (t : Nat) (s : State) : Out State :=
  let s := s.advance t
  .next (if appRuns s then (monitorAnswer s 0 s.app.a1).setApp fun a => { a with wdT := s.clk, wdWarned := false } else s)

def execMonRestart (t : Nat) (s : State) : Out State :=
  let s := s.advance t
  .next (if appRuns s then appRestart s 2 else s)

/-- The timer source fires at the first whole µs at or after its instant (R478). -/
def execMonitorTimerFire (t : Nat) (s : State) : Out State :=
  let s := s.advance t
  .next (match s.app.timer with
    | none => s
    | some us =>
      if us * nsUs ≤ s.tsu.now then icuPrivate (s.setApp fun a => { a with timer := none }) .app 5 else s)

/-- The warning source fires at half the timeout (R478). -/
def execWatchdogWarning (t : Nat) (s : State) : Out State :=
  let s := s.advance t
  .next (if s.app.wdMs ≠ 0 ∧ !s.app.wdWarned ∧ appRuns s ∧ s.app.wdT + s.app.wdMs * nsMs / 2 ≤ s.clk then
    icuPrivate (s.setApp fun a => { a with wdWarned := true }) .app 6 else s)

def execWatchdogExpiry (t : Nat) (s : State) : Out State :=
  let s := s.advance t
  .next (if s.app.wdMs ≠ 0 ∧ appRuns s ∧ s.app.wdT + s.app.wdMs * nsMs ≤ s.clk then appRestart s 1 else s)

/-- The accesses *APP address map* permits (R476): register regions as aligned words only; of the HPR registers APP
writes the doorbell, the completions and HPR_ERR. -/
def appReaches (addr size : Nat) (write : Bool) : Bool :=
  let within (lo hi : Nat) : Bool := decide (lo ≤ addr ∧ addr + size ≤ hi + 1 ∧ 0 < size)
  let word : Bool := decide (size = 4 ∧ addr % 4 = 0)
  within 0 0x000FFFFF ||
  (within 0x20000000 0x200007FF && word) ||
  (within 0x20010000 0x20010FFF && word) ||
  (within 0x20020000 0x20023FFF && word) ||
  (within 0x20030000 0x2003FFFF && word) ||
  (within 0x20040000 0x20040FFF && word &&
    (!write || addr == 0x20040010 || addr == 0x20040018 || addr == 0x20040020)) ||
  within 0x20041000 0x20041FFF || within 0x40000000 0x43FFFFFF || within 0x80000000 0x8FFFFFFF

/-- An access outside the map is counted and delegated to the supervisor handler (R476). -/
def execAccessFault (t : Nat) (addr size : Nat) (write : Bool) (s : State) : Out State :=
  let s := s.advance t
  .next (if appRuns s && !appReaches addr size write then
    s.setApp fun a => { a with accessFaults := a.accessFaults + 1 } else s)

/-- A memory error of APP: corrected and counted, or recorded with a restart (R477). -/
def execAppMemoryError (t : Nat) (dram correctable : Bool) (s : State) : Out State :=
  let s := s.advance t
  .next (if correctable then s.setApp fun a => { a with corrected := a.corrected + 1 }
    else
      let s := groupRecord s gSys srcApp lvInfo 477 dram.toNat 0
      if appRuns s then appRestart s 3 else s)

end Sys2Proof.Machine
end

