-- ==== Sys2Proof/Machine/Faults.lean ====
section
/-! DEFINITION. Detected errors, self-tests, retirement, restoration, memory errors and background work
(18_faults_peat_log.md R493 to R502). -/

namespace Sys2Proof.Machine

/-- Transient errors of `u` within 10 min counted back from instant `at_` (R496). -/
def transientsOf (s : State) (u at_ : Nat) : Nat :=
  s.flt.transients.countP fun e => e.1 == u && decide (at_ ≤ e.2 + 600 * nsS)

/-- Starts the tests that wait, in order of detection, at most 8 at once (R495). -/
def startTests (l : List Susp) (running : Nat) : List Susp :=
  match l with
  | [] => []
  | x :: t =>
    if x.testing then x :: startTests t running
    else if running < 8 then { x with testing := true } :: startTests t (running + 1)
    else x :: startTests t running

/-- Ends the suspension of `u` and lets the next test start. -/
def unsuspend (s : State) (u : Nat) : State :=
  s.setFlt fun f =>
    let l := f.susp.filter fun e => e.unit ≠ u
    { f with susp := startTests l (l.filter (·.testing)).length }

/-- Puts `u` under test for a restoring command or at BOOT (R497); a unit already under test keeps its place. -/
def testUnit (s : State) (u : Nat) (restoring : Bool) : State :=
  s.setFlt fun f =>
    if f.susp.any fun e => e.unit == u then
      { f with susp := f.susp.map fun e => if e.unit = u then { e with restoring := e.restoring || restoring } else e }
    else
      { f with susp := startTests (f.susp ++ [{ unit := u, since := s.clk, testing := false, restoring := restoring }])
                 (f.susp.filter (·.testing)).length }

/-- What restoration undoes of *Retirable units*' effect column. -/
def restoreEffect (s : State) (u : Nat) : State :=
  match u / 256 with
  | 1 =>
    let n := u % 256
    s.modHvi (n / 2) fun h => { h with single := s.retired (uMod (n / 2 * 2 + (1 - n % 2))) }
  | 3 =>
    let n := u % 256
    s.modRing (n / 32) fun r => { r with linksOff := r.linksOff.filter (· ≠ n % 32) }
  | 5 => s.modPhase (u % 256) fun p => { p with enabled := true, disabled := false, rejoin := true }
  | 8 => s.modTi (u % 256) fun x => { x with broken := false, bad := 0 }
  | 9 => s.modEf (u % 256) fun e => { e with retired := false, state := .off, commanded := false }
  | _ => s

/-- Restores a unit whose restoring command's test passed: recorded when it was retired (R497). -/
def restoreUnit (s : State) (u port : Nat) : State :=
  let was := s.retired u
  let s := s.setFlt fun f => { f with retired := f.retired.filter (fun e => e.1 ≠ u)
                                      transients := f.transients.filter fun e => e.1 ≠ u }
  let s := restoreEffect s u
  if was then retier (record s 0x23 (unitSource u) lvInfo u port 0) else s

/-- Completes a restoring command whose tests are over (R497): OK when all passed, FAILED otherwise; an STR_RESTORE of
a RETIRED string returns it to ISOLATED when its tier is M or F, and is FAILED with detail 1 when it is lower. -/
def restoreDone (s : State) (r : Restore) : State :=
  let s := s.setFlt fun f => { f with restores := f.restores.filter fun x => x.exec.req ≠ r.exec.req }
  match r.string with
  | none => completeExec s r.exec (if r.failed then stFailed else stOk) 0 []
  | some i =>
    if (s.strAt i).state == .retired && (s.strAt i).trans == some r.exec then
      let s := s.modStr i fun x => { x with trans := none }
      if r.failed then completeExec s r.exec stFailed 0 []
      else
        let s := retierStr s i
        if (tierOf s i).code < Tier.m.code then completeExec s r.exec stFailed 1 []
        else
          let s := s.setFlt fun f => { f with retiredStr := f.retiredStr.filter (· ≠ i) }
          commitExec (setStr s i .isolated 25) r.exec peerState []
    else
      completeExec (s.modStr i fun x => if x.trans = some r.exec then { x with trans := none } else x) r.exec
        (if r.failed then stFailed else stOk) 0 []

/-- Notes the outcome of the test of `u` for every restoring command that waits for it. -/
def restoreNote (s : State) (u : Nat) (pass : Bool) : State :=
  let s := s.setFlt fun f => { f with restores := f.restores.map fun r =>
    if (r.units.contains u) then { r with units := r.units.filter (· ≠ u), failed := r.failed || !pass } else r }
  (s.flt.restores.filter fun r => r.units.isEmpty).foldl restoreDone s

/-- The port of the restoring command that waits for `u`. -/
def restorePort (s : State) (u : Nat) : Nat :=
  match s.flt.restores.find? fun r => r.units.contains u with
  | some r => portCode r.exec.req.port
  | none => 0

/-- The outcome of the test of unit `u` (R496, R497): 0 pass, 1 fail, 2 limit exceeded. -/
def selfTest (s : State) (u outcome : Nat) : State :=
  match s.flt.susp.find? fun e => e.unit = u ∧ e.testing with
  | none => s
  | some e =>
    let pass := outcome == 0
    let restoring := e.restoring
    let wasRetired := s.retired u
    let s := if pass && !restoring && !wasRetired then
        s.setFlt fun f => { f with transients := (u, e.since) :: f.transients } else s
    let n := transientsOf s u e.since
    let s := s.setRed fun r => { r with shadowTests := r.shadowTests.map fun x => if x = (u, 255) then (u, outcome) else x }
    let s := record s 0x21 (unitSource u) (if pass then lvInfo else lvWarn) u outcome n
    if restoring then
      let port := restorePort s u
      let s := unsuspend s u
      let s := if pass then restoreUnit s u port else if wasRetired then s else detected s u 497 0
      restoreNote s u pass
    else if wasRetired then unsuspend s u
    else if !pass then unsuspend (retireUnit s u 0) u
    else if 3 ≤ n then unsuspend (retireUnit s u 1) u
    else unsuspend s u

def execSelfTestOutcome (t : Nat) (unit outcome : Nat) (s : State) : Out State :=
  .next (selfTest (s.advance t) unit outcome)

/-- DETECTED_ERROR; a fast-trip comparator test that fails at BOOT keeps the string ISOLATED (03_string_measurement.md R76). -/
def execDetectedError (t : Nat) (unit rule detail : Nat) (s : State) : Out State :=
  let s := s.advance t
  let s := if rule = 76 ∧ s.unit = .boot ∧ detail < 8 then s.modHvi detail fun h => { h with testFailed := true } else s
  .next (detected s unit rule detail)

/-- A restoring command starts: every unit it names is tested (R497). With none to test it is over at once. -/
def startRestore (s : State) (op : Nat) (q : Req) (units : List Nat) (string : Option Nat) : State :=
  let e : Exec := { req := q, opcode := op }
  let s := keepExec s op q
  let s := match string with
    | none => s
    | some i => s.modStr i fun x => { x with trans := some e }
  let r : Restore := { exec := e, units := units, failed := false, string := string }
  let s := s.setFlt fun f => { f with restores := f.restores ++ [r] }
  let s := units.foldl (fun s u => testUnit s u true) s
  if units.isEmpty then restoreDone s r else s

/-! ## Memory errors (R500) -/

/-- A number for each memory. -/
def memCode : Memory → Nat
  | .sup => 0 | .cee => 1 | .le => 2 | .sp => 3 | .appTcm => 4 | .appDram => 5 | .dram o => 16 + o
  | .nor p b => 8 + 2 * p + b

/-- SUP is lost: the tiers are re-evaluated and the PMU restarts it (02_power_states_clocks.md R50, R500). -/
def loseSup (s : State) : State :=
  retier (s.setPwr fun p => { p with supLost := true, supRestarting := true })

/-- Marks an image bank invalid, recorded at error level (R500). -/
def bankInvalid (s : State) (part bank : Nat) : State :=
  let f : Part → Part := fun p =>
    if bank = 0 then { p with bankA := { p.bankA with valid := false } }
    else { p with bankB := { p.bankB with valid := false } }
  let s := s.setUpd fun u =>
    if part = 0 then { u with sup := f u.sup } else if part = 1 then { u with sp := f u.sp }
    else { u with app := f u.app }
  groupRecord s gLog srcScrub lvErr 500 (2 * part + bank) 0

def execMemoryError (t : Nat) (mem : Memory) (word : Nat) (uncorrectable : Bool) (s : State) : Out State :=
  let s := s.advance t
  .next (if !uncorrectable then
      let k := memCode mem
      let again := s.flt.corrected.any fun e => e.1 == k && e.2.1 == word && decide (s.clk < e.2.2 + 86400 * nsS)
      let s := s.setFlt fun f =>
        { f with corrected := (k, word, s.clk) :: f.corrected.filter fun e => ¬ (e.1 = k ∧ e.2.1 = word) }
      let s := s.setFlt fun f => { f with correctedCnt := tblSet k (tblGet 0 k f.correctedCnt + 1) f.correctedCnt }
      let s := match mem with
        | .appTcm | .appDram => s.setApp fun a => { a with corrected := a.corrected + 1 }
        | _ => s
      if again then groupRecord s gLog srcScrub lvWarn 500 k word else s
    else match mem with
      | .sup => loseSup s
      | .cee => detected s uCee 500 word
      | .le => detected s uLe 500 word
      | .sp => detected s uSp 500 word
      | .appTcm | .appDram =>
        let s := groupRecord s gSys srcApp lvInfo 477 (if mem = .appDram then 1 else 0) 0
        if appRuns s then appRestart s 3 else s
      | .dram owner => detected s owner 500 word
      | .nor p b => bankInvalid s p b)

/-- Key and period of each background pass (*Background schedule*). -/
def bgPeriod : Background → Nat × Nat
  | .scrubSup => (0, 30 * nsS) | .scrubCee => (1, 30 * nsS) | .scrubLe => (2, 30 * nsS) | .scrubSp => (3, 30 * nsS)
  | .scrubTcm => (4, 30 * nsS) | .scrubDram => (5, 600 * nsS) | .scrubNor => (6, 86400 * nsS)
  | .verifyMram => (7, 86400 * nsS) | .wear _ => (8, 3600 * nsS)

/-- A pass ends. A scrub that ends more than one period late is recorded at warning level; wear management counts the
erase, and 80 % of 100,000 cycles is recorded as a warning (R502, 21_electrical.md R565). In DORMANT none runs. -/
def execScrubPass (t : Nat) (a : Background) (s : State) : Out State :=
  let s := s.advance t
  let (k, period) := bgPeriod a
  .next (if s.asleep || !hostServed s then s
    else
      let last := tblGet s.clk k s.flt.scrubT
      let s' := s.setFlt fun f => { f with scrubT := tblSet k s.clk f.scrubT }
      match a with
      | .wear block =>
        let n := tblGet 0 block s.flt.erase + 1
        let s' := s'.setFlt fun f => { f with erase := tblSet block n f.erase }
        if n = 80000 then groupRecord s' gLog srcScrub lvWarn 502 block n else s'
      | .verifyMram => s'
      | _ => if last + 2 * period < s.clk then groupRecord s' gLog srcScrub lvWarn 502 k 0 else s')

end Sys2Proof.Machine
end

