-- ==== Sys2Proof/Machine/Records.lean ====
section
/-! DEFINITION. Configuration records: layout, ranges and defaults of each, and the quantities the machine reads from them.
A field for which the manual gives no default reads 0 until it is set (log entry 5). -/

namespace Sys2Proof.Machine

/-- The first byte of a per-string record names the string. -/
def forString (fs : List Field) (i : Nat) (b : Bytes) : Bytes :=
  if b.isEmpty then putAt (defaults fs) 0 (leU 1 i) else b

/-- The string a record names at offset 0 lies in the population. -/
def popString (s : State) (p : Bytes) : Option Nat := must (decide (getU p 0 1 < s.strings ∨ 8 ≤ getU p 0 1)) 0

/-- Number of set bits of a byte. -/
def popCount8 (n : Nat) : Nat := ((List.range 8).filter fun k => n.testBit k).length

/-! ## *Converter configuration* (08_converter_control.md R253) -/

def cnvFields : List Field :=
  [uf 0 1 0 7 0, uf 1 1 0 1 0, uf 2 1 0 127 0, uf 3 1 0 15 15, uf 4 4 20000 250000 100000, uf 8 2 0 65535 0,
    uf 10 2 1600 64000 6400, uf 12 2 1600 64000 6400, uf 14 2 100 2000 200, uf 16 2 5000 9500 9000,
    uf 18 2 100 800 800, uf 20 2 500 2000 1200, uf 22 1 100 150 125, rsv 23 1] ++
  [uf 24 2 50 800 200, uf 26 1 1 16 4, uf 27 1 4 64 8, uf 28 2 1 500 50, uf 30 2 1 100 10, uf 32 4 1000 1000000 0,
    uf 36 4 100 100000 4000, uf 40 2 1 3600 60, uf 42 2 100 30000 2000, uf 44 2 1 100 10, uf 46 2 10 10000 1000,
    uf 48 4 1000 400000 40000, uf 52 2 100 10000 2000, uf 54 2 1 600 10, uf 56 4 0 10000 500, rsv 60 4]

def cnvCfg (s : State) (i : Nat) : Bytes := forString cnvFields i (s.convAt i).cfg

/-- The string follows SYNC_IN (R226). -/
def syncMode (s : State) (i : Nat) : Bool := getU (cnvCfg s i) 1 1 == 1

/-- Switching frequency, Hz: configured, or that of SYNC_IN over its last 16 periods (R226). -/
def fSw (s : State) (i : Nat) : Nat :=
  let l := (s.convAt i).syncPeriods
  if syncMode s i && !l.isEmpty && l.sum != 0 then min 250000 (max 20000 (nsS * l.length / l.sum)) else getU (cnvCfg s i) 4 4
/-- Carrier period in taps of 31.25 ps (R221). -/
def nSw (s : State) (i : Nat) : Nat := 32000000000 / fSw s i
/-- Switching period in ns. -/
def tSwNs (s : State) (i : Nat) : Nat := nsS / fSw s i
/-- Duty bounds in units of 2⁻³¹. -/
def dMin (s : State) (i : Nat) : Int := getU (cnvCfg s i) 14 2 * 2 ^ 31 / 10000
def dMax (s : State) (i : Nat) : Int := getU (cnvCfg s i) 16 2 * 2 ^ 31 / 10000
/-- Phase current limit and full scale, in 10 mA. -/
def iPhaseMax (s : State) (i : Nat) : Nat := getU (cnvCfg s i) 18 2 * 10
def iPhaseFs (s : State) (i : Nat) : Nat := getU (cnvCfg s i) 20 2 * 10
def cbcLimit (s : State) (i : Nat) : Nat := getU (cnvCfg s i) 22 1
def brakeThr (s : State) (i : Nat) : Nat := getU (cnvCfg s i) 24 2 * 10
def brakeMax (s : State) (i : Nat) : Nat := getU (cnvCfg s i) 26 1
def detectN (s : State) (i : Nat) : Nat := getU (cnvCfg s i) 27 1
/-- A/ms. -/
def slewRate (s : State) (i : Nat) : Nat := getU (cnvCfg s i) 28 2
def rampStop (s : State) (i : Nat) : Nat := getU (cnvCfg s i) 30 2
/-- mΩ, J, s, ms, µA. -/
def rPc (s : State) (i : Nat) : Nat := getU (cnvCfg s i) 32 4
def ePcMax (s : State) (i : Nat) : Nat := getU (cnvCfg s i) 36 4
def tauPc (s : State) (i : Nat) : Nat := getU (cnvCfg s i) 40 2
def tPcMax (s : State) (i : Nat) : Nat := getU (cnvCfg s i) 42 2
def iPcDone (s : State) (i : Nat) : Nat := getU (cnvCfg s i) 44 2 * 100000
def ssRate (s : State) (i : Nat) : Nat := getU (cnvCfg s i) 46 2
def pSs (s : State) (i : Nat) : Nat := getU (cnvCfg s i) 48 4
def ssMargin (s : State) (i : Nat) : Nat := getU (cnvCfg s i) 52 2
def ssRetryS (s : State) (i : Nat) : Nat := getU (cnvCfg s i) 54 2
def rDroop (s : State) (i : Nat) : Nat := getU (cnvCfg s i) 56 4
def ilSlot (s : State) (i : Nat) : Nat := getU (cnvCfg s i) 2 1
def syncPhase (s : State) (i : Nat) : Nat := getU (cnvCfg s i) 8 2

/-- Checks beyond the ranges: at least two legs, a whole number of taps in TSU mode, full scale 1.25 × i_phase_max. -/
def cnvCheck (p : Bytes) : Option Nat :=
  firstBad [must (decide (2 ≤ popCount8 (getU p 3 1))) 3,
    must (getU p 1 1 == 1 || 32000000000 % getU p 4 4 == 0) 4,
    must (decide (5 * getU p 18 2 ≤ 4 * getU p 20 2)) 20]

/-! ## *Estimator configuration* (05_cell_estimation.md R152) -/

def estFields : List Field :=
  [uf 0 1 0 7 0, uf 1 1 0 3 0, uf 2 1 0 15 15, uf 3 1 0 50 20, uf 4 4 0 0xFFFFFFFF 0, uf 8 2 0 65535 2800,
    uf 10 2 0 65535 3600, uf 12 2 0 65535 500, uf 14 2 0 65535 9500, uf 16 4 0 250000 250000, uf 20 4 0 320000 320000] ++
  (List.range 8).map (fun k => sf (24 + 2 * k) 2 (-32768) 32767 0) ++
  (List.range 8).map (fun k => uf (40 + 2 * k) 2 0 1000 0) ++
  (List.range 8).map (fun k => uf (56 + 2 * k) 2 0 1000 0) ++
  [uf 72 4 3600 604800 86400, uf 76 2 60 600 90, uf 78 2 100 20000 1000, uf 80 4 0 0xFFFFFFFF 0,
    uf 84 4 0 0xFFFFFFFF 0, uf 88 4 0 0xFFFFFFFF 0, uf 92 4 0 0xFFFFFFFF 0, uf 96 4 0 0xFFFFFFFF 300,
    uf 100 2 0 65535 2500, uf 102 2 1 100 5, uf 104 4 0 0xFFFFFFFF 0, uf 108 4 0 0xFFFFFFFF 0,
    uf 112 4 0 0xFFFFFFFF 0, rsv 116 12]

def estCfg (s : State) (i : Nat) : Bytes := forString estFields i (s.estAt i).cfg

/-- Checks beyond the ranges: i_peak_max at least i_cont_max, derate_t strictly ascending. -/
def estCheck (p : Bytes) : Option Nat :=
  firstBad ([must (decide (getU p 16 4 ≤ getU p 20 4)) 20] ++
    (List.range 7).map fun k => must (decide (getS p (24 + 2 * k) 2 < getS p (26 + 2 * k) 2)) (26 + 2 * k))

/-- mA. -/
def iContMax (s : State) (i : Nat) : Nat := getU (estCfg s i) 16 4
def iPeakMax (s : State) (i : Nat) : Nat := getU (estCfg s i) 20 4
def modelSlot (s : State) (i : Nat) : Nat := getU (estCfg s i) 1 1
def estFlag (s : State) (i k : Nat) : Bool := getBit (estCfg s i) 2 k
def sigmaK (s : State) (i : Nat) : Nat := getU (estCfg s i) 3 1
def anchorInterval (s : State) (i : Nat) : Nat := getU (estCfg s i) 72 4 * nsS
def restDuration (s : State) (i : Nat) : Nat := getU (estCfg s i) 76 2 * nsS
def rejectLimit (s : State) (i : Nat) : Nat := getU (estCfg s i) 102 2
/-- The module sensor of channel `c` (sensor_map). -/
def sensorOf (s : State) (i c : Nat) : Nat := getU (estCfg s i) 104 12 / 8 ^ c % 8

/-! ## *Dispatch configuration* (07_balancing_dispatch.md R213) -/

def dspFields : List Field :=
  [uf 0 2 0 1000 100, sf 2 2 (-32768) 32767 3500, sf 4 2 (-32768) 32767 4500, uf 6 1 0 100 50, uf 7 1 0 3 3,
    uf 8 2 9000 10000 9850, rsv 10 2, uf 12 4 1 100000 1000, uf 16 4 100 600000 5000, rsv 20 4]

def dspCfg (s : State) : Bytes := orDefault dspFields s.dsp.cfg
def dspCheck (p : Bytes) : Option Nat := must (decide (getS p 2 2 < getS p 4 2)) 4
/-- Converter efficiency as a fraction. -/
def etaC (s : State) : Rat := (getU (dspCfg s) 8 2 : Rat) / 10000

/-! ## *Dispatch request* (R204) -/

/-- The request in force. -/
def reqInForce (s : State) : Option Bytes := s.dsp.force.map (·.req)
def reqMode (b : Bytes) : Nat := getU b 4 1
/-- v_set in mV. -/
def reqV (b : Bytes) : Nat := getU b 24 4

/-! ## *Time configuration* (14_time.md R426) -/

def timFields : List Field :=
  [uf 0 1 0 127 0, uf 1 1 0 3 3, uf 2 1 0 3 1, uf 3 1 0 3 0, uf 4 2 0 0x7FFF 0x4000, uf 6 2 1 900 100,
    sf 8 4 (-2147483648) 2147483647 0, sf 12 4 (-2147483648) 2147483647 0, uf 16 4 1 1000000 1000, uf 20 4 60 86400 14400,
    uf 24 2 0 255 37, uf 26 2 0 65535 0, rsv 28 4]

def timCfg (s : State) : Bytes := orDefault timFields s.tsu.cfg

/-- The network port of a PTP source. -/
def srcPort : TimeSource → Option Nat | .neta => some 0 | .netb => some 1 | .pps => none

/-- UTC offset in s (R411): the selected grandmaster's while its Announce messages mark it valid, else the configured one. -/
def utcOffset (s : State) : Nat :=
  let m := (s.tsu.src.bind srcPort).bind fun p => (s.tsu.ports.getD p {}).master
  (m.bind (·.utc)).getD (getU (timCfg s) 24 2)

/-! ## *Tone plan* (06_impedance_thermal.md R155) -/

def planTones (p : Bytes) : Nat := getU p 1 1
def planWindow (p : Bytes) : Nat := getU p 2 1 * nsS
def planEpoch (p : Bytes) : Nat := getU p 8 8 * nsS + getU p 16 4
/-- Frequency in mHz, amplitude in 0.01 % of i_cont_max, phase in 2⁻¹⁶ turn. -/
def toneFreq (p : Bytes) (k : Nat) : Nat := getU p (24 + 8 * k) 4
def toneAmp (p : Bytes) (k : Nat) : Nat := getU p (28 + 8 * k) 2
def tonePhase (p : Bytes) (k : Nat) : Nat := getU p (30 + 8 * k) 2
def planHas (p : Bytes) (i : Nat) : Bool := getBit p 4 i

/-- Antiphase pairs (R158): the lower and higher string of pair `k`, and their number. -/
def pairStrings (s : State) (k : Nat) : Nat × Nat :=
  match s.variant with | .kzv4096 => (k, k + 4) | .kzv1024 => (0, 1)
def pairCount (s : State) : Nat := match s.variant with | .kzv4096 => 4 | .kzv1024 => 1
/-- The pair of string `i`. -/
def pairOf (s : State) (i : Nat) : Nat := match s.variant with | .kzv4096 => i % 4 | .kzv1024 => 0

/-- Envelope of a pair's injection, from 0 to 1 over 100 ms (R161, R162). -/
def envelope (s : State) (k : Nat) : Rat :=
  match (s.tpe.pairs.getD k {}).env with
  | .off => 0
  | .on => 1
  | .rising t => clampR 0 1 (((s.clk - t : Nat) : Rat) / (100 * nsMs : Nat))
  | .falling t => clampR 0 1 (1 - ((s.clk - t : Nat) : Rat) / (100 * nsMs : Nat))

/-- Scale of string `i`'s tones: the pair's scale for its side. -/
def toneScale (s : State) (i : Nat) : Rat :=
  let k := pairOf s i
  let p := s.tpe.pairs.getD k {}
  if (pairStrings s k).1 = i then p.scaleLo else p.scaleHi

/-- Amplitude of tone `k` on string `i`, A: plan amplitude × i_cont_max × scale. -/
def toneAmps (s : State) (p : Bytes) (i k : Nat) : Rat :=
  (toneAmp p k : Rat) / 10000 * ((iContMax s i : Rat) / 1000) * toneScale s i

/-- The tone sum of string `i` at TSU instant `t`, A (R161). -/
def toneSum (s : State) (i t : Nat) : Rat :=
  match s.tpe.plan with
  | none => 0
  | some p =>
    let k := pairOf s i
    if !planHas p i then 0
    else
      let psi : Rat := if (pairStrings s k).1 = i then 0 else 1 / 2
      let dt : Rat := ((t : Rat) - (planEpoch p : Nat)) / nsS
      envelope s k * ((List.range (planTones p)).map fun j =>
        toneAmps s p i j * Config.sinTurn ((toneFreq p j : Rat) / 1000 * dt + (tonePhase p j : Rat) / 65536 + psi)).sum

/-- The tone peak of string `i`, A: the sum of its injected amplitudes while its pair injects (R160). -/
def tonePeak (s : State) (i : Nat) : Rat :=
  match s.tpe.plan with
  | none => 0
  | some p =>
    if planHas p i && (s.tpe.pairs.getD (pairOf s i) {}).env != .off then
      ((List.range (planTones p)).map fun j => toneAmps s p i j).sum
    else 0

/-! ## The string junction and its limits (08_converter_control.md R230, R233, R248) -/

/-- Phases that switch or would switch: enabled, not waiting to rejoin, and not suspended but for the test of a sense
channel whose phase runs on its estimate (R248, R251). -/
def splitPhases (s : State) (i : Nat) : List Nat :=
  (enabledPhases s i).filter fun p =>
    (!s.suspended (uPhase p) || (s.phaseAt p).implausible) && !(s.phaseAt p).rejoin

/-- Weighted count of phases: one in estimate mode counts half (R248). -/
def phaseWeight (s : State) (p : Nat) : Rat := if (s.phaseAt p).estimate.isSome then 1 / 2 else 1
def phaseCount (s : State) (i : Nat) : Rat := ((splitPhases s i).map (phaseWeight s)).sum

/-- Current limits of the junction, A: charge and discharge (R233), folded back in a soft start (R240). -/
def junctionLimits (s : State) (i : Nat) : Rat × Rat :=
  let n := phaseCount s i
  let sop := (s.estAt i).sop0
  let hw : Rat := min (n * (iPhaseMax s i : Rat) / 100) ((iPeakMax s i : Rat) / 1000 * n / 4)
  let ss : Rat := match (s.convAt i).softStart with
    | none => hw
    | some _ => if (s.hviAt i).vs ≤ 0 then 0 else (pSs s i : Rat) * 10000 / ((s.hviAt i).vs : Rat)
  (min (min hw ss) ((sop.iChg : Rat) / 1000), min (min hw ss) ((sop.iDis : Rat) / 1000))

/-- I_ref, A: slewed outer output plus tone sum, clamped. -/
def iRef (s : State) (i t : Nat) : Rat :=
  let (c, d) := junctionLimits s i
  clampR (-d) c ((s.convAt i).ref + toneSum s i t)

/-- Setpoint of phase `p`, A: (I_ref + ΔI) / n, a phase in estimate mode at half weight and at most half of
i_phase_max. -/
def phaseSet (s : State) (p t : Nat) : Rat :=
  let i := p / 4
  let n := phaseCount s i
  if n = 0 then 0
  else
    let x := (iRef s i t + (s.le.corr.getD i 0 : Rat) / 65536) / n * phaseWeight s p
    if (s.phaseAt p).estimate.isSome then
      clampR (-((iPhaseMax s i : Rat) / 200)) ((iPhaseMax s i : Rat) / 200) x
    else x

end Sys2Proof.Machine
end

