-- ==== Sys2Proof/Machine/Ledger.lean ====
section
/-! DEFINITION. The balancing configuration and the charge ledger (07_balancing_dispatch.md R190, R198 to R203). -/

namespace Sys2Proof.Machine

/-! ## *Balancing configuration* (R190) -/

def balFields : List Field :=
  [uf 0 1 0 7 0, uf 1 1 0 2 2, uf 2 2 1 500 20, uf 4 2 1 1000 100, uf 6 2 2000 4500 3000, uf 8 2 2500 4500 3500,
    uf 10 2 2000 4500 3000, uf 12 2 100 3000 3000, sf 14 2 (-32768) 32767 4500, uf 16 2 500 1000 900,
    uf 18 2 500 1000 900, uf 20 2 10 2000 200, rsv 22 2]

def balCfg (s : State) (i : Nat) : Bytes := forString balFields i (s.balAt i).cfg
/-- shuttle_thr is at least deadband. -/
def balCheck (p : Bytes) : Option Nat := must (decide (getU p 2 2 ≤ getU p 4 2)) 4
def balMode (s : State) (i : Nat) : Nat := getU (balCfg s i) 1 1
def bleedFloor (s : State) (i : Nat) : Nat := getU (balCfg s i) 6 2
/-- Efficiencies as fractions. -/
def etaIn (s : State) (i : Nat) : Rat := (getU (balCfg s i) 16 2 : Rat) / 1000
def etaOut (s : State) (i : Nat) : Rat := (getU (balCfg s i) 18 2 : Rat) / 1000

/-! ## Booking (R198 to R202) -/

/-- Books shuttle charge `dq`, nC, at a cell voltage of `v` (units of 100 µV; none where no cell is known). The residue of
rounding is in loss, so the identity of R200 holds exactly. -/
def Ledger.bookShuttle (l : Ledger) (ein eout : Rat) (dq : Int) (v : Option Nat) : Ledger :=
  let e (x : Rat) : Nat := (roundR (x * ((v.getD 0 : Nat) : Rat) / 10000000000)).toNat
  if 0 < dq then
    let d := (roundR ((dq : Rat) / ein)).toNat
    { l with drawn := l.drawn + d, intoCells := l.intoCells + dq.toNat, loss := l.loss + (d - dq)
             eDrawn := l.eDrawn + e ((dq : Rat) / ein) }
  else
    let q := (-dq).toNat
    let r := (roundR ((q : Rat) * eout)).toNat
    { l with returned := l.returned + r, outOfCells := l.outOfCells + q, loss := l.loss + ((q : Int) - r)
             eReturned := l.eReturned + e ((q : Rat) * eout) }

/-- The first identity of R200. -/
def Ledger.balanced (l : Ledger) : Bool :=
  decide ((l.drawn : Int) - l.returned = (l.intoCells : Int) - l.outOfCells + l.loss)

/-- Books shuttle charge `dq` to channel `ch` of monitor `m` of string `i`. -/
def bookShuttle (s : State) (i m ch : Nat) (dq : Int) (d : RoundData) : State :=
  let s := s.modBal i fun b =>
    { b with ledger := b.ledger.bookShuttle (etaIn s i) (etaOut s i) dq (some (d.vCell.getD ch 0)) }
  s.modCell (512 * i + 32 * m + ch) fun c => { c with dBal := c.dBal + dq }

/-- Channels of a map, ascending. -/
def mapChannels (b : BitVec 32) : List Nat := (List.range 32).filter fun k => b.getLsbD k

/-- The shares of a bleed increment in proportion to voltage, each rounded down, the remainder to the lowest channel. -/
def bleedShares (d : RoundData) (q : Nat) (chs : List Nat) : List (Nat × Nat) :=
  let tot := (chs.map fun c => d.vCell.getD c 0).sum
  let share (c : Nat) : Nat := if tot = 0 then 0 else q * d.vCell.getD c 0 / tot
  let rest := q - (chs.map share).sum
  match chs with
  | [] => []
  | c :: t => (c, share c + rest) :: t.map fun k => (k, share k)

/-- Books bled charge, nC, split over channels `chs` of monitor `m`. -/
def bookBleed (s : State) (i m : Nat) (q : Nat) (chs : List Nat) (d : RoundData) : State :=
  let s := s.modBal i fun b => { b with ledger := { b.ledger with bled := b.ledger.bled + q } }
  (bleedShares d q chs).foldl (fun s e => s.modCell (512 * i + 32 * m + e.1) fun c => { c with dBal := c.dBal - e.2 }) s

/-- A shuttle increment with no channel at either reading (R201): into no cell's account, so that R200 still holds. -/
def bookUnattributedShuttle (s : State) (i m : Nat) (dq : Int) : State :=
  let s := s.modBal i fun b =>
    { b with ledger := { b.ledger.bookShuttle (etaIn s i) (etaOut s i) dq none with
                         unattributed := b.ledger.unattributed + dq, unattr := true } }
  detected s (uMon i m) 201 0

/-- A bleed increment with no channel at either reading (R201). -/
def bookUnattributedBleed (s : State) (i m : Nat) (q : Nat) : State :=
  let s := s.modBal i fun b =>
    { b with ledger := { b.ledger with bled := b.ledger.bled + q, unattributed := b.ledger.unattributed - q, unattr := true } }
  detected s (uMon i m) 201 1

/-- The channel a shuttle increment goes to (R198). -/
def shuttleChannel (prev now : RoundData) : Option Nat :=
  if prev.shuttleCh ≠ 255 then some prev.shuttleCh else if now.shuttleCh ≠ 255 then some now.shuttleCh else none

/-- Books increments of `qs` and `qb` units of 0.1 mC. -/
def bookIncrements (s : State) (i m : Nat) (prev now : RoundData) (qs : Int) (qb : Nat) : State :=
  let s := if qs = 0 then s else
    match shuttleChannel prev now with
    | some ch => bookShuttle s i m ch (qs * 100000) now
    | none => bookUnattributedShuttle s i m (qs * 100000)
  if qb = 0 then s else
    match mapChannels (prev.bleedMap ||| now.bleedMap) with
    | [] => bookUnattributedBleed s i m (qb * 100000)
    | chs => bookBleed s i m (qb * 100000) chs now

/-- The estimate of R202 for what ran at the previous reading, over half of `dt` ns: the commanded shuttle current (kept
in `cmd`, mA, negative out of the cell) and 200 mA for each bleeding channel. -/
def bookEstimate (s : State) (i m : Nat) (prev now : RoundData) (cmd : Int) (dt : Nat) : State :=
  let s := if prev.shuttleCh = 255 then s else bookShuttle s i m prev.shuttleCh (roundDiv (cmd * dt) 2000) now
  let s := (mapChannels prev.bleedMap).foldl (fun s ch => bookBleed s i m (roundDiv (200 * (dt : Int)) 2000).toNat [ch] now) s
  let s := s.modBal i fun b =>
    { b with ledger := { b.ledger with estimates := b.ledger.estimates + 1, estimated := true } }
  groupRecord s gBal (srcFlc i) lvInfo 202 (uMon i m) 0

/-- Books a reading of monitor `m`: increments since the previous reading, `dt` ns before; after a restart of the counters
the present values from zero and an estimate. -/
def bookReading (s : State) (i m : Nat) (prev : Option RoundData) (now : RoundData) (cmd : Int) (dt : Nat) : State :=
  match prev with
  | none => s
  | some p =>
    let restarted := now.status.getLsbD 6
    let before := (s.balAt i).ledger
    let s :=
      if restarted then
        bookEstimate (bookIncrements s i m p now now.qShuttle.toInt now.qBleed.toNat) i m p now cmd dt
      else bookIncrements s i m p now (now.qShuttle - p.qShuttle).toInt (now.qBleed - p.qBleed).toNat
    let s := s.modBal i fun b =>
      if b.ledger = before then b else { b with ledger := { b.ledger with time := s.tsu.now } }
    if (s.balAt i).ledger.balanced then s
    else
      groupRecord (s.modBal i fun b => { b with ledger := { b.ledger with identityFailed := true } })
        gBal (srcFlc i) lvWarn 200 i 0

/-- *Ledger account* (R203). -/
def ledgerBytes (s : State) (i : Nat) : Bytes :=
  let l := (s.balAt i).ledger
  leU 8 (l.time / nsS) ++ leU 4 (l.time % nsS) ++ leU 1 i ++
    leU 1 (bitsToNat [l.estimated, l.unattr, l.identityFailed]) ++ leU 2 0 ++ leU 8 l.drawn ++ leU 8 l.returned ++
    leU 8 l.intoCells ++ leU 8 l.outOfCells ++ leU 8 l.bled ++ leS 8 l.loss ++ leS 8 l.unattributed ++
    leU 8 l.eDrawn ++ leU 8 l.eReturned ++ leU 4 l.estimates ++ leU 4 0

end Sys2Proof.Machine
end

