-- ==== Sys2Proof/Machine/Operands.lean ====
section
/-! DEFINITION. The argument forms of 15_host_interface.md R452: none, I, R, D, C, M and W, and the commands that only
return data. -/

namespace Sys2Proof.Machine

/-- A descriptor field that names none. -/
def noDesc : Nat := 0xFFFF

/-- The descriptor at `off`, needing `n` bytes, unless it names none. -/
def descAt (q : Req) (off n : Nat) : Option (Nat × Nat) :=
  let d := getU q.payload off 2
  if d = noDesc then none else some (d, n)

/-- A reserved field of `n` bytes at `off` is 0. -/
def zeroAt (p : Bytes) (off n : Nat) : Option Nat := must (getU p off n == 0) off

/-- The objects an index names: 0xFF selects every one of `n` (form I). -/
def namedBy (idx n : Nat) : List Nat := if idx = 0xFF then List.range n else [idx]

/-- Checks of form I against `n` objects: the index, the reserved byte, and a descriptor where the response needs a
buffer. Objects that are strings or phases are refused by population instead (R446). -/
def argI (n : Nat) (all pop : Bool) (respLen : Nat) (p : Bytes) : Option Nat :=
  let i := getU p 0 1
  firstBad [must (if i = 0xFF then all else pop || decide (i < n)) 0, zeroAt p 1 1,
    must (decide (respLen ≤ 240) || getU p 2 2 != noDesc) 2]

/-- A get command of form I: `resp` of each object the index names. -/
def getI (op : Nat) (v pop all : Bool) (n : State → Nat) (resp : State → Nat → Bytes) (q : Req) (s : State) : Out State :=
  let body (s : State) : Bytes := (namedBy (getU q.payload 0 1) (n s)).flatMap (resp s)
  command
    { op := op, len := lenIs 4, roles := .all, v := v
      pop := fun s p => must (!pop || getU p 0 1 == 0xFF || decide (getU p 0 1 < n s)) 0
      arg := fun s q => argI (n s) all pop (body s).length q.payload
      desc := fun s q => descAt q 2 (if (body s).length ≤ 240 then 0 else (body s).length) }
    (fun s q => respond s op q (getU q.payload 2 2) (body s)) q s

/-- A get command with no argument. -/
def getNone (op : Nat) (v : Bool) (resp : State → Bytes) (q : Req) (s : State) : Out State :=
  command { op := op, len := lenIs 0, roles := .all, v := v } (fun s q => ok s op q (resp s)) q s

/-- A get command of form W: the response goes into the buffer. -/
def getW (op : Nat) (v : Bool) (resp : State → Bytes) (q : Req) (s : State) : Out State :=
  command
    { op := op, len := lenIs 2, roles := .all, v := v
      arg := fun _ q => must (getU q.payload 0 2 != noDesc) 0
      desc := fun s q => descAt q 0 (resp s).length }
    (fun s q => respondBuf s op q (getU q.payload 0 2) (resp s)) q s

/-- A copy command of form C over `n` entries: entry `i` is `resp s i`. Entries that are cells are refused by population
(R3), others as a bad argument at the field that passes the end. -/
def getC (op : Nat) (v cells : Bool) (n : State → Nat) (resp : State → Nat → Bytes) (q : Req) (s : State) : Out State :=
  let first := getU q.payload 4 4
  let count := getU q.payload 8 4
  let inside (s : State) : Option Nat :=
    if n s < first ∨ (first = n s ∧ 0 < count) then some 4 else if n s < first + count then some 8 else none
  let body (s : State) : Bytes := ((List.range count).map (first + ·)).flatMap (resp s)
  command
    { op := op, len := lenIs 12, roles := .all, v := v
      pop := fun s _ => if cells then inside s else none
      arg := fun s q => firstBad [must (getU q.payload 0 2 != noDesc) 0, zeroAt q.payload 2 2,
        if cells then none else inside s]
      desc := fun s q => descAt q 0 (body s).length }
    (fun s q => respondBuf s op q (getU q.payload 0 2) (body s)) q s

/-- The index of a free descriptor. -/
def freeDesc (s : State) : Option Nat := (List.range 256).find? fun d => (s.desc d).kind = 0

/-- A live descriptor of `port` onto the region at `off`. -/
def liveDesc (s : State) (port : Port) (off : Nat) : Option Nat :=
  (List.range 256).find? fun d =>
    (s.desc d).kind = 2 ∧ (s.desc d).requester = portCode port ∧ (s.desc d).offset = off

/-- A map command of form M: a kind 2 descriptor onto a live region; a repeated map by the same port returns the same
one (R441). -/
def mapM (op off size : Nat) (q : Req) (s : State) : Out State :=
  let answer (d : Nat) : Bytes := leU 2 d ++ leU 2 0 ++ leU 4 off ++ leU 4 size
  command
    { op := op, len := lenIs 0, roles := .all
      res := fun s q => (liveDesc s q.port off).isNone && (freeDesc s).isNone }
    (fun s q =>
      match liveDesc s q.port off with
      | some d => ok s op q (answer d)
      | none =>
        let d := (freeDesc s).getD 0
        let s := s.modDesc d fun e =>
          { own := true, kind := 2, requester := portCode q.port, gen := (e.gen + 1) % 65536, offset := off
            size := size, used := 0, opcode := op, seq := q.seq }
        ok s op q (answer d)) q s

/-- A command of form R that only an ACTIVE or SOLO unit takes: `fs` are the record's fields, `chk` the other checks of
the owning chapter, `store` its effect; it completes once the partner has acknowledged the record (R344). -/
def setR (op size : Nat) (fs : List Field) (pop : State → Bytes → Option Nat) (chk : State → Bytes → Option Nat)
    (store : State → Bytes → State) (q : Req) (s : State) : Out State :=
  command
    { op := op, len := lenIs size, roles := .as, h := false, pop := pop
      arg := fun s q => firstBad [badField fs q.payload, chk s q.payload] }
    (fun s q => commit (store s q.payload) op q peerConfig []) q s

/-- Offset of a field inside a window buffer, as detail (R447). -/
def inBuf (o : Option Nat) : Option Nat := o.map fun n => 0x8000 + min n 0x7FFF

end Sys2Proof.Machine
end

