-- ==== Sys2Proof/Machine/UpdAct.lean ====
section
/-! DEFINITION. Update containers as their headers lay them out, the bank directory, and the ends of an activation that
other chapters' events bring about (19_update.md R513, R521 to R527, R532, R533). -/

namespace Sys2Proof.Machine

/-! ## Containers (R513) -/

def Xfer.u (x : Xfer) (off n : Nat) : Nat := getU x.header off n
def Xfer.part (x : Xfer) : Nat := x.u 6 1
def Xfer.cls (x : Xfer) : Nat := x.u 7 1
def Xfer.imageId (x : Xfer) : Bytes := slice x.header 32 8
def Xfer.count (x : Xfer) : Nat := x.u 28 4

/-- The requirement entries in use: part, lowest and highest if_level. -/
def Xfer.reqs (x : Xfer) : List (Nat × Nat × Nat) :=
  (List.range (x.u 14 1)).map fun k => (x.u (184 + 8 * k) 1, x.u (186 + 8 * k) 2, x.u (188 + 8 * k) 2)

/-- What the directory keeps of a container's image. -/
def Xfer.image (x : Xfer) : BankImage :=
  { present := true, valid := true, version := x.u 16 4, ifLevel := x.u 12 2, svn := x.u 20 4, keySet := x.u 9 1
    flags := x.u 10 2, reqs := x.reqs }

/-- What the content key comes from: image_id and wrapped_cek (R514). -/
def Xfer.key (x : Xfer) : Bytes := slice x.header 32 8 ++ slice x.header 144 40

/-- The plaintext of chunks `k` to `k` + `n` − 1 as they stand in NOR; none where a tag fails (R514). -/
def Xfer.opened (x : Xfer) (k : Nat) : Nat → Option Bytes
  | 0 => some []
  | n + 1 =>
    match Config.gcmOpen x.key k (tblGet [] k x.chunks), x.opened (k + 1) n with
    | some b, some r => some (b ++ r)
    | _, _ => none

/-- The payload: image_len bytes of plaintext. -/
def Xfer.payload (x : Xfer) : Option Bytes := (x.opened 0 x.count).map fun b => b.take (x.u 24 4)

/-- The image a delta payload makes of `base`, in at most `fuel` records (R531). -/
def applyDelta (base : Bytes) : Nat → Bytes → Bytes → Option Bytes
  | 0, _, _ => none
  | fuel + 1, b, out =>
    match getU b 0 1 with
    | 1 =>
      let src := getU b 1 4
      let n := getU b 5 4
      if b.length < 9 ∨ base.length < src + n then none else applyDelta base fuel (b.drop 9) (out ++ slice base src n)
    | 2 =>
      let n := getU b 1 4
      if b.length < 5 + n then none else applyDelta base fuel (b.drop (5 + n)) (out ++ slice b 5 n)
    | 3 => if b.length = 1 then some out else none
    | _ => none

def State.xferAt (s : State) (t : Nat) : Xfer := s.upd.xfer.getD t {}
def State.modXfer (s : State) (t : Nat) (f : Xfer → Xfer) : State := s.setUpd fun u => { u with xfer := u.xfer.modify t f }

/-! ## The bank directory (R521) -/

/-- The part of code 1, 2 or 3: SUP, SP, APP. -/
def State.partAt (s : State) (p : Nat) : Part := match p with | 1 => s.upd.sup | 2 => s.upd.sp | _ => s.upd.app
def State.modPart (s : State) (p : Nat) (f : Part → Part) : State :=
  s.setUpd fun u => match p with
    | 1 => { u with sup := f u.sup } | 2 => { u with sp := f u.sp } | _ => { u with app := f u.app }

def Part.bank (p : Part) (b : Nat) : BankImage := if b = 0 then p.bankA else p.bankB
def Part.setBank (p : Part) (b : Nat) (i : BankImage) : Part := if b = 0 then { p with bankA := i } else { p with bankB := i }

/-- The image in force of a part of the banks. -/
def Part.inForce (p : Part) : BankImage := p.bank p.active

/-- The bank a new image of part `p` goes to: the inactive one, on the KZV-1024 bank A (R521). -/
def targetBank (s : State) (p : Nat) : Nat :=
  match s.variant with | .kzv4096 => 1 - (s.partAt p).active | .kzv1024 => 0

/-- An image may be started: in its slot, with its key set not revoked and svn not below the floor (R520, R529). -/
def imageOk (s : State) (i : BankImage) : Bool := i.valid && !s.upd.revoked.getLsbD i.keySet && decide (s.upd.floor ≤ i.svn)

/-- The trial window (R526). -/
def trialWindow : Nat := 600 * nsS

/-- The image of activation `a` becomes active and is on trial from now, the old one its fallback (R523, R526). -/
def startTrial (s : State) (a : Activation) : State :=
  let b := targetBank s a.part
  s.modPart a.part fun p =>
    { (p.setBank b (s.xferAt a.transfer).image) with
      active := b, trial := true, deadline := s.clk + trialWindow, restarted := false, okSince := some s.clk
      confirmed := false, needHost := a.flags % 2 = 1, swapOn := a.flags / 2 % 2 = 1, dwell := a.dwell
      transfer := a.transfer }

/-- The fallback image of part `p` becomes active, not on trial; the failed image's slot is invalid, recorded at error
level (R527). Its container is VERIFIED, its slot to be erased anew. -/
def fellBack (s : State) (p : Nat) : State :=
  let x := s.partAt p
  let bad := x.active
  let s := s.modPart p fun x =>
    { (x.setBank bad { x.inForce with valid := false }) with active := 1 - bad, trial := false }
  groupRecord (s.modXfer x.transfer fun y => { y with state := .verified }) gUpd srcSup lvErr 527 p (x.bank bad).version

/-- Ends the activation in progress and its command. -/
def actDone (s : State) (status detail : Nat) : State :=
  match s.upd.act with
  | none => s
  | some a =>
    let s := s.setUpd fun u => { u with act := none }
    match a.req with
    | none => s
    | some e => completeExec s e status detail []

/-- The activation in progress fails; its container is READY for another attempt. -/
def actFailed (s : State) (detail : Nat) : State :=
  match s.upd.act with
  | none => s
  | some a => actDone (s.modXfer a.transfer fun x => { x with state := .ready }) stFailed detail

/-- SP resumes the cross-link within the 300 ms of R524. -/
def spResumed (s : State) : State :=
  match s.upd.act with
  | none => s
  | some a =>
    let inTime : Bool := match s.saf.sloe.singleUntil with | none => false | some e => decide (s.clk ≤ e)
    if a.part != 2 || s.saf.sp.alive || !inTime then s
    else
      let s := s.modChan .sp fun c => { c with alive := true, crossT := s.clk }
      let s := s.modChan .sloe fun c => { c with singleUntil := none, crossT := s.clk }
      actDone (if a.stage = 2 then fellBack s 2 else startTrial s a) stOk 0

/-! ## Monitor firmware (R532, R533) -/

/-- Monitors an activation of SM-32 firmware serves, in ascending order. -/
def fwOrder (s : State) (mask : Nat) : List (Nat × Nat) :=
  (List.range s.strings).flatMap fun i =>
    if mask.testBit i ∧ (s.ringAt i).declared then (List.range (s.ringAt i).n).map fun m => (i, m) else []

/-- Key of what stands in force for part `p`, slot `n`, in `Upd.store`. -/
def storeKey (p n : Nat) : Nat := 16 * p + n

/-- The part store's image of part `p`. -/
def baseOf (s : State) (p : Nat) : Bytes := (tblGet ({}, Config.baseImage p) (storeKey p 0) s.upd.store).2

/-- The resulting image of a container: for a delta the image it makes of the base (R531), else the payload. -/
def resultOf (s : State) (x : Xfer) : Option Bytes :=
  match x.payload with
  | none => none
  | some b => if x.cls = 1 then applyDelta (baseOf s x.part) (b.length + 1) b [] else some b

/-- The container's image is in force for slot `n` of its part. -/
def storeImage (s : State) (x : Xfer) (n : Nat) : State :=
  s.setUpd fun u => { u with store := tblSet (storeKey x.part n) (x.image, (resultOf s x).getD []) u.store }

/-- A delta is fully distributed: its result replaces the base (R531), and the activation is over. -/
def distributed (s : State) (a : Activation) : State :=
  let s := storeImage s (s.xferAt a.transfer) 0
  actDone (s.modXfer a.transfer fun x => { x with state := .ready }) stOk 0

/-- The monitor is back with DATA after its SWITCH: the next is served; one that runs its previous image stops the
activation. -/
def fwReturned (s : State) (i m : Nat) : State :=
  let f := (s.monAt i m).fw
  if f.switchedT.isNone then s
  else
    let s := s.modMon i m fun x => { x with fw := { x.fw with switchedT := none } }
    match s.upd.act with
    | none => s
    | some a =>
      if a.part != 5 || (fwOrder s a.target)[a.count]? != some (i, m) then s
      else if f.failed then actFailed s 1
      else
        let s := s.setUpd fun u => { u with act := some { a with count := a.count + 1 } }
        if a.count + 1 < (fwOrder s a.target).length then s else distributed s a

end Sys2Proof.Machine
end

