-- ==== Sys2Proof/Machine/Channels.lean ====
section
/-! DEFINITION. The safety channels: trip latches, close permits, contactors, safety functions, safety inputs, the
parameter set with its staged commit, and safe communication (10_safety.md R281 to R318, R568). -/

namespace Sys2Proof.Machine

/-! ## The active set (R306) -/

def State.setB (s : State) (c : Channel) : Bytes := (s.chan c).set.getD []
def blkOff (i : Nat) : Nat := 32 + 48 * i
/-- A field of the block of string `i` in a set. -/
def blkU (b : Bytes) (i off n : Nat) : Nat := getU b (blkOff i + off) n
def blkS (b : Bytes) (i off : Nat) : Int := getS b (blkOff i + off) 2
def protectedIn (b : Bytes) (i : Nat) : Bool := getBit b (blkOff i) 0
def coil3In (b : Bytes) (i : Nat) : Bool := getBit b (blkOff i) 1
def contCloseNs (b : Bytes) (i : Nat) : Nat := blkU b i 38 2 * nsMs
def contOpenNs (b : Bytes) (i : Nat) : Nat := blkU b i 40 2 * nsMs
def discrepancyNs (b : Bytes) : Nat := getU b 438 2 * nsMs
def setCrc (b : Bytes) : Nat := getU b 1020 4
/-- Input `k`'s entry: function, mode, tp, pair, strings, flags, debounce. -/
def siU (b : Bytes) (k off n : Nat) : Nat := getU b (448 + 8 * k + off) n
/-- Thermal input `n`'s entry. -/
def tiUse (b : Bytes) (n : Nat) : Nat := getU b (576 + 4 * n) 1
def tiOn (b : Bytes) (n i : Nat) : Bool := getBit b (577 + 4 * n) i

/-- Present cells of string `i` (00_scope.md R13): 32 for each declared monitor. -/
def presentCells (s : State) (i : Nat) : List Nat :=
  let r := s.ringAt i
  if r.declared then (List.range (32 * r.n)).map (512 * i + ·) else []

def chanUnit : Channel → Nat | .sp => uSp | .sloe => uSloe
def chanSrc : Channel → Nat | .sp => srcSp | .sloe => srcSloe
def chanBit : Channel → Nat | .sp => 1 | .sloe => 2
def otherChan : Channel → Channel | .sp => .sloe | .sloe => .sp

/-- A channel evaluates: it has power and its clock (02_power_states_clocks.md *Clock domains*, R52). -/
def chanRuns (s : State) (c : Channel) : Bool :=
  (s.chan c).alive && s.pwr.state != .retention && s.pwr.state != .unpowered &&
    match c with
    | .sp => !s.pwr.failedClocks.contains .safe && !s.asleep
    | .sloe => !s.pwr.failedClocks.contains .sloe

/-! ## Thresholds of a monitor (R304, R305) -/

def thrOf (b : Bytes) (i : Nat) : Thresholds :=
  { ov := blkU b i 2 2, uv := blkU b i 4 2, ot := blkS b i 18, openMv := blkU b i 6 2, filt := blkU b i 1 1 }

/-- Offsets 4 to 15 of *THR_LOAD payload*. -/
def thrBytes (t : Thresholds) : Bytes :=
  leU 2 t.ov ++ leU 2 t.uv ++ leS 2 t.ot ++ leU 2 t.openMv ++ leU 1 t.filt ++ [0, 0, 0]

/-- thr_crc: CRC-16 with polynomial 0x1021, initial value 0xFFFF. -/
def thrCrc (t : Thresholds) : Nat := crcL 16 0x1021 0xFFFF (thrBytes t)

/-- The thr_crc that channel `c` accepts of ring `i`'s monitors: its set's, and in the loading window the previous one's. -/
def thrAccepts (s : State) (c : Channel) (i : Nat) (crc : Nat) : Bool :=
  let of (b : Option Bytes) : Bool := match b with | none => false | some x => thrCrc (thrOf x i) == crc
  let ch := s.chan c
  of ch.set || (of ch.prevSet && match s.saf.loadingEnd with | none => false | some e => decide (s.clk < e))

/-! ## Close permits (R281, R297, R298, R303) -/

/-- A demand as it acts: raw demand, held demand, input fault or pair fault (R301 to R303). -/
def SafeIn.acts (x : SafeIn) : Bool := x.demand || x.held || x.fault || x.pairFault

/-- An input that forbids closing of string `i` (R303). -/
def extForbids (s : State) (c : Channel) (i : Nat) : Bool :=
  let b := s.setB c
  (List.range 16).any fun k =>
    siU b k 0 1 != 0 && getBit b (448 + 8 * k + 4) i && !getBit b (448 + 8 * k + 5) 0 &&
      ((s.chan c).inputs.getD k {}).acts

/-- SF-ISO forbids nothing: OFF, or a result no older than 3 s, or a held one no older than 35 s (R297). -/
def isoRecent (s : State) (c : Channel) : Bool :=
  let iso := s.hvi.iso
  iso.mode == .off ||
    (if iso.handover then
      match iso.result with | none => false | some r => decide (s.clk ≤ r.at_ + 35 * nsS)
    else match (s.chan c).lastIsoT with | none => false | some t => decide (s.clk ≤ t + 3 * nsS))

def commMode (b : Bytes) : Nat := getU b 421 1

/-- The close permit of channel `c` for string `i` (R281). A channel under self-test gives none (18_faults_peat_log.md
R498). -/
def permit (s : State) (c : Channel) (i : Nat) : Bool :=
  let ch := s.chan c
  let x := ch.at i
  let b := s.setB c
  !x.latch && ch.set.isSome && protectedIn b i && !ch.isoForbidAll && !x.isoForbid && isoRecent s c &&
    (commMode b == 0 || (!ch.commForbid && ch.permits.getLsbD i)) && !extForbids s c i && chanRuns s c &&
    !s.unitOut (chanUnit c)

/-! ## Trips (R281, R282, R286, R292) -/

/-- A channel evaluates a function: SF-RUN in SP only. -/
def evaluates (c : Channel) (f : SafetyFn) : Bool := c == .sp || f != .run

/-- String states with a path closed or closing. -/
def strConnected (s : State) (i : Nat) : Bool :=
  match (s.strAt i).state with | .precharge | .connected | .regulating => true | _ => false

/-- A latched trip: the open words and the gate-off line reach the stages of a unit that commands strings; on another unit
the latch alone stands (R286). A trip ends FLOAT. -/
def latchString (s : State) (i cause : Nat) : State :=
  if s.unit.commands then haltStr (exitFloat s) i cause else s

/-- A trip of function `f` by channel `c` on string `i`. -/
def trip (s : State) (c : Channel) (i : Nat) (f : SafetyFn) : State :=
  let x := (s.chan c).at i
  if !evaluates c f || !chanRuns s c || (s.chan c).set.isNone || (x.latch && x.tripped.contains f) then s
  else
    let s := s.modChanStr c i fun x =>
      { x with latch := true, gateOff := true, tripped := if x.tripped.contains f then x.tripped else x.tripped ++ [f]
               commClear := if f == .comm then false else x.commClear }
    latchString (record s 0x30 (chanSrc c) lvWarn i (fnBit f) (chanBit c)) i 292

def execTrip (t : Nat) (ch : Channel) (i : Nat) (sf : SafetyFn) (s : State) : Out State :=
  let s := s.advance t
  .next (if s.isStr i then trip s ch i sf else s)

/-- Both channels trip. -/
def tripBoth (s : State) (i : Nat) (f : SafetyFn) : State := trip (trip s .sp i f) .sloe i f

/-! ## Closing (R283, R284, R287) -/

/-- A request to both channels to close `coils` of string `i`. -/
def requestClose (s : State) (i : Nat) (coils : BitVec 4) : State :=
  let s := s.modCont i fun c => { c with request := some (coils, s.clk), opening := none }
  let s := s.modChanStr .sp i fun c => { c with granted := false }
  s.modChanStr .sloe i fun c => { c with granted := false }

/-- Channel `c` judges the request on string `i`: its word takes the requested coils, coil 3 where its own set fits it. -/
def grantClose (s : State) (i : Nat) (coils : BitVec 4) (c : Channel) : State :=
  if permit s c i then
    s.modChanStr c i fun x =>
      { x with coils := if coil3In (s.setB c) i then coils else coils &&& 7, granted := true }
  else s

/-- CLOSE_REQUEST: both channels judge; when both grant, the request is over, and the precharge resistor heats from the
command that closes coil 2 (08_converter_control.md R236). -/
def execCloseRequest (t : Nat) (i : Nat) (s : State) : Out State :=
  let s := s.advance t
  .next (match (s.contAt i).request with
    | none => s
    | some (coils, _) =>
      let s := grantClose (grantClose s i coils .sp) i coils .sloe
      if (s.saf.sp.at i).granted && (s.saf.sloe.at i).granted then
        let s := s.modCont i fun c => { c with request := none }
        if (s.convAt i).stage = 3 then s.modConv i fun c => { c with heating := true } else s
      else s)

/-- A precharge that fails before it completes (08_converter_control.md R235): contactors open, the string ISOLATED,
STR_CONNECT FAILED with `detail`. -/
def prechargeFail (s : State) (i detail : Nat) : State :=
  endTrans (setStr (openCoils (endPrecharge s i) i) i .isolated 235) i stFailed detail

/-- 100 ms after a close request (R284): one grant alone is a close disagreement; none ends the precharge. -/
def execCloseRequestTimeout (t : Nat) (i : Nat) (s : State) : Out State :=
  let s := s.advance t
  .next (match (s.contAt i).request with
    | none => s
    | some (_, t0) =>
      if s.clk < t0 + 100 * nsMs then s
      else if (s.saf.sp.at i).granted || (s.saf.sloe.at i).granted then
        let f : ChanStr → ChanStr := fun x => { x with disagreement := true }
        haltStr ((openCoils s i).modChanStr .sp i f |>.modChanStr .sloe i f) i 284
      else if (s.strAt i).state == .precharge then prechargeFail s i 4
      else s.modCont i fun c => { c with request := none })

/-- Words of a new active unit (11_redundancy.md R335): the closed coils of a connected string where the channel permits;
a string that either channel does not permit is opened. -/
def adoptString (s : State) (i : Nat) : State :=
  match (s.strAt i).state with
  | .connected | .regulating =>
    if permit s .sp i && permit s .sloe i then grantClose (grantClose s i 11 .sp) i 11 .sloe else haltStr s i 335
  | _ => s

/-! ## BKR_TRIP and welds (R291) -/

/-- Asserts BKR_TRIP for 500 ms where a set has it wired. -/
def bkrAssert (s : State) (c : Channel) : State :=
  if getBit (s.setB c) 17 2 then s.setSaf fun f => { f with bkrTrip := true, bkrEnd := s.clk + 500 * nsMs } else s

def bkrBoth (s : State) : State := bkrAssert (bkrAssert s .sp) .sloe

/-- A pending pulse leaves when coil 1's mirror confirms open, or cont_open after its open command. -/
def weldPulseStep (s : State) (i : Nat) : State :=
  let c := s.contAt i
  let wait := max (contOpenNs (s.setB .sp) i) (contOpenNs (s.setB .sloe) i)
  if c.weldPulse && (!c.mirror.getLsbD 1 || decide (c.weldT + wait ≤ s.clk)) then
    bkrBoth (s.modCont i fun c => { c with weldPulse := false })
  else s

/-- A weld of coil `k` found: latched and recorded, the other pole commanded open; with coil 1 welded the positive pole
is already open. -/
def weldFound (s : State) (i k : Nat) : State :=
  if (s.contAt i).weld.getLsbD k then s
  else
    let s := s.modCont i fun c => { c with weld := c.weld ||| BitVec.twoPow 4 k, weldPulse := k != 1, weldT := s.clk }
    let s := record s 0x31 srcSp lvErr i k 0
    let f : ChanStr → ChanStr := fun x => { x with latch := true, weld := true, gateOff := true }
    let s := latchString (s.modChanStr .sp i f |>.modChanStr .sloe i f) i 291
    let s := openCoils s i
    if k = 1 then bkrBoth s
    else
      let g : ChanStr → ChanStr := fun x => { x with coils := 0 }
      (s.modChanStr .sp i g).modChanStr .sloe i g

/-- WELD: a coil commanded open whose mirror shows closed past cont_open. -/
def execWeld (t : Nat) (i coil : Nat) (s : State) : Out State :=
  let s := s.advance t
  let c := s.contAt i
  let due : Bool := [Channel.sp, Channel.sloe].any fun ch =>
    (s.chan ch).set.isSome &&
      (c.confirmed.getLsbD coil || decide (c.cmdT.getD coil 0 + contOpenNs (s.setB ch) i ≤ s.clk))
  .next (if c.followsUs && decide (coil < 4) && !c.energised.getLsbD coil && c.mirror.getLsbD coil && due then
      weldPulseStep (weldFound s i coil) i
    else weldPulseStep s i)

def execBkrTripEnd (t : Nat) (s : State) : Out State :=
  let s := s.advance t
  .next (if s.saf.bkrTrip && decide (s.saf.bkrEnd ≤ s.clk) then s.setSaf fun f => { f with bkrTrip := false } else s)

/-! ## The CDB cycle (R288 to R290) -/

/-- Judges coil `k` of string `i` for channel `c` (*Mirror outcomes*): `cmd` as commanded, `fresh` changed in this cycle. -/
def judgeCoil (i : Nat) (cmd mir was fresh : Bool) (since k : Nat) (s : State) (c : Channel) : State :=
  let b := s.setB c
  if (s.chan c).set.isNone || !chanRuns s c || (k == 3 && !coil3In b i) then s
  else if cmd && !mir && ((was && !fresh) || decide (since + contCloseNs b i ≤ s.clk)) then trip s c i .cont
  else if !cmd && mir && ((was && !fresh) || decide (since + contOpenNs b i ≤ s.clk)) then weldFound s i k
  else s

/-- What the mirrors say to a precharge in progress: t_pc starts when the path confirms closed; coil 2 opens when coil 0
confirms closed; the resistor stops heating (08_converter_control.md R235, R236). -/
def prechargeMirrors (s : State) (i : Nat) : State :=
  let c := s.contAt i
  let v := s.convAt i
  let s := if v.stage = 3 && c.mirror.getLsbD 1 && c.mirror.getLsbD 2 then
      s.modConv i fun v => { v with tPc := some (v.tPc.getD s.clk) } else s
  let s := if v.stage = 4 && c.mirror.getLsbD 0 then
      let f : ChanStr → ChanStr := fun x => { x with coils := x.coils &&& 11 }
      (s.modChanStr .sp i f).modChanStr .sloe i f
    else s
  if v.heating && (c.mirror.getLsbD 0 || (!c.energised.getLsbD 2 && !c.mirror.getLsbD 2)) then
    s.modConv i fun v => { v with heating := false }
  else s

/-- A disconnection ends when every contactor has opened (01_system.md *Per-string state transitions*). -/
def openedStep (s : State) (i : Nat) : State :=
  let c := s.contAt i
  let v := s.convAt i
  if v.rampThen == some .isolated && !v.running && c.energised == 0 && c.mirror == 0 then
    endTransOk (setStr (s.modConv i fun v => { v with rampThen := none }) i .isolated 25) i
  else s

/-- One CX-4 in one cycle. The stage takes the words only of the unit it follows, and a coil closes only while both words
command it closed. -/
def cdbOne (s : State) (i : Nat) (mir : BitVec 4) : State :=
  let c := s.contAt i
  if !c.followsUs then openedStep (s.modCont i fun c => { c with mirror := mir, ackMissing := 0 }) i
  else
    let cmd := (s.saf.sp.at i).coils &&& (s.saf.sloe.at i).coils
    let fresh (k : Nat) : Bool := cmd.getLsbD k != c.energised.getLsbD k
    let agree (k : Nat) : Bool := cmd.getLsbD k == mir.getLsbD k
    let cmdT := (List.range 4).map fun k => if fresh k then s.clk else c.cmdT.getD k 0
    let conf := (List.range 4).map fun k => agree k || (!fresh k && c.confirmed.getLsbD k)
    let s := s.modCont i fun c =>
      { c with energised := cmd, mirror := mir, cmdT := cmdT, confirmed := BitVec.ofNat 4 (bitsToNat conf)
               ackMissing := 0, heldSince := none }
    let s := (List.range 4).foldl (fun s k =>
      let j := judgeCoil i (cmd.getLsbD k) (mir.getLsbD k) (c.confirmed.getLsbD k) (fresh k) (cmdT.getD k 0) k
      j (j s .sp) .sloe) s
    openedStep (weldPulseStep (prechargeMirrors s i) i) i

/-- CDB_CYCLE of a bus: `mirrors` holds an entry for each CX-4 that acknowledged. Three cycles in a row without a good
answer are a detected error of the bus (18_faults_peat_log.md R498). -/
def execCdbCycle (t : Nat) (bus : Nat) (mirrors : List (BitVec 4)) (crcOk : Bool) (s : State) : Out State :=
  let s := s.advance t
  .next ((List.range 4).foldl (fun s k =>
    let i := 4 * bus + k
    if !s.isStr i || !(chanRuns s .sp || chanRuns s .sloe) then s
    else
      match crcOk, mirrors[k]? with
      | true, some m => cdbOne s i m
      | _, _ =>
        let n := (s.contAt i).ackMissing + 1
        let s := s.modCont i fun c => { c with ackMissing := n }
        if n = 3 then detected s (uCdb bus) 498 0 else s) s)

/-- The second step of opening (R289). -/
def execOpenSecondPole (t : Nat) (i : Nat) (s : State) : Out State :=
  let s := s.advance t
  let c := s.contAt i
  let wait := max (contOpenNs (s.setB .sp) i) (contOpenNs (s.setB .sloe) i)
  .next (if c.opening.isSome && (c.mirror &&& 13 == 0 || heldFor s c.opening wait) then
      let f : ChanStr → ChanStr := fun x => { x with coils := x.coils &&& 13 }
      ((s.modCont i fun c => { c with opening := none }).modChanStr .sp i f).modChanStr .sloe i f
    else s)

/-! ## Cross-link (R285) -/

/-- The causes a Sloe alarm-line trip matches (R285, R293). -/
def alarmFns : List SafetyFn := [.ov, .uv, .ot]
def commonFns : List SafetyFn := [.ov, .uv, .ot, .oc, .iso, .ext, .comm, .cont]

/-- Function `f`, tripped in channel `c` on string `i`, has no match in the other. -/
def unmatched (s : State) (c : Channel) (i : Nat) (f : SafetyFn) : Bool :=
  let mine := ((s.chan c).at i).tripped
  let theirs := ((s.chan (otherChan c)).at i).tripped
  let same := if alarmFns.contains f then alarmFns.any fun g => theirs.contains g else theirs.contains f
  mine.contains f && !same

/-- The larger of both channels' debounces of a function, ns. -/
def fnDebounce (s : State) (i : Nat) (f : SafetyFn) : Nat :=
  let of (c : Channel) : Nat :=
    let b := s.setB c
    match f with
    | .ov | .uv => max (blkU b i 8 2) (blkU b i 1 1 + 1) * nsMs
    | .ot => 5 * nsS
    | .oc => blkU b i 16 2 * nsMs
    | .iso => 2 * nsS
    | .ext => ((List.range 16).map fun k => if siU b k 0 1 = 0 then 0 else siU b k 6 2).foldl max 0 * nsMs
    | .comm => getU b 424 2 * nsMs
    | .cont => max (contCloseNs b i) (contOpenNs b i)
    | .run => 0
  max (of .sp) (of .sloe)

/-- Publishes both channels' states and keeps since when each trip has stood unmatched. The first message of an SP that
restarts for an update ends its restart (19_update.md R524). -/
def execCrossLinkPublish (t : Nat) (s : State) : Out State :=
  let s := spResumed (s.advance t)
  .next (if !(chanRuns s .sp && chanRuns s .sloe) then s
    else
      [Channel.sp, Channel.sloe].foldl (fun s c =>
        let s := s.modChan c fun ch => { ch with crossT := s.clk }
        (List.range s.strings).foldl (fun s i =>
          let now := commonFns.filter (unmatched s c i)
          s.modChanStr c i fun x =>
            { x with discSince := now.map fun f => (fnBit f, tblGet s.clk (fnBit f) x.discSince) }) s) s)

/-- A discrepancy of function `sf` on string `i` (R285). -/
def execDiscrepancy (t : Nat) (i : Nat) (sf : SafetyFn) (s : State) : Out State :=
  let s := s.advance t
  let lasting (c : Channel) : Bool :=
    unmatched s c i sf &&
      match (((s.chan c).at i).discSince.find? fun e => e.1 == fnBit sf) with
      | none => false
      | some e => decide (e.2 + fnDebounce s i sf + max (discrepancyNs (s.setB .sp)) (discrepancyNs (s.setB .sloe)) < s.clk)
  let act (s : State) (c : Channel) : State :=
    let f : ChanStr → ChanStr := fun x => { x with discrepancy := true, gateOff := true }
    let s := (s.modChanStr .sp i f).modChanStr .sloe i f
    let s := s.modChan c fun ch => { ch with discrepancies := ch.discrepancies + 1 }
    detected (latchString s i 285) (chanUnit (otherChan c)) 285 (fnBit sf)
  .next (if !s.isStr i then s else if lasting .sp then act s .sp else if lasting .sloe then act s .sloe else s)

/-- 10 ms without a cross-link message: every connected string opens (R285). -/
def execSilentPartner (t : Nat) (s : State) : Out State :=
  let s := s.advance t
  .next (if s.saf.sp.crossT + 10 * nsMs ≤ s.clk && s.saf.sloe.crossT + 10 * nsMs ≤ s.clk && s.unit.commands &&
      s.saf.sloe.singleUntil.isNone then
      (List.range s.strings).foldl (fun s i => haltStr (exitFloat s) i 285) s
    else s)

/-! ## Cleared causes and the reset of latches (R568, R281) -/

def Levels.any (l : Levels) : Bool := l.high.asserted || l.low.asserted || l.rate.asserted

/-- SF-OT levels of channel `c` on a TI input for string `i`, and on an SM-32 sensor. -/
def tiLevels (x : Ti) (c : Channel) (i : Nat) : Levels := tblGet {} i (match c with | .sp => x.sp | .sloe => x.sloe)
def sensorLevels (x : Sensor) : Channel → Levels | .sp => x.sp | .sloe => x.sloe

/-- A level of SF-OT stands asserted for string `i` in channel `c` (06_impedance_thermal.md R183, R184). -/
def otAsserted (s : State) (c : Channel) (i : Nat) : Bool :=
  let b := s.setB c
  let ti := (List.range 24).any fun n => tiUse b n != 0 && tiOn b n i && (tiLevels (s.tiAt n) c i).any
  let sens := s.th.sensors.any fun e => e.1 / 128 == i && (sensorLevels e.2 c).any
  let core := c == .sp && getBit b 17 1 && s.th.core.any fun e =>
    e.1 / 512 == i && ((e.2.getD 3 {}).asserted || (e.2.getD 4 {}).asserted)
  ti || sens || core

/-- The newest round holds a usable value of every present cell within uv to ov, no alarm line is asserted and every
monitor is reachable with an accepted thr_crc. -/
def voltagesClear (s : State) (c : Channel) (i : Nat) : Bool :=
  let b := s.setB c
  let r := s.ringAt i
  r.declared && (List.range r.n).all fun m =>
    let x := r.mon m
    !x.alarmLine && !x.unreachable &&
      match x.round with
      | none => false
      | some d => x.missing == 0 && thrAccepts s c i d.thrCrc.toNat && decide (32 ≤ d.vCell.length) &&
          d.vCell.all fun v => decide (blkU b i 4 2 * 10 ≤ v ∧ v ≤ blkU b i 2 2 * 10)

def shuntStale (s : State) (i : Nat) : Bool := !(s.hviAt i).sampled || decide ((s.hviAt i).curT + 38400 < s.clk)

/-- Cause `f` of channel `c` on string `i` is cleared (*Cleared causes*). -/
def causeCleared (s : State) (c : Channel) (i : Nat) (f : SafetyFn) : Bool :=
  let b := s.setB c
  let ch := s.chan c
  match f with
  | .ov | .uv => voltagesClear s c i
  | .ot => !otAsserted s c i
  | .oc =>
    let h := s.hviAt i
    !h.chargeCrossed && !h.dischargeCrossed && decide (absI h.cur < (blkU b i 14 2 * 1000000 : Nat)) && !shuntStale s i
  | .iso => decide (2 ≤ ch.isoHighs)
  | .ext => (List.range 16).all fun k =>
      siU b k 0 1 == 0 || !getBit b (448 + 8 * k + 4) i || !getBit b (448 + 8 * k + 5) 0 ||
        !((ch.inputs.getD k {}).demand || (ch.inputs.getD k {}).fault || (ch.inputs.getD k {}).pairFault)
  | .comm => (ch.at i).commClear
  | .cont => (s.contAt i).mirror == 0
  | .run => (ch.at i).runCount == 0

/-- Every cause of channel `c` on string `i` is cleared: functions, weld and discrepancy; a close disagreement clears at
once. -/
def causesCleared (s : State) (c : Channel) (i : Nat) : Bool :=
  let x := (s.chan c).at i
  (x.tripped.all (causeCleared s c i)) && (!x.weld || (s.contAt i).mirror == 0) &&
    (!x.discrepancy ||
      ((commonFns.all fun f => (!unmatched s .sp i f || causeCleared s .sp i f) &&
          (!unmatched s .sloe i f || causeCleared s .sloe i f)) &&
        !s.unitOut uSp && !s.unitOut uSloe))

/-- Releases the latches of string `i` in both channels, its weld flag, its fast trip and the held demands that name it
(R281, R291, R303; 03_string_measurement.md R75). -/
def releaseLatches (s : State) (i : Nat) : State :=
  let f : ChanStr → ChanStr := fun x =>
    { x with latch := false, tripped := [], weld := false, disagreement := false, discrepancy := false, stale := false
             ovRun := [], uvRun := [], discSince := [] }
  let s := (s.modChanStr .sp i f).modChanStr .sloe i f
  let unheld (b : Bytes) (ch : Chan) : Chan :=
    { ch with inputs := ch.inputs.mapIdx fun k (x : SafeIn) =>
        if getBit b (448 + 8 * k + 4) i then { x with held := x.demand && getBit b (448 + 8 * k + 5) 1 } else x }
  let s := (s.modChan .sp (unheld (s.setB .sp))).modChan .sloe (unheld (s.setB .sloe))
  let s := s.modCont i fun c => { c with weld := 0, weldPulse := false }
  let s := s.setSaf fun x => { x with runWarning := x.sp.str.any fun (y : ChanStr) => y.tripped.contains .run }
  s.modHvi i fun h => { h with tripLatched := false }

/-! ## SF-ISO and SF-OC (R296, R297) -/

/-- One R_iso result reaches channel `c`. -/
def isoJudge (rIso : Nat) (s : State) (c : Channel) : State :=
  let b := s.setB c
  if (s.chan c).set.isNone || !chanRuns s c || s.hvi.iso.mode == .off then s
  else
    let tripAt := getU b 416 4
    let low : Bool := decide (rIso < tripAt)
    let high : Bool := decide (5 * tripAt ≤ 4 * rIso)
    let s := s.modChan c fun ch =>
      { ch with isoLows := if low then ch.isoLows + 1 else 0, isoHighs := if high then ch.isoHighs + 1 else 0
                lastIsoT := some s.clk }
    let s := if 2 ≤ (s.chan c).isoHighs then
        s.modChan c fun ch => { ch with isoForbidAll := false, str := ch.str.map fun (x : ChanStr) => { x with isoForbid := false } }
      else s
    if 2 ≤ (s.chan c).isoLows then
      if getU b 420 1 = 1 then
        (List.range s.strings).foldl (fun s i =>
          if !protectedIn b i then s
          else if strConnected s i then trip s c i .iso
          else s.modChanStr c i fun x => { x with isoForbid := true }) s
      else s.modChan c fun ch => { ch with isoForbidAll := true }
    else s

def isoToChannels (s : State) (rIso : Nat) : State := isoJudge rIso (isoJudge rIso s .sp) .sloe

/-- The sustained condition on one shunt sample of string `i` (R296). -/
def ocJudge (i : Nat) (s : State) (c : Channel) : State :=
  let b := s.setB c
  if (s.chan c).set.isNone || !chanRuns s c then s
  else
    let above : Bool := decide ((blkU b i 14 2 * 1000000 : Nat) ≤ absI (s.hviAt i).cur)
    let s := s.modChanStr c i fun x => { x with ocSince := track s above x.ocSince }
    if heldFor s ((s.chan c).at i).ocSince (blkU b i 16 2 * nsMs) then trip s c i .oc else s

/-- Shunt samples stale beyond the limit for 1 ms (R296). -/
def ocStale (i : Nat) (s : State) (c : Channel) : State :=
  if (s.hviAt i).curT + 38400 + nsMs ≤ s.clk then
    trip (s.modChanStr c i fun x => { x with stale := true }) c i .oc
  else s

/-! ## Safety inputs and test pulses (R300 to R303) -/

/-- Nanoseconds since the pulse of TP `n` began. -/
def sincePulse (s : State) (n : Nat) : Nat := s.clk - s.saf.tpT.getD n 0

def tpEnabled (b : Bytes) (n : Nat) : Bool := getBit b 440 n

/-- The TP, not `own`, whose test window 100 µs to 400 µs is open now. -/
def otherWindow (s : State) (b : Bytes) (own : Nat) : Option Nat :=
  (List.range 8).find? fun n => n ≠ own ∧ tpEnabled b n ∧ s.saf.tpT.getD n 0 ≠ 0 ∧
    100 * nsUs ≤ sincePulse s n ∧ sincePulse s n ≤ 400 * nsUs

/-- An input fault is set and recorded (R301). -/
def inputFault (s : State) (c : Channel) (k : Nat) : State :=
  let was := ((s.chan c).inputs.getD k {}).fault
  let s := s.modChan c fun ch => { ch with inputs := ch.inputs.modify k fun x =>
    { x with fault := true, goodCycles := 0, badCycle := true, crossLow := 0 } }
  if was then s else groupRecord s gSaf (chanSrc c) lvWarn 301 k 0

/-- The run of a low reading: time credited since the last judged sample. -/
def lowRun (s : State) (x : SafeIn) (high : Bool) : Nat :=
  if high then 0 else if x.high then 0 else x.lowNs + (s.clk - x.lastT)

/-- Demand, short and cross-short of one input at level `high` (R301, R302). -/
def judgeInput (s : State) (c : Channel) (k : Nat) (high : Bool) : State :=
  let b := s.setB c
  let x := (s.chan c).inputs.getD k {}
  let set (f : SafeIn → SafeIn) (s : State) : State :=
    s.modChan c fun ch => { ch with inputs := ch.inputs.modify k f }
  let deb := siU b k 6 2 * nsMs
  let low := if high then x.lastLowT else some s.clk
  match siU b k 1 1 with
  | 0 =>
    let own := siU b k 2 1
    let ranOnce : Bool := s.saf.tpT.getD own 0 != 0
    let inOwn : Bool := ranOnce && decide (sincePulse s own < 700 * nsUs)
    let s :=
      if inOwn then set (fun x => { x with lastT := s.clk, lastLowT := low }) s
      else
        let n := lowRun s x high
        set (fun x => { x with high := high, lowNs := n, lastT := s.clk, lastLowT := low
                               demand := !high && (x.demand || decide (deb ≤ n)) }) s
    let short : Bool := inOwn && high && decide (100 * nsUs ≤ sincePulse s own ∧ sincePulse s own ≤ 400 * nsUs)
    let s := if short then inputFault s c k else s
    match otherWindow s b own with
    | some m => if !high && x.preHigh then set (fun x => { x with crossLow := m + 1 }) s else s
    | none =>
      if x.crossLow = 0 then s
      else if sincePulse s (x.crossLow - 1) < 700 * nsUs then s
      else if high then inputFault s c k else set (fun x => { x with crossLow := 0 }) s
  | 1 =>
    let n := lowRun s x high
    set (fun x => { x with high := high, lowNs := n, lastT := s.clk, lastLowT := low
                           demand := !high && (x.demand || (decide (nsMs < n) && decide (deb ≤ n))) }) s
  | _ =>
    let n := lowRun s x high
    set (fun x => { x with high := high, lowNs := n, lastT := s.clk, lastLowT := low
                           demand := !high && (x.demand || decide (deb ≤ n)) }) s

/-- Pair discrepancy of input `k` (R302), and the held demand of R303. -/
def judgePair (s : State) (c : Channel) (k : Nat) : State :=
  let b := s.setB c
  let p := siU b k 3 1
  let x := (s.chan c).inputs.getD k {}
  let y := (s.chan c).inputs.getD p {}
  let bad (z : SafeIn) : Bool := z.demand || z.fault
  let differ : Bool := decide (p < 16) && bad x != bad y
  let healthy : Bool := !bad x && !bad y
  let since := track s differ x.pairSince
  let okSince := track s healthy x.pairOkSince
  let pf := decide (p < 16) &&
    ((x.pairFault && !heldFor s okSince nsS) ||
      match since with | none => false | some t => decide (t + discrepancyNs b < s.clk))
  s.modChan c fun ch => { ch with inputs := ch.inputs.modify k fun x =>
    { x with pairSince := since, pairOkSince := okSince, pairFault := pf
             held := x.held || (x.demand && getBit b (448 + 8 * k + 5) 1) } }

/-- SAFETY_INPUT_SAMPLE of one channel. -/
def execSafetyInputSample (t : Nat) (ch : Channel) (levels : BitVec 16) (s : State) : Out State :=
  let s := s.advance t
  .next (if !chanRuns s ch || (s.chan ch).set.isNone then s
    else
      let b := s.setB ch
      let used := (List.range 16).filter fun k => siU b k 0 1 ≠ 0
      let s := used.foldl (fun s k => judgeInput s ch k (levels.getLsbD k)) s
      let s := used.foldl (fun s k => judgePair s ch k) s
      used.foldl (fun s k =>
        if ((s.chan ch).inputs.getD k {}).acts && getBit b (448 + 8 * k + 5) 0 then
          (List.range s.strings).foldl (fun s i =>
            if getBit b (448 + 8 * k + 4) i then trip s ch i .ext else s) s
        else s) s)

/-- TEST_PULSE of TP `n` (R300, R301): a cycle of the inputs it feeds ends; an overload faults them. Every input notes
whether it read high in the 100 µs before. -/
def execTestPulse (t : Nat) (n : Nat) (overload : Bool) (s : State) : Out State :=
  let s := s.advance t
  let one (b : Bytes) (k : Nat) (x : SafeIn) : SafeIn :=
    let pre : Bool := x.high && match x.lastLowT with | none => true | some l => decide (l + 100 * nsUs ≤ s.clk)
    let x := { x with preHigh := pre }
    if siU b k 0 1 != 0 && siU b k 1 1 == 0 && siU b k 2 1 == n then
      if x.badCycle then { x with badCycle := false, goodCycles := 0 }
      else { x with goodCycles := x.goodCycles + 1, fault := x.fault && decide (x.goodCycles + 1 < 20) }
    else x
  let cycle (s : State) (c : Channel) : State :=
    let b := s.setB c
    s.modChan c fun ch => { ch with inputs := ch.inputs.mapIdx (one b) }
  .next (if !chanRuns s .sloe || !tpEnabled (s.setB .sloe) n then s
    else
      let s := cycle (cycle s .sp) .sloe
      let bit := BitVec.twoPow 8 n
      let s := s.setSaf fun f => { f with
        tpT := f.tpT.modify n fun _ => s.clk
        tpOverload := if overload then f.tpOverload ||| bit else f.tpOverload &&& ~~~ bit }
      if !overload then s
      else
        [Channel.sp, Channel.sloe].foldl (fun s c =>
          let b := s.setB c
          ((List.range 16).filter fun k => siU b k 0 1 ≠ 0 ∧ siU b k 1 1 = 0 ∧ siU b k 2 1 = n).foldl
            (fun s k => inputFault s c k) s) s)

/-! ## Monitor thresholds (R304, R305) -/

/-- A monitor of the ring takes a threshold set from the unit it follows; its ACK value is the new thr_crc. -/
def execThrLoad (t : Nat) (i m : Nat) (own : Bool) (thr : Thresholds) (s : State) : Out State :=
  let s := s.advance t
  .next (if (s.monAt i m).followsUs == own then
      let crc := thrCrc thr
      s.modMon i m fun x => { x with thr := some thr, ack := some (0x10, 0, crc) }
    else s)

/-- Monitors of ring `i` whose newest DATA show a thr_crc other than the active set's. -/
def thrWrong (s : State) (i : Nat) : List Nat :=
  let want := thrCrc (thrOf (s.setB .sp) i)
  let r := s.ringAt i
  (List.range r.n).filter fun m => match (r.mon m).round with | none => false | some d => d.thrCrc.toNat != want

/-- The FLC passes over an unreachable monitor, sends THR_LOAD to the next one that waits, and tries the others again in
the next round period. -/
def execThresholdReload (t : Nat) (i : Nat) (s : State) : Out State :=
  let s := s.advance t
  .next (if s.saf.sp.set.isNone || !(s.ringAt i).declared || !ringRuns s i || !ringMaster s then s
    else
      let todo := (s.ringAt i).thrTodo ++ (thrWrong s i).filter fun m => !(s.ringAt i).thrTodo.contains m
      let s := s.modRing i fun r => { r with thrTodo := todo }
      match todo.find? fun m => !(s.monAt i m).unreachable && decide (0 < (s.monAt i m).credits) with
      | none => s
      | some m =>
        s.modRing i fun r =>
          { (r.modMon m fun x => { x with credits := x.credits - 1, seq := (x.seq + 1) % 256 }) with
            thrTodo := todo.filter (· ≠ m) ++ [m]
            outstanding := r.outstanding ++ [{ m := m, seq := ((r.mon m).seq + 1) % 256, type := 6, arg := 0x10
                                               departed := s.clk, resent := false }] })

/-- After 5 s only the new thr_crc is accepted. -/
def execLoadingWindowEnd (t : Nat) (s : State) : Out State :=
  let s := s.advance t
  .next (match s.saf.loadingEnd with
    | some e =>
      if e ≤ s.clk then
        let f : Chan → Chan := fun c => { c with prevSet := none }
        ((s.setSaf fun x => { x with loadingEnd := none }).modChan .sp f).modChan .sloe f
      else s
    | none => s)

/-! ## Checks of a set (R307) -/

def safFixed : List Field :=
  [uf 0 4 0x54455353 0x54455353 0, uf 4 2 1 1 0, uf 8 4 1024 1024 0, uf 16 1 0 1 0, uf 17 1 0 7 0, rsv 18 2, rsv 28 4]

def safBlock (i : Nat) : List Field :=
  let o := blkOff i
  [uf o 1 0 3 0, uf (o + 1) 1 1 50 0, uf (o + 2) 2 2000 4500 0, uf (o + 4) 2 1500 4000 0, uf (o + 6) 2 100 1000 0,
    uf (o + 8) 2 10 1000 0, uf (o + 10) 2 100 480 0, uf (o + 12) 2 100 480 0, uf (o + 14) 2 50 400 0,
    uf (o + 16) 2 10 10000 0, uf (o + 38) 2 10 200 0, uf (o + 40) 2 10 200 0, rsv (o + 42) 6]

def safTail : List Field :=
  [uf 416 4 10000 5000000 0, uf 420 1 0 1 0, uf 421 1 0 3 0, uf 422 1 0 1 0, uf 423 1 1 50 0, uf 424 2 10 10000 0,
    uf 436 2 0 4320 0, uf 438 2 10 1000 0, rsv 441 7]

def safInput (k : Nat) : List Field :=
  let o := 448 + 8 * k
  [uf o 1 0 6 0, uf (o + 1) 1 0 2 0, uf (o + 5) 1 0 3 0, uf (o + 6) 2 1 1000 0]

/-- The block of string `i`: ranges, uv below ov, even fast thresholds, and no protection outside the population. -/
def blockBad (s : State) (b : Bytes) (i : Nat) : Option Nat :=
  let o := blkOff i
  firstBad [must (s.isStr i || !protectedIn b i) o, badField (safBlock i) b,
    must (decide (blkU b i 4 2 < blkU b i 2 2)) (o + 4), must (blkU b i 10 2 % 2 == 0) (o + 10),
    must (blkU b i 12 2 % 2 == 0) (o + 12)]

/-- The entry of input `k`: ranges, an enabled TP in TP mode and 0xFF otherwise, a mutual pair on different TPs. -/
def inputBad (b : Bytes) (k : Nat) : Option Nat :=
  let o := 448 + 8 * k
  let p := siU b k 3 1
  let tp := siU b k 2 1
  firstBad [badField (safInput k) b,
    must (if siU b k 1 1 = 0 then decide (tp < 8) && tpEnabled b tp else tp == 0xFF) (o + 2),
    must (p == 0xFF || (decide (p < 16) && p != k && siU b p 3 1 == k && (tp == 0xFF || siU b p 2 1 != tp))) (o + 3)]

/-- A TI entry: its use, and no entry on an input that *TI configuration* leaves unused. -/
def tiEntryBad (s : State) (b : Bytes) (n : Nat) : Option Nat :=
  firstBad [must (decide (tiUse b n ≤ 3)) (576 + 4 * n),
    must (tiUse b n == 0 || getU (s.tiAt n).cfg 1 1 != 0) (576 + 4 * n)]

/-- Offset of the first field for which a channel refuses set `b`. -/
def setBad (s : State) (b : Bytes) : Option Nat :=
  if b.length ≠ 1024 then some 8
  else firstBad ([badField safFixed b,
      must (getU b 16 1 == match s.variant with | .kzv4096 => 0 | .kzv1024 => 1) 16] ++
    (List.range 8).map (blockBad s b) ++ [badField safTail b] ++ (List.range 16).map (inputBad b) ++
    (List.range 24).map (tiEntryBad s b) ++ [must ((slice b 672 348).all (· == 0)) 672,
      must (setCrc b == crc32c (b.take 1020)) 1020])

/-! ## Staged commit (R308 to R311) -/

def stageSet (s : State) (b : Bytes) : State :=
  let one (ch : Chan) : Chan :=
    { ch with staged := some b, stagedBad := setBad s b, stagedCrc := crc32c (b.take 1020) }
  ((s.modChan .sp one).modChan .sloe one).setSaf fun f => { f with stageT := s.clk }

def discardStaged (s : State) : State :=
  let f : Chan → Chan := fun ch => { ch with staged := none, stagedBad := none, stagedCrc := 0 }
  (s.modChan .sp f).modChan .sloe f

def execSafStage (q : Req) (s : State) : Out State :=
  let n := getU q.payload 4 4
  command
    { op := 0x0901, len := lenIs 8, roles := .all
      arg := fun _ q => firstBad [must (getU q.payload 0 2 != noDesc) 0, zeroAt q.payload 2 2,
        must (getU q.payload 4 4 == 1024) 4]
      desc := fun _ q => descAt q 0 n }
    (fun s q => ok (stageSet s (bufRead s (getU q.payload 0 2) 1024)) 0x0901 q []) q s

/-- Both verdicts (first offending offset, 0xFFFF for accepted) and both computed values (log entry 14). -/
def safStaged (s : State) : Bytes :=
  [Channel.sp, Channel.sloe].flatMap fun c =>
    let ch := s.chan c
    leB ch.staged.isSome ++ leU 2 (match ch.staged with | none => 0xFFFF | some _ => ch.stagedBad.getD 0xFFFF) ++
      leU 4 ch.stagedCrc

def execSafGetStaged (q : Req) (s : State) : Out State := getNone 0x0902 false safStaged q s

/-- Serial arithmetic on 32 bits (05_cell_estimation.md R147): `a` is newer than `b`. -/
def newer32 (a b : Nat) : Bool := let d := (a + 2 ^ 32 - b % 2 ^ 32) % 2 ^ 32; decide (0 < d ∧ d < 2 ^ 31)

/-- The checks of R309 in order, with their details. -/
def commitBad (s : State) (crc : Nat) : Option Nat :=
  match s.saf.sp.staged with
  | none => some 0
  | some b =>
    if crc ≠ setCrc b then some 0
    else
      let bads := [s.saf.sp.stagedBad, s.saf.sloe.stagedBad].filterMap id
      match bads with
      | [] =>
        if s.saf.sp.stagedCrc ≠ setCrc b ∨ s.saf.sloe.stagedCrc ≠ setCrc b then inBuf (some 1020)
        else
          let seqOk (x : Option Bytes) : Bool := match x with | none => true | some a => newer32 (getU b 12 4) (getU a 12 4)
          if seqOk s.saf.sp.set && seqOk s.saf.sloe.set then none else inBuf (some 12)
      | x :: xs => inBuf (some (xs.foldl min x))

/-- The channels activate at their first 10 ms boundary at or after 20 ms from acceptance (R310). -/
def execSafCommit (q : Req) (s : State) : Out State :=
  command
    { op := 0x0903, len := lenIs 4, roles := .all
      state := fun s _ => if s.saf.activationPending then some (conflictObj 0) else none
      arg := fun s q => commitBad s (getU q.payload 0 4) }
    (fun s q =>
      let f : Chan → Chan := fun ch => { ch with activateAt := some (s.clk + 20 * nsMs) }
      let s := (s.modChan .sp f).modChan .sloe f
      ok (s.setSaf fun f => { f with activationPending := true }) 0x0903 q []) q s

/-- SAF_DISCARD; a set already accepted for activation stays (R310). -/
def execSafDiscard (q : Req) (s : State) : Out State :=
  command { op := 0x0904, len := lenIs 0, roles := .all }
    (fun s q => ok (if s.saf.activationPending then s else discardStaged s) 0x0904 q []) q s

def execSafGetSet (q : Req) (s : State) : Out State :=
  getW 0x0905 true (fun s => (s.saf.sp.set.getD (s.saf.sloe.set.getD []))) q s

/-- The active sets of the pair differ (R311). -/
def updateMismatch (s : State) : State :=
  let was := s.saf.setMismatch
  let now : Bool := s.red.present && s.red.partnerIdentity.isSome &&
    (match s.saf.sp.set with | none => 0 | some b => setCrc b) != s.red.partnerSetCrc
  let s := s.setSaf fun f => { f with setMismatch := now }
  if now && !was && s.unit.commands then groupRecord s gSaf srcSup lvWarn 311 0 0 else s

/-- Writes set `b` into the other slot of channel `c` with the next sequence (R311, 05_cell_estimation.md R147, R148). -/
def putSlot (b : Bytes) (ch : Chan) : Chan :=
  if !ch.slot0.valid || (ch.slot1.valid && newer32 ch.slot1.seq ch.slot0.seq) then
    { ch with slot0 := ⟨true, (ch.slot1.seq + 1) % 2 ^ 32, b⟩ }
  else { ch with slot1 := ⟨true, (ch.slot0.seq + 1) % 2 ^ 32, b⟩ }

/-- A change of the communication parameters starts SF-COMM afresh (R298); where comm_mode or conn_rx changes there is no last
accepted seq (R315). -/
def commFresh (s : State) (c : Channel) (b : Bytes) (seqKept : Bool) : State :=
  s.modChan c fun ch =>
    { ch with commForbid := true, lastSeq := if seqKept then ch.lastSeq else none, waitA := none, waitB := none, lastSingle := none
              wdEnd := if commMode b = 0 then none else some (s.clk + getU b 424 2 * nsMs) }

/-- One channel activates the committed set. -/
def activateSet (s : State) (c : Channel) (b : Bytes) : State :=
  let old := s.setB c
  let same (off n : Nat) : Bool := getU old off n == getU b off n
  let s := s.modChan c fun ch => { ch with
    prevSet := ch.set, set := some b, activateAt := none, degradeUsed := 0, downSince := ch.downSince.map fun _ => s.clk }
  let s := if same 421 1 && same 426 2 && same 428 4 && same 432 4 && !old.isEmpty then s
    else commFresh s c b (same 421 1 && same 428 4 && !old.isEmpty)
  let s := if energyOk s then s.modChan c (putSlot b) else deferWrite s wrConfig
  let s := record s 0x32 (chanSrc c) lvInfo (getU b 12 4) (setCrc b) (chanBit c)
  let s := s.setSaf fun f => { f with loadingEnd := some (s.clk + 5 * nsS) }
  if (s.chan (otherChan c)).activateAt.isSome then s
  else
    let s := (List.range s.strings).foldl (fun s i =>
      if thrOf old i = thrOf b i ∧ !old.isEmpty then s
      else s.modRing i fun r => { r with thrTodo := List.range r.n }) s
    updateMismatch ((discardStaged s).setSaf fun f => { f with activationPending := false })

def execSetActivation (t : Nat) (ch : Channel) (s : State) : Out State :=
  let s := s.advance t
  .next (match (s.chan ch).activateAt, (s.chan ch).staged with
    | some a, some b => if a ≤ s.clk && chanRuns s ch then activateSet s ch b else s
    | _, _ => s)

def execStagedSetDiscard (t : Nat) (s : State) : Out State :=
  let s := s.advance t
  .next (if s.saf.sp.staged.isSome && !s.saf.activationPending && decide (s.saf.stageT + 600 * nsS ≤ s.clk) then
    discardStaged s else s)

/-! ## Safe communication (R312 to R318) -/

/-- The safety CRC (R314). -/
def safetyCrc (b : Bytes) : Nat := crcL 32 0x741B8CD7 0xFFFFFFFF b ^^^ 0xFFFFFFFF

def maskOf (s : State) (f : Nat → Bool) : Nat := bitsToNat ((List.range s.strings).map f)

/-- Main contactors of string `i` confirmed closed. -/
def mainsClosed (s : State) (i : Nat) : Bool :=
  let m := (s.contAt i).mirror
  m.getLsbD 0 && m.getLsbD 1 && (m.getLsbD 3 || !coil3In (s.setB .sp) i)

/-- *KZV payload* (R317). -/
def kzvPayload (s : State) : Bytes :=
  let weld : Bool := (s.saf.cont.take s.strings).any fun (c : Cont) => c.weld != 0
  let fns : List SafetyFn := [.ov, .uv, .ot, .oc, .iso, .ext, .comm, .cont, .run]
  let any (f : SafetyFn) : Bool := (List.range s.strings).any fun i =>
    (s.saf.sp.at i).tripped.contains f || (s.saf.sloe.at i).tripped.contains f
  leU 1 (maskOf s (mainsClosed s)) ++ leU 1 (maskOf s fun i => (s.strAt i).state == .halted) ++
    leU 1 (maskOf s (permit s .sp)) ++ leU 1 (maskOf s (permit s .sloe)) ++ leU 4 (s.saf.sp.lastSeq.getD 0) ++
    leU 2 (bitsToNat (fns.map any)) ++
    leU 1 (bitsToNat [weld, s.saf.bkrTrip, s.saf.runWarning, s.saf.setMismatch]) ++ [0] ++ leU 4 (setCrc (s.setB .sp))

/-- SP answers an accepted plant PDU (R313, R317, R318): native on both networks, or the black-channel PDU on `net`. -/
def kzvPdu (s : State) (net : Nat) : State :=
  let b := s.setB .sp
  let conn := leU 4 (getU b 432 4)
  if commMode b = 1 then
    let body := leU 2 0x5302 ++ leU 2 16 ++ conn ++ leU 4 ((s.saf.txSeq + 1) % 2 ^ 32) ++ leU 8 (s.tsu.now / nsS) ++
      leU 4 (s.tsu.now % nsS) ++ kzvPayload s
    let pdu := body ++ leU 4 (safetyCrc body)
    s.setSaf fun f => { f with txSeq := (f.txSeq + 1) % 2 ^ 32, tx := (0, pdu) :: (1, pdu) :: f.tx.take 62 }
  else
    let body := leU 2 ((s.saf.txBc + 1) % 65536) ++ leU 2 (getU b 424 2) ++ kzvPayload s
    s.setSaf fun f => { f with txBc := (f.txBc + 1) % 65536
                               tx := (net, body ++ leU 4 (safetyCrc (conn ++ body))) :: f.tx.take 63 }

/-- *Plant payload* acts (R298, R317). -/
def plantActs (s : State) (c : Channel) (p : Bytes) : State :=
  let estop := getBit p 1 0
  let s := (List.range s.strings).foldl (fun s i =>
    if estop || !getBit p 0 i then trip s c i .comm
    else s.modChanStr c i fun x => { x with commClear := true }) s
  if getBit p 1 1 then bkrAssert s c else s

/-- Acceptance of a PDU with sequence number `seq` and payload `p` (R315, R298). -/
def acceptPdu (s : State) (c : Channel) (net seq : Nat) (p : Bytes) : State :=
  let s := s.modChan c fun ch =>
    { ch with lastSeq := some seq, accepted := ch.accepted + 1, commForbid := false
              permits := BitVec.ofNat 8 (getU p 0 1)
              wdEnd := some (s.clk + getU (s.setB c) 424 2 * nsMs) }
  let s := plantActs s c p
  if c = .sp then kzvPdu s net else s

def pduLoss (s : State) (c : Channel) : State :=
  s.modChan c fun ch => { ch with losses := ch.losses + 1, upSince := none }

/-- seq follows the last accepted one by 1 to 8, or there is none. -/
def seqOk (ch : Chan) (seq modulus : Nat) : Bool :=
  match ch.lastSeq with
  | none => true
  | some l => let d := (seq + modulus - l % modulus) % modulus; decide (1 ≤ d ∧ d ≤ 8)

/-- Time for which single copies have been accepted, ns (R316). -/
def degradeSpent (s : State) (ch : Chan) : Nat :=
  ch.degradeUsed + match ch.downSince with | none => 0 | some d => s.clk - d

/-- Single copies of `net` are accepted: the other network is down and minutes remain (R316). -/
def singleOk (s : State) (c : Channel) (net : Nat) : Bool :=
  let ch := s.chan c
  (if net = 0 then ch.downB && !ch.downA else ch.downA && !ch.downB) &&
    decide (degradeSpent s ch < getU (s.setB c) 436 2 * 60 * nsS)

/-- A network counts as up again after 1 s of pairs without a loss (R316). -/
def pairedUp (s : State) (c : Channel) : State :=
  let ch := s.chan c
  if !(ch.downA || ch.downB) then s
  else
    let since := ch.upSince.getD s.clk
    if since + nsS ≤ s.clk then
      s.modChan c fun ch => { ch with downA := false, downB := false, upSince := none, degradeUsed := degradeSpent s ch
                                      downSince := none, bothUpSince := s.clk }
    else s.modChan c fun ch => { ch with upSince := some since }

/-- The end of pairing: the sequence rule decides. -/
def judgeSeq (s : State) (c : Channel) (net : Nat) (b : Bytes) : State :=
  let seq := getU b 8 4
  if seqOk (s.chan c) seq (2 ^ 32) then acceptPdu s c net seq (slice b 24 16) else pduLoss s c

/-- A single copy is accepted under R316; an older one that never found its partner ends the run of pairs. -/
def acceptSingle (s : State) (c : Channel) (net : Nat) (b : Bytes) : State :=
  let s := s.modChan c fun ch => { ch with
    upSince := if ch.lastSingle.isSome then none else ch.upSince
    lastSingle := some (net, { bytes := b, since := s.clk }) }
  judgeSeq s c net b

/-- The copy on the other network of the PDU that a single copy has brought (R316). -/
def secondCopy (s : State) (c : Channel) (net : Nat) (b : Bytes) : State :=
  match (s.chan c).lastSingle with
  | none => s
  | some (n, w) =>
    if n ≠ net ∧ w.bytes = b ∧ s.clk ≤ w.since + getU (s.setB c) 423 1 * nsMs then
      pairedUp (s.modChan c fun ch => { ch with lastSingle := none }) c
    else s

/-- One native copy (R315, R316). -/
def nativeCopy (s : State) (c : Channel) (net : Nat) (b : Bytes) : State :=
  let s := s.modChan c fun ch => if net = 0 then { ch with lastA := s.clk } else { ch with lastB := s.clk }
  let ch := s.chan c
  let mine := if net = 0 then ch.waitA else ch.waitB
  let theirs := if net = 0 then ch.waitB else ch.waitA
  let put (w : Option PduWait) (s : State) : State :=
    s.modChan c fun ch => if net = 0 then { ch with waitA := w } else { ch with waitB := w }
  let clear (s : State) : State := s.modChan c fun ch => { ch with waitA := none, waitB := none }
  if ch.lastSeq == some (getU b 8 4) then secondCopy s c net b
  else
    match theirs, mine with
    | some w, _ =>
      let s := clear s
      if w.bytes = b then pairedUp (judgeSeq s c net b) c
      else if singleOk s c net then acceptSingle (pduLoss s c) c net b
      else pduLoss s c
    | none, some w =>
      if singleOk s c net then acceptSingle (put none (if w.bytes = b then s else pduLoss s c)) c net b
      else if w.bytes = b then s
      else put (some { bytes := b, since := s.clk }) (pduLoss s c)
    | none, none =>
      if singleOk s c net then acceptSingle s c net b else put (some { bytes := b, since := s.clk }) s

/-- Channel `c` reads the oldest entry of the receive ring of `net` with bytes `pdu` that it has not read; an entry read by
both is freed (16_ethernet_can.md R459). -/
def readRx (s : State) (c : Channel) (net : Nat) (pdu : Bytes) : State :=
  let unread (e : SafeRx) : Bool := e.net == net && e.bytes == pdu && !(match c with | .sp => e.spRead | .sloe => e.sloeRead)
  match s.saf.rxRing.findIdx? unread with
  | none => s
  | some k => s.setSaf fun f =>
      { f with rxRing := (f.rxRing.modify k fun (e : SafeRx) =>
          { e with spRead := e.spRead || c == .sp, sloeRead := e.sloeRead || c == .sloe }).filter fun e =>
            !(e.spRead && e.sloeRead) }

/-- SAFE_PDU_RECEIVED in native mode: type, len, connection and scrc are checked first. -/
def execSafePduReceived (t : Nat) (ch : Channel) (net : Nat) (pdu : List Byte) (s : State) : Out State :=
  let s := s.advance t
  let s := if chanRuns s ch then readRx s ch net pdu else s
  let b := s.setB ch
  .next (if chanRuns s ch && (s.chan ch).set.isSome && commMode b == 1 && decide (net < 2) && pdu.length == 44 &&
      getU pdu 0 2 == 0x5301 && getU pdu 2 2 == 16 && getU pdu 4 4 == getU b 428 4 &&
      getU pdu 40 4 == safetyCrc (pdu.take 40) then nativeCopy s ch net pdu else s)

/-- BLACK_CHANNEL_PDU (R318). -/
def execBlackChannelPdu (t : Nat) (ch : Channel) (net : Nat) (pdu : List Byte) (s : State) : Out State :=
  let s := s.advance t
  let s := if chanRuns s ch then readRx s ch net pdu else s
  let b := s.setB ch
  .next (if chanRuns s ch && (s.chan ch).set.isSome && decide (2 ≤ commMode b) && net == commMode b - 2 &&
      pdu.length == 24 && getU pdu 20 4 == safetyCrc (leU 4 (getU b 428 4) ++ pdu.take 20) &&
      seqOk (s.chan ch) (getU pdu 0 2) 65536 then acceptPdu s ch net (getU pdu 0 2) (slice pdu 4 16) else s)

/-- A single copy at the end of comm_window is a loss (R315). -/
def execCommWindowExpiry (t : Nat) (ch : Channel) (net : Nat) (s : State) : Out State :=
  let s := s.advance t
  let w := if net = 0 then (s.chan ch).waitA else (s.chan ch).waitB
  .next (match w with
    | none => s
    | some x =>
      if x.since + getU (s.setB ch) 423 1 * nsMs ≤ s.clk then
        pduLoss (s.modChan ch fun c => if net = 0 then { c with waitA := none } else { c with waitB := none }) ch
      else s)

/-- SF-COMM on watchdog expiry (R298). -/
def execCommWatchdogExpiry (t : Nat) (ch : Channel) (s : State) : Out State :=
  let s := s.advance t
  .next (match (s.chan ch).wdEnd with
    | none => s
    | some e =>
      if s.clk < e || commMode (s.setB ch) == 0 || !chanRuns s ch then s
      else
        let s := s.modChan ch fun c => { c with commForbid := true, wdEnd := none, expiries := c.expiries + 1 }
        if getU (s.setB ch) 422 1 = 1 then
          (List.range s.strings).foldl (fun s i => if strConnected s i then trip s ch i .comm else s) s
        else s)

/-- A network without a valid copy for 1 s (R316). -/
def execNetworkDown (t : Nat) (ch : Channel) (net : Nat) (s : State) : Out State :=
  let s := s.advance t
  let c := s.chan ch
  let down := if net = 0 then c.downA else c.downB
  let last := if net = 0 then c.lastA else c.lastB
  .next (if chanRuns s ch && commMode (s.setB ch) == 1 && getU (s.setB ch) 436 2 != 0 && !down && decide (last + nsS ≤ s.clk) then
      let s := s.modChan ch fun c =>
        let used := if !c.downA && !c.downB && decide (c.bothUpSince + 86400 * nsS ≤ s.clk) then 0 else c.degradeUsed
        { c with downA := c.downA || net == 0, downB := c.downB || net != 0, upSince := none, degradeUsed := used
                 downSince := some (c.downSince.getD s.clk) }
      groupRecord s gSaf (chanSrc ch) lvWarn 316 net 0
    else s)

def execDegradeExpiry (t : Nat) (ch : Channel) (s : State) : Out State :=
  let s := s.advance t
  let most := getU (s.setB ch) 436 2 * 60 * nsS
  .next (if (s.chan ch).downSince.isSome && decide (most ≤ degradeSpent s (s.chan ch)) then
    s.modChan ch fun c => { c with degradeUsed := most, downSince := some s.clk } else s)

/-! ## Status (R321) -/

def chanStatus (s : State) (c : Channel) (i : Nat) : Bytes :=
  let x := (s.chan c).at i
  leU 1 (bitsToNat [x.latch, permit s c i, x.gateOff, x.granted]) ++ leU 2 (bitsToNat
    ([SafetyFn.ov, .uv, .ot, .oc, .iso, .ext, .comm, .cont, .run].map x.tripped.contains)) ++
    leU 1 (bitsToNat [x.weld, x.disagreement, x.discrepancy, x.stale])

/-- Per string: both channels, weld and BKR_TRIP, counts, networks and set mismatch (log entry 14). -/
def safStatus (s : State) (i : Nat) : Bytes :=
  let chan (c : Channel) : Bytes :=
    let ch := s.chan c
    leU 4 ch.discrepancies ++ leU 4 ch.accepted ++ leU 4 ch.losses ++ leU 4 ch.expiries ++
      leU 1 (bitsToNat [ch.downA, ch.downB])
  leU 1 i ++ chanStatus s .sp i ++ chanStatus s .sloe i ++ leU 1 (s.contAt i).weld.toNat ++ leB s.saf.bkrTrip ++
    chan .sp ++ chan .sloe ++ leB s.saf.setMismatch

def execSafGetStatus (q : Req) (s : State) : Out State :=
  getI 0x0906 true true true State.strings safStatus q s

/-- Levels, demands, faults and pair faults of both channels, and the TP outputs (log entry 14). -/
def safInputs (s : State) : Bytes :=
  let word (c : Channel) (f : SafeIn → Bool) : Bytes := leU 2 (bitsToNat ((s.chan c).inputs.map f))
  [Channel.sp, Channel.sloe].flatMap (fun c =>
    word c (·.high) ++ word c (·.demand) ++ word c (·.fault) ++ word c (·.pairFault)) ++
    leU 1 (bitsToNat ((List.range 8).map fun n =>
      tpEnabled (s.setB .sloe) n && s.saf.tpT.getD n 0 != 0 && decide (sincePulse s n < 400 * nsUs))) ++
    leU 1 s.saf.tpOverload.toNat

def execSafGetInputs (q : Req) (s : State) : Out State := getNone 0x0907 true safInputs q s

end Sys2Proof.Machine
end

