-- ==== Sys2Proof/Machine/Pair.lean ====
section
/-! DEFINITION. The redundant pair: claims, heartbeat, takeover, role swaps, resync and shadow comparison
(11_redundancy.md R322 to R350). What a PEER message carries is applied in Machine/Peer.lean. -/

namespace Sys2Proof.Machine

/-- *Pair configuration* (R349). -/
def pairFields : List Field :=
  [uf 0 4 3600 7776000 604800, uf 4 2 0 1439 120, uf 6 2 10 1440 240, uf 8 2 1 168 24, uf 10 1 0 3 3, rsv 11 5]

def pairCfg (s : State) : Bytes := orDefault pairFields s.red.cfg
def swapInterval (s : State) : Nat := getU (pairCfg s) 0 4 * nsS
def swapsEnabled (s : State) : Bool := getBit (pairCfg s) 10 0
def yieldEnabled (s : State) : Bool := getBit (pairCfg s) 10 1

/-! ## Claims (R325, R326) -/

/-- The claim floor (R326). -/
def claimFloor (s : State) : Nat := max (max s.red.claim s.red.storedClaim) (max s.red.stageClaim s.red.partnerClaim)

/-- Issues a new claim, floor + 1, and writes it to MRAM under R40 (R326). Claims never wrap (R325). -/
def issueClaim (s : State) : State :=
  let c := claimFloor s + 1
  let s := s.setRed fun r => { r with claim := c }
  if energyOk s then s.setRed fun r => { r with storedClaim := c } else deferWrite s wrClaim

/-- A stage follows the highest claim presented to it since its power-up; a lower or equal one is ignored (R325). A
CX-4 that changes unit starts its coil hold (R335). -/
def execClaimFrame (t : Nat) (st : Stage) (own : Bool) (claim : Nat) (s : State) : Out State :=
  let s := s.advance t
  .next (match st with
    | .gx2 p =>
      if (s.gx2At p).claim < claim then
        (s.modGx2 p fun g => { g with claim := claim, followsUs := own }).setRed fun r =>
          { r with stageClaim := max r.stageClaim claim }
      else s
    | .cx4 i =>
      let c := s.contAt i
      if c.claim < claim then
        (s.modCont i fun c => { c with claim := claim, followsUs := own
                                       heldSince := if c.followsUs == own then c.heldSince else some s.clk }).setRed fun r =>
          { r with stageClaim := max r.stageClaim claim }
      else s)

/-- A coil whose valid words have not arrived within 100 ms opens (R335). -/
def execCoilHoldExpiry (t : Nat) (i : Nat) (s : State) : Out State :=
  let s := s.advance t
  .next (if heldFor s (s.contAt i).heldSince (100 * nsMs) then
    s.modCont i fun c => { c with energised := 0, heldSince := none } else s)

/-! ## Presence and heartbeat (R322, R327 to R332) -/

/-- Something valid arrived within the last second, or the partner is dormant (R322). -/
def presentNow (s : State) : Bool :=
  let fresh (x : Option Nat) : Bool := match x with | none => false | some t => decide (s.clk < t + nsS)
  s.red.partnerDormant || fresh s.red.beatT || fresh s.red.peerT

/-- Takeover readiness, flags bit 3 (R329): replica no older than 5 ms, tier P or higher for some string, XCL proven. -/
def replicaFresh (s : State) : Bool :=
  match s.red.replica with | none => false | some r => decide (s.clk ≤ r.at_ + 5 * nsMs)

def someTierP (s : State) : Bool := (s.str.take s.strings).any fun x => decide (Tier.p.code ≤ x.tier.code)

def takeoverReady (s : State) : Bool := s.unit == .standby && !s.hpr.handover && replicaFresh s && someTierP s && s.red.xclProven

/-- A unit sends beats (R327, R328): in BOOT or a role, in ACTIVE, FLOAT or HOLD-UP, while its TIME, SAFE and SLOE
domains and both channels are alive, and LOOP where it runs. -/
def beats (s : State) : Bool :=
  (s.unit.isRole || s.unit == .boot) &&
    (s.pwr.state == .active || s.pwr.state == .float || s.pwr.state == .holdup) &&
    !s.clockLost .time && !s.clockLost .safe && !s.clockLost .sloe &&
    (!s.clockLost .loop || s.pwr.state == .float) && s.saf.sp.alive && s.saf.sloe.alive

/-- The tiers field of *XCL beat*. -/
def tiersWord (s : State) : Nat := ((List.range 8).map fun i => 4 ^ i * (s.strAt i).tier.code).sum

/-- *XCL beat* (R327); `dormant` is flags bit 5. -/
def beatBytes (s : State) (dormant : Bool) : Bytes :=
  let flags := s.pwr.vinValid.toNat + 2 * s.red.yield.toNat + 4 * s.red.swapAsked.toNat + 8 * (takeoverReady s).toNat +
    16 * s.hpr.handover.toNat + 32 * dormant.toNat
  let b := leU 1 0xB7 ++ leU 1 s.unit.beatCode ++ leU 1 flags ++ leU 1 s.red.beatSeq ++ leU 4 s.red.claim ++
    leU 2 (tiersWord s) ++ [0]
  b ++ leU 1 (crc8 b)

def sendBeat (s : State) (dormant : Bool) : State :=
  s.setRed fun r => { r with lastBeatTx := beatBytes s dormant, beatSeq := (r.beatSeq + 1) % 256
                             beatsSent := r.beatsSent + 1, beatsOn := true }

def execHeartbeatSend (t : Nat) (s : State) : Out State :=
  let s := s.advance t
  .next (if beats s then sendBeat s false else s.setRed fun r => { r with beatsOn := false })

/-- A beat with the right length, sync, role, reserved bits and crc. -/
def beatOk (b : Bytes) : Bool :=
  b.length == 12 && getU b 0 1 == 0xB7 && decide (getU b 1 1 ≤ 4) && decide (getU b 2 1 < 64) && getU b 10 1 == 0 &&
    getU b 11 1 == crc8 (b.take 11)

/-- Enters a role or leaves one, with the ROLE record. -/
def setRole (s : State) (u : UnitState) (cause : Nat) (takeover : Bool) : State :=
  let old := s.unit
  let s := setUnit s u cause
  if old == u then s else roleRecord s old takeover

/-- Starts RESYNC (R323, R331): nothing is driven; beats that ran mark XCL unproven; commands in progress end ABORTED. -/
def enterResync (s : State) (cause : Nat) : State :=
  let s := (List.range s.strings).foldl abortTrans s
  let s := s.setRed fun r =>
    { r with xclProven := r.xclProven && !r.beatsOn, provenSince := none, resyncStep := 1, resyncT := s.clk
             restarts := 0, swapAsked := false, swapGranted := false, swapAt := none, yield := false }
  let s := peerSend s 1
  setRole s .resync cause false

/-- A higher claim from the partner, outside a role swap, takes an ACTIVE unit to RESYNC (R323). -/
def higherClaim (s : State) (claim : Nat) : State :=
  if s.unit == .active && decide (s.red.claim < claim) && s.red.swapAt.isNone then
    enterResync (s.setRed fun r => { r with partnerClaim := max r.partnerClaim claim }) 323
  else s

def execHigherClaimSeen (t : Nat) (claim : Nat) (s : State) : Out State := .next (higherClaim (s.advance t) claim)

/-- The strings as the replica has them (R333): PRECHARGE returns to ISOLATED with the precharge path open and its
command aborted; the other states stand, and the channels write their own coil words (R335). -/
def strOfCode : Nat → StrState
  | 0 => .isolated | 1 => .precharge | 2 => .connected | 3 => .regulating | 4 => .halted | _ => .retired

def applyReplica (s : State) : State :=
  match s.red.replica with
  | none => s
  | some r =>
    let s := (List.range s.strings).foldl (fun s i =>
      match r.strings[i]? with
      | none => s
      | some 1 => prechargeAbort (setStr s i .precharge 333) i 333
      | some c => setStr s i (strOfCode c) 333) s
    let s := s.setDsp fun d => { d with target := (r.target : Rat) }
    let s := (List.range s.strings).foldl (fun s i =>
      match (r.e[i]? : Option Nat) with
      | none => s
      | some e => s.modConv i fun c => { c with e := ((e : Nat) : Rat) }) s
    (List.range s.strings).foldl adoptString s

/-- What a new active unit does besides (06 R164, 03 R72, 07 R195, 04 R100): the tone window is aborted and injection
waits a second, the insulation monitor waits for the old one and holds the result `held`, every planner runs a cycle, credits start at 4. -/
def assumeDuties (held : Option IsoResult) (s : State) : State :=
  let s := s.setTpe fun p => { p with
    startAt := some (s.tsu.now + nsS)
    pairs := p.pairs.map fun (x : Pair) => { x with env := .off, aborted := true } }
  let inj : Bool := s.hvi.iso.mode == .inject
  { s with
    hvi := { s.hvi with iso := { s.hvi.iso with handoverWait := inj, handover := inj, injecting := s.hvi.iso.injecting && !inj
                                                result := held } }
    bal := s.bal.map fun (b : Bal) => { b with cycleT := 0, ringStopped := false }
    rings := { s.rings with ring := s.rings.ring.map fun (r : Ring) =>
      { r with outstanding := [], mons := r.mons.map fun (m : Monitor) => { m with credits := 4 } } } }

/-- Takeover (R333). -/
def takeover (s : State) : State :=
  let s := issueClaim s
  let held := s.hvi.iso.result
  let s := setRole s .active 333 true
  let s := assumeDuties held (applyReplica s)
  s.setRed fun r => { r with lastTakeoverT := s.clk, dueT := s.clk + swapInterval s, dueSince := none, overdue := false
                             swapAt := none, swapAsked := false, swapGranted := false, yield := false
                             swapVerifyAt := none }

/-- 32 µs without a valid beat (R329). Not while the partner is dormant (R332). -/
def execTakeover (t : Nat) (s : State) : Out State :=
  let s := s.advance t
  .next (if takeoverReady s && !s.red.partnerDormant && heldFor s s.red.beatT (32 * nsUs) then takeover s else s)

/-- XCL becomes proven again after 1 s of valid beats in both directions; the partner's PEER messages confirm the
other one (R331). -/
def proveXcl (s : State) : State :=
  if s.red.xclProven then s
  else
    let since := match s.red.provenSince, s.red.beatT with
      | some p, some b => if s.clk ≤ b + nsMs then p else s.clk
      | _, _ => s.clk
    let confirmed : Bool := match s.red.peerT with | none => false | some p => decide (since ≤ p)
    s.setRed fun r => { r with provenSince := some since
                               xclProven := decide (since + nsS ≤ s.clk) && confirmed }

/-- A failed swap (R339): the old unit, STANDBY for at most 20 ms, sees its partner leave the ACTIVE role for STANDBY. -/
def takesBack (s : State) (wasActive : Bool) (role : Nat) : Bool :=
  let verifying : Bool := match s.red.swapVerifyAt with | none => false | some v => decide (s.clk ≤ v)
  s.unit == .standby && verifying && wasActive && role == 2

/-- The tier of string `i` in a beat's tiers field. -/
def beatTier (w i : Nat) : Nat := w / 4 ^ i % 4

/-- A beat arrives (R327, R329, R330, R332). A bad one is counted and recorded. -/
def execBeatReceived (t : Nat) (beat : List Byte) (s : State) : Out State :=
  let s := s.advance t
  .next (
    if !(s.unit.isRole || s.unit == .boot) then s
    else if !beatOk beat then
      groupRecord (s.setRed fun r => { r with beatsBad := r.beatsBad + 1 }) gRed srcSup lvWarn 331 0 s.red.beatsBad
    else
      let s := proveXcl s
      let flags := getU beat 2 1
      let claim := getU beat 4 4
      let tiers := getU beat 8 2
      let lower (i : Nat) : Bool := s.unit == .active && decide (i < s.strings) && decide ((s.strAt i).tier.code < beatTier tiers i)
      let yielding := flags.testBit 1
      let wasActive := s.red.beat.role == 3
      let s := s.setRed fun r =>
        { r with beat := { role := getU beat 1 1, flags := flags, seq := getU beat 3 1, claim := claim, tiers := tiers }
                 beatT := some s.clk, beatsRx := r.beatsRx + 1, partnerClaim := claim
                 partnerDormant := flags.testBit 5, wakeT := if flags.testBit 5 then r.wakeT else none, present := true
                 lowerSince := r.lowerSince.mapIdx fun i x => track s (lower i) x
                 partnerYieldT := if yielding then some s.clk else r.partnerYieldT }
      let s := higherClaim s claim
      if (yielding && takeoverReady s) || takesBack s wasActive (getU beat 1 1) then takeover s
      else if s.unit == .solo && getU beat 1 1 == 2 then setRole s .active 323 false
      else s)

/-- The ACTIVE unit yields (R330). -/
def execYield (t : Nat) (s : State) : Out State :=
  let s := s.advance t
  let toUs : Bool := match s.red.partnerYieldT with | none => false | some y => decide (s.clk < y + 600 * nsS)
  .next (if s.unit == .active && yieldEnabled s && !toUs &&
      (s.red.lowerSince.any (heldFor s · (100 * nsMs)) || (s.pwr.supLost && !s.hpr.handover)) then
    s.setRed fun r => { r with yield := true } else s)

/-- The HEARTBEAT message of every 1 ms (R331). -/
def execHeartbeat (t : Nat) (s : State) : Out State :=
  let s := s.advance t
  .next (if beats s && s.unit.isRole then peerSend s 7 else s)

/-- While XCL is unproven or has carried no beat for 1 ms, 3 ms without a PEER beat starts the takeover (R331). -/
def execPeerBeatLoss (t : Nat) (s : State) : Out State :=
  let s := s.advance t
  .next (if s.unit == .standby && replicaFresh s && someTierP s && !s.red.partnerDormant &&
      (!s.red.xclProven || heldFor s s.red.beatT nsMs) && heldFor s s.red.peerBeatT (3 * nsMs) then takeover s else s)

/-- Completes the commands that wait for an acknowledgement up to message `upTo` (R344). -/
def releaseAcks (s : State) (upTo : Option Nat) : State :=
  let due (w : AckWait) : Bool := match upTo with | none => true | some n => decide ((n + 2 ^ 32 - w.seq) % 2 ^ 32 < 2 ^ 31)
  let s' := s.setRed fun r => { r with ackWait := r.ackWait.filter fun w => !due w }
  (s.red.ackWait.filter due).foldl (fun s w => completeExec s w.exec stOk 0 w.payload) s'

/-- PEER is down after 10 ms; after 1 s a STANDBY unit enters RESYNC, unless the partner is dormant (R345, R332). -/
def execPeerDown (t : Nat) (s : State) : Out State :=
  let s := s.advance t
  .next (if heldFor s s.red.peerT (10 * nsMs) then
      let s := releaseAcks (s.setRed fun r => { r with peerDown := true }) none
      if s.unit == .standby && !s.red.partnerDormant && heldFor s s.red.peerT nsS then enterResync s 345 else s
    else s)

/-- RESYNC to SOLO: every string HALTED, or as it was if ISOLATED or RETIRED (R323). -/
def soloFromResync (s : State) : State :=
  let s := (List.range s.strings).foldl (fun s i => haltStr s i 323) s
  setRole (issueClaim s) .solo 323 false

/-- The partner is not present (R322, R323). -/
def execPartnerAbsent (t : Nat) (s : State) : Out State :=
  let s := s.advance t
  .next (if presentNow s then s
    else
      let s := s.setRed fun r => { r with present := false, swapAsked := false, swapGranted := false, swapAt := none, peerRx := none }
      let s := releaseAcks s none
      match s.unit with
      | .active => setRole s .solo 323 false
      | .resync => soloFromResync s
      | _ => s)

/-- A dormant partner not back 1 s after this unit's first beat (R332). -/
def execDormantPartnerTimeout (t : Nat) (s : State) : Out State :=
  let s := s.advance t
  .next (if s.red.partnerDormant && heldFor s s.red.wakeT nsS then
      let s := s.setRed fun r => { r with partnerDormant := false, present := false, wakeT := none }
      match s.unit with
      | .active => setRole s .solo 332 false
      | .standby => assumeDuties s.hvi.iso.result (applyReplica (setRole (issueClaim s) .solo 332 false))
      | _ => s
    else s)

/-- A STATE message leaves, within 1 ms of a change and every 5 ms (R344). -/
def execPeerState (t : Nat) (s : State) : Out State :=
  let s := s.advance t
  .next (if s.unit.isRole && !s.asleep && s.pwr.state != .retention then
    peerSend s peerState else s)

/-! ## Role swaps (R337 to R340) -/

/-- Shadow comparison has been clean for `d` ns. -/
def cleanFor (s : State) (d : Nat) : Bool := decide (s.red.shadowCleanSince + d ≤ s.clk)

def noPrecharge (s : State) : Bool := (s.str.take s.strings).all fun x => x.state != .precharge

/-- The partner is STANDBY with flags bit 3 set. -/
def partnerReady (s : State) : Bool := s.red.present && s.red.beat.role == 2 && s.red.beat.flags.testBit 3

/-- The conditions of R337. -/
def swapAllowed (s : State) : Bool :=
  partnerReady s && cleanFor s (60 * nsS) && noPrecharge s && s.upd.act.isNone

/-- The request of R338: t_s is 2 ms from now, in TSU time. -/
def requestSwap (s : State) : State :=
  (peerSend s 8).setRed fun r => { r with swapAsked := true, swapGranted := false, swapAt := some (s.tsu.now + 2 * nsMs) }

/-- The ACTIVE unit's own strings as the replica it holds in STANDBY. -/
def ownReplica (s : State) : Replica :=
  { strings := (s.str.take s.strings).map fun x => x.state.code, tiers := (s.str.take s.strings).map fun x => x.tier.code
    e := (s.conv.take s.strings).map fun c => (roundR c.e).toNat, target := roundR s.dsp.target
    vinValid := s.pwr.vinValid, at_ := s.clk }

/-- The request was refused, or not granted by t_s; a scheduled swap is retried after 10 min (R340). -/
def swapRefused (s : State) : State :=
  if s.red.swapAsked then
    s.setRed fun r => { r with swapAsked := false, swapGranted := false, swapAt := none, retryT := s.clk + 600 * nsS }
  else s

/-- At t_s (R338): the granting STANDBY unit issues its claim and becomes ACTIVE; the old unit, which sees it, becomes
STANDBY, and watches the verification for 20 ms (R339). -/
def execSwap (t : Nat) (s : State) : Out State :=
  let s := s.advance t
  .next (match s.red.swapAt with
    | none => s
    | some ts =>
      if s.tsu.now < ts then s
      else if s.unit == .standby then
        let held := s.hvi.iso.result
        let s := setRole (issueClaim s) .active 338 false
        let s := assumeDuties held (applyReplica s)
        s.setRed fun r => { r with swapAt := none, swapVerifyAt := some (s.clk + 20 * nsMs), lastSwapT := s.clk
                                   dueT := s.clk + swapInterval s, dueSince := none, overdue := false }
      else if s.unit == .active && s.red.swapGranted then
        let s := (List.range s.strings).foldl abortTrans s
        let s := setRole s .standby 338 false
        s.setRed fun r => { r with swapAt := none, swapAsked := false, swapGranted := false, lastSwapT := s.clk
                                   swapVerifyAt := some (s.clk + 20 * nsMs), replica := some (ownReplica s)
                                   dueT := s.clk + swapInterval s, dueSince := none, overdue := false }
      else swapRefused s)

/-- Running phases of this unit's strings whose GX-2 does not follow it. -/
def strayPhases (s : State) : List Nat :=
  (List.range s.phases).filter fun p => (s.convAt (p / 4)).running && !(s.gx2At p).followsUs

/-- Verification within 20 ms of t_s (R339). A failed swap retires the output path concerned here, and the old unit
takes the role back, so this one is STANDBY again. -/
def execSwapVerify (t : Nat) (cdbAck gateOk : Bool) (s : State) : Out State :=
  let s := s.advance t
  .next (if s.red.swapVerifyAt.isNone || s.unit != .active then s
    else
      let bad := strayPhases s
      let s := s.setRed fun r => { r with swapVerifyAt := none }
      if bad.isEmpty && cdbAck && gateOk then s
      else
        let s := bad.foldl (fun s p => retireUnit s (uPhase p) 2) s
        let s := if cdbAck then s else
          ((List.range s.strings).filter fun i => !(s.contAt i).followsUs || decide (0 < (s.contAt i).ackMissing)).foldl
            (fun s i => retireUnit s (uCdb (i / 4)) 2) s
        let s := if gateOk then s else
          ((List.range 16).filter fun n => (s.efAt n).state == .on && !(s.efAt n).pgood).foldl
            (fun s n => retireUnit s (uEf n) 2) s
        let s := setRole s .standby 339 false
        groupRecord (s.setRed fun r => { r with failedSwaps := r.failedSwaps + 1, replica := some (ownReplica s) })
          gRed srcSup lvInfo 339 0 (s.red.failedSwaps + 1))

/-- Minutes of the TSU day, and whether they lie in the daily window (R340, R349). -/
def inWindow (s : State) : Bool :=
  let m := (s.tsu.now - utcOffset s * nsS) / (60 * nsS) % 1440
  let a := getU (pairCfg s) 4 2
  decide ((m + 1440 - a) % 1440 < getU (pairCfg s) 6 2)

/-- A scheduled swap falls due and runs at the first moment inside the window at which R337 is met (R340). -/
def execScheduledSwapDue (t : Nat) (s : State) : Out State :=
  let s := s.advance t
  .next (if s.unit == .active && swapsEnabled s && decide (s.red.dueT ≤ s.clk) then
      let s := s.setRed fun r => { r with dueSince := some (r.dueSince.getD s.clk) }
      let postponed : Bool := match s.red.postponeEnd with | none => false | some e => decide (s.clk < e)
      if inWindow s && swapAllowed s && !postponed && !s.saf.setMismatch && !s.red.unresolved &&
          decide (s.red.retryT ≤ s.clk) && s.red.swapAt.isNone then requestSwap s
      else s
    else s)

/-- Not completed within postpone_max hours of falling due: recorded overdue, still due (R340). -/
def execSwapOverdue (t : Nat) (s : State) : Out State :=
  let s := s.advance t
  .next (if heldFor s s.red.dueSince (getU (pairCfg s) 8 2 * 3600 * nsS) && !s.red.overdue then
      groupRecord (s.setRed fun r => { r with overdue := true }) gRed srcSup lvWarn 340 0 0
    else s)

/-! ## Resync (R346) -/

/-- A step of resync ends; after the last the unit is STANDBY. HELLO needs a compatible partner; the last step needs
10 s of clean shadow comparison. -/
def execResyncStep (t : Nat) (s : State) : Out State :=
  let s := s.advance t
  .next (if s.unit != .resync then s
    else match s.red.resyncStep with
      | 1 =>
        if s.red.partnerIdentity.isNone then s
        else if s.red.partnerVariantOk && s.red.partnerLevelsOk then s.setRed fun r => { r with resyncStep := 2 }
        else groupRecord (s.setRed fun r => { r with resyncStep := 0 }) gRed srcSup lvInfo 346 1 0
      | 2 => s.setRed fun r => { r with resyncStep := 3 }
      | 3 => s.setRed fun r => { r with resyncStep := 4 }
      | 4 => s.setRed fun r => { r with resyncStep := 5, shadowCleanSince := s.clk }
      | 5 => if cleanFor s (10 * nsS) then setRole (s.setRed fun r => { r with resyncStep := 0 }) .standby 346 false else s
      | _ => s)

/-- 300 s are over: from step 1 again, three times; then the unit stays, with an error record. -/
def execResyncTimeout (t : Nat) (s : State) : Out State :=
  let s := s.advance t
  .next (if s.unit == .resync && s.red.resyncStep != 0 && decide (s.red.resyncT + 300 * nsS ≤ s.clk) then
      if s.red.restarts < 3 then s.setRed fun r => { r with restarts := r.restarts + 1, resyncStep := 1, resyncT := s.clk }
      else groupRecord (s.setRed fun r => { r with resyncStep := 0 }) gRed srcSup lvErr 346 0 s.red.restarts
    else s)

/-! ## Start-up arbitration (R324) -/

/-- The role at the end of the listening time: none found, SOLO; a partner in the ACTIVE role or SOLO, RESYNC; else the
higher claim floor, then the lower identity, takes the ACTIVE role. -/
def bootRole (s : State) : UnitState :=
  if !presentNow s then .solo
  else if s.red.beat.role = 3 ∨ s.red.beat.role = 4 then .resync
  else if s.red.partnerFloor < claimFloor s then .active
  else if claimFloor s < s.red.partnerFloor then .resync
  else if Config.uniqueId < s.red.partnerIdentity.getD 0 then .active else .resync

/-! ## Shadow comparison (R347, R348) -/

/-- Tolerance of a row for the active unit's value. -/
def shadowTol (row : Nat) (active : Int) : Int :=
  match row with
  | 1 => 100
  | 2 => 1000 + absI active / 100
  | 3 => 2000 + absI active / 100
  | 4 => 50000
  | _ => 0

/-- Comparisons in a row that make a mismatch; row 0 counts time instead. -/
def shadowPersist (row : Nat) : Nat :=
  match row with | 1 => 10 | 2 => 10 | 3 => 5 | 4 => 3 | 5 => 2 | _ => 1

/-- The unit a mismatch concerns (R348); SUP's own values have no retirable unit. -/
def shadowUnit (row obj : Nat) : Option Nat :=
  match row with | 0 => some uSp | 1 => some (uPhase obj) | 2 => some uLe | 4 => some uCee | _ => none

def runGet (l : List ((Nat × Nat) × Nat × Nat)) (k : Nat × Nat) : Option (Nat × Nat) :=
  (l.find? fun e => e.1 = k).map (·.2)

/-- One comparison on a STANDBY unit or in the last step of resync. `discrepancy` is the active set's, in ns. -/
def shadowCompare (s : State) (v : ShadowValue) (discrepancy : Nat) : State :=
  let key := (v.row, v.obj)
  let differs : Bool := decide (shadowTol v.row v.active < absI (v.active - v.own))
  let rest := s.red.runs.filter fun e => e.1 ≠ key
  if !differs then
    s.setRed fun r => { r with runs := rest, unresolved := r.unresolved && !cleanFor s (3600 * nsS) }
  else
    let (n, t0) := (runGet s.red.runs key).getD (0, s.clk)
    let mismatch : Bool := if v.row = 0 then decide (t0 + discrepancy < s.clk) else decide (n + 1 = shadowPersist v.row)
    let s := s.setRed fun r => { r with runs := (key, n + 1, t0) :: rest, shadowCleanSince := s.clk }
    if !mismatch then s
    else
      let again := s.red.mismatchT.any fun e => e.1 == key && decide (s.clk < e.2 + 600 * nsS)
      let s := s.setRed fun r =>
        { r with mismatches := r.mismatches + 1, lastMismatch := some key, unresolved := r.unresolved || again
                 mismatchT := (key, s.clk) :: r.mismatchT.filter fun e => e.1 ≠ key
                 runs := rest }
      let s := if again then groupRecord s gRed srcSup lvWarn 348 v.row v.obj else s
      match shadowUnit v.row v.obj with
      | none => s
      | some u => detected (s.setRed fun r => { r with shadowTests := (u, 255) :: r.shadowTests.take 15 }) u 348 v.row

/-! ## Commands (R349, R350) -/

def execRedSetConfig (q : Req) (s : State) : Out State :=
  setR 0x0A02 16 pairFields (fun _ _ => none) (fun _ _ => none)
    (fun s p => s.setRed fun r => { r with cfg := p }) q s

def execRedGetConfig (q : Req) (s : State) : Out State := getNone 0x0A03 false pairCfg q s

/-- The items R350 names, in its order (log entry 14). -/
def redStatus (s : State) : Bytes :=
  let r := s.red
  leU 1 s.unit.code ++ leU 4 r.claim ++ leU 4 r.partnerClaim ++
    s.gx2.flatMap (fun g => leU 4 g.claim ++ leB g.followsUs) ++
    s.saf.cont.flatMap (fun c => leU 4 c.claim ++ leB c.followsUs) ++
    leU 4 r.beatsSent ++ leU 4 r.beatsRx ++ leU 4 r.beatsBad ++ leU 4 r.peerTx ++ leU 4 (r.peerRx.getD 0) ++
    leU 4 r.peerDiscards ++ leB r.xclProven ++
    leU 4 (match r.replica with | none => 0xFFFFFFFF | some x => (s.clk - x.at_) / nsUs) ++ leB (takeoverReady s) ++
    leU 8 r.lastSwapT ++ leU 8 r.lastTakeoverT ++ leU 8 r.dueT

def execRedGetStatus (q : Req) (s : State) : Out State := getW 0x0A01 false redStatus q s

/-- RED_SWAP: the conditions of R337 are the owning chapter's condition (R448 form 0x3). -/
def execRedSwap (q : Req) (s : State) : Out State :=
  command
    { op := 0x0A04, len := lenIs 0, roles := .a, h := false
      state := fun s _ => if swapAllowed s && s.red.swapAt.isNone then none else some (conflictObj 0) }
    (fun s q => ok ((requestSwap s).setRed fun r => { r with unresolved := false }) 0x0A04 q []) q s

def execRedPostpone (q : Req) (s : State) : Out State :=
  command
    { op := 0x0A05, len := lenIs 2, roles := .a, h := false
      arg := fun _ q => must (decide (1 ≤ getU q.payload 0 2 ∧ getU q.payload 0 2 ≤ 168)) 0 }
    (fun s q =>
      ok (s.setRed fun r => { r with postponeEnd := some (s.clk + getU q.payload 0 2 * 3600 * nsS) }) 0x0A05 q []) q s

/-- Mismatch counts, the last mismatch and the outcomes of the newest self-tests, 255 while one runs (log entry 14). -/
def redShadow (s : State) : Bytes :=
  let (a, b) := s.red.lastMismatch.getD (0xFFFF, 0xFFFF)
  leU 4 s.red.mismatches ++ leU 2 a ++ leU 2 b ++ leB s.red.unresolved ++
    ((s.red.shadowTests.take 16).flatMap fun e => leU 2 e.1 ++ leU 1 e.2)

def execRedGetShadow (q : Req) (s : State) : Out State :=
  command { op := 0x0A06, len := lenIs 0, roles := .sa, h := false }
    (fun s q => ok s 0x0A06 q (redShadow s)) q s

end Sys2Proof.Machine
end

