-- ==== Sys2Proof/Machine/Loop.lean ====
section
/-! DEFINITION. The loop engine: descriptors, fixed-point laws, coefficient banks, slot periods and trace
(09_loop_engine.md R255 to R280). -/

namespace Sys2Proof.Machine

/-! ## Descriptors (R255, R265, R266) -/

def descFields : List Field :=
  [uf 0 2 1 1 1, uf 2 2 0 65535 0, uf 4 1 0 127 0, uf 5 1 1 5 5, uf 6 1 0 255 255, rsv 7 1, uf 8 1 0 2 0,
    uf 9 1 0 255 0, uf 10 2 1 100 1, uf 12 1 0 4 0, uf 13 1 0 3 0, rsv 14 2, uf 16 2 0 65535 0, uf 18 2 0 65535 0,
    uf 20 2 0 65535 0, uf 22 2 0 65535 0, sf 24 4 (-(2 ^ 31)) (2 ^ 31 - 1) 0, sf 28 4 (-(2 ^ 31)) (2 ^ 31 - 1) 0,
    sf 32 4 (-(2 ^ 31)) (2 ^ 31 - 1) 0, sf 36 4 (-(2 ^ 31)) (2 ^ 31 - 1) 0, sf 40 4 1 (2 ^ 31 - 1) 1, rsv 44 16]

/-- String of a converter slot (*Slot map*). -/
def slotString (n : Nat) : Option Nat :=
  if n < 8 then some n else if n < 16 then some (n - 8) else if n < 48 then some ((n - 16) / 4)
  else if n < 56 then some (n - 48) else none

/-- The kind *Slot map* shows for a slot. -/
def slotKind (n : Nat) : Nat := if n < 8 then 1 else if n < 16 then 3 else if n < 48 then 4 else if n < 56 then 2 else 5

def LoopSlot.trigger (x : LoopSlot) : Nat := getU x.desc 8 1
def LoopSlot.trigArg (x : LoopSlot) : Nat := getU x.desc 9 1
def LoopSlot.divider (x : LoopSlot) : Nat := getU x.desc 10 2
def LoopSlot.law (x : LoopSlot) : Nat := getU x.desc 12 1
def LoopSlot.optional (x : LoopSlot) : Bool := getBit x.desc 13 0
def LoopSlot.slewed (x : LoopSlot) : Bool := getBit x.desc 13 1
def LoopSlot.outMin (x : LoopSlot) : Int := getS x.desc 24 4
def LoopSlot.outMax (x : LoopSlot) : Int := getS x.desc 28 4
def LoopSlot.intMin (x : LoopSlot) : Int := getS x.desc 32 4
def LoopSlot.intMax (x : LoopSlot) : Int := getS x.desc 36 4
def LoopSlot.slew (x : LoopSlot) : Int := getS x.desc 40 4
def LoopSlot.active (x : LoopSlot) : Bank := if x.activeB then x.bankB else x.bankA
def LoopSlot.inactive (x : LoopSlot) : Bank := if x.activeB then x.bankA else x.bankB

/-- A source code names a signal of *Signal sources*. -/
def sourceOk (s : State) (c : Nat) : Bool :=
  let i := c % 4096
  match c / 4096 with
  | 0 => i == 0
  | 1 | 3 | 5 | 8 | 0xA | 0xB => decide (i < s.strings)
  | 2 | 9 => decide (i < s.phases)
  | 4 => i == 0
  | 6 => decide (i < 128)
  | 7 => decide (i < 16)
  | 0xC => decide (i < 64)
  | _ => false

/-- Parent chain of a trigger 2 slot ends without coming back to `self`: no cycle (R267). -/
def chainEnds (s : State) (self : Nat) : Nat → Nat → Bool
  | 0, _ => false
  | fuel + 1, n =>
    if n = self then false
    else
      let x := s.loopAt n
      if x.desc.isEmpty then false else if x.trigger = 2 then chainEnds s self fuel x.trigArg else true

/-- Rate of a slot with descriptor bytes `d`, Hz (R230, R272, R273). -/
def rateOf (s : State) : Nat → Bytes → Rat
  | 0, _ => 0
  | fuel + 1, d =>
    match getU d 8 1 with
    | 0 =>
      if getU d 9 1 = 1 then 10000
      else
        let p := (s.tsu.trig.getD (getU d 9 1) {}).period
        if p = 0 then 0 else (nsS : Rat) / p
    | 1 => fSw s (getU d 9 1 / 4)
    | _ => let parent := (s.loopAt (getU d 9 1)).desc
           if parent.isEmpty then 0 else rateOf s fuel parent / (max 1 (getU d 10 2) : Nat)

def slotRate (s : State) (n : Nat) : Rat :=
  let d := (s.loopAt n).desc
  if d.isEmpty then 0 else rateOf s 128 d

/-- *Law cost* plus 16 cycles (R275). -/
def lawCost (law : Nat) : Nat :=
  16 + match law with | 0 => 40 | 1 => 60 | 2 => 48 | 3 => 64 | _ => 72

/-- Load of datapath `k`, cycles per second. -/
def pathLoad (s : State) (k : Nat) : Rat :=
  ((List.range 32).map fun j =>
    let n := 4 * j + k
    if (s.loopAt n).desc.isEmpty then 0 else slotRate s n * (lawCost (s.loopAt n).law : Nat)).sum

/-- The admission rule of R275 over every datapath. -/
def admitted (s : State) : Bool := (List.range 4).all fun k => decide (pathLoad s k ≤ 200000000)

/-- Wiring of a converter slot (*Converter slot wiring*): offset of the first field that differs. -/
def wiringBad (p : Bytes) (n : Nat) : Option Nat :=
  let i := (slotString n).getD 0
  let ph := n - 16
  let is (off v : Nat) : Option Nat := must (getU p off (if off ≤ 9 then 1 else 2) == v) off
  match slotKind n with
  | 1 => firstBad [is 8 2, is 9 (8 + i), must ([1, 2, 4, 5, 10].contains (getU p 10 2)) 10, is 16 (0x5000 + i),
      is 18 (0x7000 + i), is 20 0, is 22 (0x2000 + i)]
  | 2 => firstBad [is 8 2, is 9 (8 + i), must ([1, 2, 4, 5, 10].contains (getU p 10 2)) 10, is 16 0x4000,
      is 18 (0x7008 + i), is 20 0, is 22 (0x2000 + i)]
  | 3 => firstBad [is 8 0, is 9 1, is 10 1, is 16 (0x1000 + i), is 18 (0x8000 + i), is 20 0, is 22 (0x3000 + i)]
  | 4 => firstBad [is 8 1, is 9 ph, is 10 1, is 16 (0x2000 + ph), is 18 (0x9000 + ph),
      must (getU p 20 2 == 0xA000 + i || getU p 20 2 == 0) 20, is 22 (0x1000 + ph)]
  | _ => none

/-- An auxiliary slot's trigger, sources and destination (R258, R259, R267). -/
def auxBad (s : State) (p : Bytes) (n : Nat) : Option Nat :=
  let arg := getU p 9 1
  firstBad [must (match getU p 8 1 with
      | 0 => decide (arg < 16) | 1 => decide (arg < s.phases) | _ => decide (arg < 128) && chainEnds s n 128 arg) 9,
    must (getU p 8 1 == 2 || getU p 10 2 == 1) 10,
    must (sourceOk s (getU p 16 2)) 16, must (sourceOk s (getU p 18 2)) 18, must (sourceOk s (getU p 20 2)) 20,
    must (getU p 22 2 == 0 || (getU p 22 2 / 4096 == 4 && decide (getU p 22 2 % 4096 < 64))) 22]

/-- Every check of a descriptor (R255, R258, R265 to R267, R275). -/
def descBad (s : State) (p : Bytes) : Option Nat :=
  let n := getU p 4 1
  firstBad [badField descFields p, must (getU p 5 1 == slotKind n) 5,
    must (match slotString n with
      | some i => getU p 6 1 == i | none => decide (getU p 6 1 < s.strings) || getU p 6 1 == 0xFF) 6,
    must (slotKind n == 5 || !getBit p 13 0) 13,
    if slotKind n = 5 then auxBad s p n else
      firstBad [wiringBad p n, must (slotKind n == 4 || slotKind n == 3 || !(s.loopAt (getU p 9 1)).desc.isEmpty) 9],
    must (decide (getS p 24 4 < getS p 28 4)) 28, must (decide (getS p 32 4 ≤ getS p 36 4)) 36,
    must (getU p 60 4 == crc32c (p.take 60)) 60,
    must (admitted (s.modLoop n fun x => { x with desc := p })) 4]

/-- A converter slot of a string outside the population (R255). -/
def slotPop (s : State) (n off : Nat) : Option Nat :=
  match slotString n with | some i => must (decide (i < s.strings)) off | none => none

/-- The string of a converter slot is ISOLATED, CONNECTED, HALTED or RETIRED (R280). -/
def slotConflict (s : State) (n : Nat) : Option Nat :=
  match slotString n with
  | none => none
  | some i => match (s.strAt i).state with
    | .precharge | .regulating => some (conflictStr s i)
    | _ => none

/-- A fresh slot with a descriptor: history, integrator and output 0 (R267); banks and counts stay. -/
def clearHistory (x : LoopSlot) : LoopSlot :=
  { x with e1 := 0, e2 := 0, e3 := 0, y1 := 0, y2 := 0, y3 := 0, integ := 0, deriv := 0, out := 0, computed := 0
           repeated := false, busy := false, lateRun := 0, stopped := false, bump := none }

/-- A descriptor in its slot. -/
def storeDesc (s : State) (p : Bytes) : State := retier (s.modLoop (getU p 4 1) fun x => { clearHistory x with desc := p })

/-- The slot is empty. -/
def emptySlot (s : State) (p : Bytes) : State := retier (s.modLoop (getU p 0 1) fun x => { clearHistory x with desc := [] })

def execLepLoadDesc (q : Req) (s : State) : Out State :=
  command
    { op := 0x0801, len := lenIs 64, roles := .as, h := false
      pop := fun s p => slotPop s (getU p 4 1) 4
      state := fun s q => slotConflict s (getU q.payload 4 1)
      arg := fun s q => descBad s q.payload }
    (fun s q => commit (storeDesc s q.payload) 0x0801 q peerConfig []) q s

def execLepClearSlot (q : Req) (s : State) : Out State :=
  command
    { op := 0x0802, len := lenIs 1, roles := .as, h := false
      pop := fun s p => slotPop s (getU p 0 1) 0
      state := fun s q => slotConflict s (getU q.payload 0 1)
      arg := fun _ q => must (decide (getU q.payload 0 1 < 128)) 0 }
    (fun s q => commit (emptySlot s q.payload) 0x0802 q peerConfig []) q s

/-- A get command whose payload is one index byte below `n`. -/
def getByte (op : Nat) (n : Nat) (resp : State → Nat → Bytes) (q : Req) (s : State) : Out State :=
  command
    { op := op, len := lenIs 1, roles := .all
      arg := fun _ q => must (decide (getU q.payload 0 1 < n)) 0 }
    (fun s q => ok s op q (resp s (getU q.payload 0 1))) q s

def execLepGetDesc (q : Req) (s : State) : Out State :=
  getByte 0x0803 128 (fun s n => fitTo 64 (s.loopAt n).desc) q s

/-! ## Coefficient banks and gain tables (R264, R268 to R270) -/

/-- A gain table is loaded. -/
def lutOk (s : State) (k : Nat) : Bool := !(s.le.lut.getD k []).isEmpty

/-- Checks of a coefficient block at offset 4 of the payload. -/
def coefBad (s : State) (p : Bytes) : Option Nat :=
  let n := getU p 0 1
  let lut := getU p 44 1
  let law4 := (s.loopAt n).law == 4
  firstBad ([must (decide (n < 128)) 0, zeroAt p 1 1, zeroAt p 2 2] ++
    (List.range 8).map (fun k => must (decide (getU p (36 + k) 1 ≤ 31)) (36 + k)) ++
    [must (if law4 then decide (lut < 64) && lutOk s lut
        else lut == 0xFF || ((s.loopAt n).desc.isEmpty && decide (lut < 64) && lutOk s lut)) 44, zeroAt p 45 1,
      must (getU p 48 4 == crc32c ((p.drop 4).take 44)) 48])

/-- The block enters the inactive bank (R268). -/
def storeCoef (s : State) (p : Bytes) : State :=
  let b : Bank := { block := p.drop 4, valid := true, fresh := true }
  s.modLoop (getU p 0 1) fun x => if x.activeB then { x with bankA := b } else { x with bankB := b }

def execLepSetCoef (q : Req) (s : State) : Out State :=
  command
    { op := 0x0804, len := lenIs 52, roles := .as, h := false
      state := fun s q =>
        let n := getU q.payload 0 1
        if (s.loopAt n).swapAt.isSome then some (conflictObj n) else none
      arg := fun s q => coefBad s q.payload }
    (fun s q => commit (storeCoef s q.payload) 0x0804 q peerConfig []) q s

def execLepGetCoef (q : Req) (s : State) : Out State :=
  getByte 0x0805 128 (fun s n =>
    let x := s.loopAt n
    fitTo 48 x.bankA.block ++ fitTo 48 x.bankB.block ++ leB x.activeB) q s

/-- Slots a 16-byte mask at `off` names. -/
def maskSlots (p : Bytes) (off : Nat) : List Nat := (List.range 128).filter fun n => getBit p off n

/-- An instant of u64 seconds and u32 nanoseconds at `off`. -/
def instantAt (p : Bytes) (off : Nat) : Nat := getU p off 8 * nsS + getU p (off + 8) 4

/-- The slots named swap banks at the instant (R269). -/
def storeSwap (s : State) (p : Bytes) : State :=
  (maskSlots p 16).foldl (fun s n => s.modLoop n fun x => { x with swapAt := some (instantAt p 0) }) s

def execLepSwap (q : Req) (s : State) : Out State :=
  command
    { op := 0x0806, len := lenIs 32, roles := .as, h := false
      state := fun s q =>
        match (maskSlots q.payload 16).find? fun n => !((s.loopAt n).inactive.valid && (s.loopAt n).inactive.fresh) with
        | some n => some (conflictObj n)
        | none => if instantAt q.payload 0 = 0 ∧ s.unit ≠ .solo then some (conflictUnit s) else none
      arg := fun s q => firstBad [
        must (instantAt q.payload 0 == 0 || s.unit == .solo || decide (s.tsu.now + 20 * nsMs ≤ instantAt q.payload 0)) 0,
        must (decide (getU q.payload 8 4 < nsS)) 8, zeroAt q.payload 12 4] }
    (fun s q => commit (storeSwap s q.payload) 0x0806 q peerConfig []) q s

/-- The swap itself: at the start of the first period at or after the swap instant (R269). -/
def swapBank (now : Nat) (x : LoopSlot) : LoopSlot :=
  match x.swapAt with
  | none => x
  | some t =>
    if t ≤ now then
      let fresh (b : Bank) : Bank := { b with fresh := false }
      { x with swapAt := none, activeB := !x.activeB, bankA := fresh x.bankA, bankB := fresh x.bankB }
    else x

def execBankSwap (t : Nat) (n : Nat) (s : State) : Out State :=
  let s := s.advance t
  .next (s.modLoop n (swapBank s.tsu.now))

/-- A table is named by the active bank of a running law 4 slot (R270). -/
def lutInUse (s : State) (k : Nat) : Bool :=
  s.le.slot.any fun x => !x.desc.isEmpty && x.law == 4 && x.active.valid && getU x.active.block 40 1 == k

def lutBad (p : Bytes) : Option Nat :=
  firstBad [must (decide (getU p 0 1 < 64)) 0, zeroAt p 1 1, zeroAt p 2 2, must (decide (getU p 4 1 ≤ 26)) 4,
    must (decide (getU p 5 1 ≤ 1)) 5, zeroAt p 6 2, zeroAt p 140 4, must (getU p 144 4 == crc32c ((p.drop 4).take 140)) 144]

/-- A gain table in its place (R270). -/
def storeLut (s : State) (p : Bytes) : State :=
  s.setLe fun l => { l with lut := l.lut.modify (getU p 0 1) fun _ => p.drop 4 }

def execLepLoadLut (q : Req) (s : State) : Out State :=
  command
    { op := 0x0807, len := lenIs 148, roles := .as, h := false
      state := fun s q => if lutInUse s (getU q.payload 0 1) then some (conflictObj (getU q.payload 0 1)) else none
      arg := fun _ q => lutBad q.payload }
    (fun s q => commit (storeLut s q.payload) 0x0807 q peerConfig []) q s

def execLepGetLut (q : Req) (s : State) : Out State :=
  getByte 0x0808 64 (fun s k => fitTo 144 (s.le.lut.getD k [])) q s

/-- The parameter words named take their values (R274). -/
def storeParam (s : State) (p : Bytes) : State :=
  s.setLe fun l => { l with param := (List.range (getU p 1 1)).foldl (fun r k =>
    r.modify (getU p 0 1 + k) fun _ => getS p (4 + 4 * k) 4) l.param }

/-- LEP_SET_PARAM: no commit; each reading slot sees it at its next sample instant (R274). -/
def execLepSetParam (q : Req) (s : State) : Out State :=
  command
    { op := 0x0809
      len := fun p => if p.length = 4 + 4 * getU p 1 1 ∧ p.length ≤ 240 then none else some (4 + 4 * getU p 1 1)
      roles := .as, h := false
      arg := fun _ q => firstBad [must (decide (getU q.payload 0 1 < 64)) 0,
        must (decide (getU q.payload 0 1 + getU q.payload 1 1 ≤ 64)) 1, zeroAt q.payload 2 2] }
    (fun s q => commit (storeParam s q.payload) 0x0809 q peerConfig []) q s

def execLepGetOutput (q : Req) (s : State) : Out State :=
  getC 0x080A false false (fun _ => 192)
    (fun s i => leS 4 (if i < 128 then (s.loopAt i).out else s.le.auxOut.getD (i - 128) 0)) q s

/-- Load of each datapath in cycles per second, then per slot its counts, active bank and tag (log entry 14). -/
def lepStatus (s : State) : Bytes :=
  (List.range 4).flatMap (fun k => leU 4 (roundR (pathLoad s k)).toNat) ++
    s.le.slot.flatMap fun x => leU 4 x.late ++ leU 4 x.catchUp ++ leU 4 x.deadline ++ leU 4 x.saturations ++
      leB x.activeB ++ leU 2 (getU x.active.block 42 2)

def execLepGetStatus (q : Req) (s : State) : Out State := getW 0x080B false lepStatus q s

/-! ## Arithmetic (R260, R264) -/

/-- A product term: exact product, rounding half up by the shift. -/
def prodTerm (c : Int) (sh : Nat) (x : Int) : Int :=
  if sh = 0 then c * x else (c * x + 2 ^ (sh - 1)) / 2 ^ sh

/-- Saturates to signed `n` bits; the flag says that it acted. -/
def saturate (n : Nat) (x : Int) : Int × Bool :=
  let y := clampI (-(2 ^ (n - 1))) (2 ^ (n - 1) - 1) x
  (y, y != x)

/-- Sum in a saturating 64-bit accumulator, narrowed to 32 bits. -/
def sumSat (l : List Int) : Int × Bool :=
  let (a, f) := l.foldl (fun (acc : Int × Bool) x =>
    let (y, g) := saturate 64 (acc.1 + x)
    (y, acc.2 || g)) (0, false)
  let (y, g) := saturate 32 a
  (y, f || g)

/-- The gain of table `b` for error `e`, units of 2⁻²⁴ (R264). -/
def lutGain (b : Bytes) (e : Int) : Int :=
  let sh := getU b 0 1
  let point (j : Nat) : Int := getS b (4 + 4 * j) 4
  let x : Int := if getBit b 1 0 then e + 16 * 2 ^ sh else absI e
  if x < 0 then point 0
  else
    let i := x.toNat / 2 ^ sh
    if 32 ≤ i then point 32
    else
      let f : Int := x - (i * 2 ^ sh : Nat)
      point i + prodTerm (point (i + 1) - point i) sh f

def gainTerm (g term : Int) : Int := (g * term + 2 ^ 23) / 2 ^ 24

/-! ## Signals (R259) -/

/-- `x` in units of `num / den`, as a 32-bit word. -/
def asWord (x : Rat) : Int := (saturate 32 (roundR x)).1

/-- The phase current a loop uses: the newest sample, or in estimate mode the shunt less the other phases (R248), A. -/
def phaseCurrent (s : State) (p : Nat) : Rat :=
  if (s.phaseAt p).estimate.isSome then
    ((s.hviAt (p / 4)).cur : Rat) / 1000000 -
      (((enabledPhases s (p / 4)).filter (· ≠ p)).map fun r => ((s.phaseAt r).sample : Rat) / 100).sum
  else ((s.phaseAt p).sample : Rat) / 100

/-- Nominal duty 1 − VS / VB, held from 0 to 1. -/
def nominalDuty (s : State) (i : Nat) : Rat :=
  if s.hvi.vb ≤ 0 then 0 else clampR 0 1 (1 - ((s.hviAt i).vs : Rat) / (s.hvi.vb : Rat))

/-- A setpoint register as a slot whose sample instant is now reads it (R274). -/
def setpoint (s : State) (k : Nat) : Int :=
  match s.le.commit with
  | some t => if t ≤ s.tsu.now then s.le.shadow.getD k 0 else s.le.setp.getD k 0
  | none => s.le.setp.getD k 0

/-- The signal a source code names, at now. -/
def signal (s : State) (c : Nat) : Int :=
  let i := c % 4096
  match c / 4096 with
  | 1 => asWord ((s.hviAt i).cur * 65536 / 1000000 : Rat)
  | 2 => asWord (phaseCurrent s i * 65536)
  | 3 => asWord ((s.hviAt i).vs * 65536 / 10000 : Rat)
  | 4 => asWord (s.hvi.vb * 65536 / 10000 : Rat)
  | 5 => asWord ((s.hviAt i).vs * (s.hviAt i).cur * 16 / 10000000000 : Rat)
  | 6 => (s.loopAt i).out
  | 7 => setpoint s i
  | 8 => asWord (iRef s i s.tsu.now * 65536)
  | 9 => asWord (phaseSet s i s.tsu.now * 65536)
  | 0xA => asWord (nominalDuty s i * 2 ^ 31)
  | 0xB => asWord (toneSum s i s.tsu.now * 65536)
  | 0xC => s.le.param.getD i 0
  | _ => 0

/-! ## One period (R262, R263, R272) -/

/-- What a period computes. -/
structure Period where
  slot : LoopSlot
  nodes : List Int
  clamped : Bool
  saturated : Bool

/-- Output limits; a phase slot takes the narrower of its own and d_min, d_max (R261). -/
def outLimits (s : State) (n : Nat) (x : LoopSlot) : Int × Int :=
  if 16 ≤ n ∧ n < 48 then (max x.outMin (dMin s ((n - 16) / 4)), min x.outMax (dMax s ((n - 16) / 4)))
  else (x.outMin, x.outMax)

/-- The PM reports braking, gate-off or estimate-mode entry for a phase slot (R263). -/
def pmHolds (s : State) (n : Nat) : Bool :=
  if 16 ≤ n ∧ n < 48 then
    let p := s.phaseAt (n - 16)
    p.braking || p.gatedOff || p.estimate == some s.clk
  else false

/-- The setpoint a slot reads: an outer POWER slot converts bus power into string power (08_converter_control.md R231). -/
def setSignal (s : State) (n c : Nat) : Int :=
  let v := signal s c
  if slotKind n = 1 ∧ 0x7000 ≤ c ∧ c < 0x7008 then asWord (if 0 < v then v * etaC s else (v : Rat) / etaC s) else v

/-- The law of slot `n` over the sources of now (R262, R263). -/
def lawPeriod (s : State) (n cycles : Nat) (x : LoopSlot) : Period :=
  let meas := signal s (getU x.desc 16 2)
  let set := setSignal s n (getU x.desc 18 2)
  let ff := signal s (getU x.desc 20 2)
  let (e, f0) := saturate 32 (set - meas)
  let b := x.active.block
  let pr (k : Nat) (v : Int) : Int := prodTerm (getS b (4 * k) 4) (getU b (32 + k) 1) v
  let g := if x.law = 4 then lutGain (s.le.lut.getD (getU b 40 1) []) e else 2 ^ 24
  let gain (v : Int) : Int := if x.law = 4 then gainTerm g v else v
  let fT := pr (match x.law with | 2 => 5 | 3 => 7 | _ => 2) ff
  let (lo, hi) := outLimits s n x
  let pid : Bool := x.law == 0 || x.law == 1 || x.law == 4
  let pT := gain (pr 0 e)
  let (i1, f1) := sumSat [x.integ, gain (pr 1 e)]
  let iK := match x.bump with | none => i1 | some y => y - pT - fT
  let (dK, f2) := if x.law = 1 then sumSat [x.deriv, pr 4 (pr 3 (e - x.e1) - x.deriv)] else (0, false)
  let (yK, f3) :=
    if x.law = 2 then sumSat [pr 0 e, pr 1 x.e1, pr 2 x.e2, -(pr 3 x.y1), -(pr 4 x.y2)]
    else if x.law = 3 then
      sumSat [pr 0 e, pr 1 x.e1, pr 2 x.e2, pr 3 x.e3, -(pr 4 x.y1), -(pr 5 x.y2), -(pr 6 x.y3)]
    else (0, false)
  let yK := match x.bump with | none => yK | some y => if pid then yK else y - fT
  let (u', f4) := if pid then sumSat [pT, iK, dK, fT] else sumSat [yK, fT]
  let u := clampI lo hi u'
  let u := if x.slewed then clampI (x.computed - x.slew) (x.computed + x.slew) u else u
  let outside : Bool := decide (u' < lo ∨ hi < u')
  let iNext := if outside || pmHolds s n then x.integ else clampI x.intMin x.intMax iK
  let sat := f0 || f1 || f2 || f3 || f4
  let taps := if 16 ≤ n ∧ n < 48 then (clampI lo hi u * (nSw s ((n - 16) / 4) : Nat) + 2 ^ 30) / 2 ^ 31 else 0
  { slot := { x with
      e1 := e, e2 := x.e1, e3 := x.e2, y1 := u - fT, y2 := x.y1, y3 := x.y2
      integ := if pid then iNext else x.integ, deriv := dK, computed := u, clamped := outside, saturated := sat
      saturations := x.saturations + sat.toNat, bump := none }
    nodes := [meas, set, e, fT, if pid then pT else yK, iK, dK, u', u, g, taps, cycles]
    clamped := outside, saturated := sat }

/-- Writes an applied output to its destination (*Output destinations*). -/
def writeDst (s : State) (dst : Nat) (v : Int) : State :=
  let i := dst % 4096
  match dst / 4096 with
  | 1 => s.modPhase i fun p => { p with nextDuty := some v }
  | 2 => s.setLe fun l => { l with outer := l.outer.modify i fun _ => v }
  | 3 => s.setLe fun l => { l with corr := l.corr.modify i fun _ => v }
  | 4 => s.setLe fun l => { l with auxOut := l.auxOut.modify i fun _ => v }
  | _ => s

/-- One period of the slew of the outer output into the junction: 100 µs at slew A/ms, or toward zero at ramp_stop
(08_converter_control.md R233, R241). -/
def slewRef (s : State) (i : Nat) : State :=
  let c := s.convAt i
  let goal : Rat := if c.rampStop then 0 else (s.le.outer.getD i 0 : Rat) / 65536
  let step : Rat := ((if c.rampStop then rampStop s i else slewRate s i : Nat) : Rat) / 10
  s.modConv i fun c => { c with ref := clampR (c.ref - step) (c.ref + step) goal }

/-- The slot runs in this period: described, not stopped, LE in service with its clock, and for an outer slot the mode
of the request in force (R256). -/
def slotRuns (s : State) (n : Nat) : Bool :=
  let x := s.loopAt n
  !x.desc.isEmpty && x.active.valid && !x.stopped && !s.unitOut uLe && !s.clockLost .loop &&
    (s.pwr.state == .active || s.pwr.state == .holdup) &&
    (match slotKind n with | 1 => !s.le.vbusMode | 2 => s.le.vbusMode | _ => true)

/-! ## Trace (R277 to R279) -/

def probeFields : List Field :=
  [uf 0 1 0 15 0, uf 1 1 0 127 0, uf 2 1 0 11 0, uf 3 1 0 2 0, uf 4 2 1 65535 1, uf 6 1 0 5 0, uf 7 1 0 15 0,
    sf 8 4 (-(2 ^ 31)) (2 ^ 31 - 1) 0, uf 12 8 0 (2 ^ 64 - 1) 0, uf 20 4 0 999999999 0, uf 24 4 1 65536 1, rsv 28 4]

def Probe.slot (p : Probe) : Nat := getU p.cfg 1 1
def Probe.node (p : Probe) : Nat := getU p.cfg 2 1
def Probe.mode (p : Probe) : Nat := getU p.cfg 3 1
def Probe.decim (p : Probe) : Nat := getU p.cfg 4 2
def Probe.trig (p : Probe) : Nat := getU p.cfg 6 1
def Probe.pre (p : Probe) : Nat := getU p.cfg 7 1
def Probe.length (p : Probe) : Nat := getU p.cfg 24 4
/-- Samples after the trigger of a one-shot probe (R278). -/
def Probe.need (p : Probe) : Nat := p.length * (16 - p.pre) / 16

def State.probeAt (s : State) (k : Nat) : Probe := s.le.probe.getD k {}

/-- A detected error or trip on the slot's string stands (trigger 4). -/
def tripOn (s : State) (n : Nat) : Bool :=
  match slotString n with
  | none => false
  | some i => (s.saf.sp.at i).latch || (s.saf.sloe.at i).latch || s.suspended uLe ||
      (List.range 4).any fun k => s.suspended (uPhase (4 * i + k))

/-- The trigger condition of probe `p` at value `v`. -/
def probeTriggers (s : State) (n : Nat) (p : Probe) (v : Int) : Bool :=
  let level := getS p.cfg 8 4
  match p.trig with
  | 0 => true
  | 1 => decide (instantAt p.cfg 12 ≤ s.tsu.now)
  | 2 => decide (0 < p.count ∧ p.lastValue < level ∧ level ≤ v)
  | 3 => decide (0 < p.count ∧ level < p.lastValue ∧ v ≤ level)
  | 4 => tripOn s n
  | _ => (s.probeAt 0).trigIndex.isSome

/-- Captures one period of slot `n` into probe `k`; in catch-up the capture is skipped (R276, R278). -/
def capture (n : Nat) (catchUp : Bool) (flags : Nat) (nodes : List Int) (s : State) (k : Nat) : State :=
  let p := s.probeAt k
  if !(p.slot == n && !p.cfg.isEmpty && p.mode != 0 && (p.state == 1 || p.state == 2)) ||
      (p.state == 2 && p.mode == 1 && decide (p.need ≤ p.after)) then s
  else if p.decimCount + 1 < p.decim then
    s.setLe fun l => { l with probe := l.probe.modify k fun p => { p with decimCount := p.decimCount + 1 } }
  else if catchUp then
    s.setLe fun l => { l with probe := l.probe.modify k fun p => { p with skip := min 65535 (p.skip + 1), decimCount := 0 } }
  else
    let v := nodes.getD p.node 0
    let fires := p.state == 1 && probeTriggers s n p v
    let p' : Probe :=
      { p with
        buf := tblSet p.writeIndex (v, p.skip, flags) p.buf
        writeIndex := (p.writeIndex + 1) % max 1 p.length, count := min (2 ^ 32 - 1) (p.count + 1)
        gaps := p.gaps + (decide (0 < p.skip)).toNat, skip := 0, decimCount := 0, lastValue := v
        state := if fires then 2 else p.state
        trigIndex := if fires then some p.writeIndex else p.trigIndex
        trigT := if fires then s.tsu.now else p.trigT
        after := if p.state = 2 then p.after + 1 else 0 }
    s.setLe fun l => { l with probe := l.probe.modify k fun _ => p' }

/-- The instant is one of the slot's (R272, R273): a slot with a parent runs at the sample instant of a period of its parent
whose index in the TSU second is a multiple of the divider. -/
def slotDue (s : State) (n : Nat) : Bool :=
  let x := s.loopAt n
  x.trigger != 2 ||
    (let parent := s.loopAt x.trigArg
     parent.sampleT == s.tsu.now && parent.secIdx % max 1 x.divider == 0)

/-- Index of a period at now within its TSU second. -/
def nextIndex (s : State) (x : LoopSlot) : Nat := if x.sampleT / nsS = s.tsu.now / nsS ∧ x.period ≠ 0 then x.secIdx + 1 else 0

/-- SLOT_PERIOD: the output of the last period is applied at this sample instant, or repeated where that period is not
complete; a pending swap is taken; the sources are read and the law computed; probes capture. `late` says that this
period will not be complete at the next sample instant. In catch-up an optional slot repeats its output (R32, R33, R269,
R272, R276). -/
def slotPeriod (s : State) (n cycles : Nat) (late : Bool) : State :=
  if !slotRuns s n || !slotDue s n then s
  else
    let s := if slotKind n = 3 then slewRef s (n - 8) else s
    let x := swapBank s.tsu.now (s.loopAt n)
    let behind := x.busy
    let x := if behind then { x with repeated := true, late := x.late + 1, lateRun := x.lateRun + 1
                                     catchUp := x.catchUp + 1 }
      else { x with repeated := false, lateRun := 0, out := x.computed }
    let s := s.modLoop n fun _ => x
    let s := if behind then s else writeDst s (getU x.desc 22 2) x.out
    if behind && x.optional then s.modLoop n fun y =>
      { y with period := y.period + 1, sampleT := s.tsu.now, secIdx := nextIndex s x, busy := late }
    else
      let r := lawPeriod s n cycles x
      let s := s.modLoop n fun _ => { r.slot with nodes := r.nodes, period := x.period + 1, sampleT := s.tsu.now
                                                  secIdx := nextIndex s x, busy := late }
      let flags := r.clamped.toNat + 2 * x.repeated.toNat + 4 * x.activeB.toNat + 8 * r.saturated.toNat
      (List.range 16).foldl (capture n behind flags r.nodes) s

def execSlotPeriod (t : Nat) (n cycles : Nat) (late : Bool) (s : State) : Out State :=
  .next (slotPeriod (s.advance t) n cycles late)

/-- At the commit instant the shadow registers become the committed ones (R274). -/
def execSetpointCommit (t : Nat) (s : State) : Out State :=
  let s := s.advance t
  .next (match s.le.commit with
    | some c => if c ≤ s.tsu.now then s.setLe fun l => { l with setp := l.shadow, commit := none } else s
    | none => s)

/-- A one-shot probe that has its samples after the trigger is COMPLETE (R278). -/
def execProbeComplete (t : Nat) (p : Nat) (s : State) : Out State :=
  let s := s.advance t
  let x := s.probeAt p
  .next (if x.state = 2 ∧ x.mode = 1 ∧ x.need ≤ x.after then
    s.setLe fun l => { l with probe := l.probe.modify p fun x => { x with state := 3 } } else s)

def execTrcSetProbe (q : Req) (s : State) : Out State :=
  command
    { op := 0x1201, len := lenIs 32, roles := .all, h := false
      state := fun s q =>
        let st := (s.probeAt (getU q.payload 0 1)).state
        if st = 1 ∨ st = 2 then some (conflictObj (getU q.payload 0 1)) else none
      arg := fun _ q => badField probeFields q.payload }
    (fun s q =>
      ok (s.setLe fun l => { l with probe := l.probe.modify (getU q.payload 0 1) fun _ => { cfg := q.payload } })
        0x1201 q []) q s

/-- Applies `f` to each probe of a u16 mask. -/
def onProbes (s : State) (mask : Nat) (f : Probe → Probe) : State :=
  s.setLe fun l => { l with probe := l.probe.mapIdx fun k x => if mask.testBit k then f x else x }

/-- Arming starts a configured probe afresh. -/
def armProbe (x : Probe) : Probe := if x.cfg.isEmpty || x.mode == 0 then x else { cfg := x.cfg, state := 1 }

def execTrcArm (q : Req) (s : State) : Out State :=
  command { op := 0x1202, len := lenIs 2, roles := .all, h := false }
    (fun s q => ok (onProbes s (getU q.payload 0 2) armProbe) 0x1202 q []) q s

/-- A running probe stops. -/
def stopProbe (x : Probe) : Probe := if x.state = 1 ∨ x.state = 2 then { x with state := 4 } else x

def execTrcStop (q : Req) (s : State) : Out State :=
  command { op := 0x1203, len := lenIs 2, roles := .all }
    (fun s q => ok (onProbes s (getU q.payload 0 2) stopProbe) 0x1203 q []) q s

/-- *Probe header*. -/
def probeHeader (s : State) (k : Nat) : Bytes :=
  let p := s.probeAt k
  let rate := slotRate s p.slot
  let interval : Nat := if rate = 0 then 0 else (roundR ((p.decim : Rat) * 1000000000000 / rate)).toNat
  leU 1 k ++ leU 1 p.slot ++ leU 1 p.node ++ leU 1 p.state ++ leU 2 p.decim ++ leU 1 p.pre ++ leU 1 p.mode ++
    leU 4 p.length ++ leU 4 p.count ++ leU 4 p.writeIndex ++ leU 4 (p.trigIndex.getD 0xFFFFFFFF) ++
    leU 8 (p.trigT / nsS) ++ leU 4 (p.trigT % nsS) ++ leU 8 interval ++ leU 4 p.gaps ++ leU 8 0 ++ leU 8 0

/-- *Trace sample*. -/
def traceSample (s : State) (k i : Nat) : Bytes :=
  let (v, skip, flags) := tblGet ((0 : Int), (0 : Nat), (0 : Nat)) i (s.probeAt k).buf
  leS 4 v ++ leU 2 skip ++ leU 1 flags ++ [0]

/-- One byte of the trace region (R279). -/
def traceByte (s : State) (o : Nat) : Byte :=
  if o < 1024 then (probeHeader s (o / 64)).getD (o % 64) 0
  else
    let k := (o - 1024) / 524288
    let r := (o - 1024) % 524288
    (traceSample s k (r / 8)).getD (r % 8) 0

def execTrcGetStatus (q : Req) (s : State) : Out State :=
  getW 0x1204 false (fun s => (List.range 16).flatMap (probeHeader s)) q s

def execTrcMap (q : Req) (s : State) : Out State := mapM 0x1205 0x03200000 8389632 q s

def execTrcRead (q : Req) (s : State) : Out State :=
  let k := getU q.payload 2 1
  let first := getU q.payload 4 4
  let count := getU q.payload 8 4
  let body (s : State) : Bytes := (List.range count).flatMap fun j => traceSample s k (first + j)
  command
    { op := 0x1206, len := lenIs 12, roles := .all
      arg := fun _ q => firstBad [must (getU q.payload 0 2 != noDesc) 0, must (decide (k < 16)) 2, zeroAt q.payload 3 1,
        must (decide (first < 65536)) 4, must (decide (first + count ≤ 65536)) 8]
      desc := fun _ q => descAt q 0 (8 * count) }
    (fun s q => respondBuf s 0x1206 q (getU q.payload 0 2) (body s)) q s

end Sys2Proof.Machine
end

