-- ==== Sys2Proof/Machine/Converter.lean ====
section
/-! DEFINITION. The string converters: phase samples, modulators, interleave, pauses, precharge, start and stop, braking,
GX-2 drivers and phase faults (08_converter_control.md R217 to R254). -/

namespace Sys2Proof.Machine

/-! ## Quantities -/

/-- The headroom limit in 0.1 mV: VS / (1 − d_min) + 10 V (R218). -/
def headroom (s : State) (i : Nat) : Rat :=
  ((s.hviAt i).vs : Rat) / (1 - (getU (cnvCfg s i) 14 2 : Rat) / 10000) + 100000

/-- Switching and regulating: the converter of string `i` runs. -/
def convRuns (s : State) (i : Nat) : Bool := (s.strAt i).state == .regulating && (s.convAt i).running

/-- The first enabled phase, whose boundaries the others are offset from (R225, R227). -/
def firstPhase (s : State) (i : Nat) : Option Nat := (splitPhases s i).head?

/-- Offset of the `j`-th of `n` phases from the first, taps; an exact half tap upward (R227). -/
def phaseOffset (nsw j n : Nat) : Nat := if n = 0 then 0 else (2 * j * nsw + n) / (2 * n)

/-- Offset of a string's grid: its slot, or sync_phase in SYNC_IN mode (R225, R226), taps. -/
def slotOffset (s : State) (i : Nat) : Nat :=
  if syncMode s i then (2 * syncPhase s i * nSw s i + 65536) / 131072 else (2 * ilSlot s i * nSw s i + 128) / 256

/-- The offset each switching phase is due, with its phase. -/
def dueOffsets (s : State) (i : Nat) : List (Nat × Nat) :=
  let l := splitPhases s i
  l.mapIdx fun j p => (p, phaseOffset (nSw s i) j l.length)

/-! ## Pause, start and stop (R234, R239 to R241) -/

def causeCode : PauseCause → Nat | .headroom => 1 | .desaturation => 2 | .softStart => 3 | .ambiguous => 4

/-- Holds every output of the string low and its converter stopped; a ramp in progress is kept. -/
def stopConverter (s : State) (i : Nat) : State :=
  let s := s.modConv i fun c => { c with running := false, ref := 0, softStart := none, headroomSince := none }
  { s with phase := s.phase.mapIdx fun p (x : Phase) =>
      if p / 4 = i then { x with gatedOff := true, low := 0, high := 0, braking := false } else x }

/-- The string goes on from the end of a ramp: to CONNECTED, or to ISOLATED once its contactors have opened. -/
def rampDone (s : State) (i : Nat) (dest : StrState) : State :=
  let s := gateOffString s i
  match dest with
  | .isolated => openCoils (s.modConv i fun c => { c with rampThen := some .isolated }) i
  | _ => endTransOk (setStr s i .connected 241) i

/-- CONVERTER_PAUSE (R234). A ramp to zero that waited for the current is over, since the current is zero. -/
def enterPause (s : State) (i : Nat) (cause : PauseCause) : State :=
  if (s.strAt i).state != .regulating || (s.convAt i).pause.isSome then s
  else
    let s := stopConverter s i
    let s := s.modConv i fun c => { c with pause := some cause, pauseT := s.clk }
    let s := groupRecord s gCnv srcLe lvInfo 234 i (causeCode cause)
    match (s.convAt i).rampThen with
    | some d => rampDone s i d
    | none => s

/-- CONVERTER_START (R239, R240): below the headroom the string pauses. Otherwise the phases that passed their tests
rejoin, every offset is set, the first duty is 1 − VS / VB, the setpoint 0 and the phase loops' integrators 0; gate-off
releases at each phase's next boundary. In VBUS mode below v_set − 2 % a soft start runs. -/
def startConverter (s : State) (i : Nat) : State :=
  if (s.hvi.vb : Rat) < headroom s i then enterPause s i .headroom
  else
    let s := { s with phase := s.phase.mapIdx fun p (x : Phase) =>
      if p / 4 = i && x.rejoin && !s.suspended (uPhase p) then { x with rejoin := false } else x }
    let d : Int := roundR (nominalDuty s i * 2 ^ 31)
    let s := (dueOffsets s i).foldl (fun s e =>
      s.modPhase e.1 fun x => { x with offset := e.2, newOffset := none, nextDuty := some d, openCount := 0
                                       senseCount := 0, cbcRun := 0 }) s
    let s := (List.range 4).foldl (fun s k => s.modLoop (16 + 4 * i + k) fun x =>
      { x with integ := 0, computed := d }) s
    let soft : Bool := s.le.vbusMode && match reqInForce s with
      | none => false
      | some r => decide ((s.hvi.vb : Rat) < (reqV r : Rat) * 10 * (98 / 100))
    s.modConv i fun c =>
      { c with running := true, startT := s.clk, ref := 0, pause := none, headroomSince := none, armedPeriods := 0
               reinterleave := none, softStart := if soft then some s.clk else none, ssVref := s.hvi.vb.toNat }

def execConverterStart (t : Nat) (i : Nat) (s : State) : Out State :=
  let s := s.advance t
  let c := s.convAt i
  .next (if (s.strAt i).state == .regulating && !c.running && c.pause.isNone && c.rampThen.isNone &&
      !s.clockLost .loop then startConverter s i else s)

/-- The condition of a pause cause holds now; the events of GDB_FLT, SOFT_START_TIMEOUT and PHASE_EVALUATION judge the
other causes themselves. -/
def execConverterPause (t : Nat) (i : Nat) (cause : PauseCause) (s : State) : Out State :=
  let s := s.advance t
  .next (match cause with
    | .headroom => if convRuns s i && decide ((s.hvi.vb : Rat) < headroom s i) then enterPause s i .headroom else s
    | c => if convRuns s i then enterPause s i c else s)

/-- No phase of string `i` is under test. -/
def noneTested (s : State) (i : Nat) : Bool := (List.range 4).all fun k => !s.suspended (uPhase (4 * i + k))

/-- The cause of a pause has ended (*Pause causes*). -/
def pauseOver (s : State) (i : Nat) : Bool :=
  let c := s.convAt i
  match c.pause with
  | none => false
  | some .headroom => heldFor s c.headroomSince (10 * nsMs)
  | some .desaturation => !c.fltLine && (noneTested s i || decide (c.pauseT + 20 * nsMs ≤ s.clk))
  | some .softStart => decide (c.ssUntil ≤ s.clk)
  | some .ambiguous => noneTested s i && decide (2 ≤ (enabledPhases s i).length)

def execPauseEnd (t : Nat) (i : Nat) (s : State) : Out State :=
  let s := s.advance t
  .next (if (s.strAt i).state == .regulating && pauseOver s i then
      let s := s.modConv i fun c => { c with pause := none }
      startConverter (groupRecord s gCnv srcLe lvInfo 234 i 0) i
    else s)

/-- VB has come within 2 % of v_set: the soft start completes and its delay resets (R240). -/
def softStartStep (s : State) (i : Nat) : State :=
  match (s.convAt i).softStart, reqInForce s with
  | some _, some r =>
    if (reqV r : Rat) * 10 * (98 / 100) ≤ (s.hvi.vb : Rat) then s.modConv i fun c => { c with softStart := none, ssRetry := 0 }
    else s
  | _, _ => s

/-- SOFT_START_TIMEOUT (R240): the pause, the record and the doubled delay of at most 600 s. -/
def execSoftStartTimeout (t : Nat) (i : Nat) (s : State) : Out State :=
  let s := s.advance t
  let s := softStartStep s i
  let c := s.convAt i
  .next (match c.softStart, reqInForce s with
    | some t0, some r =>
      let rise : Nat := (reqV r * 10 - c.ssVref) * nsS / (10000 * max 1 (ssRate s i))
      if t0 + rise + ssMargin s i * nsMs ≤ s.clk then
        let delay := if c.ssRetry = 0 then ssRetryS s i else c.ssRetry
        let s := enterPause s i .softStart
        let s := s.modConv i fun c => { c with ssUntil := s.clk + delay * nsS, ssRetry := min 600 (2 * delay) }
        groupRecord s gCnv srcLe lvInfo 240 i delay
      else s
    | _, _ => s)

/-- RAMP_COMPLETE (R241): |I| below i_pc_done, and any tones of the pair down (06_impedance_thermal.md R162). The ramp of
HOLD-UP leaves the converter running at zero current. -/
def execRampComplete (t : Nat) (i : Nat) (s : State) : Out State :=
  let s := s.advance t
  let c := s.convAt i
  .next (if c.rampStop && decide (absI (s.hviAt i).cur < iPcDone s i) && decide (envelope s (pairOf s i) = 0) then
      match c.rampThen with
      | none => s
      | some d => rampDone s i d
    else s)

/-- The shared part of a disconnection that does not wait for a ramp: gate-off, then the contactors (R241, R46). -/
def disconnectNow (s : State) (i : Nat) : State :=
  let s := gateOffString s i
  openCoils (s.modConv i fun c => { c with rampThen := some .isolated }) i

/-! ## Precharge (R235 to R238) -/

/-- COOLING_WAIT_END: stage 2's checks and, when they pass, stage 3's request for coils 1 and 2. A failing fast-trip test
is a detected error of the HVI (03_string_measurement.md R76; log entry 17). -/
def execCoolingWaitEnd (t : Nat) (i : Nat) (fastTripTestPasses : Bool) (s : State) : Out State :=
  let s := s.advance t
  let c := s.convAt i
  .next (if c.stage ≠ 1 ∨ (s.strAt i).state ≠ .precharge ∨ (ePcMax s i : Rat) / 4 < c.e then s
    else if !fastTripTestPasses then detected (prechargeFail s i 1) uHvi 76 i
    else if !((enabledPhases s i).all fun p => (s.gx2At p).ready) then prechargeFail s i 2
    else if rPc s i = 0 then prechargeFail s i 3
    else requestClose (s.modConv i fun c => { c with stage := 3, tPc := none, lowSince := none, peak := 0 }) i 6)

/-- The current criterion of completion: |I| below i_pc_done for 100 ms, and t_pc at least 100 ms. -/
def currentDone (s : State) (i : Nat) : Bool :=
  heldFor s (s.convAt i).lowSince (100 * nsMs) && heldFor s (s.convAt i).tPc (100 * nsMs)

/-- VB is at least 0.9 of VS. -/
def busUp (s : State) (i : Nat) : Bool := decide (9 * (s.hviAt i).vs ≤ 10 * s.hvi.vb)

def execPrechargeComplete (t : Nat) (i : Nat) (s : State) : Out State :=
  let s := s.advance t
  .next (if (s.convAt i).stage = 3 ∧ currentDone s i ∧ busUp s i then
    requestClose (s.modConv i fun c => { c with stage := 4 }) i 15 else s)

/-- PRECHARGE_FAULT (R237): resistor energy, timeout, current or bus voltage. -/
def execPrechargeFault (t : Nat) (i : Nat) (s : State) : Out State :=
  let s := s.advance t
  let c := s.convAt i
  let late : Bool := match c.tPc with | none => false | some t0 => decide (t0 + tPcMax s i * nsMs < s.clk)
  .next (if c.stage = 3 ∧ ((ePcMax s i : Rat) < c.e ∨ late ∨ 2 ≤ c.peak ∨ (currentDone s i ∧ !busUp s i)) then
    haltStr s i 237 else s)

/-- CONNECTED_ENTRY: the main positive contactor is closed and the precharge path confirms open. -/
def execConnectedEntry (t : Nat) (i : Nat) (s : State) : Out State :=
  let s := s.advance t
  let m := s.contAt i
  .next (if (s.convAt i).stage = 4 ∧ m.mirror.getLsbD 0 ∧ !m.energised.getLsbD 2 ∧ !m.mirror.getLsbD 2 then
    endTransOk (setStr (endPrecharge s i) i .connected 25) i else s)

/-! ## Disabling a phase (R251) -/

/-- Gates a phase off and notes when the others take their new offsets: two periods of the first enabled phase later. -/
def dropPhase (s : State) (p : Nat) : State :=
  let i := p / 4
  let s := s.modPhase p fun x => { x with gatedOff := true, low := 0, high := 0, braking := false, estimate := none
                                          implausible := false, openCount := 0, senseCount := 0 }
  if (s.convAt i).running then
    match firstPhase s i with
    | none => s
    | some f => s.modConv i fun c => { c with reinterleave := some ((s.phaseAt f).boundaries + 2) }
  else s

/-- A phase disabled by a detected error of rule `rule`: gated off, under test, and back only at the next start. -/
def faultPhase (s : State) (p rule detail : Nat) : State :=
  if s.retired (uPhase p) then s
  else dropPhase (detected (s.modPhase p fun x => { x with rejoin := true }) (uPhase p) rule detail) p

/-! ## Period boundary (R220 to R223, R261) -/

/-- δ_thr of a peer mean, 10 mA: max(5 A, 40 %). -/
def deltaThr (m : Rat) : Rat := max 500 (absR m * 2 / 5)

/-- Mean of the newest samples of the other enabled phases. -/
def peerMean (s : State) (p : Nat) : Rat :=
  let l := (splitPhases s (p / 4)).filter (· ≠ p)
  if l.isEmpty then 0 else (l.map fun r => ((s.phaseAt r).sample : Rat)).sum / l.length

/-- The phase's outputs may switch at this boundary: its string's converter runs, it is enabled, neither channel's line
nor the fast trip nor the fault line holds it, and LOOP runs (R17, R223, R282; 03_string_measurement.md R74). -/
def released (s : State) (p : Nat) : Bool :=
  let i := p / 4
  convRuns s i && (splitPhases s i).contains p && !(s.saf.sp.at i).gateOff && !(s.saf.sloe.at i).gateOff &&
    !(s.hviAt i).tripLatched && !(s.convAt i).fltLine && !s.clockLost .loop

/-- Length of a pulse, 0 when it would last less than 100 ns. -/
def pulse (n : Int) : Nat := if n < 3200 then 0 else n.toNat

/-- The sample of a filter code, 10 mA. -/
def phaseSample (s : State) (i : Nat) (code : Int) : Int := roundR ((clampI (-4096) 4096 code * (iPhaseFs s i : Int) : Int) / 4096 : Rat)

/-- The duty latched at a boundary of phase `p` (R223, R272): what its loop computed in the period that ends here, unless
that period is late; once the loop has run at this instant, the output it has applied. -/
def latchedDuty (s : State) (p : Nat) : Int :=
  let l := s.loopAt (16 + p)
  let x := s.phaseAt p
  if slotRuns s (16 + p) && !l.busy && l.sampleT != s.tsu.now then l.computed else x.nextDuty.getD x.duty

/-- PERIOD_BOUNDARY of phase `p`: its sample, its duty for the period, and the release of gate-off. -/
def periodBoundary (s : State) (p : Nat) (code : Int) : State :=
  let i := p / 4
  let c := s.convAt i
  let full : Bool := decide (4096 ≤ absI code)
  -- both channels release their line once the latch has released and the converter has been started
  let free : ChanStr → ChanStr := fun x => { x with gateOff := x.gateOff && (x.latch || !c.running) }
  let s := (s.modChanStr .sp i free).modChanStr .sloe i free
  let s := s.modPhase p fun x =>
    { x with sample := phaseSample s i code, sampleT := s.tsu.now, fullScale := if full then x.fullScale + 1 else 0
             boundaries := x.boundaries + 1, offset := x.newOffset.getD x.offset, newOffset := none
             duty := latchedDuty s p, nextDuty := none, brakePeriods := x.brakePeriods + x.braking.toNat }
  let x := s.phaseAt p
  let go := released s p
  let n := nSw s i
  let taps : Nat := ((clampI (dMin s i) (dMax s i) x.duty * (n : Int) + 2 ^ 30) / 2 ^ 31).toNat
  let on : Bool := go && !x.braking
  let s := s.modPhase p fun x =>
    { x with gatedOff := !go, taps := taps, setpoint := roundR (phaseSet s p s.tsu.now * 100)
             low := if on then pulse (taps : Int) else 0
             high := if on then pulse ((n : Int) - (taps : Int) - (getU (cnvCfg s i) 10 2 : Int) -
               (getU (cnvCfg s i) 12 2 : Int)) else 0
             sum := x.sum + x.sample, sums := x.sums + 1, dutySum := x.dutySum + x.duty }
  -- a phase on its estimate: its reading agrees with it
  let s := match x.estimate with
    | none => s
    | some _ =>
      let agree : Bool := decide (absR ((x.sample : Rat) - phaseCurrent s p * 100) ≤ deltaThr (peerMean s p))
      s.modPhase p fun x => { x with agreeSince := track s agree x.agreeSince }
  -- the first phase counts the periods of a shift
  if firstPhase s i = some p then s.modConv i fun c => { c with shiftLeft := c.shiftLeft - 1 } else s

def execPeriodBoundary (t : Nat) (p : Nat) (code : Int) (s : State) : Out State :=
  let s := s.advance t
  .next (if p < s.phases ∧ !s.clockLost .loop ∧ (s.pwr.state = .active ∨ s.pwr.state = .holdup) then
    periodBoundary s p code else s)

/-! ## Phase errors (R220, R224, R247, R248) -/

def execPwmReadbackMismatch (t : Nat) (p : Nat) (s : State) : Out State :=
  let s := s.advance t
  .next (if p < s.phases ∧ legFitted s p then faultPhase s p 224 0 else s)

/-- The limit acted, or did not, in one period; 16 in a row are a detected error. -/
def execCycleByCycleLimit (t : Nat) (p : Nat) (acted : Bool) (s : State) : Out State :=
  let s := s.advance t
  .next (if p < s.phases then
      let s := s.modPhase p fun x => { x with cbcRun := if acted then x.cbcRun + 1 else 0, cbcs := x.cbcs + acted.toNat }
      if (s.phaseAt p).cbcRun = 16 then faultPhase s p 224 1 else s
    else s)

/-- A phase of string `i` other than `p` runs on its estimate. -/
def otherEstimates (s : State) (p : Nat) : Bool :=
  (List.range 4).any fun k => 4 * (p / 4) + k ≠ p && (s.phaseAt (4 * (p / 4) + k)).implausible

/-- An ambiguous phase fault (R250): the string pauses and every phase is tested. -/
def ambiguous (s : State) (i : Nat) : State :=
  (enabledPhases s i).foldl (fun s p => testUnit (s.modPhase p fun x => { x with rejoin := true, implausible := false
                                                                                 estimate := none }) (uPhase p) false)
    (enterPause s i .ambiguous)

/-- The sense of phase `p` is implausible (R247): its test starts, and it goes to its estimate at its next boundary. -/
def senseFault (s : State) (p : Nat) : State :=
  if (s.phaseAt p).implausible || s.retired (uPhase p) then s
  else if otherEstimates s p then ambiguous s (p / 4)
  else detected (s.modPhase p fun x => { x with implausible := true }) (uPhase p) 247 0

/-- PHASE_INPUT_IMPLAUSIBLE (R220): no transition for 1 µs, or full scale on two samples in a row. -/
def execPhaseInputImplausible (t : Nat) (p : Nat) (s : State) : Out State :=
  let s := s.advance t
  .next (if p < s.phases ∧ legFitted s p then senseFault s p else s)

def execEstimateMode (t : Nat) (p : Nat) (s : State) : Out State :=
  let s := s.advance t
  .next (if (s.phaseAt p).implausible && (s.phaseAt p).estimate.isNone then
    s.modPhase p fun x => { x with estimate := some s.clk, agreeSince := none, braking := false } else s)

/-- ESTIMATE_MODE_END (R248): back to its samples once its test has passed and it has agreed for 1 s; at 10 s it is
disabled. -/
def execEstimateModeEnd (t : Nat) (p : Nat) (s : State) : Out State :=
  let s := s.advance t
  let x := s.phaseAt p
  .next (match x.estimate with
    | none => s
    | some t0 =>
      if !s.unitOut (uPhase p) && heldFor s x.agreeSince nsS && decide (s.clk ≤ t0 + 10 * nsS) then
        s.modPhase p fun x => { x with estimate := none, implausible := false, fullScale := 0, agreeSince := none }
      else if t0 + 10 * nsS ≤ s.clk then faultPhase s p 248 0
      else s)

/-! ## Evaluation (R245 to R250) -/

/-- Means of the period: phase samples in 10 mA, duties as fractions, shunt in 10 mA. -/
def meanI (s : State) (p : Nat) : Rat :=
  let x := s.phaseAt p
  if x.sums = 0 then (x.sample : Rat) else (x.sum : Rat) / x.sums
def meanD (s : State) (p : Nat) : Rat :=
  let x := s.phaseAt p
  (if x.sums = 0 then (x.duty : Rat) else (x.dutySum : Rat) / x.sums) / 2 ^ 31
def meanShunt (s : State) (i : Nat) : Rat :=
  let c := s.convAt i
  (if c.shuntSums = 0 then ((s.hviAt i).cur : Rat) else (c.shuntSum : Rat) / c.shuntSums) / 10000

def meanOf (l : List Rat) : Rat := if l.isEmpty then 0 else l.sum / l.length

/-- The residual r, 10 mA. -/
def residual (s : State) (i : Nat) : Rat := meanShunt s i - ((splitPhases s i).map (meanI s)).sum

def residualThr (s : State) (i : Nat) : Rat := max 400 (absR (meanShunt s i) / 20)

def peers (s : State) (p : Nat) : List Nat := (splitPhases s (p / 4)).filter (· ≠ p)
def meanPeers (s : State) (p : Nat) : Rat := meanOf ((peers s p).map (meanI s))

/-- R246 in one period: the deviation, balanced books, and a duty pushed the way that would raise the current. -/
def openNow (s : State) (p : Nat) : Bool :=
  let m := meanPeers s p
  let dd := meanD s p - meanOf ((peers s p).map (meanD s))
  decide (deltaThr m < absR (meanI s p - m)) && decide (absR (residual s (p / 4)) ≤ residualThr s (p / 4)) &&
    (if m < 0 then decide (1 / 20 < dd) else decide (dd < -1 / 20))

/-- The corrected reading of `p` matches its peers while the reading itself does not (R247). -/
def senseCand (s : State) (p : Nat) : Bool :=
  let m := meanPeers s p
  decide (absR (meanI s p + residual s (p / 4) - m) ≤ deltaThr m) && decide (deltaThr m < absR (meanI s p - m))

def senseNow (s : State) (p : Nat) : Bool :=
  decide (residualThr s (p / 4) < absR (residual s (p / 4))) && senseCand s p &&
    (peers s p).all fun r => !senseCand s r

/-- Armed (R245). -/
def evalArmed (s : State) (i : Nat) : Bool :=
  let c := s.convAt i
  let l := splitPhases s i
  decide ((1000 * l.length : Nat) ≤ absR (meanShunt s i)) && (l.all fun p => !(s.phaseAt p).braked && !(s.phaseAt p).braking) &&
    c.pause.isNone && c.shiftLeft == 0 && c.softStart.isNone && decide (2 ≤ c.armedPeriods)

/-- PHASE_EVALUATION of a REGULATING string. Counts restart in a period that is not armed (log entry 18). -/
def phaseEvaluation (s : State) (i : Nat) : State :=
  let l := splitPhases s i
  let armed := evalArmed s i
  let est : Bool := l.any fun p => (s.phaseAt p).implausible
  let r := residual s i
  let opens := l.filter fun p => armed && !est && openNow s p
  let senses := l.filter fun p => armed && senseNow s p
  let s := { s with phase := s.phase.mapIdx fun p (x : Phase) =>
    if p / 4 = i then
      { x with openCount := if opens.contains p then x.openCount + 1 else 0
               senseCount := if senses.contains p then x.senseCount + 1 else 0
               sum := 0, sums := 0, dutySum := 0, braked := x.braking }
    else x }
  let s := s.modConv i fun c => { c with shuntSum := 0, shuntSums := 0, residual := roundR r
                                         armedPeriods := if c.running then c.armedPeriods + 1 else 0 }
  let n := detectN s i
  let openP := l.filter fun p => decide (n ≤ (s.phaseAt p).openCount)
  let senseP := l.filter fun p => decide (n ≤ (s.phaseAt p).senseCount) && !(s.phaseAt p).implausible
  match openP ++ senseP with
  | [] => s
  | [p] => if otherEstimates s p then ambiguous s i else if openP.contains p then faultPhase s p 246 0 else senseFault s p
  | _ => ambiguous s i

def execPhaseEvaluation (t : Nat) (i : Nat) (s : State) : Out State :=
  let s := s.advance t
  .next (if (s.strAt i).state == .regulating then phaseEvaluation s i else s)

/-! ## Interleave and synchronisation (R225 to R228, R251) -/

/-- RE_INTERLEAVE: each phase takes its new offset at its own next boundary. -/
def execReInterleave (t : Nat) (i : Nat) (s : State) : Out State :=
  let s := s.advance t
  .next (match (s.convAt i).reinterleave, firstPhase s i with
    | some n, some f =>
      if n ≤ (s.phaseAt f).boundaries then
        (dueOffsets s i).foldl (fun s e => s.modPhase e.1 fun x => { x with newOffset := some e.2 })
          (s.modConv i fun c => { c with reinterleave := none })
      else s
    | _, _ => s)

/-- Periods a shift between two offsets takes at 1 % of the period each, the shorter way round. -/
def shiftPeriods (n old new : Nat) : Nat :=
  let d := (new + n - old % n) % n
  let m := min d (n - d)
  if n = 0 then 0 else (100 * m + n - 1) / n

def execSlotShift (t : Nat) (i : Nat) (s : State) : Out State :=
  let s := s.advance t
  .next (match (s.convAt i).shift with
    | none => s
    | some (flags, slot, phase, at_) =>
      if s.tsu.now < at_ then s
      else
        let old := slotOffset s i
        let cfg := cnvCfg s i
        let cfg := if flags.testBit 0 then putAt cfg 2 (leU 1 slot) else cfg
        let cfg := if flags.testBit 1 then putAt cfg 8 (leU 2 phase) else cfg
        let s := s.modConv i fun c => { c with cfg := cfg, shift := none }
        s.modConv i fun c => { c with shiftLeft := shiftPeriods (nSw s i) old (slotOffset s i) })

/-- Mean of the last 16 periods of SYNC_IN, ns. -/
def syncMean (c : Conv) : Nat := if c.syncPeriods.isEmpty then 0 else c.syncPeriods.sum / c.syncPeriods.length

/-- SYNC_IN_LOSS (R226): no edge within 1.5 periods, or a period more than 2 % from the mean. -/
def execSyncInLoss (t : Nat) (i : Nat) (s : State) : Out State :=
  let s := s.advance t
  let c := s.convAt i
  let m := syncMean c
  let last := c.syncPeriods.headD 0
  let late : Bool := decide (2 * c.syncEdge + 3 * m ≤ 2 * s.clk)
  let odd : Bool := decide (m < 50 * (max last m - min last m))
  .next (if syncMode s i && !c.syncHoldover && (c.syncPeriods.isEmpty || late || odd) then
    s.modConv i fun c => { c with syncHoldover := true, syncGood := 0 } else s)

/-- SYNC_IN_RELOCK: after 16 good periods, moving under the shift rule. -/
def execSyncInRelock (t : Nat) (i : Nat) (s : State) : Out State :=
  let s := s.advance t
  let c := s.convAt i
  .next (if syncMode s i && c.syncHoldover && decide (16 ≤ c.syncGood) then
    s.modConv i fun c => { c with syncHoldover := false, shiftLeft := 50 } else s)

/-- A rising edge of SYNC_IN, as seen by every string in SYNC_IN mode. In holdover the last good period stands, and only
good periods are counted. -/
def syncEdgeAt (s : State) : State :=
  { s with conv := s.conv.mapIdx fun i (c : Conv) =>
      if !syncMode s i then c
      else
        let d := s.clk - c.syncEdge
        let m := syncMean c
        let good : Bool := decide (4000 ≤ d ∧ d ≤ 50000) && (m == 0 || decide (50 * (max d m - min d m) ≤ m))
        { c with syncEdge := s.clk
                 syncPeriods := if good || !c.syncHoldover then (d :: c.syncPeriods).take 16 else c.syncPeriods
                 syncGood := if good then c.syncGood + 1 else 0 } }

/-! ## Braking (R242, R243) -/

def execBraking (t : Nat) (p : Nat) (s : State) : Out State :=
  let s := s.advance t
  let x := s.phaseAt p
  let above := x.sample - x.setpoint
  let thr : Int := brakeThr s (p / 4)
  let due : Bool := (decide (0 < x.sample ∧ thr < above ∧ 0 ≤ x.setpoint)) ||
    (decide (x.sample < 0 ∧ thr < -above ∧ x.setpoint ≤ 0))
  .next (if p < s.phases ∧ !x.gatedOff ∧ !x.braking ∧ x.estimate.isNone ∧ due then
    s.modPhase p fun x => { x with braking := true, braked := true, brakes := x.brakes + 1, brakePeriods := 0
                                   low := 0, high := 0 } else s)

def execBrakingEnd (t : Nat) (p : Nat) (s : State) : Out State :=
  let s := s.advance t
  let x := s.phaseAt p
  .next (if x.braking ∧ (2 * absI (x.sample - x.setpoint) ≤ brakeThr s (p / 4) ∨ x.sample = 0 ∨
      brakeMax s (p / 4) ≤ x.brakePeriods) then s.modPhase p fun x => { x with braking := false } else s)

/-! ## GX-2 drivers (R244; 11_redundancy.md R334) -/

/-- Codes of the fault history: 1 desaturation, 2 undervoltage, 3 overtemperature, 4 input fault. -/
def gx2Fault (s : State) (p code : Nat) : State := s.modGx2 p fun g => { g with faults := (code :: g.faults).take 16 }

/-- One reply of the poll. -/
def gx2Reply (s : State) (p : Nat) (r : Gx2Reply) : State :=
  if !r.answered then
    let n := (s.gx2At p).unanswered + 1
    let s := s.modGx2 p fun g => { g with unanswered := n, ready := false }
    if n = 3 then detected s (uGdb (p / 4)) 244 p else s
  else if !r.crcOk then detected s (uGdb (p / 4)) 244 p
  else
    let warned := (s.gx2At p).overtempWarn
    let s := s.modGx2 p fun g => { g with unanswered := 0, ready := r.ready, followsUs := r.own, claim := r.claim
                                          overtempWarn := r.overtempWarn }
    let s := s.setRed fun x => { x with stageClaim := max x.stageClaim r.claim }
    let s := if r.overtempWarn && !warned then groupRecord s gCnv srcLe lvWarn 244 p 0 else s
    if s.unitOut (uPhase p) || (s.phaseAt p).disabled then s
    else if r.desat then faultPhase (gx2Fault s p 1) p 244 0
    else if r.undervoltage then faultPhase (gx2Fault s p 2) p 244 0
    else if r.overtemp then faultPhase (gx2Fault s p 3) p 244 0
    else if r.inputFault then faultPhase (gx2Fault s p 4) p 244 0
    else s

/-- GX2_POLL of string `i`. With every GX-2 unanswered three times the bus is lost. -/
def execGx2Poll (t : Nat) (i : Nat) (r : List Gx2Reply) (s : State) : Out State :=
  let s := s.advance t
  .next (if !s.isStr i then s
    else
      let legs := (List.range 4).filter fun k => legFitted s (4 * i + k)
      let s := legs.foldl (fun s k => match r[k]? with | none => s | some x => gx2Reply s (4 * i + k) x) s
      let s := s.modConv i fun c => { c with fltLine := false }
      if legs.all fun k => decide (3 ≤ (s.gx2At (4 * i + k)).unanswered) then retireUnit s (uGdb i) 2 else s)

/-- GDB_FLT: all four phases are gated off in hardware and the string pauses until the status is read. -/
def execGdbFlt (t : Nat) (i : Nat) (s : State) : Out State :=
  let s := s.advance t
  .next (if !s.isStr i then s
    else
      let s := s.modConv i fun c => { c with fltLine := true }
      enterPause { s with phase := s.phase.mapIdx fun p (x : Phase) =>
        if p / 4 = i then { x with gatedOff := true, low := 0, high := 0, braking := false } else x } i .desaturation)

/-- Input loss that outlasts the duty hold is the input fault of *GX-2 faults*. -/
def execDutyHoldExpiry (t : Nat) (p : Nat) (s : State) : Out State :=
  let s := s.advance t
  .next (if p < s.phases ∧ legFitted s p ∧ (s.gx2At p).followsUs ∧ !s.unitOut (uPhase p) then
    faultPhase (gx2Fault s p 4) p 244 0 else s)

/-! ## Commands (R253, R254) -/

/-- The string state a CNV command needs. -/
def cnvState (s : State) (i : Nat) (ok : List StrState) : Option Nat :=
  if ok.contains (s.strAt i).state then none else some (conflictStr s i)

/-- A new configuration; the duty hold of the string's GX-2 follows f_sw (11_redundancy.md R334). -/
def storeCnv (s : State) (p : Bytes) : State :=
  let i := getU p 0 1
  let s := s.modConv i fun c => { c with cfg := p }
  retier ((List.range 4).foldl (fun s k => s.modGx2 (4 * i + k) fun g =>
    { g with dutyHoldNs := 40 * nsUs + 5 * nsS / max 1 (fSw s i) }) s)

def execCnvSetConfig (q : Req) (s : State) : Out State :=
  command
    { op := 0x0701, len := lenIs 64, roles := .as, h := false, pop := popString
      state := fun s q => cnvState s (getU q.payload 0 1) [.isolated, .halted, .retired]
      arg := fun s q => firstBad [badField cnvFields q.payload, cnvCheck q.payload,
        must (admitted (s.modConv (getU q.payload 0 1) fun c => { c with cfg := q.payload })) 4] }
    (fun s q => commit (storeCnv s q.payload) 0x0701 q peerConfig []) q s

def execCnvGetConfig (q : Req) (s : State) : Out State := getI 0x0702 false true false State.strings cnvCfg q s

def slotFields : List Field :=
  [uf 0 1 0 7 0, uf 1 1 0 3 0, uf 2 1 0 127 0, rsv 3 1, rsv 6 2, uf 16 4 0 999999999 0]

/-- The carrier shift that waits for its instant (R229). -/
def storeShift (s : State) (p : Bytes) : State :=
  s.modConv (getU p 0 1) fun c => { c with shift := some (getU p 1 1, getU p 2 1, getU p 4 2, instantAt p 8) }

def execCnvSetSlot (q : Req) (s : State) : Out State :=
  command
    { op := 0x0703, len := lenIs 20, roles := .as, h := false, pop := popString
      arg := fun _ q => badField slotFields q.payload }
    (fun s q => commit (storeShift s q.payload) 0x0703 q peerConfig []) q s

/-- One string: enabled mask, per phase offset, duty, sample, estimate, braking and limit counts, then residual, pause
cause, sync holdover, E and the soft-start delay (log entry 14). -/
def cnvStatus (s : State) (i : Nat) : Bytes :=
  let c := s.convAt i
  let ps := (List.range 4).map (4 * i + ·)
  leU 1 i ++ leU 1 (bitsToNat (ps.map (enabledPhases s i).contains)) ++
    ps.flatMap (fun p =>
      let x := s.phaseAt p
      leU 4 x.offset ++ leS 4 x.duty ++ leS 4 x.sample ++ leB x.estimate.isSome ++ leU 4 x.brakes ++ leU 4 x.cbcs) ++
    leS 4 c.residual ++ leU 1 (match c.pause with | none => 0 | some x => causeCode x) ++ leB c.syncHoldover ++
    leU 4 (roundR (c.e * 1000)).toNat ++ leU 2 c.ssRetry

def execCnvGetStatus (q : Req) (s : State) : Out State := getI 0x0704 false true true State.strings cnvStatus q s

/-- Population and range of a phase field. -/
def popPhase (s : State) (p : Bytes) : Option Nat := must (decide (getU p 0 1 < s.phases ∨ 32 ≤ getU p 0 1)) 0
def argPhase (s : State) (p : Bytes) : Option Nat := must (decide (getU p 0 1 < s.phases) && legFitted s (getU p 0 1)) 0

def phaseEnabled (s : State) (p : Nat) : Bool := (enabledPhases s (p / 4)).contains p

def execCnvPhaseDisable (q : Req) (s : State) : Out State :=
  command
    { op := 0x0705, len := lenIs 1, roles := .as, h := false, pop := popPhase
      state := fun s q =>
        let p := getU q.payload 0 1
        if (s.strAt (p / 4)).state == .regulating && phaseEnabled s p && decide ((enabledPhases s (p / 4)).length < 3) then
          some (conflictObj p) else none
      arg := fun s q => argPhase s q.payload }
    (fun s q =>
      let p := getU q.payload 0 1
      if phaseEnabled s p then
        ok (retier (dropPhase (s.modPhase p fun x => { x with disabled := true }) p)) 0x0705 q []
      else ok s 0x0705 q []) q s

def execCnvPhaseRestore (q : Req) (s : State) : Out State :=
  command
    { op := 0x0706, len := lenIs 1, roles := .as, h := false, pop := popPhase
      state := fun s q => cnvState s (getU q.payload 0 1 / 4) [.isolated, .connected, .halted, .retired]
      arg := fun s q => argPhase s q.payload }
    (fun s q => startRestore s 0x0706 q [uPhase (getU q.payload 0 1)] none) q s

/-- Each GX-2 of a string: ready, overtemperature warning, followed unit, configuration, claim and fault history. -/
def driverInfo (s : State) (i : Nat) : Bytes :=
  ((List.range 4).map (4 * i + ·)).flatMap fun p =>
    let g := s.gx2At p
    leU 1 p ++ leU 1 (bitsToNat [g.ready, g.overtempWarn, g.followsUs, g.configLoaded]) ++ leU 4 g.claim ++
      leU 1 g.unanswered ++ fitTo 16 (g.faults.map (BitVec.ofNat 8))

def execCnvGetDrivers (q : Req) (s : State) : Out State := getI 0x0707 false true true State.strings driverInfo q s

end Sys2Proof.Machine
end

