-- ==== Sys2Proof/Machine/Hvi.lean ====
section
/-! DEFINITION. The HV island: shunt samples and the coulomb integrator, live calibration, voltage channels, the insulation
monitor, fast trips and plausibility (03_string_measurement.md R54 to R82). -/

namespace Sys2Proof.Machine

/-- The HV island samples: it has power and ISO-H runs (R61). -/
def hviRuns (s : State) : Bool :=
  s.pwr.state != .retention && s.pwr.state != .unpowered && !s.clockLost .isoH

/-! ## Shunt samples (R54 to R59, R61) -/

def measMod (h : HviStr) : Modulator := if h.measuring = 0 then h.mod0 else h.mod1
def calMod (h : HviStr) : Modulator := if h.measuring = 0 then h.mod1 else h.mod0

/-- SD number of the measuring and of the calibrating modulator of string `i`. -/
def measSd (s : State) (i : Nat) : Nat := 2 * i + (s.hviAt i).measuring
def calSd (s : State) (i : Nat) : Nat := 2 * i + (1 - (s.hviAt i).measuring)

/-- The calibrated current of a code, µA (R55). -/
def calibrated (rCfg : Nat) (m : Modulator) (code : Int) : Int :=
  roundR (((code : Rat) - m.offset) * m.gain * (100000 / (rCfg : Rat)) * (500000000 / 32768 : Rat))

/-- A code at either end of the range (R57). -/
def codeOver (code : Int) : Bool := decide (code ≤ -32768) || decide (32767 ≤ code)

/-- The sample in the integrator and its counters, units of 0.1 pC. -/
def HviStr.addSample (h : HviStr) (t : Nat) (code : Int) : HviStr :=
  let c := clampI (-32768) 32767 code
  let cur := calibrated h.rCfg (measMod h) c
  let n := if codeOver c then h.overCount + 1 else 0
  let flag := h.overrange || decide (2 ≤ n)
  { h with
    overCount := n, overrange := flag, uncertain := h.uncertain || flag
    prevCur := h.cur, prevT := h.curT, sampled := true
    cur := cur, curT := t, acc := h.acc + cur * 128
    accIn := if 0 < cur then h.accIn + (cur * 128).toNat else h.accIn
    accOut := if cur < 0 then h.accOut + (-cur * 128).toNat else h.accOut }

/-- The current at instant `ta` on the line through the two newest samples, nearest µA (R77). -/
def interpolate (h : HviStr) (ta : Nat) : Int :=
  if h.curT ≤ h.prevT ∨ ta < h.prevT then h.cur
  else roundR ((h.prevCur : Rat) + ((h.cur - h.prevCur : Int) : Rat) * ((ta - h.prevT : Nat) : Rat) / ((h.curT - h.prevT : Nat) : Rat))

/-- Publishes the aligned sample once the sample after the trigger is there (R77). -/
def publishAligned (s : State) (i : Nat) : State :=
  let h := s.hviAt i
  match h.alignAt with
  | none => s
  | some ta =>
    if h.curT < ta then s
    else
      let cur := interpolate h ta
      let tsu (x : Nat) : Nat := s.tsu.now - (s.clk - x)
      s.modHvi i fun h =>
        { h with
          alignAt := none
          aligned := { time := tsu ta, frac := s.tsu.frac, current := cur, v := h.vs, vb := s.hvi.vb
                       seq := (h.aligned.seq + 1) % 2 ^ 32, acc := h.acc, accIn := h.accIn, accOut := h.accOut
                       laterTime := tsu h.curT }
          winSum := h.winSum + cur, winN := h.winN + 1
          recent := (tsu ta, cur) :: h.recent.filter fun e => tsu ta < e.1 + nsS }

/-- The resistor model over one sample: decay, and heating while the path carries the current (08_converter_control.md
R236); what stage 3 of a precharge sees (R235, R237); the sum of the period for the phase evaluation. -/
def convSample (s : State) (i : Nat) : State :=
  let h := s.hviAt i
  let low : Bool := decide (absI h.cur < iPcDone s i)
  let high : Bool := decide (2 * absI h.cur * (rPc s i : Int) > 3 * h.vs * 100000)
  let amps : Rat := (h.cur : Rat) / 1000000
  let heat : Rat := amps * amps * (rPc s i : Rat) / 1000 * (128 / 10000000 : Rat)
  s.modConv i fun c =>
    { c with
      e := (if c.e = 0 then 0 else c.e * Config.expR (-(128 / 10000000 : Rat) / (tauPc s i : Rat))) + (if c.heating then heat else 0)
      lowSince := if c.stage = 3 then track s low c.lowSince else c.lowSince
      peak := if c.stage = 3 then (if high then c.peak + 1 else if 2 ≤ c.peak then c.peak else 0) else c.peak
      shuntSum := c.shuntSum + h.cur, shuntSums := c.shuntSums + 1 }

/-- SHUNT_SAMPLE: the sample's instant is the centre of the filter's window, 19.125 µs before (R54). A fast-trip comparator
reads crossed no longer once a sample lies inside the threshold. -/
def execShuntSample (t : Nat) (i : Nat) (code : Int) (s : State) : Out State :=
  let s := s.advance t
  .next (if !s.isStr i || !hviRuns s || (s.retired (uMod (2 * i)) && s.retired (uMod (2 * i + 1))) then s
    else
      let s := s.modHvi i fun h => h.addSample (s.clk - 19125) code
      let b := s.setB .sloe
      let s := s.modHvi i fun h =>
        { h with chargeCrossed := h.chargeCrossed && decide ((blkU b i 10 2 * 1000000 : Nat) ≤ h.cur)
                 dischargeCrossed := h.dischargeCrossed && decide (h.cur ≤ -((blkU b i 12 2 * 1000000 : Nat) : Int)) }
      let s := publishAligned (convSample s i) i
      ocJudge i (ocJudge i s .sp) .sloe)

/-! ## The integrator checkpoint (R60; 05_cell_estimation.md R147, R148) -/

def checkEntries (s : State) : List CheckEntry :=
  (List.range s.strings).map fun i =>
    let h := s.hviAt i
    { time := s.tsu.now - (s.clk - h.curT), acc := h.acc, accIn := h.accIn, accOut := h.accOut, uncertain := h.uncertain }

/-- The newer valid slot of two. -/
def newerSlot {α : Type} (a b : Slot2 α) : Option (Slot2 α) :=
  if a.valid && b.valid then some (if newer32 b.seq a.seq then b else a)
  else if a.valid then some a else if b.valid then some b else none

/-- Writes every string at one sample instant into the older slot, under R40. -/
def writeCheck (s : State) : State :=
  if energyOk s then
    let h := s.hvi
    let seq := match newerSlot h.check0 h.check1 with | none => 1 | some x => (x.seq + 1) % 2 ^ 32
    let slot : Slot2 (List CheckEntry) := { valid := true, seq := seq, body := checkEntries s }
    let first : Bool := !h.check0.valid || (h.check1.valid && newer32 h.check1.seq h.check0.seq)
    { s with hvi := { h with check0 := if first then slot else h.check0, check1 := if first then h.check1 else slot
                             checkT := s.clk } }
  else deferWrite s wrCheck

def execIntegratorCheckpoint (t : Nat) (s : State) : Out State :=
  let s := s.advance t
  .next (if hostServed s && timeRuns s && !s.asleep && decide (s.hvi.checkT + 3600 * nsS ≤ s.clk) then writeCheck s else s)

/-- BOOT loads the newer valid slot; counters continue with the discontinuity flag set, and the reading carries the time of
the last integrated sample (R59); with neither slot valid a record at error level is written. -/
def loadCheck (s : State) : State :=
  let body := (newerSlot s.hvi.check0 s.hvi.check1).map (·.body)
  let s := (List.range s.strings).foldl (fun s i => s.modHvi i fun h =>
    let e : CheckEntry := match body with | none => {} | some l => l.getD i {}
    { h with acc := e.acc, accIn := e.accIn, accOut := e.accOut, uncertain := e.uncertain, discontinuity := true
             aligned := { time := e.time, acc := e.acc, accIn := e.accIn, accOut := e.accOut }, alignAt := none, sampled := false, recent := [] }) s
  if body.isNone then groupRecord s gStr srcHvi lvErr 60 0 0 else s

/-! ## Live calibration (R62 to R66) -/

/-- The calibrating modulator of string `i` runs its cycle. -/
def calibrates (s : State) (i : Nat) : Bool :=
  s.isStr i && hviRuns s && !(s.hviAt i).single && !s.unitOut (uMod (calSd s i))

/-- End of each averaging window of *Shunt calibration cycle*, ns after t0. -/
def calStepEnd : Nat → Nat
  | 0 => 12 * nsS | 1 => 24 * nsS | 2 => 36 * nsS | _ => 48 * nsS

/-- CALIBRATION_STEP: the average of the window that ends is z1, c⁺, c⁻ and z2 in turn. -/
def execCalibrationStep (t : Nat) (i : Nat) (avg : Rat) (s : State) : Out State :=
  let s := s.advance t
  let h := s.hviAt i
  .next (if calibrates s i && decide (h.calStep < 4) && decide (h.calT0 + calStepEnd h.calStep ≤ s.clk) then
      s.modHvi i fun h =>
        let h := match h.calStep with
          | 0 => { h with z1 := avg } | 1 => { h with cPlus := avg } | 2 => { h with cMinus := avg } | _ => { h with z2 := avg }
        { h with calStep := h.calStep + 1 }
    else s)

def newOffset (h : HviStr) : Rat := (h.z1 + h.z2) / 2
/-- 52,428.8 / (c⁺ − c⁻); 0, which no check accepts, for an empty span. -/
def newGain (h : HviStr) : Rat := if h.cPlus = h.cMinus then 0 else (524288 / 10 : Rat) / (h.cPlus - h.cMinus)

/-- The six checks of *Calibration acceptance*, in order. -/
def calChecks (h : HviStr) (ov : Overlap) : List Bool :=
  let g := newGain h
  let m := calMod h
  [decide (absR (newOffset h) ≤ 130), decide (absR (h.z1 - h.z2) ≤ 33 / 100), decide (99 / 100 ≤ g ∧ g ≤ 101 / 100),
    m.acceptedT == 0 || decide (absR (g - m.gain) ≤ m.gain * 5 / 10000), decide (ov.refPpm ≤ 500),
    decide (absI ov.meanDiff * 1000 ≤ 100000 * 1000 + absI ov.meanCurrent)]

/-- The instant of the swap: 60 s, or the end of the repeated overlap. -/
def swapDue (h : HviStr) : Nat := h.overlapEnd.getD (h.calT0 + 60 * nsS)

def setCalMod (h : HviStr) (m : Modulator) : HviStr := if h.measuring = 0 then { h with mod1 := m } else { h with mod0 := m }

/-- CALIBRATION_SWAP: accepted coefficients take over and the other modulator starts its cycle; a rejection leaves the
measuring one, tests the calibrating one, and retires it at the third in 10 minutes (R63). -/
def execCalibrationSwap (t : Nat) (i : Nat) (ov : Overlap) (s : State) : Out State :=
  let s := s.advance t
  let h := s.hviAt i
  .next (if !calibrates s i || h.calStep ≠ 4 || decide (s.clk < swapDue h) then s
    else
      let checks := calChecks h ov
      let h' := { h with calT0 := s.clk, calStep := 0, overlapEnd := none }
      if checks.all id then
        let m : Modulator := { offset := newOffset h, gain := newGain h, checks := checks, acceptedT := s.clk, rejects := [] }
        s.modHvi i fun _ => { setCalMod h' m with measuring := 1 - h.measuring }
      else
        let u := uMod (calSd s i)
        let m := calMod h
        let rejects := s.clk :: m.rejects.filter fun r => s.clk < r + 600 * nsS
        let s := s.modHvi i fun _ => setCalMod h' { m with checks := checks, rejects := rejects }
        if 3 ≤ rejects.length then retireUnit s u 2 else detected s u 63 0)

/-- OVERLAP_REPEAT (R65). -/
def execOverlapRepeat (t : Nat) (i : Nat) (dI : Int) (s : State) : Out State :=
  let s := s.advance t
  let h := s.hviAt i
  .next (if calibrates s i && h.calStep == 4 && decide (swapDue h ≤ s.clk) && decide (20000000 < absI dI) then
    s.modHvi i fun h => { h with overlapEnd := some (swapDue h + 10 * nsS) } else s)

/-! ## Voltage channels (R67, R68) -/

/-- Since when VB has stood at 2 % above the headroom limit (08_converter_control.md *Pause causes*), and the end of a soft
start. -/
def busWatch (s : State) : State :=
  (List.range s.strings).foldl (fun s i =>
    let up : Bool := decide (headroom s i * (102 / 100) ≤ (s.hvi.vb : Rat))
    softStartStep (s.modConv i fun c => { c with headroomSince := track s up c.headroomSince }) i) s

/-- A discarded odd conversion of a channel; more than 16 in 1 s are a detected error (R68). -/
def noteDiscard (s : State) (ch : Nat) : State :=
  let add (l : List Nat) : List Nat := s.clk :: l.filter fun x => s.clk < x + nsS
  let s :=
    if ch < 8 then s.modHvi ch fun h => { h with discards := add h.discards }
    else if ch = 8 then { s with hvi := { s.hvi with vbDiscards := add s.hvi.vbDiscards } }
    else { s with hvi := { s.hvi with isoDiscards := add s.hvi.isoDiscards } }
  let l := if ch < 8 then (s.hviAt ch).discards else if ch = 8 then s.hvi.vbDiscards else s.hvi.isoDiscards
  if l.length = 17 then detected s (uVolt ch) 68 l.length else s

/-- VOLTAGE_SAMPLE of channel `ch`: 0 to 7 VS, 8 VB, 9 and 10 ISO0 and ISO1. -/
def execVoltageSample (t : Nat) (ch : Nat) (value : Int) (discarded beyond : Bool) (s : State) : Out State :=
  let s := s.advance t
  .next (if !hviRuns s || !(s.isStr ch || decide (8 ≤ ch ∧ ch ≤ 10)) then s
    else
      let s := if discarded then noteDiscard s ch else s
      if s.unitOut (uVolt ch) then s
      else if ch < 8 then busWatch (s.modHvi ch fun h => { h with vs := value, vsT := s.clk, vOver := h.vOver || beyond })
      else if ch = 8 then
        let s := if beyond then { s with hviStr := s.hviStr.map fun (h : HviStr) => { h with vOver := true } } else s
        busWatch { s with hvi := { s.hvi with vb := value, vbT := s.clk } }
      else s)

/-! ## Insulation monitor (R70 to R73) -/

/-- INSULATION_RESULT: from the fourth half-period on, to the warning and to both channels. -/
def execInsulationResult (t : Nat) (rIso cE : Nat) (side : FaultSide) (s : State) : Out State :=
  let s := s.advance t
  let iso := s.hvi.iso
  .next (if !hviRuns s || !iso.injecting || decide (s.clk < iso.startT + 4 * nsS) || s.unitOut (uVolt 9) || s.unitOut (uVolt 10) then s
    else
      let r := if 50000000 < rIso then 0xFFFFFFFF else max 10000 rIso
      let lows := if r < iso.threshold then iso.lows + 1 else 0
      let highs := if 5 * iso.threshold ≤ 4 * r then iso.highs + 1 else 0
      let res : IsoResult := { rIso := r, cE := cE, side := side, belowRange := decide (rIso < 10000), at_ := s.clk }
      let s := { s with hvi := { s.hvi with iso := { iso with
        result := some res, lows := lows, highs := highs, handover := false
        warning := if 3 ≤ lows then true else if 3 ≤ highs then false else iso.warning } } }
      isoToChannels s r)

/-- INJECTION_HANDOVER: the old active unit has stopped; this one starts (R72). -/
def execInjectionHandover (t : Nat) (s : State) : Out State :=
  let s := s.advance t
  let iso := s.hvi.iso
  .next (if iso.handoverWait && s.unit.commands && iso.mode == .inject then
    { s with hvi := { s.hvi with iso := { iso with handoverWait := false, injecting := true, startT := s.clk } } } else s)

/-- What the unit publishes as R_iso (R82). -/
def isoShown (s : State) : Option IsoResult := if s.hvi.iso.mode == .off then none else s.hvi.iso.result

def sideCode : FaultSide → Nat | .undetermined => 0 | .positive => 1 | .negative => 2 | .symmetrical => 3

/-- r_iso and iso_flags. -/
def isoFields (s : State) : Nat × Nat :=
  match isoShown s with
  | none => (0, 32)
  | some r => (r.rIso, s.hvi.iso.warning.toNat + 2 * s.hvi.iso.handover.toNat + 4 * r.belowRange.toNat + 8 * sideCode r.side)

/-! ## Fast trips (R74, R75; 10_safety.md R296) -/

def execFastTrip (t : Nat) (i : Nat) (charge : Bool) (s : State) : Out State :=
  let s := s.advance t
  .next (if !s.isStr i || s.pwr.state == .retention || s.pwr.state == .unpowered then s
    else
      let again := (s.hviAt i).tripLatched
      let s := s.modHvi i fun h => { h with tripLatched := true, tripCount := h.tripCount + 1
                                            chargeCrossed := h.chargeCrossed || charge
                                            dischargeCrossed := h.dischargeCrossed || !charge }
      let s := if again then groupRecord s gStr srcHvi lvInfo 75 i (s.hviAt i).tripCount else s
      let s := { s with phase := s.phase.mapIdx fun p (x : Phase) =>
        if p / 4 = i then { x with gatedOff := true, low := 0, high := 0, braking := false } else x }
      tripBoth s i .oc)

/-! ## Plausibility (R80) -/

/-- The units a check charges: for the first two rows `i` is the modulator, then the string, and 8 stands for VB. -/
def plausUnits (c : HviCheck) (i : Nat) : List Nat :=
  match c with
  | .activity | .density => [uMod i]
  | .agreement | .partnerCurrent => [uMod (2 * i), uMod (2 * i + 1)]
  | .cellSum | .partnerVoltage => [uVolt i]
  | .delivery => [uHvi]

/-- A staleness limit of R78 is exceeded: shunt or VS of string `i` below 8, VB for 8, the insulation result for 9. -/
def deliveryLate (s : State) (i : Nat) : Bool :=
  if i < 8 then decide ((s.hviAt i).curT + 38400 < s.clk) || decide ((s.hviAt i).vsT + nsMs < s.clk)
  else if i = 8 then decide (s.hvi.vbT + nsMs < s.clk)
  else match s.hvi.iso.result with | none => false | some r => s.hvi.iso.injecting && decide (r.at_ + 3 * nsS < s.clk)

/-- A check whose inputs are out is suspended and counted; a failed one is a detected error of each unit. -/
def execHviPlausibilityFailure (t : Nat) (c : HviCheck) (i : Nat) (s : State) : Out State :=
  let s := s.advance t
  let us := plausUnits c i
  let str := match c with | .activity | .density => i / 2 | _ => i
  .next (if !hviRuns s || !(s.isStr str || (i == 8 && c == .partnerVoltage) || (c == .delivery && deliveryLate s i)) then s
    else if us.any s.unitOut || ((c == .partnerVoltage || c == .partnerCurrent) && !s.red.present) then s.modHvi str fun h => { h with suspensions := h.suspensions + 1 }
    else us.foldl (fun s u => detected s u 80 i) s)

/-! ## Commands (R81, R82) -/

/-- Every string of the unit is open, else the state of the first that is not, as detail. -/
def allOpenOr (s : State) : Option Nat :=
  ((List.range s.strings).find? fun i => !([StrState.isolated, .halted, .retired].contains (s.strAt i).state)).map (conflictStr s)

/-- *String measurement record*. -/
def measRecord (s : State) (i : Nat) : Bytes :=
  let h := s.hviAt i
  let a := h.aligned
  let (r, fl) := isoFields s
  leU 8 (a.time / nsS) ++ leU 4 (a.time % nsS) ++ leU 2 a.frac ++ leU 1 i ++
    leU 1 (bitsToNat [h.measuring == 1, h.single, h.overrange, h.uncertain, h.discontinuity, h.tripLatched,
      h.vOver, shuntStale s i]) ++
    leS 4 a.current ++ leS 4 a.v ++ leS 4 a.vb ++ leU 4 a.seq ++ leS 8 (a.acc / 10000) ++ leU 8 (a.accIn / 10 ^ 10) ++
    leU 8 (a.accOut / 10 ^ 10) ++ leU 4 r ++ leU 1 fl ++ [0, 0, 0]

def execStrGetMeas (q : Req) (s : State) : Out State := getI 0x0209 false true true State.strings measRecord q s

def shuntFields : List Field := [uf 0 1 0 7 0, rsv 1 1, rsv 2 2, uf 4 4 90000 110000 100000, uf 8 4 0 100000 0]

def execStrSetShunt (q : Req) (s : State) : Out State :=
  command
    { op := 0x020A, len := lenIs 12, roles := .all, pop := popString
      state := fun s q => cnvState s (getU q.payload 0 1) [.isolated, .halted, .retired]
      arg := fun _ q => badField shuntFields q.payload }
    (fun s q => ok (s.modHvi (getU q.payload 0 1) fun h =>
      { h with rCfg := getU q.payload 4 4, rPath := getU q.payload 8 4 }) 0x020A q []) q s

/-- Both modulators: offset and gain in 2⁻¹⁶, the six checks, the time of acceptance; then the cycle's origin and step
(log entry 14). -/
def calInfo (s : State) (i : Nat) : Bytes :=
  let h := s.hviAt i
  let one (m : Modulator) : Bytes :=
    leS 4 (roundR (m.offset * 65536)) ++ leU 4 (roundR (m.gain * 65536)).toNat ++ leU 1 (bitsToNat m.checks) ++ leU 8 m.acceptedT
  leU 1 i ++ leU 1 h.measuring ++ one h.mod0 ++ one h.mod1 ++ leU 8 h.calT0 ++ leU 1 h.calStep

def execStrGetCal (q : Req) (s : State) : Out State := getI 0x020B false true false State.strings calInfo q s

def isoModeOf : Nat → IsoMode | 0 => .inject | 1 => .off | _ => .test

/-- A new mode and threshold; injection starts at a change to INJECT in a commanding role, or to TEST (R70, R71). -/
def setIso (s : State) (mode : IsoMode) (thr : Nat) : State :=
  let iso := s.hvi.iso
  let on : Bool := match mode with | .inject => s.unit.commands | .off => false | .test => true
  if mode == iso.mode then { s with hvi := { s.hvi with iso := { iso with threshold := thr } } }
  else
    { s with hvi := { s.hvi with iso := { iso with
        mode := mode, threshold := thr, injecting := on, startT := s.clk, handoverWait := false, handover := false
        result := none, lows := 0, highs := 0, warning := false } } }

def execStrSetIso (q : Req) (s : State) : Out State :=
  command
    { op := 0x020C, len := lenIs 8, roles := .all
      state := fun s q =>
        match allOpenOr s with
        | some d => some d
        | none => if getU q.payload 0 1 = 2 ∧ s.red.partnerIdentity.isSome ∧ !s.hvi.iso.partnerOff then some (conflictObj 2) else none
      arg := fun _ q => badField [uf 0 1 0 2 0, rsv 1 1, rsv 2 2, uf 4 4 20000 10000000 400000] q.payload }
    (fun s q => ok (setIso s (isoModeOf (getU q.payload 0 1)) (getU q.payload 4 4)) 0x020C q []) q s

/-- R_iso, its flags, C_e in nF, the mode and the threshold (log entry 14). -/
def isoInfo (s : State) : Bytes :=
  let (r, fl) := isoFields s
  let iso := s.hvi.iso
  leU 4 r ++ leU 1 fl ++ leU 1 (match iso.mode with | .inject => 0 | .off => 1 | .test => 2) ++
    leU 2 (match isoShown s with | none => 0 | some x => x.cE) ++ leU 4 iso.threshold

def execStrGetIso (q : Req) (s : State) : Out State := getNone 0x020D false isoInfo q s

def execStrClearMeasFlags (q : Req) (s : State) : Out State :=
  command
    { op := 0x020E, len := lenIs 4, roles := .all, pop := fun s p => must (getU p 0 1 == 0xFF || decide (getU p 0 1 < s.strings)) 0
      arg := fun s q => argI s.strings false true 0 q.payload
      desc := fun _ q => descAt q 2 0 }
    (fun s q => ok (s.modHvi (getU q.payload 0 1) fun h =>
      { h with overrange := false, overCount := 0, vOver := false, uncertain := false, discontinuity := false }) 0x020E q []) q s

end Sys2Proof.Machine
end

