-- ==== Sys2Proof/Machine/Rack.lean ====
section
/-! DEFINITION. Rack auxiliary power: bus and shelf, rectifiers, power capping and the sixteen e-fuse channels
(12_rack_power.md R351 to R382). -/

namespace Sys2Proof.Machine

/-! ## *Auxiliary bus configuration* (R367) -/

def busFields : List Field :=
  [uf 0 2 4400 5800 5400, uf 2 2 10 300 100, uf 4 2 4000 5400 5000, uf 6 2 4000 4600 4200, uf 8 1 0 15 0, rsv 9 1,
    uf 10 2 50 1000 0, uf 12 4 0 0xFFFFFFFF 0, uf 16 2 10 2000 200, uf 18 2 60 7200 600, uf 20 4 100 40000 3000] ++
  ((List.range 16).flatMap fun r => [uf (24 + 4 * r) 1 0 255 255, uf (25 + 4 * r) 1 0 127 0, uf (26 + 4 * r) 2 0 65535 0]) ++
  ((List.range 4).flatMap fun f => [uf (88 + 8 * f) 1 0 255 255, uf (89 + 8 * f) 1 0 127 0, uf (90 + 8 * f) 1 0 100 0,
    rsv (91 + 8 * f) 1, uf (92 + 8 * f) 2 0 65535 0, rsv (94 + 8 * f) 2])

def busCfg (s : State) : Bytes := orDefault busFields s.rack.cfg
/-- mV, from the fields in 10 mV. -/
def vBusSet (s : State) : Nat := getU (busCfg s) 0 2 * 10
def trimMax (s : State) : Nat := getU (busCfg s) 2 2 * 10
def vAcLoss (s : State) : Nat := getU (busCfg s) 4 2 * 10
def vShelfCut (s : State) : Nat := getU (busCfg s) 6 2 * 10
def busFlag (s : State) (k : Nat) : Bool := getBit (busCfg s) 8 k
def rShelf (s : State) : Nat := getU (busCfg s) 10 2
/-- The shelf's capacity in mA·ms: 0.1 Ah is 360 As. -/
def shelfFull (s : State) : Int := getU (busCfg s) 12 4 * 360000000
/-- mA. -/
def iShelfChg (s : State) : Nat := getU (busCfg s) 16 2 * 100
def tShelfLow (s : State) : Nat := getU (busCfg s) 18 2
def pShelf (s : State) : Nat := getU (busCfg s) 20 4
def rectUsed (s : State) (r : Nat) : Bool := getU (busCfg s) (24 + 4 * r) 1 != 255
def rectSegment (s : State) (r : Nat) : Nat := getU (busCfg s) (24 + 4 * r) 1
/-- W. -/
def rectRated (s : State) (r : Nat) : Nat := getU (busCfg s) (26 + 4 * r) 2 * 10
def fanUsed (s : State) (f : Nat) : Bool := getU (busCfg s) (88 + 8 * f) 1 != 255
def fanFloor (s : State) (f : Nat) : Nat := getU (busCfg s) (90 + 8 * f) 1
def fanFull (s : State) (f : Nat) : Nat := getU (busCfg s) (92 + 8 * f) 2

/-- Offsets of every declared device, with its segment and address. -/
def busDevices (p : Bytes) : List (Nat × Nat × Nat) :=
  (((List.range 16).map fun r => 24 + 4 * r) ++ ((List.range 4).map fun f => 88 + 8 * f)).map
    (fun o => (o, getU p o 1, getU p (o + 1) 1)) |>.filter fun e => e.2.1 ≠ 255

/-- Segments 0, 1 or unused, and no segment and address pair twice. -/
def busCheck (p : Bytes) : Option Nat :=
  let l := busDevices p
  firstBad (l.map fun e => must (decide (e.2.1 ≤ 1) && !(l.any fun x => decide (x.1 < e.1) && x.2 == e.2)) e.1)

/-! ## *E-fuse channel configuration* (R373, R381) -/

def efFields : List Field :=
  [uf 0 1 0 15 0, uf 1 1 0 3 0, uf 2 1 0 255 0, uf 3 1 0 7 0, uf 4 2 10 400 0, uf 6 2 500 10000 0, uf 8 2 3600 5800 4000,
    uf 10 2 4200 6200 6000, uf 12 2 50 2000 500, uf 14 1 4 16 12, uf 15 1 5 250 50, uf 16 2 10 1000 100, uf 18 2 10 1000 200,
    uf 20 2 1 3600 10, uf 22 1 0 15 3, uf 23 1 0 255 255, uf 24 2 10 5000 500, uf 26 2 1 10000 100, uf 28 2 1 5000 200,
    uf 30 2 1 3600 300, sf 32 2 10000 17500 15000, uf 34 1 0 255 255, rsv 35 1, sf 36 2 5000 15000 12500, uf 38 2 1 600 10] ++
  [uf 40 2 105 65535 105, rsv 42 2, uf 44 4 1 3600000 3600000, uf 48 2 105 65535 125, rsv 50 2, uf 52 4 1 3600000 600000,
    uf 56 2 105 65535 150, rsv 58 2, uf 60 4 1 3600000 120000, uf 64 2 105 65535 200, rsv 66 2, uf 68 4 1 3600000 20000,
    uf 72 2 105 65535 300, rsv 74 2, uf 76 4 1 3600000 2000, uf 80 2 105 65535 400, rsv 82 2, uf 84 4 1 3600000 200,
    uf 88 2 105 65535 500, rsv 90 2, uf 92 4 1 3600000 50, uf 96 2 105 65535 600, rsv 98 2, uf 100 4 1 3600000 10]

def efCfg (s : State) (n : Nat) : Bytes :=
  let c := (s.efAt n).cfg
  if c.isEmpty then putAt (defaults efFields) 0 (leU 1 n) else c

def efClass (s : State) (n : Nat) : Nat := getU (efCfg s n) 1 1
def efRank (s : State) (n : Nat) : Nat := getU (efCfg s n) 2 1
def efEnabled (s : State) (n : Nat) : Bool := getBit (efCfg s n) 3 0
def efPresUsed (s : State) (n : Nat) : Bool := getBit (efCfg s n) 3 1
def efSequenced (s : State) (n : Nat) : Bool := getBit (efCfg s n) 3 2
/-- mA. -/
def efRated (s : State) (n : Nat) : Nat := getU (efCfg s n) 4 2 * 100
def efUvOn (s : State) (n : Nat) : Nat := getU (efCfg s n) 8 2 * 10
def efOvOff (s : State) (n : Nat) : Nat := getU (efCfg s n) 10 2 * 10
def efInsert (s : State) (n : Nat) : Nat := getU (efCfg s n) 12 2 * nsMs
def efSoft (s : State) (n : Nat) : Nat := getU (efCfg s n) 16 2 * nsMs
def efRetry (s : State) (n : Nat) : Nat := getU (efCfg s n) 20 2 * nsS
def efRetries (s : State) (n : Nat) : Nat := getU (efCfg s n) 22 1
def efDiode (s : State) (n : Nat) : Nat := getU (efCfg s n) 23 1
def efAmb (s : State) (n : Nat) : Nat := getU (efCfg s n) 34 1
def efTjMax (s : State) (n : Nat) : Int := getS (efCfg s n) 32 2
def efTcMax (s : State) (n : Nat) : Int := getS (efCfg s n) 36 2
/-- Point `k` of the curve: 0.01 × i_rated and ms. -/
def curveAt (p : Bytes) (k : Nat) : Nat × Nat := (getU p (40 + 8 * k) 2, getU p (44 + 8 * k) 4)

/-- TI input `n` is of class 5 and serves e-fuse channel `ch`. -/
def servesEf (s : State) (n ch : Nat) : Bool :=
  let c := (s.tiAt n).cfg
  decide (n < 24) && getU c 1 1 != 0 && getU c 2 1 == 5 && getU c 3 1 == ch

/-- R381's checks beyond the ranges: window, curve order and reach, diode, ambient input. -/
def efCheck (s : State) (p : Bytes) : Option Nat :=
  firstBad ([must (decide (getU p 8 2 + 200 ≤ getU p 10 2)) 10,
      must (getU p 23 1 == 255 || servesEf s (getU p 23 1) (getU p 0 1)) 23,
      must (getU p 34 1 == 255 || decide (getU p 34 1 < 24)) 34] ++
    ((List.range 8).map fun k => must (decide ((curveAt p k).1 ≤ 50 * getU p 14 1)) (40 + 8 * k)) ++
    (List.range 7).flatMap fun k =>
      [must (decide ((curveAt p k).1 < (curveAt p (k + 1)).1)) (48 + 8 * k),
        must (decide ((curveAt p (k + 1)).2 < (curveAt p k).2)) (52 + 8 * k)])

/-! ## Bus and shelf (R351, R358, R359) -/

/-- The mean discharge current of the last 60 s, mA. -/
def meanDischarge (s : State) : Nat := if s.rack.disch.isEmpty then 0 else s.rack.disch.sum / s.rack.disch.length

/-- Remaining time in s, published while the shelf discharges at more than 1 A (R358). -/
def remaining (s : State) : Option Nat :=
  if s.rack.iShelf < -1000 ∧ meanDischarge s ≠ 0 then some (s.rack.shelf.toNat / (1000 * meanDischarge s)) else none

/-- AUX runs: the command set's processor does, and this is not DORMANT (R380). -/
def auxRuns (s : State) : Bool := hostServed s && !s.asleep && s.pwr.state != .retention && s.pwr.state != .unpowered

/-- AUX_SAMPLE: AUX_VSNS in mV, the shelf shunt in µV and AC_OK. -/
def execAuxSample (t : Nat) (vsns : Nat) (shelfUv : Int) (acOk : Bool) (s : State) : Out State :=
  let s := s.advance t
  .next (if !auxRuns s then s
    else
      let fitted := busFlag s 0
      let i : Int := if fitted ∧ rShelf s ≠ 0 then clampI (-100000) 100000 shelfUv * 1000 / (rShelf s : Int) else 0
      let slow : Bool := fitted && decide (0 ≤ i ∧ i * 360000000 < shelfFull s) &&
        decide (vBusSet s ≤ vsns + 200 ∧ vsns ≤ vBusSet s + 200)
      let acLow : Bool := busFlag s 1 && !acOk
      let vLow : Bool := decide (vsns < vAcLoss s) && decide (i < -2000)
      s.setRack fun r =>
        { r with
          vBus := vsns, vSum := r.vSum + vsns, vCount := r.vCount + 1, iShelf := i
          shelf := if fitted then clampI 0 (shelfFull s) (r.shelf + i) else 0
          disch := ((-i).toNat :: r.disch).take 60000
          slowSince := track s slow r.slowSince
          acOkLowSince := track s acLow r.acOkLowSince, lowVSince := track s vLow r.lowVSince
          noLossSince := track s (!acLow && !vLow && !r.inputFault) r.noLossSince })

def execShelfFull (t : Nat) (s : State) : Out State :=
  let s := s.advance t
  .next (if busFlag s 0 && heldFor s s.rack.slowSince (3600 * nsS) then s.setRack fun r => { r with shelf := shelfFull s } else s)

/-! ## Rectifiers (R353 to R357) -/

/-- The readings show a good rectifier (R354): STATUS_WORD without OFF, VOUT, IOUT, INPUT, TEMPERATURE and CML (log entry
19), READ_VOUT within 2 V of its setpoint. -/
def readingGood (s : State) (k : Nat) (x : RectReading) : Bool :=
  let c := (s.rack.rect.getD k {}).commanded
  let set := if c = 0 then vBusSet s else c
  x.answered && x.voutModeOk && x.statusWord &&& 0xE07E == 0 && decide (x.vout ≤ set + 2000 ∧ set ≤ x.vout + 2000)

/-- STATUS_INPUT shows an input fault or an input undervoltage (R359; log entry 19). -/
def acInputBad (x : RectReading) : Bool := x.answered && x.statusInput &&& 0xBC != 0

def declaredRects (s : State) : List Nat := (List.range 16).filter (rectUsed s)
/-- Good rectifiers that share the load. -/
def sharing (s : State) : List Nat :=
  (declaredRects s).filter fun k => (s.rack.rect.getD k {}).good && !(s.rack.rect.getD k {}).lost

def modRect (s : State) (k : Nat) (f : Rect → Rect) : State := s.setRack fun r => { r with rect := r.rect.modify k f }

/-- One reply: goodness, misses and loss (R356); a refused VOUT_MODE is recorded (R353). -/
def rectReply (s : State) (k : Nat) (x : RectReading) : State :=
  let old := s.rack.rect.getD k {}
  let g := readingGood s k x
  let misses := if x.answered then 0 else old.misses + 1
  let good := if x.answered then g else old.good && decide (misses < 3)
  let lost : Bool := old.lost || (old.good && !good)
  let s := modRect s k fun r => { r with
    misses := misses, good := good, lost := lost, reading := if x.answered then some x else r.reading
    goodSince := track s (good && x.answered) r.goodSince }
  let s := if x.answered && !x.voutModeOk then groupRecord s gAux srcAux lvInfo 353 k 0 else s
  if lost && !old.lost then groupRecord s gAux srcAux lvWarn 356 k 0 else s

/-- Trims and VOUT_COMMANDs of one poll (R355, R361). -/
def shareLoad (s : State) (replies : List RectReading) : State :=
  let l := sharing s
  let cur (k : Nat) : Int := match (s.rack.rect.getD k {}).reading with | none => 0 | some x => x.iout
  let iTot := (l.map cur).sum
  let rated := (l.map (rectRated s)).sum
  let fitted := busFlag s 0
  let m : Int := trimMax s
  let trimC : Int :=
    if !fitted || s.rack.acLoss then s.rack.trimC
    else if (iShelfChg s : Int) < s.rack.iShelf then max (-m) (s.rack.trimC - 20)
    else if 10 * s.rack.iShelf < 9 * (iShelfChg s : Int) then min 0 (s.rack.trimC + 20)
    else s.rack.trimC
  let s := s.setRack fun r => { r with trimC := trimC, iTot := iTot }
  l.foldl (fun s k =>
    let target : Rat := if rated = 0 then 0 else (iTot : Rat) * (rectRated s k : Rat) / (rated : Rat)
    let step := clampR (-20) 20 ((target - (cur k : Rat)) / 100)
    let acked : Bool := match replies[k]? with | none => false | some x => x.writeAcked
    modRect s k fun r =>
      let trim := clampR (-(m : Rat)) (m : Rat) (r.trim + step)
      { r with trim := trim
               commanded := if acked then (roundR ((vBusSet s : Rat) + trim + (trimC : Rat))).toNat else r.commanded }) s

/-- PMBUS_POLL: only the unit in the ACTIVE role or SOLO transacts (R352). -/
def execPmbusPoll (t : Nat) (r : List RectReading) (s : State) : Out State :=
  let s := s.advance t
  .next (if !auxRuns s || !s.unit.commands then s
    else
      let d := declaredRects s
      let s := d.foldl (fun s k => match r[k]? with | none => s | some x => rectReply s k x) s
      let bad := (d.filter fun k => match (s.rack.rect.getD k {}).reading with | none => false | some x => acInputBad x).length
      let s := s.setRack fun x => { x with inputFault := decide (d.length < 2 * bad) }
      let s := shareLoad s r
      s.setRack fun x =>
        let v := if x.vCount = 0 then x.vBus else x.vSum / x.vCount
        { x with vMean := v, vSum := 0, vCount := 0
                 pAux := (((v : Int) * (x.iTot + max 0 (-x.iShelf))) / 1000).toNat })

/-- PMBUS_ALERT: STATUS_WORD of every rectifier on the segment is read (R353). -/
def execPmbusAlert (t : Nat) (segment : Nat) (words : List (Nat × BitVec 16)) (s : State) : Out State :=
  let s := s.advance t
  .next (if !auxRuns s || !s.unit.commands then s
    else words.foldl (fun s e =>
      if rectUsed s e.1 && rectSegment s e.1 == segment then
        match (s.rack.rect.getD e.1 {}).reading with
        | none => s
        | some x => rectReply s e.1 { x with statusWord := e.2, answered := true }
      else s) (s.setRack fun r => { r with alerts := r.alerts + 1 }))

def execRectifierRejoin (t : Nat) (r : Nat) (s : State) : Out State :=
  let s := s.advance t
  let x := s.rack.rect.getD r {}
  .next (if x.lost && x.good && heldFor s x.goodSince (10 * nsS) then modRect s r fun x => { x with lost := false, trim := 0 } else s)

/-! ## Capping (R362 to R366) -/

/-- The cap in W and its source: 0 none, 1 commanded, 2 rectifiers, 3 shelf. -/
def capOf (s : State) : Option Nat × Nat :=
  let cmd := if s.rack.cmdCap = 0 then [] else [(s.rack.cmdCap, 1)]
  let rect := if s.rack.acLoss || (declaredRects s).isEmpty then [] else [(((sharing s).map (rectRated s)).sum * 9 / 10, 2)]
  let shelf := if s.rack.acLoss then [(pShelf s, 3)] else []
  (cmd ++ rect ++ shelf).foldl (fun (a : Option Nat × Nat) (e : Nat × Nat) =>
    match a.1 with
    | none => (some e.1, e.2)
    | some c => if e.1 < c then (some e.1, e.2) else a) (none, 0)

/-- The planner's estimate of drawn shuttle power, mW (R363). -/
def pBal (s : State) : Nat :=
  ((s.bal.take s.strings).map fun b => ((b.shuttles.filter fun x => !x.outOfCell).map (·.power)).sum).sum

/-- A channel's power, W. -/
def efPower (s : State) (n : Nat) : Nat := ((s.rack.vBus : Int) * (s.efAt n).reading.i / 1000000).toNat

def efRunning (s : State) (n : Nat) : Bool :=
  match (s.efAt n).state with | .qualify | .ramp | .on => true | _ => false

/-- The channel of class `c` the cap would switch off next: lowest shed_rank, then lowest number. -/
def nextShed (s : State) (c : Nat) : Option Nat :=
  (List.range 16).foldl (fun (a : Option Nat) n =>
    if efClass s n == c && efRunning s n && !(s.efAt n).shed then
      match a with
      | none => some n
      | some m => if efRank s n < efRank s m then some n else a
    else a) none

/-- Channel `n` is switched off by the cap: OFF with the shed mark (R364). -/
def shedCh (s : State) (kind n : Nat) : State :=
  let p := efPower s n
  let s := s.modEf n fun e =>
    { e with shed := true, pgood := false, insertSince := none
             state := match e.state with | .qualify | .ramp | .on => .off | x => x }
  s.setRack fun r => { r with shed := { kind := kind, ch := n, power := p } :: r.shed }

/-- Every channel of class `c` is shed. -/
def shedClass (s : State) (kind c : Nat) : State :=
  (List.range 16).foldl (fun s n => if efClass s n == c && efRunning s n && !(s.efAt n).shed then shedCh s kind n else s) s

/-- A tray stands above its floor. -/
def fanCanFall (s : State) : Bool := (List.range 4).any fun f => fanUsed s f && decide (fanFloor s f < s.rack.fanNow.getD f 0)

/-- Every tray falls by 10 points, not below its floor. -/
def shedFans (s : State) : State :=
  let p := ((List.range 4).map fun f => if fanUsed s f then fanFull s f / 10 else 0).sum
  s.setRack fun r =>
    { r with fanNow := r.fanNow.mapIdx fun f d => if fanUsed s f then max (fanFloor s f) (d - 10) else d
             shed := { kind := 1, ch := 0, power := p } :: r.shed }

/-- P_aux has stayed low enough for the newest step to come back (R365). -/
def restorable (s : State) : Bool :=
  match s.rack.shed, (capOf s).1 with
  | [], _ => false
  | x :: _, some c => decide (10 * (s.rack.pAux + 1000 * x.power) ≤ 9 * 1000 * c)
  | _ :: _, none => true

/-- CAP_EVALUATION: the allowances, then at most one shed step. -/
def execCapEvaluation (t : Nat) (s : State) : Out State :=
  let s := s.advance t
  .next (if !auxRuns s || !s.unit.commands then s
    else
      let cap := (capOf s).1
      let draw : Option Nat :=
        if s.rack.acLoss then some 0
        else cap.map fun c => (((95 * 10 * c : Nat) : Int) - ((s.rack.pAux : Int) - (pBal s : Int))).toNat / 1000
      let ret := if s.rack.vBus ≤ vBusSet s + 500 then s.rack.pRet else 0
      let s := s.setDsp fun d => { d with drawAllow := draw, returnAllow := ret }
      let above : Bool := match cap with | none => false | some c => decide (1000 * c < s.rack.pAux)
      let s := s.setRack fun r => { r with cap := cap, restoreSince := track s (restorable s) r.restoreSince }
      if !above then s.setRack fun r => { r with capUnmet := false }
      else
        match nextShed s 1 with
        | some n => shedCh s 0 n
        | none =>
          if fanCanFall s then shedFans s
          else
            match nextShed s 3 with
            | some n => shedCh s 2 n
            | none =>
              if s.rack.capUnmet then s
              else icuPrivate (groupRecord (s.setRack fun r => { r with capUnmet := true }) gAux srcAux lvWarn 366 0 0) .host 5)

/-- No channel starts in SAFE-HOLD or RECOVERY except a sequenced one (R380). -/
def efMayStart (s : State) (n : Nat) : Bool := (s.unit != .safeHold && s.unit != .recovery) || efSequenced s n

/-- OFF to QUALIFY where the channel is enabled, commanded on and not shed (R369). -/
def efStart (s : State) (n : Nat) : State :=
  let e := s.efAt n
  if e.state == .off && efEnabled s n && e.commanded && !e.shed && !e.retired && efMayStart s n then
    s.modEf n fun e => { e with state := .qualify, insertSince := none }
  else s

/-- SHED_RESTORE: the newest step comes back (R365). -/
def execShedRestore (t : Nat) (s : State) : Out State :=
  let s := s.advance t
  .next (match s.rack.shed with
    | [] => s
    | x :: rest =>
      if s.rack.acLoss || !restorable s || !heldFor s s.rack.restoreSince (10 * nsS) then s
      else
        let s := s.setRack fun r => { r with shed := rest, restoreSince := none }
        if x.kind = 1 then
          let duty (r : Rack) (f : Nat) : Nat := min (r.fanCmd.getD f 0) (r.fanNow.getD f 0 + 10)
          s.setRack fun r => { r with fanNow := (List.range 4).map (duty r) }
        else efStart (s.modEf x.ch fun e => { e with shed := false }) x.ch)

/-! ## Loss and return of AC (R359 to R361) -/

def acSources (s : State) : State := icuPrivate (icuPrivate s .host 4) .app 4

def execAcLoss (t : Nat) (s : State) : Out State :=
  let s := s.advance t
  let r := s.rack
  .next (if auxRuns s && !r.acLoss &&
      (heldFor s r.acOkLowSince (20 * nsMs) || r.inputFault || heldFor s r.lowVSince (20 * nsMs)) then
      let s := groupRecord (s.setRack fun r => { r with acLoss := true }) gAux srcAux lvInfo 360 0 1
      let s := s.setRack fun r => { r with cap := (capOf s).1 }
      shedClass ((acSources s).setDsp fun d => { d with drawAllow := some 0 }) 0 1
    else s)

def execAcReturn (t : Nat) (s : State) : Out State :=
  let s := s.advance t
  .next (if auxRuns s && s.rack.acLoss && heldFor s s.rack.noLossSince (5 * nsS) && !(sharing s).isEmpty then
      let s := s.setRack fun r => { r with acLoss := false, shelfLow := false, shelfCut := false, restoreSince := none }
      acSources (s.setRack fun r => { r with cap := (capOf s).1 })
    else s)

def execShelfLow (t : Nat) (s : State) : Out State :=
  let s := s.advance t
  .next (if auxRuns s && s.rack.acLoss && !s.rack.shelfLow &&
      (match remaining s with | none => false | some x => decide (x ≤ tShelfLow s)) then
      let s := s.setRack fun r => { r with shelfLow := true }
      let s := (List.range 10).foldl (fun s _ => if fanCanFall s then shedFans s else s) s
      shedClass s 2 3
    else s)

def execShelfCut (t : Nat) (s : State) : Out State :=
  let s := s.advance t
  .next (if auxRuns s && s.rack.acLoss && !s.rack.shelfCut && decide (s.rack.vBus < vShelfCut s) then
      shedClass (groupRecord (s.setRack fun r => { r with shelfCut := true }) gAux srcAux lvWarn 360 0 s.rack.vBus) 2 3
    else s)

/-! ## E-fuse channels (R368 to R380) -/

/-- The EFC has power (R380). -/
def efcRuns (s : State) : Bool := s.pwr.state != .retention && s.pwr.state != .unpowered && s.unit != .off

/-- This unit drives the gates: it does not hold the lower claim (R380; 11_redundancy.md R336). -/
def steers (s : State) : Bool := s.unit != .standby && s.unit != .resync

def efGateOn (e : Ef) : Bool := e.state == .ramp || e.state == .on

/-- A fault of a channel in RAMP or ON (R377). On the unit with the lower claim only a fast trip acts. -/
def efFault (s : State) (n : Nat) (f : EfFault) : State :=
  let e := s.efAt n
  if !efGateOn e then s
  else
    let k := e.faults + 1
    let code : Nat := match f with | .fastTrip => 0 | .curve => 1 | .stress => 2 | .softStart => 3 | .diode => 4 | .gate => 5
    let s := groupRecord (s.modEf n fun e => { e with faults := k }) gAux srcEfc lvInfo 377 n code
    if !steers s && f != .fastTrip then s
    else s.modEf n fun e =>
      { e with pgood := false, pgSince := none, gfSince := none
               state := if k ≤ efRetries s n then .retry else .latched, retryEnd := s.clk + efRetry s n }

/-- t_trip of a current in 0.01 × i_rated, ms, on the curve (R373). -/
def tripTime (p : Bytes) (x : Rat) : Rat :=
  let (x7, t7) := curveAt p 7
  if (x7 : Rat) ≤ x then (t7 : Rat)
  else
    match (List.range 7).find? fun k => decide (((curveAt p k).1 : Rat) ≤ x) && decide (x < ((curveAt p (k + 1)).1 : Rat)) with
    | none => (t7 : Rat)
    | some k =>
      let (a, ta) := curveAt p k
      let (b, tb) := curveAt p (k + 1)
      (ta : Rat) + ((tb : Rat) - (ta : Rat)) * (x - (a : Rat)) / ((b : Rat) - (a : Rat))

/-- The accumulator over one 50 µs sample. -/
def curveStep (p : Bytes) (e : Ef) (i rated : Int) : Rat :=
  let x : Rat := if rated = 0 then 0 else (i : Rat) * 100 / (rated : Rat)
  if efGateOn e && decide (((curveAt p 0).1 : Rat) ≤ x) then e.acc + 1 / (20 * tripTime p x)
  else max 0 (e.acc - 1 / (20000 * (getU p 38 2 : Rat)))

/-- Junction rise, case temperature and stress over one sample (R374), temperatures in 0.01 K and 0.01 °C. -/
def thermalStep (s : State) (n : Nat) (e : Ef) (v : EfReading) : Rat × Rat × Rat :=
  let p := efCfg s n
  let pw : Rat := ((v.vds * v.i : Int) : Rat) / 1000000
  let dTj := e.dTj + (pw * (getU p 24 2 : Rat) / 10 - e.dTj) / (2 * (getU p 26 2 : Rat))
  let amb : Rat := if efAmb s n = 255 then 7000 else ((s.tiAt (efAmb s n)).value : Rat)
  let tc : Rat :=
    if efDiode s n = 255 then e.tCase + (amb + pw * (getU p 28 2 : Rat) - e.tCase) / (20000 * (getU p 30 2 : Rat))
    else ((s.tiAt (efDiode s n)).value : Rat)
  let tj : Rat := efTjMax s n
  (dTj, tc, if tj ≤ tc then 1 else dTj / (tj - tc))

/-- V_bus lies in the window: after an exit by 1 V inside the upper bound (R370). -/
def inEfWindow (s : State) (n : Nat) (e : Ef) : Bool :=
  decide (efUvOn s n ≤ s.rack.vBus) && decide (s.rack.vBus + (if e.needRegain then 1000 else 0) ≤ efOvOff s n)

/-- EFUSE_SAMPLE: models, conditions and the trips they make. A fault comes before every other change (R379). -/
def execEfuseSample (t : Nat) (n : Nat) (v : EfReading) (s : State) : Out State :=
  let s := s.advance t
  .next (if !efcRuns s || 16 ≤ n then s
    else
      let p := efCfg s n
      let e := s.efAt n
      let (dTj, tc, stress) := thermalStep s n e v
      let pres : Bool := !efPresUsed s n || v.presentLow
      let win := inEfWindow s n e
      let s := s.modEf n fun e => { e with
        reading := v, acc := curveStep p e v.i (efRated s n), dTj := dTj, tCase := tc, stress := stress
        needRegain := e.needRegain && !win
        insertSince := track s (e.state == .qualify && win && pres) e.insertSince
        presSince := track s (!pres) e.presSince
        lowSince := track s (decide (s.rack.vBus + 1000 < efUvOn s n)) e.lowSince
        highSince := track s (decide (efOvOff s n < s.rack.vBus)) e.highSince
        pgSince := track s (e.state == .ramp && decide (10000 < v.vgs) && decide (v.vds < 200)) e.pgSince
        gfSince := track s (e.state == .on && (decide (v.vgs < 9000) || decide (300 < v.vds))) e.gfSince }
      let e := s.efAt n
      if efGateOn e && decide (1 ≤ e.acc) then efFault s n .curve
      else if efGateOn e && decide (1 ≤ stress) then efFault s n .stress
      else
        let s := if !efGateOn e && decide ((efRated s n : Int) < 20 * absI v.i) && !s.unitOut (uEf n) then detected s (uEf n) 498 n else s
        efStart s n)

/-- The diode level of the channel stands asserted (R375). -/
def diodeHot (s : State) (n : Nat) : Bool :=
  (List.range 24).any fun k => servesEf s k n && (s.tiAt k).ef.asserted

def execInsertionDelayEnd (t : Nat) (n : Nat) (s : State) : Out State :=
  let s := s.advance t
  let e := s.efAt n
  .next (if e.state == .qualify && heldFor s e.insertSince (efInsert s n) && !diodeHot s n && efMayStart s n then
    s.modEf n fun e => { e with state := .ramp, rampT := s.clk, pgSince := none, gfSince := none } else s)

def execWindowExit (t : Nat) (n : Nat) (s : State) : Out State :=
  let s := s.advance t
  let e := s.efAt n
  let left : Bool := heldFor s e.lowSince nsMs || heldFor s e.highSince (10 * nsUs)
  let gone : Bool := heldFor s e.presSince (10 * nsMs)
  .next (if efGateOn e && (left || gone) then
    s.modEf n fun e => { e with state := .qualify, pgood := false, insertSince := none, needRegain := e.needRegain || left }
    else s)

def execEfuseFastTrip (t : Nat) (n : Nat) (s : State) : Out State :=
  let s := s.advance t
  .next (if efcRuns s then efFault s n .fastTrip else s)

/-- t_ss has run out in RAMP. -/
def softExpired (s : State) (n : Nat) : Bool :=
  (s.efAt n).state == .ramp && decide ((s.efAt n).rampT + efSoft s n ≤ s.clk)

def execSoftStartExpiry (t : Nat) (n : Nat) (s : State) : Out State :=
  let s := s.advance t
  .next (if softExpired s n then efFault s n .softStart else s)

def execPowerGood (t : Nat) (n : Nat) (s : State) : Out State :=
  let s := s.advance t
  let e := s.efAt n
  .next (if e.state == .ramp && heldFor s e.pgSince nsMs then
    s.modEf n fun e => { e with state := .on, pgood := true, onSince := s.clk, gfSince := none } else s)

/-- VGS low or VDS high in ON for 1 ms: power-good is withdrawn, and the fault is a detected error of the channel. -/
def gateFault (s : State) (n : Nat) : State :=
  if (s.efAt n).state == .on && heldFor s (s.efAt n).gfSince nsMs then
    detected (efFault (s.modEf n fun e => { e with pgood := false, gfSince := none }) n .gate) (uEf n) 376 n
  else s

def execGateFault (t : Nat) (n : Nat) (s : State) : Out State := .next (gateFault (s.advance t) n)

/-- EFUSE_FAULT: the fault named, where its condition holds. -/
def execEfuseFault (t : Nat) (n : Nat) (f : EfFault) (s : State) : Out State :=
  let s := s.advance t
  let e := s.efAt n
  .next (if !efcRuns s then s
    else match f with
      | .fastTrip => efFault s n .fastTrip
      | .curve => if 1 ≤ e.acc then efFault s n .curve else s
      | .stress => if 1 ≤ e.stress then efFault s n .stress else s
      | .softStart => if softExpired s n then efFault s n .softStart else s
      | .diode => if diodeHot s n then efFault s n .diode else s
      | .gate => gateFault s n)

def execRetryTimerExpiry (t : Nat) (n : Nat) (s : State) : Out State :=
  let s := s.advance t
  let e := s.efAt n
  .next (if e.state == .retry && decide (e.retryEnd ≤ s.clk) then
    efStart (s.modEf n fun e => { e with state := .off, insertSince := none }) n else s)

def execFaultCountClear (t : Nat) (n : Nat) (s : State) : Out State :=
  let s := s.advance t
  .next (if (s.efAt n).state == .on && decide ((s.efAt n).onSince + 60 * nsS ≤ s.clk) then
    s.modEf n fun e => { e with faults := 0 } else s)

/-! ## Commands (R382) -/

def execAuxSetBus (q : Req) (s : State) : Out State :=
  setR 0x0B01 120 busFields (fun _ _ => none) (fun _ p => busCheck p) (fun s p => s.setRack fun r => { r with cfg := p }) q s

def execAuxGetBus (q : Req) (s : State) : Out State := getNone 0x0B02 false busCfg q s

def execAuxSetCap (q : Req) (s : State) : Out State :=
  setR 0x0B03 8 [uf 0 4 0 40000 0, uf 4 4 0 4000 1500] (fun _ _ => none) (fun _ _ => none)
    (fun s p => s.setRack fun r => { r with cmdCap := getU p 0 4, pRet := getU p 4 4 }) q s

/-- The fan duty commanded; with no fan step in force the tray takes it at once (R365). -/
def setFan (s : State) (f d : Nat) : State :=
  s.setRack fun r =>
    let free := !(r.shed.any fun x => x.kind == 1)
    { r with fanCmd := r.fanCmd.set f d
             fanNow := if free then r.fanNow.set f d else r.fanNow.modify f fun x => min x d }

def execAuxSetFan (q : Req) (s : State) : Out State :=
  setR 0x0B04 2 [uf 0 1 0 3 0, uf 1 1 0 100 100] (fun _ _ => none) (fun _ _ => none)
    (fun s p => setFan s (getU p 0 1) (getU p 1 1)) q s

/-- In the order of *AUX commands* (log entry 14). -/
def auxStatus (s : State) : Bytes :=
  let r := s.rack
  let (cap, src) := capOf s
  leU 4 r.vMean ++ leU 4 (r.pAux / 1000) ++ leU 4 (cap.getD 0xFFFFFFFF) ++ leU 1 src ++ leU 4 (s.dsp.drawAllow.getD 0xFFFFFFFF) ++
    leU 4 s.dsp.returnAllow ++ leU 1 (bitsToNat [r.capUnmet, r.acLoss]) ++ leU 4 (r.shelf / 360000000).toNat ++
    leU 4 ((remaining s).getD 0xFFFFFFFF) ++ leU 1 r.shed.length ++
    (r.shed.flatMap fun x => leU 1 x.kind ++ leU 1 x.ch ++ leU 2 x.power) ++
    (List.range 16).flatMap fun k =>
      let x := r.rect.getD k {}
      let v := x.reading.getD ⟨false, 0, 0, 0, 0, 0, 0, false, false⟩
      leU 1 (bitsToNat [x.good, x.lost]) ++ leS 2 (roundR x.trim) ++ leU 2 v.statusWord.toNat ++ leU 4 v.vout ++ leS 4 v.iout ++
        leU 1 v.statusInput.toNat ++ leU 4 v.vin ++ leU 4 v.pout

def execAuxGetStatus (q : Req) (s : State) : Out State := getW 0x0B05 false auxStatus q s

/-- The channel a payload names is not in one of the states allowed. -/
def efConflict (s : State) (n : Nat) (ok : List EfState) : Option Nat :=
  if ok.contains (s.efAt n).state || (s.efAt n).retired then none else some (conflictObj n)

/-- A new channel configuration. -/
def storeEf (s : State) (p : Bytes) : State := efStart (s.modEf (getU p 0 1) fun e => { e with cfg := p }) (getU p 0 1)

def execAuxSetEf (q : Req) (s : State) : Out State :=
  command
    { op := 0x0B06, len := lenIs 104, roles := .as, h := false
      state := fun s q => if 16 ≤ getU q.payload 0 1 then none else efConflict s (getU q.payload 0 1) [.off, .latched]
      arg := fun s q => firstBad [badField efFields q.payload, efCheck s q.payload] }
    (fun s q => commit (storeEf s q.payload) 0x0B06 q peerConfig []) q s

def efStateCode : EfState → Nat | .off => 0 | .qualify => 1 | .ramp => 2 | .on => 3 | .retry => 4 | .latched => 5

/-- One channel: configuration, state, marks, fault count, I, VDS, VGS, A and S in 10⁻⁴, retry time left in ms (log entry
14). A retired channel is reported LATCHED (18_faults_peat_log.md R498). -/
def efInfo (s : State) (n : Nat) : Bytes :=
  let e := s.efAt n
  efCfg s n ++ leU 1 (if e.retired then 5 else efStateCode e.state) ++
    leU 1 (bitsToNat [e.shed, e.pgood, e.retired, e.commanded]) ++ leU 2 e.faults ++ leS 4 e.reading.i ++ leS 4 e.reading.vds ++
    leS 4 e.reading.vgs ++ leU 4 (roundR (e.acc * 10000)).toNat ++ leU 4 (roundR (e.stress * 10000)).toNat ++
    leU 4 (if e.state == .retry then (e.retryEnd - s.clk) / nsMs else 0)

def execAuxGetEf (q : Req) (s : State) : Out State := getI 0x0B07 false false true (fun _ => 16) efInfo q s

/-- A command of form I for one e-fuse channel. -/
def efCommand (op : Nat) (state : State → Nat → Option Nat) (run : State → Req → Nat → State) (q : Req) (s : State) : Out State :=
  command
    { op := op, len := lenIs 4, roles := .as, h := false
      state := fun s q => if 16 ≤ getU q.payload 0 1 then none else state s (getU q.payload 0 1)
      arg := fun _ q => argI 16 false false 0 q.payload
      desc := fun _ q => descAt q 2 0 }
    (fun s q => run s q (getU q.payload 0 1)) q s

def execAuxEfOn (q : Req) (s : State) : Out State :=
  efCommand 0x0B08 (fun s n => if efSequenced s n || (s.efAt n).state == .latched || (s.efAt n).retired then some (conflictObj n) else none)
    (fun s q n => commit (efStart (s.modEf n fun e => { e with commanded := true }) n) 0x0B08 q peerConfig []) q s

/-- The channel is commanded off: at once from QUALIFY, RAMP and ON; in RETRY when the timer expires (R379). -/
def efOff (s : State) (n : Nat) : State :=
  s.modEf n fun e =>
    { e with commanded := false, pgood := e.pgood && e.state == .retry
             state := match e.state with | .qualify | .ramp | .on => .off | x => x }

def execAuxEfOff (q : Req) (s : State) : Out State :=
  efCommand 0x0B09 (fun s n => if efSequenced s n then some (conflictObj n) else none)
    (fun s q n => commit (efOff s n) 0x0B09 q peerConfig []) q s

/-- AUX_EF_RESET of a LATCHED channel; of a retired one it restores (18_faults_peat_log.md R498). -/
def execAuxEfReset (q : Req) (s : State) : Out State :=
  efCommand 0x0B0A (fun s n => efConflict s n [.latched])
    (fun s q n =>
      let s := s.modEf n fun e => { e with faults := 0 }
      if s.retired (uEf n) then startRestore s 0x0B0A q [uEf n] none
      else commit (efStart (s.modEf n fun e => { e with state := .off }) n) 0x0B0A q peerConfig []) q s

end Sys2Proof.Machine
end

