-- ==== Sys2Proof/Machine/Thermal.lean ====
section
/-! DEFINITION. Thermal inputs, broken sensors, levels with hysteresis and dwell, rates of rise and thermal warnings
(06_impedance_thermal.md R177 to R187; 10_safety.md R295). -/

namespace Sys2Proof.Machine

/-! ## Levels (R183, R184) -/

/-- What a broken sensor counts as for a high level, 0.01 °C (R182). -/
def tooHot : Int := 32767

/-- The region of a value: 0 beyond the threshold, 1 in the band, 2 clear of it. -/
def regionHigh (thr band v : Rat) : Nat := if thr ≤ v then 0 else if thr - band ≤ v then 1 else 2
def regionLow (thr band v : Rat) : Nat := if v ≤ thr then 0 else if v ≤ thr + band then 1 else 2

/-- A level judges a sample of region `reg`: the interval since the sample before is credited by that sample's region, then
the new region applies. A slow source dwells for two consecutive samples. -/
def Level.judge (l : Level) (now : Nat) (slow : Bool) (reg : Nat) : Level :=
  let d := now - l.lastT
  let a := if l.region = some 0 then l.assertNs + d else l.assertNs
  let c := if l.region = some 2 then l.clearNs + d else l.clearNs
  let a := if reg = 2 then 0 else a
  let c := if reg = 0 then 0 else c
  let up : Bool := if slow then l.region == some 0 && reg == 0 else decide (5 * nsS ≤ a)
  let down : Bool := if slow then l.region == some 2 && reg == 2 else decide (5 * nsS ≤ c)
  { asserted := if l.asserted then !down else up, assertNs := a, clearNs := c, region := some reg, lastT := now }

/-- A level ignores a sample: its counters hold and the next sample credits nothing. -/
def Level.skip (l : Level) : Level := { l with region := none }

/-- Least-squares slope of samples (time in ns, value), per minute. -/
def slope (l : List (Nat × Int)) : Option Rat :=
  let t0 := (l.getLast?.map (·.1)).getD 0
  let x (e : Nat × Int) : Rat := ((e.1 - t0 : Nat) : Rat) / nsS
  let n : Rat := l.length
  let sx := (l.map x).sum
  let sy := (l.map fun e => (e.2 : Rat)).sum
  let sxx := (l.map fun e => x e * x e).sum
  let sxy := (l.map fun e => x e * (e.2 : Rat)).sum
  let den := n * sxx - sx * sx
  if den = 0 then none else some ((n * sxy - sx * sy) / den * 60)

/-- The rate of rise, 0.01 K/min, over samples newest first (R184). -/
def riseRate (l : List (Nat × Int)) : Option Rat :=
  match l with
  | [] => none
  | (t, v) :: _ =>
    let recent := l.filter fun e => t < e.1 + 10 * nsS
    if 5 ≤ recent.length then slope recent
    else
      match l.find? fun e => e.1 + 10 * nsS ≤ t with
      | none => none
      | some e => some (((v - e.2 : Int) : Rat) * (60 * nsS : Nat) / ((t - e.1 : Nat) : Rat))

/-- Adds a sample and keeps those of the last 10 s and the newest one older than that. -/
def keepSamples (t : Nat) (v : Int) (l : List (Nat × Int)) : List (Nat × Int) :=
  (t, v) :: (l.filter fun e => t < e.1 + 10 * nsS) ++ ((l.filter fun e => e.1 + 10 * nsS ≤ t).take 1)

/-- Thresholds of a source: high, low, rate; none where the level does not exist. -/
structure Thr3 where
  high : Option Int
  low : Option Int
  rate : Option Int
  deriving DecidableEq, Repr

/-- The three levels of a source judge a sample; `v` is none while the sensor is broken (R182). -/
def judgeLevels (now : Nat) (slow : Bool) (v : Option Int) (rate : Option Rat) (thr : Thr3) (l : Levels) : Levels :=
  { high := match thr.high with
      | none => {}
      | some θ => l.high.judge now slow (regionHigh (θ : Rat) 200 ((v.getD tooHot : Int) : Rat))
    low := match thr.low, v with
      | none, _ => {}
      | some _, none => l.low.skip
      | some θ, some x => l.low.judge now slow (regionLow (θ : Rat) 200 (x : Rat))
    rate := match thr.rate, rate with
      | none, _ => {}
      | some _, none => l.rate.skip
      | some θ, some r => l.rate.judge now slow (regionHigh (θ : Rat) (absR (θ : Rat) / 5) r) }

/-! ## Warnings (R185) -/

def warnThr (s : State) (idx : Nat) : Option Int :=
  let v := s.th.warn.getD idx (-32768)
  if v = -32768 then none else some v

/-- Thresholds of row `r` of *Default thermal warnings*. -/
def warnRow (s : State) (r : Nat) : Thr3 := ⟨warnThr s (3 * r), warnThr s (3 * r + 1), warnThr s (3 * r + 2)⟩

/-- The row of a TI class. -/
def classRow : Nat → Option Nat | 0 => some 0 | 1 => some 3 | 2 => some 4 | 3 => some 5 | 4 => some 6 | _ => none

def tiMode (s : State) (n : Nat) : Nat := getU (s.tiAt n).cfg 1 1
def tiClass (s : State) (n : Nat) : Nat := getU (s.tiAt n).cfg 2 1
def tiServed (s : State) (n : Nat) : Nat := getU (s.tiAt n).cfg 3 1

def Levels.pick (l : Levels) : Nat → Bool | 0 => l.high.asserted | 1 => l.low.asserted | _ => l.rate.asserted

/-- Some source of warning level `idx` (row × 3 + kind) stands asserted. -/
def warnGroup (s : State) (idx : Nat) : Bool :=
  let row := idx / 3
  let kind := idx % 3
  let ti := (List.range 24).any fun n => tiMode s n != 0 && classRow (tiClass s n) == some row && (s.tiAt n).warn.pick kind
  let sens := row == 0 && s.th.sensors.any fun e => e.2.warn.pick kind
  let core := (row == 1 || row == 2) && s.th.core.any fun e =>
    (e.2.getD (if row = 2 then 2 else if kind = 0 then 0 else 1) {}).asserted
  ti || sens || core

/-- The warning levels that changed are recorded at information level. -/
def syncWarnings (s : State) : State :=
  (List.range 21).foldl (fun s idx =>
    let on := warnGroup s idx
    if on == s.th.warnOn.getD idx false then s
    else groupRecord { s with th := { s.th with warnOn := s.th.warnOn.set idx on } } gTpe srcSup lvInfo 185 idx on.toNat) s

/-! ## SF-OT (10_safety.md R292, R295) -/

/-- Thresholds of a TI input for string `i` in a set, by its use. -/
def tiThr (b : Bytes) (n i : Nat) : Thr3 :=
  match tiUse b n with
  | 1 => ⟨some (blkS b i 18), some (blkS b i 20), some (blkU b i 22 2)⟩
  | 2 => ⟨some (blkS b i 24), none, none⟩
  | 3 => ⟨some (getS b (578 + 4 * n) 2), none, none⟩
  | _ => ⟨none, none, none⟩

/-- SF-OT of channel `c` on a TI sample. -/
def tiSafety (s : State) (n : Nat) (v : Option Int) (c : Channel) : State :=
  let b := s.setB c
  if (s.chan c).set.isNone || tiUse b n == 0 then s
  else
    (List.range s.strings).foldl (fun s i =>
      if !tiOn b n i then s
      else
        let x := s.tiAt n
        let l := judgeLevels s.clk false v (if v.isNone then none else riseRate x.samples) (tiThr b n i) (tiLevels x c i)
        let s := s.modTi n fun x =>
          match c with
          | .sp => { x with sp := tblSet i l x.sp }
          | .sloe => { x with sloe := tblSet i l x.sloe }
        if l.any then trip s c i .ot else s) s

/-! ## Thermal inputs (R177 to R182) -/

/-- The result lies outside what the sensor can show (*Broken sensor detection*). -/
def implausible (s : State) (n : Nat) (v : Int) : Bool :=
  let c := (s.tiAt n).cfg
  if tiMode s n = 1 then decide (v < -6000 ∨ 16000 < v) else decide (v < getS c 20 2 ∨ getS c 22 2 < v)

/-- Every level the input feeds judges value `v`, none while it is broken. -/
def tiJudge (s : State) (n : Nat) (v : Option Int) : State :=
  let s := s.modTi n fun x =>
    { x with samples := match v with | none => [] | some y => keepSamples s.clk y x.samples, sampleT := s.clk }
  let rate := if v.isNone then none else riseRate (s.tiAt n).samples
  let s := match classRow (tiClass s n) with
    | none => s
    | some r => syncWarnings (s.modTi n fun x => { x with warn := judgeLevels s.clk false v rate (warnRow s r) x.warn })
  let s := tiSafety (tiSafety s n v .sp) n v .sloe
  if tiClass s n = 5 then
    let was := (s.tiAt n).ef.asserted
    let ch := tiServed s n
    let s := s.modTi n fun x =>
      { x with ef := x.ef.judge s.clk false (regionHigh (efTcMax s ch : Rat) 200 ((v.getD tooHot : Int) : Rat)) }
    if (s.tiAt n).ef.asserted && !was then efFault s ch .diode else s
  else s

/-- TI_SAMPLE. A suspended input gives nothing (18_faults_peat_log.md R494); a retired one is broken (R499). -/
def execTiSample (t : Nat) (n : Nat) (r : TiReading) (s : State) : Out State :=
  let s := s.advance t
  .next (if 24 ≤ n ∨ !hostServed s ∨ tiMode s n = 0 ∨ s.asleep then s
    else
      let s := if r.refOk || s.unitOut (uTi n) then s else detected s (uTi n) 498 n
      if s.suspended (uTi n) then s
      else
        let v := r.temp + getS (s.tiAt n).cfg 24 2
        let bad : Bool := r.openLead || r.short || implausible s n v || s.retired (uTi n)
        let x := s.tiAt n
        let runs := if bad then x.bad + 1 else 0
        let s := s.modTi n fun x => { x with bad := runs, badT := if bad then s.clk else x.badT }
        if x.broken then tiJudge s n none
        else if bad && (decide (3 ≤ runs) || s.retired (uTi n)) then
          let s := groupRecord s gTpe srcThm lvInfo 181 n 0
          tiJudge (s.modTi n fun x => { x with broken := true, suspect := false, value := 32767 }) n none
        else if bad then
          let held := x.good.getD (Config.freeInt s.free)
          tiJudge (s.draw.modTi n fun x => { x with suspect := true, value := held }) n (some held)
        else tiJudge (s.modTi n fun x => { x with suspect := false, value := v, good := some v }) n (some v))

/-- SENSOR_RECOVERY of TI input `n`, or of SM-32 sensor `n` − 24 (ring × 128 + monitor × 8 + sensor), after 60 s without
the broken condition. -/
def execSensorRecovery (t : Nat) (n : Nat) (s : State) : Out State :=
  let s := s.advance t
  .next (if n < 24 then
      let x := s.tiAt n
      if x.broken && !s.retired (uTi n) && decide (x.badT + 60 * nsS ≤ s.clk) then
        s.modTi n fun x => { x with broken := false, bad := 0, samples := [] } else s
    else
      let x := tblGet {} (n - 24) s.th.sensors
      if x.broken && decide (x.okSince + 60 * nsS ≤ s.clk) then
        { s with th := { s.th with sensors := tblSet (n - 24) { x with broken := false, samples := [] } s.th.sensors } }
      else s)

/-! ## SM-32 sensors -/

/-- One sensor value of a round of ring `i`: broken at once when the monitor reports 0x7FFF (R181). `okSince` is when the
condition last held. Protection uses it only where the monitor's thr_crc is accepted (04_fenline_rings.md R115). -/
def sensorSample (slow : Bool) (crc : Nat) (s : State) (key : Nat) (raw : Int) : State :=
  let i := key / 128
  let x := tblGet {} key s.th.sensors
  let bad : Bool := raw == 32767
  let back : Bool := !x.broken || (!bad && decide (x.okSince + 60 * nsS ≤ s.clk))
  let broken : Bool := bad || !back
  let v : Option Int := if broken then none else some raw
  let samples := match v with | none => [] | some y => keepSamples s.clk y x.samples
  let rate := if broken then none else riseRate samples
  let s := if bad && !x.broken then groupRecord s gTpe (srcFlc i) lvInfo 181 (0x1000 + key) 0 else s
  let judge (c : Channel) (l : Levels) : Levels :=
    let b := s.setB c
    if (s.chan c).set.isSome && thrAccepts s c i crc then
      judgeLevels s.clk slow v rate ⟨some (blkS b i 18), some (blkS b i 20), some (blkU b i 22 2)⟩ l
    else l
  let y : Sensor :=
    { samples := samples, broken := broken, okSince := if bad then s.clk else x.okSince, value := if broken then 32767 else raw
      warn := judgeLevels s.clk slow v rate (warnRow s 0) x.warn, sp := judge .sp x.sp, sloe := judge .sloe x.sloe }
  let s := { s with th := { s.th with sensors := tblSet key y s.th.sensors } }
  let s := if y.sp.any && (s.chan .sp).set.isSome then trip s .sp i .ot else s
  if y.sloe.any && (s.chan .sloe).set.isSome then trip s .sloe i .ot else s

/-- The sensors of monitor `m` of ring `i` in a round. -/
def sensorRound (s : State) (i m : Nat) (d : RoundData) : State :=
  let slow : Bool := decide (1000000 < (s.ringAt i).period)
  let keyed := d.tSens.mapIdx fun k v => (128 * i + 8 * m + k, v)
  keyed.foldl (fun s e => sensorSample slow d.thrCrc.toNat s e.1 e.2) s

/-! ## Commands (R187) -/

def tiFields : List Field :=
  [uf 0 1 0 23 0, uf 1 1 0 3 0, uf 2 1 0 6 6, uf 3 1 0 255 255, uf 4 2 10000 11000 10080, rsv 6 2, uf 8 4 0 0xFFFFFFFF 0,
    uf 12 4 0 0xFFFFFFFF 0, uf 16 4 0 0xFFFFFFFF 0, sf 20 2 (-32768) 32767 0, sf 22 2 (-32768) 32767 0, sf 24 2 (-500) 500 0,
    rsv 26 2]

/-- served by class, and coef_c 0 in beta mode. -/
def tiCheck (p : Bytes) : Option Nat :=
  let served := getU p 3 1
  firstBad [must (match getU p 2 1 with | 0 | 1 => decide (served < 8) | 5 => decide (served < 16) | _ => served == 255) 3,
    must (getU p 1 1 != 3 || getU p 16 4 == 0) 16]

/-- The strings and e-fuse channels a used configuration serves. -/
def servedStrings (c : Bytes) : List Nat := if getU c 1 1 != 0 ∧ getU c 2 1 ≤ 1 then [getU c 3 1] else []
def servedEf (c : Bytes) : List Nat := if getU c 1 1 != 0 ∧ getU c 2 1 = 5 then [getU c 3 1] else []

/-- The state SYS_SET_TI needs (*TPE and thermal commands*, 10_safety.md R295). -/
def tiConflict (s : State) (p : Bytes) : Option Nat :=
  let n := getU p 0 1
  let old := (s.tiAt n).cfg
  if 24 ≤ n then none
  else
    match (servedStrings old ++ servedStrings p).find? fun i =>
        s.isStr i && !([StrState.isolated, .halted, .retired].contains (s.strAt i).state) with
    | some i => some (conflictStr s i)
    | none =>
      match (servedEf old ++ servedEf p).find? fun k => (s.efAt k).state != .off with
      | some k => some (conflictObj k)
      | none =>
        if getU p 1 1 = 0 ∧ ((s.saf.sp.set.isSome ∧ tiUse (s.setB .sp) n ≠ 0) ∨ (s.saf.sloe.set.isSome ∧ tiUse (s.setB .sloe) n ≠ 0)) then
          some (conflictObj n)
        else none

/-- A new input configuration; the input's levels start afresh. -/
def storeTi (s : State) (p : Bytes) : State :=
  let n := getU p 0 1
  let s := s.modTi n fun x =>
    { x with cfg := p, good := none, suspect := false, bad := 0, broken := x.broken && s.retired (uTi n), samples := []
             warn := {}, sp := [], sloe := [], ef := {} }
  syncWarnings s

/-- SYS_SET_TI: with an unchanged mode it restores a retired input (18_faults_peat_log.md R498). -/
def execSysSetTi (q : Req) (s : State) : Out State :=
  command
    { op := 0x0109, len := lenIs 28, roles := .as, h := false
      pop := fun s p => must (decide (1 < getU p 2 1) || decide (getU p 3 1 < s.strings) || decide (8 ≤ getU p 3 1)) 3
      state := fun s q => tiConflict s q.payload
      arg := fun _ q => firstBad [badField tiFields q.payload, tiCheck q.payload] }
    (fun s q =>
      let p := q.payload
      let n := getU p 0 1
      let same := tiMode s n == getU p 1 1
      let s := storeTi s p
      if s.retired (uTi n) && same then startRestore s 0x0109 q [uTi n] none else commit s 0x0109 q peerConfig []) q s

def levelBits (l : Levels) : List Bool := [l.high.asserted, l.low.asserted, l.rate.asserted]

/-- Configuration, value, status and levels of one input (log entry 14). -/
def tiInfo (s : State) (n : Nat) : Bytes :=
  let x := s.tiAt n
  (if x.cfg.isEmpty then putAt (defaults tiFields) 0 (leU 1 n) else x.cfg) ++ leS 2 x.value ++
    leU 1 (bitsToNat [x.suspect, x.broken, s.retired (uTi n)]) ++ leU 1 (bitsToNat (levelBits x.warn)) ++
    leU 1 (bitsToNat ((List.range 8).map fun i => (tiLevels x .sp i).any)) ++
    leU 1 (bitsToNat ((List.range 8).map fun i => (tiLevels x .sloe i).any)) ++ leB x.ef.asserted

def execSysGetTi (q : Req) (s : State) : Out State := getI 0x010A false false true (fun _ => 24) tiInfo q s

def setWarn (s : State) (p : Bytes) : State :=
  { s with th := { s.th with warn := (List.range 21).map fun k => getS p (2 * k) 2 } }

def execSysSetThermalWarn (q : Req) (s : State) : Out State :=
  setR 0x010B 42 [] (fun _ _ => none) (fun _ _ => none) setWarn q s

/-- Every asserted level and every broken sensor: warning levels, inputs, then SM-32 sensors (log entry 14). -/
def thermalInfo (s : State) : Bytes :=
  leU 3 (bitsToNat s.th.warnOn) ++
    leU 3 (bitsToNat ((List.range 24).map fun n => (s.tiAt n).broken)) ++
    leU 3 (bitsToNat ((List.range 24).map fun n => (List.range 8).any fun i => (tiLevels (s.tiAt n) .sp i).any)) ++
    leU 3 (bitsToNat ((List.range 24).map fun n => (List.range 8).any fun i => (tiLevels (s.tiAt n) .sloe i).any)) ++
    (s.th.sensors.filter fun e => e.2.broken || e.2.warn.any || e.2.sp.any || e.2.sloe.any).flatMap fun e =>
      leU 2 e.1 ++ leU 1 (bitsToNat [e.2.broken, e.2.warn.any, e.2.sp.any, e.2.sloe.any])

def execSysGetThermal (q : Req) (s : State) : Out State := getW 0x010C false thermalInfo q s

end Sys2Proof.Machine
end

