-- ==== Sys2Proof/Machine/Rings.lean ====
section
/-! DEFINITION. Fenline rings: beacons, rounds, frames and credits, enumeration, breaks, alarms and monitor commands
(04_fenline_rings.md). -/

namespace Sys2Proof.Machine

/-- Rounds run: in a role, not in RECOVERY, SAFE-HOLD and DORMANT (R95). -/
def roundsRun (s : State) : Bool := s.unit.isRole && !s.asleep && timeRuns s

/-! ## Frames and credits (R106 to R108) -/

/-- Sends an addressed frame to monitor `m` where a credit is held. -/
def sendFrame (s : State) (i m type arg : Nat) (resent : Bool) : State :=
  let x := s.monAt i m
  if x.credits = 0 then s
  else
    let seq := (x.seq + 1) % 256
    s.modRing i fun r =>
      { (r.modMon m fun y => { y with credits := y.credits - 1, seq := seq }) with
        outstanding := r.outstanding ++ [{ m := m, seq := seq, type := type, arg := arg, departed := s.clk, resent := resent }] }

/-- The outstanding frame a response of monitor `m` with `seq` matches. -/
def matching (s : State) (i m seq : Nat) : Option Outstanding :=
  (s.ringAt i).outstanding.find? fun o => o.m = m ∧ o.seq = seq

/-- The frame is no longer outstanding and its credit returns. -/
def creditBack (s : State) (i : Nat) (o : Outstanding) : State :=
  s.modRing i fun r =>
    { (r.modMon o.m fun y => { y with credits := min 4 (y.credits + 1) }) with
      outstanding := r.outstanding.filter fun x => x.m ≠ o.m ∨ x.seq ≠ o.seq }

/-- The unit of the `k`-th link from chain end 1, of `n` + 1 (R112). -/
def linkUnit (i n k : Nat) : Nat := if k < n then uLink i k 0 else uLink i (n - 1) 1

/-- Links on the path of a frame to monitor `m` and of its response, by number from chain end 1: the whole ring, or in
two-ended operation the side of the break the monitor lies on. -/
def pathLinks (r : Ring) (m : Nat) : List Nat :=
  match r.twoEnded, r.breakAt with
  | true, some (x, y) =>
    if m < x then List.range (x + 1) else if y ≤ m then (List.range (r.n + 1)).filter (y ≤ ·) else List.range (r.n + 1)
  | _, _ => List.range (r.n + 1)

/-- A frame is lost: its credit returns, and the links of its path are charged. -/
def loseFrame (s : State) (i : Nat) (o : Outstanding) : State :=
  let r := s.ringAt i
  let s := (creditBack s i o).modRing i fun r => { r with lost := r.lost + 1 }
  (pathLinks r o.m).foldl (fun s k => detected s (linkUnit i r.n k) 106 o.m) s

/-- FRAME_LOST: no response 250 µs after departure. -/
def execFrameLost (t : Nat) (i m seq : Nat) (s : State) : Out State :=
  let s := s.advance t
  .next (match matching s i m seq with
    | some o => if ringRuns s i && decide (o.departed + 250 * nsUs ≤ s.clk) then loseFrame s i o else s
    | none => s)

/-- A response of monitor `m`: the state with its credit back and the frame it answers, or none when it is late or
answers nothing, discarded and counted. One that completes in the cycle of the limit counts (R108). -/
def response (s : State) (i m seq : Nat) : State × Option Outstanding :=
  let late (s : State) : State := s.modRing i fun r => { r with late := r.late + 1 }
  match matching s i m seq with
  | none => (late s, none)
  | some o => if o.departed + 250 * nsUs < s.clk then (late (loseFrame s i o), none) else (creditBack s i o, some o)

/-! ## Breaks (R110 to R113) -/

/-- Positions from chain end 1 that a map holds without a gap, and the first position from which it holds every one up
to `n` − 1. -/
def reachedFrom1 (map : BitVec 16) (n : Nat) : Nat := ((List.range n).find? fun m => !map.getLsbD m).getD n
def reachedFrom2 (map : BitVec 16) (n : Nat) : Nat :=
  ((List.range (n + 1)).find? fun y => (List.range n).all fun m => decide (m < y) || map.getLsbD m).getD n

/-- Maps of the copies sent into chain ends 1 and 2. -/
def Ring.endMaps (r : Ring) : BitVec 16 × BitVec 16 := if r.headEnd2 then (r.tailMap, r.headMap) else (r.headMap, r.tailMap)

/-- Where the break lies: positions reached from chain end 1, and the first one reached from chain end 2. -/
def Ring.locate (r : Ring) : Nat × Nat := (reachedFrom1 r.endMaps.1 r.n, reachedFrom2 r.endMaps.2 r.n)

/-- Enters two-ended operation. -/
def enterTwoEnded (s : State) (i : Nat) : State :=
  if (s.ringAt i).twoEnded then s
  else s.modRing i fun r => { r with twoEnded := true, breakAt := none, closedCount := 0 }

/-- Reports the break where it has moved. -/
def reportBreak (s : State) (i : Nat) : State :=
  let r := s.ringAt i
  let b := r.locate
  if !r.twoEnded || r.breakAt == some b then s
  else groupRecord (s.modRing i fun r => { r with breakAt := some b }) gStr (srcFlc i) lvInfo 110 i (b.1 + 256 * b.2)

/-- Judges each monitor's unreachable line: absent from the maps of 3 consecutive beacon periods, or an identity that is
unknown (R93, R111). A line that asserts counts as beyond both thresholds in both channels (10_safety.md R294). -/
def judgeReach (s : State) (i : Nat) : State :=
  let r := s.ringAt i
  if !r.declared then s
  else
    let out (m : Nat) : Bool := decide (4 ≤ (r.mon m).absent) || !(r.mon m).idMatch
    let s := s.modRing i fun r =>
      { r with mons := r.mons.mapIdx fun m (x : Monitor) => if m < r.n then { x with unreachable := out m } else x }
    let s := if (List.range r.n).any out then tripBoth (tripBoth s i .ov) i .uv else s
    retierStr s i

/-- PORT_DOWN: terminal 0 is HEAD, 1 TAIL; a break at a terminal. -/
def execPortDown (t : Nat) (i term : Nat) (s : State) : Out State :=
  let s := s.advance t
  .next (if ringRuns s i then
      let s := s.modRing i fun r => if term = 0 then { r with headUp := false } else { r with tailUp := false }
      if ringMaster s then enterTwoEnded s i else s
    else s)

def execPortUp (t : Nat) (i term : Nat) (s : State) : Out State :=
  let s := s.advance t
  .next (if ringRuns s i then
      s.modRing i fun r => if term = 0 then { r with headUp := true } else { r with tailUp := true }
    else s)

/-- Two consecutive beacons have not reached the opposite terminal within 200 µs. -/
def execTwoEndedOperation (t : Nat) (i : Nat) (s : State) : Out State :=
  let s := s.advance t
  let r := s.ringAt i
  .next (if ringRuns s i && ringMaster s && decide (2 ≤ r.lostBeacons) && decide (r.lastBeaconT + 200 * nsUs ≤ s.clk) then
      enterTwoEnded s i else s)

def execTwoEndedExit (t : Nat) (i : Nat) (s : State) : Out State :=
  let s := s.advance t
  let r := s.ringAt i
  .next (if ringRuns s i && r.twoEnded && decide (100 ≤ r.closedCount) then
      judgeReach (s.modRing i fun r => { r with twoEnded := false, breakAt := none }) i else s)

/-- TURNED_FRAME: its credit returns, and it is sent once more out of the other terminal. -/
def execTurnedFrame (t : Nat) (i m seq : Nat) (s : State) : Out State :=
  let s := s.advance t
  .next (match matching s i m seq with
    | some o =>
      if ringRuns s i then
        let s := enterTwoEnded (creditBack s i o) i
        if o.resent then s else sendFrame s i m o.type o.arg true
      else s
    | none => s)

/-- LINK_DISABLE or LINK_ENABLE goes to the nodes at both ends of the link `port` of position `pos`. -/
def commandLink (s : State) (i pos port code : Nat) : State :=
  let r := s.ringAt i
  let k := pos + port
  let s := if 0 < k then sendFrame s i (k - 1) 6 code false else s
  if k < r.n then sendFrame s i k 6 code false else s

/-- LINK_CRC_BURST: 16 or more errors in 1 s, counted by the node at `pos` on its `port`, retire the link. -/
def execLinkCrcBurst (t : Nat) (i pos port count : Nat) (s : State) : Out State :=
  let s := s.advance t
  let key := 2 * pos + port
  .next (if !ringRuns s i then s
    else
      let s := s.modRing i fun r => { r with linkErrors := tblSet key (tblGet 0 key r.linkErrors + count) r.linkErrors }
      let n := (s.ringAt i).n
      if 16 ≤ count ∧ pos < n ∧ port < 2 then retireUnit (commandLink s i pos port 0x11) (linkUnit i n (pos + port)) 2 else s)

/-- DELAY: the link is numbered position × 2 + port. -/
def execDelay (t : Nat) (i link delayNs : Nat) (s : State) : Out State :=
  let s := s.advance t
  .next (if ringRuns s i then s.modRing i fun r => { r with linkDelay := tblSet link delayNs r.linkDelay } else s)

/-! ## Beacons (R95 to R99, R114) -/

/-- Beacon period: 1 ms, in DORMANT 10 ms. -/
def beaconPeriod (s : State) : Nat := if s.asleep then 10 * nsMs else nsMs

/-- A beacon of claim `claim` from this unit (`own`) passes a monitor: it follows the highest claim it has received. -/
def passBeacon (now : Nat) (own : Bool) (claim : Nat) (x : Monitor) : Monitor :=
  if x.followClaim ≤ claim then { x with followsUs := own, followClaim := claim, lastBeaconT := now }
  else { x with lastBeaconT := now }

/-- BEACON: the master sends one; on a unit that is not the master the partner's beacon passes its bridge. -/
def execBeacon (t : Nat) (i : Nat) (s : State) : Out State :=
  let s := s.advance t
  let r := s.ringAt i
  .next (if !ringRuns s i then s
    else if ringMaster s then
      if r.lastBeaconT + beaconPeriod s ≤ s.clk then
        let s := s.modRing i fun r =>
          { r with lastBeaconT := s.clk, lostBeacons := r.lostBeacons + 1
                   mons := r.mons.map fun (x : Monitor) => { x with absent := x.absent + 1 } }
        judgeReach s i
      else s
    else if partnerCommands s then
      s.modRing i fun r => { r with mons := r.mons.map (passBeacon s.clk false s.red.partnerClaim) }
    else s)

/-- SP's functions for the flags of a monitor's newest DATA (10_safety.md R293). -/
def flagFns (d : RoundData) : List SafetyFn :=
  (if d.ovMap != 0 || d.openMap != 0 || d.status.getLsbD 5 then [.ov] else []) ++
    (if d.uvMap != 0 then [.uv] else []) ++ (if d.otMap != 0 then [.ot] else [])

/-- SP on the alarm line of monitor `m`, after 2 consecutive beacons and with its flag maps read. -/
def alarmSp (s : State) (i m : Nat) : State :=
  let x := s.monAt i m
  match x.round with
  | none => s
  | some d =>
    if x.alarmLine && decide (2 ≤ x.alarmBeacons) && thrAccepts s .sp i d.thrCrc.toNat then
      (flagFns d).foldl (fun s f => trip s .sp i f) s
    else s

/-- The alarm lines of the ring, judged: Sloe trips on any of them after 2 consecutive beacons (R293). -/
def judgeAlarms (s : State) (i : Nat) : State :=
  let r := s.ringAt i
  let on := (List.range r.n).filter fun m => (r.mon m).alarmLine && decide (2 ≤ (r.mon m).alarmBeacons)
  let s := if on.isEmpty then s else trip s .sloe i .ov
  on.foldl (fun s m => alarmSp s i m) s

/-- A returned copy at one monitor: presence, the alarm line and the count of alarmed beacons. -/
def copyAtMonitor (now claim : Nat) (b : BeaconCopy) (m : Nat) (x : Monitor) : Monitor :=
  if b.presenceMap.getLsbD m then
    let on := b.alarmMap.getLsbD m
    { passBeacon now true claim x with absent := 0, alarmLine := on, alarmBeacons := if on then x.alarmBeacons + 1 else 0 }
  else x

/-- A copy of the partner's beacon that this unit's bridge forwards (R85): alarm lines and presence as on the master, where
only a closed copy shows that a monitor is absent; one that holds every monitor shows the ring served. -/
def bridgeCopy (now claim : Nat) (b : BeaconCopy) (r : Ring) : Ring :=
  let full : Bool := (List.range r.n).all fun m => b.presenceMap.getLsbD m
  { r with
    served := r.served || (b.closed && full && !b.unaddressed)
    mons := r.mons.mapIdx fun m (x : Monitor) =>
      if r.n ≤ m then x
      else if b.presenceMap.getLsbD m then { copyAtMonitor now claim b m x with followsUs := false, absent := 1 }
      else if b.closed then { x with absent := x.absent + 1 } else x }

/-- The maps a returned copy updates: both where it closed, else those of the terminal it came back to. -/
def copyMaps (b : BeaconCopy) (r : Ring) : Ring :=
  if b.closed then { r with headMap := b.presenceMap, tailMap := b.presenceMap }
  else if b.term = 0 then { r with headMap := b.presenceMap } else { r with tailMap := b.presenceMap }

def execBeaconReturn (t : Nat) (i : Nat) (b : BeaconCopy) (s : State) : Out State :=
  let s := s.advance t
  let n := (s.ringAt i).n
  let full : Bool := (List.range n).all fun m => b.presenceMap.getLsbD m
  .next (if !ringRuns s i || !(s.ringAt i).declared then s
    else if !ringMaster s then
      if partnerCommands s then judgeAlarms (judgeReach (s.modRing i (bridgeCopy s.clk s.red.partnerClaim b)) i) i else s
    else
      let s := s.modRing i fun r =>
        let r := copyMaps b r
        { r with
          mons := r.mons.mapIdx fun m (x : Monitor) => if m < r.n then copyAtMonitor s.clk s.red.claim b m x else x
          closedCount := if b.closed && full then r.closedCount + 1 else 0
          lostBeacons := if b.closed then 0 else r.lostBeacons
          enumPending := r.enumPending || b.unaddressed }
      let s := if b.turned then reportBreak (enterTwoEnded s i) i else s
      judgeAlarms (judgeReach s i) i)

/-- 50 ms without an unturned beacon: the monitor is unsynchronised (R98). -/
def execBeaconTimeout (t : Nat) (i m : Nat) (s : State) : Out State :=
  let s := s.advance t
  .next (if s.isStr i && decide ((s.monAt i m).lastBeaconT + 50 * nsMs ≤ s.clk) then
      s.modMon i m fun x => { x with synced := false } else s)

/-- MONITOR_RESTART (R94): it loses its position and everything it was doing; a detected error of it. -/
def execMonitorRestart (t : Nat) (i m : Nat) (s : State) : Out State :=
  let s := s.advance t
  .next (if s.isStr i && decide (m < 16) then
      let s := s.modMon i m fun x =>
        { x with position := none, synced := false, bleed := [], shuttle := none, restarted := true, thr := none
                 ack := none, plan := false, phasorWindow := none, followClaim := 0
                 ovActive := 0, uvActive := 0, openActive := 0, otActive := 0, selfActive := false
                 ovMap := 0, uvMap := 0, openMap := 0, otMap := 0, alarmLatched := false }
      detected s (uMon i m) 94 0
    else s)

/-- HARDWARE_COMPARATOR_ALARM: the comparator is active, its latched bit is set, and a shuttle on the channel stops
(R103, R114, R118). -/
def execHardwareComparatorAlarm (t : Nat) (i m : Nat) (k : Comparator) (ch : Nat) (s : State) : Out State :=
  let s := s.advance t
  let bit : BitVec 32 := BitVec.twoPow 32 ch
  .next (if !s.isStr i then s
    else
      let s := s.modMon i m fun x =>
        let x := { x with alarmLatched := true }
        match k with
        | .ov => { x with ovActive := x.ovActive ||| bit, ovMap := x.ovMap ||| bit }
        | .uv => { x with uvActive := x.uvActive ||| bit, uvMap := x.uvMap ||| bit }
        | .openLead => { x with openActive := x.openActive ||| bit, openMap := x.openMap ||| bit }
        | .ot => { x with otActive := x.otActive ||| BitVec.twoPow 8 ch, otMap := x.otMap ||| BitVec.twoPow 8 ch }
        | .selfTest => { x with selfActive := true }
      s.modMon i m fun x => match x.shuttle, k with
        | some _, .ot | some _, .selfTest => x
        | some sh, _ => if sh.args.channel = ch then { x with shuttle := none } else x
        | none, _ => x)

/-- A rising alarm bit sends a READ of kind 0x00 outside the grid (R115). -/
def execAlarmDetailRead (t : Nat) (i m : Nat) (s : State) : Out State :=
  let s := s.advance t
  .next (if ringRuns s i && ringMaster s && (s.monAt i m).alarmLine then sendFrame s i m 4 0 false else s)

/-! ## Enumeration (R92 to R94) -/

/-- Sends an ENUM: monitors that hold no position take the one of their place in the chain. -/
def sendEnum (s : State) (i : Nat) : State :=
  s.modRing i fun r =>
    { r with enumPending := false, enumSent := true
             mons := r.mons.mapIdx fun m (x : Monitor) =>
               if m < r.n then { x with position := some (x.position.getD m) } else x }

/-- ENUM_FRAME: the master's own, or the partner's that this unit's bridge forwards. -/
def execEnumFrame (t : Nat) (i : Nat) (s : State) : Out State :=
  let s := s.advance t
  let r := s.ringAt i
  .next (if ringRuns s i && r.declared && (if ringMaster s then r.enumPending else partnerCommands s) then sendEnum s i else s)

/-- A monitor that shows itself unaddressed has an ENUM sent before the next beacon. -/
def execUnaddressedMonitor (t : Nat) (i : Nat) (s : State) : Out State :=
  let s := s.advance t
  let r := s.ringAt i
  .next (if ringRuns s i && ringMaster s && r.declared &&
        (List.range r.n).any (fun m => (r.mon m).position.isNone) then sendEnum s i else s)

/-- Completes the command of an enumeration once its outcome is known (R121): after the partner's acknowledgement, and
for STR_ENUMERATE on a ring with retired monitors after their tests (18_faults_peat_log.md R497). -/
def enumDone (s : State) (i : Nat) : State :=
  let r := s.ringAt i
  match r.enumReq with
  | none => s
  | some e =>
    let s := s.modRing i fun r => { r with enumReq := none }
    let us := ((List.range r.n).map (uMon i)).filter s.retired
    if e.opcode = 0x0210 ∧ us ≠ [] then
      let s := s.setFlt fun f => { f with restores := f.restores ++ [{ exec := e, units := us, failed := false, string := none }] }
      us.foldl (fun s u => testUnit s u true) s
    else commitExec s e peerConfig []

/-- ENUM_RETURN: the count, with a break the sum of both counts, must equal N; an unknown identity keeps its monitor
unreachable until accepted. On the master the outcome is recorded, and the thresholds are loaded afterwards (10_safety.md
R305); a unit that bridges judges the copy against its own list. -/
def execEnumReturn (t : Nat) (i : Nat) (e : EnumReturn) (s : State) : Out State :=
  let s := s.advance t
  let r := s.ringAt i
  .next (if !ringRuns s i || !r.enumSent then s
    else
      let total := e.count1 + (if e.turned then e.count2 else 0)
      let good := total == r.n
      let ids := if r.enumAccept && good then fitIds r.n e.ids else r.ids
      let known (m : Nat) : Bool := e.ids.getD m 0 == ids.getD m 0
      let all := good && (List.range r.n).all known
      let s := s.modRing i fun r =>
        { r with
          enumSent := false, enumAccept := false, served := good, enumFailed := !all, ids := ids
          thrTodo := if good && ringMaster s then List.range r.n else []
          mons := r.mons.mapIdx fun m (x : Monitor) =>
            if good && decide (m < r.n) then { x with identity := e.ids.getD m 0, idMatch := known m } else x }
      let s := if ringMaster s then groupRecord s gStr (srcFlc i) lvInfo 93 i (total + 256 * good.toNat + 512 * all.toNat) else s
      enumDone (judgeReach s i) i)
where
  /-- `n` identities. -/
  fitIds (n : Nat) (l : List Nat) : List Nat := (l ++ List.replicate (n - l.length) 0).take n

/-! ## Rounds (R101 to R105) -/

/-- Round period for the power state, µs. -/
def wantedPeriod (s : State) : Nat :=
  if s.pwr.state == .float then 10000000 / max 1 s.rings.floatRate else 1000000 / max 1 s.rings.rate

/-- SCHED: the epoch is the first multiple of the period at least 20 ms ahead. A unit that bridges takes the partner's, which
both place on the same grid. -/
def execSched (t : Nat) (i : Nat) (s : State) : Out State :=
  let s := s.advance t
  .next (if ringRuns s i && (ringMaster s || partnerCommands s) && roundsRun s then
      let p := wantedPeriod s
      let ns := p * nsUs
      let epoch := (s.tsu.now + 20 * nsMs + ns - 1) / ns * ns
      let s := progTrigger (progTrigger s 0 epoch ns) 5 epoch (100 * nsMs)
      s.modRing i fun r => { r with newEpoch := some (epoch, p), schedId := (r.schedId + 1) % 256 }
    else s)

/-- A ring's round starts: a new schedule takes effect at its epoch, where the round index restarts at 0. -/
def ringTrigger (now tsu : Nat) (r : Ring) : Ring :=
  let r := match r.newEpoch with
    | some (e, p) =>
      if e ≤ tsu then { r with newEpoch := none, epoch := e, period := p, round := 0 } else { r with round := r.round + 1 }
    | none => { r with round := r.round + 1 }
  { r with roundOpen := r.declared && r.served, roundT0 := now
           mons := r.mons.map fun (x : Monitor) => { x with got := false } }

/-- ROUND_TRIGGER: every ring's round starts at one TSU instant, and HVI forms the aligned sample of each string. -/
def execRoundTrigger (t : Nat) (s : State) : Out State :=
  let s := s.advance t
  .next (if roundsRun s && !s.clockLost .ring then
      { s with
        rings := { s.rings with ring := s.rings.ring.map (ringTrigger s.clk s.tsu.now) }
        hviStr := s.hviStr.map fun (h : HviStr) => { h with alignAt := some s.clk } }
    else s)

/-- READ of kind 0x00 to position `m` at 100 µs + m × 100 µs. -/
def execRoundRead (t : Nat) (i m : Nat) (s : State) : Out State :=
  let s := s.advance t
  let r := s.ringAt i
  .next (if ringRuns s i && ringMaster s && r.roundOpen && decide (m < r.n) && decide (r.roundT0 + 100 * nsUs * (m + 1) ≤ s.clk) then
      sendFrame s i m 4 0 false else s)

/-- DATA of monitor `m` that this unit takes: the newest reading, latches cleared by the read (R103), the ledger (R198)
and SP's reading of the flags. -/
def takeData (s : State) (i m kind : Nat) (d : RoundData) : State :=
  let x := s.monAt i m
  let s := bookReading s i m x.prevRead d x.cmdCur (s.clk - x.roundT)
  let active := d.status.getLsbD 1
  let s := s.modMon i m fun x =>
    { x with
      prevRead := some d, roundT := s.clk, round := if kind = 0 then some d else x.round
      got := x.got || (kind == 0 && (s.ringAt i).roundOpen), fresh2 := x.fresh2 || kind == 2
      ovActive := if active then x.ovActive else 0, uvActive := if active then x.uvActive else 0
      openActive := if active then x.openActive else 0, otActive := if active then x.otActive else 0
      selfActive := active && x.selfActive
      ovMap := if active then x.ovActive else 0, uvMap := if active then x.uvActive else 0
      openMap := if active then x.openActive else 0, otMap := if active then x.otActive else 0
      alarmLatched := active, restarted := false, synced := d.status.getLsbD 0, dieLimit := d.status.getLsbD 7
      bleed := if d.status.getLsbD 7 then [] else x.bleed }
  let s := if d.status.getLsbD 5 then detected s (uMon i m) 103 0 else s
  fwReturned (alarmSp s i m) i m

/-- DATA: on the master it must match an outstanding READ; a unit that bridges takes the copies (R85). -/
def execData (t : Nat) (i m seq : Nat) (kind : Nat) (d : RoundData) (s : State) : Out State :=
  let s := s.advance t
  .next (if !ringRuns s i || !decide (m < 16) then s
    else
      let take (s : State) : State := if kind = 0 ∨ kind = 2 then takeData s i m kind d else s
      if ringMaster s then
        match response s i m seq with
        | (s, some o) => if o.type = 4 then take s else s
        | (s, none) => s
      else take s)

/-- Cells of monitor `m` beyond a threshold: a run continues from its first instant (10_safety.md R293). -/
def voltRun (run : List (Nat × Nat)) (m t0 : Nat) (vs : List Nat) (beyond : Nat → Bool) : List (Nat × Nat) :=
  let others := run.filter fun e => e.1 / 32 ≠ m
  let mine := vs.mapIdx fun k v => if beyond v then some (32 * m + k, tblGet t0 (32 * m + k) run) else none
  others ++ mine.filterMap id

/-- SP's SF-OV and SF-UV on the usable values of a round of monitor `m`. -/
def voltJudge (s : State) (i m : Nat) (d : RoundData) : State :=
  let b := s.setB .sp
  let t0 := (s.ringAt i).roundT0
  if s.saf.sp.set.isNone || !thrAccepts s .sp i d.thrCrc.toNat || s.unitOut (uMon i m) then s
  else
    let ov := blkU b i 2 2
    let uv := blkU b i 4 2
    let s := s.modChanStr .sp i fun x =>
      { x with ovRun := voltRun x.ovRun m t0 d.vCell fun v => decide (10 * ov ≤ v)
               uvRun := voltRun x.uvRun m t0 d.vCell fun v => decide (v ≤ 10 * uv) }
    let long (l : List (Nat × Nat)) : Bool := l.any fun e => decide (e.2 + blkU b i 8 2 * nsMs ≤ t0)
    let x := s.saf.sp.at i
    let s := if long x.ovRun then trip s .sp i .ov else s
    if long x.uvRun then trip s .sp i .uv else s

/-- Missing DATA and a threshold checksum neither set accepts, for 500 ms (10_safety.md R294). -/
def dataJudge (s : State) (i m : Nat) : State :=
  let x := s.monAt i m
  let limit := 500 * nsMs
  let both (s : State) (c : Channel) : State := trip (trip s c i .ov) c i .uv
  let s := if heldFor s x.missingSince limit then both (both s .sp) .sloe else s
  if heldFor s x.badCrcSince limit then both (both s .sp) .sloe else s

/-- The close of a round at monitor `m`. -/
def closeMonitor (s : State) (i m : Nat) : State :=
  let x := s.monAt i m
  let t0 := (s.ringAt i).roundT0
  let loading := s.saf.loadingEnd.isSome
  match x.got, x.round with
  | true, some d =>
    let bad := !thrAccepts s .sp i d.thrCrc.toNat && !loading && s.saf.sp.set.isSome
    let s := s.modMon i m fun x => { x with missing := 0, missingSince := none, badCrcSince := track s bad x.badCrcSince }
    dataJudge (sensorRound (voltJudge s i m d) i m d) i m
  | _, _ =>
    let s := s.modMon i m fun x => { x with missing := x.missing + 1, missingSince := some (x.missingSince.getD t0) }
    dataJudge s i m

/-- The close of a round of ring `i`, 2 ms after its origin. -/
def closeRing (s : State) (i : Nat) : State :=
  let r := s.ringAt i
  if !r.roundOpen || !ringRuns s i || s.clk < r.roundT0 + 2 * nsMs then s
  else
    let s := (List.range r.n).foldl (fun s m => closeMonitor s i m) s
    let s := s.modRing i fun r =>
      { r with roundOpen := false, publishT := s.clk
               missedTwice := (List.range r.n).any fun m => decide (2 ≤ (r.mon m).missing) }
    retierStr s i

def execRoundClose (t : Nat) (s : State) : Out State :=
  let s := s.advance t
  .next ((List.range s.strings).foldl closeRing s)

/-! ## Monitor commands (R116 to R119) -/

/-- A CMD of this unit goes out with a credit, to a monitor of a ring it masters; one of bleed or shuttle only after the
kind 0x02 reading of 07_balancing_dispatch.md R193. A frame of the partner (`own` false) passes. Answers the state, and
whether the monitor has the frame: it holds a position. -/
def cmdFrame (s : State) (i m : Nat) (own : Bool) (code : Nat) : State × Bool :=
  let x := s.monAt i m
  let there := s.isStr i && decide (m < 16) && x.position.isSome
  if !own then (s, there)
  else if !ringRuns s i || !ringMaster s || decide (x.credits = 0) || (decide (code ≤ 4) && !x.fresh2) ||
      ((code == 1 || code == 3) && (s.balAt i).ringStopped) then (s, false)
  else ((sendFrame s i m 6 code false).modMon i m fun x => { x with fresh2 := x.fresh2 && decide (4 < code) }, there)

/-- The monitor's ACK: the value of a command other than THR_LOAD is a free value (the manual states none). -/
def ackWith (s : State) (i m code result : Nat) (f : Monitor → Monitor) : State :=
  let v := Config.freeNat s.free % 2 ^ 32
  s.draw.modMon i m fun x => { (if result = 0 then f x else x) with ack := some (code, result, v) }

/-- The result of a command with the other checks' result: a sender it does not follow is 0x02 (R99). -/
def ackResult (x : Monitor) (own : Bool) (r : Nat) : Nat := if x.followsUs == own then r else 2

def adjacent (l : List Nat) : Bool := l.any fun c => l.contains (c + 1)

/-- Result of a BLEED_SET (R117). -/
def bleedResult (x : Monitor) (mask : BitVec 32) (floor duration : Nat) : Nat :=
  let chs := mapChannels mask
  let all := chs ++ (x.bleed.map (·.ch)).filter fun c => !chs.contains c
  if duration < 10 ∨ 6000 < duration then 3
  else if floor < 2000 ∨ 4500 < floor ∨ 8 < all.length ∨ adjacent all then 1
  else match x.shuttle with
    | some sh => if (chs.contains sh.args.channel) then 1 else 0
    | none => 0

def execBleedSet (t : Nat) (i m : Nat) (own : Bool) (mask : BitVec 32) (floor duration : Nat) (s : State) : Out State :=
  let s := s.advance t
  let x := s.monAt i m
  let chs := mapChannels mask
  .next (match cmdFrame s i m own 1 with
    | (s, false) => s
    | (s, true) =>
      ackWith s i m 1 (ackResult x own (bleedResult x mask floor duration)) fun x =>
        { x with bleed := if x.dieLimit then [] else
                   (x.bleed.filter fun b => !chs.contains b.ch) ++
                     chs.map fun c => { ch := c, floor := floor, endT := s.clk + duration * 100 * nsMs } })

def execBleedStop (t : Nat) (i m : Nat) (own : Bool) (mask : BitVec 32) (s : State) : Out State :=
  let s := s.advance t
  .next (match cmdFrame s i m own 2 with
    | (s, false) => s
    | (s, true) =>
      ackWith s i m 2 (ackResult (s.monAt i m) own 0) fun x => { x with bleed := x.bleed.filter fun b => !mask.getLsbD b.ch })

/-- Result of a SHUTTLE_SET (R118): a running shuttle refuses it with 0x04, but for a renewal, which repeats the channel,
direction and current in force (07_balancing_dispatch.md R191). -/
def shuttleResult (x : Monitor) (a : ShuttleArgs) : Nat :=
  if 31 < a.channel ∨ a.current < 100 ∨ 3000 < a.current ∨ a.duration < 1 ∨ 600 < a.duration then 3
  else match x.shuttle with
    | some sh =>
      if sh.args.channel = a.channel ∧ sh.args.outOfCell = a.outOfCell ∧ sh.args.current = a.current then 0 else 4
    | none => 0

def execShuttleSet (t : Nat) (i m : Nat) (own : Bool) (a : ShuttleArgs) (s : State) : Out State :=
  let s := s.advance t
  let x := s.monAt i m
  .next (match cmdFrame s i m own 3 with
    | (s, false) => s
    | (s, true) =>
      ackWith s i m 3 (ackResult x own (shuttleResult x a)) fun x =>
        { x with shuttle := some { args := a, startT := s.clk, q0 := 0 }
                 cmdCur := if a.outOfCell then -(a.current : Int) else a.current })

def execShuttleStop (t : Nat) (i m : Nat) (own : Bool) (s : State) : Out State :=
  let s := s.advance t
  .next (match cmdFrame s i m own 4 with
    | (s, false) => s
    | (s, true) => ackWith s i m 4 (ackResult (s.monAt i m) own 0) fun x => { x with shuttle := none })

/-- A node disables or re-enables one of its ports. -/
def portCmd (t i m : Nat) (own : Bool) (port code : Nat) (off : Bool) (s : State) : State :=
  let s := s.advance t
  match cmdFrame s i m own code with
  | (s, false) => s
  | (s, true) =>
    ackWith s i m code (ackResult (s.monAt i m) own (if port < 2 then 0 else 3)) fun x =>
      if port = 0 then { x with port0Off := off } else { x with port1Off := off }

def execLinkDisable (t : Nat) (i m : Nat) (own : Bool) (port : Nat) (s : State) : Out State :=
  .next (portCmd t i m own port 0x11 true s)

def execLinkEnable (t : Nat) (i m : Nat) (own : Bool) (port : Nat) (s : State) : Out State :=
  .next (portCmd t i m own port 0x12 false s)

/-- ACK: the credit returns, a refusal is counted; result 0x02 stops the planner on the ring until its next cycle
(07_balancing_dispatch.md R193); a THR_LOAD whose value is the set's checksum is done (10_safety.md R305). -/
def execAck (t : Nat) (i m seq code result value : Nat) (s : State) : Out State :=
  let s := s.advance t
  .next (if !ringRuns s i || !ringMaster s then s
    else match response s i m seq with
      | (s, none) => s
      | (s, some _) =>
        let s := if result = 0 then s else s.modRing i fun r => { r with refusedCmds := r.refusedCmds + 1 }
        let s := if result = 2 ∧ 1 ≤ code ∧ code ≤ 4 then s.modBal i fun b => { b with ringStopped := true } else s
        if code = 0x10 ∧ result = 0 ∧ s.saf.sp.set.isSome ∧ value = thrCrc (thrOf (s.setB .sp) i) then
          s.modRing i fun r => { r with thrTodo := r.thrTodo.filter (· ≠ m) }
        else s)

/-- A bleeding channel below its floor, or past its duration, stops. -/
def execBleedEnd (t : Nat) (i m ch vMv : Nat) (s : State) : Out State :=
  let s := s.advance t
  .next (s.modMon i m fun x =>
    { x with bleed := x.bleed.filter fun b => ¬ (b.ch = ch ∧ (vMv < b.floor ∨ b.endT ≤ s.clk)) })

/-- The shuttle stops at its charge limit, its duration or its voltage stop; charge is current times time. -/
def execShuttleEnd (t : Nat) (i m vMv : Nat) (s : State) : Out State :=
  let s := s.advance t
  .next (match (s.monAt i m).shuttle with
    | none => s
    | some sh =>
      let a := sh.args
      let ran := s.clk - sh.startT
      if a.duration * nsS ≤ ran ∨ (if a.outOfCell then vMv ≤ a.vStop else a.vStop ≤ vMv) ∨
          a.limit * 100000000 ≤ a.current * ran then
        s.modMon i m fun x => { x with shuttle := none } else s)

/-- BALANCE_READ: below 2 Hz, kind 0x02 from each monitor with a bleed or shuttle (R119). -/
def execBalanceRead (t : Nat) (i : Nat) (s : State) : Out State :=
  let s := s.advance t
  let r := s.ringAt i
  .next (if ringRuns s i && ringMaster s && decide (500000 < r.period) then
      ((List.range r.n).filter fun m => !(r.mon m).bleed.isEmpty || (r.mon m).shuttle.isSome).foldl
        (fun s m => sendFrame s i m 4 2 false) s
    else s)

/-! ## Commands (R121) -/

/-- The string is ISOLATED, HALTED or RETIRED and its ring has no enumeration under way. -/
def ringConflict (s : State) (i : Nat) : Option Nat :=
  if !([StrState.isolated, .halted, .retired].contains (s.strAt i).state) then some (conflictStr s i)
  else if (s.ringAt i).enumReq.isSome then some (conflictObj i)
  else none

def ringHead : List Field := [uf 0 1 0 7 0, uf 1 1 0 1 0, uf 2 1 2 16 16, rsv 3 1, uf 4 1 1 100 100, uf 5 1 1 100 10, rsv 6 2]

/-- Keeps a command until its enumeration's outcome. -/
def startEnum (s : State) (op : Nat) (q : Req) (i : Nat) (accept : Bool) : State :=
  let s := keepExec s op q
  s.modRing i fun r => { r with enumPending := true, enumAccept := accept, enumReq := some { req := q, opcode := op } }

/-- The declaration of a ring and the rates. -/
def storeRing (s : State) (p : Bytes) : State :=
  let i := getU p 0 1
  let n := getU p 2 1
  let s := s.modRing i fun r =>
    { r with declared := true, headEnd2 := getU p 1 1 == 1, n := n, served := false
             ids := (List.range n).map fun m => getU p (8 + 8 * m) 8 }
  retierStr { s with rings := { s.rings with rate := getU p 4 1, floatRate := getU p 5 1 } } i

/-- STR_SET_RING. -/
def execStrSetRing (q : Req) (s : State) : Out State :=
  command
    { op := 0x020F, len := fun p => lenIs (8 + 8 * getU p 2 1) p, roles := .as, h := false, pop := popString
      state := fun s q => if getU q.payload 0 1 < s.strings then ringConflict s (getU q.payload 0 1) else none
      arg := fun _ q => firstBad [badField ringHead q.payload, must ([10, 20, 25, 50, 100].contains (getU q.payload 4 1)) 4] }
    (fun s q => startEnum (storeRing s q.payload) 0x020F q (getU q.payload 0 1) false) q s

/-- STR_ENUMERATE. -/
def execStrEnumerate (q : Req) (s : State) : Out State :=
  command
    { op := 0x0210, len := lenIs 2, roles := .as, h := false, pop := popString
      state := fun s q => if getU q.payload 0 1 < s.strings then ringConflict s (getU q.payload 0 1) else none
      arg := fun s q => firstBad [must (decide (getU q.payload 0 1 < s.strings)) 0, must (decide (getU q.payload 1 1 < 2)) 1] }
    (fun s q => startEnum s 0x0210 q (getU q.payload 0 1) (getU q.payload 1 1 == 1)) q s

/-- Links that are off or broken now, by number from chain end 1. -/
def brokenLinks (r : Ring) : List Nat :=
  let head := if r.headEnd2 then r.n else 0
  r.linksOff.map (fun k => k / 2 + k % 2) ++ (if r.headUp then [] else [head]) ++ (if r.tailUp then [] else [r.n - head]) ++
    (match r.twoEnded, r.breakAt with | true, some (x, _) => [x] | _, _ => [])

/-- Disabling link `k` leaves a monitor between two breaks unreachable. -/
def cutsOff (r : Ring) (k : Nat) : Bool := (brokenLinks r).any fun x => x != k

/-- STR_RING_LINK: re-enabling a retired link restores it after its test (18_faults_peat_log.md R497). -/
def execStrRingLink (q : Req) (s : State) : Out State :=
  command
    { op := 0x0211, len := lenIs 4, roles := .as, h := false, pop := popString
      state := fun s q =>
        let p := q.payload
        if getU p 0 1 < s.strings ∧ getU p 3 1 = 0 ∧ cutsOff (s.ringAt (getU p 0 1)) (getU p 1 1 + getU p 2 1) then
          some (conflictObj (getU p 0 1)) else none
      arg := fun s q =>
        let p := q.payload
        firstBad [must (decide (getU p 0 1 < s.strings)) 0, must (decide (getU p 1 1 < (s.ringAt (getU p 0 1)).n)) 1,
                  must (decide (getU p 2 1 < 2)) 2, must (decide (getU p 3 1 < 2)) 3] }
    (fun s q =>
      let p := q.payload
      let i := getU p 0 1
      let pos := getU p 1 1
      let port := getU p 2 1
      let key := 2 * pos + port
      let other := if port = 0 then key - 1 else key + 1
      if getU p 3 1 = 0 then
        let s := s.modRing i fun r => { r with linksOff := key :: r.linksOff.filter (· ≠ key) }
        commit (retierStr (enterTwoEnded (commandLink s i pos port 0x11) i) i) 0x0211 q peerConfig []
      else
        let keys := if key = 0 then [key] else [key, other]
        let us := (keys.map (0x0300 + 32 * i + ·)).filter s.retired
        let s := s.modRing i fun r => { r with linksOff := r.linksOff.filter fun k => !keys.contains k || s.retired (0x0300 + 32 * i + k) }
        let s := commandLink s i pos port 0x12
        if us.isEmpty then commit (retierStr s i) 0x0211 q peerConfig [] else startRestore s 0x0211 q us none) q s

/-- Mode, break location, presence, sync errors, link and frame counters, losses and refused commands (log entry 14). -/
def ringInfo (s : State) (i : Nat) : Bytes :=
  let r := s.ringAt i
  let b := r.breakAt.getD (255, 255)
  let bits (f : Monitor → Bool) : Nat := bitsToNat ((List.range 16).map fun m => decide (m < r.n) && f (r.mon m))
  leU 1 i ++ leU 1 (bitsToNat [r.declared, r.headEnd2, r.served, r.enumFailed, r.twoEnded, r.headUp, r.tailUp, r.missedTwice]) ++
    leU 1 r.n ++ leU 1 r.schedId ++ leU 1 b.1 ++ leU 1 b.2 ++
    leU 2 (bits fun m => decide (m.absent < 4)) ++ leU 2 (bits (·.unreachable)) ++ leU 2 (bits (·.synced)) ++
    leU 2 (bits (·.alarmLine)) ++ leU 2 (bits (·.idMatch)) ++ leU 4 r.period ++ leU 4 r.round ++
    leU 4 r.lost ++ leU 4 r.late ++ leU 4 r.foreign ++ leU 4 r.refusedCmds ++
    (List.range 17).flatMap (fun k => leU 2 (tblGet 0 (2 * k) r.linkErrors + (if k = 0 then 0 else tblGet 0 (2 * k - 1) r.linkErrors))) ++
    (List.range 17).flatMap (fun k => leU 4 (max (tblGet 0 (2 * k) r.linkDelay) (if k = 0 then 0 else tblGet 0 (2 * k - 1) r.linkDelay))) ++
    (List.range 16).flatMap fun m => leS 2 (((r.mon m).round.map (·.timeErr)).getD 0)

def execStrGetRing (q : Req) (s : State) : Out State := getI 0x0212 false true true (fun s => s.strings) ringInfo q s

/-- *Round data* as its bytes. -/
def roundBytes (d : RoundData) : Bytes :=
  leU 4 d.round ++ leU 2 d.status.toNat ++ leU 2 d.thrCrc.toNat ++ leU 4 d.ovMap.toNat ++ leU 4 d.uvMap.toNat ++
    leU 4 d.openMap.toNat ++ leU 1 d.otMap.toNat ++ leU 1 d.shuttleCh ++ leS 2 d.timeErr ++
    (List.range 32).flatMap (fun k => leU 2 (d.vCell.getD k 0)) ++ (List.range 8).flatMap (fun k => leS 2 (d.tSens.getD k 0)) ++
    leU 4 d.bleedMap.toNat ++ leU 4 d.qShuttle.toNat ++ leU 4 d.qBleed.toNat ++ leU 2 d.vStack ++ leS 2 d.iShuttle

/-- The latest DATA of each monitor of the ring in position order, zeros where there is none (log entry 14). -/
def roundInfo (s : State) (i : Nat) : Bytes :=
  let r := s.ringAt i
  if !r.declared then []
  else (List.range r.n).flatMap fun m => match (r.mon m).round with
    | some d => roundBytes d
    | none => List.replicate 120 0

def execStrGetRound (q : Req) (s : State) : Out State := getI 0x0213 false true true (fun s => s.strings) roundInfo q s

end Sys2Proof.Machine
end

