-- ==== Sys2Proof/Machine/Cee.lean ====
section
/-! DEFINITION. The Cell Estimation Engine: steps, charge books, state of power, journal and EST commands
(05_cell_estimation.md). -/

namespace Sys2Proof.Machine

/-- The CEE runs (*Clock domains*): EST and TIME, and it is neither retired nor under test. -/
def ceeRuns (s : State) : Bool :=
  hostServed s && !s.asleep && s.pwr.state != .retention && s.pwr.state != .unpowered &&
    !s.clockLost .est && !s.clockLost .time && !s.unitOut uCee

def modelOf (s : State) (i : Nat) : Bytes := s.cee.model.getD (modelSlot s i) []

/-- 1 C of string `i` in µA (R128); 0 without a model table. -/
def oneC (s : State) (i : Nat) : Nat := mtQ (modelOf s i) * 1000 / 3600

/-- Mean of the aligned currents of the last 1 s, µA, and mean of their magnitudes (R128, R142). -/
def alignedMean (s : State) (i : Nat) : Int :=
  let l := (s.hviAt i).recent.map (·.2)
  if l.isEmpty then 0 else l.sum / l.length
def meanAbsI (s : State) (i : Nat) : Int :=
  let l := (s.hviAt i).recent.map fun e => absI e.2
  if l.isEmpty then 0 else l.sum / l.length

/-- |I| is at or above `k` thousandths of C. -/
def atLeastC (s : State) (i k : Nat) (cur : Int) : Bool := decide ((oneC s i * k : Nat) ≤ 1000 * absI cur)

/-! ## Step rate (R128, R129) -/

/-- Step rate of a band in units of 0.1 Hz. -/
def bandRate : Band → Nat | .high => 100 | .mid => 10 | .low => 1 | .rest => 10

/-- The step divider at round period `p` µs. -/
def divider (p : Nat) (b : Band) : Nat := max 1 (10000000 / (max 1 p * bandRate b))

def stepDivider (s : State) (i : Nat) : Nat := divider (s.ringAt i).period (s.estAt i).band

/-- Step period in ns. -/
def stepPeriod (s : State) (i : Nat) : Nat := stepDivider s i * (s.ringAt i).period * nsUs

/-- The band changes: upward from the next round, downward from the next step instant of the old rate. -/
def changeBand (s : State) (i : Nat) (b : Band) (up : Bool) : State :=
  let d := stepDivider s i
  let k := (s.ringAt i).round
  s.modEst i fun e =>
    { e with band := b, lowSince := none
             rateRound := if up then k + 1 else e.rateRound + ((k - e.rateRound) / d + 1) * d }

/-- |I| lies below the level at which the band is left downward. -/
def belowBand (s : State) (i : Nat) : Bool :=
  match (s.estAt i).band with
  | .high => !atLeastC s i 40 (alignedMean s i)
  | .mid => !atLeastC s i 4 (alignedMean s i)
  | _ => false

def execStepRateChange (t : Nat) (i : Nat) (s : State) : Out State :=
  let s := s.advance t
  let e := s.estAt i
  let dwell := heldFor s e.lowSince (10 * nsS) && belowBand s i
  .next (if !s.isStr i || !ceeRuns s || oneC s i = 0 then s
    else match e.band with
      | .rest => s
      | .high => if dwell then changeBand s i .mid false else s
      | .mid =>
        if atLeastC s i 50 (alignedMean s i) then changeBand s i .high true else if dwell then changeBand s i .low false else s
      | .low =>
        if atLeastC s i 50 (alignedMean s i) then changeBand s i .high true
        else if atLeastC s i 5 (alignedMean s i) then changeBand s i .mid true else s)

/-- The newest round of ring `i` is closed and a step falls on it. -/
def stepDue (s : State) (i : Nat) : Bool :=
  let r := s.ringAt i
  let e := s.estAt i
  let d := stepDivider s i
  let k := r.round
  r.declared && r.served && !r.roundOpen && decide (r.roundT0 ≤ r.publishT) && decide (0 < r.publishT) &&
    match e.stepRound with
    | none => true
    | some j => decide (k < j) || (decide (e.rateRound ≤ k) && (decide (j < e.rateRound) || decide ((j - e.rateRound) / d < (k - e.rateRound) / d)))

/-! ## A cell's step (R123 to R127, R131, R132, R136, R138, R140, R141) -/

def Cell.x (c : Cell) : List Rat := [c.soc, c.vp1, c.vp2, c.h, c.q]
def Cell.setX (c : Cell) (x : List Rat) : Cell :=
  { c with soc := xAt x 0, vp1 := xAt x 1, vp2 := xAt x 2, h := xAt x 3, q := xAt x 4 }

/-- The surface reading assigned to a cell, units of 0.01 °C: its sensor's newest value; a broken one keeps the last. -/
def surfaceT (s : State) (i k : Nat) : Int :=
  let m := k / 32
  let c := s.cellAt (512 * i + k)
  match (s.monAt i m).round with
  | none => c.tSurface
  | some d =>
    let v := d.tSens.getD (sensorOf s i (k % 32)) 32767
    if v = 32767 then c.tSurface else v

/-- The core temperature is used: enabled, valid and no older than 60 s (R131). -/
def coreUsed (s : State) (i : Nat) (c : Cell) : Bool :=
  estFlag s i 2 && c.core.isSome && decide (s.clk ≤ c.coreT + 60 * nsS)

def rawT (s : State) (i k : Nat) : Int :=
  let c := s.cellAt (512 * i + k)
  if coreUsed s i c then c.core.getD 0 else surfaceT s i k

/-- T of a cell (R131): clamped to the ends of the model table's temperature axis. -/
def usedT (s : State) (i k : Nat) : Int :=
  let b := modelOf s i
  max (getS b 192 2) (min (getS b 206 2) (rawT s i k))

/-- Process noise of the configuration in the state's order (R123, R140, R145). -/
def noiseOf (s : State) (i : Nat) : List Rat :=
  let f (off : Nat) : Rat := f32Dec (getU (estCfg s i) off 4)
  let soc := if (s.hviAt i).uncertain then 100 * f 80 else f 80
  [soc, f 84, f 84, f 88, if estFlag s i 0 then f 92 else 0]

def sigmaV (s : State) (i : Nat) : Rat := (getU (estCfg s i) 78 2 : Rat) / 1000000

/-- What of the journal entry counts for the string's model table (R136). -/
def journalFits (mt : Bytes) (j : JEntry) : Bool := j.present && j.modelId == mtId mt

/-- Time of the newer valid journal slot, TSU ns. -/
def journalTime (s : State) : Nat :=
  let j := s.cee.journal
  match newerSlot j.slot0 j.slot1 with
  | none => 0
  | some x => if x.seq = j.slot0.seq ∧ j.slot0.valid then j.time0 else j.time1

/-- Starts the filter of cell `k` of string `i` at voltage `v` V (R136). Variances the manual does not state (h, and Q
with no journal entry) are free values. -/
def startCell (s : State) (i k tk : Nat) (v : Rat) (vRaw : Nat) : State :=
  let mt := modelOf s i
  let idx := 512 * i + k
  let c := s.cellAt idx
  let j := c.journal
  let fits := journalFits mt j
  let t := usedT s i k
  let qInit := getU (estCfg s i) 4 4
  let q : Rat := if fits then (j.capacity : Rat) / 1000 else if qInit = 0 then mtQC mt else (qInit : Rat) / 1000
  let h : Rat := if fits then (j.hyst : Rat) / 32768 else 0
  let (soc, sd, flat) := invertOcv mt t h v (sigmaV s i)
  let sj : Rat := 1 / 100 + ((s.tsu.now - journalTime s : Nat) : Rat) / (86400 * nsS : Nat) / 100
  let mix : Bool := flat && j.present
  let wj := 1 / (sj * sj)
  let w0 := 1 / (sd * sd)
  let soc := if mix then (w0 * soc + wj * ((j.soc : Rat) / 10000000)) / (w0 + wj) else soc
  let varS := if mix then 1 / (w0 + wj) else sd * sd
  let n := s.free
  let varH := Config.freeRat n
  let sq : Rat := (j.capSigma : Rat) / 1000
  let varQ := if fits then sq * sq else Config.freeRat (n + 1)
  let p := clipCov mt (triangle fun r c => if r ≠ c then 0 else
    if r = 0 then varS else if r = 3 then varH else if r = 4 then varQ else 25 / 1000000)
  let g : Rat := clampR (8 / 10) 3 (if fits then (j.growth : Rat) / 10000 else 1)
  let s := s.draw.draw
  s.modCell idx fun c =>
    { (c.setX [soc, 0, 0, h, q]) with
      started := true, p := p, p0 := p, g := g, rOhm := g * rOhmOf mt soc t, rFromTable := true, rOhmT := c.rOhmT
      unlearned := !(fits && j.learned), rejects := 0, rejected := false, diverged := false, resetT := 0, anchored := false
      run := 0, stale := false, stepT := tk, steps := 0, gen := c.gen + 2, v := vRaw, t := t, tSurface := surfaceT s i k
      predOnly := false, extrapolated := tOutside mt (rawT s i k), innov := 0, nis := 0 }

/-- P back to its start-up value with SOC, h and Q kept (R126). -/
def resetCov (s : State) (idx : Nat) : State :=
  let s := s.modCell idx fun c =>
    { c with p := c.p0, vp1 := 0, vp2 := 0, rejects := 0, diverged := true, resetT := s.clk
             divergences := s.clk :: c.divergences.filter fun t => s.clk < t + 3600 * nsS }
  let s := s.setCee fun e => { e with diverged := e.diverged + 1 }
  groupRecord s gEst srcCee (if 3 ≤ (s.cellAt idx).divergences.length then lvWarn else lvInfo) 126 idx 0

/-- Applies the measurement update to a cell after its time update (R125, R126). -/
def measure (s : State) (n i k : Nat) (x p : List Rat) (pts : List (List Rat)) (v cur : Rat) (t : Int) : State :=
  let mt := modelOf s i
  let idx := 512 * i + k
  let c := s.cellAt idx
  let (x2, p2, innov, nis) := measurementUpdate n mt pts t cur c.rOhm (sigmaV s i * sigmaV s i) v x p
  let ok : Bool := decide (nis * 100 ≤ (getU (estCfg s i) 100 2 : Rat))
  if ok then
    s.modCell idx fun c =>
      { (c.setX (clipState mt (if estFlag s i 0 then x2 else x2.set 4 c.q))) with
        p := clipCov mt p2, innov := innov, nis := nis, rejected := false, rejects := 0, diverged := false }
  else
    let s := s.modCell idx fun c =>
      { (c.setX x) with p := p, innov := innov, nis := nis, rejected := true, rejects := c.rejects + 1 }
    if rejectLimit s i ≤ (s.cellAt idx).rejects then resetCov s idx else s

/-- Hysteresis anchoring (R141): the charge since the last change of sign of Δq, nC, against the saturation charge. -/
def anchorStep (s : State) (i idx : Nat) (dq : Int) : State :=
  s.modCell idx fun c =>
    let run := if dq = 0 then c.run else if (0 < dq) = (0 < c.run) ∧ c.run ≠ 0 then c.run + dq else dq
    let sat : Rat := (getU (estCfg s i) 96 4 : Rat) / 10000 * c.q * 1000000000
    let on : Bool := decide (sat < (absI run : Rat))
    { c with run := run, anchored := on, p := if on then anchorCov c.p else c.p }

/-- R_ohm follows the table with g frozen once no qualifying result has come for 1 h (R132). -/
def ohmStep (s : State) (mt : Bytes) (t : Int) (idx : Nat) : State :=
  s.modCell idx fun c =>
    if c.rFromTable || decide (c.rOhmT + 3600 * nsS ≤ s.clk) then
      { c with rFromTable := true, rOhm := c.g * rOhmOf mt c.soc t }
    else c

/-- Books of a cell's step (R138): q_bal by the booked charge, q_cc by both. -/
def bookStep (dInt : Int) (c : Cell) : Cell :=
  { c with qbal := c.qbal + c.dBal, qcc := c.qcc + dInt + c.dBal, dBal := 0 }

/-- Marks a capacity learned once its standard deviation is below 1 % of Q (R145). -/
def learnStep (c : Cell) : Cell :=
  if pAt c.p 4 4 * 10000 < c.q * c.q then { c with unlearned := false } else c

/-- One step of cell `k` of string `i` at TSU instant `tk`: `dInt` nC by the integrator over `dt` s, `cur` A and `curMa`
aligned at tk. -/
def stepCell (i tk : Nat) (dInt : Int) (dt cur : Rat) (curMa : Int) (s : State) (k : Nat) : State :=
  let mt := modelOf s i
  let idx := 512 * i + k
  let x := s.monAt i (k / 32)
  let got := x.got && !s.unitOut (uMon i (k / 32))
  let d := if got then x.round else none
  let c := s.cellAt idx
  let low := !atLeastC s i 5 (s.hviAt i).aligned.current
  let use := match d with | none => false | some r => r.status.getLsbD 0 || low
  let vRaw : Nat := match d with | none => c.v | some r => r.vCell.getD (k % 32) 0
  let v : Rat := (vRaw : Rat) / 10000
  if !c.started then
    match d with
    | none => s.modCell idx (bookStep dInt)
    | some _ => startCell (s.modCell idx (bookStep dInt)) i k tk v vRaw
  else
    let dq := dInt + c.dBal
    let t := usedT s i k
    let s := ohmStep s mt t idx
    let n := s.free
    let s := s.draw
    let c := s.cellAt idx
    let s := match timeUpdate n mt c.g t dt ((dq : Rat) / 1000000000) (noiseOf s i) c.x c.p with
      | none => resetCov s idx
      | some (x1, p1, pts) =>
        let s := s.modCell idx fun c =>
          (c.setX (if estFlag s i 0 then x1 else x1.set 4 c.q))
        if use then
          match measurePoints mt (s.cellAt idx).x p1 pts with
          | none => resetCov s idx
          | some pts => measure s n i k (s.cellAt idx).x p1 pts v cur t
        else s.modCell idx fun c => { c with p := p1, rejected := false }
    let s := anchorStep s i idx dq
    s.modCell idx fun c =>
      let c := learnStep (bookStep dInt c)
      { c with
        predOnly := !use, unsynced := match d with | none => false | some r => !r.status.getLsbD 0
        stale := false, stepT := tk, steps := (c.steps + 1) % 2 ^ 32, gen := c.gen + 2, v := vRaw, iMa := curMa, t := t
        tSurface := surfaceT s i k
        extrapolated := tOutside mt (rawT s i k) || decide (c.soc < 0) || decide (1 < c.soc) }

/-- Number of present cells of string `i`. -/
def presentN (s : State) (i : Nat) : Nat := (presentCells s i).length

/-- Books check after a string's step (R139): the sum of Δq_cc equals N × Δq_int plus the bookings, in nC. -/
def booksCheck (s0 s1 : State) (i : Nat) (dInt : Int) : State :=
  let cells := presentCells s0 i
  let dcc := (cells.map fun c => (s1.cellAt c).qcc - (s0.cellAt c).qcc).sum
  let booked := (cells.map fun c => (s0.cellAt c).dBal).sum
  let s := s1.modEst i fun e => { e with bookChecks := e.bookChecks + 1 }
  if dcc = (cells.length : Int) * dInt + booked then s
  else detected (s.modEst i fun e => { e with bookFailures := e.bookFailures + 1 }) uCee 139 i

/-- The step of string `i`: every present cell, then the books check. -/
def stepString (s : State) (i : Nat) : State :=
  let r := s.ringAt i
  let e := s.estAt i
  let a := (s.hviAt i).aligned
  let tk := s.tsu.now - (s.clk - r.roundT0)
  let acc := a.acc / 10000
  let dInt := if e.stepRound.isNone then 0 else acc - e.lastAcc
  let dt : Rat := if e.stepRound.isNone then 0 else ((tk - e.lastStep : Nat) : Rat) / nsS
  let s1 := (List.range (32 * r.n)).foldl
    (stepCell i tk dInt dt ((a.current : Rat) / 1000000) (roundDiv a.current 1000)) s
  let s2 := booksCheck s s1 i dInt
  s2.modEst i fun e => { e with stepRound := some r.round, lastStep := tk, lastAcc := acc }

/-- Stale estimates (R151): no step for three periods after the expected instant. -/
def judgeStale (s : State) (i : Nat) : State :=
  let lim := 4 * stepPeriod s i
  (presentCells s i).foldl (fun s c =>
    if (s.cellAt c).stepT + lim ≤ s.tsu.now ∨ !(s.cellAt c).started then s.modCell c fun x => { x with stale := true } else s) s

/-! ## State of power (R144) -/

/-- Terminal voltage in V at the end of `hz` s at constant current `i` A (R123), in binary32. -/
def endVoltage (n k : Nat) (mt : Bytes) (c : Cell) (hz : Nat) (i : Rat) : Rat :=
  let x := propagate mt c.g c.t hz (i * hz) c.x
  Config.f32 n k (voltageOf mt c.t i c.rOhm x)

/-- Whether a cell at constant current `i` A for `hz` s ends with its voltage, and with its SOC, inside the limits of the
configuration; with the sigma guard SOC starts k × σ nearer the limit. -/
def endsInside (s : State) (n str hz : Nat) (chg : Bool) (idx : Nat) (i : Rat) : Bool × Bool :=
  let cfg := estCfg s str
  let c := s.cellAt idx
  let guard : Rat := if estFlag s str 3 then (getU cfg 3 1 : Rat) / 10 * Config.sqrtR (pAt c.p 0 0) else 0
  let c := { c with soc := if chg then c.soc + guard else c.soc - guard }
  let i := if chg then i else -i
  let v := endVoltage n 8192 (modelOf s str) c hz i
  let soc := xAt (propagate (modelOf s str) c.g c.t hz (i * hz) c.x) 0
  (decide ((getU cfg 8 2 : Rat) ≤ v * 1000) && decide (v * 1000 ≤ (getU cfg 10 2 : Rat)),
    decide ((getU cfg 12 2 : Rat) ≤ soc * 10000) && decide (soc * 10000 ≤ (getU cfg 14 2 : Rat)))

/-- Bisection: `k` iterations on the bracket from `lo` to `hi`, with what the test at `hi` found. -/
def bisect (test : Rat → Bool × Bool) : Nat → Rat → Rat → Bool × Bool → Rat × Bool × Bool
  | 0, lo, _, r => (lo, r)
  | k + 1, lo, hi, r =>
    let mid := (lo + hi) / 2
    let m := test mid
    if m.1 && m.2 then bisect test k mid hi r else bisect test k lo mid m

/-- The largest current of one cell in mA, and whether SOC sets it. -/
def cellLimit (s : State) (n i hz : Nat) (chg : Bool) (idx : Nat) : Nat × Bool :=
  let (a, v, soc) := bisect (endsInside s n i hz chg idx) 16 0 (Config.bisectTop hz chg) (true, true)
  ((a * 1000).floor.toNat, if v == soc then Config.socReason hz chg else !soc)

/-- The derating current at a temperature, mA: linear between the table's points and clamped at its ends. -/
def derate (s : State) (i : Nat) (chg : Bool) (t : Int) : Nat :=
  let b := estCfg s i
  let ax : List Rat := (List.range 8).map fun k => (getS b (24 + 2 * k) 2 : Rat)
  let (k, f) := axisPos ax t
  let v (k : Nat) : Rat := (getU b ((if chg then 40 else 56) + 2 * k) 2 : Rat)
  ((1 - f) * v k + f * v (k + 1)) * (iContMax s i : Rat) / 1000 |>.floor.toNat

/-- The limit of one cell with its reason: its own bisection or the derating, whichever is lower. -/
def cellSop (s : State) (n i hz : Nat) (chg : Bool) (idx : Nat) : Nat × Nat × Nat :=
  let c := s.cellAt idx
  let (a, bySoc) := cellLimit s n i hz chg idx
  let d := derate s i chg c.t
  if d < a then (d, 2, idx) else (a, bySoc.toNat, idx)

/-- The lowest of the cells' limits, the first on a tie. -/
def lowest : List (Nat × Nat × Nat) → Nat × Nat × Nat
  | [] => (0, 4, 0)
  | [e] => e
  | e :: t => let m := lowest t; if m.1 < e.1 then m else e

/-- One horizon and direction of string `i`: limit in mA, power in W, cell and reason. -/
def stringSop (s : State) (n i hz : Nat) (chg : Bool) : Nat × Nat × Nat × Nat :=
  let cells := presentCells s i
  let low := lowest (cells.map (cellSop s n i hz chg))
  let rating := if hz = 2 then iPeakMax s i else iContMax s i
  let (cur, reason) := if rating < low.1 then (rating, 3) else (low.1, low.2.1)
  let amps : Rat := (cur : Rat) / 1000
  let volts := (cells.mapIdx fun k c => endVoltage n k (modelOf s i) (s.cellAt c) hz (if chg then amps else -amps)).sum
  (cur, (amps * volts).floor.toNat, low.2.2, reason)

/-- The record of a horizon. -/
def horizon (s : State) (n i hz : Nat) : Sop :=
  let c := stringSop s n i hz true
  let d := stringSop s n i hz false
  { iChg := c.1, iDis := d.1, pChg := c.2.1, pDis := d.2.1, cellChg := c.2.2.1, cellDis := d.2.2.1
    reasonChg := c.2.2.2, reasonDis := d.2.2.2 }

/-- State of power of string `i`; all limits 0 with reason 4 where a present cell is stale. The per-cell limits are optional
work. -/
def sopString (optional : Bool) (s : State) (i : Nat) : State :=
  let cells := presentCells s i
  let stale : Bool := cells.isEmpty || cells.any fun c => (s.cellAt c).stale
  if stale then s.modEst i fun e => { e with sop0 := {}, sop1 := {}, sop2 := {}, sopT := s.tsu.now, sopStale := true }
  else
    let n := s.free
    let s := s.draw
    let a := horizon s n i 2
    let b := horizon s n i 10
    let c := horizon s n i 60
    let s := s.modEst i fun e => { e with sop0 := a, sop1 := b, sop2 := c, sopT := s.tsu.now, sopStale := false }
    if optional then
      let one (hz : Nat) (chg : Bool) (c : Nat) : Nat := (cellSop s n i hz chg c).1
      cells.foldl (fun s c => s.modCell c fun x =>
        { x with sop := [one 2 true c, one 2 false c, one 10 true c, one 10 false c, one 60 true c, one 60 false c] }) s
    else s

/-! ## The journal (R145 to R149) -/

/-- The journal entry of a cell as a snapshot takes it. How equivalent full cycles and the lifetime mean temperature accumulate
the manual does not state: free values, unless a STANDBY unit has adopted the partner's (R137). -/
def snapshotCell (s : State) (n idx : Nat) : JEntry :=
  let c := s.cellAt idx
  let mt := modelOf s (idx / 512)
  if !c.started then c.journal
  else
    { capacity := (roundR (c.q * 1000)).toNat, capSigma := (roundR (Config.sqrtR (pAt c.p 4 4) * 1000)).toNat
      soc := (roundR (clampR 0 2 c.soc * 10000000)).toNat, hyst := roundR (c.h * 32768), growth := (roundR (c.g * 10000)).toNat
      rOhm := (roundR (c.rOhm * 100000000)).toNat, efc := (c.adopted.map (·.1)).getD (Config.freeNat (n + 2 * idx) % 2 ^ 32)
      tMean := (c.adopted.map (·.2)).getD ((Config.freeNat (n + 2 * idx + 1) % 2 ^ 16 : Nat) - 32768), modelId := mtId mt, learned := !c.unlearned, present := true
      firstT := if c.journal.present then c.journal.firstT else s.tsu.now }

/-- Starts a write to the slot that is not the newer valid one. -/
def beginJournal (s : State) : State :=
  let j := s.cee.journal
  let n := s.free
  let newer := newerSlot j.slot0 j.slot1
  let seq := match newer with | none => 1 | some x => (x.seq + 1) % 2 ^ 32
  let to1 : Bool := match newer with | none => false | some x => x.seq == j.slot0.seq && j.slot0.valid
  let body := (s.cee.cells.map fun e => (e.1, snapshotCell s n e.1)).filter fun e => e.2.present
  let slot : Slot2 (List (Nat × JEntry)) := { valid := false, seq := seq, body := body }
  let s := { s with free := s.free + 8192 }
  s.setCee fun c =>
    { c with
      cells := c.cells.map fun e => (e.1, { e.2 with journal := tblGet e.2.journal e.1 body, adopted := none })
      offsets := (c.cells.filter fun e => e.2.offset != 0 || e.2.offLearned).map fun e => (e.1, e.2.offset)
      journal := { j with slot0 := if to1 then j.slot0 else slot, slot1 := if to1 then slot else j.slot1
                          time0 := if to1 then j.time0 else s.tsu.now, time1 := if to1 then s.tsu.now else j.time1
                          writing := some (if to1 then 1 else 0), again := none, lastT := s.clk } }

/-- A trigger for `reason`: one more write after the one in progress, or now where R40 passes, else under R40. -/
def triggerJournal (s : State) (reason : Nat) : State :=
  let again (s : State) : State := s.setCee fun c => { c with journal := { c.journal with again := some reason } }
  if s.cee.journal.writing.isSome then again s
  else if energyOk s then beginJournal s
  else deferWrite (again s) wrJournal

/-- A learned capacity differs by 0.2 % or more from its journal value. -/
def learnedMoved (s : State) : Bool :=
  s.cee.cells.any fun e =>
    let c := e.2
    c.started && !c.unlearned && c.journal.present &&
      decide ((c.journal.capacity : Rat) * 2 / 1000 ≤ absR (c.q * 1000 - c.journal.capacity))

/-- JOURNAL_WRITE: 0 every 6 h, 1 a learned change at most once in 10 min, 2 in HOLD-UP, 3 to 5 a trigger that waits; 4 also
the adoption of a STANDBY unit. -/
def execJournalWrite (t : Nat) (reason : Nat) (s : State) : Out State :=
  let s := s.advance t
  let j := s.cee.journal
  let due := match reason with
    | 0 => decide (j.lastT + 21600 * nsS ≤ s.clk)
    | 1 => learnedMoved s && decide (j.changeT + 600 * nsS ≤ s.clk)
    | 2 => s.pwr.state == .holdup
    | 4 => s.unit == .standby
    | r => j.again == some r
  .next (if !hostServed s || s.clockLost .est || s.asleep || !due then s
    else
      let s := if reason = 1 then s.setCee fun c => { c with journal := { c.journal with changeT := s.clk } } else s
      triggerJournal s reason)

/-- JOURNAL_WRITE_DONE: the slot is valid; a trigger that arrived meanwhile is served by one further write. -/
def execJournalWriteDone (t : Nat) (s : State) : Out State :=
  let s := s.advance t
  let j := s.cee.journal
  .next (match j.writing with
    | none => s
    | some k =>
      let s := s.setCee fun c =>
        { c with journal := { j with writing := none, slot0 := if k = 0 then { j.slot0 with valid := true } else j.slot0
                                     slot1 := if k = 1 then { j.slot1 with valid := true } else j.slot1 } }
      match j.again with
      | none => s
      | some r => triggerJournal s r)

/-- BOOT: the newer valid slot is loaded; with none every cell starts unlearned, with a record at warning level. An offset is
taken only where its cell's entry is present and its model_id matches (06_impedance_thermal.md R175). -/
def loadJournal (s : State) : State :=
  let j := s.cee.journal
  let j := match j.writing with
    | none => j
    | some k => { j with writing := none, slot0 := if k = 0 then { j.slot0 with valid := false } else j.slot0
                         slot1 := if k = 1 then { j.slot1 with valid := false } else j.slot1 }
  let offs := s.cee.offsets
  let body := match newerSlot j.slot0 j.slot1 with | none => [] | some x => x.body
  let cell (e : Nat × JEntry) : Nat × Cell :=
    let o := tblGet 0 e.1 offs
    let fits := journalFits (modelOf s (e.1 / 512)) e.2 && offs.any (·.1 == e.1)
    (e.1, { journal := e.2, offset := if fits then o else 0, offLearned := fits })
  let s := s.setCee fun c => { c with cells := body.map cell, journal := { j with again := none } }
  let s := { s with cee := { s.cee with est := s.cee.est.map fun (e : Est) =>
    ({ cfg := e.cfg, anchorT := s.clk } : Est) } }
  if (newerSlot j.slot0 j.slot1).isNone then groupRecord s gEst srcCee lvWarn 147 0 0 else s

/-- Ageing anomaly (R145): more than 10 percentage points from the predicted retention, once per cell in 24 h. -/
def ageing (s : State) (idx : Nat) : State :=
  let c := s.cellAt idx
  let mt := modelOf s (idx / 512)
  let j := c.journal
  if !c.started || c.unlearned || !j.present || mtQ mt = 0 || (c.anomalyT != 0 && decide (s.clk < c.anomalyT + 86400 * nsS)) then s
  else
    let age : Rat := ((s.tsu.now - j.firstT : Nat) : Rat) / (31557600 * nsS : Nat)
    let want := retention mt ((j.efc : Rat) / 100) age j.tMean
    if 1 / 10 < absR (c.q / mtQC mt - want) then
      groupRecord (s.modCell idx fun c => { c with anomalyT := s.clk }) gEst srcCee lvInfo 145 idx 0
    else s

/-! ## Rests and anchors (R142, R143) -/

/-- Anchor age of string `i`, ns. -/
def anchorAge (s : State) (i : Nat) : Nat := s.clk - (s.estAt i).anchorT

/-- Tracks quiet intervals: one that lasts the rest duration restarts the anchor age. -/
def restTrack (s : State) (i : Nat) : State :=
  let quiet : Bool := !atLeastC s i 5 (meanAbsI s i) && oneC s i != 0 && !(s.hviAt i).recent.isEmpty
  let slow : Bool := !atLeastC s i 50 (meanAbsI s i) && oneC s i != 0
  let low := belowBand s i
  let s := s.modEst i fun e =>
    { e with restSince := track s quiet e.restSince, quietSince := track s slow e.quietSince
             lowSince := track s low e.lowSince
             rest := e.rest.map fun (r : Rest) => { r with counted := if quiet then some (r.counted.getD s.clk) else r.counted } }
  if heldFor s (s.estAt i).restSince (restDuration s i) then
    s.modEst i fun e => { e with anchorT := s.clk, overdue := false }
  else s

/-- REST_WINDOW_REQUEST: at the anchor interval, repeated every 1 h; not in FLOAT (02_power_states_clocks.md R44). -/
def execRestWindowRequest (t : Nat) (i : Nat) (s : State) : Out State :=
  let s := s.advance t
  let e := s.estAt i
  .next (if s.isStr i && s.unit.commands && s.pwr.state != .float && estFlag s i 1 && e.rest.isNone &&
        decide (anchorInterval s i ≤ anchorAge s i) && (e.requestT == 0 || decide (e.requestT + 3600 * nsS ≤ s.clk)) then
      s.modEst i fun e => { e with restRequested := true, requestT := s.clk } else s)

def execAnchorOverdue (t : Nat) (i : Nat) (s : State) : Out State :=
  let s := s.advance t
  .next (if s.isStr i && ceeRuns s && !(s.estAt i).overdue && decide (2 * anchorInterval s i ≤ anchorAge s i) then
      groupRecord (s.modEst i fun e => { e with overdue := true }) gEst srcCee lvWarn 143 i 0 else s)

/-! ## The period (R130, 01_system.md R32 to R34) -/

/-- Mandatory work of string `i` in a period, then its optional work. -/
def periodString (optional : Bool) (s : State) (i : Nat) : State :=
  let s := restTrack s i
  let s := if stepDue s i && mtQ (modelOf s i) != 0 then stepString s i else s
  let s := sopString optional (judgeStale s i) i
  if optional then (presentCells s i).foldl ageing s else s

/-- CEE_PERIOD: periods lie on the 100 ms grid of TIME; a period that starts after the end of the one before it catches up
with mandatory work only. The load it reports is a free value. -/
def execCeePeriod (t : Nat) (s : State) : Out State :=
  let s := s.advance t
  let k := s.tsu.now / (100 * nsMs)
  let want := s.cee.periodIdx
  .next (if !ceeRuns s || k < want then s
    else
      let late : Bool := decide (want < k) && decide (k ≤ want + 8) && want != 0
      let n := s.free
      let s := s.draw.setCee fun c =>
        { c with periodIdx := if late then want + 1 else k + 1, late := if late then c.late + 1 else 0
                 catchUp := if late then c.catchUp + 1 else c.catchUp, load := Config.freeNat n }
      icuShared ((List.range s.strings).foldl (periodString (!late)) s) 85)

/-- DEADLINE_FAULT of the CEE: the estimates are stale and the engine is charged (01_system.md R34). -/
def ceeDeadline (s : State) : State :=
  let s := s.setCee fun c =>
    { c with deadlines := c.deadlines + 1, late := 0, cells := c.cells.map fun e => (e.1, { e.2 with stale := true }) }
  detected s uCee 34 0

/-! ## *Cell table entry* (R150) -/

def bit (b : Bool) (k : Nat) : Nat := if b then 2 ^ k else 0

/-- The 256 bytes of the entry of cell `idx`. -/
def cellEntry (s : State) (idx : Nat) : Bytes :=
  let i := idx / 512
  let c := s.cellAt idx
  let head := leU 4 c.gen ++ leU 2 idx
  if !((presentCells s i).contains idx) then head ++ List.replicate 250 0
  else
    let mt := modelOf s i
    let e := s.estAt i
    let t : Rat := c.t
    let us (x : Rat) : Bytes := leS 4 (roundR (x * 1000000))
    let r (x : Rat) : Bytes := leU 4 (roundR (x * 100000000)).toNat
    let q := mtQC mt
    head ++
      leU 1 (bit true 0 + bit (c.stale || !c.started) 1 + bit c.unsynced 2 + bit c.rejected 3 + bit c.diverged 4 + bit c.extrapolated 5 +
        bit c.unlearned 6 + bit (coreUsed s i c) 7) ++
      leU 1 (bit c.predOnly 0 + bit c.rFromTable 1 + bit e.overdue 2 + bit (c.resetT != 0 && decide (s.clk < c.resetT + 60 * nsS)) 3 +
        bit c.anchored 4 + bit e.rest.isSome 5) ++
      leU 8 (c.stepT / nsS) ++ leU 4 (c.stepT % nsS) ++ leU 2 c.v ++
      leU 1 (match e.band with | .high => 0 | .mid => 1 | .low => 2 | .rest => 3) ++ leU 1 (modelSlot s i) ++
      leS 4 c.iMa ++ leS 4 (roundR (c.soc * 10000000)) ++ leU 4 (roundR (Config.sqrtR (pAt c.p 0 0) * 10000000)).toNat ++
      us c.vp1 ++ us c.vp2 ++ leS 2 (roundR (c.h * 32768)) ++ leU 2 (roundR (ocvOf mt c.soc t * 10000)).toNat ++
      leU 4 (roundR (c.q * 1000)).toNat ++ leU 4 (roundR (Config.sqrtR (pAt c.p 4 4) * 1000)).toNat ++
      r c.rOhm ++ r (c.g * rP1Of mt c.soc t) ++ r (c.g * rP2Of mt c.soc t) ++
      leU 4 (roundR (tauP1Of mt c.soc t * 1000)).toNat ++ leU 4 (roundR (tauP2Of mt c.soc t * 1000)).toNat ++
      leS 2 c.tSurface ++ leS 2 (c.core.getD (-32768)) ++ leS 2 c.t ++
      leU 2 (if q = 0 then 0 else (roundR (c.q / q * 10000)).toNat) ++ leU 2 (roundR (c.g * 10000)).toNat ++ leU 2 c.rejects ++
      leS 8 c.qcc ++ leS 8 c.qbal ++ us c.innov ++ leU 4 (roundR (c.nis * 1000)).toNat ++ leU 4 c.steps ++
      leU 4 (journalSeqOf s idx) ++ leU 4 (anchorAge s i / nsS) ++ leU 4 0 ++
      (List.range 15).flatMap (fun k => leU 4 (f32Enc (c.p.getD k 0))) ++ leU 4 0 ++
      (List.range 6).flatMap (fun k => leU 4 (c.sop.getD k 0)) ++ leU 8 (c.rOhmAt / nsS) ++ List.replicate 32 0
where
  /-- seq of the newest valid journal slot that holds the cell. -/
  journalSeqOf (s : State) (idx : Nat) : Nat :=
    match newerSlot s.cee.journal.slot0 s.cee.journal.slot1 with
    | none => 0
    | some x => if x.body.any (·.1 == idx) then x.seq else 0

/-- One byte of the live cell table. -/
def cellTableByte (s : State) (o : Nat) : Byte := if o / 256 < s.cells then (cellEntry s (o / 256)).getD (o % 256) 0 else 0

/-! ## Commands (R152, R153) -/

def stringOpen (s : State) (i : Nat) : Bool := [StrState.isolated, .halted, .retired].contains (s.strAt i).state

/-- A new estimation record. -/
def storeEst (s : State) (p : Bytes) : State := s.modEst (getU p 0 1) fun e => { e with cfg := p }

/-- EST_SET_CONFIG: model and sensor_map change only while the string is open. -/
def execEstSetConfig (q : Req) (s : State) : Out State :=
  command
    { op := 0x0401, len := lenIs 128, roles := .as, h := false, pop := popString
      state := fun s q =>
        let p := q.payload
        let i := getU p 0 1
        if i < s.strings ∧ (getU p 1 1 ≠ modelSlot s i ∨ slice p 104 12 ≠ slice (estCfg s i) 104 12) ∧ !stringOpen s i then
          some (conflictStr s i) else none
      arg := fun _ q => firstBad [badField estFields q.payload, estCheck q.payload] }
    (fun s q => commit (storeEst s q.payload) 0x0401 q peerConfig []) q s

def execEstGetConfig (q : Req) (s : State) : Out State := getI 0x0402 false true false (fun s => s.strings) estCfg q s

def execEstGetCells (q : Req) (s : State) : Out State := getC 0x0403 false true State.cells cellEntry q s

def execEstMapTable (q : Req) (s : State) : Out State := mapM 0x0404 0x03000000 (256 * s.cells) q s

/-- *State-of-power record*. -/
def sopRecord (s : State) (i : Nat) : Bytes :=
  let e := s.estAt i
  let cells := presentCells s i
  let one (x : Sop) : Bytes :=
    leU 4 x.iChg ++ leU 4 x.iDis ++ leU 4 x.pChg ++ leU 4 x.pDis ++ leU 2 x.cellChg ++ leU 2 x.cellDis ++
      leU 1 x.reasonChg ++ leU 1 x.reasonDis ++ leU 2 0
  leU 8 (e.sopT / nsS) ++ leU 4 (e.sopT % nsS) ++ leU 1 i ++
    leU 1 (bitsToNat [e.sopStale, estFlag s i 3, cells.any fun c => (s.cellAt c).extrapolated, e.overdue]) ++
    leU 2 cells.length ++ one e.sop0 ++ one e.sop1 ++ one e.sop2

def execEstGetSop (q : Req) (s : State) : Out State := getI 0x0405 false true true (fun s => s.strings) sopRecord q s

/-- The cells a range of u16 first and count names. -/
def cellRange (p : Bytes) : List Nat := (List.range (getU p 2 2)).map (getU p 0 2 + ·)

def rangePop (s : State) (p : Bytes) : Option Nat :=
  let first := getU p 0 2
  if s.cells < first ∨ (first = s.cells ∧ 0 < getU p 2 2) then some 0 else if s.cells < first + getU p 2 2 then some 2 else none

/-- The first string of a range of cells that is not open, as a conflict. -/
def rangeOpen (s : State) (p : Bytes) : Option Nat :=
  let first := getU p 0 2
  let n := getU p 2 2
  ((List.range s.strings).find? fun i => decide (first < 512 * (i + 1)) && decide (512 * i < first + n) && !stringOpen s i).map
    (conflictStr s)

/-- SOC and its standard deviation from the command. -/
def storeSoc (s : State) (p : Bytes) : State :=
  let soc : Rat := (getU p 4 4 : Rat) / 10000000
  let sd : Rat := (getU p 8 4 : Rat) / 10000000
  (cellRange p).foldl (fun s c =>
    if (presentCells s (c / 512)).contains c && (s.cellAt c).started then
      s.modCell c fun x => { x with soc := clampR (-5 / 100) (105 / 100) soc, p := (sd * sd) :: x.p.drop 1 } else s) s

/-- EST_SET_SOC. -/
def execEstSetSoc (q : Req) (s : State) : Out State :=
  command
    { op := 0x0406, len := lenIs 12, roles := .as, h := false, pop := rangePop, state := fun s q => rangeOpen s q.payload }
    (fun s q => commit (storeSoc s q.payload) 0x0406 q peerConfig []) q s

/-- The filters of the cells named start again at the next round. -/
def storeReset (s : State) (p : Bytes) : State :=
  (cellRange p).foldl (fun s c =>
    if (presentCells s (c / 512)).contains c then s.modCell c fun x => { x with started := false, stale := true } else s) s

/-- EST_RESET_CELL: the filters start again at the next round. -/
def execEstResetCell (q : Req) (s : State) : Out State :=
  command
    { op := 0x0407, len := lenIs 4, roles := .as, h := false, pop := rangePop, state := fun s q => rangeOpen s q.payload }
    (fun s q => commit (storeReset s q.payload) 0x0407 q peerConfig []) q s

/-- seq, time and validity of both slots (log entry 14). -/
def journalInfo (s : State) : Bytes :=
  let j := s.cee.journal
  let one (x : Slot2 (List (Nat × JEntry))) (t : Nat) : Bytes :=
    leU 4 x.seq ++ leU 8 (t / nsS) ++ leU 4 (t % nsS) ++ leB x.valid ++ [0, 0, 0]
  one j.slot0 j.time0 ++ one j.slot1 j.time1

def execEstJournal (q : Req) (s : State) : Out State :=
  command
    { op := 0x0408, len := lenIs 1, roles := .all, arg := fun _ q => must (decide (getU q.payload 0 1 < 2)) 0 }
    (fun s q => ok (if getU q.payload 0 1 = 1 then triggerJournal s 3 else s) 0x0408 q (journalInfo s)) q s

/-- EST_REQUEST_ANCHOR: the string REGULATING with rest windows enabled. -/
def execEstRequestAnchor (q : Req) (s : State) : Out State :=
  command
    { op := 0x0409, len := lenIs 4, roles := .as, h := false
      pop := fun s p => must (decide (getU p 0 1 < s.strings) || decide (8 ≤ getU p 0 1)) 0
      state := fun s q =>
        let i := getU q.payload 0 1
        if s.strings ≤ i then none
        else if (s.strAt i).state != .regulating then some (conflictStr s i)
        else if !estFlag s i 1 || !getBit (dspCfg s) 7 1 then some (conflictObj i) else none
      arg := fun s q => firstBad [must (decide (getU q.payload 0 1 < s.strings)) 0, zeroAt q.payload 1 1] }
    (fun s q =>
      ok (s.modEst (getU q.payload 0 1) fun e => { e with restRequested := true, requestT := s.clk }) 0x0409 q []) q s

/-- Period load, catch-up and deadline counts, books checks and divergence counts (log entry 14). -/
def estStatus (s : State) : Bytes :=
  leU 4 s.cee.load ++ leU 4 s.cee.catchUp ++ leU 4 s.cee.deadlines ++ leU 4 s.cee.diverged ++
    (List.range s.strings).flatMap fun i => leU 4 (s.estAt i).bookChecks ++ leU 4 (s.estAt i).bookFailures

def execEstGetStatus (q : Req) (s : State) : Out State := getNone 0x040A false estStatus q s

end Sys2Proof.Machine
end

