-- ==== Sys2Proof/Machine/Tpe.lean ====
section
/-! DEFINITION. The tone probe: plans, windows, injection, TONE frames, impedance results, core temperatures and precursor
indicators (06_impedance_thermal.md R155 to R176, R186, R187; 10_safety.md R299). -/

namespace Sys2Proof.Machine

/-! ## Plans (R155 to R158, R163) -/

/-- A frequency, mHz, lies more than `k` mHz from every multiple of `step` mHz from 1 × step on; `top` limits the multiples. -/
def awayFrom (f step k top : Nat) : Bool :=
  (List.range top).all fun j => let m := step * (j + 1); decide (f + k < m) || decide (m + k < f)

/-- More than 2 / W Hz from every positive multiple of a round rate (R156). -/
def roundClear (p : Bytes) (rate f : Nat) : Bool :=
  let w := getU p 2 1
  let step := rate * 1000
  let m := (f / step) * step
  let far (x : Nat) : Bool := x == 0 || decide (2000 < (if f < x then x - f else f - x) * w)
  far m && far (m + step)

/-- Conditions on tone `k` alone and against the tones before it; answers the offset of the field at fault. -/
def toneBad (s : State) (p : Bytes) (k : Nat) : Option Nat :=
  let f := toneFreq p k
  let off := 24 + 8 * k
  if planTones p ≤ k then firstBad [must (f == 0) off, must (toneAmp p k == 0) (off + 4), must (tonePhase p k == 0) (off + 6)]
  else
    firstBad
      [must (decide (100 ≤ f) && decide (f ≤ 2000000) && f * getU p 2 1 % 1000 == 0 &&
          (List.range k).all (fun j => let g := toneFreq p j
            f != g && f != 2 * g && f != 3 * g && g != 2 * f && g != 3 * f) &&
          awayFrom f (getU p 3 1 * 1000) 1000 6 && roundClear p s.rings.rate f) off,
        must (decide (20 ≤ toneAmp p k) && decide (toneAmp p k ≤ 200)) (off + 4)]

def planFields : List Field :=
  [uf 0 1 1 255 1, uf 1 1 0 8 1, uf 2 1 10 30 10, rsv 7 1, uf 16 4 0 999999999 0, rsv 20 4]

/-- What a plan must satisfy (R155 to R158, R163). One with no tones needs no other field. -/
def planBad (s : State) (p : Bytes) : Option Nat :=
  if planTones p = 0 then firstBad [must (getU p 0 1 != 0) 0, zeroAt p 7 1, zeroAt p 20 4, must (decide (getU p 6 1 < 2)) 6]
  else
    let n := planTones p
    firstBad ([badField planFields p, must (getU p 3 1 == 50 || getU p 3 1 == 60) 3,
        must ((List.range (pairCount s)).all fun k => let e := pairStrings s k; planHas p e.1 == planHas p e.2) 4,
        must (decide (getU p 5 1 < n) || getU p 5 1 == 255) 5, must (decide (getU p 6 1 < 2)) 6,
        must (decide (s.tsu.now + nsS ≤ planEpoch p)) 8,
        must (decide (((List.range n).map fun k => toneAmp p k).sum ≤ 200)) 28] ++
      (List.range 8).map fun k => toneBad s p k)

def execTpeSetPlan (q : Req) (s : State) : Out State :=
  command
    { op := 0x0501, len := lenIs 88, roles := .as, h := false
      pop := fun s p => must (planTones p == 0 || decide (getU p 4 1 < 2 ^ s.strings)) 4
      arg := fun s q => planBad s q.payload }
    (fun s q => commit (s.setTpe fun x => { x with pending := some q.payload }) 0x0501 q peerConfig []) q s

/-- The strings of a pair whose rings take the pair's string number. -/
def pairHas (p : Bytes) (s : State) (k : Nat) : Bool := let e := pairStrings s k; planHas p e.1 && planHas p e.2

/-- The TPE probes: the ACTIVE role or SOLO, in the ACTIVE power state (R44, R164). -/
def tpeRuns (s : State) : Bool := s.unit.commands && s.pwr.state == .active && timeRuns s && !s.clockLost .est

def State.pairAt (s : State) (k : Nat) : Pair := s.tpe.pairs.getD k {}
def modPair (s : State) (k : Nat) (f : Pair → Pair) : State := s.setTpe fun x => { x with pairs := x.pairs.modify k f }

/-- The pair carries tones: its envelope rises or stands. -/
def injecting (x : Pair) : Bool := match x.env with | .on | .rising _ => true | _ => false

/-- Stops injection on a pair: the envelope falls over 100 ms and the window in progress is aborted (R162). -/
def stopPair (s : State) (k : Nat) : State :=
  if injecting (s.pairAt k) then modPair s k fun x => { x with env := .falling s.clk, aborted := true } else s

/-- Start of the window of plan `p` at or after TSU instant `t`. -/
def windowAtOrAfter (p : Bytes) (t : Nat) : Nat :=
  let e := planEpoch p
  let w := max 1 (planWindow p)
  if t ≤ e then e else e + (t - e + w - 1) / w * w

/-- Phases, amplitudes and frequencies of two plans agree, so that a pair in both goes on without a ramp (R163). -/
def sameTones (a b : Bytes) : Bool :=
  planTones a == planTones b && slice a 24 64 == slice b 24 64 && planEpoch a % nsS == planEpoch b % nsS

/-- PLAN_EFFECT: the pending plan at the boundary of R163; a plan with no tones leaves none in force. -/
def execPlanEffect (t : Nat) (s : State) : Out State :=
  let s := s.advance t
  .next (match s.tpe.pending with
    | none => s
    | some p =>
      let at_ := match s.tpe.plan with
        | none => planEpoch p
        | some o => if planTones p = 0 then windowAtOrAfter o (s.tpe.windowT + 1) else windowAtOrAfter o (planEpoch p)
      if s.tsu.now < at_ then s
      else
        let old := s.tpe.plan
        let none? : Bool := planTones p == 0
        let s := (List.range (pairCount s)).foldl (fun s k =>
          let keeps := !none? && pairHas p s k && (match old with | none => true | some o => sameTones o p)
          if keeps then s else stopPair s k) s
        let s := if none? then s else progTrigger s 2 (planEpoch p) (planWindow p)
        s.setTpe fun x => { x with plan := if none? then none else some p, pending := none, windowIdx := 0
                                   windowT := if none? then x.windowT else planEpoch p })

/-! ## Injection (R159 to R164) -/

/-- Voltage of string `i` in units of 0.1 mV. -/
def vsOf (s : State) (i : Nat) : Int := (s.hviAt i).vs

/-- What keeps a pair from injecting: its status flags at a window start, with the scale of each string (R159, R160). -/
def pairStatus (s : State) (p : Bytes) (k : Nat) : Pair :=
  let x := s.pairAt k
  let (lo, hi) := pairStrings s k
  let a := vsOf s lo
  let b := vsOf s hi
  let low := min a b
  let high := max a b
  let mismatch : Bool := decide (low ≤ 0) || decide (5 * low < 4 * high)
  let sLo : Rat := if a = low ∨ a = 0 then 1 else (low : Rat) / a
  let sHi : Rat := if b = low ∨ b = 0 then 1 else (low : Rat) / b
  let peak (i : Nat) (sc : Rat) : Rat :=
    ((List.range (planTones p)).map fun j => (toneAmp p j : Rat) / 10000 * ((iContMax s i : Rat) / 1000) * sc).sum
  let tight (i : Nat) (sc : Rat) : Bool :=
    let (c, d) := junctionLimits s i
    let r := (s.convAt i).ref
    decide (c < r + peak i sc) || decide (d < peak i sc - r)
  let reg (i : Nat) : Bool := (s.strAt i).state == .regulating && (s.convAt i).rampThen.isNone
  { x with
    scaleLo := sLo, scaleHi := sHi, mismatch := mismatch, noHeadroom := !mismatch && (tight lo sLo || tight hi sHi)
    rateConflict := (List.range (planTones p)).any fun j => !roundClear p s.rings.rate (toneFreq p j)
    notRegulating := !(reg lo && reg hi), restWindow := (s.estAt lo).rest.isSome || (s.estAt hi).rest.isSome }

def Pair.blocked (x : Pair) : Bool := x.mismatch || x.noHeadroom || x.rateConflict || x.notRegulating || x.restWindow

/-- INJECTION_START: within the 100 ms before a window of the plan, for a pair that may inject. After assuming the role, not
before the first window at least 1 s later (R164). -/
def execInjectionStart (t : Nat) (pair : Nat) (s : State) : Out State :=
  let s := s.advance t
  .next (match s.tpe.plan with
    | none => s
    | some p =>
      let w := windowAtOrAfter p s.tsu.now
      let x := pairStatus s p pair
      if !tpeRuns s || pairCount s ≤ pair || !pairHas p s pair || injecting (s.pairAt pair) ||
          decide (s.tsu.now + 100 * nsMs < w) || (match s.tpe.startAt with | some a => decide (w < a) | none => false) then s
      else modPair s pair fun _ => if x.blocked then x else { x with env := .rising s.clk, aborted := false })

/-- A condition of R162 holds for pair `k`. -/
def mustStop (s : State) (k : Nat) : Bool :=
  let (lo, hi) := pairStrings s k
  let bad (i : Nat) : Bool := (s.strAt i).state != .regulating || (s.convAt i).rampThen.isSome || (s.estAt i).rest.isSome ||
    (s.saf.sp.at i).latch || (s.saf.sloe.at i).latch
  !tpeRuns s || bad lo || bad hi || (match s.tpe.plan with | none => true | some p => !pairHas p s k)

def execInjectionStop (t : Nat) (pair : Nat) (s : State) : Out State :=
  let s := s.advance t
  .next (if pair < pairCount s ∧ mustStop s pair then stopPair s pair else s)

/-- WINDOW_START: at a boundary of the plan, each injecting pair takes its amplitudes from the newest VS or skips the
window. -/
def execWindowStart (t : Nat) (s : State) : Out State :=
  let s := s.advance t
  .next (match s.tpe.plan with
    | none => s
    | some p =>
      let e := planEpoch p
      let w := max 1 (planWindow p)
      if s.tsu.now < e ∨ !timeRuns s then s
      else
        let j := (s.tsu.now - e) / w
        let s := (List.range (pairCount s)).foldl (fun s k =>
          let x := s.pairAt k
          let y := pairStatus s p k
          let ended : Bool := match x.env with | .falling t => decide (t + 100 * nsMs ≤ s.clk) | _ => false
          modPair s k fun _ =>
            if injecting x then { y with env := if y.blocked || !tpeRuns s then .off else .on, aborted := false }
            else { y with env := if ended then .off else x.env, aborted := false }) s
        let s := { s with hviStr := s.hviStr.map fun (h : HviStr) => { h with winSum := 0, winN := 0 } }
        s.setTpe fun x => { x with windowIdx := j, windowT := e + j * w
                                   startAt := match x.startAt with | some a => if a ≤ s.tsu.now then none else some a | none => none })

/-! ## TONE frames (R165) -/

/-- Monitors that act on this unit's TONE frames (R99). -/
def toneMonitors (s : State) (i : Nat) (f : Monitor → Monitor) : State :=
  s.modRing i fun r => { r with mons := r.mons.map fun (m : Monitor) => if m.followsUs then f m else m }

def execTonePlan (t : Nat) (i : Nat) (s : State) : Out State :=
  let s := s.advance t
  let named := match s.tpe.plan, s.tpe.pending with
    | some p, _ => planHas p i
    | none, some p => planHas p i
    | none, none => false
  .next (if ringRuns s i && tpeRuns s && named then toneMonitors s i fun m => { m with plan := true } else s)

/-- PHASOR of the unit it follows reaches monitor `m`, which forms its results (R99, R165). -/
def execPhasor (t : Nat) (i m : Nat) (s : State) : Out State :=
  let s := s.advance t
  .next (if s.isStr i && s.tpe.collecting && (s.monAt i m).plan && (s.monAt i m).followsUs == s.unit.commands then
      s.modMon i m fun x => { x with phasorWindow := some s.tpe.res.idx } else s)

def execToneHalt (t : Nat) (i : Nat) (s : State) : Out State :=
  let s := s.advance t
  .next (if ringRuns s i && s.unit.commands && (s.pairAt (pairOf s i)).aborted then
      toneMonitors s i fun m => { m with phasorWindow := none } else s)

/-! ## Window ends and results (R166 to R170) -/

/-- TONE_WINDOW_END: the current phasors are completed; a string whose current spread exceeds 5 % of i_cont_max is disturbed
(R168). -/
def execToneWindowEnd (t : Nat) (ph : List StringPhasor) (s : State) : Out State :=
  let s := s.advance t
  .next (match s.tpe.plan with
    | none => s
    | some p =>
      let end_ := s.tpe.windowT + planWindow p
      if s.tsu.now < end_ ∨ s.tpe.endT = end_ then s
      else
        let strs := (List.range s.strings).filter fun i => planHas p i
        let aborted := strs.filter fun i => (s.pairAt (pairOf s i)).aborted
        let disturbed := (ph.filter fun x => decide (iContMax s x.string * 50 < x.spread)).map (·.string)
        let mean (i : Nat) : Int := let h := s.hviAt i; if h.winN = 0 then 0 else h.winSum / h.winN
        s.setTpe fun x =>
          { x with
            phasors := ph, disturbed := disturbed, collecting := true, endT := end_, blocks := [], retried := [], done := []
            windows := x.windows + 1
            abortedWindows := if aborted.isEmpty then x.abortedWindows else x.abortedWindows + 1
            disturbedWindows := if disturbed.isEmpty then x.disturbedWindows else x.disturbedWindows + 1
            res := { idx := x.windowIdx, plan := p, aborted := aborted
                     amps := strs.map fun i => (i, (List.range (planTones p)).map fun k => toneAmps s p i k)
                     means := strs.map fun i => (i, mean i) } })

/-- IMPEDANCE_READ: block `block` of monitor `m`; one without a PHASOR is read once more. -/
def execImpedanceRead (t : Nat) (i m block : Nat) (b : ImpBlock) (s : State) : Out State :=
  let s := s.advance t
  let key := (i, m, block)
  let x := s.tpe
  .next (if !ringRuns s i || !x.collecting || 4 ≤ block || (s.ringAt i).n ≤ m || s.tsu.now < x.endT + 50 * nsMs ||
        b.window != x.res.idx || b.planId != getU x.res.plan 0 1 || (x.done.contains key) then s
    else if b.status.getLsbD 2 && !(x.retried.contains key) then s.setTpe fun x => { x with retried := key :: x.retried }
    else s.setTpe fun x => { x with blocks := (key, b) :: x.blocks.filter fun e => e.1 ≠ key })

/-- The current phasor of tone `k` on string `i`, µA. -/
def phasorOf (s : State) (i k : Nat) : Int × Int :=
  match s.tpe.phasors.find? fun x => x.string = i with
  | none => (0, 0)
  | some x => (x.re.getD k 0, x.im.getD k 0)

/-- The tone's current lies below the floor: half of the string's injected amplitude (R168). -/
def belowFloor (s : State) (i k : Nat) : Bool :=
  let (a, b) := phasorOf s i k
  let amp : Rat := (tblGet [] i s.tpe.res.amps).getD k 0 * 500000
  decide (((a * a + b * b : Int) : Rat) < amp * amp) || amp == 0

/-- The table's result of tone `k` of a channel. -/
def toneResult (s : State) (i : Nat) (b : ImpBlock) (ch k : Nat) : ToneZ :=
  let e := b.entries.getD (8 * ch + k) ⟨0, 0, 0, 8⟩
  let n := planTones s.tpe.res.plan
  let floor := belowFloor s i k
  let valid : Bool := e.zflags.getLsbD 0 && b.status.getLsbD 0 && !b.status.getLsbD 1 && !b.status.getLsbD 2 &&
    !(s.tpe.res.aborted.contains i) && !(s.tpe.disturbed.contains i) && !floor && !e.zflags.getLsbD 1 && decide (k < n)
  let u : Int := 10 * (2 ^ b.zScale : Nat)
  { re := e.re * u, im := e.im * u, quality := e.quality
    zflags := (e.zflags &&& 0x0E) ||| (if valid then 1 else 0) ||| (if floor then 16 else 0) }

def ToneZ.valid (z : ToneZ) : Bool := z.zflags.getLsbD 0

/-! ## R_ohm, core temperature and history (R132, R173 to R176) -/

/-- The highest tone of a plan, when it is at or above 500 Hz. -/
def ohmTone (p : Bytes) : Option Nat :=
  let top := (List.range (planTones p)).foldl (fun a k => if toneFreq p a < toneFreq p k then k else a) 0
  if 500000 ≤ toneFreq p top then some top else none

/-- A first-order filter's share of a step over `dt` ns with time constant `tau` s. -/
def firstOrder (dt tau : Nat) : Rat := 1 - Config.expR (-((dt : Rat) / (tau * nsS : Nat)))

/-- R_ohm moves toward a new qualifying result (05_cell_estimation.md R132). Re Z is in units of 0.01 µΩ. -/
def ohmResult (s : State) (idx : Nat) (re : Int) : State :=
  let mt := modelOf s (idx / 512)
  s.modCell idx fun c =>
    let dt := if c.rOhmT = 0 then planWindow s.tpe.res.plan else s.clk - c.rOhmT
    let r := c.rOhm + ((re : Rat) / 100000000 - c.rOhm) * firstOrder dt 600
    let base := rOhmOf mt c.soc c.t
    let g := if base = 0 then c.g else clampR (8 / 10) 3 (r / base)
    { c with rOhm := r, g := g, rFromTable := false, rOhmT := s.clk, rOhmAt := s.tpe.endT }

/-- The core temperature table of string `i`. -/
def coreTable (s : State) (i : Nat) : Bytes := s.cee.core.getD (modelSlot s i) []

/-- Axes of a *Core temperature table*, and its value at a phase (0.01°) and SOC. -/
def phaseAxis (b : Bytes) : List Rat := (List.range 32).map fun k => (getS b (20 + 2 * k) 2 : Rat)
def coreSoc (b : Bytes) : List Rat := (List.range 8).map fun k => (getU b (84 + 2 * k) 2 : Rat) / 10000
def coreAt (b : Bytes) (th soc : Rat) : Rat :=
  let (j, g) := axisPos (phaseAxis b) th
  let (k, f) := axisPos (coreSoc b) soc
  let v (j k : Nat) : Rat := (getS b (100 + 2 * (8 * j + k)) 2 : Rat)
  (1 - g) * ((1 - f) * v j k + f * v j (k + 1)) + g * ((1 - f) * v (j + 1) k + f * v (j + 1) (k + 1))

/-- What a core temperature table must satisfy before slot `n` accepts it (R172). -/
def coreOk (s : State) (n : Nat) (b : Bytes) : Bool :=
  let col (k : Nat) : List Rat := (List.range 32).map fun j => (getS b (100 + 2 * (8 * j + k)) 2 : Rat)
  b.length == 616 && getU b 0 4 == 0x524F4354 && getU b 4 2 == 1 && getU b 8 4 == 616 && getU b 612 4 == crc32c (b.take 612) &&
    ascending (phaseAxis b) && ascending (coreSoc b) &&
    ((List.range 8).all (fun k => ascending (col k)) || (List.range 8).all (fun k => ascending (col k).reverse)) &&
    getU b 12 4 == mtId (s.cee.model.getD n [])

def inside (ax : List Rat) (x : Rat) : Bool := decide (ax.headD 0 ≤ x) && decide (x ≤ ax.getLastD 0)

/-- The core value without offset, 0.01 °C, when every condition of R174 but the offset's holds. -/
def coreValue (s : State) (idx : Nat) (z : ToneZ) : Option Rat :=
  let i := idx / 512
  let p := s.tpe.res.plan
  let b := coreTable s i
  let c := s.cellAt idx
  let th := Config.atan2R z.im z.re * 100
  let k := getU p 5 1
  if getBit p 6 0 && decide (k < planTones p) && !b.isEmpty && toneFreq p k == getU b 16 4 && z.valid && decide (z.quality ≤ 5) &&
      decide (absI (tblGet 0 i s.tpe.res.means) ≤ (oneC s i : Int)) && inside (phaseAxis b) th && inside (coreSoc b) c.soc then
    some (coreAt b th c.soc)
  else none

/-- The five levels of a core temperature judge a value of a slow source, or none that is invalid (R183, R185,
10_safety.md R295). -/
def coreLevels (s : State) (idx : Nat) : State :=
  let i := idx / 512
  let c := s.cellAt idx
  let b := s.setB .sp
  let ls := tblGet [] idx s.th.core
  let at_ (k : Nat) : Level := ls.getD k {}
  let rate := riseRate c.coreHist
  let judge (thr : Option Int) (band : Option Rat) (v : Option Rat) (l : Level) : Level :=
    match thr, v with
    | none, _ => {}
    | some _, none => l.skip
    | some θ, some x => l.judge s.clk true (regionHigh (θ : Rat) (band.getD (absR (θ : Rat) / 5)) x)
  let v : Option Rat := c.core.map fun (x : Int) => (x : Rat)
  let diff : Option Rat := c.core.map fun x => ((x - c.tSurface : Int) : Rat)
  let on := s.saf.sp.set.isSome && getBit b 17 1
  let sp (off : Nat) : Option Int := if on then some (if off = 26 then blkS b i off else (blkU b i off 2 : Int)) else none
  let new := [judge (warnThr s 3) (some 200) v (at_ 0), judge (warnThr s 5) none (if c.core.isNone then none else rate) (at_ 1),
    judge (warnThr s 6) (some 200) diff (at_ 2), judge (sp 26) (some 200) v (at_ 3),
    judge (sp 28) none (if c.core.isNone then none else rate) (at_ 4)]
  let s := { s with th := { s.th with core := tblSet idx new s.th.core } }
  if on && ((new.getD 3 {}).asserted || (new.getD 4 {}).asserted) then trip s .sp i .ot else s

/-- The CEE takes the published results of a cell. -/
def takeResults (s : State) (idx : Nat) (zs : List ToneZ) : State :=
  let p := s.tpe.res.plan
  let at_ := s.clk - (s.tsu.now - s.tpe.endT)
  let ohm := (ohmTone p).map fun k => zs.getD k {}
  let s := match ohm with
    | some z => if z.valid && (s.cellAt idx).started then ohmResult s idx z.re else s
    | none => s
  let k := getU p 5 1
  let z := zs.getD k {}
  let raw := if k < planTones p then coreValue s idx z else none
  let s := s.modCell idx fun c =>
    let v : Option Int := match raw with
      | none => none
      | some r => let x := roundR (r + c.offset)
        if c.offLearned && decide (-4000 ≤ x) && decide (x ≤ 15000) then some x else none
    let kept (t : Nat) : Bool := decide (s.tpe.endT ≤ t + 3600 * nsS)
    let hist := c.history.filter fun e => kept e.1
    let ohms := c.ohmHistory.filter fun e => kept e.1
    let mag := Config.sqrtR ((z.re * z.re + z.im * z.im : Int) : Rat)
    { c with
      core := v, coreT := at_, coreRaw := raw
      coreHist := match v with | none => c.coreHist | some x => keepSamples at_ x c.coreHist
      history := if z.valid && decide (k < planTones p) then
          (s.tpe.endT, mag, Config.atan2R z.im z.re * 100) :: hist
        else hist
      ohmHistory := match ohm with
        | some z => if z.valid then (s.tpe.endT, (z.re : Rat)) :: ohms else ohms
        | none => ohms }
  coreLevels s idx

/-- Publishes the entries of one block. -/
def publishBlock (s : State) (e : (Nat × Nat × Nat) × ImpBlock) : State :=
  let ((i, m, blk), b) := e
  let disturbed : Bool := s.tpe.disturbed.contains i
  let aborted : Bool := b.status.getLsbD 1 || s.tpe.res.aborted.contains i
  (List.range 8).foldl (fun s c =>
    let idx := 512 * i + 32 * m + 8 * blk + c
    let zs := (List.range 8).map fun k => toneResult s i b c k
    if !((presentCells s i).contains idx) then s
    else
    let cell : ImpCell :=
      { gen := (tblGet {} idx s.tpe.imp).gen + 2, aborted := aborted, disturbed := disturbed
        unsynced := !b.status.getLsbD 0, missing := false, planId := b.planId, time := s.tpe.endT, window := b.window, tones := zs }
    let s := s.setTpe fun x => { x with imp := tblSet idx cell x.imp }
    takeResults s idx zs) s

/-- IMPEDANCE_PUBLISH: the blocks received are published and used, and the ICU source is raised. -/
def execImpedancePublish (t : Nat) (s : State) : Out State :=
  let s := s.advance t
  .next (if !s.tpe.collecting || s.tpe.blocks.isEmpty then s
    else
      let bs := s.tpe.blocks.reverse
      let s := bs.foldl publishBlock s
      let s := s.setTpe fun x => { x with blocks := [], done := x.done ++ bs.map (·.1) }
      icuShared (syncWarnings s) 84)

/-- BLOCK_MISSING: 5 s after the window's end its entries are published invalid and counted. -/
def execBlockMissing (t : Nat) (i m block : Nat) (s : State) : Out State :=
  let s := s.advance t
  let key := (i, m, block)
  let x := s.tpe
  .next (if !s.isStr i || !x.collecting || 4 ≤ block || (s.ringAt i).n ≤ m || s.tsu.now < x.endT + 5 * nsS || (x.done.contains key) ||
        x.blocks.any (fun e => e.1 == key) then s
    else
      let one (s : State) (c : Nat) : State :=
        let idx := 512 * i + 32 * m + 8 * block + c
        let cell : ImpCell :=
          { gen := (tblGet {} idx s.tpe.imp).gen + 2, aborted := s.tpe.res.aborted.contains i, disturbed := s.tpe.disturbed.contains i
            unsynced := false, missing := true, planId := getU s.tpe.res.plan 0 1, time := s.tpe.endT, window := s.tpe.res.idx
            tones := [] }
        (s.setTpe fun x => { x with imp := tblSet idx cell x.imp }).modCell idx fun c => { c with core := none, coreRaw := none }
      let s := (List.range 8).foldl one s
      s.setTpe fun x => { x with missingBlocks := x.missingBlocks + 1, done := x.done ++ [key] })

/-- Surface rate of rise of a cell's sensor, 0.01 K/min. -/
def surfaceRate (s : State) (idx : Nat) : Option Rat :=
  let i := idx / 512
  let k := idx % 512
  let x := tblGet {} (128 * i + 8 * (k / 32) + sensorOf s i (k % 32)) s.th.sensors
  if x.broken then none else riseRate x.samples

/-- CORE_OFFSET_LEARNING (R175), units of 0.01 K. -/
def execCoreOffsetLearning (t : Nat) (c : Nat) (s : State) : Out State :=
  let s := s.advance t
  let x := s.cellAt c
  let w := planWindow s.tpe.res.plan
  .next (match x.coreRaw, surfaceRate s c with
    | some raw, some r =>
      if heldFor s (s.estAt (c / 512)).quietSince (1800 * nsS) && decide (absR r < 10) then
        let o := x.offset + ((x.tSurface : Rat) - raw - x.offset) * firstOrder w 21600
        let bound : Bool := decide (o ≤ -1000) || decide (1000 ≤ o)
        let tm := if bound then 0 else x.offTime + w
        let s := s.modCell c fun y =>
          { y with offset := clampR (-1000) 1000 o, offTime := tm, coreRaw := none
                   offLearned := !bound && (y.offLearned || decide (3600 * nsS ≤ tm)) }
        if bound then groupRecord s gTpe srcCee lvWarn 175 c 0 else s
      else s
    | _, _ => s)

/-! ## Precursors (R186; 10_safety.md R299) -/

/-- Puts a value into an ascending list. -/
def insertAsc (x : Rat) : List Rat → List Rat
  | [] => [x]
  | y :: l => if x ≤ y then x :: y :: l else y :: insertAsc x l

/-- Median of a list: the mean of the middle two for an even number. -/
def median (l : List Rat) : Rat :=
  let m := l.foldr insertAsc []
  let n := m.length
  if n % 2 = 1 then m.getD (n / 2) 0 else (m.getD (n / 2 - 1) 0 + m.getD (n / 2) 0) / 2

/-- The reference of an indicator: values whose windows end 60 min to 10 min before the present one; none for fewer than
10. -/
def reference (s : State) (l : List (Nat × Rat)) : Option Rat :=
  let l := (l.filter fun e => decide (s.tpe.endT ≤ e.1 + 3600 * nsS) && decide (e.1 + 600 * nsS ≤ s.tpe.endT)).map (·.2)
  if l.length < 10 then none else some (median l)

/-- The present window's value of a series with its reference. -/
def withReference (s : State) (l : List (Nat × Rat)) : Option (Rat × Rat) :=
  match l.find? (fun e => e.1 = s.tpe.endT), reference s l with
  | some e, some r => some (e.2, r)
  | _, _ => none

/-- Departure from the reference in units of 0.01 %; none for a reference of 0. -/
def relative (x : Option (Rat × Rat)) : Option Int :=
  match x with
  | none => none
  | some (v, r) => if r = 0 then none else some (roundR ((v - r) / r * 10000))

/-- The six indicators of a cell. -/
def indicators (s : State) (idx : Nat) : List (Option Int) :=
  let c := s.cellAt idx
  [if c.core.isNone then none else (riseRate c.coreHist).map roundR, (surfaceRate s idx).map roundR,
    c.core.map fun x => x - c.tSurface, relative (withReference s (c.history.map fun e => (e.1, e.2.1))),
    (withReference s (c.history.map fun e => (e.1, e.2.2))).map fun e => roundR (e.1 - e.2),
    relative (withReference s c.ohmHistory)]

def holdsGe (v : Option Int) (thr : Int) : Bool := match v with | none => false | some x => decide (thr ≤ x)

/-- The combination of SF-RUN holds for the indicators of a cell of string `i`. -/
def runCombination (b : Bytes) (i : Nat) (l : List (Option Int)) : Bool :=
  let v (k : Nat) : Option Int := l.getD k none
  let dt : Int := blkU b i 30 2
  let heat := (holdsGe (v 0) dt && holdsGe (v 2) (blkU b i 32 2)) || holdsGe (v 1) dt
  let mag := match v 3 with | none => false | some x => decide (x ≤ -(blkU b i 34 2 : Int))
  let ph := match v 4 with | none => false | some x => decide ((blkU b i 36 2 : Int) ≤ absI x)
  heat && (mag || ph)

/-- PRECURSOR_DELIVERY: indicators of every present cell, and SF-RUN in SP on two consecutive windows. -/
def execPrecursorDelivery (t : Nat) (s : State) : Out State :=
  let s := s.advance t
  .next (if !s.tpe.collecting || !ceeRuns s then s
    else
      let b := s.setB .sp
      let on := s.saf.sp.set.isSome && getBit b 17 0
      (List.range s.strings).foldl (fun s i =>
        let cells := presentCells s i
        let s := cells.foldl (fun s idx =>
          let l := indicators s idx
          let hit := on && runCombination b i l
          s.modCell idx fun c => { c with prec := l, runHits := if hit then c.runHits + 1 else 0 }) s
        let s := s.modChanStr .sp i fun x => { x with runCount := (cells.filter fun c => decide (0 < (s.cellAt c).runHits)).length }
        if cells.any fun c => decide (2 ≤ (s.cellAt c).runHits) then
          let fresh := !((s.saf.sp.at i).tripped.contains .run)
          let s := trip (s.setSaf fun x => { x with runWarning := true }) .sp i .run
          if fresh then groupRecord s gSaf srcSp lvErr 299 i 0 else s
        else s) s)

/-! ## Commands (R187) -/

/-- Each pair's status bits: injecting, voltage mismatch, no headroom, round-rate conflict, not regulating, rest window. -/
def pairBits (x : Pair) : Nat :=
  bitsToNat [injecting x, x.mismatch, x.noHeadroom, x.rateConflict, x.notRegulating, x.restWindow]

/-- Plan in force and pending plan, zeros where there is none, and the status of pairs 0 to 3. -/
def planInfo (s : State) : Bytes :=
  (s.tpe.plan.getD (List.replicate 88 0)) ++ (s.tpe.pending.getD (List.replicate 88 0)) ++
    (List.range 4).flatMap fun k => leU 1 (if k < pairCount s then pairBits (s.pairAt k) else 0)

def execTpeGetPlan (q : Req) (s : State) : Out State := getNone 0x0502 false planInfo q s

/-- *Impedance table entry* (R170). -/
def impEntry (s : State) (idx : Nat) : Bytes :=
  let e := tblGet {} idx s.tpe.imp
  let present : Bool := (presentCells s (idx / 512)).contains idx
  let tone (k : Nat) : Bytes :=
    let z := e.tones.getD k { zflags := 8 }
    leS 4 z.re ++ leS 4 z.im ++ leU 2 z.quality ++ leU 1 z.zflags.toNat ++ [0]
  leU 4 e.gen ++ leU 2 idx ++
    (if present then
      leU 1 (bitsToNat [true, e.aborted, e.disturbed, e.unsynced, e.missing]) ++ leU 1 e.planId ++ leU 8 (e.time / nsS) ++
        leU 4 (e.time % nsS) ++ leU 4 e.window ++ (List.range 8).flatMap tone ++ List.replicate 8 0
    else List.replicate 122 0)

def impTableByte (s : State) (o : Nat) : Byte := if o / 128 < s.cells then (impEntry s (o / 128)).getD (o % 128) 0 else 0

def execTpeGetResults (q : Req) (s : State) : Out State := getC 0x0503 false true State.cells impEntry q s

def execTpeMapResults (q : Req) (s : State) : Out State := mapM 0x0504 0x03100000 (128 * s.cells) q s

/-- The six indicators of a cell with their validity bits (log entry 14). -/
def precEntry (s : State) (idx : Nat) : Bytes :=
  let l := (s.cellAt idx).prec
  let v (k : Nat) : Option Int := l.getD k none
  leU 2 idx ++ leU 2 (bitsToNat ((List.range 6).map fun k => (v k).isSome)) ++
    (List.range 6).flatMap fun k => leS 4 ((v k).getD 0)

def execTpeGetPrecursor (q : Req) (s : State) : Out State := getC 0x0505 false true State.cells precEntry q s

/-- Window counts, missing blocks, offset learning state and table slots (log entry 14). -/
def tpeStatus (s : State) : Bytes :=
  leU 4 s.tpe.windows ++ leU 4 s.tpe.abortedWindows ++ leU 4 s.tpe.disturbedWindows ++ leU 4 s.tpe.missingBlocks ++
    leU 2 (s.cee.cells.filter fun e => e.2.offLearned).length ++ leU 2 0 ++
    (List.range 4).flatMap (fun n => leU 4 (mtId (s.cee.model.getD n []))) ++
    (List.range 4).flatMap fun n => leU 4 (getU (s.cee.core.getD n []) 12 4)

def execTpeGetStatus (q : Req) (s : State) : Out State := getNone 0x0506 false tpeStatus q s

end Sys2Proof.Machine
end

