-- ==== Sys2Proof/Machine/Alloc.lean ====
section
/-! DEFINITION. Dispatch: requests and their queue, allocation among strings, arming, expiry and rest windows
(07_balancing_dispatch.md R204 to R215; 08_converter_control.md R231 to R233). -/

namespace Sys2Proof.Machine

/-! ## *Dispatch request* (R204) -/

def reqMask (b : Bytes) (i : Nat) : Bool := getU b 6 1 == 255 || getBit b 6 i
def reqP (b : Bytes) : Int := getS b 20 4
def reqScheduled (b : Bytes) : Bool := getBit b 5 0
def reqClears (b : Bytes) : Bool := getBit b 5 1
/-- Ramp in kW/s and expiry in ns; 0 selects the configured default. -/
def reqRamp (s : State) (b : Bytes) : Nat := if getU b 36 4 = 0 then getU (dspCfg s) 12 4 else getU b 36 4
def reqExpiry (s : State) (b : Bytes) : Nat := (if getU b 40 4 = 0 then getU (dspCfg s) 16 4 else getU b 40 4) * nsMs

/-- It asks for a setpoint other than zero, which ends FLOAT (02_power_states_clocks.md R41). -/
def nonzero (b : Bytes) : Bool := reqMode b == 1 || (reqMode b == 0 && reqP b != 0)

def requestFields (v : Variant) : List Field :=
  let p : Int := match v with | .kzv4096 => 3200000 | .kzv1024 => 800000
  [uf 4 1 0 2 0, uf 5 1 0 3 0, uf 6 1 1 255 1, rsv 7 1, sf 20 4 (-p) p 0, uf 24 4 0 2000000 0, rsv 44 4]

/-- Checks beyond the ranges: the expiry, and a scheduled instant at most 1 s past and 24 h ahead. -/
def requestCheck (s : State) (p : Bytes) : Option Nat :=
  let e := getU p 40 4
  let t := instantAt p 8
  firstBad [must (e == 0 || (decide (100 ≤ e) && decide (e ≤ 600000))) 40,
    must (!reqScheduled p || (decide (s.tsu.now ≤ t + nsS) && decide (t ≤ s.tsu.now + 86400 * nsS))) 8]

/-- Inserts in order of effective instant. -/
def queueInsert (e : DspEntry) : List DspEntry → List DspEntry
  | [] => [e]
  | x :: t => if e.eff < x.eff then e :: x :: t else x :: queueInsert e t

/-- What acceptance does to the request: late, replaced, and the queue it leaves (R205). -/
structure Accept where
  late : Bool
  queued : Bool
  replaced : Bool
  queue : List DspEntry

def accept (s : State) (p : Bytes) : Accept :=
  let q := if reqClears p then [] else s.dsp.queue
  let t := instantAt p 8
  if !reqScheduled p then ⟨false, false, false, q⟩
  else if t < s.tsu.now + 5 * nsMs then ⟨true, false, false, q⟩
  else
    let others := q.filter fun e => e.eff ≠ t
    ⟨false, true, decide (others.length < q.length), queueInsert { req := p, eff := t, late := false } others⟩

/-- An armed entry that is queued no longer is disarmed. -/
def dropArmed (s : State) : State :=
  match s.dsp.armed with
  | none => s
  | some (e, _) =>
    if s.dsp.queue.contains e then s
    else (s.setDsp fun d => { d with armed := none }).setLe fun l => { l with commit := none, shadow := l.setp }

def execDspSetRequest (q : Req) (s : State) : Out State :=
  command
    { op := 0x0301, len := lenIs 48, roles := .as, h := false
      pop := fun s p => must (getU p 6 1 == 255 || decide (getU p 6 1 < 2 ^ s.strings)) 6
      arg := fun s q => firstBad [badField (requestFields s.variant) q.payload, requestCheck s q.payload]
      res := fun s q => decide (16 < (accept s q.payload).queue.length) }
    (fun s q =>
      let p := q.payload
      let a := accept s p
      let s := if nonzero p then exitFloat s else s
      let s := s.setDsp fun d =>
        { d with queue := a.queue
                 next := if a.queued then d.next else some { req := p, eff := s.tsu.now, late := a.late } }
      let answer := leU 1 (bitsToNat [a.late, a.queued, a.replaced, reqClears p]) ++ [0] ++ leU 2 a.queue.length
      commit (dropArmed s) 0x0301 q peerDispatch answer) q s

def execDspCancel (q : Req) (s : State) : Out State :=
  command { op := 0x0302, len := lenIs 4, roles := .as, h := false }
    (fun s q =>
      let id := getU q.payload 0 4
      let s := s.setDsp fun d =>
        { d with queue := if id = 0xFFFFFFFF then [] else d.queue.filter fun e => getU e.req 0 4 ≠ id }
      commit (dropArmed s) 0x0302 q peerDispatch []) q s

/-! ## Included strings, weights and limits (R209, R210) -/

/-- Mode in force: an expired request ramps to 0 as ZERO does (R206). -/
def modeNow (s : State) : Nat :=
  match s.dsp.force with
  | none => 2
  | some e => if s.dsp.expired then 2 else reqMode e.req

/-- REGULATING and named by the request, and not on its way out of REGULATING. -/
def dispatchable (s : State) (b : Bytes) (mode i : Nat) : Bool :=
  (s.strAt i).state == .regulating && (s.convAt i).rampThen.isNone && reqMask b i &&
    (mode != 1 || slotValid s (48 + i))

def resting (s : State) (i : Nat) : Bool := (s.estAt i).rest.isSome

def includedStrings (s : State) (b : Bytes) (mode : Nat) : List Nat :=
  (List.range s.strings).filter fun i => dispatchable s b mode i && !resting s i

def meanRat (l : List Rat) : Rat := if l.isEmpty then 0 else l.sum / l.length
def minRat (l : List Rat) : Rat := match l with | [] => 0 | x :: t => t.foldl min x
def maxRat (l : List Rat) : Rat := match l with | [] => 0 | x :: t => t.foldl max x

/-- SOC_s: the lowest cell for a target of zero or below, else the highest. -/
def socOf (s : State) (i : Nat) (target : Rat) : Rat :=
  let l := (presentCells s i).map fun c => (s.cellAt c).soc
  if target ≤ 0 then minRat l else maxRat l

/-- The falling factor of temperature, units of 0.01 °C. -/
def tempWeight (cfg : Bytes) (t : Rat) : Rat :=
  let knee : Rat := getS cfg 2 2
  let full : Rat := getS cfg 4 2
  let least : Rat := (getU cfg 6 1 : Rat) / 100
  if t ≤ knee then 1 else if full ≤ t then least else 1 - (1 - least) * (t - knee) / (full - knee)

/-- w_s of string `i` among included strings of mean SOC `mean`. -/
def weightOf (s : State) (target mean : Rat) (i : Nat) : Rat :=
  let cfg := dspCfg s
  let cells := (presentCells s i).map s.cellAt
  let b := (cells.map (·.q)).sum
  let k : Rat := (getU cfg 0 2 : Rat) / 10
  let d := k * (socOf s i target - mean)
  let wSoc := clampR 0 2 (if target ≤ 0 then 1 + d else 1 - d)
  let wT := tempWeight cfg (maxRat (cells.map fun c => (c.t : Rat)))
  let g := meanRat (cells.map (·.g))
  let wH : Rat := if getBit cfg 7 0 then (if g ≤ 0 then 1 else clampR (1 / 2) 1 (1 / g)) else 1
  b * wSoc * wT * wH

/-- Bus limit of string `i` in W, charge or discharge. -/
def busLimit (s : State) (chg : Bool) (i : Nat) : Nat :=
  let e := s.estAt i
  if e.sopStale then 0
  else
    let n := phaseCount s i
    let p : Rat := if chg then (e.sop1.pChg : Rat) / etaC s else (e.sop1.pDis : Rat) * etaC s
    let own : Rat := ((if chg then e.sop1.iChg else e.sop1.iDis : Nat) : Rat) / 1000 * n / 4
    let j := junctionLimits s i
    let amps : Rat := max 0 (min own (if chg then j.1 else j.2) - tonePeak s i)
    (min (min p (100000 * n)) (amps * ((s.hviAt i).vs : Rat) / 10000)).floor.toNat

/-! ## Filling by weight (R211) -/

/-- A string of the fill: index, weight, limit. -/
structure Open where
  i : Nat
  w : Rat
  lim : Nat

/-- The loop of R211: shares of the strings that were clipped, and of those that were not. -/
def fill : Nat → Rat → List Open → List (Nat × Int) → List (Nat × Int) × List (Nat × Rat)
  | 0, _, _, done => (done, [])
  | _ + 1, _, [], done => (done, [])
  | n + 1, rest, op, done =>
    let tot := (op.map (·.w)).sum
    let share (o : Open) : Rat := rest * o.w / tot
    let above (o : Open) : Bool := decide ((o.lim : Rat) < absR (share o))
    let clipped := op.filter above
    if clipped.isEmpty then (done, op.map fun o => (o.i, share o))
    else
      let sg : Int := if rest < 0 then -1 else 1
      fill n (rest - sg * ((clipped.map (·.lim)).sum : Nat)) (op.filter fun o => !above o)
        (done ++ clipped.map fun o => (o.i, sg * o.lim))

/-- The member with the largest share, lowest index on a tie. -/
def largest : List (Nat × Rat) → Option Nat
  | [] => none
  | e :: t =>
    some ((t.foldl (fun (a : Nat × Rat) x =>
      if absR a.2 < absR x.2 ∨ (absR a.2 = absR x.2 ∧ x.1 < a.1) then x else a) e).1)

/-- Shares in W of `target`: rounded, with the residue on the largest unclipped string. -/
def sharesOf (target : Rat) (op : List Open) : List (Nat × Int) :=
  let op := op.filter fun o => decide (0 < o.w) && decide (0 < o.lim)
  let (clipped, free) := fill (op.length + 1) target op []
  let rounded := free.map fun e => (e.1, roundR e.2)
  let sum := (clipped.map (·.2)).sum + (rounded.map (·.2)).sum
  match largest free with
  | none => clipped
  | some k => clipped ++ rounded.map fun e => if e.1 = k then (e.1, e.2 + (roundR target - sum)) else e

def shareOf (l : List (Nat × Int)) (i : Nat) : Int := tblGet 0 i l

/-! ## The allocation (R207, R209 to R212, R215) -/

/-- What an allocation sets: setpoint registers (none: left), per-string figures, sums and flags. -/
structure Plan where
  words : List (Option Int)
  str : List DspStr
  allocated : Int
  shortfall : Int
  limited : Bool
  included : List Nat
  /-- REGULATING strings whose current ramps to 0 because no outer loop serves them in VBUS mode -/
  idle : List Nat

/-- Time of a rest window's ramps: 2 s. -/
def restRamp : Nat := 2 * nsS

/-- Fraction of the ramp that began at `t` done by now. -/
def rampFraction (s : State) (t : Nat) : Rat := clampR 0 1 (((s.clk - t : Nat) : Rat) / (restRamp : Nat))

/-- Weights of the included strings; a resting string's former weight goes to its partner. -/
def weightsOf (s : State) (b : Bytes) (mode : Nat) (target : Rat) : List Open :=
  let inc := includedStrings s b mode
  let mean := meanRat (inc.map fun i => socOf s i target)
  let w := weightOf s target mean
  let extra (i : Nat) : Rat :=
    ((List.range s.strings).map fun j =>
      if j ≠ i ∧ pairOf s j = pairOf s i then (match (s.estAt j).rest with | none => 0 | some r => r.w) else 0).sum
  inc.map fun i => { i := i, w := w i + extra i, lim := busLimit s (decide (0 < target)) i }

/-- A string that ramps up again after its rest window. -/
def rampingUp (s : State) (i : Nat) : Bool :=
  match (s.estAt i).restEnd with | none => false | some t => decide (s.clk < t + restRamp)

/-- POWER and ZERO: resting strings ramp to 0, strings whose window ended ramp to their share, and the others fill what is
left, a partner with the weight of its ramping string. -/
def powerPlan (s : State) (b : Bytes) (mode : Nat) (target : Rat) : Plan :=
  let op := weightsOf s b mode target
  let down := ((List.range s.strings).filter fun i => dispatchable s b mode i && resting s i).map fun i =>
    (i, match (s.estAt i).rest with | none => (0 : Int) | some r => roundR ((r.p0 : Rat) * (1 - rampFraction s r.t0)))
  let whole := sharesOf target op
  let up := (op.filter fun o => rampingUp s o.i).map fun o =>
    (o.i, roundR ((shareOf whole o.i : Rat) * rampFraction s ((s.estAt o.i).restEnd.getD 0)))
  let rising := op.filter fun o => rampingUp s o.i
  let others := (op.filter fun o => !rampingUp s o.i).map fun o =>
    { o with w := o.w + ((rising.filter fun r => pairOf s r.i = pairOf s o.i).map (·.w)).sum }
  let held := down ++ up
  let shares := held ++ sharesOf (target - ((held.map (·.2)).sum : Int)) others
  let sum := (shares.map (·.2)).sum
  let goal := roundR target
  let short := max 0 (absI goal - absI sum)
  let line (i : Nat) : DspStr :=
    match op.find? fun o => o.i = i with
    | none => { setpoint := shareOf shares i }
    | some o => { setpoint := shareOf shares i, weight := o.w, limit := o.lim }
  { words := (List.range 16).map fun k => if k < 8 then some (asWord (16 * shareOf shares k)) else none
    str := (List.range 8).map line, allocated := sum, shortfall := short, limited := decide (0 < short)
    included := op.map (·.i), idle := [] }

/-- Bus power of string `i` as measured, W. -/
def measuredBus (s : State) (i : Nat) : Rat :=
  let p : Rat := ((s.hviAt i).vs : Rat) * ((s.hviAt i).cur : Rat) / 10000000000
  if 0 < p then p / etaC s else p * etaC s

/-- VBUS: each loop's v_ref by its droop gain; the power each counts with is clamped to its limits and the sum to p_lim
(R207; 08_converter_control.md R232). -/
def vbusPlan (s : State) (b : Bytes) (vTarget : Rat) : Plan :=
  let inc := includedStrings s b 1
  let total := (inc.map (measuredBus s)).sum
  let op := (weightsOf s b 1 total).filter fun o => decide (0 < o.w)
  let own (o : Open) : Rat := clampR (-(busLimit s false o.i : Rat)) (busLimit s true o.i) (measuredBus s o.i)
  let sum0 := (op.map own).sum
  let lim : Nat := if 0 < sum0 then getU b 28 4 else getU b 32 4
  let f : Rat := if lim = 0 ∨ absR sum0 ≤ lim then 1 else (lim : Rat) / absR sum0
  let p (o : Open) : Rat := own o * f
  let mean := meanRat (op.map (·.w))
  let k (o : Open) : Rat := (rDroop s o.i : Rat) / 1000000 * mean / o.w
  let delta := meanRat (op.map fun o => k o * p o)
  let word (i : Nat) : Option Int :=
    (op.find? fun o => o.i = i).map fun o => asWord ((vTarget / 1000 - k o * p o + delta) * 65536)
  let sum := roundR ((op.map p).sum)
  let short := max 0 (absI (roundR total) - absI sum)
  let line (i : Nat) : DspStr :=
    match op.find? fun o => o.i = i with
    | none => {}
    | some o => { setpoint := roundR (p o), weight := o.w, limit := o.lim }
  { words := (List.range 16).map fun n => if n < 8 then none else word (n - 8)
    str := (List.range 8).map line, allocated := sum, shortfall := short, limited := decide (0 < short)
    included := op.map (·.i)
    idle := (List.range s.strings).filter fun i => (s.strAt i).state == .regulating && !(op.any fun o => o.i == i) }

/-- The allocation for request `b` in mode `mode`. -/
def planOf (s : State) (b : Bytes) (mode : Nat) (target vTarget : Rat) : Plan :=
  if mode = 1 then vbusPlan s b vTarget else powerPlan s b mode target

/-! ## The dispatch target (R206) -/

/-- Target and VBUS voltage after ramping to elapsed instant `t`. -/
def rampTo (s : State) (t : Nat) : State :=
  let d := s.dsp
  let dt : Rat := ((t - d.targetT : Nat) : Rat) / nsS
  match d.force with
  | none => s.setDsp fun d => { d with target := 0, targetT := t }
  | some e =>
    let mode := modeNow s
    let kw : Rat := if d.expired then getU (dspCfg s) 12 4 else reqRamp s e.req
    let toward (x goal step : Rat) : Rat := clampR (x - step) (x + step) goal
    if mode = 1 then s.setDsp fun d => { d with vTarget := toward d.vTarget (reqV e.req) (kw * dt), targetT := t }
    else
      let goal : Rat := if mode = 0 then reqP e.req else 0
      s.setDsp fun d => { d with target := toward d.target goal (kw * 1000 * dt), targetT := t }

/-- Request `e` takes effect at elapsed instant `t`; a VBUS request ramps from the bus voltage of that instant. -/
def takeRequest (s : State) (e : DspEntry) (t : Nat) : State :=
  let s := if nonzero e.req then exitFloat s else s
  let was := modeNow s
  let s := rampTo s t
  let s := s.setDsp fun d =>
    { d with force := some e, forceT := t, late := e.late, expired := false
             vTarget := if was = 1 then d.vTarget else (s.hvi.vb : Rat) / 10 }
  peerSend s peerDispatch

/-- Requests whose instant has come: the unscheduled or late one, then the queue's, in order. -/
def takeDue (s : State) : List DspEntry → State
  | [] => s
  | e :: rest =>
    if e.eff ≤ s.tsu.now then
      let s := takeRequest s e (if e.late then s.clk else s.clk - (s.tsu.now - e.eff))
      takeDue (s.setDsp fun d => { d with queue := rest, armed := none }) rest
    else s

/-- SUP's periodic work runs: a commanding unit with its SUP and clocks. -/
def supRuns (s : State) : Bool :=
  s.unit.commands && timeRuns s && !s.pwr.supLost && !s.hpr.handover && !s.clockLost .sys

/-- The incoming outer slot of string `i` starts from the outgoing one's last output (09_loop_engine.md R256). -/
def switchOuter (vbus : Bool) (s : State) (i : Nat) : State :=
  let (old, new) := if vbus then (i, 48 + i) else (48 + i, i)
  let y := (s.loopAt old).out
  s.modLoop new fun x => { (clearHistory x) with bump := some y, computed := y, out := y }

/-- Writes a plan: setpoint registers at once, for the next period, and dispatch status. -/
def applyPlan (s : State) (mode : Nat) (p : Plan) : State :=
  let vbus := decide (mode = 1)
  let s := if s.le.vbusMode = vbus then s else
    ((List.range s.strings).foldl (switchOuter vbus) s).setLe fun l => { l with vbusMode := vbus }
  let s := s.setLe fun l =>
    let w := l.setp.mapIdx fun k v => (p.words.getD k none).getD v
    { l with setp := w, shadow := if l.commit.isSome then l.shadow else w }
  let s := (List.range s.strings).foldl (fun s i =>
    let s := s.modStr i fun x => { x with included := p.included.contains i }
    let s := s.modEst i fun e => { e with rest := e.rest.map fun (r : Rest) => { r with limitedSince := track s p.limited r.limitedSince } }
    if (s.convAt i).rampThen.isNone && !s.pwr.dispatchUnavailable then
      s.modConv i fun c => { c with rampStop := p.idle.contains i } else s) s
  s.setDsp fun d => { d with allocated := p.allocated, shortfall := p.shortfall, limited := p.limited, str := p.str
                             target := if mode = 1 then p.allocated else d.target }

/-- ALLOCATION: every 10 ms of TIME, and at the instant of a queued request. -/
def execAllocation (t : Nat) (s : State) : Out State :=
  let s := s.advance t
  let due : Bool := s.dsp.queue.any fun e => decide (e.eff ≤ s.tsu.now)
  .next (if !supRuns s || (s.tsu.now / (10 * nsMs) == s.dsp.allocT / (10 * nsMs) && !due) then s
    else
      let s := match s.le.commit with
        | some c => if c ≤ s.tsu.now then s.setLe fun l => { l with setp := l.shadow, commit := none } else s
        | none => s
      let s := match s.dsp.next with
        | none => s
        | some e => (takeRequest s e s.clk).setDsp fun d => { d with next := none }
      let s := takeDue s s.dsp.queue
      let s := (rampTo s s.clk).setDsp fun d => { d with allocT := s.tsu.now }
      match s.dsp.force with
      | none => applyPlan s 2 (powerPlan s (leU 48 0) 2 0)
      | some e => applyPlan s (modeNow s) (planOf s e.req (modeNow s) s.dsp.target s.dsp.vTarget))

/-- ARMING: 2 ms before the instant of the first queued request, its allocation at the target reached then is armed. -/
def execArming (t : Nat) (s : State) : Out State :=
  let s := s.advance t
  .next (match s.dsp.queue with
    | [] => s
    | e :: _ =>
      if !supRuns s || decide (s.tsu.now + 2 * nsMs < e.eff) || decide (e.eff ≤ s.tsu.now) || s.dsp.armed.isSome then s
      else
        let ahead := rampTo s (s.clk + (e.eff - s.tsu.now))
        let mode := reqMode e.req
        let v := if modeNow s = 1 then ahead.dsp.vTarget else (s.hvi.vb : Rat) / 10
        let p := planOf s e.req mode ahead.dsp.target v
        let w := s.le.setp.mapIdx fun k v => (p.words.getD k none).getD v
        ((progTrigger s 3 e.eff 0).setLe fun l => { l with shadow := w, commit := some e.eff }).setDsp fun d => { d with armed := some (e, w) })

/-- REQUEST_EXPIRY: no newer request took effect within the expiry; ZERO never expires. -/
def execRequestExpiry (t : Nat) (s : State) : Out State :=
  let s := s.advance t
  .next (match s.dsp.force with
    | none => s
    | some e =>
      if supRuns s && reqMode e.req != 2 && !s.dsp.expired && decide (s.dsp.forceT + reqExpiry s e.req ≤ s.clk) then
        groupRecord ((rampTo s s.clk).setDsp fun d => { d with expired := true }) gDsp srcSup lvInfo 206 (getU e.req 0 4) 0
      else s)

/-! ## Rest windows (R214, R215) -/

def partnerOf (s : State) (i : Nat) : Nat :=
  let e := pairStrings s (pairOf s i)
  if e.1 = i then e.2 else e.1

/-- The conditions of R214. -/
def restGrantable (s : State) (i : Nat) : Bool :=
  let k := partnerOf s i
  let reg (j : Nat) : Bool := (s.strAt j).state == .regulating && (s.convAt j).rampThen.isNone
  let b := (reqInForce s).getD (leU 48 0)
  let others := (includedStrings s b (modeNow s)).filter (· ≠ i)
  let lims : Nat := (others.map (busLimit s (decide (0 < s.dsp.target)))).sum
  (s.estAt i).restRequested && estFlag s i 1 && getBit (dspCfg s) 7 1 && reg i && reg k &&
    !resting s i && !resting s k && decide (11 * absR s.dsp.target ≤ 10 * (lims : Rat))

def execRestWindowGrant (t : Nat) (i : Nat) (s : State) : Out State :=
  let s := s.advance t
  .next (if s.isStr i && supRuns s && restGrantable s i then
      let x := s.dsp.str.getD i {}
      let s := s.modEst i fun e =>
        { e with restRequested := false, restEnd := none
                 rest := some { t0 := s.clk, p0 := x.setpoint, w := x.weight, counted := none, limitedSince := none } }
      stopPair (stopBalancing (changeBand s i .rest true) i) (pairOf s i)
    else s)

/-- REST_WINDOW_END: the counted rest is complete and the anchor age restarts; or the window is cut short by current after
the rest is counted, by 1 s of limited allocation or by the string's leaving REGULATING, and is asked for again in 1 h. -/
def execRestWindowEnd (t : Nat) (i : Nat) (s : State) : Out State :=
  let s := s.advance t
  .next (match (s.estAt i).rest with
    | none => s
    | some r =>
      let whole := heldFor s r.counted (restDuration s i)
      let cut := (r.counted.isSome && atLeastC s i 5 (meanAbsI s i)) || heldFor s r.limitedSince nsS ||
        (s.strAt i).state != .regulating
      if !(whole || cut) then s
      else
        let s := changeBand s i .low false
        s.modEst i fun e =>
          if whole then { e with rest := none, restEnd := some s.clk, anchorT := s.clk, overdue := false }
          else { e with rest := none, restEnd := some s.clk, requestT := s.clk })

/-! ## Commands (R213, R216) -/

/-- Dispatch is unavailable (R208). -/
def dspUnavailable (s : State) : Bool :=
  s.pwr.dispatchUnavailable || s.unit == .recovery || s.unit == .safeHold ||
    (includedStrings s ((reqInForce s).getD (leU 48 0)) (modeNow s)).isEmpty

/-- Flags: unavailable, expired, limited, late, and time uncertain while the TSU is not LOCKED (14_time.md R419). -/
def dspFlags (s : State) : Nat :=
  bitsToNat [dspUnavailable s, s.dsp.expired, s.dsp.limited, s.dsp.late, s.tsu.sync != .locked]

def dspStatus (s : State) : Bytes :=
  let d := s.dsp
  (reqInForce s).getD (leU 48 0) ++ leS 4 (roundR d.target) ++ leS 4 d.allocated ++ leS 4 d.shortfall ++
    d.str.flatMap (fun x => leS 4 x.setpoint ++ leU 4 (roundR x.weight).toNat ++ leU 4 x.limit) ++ leU 4 (dspFlags s)

def execDspGetStatus (q : Req) (s : State) : Out State := getNone 0x0303 false dspStatus q s

def execDspGetQueue (q : Req) (s : State) : Out State := getW 0x0304 false (fun s => s.dsp.queue.flatMap (·.req)) q s

def execDspSetConfig (q : Req) (s : State) : Out State :=
  setR 0x0305 24 dspFields (fun _ _ => none) (fun _ p => dspCheck p)
    (fun s p => s.setDsp fun d => { d with cfg := p }) q s

def execDspGetConfig (q : Req) (s : State) : Out State := getNone 0x0306 false dspCfg q s

end Sys2Proof.Machine
end

