-- ==== Sys2Proof/Machine/Balance.lean ====
section
/-! DEFINITION. The balancing planner: eligibility, the planning cycle, stop conditions, the auxiliary bus allowances and the
BAL commands (07_balancing_dispatch.md R188 to R197, R203). -/

namespace Sys2Proof.Machine

/-! ## Available charge (R188, R189) -/

/-- avail(c) in C. -/
def availOf (s : State) (i c : Nat) : Rat :=
  let x := s.cellAt c
  (x.soc - (getU (estCfg s i) 12 2 : Rat) / 10000) * x.q

/-- Monitor and channel of a cell index. -/
def cellMon (c : Nat) : Nat := c % 512 / 32

/-- The newest round of a cell's monitor, where it carries the active threshold set (04_fenline_rings.md R115). -/
def freshRound (s : State) (i m : Nat) : Option RoundData :=
  let x := s.monAt i m
  match x.round with
  | none => none
  | some d => if !x.unreachable && thrAccepts s .sp i d.thrCrc.toNat then some d else none

def eligibleCell (s : State) (i c : Nat) : Bool :=
  let x := s.cellAt c
  let sg : Rat := (getU (balCfg s i) 20 2 : Rat) / 10000
  x.started && !x.stale && !x.diverged && !(x.resetT != 0 && decide (s.clk < x.resetT + 60 * nsS)) &&
    decide (pAt x.p 0 0 ≤ sg * sg) && decide (x.t ≤ getS (balCfg s i) 14 2) && (freshRound s i (cellMon c)).isSome

/-- Eligible cells with their deviations in C. -/
def deviations (s : State) (i : Nat) : List (Nat × Rat) :=
  let cells := (presentCells s i).filter (eligibleCell s i)
  let av := cells.map (availOf s i)
  let target : Rat :=
    if balMode s i = 2 then (if av.isEmpty then 0 else av.sum / av.length)
    else match av with | [] => 0 | x :: t => t.foldl min x
  cells.map fun c => (c, availOf s i c - target)

/-! ## One cycle (R191 to R196) -/

/-- Fractions of q_nom in C. -/
def ofNom (s : State) (i off : Nat) : Rat := (getU (balCfg s i) off 2 : Rat) / 10000 * mtQC (modelOf s i)

def chanOf (c : Nat) : Nat := c % 32

/-- Newest voltage of a cell, units of 0.1 mV. -/
def cellV (s : State) (i c : Nat) : Nat :=
  match (s.monAt i (cellMon c)).round with | none => 0 | some d => d.vCell.getD (chanOf c) 0

/-- Bus power of a shuttle at `current` mA, mW (R196). -/
def shuttlePower (s : State) (i c : Nat) (out : Bool) (current : Nat) : Nat :=
  let w : Rat := (cellV s i c * current : Nat) / 10000
  (roundR (if out then w * etaOut s i else w / etaIn s i)).toNat

/-- Candidate before `x` in order: larger |d| first, then the lower cell. -/
def insertDev (x : Nat × Rat) : List (Nat × Rat) → List (Nat × Rat)
  | [] => [x]
  | y :: t => if absR y.2 < absR x.2 ∨ (absR y.2 = absR x.2 ∧ x.1 < y.1) then x :: y :: t else y :: insertDev x t

def byDev (l : List (Nat × Rat)) : List (Nat × Rat) := l.foldl (fun a x => insertDev x a) []

/-- The shuttle candidate of monitor `m`: the largest |d| not refused by voltage. -/
def candidate (s : State) (i : Nat) (dev : List (Nat × Rat)) (m : Nat) : Option (Nat × Rat) :=
  let b := balCfg s i
  let ok (e : Nat × Rat) : Bool :=
    cellMon e.1 == m &&
      ((decide (e.2 < -ofNom s i 2) && decide (cellV s i e.1 < 10 * getU b 8 2)) ||
        (decide (ofNom s i 4 < e.2) && decide (10 * getU b 10 2 < cellV s i e.1)))
  (byDev (dev.filter ok)).head?

/-- A shuttle on offer: string, transfer, and whether its current may be reduced. -/
structure Offer where
  i : Nat
  x : Transfer
  new : Bool

def nC (d : Rat) : Nat := (absR d * 1000000000).floor.toNat

def offersOf (s : State) (i : Nat) (dev : List (Nat × Rat)) : List Offer :=
  if balMode s i ≠ 2 then []
  else
    (List.range 16).filterMap fun m =>
      (candidate s i dev m).map fun e =>
        { i := i, new := true
          x := { m := m, ch := chanOf e.1, outOfCell := decide ((0 : Rat) < e.2), current := getU (balCfg s i) 12 2, power := 0
                 dev := nC e.2 } }

/-- Shuttles of the other strings, which stay in the granting order by their |d|. -/
def otherOffers (s : State) (i : Nat) : List Offer :=
  ((List.range s.strings).filter (· ≠ i)).flatMap fun j => (s.balAt j).shuttles.map fun x => { i := j, x := x, new := false }

def insertOffer (o : Offer) : List Offer → List Offer
  | [] => [o]
  | y :: t => if y.x.dev < o.x.dev then o :: y :: t else y :: insertOffer o t

/-- Balancing allowance and return allowance, mW (R196). -/
def drawLimit (s : State) : Nat := 1000 * (match s.dsp.drawAllow with | none => s.dsp.budget | some a => min a s.dsp.budget)
def returnLimit (s : State) : Nat := 1000 * s.dsp.returnAllow

/-- The largest current that fits `room` mW: as offered, else for a new shuttle the largest multiple of 100 mA. -/
def fitting (s : State) (o : Offer) (room : Nat) : Option Nat :=
  let cell := 512 * o.i + 32 * o.x.m + o.x.ch
  let fits (cur : Nat) : Bool := decide (shuttlePower s o.i cell o.x.outOfCell cur ≤ room)
  if fits o.x.current then some o.x.current
  else if o.new then (((List.range (o.x.current / 100 + 1)).reverse.map (100 * ·)).filter (0 < ·)).find? fits
  else none

/-- Grants in descending |d| across the device. -/
def grant (s : State) : List Offer → Nat → Nat → List Offer
  | [], _, _ => []
  | o :: t, draw, ret =>
    match fitting s o (if o.x.outOfCell then ret else draw) with
    | none => grant s t draw ret
    | some cur =>
      let p := shuttlePower s o.i (512 * o.i + 32 * o.x.m + o.x.ch) o.x.outOfCell cur
      { o with x := { o.x with current := cur, power := p } } ::
        (if o.x.outOfCell then grant s t draw (ret - p) else grant s t (draw - p) ret)

/-- Bleeds of monitor `m`: in descending d, keeping R117 satisfied. -/
def bleedsOf (s : State) (i : Nat) (dev : List (Nat × Rat)) (sh : List Transfer) (m : Nat) : List (Nat × Nat) :=
  let carrying (ch : Nat) : Bool := sh.any fun x => x.m == m && x.ch == ch
  let above := dev.filter fun e => cellMon e.1 == m && decide (ofNom s i 2 < e.2) && !carrying (chanOf e.1)
  (byDev above).foldl (fun l e =>
    let ch := chanOf e.1
    if 8 ≤ l.length ∨ l.any (fun x => x.1 % 32 = ch + 1 ∨ ch = x.1 % 32 + 1) then l else l ++ [(32 * m + ch, nC e.2)]) []

/-- Drops the running shuttles a monitor of string `i` has outside `keep`. -/
def dropShuttles (s : State) (i : Nat) (keep : List Transfer) : State :=
  let gone := (s.balAt i).shuttles.filter fun x => !(keep.any fun y => y.m == x.m && y.ch == x.ch)
  let s := s.modBal i fun b => { b with shuttles := keep }
  gone.foldl (fun s x => s.modMon i x.m fun y => if y.followsUs then { y with shuttle := none } else y) s

/-- The planner may plan string `i` (R194): in a role that commands, in ACTIVE or FLOAT, not HALTED or RETIRED, no rest
window and no hold. -/
def planAllowed (s : State) (i : Nat) : Bool :=
  let held : Bool := match (s.balAt i).holdEnd with | none => false | some t => decide (s.clk < t)
  s.isStr i && s.unit.commands && (s.pwr.state == .active || s.pwr.state == .float) && timeRuns s && !s.pwr.supLost &&
    !s.hpr.handover && (s.strAt i).state != .halted && (s.strAt i).state != .retired && (s.estAt i).rest.isNone && !held

/-- The string injects tones. -/
def injects (s : State) (i : Nat) : Bool :=
  match s.tpe.plan with
  | none => false
  | some p => planHas p i && (s.pairAt (pairOf s i)).env != .off

/-- A cycle is due (R191): its 60 s point has come, and while tones inject a window boundary at or after that point, within
the last 200 ms. -/
def cycleDue (s : State) (i : Nat) : Bool :=
  let due := (s.balAt i).cycleT
  decide (due ≤ s.tsu.now) &&
    (due == 0 || !injects s i || (decide (due ≤ s.tpe.windowT) && decide (s.tsu.now ≤ s.tpe.windowT + 200 * nsMs)))

/-- The next 60 s point, on a grid from the schedule's epoch. -/
def nextCycle (s : State) (i : Nat) : Nat :=
  let e := (s.ringAt i).epoch
  e + ((s.tsu.now - e) / (60 * nsS) + 1) * (60 * nsS)

/-- Decides string `i`; then each monitor that gets a command is read first (R193). -/
def planString (s : State) (i : Nat) : State :=
  let dev := deviations s i
  if 2 * dev.length < (presentCells s i).length then s.modBal i fun b => { b with omitted := b.omitted + 1 }
  else
    let mine := offersOf s i dev
    let all := (mine ++ otherOffers s i).foldl (fun a o => insertOffer o a) []
    let granted := grant s all (drawLimit s) (returnLimit s)
    let sh (j : Nat) : List Transfer := (granted.filter fun o => o.i == j).map (·.x)
    let touched := (List.range 16).filter fun m =>
      (sh i).any (·.m == m) || (s.balAt i).shuttles.any (·.m == m) || (s.balAt i).bleeds.any fun e => e.1 / 32 == m
    let s := ((List.range s.strings).filter (· ≠ i)).foldl (fun s j => dropShuttles s j (sh j)) s
    let bl := (List.range 16).flatMap (bleedsOf s i dev (sh i))
    let s := s.modBal i fun b => { b with shuttles := sh i, bleeds := bl }
    let reads := (List.range 16).filter fun m => touched.contains m || bl.any fun e => e.1 / 32 == m
    reads.foldl (fun s m => sendFrame s i m 4 2 false) s

def execPlanningCycle (t : Nat) (i : Nat) (s : State) : Out State :=
  let s := s.advance t
  .next (if !planAllowed s i || !ringMaster s || !ringRuns s i || !cycleDue s i then s
    else
      let next := nextCycle s i
      let s := s.modBal i fun b => { b with cycleT := next, ringStopped := false }
      if balMode s i = 0 then stopBalancing s i else planString s i)

/-! ## Stops (R194, R197) -/

/-- A condition of *Balancing stop conditions* that stops transfers holds; in RECOVERY and SAFE-HOLD they end by themselves. -/
def stopNow (s : State) (i : Nat) : Bool :=
  let held : Bool := match (s.balAt i).holdEnd with | none => false | some t => decide (s.clk < t)
  s.unit.commands && ((s.strAt i).state == .halted || (s.strAt i).state == .retired || resting i || held ||
    s.pwr.state == .holdup || s.pwr.state == .dormant)
where
  resting (i : Nat) : Bool := (s.estAt i).rest.isSome

def execBalancingStop (t : Nat) (i : Nat) (s : State) : Out State :=
  let s := s.advance t
  .next (if s.isStr i && stopNow s i then stopBalancing s i else s)

/-- Estimated power of the shuttles in one direction, mW. -/
def inUse (s : State) (out : Bool) : Nat :=
  ((List.range s.strings).map fun i =>
    (((s.balAt i).shuttles.filter fun x => x.outOfCell == out).map (·.power)).sum).sum

/-- The transfer of one direction with the least |d|. -/
def leastDev (s : State) (out : Bool) : Option (Nat × Transfer) :=
  ((List.range s.strings).flatMap fun i => ((s.balAt i).shuttles.filter fun x => x.outOfCell == out).map fun x => (i, x)).foldl
    (fun (a : Option (Nat × Transfer)) x =>
      match a with
      | none => some x
      | some y => if x.2.dev < y.2.dev then some x else a) none

/-- Stops transfers of one direction in ascending |d| until they fit; an allowance of 0 stops all. -/
def trimTo (out : Bool) (limit : Nat) : Nat → State → State
  | 0, s => s
  | n + 1, s =>
    if inUse s out ≤ limit ∧ 0 < limit then s
    else match leastDev s out with
      | none => s
      | some (i, x) =>
        trimTo out limit n (dropShuttles s i ((s.balAt i).shuttles.filter fun y => ¬ (y.m = x.m ∧ y.ch = x.ch)))

def execAllowanceChange (t : Nat) (s : State) : Out State :=
  let s := s.advance t
  .next (if !s.unit.commands then s
    else trimTo true (returnLimit s) 128 (trimTo false (drawLimit s) 128 s))

/-! ## Commands (R190, R196, R203, R216) -/

def execBalSetConfig (q : Req) (s : State) : Out State :=
  setR 0x0601 24 balFields popString (fun _ p => balCheck p)
    (fun s p => s.modBal (getU p 0 1) fun b => { b with cfg := p }) q s

def execBalGetConfig (q : Req) (s : State) : Out State := getI 0x0602 false true false State.strings balCfg q s

def execBalSetBudget (q : Req) (s : State) : Out State :=
  setR 0x0603 4 [uf 0 4 0 4000 0] (fun _ _ => none) (fun _ _ => none)
    (fun s p => s.setDsp fun d => { d with budget := getU p 0 4 }) q s

def holdFields : List Field := [uf 0 1 0 7 0, rsv 1 1, rsv 2 2, uf 4 4 0 86400 0]

/-- A hold stops the string's transfers; 0 s releases it. -/
def storeHold (s : State) (p : Bytes) : State :=
  let i := getU p 0 1
  let n := getU p 4 4
  if n = 0 then s.modBal i fun b => { b with holdEnd := none }
  else stopBalancing (s.modBal i fun b => { b with holdEnd := some (s.clk + n * nsS) }) i

def execBalHold (q : Req) (s : State) : Out State :=
  setR 0x0604 8 holdFields popString (fun _ _ => none) storeHold q s

/-- The transfers in force with their deviations, and the allowances in W. -/
def planBytes (s : State) (i : Nat) : Bytes :=
  let b := s.balAt i
  let line (m ch kind cur dev : Nat) : Bytes := leU 1 m ++ leU 1 ch ++ leU 1 kind ++ [0] ++ leU 4 cur ++ leU 8 dev
  leU 1 i ++ leU 1 0 ++ leU 2 (b.shuttles.length + b.bleeds.length) ++ leU 4 b.omitted ++ leU 4 (drawLimit s / 1000) ++
    leU 4 (returnLimit s / 1000) ++ b.shuttles.flatMap (fun x => line x.m x.ch x.outOfCell.toNat x.current x.dev) ++
    b.bleeds.flatMap fun e => line (e.1 / 32) (e.1 % 32) 2 200 e.2

def execBalGetPlan (q : Req) (s : State) : Out State := getI 0x0605 false true true State.strings planBytes q s

def execBalGetLedger (q : Req) (s : State) : Out State := getI 0x0606 false true true State.strings ledgerBytes q s

end Sys2Proof.Machine
end

