-- ==== Sys2Proof/Machine/Can.lean ====
section
/-! DEFINITION. The CAN FD controllers: message RAM, filters, queues, registers, delegation and commands
(16_ethernet_can.md R465 to R474). -/

namespace Sys2Proof.Machine

/-! ## Message RAM (R466) -/

def canTxAddr (c put : Nat) : Nat := 0x4000 + 0x900 * c + 72 * (put % 32)
def canRxAddr (c k entry : Nat) : Nat := 0x6400 + 0x1300 * (2 * c + k) + 76 * entry

def canRamWrite (s : State) (off : Nat) (b : Bytes) : State := { s with canRam := memWrites s.canRam off b }

def Can.q (x : Can) (k : Nat) : CanQ := if k = 0 then x.q0 else x.q1
def Can.modQ (x : Can) (k : Nat) (f : CanQ → CanQ) : Can := if k = 0 then { x with q0 := f x.q0 } else { x with q1 := f x.q1 }

/-- (PUT − GET) mod 256. -/
def CanQ.owned (q : CanQ) : Nat := (q.put + 256 - q.get) % 256
def Can.queued (x : Can) : Nat := (x.txPut + 256 - x.txGet) % 256

/-! ## Events and sources -/

/-- The CAN domain runs (02_power_states_clocks.md *Clock domains*, R50). -/
def canRuns (s : State) : Bool :=
  hostServed s && !s.asleep && s.pwr.state != .retention && s.pwr.state != .unpowered && !s.clockLost .can

/-- The controller takes part on the bus. -/
def onBus (s : State) (c : Nat) : Bool :=
  let x := s.canAt c
  canRuns s && decide (c < 4) && !x.init && x.state != 2

/-- Source `k` of controller `c`, where CAN_IE enables it (17_app_core_icu.md R482). -/
def canSource (s : State) (c k : Nat) : State :=
  if (s.canAt c).ie.getLsbD k then icuShared s (64 + 4 * c + k) else s

/-- Sets event bit 16 + `b` of CAN_STATUS. -/
def canEvent (s : State) (c b : Nat) : State :=
  canSource (s.modCan c fun x => { x with evt := x.evt ||| BitVec.twoPow 6 b }) c 3

def accErr (s : State) (c : Nat) : State := canEvent s c 5

/-- Runs `f` where the writer holds controller `c`; a write of APP to one it does not hold sets ACC_ERR, and SUP leaves
a delegated one alone (R473). -/
def canOwned (s : State) (app : Bool) (c : Nat) (f : State → State) : State :=
  if 4 ≤ c then s
  else if app == (s.canAt c).delegated then f s
  else if app then accErr s c else s

/-! ## Bit timing (R465) -/

/-- Rates b/s × 2⁰ from the register fields: the clock over prescaler × quanta, as numerator and denominator. -/
def nbtDiv (v : Nat) : Nat := (v % 256 + 1) * (1 + (v / 256 % 256 + 1) + (v / 65536 % 128 + 1))
def dbtDiv (v : Nat) : Nat := (v % 32 + 1) * (1 + (v / 256 % 32 + 1) + (v / 65536 % 16 + 1))

/-- The timing lies inside R465: 125 kb/s to 1 Mb/s, data from nominal to 5 Mb/s, delay compensation above 1 Mb/s. -/
def timingOk (nbt dbt : Nat) (tdc : Bool) : Bool :=
  decide (80 ≤ nbtDiv nbt) && decide (nbtDiv nbt ≤ 640) && decide (dbtDiv dbt ≤ nbtDiv nbt) && decide (16 ≤ dbtDiv dbt) &&
    (tdc || decide (80 ≤ dbtDiv dbt))

/-- Register fields (prescaler, TSEG1, TSEG2) with the smallest prescaler that gives `rate` exactly and sample point `sp`
(0.1 %), within the field limits. -/
def bitTiming (rate sp pMax t1Max t2Max : Nat) : Option (Nat × Nat × Nat) :=
  ((List.range pMax).map (· + 1)).findSome? fun p =>
    let n := 80000000 / (rate * p)
    let a := sp * n / 1000
    if rate ≠ 0 ∧ n * (rate * p) = 80000000 ∧ a * 1000 = sp * n ∧ 2 ≤ a ∧ a - 1 ≤ t1Max ∧ a < n ∧ n - a ≤ t2Max then
      some (p, a - 1, n - a)
    else none

/-- *CAN_NBT* and *CAN_DBT* of a timing; the jump width is TSEG2, as in the reset values. -/
def nbtWord (x : Nat × Nat × Nat) : Nat := (x.1 - 1) + 256 * (x.2.1 - 1) + 65536 * (x.2.2 - 1) + 16777216 * (x.2.2 - 1)

/-! ## INIT (R472) -/

/-- Clearing INIT empties nothing; the controller joins the bus error-active. -/
def leaveInit (x : Can) : Can := if x.init then { x with init := false, state := 0 } else x

/-- A write of CAN_CTRL. A 0 to INIT with a timing outside R465 is discarded and sets ACC_ERR; the reserved value of
NOMATCH leaves it as it is. -/
def writeCtrl (s : State) (c : Nat) (v : BitVec 32) : State :=
  let x := s.canAt c
  if !v.getLsbD 0 && x.init && !timingOk x.nbt.toNat x.dbt.toNat (v.getLsbD 2) then accErr s c
  else
    let nm := v.toNat / 64 % 4
    s.modCan c fun x =>
      let x := { x with fd := v.getLsbD 1, tdc := v.getLsbD 2, abo := v.getLsbD 3, listen := v.getLsbD 4, loop := v.getLsbD 5
                        noMatch := if nm = 3 then x.noMatch else nm }
      if v.getLsbD 0 then enterInit x else leaveInit x

def execCanCtrlWrite (t : Nat) (app : Bool) (c : Nat) (value : BitVec 32) (s : State) : Out State :=
  let s := s.advance t
  .next (if canRuns s then canOwned s app c fun s => writeCtrl s c value else s)

/-! ## Transmit queue (R469, R470) -/

def writeTxPut (s : State) (c put : Nat) : State :=
  if 32 < (put % 256 + 256 - (s.canAt c).txGet) % 256 then accErr s c else s.modCan c fun x => { x with txPut := put % 256 }

def execCanTxqPutWrite (t : Nat) (app : Bool) (c put : Nat) (s : State) : Out State :=
  let s := s.advance t
  .next (if canRuns s then canOwned s app c fun s => writeTxPut s c put else s)

/-- CANCEL ends the head after its present attempt. -/
def writeCancel (s : State) (c : Nat) : State :=
  if (s.canAt c).queued = 0 then s else s.modCan c fun x => { x with cancel := true }

def execCanCancel (t : Nat) (app : Bool) (c : Nat) (s : State) : Out State :=
  let s := s.advance t
  .next (if canRuns s then canOwned s app c fun s => writeCancel s c else s)

/-- The head has lost arbitration for HOL_LIM µs: TX_HOL is set and the TX source raised. -/
def execTxHol (t : Nat) (c : Nat) (s : State) : Out State :=
  let s := s.advance t
  let x := s.canAt c
  .next (if onBus s c && !x.listen && x.queued != 0 && x.holLim != 0 then canSource (canEvent s c 2) c 2 else s)

/-! ## Reception (R468, R471) -/

/-- Element `n` of the filter list: both words. -/
def filterWords (s : State) (n : Nat) : Nat × Nat :=
  (getU (memReads s.canRam (8 * n) 4) 0 4, getU (memReads s.canRam (8 * n + 4) 4) 0 4)

/-- Element `n` matches identifier `id`. -/
def filterMatches (s : State) (n id : Nat) (xtd : Bool) : Bool :=
  let (a, b) := filterWords s n
  let id1 := a % 2 ^ 29
  let id2 := b % 2 ^ 29
  a.testBit 29 == xtd &&
    match a / 2 ^ 30 with
    | 1 => decide (id1 ≤ id ∧ id ≤ id2)
    | 2 => id == id1 || id == id2
    | 3 => id &&& id2 == id1 &&& id2
    | _ => false

/-- What the filters decide: queue and element index, or the NOMATCH action; none rejects. -/
def filterFate (s : State) (c id : Nat) (xtd : Bool) : Option (Nat × Option Nat) :=
  let x := s.canAt c
  match ((List.range x.fltCount).map (x.fltBase + ·)).find? fun n => filterMatches s n id xtd with
  | some n =>
    match (filterWords s n).2 / 2 ^ 30 with
    | 0 => some (0, some n)
    | 1 => some (1, some n)
    | _ => none
  | none => if x.noMatch < 2 then some (x.noMatch, none) else none

/-- Data bytes of a DLC (ISO 11898-1). -/
def dlcLen (dlc : Nat) (fd remote : Bool) : Nat :=
  if remote then 0
  else if dlc ≤ 8 then dlc
  else if !fd then 8
  else [12, 16, 20, 24, 32, 48, 64].getD (dlc - 9) 64

/-- *Receive entry*. The element index of a frame accepted by NOMATCH and the data bytes past the DLC are free. -/
def rxEntry (s : State) (f : CanFrame) (elem : Option Nat) : Bytes :=
  let n := dlcLen f.dlc f.fd f.remote
  let idx := match elem with | some k => k | none => Config.freeNat s.free % 2048
  leU 4 (f.id % 2 ^ 29 + 2 ^ 29 * f.xtd.toNat + 2 ^ 30 * f.remote.toNat + 2 ^ 31 * f.esi.toNat) ++
    leU 4 (f.dlc % 16 + 16 * f.fd.toNat + 32 * f.brs.toNat + 65536 * idx + 2 ^ 27 * elem.isNone.toNat) ++
    leU 4 (s.tsu.now % 2 ^ 32) ++ fitTo n f.bytes ++ leU (64 - n) (Config.freeNat (s.free + 1))

/-- A frame reaches controller `c`: filtered, then published in its queue or discarded when that is full. -/
def receiveFrame (s : State) (c : Nat) (f : CanFrame) : State :=
  match filterFate s c (f.id % 2 ^ 29) f.xtd with
  | none => s
  | some (k, elem) =>
    let q := (s.canAt c).q k
    if q.owned = q.depth then
      canEvent (s.modCan c fun x => x.modQ k fun q => { q with ovf := (q.ovf + 1) % 2 ^ 32 }) c k
    else
      let s := canRamWrite s (canRxAddr c k (q.put % q.depth)) (rxEntry s f elem)
      let s := s.draw.draw.modCan c fun x =>
        { x.modQ k (fun q => { q with put := (q.put + 1) % 256 }) with received := (x.received + 1) % 2 ^ 32 }
      if q.owned = 0 then canSource s c k else s

/-- A frame on the bus; a controller without FD takes no FD frame, and one in loopback hears only itself. -/
def execCanFrameReceived (t : Nat) (c : Nat) (f : CanFrame) (s : State) : Out State :=
  let s := s.advance t
  let x := s.canAt c
  .next (if onBus s c && !x.loop && (x.fd || !f.fd) && !(f.remote && f.fd) then receiveFrame s c f else s)

def writeRxGet (s : State) (c k get : Nat) : State :=
  let q := (s.canAt c).q k
  if (get % 256 + 256 - q.get) % 256 ≤ q.owned then
    let s := s.modCan c fun x => x.modQ k fun q => { q with get := get % 256 }
    if ((s.canAt c).q k).owned = 0 then s else canSource s c k
  else accErr s c

def execCanRxqGetWrite (t : Nat) (app : Bool) (c k get : Nat) (s : State) : Out State :=
  let s := s.advance t
  .next (if canRuns s && decide (k < 2) then canOwned s app c fun s => writeRxGet s c k get else s)

/-- The frame of the transmit element at the head. -/
def headFrame (s : State) (c : Nat) : CanFrame :=
  let b := memReads s.canRam (canTxAddr c (s.canAt c).txGet) 72
  let id := getU b 0 4
  let ctrl := getU b 4 4
  { id := id % 2 ^ 29, xtd := id.testBit 29, remote := id.testBit 30, esi := id.testBit 31, dlc := ctrl % 16
    fd := ctrl.testBit 4, brs := ctrl.testBit 5, bytes := b.drop 8 }

/-- The head is sent (0), cancelled (1) or fails one-shot (2). In loopback a sent frame comes back. -/
def execCanTxComplete (t : Nat) (c outcome : Nat) (s : State) : Out State :=
  let s := s.advance t
  let x := s.canAt c
  let ctrl := getU (memReads s.canRam (canTxAddr c x.txGet + 4) 4) 0 4
  let may : Bool := match outcome with | 0 => true | 1 => x.cancel | 2 => ctrl.testBit 6 | _ => false
  .next (if onBus s c && !x.listen && x.queued != 0 && may then
      let f := headFrame s c
      let s := s.modCan c fun x =>
        { x with txGet := (x.txGet + 1) % 256, cancel := false, lastMarker := ctrl / 256 % 256, lastOutcome := outcome
                 txTs := if outcome = 0 then s.tsu.now % 2 ^ 32 else x.txTs
                 sent := if outcome = 0 then (x.sent + 1) % 2 ^ 32 else x.sent }
      let s := canSource s c 2
      if outcome = 0 ∧ x.loop then receiveFrame s c f else s
    else s)

def execBusOff (t : Nat) (c : Nat) (s : State) : Out State :=
  let s := s.advance t
  .next (if onBus s c && !(s.canAt c).loop then canEvent (s.modCan c fun x => { x with state := 2 }) c 4 else s)

def execBusOffRecovery (t : Nat) (c : Nat) (s : State) : Out State :=
  let s := s.advance t
  .next (if canRuns s && decide (c < 4) && (s.canAt c).state == 2 && (s.canAt c).abo then
    s.modCan c fun x => { x with state := 0, tec := 0, recCnt := 0, recPassive := false } else s)

/-! ## Registers (*CAN register map*) -/

def canCtrlWord (x : Can) : Nat := bitsToNat [x.init, x.fd, x.tdc, x.abo, x.listen, x.loop] + 64 * x.noMatch
def canStatusWord (x : Can) : Nat := x.state + 65536 * x.evt.toNat
def canErrWord (x : Can) : Nat := x.tec % 256 + 256 * (x.recCnt % 128) + 32768 * x.recPassive.toNat + 65536 * (x.protoErrs % 65536)

def depthCode (d : Nat) : Nat := match d with | 4 => 0 | 8 => 1 | 16 => 2 | 32 => 3 | _ => 4

/-- The word a read of controller `c` at `off` returns. -/
def canRead (s : State) (c off : Nat) : Nat :=
  let x := s.canAt c
  match off with
  | 0x000 => Config.blockVersion
  | 0x004 => canCtrlWord x
  | 0x008 => x.nbt.toNat
  | 0x00C => x.dbt.toNat
  | 0x010 => x.tdcOff
  | 0x014 => canStatusWord x
  | 0x018 => canErrWord x
  | 0x01C => x.ie.toNat
  | 0x020 => x.fltBase + 65536 * x.fltCount
  | 0x024 => x.txPut
  | 0x028 => x.txGet + 256 * (onBus s c && !x.listen && x.queued != 0).toNat
  | 0x030 => x.holLim
  | 0x034 => x.lastMarker + 256 * x.lastOutcome
  | 0x038 => x.txTs
  | 0x040 => depthCode x.q0.depth
  | 0x044 => x.q0.put
  | 0x048 => x.q0.get
  | 0x04C => x.q0.ovf
  | 0x050 => depthCode x.q1.depth
  | 0x054 => x.q1.put
  | 0x058 => x.q1.get
  | 0x05C => x.q1.ovf
  | _ => 0

/-- Runs `f` in INIT; elsewhere the write is discarded and sets ACC_ERR. -/
def initOnly (s : State) (c : Nat) (f : Can → Can) : State := if (s.canAt c).init then s.modCan c f else accErr s c

/-- Depth of a CAN_RXQq_CFG code; codes above 4 are not in the map. -/
def depthOf (code : Nat) : Nat := if code ≤ 4 then 4 * 2 ^ code else 64

/-- A write by the holder of controller `c`. -/
def canHeldWrite (s : State) (c off : Nat) (v : BitVec 32) : State :=
  let w := v.toNat
  match off with
  | 0x004 => writeCtrl s c v
  | 0x008 => initOnly s c fun x => { x with nbt := v &&& 0x7F7FFFFF }
  | 0x00C => initOnly s c fun x => { x with dbt := v &&& 0x0F0F1F1F }
  | 0x010 => initOnly s c fun x => { x with tdcOff := w % 128 }
  | 0x014 => s.modCan c fun x => { x with evt := x.evt &&& ~~~ (BitVec.ofNat 6 (w / 65536)) }
  | 0x01C => s.modCan c fun x => { x with ie := BitVec.ofNat 4 w }
  | 0x020 => initOnly s c fun x => { x with fltBase := w % 2048, fltCount := min 2048 (w / 65536 % 4096) }
  | 0x024 => writeTxPut s c (w % 256)
  | 0x02C => if v.getLsbD 0 then writeCancel s c else s
  | 0x030 => s.modCan c fun x => { x with holLim := w % 65536 }
  | 0x040 => initOnly s c fun x => { x with q0 := { x.q0 with depth := depthOf (w % 8) } }
  | 0x048 => writeRxGet s c 0 (w % 256)
  | 0x050 => initOnly s c fun x => { x with q1 := { x.q1 with depth := depthOf (w % 8) } }
  | 0x058 => writeRxGet s c 1 (w % 256)
  | _ => s

def canWrite (s : State) (app : Bool) (c off : Nat) (v : BitVec 32) : State :=
  if canRuns s then canOwned s app c fun s => canHeldWrite s c off v else s

/-- Filter element `n` lies in the list of controller `c`. -/
def inList (s : State) (c n : Nat) : Bool :=
  let x := s.canAt c
  decide (x.fltBase ≤ n ∧ n < x.fltBase + x.fltCount)

/-- A word written to message RAM. APP reaches the regions of its controllers only; the reserved part reads 0 (R466,
R473). -/
def canRamPut (s : State) (app : Bool) (off : Nat) (v : BitVec 32) : State :=
  let put (s : State) : State := canRamWrite s off (leU 4 v.toNat)
  let off4 := off / 4 * 4
  if !canRuns s || off % 4 != 0 || 0xFC00 ≤ off4 then s
  else if off < 0x4000 then
    let n := off / 8
    let holders := (List.range 4).filter fun c => inList s c n
    if !app then put s
    else if holders.any fun c => (s.canAt c).delegated then put s
    else if holders.isEmpty then
      ((List.range 4).filter fun c => (s.canAt c).delegated).foldl accErr s
    else holders.foldl accErr s
  else
    let c := if off < 0x6400 then (off - 0x4000) / 0x900 else (off - 0x6400) / 0x2600
    if !app || (s.canAt c).delegated then put s else accErr s c

/-! ## Commands (R473, R474) -/

/-- *CAN configuration*. -/
def canFields : List Field :=
  [uf 0 1 0 3 0, uf 1 1 0 31 0, uf 2 1 0 2 0, uf 3 1 0 127 0, uf 4 4 125000 1000000 0, uf 8 4 0 5000000 0, uf 12 2 500 950 0,
    uf 14 2 500 950 0, uf 16 1 0 4 0, uf 17 1 0 4 0, uf 18 2 0 65535 0, uf 20 2 0 2047 0, uf 22 2 0 2048 0]

def nominalTiming (p : Bytes) : Option (Nat × Nat × Nat) := bitTiming (getU p 4 4) (getU p 12 2) 256 256 128
def dataTiming (p : Bytes) : Option (Nat × Nat × Nat) := bitTiming (getU p 8 4) (getU p 14 2) 32 32 16

/-- Lists [a, a + n) and [b, b + m) share an element. -/
def overlaps (a n b m : Nat) : Bool := decide (0 < n ∧ 0 < m ∧ a < b + m ∧ b < a + n)

/-- The checks of a configuration: rates, sample points and the filter list (R465, R467). -/
def canCfgBad (s : State) (p : Bytes) : Option Nat :=
  let c := getU p 0 1
  let base := getU p 20 2
  let n := getU p 22 2
  firstBad [badField canFields p,
    must (getBit p 1 2 || decide (getU p 8 4 ≤ 1000000)) 1,
    must (decide (getU p 4 4 ≤ getU p 8 4)) 8,
    must ((nominalTiming p).isSome) 4,
    must ((dataTiming p).isSome) 8,
    must ((List.range 4).all fun k => k == c || !overlaps base n (s.canAt k).fltBase (s.canAt k).fltCount) 20,
    must (decide (base + n ≤ 2048)) 22]

/-- The registers a configuration gives. A change of timing, depth or list passes through INIT. -/
def applyCanCfg (p : Bytes) (x : Can) : Can :=
  let nbt := BitVec.ofNat 32 (nbtWord ((nominalTiming p).getD (1, 1, 1)))
  let dbt := BitVec.ofNat 32 (nbtWord ((dataTiming p).getD (1, 1, 1)))
  let d0 := depthOf (getU p 16 1)
  let d1 := depthOf (getU p 17 1)
  let change : Bool := nbt != x.nbt || dbt != x.dbt || x.tdcOff != getU p 3 1 || d0 != x.q0.depth || d1 != x.q1.depth ||
    x.fltBase != getU p 20 2 || x.fltCount != getU p 22 2
  let x := if change || !getBit p 1 0 then enterInit x else x
  let x := { x with fd := getBit p 1 1, tdc := getBit p 1 2, abo := getBit p 1 3, listen := getBit p 1 4, loop := false
                    noMatch := getU p 2 1, tdcOff := getU p 3 1, nbt := nbt, dbt := dbt, holLim := getU p 18 2
                    fltBase := getU p 20 2, fltCount := getU p 22 2, q0 := { x.q0 with depth := d0 }
                    q1 := { x.q1 with depth := d1 }, cfg := p }
  if getBit p 1 0 then leaveInit x else x

/-- A command that names a delegated controller conflicts (R474). -/
def canConflict (s : State) (c : Nat) : Option Nat := if (s.canAt c).delegated then some (conflictObj c) else none

def execCanSetConfig (q : Req) (s : State) : Out State :=
  command
    { op := 0x0F01, len := lenIs 24, roles := .all
      state := fun s q => canConflict s (getU q.payload 0 1)
      arg := fun s q => canCfgBad s q.payload }
    (fun s q => ok (s.modCan (getU q.payload 0 1) (applyCanCfg q.payload)) 0x0F01 q []) q s

/-- A CAN command of form I over the controllers its index names, all for 0xFF. -/
def canGetI (op : Nat) (resp : State → Nat → Bytes) (q : Req) (s : State) : Out State :=
  let body (s : State) : Bytes := (namedBy (getU q.payload 0 1) 4).flatMap (resp s)
  command
    { op := op, len := lenIs 4, roles := .all
      state := fun s q => (namedBy (getU q.payload 0 1) 4).findSome? (canConflict s)
      arg := fun s q => argI 4 true false (body s).length q.payload
      desc := fun s q => descAt q 2 (if (body s).length ≤ 240 then 0 else (body s).length) }
    (fun s q => respond s op q (getU q.payload 2 2) (body s)) q s

def execCanGetConfig (q : Req) (s : State) : Out State :=
  canGetI 0x0F02 (fun s c => fitTo 24 ((s.canAt c).cfg)) q s

/-- CAN_STATUS, CAN_ERRCNT, queue counters, OVF counts, frames sent and received. -/
def canStatusBytes (s : State) (c : Nat) : Bytes :=
  let x := s.canAt c
  leU 4 (canStatusWord x) ++ leU 4 (canErrWord x) ++ leU 1 x.txPut ++ leU 1 x.txGet ++ leU 1 x.q0.put ++ leU 1 x.q0.get ++
    leU 1 x.q1.put ++ leU 1 x.q1.get ++ leU 4 x.q0.ovf ++ leU 4 x.q1.ovf ++ leU 4 x.sent ++ leU 4 x.received

def execCanGetStatus (q : Req) (s : State) : Out State := canGetI 0x0F06 canStatusBytes q s

/-- The buffer of CAN_SET_FILTER passes its checks: controller, reserved byte, count within the list, and each element. -/
def filterBufBad (s : State) (b : Bytes) (len : Nat) : Option Nat :=
  let n := getU b 2 2
  firstBad ([must (decide (getU b 0 1 < 4)) 0, must (getU b 1 1 == 0) 1,
      must (decide (n ≤ (s.canAt (getU b 0 1)).fltCount) && len == 4 + 8 * n) 2] ++
    (List.range n).map fun k =>
      let w := getU b (8 + 8 * k) 4
      must (!w.testBit 29 && decide (w / 2 ^ 30 < 3)) (8 + 8 * k))

def execCanSetFilter (q : Req) (s : State) : Out State :=
  let d := getU q.payload 0 2
  let len := getU q.payload 4 4
  command
    { op := 0x0F03, len := lenIs 8, roles := .all
      state := fun s q =>
        let c := getU (bufRead s d 1) 0 1
        if !descOk s q d len || 4 ≤ c then none
        else match canConflict s c with
          | some x => some x
          | none => if (s.canAt c).init then none else some (conflictObj c)
      arg := fun s q => firstBad [zeroAt q.payload 2 2, must (decide (4 ≤ len ∧ len ≤ 4 + 8 * 2048)) 4,
        if descOk s q d len then inBuf (filterBufBad s (bufRead s d (min len (4 + 8 * 2048))) len) else none]
      desc := fun _ _ => some (d, len) }
    (fun s q =>
      let b := bufRead s d len
      ok (canRamWrite s (8 * (s.canAt (getU b 0 1)).fltBase) (b.drop 4)) 0x0F03 q []) q s

def execCanSend (q : Req) (s : State) : Out State :=
  command
    { op := 0x0F04, len := lenIs 76, roles := .all, h := false
      state := fun s q => canConflict s (getU q.payload 0 1)
      arg := fun _ q => firstBad [must (decide (getU q.payload 0 1 < 4)) 0, zeroAt q.payload 1 1, zeroAt q.payload 2 2,
        zeroAt q.payload 10 2]
      res := fun s q => decide (32 ≤ (s.canAt (getU q.payload 0 1)).queued) }
    (fun s q =>
      let c := getU q.payload 0 1
      let s := canRamWrite s (canTxAddr c (s.canAt c).txPut) (q.payload.drop 4)
      ok (s.modCan c fun x => { x with txPut := (x.txPut + 1) % 256 }) 0x0F04 q []) q s

/-- The owned entries of queue `k` of controller `c` in order, at most `n`. -/
def ownedEntries (s : State) (c k n : Nat) : Bytes :=
  let q := (s.canAt c).q k
  (List.range (min n q.owned)).flatMap fun j => memReads s.canRam (canRxAddr c k ((q.get + j) % 256 % q.depth)) 76

def execCanRead (q : Req) (s : State) : Out State :=
  let i := getU q.payload 0 1
  let d := getU q.payload 2 2
  command
    { op := 0x0F05, len := lenIs 4, roles := .all
      state := fun s _ => canConflict s (i % 4)
      arg := fun _ q => firstBad [must (decide (i < 8)) 0, zeroAt q.payload 1 1, must (d != noDesc) 2]
      desc := fun _ q => descAt q 2 0 }
    (fun s q =>
      let c := i % 4
      let k := i / 4
      let n := min ((s.desc d).size / 76) ((s.canAt c).q k).owned
      let b := ownedEntries s c k n
      let g := (((s.canAt c).q k).get + n) % 256
      respondBuf (writeRxGet s c k g) 0x0F05 q d b) q s

/-- CAN_DELEGATE: each controller named must be in INIT. Its sources go with it (R473, 17_app_core_icu.md R482). -/
def execCanDelegate (q : Req) (s : State) : Out State :=
  let named : List Nat := (List.range 4).filter fun c => (getU q.payload 0 1).testBit c
  command
    { op := 0x0F07, len := lenIs 2, roles := .all, h := false, noApp := true
      state := fun s _ => (named.find? fun c => !(s.canAt c).init).map conflictObj
      arg := fun _ q => firstBad [must (decide (getU q.payload 0 1 < 16)) 0, must (decide (getU q.payload 1 1 ≤ 1)) 1] }
    (fun s q =>
      let give := getU q.payload 1 1 == 1
      let s := named.foldl (fun s c =>
        (List.range 4).foldl (fun s k => retarget s (64 + 4 * c + k) (if give then .app else .sup))
          (s.modCan c fun x => { x with delegated := give })) s
      ok s 0x0F07 q []) q s

end Sys2Proof.Machine
end

