-- ==== Sys2Proof/Machine/Net.lean ====
section
/-! DEFINITION. The Ethernet ports: records, management clients, receive classification and link events
(16_ethernet_can.md R456 to R464). -/

namespace Sys2Proof.Machine

/-- The default record of port `n`: SVC with management at 192.168.77.10/24, the others enabled without an address. -/
def portDefault (n : Nat) : Bytes :=
  leU 1 n ++ leU 1 (if n = 3 then 3 else 1) ++ [0, 0] ++ leU 4 (if n = 3 then 0xC0A84D0A else 0) ++
    leU 1 (if n = 3 then 24 else 0) ++ [6, 2, 0] ++ leU 4 0 ++ leU 2 0 ++ List.replicate 6 0

/-- *Port record* in force. -/
def portCfg (s : State) (n : Nat) : Bytes :=
  let c := (s.portAt n).cfg
  if c.isEmpty then portDefault n else c

def portFlag (s : State) (n k : Nat) : Bool := getBit (portCfg s n) 1 k

/-- Ranges of a port record; PEER uses only flags bit 0 (R462). -/
def portFields (n : Nat) : List Field :=
  if n = 2 then [uf 0 1 0 3 0, uf 1 1 0 31 0]
  else
    [uf 0 1 0 3 0, uf 1 1 0 31 0, uf 2 1 0 (if n = 3 then 1 else 0) 0, rsv 3 1, uf 8 1 8 30 0, uf 9 1 0 7 6, uf 10 1 0 7 2,
      rsv 11 1, uf 16 2 1 4094 0, rsv 18 4, rsv 22 2]

/-- NET_SET_PORT. PEER is not disabled while the partner is present (R463). The new record is in force once the command
has completed, so after its RESPONSE has left. -/
def execNetSetPort (q : Req) (s : State) : Out State :=
  let n := getU q.payload 0 1
  command
    { op := 0x0E01, len := lenIs 24, roles := .all
      state := fun s q => if n = 2 ∧ getBit q.payload 1 0 = false ∧ s.red.present then some (conflictObj 2) else none
      arg := fun _ q => badField (portFields n) q.payload }
    (fun s q => (ok s 0x0E01 q []).modPort n fun p => { p with cfg := q.payload }) q s

def execNetGetPort (q : Req) (s : State) : Out State := getI 0x0E02 true false true (fun _ => 4) portCfg q s

/-- The counters of a port (log entry 14). -/
def portStats (s : State) (n : Nat) : Bytes :=
  let p := s.portAt n
  leB p.link ++ [0, 0, 0] ++
    ([p.linkChanges, p.rx, p.toTsu, p.toSafe, p.toPeer, p.toMgmt, p.toSup, p.discards, p.pauses, p.arpAnswers,
      p.icmpAnswers].flatMap (leU 4))

def execNetGetStats (q : Req) (s : State) : Out State := getI 0x0E03 true false true (fun _ => 4) portStats q s

/-! ## Management clients (R464) -/

def clientFields : List Field := [uf 0 1 1 8 0, uf 1 1 0 1 0, uf 2 1 0 11 0, rsv 3 1]

/-- NET_SET_MGMT. A change of the sender's own key applies once the command has completed, so after its RESPONSE. -/
def execNetSetMgmt (q : Req) (s : State) : Out State :=
  let p := q.payload
  command
    { op := 0x0E04, len := lenIs 40, roles := .all, noApp := true
      arg := fun _ q => firstBad [badField clientFields q.payload, must (!getBit q.payload 2 2) 2] }
    (fun s q => (ok s 0x0E04 q []).setHpr fun h =>
      { h with clients := h.clients.modify (getU p 0 1) fun (c : Client) =>
          { c with configured := true, enabled := getBit p 1 0, ports := getU p 2 1, source := getU p 4 4, key := slice p 8 32 } }) q s

/-- Every field but key, with flags bit 1 for a key set. -/
def clientBytes (s : State) (k : Nat) : Bytes :=
  let c := s.hpr.clients.getD k {}
  leU 1 k ++ leU 1 (bitsToNat [c.enabled, c.configured]) ++ leU 1 c.ports ++ [0] ++ leU 4 c.source

def mgmtBytes (s : State) : Bytes := (List.range 8).flatMap fun k => clientBytes s (k + 1)

def execNetGetMgmt (q : Req) (s : State) : Out State := getNone 0x0E05 true mgmtBytes q s

/-! ## Reception (R456 to R461) -/

/-- The ETH domain receives (02_power_states_clocks.md *Clock domains*, R50). -/
def ethRuns (s : State) : Bool :=
  hostServed s && !s.asleep && s.pwr.state != .retention && s.pwr.state != .unpowered && !s.clockLost .eth

/-- Address of PEER: 169.254.77.1 on the unit with the lower identity, 169.254.77.2 on the other (R462); either, while no
partner's identity is known. -/
def ownIp (s : State) (n ip : Nat) : Bool :=
  if n = 2 then
    match s.red.partnerIdentity with
    | none => ip == 0xA9FE4D01 || ip == 0xA9FE4D02
    | some p => ip == (if Config.uniqueId < p then 0xA9FE4D01 else 0xA9FE4D02)
  else getU (portCfg s n) 4 4 != 0 && ip == getU (portCfg s n) 4 4

/-- The port accepts the frame's tag (R461). -/
def tagOk (s : State) (n : Nat) (vlan : Option Nat) : Bool :=
  match vlan with
  | none => n == 2 || !portFlag s n 2 || portFlag s n 3
  | some v => n != 2 && portFlag s n 2 && v == getU (portCfg s n) 16 2

/-- PTP's own tag and domain (R458, R461; 14_time.md R412). -/
def ptpTagOk (s : State) (vlan : Option Nat) : Bool :=
  match vlan with
  | none => !getBit (timCfg s) 3 0
  | some v => getBit (timCfg s) 3 0 && v == getU (timCfg s) 4 2 % 4096

/-- comm_mode of the active set names network `n`. -/
def safeNet (s : State) (n : Nat) : Bool :=
  let m := commMode (s.setB .sp)
  (m == 1 && decide (n < 2)) || (decide (2 ≤ m) && n == m - 2)

/-- An entry of the safe receive path; a copy that finds its ring full is discarded and counted (R459). -/
def pushSafe (s : State) (n : Nat) (b : Bytes) : State :=
  if 16 ≤ (s.saf.rxRing.filter fun e => e.net = n).length then s.setSaf fun f => { f with rxDrops := f.rxDrops + 1 }
  else s.setSaf fun f => { f with rxRing := f.rxRing ++ [{ net := n, bytes := b }] }

def discardFrame (s : State) (n : Nat) : State := s.modPort n fun p => { p with discards := (p.discards + 1) % 2 ^ 32 }

/-- The first matching row of *Receive classification*. -/
def classify (s : State) (n : Nat) (f : EthFrame) : State :=
  let own : Bool := tagOk s n f.vlan && ownIp s n f.dstIp
  match f.kind with
  | .ptp d =>
    if n < 2 ∧ d = getU (timCfg s) 0 1 ∧ ptpTagOk s f.vlan then s.modPort n fun p => { p with toTsu := (p.toTsu + 1) % 2 ^ 32 }
    else
      let s := discardFrame s n
      if n < 2 then s.setTsu fun x => { x with ports := x.ports.modify n fun (p : PtpPort) => { p with ignored := p.ignored + 1 } }
      else s
  | .udp port b =>
    if !own then discardFrame s n
    else if port = getU (s.setB .sp) 426 2 ∧ (s.chan .sp).set.isSome ∧ safeNet s n then
      pushSafe (s.modPort n fun p => { p with toSafe := (p.toSafe + 1) % 2 ^ 32 }) n b
    else if n = 2 ∧ port = 49410 then s.modPort n fun p => { p with toPeer := (p.toPeer + 1) % 2 ^ 32 }
    else if n ≠ 2 ∧ port = 49411 ∧ portFlag s n 1 then s.modPort n fun p => { p with toMgmt := (p.toMgmt + 1) % 2 ^ 32 }
    else discardFrame s n
  | .arp =>
    if !tagOk s n f.vlan then discardFrame s n
    else s.modPort n fun p => { p with toSup := (p.toSup + 1) % 2 ^ 32
                                       arpAnswers := if own then (p.arpAnswers + 1) % 2 ^ 32 else p.arpAnswers }
  | .icmpEcho =>
    if !own then discardFrame s n
    else s.modPort n fun p =>
      { p with toSup := (p.toSup + 1) % 2 ^ 32
               icmpAnswers := if n ≠ 2 ∧ portFlag s n 4 then (p.icmpAnswers + 1) % 2 ^ 32 else p.icmpAnswers }
  | .pause => s.modPort n fun p => { p with pauses := (p.pauses + 1) % 2 ^ 32 }
  | .ipv6 | .fragment | .other => discardFrame s n

/-- A frame arrives on an enabled port with its link up. Frames longer than 1,522 bytes are not supported (R456). -/
def execEthFrameReceived (t : Nat) (port : Nat) (f : EthFrame) (s : State) : Out State :=
  let s := s.advance t
  .next (if ethRuns s && decide (port < 4) && portFlag s port 0 && (s.portAt port).link then
      let s := s.modPort port fun p => { p with rx := (p.rx + 1) % 2 ^ 32 }
      if 1522 < f.len then discardFrame s port else classify s port f
    else s)

/-- Link loss or return: counted, recorded, and a source (R463, 17_app_core_icu.md R482). -/
def execLinkLossReturn (t : Nat) (port : Nat) (up : Bool) (s : State) : Out State :=
  let s := s.advance t
  .next (if ethRuns s && decide (port < 4) && (s.portAt port).link != up then
      let s := s.modPort port fun p => { p with link := up, linkChanges := (p.linkChanges + 1) % 2 ^ 32 }
      icuShared (groupRecord s gNet srcEmac lvInfo 463 port up.toNat) (80 + port)
    else s)

end Sys2Proof.Machine
end

