-- ==== Sys2Proof/Machine/Boot.lean ====
section
/-! DEFINITION. The end of a power-up and of a reset: what BOOT starts from, the start-up arbitration, the writeback of the
durable state, and OFF (13_sequencing.md R384, R400, R408; 11_redundancy.md R324; 02_power_states_clocks.md R46). -/

namespace Sys2Proof.Machine

/-! ## What a part of the state is at BOOT

MRAM, NOR and OTP keep their content; what lies outside the units that the reset names keeps its state; everything else
starts at its reset value. `cold` is a start from POWERUP, where DRAM and SRAM are lost (R42). -/

/-- A monitor over a restart of this unit: on its own supply it keeps its side, and the FLC's side starts anew. -/
def bootMon (cold : Bool) (m : Monitor) : Monitor :=
  if cold then { identity := m.identity, followClaim := m.followClaim, fw := { m.fw with len := 0, next := 0, bytes := [] } }
  else
    { m with round := none, prevRead := none, roundT := 0, missing := 0, missingSince := none, got := false
             alarmLine := false, alarmBeacons := 0, unreachable := false, absent := 0, credits := 4, seq := 0
             badCrcSince := none, idMatch := true, plan := false, phasorWindow := none, cmdCur := 0, fresh2 := false }

def bootRing (cold : Bool) (r : Ring) : Ring :=
  { declared := r.declared, headEnd2 := r.headEnd2, n := r.n, ids := r.ids, linksOff := r.linksOff
    enumPending := r.declared, mons := r.mons.map (bootMon cold) }

/-- Each channel loads its newer valid safety set on its own, with no PDU accepted yet (10_safety.md R298, R311, R315). -/
def bootChan (now : Nat) (ch : Chan) : Chan :=
  let set := (newerSlot ch.slot0 ch.slot1).map (·.body)
  let b := set.getD []
  { set := set, slot0 := ch.slot0, slot1 := ch.slot1
    wdEnd := if commMode b = 0 then none else some (now + getU b 424 2 * nsMs) }

/-- The contactor bus obeys the new unit's words, which are open; a bus that follows the partner stands (R383, R335). -/
def bootCont (c : Cont) : Cont :=
  { energised := if c.followsUs then 0 else c.energised, mirror := c.mirror, confirmed := c.confirmed
    followsUs := c.followsUs, claim := c.claim, configLoaded := c.configLoaded, cmdT := c.cmdT }

/-- The resistor model at BOOT (08_converter_control.md R236). -/
def bootE (s : State) (i : Nat) : Rat :=
  match (s.convAt i).stored with
  | some (e, t) =>
    if s.pwr.rtcDegraded then (ePcMax s i : Rat) / 2
    else if e = 0 then 0 else e * Config.expR (-(((s.clk - t : Nat) : Rat) / 1000000000) / (tauPc s i : Rat))
  | none => (ePcMax s i : Rat) / 2

/-- A transfer over a restart: an activation in progress is over, and after a loss of power the bits not yet flushed are
clear (19_update.md R518). -/
def bootXfer (cold : Bool) (x : Xfer) : Xfer :=
  let x := if x.state == .activating then { x with state := .ready } else x
  if cold && x.got.length != x.flushed.length then
    { x with got := x.flushed, state := if x.state == .complete then .receiving else x.state }
  else x

def bootHpr (h : Hpr) : Hpr :=
  { slotPort := h.slotPort, epoch := (h.epoch + 1) % 2 ^ 32
    desc := h.desc.map fun d => { gen := d.gen }
    clients := h.clients.map fun c => { c with rxSeq := 0, txSeq := 0 }, lastDone := h.lastDone }

def bootPower (cold : Bool) (cause : Nat) (p : Power) (clk : Nat) : Power :=
  { p with
    failedClocks := if cold then [] else p.failedClocks, xrefFailed := p.xrefFailed && !cold
    supLost := false, supRestarting := false, lastCmdT := clk, floatRaised := false
    dispatchUnavailable := false, deferred := [], bootCause := cause
    returnPending := false, holdSwap := false, plgOnSloe := p.plgOnSloe && !cold }

/-- CAN registers at their reset values, then the stored configuration (16_ethernet_can.md R472, R474). -/
def bootCan (c : Can) : Can := if c.cfg.isEmpty then {} else applyCanCfg c.cfg {}

/-- The state at the start of BOOT, before the tests and loads that need it whole. -/
def bootState (s : State) (cold : Bool) (cause : Nat) : State :=
  let retiredPhase (p : Nat) : Bool := s.retired (uPhase p)
  { pending := s.pending, variant := s.variant, clk := s.clk, free := s.free, unit := s.unit
    str := s.str.mapIdx fun i _ => { state := if s.flt.retiredStr.contains i then .retired else .isolated }
    pwr := bootPower cold cause s.pwr s.clk
    hvi := { check0 := s.hvi.check0, check1 := s.hvi.check1, checkT := s.clk
             iso := { mode := s.hvi.iso.mode, threshold := s.hvi.iso.threshold } }
    hviStr := s.hviStr.map fun h =>
      { rCfg := h.rCfg, rPath := h.rPath, single := h.single, measuring := h.measuring, calT0 := s.clk }
    rings := { ring := s.rings.ring.map (bootRing cold), rate := s.rings.rate, floatRate := s.rings.floatRate }
    cee := { model := s.cee.model, core := s.cee.core, journal := s.cee.journal, offsets := s.cee.offsets
             est := s.cee.est.map fun e => { cfg := e.cfg } }
    th := { ti := s.th.ti.mapIdx fun n x => { cfg := x.cfg, broken := s.retired (uTi n) }, warn := s.th.warn }
    bal := s.bal.map fun b => { cfg := b.cfg }
    dsp := { cfg := s.dsp.cfg, budget := s.dsp.budget }
    conv := s.conv.mapIdx fun i c => { cfg := c.cfg, stored := c.stored, e := bootE s i }
    phase := s.phase.mapIdx fun p _ => { enabled := !retiredPhase p }
    gx2 := s.gx2.map fun g => { g with unanswered := 0, dutyHoldNs := 0, faults := [] }
    le := { slot := s.le.slot.map fun x => { desc := x.desc, bankA := x.bankA, bankB := x.bankB, activeB := x.activeB }
            lut := s.le.lut }
    saf := { sp := bootChan s.clk s.saf.sp, sloe := bootChan s.clk s.saf.sloe, cont := s.saf.cont.map bootCont }
    red := { cfg := s.red.cfg, storedClaim := s.red.storedClaim, stageClaim := s.red.stageClaim, listenT := s.clk
             lastSwapT := s.red.lastSwapT, lastTakeoverT := s.red.lastTakeoverT, dueT := s.red.dueT }
    rack := { s.rack with ef := s.rack.ef.mapIdx fun n e =>
      { e with dTj := 0, tCase := if efDiode s n = 255 then
        (if efAmb s n = 255 then 7000 else ((s.tiAt (efAmb s n)).value : Rat)) else e.tCase } }
    seq := s.seq
    tsu := { now := s.tsu.now, frac := s.tsu.frac, cfg := s.tsu.cfg, timeLoaded := s.tsu.timeLoaded }
    hpr := bootHpr s.hpr
    net := { port := s.net.port.map fun p => { cfg := p.cfg, link := p.link }, can := s.net.can.map bootCan }
    mem := if cold then [] else s.mem, canRam := if cold then [] else s.canRam
    flt := { retired := s.flt.retired, retiredStr := s.flt.retiredStr, erase := s.flt.erase }
    plg := { s.plg with buffer := [], recent := [] }
    upd := { s.upd with act := none, checked := false, recT := none, xfer := s.upd.xfer.map (bootXfer cold) } }

/-- Enters BOOT with a cause of the BOOT record: 0 POWERUP, 1 SYS_RESTART, 2 MR_N (R504). The cause that AON keeps of R385 or
R403 is written and cleared. SUP programs its fixed triggers, and every retired unit is tested; SYS_RESTART is the restoring command
of SP, Sloe and the HVI (18_faults_peat_log.md R497, R498). -/
def enterBoot (s : State) (cause : Nat) : State :=
  let rule : Nat := match cause with | 0 => 384 | 1 => 454 | _ => 408
  let s := setUnit (bootState s (cause == 0) cause) .boot rule
  let s := if s.pwr.state == .holdup then s else setPower s .active
  let s := record s 3 srcSup lvInfo cause s.pwr.aonFault s.hpr.epoch
  let s := s.setPwr fun p => { p with aonFault := 0 }
  let s := loadJournal (loadCheck s)
  let next := (s.tsu.now / nsS + 1) * nsS
  let s := progTrigger (progTrigger (progTrigger s 1 next 100000) 4 next nsS) 6 next nsMs
  retier ((s.flt.retired.map (·.1)).foldl (fun s u => testUnit s u (cause == 1 && [uSp, uSloe, uHvi].contains u)) s)

/-- BOOT_LISTEN_END: the images are verified and the listening time is over (R324). -/
def execBootListenEnd (t : Nat) (s : State) : Out State :=
  let s := s.advance t
  .next (if s.unit != .boot || !s.upd.checked || decide (s.clk < s.red.listenT + 2 * nsS) then s
    else
      let s := match bootRole s with
        | .resync => enterResync s 324
        | u => retier (setRole (issueClaim s) u 324 false)
      if sharedLost s && s.unit.isRole then enterSafeHold s 567 else s)

/-! ## SYS_RESTART (15_host_interface.md R454) -/

/-- The first string that is connected, as a conflict. -/
def openConflict (s : State) : Option Nat :=
  ((List.range s.strings).find? fun i =>
    match (s.strAt i).state with | .isolated | .halted | .retired => false | _ => true).map (conflictStr s)

/-- SYS_RESTART completes with OK, and the unit enters BOOT. -/
def execSysRestart (q : Req) (s : State) : Out State :=
  command
    { op := 0x0104, len := lenIs 0, roles := .all, v := true, noApp := true
      state := fun s _ => if s.unit.commands then openConflict s else none }
    (fun s q => enterBoot (ok s 0x0104 q []) 1) q s

/-! ## Writeback and disconnection (02_power_states_clocks.md R46, R400) -/

/-- Flushes the update bitmaps under R40 (19_update.md R518). -/
def flushUpdate (s : State) : State :=
  if energyOk s then s.setUpd fun u => { u with xfer := u.xfer.map (fun x => { x with flushed := x.got }), flushT := s.clk }
  else s

/-- Writes the records DORMANT held, in submission order, at wake (R505). -/
def flushBuffer (s : State) : State :=
  s.plg.buffer.foldl (fun s r =>
    let lv := r.severity % 8
    if lv = 0 ∧ r.code ≠ 0x50 ∧ s.plg.suppresses r.time r.code r.source then
      s.setPlg fun p => { p with suppressed := p.suppressed + 1 }
    else
      let s := s.setPlg fun p => (p.write lv r).remember r.time r.code r.source
      if lv = 0 then s else icuPrivate s .host 6) (s.setPlg fun p => { p with buffer := [] })

/-- The MRAM writeback: journal, configuration with the resistor models, integrator checkpoint, update bitmap and the closing
record of the log. -/
def writeback (s : State) : State :=
  let s := triggerJournal s 2
  let s := (List.range s.strings).foldl storeE s
  let s := flushUpdate (writeCheck s)
  flushBuffer (record s 4 srcSup lvInfo (s.pwr.eAvail / 1000) s.pwr.vbak 0)

/-- Disconnects every string that is not ISOLATED, HALTED or RETIRED, gate-off first. -/
def disconnectAll (s : State) (cause : Nat) : State :=
  (List.range s.strings).foldl (fun s i =>
    match (s.strAt i).state with
    | .precharge => prechargeAbort s i cause
    | .connected | .regulating => disconnectNow (if strayCause cause then strayStr s i else s) i
    | _ => s) s

/-! ## OFF -/

/-- The unit ends OFF: its own domains are down, every gate is off, every coil word open unless `keep` leaves the coils to the
partner's claim, and every enable released. AON stays alive. -/
def goOff (s : State) (cause : Nat) (keep : Bool) : State :=
  let s := (List.range s.strings).foldl (fun s i =>
    let s := gateOffString s i
    abortTrans (if keep then s else openCoils s i) i) s
  let s := { s with rack := { s.rack with ef := s.rack.ef.map fun (e : Ef) =>
    { e with state := if e.state == EfState.latched then EfState.latched else EfState.off, commanded := false, pgood := false } } }
  let s := setPower (s.setSeq fun q => { q with
    phase := .idle, pulling := false, step := 0, pendingLocal := false, preOff := 0, ignoring := false
    rails := q.rails.map fun (r : Rail) =>
      { r with enabled := false, good := false, running := false, downDone := true, leftWindow := false, faultHold := none } })
    .retention
  let s := setUnit s .off cause
  { s with
    pwr := { s.pwr with minOffEnd := s.clk + 2 * nsS, chargerOn := s.pwr.vinValid }
    red := { s.red with beatsOn := false, present := false }
    hpr := { s.hpr with order := [], exec := [], own := 0, done := 0, ready := false, waiting := [] } }

end Sys2Proof.Machine
end

