-- ==== Sys2Proof/Machine/PeatLog.lean ====
section
/-! DEFINITION. The Peat log's events and commands (18_faults_peat_log.md R503 to R511). -/

namespace Sys2Proof.Machine

def execRecordSubmit (t : Nat) (r : PeatIn) (s : State) : Out State :=
  .next (record (s.advance t) r.code r.source r.level r.p0 r.p1 r.p2)

def execDormantRecordFlush (t : Nat) (s : State) : Out State :=
  let s := s.advance t
  .next (if s.asleep || !plgRuns s then s else flushBuffer s)

/-- *Peat record*. -/
def peatBytes (r : Peat) : Bytes :=
  leU 4 r.seq ++ leU 2 r.code ++ leU 1 r.source ++ leU 1 r.severity ++ leU 8 (r.time / nsS) ++ leU 4 (r.time % nsS) ++
    leU 4 r.p0 ++ leU 4 r.p1 ++ leU 4 r.p2

/-- *Peat log status*. -/
def logStatus (s : State) : Bytes :=
  let p := s.plg
  leU 4 p.nextIndex ++ leU 4 p.baseSeq ++ leU 4 p.clearGen ++ leU 4 p.dropped ++ leU 4 p.suppressed ++
    leU 4 (p.full.toNat + 2 * (decide (126976 ≤ p.nextIndex)).toNat) ++ leU 8 p.droppedLife ++
    leU 8 (p.clearT / nsS) ++ leU 4 (p.clearT % nsS) ++ leU 4 0

def execLogGetStatus (q : Req) (s : State) : Out State := getNone 0x1001 true logStatus q s

/-- Records from `first`, at most `count`, stopping at next_index (R510). -/
def logSlice (s : State) (first count : Nat) : Bytes :=
  ((s.plg.log.reverse.drop first).take count).flatMap peatBytes

def execLogRead (q : Req) (s : State) : Out State :=
  let body (s : State) : Bytes := logSlice s (getU q.payload 4 4) (getU q.payload 8 4)
  command
    { op := 0x1002, len := lenIs 12, roles := .all, v := true
      arg := fun _ q => firstBad [must (getU q.payload 0 2 != noDesc) 0, zeroAt q.payload 2 2]
      desc := fun s q => descAt q 0 (body s).length }
    (fun s q => respondBuf s 0x1002 q (getU q.payload 0 2) (body s)) q s

/-- The clear (R508): everything is discarded, LOG_CLEARED is written at index 0, the counts restart. -/
def clearLog (s : State) (port : Nat) : State :=
  let p := s.plg
  let (tm, sev) := peatTime s
  let r : Peat := { seq := 0, code := 1, source := srcPlg, severity := sev, time := tm, p0 := port, p1 := p.nextIndex
                    p2 := p.dropped }
  s.setPlg fun p =>
    { (({ p with log := [], nextIndex := 0 } : Plg).put r) with
      baseSeq := p.nextSeq, clearGen := p.clearGen + 1, dropped := 0, suppressed := 0, full := false, clearT := tm }

def execLogClear (q : Req) (s : State) : Out State :=
  command { op := 0x1003, len := lenIs 0, roles := .all, v := true }
    (fun s q => ok (clearLog s (portCode q.port)) 0x1003 q (leU 4 s.plg.nextIndex)) q s

end Sys2Proof.Machine
end

