-- ==== Sys2Proof/Machine/Seq.lean ====
section
/-! DEFINITION. The sequencer: on and off requests, the module power-up, the rail table, numbered states, the SEQ line, rail
faults, PB_N and MR_N (13_sequencing.md R383 to R409). -/

namespace Sys2Proof.Machine

/-! ## The rail table (R388) -/

def tblCount (b : Bytes) : Nat := getU b 8 1
def tblTop (b : Bytes) : Nat := getU b 9 1

/-- Flags of the table in force; 0x0B where no table was ever accepted. -/
def seqFlag (s : State) (k : Nat) : Bool := if s.seq.table.isEmpty then (0x0B : Nat).testBit k else getBit s.seq.table 10 k

/-- It takes part on the SEQ line. -/
def onLine (s : State) : Bool := seqFlag s 0

/-- t_state_max, ns. -/
def tStateMax (s : State) : Nat := (if s.seq.table.isEmpty then 500 else getU s.seq.table 12 2) * nsMs

/-- The 24 bytes of entry `k`. -/
def entryOf (b : Bytes) (k : Nat) : Bytes := slice b (16 + 24 * k) 24

def entries (b : Bytes) : List Bytes := (List.range (tblCount b)).map (entryOf b)

def enRail (e : Bytes) : Nat := getU e 0 1
def enState (e : Bytes) : Nat := getU e 1 1
/-- 0 supervise only, 1 SEQ_ENn_N, 2 e-fuse channel. -/
def enAct (e : Bytes) : Nat := getU e 2 1 / 64
def enIdx (e : Bytes) : Nat := getU e 2 1 % 64
def enVmon (e : Bytes) : Nat := getU e 3 1
/-- 0.1 ms units and ms as ns. -/
def enDelayOn (e : Bytes) : Nat := getU e 12 2 * 100000
def enTGood (e : Bytes) : Nat := getU e 14 2 * nsMs
def enDelayOff (e : Bytes) : Nat := getU e 16 2 * 100000
def enTDis (e : Bytes) : Nat := getU e 18 2 * nsMs
/-- Flags: 0 cascaded, 1 pair shared, 2 fed from the auxiliary bus. -/
def enFlag (e : Bytes) (k : Nat) : Bool := getBit e 21 k

/-- Entries of the table in force with state `n`. -/
def stateEntries (s : State) (n : Nat) : List Bytes := (entries s.seq.table).filter fun e => enState e = n

/-- The entry of rail `r`. -/
def railEntry (s : State) (r : Nat) : Option Bytes := (entries s.seq.table).find? fun e => enRail e = r

/-- The present state is cascaded for this unit (R398). -/
def cascaded (s : State) : Bool := (stateEntries s s.seq.pos).any fun e => enFlag e 0

/-- Work of the present state waits for SEQ_CIN. -/
def waitsCin (s : State) : Bool := !s.seq.local_ && cascaded s && !s.seq.cin

/-! ## States (R391, R392, R394) -/

/-- Starts numbered state `n`: the line is pulled low, and a cascaded state drops SEQ_COUT. -/
def beginState (s : State) (n : Nat) : State :=
  let s := s.setSeq fun q => { q with pos := n, posT := s.clk, lineT := s.clk, pulling := !q.local_ }
  if cascaded s && !s.seq.local_ then s.setSeq fun q => { q with cin := false, cout := false }
  else s.setSeq fun q => { q with cout := q.cin }

/-- This unit's work in the present state is done. -/
def stateDone (s : State) : Bool :=
  let es := stateEntries s s.seq.pos
  !waitsCin s &&
    match s.seq.phase with
    | .ascending => s.unit != .powerup && s.unit != .off && s.seq.preOff == 0 && es.all fun e => (s.railAt (enRail e)).good
    | .descending => s.seq.preOff == 3 && es.all fun e => (s.railAt (enRail e)).downDone
    | _ => false

/-- Follows the work done: a local sequence goes on by itself, a system one releases the line; below state 0 the unit is OFF. -/
def settle : Nat → State → State
  | 0, s => s
  | fuel + 1, s =>
    if !stateDone s then s
    else
      let s := s.setSeq fun q => { q with pulling := false, cout := q.cin || (cascaded s && !q.local_) }
      let n := s.seq.pos
      match s.seq.phase with
      | .descending =>
        if n = 0 then goOff s 400 false
        else if s.seq.local_ then settle fuel (beginState s (n - 1)) else s
      | .ascending =>
        if !s.seq.local_ then s
        else if tblTop s.seq.table ≤ n then s.setSeq fun q => { q with phase := .up, beaconT := s.clk }
        else settle fuel (beginState s (n + 1))
      | _ => s

def settled (s : State) : State := settle 65 s

/-! ## Power-up (R383 to R385, R395) -/

/-- Starts POWERUP with the table accepted last; `system` while the line orders the states. -/
def beginPowerup (s : State) (system : Bool) : State :=
  let s := s.setSeq fun q =>
    { q with table := q.next.getD q.table, next := none, phase := .ascending, pos := 0, posT := s.clk, local_ := !system
             pulling := system, lineT := if q.pulling then q.lineT else s.clk, heldOn := none, step := 1, stepT := s.clk
             preOff := 0, pendingLocal := false, ignoring := false, rails := List.replicate 32 {} }
  let s := if cascaded s && system then s.setSeq fun q => { q with cin := false, cout := false }
    else s.setSeq fun q => { q with cout := q.cin }
  setPower (setUnit s .powerup 383) .active

/-- Serves an on request in OFF after the minimum off time (R383, R395). -/
def serveOn (s : State) (src : OnSource) : State :=
  if src == .seqLine then beginPowerup s true
  else if onLine s then s.setSeq fun q => { q with phase := .watching, watchT := s.clk, heldOn := none }
  else beginPowerup s false

/-- The conditions of the request's own source. -/
def onAllowed (s : State) (src : OnSource) : Bool :=
  match src with
  | .vinValid => seqFlag s 1
  | .rtcAlarm => match s.pwr.rtcAlarm with | none => false | some a => decide (a * nsS ≤ s.tsu.now)
  | .seqLine => seqFlag s 3 && onLine s
  | _ => true

/-- An on request: held in the minimum off time and during a power-down (R383, R402). -/
def onRequest (s : State) (src : OnSource) : State :=
  if !s.pwr.vinValid || !onAllowed s src || s.pwr.state == .unpowered then s
  else
    let s := if src == .rtcAlarm then s.setPwr fun p => { p with rtcAlarm := none } else s
    match s.unit with
    | .off =>
      if s.clk < s.pwr.minOffEnd then
        s.setSeq fun q => { q with heldOn := some (if src == .seqLine then src else q.heldOn.getD src)
                                   pulling := q.pulling || src == .seqLine
                                   lineT := if src == .seqLine && !q.pulling then s.clk else q.lineT }
      else if s.seq.phase == .watching && src != .seqLine then s
      else serveOn s src
    | _ => if s.seq.phase == .descending then s.setSeq fun q => { q with heldOn := some (q.heldOn.getD src) } else s

def execOnRequest (t : Nat) (src : OnSource) (s : State) : Out State := .next (onRequest (s.advance t) src)

def execMinimumOffTimeEnd (t : Nat) (s : State) : Out State :=
  let s := s.advance t
  .next (match s.seq.heldOn with
    | none => s
    | some src =>
      if s.unit == .off && s.pwr.vinValid && decide (s.pwr.minOffEnd ≤ s.clk) then
        serveOn (s.setSeq fun q => { q with heldOn := none }) src
      else s)

/-- What the unit saw after 3 ms of watching (R395); other than beacons or idle it keeps watching, for up to 10 s. -/
def execSeqWatchEnd (t : Nat) (seen : LineSeen) (s : State) : Out State :=
  let s := s.advance t
  .next (if s.unit != .off || s.seq.phase != .watching || !s.pwr.vinValid || decide (s.clk < s.seq.watchT + 3 * nsMs) then s
    else match seen with
      | .beacons => beginPowerup s false
      | .idle => beginPowerup s true
      | .other => if s.seq.watchT + 10 * nsS ≤ s.clk then s.setSeq fun q => { q with phase := .idle } else s)

/-- A fall of the idle line: a participant in OFF joins state 0 at once, and holds the line low (R395). -/
def execSystemPowerUpStart (t : Nat) (s : State) : Out State :=
  let s := s.advance t
  .next (if s.unit == .off then onRequest s .seqLine else s)

/-- Limits of *Module power-up* from t0, ns. -/
def stepLimit (n : Nat) : Nat := [0, 5, 10, 12, 32, 42, 45].getD n 0 * nsMs

/-- A step completes; after step 6 the unit is in BOOT and its own rails follow (R384, R391). `failing` are the strings whose
fast-trip comparators fail their test at BOOT, which stay ISOLATED (03_string_measurement.md R76). -/
def execPowerupStepDone (t : Nat) (failing : BitVec 8) (s : State) : Out State :=
  let s := s.advance t
  let n := s.seq.step
  .next (if s.unit != .powerup || n = 0 || decide (s.seq.stepT + stepLimit n < s.clk) then s
    else if n < 6 then s.setSeq fun q => { q with step := n + 1 }
    else
      let s := settled (enterBoot (s.setSeq fun q => { q with step := 0, posT := s.clk }) 0)
      ((List.range s.strings).filter fun i => failing.getLsbD i).foldl (fun s i =>
        detected (s.modHvi i fun h => { h with testFailed := true }) uHvi 76 i) s)

/-- A power-up failure: the steps done are undone and the unit ends OFF; AON keeps the step (R385). -/
def powerUpFailure (s : State) : State :=
  goOff (s.setPwr fun p => { p with aonFault := s.seq.step }) 385 false

def execPowerUpFailure (t : Nat) (s : State) : Out State :=
  let s := s.advance t
  .next (if s.unit == .powerup && decide (s.seq.stepT + stepLimit s.seq.step < s.clk) then powerUpFailure s else s)

/-! ## Off requests (R399 to R401) -/

/-- A rail without a discharge wait (R392, R405). -/
def noDischarge (s : State) (e : Bytes) : Bool :=
  (enFlag e 1 && s.seq.local_) || (enAct e == 2 && enVmon e == 0xFF) || (s.railAt (enRail e)).leftWindow

/-- Asserts the rail's enable, or commands its e-fuse channel on. -/
def railOn (s : State) (e : Bytes) : State :=
  let s := s.modRail (enRail e) fun r => { r with enabled := true, good := false, running := false, enableT := s.clk
                                                  downDone := false, leftWindow := false, faultHold := none }
  if enAct e = 2 then efStart (s.modEf (enIdx e) fun x => { x with commanded := true }) (enIdx e) else s

/-- Releases the enable, or commands the channel off; the discharge wait follows where the rail has one. -/
def railOff (s : State) (e : Bytes) : State :=
  let s := s.modRail (enRail e) fun r => { r with enabled := false, good := false, running := false, downT := s.clk
                                                  downDone := r.downDone || noDischarge s e }
  if enAct e = 2 then efOff s (enIdx e) else s

/-- The rails of the present state that are enabled and not yet good: an off request in an ascending sequence stops waiting for
them and releases their enables (R401). -/
def releaseUnready (s : State) : State :=
  ((stateEntries s s.seq.pos).filter fun e => (s.railAt (enRail e)).enabled && !(s.railAt (enRail e)).good).foldl railOff s

/-- The descent's pre-off steps are done; a reversed system sequence releases the line for its reverse marker. -/
def preOffDone (s : State) : State :=
  let s := s.setSeq fun q => { q with preOff := 3, posT := s.clk, pulling := q.pulling && q.phase != .ascending }
  settled s

/-- Starts the descent from the present position, by the line or locally. -/
def startDescent (s : State) (n : Nat) (system : Bool) : State :=
  let s := s.setSeq fun q => { q with phase := .descending, local_ := !system, pendingLocal := false
                                      preOff := if q.preOff = 0 then 1 else q.preOff
                                      preOffT := if q.preOff = 0 then s.clk else q.preOffT }
  settled (beginState s n)

/-- An off request of local or system scope. -/
def offRequest (s : State) (system : Bool) : State :=
  match s.unit with
  | .off => s
  | .powerup => goOff s 385 false
  | u =>
    if s.seq.phase == .descending then s
    else if !system && u == .active && s.red.present then s.setSeq fun q => { q with pendingLocal := true }
    else match s.seq.phase with
    | .ascending =>
      if s.seq.local_ || !system then startDescent (releaseUnready s) s.seq.pos false
      else if s.seq.preOff = 0 then (releaseUnready s).setSeq fun q => { q with preOff := 1, preOffT := s.clk }
      else s
    | _ => startDescent s (tblTop s.seq.table) (system && onLine s)

/-- The pre-off steps of the off request: the zero setpoint, or at once the writeback where there is no string to ramp. A
pending local request is served once the unit has left the ACTIVE role. -/
def execPreOffSteps (t : Nat) (s : State) : Out State :=
  let s := s.advance t
  let s := if s.seq.pendingLocal && !(s.unit == .active && s.red.present) then
    offRequest (s.setSeq fun q => { q with pendingLocal := false }) false else s
  .next (if s.seq.preOff != 1 then s
    else if s.unit.commands && !s.allOpen then
      let s := (List.range s.strings).foldl (fun s i =>
        if (s.strAt i).state == .regulating then
          s.modConv i fun c => { c with rampStop := true, rampThen := some (c.rampThen.getD .connected) }
        else s) s
      s.setSeq fun q => { q with preOff := 2 }
    else preOffDone (writeback s))

def execPreOffDisconnect (t : Nat) (s : State) : Out State :=
  let s := s.advance t
  .next (if s.seq.preOff == 2 && decide (s.seq.preOffT + 60 * nsMs ≤ s.clk) then
    preOffDone (writeback (disconnectAll s 400)) else s)

/-! ## Rails (R387, R391, R392) -/

def execRailStart (t : Nat) (r : Nat) (s : State) : Out State :=
  let s := s.advance t
  .next (match railEntry s r with
    | none => s
    | some e =>
      if s.seq.phase == .ascending && s.unit != .powerup && s.unit != .off && s.seq.preOff == 0 && enState e == s.seq.pos &&
          !(s.railAt r).enabled && !waitsCin s && decide (s.seq.posT + enDelayOn e ≤ s.clk) then railOn s e else s)

/-- A rail comes into its window for its filter, within t_good of its enable; an e-fuse rail needs power-good too. -/
def execRailGood (t : Nat) (r : Nat) (s : State) : Out State :=
  let s := s.advance t
  .next (match railEntry s r with
    | none => s
    | some e =>
      let x := s.railAt r
      if x.enabled && !x.good && decide (s.clk ≤ x.enableT + enTGood e) &&
          (enAct e != 2 || (s.efAt (enIdx e)).pgood) && s.seq.phase == .ascending then
        settled (s.modRail r fun y => { y with good := true, running := true })
      else s)

/-- A rail not good within t_good: an off request of system scope, recorded with the rail. -/
def execStartFailure (t : Nat) (r : Nat) (s : State) : Out State :=
  let s := s.advance t
  .next (match railEntry s r with
    | none => s
    | some e =>
      let x := s.railAt r
      if s.seq.phase == .ascending && x.enabled && !x.good && s.seq.preOff == 0 && decide (x.enableT + enTGood e < s.clk) then
        let s := groupRecord s gSeq srcPmu lvInfo 391 r 0
        offRequest (s.setSeq fun q => { q with faultRail := some r, faultCause := 1 }) true
      else s)

/-- In the rail's own descending state: release after delay_off, then v_dis or t_dis, which is recorded. -/
def execRailDischarge (t : Nat) (r : Nat) (below : Bool) (s : State) : Out State :=
  let s := s.advance t
  .next (match railEntry s r with
    | none => s
    | some e =>
      if s.seq.phase != .descending || s.seq.preOff != 3 || enState e != s.seq.pos || (s.railAt r).downDone || waitsCin s then s
      else
        let due : Bool := (s.railAt r).leftWindow || decide (s.seq.posT + enDelayOff e ≤ s.clk)
        let s := if (s.railAt r).enabled && due then railOff s e else s
        let x := s.railAt r
        if x.enabled then s
        else if below || noDischarge s e then settled (s.modRail r fun y => { y with downDone := true })
        else if x.downT + enTDis e ≤ s.clk then
          settled ((groupRecord s gSeq srcPmu lvInfo 392 r 0).modRail r fun y => { y with downDone := true })
        else s)

/-! ## The line (R393 to R398) -/

/-- A step: the present state is done and the next in the present direction begins. -/
def execSeqStep (t : Nat) (s : State) : Out State :=
  let s := s.advance t
  .next (if s.seq.local_ || s.seq.pulling || s.seq.preOff == 1 || s.seq.preOff == 2 then s
    else match s.seq.phase with
      | .ascending =>
        if s.unit == .powerup || s.seq.preOff != 0 then s
        else if tblTop s.seq.table ≤ s.seq.pos then s.setSeq fun q => { q with phase := .up, beaconT := s.clk }
        else settled (beginState s (s.seq.pos + 1))
      | .descending => settled (beginState s (s.seq.pos - 1))
      | _ => s)

/-- The reverse marker: the state just done is repeated descending (R394, R401). -/
def execReverseMarker (t : Nat) (s : State) : Out State :=
  let s := s.advance t
  .next (if s.seq.phase == .ascending && !s.seq.local_ && !s.seq.pulling && s.unit != .powerup then
    startDescent s s.seq.pos true else s)

/-- The 4 µs beacon of a participant that is up, every 1 ms. -/
def execUpBeacon (t : Nat) (s : State) : Out State :=
  let s := s.advance t
  .next (if s.seq.phase == .up && onLine s && decide (s.seq.beaconT + nsMs ≤ s.clk) then
    s.setSeq fun q => { q with beaconT := s.clk } else s)

/-- A system power-down start on the line: an off request of system scope. A unit in a local power-up joins it from state top
(R397). -/
def execSystemPowerDownStart (t : Nat) (s : State) : Out State :=
  let s := s.advance t
  .next (if !onLine s || s.seq.ignoring then s
    else match s.unit, s.seq.phase with
      | .off, _ => s
      | .powerup, _ => if s.seq.local_ then goOff s 385 false else s
      | _, .up => startDescent s (tblTop s.seq.table) true
      | _, .ascending => if s.seq.local_ then startDescent s (tblTop s.seq.table) true else s
      | _, _ => s)

/-- A state held low beyond its limit: recorded at error level, a local power-down, and the line is ignored (R396). -/
def execStuckLine (t : Nat) (s : State) : Out State :=
  let s := s.advance t
  let q := s.seq
  let limit := if q.phase == .ascending && q.pos == 0 then 5 * nsS else tStateMax s
  .next (if q.local_ || (q.phase != .ascending && q.phase != .descending) || decide (s.clk < q.lineT + limit) then s
    else
      let s := groupRecord s gSeq srcPmu lvErr 396 q.pos 0
      let s := s.setSeq fun q => { q with ignoring := true, pulling := false, faultCause := 3 }
      if s.unit == .powerup then goOff s 396 false
      else
        let s := s.setSeq fun q => { q with phase := .descending, local_ := true, preOff := if q.preOff = 0 then 1 else q.preOff
                                            preOffT := if q.preOff = 0 then s.clk else q.preOffT }
        settled s)

/-- SEQ_CIN high, sampled by a waiting unit no earlier than 2 µs after the state's falling edge; SEQ_COUT follows it in a state
without cascaded work (R398). -/
def execSeqCinHigh (t : Nat) (s : State) : Out State :=
  let s := s.advance t
  .next (if (s.seq.phase == .ascending || s.seq.phase == .descending) && waitsCin s then
      if s.seq.lineT + 2 * nsUs ≤ s.clk then settled (s.setSeq fun q => { q with cin := true, posT := s.clk }) else s
    else s.setSeq fun q => { q with cin := true, cout := true })

/-! ## Rail faults (R403 to R405) -/

/-- Everything the sequencer manages is shut off, the beats stop, the PM outputs are gated off, and the unit ends OFF. The
coils open unless the partner's last beat had takeover ready set. AON keeps `code`. -/
def railFault (s : State) (code cause : Nat) (rail : Option Nat) : State :=
  let keep : Bool := s.red.present && s.red.beat.flags.testBit 3
  let s := s.setSeq fun q => { q with faultRail := rail, faultCause := cause }
  goOff (s.setPwr fun p => { p with aonFault := code }) 403 keep

/-- R404 holds the fault of a rail fed from the bus, or of an e-fuse rail. -/
def heldKind (e : Bytes) : Bool := enFlag e 2 || enAct e == 2

/-- The rail's down-work has started. -/
def downWork (s : State) (e : Bytes) : Bool := s.seq.phase == .descending && s.seq.preOff == 3 && decide (s.seq.pos ≤ enState e)

def execRunningRailFault (t : Nat) (r : Nat) (s : State) : Out State :=
  let s := s.advance t
  .next (match railEntry s r with
    | none => s
    | some e =>
      if !(s.railAt r).running || downWork s e || s.unit == .off then s
      else if s.pwr.state == .holdup && heldKind e then s
      else if s.seq.phase == .descending then
        (groupRecord s gSeq srcPmu lvWarn 405 r 0).modRail r fun y => { y with leftWindow := true }
      else if heldKind e then s.modRail r fun y => { y with faultHold := some s.clk }
      else railFault s (0x100 + r) 2 (some r))

/-- 10 µs later: a consequence of VIN loss, or a running-rail fault. -/
def execRailFaultHoldEnd (t : Nat) (r : Nat) (s : State) : Out State :=
  let s := s.advance t
  .next (if s.unit != .off && heldFor s (s.railAt r).faultHold (10 * nsUs) then
      if s.pwr.state == .holdup then
        (groupRecord s gSeq srcPmu lvInfo 404 r 0).modRail r fun y => { y with faultHold := none }
      else railFault s (0x100 + r) 2 (some r)
    else s)

/-! ## PB_N and MR_N (R407, R408) -/

/-- A press judged at its release; one of 8 s or more was a forced off at that moment. -/
def execPbNPress (t : Nat) (heldMs : Nat) (s : State) : Out State :=
  let s := s.advance t
  .next (if s.pwr.state == .unpowered || 8000 ≤ heldMs then s
    else if 50 ≤ heldMs ∧ heldMs ≤ 2000 then
      if s.unit == .off || s.seq.phase == .descending then
        (if s.unit == .off then onRequest s .pbN else s)
      else offRequest s (seqFlag s 2)
    else
      groupRecord (s.setSeq fun q => { q with otherPresses := q.otherPresses + 1 }) gSeq srcAon lvInfo 407 0 heldMs)

/-- A press held for 8 s acts as R403 does, with no pre-off steps. -/
def execForcedOff (t : Nat) (s : State) : Out State :=
  let s := s.advance t
  .next (if s.unit == .off || s.pwr.state == .unpowered then s else railFault s 0x200 4 none)

/-- MR_N low for 1 ms. In a role the unit enters SAFE-HOLD. -/
def execMrN (t : Nat) (s : State) : Out State :=
  let s := s.advance t
  .next (if s.unit == .off || s.unit == .powerup then s
    else
      let s := if s.unit.isRole then enterSafeHold s 408 else s
      (s.setSeq fun q => { q with mrLow := true }).setHpr fun h => { h with ready := false })

/-- The release of MR_N: BOOT, unless another cause of SAFE-HOLD stands. -/
def execMrNRelease (t : Nat) (s : State) : Out State :=
  let s := s.advance t
  .next (if !s.seq.mrLow then s
    else
      let s := s.setSeq fun q => { q with mrLow := false }
      if s.unit == .off || s.unit == .powerup then s
      else if s.unit == .safeHold && sharedLost s then s.setHpr fun h => { h with ready := true }
      else enterBoot s 2)

/-! ## Commands (R389, R409) -/

/-- *Rail entry* at offset `o` of table `b`: offset of the first field outside its range. -/
def entryBad (s : State) (b : Bytes) (o : Nat) : Option Nat :=
  let e := slice b o 24
  let at_ (c : Bool) (k : Nat) : Option Nat := must c (o + k)
  firstBad [at_ (decide (enRail e ≤ 31)) 0, at_ (decide (enState e ≤ tblTop b)) 1,
    at_ (decide (enAct e = 0 ∨ (enAct e ≤ 2 ∧ enIdx e < 16))) 2,
    at_ (enAct e != 2 || (efSequenced s (enIdx e) && (efClass s (enIdx e) == 0 || efClass s (enIdx e) == 2))) 2,
    at_ (decide (enVmon e ≤ 23) || (enVmon e == 0xFF && enAct e != 0)) 3,
    at_ (decide (50 ≤ getU e 4 2 ∧ getU e 4 2 ≤ 1150)) 4,
    at_ (decide (getU e 4 2 + 20 ≤ getU e 6 2 ∧ getU e 6 2 ≤ 1200)) 6,
    at_ (decide (getU e 8 2 < getU e 4 2)) 8,
    at_ (decide (100 ≤ getU e 10 2 ∧ getU e 10 2 ≤ 10000)) 10,
    at_ (decide (getU e 12 2 ≤ 10000)) 12,
    at_ (decide (1 ≤ getU e 14 2 ∧ getU e 14 2 ≤ 10000)) 14,
    at_ (decide (getU e 16 2 ≤ 10000)) 16,
    at_ (decide (1 ≤ getU e 18 2 ∧ getU e 18 2 ≤ 10000)) 18,
    at_ (decide (getU e 20 1 ≤ 5)) 20, at_ (decide (getU e 21 1 < 8)) 21, at_ (getU e 22 2 == 0) 22]

/-- A rail number, enable output or channel that appears twice. -/
def dupBad (b : Bytes) : Option Nat :=
  firstBad ((List.range (tblCount b)).map fun k =>
    let e := entryOf b k
    let before := (List.range k).map (entryOf b)
    if before.any fun d => enRail d == enRail e then some (16 + 24 * k)
    else if enAct e != 0 && before.any fun d => getU d 2 1 == getU e 2 1 then some (18 + 24 * k) else none)

/-- The checks of R389 over a table of `len` bytes. -/
def railTableBad (s : State) (b : Bytes) (len : Nat) : Option Nat :=
  let n := tblCount b
  firstBad ([must (getU b 0 4 == 0x4C525153) 0, must (getU b 4 2 == 1) 4, must (decide (n ≤ 32) && len == 20 + 24 * n) 8,
      must (decide (tblTop b ≤ 63)) 9, must (decide (getU b 10 1 < 16)) 10, must (getU b 11 1 == 0) 11,
      must (decide (10 ≤ getU b 12 2 ∧ getU b 12 2 ≤ 10000)) 12, must (getU b 14 2 == 0) 14,
      must (getU b (16 + 24 * n) 4 == crc32c (b.take (16 + 24 * n))) (16 + 24 * n), dupBad b] ++
    (List.range (min n 32)).map fun k => entryBad s b (16 + 24 * k))

def execSeqSetTable (q : Req) (s : State) : Out State :=
  let d := getU q.payload 0 2
  let len := getU q.payload 4 4
  command
    { op := 0x0C01, len := lenIs 8, roles := .all
      arg := fun s q => firstBad [zeroAt q.payload 2 2, must (decide (20 ≤ len ∧ len ≤ 788)) 4,
        if descOk s q d len then inBuf (railTableBad s (bufRead s d (min len 788)) len) else none]
      desc := fun _ _ => some (d, len) }
    (fun s q => ok (s.setSeq fun x => { x with next := some (bufRead s d len) }) 0x0C01 q []) q s

def execSeqGetTable (q : Req) (s : State) : Out State :=
  let d := getU q.payload 0 2
  let b (s : State) : Bytes := if getU q.payload 2 1 = 0 then s.seq.table else s.seq.next.getD []
  command
    { op := 0x0C02, len := lenIs 4, roles := .all, v := true
      arg := fun _ q => firstBad [must (d != noDesc) 0, must (decide (getU q.payload 2 1 ≤ 1)) 2, zeroAt q.payload 3 1]
      desc := fun s q => descAt q 0 (b s).length }
    (fun s q => respondBuf s 0x0C02 q d (b s)) q s

def phaseCode : SeqPhase → Nat | .idle => 0 | .watching => 1 | .ascending => 2 | .up => 3 | .descending => 4

/-- The reading of VMON `k`, mV: no command of the block carries it, so it is free (R386). -/
def vmonReading (s : State) (k : Nat) : Nat := Config.freeNat (s.free + k) % 65536

/-- Position, direction, levels, rails with their scaled readings, requests, minimum off time left and last fault (log entry
14). -/
def seqStatus (s : State) : Bytes :=
  let q := s.seq
  let rail (r : Nat) : Bytes :=
    let x := s.railAt r
    let v := match railEntry s r with
      | none => 0
      | some e => if enVmon e = 0xFF then 0 else vmonReading s (enVmon e) * getU e 10 2 / 100
    leU 1 (bitsToNat [x.enabled, x.good, x.running, x.downDone, x.leftWindow]) ++ leU 4 v
  leU 1 (phaseCode q.phase) ++ leU 1 q.pos ++ leU 1 (bitsToNat [q.local_, q.pulling, q.cin, q.cout, q.ignoring]) ++
    ((List.range 32).flatMap rail) ++ ((List.range 24).flatMap fun k => leU 2 (vmonReading s k)) ++
    leU 1 (bitsToNat [q.heldOn.isSome, q.pendingLocal, q.preOff != 0]) ++
    leU 4 ((s.pwr.minOffEnd - s.clk) / nsMs) ++ leU 1 (q.faultRail.getD 0xFF) ++ leU 1 q.faultCause ++
    leU 4 q.otherPresses

def execSeqGetStatus (q : Req) (s : State) : Out State :=
  let d := getU q.payload 0 2
  command
    { op := 0x0C03, len := lenIs 2, roles := .all, v := true
      arg := fun _ _ => must (d != noDesc) 0
      desc := fun s q => descAt q 0 (seqStatus s).length }
    (fun s q => respondBuf { s with free := s.free + 24 } 0x0C03 q d (seqStatus s)) q s

def execSeqOff (q : Req) (s : State) : Out State :=
  command
    { op := 0x0C04, len := lenIs 1, roles := .all, v := true
      state := fun s _ => if s.seq.phase == .descending || s.seq.preOff != 0 then some (conflictObj 0) else none
      arg := fun _ q => must (decide (getU q.payload 0 1 ≤ 1)) 0 }
    (fun s q => offRequest (ok s 0x0C04 q []) (getU q.payload 0 1 == 1)) q s

def execSeqCancelOff (q : Req) (s : State) : Out State :=
  command
    { op := 0x0C05, len := lenIs 0, roles := .all, v := true
      state := fun s _ => if s.seq.pendingLocal then none else some (conflictObj 0) }
    (fun s q => ok (s.setSeq fun x => { x with pendingLocal := false }) 0x0C05 q []) q s

end Sys2Proof.Machine
end

