-- ==== Sys2Proof/Machine/Sys.lean ====
section
/-! DEFINITION. The SYS commands that belong to no one chapter's engine: information, power policy, VBAK, alarm,
window and slots (15_host_interface.md R428, R441, R454; 02_power_states_clocks.md R39, R41, R45, R53). -/

namespace Sys2Proof.Machine

/-- SYS_ECHO: any bytes, returned unchanged (R454). -/
def execSysEcho (q : Req) (s : State) : Out State :=
  command { op := 0x0103, len := fun p => if p.length ≤ 240 then none else some 240, roles := .all, v := true }
    (fun s q => ok s 0x0103 q q.payload) q s

/-- Version, interface level and SVN of the image in force of a part. -/
def imageInfo (p : Part) : Bytes :=
  let b := if p.active = 0 then p.bankA else p.bankB
  leU 4 b.version ++ leU 2 b.ifLevel ++ leU 2 b.svn

/-- The items R454 names, in its order (log entry 14). -/
def sysInfo (s : State) : Bytes :=
  leU 1 (match s.variant with | .kzv4096 => 0 | .kzv1024 => 1) ++ leU 8 Config.uniqueId ++
    imageInfo s.upd.sup ++ imageInfo s.upd.sp ++ imageInfo s.upd.app ++ leU 4 s.hpr.epoch

def execSysGetInfo (q : Req) (s : State) : Out State := getNone 0x0101 true sysInfo q s

/-- SYS_GET_STATUS: the manual gives its response no content; HPR_STATUS and HPR_UNIT (log entry 14). -/
def sysStatus (s : State) : Bytes := leU 4 (hprStatus s) ++ leU 4 (hprUnit s)

def execSysGetStatus (q : Req) (s : State) : Out State := getNone 0x0102 true sysStatus q s

/-! ## Power (02_power_states_clocks.md) -/

/-- Usable VBAK energy in µJ, from µF and mV, above 9.0 V (R39). -/
def energyOf (s : State) (vbak : Nat) : Nat :=
  s.pwr.cmeas.getD (s.pwr.cmin * 1000) * (vbak * vbak - 81000000) / 2000000

/-- E_avail follows; the VBAK_LOW alarm is raised below 3.2 J while VIN is valid, and clears at 3.4 J (R39). -/
def updateEnergy (s : State) (vbak : Nat) : State :=
  let e := energyOf s vbak
  let s := s.setPwr fun p => { p with vbak := vbak, eAvail := e }
  if !s.pwr.vbakLow && s.pwr.vinValid && decide (e < 3200000) then
    groupRecord (s.setPwr fun p => { p with vbakLow := true }) gSys srcAon lvInfo 39 0 (e / 1000)
  else if s.pwr.vbakLow && decide (3400000 ≤ e) then s.setPwr fun p => { p with vbakLow := false }
  else s

/-- SYS_SET_POWER_POLICY (R41). -/
def policyFields : List Field := [uf 0 1 0 3 0, rsv 1 1, uf 2 2 1 600 10, uf 4 2 10 3600 60]

def setPolicy (s : State) (p : Bytes) : State :=
  let s := s.setPwr fun w => { w with floatEn := getBit p 0 0, dormantEn := getBit p 0 1, floatDwell := getU p 2 2
                                      dormantDwell := getU p 4 2 }
  if getBit p 0 0 then s else exitFloat s

def execSysSetPowerPolicy (q : Req) (s : State) : Out State :=
  setR 0x0105 6 policyFields (fun _ _ => none) (fun _ _ => none) setPolicy q s

/-- The items R53 names, in its order; one bit for each clock checker that has failed (log entry 14). -/
def powerInfo (s : State) : Bytes :=
  let p := s.pwr
  let doms : List ClockDomain := [.aon, .sys, .loop, .est, .safe, .sloe, .time, .eth, .ring, .can, .isoH, .xref]
  leU 1 p.state.code ++ leU 4 p.vin ++ leU 4 p.vbak ++ leU 4 p.eAvail ++ leU 4 (p.cmeas.getD (p.cmin * 1000)) ++
    leU 4 p.esr ++ leU 8 p.cmeasT ++ leU 2 (bitsToNat (doms.map s.clockLost))

def execSysGetPowerState (q : Req) (s : State) : Out State := getNone 0x0106 true powerInfo q s

def execSysSetVbak (q : Req) (s : State) : Out State :=
  command
    { op := 0x0107, len := lenIs 4, roles := .all
      arg := fun _ q => badField [uf 0 1 24 30 28, rsv 1 1] q.payload }
    (fun s q =>
      let s := s.setPwr fun p => { p with target := getU q.payload 0 1, cmin := getU q.payload 2 2 }
      ok (updateEnergy s s.pwr.vbak) 0x0107 q []) q s

def execSysSetAlarm (q : Req) (s : State) : Out State :=
  command { op := 0x0108, len := lenIs 8, roles := .all }
    (fun s q =>
      let v := getU q.payload 0 8
      ok (s.setPwr fun p => { p with rtcAlarm := if v = 0 then none else some v }) 0x0108 q []) q s

/-! ## Window (R441) -/

/-- The buffer pool of a port (*Window layout*): first offset and end. -/
def poolOf : Port → Nat × Nat
  | .app => (0x02000000, 0x03000000)
  | _ => (0x00010000, 0x02000000)

def roundUp4K (n : Nat) : Nat := (n + 4095) / 4096 * 4096

/-- The lowest offset of the pool where `size` bytes are free: it starts the pool or follows a buffer (log entry 15). -/
def firstFit (s : State) (port : Port) (size : Nat) : Option Nat :=
  let (lo, hi) := poolOf port
  let used := s.hpr.desc.filter fun d => d.kind = 1 ∧ lo ≤ d.offset ∧ d.offset < hi
  let starts := lo :: used.map fun d => d.offset + d.size
  let free (o : Nat) : Bool := decide (o + size ≤ hi) && used.all fun d =>
    decide (o + size ≤ d.offset) || decide (d.offset + d.size ≤ o)
  (starts.filter free).foldl (fun b o => match b with | none => some o | some x => some (min x o)) none

def allocSize (q : Req) : Nat := roundUp4K (getU q.payload 0 4)

def execSysWinAlloc (q : Req) (s : State) : Out State :=
  command
    { op := 0x010D, len := lenIs 4, roles := .all, v := true
      arg := fun _ q => must (decide (4096 ≤ allocSize q ∧ allocSize q ≤ 0x1000000)) 0
      res := fun s q => (firstFit s q.port (allocSize q)).isNone || (freeDesc s).isNone }
    (fun s q =>
      let d := (freeDesc s).getD 0
      let o := (firstFit s q.port (allocSize q)).getD 0
      let s := s.modDesc d fun e =>
        { own := false, kind := 1, requester := portCode q.port, gen := (e.gen + 1) % 65536, offset := o
          size := allocSize q, used := 0, opcode := 0x010D, seq := q.seq }
      ok s 0x010D q (leU 2 d ++ leU 2 0 ++ leU 4 o ++ leU 4 (allocSize q))) q s

/-- SYS_WIN_FREE: a descriptor of the issuing port; a kind 1 descriptor must be HOST_OWNS. -/
def execSysWinFree (q : Req) (s : State) : Out State :=
  command
    { op := 0x010E, len := lenIs 2, roles := .all, v := true
      owner := fun s q =>
        let d := getU q.payload 0 2
        let e := s.desc d
        if d < 256 ∧ e.kind ≠ 0 ∧ e.requester = portCode q.port ∧ ¬ (e.kind = 1 ∧ e.own) then none else some d }
    (fun s q => ok (s.modDesc (getU q.payload 0 2) fun e => { gen := e.gen }) 0x010E q []) q s

/-! ## Slots (R428) -/

/-- Slot `n` is free: its requester owns it and its DONE bit is clear (R434). -/
def slotFree (s : State) (n : Nat) : Bool := !s.hpr.own.getLsbD n && !s.hpr.done.getLsbD n

def slotField (v n : Nat) : Nat := v / 4 ^ n % 4

def execSysSetSlots (q : Req) (s : State) : Out State :=
  command
    { op := 0x010F, len := lenIs 4, roles := .all, noApp := true
      state := fun s q =>
        let v := getU q.payload 0 4
        ((List.range 16).find? fun n => slotField v n ≠ slotField s.hpr.slotPort.toNat n ∧ slotFree s n = false).map
          conflictObj
      arg := fun _ q =>
        let v := getU q.payload 0 4
        match (List.range 16).find? fun n => slotField v n = 3 with
        | some n => some (n / 4)
        | none => must ((List.range 16).any fun n => slotField v n == 0) 0 }
    (fun s q => ok (s.setHpr fun h => { h with slotPort := BitVec.ofNat 32 (getU q.payload 0 4) }) 0x010F q []) q s

end Sys2Proof.Machine
end

