-- ==== Sys2Proof/Machine/Power.lean ====
section
/-! DEFINITION. Power states, the hold-up sequence, VBAK and clock failures (02_power_states_clocks.md R36 to R52). -/

namespace Sys2Proof.Machine

/-! ## VIN and the hold-up sequence (R37, R41, R46 to R48) -/

/-- Elapsed ns since the filtered VIN loss. -/
def sinceLoss (s : State) : Nat := s.clk - s.pwr.holdT0

/-- HOLD-UP is entered: the charger stops, balancing stops on every string, and the sources are raised. -/
def enterHoldup (s : State) : State :=
  let s := s.setPwr fun p => { p with prev := p.state, holdT0 := s.clk, holdStep := 0, holdSwap := false
                                      returnPending := false }
  let s := setPower s .holdup
  let s := icuPrivate (icuPrivate s .host 3) .app 3
  (List.range s.strings).foldl stopBalancing s

/-- VIN loss; in POWERUP it is a power-up failure (13_sequencing.md R385). -/
def execVinLoss (t : Nat) (vin : Nat) (s : State) : Out State :=
  let s := s.advance t
  .next (if !s.pwr.vinValid || 33000 ≤ vin then s
    else
      let s := s.setPwr fun p => { p with vin := vin, vinValid := false, chargerOn := false }
      match s.unit with
      | .off => s.setSeq fun q => { q with phase := if q.phase == .watching then .idle else q.phase }
      | .powerup => powerUpFailure s
      | _ =>
        match s.pwr.state with
        | .active | .float | .dormant => enterHoldup s
        | _ => s)

/-- The ramps of the 20 ms step are abandoned where they stand. -/
def abandonRamps (s : State) : State :=
  (List.range s.strings).foldl (fun s i =>
    s.modConv i fun c => if c.rampThen.isNone then { c with rampStop := false } else c)
    (s.setPwr fun p => { p with dispatchUnavailable := false })

/-- The TSU after DORMANT (14_time.md R420). -/
def wakeTsu (s : State) : State :=
  let d := s.clk - s.pwr.dormantT
  s.setTsu fun x =>
    if getU (timCfg s) 20 4 * nsS < d then { x with sync := .freerun, src := none, slew := 0, converging := false }
    else { x with sync := .holdover, src := none, holdT := s.clk, errEst := 31000 + d / 20000, slew := 0, converging := false }

/-- The ACTIVE power state after DORMANT: the TSU, the log with the AON buffer, and beats at once (R45). -/
def leaveDormant (s : State) : State :=
  let s := wakeTsu s
  let s := flushBuffer (setPower s .active)
  let s := s.setPwr fun p => { p with lastCmdT := s.clk }
  let s := if beats s then sendBeat s false else s
  s.setRed fun r => { r with wakeT := if r.partnerDormant then some s.clk else none }

/-- HOLD-UP ends in the ACTIVE power state; a unit that was DORMANT wakes. -/
def resumeActive (s : State) : State :=
  if s.pwr.prev == .dormant then leaveDormant s else setPower s .active

def execVinReturn (t : Nat) (vin : Nat) (s : State) : Out State :=
  let s := s.advance t
  .next (if s.pwr.vinValid || vin ≤ 35000 then s
    else
      let s := s.setPwr fun p => { p with vin := vin, vinValid := true, chargerOn := true }
      match s.pwr.state with
      | .holdup =>
        match s.pwr.holdStep with
        | 0 => setPower s s.pwr.prev
        | 1 => resumeActive (abandonRamps s)
        | 2 => s.setPwr fun p => { p with returnPending := true }
        | _ => resumeActive (s.setPwr fun p => { p with dispatchUnavailable := false })
      | .retention => if s.unit == .off then onRequest s .vinReturn else s
      | .unpowered => setPower s .retention
      | _ => s)

/-- 5 ms: the unit in the ACTIVE role whose healthy partner reports valid VIN requests a role swap in place of the ramp and
disconnect steps (R48). -/
def execHoldupSwapRequest (t : Nat) (s : State) : Out State :=
  let s := s.advance t
  .next (if s.pwr.state == .holdup && s.pwr.holdStep == 0 && decide (5 * nsMs ≤ sinceLoss s) && s.unit == .active &&
      partnerReady s && s.red.partnerVin && s.red.swapAt.isNone && !s.pwr.holdSwap then
    (requestSwap s).setPwr fun p => { p with holdSwap := true } else s)

/-- 20 ms: a zero setpoint for every REGULATING string, and dispatch unavailable. A unit that commands no string takes no
string action. -/
def execHoldupRampStep (t : Nat) (s : State) : Out State :=
  let s := s.advance t
  .next (if s.pwr.state != .holdup || s.pwr.holdStep != 0 || decide (sinceLoss s < 20 * nsMs) then s
    else
      let s := s.setPwr fun p => { p with holdStep := 1 }
      if s.unit.commands then
        (List.range s.strings).foldl (fun s i =>
          if (s.strAt i).state == .regulating then s.modConv i fun c => { c with rampStop := true } else s)
          (s.setPwr fun p => { p with dispatchUnavailable := true })
      else s)

/-- 80 ms: every string not ISOLATED, HALTED or RETIRED is disconnected. -/
def execHoldupDisconnectStep (t : Nat) (s : State) : Out State :=
  let s := s.advance t
  .next (if s.pwr.state != .holdup || 2 ≤ s.pwr.holdStep || decide (sinceLoss s < 80 * nsMs) then s
    else
      let s := s.setPwr fun p => { p with holdStep := 2 }
      if s.unit.commands then disconnectAll s 46 else s)

/-- 100 ms: the writeback. Where VIN has returned, the ACTIVE power state follows. -/
def execMramWriteback (t : Nat) (s : State) : Out State :=
  let s := s.advance t
  .next (if s.pwr.state != .holdup || s.pwr.holdStep != 2 || decide (sinceLoss s < 100 * nsMs) then s
    else
      let s := writeback (s.setPwr fun p => { p with holdStep := 3 })
      if s.pwr.returnPending then
        resumeActive (s.setPwr fun p => { p with returnPending := false, dispatchUnavailable := false })
      else s)

/-- 120 ms: the fast domains stop; DRAM and SRAM are lost, and the unit is OFF (R42). Every SEQ pin and enable is released. -/
def execRetentionEntry (t : Nat) (s : State) : Out State :=
  let s := s.advance t
  .next (if s.pwr.state == .holdup && s.pwr.holdStep == 3 && decide (120 * nsMs ≤ sinceLoss s) then goOff s 46 false else s)

/-- VBAK below 9.5 V in HOLD-UP goes straight to the 80 ms step; the writeback follows from there (R47). -/
def execVbakCritical (t : Nat) (vbak : Nat) (s : State) : Out State :=
  let s := s.advance t
  .next (if s.pwr.state == .holdup && decide (vbak < 9500) then
      let s := groupRecord (s.setPwr fun p => { p with vbak := vbak }) gSys srcAon lvInfo 47 0 vbak
      if 2 ≤ s.pwr.holdStep then s
      else
        let s := s.setPwr fun p => { p with holdStep := 2, holdT0 := s.clk - 80 * nsMs }
        if s.unit.commands then disconnectAll s 47 else s
    else s)

/-- VBAK below 8.0 V in RETENTION: AON stops and the RTC is lost. -/
def execVbakRetentionFloor (t : Nat) (vbak : Nat) (s : State) : Out State :=
  let s := s.advance t
  .next (if s.pwr.state == .retention && decide (vbak < 8000) && !s.pwr.vinValid then
      let s := s.setPwr fun p => { p with vbak := vbak, eAvail := 0, cmeas := none, rtcAlarm := none, rtcDegraded := false
                                          aonFault := 0, vbakLow := false, chargerOn := false }
      let s := s.setTsu fun x => { x with now := 0, frac := 0, timeLoaded := false }
      setPower (s.setSeq fun q => { q with heldOn := none, phase := .idle, pulling := false }) .unpowered
    else s)

/-! ## VBAK energy (R39, R40) -/

/-- A guarded write that was deferred, now that the check passes. -/
def retryWrite (s : State) (k : Nat) : State :=
  match k with
  | 0 => s.setRed fun r => { r with storedClaim := max r.storedClaim r.claim }
  | 1 =>
    let s := (List.range s.strings).foldl storeE s
    let put (s : State) (c : Channel) : State :=
      match (s.chan c).set with
      | none => s
      | some b => if ((newerSlot (s.chan c).slot0 (s.chan c).slot1).map (·.body)) == some b then s else s.modChan c (putSlot b)
    put (put s .sp) .sloe
  | 2 => match s.cee.journal.again with | none => s | some r => triggerJournal s r
  | _ => writeCheck s

/-- Every 1 ms: E_avail follows VBAK, and deferred writes are tried again. -/
def execEAvailUpdate (t : Nat) (vbak : Nat) (s : State) : Out State :=
  let s := s.advance t
  .next (if s.pwr.state == .unpowered then s
    else
      let s := updateEnergy s vbak
      if energyOk s then s.pwr.deferred.foldl retryWrite (s.setPwr fun p => { p with deferred := [] }) else s)

/-- C_meas = 0.5 A × 40 ms / ΔV, from the droop in mV and the series resistance in mΩ; only while VIN is valid. -/
def execCapacitanceMeasurement (t : Nat) (droop esr : Nat) (s : State) : Out State :=
  let s := s.advance t
  .next (if s.pwr.vinValid && hostServed s && droop != 0 then
      let s := s.setPwr fun p => { p with cmeas := some (20000000 / droop), esr := esr, cmeasT := s.clk }
      updateEnergy s s.pwr.vbak
    else s)

/-! ## FLOAT and DORMANT (R41 to R45, R49) -/

/-- Every connected string has held |I| < 0.005 C for the FLOAT dwell, at least one is connected, and nothing runs. -/
def floatAllowed (s : State) : Bool :=
  s.pwr.floatEn &&
    ((List.range s.strings).all fun i =>
      match (s.strAt i).state with
      | .connected => !(s.convAt i).running && heldFor s (s.estAt i).restSince (s.pwr.floatDwell * nsS)
      | .precharge | .regulating => false
      | _ => true) &&
    (s.str.take s.strings).any fun x => x.state == .connected

def execFloatEntry (t : Nat) (s : State) : Out State :=
  let s := s.advance t
  .next (if s.pwr.state == .active && s.unit.isRole && floatAllowed s then
    setPower (s.setPwr fun p => { p with floatRaised := false }) .float else s)

/-- |I| at or above 0.005 C on a string, or FLOAT disabled; commands, requests and trips leave FLOAT themselves. -/
def execFloatExit (t : Nat) (s : State) : Out State :=
  let s := s.advance t
  .next (if s.pwr.state == .float && (!s.pwr.floatEn ||
      (List.range s.strings).any fun i => oneC s i != 0 && atLeastC s i 5 (s.hviAt i).cur) then exitFloat s else s)

/-- AON starts PLL-E and raises SYS 300 µs before a trigger instant (TSU ns). -/
def execFloatClockRaise (t : Nat) (instant : Nat) (s : State) : Out State :=
  let s := s.advance t
  .next (if s.pwr.state == .float && decide (s.tsu.now ≤ instant ∧ instant ≤ s.tsu.now + 300 * nsUs) then
    s.setPwr fun p => { p with floatRaised := true } else s)

/-- The conditions of DORMANT. -/
def dormantAllowed (s : State) : Bool :=
  s.pwr.dormantEn && s.allOpen && s.unit.isRole && decide (s.pwr.lastCmdT + s.pwr.dormantDwell * nsS ≤ s.clk) &&
    s.upd.act.isNone && s.upd.xfer.all fun x => x.state != .receiving && x.state != .activating

/-- Balancing stops first; a unit with a partner marks the entry in its beats and in a STATE message (11_redundancy.md R332);
then SUP halts. -/
def execDormantEntry (t : Nat) (s : State) : Out State :=
  let s := s.advance t
  .next (if (s.pwr.state == .active || s.pwr.state == .float) && dormantAllowed s then
      let s := (List.range s.strings).foldl stopBalancing s
      let s := if s.red.present then peerSend (sendBeat s true) peerState else s
      let s := s.setRed fun r => { r with beatsOn := false }
      setPower (s.setPwr fun p => { p with dormantT := s.clk, floatRaised := false }) .dormant
    else s)

/-- The event's own condition, where the state shows it. -/
def wakes (s : State) (w : WakeCause) : Bool :=
  match w with
  | .rtcAlarm => match s.pwr.rtcAlarm with | none => false | some a => decide (a * nsS ≤ s.tsu.now)
  | .vbakDue => decide (s.pwr.cmeasT + 86400 * nsS ≤ s.clk)
  | _ => true

/-- DORMANT ends (R45). -/
def wakeUp (s : State) (w : WakeCause) : State :=
  if s.pwr.state != .dormant || !wakes s w then s
  else
    let s := if w == .rtcAlarm then s.setPwr fun p => { p with rtcAlarm := none } else s
    leaveDormant s

def execWakeEvent (t : Nat) (w : WakeCause) (s : State) : Out State := .next (wakeUp (s.advance t) w)

/-! ## Clock failures (R50 to R52) -/

def domCode : ClockDomain → Nat
  | .aon => 0 | .sys => 1 | .loop => 2 | .est => 3 | .safe => 4 | .sloe => 5 | .time => 6 | .eth => 7 | .ring => 8 | .can => 9
  | .isoH => 10 | .xref => 11

/-- The domain runs in the power state in force (*Clock domains*), so that its checker is armed. -/
def domRuns (s : State) (d : ClockDomain) : Bool :=
  let p := if s.pwr.state == .holdup then s.pwr.prev else s.pwr.state
  hostServed s && s.pwr.state != .retention && s.pwr.state != .unpowered && !s.clockLost d &&
    match d with
    | .aon | .sloe | .ring | .isoH | .xref => true
    | .loop => p == .active
    | .sys | .est | .safe | .time | .eth | .can => p != .dormant

/-- PM outputs gate off in hardware: every REGULATING string is without current at once, and goes on as at the end of a
ramp. -/
def loopStops (s : State) : State :=
  (List.range s.strings).foldl (fun s i =>
    if (s.strAt i).state == .regulating then
      rampDone (stopPair s (pairOf s i)) i ((s.convAt i).rampThen.getD .connected)
    else gateOffString s i) s

/-- A clock failure with its response. A lost unit is retired with reason clock loss (R51). -/
def execClockFailure (t : Nat) (d : ClockDomain) (s : State) : Out State :=
  let s := s.advance t
  .next (if !domRuns s d then s
    else
      let s := groupRecord s gSys srcPmu lvErr 50 (domCode d) 0
      if d == .aon then s.setPwr fun p => { p with rtcDegraded := true }
      else
        let s := s.setPwr fun p => { p with failedClocks := p.failedClocks ++ [d] }
        match d with
        | .sys => loseSup (s.setPwr fun p => { p with plgOnSloe := true })
        | .loop => retireUnit (loopStops s) uLe 3
        | .est =>
          retireUnit ((List.range 4).foldl stopPair s) uCee 3
        | .safe => retireUnit s uSp 3
        | .sloe => retireUnit s uSloe 3
        | .isoH => retireUnit s uHvi 3
        | .xref =>
          let s := s.setPwr fun p => { p with xrefFailed := true, plgOnSloe := true }
          let s := enterSafeHold s 52
          retireUnit (retireUnit (retireUnit s uHvi 3) uLe 3) uCee 3
        | _ => retier s)

/-- SUP starts anew outside a handover: what it was executing is lost, and the log records the start. -/
def supStart (s : State) (cause : Nat) : State :=
  let s := s.setPwr fun p => { p with supLost := false, supRestarting := false, plgOnSloe := s.clockLost .sys }
  let s := s.setHpr fun h => { h with exec := [], order := [], own := 0, ready := true }
  record s 3 srcSup lvInfo cause 0 s.hpr.epoch

/-- Every 1 s PMU retries XREF; once it runs, SUP starts in SAFE-HOLD (R52). -/
def execXrefRetry (t : Nat) (ok : Bool) (s : State) : Out State :=
  let s := s.advance t
  .next (if s.pwr.xrefFailed && ok then
      retier (supStart (s.setPwr fun p => { p with xrefFailed := false, failedClocks := p.failedClocks.filter (· != .xref) }) 3)
    else s)

/-- PMU's restart of a lost SUP completes, on a SYS clock that runs again. -/
def execSupRestart (t : Nat) (s : State) : Out State :=
  let s := s.advance t
  .next (if s.pwr.supRestarting && !s.clockLost .xref then
      retier (supStart (s.setPwr fun p => { p with failedClocks := p.failedClocks.filter (· != .sys) }) 4)
    else s)

/-! ## Conserved quantities (R36) -/

/-- An imbalance beyond its window is a detected error: of the monitor whose credits are out, or of the CEE for the string
charge; the other books have no retirable unit (18_faults_peat_log.md R493). -/
def execImbalance (t : Nat) (row obj : Nat) (amount : Int) (s : State) : Out State :=
  let s := s.advance t
  .next (if !hostServed s || amount == 0 || 6 < row then s
    else
      let s := record s 0x24 srcSup lvErr row obj (amount % 2 ^ 32).toNat
      match row with
      | 0 => if obj < 128 then detected s (0x0400 + obj) 36 row else s.setFlt fun f => { f with errors := f.errors + 1 }
      | 5 => detected s uCee 36 row
      | _ => s.setFlt fun f => { f with errors := f.errors + 1 })

end Sys2Proof.Machine
end

