-- ==== Sys2Proof/Machine/Strings.lean ====
section
/-! DEFINITION. The commands that move a string between its states, and the deadline fault (01_system.md R24 to R28, R34). -/

namespace Sys2Proof.Machine

/-- State, tier and flags of a string, and the opcode of the command whose transition is in progress (log entry 14): flags
bit 0 in the allocation, bit 1 paused, bit 2 permitted by SP, bit 3 permitted by Sloe. -/
def strInfo (s : State) (i : Nat) : Bytes :=
  let x := s.strAt i
  leU 1 i ++ leU 1 x.state.code ++ leU 1 x.tier.code ++
    leU 1 (x.included.toNat + 2 * (s.convAt i).pause.isSome.toNat + 4 * (permit s .sp i).toNat + 8 * (permit s .sloe i).toNat) ++
    leU 2 (match x.trans with | none => 0 | some e => e.opcode) ++ leU 2 0

def execStrGetState (q : Req) (s : State) : Out State := getI 0x0201 false true true State.strings strInfo q s

/-- A command for one string (form I): `bad` answers the detail of its STATE_CONFLICT. -/
def strCommand (op : Nat) (bad : State → Nat → Option Nat) (run : State → Req → Nat → State) (q : Req) (s : State) : Out State :=
  let i := getU q.payload 0 1
  command
    { op := op, len := lenIs 4, roles := .as, h := false
      pop := fun s _ => must (i == 0xFF || decide (i < s.strings)) 0
      state := fun s _ => if i < s.strings then bad s i else none
      arg := fun s q => argI s.strings false true 0 q.payload
      desc := fun _ q => descAt q 2 0 }
    (fun s q => run s q i) q s

/-- The transition of a command that stands in the string's way (R25). -/
def inTransition (s : State) (i : Nat) : Option Nat := if (s.strAt i).trans.isSome then some (conflictObj i) else none

/-- The string is in one of `from_`, with no transition in progress and condition `ok` met (R25). -/
def moves (s : State) (i : Nat) (from_ : List StrState) (ok : Bool) : Option Nat :=
  if !from_.contains (s.strAt i).state then some (conflictStr s i)
  else match inTransition s i with
    | some d => some d
    | none => if ok then none else some (conflictObj i)

/-- The command goes on executing as the string's transition. -/
def beginTrans (s : State) (op : Nat) (q : Req) (i : Nat) : State :=
  (keepExec s op q).modStr i fun x => { x with trans := some { req := q, opcode := op } }

/-- STR_CONNECT: tier M or F and both permits, and the fast-trip comparators of the string passed at BOOT
(03_string_measurement.md R76). Stage 1, cooling, begins (08_converter_control.md R235). -/
def execStrConnect (q : Req) (s : State) : Out State :=
  strCommand 0x0202
    (fun s i => moves s i [.isolated]
      (decide (Tier.m.code ≤ (s.strAt i).tier.code) && permit s .sp i && permit s .sloe i && !(s.hviAt i).testFailed))
    (fun s q i =>
      let s := setStr (exitFloat (beginTrans s 0x0202 q i)) i .precharge 235
      s.modConv i fun c => { c with stage := 1, tPc := none, lowSince := none, peak := 0 }) q s

/-- The ramp to zero of a REGULATING string, after which it goes to `dest`; without current it is over at once. The pair's
tones stop (06_impedance_thermal.md R162). -/
def leaveRegulating (s : State) (i : Nat) (dest : StrState) : State :=
  let s := stopPair s (pairOf s i)
  if (s.convAt i).running then startRamp s i dest else rampDone s i dest

/-- STR_DISCONNECT overtakes an STR_CONNECT or an STR_IDLE in progress, which ends ABORTED (R25). -/
def disconnectBad (s : State) (i : Nat) : Option Nat :=
  match (s.strAt i).state with
  | .precharge => none
  | .connected | .regulating =>
    match (s.strAt i).trans with
    | some e => if e.opcode = 0x0205 then none else some (conflictObj i)
    | none => if (s.convAt i).rampThen == some .isolated then some (conflictObj i) else none
  | _ => some (conflictStr s i)

def execStrDisconnect (q : Req) (s : State) : Out State :=
  strCommand 0x0203 disconnectBad
    (fun s q i =>
      match (s.strAt i).state with
      | .precharge => commit (prechargeAbort s i 25) 0x0203 q peerState []
      | st =>
        let s := beginTrans (abortTrans s i) 0x0203 q i
        if st == .regulating then leaveRegulating s i .isolated else disconnectNow s i) q s

/-- STR_REGULATE: tier F, the LE not under the test of a deadline fault (R34). The string is REGULATING at once, and its
converter starts on its own conditions. -/
def execStrRegulate (q : Req) (s : State) : Out State :=
  strCommand 0x0204
    (fun s i => moves s i [.connected]
      ((s.strAt i).tier == .f && !s.suspended uLe && (s.convAt i).rampThen.isNone))
    (fun s q i => commit (exitFloat (setStr s i .regulating 25)) 0x0204 q peerState []) q s

/-- STR_IDLE: not during a ramp at whose end the string is disconnected. -/
def execStrIdle (q : Req) (s : State) : Out State :=
  strCommand 0x0205 (fun s i => moves s i [.regulating] ((s.convAt i).rampThen != some .isolated))
    (fun s q i => leaveRegulating (beginTrans s 0x0205 q i) i .connected) q s

/-- STR_RESET: both channels report the cause cleared, and the mirrors confirm every contactor open (R25). -/
def execStrReset (q : Req) (s : State) : Out State :=
  strCommand 0x0206
    (fun s i => moves s i [.halted]
      (causesCleared s .sp i && causesCleared s .sloe i && (s.contAt i).mirror == 0))
    (fun s q i => commit (setStr (releaseLatches s i) i .isolated 25) 0x0206 q peerState []) q s

def execStrRetire (q : Req) (s : State) : Out State :=
  strCommand 0x0207 (fun s i => moves s i [.isolated, .halted] true)
    (fun s q i => commit (retireStr s i 25) 0x0207 q peerState []) q s

/-- The units whose restoring command is STR_RESTORE of string `i` (*Retirable units*). -/
def restoredBy (i : Nat) : List Nat :=
  [uMod (2 * i), uMod (2 * i + 1), uVolt i, uVolt 8, uVolt 9, uVolt 10, uGdb i, uCdb (i / 4), uCee, uLe]

/-- STR_RESTORE tests the string's retired units (R25, 18_faults_peat_log.md R497). -/
def execStrRestore (q : Req) (s : State) : Out State :=
  let units (s : State) (i : Nat) : List Nat := (restoredBy i).filter s.retired
  strCommand 0x0208
    (fun s i =>
      match inTransition s i with
      | some d => some d
      | none => if (s.strAt i).state != .retired && (units s i).isEmpty then some (conflictStr s i) else none)
    (fun s q i => startRestore s 0x0208 q (units s i) (some i)) q s

/-! ## Deadline faults (R32 to R34; 09_loop_engine.md R276) -/

/-- The string of a loop slot whose computation is behind. -/
def lateStrings (s : State) : List Nat :=
  (List.range s.strings).filter fun i => (List.range 64).any fun n =>
    slotString n == some i && (s.loopAt n).busy && decide (0 < (s.loopAt n).lateRun)

/-- A deadline fault of slot `n`: an auxiliary slot stops; for a converter slot the LE is charged, and every string whose
loops were late leaves REGULATING for CONNECTED. -/
def leDeadline (s : State) (n : Nat) : State :=
  let strs := lateStrings s
  let aux : Bool := slotKind n == 5
  let s := s.modLoop n fun x => { x with deadline := x.deadline + 1, lateRun := 0, busy := false, stopped := x.stopped || aux }
  if aux then s
  else
    let s := strs.foldl (fun s i =>
      if (s.strAt i).state == .regulating then
        rampDone (stopPair s (pairOf s i)) i ((s.convAt i).rampThen.getD .connected)
      else s) s
    detected s uLe 34 n

/-- DEADLINE_FAULT: the schedule is not regained within 8 periods. -/
def execDeadlineFault (t : Nat) (e : Engine) (s : State) : Out State :=
  let s := s.advance t
  .next (match e with
    | .cee =>
      let k := s.tsu.now / (100 * nsMs)
      let want := s.cee.periodIdx
      if ceeRuns s && want != 0 && decide (want < k) && (decide (want + 8 < k) || decide (8 ≤ s.cee.late)) then ceeDeadline s else s
    | .le n => if slotRuns s n && decide (8 < (s.loopAt n).lateRun) then leDeadline s n else s)

end Sys2Proof.Machine
end

