-- ==== Sys2Proof/Machine/Time.lean ====
section
/-! DEFINITION. The TSU: sync states and servo, PTP ports, PPS, triggers, captures and the TIM commands (14_time.md R410 to
R427). -/

namespace Sys2Proof.Machine

/-- The TSU counts: TIME runs, outside DORMANT, RETENTION and OFF (R420). -/
def tsuRuns (s : State) : Bool := timeRuns s && hostServed s && !s.asleep && s.pwr.state != .retention

def Tsu.trigAt (x : Tsu) (n : Nat) : Trigger := x.trig.getD n {}
def Tsu.capAt (x : Tsu) (n : Nat) : Capture := x.cap.getD n {}
def Tsu.portAt (x : Tsu) (n : Nat) : PtpPort := x.ports.getD n {}
def modTrig (s : State) (n : Nat) (f : Trigger → Trigger) : State := s.setTsu fun x => { x with trig := x.trig.modify n f }
def modCap (s : State) (n : Nat) (f : Capture → Capture) : State := s.setTsu fun x => { x with cap := x.cap.modify n f }
def modPtp (s : State) (n : Nat) (f : PtpPort → PtpPort) : State := s.setTsu fun x => { x with ports := x.ports.modify n f }

/-- One TIME cycle of 4 ns. -/
def sameCycle (a b : Nat) : Bool := a / 4 == b / 4

/-! ## Triggers (R422, R423) -/

/-- Fires trigger `n`: event bit, source, count, and the next instant or disarming. Trigger 4 drives PPS_OUT (R421). -/
def fire (s : State) (n : Nat) (late : Bool) : State :=
  let x := s.tsu.trigAt n
  let s := modTrig s n fun x =>
    { x with count := (x.count + 1) % 2 ^ 32, firedT := some s.clk, late := x.late || late
             arm := decide (x.period ≠ 0), at_ := x.at_ + x.period }
  let s := s.setTsu fun y =>
    { y with evt := y.evt ||| BitVec.twoPow 32 n, ppsOuts := if n = 4 then y.ppsOuts + 1 else y.ppsOuts }
  if x.icu then icuShared s (32 + n) else s

/-- First grid instant of `at_` + k × `per` at or after `t`. -/
def gridFrom (at_ per t : Nat) : Nat :=
  if per = 0 ∨ t ≤ at_ then at_ else at_ + (t - at_ + per - 1) / per * per

/-- Arms trigger `n`: a one-shot in the past fires at once, late; a periodic one takes its first grid instant at least 1 µs
ahead. -/
def armTrigger (s : State) (n : Nat) : State :=
  let x := s.tsu.trigAt n
  let s := modTrig s n fun x => { x with arm := true, count := 0 }
  if s.tsu.now < x.at_ then s
  else if x.period = 0 then fire s n true
  else modTrig s n fun x => { x with at_ := gridFrom x.at_ x.period (s.tsu.now + nsUs) }

def execTriggerFire (t : Nat) (n : Nat) (s : State) : Out State :=
  let s := s.advance t
  .next (if decide (n < 16) && tsuRuns s && (s.tsu.trigAt n).arm && decide ((s.tsu.trigAt n).at_ ≤ s.tsu.now) then fire s n false else s)

/-- A discarded APP write (R425). -/
def tsuAccErr (s : State) : State := icuPrivate (s.setTsu fun x => { x with accErr := true }) .app 7

/-- APP may write trigger `n`, or capture `n` at bit 16 + n, only where TSU_OWN gives it; triggers 0 to 7 are SUP's. -/
def tsuMay (s : State) (app : Bool) (bit : Nat) : Bool := !app || s.tsu.own.getLsbD bit

/-- Writes TSU_TRGn_CTRL. ARM set in the cycle in which a one-shot fires is discarded; LATE is W1C; LE is fixed for triggers
0 to 7. -/
def writeTrigCtrl (s : State) (n : Nat) (v : BitVec 32) : State :=
  let x := s.tsu.trigAt n
  let fired : Bool := match x.firedT with | none => false | some t => sameCycle t s.clk && x.period == 0
  let s := modTrig s n fun x =>
    { x with icu := v.getLsbD 2, le := if n < 8 then true else v.getLsbD 3
             late := if v.getLsbD 1 && !fired then false else x.late
             arm := x.arm && v.getLsbD 0 }
  if v.getLsbD 0 && !x.arm && !fired then armTrigger s n else s

def execTsuTrgCtrlWrite (t : Nat) (app : Bool) (n : Nat) (value : BitVec 32) (s : State) : Out State :=
  let s := s.advance t
  .next (if !decide (n < 16) || !hostServed s then s
    else if tsuMay s app n then writeTrigCtrl s n value else tsuAccErr s)

def execTsuSnapWrite (t : Nat) (value : BitVec 32) (s : State) : Out State :=
  let s := s.advance t
  .next (if value.getLsbD 0 then s.setTsu fun x => { x with snap := x.now, snapFrac := x.frac } else s)

/-- Event bits set in the present cycle stay set (01_system.md R30). -/
def eventNow (s : State) : BitVec 32 :=
  BitVec.ofNat 32 (bitsToNat ((List.range 32).map fun n =>
    if n < 16 then (match (s.tsu.trigAt n).firedT with | none => false | some t => sameCycle t s.clk)
    else match (s.tsu.capAt (n - 16)).fifo.getLast? with | none => false | some e => sameCycle e.time s.tsu.now))

/-- An APP write clears only bits of what it owns. -/
def execTsuEvtClear (t : Nat) (app : Bool) (mask : BitVec 32) (s : State) : Out State :=
  let s := s.advance t
  let m := if app then mask &&& s.tsu.own else mask
  let s' := s.setTsu fun x => { x with evt := x.evt &&& ~~~ (m &&& ~~~ eventNow s) }
  .next (if app && m != mask then tsuAccErr s' else s')

/-! ## Captures (R424) -/

def capSrc (s : State) (n : Nat) : Nat := (s.tsu.capAt n).src.getD n

/-- The edge counts: enabled (0 and 1 are SUP's), of the selected direction, and held for FILT. -/
def edgeCounts (s : State) (n : Nat) (rising : Bool) (levelNs : Nat) : Bool :=
  let c := s.tsu.capAt n
  (c.en || decide (n < 2)) && (if rising then c.edge % 2 == 1 else decide (2 ≤ c.edge)) && decide (c.filt ≤ levelNs)

def execCaptureEdge (t : Nat) (n : Nat) (rising : Bool) (frac levelNs : Nat) (s : State) : Out State :=
  let s := s.advance t
  .next (if !decide (n < 16) || !tsuRuns s || !edgeCounts s n rising levelNs then s
    else
      let e : CapEntry := { time := s.tsu.now, frac := frac % 65536, steps := s.tsu.stepCnt % 65536 }
      let full : Bool := n != 1 && decide (4 ≤ (s.tsu.capAt n).fifo.length)
      let s := modCap s n fun c =>
        { c with fifo := if n = 1 then [e] else if full then c.fifo else c.fifo ++ [e], ovf := c.ovf || full
                 ovfT := if full then some s.clk else c.ovfT
                 count := (c.count + 1) % 2 ^ 32 }
      let s := if full then s else s.setTsu fun x => { x with evt := x.evt ||| BitVec.twoPow 32 (16 + n) }
      let s := if (s.tsu.capAt n).icu then icuShared s (48 + n) else s
      if n = 1 then syncEdgeAt s else s)

def popCap (s : State) (n : Nat) : State := modCap s n fun c => { c with fifo := c.fifo.drop 1 }

def execTsuCapPop (t : Nat) (app : Bool) (n : Nat) (s : State) : Out State :=
  let s := s.advance t
  .next (if !decide (n < 16) || !hostServed s then s
    else if tsuMay s app (16 + n) then popCap s n else tsuAccErr s)

/-- An edge was discarded in the present cycle. -/
def overflowNow (s : State) (c : Capture) : Bool := match c.ovfT with | none => false | some t => sameCycle t s.clk

/-- Writes TSU_CAPn_CTRL; SRC is fixed for captures 0 and 1, and an edge discarded in this cycle keeps OVF. -/
def writeCapCtrl (s : State) (n : Nat) (v : Nat) : State :=
  let s := if v.testBit 8 then popCap s n else s
  modCap s n fun c =>
    let en := v.testBit 0
    { c with en := en, edge := v / 2 % 4, src := if n < 2 then none else some (v / 8 % 32), icu := v.testBit 10
             ovf := c.ovf && (!v.testBit 9 || overflowNow s c), filt := v / 65536 % 65536, count := if en && !c.en then 0 else c.count }

/-- A write to a TSU register without an event of its own (*TSU register map*): instants and periods only while ARM is 0. -/
def tsuWrite (s : State) (app : Bool) (off : Nat) (v : BitVec 32) : State :=
  let w := v.toNat
  if off = 4 then s.setTsu fun x => { x with stepped := x.stepped && !v.getLsbD 5, accErr := x.accErr && !v.getLsbD 6 }
  else if 0x100 ≤ off ∧ off < 0x300 then
    let n := (off - 0x100) / 0x20
    let r := (off - 0x100) % 0x20
    if r = 0x1C then s
    else if !tsuMay s app n then tsuAccErr s
    else if r = 0 then writeTrigCtrl s n v
    else modTrig s n fun x =>
      if x.arm then x
      else
        let sec := x.at_ / nsS
        let ns := x.at_ % nsS
        match r with
        | 0x4 => { x with frac := w % 65536 }
        | 0x8 => { x with at_ := sec * nsS + w % 2 ^ 30 }
        | 0xC => { x with at_ := (sec / 2 ^ 32 * 2 ^ 32 + w) * nsS + ns }
        | 0x10 => { x with at_ := (w * 2 ^ 32 + sec % 2 ^ 32) * nsS + ns }
        | 0x14 => { x with period := x.period / 2 ^ 32 * 2 ^ 32 + w }
        | 0x18 => { x with period := w % 256 * 2 ^ 32 + x.period % 2 ^ 32 }
        | _ => x
  else if 0x300 ≤ off ∧ off < 0x500 then
    let n := (off - 0x300) / 0x20
    if (off - 0x300) % 0x20 ≠ 0 then s
    else if tsuMay s app (16 + n) then writeCapCtrl s n w else tsuAccErr s
  else s

/-! ## Sources (R413, R415) -/

def sourceOn (s : State) (k : Nat) : Bool := getBit (timCfg s) 2 k

def ptpCandidate (s : State) (p : Nat) : Bool :=
  sourceOn s 0 && getBit (timCfg s) 1 p && (s.tsu.portAt p).master.isSome

/-- Data set comparison: the lower list first. -/
def listLt : List Nat → List Nat → Bool
  | a :: as, b :: bs => decide (a < b) || (a == b && listLt as bs)
  | [], _ :: _ => true
  | _, [] => false

/-- The master of port `p` is strictly better than that of port `q`. -/
def better (s : State) (p q : Nat) : Bool :=
  match (s.tsu.portAt p).master, (s.tsu.portAt q).master with
  | some a, some b => listLt (a.quality ++ [a.gm]) (b.quality ++ [b.gm])
  | some _, none => true
  | none, _ => false

/-- The port a TSU with no PTP source selects. -/
def firstChoice (s : State) : Option Nat :=
  match ptpCandidate s 0, ptpCandidate s 1 with
  | true, true =>
    if better s 0 1 then some 0 else if better s 1 0 then some 1
    else if (s.tsu.portAt 1).delay < (s.tsu.portAt 0).delay then some 1 else some 0
  | true, false => some 0
  | false, true => some 1
  | false, false => none

def portSource (p : Nat) : TimeSource := if p = 0 then .neta else .netb

/-- The source the TSU takes (R413, R421): a selected port stays while it is a candidate and the other's master is not
strictly better; PPS only where no port serves. -/
def chooseSource (s : State) : Option TimeSource :=
  let port : Option Nat :=
    match s.tsu.src.bind srcPort with
    | some p =>
      if ptpCandidate s p then (if ptpCandidate s (1 - p) && better s (1 - p) p then some (1 - p) else some p)
      else firstChoice s
    | none => firstChoice s
  match port with
  | some p => some (portSource p)
  | none => if sourceOn s 1 && s.tsu.src == some .pps then some .pps else none

/-- A move between ports of one grandmaster with agreeing offsets changes no sync state. -/
def smoothMove (s : State) (a b : TimeSource) : Bool :=
  match srcPort a, srcPort b with
  | some p, some q =>
    let x := s.tsu.portAt p
    let y := s.tsu.portAt q
    (x.master.map (·.gm)) == (y.master.map (·.gm)) && x.offsetKnown && y.offsetKnown &&
      decide (absI (x.offset - y.offset) ≤ 200)
  | _, _ => false

def toLocking (x : Tsu) : Tsu := { x with sync := .locking, inLimit := 0, overLimit := 0 }

/-- Takes or loses a source (R415). A lost source ends slewing; HOLDOVER holds the last frequency. Whether a move is smooth is
judged on the ports as `was` had them, before the selected one stopped being a candidate. -/
def setSourceFrom (was s : State) (new : Option TimeSource) : State :=
  let old := s.tsu.src
  if old = new then s
  else s.setTsu fun x =>
    let y := { x with src := new }
    match old, new with
    | _, none =>
      match x.sync with
      | .locked => { y with sync := .holdover, holdT := s.clk, errEst := 0, slew := 0, converging := false }
      | .locking => { y with sync := .freerun, slew := 0, converging := false }
      | _ => y
    | none, some _ => toLocking y
    | some a, some b => if smoothMove was a b then y else toLocking y

def setSource (s : State) (new : Option TimeSource) : State := setSourceFrom s s new

def reselectFrom (was s : State) : State := setSourceFrom was s (chooseSource s)

def reselect (s : State) : State := reselectFrom s s

/-! ## PTP messages (R412 to R414) -/

def ptpTakes (s : State) (port : Nat) : Bool := decide (port < 2) && tsuRuns s && getBit (timCfg s) 1 port && sourceOn s 0

/-- Messages of other domains are counted and ignored. -/
def inDomain (s : State) (port domain : Nat) (f : State → State) : State :=
  if !ptpTakes s port then s
  else if domain ≠ getU (timCfg s) 0 1 then modPtp s port fun x => { x with ignored := x.ignored + 1 }
  else f s

/-- A Sync: the port's offset; the servo runs on it with SERVO_UPDATE. -/
def execSyncMessage (t : Nat) (port domain : Nat) (offset : Int) (s : State) : Out State :=
  .next (inDomain (s.advance t) port domain fun s =>
    if (s.tsu.portAt port).master.isNone then s
    else modPtp s port fun x => { x with offset := offset, offsetKnown := true })

def execAnnounce (t : Nat) (port domain : Nat) (m : Master) (s : State) : Out State :=
  .next (inDomain (s.advance t) port domain fun s =>
    reselect (modPtp s port fun x => { x with master := some m, announceT := s.clk }))

/-- Three Announce intervals of 1 s. -/
def execAnnounceTimeout (t : Nat) (port : Nat) (s : State) : Out State :=
  let s := s.advance t
  .next (if decide (port < 2) && (s.tsu.portAt port).master.isSome && decide ((s.tsu.portAt port).announceT + 3 * nsS ≤ s.clk) then
      reselectFrom s (modPtp s port fun x => { x with master := none, offsetKnown := false })
    else s)

/-- A Pdelay_Req of the neighbour: a one-step Pdelay_Resp whose correctionField carries the turnaround. -/
def execPdelayReq (t : Nat) (port domain turnaround : Nat) (s : State) : Out State :=
  .next (inDomain (s.advance t) port domain fun s =>
    modPtp s port fun x => { x with responses := x.responses + 1, lastCorrection := turnaround })

def execPdelayMeasurement (t : Nat) (port delay : Nat) (s : State) : Out State :=
  let s := s.advance t
  .next (if ptpTakes s port then modPtp s port fun x => { x with delay := delay, pdelays := x.pdelays + 1 } else s)

/-! ## The servo (R415 to R417) -/

/-- No string is in PRECHARGE or REGULATING. -/
def mayStep (s : State) : Bool :=
  (s.str.take s.strings).all fun x => x.state != .precharge && x.state != .regulating

/-- What a step does to trigger `n` (R417). -/
def stepTrigger (s : State) (n : Nat) : State :=
  let x := s.tsu.trigAt n
  let now := s.tsu.now
  if !x.arm then s
  else if x.period = 0 then (if x.at_ ≤ now then fire s n true else s)
  else
    let r := (((now : Int) - x.at_) % x.period).toNat
    modTrig s n fun x => { x with at_ := now + (x.period - r) }

/-- Steps TSU time to `new` ns: counted, STEPPED, recorded with old and new seconds; triggers realign or fire late, and
queued dispatch entries that are passed take effect at once, late. -/
def stepTime (s : State) (new : Nat) : State :=
  let old := s.tsu.now
  let s := s.setTsu fun x =>
    { x with now := new, frac := 0, stepCnt := (x.stepCnt + 1) % 65536, stepped := true, slew := 0, converging := false
             timeLoaded := true }
  let s := groupRecord s gTim srcTsu lvInfo 416 (old / nsS) (new / nsS)
  let s := (List.range 16).foldl stepTrigger s
  s.setDsp fun d => { d with queue := d.queue.map fun (e : DspEntry) => if e.eff ≤ new then { e with late := true } else e }

/-- Removes an offset: by slewing, or in LOCKING beyond step_thr by a step where no string forbids it (R416). -/
def removeOffset (s : State) (offset : Int) : State :=
  let big : Bool := decide ((getU (timCfg s) 16 4 * nsUs : Nat) < absI offset)
  if s.tsu.sync == .locking && big && mayStep s then stepTime s ((s.tsu.now : Int) - offset).toNat
  else s.setTsu fun x => { x with slew := offset, converging := x.sync == .locking && big }

/-- SERVO_UPDATE: an update of the selected source; `offset` is TSU time less the source's. -/
def execServoUpdate (t : Nat) (src : TimeSource) (offset : Int) (s : State) : Out State :=
  let s := s.advance t
  .next (if !tsuRuns s || s.tsu.src != some src then s
    else
      let near : Bool := decide (absI offset ≤ 100)
      let far : Bool := decide (1000 < absI offset)
      let s := (removeOffset s offset).setTsu fun x => { x with timeLoaded := true }
      s.setTsu fun x =>
        match x.sync with
        | .locking =>
          let k := if near then x.inLimit + 1 else 0
          if 16 ≤ k then { x with sync := .locked, inLimit := 0, overLimit := 0, converging := false } else { x with inLimit := k }
        | .locked =>
          let k := if far then x.overLimit + 1 else 0
          if 3 ≤ k then toLocking x else { x with overLimit := k }
        | _ => x)

def execHoldoverExpiry (t : Nat) (s : State) : Out State :=
  let s := s.advance t
  .next (if s.tsu.sync == .holdover && decide (s.tsu.holdT + getU (timCfg s) 20 4 * nsS ≤ s.clk) then
      s.setTsu fun x => { x with sync := .freerun }
    else s)

/-- An edge of PPS_IN, its cable delay subtracted: within 100 ms of a whole second it serves where no PTP source does. -/
def execPpsInEdge (t : Nat) (s : State) : Out State :=
  let s := s.advance t
  .next (if !tsuRuns s || !sourceOn s 1 then s
    else
      let r := (s.tsu.now - getU (timCfg s) 26 2) % nsS
      if 100 * nsMs < min r (nsS - r) then s.setTsu fun x => { x with ppsDiscards := x.ppsDiscards + 1 }
      else if s.tsu.src.isNone then setSource s (some .pps) else s)

/-- Error estimate, ns: what it was at entry and the growth of *Time accuracy*, 1 µs in 60 s and 20 µs in 1 h. -/
def errorEstimate (s : State) : Nat :=
  if s.tsu.sync != .holdover then 0
  else
    let d := s.clk - s.tsu.holdT
    s.tsu.errEst + (if d ≤ 60 * nsS then d * 1000 / (60 * nsS) else 1000 + (d - 60 * nsS) * 19000 / (3540 * nsS))

/-! ## Commands (R426, R427) -/

def syncCode : Sync → Nat | .freerun => 0 | .locking => 1 | .locked => 2 | .holdover => 3
def srcCode : Option TimeSource → Nat | none => 0 | some .neta => 1 | some .netb => 2 | some .pps => 3

def timeBytes (s : State) : Bytes :=
  leU 8 (s.tsu.now / nsS) ++ leU 4 (s.tsu.now % nsS) ++ leU 2 s.tsu.frac ++ leU 1 (syncCode s.tsu.sync) ++ [0] ++
    leU 2 (utcOffset s) ++ leU 2 0

def execTimGetTime (q : Req) (s : State) : Out State := getNone 0x0D01 true timeBytes q s

/-- Per port: offset, delay, whether it holds a master, its grandmaster and quality, and its message counters. -/
def ptpBytes (x : PtpPort) : Bytes :=
  leS 8 x.offset ++ leU 4 x.delay ++ leU 1 x.master.isSome.toNat ++ leU 1 x.offsetKnown.toNat ++ leU 2 0 ++
    leU 8 ((x.master.map (·.gm)).getD 0) ++
    (List.range 4).flatMap (fun k => leU 2 ((((x.master.map (·.quality)).getD []).getD k 0))) ++
    leU 4 x.ignored ++ leU 4 x.pdelays ++ leU 4 x.responses ++ leU 4 0

def timStatus (s : State) : Bytes :=
  let x := s.tsu
  leU 1 (syncCode x.sync) ++ leU 1 (srcCode x.src) ++ leU 2 x.stepCnt ++
    leU 4 (if x.sync == .holdover then (s.clk - x.holdT) / nsS else 0) ++ leU 4 (errorEstimate s) ++
    leU 4 (if x.converging then (absI x.slew).toNat * 25000 / 1000000000 else 0) ++ leU 4 x.ppsDiscards ++ leU 4 0 ++
    x.ports.flatMap ptpBytes

def execTimGetStatus (q : Req) (s : State) : Out State := getNone 0x0D02 true timStatus q s

/-- A change of domain or ports drops the masters they gave; sources are chosen anew. -/
def storeTim (was : State) (p : Bytes) : State :=
  let s := was
  let old := timCfg s
  let drop := getU old 0 1 != getU p 0 1
  let s := s.setTsu fun x =>
    { x with cfg := p, ports := x.ports.mapIdx fun k (y : PtpPort) =>
        if drop || !getBit p 1 k then { y with master := none, offsetKnown := false } else y }
  reselectFrom was s

def execTimSetConfig (q : Req) (s : State) : Out State :=
  command { op := 0x0D03, len := lenIs 32, roles := .all, v := true, arg := fun _ q => badField timFields q.payload }
    (fun s q => ok (storeTim s q.payload) 0x0D03 q []) q s

def execTimGetConfig (q : Req) (s : State) : Out State := getNone 0x0D04 true timCfg q s

/-- The first string that forbids a step. -/
def stepConflict (s : State) : Option Nat :=
  ((List.range s.strings).find? fun i => (s.strAt i).state == .precharge || (s.strAt i).state == .regulating).map (conflictStr s)

def execTimSetTime (q : Req) (s : State) : Out State :=
  command
    { op := 0x0D05, len := lenIs 12, roles := .all
      state := fun s _ =>
        if s.tsu.sync != .freerun ∨ getU (timCfg s) 2 1 ≠ 0 then some (conflictObj (syncCode s.tsu.sync)) else stepConflict s
      arg := fun _ q => must (decide (getU q.payload 8 4 < nsS)) 8 }
    (fun s q => ok (stepTime s (instantAt q.payload 0)) 0x0D05 q []) q s

/-- A user trigger or capture that APP does not hold. -/
def notDelegated (s : State) (bit : Nat) : Option Nat := if s.tsu.own.getLsbD bit then some (conflictObj bit) else none

def userTrigger (p : Bytes) : Option Nat := must (decide (8 ≤ getU p 0 1) && decide (getU p 0 1 < 16)) 0

def execTimSetTrigger (q : Req) (s : State) : Out State :=
  command
    { op := 0x0D06, len := lenIs 28, roles := .all, h := false
      state := fun s q => if (userTrigger q.payload).isSome then none else notDelegated s (getU q.payload 0 1)
      arg := fun _ q =>
        let p := q.payload
        firstBad [userTrigger p, must (decide (getU p 1 1 < 16)) 1, zeroAt p 2 2, must (decide (getU p 12 4 < nsS)) 12,
          zeroAt p 18 2, must (decide (getU p 20 8 < 2 ^ 40)) 20] }
    (fun s q =>
      let p := q.payload
      let n := getU p 0 1
      let s := modTrig s n fun x => { x with arm := false, at_ := instantAt p 4, frac := getU p 16 2, period := getU p 20 8 }
      ok (writeTrigCtrl s n (BitVec.ofNat 32 (getU p 1 1))) 0x0D06 q []) q s

def trigBytes (s : State) (n : Nat) : Bytes :=
  let x := s.tsu.trigAt n
  leU 1 n ++ leU 1 (bitsToNat [x.arm, x.late, x.icu, x.le]) ++ leU 2 0 ++ leU 8 (x.at_ / nsS) ++ leU 4 (x.at_ % nsS) ++
    leU 2 x.frac ++ leU 2 0 ++ leU 8 x.period ++ leU 4 x.count

def execTimGetTrigger (q : Req) (s : State) : Out State :=
  command { op := 0x0D07, len := lenIs 1, roles := .all, arg := fun _ q => userTrigger q.payload }
    (fun s q => ok s 0x0D07 q (trigBytes s (getU q.payload 0 1))) q s

def execTimSetCapture (q : Req) (s : State) : Out State :=
  let user (p : Bytes) : Option Nat := must (decide (2 ≤ getU p 0 1) && decide (getU p 0 1 < 16)) 0
  command
    { op := 0x0D08, len := lenIs 8, roles := .all, h := false
      state := fun s q => if (user q.payload).isSome then none else notDelegated s (16 + getU q.payload 0 1)
      arg := fun _ q =>
        let v := getU q.payload 4 4
        firstBad [user q.payload, zeroAt q.payload 1 1, zeroAt q.payload 2 2,
          must (v / 2 % 4 != 0 && decide (v / 8 % 32 ≤ 29) && !v.testBit 14 && !v.testBit 15) 4] }
    (fun s q => ok (writeCapCtrl s (getU q.payload 0 1) (getU q.payload 4 4)) 0x0D08 q []) q s

def capBytes (e : CapEntry) : Bytes := leU 8 (e.time / nsS) ++ leU 4 (e.time % nsS) ++ leU 2 e.frac ++ leU 2 e.steps

def execTimReadCapture (q : Req) (s : State) : Out State :=
  let cap (p : Bytes) : Option Nat := must (decide (getU p 0 1 < 16)) 0
  command
    { op := 0x0D09, len := lenIs 2, roles := .all
      state := fun s q => if (cap q.payload).isSome then none else notDelegated s (16 + getU q.payload 0 1)
      arg := fun _ q => firstBad [cap q.payload, must (decide (1 ≤ getU q.payload 1 1) && decide (getU q.payload 1 1 ≤ 4)) 1] }
    (fun s q =>
      let n := getU q.payload 0 1
      let k := getU q.payload 1 1
      let out := ((s.tsu.capAt n).fifo.take k).flatMap capBytes
      ok (modCap s n fun c => { c with fifo := c.fifo.drop k }) 0x0D09 q out) q s

/-- Resources a delegation names: bits 8 to 15 of triggers and 2 to 15 of captures, as bits of TSU_OWN. -/
def delegMask (p : Bytes) : BitVec 32 := BitVec.ofNat 32 (getU p 0 2 + getU p 2 2 * 65536)

def busyResource (s : State) (m : BitVec 32) : Option Nat :=
  (List.range 32).find? fun b =>
    m.getLsbD b && (if b < 16 then (s.tsu.trigAt b).arm else (s.tsu.capAt (b - 16)).en)

def execTimDelegate (q : Req) (s : State) : Out State :=
  command
    { op := 0x0D0A, len := lenIs 5, roles := .all, h := false, noApp := true
      state := fun s q => (busyResource s (delegMask q.payload)).map conflictObj
      arg := fun _ q =>
        firstBad [must (getU q.payload 0 2 % 256 == 0) 0, must (getU q.payload 2 2 % 4 == 0) 2,
          must (decide (getU q.payload 4 1 ≤ 1)) 4] }
    (fun s q =>
      let m := delegMask q.payload
      let give := getU q.payload 4 1 == 1
      let s := s.setTsu fun x => { x with own := if give then x.own ||| m else x.own &&& ~~~ m }
      let s := (List.range 32).foldl (fun s b => if m.getLsbD b then retarget s (32 + b) (if give then .app else .sup) else s) s
      ok s 0x0D0A q []) q s

end Sys2Proof.Machine
end

