-- ==== Sys2Proof/Machine/Update.lean ====
section
/-! DEFINITION. Firmware and configuration update: arrival, verification, activation, trial, fallback and recovery, and the
distribution of delta images (19_update.md R512 to R537). -/

namespace Sys2Proof.Machine

/-! ## Parts (R512) -/

/-- The class of a part; none for a code that names no part. -/
def partClass : Nat → Option Nat
  | 1 | 2 | 3 => some 0
  | 5 | 6 | 7 => some 1
  | 8 | 9 | 0xA | 0x10 => some 2
  | _ => none

/-- The largest image of a part. -/
def partMax : Nat → Nat
  | 1 => 32 * 1048576 | 2 => 2 * 1048576 | 3 => 120 * 1048576 | 5 => 1048576 | 6 | 7 => 65536
  | 8 => 8500 | 9 => 616 | 0xA => 128 * 64 | 0x10 => 1024 | _ => 0

/-- Size of a transfer area (R517). -/
def areaSize (t : Nat) : Nat := if t = 0 then 256 * 1048576 else 16 * 1048576

/-! ## Integrity checks (R520) -/

/-- Every byte of `b` is 0. -/
def allZero (b : Bytes) : Bool := b.all (· == 0)

/-- Check 1: magic, format, class, part and reserved fields, and the lengths of *Container header*. -/
def headerOk (t : Nat) (x : Xfer) : Bool :=
  let delta := x.cls == 1
  x.u 0 4 == 0x5A524542 && x.u 4 2 == 1 && partClass x.part == some x.cls && decide (x.u 8 1 < 4) && decide (x.u 9 1 ≤ 3) &&
    decide (x.u 10 2 < 4) && decide (x.u 14 1 ≤ 8) && x.u 15 1 == 0 && decide (x.u 20 4 ≤ 255) && x.u 24 4 != 0 &&
    x.count == (x.u 24 4 + 4095) / 4096 && (delta || allZero (slice x.header 40 52)) &&
    decide (x.u 140 4 ≤ partMax x.part) && decide (4096 + 4112 * x.count ≤ areaSize t) &&
    (List.range 8).all (fun k =>
      if k < x.u 14 1 then x.u (185 + 8 * k) 1 == 0 && x.u (190 + 8 * k) 2 == 0 else allZero (slice x.header (184 + 8 * k) 8)) &&
    allZero (slice x.header 3661 435)

/-- Checks 2 to 6, as their own details. -/
def signedBad (s : State) (x : Xfer) : Option Nat :=
  let signed := slice x.header 0 256
  let k := x.u 9 1
  if !Config.ecdsaOk k signed (slice x.header 256 96) then some 2
  else if !Config.mldsaOk k signed (slice x.header 352 3309) then some 3
  else if s.upd.revoked.getLsbD k then some 4
  else if x.u 20 4 < s.upd.floor then some 5
  else if !(x.u 8 1).testBit (match s.variant with | .kzv4096 => 0 | .kzv1024 => 1) then some 6
  else none

/-- The records of a loop descriptor set. -/
def descRecords (b : Bytes) : List Bytes := (List.range (b.length / 64)).map fun k => slice b (64 * k) 64

/-- Check 10: magic, CRC and if_level of direct-class records. -/
def innerOk (s : State) (x : Xfer) (b : Bytes) : Bool :=
  let level := x.u 12 2
  match x.part with
  | 8 => modelOk b && getU b 6 2 == level
  | 9 => b.length == 616 && getU b 0 4 == 0x524F4354 && getU b 4 2 == 1 && getU b 8 4 == 616 && getU b 612 4 == crc32c (b.take 612) &&
      getU b 6 2 == level
  | 0xA => b.length % 64 == 0 && (descRecords b).all fun r => getU r 60 4 == crc32c (r.take 60) && getU r 2 2 == level
  | 0x10 => b.length == 1024 && (setBad s b).isNone && getU b 6 2 == level
  | _ => true

/-- The first failing check but the last (R520); the digests are SHA-384, 48 bytes. -/
def verifyBad (s : State) (t : Nat) : Option Nat :=
  let x := s.xferAt t
  if !headerOk t x then some 1
  else match signedBad s x with
    | some d => some d
    | none =>
      match x.payload with
      | none => some 7
      | some p =>
        if x.cls = 1 ∧ Config.sha384 (baseOf s x.part) ≠ slice x.header 44 48 then some 8
        else match resultOf s x with
          | none => some 9
          | some b =>
            if b.length ≠ x.u 140 4 ∨ Config.sha384 b ≠ slice x.header 92 48 then some 9
            else if innerOk s x p then none else some 10

/-! ## Compatibility (R516) -/

/-- The if_levels of the images of part `p` in force on this unit. -/
def levelsOf (s : State) (p : Nat) : List Nat :=
  match p with
  | 1 | 2 | 3 => [(s.partAt p).inForce.ifLevel]
  | 5 | 6 | 7 => [(tblGet (({} : BankImage), []) (storeKey p 0) s.upd.store).1.ifLevel]
  | 8 => (s.cee.model.filter fun b => !b.isEmpty).map fun b => getU b 6 2
  | 9 => (s.cee.core.filter fun b => !b.isEmpty).map fun b => getU b 6 2
  | 0xA => (s.le.slot.filter fun x => !x.desc.isEmpty).map fun x => getU x.desc 2 2
  | 0x10 => match s.saf.sp.set with | none => [] | some b => [getU b 6 2]
  | _ => []

/-- Every level named by an entry lies in its range; a part with no image in force meets it. -/
def entryMet (levels : List Nat) (lo hi : Nat) : Bool := levels.all fun l => decide (lo ≤ l ∧ l ≤ hi)

/-- The partner's if_level of part `p`, and the range its image accepts of this unit's. -/
def partnerLevel (s : State) (p : Nat) : Option (Nat × Nat × Nat) :=
  (s.red.partnerLevels.find? fun e => e.1 = p).map (·.2)

/-- Entries of the images in force, with the part that holds each. -/
def entriesInForce (s : State) : List (Nat × Nat × Nat × Nat) :=
  ([1, 2, 3].flatMap fun p => (s.partAt p).inForce.reqs.map fun r => (p, r)) ++
    s.upd.store.flatMap fun e => e.2.1.reqs.map fun r => (e.1 / 16, r)

/-- The container of `x` is compatible (R516). -/
def compatible (s : State) (x : Xfer) : Bool :=
  let level := x.u 12 2
  let partner := partnerLevel s x.part
  (x.reqs.all fun (p, lo, hi) =>
    if p = x.part then entryMet (partner.toList.map (·.1)) lo hi else entryMet (levelsOf s p) lo hi) &&
  ((entriesInForce s).all fun (owner, p, lo, hi) => owner == x.part || p != x.part || entryMet [level] lo hi) &&
  (match partner with | none => true | some (_, lo, hi) => entryMet [level] lo hi)

/-! ## Arrival (R519) -/

/-- Chunks that overlap a 64 KiB sector that chunk `k` overlaps. -/
def sectorMates (k j : Nat) : Bool :=
  let a := (4096 + 4112 * k) / 65536
  let b := (4096 + 4112 * k + 4111) / 65536
  decide ((4096 + 4112 * j) / 65536 ≤ b ∧ a ≤ (4096 + 4112 * j + 4111) / 65536)

/-- A resumed transfer: sectors of chunks programmed with their bit clear are erased, and the bits of every chunk that
overlaps them cleared. -/
def resumed (x : Xfer) : Xfer :=
  let bad := (x.chunks.map (·.1)).filter fun k => !x.got.contains k
  let gone (j : Nat) : Bool := bad.any fun k => sectorMates k j
  { x with got := x.got.filter (fun j => !gone j), flushed := x.flushed.filter (fun j => !gone j)
           chunks := x.chunks.filter fun e => !gone e.1 }

/-- The parts a unit takes in RECOVERY: staging class alone (R530). -/
def classConflict (s : State) (cls : Nat) : Option Nat := if s.unit == .recovery && cls != 0 then some (conflictUnit s) else none

/-- UPD_BEGIN (R519). -/
def beginXfer (s : State) (q : Req) : State :=
  let d := getU q.payload 0 2
  let t := getU q.payload 2 1
  let hdr := bufRead s d 4096
  let x : Xfer := { header := hdr }
  let old := s.xferAt t
  let bad := if !headerOk t x then some 1 else signedBad s x
  match bad with
  | some n => finish1 s 0x1102 q stIntegrity n []
  | none =>
    let keep : Bool := getU q.payload 3 1 == 1 && !old.header.isEmpty && old.imageId == x.imageId
    let x := if keep then resumed { old with header := hdr } else x
    let done : Bool := x.got.length == x.count
    ok (s.modXfer t fun _ => { x with state := if done then .complete else .receiving }) 0x1102 q []

def beginHeader (s : State) (q : Req) : Xfer := { header := bufRead s (getU q.payload 0 2) 4096 }

def execUpdBegin (q : Req) (s : State) : Out State :=
  let t := getU q.payload 2 1
  let sent (s : State) (q : Req) : Bool := descOk s q (getU q.payload 0 2) 4096
  command
    { op := 0x1102, len := lenIs 4, roles := .all, v := true
      state := fun s q =>
        if t < 5 ∧ (s.xferAt t).state = .activating then some (conflictObj t)
        else if sent s q then classConflict s (beginHeader s q).cls else none
      arg := fun s q => firstBad [must (getU q.payload 0 2 != noDesc) 0,
        must (decide (t ≤ 4) && (!sent s q || (t == 0) == ((beginHeader s q).cls == 0))) 2, must (decide (getU q.payload 3 1 ≤ 1)) 3]
      desc := fun _ q => descAt q 0 4096 }
    beginXfer q s

/-- Takes the chunks of an UPD_CHUNK from position `pos` on, `n` of them: the transfer, and status and detail of the chunk
it stopped at. -/
def takeChunks (buf : Bytes) (first : Nat) : Nat → Nat → Xfer → Xfer × Option (Nat × Nat)
  | _, 0, x => (x, none)
  | pos, n + 1, x =>
    let k := first + pos
    let c := slice buf (8 + 4112 * pos) 4112
    if x.got.contains k then takeChunks buf first (pos + 1) n { x with duplicates := x.duplicates + 1 }
    else if (Config.gcmOpen x.key k c).isNone then (x, some (stIntegrity, 0x8000 + pos))
    else if tblGet c k x.chunks ≠ c then (x, some (stFailed, 1))
    else takeChunks buf first (pos + 1) n { x with got := k :: x.got, chunks := tblSet k c x.chunks }

/-- UPD_CHUNK (R519). The buffer's fields are checked once the descriptor is the sender's. -/
def execUpdChunk (q : Req) (s : State) : Out State :=
  let d := getU q.payload 0 2
  let len := getU q.payload 4 4
  let buf (s : State) : Bytes := bufRead s d (min len (8 + 255 * 4112))
  let sent (s : State) (q : Req) : Bool := descOk s q d len
  command
    { op := 0x1103, len := lenIs 8, roles := .all, v := true
      state := fun s q =>
        let t := getU (buf s) 0 1
        if sent s q && decide (t < 5) then
          (match (s.xferAt t).state with
            | .receiving | .complete => none
            | _ => some (conflictObj t))
        else none
      arg := fun s q =>
        let b := buf s
        let x := s.xferAt (getU b 0 1)
        firstBad [must (getU q.payload 0 2 != noDesc) 0, zeroAt q.payload 2 2,
          if sent s q then firstBad [inBuf (must (decide (getU b 0 1 ≤ 4)) 0), inBuf (zeroAt b 1 1),
              inBuf (must (decide (1 ≤ getU b 2 2 ∧ getU b 2 2 ≤ 255)) 2), inBuf (must (decide (getU b 4 4 + getU b 2 2 ≤ x.count)) 4),
              must (len == 8 + 4112 * getU b 2 2) 4]
          else none]
      desc := fun _ q => descAt q 0 len }
    (fun s q =>
      let b := buf s
      let t := getU b 0 1
      let (x, stop) := takeChunks b (getU b 4 4) 0 (getU b 2 2) (s.xferAt t)
      let s := s.modXfer t fun _ => { x with state := if x.got.length = x.count then .complete else x.state }
      match stop with
      | none => ok s 0x1103 q []
      | some (st, n) => finish1 s 0x1103 q st n []) q s

/-- Received-chunk bits are flushed to MRAM every 1 s, guarded under R40 (R518). -/
def execChunkFlush (t : Nat) (s : State) : Out State :=
  let s := s.advance t
  .next (if decide (s.upd.flushT + nsS ≤ s.clk) && (s.unit.isRole || s.unit == .safeHold || s.unit == .recovery) then flushUpdate s else s)

/-! ## Verification (R520, R521) -/

/-- The slot that a VERIFIED staging container goes to is erased. On the KZV-1024 it is the slot of the image in force, which
runs on from memory. -/
def eraseTarget (s : State) (p : Nat) : State :=
  let b := targetBank s p
  s.modPart p fun x => match s.variant with
    | .kzv4096 => x.setBank b {}
    | .kzv1024 => x.setBank b { x.bankA with present := false, valid := false }

def execUpdVerify (q : Req) (s : State) : Out State :=
  let t := getU q.payload 0 1
  command
    { op := 0x1105, len := lenIs 1, roles := .all, v := true
      state := fun s _ => if t < 5 ∧ (s.xferAt t).state ≠ .complete then some (conflictObj t) else none
      arg := fun _ _ => must (decide (t ≤ 4)) 0 }
    (fun s q =>
      match verifyBad s t with
      | some d =>
        finish1 (s.modXfer t fun x => { x with state := .receiving, got := [], flushed := [] }) 0x1105 q stIntegrity d []
      | none =>
        let x := s.xferAt t
        let fit := compatible s x
        let s := s.modXfer t fun x => { x with state := if x.cls = 0 then .verified else .ready }
        let s := if x.cls = 0 then eraseTarget s x.part else s
        if fit then ok s 0x1105 q [] else finish1 s 0x1105 q stIntegrity 11 []) q s

/-- The target slot is erased (R521). -/
def execPreEraseComplete (t : Nat) (s : State) : Out State :=
  let s := s.advance t
  .next (s.modXfer 0 fun x => if x.state = .verified then { x with state := .ready } else x)

/-! ## Conditions of an activation (R522, R524, R534, R535) -/

/-- No string that uses model slot `n` is in PRECHARGE, CONNECTED or REGULATING (R135). -/
def slotIdle (s : State) (n : Nat) : Bool :=
  (List.range s.strings).all fun i => modelSlot s i != n || !strConnected s i

/-- A loop descriptor set loads whole: each record is legal where it stands in the sequence (R535). -/
def loadDescs (s : State) : List Bytes → Option State
  | [] => some s
  | b :: bs =>
    let n := getU b 4 1
    if (slotPop s n 4).isSome || (slotConflict s n).isSome || (descBad s b).isSome then none
    else loadDescs (s.modLoop n fun x => { clearHistory x with desc := b }) bs

/-- The drivers an activation of driver configuration serves, in ascending order: GX-2 of the strings, or CX-4 of the
buses, in the mask (R534). -/
def driverOrder (s : State) (p mask : Nat) : List Nat :=
  if p = 6 then (List.range s.phases).filter fun k => mask.testBit (k / 4)
  else (List.range s.strings).filter fun i => mask.testBit (i / 4)

/-- The part's own conditions. -/
def partReady (s : State) (x : Xfer) (target : Nat) : Bool :=
  let b := (x.payload).getD []
  match x.part with
  | 2 => noPrecharge s && s.saf.cont.all (fun c => c.request.isNone) && s.saf.sp.staged.isNone && s.saf.sloe.staged.isNone &&
      !s.saf.activationPending
  | 5 => !(fwOrder s target).isEmpty
  | 8 => slotIdle s target
  | 9 => slotIdle s target && coreOk s target b
  | 0xA => (loadDescs s (descRecords b)).isSome
  | _ => true

/-- The target byte names something: a slot, or a mask within the population. -/
def targetOk (s : State) (p target : Nat) : Bool :=
  match p with
  | 5 | 6 => target != 0 && decide (target < 2 ^ s.strings)
  | 7 => target != 0 && decide (target < 2 ^ ((s.strings + 3) / 4))
  | 8 | 9 => decide (target < 4)
  | _ => true

/-- An image of the banks is on trial. -/
def onTrial (s : State) : Bool := s.upd.sup.trial || s.upd.sp.trial || s.upd.app.trial

/-- The new SUP adopts the handover format of the SUP in force (R522, R523). -/
def formatOk (s : State) (x : Xfer) : Bool :=
  let now := s.upd.sup.inForce.ifLevel
  match x.reqs.find? fun r => r.1 = 1 with
  | some (_, lo, hi) => decide (lo ≤ now ∧ now ≤ hi)
  | none => now == x.u 12 2

/-- UPD_ACTIVATE is rejected (R522). In RECOVERY no image runs that a container could conflict with, but compatibility
holds there as well. -/
def activateConflict (s : State) (t target : Nat) : Bool :=
  let x := s.xferAt t
  x.state != .ready || !compatible s x ||
    (s.unit != .recovery && (s.upd.act.isSome || onTrial s || !partReady s x target ||
      (x.cls == 0 && s.unit == .active) || (s.red.present && s.red.beat.flags.testBit 4) || (x.part == 1 && !formatOk s x)))

/-! ## Taking effect (R523 to R525, R530, R535) -/

/-- A model table goes into slot `n` (R135); another model_id restarts the filters and withdraws the core temperature table
(06_impedance_thermal.md R172). -/
def loadModel (s : State) (n : Nat) (b : Bytes) : State :=
  let same : Bool := mtId (s.cee.model.getD n []) == mtId b && !(s.cee.model.getD n []).isEmpty
  let users := (List.range s.strings).filter fun i => modelSlot s i == n
  s.setCee fun c =>
    { c with
      model := c.model.set n b
      core := if same then c.core else c.core.set n []
      cells := if same then c.cells else c.cells.map fun e =>
        if users.contains (e.1 / 512) then (e.1, { e.2 with started := false }) else e }

/-- A direct-class item takes effect (R535). -/
def applyDirect (s : State) (x : Xfer) (target : Nat) : State :=
  let b := (x.payload).getD []
  match x.part with
  | 8 => storeImage (loadModel s target b) x target
  | 9 => storeImage (s.setCee fun c => { c with core := c.core.set target b }) x target
  | 0xA => retier ((loadDescs s (descRecords b)).getD s)
  | _ => stageSet s b

/-- The SUP handover begins (R523). -/
def startHandover (s : State) (a : Activation) : State :=
  let s := s.setHpr fun h => { h with handover := true }
  s.setUpd fun u => { u with act := some a, handoverT := s.clk }

/-- SP restarts and Sloe holds protection alone (R524). -/
def startSp (s : State) (a : Activation) : State :=
  let s := s.modChan .sp fun c => { c with alive := false }
  let s := s.modChan .sloe fun c => { c with singleUntil := some (s.clk + 300 * nsMs) }
  s.setUpd fun u => { u with act := some a }

/-- In RECOVERY the ROM copies the image into the slot whose image failed, or bank A on the KZV-1024, and the unit passes to
BOOT (R530). -/
def recoverImage (s : State) (t : Nat) : State :=
  let x := s.xferAt t
  let p := s.partAt x.part
  let b := match s.variant with
    | .kzv1024 => 0
    | .kzv4096 => if imageOk s p.inForce then 1 - p.active else p.active
  s.modXfer t (fun _ => {}) |>.modPart x.part fun p => { (p.setBank b x.image) with active := b, trial := false }

/-- UPD_ACTIVATE past its checks. -/
def activate (s : State) (q : Req) : State :=
  let t := getU q.payload 0 1
  let flags := getU q.payload 1 1
  let target := getU q.payload 2 1
  let dwell := if getU q.payload 3 1 = 0 then 5 else getU q.payload 3 1
  let x := s.xferAt t
  match verifyBad s t with
  | some d => finish1 s 0x1106 q stIntegrity d []
  | none =>
    if s.unit == .recovery then enterBoot (ok (recoverImage s t) 0x1106 q []) 4
    else
      let e : Exec := { req := q, opcode := 0x1106 }
      let a : Activation := { transfer := t, part := x.part, flags := flags, target := target, dwell := dwell, stage := 1
                              count := 0, t0 := s.clk, req := some e }
      let begun := (keepExec s 0x1106 q).modXfer t fun x => { x with state := .activating }
      match x.part with
      | 1 => startHandover begun a
      | 2 => startSp begun a
      | 3 =>
        let s := begun.setUpd fun u => { u with act := some a }
        actDone (appRestart (startTrial s a) 5) stOk 0
      | 5 | 6 | 7 =>
        let s := begun.setUpd fun u => { u with act := some a }
        if x.part != 5 && (driverOrder s x.part target).isEmpty then distributed s a else s
      | _ => ok (applyDirect s x target) 0x1106 q []

def execUpdActivate (q : Req) (s : State) : Out State :=
  let t := getU q.payload 0 1
  command
    { op := 0x1106, len := lenIs 4, roles := .all, h := false, v := true, noApp := true
      state := fun s _ => if t < 5 ∧ activateConflict s t (getU q.payload 2 1) then some (conflictObj (s.xferAt t).part) else none
      arg := fun s _ => firstBad [must (decide (t ≤ 4)) 0, must (decide (getU q.payload 1 1 ≤ 3)) 1,
        must (targetOk s (s.xferAt t).part (getU q.payload 2 1)) 2, must (decide (getU q.payload 3 1 ≤ 9)) 3] }
    activate q s

/-! ## Recovery (R528) -/

/-- A runnable image of part `p` remains: in its active or fallback bank, or running while its slot waits for a container
on the KZV-1024. -/
def runnable (s : State) (p : Nat) : Bool :=
  let x := s.partAt p
  let waits : Bool := (s.xferAt 0).part == p &&
    (match (s.xferAt 0).state with | .verified | .ready | .activating => true | _ => false)
  imageOk s x.inForce ||
    match s.variant with
    | .kzv4096 => imageOk s (x.bank (1 - x.active))
    | .kzv1024 => waits && !x.trial && !x.bankA.present

/-- RECOVERY: contactors open, PM outputs off, no beats, no activation or trial (01_system.md R22). -/
def enterRecovery (s : State) (cause : Nat) : State :=
  let s := (List.range s.strings).foldl (fun s i => abortTrans (openCoils (gateOffString (haltStr s i cause) i) i) i) s
  let s := actDone s stFailed 1
  let s := s.setUpd fun u => { u with recT := none, sup := { u.sup with trial := false }, sp := { u.sp with trial := false } }
  let s := s.setHpr fun h => { h with handover := false }
  setUnit (s.setRed fun r => { r with beatsOn := false }) .recovery cause

/-- The unit goes to RECOVERY (R528): at once where the partner takes over or no string is commanded from here; else the
strings ramp to zero first. -/
def toRecovery (s : State) : State :=
  if !s.unit.commands || (s.unit == .active && partnerReady s) then enterRecovery s 528
  else if s.upd.recT.isSome then s
  else
    let s := (List.range s.strings).foldl (fun s i =>
      if (s.strAt i).state == .regulating then startRamp s i .isolated else s) s
    s.setUpd fun u => { u with recT := some s.clk }

/-- RECOVERY_ENTRY: no runnable image of SUP or SP remains; 60 ms after the ramps began the strings are disconnected. -/
def execRecoveryEntry (t : Nat) (s : State) : Out State :=
  let s := s.advance t
  .next (if !s.unit.isRole then s
    else match s.upd.recT with
      | some t0 => if t0 + 60 * nsMs ≤ s.clk then enterRecovery (disconnectAll s 528) 528 else s
      | none => if runnable s 1 && runnable s 2 then s else toRecovery s)

/-- No image of part `p` is left to run: SUP and SP go to RECOVERY, APP stays stopped (R528). -/
def noImage (s : State) (p : Nat) : State :=
  let x := s.partAt p
  let s := s.modPart p fun x => { (x.setBank x.active { x.inForce with valid := false }) with trial := false }
  let s := groupRecord (s.modXfer x.transfer fun y => { y with state := .verified }) gUpd srcSup lvErr 528 p x.inForce.version
  if p = 3 then s.setApp fun a => { a with run := 2 } else toRecovery s

/-! ## Trial and fallback (R526, R527) -/

/-- The fallback image may start. -/
def fallbackOk (s : State) (p : Nat) : Bool :=
  s.variant == .kzv4096 && imageOk s ((s.partAt p).bank (1 - (s.partAt p).active))

/-- The image on trial of part `p` falls back: SUP through a handover, unless it is restarting already, SP through R524, APP
through its restart. -/
def fallBack (s : State) (p : Nat) : State :=
  if !fallbackOk s p then noImage s p
  else
    let x := s.partAt p
    let a : Activation := { transfer := x.transfer, part := p, flags := 0, target := 0, dwell := x.dwell, stage := 2, count := 0
                            t0 := s.clk, req := none }
    match p with
    | 1 => if s.pwr.supLost then fellBack s 1 else startHandover s a
    | 2 => startSp s a
    | _ => let s := fellBack s 3; if s.unit.isRole then appRestart s 5 else s

/-- The new SUP adopts the handover and clears HANDOVER (R523); one that is not adopted, or comes after the window, is a
window exceeded: PMU restarts SUP from the fallback bank, or the KZV-1024 goes to RECOVERY. -/
def windowExceeded (s : State) (a : Activation) : State :=
  let s := s.setHpr fun h => { h with handover := false }
  let s := s.modXfer a.transfer fun x => { x with state := .verified }
  match s.variant with
  | .kzv1024 => enterRecovery (actDone s stFailed 1) 523
  | .kzv4096 =>
    let s := if a.stage = 2 then fellBack s 1
      else s.modPart 1 fun p => p.setBank (1 - p.active) { (s.xferAt a.transfer).image with valid := false }
    loseSup (actDone s stFailed 1)

def execSupHandoverAdopt (t : Nat) (good : Bool) (s : State) : Out State :=
  let s := s.advance t
  .next (match s.upd.act with
    | some a =>
      if a.part != 1 || !s.hpr.handover then s
      else if !good || decide (s.upd.handoverT + 2 * nsS < s.clk) then windowExceeded s a
      else
        let s := s.setHpr fun h => { h with handover := false }
        actDone (if a.stage = 2 then fellBack s 1 else startTrial s a) stOk 0
    | none => s)

def execHandoverWindowExceeded (t : Nat) (s : State) : Out State :=
  let s := s.advance t
  .next (match s.upd.act with
    | some a => if a.part == 1 && s.hpr.handover && decide (s.upd.handoverT + 2 * nsS ≤ s.clk) then windowExceeded s a else s
    | none => s)

/-- SP is not back by 300 ms (R524): the silent-partner rule opens every connected string, and the SP image falls back. -/
def execSpActivationTimeout (t : Nat) (s : State) : Out State :=
  let s := s.advance t
  .next (match s.upd.act, s.saf.sloe.singleUntil with
    | some a, some e =>
      if a.part != 2 || s.saf.sp.alive || s.clk < e then s
      else
        let s := (List.range s.strings).foldl (fun s i => haltStr s i 285) s
        let s := s.modChan .sloe fun c => { c with singleUntil := none }
        let s := s.modXfer a.transfer fun x => { x with state := .verified }
        if a.stage = 1 ∧ s.variant = .kzv4096 then
          let s := s.modPart 2 fun p => p.setBank (1 - p.active) { (s.xferAt a.transfer).image with valid := false }
          let s := groupRecord s gUpd srcSup lvErr 527 2 0
          if imageOk s s.upd.sp.inForce then actDone (s.modChan .sp fun c => { c with alive := true, crossT := s.clk }) stFailed 1
          else toRecovery (actDone s stFailed 1)
        else toRecovery (actDone s stFailed 1)
    | _, _ => s)

/-- Every string holds what it held at the activation, or was moved only by a command or trip (R526). -/
def stringsHeld (s : State) : Bool :=
  (s.str.take s.strings).all fun x => match x.strayT with | none => true | some t => decide (t + trialWindow ≤ s.upd.sup.deadline)

/-- *Health criteria* (R526). -/
def healthy (s : State) (p : Nat) : Bool :=
  match p with
  | 1 => !s.pwr.supLost && !s.clockLost .sys && stringsHeld s && (!s.red.present || (!s.red.peerDown && s.unit != .resync))
  | 2 => chanRuns s .sp && decide (s.clk ≤ s.saf.sp.crossT + 2 * nsMs) && (s.saf.sp.str.all fun x => !x.discrepancy) &&
      s.saf.sp.set.isSome && !s.unitOut uSp
  | _ => appRuns s && s.app.cause != 1 && s.app.cause != 3 && s.app.cause != 4 && s.app.wdMs != 0 &&
      decide (s.clk < s.app.wdT + s.app.wdMs * nsMs)

/-- The image of part `p` is confirmed: floor and revocation (R515, R529), its transfer EMPTY, and the swap asked for. A unit
that is not in the ACTIVE role asks the partner for it with a SWAP message (log entry 60). -/
def confirm (s : State) (p : Nat) : State :=
  let x := s.partAt p
  let i := x.inForce
  let s := s.modPart p fun x => { x with trial := false }
  let s := s.setUpd fun u =>
    { u with
      floor := if i.flags.testBit 0 then max u.floor i.svn else u.floor
      revoked := if i.flags.testBit 1 then u.revoked ||| BitVec.ofNat 4 (2 ^ i.keySet - 1) else u.revoked }
  let s := s.modXfer x.transfer fun _ => {}
  if !x.swapOn then s
  else if s.unit == .active then (if swapAllowed s && s.red.swapAt.isNone then requestSwap s else s)
  else if s.unit == .standby then peerSend s 8 else s

/-- TRIAL_CONFIRMATION looks at the criteria; a break starts the dwell anew. -/
def execTrialConfirmation (t : Nat) (part : Nat) (s : State) : Out State :=
  let s := s.advance t
  let x := s.partAt part
  .next (if part < 1 || 3 < part || !x.trial || s.hpr.handover || decide (x.deadline ≤ s.clk) then s
    else
      let good := healthy s part
      let s := s.modPart part fun x => { x with okSince := track s good x.okSince }
      if good && heldFor s x.okSince (x.dwell * 60 * nsS) && (!x.needHost || x.confirmed) then confirm s part else s)

def execTrialWindowExpiry (t : Nat) (part : Nat) (s : State) : Out State :=
  let s := s.advance t
  let x := s.partAt part
  .next (if part < 1 || 3 < part || !x.trial || s.upd.act.isSome || decide (s.clk < x.deadline) then s else fallBack s part)

/-- A restart of the processor from a fault. -/
def processorFault (s : State) (p : Nat) : Bool :=
  match p with
  | 1 => s.pwr.supLost
  | 2 => !s.saf.sp.alive || s.unitOut uSp
  | _ => s.app.cause == 1 || s.app.cause == 3 || s.app.cause == 4

/-- FALLBACK: at once on a restart of the processor from a fault. -/
def execFallback (t : Nat) (part : Nat) (s : State) : Out State :=
  let s := s.advance t
  .next (if part < 1 || 3 < part || !(s.partAt part).trial || s.upd.act.isSome || !processorFault s part then s else fallBack s part)

/-! ## BOOT (R530) -/

/-- An image still on trial after a loss of power gets one fresh window; one whose trial was restarted before falls back. -/
def bootTrial (s : State) (p : Nat) : State :=
  let x := s.partAt p
  if !x.trial || s.pwr.bootCause != 0 then s
  else if !x.restarted then s.modPart p fun x => { x with restarted := true, deadline := s.clk + trialWindow, okSince := some s.clk }
  else if fallbackOk s p then fellBack s p
  else s.modPart p fun x => { (x.setBank x.active { x.inForce with valid := false }) with trial := false }

/-- The active bank is checked, and the fallback bank when it fails. -/
def bootBank (s : State) (p : Nat) : State :=
  if imageOk s (s.partAt p).inForce then s
  else if fallbackOk s p then fellBack s p
  else s

/-- IMAGE_BOOT_CHECK: with no runnable SUP or SP the unit enters RECOVERY; with no runnable APP, APP stays stopped. -/
def execImageBootCheck (t : Nat) (s : State) : Out State :=
  let s := s.advance t
  .next (if s.unit != .boot || s.upd.checked then s
    else
      let s := [1, 2, 3].foldl bootTrial s
      let s := [1, 2, 3].foldl bootBank s
      let s := if imageOk s s.upd.app.inForce then s else s.setApp fun a => { a with run := 2 }
      if imageOk s s.upd.sup.inForce && imageOk s s.upd.sp.inForce then s.setUpd fun u => { u with checked := true }
      else enterRecovery s 530)

/-! ## Distribution (R531 to R534) -/

/-- A monitor is served next: its turn, every other monitor of its ring reachable with its latest round, no PRECHARGE and no
rest window on the string (R532). -/
def fwServed (s : State) (i m : Nat) : Bool :=
  (match s.upd.act with
    | some a => a.part == 5 && (fwOrder s a.target)[a.count]? == some (i, m)
    | none => false) &&
    ((List.range (s.ringAt i).n).all fun k =>
      k == m || (!(s.monAt i k).unreachable && (s.monAt i k).round.isSome && (s.monAt i k).missing == 0)) &&
    (s.strAt i).state != .precharge && (s.estAt i).rest.isNone

/-- The ring master sends an FW frame with a credit, and the monitor answers with the result and the next offset
expected; `f` is what it does where the result is 0. A monitor acts on no frame of a unit it does not follow (R99). -/
def fwFrame (s : State) (i m op result : Nat) (f : MonFw → MonFw) : State :=
  let x := s.monAt i m
  if !s.isStr i || !ringRuns s i || !ringMaster s || x.credits = 0 || x.position.isNone || !fwServed s i m then s
  else
    let r := ackResult x true result
    (sendFrame s i m 10 op false).modMon i m fun x =>
      let fw := if r = 0 then f x.fw else x.fw
      { x with fw := fw, ack := some (op, r, fw.next) }

def execFwBegin (t : Nat) (i m len : Nat) (s : State) : Out State :=
  .next (fwFrame (s.advance t) i m 1 (if 0 < len ∧ len ≤ 1048576 then 0 else 3) fun _ => { len := len })

/-- DATA at the offset expected is written. -/
def execFwData (t : Nat) (i m offset : Nat) (bytes : List Byte) (s : State) : Out State :=
  let s := s.advance t
  let x := (s.monAt i m).fw
  let fits : Bool := offset == x.next && decide (0 < bytes.length ∧ bytes.length ≤ 256 ∧ x.next + bytes.length ≤ x.len)
  .next (fwFrame s i m 2 (if fits then 0 else 3) fun w =>
    { w with bytes := w.bytes ++ bytes, next := w.next + bytes.length, checked := false })

/-- END checks the CRC-32C of the whole image. -/
def execFwEnd (t : Nat) (i m crc : Nat) (s : State) : Out State :=
  let s := s.advance t
  let x := (s.monAt i m).fw
  let good : Bool := x.next == x.len && x.len != 0 && crc32c x.bytes == crc
  .next (fwFrame s i m 3 (if good then 0 else 3) fun w => { w with checked := true })

/-- SWITCH: the monitor restarts into the new image with its comparators and alarm line running (R533); one whose new image
fails its own start returns to the previous one. It is no detected error. -/
def execFwSwitch (t : Nat) (i m : Nat) (startsOk : Bool) (s : State) : Out State :=
  let s := s.advance t
  let x := (s.monAt i m).fw
  let s' := fwFrame s i m 4 (if x.checked then 0 else 3) fun w =>
    { w with len := 0, next := 0, bytes := [], checked := false, failed := !startsOk, switchedT := some s.clk }
  .next (if (s'.monAt i m).fw.switchedT == some s.clk && x.checked then
      s'.modMon i m fun x => { x with position := none, synced := false, bleed := [], shuttle := none, restarted := true, plan := false }
    else s')

/-- A monitor not back within 400 ms stops the activation, and its restart is a detected error (R533, 04_fenline_rings.md
R94). -/
def execMonitorReturnTimeout (t : Nat) (i m : Nat) (s : State) : Out State :=
  let s := s.advance t
  .next (if s.isStr i && heldFor s (s.monAt i m).fw.switchedT (400 * nsMs) then
      let s := s.modMon i m fun x => { x with fw := { x.fw with switchedT := none } }
      detected (match s.upd.act with | some a => if a.part = 5 then actFailed s 1 else s | none => s) (uMon i m) 94 0
    else s)

/-- The states in which a driver may be loaded (R534): for a GX-2, `driver` is its phase; for a CX-4, its string. -/
def driverIdle (s : State) (cx : Bool) (driver : Nat) : Bool :=
  if cx then (match (s.strAt driver).state with | .isolated | .halted | .retired => true | _ => false)
  else (s.strAt (driver / 4)).state != .regulating

/-- The next driver of the activation is loaded, read back and polled; one that refuses stops the activation (R534). -/
def execDriverConfigLoad (t : Nat) (cx : Bool) (driver : Nat) (accepted : Bool) (s : State) : Out State :=
  let s := s.advance t
  .next (match s.upd.act with
    | none => s
    | some a =>
      let order := driverOrder s a.part a.target
      if a.part != (if cx then 7 else 6) || order[a.count]? != some driver || !driverIdle s cx driver then s
      else if !accepted then actFailed s 3
      else
        let s := if cx then s.modCont driver fun c => { c with configLoaded := true }
          else s.modGx2 driver fun g => { g with configLoaded := true }
        let s := s.setUpd fun u => { u with act := some { a with count := a.count + 1 } }
        if a.count + 1 < order.length then s else distributed s a)

/-! ## Other commands (R537) -/

/-- UPD_CONFIRM is kept until the criteria are met (R526). -/
def execUpdConfirm (q : Req) (s : State) : Out State :=
  let waits (p : Part) : Bool := p.trial && p.needHost
  let f : Part → Part := fun p => if waits p then { p with confirmed := true } else p
  command
    { op := 0x1107, len := lenIs 0, roles := .all, h := false, noApp := true
      state := fun s _ => if waits s.upd.sup || waits s.upd.sp || waits s.upd.app then none else some (conflictObj 0) }
    (fun s q => ok (s.setUpd fun u => { u with sup := f u.sup, sp := f u.sp, app := f u.app }) 0x1107 q []) q s

/-- The part on trial whose container stands in transfer `t`. -/
def trialPart (s : State) (t : Nat) : Option Nat := [1, 2, 3].find? fun p => (s.partAt p).trial && (s.partAt p).transfer == t

/-- UPD_ABORT: with bit 1 the image on trial falls back now; else the transfer is EMPTY, and its record stays for a resumed
UPD_BEGIN unless bit 0 erases the area. -/
def execUpdAbort (q : Req) (s : State) : Out State :=
  let t := getU q.payload 0 1
  let flags := getU q.payload 1 1
  let now : Bool := flags.testBit 1
  command
    { op := 0x1108, len := lenIs 2, roles := .all, v := true
      state := fun s _ =>
        if 4 < t then none
        else if now then (if (trialPart s t).isSome && s.upd.act.isNone then none else some (conflictObj t))
        else if (s.xferAt t).state = .activating then some (conflictObj t) else none
      arg := fun s _ => firstBad [must (decide (t ≤ 4)) 0, must (decide (flags ≤ 3) && (!now || s.variant == .kzv4096)) 1] }
    (fun s q =>
      let erase (s : State) : State := if flags.testBit 0 then s.modXfer t fun _ => {} else s
      match now, trialPart s t with
      | true, some p => ok (fallBack s p) 0x1108 q []
      | _, _ => ok (erase (s.modXfer t fun x => { x with state := .empty })) 0x1108 q []) q s

def XferState.code : XferState → Nat
  | .empty => 0 | .receiving => 1 | .complete => 2 | .verified => 3 | .ready => 4 | .activating => 5

/-- *Transfer status* of transfer `t`. -/
def xferStatus (s : State) (t : Nat) : Bytes :=
  let x := s.xferAt t
  let missing := ((List.range x.count).find? fun k => !x.got.contains k).getD 0xFFFFFFFF
  leU 1 t ++ leU 1 x.state.code ++ leU 1 x.part ++ leU 1 x.cls ++ fitTo 8 x.imageId ++ leU 4 (x.u 16 4) ++ leU 4 x.got.length ++
    leU 4 x.count ++ leU 4 missing

/-- TSU seconds of the trial deadline, 0 with none on trial. -/
def deadlineS (s : State) : Nat :=
  match [s.upd.sup, s.upd.sp, s.upd.app].find? (·.trial) with
  | none => 0
  | some p => (s.tsu.now + p.deadline - s.clk) / nsS

def updStatus (s : State) : Bytes :=
  (List.range 5).flatMap (xferStatus s) ++
    (match s.upd.act with
      | none => [0, 0, 0, 0]
      | some a => leU 1 a.part ++ leU 1 a.stage ++ leU 2 a.count) ++ leU 4 0 ++ leU 8 (deadlineS s)

def execUpdGetStatus (q : Req) (s : State) : Out State := getNone 0x1104 true updStatus q s

/-- One entry of UPD_GET_VERSIONS. -/
def versionRow (part bank state : Nat) (i : BankImage) : Bytes :=
  leU 1 part ++ leU 1 bank ++ leU 1 state ++ [0] ++ leU 4 i.version ++ leU 2 i.ifLevel ++ leU 1 i.svn ++ leU 1 i.keySet

/-- State of a bank: 0 empty, 1 active, 2 fallback, 3 trial, 4 invalid. -/
def bankState (p : Part) (b : Nat) : Nat :=
  let i := p.bank b
  if !i.present then 0 else if !i.valid then 4 else if b ≠ p.active then 2 else if p.trial then 3 else 1

def updVersions (s : State) : Bytes :=
  leU 4 s.upd.floor ++ leU 4 s.upd.revoked.toNat ++
    ([1, 2, 3].flatMap fun p => [0, 1].flatMap fun b => versionRow p b (bankState (s.partAt p) b) ((s.partAt p).bank b)) ++
    s.upd.store.flatMap fun e => versionRow (e.1 / 16) (e.1 % 16) 1 e.2.1

def execUpdGetVersions (q : Req) (s : State) : Out State := getW 0x1101 true updVersions q s

end Sys2Proof.Machine
end

