-- ==== Sys2Proof/Machine/ByOpcode.lean ====
section
/-! DEFINITION. The meaning of a command by the opcode of its envelope (*Opcodes*, 15_host_interface.md R451), for the
commands that SUP takes from a slot. -/

namespace Sys2Proof.Machine

/-- The meaning of an opcode; none where it is not defined. -/
def byOpcode (op : Nat) : Option (Req → State → Out State) :=
  match op with
  | 0x0101 => some execSysGetInfo
  | 0x0102 => some execSysGetStatus
  | 0x0103 => some execSysEcho
  | 0x0104 => some execSysRestart
  | 0x0105 => some execSysSetPowerPolicy
  | 0x0106 => some execSysGetPowerState
  | 0x0107 => some execSysSetVbak
  | 0x0108 => some execSysSetAlarm
  | 0x0109 => some execSysSetTi
  | 0x010A => some execSysGetTi
  | 0x010B => some execSysSetThermalWarn
  | 0x010C => some execSysGetThermal
  | 0x010D => some execSysWinAlloc
  | 0x010E => some execSysWinFree
  | 0x010F => some execSysSetSlots
  | 0x0201 => some execStrGetState
  | 0x0202 => some execStrConnect
  | 0x0203 => some execStrDisconnect
  | 0x0204 => some execStrRegulate
  | 0x0205 => some execStrIdle
  | 0x0206 => some execStrReset
  | 0x0207 => some execStrRetire
  | 0x0208 => some execStrRestore
  | 0x0209 => some execStrGetMeas
  | 0x020A => some execStrSetShunt
  | 0x020B => some execStrGetCal
  | 0x020C => some execStrSetIso
  | 0x020D => some execStrGetIso
  | 0x020E => some execStrClearMeasFlags
  | 0x020F => some execStrSetRing
  | 0x0210 => some execStrEnumerate
  | 0x0211 => some execStrRingLink
  | 0x0212 => some execStrGetRing
  | 0x0213 => some execStrGetRound
  | 0x0301 => some execDspSetRequest
  | 0x0302 => some execDspCancel
  | 0x0303 => some execDspGetStatus
  | 0x0304 => some execDspGetQueue
  | 0x0305 => some execDspSetConfig
  | 0x0306 => some execDspGetConfig
  | 0x0401 => some execEstSetConfig
  | 0x0402 => some execEstGetConfig
  | 0x0403 => some execEstGetCells
  | 0x0404 => some execEstMapTable
  | 0x0405 => some execEstGetSop
  | 0x0406 => some execEstSetSoc
  | 0x0407 => some execEstResetCell
  | 0x0408 => some execEstJournal
  | 0x0409 => some execEstRequestAnchor
  | 0x040A => some execEstGetStatus
  | 0x0501 => some execTpeSetPlan
  | 0x0502 => some execTpeGetPlan
  | 0x0503 => some execTpeGetResults
  | 0x0504 => some execTpeMapResults
  | 0x0505 => some execTpeGetPrecursor
  | 0x0506 => some execTpeGetStatus
  | 0x0601 => some execBalSetConfig
  | 0x0602 => some execBalGetConfig
  | 0x0603 => some execBalSetBudget
  | 0x0604 => some execBalHold
  | 0x0605 => some execBalGetPlan
  | 0x0606 => some execBalGetLedger
  | 0x0701 => some execCnvSetConfig
  | 0x0702 => some execCnvGetConfig
  | 0x0703 => some execCnvSetSlot
  | 0x0704 => some execCnvGetStatus
  | 0x0705 => some execCnvPhaseDisable
  | 0x0706 => some execCnvPhaseRestore
  | 0x0707 => some execCnvGetDrivers
  | 0x0801 => some execLepLoadDesc
  | 0x0802 => some execLepClearSlot
  | 0x0803 => some execLepGetDesc
  | 0x0804 => some execLepSetCoef
  | 0x0805 => some execLepGetCoef
  | 0x0806 => some execLepSwap
  | 0x0807 => some execLepLoadLut
  | 0x0808 => some execLepGetLut
  | 0x0809 => some execLepSetParam
  | 0x080A => some execLepGetOutput
  | 0x080B => some execLepGetStatus
  | 0x0901 => some execSafStage
  | 0x0902 => some execSafGetStaged
  | 0x0903 => some execSafCommit
  | 0x0904 => some execSafDiscard
  | 0x0905 => some execSafGetSet
  | 0x0906 => some execSafGetStatus
  | 0x0907 => some execSafGetInputs
  | 0x0A01 => some execRedGetStatus
  | 0x0A02 => some execRedSetConfig
  | 0x0A03 => some execRedGetConfig
  | 0x0A04 => some execRedSwap
  | 0x0A05 => some execRedPostpone
  | 0x0A06 => some execRedGetShadow
  | 0x0B01 => some execAuxSetBus
  | 0x0B02 => some execAuxGetBus
  | 0x0B03 => some execAuxSetCap
  | 0x0B04 => some execAuxSetFan
  | 0x0B05 => some execAuxGetStatus
  | 0x0B06 => some execAuxSetEf
  | 0x0B07 => some execAuxGetEf
  | 0x0B08 => some execAuxEfOn
  | 0x0B09 => some execAuxEfOff
  | 0x0B0A => some execAuxEfReset
  | 0x0C01 => some execSeqSetTable
  | 0x0C02 => some execSeqGetTable
  | 0x0C03 => some execSeqGetStatus
  | 0x0C04 => some execSeqOff
  | 0x0C05 => some execSeqCancelOff
  | 0x0D01 => some execTimGetTime
  | 0x0D02 => some execTimGetStatus
  | 0x0D03 => some execTimSetConfig
  | 0x0D04 => some execTimGetConfig
  | 0x0D05 => some execTimSetTime
  | 0x0D06 => some execTimSetTrigger
  | 0x0D07 => some execTimGetTrigger
  | 0x0D08 => some execTimSetCapture
  | 0x0D09 => some execTimReadCapture
  | 0x0D0A => some execTimDelegate
  | 0x0E01 => some execNetSetPort
  | 0x0E02 => some execNetGetPort
  | 0x0E03 => some execNetGetStats
  | 0x0E04 => some execNetSetMgmt
  | 0x0E05 => some execNetGetMgmt
  | 0x0F01 => some execCanSetConfig
  | 0x0F02 => some execCanGetConfig
  | 0x0F03 => some execCanSetFilter
  | 0x0F04 => some execCanSend
  | 0x0F05 => some execCanRead
  | 0x0F06 => some execCanGetStatus
  | 0x0F07 => some execCanDelegate
  | 0x1001 => some execLogGetStatus
  | 0x1002 => some execLogRead
  | 0x1003 => some execLogClear
  | 0x1101 => some execUpdGetVersions
  | 0x1102 => some execUpdBegin
  | 0x1103 => some execUpdChunk
  | 0x1104 => some execUpdGetStatus
  | 0x1105 => some execUpdVerify
  | 0x1106 => some execUpdActivate
  | 0x1107 => some execUpdConfirm
  | 0x1108 => some execUpdAbort
  | 0x1201 => some execTrcSetProbe
  | 0x1202 => some execTrcArm
  | 0x1203 => some execTrcStop
  | 0x1204 => some execTrcGetStatus
  | 0x1205 => some execTrcMap
  | 0x1206 => some execTrcRead
  | _ => none

end Sys2Proof.Machine
end

