-- ==== Sys2Proof/Machine/Hostif.lean ====
section
/-! DEFINITION. The host interface: the QSPI port, the HPR registers, mailbox slots, the shared window and the management
transport (15_host_interface.md R428 to R445), and writes to registers (00_scope.md R8). -/

namespace Sys2Proof.Machine

/-! ## HPR registers (R432) -/

def errAddr : Nat := 0
def errAlign : Nat := 1
def errOwn : Nat := 2
def errDb : Nat := 3
def errFrame : Nat := 4

/-- Sets an HPR_ERR bit by an access of `port`; a bit that sets raises the error source of HOST, or of APP for an access of
its own (17_app_core_icu.md R482). -/
def hprErr (s : State) (port : Port) (bit : Nat) : State :=
  if s.hpr.err.getLsbD bit then s
  else
    let s := s.setHpr fun h => { h with err := h.err ||| BitVec.twoPow 5 bit }
    let s := if s.hpr.irqEn.getLsbD 16 then icuPrivate s .host 1 else s
    if port == .app then icuPrivate s .app 1 else s

/-- Bits of `l` as a word. -/
def slotBits (f : Nat → Bool) : Nat := bitsToNat ((List.range 16).map f)

/-- The word at HPR offset `off`; an offset no register has reads 0. -/
def hprWord (s : State) (off : Nat) : Nat :=
  match off with
  | 0x000 => hprId s
  | 0x004 => hprStatus s
  | 0x008 => hprUnit s
  | 0x00C => s.hpr.hb
  | 0x010 => slotBits fun n => s.hpr.order.contains n
  | 0x014 => s.hpr.own.toNat
  | 0x018 => s.hpr.done.toNat
  | 0x01C => s.hpr.irqEn.toNat
  | 0x020 => s.hpr.err.toNat
  | 0x024 => s.hpr.slotPort.toNat
  | 0x028 => s.hpr.scratch.toNat
  | _ => 0

/-- Posts the slots of `mask` in ascending order (R434); a bit is ignored where the device owned the slot at the start of the
cycle, or where it is another port's (R435). -/
def postSlots (s : State) (port : Port) (mask : BitVec 16) : State :=
  let own := s.hpr.own
  ((List.range 16).filter mask.getLsbD).foldl (fun s n =>
    if own.getLsbD n || slotPort s n != port then hprErr s port errDb
    else s.setHpr fun h => { h with own := h.own ||| BitVec.twoPow 16 n, done := h.done &&& ~~~ (BitVec.twoPow 16 n)
                                    order := h.order ++ [n] }) s

/-- A W1C write of HPR_DONE; APP clears the bits of its own slots alone (17_app_core_icu.md R476). -/
def clearDone (s : State) (port : Port) (mask : BitVec 16) : State :=
  let m := slotBits fun n => mask.getLsbD n && (port != .app || slotPort s n == .app)
  s.setHpr fun h => { h with done := h.done &&& ~~~ (BitVec.ofNat 16 m) }

def clearErr (s : State) (mask : BitVec 32) : State := s.setHpr fun h => { h with err := h.err &&& ~~~ (mask.setWidth 5) }

/-- A word that HOST writes to the register region: the HPR registers, and its ICU frame from 0x800 on (R492). -/
def hostWrite (s : State) (off : Nat) (v : BitVec 32) : State :=
  match off with
  | 0x010 => postSlots s .host (v.setWidth 16)
  | 0x018 => clearDone s .host (v.setWidth 16)
  | 0x01C => s.setHpr fun h => { h with irqEn := v.setWidth 18 }
  | 0x020 => clearErr s v
  | 0x028 => s.setHpr fun h => { h with scratch := v }
  | _ => if 0x800 ≤ off then icuWrite s .host (off - 0x800) v else s

/-- A word that APP writes to the HPR registers: any other than these is an access fault (17_app_core_icu.md R476). -/
def appWrite (s : State) (off : Nat) (v : BitVec 32) : State :=
  match off with
  | 0x010 => postSlots s .app (v.setWidth 16)
  | 0x018 => clearDone s .app (v.setWidth 16)
  | 0x020 => clearErr s v
  | _ => s.setApp fun a => { a with accessFaults := a.accessFaults + 1 }

/-- A word that HOST reads of the register region, and the state after: a read of ICU_CLAIM claims (17_app_core_icu.md
R485). -/
def hostRead (s : State) (off : Nat) : State × Nat :=
  if off = 0x80C then let s := icuClaim s .host; (s, (s.tgt .host).claim)
  else if 0x800 ≤ off then (s, icuRead s .host (off - 0x800)) else (s, hprWord s off)

/-! ## The window (R438 to R440) -/

/-- *Window descriptor*. -/
def descBytes (s : State) (d : Nat) : Bytes :=
  let e := s.desc d
  leU 4 e.own.toNat ++ leU 1 e.kind ++ leU 1 e.requester ++ leU 2 e.gen ++ leU 4 e.offset ++ leU 4 e.size ++ leU 4 e.used ++
    leU 2 e.opcode ++ leU 2 e.seq ++ leU 8 0

/-- The buffer that holds window offset `o`. -/
def bufferAt (s : State) (o : Nat) : Option Desc :=
  s.hpr.desc.find? fun e => e.kind = 1 ∧ e.offset ≤ o ∧ o < e.offset + e.size

/-- The byte at window offset `o`; in a buffer the device owns, the `k`-th fresh free value. -/
def winByte (s : State) (o k : Nat) : Byte :=
  if o < 0x2000 then (descBytes s (o / 32)).getD (o % 32) 0
  else if o < 0x10000 then 0
  else if o < 0x03000000 then
    (match bufferAt s o with
      | some e => if e.own then BitVec.ofNat 8 (Config.freeNat (s.free + k)) else memRead s.mem (windowBase + o)
      | none => memRead s.mem (windowBase + o))
  else if o < 0x03100000 then cellTableByte s (o - 0x03000000)
  else if o < 0x03180000 then impTableByte s (o - 0x03100000)
  else if o < 0x03200000 then 0
  else if o < 0x03A00400 then traceByte s (o - 0x03200000)
  else 0

/-- `n` bytes from window offset `o`. -/
def winBytes (s : State) (o n : Nat) : Bytes := (List.range n).map fun k => winByte s (o + k) k

/-- One aligned write of `v` to the own word of descriptor `d` by `port` (R440): only its requester, only while it holds 0,
only the value 1. The state, and whether it was taken. -/
def writeOwn (s : State) (port : Port) (d v : Nat) : State × Bool :=
  let e := s.desc d
  if e.kind == 1 && e.requester == portCode port && !e.own && v == 1 then (s.modDesc d fun e => { e with own := true }, true)
  else (hprErr s port errOwn, false)

/-- One byte written outside the descriptor table: in a buffer, by its requester while it owns it. -/
def writeBuf (s : State) (port : Port) (o : Nat) (b : Byte) : State × Bool :=
  match bufferAt s o with
  | some e =>
    if e.requester == portCode port && !e.own then
      ({ s with mem := memWrite (windowBase + o) b s.mem }, true)
    else (hprErr s port errOwn, false)
  | none => (hprErr s port errOwn, false)

/-- Bytes written from window offset `o` on; whether every one was taken. A whole own word is one write; part of one sets
ALIGN_ERR as well. -/
def winWrite (s : State) (port : Port) (o : Nat) : Bytes → State × Bool
  | [] => (s, true)
  | a :: r =>
    if 0x2000 ≤ o then
      let (s, x) := writeBuf s port o a
      let (s, y) := winWrite s port (o + 1) r
      (s, x && y)
    else if o % 32 = 0 ∧ 3 ≤ r.length then
      let (s, x) := writeOwn s port (o / 32) (getU (a :: r) 0 4)
      let (s, y) := winWrite s port (o + 1) r
      (s, x && y)
    else if o % 32 = 0 then
      let (s, _) := winWrite (hprErr (hprErr s port errOwn) port errAlign) port (o + 1) r
      (s, false)
    else
      winWrite s port (o + 1) r

/-- What a write that starts at offset `o` of the descriptor table touches beside whole own words: the rest of a descriptor,
and parts of own words. -/
def tableRest (o n : Nat) : Bool × Bool :=
  let touched := (List.range n).map fun k => o + k
  let table := touched.filter fun x => decide (x < 0x2000)
  let whole (x : Nat) : Bool := decide (x % 32 < 4) && decide (o ≤ x / 32 * 32) && decide (x / 32 * 32 + 4 ≤ o + n)
  (table.any fun x => !whole x, table.any fun x => decide (x % 32 < 4) && !whole x)

/-- A write to the window by `port`, with the errors of R440. -/
def writeWindow (s : State) (port : Port) (o : Nat) (b : Bytes) : State × Bool :=
  let (other, part) := tableRest o b.length
  let s := if other then hprErr s port errOwn else s
  let s := if part then hprErr s port errAlign else s
  let (s, taken) := winWrite s port o b
  (s, taken && !other)

/-- DESCRIPTOR_OWN_WRITE. -/
def execDescriptorOwnWrite (t : Nat) (port : Port) (desc value : Nat) (partialWrite : Bool) (s : State) : Out State :=
  let s := s.advance t
  .next (if !hostServed s || 256 ≤ desc then s
    else if partialWrite then hprErr (hprErr s port errOwn) port errAlign
    else (writeOwn s port desc value).1)

/-! ## The QSPI port (R430, R431) -/

/-- End of the region of *Host address map* that holds `a`; none for an unmapped address. -/
def regionEnd (a : Nat) : Option Nat :=
  if a < 0x1000 then some 0x1000 else if a < 0x2000 then some 0x2000
  else if 0x04000000 ≤ a ∧ a < 0x08000000 then some 0x08000000 else none

/-- Reads `n` aligned words of the register region from `off`. -/
def readWords (s : State) (off : Nat) : Nat → State × Bytes
  | 0 => (s, [])
  | n + 1 =>
    let (s, v) := hostRead s off
    let (s, r) := readWords s (off + 4) n
    (s, leU 4 v ++ r)

/-- Writes the words of `b` to the register region from `off`. -/
def writeWords (s : State) (off : Nat) : Bytes → State
  | a :: b :: c :: d :: r => writeWords (hostWrite s off (BitVec.ofNat 32 (getU [a, b, c, d] 0 4))) (off + 4) r
  | _ => s

/-- The data of a READ inside one region, `n` bytes from `a`. -/
def readRegion (s : State) (a n : Nat) : State × Bytes :=
  if a < 0x1000 then
    if a % 4 = 0 ∧ n % 4 = 0 then readWords s a (n / 4) else (hprErr s .host errAlign, List.replicate n 0)
  else if a < 0x2000 then (s, memReads s.mem a n)
  else ({ s with free := s.free + n }, winBytes s (a - windowBase) n)

/-- A READ moves at most 4,096 bytes; from the end of a region on it reads 0 and sets ADDR_ERR. Where the port is not served
no data are defined (R429). -/
def execQspiRead (t : Nat) (addr len : Nat) (s : State) : Out State :=
  let s := s.advance t
  .next (if !hostServed s then s.setHpr fun h => { h with readData := [] }
    else
      let n := min len 4096
      match regionEnd addr with
      | none => (hprErr s .host errAddr).setHpr fun h => { h with readData := List.replicate n 0 }
      | some e =>
        let k := min n (e - addr)
        let (s, b) := readRegion s addr k
        let s := if k < n then hprErr s .host errAddr else s
        s.setHpr fun h => { h with readData := b ++ List.replicate (n - k) 0 })

/-- Bytes written to the slots from address `a` on: discarded where the slot is not HOST's or the device owns it. -/
def writeSlots (s : State) (a : Nat) : Bytes → State
  | [] => s
  | b :: r =>
    let n := (a - 0x1000) / 0x100
    let s := if slotPort s n == .host && !s.hpr.own.getLsbD n then { s with mem := memWrite a b s.mem }
      else hprErr s .host errOwn
    writeSlots s (a + 1) r

/-- The data of a WRITE inside one region. -/
def writeRegion (s : State) (a : Nat) (b : Bytes) : State :=
  if a < 0x1000 then
    if a % 4 = 0 ∧ b.length % 4 = 0 then writeWords s a b else hprErr s .host errAlign
  else if a < 0x2000 then writeSlots s a b
  else (writeWindow s .host (a - windowBase) b).1

/-- A WRITE; where chip-select rises within a word (`cut`), that word is discarded and FRAME_ERR is set. -/
def execQspiWrite (t : Nat) (addr : Nat) (bytes : List Byte) (cut : Bool) (s : State) : Out State :=
  let s := s.advance t
  .next (if !hostServed s then s
    else
      let b := bytes.take 4096
      let b := if cut then b.take ((addr + b.length) / 4 * 4 - addr) else b
      let s := if cut then hprErr s .host errFrame else s
      match regionEnd addr with
      | none => hprErr s .host errAddr
      | some e =>
        let k := min b.length (e - addr)
        let s := writeRegion s addr (b.take k)
        if k < b.length then hprErr s .host errAddr else s)

/-- STATUS: the byte is left in `statusByte`. -/
def execQspiStatus (t : Nat) (s : State) : Out State :=
  let s := s.advance t
  .next (if hostServed s then s.setHpr fun h => { h with statusByte := statusByte s } else s)

/-! ## Register events (R432, R434, R435; 00_scope.md R8) -/

def execHprDoorbellWrite (t : Nat) (port : Port) (mask : BitVec 16) (s : State) : Out State :=
  let s := s.advance t
  .next (if hostServed s then postSlots s port mask else s)

def execHprDoneClear (t : Nat) (port : Port) (mask : BitVec 16) (s : State) : Out State :=
  let s := s.advance t
  .next (if hostServed s then clearDone s port mask else s)

def execHprErrClear (t : Nat) (mask : BitVec 32) (s : State) : Out State :=
  let s := s.advance t
  .next (if hostServed s then clearErr s mask else s)

/-- SUP's heartbeat of every 1 ms of TIME stops in a handover, and with SUP. -/
def execHprHbTick (t : Nat) (s : State) : Out State :=
  let s := s.advance t
  .next (if hostServed s && !s.hpr.handover && !s.pwr.supLost && timeRuns s && !s.clockLost .sys && !s.asleep &&
      s.pwr.state != .retention then
    s.setHpr fun h => { h with hb := (h.hb + 1) % 2 ^ 32 } else s)

/-- REGISTER_WRITE by an agent that reaches the register: HOST its HPR registers and ICU frame; APP its own; SUP its ICU
frame, the TSU and the CAN registers. -/
def execRegisterWrite (t : Nat) (a : RegAgent) (r : RegAddr) (value : BitVec 32) (s : State) : Out State :=
  let s := s.advance t
  .next (if !hostServed s then s
    else match r, a with
      | .hpr off, .host => if off % 4 = 0 ∧ off < 0x800 then hostWrite s off value else hprErr s .host errAlign
      | .hpr off, .app => if appRuns s then appWrite s off value else s
      | .hpr _, .sup => s
      | .icu .host off, .host => icuWrite s .host off value
      | .icu .app off, .app => if appRuns s then icuWrite s .app off value else s
      | .icu .sup off, .sup => icuWrite s .sup off value
      | .icu _ _, _ => s
      | .tsu off, .app => if appRuns s then tsuWrite s true off value else s
      | .tsu off, .sup => tsuWrite s false off value
      | .tsu _, .host => s
      | .can c off, .app => if appRuns s ∧ c < 4 then canWrite s true c off value else s
      | .can c off, .sup => if c < 4 then canWrite s false c off value else s
      | .can _ _, .host => s
      | .canRam off, .app => if appRuns s then canRamPut s true off value else s
      | .canRam off, .sup => canRamPut s false off value
      | .canRam _, .host => s)

/-! ## Slots (R433 to R437) -/

/-- The envelope and payload of slot `n`, as SUP reads them. -/
def envelopeAt (s : State) (n : Nat) : Nat × Req :=
  let e := memReads s.mem (slotAddr n) 16
  let flags := getU e 6 2
  (getU e 0 2,
    { port := slotPort s n, slot := some n, seq := getU e 2 2, retry := flags.testBit 0, noIrq := flags.testBit 1
      payload := memReads s.mem (slotAddr n + 16) (getU e 4 2)
      envBad := if 4 ≤ flags then some 6 else if getU e 13 3 ≠ 0 then some 13 else none })

/-- A free MGMT slot (R444). -/
def freeMgmtSlot (s : State) : Option Nat :=
  (List.range 16).find? fun n => slotPort s n == .mgmt && !s.hpr.own.getLsbD n && !s.hpr.done.getLsbD n

/-- A request enters MGMT slot `n` and is posted: opcode, seq, length and flags as sent, status 0. -/
def enterSlot (s : State) (n client net : Nat) (body : Bytes) : State :=
  let b := body.take 8 ++ [0, 0, 0, 0] ++ [1] ++ slice body 13 3 ++ body.drop 16
  { s with mem := memWrites s.mem (slotAddr n) b }.setHpr fun h =>
    { h with
      own := h.own ||| BitVec.twoPow 16 n, order := h.order ++ [n]
      mgmtSlot := (n, client, net) :: h.mgmtSlot.filter fun e => e.1 ≠ n }

/-- Waiting requests enter free MGMT slots in arrival order. -/
def admitWaiting (s : State) : Nat → State
  | 0 => s
  | k + 1 =>
    match s.hpr.waiting, freeMgmtSlot s with
    | w :: r, some n => admitWaiting (enterSlot (s.setHpr fun h => { h with waiting := r }) n w.client w.net w.body) k
    | _, _ => s

/-- SLOT_TAKE: the first posted slot in doorbell order is taken and its command runs; an opcode that is not defined completes
with BAD_OPCODE. -/
def execSlotTake (t : Nat) (s : State) : Out State :=
  let s := admitWaiting (s.advance t) 16
  match s.hpr.order with
  | [] => .next s
  | n :: rest =>
    if !takes s then .next s
    else
      let s := s.setHpr fun h => { h with order := rest }
      let (op, q) := envelopeAt s n
      match byOpcode op with
      | some run => run q s
      | none => .next (finish1 (s.setPwr fun p => { p with lastCmdT := s.clk }) op q stBadOpcode 0 [])

/-! ## Management transport (R442 to R445) -/

/-- What the checks of R443 make of a frame for network `net` from address `src`. -/
inductive MgmtCheck where
  | discarded
  | stale (client : Nat)
  | accepted (client type tseq : Nat) (body : Bytes)
  deriving DecidableEq, Repr

def mgmtCheck (s : State) (net src : Nat) (f : Bytes) : MgmtCheck :=
  let len := getU f 6 2
  let k := getU f 4 1
  let c := s.hpr.clients.getD k {}
  if getU f 0 2 != 0x4D57 || getU f 2 1 != 1 || getU f 5 1 != 0 || decide (1032 < len) || f.length != 32 + len ||
      decide (k < 1 ∨ 8 < k) || !c.configured || !c.enabled || !c.ports.testBit net || (c.source != 0 && c.source != src) ||
      f.drop (16 + len) != fitTo 16 (Config.hmac c.key (f.take (16 + len))) then .discarded
  else if getU f 8 4 ≠ s.hpr.epoch then .stale k
  else if getU f 12 4 ≤ c.rxSeq then .discarded
  else .accepted k (getU f 3 1) (getU f 12 4) (slice f 16 len)

/-- A frame to client `k` over network `net`. -/
def mgmtSend (s : State) (net k type : Nat) (body : Bytes) : State :=
  s.setHpr fun h =>
    { h with mgmtTx := { net := net, client := k, type := type, body := body } :: h.mgmtTx
             clients := h.clients.modify k fun (c : Client) => { c with txSeq := c.txSeq + 1 } }

/-- ERROR: 1 stale epoch, 2 unknown type. -/
def mgmtError (s : State) (net k code : Nat) : State := mgmtSend s net k 8 (leU 2 code ++ leU 2 0 ++ leU 4 s.hpr.epoch)

/-- The transport is served on a network port enabled for it, once BOOT has begun. -/
def mgmtServed (s : State) (net : Nat) : Bool :=
  ethRuns s && decide (net < 4) && net != 2 && portFlag s net 0 && portFlag s net 1 && (s.portAt net).link

/-- A frame arrives: discarded and counted, answered with ERROR, or given to `run` with client and body. A frame of another
type than `types` has an event of its own; one of no type the manual gives is unknown. -/
def mgmtFrame (s : State) (net src : Nat) (f : Bytes) (type : Nat) (run : State → Nat → Bytes → State) : State :=
  if !mgmtServed s net then s
  else match mgmtCheck s net src f with
    | .discarded => s.setHpr fun h => { h with mgmtDiscards := h.mgmtDiscards + 1 }
    | .stale k => mgmtError s net k 1
    | .accepted k ty tseq body =>
      let s := s.setHpr fun h => { h with clients := h.clients.modify k fun (c : Client) => { c with rxSeq := tseq } }
      if ty = type then run s k body
      else if ty = 0 ∨ 8 < ty ∨ ty = 2 ∨ ty = 4 ∨ ty = 6 ∨ ty = 8 then mgmtError s net k 2
      else if ty = 7 then s.setHpr fun h => { h with mgmtDiscards := h.mgmtDiscards + 1 }
      else s

/-- The RESPONSE to a request that is not executed: status RESOURCE (R444). -/
def mgmtResource (s : State) (net k : Nat) (body : Bytes) : State :=
  mgmtSend s net k 2 (body.take 4 ++ leU 2 0 ++ slice body 6 2 ++ leU 2 stResource ++ leU 2 0 ++ leU 1 (portCode .mgmt) ++ [0, 0, 0])

/-- MGMT_REQUEST (R444). A body that does not hold the envelope and the payload it announces is discarded. -/
def execMgmtRequest (t : Nat) (net src : Nat) (frame : List Byte) (s : State) : Out State :=
  let s := admitWaiting (s.advance t) 16
  .next (mgmtFrame s net src frame 1 fun s k body =>
    if body.length < 16 ∨ body.length ≠ 16 + getU body 4 2 ∨ 240 < getU body 4 2 then
      s.setHpr fun h => { h with mgmtDiscards := h.mgmtDiscards + 1 }
    else match freeMgmtSlot s with
      | some n => enterSlot s n k net body
      | none =>
        if s.hpr.waiting.length < 16 then
          s.setHpr fun h => { h with waiting := h.waiting ++ [{ client := k, net := net, body := body, since := s.clk }] }
        else mgmtResource s net k body)

/-- A request that has waited for 100 ms is answered RESOURCE and not executed (R444). -/
def execMgmtWaitTimeout (t : Nat) (s : State) : Out State :=
  let s := s.advance t
  .next (match s.hpr.waiting with
    | [] => s
    | w :: r =>
      if s.clk < w.since + 100 * nsMs then s
      else mgmtResource (s.setHpr fun h => { h with waiting := r }) w.net w.client w.body)

/-- WIN_READ: bytes past the end of the window read 0. -/
def execWinRead (t : Nat) (net src : Nat) (frame : List Byte) (s : State) : Out State :=
  let s := s.advance t
  .next (mgmtFrame s net src frame 3 fun s k body =>
    let o := getU body 0 4
    let n := getU body 4 2
    if body.length ≠ 8 ∨ n < 1 ∨ 1024 < n ∨ getU body 6 2 ≠ 0 then
      s.setHpr fun h => { h with mgmtDiscards := h.mgmtDiscards + 1 }
    else
      let b := fitTo n (winBytes s o (min n (0x04000000 - o)))
      mgmtSend { s with free := s.free + n } net k 4 (leU 4 o ++ leU 2 n ++ leU 2 0 ++ b))

/-- WIN_WRITE under R440, answered with WIN_ACK: 0 done, 1 not owned, 2 address. -/
def execWinWrite (t : Nat) (net src : Nat) (frame : List Byte) (s : State) : Out State :=
  let s := s.advance t
  .next (mgmtFrame s net src frame 5 fun s k body =>
    let o := getU body 0 4
    let n := getU body 4 2
    if body.length ≠ 8 + n ∨ n < 1 ∨ 1024 < n ∨ getU body 6 2 ≠ 0 then
      s.setHpr fun h => { h with mgmtDiscards := h.mgmtDiscards + 1 }
    else
      let (s, result) : State × Nat :=
        if 0x04000000 < o + n then (hprErr s .mgmt errAddr, 2)
        else
          let (s, taken) := writeWindow s .mgmt o (body.drop 8)
          (s, if taken then 0 else 1)
      mgmtSend s net k 6 (leU 4 o ++ leU 2 n ++ leU 2 result))

/-- WAKE in DORMANT, by port, magic and type alone (R445); otherwise discarded. -/
def execWake (t : Nat) (net : Nat) (frame : List Byte) (s : State) : Out State :=
  let s := s.advance t
  let known : Bool := getU frame 0 2 == 0x4D57 && getU frame 3 1 == 7
  .next (if !known || 4 ≤ net || net == 2 || !portFlag s net 0 || !portFlag s net 1 || !hostServed s then s
    else if s.pwr.state == .dormant then wakeUp s .mgmtFrame
    else s.setHpr fun h => { h with mgmtDiscards := h.mgmtDiscards + 1 })

end Sys2Proof.Machine
end

