-- ==== Sys2Proof/Machine/Peer.lean ====
section
/-! DEFINITION. PEER messages and what they carry: replication, HELLO, role-swap messages, measurements, the resync
snapshot (11_redundancy.md R333 to R348; 05_cell_estimation.md R137; 03_string_measurement.md R71). -/

namespace Sys2Proof.Machine

/-! ## Replicated records (R344) -/

/-- What the accepted command of an opcode changes, on the unit that receives its record; opcodes of commands that are not
replicated change nothing. -/
def applyRecord (op : Nat) (p : Bytes) (s : State) : State :=
  match op with
  | 0x0105 => setPolicy s p
  | 0x0109 => if getU p 0 1 < 24 then storeTi s p else s
  | 0x010B => setWarn s p
  | 0x020F => if s.isStr (getU p 0 1) then storeRing s p else s
  | 0x0211 =>
    let key := 2 * getU p 1 1 + getU p 2 1
    s.modRing (getU p 0 1) fun r =>
      { r with linksOff := if getU p 3 1 = 0 then key :: r.linksOff.filter (· ≠ key) else r.linksOff.filter (· ≠ key) }
  | 0x0305 => s.setDsp fun d => { d with cfg := p }
  | 0x0401 => storeEst s p
  | 0x0406 => storeSoc s p
  | 0x0407 => storeReset s p
  | 0x0501 => s.setTpe fun x => { x with pending := some p }
  | 0x0601 => s.modBal (getU p 0 1) fun b => { b with cfg := p }
  | 0x0603 => s.setDsp fun d => { d with budget := getU p 0 4 }
  | 0x0604 => storeHold s p
  | 0x0701 => storeCnv s p
  | 0x0703 => storeShift s p
  | 0x0801 => storeDesc s p
  | 0x0802 => emptySlot s p
  | 0x0804 => storeCoef s p
  | 0x0806 => storeSwap s p
  | 0x0807 => storeLut s p
  | 0x0809 => storeParam s p
  | 0x0A02 => s.setRed fun r => { r with cfg := p }
  | 0x0B01 => s.setRack fun r => { r with cfg := p }
  | 0x0B03 => s.setRack fun r => { r with cmdCap := getU p 0 4, pRet := getU p 4 4 }
  | 0x0B04 => setFan s (getU p 0 1) (getU p 1 1)
  | 0x0B06 => storeEf s p
  | 0x0B08 => efStart (s.modEf (getU p 0 1) fun e => { e with commanded := true }) (getU p 0 1)
  | 0x0B09 => efOff s (getU p 0 1)
  | 0x0B0A => s.modEf (getU p 0 1) fun e => { e with faults := 0, state := if e.state == .latched then .off else e.state }
  | _ => s

/-! ## HELLO (R346, 19_update.md R516) -/

/-- Every part both units list has its level in the range the other unit's image accepts. -/
def levelsFit (s : State) (levels : List (Nat × Nat × Nat × Nat)) : Bool :=
  levels.all fun (p, l, lo, hi) =>
    (levelsOf s p).all (fun own => decide (lo ≤ own ∧ own ≤ hi)) &&
      (entriesInForce s).all fun (owner, q, a, b) => owner != p || q != p || decide (a ≤ l ∧ l ≤ b)

/-- A HELLO; one that a unit in BOOT or RESYNC sends is answered. -/
def takeHello (s : State) (m : PeerMsg) (identity variant floor : Nat) (levels : List (Nat × Nat × Nat × Nat)) (crc : Nat) :
    State :=
  let answer : Bool := decide (m.role ≤ 1) && (s.unit.isRole && s.unit != .resync || s.red.partnerIdentity.isNone)
  let s := s.setRed fun r =>
    { r with partnerIdentity := some identity, partnerVariantOk := variant == (match s.variant with | .kzv4096 => 0 | .kzv1024 => 1), partnerFloor := floor
             partnerLevels := levels, partnerLevelsOk := levelsFit s levels, partnerSetCrc := crc }
  updateMismatch (if answer then peerSend s 1 else s)

/-! ## Replica (R322, R343, R344) -/

/-- The unit follows the sender of `m`: it is STANDBY or builds its replica, and the sender commands. -/
def follows (s : State) (m : PeerMsg) : Bool := (s.unit == .standby || s.unit == .resync) && (m.role == 3 || m.role == 4)

/-- String `i` of a following unit takes the state the active unit has it in. -/
def mirrorString (codes : List Nat) (s : State) (i : Nat) : State :=
  match codes[i]? with
  | none => s
  | some c =>
    if strOfCode c == (s.strAt i).state then s
    else setStr (if (s.strAt i).state == .regulating then gateOffString s i else s) i (strOfCode c) 344

def takeState (s : State) (m : PeerMsg) (strings tiers : List Nat) (vin : Bool) (e : List Nat) : State :=
  let s := s.setRed fun r => { r with partnerVin := vin }
  let x : Replica :=
    { strings := strings, tiers := tiers, e := e, target := roundR s.dsp.target, vinValid := vin, at_ := s.clk }
  let s := if follows s m then
      (List.range s.strings).foldl (mirrorString strings) (s.setRed fun r => { r with replica := some x })
    else s
  peerSend s 10

def heldRequest (e : Bytes × Nat × Bool) : DspEntry := { req := e.1, eff := e.2.1, late := e.2.2 }

def takeDispatch (s : State) (m : PeerMsg) (target : Int) (inForce : Option (Bytes × Nat × Bool))
    (queue : List (Bytes × Nat × Bool)) : State :=
  let force := inForce.map heldRequest
  let s := if follows s m then
      (s.setDsp fun d => { d with force := force, forceT := if d.force == force then d.forceT else s.clk
                                  queue := queue.map heldRequest, target := (target : Rat), targetT := s.clk }).setRed fun r =>
        { r with replica := r.replica.map fun x => { x with target := target } }
    else s
  peerSend s 10

/-! ## Role-swap messages (R338) -/

/-- A STANDBY unit grants or refuses; the hold-up case, in which the sender's beats report VIN invalid, needs only readiness
(R337). A unit in the ACTIVE role takes a request of its STANDBY partner as a start of a swap (log entry 60). -/
def takeSwapRequest (s : State) (m : PeerMsg) (ts : Nat) : State :=
  if s.unit == .standby && m.role == 3 then
    let holdUp : Bool := !s.red.beat.flags.testBit 0
    let good : Bool := takeoverReady s && (holdUp || cleanFor s (60 * nsS) && noPrecharge s && s.upd.act.isNone)
    let s := peerSend s 8
    if good then s.setRed fun r => { r with swapAt := some ts } else s
  else if s.unit == .active && m.role == 2 && swapAllowed s && s.red.swapAt.isNone then requestSwap s
  else s

/-! ## Insulation result of the partner (03_string_measurement.md R71) -/

def takeMeas (s : State) (m : PeerMsg) (rIso cE : Nat) (side : FaultSide) (below valid off : Bool) : State :=
  let s := { s with hvi := { s.hvi with iso := { s.hvi.iso with partnerOff := off } } }
  let iso := s.hvi.iso
  if s.unit.commands || iso.mode != .inject || iso.injecting || !(m.role == 3 || m.role == 4) then s
  else if !valid then { s with hvi := { s.hvi with iso := { iso with result := none } } }
  else
    let lows := if rIso < iso.threshold then iso.lows + 1 else 0
    let highs := if 5 * iso.threshold ≤ 4 * rIso then iso.highs + 1 else 0
    let res : IsoResult := { rIso := rIso, cE := cE, side := side, belowRange := below, at_ := s.clk }
    isoToChannels { s with hvi := { s.hvi with iso := { iso with
      result := some res, lows := lows, highs := highs
      warning := if 3 ≤ lows then true else if 3 ≤ highs then false else iso.warning } } } rIso

/-! ## The resync snapshot and adoption (R346; 05_cell_estimation.md R137, 06_impedance_thermal.md R175) -/

def takeBulk (s : State) (b : BulkPart) : State :=
  let step := if s.unit == .resync then s.red.resyncStep else 0
  match b with
  | .config op record => if step = 2 then applyRecord op record s else s
  | .cell c x p rOhm g qcc qbal =>
    if step = 3 ∧ c < s.cells then
      s.modCell c fun k =>
        { k with started := true, stale := false, soc := x.getD 0 0, vp1 := x.getD 1 0, vp2 := x.getD 2 0, h := x.getD 3 0
                 q := x.getD 4 0, p := p, rOhm := rOhm, g := g, qcc := qcc, qbal := qbal }
    else s
  | .offset c o learned =>
    if (step = 3 ∨ s.unit = .standby) ∧ c < s.cells then s.modCell c fun k => { k with offset := o, offLearned := learned } else s
  | .loop n e y integ deriv =>
    if step = 4 then
      s.modLoop n fun x =>
        { x with e1 := e.getD 0 0, e2 := e.getD 1 0, e3 := e.getD 2 0, y1 := y.getD 0 0, y2 := y.getD 1 0, y3 := y.getD 2 0
                 integ := integ, deriv := deriv }
    else s
  | .journal c q varQ g efc tMean =>
    if s.unit = .standby ∧ c < s.cells then
      s.modCell c fun k => { k with q := q, p := k.p.mapIdx (fun j v => if j = triIdx 4 4 then varQ else v), g := g
                                    adopted := some (efc, tMean) }
    else s

/-! ## Acceptance (R343) -/

/-- The effect of an accepted message's body. -/
def takeBody (s : State) (m : PeerMsg) : State :=
  match m.body with
  | .hello identity variant floor levels crc => takeHello s m identity variant floor levels crc
  | .state strings tiers vin e => takeState s m strings tiers vin e
  | .config op record => peerSend (if follows s m then applyRecord op record s else s) 10
  | .dispatch target inForce queue => takeDispatch s m target inForce queue
  | .shadow => s
  | .bulk part => takeBulk s part
  | .heartbeat => s.setRed fun r => { r with peerBeatT := some s.clk }
  | .swapRequest ts => takeSwapRequest s m ts
  | .swapGrant => if s.unit == .active && s.red.swapAsked then s.setRed fun r => { r with swapGranted := true } else s
  | .swapRefuse _ => swapRefused s
  | .meas r c side below valid off => takeMeas s m r c side below valid off
  | .ack => s

/-- PEER is received in BOOT and every role, while ETH runs and the link is up (16_ethernet_can.md R456). -/
def peerRuns (s : State) : Bool := ethRuns s && (s.unit.isRole || s.unit == .boot) && (s.portAt 2).link && portFlag s 2 0

/-- Bookkeeping of a valid message: PEER is up, the partner present, its claim known, commands it acknowledges complete. -/
def peerValid (s : State) (m : PeerMsg) : State :=
  let fresh : Bool := match s.red.beatT with | none => false | some t => decide (s.clk < t + nsMs)
  let s := s.setRed fun r =>
    { r with peerRx := some m.seq, peerT := some s.clk, peerDown := false, present := true, partnerClaim := m.claim
             beat := if fresh then r.beat else { r.beat with role := m.role, claim := m.claim } }
  let s := releaseAcks s (some m.ackSeq)
  if s.unit == .solo && m.role == 2 then setRole s .active 323 false else s

def execPeerMessage (t : Nat) (m : PeerMsg) (s : State) : Out State :=
  let s := s.advance t
  .next (
    if !peerRuns s then s
    else if !m.crcOk then s.setRed fun r => { r with peerDiscards := r.peerDiscards + 1 }
    else match s.red.peerRx with
      | none => takeBody (peerValid s m) m
      | some n =>
        if m.seq = (n + 1) % 2 ^ 32 then takeBody (peerValid s m) m
        else s.setRed fun r =>
          { r with peerDiscards := r.peerDiscards + 1
                   resends := if (m.seq + 2 ^ 32 - n) % 2 ^ 32 < 2 ^ 31 ∧ m.seq ≠ n then r.resends + 1 else r.resends })

/-! ## Shadow comparison (R347) -/

/-- A value of a SHADOW message, compared on a STANDBY unit and in the last step of resync. -/
def execShadow (t : Nat) (v : ShadowValue) (s : State) : Out State :=
  let s := s.advance t
  .next (if s.unit == .standby || (s.unit == .resync && s.red.resyncStep == 5) then
    shadowCompare s v (discrepancyNs (s.setB .sp)) else s)

end Sys2Proof.Machine
end

