-- ==== Sys2Proof/Machine/Dispatch.lean ====
section
/-! DEFINITION. The meaning of each command: one arm per constructor of `Instr`, each a direct call. -/

namespace Sys2Proof.Machine

def exec (i : Instr) (s : State) : Host.Outcome State Fault Refusal :=
  match i with
  | .sysGetInfo q => Sys2Proof.Machine.execSysGetInfo q s
  | .sysGetStatus q => Sys2Proof.Machine.execSysGetStatus q s
  | .sysEcho q => Sys2Proof.Machine.execSysEcho q s
  | .sysRestart q => Sys2Proof.Machine.execSysRestart q s
  | .sysSetPowerPolicy q => Sys2Proof.Machine.execSysSetPowerPolicy q s
  | .sysGetPowerState q => Sys2Proof.Machine.execSysGetPowerState q s
  | .sysSetVbak q => Sys2Proof.Machine.execSysSetVbak q s
  | .sysSetAlarm q => Sys2Proof.Machine.execSysSetAlarm q s
  | .sysSetTi q => Sys2Proof.Machine.execSysSetTi q s
  | .sysGetTi q => Sys2Proof.Machine.execSysGetTi q s
  | .sysSetThermalWarn q => Sys2Proof.Machine.execSysSetThermalWarn q s
  | .sysGetThermal q => Sys2Proof.Machine.execSysGetThermal q s
  | .sysWinAlloc q => Sys2Proof.Machine.execSysWinAlloc q s
  | .sysWinFree q => Sys2Proof.Machine.execSysWinFree q s
  | .sysSetSlots q => Sys2Proof.Machine.execSysSetSlots q s
  | .strGetState q => Sys2Proof.Machine.execStrGetState q s
  | .strConnect q => Sys2Proof.Machine.execStrConnect q s
  | .strDisconnect q => Sys2Proof.Machine.execStrDisconnect q s
  | .strRegulate q => Sys2Proof.Machine.execStrRegulate q s
  | .strIdle q => Sys2Proof.Machine.execStrIdle q s
  | .strReset q => Sys2Proof.Machine.execStrReset q s
  | .strRetire q => Sys2Proof.Machine.execStrRetire q s
  | .strRestore q => Sys2Proof.Machine.execStrRestore q s
  | .strGetMeas q => Sys2Proof.Machine.execStrGetMeas q s
  | .strSetShunt q => Sys2Proof.Machine.execStrSetShunt q s
  | .strGetCal q => Sys2Proof.Machine.execStrGetCal q s
  | .strSetIso q => Sys2Proof.Machine.execStrSetIso q s
  | .strGetIso q => Sys2Proof.Machine.execStrGetIso q s
  | .strClearMeasFlags q => Sys2Proof.Machine.execStrClearMeasFlags q s
  | .strSetRing q => Sys2Proof.Machine.execStrSetRing q s
  | .strEnumerate q => Sys2Proof.Machine.execStrEnumerate q s
  | .strRingLink q => Sys2Proof.Machine.execStrRingLink q s
  | .strGetRing q => Sys2Proof.Machine.execStrGetRing q s
  | .strGetRound q => Sys2Proof.Machine.execStrGetRound q s
  | .dspSetRequest q => Sys2Proof.Machine.execDspSetRequest q s
  | .dspCancel q => Sys2Proof.Machine.execDspCancel q s
  | .dspGetStatus q => Sys2Proof.Machine.execDspGetStatus q s
  | .dspGetQueue q => Sys2Proof.Machine.execDspGetQueue q s
  | .dspSetConfig q => Sys2Proof.Machine.execDspSetConfig q s
  | .dspGetConfig q => Sys2Proof.Machine.execDspGetConfig q s
  | .estSetConfig q => Sys2Proof.Machine.execEstSetConfig q s
  | .estGetConfig q => Sys2Proof.Machine.execEstGetConfig q s
  | .estGetCells q => Sys2Proof.Machine.execEstGetCells q s
  | .estMapTable q => Sys2Proof.Machine.execEstMapTable q s
  | .estGetSop q => Sys2Proof.Machine.execEstGetSop q s
  | .estSetSoc q => Sys2Proof.Machine.execEstSetSoc q s
  | .estResetCell q => Sys2Proof.Machine.execEstResetCell q s
  | .estJournal q => Sys2Proof.Machine.execEstJournal q s
  | .estRequestAnchor q => Sys2Proof.Machine.execEstRequestAnchor q s
  | .estGetStatus q => Sys2Proof.Machine.execEstGetStatus q s
  | .tpeSetPlan q => Sys2Proof.Machine.execTpeSetPlan q s
  | .tpeGetPlan q => Sys2Proof.Machine.execTpeGetPlan q s
  | .tpeGetResults q => Sys2Proof.Machine.execTpeGetResults q s
  | .tpeMapResults q => Sys2Proof.Machine.execTpeMapResults q s
  | .tpeGetPrecursor q => Sys2Proof.Machine.execTpeGetPrecursor q s
  | .tpeGetStatus q => Sys2Proof.Machine.execTpeGetStatus q s
  | .balSetConfig q => Sys2Proof.Machine.execBalSetConfig q s
  | .balGetConfig q => Sys2Proof.Machine.execBalGetConfig q s
  | .balSetBudget q => Sys2Proof.Machine.execBalSetBudget q s
  | .balHold q => Sys2Proof.Machine.execBalHold q s
  | .balGetPlan q => Sys2Proof.Machine.execBalGetPlan q s
  | .balGetLedger q => Sys2Proof.Machine.execBalGetLedger q s
  | .cnvSetConfig q => Sys2Proof.Machine.execCnvSetConfig q s
  | .cnvGetConfig q => Sys2Proof.Machine.execCnvGetConfig q s
  | .cnvSetSlot q => Sys2Proof.Machine.execCnvSetSlot q s
  | .cnvGetStatus q => Sys2Proof.Machine.execCnvGetStatus q s
  | .cnvPhaseDisable q => Sys2Proof.Machine.execCnvPhaseDisable q s
  | .cnvPhaseRestore q => Sys2Proof.Machine.execCnvPhaseRestore q s
  | .cnvGetDrivers q => Sys2Proof.Machine.execCnvGetDrivers q s
  | .lepLoadDesc q => Sys2Proof.Machine.execLepLoadDesc q s
  | .lepClearSlot q => Sys2Proof.Machine.execLepClearSlot q s
  | .lepGetDesc q => Sys2Proof.Machine.execLepGetDesc q s
  | .lepSetCoef q => Sys2Proof.Machine.execLepSetCoef q s
  | .lepGetCoef q => Sys2Proof.Machine.execLepGetCoef q s
  | .lepSwap q => Sys2Proof.Machine.execLepSwap q s
  | .lepLoadLut q => Sys2Proof.Machine.execLepLoadLut q s
  | .lepGetLut q => Sys2Proof.Machine.execLepGetLut q s
  | .lepSetParam q => Sys2Proof.Machine.execLepSetParam q s
  | .lepGetOutput q => Sys2Proof.Machine.execLepGetOutput q s
  | .lepGetStatus q => Sys2Proof.Machine.execLepGetStatus q s
  | .safStage q => Sys2Proof.Machine.execSafStage q s
  | .safGetStaged q => Sys2Proof.Machine.execSafGetStaged q s
  | .safCommit q => Sys2Proof.Machine.execSafCommit q s
  | .safDiscard q => Sys2Proof.Machine.execSafDiscard q s
  | .safGetSet q => Sys2Proof.Machine.execSafGetSet q s
  | .safGetStatus q => Sys2Proof.Machine.execSafGetStatus q s
  | .safGetInputs q => Sys2Proof.Machine.execSafGetInputs q s
  | .redGetStatus q => Sys2Proof.Machine.execRedGetStatus q s
  | .redSetConfig q => Sys2Proof.Machine.execRedSetConfig q s
  | .redGetConfig q => Sys2Proof.Machine.execRedGetConfig q s
  | .redSwap q => Sys2Proof.Machine.execRedSwap q s
  | .redPostpone q => Sys2Proof.Machine.execRedPostpone q s
  | .redGetShadow q => Sys2Proof.Machine.execRedGetShadow q s
  | .auxSetBus q => Sys2Proof.Machine.execAuxSetBus q s
  | .auxGetBus q => Sys2Proof.Machine.execAuxGetBus q s
  | .auxSetCap q => Sys2Proof.Machine.execAuxSetCap q s
  | .auxSetFan q => Sys2Proof.Machine.execAuxSetFan q s
  | .auxGetStatus q => Sys2Proof.Machine.execAuxGetStatus q s
  | .auxSetEf q => Sys2Proof.Machine.execAuxSetEf q s
  | .auxGetEf q => Sys2Proof.Machine.execAuxGetEf q s
  | .auxEfOn q => Sys2Proof.Machine.execAuxEfOn q s
  | .auxEfOff q => Sys2Proof.Machine.execAuxEfOff q s
  | .auxEfReset q => Sys2Proof.Machine.execAuxEfReset q s
  | .seqSetTable q => Sys2Proof.Machine.execSeqSetTable q s
  | .seqGetTable q => Sys2Proof.Machine.execSeqGetTable q s
  | .seqGetStatus q => Sys2Proof.Machine.execSeqGetStatus q s
  | .seqOff q => Sys2Proof.Machine.execSeqOff q s
  | .seqCancelOff q => Sys2Proof.Machine.execSeqCancelOff q s
  | .timGetTime q => Sys2Proof.Machine.execTimGetTime q s
  | .timGetStatus q => Sys2Proof.Machine.execTimGetStatus q s
  | .timSetConfig q => Sys2Proof.Machine.execTimSetConfig q s
  | .timGetConfig q => Sys2Proof.Machine.execTimGetConfig q s
  | .timSetTime q => Sys2Proof.Machine.execTimSetTime q s
  | .timSetTrigger q => Sys2Proof.Machine.execTimSetTrigger q s
  | .timGetTrigger q => Sys2Proof.Machine.execTimGetTrigger q s
  | .timSetCapture q => Sys2Proof.Machine.execTimSetCapture q s
  | .timReadCapture q => Sys2Proof.Machine.execTimReadCapture q s
  | .timDelegate q => Sys2Proof.Machine.execTimDelegate q s
  | .netSetPort q => Sys2Proof.Machine.execNetSetPort q s
  | .netGetPort q => Sys2Proof.Machine.execNetGetPort q s
  | .netGetStats q => Sys2Proof.Machine.execNetGetStats q s
  | .netSetMgmt q => Sys2Proof.Machine.execNetSetMgmt q s
  | .netGetMgmt q => Sys2Proof.Machine.execNetGetMgmt q s
  | .canSetConfig q => Sys2Proof.Machine.execCanSetConfig q s
  | .canGetConfig q => Sys2Proof.Machine.execCanGetConfig q s
  | .canSetFilter q => Sys2Proof.Machine.execCanSetFilter q s
  | .canSend q => Sys2Proof.Machine.execCanSend q s
  | .canRead q => Sys2Proof.Machine.execCanRead q s
  | .canGetStatus q => Sys2Proof.Machine.execCanGetStatus q s
  | .canDelegate q => Sys2Proof.Machine.execCanDelegate q s
  | .logGetStatus q => Sys2Proof.Machine.execLogGetStatus q s
  | .logRead q => Sys2Proof.Machine.execLogRead q s
  | .logClear q => Sys2Proof.Machine.execLogClear q s
  | .updGetVersions q => Sys2Proof.Machine.execUpdGetVersions q s
  | .updBegin q => Sys2Proof.Machine.execUpdBegin q s
  | .updChunk q => Sys2Proof.Machine.execUpdChunk q s
  | .updGetStatus q => Sys2Proof.Machine.execUpdGetStatus q s
  | .updVerify q => Sys2Proof.Machine.execUpdVerify q s
  | .updActivate q => Sys2Proof.Machine.execUpdActivate q s
  | .updConfirm q => Sys2Proof.Machine.execUpdConfirm q s
  | .updAbort q => Sys2Proof.Machine.execUpdAbort q s
  | .trcSetProbe q => Sys2Proof.Machine.execTrcSetProbe q s
  | .trcArm q => Sys2Proof.Machine.execTrcArm q s
  | .trcStop q => Sys2Proof.Machine.execTrcStop q s
  | .trcGetStatus q => Sys2Proof.Machine.execTrcGetStatus q s
  | .trcMap q => Sys2Proof.Machine.execTrcMap q s
  | .trcRead q => Sys2Proof.Machine.execTrcRead q s
  | .qspiRead t addr len => Sys2Proof.Machine.execQspiRead t addr len s
  | .qspiWrite t addr bytes cut => Sys2Proof.Machine.execQspiWrite t addr bytes cut s
  | .qspiStatus t => Sys2Proof.Machine.execQspiStatus t s
  | .hprDoorbellWrite t port mask => Sys2Proof.Machine.execHprDoorbellWrite t port mask s
  | .slotTake t => Sys2Proof.Machine.execSlotTake t s
  | .hprDoneClear t port mask => Sys2Proof.Machine.execHprDoneClear t port mask s
  | .hprErrClear t mask => Sys2Proof.Machine.execHprErrClear t mask s
  | .hprHbTick t => Sys2Proof.Machine.execHprHbTick t s
  | .descriptorOwnWrite t port desc value partialWrite => Sys2Proof.Machine.execDescriptorOwnWrite t port desc value partialWrite s
  | .registerWrite t a r value => Sys2Proof.Machine.execRegisterWrite t a r value s
  | .mgmtRequest t net src frame => Sys2Proof.Machine.execMgmtRequest t net src frame s
  | .mgmtWaitTimeout t => Sys2Proof.Machine.execMgmtWaitTimeout t s
  | .winRead t net src frame => Sys2Proof.Machine.execWinRead t net src frame s
  | .winWrite t net src frame => Sys2Proof.Machine.execWinWrite t net src frame s
  | .wake t net frame => Sys2Proof.Machine.execWake t net frame s
  | .monVersion t => Sys2Proof.Machine.execMonVersion t s
  | .monTime t => Sys2Proof.Machine.execMonTime t s
  | .monTimer t us => Sys2Proof.Machine.execMonTimer t us s
  | .wdogSet t ms => Sys2Proof.Machine.execWdogSet t ms s
  | .wdogFeed t => Sys2Proof.Machine.execWdogFeed t s
  | .monRestart t => Sys2Proof.Machine.execMonRestart t s
  | .monitorTimerFire t => Sys2Proof.Machine.execMonitorTimerFire t s
  | .watchdogWarning t => Sys2Proof.Machine.execWatchdogWarning t s
  | .watchdogExpiry t => Sys2Proof.Machine.execWatchdogExpiry t s
  | .appStart t => Sys2Proof.Machine.execAppStart t s
  | .appRestart t cause => Sys2Proof.Machine.execAppRestart t cause s
  | .accessFault t addr size write => Sys2Proof.Machine.execAccessFault t addr size write s
  | .appMemoryError t dram correctable => Sys2Proof.Machine.execAppMemoryError t dram correctable s
  | .icuSourceEdge t g n => Sys2Proof.Machine.execIcuSourceEdge t g n s
  | .icuDecision t g => Sys2Proof.Machine.execIcuDecision t g s
  | .icuClaimRead t g => Sys2Proof.Machine.execIcuClaimRead t g s
  | .icuCompleteWrite t g value => Sys2Proof.Machine.execIcuCompleteWrite t g value s
  | .icuPendSet t g w mask => Sys2Proof.Machine.execIcuPendSet t g w mask s
  | .icuPendClr t g w mask => Sys2Proof.Machine.execIcuPendClr t g w mask s
  | .icuMaskSet t g w mask => Sys2Proof.Machine.execIcuMaskSet t g w mask s
  | .icuMaskClr t g w mask => Sys2Proof.Machine.execIcuMaskClr t g w mask s
  | .icuTgtEnWrite t g value => Sys2Proof.Machine.execIcuTgtEnWrite t g value s
  | .holdOffExpiry t g grp => Sys2Proof.Machine.execHoldOffExpiry t g grp s
  | .strandedTimeout t g n => Sys2Proof.Machine.execStrandedTimeout t g n s
  | .sourceRetarget t n g => Sys2Proof.Machine.execSourceRetarget t n g s
  | .tsuSnapWrite t value => Sys2Proof.Machine.execTsuSnapWrite t value s
  | .tsuEvtClear t app mask => Sys2Proof.Machine.execTsuEvtClear t app mask s
  | .tsuTrgCtrlWrite t app n value => Sys2Proof.Machine.execTsuTrgCtrlWrite t app n value s
  | .tsuCapPop t app n => Sys2Proof.Machine.execTsuCapPop t app n s
  | .triggerFire t n => Sys2Proof.Machine.execTriggerFire t n s
  | .captureEdge t n rising frac levelNs => Sys2Proof.Machine.execCaptureEdge t n rising frac levelNs s
  | .canTxqPutWrite t app c put => Sys2Proof.Machine.execCanTxqPutWrite t app c put s
  | .canCancel t app c => Sys2Proof.Machine.execCanCancel t app c s
  | .canRxqGetWrite t app c k get => Sys2Proof.Machine.execCanRxqGetWrite t app c k get s
  | .canCtrlWrite t app c value => Sys2Proof.Machine.execCanCtrlWrite t app c value s
  | .canFrameReceived t c f => Sys2Proof.Machine.execCanFrameReceived t c f s
  | .canTxComplete t c outcome => Sys2Proof.Machine.execCanTxComplete t c outcome s
  | .txHol t c => Sys2Proof.Machine.execTxHol t c s
  | .busOff t c => Sys2Proof.Machine.execBusOff t c s
  | .ethFrameReceived t port f => Sys2Proof.Machine.execEthFrameReceived t port f s
  | .linkLossReturn t port up => Sys2Proof.Machine.execLinkLossReturn t port up s
  | .syncMessage t port domain offset => Sys2Proof.Machine.execSyncMessage t port domain offset s
  | .announce t port domain m => Sys2Proof.Machine.execAnnounce t port domain m s
  | .announceTimeout t port => Sys2Proof.Machine.execAnnounceTimeout t port s
  | .pdelayReq t port domain turnaround => Sys2Proof.Machine.execPdelayReq t port domain turnaround s
  | .pdelayMeasurement t port delay => Sys2Proof.Machine.execPdelayMeasurement t port delay s
  | .servoUpdate t src offset => Sys2Proof.Machine.execServoUpdate t src offset s
  | .holdoverExpiry t => Sys2Proof.Machine.execHoldoverExpiry t s
  | .ppsInEdge t => Sys2Proof.Machine.execPpsInEdge t s
  | .vinLoss t vin => Sys2Proof.Machine.execVinLoss t vin s
  | .vinReturn t vin => Sys2Proof.Machine.execVinReturn t vin s
  | .holdupRampStep t => Sys2Proof.Machine.execHoldupRampStep t s
  | .holdupSwapRequest t => Sys2Proof.Machine.execHoldupSwapRequest t s
  | .holdupDisconnectStep t => Sys2Proof.Machine.execHoldupDisconnectStep t s
  | .mramWriteback t => Sys2Proof.Machine.execMramWriteback t s
  | .retentionEntry t => Sys2Proof.Machine.execRetentionEntry t s
  | .vbakCritical t vbak => Sys2Proof.Machine.execVbakCritical t vbak s
  | .vbakRetentionFloor t vbak => Sys2Proof.Machine.execVbakRetentionFloor t vbak s
  | .eAvailUpdate t vbak => Sys2Proof.Machine.execEAvailUpdate t vbak s
  | .capacitanceMeasurement t droop esr => Sys2Proof.Machine.execCapacitanceMeasurement t droop esr s
  | .floatEntry t => Sys2Proof.Machine.execFloatEntry t s
  | .dormantEntry t => Sys2Proof.Machine.execDormantEntry t s
  | .floatExit t => Sys2Proof.Machine.execFloatExit t s
  | .wakeEvent t w => Sys2Proof.Machine.execWakeEvent t w s
  | .floatClockRaise t instant => Sys2Proof.Machine.execFloatClockRaise t instant s
  | .clockFailure t d => Sys2Proof.Machine.execClockFailure t d s
  | .xrefRetry t ok => Sys2Proof.Machine.execXrefRetry t ok s
  | .onRequest t src => Sys2Proof.Machine.execOnRequest t src s
  | .minimumOffTimeEnd t => Sys2Proof.Machine.execMinimumOffTimeEnd t s
  | .powerupStepDone t failing => Sys2Proof.Machine.execPowerupStepDone t failing s
  | .powerUpFailure t => Sys2Proof.Machine.execPowerUpFailure t s
  | .bootListenEnd t => Sys2Proof.Machine.execBootListenEnd t s
  | .imageBootCheck t => Sys2Proof.Machine.execImageBootCheck t s
  | .railStart t r => Sys2Proof.Machine.execRailStart t r s
  | .railGood t r => Sys2Proof.Machine.execRailGood t r s
  | .startFailure t r => Sys2Proof.Machine.execStartFailure t r s
  | .railDischarge t r below => Sys2Proof.Machine.execRailDischarge t r below s
  | .systemPowerUpStart t => Sys2Proof.Machine.execSystemPowerUpStart t s
  | .seqStep t => Sys2Proof.Machine.execSeqStep t s
  | .reverseMarker t => Sys2Proof.Machine.execReverseMarker t s
  | .upBeacon t => Sys2Proof.Machine.execUpBeacon t s
  | .systemPowerDownStart t => Sys2Proof.Machine.execSystemPowerDownStart t s
  | .seqWatchEnd t seen => Sys2Proof.Machine.execSeqWatchEnd t seen s
  | .stuckLine t => Sys2Proof.Machine.execStuckLine t s
  | .seqCinHigh t => Sys2Proof.Machine.execSeqCinHigh t s
  | .preOffSteps t => Sys2Proof.Machine.execPreOffSteps t s
  | .preOffDisconnect t => Sys2Proof.Machine.execPreOffDisconnect t s
  | .runningRailFault t r => Sys2Proof.Machine.execRunningRailFault t r s
  | .railFaultHoldEnd t r => Sys2Proof.Machine.execRailFaultHoldEnd t r s
  | .pbNPress t heldMs => Sys2Proof.Machine.execPbNPress t heldMs s
  | .forcedOff t => Sys2Proof.Machine.execForcedOff t s
  | .mrN t => Sys2Proof.Machine.execMrN t s
  | .mrNRelease t => Sys2Proof.Machine.execMrNRelease t s
  | .shuntSample t obj code => Sys2Proof.Machine.execShuntSample t obj code s
  | .integratorCheckpoint t => Sys2Proof.Machine.execIntegratorCheckpoint t s
  | .calibrationStep t obj avg => Sys2Proof.Machine.execCalibrationStep t obj avg s
  | .calibrationSwap t obj ov => Sys2Proof.Machine.execCalibrationSwap t obj ov s
  | .overlapRepeat t obj dI => Sys2Proof.Machine.execOverlapRepeat t obj dI s
  | .voltageSample t ch value discarded beyond => Sys2Proof.Machine.execVoltageSample t ch value discarded beyond s
  | .insulationResult t rIso cE side => Sys2Proof.Machine.execInsulationResult t rIso cE side s
  | .injectionHandover t => Sys2Proof.Machine.execInjectionHandover t s
  | .fastTrip t obj charge => Sys2Proof.Machine.execFastTrip t obj charge s
  | .hviPlausibilityFailure t c obj => Sys2Proof.Machine.execHviPlausibilityFailure t c obj s
  | .roundTrigger t => Sys2Proof.Machine.execRoundTrigger t s
  | .roundRead t obj m => Sys2Proof.Machine.execRoundRead t obj m s
  | .roundClose t => Sys2Proof.Machine.execRoundClose t s
  | .beacon t obj => Sys2Proof.Machine.execBeacon t obj s
  | .beaconReturn t obj b => Sys2Proof.Machine.execBeaconReturn t obj b s
  | .sched t obj => Sys2Proof.Machine.execSched t obj s
  | .enumFrame t obj => Sys2Proof.Machine.execEnumFrame t obj s
  | .enumReturn t obj e => Sys2Proof.Machine.execEnumReturn t obj e s
  | .data t obj m seq kind d => Sys2Proof.Machine.execData t obj m seq kind d s
  | .ack t obj m seq code result value => Sys2Proof.Machine.execAck t obj m seq code result value s
  | .frameLost t obj m seq => Sys2Proof.Machine.execFrameLost t obj m seq s
  | .turnedFrame t obj m seq => Sys2Proof.Machine.execTurnedFrame t obj m seq s
  | .delay t obj link delayNs => Sys2Proof.Machine.execDelay t obj link delayNs s
  | .portDown t obj term => Sys2Proof.Machine.execPortDown t obj term s
  | .portUp t obj term => Sys2Proof.Machine.execPortUp t obj term s
  | .twoEndedOperation t obj => Sys2Proof.Machine.execTwoEndedOperation t obj s
  | .twoEndedExit t obj => Sys2Proof.Machine.execTwoEndedExit t obj s
  | .linkCrcBurst t obj pos port count => Sys2Proof.Machine.execLinkCrcBurst t obj pos port count s
  | .unaddressedMonitor t obj => Sys2Proof.Machine.execUnaddressedMonitor t obj s
  | .alarmDetailRead t obj m => Sys2Proof.Machine.execAlarmDetailRead t obj m s
  | .bleedSet t obj m own mask floor duration => Sys2Proof.Machine.execBleedSet t obj m own mask floor duration s
  | .bleedStop t obj m own mask => Sys2Proof.Machine.execBleedStop t obj m own mask s
  | .shuttleSet t obj m own a => Sys2Proof.Machine.execShuttleSet t obj m own a s
  | .shuttleStop t obj m own => Sys2Proof.Machine.execShuttleStop t obj m own s
  | .thrLoad t obj m own thr => Sys2Proof.Machine.execThrLoad t obj m own thr s
  | .linkDisable t obj m own port => Sys2Proof.Machine.execLinkDisable t obj m own port s
  | .linkEnable t obj m own port => Sys2Proof.Machine.execLinkEnable t obj m own port s
  | .thresholdReload t obj => Sys2Proof.Machine.execThresholdReload t obj s
  | .loadingWindowEnd t => Sys2Proof.Machine.execLoadingWindowEnd t s
  | .balanceRead t obj => Sys2Proof.Machine.execBalanceRead t obj s
  | .ceePeriod t => Sys2Proof.Machine.execCeePeriod t s
  | .deadlineFault t e => Sys2Proof.Machine.execDeadlineFault t e s
  | .stepRateChange t obj => Sys2Proof.Machine.execStepRateChange t obj s
  | .journalWrite t reason => Sys2Proof.Machine.execJournalWrite t reason s
  | .journalWriteDone t => Sys2Proof.Machine.execJournalWriteDone t s
  | .restWindowRequest t obj => Sys2Proof.Machine.execRestWindowRequest t obj s
  | .restWindowGrant t obj => Sys2Proof.Machine.execRestWindowGrant t obj s
  | .restWindowEnd t obj => Sys2Proof.Machine.execRestWindowEnd t obj s
  | .anchorOverdue t obj => Sys2Proof.Machine.execAnchorOverdue t obj s
  | .coreOffsetLearning t c => Sys2Proof.Machine.execCoreOffsetLearning t c s
  | .toneWindowEnd t ph => Sys2Proof.Machine.execToneWindowEnd t ph s
  | .impedanceRead t obj m block b => Sys2Proof.Machine.execImpedanceRead t obj m block b s
  | .impedancePublish t => Sys2Proof.Machine.execImpedancePublish t s
  | .blockMissing t obj m block => Sys2Proof.Machine.execBlockMissing t obj m block s
  | .precursorDelivery t => Sys2Proof.Machine.execPrecursorDelivery t s
  | .planEffect t => Sys2Proof.Machine.execPlanEffect t s
  | .injectionStart t pair => Sys2Proof.Machine.execInjectionStart t pair s
  | .injectionStop t pair => Sys2Proof.Machine.execInjectionStop t pair s
  | .windowStart t => Sys2Proof.Machine.execWindowStart t s
  | .tonePlan t obj => Sys2Proof.Machine.execTonePlan t obj s
  | .phasor t obj m => Sys2Proof.Machine.execPhasor t obj m s
  | .toneHalt t obj => Sys2Proof.Machine.execToneHalt t obj s
  | .tiSample t n r => Sys2Proof.Machine.execTiSample t n r s
  | .sensorRecovery t n => Sys2Proof.Machine.execSensorRecovery t n s
  | .planningCycle t obj => Sys2Proof.Machine.execPlanningCycle t obj s
  | .balancingStop t obj => Sys2Proof.Machine.execBalancingStop t obj s
  | .allowanceChange t => Sys2Proof.Machine.execAllowanceChange t s
  | .allocation t => Sys2Proof.Machine.execAllocation t s
  | .arming t => Sys2Proof.Machine.execArming t s
  | .setpointCommit t => Sys2Proof.Machine.execSetpointCommit t s
  | .requestExpiry t => Sys2Proof.Machine.execRequestExpiry t s
  | .slotPeriod t n cycles late => Sys2Proof.Machine.execSlotPeriod t n cycles late s
  | .bankSwap t n => Sys2Proof.Machine.execBankSwap t n s
  | .probeComplete t p => Sys2Proof.Machine.execProbeComplete t p s
  | .periodBoundary t p code => Sys2Proof.Machine.execPeriodBoundary t p code s
  | .pwmReadbackMismatch t p => Sys2Proof.Machine.execPwmReadbackMismatch t p s
  | .cycleByCycleLimit t p acted => Sys2Proof.Machine.execCycleByCycleLimit t p acted s
  | .phaseInputImplausible t p => Sys2Proof.Machine.execPhaseInputImplausible t p s
  | .braking t p => Sys2Proof.Machine.execBraking t p s
  | .brakingEnd t p => Sys2Proof.Machine.execBrakingEnd t p s
  | .phaseEvaluation t obj => Sys2Proof.Machine.execPhaseEvaluation t obj s
  | .estimateMode t p => Sys2Proof.Machine.execEstimateMode t p s
  | .estimateModeEnd t p => Sys2Proof.Machine.execEstimateModeEnd t p s
  | .reInterleave t obj => Sys2Proof.Machine.execReInterleave t obj s
  | .slotShift t obj => Sys2Proof.Machine.execSlotShift t obj s
  | .syncInLoss t obj => Sys2Proof.Machine.execSyncInLoss t obj s
  | .syncInRelock t obj => Sys2Proof.Machine.execSyncInRelock t obj s
  | .gx2Poll t obj r => Sys2Proof.Machine.execGx2Poll t obj r s
  | .gdbFlt t obj => Sys2Proof.Machine.execGdbFlt t obj s
  | .converterPause t obj cause => Sys2Proof.Machine.execConverterPause t obj cause s
  | .pauseEnd t obj => Sys2Proof.Machine.execPauseEnd t obj s
  | .converterStart t obj => Sys2Proof.Machine.execConverterStart t obj s
  | .softStartTimeout t obj => Sys2Proof.Machine.execSoftStartTimeout t obj s
  | .rampComplete t obj => Sys2Proof.Machine.execRampComplete t obj s
  | .coolingWaitEnd t obj fastTripTestPasses => Sys2Proof.Machine.execCoolingWaitEnd t obj fastTripTestPasses s
  | .prechargeComplete t obj => Sys2Proof.Machine.execPrechargeComplete t obj s
  | .prechargeFault t obj => Sys2Proof.Machine.execPrechargeFault t obj s
  | .connectedEntry t obj => Sys2Proof.Machine.execConnectedEntry t obj s
  | .closeRequest t obj => Sys2Proof.Machine.execCloseRequest t obj s
  | .closeRequestTimeout t obj => Sys2Proof.Machine.execCloseRequestTimeout t obj s
  | .cdbCycle t bus mirrors crcOk => Sys2Proof.Machine.execCdbCycle t bus mirrors crcOk s
  | .openSecondPole t obj => Sys2Proof.Machine.execOpenSecondPole t obj s
  | .weld t obj coil => Sys2Proof.Machine.execWeld t obj coil s
  | .bkrTripEnd t => Sys2Proof.Machine.execBkrTripEnd t s
  | .trip t ch obj sf => Sys2Proof.Machine.execTrip t ch obj sf s
  | .safetyInputSample t ch levels => Sys2Proof.Machine.execSafetyInputSample t ch levels s
  | .testPulse t n overload => Sys2Proof.Machine.execTestPulse t n overload s
  | .crossLinkPublish t => Sys2Proof.Machine.execCrossLinkPublish t s
  | .discrepancy t obj sf => Sys2Proof.Machine.execDiscrepancy t obj sf s
  | .silentPartner t => Sys2Proof.Machine.execSilentPartner t s
  | .setActivation t ch => Sys2Proof.Machine.execSetActivation t ch s
  | .stagedSetDiscard t => Sys2Proof.Machine.execStagedSetDiscard t s
  | .safePduReceived t ch net pdu => Sys2Proof.Machine.execSafePduReceived t ch net pdu s
  | .commWindowExpiry t ch net => Sys2Proof.Machine.execCommWindowExpiry t ch net s
  | .blackChannelPdu t ch net pdu => Sys2Proof.Machine.execBlackChannelPdu t ch net pdu s
  | .commWatchdogExpiry t ch => Sys2Proof.Machine.execCommWatchdogExpiry t ch s
  | .networkDown t ch net => Sys2Proof.Machine.execNetworkDown t ch net s
  | .degradeExpiry t ch => Sys2Proof.Machine.execDegradeExpiry t ch s
  | .heartbeatSend t => Sys2Proof.Machine.execHeartbeatSend t s
  | .beatReceived t beat => Sys2Proof.Machine.execBeatReceived t beat s
  | .takeover t => Sys2Proof.Machine.execTakeover t s
  | .claimFrame t st own claim => Sys2Proof.Machine.execClaimFrame t st own claim s
  | .dutyHoldExpiry t p => Sys2Proof.Machine.execDutyHoldExpiry t p s
  | .coilHoldExpiry t obj => Sys2Proof.Machine.execCoilHoldExpiry t obj s
  | .yield t => Sys2Proof.Machine.execYield t s
  | .higherClaimSeen t claim => Sys2Proof.Machine.execHigherClaimSeen t claim s
  | .peerMessage t m => Sys2Proof.Machine.execPeerMessage t m s
  | .heartbeat t => Sys2Proof.Machine.execHeartbeat t s
  | .peerBeatLoss t => Sys2Proof.Machine.execPeerBeatLoss t s
  | .peerDown t => Sys2Proof.Machine.execPeerDown t s
  | .partnerAbsent t => Sys2Proof.Machine.execPartnerAbsent t s
  | .dormantPartnerTimeout t => Sys2Proof.Machine.execDormantPartnerTimeout t s
  | .peerState t => Sys2Proof.Machine.execPeerState t s
  | .swap t => Sys2Proof.Machine.execSwap t s
  | .swapVerify t cdbAck gateOk => Sys2Proof.Machine.execSwapVerify t cdbAck gateOk s
  | .scheduledSwapDue t => Sys2Proof.Machine.execScheduledSwapDue t s
  | .swapOverdue t => Sys2Proof.Machine.execSwapOverdue t s
  | .resyncStep t => Sys2Proof.Machine.execResyncStep t s
  | .resyncTimeout t => Sys2Proof.Machine.execResyncTimeout t s
  | .shadow t v => Sys2Proof.Machine.execShadow t v s
  | .pmbusPoll t r => Sys2Proof.Machine.execPmbusPoll t r s
  | .pmbusAlert t segment words => Sys2Proof.Machine.execPmbusAlert t segment words s
  | .rectifierRejoin t r => Sys2Proof.Machine.execRectifierRejoin t r s
  | .acLoss t => Sys2Proof.Machine.execAcLoss t s
  | .acReturn t => Sys2Proof.Machine.execAcReturn t s
  | .shelfLow t => Sys2Proof.Machine.execShelfLow t s
  | .shelfCut t => Sys2Proof.Machine.execShelfCut t s
  | .shelfFull t => Sys2Proof.Machine.execShelfFull t s
  | .capEvaluation t => Sys2Proof.Machine.execCapEvaluation t s
  | .shedRestore t => Sys2Proof.Machine.execShedRestore t s
  | .efuseSample t n v => Sys2Proof.Machine.execEfuseSample t n v s
  | .insertionDelayEnd t n => Sys2Proof.Machine.execInsertionDelayEnd t n s
  | .windowExit t n => Sys2Proof.Machine.execWindowExit t n s
  | .efuseFastTrip t n => Sys2Proof.Machine.execEfuseFastTrip t n s
  | .softStartExpiry t n => Sys2Proof.Machine.execSoftStartExpiry t n s
  | .powerGood t n => Sys2Proof.Machine.execPowerGood t n s
  | .gateFault t n => Sys2Proof.Machine.execGateFault t n s
  | .efuseFault t n f => Sys2Proof.Machine.execEfuseFault t n f s
  | .retryTimerExpiry t n => Sys2Proof.Machine.execRetryTimerExpiry t n s
  | .faultCountClear t n => Sys2Proof.Machine.execFaultCountClear t n s
  | .detectedError t unit rule detail => Sys2Proof.Machine.execDetectedError t unit rule detail s
  | .selfTestOutcome t unit outcome => Sys2Proof.Machine.execSelfTestOutcome t unit outcome s
  | .memoryError t mem word uncorrectable => Sys2Proof.Machine.execMemoryError t mem word uncorrectable s
  | .scrubPass t a => Sys2Proof.Machine.execScrubPass t a s
  | .imbalance t row obj amount => Sys2Proof.Machine.execImbalance t row obj amount s
  | .recordSubmit t r => Sys2Proof.Machine.execRecordSubmit t r s
  | .dormantRecordFlush t => Sys2Proof.Machine.execDormantRecordFlush t s
  | .chunkFlush t => Sys2Proof.Machine.execChunkFlush t s
  | .preEraseComplete t => Sys2Proof.Machine.execPreEraseComplete t s
  | .supHandoverAdopt t ok => Sys2Proof.Machine.execSupHandoverAdopt t ok s
  | .handoverWindowExceeded t => Sys2Proof.Machine.execHandoverWindowExceeded t s
  | .spActivationTimeout t => Sys2Proof.Machine.execSpActivationTimeout t s
  | .trialConfirmation t part => Sys2Proof.Machine.execTrialConfirmation t part s
  | .trialWindowExpiry t part => Sys2Proof.Machine.execTrialWindowExpiry t part s
  | .fallback t part => Sys2Proof.Machine.execFallback t part s
  | .recoveryEntry t => Sys2Proof.Machine.execRecoveryEntry t s
  | .fwBegin t obj m len => Sys2Proof.Machine.execFwBegin t obj m len s
  | .fwData t obj m offset bytes => Sys2Proof.Machine.execFwData t obj m offset bytes s
  | .fwEnd t obj m crc => Sys2Proof.Machine.execFwEnd t obj m crc s
  | .fwSwitch t obj m startsOk => Sys2Proof.Machine.execFwSwitch t obj m startsOk s
  | .monitorReturnTimeout t obj m => Sys2Proof.Machine.execMonitorReturnTimeout t obj m s
  | .driverConfigLoad t cx driver accepted => Sys2Proof.Machine.execDriverConfigLoad t cx driver accepted s
  | .beaconTimeout t obj m => Sys2Proof.Machine.execBeaconTimeout t obj m s
  | .monitorRestart t obj m => Sys2Proof.Machine.execMonitorRestart t obj m s
  | .hardwareComparatorAlarm t obj m k ch => Sys2Proof.Machine.execHardwareComparatorAlarm t obj m k ch s
  | .bleedEnd t obj m ch vMv => Sys2Proof.Machine.execBleedEnd t obj m ch vMv s
  | .shuttleEnd t obj m vMv => Sys2Proof.Machine.execShuttleEnd t obj m vMv s
  | .busOffRecovery t c => Sys2Proof.Machine.execBusOffRecovery t c s
  | .supRestart t => Sys2Proof.Machine.execSupRestart t s
  | .auxSample t vsns shelfUv acOk => Sys2Proof.Machine.execAuxSample t vsns shelfUv acOk s

end Sys2Proof.Machine
end

