-- ==== Sys2Proof/WellFormed.lean ====
section
/-! DEFINITION. Which commands are well formed: the ranges of operands that a port, a bus or an instant can bring. A meaning is
total on the others too; an index outside the population has no effect there. -/

namespace Sys2Proof

/-- An envelope of R433: a payload of at most 240 bytes, a 16-bit sequence number, one of the 16 slots of the port. -/
def Req.wf (q : Req) : Bool := decide (q.payload.length ≤ 240) && decide (q.seq < 65536) &&
  (match q.slot with | none => true | some n => decide (n < 16))

/-- An output stage that exists in the larger variant. -/
def Stage.wf : Stage → Bool
  | .gx2 p => decide (p < 32)
  | .cx4 i => decide (i < 8)

/-- The operands of a command lie in their ranges. -/
def Instr.wf (c : Instr) : Bool :=
  match c with
  | .sysGetInfo q => q.wf
  | .sysGetStatus q => q.wf
  | .sysEcho q => q.wf
  | .sysRestart q => q.wf
  | .sysSetPowerPolicy q => q.wf
  | .sysGetPowerState q => q.wf
  | .sysSetVbak q => q.wf
  | .sysSetAlarm q => q.wf
  | .sysSetTi q => q.wf
  | .sysGetTi q => q.wf
  | .sysSetThermalWarn q => q.wf
  | .sysGetThermal q => q.wf
  | .sysWinAlloc q => q.wf
  | .sysWinFree q => q.wf
  | .sysSetSlots q => q.wf
  | .strGetState q => q.wf
  | .strConnect q => q.wf
  | .strDisconnect q => q.wf
  | .strRegulate q => q.wf
  | .strIdle q => q.wf
  | .strReset q => q.wf
  | .strRetire q => q.wf
  | .strRestore q => q.wf
  | .strGetMeas q => q.wf
  | .strSetShunt q => q.wf
  | .strGetCal q => q.wf
  | .strSetIso q => q.wf
  | .strGetIso q => q.wf
  | .strClearMeasFlags q => q.wf
  | .strSetRing q => q.wf
  | .strEnumerate q => q.wf
  | .strRingLink q => q.wf
  | .strGetRing q => q.wf
  | .strGetRound q => q.wf
  | .dspSetRequest q => q.wf
  | .dspCancel q => q.wf
  | .dspGetStatus q => q.wf
  | .dspGetQueue q => q.wf
  | .dspSetConfig q => q.wf
  | .dspGetConfig q => q.wf
  | .estSetConfig q => q.wf
  | .estGetConfig q => q.wf
  | .estGetCells q => q.wf
  | .estMapTable q => q.wf
  | .estGetSop q => q.wf
  | .estSetSoc q => q.wf
  | .estResetCell q => q.wf
  | .estJournal q => q.wf
  | .estRequestAnchor q => q.wf
  | .estGetStatus q => q.wf
  | .tpeSetPlan q => q.wf
  | .tpeGetPlan q => q.wf
  | .tpeGetResults q => q.wf
  | .tpeMapResults q => q.wf
  | .tpeGetPrecursor q => q.wf
  | .tpeGetStatus q => q.wf
  | .balSetConfig q => q.wf
  | .balGetConfig q => q.wf
  | .balSetBudget q => q.wf
  | .balHold q => q.wf
  | .balGetPlan q => q.wf
  | .balGetLedger q => q.wf
  | .cnvSetConfig q => q.wf
  | .cnvGetConfig q => q.wf
  | .cnvSetSlot q => q.wf
  | .cnvGetStatus q => q.wf
  | .cnvPhaseDisable q => q.wf
  | .cnvPhaseRestore q => q.wf
  | .cnvGetDrivers q => q.wf
  | .lepLoadDesc q => q.wf
  | .lepClearSlot q => q.wf
  | .lepGetDesc q => q.wf
  | .lepSetCoef q => q.wf
  | .lepGetCoef q => q.wf
  | .lepSwap q => q.wf
  | .lepLoadLut q => q.wf
  | .lepGetLut q => q.wf
  | .lepSetParam q => q.wf
  | .lepGetOutput q => q.wf
  | .lepGetStatus q => q.wf
  | .safStage q => q.wf
  | .safGetStaged q => q.wf
  | .safCommit q => q.wf
  | .safDiscard q => q.wf
  | .safGetSet q => q.wf
  | .safGetStatus q => q.wf
  | .safGetInputs q => q.wf
  | .redGetStatus q => q.wf
  | .redSetConfig q => q.wf
  | .redGetConfig q => q.wf
  | .redSwap q => q.wf
  | .redPostpone q => q.wf
  | .redGetShadow q => q.wf
  | .auxSetBus q => q.wf
  | .auxGetBus q => q.wf
  | .auxSetCap q => q.wf
  | .auxSetFan q => q.wf
  | .auxGetStatus q => q.wf
  | .auxSetEf q => q.wf
  | .auxGetEf q => q.wf
  | .auxEfOn q => q.wf
  | .auxEfOff q => q.wf
  | .auxEfReset q => q.wf
  | .seqSetTable q => q.wf
  | .seqGetTable q => q.wf
  | .seqGetStatus q => q.wf
  | .seqOff q => q.wf
  | .seqCancelOff q => q.wf
  | .timGetTime q => q.wf
  | .timGetStatus q => q.wf
  | .timSetConfig q => q.wf
  | .timGetConfig q => q.wf
  | .timSetTime q => q.wf
  | .timSetTrigger q => q.wf
  | .timGetTrigger q => q.wf
  | .timSetCapture q => q.wf
  | .timReadCapture q => q.wf
  | .timDelegate q => q.wf
  | .netSetPort q => q.wf
  | .netGetPort q => q.wf
  | .netGetStats q => q.wf
  | .netSetMgmt q => q.wf
  | .netGetMgmt q => q.wf
  | .canSetConfig q => q.wf
  | .canGetConfig q => q.wf
  | .canSetFilter q => q.wf
  | .canSend q => q.wf
  | .canRead q => q.wf
  | .canGetStatus q => q.wf
  | .canDelegate q => q.wf
  | .logGetStatus q => q.wf
  | .logRead q => q.wf
  | .logClear q => q.wf
  | .updGetVersions q => q.wf
  | .updBegin q => q.wf
  | .updChunk q => q.wf
  | .updGetStatus q => q.wf
  | .updVerify q => q.wf
  | .updActivate q => q.wf
  | .updConfirm q => q.wf
  | .updAbort q => q.wf
  | .trcSetProbe q => q.wf
  | .trcArm q => q.wf
  | .trcStop q => q.wf
  | .trcGetStatus q => q.wf
  | .trcMap q => q.wf
  | .trcRead q => q.wf
  | .qspiRead _ addr _ => decide (addr < 2 ^ 32)
  | .qspiWrite _ addr _ _ => decide (addr < 2 ^ 32)
  | .qspiStatus _ => true
  | .hprDoorbellWrite _ _ _ => true
  | .slotTake _ => true
  | .hprDoneClear _ _ _ => true
  | .hprErrClear _ _ => true
  | .hprHbTick _ => true
  | .descriptorOwnWrite _ _ desc value _ => decide (desc < 256) && decide (value < 2 ^ 32)
  | .registerWrite _ _ _ _ => true
  | .mgmtRequest _ net _ _ => decide (net < 4)
  | .mgmtWaitTimeout _ => true
  | .winRead _ net _ _ => decide (net < 4)
  | .winWrite _ net _ _ => decide (net < 4)
  | .wake _ net _ => decide (net < 4)
  | .monVersion _ => true
  | .monTime _ => true
  | .monTimer _ us => decide (us < 2 ^ 64)
  | .wdogSet _ ms => decide (ms < 2 ^ 32)
  | .wdogFeed _ => true
  | .monRestart _ => true
  | .monitorTimerFire _ => true
  | .watchdogWarning _ => true
  | .watchdogExpiry _ => true
  | .appStart _ => true
  | .appRestart _ cause => decide (1 ≤ cause ∧ cause ≤ 5)
  | .accessFault _ _ _ _ => true
  | .appMemoryError _ _ _ => true
  | .icuSourceEdge _ _ n => decide (n < 256)
  | .icuDecision _ _ => true
  | .icuClaimRead _ _ => true
  | .icuCompleteWrite _ _ _ => true
  | .icuPendSet _ _ w _ => decide (w < 8)
  | .icuPendClr _ _ w _ => decide (w < 8)
  | .icuMaskSet _ _ w _ => decide (w < 8)
  | .icuMaskClr _ _ w _ => decide (w < 8)
  | .icuTgtEnWrite _ _ _ => true
  | .holdOffExpiry _ _ grp => decide (grp < 16)
  | .strandedTimeout _ _ n => decide (n < 256)
  | .sourceRetarget _ n _ => decide (n < 256)
  | .tsuSnapWrite _ _ => true
  | .tsuEvtClear _ _ _ => true
  | .tsuTrgCtrlWrite _ _ n _ => decide (n < 16)
  | .tsuCapPop _ _ n => decide (n < 16)
  | .triggerFire _ n => decide (n < 16)
  | .captureEdge _ n _ _ _ => decide (n < 16)
  | .canTxqPutWrite _ _ c put => decide (c < 4) && decide (put < 256)
  | .canCancel _ _ c => decide (c < 4)
  | .canRxqGetWrite _ _ c k get => decide (c < 4) && decide (k < 2) && decide (get < 256)
  | .canCtrlWrite _ _ c _ => decide (c < 4)
  | .canFrameReceived _ c f => decide (c < 4) && decide (f.id < 2 ^ 29) && decide (f.dlc < 16) && decide (f.bytes.length ≤ 64)
  | .canTxComplete _ c outcome => decide (c < 4) && decide (outcome < 3)
  | .txHol _ c => decide (c < 4)
  | .busOff _ c => decide (c < 4)
  | .ethFrameReceived _ port _ => decide (port < 4)
  | .linkLossReturn _ port _ => decide (port < 4)
  | .syncMessage _ port _ _ => decide (port < 4)
  | .announce _ port _ _ => decide (port < 4)
  | .announceTimeout _ port => decide (port < 4)
  | .pdelayReq _ port _ _ => decide (port < 4)
  | .pdelayMeasurement _ port _ => decide (port < 4)
  | .servoUpdate _ _ _ => true
  | .holdoverExpiry _ => true
  | .ppsInEdge _ => true
  | .vinLoss _ _ => true
  | .vinReturn _ _ => true
  | .holdupRampStep _ => true
  | .holdupSwapRequest _ => true
  | .holdupDisconnectStep _ => true
  | .mramWriteback _ => true
  | .retentionEntry _ => true
  | .vbakCritical _ _ => true
  | .vbakRetentionFloor _ _ => true
  | .eAvailUpdate _ _ => true
  | .capacitanceMeasurement _ _ _ => true
  | .floatEntry _ => true
  | .dormantEntry _ => true
  | .floatExit _ => true
  | .wakeEvent _ _ => true
  | .floatClockRaise _ _ => true
  | .clockFailure _ _ => true
  | .xrefRetry _ _ => true
  | .onRequest _ _ => true
  | .minimumOffTimeEnd _ => true
  | .powerupStepDone _ _ => true
  | .powerUpFailure _ => true
  | .bootListenEnd _ => true
  | .imageBootCheck _ => true
  | .railStart _ r => decide (r < 32)
  | .railGood _ r => decide (r < 32)
  | .startFailure _ r => decide (r < 32)
  | .railDischarge _ r _ => decide (r < 32)
  | .systemPowerUpStart _ => true
  | .seqStep _ => true
  | .reverseMarker _ => true
  | .upBeacon _ => true
  | .systemPowerDownStart _ => true
  | .seqWatchEnd _ _ => true
  | .stuckLine _ => true
  | .seqCinHigh _ => true
  | .preOffSteps _ => true
  | .preOffDisconnect _ => true
  | .runningRailFault _ r => decide (r < 32)
  | .railFaultHoldEnd _ r => decide (r < 32)
  | .pbNPress _ _ => true
  | .forcedOff _ => true
  | .mrN _ => true
  | .mrNRelease _ => true
  | .shuntSample _ i _ => decide (i < 8)
  | .integratorCheckpoint _ => true
  | .calibrationStep _ i _ => decide (i < 8)
  | .calibrationSwap _ i _ => decide (i < 8)
  | .overlapRepeat _ i _ => decide (i < 8)
  | .voltageSample _ ch _ _ _ => decide (ch < 11)
  | .insulationResult _ _ _ _ => true
  | .injectionHandover _ => true
  | .fastTrip _ i _ => decide (i < 8)
  | .hviPlausibilityFailure _ _ i => decide (i < 16)
  | .roundTrigger _ => true
  | .roundRead _ i m => decide (i < 8) && decide (m < 16)
  | .roundClose _ => true
  | .beacon _ i => decide (i < 8)
  | .beaconReturn _ i b => decide (i < 8) && decide (b.term < 2)
  | .sched _ i => decide (i < 8)
  | .enumFrame _ i => decide (i < 8)
  | .enumReturn _ i _ => decide (i < 8)
  | .data _ i m seq kind _ => decide (i < 8) && decide (m < 16) && decide (seq < 256) && decide (kind < 4)
  | .ack _ i m seq code result value => decide (i < 8) && decide (m < 16) && decide (seq < 256) && decide (code < 256) && decide (result < 256) && decide (value < 2 ^ 32)
  | .frameLost _ i m seq => decide (i < 8) && decide (m < 16) && decide (seq < 256)
  | .turnedFrame _ i m seq => decide (i < 8) && decide (m < 16) && decide (seq < 256)
  | .delay _ i link _ => decide (i < 8) && decide (link < 17)
  | .portDown _ i term => decide (i < 8) && decide (term < 2)
  | .portUp _ i term => decide (i < 8) && decide (term < 2)
  | .twoEndedOperation _ i => decide (i < 8)
  | .twoEndedExit _ i => decide (i < 8)
  | .linkCrcBurst _ i pos port _ => decide (i < 8) && decide (pos < 16) && decide (port < 2)
  | .unaddressedMonitor _ i => decide (i < 8)
  | .alarmDetailRead _ i m => decide (i < 8) && decide (m < 16)
  | .bleedSet _ i m _ _ _ _ => decide (i < 8) && decide (m < 16)
  | .bleedStop _ i m _ _ => decide (i < 8) && decide (m < 16)
  | .shuttleSet _ i m _ _ => decide (i < 8) && decide (m < 16)
  | .shuttleStop _ i m _ => decide (i < 8) && decide (m < 16)
  | .thrLoad _ i m _ _ => decide (i < 8) && decide (m < 16)
  | .linkDisable _ i m _ port => decide (i < 8) && decide (m < 16) && decide (port < 2)
  | .linkEnable _ i m _ port => decide (i < 8) && decide (m < 16) && decide (port < 2)
  | .thresholdReload _ i => decide (i < 8)
  | .loadingWindowEnd _ => true
  | .balanceRead _ i => decide (i < 8)
  | .ceePeriod _ => true
  | .deadlineFault _ _ => true
  | .stepRateChange _ i => decide (i < 8)
  | .journalWrite _ reason => decide (reason < 6)
  | .journalWriteDone _ => true
  | .restWindowRequest _ i => decide (i < 8)
  | .restWindowGrant _ i => decide (i < 8)
  | .restWindowEnd _ i => decide (i < 8)
  | .anchorOverdue _ i => decide (i < 8)
  | .coreOffsetLearning _ c => decide (c < 4096)
  | .toneWindowEnd _ _ => true
  | .impedanceRead _ i m block _ => decide (i < 8) && decide (m < 16) && decide (block < 4)
  | .impedancePublish _ => true
  | .blockMissing _ i m block => decide (i < 8) && decide (m < 16) && decide (block < 4)
  | .precursorDelivery _ => true
  | .planEffect _ => true
  | .injectionStart _ pair => decide (pair < 4)
  | .injectionStop _ pair => decide (pair < 4)
  | .windowStart _ => true
  | .tonePlan _ i => decide (i < 8)
  | .phasor _ i m => decide (i < 8) && decide (m < 16)
  | .toneHalt _ i => decide (i < 8)
  | .tiSample _ n _ => decide (n < 24)
  | .sensorRecovery _ n => decide (n < 1048)
  | .planningCycle _ i => decide (i < 8)
  | .balancingStop _ i => decide (i < 8)
  | .allowanceChange _ => true
  | .allocation _ => true
  | .arming _ => true
  | .setpointCommit _ => true
  | .requestExpiry _ => true
  | .slotPeriod _ n _ _ => decide (n < 128)
  | .bankSwap _ n => decide (n < 128)
  | .probeComplete _ p => decide (p < 16)
  | .periodBoundary _ p _ => decide (p < 32)
  | .pwmReadbackMismatch _ p => decide (p < 32)
  | .cycleByCycleLimit _ p _ => decide (p < 32)
  | .phaseInputImplausible _ p => decide (p < 32)
  | .braking _ p => decide (p < 32)
  | .brakingEnd _ p => decide (p < 32)
  | .phaseEvaluation _ i => decide (i < 8)
  | .estimateMode _ p => decide (p < 32)
  | .estimateModeEnd _ p => decide (p < 32)
  | .reInterleave _ i => decide (i < 8)
  | .slotShift _ i => decide (i < 8)
  | .syncInLoss _ i => decide (i < 8)
  | .syncInRelock _ i => decide (i < 8)
  | .gx2Poll _ i _ => decide (i < 8)
  | .gdbFlt _ i => decide (i < 8)
  | .converterPause _ i _ => decide (i < 8)
  | .pauseEnd _ i => decide (i < 8)
  | .converterStart _ i => decide (i < 8)
  | .softStartTimeout _ i => decide (i < 8)
  | .rampComplete _ i => decide (i < 8)
  | .coolingWaitEnd _ i _ => decide (i < 8)
  | .prechargeComplete _ i => decide (i < 8)
  | .prechargeFault _ i => decide (i < 8)
  | .connectedEntry _ i => decide (i < 8)
  | .closeRequest _ i => decide (i < 8)
  | .closeRequestTimeout _ i => decide (i < 8)
  | .cdbCycle _ bus _ _ => decide (bus < 2)
  | .openSecondPole _ i => decide (i < 8)
  | .weld _ i coil => decide (i < 8) && decide (coil < 4)
  | .bkrTripEnd _ => true
  | .trip _ _ i _ => decide (i < 8)
  | .safetyInputSample _ _ _ => true
  | .testPulse _ n _ => decide (n < 8)
  | .crossLinkPublish _ => true
  | .discrepancy _ i _ => decide (i < 8)
  | .silentPartner _ => true
  | .setActivation _ _ => true
  | .stagedSetDiscard _ => true
  | .safePduReceived _ _ net _ => decide (net < 4)
  | .commWindowExpiry _ _ net => decide (net < 4)
  | .blackChannelPdu _ _ net _ => decide (net < 4)
  | .commWatchdogExpiry _ _ => true
  | .networkDown _ _ net => decide (net < 4)
  | .degradeExpiry _ _ => true
  | .heartbeatSend _ => true
  | .beatReceived _ beat => decide (beat.length ≤ 4096)
  | .takeover _ => true
  | .claimFrame _ st _ claim => decide (claim < 2 ^ 32) && st.wf
  | .dutyHoldExpiry _ p => decide (p < 32)
  | .coilHoldExpiry _ i => decide (i < 8)
  | .yield _ => true
  | .higherClaimSeen _ claim => decide (claim < 2 ^ 32)
  | .peerMessage _ m => decide (m.seq < 2 ^ 32) && decide (m.claim < 2 ^ 32) && decide (m.role < 256) && decide (m.ackSeq < 2 ^ 32)
  | .heartbeat _ => true
  | .peerBeatLoss _ => true
  | .peerDown _ => true
  | .partnerAbsent _ => true
  | .dormantPartnerTimeout _ => true
  | .peerState _ => true
  | .swap _ => true
  | .swapVerify _ _ _ => true
  | .scheduledSwapDue _ => true
  | .swapOverdue _ => true
  | .resyncStep _ => true
  | .resyncTimeout _ => true
  | .shadow _ v => decide (v.row < 6)
  | .pmbusPoll _ _ => true
  | .pmbusAlert _ segment _ => decide (segment < 2)
  | .rectifierRejoin _ r => decide (r < 16)
  | .acLoss _ => true
  | .acReturn _ => true
  | .shelfLow _ => true
  | .shelfCut _ => true
  | .shelfFull _ => true
  | .capEvaluation _ => true
  | .shedRestore _ => true
  | .efuseSample _ n _ => decide (n < 16)
  | .insertionDelayEnd _ n => decide (n < 16)
  | .windowExit _ n => decide (n < 16)
  | .efuseFastTrip _ n => decide (n < 16)
  | .softStartExpiry _ n => decide (n < 16)
  | .powerGood _ n => decide (n < 16)
  | .gateFault _ n => decide (n < 16)
  | .efuseFault _ n _ => decide (n < 16)
  | .retryTimerExpiry _ n => decide (n < 16)
  | .faultCountClear _ n => decide (n < 16)
  | .detectedError _ unit _ _ => decide (unit < 65536)
  | .selfTestOutcome _ unit outcome => decide (unit < 65536) && decide (outcome < 3)
  | .memoryError _ _ _ _ => true
  | .scrubPass _ _ => true
  | .imbalance _ _ _ _ => true
  | .recordSubmit _ _ => true
  | .dormantRecordFlush _ => true
  | .chunkFlush _ => true
  | .preEraseComplete _ => true
  | .supHandoverAdopt _ _ => true
  | .handoverWindowExceeded _ => true
  | .spActivationTimeout _ => true
  | .trialConfirmation _ part => decide (part < 4)
  | .trialWindowExpiry _ part => decide (part < 4)
  | .fallback _ part => decide (part < 4)
  | .recoveryEntry _ => true
  | .fwBegin _ i m len => decide (i < 8) && decide (m < 16) && decide (len < 2 ^ 32)
  | .fwData _ i m offset _ => decide (i < 8) && decide (m < 16) && decide (offset < 2 ^ 32)
  | .fwEnd _ i m crc => decide (i < 8) && decide (m < 16) && decide (crc < 2 ^ 32)
  | .fwSwitch _ i m _ => decide (i < 8) && decide (m < 16)
  | .monitorReturnTimeout _ i m => decide (i < 8) && decide (m < 16)
  | .driverConfigLoad _ _ driver _ => decide (driver < 32)
  | .beaconTimeout _ i m => decide (i < 8) && decide (m < 16)
  | .monitorRestart _ i m => decide (i < 8) && decide (m < 16)
  | .hardwareComparatorAlarm _ i m _ ch => decide (i < 8) && decide (m < 16) && decide (ch < 32)
  | .bleedEnd _ i m ch _ => decide (i < 8) && decide (m < 16) && decide (ch < 32)
  | .shuttleEnd _ i m _ => decide (i < 8) && decide (m < 16)
  | .busOffRecovery _ c => decide (c < 4)
  | .supRestart _ => true
  | .auxSample _ _ _ _ => true

end Sys2Proof
end

