-- ==== Sys2Proof/Safety.lean ====
section
/-! DEFINITION. The words the statements use: when a request is taken, what answers it, and what a safe state is. -/

namespace Sys2Proof.Machine

/-- SUP takes request `q` now: the command set runs, `q` is no retry, and its reserved envelope fields are 0
(15_host_interface.md R433, R437, R449). -/
abbrev Taken (s : State) (q : Req) : Prop := takes s = true ∧ q.retry = false ∧ q.envBad = none

/-- A request that stands in a mailbox slot stands in one of the 16 (R428). -/
abbrev SlotOk (q : Req) : Prop := q.slot.all (fun n => decide (n < 16)) = true

/-- The newest completion is that of `q`, now, with this status, detail and payload (15_host_interface.md R433, R434). -/
abbrev Answered (u : State) (q : Req) (op status detail : Nat) (payload : Bytes) : Prop :=
  u.hpr.lastDone = some { port := q.port, slot := q.slot, seq := q.seq, opcode := op, status := status, detail := detail
                          payload := payload, at_ := u.clk }

/-- The unit holds the ACTIVE role or SOLO (01_system.md R24). -/
abbrev Commands (s : State) : Prop := s.unit = .active ∨ s.unit = .solo

/-- No partner's acknowledgement is needed (11_redundancy.md R344). -/
abbrev Alone (s : State) : Prop := ackNeeded s = false

/-- The command set serves a command of the roles "all" whose rows are marked neither H nor V (15_host_interface.md R452). -/
abbrev AnyRole (s : State) : Prop := s.unit.isRole = true

/-- A payload of form I that names object `i`; a descriptor in it, where it names one, passes its checks (R440, R452). -/
abbrev FormI (s : State) (q : Req) (i : Nat) : Prop :=
  q.payload.length = 4 ∧ getU q.payload 0 1 = i ∧ getU q.payload 1 1 = 0 ∧
    (getU q.payload 2 2 = noDesc ∨ descOk s q (getU q.payload 2 2) 0 = true)

/-- Both memories hold no byte equal to what an unlisted address reads as, at strictly rising addresses. -/
abbrev MemOk (s : State) : Prop := Memory.wf s.mem = true ∧ Memory.wf s.canRam = true

/-- Command `i` completes: it answers a next state, of which `P` holds. -/
abbrev Does (i : Instr) (s : State) (P : State → Prop) : Prop := ∃ u, exec i s = .next u ∧ P u

/-- From `s` to `u` only the host interface has moved: HPR, the bytes of slots and window, interrupt sources, and the instant
of the newest command (15_host_interface.md R433, R434; 02_power_states_clocks.md R41). -/
abbrev HostOnly (s u : State) : Prop := u = { touch s with hpr := u.hpr, mem := u.mem, icu := u.icu }

/-- No byte outside the 256 of the request's slot has changed. -/
def SlotOnly (s : State) (q : Req) (u : State) : Prop :=
  ∀ a, (∀ n, q.slot = some n → a < slotAddr n ∨ slotAddr n + 256 ≤ a) → memRead u.mem a = memRead s.mem a

/-- Command `q` keeps executing until the partner has acknowledged the newest message, of type `ty` (11_redundancy.md R344). -/
abbrev Waits (u : State) (q : Req) (op ty : Nat) : Prop :=
  u.red.peerOut.head? = some ty ∧ (∃ w ∈ u.red.ackWait, w.exec.req = q ∧ w.exec.opcode = op ∧ w.seq = u.red.peerTx) ∧
    ∃ e ∈ u.hpr.exec, e.req = q ∧ e.opcode = op

/-- A command that changes what the pair replicates has been carried out: answered OK where no partner's acknowledgement is
needed, and otherwise waiting for it (R344). -/
abbrev Done1 (s u : State) (q : Req) (op ty : Nat) (payload : Bytes) : Prop :=
  if ackNeeded s then Waits u q op ty else Answered u q op stOk 0 payload

/-- What the buffer of descriptor `d` holds: `b`, from its first byte on. -/
abbrev BufHolds (s u : State) (d : Nat) (b : Bytes) : Prop :=
  memReads u.mem (windowBase + (s.desc d).offset) b.length = b ∧ (s.hpr.desc.length = 256 → (u.desc d).used = b.length)

/-- The commands that return data and take no argument, with opcode and response (15_host_interface.md *Opcodes*). -/
def noneGets : List ((Req → Instr) × Nat × (State → Bytes)) :=
  [(.sysGetInfo, 0x0101, sysInfo), (.sysGetStatus, 0x0102, sysStatus), (.sysGetPowerState, 0x0106, powerInfo),
   (.strGetIso, 0x020D, isoInfo), (.dspGetStatus, 0x0303, dspStatus), (.dspGetConfig, 0x0306, dspCfg),
   (.estGetStatus, 0x040A, estStatus), (.tpeGetPlan, 0x0502, planInfo), (.tpeGetStatus, 0x0506, tpeStatus),
   (.safGetStaged, 0x0902, safStaged), (.safGetInputs, 0x0907, safInputs), (.redGetConfig, 0x0A03, pairCfg),
   (.auxGetBus, 0x0B02, busCfg), (.timGetTime, 0x0D01, timeBytes), (.timGetStatus, 0x0D02, timStatus),
   (.timGetConfig, 0x0D04, timCfg), (.netGetMgmt, 0x0E05, mgmtBytes), (.logGetStatus, 0x1001, logStatus),
   (.updGetStatus, 0x1104, updStatus)]

/-- Those whose response goes into the buffer of a descriptor (form W). -/
def bufferGets : List ((Req → Instr) × Nat × (State → Bytes)) :=
  [(.sysGetThermal, 0x010C, thermalInfo), (.dspGetQueue, 0x0304, fun s => s.dsp.queue.flatMap (·.req)),
   (.lepGetStatus, 0x080B, lepStatus), (.trcGetStatus, 0x1204, fun s => (List.range 16).flatMap (probeHeader s)),
   (.safGetSet, 0x0905, fun s => s.saf.sp.set.getD (s.saf.sloe.set.getD [])), (.redGetStatus, 0x0A01, redStatus),
   (.auxGetStatus, 0x0B05, auxStatus), (.updGetVersions, 0x1101, updVersions)]

/-- Those that name an object (form I): opcode, number of objects, response of one object. -/
def indexGets : List ((Req → Instr) × Nat × (State → Nat) × (State → Nat → Bytes)) :=
  [(.strGetState, 0x0201, State.strings, strInfo), (.strGetMeas, 0x0209, State.strings, measRecord),
   (.strGetCal, 0x020B, State.strings, calInfo), (.strGetRing, 0x0212, State.strings, ringInfo),
   (.strGetRound, 0x0213, State.strings, roundInfo), (.estGetConfig, 0x0402, State.strings, estCfg),
   (.estGetSop, 0x0405, State.strings, sopRecord), (.balGetConfig, 0x0602, State.strings, balCfg),
   (.balGetPlan, 0x0605, State.strings, planBytes), (.balGetLedger, 0x0606, State.strings, ledgerBytes),
   (.cnvGetConfig, 0x0702, State.strings, cnvCfg), (.cnvGetStatus, 0x0704, State.strings, cnvStatus),
   (.cnvGetDrivers, 0x0707, State.strings, driverInfo), (.safGetStatus, 0x0906, State.strings, safStatus),
   (.auxGetEf, 0x0B07, fun _ => 16, efInfo), (.sysGetTi, 0x010A, fun _ => 24, tiInfo),
   (.netGetPort, 0x0E02, fun _ => 4, portCfg), (.netGetStats, 0x0E03, fun _ => 4, portStats)]

/-- Those that copy entries of a table (form C): opcode, number of entries, an entry. -/
def copyGets : List ((Req → Instr) × Nat × (State → Nat) × (State → Nat → Bytes)) :=
  [(.estGetCells, 0x0403, State.cells, cellEntry), (.tpeGetResults, 0x0503, State.cells, impEntry),
   (.tpeGetPrecursor, 0x0505, State.cells, precEntry),
   (.lepGetOutput, 0x080A, fun _ => 192, fun s k => leS 4 (if k < 128 then (s.loopAt k).out else s.le.auxOut.getD (k - 128) 0))]

/-- Those that map a live region (form M): opcode, window offset, size. -/
def mapGets : List ((Req → Instr) × Nat × Nat × (State → Nat)) :=
  [(.estMapTable, 0x0404, 0x03000000, fun s => 256 * s.cells), (.tpeMapResults, 0x0504, 0x03100000, fun s => 128 * s.cells),
   (.trcMap, 0x1205, 0x03200000, fun _ => 8389632)]

/-- A command of form R whose record the partner's acknowledgement completes: opcode, size, fields, the checks of population and
of the owning chapter, and what it stores. -/
structure RecordSet where
  cmd : Req → Instr
  op : Nat
  size : Nat
  fields : List Field
  pop : State → Bytes → Option Nat := fun _ _ => none
  chk : Bytes → Option Nat := fun _ => none
  store : State → Bytes → State

/-- The commands that only store a record (15_host_interface.md *Opcodes*). -/
def recordSets : List RecordSet :=
  [{ cmd := .sysSetPowerPolicy, op := 0x0105, size := 6, fields := policyFields, store := setPolicy },
   { cmd := .sysSetThermalWarn, op := 0x010B, size := 42, fields := []
     store := fun s p => { s with th := { s.th with warn := (List.range 21).map fun k => getS p (2 * k) 2 } } },
   { cmd := .dspSetConfig, op := 0x0305, size := 24, fields := dspFields, chk := dspCheck
     store := fun s p => s.setDsp fun d => { d with cfg := p } },
   { cmd := .balSetConfig, op := 0x0601, size := 24, fields := balFields, pop := popString, chk := balCheck
     store := fun s p => s.modBal (getU p 0 1) fun b => { b with cfg := p } },
   { cmd := .balSetBudget, op := 0x0603, size := 4, fields := [uf 0 4 0 4000 0]
     store := fun s p => s.setDsp fun d => { d with budget := getU p 0 4 } },
   { cmd := .balHold, op := 0x0604, size := 8, fields := holdFields, pop := popString, store := storeHold },
   { cmd := .auxSetBus, op := 0x0B01, size := 120, fields := busFields, chk := busCheck
     store := fun s p => s.setRack fun r => { r with cfg := p } },
   { cmd := .auxSetCap, op := 0x0B03, size := 8, fields := [uf 0 4 0 40000 0, uf 4 4 0 4000 1500]
     store := fun s p => s.setRack fun r => { r with cmdCap := getU p 0 4, pRet := getU p 4 4 } },
   { cmd := .auxSetFan, op := 0x0B04, size := 2, fields := [uf 0 1 0 3 0, uf 1 1 0 100 100]
     store := fun s p => setFan s (getU p 0 1) (getU p 1 1) }]

/-- `u` is `st` but for the host interface, interrupt sources and what the pair exchanges. -/
abbrev SameBut (u st : State) : Prop := u = { st with hpr := u.hpr, mem := u.mem, icu := u.icu, red := u.red }

/-- Ring `i` and its monitor `m` stand in the state's lists. -/
abbrev HasMon (s : State) (i m : Nat) : Prop := i < s.rings.ring.length ∧ m < (s.ringAt i).mons.length

/-- A frame has gone out to monitor `m` of ring `i` on one of its credits (04_fenline_rings.md R106). -/
abbrev Sent (s u : State) (i m type arg : Nat) : Prop :=
  (u.ringAt i).outstanding = (s.ringAt i).outstanding ++
      [{ m := m, seq := ((s.monAt i m).seq + 1) % 256, type := type, arg := arg, departed := s.clk, resent := false }] ∧
    (u.monAt i m).credits = (s.monAt i m).credits - 1

/-- This unit may command monitor `m` of ring `i`, which holds a position and follows it (R99, R116). -/
abbrev CanCommand (s : State) (i m : Nat) : Prop :=
  ringRuns s i = true ∧ ringMaster s = true ∧ m < 16 ∧ (s.monAt i m).position.isSome = true ∧ (s.monAt i m).credits ≠ 0 ∧
    (s.monAt i m).followsUs = true ∧ HasMon s i m

/-- The ICU's banks hold 32 private sources of each target and 224 shared ones (17_app_core_icu.md R482). -/
abbrev BanksOk (s : State) : Prop :=
  s.icu.psup.length = 32 ∧ s.icu.papp.length = 32 ∧ s.icu.phost.length = 32 ∧ s.icu.shared.length = 224

/-- Source `n` of the frame of `g` is one that mask word `w` names and that is routed to `g` (R492). -/
abbrev InMask (s : State) (g : Target) (w : Nat) (m : BitVec 32) (n : Nat) : Prop :=
  n / 32 = w ∧ m.getLsbD (n % 32) = true ∧ (s.srcAt g n).route = g

/-- The parts of the state beside the queue and the variant: each a field of `State`. -/
inductive Piece where
  | clk | unit | str | pwr | hvi | hviStr | rings | cee | tpe | th
  | bal | dsp | conv | phase | gx2 | le | saf | red | rack | seq
  | tsu | hpr | net | app | icu | flt | plg | upd | mem | canRam
  | free
  deriving DecidableEq, Repr

/-- Part `p` of the state is in `u` as it is in `s`. -/
def Piece.same (p : Piece) (s u : State) : Prop :=
  match p with
  | .clk => u.clk = s.clk | .unit => u.unit = s.unit | .str => u.str = s.str | .pwr => u.pwr = s.pwr
  | .hvi => u.hvi = s.hvi | .hviStr => u.hviStr = s.hviStr | .rings => u.rings = s.rings | .cee => u.cee = s.cee
  | .tpe => u.tpe = s.tpe | .th => u.th = s.th | .bal => u.bal = s.bal | .dsp => u.dsp = s.dsp
  | .conv => u.conv = s.conv | .phase => u.phase = s.phase | .gx2 => u.gx2 = s.gx2 | .le => u.le = s.le
  | .saf => u.saf = s.saf | .red => u.red = s.red | .rack => u.rack = s.rack | .seq => u.seq = s.seq
  | .tsu => u.tsu = s.tsu | .hpr => u.hpr = s.hpr | .net => u.net = s.net | .app => u.app = s.app
  | .icu => u.icu = s.icu | .flt => u.flt = s.flt | .plg => u.plg = s.plg | .upd => u.upd = s.upd
  | .mem => u.mem = s.mem | .canRam => u.canRam = s.canRam | .free => u.free = s.free

def everything : List Piece :=
  [.clk, .unit, .str, .pwr, .hvi, .hviStr, .rings, .cee, .tpe, .th, .bal, .dsp, .conv, .phase, .gx2, .le, .saf, .red,
   .rack, .seq, .tsu, .hpr, .net, .app, .icu, .flt, .plg, .upd, .mem, .canRam, .free]
def allBut (l : List Piece) : List Piece := everything.filter fun p => !l.contains p
/-- What an event may change: time, and `l`. -/
def timed (l : List Piece) : List Piece := .clk :: .tsu :: l
/-- What a host command may change: what taking, answering and recording it do, and `l`. -/
def answered (l : List Piece) : List Piece := .pwr :: .hpr :: .icu :: .plg :: .mem :: l
def timedAnswer (l : List Piece) : List Piece := timed (answered l)

/-- What command `c` may change. It leaves every other part of the state as it is. -/
def changes (c : Instr) : List Piece :=
  match c with
  | .sysGetInfo .. | .sysGetStatus .. | .sysEcho .. | .sysGetPowerState .. | .sysSetVbak .. | .sysSetAlarm ..
  | .sysGetTi .. | .sysGetThermal .. | .sysWinAlloc .. | .sysWinFree .. | .sysSetSlots .. | .strGetState ..
  | .strGetMeas .. | .strGetCal .. | .strGetIso .. | .strGetRing .. | .strGetRound .. | .dspGetStatus ..
  | .dspGetQueue .. | .dspGetConfig .. | .estGetConfig .. | .estGetCells .. | .estMapTable .. | .estGetSop ..
  | .estGetStatus .. | .tpeGetPlan .. | .tpeGetResults .. | .tpeMapResults .. | .tpeGetPrecursor .. | .tpeGetStatus ..
  | .balGetConfig .. | .balGetPlan .. | .balGetLedger .. | .cnvGetConfig .. | .cnvGetStatus .. | .cnvGetDrivers ..
  | .lepGetDesc .. | .lepGetCoef .. | .lepGetLut .. | .lepGetOutput .. | .lepGetStatus .. | .safGetStaged ..
  | .safGetSet .. | .safGetStatus .. | .safGetInputs .. | .redGetStatus .. | .redGetConfig .. | .redGetShadow ..
  | .auxGetBus .. | .auxGetStatus .. | .auxGetEf .. | .seqGetTable .. | .timGetTime .. | .timGetStatus ..
  | .timGetConfig .. | .timGetTrigger .. | .netGetPort .. | .netGetStats .. | .netSetMgmt .. | .netGetMgmt ..
  | .canGetConfig .. | .canGetStatus .. | .logGetStatus .. | .logRead .. | .logClear .. | .updGetVersions ..
  | .updGetStatus .. | .trcGetStatus .. | .trcMap .. | .trcRead .. => answered []
  | .sysRestart .. | .updActivate .. => allBut [.clk, .free]
  | .sysSetPowerPolicy .. | .redSetConfig .. | .redSwap .. | .redPostpone .. => answered [.red]
  | .sysSetTi .. => answered [.str, .rings, .th, .bal, .conv, .phase, .saf, .red, .flt]
  | .sysSetThermalWarn .. => answered [.th, .red]
  | .strConnect .. => answered [.str, .conv]
  | .strDisconnect .. | .strIdle .. => answered [.str, .tpe, .conv, .phase, .saf, .red]
  | .strRegulate .. => answered [.str, .red]
  | .strReset .. => answered [.str, .hviStr, .saf, .red]
  | .strRetire .. | .strRestore .. | .strRingLink .. | .cnvPhaseRestore ..
    => answered [.str, .rings, .bal, .conv, .phase, .saf, .red, .flt]
  | .strSetShunt .. | .strClearMeasFlags .. => answered [.hviStr]
  | .strSetIso .. => answered [.hvi]
  | .strSetRing .. => answered [.str, .rings, .bal, .conv, .phase, .saf, .flt]
  | .strEnumerate .. => answered [.rings]
  | .dspSetRequest .. | .dspCancel .. => answered [.dsp, .le, .red]
  | .dspSetConfig .. | .balSetBudget .. => answered [.dsp, .red]
  | .estSetConfig .. | .estSetSoc .. | .estResetCell .. => answered [.cee, .red]
  | .estJournal .. => answered [.cee, .free]
  | .estRequestAnchor .. => answered [.cee]
  | .tpeSetPlan .. => answered [.tpe, .red]
  | .balSetConfig .. => answered [.bal, .red]
  | .balHold .. => answered [.rings, .bal, .red]
  | .cnvSetConfig .. => answered [.unit, .str, .hvi, .rings, .bal, .conv, .phase, .gx2, .saf, .red, .app, .flt]
  | .cnvSetSlot .. => answered [.conv, .red]
  | .cnvPhaseDisable .. => answered [.unit, .str, .hvi, .rings, .bal, .conv, .phase, .saf, .red, .app, .flt]
  | .lepLoadDesc .. | .lepClearSlot ..
    => answered [.unit, .str, .hvi, .rings, .bal, .conv, .phase, .le, .saf, .red, .app, .flt]
  | .lepSetCoef .. | .lepSwap .. | .lepLoadLut .. | .lepSetParam .. => answered [.le, .red]
  | .safStage .. | .safCommit .. | .safDiscard .. => answered [.saf]
  | .auxSetBus .. | .auxSetCap .. | .auxSetFan .. | .auxSetEf .. | .auxEfOn .. | .auxEfOff .. => answered [.red, .rack]
  | .auxEfReset .. => answered [.str, .rings, .bal, .conv, .phase, .saf, .red, .rack, .flt]
  | .seqSetTable .. | .seqCancelOff .. => answered [.seq]
  | .seqGetStatus .. => answered [.free]
  | .seqOff .. => answered [.unit, .str, .hvi, .conv, .phase, .saf, .red, .rack, .seq, .app]
  | .timSetConfig .. | .timSetTrigger .. | .timSetCapture .. | .timReadCapture .. | .timDelegate .. => answered [.tsu]
  | .timSetTime .. => answered [.dsp, .tsu]
  | .netSetPort .. | .canSetConfig .. | .canRead .. | .canDelegate .. => answered [.net]
  | .canSetFilter .. => answered [.canRam]
  | .canSend .. => answered [.net, .canRam]
  | .updBegin .. | .updChunk .. | .updVerify .. | .updConfirm .. => answered [.upd]
  | .updAbort .. => answered [.unit, .str, .hvi, .rings, .bal, .conv, .phase, .saf, .red, .tsu, .net, .app, .upd]
  | .trcSetProbe .. | .trcArm .. | .trcStop .. => answered [.le]
  | .qspiRead .. => timed [.hpr, .icu, .free]
  | .qspiWrite .. | .winWrite .. => timed [.hpr, .icu, .mem]
  | .qspiStatus .. | .hprDoneClear .. | .hprErrClear .. | .hprHbTick .. | .mgmtWaitTimeout .. => timed [.hpr]
  | .hprDoorbellWrite .. | .descriptorOwnWrite .. => timed [.hpr, .icu]
  | .slotTake .. => everything
  | .registerWrite .. => timed [.hpr, .net, .app, .icu, .plg, .canRam]
  | .mgmtRequest .. => timed [.hpr, .mem]
  | .winRead .. => timed [.hpr, .free]
  | .wake .. | .wakeEvent .. => timed [.pwr, .red, .hpr, .icu, .plg]
  | .monVersion .. | .monTime .. | .monTimer .. | .wdogSet .. | .wdogFeed .. | .appStart .. | .accessFault ..
    => timed [.app]
  | .monRestart .. | .watchdogExpiry .. | .appRestart .. | .appMemoryError .. => timed [.hpr, .net, .app, .icu, .plg]
  | .monitorTimerFire .. | .watchdogWarning .. => timed [.app, .icu]
  | .icuSourceEdge .. | .strandedTimeout .. | .tsuTrgCtrlWrite .. | .triggerFire .. | .recordSubmit ..
  | .dormantRecordFlush .. => timed [.icu, .plg]
  | .icuDecision .. | .icuClaimRead .. | .icuCompleteWrite .. | .icuPendSet .. | .icuPendClr .. | .icuMaskSet ..
  | .icuMaskClr .. | .icuTgtEnWrite .. | .holdOffExpiry .. | .sourceRetarget .. | .tsuEvtClear .. | .tsuCapPop ..
    => timed [.icu]
  | .tsuSnapWrite .. | .syncMessage .. | .announce .. | .announceTimeout .. | .pdelayReq .. | .pdelayMeasurement ..
  | .holdoverExpiry .. | .ppsInEdge .. => timed []
  | .captureEdge .. => timed [.conv, .icu, .plg]
  | .canTxqPutWrite .. | .canCancel .. | .canRxqGetWrite .. | .canCtrlWrite .. | .txHol .. | .busOff ..
  | .linkLossReturn .. => timed [.net, .icu, .plg]
  | .canFrameReceived .. | .canTxComplete .. => timed [.net, .icu, .plg, .canRam, .free]
  | .ethFrameReceived .. => timed [.saf, .net]
  | .servoUpdate .. | .requestExpiry .. => timed [.dsp, .icu, .plg]
  | .vinLoss .. => allBut [.hviStr, .cee, .tpe, .th, .dsp, .gx2, .le, .net, .flt, .upd, .canRam, .free]
  | .vinReturn .. => timed [.unit, .pwr, .hvi, .conv, .red, .seq, .hpr, .app, .icu, .plg]
  | .holdupRampStep .. => timed [.pwr, .conv]
  | .holdupSwapRequest .. => timed [.pwr, .red]
  | .holdupDisconnectStep .. | .vbakCritical .. => timedAnswer [.str, .conv, .phase, .saf]
  | .mramWriteback .. => timed [.pwr, .hvi, .cee, .conv, .red, .hpr, .icu, .plg, .upd, .free]
  | .retentionEntry .. | .powerUpFailure .. | .railGood .. | .startFailure .. | .railDischarge .. | .seqStep ..
  | .reverseMarker .. | .systemPowerDownStart .. | .stuckLine .. | .seqCinHigh .. | .runningRailFault ..
  | .railFaultHoldEnd .. | .pbNPress .. | .forcedOff ..
    => timedAnswer [.unit, .str, .hvi, .conv, .phase, .saf, .red, .rack, .seq, .app]
  | .vbakRetentionFloor .. => timed [.pwr, .seq, .hpr, .icu, .plg]
  | .eAvailUpdate .. => timed [.pwr, .hvi, .cee, .conv, .saf, .red, .icu, .plg, .free]
  | .capacitanceMeasurement .. => timed [.pwr, .icu, .plg]
  | .floatEntry .. | .floatExit .. => timed [.pwr, .hpr, .icu, .plg]
  | .dormantEntry .. => timed [.pwr, .rings, .bal, .red, .hpr, .icu, .plg]
  | .floatClockRaise .. => timed [.pwr]
  | .clockFailure .. => allBut [.dsp, .gx2, .le, .seq, .net, .upd, .canRam, .free]
  | .xrefRetry .. | .bootListenEnd .. | .supRestart ..
    => timedAnswer [.unit, .str, .hvi, .rings, .bal, .conv, .phase, .saf, .red, .app, .flt]
  | .onRequest .. | .minimumOffTimeEnd .. | .systemPowerUpStart .. | .seqWatchEnd ..
    => timed [.unit, .pwr, .hvi, .seq, .hpr, .app, .icu, .plg]
  | .powerupStepDone .. | .mrNRelease .. => allBut [.free]
  | .imageBootCheck .. | .spActivationTimeout .. | .recoveryEntry ..
    => timedAnswer [.unit, .str, .hvi, .rings, .bal, .conv, .phase, .saf, .red, .app, .upd]
  | .railStart .. => timed [.rack, .seq]
  | .upBeacon .. => timed [.seq]
  | .preOffSteps .. | .preOffDisconnect ..
    => allBut [.hviStr, .rings, .tpe, .th, .bal, .dsp, .gx2, .le, .net, .flt, .canRam]
  | .mrN .. => timedAnswer [.unit, .str, .hvi, .rings, .bal, .conv, .phase, .saf, .red, .seq, .app]
  | .shuntSample .. | .fastTrip .. => timedAnswer [.str, .hviStr, .rings, .bal, .conv, .phase, .saf]
  | .integratorCheckpoint .. => timed [.pwr, .hvi]
  | .calibrationStep .. | .overlapRepeat .. => timed [.hviStr]
  | .calibrationSwap .. | .linkCrcBurst .. | .swapVerify .. | .selfTestOutcome ..
    => allBut [.tpe, .dsp, .gx2, .le, .seq, .net, .upd, .canRam, .free]
  | .voltageSample .. => timed [.hvi, .hviStr, .conv, .icu, .flt, .plg]
  | .insulationResult .. => timedAnswer [.str, .hvi, .rings, .bal, .conv, .phase, .saf]
  | .injectionHandover .. => timed [.hvi]
  | .hviPlausibilityFailure .. | .detectedError .. => timed [.hviStr, .icu, .flt, .plg]
  | .roundTrigger .. => timed [.hviStr, .rings]
  | .roundRead .. | .sched .. | .enumFrame .. | .turnedFrame .. | .delay .. | .portDown .. | .portUp ..
  | .twoEndedOperation .. | .unaddressedMonitor .. | .alarmDetailRead .. | .thrLoad .. | .thresholdReload ..
  | .balanceRead .. | .tonePlan .. | .phasor .. | .toneHalt .. | .fwBegin .. | .fwData .. | .fwEnd .. | .fwSwitch ..
  | .beaconTimeout .. | .hardwareComparatorAlarm .. | .bleedEnd .. | .shuttleEnd .. => timed [.rings]
  | .roundClose .. => timedAnswer [.str, .rings, .th, .bal, .conv, .phase, .saf, .flt]
  | .beacon .. | .beaconReturn .. | .twoEndedExit .. | .discrepancy ..
    => timedAnswer [.str, .rings, .bal, .conv, .phase, .saf, .flt]
  | .enumReturn .. | .cdbCycle .. => timedAnswer [.str, .rings, .bal, .conv, .phase, .saf, .red, .flt]
  | .data .. => timedAnswer [.str, .rings, .cee, .bal, .conv, .phase, .saf, .flt, .upd]
  | .ack .. => timed [.rings, .bal, .icu, .flt, .plg]
  | .frameLost .. | .monitorRestart .. => timed [.rings, .icu, .flt, .plg]
  | .bleedSet .. | .bleedStop .. | .shuttleSet .. | .shuttleStop .. | .linkDisable .. | .linkEnable ..
    => timed [.rings, .free]
  | .loadingWindowEnd .. | .openSecondPole .. | .bkrTripEnd .. | .stagedSetDiscard .. | .commWindowExpiry ..
  | .degradeExpiry .. | .coilHoldExpiry .. => timed [.saf]
  | .ceePeriod .. => timed [.cee, .hpr, .icu, .flt, .plg, .mem, .free]
  | .deadlineFault .. => timed [.str, .cee, .tpe, .conv, .phase, .le, .saf, .red, .hpr, .icu, .flt, .plg, .mem]
  | .stepRateChange .. | .restWindowRequest .. | .restWindowEnd .. => timed [.cee]
  | .journalWrite .. | .journalWriteDone .. => timed [.pwr, .cee, .free]
  | .restWindowGrant .. => timed [.rings, .cee, .tpe, .bal]
  | .anchorOverdue .. | .coreOffsetLearning .. => timed [.cee, .icu, .plg]
  | .toneWindowEnd .. | .impedanceRead .. | .planEffect .. | .injectionStart .. | .injectionStop .. => timed [.tpe]
  | .impedancePublish .. => timedAnswer [.str, .rings, .cee, .tpe, .th, .bal, .conv, .phase, .saf]
  | .blockMissing .. => timed [.cee, .tpe]
  | .precursorDelivery .. => timedAnswer [.str, .rings, .cee, .bal, .conv, .phase, .saf]
  | .windowStart .. => timed [.hviStr, .tpe]
  | .tiSample .. => timedAnswer [.str, .rings, .th, .bal, .conv, .phase, .saf, .rack, .flt, .free]
  | .sensorRecovery .. => timed [.th]
  | .planningCycle .. | .balancingStop .. | .allowanceChange .. => timed [.rings, .bal]
  | .allocation .. => timed [.str, .pwr, .cee, .dsp, .conv, .le, .red, .hpr, .icu, .plg]
  | .arming .. => timed [.dsp, .le]
  | .setpointCommit .. | .bankSwap .. | .probeComplete .. => timed [.le]
  | .slotPeriod .. => timed [.conv, .phase, .le]
  | .periodBoundary .. => timed [.conv, .phase, .saf]
  | .pwmReadbackMismatch .. | .cycleByCycleLimit .. | .estimateModeEnd .. => timed [.conv, .phase, .icu, .flt, .plg]
  | .phaseInputImplausible .. | .phaseEvaluation .. => timed [.str, .conv, .phase, .saf, .red, .hpr, .icu, .flt, .plg, .mem]
  | .braking .. | .brakingEnd .. | .estimateMode .. => timed [.phase]
  | .reInterleave .. => timed [.conv, .phase]
  | .slotShift .. | .syncInLoss .. | .syncInRelock .. => timed [.conv]
  | .gx2Poll .. => allBut [.tpe, .dsp, .le, .seq, .net, .upd, .canRam, .free]
  | .gdbFlt .. | .converterPause .. | .softStartTimeout .. | .rampComplete ..
    => timed [.str, .conv, .phase, .saf, .red, .hpr, .icu, .plg, .mem]
  | .pauseEnd .. | .converterStart .. => timed [.str, .conv, .phase, .le, .saf, .red, .hpr, .icu, .plg, .mem]
  | .coolingWaitEnd .. => timedAnswer [.str, .conv, .saf, .flt]
  | .prechargeComplete .. | .closeRequest .. => timed [.conv, .saf]
  | .prechargeFault .. | .closeRequestTimeout .. | .weld .. | .trip .. | .safetyInputSample .. | .silentPartner ..
  | .safePduReceived .. | .blackChannelPdu .. | .commWatchdogExpiry ..
    => timedAnswer [.str, .rings, .bal, .conv, .phase, .saf]
  | .connectedEntry .. => timedAnswer [.str, .conv, .red]
  | .testPulse .. | .networkDown .. => timed [.saf, .icu, .plg]
  | .crossLinkPublish .. => timed [.saf, .hpr, .icu, .plg, .upd, .mem]
  | .setActivation .. => timed [.pwr, .rings, .saf, .icu, .plg]
  | .heartbeatSend .. | .yield .. | .heartbeat .. | .peerState .. | .scheduledSwapDue .. => timed [.red]
  | .beatReceived .. | .takeover .. | .peerBeatLoss .. | .dormantPartnerTimeout .. | .swap ..
    => allBut [.hviStr, .cee, .th, .gx2, .le, .rack, .seq, .net, .flt, .upd, .canRam, .free]
  | .claimFrame .. => timed [.gx2, .saf, .red]
  | .dutyHoldExpiry .. => timed [.conv, .phase, .gx2, .icu, .flt, .plg]
  | .higherClaimSeen .. | .peerDown .. => timed [.unit, .str, .hvi, .red, .hpr, .app, .icu, .plg, .mem]
  | .peerMessage .. => allBut [.hviStr, .seq, .net, .upd, .canRam, .free]
  | .partnerAbsent .. => timedAnswer [.unit, .str, .hvi, .rings, .bal, .conv, .phase, .saf, .red, .app]
  | .swapOverdue .. | .resyncTimeout .. => timed [.red, .icu, .plg]
  | .resyncStep .. => timed [.unit, .hvi, .red, .hpr, .app, .icu, .plg]
  | .shadow .. => timed [.red, .icu, .flt, .plg]
  | .pmbusPoll .. | .pmbusAlert .. | .shelfCut .. | .efuseFastTrip .. | .softStartExpiry .. => timed [.rack, .icu, .plg]
  | .rectifierRejoin .. | .shelfLow .. | .shelfFull .. | .shedRestore .. | .insertionDelayEnd .. | .windowExit ..
  | .powerGood .. | .retryTimerExpiry .. | .faultCountClear .. | .auxSample .. => timed [.rack]
  | .acLoss .. | .capEvaluation .. => timed [.dsp, .rack, .icu, .plg]
  | .acReturn .. => timed [.rack, .icu]
  | .efuseSample .. | .gateFault .. | .efuseFault .. => timed [.rack, .icu, .flt, .plg]
  | .memoryError .. => allBut [.hviStr, .cee, .tpe, .th, .dsp, .gx2, .le, .rack, .seq, .canRam, .free]
  | .scrubPass .. | .imbalance .. => timed [.icu, .flt, .plg]
  | .chunkFlush .. | .preEraseComplete .. => timed [.upd]
  | .supHandoverAdopt .. | .handoverWindowExceeded ..
    => allBut [.hviStr, .cee, .tpe, .th, .dsp, .gx2, .le, .rack, .seq, .net, .canRam, .free]
  | .trialConfirmation .. => timed [.red, .upd]
  | .trialWindowExpiry .. | .fallback ..
    => allBut [.hviStr, .cee, .tpe, .th, .dsp, .gx2, .le, .rack, .seq, .flt, .canRam, .free]
  | .monitorReturnTimeout .. => timed [.rings, .hpr, .icu, .flt, .plg, .upd, .mem]
  | .driverConfigLoad .. => timed [.gx2, .saf, .hpr, .icu, .upd, .mem]
  | .busOffRecovery .. => timed [.net]

/-- Every list of the state has the length of the population it stands for: strings, rings and their monitors, phases, drivers,
thermal inputs, e-fuses, rectifiers, rails, triggers, captures, ports, controllers, descriptors, clients, slots, sources and
transfers (00_scope.md R2, R12, R13 and the tables of the owning chapters). -/
abbrev Sized (s : State) : Prop :=
  s.str.length = 8 ∧ s.hviStr.length = 8 ∧ s.rings.ring.length = 8 ∧ s.cee.est.length = 8 ∧ s.bal.length = 8 ∧
  s.conv.length = 8 ∧ s.saf.cont.length = 8 ∧ s.saf.sp.str.length = 8 ∧ s.saf.sloe.str.length = 8 ∧ s.dsp.str.length = 8 ∧
  s.phase.length = 32 ∧ s.gx2.length = 32 ∧ s.seq.rails.length = 32 ∧ s.icu.psup.length = 32 ∧ s.icu.papp.length = 32 ∧
  s.icu.phost.length = 32 ∧ s.saf.sp.inputs.length = 16 ∧ s.saf.sloe.inputs.length = 16 ∧ s.rack.rect.length = 16 ∧
  s.rack.ef.length = 16 ∧ s.tsu.trig.length = 16 ∧ s.tsu.cap.length = 16 ∧ s.le.probe.length = 16 ∧
  s.tpe.pairs.length = 4 ∧ s.net.port.length = 4 ∧ s.net.can.length = 4 ∧ s.th.ti.length = 24 ∧ s.tsu.ports.length = 2 ∧
  s.upd.xfer.length = 5 ∧ s.hpr.clients.length = 9 ∧ s.hpr.desc.length = 256 ∧ s.icu.shared.length = 224 ∧
  s.le.slot.length = 128 ∧ ∀ r ∈ s.rings.ring, r.mons.length = 16

/-- drawn − returned = into_cells − out_of_cells + loss, for each string (07_balancing_dispatch.md R200). -/
abbrev BooksBalance (s : State) : Prop := ∀ i, (s.balAt i).ledger.balanced = true

/-- The log holds its records at indices 0 to next_index − 1, the one at index i with seq = base_seq + i modulo 2³²
(18_faults_peat_log.md R509); the next record takes the next seq (R505), and the log is full at 131,072 (R503, R507). -/
abbrev LogOk (p : Plg) : Prop :=
  p.log.length = p.nextIndex ∧ p.nextIndex ≤ 131072 ∧ (p.nextIndex = 131072 → p.full = true) ∧
    p.nextSeq = (p.baseSeq + p.nextIndex) % 2 ^ 32 ∧
    ∀ i, ∀ r ∈ p.log.reverse[i]?, r.seq = (p.baseSeq + i) % 2 ^ 32

/-- `size` bytes from window offset `o` on lie in the pool of `port` and meet no buffer there (15_host_interface.md R441,
*Window layout*). -/
abbrev FreeRun (s : State) (port : Port) (size o : Nat) : Prop :=
  (poolOf port).1 ≤ o ∧ o + size ≤ (poolOf port).2 ∧
    ∀ e ∈ s.hpr.desc, e.kind = 1 → (poolOf port).1 ≤ e.offset → e.offset < (poolOf port).2 →
      o + size ≤ e.offset ∨ e.offset + e.size ≤ o

/-- The charge booked to the cells of string `i`, nC. -/
def bookedToCells (s : State) (i : Nat) : Int := ((List.range 512).map fun k => (s.cellAt (512 * i + k)).dBal).sum

end Sys2Proof.Machine
end

