-- ==== Sys2Proof/Certificates/Slice0/Obligations.lean ====
section
/-! DEFINITION. The statements about the block, one definition each; OBLIGATIONS.json lists them. -/

open Sys2Proof Sys2Proof.Machine

/-- Each of the 19 commands listed in noneGets, taken in any role with an empty payload, completes with OK and its record; only
the host interface moves, and a record of up to 240 bytes changes no byte outside the slot. -/
def Obligations.NoArgumentGetsAnswer : Prop :=
  ∀ x ∈ noneGets, ∀ s q, Taken s q → AnyRole s → q.payload = [] →
    Does (x.1 q) s fun u => Answered u q x.2.1 stOk 0 (x.2.2 s) ∧ HostOnly s u ∧ ((x.2.2 s).length ≤ 240 → SlotOnly s q u)

/-- Each of the 8 commands listed in bufferGets fills the buffer of the descriptor it names with its response and completes with
OK and the count of the bytes. -/
def Obligations.BufferGetsFillTheBuffer : Prop :=
  ∀ x ∈ bufferGets, ∀ s q, Taken s q → AnyRole s → MemOk s → q.payload.length = 2 → SlotOk q →
    descOk s q (getU q.payload 0 2) (x.2.2 s).length = true →
    Does (x.1 q) s fun u => Answered u q x.2.1 stOk 0 (leU 4 (x.2.2 s).length) ∧ HostOnly s u ∧
      BufHolds s u (getU q.payload 0 2) (x.2.2 s)

/-- Each of the 18 commands listed in indexGets answers OK with the record of the object it names: in the slot up to 240 bytes,
else in the buffer of the descriptor, with the count. -/
def Obligations.IndexGetsAnswerTheObject : Prop :=
  ∀ x ∈ indexGets, ∀ s q i, Taken s q → AnyRole s → MemOk s → i < x.2.2.1 s → FormI s q i →
    ((x.2.2.2 s i).length ≤ 240 →
      Does (x.1 q) s fun u => Answered u q x.2.1 stOk 0 (x.2.2.2 s i) ∧ HostOnly s u ∧ SlotOnly s q u) ∧
    (240 < (x.2.2.2 s i).length → SlotOk q → descOk s q (getU q.payload 2 2) (x.2.2.2 s i).length = true →
      Does (x.1 q) s fun u => Answered u q x.2.1 stOk 0 (leU 4 (x.2.2.2 s i).length) ∧ HostOnly s u ∧
        BufHolds s u (getU q.payload 2 2) (x.2.2.2 s i))

/-- Each of the 4 commands listed in copyGets copies the entries from first to first + count - 1, in index order, into the
buffer of the descriptor and completes with OK and the count of the bytes. -/
def Obligations.CopyGetsFillTheBuffer : Prop :=
  ∀ x ∈ copyGets, ∀ s q, ∀ first count : Nat, ∀ b : Bytes, Taken s q → AnyRole s → MemOk s → q.payload.length = 12 →
    getU q.payload 2 2 = 0 → getU q.payload 4 4 = first → getU q.payload 8 4 = count →
    b = ((List.range count).map (first + ·)).flatMap (x.2.2.2 s) → 0 < count → first + count ≤ x.2.2.1 s → SlotOk q →
    descOk s q (getU q.payload 0 2) b.length = true →
    Does (x.1 q) s fun u => Answered u q x.2.1 stOk 0 (leU 4 b.length) ∧ HostOnly s u ∧ BufHolds s u (getU q.payload 0 2) b

/-- EST_MAP_TABLE, TPE_MAP_RESULTS and TRC_MAP answer OK with a live descriptor onto their region: the one the port already has,
or a free one, which becomes kind 2, owned by the device, of the region's offset and size. -/
def Obligations.MapGetsAnswerALiveDescriptor : Prop :=
  ∀ x ∈ mapGets, ∀ s q d, Taken s q → AnyRole s → q.payload = [] →
    (liveDesc s q.port x.2.2.1 = some d →
      Does (x.1 q) s fun u =>
        Answered u q x.2.1 stOk 0 (leU 2 d ++ leU 2 0 ++ leU 4 x.2.2.1 ++ leU 4 (x.2.2.2 s)) ∧ HostOnly s u) ∧
    (liveDesc s q.port x.2.2.1 = none → freeDesc s = some d → s.hpr.desc.length = 256 →
      Does (x.1 q) s fun u =>
        Answered u q x.2.1 stOk 0 (leU 2 d ++ leU 2 0 ++ leU 4 x.2.2.1 ++ leU 4 (x.2.2.2 s)) ∧ HostOnly s u ∧
        (u.desc d).kind = 2 ∧ (u.desc d).own = true ∧ (u.desc d).requester = portCode q.port ∧
        (u.desc d).offset = x.2.2.1 ∧ (u.desc d).size = x.2.2.2 s ∧ (u.desc d).gen = ((s.desc d).gen + 1) % 65536)

/-- Each of the 9 commands listed in recordSets, taken on a unit that commands strings with a record that passes its checks,
stores it and completes with OK once the partner, where one must, has acknowledged; nothing else changes but the host
interface and the pair's exchange. RED_SET_CONFIG does the same with the pair configuration. -/
def Obligations.RecordsAreStored : Prop :=
  (∀ x ∈ recordSets, ∀ s q, Taken s q → Commands s → q.payload.length = x.size → badField x.fields q.payload = none →
    x.pop s q.payload = none → x.chk q.payload = none →
    Does (x.cmd q) s fun u => Done1 s u q x.op 3 [] ∧ SameBut u (x.store (touch s) q.payload)) ∧
  (∀ s q, Taken s q → Commands s → q.payload.length = 16 → badField pairFields q.payload = none →
    Does (.redSetConfig q) s fun u => Done1 s u q 0x0A02 3 [] ∧ u.red.cfg = q.payload ∧ SameBut u (touch s))

/-- SYS_SET_VBAK sets the charger target and the minimum end-of-life capacitance; SYS_SET_ALARM sets the AON RTC alarm and 0
clears it; SYS_ECHO returns its payload; each completes with OK. VIN loss in ACTIVE, FLOAT or DORMANT enters HOLD-UP with
the charger stopped and balancing stopped on every string; the 5 ms swap request, the 20 ms ramp step, the 80 ms disconnect
step, the 100 ms writeback and the 120 ms entry into RETENTION follow at their times from the filtered loss; VBAK below 9.5
V goes straight to the 80 ms step. VIN return in the grace period goes back to the power state before the loss, between the
ramp and the disconnect step to ACTIVE, and after it is remembered to the end of the writeback; VBAK below 8.0 V in
RETENTION without VIN ends in the unpowered state; E_avail follows VBAK; a capacitance measurement sets C_meas to 0.5 A x 40
ms over the droop. -/
def Obligations.VbakAndHoldup : Prop :=
  (∀ (s : State) (q : Req), Taken s q → AnyRole s → q.payload.length = 4 → 24 ≤ getU q.payload 0 1 → getU q.payload 0 1 ≤ 30 →
    getU q.payload 1 1 = 0 → Does (.sysSetVbak q) s fun u => Answered u q 0x0107 stOk 0 [] ∧ u.pwr.target = getU q.payload 0
    1 ∧ u.pwr.cmin = getU q.payload 2 2) ∧
  (∀ (s : State) (q : Req), Taken s q → AnyRole s → q.payload.length = 8 → Does (.sysSetAlarm q) s fun u => Answered u q
    0x0108 stOk 0 [] ∧ u.pwr.rtcAlarm = (if getU q.payload 0 8 = 0 then none else some (getU q.payload 0 8)) ∧ u.str =
    s.str ∧ u.conv = s.conv ∧ u.saf = s.saf) ∧
  (∀ (s : State) (q : Req), Taken s q → AnyRole s → q.payload.length ≤ 240 → Does (.sysEcho q) s fun u => Answered u q 0x0103
    stOk 0 q.payload ∧ HostOnly s u ∧ SlotOnly s q u) ∧
  (∀ (t : Nat) (s : State) (vin : Nat), let b := s.advance t; b.pwr.vinValid = true → vin < 33000 → b.unit ≠ .off → b.unit ≠
    .powerup → b.pwr.state = .active ∨ b.pwr.state = .float ∨ b.pwr.state = .dormant → Does (.vinLoss t vin) s fun u =>
    u.pwr.state = .holdup ∧ u.pwr.prev = b.pwr.state ∧ u.pwr.holdT0 = b.clk ∧ u.pwr.holdStep = 0 ∧ u.pwr.vinValid = false ∧
    u.pwr.chargerOn = false ∧ ∀ i, i < b.strings → (u.balAt i).shuttles = [] ∧ (u.balAt i).bleeds = []) ∧
  (∀ (t : Nat) (s : State), let b := s.advance t; b.pwr.state = .holdup → b.pwr.holdStep = 0 → 5 * nsMs ≤ b.clk -
    b.pwr.holdT0 → b.unit = .active → partnerReady b = true → b.red.partnerVin = true → b.red.swapAt = none → b.pwr.holdSwap
    = false → Does (.holdupSwapRequest t) s fun u => u.pwr.holdSwap = true ∧ u.red.swapAsked = true ∧ u.red.swapAt = some
    (b.tsu.now + 2 * nsMs) ∧ u.str = s.str) ∧
  (∀ (t : Nat) (s : State), let b := s.advance t; b.pwr.state = .holdup → b.pwr.holdStep = 0 → 20 * nsMs ≤ b.clk -
    b.pwr.holdT0 → Commands b → Does (.holdupRampStep t) s fun u => u.pwr.holdStep = 1 ∧ u.pwr.dispatchUnavailable = true ∧
    u.str = b.str ∧ ∀ i, i < b.strings → (b.strAt i).state = .regulating → i < b.conv.length → (u.convAt i).rampStop = true) ∧
  (∀ (t : Nat) (s : State), let b := s.advance t; b.pwr.state = .holdup → b.pwr.holdStep < 2 → 80 * nsMs ≤ b.clk -
    b.pwr.holdT0 → Does (.holdupDisconnectStep t) s fun u => u.pwr.holdStep = 2 ∧ u.pwr.state = .holdup ∧ (Commands b → ∀ i,
    i < b.strings → i < b.conv.length → (b.strAt i).state = .regulating → (u.convAt i).running = false ∧ (u.convAt
    i).rampThen = some .isolated)) ∧
  (∀ (t : Nat) (s : State), let b := s.advance t; b.pwr.state = .holdup → b.pwr.holdStep = 2 → 100 * nsMs ≤ b.clk -
    b.pwr.holdT0 → Does (.mramWriteback t) s fun u => u.pwr.holdStep = 3 ∧ u.pwr.state = (if b.pwr.returnPending then
    .active else .holdup) ∧ u.str = b.str) ∧
  (∀ (t : Nat) (s : State), let b := s.advance t; b.pwr.state = .holdup → b.pwr.holdStep = 3 → 120 * nsMs ≤ b.clk -
    b.pwr.holdT0 → Does (.retentionEntry t) s fun u => u.pwr.state = .retention ∧ u.unit = .off ∧ u.hpr.order = [] ∧
    u.hpr.exec = [] ∧ u.hpr.ready = false ∧ u.red.beatsOn = false ∧ u.seq.rails.all (fun r => !r.enabled) = true) ∧
  (∀ (t : Nat) (s : State) (vbak : Nat), let b := s.advance t; b.pwr.state = .holdup → vbak < 9500 → b.pwr.holdStep < 2 → Does
    (.vbakCritical t vbak) s fun u => u.pwr.holdStep = 2 ∧ u.pwr.vbak = vbak ∧ u.pwr.state = .holdup ∧ (Commands b → ∀ i, i
    < b.strings → i < b.conv.length → (b.strAt i).state = .regulating → (u.convAt i).running = false ∧ (u.convAt i).rampThen
    = some .isolated)) ∧
  (∀ (t : Nat) (s : State) (vin : Nat), let b := s.advance t; b.pwr.vinValid = false → 35000 < vin → b.pwr.state = .holdup →
    b.pwr.holdStep = 0 → Does (.vinReturn t vin) s fun u => u.pwr.vinValid = true ∧ u.pwr.chargerOn = true ∧ u.pwr.state =
    b.pwr.prev) ∧
  (∀ (t : Nat) (s : State) (vin : Nat), let b := s.advance t; b.pwr.vinValid = false → 35000 < vin → b.pwr.state = .holdup →
    b.pwr.holdStep = 1 → Does (.vinReturn t vin) s fun u => u.pwr.state = .active ∧ u.pwr.dispatchUnavailable = false ∧
    u.str = b.str ∧ ∀ i, i < b.strings → i < b.conv.length → (b.convAt i).rampThen = none → (u.convAt i).rampStop = false) ∧
  (∀ (t : Nat) (s : State) (vin : Nat), let b := s.advance t; b.pwr.vinValid = false → 35000 < vin → b.pwr.state = .holdup →
    b.pwr.holdStep = 2 → Does (.vinReturn t vin) s fun u => u =
    { b with pwr := { b.pwr with vin := vin, vinValid := true, chargerOn := true, returnPending := true } }) ∧
  (∀ (t : Nat) (s : State) (vbak : Nat), let b := s.advance t; b.pwr.state = .retention → vbak < 8000 → b.pwr.vinValid =
    false → Does (.vbakRetentionFloor t vbak) s fun u => u.pwr.state = .unpowered ∧ u.tsu.now = 0 ∧ u.tsu.timeLoaded =
    false ∧ u.pwr.rtcAlarm = none ∧ u.flt = b.flt) ∧
  (∀ (t : Nat) (s : State) (vbak : Nat), let b := s.advance t; b.pwr.state ≠ .unpowered → b.pwr.deferred = [] → Does
    (.eAvailUpdate t vbak) s fun u => u.pwr.vbak = vbak ∧ u.pwr.eAvail = b.pwr.cmeas.getD (b.pwr.cmin * 1000) * (vbak * vbak
    - 81000000) / 2000000) ∧
  (∀ (t : Nat) (s : State) (droop esr : Nat), let b := s.advance t; b.pwr.vinValid = true → b.unit ≠ .off → b.unit ≠
    .powerup → droop ≠ 0 → Does (.capacitanceMeasurement t droop esr) s fun u => u.pwr.cmeas = some (20000000 / droop) ∧
    u.pwr.esr = esr ∧ u.pwr.cmeasT = b.clk ∧ u.pwr.eAvail = 20000000 / droop * (b.pwr.vbak * b.pwr.vbak - 81000000) /
    2000000)

/-- FLOAT and DORMANT are entered when their conditions hold; FLOAT ends when it is disabled; AON raises SYS up to 300 us before
a trigger instant in FLOAT; a wake event ends DORMANT, the TSU in HOLDOVER or, past the holdover limit, in FREERUN. A failed
clock is marked; an AON failure marks the RTC degraded; a LOOP, EST, SAFE, SLOE or ISO-H failure retires the LE, CEE, SP,
Sloe or HVI; a SYS failure loses SUP, which the PMU restarts; XREF failing takes a unit in a role to SAFE-HOLD, and once it
runs again SUP starts. An imbalance is recorded. -/
def Obligations.FloatDormantAndClocks : Prop :=
  (∀ (t : Nat) (s : State), let b := s.advance t; b.pwr.state = .active → AnyRole b → floatAllowed b = true → Does
    (.floatEntry t) s fun u => u.pwr.state = .float ∧ u.pwr.floatRaised = false ∧ u.str = b.str) ∧
  (∀ (t : Nat) (s : State), let b := s.advance t; b.pwr.state = .float → b.pwr.floatEn = false → Does (.floatExit t) s fun u
    => u.pwr.state = .active ∧ u.str = b.str) ∧
  (∀ (t : Nat) (s : State) (instant : Nat), let b := s.advance t; b.pwr.state = .float → b.tsu.now ≤ instant → instant ≤
    b.tsu.now + 300 * nsUs → Does (.floatClockRaise t instant) s fun u => u =
    { b with pwr := { b.pwr with floatRaised := true } }) ∧
  (∀ (t : Nat) (s : State), let b := s.advance t; b.pwr.state = .active ∨ b.pwr.state = .float → dormantAllowed b = true →
    Does (.dormantEntry t) s fun u => u.pwr.state = .dormant ∧ u.pwr.dormantT = b.clk ∧ u.red.beatsOn = false ∧
    (b.red.present = true → u.red.peerOut.head? = some 2)) ∧
  (∀ (t : Nat) (s : State) (w : WakeCause), let b := s.advance t; b.pwr.state = .dormant → wakes b w = true → Does (.wakeEvent
    t w) s fun u => u.pwr.state = .active ∧ u.pwr.lastCmdT = b.clk ∧ u.tsu.sync = (if getU (timCfg b) 20 4 * nsS < b.clk -
    b.pwr.dormantT then .freerun else .holdover) ∧ u.tsu.src = none) ∧
  (∀ (t : Nat) (s : State) (d : ClockDomain), let b := s.advance t; domRuns b d = true → d ≠ .aon → Does (.clockFailure t d) s
    fun u => (∀ x ∈ b.pwr.failedClocks ++ [d], x ∈ u.pwr.failedClocks) ∧ (∀ x ∈ u.pwr.failedClocks, x ∈
    b.pwr.failedClocks ++ [d])) ∧
  (∀ (t : Nat) (s : State), let b := s.advance t; domRuns b .aon = true → Does (.clockFailure t .aon) s fun u =>
    u.pwr.rtcDegraded = true ∧ u.pwr.failedClocks = b.pwr.failedClocks) ∧
  (∀ (t : Nat) (s : State) (d : ClockDomain) (unit : Nat), let b := s.advance t; domRuns b d = true → (d, unit) ∈
    [(ClockDomain.loop, uLe), (ClockDomain.est, uCee), (ClockDomain.safe, uSp), (ClockDomain.sloe, uSloe),
    (ClockDomain.isoH, uHvi)] → Does (.clockFailure t d) s fun u => u.retired unit = true) ∧
  (∀ (t : Nat) (s : State), let b := s.advance t; domRuns b .sys = true → Does (.clockFailure t .sys) s fun u => u.pwr.supLost
    = true ∧ u.pwr.supRestarting = true ∧ u.pwr.plgOnSloe = true) ∧
  (∀ (t : Nat) (s : State), let b := s.advance t; domRuns b .xref = true → AnyRole b → Does (.clockFailure t .xref) s fun u =>
    u.unit = .safeHold ∧ u.pwr.xrefFailed = true) ∧
  (∀ (t : Nat) (s : State), let b := s.advance t; b.pwr.xrefFailed = true → Does (.xrefRetry t true) s fun u =>
    u.pwr.xrefFailed = false ∧ u.pwr.supLost = false ∧ u.hpr.exec = [] ∧ u.hpr.order = []) ∧
  (∀ (t : Nat) (s : State), let b := s.advance t; b.pwr.supRestarting = true → ClockDomain.xref ∉ b.pwr.failedClocks → Does
    (.supRestart t) s fun u => u.pwr.supLost = false ∧ u.pwr.supRestarting = false ∧ ClockDomain.sys ∉ u.pwr.failedClocks ∧
    u.hpr.exec = [] ∧ u.hpr.order = []) ∧
  (∀ (t : Nat) (s : State) (row obj : Nat) (amount : Int), let b := s.advance t; b.unit ≠ .off → b.unit ≠ .powerup → amount ≠
    0 → row ≤ 6 → (row = 0 ∧ 128 ≤ obj) ∨ (row ≠ 0 ∧ row ≠ 5) → Does (.imbalance t row obj amount) s fun u => u.flt.errors =
    b.flt.errors + 1 ∧ u.flt.susp = b.flt.susp ∧ u.str = b.str) ∧
  (∀ (t : Nat) (s : State) (obj : Nat) (amount : Int), let b := s.advance t; b.unit ≠ .off → b.unit ≠ .powerup → amount ≠ 0 →
    b.retired uCee = false → Does (.imbalance t 5 obj amount) s fun u => u.flt.errors = b.flt.errors + 1 ∧ u.suspended uCee
    = true)

/-- A shunt sample adds the calibrated current over 12.8 us to the net accumulator and to the counter of its sign, and becomes
the newest current of the string, dated 19.125 us before; an hourly checkpoint writes every string into the older slot. Each
averaging window that ends gives z1, c+, c- and z2 in turn; at the swap, coefficients that pass all six checks take over
with offset (z1 + z2) / 2 and gain 52,428.8 / (c+ - c-) and the other modulator starts its cycle; coefficients that fail
leave the measuring modulator and charge the calibrating one; a difference above 20 A repeats the overlap for 10 s. -/
def Obligations.ShuntAndCalibration : Prop :=
  (∀ (t : Nat) (s : State) (i : Nat) (code cur : Int), let b := s.advance t; calibrated (b.hviAt i).rCfg (measMod (b.hviAt i))
    code = cur → b.isStr i = true → hviRuns b = true → b.retired (uMod (2 * i)) = false → i < b.hviStr.length → -32768 <
    code → code < 32767 → Does (.shuntSample t i code) s fun u => (u.hviAt i).cur = cur ∧ (u.hviAt i).curT = b.clk - 19125 ∧
    (u.hviAt i).acc = (b.hviAt i).acc + cur * 128 ∧ (0 < cur → (u.hviAt i).accIn = (b.hviAt i).accIn + (cur * 128).toNat ∧
    (u.hviAt i).accOut = (b.hviAt i).accOut) ∧ (cur < 0 → (u.hviAt i).accOut = (b.hviAt i).accOut + (-cur * 128).toNat ∧
    (u.hviAt i).accIn = (b.hviAt i).accIn) ∧ ∀ k, k ≠ i → u.hviAt k = b.hviAt k) ∧
  (∀ (t : Nat) (s : State) (i : Nat), let b := s.advance t; b.isStr i = true → hviRuns b = true → b.retired (uMod (2 * i)) =
    false → i < b.hviStr.length → 1 ≤ (b.hviAt i).overCount → Does (.shuntSample t i 32767) s fun u => (u.hviAt i).overrange
    = true ∧ (u.hviAt i).uncertain = true) ∧
  (∀ (t : Nat) (s : State), let b := s.advance t; hostServed b = true → timeRuns b = true → b.hvi.checkT + 3600 * nsS ≤
    b.clk → energyOk b = true → Does (.integratorCheckpoint t) s fun u => u.hvi.checkT = b.clk ∧ (newerSlot u.hvi.check0
    u.hvi.check1).map (·.body) = some (checkEntries b) ∧ u = { b with hvi := u.hvi }) ∧
  (∀ (s : State) (q : Req), Taken s q → AnyRole s → q.payload.length = 12 → badField shuntFields q.payload = none → popString
    s q.payload = none → cnvState s (getU q.payload 0 1) [.isolated, .halted, .retired] = none → getU q.payload 0 1 <
    s.hviStr.length → Does (.strSetShunt q) s fun u => Answered u q 0x020A stOk 0 [] ∧ (u.hviAt (getU q.payload 0 1)).rCfg =
    getU q.payload 4 4 ∧ (u.hviAt (getU q.payload 0 1)).rPath = getU q.payload 8 4 ∧ u.str = s.str) ∧
  (∀ (s : State) (q : Req) (i : Nat), Taken s q → AnyRole s → s.isStr i = true → FormI s q i → i < s.hviStr.length → Does
    (.strClearMeasFlags q) s fun u => Answered u q 0x020E stOk 0 [] ∧ (u.hviAt i).overrange = false ∧ (u.hviAt i).uncertain
    = false ∧ (u.hviAt i).discontinuity = false ∧ (u.hviAt i).vOver = false ∧ (u.hviAt i).acc = (s.hviAt i).acc) ∧
  (∀ (t : Nat) (s : State) (i : Nat) (avg : Rat), let b := s.advance t; calibrates b i = true → i < b.hviStr.length → (b.hviAt
    i).calStep < 4 → (b.hviAt i).calT0 + calStepEnd (b.hviAt i).calStep ≤ b.clk → Does (.calibrationStep t i avg) s fun u =>
    (u.hviAt i).calStep = (b.hviAt i).calStep + 1 ∧ ((b.hviAt i).calStep = 0 → (u.hviAt i).z1 = avg) ∧ ((b.hviAt i).calStep
    = 1 → (u.hviAt i).cPlus = avg) ∧ ((b.hviAt i).calStep = 2 → (u.hviAt i).cMinus = avg) ∧ ((b.hviAt i).calStep = 3 →
    (u.hviAt i).z2 = avg) ∧ ∀ k, k ≠ i → u.hviAt k = b.hviAt k) ∧
  (∀ (t : Nat) (s : State) (i : Nat) (ov : Overlap), let b := s.advance t; calibrates b i = true → i < b.hviStr.length →
    (b.hviAt i).calStep = 4 → swapDue (b.hviAt i) ≤ b.clk → (calChecks (b.hviAt i) ov).all id = true → Does
    (.calibrationSwap t i ov) s fun u => (u.hviAt i).measuring = 1 - (b.hviAt i).measuring ∧ (u.hviAt i).calT0 = b.clk ∧
    (u.hviAt i).calStep = 0 ∧ ((b.hviAt i).measuring = 0 → (u.hviAt i).mod0 = (b.hviAt i).mod0 ∧ (u.hviAt i).mod1.offset =
    ((b.hviAt i).z1 + (b.hviAt i).z2) / 2 ∧ (u.hviAt i).mod1.gain = newGain (b.hviAt i)) ∧ ((b.hviAt i).measuring = 1 →
    (u.hviAt i).mod1 = (b.hviAt i).mod1 ∧ (u.hviAt i).mod0.offset = ((b.hviAt i).z1 + (b.hviAt i).z2) / 2 ∧ (u.hviAt
    i).mod0.gain = newGain (b.hviAt i))) ∧
  (∀ (t : Nat) (s : State) (i : Nat) (ov : Overlap), let b := s.advance t; calibrates b i = true → i < b.hviStr.length →
    (b.hviAt i).calStep = 4 → swapDue (b.hviAt i) ≤ b.clk → (calChecks (b.hviAt i) ov).all id = false → (calMod (b.hviAt
    i)).rejects = [] → Does (.calibrationSwap t i ov) s fun u => (u.hviAt i).measuring = (b.hviAt i).measuring ∧ measMod
    (u.hviAt i) = measMod (b.hviAt i) ∧ (u.hviAt i).calT0 = b.clk ∧ (u.hviAt i).calStep = 0 ∧ u.suspended (uMod (calSd b i))
    = true) ∧
  (∀ (t : Nat) (s : State) (i : Nat) (dI : Int), let b := s.advance t; calibrates b i = true → i < b.hviStr.length → (b.hviAt
    i).calStep = 4 → swapDue (b.hviAt i) ≤ b.clk → 20000000 < dI ∨ dI < -20000000 → Does (.overlapRepeat t i dI) s fun u =>
    (u.hviAt i).overlapEnd = some (swapDue (b.hviAt i) + 10 * nsS) ∧ ∀ k, k ≠ i → u.hviAt k = b.hviAt k)

/-- A voltage sample becomes VS or VB; an insulation result from the fourth half-period on is published, counted against the
warning threshold and warns at the third low one; the handover starts injection; STR_SET_ISO changes mode and threshold; a
fast trip latches, counts and gates the string off; a failed plausibility check charges its units. -/
def Obligations.VoltagesInsulationAndTrips : Prop :=
  (∀ (t : Nat) (s : State) (ch : Nat) (value : Int) (beyond : Bool), let b := s.advance t; hviRuns b = true → b.isStr ch =
    true → ch < b.hviStr.length → b.unitOut (uVolt ch) = false → Does (.voltageSample t ch value false beyond) s fun u =>
    (u.hviAt ch).vs = value ∧ (u.hviAt ch).vsT = b.clk ∧ (u.hviAt ch).vOver = ((b.hviAt ch).vOver || beyond) ∧ ∀ k, k ≠ ch →
    u.hviAt k = b.hviAt k) ∧
  (∀ (t : Nat) (s : State) (value : Int) (beyond : Bool), let b := s.advance t; hviRuns b = true → b.unitOut (uVolt 8) =
    false → Does (.voltageSample t 8 value false beyond) s fun u => u.hvi.vb = value ∧ u.hvi.vbT = b.clk ∧ u.hviStr =
    b.hviStr) ∧
  (∀ (t : Nat) (s : State) (rIso cE : Nat) (side : FaultSide), let b := s.advance t; hviRuns b = true → b.hvi.iso.injecting =
    true → b.hvi.iso.startT + 4 * nsS ≤ b.clk → b.unitOut (uVolt 9) = false → b.unitOut (uVolt 10) = false → 10000 ≤ rIso →
    rIso ≤ 50000000 → Does (.insulationResult t rIso cE side) s fun u => u.hvi.iso.result = some
    { rIso := rIso, cE := cE, side := side, belowRange := false, at_ := b.clk } ∧ u.hvi.iso.lows = (if rIso <
    b.hvi.iso.threshold then b.hvi.iso.lows + 1 else 0) ∧ (rIso < b.hvi.iso.threshold → 2 ≤ b.hvi.iso.lows →
    u.hvi.iso.warning = true)) ∧
  (∀ (t : Nat) (s : State), let b := s.advance t; b.hvi.iso.handoverWait = true → Commands b → b.hvi.iso.mode = .inject → Does
    (.injectionHandover t) s fun u => u =
    { b with hvi := { b.hvi with iso := { b.hvi.iso with handoverWait := false, injecting := true, startT := b.clk } } }) ∧
  (∀ (s : State) (q : Req), Taken s q → AnyRole s → q.payload.length = 8 → getU q.payload 0 1 ≤ 1 → getU q.payload 1 1 = 0 →
    getU q.payload 2 2 = 0 → 20000 ≤ getU q.payload 4 4 → getU q.payload 4 4 ≤ 10000000 → allOpenOr s = none → Does
    (.strSetIso q) s fun u => Answered u q 0x020C stOk 0 [] ∧ u.hvi.iso.mode = (if getU q.payload 0 1 = 0 then .inject else
    .off) ∧ u.hvi.iso.threshold = getU q.payload 4 4) ∧
  (∀ (t : Nat) (s : State) (i : Nat) (charge : Bool), let b := s.advance t; b.isStr i = true → b.pwr.state ≠ .retention →
    b.pwr.state ≠ .unpowered → i < b.hviStr.length → Does (.fastTrip t i charge) s fun u => (u.hviAt i).tripLatched = true ∧
    (u.hviAt i).tripCount = (b.hviAt i).tripCount + 1 ∧ ∀ p, p < b.phase.length → p / 4 = i → (u.phaseAt p).gatedOff = true) ∧
  (∀ (t : Nat) (s : State) (c : HviCheck) (i : Nat), let b := s.advance t; hviRuns b = true → c ≠ .delivery → b.isStr (if c =
    .activity ∨ c = .density then i / 2 else i) = true → b.red.present = true → (plausUnits c i).any b.unitOut = false →
    Does (.hviPlausibilityFailure t c i) s fun u => ∀ x ∈ plausUnits c i, u.suspended x = true) ∧
  (∀ (t : Nat) (s : State) (i : Nat), let b := s.advance t; hviRuns b = true → deliveryLate b i = true → b.unitOut uHvi =
    false → Does (.hviPlausibilityFailure t .delivery i) s fun u => u.suspended uHvi = true)

/-- The master sends a beacon each period and counts each monitor absent until a copy returns; a returned copy that closes
updates both maps and clears the lost count; a lost port, two lost beacons or a turned frame enter two-ended operation, and
100 closed beacons end it; a burst of link errors retires the link. -/
def Obligations.BeaconsAndBreaks : Prop :=
  (∀ (t : Nat) (s : State) (i : Nat), let b := s.advance t; ringRuns b i = true → ringMaster b = true → i <
    b.rings.ring.length → (b.ringAt i).lastBeaconT + beaconPeriod b ≤ b.clk → Does (.beacon t i) s fun u => (u.ringAt
    i).lastBeaconT = b.clk ∧ (u.ringAt i).lostBeacons = (b.ringAt i).lostBeacons + 1 ∧ ∀ m, m < (b.ringAt i).mons.length →
    (u.monAt i m).absent = (b.monAt i m).absent + 1) ∧
  (∀ (t : Nat) (s : State) (i : Nat) (c : BeaconCopy), let b := s.advance t; ringRuns b i = true → ringMaster b = true → i <
    b.rings.ring.length → (b.ringAt i).declared = true → c.closed = true → c.turned = false → Does (.beaconReturn t i c) s
    fun u => (u.ringAt i).headMap = c.presenceMap ∧ (u.ringAt i).tailMap = c.presenceMap ∧ (u.ringAt i).lostBeacons = 0 ∧ ∀
    m, m < (b.ringAt i).n → m < (b.ringAt i).mons.length → c.presenceMap.getLsbD m = true → (u.monAt i m).absent = 0 ∧
    (u.monAt i m).alarmLine = c.alarmMap.getLsbD m) ∧
  (∀ (t : Nat) (s : State) (i : Nat), let b := s.advance t; ringRuns b i = true → i < b.rings.ring.length → Does (.portDown t
    i 0) s fun u => (u.ringAt i).headUp = false ∧ (ringMaster b = true → (u.ringAt i).twoEnded = true)) ∧
  (∀ (t : Nat) (s : State) (i : Nat), let b := s.advance t; ringRuns b i = true → i < b.rings.ring.length → Does (.portDown t
    i 1) s fun u => (u.ringAt i).tailUp = false ∧ (ringMaster b = true → (u.ringAt i).twoEnded = true)) ∧
  (∀ (t : Nat) (s : State) (i : Nat), let b := s.advance t; ringRuns b i = true → i < b.rings.ring.length → Does (.portUp t i
    0) s fun u => (u.ringAt i).headUp = true ∧ (u.ringAt i).tailUp = (b.ringAt i).tailUp) ∧
  (∀ (t : Nat) (s : State) (i : Nat), let b := s.advance t; ringRuns b i = true → i < b.rings.ring.length → Does (.portUp t i
    1) s fun u => (u.ringAt i).tailUp = true ∧ (u.ringAt i).headUp = (b.ringAt i).headUp) ∧
  (∀ (t : Nat) (s : State) (i : Nat), let b := s.advance t; ringRuns b i = true → ringMaster b = true → i <
    b.rings.ring.length → 2 ≤ (b.ringAt i).lostBeacons → (b.ringAt i).lastBeaconT + 200 * nsUs ≤ b.clk → Does
    (.twoEndedOperation t i) s fun u => (u.ringAt i).twoEnded = true) ∧
  (∀ (t : Nat) (s : State) (i : Nat), let b := s.advance t; ringRuns b i = true → i < b.rings.ring.length → (b.ringAt
    i).twoEnded = true → 100 ≤ (b.ringAt i).closedCount → Does (.twoEndedExit t i) s fun u => (u.ringAt i).twoEnded =
    false ∧ (u.ringAt i).breakAt = none) ∧
  (∀ (t : Nat) (s : State) (i pos port count : Nat), let b := s.advance t; ringRuns b i = true → 16 ≤ count → pos < (b.ringAt
    i).n → port < 2 → Does (.linkCrcBurst t i pos port count) s fun u => u.retired (linkUnit i (b.ringAt i).n (pos + port))
    = true) ∧
  (∀ (t : Nat) (s : State) (i link d : Nat), let b := s.advance t; ringRuns b i = true → i < b.rings.ring.length → Does
    (.delay t i link d) s fun u => tblGet 0 link (u.ringAt i).linkDelay = d ∧ u.str = b.str) ∧
  (∀ (t : Nat) (s : State) (i m : Nat), let b := s.advance t; b.isStr i = true → HasMon b i m → (b.monAt i m).lastBeaconT + 50
    * nsMs ≤ b.clk → Does (.beaconTimeout t i m) s fun u => (u.monAt i m).synced = false) ∧
  (∀ (t : Nat) (s : State) (i m : Nat), let b := s.advance t; b.isStr i = true → HasMon b i m → m < 16 → Does (.monitorRestart
    t i m) s fun u => (u.monAt i m).position = none ∧ (u.monAt i m).synced = false ∧ (u.monAt i m).bleed = [] ∧ (u.monAt i
    m).shuttle = none ∧ (u.monAt i m).restarted = true ∧ (b.retired (uMon i m) = false → u.suspended (uMon i m) = true))

/-- An ENUM gives every monitor of the ring a position; a return whose count equals N serves the ring and with the declared
identities matches every monitor; a schedule starts at the first multiple of the period at least 20 ms ahead; a trigger
opens a round on every declared and served ring; a read is sent to each position in turn; the close counts what is missing. -/
def Obligations.EnumerationAndRounds : Prop :=
  (∀ (t : Nat) (s : State) (i : Nat), let b := s.advance t; ringRuns b i = true → ringMaster b = true → i <
    b.rings.ring.length → (b.ringAt i).declared = true → (b.ringAt i).enumPending = true → Does (.enumFrame t i) s fun u =>
    (u.ringAt i).enumSent = true ∧ (u.ringAt i).enumPending = false ∧ ∀ m, m < (b.ringAt i).n → m < (b.ringAt
    i).mons.length → (u.monAt i m).position = some ((b.monAt i m).position.getD m)) ∧
  (∀ (t : Nat) (s : State) (i m : Nat), let b := s.advance t; ringRuns b i = true → ringMaster b = true → i <
    b.rings.ring.length → (b.ringAt i).declared = true → m < (b.ringAt i).n → (b.monAt i m).position = none → Does
    (.unaddressedMonitor t i) s fun u => (u.ringAt i).enumSent = true ∧ (m < (b.ringAt i).mons.length → (u.monAt i
    m).position = some m)) ∧
  (∀ (t : Nat) (s : State) (i : Nat) (e : EnumReturn), let b := s.advance t; ringRuns b i = true → i < b.rings.ring.length →
    (b.ringAt i).enumSent = true → (b.ringAt i).enumAccept = false → (b.ringAt i).enumReq = none → e.turned = false →
    e.count1 = (b.ringAt i).n → e.ids = (b.ringAt i).ids → Does (.enumReturn t i e) s fun u => (u.ringAt i).served = true ∧
    (u.ringAt i).enumFailed = false ∧ (u.ringAt i).enumSent = false ∧ ∀ m, m < (b.ringAt i).n → m < (b.ringAt
    i).mons.length → (u.monAt i m).idMatch = true) ∧
  (∀ (t : Nat) (s : State) (i : Nat) (e : EnumReturn), let b := s.advance t; ringRuns b i = true → i < b.rings.ring.length →
    (b.ringAt i).enumSent = true → (b.ringAt i).enumReq = none → e.turned = false → e.count1 ≠ (b.ringAt i).n → Does
    (.enumReturn t i e) s fun u => (u.ringAt i).served = false ∧ (u.ringAt i).enumFailed = true) ∧
  (∀ (t : Nat) (s : State) (i p : Nat), let b := s.advance t; ringRuns b i = true → ringMaster b = true → roundsRun b = true →
    i < b.rings.ring.length → wantedPeriod b = p → Does (.sched t i) s fun u => (u.ringAt i).newEpoch = some ((b.tsu.now +
    20 * nsMs + p * nsUs - 1) / (p * nsUs) * (p * nsUs), p) ∧ (u.ringAt i).schedId = ((b.ringAt i).schedId + 1) % 256) ∧
  (∀ (t : Nat) (s : State) (i : Nat), let b := s.advance t; roundsRun b = true → b.clockLost .ring = false → i <
    b.rings.ring.length → i < b.hviStr.length → (b.ringAt i).declared = true → (b.ringAt i).served = true → (b.ringAt
    i).newEpoch = none → Does (.roundTrigger t) s fun u => (u.ringAt i).roundOpen = true ∧ (u.ringAt i).roundT0 = b.clk ∧
    (u.ringAt i).round = (b.ringAt i).round + 1 ∧ (u.hviAt i).alignAt = some b.clk) ∧
  (∀ (t : Nat) (s : State) (i m : Nat), let b := s.advance t; ringRuns b i = true → ringMaster b = true → HasMon b i m →
    (b.ringAt i).roundOpen = true → m < (b.ringAt i).n → (b.ringAt i).roundT0 + 100 * nsUs * (m + 1) ≤ b.clk → (b.monAt i
    m).credits ≠ 0 → Does (.roundRead t i m) s fun u => Sent b u i m 4 0) ∧
  (∀ (t : Nat) (s : State) (i : Nat), let b := s.advance t; b.isStr i = true → ringRuns b i = true → i < b.rings.ring.length →
    (b.ringAt i).roundOpen = true → (b.ringAt i).roundT0 + 2 * nsMs ≤ b.clk → Does (.roundClose t) s fun u => (u.ringAt
    i).roundOpen = false ∧ (u.ringAt i).publishT = b.clk ∧ ∀ m, m < (b.ringAt i).n → m < (b.ringAt i).mons.length → (b.monAt
    i m).got = false → (u.monAt i m).missing = (b.monAt i m).missing + 1) ∧
  (∀ (s : State) (q : Req) (i : Nat), Taken s q → Commands s → getU q.payload 0 1 = i → q.payload.length = 8 + 8 * getU
    q.payload 2 1 → badField ringHead q.payload = none → [10, 20, 25, 50, 100].contains (getU q.payload 4 1) = true → i <
    s.strings → i < s.rings.ring.length → ringConflict s i = none → Does (.strSetRing q) s fun u => (u.ringAt i).declared =
    true ∧ (u.ringAt i).n = getU q.payload 2 1 ∧ (u.ringAt i).headEnd2 = (getU q.payload 1 1 == 1) ∧ (u.ringAt i).ids =
    (List.range (getU q.payload 2 1)).map (fun m => getU q.payload (8 + 8 * m) 8) ∧ (u.ringAt i).enumPending = true ∧
    (u.ringAt i).enumReq = some { req := q, opcode := 0x020F } ∧ u.rings.rate = getU q.payload 4 1 ∧ u.rings.floatRate =
    getU q.payload 5 1) ∧
  (∀ (s : State) (q : Req) (i : Nat), Taken s q → Commands s → getU q.payload 0 1 = i → q.payload.length = 2 → getU q.payload
    1 1 < 2 → i < s.strings → i < s.rings.ring.length → ringConflict s i = none → Does (.strEnumerate q) s fun u =>
    (u.ringAt i).enumPending = true ∧ (u.ringAt i).enumAccept = (getU q.payload 1 1 == 1) ∧ (u.ringAt i).enumReq = some
    { req := q, opcode := 0x0210 }) ∧
  (∀ (s : State) (q : Req) (i pos port : Nat), Taken s q → Commands s → getU q.payload 0 1 = i → getU q.payload 1 1 = pos →
    getU q.payload 2 1 = port → getU q.payload 3 1 = 0 → q.payload.length = 4 → i < s.strings → pos < (s.ringAt i).n → port
    < 2 → cutsOff (s.ringAt i) (pos + port) = false → i < s.rings.ring.length → Does (.strRingLink q) s fun u => Done1 s u q
    0x0211 3 [] ∧ (2 * pos + port) ∈ (u.ringAt i).linksOff ∧ (u.ringAt i).twoEnded = true)

/-- A response within 250 us returns the frame's credit, a DATA of kind 0 becomes the monitor's newest reading and clears what
it reads, an ACK with a refusal is counted; a frame without response in 250 us is lost and its credit returns; a turned
frame returns its credit and is sent once more; alarm details and balance readings are asked for outside the round. A
command of this unit to a monitor that follows it uses a credit and is acknowledged with result 0: BLEED_SET adds its
channels until their duration ends, BLEED_STOP removes them, SHUTTLE_SET starts the transfer, SHUTTLE_STOP ends it,
LINK_DISABLE and LINK_ENABLE turn a port off and on; a bleeding channel ends below its floor or at its duration, a shuttle
at its charge, duration or voltage; a monitor refuses a sender it does not follow with 0x02. -/
def Obligations.FramesReadingsAndCommands : Prop :=
  (∀ (t : Nat) (s : State) (i m seq : Nat) (o : Outstanding), let b := s.advance t; matching b i m seq = some o → ringRuns b i
    = true → HasMon b i m → o.departed + 250 * nsUs ≤ b.clk → Does (.frameLost t i m seq) s fun u => (u.ringAt i).lost =
    (b.ringAt i).lost + 1 ∧ (u.monAt i m).credits = min 4 ((b.monAt i m).credits + 1) ∧ (u.ringAt i).outstanding = (b.ringAt
    i).outstanding.filter (fun x => x.m ≠ o.m ∨ x.seq ≠ o.seq)) ∧
  (∀ (t : Nat) (s : State) (i m seq : Nat) (o : Outstanding), let b := s.advance t; matching b i m seq = some o → ringRuns b i
    = true → HasMon b i m → o.resent = false → Does (.turnedFrame t i m seq) s fun u => (u.ringAt i).twoEnded = true ∧
    (u.ringAt i).outstanding = (b.ringAt i).outstanding.filter (fun x => x.m ≠ o.m ∨ x.seq ≠ o.seq) ++
    [{ m := m, seq := ((b.monAt i m).seq + 1) % 256, type := o.type, arg := o.arg, departed := b.clk, resent := true }]) ∧
  (∀ (t : Nat) (s : State) (i m seq : Nat) (d : RoundData) (o : Outstanding), let b := s.advance t; ringRuns b i = true →
    ringMaster b = true → m < 16 → HasMon b i m → matching b i m seq = some o → o.type = 4 → b.clk ≤ o.departed + 250 *
    nsUs → Does (.data t i m seq 0 d) s fun u => (u.monAt i m).round = some d ∧ (u.monAt i m).prevRead = some d ∧ (u.monAt i
    m).roundT = b.clk ∧ (u.monAt i m).synced = d.status.getLsbD 0 ∧ (d.status.getLsbD 1 = false → (u.monAt i m).ovMap = 0 ∧
    (u.monAt i m).uvMap = 0 ∧ (u.monAt i m).alarmLatched = false) ∧ (u.monAt i m).credits = min 4 ((b.monAt i m).credits +
    1)) ∧
  (∀ (t : Nat) (s : State) (i m seq code result value : Nat) (o : Outstanding), let b := s.advance t; ringRuns b i = true →
    ringMaster b = true → HasMon b i m → matching b i m seq = some o → b.clk ≤ o.departed + 250 * nsUs → result ≠ 0 → Does
    (.ack t i m seq code result value) s fun u => (u.ringAt i).refusedCmds = (b.ringAt i).refusedCmds + 1 ∧ (u.monAt i
    m).credits = min 4 ((b.monAt i m).credits + 1) ∧ (result = 2 → 1 ≤ code → code ≤ 4 → i < b.bal.length → (u.balAt
    i).ringStopped = true)) ∧
  (∀ (t : Nat) (s : State) (i m : Nat), let b := s.advance t; ringRuns b i = true → ringMaster b = true → HasMon b i m →
    (b.monAt i m).alarmLine = true → (b.monAt i m).credits ≠ 0 → Does (.alarmDetailRead t i m) s fun u => Sent b u i m 4 0) ∧
  (∀ (t : Nat) (s : State) (i m : Nat), let b := s.advance t; ringRuns b i = true → ringMaster b = true → HasMon b i m →
    500000 < (b.ringAt i).period → (List.range (b.ringAt i).n).filter (fun k => !((b.ringAt i).mon k).bleed.isEmpty ||
    ((b.ringAt i).mon k).shuttle.isSome) = [m] → (b.monAt i m).credits ≠ 0 → Does (.balanceRead t i) s fun u => Sent b u i m
    4 2) ∧
  (∀ (t : Nat) (s : State) (i m ch : Nat), let b := s.advance t; b.isStr i = true → HasMon b i m → Does
    (.hardwareComparatorAlarm t i m .ov ch) s fun u => (u.monAt i m).alarmLatched = true ∧ (u.monAt i m).ovMap = (b.monAt i
    m).ovMap ||| BitVec.twoPow 32 ch ∧ (u.monAt i m).ovActive = (b.monAt i m).ovActive ||| BitVec.twoPow 32 ch ∧ ∀ sh,
    (u.monAt i m).shuttle = some sh → sh.args.channel ≠ ch) ∧
  (∀ (t : Nat) (s : State) (i m : Nat) (mask : BitVec 32) (floor duration : Nat), let b := s.advance t; CanCommand b i m →
    (b.monAt i m).fresh2 = true → (b.balAt i).ringStopped = false → (b.monAt i m).dieLimit = false → bleedResult (b.monAt i
    m) mask floor duration = 0 → Does (.bleedSet t i m true mask floor duration) s fun u => Sent b u i m 6 1 ∧ (u.monAt i
    m).ack.map (fun a => (a.1, a.2.1)) = some (1, 0) ∧ (u.monAt i m).fresh2 = false ∧ (u.monAt i m).bleed = (b.monAt i
    m).bleed.filter (fun x => !(mapChannels mask).contains x.ch) ++ (mapChannels mask).map (fun c =>
    { ch := c, floor := floor, endT := b.clk + duration * 100 * nsMs })) ∧
  (∀ (t : Nat) (s : State) (i m : Nat) (mask : BitVec 32), let b := s.advance t; CanCommand b i m → (b.monAt i m).fresh2 =
    true → Does (.bleedStop t i m true mask) s fun u => Sent b u i m 6 2 ∧ (u.monAt i m).ack.map (fun a => (a.1, a.2.1)) =
    some (2, 0) ∧ (u.monAt i m).bleed = (b.monAt i m).bleed.filter (fun x => !mask.getLsbD x.ch)) ∧
  (∀ (t : Nat) (s : State) (i m : Nat) (a : ShuttleArgs), let b := s.advance t; CanCommand b i m → (b.monAt i m).fresh2 =
    true → (b.balAt i).ringStopped = false → (b.monAt i m).shuttle = none → a.channel ≤ 31 → 100 ≤ a.current → a.current ≤
    3000 → 1 ≤ a.duration → a.duration ≤ 600 → Does (.shuttleSet t i m true a) s fun u => Sent b u i m 6 3 ∧ (u.monAt i
    m).ack.map (fun a => (a.1, a.2.1)) = some (3, 0) ∧ (u.monAt i m).shuttle = some
    { args := a, startT := b.clk, q0 := 0 } ∧ (u.monAt i m).cmdCur = (if a.outOfCell then -(a.current : Int) else
    a.current)) ∧
  (∀ (t : Nat) (s : State) (i m : Nat) (a : ShuttleArgs) (sh : Shuttle), let b := s.advance t; CanCommand b i m → (b.monAt i
    m).fresh2 = true → (b.balAt i).ringStopped = false → (b.monAt i m).shuttle = some sh → sh.args.channel ≠ a.channel →
    a.channel ≤ 31 → 100 ≤ a.current → a.current ≤ 3000 → 1 ≤ a.duration → a.duration ≤ 600 → Does (.shuttleSet t i m true
    a) s fun u => (u.monAt i m).ack.map (fun a => (a.1, a.2.1)) = some (3, 4) ∧ (u.monAt i m).shuttle = some sh) ∧
  (∀ (t : Nat) (s : State) (i m : Nat), let b := s.advance t; CanCommand b i m → (b.monAt i m).fresh2 = true → Does
    (.shuttleStop t i m true) s fun u => Sent b u i m 6 4 ∧ (u.monAt i m).ack.map (fun a => (a.1, a.2.1)) = some (4, 0) ∧
    (u.monAt i m).shuttle = none) ∧
  (∀ (t : Nat) (s : State) (i m : Nat), let b := s.advance t; b.isStr i = true → m < 16 → HasMon b i m → (b.monAt i
    m).position.isSome = true → (b.monAt i m).followsUs = true → Does (.shuttleStop t i m false) s fun u => (u.monAt i
    m).ack.map (fun a => (a.1, a.2.1)) = some (4, 2) ∧ (u.monAt i m).shuttle = (b.monAt i m).shuttle) ∧
  (∀ (t : Nat) (s : State) (i m : Nat), let b := s.advance t; CanCommand b i m → Does (.linkDisable t i m true 0) s fun u =>
    Sent b u i m 6 0x11 ∧ (u.monAt i m).ack.map (fun a => (a.1, a.2.1)) = some (0x11, 0) ∧ (u.monAt i m).port0Off = true ∧
    (u.monAt i m).port1Off = (b.monAt i m).port1Off) ∧
  (∀ (t : Nat) (s : State) (i m : Nat), let b := s.advance t; CanCommand b i m → Does (.linkEnable t i m true 1) s fun u =>
    Sent b u i m 6 0x12 ∧ (u.monAt i m).ack.map (fun a => (a.1, a.2.1)) = some (0x12, 0) ∧ (u.monAt i m).port1Off = false ∧
    (u.monAt i m).port0Off = (b.monAt i m).port0Off) ∧
  (∀ (t : Nat) (s : State) (i m ch vMv : Nat), let b := s.advance t; HasMon b i m → Does (.bleedEnd t i m ch vMv) s fun u =>
    (u.monAt i m).bleed = (b.monAt i m).bleed.filter (fun x => ¬ (x.ch = ch ∧ (vMv < x.floor ∨ x.endT ≤ b.clk))) ∧ u.str =
    b.str) ∧
  (∀ (t : Nat) (s : State) (i m vMv : Nat) (sh : Shuttle), let b := s.advance t; HasMon b i m → (b.monAt i m).shuttle = some
    sh → sh.startT + sh.args.duration * nsS ≤ b.clk → Does (.shuttleEnd t i m vMv) s fun u => (u.monAt i m).shuttle = none)

/-- EST_SET_CONFIG stores the estimator configuration; EST_SET_SOC sets SOC and its variance of every present cell in its range
whose filter runs; EST_RESET_CELL makes those filters start again; EST_JOURNAL with bit 0 starts a journal write where the
energy check passes and answers with both slots; EST_REQUEST_ANCHOR asks for a rest window. A period of the estimation
engine moves to the next one, counts a late start as a catch-up, and runs the step of every string on which one falls; 0.05
C takes a string to the HIGH band and 10 s below 0.04 C back to MID; a journal write goes to the slot that is not the newer
valid one and becomes valid when it is done; a rest window is asked for at the anchor interval and an anchor is overdue at
twice that. -/
def Obligations.Estimator : Prop :=
  (∀ (s : State) (q : Req), Taken s q → Commands s → q.payload.length = 128 → badField estFields q.payload = none → estCheck
    q.payload = none → getU q.payload 0 1 < s.strings → getU q.payload 1 1 = modelSlot s (getU q.payload 0 1) → slice
    q.payload 104 12 = slice (estCfg s (getU q.payload 0 1)) 104 12 → Does (.estSetConfig q) s fun u => Done1 s u q 0x0401 3
    [] ∧ SameBut u ((touch s).modEst (getU q.payload 0 1) fun e => { e with cfg := q.payload })) ∧
  (∀ (s : State) (q : Req), Taken s q → Commands s → q.payload.length = 12 → 0 < getU q.payload 2 2 → getU q.payload 0 2 +
    getU q.payload 2 2 ≤ s.cells → rangeOpen s q.payload = none → Does (.estSetSoc q) s fun u => Done1 s u q 0x0406 3 [] ∧ ∀
    c ∈ cellRange q.payload, (presentCells s (c / 512)).contains c = true → (s.cellAt c).started = true → (u.cellAt c).soc =
    clampR (-5 / 100) (105 / 100) ((getU q.payload 4 4 : Rat) / 10000000) ∧ (u.cellAt c).q = (s.cellAt c).q) ∧
  (∀ (s : State) (q : Req), Taken s q → Commands s → q.payload.length = 4 → 0 < getU q.payload 2 2 → getU q.payload 0 2 + getU
    q.payload 2 2 ≤ s.cells → rangeOpen s q.payload = none → Does (.estResetCell q) s fun u => Done1 s u q 0x0407 3 [] ∧ ∀ c
    ∈ cellRange q.payload, (presentCells s (c / 512)).contains c = true → (u.cellAt c).started = false ∧ (u.cellAt c).stale
    = true) ∧
  (∀ (s : State) (q : Req), Taken s q → AnyRole s → q.payload.length = 1 → getU q.payload 0 1 = 1 → energyOk s = true →
    s.cee.journal.writing = none → Does (.estJournal q) s fun u => Answered u q 0x0408 stOk 0 (journalInfo s) ∧
    u.cee.journal.writing.isSome = true ∧ u.cee.journal.lastT = s.clk ∧ u.str = s.str) ∧
  (∀ (s : State) (q : Req), Taken s q → AnyRole s → q.payload.length = 1 → getU q.payload 0 1 = 0 → Does (.estJournal q) s fun
    u => Answered u q 0x0408 stOk 0 (journalInfo s) ∧ HostOnly s u) ∧
  (∀ (s : State) (q : Req) (i : Nat), Taken s q → Commands s → q.payload.length = 4 → getU q.payload 0 1 = i → getU q.payload
    1 1 = 0 → i < s.strings → i < s.cee.est.length → (s.strAt i).state = .regulating → estFlag s i 1 = true → getBit (dspCfg
    s) 7 1 = true → Does (.estRequestAnchor q) s fun u => Answered u q 0x0409 stOk 0 [] ∧ (u.estAt i).restRequested = true ∧
    (u.estAt i).requestT = s.clk ∧ u.str = s.str) ∧
  (∀ (t : Nat) (s : State), let b := s.advance t; ceeRuns b = true → b.tsu.now / (100 * nsMs) = b.cee.periodIdx → Does
    (.ceePeriod t) s fun u => u.cee.periodIdx = b.cee.periodIdx + 1 ∧ u.cee.late = 0 ∧ u.cee.catchUp = b.cee.catchUp) ∧
  (∀ (t : Nat) (s : State), let b := s.advance t; ceeRuns b = true → b.cee.periodIdx < b.tsu.now / (100 * nsMs) → b.tsu.now /
    (100 * nsMs) ≤ b.cee.periodIdx + 8 → b.cee.periodIdx ≠ 0 → Does (.ceePeriod t) s fun u => u.cee.periodIdx =
    b.cee.periodIdx + 1 ∧ u.cee.late = b.cee.late + 1 ∧ u.cee.catchUp = b.cee.catchUp + 1) ∧
  (∀ (t : Nat) (s : State) (i : Nat), let b := s.advance t; ceeRuns b = true → b.tsu.now / (100 * nsMs) = b.cee.periodIdx →
    b.isStr i = true → i < b.cee.est.length → stepDue b i = true → mtQ (modelOf b i) ≠ 0 → Does (.ceePeriod t) s fun u =>
    (u.estAt i).stepRound = some (b.ringAt i).round ∧ (u.estAt i).lastAcc = (b.hviAt i).aligned.acc / 10000 ∧ (u.estAt
    i).bookChecks = (b.estAt i).bookChecks + 1) ∧
  (∀ (t : Nat) (s : State) (i : Nat), let b := s.advance t; b.isStr i = true → ceeRuns b = true → oneC b i ≠ 0 → i <
    b.cee.est.length → (b.estAt i).band = .mid ∨ (b.estAt i).band = .low → atLeastC b i 50 (alignedMean b i) = true → Does
    (.stepRateChange t i) s fun u => (u.estAt i).band = .high ∧ (u.estAt i).rateRound = (b.ringAt i).round + 1) ∧
  (∀ (t : Nat) (s : State) (i : Nat), let b := s.advance t; b.isStr i = true → ceeRuns b = true → oneC b i ≠ 0 → i <
    b.cee.est.length → (b.estAt i).band = .high → heldFor b (b.estAt i).lowSince (10 * nsS) = true → belowBand b i = true →
    Does (.stepRateChange t i) s fun u => (u.estAt i).band = .mid) ∧
  (∀ (t : Nat) (s : State), let b := s.advance t; hostServed b = true → b.clockLost .est = false → b.pwr.state ≠ .dormant →
    b.cee.journal.lastT + 21600 * nsS ≤ b.clk → energyOk b = true → b.cee.journal.writing = none → Does (.journalWrite t 0)
    s fun u => u.cee.journal.writing = some (if ((newerSlot b.cee.journal.slot0 b.cee.journal.slot1).map (·.seq)) = some
    b.cee.journal.slot0.seq ∧ b.cee.journal.slot0.valid then 1 else 0) ∧ u.cee.journal.lastT = b.clk ∧ u.cee.journal.again =
    none) ∧
  (∀ (t : Nat) (s : State), let b := s.advance t; b.cee.journal.writing = some 0 → b.cee.journal.again = none → Does
    (.journalWriteDone t) s fun u => u.cee.journal.writing = none ∧ u.cee.journal.slot0 =
    { b.cee.journal.slot0 with valid := true } ∧ u.cee.journal.slot1 = b.cee.journal.slot1) ∧
  (∀ (t : Nat) (s : State) (i : Nat), let b := s.advance t; b.isStr i = true → i < b.cee.est.length → Commands b → b.pwr.state
    ≠ .float → estFlag b i 1 = true → (b.estAt i).rest = none → anchorInterval b i ≤ anchorAge b i → (b.estAt i).requestT =
    0 → Does (.restWindowRequest t i) s fun u => (u.estAt i).restRequested = true ∧ (u.estAt i).requestT = b.clk ∧ u.str =
    b.str) ∧
  (∀ (t : Nat) (s : State) (i : Nat), let b := s.advance t; b.isStr i = true → i < b.cee.est.length → ceeRuns b = true →
    (b.estAt i).overdue = false → 2 * anchorInterval b i ≤ anchorAge b i → Does (.anchorOverdue t i) s fun u => (u.estAt
    i).overdue = true ∧ u.str = b.str)

/-- A plausible sample is the input's value with its offset; one bad sample leaves the last good value, marked suspect, and the
third in a row breaks the input, which then reads 0x7FFF; after 60 s without the condition it is used again; SYS_SET_TI
stores a configuration and starts the input afresh. -/
def Obligations.ThermalInputs : Prop :=
  (∀ (t : Nat) (s : State) (n : Nat) (r : TiReading) (v : Int), let b := s.advance t; n < 24 → n < b.th.ti.length → hostServed
    b = true → tiMode b n ≠ 0 → b.pwr.state ≠ .dormant → r.refOk = true → b.suspended (uTi n) = false → b.retired (uTi n) =
    false → r.openLead = false → r.short = false → v = r.temp + getS (b.tiAt n).cfg 24 2 → implausible b n v = false →
    (b.tiAt n).broken = false → Does (.tiSample t n r) s fun u => (u.tiAt n).value = v ∧ (u.tiAt n).good = some v ∧ (u.tiAt
    n).suspect = false ∧ (u.tiAt n).bad = 0 ∧ u.mem = b.mem) ∧
  (∀ (t : Nat) (s : State) (n : Nat) (r : TiReading) (g : Int), let b := s.advance t; n < 24 → n < b.th.ti.length → hostServed
    b = true → tiMode b n ≠ 0 → b.pwr.state ≠ .dormant → r.refOk = true → b.suspended (uTi n) = false → b.retired (uTi n) =
    false → r.short = true → (b.tiAt n).bad < 2 → (b.tiAt n).good = some g → (b.tiAt n).broken = false → Does (.tiSample t n
    r) s fun u => (u.tiAt n).value = g ∧ (u.tiAt n).suspect = true ∧ (u.tiAt n).bad = (b.tiAt n).bad + 1 ∧ (u.tiAt n).broken
    = false) ∧
  (∀ (t : Nat) (s : State) (n : Nat) (r : TiReading), let b := s.advance t; n < 24 → n < b.th.ti.length → hostServed b =
    true → tiMode b n ≠ 0 → b.pwr.state ≠ .dormant → r.refOk = true → b.suspended (uTi n) = false → b.retired (uTi n) =
    false → r.openLead = true → (b.tiAt n).bad = 2 → (b.tiAt n).broken = false → Does (.tiSample t n r) s fun u => (u.tiAt
    n).value = 32767 ∧ (u.tiAt n).broken = true ∧ (u.tiAt n).suspect = false) ∧
  (∀ (t : Nat) (s : State) (n : Nat), let b := s.advance t; n < 24 → n < b.th.ti.length → (b.tiAt n).broken = true → b.retired
    (uTi n) = false → (b.tiAt n).badT + 60 * nsS ≤ b.clk → Does (.sensorRecovery t n) s fun u => (u.tiAt n).broken = false ∧
    (u.tiAt n).bad = 0 ∧ u.str = b.str) ∧
  (∀ (t : Nat) (s : State) (n : Nat), let b := s.advance t; 24 ≤ n → (tblGet {} (n - 24) b.th.sensors).broken = true → (tblGet
    {} (n - 24) b.th.sensors).okSince + 60 * nsS ≤ b.clk → Does (.sensorRecovery t n) s fun u => (tblGet {} (n - 24)
    u.th.sensors).broken = false ∧ u.str = b.str) ∧
  (∀ (s : State) (q : Req) (n : Nat), Taken s q → Commands s → q.payload.length = 28 → getU q.payload 0 1 = n → badField
    tiFields q.payload = none → tiCheck q.payload = none → tiConflict s q.payload = none → (getU q.payload 2 1 ≤ 1 → getU
    q.payload 3 1 < s.strings) → s.retired (uTi n) = false → n < s.th.ti.length → Does (.sysSetTi q) s fun u => Done1 s u q
    0x0109 3 [] ∧ (u.tiAt n).cfg = q.payload ∧ (u.tiAt n).good = none ∧ (u.tiAt n).broken = false ∧ u.str = s.str ∧ u.rack =
    s.rack ∧ u.saf = s.saf) ∧
  (∀ (s : State) (q : Req) (n : Nat), Taken s q → Commands s → q.payload.length = 28 → getU q.payload 0 1 = n → badField
    tiFields q.payload = none → tiCheck q.payload = none → tiConflict s q.payload = none → (getU q.payload 2 1 ≤ 1 → getU
    q.payload 3 1 < s.strings) → s.retired (uTi n) = true → tiMode s n = getU q.payload 1 1 → n < s.th.ti.length → Does
    (.sysSetTi q) s fun u => (u.tiAt n).cfg = q.payload ∧ (∃ e ∈ u.flt.susp, e.unit = uTi n ∧ e.restoring = true) ∧ u.str =
    s.str)

/-- TPE_SET_PLAN keeps a plan pending; a first plan takes effect at its epoch and one with no tones at a window boundary, where
injection stops; within 100 ms before a window a pair that nothing blocks starts to inject, at a window start it carries the
full envelope, and a condition of R162 makes it fall and aborts its window; TONE PLAN, PHASOR and HALT reach the monitors
that follow this unit. -/
def Obligations.TonePlans : Prop :=
  (∀ (s : State) (q : Req), Taken s q → Commands s → q.payload.length = 88 → planTones q.payload = 0 ∨ getU q.payload 4 1 < 2
    ^ s.strings → planBad s q.payload = none → Does (.tpeSetPlan q) s fun u => Done1 s u q 0x0501 3 [] ∧ SameBut u ((touch
    s).setTpe fun x => { x with pending := some q.payload })) ∧
  (∀ (t : Nat) (s : State) (p : Bytes), let b := s.advance t; b.tpe.pending = some p → b.tpe.plan = none → planTones p ≠ 0 →
    planEpoch p ≤ b.tsu.now → 2 < b.tsu.trig.length → Does (.planEffect t) s fun u => u.tpe.plan = some p ∧ u.tpe.pending =
    none ∧ u.tpe.windowT = planEpoch p ∧ ((u.tsu.trig.getD 2 {}).at_ = planEpoch p ∧ (u.tsu.trig.getD 2 {}).period =
    planWindow p ∧ (u.tsu.trig.getD 2 {}).arm = true) ∧ u.str = b.str) ∧
  (∀ (t : Nat) (s : State) (p o : Bytes), let b := s.advance t; b.tpe.pending = some p → b.tpe.plan = some o → planTones p =
    0 → windowAtOrAfter o (b.tpe.windowT + 1) ≤ b.tsu.now → Does (.planEffect t) s fun u => u.tpe.plan = none ∧
    u.tpe.pending = none ∧ ∀ k, k < pairCount b → injecting (u.pairAt k) = false) ∧
  (∀ (t : Nat) (s : State) (pair : Nat) (p : Bytes), let b := s.advance t; b.tpe.plan = some p → tpeRuns b = true → pair <
    pairCount b → pair < b.tpe.pairs.length → pairHas p b pair = true → injecting (b.pairAt pair) = false → windowAtOrAfter
    p b.tsu.now ≤ b.tsu.now + 100 * nsMs → b.tpe.startAt = none → (pairStatus b p pair).blocked = false → Does
    (.injectionStart t pair) s fun u => (u.pairAt pair).env = .rising b.clk ∧ (u.pairAt pair).aborted = false ∧ (u.pairAt
    pair).scaleLo = (pairStatus b p pair).scaleLo ∧ (u.pairAt pair).scaleHi = (pairStatus b p pair).scaleHi ∧ u.str = b.str) ∧
  (∀ (t : Nat) (s : State) (pair : Nat) (p : Bytes), let b := s.advance t; b.tpe.plan = some p → tpeRuns b = true → pair <
    pairCount b → pair < b.tpe.pairs.length → pairHas p b pair = true → injecting (b.pairAt pair) = false → windowAtOrAfter
    p b.tsu.now ≤ b.tsu.now + 100 * nsMs → b.tpe.startAt = none → (pairStatus b p pair).blocked = true → Does
    (.injectionStart t pair) s fun u => injecting (u.pairAt pair) = false ∧ u.pairAt pair = pairStatus b p pair) ∧
  (∀ (t : Nat) (s : State) (pair : Nat), let b := s.advance t; pair < pairCount b → pair < b.tpe.pairs.length → mustStop b
    pair = true → injecting (b.pairAt pair) = true → Does (.injectionStop t pair) s fun u => (u.pairAt pair).env = .falling
    b.clk ∧ (u.pairAt pair).aborted = true ∧ u.str = b.str) ∧
  (∀ (t : Nat) (s : State) (p : Bytes) (k : Nat), let b := s.advance t; b.tpe.plan = some p → planEpoch p ≤ b.tsu.now →
    timeRuns b = true → k < pairCount b → k < b.tpe.pairs.length → injecting (b.pairAt k) = true → tpeRuns b = true →
    (pairStatus b p k).blocked = false → Does (.windowStart t) s fun u => (u.pairAt k).env = .on ∧ (u.pairAt k).aborted =
    false ∧ u.tpe.windowIdx = (b.tsu.now - planEpoch p) / max 1 (planWindow p) ∧ u.tpe.windowT = planEpoch p +
    u.tpe.windowIdx * max 1 (planWindow p)) ∧
  (∀ (t : Nat) (s : State) (i : Nat) (p : Bytes), let b := s.advance t; ringRuns b i = true → tpeRuns b = true → b.tpe.plan =
    some p → planHas p i = true → i < b.rings.ring.length → Does (.tonePlan t i) s fun u => ∀ m, m < (b.ringAt
    i).mons.length → (b.monAt i m).followsUs = true → (u.monAt i m).plan = true) ∧
  (∀ (t : Nat) (s : State) (i m : Nat), let b := s.advance t; b.isStr i = true → b.tpe.collecting = true → (b.monAt i m).plan
    = true → HasMon b i m → (b.monAt i m).followsUs = b.unit.commands → Does (.phasor t i m) s fun u => (u.monAt i
    m).phasorWindow = some b.tpe.res.idx) ∧
  (∀ (t : Nat) (s : State) (i : Nat), let b := s.advance t; ringRuns b i = true → Commands b → (b.pairAt (pairOf b i)).aborted
    = true → i < b.rings.ring.length → Does (.toneHalt t i) s fun u => ∀ m, m < (b.ringAt i).mons.length → (b.monAt i
    m).followsUs = true → (u.monAt i m).phasorWindow = none)

/-- The end of a window starts the collection of its results; from 50 ms on a block with a PHASOR is kept and one without is
read once more; publishing writes each entry of the block; a block that has not come 5 s after the end is published invalid
and counted; a learned core offset moves toward the surface; SF-RUN latches in SP on two windows. -/
def Obligations.ImpedanceResults : Prop :=
  (∀ (t : Nat) (s : State) (ph : List StringPhasor) (p : Bytes), let b := s.advance t; b.tpe.plan = some p → b.tpe.windowT +
    planWindow p ≤ b.tsu.now → b.tpe.endT ≠ b.tpe.windowT + planWindow p → Does (.toneWindowEnd t ph) s fun u =>
    u.tpe.collecting = true ∧ u.tpe.endT = b.tpe.windowT + planWindow p ∧ u.tpe.phasors = ph ∧ u.tpe.blocks = [] ∧
    u.tpe.done = [] ∧ u.tpe.windows = b.tpe.windows + 1 ∧ u.tpe.res.idx = b.tpe.windowIdx ∧ u.tpe.res.plan = p ∧
    u.tpe.disturbed = (ph.filter (fun x => decide (iContMax b x.string * 50 < x.spread))).map (·.string) ∧ u.str = b.str) ∧
  (∀ (t : Nat) (s : State) (i m block : Nat) (x : ImpBlock), let b := s.advance t; ringRuns b i = true → b.tpe.collecting =
    true → block < 4 → m < (b.ringAt i).n → b.tpe.endT + 50 * nsMs ≤ b.tsu.now → x.window = b.tpe.res.idx → x.planId = getU
    b.tpe.res.plan 0 1 → b.tpe.done.contains (i, m, block) = false → x.status.getLsbD 2 = false → Does (.impedanceRead t i m
    block x) s fun u => ((i, m, block), x) ∈ u.tpe.blocks ∧ u.tpe.retried = b.tpe.retried ∧ u.str = b.str) ∧
  (∀ (t : Nat) (s : State) (i m block : Nat) (x : ImpBlock), let b := s.advance t; ringRuns b i = true → b.tpe.collecting =
    true → block < 4 → m < (b.ringAt i).n → b.tpe.endT + 50 * nsMs ≤ b.tsu.now → x.window = b.tpe.res.idx → x.planId = getU
    b.tpe.res.plan 0 1 → b.tpe.done.contains (i, m, block) = false → x.status.getLsbD 2 = true → b.tpe.retried.contains (i,
    m, block) = false → Does (.impedanceRead t i m block x) s fun u => u.tpe.retried = (i, m, block) :: b.tpe.retried ∧
    u.tpe.blocks = b.tpe.blocks) ∧
  (∀ (t : Nat) (s : State) (i m block : Nat) (x : ImpBlock), let b := s.advance t; b.tpe.collecting = true → b.tpe.blocks =
    [((i, m, block), x)] → Does (.impedancePublish t) s fun u => u.tpe.blocks = [] ∧ u.tpe.done = b.tpe.done ++ [(i, m,
    block)] ∧ ∀ c ∈ List.range 8, (tblGet {} (512 * i + 32 * m + 8 * block + c) u.tpe.imp).gen = (tblGet {} (512 * i + 32 *
    m + 8 * block + c) b.tpe.imp).gen + 2 ∧ (tblGet {} (512 * i + 32 * m + 8 * block + c) u.tpe.imp).time = b.tpe.endT ∧
    (tblGet {} (512 * i + 32 * m + 8 * block + c) u.tpe.imp).window = x.window ∧ (tblGet {} (512 * i + 32 * m + 8 * block +
    c) u.tpe.imp).missing = false) ∧
  (∀ (t : Nat) (s : State) (i m block : Nat), let b := s.advance t; b.isStr i = true → b.tpe.collecting = true → block < 4 → m
    < (b.ringAt i).n → b.tpe.endT + 5 * nsS ≤ b.tsu.now → b.tpe.done.contains (i, m, block) = false → b.tpe.blocks.any (fun
    e => e.1 == (i, m, block)) = false → Does (.blockMissing t i m block) s fun u => u.tpe.missingBlocks =
    b.tpe.missingBlocks + 1 ∧ u.tpe.done = b.tpe.done ++ [(i, m, block)] ∧ ∀ c ∈ List.range 8, (tblGet {} (512 * i + 32 * m
    + 8 * block + c) u.tpe.imp).missing = true ∧ (tblGet {} (512 * i + 32 * m + 8 * block + c) u.tpe.imp).tones = [] ∧
    (u.cellAt (512 * i + 32 * m + 8 * block + c)).core = none) ∧
  (∀ (t : Nat) (s : State) (c : Nat) (raw r o : Rat), let b := s.advance t; (b.cellAt c).coreRaw = some raw → surfaceRate b c
    = some r → heldFor b (b.estAt (c / 512)).quietSince (1800 * nsS) = true → absR r < 10 → o = (b.cellAt c).offset +
    (((b.cellAt c).tSurface : Rat) - raw - (b.cellAt c).offset) * firstOrder (planWindow b.tpe.res.plan) 21600 → -1000 < o →
    o < 1000 → Does (.coreOffsetLearning t c) s fun u => (u.cellAt c).offset = o ∧ (u.cellAt c).offTime = (b.cellAt
    c).offTime + planWindow b.tpe.res.plan ∧ (u.cellAt c).coreRaw = none ∧ (u.cellAt c).offLearned = ((b.cellAt
    c).offLearned || decide (3600 * nsS ≤ (b.cellAt c).offTime + planWindow b.tpe.res.plan)) ∧ u.str = b.str) ∧
  (∀ (t : Nat) (s : State) (c : Nat) (raw r o : Rat), let b := s.advance t; (b.cellAt c).coreRaw = some raw → surfaceRate b c
    = some r → heldFor b (b.estAt (c / 512)).quietSince (1800 * nsS) = true → absR r < 10 → o = (b.cellAt c).offset +
    (((b.cellAt c).tSurface : Rat) - raw - (b.cellAt c).offset) * firstOrder (planWindow b.tpe.res.plan) 21600 → o ≤ -1000 ∨
    1000 ≤ o → Does (.coreOffsetLearning t c) s fun u => (u.cellAt c).offset = clampR (-1000) 1000 o ∧ (u.cellAt c).offTime
    = 0 ∧ (u.cellAt c).offLearned = false ∧ u.str = b.str) ∧
  (∀ (t : Nat) (s : State) (i c : Nat), let b := s.advance t; b.tpe.collecting = true → ceeRuns b = true → i < b.strings → c ∈
    presentCells b i → Does (.precursorDelivery t) s fun u => (u.cellAt c).prec = indicators b c) ∧
  (∀ (t : Nat) (s : State) (i c : Nat), let b := s.advance t; b.tpe.collecting = true → ceeRuns b = true → i < b.strings → c ∈
    presentCells b i → b.saf.sp.set.isSome = true → getBit (b.setB .sp) 17 0 = true → runCombination (b.setB .sp) i
    (indicators b c) = true → 1 ≤ (b.cellAt c).runHits → Does (.precursorDelivery t) s fun u => 2 ≤ (u.cellAt c).runHits ∧
    u.saf.runWarning = true)

/-- DSP_SET_REQUEST queues a request whose instant is 5 ms or more ahead and otherwise hands it to the next allocation,
completes once the partner has acknowledged DISPATCH, and a request other than zero ends FLOAT; DSP_CANCEL removes the
requests named; an allocation takes the waiting request and those whose instant has come; arming keeps the allocation of the
first queued request for its instant; a request that no newer one follows within its expiry counts as ZERO. -/
def Obligations.DispatchCommands : Prop :=
  (∀ (s : State) (q : Req), Taken s q → Commands s → q.payload.length = 48 → getU q.payload 6 1 = 255 ∨ getU q.payload 6 1 < 2
    ^ s.strings → badField (requestFields s.variant) q.payload = none → requestCheck s q.payload = none → (accept s
    q.payload).queue.length ≤ 16 → (accept s q.payload).queued = false → Does (.dspSetRequest q) s fun u => u.dsp.queue =
    (accept s q.payload).queue ∧ u.dsp.next = some
    { req := q.payload, eff := s.tsu.now, late := (accept s q.payload).late } ∧ u.dsp.force = s.dsp.force ∧ Done1 s u q
    0x0301 4 (leU 1 (bitsToNat [(accept s q.payload).late, false, (accept s q.payload).replaced, reqClears q.payload]) ++
    [0] ++ leU 2 (accept s q.payload).queue.length) ∧ (nonzero q.payload = true → u.pwr.state ≠ .float)) ∧
  (∀ (s : State) (q : Req), Taken s q → Commands s → q.payload.length = 48 → getU q.payload 6 1 = 255 ∨ getU q.payload 6 1 < 2
    ^ s.strings → badField (requestFields s.variant) q.payload = none → requestCheck s q.payload = none → (accept s
    q.payload).queue.length ≤ 16 → (accept s q.payload).queued = true → Does (.dspSetRequest q) s fun u => u.dsp.queue =
    (accept s q.payload).queue ∧ { req := q.payload, eff := instantAt q.payload 8, late := false } ∈ u.dsp.queue ∧
    u.dsp.next = s.dsp.next ∧ u.dsp.force = s.dsp.force ∧ Done1 s u q 0x0301 4 (leU 1 (bitsToNat [(accept s q.payload).late,
    true, (accept s q.payload).replaced, reqClears q.payload]) ++ [0] ++ leU 2 (accept s q.payload).queue.length)) ∧
  (∀ (s : State) (q : Req), Taken s q → Commands s → q.payload.length = 4 → getU q.payload 0 4 ≠ 0xFFFFFFFF → Does (.dspCancel
    q) s fun u => Done1 s u q 0x0302 4 [] ∧ u.dsp.queue = s.dsp.queue.filter (fun e => getU e.req 0 4 ≠ getU q.payload 0
    4) ∧ u.dsp.force = s.dsp.force ∧ u.str = s.str) ∧
  (∀ (s : State) (q : Req), Taken s q → Commands s → q.payload.length = 4 → getU q.payload 0 4 = 0xFFFFFFFF → Does (.dspCancel
    q) s fun u => Done1 s u q 0x0302 4 [] ∧ u.dsp.queue = [] ∧ u.dsp.armed = none ∧ u.dsp.force = s.dsp.force) ∧
  (∀ (t : Nat) (s : State) (e : DspEntry), let b := s.advance t; supRuns b = true → b.dsp.next = some e → b.dsp.queue = [] →
    b.tsu.now / (10 * nsMs) ≠ b.dsp.allocT / (10 * nsMs) → Does (.allocation t) s fun u => u.dsp.force = some e ∧
    u.dsp.forceT = b.clk ∧ u.dsp.expired = false ∧ u.dsp.next = none ∧ u.dsp.allocT = b.tsu.now ∧ u.red.peerOut.head? = some
    peerDispatch) ∧
  (∀ (t : Nat) (s : State) (e : DspEntry), let b := s.advance t; supRuns b = true → b.dsp.next = none → b.dsp.queue = [e] →
    e.eff ≤ b.tsu.now → Does (.allocation t) s fun u => u.dsp.force = some e ∧ u.dsp.forceT = (if e.late then b.clk else
    b.clk - (b.tsu.now - e.eff)) ∧ u.dsp.queue = [] ∧ u.dsp.armed = none ∧ u.dsp.allocT = b.tsu.now) ∧
  (∀ (t : Nat) (s : State), let b := s.advance t; supRuns b = true → b.dsp.next = none → b.dsp.queue = [] → b.dsp.force =
    none → b.le.commit = none → b.tsu.now / (10 * nsMs) ≠ b.dsp.allocT / (10 * nsMs) → Does (.allocation t) s fun u =>
    u.dsp.target = 0 ∧ u.dsp.allocT = b.tsu.now ∧ u.dsp.force = none ∧ u.le.vbusMode = false) ∧
  (∀ (t : Nat) (s : State) (e : DspEntry) (rest : List DspEntry), let b := s.advance t; supRuns b = true → b.dsp.queue = e ::
    rest → b.dsp.armed = none → b.tsu.now < e.eff → e.eff ≤ b.tsu.now + 2 * nsMs → 3 < b.tsu.trig.length → Does (.arming t)
    s fun u => u.dsp.armed.map (·.1) = some e ∧ u.le.commit = some e.eff ∧ u.dsp.armed.map (·.2) = some u.le.shadow ∧
    u.le.setp = b.le.setp ∧ (u.tsu.trig.getD 3 {}).at_ = e.eff ∧ (u.tsu.trig.getD 3 {}).arm = true ∧ u.dsp.queue =
    b.dsp.queue) ∧
  (∀ (t : Nat) (s : State) (c : Nat), let b := s.advance t; b.le.commit = some c → c ≤ b.tsu.now → Does (.setpointCommit t) s
    fun u => u.le.setp = b.le.shadow ∧ u.le.commit = none ∧ u.str = b.str ∧ u.dsp = b.dsp) ∧
  (∀ (t : Nat) (s : State) (e : DspEntry), let b := s.advance t; b.dsp.force = some e → supRuns b = true → reqMode e.req ≠ 2 →
    b.dsp.expired = false → b.dsp.forceT + reqExpiry b e.req ≤ b.clk → Does (.requestExpiry t) s fun u => u.dsp.expired =
    true ∧ u.dsp.force = b.dsp.force ∧ modeNow u = 2)

/-- A planning cycle sets the next 60 s point; with fewer than half of the cells eligible it is omitted and counted; otherwise
the shuttles in force fit the draw and return allowances, and in mode OFF nothing is in force; a stop condition ends the
transfers of its string at once; when an allowance falls, transfers are stopped until the rest fit. A rest window that its
string and its partner allow is granted: the string balances and injects no longer and runs its estimator in the REST band;
its end after the whole rest restarts the anchor age, and one cut short is asked for again in an hour. -/
def Obligations.BalancingAndRest : Prop :=
  (∀ (t : Nat) (s : State) (i : Nat), let b := s.advance t; planAllowed b i = true → ringMaster b = true → ringRuns b i =
    true → cycleDue b i = true → i < b.bal.length → balMode b i ≠ 0 → 2 * (deviations b i).length < (presentCells b
    i).length → Does (.planningCycle t i) s fun u => (u.balAt i).omitted = (b.balAt i).omitted + 1 ∧ (u.balAt i).cycleT =
    nextCycle b i ∧ (u.balAt i).shuttles = (b.balAt i).shuttles) ∧
  (∀ (t : Nat) (s : State) (i : Nat), let b := s.advance t; planAllowed b i = true → ringMaster b = true → ringRuns b i =
    true → cycleDue b i = true → i < b.bal.length → balMode b i ≠ 0 → (presentCells b i).length ≤ 2 * (deviations b
    i).length → Does (.planningCycle t i) s fun u => inUse u false ≤ drawLimit b ∧ inUse u true ≤ returnLimit b ∧ (u.balAt
    i).omitted = (b.balAt i).omitted ∧ (u.balAt i).cycleT = nextCycle b i ∧ u.str = b.str) ∧
  (∀ (t : Nat) (s : State) (i : Nat), let b := s.advance t; planAllowed b i = true → ringMaster b = true → ringRuns b i =
    true → cycleDue b i = true → i < b.bal.length → balMode b i = 0 → Does (.planningCycle t i) s fun u => (u.balAt
    i).shuttles = [] ∧ (u.balAt i).bleeds = [] ∧ (u.balAt i).cycleT = nextCycle b i) ∧
  (∀ (t : Nat) (s : State) (i : Nat), let b := s.advance t; b.isStr i = true → stopNow b i = true → Does (.balancingStop t i)
    s fun u => (u.balAt i).shuttles = [] ∧ (u.balAt i).bleeds = [] ∧ (∀ m, m < (b.ringAt i).mons.length → (b.monAt i
    m).followsUs = true → (u.monAt i m).bleed = [] ∧ (u.monAt i m).shuttle = none) ∧ u.str = b.str) ∧
  (∀ (t : Nat) (s : State), let b := s.advance t; Commands b → ((List.range b.strings).map fun i => (b.balAt
    i).shuttles.length).sum ≤ 128 → Does (.allowanceChange t) s fun u => inUse u false ≤ drawLimit b ∧ inUse u true ≤
    returnLimit b ∧ u.str = b.str) ∧
  (∀ (t : Nat) (s : State) (i : Nat), let b := s.advance t; b.isStr i = true → supRuns b = true → restGrantable b i = true → i
    < b.cee.est.length → Does (.restWindowGrant t i) s fun u => ((u.estAt i).rest.map (·.t0)) = some b.clk ∧ (u.estAt
    i).restRequested = false ∧ (u.estAt i).band = .rest ∧ (u.balAt i).shuttles = [] ∧ (u.balAt i).bleeds = [] ∧ (injecting
    (b.pairAt (pairOf b i)) = true → pairOf b i < b.tpe.pairs.length → (u.pairAt (pairOf b i)).env = .falling b.clk) ∧ u.str
    = b.str) ∧
  (∀ (t : Nat) (s : State) (i : Nat) (r : Rest), let b := s.advance t; i < b.cee.est.length → (b.estAt i).rest = some r →
    heldFor b r.counted (restDuration b i) = true → Does (.restWindowEnd t i) s fun u => (u.estAt i).rest = none ∧ (u.estAt
    i).restEnd = some b.clk ∧ (u.estAt i).anchorT = b.clk ∧ (u.estAt i).overdue = false ∧ (u.estAt i).band = .low ∧ u.str =
    b.str) ∧
  (∀ (t : Nat) (s : State) (i : Nat) (r : Rest), let b := s.advance t; i < b.cee.est.length → (b.estAt i).rest = some r →
    r.counted = none → (b.strAt i).state ≠ .regulating → Does (.restWindowEnd t i) s fun u => (u.estAt i).rest = none ∧
    (u.estAt i).restEnd = some b.clk ∧ (u.estAt i).anchorT = (b.estAt i).anchorT ∧ (u.estAt i).requestT = b.clk ∧ u.str =
    b.str)

/-- STR_CONNECT takes a string from ISOLATED to PRECHARGE and waits as its transition; STR_DISCONNECT aborts a precharge or
commands the contactors of a connected string open; STR_REGULATE enters REGULATING; STR_IDLE ramps the current to zero, or
ends REGULATING at once where the converter does not run; STR_RESET releases the latches of a HALTED string; STR_RETIRE
retires; STR_RESTORE tests the retired units of the string, or ends its retirement where there are none. No other string
moves. -/
def Obligations.StringCommands : Prop :=
  (∀ (s : State) (q : Req) (i : Nat), Taken s q → Commands s → FormI s q i → i < s.strings → i < s.str.length → i <
    s.conv.length → (s.strAt i).state = .isolated → (s.strAt i).trans = none → 1 < (s.strAt i).tier.code → permit s .sp i =
    true → permit s .sloe i = true → (s.hviAt i).testFailed = false → Does (.strConnect q) s fun u => (u.strAt i).state =
    .precharge ∧ (u.strAt i).trans = some { req := q, opcode := 0x0202 } ∧ (u.convAt i).stage = 1 ∧ (∃ e ∈ u.hpr.exec, e.req
    = q ∧ e.opcode = 0x0202) ∧ u.saf = s.saf ∧ (∀ k, k ≠ i → u.strAt k = s.strAt k)) ∧
  (∀ (s : State) (q : Req) (i : Nat), Taken s q → Commands s → FormI s q i → i < s.strings → i < s.str.length → i <
    s.conv.length → (s.strAt i).state = .connected → (s.strAt i).trans = none → (s.convAt i).rampThen = none → i <
    s.saf.sp.str.length → i < s.saf.sloe.str.length → Does (.strDisconnect q) s fun u => (u.strAt i).state = .connected ∧
    (u.strAt i).trans = some { req := q, opcode := 0x0203 } ∧ (u.convAt i).rampThen = some .isolated ∧ (u.convAt i).running
    = false ∧ (u.saf.sp.at i).coils = (s.saf.sp.at i).coils &&& 2 ∧ (u.saf.sloe.at i).coils = (s.saf.sloe.at i).coils &&&
    2 ∧ (∀ k, k ≠ i → u.strAt k = s.strAt k)) ∧
  (∀ (s : State) (q : Req) (i : Nat), Taken s q → Commands s → FormI s q i → i < s.strings → i < s.str.length → i <
    s.conv.length → (s.strAt i).state = .regulating → (s.strAt i).trans = none → (s.convAt i).rampThen = none → (s.convAt
    i).running = true → Does (.strDisconnect q) s fun u => (u.strAt i).state = .regulating ∧ (u.strAt i).trans = some
    { req := q, opcode := 0x0203 } ∧ (u.convAt i).rampThen = some .isolated ∧ (u.convAt i).rampStop = true ∧ u.saf = s.saf ∧
    (∀ k, k ≠ i → u.strAt k = s.strAt k)) ∧
  (∀ (s : State) (q : Req) (i : Nat), Taken s q → Commands s → FormI s q i → i < s.strings → i < s.str.length → i <
    s.conv.length → (s.strAt i).state = .precharge → Does (.strDisconnect q) s fun u => (u.strAt i).state = .isolated ∧
    (u.convAt i).stage = 0 ∧ (u.strAt i).trans = none ∧ (∀ k, k ≠ i → u.strAt k = s.strAt k)) ∧
  (∀ (s : State) (q : Req) (i : Nat), Taken s q → Commands s → FormI s q i → i < s.strings → i < s.str.length → i <
    s.conv.length → (s.strAt i).state = .connected → (s.strAt i).trans = none → (s.strAt i).tier = .f → s.suspended uLe =
    false → (s.convAt i).rampThen = none → Does (.strRegulate q) s fun u => (u.strAt i).state = .regulating ∧ Done1 s u q
    0x0204 2 [] ∧ u.pwr.state ≠ .float ∧ u.saf = s.saf ∧ (∀ k, k ≠ i → u.strAt k = s.strAt k)) ∧
  (∀ (s : State) (q : Req) (i : Nat), Taken s q → Commands s → FormI s q i → i < s.strings → i < s.str.length → i <
    s.conv.length → (s.strAt i).state = .regulating → (s.strAt i).trans = none → (s.convAt i).rampThen = none → (s.convAt
    i).running = true → Does (.strIdle q) s fun u => (u.strAt i).state = .regulating ∧ (u.convAt i).rampStop = true ∧
    (u.convAt i).rampThen = some .connected ∧ (u.strAt i).trans = some { req := q, opcode := 0x0205 } ∧ (∀ k, k ≠ i →
    u.strAt k = s.strAt k)) ∧
  (∀ (s : State) (q : Req) (i : Nat), Taken s q → Commands s → FormI s q i → i < s.strings → i < s.str.length → i <
    s.conv.length → (s.strAt i).state = .regulating → (s.strAt i).trans = none → (s.convAt i).rampThen = none → (s.convAt
    i).running = false → Does (.strIdle q) s fun u => (u.strAt i).state = .connected ∧ (u.strAt i).trans = none ∧ (u.strAt
    i).included = false ∧ (∀ k, k ≠ i → u.strAt k = s.strAt k)) ∧
  (∀ (s : State) (q : Req) (i : Nat), Taken s q → Commands s → FormI s q i → i < s.strings → i < s.str.length → i <
    s.conv.length → (s.strAt i).state = .halted → (s.strAt i).trans = none → causesCleared s .sp i = true → causesCleared s
    .sloe i = true → (s.contAt i).mirror = 0 → Does (.strReset q) s fun u => (u.strAt i).state = .isolated ∧ (u.saf.sp.at
    i).latch = false ∧ (u.saf.sloe.at i).latch = false ∧ (u.saf.sp.at i).tripped = [] ∧ (u.hviAt i).tripLatched = false ∧
    Done1 s u q 0x0206 2 [] ∧ (∀ k, k ≠ i → u.strAt k = s.strAt k)) ∧
  (∀ (s : State) (q : Req) (i : Nat), Taken s q → Commands s → FormI s q i → i < s.strings → i < s.str.length → i <
    s.conv.length → (s.strAt i).state = .isolated ∨ (s.strAt i).state = .halted → (s.strAt i).trans = none → Does
    (.strRetire q) s fun u => (u.strAt i).state = .retired ∧ i ∈ u.flt.retiredStr ∧ (u.balAt i).shuttles = [] ∧ Done1 s u q
    0x0207 2 [] ∧ (∀ k, k ≠ i → u.strAt k = s.strAt k)) ∧
  (∀ (s : State) (q : Req) (i : Nat), Taken s q → Commands s → FormI s q i → i < s.strings → i < s.str.length → i <
    s.conv.length → (s.strAt i).state = .retired → (s.strAt i).trans = none → (restoredBy i).filter s.retired = [] → i ∈
    s.flt.retiredStr → permanentLoss s i = false → Does (.strRestore q) s fun u => (u.strAt i).state = .isolated ∧ i ∉
    u.flt.retiredStr ∧ (∀ k, k ≠ i → u.strAt k = s.strAt k)) ∧
  (∀ (s : State) (q : Req) (i : Nat), Taken s q → Commands s → FormI s q i → i < s.strings → i < s.str.length → i <
    s.conv.length → (s.strAt i).state = .retired → (s.strAt i).trans = none → s.retired (uGdb i) = true → Does (.strRestore
    q) s fun u => (u.strAt i).state = .retired ∧ (u.strAt i).trans = some { req := q, opcode := 0x0208 } ∧ u.suspended (uGdb
    i) = true ∧ (∀ k, k ≠ i → u.strAt k = s.strAt k))

/-- Stage 2 that passes asks for coils 1 and 2; a failed fast-trip test ends the precharge; the current and voltage criteria ask
for every coil, and the mirrors then confirm CONNECTED; a precharge fault halts the string; a converter starts above the
headroom from current 0 and below it pauses with its outputs low; a pause ends with its cause; a soft start that takes too
long pauses with a doubled delay; a ramp to zero ends REGULATING. -/
def Obligations.PrechargeAndConverter : Prop :=
  (∀ (t : Nat) (s : State) (i : Nat), let b := s.advance t; i < b.conv.length → i < b.saf.cont.length → (b.convAt i).stage =
    1 → (b.strAt i).state = .precharge → (b.convAt i).e ≤ (ePcMax b i : Rat) / 4 → ((enabledPhases b i).all fun p =>
    (b.gx2At p).ready) = true → rPc b i ≠ 0 → Does (.coolingWaitEnd t i true) s fun u => (u.convAt i).stage = 3 ∧ (u.contAt
    i).request = some (6, b.clk) ∧ u.str = b.str) ∧
  (∀ (t : Nat) (s : State) (i : Nat), let b := s.advance t; i < b.conv.length → i < b.str.length → (b.convAt i).stage = 1 →
    (b.strAt i).state = .precharge → (b.convAt i).e ≤ (ePcMax b i : Rat) / 4 → b.retired uHvi = false → Does
    (.coolingWaitEnd t i false) s fun u => (u.strAt i).state = .isolated ∧ (u.convAt i).stage = 0 ∧ u.suspended uHvi = true) ∧
  (∀ (t : Nat) (s : State) (i : Nat), let b := s.advance t; i < b.conv.length → i < b.saf.cont.length → (b.convAt i).stage =
    3 → currentDone b i = true → busUp b i = true → Does (.prechargeComplete t i) s fun u => (u.convAt i).stage = 4 ∧
    (u.contAt i).request = some (15, b.clk) ∧ u.str = b.str) ∧
  (∀ (t : Nat) (s : State) (i : Nat), let b := s.advance t; i < b.str.length → (b.convAt i).stage = 3 → (b.strAt i).state =
    .precharge → (ePcMax b i : Rat) < (b.convAt i).e ∨ 2 ≤ (b.convAt i).peak ∨ (currentDone b i = true ∧ busUp b i =
    false) → Does (.prechargeFault t i) s fun u => (u.strAt i).state = .halted ∧ (i < b.conv.length → (u.convAt i).stage =
    0)) ∧
  (∀ (t : Nat) (s : State) (i t0 : Nat), let b := s.advance t; i < b.str.length → (b.convAt i).stage = 3 → (b.strAt i).state =
    .precharge → (b.convAt i).tPc = some t0 → t0 + tPcMax b i * nsMs < b.clk → Does (.prechargeFault t i) s fun u =>
    (u.strAt i).state = .halted) ∧
  (∀ (t : Nat) (s : State) (i : Nat), let b := s.advance t; i < b.str.length → i < b.conv.length → (b.convAt i).stage = 4 →
    (b.contAt i).mirror.getLsbD 0 = true → (b.contAt i).energised.getLsbD 2 = false → (b.contAt i).mirror.getLsbD 2 =
    false → Does (.connectedEntry t i) s fun u => (u.strAt i).state = .connected ∧ (u.convAt i).stage = 0 ∧ (∀ k, k ≠ i →
    u.strAt k = b.strAt k)) ∧
  (∀ (t : Nat) (s : State) (i : Nat), let b := s.advance t; i < b.conv.length → (b.strAt i).state = .regulating → (b.convAt
    i).running = false → (b.convAt i).pause = none → (b.convAt i).rampThen = none → b.clockLost .loop = false → headroom b i
    ≤ (b.hvi.vb : Rat) → Does (.converterStart t i) s fun u => (u.convAt i).running = true ∧ (u.convAt i).startT = b.clk ∧
    (u.convAt i).ref = 0 ∧ (u.convAt i).pause = none ∧ u.str = b.str) ∧
  (∀ (t : Nat) (s : State) (i : Nat), let b := s.advance t; i < b.conv.length → convRuns b i = true → (b.convAt i).pause =
    none → (b.convAt i).rampThen = none → (b.hvi.vb : Rat) < headroom b i → Does (.converterPause t i .headroom) s fun u =>
    (u.convAt i).running = false ∧ (u.convAt i).pause = some .headroom ∧ (u.convAt i).pauseT = b.clk ∧ (∀ k ∈ List.range 4,
    4 * i + k < b.phase.length → (u.phaseAt (4 * i + k)).gatedOff = true ∧ (u.phaseAt (4 * i + k)).low = 0 ∧ (u.phaseAt (4 *
    i + k)).high = 0) ∧ u.str = b.str) ∧
  (∀ (t : Nat) (s : State) (i : Nat), let b := s.advance t; i < b.conv.length → (b.strAt i).state = .regulating → pauseOver b
    i = true → headroom b i ≤ (b.hvi.vb : Rat) → Does (.pauseEnd t i) s fun u => (u.convAt i).pause = none ∧ (u.convAt
    i).running = true ∧ (u.convAt i).startT = b.clk ∧ u.str = b.str) ∧
  (∀ (t : Nat) (s : State) (i t0 delay : Nat) (r : Bytes), let b := s.advance t; i < b.conv.length → (b.strAt i).state =
    .regulating → (b.convAt i).softStart = some t0 → (b.convAt i).pause = none → reqInForce b = some r → (b.hvi.vb : Rat) <
    (reqV r : Rat) * 10 * (98 / 100) → t0 + ((reqV r * 10 - (b.convAt i).ssVref) * nsS / (10000 * max 1 (ssRate b i))) +
    ssMargin b i * nsMs ≤ b.clk → delay = (if (b.convAt i).ssRetry = 0 then ssRetryS b i else (b.convAt i).ssRetry) → Does
    (.softStartTimeout t i) s fun u => ((b.convAt i).rampThen = none → (u.convAt i).pause = some .softStart ∧ (u.convAt
    i).running = false) ∧ (u.convAt i).ssUntil = b.clk + delay * nsS ∧ (u.convAt i).ssRetry = min 600 (2 * delay)) ∧
  (∀ (t : Nat) (s : State) (i : Nat), let b := s.advance t; i < b.conv.length → i < b.str.length → (b.convAt i).rampStop =
    true → (b.convAt i).rampThen = some .connected → (b.strAt i).state = .regulating → absI (b.hviAt i).cur < iPcDone b i →
    envelope b (pairOf b i) = 0 → Does (.rampComplete t i) s fun u => (u.strAt i).state = .connected ∧ (u.convAt i).running
    = false ∧ (u.convAt i).rampThen = none ∧ (∀ k, k ≠ i → u.strAt k = b.strAt k))

/-- At a period boundary a phase takes its sample and its duty, and its outputs stay low while it is gated off or brakes; a
readback mismatch, 16 limited periods in a row, an open phase or a driver fault gates it off and starts its test; an
implausible sense puts it on its estimate from the next boundary until it agrees again; braking starts past its threshold
and ends below half of it; a GDB_FLT line gates all four phases off and pauses the string until the poll has read the
drivers. -/
def Obligations.PhasesAndDrivers : Prop :=
  (∀ (t : Nat) (s : State) (p : Nat) (code : Int), let b := s.advance t; p < b.phases → p < b.phase.length → b.clockLost .loop
    = false → b.pwr.state = .active ∨ b.pwr.state = .holdup → Does (.periodBoundary t p code) s fun u => (u.phaseAt
    p).sample = phaseSample b (p / 4) code ∧ (u.phaseAt p).sampleT = b.tsu.now ∧ (u.phaseAt p).duty = latchedDuty b p ∧
    (u.phaseAt p).boundaries = (b.phaseAt p).boundaries + 1 ∧ (u.phaseAt p).gatedOff = (!released u p) ∧ ((u.phaseAt
    p).gatedOff = true ∨ (u.phaseAt p).braking = true → (u.phaseAt p).low = 0 ∧ (u.phaseAt p).high = 0) ∧ u.str = b.str) ∧
  (∀ (t : Nat) (s : State) (p : Nat), let b := s.advance t; p < b.phases → p < b.phase.length → legFitted b p = true →
    b.retired (uPhase p) = false → Does (.pwmReadbackMismatch t p) s fun u => u.suspended (uPhase p) = true ∧ (u.phaseAt
    p).gatedOff = true ∧ (u.phaseAt p).rejoin = true ∧ (u.phaseAt p).low = 0 ∧ (u.phaseAt p).high = 0 ∧ u.str = b.str) ∧
  (∀ (t : Nat) (s : State) (p : Nat), let b := s.advance t; p < b.phases → p < b.phase.length → (b.phaseAt p).cbcRun = 15 →
    b.retired (uPhase p) = false → Does (.cycleByCycleLimit t p true) s fun u => u.suspended (uPhase p) = true ∧ (u.phaseAt
    p).gatedOff = true ∧ (u.phaseAt p).cbcs = (b.phaseAt p).cbcs + 1) ∧
  (∀ (t : Nat) (s : State) (p : Nat), let b := s.advance t; p < b.phases → p < b.phase.length → Does (.cycleByCycleLimit t p
    false) s fun u => (u.phaseAt p).cbcRun = 0 ∧ (u.phaseAt p).cbcs = (b.phaseAt p).cbcs ∧ (u.phaseAt p).gatedOff =
    (b.phaseAt p).gatedOff) ∧
  (∀ (t : Nat) (s : State) (p : Nat), let b := s.advance t; p < b.phases → p < b.phase.length → legFitted b p = true →
    (b.phaseAt p).implausible = false → b.retired (uPhase p) = false → otherEstimates b p = false → Does
    (.phaseInputImplausible t p) s fun u => (u.phaseAt p).implausible = true ∧ u.suspended (uPhase p) = true ∧ (u.phaseAt
    p).gatedOff = (b.phaseAt p).gatedOff ∧ u.str = b.str) ∧
  (∀ (t : Nat) (s : State) (p : Nat), let b := s.advance t; p < b.phase.length → (b.phaseAt p).implausible = true → (b.phaseAt
    p).estimate = none → Does (.estimateMode t p) s fun u => (u.phaseAt p).estimate = some b.clk ∧ (u.phaseAt p).braking =
    false ∧ u.str = b.str) ∧
  (∀ (t : Nat) (s : State) (p t0 : Nat), let b := s.advance t; p < b.phase.length → (b.phaseAt p).estimate = some t0 →
    b.unitOut (uPhase p) = false → heldFor b (b.phaseAt p).agreeSince nsS = true → b.clk ≤ t0 + 10 * nsS → Does
    (.estimateModeEnd t p) s fun u => (u.phaseAt p).estimate = none ∧ (u.phaseAt p).implausible = false ∧ (u.phaseAt
    p).gatedOff = (b.phaseAt p).gatedOff) ∧
  (∀ (t : Nat) (s : State) (p t0 : Nat), let b := s.advance t; p < b.phase.length → (b.phaseAt p).estimate = some t0 →
    (b.phaseAt p).agreeSince = none → t0 + 10 * nsS ≤ b.clk → b.retired (uPhase p) = false → Does (.estimateModeEnd t p) s
    fun u => (u.phaseAt p).gatedOff = true ∧ (u.phaseAt p).estimate = none ∧ u.suspended (uPhase p) = true) ∧
  (∀ (t : Nat) (s : State) (i : Nat), let b := s.advance t; (b.strAt i).state = .regulating → evalArmed b i = false → 0 <
    detectN b i → i < b.conv.length → Does (.phaseEvaluation t i) s fun u => (∀ k ∈ List.range 4, 4 * i + k <
    b.phase.length → (u.phaseAt (4 * i + k)).openCount = 0 ∧ (u.phaseAt (4 * i + k)).senseCount = 0 ∧ (u.phaseAt (4 * i +
    k)).sums = 0 ∧ (u.phaseAt (4 * i + k)).gatedOff = (b.phaseAt (4 * i + k)).gatedOff) ∧ (u.convAt i).shuntSums = 0) ∧
  (∀ (t : Nat) (s : State) (i p : Nat), let b := s.advance t; (b.strAt i).state = .regulating → evalArmed b i = true → p ∈
    splitPhases b i → p < b.phase.length → (b.phaseAt p).openCount + 1 = detectN b i → openNow b p = true → (∀ r ∈
    splitPhases b i, (b.phaseAt r).implausible = false ∧ senseNow b r = false ∧ (r = p ∨ openNow b r = false)) →
    otherEstimates b p = false → b.retired (uPhase p) = false → Does (.phaseEvaluation t i) s fun u => u.suspended (uPhase
    p) = true ∧ (u.phaseAt p).gatedOff = true ∧ (u.phaseAt p).rejoin = true) ∧
  (∀ (t : Nat) (s : State) (i n f : Nat), let b := s.advance t; i < b.conv.length → (b.convAt i).reinterleave = some n →
    firstPhase b i = some f → n ≤ (b.phaseAt f).boundaries → Does (.reInterleave t i) s fun u => (u.convAt i).reinterleave =
    none ∧ ∀ e ∈ dueOffsets b i, e.1 < b.phase.length → (u.phaseAt e.1).newOffset = some e.2) ∧
  (∀ (t : Nat) (s : State) (i flags slot phase at_ : Nat), let b := s.advance t; i < b.conv.length → (b.convAt i).shift = some
    (flags, slot, phase, at_) → at_ ≤ b.tsu.now → (b.convAt i).cfg.length = 64 → getU (b.convAt i).cfg 0 1 = i → flags = 1 →
    slot < 256 → Does (.slotShift t i) s fun u => (u.convAt i).shift = none ∧ ilSlot u i = slot ∧ u.str = b.str) ∧
  (∀ (t : Nat) (s : State) (i : Nat), let b := s.advance t; i < b.conv.length → syncMode b i = true → (b.convAt
    i).syncHoldover = false → 2 * (b.convAt i).syncEdge + 3 * syncMean (b.convAt i) ≤ 2 * b.clk → Does (.syncInLoss t i) s
    fun u => (u.convAt i).syncHoldover = true ∧ (u.convAt i).syncGood = 0 ∧ u.str = b.str) ∧
  (∀ (t : Nat) (s : State) (i : Nat), let b := s.advance t; i < b.conv.length → syncMode b i = true → (b.convAt
    i).syncHoldover = true → 16 ≤ (b.convAt i).syncGood → Does (.syncInRelock t i) s fun u => (u.convAt i).syncHoldover =
    false ∧ u.str = b.str) ∧
  (∀ (t : Nat) (s : State) (p : Nat), let b := s.advance t; p < b.phases → p < b.phase.length → (b.phaseAt p).gatedOff =
    false → (b.phaseAt p).braking = false → (b.phaseAt p).estimate = none → 0 < (b.phaseAt p).sample → 0 ≤ (b.phaseAt
    p).setpoint → (brakeThr b (p / 4) : Int) < (b.phaseAt p).sample - (b.phaseAt p).setpoint → Does (.braking t p) s fun u
    => (u.phaseAt p).braking = true ∧ (u.phaseAt p).low = 0 ∧ (u.phaseAt p).high = 0 ∧ (u.phaseAt p).brakes = (b.phaseAt
    p).brakes + 1 ∧ u.str = b.str) ∧
  (∀ (t : Nat) (s : State) (p : Nat), let b := s.advance t; p < b.phase.length → (b.phaseAt p).braking = true → 2 * absI
    ((b.phaseAt p).sample - (b.phaseAt p).setpoint) ≤ brakeThr b (p / 4) ∨ (b.phaseAt p).sample = 0 ∨ brakeMax b (p / 4) ≤
    (b.phaseAt p).brakePeriods → Does (.brakingEnd t p) s fun u => (u.phaseAt p).braking = false ∧ (u.phaseAt p).duty =
    (b.phaseAt p).duty ∧ u.str = b.str) ∧
  (∀ (t : Nat) (s : State) (i : Nat), let b := s.advance t; b.isStr i = true → i < b.conv.length → (b.strAt i).state =
    .regulating → (b.convAt i).pause = none → (b.convAt i).rampThen = none → Does (.gdbFlt t i) s fun u => (u.convAt
    i).fltLine = true ∧ (u.convAt i).pause = some .desaturation ∧ (u.convAt i).running = false ∧ (∀ k ∈ List.range 4, 4 * i
    + k < b.phase.length → (u.phaseAt (4 * i + k)).gatedOff = true) ∧ u.str = b.str) ∧
  (∀ (t : Nat) (s : State) (i : Nat) (r : List Gx2Reply), let b := s.advance t; b.isStr i = true → i < b.conv.length → 4 * i +
    3 < b.gx2.length → ((List.range 4).all fun k => legFitted b (4 * i + k)) = true → r = List.replicate 4 ⟨true, true,
    true, false, false, false, false, false, true, 9⟩ → Does (.gx2Poll t i r) s fun u => (u.convAt i).fltLine = false ∧ (∀ k
    ∈ List.range 4, (u.gx2At (4 * i + k)).ready = true ∧ (u.gx2At (4 * i + k)).unanswered = 0 ∧ (u.gx2At (4 * i +
    k)).followsUs = true ∧ (u.gx2At (4 * i + k)).claim = 9) ∧ u.str = b.str) ∧
  (∀ (t : Nat) (s : State) (p : Nat), let b := s.advance t; p < b.phases → p < b.phase.length → p < b.gx2.length → legFitted b
    p = true → (b.gx2At p).followsUs = true → b.unitOut (uPhase p) = false → Does (.dutyHoldExpiry t p) s fun u =>
    u.suspended (uPhase p) = true ∧ (u.phaseAt p).gatedOff = true ∧ (u.gx2At p).faults.head? = some 4)

/-- CNV_SET_CONFIG stores the converter configuration and the duty hold of the string's drivers; CNV_SET_SLOT keeps a carrier
shift for its instant; CNV_PHASE_DISABLE gates a phase off and disables it; CNV_PHASE_RESTORE starts its test. -/
def Obligations.ConverterCommands : Prop :=
  (∀ (s : State) (q : Req) (i : Nat), Taken s q → Commands s → q.payload.length = 64 → getU q.payload 0 1 = i → i <
    s.strings → i < s.conv.length → (s.strAt i).state = .isolated → badField cnvFields q.payload = none → cnvCheck q.payload
    = none → admitted (s.modConv i fun c => { c with cfg := q.payload }) = true → 4 * i + 3 < s.gx2.length → Does
    (.cnvSetConfig q) s fun u => (u.convAt i).cfg = q.payload ∧ (∀ k ∈ List.range 4, (u.gx2At (4 * i + k)).dutyHoldNs = 40 *
    nsUs + 5 * nsS / max 1 (fSw u i))) ∧
  (∀ (s : State) (q : Req) (i : Nat), Taken s q → Commands s → q.payload.length = 20 → getU q.payload 0 1 = i → i <
    s.strings → i < s.conv.length → badField slotFields q.payload = none → Does (.cnvSetSlot q) s fun u => Done1 s u q
    0x0703 3 [] ∧ SameBut u ((touch s).modConv i fun c =>
    { c with shift := some (getU q.payload 1 1, getU q.payload 2 1, getU q.payload 4 2, instantAt q.payload 8) })) ∧
  (∀ (s : State) (q : Req) (p : Nat), Taken s q → Commands s → q.payload.length = 1 → getU q.payload 0 1 = p → p < s.phases →
    p < s.phase.length → legFitted s p = true → phaseEnabled s p = true → (s.strAt (p / 4)).state ≠ .regulating ∨ 3 ≤
    (enabledPhases s (p / 4)).length → Does (.cnvPhaseDisable q) s fun u => Answered u q 0x0705 stOk 0 [] ∧ (u.phaseAt
    p).disabled = true ∧ (u.phaseAt p).gatedOff = true ∧ phaseEnabled u p = false) ∧
  (∀ (s : State) (q : Req) (p : Nat), Taken s q → Commands s → q.payload.length = 1 → getU q.payload 0 1 = p → p < s.phases →
    legFitted s p = true → (s.strAt (p / 4)).state = .connected → Does (.cnvPhaseRestore q) s fun u => u.suspended (uPhase
    p) = true ∧ (∃ e ∈ u.flt.susp, e.unit = uPhase p ∧ e.restoring = true) ∧ (∃ e ∈ u.hpr.exec, e.req = q ∧ e.opcode =
    0x0706) ∧ u.str = s.str)

/-- LEP_LOAD_DESC puts a checked descriptor in its slot with history, integrator and output 0, LEP_CLEAR_SLOT empties a slot,
LEP_SET_COEF fills the inactive bank, LEP_SWAP sets the swap instant of every slot named, LEP_LOAD_LUT loads a gain table
and LEP_SET_PARAM the parameter words named; LEP_GET_DESC, LEP_GET_COEF and LEP_GET_LUT return them. TRC_SET_PROBE stores
the configuration of a probe that is not armed, TRC_ARM starts every named probe that is configured afresh, TRC_STOP stops
those that run, TRC_READ copies samples; a one-shot probe with its samples after the trigger is COMPLETE. -/
def Obligations.LoopLoadingAndTrace : Prop :=
  (∀ (s : State) (q : Req) (n : Nat), Taken s q → Commands s → q.payload.length = 64 → getU q.payload 4 1 = n → slotPop s n 4
    = none → slotConflict s n = none → descBad s q.payload = none → n < s.le.slot.length → Does (.lepLoadDesc q) s fun u =>
    (u.loopAt n).desc = q.payload ∧ (u.loopAt n).out = 0 ∧ (u.loopAt n).integ = 0 ∧ (u.loopAt n).e1 = 0 ∧ (u.loopAt n).y1 =
    0 ∧ (u.loopAt n).bankA = (s.loopAt n).bankA ∧ (u.loopAt n).bankB = (s.loopAt n).bankB ∧ (∀ k, k ≠ n → u.loopAt k =
    s.loopAt k)) ∧
  (∀ (s : State) (q : Req) (n : Nat), Taken s q → Commands s → q.payload.length = 1 → getU q.payload 0 1 = n → slotPop s n 0 =
    none → slotConflict s n = none → n < 128 → n < s.le.slot.length → Does (.lepClearSlot q) s fun u => (u.loopAt n).desc =
    [] ∧ (u.loopAt n).out = 0 ∧ (∀ k, k ≠ n → u.loopAt k = s.loopAt k)) ∧
  (∀ (s : State) (q : Req) (n : Nat), Taken s q → AnyRole s → q.payload.length = 1 → getU q.payload 0 1 = n → n < 128 → Does
    (.lepGetDesc q) s fun u => Answered u q 0x0803 stOk 0 (fitTo 64 (s.loopAt n).desc) ∧ HostOnly s u ∧ SlotOnly s q u) ∧
  (∀ (s : State) (q : Req) (n : Nat), Taken s q → Commands s → q.payload.length = 52 → getU q.payload 0 1 = n → (s.loopAt
    n).swapAt = none → coefBad s q.payload = none → n < s.le.slot.length → Does (.lepSetCoef q) s fun u => Done1 s u q
    0x0804 3 [] ∧ SameBut u ((touch s).modLoop n fun x => if x.activeB then
    { x with bankA := ⟨q.payload.drop 4, true, true⟩ } else { x with bankB := ⟨q.payload.drop 4, true, true⟩ })) ∧
  (∀ (s : State) (q : Req) (n : Nat), Taken s q → AnyRole s → q.payload.length = 1 → getU q.payload 0 1 = n → n < 128 → Does
    (.lepGetCoef q) s fun u => Answered u q 0x0805 stOk 0 (fitTo 48 (s.loopAt n).bankA.block ++ fitTo 48 (s.loopAt
    n).bankB.block ++ leB (s.loopAt n).activeB) ∧ HostOnly s u ∧ SlotOnly s q u) ∧
  (∀ (s : State) (q : Req) (n : Nat), Taken s q → Commands s → q.payload.length = 32 → (∀ k ∈ maskSlots q.payload 16,
    (s.loopAt k).inactive.valid = true ∧ (s.loopAt k).inactive.fresh = true) → n ∈ maskSlots q.payload 16 → s.tsu.now + 20 *
    nsMs ≤ instantAt q.payload 0 → getU q.payload 8 4 < nsS → getU q.payload 12 4 = 0 → n < s.le.slot.length → Does
    (.lepSwap q) s fun u => Done1 s u q 0x0806 3 [] ∧ (u.loopAt n).swapAt = some (instantAt q.payload 0) ∧ (u.loopAt
    n).activeB = (s.loopAt n).activeB ∧ u.str = s.str) ∧
  (∀ (s : State) (q : Req) (k : Nat), Taken s q → Commands s → q.payload.length = 148 → getU q.payload 0 1 = k → lutInUse s k
    = false → lutBad q.payload = none → k < s.le.lut.length → Does (.lepLoadLut q) s fun u => Done1 s u q 0x0807 3 [] ∧
    u.le.lut.getD k [] = q.payload.drop 4 ∧ u.le.slot = s.le.slot ∧ u.str = s.str) ∧
  (∀ (s : State) (q : Req) (k : Nat), Taken s q → AnyRole s → q.payload.length = 1 → getU q.payload 0 1 = k → k < 64 → Does
    (.lepGetLut q) s fun u => Answered u q 0x0808 stOk 0 (fitTo 144 (s.le.lut.getD k [])) ∧ HostOnly s u ∧ SlotOnly s q u) ∧
  (∀ (s : State) (q : Req) (k n : Nat), Taken s q → Commands s → getU q.payload 0 1 = k → getU q.payload 1 1 = n →
    q.payload.length = 4 + 4 * n → n ≤ 59 → k + n ≤ 64 → k < 64 → getU q.payload 2 2 = 0 → s.le.param.length = 64 → Does
    (.lepSetParam q) s fun u => Done1 s u q 0x0809 3 [] ∧ (∀ j, j < n → u.le.param.getD (k + j) 0 = getS q.payload (4 + 4 *
    j) 4) ∧ u.le.slot = s.le.slot ∧ u.str = s.str) ∧
  (∀ (s : State) (q : Req) (p : Nat), Taken s q → AnyRole s → q.payload.length = 32 → getU q.payload 0 1 = p → badField
    probeFields q.payload = none → (s.probeAt p).state ≠ 1 → (s.probeAt p).state ≠ 2 → p < s.le.probe.length → Does
    (.trcSetProbe q) s fun u => Answered u q 0x1201 stOk 0 [] ∧ u.probeAt p = { cfg := q.payload } ∧ (∀ k, k ≠ p → u.probeAt
    k = s.probeAt k) ∧ u.le.slot = s.le.slot ∧ u.str = s.str) ∧
  (∀ (s : State) (q : Req) (p : Nat), Taken s q → AnyRole s → q.payload.length = 2 → (getU q.payload 0 2).testBit p = true → p
    < s.le.probe.length → (s.probeAt p).cfg ≠ [] → (s.probeAt p).mode ≠ 0 → Does (.trcArm q) s fun u => Answered u q 0x1202
    stOk 0 [] ∧ u.probeAt p = { cfg := (s.probeAt p).cfg, state := 1 } ∧ u.le.slot = s.le.slot ∧ u.str = s.str) ∧
  (∀ (s : State) (q : Req) (p : Nat), Taken s q → AnyRole s → q.payload.length = 2 → (getU q.payload 0 2).testBit p = true → p
    < s.le.probe.length → (s.probeAt p).state = 1 ∨ (s.probeAt p).state = 2 → Does (.trcStop q) s fun u => Answered u q
    0x1203 stOk 0 [] ∧ u.probeAt p = { s.probeAt p with state := 4 } ∧ u.le.slot = s.le.slot ∧ u.str = s.str) ∧
  (∀ (s : State) (q : Req) (k first count : Nat), Taken s q → AnyRole s → MemOk s → SlotOk q → q.payload.length = 12 → getU
    q.payload 2 1 = k → k < 16 → getU q.payload 3 1 = 0 → getU q.payload 4 4 = first → getU q.payload 8 4 = count → first <
    65536 → first + count ≤ 65536 → descOk s q (getU q.payload 0 2) (8 * count) = true → Does (.trcRead q) s fun u =>
    Answered u q 0x1206 stOk 0 (leU 4 ((List.range count).flatMap fun j => traceSample s k (first + j)).length) ∧ HostOnly s
    u ∧ BufHolds s u (getU q.payload 0 2) ((List.range count).flatMap fun j => traceSample s k (first + j))) ∧
  (∀ (t : Nat) (s : State) (p : Nat), let b := s.advance t; (b.probeAt p).state = 2 → (b.probeAt p).mode = 1 → (b.probeAt
    p).need ≤ (b.probeAt p).after → p < b.le.probe.length → Does (.probeComplete t p) s fun u => u.probeAt p =
    { b.probeAt p with state := 3 } ∧ (∀ k, k ≠ p → u.probeAt k = b.probeAt k) ∧ u.le.slot = b.le.slot ∧ u.str = b.str)

/-- A period of a slot that runs applies the output computed last at its sample instant and computes the next within the output
limits; one whose last period is not complete repeats its output and counts as late; a bank swap is taken at the first
period at or after its instant; a deadline fault stops an auxiliary slot, and for the estimation engine makes every cell
stale and charges the engine. -/
def Obligations.LoopPeriods : Prop :=
  (∀ (t : Nat) (s : State) (n cycles : Nat) (late : Bool), let b := s.advance t; slotRuns b n = true → slotDue b n = true →
    (b.loopAt n).busy = false → n < b.le.slot.length → Does (.slotPeriod t n cycles late) s fun u => (u.loopAt n).out =
    (b.loopAt n).computed ∧ (u.loopAt n).repeated = false ∧ (u.loopAt n).sampleT = b.tsu.now ∧ (u.loopAt n).period =
    (b.loopAt n).period + 1 ∧ (u.loopAt n).busy = late ∧ (u.loopAt n).late = (b.loopAt n).late ∧ u.str = b.str) ∧
  (∀ (t : Nat) (s : State) (n cycles : Nat) (late : Bool), let b := s.advance t; slotRuns b n = true → slotDue b n = true → n
    < b.le.slot.length → (b.loopAt n).slewed = false → ((b.loopAt n).busy = true → (b.loopAt n).optional = false) →
    (outLimits b n (b.loopAt n)).1 ≤ (outLimits b n (b.loopAt n)).2 → Does (.slotPeriod t n cycles late) s fun u =>
    (outLimits b n (b.loopAt n)).1 ≤ (u.loopAt n).computed ∧ (u.loopAt n).computed ≤ (outLimits b n (b.loopAt n)).2) ∧
  (∀ (t : Nat) (s : State) (n cycles : Nat) (late : Bool), let b := s.advance t; slotRuns b n = true → slotDue b n = true →
    (b.loopAt n).busy = true → n < b.le.slot.length → Does (.slotPeriod t n cycles late) s fun u => (u.loopAt n).out =
    (b.loopAt n).out ∧ (u.loopAt n).late = (b.loopAt n).late + 1 ∧ (u.loopAt n).lateRun = (b.loopAt n).lateRun + 1 ∧
    (u.loopAt n).catchUp = (b.loopAt n).catchUp + 1 ∧ (u.loopAt n).busy = late ∧ ((b.loopAt n).optional = true → (u.loopAt
    n).computed = (b.loopAt n).computed ∧ (u.loopAt n).integ = (b.loopAt n).integ)) ∧
  (∀ (t : Nat) (s : State) (n at_ : Nat), let b := s.advance t; n < b.le.slot.length → (b.loopAt n).swapAt = some at_ → at_ ≤
    b.tsu.now → Does (.bankSwap t n) s fun u => (u.loopAt n).activeB = (!(b.loopAt n).activeB) ∧ (u.loopAt n).swapAt =
    none ∧ (u.loopAt n).bankA.block = (b.loopAt n).bankA.block ∧ (u.loopAt n).bankA.fresh = false ∧ (u.loopAt n).bankB.fresh
    = false ∧ u.str = b.str) ∧
  (∀ (t : Nat) (s : State) (n : Nat), let b := s.advance t; n < b.le.slot.length → slotRuns b n = true → slotKind n = 5 → 8 <
    (b.loopAt n).lateRun → Does (.deadlineFault t (.le n)) s fun u => (u.loopAt n).stopped = true ∧ (u.loopAt n).deadline =
    (b.loopAt n).deadline + 1 ∧ (u.loopAt n).out = (b.loopAt n).out ∧ u.str = b.str) ∧
  (∀ (t : Nat) (s : State) (n : Nat), let b := s.advance t; n < b.le.slot.length → slotRuns b n = true → slotKind n ≠ 5 → 8 <
    (b.loopAt n).lateRun → b.retired uLe = false → Does (.deadlineFault t (.le n)) s fun u => u.suspended uLe = true ∧
    (u.loopAt n).stopped = (b.loopAt n).stopped ∧ ∀ i ∈ lateStrings b, (u.strAt i).state ≠ .regulating ∨ (b.convAt
    i).rampThen = some .isolated) ∧
  (∀ (t : Nat) (s : State), let b := s.advance t; ceeRuns b = true → b.cee.periodIdx ≠ 0 → b.cee.periodIdx + 8 < b.tsu.now /
    (100 * nsMs) → b.retired uCee = false → Does (.deadlineFault t .cee) s fun u => u.cee.deadlines = b.cee.deadlines + 1 ∧
    u.cee.cells = b.cee.cells.map (fun e => (e.1, { e.2 with stale := true })) ∧ u.suspended uCee = true ∧ u.str = b.str)

/-- A trip latches its function and the gate-off line in its channel, and on a unit that commands strings halts a connected
string and opens coils 0, 2 and 3 of both words; on any other unit the latch alone stands. Both channels must grant a close;
one grant alone after 100 ms halts the string. A CX-4 that follows this unit energises the coils that both words command.
The second pole opens after the first; a weld latches both channels and opens the other pole; BKR_TRIP lasts 500 ms. A
lasting discrepancy, or 10 ms without a cross-link message, opens the string. -/
def Obligations.TripsAndContactors : Prop :=
  (∀ (t : Nat) (s : State) (c : Channel) (i : Nat) (f : SafetyFn), let b := s.advance t; b.isStr i = true → evaluates c f =
    true → chanRuns b c = true → (b.chan c).set.isSome = true → ((b.chan c).at i).latch = false → Commands b → i <
    b.str.length → i < b.saf.sp.str.length → i < b.saf.sloe.str.length → strConnected b i = true → Does (.trip t c i f) s
    fun u => ((u.chan c).at i).latch = true ∧ ((u.chan c).at i).gateOff = true ∧ f ∈ ((u.chan c).at i).tripped ∧ (u.strAt
    i).state = .halted ∧ (u.saf.sp.at i).coils = (b.saf.sp.at i).coils &&& 2 ∧ (u.saf.sloe.at i).coils = (b.saf.sloe.at
    i).coils &&& 2 ∧ (∀ k, k ≠ i → u.strAt k = b.strAt k)) ∧
  (∀ (t : Nat) (s : State) (c : Channel) (i : Nat) (f : SafetyFn), let b := s.advance t; b.isStr i = true → evaluates c f =
    true → chanRuns b c = true → (b.chan c).set.isSome = true → ((b.chan c).at i).latch = false → b.unit = .standby → i <
    (b.chan c).str.length → Does (.trip t c i f) s fun u => ((u.chan c).at i).latch = true ∧ f ∈ ((u.chan c).at i).tripped ∧
    u.str = b.str ∧ u.saf.cont = b.saf.cont) ∧
  (∀ (t : Nat) (s : State) (i : Nat) (coils : BitVec 4) (t0 : Nat), let b := s.advance t; (b.contAt i).request = some (coils,
    t0) → permit b .sp i = true → permit b .sloe i = true → i < b.saf.sp.str.length → i < b.saf.sloe.str.length → i <
    b.saf.cont.length → Does (.closeRequest t i) s fun u => (u.contAt i).request = none ∧ (u.saf.sp.at i).coils = (if
    coil3In (b.setB .sp) i then coils else coils &&& 7) ∧ (u.saf.sloe.at i).coils = (if coil3In (b.setB .sloe) i then coils
    else coils &&& 7) ∧ u.str = b.str) ∧
  (∀ (t : Nat) (s : State) (i : Nat) (coils : BitVec 4) (t0 : Nat), let b := s.advance t; (b.contAt i).request = some (coils,
    t0) → permit b .sp i = true → permit b .sloe i = false → (b.saf.sloe.at i).granted = false → i < b.saf.sp.str.length →
    Does (.closeRequest t i) s fun u => (u.contAt i).request = some (coils, t0) ∧ (u.saf.sp.at i).granted = true ∧
    (u.saf.sloe.at i).coils = (b.saf.sloe.at i).coils) ∧
  (∀ (t : Nat) (s : State) (i t0 : Nat) (coils : BitVec 4), let b := s.advance t; (b.contAt i).request = some (coils, t0) → t0
    + 100 * nsMs ≤ b.clk → (b.saf.sp.at i).granted = true → strConnected b i = true → i < b.str.length → i <
    b.saf.sp.str.length → i < b.saf.sloe.str.length → Does (.closeRequestTimeout t i) s fun u => (u.strAt i).state =
    .halted ∧ (u.saf.sp.at i).disagreement = true ∧ (u.saf.sloe.at i).disagreement = true ∧ (u.saf.sp.at i).coils =
    (b.saf.sp.at i).coils &&& 2) ∧
  (∀ (t : Nat) (s : State) (bus k i : Nat) (mirrors : List (BitVec 4)) (mir : BitVec 4), let b := s.advance t; k < 4 → i = 4 *
    bus + k → b.isStr i = true → chanRuns b .sp = true ∨ chanRuns b .sloe = true → mirrors[k]? = some mir → i <
    b.saf.cont.length → (b.contAt i).followsUs = true → Does (.cdbCycle t bus mirrors true) s fun u => (u.contAt
    i).energised = (b.saf.sp.at i).coils &&& (b.saf.sloe.at i).coils ∧ (u.contAt i).mirror = mir ∧ (u.contAt i).ackMissing =
    0) ∧
  (∀ (t : Nat) (s : State) (bus k i : Nat), let b := s.advance t; k < 4 → i = 4 * bus + k → b.isStr i = true → chanRuns b .sp
    = true → i < b.saf.cont.length → (b.contAt i).ackMissing = 2 → b.retired (uCdb bus) = false → Does (.cdbCycle t bus []
    true) s fun u => (u.contAt i).ackMissing = 3 ∧ u.suspended (uCdb bus) = true ∧ u.str = b.str) ∧
  (∀ (t : Nat) (s : State) (i : Nat), let b := s.advance t; (b.contAt i).opening.isSome = true → (b.contAt i).mirror &&& 13 =
    0 → i < b.saf.cont.length → i < b.saf.sp.str.length → i < b.saf.sloe.str.length → Does (.openSecondPole t i) s fun u =>
    (u.contAt i).opening = none ∧ (u.saf.sp.at i).coils = (b.saf.sp.at i).coils &&& 13 ∧ (u.saf.sloe.at i).coils =
    (b.saf.sloe.at i).coils &&& 13 ∧ u.str = b.str) ∧
  (∀ (t : Nat) (s : State) (i k : Nat), let b := s.advance t; (b.contAt i).followsUs = true → k < 4 → k ≠ 1 → (b.contAt
    i).energised.getLsbD k = false → (b.contAt i).mirror.getLsbD k = true → (b.contAt i).confirmed.getLsbD k = true →
    (b.chan .sp).set.isSome = true → (b.contAt i).weld.getLsbD k = false → i < b.saf.cont.length → i < b.saf.sp.str.length →
    i < b.saf.sloe.str.length → i < b.str.length → Does (.weld t i k) s fun u => (u.contAt i).weld.getLsbD k = true ∧
    (u.saf.sp.at i).latch = true ∧ (u.saf.sloe.at i).latch = true ∧ (u.saf.sp.at i).weld = true ∧ (u.saf.sp.at i).coils =
    0 ∧ (u.saf.sloe.at i).coils = 0 ∧ (Commands b → strConnected b i = true → (u.strAt i).state = .halted)) ∧
  (∀ (t : Nat) (s : State), let b := s.advance t; b.saf.bkrTrip = true → b.saf.bkrEnd ≤ b.clk → Does (.bkrTripEnd t) s fun u
    => u.saf = { b.saf with bkrTrip := false } ∧ u.str = b.str) ∧
  (∀ (t : Nat) (s : State) (c : Channel) (levels : BitVec 16) (k : Nat), let b := s.advance t; chanRuns b c = true → (b.chan
    c).set.isSome = true → k < 16 → k < (b.chan c).inputs.length → siU (b.setB c) k 0 1 ≠ 0 → siU (b.setB c) k 1 1 = 2 → 16
    ≤ siU (b.setB c) k 3 1 → (∀ j ∈ List.range 16, j = k ∨ siU (b.setB c) j 0 1 = 0) → levels.getLsbD k = false → ((b.chan
    c).inputs.getD k {}).high = false → siU (b.setB c) k 6 2 * nsMs ≤ ((b.chan c).inputs.getD k {}).lowNs + (b.clk -
    ((b.chan c).inputs.getD k {}).lastT) → Does (.safetyInputSample t c levels) s fun u => ((u.chan c).inputs.getD k
    {}).demand = true ∧ ((u.chan c).inputs.getD k {}).lastT = b.clk ∧ (∀ i ∈ List.range 8, getBit (b.setB c) (448 + 8 * k +
    5) 0 = true → getBit (b.setB c) (448 + 8 * k + 4) i = true → b.isStr i = true → i < (b.chan c).str.length → .ext ∈
    ((u.chan c).at i).tripped)) ∧
  (∀ (t : Nat) (s : State) (n k : Nat), let b := s.advance t; chanRuns b .sloe = true → tpEnabled (b.setB .sloe) n = true → n
    < b.saf.tpT.length → siU (b.setB .sp) k 0 1 ≠ 0 → siU (b.setB .sp) k 1 1 = 0 → siU (b.setB .sp) k 2 1 = n →
    ((b.saf.sp.inputs.getD k {}).badCycle) = false → k < b.saf.sp.inputs.length → Does (.testPulse t n false) s fun u =>
    u.saf.tpT.getD n 0 = b.clk ∧ (u.saf.sp.inputs.getD k {}).goodCycles = (b.saf.sp.inputs.getD k {}).goodCycles + 1 ∧
    (u.saf.sp.inputs.getD k {}).demand = (b.saf.sp.inputs.getD k {}).demand ∧ u.str = b.str) ∧
  (∀ (t : Nat) (s : State) (n k : Nat), let b := s.advance t; chanRuns b .sloe = true → tpEnabled (b.setB .sloe) n = true → k
    < 16 → siU (b.setB .sp) k 0 1 ≠ 0 → siU (b.setB .sp) k 1 1 = 0 → siU (b.setB .sp) k 2 1 = n → k <
    b.saf.sp.inputs.length → Does (.testPulse t n true) s fun u => (u.saf.sp.inputs.getD k {}).fault = true ∧
    (u.saf.sp.inputs.getD k {}).goodCycles = 0 ∧ u.saf.tpOverload = b.saf.tpOverload ||| BitVec.twoPow 8 n) ∧
  (∀ (t : Nat) (s : State), let b := s.advance t; chanRuns b .sp = true → chanRuns b .sloe = true → Does (.crossLinkPublish t)
    s fun u => u.saf.sp.crossT = b.clk ∧ u.saf.sloe.crossT = b.clk ∧ (∀ i, i < b.strings → i < b.saf.sp.str.length → ∀ f ∈
    commonFns, unmatched b .sp i f = true → ((u.saf.sp.at i).discSince.find? (fun e => e.1 == fnBit f)).isSome = true) ∧
    u.str = b.str) ∧
  (∀ (t : Nat) (s : State) (i t0 : Nat) (f : SafetyFn), let b := s.advance t; b.isStr i = true → unmatched b .sp i f = true →
    (b.saf.sp.at i).discSince.find? (fun e => e.1 == fnBit f) = some (fnBit f, t0) → t0 + fnDebounce b i f + max
    (discrepancyNs (b.setB .sp)) (discrepancyNs (b.setB .sloe)) < b.clk → Commands b → strConnected b i = true → i <
    b.str.length → i < b.saf.sp.str.length → i < b.saf.sloe.str.length → b.retired uSloe = false → Does (.discrepancy t i f)
    s fun u => (u.strAt i).state = .halted ∧ (u.saf.sp.at i).discrepancy = true ∧ (u.saf.sloe.at i).discrepancy = true ∧
    u.suspended uSloe = true) ∧
  (∀ (t : Nat) (s : State) (i : Nat), let b := s.advance t; b.saf.sp.crossT + 10 * nsMs ≤ b.clk → b.saf.sloe.crossT + 10 *
    nsMs ≤ b.clk → Commands b → b.saf.sloe.singleUntil = none → i < b.strings → i < b.str.length → strConnected b i = true →
    Does (.silentPartner t) s fun u => (u.strAt i).state = .halted)

/-- SAF_STAGE puts the 1,024 bytes of the buffer before both channels with their verdicts; SAF_COMMIT of a set both accept sets
the activation 20 ms ahead; SAF_DISCARD and 600 s without a commit drop a staged set. At its instant a channel takes the
set, keeps the former one for the loading window of 5 s and records it. THR_LOAD reaches the monitors that follow this unit;
the reload goes on with the first reachable monitor that waits. -/
def Obligations.SafetySets : Prop :=
  (∀ (s : State) (q : Req), Taken s q → AnyRole s → q.payload.length = 8 → getU q.payload 2 2 = 0 → getU q.payload 4 4 =
    1024 → descOk s q (getU q.payload 0 2) 1024 = true → Does (.safStage q) s fun u => Answered u q 0x0901 stOk 0 [] ∧
    u.saf.sp.staged = some (bufRead s (getU q.payload 0 2) 1024) ∧ u.saf.sloe.staged = u.saf.sp.staged ∧ u.saf.sp.stagedBad
    = setBad s (bufRead s (getU q.payload 0 2) 1024) ∧ u.saf.sp.set = s.saf.sp.set ∧ u.saf.stageT = s.clk ∧ u.str = s.str) ∧
  (∀ (s : State) (q : Req), Taken s q → AnyRole s → q.payload.length = 4 → s.saf.activationPending = false → commitBad s (getU
    q.payload 0 4) = none → Does (.safCommit q) s fun u => Answered u q 0x0903 stOk 0 [] ∧ u.saf.sp.activateAt = some (s.clk
    + 20 * nsMs) ∧ u.saf.sloe.activateAt = some (s.clk + 20 * nsMs) ∧ u.saf.activationPending = true ∧ u.saf.sp.set =
    s.saf.sp.set ∧ u.str = s.str) ∧
  (∀ (s : State) (q : Req), Taken s q → AnyRole s → q.payload.length = 0 → s.saf.activationPending = false → Does (.safDiscard
    q) s fun u => Answered u q 0x0904 stOk 0 [] ∧ u.saf.sp.staged = none ∧ u.saf.sloe.staged = none ∧ u.saf.sp.set =
    s.saf.sp.set ∧ u.str = s.str) ∧
  (∀ (t : Nat) (s : State), let b := s.advance t; b.saf.sp.staged.isSome = true → b.saf.activationPending = false →
    b.saf.stageT + 600 * nsS ≤ b.clk → Does (.stagedSetDiscard t) s fun u => u.saf.sp.staged = none ∧ u.saf.sloe.staged =
    none ∧ u.saf.sp.set = b.saf.sp.set ∧ u.str = b.str) ∧
  (∀ (t : Nat) (s : State) (c : Channel) (a : Nat) (set : Bytes), let b := s.advance t; (b.chan c).activateAt = some a →
    (b.chan c).staged = some set → a ≤ b.clk → chanRuns b c = true → Does (.setActivation t c) s fun u => (u.chan c).set =
    some set ∧ (u.chan c).prevSet = (b.chan c).set ∧ (u.chan c).activateAt = none ∧ u.saf.loadingEnd = some (b.clk + 5 *
    nsS) ∧ (u.chan (otherChan c)).set = (b.chan (otherChan c)).set ∧ u.str = b.str) ∧
  (∀ (t : Nat) (s : State) (e : Nat), let b := s.advance t; b.saf.loadingEnd = some e → e ≤ b.clk → Does (.loadingWindowEnd t)
    s fun u => u.saf.loadingEnd = none ∧ u.saf.sp.prevSet = none ∧ u.saf.sloe.prevSet = none ∧ u.saf.sp.set = b.saf.sp.set ∧
    u.str = b.str) ∧
  (∀ (t : Nat) (s : State) (i m : Nat) (thr : Thresholds), let b := s.advance t; (b.monAt i m).followsUs = true → HasMon b i
    m → Does (.thrLoad t i m true thr) s fun u => (u.monAt i m).thr = some thr ∧ (u.monAt i m).ack.map (fun a => (a.1,
    a.2.1)) = some (0x10, 0) ∧ (u.monAt i m).ack.map (·.2.2) = some (thrCrc thr) ∧ u.str = b.str) ∧
  (∀ (t : Nat) (s : State) (i m : Nat) (rest : List Nat), let b := s.advance t; b.saf.sp.set.isSome = true → (b.ringAt
    i).declared = true → (b.ringAt i).thrTodo = m :: rest → m ∉ rest → thrWrong b i = [] → HasMon b i m → (b.monAt i
    m).unreachable = false → 0 < (b.monAt i m).credits → ringRuns b i = true → ringMaster b = true → Does (.thresholdReload
    t i) s fun u => (u.ringAt i).thrTodo = rest ++ [m] ∧ Sent b u i m 6 0x10 ∧ u.str = b.str)

/-- In native mode the first valid copy of a PDU waits and its equal from the other network accepts it: the sequence number, the
permits and the watchdog are taken, and a stop demand trips every string; a copy alone at the end of the window is a loss. A
black-channel PDU with its CRC is accepted on its network. An expired watchdog forbids closing and, where so configured,
trips the connected strings. A network without a copy for 1 s is down, and single copies are accepted for the minutes
configured. -/
def Obligations.SafeCommunication : Prop :=
  (∀ (t : Nat) (s : State) (c : Channel) (pdu : Bytes), let b := s.advance t; chanRuns b c = true → (b.chan c).set.isSome =
    true → commMode (b.setB c) = 1 → pdu.length = 44 → getU pdu 0 2 = 0x5301 → getU pdu 2 2 = 16 → getU pdu 4 4 = getU
    (b.setB c) 428 4 → getU pdu 40 4 = safetyCrc (pdu.take 40) → (b.chan c).lastSeq ≠ some (getU pdu 8 4) → (b.chan c).waitA
    = none → (b.chan c).waitB = none → (b.chan c).downB = false → Does (.safePduReceived t c 0 pdu) s fun u => ((u.chan
    c).waitA.map (·.bytes)) = some pdu ∧ (u.chan c).waitB = none ∧ (u.chan c).accepted = (b.chan c).accepted ∧ (u.chan
    c).permits = (b.chan c).permits ∧ u.str = b.str) ∧
  (∀ (t : Nat) (s : State) (c : Channel) (pdu : Bytes) (w : PduWait), let b := s.advance t; chanRuns b c = true → (b.chan
    c).set.isSome = true → commMode (b.setB c) = 1 → pdu.length = 44 → getU pdu 0 2 = 0x5301 → getU pdu 2 2 = 16 → getU pdu
    4 4 = getU (b.setB c) 428 4 → getU pdu 40 4 = safetyCrc (pdu.take 40) → (b.chan c).lastSeq ≠ some (getU pdu 8 4) →
    (b.chan c).waitA = some w → w.bytes = pdu → (b.chan c).downA = false → seqOk (b.chan c) (getU pdu 8 4) (2 ^ 32) = true →
    Does (.safePduReceived t c 1 pdu) s fun u => (u.chan c).accepted = (b.chan c).accepted + 1 ∧ (u.chan c).lastSeq = some
    (getU pdu 8 4) ∧ (u.chan c).permits = BitVec.ofNat 8 (getU pdu 24 1) ∧ (u.chan c).commForbid = false ∧ (u.chan c).wdEnd
    = some (b.clk + getU (b.setB c) 424 2 * nsMs) ∧ (u.chan c).waitA = none ∧ (getBit pdu 25 0 = true → ∀ i, i < b.strings →
    i < (b.chan c).str.length → .comm ∈ ((u.chan c).at i).tripped)) ∧
  (∀ (t : Nat) (s : State) (c : Channel) (w : PduWait), let b := s.advance t; (b.chan c).waitB = some w → w.since + getU
    (b.setB c) 423 1 * nsMs ≤ b.clk → Does (.commWindowExpiry t c 1) s fun u => (u.chan c).waitB = none ∧ (u.chan c).losses
    = (b.chan c).losses + 1 ∧ (u.chan c).accepted = (b.chan c).accepted ∧ u.str = b.str) ∧
  (∀ (t : Nat) (s : State) (c : Channel) (net : Nat) (pdu : Bytes), let b := s.advance t; chanRuns b c = true → (b.chan
    c).set.isSome = true → commMode (b.setB c) = net + 2 → pdu.length = 24 → getU pdu 20 4 = safetyCrc (leU 4 (getU (b.setB
    c) 428 4) ++ pdu.take 20) → seqOk (b.chan c) (getU pdu 0 2) 65536 = true → Does (.blackChannelPdu t c net pdu) s fun u
    => (u.chan c).accepted = (b.chan c).accepted + 1 ∧ (u.chan c).lastSeq = some (getU pdu 0 2) ∧ (u.chan c).permits =
    BitVec.ofNat 8 (getU pdu 4 1) ∧ (u.chan c).commForbid = false) ∧
  (∀ (t : Nat) (s : State) (c : Channel) (e : Nat), let b := s.advance t; (b.chan c).wdEnd = some e → e ≤ b.clk → commMode
    (b.setB c) ≠ 0 → chanRuns b c = true → (b.chan c).set.isSome = true → Does (.commWatchdogExpiry t c) s fun u => (u.chan
    c).commForbid = true ∧ (u.chan c).wdEnd = none ∧ (u.chan c).expiries = (b.chan c).expiries + 1 ∧ (getU (b.setB c) 422 1
    = 1 → ∀ i, i < b.strings → i < (b.chan c).str.length → strConnected b i = true → .comm ∈ ((u.chan c).at i).tripped)) ∧
  (∀ (t : Nat) (s : State) (c : Channel), let b := s.advance t; chanRuns b c = true → commMode (b.setB c) = 1 → getU (b.setB
    c) 436 2 ≠ 0 → (b.chan c).downA = false → (b.chan c).lastA + nsS ≤ b.clk → Does (.networkDown t c 0) s fun u => (u.chan
    c).downA = true ∧ (u.chan c).downB = (b.chan c).downB ∧ (u.chan c).downSince = some ((b.chan c).downSince.getD b.clk) ∧
    u.str = b.str) ∧
  (∀ (t : Nat) (s : State) (c : Channel), let b := s.advance t; (b.chan c).downSince.isSome = true → getU (b.setB c) 436 2 *
    60 * nsS ≤ degradeSpent b (b.chan c) → Does (.degradeExpiry t c) s fun u => (u.chan c).degradeUsed = getU (b.setB c) 436
    2 * 60 * nsS ∧ (u.chan c).downSince = some b.clk ∧ singleOk u c 0 = false ∧ singleOk u c 1 = false)

/-- A unit that may sends a well-formed beat with the next sequence number; a good beat is taken, a bad one only counted; a
stage follows a higher claim and ignores any other, and a coil whose words do not come within 100 ms opens. A ready STANDBY
unit takes over after 32 us without a beat, on a yield, or on a lost PEER beat while XCL is unproven: it issues the claim
above every known one, becomes ACTIVE and does not inject for a second. A higher claim takes an ACTIVE unit to RESYNC;
without a partner it goes on as SOLO. -/
def Obligations.HeartbeatAndTakeover : Prop :=
  (∀ (t : Nat) (s : State), let b := s.advance t; beats b = true → Does (.heartbeatSend t) s fun u => u.red.lastBeatTx =
    beatBytes b false ∧ beatOk u.red.lastBeatTx = true ∧ u.red.beatSeq = (b.red.beatSeq + 1) % 256 ∧ u.red.beatsSent =
    b.red.beatsSent + 1 ∧ u.unit = b.unit) ∧
  (∀ (t : Nat) (s : State), let b := s.advance t; beats b = false → Does (.heartbeatSend t) s fun u => u.red.beatsOn = false ∧
    u.red.beatsSent = b.red.beatsSent ∧ u.red.lastBeatTx = b.red.lastBeatTx) ∧
  (∀ (t : Nat) (s : State) (beat : Bytes), let b := s.advance t; b.unit.isRole = true → beatOk beat = true → (getU beat 2
    1).testBit 1 = false → b.unit = .active → getU beat 4 4 ≤ b.red.claim → Does (.beatReceived t beat) s fun u =>
    u.red.beatT = some b.clk ∧ u.red.beatsRx = b.red.beatsRx + 1 ∧ u.red.beat.role = getU beat 1 1 ∧ u.red.beat.claim = getU
    beat 4 4 ∧ u.red.partnerDormant = (getU beat 2 1).testBit 5 ∧ u.red.present = true ∧ u.unit = .active ∧ u.str = b.str) ∧
  (∀ (t : Nat) (s : State) (beat : Bytes), let b := s.advance t; b.unit.isRole = true → beatOk beat = false → Does
    (.beatReceived t beat) s fun u => u.red.beatsBad = b.red.beatsBad + 1 ∧ u.red.beat = b.red.beat ∧ u.red.beatT =
    b.red.beatT ∧ u.unit = b.unit) ∧
  (∀ (t : Nat) (s : State) (beat : Bytes), let b := s.advance t; beatOk beat = true → (getU beat 2 1).testBit 1 = true →
    b.unit = .standby → takeoverReady b = true → b.red.xclProven = true → claimFloor b < 4294967295 → Does (.beatReceived t
    beat) s fun u => u.unit = .active ∧ b.red.claim < u.red.claim ∧ getU beat 4 4 < u.red.claim) ∧
  (∀ (t : Nat) (s : State) (p claim : Nat) (own : Bool), let b := s.advance t; p < b.gx2.length → (b.gx2At p).claim < claim →
    Does (.claimFrame t (.gx2 p) own claim) s fun u => (u.gx2At p).claim = claim ∧ (u.gx2At p).followsUs = own ∧ u.str =
    b.str) ∧
  (∀ (t : Nat) (s : State) (i claim : Nat) (own : Bool), let b := s.advance t; i < b.saf.cont.length → (b.contAt i).claim <
    claim → (b.contAt i).followsUs ≠ own → Does (.claimFrame t (.cx4 i) own claim) s fun u => (u.contAt i).claim = claim ∧
    (u.contAt i).followsUs = own ∧ (u.contAt i).heldSince = some b.clk ∧ (u.contAt i).energised = (b.contAt i).energised) ∧
  (∀ (t : Nat) (s : State) (i claim : Nat) (own : Bool), let b := s.advance t; claim ≤ (b.contAt i).claim → Does (.claimFrame
    t (.cx4 i) own claim) s fun u => u = b) ∧
  (∀ (t : Nat) (s : State) (i : Nat), let b := s.advance t; heldFor b (b.contAt i).heldSince (100 * nsMs) = true → i <
    b.saf.cont.length → Does (.coilHoldExpiry t i) s fun u => (u.contAt i).energised = 0 ∧ (u.contAt i).heldSince = none ∧
    u.str = b.str) ∧
  (∀ (t : Nat) (s : State), let b := s.advance t; takeoverReady b = true → b.red.partnerDormant = false → heldFor b
    b.red.beatT (32 * nsUs) = true → Does (.takeover t) s fun u => u.unit = .active ∧ u.red.claim = claimFloor b + 1 ∧
    u.tpe.startAt = some (b.tsu.now + nsS) ∧ (∀ x ∈ u.tpe.pairs, x.env = .off) ∧ (∀ x ∈ u.bal, x.cycleT = 0) ∧
    u.red.lastTakeoverT = b.clk ∧ u.red.swapAt = none) ∧
  (∀ (t : Nat) (s : State), let b := s.advance t; b.unit = .standby → replicaFresh b = true → someTierP b = true →
    b.red.partnerDormant = false → b.red.xclProven = false → heldFor b b.red.peerBeatT (3 * nsMs) = true → Does
    (.peerBeatLoss t) s fun u => u.unit = .active ∧ u.red.claim = claimFloor b + 1 ∧ u.red.lastTakeoverT = b.clk) ∧
  (∀ (t : Nat) (s : State), let b := s.advance t; b.unit = .active → yieldEnabled b = true → b.red.partnerYieldT = none →
    b.red.lowerSince.any (fun x => heldFor b x (100 * nsMs)) = true → Does (.yield t) s fun u => u.red.yield = true ∧ u.unit
    = .active ∧ u.str = b.str) ∧
  (∀ (t : Nat) (s : State) (claim : Nat), let b := s.advance t; b.unit = .active → b.red.claim < claim → b.red.swapAt = none →
    Does (.higherClaimSeen t claim) s fun u => u.unit = .resync ∧ u.red.resyncStep = 1 ∧ u.red.resyncT = b.clk ∧ claim ≤
    u.red.partnerClaim) ∧
  (∀ (t : Nat) (s : State), let b := s.advance t; beats b = true → b.unit.isRole = true → Does (.heartbeat t) s fun u =>
    u.red.peerOut.head? = some 7 ∧ u.red.peerTx = (b.red.peerTx + 1) % 2 ^ 32 ∧ u.unit = b.unit) ∧
  (∀ (t : Nat) (s : State), let b := s.advance t; b.unit.isRole = true → b.pwr.state = .active → Does (.peerState t) s fun u
    => u.red.peerOut.head? = some peerState ∧ u.red.peerTx = (b.red.peerTx + 1) % 2 ^ 32 ∧ u.str = b.str) ∧
  (∀ (t : Nat) (s : State), let b := s.advance t; heldFor b b.red.peerT (10 * nsMs) = true → heldFor b b.red.peerT nsS =
    false → Does (.peerDown t) s fun u => u.red.peerDown = true ∧ u.red.ackWait = [] ∧ u.unit = b.unit) ∧
  (∀ (t : Nat) (s : State), let b := s.advance t; heldFor b b.red.peerT nsS = true → b.unit = .standby → b.red.partnerDormant
    = false → Does (.peerDown t) s fun u => u.red.peerDown = true ∧ u.unit = .resync ∧ u.red.resyncStep = 1) ∧
  (∀ (t : Nat) (s : State), let b := s.advance t; presentNow b = false → b.unit = .active → Does (.partnerAbsent t) s fun u =>
    u.unit = .solo ∧ u.red.present = false ∧ u.red.ackWait = [] ∧ u.str = b.str) ∧
  (∀ (t : Nat) (s : State), let b := s.advance t; presentNow b = false → b.unit = .resync → Does (.partnerAbsent t) s fun u =>
    u.unit = .solo ∧ u.red.claim = claimFloor b + 1 ∧ ∀ i, i < b.strings → i < b.str.length → strConnected u i = false) ∧
  (∀ (t : Nat) (s : State), let b := s.advance t; b.red.partnerDormant = true → heldFor b b.red.wakeT nsS = true → b.unit =
    .active → Does (.dormantPartnerTimeout t) s fun u => u.unit = .solo ∧ u.red.partnerDormant = false ∧ u.red.present =
    false ∧ u.str = b.str)

/-- RED_SWAP asks for a swap 2 ms ahead where R337 allows one and RED_POSTPONE holds scheduled ones back; at the instant the
STANDBY unit becomes ACTIVE on a new claim and the granted ACTIVE unit STANDBY; a swap that fails its verification is
undone; a due swap is asked for in its window and recorded overdue in the end; resync takes its steps and ends STANDBY after
10 s of clean comparison. A PEER message in sequence is taken: HEARTBEAT, CONFIG, SWAP grant, and the acknowledgement that
completes a command; one with a bad CRC is discarded. -/
def Obligations.SwapsResyncAndPeer : Prop :=
  (∀ (s : State) (q : Req), Taken s q → s.unit = .active → q.payload.length = 0 → swapAllowed s = true → s.red.swapAt = none →
    Does (.redSwap q) s fun u => Answered u q 0x0A04 stOk 0 [] ∧ u.red.swapAsked = true ∧ u.red.swapAt = some (s.tsu.now + 2
    * nsMs) ∧ u.red.peerOut.head? = some 8 ∧ u.unit = .active ∧ u.str = s.str) ∧
  (∀ (s : State) (q : Req), Taken s q → s.unit = .active → q.payload.length = 2 → 1 ≤ getU q.payload 0 2 → getU q.payload 0 2
    ≤ 168 → Does (.redPostpone q) s fun u => Answered u q 0x0A05 stOk 0 [] ∧ u.red.postponeEnd = some (s.clk + getU
    q.payload 0 2 * 3600 * nsS) ∧ u.red.dueT = s.red.dueT ∧ u.str = s.str) ∧
  (∀ (s : State) (q : Req), Taken s q → s.unit = .active ∨ s.unit = .standby → q.payload.length = 0 → Does (.redGetShadow q) s
    fun u => Answered u q 0x0A06 stOk 0 (redShadow s) ∧ HostOnly s u) ∧
  (∀ (t : Nat) (s : State) (ts : Nat), let b := s.advance t; b.red.swapAt = some ts → ts ≤ b.tsu.now → b.unit = .standby →
    Does (.swap t) s fun u => u.unit = .active ∧ u.red.claim = claimFloor b + 1 ∧ u.red.swapAt = none ∧ u.red.swapVerifyAt =
    some (b.clk + 20 * nsMs) ∧ u.red.lastSwapT = b.clk) ∧
  (∀ (t : Nat) (s : State) (ts : Nat), let b := s.advance t; b.red.swapAt = some ts → ts ≤ b.tsu.now → b.unit = .active →
    b.red.swapGranted = true → Does (.swap t) s fun u => u.unit = .standby ∧ u.red.swapAt = none ∧ u.red.swapGranted =
    false ∧ u.red.claim = b.red.claim ∧ (∀ i, i < b.strings → i < b.str.length → (u.strAt i).trans = none ∧ (u.strAt
    i).state = (b.strAt i).state)) ∧
  (∀ (t : Nat) (s : State), let b := s.advance t; b.red.swapVerifyAt.isSome = true → b.unit = .active → strayPhases b = [] →
    Does (.swapVerify t true true) s fun u => u.red.swapVerifyAt = none ∧ u.unit = .active ∧ u.red.failedSwaps =
    b.red.failedSwaps) ∧
  (∀ (t : Nat) (s : State) (p : Nat), let b := s.advance t; b.red.swapVerifyAt.isSome = true → b.unit = .active → strayPhases
    b = [p] → sharedLost b = false → Does (.swapVerify t true true) s fun u => u.unit = .standby ∧ u.retired (uPhase p) =
    true ∧ u.red.failedSwaps = b.red.failedSwaps + 1) ∧
  (∀ (t : Nat) (s : State), let b := s.advance t; b.unit = .active → swapsEnabled b = true → b.red.dueT ≤ b.clk → inWindow b =
    true → swapAllowed b = true → b.red.postponeEnd = none → b.saf.setMismatch = false → b.red.unresolved = false →
    b.red.retryT ≤ b.clk → b.red.swapAt = none → Does (.scheduledSwapDue t) s fun u => u.red.swapAsked = true ∧ u.red.swapAt
    = some (b.tsu.now + 2 * nsMs) ∧ u.red.dueSince = some (b.red.dueSince.getD b.clk) ∧ u.str = b.str) ∧
  (∀ (t : Nat) (s : State), let b := s.advance t; heldFor b b.red.dueSince (getU (pairCfg b) 8 2 * 3600 * nsS) = true →
    b.red.overdue = false → Does (.swapOverdue t) s fun u => u.red.overdue = true ∧ u.red.dueSince = b.red.dueSince ∧ u.unit
    = b.unit) ∧
  (∀ (t : Nat) (s : State), let b := s.advance t; b.unit = .resync → b.red.resyncStep = 1 → b.red.partnerIdentity.isSome =
    true → b.red.partnerVariantOk = true → b.red.partnerLevelsOk = true → Does (.resyncStep t) s fun u => u.red.resyncStep =
    2 ∧ u.unit = .resync ∧ u.str = b.str) ∧
  (∀ (t : Nat) (s : State), let b := s.advance t; b.unit = .resync → b.red.resyncStep = 5 → cleanFor b (10 * nsS) = true →
    Does (.resyncStep t) s fun u => u.unit = .standby ∧ u.red.resyncStep = 0 ∧ u.str = b.str) ∧
  (∀ (t : Nat) (s : State), let b := s.advance t; b.unit = .resync → b.red.resyncStep ≠ 0 → b.red.resyncT + 300 * nsS ≤
    b.clk → b.red.restarts < 3 → Does (.resyncTimeout t) s fun u => u.red.restarts = b.red.restarts + 1 ∧ u.red.resyncStep =
    1 ∧ u.red.resyncT = b.clk ∧ u.unit = .resync) ∧
  (∀ (t : Nat) (s : State), let b := s.advance t; b.unit = .resync → b.red.resyncStep ≠ 0 → b.red.resyncT + 300 * nsS ≤
    b.clk → 3 ≤ b.red.restarts → Does (.resyncTimeout t) s fun u => u.red.resyncStep = 0 ∧ u.unit = .resync) ∧
  (∀ (t : Nat) (s : State) (v : ShadowValue), let b := s.advance t; b.unit = .standby → absI (v.active - v.own) ≤ shadowTol
    v.row v.active → Does (.shadow t v) s fun u => u.red.runs = b.red.runs.filter (fun e => e.1 ≠ (v.row, v.obj)) ∧
    u.red.mismatches = b.red.mismatches ∧ u.red.shadowCleanSince = b.red.shadowCleanSince) ∧
  (∀ (t : Nat) (s : State) (v : ShadowValue), let b := s.advance t; b.unit = .standby → shadowTol v.row v.active < absI
    (v.active - v.own) → v.row = 1 → runGet b.red.runs (v.row, v.obj) = some (9, 0) → b.retired (uPhase v.obj) = false →
    Does (.shadow t v) s fun u => u.red.mismatches = b.red.mismatches + 1 ∧ u.red.lastMismatch = some (1, v.obj) ∧
    u.red.shadowCleanSince = b.clk ∧ u.suspended (uPhase v.obj) = true) ∧
  (∀ (t : Nat) (s : State) (m : PeerMsg), let b := s.advance t; peerRuns b = true → m.crcOk = true → b.red.peerRx = none →
    b.unit = .standby → m.body = .heartbeat → Does (.peerMessage t m) s fun u => u.red.peerRx = some m.seq ∧ u.red.peerT =
    some b.clk ∧ u.red.peerDown = false ∧ u.red.peerBeatT = some b.clk ∧ u.unit = .standby ∧ u.str = b.str) ∧
  (∀ (t : Nat) (s : State) (m : PeerMsg) (p : Bytes), let b := s.advance t; peerRuns b = true → m.crcOk = true → b.red.peerRx
    = none → b.unit = .standby → m.role = 3 → m.body = .config 0x0603 p → Does (.peerMessage t m) s fun u => u.red.peerRx =
    some m.seq ∧ u.red.peerT = some b.clk ∧ u.red.peerDown = false ∧ u.dsp.budget = getU p 0 4 ∧ u.red.peerOut.head? = some
    10 ∧ u.unit = .standby) ∧
  (∀ (t : Nat) (s : State) (m : PeerMsg), let b := s.advance t; peerRuns b = true → m.crcOk = true → b.red.peerRx = none →
    b.unit = .active → b.red.swapAsked = true → m.body = .swapGrant → Does (.peerMessage t m) s fun u => u.red.peerRx = some
    m.seq ∧ u.red.peerT = some b.clk ∧ u.red.peerDown = false ∧ u.red.swapGranted = true ∧ u.unit = .active) ∧
  (∀ (t : Nat) (s : State) (m : PeerMsg) (w : AckWait), let b := s.advance t; peerRuns b = true → m.crcOk = true →
    b.red.peerRx = none → b.unit = .active → m.body = .ack → b.red.ackWait = [w] → m.ackSeq = w.seq → b.hpr.exec =
    [w.exec] → w.exec.followers = [] → Does (.peerMessage t m) s fun u => u.red.peerRx = some m.seq ∧ u.red.peerT = some
    b.clk ∧ u.red.peerDown = false ∧ u.red.ackWait = [] ∧ u.hpr.exec = [] ∧ Answered u w.exec.req w.exec.opcode stOk 0
    w.payload ∧ u.str = b.str) ∧
  (∀ (t : Nat) (s : State) (m : PeerMsg), let b := s.advance t; peerRuns b = true → m.crcOk = false → Does (.peerMessage t m)
    s fun u => u.red.peerDiscards = b.red.peerDiscards + 1 ∧ u.red.peerRx = b.red.peerRx ∧ u.str = b.str ∧ u.dsp = b.dsp) ∧
  (∀ (t : Nat) (s : State) (m : PeerMsg) (n : Nat), let b := s.advance t; peerRuns b = true → m.crcOk = true → b.red.peerRx =
    some n → m.seq ≠ (n + 1) % 2 ^ 32 → Does (.peerMessage t m) s fun u => u.red.peerDiscards = b.red.peerDiscards + 1 ∧
    u.red.peerRx = b.red.peerRx ∧ u.str = b.str ∧ u.dsp = b.dsp)

/-- A sample gives the bus voltage and the shelf current and charge; a poll takes readings, a rectifier three polls silent is
lost and rejoins after 10 s good; on a loss of AC the draw allowance is 0 and every channel of class 1 is shed, and the
return ends it; the cap sheds at most one step in each evaluation, channels of class 1 first and in order of rank, then
fans, then class 3; a step comes back after 10 s of room; a low shelf sheds class 3 and the fans, a shelf below its cut
class 3. -/
def Obligations.RackBusAndCap : Prop :=
  (∀ (t : Nat) (s : State) (vsns : Nat) (uv : Int) (ac : Bool), let b := s.advance t; auxRuns b = true → Does (.auxSample t
    vsns uv ac) s fun u => u.rack.vBus = vsns ∧ u.rack.iShelf = (if busFlag b 0 = true ∧ rShelf b ≠ 0 then clampI (-100000)
    100000 uv * 1000 / (rShelf b : Int) else 0) ∧ u.rack.shelf = (if busFlag b 0 then clampI 0 (shelfFull b) (b.rack.shelf +
    u.rack.iShelf) else 0) ∧ u.rack.vCount = b.rack.vCount + 1 ∧ u.str = b.str) ∧
  (∀ (t : Nat) (s : State), let b := s.advance t; busFlag b 0 = true → heldFor b b.rack.slowSince (3600 * nsS) = true → Does
    (.shelfFull t) s fun u => u.rack.shelf = shelfFull b ∧ u.rack.ef = b.rack.ef) ∧
  (∀ (t : Nat) (s : State) (k : Nat) (r : List RectReading), let b := s.advance t; auxRuns b = true → Commands b → k < 16 →
    rectUsed b k = true → k < b.rack.rect.length → r = [] ∨ r = List.replicate 16 ⟨false, 0, 0, 0, 0, 0, 0, false, false⟩ →
    r ≠ [] → (b.rack.rect.getD k {}).misses = 2 → (b.rack.rect.getD k {}).good = true → (b.rack.rect.getD k {}).lost =
    false → Does (.pmbusPoll t r) s fun u => (u.rack.rect.getD k {}).lost = true ∧ (u.rack.rect.getD k {}).good = false ∧
    (u.rack.rect.getD k {}).misses = 3 ∧ u.str = b.str) ∧
  (∀ (t : Nat) (s : State) (k : Nat) (x : RectReading) (r : List RectReading), let b := s.advance t; auxRuns b = true →
    Commands b → k < 16 → rectUsed b k = true → k < b.rack.rect.length → r[k]? = some x → x.answered = true → readingGood b
    k x = true → Does (.pmbusPoll t r) s fun u => (u.rack.rect.getD k {}).good = true ∧ (u.rack.rect.getD k {}).misses = 0 ∧
    (u.rack.rect.getD k {}).reading = some x ∧ (u.rack.rect.getD k {}).lost = (b.rack.rect.getD k {}).lost ∧ u.str = b.str) ∧
  (∀ (t : Nat) (s : State) (seg k : Nat) (w : BitVec 16) (x : RectReading), let b := s.advance t; auxRuns b = true → Commands
    b → rectUsed b k = true → rectSegment b k = seg → k < b.rack.rect.length → (b.rack.rect.getD k {}).reading = some x →
    Does (.pmbusAlert t seg [(k, w)]) s fun u => u.rack.alerts = b.rack.alerts + 1 ∧ (u.rack.rect.getD k {}).reading = some
    { x with statusWord := w, answered := true } ∧ (u.rack.rect.getD k {}).misses = 0) ∧
  (∀ (t : Nat) (s : State) (k : Nat), let b := s.advance t; k < b.rack.rect.length → (b.rack.rect.getD k {}).lost = true →
    (b.rack.rect.getD k {}).good = true → heldFor b (b.rack.rect.getD k {}).goodSince (10 * nsS) = true → Does
    (.rectifierRejoin t k) s fun u => (u.rack.rect.getD k {}).lost = false ∧ (u.rack.rect.getD k {}).trim = 0) ∧
  (∀ (t : Nat) (s : State), let b := s.advance t; auxRuns b = true → b.rack.acLoss = false → heldFor b b.rack.acOkLowSince (20
    * nsMs) = true ∨ b.rack.inputFault = true ∨ heldFor b b.rack.lowVSince (20 * nsMs) = true → Does (.acLoss t) s fun u =>
    u.rack.acLoss = true ∧ u.dsp.drawAllow = some 0 ∧ (∀ n ∈ List.range 16, efClass b n = 1 → efRunning u n = true → (u.efAt
    n).shed = true) ∧ u.str = b.str) ∧
  (∀ (t : Nat) (s : State), let b := s.advance t; auxRuns b = true → b.rack.acLoss = true → heldFor b b.rack.noLossSince (5 *
    nsS) = true → sharing b ≠ [] → Does (.acReturn t) s fun u => u.rack.acLoss = false ∧ u.rack.shelfLow = false ∧
    u.rack.shelfCut = false ∧ u.rack.shed = b.rack.shed) ∧
  (∀ (t : Nat) (s : State) (x : Nat), let b := s.advance t; auxRuns b = true → b.rack.acLoss = true → b.rack.shelfLow =
    false → remaining b = some x → x ≤ tShelfLow b → Does (.shelfLow t) s fun u => u.rack.shelfLow = true ∧ (∀ n ∈
    List.range 16, efClass b n = 3 → efRunning u n = true → (u.efAt n).shed = true)) ∧
  (∀ (t : Nat) (s : State), let b := s.advance t; auxRuns b = true → b.rack.acLoss = true → b.rack.shelfCut = false →
    b.rack.vBus < vShelfCut b → Does (.shelfCut t) s fun u => u.rack.shelfCut = true ∧ (∀ n ∈ List.range 16, efClass b n =
    3 → efRunning u n = true → (u.efAt n).shed = true)) ∧
  (∀ (t : Nat) (s : State) (c n : Nat), let b := s.advance t; auxRuns b = true → Commands b → (capOf b).1 = some c → 1000 * c
    < b.rack.pAux → nextShed b 1 = some n → n < b.rack.ef.length → Does (.capEvaluation t) s fun u => (u.efAt n).shed =
    true ∧ (u.efAt n).state ≠ .on ∧ (∀ k, k ≠ n → u.efAt k = b.efAt k) ∧ u.rack.shed.length = b.rack.shed.length + 1 ∧
    u.rack.cap = some c) ∧
  (∀ (t : Nat) (s : State), let b := s.advance t; auxRuns b = true → Commands b → (capOf b).1 = none → Does (.capEvaluation t)
    s fun u => u.dsp.drawAllow = none ∧ u.rack.cap = none ∧ u.rack.capUnmet = false ∧ u.rack.ef = b.rack.ef ∧ u.str = b.str) ∧
  (∀ (t : Nat) (s : State) (x : Shed) (rest : List Shed), let b := s.advance t; b.rack.shed = x :: rest → b.rack.acLoss =
    false → restorable b = true → heldFor b b.rack.restoreSince (10 * nsS) = true → x.kind = 0 → x.ch < b.rack.ef.length →
    Does (.shedRestore t) s fun u => u.rack.shed = rest ∧ (u.efAt x.ch).shed = false ∧ (∀ k, k ≠ x.ch → u.efAt k = b.efAt
    k))

/-- A channel qualifies, ramps after its insertion delay, and is ON with power-good after 1 ms; a window exit takes it back; a
fault in RAMP or ON, on the unit that steers the gates, opens it for a retry or latches it when the retries are spent, and
60 s ON clear the count; a fast trip acts on every unit. AUX_EF_ON, AUX_EF_OFF, AUX_EF_RESET and AUX_SET_EF command one
channel and leave the others. -/
def Obligations.EfuseChannels : Prop :=
  (∀ (s : State) (q : Req) (n : Nat), Taken s q → Commands s → q.payload.length = 104 → getU q.payload 0 1 = n → n < 16 → n <
    s.rack.ef.length → efConflict s n [.off, .latched] = none → badField efFields q.payload = none → efCheck s q.payload =
    none → Does (.auxSetEf q) s fun u => Done1 s u q 0x0B06 3 [] ∧ (u.efAt n).cfg = q.payload ∧ (∀ k, k ≠ n → u.efAt k =
    s.efAt k) ∧ u.str = s.str) ∧
  (∀ (s : State) (q : Req) (n : Nat), Taken s q → Commands s → FormI s q n → n < 16 → n < s.rack.ef.length → efSequenced s n =
    false → (s.efAt n).state = .off → (s.efAt n).retired = false → s.retired (uEf n) = false → Does (.auxEfOn q) s fun u =>
    Done1 s u q 0x0B08 3 [] ∧ (u.efAt n).commanded = true ∧ (efEnabled s n = true → (s.efAt n).shed = false → (u.efAt
    n).state = .qualify) ∧ (∀ k, k ≠ n → u.efAt k = s.efAt k)) ∧
  (∀ (s : State) (q : Req) (n : Nat), Taken s q → Commands s → FormI s q n → n < 16 → n < s.rack.ef.length → efSequenced s n =
    false → (s.efAt n).state = .on → Does (.auxEfOff q) s fun u => Done1 s u q 0x0B09 3 [] ∧ (u.efAt n).commanded = false ∧
    (u.efAt n).state = .off ∧ (u.efAt n).pgood = false ∧ (∀ k, k ≠ n → u.efAt k = s.efAt k)) ∧
  (∀ (s : State) (q : Req) (n : Nat), Taken s q → Commands s → FormI s q n → n < 16 → n < s.rack.ef.length → (s.efAt n).state
    = .latched → s.retired (uEf n) = false → (s.efAt n).retired = false → (s.efAt n).commanded = false → Does (.auxEfReset
    q) s fun u => Done1 s u q 0x0B0A 3 [] ∧ (u.efAt n).state = .off ∧ (u.efAt n).faults = 0 ∧ (∀ k, k ≠ n → u.efAt k =
    s.efAt k)) ∧
  (∀ (s : State) (q : Req) (n : Nat), Taken s q → Commands s → FormI s q n → n < 16 → n < s.rack.ef.length → s.retired (uEf n)
    = true → (s.efAt n).retired = true → Does (.auxEfReset q) s fun u => (∃ e ∈ u.flt.susp, e.unit = uEf n ∧ e.restoring =
    true) ∧ (u.efAt n).retired = true ∧ (∃ e ∈ u.hpr.exec, e.req = q ∧ e.opcode = 0x0B0A) ∧ (∀ k, k ≠ n → u.efAt k = s.efAt
    k)) ∧
  (∀ (t : Nat) (s : State) (n : Nat) (v : EfReading), let b := s.advance t; efcRuns b = true → n < 16 → n < b.rack.ef.length →
    (b.efAt n).state = .off → (b.efAt n).commanded = true → (b.efAt n).shed = false → (b.efAt n).retired = false → efEnabled
    b n = true → efMayStart b n = true → Does (.efuseSample t n v) s fun u => (u.efAt n).reading = v ∧ (u.efAt n).state =
    .qualify ∧ (∀ k, k ≠ n → u.efAt k = b.efAt k)) ∧
  (∀ (t : Nat) (s : State) (n : Nat) (v : EfReading), let b := s.advance t; efcRuns b = true → n < 16 → n < b.rack.ef.length →
    efGateOn (b.efAt n) = true → 1 ≤ curveStep (efCfg b n) (b.efAt n) v.i (efRated b n) → steers b = true → (b.efAt
    n).faults < efRetries b n → Does (.efuseSample t n v) s fun u => (u.efAt n).state = .retry ∧ (u.efAt n).retryEnd = b.clk
    + efRetry b n ∧ (u.efAt n).faults = (b.efAt n).faults + 1 ∧ (u.efAt n).pgood = false ∧ (∀ k, k ≠ n → u.efAt k = b.efAt
    k)) ∧
  (∀ (t : Nat) (s : State) (n : Nat), let b := s.advance t; n < b.rack.ef.length → (b.efAt n).state = .qualify → heldFor b
    (b.efAt n).insertSince (efInsert b n) = true → diodeHot b n = false → efMayStart b n = true → Does (.insertionDelayEnd t
    n) s fun u => (u.efAt n).state = .ramp ∧ (u.efAt n).rampT = b.clk ∧ (∀ k, k ≠ n → u.efAt k = b.efAt k)) ∧
  (∀ (t : Nat) (s : State) (n : Nat), let b := s.advance t; n < b.rack.ef.length → efGateOn (b.efAt n) = true → heldFor b
    (b.efAt n).lowSince nsMs = true ∨ heldFor b (b.efAt n).highSince (10 * nsUs) = true ∨ heldFor b (b.efAt n).presSince (10
    * nsMs) = true → Does (.windowExit t n) s fun u => (u.efAt n).state = .qualify ∧ (u.efAt n).pgood = false ∧ (u.efAt
    n).faults = (b.efAt n).faults ∧ (∀ k, k ≠ n → u.efAt k = b.efAt k)) ∧
  (∀ (t : Nat) (s : State) (n : Nat), let b := s.advance t; efcRuns b = true → n < b.rack.ef.length → efGateOn (b.efAt n) =
    true → efRetries b n ≤ (b.efAt n).faults → Does (.efuseFastTrip t n) s fun u => (u.efAt n).state = .latched ∧ (u.efAt
    n).faults = (b.efAt n).faults + 1 ∧ (u.efAt n).pgood = false ∧ (∀ k, k ≠ n → u.efAt k = b.efAt k)) ∧
  (∀ (t : Nat) (s : State) (n : Nat), let b := s.advance t; n < b.rack.ef.length → softExpired b n = true → steers b = true →
    (b.efAt n).faults < efRetries b n → Does (.softStartExpiry t n) s fun u => (u.efAt n).state = .retry ∧ (u.efAt
    n).retryEnd = b.clk + efRetry b n ∧ (∀ k, k ≠ n → u.efAt k = b.efAt k)) ∧
  (∀ (t : Nat) (s : State) (n : Nat), let b := s.advance t; n < b.rack.ef.length → softExpired b n = true → steers b = false →
    Does (.softStartExpiry t n) s fun u => (u.efAt n).state = .ramp ∧ (u.efAt n).faults = (b.efAt n).faults + 1 ∧ (∀ k, k ≠
    n → u.efAt k = b.efAt k)) ∧
  (∀ (t : Nat) (s : State) (n : Nat), let b := s.advance t; n < b.rack.ef.length → (b.efAt n).state = .ramp → heldFor b
    (b.efAt n).pgSince nsMs = true → Does (.powerGood t n) s fun u => (u.efAt n).state = .on ∧ (u.efAt n).pgood = true ∧
    (u.efAt n).onSince = b.clk ∧ (∀ k, k ≠ n → u.efAt k = b.efAt k)) ∧
  (∀ (t : Nat) (s : State) (n : Nat), let b := s.advance t; n < b.rack.ef.length → (b.efAt n).state = .on → heldFor b (b.efAt
    n).gfSince nsMs = true → steers b = true → efRetries b n ≤ (b.efAt n).faults → b.retired (uEf n) = false → Does
    (.gateFault t n) s fun u => (u.efAt n).state = .latched ∧ u.suspended (uEf n) = true ∧ (∀ k, k ≠ n → u.efAt k = b.efAt
    k)) ∧
  (∀ (t : Nat) (s : State) (n : Nat), let b := s.advance t; efcRuns b = true → n < b.rack.ef.length → efGateOn (b.efAt n) =
    true → 1 ≤ (b.efAt n).stress → steers b = true → (b.efAt n).faults < efRetries b n → Does (.efuseFault t n .stress) s
    fun u => (u.efAt n).state = .retry ∧ (u.efAt n).faults = (b.efAt n).faults + 1 ∧ (∀ k, k ≠ n → u.efAt k = b.efAt k)) ∧
  (∀ (t : Nat) (s : State) (n : Nat), let b := s.advance t; n < b.rack.ef.length → (b.efAt n).state = .retry → (b.efAt
    n).retryEnd ≤ b.clk → (b.efAt n).commanded = false → Does (.retryTimerExpiry t n) s fun u => (u.efAt n).state = .off ∧
    (u.efAt n).faults = (b.efAt n).faults ∧ (∀ k, k ≠ n → u.efAt k = b.efAt k)) ∧
  (∀ (t : Nat) (s : State) (n : Nat), let b := s.advance t; n < b.rack.ef.length → (b.efAt n).state = .on → (b.efAt n).onSince
    + 60 * nsS ≤ b.clk → Does (.faultCountClear t n) s fun u => (u.efAt n).faults = 0 ∧ (u.efAt n).state = .on ∧ (∀ k, k ≠
    n → u.efAt k = b.efAt k))

/-- SEQ_SET_TABLE keeps a table that passes its checks for the next power-up; SEQ_GET_TABLE and SEQ_GET_STATUS answer into a
buffer; SEQ_OFF and SEQ_CANCEL_OFF make and take back an off request. In OFF an on request within the minimum off time is
held and served at its end; on the line the unit watches for 3 ms and then powers up locally or by the line; a step done in
time leads to the next and the sixth to BOOT; a late one undoes the power-up; PB_N, the forced off and MR_N act as their
rules say. -/
def Obligations.SequencerRequests : Prop :=
  (∀ (s : State) (q : Req) (d len : Nat), Taken s q → AnyRole s → q.payload.length = 8 → getU q.payload 0 2 = d → getU
    q.payload 2 2 = 0 → getU q.payload 4 4 = len → 20 ≤ len → len ≤ 788 → descOk s q d len = true → railTableBad s (bufRead
    s d len) len = none → Does (.seqSetTable q) s fun u => Answered u q 0x0C01 stOk 0 [] ∧ u.seq =
    { s.seq with next := some (bufRead s d len) } ∧ u.str = s.str) ∧
  (∀ (s : State) (q : Req) (d k : Nat), Taken s q → s.unit.isRole = true ∨ s.unit = .safeHold ∨ s.unit = .recovery →
    q.payload.length = 4 → SlotOk q → MemOk s → getU q.payload 0 2 = d → d ≠ noDesc → getU q.payload 2 1 = k → k ≤ 1 → getU
    q.payload 3 1 = 0 → descOk s q d (if k = 0 then s.seq.table else s.seq.next.getD []).length = true → (s.desc d).offset +
    (s.desc d).size ≤ 0x1000000 → Does (.seqGetTable q) s fun u =>
    (let x := (if k = 0 then s.seq.table else s.seq.next.getD []); Answered u q 0x0C02 stOk 0 (leU 4 x.length) ∧ BufHolds s
    u d x) ∧ HostOnly s u) ∧
  (∀ (s : State) (q : Req) (d : Nat), Taken s q → s.unit.isRole = true ∨ s.unit = .safeHold ∨ s.unit = .recovery →
    q.payload.length = 2 → SlotOk q → MemOk s → getU q.payload 0 2 = d → d ≠ noDesc → descOk s q d (seqStatus s).length =
    true → (s.desc d).offset + (s.desc d).size ≤ 0x1000000 → Does (.seqGetStatus q) s fun u => Answered u q 0x0C03 stOk 0
    (leU 4 (seqStatus s).length) ∧ BufHolds s u d (seqStatus s) ∧ u.seq = s.seq ∧ u.str = s.str) ∧
  (∀ (s : State) (q : Req) (k : Nat), Taken s q → s.unit.isRole = true ∨ s.unit = .safeHold ∨ s.unit = .recovery → s.unit ≠
    .off → s.unit ≠ .powerup → q.payload.length = 1 → getU q.payload 0 1 = k → k ≤ 1 → s.seq.phase = .up → s.seq.preOff =
    0 → k = 1 ∨ s.unit ≠ .active ∨ s.red.present = false → Does (.seqOff q) s fun u => Answered u q 0x0C04 stOk 0 [] ∧
    u.seq.phase = .descending ∧ u.seq.preOff = 1 ∧ u.seq.preOffT = s.clk ∧ u.seq.pos = tblTop s.seq.table ∧ u.seq.local_ =
    !(k == 1 && onLine s)) ∧
  (∀ (s : State) (q : Req), Taken s q → s.unit = .active → q.payload.length = 1 → getU q.payload 0 1 = 0 → s.red.present =
    true → s.seq.phase = .up → s.seq.preOff = 0 → Does (.seqOff q) s fun u => Answered u q 0x0C04 stOk 0 [] ∧ u.seq =
    { s.seq with pendingLocal := true } ∧ u.unit = .active) ∧
  (∀ (s : State) (q : Req), Taken s q → s.unit.isRole = true ∨ s.unit = .safeHold ∨ s.unit = .recovery → q.payload.length =
    0 → s.seq.pendingLocal = true → Does (.seqCancelOff q) s fun u => Answered u q 0x0C05 stOk 0 [] ∧ u.seq =
    { s.seq with pendingLocal := false } ∧ u.str = s.str) ∧
  (∀ (t : Nat) (s : State) (src : OnSource), let b := s.advance t; b.unit = .off → b.pwr.vinValid = true → b.pwr.state ≠
    .unpowered → onAllowed b src = true → b.clk < b.pwr.minOffEnd → b.seq.heldOn = none → Does (.onRequest t src) s fun u =>
    u.seq.heldOn = some src ∧ u.unit = .off ∧ u.str = b.str) ∧
  (∀ (t : Nat) (s : State) (src : OnSource), let b := s.advance t; b.unit = .off → b.pwr.vinValid = true → b.pwr.state ≠
    .unpowered → onAllowed b src = true → b.pwr.minOffEnd ≤ b.clk → src ≠ .seqLine → b.seq.phase ≠ .watching → onLine b =
    true → Does (.onRequest t src) s fun u => u.seq.phase = .watching ∧ u.seq.watchT = b.clk ∧ u.seq.heldOn = none ∧ u.unit
    = .off) ∧
  (∀ (t : Nat) (s : State) (src : OnSource), let b := s.advance t; b.unit = .off → b.pwr.vinValid = true → b.pwr.state ≠
    .unpowered → b.seq.heldOn = some src → b.pwr.minOffEnd ≤ b.clk → onLine b = false → src ≠ .seqLine → Does
    (.minimumOffTimeEnd t) s fun u => u.unit = .powerup ∧ u.seq.phase = .ascending ∧ u.seq.local_ = true ∧ u.seq.step = 1 ∧
    u.seq.stepT = b.clk ∧ u.seq.table = b.seq.next.getD b.seq.table ∧ u.seq.heldOn = none ∧ (∀ x ∈ u.seq.rails, x.enabled =
    false)) ∧
  (∀ (t : Nat) (s : State) (seen : LineSeen), let b := s.advance t; b.unit = .off → b.pwr.vinValid = true → b.pwr.state ≠
    .unpowered → b.seq.phase = .watching → b.seq.watchT + 3 * nsMs ≤ b.clk → seen ≠ .other → Does (.seqWatchEnd t seen) s
    fun u => u.unit = .powerup ∧ u.seq.step = 1 ∧ u.seq.pos = 0 ∧ u.seq.phase = .ascending ∧ u.seq.local_ = (seen ==
    .beacons) ∧ u.seq.pulling = (seen == .idle)) ∧
  (∀ (t : Nat) (s : State), let b := s.advance t; b.unit = .off → b.pwr.vinValid = true → b.pwr.state ≠ .unpowered → seqFlag b
    3 = true → onLine b = true → b.pwr.minOffEnd ≤ b.clk → Does (.systemPowerUpStart t) s fun u => u.unit = .powerup ∧
    u.seq.local_ = false ∧ u.seq.pulling = true ∧ u.seq.pos = 0 ∧ u.seq.step = 1) ∧
  (∀ (t : Nat) (s : State) (f : BitVec 8), let b := s.advance t; b.unit = .powerup → 1 ≤ b.seq.step → b.seq.step < 6 → b.clk ≤
    b.seq.stepT + stepLimit b.seq.step → Does (.powerupStepDone t f) s fun u => u = b.setSeq (fun x =>
    { x with step := b.seq.step + 1 })) ∧
  (∀ (t : Nat) (s : State), let b := s.advance t; b.unit = .powerup → b.seq.step = 6 → b.clk ≤ b.seq.stepT + stepLimit 6 →
    b.seq.phase = .ascending → Does (.powerupStepDone t 0) s fun u => u.unit = .boot ∧ u.seq.step = 0 ∧ u.pwr.bootCause =
    0 ∧ u.mem = [] ∧ u.hpr.epoch = (b.hpr.epoch + 1) % 2 ^ 32 ∧ (∀ x ∈ u.str, x.state = .isolated ∨ x.state = .retired) ∧
    u.red.listenT = b.clk) ∧
  (∀ (t : Nat) (s : State), let b := s.advance t; b.unit = .powerup → b.seq.stepT + stepLimit b.seq.step < b.clk → Does
    (.powerUpFailure t) s fun u => u.unit = .off ∧ u.pwr.aonFault = b.seq.step ∧ u.pwr.minOffEnd = b.clk + 2 * nsS ∧
    u.seq.phase = .idle) ∧
  (∀ (t : Nat) (s : State), let b := s.advance t; b.unit = .boot → b.upd.checked = true → b.red.listenT + 2 * nsS ≤ b.clk →
    bootRole b ≠ .resync → sharedLost b = false → Does (.bootListenEnd t) s fun u => u.unit = bootRole b ∧ b.red.storedClaim
    < u.red.claim ∧ u.red.listenT = b.red.listenT) ∧
  (∀ (t : Nat) (s : State), let b := s.advance t; b.unit = .boot → b.upd.checked = true → b.red.listenT + 2 * nsS ≤ b.clk →
    bootRole b = .resync → sharedLost b = false → Does (.bootListenEnd t) s fun u => u.unit = .resync ∧ u.red.resyncStep =
    1 ∧ u.red.resyncT = b.clk) ∧
  (∀ (t : Nat) (s : State) (h : Nat), let b := s.advance t; 50 ≤ h → h ≤ 2000 → b.unit = .solo → b.seq.phase = .up →
    b.pwr.state ≠ .unpowered → b.seq.preOff = 0 → Does (.pbNPress t h) s fun u => u.seq.phase = .descending ∧ u.seq.preOff =
    1 ∧ u.seq.local_ = !(seqFlag b 2 && onLine b)) ∧
  (∀ (t : Nat) (s : State) (h : Nat), let b := s.advance t; h < 50 ∨ 2000 < h → h < 8000 → b.pwr.state ≠ .unpowered → Does
    (.pbNPress t h) s fun u => u.seq = { b.seq with otherPresses := b.seq.otherPresses + 1 } ∧ u.unit = b.unit) ∧
  (∀ (t : Nat) (s : State), let b := s.advance t; b.unit ≠ .off → b.pwr.state ≠ .unpowered → Does (.forcedOff t) s fun u =>
    u.unit = .off ∧ u.seq.faultCause = 4 ∧ u.pwr.aonFault = 0x200 ∧ u.pwr.minOffEnd = b.clk + 2 * nsS ∧ u.red.beatsOn =
    false) ∧
  (∀ (t : Nat) (s : State), let b := s.advance t; b.unit.isRole = true → Does (.mrN t) s fun u => u.unit = .safeHold ∧
    u.seq.mrLow = true ∧ u.hpr.ready = false) ∧
  (∀ (t : Nat) (s : State), let b := s.advance t; b.seq.mrLow = true → b.unit = .safeHold → sharedLost b = false → Does
    (.mrNRelease t) s fun u => u.unit = .boot ∧ u.seq.mrLow = false ∧ u.pwr.bootCause = 2 ∧ u.mem = b.mem)

/-- A rail of the present state is enabled after its delay and good in its window within t_good, else the system goes off; it is
released and discharged in its descending state; a running rail that leaves its window takes the unit off, at once or 10 us
later where it is fed from the bus; the line steps up and down through the states, turns around at the reverse marker,
beacons every 1 ms while up, and is ignored after a stuck line. -/
def Obligations.RailsAndLine : Prop :=
  (∀ (t : Nat) (s : State) (r : Nat) (e : Bytes), let b := s.advance t; railEntry b r = some e → r < b.seq.rails.length →
    b.seq.phase = .ascending → b.unit ≠ .powerup → b.unit ≠ .off → b.seq.preOff = 0 → enState e = b.seq.pos → (b.railAt
    r).enabled = false → waitsCin b = false → b.seq.posT + enDelayOn e ≤ b.clk → Does (.railStart t r) s fun u => (u.railAt
    r).enabled = true ∧ (u.railAt r).good = false ∧ (u.railAt r).enableT = b.clk ∧ u.str = b.str ∧ (∀ k, k ≠ r → u.railAt k
    = b.railAt k)) ∧
  (∀ (t : Nat) (s : State) (r : Nat) (e : Bytes), let b := s.advance t; railEntry b r = some e → r < b.seq.rails.length →
    (b.railAt r).enabled = true → (b.railAt r).good = false → b.clk ≤ (b.railAt r).enableT + enTGood e → (enAct e = 2 →
    (b.efAt (enIdx e)).pgood = true) → b.seq.phase = .ascending → Does (.railGood t r) s fun u => (u.railAt r).good = true ∧
    (u.railAt r).running = true ∧ u.str = b.str ∧ (∀ k, k ≠ r → u.railAt k = b.railAt k)) ∧
  (∀ (t : Nat) (s : State) (r : Nat) (e : Bytes), let b := s.advance t; railEntry b r = some e → r < b.seq.rails.length →
    b.seq.phase = .ascending → b.unit ≠ .powerup → b.unit ≠ .off → (b.railAt r).enabled = true → (b.railAt r).good = false →
    b.seq.preOff = 0 → (b.railAt r).enableT + enTGood e < b.clk → Does (.startFailure t r) s fun u => u.seq.faultRail = some
    r ∧ u.seq.faultCause = 1 ∧ u.seq.preOff = 1 ∧ u.seq.preOffT = b.clk ∧ u.seq.phase = (if b.seq.local_ then .descending
    else .ascending)) ∧
  (∀ (t : Nat) (s : State) (r : Nat) (e : Bytes), let b := s.advance t; railEntry b r = some e → r < b.seq.rails.length →
    b.seq.phase = .descending → b.seq.preOff = 3 → enState e = b.seq.pos → (b.railAt r).downDone = false → waitsCin b =
    false → (b.railAt r).enabled = true → b.seq.posT + enDelayOff e ≤ b.clk → noDischarge b e = false → 0 < enTDis e → Does
    (.railDischarge t r false) s fun u => (u.railAt r).enabled = false ∧ (u.railAt r).running = false ∧ (u.railAt r).downT =
    b.clk ∧ (u.railAt r).downDone = false ∧ (∀ k, k ≠ r → u.railAt k = b.railAt k)) ∧
  (∀ (t : Nat) (s : State) (r : Nat) (e : Bytes), let b := s.advance t; railEntry b r = some e → r < b.seq.rails.length →
    b.seq.phase = .descending → b.seq.preOff = 3 → enState e = b.seq.pos → (b.railAt r).downDone = false → waitsCin b =
    false → (b.railAt r).enabled = false → Does (.railDischarge t r true) s fun u => (u.railAt r).downDone = true ∧
    (u.railAt r).enabled = false) ∧
  (∀ (t : Nat) (s : State), let b := s.advance t; b.seq.local_ = false → b.seq.pulling = false → b.seq.preOff = 0 →
    b.seq.phase = .ascending → b.unit ≠ .powerup → b.seq.pos < tblTop b.seq.table → Does (.seqStep t) s fun u => u.seq.pos =
    b.seq.pos + 1 ∧ u.seq.posT = b.clk ∧ u.seq.lineT = b.clk ∧ u.seq.phase = .ascending ∧ u.seq.rails = b.seq.rails ∧ u.str
    = b.str) ∧
  (∀ (t : Nat) (s : State), let b := s.advance t; b.seq.local_ = false → b.seq.pulling = false → b.seq.preOff = 0 →
    b.seq.phase = .ascending → b.unit ≠ .powerup → tblTop b.seq.table ≤ b.seq.pos → Does (.seqStep t) s fun u => u.seq =
    { b.seq with phase := .up, beaconT := b.clk }) ∧
  (∀ (t : Nat) (s : State), let b := s.advance t; b.seq.local_ = false → b.seq.pulling = false → b.seq.preOff = 3 →
    b.seq.phase = .descending → 2 ≤ b.seq.pos → Does (.seqStep t) s fun u => u.seq.pos = b.seq.pos - 1 ∧ u.seq.posT =
    b.clk ∧ u.seq.phase = .descending ∧ u.unit = b.unit) ∧
  (∀ (t : Nat) (s : State), let b := s.advance t; b.seq.phase = .ascending → b.seq.local_ = false → b.seq.pulling = false →
    b.unit ≠ .powerup → b.seq.preOff = 0 → Does (.reverseMarker t) s fun u => u.seq.phase = .descending ∧ u.seq.pos =
    b.seq.pos ∧ u.seq.preOff = 1 ∧ u.seq.pulling = true ∧ u.seq.local_ = false ∧ u.unit = b.unit) ∧
  (∀ (t : Nat) (s : State), let b := s.advance t; b.seq.phase = .up → onLine b = true → b.seq.beaconT + nsMs ≤ b.clk → Does
    (.upBeacon t) s fun u => u = b.setSeq (fun x => { x with beaconT := b.clk })) ∧
  (∀ (t : Nat) (s : State), let b := s.advance t; onLine b = true → b.seq.ignoring = false → b.unit ≠ .off → b.unit ≠
    .powerup → b.seq.phase = .up → b.seq.preOff = 0 → Does (.systemPowerDownStart t) s fun u => u.seq.phase = .descending ∧
    u.seq.pos = tblTop b.seq.table ∧ u.seq.preOff = 1 ∧ u.seq.preOffT = b.clk ∧ u.seq.local_ = false ∧ u.unit = b.unit) ∧
  (∀ (t : Nat) (s : State), let b := s.advance t; b.seq.local_ = false → b.seq.phase = .ascending ∨ b.seq.phase =
    .descending → b.seq.pos ≠ 0 → b.seq.lineT + tStateMax b ≤ b.clk → b.unit ≠ .powerup → b.seq.preOff = 0 → Does
    (.stuckLine t) s fun u => u.seq.ignoring = true ∧ u.seq.pulling = false ∧ u.seq.local_ = true ∧ u.seq.phase =
    .descending ∧ u.seq.faultCause = 3 ∧ u.seq.preOff = 1) ∧
  (∀ (t : Nat) (s : State), let b := s.advance t; b.seq.phase = .ascending → waitsCin b = true → b.seq.lineT + 2 * nsUs ≤
    b.clk → Does (.seqCinHigh t) s fun u => u.seq.cin = true ∧ u.seq.posT = b.clk ∧ u.seq.pos = b.seq.pos ∧ u.seq.rails =
    b.seq.rails) ∧
  (∀ (t : Nat) (s : State), let b := s.advance t; b.seq.preOff = 1 → b.seq.pendingLocal = false → b.unit.commands = true →
    b.allOpen = false → Does (.preOffSteps t) s fun u => u.seq = { b.seq with preOff := 2 } ∧ u.str = b.str ∧ (∀ i, i <
    b.strings → i < b.conv.length → (b.strAt i).state = .regulating → (u.convAt i).rampStop = true ∧ (u.convAt i).rampThen =
    some ((b.convAt i).rampThen.getD .connected))) ∧
  (∀ (t : Nat) (s : State), let b := s.advance t; b.seq.preOff = 2 → b.seq.preOffT + 60 * nsMs ≤ b.clk → b.seq.phase =
    .ascending → Does (.preOffDisconnect t) s fun u => u.seq.preOff = 3 ∧ u.seq.posT = b.clk ∧ u.unit = b.unit ∧ (∀ i, i <
    b.strings → i < b.conv.length → (b.strAt i).state = .connected ∨ (b.strAt i).state = .regulating → (u.convAt i).running
    = false ∧ (u.convAt i).rampThen = some .isolated)) ∧
  (∀ (t : Nat) (s : State) (r : Nat) (e : Bytes), let b := s.advance t; railEntry b r = some e → r < b.seq.rails.length →
    (b.railAt r).running = true → b.unit ≠ .off → heldKind e = false → b.seq.phase ≠ .descending → Does (.runningRailFault t
    r) s fun u => u.unit = .off ∧ u.seq.faultRail = some r ∧ u.seq.faultCause = 2 ∧ u.pwr.aonFault = 0x100 + r ∧
    u.pwr.minOffEnd = b.clk + 2 * nsS ∧ u.red.beatsOn = false) ∧
  (∀ (t : Nat) (s : State) (r : Nat) (e : Bytes), let b := s.advance t; railEntry b r = some e → r < b.seq.rails.length →
    (b.railAt r).running = true → b.unit ≠ .off → b.pwr.state ≠ .holdup → heldKind e = true → b.seq.phase ≠ .descending →
    Does (.runningRailFault t r) s fun u => (u.railAt r).faultHold = some b.clk ∧ u.unit = b.unit ∧ u.str = b.str ∧ (∀ k, k
    ≠ r → u.railAt k = b.railAt k)) ∧
  (∀ (t : Nat) (s : State) (r : Nat), let b := s.advance t; b.unit ≠ .off → heldFor b (b.railAt r).faultHold (10 * nsUs) =
    true → Does (.railFaultHoldEnd t r) s fun u => if b.pwr.state = .holdup then (u.railAt r).faultHold = none ∧ u.unit =
    b.unit else u.unit = .off ∧ u.seq.faultRail = some r ∧ u.pwr.aonFault = 0x100 + r)

/-- TIM_SET_CONFIG stores a configuration whose fields are in range; TIM_SET_TIME steps the time in FREERUN with no source
enabled and no string in PRECHARGE or REGULATING; TIM_SET_TRIGGER arms a user trigger, TIM_SET_CAPTURE programs a capture,
TIM_READ_CAPTURE takes entries out of its FIFO, TIM_GET_TRIGGER reads a trigger, and TIM_DELEGATE gives user resources to
APP or takes them back. -/
def Obligations.TimeCommands : Prop :=
  (∀ (s : State) (q : Req), Taken s q → s.unit.isRole = true ∨ s.unit = .safeHold ∨ s.unit = .recovery → q.payload.length =
    32 → badField timFields q.payload = none → Does (.timSetConfig q) s fun u => Answered u q 0x0D03 stOk 0 [] ∧ u.tsu.cfg =
    q.payload ∧ u.tsu.now = s.tsu.now ∧ u.tsu.trig = s.tsu.trig ∧ u.str = s.str) ∧
  (∀ (s : State) (q : Req), Taken s q → s.unit.isRole = true ∨ s.unit = .safeHold → q.payload.length = 12 → s.tsu.sync =
    .freerun → getU (timCfg s) 2 1 = 0 → stepConflict s = none → getU q.payload 8 4 < nsS → Does (.timSetTime q) s fun u =>
    Answered u q 0x0D05 stOk 0 [] ∧ u.tsu.now = getU q.payload 0 8 * nsS + getU q.payload 8 4 ∧ u.tsu.frac = 0 ∧
    u.tsu.stepCnt = (s.tsu.stepCnt + 1) % 65536 ∧ u.tsu.stepped = true ∧ u.clk = s.clk ∧ u.str = s.str) ∧
  (∀ (s : State) (q : Req) (n : Nat), Taken s q → AnyRole s → q.payload.length = 28 → getU q.payload 0 1 = n → 8 ≤ n → n <
    16 → n < s.tsu.trig.length → getU q.payload 1 1 < 16 → (getU q.payload 1 1).testBit 0 = true → getU q.payload 2 2 = 0 →
    getU q.payload 12 4 < nsS → getU q.payload 18 2 = 0 → getU q.payload 20 8 < 2 ^ 40 → s.tsu.own.getLsbD n = false →
    s.tsu.now < getU q.payload 4 8 * nsS + getU q.payload 12 4 → (s.tsu.trigAt n).firedT = none ∨ getU q.payload 20 8 ≠ 0 →
    Does (.timSetTrigger q) s fun u => Answered u q 0x0D06 stOk 0 [] ∧ (u.tsu.trigAt n).arm = true ∧ (u.tsu.trigAt n).at_ =
    getU q.payload 4 8 * nsS + getU q.payload 12 4 ∧ (u.tsu.trigAt n).frac = getU q.payload 16 2 ∧ (u.tsu.trigAt n).period =
    getU q.payload 20 8 ∧ (u.tsu.trigAt n).count = 0 ∧ (u.tsu.trigAt n).icu = (getU q.payload 1 1).testBit 2 ∧ (u.tsu.trigAt
    n).le = (getU q.payload 1 1).testBit 3 ∧ (∀ k, k ≠ n → u.tsu.trigAt k = s.tsu.trigAt k)) ∧
  (∀ (s : State) (q : Req) (n : Nat), Taken s q → s.unit.isRole = true ∨ s.unit = .safeHold → q.payload.length = 1 → getU
    q.payload 0 1 = n → 8 ≤ n → n < 16 → Does (.timGetTrigger q) s fun u => Answered u q 0x0D07 stOk 0 (trigBytes s n) ∧
    HostOnly s u) ∧
  (∀ (s : State) (q : Req) (n : Nat), Taken s q → AnyRole s → q.payload.length = 8 → getU q.payload 0 1 = n → 2 ≤ n → n < 16 →
    n < s.tsu.cap.length → s.tsu.own.getLsbD (16 + n) = false → getU q.payload 1 1 = 0 → getU q.payload 2 2 = 0 → getU
    q.payload 4 4 / 2 % 4 ≠ 0 → getU q.payload 4 4 / 8 % 32 ≤ 29 → (getU q.payload 4 4).testBit 14 = false → (getU q.payload
    4 4).testBit 15 = false → Does (.timSetCapture q) s fun u => Answered u q 0x0D08 stOk 0 [] ∧ (u.tsu.capAt n).en = (getU
    q.payload 4 4).testBit 0 ∧ (u.tsu.capAt n).edge = getU q.payload 4 4 / 2 % 4 ∧ (u.tsu.capAt n).src = some (getU
    q.payload 4 4 / 8 % 32) ∧ (u.tsu.capAt n).icu = (getU q.payload 4 4).testBit 10 ∧ (u.tsu.capAt n).filt = getU q.payload
    4 4 / 65536 % 65536 ∧ (∀ k, k ≠ n → u.tsu.capAt k = s.tsu.capAt k)) ∧
  (∀ (s : State) (q : Req) (n k : Nat), Taken s q → s.unit.isRole = true ∨ s.unit = .safeHold → q.payload.length = 2 → getU
    q.payload 0 1 = n → getU q.payload 1 1 = k → n < 16 → n < s.tsu.cap.length → 1 ≤ k → k ≤ 4 → s.tsu.own.getLsbD (16 + n)
    = false → Does (.timReadCapture q) s fun u => Answered u q 0x0D09 stOk 0 (((s.tsu.capAt n).fifo.take k).flatMap
    capBytes) ∧ (u.tsu.capAt n).fifo = (s.tsu.capAt n).fifo.drop k ∧ (∀ k, k ≠ n → u.tsu.capAt k = s.tsu.capAt k)) ∧
  (∀ (s : State) (q : Req), Taken s q → AnyRole s → q.port ≠ .app → q.payload.length = 5 → getU q.payload 0 2 % 256 = 0 → getU
    q.payload 2 2 % 4 = 0 → getU q.payload 4 1 ≤ 1 → busyResource s (delegMask q.payload) = none → Does (.timDelegate q) s
    fun u => Answered u q 0x0D0A stOk 0 [] ∧ u.tsu =
    { s.tsu with own := if getU q.payload 4 1 = 1 then s.tsu.own ||| delegMask q.payload else s.tsu.own &&& ~~~ delegMask q.payload })

/-- An armed trigger fires at its instant, a one-shot once and a periodic one again a period later; a counted edge is put into
its FIFO, or lost with OVF where the FIFO is full; snapshot, event bits, capture pop and trigger control act on their own
register only. An Announce makes a port a source and its silence ends it: LOCKED becomes HOLDOVER, HOLDOVER in time FREERUN;
the servo is LOCKED after 16 updates within 100 ns, LOCKING after 3 beyond 1 us, and steps only where no string forbids it. -/
def Obligations.TimeEvents : Prop :=
  (∀ (t : Nat) (s : State) (n : Nat), let b := s.advance t; n < 16 → n < b.tsu.trig.length → tsuRuns b = true → (b.tsu.trigAt
    n).arm = true → (b.tsu.trigAt n).at_ ≤ b.tsu.now → Does (.triggerFire t n) s fun u => (u.tsu.trigAt n).arm = decide
    ((b.tsu.trigAt n).period ≠ 0) ∧ (u.tsu.trigAt n).at_ = (b.tsu.trigAt n).at_ + (b.tsu.trigAt n).period ∧ (u.tsu.trigAt
    n).count = ((b.tsu.trigAt n).count + 1) % 2 ^ 32 ∧ (u.tsu.trigAt n).late = (b.tsu.trigAt n).late ∧ u.tsu.evt = b.tsu.evt
    ||| BitVec.twoPow 32 n ∧ u.tsu.ppsOuts = (if n = 4 then b.tsu.ppsOuts + 1 else b.tsu.ppsOuts) ∧ u.str = b.str ∧ (∀ k, k
    ≠ n → u.tsu.trigAt k = b.tsu.trigAt k)) ∧
  (∀ (t : Nat) (s : State) (n f l : Nat) (r : Bool), let b := s.advance t; n < 16 → n ≠ 1 → n < b.tsu.cap.length → tsuRuns b =
    true → edgeCounts b n r l = true → (b.tsu.capAt n).fifo.length < 4 → Does (.captureEdge t n r f l) s fun u =>
    (u.tsu.capAt n).fifo = (b.tsu.capAt n).fifo ++ [⟨b.tsu.now, f % 65536, b.tsu.stepCnt % 65536⟩] ∧ (u.tsu.capAt n).ovf =
    (b.tsu.capAt n).ovf ∧ (u.tsu.capAt n).count = ((b.tsu.capAt n).count + 1) % 2 ^ 32 ∧ u.tsu.evt = b.tsu.evt |||
    BitVec.twoPow 32 (16 + n) ∧ u.str = b.str ∧ (∀ k, k ≠ n → u.tsu.capAt k = b.tsu.capAt k)) ∧
  (∀ (t : Nat) (s : State) (n f l : Nat) (r : Bool), let b := s.advance t; n < 16 → n ≠ 1 → n < b.tsu.cap.length → tsuRuns b =
    true → edgeCounts b n r l = true → 4 ≤ (b.tsu.capAt n).fifo.length → Does (.captureEdge t n r f l) s fun u =>
    (u.tsu.capAt n).fifo = (b.tsu.capAt n).fifo ∧ (u.tsu.capAt n).ovf = true ∧ (u.tsu.capAt n).count = ((b.tsu.capAt
    n).count + 1) % 2 ^ 32 ∧ (∀ k, k ≠ n → u.tsu.capAt k = b.tsu.capAt k)) ∧
  (∀ (t : Nat) (s : State) (v : BitVec 32), let b := s.advance t; v.getLsbD 0 = true → Does (.tsuSnapWrite t v) s fun u => u =
    b.setTsu (fun x => { x with snap := x.now, snapFrac := x.frac })) ∧
  (∀ (t : Nat) (s : State) (v : BitVec 32), let b := s.advance t; Does (.tsuEvtClear t false v) s fun u => u = b.setTsu (fun x
    => { x with evt := x.evt &&& ~~~ (v &&& ~~~ eventNow b) })) ∧
  (∀ (t : Nat) (s : State) (v : BitVec 32), let b := s.advance t; v &&& b.tsu.own = v → Does (.tsuEvtClear t true v) s fun u
    => u = b.setTsu (fun x => { x with evt := x.evt &&& ~~~ (v &&& ~~~ eventNow b) })) ∧
  (∀ (t : Nat) (s : State) (app : Bool) (n : Nat) (v : BitVec 32), let b := s.advance t; n < 16 → n < b.tsu.trig.length →
    hostServed b = true → tsuMay b app n = true → v.getLsbD 0 = false → Does (.tsuTrgCtrlWrite t app n v) s fun u =>
    (u.tsu.trigAt n).arm = false ∧ (u.tsu.trigAt n).icu = v.getLsbD 2 ∧ (u.tsu.trigAt n).le = (decide (n < 8) || v.getLsbD
    3) ∧ (u.tsu.trigAt n).at_ = (b.tsu.trigAt n).at_ ∧ (u.tsu.trigAt n).period = (b.tsu.trigAt n).period ∧ (∀ k, k ≠ n →
    u.tsu.trigAt k = b.tsu.trigAt k)) ∧
  (∀ (t : Nat) (s : State) (n : Nat) (v : BitVec 32), let b := s.advance t; n < 16 → hostServed b = true → b.tsu.own.getLsbD n
    = false → Does (.tsuTrgCtrlWrite t true n v) s fun u => u.tsu = { b.tsu with accErr := true } ∧ u.str = b.str) ∧
  (∀ (t : Nat) (s : State) (app : Bool) (n : Nat), let b := s.advance t; n < 16 → n < b.tsu.cap.length → hostServed b = true →
    tsuMay b app (16 + n) = true → Does (.tsuCapPop t app n) s fun u => (u.tsu.capAt n).fifo = (b.tsu.capAt n).fifo.drop 1 ∧
    u.tsu.evt = b.tsu.evt ∧ (∀ k, k ≠ n → u.tsu.capAt k = b.tsu.capAt k)) ∧
  (∀ (t : Nat) (s : State) (p d : Nat) (o : Int), let b := s.advance t; ptpTakes b p = true → p < b.tsu.ports.length → d =
    getU (timCfg b) 0 1 → (b.tsu.portAt p).master.isSome = true → Does (.syncMessage t p d o) s fun u => (u.tsu.portAt
    p).offset = o ∧ (u.tsu.portAt p).offsetKnown = true ∧ u.tsu.portAt (1 - p) = b.tsu.portAt (1 - p) ∧ u.tsu.now =
    b.tsu.now) ∧
  (∀ (t : Nat) (s : State) (p d : Nat) (o : Int), let b := s.advance t; ptpTakes b p = true → p < b.tsu.ports.length → d ≠
    getU (timCfg b) 0 1 → Does (.syncMessage t p d o) s fun u => (u.tsu.portAt p).ignored = (b.tsu.portAt p).ignored + 1 ∧
    (u.tsu.portAt p).offset = (b.tsu.portAt p).offset) ∧
  (∀ (t : Nat) (s : State) (p d : Nat) (m : Master), let b := s.advance t; ptpTakes b p = true → p < b.tsu.ports.length → d =
    getU (timCfg b) 0 1 → b.tsu.src = none → ptpCandidate b (1 - p) = false → Does (.announce t p d m) s fun u =>
    (u.tsu.portAt p).master = some m ∧ (u.tsu.portAt p).announceT = b.clk ∧ u.tsu.src = some (portSource p) ∧ u.tsu.sync =
    .locking ∧ u.tsu.now = b.tsu.now) ∧
  (∀ (t : Nat) (s : State) (p : Nat), let b := s.advance t; p < 2 → p < b.tsu.ports.length → (b.tsu.portAt p).master.isSome =
    true → (b.tsu.portAt p).announceT + 3 * nsS ≤ b.clk → b.tsu.src = some (portSource p) → b.tsu.sync = .locked →
    ptpCandidate b (1 - p) = false → Does (.announceTimeout t p) s fun u => (u.tsu.portAt p).master = none ∧ u.tsu.src =
    none ∧ u.tsu.sync = .holdover ∧ u.tsu.holdT = b.clk ∧ u.tsu.slew = 0) ∧
  (∀ (t : Nat) (s : State) (p d c : Nat), let b := s.advance t; ptpTakes b p = true → p < b.tsu.ports.length → d = getU
    (timCfg b) 0 1 → Does (.pdelayReq t p d c) s fun u => (u.tsu.portAt p).responses = (b.tsu.portAt p).responses + 1 ∧
    (u.tsu.portAt p).lastCorrection = c) ∧
  (∀ (t : Nat) (s : State) (p d : Nat), let b := s.advance t; ptpTakes b p = true → p < b.tsu.ports.length → Does
    (.pdelayMeasurement t p d) s fun u => (u.tsu.portAt p).delay = d ∧ (u.tsu.portAt p).master = (b.tsu.portAt p).master) ∧
  (∀ (t : Nat) (s : State) (x : TimeSource) (o : Int), let b := s.advance t; tsuRuns b = true → b.tsu.src = some x →
    b.tsu.sync = .locking → absI o ≤ 100 → b.tsu.inLimit = 15 → Does (.servoUpdate t x o) s fun u => u.tsu.sync = .locked ∧
    u.tsu.src = some x ∧ u.tsu.converging = false) ∧
  (∀ (t : Nat) (s : State) (x : TimeSource) (o : Int), let b := s.advance t; tsuRuns b = true → b.tsu.src = some x →
    b.tsu.sync = .locked → 1000 < absI o → b.tsu.overLimit = 2 → Does (.servoUpdate t x o) s fun u => u.tsu.sync =
    .locking ∧ u.tsu.slew = o ∧ u.tsu.now = b.tsu.now) ∧
  (∀ (t : Nat) (s : State) (x : TimeSource) (o : Int), let b := s.advance t; tsuRuns b = true → b.tsu.src = some x →
    b.tsu.sync = .locking → (getU (timCfg b) 16 4 * nsUs : Nat) < absI o → Does (.servoUpdate t x o) s fun u => if mayStep b
    = true then u.tsu.now = ((b.tsu.now : Int) - o).toNat ∧ u.tsu.stepCnt = (b.tsu.stepCnt + 1) % 65536 ∧ u.tsu.stepped =
    true else u.tsu.now = b.tsu.now ∧ u.tsu.stepCnt = b.tsu.stepCnt ∧ u.tsu.slew = o) ∧
  (∀ (t : Nat) (s : State), let b := s.advance t; b.tsu.sync = .holdover → b.tsu.holdT + getU (timCfg b) 20 4 * nsS ≤ b.clk →
    Does (.holdoverExpiry t) s fun u => u = b.setTsu (fun x => { x with sync := .freerun })) ∧
  (∀ (t : Nat) (s : State), let b := s.advance t; tsuRuns b = true → sourceOn b 1 = true → getU (timCfg b) 26 2 ≤ b.tsu.now →
    b.tsu.src = none → (b.tsu.now - getU (timCfg b) 26 2) % nsS ≤ 100 * nsMs → Does (.ppsInEdge t) s fun u => u.tsu.src =
    some .pps ∧ u.tsu.sync = .locking ∧ u.tsu.ppsDiscards = b.tsu.ppsDiscards) ∧
  (∀ (t : Nat) (s : State), let b := s.advance t; tsuRuns b = true → sourceOn b 1 = true → 100 * nsMs < (b.tsu.now - getU
    (timCfg b) 26 2) % nsS → (b.tsu.now - getU (timCfg b) 26 2) % nsS < 900 * nsMs → Does (.ppsInEdge t) s fun u => u =
    b.setTsu (fun x => { x with ppsDiscards := x.ppsDiscards + 1 }))

/-- SYS_WIN_ALLOC hands a buffer of whole 4 KiB in the pool of the issuing port and a free descriptor to its caller, which
SYS_WIN_FREE gives back; SYS_SET_SLOTS distributes the slots; SYS_RESTART, with no string connected, answers and enters
BOOT. A write of 1 to an own word gives a buffer to the device, and any other is refused with OWN_ERR. -/
def Obligations.WindowSlotsRestart : Prop :=
  (∀ (s : State) (q : Req) (d o : Nat), Taken s q → s.unit.isRole = true ∨ s.unit = .safeHold ∨ s.unit = .recovery →
    q.payload.length = 4 → 4096 ≤ allocSize q → allocSize q ≤ 0x1000000 → firstFit s q.port (allocSize q) = some o →
    freeDesc s = some d → s.hpr.desc.length = 256 → Does (.sysWinAlloc q) s fun u => Answered u q 0x010D stOk 0 (leU 2 d ++
    [0, 0] ++ leU 4 o ++ leU 4 (allocSize q)) ∧ u.desc d =
    { own := false, kind := 1, requester := portCode q.port, gen := ((s.desc d).gen + 1) % 65536, offset := o, size := allocSize q, used := 0, opcode := 0x010D, seq := q.seq } ∧
    (∀ k, k ≠ d → u.desc k = s.desc k) ∧ HostOnly s u) ∧
  (∀ (s : State) (q : Req) (d : Nat), Taken s q → s.unit.isRole = true ∨ s.unit = .safeHold ∨ s.unit = .recovery →
    q.payload.length = 2 → getU q.payload 0 2 = d → d < 256 → s.hpr.desc.length = 256 → (s.desc d).kind = 2 ∨ (s.desc
    d).kind = 1 ∧ (s.desc d).own = false → (s.desc d).requester = portCode q.port → Does (.sysWinFree q) s fun u => Answered
    u q 0x010E stOk 0 [] ∧ u.desc d = { gen := (s.desc d).gen } ∧ (∀ k, k ≠ d → u.desc k = s.desc k) ∧ HostOnly s u) ∧
  (∀ (s : State) (q : Req) (v : Nat), Taken s q → AnyRole s ∨ s.unit = .safeHold → q.port ≠ .app → q.payload.length = 4 → getU
    q.payload 0 4 = v → (∀ n ∈ List.range 16, slotField v n ≠ 3) → (∃ n ∈ List.range 16, slotField v n = 0) → (∀ n ∈
    List.range 16, slotField v n = slotField s.hpr.slotPort.toNat n ∨ slotFree s n = true) → Does (.sysSetSlots q) s fun u
    => Answered u q 0x010F stOk 0 [] ∧ u.hpr.slotPort = BitVec.ofNat 32 v ∧ HostOnly s u) ∧
  (∀ (s : State) (q : Req), Taken s q → s.unit.isRole = true ∨ s.unit = .safeHold ∨ s.unit = .recovery → q.port ≠ .app →
    q.payload.length = 0 → (s.unit.commands = true → openConflict s = none) → Does (.sysRestart q) s fun u => Answered u q
    0x0104 stOk 0 [] ∧ u.unit = .boot ∧ u.pwr.bootCause = 1 ∧ u.hpr.epoch = (s.hpr.epoch + 1) % 2 ^ 32 ∧ u.hpr.order = [] ∧
    u.red.listenT = s.clk ∧ u.canRam = s.canRam) ∧
  (∀ (t : Nat) (s : State) (p : Port) (d : Nat), let b := s.advance t; hostServed b = true → d < 256 → b.hpr.desc.length =
    256 → (b.desc d).kind = 1 → (b.desc d).requester = portCode p → (b.desc d).own = false → Does (.descriptorOwnWrite t p d
    1 false) s fun u => u.desc d = { b.desc d with own := true } ∧ (∀ k, k ≠ d → u.desc k = b.desc k) ∧ u.mem = b.mem ∧
    u.hpr.err = b.hpr.err) ∧
  (∀ (t : Nat) (s : State) (p : Port) (d v : Nat), let b := s.advance t; hostServed b = true → d < 256 → (b.desc d).kind ≠ 1 ∨
    (b.desc d).requester ≠ portCode p ∨ (b.desc d).own = true ∨ v ≠ 1 → Does (.descriptorOwnWrite t p d v false) s fun u =>
    u.hpr.err = b.hpr.err ||| 4 ∧ u.hpr.desc = b.hpr.desc ∧ u.mem = b.mem) ∧
  (∀ (t : Nat) (s : State) (p : Port) (d v : Nat), let b := s.advance t; hostServed b = true → d < 256 → Does
    (.descriptorOwnWrite t p d v true) s fun u => u.hpr.err = b.hpr.err ||| 6 ∧ u.hpr.desc = b.hpr.desc ∧ u.mem = b.mem)

/-- A READ gives what the slots, the window or an HPR register hold, and zeros with ADDR_ERR from an unmapped address; a WRITE
reaches a slot that is HOST and not owned by the device, and changes no other byte; a doorbell hands a slot to the device,
unless it has it already; SLOT_TAKE takes the first in doorbell order; DONE, ERR, the heartbeat and writes of single
registers act as the register table says. -/
def Obligations.QspiAndRegisters : Prop :=
  (∀ (t : Nat) (s : State) (a : Nat), let b := s.advance t; hostServed b = true → a < 0x800 → a % 4 = 0 → Does (.qspiRead t a
    4) s fun u => u = b.setHpr (fun h => { h with readData := leU 4 (hprWord b a) })) ∧
  (∀ (t : Nat) (s : State) (a n : Nat), let b := s.advance t; hostServed b = true → 0x1000 ≤ a → a + n ≤ 0x2000 → n ≤ 4096 →
    Does (.qspiRead t a n) s fun u => u = b.setHpr (fun h => { h with readData := memReads b.mem a n })) ∧
  (∀ (t : Nat) (s : State) (a n : Nat), let b := s.advance t; hostServed b = true → 0x04000000 ≤ a → a + n ≤ 0x08000000 → n ≤
    4096 → Does (.qspiRead t a n) s fun u => u.hpr.readData = winBytes b (a - windowBase) n ∧ u.mem = b.mem ∧ u.hpr.desc =
    b.hpr.desc ∧ u.hpr.err = b.hpr.err) ∧
  (∀ (t : Nat) (s : State) (a n : Nat), let b := s.advance t; hostServed b = true → regionEnd a = none → n ≤ 4096 → Does
    (.qspiRead t a n) s fun u => u.hpr.readData = List.replicate n 0 ∧ u.hpr.err = b.hpr.err ||| 1 ∧ u.mem = b.mem) ∧
  (∀ (t : Nat) (s : State) (a n : Nat) (x : List Byte), let b := s.advance t; hostServed b = true → MemOk b → n < 16 → 0x1000
    + 256 * n ≤ a → a + x.length ≤ 0x1000 + 256 * (n + 1) → slotPort b n = .host → b.hpr.own.getLsbD n = false → Does
    (.qspiWrite t a x false) s fun u => memReads u.mem a x.length = x ∧ u = { b with mem := u.mem }) ∧
  (∀ (t : Nat) (s : State) (a n m : Nat) (x : List Byte), 0x1000 + 256 * n ≤ a → a + x.length ≤ 0x1000 + 256 * (n + 1) → n <
    16 → m < a ∨ a + x.length ≤ m → Does (.qspiWrite t a x false) s fun u => memRead u.mem m = memRead s.mem m) ∧
  (∀ (t : Nat) (s : State) (a n : Nat) (x : List Byte), let b := s.advance t; hostServed b = true → n < 16 → 0x1000 + 256 * n
    ≤ a → a + x.length ≤ 0x1000 + 256 * (n + 1) → x ≠ [] → slotPort b n ≠ .host ∨ b.hpr.own.getLsbD n = true → Does
    (.qspiWrite t a x false) s fun u => u.mem = b.mem ∧ u.hpr.err = b.hpr.err ||| 4) ∧
  (∀ (t : Nat) (s : State) (v : BitVec 32), let b := s.advance t; hostServed b = true → Does (.qspiWrite t 0x28 (leU 4
    v.toNat) false) s fun u => u = b.setHpr (fun h => { h with scratch := v })) ∧
  (∀ (t : Nat) (s : State), let b := s.advance t; hostServed b = true → Does (.qspiStatus t) s fun u => u = b.setHpr (fun h =>
    { h with statusByte := statusByte b })) ∧
  (∀ (t : Nat) (s : State) (p : Port) (n : Nat), let b := s.advance t; hostServed b = true → n < 16 → slotPort b n = p →
    b.hpr.own.getLsbD n = false → Does (.hprDoorbellWrite t p (BitVec.twoPow 16 n)) s fun u => u = b.setHpr (fun h =>
    { h with own := h.own ||| BitVec.twoPow 16 n, done := h.done &&& ~~~ BitVec.twoPow 16 n, order := h.order ++ [n] })) ∧
  (∀ (t : Nat) (s : State) (p : Port) (n : Nat), let b := s.advance t; hostServed b = true → n < 16 → slotPort b n ≠ p ∨
    b.hpr.own.getLsbD n = true → Does (.hprDoorbellWrite t p (BitVec.twoPow 16 n)) s fun u => u.hpr.err = b.hpr.err ||| 8 ∧
    u.hpr.own = b.hpr.own ∧ u.hpr.order = b.hpr.order ∧ u.mem = b.mem) ∧
  (∀ (t : Nat) (s : State) (n : Nat) (r : List Nat), let b := s.advance t; takes b = true → b.hpr.waiting = [] → b.hpr.order =
    n :: r → byOpcode (envelopeAt b n).1 = none → Does (.slotTake t) s fun u => Answered u (envelopeAt b n).2 (envelopeAt b
    n).1 stBadOpcode 0 [] ∧ u.hpr.order = r ∧ u.str = b.str) ∧
  (∀ (t : Nat) (s : State) (n : Nat) (r : List Nat) (run : Req → State → Machine.Out State), takes (s.advance t) = true →
    s.hpr.waiting = [] → s.hpr.order = n :: r → byOpcode (envelopeAt s n).1 = some run → ∃ u, exec (.slotTake t) s = .next
    u ∧ run (envelopeAt s n).2 ((s.advance t).setHpr fun h => { h with order := r }) = .next u) ∧
  (∀ (t : Nat) (s : State) (m : BitVec 16), let b := s.advance t; hostServed b = true → Does (.hprDoneClear t .host m) s fun u
    => u = b.setHpr (fun h => { h with done := h.done &&& ~~~ m })) ∧
  (∀ (t : Nat) (s : State) (m : BitVec 32), let b := s.advance t; hostServed b = true → Does (.hprErrClear t m) s fun u => u =
    b.setHpr (fun h => { h with err := h.err &&& ~~~ (m.setWidth 5) })) ∧
  (∀ (t : Nat) (s : State), let b := s.advance t; hostServed b = true → b.hpr.handover = false → b.pwr.supLost = false →
    timeRuns b = true → b.clockLost .sys = false → b.pwr.state ≠ .dormant → b.pwr.state ≠ .retention → Does (.hprHbTick t) s
    fun u => u = b.setHpr (fun h => { h with hb := (h.hb + 1) % 2 ^ 32 })) ∧
  (∀ (t : Nat) (s : State) (f : Nat) (v : BitVec 32), let b := s.advance t; hostServed b = true → f % 4 = 0 → f < 0x800 → Does
    (.registerWrite t .host (.hpr f) v) s fun u => u = hostWrite b f v) ∧
  (∀ (t : Nat) (s : State) (f : Nat) (v : BitVec 32), let b := s.advance t; hostServed b = true → appRuns b = true → f ≠
    0x10 → f ≠ 0x18 → f ≠ 0x20 → Does (.registerWrite t .app (.hpr f) v) s fun u => u = b.setApp (fun a =>
    { a with accessFaults := a.accessFaults + 1 })) ∧
  (∀ (t : Nat) (s : State) (f : Nat) (v : BitVec 32), let b := s.advance t; hostServed b = true → Does (.registerWrite t .sup
    (.tsu f) v) s fun u => u = tsuWrite b false f v) ∧
  (∀ (t : Nat) (s : State) (f : Nat) (v : BitVec 32), let b := s.advance t; hostServed b = true → Does (.registerWrite t .host
    (.icu .host f) v) s fun u => u = icuWrite b .host f v) ∧
  (∀ (t : Nat) (s : State) (c f : Nat) (v : BitVec 32), let b := s.advance t; hostServed b = true → c < 4 → Does
    (.registerWrite t .sup (.can c f) v) s fun u => u = canWrite b false c f v)

/-- A frame that fails its checks is only counted; one of an old epoch is answered with ERROR 1; an accepted REQUEST enters a
free MGMT slot and is posted, or waits where there is none, and after 100 ms of waiting is answered RESOURCE; WIN_READ
answers the bytes of the window, and WIN_WRITE writes a buffer of MGMT that it owns; WAKE wakes a DORMANT unit. -/
def Obligations.ManagementTransport : Prop :=
  (∀ (t : Nat) (s : State) (net src : Nat) (f : List Byte), let b := s.advance t; mgmtServed b net = true → mgmtCheck b net
    src f = .discarded → b.hpr.waiting = [] → Does (.mgmtRequest t net src f) s fun u => u = b.setHpr (fun h =>
    { h with mgmtDiscards := h.mgmtDiscards + 1 })) ∧
  (∀ (t : Nat) (s : State) (net src k : Nat) (f : List Byte), let b := s.advance t; mgmtServed b net = true → mgmtCheck b net
    src f = .stale k → b.hpr.waiting = [] → Does (.mgmtRequest t net src f) s fun u => u.hpr.mgmtTx =
    { net := net, client := k, type := 8, body := leU 2 1 ++ [0, 0] ++ leU 4 b.hpr.epoch } :: b.hpr.mgmtTx ∧ u.hpr.order =
    b.hpr.order ∧ u.mem = b.mem) ∧
  (∀ (t : Nat) (s : State) (net src k tseq : Nat) (f body : List Byte), let b := s.advance t; mgmtServed b net = true →
    mgmtCheck b net src f = .accepted k 1 tseq body → k < b.hpr.clients.length → b.hpr.waiting = [] → MemOk b → body.length
    = 16 + getU body 4 2 → getU body 4 2 ≤ 240 → (freeMgmtSlot b).isSome = true → Does (.mgmtRequest t net src f) s fun u =>
    (u.hpr.clients.getD k {}).rxSeq = tseq ∧ u.hpr.order = b.hpr.order ++ [(freeMgmtSlot b).getD 0] ∧ u.hpr.own = b.hpr.own
    ||| BitVec.twoPow 16 ((freeMgmtSlot b).getD 0) ∧ u.hpr.waiting = [] ∧ memReads u.mem (slotAddr ((freeMgmtSlot b).getD
    0)) 8 = body.take 8) ∧
  (∀ (t : Nat) (s : State) (net src k tseq : Nat) (f body : List Byte), let b := s.advance t; mgmtServed b net = true →
    mgmtCheck b net src f = .accepted k 1 tseq body → k < b.hpr.clients.length → b.hpr.waiting = [] → body.length = 16 +
    getU body 4 2 → getU body 4 2 ≤ 240 → freeMgmtSlot b = none → Does (.mgmtRequest t net src f) s fun u =>
    (u.hpr.clients.getD k {}).rxSeq = tseq ∧ u.hpr.waiting = [{ client := k, net := net, body := body, since := b.clk }] ∧
    u.hpr.order = b.hpr.order ∧ u.mem = b.mem) ∧
  (∀ (t : Nat) (s : State) (w : MgmtWait) (r : List MgmtWait), let b := s.advance t; b.hpr.waiting = w :: r → w.since + 100 *
    nsMs ≤ b.clk → Does (.mgmtWaitTimeout t) s fun u => u = mgmtResource (b.setHpr (fun h => { h with waiting := r })) w.net
    w.client w.body ∧ u.hpr.waiting = r ∧ u.hpr.mgmtTx.length = b.hpr.mgmtTx.length + 1) ∧
  (∀ (t : Nat) (s : State) (net src k tseq : Nat) (f body : List Byte), let b := s.advance t; mgmtServed b net = true →
    mgmtCheck b net src f = .accepted k 3 tseq body → k < b.hpr.clients.length → b.hpr.waiting = [] → body.length = 8 → 1 ≤
    getU body 4 2 → getU body 4 2 ≤ 1024 → getU body 6 2 = 0 → getU body 0 4 + getU body 4 2 ≤ 0x4000000 → Does (.winRead t
    net src f) s fun u => (u.hpr.clients.getD k {}).rxSeq = tseq ∧ u.hpr.mgmtTx =
    { net := net, client := k, type := 4, body := leU 4 (getU body 0 4) ++ leU 2 (getU body 4 2) ++ [0, 0] ++ winBytes b (getU body 0 4) (getU body 4 2) }
    :: b.hpr.mgmtTx ∧ u.mem = b.mem) ∧
  (∀ (t : Nat) (s : State) (net src k tseq : Nat) (f body : List Byte), let b := s.advance t; mgmtServed b net = true →
    mgmtCheck b net src f = .accepted k 5 tseq body → k < b.hpr.clients.length → b.hpr.waiting = [] → MemOk b → body.length
    = 8 + getU body 4 2 → 1 ≤ getU body 4 2 → getU body 4 2 ≤ 1024 → getU body 6 2 = 0 → 0x10000 ≤ getU body 0 4 → getU body
    0 4 + getU body 4 2 ≤ 0x4000000 → (∀ j ∈ List.range (getU body 4 2), (bufferAt b (getU body 0 4 + j)).any (fun e =>
    e.requester == portCode .mgmt && !e.own) = true) → Does (.winWrite t net src f) s fun u => (u.hpr.clients.getD k
    {}).rxSeq = tseq ∧ u.hpr.mgmtTx =
    { net := net, client := k, type := 6, body := leU 4 (getU body 0 4) ++ leU 2 (getU body 4 2) ++ [0, 0] } ::
    b.hpr.mgmtTx ∧ memReads u.mem (windowBase + getU body 0 4) (getU body 4 2) = body.drop 8 ∧ u.hpr.desc = b.hpr.desc) ∧
  (∀ (t : Nat) (s : State) (net src k tseq : Nat) (f body : List Byte), let b := s.advance t; mgmtServed b net = true →
    mgmtCheck b net src f = .accepted k 5 tseq body → k < b.hpr.clients.length → b.hpr.waiting = [] → body.length = 8 + getU
    body 4 2 → 1 ≤ getU body 4 2 → getU body 4 2 ≤ 1024 → getU body 6 2 = 0 → 0x4000000 < getU body 0 4 + getU body 4 2 →
    Does (.winWrite t net src f) s fun u => (u.hpr.clients.getD k {}).rxSeq = tseq ∧ u.hpr.mgmtTx =
    { net := net, client := k, type := 6, body := leU 4 (getU body 0 4) ++ leU 2 (getU body 4 2) ++ [2, 0] } ::
    b.hpr.mgmtTx ∧ u.mem = b.mem ∧ u.hpr.err = b.hpr.err ||| 1) ∧
  (∀ (t : Nat) (s : State) (net : Nat) (f : List Byte), let b := s.advance t; getU f 0 2 = 0x4D57 → getU f 3 1 = 7 → net < 4 →
    net ≠ 2 → portFlag b net 0 = true → portFlag b net 1 = true → hostServed b = true → b.pwr.state = .dormant → Does (.wake
    t net f) s fun u => u.pwr.state = .active ∧ u.pwr.lastCmdT = b.clk ∧ u.unit = b.unit ∧ u.str = b.str) ∧
  (∀ (t : Nat) (s : State) (net : Nat) (f : List Byte), let b := s.advance t; getU f 0 2 = 0x4D57 → getU f 3 1 = 7 → net < 4 →
    net ≠ 2 → portFlag b net 0 = true → portFlag b net 1 = true → hostServed b = true → b.pwr.state ≠ .dormant → Does (.wake
    t net f) s fun u => u = b.setHpr (fun h => { h with mgmtDiscards := h.mgmtDiscards + 1 }))

/-- NET_SET_PORT stores the record of a port and NET_SET_MGMT that of a client, with its key; a frame on a port that is enabled
and up is counted and classified: UDP to the unit for management, safe communication, ARP and PAUSE, and one that is too
long or for nobody discarded; the safe ring of a network holds 16 copies and counts those it has no room for; a change of
link is counted. -/
def Obligations.NetworkPorts : Prop :=
  (∀ (s : State) (q : Req) (n : Nat), Taken s q → s.unit.isRole = true ∨ s.unit = .safeHold → q.payload.length = 24 → getU
    q.payload 0 1 = n → n < s.net.port.length → badField (portFields n) q.payload = none → (n = 2 → getBit q.payload 1 0 =
    true ∨ s.red.present = false) → Does (.netSetPort q) s fun u => Answered u q 0x0E01 stOk 0 [] ∧ (u.portAt n).cfg =
    q.payload ∧ (u.portAt n).link = (s.portAt n).link ∧ (∀ k, k ≠ n → u.portAt k = s.portAt k) ∧ u.str = s.str) ∧
  (∀ (s : State) (q : Req) (n : Nat), Taken s q → s.unit.isRole = true ∨ s.unit = .safeHold → q.port ≠ .app → q.payload.length
    = 40 → getU q.payload 0 1 = n → badField clientFields q.payload = none → getBit q.payload 2 2 = false → n <
    s.hpr.clients.length → Does (.netSetMgmt q) s fun u => Answered u q 0x0E04 stOk 0 [] ∧
    (let c := u.hpr.clients.getD n {}; c.configured = true ∧ c.enabled = getBit q.payload 1 0 ∧ c.ports = getU q.payload 2
    1 ∧ c.source = getU q.payload 4 4 ∧ c.key = slice q.payload 8 32) ∧ u.net = s.net) ∧
  (∀ (t : Nat) (s : State) (p : Nat) (f : EthFrame), let b := s.advance t; ethRuns b = true → p < 4 → p < b.net.port.length →
    portFlag b p 0 = true → (b.portAt p).link = true → 1522 < f.len → Does (.ethFrameReceived t p f) s fun u => (u.portAt
    p).rx = ((b.portAt p).rx + 1) % 2 ^ 32 ∧ (u.portAt p).discards = ((b.portAt p).discards + 1) % 2 ^ 32 ∧ u.saf = b.saf ∧
    u.mem = b.mem ∧ (∀ k, k ≠ p → u.portAt k = b.portAt k)) ∧
  (∀ (t : Nat) (s : State) (p : Nat) (f : EthFrame) (x : List Byte), let b := s.advance t; ethRuns b = true → p < 4 → p ≠ 2 →
    p < b.net.port.length → portFlag b p 0 = true → (b.portAt p).link = true → f.len ≤ 1522 → f.kind = .udp 49411 x → tagOk
    b p f.vlan = true → ownIp b p f.dstIp = true → safeNet b p = false → portFlag b p 1 = true → Does (.ethFrameReceived t p
    f) s fun u => (u.portAt p).toMgmt = ((b.portAt p).toMgmt + 1) % 2 ^ 32 ∧ (u.portAt p).rx = ((b.portAt p).rx + 1) % 2 ^
    32 ∧ (u.portAt p).discards = (b.portAt p).discards ∧ u.saf = b.saf ∧ (∀ k, k ≠ p → u.portAt k = b.portAt k)) ∧
  (∀ (t : Nat) (s : State) (p : Nat) (f : EthFrame) (x : List Byte), let b := s.advance t; ethRuns b = true → p < 4 → p <
    b.net.port.length → portFlag b p 0 = true → (b.portAt p).link = true → f.len ≤ 1522 → f.kind = .udp (getU (b.setB .sp)
    426 2) x → tagOk b p f.vlan = true → ownIp b p f.dstIp = true → (b.chan .sp).set.isSome = true → safeNet b p = true →
    Does (.ethFrameReceived t p f) s fun u => (u.portAt p).toSafe = ((b.portAt p).toSafe + 1) % 2 ^ 32 ∧ (if
    (b.saf.rxRing.filter fun e => e.net = p).length < 16 then u.saf.rxRing = b.saf.rxRing ++ [{ net := p, bytes := x }] ∧
    u.saf.rxDrops = b.saf.rxDrops else u.saf.rxRing = b.saf.rxRing ∧ u.saf.rxDrops = b.saf.rxDrops + 1)) ∧
  (∀ (t : Nat) (s : State) (p : Nat) (f : EthFrame), let b := s.advance t; ethRuns b = true → p < 4 → p < b.net.port.length →
    portFlag b p 0 = true → (b.portAt p).link = true → f.len ≤ 1522 → f.kind = .arp → tagOk b p f.vlan = true → ownIp b p
    f.dstIp = true → Does (.ethFrameReceived t p f) s fun u => (u.portAt p).arpAnswers = ((b.portAt p).arpAnswers + 1) % 2 ^
    32 ∧ (u.portAt p).toSup = ((b.portAt p).toSup + 1) % 2 ^ 32 ∧ u.saf = b.saf ∧ (∀ k, k ≠ p → u.portAt k = b.portAt k)) ∧
  (∀ (t : Nat) (s : State) (p : Nat) (f : EthFrame), let b := s.advance t; ethRuns b = true → p < 4 → p < b.net.port.length →
    portFlag b p 0 = true → (b.portAt p).link = true → f.len ≤ 1522 → f.kind = .ipv6 ∨ f.kind = .fragment ∨ f.kind =
    .other → Does (.ethFrameReceived t p f) s fun u => (u.portAt p).discards = ((b.portAt p).discards + 1) % 2 ^ 32 ∧
    (u.portAt p).rx = ((b.portAt p).rx + 1) % 2 ^ 32 ∧ u.saf = b.saf ∧ (∀ k, k ≠ p → u.portAt k = b.portAt k)) ∧
  (∀ (t : Nat) (s : State) (p : Nat) (x : Bool), let b := s.advance t; ethRuns b = true → p < 4 → p < b.net.port.length →
    (b.portAt p).link ≠ x → Does (.linkLossReturn t p x) s fun u => (u.portAt p).link = x ∧ (u.portAt p).linkChanges =
    ((b.portAt p).linkChanges + 1) % 2 ^ 32 ∧ u.str = b.str ∧ (∀ k, k ≠ p → u.portAt k = b.portAt k))

/-- CAN_SET_CONFIG gives a controller the registers of its configuration, with the bit timing of its rates; CAN_GET_CONFIG and
CAN_GET_STATUS answer one controller or all; CAN_SET_FILTER writes the list of a controller in INIT; CAN_SEND puts an
element at the tail of the transmit queue; CAN_READ takes owned entries out of a receive queue; CAN_DELEGATE gives
controllers in INIT to APP or takes them back. A frame that the filters send to a queue with room stands at its PUT, with
PUT and the count of received frames up by one; in a full queue it is lost and OVF counts it; a rejected one changes
nothing. A head that is sent, cancelled or failed leaves the queue. PUT, GET, CANCEL and INIT act for the holder of the
controller, and a write of APP to one it does not hold only sets ACC_ERR. Bus-off ends and recovery starts the part on the
bus. -/
def Obligations.CanFd : Prop :=
  (∀ (s : State) (q : Req) (c : Nat), Taken s q → s.unit.isRole = true ∨ s.unit = .safeHold → q.payload.length = 24 → getU
    q.payload 0 1 = c → c < 4 → c < s.net.can.length → (s.canAt c).delegated = false → canCfgBad s q.payload = none → Does
    (.canSetConfig q) s fun u => Answered u q 0x0F01 stOk 0 [] ∧ (u.canAt c).cfg = q.payload ∧ (u.canAt c).fd = getBit
    q.payload 1 1 ∧ (u.canAt c).tdc = getBit q.payload 1 2 ∧ (u.canAt c).fltBase = getU q.payload 20 2 ∧ (u.canAt
    c).fltCount = getU q.payload 22 2 ∧ (u.canAt c).nbt = BitVec.ofNat 32 (nbtWord ((nominalTiming q.payload).getD (1, 1,
    1))) ∧ (u.canAt c).init = !getBit q.payload 1 0 ∧ (∀ k, k ≠ c → u.canAt k = s.canAt k)) ∧
  (∀ (s : State) (q : Req), Taken s q → s.unit.isRole = true ∨ s.unit = .safeHold → q.payload.length = 4 → getU q.payload 0 1
    < 4 ∨ getU q.payload 0 1 = 255 → getU q.payload 1 1 = 0 → getU q.payload 2 2 = noDesc ∨ descOk s q (getU q.payload 2 2)
    0 = true → (∀ c ∈ namedBy (getU q.payload 0 1) 4, (s.canAt c).delegated = false) → Does (.canGetConfig q) s fun u =>
    Answered u q 0x0F02 stOk 0 ((namedBy (getU q.payload 0 1) 4).flatMap fun c => fitTo 24 (s.canAt c).cfg) ∧ HostOnly s u) ∧
  (∀ (s : State) (q : Req), Taken s q → s.unit.isRole = true ∨ s.unit = .safeHold → q.payload.length = 4 → getU q.payload 0 1
    < 4 ∨ getU q.payload 0 1 = 255 → getU q.payload 1 1 = 0 → getU q.payload 2 2 = noDesc ∨ descOk s q (getU q.payload 2 2)
    0 = true → (∀ c ∈ namedBy (getU q.payload 0 1) 4, (s.canAt c).delegated = false) → Does (.canGetStatus q) s fun u =>
    Answered u q 0x0F06 stOk 0 ((namedBy (getU q.payload 0 1) 4).flatMap (canStatusBytes s)) ∧ HostOnly s u) ∧
  (∀ (s : State) (q : Req) (d len c : Nat), Taken s q → s.unit.isRole = true ∨ s.unit = .safeHold → MemOk s → q.payload.length
    = 8 → getU q.payload 0 2 = d → getU q.payload 2 2 = 0 → getU q.payload 4 4 = len → 4 ≤ len → len ≤ 4 + 8 * 2048 → descOk
    s q d len = true → getU (bufRead s d len) 0 1 = c → filterBufBad s (bufRead s d len) len = none → (s.canAt c).delegated
    = false → (s.canAt c).init = true → Does (.canSetFilter q) s fun u => Answered u q 0x0F03 stOk 0 [] ∧ memReads u.canRam
    (8 * (s.canAt c).fltBase) (len - 4) = (bufRead s d len).drop 4 ∧ u.net = s.net) ∧
  (∀ (s : State) (q : Req) (c : Nat), Taken s q → AnyRole s → MemOk s → q.payload.length = 76 → getU q.payload 0 1 = c → c <
    4 → c < s.net.can.length → getU q.payload 1 1 = 0 → getU q.payload 2 2 = 0 → getU q.payload 10 2 = 0 → (s.canAt
    c).delegated = false → (s.canAt c).queued < 32 → Does (.canSend q) s fun u => Answered u q 0x0F04 stOk 0 [] ∧ (u.canAt
    c).txPut = ((s.canAt c).txPut + 1) % 256 ∧ memReads u.canRam (canTxAddr c (s.canAt c).txPut) 72 = q.payload.drop 4 ∧ (∀
    k, k ≠ c → u.canAt k = s.canAt k)) ∧
  (∀ (s : State) (q : Req) (i d n : Nat), Taken s q → s.unit.isRole = true ∨ s.unit = .safeHold → MemOk s → SlotOk q →
    q.payload.length = 4 → getU q.payload 0 1 = i → i < 8 → i % 4 < s.net.can.length → getU q.payload 1 1 = 0 → getU
    q.payload 2 2 = d → descOk s q d 0 = true → (s.canAt (i % 4)).delegated = false → n = min ((s.desc d).size / 76)
    ((s.canAt (i % 4)).q (i / 4)).owned → ((s.canAt (i % 4)).q (i / 4)).put < 256 → ((s.canAt (i % 4)).q (i / 4)).get <
    256 → Does (.canRead q) s fun u => Answered u q 0x0F05 stOk 0 (leU 4 (ownedEntries s (i % 4) (i / 4) n).length) ∧
    BufHolds s u d (ownedEntries s (i % 4) (i / 4) n) ∧ ((u.canAt (i % 4)).q (i / 4)).get = (((s.canAt (i % 4)).q (i /
    4)).get + n) % 256 ∧ ((u.canAt (i % 4)).q (i / 4)).put = ((s.canAt (i % 4)).q (i / 4)).put) ∧
  (∀ (s : State) (q : Req), Taken s q → AnyRole s → q.port ≠ .app → q.payload.length = 2 → getU q.payload 0 1 < 16 → getU
    q.payload 1 1 ≤ 1 → s.net.can.length = 4 → (∀ c ∈ List.range 4, (getU q.payload 0 1).testBit c = true → (s.canAt c).init
    = true) → Does (.canDelegate q) s fun u => Answered u q 0x0F07 stOk 0 [] ∧ (∀ c ∈ List.range 4, u.canAt c =
    { s.canAt c with delegated := if (getU q.payload 0 1).testBit c then getU q.payload 1 1 == 1 else (s.canAt c).delegated })) ∧
  (∀ (t : Nat) (s : State) (c k : Nat) (f : CanFrame) (e : Option Nat), let b := s.advance t; c < 4 → c < b.net.can.length →
    MemOk b → onBus b c = true → (b.canAt c).loop = false → f.fd = false ∨ (b.canAt c).fd = true → (f.remote && f.fd) =
    false → filterFate b c (f.id % 2 ^ 29) f.xtd = some (k, e) → k < 2 → ((b.canAt c).q k).owned ≠ ((b.canAt c).q k).depth →
    Does (.canFrameReceived t c f) s fun u => ((u.canAt c).q k).put = (((b.canAt c).q k).put + 1) % 256 ∧ ((u.canAt c).q
    k).get = ((b.canAt c).q k).get ∧ (u.canAt c).received = ((b.canAt c).received + 1) % 2 ^ 32 ∧ memReads u.canRam
    (canRxAddr c k (((b.canAt c).q k).put % ((b.canAt c).q k).depth)) 76 = rxEntry b f e ∧ u.mem = b.mem ∧ (∀ k, k ≠ c →
    u.canAt k = b.canAt k)) ∧
  (∀ (t : Nat) (s : State) (c k : Nat) (f : CanFrame) (e : Option Nat), let b := s.advance t; c < 4 → c < b.net.can.length →
    onBus b c = true → (b.canAt c).loop = false → f.fd = false ∨ (b.canAt c).fd = true → (f.remote && f.fd) = false →
    filterFate b c (f.id % 2 ^ 29) f.xtd = some (k, e) → k < 2 → ((b.canAt c).q k).owned = ((b.canAt c).q k).depth → Does
    (.canFrameReceived t c f) s fun u => ((u.canAt c).q k).ovf = (((b.canAt c).q k).ovf + 1) % 2 ^ 32 ∧ ((u.canAt c).q
    k).put = ((b.canAt c).q k).put ∧ (u.canAt c).evt = (b.canAt c).evt ||| BitVec.twoPow 6 k ∧ u.canRam = b.canRam ∧ (∀ k, k
    ≠ c → u.canAt k = b.canAt k)) ∧
  (∀ (t : Nat) (s : State) (c : Nat) (f : CanFrame), let b := s.advance t; filterFate b c (f.id % 2 ^ 29) f.xtd = none → Does
    (.canFrameReceived t c f) s fun u => u = b) ∧
  (∀ (t : Nat) (s : State) (c : Nat), let b := s.advance t; c < 4 → c < b.net.can.length → onBus b c = true → (b.canAt
    c).listen = false → (b.canAt c).queued ≠ 0 → (b.canAt c).loop = false → Does (.canTxComplete t c 0) s fun u => (u.canAt
    c).txGet = ((b.canAt c).txGet + 1) % 256 ∧ (u.canAt c).sent = ((b.canAt c).sent + 1) % 2 ^ 32 ∧ (u.canAt c).lastOutcome
    = 0 ∧ (u.canAt c).txTs = b.tsu.now % 2 ^ 32 ∧ (u.canAt c).cancel = false ∧ u.canRam = b.canRam ∧ (∀ k, k ≠ c → u.canAt k
    = b.canAt k)) ∧
  (∀ (t : Nat) (s : State) (c : Nat), let b := s.advance t; c < 4 → c < b.net.can.length → onBus b c = true → (b.canAt
    c).listen = false → (b.canAt c).queued ≠ 0 → (b.canAt c).cancel = true → Does (.canTxComplete t c 1) s fun u => (u.canAt
    c).txGet = ((b.canAt c).txGet + 1) % 256 ∧ (u.canAt c).sent = (b.canAt c).sent ∧ (u.canAt c).lastOutcome = 1 ∧ (u.canAt
    c).cancel = false ∧ (∀ k, k ≠ c → u.canAt k = b.canAt k)) ∧
  (∀ (t : Nat) (s : State) (c : Nat), let b := s.advance t; c < 4 → c < b.net.can.length → onBus b c = true → (b.canAt
    c).listen = false → (b.canAt c).queued ≠ 0 → (b.canAt c).holLim ≠ 0 → Does (.txHol t c) s fun u => (u.canAt c).evt =
    (b.canAt c).evt ||| BitVec.twoPow 6 2 ∧ (u.canAt c).txGet = (b.canAt c).txGet ∧ (∀ k, k ≠ c → u.canAt k = b.canAt k)) ∧
  (∀ (t : Nat) (s : State) (c : Nat), let b := s.advance t; c < 4 → c < b.net.can.length → onBus b c = true → (b.canAt c).loop
    = false → Does (.busOff t c) s fun u => (u.canAt c).state = 2 ∧ (u.canAt c).evt = (b.canAt c).evt ||| BitVec.twoPow 6
    4 ∧ onBus u c = false ∧ (∀ k, k ≠ c → u.canAt k = b.canAt k)) ∧
  (∀ (t : Nat) (s : State) (c : Nat), let b := s.advance t; c < 4 → c < b.net.can.length → canRuns b = true → (b.canAt
    c).state = 2 → (b.canAt c).abo = true → Does (.busOffRecovery t c) s fun u => (u.canAt c).state = 0 ∧ (u.canAt c).tec =
    0 ∧ (u.canAt c).recCnt = 0 ∧ (∀ k, k ≠ c → u.canAt k = b.canAt k)) ∧
  (∀ (t : Nat) (s : State) (a : Bool) (c p : Nat), let b := s.advance t; c < 4 → c < b.net.can.length → canRuns b = true →
    (b.canAt c).delegated = a → (p % 256 + 256 - (b.canAt c).txGet) % 256 ≤ 32 → Does (.canTxqPutWrite t a c p) s fun u =>
    (u.canAt c).txPut = p % 256 ∧ (u.canAt c).evt = (b.canAt c).evt ∧ (∀ k, k ≠ c → u.canAt k = b.canAt k)) ∧
  (∀ (t : Nat) (s : State) (c p : Nat), let b := s.advance t; c < 4 → c < b.net.can.length → canRuns b = true → (b.canAt
    c).delegated = false → Does (.canTxqPutWrite t true c p) s fun u => (u.canAt c) =
    { b.canAt c with evt := (b.canAt c).evt ||| BitVec.twoPow 6 5 } ∧ (∀ k, k ≠ c → u.canAt k = b.canAt k)) ∧
  (∀ (t : Nat) (s : State) (a : Bool) (c : Nat), let b := s.advance t; c < 4 → c < b.net.can.length → canRuns b = true →
    (b.canAt c).delegated = a → (b.canAt c).queued ≠ 0 → Does (.canCancel t a c) s fun u => (u.canAt c) =
    { b.canAt c with cancel := true } ∧ (∀ k, k ≠ c → u.canAt k = b.canAt k)) ∧
  (∀ (t : Nat) (s : State) (a : Bool) (c k g : Nat), let b := s.advance t; c < 4 → c < b.net.can.length → canRuns b = true →
    (b.canAt c).delegated = a → k < 2 → (g % 256 + 256 - ((b.canAt c).q k).get) % 256 ≤ ((b.canAt c).q k).owned → Does
    (.canRxqGetWrite t a c k g) s fun u => ((u.canAt c).q k).get = g % 256 ∧ ((u.canAt c).q k).put = ((b.canAt c).q k).put ∧
    (u.canAt c).evt = (b.canAt c).evt ∧ (∀ k, k ≠ c → u.canAt k = b.canAt k)) ∧
  (∀ (t : Nat) (s : State) (a : Bool) (c : Nat) (v : BitVec 32), let b := s.advance t; c < 4 → c < b.net.can.length → canRuns
    b = true → (b.canAt c).delegated = a → v.getLsbD 0 = true → Does (.canCtrlWrite t a c v) s fun u => (u.canAt c).init =
    true ∧ (u.canAt c).state = 3 ∧ (u.canAt c).txGet = (b.canAt c).txPut ∧ (u.canAt c).q0.get = (b.canAt c).q0.put ∧
    (u.canAt c).q1.get = (b.canAt c).q1.put ∧ (∀ k, k ≠ c → u.canAt k = b.canAt k)) ∧
  (∀ (t : Nat) (s : State) (a : Bool) (c : Nat) (v : BitVec 32), let b := s.advance t; c < 4 → c < b.net.can.length → canRuns
    b = true → (b.canAt c).delegated = a → v.getLsbD 0 = false → (b.canAt c).init = true → timingOk (b.canAt c).nbt.toNat
    (b.canAt c).dbt.toNat (v.getLsbD 2) = true → Does (.canCtrlWrite t a c v) s fun u => (u.canAt c).init = false ∧ (u.canAt
    c).state = 0 ∧ (u.canAt c).fd = v.getLsbD 1 ∧ (u.canAt c).listen = v.getLsbD 4 ∧ (u.canAt c).loop = v.getLsbD 5 ∧ (∀ k,
    k ≠ c → u.canAt k = b.canAt k))

/-- A running APP has its monitor calls answered in a0 and a1; WDOG_SET takes 0 or 10 to 10,000 ms and starts the time,
WDOG_FEED starts it again; the timer fires at its instant, the warning at half the timeout, and at the timeout APP restarts
with cause 1. A restart sets the watchdog to 0, clears what APP holds, and counts; the third fault restart within 600 s
leaves APP stopped. An access outside its map is counted. -/
def Obligations.AppCore : Prop :=
  (∀ (t : Nat) (s : State), let b := s.advance t; appRuns b = true → Does (.monVersion t) s fun u => u = b.setApp (fun a =>
    { a with a0 := 0, a1 := Config.monitorVersion })) ∧
  (∀ (t : Nat) (s : State), let b := s.advance t; appRuns b = true → Does (.monTime t) s fun u => u = b.setApp (fun a =>
    { a with a0 := (b.tsu.now / nsS : Nat), a1 := b.tsu.now % nsS })) ∧
  (∀ (t : Nat) (s : State) (us : Nat), let b := s.advance t; appRuns b = true → Does (.monTimer t us) s fun u => u = b.setApp
    (fun a => { a with a0 := 0, timer := if us = 0 then none else some us })) ∧
  (∀ (t : Nat) (s : State) (ms : Nat), let b := s.advance t; appRuns b = true → Does (.wdogSet t ms) s fun u => u = if ms = 0
    ∨ 10 ≤ ms ∧ ms ≤ 10000 then b.setApp (fun a => { a with a0 := 0, wdMs := ms, wdT := b.clk, wdWarned := false }) else
    b.setApp (fun a => { a with a0 := -1 })) ∧
  (∀ (t : Nat) (s : State), let b := s.advance t; appRuns b = true → Does (.wdogFeed t) s fun u => u = b.setApp (fun a =>
    { a with a0 := 0, wdT := b.clk, wdWarned := false })) ∧
  (∀ (t : Nat) (s : State), let b := s.advance t; appRuns b = true → Does (.monRestart t) s fun u => u.app.run = 1 ∧
    u.app.cause = 2 ∧ u.app.restarts = b.app.restarts + 1 ∧ u.app.a0 = 2 ∧ u.app.wdMs = 0 ∧ (∀ d ∈ u.hpr.desc, d.requester =
    2 → d.kind = 0) ∧ u.str = b.str) ∧
  (∀ (t : Nat) (s : State) (c : Nat), let b := s.advance t; appRuns b = true → c = 1 ∨ c = 3 ∨ c = 4 → (b.app.faults.filter
    fun x => b.clk < x + 600 * nsS).length < 2 → Does (.appRestart t c) s fun u => u.app.run = 1 ∧ u.app.cause = c ∧
    u.app.restarts = b.app.restarts + 1 ∧ u.app.faults = b.clk :: b.app.faults.filter (fun x => b.clk < x + 600 * nsS)) ∧
  (∀ (t : Nat) (s : State) (c : Nat), let b := s.advance t; appRuns b = true → c = 1 ∨ c = 3 ∨ c = 4 → 2 ≤
    (b.app.faults.filter fun x => b.clk < x + 600 * nsS).length → Does (.appRestart t c) s fun u => u.app.run = 2 ∧
    u.app.cause = c ∧ appRuns u = false) ∧
  (∀ (t : Nat) (s : State), let b := s.advance t; b.app.run = 2 → Does (.appRestart t 5) s fun u => u.app.run = 1 ∧
    u.app.cause = 5) ∧
  (∀ (t : Nat) (s : State), let b := s.advance t; b.app.run = 0 → b.unit.isRole = true → Does (.appStart t) s fun u =>
    u.app.run = 1 ∧ u.app.cause = 0 ∧ u.app.restarts = 0 ∧ u.app.faults = [] ∧ u.app.wdMs = 0 ∧ u.app.dramZeroed = true ∧
    u.app.a0 = 0 ∧ u.app.a1 = 0 ∧ u.str = b.str) ∧
  (∀ (t : Nat) (s : State) (us : Nat), let b := s.advance t; b.app.timer = some us → us * nsUs ≤ b.tsu.now → BanksOk b →
    hostServed b = true → (b.srcAt .app 5).redirected = false → Does (.monitorTimerFire t) s fun u => u.app.timer = none ∧
    (u.srcAt .app 5).pend = true ∧ (∀ k, k ≠ 5 → u.srcAt .app k = b.srcAt .app k)) ∧
  (∀ (t : Nat) (s : State), let b := s.advance t; appRuns b = true → b.app.wdMs ≠ 0 → b.app.wdWarned = false → b.app.wdT +
    b.app.wdMs * nsMs / 2 ≤ b.clk → BanksOk b → (b.srcAt .app 6).redirected = false → Does (.watchdogWarning t) s fun u =>
    u.app.wdWarned = true ∧ (u.srcAt .app 6).pend = true ∧ u.app.run = 1) ∧
  (∀ (t : Nat) (s : State), let b := s.advance t; appRuns b = true → b.app.wdMs ≠ 0 → b.app.wdT + b.app.wdMs * nsMs ≤ b.clk →
    Does (.watchdogExpiry t) s fun u => u.app.cause = 1 ∧ u.app.restarts = b.app.restarts + 1 ∧ u.app.wdMs = 0 ∧
    u.app.wdWarned = false) ∧
  (∀ (t : Nat) (s : State) (a n : Nat) (w : Bool), let b := s.advance t; appRuns b = true → Does (.accessFault t a n w) s fun
    u => u = if appReaches a n w then b else b.setApp (fun x => { x with accessFaults := x.accessFaults + 1 })) ∧
  (∀ (t : Nat) (s : State) (d : Bool), let b := s.advance t; Does (.appMemoryError t d true) s fun u => u = b.setApp (fun x =>
    { x with corrected := x.corrected + 1 })) ∧
  (∀ (t : Nat) (s : State) (d : Bool), let b := s.advance t; appRuns b = true → Does (.appMemoryError t d false) s fun u =>
    u.app.cause = 3 ∧ u.app.restarts = b.app.restarts + 1 ∧ u.app.a0 = 3)

/-- An edge sets its source pending; the decision latches the eligible source that moderation permits with the highest priority,
on a tie one that completed active-and-pending, then the lowest number; the claim reads it, clears pending and starts its
group's hold-off; completion takes an active source back, and one that is not active only sets ACC_ERR; PEND and MASK words
act on the sources routed to the target; a source stranded 1 ms on a disabled target is redirected to SUP and returns when
the target is enabled. -/
def Obligations.InterruptControl : Prop :=
  (∀ (t : Nat) (s : State) (g : Target) (n : Nat), let b := s.advance t; BanksOk b → n < 32 → icuReserved g n = false →
    hostServed b = true → (b.srcAt g n).redirected = false → Does (.icuSourceEdge t g n) s fun u => (u.srcAt g n).pend =
    true ∧ (u.srcAt g n).mask = (b.srcAt g n).mask ∧ (u.srcAt g n).active = (b.srcAt g n).active ∧ u.icu.sup = b.icu.sup ∧
    u.icu.app = b.icu.app ∧ (∀ k, k ≠ n → u.srcAt g k = b.srcAt g k)) ∧
  (∀ (t : Nat) (s : State) (g : Target) (n : Nat), let b := s.advance t; BanksOk b → 32 ≤ n → n < 256 → icuReserved .sup n =
    false → hostServed b = true → (b.srcAt g n).redirected = false → Does (.icuSourceEdge t g n) s fun u => (u.srcAt g
    n).pend = true ∧ (∀ k, k ≠ n → u.srcAt g k = b.srcAt g k)) ∧
  (∀ (t : Nat) (s : State) (g : Target) (n : Nat), let b := s.advance t; (b.tgt g).deliv = none → bestSource b g = some n →
    Does (.icuDecision t g) s fun u => (u.tgt g).deliv = some n ∧ (u.tgt g).line = true ∧ (u.tgt g).sleep = false ∧ eligible
    b g n = true ∧ permitted b g n = true ∧ (∀ m ∈ List.range 256, eligible b g m = true → permitted b g m = true → (b.srcAt
    g m).prio < (b.srcAt g n).prio ∨ (b.srcAt g m).prio = (b.srcAt g n).prio ∧ ((b.srcAt g m).reentry = false ∧ (b.srcAt g
    n).reentry = true ∨ (b.srcAt g m).reentry = (b.srcAt g n).reentry ∧ n ≤ m)) ∧ u.srcAt g n = b.srcAt g n) ∧
  (∀ (t : Nat) (s : State) (g : Target) (n : Nat), let b := s.advance t; (b.tgt g).deliv = some n → Does (.icuDecision t g) s
    fun u => u = b) ∧
  (∀ (t : Nat) (s : State) (g : Target) (n : Nat), let b := s.advance t; BanksOk b → n < 256 → (b.tgt g).deliv = some n →
    eligible b g n = true → (b.srcAt g n).group < (b.tgt g).holdEnd.length → Does (.icuClaimRead t g) s fun u => (u.tgt
    g).claim = 0x80000000 + n ∧ (u.tgt g).deliv = none ∧ (u.tgt g).line = false ∧ (u.srcAt g n).pend = false ∧ (u.srcAt g
    n).active = some g ∧ (u.tgt g).holdEnd.getD (b.srcAt g n).group 0 = b.clk + (b.tgt g).hold.getD (b.srcAt g n).group 0 *
    nsUs ∧ (∀ k, k ≠ n → u.srcAt g k = b.srcAt g k)) ∧
  (∀ (t : Nat) (s : State) (g : Target), let b := s.advance t; (b.tgt g).deliv = none → Does (.icuClaimRead t g) s fun u =>
    (u.tgt g).claim = 0 ∧ (u.tgt g).line = false ∧ u.icu.shared = b.icu.shared ∧ u.icu.papp = b.icu.papp) ∧
  (∀ (t : Nat) (s : State) (g : Target) (v : BitVec 32) (n : Nat), let b := s.advance t; BanksOk b → n = v.toNat % 256 →
    (b.srcAt g n).active = some g → Does (.icuCompleteWrite t g v) s fun u => (u.srcAt g n).active = none ∧ (u.srcAt g
    n).reentry = (b.srcAt g n).pend ∧ (u.srcAt g n).pend = (b.srcAt g n).pend ∧ (u.tgt g).accErr = (b.tgt g).accErr ∧ (∀ k,
    k ≠ n → u.srcAt g k = b.srcAt g k)) ∧
  (∀ (t : Nat) (s : State) (g : Target) (v : BitVec 32), let b := s.advance t; (b.srcAt g (v.toNat % 256)).active ≠ some g →
    Does (.icuCompleteWrite t g v) s fun u => (u.tgt g).accErr = true ∧ u.icu.shared = b.icu.shared ∧ u.icu.papp =
    b.icu.papp ∧ u.icu.psup = b.icu.psup ∧ u.icu.phost = b.icu.phost) ∧
  (∀ (t : Nat) (s : State) (g : Target) (w : Nat) (m : BitVec 32), let b := s.advance t; BanksOk b → w < 8 → Does (.icuPendSet
    t g w m) s fun u => ∀ k ∈ List.range 256, (u.srcAt g k).pend = if InMask b g w m k then true else (b.srcAt g k).pend) ∧
  (∀ (t : Nat) (s : State) (g : Target) (w : Nat) (m : BitVec 32), let b := s.advance t; BanksOk b → w < 8 → Does (.icuPendClr
    t g w m) s fun u => ∀ k ∈ List.range 256, (u.srcAt g k).pend = if InMask b g w m k then false else (b.srcAt g k).pend) ∧
  (∀ (t : Nat) (s : State) (g : Target) (w : Nat) (m : BitVec 32), let b := s.advance t; BanksOk b → w < 8 → Does (.icuMaskSet
    t g w m) s fun u => ∀ k ∈ List.range 256, (u.srcAt g k).mask = if InMask b g w m k then true else (b.srcAt g k).mask) ∧
  (∀ (t : Nat) (s : State) (g : Target) (w : Nat) (m : BitVec 32), let b := s.advance t; BanksOk b → w < 8 → Does (.icuMaskClr
    t g w m) s fun u => ∀ k ∈ List.range 256, (u.srcAt g k).mask = if InMask b g w m k then false else (b.srcAt g k).mask) ∧
  (∀ (t : Nat) (s : State) (g : Target) (v : BitVec 32), let b := s.advance t; v.getLsbD 0 = true → Does (.icuTgtEnWrite t g
    v) s fun u => (u.tgt g).en = true ∧ (u.tgt g).idleByp = v.getLsbD 1 ∧ (∀ k ∈ List.range 256, (b.srcAt g k).redirected =
    true → (b.srcAt g k).home = g → (u.srcAt g k).route = g ∧ (u.srcAt g k).redirected = false ∧ (u.srcAt g k).pend =
    false)) ∧
  (∀ (t : Nat) (s : State) (g : Target) (v : BitVec 32), let b := s.advance t; v.getLsbD 0 = false → Does (.icuTgtEnWrite t g
    v) s fun u => (u.tgt g).en = false ∧ (u.tgt g).idleByp = v.getLsbD 1 ∧ (∀ k ∈ List.range 256, (u.srcAt g k).pend =
    (b.srcAt g k).pend ∧ (u.srcAt g k).route = (b.srcAt g k).route)) ∧
  (∀ (t : Nat) (s : State) (g : Target) (k : Nat), let b := s.advance t; (b.tgt g).holdEnd.getD k 0 ≤ b.clk → k < (b.tgt
    g).holdEnd.length → Does (.holdOffExpiry t g k) s fun u => (u.tgt g).holdEnd.getD k 0 = 0 ∧ (u.tgt g).hold = (b.tgt
    g).hold ∧ (u.tgt g).en = (b.tgt g).en) ∧
  (∀ (t : Nat) (s : State) (g : Target) (n : Nat), let b := s.advance t; BanksOk b → n < 256 → (b.srcAt g n).route = g → g ≠
    .sup → (b.tgt g).en = false → (b.srcAt g n).pend = true → heldFor b (b.srcAt g n).stranded nsMs = true → Does
    (.strandedTimeout t g n) s fun u => (u.srcAt g n).route = .sup ∧ (u.srcAt g n).redirected = true ∧ (u.srcAt g n).pend =
    false ∧ (u.srcAt g n).stranded = none ∧ (u.tgt g).redirCnt = ((b.tgt g).redirCnt + 1) % 65536 ∧ (∀ k, k ≠ n → u.srcAt g
    k = b.srcAt g k)) ∧
  (∀ (t : Nat) (s : State) (g : Target) (n : Nat), let b := s.advance t; BanksOk b → 32 ≤ n → n < 256 → delegatedTo b n = g →
    (b.srcAt g n).redirected = false → Does (.sourceRetarget t n g) s fun u => (u.srcAt g n).route = g ∧ (u.srcAt g n).home
    = g ∧ (u.srcAt g n).pend = (b.srcAt g n).pend ∧ (u.srcAt g n).active = (b.srcAt g n).active ∧ (∀ k, k ≠ n → u.srcAt g k
    = b.srcAt g k))

/-- A detected error suspends a unit that is neither retired nor suspended already, and counts; one of a retired unit is only
recorded. A test that passes ends the suspension, unless the unit now has its third transient error within 600 s; one that
fails, and the third, retire the unit. A corrected memory error is counted for its memory; an uncorrectable one is a
detected error of the memory's owner, loses SUP, or makes an image bank invalid; a pass of background work notes its time. -/
def Obligations.FaultsAndTests : Prop :=
  (∀ (t : Nat) (s : State) (n r d : Nat), let b := s.advance t; b.retired n = false → b.suspended n = false → r ≠ 76 → Does
    (.detectedError t n r d) s fun u => u.suspended n = true ∧ u.retired n = false ∧ u.flt.errors = b.flt.errors + 1 ∧
    u.flt.retired = b.flt.retired ∧ u.str = b.str) ∧
  (∀ (t : Nat) (s : State) (n r d : Nat), let b := s.advance t; b.retired n = true → r ≠ 76 → Does (.detectedError t n r d) s
    fun u => u.flt = b.flt ∧ u.str = b.str) ∧
  (∀ (t : Nat) (s : State) (i : Nat), let b := s.advance t; b.unit = .boot → i < 8 → i < b.hviStr.length → Does
    (.detectedError t 0x0E00 76 i) s fun u => (u.hviAt i).testFailed = true) ∧
  (∀ (t : Nat) (s : State) (n : Nat) (e : Susp), let b := s.advance t; b.flt.susp.find? (fun x => x.unit = n ∧ x.testing) =
    some e → e.restoring = false → b.retired n = false → transientsOf b n e.since < 2 → Does (.selfTestOutcome t n 0) s fun
    u => (∀ x ∈ u.flt.susp, x.unit ≠ n) ∧ u.retired n = false ∧ (n, e.since) ∈ u.flt.transients ∧ u.str = b.str) ∧
  (∀ (t : Nat) (s : State) (n o : Nat) (e : Susp), let b := s.advance t; b.flt.susp.find? (fun x => x.unit = n ∧ x.testing) =
    some e → e.restoring = false → b.retired n = false → o ≠ 0 ∨ 2 ≤ transientsOf b n e.since → Does (.selfTestOutcome t n
    o) s fun u => u.retired n = true ∧ (∀ x ∈ u.flt.susp, x.unit ≠ n)) ∧
  (∀ (t : Nat) (s : State) (n o : Nat), let b := s.advance t; b.flt.susp.find? (fun x => x.unit = n ∧ x.testing) = none → Does
    (.selfTestOutcome t n o) s fun u => u = b) ∧
  (∀ (t : Nat) (s : State) (m : Memory) (w : Nat), let b := s.advance t; m ≠ .appTcm → m ≠ .appDram → Does (.memoryError t m w
    false) s fun u => tblGet 0 (memCode m) u.flt.correctedCnt = tblGet 0 (memCode m) b.flt.correctedCnt + 1 ∧ u.flt.susp =
    b.flt.susp ∧ u.app = b.app ∧ u.str = b.str) ∧
  (∀ (t : Nat) (s : State) (w : Nat), let b := s.advance t; b.retired uCee = false → b.suspended uCee = false → Does
    (.memoryError t .cee w true) s fun u => u.suspended uCee = true ∧ u.flt.errors = b.flt.errors + 1 ∧ u.str = b.str) ∧
  (∀ (t : Nat) (s : State) (w : Nat), Does (.memoryError t .sup w true) s fun u => u.pwr.supLost = true ∧ u.pwr.supRestarting
    = true) ∧
  (∀ (t : Nat) (s : State) (w : Nat), let b := s.advance t; Does (.memoryError t (.nor 1 0) w true) s fun u =>
    u.upd.sp.bankA.valid = false ∧ u.upd.sp.bankB = b.upd.sp.bankB ∧ u.upd.sup = b.upd.sup ∧ u.upd.app = b.upd.app) ∧
  (∀ (t : Nat) (s : State) (a : Background), let b := s.advance t; hostServed b = true → b.pwr.state ≠ .dormant → Does
    (.scrubPass t a) s fun u => tblGet 0 (bgPeriod a).1 u.flt.scrubT = b.clk ∧ u.flt.susp = b.flt.susp ∧ u.str = b.str) ∧
  (∀ (t : Nat) (s : State) (k : Nat), let b := s.advance t; hostServed b = true → b.pwr.state ≠ .dormant → Does (.scrubPass t
    (.wear k)) s fun u => tblGet 0 k u.flt.erase = tblGet 0 k b.flt.erase + 1)

/-- A record is written at the next index with the next sequence number; an information record that repeats 8 times within a
second is only counted, one in the reserve zone is dropped, and in the last index stands LOG_FULL; DORMANT holds 64 records,
written at wake. LOG_READ returns the records from first on, and LOG_CLEAR leaves LOG_CLEARED at index 0 and starts the
counts anew. -/
def Obligations.PeatLog : Prop :=
  (∀ (t : Nat) (s : State) (r : PeatIn), let b := s.advance t; plgRuns b = true → b.pwr.state ≠ .dormant → b.plg.full =
    false → 1 ≤ r.level → b.plg.nextIndex < 131071 → Does (.recordSubmit t r) s fun u => u.plg.log =
    { seq := b.plg.nextSeq, code := r.code, source := r.source, severity := r.level + (peatTime b).2, time := (peatTime b).1, p0 := r.p0 % 2 ^ 32, p1 := r.p1 % 2 ^ 32, p2 := r.p2 % 2 ^ 32 }
    :: b.plg.log ∧ u.plg.nextIndex = b.plg.nextIndex + 1 ∧ u.plg.nextSeq = (b.plg.nextSeq + 1) % 2 ^ 32 ∧ u.plg.dropped =
    b.plg.dropped ∧ u.str = b.str) ∧
  (∀ (t : Nat) (s : State) (r : PeatIn), let b := s.advance t; plgRuns b = true → b.pwr.state ≠ .dormant → b.plg.full =
    false → r.level = 0 → r.code ≠ 0x50 → b.plg.suppresses b.clk r.code r.source = true → Does (.recordSubmit t r) s fun u
    => u = b.setPlg (fun p => { p with suppressed := p.suppressed + 1 })) ∧
  (∀ (t : Nat) (s : State) (r : PeatIn), let b := s.advance t; plgRuns b = true → b.pwr.state ≠ .dormant → b.plg.full =
    false → r.level = 0 → 126976 ≤ b.plg.nextIndex → b.plg.suppresses b.clk r.code r.source = false → Does (.recordSubmit t
    r) s fun u => u.plg.log = b.plg.log ∧ u.plg.dropped = b.plg.dropped + 1 ∧ u.plg.droppedLife = b.plg.droppedLife + 1 ∧
    u.plg.nextIndex = b.plg.nextIndex) ∧
  (∀ (t : Nat) (s : State) (r : PeatIn), let b := s.advance t; plgRuns b = true → b.pwr.state ≠ .dormant → b.plg.full =
    false → 1 ≤ r.level → 131071 ≤ b.plg.nextIndex → Does (.recordSubmit t r) s fun u => u.plg.full = true ∧ u.plg.nextIndex
    = b.plg.nextIndex + 1 ∧ u.plg.dropped = b.plg.dropped + 1 ∧ (u.plg.log.head?.map (·.code)) = some 2) ∧
  (∀ (t : Nat) (s : State) (r : PeatIn), let b := s.advance t; b.pwr.state = .dormant → Does (.recordSubmit t r) s fun u =>
    u.plg.log = b.plg.log ∧ (if b.plg.buffer.length < 64 then u.plg.buffer.length = b.plg.buffer.length + 1 ∧ u.plg.dropped
    = b.plg.dropped else u.plg.buffer = b.plg.buffer ∧ u.plg.dropped = b.plg.dropped + 1)) ∧
  (∀ (t : Nat) (s : State) (r : Peat), let b := s.advance t; plgRuns b = true → b.pwr.state ≠ .dormant → b.plg.full = false →
    b.plg.buffer = [r] → 1 ≤ r.severity % 8 → b.plg.nextIndex < 131071 → Does (.dormantRecordFlush t) s fun u =>
    u.plg.buffer = [] ∧ u.plg.log = { r with seq := b.plg.nextSeq } :: b.plg.log ∧ u.plg.nextIndex = b.plg.nextIndex + 1 ∧
    u.str = b.str) ∧
  (∀ (s : State) (q : Req) (d f c : Nat), Taken s q → s.unit.isRole = true ∨ s.unit = .safeHold ∨ s.unit = .recovery → MemOk
    s → SlotOk q → q.payload.length = 12 → getU q.payload 0 2 = d → d ≠ noDesc → getU q.payload 2 2 = 0 → getU q.payload 4 4
    = f → getU q.payload 8 4 = c → descOk s q d (logSlice s f c).length = true → Does (.logRead q) s fun u => Answered u q
    0x1002 stOk 0 (leU 4 (logSlice s f c).length) ∧ BufHolds s u d (logSlice s f c) ∧ HostOnly s u) ∧
  (∀ (s : State) (q : Req), Taken s q → s.unit.isRole = true ∨ s.unit = .safeHold ∨ s.unit = .recovery → q.payload.length =
    0 → Does (.logClear q) s fun u => Answered u q 0x1003 stOk 0 (leU 4 s.plg.nextIndex) ∧ u.plg.nextIndex = 1 ∧
    u.plg.log.length = 1 ∧ (u.plg.log.head?.map (·.code)) = some 1 ∧ u.plg.baseSeq = s.plg.nextSeq ∧ u.plg.clearGen =
    s.plg.clearGen + 1 ∧ u.plg.dropped = 0 ∧ u.plg.suppressed = 0 ∧ u.plg.full = false ∧ u.plg.droppedLife =
    s.plg.droppedLife ∧ u.str = s.str)

/-- UPD_BEGIN opens a transfer for a container whose header and signatures pass and answers INTEGRITY with the failing check
else; UPD_CHUNK takes chunks until one fails its tag or differs from what stands there; UPD_VERIFY makes a complete transfer
VERIFIED or READY, or answers the failing check and forgets the chunks; UPD_ACTIVATE starts the activation of a READY
container after the same checks; UPD_CONFIRM notes the confirmation of a trial; UPD_ABORT leaves a transfer EMPTY or has the
trial fall back. -/
def Obligations.UpdateCommands : Prop :=
  (∀ (s : State) (q : Req) (d k : Nat), Taken s q → s.unit.isRole = true ∨ s.unit = .safeHold ∨ s.unit = .recovery →
    q.payload.length = 4 → getU q.payload 0 2 = d → d ≠ noDesc → getU q.payload 2 1 = k → k ≤ 4 → k < s.upd.xfer.length →
    getU q.payload 3 1 = 0 → descOk s q d 4096 = true → (s.xferAt k).state ≠ .activating → (k == 0) = ((beginHeader s q).cls
    == 0) → classConflict s (beginHeader s q).cls = none → headerOk k (beginHeader s q) = true → Does (.updBegin q) s fun u
    => (∀ n, signedBad s (beginHeader s q) = some n → Answered u q 0x1102 stIntegrity n [] ∧ u.upd = s.upd) ∧ (signedBad s
    (beginHeader s q) = none → Answered u q 0x1102 stOk 0 [] ∧ (u.xferAt k).header = bufRead s d 4096 ∧ (u.xferAt k).got =
    [] ∧ (u.xferAt k).state = .receiving ∧ ∀ j, j ≠ k → u.xferAt j = s.xferAt j) ∧ u.str = s.str) ∧
  (∀ (s : State) (q : Req) (d len k first n : Nat) (x : Bytes), Taken s q → s.unit.isRole = true ∨ s.unit = .safeHold ∨ s.unit
    = .recovery → q.payload.length = 8 → getU q.payload 0 2 = d → d ≠ noDesc → getU q.payload 2 2 = 0 → getU q.payload 4 4 =
    len → len = 8 + 4112 * n → descOk s q d len = true → x = bufRead s d len → getU x 0 1 = k → k ≤ 4 → k <
    s.upd.xfer.length → getU x 1 1 = 0 → getU x 2 2 = n → 1 ≤ n → n ≤ 255 → getU x 4 4 = first → first + n ≤ (s.xferAt
    k).count → (s.xferAt k).state = .receiving ∨ (s.xferAt k).state = .complete → Does (.updChunk q) s fun u =>
    (let r := takeChunks x first 0 n (s.xferAt k); u.xferAt k =
    { r.1 with state := if r.1.got.length = r.1.count then .complete else r.1.state } ∧ (r.2 = none → Answered u q 0x1103
    stOk 0 []) ∧ (∀ a m, r.2 = some (a, m) → Answered u q 0x1103 a m [])) ∧ (∀ j, j ≠ k → u.xferAt j = s.xferAt j)) ∧
  (∀ (s : State) (q : Req) (k : Nat), Taken s q → s.unit.isRole = true ∨ s.unit = .safeHold ∨ s.unit = .recovery →
    q.payload.length = 1 → getU q.payload 0 1 = k → k ≤ 4 → k < s.upd.xfer.length → (s.xferAt k).state = .complete → Does
    (.updVerify q) s fun u => (∀ d, verifyBad s k = some d → Answered u q 0x1105 stIntegrity d [] ∧ (u.xferAt k).state =
    .receiving ∧ (u.xferAt k).got = []) ∧ (verifyBad s k = none → (u.xferAt k).state = (if (s.xferAt k).cls = 0 then
    .verified else .ready) ∧ Answered u q 0x1105 (if compatible s (s.xferAt k) then stOk else stIntegrity) (if compatible s
    (s.xferAt k) then 0 else 11) []) ∧ (∀ j, j ≠ k → u.xferAt j = s.xferAt j)) ∧
  (∀ (s : State) (q : Req) (k : Nat), Taken s q → s.unit.isRole = true → q.port ≠ .app → q.payload.length = 4 → getU q.payload
    0 1 = k → k ≤ 4 → k < s.upd.xfer.length → getU q.payload 1 1 ≤ 3 → targetOk s (s.xferAt k).part (getU q.payload 2 1) =
    true → getU q.payload 3 1 ≤ 9 → activateConflict s k (getU q.payload 2 1) = false → Does (.updActivate q) s fun u => (∀
    d, verifyBad s k = some d → Answered u q 0x1106 stIntegrity d [] ∧ u.upd = s.upd) ∧ (verifyBad s k = none → ((s.xferAt
    k).part = 1 → u.hpr.handover = true ∧ u.upd.handoverT = s.clk ∧ (u.xferAt k).state = .activating ∧ u.upd.act.isSome =
    true) ∧ ((s.xferAt k).part = 2 → u.saf.sp.alive = false ∧ u.saf.sloe.singleUntil = some (s.clk + 300 * nsMs) ∧ (u.xferAt
    k).state = .activating) ∧ ((s.xferAt k).part = 9 → Answered u q 0x1106 stOk 0 [] ∧ u.cee.core = s.cee.core.set (getU
    q.payload 2 1) ((s.xferAt k).payload.getD [])))) ∧
  (∀ (s : State) (q : Req), Taken s q → AnyRole s → q.port ≠ .app → q.payload.length = 0 → s.upd.sp.trial = true →
    s.upd.sp.needHost = true → Does (.updConfirm q) s fun u => Answered u q 0x1107 stOk 0 [] ∧ u.upd.sp =
    { s.upd.sp with confirmed := true } ∧ u.str = s.str) ∧
  (∀ (s : State) (q : Req) (k : Nat), Taken s q → s.unit.isRole = true ∨ s.unit = .safeHold ∨ s.unit = .recovery →
    q.payload.length = 2 → getU q.payload 0 1 = k → k ≤ 4 → k < s.upd.xfer.length → getU q.payload 1 1 ≤ 1 → (s.xferAt
    k).state ≠ .activating → Does (.updAbort q) s fun u => Answered u q 0x1108 stOk 0 [] ∧ (u.xferAt k).state = .empty ∧ (if
    getU q.payload 1 1 = 1 then u.xferAt k = {} else (u.xferAt k).got = (s.xferAt k).got) ∧ (∀ j, j ≠ k → u.xferAt j =
    s.xferAt j)) ∧
  (∀ (t : Nat) (s : State), let b := s.advance t; b.upd.flushT + nsS ≤ b.clk → b.unit.isRole = true ∨ b.unit = .safeHold ∨
    b.unit = .recovery → energyOk b = true → Does (.chunkFlush t) s fun u => u = b.setUpd (fun x =>
    { x with xfer := x.xfer.map (fun y => { y with flushed := y.got }), flushT := b.clk })) ∧
  (∀ (t : Nat) (s : State), let b := s.advance t; 0 < b.upd.xfer.length → (b.xferAt 0).state = .verified → Does
    (.preEraseComplete t) s fun u => (u.xferAt 0).state = .ready ∧ (u.xferAt 0).got = (b.xferAt 0).got ∧ (∀ j, j ≠ 0 →
    u.xferAt j = b.xferAt j))

/-- The new SUP that adopts the handover within 2 s runs on trial in the other bank; a bad one, or one too late, has PMU restart
SUP, on the KZV-1024 RECOVERY; SP not back in 300 ms halts the strings; a trial that meets its criteria for its dwell is
confirmed, and falls back when its window ends or its processor restarts from a fault; without a runnable SUP or SP the unit
goes to RECOVERY; monitors and drivers are served one after the other, and one that refuses, or does not return within 400
ms, stops the activation. -/
def Obligations.UpdateEvents : Prop :=
  (∀ (t : Nat) (s : State) (a : Activation), let b := s.advance t; b.upd.act = some a → a.part = 1 → a.stage = 1 →
    b.hpr.handover = true → b.clk ≤ b.upd.handoverT + 2 * nsS → Does (.supHandoverAdopt t true) s fun u => u.hpr.handover =
    false ∧ u.upd.act = none ∧ u.upd.sup.trial = true ∧ u.upd.sup.active = targetBank b 1 ∧ u.upd.sup.deadline = b.clk + 600
    * nsS ∧ u.upd.sup.inForce = (b.xferAt a.transfer).image ∧ u.unit = b.unit) ∧
  (∀ (t : Nat) (s : State) (a : Activation), let b := s.advance t; b.upd.act = some a → a.part = 1 → b.variant = .kzv4096 →
    b.hpr.handover = true → Does (.supHandoverAdopt t false) s fun u => u.hpr.handover = false ∧ u.upd.act = none ∧
    u.pwr.supLost = true ∧ u.pwr.supRestarting = true) ∧
  (∀ (t : Nat) (s : State) (a : Activation), let b := s.advance t; b.upd.act = some a → a.part = 1 → b.variant = .kzv1024 →
    b.hpr.handover = true → b.upd.handoverT + 2 * nsS ≤ b.clk → Does (.handoverWindowExceeded t) s fun u => u.hpr.handover =
    false ∧ u.upd.act = none ∧ u.unit = .recovery ∧ u.red.beatsOn = false) ∧
  (∀ (t : Nat) (s : State) (a : Activation) (e : Nat), let b := s.advance t; b.upd.act = some a → a.part = 2 → a.stage = 1 →
    b.variant = .kzv4096 → b.saf.sloe.singleUntil = some e → b.saf.sp.alive = false → e ≤ b.clk → imageOk b (b.upd.sp.bank
    b.upd.sp.active) = true → b.upd.sp.active ≤ 1 → Does (.spActivationTimeout t) s fun u => u.saf.sp.alive = true ∧
    u.saf.sloe.singleUntil = none ∧ u.upd.act = none ∧ (u.upd.sp.bank (1 - b.upd.sp.active)).valid = false ∧ (∀ i, i <
    b.strings → i < b.str.length → (b.strAt i).state = .regulating → (u.strAt i).state = .halted)) ∧
  (∀ (t : Nat) (s : State), let b := s.advance t; b.upd.sup.trial = true → b.hpr.handover = false → b.clk <
    b.upd.sup.deadline → healthy b 1 = true → heldFor b b.upd.sup.okSince (b.upd.sup.dwell * 60 * nsS) = true →
    b.upd.sup.needHost = false → b.upd.sup.swapOn = false → Does (.trialConfirmation t 1) s fun u => u.upd.sup.trial =
    false ∧ u.upd.sup.active = b.upd.sup.active ∧ u.upd.floor = (if b.upd.sup.inForce.flags.testBit 0 then max b.upd.floor
    b.upd.sup.inForce.svn else b.upd.floor) ∧ u.unit = b.unit) ∧
  (∀ (t : Nat) (s : State), let b := s.advance t; b.upd.app.trial = true → b.hpr.handover = false → b.clk <
    b.upd.app.deadline → healthy b 3 = false → Does (.trialConfirmation t 3) s fun u => u.upd.app.trial = true ∧
    u.upd.app.okSince = none ∧ u.unit = b.unit) ∧
  (∀ (t : Nat) (s : State), let b := s.advance t; b.upd.app.trial = true → b.upd.act = none → b.upd.app.deadline ≤ b.clk →
    b.upd.app.active ≤ 1 → fallbackOk b 3 = true → Does (.trialWindowExpiry t 3) s fun u => u.upd.app.trial = false ∧
    u.upd.app.active = 1 - b.upd.app.active ∧ (u.upd.app.bank b.upd.app.active).valid = false) ∧
  (∀ (t : Nat) (s : State), let b := s.advance t; b.upd.sup.trial = true → b.upd.act = none → b.pwr.supLost = true →
    b.upd.sup.active ≤ 1 → fallbackOk b 1 = true → Does (.fallback t 1) s fun u => u.upd.sup.trial = false ∧
    u.upd.sup.active = 1 - b.upd.sup.active ∧ (u.upd.sup.bank b.upd.sup.active).valid = false ∧ u.hpr.handover =
    b.hpr.handover) ∧
  (∀ (t : Nat) (s : State), let b := s.advance t; b.unit.isRole = true → b.unit.commands = false → b.upd.recT = none →
    (runnable b 1 && runnable b 2) = false → Does (.recoveryEntry t) s fun u => u.unit = .recovery ∧ u.red.beatsOn = false ∧
    u.hpr.handover = false) ∧
  (∀ (t : Nat) (s : State), let b := s.advance t; b.unit.isRole = true → b.upd.recT = none → runnable b 1 = true → runnable b
    2 = true → Does (.recoveryEntry t) s fun u => u = b) ∧
  (∀ (t : Nat) (s : State), let b := s.advance t; b.unit = .boot → b.upd.checked = false → b.upd.sup.trial = false →
    b.upd.sp.trial = false → b.upd.app.trial = false → imageOk b b.upd.sup.inForce = true → imageOk b b.upd.sp.inForce =
    true → imageOk b b.upd.app.inForce = true → Does (.imageBootCheck t) s fun u => u = b.setUpd (fun x =>
    { x with checked := true })) ∧
  (∀ (t : Nat) (s : State), let b := s.advance t; b.unit = .boot → b.upd.checked = false → b.upd.sup.trial = false → imageOk b
    b.upd.sup.inForce = false → fallbackOk b 1 = false → Does (.imageBootCheck t) s fun u => u.unit = .recovery) ∧
  (∀ (t : Nat) (s : State) (i m len : Nat), let b := s.advance t; b.isStr i = true → CanCommand b i m → fwServed b i m =
    true → 0 < len → len ≤ 1048576 → Does (.fwBegin t i m len) s fun u => Sent b u i m 10 1 ∧ (if ackResult (b.monAt i m)
    true 0 = 0 then (u.monAt i m).fw = { len := len } else (u.monAt i m).fw = (b.monAt i m).fw) ∧ u.str = b.str) ∧
  (∀ (t : Nat) (s : State) (i m : Nat) (x : List Byte), let b := s.advance t; b.isStr i = true → CanCommand b i m → fwServed b
    i m = true → 0 < x.length → x.length ≤ 256 → (b.monAt i m).fw.next + x.length ≤ (b.monAt i m).fw.len → ackResult
    (b.monAt i m) true 0 = 0 → Does (.fwData t i m (b.monAt i m).fw.next x) s fun u => Sent b u i m 10 2 ∧ (u.monAt i
    m).fw.bytes = (b.monAt i m).fw.bytes ++ x ∧ (u.monAt i m).fw.next = (b.monAt i m).fw.next + x.length) ∧
  (∀ (t : Nat) (s : State) (i m : Nat), let b := s.advance t; b.isStr i = true → CanCommand b i m → fwServed b i m = true →
    (b.monAt i m).fw.next = (b.monAt i m).fw.len → (b.monAt i m).fw.len ≠ 0 → ackResult (b.monAt i m) true 0 = 0 → Does
    (.fwEnd t i m (crc32c (b.monAt i m).fw.bytes)) s fun u => Sent b u i m 10 3 ∧ (u.monAt i m).fw.checked = true ∧ (u.monAt
    i m).fw.bytes = (b.monAt i m).fw.bytes) ∧
  (∀ (t : Nat) (s : State) (i m : Nat) (ok : Bool), let b := s.advance t; b.isStr i = true → CanCommand b i m → fwServed b i m
    = true → (b.monAt i m).fw.checked = true → ackResult (b.monAt i m) true 0 = 0 → Does (.fwSwitch t i m ok) s fun u =>
    Sent b u i m 10 4 ∧ (u.monAt i m).fw.switchedT = some b.clk ∧ (u.monAt i m).fw.failed = !ok ∧ (u.monAt i m).position =
    none ∧ (u.monAt i m).restarted = true) ∧
  (∀ (t : Nat) (s : State) (i m : Nat) (a : Activation), let b := s.advance t; b.upd.act = some a → a.part = 5 → b.isStr i =
    true → HasMon b i m → heldFor b (b.monAt i m).fw.switchedT (400 * nsMs) = true → b.retired (uMon i m) = false →
    b.suspended (uMon i m) = false → Does (.monitorReturnTimeout t i m) s fun u => u.upd.act = none ∧ (u.monAt i
    m).fw.switchedT = none ∧ u.suspended (uMon i m) = true) ∧
  (∀ (t : Nat) (s : State) (n : Nat) (a : Activation), let b := s.advance t; b.upd.act = some a → a.part = 6 → n <
    b.gx2.length → (driverOrder b 6 a.target)[a.count]? = some n → (b.strAt (n / 4)).state ≠ .regulating → a.count + 1 <
    (driverOrder b 6 a.target).length → Does (.driverConfigLoad t false n true) s fun u => (u.gx2At n).configLoaded = true ∧
    u.upd.act = some { a with count := a.count + 1 } ∧ u.str = b.str) ∧
  (∀ (t : Nat) (s : State) (n : Nat) (a : Activation), let b := s.advance t; b.upd.act = some a → a.part = 6 → (driverOrder b
    6 a.target)[a.count]? = some n → (b.strAt (n / 4)).state ≠ .regulating → Does (.driverConfigLoad t false n false) s fun
    u => u.upd.act = none ∧ u.gx2 = b.gx2 ∧ u.str = b.str)

/-- A step takes the command at the front of the queue and answers what exec answers for it on the state with the rest of the
queue; on an empty queue the block idles (the model's choice, log entry 16). -/
def Obligations.StepRunsTheFront : Prop :=
  (∀ (c : Instr) (s : State) (l : List Instr), s.pending = c :: l → step s = exec c { s with pending := l }) ∧
  (∀ (s : State), s.pending = [] → step s = .next s)

/-- After reset the unit is OFF and unpowered, no command waits, both memories list nothing, every list has the length of its
population, the books balance, the log is in order, every string is ISOLATED, and every interrupt source is masked but those
of HOST 0 to 2. That memory lists nothing and where the machine starts are the model's choice (log entry 4). -/
def Obligations.ResetState : Prop :=
  (∀ (i : Nat), i < 8 → State.reset.pending = [] ∧ State.reset.unit = .off ∧ State.reset.pwr.state = .unpowered ∧
    State.reset.mem = [] ∧ State.reset.canRam = [] ∧ Sized State.reset ∧ BooksBalance State.reset ∧ LogOk State.reset.plg ∧
    (State.reset.strAt i).state = .isolated) ∧
  (∀ (g : Target) (n : Nat), n < 256 → (State.reset.srcAt g n).mask = !(g == .host && decide (n < 3)) ∧ (State.reset.srcAt g
    n).pend = false ∧ (State.reset.srcAt g n).active = none)

/-- From any state whose slots, window and CAN message RAM are in canonical form, a step of any command leaves them so. -/
def Obligations.StepKeepsMemory : Prop :=
  (∀ (s u : State), MemOk s → step s = .next u → MemOk u)

/-- From any state whose lists have the lengths of their populations (strings, rings, monitors, phases, drivers, inputs,
channels, rails, triggers, ports, controllers, descriptors, slots, sources and transfers), a step of any command leaves
every one with that length. -/
def Obligations.StepKeepsSizes : Prop :=
  (∀ (s u : State), Sized s → step s = .next u → Sized u)

/-- Every step keeps drawn − returned = into_cells − out_of_cells + loss for each string. Booking a reading changes the charge
booked to the string's cells by the change of into_cells less that of out_of_cells, of bled and of unattributed. -/
def Obligations.TheBooksBalance : Prop :=
  (∀ (s u : State), BooksBalance s → step s = .next u → BooksBalance u) ∧
  (∀ (s : State) (i m : Nat) (p d : RoundData) (cmd : Int) (dt : Nat), i < s.bal.length → m < 16 → p.shuttleCh = 255 ∨
    p.shuttleCh < 32 → d.shuttleCh = 255 ∨ d.shuttleCh < 32 → let l := (s.balAt i).ledger;
    let u := bookReading s i m (some p) d cmd dt; let n := (u.balAt i).ledger; bookedToCells u i - bookedToCells s i =
    ((n.intoCells : Int) - l.intoCells) - ((n.outOfCells : Int) - l.outOfCells) - ((n.bled : Int) - l.bled) -
    (n.unattributed - l.unattributed))

/-- LOG_GET_STATUS answers the Peat log status. From any state whose log holds at index i, below next_index, the record of seq
base_seq + i modulo 2³², a step of any command leaves a log that does. -/
def Obligations.LogRecordsCountOn : Prop :=
  (∀ (s : State) (q : Req), Taken s q → s.unit.isRole = true ∨ s.unit = .safeHold ∨ s.unit = .recovery → q.payload = [] → Does
    (.logGetStatus q) s fun u => Answered u q 0x1001 stOk 0 (logStatus s) ∧ u.plg = s.plg) ∧
  (∀ (s u : State), LogOk s.plg → step s = .next u → LogOk u.plg)

/-- A unit that is retired is retired after any command, but after the outcome "pass" of its own test under a restoring command. -/
def Obligations.RetirementLasts : Prop :=
  (∀ (c : Instr) (s v : State) (u : Nat), s.retired u = true → exec c s = .next v → v.retired u = true ∨ ∃ t, c =
    .selfTestOutcome t u 0 ∧ ∃ e ∈ s.flt.susp, e.unit = u ∧ e.testing = true ∧ e.restoring = true)

/-- Whatever command runs, every part of the state that is not among those it may change is as before. The list of parts of each
command is read from what the manual gives it to do. -/
def Obligations.OnlyItsParts : Prop :=
  (∀ (c : Instr) (s u : State), exec c s = .next u → ∀ p : Piece, p ∉ changes c → p.same s u)

/-- Every command answers a next state from every state; the queue and the variant are as before, and time never goes back. -/
def Obligations.EveryCommandGoesOn : Prop :=
  (∀ (c : Instr) (s : State), ∃ u, exec c s = .next u ∧ u.pending = s.pending ∧ u.variant = s.variant ∧ s.clk ≤ u.clk)

/-- SYS_SET_SLOTS, SYS_RESTART, NET_SET_MGMT, TIM_DELEGATE, CAN_DELEGATE, UPD_ACTIVATE and UPD_CONFIRM from APP complete with
PORT_DENIED, after the one check of an earlier status that they have (the length), and change nothing but the answer. -/
def Obligations.AppIsDenied : Prop :=
  (∀ (s : State) (q : Req), takes s = true → cacheHit s 0x010F q = none → execHit s 0x010F q = false → q.port = .app → Does
    (.sysSetSlots q) s fun u => (if q.payload.length = 4 then Answered u q 0x010F stPort 0 [] else Answered u q 0x010F
    stBadLength 4 []) ∧ HostOnly s u) ∧
  (∀ (s : State) (q : Req), takes s = true → cacheHit s 0x0104 q = none → execHit s 0x0104 q = false → q.port = .app → Does
    (.sysRestart q) s fun u => (if q.payload.length = 0 then Answered u q 0x0104 stPort 0 [] else Answered u q 0x0104
    stBadLength 0 []) ∧ HostOnly s u) ∧
  (∀ (s : State) (q : Req), takes s = true → cacheHit s 0x0E04 q = none → execHit s 0x0E04 q = false → q.port = .app → Does
    (.netSetMgmt q) s fun u => (if q.payload.length = 40 then Answered u q 0x0E04 stPort 0 [] else Answered u q 0x0E04
    stBadLength 40 []) ∧ HostOnly s u) ∧
  (∀ (s : State) (q : Req), takes s = true → cacheHit s 0x0D0A q = none → execHit s 0x0D0A q = false → q.port = .app → Does
    (.timDelegate q) s fun u => (if q.payload.length = 5 then Answered u q 0x0D0A stPort 0 [] else Answered u q 0x0D0A
    stBadLength 5 []) ∧ HostOnly s u) ∧
  (∀ (s : State) (q : Req), takes s = true → cacheHit s 0x0F07 q = none → execHit s 0x0F07 q = false → q.port = .app → Does
    (.canDelegate q) s fun u => (if q.payload.length = 2 then Answered u q 0x0F07 stPort 0 [] else Answered u q 0x0F07
    stBadLength 2 []) ∧ HostOnly s u) ∧
  (∀ (s : State) (q : Req), takes s = true → cacheHit s 0x1106 q = none → execHit s 0x1106 q = false → q.port = .app → Does
    (.updActivate q) s fun u => (if q.payload.length = 4 then Answered u q 0x1106 stPort 0 [] else Answered u q 0x1106
    stBadLength 4 []) ∧ HostOnly s u) ∧
  (∀ (s : State) (q : Req), takes s = true → cacheHit s 0x1107 q = none → execHit s 0x1107 q = false → q.port = .app → Does
    (.updConfirm q) s fun u => (if q.payload.length = 0 then Answered u q 0x1107 stPort 0 [] else Answered u q 0x1107
    stBadLength 0 []) ∧ HostOnly s u)

/-- A masked source is eligible on no target. Setting and clearing masks change neither pending nor active states. When a source
is masked while its decision is latched, the next claim reads 0 and its pending bit stays. -/
def Obligations.MaskBits : Prop :=
  (∀ (s : State) (g : Target) (n : Nat), (s.srcAt g n).mask = true → eligible s g n = false ∧ bestSource s g ≠ some n) ∧
  (∀ (t : Nat) (s : State) (g : Target) (w : Nat) (m : BitVec 32), let b := s.advance t; BanksOk b → w < 8 → Does (.icuMaskSet
    t g w m) s fun u => (∀ k ∈ List.range 256, (u.srcAt g k).mask = if InMask b g w m k then true else (b.srcAt g k).mask) ∧
    ∀ k ∈ List.range 256, (u.srcAt g k).pend = (b.srcAt g k).pend ∧ (u.srcAt g k).active = (b.srcAt g k).active) ∧
  (∀ (t : Nat) (s : State) (g : Target) (w : Nat) (m : BitVec 32), let b := s.advance t; BanksOk b → w < 8 → Does (.icuMaskClr
    t g w m) s fun u => (∀ k ∈ List.range 256, (u.srcAt g k).mask = if InMask b g w m k then false else (b.srcAt g
    k).mask) ∧ ∀ k ∈ List.range 256, (u.srcAt g k).pend = (b.srcAt g k).pend ∧ (u.srcAt g k).active = (b.srcAt g k).active) ∧
  (∀ (s : State) (t t2 : Nat) (g : Target) (w n : Nat) (m : BitVec 32), BanksOk s → w < 8 → (s.tgt g).deliv = some n → InMask
    s g w m n → (s.srcAt g n).pend = true → ∃ u v, exec (.icuMaskSet t g w m) s = .next u ∧ exec (.icuClaimRead t2 g) u =
    .next v ∧ (v.tgt g).claim = 0 ∧ (v.tgt g).deliv = none ∧ (v.srcAt g n).pend = true)

/-- A command that a check rejects is answered with the first status that applies and its detail, for STATE_CONFLICT with
HPR_UNIT, and changes nothing beside the answer and the Peat log. A STANDBY unit rejects the commands that move a string
with STATE_CONFLICT, detail its unit code. -/
def Obligations.Rejections : Prop :=
  (∀ (sp : Spec) (run : State → Req → State) (s : State) (q : Req) (st d : Nat), Taken s q → rejection sp s q = some (st, d) →
    ∃ u, command sp run q s = .next u ∧ Answered u q sp.op st d (if st = stState then leU 4 (hprUnit s) else []) ∧ u =
    { touch s with hpr := u.hpr, mem := u.mem, icu := u.icu, plg := u.plg } ∧ (st ≠ stState → u.plg = s.plg)) ∧
  (∀ (s : State) (q : Req), Taken s q → s.unit = .standby → q.payload.length = 4 → getU q.payload 0 1 = 0xFF ∨ getU q.payload
    0 1 < s.strings → Does (.strConnect q) s fun u => Answered u q 0x0202 stState 4 (leU 4 (hprUnit s)) ∧ u =
    { touch s with hpr := u.hpr, mem := u.mem, icu := u.icu, plg := u.plg }) ∧
  (∀ (s : State) (q : Req), Taken s q → s.unit = .standby → q.payload.length = 4 → getU q.payload 0 1 = 0xFF ∨ getU q.payload
    0 1 < s.strings → Does (.strDisconnect q) s fun u => Answered u q 0x0203 stState 4 (leU 4 (hprUnit s)) ∧ u =
    { touch s with hpr := u.hpr, mem := u.mem, icu := u.icu, plg := u.plg }) ∧
  (∀ (s : State) (q : Req), Taken s q → s.unit = .standby → q.payload.length = 4 → getU q.payload 0 1 = 0xFF ∨ getU q.payload
    0 1 < s.strings → Does (.strRegulate q) s fun u => Answered u q 0x0204 stState 4 (leU 4 (hprUnit s)) ∧ u =
    { touch s with hpr := u.hpr, mem := u.mem, icu := u.icu, plg := u.plg }) ∧
  (∀ (s : State) (q : Req), Taken s q → s.unit = .standby → q.payload.length = 4 → getU q.payload 0 1 = 0xFF ∨ getU q.payload
    0 1 < s.strings → Does (.strIdle q) s fun u => Answered u q 0x0205 stState 4 (leU 4 (hprUnit s)) ∧ u =
    { touch s with hpr := u.hpr, mem := u.mem, icu := u.icu, plg := u.plg }) ∧
  (∀ (s : State) (q : Req), Taken s q → s.unit = .standby → q.payload.length = 4 → getU q.payload 0 1 = 0xFF ∨ getU q.payload
    0 1 < s.strings → Does (.strReset q) s fun u => Answered u q 0x0206 stState 4 (leU 4 (hprUnit s)) ∧ u =
    { touch s with hpr := u.hpr, mem := u.mem, icu := u.icu, plg := u.plg }) ∧
  (∀ (s : State) (q : Req), Taken s q → s.unit = .standby → q.payload.length = 4 → getU q.payload 0 1 = 0xFF ∨ getU q.payload
    0 1 < s.strings → Does (.strRetire q) s fun u => Answered u q 0x0207 stState 4 (leU 4 (hprUnit s)) ∧ u =
    { touch s with hpr := u.hpr, mem := u.mem, icu := u.icu, plg := u.plg }) ∧
  (∀ (s : State) (q : Req), Taken s q → s.unit = .standby → q.payload.length = 4 → getU q.payload 0 1 = 0xFF ∨ getU q.payload
    0 1 < s.strings → Does (.strRestore q) s fun u => Answered u q 0x0208 stState 4 (leU 4 (hprUnit s)) ∧ u =
    { touch s with hpr := u.hpr, mem := u.mem, icu := u.icu, plg := u.plg })

/-- SYS_WIN_ALLOC rounds the size up to a multiple of 4 KiB, rejects one outside 4 KiB to 16 MiB, hands out a free descriptor,
own 0, onto free space in the pool of the issuing port where both exist, and otherwise completes with RESOURCE. -/
def Obligations.WindowAllocation : Prop :=
  (∀ (s : State) (q : Req) (n : Nat), Taken s q → s.unit.isRole = true ∨ s.unit = .safeHold ∨ s.unit = .recovery →
    q.payload.length = 4 → getU q.payload 0 4 = n → 4096 ≤ (n + 4095) / 4096 * 4096 → (n + 4095) / 4096 * 4096 ≤ 0x1000000 →
    s.hpr.desc.length = 256 → (∃ o, FreeRun s q.port ((n + 4095) / 4096 * 4096) o) → (∃ e ∈ s.hpr.desc, e.kind = 0) → Does
    (.sysWinAlloc q) s fun u => ∃ d, d < 256 ∧ (s.desc d).kind = 0 ∧ (u.desc d).own = false ∧ (u.desc d).kind = 1 ∧ (u.desc
    d).requester = portCode q.port ∧ (u.desc d).size = (n + 4095) / 4096 * 4096 ∧ FreeRun s q.port ((n + 4095) / 4096 *
    4096) (u.desc d).offset ∧ Answered u q 0x010D stOk 0 (leU 2 d ++ [0, 0] ++ leU 4 (u.desc d).offset ++ leU 4 (u.desc
    d).size) ∧ HostOnly s u) ∧
  (∀ (s : State) (q : Req) (n : Nat), Taken s q → s.unit.isRole = true ∨ s.unit = .safeHold ∨ s.unit = .recovery →
    q.payload.length = 4 → getU q.payload 0 4 = n → (n + 4095) / 4096 * 4096 < 4096 ∨ 0x1000000 < (n + 4095) / 4096 * 4096 →
    Does (.sysWinAlloc q) s fun u => Answered u q 0x010D stArg 0 [] ∧ HostOnly s u) ∧
  (∀ (s : State) (q : Req) (n : Nat), Taken s q → s.unit.isRole = true ∨ s.unit = .safeHold ∨ s.unit = .recovery →
    q.payload.length = 4 → getU q.payload 0 4 = n → 4096 ≤ (n + 4095) / 4096 * 4096 → (n + 4095) / 4096 * 4096 ≤ 0x1000000 →
    s.hpr.desc.length = 256 → ((∀ o, ¬ FreeRun s q.port ((n + 4095) / 4096 * 4096) o) ∨ (∀ e ∈ s.hpr.desc, e.kind ≠ 0)) →
    Does (.sysWinAlloc q) s fun u => Answered u q 0x010D stResource 0 [] ∧ HostOnly s u)
end

