-- ==== Sys2Proof/Laws/State.lean ====
section
/-! SUPPORT. What each update of a part of the state leaves alone and what it sets: simp splits a `_keeps` law into one
rule for each field. Laws that push a field through a conditional and a fold. -/

namespace Sys2Proof.Machine

theorem foldl_proj {α β γ : Type} (p : α → γ) (f : α → β → α) (h : ∀ a b, p (f a b) = p a) (l : List β) :
    ∀ a : α, p (l.foldl f a) = p a := by
  induction l with
  | nil => intro a; rfl
  | cons b t ih => intro a; simp only [List.foldl_cons]; rw [ih, h]

@[simp] theorem foldl_pending {β : Type} (f : State → β → State) (h : ∀ s b, (f s b).pending = s.pending) (l : List β) (s : State) :
    (l.foldl f s).pending = s.pending := foldl_proj State.pending f h l s
@[simp] theorem ite_pending (c : Prop) [Decidable c] (a b : State) :
    (if c then a else b).pending = if c then a.pending else b.pending := by split <;> rfl
@[simp] theorem foldl_variant {β : Type} (f : State → β → State) (h : ∀ s b, (f s b).variant = s.variant) (l : List β) (s : State) :
    (l.foldl f s).variant = s.variant := foldl_proj State.variant f h l s
@[simp] theorem ite_variant (c : Prop) [Decidable c] (a b : State) :
    (if c then a else b).variant = if c then a.variant else b.variant := by split <;> rfl
@[simp] theorem foldl_clk {β : Type} (f : State → β → State) (h : ∀ s b, (f s b).clk = s.clk) (l : List β) (s : State) :
    (l.foldl f s).clk = s.clk := foldl_proj State.clk f h l s
@[simp] theorem ite_clk (c : Prop) [Decidable c] (a b : State) :
    (if c then a else b).clk = if c then a.clk else b.clk := by split <;> rfl
@[simp] theorem foldl_unit {β : Type} (f : State → β → State) (h : ∀ s b, (f s b).unit = s.unit) (l : List β) (s : State) :
    (l.foldl f s).unit = s.unit := foldl_proj State.unit f h l s
@[simp] theorem ite_unit (c : Prop) [Decidable c] (a b : State) :
    (if c then a else b).unit = if c then a.unit else b.unit := by split <;> rfl
@[simp] theorem foldl_str {β : Type} (f : State → β → State) (h : ∀ s b, (f s b).str = s.str) (l : List β) (s : State) :
    (l.foldl f s).str = s.str := foldl_proj State.str f h l s
@[simp] theorem ite_str (c : Prop) [Decidable c] (a b : State) :
    (if c then a else b).str = if c then a.str else b.str := by split <;> rfl
@[simp] theorem foldl_pwr {β : Type} (f : State → β → State) (h : ∀ s b, (f s b).pwr = s.pwr) (l : List β) (s : State) :
    (l.foldl f s).pwr = s.pwr := foldl_proj State.pwr f h l s
@[simp] theorem ite_pwr (c : Prop) [Decidable c] (a b : State) :
    (if c then a else b).pwr = if c then a.pwr else b.pwr := by split <;> rfl
@[simp] theorem foldl_hvi {β : Type} (f : State → β → State) (h : ∀ s b, (f s b).hvi = s.hvi) (l : List β) (s : State) :
    (l.foldl f s).hvi = s.hvi := foldl_proj State.hvi f h l s
@[simp] theorem ite_hvi (c : Prop) [Decidable c] (a b : State) :
    (if c then a else b).hvi = if c then a.hvi else b.hvi := by split <;> rfl
@[simp] theorem foldl_hviStr {β : Type} (f : State → β → State) (h : ∀ s b, (f s b).hviStr = s.hviStr) (l : List β) (s : State) :
    (l.foldl f s).hviStr = s.hviStr := foldl_proj State.hviStr f h l s
@[simp] theorem ite_hviStr (c : Prop) [Decidable c] (a b : State) :
    (if c then a else b).hviStr = if c then a.hviStr else b.hviStr := by split <;> rfl
@[simp] theorem foldl_rings {β : Type} (f : State → β → State) (h : ∀ s b, (f s b).rings = s.rings) (l : List β) (s : State) :
    (l.foldl f s).rings = s.rings := foldl_proj State.rings f h l s
@[simp] theorem ite_rings (c : Prop) [Decidable c] (a b : State) :
    (if c then a else b).rings = if c then a.rings else b.rings := by split <;> rfl
@[simp] theorem foldl_cee {β : Type} (f : State → β → State) (h : ∀ s b, (f s b).cee = s.cee) (l : List β) (s : State) :
    (l.foldl f s).cee = s.cee := foldl_proj State.cee f h l s
@[simp] theorem ite_cee (c : Prop) [Decidable c] (a b : State) :
    (if c then a else b).cee = if c then a.cee else b.cee := by split <;> rfl
@[simp] theorem foldl_tpe {β : Type} (f : State → β → State) (h : ∀ s b, (f s b).tpe = s.tpe) (l : List β) (s : State) :
    (l.foldl f s).tpe = s.tpe := foldl_proj State.tpe f h l s
@[simp] theorem ite_tpe (c : Prop) [Decidable c] (a b : State) :
    (if c then a else b).tpe = if c then a.tpe else b.tpe := by split <;> rfl
@[simp] theorem foldl_th {β : Type} (f : State → β → State) (h : ∀ s b, (f s b).th = s.th) (l : List β) (s : State) :
    (l.foldl f s).th = s.th := foldl_proj State.th f h l s
@[simp] theorem ite_th (c : Prop) [Decidable c] (a b : State) :
    (if c then a else b).th = if c then a.th else b.th := by split <;> rfl
@[simp] theorem foldl_bal {β : Type} (f : State → β → State) (h : ∀ s b, (f s b).bal = s.bal) (l : List β) (s : State) :
    (l.foldl f s).bal = s.bal := foldl_proj State.bal f h l s
@[simp] theorem ite_bal (c : Prop) [Decidable c] (a b : State) :
    (if c then a else b).bal = if c then a.bal else b.bal := by split <;> rfl
@[simp] theorem foldl_dsp {β : Type} (f : State → β → State) (h : ∀ s b, (f s b).dsp = s.dsp) (l : List β) (s : State) :
    (l.foldl f s).dsp = s.dsp := foldl_proj State.dsp f h l s
@[simp] theorem ite_dsp (c : Prop) [Decidable c] (a b : State) :
    (if c then a else b).dsp = if c then a.dsp else b.dsp := by split <;> rfl
@[simp] theorem foldl_conv {β : Type} (f : State → β → State) (h : ∀ s b, (f s b).conv = s.conv) (l : List β) (s : State) :
    (l.foldl f s).conv = s.conv := foldl_proj State.conv f h l s
@[simp] theorem ite_conv (c : Prop) [Decidable c] (a b : State) :
    (if c then a else b).conv = if c then a.conv else b.conv := by split <;> rfl
@[simp] theorem foldl_phase {β : Type} (f : State → β → State) (h : ∀ s b, (f s b).phase = s.phase) (l : List β) (s : State) :
    (l.foldl f s).phase = s.phase := foldl_proj State.phase f h l s
@[simp] theorem ite_phase (c : Prop) [Decidable c] (a b : State) :
    (if c then a else b).phase = if c then a.phase else b.phase := by split <;> rfl
@[simp] theorem foldl_gx2 {β : Type} (f : State → β → State) (h : ∀ s b, (f s b).gx2 = s.gx2) (l : List β) (s : State) :
    (l.foldl f s).gx2 = s.gx2 := foldl_proj State.gx2 f h l s
@[simp] theorem ite_gx2 (c : Prop) [Decidable c] (a b : State) :
    (if c then a else b).gx2 = if c then a.gx2 else b.gx2 := by split <;> rfl
@[simp] theorem foldl_le {β : Type} (f : State → β → State) (h : ∀ s b, (f s b).le = s.le) (l : List β) (s : State) :
    (l.foldl f s).le = s.le := foldl_proj State.le f h l s
@[simp] theorem ite_le (c : Prop) [Decidable c] (a b : State) :
    (if c then a else b).le = if c then a.le else b.le := by split <;> rfl
@[simp] theorem foldl_saf {β : Type} (f : State → β → State) (h : ∀ s b, (f s b).saf = s.saf) (l : List β) (s : State) :
    (l.foldl f s).saf = s.saf := foldl_proj State.saf f h l s
@[simp] theorem ite_saf (c : Prop) [Decidable c] (a b : State) :
    (if c then a else b).saf = if c then a.saf else b.saf := by split <;> rfl
@[simp] theorem foldl_red {β : Type} (f : State → β → State) (h : ∀ s b, (f s b).red = s.red) (l : List β) (s : State) :
    (l.foldl f s).red = s.red := foldl_proj State.red f h l s
@[simp] theorem ite_red (c : Prop) [Decidable c] (a b : State) :
    (if c then a else b).red = if c then a.red else b.red := by split <;> rfl
@[simp] theorem foldl_rack {β : Type} (f : State → β → State) (h : ∀ s b, (f s b).rack = s.rack) (l : List β) (s : State) :
    (l.foldl f s).rack = s.rack := foldl_proj State.rack f h l s
@[simp] theorem ite_rack (c : Prop) [Decidable c] (a b : State) :
    (if c then a else b).rack = if c then a.rack else b.rack := by split <;> rfl
@[simp] theorem foldl_seq {β : Type} (f : State → β → State) (h : ∀ s b, (f s b).seq = s.seq) (l : List β) (s : State) :
    (l.foldl f s).seq = s.seq := foldl_proj State.seq f h l s
@[simp] theorem ite_seq (c : Prop) [Decidable c] (a b : State) :
    (if c then a else b).seq = if c then a.seq else b.seq := by split <;> rfl
@[simp] theorem foldl_tsu {β : Type} (f : State → β → State) (h : ∀ s b, (f s b).tsu = s.tsu) (l : List β) (s : State) :
    (l.foldl f s).tsu = s.tsu := foldl_proj State.tsu f h l s
@[simp] theorem ite_tsu (c : Prop) [Decidable c] (a b : State) :
    (if c then a else b).tsu = if c then a.tsu else b.tsu := by split <;> rfl
@[simp] theorem foldl_hpr {β : Type} (f : State → β → State) (h : ∀ s b, (f s b).hpr = s.hpr) (l : List β) (s : State) :
    (l.foldl f s).hpr = s.hpr := foldl_proj State.hpr f h l s
@[simp] theorem ite_hpr (c : Prop) [Decidable c] (a b : State) :
    (if c then a else b).hpr = if c then a.hpr else b.hpr := by split <;> rfl
@[simp] theorem foldl_net {β : Type} (f : State → β → State) (h : ∀ s b, (f s b).net = s.net) (l : List β) (s : State) :
    (l.foldl f s).net = s.net := foldl_proj State.net f h l s
@[simp] theorem ite_net (c : Prop) [Decidable c] (a b : State) :
    (if c then a else b).net = if c then a.net else b.net := by split <;> rfl
@[simp] theorem foldl_app {β : Type} (f : State → β → State) (h : ∀ s b, (f s b).app = s.app) (l : List β) (s : State) :
    (l.foldl f s).app = s.app := foldl_proj State.app f h l s
@[simp] theorem ite_app (c : Prop) [Decidable c] (a b : State) :
    (if c then a else b).app = if c then a.app else b.app := by split <;> rfl
@[simp] theorem foldl_icu {β : Type} (f : State → β → State) (h : ∀ s b, (f s b).icu = s.icu) (l : List β) (s : State) :
    (l.foldl f s).icu = s.icu := foldl_proj State.icu f h l s
@[simp] theorem ite_icu (c : Prop) [Decidable c] (a b : State) :
    (if c then a else b).icu = if c then a.icu else b.icu := by split <;> rfl
@[simp] theorem foldl_flt {β : Type} (f : State → β → State) (h : ∀ s b, (f s b).flt = s.flt) (l : List β) (s : State) :
    (l.foldl f s).flt = s.flt := foldl_proj State.flt f h l s
@[simp] theorem ite_flt (c : Prop) [Decidable c] (a b : State) :
    (if c then a else b).flt = if c then a.flt else b.flt := by split <;> rfl
@[simp] theorem foldl_plg {β : Type} (f : State → β → State) (h : ∀ s b, (f s b).plg = s.plg) (l : List β) (s : State) :
    (l.foldl f s).plg = s.plg := foldl_proj State.plg f h l s
@[simp] theorem ite_plg (c : Prop) [Decidable c] (a b : State) :
    (if c then a else b).plg = if c then a.plg else b.plg := by split <;> rfl
@[simp] theorem foldl_upd {β : Type} (f : State → β → State) (h : ∀ s b, (f s b).upd = s.upd) (l : List β) (s : State) :
    (l.foldl f s).upd = s.upd := foldl_proj State.upd f h l s
@[simp] theorem ite_upd (c : Prop) [Decidable c] (a b : State) :
    (if c then a else b).upd = if c then a.upd else b.upd := by split <;> rfl
@[simp] theorem foldl_mem {β : Type} (f : State → β → State) (h : ∀ s b, (f s b).mem = s.mem) (l : List β) (s : State) :
    (l.foldl f s).mem = s.mem := foldl_proj State.mem f h l s
@[simp] theorem ite_mem (c : Prop) [Decidable c] (a b : State) :
    (if c then a else b).mem = if c then a.mem else b.mem := by split <;> rfl
@[simp] theorem foldl_canRam {β : Type} (f : State → β → State) (h : ∀ s b, (f s b).canRam = s.canRam) (l : List β) (s : State) :
    (l.foldl f s).canRam = s.canRam := foldl_proj State.canRam f h l s
@[simp] theorem ite_canRam (c : Prop) [Decidable c] (a b : State) :
    (if c then a else b).canRam = if c then a.canRam else b.canRam := by split <;> rfl
@[simp] theorem foldl_free {β : Type} (f : State → β → State) (h : ∀ s b, (f s b).free = s.free) (l : List β) (s : State) :
    (l.foldl f s).free = s.free := foldl_proj State.free f h l s
@[simp] theorem ite_free (c : Prop) [Decidable c] (a b : State) :
    (if c then a else b).free = if c then a.free else b.free := by split <;> rfl

@[simp] theorem State.modStr_keeps (s : State) (i : Nat) (f : Str → Str) :
    (State.modStr s i f).pending = s.pending ∧ (State.modStr s i f).variant = s.variant ∧
    (State.modStr s i f).clk = s.clk ∧ (State.modStr s i f).unit = s.unit ∧ (State.modStr s i f).pwr = s.pwr ∧
    (State.modStr s i f).hvi = s.hvi ∧ (State.modStr s i f).hviStr = s.hviStr ∧
    (State.modStr s i f).rings = s.rings ∧ (State.modStr s i f).cee = s.cee ∧ (State.modStr s i f).tpe = s.tpe ∧
    (State.modStr s i f).th = s.th ∧ (State.modStr s i f).bal = s.bal ∧ (State.modStr s i f).dsp = s.dsp ∧
    (State.modStr s i f).conv = s.conv ∧ (State.modStr s i f).phase = s.phase ∧ (State.modStr s i f).gx2 = s.gx2 ∧
    (State.modStr s i f).le = s.le ∧ (State.modStr s i f).saf = s.saf ∧ (State.modStr s i f).red = s.red ∧
    (State.modStr s i f).rack = s.rack ∧ (State.modStr s i f).seq = s.seq ∧ (State.modStr s i f).tsu = s.tsu ∧
    (State.modStr s i f).hpr = s.hpr ∧ (State.modStr s i f).net = s.net ∧ (State.modStr s i f).app = s.app ∧
    (State.modStr s i f).icu = s.icu ∧ (State.modStr s i f).flt = s.flt ∧ (State.modStr s i f).plg = s.plg ∧
    (State.modStr s i f).upd = s.upd ∧ (State.modStr s i f).mem = s.mem ∧ (State.modStr s i f).canRam = s.canRam ∧
    (State.modStr s i f).free = s.free := by
  exact ⟨rfl, rfl, rfl, rfl, rfl, rfl, rfl, rfl, rfl, rfl, rfl, rfl, rfl, rfl, rfl, rfl, rfl, rfl, rfl, rfl, rfl, rfl, rfl, rfl, rfl, rfl, rfl, rfl, rfl, rfl, rfl, rfl⟩

@[simp] theorem State.modHvi_keeps (s : State) (i : Nat) (f : HviStr → HviStr) :
    (State.modHvi s i f).pending = s.pending ∧ (State.modHvi s i f).variant = s.variant ∧
    (State.modHvi s i f).clk = s.clk ∧ (State.modHvi s i f).unit = s.unit ∧ (State.modHvi s i f).str = s.str ∧
    (State.modHvi s i f).pwr = s.pwr ∧ (State.modHvi s i f).hvi = s.hvi ∧ (State.modHvi s i f).rings = s.rings ∧
    (State.modHvi s i f).cee = s.cee ∧ (State.modHvi s i f).tpe = s.tpe ∧ (State.modHvi s i f).th = s.th ∧
    (State.modHvi s i f).bal = s.bal ∧ (State.modHvi s i f).dsp = s.dsp ∧ (State.modHvi s i f).conv = s.conv ∧
    (State.modHvi s i f).phase = s.phase ∧ (State.modHvi s i f).gx2 = s.gx2 ∧ (State.modHvi s i f).le = s.le ∧
    (State.modHvi s i f).saf = s.saf ∧ (State.modHvi s i f).red = s.red ∧ (State.modHvi s i f).rack = s.rack ∧
    (State.modHvi s i f).seq = s.seq ∧ (State.modHvi s i f).tsu = s.tsu ∧ (State.modHvi s i f).hpr = s.hpr ∧
    (State.modHvi s i f).net = s.net ∧ (State.modHvi s i f).app = s.app ∧ (State.modHvi s i f).icu = s.icu ∧
    (State.modHvi s i f).flt = s.flt ∧ (State.modHvi s i f).plg = s.plg ∧ (State.modHvi s i f).upd = s.upd ∧
    (State.modHvi s i f).mem = s.mem ∧ (State.modHvi s i f).canRam = s.canRam ∧ (State.modHvi s i f).free = s.free := by
  exact ⟨rfl, rfl, rfl, rfl, rfl, rfl, rfl, rfl, rfl, rfl, rfl, rfl, rfl, rfl, rfl, rfl, rfl, rfl, rfl, rfl, rfl, rfl, rfl, rfl, rfl, rfl, rfl, rfl, rfl, rfl, rfl, rfl⟩

@[simp] theorem State.modRing_keeps (s : State) (i : Nat) (f : Ring → Ring) :
    (State.modRing s i f).pending = s.pending ∧ (State.modRing s i f).variant = s.variant ∧
    (State.modRing s i f).clk = s.clk ∧ (State.modRing s i f).unit = s.unit ∧ (State.modRing s i f).str = s.str ∧
    (State.modRing s i f).pwr = s.pwr ∧ (State.modRing s i f).hvi = s.hvi ∧ (State.modRing s i f).hviStr = s.hviStr ∧
    (State.modRing s i f).cee = s.cee ∧ (State.modRing s i f).tpe = s.tpe ∧ (State.modRing s i f).th = s.th ∧
    (State.modRing s i f).bal = s.bal ∧ (State.modRing s i f).dsp = s.dsp ∧ (State.modRing s i f).conv = s.conv ∧
    (State.modRing s i f).phase = s.phase ∧ (State.modRing s i f).gx2 = s.gx2 ∧ (State.modRing s i f).le = s.le ∧
    (State.modRing s i f).saf = s.saf ∧ (State.modRing s i f).red = s.red ∧ (State.modRing s i f).rack = s.rack ∧
    (State.modRing s i f).seq = s.seq ∧ (State.modRing s i f).tsu = s.tsu ∧ (State.modRing s i f).hpr = s.hpr ∧
    (State.modRing s i f).net = s.net ∧ (State.modRing s i f).app = s.app ∧ (State.modRing s i f).icu = s.icu ∧
    (State.modRing s i f).flt = s.flt ∧ (State.modRing s i f).plg = s.plg ∧ (State.modRing s i f).upd = s.upd ∧
    (State.modRing s i f).mem = s.mem ∧ (State.modRing s i f).canRam = s.canRam ∧
    (State.modRing s i f).free = s.free := by
  exact ⟨rfl, rfl, rfl, rfl, rfl, rfl, rfl, rfl, rfl, rfl, rfl, rfl, rfl, rfl, rfl, rfl, rfl, rfl, rfl, rfl, rfl, rfl, rfl, rfl, rfl, rfl, rfl, rfl, rfl, rfl, rfl, rfl⟩

@[simp] theorem State.modMon_keeps (s : State) (i m : Nat) (f : Monitor → Monitor) :
    (State.modMon s i m f).pending = s.pending ∧ (State.modMon s i m f).variant = s.variant ∧
    (State.modMon s i m f).clk = s.clk ∧ (State.modMon s i m f).unit = s.unit ∧ (State.modMon s i m f).str = s.str ∧
    (State.modMon s i m f).pwr = s.pwr ∧ (State.modMon s i m f).hvi = s.hvi ∧
    (State.modMon s i m f).hviStr = s.hviStr ∧ (State.modMon s i m f).cee = s.cee ∧
    (State.modMon s i m f).tpe = s.tpe ∧ (State.modMon s i m f).th = s.th ∧ (State.modMon s i m f).bal = s.bal ∧
    (State.modMon s i m f).dsp = s.dsp ∧ (State.modMon s i m f).conv = s.conv ∧
    (State.modMon s i m f).phase = s.phase ∧ (State.modMon s i m f).gx2 = s.gx2 ∧ (State.modMon s i m f).le = s.le ∧
    (State.modMon s i m f).saf = s.saf ∧ (State.modMon s i m f).red = s.red ∧ (State.modMon s i m f).rack = s.rack ∧
    (State.modMon s i m f).seq = s.seq ∧ (State.modMon s i m f).tsu = s.tsu ∧ (State.modMon s i m f).hpr = s.hpr ∧
    (State.modMon s i m f).net = s.net ∧ (State.modMon s i m f).app = s.app ∧ (State.modMon s i m f).icu = s.icu ∧
    (State.modMon s i m f).flt = s.flt ∧ (State.modMon s i m f).plg = s.plg ∧ (State.modMon s i m f).upd = s.upd ∧
    (State.modMon s i m f).mem = s.mem ∧ (State.modMon s i m f).canRam = s.canRam ∧
    (State.modMon s i m f).free = s.free := by
  exact ⟨rfl, rfl, rfl, rfl, rfl, rfl, rfl, rfl, rfl, rfl, rfl, rfl, rfl, rfl, rfl, rfl, rfl, rfl, rfl, rfl, rfl, rfl, rfl, rfl, rfl, rfl, rfl, rfl, rfl, rfl, rfl, rfl⟩

@[simp] theorem State.modCell_keeps (s : State) (c : Nat) (f : Cell → Cell) :
    (State.modCell s c f).pending = s.pending ∧ (State.modCell s c f).variant = s.variant ∧
    (State.modCell s c f).clk = s.clk ∧ (State.modCell s c f).unit = s.unit ∧ (State.modCell s c f).str = s.str ∧
    (State.modCell s c f).pwr = s.pwr ∧ (State.modCell s c f).hvi = s.hvi ∧ (State.modCell s c f).hviStr = s.hviStr ∧
    (State.modCell s c f).rings = s.rings ∧ (State.modCell s c f).tpe = s.tpe ∧ (State.modCell s c f).th = s.th ∧
    (State.modCell s c f).bal = s.bal ∧ (State.modCell s c f).dsp = s.dsp ∧ (State.modCell s c f).conv = s.conv ∧
    (State.modCell s c f).phase = s.phase ∧ (State.modCell s c f).gx2 = s.gx2 ∧ (State.modCell s c f).le = s.le ∧
    (State.modCell s c f).saf = s.saf ∧ (State.modCell s c f).red = s.red ∧ (State.modCell s c f).rack = s.rack ∧
    (State.modCell s c f).seq = s.seq ∧ (State.modCell s c f).tsu = s.tsu ∧ (State.modCell s c f).hpr = s.hpr ∧
    (State.modCell s c f).net = s.net ∧ (State.modCell s c f).app = s.app ∧ (State.modCell s c f).icu = s.icu ∧
    (State.modCell s c f).flt = s.flt ∧ (State.modCell s c f).plg = s.plg ∧ (State.modCell s c f).upd = s.upd ∧
    (State.modCell s c f).mem = s.mem ∧ (State.modCell s c f).canRam = s.canRam ∧
    (State.modCell s c f).free = s.free := by
  exact ⟨rfl, rfl, rfl, rfl, rfl, rfl, rfl, rfl, rfl, rfl, rfl, rfl, rfl, rfl, rfl, rfl, rfl, rfl, rfl, rfl, rfl, rfl, rfl, rfl, rfl, rfl, rfl, rfl, rfl, rfl, rfl, rfl⟩

@[simp] theorem State.modEst_keeps (s : State) (i : Nat) (f : Est → Est) :
    (State.modEst s i f).pending = s.pending ∧ (State.modEst s i f).variant = s.variant ∧
    (State.modEst s i f).clk = s.clk ∧ (State.modEst s i f).unit = s.unit ∧ (State.modEst s i f).str = s.str ∧
    (State.modEst s i f).pwr = s.pwr ∧ (State.modEst s i f).hvi = s.hvi ∧ (State.modEst s i f).hviStr = s.hviStr ∧
    (State.modEst s i f).rings = s.rings ∧ (State.modEst s i f).tpe = s.tpe ∧ (State.modEst s i f).th = s.th ∧
    (State.modEst s i f).bal = s.bal ∧ (State.modEst s i f).dsp = s.dsp ∧ (State.modEst s i f).conv = s.conv ∧
    (State.modEst s i f).phase = s.phase ∧ (State.modEst s i f).gx2 = s.gx2 ∧ (State.modEst s i f).le = s.le ∧
    (State.modEst s i f).saf = s.saf ∧ (State.modEst s i f).red = s.red ∧ (State.modEst s i f).rack = s.rack ∧
    (State.modEst s i f).seq = s.seq ∧ (State.modEst s i f).tsu = s.tsu ∧ (State.modEst s i f).hpr = s.hpr ∧
    (State.modEst s i f).net = s.net ∧ (State.modEst s i f).app = s.app ∧ (State.modEst s i f).icu = s.icu ∧
    (State.modEst s i f).flt = s.flt ∧ (State.modEst s i f).plg = s.plg ∧ (State.modEst s i f).upd = s.upd ∧
    (State.modEst s i f).mem = s.mem ∧ (State.modEst s i f).canRam = s.canRam ∧ (State.modEst s i f).free = s.free := by
  exact ⟨rfl, rfl, rfl, rfl, rfl, rfl, rfl, rfl, rfl, rfl, rfl, rfl, rfl, rfl, rfl, rfl, rfl, rfl, rfl, rfl, rfl, rfl, rfl, rfl, rfl, rfl, rfl, rfl, rfl, rfl, rfl, rfl⟩

@[simp] theorem State.modBal_keeps (s : State) (i : Nat) (f : Bal → Bal) :
    (State.modBal s i f).pending = s.pending ∧ (State.modBal s i f).variant = s.variant ∧
    (State.modBal s i f).clk = s.clk ∧ (State.modBal s i f).unit = s.unit ∧ (State.modBal s i f).str = s.str ∧
    (State.modBal s i f).pwr = s.pwr ∧ (State.modBal s i f).hvi = s.hvi ∧ (State.modBal s i f).hviStr = s.hviStr ∧
    (State.modBal s i f).rings = s.rings ∧ (State.modBal s i f).cee = s.cee ∧ (State.modBal s i f).tpe = s.tpe ∧
    (State.modBal s i f).th = s.th ∧ (State.modBal s i f).dsp = s.dsp ∧ (State.modBal s i f).conv = s.conv ∧
    (State.modBal s i f).phase = s.phase ∧ (State.modBal s i f).gx2 = s.gx2 ∧ (State.modBal s i f).le = s.le ∧
    (State.modBal s i f).saf = s.saf ∧ (State.modBal s i f).red = s.red ∧ (State.modBal s i f).rack = s.rack ∧
    (State.modBal s i f).seq = s.seq ∧ (State.modBal s i f).tsu = s.tsu ∧ (State.modBal s i f).hpr = s.hpr ∧
    (State.modBal s i f).net = s.net ∧ (State.modBal s i f).app = s.app ∧ (State.modBal s i f).icu = s.icu ∧
    (State.modBal s i f).flt = s.flt ∧ (State.modBal s i f).plg = s.plg ∧ (State.modBal s i f).upd = s.upd ∧
    (State.modBal s i f).mem = s.mem ∧ (State.modBal s i f).canRam = s.canRam ∧ (State.modBal s i f).free = s.free := by
  exact ⟨rfl, rfl, rfl, rfl, rfl, rfl, rfl, rfl, rfl, rfl, rfl, rfl, rfl, rfl, rfl, rfl, rfl, rfl, rfl, rfl, rfl, rfl, rfl, rfl, rfl, rfl, rfl, rfl, rfl, rfl, rfl, rfl⟩

@[simp] theorem State.modConv_keeps (s : State) (i : Nat) (f : Conv → Conv) :
    (State.modConv s i f).pending = s.pending ∧ (State.modConv s i f).variant = s.variant ∧
    (State.modConv s i f).clk = s.clk ∧ (State.modConv s i f).unit = s.unit ∧ (State.modConv s i f).str = s.str ∧
    (State.modConv s i f).pwr = s.pwr ∧ (State.modConv s i f).hvi = s.hvi ∧ (State.modConv s i f).hviStr = s.hviStr ∧
    (State.modConv s i f).rings = s.rings ∧ (State.modConv s i f).cee = s.cee ∧ (State.modConv s i f).tpe = s.tpe ∧
    (State.modConv s i f).th = s.th ∧ (State.modConv s i f).bal = s.bal ∧ (State.modConv s i f).dsp = s.dsp ∧
    (State.modConv s i f).phase = s.phase ∧ (State.modConv s i f).gx2 = s.gx2 ∧ (State.modConv s i f).le = s.le ∧
    (State.modConv s i f).saf = s.saf ∧ (State.modConv s i f).red = s.red ∧ (State.modConv s i f).rack = s.rack ∧
    (State.modConv s i f).seq = s.seq ∧ (State.modConv s i f).tsu = s.tsu ∧ (State.modConv s i f).hpr = s.hpr ∧
    (State.modConv s i f).net = s.net ∧ (State.modConv s i f).app = s.app ∧ (State.modConv s i f).icu = s.icu ∧
    (State.modConv s i f).flt = s.flt ∧ (State.modConv s i f).plg = s.plg ∧ (State.modConv s i f).upd = s.upd ∧
    (State.modConv s i f).mem = s.mem ∧ (State.modConv s i f).canRam = s.canRam ∧
    (State.modConv s i f).free = s.free := by
  exact ⟨rfl, rfl, rfl, rfl, rfl, rfl, rfl, rfl, rfl, rfl, rfl, rfl, rfl, rfl, rfl, rfl, rfl, rfl, rfl, rfl, rfl, rfl, rfl, rfl, rfl, rfl, rfl, rfl, rfl, rfl, rfl, rfl⟩

@[simp] theorem State.modPhase_keeps (s : State) (p : Nat) (f : Phase → Phase) :
    (State.modPhase s p f).pending = s.pending ∧ (State.modPhase s p f).variant = s.variant ∧
    (State.modPhase s p f).clk = s.clk ∧ (State.modPhase s p f).unit = s.unit ∧ (State.modPhase s p f).str = s.str ∧
    (State.modPhase s p f).pwr = s.pwr ∧ (State.modPhase s p f).hvi = s.hvi ∧
    (State.modPhase s p f).hviStr = s.hviStr ∧ (State.modPhase s p f).rings = s.rings ∧
    (State.modPhase s p f).cee = s.cee ∧ (State.modPhase s p f).tpe = s.tpe ∧ (State.modPhase s p f).th = s.th ∧
    (State.modPhase s p f).bal = s.bal ∧ (State.modPhase s p f).dsp = s.dsp ∧ (State.modPhase s p f).conv = s.conv ∧
    (State.modPhase s p f).gx2 = s.gx2 ∧ (State.modPhase s p f).le = s.le ∧ (State.modPhase s p f).saf = s.saf ∧
    (State.modPhase s p f).red = s.red ∧ (State.modPhase s p f).rack = s.rack ∧ (State.modPhase s p f).seq = s.seq ∧
    (State.modPhase s p f).tsu = s.tsu ∧ (State.modPhase s p f).hpr = s.hpr ∧ (State.modPhase s p f).net = s.net ∧
    (State.modPhase s p f).app = s.app ∧ (State.modPhase s p f).icu = s.icu ∧ (State.modPhase s p f).flt = s.flt ∧
    (State.modPhase s p f).plg = s.plg ∧ (State.modPhase s p f).upd = s.upd ∧ (State.modPhase s p f).mem = s.mem ∧
    (State.modPhase s p f).canRam = s.canRam ∧ (State.modPhase s p f).free = s.free := by
  exact ⟨rfl, rfl, rfl, rfl, rfl, rfl, rfl, rfl, rfl, rfl, rfl, rfl, rfl, rfl, rfl, rfl, rfl, rfl, rfl, rfl, rfl, rfl, rfl, rfl, rfl, rfl, rfl, rfl, rfl, rfl, rfl, rfl⟩

@[simp] theorem State.modGx2_keeps (s : State) (p : Nat) (f : Gx2 → Gx2) :
    (State.modGx2 s p f).pending = s.pending ∧ (State.modGx2 s p f).variant = s.variant ∧
    (State.modGx2 s p f).clk = s.clk ∧ (State.modGx2 s p f).unit = s.unit ∧ (State.modGx2 s p f).str = s.str ∧
    (State.modGx2 s p f).pwr = s.pwr ∧ (State.modGx2 s p f).hvi = s.hvi ∧ (State.modGx2 s p f).hviStr = s.hviStr ∧
    (State.modGx2 s p f).rings = s.rings ∧ (State.modGx2 s p f).cee = s.cee ∧ (State.modGx2 s p f).tpe = s.tpe ∧
    (State.modGx2 s p f).th = s.th ∧ (State.modGx2 s p f).bal = s.bal ∧ (State.modGx2 s p f).dsp = s.dsp ∧
    (State.modGx2 s p f).conv = s.conv ∧ (State.modGx2 s p f).phase = s.phase ∧ (State.modGx2 s p f).le = s.le ∧
    (State.modGx2 s p f).saf = s.saf ∧ (State.modGx2 s p f).red = s.red ∧ (State.modGx2 s p f).rack = s.rack ∧
    (State.modGx2 s p f).seq = s.seq ∧ (State.modGx2 s p f).tsu = s.tsu ∧ (State.modGx2 s p f).hpr = s.hpr ∧
    (State.modGx2 s p f).net = s.net ∧ (State.modGx2 s p f).app = s.app ∧ (State.modGx2 s p f).icu = s.icu ∧
    (State.modGx2 s p f).flt = s.flt ∧ (State.modGx2 s p f).plg = s.plg ∧ (State.modGx2 s p f).upd = s.upd ∧
    (State.modGx2 s p f).mem = s.mem ∧ (State.modGx2 s p f).canRam = s.canRam ∧ (State.modGx2 s p f).free = s.free := by
  exact ⟨rfl, rfl, rfl, rfl, rfl, rfl, rfl, rfl, rfl, rfl, rfl, rfl, rfl, rfl, rfl, rfl, rfl, rfl, rfl, rfl, rfl, rfl, rfl, rfl, rfl, rfl, rfl, rfl, rfl, rfl, rfl, rfl⟩

@[simp] theorem State.modCont_keeps (s : State) (i : Nat) (f : Cont → Cont) :
    (State.modCont s i f).pending = s.pending ∧ (State.modCont s i f).variant = s.variant ∧
    (State.modCont s i f).clk = s.clk ∧ (State.modCont s i f).unit = s.unit ∧ (State.modCont s i f).str = s.str ∧
    (State.modCont s i f).pwr = s.pwr ∧ (State.modCont s i f).hvi = s.hvi ∧ (State.modCont s i f).hviStr = s.hviStr ∧
    (State.modCont s i f).rings = s.rings ∧ (State.modCont s i f).cee = s.cee ∧ (State.modCont s i f).tpe = s.tpe ∧
    (State.modCont s i f).th = s.th ∧ (State.modCont s i f).bal = s.bal ∧ (State.modCont s i f).dsp = s.dsp ∧
    (State.modCont s i f).conv = s.conv ∧ (State.modCont s i f).phase = s.phase ∧ (State.modCont s i f).gx2 = s.gx2 ∧
    (State.modCont s i f).le = s.le ∧ (State.modCont s i f).red = s.red ∧ (State.modCont s i f).rack = s.rack ∧
    (State.modCont s i f).seq = s.seq ∧ (State.modCont s i f).tsu = s.tsu ∧ (State.modCont s i f).hpr = s.hpr ∧
    (State.modCont s i f).net = s.net ∧ (State.modCont s i f).app = s.app ∧ (State.modCont s i f).icu = s.icu ∧
    (State.modCont s i f).flt = s.flt ∧ (State.modCont s i f).plg = s.plg ∧ (State.modCont s i f).upd = s.upd ∧
    (State.modCont s i f).mem = s.mem ∧ (State.modCont s i f).canRam = s.canRam ∧
    (State.modCont s i f).free = s.free := by
  exact ⟨rfl, rfl, rfl, rfl, rfl, rfl, rfl, rfl, rfl, rfl, rfl, rfl, rfl, rfl, rfl, rfl, rfl, rfl, rfl, rfl, rfl, rfl, rfl, rfl, rfl, rfl, rfl, rfl, rfl, rfl, rfl, rfl⟩

@[simp] theorem State.modChan_keeps (s : State) (c : Channel) (f : Chan → Chan) :
    (State.modChan s c f).pending = s.pending ∧ (State.modChan s c f).variant = s.variant ∧
    (State.modChan s c f).clk = s.clk ∧ (State.modChan s c f).unit = s.unit ∧ (State.modChan s c f).str = s.str ∧
    (State.modChan s c f).pwr = s.pwr ∧ (State.modChan s c f).hvi = s.hvi ∧ (State.modChan s c f).hviStr = s.hviStr ∧
    (State.modChan s c f).rings = s.rings ∧ (State.modChan s c f).cee = s.cee ∧ (State.modChan s c f).tpe = s.tpe ∧
    (State.modChan s c f).th = s.th ∧ (State.modChan s c f).bal = s.bal ∧ (State.modChan s c f).dsp = s.dsp ∧
    (State.modChan s c f).conv = s.conv ∧ (State.modChan s c f).phase = s.phase ∧ (State.modChan s c f).gx2 = s.gx2 ∧
    (State.modChan s c f).le = s.le ∧ (State.modChan s c f).red = s.red ∧ (State.modChan s c f).rack = s.rack ∧
    (State.modChan s c f).seq = s.seq ∧ (State.modChan s c f).tsu = s.tsu ∧ (State.modChan s c f).hpr = s.hpr ∧
    (State.modChan s c f).net = s.net ∧ (State.modChan s c f).app = s.app ∧ (State.modChan s c f).icu = s.icu ∧
    (State.modChan s c f).flt = s.flt ∧ (State.modChan s c f).plg = s.plg ∧ (State.modChan s c f).upd = s.upd ∧
    (State.modChan s c f).mem = s.mem ∧ (State.modChan s c f).canRam = s.canRam ∧
    (State.modChan s c f).free = s.free := by
  cases c <;> simp [State.modChanStr, State.modChan]

@[simp] theorem State.modChanStr_keeps (s : State) (c : Channel) (i : Nat) (f : ChanStr → ChanStr) :
    (State.modChanStr s c i f).pending = s.pending ∧ (State.modChanStr s c i f).variant = s.variant ∧
    (State.modChanStr s c i f).clk = s.clk ∧ (State.modChanStr s c i f).unit = s.unit ∧
    (State.modChanStr s c i f).str = s.str ∧ (State.modChanStr s c i f).pwr = s.pwr ∧
    (State.modChanStr s c i f).hvi = s.hvi ∧ (State.modChanStr s c i f).hviStr = s.hviStr ∧
    (State.modChanStr s c i f).rings = s.rings ∧ (State.modChanStr s c i f).cee = s.cee ∧
    (State.modChanStr s c i f).tpe = s.tpe ∧ (State.modChanStr s c i f).th = s.th ∧
    (State.modChanStr s c i f).bal = s.bal ∧ (State.modChanStr s c i f).dsp = s.dsp ∧
    (State.modChanStr s c i f).conv = s.conv ∧ (State.modChanStr s c i f).phase = s.phase ∧
    (State.modChanStr s c i f).gx2 = s.gx2 ∧ (State.modChanStr s c i f).le = s.le ∧
    (State.modChanStr s c i f).red = s.red ∧ (State.modChanStr s c i f).rack = s.rack ∧
    (State.modChanStr s c i f).seq = s.seq ∧ (State.modChanStr s c i f).tsu = s.tsu ∧
    (State.modChanStr s c i f).hpr = s.hpr ∧ (State.modChanStr s c i f).net = s.net ∧
    (State.modChanStr s c i f).app = s.app ∧ (State.modChanStr s c i f).icu = s.icu ∧
    (State.modChanStr s c i f).flt = s.flt ∧ (State.modChanStr s c i f).plg = s.plg ∧
    (State.modChanStr s c i f).upd = s.upd ∧ (State.modChanStr s c i f).mem = s.mem ∧
    (State.modChanStr s c i f).canRam = s.canRam ∧ (State.modChanStr s c i f).free = s.free := by
  cases c <;> simp [State.modChanStr, State.modChan]

@[simp] theorem State.modEf_keeps (s : State) (n : Nat) (f : Ef → Ef) :
    (State.modEf s n f).pending = s.pending ∧ (State.modEf s n f).variant = s.variant ∧
    (State.modEf s n f).clk = s.clk ∧ (State.modEf s n f).unit = s.unit ∧ (State.modEf s n f).str = s.str ∧
    (State.modEf s n f).pwr = s.pwr ∧ (State.modEf s n f).hvi = s.hvi ∧ (State.modEf s n f).hviStr = s.hviStr ∧
    (State.modEf s n f).rings = s.rings ∧ (State.modEf s n f).cee = s.cee ∧ (State.modEf s n f).tpe = s.tpe ∧
    (State.modEf s n f).th = s.th ∧ (State.modEf s n f).bal = s.bal ∧ (State.modEf s n f).dsp = s.dsp ∧
    (State.modEf s n f).conv = s.conv ∧ (State.modEf s n f).phase = s.phase ∧ (State.modEf s n f).gx2 = s.gx2 ∧
    (State.modEf s n f).le = s.le ∧ (State.modEf s n f).saf = s.saf ∧ (State.modEf s n f).red = s.red ∧
    (State.modEf s n f).seq = s.seq ∧ (State.modEf s n f).tsu = s.tsu ∧ (State.modEf s n f).hpr = s.hpr ∧
    (State.modEf s n f).net = s.net ∧ (State.modEf s n f).app = s.app ∧ (State.modEf s n f).icu = s.icu ∧
    (State.modEf s n f).flt = s.flt ∧ (State.modEf s n f).plg = s.plg ∧ (State.modEf s n f).upd = s.upd ∧
    (State.modEf s n f).mem = s.mem ∧ (State.modEf s n f).canRam = s.canRam ∧ (State.modEf s n f).free = s.free := by
  exact ⟨rfl, rfl, rfl, rfl, rfl, rfl, rfl, rfl, rfl, rfl, rfl, rfl, rfl, rfl, rfl, rfl, rfl, rfl, rfl, rfl, rfl, rfl, rfl, rfl, rfl, rfl, rfl, rfl, rfl, rfl, rfl, rfl⟩

@[simp] theorem State.modTi_keeps (s : State) (n : Nat) (f : Ti → Ti) :
    (State.modTi s n f).pending = s.pending ∧ (State.modTi s n f).variant = s.variant ∧
    (State.modTi s n f).clk = s.clk ∧ (State.modTi s n f).unit = s.unit ∧ (State.modTi s n f).str = s.str ∧
    (State.modTi s n f).pwr = s.pwr ∧ (State.modTi s n f).hvi = s.hvi ∧ (State.modTi s n f).hviStr = s.hviStr ∧
    (State.modTi s n f).rings = s.rings ∧ (State.modTi s n f).cee = s.cee ∧ (State.modTi s n f).tpe = s.tpe ∧
    (State.modTi s n f).bal = s.bal ∧ (State.modTi s n f).dsp = s.dsp ∧ (State.modTi s n f).conv = s.conv ∧
    (State.modTi s n f).phase = s.phase ∧ (State.modTi s n f).gx2 = s.gx2 ∧ (State.modTi s n f).le = s.le ∧
    (State.modTi s n f).saf = s.saf ∧ (State.modTi s n f).red = s.red ∧ (State.modTi s n f).rack = s.rack ∧
    (State.modTi s n f).seq = s.seq ∧ (State.modTi s n f).tsu = s.tsu ∧ (State.modTi s n f).hpr = s.hpr ∧
    (State.modTi s n f).net = s.net ∧ (State.modTi s n f).app = s.app ∧ (State.modTi s n f).icu = s.icu ∧
    (State.modTi s n f).flt = s.flt ∧ (State.modTi s n f).plg = s.plg ∧ (State.modTi s n f).upd = s.upd ∧
    (State.modTi s n f).mem = s.mem ∧ (State.modTi s n f).canRam = s.canRam ∧ (State.modTi s n f).free = s.free := by
  exact ⟨rfl, rfl, rfl, rfl, rfl, rfl, rfl, rfl, rfl, rfl, rfl, rfl, rfl, rfl, rfl, rfl, rfl, rfl, rfl, rfl, rfl, rfl, rfl, rfl, rfl, rfl, rfl, rfl, rfl, rfl, rfl, rfl⟩

@[simp] theorem State.modCan_keeps (s : State) (c : Nat) (f : Can → Can) :
    (State.modCan s c f).pending = s.pending ∧ (State.modCan s c f).variant = s.variant ∧
    (State.modCan s c f).clk = s.clk ∧ (State.modCan s c f).unit = s.unit ∧ (State.modCan s c f).str = s.str ∧
    (State.modCan s c f).pwr = s.pwr ∧ (State.modCan s c f).hvi = s.hvi ∧ (State.modCan s c f).hviStr = s.hviStr ∧
    (State.modCan s c f).rings = s.rings ∧ (State.modCan s c f).cee = s.cee ∧ (State.modCan s c f).tpe = s.tpe ∧
    (State.modCan s c f).th = s.th ∧ (State.modCan s c f).bal = s.bal ∧ (State.modCan s c f).dsp = s.dsp ∧
    (State.modCan s c f).conv = s.conv ∧ (State.modCan s c f).phase = s.phase ∧ (State.modCan s c f).gx2 = s.gx2 ∧
    (State.modCan s c f).le = s.le ∧ (State.modCan s c f).saf = s.saf ∧ (State.modCan s c f).red = s.red ∧
    (State.modCan s c f).rack = s.rack ∧ (State.modCan s c f).seq = s.seq ∧ (State.modCan s c f).tsu = s.tsu ∧
    (State.modCan s c f).hpr = s.hpr ∧ (State.modCan s c f).app = s.app ∧ (State.modCan s c f).icu = s.icu ∧
    (State.modCan s c f).flt = s.flt ∧ (State.modCan s c f).plg = s.plg ∧ (State.modCan s c f).upd = s.upd ∧
    (State.modCan s c f).mem = s.mem ∧ (State.modCan s c f).canRam = s.canRam ∧ (State.modCan s c f).free = s.free := by
  exact ⟨rfl, rfl, rfl, rfl, rfl, rfl, rfl, rfl, rfl, rfl, rfl, rfl, rfl, rfl, rfl, rfl, rfl, rfl, rfl, rfl, rfl, rfl, rfl, rfl, rfl, rfl, rfl, rfl, rfl, rfl, rfl, rfl⟩

@[simp] theorem State.modPort_keeps (s : State) (n : Nat) (f : NetPort → NetPort) :
    (State.modPort s n f).pending = s.pending ∧ (State.modPort s n f).variant = s.variant ∧
    (State.modPort s n f).clk = s.clk ∧ (State.modPort s n f).unit = s.unit ∧ (State.modPort s n f).str = s.str ∧
    (State.modPort s n f).pwr = s.pwr ∧ (State.modPort s n f).hvi = s.hvi ∧ (State.modPort s n f).hviStr = s.hviStr ∧
    (State.modPort s n f).rings = s.rings ∧ (State.modPort s n f).cee = s.cee ∧ (State.modPort s n f).tpe = s.tpe ∧
    (State.modPort s n f).th = s.th ∧ (State.modPort s n f).bal = s.bal ∧ (State.modPort s n f).dsp = s.dsp ∧
    (State.modPort s n f).conv = s.conv ∧ (State.modPort s n f).phase = s.phase ∧ (State.modPort s n f).gx2 = s.gx2 ∧
    (State.modPort s n f).le = s.le ∧ (State.modPort s n f).saf = s.saf ∧ (State.modPort s n f).red = s.red ∧
    (State.modPort s n f).rack = s.rack ∧ (State.modPort s n f).seq = s.seq ∧ (State.modPort s n f).tsu = s.tsu ∧
    (State.modPort s n f).hpr = s.hpr ∧ (State.modPort s n f).app = s.app ∧ (State.modPort s n f).icu = s.icu ∧
    (State.modPort s n f).flt = s.flt ∧ (State.modPort s n f).plg = s.plg ∧ (State.modPort s n f).upd = s.upd ∧
    (State.modPort s n f).mem = s.mem ∧ (State.modPort s n f).canRam = s.canRam ∧
    (State.modPort s n f).free = s.free := by
  exact ⟨rfl, rfl, rfl, rfl, rfl, rfl, rfl, rfl, rfl, rfl, rfl, rfl, rfl, rfl, rfl, rfl, rfl, rfl, rfl, rfl, rfl, rfl, rfl, rfl, rfl, rfl, rfl, rfl, rfl, rfl, rfl, rfl⟩

@[simp] theorem State.modRail_keeps (s : State) (r : Nat) (f : Rail → Rail) :
    (State.modRail s r f).pending = s.pending ∧ (State.modRail s r f).variant = s.variant ∧
    (State.modRail s r f).clk = s.clk ∧ (State.modRail s r f).unit = s.unit ∧ (State.modRail s r f).str = s.str ∧
    (State.modRail s r f).pwr = s.pwr ∧ (State.modRail s r f).hvi = s.hvi ∧ (State.modRail s r f).hviStr = s.hviStr ∧
    (State.modRail s r f).rings = s.rings ∧ (State.modRail s r f).cee = s.cee ∧ (State.modRail s r f).tpe = s.tpe ∧
    (State.modRail s r f).th = s.th ∧ (State.modRail s r f).bal = s.bal ∧ (State.modRail s r f).dsp = s.dsp ∧
    (State.modRail s r f).conv = s.conv ∧ (State.modRail s r f).phase = s.phase ∧ (State.modRail s r f).gx2 = s.gx2 ∧
    (State.modRail s r f).le = s.le ∧ (State.modRail s r f).saf = s.saf ∧ (State.modRail s r f).red = s.red ∧
    (State.modRail s r f).rack = s.rack ∧ (State.modRail s r f).tsu = s.tsu ∧ (State.modRail s r f).hpr = s.hpr ∧
    (State.modRail s r f).net = s.net ∧ (State.modRail s r f).app = s.app ∧ (State.modRail s r f).icu = s.icu ∧
    (State.modRail s r f).flt = s.flt ∧ (State.modRail s r f).plg = s.plg ∧ (State.modRail s r f).upd = s.upd ∧
    (State.modRail s r f).mem = s.mem ∧ (State.modRail s r f).canRam = s.canRam ∧
    (State.modRail s r f).free = s.free := by
  exact ⟨rfl, rfl, rfl, rfl, rfl, rfl, rfl, rfl, rfl, rfl, rfl, rfl, rfl, rfl, rfl, rfl, rfl, rfl, rfl, rfl, rfl, rfl, rfl, rfl, rfl, rfl, rfl, rfl, rfl, rfl, rfl, rfl⟩

@[simp] theorem State.modLoop_keeps (s : State) (n : Nat) (f : LoopSlot → LoopSlot) :
    (State.modLoop s n f).pending = s.pending ∧ (State.modLoop s n f).variant = s.variant ∧
    (State.modLoop s n f).clk = s.clk ∧ (State.modLoop s n f).unit = s.unit ∧ (State.modLoop s n f).str = s.str ∧
    (State.modLoop s n f).pwr = s.pwr ∧ (State.modLoop s n f).hvi = s.hvi ∧ (State.modLoop s n f).hviStr = s.hviStr ∧
    (State.modLoop s n f).rings = s.rings ∧ (State.modLoop s n f).cee = s.cee ∧ (State.modLoop s n f).tpe = s.tpe ∧
    (State.modLoop s n f).th = s.th ∧ (State.modLoop s n f).bal = s.bal ∧ (State.modLoop s n f).dsp = s.dsp ∧
    (State.modLoop s n f).conv = s.conv ∧ (State.modLoop s n f).phase = s.phase ∧ (State.modLoop s n f).gx2 = s.gx2 ∧
    (State.modLoop s n f).saf = s.saf ∧ (State.modLoop s n f).red = s.red ∧ (State.modLoop s n f).rack = s.rack ∧
    (State.modLoop s n f).seq = s.seq ∧ (State.modLoop s n f).tsu = s.tsu ∧ (State.modLoop s n f).hpr = s.hpr ∧
    (State.modLoop s n f).net = s.net ∧ (State.modLoop s n f).app = s.app ∧ (State.modLoop s n f).icu = s.icu ∧
    (State.modLoop s n f).flt = s.flt ∧ (State.modLoop s n f).plg = s.plg ∧ (State.modLoop s n f).upd = s.upd ∧
    (State.modLoop s n f).mem = s.mem ∧ (State.modLoop s n f).canRam = s.canRam ∧
    (State.modLoop s n f).free = s.free := by
  exact ⟨rfl, rfl, rfl, rfl, rfl, rfl, rfl, rfl, rfl, rfl, rfl, rfl, rfl, rfl, rfl, rfl, rfl, rfl, rfl, rfl, rfl, rfl, rfl, rfl, rfl, rfl, rfl, rfl, rfl, rfl, rfl, rfl⟩

@[simp] theorem State.setHpr_keeps (s : State) (f : Hpr → Hpr) :
    (State.setHpr s f).pending = s.pending ∧ (State.setHpr s f).variant = s.variant ∧
    (State.setHpr s f).clk = s.clk ∧ (State.setHpr s f).unit = s.unit ∧ (State.setHpr s f).str = s.str ∧
    (State.setHpr s f).pwr = s.pwr ∧ (State.setHpr s f).hvi = s.hvi ∧ (State.setHpr s f).hviStr = s.hviStr ∧
    (State.setHpr s f).rings = s.rings ∧ (State.setHpr s f).cee = s.cee ∧ (State.setHpr s f).tpe = s.tpe ∧
    (State.setHpr s f).th = s.th ∧ (State.setHpr s f).bal = s.bal ∧ (State.setHpr s f).dsp = s.dsp ∧
    (State.setHpr s f).conv = s.conv ∧ (State.setHpr s f).phase = s.phase ∧ (State.setHpr s f).gx2 = s.gx2 ∧
    (State.setHpr s f).le = s.le ∧ (State.setHpr s f).saf = s.saf ∧ (State.setHpr s f).red = s.red ∧
    (State.setHpr s f).rack = s.rack ∧ (State.setHpr s f).seq = s.seq ∧ (State.setHpr s f).tsu = s.tsu ∧
    (State.setHpr s f).net = s.net ∧ (State.setHpr s f).app = s.app ∧ (State.setHpr s f).icu = s.icu ∧
    (State.setHpr s f).flt = s.flt ∧ (State.setHpr s f).plg = s.plg ∧ (State.setHpr s f).upd = s.upd ∧
    (State.setHpr s f).mem = s.mem ∧ (State.setHpr s f).canRam = s.canRam ∧ (State.setHpr s f).free = s.free := by
  exact ⟨rfl, rfl, rfl, rfl, rfl, rfl, rfl, rfl, rfl, rfl, rfl, rfl, rfl, rfl, rfl, rfl, rfl, rfl, rfl, rfl, rfl, rfl, rfl, rfl, rfl, rfl, rfl, rfl, rfl, rfl, rfl, rfl⟩

@[simp] theorem State.setHpr_hpr (s : State) (f : Hpr → Hpr) : (State.setHpr s f).hpr = f s.hpr := rfl

@[simp] theorem State.setPwr_keeps (s : State) (f : Power → Power) :
    (State.setPwr s f).pending = s.pending ∧ (State.setPwr s f).variant = s.variant ∧
    (State.setPwr s f).clk = s.clk ∧ (State.setPwr s f).unit = s.unit ∧ (State.setPwr s f).str = s.str ∧
    (State.setPwr s f).hvi = s.hvi ∧ (State.setPwr s f).hviStr = s.hviStr ∧ (State.setPwr s f).rings = s.rings ∧
    (State.setPwr s f).cee = s.cee ∧ (State.setPwr s f).tpe = s.tpe ∧ (State.setPwr s f).th = s.th ∧
    (State.setPwr s f).bal = s.bal ∧ (State.setPwr s f).dsp = s.dsp ∧ (State.setPwr s f).conv = s.conv ∧
    (State.setPwr s f).phase = s.phase ∧ (State.setPwr s f).gx2 = s.gx2 ∧ (State.setPwr s f).le = s.le ∧
    (State.setPwr s f).saf = s.saf ∧ (State.setPwr s f).red = s.red ∧ (State.setPwr s f).rack = s.rack ∧
    (State.setPwr s f).seq = s.seq ∧ (State.setPwr s f).tsu = s.tsu ∧ (State.setPwr s f).hpr = s.hpr ∧
    (State.setPwr s f).net = s.net ∧ (State.setPwr s f).app = s.app ∧ (State.setPwr s f).icu = s.icu ∧
    (State.setPwr s f).flt = s.flt ∧ (State.setPwr s f).plg = s.plg ∧ (State.setPwr s f).upd = s.upd ∧
    (State.setPwr s f).mem = s.mem ∧ (State.setPwr s f).canRam = s.canRam ∧ (State.setPwr s f).free = s.free := by
  exact ⟨rfl, rfl, rfl, rfl, rfl, rfl, rfl, rfl, rfl, rfl, rfl, rfl, rfl, rfl, rfl, rfl, rfl, rfl, rfl, rfl, rfl, rfl, rfl, rfl, rfl, rfl, rfl, rfl, rfl, rfl, rfl, rfl⟩

@[simp] theorem State.setPwr_pwr (s : State) (f : Power → Power) : (State.setPwr s f).pwr = f s.pwr := rfl

@[simp] theorem State.setRed_keeps (s : State) (f : Red → Red) :
    (State.setRed s f).pending = s.pending ∧ (State.setRed s f).variant = s.variant ∧
    (State.setRed s f).clk = s.clk ∧ (State.setRed s f).unit = s.unit ∧ (State.setRed s f).str = s.str ∧
    (State.setRed s f).pwr = s.pwr ∧ (State.setRed s f).hvi = s.hvi ∧ (State.setRed s f).hviStr = s.hviStr ∧
    (State.setRed s f).rings = s.rings ∧ (State.setRed s f).cee = s.cee ∧ (State.setRed s f).tpe = s.tpe ∧
    (State.setRed s f).th = s.th ∧ (State.setRed s f).bal = s.bal ∧ (State.setRed s f).dsp = s.dsp ∧
    (State.setRed s f).conv = s.conv ∧ (State.setRed s f).phase = s.phase ∧ (State.setRed s f).gx2 = s.gx2 ∧
    (State.setRed s f).le = s.le ∧ (State.setRed s f).saf = s.saf ∧ (State.setRed s f).rack = s.rack ∧
    (State.setRed s f).seq = s.seq ∧ (State.setRed s f).tsu = s.tsu ∧ (State.setRed s f).hpr = s.hpr ∧
    (State.setRed s f).net = s.net ∧ (State.setRed s f).app = s.app ∧ (State.setRed s f).icu = s.icu ∧
    (State.setRed s f).flt = s.flt ∧ (State.setRed s f).plg = s.plg ∧ (State.setRed s f).upd = s.upd ∧
    (State.setRed s f).mem = s.mem ∧ (State.setRed s f).canRam = s.canRam ∧ (State.setRed s f).free = s.free := by
  exact ⟨rfl, rfl, rfl, rfl, rfl, rfl, rfl, rfl, rfl, rfl, rfl, rfl, rfl, rfl, rfl, rfl, rfl, rfl, rfl, rfl, rfl, rfl, rfl, rfl, rfl, rfl, rfl, rfl, rfl, rfl, rfl, rfl⟩

@[simp] theorem State.setRed_red (s : State) (f : Red → Red) : (State.setRed s f).red = f s.red := rfl

@[simp] theorem State.setPlg_keeps (s : State) (f : Plg → Plg) :
    (State.setPlg s f).pending = s.pending ∧ (State.setPlg s f).variant = s.variant ∧
    (State.setPlg s f).clk = s.clk ∧ (State.setPlg s f).unit = s.unit ∧ (State.setPlg s f).str = s.str ∧
    (State.setPlg s f).pwr = s.pwr ∧ (State.setPlg s f).hvi = s.hvi ∧ (State.setPlg s f).hviStr = s.hviStr ∧
    (State.setPlg s f).rings = s.rings ∧ (State.setPlg s f).cee = s.cee ∧ (State.setPlg s f).tpe = s.tpe ∧
    (State.setPlg s f).th = s.th ∧ (State.setPlg s f).bal = s.bal ∧ (State.setPlg s f).dsp = s.dsp ∧
    (State.setPlg s f).conv = s.conv ∧ (State.setPlg s f).phase = s.phase ∧ (State.setPlg s f).gx2 = s.gx2 ∧
    (State.setPlg s f).le = s.le ∧ (State.setPlg s f).saf = s.saf ∧ (State.setPlg s f).red = s.red ∧
    (State.setPlg s f).rack = s.rack ∧ (State.setPlg s f).seq = s.seq ∧ (State.setPlg s f).tsu = s.tsu ∧
    (State.setPlg s f).hpr = s.hpr ∧ (State.setPlg s f).net = s.net ∧ (State.setPlg s f).app = s.app ∧
    (State.setPlg s f).icu = s.icu ∧ (State.setPlg s f).flt = s.flt ∧ (State.setPlg s f).upd = s.upd ∧
    (State.setPlg s f).mem = s.mem ∧ (State.setPlg s f).canRam = s.canRam ∧ (State.setPlg s f).free = s.free := by
  exact ⟨rfl, rfl, rfl, rfl, rfl, rfl, rfl, rfl, rfl, rfl, rfl, rfl, rfl, rfl, rfl, rfl, rfl, rfl, rfl, rfl, rfl, rfl, rfl, rfl, rfl, rfl, rfl, rfl, rfl, rfl, rfl, rfl⟩

@[simp] theorem State.setPlg_plg (s : State) (f : Plg → Plg) : (State.setPlg s f).plg = f s.plg := rfl

@[simp] theorem State.setFlt_keeps (s : State) (f : Flt → Flt) :
    (State.setFlt s f).pending = s.pending ∧ (State.setFlt s f).variant = s.variant ∧
    (State.setFlt s f).clk = s.clk ∧ (State.setFlt s f).unit = s.unit ∧ (State.setFlt s f).str = s.str ∧
    (State.setFlt s f).pwr = s.pwr ∧ (State.setFlt s f).hvi = s.hvi ∧ (State.setFlt s f).hviStr = s.hviStr ∧
    (State.setFlt s f).rings = s.rings ∧ (State.setFlt s f).cee = s.cee ∧ (State.setFlt s f).tpe = s.tpe ∧
    (State.setFlt s f).th = s.th ∧ (State.setFlt s f).bal = s.bal ∧ (State.setFlt s f).dsp = s.dsp ∧
    (State.setFlt s f).conv = s.conv ∧ (State.setFlt s f).phase = s.phase ∧ (State.setFlt s f).gx2 = s.gx2 ∧
    (State.setFlt s f).le = s.le ∧ (State.setFlt s f).saf = s.saf ∧ (State.setFlt s f).red = s.red ∧
    (State.setFlt s f).rack = s.rack ∧ (State.setFlt s f).seq = s.seq ∧ (State.setFlt s f).tsu = s.tsu ∧
    (State.setFlt s f).hpr = s.hpr ∧ (State.setFlt s f).net = s.net ∧ (State.setFlt s f).app = s.app ∧
    (State.setFlt s f).icu = s.icu ∧ (State.setFlt s f).plg = s.plg ∧ (State.setFlt s f).upd = s.upd ∧
    (State.setFlt s f).mem = s.mem ∧ (State.setFlt s f).canRam = s.canRam ∧ (State.setFlt s f).free = s.free := by
  exact ⟨rfl, rfl, rfl, rfl, rfl, rfl, rfl, rfl, rfl, rfl, rfl, rfl, rfl, rfl, rfl, rfl, rfl, rfl, rfl, rfl, rfl, rfl, rfl, rfl, rfl, rfl, rfl, rfl, rfl, rfl, rfl, rfl⟩

@[simp] theorem State.setFlt_flt (s : State) (f : Flt → Flt) : (State.setFlt s f).flt = f s.flt := rfl

@[simp] theorem State.setDsp_keeps (s : State) (f : Dsp → Dsp) :
    (State.setDsp s f).pending = s.pending ∧ (State.setDsp s f).variant = s.variant ∧
    (State.setDsp s f).clk = s.clk ∧ (State.setDsp s f).unit = s.unit ∧ (State.setDsp s f).str = s.str ∧
    (State.setDsp s f).pwr = s.pwr ∧ (State.setDsp s f).hvi = s.hvi ∧ (State.setDsp s f).hviStr = s.hviStr ∧
    (State.setDsp s f).rings = s.rings ∧ (State.setDsp s f).cee = s.cee ∧ (State.setDsp s f).tpe = s.tpe ∧
    (State.setDsp s f).th = s.th ∧ (State.setDsp s f).bal = s.bal ∧ (State.setDsp s f).conv = s.conv ∧
    (State.setDsp s f).phase = s.phase ∧ (State.setDsp s f).gx2 = s.gx2 ∧ (State.setDsp s f).le = s.le ∧
    (State.setDsp s f).saf = s.saf ∧ (State.setDsp s f).red = s.red ∧ (State.setDsp s f).rack = s.rack ∧
    (State.setDsp s f).seq = s.seq ∧ (State.setDsp s f).tsu = s.tsu ∧ (State.setDsp s f).hpr = s.hpr ∧
    (State.setDsp s f).net = s.net ∧ (State.setDsp s f).app = s.app ∧ (State.setDsp s f).icu = s.icu ∧
    (State.setDsp s f).flt = s.flt ∧ (State.setDsp s f).plg = s.plg ∧ (State.setDsp s f).upd = s.upd ∧
    (State.setDsp s f).mem = s.mem ∧ (State.setDsp s f).canRam = s.canRam ∧ (State.setDsp s f).free = s.free := by
  exact ⟨rfl, rfl, rfl, rfl, rfl, rfl, rfl, rfl, rfl, rfl, rfl, rfl, rfl, rfl, rfl, rfl, rfl, rfl, rfl, rfl, rfl, rfl, rfl, rfl, rfl, rfl, rfl, rfl, rfl, rfl, rfl, rfl⟩

@[simp] theorem State.setDsp_dsp (s : State) (f : Dsp → Dsp) : (State.setDsp s f).dsp = f s.dsp := rfl

@[simp] theorem State.setRack_keeps (s : State) (f : Rack → Rack) :
    (State.setRack s f).pending = s.pending ∧ (State.setRack s f).variant = s.variant ∧
    (State.setRack s f).clk = s.clk ∧ (State.setRack s f).unit = s.unit ∧ (State.setRack s f).str = s.str ∧
    (State.setRack s f).pwr = s.pwr ∧ (State.setRack s f).hvi = s.hvi ∧ (State.setRack s f).hviStr = s.hviStr ∧
    (State.setRack s f).rings = s.rings ∧ (State.setRack s f).cee = s.cee ∧ (State.setRack s f).tpe = s.tpe ∧
    (State.setRack s f).th = s.th ∧ (State.setRack s f).bal = s.bal ∧ (State.setRack s f).dsp = s.dsp ∧
    (State.setRack s f).conv = s.conv ∧ (State.setRack s f).phase = s.phase ∧ (State.setRack s f).gx2 = s.gx2 ∧
    (State.setRack s f).le = s.le ∧ (State.setRack s f).saf = s.saf ∧ (State.setRack s f).red = s.red ∧
    (State.setRack s f).seq = s.seq ∧ (State.setRack s f).tsu = s.tsu ∧ (State.setRack s f).hpr = s.hpr ∧
    (State.setRack s f).net = s.net ∧ (State.setRack s f).app = s.app ∧ (State.setRack s f).icu = s.icu ∧
    (State.setRack s f).flt = s.flt ∧ (State.setRack s f).plg = s.plg ∧ (State.setRack s f).upd = s.upd ∧
    (State.setRack s f).mem = s.mem ∧ (State.setRack s f).canRam = s.canRam ∧ (State.setRack s f).free = s.free := by
  exact ⟨rfl, rfl, rfl, rfl, rfl, rfl, rfl, rfl, rfl, rfl, rfl, rfl, rfl, rfl, rfl, rfl, rfl, rfl, rfl, rfl, rfl, rfl, rfl, rfl, rfl, rfl, rfl, rfl, rfl, rfl, rfl, rfl⟩

@[simp] theorem State.setRack_rack (s : State) (f : Rack → Rack) : (State.setRack s f).rack = f s.rack := rfl

@[simp] theorem State.setTsu_keeps (s : State) (f : Tsu → Tsu) :
    (State.setTsu s f).pending = s.pending ∧ (State.setTsu s f).variant = s.variant ∧
    (State.setTsu s f).clk = s.clk ∧ (State.setTsu s f).unit = s.unit ∧ (State.setTsu s f).str = s.str ∧
    (State.setTsu s f).pwr = s.pwr ∧ (State.setTsu s f).hvi = s.hvi ∧ (State.setTsu s f).hviStr = s.hviStr ∧
    (State.setTsu s f).rings = s.rings ∧ (State.setTsu s f).cee = s.cee ∧ (State.setTsu s f).tpe = s.tpe ∧
    (State.setTsu s f).th = s.th ∧ (State.setTsu s f).bal = s.bal ∧ (State.setTsu s f).dsp = s.dsp ∧
    (State.setTsu s f).conv = s.conv ∧ (State.setTsu s f).phase = s.phase ∧ (State.setTsu s f).gx2 = s.gx2 ∧
    (State.setTsu s f).le = s.le ∧ (State.setTsu s f).saf = s.saf ∧ (State.setTsu s f).red = s.red ∧
    (State.setTsu s f).rack = s.rack ∧ (State.setTsu s f).seq = s.seq ∧ (State.setTsu s f).hpr = s.hpr ∧
    (State.setTsu s f).net = s.net ∧ (State.setTsu s f).app = s.app ∧ (State.setTsu s f).icu = s.icu ∧
    (State.setTsu s f).flt = s.flt ∧ (State.setTsu s f).plg = s.plg ∧ (State.setTsu s f).upd = s.upd ∧
    (State.setTsu s f).mem = s.mem ∧ (State.setTsu s f).canRam = s.canRam ∧ (State.setTsu s f).free = s.free := by
  exact ⟨rfl, rfl, rfl, rfl, rfl, rfl, rfl, rfl, rfl, rfl, rfl, rfl, rfl, rfl, rfl, rfl, rfl, rfl, rfl, rfl, rfl, rfl, rfl, rfl, rfl, rfl, rfl, rfl, rfl, rfl, rfl, rfl⟩

@[simp] theorem State.setTsu_tsu (s : State) (f : Tsu → Tsu) : (State.setTsu s f).tsu = f s.tsu := rfl

@[simp] theorem State.setSaf_keeps (s : State) (f : Saf → Saf) :
    (State.setSaf s f).pending = s.pending ∧ (State.setSaf s f).variant = s.variant ∧
    (State.setSaf s f).clk = s.clk ∧ (State.setSaf s f).unit = s.unit ∧ (State.setSaf s f).str = s.str ∧
    (State.setSaf s f).pwr = s.pwr ∧ (State.setSaf s f).hvi = s.hvi ∧ (State.setSaf s f).hviStr = s.hviStr ∧
    (State.setSaf s f).rings = s.rings ∧ (State.setSaf s f).cee = s.cee ∧ (State.setSaf s f).tpe = s.tpe ∧
    (State.setSaf s f).th = s.th ∧ (State.setSaf s f).bal = s.bal ∧ (State.setSaf s f).dsp = s.dsp ∧
    (State.setSaf s f).conv = s.conv ∧ (State.setSaf s f).phase = s.phase ∧ (State.setSaf s f).gx2 = s.gx2 ∧
    (State.setSaf s f).le = s.le ∧ (State.setSaf s f).red = s.red ∧ (State.setSaf s f).rack = s.rack ∧
    (State.setSaf s f).seq = s.seq ∧ (State.setSaf s f).tsu = s.tsu ∧ (State.setSaf s f).hpr = s.hpr ∧
    (State.setSaf s f).net = s.net ∧ (State.setSaf s f).app = s.app ∧ (State.setSaf s f).icu = s.icu ∧
    (State.setSaf s f).flt = s.flt ∧ (State.setSaf s f).plg = s.plg ∧ (State.setSaf s f).upd = s.upd ∧
    (State.setSaf s f).mem = s.mem ∧ (State.setSaf s f).canRam = s.canRam ∧ (State.setSaf s f).free = s.free := by
  exact ⟨rfl, rfl, rfl, rfl, rfl, rfl, rfl, rfl, rfl, rfl, rfl, rfl, rfl, rfl, rfl, rfl, rfl, rfl, rfl, rfl, rfl, rfl, rfl, rfl, rfl, rfl, rfl, rfl, rfl, rfl, rfl, rfl⟩

@[simp] theorem State.setSaf_saf (s : State) (f : Saf → Saf) : (State.setSaf s f).saf = f s.saf := rfl

@[simp] theorem State.setApp_keeps (s : State) (f : App → App) :
    (State.setApp s f).pending = s.pending ∧ (State.setApp s f).variant = s.variant ∧
    (State.setApp s f).clk = s.clk ∧ (State.setApp s f).unit = s.unit ∧ (State.setApp s f).str = s.str ∧
    (State.setApp s f).pwr = s.pwr ∧ (State.setApp s f).hvi = s.hvi ∧ (State.setApp s f).hviStr = s.hviStr ∧
    (State.setApp s f).rings = s.rings ∧ (State.setApp s f).cee = s.cee ∧ (State.setApp s f).tpe = s.tpe ∧
    (State.setApp s f).th = s.th ∧ (State.setApp s f).bal = s.bal ∧ (State.setApp s f).dsp = s.dsp ∧
    (State.setApp s f).conv = s.conv ∧ (State.setApp s f).phase = s.phase ∧ (State.setApp s f).gx2 = s.gx2 ∧
    (State.setApp s f).le = s.le ∧ (State.setApp s f).saf = s.saf ∧ (State.setApp s f).red = s.red ∧
    (State.setApp s f).rack = s.rack ∧ (State.setApp s f).seq = s.seq ∧ (State.setApp s f).tsu = s.tsu ∧
    (State.setApp s f).hpr = s.hpr ∧ (State.setApp s f).net = s.net ∧ (State.setApp s f).icu = s.icu ∧
    (State.setApp s f).flt = s.flt ∧ (State.setApp s f).plg = s.plg ∧ (State.setApp s f).upd = s.upd ∧
    (State.setApp s f).mem = s.mem ∧ (State.setApp s f).canRam = s.canRam ∧ (State.setApp s f).free = s.free := by
  exact ⟨rfl, rfl, rfl, rfl, rfl, rfl, rfl, rfl, rfl, rfl, rfl, rfl, rfl, rfl, rfl, rfl, rfl, rfl, rfl, rfl, rfl, rfl, rfl, rfl, rfl, rfl, rfl, rfl, rfl, rfl, rfl, rfl⟩

@[simp] theorem State.setApp_app (s : State) (f : App → App) : (State.setApp s f).app = f s.app := rfl

@[simp] theorem State.setTpe_keeps (s : State) (f : Tpe → Tpe) :
    (State.setTpe s f).pending = s.pending ∧ (State.setTpe s f).variant = s.variant ∧
    (State.setTpe s f).clk = s.clk ∧ (State.setTpe s f).unit = s.unit ∧ (State.setTpe s f).str = s.str ∧
    (State.setTpe s f).pwr = s.pwr ∧ (State.setTpe s f).hvi = s.hvi ∧ (State.setTpe s f).hviStr = s.hviStr ∧
    (State.setTpe s f).rings = s.rings ∧ (State.setTpe s f).cee = s.cee ∧ (State.setTpe s f).th = s.th ∧
    (State.setTpe s f).bal = s.bal ∧ (State.setTpe s f).dsp = s.dsp ∧ (State.setTpe s f).conv = s.conv ∧
    (State.setTpe s f).phase = s.phase ∧ (State.setTpe s f).gx2 = s.gx2 ∧ (State.setTpe s f).le = s.le ∧
    (State.setTpe s f).saf = s.saf ∧ (State.setTpe s f).red = s.red ∧ (State.setTpe s f).rack = s.rack ∧
    (State.setTpe s f).seq = s.seq ∧ (State.setTpe s f).tsu = s.tsu ∧ (State.setTpe s f).hpr = s.hpr ∧
    (State.setTpe s f).net = s.net ∧ (State.setTpe s f).app = s.app ∧ (State.setTpe s f).icu = s.icu ∧
    (State.setTpe s f).flt = s.flt ∧ (State.setTpe s f).plg = s.plg ∧ (State.setTpe s f).upd = s.upd ∧
    (State.setTpe s f).mem = s.mem ∧ (State.setTpe s f).canRam = s.canRam ∧ (State.setTpe s f).free = s.free := by
  exact ⟨rfl, rfl, rfl, rfl, rfl, rfl, rfl, rfl, rfl, rfl, rfl, rfl, rfl, rfl, rfl, rfl, rfl, rfl, rfl, rfl, rfl, rfl, rfl, rfl, rfl, rfl, rfl, rfl, rfl, rfl, rfl, rfl⟩

@[simp] theorem State.setTpe_tpe (s : State) (f : Tpe → Tpe) : (State.setTpe s f).tpe = f s.tpe := rfl

@[simp] theorem State.setCee_keeps (s : State) (f : Cee → Cee) :
    (State.setCee s f).pending = s.pending ∧ (State.setCee s f).variant = s.variant ∧
    (State.setCee s f).clk = s.clk ∧ (State.setCee s f).unit = s.unit ∧ (State.setCee s f).str = s.str ∧
    (State.setCee s f).pwr = s.pwr ∧ (State.setCee s f).hvi = s.hvi ∧ (State.setCee s f).hviStr = s.hviStr ∧
    (State.setCee s f).rings = s.rings ∧ (State.setCee s f).tpe = s.tpe ∧ (State.setCee s f).th = s.th ∧
    (State.setCee s f).bal = s.bal ∧ (State.setCee s f).dsp = s.dsp ∧ (State.setCee s f).conv = s.conv ∧
    (State.setCee s f).phase = s.phase ∧ (State.setCee s f).gx2 = s.gx2 ∧ (State.setCee s f).le = s.le ∧
    (State.setCee s f).saf = s.saf ∧ (State.setCee s f).red = s.red ∧ (State.setCee s f).rack = s.rack ∧
    (State.setCee s f).seq = s.seq ∧ (State.setCee s f).tsu = s.tsu ∧ (State.setCee s f).hpr = s.hpr ∧
    (State.setCee s f).net = s.net ∧ (State.setCee s f).app = s.app ∧ (State.setCee s f).icu = s.icu ∧
    (State.setCee s f).flt = s.flt ∧ (State.setCee s f).plg = s.plg ∧ (State.setCee s f).upd = s.upd ∧
    (State.setCee s f).mem = s.mem ∧ (State.setCee s f).canRam = s.canRam ∧ (State.setCee s f).free = s.free := by
  exact ⟨rfl, rfl, rfl, rfl, rfl, rfl, rfl, rfl, rfl, rfl, rfl, rfl, rfl, rfl, rfl, rfl, rfl, rfl, rfl, rfl, rfl, rfl, rfl, rfl, rfl, rfl, rfl, rfl, rfl, rfl, rfl, rfl⟩

@[simp] theorem State.setCee_cee (s : State) (f : Cee → Cee) : (State.setCee s f).cee = f s.cee := rfl

@[simp] theorem State.setSeq_keeps (s : State) (f : Seq → Seq) :
    (State.setSeq s f).pending = s.pending ∧ (State.setSeq s f).variant = s.variant ∧
    (State.setSeq s f).clk = s.clk ∧ (State.setSeq s f).unit = s.unit ∧ (State.setSeq s f).str = s.str ∧
    (State.setSeq s f).pwr = s.pwr ∧ (State.setSeq s f).hvi = s.hvi ∧ (State.setSeq s f).hviStr = s.hviStr ∧
    (State.setSeq s f).rings = s.rings ∧ (State.setSeq s f).cee = s.cee ∧ (State.setSeq s f).tpe = s.tpe ∧
    (State.setSeq s f).th = s.th ∧ (State.setSeq s f).bal = s.bal ∧ (State.setSeq s f).dsp = s.dsp ∧
    (State.setSeq s f).conv = s.conv ∧ (State.setSeq s f).phase = s.phase ∧ (State.setSeq s f).gx2 = s.gx2 ∧
    (State.setSeq s f).le = s.le ∧ (State.setSeq s f).saf = s.saf ∧ (State.setSeq s f).red = s.red ∧
    (State.setSeq s f).rack = s.rack ∧ (State.setSeq s f).tsu = s.tsu ∧ (State.setSeq s f).hpr = s.hpr ∧
    (State.setSeq s f).net = s.net ∧ (State.setSeq s f).app = s.app ∧ (State.setSeq s f).icu = s.icu ∧
    (State.setSeq s f).flt = s.flt ∧ (State.setSeq s f).plg = s.plg ∧ (State.setSeq s f).upd = s.upd ∧
    (State.setSeq s f).mem = s.mem ∧ (State.setSeq s f).canRam = s.canRam ∧ (State.setSeq s f).free = s.free := by
  exact ⟨rfl, rfl, rfl, rfl, rfl, rfl, rfl, rfl, rfl, rfl, rfl, rfl, rfl, rfl, rfl, rfl, rfl, rfl, rfl, rfl, rfl, rfl, rfl, rfl, rfl, rfl, rfl, rfl, rfl, rfl, rfl, rfl⟩

@[simp] theorem State.setSeq_seq (s : State) (f : Seq → Seq) : (State.setSeq s f).seq = f s.seq := rfl

@[simp] theorem State.setUpd_keeps (s : State) (f : Upd → Upd) :
    (State.setUpd s f).pending = s.pending ∧ (State.setUpd s f).variant = s.variant ∧
    (State.setUpd s f).clk = s.clk ∧ (State.setUpd s f).unit = s.unit ∧ (State.setUpd s f).str = s.str ∧
    (State.setUpd s f).pwr = s.pwr ∧ (State.setUpd s f).hvi = s.hvi ∧ (State.setUpd s f).hviStr = s.hviStr ∧
    (State.setUpd s f).rings = s.rings ∧ (State.setUpd s f).cee = s.cee ∧ (State.setUpd s f).tpe = s.tpe ∧
    (State.setUpd s f).th = s.th ∧ (State.setUpd s f).bal = s.bal ∧ (State.setUpd s f).dsp = s.dsp ∧
    (State.setUpd s f).conv = s.conv ∧ (State.setUpd s f).phase = s.phase ∧ (State.setUpd s f).gx2 = s.gx2 ∧
    (State.setUpd s f).le = s.le ∧ (State.setUpd s f).saf = s.saf ∧ (State.setUpd s f).red = s.red ∧
    (State.setUpd s f).rack = s.rack ∧ (State.setUpd s f).seq = s.seq ∧ (State.setUpd s f).tsu = s.tsu ∧
    (State.setUpd s f).hpr = s.hpr ∧ (State.setUpd s f).net = s.net ∧ (State.setUpd s f).app = s.app ∧
    (State.setUpd s f).icu = s.icu ∧ (State.setUpd s f).flt = s.flt ∧ (State.setUpd s f).plg = s.plg ∧
    (State.setUpd s f).mem = s.mem ∧ (State.setUpd s f).canRam = s.canRam ∧ (State.setUpd s f).free = s.free := by
  exact ⟨rfl, rfl, rfl, rfl, rfl, rfl, rfl, rfl, rfl, rfl, rfl, rfl, rfl, rfl, rfl, rfl, rfl, rfl, rfl, rfl, rfl, rfl, rfl, rfl, rfl, rfl, rfl, rfl, rfl, rfl, rfl, rfl⟩

@[simp] theorem State.setUpd_upd (s : State) (f : Upd → Upd) : (State.setUpd s f).upd = f s.upd := rfl

@[simp] theorem State.setLe_keeps (s : State) (f : Le → Le) :
    (State.setLe s f).pending = s.pending ∧ (State.setLe s f).variant = s.variant ∧ (State.setLe s f).clk = s.clk ∧
    (State.setLe s f).unit = s.unit ∧ (State.setLe s f).str = s.str ∧ (State.setLe s f).pwr = s.pwr ∧
    (State.setLe s f).hvi = s.hvi ∧ (State.setLe s f).hviStr = s.hviStr ∧ (State.setLe s f).rings = s.rings ∧
    (State.setLe s f).cee = s.cee ∧ (State.setLe s f).tpe = s.tpe ∧ (State.setLe s f).th = s.th ∧
    (State.setLe s f).bal = s.bal ∧ (State.setLe s f).dsp = s.dsp ∧ (State.setLe s f).conv = s.conv ∧
    (State.setLe s f).phase = s.phase ∧ (State.setLe s f).gx2 = s.gx2 ∧ (State.setLe s f).saf = s.saf ∧
    (State.setLe s f).red = s.red ∧ (State.setLe s f).rack = s.rack ∧ (State.setLe s f).seq = s.seq ∧
    (State.setLe s f).tsu = s.tsu ∧ (State.setLe s f).hpr = s.hpr ∧ (State.setLe s f).net = s.net ∧
    (State.setLe s f).app = s.app ∧ (State.setLe s f).icu = s.icu ∧ (State.setLe s f).flt = s.flt ∧
    (State.setLe s f).plg = s.plg ∧ (State.setLe s f).upd = s.upd ∧ (State.setLe s f).mem = s.mem ∧
    (State.setLe s f).canRam = s.canRam ∧ (State.setLe s f).free = s.free := by
  exact ⟨rfl, rfl, rfl, rfl, rfl, rfl, rfl, rfl, rfl, rfl, rfl, rfl, rfl, rfl, rfl, rfl, rfl, rfl, rfl, rfl, rfl, rfl, rfl, rfl, rfl, rfl, rfl, rfl, rfl, rfl, rfl, rfl⟩

@[simp] theorem State.setLe_le (s : State) (f : Le → Le) : (State.setLe s f).le = f s.le := rfl

end Sys2Proof.Machine
end

