-- ==== Sys2Proof/Laws/Ops.lean ====
section
/-! SUPPORT. What the operations of Ops leave alone. -/

namespace Sys2Proof.Machine

@[simp] theorem State.advance_keeps (s : State) (t : Nat) :
    (State.advance s t).pending = s.pending ∧ (State.advance s t).variant = s.variant ∧
    (State.advance s t).unit = s.unit ∧ (State.advance s t).str = s.str ∧ (State.advance s t).pwr = s.pwr ∧
    (State.advance s t).hvi = s.hvi ∧ (State.advance s t).hviStr = s.hviStr ∧ (State.advance s t).rings = s.rings ∧
    (State.advance s t).cee = s.cee ∧ (State.advance s t).tpe = s.tpe ∧ (State.advance s t).th = s.th ∧
    (State.advance s t).bal = s.bal ∧ (State.advance s t).dsp = s.dsp ∧ (State.advance s t).conv = s.conv ∧
    (State.advance s t).phase = s.phase ∧ (State.advance s t).gx2 = s.gx2 ∧ (State.advance s t).le = s.le ∧
    (State.advance s t).saf = s.saf ∧ (State.advance s t).red = s.red ∧ (State.advance s t).rack = s.rack ∧
    (State.advance s t).seq = s.seq ∧ (State.advance s t).hpr = s.hpr ∧ (State.advance s t).net = s.net ∧
    (State.advance s t).app = s.app ∧ (State.advance s t).icu = s.icu ∧ (State.advance s t).flt = s.flt ∧
    (State.advance s t).plg = s.plg ∧ (State.advance s t).upd = s.upd ∧ (State.advance s t).mem = s.mem ∧
    (State.advance s t).canRam = s.canRam ∧ (State.advance s t).free = s.free := by
  unfold State.advance; (repeat' split) <;> simp

@[simp] theorem progTrigger_keeps (s : State) (n at_ period : Nat) :
    (progTrigger s n at_ period).pending = s.pending ∧ (progTrigger s n at_ period).variant = s.variant ∧
    (progTrigger s n at_ period).clk = s.clk ∧ (progTrigger s n at_ period).unit = s.unit ∧
    (progTrigger s n at_ period).str = s.str ∧ (progTrigger s n at_ period).pwr = s.pwr ∧
    (progTrigger s n at_ period).hvi = s.hvi ∧ (progTrigger s n at_ period).hviStr = s.hviStr ∧
    (progTrigger s n at_ period).rings = s.rings ∧ (progTrigger s n at_ period).cee = s.cee ∧
    (progTrigger s n at_ period).tpe = s.tpe ∧ (progTrigger s n at_ period).th = s.th ∧
    (progTrigger s n at_ period).bal = s.bal ∧ (progTrigger s n at_ period).dsp = s.dsp ∧
    (progTrigger s n at_ period).conv = s.conv ∧ (progTrigger s n at_ period).phase = s.phase ∧
    (progTrigger s n at_ period).gx2 = s.gx2 ∧ (progTrigger s n at_ period).le = s.le ∧
    (progTrigger s n at_ period).saf = s.saf ∧ (progTrigger s n at_ period).red = s.red ∧
    (progTrigger s n at_ period).rack = s.rack ∧ (progTrigger s n at_ period).seq = s.seq ∧
    (progTrigger s n at_ period).hpr = s.hpr ∧ (progTrigger s n at_ period).net = s.net ∧
    (progTrigger s n at_ period).app = s.app ∧ (progTrigger s n at_ period).icu = s.icu ∧
    (progTrigger s n at_ period).flt = s.flt ∧ (progTrigger s n at_ period).plg = s.plg ∧
    (progTrigger s n at_ period).upd = s.upd ∧ (progTrigger s n at_ period).mem = s.mem ∧
    (progTrigger s n at_ period).canRam = s.canRam ∧ (progTrigger s n at_ period).free = s.free := by
  unfold progTrigger; (repeat' split) <;> simp

@[simp] theorem State.draw_keeps (s : State) :
    (State.draw s).pending = s.pending ∧ (State.draw s).variant = s.variant ∧ (State.draw s).clk = s.clk ∧
    (State.draw s).unit = s.unit ∧ (State.draw s).str = s.str ∧ (State.draw s).pwr = s.pwr ∧
    (State.draw s).hvi = s.hvi ∧ (State.draw s).hviStr = s.hviStr ∧ (State.draw s).rings = s.rings ∧
    (State.draw s).cee = s.cee ∧ (State.draw s).tpe = s.tpe ∧ (State.draw s).th = s.th ∧ (State.draw s).bal = s.bal ∧
    (State.draw s).dsp = s.dsp ∧ (State.draw s).conv = s.conv ∧ (State.draw s).phase = s.phase ∧
    (State.draw s).gx2 = s.gx2 ∧ (State.draw s).le = s.le ∧ (State.draw s).saf = s.saf ∧ (State.draw s).red = s.red ∧
    (State.draw s).rack = s.rack ∧ (State.draw s).seq = s.seq ∧ (State.draw s).tsu = s.tsu ∧
    (State.draw s).hpr = s.hpr ∧ (State.draw s).net = s.net ∧ (State.draw s).app = s.app ∧
    (State.draw s).icu = s.icu ∧ (State.draw s).flt = s.flt ∧ (State.draw s).plg = s.plg ∧
    (State.draw s).upd = s.upd ∧ (State.draw s).mem = s.mem ∧ (State.draw s).canRam = s.canRam := by
  unfold State.draw; (repeat' split) <;> simp

@[simp] theorem State.modTgt_keeps (s : State) (g : Target) (f : Tgt → Tgt) :
    (State.modTgt s g f).pending = s.pending ∧ (State.modTgt s g f).variant = s.variant ∧
    (State.modTgt s g f).clk = s.clk ∧ (State.modTgt s g f).unit = s.unit ∧ (State.modTgt s g f).str = s.str ∧
    (State.modTgt s g f).pwr = s.pwr ∧ (State.modTgt s g f).hvi = s.hvi ∧ (State.modTgt s g f).hviStr = s.hviStr ∧
    (State.modTgt s g f).rings = s.rings ∧ (State.modTgt s g f).cee = s.cee ∧ (State.modTgt s g f).tpe = s.tpe ∧
    (State.modTgt s g f).th = s.th ∧ (State.modTgt s g f).bal = s.bal ∧ (State.modTgt s g f).dsp = s.dsp ∧
    (State.modTgt s g f).conv = s.conv ∧ (State.modTgt s g f).phase = s.phase ∧ (State.modTgt s g f).gx2 = s.gx2 ∧
    (State.modTgt s g f).le = s.le ∧ (State.modTgt s g f).saf = s.saf ∧ (State.modTgt s g f).red = s.red ∧
    (State.modTgt s g f).rack = s.rack ∧ (State.modTgt s g f).seq = s.seq ∧ (State.modTgt s g f).tsu = s.tsu ∧
    (State.modTgt s g f).hpr = s.hpr ∧ (State.modTgt s g f).net = s.net ∧ (State.modTgt s g f).app = s.app ∧
    (State.modTgt s g f).flt = s.flt ∧ (State.modTgt s g f).plg = s.plg ∧ (State.modTgt s g f).upd = s.upd ∧
    (State.modTgt s g f).mem = s.mem ∧ (State.modTgt s g f).canRam = s.canRam ∧ (State.modTgt s g f).free = s.free := by
  unfold State.modTgt; (repeat' split) <;> simp

@[simp] theorem State.modSrc_keeps (s : State) (g : Target) (n : Nat) (f : Src → Src) :
    (State.modSrc s g n f).pending = s.pending ∧ (State.modSrc s g n f).variant = s.variant ∧
    (State.modSrc s g n f).clk = s.clk ∧ (State.modSrc s g n f).unit = s.unit ∧ (State.modSrc s g n f).str = s.str ∧
    (State.modSrc s g n f).pwr = s.pwr ∧ (State.modSrc s g n f).hvi = s.hvi ∧
    (State.modSrc s g n f).hviStr = s.hviStr ∧ (State.modSrc s g n f).rings = s.rings ∧
    (State.modSrc s g n f).cee = s.cee ∧ (State.modSrc s g n f).tpe = s.tpe ∧ (State.modSrc s g n f).th = s.th ∧
    (State.modSrc s g n f).bal = s.bal ∧ (State.modSrc s g n f).dsp = s.dsp ∧ (State.modSrc s g n f).conv = s.conv ∧
    (State.modSrc s g n f).phase = s.phase ∧ (State.modSrc s g n f).gx2 = s.gx2 ∧ (State.modSrc s g n f).le = s.le ∧
    (State.modSrc s g n f).saf = s.saf ∧ (State.modSrc s g n f).red = s.red ∧ (State.modSrc s g n f).rack = s.rack ∧
    (State.modSrc s g n f).seq = s.seq ∧ (State.modSrc s g n f).tsu = s.tsu ∧ (State.modSrc s g n f).hpr = s.hpr ∧
    (State.modSrc s g n f).net = s.net ∧ (State.modSrc s g n f).app = s.app ∧ (State.modSrc s g n f).flt = s.flt ∧
    (State.modSrc s g n f).plg = s.plg ∧ (State.modSrc s g n f).upd = s.upd ∧ (State.modSrc s g n f).mem = s.mem ∧
    (State.modSrc s g n f).canRam = s.canRam ∧ (State.modSrc s g n f).free = s.free := by
  unfold State.modSrc; (repeat' split) <;> simp

@[simp] theorem icuPend_keeps (s : State) (g : Target) (n : Nat) :
    (icuPend s g n).pending = s.pending ∧ (icuPend s g n).variant = s.variant ∧ (icuPend s g n).clk = s.clk ∧
    (icuPend s g n).unit = s.unit ∧ (icuPend s g n).str = s.str ∧ (icuPend s g n).pwr = s.pwr ∧
    (icuPend s g n).hvi = s.hvi ∧ (icuPend s g n).hviStr = s.hviStr ∧ (icuPend s g n).rings = s.rings ∧
    (icuPend s g n).cee = s.cee ∧ (icuPend s g n).tpe = s.tpe ∧ (icuPend s g n).th = s.th ∧
    (icuPend s g n).bal = s.bal ∧ (icuPend s g n).dsp = s.dsp ∧ (icuPend s g n).conv = s.conv ∧
    (icuPend s g n).phase = s.phase ∧ (icuPend s g n).gx2 = s.gx2 ∧ (icuPend s g n).le = s.le ∧
    (icuPend s g n).saf = s.saf ∧ (icuPend s g n).red = s.red ∧ (icuPend s g n).rack = s.rack ∧
    (icuPend s g n).seq = s.seq ∧ (icuPend s g n).tsu = s.tsu ∧ (icuPend s g n).hpr = s.hpr ∧
    (icuPend s g n).net = s.net ∧ (icuPend s g n).app = s.app ∧ (icuPend s g n).flt = s.flt ∧
    (icuPend s g n).plg = s.plg ∧ (icuPend s g n).upd = s.upd ∧ (icuPend s g n).mem = s.mem ∧
    (icuPend s g n).canRam = s.canRam ∧ (icuPend s g n).free = s.free := by
  unfold icuPend; (repeat' split) <;> simp

@[simp] theorem icuPrivate_keeps (s : State) (g : Target) (n : Nat) :
    (icuPrivate s g n).pending = s.pending ∧ (icuPrivate s g n).variant = s.variant ∧
    (icuPrivate s g n).clk = s.clk ∧ (icuPrivate s g n).unit = s.unit ∧ (icuPrivate s g n).str = s.str ∧
    (icuPrivate s g n).pwr = s.pwr ∧ (icuPrivate s g n).hvi = s.hvi ∧ (icuPrivate s g n).hviStr = s.hviStr ∧
    (icuPrivate s g n).rings = s.rings ∧ (icuPrivate s g n).cee = s.cee ∧ (icuPrivate s g n).tpe = s.tpe ∧
    (icuPrivate s g n).th = s.th ∧ (icuPrivate s g n).bal = s.bal ∧ (icuPrivate s g n).dsp = s.dsp ∧
    (icuPrivate s g n).conv = s.conv ∧ (icuPrivate s g n).phase = s.phase ∧ (icuPrivate s g n).gx2 = s.gx2 ∧
    (icuPrivate s g n).le = s.le ∧ (icuPrivate s g n).saf = s.saf ∧ (icuPrivate s g n).red = s.red ∧
    (icuPrivate s g n).rack = s.rack ∧ (icuPrivate s g n).seq = s.seq ∧ (icuPrivate s g n).tsu = s.tsu ∧
    (icuPrivate s g n).hpr = s.hpr ∧ (icuPrivate s g n).net = s.net ∧ (icuPrivate s g n).app = s.app ∧
    (icuPrivate s g n).flt = s.flt ∧ (icuPrivate s g n).plg = s.plg ∧ (icuPrivate s g n).upd = s.upd ∧
    (icuPrivate s g n).mem = s.mem ∧ (icuPrivate s g n).canRam = s.canRam ∧ (icuPrivate s g n).free = s.free := by
  unfold icuPrivate; (repeat' split) <;> simp

@[simp] theorem record_keeps (s : State) (code src lv p0 p1 p2 : Nat) :
    (record s code src lv p0 p1 p2).pending = s.pending ∧ (record s code src lv p0 p1 p2).variant = s.variant ∧
    (record s code src lv p0 p1 p2).clk = s.clk ∧ (record s code src lv p0 p1 p2).unit = s.unit ∧
    (record s code src lv p0 p1 p2).str = s.str ∧ (record s code src lv p0 p1 p2).pwr = s.pwr ∧
    (record s code src lv p0 p1 p2).hvi = s.hvi ∧ (record s code src lv p0 p1 p2).hviStr = s.hviStr ∧
    (record s code src lv p0 p1 p2).rings = s.rings ∧ (record s code src lv p0 p1 p2).cee = s.cee ∧
    (record s code src lv p0 p1 p2).tpe = s.tpe ∧ (record s code src lv p0 p1 p2).th = s.th ∧
    (record s code src lv p0 p1 p2).bal = s.bal ∧ (record s code src lv p0 p1 p2).dsp = s.dsp ∧
    (record s code src lv p0 p1 p2).conv = s.conv ∧ (record s code src lv p0 p1 p2).phase = s.phase ∧
    (record s code src lv p0 p1 p2).gx2 = s.gx2 ∧ (record s code src lv p0 p1 p2).le = s.le ∧
    (record s code src lv p0 p1 p2).saf = s.saf ∧ (record s code src lv p0 p1 p2).red = s.red ∧
    (record s code src lv p0 p1 p2).rack = s.rack ∧ (record s code src lv p0 p1 p2).seq = s.seq ∧
    (record s code src lv p0 p1 p2).tsu = s.tsu ∧ (record s code src lv p0 p1 p2).hpr = s.hpr ∧
    (record s code src lv p0 p1 p2).net = s.net ∧ (record s code src lv p0 p1 p2).app = s.app ∧
    (record s code src lv p0 p1 p2).flt = s.flt ∧ (record s code src lv p0 p1 p2).upd = s.upd ∧
    (record s code src lv p0 p1 p2).mem = s.mem ∧ (record s code src lv p0 p1 p2).canRam = s.canRam ∧
    (record s code src lv p0 p1 p2).free = s.free := by
  unfold record; (repeat' split) <;> simp

@[simp] theorem groupRecord_keeps (s : State) (grp src lv rule obj val : Nat) :
    (groupRecord s grp src lv rule obj val).pending = s.pending ∧
    (groupRecord s grp src lv rule obj val).variant = s.variant ∧
    (groupRecord s grp src lv rule obj val).clk = s.clk ∧ (groupRecord s grp src lv rule obj val).unit = s.unit ∧
    (groupRecord s grp src lv rule obj val).str = s.str ∧ (groupRecord s grp src lv rule obj val).pwr = s.pwr ∧
    (groupRecord s grp src lv rule obj val).hvi = s.hvi ∧ (groupRecord s grp src lv rule obj val).hviStr = s.hviStr ∧
    (groupRecord s grp src lv rule obj val).rings = s.rings ∧ (groupRecord s grp src lv rule obj val).cee = s.cee ∧
    (groupRecord s grp src lv rule obj val).tpe = s.tpe ∧ (groupRecord s grp src lv rule obj val).th = s.th ∧
    (groupRecord s grp src lv rule obj val).bal = s.bal ∧ (groupRecord s grp src lv rule obj val).dsp = s.dsp ∧
    (groupRecord s grp src lv rule obj val).conv = s.conv ∧ (groupRecord s grp src lv rule obj val).phase = s.phase ∧
    (groupRecord s grp src lv rule obj val).gx2 = s.gx2 ∧ (groupRecord s grp src lv rule obj val).le = s.le ∧
    (groupRecord s grp src lv rule obj val).saf = s.saf ∧ (groupRecord s grp src lv rule obj val).red = s.red ∧
    (groupRecord s grp src lv rule obj val).rack = s.rack ∧ (groupRecord s grp src lv rule obj val).seq = s.seq ∧
    (groupRecord s grp src lv rule obj val).tsu = s.tsu ∧ (groupRecord s grp src lv rule obj val).hpr = s.hpr ∧
    (groupRecord s grp src lv rule obj val).net = s.net ∧ (groupRecord s grp src lv rule obj val).app = s.app ∧
    (groupRecord s grp src lv rule obj val).flt = s.flt ∧ (groupRecord s grp src lv rule obj val).upd = s.upd ∧
    (groupRecord s grp src lv rule obj val).mem = s.mem ∧ (groupRecord s grp src lv rule obj val).canRam = s.canRam ∧
    (groupRecord s grp src lv rule obj val).free = s.free := by
  unfold groupRecord; (repeat' split) <;> simp

@[simp] theorem redirRecord_keeps (s : State) (g : Target) (n : Nat) :
    (redirRecord s g n).pending = s.pending ∧ (redirRecord s g n).variant = s.variant ∧
    (redirRecord s g n).clk = s.clk ∧ (redirRecord s g n).unit = s.unit ∧ (redirRecord s g n).str = s.str ∧
    (redirRecord s g n).pwr = s.pwr ∧ (redirRecord s g n).hvi = s.hvi ∧ (redirRecord s g n).hviStr = s.hviStr ∧
    (redirRecord s g n).rings = s.rings ∧ (redirRecord s g n).cee = s.cee ∧ (redirRecord s g n).tpe = s.tpe ∧
    (redirRecord s g n).th = s.th ∧ (redirRecord s g n).bal = s.bal ∧ (redirRecord s g n).dsp = s.dsp ∧
    (redirRecord s g n).conv = s.conv ∧ (redirRecord s g n).phase = s.phase ∧ (redirRecord s g n).gx2 = s.gx2 ∧
    (redirRecord s g n).le = s.le ∧ (redirRecord s g n).saf = s.saf ∧ (redirRecord s g n).red = s.red ∧
    (redirRecord s g n).rack = s.rack ∧ (redirRecord s g n).seq = s.seq ∧ (redirRecord s g n).tsu = s.tsu ∧
    (redirRecord s g n).hpr = s.hpr ∧ (redirRecord s g n).net = s.net ∧ (redirRecord s g n).app = s.app ∧
    (redirRecord s g n).flt = s.flt ∧ (redirRecord s g n).upd = s.upd ∧ (redirRecord s g n).mem = s.mem ∧
    (redirRecord s g n).canRam = s.canRam ∧ (redirRecord s g n).free = s.free := by
  unfold redirRecord; (repeat' split) <;> simp

@[simp] theorem icuShared_keeps (s : State) (n : Nat) :
    (icuShared s n).pending = s.pending ∧ (icuShared s n).variant = s.variant ∧ (icuShared s n).clk = s.clk ∧
    (icuShared s n).unit = s.unit ∧ (icuShared s n).str = s.str ∧ (icuShared s n).pwr = s.pwr ∧
    (icuShared s n).hvi = s.hvi ∧ (icuShared s n).hviStr = s.hviStr ∧ (icuShared s n).rings = s.rings ∧
    (icuShared s n).cee = s.cee ∧ (icuShared s n).tpe = s.tpe ∧ (icuShared s n).th = s.th ∧
    (icuShared s n).bal = s.bal ∧ (icuShared s n).dsp = s.dsp ∧ (icuShared s n).conv = s.conv ∧
    (icuShared s n).phase = s.phase ∧ (icuShared s n).gx2 = s.gx2 ∧ (icuShared s n).le = s.le ∧
    (icuShared s n).saf = s.saf ∧ (icuShared s n).red = s.red ∧ (icuShared s n).rack = s.rack ∧
    (icuShared s n).seq = s.seq ∧ (icuShared s n).tsu = s.tsu ∧ (icuShared s n).hpr = s.hpr ∧
    (icuShared s n).net = s.net ∧ (icuShared s n).app = s.app ∧ (icuShared s n).flt = s.flt ∧
    (icuShared s n).upd = s.upd ∧ (icuShared s n).mem = s.mem ∧ (icuShared s n).canRam = s.canRam ∧
    (icuShared s n).free = s.free := by
  simp [icuShared]

@[simp] theorem syncUnit_keeps (s : State) :
    (syncUnit s).pending = s.pending ∧ (syncUnit s).variant = s.variant ∧ (syncUnit s).clk = s.clk ∧
    (syncUnit s).unit = s.unit ∧ (syncUnit s).str = s.str ∧ (syncUnit s).pwr = s.pwr ∧ (syncUnit s).hvi = s.hvi ∧
    (syncUnit s).hviStr = s.hviStr ∧ (syncUnit s).rings = s.rings ∧ (syncUnit s).cee = s.cee ∧
    (syncUnit s).tpe = s.tpe ∧ (syncUnit s).th = s.th ∧ (syncUnit s).bal = s.bal ∧ (syncUnit s).dsp = s.dsp ∧
    (syncUnit s).conv = s.conv ∧ (syncUnit s).phase = s.phase ∧ (syncUnit s).gx2 = s.gx2 ∧ (syncUnit s).le = s.le ∧
    (syncUnit s).saf = s.saf ∧ (syncUnit s).red = s.red ∧ (syncUnit s).rack = s.rack ∧ (syncUnit s).seq = s.seq ∧
    (syncUnit s).tsu = s.tsu ∧ (syncUnit s).net = s.net ∧ (syncUnit s).app = s.app ∧ (syncUnit s).flt = s.flt ∧
    (syncUnit s).plg = s.plg ∧ (syncUnit s).upd = s.upd ∧ (syncUnit s).mem = s.mem ∧ (syncUnit s).canRam = s.canRam ∧
    (syncUnit s).free = s.free := by
  unfold syncUnit; (repeat' split) <;> simp

@[simp] theorem isoRole_keeps (s : State) :
    (isoRole s).pending = s.pending ∧ (isoRole s).variant = s.variant ∧ (isoRole s).clk = s.clk ∧
    (isoRole s).unit = s.unit ∧ (isoRole s).str = s.str ∧ (isoRole s).pwr = s.pwr ∧ (isoRole s).hviStr = s.hviStr ∧
    (isoRole s).rings = s.rings ∧ (isoRole s).cee = s.cee ∧ (isoRole s).tpe = s.tpe ∧ (isoRole s).th = s.th ∧
    (isoRole s).bal = s.bal ∧ (isoRole s).dsp = s.dsp ∧ (isoRole s).conv = s.conv ∧ (isoRole s).phase = s.phase ∧
    (isoRole s).gx2 = s.gx2 ∧ (isoRole s).le = s.le ∧ (isoRole s).saf = s.saf ∧ (isoRole s).red = s.red ∧
    (isoRole s).rack = s.rack ∧ (isoRole s).seq = s.seq ∧ (isoRole s).tsu = s.tsu ∧ (isoRole s).hpr = s.hpr ∧
    (isoRole s).net = s.net ∧ (isoRole s).app = s.app ∧ (isoRole s).icu = s.icu ∧ (isoRole s).flt = s.flt ∧
    (isoRole s).plg = s.plg ∧ (isoRole s).upd = s.upd ∧ (isoRole s).mem = s.mem ∧ (isoRole s).canRam = s.canRam ∧
    (isoRole s).free = s.free := by
  unfold isoRole; (repeat' split) <;> simp

@[simp] theorem setUnit_keeps (s : State) (u : UnitState) (cause : Nat) :
    (setUnit s u cause).pending = s.pending ∧ (setUnit s u cause).variant = s.variant ∧
    (setUnit s u cause).clk = s.clk ∧ (setUnit s u cause).str = s.str ∧ (setUnit s u cause).pwr = s.pwr ∧
    (setUnit s u cause).hviStr = s.hviStr ∧ (setUnit s u cause).rings = s.rings ∧ (setUnit s u cause).cee = s.cee ∧
    (setUnit s u cause).tpe = s.tpe ∧ (setUnit s u cause).th = s.th ∧ (setUnit s u cause).bal = s.bal ∧
    (setUnit s u cause).dsp = s.dsp ∧ (setUnit s u cause).conv = s.conv ∧ (setUnit s u cause).phase = s.phase ∧
    (setUnit s u cause).gx2 = s.gx2 ∧ (setUnit s u cause).le = s.le ∧ (setUnit s u cause).saf = s.saf ∧
    (setUnit s u cause).red = s.red ∧ (setUnit s u cause).rack = s.rack ∧ (setUnit s u cause).seq = s.seq ∧
    (setUnit s u cause).tsu = s.tsu ∧ (setUnit s u cause).net = s.net ∧ (setUnit s u cause).flt = s.flt ∧
    (setUnit s u cause).upd = s.upd ∧ (setUnit s u cause).mem = s.mem ∧ (setUnit s u cause).canRam = s.canRam ∧
    (setUnit s u cause).free = s.free := by
  unfold setUnit; split
  · simp
  · dsimp only; split <;> simp

@[simp] theorem roleRecord_keeps (s : State) (old : UnitState) (takeover : Bool) :
    (roleRecord s old takeover).pending = s.pending ∧ (roleRecord s old takeover).variant = s.variant ∧
    (roleRecord s old takeover).clk = s.clk ∧ (roleRecord s old takeover).unit = s.unit ∧
    (roleRecord s old takeover).str = s.str ∧ (roleRecord s old takeover).pwr = s.pwr ∧
    (roleRecord s old takeover).hvi = s.hvi ∧ (roleRecord s old takeover).hviStr = s.hviStr ∧
    (roleRecord s old takeover).rings = s.rings ∧ (roleRecord s old takeover).cee = s.cee ∧
    (roleRecord s old takeover).tpe = s.tpe ∧ (roleRecord s old takeover).th = s.th ∧
    (roleRecord s old takeover).bal = s.bal ∧ (roleRecord s old takeover).dsp = s.dsp ∧
    (roleRecord s old takeover).conv = s.conv ∧ (roleRecord s old takeover).phase = s.phase ∧
    (roleRecord s old takeover).gx2 = s.gx2 ∧ (roleRecord s old takeover).le = s.le ∧
    (roleRecord s old takeover).saf = s.saf ∧ (roleRecord s old takeover).red = s.red ∧
    (roleRecord s old takeover).rack = s.rack ∧ (roleRecord s old takeover).seq = s.seq ∧
    (roleRecord s old takeover).tsu = s.tsu ∧ (roleRecord s old takeover).hpr = s.hpr ∧
    (roleRecord s old takeover).net = s.net ∧ (roleRecord s old takeover).app = s.app ∧
    (roleRecord s old takeover).flt = s.flt ∧ (roleRecord s old takeover).upd = s.upd ∧
    (roleRecord s old takeover).mem = s.mem ∧ (roleRecord s old takeover).canRam = s.canRam ∧
    (roleRecord s old takeover).free = s.free := by
  unfold roleRecord; (repeat' split) <;> simp

@[simp] theorem setPower_keeps (s : State) (p : PowerState) :
    (setPower s p).pending = s.pending ∧ (setPower s p).variant = s.variant ∧ (setPower s p).clk = s.clk ∧
    (setPower s p).unit = s.unit ∧ (setPower s p).str = s.str ∧ (setPower s p).hvi = s.hvi ∧
    (setPower s p).hviStr = s.hviStr ∧ (setPower s p).rings = s.rings ∧ (setPower s p).cee = s.cee ∧
    (setPower s p).tpe = s.tpe ∧ (setPower s p).th = s.th ∧ (setPower s p).bal = s.bal ∧ (setPower s p).dsp = s.dsp ∧
    (setPower s p).conv = s.conv ∧ (setPower s p).phase = s.phase ∧ (setPower s p).gx2 = s.gx2 ∧
    (setPower s p).le = s.le ∧ (setPower s p).saf = s.saf ∧ (setPower s p).red = s.red ∧
    (setPower s p).rack = s.rack ∧ (setPower s p).seq = s.seq ∧ (setPower s p).tsu = s.tsu ∧
    (setPower s p).net = s.net ∧ (setPower s p).app = s.app ∧ (setPower s p).flt = s.flt ∧
    (setPower s p).upd = s.upd ∧ (setPower s p).mem = s.mem ∧ (setPower s p).canRam = s.canRam ∧
    (setPower s p).free = s.free := by
  unfold setPower; (repeat' split) <;> simp

@[simp] theorem exitFloat_keeps (s : State) :
    (exitFloat s).pending = s.pending ∧ (exitFloat s).variant = s.variant ∧ (exitFloat s).clk = s.clk ∧
    (exitFloat s).unit = s.unit ∧ (exitFloat s).str = s.str ∧ (exitFloat s).hvi = s.hvi ∧
    (exitFloat s).hviStr = s.hviStr ∧ (exitFloat s).rings = s.rings ∧ (exitFloat s).cee = s.cee ∧
    (exitFloat s).tpe = s.tpe ∧ (exitFloat s).th = s.th ∧ (exitFloat s).bal = s.bal ∧ (exitFloat s).dsp = s.dsp ∧
    (exitFloat s).conv = s.conv ∧ (exitFloat s).phase = s.phase ∧ (exitFloat s).gx2 = s.gx2 ∧
    (exitFloat s).le = s.le ∧ (exitFloat s).saf = s.saf ∧ (exitFloat s).red = s.red ∧ (exitFloat s).rack = s.rack ∧
    (exitFloat s).seq = s.seq ∧ (exitFloat s).tsu = s.tsu ∧ (exitFloat s).net = s.net ∧ (exitFloat s).app = s.app ∧
    (exitFloat s).flt = s.flt ∧ (exitFloat s).upd = s.upd ∧ (exitFloat s).mem = s.mem ∧
    (exitFloat s).canRam = s.canRam ∧ (exitFloat s).free = s.free := by
  unfold exitFloat; (repeat' split) <;> simp

@[simp] theorem State.modDesc_keeps (s : State) (d : Nat) (f : Desc → Desc) :
    (State.modDesc s d f).pending = s.pending ∧ (State.modDesc s d f).variant = s.variant ∧
    (State.modDesc s d f).clk = s.clk ∧ (State.modDesc s d f).unit = s.unit ∧ (State.modDesc s d f).str = s.str ∧
    (State.modDesc s d f).pwr = s.pwr ∧ (State.modDesc s d f).hvi = s.hvi ∧ (State.modDesc s d f).hviStr = s.hviStr ∧
    (State.modDesc s d f).rings = s.rings ∧ (State.modDesc s d f).cee = s.cee ∧ (State.modDesc s d f).tpe = s.tpe ∧
    (State.modDesc s d f).th = s.th ∧ (State.modDesc s d f).bal = s.bal ∧ (State.modDesc s d f).dsp = s.dsp ∧
    (State.modDesc s d f).conv = s.conv ∧ (State.modDesc s d f).phase = s.phase ∧ (State.modDesc s d f).gx2 = s.gx2 ∧
    (State.modDesc s d f).le = s.le ∧ (State.modDesc s d f).saf = s.saf ∧ (State.modDesc s d f).red = s.red ∧
    (State.modDesc s d f).rack = s.rack ∧ (State.modDesc s d f).seq = s.seq ∧ (State.modDesc s d f).tsu = s.tsu ∧
    (State.modDesc s d f).net = s.net ∧ (State.modDesc s d f).app = s.app ∧ (State.modDesc s d f).icu = s.icu ∧
    (State.modDesc s d f).flt = s.flt ∧ (State.modDesc s d f).plg = s.plg ∧ (State.modDesc s d f).upd = s.upd ∧
    (State.modDesc s d f).mem = s.mem ∧ (State.modDesc s d f).canRam = s.canRam ∧
    (State.modDesc s d f).free = s.free := by
  unfold State.modDesc; (repeat' split) <;> simp

@[simp] theorem slotRespond_keeps (s : State) (n status detail : Nat) (port : Port) (payload : Bytes) :
    (slotRespond s n status detail port payload).pending = s.pending ∧
    (slotRespond s n status detail port payload).variant = s.variant ∧
    (slotRespond s n status detail port payload).clk = s.clk ∧
    (slotRespond s n status detail port payload).unit = s.unit ∧
    (slotRespond s n status detail port payload).str = s.str ∧
    (slotRespond s n status detail port payload).pwr = s.pwr ∧
    (slotRespond s n status detail port payload).hvi = s.hvi ∧
    (slotRespond s n status detail port payload).hviStr = s.hviStr ∧
    (slotRespond s n status detail port payload).rings = s.rings ∧
    (slotRespond s n status detail port payload).cee = s.cee ∧
    (slotRespond s n status detail port payload).tpe = s.tpe ∧
    (slotRespond s n status detail port payload).th = s.th ∧
    (slotRespond s n status detail port payload).bal = s.bal ∧
    (slotRespond s n status detail port payload).dsp = s.dsp ∧
    (slotRespond s n status detail port payload).conv = s.conv ∧
    (slotRespond s n status detail port payload).phase = s.phase ∧
    (slotRespond s n status detail port payload).gx2 = s.gx2 ∧
    (slotRespond s n status detail port payload).le = s.le ∧
    (slotRespond s n status detail port payload).saf = s.saf ∧
    (slotRespond s n status detail port payload).red = s.red ∧
    (slotRespond s n status detail port payload).rack = s.rack ∧
    (slotRespond s n status detail port payload).seq = s.seq ∧
    (slotRespond s n status detail port payload).tsu = s.tsu ∧
    (slotRespond s n status detail port payload).hpr = s.hpr ∧
    (slotRespond s n status detail port payload).net = s.net ∧
    (slotRespond s n status detail port payload).app = s.app ∧
    (slotRespond s n status detail port payload).icu = s.icu ∧
    (slotRespond s n status detail port payload).flt = s.flt ∧
    (slotRespond s n status detail port payload).plg = s.plg ∧
    (slotRespond s n status detail port payload).upd = s.upd ∧
    (slotRespond s n status detail port payload).canRam = s.canRam ∧
    (slotRespond s n status detail port payload).free = s.free := by
  unfold slotRespond; (repeat' split) <;> simp

@[simp] theorem mgmtRespond_keeps (s : State) (n status detail : Nat) (op seq : Nat) (payload : Bytes) :
    (mgmtRespond s n status detail op seq payload).pending = s.pending ∧
    (mgmtRespond s n status detail op seq payload).variant = s.variant ∧
    (mgmtRespond s n status detail op seq payload).clk = s.clk ∧
    (mgmtRespond s n status detail op seq payload).unit = s.unit ∧
    (mgmtRespond s n status detail op seq payload).str = s.str ∧
    (mgmtRespond s n status detail op seq payload).pwr = s.pwr ∧
    (mgmtRespond s n status detail op seq payload).hvi = s.hvi ∧
    (mgmtRespond s n status detail op seq payload).hviStr = s.hviStr ∧
    (mgmtRespond s n status detail op seq payload).rings = s.rings ∧
    (mgmtRespond s n status detail op seq payload).cee = s.cee ∧
    (mgmtRespond s n status detail op seq payload).tpe = s.tpe ∧
    (mgmtRespond s n status detail op seq payload).th = s.th ∧
    (mgmtRespond s n status detail op seq payload).bal = s.bal ∧
    (mgmtRespond s n status detail op seq payload).dsp = s.dsp ∧
    (mgmtRespond s n status detail op seq payload).conv = s.conv ∧
    (mgmtRespond s n status detail op seq payload).phase = s.phase ∧
    (mgmtRespond s n status detail op seq payload).gx2 = s.gx2 ∧
    (mgmtRespond s n status detail op seq payload).le = s.le ∧
    (mgmtRespond s n status detail op seq payload).saf = s.saf ∧
    (mgmtRespond s n status detail op seq payload).red = s.red ∧
    (mgmtRespond s n status detail op seq payload).rack = s.rack ∧
    (mgmtRespond s n status detail op seq payload).seq = s.seq ∧
    (mgmtRespond s n status detail op seq payload).tsu = s.tsu ∧
    (mgmtRespond s n status detail op seq payload).net = s.net ∧
    (mgmtRespond s n status detail op seq payload).app = s.app ∧
    (mgmtRespond s n status detail op seq payload).icu = s.icu ∧
    (mgmtRespond s n status detail op seq payload).flt = s.flt ∧
    (mgmtRespond s n status detail op seq payload).plg = s.plg ∧
    (mgmtRespond s n status detail op seq payload).upd = s.upd ∧
    (mgmtRespond s n status detail op seq payload).mem = s.mem ∧
    (mgmtRespond s n status detail op seq payload).canRam = s.canRam ∧
    (mgmtRespond s n status detail op seq payload).free = s.free := by
  unfold mgmtRespond; (repeat' split) <;> simp

@[simp] theorem finish1_keeps (s : State) (op : Nat) (q : Req) (status detail : Nat) (payload : Bytes) :
    (finish1 s op q status detail payload).pending = s.pending ∧
    (finish1 s op q status detail payload).variant = s.variant ∧ (finish1 s op q status detail payload).clk = s.clk ∧
    (finish1 s op q status detail payload).unit = s.unit ∧ (finish1 s op q status detail payload).str = s.str ∧
    (finish1 s op q status detail payload).pwr = s.pwr ∧ (finish1 s op q status detail payload).hvi = s.hvi ∧
    (finish1 s op q status detail payload).hviStr = s.hviStr ∧
    (finish1 s op q status detail payload).rings = s.rings ∧ (finish1 s op q status detail payload).cee = s.cee ∧
    (finish1 s op q status detail payload).tpe = s.tpe ∧ (finish1 s op q status detail payload).th = s.th ∧
    (finish1 s op q status detail payload).bal = s.bal ∧ (finish1 s op q status detail payload).dsp = s.dsp ∧
    (finish1 s op q status detail payload).conv = s.conv ∧ (finish1 s op q status detail payload).phase = s.phase ∧
    (finish1 s op q status detail payload).gx2 = s.gx2 ∧ (finish1 s op q status detail payload).le = s.le ∧
    (finish1 s op q status detail payload).saf = s.saf ∧ (finish1 s op q status detail payload).red = s.red ∧
    (finish1 s op q status detail payload).rack = s.rack ∧ (finish1 s op q status detail payload).seq = s.seq ∧
    (finish1 s op q status detail payload).tsu = s.tsu ∧ (finish1 s op q status detail payload).net = s.net ∧
    (finish1 s op q status detail payload).app = s.app ∧ (finish1 s op q status detail payload).flt = s.flt ∧
    (finish1 s op q status detail payload).plg = s.plg ∧ (finish1 s op q status detail payload).upd = s.upd ∧
    (finish1 s op q status detail payload).canRam = s.canRam ∧ (finish1 s op q status detail payload).free = s.free := by
  unfold finish1; (repeat' split) <;> simp

@[simp] theorem completeExec_keeps (s : State) (e : Exec) (status detail : Nat) (payload : Bytes) :
    (completeExec s e status detail payload).pending = s.pending ∧
    (completeExec s e status detail payload).variant = s.variant ∧
    (completeExec s e status detail payload).clk = s.clk ∧ (completeExec s e status detail payload).unit = s.unit ∧
    (completeExec s e status detail payload).str = s.str ∧ (completeExec s e status detail payload).pwr = s.pwr ∧
    (completeExec s e status detail payload).hvi = s.hvi ∧
    (completeExec s e status detail payload).hviStr = s.hviStr ∧
    (completeExec s e status detail payload).rings = s.rings ∧ (completeExec s e status detail payload).cee = s.cee ∧
    (completeExec s e status detail payload).tpe = s.tpe ∧ (completeExec s e status detail payload).th = s.th ∧
    (completeExec s e status detail payload).bal = s.bal ∧ (completeExec s e status detail payload).dsp = s.dsp ∧
    (completeExec s e status detail payload).conv = s.conv ∧
    (completeExec s e status detail payload).phase = s.phase ∧ (completeExec s e status detail payload).gx2 = s.gx2 ∧
    (completeExec s e status detail payload).le = s.le ∧ (completeExec s e status detail payload).saf = s.saf ∧
    (completeExec s e status detail payload).red = s.red ∧ (completeExec s e status detail payload).rack = s.rack ∧
    (completeExec s e status detail payload).seq = s.seq ∧ (completeExec s e status detail payload).tsu = s.tsu ∧
    (completeExec s e status detail payload).net = s.net ∧ (completeExec s e status detail payload).app = s.app ∧
    (completeExec s e status detail payload).flt = s.flt ∧ (completeExec s e status detail payload).plg = s.plg ∧
    (completeExec s e status detail payload).upd = s.upd ∧
    (completeExec s e status detail payload).canRam = s.canRam ∧
    (completeExec s e status detail payload).free = s.free := by
  unfold completeExec; (repeat' split) <;> simp

@[simp] theorem strayStr_keeps (s : State) (i : Nat) :
    (strayStr s i).pending = s.pending ∧ (strayStr s i).variant = s.variant ∧ (strayStr s i).clk = s.clk ∧
    (strayStr s i).unit = s.unit ∧ (strayStr s i).pwr = s.pwr ∧ (strayStr s i).hvi = s.hvi ∧
    (strayStr s i).hviStr = s.hviStr ∧ (strayStr s i).rings = s.rings ∧ (strayStr s i).cee = s.cee ∧
    (strayStr s i).tpe = s.tpe ∧ (strayStr s i).th = s.th ∧ (strayStr s i).bal = s.bal ∧ (strayStr s i).dsp = s.dsp ∧
    (strayStr s i).conv = s.conv ∧ (strayStr s i).phase = s.phase ∧ (strayStr s i).gx2 = s.gx2 ∧
    (strayStr s i).le = s.le ∧ (strayStr s i).saf = s.saf ∧ (strayStr s i).red = s.red ∧
    (strayStr s i).rack = s.rack ∧ (strayStr s i).seq = s.seq ∧ (strayStr s i).tsu = s.tsu ∧
    (strayStr s i).hpr = s.hpr ∧ (strayStr s i).net = s.net ∧ (strayStr s i).app = s.app ∧
    (strayStr s i).icu = s.icu ∧ (strayStr s i).flt = s.flt ∧ (strayStr s i).plg = s.plg ∧
    (strayStr s i).upd = s.upd ∧ (strayStr s i).mem = s.mem ∧ (strayStr s i).canRam = s.canRam ∧
    (strayStr s i).free = s.free := by
  unfold strayStr; (repeat' split) <;> simp

@[simp] theorem setStr_keeps (s : State) (i : Nat) (new : StrState) (cause : Nat) :
    (setStr s i new cause).pending = s.pending ∧ (setStr s i new cause).variant = s.variant ∧
    (setStr s i new cause).clk = s.clk ∧ (setStr s i new cause).unit = s.unit ∧ (setStr s i new cause).pwr = s.pwr ∧
    (setStr s i new cause).hvi = s.hvi ∧ (setStr s i new cause).hviStr = s.hviStr ∧
    (setStr s i new cause).rings = s.rings ∧ (setStr s i new cause).cee = s.cee ∧
    (setStr s i new cause).tpe = s.tpe ∧ (setStr s i new cause).th = s.th ∧ (setStr s i new cause).bal = s.bal ∧
    (setStr s i new cause).dsp = s.dsp ∧ (setStr s i new cause).conv = s.conv ∧
    (setStr s i new cause).phase = s.phase ∧ (setStr s i new cause).gx2 = s.gx2 ∧ (setStr s i new cause).le = s.le ∧
    (setStr s i new cause).saf = s.saf ∧ (setStr s i new cause).red = s.red ∧ (setStr s i new cause).rack = s.rack ∧
    (setStr s i new cause).seq = s.seq ∧ (setStr s i new cause).tsu = s.tsu ∧ (setStr s i new cause).net = s.net ∧
    (setStr s i new cause).app = s.app ∧ (setStr s i new cause).flt = s.flt ∧ (setStr s i new cause).upd = s.upd ∧
    (setStr s i new cause).mem = s.mem ∧ (setStr s i new cause).canRam = s.canRam ∧
    (setStr s i new cause).free = s.free := by
  unfold setStr; (repeat' split) <;> simp

@[simp] theorem endTrans_keeps (s : State) (i status detail : Nat) :
    (endTrans s i status detail).pending = s.pending ∧ (endTrans s i status detail).variant = s.variant ∧
    (endTrans s i status detail).clk = s.clk ∧ (endTrans s i status detail).unit = s.unit ∧
    (endTrans s i status detail).pwr = s.pwr ∧ (endTrans s i status detail).hvi = s.hvi ∧
    (endTrans s i status detail).hviStr = s.hviStr ∧ (endTrans s i status detail).rings = s.rings ∧
    (endTrans s i status detail).cee = s.cee ∧ (endTrans s i status detail).tpe = s.tpe ∧
    (endTrans s i status detail).th = s.th ∧ (endTrans s i status detail).bal = s.bal ∧
    (endTrans s i status detail).dsp = s.dsp ∧ (endTrans s i status detail).conv = s.conv ∧
    (endTrans s i status detail).phase = s.phase ∧ (endTrans s i status detail).gx2 = s.gx2 ∧
    (endTrans s i status detail).le = s.le ∧ (endTrans s i status detail).saf = s.saf ∧
    (endTrans s i status detail).red = s.red ∧ (endTrans s i status detail).rack = s.rack ∧
    (endTrans s i status detail).seq = s.seq ∧ (endTrans s i status detail).tsu = s.tsu ∧
    (endTrans s i status detail).net = s.net ∧ (endTrans s i status detail).app = s.app ∧
    (endTrans s i status detail).flt = s.flt ∧ (endTrans s i status detail).plg = s.plg ∧
    (endTrans s i status detail).upd = s.upd ∧ (endTrans s i status detail).canRam = s.canRam ∧
    (endTrans s i status detail).free = s.free := by
  unfold endTrans; (repeat' split) <;> simp

@[simp] theorem abortTrans_keeps (s : State) (i : Nat) :
    (abortTrans s i).pending = s.pending ∧ (abortTrans s i).variant = s.variant ∧ (abortTrans s i).clk = s.clk ∧
    (abortTrans s i).unit = s.unit ∧ (abortTrans s i).pwr = s.pwr ∧ (abortTrans s i).hvi = s.hvi ∧
    (abortTrans s i).hviStr = s.hviStr ∧ (abortTrans s i).rings = s.rings ∧ (abortTrans s i).cee = s.cee ∧
    (abortTrans s i).tpe = s.tpe ∧ (abortTrans s i).th = s.th ∧ (abortTrans s i).bal = s.bal ∧
    (abortTrans s i).dsp = s.dsp ∧ (abortTrans s i).conv = s.conv ∧ (abortTrans s i).phase = s.phase ∧
    (abortTrans s i).gx2 = s.gx2 ∧ (abortTrans s i).le = s.le ∧ (abortTrans s i).saf = s.saf ∧
    (abortTrans s i).red = s.red ∧ (abortTrans s i).rack = s.rack ∧ (abortTrans s i).seq = s.seq ∧
    (abortTrans s i).tsu = s.tsu ∧ (abortTrans s i).net = s.net ∧ (abortTrans s i).app = s.app ∧
    (abortTrans s i).flt = s.flt ∧ (abortTrans s i).plg = s.plg ∧ (abortTrans s i).upd = s.upd ∧
    (abortTrans s i).canRam = s.canRam ∧ (abortTrans s i).free = s.free := by
  unfold abortTrans; (repeat' split) <;> simp

@[simp] theorem gateOffString_keeps (s : State) (i : Nat) :
    (gateOffString s i).pending = s.pending ∧ (gateOffString s i).variant = s.variant ∧
    (gateOffString s i).clk = s.clk ∧ (gateOffString s i).unit = s.unit ∧ (gateOffString s i).str = s.str ∧
    (gateOffString s i).pwr = s.pwr ∧ (gateOffString s i).hvi = s.hvi ∧ (gateOffString s i).hviStr = s.hviStr ∧
    (gateOffString s i).rings = s.rings ∧ (gateOffString s i).cee = s.cee ∧ (gateOffString s i).tpe = s.tpe ∧
    (gateOffString s i).th = s.th ∧ (gateOffString s i).bal = s.bal ∧ (gateOffString s i).dsp = s.dsp ∧
    (gateOffString s i).gx2 = s.gx2 ∧ (gateOffString s i).le = s.le ∧ (gateOffString s i).saf = s.saf ∧
    (gateOffString s i).red = s.red ∧ (gateOffString s i).rack = s.rack ∧ (gateOffString s i).seq = s.seq ∧
    (gateOffString s i).tsu = s.tsu ∧ (gateOffString s i).hpr = s.hpr ∧ (gateOffString s i).net = s.net ∧
    (gateOffString s i).app = s.app ∧ (gateOffString s i).icu = s.icu ∧ (gateOffString s i).flt = s.flt ∧
    (gateOffString s i).plg = s.plg ∧ (gateOffString s i).upd = s.upd ∧ (gateOffString s i).mem = s.mem ∧
    (gateOffString s i).canRam = s.canRam ∧ (gateOffString s i).free = s.free := by
  unfold gateOffString; (repeat' split) <;> simp

@[simp] theorem openCoils_keeps (s : State) (i : Nat) :
    (openCoils s i).pending = s.pending ∧ (openCoils s i).variant = s.variant ∧ (openCoils s i).clk = s.clk ∧
    (openCoils s i).unit = s.unit ∧ (openCoils s i).str = s.str ∧ (openCoils s i).pwr = s.pwr ∧
    (openCoils s i).hvi = s.hvi ∧ (openCoils s i).hviStr = s.hviStr ∧ (openCoils s i).rings = s.rings ∧
    (openCoils s i).cee = s.cee ∧ (openCoils s i).tpe = s.tpe ∧ (openCoils s i).th = s.th ∧
    (openCoils s i).bal = s.bal ∧ (openCoils s i).dsp = s.dsp ∧ (openCoils s i).conv = s.conv ∧
    (openCoils s i).phase = s.phase ∧ (openCoils s i).gx2 = s.gx2 ∧ (openCoils s i).le = s.le ∧
    (openCoils s i).red = s.red ∧ (openCoils s i).rack = s.rack ∧ (openCoils s i).seq = s.seq ∧
    (openCoils s i).tsu = s.tsu ∧ (openCoils s i).hpr = s.hpr ∧ (openCoils s i).net = s.net ∧
    (openCoils s i).app = s.app ∧ (openCoils s i).icu = s.icu ∧ (openCoils s i).flt = s.flt ∧
    (openCoils s i).plg = s.plg ∧ (openCoils s i).upd = s.upd ∧ (openCoils s i).mem = s.mem ∧
    (openCoils s i).canRam = s.canRam ∧ (openCoils s i).free = s.free := by
  unfold openCoils; (repeat' split) <;> simp

@[simp] theorem deferWrite_keeps (s : State) (k : Nat) :
    (deferWrite s k).pending = s.pending ∧ (deferWrite s k).variant = s.variant ∧ (deferWrite s k).clk = s.clk ∧
    (deferWrite s k).unit = s.unit ∧ (deferWrite s k).str = s.str ∧ (deferWrite s k).hvi = s.hvi ∧
    (deferWrite s k).hviStr = s.hviStr ∧ (deferWrite s k).rings = s.rings ∧ (deferWrite s k).cee = s.cee ∧
    (deferWrite s k).tpe = s.tpe ∧ (deferWrite s k).th = s.th ∧ (deferWrite s k).bal = s.bal ∧
    (deferWrite s k).dsp = s.dsp ∧ (deferWrite s k).conv = s.conv ∧ (deferWrite s k).phase = s.phase ∧
    (deferWrite s k).gx2 = s.gx2 ∧ (deferWrite s k).le = s.le ∧ (deferWrite s k).saf = s.saf ∧
    (deferWrite s k).red = s.red ∧ (deferWrite s k).rack = s.rack ∧ (deferWrite s k).seq = s.seq ∧
    (deferWrite s k).tsu = s.tsu ∧ (deferWrite s k).hpr = s.hpr ∧ (deferWrite s k).net = s.net ∧
    (deferWrite s k).app = s.app ∧ (deferWrite s k).icu = s.icu ∧ (deferWrite s k).flt = s.flt ∧
    (deferWrite s k).plg = s.plg ∧ (deferWrite s k).upd = s.upd ∧ (deferWrite s k).mem = s.mem ∧
    (deferWrite s k).canRam = s.canRam ∧ (deferWrite s k).free = s.free := by
  unfold deferWrite; (repeat' split) <;> simp

@[simp] theorem storeE_keeps (s : State) (i : Nat) :
    (storeE s i).pending = s.pending ∧ (storeE s i).variant = s.variant ∧ (storeE s i).clk = s.clk ∧
    (storeE s i).unit = s.unit ∧ (storeE s i).str = s.str ∧ (storeE s i).hvi = s.hvi ∧
    (storeE s i).hviStr = s.hviStr ∧ (storeE s i).rings = s.rings ∧ (storeE s i).cee = s.cee ∧
    (storeE s i).tpe = s.tpe ∧ (storeE s i).th = s.th ∧ (storeE s i).bal = s.bal ∧ (storeE s i).dsp = s.dsp ∧
    (storeE s i).phase = s.phase ∧ (storeE s i).gx2 = s.gx2 ∧ (storeE s i).le = s.le ∧ (storeE s i).saf = s.saf ∧
    (storeE s i).red = s.red ∧ (storeE s i).rack = s.rack ∧ (storeE s i).seq = s.seq ∧ (storeE s i).tsu = s.tsu ∧
    (storeE s i).hpr = s.hpr ∧ (storeE s i).net = s.net ∧ (storeE s i).app = s.app ∧ (storeE s i).icu = s.icu ∧
    (storeE s i).flt = s.flt ∧ (storeE s i).plg = s.plg ∧ (storeE s i).upd = s.upd ∧ (storeE s i).mem = s.mem ∧
    (storeE s i).canRam = s.canRam ∧ (storeE s i).free = s.free := by
  unfold storeE; (repeat' split) <;> simp

@[simp] theorem endPrecharge_keeps (s : State) (i : Nat) :
    (endPrecharge s i).pending = s.pending ∧ (endPrecharge s i).variant = s.variant ∧
    (endPrecharge s i).clk = s.clk ∧ (endPrecharge s i).unit = s.unit ∧ (endPrecharge s i).str = s.str ∧
    (endPrecharge s i).hvi = s.hvi ∧ (endPrecharge s i).hviStr = s.hviStr ∧ (endPrecharge s i).rings = s.rings ∧
    (endPrecharge s i).cee = s.cee ∧ (endPrecharge s i).tpe = s.tpe ∧ (endPrecharge s i).th = s.th ∧
    (endPrecharge s i).bal = s.bal ∧ (endPrecharge s i).dsp = s.dsp ∧ (endPrecharge s i).phase = s.phase ∧
    (endPrecharge s i).gx2 = s.gx2 ∧ (endPrecharge s i).le = s.le ∧ (endPrecharge s i).saf = s.saf ∧
    (endPrecharge s i).red = s.red ∧ (endPrecharge s i).rack = s.rack ∧ (endPrecharge s i).seq = s.seq ∧
    (endPrecharge s i).tsu = s.tsu ∧ (endPrecharge s i).hpr = s.hpr ∧ (endPrecharge s i).net = s.net ∧
    (endPrecharge s i).app = s.app ∧ (endPrecharge s i).icu = s.icu ∧ (endPrecharge s i).flt = s.flt ∧
    (endPrecharge s i).plg = s.plg ∧ (endPrecharge s i).upd = s.upd ∧ (endPrecharge s i).mem = s.mem ∧
    (endPrecharge s i).canRam = s.canRam ∧ (endPrecharge s i).free = s.free := by
  unfold endPrecharge; (repeat' split) <;> simp

@[simp] theorem stopBalancing_keeps (s : State) (i : Nat) :
    (stopBalancing s i).pending = s.pending ∧ (stopBalancing s i).variant = s.variant ∧
    (stopBalancing s i).clk = s.clk ∧ (stopBalancing s i).unit = s.unit ∧ (stopBalancing s i).str = s.str ∧
    (stopBalancing s i).pwr = s.pwr ∧ (stopBalancing s i).hvi = s.hvi ∧ (stopBalancing s i).hviStr = s.hviStr ∧
    (stopBalancing s i).cee = s.cee ∧ (stopBalancing s i).tpe = s.tpe ∧ (stopBalancing s i).th = s.th ∧
    (stopBalancing s i).dsp = s.dsp ∧ (stopBalancing s i).conv = s.conv ∧ (stopBalancing s i).phase = s.phase ∧
    (stopBalancing s i).gx2 = s.gx2 ∧ (stopBalancing s i).le = s.le ∧ (stopBalancing s i).saf = s.saf ∧
    (stopBalancing s i).red = s.red ∧ (stopBalancing s i).rack = s.rack ∧ (stopBalancing s i).seq = s.seq ∧
    (stopBalancing s i).tsu = s.tsu ∧ (stopBalancing s i).hpr = s.hpr ∧ (stopBalancing s i).net = s.net ∧
    (stopBalancing s i).app = s.app ∧ (stopBalancing s i).icu = s.icu ∧ (stopBalancing s i).flt = s.flt ∧
    (stopBalancing s i).plg = s.plg ∧ (stopBalancing s i).upd = s.upd ∧ (stopBalancing s i).mem = s.mem ∧
    (stopBalancing s i).canRam = s.canRam ∧ (stopBalancing s i).free = s.free := by
  unfold stopBalancing; (repeat' split) <;> simp

@[simp] theorem haltStr_keeps (s : State) (i cause : Nat) :
    (haltStr s i cause).pending = s.pending ∧ (haltStr s i cause).variant = s.variant ∧
    (haltStr s i cause).clk = s.clk ∧ (haltStr s i cause).unit = s.unit ∧ (haltStr s i cause).hvi = s.hvi ∧
    (haltStr s i cause).hviStr = s.hviStr ∧ (haltStr s i cause).cee = s.cee ∧ (haltStr s i cause).tpe = s.tpe ∧
    (haltStr s i cause).th = s.th ∧ (haltStr s i cause).dsp = s.dsp ∧ (haltStr s i cause).gx2 = s.gx2 ∧
    (haltStr s i cause).le = s.le ∧ (haltStr s i cause).red = s.red ∧ (haltStr s i cause).rack = s.rack ∧
    (haltStr s i cause).seq = s.seq ∧ (haltStr s i cause).tsu = s.tsu ∧ (haltStr s i cause).net = s.net ∧
    (haltStr s i cause).app = s.app ∧ (haltStr s i cause).flt = s.flt ∧ (haltStr s i cause).upd = s.upd ∧
    (haltStr s i cause).canRam = s.canRam ∧ (haltStr s i cause).free = s.free := by
  unfold haltStr; (repeat' split) <;> simp

@[simp] theorem retireStr_keeps (s : State) (i cause : Nat) :
    (retireStr s i cause).pending = s.pending ∧ (retireStr s i cause).variant = s.variant ∧
    (retireStr s i cause).clk = s.clk ∧ (retireStr s i cause).unit = s.unit ∧ (retireStr s i cause).hvi = s.hvi ∧
    (retireStr s i cause).hviStr = s.hviStr ∧ (retireStr s i cause).cee = s.cee ∧ (retireStr s i cause).tpe = s.tpe ∧
    (retireStr s i cause).th = s.th ∧ (retireStr s i cause).dsp = s.dsp ∧ (retireStr s i cause).gx2 = s.gx2 ∧
    (retireStr s i cause).le = s.le ∧ (retireStr s i cause).red = s.red ∧ (retireStr s i cause).rack = s.rack ∧
    (retireStr s i cause).seq = s.seq ∧ (retireStr s i cause).tsu = s.tsu ∧ (retireStr s i cause).net = s.net ∧
    (retireStr s i cause).app = s.app ∧ (retireStr s i cause).upd = s.upd ∧ (retireStr s i cause).canRam = s.canRam ∧
    (retireStr s i cause).free = s.free := by
  unfold retireStr; dsimp only; split <;> simp

@[simp] theorem prechargeAbort_keeps (s : State) (i cause : Nat) :
    (prechargeAbort s i cause).pending = s.pending ∧ (prechargeAbort s i cause).variant = s.variant ∧
    (prechargeAbort s i cause).clk = s.clk ∧ (prechargeAbort s i cause).unit = s.unit ∧
    (prechargeAbort s i cause).hvi = s.hvi ∧ (prechargeAbort s i cause).hviStr = s.hviStr ∧
    (prechargeAbort s i cause).rings = s.rings ∧ (prechargeAbort s i cause).cee = s.cee ∧
    (prechargeAbort s i cause).tpe = s.tpe ∧ (prechargeAbort s i cause).th = s.th ∧
    (prechargeAbort s i cause).bal = s.bal ∧ (prechargeAbort s i cause).dsp = s.dsp ∧
    (prechargeAbort s i cause).phase = s.phase ∧ (prechargeAbort s i cause).gx2 = s.gx2 ∧
    (prechargeAbort s i cause).le = s.le ∧ (prechargeAbort s i cause).red = s.red ∧
    (prechargeAbort s i cause).rack = s.rack ∧ (prechargeAbort s i cause).seq = s.seq ∧
    (prechargeAbort s i cause).tsu = s.tsu ∧ (prechargeAbort s i cause).net = s.net ∧
    (prechargeAbort s i cause).app = s.app ∧ (prechargeAbort s i cause).flt = s.flt ∧
    (prechargeAbort s i cause).upd = s.upd ∧ (prechargeAbort s i cause).canRam = s.canRam ∧
    (prechargeAbort s i cause).free = s.free := by
  unfold prechargeAbort; (repeat' split) <;> simp

@[simp] theorem startRamp_keeps (s : State) (i : Nat) (dest : StrState) :
    (startRamp s i dest).pending = s.pending ∧ (startRamp s i dest).variant = s.variant ∧
    (startRamp s i dest).clk = s.clk ∧ (startRamp s i dest).unit = s.unit ∧ (startRamp s i dest).str = s.str ∧
    (startRamp s i dest).pwr = s.pwr ∧ (startRamp s i dest).hvi = s.hvi ∧ (startRamp s i dest).hviStr = s.hviStr ∧
    (startRamp s i dest).rings = s.rings ∧ (startRamp s i dest).cee = s.cee ∧ (startRamp s i dest).tpe = s.tpe ∧
    (startRamp s i dest).th = s.th ∧ (startRamp s i dest).bal = s.bal ∧ (startRamp s i dest).dsp = s.dsp ∧
    (startRamp s i dest).phase = s.phase ∧ (startRamp s i dest).gx2 = s.gx2 ∧ (startRamp s i dest).le = s.le ∧
    (startRamp s i dest).saf = s.saf ∧ (startRamp s i dest).red = s.red ∧ (startRamp s i dest).rack = s.rack ∧
    (startRamp s i dest).seq = s.seq ∧ (startRamp s i dest).tsu = s.tsu ∧ (startRamp s i dest).hpr = s.hpr ∧
    (startRamp s i dest).net = s.net ∧ (startRamp s i dest).app = s.app ∧ (startRamp s i dest).icu = s.icu ∧
    (startRamp s i dest).flt = s.flt ∧ (startRamp s i dest).plg = s.plg ∧ (startRamp s i dest).upd = s.upd ∧
    (startRamp s i dest).mem = s.mem ∧ (startRamp s i dest).canRam = s.canRam ∧ (startRamp s i dest).free = s.free := by
  unfold startRamp; (repeat' split) <;> simp

@[simp] theorem enterSafeHold_keeps (s : State) (cause : Nat) :
    (enterSafeHold s cause).pending = s.pending ∧ (enterSafeHold s cause).variant = s.variant ∧
    (enterSafeHold s cause).clk = s.clk ∧ (enterSafeHold s cause).hviStr = s.hviStr ∧
    (enterSafeHold s cause).cee = s.cee ∧ (enterSafeHold s cause).tpe = s.tpe ∧ (enterSafeHold s cause).th = s.th ∧
    (enterSafeHold s cause).dsp = s.dsp ∧ (enterSafeHold s cause).gx2 = s.gx2 ∧ (enterSafeHold s cause).le = s.le ∧
    (enterSafeHold s cause).rack = s.rack ∧ (enterSafeHold s cause).seq = s.seq ∧
    (enterSafeHold s cause).tsu = s.tsu ∧ (enterSafeHold s cause).net = s.net ∧ (enterSafeHold s cause).flt = s.flt ∧
    (enterSafeHold s cause).upd = s.upd ∧ (enterSafeHold s cause).canRam = s.canRam ∧
    (enterSafeHold s cause).free = s.free := by
  unfold enterSafeHold; (repeat' split) <;> simp

@[simp] theorem forceTier_keeps (s : State) (i : Nat) (old new : Tier) :
    (forceTier s i old new).pending = s.pending ∧ (forceTier s i old new).variant = s.variant ∧
    (forceTier s i old new).clk = s.clk ∧ (forceTier s i old new).unit = s.unit ∧
    (forceTier s i old new).hvi = s.hvi ∧ (forceTier s i old new).hviStr = s.hviStr ∧
    (forceTier s i old new).cee = s.cee ∧ (forceTier s i old new).tpe = s.tpe ∧ (forceTier s i old new).th = s.th ∧
    (forceTier s i old new).dsp = s.dsp ∧ (forceTier s i old new).gx2 = s.gx2 ∧ (forceTier s i old new).le = s.le ∧
    (forceTier s i old new).red = s.red ∧ (forceTier s i old new).rack = s.rack ∧
    (forceTier s i old new).seq = s.seq ∧ (forceTier s i old new).tsu = s.tsu ∧ (forceTier s i old new).net = s.net ∧
    (forceTier s i old new).app = s.app ∧ (forceTier s i old new).flt = s.flt ∧ (forceTier s i old new).upd = s.upd ∧
    (forceTier s i old new).canRam = s.canRam ∧ (forceTier s i old new).free = s.free := by
  unfold forceTier; (repeat' split) <;> simp

@[simp] theorem retierStr_keeps (s : State) (i : Nat) :
    (retierStr s i).pending = s.pending ∧ (retierStr s i).variant = s.variant ∧ (retierStr s i).clk = s.clk ∧
    (retierStr s i).unit = s.unit ∧ (retierStr s i).hvi = s.hvi ∧ (retierStr s i).hviStr = s.hviStr ∧
    (retierStr s i).cee = s.cee ∧ (retierStr s i).tpe = s.tpe ∧ (retierStr s i).th = s.th ∧
    (retierStr s i).dsp = s.dsp ∧ (retierStr s i).gx2 = s.gx2 ∧ (retierStr s i).le = s.le ∧
    (retierStr s i).red = s.red ∧ (retierStr s i).rack = s.rack ∧ (retierStr s i).seq = s.seq ∧
    (retierStr s i).tsu = s.tsu ∧ (retierStr s i).net = s.net ∧ (retierStr s i).app = s.app ∧
    (retierStr s i).upd = s.upd ∧ (retierStr s i).canRam = s.canRam ∧ (retierStr s i).free = s.free := by
  unfold retierStr; (repeat' split) <;> simp

@[simp] theorem retier_keeps (s : State) :
    (retier s).pending = s.pending ∧ (retier s).variant = s.variant ∧ (retier s).clk = s.clk ∧
    (retier s).hviStr = s.hviStr ∧ (retier s).cee = s.cee ∧ (retier s).tpe = s.tpe ∧ (retier s).th = s.th ∧
    (retier s).dsp = s.dsp ∧ (retier s).gx2 = s.gx2 ∧ (retier s).le = s.le ∧ (retier s).rack = s.rack ∧
    (retier s).seq = s.seq ∧ (retier s).tsu = s.tsu ∧ (retier s).net = s.net ∧ (retier s).upd = s.upd ∧
    (retier s).canRam = s.canRam ∧ (retier s).free = s.free := by
  unfold retier; (repeat' split) <;> simp

@[simp] theorem retireEffect_keeps (s : State) (u : Nat) :
    (retireEffect s u).pending = s.pending ∧ (retireEffect s u).variant = s.variant ∧
    (retireEffect s u).clk = s.clk ∧ (retireEffect s u).unit = s.unit ∧ (retireEffect s u).str = s.str ∧
    (retireEffect s u).pwr = s.pwr ∧ (retireEffect s u).hvi = s.hvi ∧ (retireEffect s u).tpe = s.tpe ∧
    (retireEffect s u).bal = s.bal ∧ (retireEffect s u).dsp = s.dsp ∧ (retireEffect s u).conv = s.conv ∧
    (retireEffect s u).gx2 = s.gx2 ∧ (retireEffect s u).le = s.le ∧ (retireEffect s u).saf = s.saf ∧
    (retireEffect s u).red = s.red ∧ (retireEffect s u).seq = s.seq ∧ (retireEffect s u).tsu = s.tsu ∧
    (retireEffect s u).hpr = s.hpr ∧ (retireEffect s u).net = s.net ∧ (retireEffect s u).app = s.app ∧
    (retireEffect s u).icu = s.icu ∧ (retireEffect s u).flt = s.flt ∧ (retireEffect s u).plg = s.plg ∧
    (retireEffect s u).upd = s.upd ∧ (retireEffect s u).mem = s.mem ∧ (retireEffect s u).canRam = s.canRam ∧
    (retireEffect s u).free = s.free := by
  unfold retireEffect; (repeat' split) <;> simp

@[simp] theorem retireUnit_keeps (s : State) (u reason : Nat) :
    (retireUnit s u reason).pending = s.pending ∧ (retireUnit s u reason).variant = s.variant ∧
    (retireUnit s u reason).clk = s.clk ∧ (retireUnit s u reason).tpe = s.tpe ∧ (retireUnit s u reason).dsp = s.dsp ∧
    (retireUnit s u reason).gx2 = s.gx2 ∧ (retireUnit s u reason).le = s.le ∧ (retireUnit s u reason).seq = s.seq ∧
    (retireUnit s u reason).tsu = s.tsu ∧ (retireUnit s u reason).net = s.net ∧ (retireUnit s u reason).upd = s.upd ∧
    (retireUnit s u reason).canRam = s.canRam ∧ (retireUnit s u reason).free = s.free := by
  unfold retireUnit; (repeat' split) <;> simp

@[simp] theorem detected_keeps (s : State) (u rule detail : Nat) :
    (detected s u rule detail).pending = s.pending ∧ (detected s u rule detail).variant = s.variant ∧
    (detected s u rule detail).clk = s.clk ∧ (detected s u rule detail).unit = s.unit ∧
    (detected s u rule detail).str = s.str ∧ (detected s u rule detail).pwr = s.pwr ∧
    (detected s u rule detail).hvi = s.hvi ∧ (detected s u rule detail).hviStr = s.hviStr ∧
    (detected s u rule detail).rings = s.rings ∧ (detected s u rule detail).cee = s.cee ∧
    (detected s u rule detail).tpe = s.tpe ∧ (detected s u rule detail).th = s.th ∧
    (detected s u rule detail).bal = s.bal ∧ (detected s u rule detail).dsp = s.dsp ∧
    (detected s u rule detail).conv = s.conv ∧ (detected s u rule detail).phase = s.phase ∧
    (detected s u rule detail).gx2 = s.gx2 ∧ (detected s u rule detail).le = s.le ∧
    (detected s u rule detail).saf = s.saf ∧ (detected s u rule detail).red = s.red ∧
    (detected s u rule detail).rack = s.rack ∧ (detected s u rule detail).seq = s.seq ∧
    (detected s u rule detail).tsu = s.tsu ∧ (detected s u rule detail).hpr = s.hpr ∧
    (detected s u rule detail).net = s.net ∧ (detected s u rule detail).app = s.app ∧
    (detected s u rule detail).upd = s.upd ∧ (detected s u rule detail).mem = s.mem ∧
    (detected s u rule detail).canRam = s.canRam ∧ (detected s u rule detail).free = s.free := by
  unfold detected; (repeat' split) <;> simp

end Sys2Proof.Machine
end

