-- ==== Sys2Proof/Laws/CommandKeeps.lean ====
section
/-! SUPPORT. What the operations of Command leave alone. -/

namespace Sys2Proof.Machine

@[simp] theorem recordReject_keeps (s : State) (op : Nat) (q : Req) (detail : Nat) :
    (recordReject s op q detail).pending = s.pending ∧ (recordReject s op q detail).variant = s.variant ∧
    (recordReject s op q detail).clk = s.clk ∧ (recordReject s op q detail).unit = s.unit ∧
    (recordReject s op q detail).str = s.str ∧ (recordReject s op q detail).pwr = s.pwr ∧
    (recordReject s op q detail).hvi = s.hvi ∧ (recordReject s op q detail).hviStr = s.hviStr ∧
    (recordReject s op q detail).rings = s.rings ∧ (recordReject s op q detail).cee = s.cee ∧
    (recordReject s op q detail).tpe = s.tpe ∧ (recordReject s op q detail).th = s.th ∧
    (recordReject s op q detail).bal = s.bal ∧ (recordReject s op q detail).dsp = s.dsp ∧
    (recordReject s op q detail).conv = s.conv ∧ (recordReject s op q detail).phase = s.phase ∧
    (recordReject s op q detail).gx2 = s.gx2 ∧ (recordReject s op q detail).le = s.le ∧
    (recordReject s op q detail).saf = s.saf ∧ (recordReject s op q detail).red = s.red ∧
    (recordReject s op q detail).rack = s.rack ∧ (recordReject s op q detail).seq = s.seq ∧
    (recordReject s op q detail).tsu = s.tsu ∧ (recordReject s op q detail).net = s.net ∧
    (recordReject s op q detail).app = s.app ∧ (recordReject s op q detail).flt = s.flt ∧
    (recordReject s op q detail).upd = s.upd ∧ (recordReject s op q detail).mem = s.mem ∧
    (recordReject s op q detail).canRam = s.canRam ∧ (recordReject s op q detail).free = s.free := by
  unfold recordReject; dsimp only; split <;> simp

@[simp] theorem rejectCmd_keeps (s : State) (op : Nat) (q : Req) (status detail : Nat) :
    (rejectCmd s op q status detail).pending = s.pending ∧ (rejectCmd s op q status detail).variant = s.variant ∧
    (rejectCmd s op q status detail).clk = s.clk ∧ (rejectCmd s op q status detail).unit = s.unit ∧
    (rejectCmd s op q status detail).str = s.str ∧ (rejectCmd s op q status detail).pwr = s.pwr ∧
    (rejectCmd s op q status detail).hvi = s.hvi ∧ (rejectCmd s op q status detail).hviStr = s.hviStr ∧
    (rejectCmd s op q status detail).rings = s.rings ∧ (rejectCmd s op q status detail).cee = s.cee ∧
    (rejectCmd s op q status detail).tpe = s.tpe ∧ (rejectCmd s op q status detail).th = s.th ∧
    (rejectCmd s op q status detail).bal = s.bal ∧ (rejectCmd s op q status detail).dsp = s.dsp ∧
    (rejectCmd s op q status detail).conv = s.conv ∧ (rejectCmd s op q status detail).phase = s.phase ∧
    (rejectCmd s op q status detail).gx2 = s.gx2 ∧ (rejectCmd s op q status detail).le = s.le ∧
    (rejectCmd s op q status detail).saf = s.saf ∧ (rejectCmd s op q status detail).red = s.red ∧
    (rejectCmd s op q status detail).rack = s.rack ∧ (rejectCmd s op q status detail).seq = s.seq ∧
    (rejectCmd s op q status detail).tsu = s.tsu ∧ (rejectCmd s op q status detail).net = s.net ∧
    (rejectCmd s op q status detail).app = s.app ∧ (rejectCmd s op q status detail).flt = s.flt ∧
    (rejectCmd s op q status detail).upd = s.upd ∧ (rejectCmd s op q status detail).canRam = s.canRam ∧
    (rejectCmd s op q status detail).free = s.free := by
  unfold rejectCmd; (repeat' split) <;> simp

@[simp] theorem noteDesc_keeps (sp : Spec) (s : State) (q : Req) :
    (noteDesc sp s q).pending = s.pending ∧ (noteDesc sp s q).variant = s.variant ∧ (noteDesc sp s q).clk = s.clk ∧
    (noteDesc sp s q).unit = s.unit ∧ (noteDesc sp s q).str = s.str ∧ (noteDesc sp s q).pwr = s.pwr ∧
    (noteDesc sp s q).hvi = s.hvi ∧ (noteDesc sp s q).hviStr = s.hviStr ∧ (noteDesc sp s q).rings = s.rings ∧
    (noteDesc sp s q).cee = s.cee ∧ (noteDesc sp s q).tpe = s.tpe ∧ (noteDesc sp s q).th = s.th ∧
    (noteDesc sp s q).bal = s.bal ∧ (noteDesc sp s q).dsp = s.dsp ∧ (noteDesc sp s q).conv = s.conv ∧
    (noteDesc sp s q).phase = s.phase ∧ (noteDesc sp s q).gx2 = s.gx2 ∧ (noteDesc sp s q).le = s.le ∧
    (noteDesc sp s q).saf = s.saf ∧ (noteDesc sp s q).red = s.red ∧ (noteDesc sp s q).rack = s.rack ∧
    (noteDesc sp s q).seq = s.seq ∧ (noteDesc sp s q).tsu = s.tsu ∧ (noteDesc sp s q).net = s.net ∧
    (noteDesc sp s q).app = s.app ∧ (noteDesc sp s q).icu = s.icu ∧ (noteDesc sp s q).flt = s.flt ∧
    (noteDesc sp s q).plg = s.plg ∧ (noteDesc sp s q).upd = s.upd ∧ (noteDesc sp s q).mem = s.mem ∧
    (noteDesc sp s q).canRam = s.canRam ∧ (noteDesc sp s q).free = s.free := by
  unfold noteDesc; (repeat' split) <;> simp

@[simp] theorem giveBack_keeps (sp : Spec) (s : State) (q : Req) :
    (giveBack sp s q).pending = s.pending ∧ (giveBack sp s q).variant = s.variant ∧ (giveBack sp s q).clk = s.clk ∧
    (giveBack sp s q).unit = s.unit ∧ (giveBack sp s q).str = s.str ∧ (giveBack sp s q).pwr = s.pwr ∧
    (giveBack sp s q).hvi = s.hvi ∧ (giveBack sp s q).hviStr = s.hviStr ∧ (giveBack sp s q).rings = s.rings ∧
    (giveBack sp s q).cee = s.cee ∧ (giveBack sp s q).tpe = s.tpe ∧ (giveBack sp s q).th = s.th ∧
    (giveBack sp s q).bal = s.bal ∧ (giveBack sp s q).dsp = s.dsp ∧ (giveBack sp s q).conv = s.conv ∧
    (giveBack sp s q).phase = s.phase ∧ (giveBack sp s q).gx2 = s.gx2 ∧ (giveBack sp s q).le = s.le ∧
    (giveBack sp s q).saf = s.saf ∧ (giveBack sp s q).red = s.red ∧ (giveBack sp s q).rack = s.rack ∧
    (giveBack sp s q).seq = s.seq ∧ (giveBack sp s q).tsu = s.tsu ∧ (giveBack sp s q).net = s.net ∧
    (giveBack sp s q).app = s.app ∧ (giveBack sp s q).icu = s.icu ∧ (giveBack sp s q).flt = s.flt ∧
    (giveBack sp s q).plg = s.plg ∧ (giveBack sp s q).upd = s.upd ∧ (giveBack sp s q).mem = s.mem ∧
    (giveBack sp s q).canRam = s.canRam ∧ (giveBack sp s q).free = s.free := by
  unfold giveBack; (repeat' split) <;> simp

@[simp] theorem follow_keeps (s : State) (op : Nat) (q : Req) :
    (follow s op q).pending = s.pending ∧ (follow s op q).variant = s.variant ∧ (follow s op q).clk = s.clk ∧
    (follow s op q).unit = s.unit ∧ (follow s op q).str = s.str ∧ (follow s op q).pwr = s.pwr ∧
    (follow s op q).hvi = s.hvi ∧ (follow s op q).hviStr = s.hviStr ∧ (follow s op q).rings = s.rings ∧
    (follow s op q).cee = s.cee ∧ (follow s op q).tpe = s.tpe ∧ (follow s op q).th = s.th ∧
    (follow s op q).bal = s.bal ∧ (follow s op q).dsp = s.dsp ∧ (follow s op q).conv = s.conv ∧
    (follow s op q).phase = s.phase ∧ (follow s op q).gx2 = s.gx2 ∧ (follow s op q).le = s.le ∧
    (follow s op q).saf = s.saf ∧ (follow s op q).red = s.red ∧ (follow s op q).rack = s.rack ∧
    (follow s op q).seq = s.seq ∧ (follow s op q).tsu = s.tsu ∧ (follow s op q).net = s.net ∧
    (follow s op q).app = s.app ∧ (follow s op q).icu = s.icu ∧ (follow s op q).flt = s.flt ∧
    (follow s op q).plg = s.plg ∧ (follow s op q).upd = s.upd ∧ (follow s op q).mem = s.mem ∧
    (follow s op q).canRam = s.canRam ∧ (follow s op q).free = s.free := by
  unfold follow; (repeat' split) <;> simp

@[simp] theorem touch_keeps (s : State) :
    (touch s).pending = s.pending ∧ (touch s).variant = s.variant ∧ (touch s).clk = s.clk ∧ (touch s).unit = s.unit ∧
    (touch s).str = s.str ∧ (touch s).hvi = s.hvi ∧ (touch s).hviStr = s.hviStr ∧ (touch s).rings = s.rings ∧
    (touch s).cee = s.cee ∧ (touch s).tpe = s.tpe ∧ (touch s).th = s.th ∧ (touch s).bal = s.bal ∧
    (touch s).dsp = s.dsp ∧ (touch s).conv = s.conv ∧ (touch s).phase = s.phase ∧ (touch s).gx2 = s.gx2 ∧
    (touch s).le = s.le ∧ (touch s).saf = s.saf ∧ (touch s).red = s.red ∧ (touch s).rack = s.rack ∧
    (touch s).seq = s.seq ∧ (touch s).tsu = s.tsu ∧ (touch s).hpr = s.hpr ∧ (touch s).net = s.net ∧
    (touch s).app = s.app ∧ (touch s).icu = s.icu ∧ (touch s).flt = s.flt ∧ (touch s).plg = s.plg ∧
    (touch s).upd = s.upd ∧ (touch s).mem = s.mem ∧ (touch s).canRam = s.canRam ∧ (touch s).free = s.free := by
  unfold touch; (repeat' split) <;> simp

@[simp] theorem ok_keeps (s : State) (op : Nat) (q : Req) (payload : Bytes) :
    (ok s op q payload).pending = s.pending ∧ (ok s op q payload).variant = s.variant ∧
    (ok s op q payload).clk = s.clk ∧ (ok s op q payload).unit = s.unit ∧ (ok s op q payload).str = s.str ∧
    (ok s op q payload).pwr = s.pwr ∧ (ok s op q payload).hvi = s.hvi ∧ (ok s op q payload).hviStr = s.hviStr ∧
    (ok s op q payload).rings = s.rings ∧ (ok s op q payload).cee = s.cee ∧ (ok s op q payload).tpe = s.tpe ∧
    (ok s op q payload).th = s.th ∧ (ok s op q payload).bal = s.bal ∧ (ok s op q payload).dsp = s.dsp ∧
    (ok s op q payload).conv = s.conv ∧ (ok s op q payload).phase = s.phase ∧ (ok s op q payload).gx2 = s.gx2 ∧
    (ok s op q payload).le = s.le ∧ (ok s op q payload).saf = s.saf ∧ (ok s op q payload).red = s.red ∧
    (ok s op q payload).rack = s.rack ∧ (ok s op q payload).seq = s.seq ∧ (ok s op q payload).tsu = s.tsu ∧
    (ok s op q payload).net = s.net ∧ (ok s op q payload).app = s.app ∧ (ok s op q payload).flt = s.flt ∧
    (ok s op q payload).plg = s.plg ∧ (ok s op q payload).upd = s.upd ∧ (ok s op q payload).canRam = s.canRam ∧
    (ok s op q payload).free = s.free := by
  unfold ok; (repeat' split) <;> simp

@[simp] theorem bufWrite_keeps (s : State) (d : Nat) (b : Bytes) :
    (bufWrite s d b).pending = s.pending ∧ (bufWrite s d b).variant = s.variant ∧ (bufWrite s d b).clk = s.clk ∧
    (bufWrite s d b).unit = s.unit ∧ (bufWrite s d b).str = s.str ∧ (bufWrite s d b).pwr = s.pwr ∧
    (bufWrite s d b).hvi = s.hvi ∧ (bufWrite s d b).hviStr = s.hviStr ∧ (bufWrite s d b).rings = s.rings ∧
    (bufWrite s d b).cee = s.cee ∧ (bufWrite s d b).tpe = s.tpe ∧ (bufWrite s d b).th = s.th ∧
    (bufWrite s d b).bal = s.bal ∧ (bufWrite s d b).dsp = s.dsp ∧ (bufWrite s d b).conv = s.conv ∧
    (bufWrite s d b).phase = s.phase ∧ (bufWrite s d b).gx2 = s.gx2 ∧ (bufWrite s d b).le = s.le ∧
    (bufWrite s d b).saf = s.saf ∧ (bufWrite s d b).red = s.red ∧ (bufWrite s d b).rack = s.rack ∧
    (bufWrite s d b).seq = s.seq ∧ (bufWrite s d b).tsu = s.tsu ∧ (bufWrite s d b).net = s.net ∧
    (bufWrite s d b).app = s.app ∧ (bufWrite s d b).icu = s.icu ∧ (bufWrite s d b).flt = s.flt ∧
    (bufWrite s d b).plg = s.plg ∧ (bufWrite s d b).upd = s.upd ∧ (bufWrite s d b).canRam = s.canRam ∧
    (bufWrite s d b).free = s.free := by
  unfold bufWrite; (repeat' split) <;> simp

@[simp] theorem respond_keeps (s : State) (op : Nat) (q : Req) (d : Nat) (b : Bytes) :
    (respond s op q d b).pending = s.pending ∧ (respond s op q d b).variant = s.variant ∧
    (respond s op q d b).clk = s.clk ∧ (respond s op q d b).unit = s.unit ∧ (respond s op q d b).str = s.str ∧
    (respond s op q d b).pwr = s.pwr ∧ (respond s op q d b).hvi = s.hvi ∧ (respond s op q d b).hviStr = s.hviStr ∧
    (respond s op q d b).rings = s.rings ∧ (respond s op q d b).cee = s.cee ∧ (respond s op q d b).tpe = s.tpe ∧
    (respond s op q d b).th = s.th ∧ (respond s op q d b).bal = s.bal ∧ (respond s op q d b).dsp = s.dsp ∧
    (respond s op q d b).conv = s.conv ∧ (respond s op q d b).phase = s.phase ∧ (respond s op q d b).gx2 = s.gx2 ∧
    (respond s op q d b).le = s.le ∧ (respond s op q d b).saf = s.saf ∧ (respond s op q d b).red = s.red ∧
    (respond s op q d b).rack = s.rack ∧ (respond s op q d b).seq = s.seq ∧ (respond s op q d b).tsu = s.tsu ∧
    (respond s op q d b).net = s.net ∧ (respond s op q d b).app = s.app ∧ (respond s op q d b).flt = s.flt ∧
    (respond s op q d b).plg = s.plg ∧ (respond s op q d b).upd = s.upd ∧ (respond s op q d b).canRam = s.canRam ∧
    (respond s op q d b).free = s.free := by
  unfold respond; (repeat' split) <;> simp

@[simp] theorem respondBuf_keeps (s : State) (op : Nat) (q : Req) (d : Nat) (b : Bytes) :
    (respondBuf s op q d b).pending = s.pending ∧ (respondBuf s op q d b).variant = s.variant ∧
    (respondBuf s op q d b).clk = s.clk ∧ (respondBuf s op q d b).unit = s.unit ∧
    (respondBuf s op q d b).str = s.str ∧ (respondBuf s op q d b).pwr = s.pwr ∧ (respondBuf s op q d b).hvi = s.hvi ∧
    (respondBuf s op q d b).hviStr = s.hviStr ∧ (respondBuf s op q d b).rings = s.rings ∧
    (respondBuf s op q d b).cee = s.cee ∧ (respondBuf s op q d b).tpe = s.tpe ∧ (respondBuf s op q d b).th = s.th ∧
    (respondBuf s op q d b).bal = s.bal ∧ (respondBuf s op q d b).dsp = s.dsp ∧
    (respondBuf s op q d b).conv = s.conv ∧ (respondBuf s op q d b).phase = s.phase ∧
    (respondBuf s op q d b).gx2 = s.gx2 ∧ (respondBuf s op q d b).le = s.le ∧ (respondBuf s op q d b).saf = s.saf ∧
    (respondBuf s op q d b).red = s.red ∧ (respondBuf s op q d b).rack = s.rack ∧
    (respondBuf s op q d b).seq = s.seq ∧ (respondBuf s op q d b).tsu = s.tsu ∧ (respondBuf s op q d b).net = s.net ∧
    (respondBuf s op q d b).app = s.app ∧ (respondBuf s op q d b).flt = s.flt ∧ (respondBuf s op q d b).plg = s.plg ∧
    (respondBuf s op q d b).upd = s.upd ∧ (respondBuf s op q d b).canRam = s.canRam ∧
    (respondBuf s op q d b).free = s.free := by
  unfold respondBuf; (repeat' split) <;> simp

@[simp] theorem keepExec_keeps (s : State) (op : Nat) (q : Req) :
    (keepExec s op q).pending = s.pending ∧ (keepExec s op q).variant = s.variant ∧ (keepExec s op q).clk = s.clk ∧
    (keepExec s op q).unit = s.unit ∧ (keepExec s op q).str = s.str ∧ (keepExec s op q).pwr = s.pwr ∧
    (keepExec s op q).hvi = s.hvi ∧ (keepExec s op q).hviStr = s.hviStr ∧ (keepExec s op q).rings = s.rings ∧
    (keepExec s op q).cee = s.cee ∧ (keepExec s op q).tpe = s.tpe ∧ (keepExec s op q).th = s.th ∧
    (keepExec s op q).bal = s.bal ∧ (keepExec s op q).dsp = s.dsp ∧ (keepExec s op q).conv = s.conv ∧
    (keepExec s op q).phase = s.phase ∧ (keepExec s op q).gx2 = s.gx2 ∧ (keepExec s op q).le = s.le ∧
    (keepExec s op q).saf = s.saf ∧ (keepExec s op q).red = s.red ∧ (keepExec s op q).rack = s.rack ∧
    (keepExec s op q).seq = s.seq ∧ (keepExec s op q).tsu = s.tsu ∧ (keepExec s op q).net = s.net ∧
    (keepExec s op q).app = s.app ∧ (keepExec s op q).icu = s.icu ∧ (keepExec s op q).flt = s.flt ∧
    (keepExec s op q).plg = s.plg ∧ (keepExec s op q).upd = s.upd ∧ (keepExec s op q).mem = s.mem ∧
    (keepExec s op q).canRam = s.canRam ∧ (keepExec s op q).free = s.free := by
  unfold keepExec; (repeat' split) <;> simp

@[simp] theorem peerSend_keeps (s : State) (ty : Nat) :
    (peerSend s ty).pending = s.pending ∧ (peerSend s ty).variant = s.variant ∧ (peerSend s ty).clk = s.clk ∧
    (peerSend s ty).unit = s.unit ∧ (peerSend s ty).str = s.str ∧ (peerSend s ty).pwr = s.pwr ∧
    (peerSend s ty).hvi = s.hvi ∧ (peerSend s ty).hviStr = s.hviStr ∧ (peerSend s ty).rings = s.rings ∧
    (peerSend s ty).cee = s.cee ∧ (peerSend s ty).tpe = s.tpe ∧ (peerSend s ty).th = s.th ∧
    (peerSend s ty).bal = s.bal ∧ (peerSend s ty).dsp = s.dsp ∧ (peerSend s ty).conv = s.conv ∧
    (peerSend s ty).phase = s.phase ∧ (peerSend s ty).gx2 = s.gx2 ∧ (peerSend s ty).le = s.le ∧
    (peerSend s ty).saf = s.saf ∧ (peerSend s ty).rack = s.rack ∧ (peerSend s ty).seq = s.seq ∧
    (peerSend s ty).tsu = s.tsu ∧ (peerSend s ty).hpr = s.hpr ∧ (peerSend s ty).net = s.net ∧
    (peerSend s ty).app = s.app ∧ (peerSend s ty).icu = s.icu ∧ (peerSend s ty).flt = s.flt ∧
    (peerSend s ty).plg = s.plg ∧ (peerSend s ty).upd = s.upd ∧ (peerSend s ty).mem = s.mem ∧
    (peerSend s ty).canRam = s.canRam ∧ (peerSend s ty).free = s.free := by
  unfold peerSend; (repeat' split) <;> simp

@[simp] theorem commit_keeps (s : State) (op : Nat) (q : Req) (ty : Nat) (payload : Bytes) :
    (commit s op q ty payload).pending = s.pending ∧ (commit s op q ty payload).variant = s.variant ∧
    (commit s op q ty payload).clk = s.clk ∧ (commit s op q ty payload).unit = s.unit ∧
    (commit s op q ty payload).str = s.str ∧ (commit s op q ty payload).pwr = s.pwr ∧
    (commit s op q ty payload).hvi = s.hvi ∧ (commit s op q ty payload).hviStr = s.hviStr ∧
    (commit s op q ty payload).rings = s.rings ∧ (commit s op q ty payload).cee = s.cee ∧
    (commit s op q ty payload).tpe = s.tpe ∧ (commit s op q ty payload).th = s.th ∧
    (commit s op q ty payload).bal = s.bal ∧ (commit s op q ty payload).dsp = s.dsp ∧
    (commit s op q ty payload).conv = s.conv ∧ (commit s op q ty payload).phase = s.phase ∧
    (commit s op q ty payload).gx2 = s.gx2 ∧ (commit s op q ty payload).le = s.le ∧
    (commit s op q ty payload).saf = s.saf ∧ (commit s op q ty payload).rack = s.rack ∧
    (commit s op q ty payload).seq = s.seq ∧ (commit s op q ty payload).tsu = s.tsu ∧
    (commit s op q ty payload).net = s.net ∧ (commit s op q ty payload).app = s.app ∧
    (commit s op q ty payload).flt = s.flt ∧ (commit s op q ty payload).plg = s.plg ∧
    (commit s op q ty payload).upd = s.upd ∧ (commit s op q ty payload).canRam = s.canRam ∧
    (commit s op q ty payload).free = s.free := by
  unfold commit; (repeat' split) <;> simp

@[simp] theorem commitExec_keeps (s : State) (e : Exec) (ty : Nat) (payload : Bytes) :
    (commitExec s e ty payload).pending = s.pending ∧ (commitExec s e ty payload).variant = s.variant ∧
    (commitExec s e ty payload).clk = s.clk ∧ (commitExec s e ty payload).unit = s.unit ∧
    (commitExec s e ty payload).str = s.str ∧ (commitExec s e ty payload).pwr = s.pwr ∧
    (commitExec s e ty payload).hvi = s.hvi ∧ (commitExec s e ty payload).hviStr = s.hviStr ∧
    (commitExec s e ty payload).rings = s.rings ∧ (commitExec s e ty payload).cee = s.cee ∧
    (commitExec s e ty payload).tpe = s.tpe ∧ (commitExec s e ty payload).th = s.th ∧
    (commitExec s e ty payload).bal = s.bal ∧ (commitExec s e ty payload).dsp = s.dsp ∧
    (commitExec s e ty payload).conv = s.conv ∧ (commitExec s e ty payload).phase = s.phase ∧
    (commitExec s e ty payload).gx2 = s.gx2 ∧ (commitExec s e ty payload).le = s.le ∧
    (commitExec s e ty payload).saf = s.saf ∧ (commitExec s e ty payload).rack = s.rack ∧
    (commitExec s e ty payload).seq = s.seq ∧ (commitExec s e ty payload).tsu = s.tsu ∧
    (commitExec s e ty payload).net = s.net ∧ (commitExec s e ty payload).app = s.app ∧
    (commitExec s e ty payload).flt = s.flt ∧ (commitExec s e ty payload).plg = s.plg ∧
    (commitExec s e ty payload).upd = s.upd ∧ (commitExec s e ty payload).canRam = s.canRam ∧
    (commitExec s e ty payload).free = s.free := by
  unfold commitExec; (repeat' split) <;> simp

@[simp] theorem endTransOk_keeps (s : State) (i : Nat) :
    (endTransOk s i).pending = s.pending ∧ (endTransOk s i).variant = s.variant ∧ (endTransOk s i).clk = s.clk ∧
    (endTransOk s i).unit = s.unit ∧ (endTransOk s i).pwr = s.pwr ∧ (endTransOk s i).hvi = s.hvi ∧
    (endTransOk s i).hviStr = s.hviStr ∧ (endTransOk s i).rings = s.rings ∧ (endTransOk s i).cee = s.cee ∧
    (endTransOk s i).tpe = s.tpe ∧ (endTransOk s i).th = s.th ∧ (endTransOk s i).bal = s.bal ∧
    (endTransOk s i).dsp = s.dsp ∧ (endTransOk s i).conv = s.conv ∧ (endTransOk s i).phase = s.phase ∧
    (endTransOk s i).gx2 = s.gx2 ∧ (endTransOk s i).le = s.le ∧ (endTransOk s i).saf = s.saf ∧
    (endTransOk s i).rack = s.rack ∧ (endTransOk s i).seq = s.seq ∧ (endTransOk s i).tsu = s.tsu ∧
    (endTransOk s i).net = s.net ∧ (endTransOk s i).app = s.app ∧ (endTransOk s i).flt = s.flt ∧
    (endTransOk s i).plg = s.plg ∧ (endTransOk s i).upd = s.upd ∧ (endTransOk s i).canRam = s.canRam ∧
    (endTransOk s i).free = s.free := by
  unfold endTransOk; (repeat' split) <;> simp

end Sys2Proof.Machine
end

