-- ==== Sys2Proof/Laws/Icu.lean ====
section
/-! SUPPORT. What the operations of Icu leave alone. -/

namespace Sys2Proof.Machine

@[simp] theorem icuDecide_keeps (s : State) (g : Target) :
    (icuDecide s g).pending = s.pending ∧ (icuDecide s g).variant = s.variant ∧ (icuDecide s g).clk = s.clk ∧
    (icuDecide s g).unit = s.unit ∧ (icuDecide s g).str = s.str ∧ (icuDecide s g).pwr = s.pwr ∧
    (icuDecide s g).hvi = s.hvi ∧ (icuDecide s g).hviStr = s.hviStr ∧ (icuDecide s g).rings = s.rings ∧
    (icuDecide s g).cee = s.cee ∧ (icuDecide s g).tpe = s.tpe ∧ (icuDecide s g).th = s.th ∧
    (icuDecide s g).bal = s.bal ∧ (icuDecide s g).dsp = s.dsp ∧ (icuDecide s g).conv = s.conv ∧
    (icuDecide s g).phase = s.phase ∧ (icuDecide s g).gx2 = s.gx2 ∧ (icuDecide s g).le = s.le ∧
    (icuDecide s g).saf = s.saf ∧ (icuDecide s g).red = s.red ∧ (icuDecide s g).rack = s.rack ∧
    (icuDecide s g).seq = s.seq ∧ (icuDecide s g).tsu = s.tsu ∧ (icuDecide s g).hpr = s.hpr ∧
    (icuDecide s g).net = s.net ∧ (icuDecide s g).app = s.app ∧ (icuDecide s g).flt = s.flt ∧
    (icuDecide s g).plg = s.plg ∧ (icuDecide s g).upd = s.upd ∧ (icuDecide s g).mem = s.mem ∧
    (icuDecide s g).canRam = s.canRam ∧ (icuDecide s g).free = s.free := by
  unfold icuDecide; (repeat' split) <;> simp

@[simp] theorem icuClaim_keeps (s : State) (g : Target) :
    (icuClaim s g).pending = s.pending ∧ (icuClaim s g).variant = s.variant ∧ (icuClaim s g).clk = s.clk ∧
    (icuClaim s g).unit = s.unit ∧ (icuClaim s g).str = s.str ∧ (icuClaim s g).pwr = s.pwr ∧
    (icuClaim s g).hvi = s.hvi ∧ (icuClaim s g).hviStr = s.hviStr ∧ (icuClaim s g).rings = s.rings ∧
    (icuClaim s g).cee = s.cee ∧ (icuClaim s g).tpe = s.tpe ∧ (icuClaim s g).th = s.th ∧ (icuClaim s g).bal = s.bal ∧
    (icuClaim s g).dsp = s.dsp ∧ (icuClaim s g).conv = s.conv ∧ (icuClaim s g).phase = s.phase ∧
    (icuClaim s g).gx2 = s.gx2 ∧ (icuClaim s g).le = s.le ∧ (icuClaim s g).saf = s.saf ∧ (icuClaim s g).red = s.red ∧
    (icuClaim s g).rack = s.rack ∧ (icuClaim s g).seq = s.seq ∧ (icuClaim s g).tsu = s.tsu ∧
    (icuClaim s g).hpr = s.hpr ∧ (icuClaim s g).net = s.net ∧ (icuClaim s g).app = s.app ∧
    (icuClaim s g).flt = s.flt ∧ (icuClaim s g).plg = s.plg ∧ (icuClaim s g).upd = s.upd ∧
    (icuClaim s g).mem = s.mem ∧ (icuClaim s g).canRam = s.canRam ∧ (icuClaim s g).free = s.free := by
  unfold icuClaim; (repeat' split) <;> simp

@[simp] theorem icuComplete_keeps (s : State) (g : Target) (value : BitVec 32) :
    (icuComplete s g value).pending = s.pending ∧ (icuComplete s g value).variant = s.variant ∧
    (icuComplete s g value).clk = s.clk ∧ (icuComplete s g value).unit = s.unit ∧
    (icuComplete s g value).str = s.str ∧ (icuComplete s g value).pwr = s.pwr ∧ (icuComplete s g value).hvi = s.hvi ∧
    (icuComplete s g value).hviStr = s.hviStr ∧ (icuComplete s g value).rings = s.rings ∧
    (icuComplete s g value).cee = s.cee ∧ (icuComplete s g value).tpe = s.tpe ∧ (icuComplete s g value).th = s.th ∧
    (icuComplete s g value).bal = s.bal ∧ (icuComplete s g value).dsp = s.dsp ∧
    (icuComplete s g value).conv = s.conv ∧ (icuComplete s g value).phase = s.phase ∧
    (icuComplete s g value).gx2 = s.gx2 ∧ (icuComplete s g value).le = s.le ∧ (icuComplete s g value).saf = s.saf ∧
    (icuComplete s g value).red = s.red ∧ (icuComplete s g value).rack = s.rack ∧
    (icuComplete s g value).seq = s.seq ∧ (icuComplete s g value).tsu = s.tsu ∧ (icuComplete s g value).hpr = s.hpr ∧
    (icuComplete s g value).net = s.net ∧ (icuComplete s g value).app = s.app ∧ (icuComplete s g value).flt = s.flt ∧
    (icuComplete s g value).plg = s.plg ∧ (icuComplete s g value).upd = s.upd ∧ (icuComplete s g value).mem = s.mem ∧
    (icuComplete s g value).canRam = s.canRam ∧ (icuComplete s g value).free = s.free := by
  unfold icuComplete; (repeat' split) <;> simp

@[simp] theorem icuCtrl_keeps (s : State) (g : Target) (value : BitVec 32) :
    (icuCtrl s g value).pending = s.pending ∧ (icuCtrl s g value).variant = s.variant ∧
    (icuCtrl s g value).clk = s.clk ∧ (icuCtrl s g value).unit = s.unit ∧ (icuCtrl s g value).str = s.str ∧
    (icuCtrl s g value).pwr = s.pwr ∧ (icuCtrl s g value).hvi = s.hvi ∧ (icuCtrl s g value).hviStr = s.hviStr ∧
    (icuCtrl s g value).rings = s.rings ∧ (icuCtrl s g value).cee = s.cee ∧ (icuCtrl s g value).tpe = s.tpe ∧
    (icuCtrl s g value).th = s.th ∧ (icuCtrl s g value).bal = s.bal ∧ (icuCtrl s g value).dsp = s.dsp ∧
    (icuCtrl s g value).conv = s.conv ∧ (icuCtrl s g value).phase = s.phase ∧ (icuCtrl s g value).gx2 = s.gx2 ∧
    (icuCtrl s g value).le = s.le ∧ (icuCtrl s g value).saf = s.saf ∧ (icuCtrl s g value).red = s.red ∧
    (icuCtrl s g value).rack = s.rack ∧ (icuCtrl s g value).seq = s.seq ∧ (icuCtrl s g value).tsu = s.tsu ∧
    (icuCtrl s g value).hpr = s.hpr ∧ (icuCtrl s g value).net = s.net ∧ (icuCtrl s g value).app = s.app ∧
    (icuCtrl s g value).flt = s.flt ∧ (icuCtrl s g value).plg = s.plg ∧ (icuCtrl s g value).upd = s.upd ∧
    (icuCtrl s g value).mem = s.mem ∧ (icuCtrl s g value).canRam = s.canRam ∧ (icuCtrl s g value).free = s.free := by
  unfold icuCtrl; (repeat' split) <;> simp

@[simp] theorem retarget_keeps (s : State) (n : Nat) (g : Target) :
    (retarget s n g).pending = s.pending ∧ (retarget s n g).variant = s.variant ∧ (retarget s n g).clk = s.clk ∧
    (retarget s n g).unit = s.unit ∧ (retarget s n g).str = s.str ∧ (retarget s n g).pwr = s.pwr ∧
    (retarget s n g).hvi = s.hvi ∧ (retarget s n g).hviStr = s.hviStr ∧ (retarget s n g).rings = s.rings ∧
    (retarget s n g).cee = s.cee ∧ (retarget s n g).tpe = s.tpe ∧ (retarget s n g).th = s.th ∧
    (retarget s n g).bal = s.bal ∧ (retarget s n g).dsp = s.dsp ∧ (retarget s n g).conv = s.conv ∧
    (retarget s n g).phase = s.phase ∧ (retarget s n g).gx2 = s.gx2 ∧ (retarget s n g).le = s.le ∧
    (retarget s n g).saf = s.saf ∧ (retarget s n g).red = s.red ∧ (retarget s n g).rack = s.rack ∧
    (retarget s n g).seq = s.seq ∧ (retarget s n g).tsu = s.tsu ∧ (retarget s n g).hpr = s.hpr ∧
    (retarget s n g).net = s.net ∧ (retarget s n g).app = s.app ∧ (retarget s n g).flt = s.flt ∧
    (retarget s n g).plg = s.plg ∧ (retarget s n g).upd = s.upd ∧ (retarget s n g).mem = s.mem ∧
    (retarget s n g).canRam = s.canRam ∧ (retarget s n g).free = s.free := by
  unfold retarget; (repeat' split) <;> simp

theorem icuWord_proj {γ : Type} (p : State → γ) (s : State) (g : Target) (w : Nat) (m : BitVec 32) (f : State → Nat → State)
    (h : ∀ s n, p (f s n) = p s) : p (icuWord s g w m f) = p s := by
  unfold icuWord
  exact foldl_proj p _ (fun s b => by dsimp only; split <;> simp [h]) _ _

@[simp] theorem icuWord_pending (s : State) (g : Target) (w : Nat) (m : BitVec 32) (f : State → Nat → State)
    (h : ∀ s n, (f s n).pending = s.pending) : (icuWord s g w m f).pending = s.pending :=
  icuWord_proj State.pending s g w m f h

@[simp] theorem icuWord_variant (s : State) (g : Target) (w : Nat) (m : BitVec 32) (f : State → Nat → State)
    (h : ∀ s n, (f s n).variant = s.variant) : (icuWord s g w m f).variant = s.variant :=
  icuWord_proj State.variant s g w m f h

@[simp] theorem icuWord_clk (s : State) (g : Target) (w : Nat) (m : BitVec 32) (f : State → Nat → State)
    (h : ∀ s n, (f s n).clk = s.clk) : (icuWord s g w m f).clk = s.clk :=
  icuWord_proj State.clk s g w m f h

@[simp] theorem icuWord_unit (s : State) (g : Target) (w : Nat) (m : BitVec 32) (f : State → Nat → State)
    (h : ∀ s n, (f s n).unit = s.unit) : (icuWord s g w m f).unit = s.unit :=
  icuWord_proj State.unit s g w m f h

@[simp] theorem icuWord_str (s : State) (g : Target) (w : Nat) (m : BitVec 32) (f : State → Nat → State)
    (h : ∀ s n, (f s n).str = s.str) : (icuWord s g w m f).str = s.str :=
  icuWord_proj State.str s g w m f h

@[simp] theorem icuWord_pwr (s : State) (g : Target) (w : Nat) (m : BitVec 32) (f : State → Nat → State)
    (h : ∀ s n, (f s n).pwr = s.pwr) : (icuWord s g w m f).pwr = s.pwr :=
  icuWord_proj State.pwr s g w m f h

@[simp] theorem icuWord_hvi (s : State) (g : Target) (w : Nat) (m : BitVec 32) (f : State → Nat → State)
    (h : ∀ s n, (f s n).hvi = s.hvi) : (icuWord s g w m f).hvi = s.hvi :=
  icuWord_proj State.hvi s g w m f h

@[simp] theorem icuWord_hviStr (s : State) (g : Target) (w : Nat) (m : BitVec 32) (f : State → Nat → State)
    (h : ∀ s n, (f s n).hviStr = s.hviStr) : (icuWord s g w m f).hviStr = s.hviStr :=
  icuWord_proj State.hviStr s g w m f h

@[simp] theorem icuWord_rings (s : State) (g : Target) (w : Nat) (m : BitVec 32) (f : State → Nat → State)
    (h : ∀ s n, (f s n).rings = s.rings) : (icuWord s g w m f).rings = s.rings :=
  icuWord_proj State.rings s g w m f h

@[simp] theorem icuWord_cee (s : State) (g : Target) (w : Nat) (m : BitVec 32) (f : State → Nat → State)
    (h : ∀ s n, (f s n).cee = s.cee) : (icuWord s g w m f).cee = s.cee :=
  icuWord_proj State.cee s g w m f h

@[simp] theorem icuWord_tpe (s : State) (g : Target) (w : Nat) (m : BitVec 32) (f : State → Nat → State)
    (h : ∀ s n, (f s n).tpe = s.tpe) : (icuWord s g w m f).tpe = s.tpe :=
  icuWord_proj State.tpe s g w m f h

@[simp] theorem icuWord_th (s : State) (g : Target) (w : Nat) (m : BitVec 32) (f : State → Nat → State)
    (h : ∀ s n, (f s n).th = s.th) : (icuWord s g w m f).th = s.th :=
  icuWord_proj State.th s g w m f h

@[simp] theorem icuWord_bal (s : State) (g : Target) (w : Nat) (m : BitVec 32) (f : State → Nat → State)
    (h : ∀ s n, (f s n).bal = s.bal) : (icuWord s g w m f).bal = s.bal :=
  icuWord_proj State.bal s g w m f h

@[simp] theorem icuWord_dsp (s : State) (g : Target) (w : Nat) (m : BitVec 32) (f : State → Nat → State)
    (h : ∀ s n, (f s n).dsp = s.dsp) : (icuWord s g w m f).dsp = s.dsp :=
  icuWord_proj State.dsp s g w m f h

@[simp] theorem icuWord_conv (s : State) (g : Target) (w : Nat) (m : BitVec 32) (f : State → Nat → State)
    (h : ∀ s n, (f s n).conv = s.conv) : (icuWord s g w m f).conv = s.conv :=
  icuWord_proj State.conv s g w m f h

@[simp] theorem icuWord_phase (s : State) (g : Target) (w : Nat) (m : BitVec 32) (f : State → Nat → State)
    (h : ∀ s n, (f s n).phase = s.phase) : (icuWord s g w m f).phase = s.phase :=
  icuWord_proj State.phase s g w m f h

@[simp] theorem icuWord_gx2 (s : State) (g : Target) (w : Nat) (m : BitVec 32) (f : State → Nat → State)
    (h : ∀ s n, (f s n).gx2 = s.gx2) : (icuWord s g w m f).gx2 = s.gx2 :=
  icuWord_proj State.gx2 s g w m f h

@[simp] theorem icuWord_le (s : State) (g : Target) (w : Nat) (m : BitVec 32) (f : State → Nat → State)
    (h : ∀ s n, (f s n).le = s.le) : (icuWord s g w m f).le = s.le :=
  icuWord_proj State.le s g w m f h

@[simp] theorem icuWord_saf (s : State) (g : Target) (w : Nat) (m : BitVec 32) (f : State → Nat → State)
    (h : ∀ s n, (f s n).saf = s.saf) : (icuWord s g w m f).saf = s.saf :=
  icuWord_proj State.saf s g w m f h

@[simp] theorem icuWord_red (s : State) (g : Target) (w : Nat) (m : BitVec 32) (f : State → Nat → State)
    (h : ∀ s n, (f s n).red = s.red) : (icuWord s g w m f).red = s.red :=
  icuWord_proj State.red s g w m f h

@[simp] theorem icuWord_rack (s : State) (g : Target) (w : Nat) (m : BitVec 32) (f : State → Nat → State)
    (h : ∀ s n, (f s n).rack = s.rack) : (icuWord s g w m f).rack = s.rack :=
  icuWord_proj State.rack s g w m f h

@[simp] theorem icuWord_seq (s : State) (g : Target) (w : Nat) (m : BitVec 32) (f : State → Nat → State)
    (h : ∀ s n, (f s n).seq = s.seq) : (icuWord s g w m f).seq = s.seq :=
  icuWord_proj State.seq s g w m f h

@[simp] theorem icuWord_tsu (s : State) (g : Target) (w : Nat) (m : BitVec 32) (f : State → Nat → State)
    (h : ∀ s n, (f s n).tsu = s.tsu) : (icuWord s g w m f).tsu = s.tsu :=
  icuWord_proj State.tsu s g w m f h

@[simp] theorem icuWord_hpr (s : State) (g : Target) (w : Nat) (m : BitVec 32) (f : State → Nat → State)
    (h : ∀ s n, (f s n).hpr = s.hpr) : (icuWord s g w m f).hpr = s.hpr :=
  icuWord_proj State.hpr s g w m f h

@[simp] theorem icuWord_net (s : State) (g : Target) (w : Nat) (m : BitVec 32) (f : State → Nat → State)
    (h : ∀ s n, (f s n).net = s.net) : (icuWord s g w m f).net = s.net :=
  icuWord_proj State.net s g w m f h

@[simp] theorem icuWord_app (s : State) (g : Target) (w : Nat) (m : BitVec 32) (f : State → Nat → State)
    (h : ∀ s n, (f s n).app = s.app) : (icuWord s g w m f).app = s.app :=
  icuWord_proj State.app s g w m f h

@[simp] theorem icuWord_icu (s : State) (g : Target) (w : Nat) (m : BitVec 32) (f : State → Nat → State)
    (h : ∀ s n, (f s n).icu = s.icu) : (icuWord s g w m f).icu = s.icu :=
  icuWord_proj State.icu s g w m f h

@[simp] theorem icuWord_flt (s : State) (g : Target) (w : Nat) (m : BitVec 32) (f : State → Nat → State)
    (h : ∀ s n, (f s n).flt = s.flt) : (icuWord s g w m f).flt = s.flt :=
  icuWord_proj State.flt s g w m f h

@[simp] theorem icuWord_plg (s : State) (g : Target) (w : Nat) (m : BitVec 32) (f : State → Nat → State)
    (h : ∀ s n, (f s n).plg = s.plg) : (icuWord s g w m f).plg = s.plg :=
  icuWord_proj State.plg s g w m f h

@[simp] theorem icuWord_upd (s : State) (g : Target) (w : Nat) (m : BitVec 32) (f : State → Nat → State)
    (h : ∀ s n, (f s n).upd = s.upd) : (icuWord s g w m f).upd = s.upd :=
  icuWord_proj State.upd s g w m f h

@[simp] theorem icuWord_mem (s : State) (g : Target) (w : Nat) (m : BitVec 32) (f : State → Nat → State)
    (h : ∀ s n, (f s n).mem = s.mem) : (icuWord s g w m f).mem = s.mem :=
  icuWord_proj State.mem s g w m f h

@[simp] theorem icuWord_canRam (s : State) (g : Target) (w : Nat) (m : BitVec 32) (f : State → Nat → State)
    (h : ∀ s n, (f s n).canRam = s.canRam) : (icuWord s g w m f).canRam = s.canRam :=
  icuWord_proj State.canRam s g w m f h

@[simp] theorem icuWord_free (s : State) (g : Target) (w : Nat) (m : BitVec 32) (f : State → Nat → State)
    (h : ∀ s n, (f s n).free = s.free) : (icuWord s g w m f).free = s.free :=
  icuWord_proj State.free s g w m f h

@[simp] theorem icuWrite_keeps (s : State) (g : Target) (off : Nat) (v : BitVec 32) :
    (icuWrite s g off v).pending = s.pending ∧ (icuWrite s g off v).variant = s.variant ∧
    (icuWrite s g off v).clk = s.clk ∧ (icuWrite s g off v).unit = s.unit ∧ (icuWrite s g off v).str = s.str ∧
    (icuWrite s g off v).pwr = s.pwr ∧ (icuWrite s g off v).hvi = s.hvi ∧ (icuWrite s g off v).hviStr = s.hviStr ∧
    (icuWrite s g off v).rings = s.rings ∧ (icuWrite s g off v).cee = s.cee ∧ (icuWrite s g off v).tpe = s.tpe ∧
    (icuWrite s g off v).th = s.th ∧ (icuWrite s g off v).bal = s.bal ∧ (icuWrite s g off v).dsp = s.dsp ∧
    (icuWrite s g off v).conv = s.conv ∧ (icuWrite s g off v).phase = s.phase ∧ (icuWrite s g off v).gx2 = s.gx2 ∧
    (icuWrite s g off v).le = s.le ∧ (icuWrite s g off v).saf = s.saf ∧ (icuWrite s g off v).red = s.red ∧
    (icuWrite s g off v).rack = s.rack ∧ (icuWrite s g off v).seq = s.seq ∧ (icuWrite s g off v).tsu = s.tsu ∧
    (icuWrite s g off v).hpr = s.hpr ∧ (icuWrite s g off v).net = s.net ∧ (icuWrite s g off v).app = s.app ∧
    (icuWrite s g off v).flt = s.flt ∧ (icuWrite s g off v).plg = s.plg ∧ (icuWrite s g off v).upd = s.upd ∧
    (icuWrite s g off v).mem = s.mem ∧ (icuWrite s g off v).canRam = s.canRam ∧ (icuWrite s g off v).free = s.free := by
  unfold icuWrite; (repeat' split) <;> simp

end Sys2Proof.Machine
end

