-- ==== Sys2Proof/Laws/AppCore.lean ====
section
/-! SUPPORT. What the operations of AppCore leave alone. -/

namespace Sys2Proof.Machine

@[simp] theorem restartEffects_keeps (s : State) :
    (restartEffects s).pending = s.pending ∧ (restartEffects s).variant = s.variant ∧
    (restartEffects s).clk = s.clk ∧ (restartEffects s).unit = s.unit ∧ (restartEffects s).str = s.str ∧
    (restartEffects s).pwr = s.pwr ∧ (restartEffects s).hvi = s.hvi ∧ (restartEffects s).hviStr = s.hviStr ∧
    (restartEffects s).rings = s.rings ∧ (restartEffects s).cee = s.cee ∧ (restartEffects s).tpe = s.tpe ∧
    (restartEffects s).th = s.th ∧ (restartEffects s).bal = s.bal ∧ (restartEffects s).dsp = s.dsp ∧
    (restartEffects s).conv = s.conv ∧ (restartEffects s).phase = s.phase ∧ (restartEffects s).gx2 = s.gx2 ∧
    (restartEffects s).le = s.le ∧ (restartEffects s).saf = s.saf ∧ (restartEffects s).red = s.red ∧
    (restartEffects s).rack = s.rack ∧ (restartEffects s).seq = s.seq ∧ (restartEffects s).app = s.app ∧
    (restartEffects s).flt = s.flt ∧ (restartEffects s).plg = s.plg ∧ (restartEffects s).upd = s.upd ∧
    (restartEffects s).mem = s.mem ∧ (restartEffects s).canRam = s.canRam ∧ (restartEffects s).free = s.free := by
  unfold restartEffects; (repeat' split) <;> simp

@[simp] theorem appRestart_keeps (s : State) (cause : Nat) :
    (appRestart s cause).pending = s.pending ∧ (appRestart s cause).variant = s.variant ∧
    (appRestart s cause).clk = s.clk ∧ (appRestart s cause).unit = s.unit ∧ (appRestart s cause).str = s.str ∧
    (appRestart s cause).pwr = s.pwr ∧ (appRestart s cause).hvi = s.hvi ∧ (appRestart s cause).hviStr = s.hviStr ∧
    (appRestart s cause).rings = s.rings ∧ (appRestart s cause).cee = s.cee ∧ (appRestart s cause).tpe = s.tpe ∧
    (appRestart s cause).th = s.th ∧ (appRestart s cause).bal = s.bal ∧ (appRestart s cause).dsp = s.dsp ∧
    (appRestart s cause).conv = s.conv ∧ (appRestart s cause).phase = s.phase ∧ (appRestart s cause).gx2 = s.gx2 ∧
    (appRestart s cause).le = s.le ∧ (appRestart s cause).saf = s.saf ∧ (appRestart s cause).red = s.red ∧
    (appRestart s cause).rack = s.rack ∧ (appRestart s cause).seq = s.seq ∧ (appRestart s cause).flt = s.flt ∧
    (appRestart s cause).upd = s.upd ∧ (appRestart s cause).mem = s.mem ∧ (appRestart s cause).canRam = s.canRam ∧
    (appRestart s cause).free = s.free := by
  unfold appRestart; (repeat' split) <;> simp

@[simp] theorem monitorAnswer_keeps (s : State) (a0 : Int) (a1 : Nat) :
    (monitorAnswer s a0 a1).pending = s.pending ∧ (monitorAnswer s a0 a1).variant = s.variant ∧
    (monitorAnswer s a0 a1).clk = s.clk ∧ (monitorAnswer s a0 a1).unit = s.unit ∧
    (monitorAnswer s a0 a1).str = s.str ∧ (monitorAnswer s a0 a1).pwr = s.pwr ∧ (monitorAnswer s a0 a1).hvi = s.hvi ∧
    (monitorAnswer s a0 a1).hviStr = s.hviStr ∧ (monitorAnswer s a0 a1).rings = s.rings ∧
    (monitorAnswer s a0 a1).cee = s.cee ∧ (monitorAnswer s a0 a1).tpe = s.tpe ∧ (monitorAnswer s a0 a1).th = s.th ∧
    (monitorAnswer s a0 a1).bal = s.bal ∧ (monitorAnswer s a0 a1).dsp = s.dsp ∧
    (monitorAnswer s a0 a1).conv = s.conv ∧ (monitorAnswer s a0 a1).phase = s.phase ∧
    (monitorAnswer s a0 a1).gx2 = s.gx2 ∧ (monitorAnswer s a0 a1).le = s.le ∧ (monitorAnswer s a0 a1).saf = s.saf ∧
    (monitorAnswer s a0 a1).red = s.red ∧ (monitorAnswer s a0 a1).rack = s.rack ∧
    (monitorAnswer s a0 a1).seq = s.seq ∧ (monitorAnswer s a0 a1).tsu = s.tsu ∧ (monitorAnswer s a0 a1).hpr = s.hpr ∧
    (monitorAnswer s a0 a1).net = s.net ∧ (monitorAnswer s a0 a1).icu = s.icu ∧ (monitorAnswer s a0 a1).flt = s.flt ∧
    (monitorAnswer s a0 a1).plg = s.plg ∧ (monitorAnswer s a0 a1).upd = s.upd ∧ (monitorAnswer s a0 a1).mem = s.mem ∧
    (monitorAnswer s a0 a1).canRam = s.canRam ∧ (monitorAnswer s a0 a1).free = s.free := by
  unfold monitorAnswer; (repeat' split) <;> simp

end Sys2Proof.Machine
end

