-- ==== Sys2Proof/Laws/Faults.lean ====
section
/-! SUPPORT. What the operations of Faults leave alone. -/

namespace Sys2Proof.Machine

@[simp] theorem unsuspend_keeps (s : State) (u : Nat) :
    (unsuspend s u).pending = s.pending ∧ (unsuspend s u).variant = s.variant ∧ (unsuspend s u).clk = s.clk ∧
    (unsuspend s u).unit = s.unit ∧ (unsuspend s u).str = s.str ∧ (unsuspend s u).pwr = s.pwr ∧
    (unsuspend s u).hvi = s.hvi ∧ (unsuspend s u).hviStr = s.hviStr ∧ (unsuspend s u).rings = s.rings ∧
    (unsuspend s u).cee = s.cee ∧ (unsuspend s u).tpe = s.tpe ∧ (unsuspend s u).th = s.th ∧
    (unsuspend s u).bal = s.bal ∧ (unsuspend s u).dsp = s.dsp ∧ (unsuspend s u).conv = s.conv ∧
    (unsuspend s u).phase = s.phase ∧ (unsuspend s u).gx2 = s.gx2 ∧ (unsuspend s u).le = s.le ∧
    (unsuspend s u).saf = s.saf ∧ (unsuspend s u).red = s.red ∧ (unsuspend s u).rack = s.rack ∧
    (unsuspend s u).seq = s.seq ∧ (unsuspend s u).tsu = s.tsu ∧ (unsuspend s u).hpr = s.hpr ∧
    (unsuspend s u).net = s.net ∧ (unsuspend s u).app = s.app ∧ (unsuspend s u).icu = s.icu ∧
    (unsuspend s u).plg = s.plg ∧ (unsuspend s u).upd = s.upd ∧ (unsuspend s u).mem = s.mem ∧
    (unsuspend s u).canRam = s.canRam ∧ (unsuspend s u).free = s.free := by
  unfold unsuspend; (repeat' split) <;> simp

@[simp] theorem testUnit_keeps (s : State) (u : Nat) (restoring : Bool) :
    (testUnit s u restoring).pending = s.pending ∧ (testUnit s u restoring).variant = s.variant ∧
    (testUnit s u restoring).clk = s.clk ∧ (testUnit s u restoring).unit = s.unit ∧
    (testUnit s u restoring).str = s.str ∧ (testUnit s u restoring).pwr = s.pwr ∧
    (testUnit s u restoring).hvi = s.hvi ∧ (testUnit s u restoring).hviStr = s.hviStr ∧
    (testUnit s u restoring).rings = s.rings ∧ (testUnit s u restoring).cee = s.cee ∧
    (testUnit s u restoring).tpe = s.tpe ∧ (testUnit s u restoring).th = s.th ∧
    (testUnit s u restoring).bal = s.bal ∧ (testUnit s u restoring).dsp = s.dsp ∧
    (testUnit s u restoring).conv = s.conv ∧ (testUnit s u restoring).phase = s.phase ∧
    (testUnit s u restoring).gx2 = s.gx2 ∧ (testUnit s u restoring).le = s.le ∧
    (testUnit s u restoring).saf = s.saf ∧ (testUnit s u restoring).red = s.red ∧
    (testUnit s u restoring).rack = s.rack ∧ (testUnit s u restoring).seq = s.seq ∧
    (testUnit s u restoring).tsu = s.tsu ∧ (testUnit s u restoring).hpr = s.hpr ∧
    (testUnit s u restoring).net = s.net ∧ (testUnit s u restoring).app = s.app ∧
    (testUnit s u restoring).icu = s.icu ∧ (testUnit s u restoring).plg = s.plg ∧
    (testUnit s u restoring).upd = s.upd ∧ (testUnit s u restoring).mem = s.mem ∧
    (testUnit s u restoring).canRam = s.canRam ∧ (testUnit s u restoring).free = s.free := by
  unfold testUnit; (repeat' split) <;> simp

@[simp] theorem restoreEffect_keeps (s : State) (u : Nat) :
    (restoreEffect s u).pending = s.pending ∧ (restoreEffect s u).variant = s.variant ∧
    (restoreEffect s u).clk = s.clk ∧ (restoreEffect s u).unit = s.unit ∧ (restoreEffect s u).str = s.str ∧
    (restoreEffect s u).pwr = s.pwr ∧ (restoreEffect s u).hvi = s.hvi ∧ (restoreEffect s u).cee = s.cee ∧
    (restoreEffect s u).tpe = s.tpe ∧ (restoreEffect s u).bal = s.bal ∧ (restoreEffect s u).dsp = s.dsp ∧
    (restoreEffect s u).conv = s.conv ∧ (restoreEffect s u).gx2 = s.gx2 ∧ (restoreEffect s u).le = s.le ∧
    (restoreEffect s u).saf = s.saf ∧ (restoreEffect s u).red = s.red ∧ (restoreEffect s u).seq = s.seq ∧
    (restoreEffect s u).tsu = s.tsu ∧ (restoreEffect s u).hpr = s.hpr ∧ (restoreEffect s u).net = s.net ∧
    (restoreEffect s u).app = s.app ∧ (restoreEffect s u).icu = s.icu ∧ (restoreEffect s u).flt = s.flt ∧
    (restoreEffect s u).plg = s.plg ∧ (restoreEffect s u).upd = s.upd ∧ (restoreEffect s u).mem = s.mem ∧
    (restoreEffect s u).canRam = s.canRam ∧ (restoreEffect s u).free = s.free := by
  unfold restoreEffect; (repeat' split) <;> simp

@[simp] theorem restoreUnit_keeps (s : State) (u port : Nat) :
    (restoreUnit s u port).pending = s.pending ∧ (restoreUnit s u port).variant = s.variant ∧
    (restoreUnit s u port).clk = s.clk ∧ (restoreUnit s u port).cee = s.cee ∧ (restoreUnit s u port).tpe = s.tpe ∧
    (restoreUnit s u port).dsp = s.dsp ∧ (restoreUnit s u port).gx2 = s.gx2 ∧ (restoreUnit s u port).le = s.le ∧
    (restoreUnit s u port).seq = s.seq ∧ (restoreUnit s u port).tsu = s.tsu ∧ (restoreUnit s u port).net = s.net ∧
    (restoreUnit s u port).upd = s.upd ∧ (restoreUnit s u port).canRam = s.canRam ∧
    (restoreUnit s u port).free = s.free := by
  unfold restoreUnit; (repeat' split) <;> simp

@[simp] theorem restoreDone_keeps (s : State) (r : Restore) :
    (restoreDone s r).pending = s.pending ∧ (restoreDone s r).variant = s.variant ∧ (restoreDone s r).clk = s.clk ∧
    (restoreDone s r).unit = s.unit ∧ (restoreDone s r).hvi = s.hvi ∧ (restoreDone s r).hviStr = s.hviStr ∧
    (restoreDone s r).cee = s.cee ∧ (restoreDone s r).tpe = s.tpe ∧ (restoreDone s r).th = s.th ∧
    (restoreDone s r).dsp = s.dsp ∧ (restoreDone s r).gx2 = s.gx2 ∧ (restoreDone s r).le = s.le ∧
    (restoreDone s r).rack = s.rack ∧ (restoreDone s r).seq = s.seq ∧ (restoreDone s r).tsu = s.tsu ∧
    (restoreDone s r).net = s.net ∧ (restoreDone s r).app = s.app ∧ (restoreDone s r).upd = s.upd ∧
    (restoreDone s r).canRam = s.canRam ∧ (restoreDone s r).free = s.free := by
  unfold restoreDone; (repeat' split) <;> simp

@[simp] theorem restoreNote_keeps (s : State) (u : Nat) (pass : Bool) :
    (restoreNote s u pass).pending = s.pending ∧ (restoreNote s u pass).variant = s.variant ∧
    (restoreNote s u pass).clk = s.clk ∧ (restoreNote s u pass).unit = s.unit ∧ (restoreNote s u pass).hvi = s.hvi ∧
    (restoreNote s u pass).hviStr = s.hviStr ∧ (restoreNote s u pass).cee = s.cee ∧
    (restoreNote s u pass).tpe = s.tpe ∧ (restoreNote s u pass).th = s.th ∧ (restoreNote s u pass).dsp = s.dsp ∧
    (restoreNote s u pass).gx2 = s.gx2 ∧ (restoreNote s u pass).le = s.le ∧ (restoreNote s u pass).rack = s.rack ∧
    (restoreNote s u pass).seq = s.seq ∧ (restoreNote s u pass).tsu = s.tsu ∧ (restoreNote s u pass).net = s.net ∧
    (restoreNote s u pass).app = s.app ∧ (restoreNote s u pass).upd = s.upd ∧
    (restoreNote s u pass).canRam = s.canRam ∧ (restoreNote s u pass).free = s.free := by
  unfold restoreNote; (repeat' split) <;> simp

@[simp] theorem selfTest_keeps (s : State) (u outcome : Nat) :
    (selfTest s u outcome).pending = s.pending ∧ (selfTest s u outcome).variant = s.variant ∧
    (selfTest s u outcome).clk = s.clk ∧ (selfTest s u outcome).tpe = s.tpe ∧ (selfTest s u outcome).dsp = s.dsp ∧
    (selfTest s u outcome).gx2 = s.gx2 ∧ (selfTest s u outcome).le = s.le ∧ (selfTest s u outcome).seq = s.seq ∧
    (selfTest s u outcome).tsu = s.tsu ∧ (selfTest s u outcome).net = s.net ∧ (selfTest s u outcome).upd = s.upd ∧
    (selfTest s u outcome).canRam = s.canRam ∧ (selfTest s u outcome).free = s.free := by
  unfold selfTest; (repeat' split) <;> simp

@[simp] theorem startRestore_keeps (s : State) (op : Nat) (q : Req) (units : List Nat) (string : Option Nat) :
    (startRestore s op q units string).pending = s.pending ∧ (startRestore s op q units string).variant = s.variant ∧
    (startRestore s op q units string).clk = s.clk ∧ (startRestore s op q units string).unit = s.unit ∧
    (startRestore s op q units string).hvi = s.hvi ∧ (startRestore s op q units string).hviStr = s.hviStr ∧
    (startRestore s op q units string).cee = s.cee ∧ (startRestore s op q units string).tpe = s.tpe ∧
    (startRestore s op q units string).th = s.th ∧ (startRestore s op q units string).dsp = s.dsp ∧
    (startRestore s op q units string).gx2 = s.gx2 ∧ (startRestore s op q units string).le = s.le ∧
    (startRestore s op q units string).rack = s.rack ∧ (startRestore s op q units string).seq = s.seq ∧
    (startRestore s op q units string).tsu = s.tsu ∧ (startRestore s op q units string).net = s.net ∧
    (startRestore s op q units string).app = s.app ∧ (startRestore s op q units string).upd = s.upd ∧
    (startRestore s op q units string).canRam = s.canRam ∧ (startRestore s op q units string).free = s.free := by
  unfold startRestore; (repeat' split) <;> simp

@[simp] theorem loseSup_keeps (s : State) :
    (loseSup s).pending = s.pending ∧ (loseSup s).variant = s.variant ∧ (loseSup s).clk = s.clk ∧
    (loseSup s).hviStr = s.hviStr ∧ (loseSup s).cee = s.cee ∧ (loseSup s).tpe = s.tpe ∧ (loseSup s).th = s.th ∧
    (loseSup s).dsp = s.dsp ∧ (loseSup s).gx2 = s.gx2 ∧ (loseSup s).le = s.le ∧ (loseSup s).rack = s.rack ∧
    (loseSup s).seq = s.seq ∧ (loseSup s).tsu = s.tsu ∧ (loseSup s).net = s.net ∧ (loseSup s).upd = s.upd ∧
    (loseSup s).canRam = s.canRam ∧ (loseSup s).free = s.free := by
  unfold loseSup; (repeat' split) <;> simp

@[simp] theorem bankInvalid_keeps (s : State) (part bank : Nat) :
    (bankInvalid s part bank).pending = s.pending ∧ (bankInvalid s part bank).variant = s.variant ∧
    (bankInvalid s part bank).clk = s.clk ∧ (bankInvalid s part bank).unit = s.unit ∧
    (bankInvalid s part bank).str = s.str ∧ (bankInvalid s part bank).pwr = s.pwr ∧
    (bankInvalid s part bank).hvi = s.hvi ∧ (bankInvalid s part bank).hviStr = s.hviStr ∧
    (bankInvalid s part bank).rings = s.rings ∧ (bankInvalid s part bank).cee = s.cee ∧
    (bankInvalid s part bank).tpe = s.tpe ∧ (bankInvalid s part bank).th = s.th ∧
    (bankInvalid s part bank).bal = s.bal ∧ (bankInvalid s part bank).dsp = s.dsp ∧
    (bankInvalid s part bank).conv = s.conv ∧ (bankInvalid s part bank).phase = s.phase ∧
    (bankInvalid s part bank).gx2 = s.gx2 ∧ (bankInvalid s part bank).le = s.le ∧
    (bankInvalid s part bank).saf = s.saf ∧ (bankInvalid s part bank).red = s.red ∧
    (bankInvalid s part bank).rack = s.rack ∧ (bankInvalid s part bank).seq = s.seq ∧
    (bankInvalid s part bank).tsu = s.tsu ∧ (bankInvalid s part bank).hpr = s.hpr ∧
    (bankInvalid s part bank).net = s.net ∧ (bankInvalid s part bank).app = s.app ∧
    (bankInvalid s part bank).flt = s.flt ∧ (bankInvalid s part bank).mem = s.mem ∧
    (bankInvalid s part bank).canRam = s.canRam ∧ (bankInvalid s part bank).free = s.free := by
  unfold bankInvalid; (repeat' split) <;> simp

end Sys2Proof.Machine
end

