-- ==== Sys2Proof/Laws/Ledger.lean ====
section
/-! SUPPORT. What the operations of Ledger leave alone. -/

namespace Sys2Proof.Machine

@[simp] theorem bookShuttle_keeps (s : State) (i m ch : Nat) (dq : Int) (d : RoundData) :
    (bookShuttle s i m ch dq d).pending = s.pending ∧ (bookShuttle s i m ch dq d).variant = s.variant ∧
    (bookShuttle s i m ch dq d).clk = s.clk ∧ (bookShuttle s i m ch dq d).unit = s.unit ∧
    (bookShuttle s i m ch dq d).str = s.str ∧ (bookShuttle s i m ch dq d).pwr = s.pwr ∧
    (bookShuttle s i m ch dq d).hvi = s.hvi ∧ (bookShuttle s i m ch dq d).hviStr = s.hviStr ∧
    (bookShuttle s i m ch dq d).rings = s.rings ∧ (bookShuttle s i m ch dq d).tpe = s.tpe ∧
    (bookShuttle s i m ch dq d).th = s.th ∧ (bookShuttle s i m ch dq d).dsp = s.dsp ∧
    (bookShuttle s i m ch dq d).conv = s.conv ∧ (bookShuttle s i m ch dq d).phase = s.phase ∧
    (bookShuttle s i m ch dq d).gx2 = s.gx2 ∧ (bookShuttle s i m ch dq d).le = s.le ∧
    (bookShuttle s i m ch dq d).saf = s.saf ∧ (bookShuttle s i m ch dq d).red = s.red ∧
    (bookShuttle s i m ch dq d).rack = s.rack ∧ (bookShuttle s i m ch dq d).seq = s.seq ∧
    (bookShuttle s i m ch dq d).tsu = s.tsu ∧ (bookShuttle s i m ch dq d).hpr = s.hpr ∧
    (bookShuttle s i m ch dq d).net = s.net ∧ (bookShuttle s i m ch dq d).app = s.app ∧
    (bookShuttle s i m ch dq d).icu = s.icu ∧ (bookShuttle s i m ch dq d).flt = s.flt ∧
    (bookShuttle s i m ch dq d).plg = s.plg ∧ (bookShuttle s i m ch dq d).upd = s.upd ∧
    (bookShuttle s i m ch dq d).mem = s.mem ∧ (bookShuttle s i m ch dq d).canRam = s.canRam ∧
    (bookShuttle s i m ch dq d).free = s.free := by
  unfold bookShuttle; (repeat' split) <;> simp

@[simp] theorem bookBleed_keeps (s : State) (i m : Nat) (q : Nat) (chs : List Nat) (d : RoundData) :
    (bookBleed s i m q chs d).pending = s.pending ∧ (bookBleed s i m q chs d).variant = s.variant ∧
    (bookBleed s i m q chs d).clk = s.clk ∧ (bookBleed s i m q chs d).unit = s.unit ∧
    (bookBleed s i m q chs d).str = s.str ∧ (bookBleed s i m q chs d).pwr = s.pwr ∧
    (bookBleed s i m q chs d).hvi = s.hvi ∧ (bookBleed s i m q chs d).hviStr = s.hviStr ∧
    (bookBleed s i m q chs d).rings = s.rings ∧ (bookBleed s i m q chs d).tpe = s.tpe ∧
    (bookBleed s i m q chs d).th = s.th ∧ (bookBleed s i m q chs d).dsp = s.dsp ∧
    (bookBleed s i m q chs d).conv = s.conv ∧ (bookBleed s i m q chs d).phase = s.phase ∧
    (bookBleed s i m q chs d).gx2 = s.gx2 ∧ (bookBleed s i m q chs d).le = s.le ∧
    (bookBleed s i m q chs d).saf = s.saf ∧ (bookBleed s i m q chs d).red = s.red ∧
    (bookBleed s i m q chs d).rack = s.rack ∧ (bookBleed s i m q chs d).seq = s.seq ∧
    (bookBleed s i m q chs d).tsu = s.tsu ∧ (bookBleed s i m q chs d).hpr = s.hpr ∧
    (bookBleed s i m q chs d).net = s.net ∧ (bookBleed s i m q chs d).app = s.app ∧
    (bookBleed s i m q chs d).icu = s.icu ∧ (bookBleed s i m q chs d).flt = s.flt ∧
    (bookBleed s i m q chs d).plg = s.plg ∧ (bookBleed s i m q chs d).upd = s.upd ∧
    (bookBleed s i m q chs d).mem = s.mem ∧ (bookBleed s i m q chs d).canRam = s.canRam ∧
    (bookBleed s i m q chs d).free = s.free := by
  unfold bookBleed; (repeat' split) <;> simp

@[simp] theorem bookUnattributedShuttle_keeps (s : State) (i m : Nat) (dq : Int) :
    (bookUnattributedShuttle s i m dq).pending = s.pending ∧ (bookUnattributedShuttle s i m dq).variant = s.variant ∧
    (bookUnattributedShuttle s i m dq).clk = s.clk ∧ (bookUnattributedShuttle s i m dq).unit = s.unit ∧
    (bookUnattributedShuttle s i m dq).str = s.str ∧ (bookUnattributedShuttle s i m dq).pwr = s.pwr ∧
    (bookUnattributedShuttle s i m dq).hvi = s.hvi ∧ (bookUnattributedShuttle s i m dq).hviStr = s.hviStr ∧
    (bookUnattributedShuttle s i m dq).rings = s.rings ∧ (bookUnattributedShuttle s i m dq).cee = s.cee ∧
    (bookUnattributedShuttle s i m dq).tpe = s.tpe ∧ (bookUnattributedShuttle s i m dq).th = s.th ∧
    (bookUnattributedShuttle s i m dq).dsp = s.dsp ∧ (bookUnattributedShuttle s i m dq).conv = s.conv ∧
    (bookUnattributedShuttle s i m dq).phase = s.phase ∧ (bookUnattributedShuttle s i m dq).gx2 = s.gx2 ∧
    (bookUnattributedShuttle s i m dq).le = s.le ∧ (bookUnattributedShuttle s i m dq).saf = s.saf ∧
    (bookUnattributedShuttle s i m dq).red = s.red ∧ (bookUnattributedShuttle s i m dq).rack = s.rack ∧
    (bookUnattributedShuttle s i m dq).seq = s.seq ∧ (bookUnattributedShuttle s i m dq).tsu = s.tsu ∧
    (bookUnattributedShuttle s i m dq).hpr = s.hpr ∧ (bookUnattributedShuttle s i m dq).net = s.net ∧
    (bookUnattributedShuttle s i m dq).app = s.app ∧ (bookUnattributedShuttle s i m dq).upd = s.upd ∧
    (bookUnattributedShuttle s i m dq).mem = s.mem ∧ (bookUnattributedShuttle s i m dq).canRam = s.canRam ∧
    (bookUnattributedShuttle s i m dq).free = s.free := by
  unfold bookUnattributedShuttle; (repeat' split) <;> simp

@[simp] theorem bookUnattributedBleed_keeps (s : State) (i m : Nat) (q : Nat) :
    (bookUnattributedBleed s i m q).pending = s.pending ∧ (bookUnattributedBleed s i m q).variant = s.variant ∧
    (bookUnattributedBleed s i m q).clk = s.clk ∧ (bookUnattributedBleed s i m q).unit = s.unit ∧
    (bookUnattributedBleed s i m q).str = s.str ∧ (bookUnattributedBleed s i m q).pwr = s.pwr ∧
    (bookUnattributedBleed s i m q).hvi = s.hvi ∧ (bookUnattributedBleed s i m q).hviStr = s.hviStr ∧
    (bookUnattributedBleed s i m q).rings = s.rings ∧ (bookUnattributedBleed s i m q).cee = s.cee ∧
    (bookUnattributedBleed s i m q).tpe = s.tpe ∧ (bookUnattributedBleed s i m q).th = s.th ∧
    (bookUnattributedBleed s i m q).dsp = s.dsp ∧ (bookUnattributedBleed s i m q).conv = s.conv ∧
    (bookUnattributedBleed s i m q).phase = s.phase ∧ (bookUnattributedBleed s i m q).gx2 = s.gx2 ∧
    (bookUnattributedBleed s i m q).le = s.le ∧ (bookUnattributedBleed s i m q).saf = s.saf ∧
    (bookUnattributedBleed s i m q).red = s.red ∧ (bookUnattributedBleed s i m q).rack = s.rack ∧
    (bookUnattributedBleed s i m q).seq = s.seq ∧ (bookUnattributedBleed s i m q).tsu = s.tsu ∧
    (bookUnattributedBleed s i m q).hpr = s.hpr ∧ (bookUnattributedBleed s i m q).net = s.net ∧
    (bookUnattributedBleed s i m q).app = s.app ∧ (bookUnattributedBleed s i m q).upd = s.upd ∧
    (bookUnattributedBleed s i m q).mem = s.mem ∧ (bookUnattributedBleed s i m q).canRam = s.canRam ∧
    (bookUnattributedBleed s i m q).free = s.free := by
  unfold bookUnattributedBleed; (repeat' split) <;> simp

@[simp] theorem bookIncrements_keeps (s : State) (i m : Nat) (prev now : RoundData) (qs : Int) (qb : Nat) :
    (bookIncrements s i m prev now qs qb).pending = s.pending ∧
    (bookIncrements s i m prev now qs qb).variant = s.variant ∧ (bookIncrements s i m prev now qs qb).clk = s.clk ∧
    (bookIncrements s i m prev now qs qb).unit = s.unit ∧ (bookIncrements s i m prev now qs qb).str = s.str ∧
    (bookIncrements s i m prev now qs qb).pwr = s.pwr ∧ (bookIncrements s i m prev now qs qb).hvi = s.hvi ∧
    (bookIncrements s i m prev now qs qb).hviStr = s.hviStr ∧ (bookIncrements s i m prev now qs qb).rings = s.rings ∧
    (bookIncrements s i m prev now qs qb).tpe = s.tpe ∧ (bookIncrements s i m prev now qs qb).th = s.th ∧
    (bookIncrements s i m prev now qs qb).dsp = s.dsp ∧ (bookIncrements s i m prev now qs qb).conv = s.conv ∧
    (bookIncrements s i m prev now qs qb).phase = s.phase ∧ (bookIncrements s i m prev now qs qb).gx2 = s.gx2 ∧
    (bookIncrements s i m prev now qs qb).le = s.le ∧ (bookIncrements s i m prev now qs qb).saf = s.saf ∧
    (bookIncrements s i m prev now qs qb).red = s.red ∧ (bookIncrements s i m prev now qs qb).rack = s.rack ∧
    (bookIncrements s i m prev now qs qb).seq = s.seq ∧ (bookIncrements s i m prev now qs qb).tsu = s.tsu ∧
    (bookIncrements s i m prev now qs qb).hpr = s.hpr ∧ (bookIncrements s i m prev now qs qb).net = s.net ∧
    (bookIncrements s i m prev now qs qb).app = s.app ∧ (bookIncrements s i m prev now qs qb).upd = s.upd ∧
    (bookIncrements s i m prev now qs qb).mem = s.mem ∧ (bookIncrements s i m prev now qs qb).canRam = s.canRam ∧
    (bookIncrements s i m prev now qs qb).free = s.free := by
  unfold bookIncrements; (repeat' split) <;> simp

@[simp] theorem bookEstimate_keeps (s : State) (i m : Nat) (prev now : RoundData) (cmd : Int) (dt : Nat) :
    (bookEstimate s i m prev now cmd dt).pending = s.pending ∧
    (bookEstimate s i m prev now cmd dt).variant = s.variant ∧ (bookEstimate s i m prev now cmd dt).clk = s.clk ∧
    (bookEstimate s i m prev now cmd dt).unit = s.unit ∧ (bookEstimate s i m prev now cmd dt).str = s.str ∧
    (bookEstimate s i m prev now cmd dt).pwr = s.pwr ∧ (bookEstimate s i m prev now cmd dt).hvi = s.hvi ∧
    (bookEstimate s i m prev now cmd dt).hviStr = s.hviStr ∧ (bookEstimate s i m prev now cmd dt).rings = s.rings ∧
    (bookEstimate s i m prev now cmd dt).tpe = s.tpe ∧ (bookEstimate s i m prev now cmd dt).th = s.th ∧
    (bookEstimate s i m prev now cmd dt).dsp = s.dsp ∧ (bookEstimate s i m prev now cmd dt).conv = s.conv ∧
    (bookEstimate s i m prev now cmd dt).phase = s.phase ∧ (bookEstimate s i m prev now cmd dt).gx2 = s.gx2 ∧
    (bookEstimate s i m prev now cmd dt).le = s.le ∧ (bookEstimate s i m prev now cmd dt).saf = s.saf ∧
    (bookEstimate s i m prev now cmd dt).red = s.red ∧ (bookEstimate s i m prev now cmd dt).rack = s.rack ∧
    (bookEstimate s i m prev now cmd dt).seq = s.seq ∧ (bookEstimate s i m prev now cmd dt).tsu = s.tsu ∧
    (bookEstimate s i m prev now cmd dt).hpr = s.hpr ∧ (bookEstimate s i m prev now cmd dt).net = s.net ∧
    (bookEstimate s i m prev now cmd dt).app = s.app ∧ (bookEstimate s i m prev now cmd dt).flt = s.flt ∧
    (bookEstimate s i m prev now cmd dt).upd = s.upd ∧ (bookEstimate s i m prev now cmd dt).mem = s.mem ∧
    (bookEstimate s i m prev now cmd dt).canRam = s.canRam ∧ (bookEstimate s i m prev now cmd dt).free = s.free := by
  unfold bookEstimate; (repeat' split) <;> simp

@[simp] theorem bookReading_keeps (s : State) (i m : Nat) (prev : Option RoundData) (now : RoundData) (cmd : Int) (dt : Nat) :
    (bookReading s i m prev now cmd dt).pending = s.pending ∧
    (bookReading s i m prev now cmd dt).variant = s.variant ∧ (bookReading s i m prev now cmd dt).clk = s.clk ∧
    (bookReading s i m prev now cmd dt).unit = s.unit ∧ (bookReading s i m prev now cmd dt).str = s.str ∧
    (bookReading s i m prev now cmd dt).pwr = s.pwr ∧ (bookReading s i m prev now cmd dt).hvi = s.hvi ∧
    (bookReading s i m prev now cmd dt).hviStr = s.hviStr ∧ (bookReading s i m prev now cmd dt).rings = s.rings ∧
    (bookReading s i m prev now cmd dt).tpe = s.tpe ∧ (bookReading s i m prev now cmd dt).th = s.th ∧
    (bookReading s i m prev now cmd dt).dsp = s.dsp ∧ (bookReading s i m prev now cmd dt).conv = s.conv ∧
    (bookReading s i m prev now cmd dt).phase = s.phase ∧ (bookReading s i m prev now cmd dt).gx2 = s.gx2 ∧
    (bookReading s i m prev now cmd dt).le = s.le ∧ (bookReading s i m prev now cmd dt).saf = s.saf ∧
    (bookReading s i m prev now cmd dt).red = s.red ∧ (bookReading s i m prev now cmd dt).rack = s.rack ∧
    (bookReading s i m prev now cmd dt).seq = s.seq ∧ (bookReading s i m prev now cmd dt).tsu = s.tsu ∧
    (bookReading s i m prev now cmd dt).hpr = s.hpr ∧ (bookReading s i m prev now cmd dt).net = s.net ∧
    (bookReading s i m prev now cmd dt).app = s.app ∧ (bookReading s i m prev now cmd dt).upd = s.upd ∧
    (bookReading s i m prev now cmd dt).mem = s.mem ∧ (bookReading s i m prev now cmd dt).canRam = s.canRam ∧
    (bookReading s i m prev now cmd dt).free = s.free := by
  unfold bookReading; (repeat' split) <;> simp

end Sys2Proof.Machine
end

