-- ==== Sys2Proof/Laws/UpdAct.lean ====
section
/-! SUPPORT. What the operations of UpdAct leave alone. -/

namespace Sys2Proof.Machine

@[simp] theorem State.modXfer_keeps (s : State) (t : Nat) (f : Xfer → Xfer) :
    (State.modXfer s t f).pending = s.pending ∧ (State.modXfer s t f).variant = s.variant ∧
    (State.modXfer s t f).clk = s.clk ∧ (State.modXfer s t f).unit = s.unit ∧ (State.modXfer s t f).str = s.str ∧
    (State.modXfer s t f).pwr = s.pwr ∧ (State.modXfer s t f).hvi = s.hvi ∧ (State.modXfer s t f).hviStr = s.hviStr ∧
    (State.modXfer s t f).rings = s.rings ∧ (State.modXfer s t f).cee = s.cee ∧ (State.modXfer s t f).tpe = s.tpe ∧
    (State.modXfer s t f).th = s.th ∧ (State.modXfer s t f).bal = s.bal ∧ (State.modXfer s t f).dsp = s.dsp ∧
    (State.modXfer s t f).conv = s.conv ∧ (State.modXfer s t f).phase = s.phase ∧ (State.modXfer s t f).gx2 = s.gx2 ∧
    (State.modXfer s t f).le = s.le ∧ (State.modXfer s t f).saf = s.saf ∧ (State.modXfer s t f).red = s.red ∧
    (State.modXfer s t f).rack = s.rack ∧ (State.modXfer s t f).seq = s.seq ∧ (State.modXfer s t f).tsu = s.tsu ∧
    (State.modXfer s t f).hpr = s.hpr ∧ (State.modXfer s t f).net = s.net ∧ (State.modXfer s t f).app = s.app ∧
    (State.modXfer s t f).icu = s.icu ∧ (State.modXfer s t f).flt = s.flt ∧ (State.modXfer s t f).plg = s.plg ∧
    (State.modXfer s t f).mem = s.mem ∧ (State.modXfer s t f).canRam = s.canRam ∧
    (State.modXfer s t f).free = s.free := by
  unfold State.modXfer; (repeat' split) <;> simp

@[simp] theorem State.modPart_keeps (s : State) (p : Nat) (f : Part → Part) :
    (State.modPart s p f).pending = s.pending ∧ (State.modPart s p f).variant = s.variant ∧
    (State.modPart s p f).clk = s.clk ∧ (State.modPart s p f).unit = s.unit ∧ (State.modPart s p f).str = s.str ∧
    (State.modPart s p f).pwr = s.pwr ∧ (State.modPart s p f).hvi = s.hvi ∧ (State.modPart s p f).hviStr = s.hviStr ∧
    (State.modPart s p f).rings = s.rings ∧ (State.modPart s p f).cee = s.cee ∧ (State.modPart s p f).tpe = s.tpe ∧
    (State.modPart s p f).th = s.th ∧ (State.modPart s p f).bal = s.bal ∧ (State.modPart s p f).dsp = s.dsp ∧
    (State.modPart s p f).conv = s.conv ∧ (State.modPart s p f).phase = s.phase ∧ (State.modPart s p f).gx2 = s.gx2 ∧
    (State.modPart s p f).le = s.le ∧ (State.modPart s p f).saf = s.saf ∧ (State.modPart s p f).red = s.red ∧
    (State.modPart s p f).rack = s.rack ∧ (State.modPart s p f).seq = s.seq ∧ (State.modPart s p f).tsu = s.tsu ∧
    (State.modPart s p f).hpr = s.hpr ∧ (State.modPart s p f).net = s.net ∧ (State.modPart s p f).app = s.app ∧
    (State.modPart s p f).icu = s.icu ∧ (State.modPart s p f).flt = s.flt ∧ (State.modPart s p f).plg = s.plg ∧
    (State.modPart s p f).mem = s.mem ∧ (State.modPart s p f).canRam = s.canRam ∧
    (State.modPart s p f).free = s.free := by
  unfold State.modPart; (repeat' split) <;> simp

@[simp] theorem startTrial_keeps (s : State) (a : Activation) :
    (startTrial s a).pending = s.pending ∧ (startTrial s a).variant = s.variant ∧ (startTrial s a).clk = s.clk ∧
    (startTrial s a).unit = s.unit ∧ (startTrial s a).str = s.str ∧ (startTrial s a).pwr = s.pwr ∧
    (startTrial s a).hvi = s.hvi ∧ (startTrial s a).hviStr = s.hviStr ∧ (startTrial s a).rings = s.rings ∧
    (startTrial s a).cee = s.cee ∧ (startTrial s a).tpe = s.tpe ∧ (startTrial s a).th = s.th ∧
    (startTrial s a).bal = s.bal ∧ (startTrial s a).dsp = s.dsp ∧ (startTrial s a).conv = s.conv ∧
    (startTrial s a).phase = s.phase ∧ (startTrial s a).gx2 = s.gx2 ∧ (startTrial s a).le = s.le ∧
    (startTrial s a).saf = s.saf ∧ (startTrial s a).red = s.red ∧ (startTrial s a).rack = s.rack ∧
    (startTrial s a).seq = s.seq ∧ (startTrial s a).tsu = s.tsu ∧ (startTrial s a).hpr = s.hpr ∧
    (startTrial s a).net = s.net ∧ (startTrial s a).app = s.app ∧ (startTrial s a).icu = s.icu ∧
    (startTrial s a).flt = s.flt ∧ (startTrial s a).plg = s.plg ∧ (startTrial s a).mem = s.mem ∧
    (startTrial s a).canRam = s.canRam ∧ (startTrial s a).free = s.free := by
  unfold startTrial; (repeat' split) <;> simp

@[simp] theorem fellBack_keeps (s : State) (p : Nat) :
    (fellBack s p).pending = s.pending ∧ (fellBack s p).variant = s.variant ∧ (fellBack s p).clk = s.clk ∧
    (fellBack s p).unit = s.unit ∧ (fellBack s p).str = s.str ∧ (fellBack s p).pwr = s.pwr ∧
    (fellBack s p).hvi = s.hvi ∧ (fellBack s p).hviStr = s.hviStr ∧ (fellBack s p).rings = s.rings ∧
    (fellBack s p).cee = s.cee ∧ (fellBack s p).tpe = s.tpe ∧ (fellBack s p).th = s.th ∧ (fellBack s p).bal = s.bal ∧
    (fellBack s p).dsp = s.dsp ∧ (fellBack s p).conv = s.conv ∧ (fellBack s p).phase = s.phase ∧
    (fellBack s p).gx2 = s.gx2 ∧ (fellBack s p).le = s.le ∧ (fellBack s p).saf = s.saf ∧ (fellBack s p).red = s.red ∧
    (fellBack s p).rack = s.rack ∧ (fellBack s p).seq = s.seq ∧ (fellBack s p).tsu = s.tsu ∧
    (fellBack s p).hpr = s.hpr ∧ (fellBack s p).net = s.net ∧ (fellBack s p).app = s.app ∧
    (fellBack s p).flt = s.flt ∧ (fellBack s p).mem = s.mem ∧ (fellBack s p).canRam = s.canRam ∧
    (fellBack s p).free = s.free := by
  unfold fellBack; (repeat' split) <;> simp

@[simp] theorem actDone_keeps (s : State) (status detail : Nat) :
    (actDone s status detail).pending = s.pending ∧ (actDone s status detail).variant = s.variant ∧
    (actDone s status detail).clk = s.clk ∧ (actDone s status detail).unit = s.unit ∧
    (actDone s status detail).str = s.str ∧ (actDone s status detail).pwr = s.pwr ∧
    (actDone s status detail).hvi = s.hvi ∧ (actDone s status detail).hviStr = s.hviStr ∧
    (actDone s status detail).rings = s.rings ∧ (actDone s status detail).cee = s.cee ∧
    (actDone s status detail).tpe = s.tpe ∧ (actDone s status detail).th = s.th ∧
    (actDone s status detail).bal = s.bal ∧ (actDone s status detail).dsp = s.dsp ∧
    (actDone s status detail).conv = s.conv ∧ (actDone s status detail).phase = s.phase ∧
    (actDone s status detail).gx2 = s.gx2 ∧ (actDone s status detail).le = s.le ∧
    (actDone s status detail).saf = s.saf ∧ (actDone s status detail).red = s.red ∧
    (actDone s status detail).rack = s.rack ∧ (actDone s status detail).seq = s.seq ∧
    (actDone s status detail).tsu = s.tsu ∧ (actDone s status detail).net = s.net ∧
    (actDone s status detail).app = s.app ∧ (actDone s status detail).flt = s.flt ∧
    (actDone s status detail).plg = s.plg ∧ (actDone s status detail).canRam = s.canRam ∧
    (actDone s status detail).free = s.free := by
  unfold actDone; (repeat' split) <;> simp

@[simp] theorem actFailed_keeps (s : State) (detail : Nat) :
    (actFailed s detail).pending = s.pending ∧ (actFailed s detail).variant = s.variant ∧
    (actFailed s detail).clk = s.clk ∧ (actFailed s detail).unit = s.unit ∧ (actFailed s detail).str = s.str ∧
    (actFailed s detail).pwr = s.pwr ∧ (actFailed s detail).hvi = s.hvi ∧ (actFailed s detail).hviStr = s.hviStr ∧
    (actFailed s detail).rings = s.rings ∧ (actFailed s detail).cee = s.cee ∧ (actFailed s detail).tpe = s.tpe ∧
    (actFailed s detail).th = s.th ∧ (actFailed s detail).bal = s.bal ∧ (actFailed s detail).dsp = s.dsp ∧
    (actFailed s detail).conv = s.conv ∧ (actFailed s detail).phase = s.phase ∧ (actFailed s detail).gx2 = s.gx2 ∧
    (actFailed s detail).le = s.le ∧ (actFailed s detail).saf = s.saf ∧ (actFailed s detail).red = s.red ∧
    (actFailed s detail).rack = s.rack ∧ (actFailed s detail).seq = s.seq ∧ (actFailed s detail).tsu = s.tsu ∧
    (actFailed s detail).net = s.net ∧ (actFailed s detail).app = s.app ∧ (actFailed s detail).flt = s.flt ∧
    (actFailed s detail).plg = s.plg ∧ (actFailed s detail).canRam = s.canRam ∧ (actFailed s detail).free = s.free := by
  unfold actFailed; (repeat' split) <;> simp

@[simp] theorem spResumed_keeps (s : State) :
    (spResumed s).pending = s.pending ∧ (spResumed s).variant = s.variant ∧ (spResumed s).clk = s.clk ∧
    (spResumed s).unit = s.unit ∧ (spResumed s).str = s.str ∧ (spResumed s).pwr = s.pwr ∧ (spResumed s).hvi = s.hvi ∧
    (spResumed s).hviStr = s.hviStr ∧ (spResumed s).rings = s.rings ∧ (spResumed s).cee = s.cee ∧
    (spResumed s).tpe = s.tpe ∧ (spResumed s).th = s.th ∧ (spResumed s).bal = s.bal ∧ (spResumed s).dsp = s.dsp ∧
    (spResumed s).conv = s.conv ∧ (spResumed s).phase = s.phase ∧ (spResumed s).gx2 = s.gx2 ∧
    (spResumed s).le = s.le ∧ (spResumed s).red = s.red ∧ (spResumed s).rack = s.rack ∧ (spResumed s).seq = s.seq ∧
    (spResumed s).tsu = s.tsu ∧ (spResumed s).net = s.net ∧ (spResumed s).app = s.app ∧ (spResumed s).flt = s.flt ∧
    (spResumed s).canRam = s.canRam ∧ (spResumed s).free = s.free := by
  unfold spResumed; (repeat' split) <;> simp

@[simp] theorem storeImage_keeps (s : State) (x : Xfer) (n : Nat) :
    (storeImage s x n).pending = s.pending ∧ (storeImage s x n).variant = s.variant ∧
    (storeImage s x n).clk = s.clk ∧ (storeImage s x n).unit = s.unit ∧ (storeImage s x n).str = s.str ∧
    (storeImage s x n).pwr = s.pwr ∧ (storeImage s x n).hvi = s.hvi ∧ (storeImage s x n).hviStr = s.hviStr ∧
    (storeImage s x n).rings = s.rings ∧ (storeImage s x n).cee = s.cee ∧ (storeImage s x n).tpe = s.tpe ∧
    (storeImage s x n).th = s.th ∧ (storeImage s x n).bal = s.bal ∧ (storeImage s x n).dsp = s.dsp ∧
    (storeImage s x n).conv = s.conv ∧ (storeImage s x n).phase = s.phase ∧ (storeImage s x n).gx2 = s.gx2 ∧
    (storeImage s x n).le = s.le ∧ (storeImage s x n).saf = s.saf ∧ (storeImage s x n).red = s.red ∧
    (storeImage s x n).rack = s.rack ∧ (storeImage s x n).seq = s.seq ∧ (storeImage s x n).tsu = s.tsu ∧
    (storeImage s x n).hpr = s.hpr ∧ (storeImage s x n).net = s.net ∧ (storeImage s x n).app = s.app ∧
    (storeImage s x n).icu = s.icu ∧ (storeImage s x n).flt = s.flt ∧ (storeImage s x n).plg = s.plg ∧
    (storeImage s x n).mem = s.mem ∧ (storeImage s x n).canRam = s.canRam ∧ (storeImage s x n).free = s.free := by
  unfold storeImage; (repeat' split) <;> simp

@[simp] theorem distributed_keeps (s : State) (a : Activation) :
    (distributed s a).pending = s.pending ∧ (distributed s a).variant = s.variant ∧ (distributed s a).clk = s.clk ∧
    (distributed s a).unit = s.unit ∧ (distributed s a).str = s.str ∧ (distributed s a).pwr = s.pwr ∧
    (distributed s a).hvi = s.hvi ∧ (distributed s a).hviStr = s.hviStr ∧ (distributed s a).rings = s.rings ∧
    (distributed s a).cee = s.cee ∧ (distributed s a).tpe = s.tpe ∧ (distributed s a).th = s.th ∧
    (distributed s a).bal = s.bal ∧ (distributed s a).dsp = s.dsp ∧ (distributed s a).conv = s.conv ∧
    (distributed s a).phase = s.phase ∧ (distributed s a).gx2 = s.gx2 ∧ (distributed s a).le = s.le ∧
    (distributed s a).saf = s.saf ∧ (distributed s a).red = s.red ∧ (distributed s a).rack = s.rack ∧
    (distributed s a).seq = s.seq ∧ (distributed s a).tsu = s.tsu ∧ (distributed s a).net = s.net ∧
    (distributed s a).app = s.app ∧ (distributed s a).flt = s.flt ∧ (distributed s a).plg = s.plg ∧
    (distributed s a).canRam = s.canRam ∧ (distributed s a).free = s.free := by
  unfold distributed; (repeat' split) <;> simp

@[simp] theorem fwReturned_keeps (s : State) (i m : Nat) :
    (fwReturned s i m).pending = s.pending ∧ (fwReturned s i m).variant = s.variant ∧
    (fwReturned s i m).clk = s.clk ∧ (fwReturned s i m).unit = s.unit ∧ (fwReturned s i m).str = s.str ∧
    (fwReturned s i m).pwr = s.pwr ∧ (fwReturned s i m).hvi = s.hvi ∧ (fwReturned s i m).hviStr = s.hviStr ∧
    (fwReturned s i m).cee = s.cee ∧ (fwReturned s i m).tpe = s.tpe ∧ (fwReturned s i m).th = s.th ∧
    (fwReturned s i m).bal = s.bal ∧ (fwReturned s i m).dsp = s.dsp ∧ (fwReturned s i m).conv = s.conv ∧
    (fwReturned s i m).phase = s.phase ∧ (fwReturned s i m).gx2 = s.gx2 ∧ (fwReturned s i m).le = s.le ∧
    (fwReturned s i m).saf = s.saf ∧ (fwReturned s i m).red = s.red ∧ (fwReturned s i m).rack = s.rack ∧
    (fwReturned s i m).seq = s.seq ∧ (fwReturned s i m).tsu = s.tsu ∧ (fwReturned s i m).net = s.net ∧
    (fwReturned s i m).app = s.app ∧ (fwReturned s i m).flt = s.flt ∧ (fwReturned s i m).plg = s.plg ∧
    (fwReturned s i m).canRam = s.canRam ∧ (fwReturned s i m).free = s.free := by
  unfold fwReturned; dsimp only; (repeat' split) <;> simp

end Sys2Proof.Machine
end

