-- ==== Sys2Proof/Laws/Rack.lean ====
section
/-! SUPPORT. What the operations of Rack leave alone. -/

namespace Sys2Proof.Machine

@[simp] theorem modRect_keeps (s : State) (k : Nat) (f : Rect → Rect) :
    (modRect s k f).pending = s.pending ∧ (modRect s k f).variant = s.variant ∧ (modRect s k f).clk = s.clk ∧
    (modRect s k f).unit = s.unit ∧ (modRect s k f).str = s.str ∧ (modRect s k f).pwr = s.pwr ∧
    (modRect s k f).hvi = s.hvi ∧ (modRect s k f).hviStr = s.hviStr ∧ (modRect s k f).rings = s.rings ∧
    (modRect s k f).cee = s.cee ∧ (modRect s k f).tpe = s.tpe ∧ (modRect s k f).th = s.th ∧
    (modRect s k f).bal = s.bal ∧ (modRect s k f).dsp = s.dsp ∧ (modRect s k f).conv = s.conv ∧
    (modRect s k f).phase = s.phase ∧ (modRect s k f).gx2 = s.gx2 ∧ (modRect s k f).le = s.le ∧
    (modRect s k f).saf = s.saf ∧ (modRect s k f).red = s.red ∧ (modRect s k f).seq = s.seq ∧
    (modRect s k f).tsu = s.tsu ∧ (modRect s k f).hpr = s.hpr ∧ (modRect s k f).net = s.net ∧
    (modRect s k f).app = s.app ∧ (modRect s k f).icu = s.icu ∧ (modRect s k f).flt = s.flt ∧
    (modRect s k f).plg = s.plg ∧ (modRect s k f).upd = s.upd ∧ (modRect s k f).mem = s.mem ∧
    (modRect s k f).canRam = s.canRam ∧ (modRect s k f).free = s.free := by
  unfold modRect; (repeat' split) <;> simp

@[simp] theorem rectReply_keeps (s : State) (k : Nat) (x : RectReading) :
    (rectReply s k x).pending = s.pending ∧ (rectReply s k x).variant = s.variant ∧ (rectReply s k x).clk = s.clk ∧
    (rectReply s k x).unit = s.unit ∧ (rectReply s k x).str = s.str ∧ (rectReply s k x).pwr = s.pwr ∧
    (rectReply s k x).hvi = s.hvi ∧ (rectReply s k x).hviStr = s.hviStr ∧ (rectReply s k x).rings = s.rings ∧
    (rectReply s k x).cee = s.cee ∧ (rectReply s k x).tpe = s.tpe ∧ (rectReply s k x).th = s.th ∧
    (rectReply s k x).bal = s.bal ∧ (rectReply s k x).dsp = s.dsp ∧ (rectReply s k x).conv = s.conv ∧
    (rectReply s k x).phase = s.phase ∧ (rectReply s k x).gx2 = s.gx2 ∧ (rectReply s k x).le = s.le ∧
    (rectReply s k x).saf = s.saf ∧ (rectReply s k x).red = s.red ∧ (rectReply s k x).seq = s.seq ∧
    (rectReply s k x).tsu = s.tsu ∧ (rectReply s k x).hpr = s.hpr ∧ (rectReply s k x).net = s.net ∧
    (rectReply s k x).app = s.app ∧ (rectReply s k x).flt = s.flt ∧ (rectReply s k x).upd = s.upd ∧
    (rectReply s k x).mem = s.mem ∧ (rectReply s k x).canRam = s.canRam ∧ (rectReply s k x).free = s.free := by
  unfold rectReply; (repeat' split) <;> simp

@[simp] theorem shareLoad_keeps (s : State) (replies : List RectReading) :
    (shareLoad s replies).pending = s.pending ∧ (shareLoad s replies).variant = s.variant ∧
    (shareLoad s replies).clk = s.clk ∧ (shareLoad s replies).unit = s.unit ∧ (shareLoad s replies).str = s.str ∧
    (shareLoad s replies).pwr = s.pwr ∧ (shareLoad s replies).hvi = s.hvi ∧ (shareLoad s replies).hviStr = s.hviStr ∧
    (shareLoad s replies).rings = s.rings ∧ (shareLoad s replies).cee = s.cee ∧ (shareLoad s replies).tpe = s.tpe ∧
    (shareLoad s replies).th = s.th ∧ (shareLoad s replies).bal = s.bal ∧ (shareLoad s replies).dsp = s.dsp ∧
    (shareLoad s replies).conv = s.conv ∧ (shareLoad s replies).phase = s.phase ∧ (shareLoad s replies).gx2 = s.gx2 ∧
    (shareLoad s replies).le = s.le ∧ (shareLoad s replies).saf = s.saf ∧ (shareLoad s replies).red = s.red ∧
    (shareLoad s replies).seq = s.seq ∧ (shareLoad s replies).tsu = s.tsu ∧ (shareLoad s replies).hpr = s.hpr ∧
    (shareLoad s replies).net = s.net ∧ (shareLoad s replies).app = s.app ∧ (shareLoad s replies).icu = s.icu ∧
    (shareLoad s replies).flt = s.flt ∧ (shareLoad s replies).plg = s.plg ∧ (shareLoad s replies).upd = s.upd ∧
    (shareLoad s replies).mem = s.mem ∧ (shareLoad s replies).canRam = s.canRam ∧
    (shareLoad s replies).free = s.free := by
  unfold shareLoad; (repeat' split) <;> simp

@[simp] theorem shedCh_keeps (s : State) (kind n : Nat) :
    (shedCh s kind n).pending = s.pending ∧ (shedCh s kind n).variant = s.variant ∧ (shedCh s kind n).clk = s.clk ∧
    (shedCh s kind n).unit = s.unit ∧ (shedCh s kind n).str = s.str ∧ (shedCh s kind n).pwr = s.pwr ∧
    (shedCh s kind n).hvi = s.hvi ∧ (shedCh s kind n).hviStr = s.hviStr ∧ (shedCh s kind n).rings = s.rings ∧
    (shedCh s kind n).cee = s.cee ∧ (shedCh s kind n).tpe = s.tpe ∧ (shedCh s kind n).th = s.th ∧
    (shedCh s kind n).bal = s.bal ∧ (shedCh s kind n).dsp = s.dsp ∧ (shedCh s kind n).conv = s.conv ∧
    (shedCh s kind n).phase = s.phase ∧ (shedCh s kind n).gx2 = s.gx2 ∧ (shedCh s kind n).le = s.le ∧
    (shedCh s kind n).saf = s.saf ∧ (shedCh s kind n).red = s.red ∧ (shedCh s kind n).seq = s.seq ∧
    (shedCh s kind n).tsu = s.tsu ∧ (shedCh s kind n).hpr = s.hpr ∧ (shedCh s kind n).net = s.net ∧
    (shedCh s kind n).app = s.app ∧ (shedCh s kind n).icu = s.icu ∧ (shedCh s kind n).flt = s.flt ∧
    (shedCh s kind n).plg = s.plg ∧ (shedCh s kind n).upd = s.upd ∧ (shedCh s kind n).mem = s.mem ∧
    (shedCh s kind n).canRam = s.canRam ∧ (shedCh s kind n).free = s.free := by
  unfold shedCh; (repeat' split) <;> simp

@[simp] theorem shedClass_keeps (s : State) (kind c : Nat) :
    (shedClass s kind c).pending = s.pending ∧ (shedClass s kind c).variant = s.variant ∧
    (shedClass s kind c).clk = s.clk ∧ (shedClass s kind c).unit = s.unit ∧ (shedClass s kind c).str = s.str ∧
    (shedClass s kind c).pwr = s.pwr ∧ (shedClass s kind c).hvi = s.hvi ∧ (shedClass s kind c).hviStr = s.hviStr ∧
    (shedClass s kind c).rings = s.rings ∧ (shedClass s kind c).cee = s.cee ∧ (shedClass s kind c).tpe = s.tpe ∧
    (shedClass s kind c).th = s.th ∧ (shedClass s kind c).bal = s.bal ∧ (shedClass s kind c).dsp = s.dsp ∧
    (shedClass s kind c).conv = s.conv ∧ (shedClass s kind c).phase = s.phase ∧ (shedClass s kind c).gx2 = s.gx2 ∧
    (shedClass s kind c).le = s.le ∧ (shedClass s kind c).saf = s.saf ∧ (shedClass s kind c).red = s.red ∧
    (shedClass s kind c).seq = s.seq ∧ (shedClass s kind c).tsu = s.tsu ∧ (shedClass s kind c).hpr = s.hpr ∧
    (shedClass s kind c).net = s.net ∧ (shedClass s kind c).app = s.app ∧ (shedClass s kind c).icu = s.icu ∧
    (shedClass s kind c).flt = s.flt ∧ (shedClass s kind c).plg = s.plg ∧ (shedClass s kind c).upd = s.upd ∧
    (shedClass s kind c).mem = s.mem ∧ (shedClass s kind c).canRam = s.canRam ∧ (shedClass s kind c).free = s.free := by
  unfold shedClass; (repeat' split) <;> simp

@[simp] theorem shedFans_keeps (s : State) :
    (shedFans s).pending = s.pending ∧ (shedFans s).variant = s.variant ∧ (shedFans s).clk = s.clk ∧
    (shedFans s).unit = s.unit ∧ (shedFans s).str = s.str ∧ (shedFans s).pwr = s.pwr ∧ (shedFans s).hvi = s.hvi ∧
    (shedFans s).hviStr = s.hviStr ∧ (shedFans s).rings = s.rings ∧ (shedFans s).cee = s.cee ∧
    (shedFans s).tpe = s.tpe ∧ (shedFans s).th = s.th ∧ (shedFans s).bal = s.bal ∧ (shedFans s).dsp = s.dsp ∧
    (shedFans s).conv = s.conv ∧ (shedFans s).phase = s.phase ∧ (shedFans s).gx2 = s.gx2 ∧ (shedFans s).le = s.le ∧
    (shedFans s).saf = s.saf ∧ (shedFans s).red = s.red ∧ (shedFans s).seq = s.seq ∧ (shedFans s).tsu = s.tsu ∧
    (shedFans s).hpr = s.hpr ∧ (shedFans s).net = s.net ∧ (shedFans s).app = s.app ∧ (shedFans s).icu = s.icu ∧
    (shedFans s).flt = s.flt ∧ (shedFans s).plg = s.plg ∧ (shedFans s).upd = s.upd ∧ (shedFans s).mem = s.mem ∧
    (shedFans s).canRam = s.canRam ∧ (shedFans s).free = s.free := by
  unfold shedFans; (repeat' split) <;> simp

@[simp] theorem efStart_keeps (s : State) (n : Nat) :
    (efStart s n).pending = s.pending ∧ (efStart s n).variant = s.variant ∧ (efStart s n).clk = s.clk ∧
    (efStart s n).unit = s.unit ∧ (efStart s n).str = s.str ∧ (efStart s n).pwr = s.pwr ∧ (efStart s n).hvi = s.hvi ∧
    (efStart s n).hviStr = s.hviStr ∧ (efStart s n).rings = s.rings ∧ (efStart s n).cee = s.cee ∧
    (efStart s n).tpe = s.tpe ∧ (efStart s n).th = s.th ∧ (efStart s n).bal = s.bal ∧ (efStart s n).dsp = s.dsp ∧
    (efStart s n).conv = s.conv ∧ (efStart s n).phase = s.phase ∧ (efStart s n).gx2 = s.gx2 ∧
    (efStart s n).le = s.le ∧ (efStart s n).saf = s.saf ∧ (efStart s n).red = s.red ∧ (efStart s n).seq = s.seq ∧
    (efStart s n).tsu = s.tsu ∧ (efStart s n).hpr = s.hpr ∧ (efStart s n).net = s.net ∧ (efStart s n).app = s.app ∧
    (efStart s n).icu = s.icu ∧ (efStart s n).flt = s.flt ∧ (efStart s n).plg = s.plg ∧ (efStart s n).upd = s.upd ∧
    (efStart s n).mem = s.mem ∧ (efStart s n).canRam = s.canRam ∧ (efStart s n).free = s.free := by
  unfold efStart; (repeat' split) <;> simp

@[simp] theorem acSources_keeps (s : State) :
    (acSources s).pending = s.pending ∧ (acSources s).variant = s.variant ∧ (acSources s).clk = s.clk ∧
    (acSources s).unit = s.unit ∧ (acSources s).str = s.str ∧ (acSources s).pwr = s.pwr ∧ (acSources s).hvi = s.hvi ∧
    (acSources s).hviStr = s.hviStr ∧ (acSources s).rings = s.rings ∧ (acSources s).cee = s.cee ∧
    (acSources s).tpe = s.tpe ∧ (acSources s).th = s.th ∧ (acSources s).bal = s.bal ∧ (acSources s).dsp = s.dsp ∧
    (acSources s).conv = s.conv ∧ (acSources s).phase = s.phase ∧ (acSources s).gx2 = s.gx2 ∧
    (acSources s).le = s.le ∧ (acSources s).saf = s.saf ∧ (acSources s).red = s.red ∧ (acSources s).rack = s.rack ∧
    (acSources s).seq = s.seq ∧ (acSources s).tsu = s.tsu ∧ (acSources s).hpr = s.hpr ∧ (acSources s).net = s.net ∧
    (acSources s).app = s.app ∧ (acSources s).flt = s.flt ∧ (acSources s).plg = s.plg ∧ (acSources s).upd = s.upd ∧
    (acSources s).mem = s.mem ∧ (acSources s).canRam = s.canRam ∧ (acSources s).free = s.free := by
  unfold acSources; (repeat' split) <;> simp

@[simp] theorem efFault_keeps (s : State) (n : Nat) (f : EfFault) :
    (efFault s n f).pending = s.pending ∧ (efFault s n f).variant = s.variant ∧ (efFault s n f).clk = s.clk ∧
    (efFault s n f).unit = s.unit ∧ (efFault s n f).str = s.str ∧ (efFault s n f).pwr = s.pwr ∧
    (efFault s n f).hvi = s.hvi ∧ (efFault s n f).hviStr = s.hviStr ∧ (efFault s n f).rings = s.rings ∧
    (efFault s n f).cee = s.cee ∧ (efFault s n f).tpe = s.tpe ∧ (efFault s n f).th = s.th ∧
    (efFault s n f).bal = s.bal ∧ (efFault s n f).dsp = s.dsp ∧ (efFault s n f).conv = s.conv ∧
    (efFault s n f).phase = s.phase ∧ (efFault s n f).gx2 = s.gx2 ∧ (efFault s n f).le = s.le ∧
    (efFault s n f).saf = s.saf ∧ (efFault s n f).red = s.red ∧ (efFault s n f).seq = s.seq ∧
    (efFault s n f).tsu = s.tsu ∧ (efFault s n f).hpr = s.hpr ∧ (efFault s n f).net = s.net ∧
    (efFault s n f).app = s.app ∧ (efFault s n f).flt = s.flt ∧ (efFault s n f).upd = s.upd ∧
    (efFault s n f).mem = s.mem ∧ (efFault s n f).canRam = s.canRam ∧ (efFault s n f).free = s.free := by
  unfold efFault; (repeat' split) <;> simp

@[simp] theorem gateFault_keeps (s : State) (n : Nat) :
    (gateFault s n).pending = s.pending ∧ (gateFault s n).variant = s.variant ∧ (gateFault s n).clk = s.clk ∧
    (gateFault s n).unit = s.unit ∧ (gateFault s n).str = s.str ∧ (gateFault s n).pwr = s.pwr ∧
    (gateFault s n).hvi = s.hvi ∧ (gateFault s n).hviStr = s.hviStr ∧ (gateFault s n).rings = s.rings ∧
    (gateFault s n).cee = s.cee ∧ (gateFault s n).tpe = s.tpe ∧ (gateFault s n).th = s.th ∧
    (gateFault s n).bal = s.bal ∧ (gateFault s n).dsp = s.dsp ∧ (gateFault s n).conv = s.conv ∧
    (gateFault s n).phase = s.phase ∧ (gateFault s n).gx2 = s.gx2 ∧ (gateFault s n).le = s.le ∧
    (gateFault s n).saf = s.saf ∧ (gateFault s n).red = s.red ∧ (gateFault s n).seq = s.seq ∧
    (gateFault s n).tsu = s.tsu ∧ (gateFault s n).hpr = s.hpr ∧ (gateFault s n).net = s.net ∧
    (gateFault s n).app = s.app ∧ (gateFault s n).upd = s.upd ∧ (gateFault s n).mem = s.mem ∧
    (gateFault s n).canRam = s.canRam ∧ (gateFault s n).free = s.free := by
  unfold gateFault; (repeat' split) <;> simp

@[simp] theorem setFan_keeps (s : State) (f d : Nat) :
    (setFan s f d).pending = s.pending ∧ (setFan s f d).variant = s.variant ∧ (setFan s f d).clk = s.clk ∧
    (setFan s f d).unit = s.unit ∧ (setFan s f d).str = s.str ∧ (setFan s f d).pwr = s.pwr ∧
    (setFan s f d).hvi = s.hvi ∧ (setFan s f d).hviStr = s.hviStr ∧ (setFan s f d).rings = s.rings ∧
    (setFan s f d).cee = s.cee ∧ (setFan s f d).tpe = s.tpe ∧ (setFan s f d).th = s.th ∧ (setFan s f d).bal = s.bal ∧
    (setFan s f d).dsp = s.dsp ∧ (setFan s f d).conv = s.conv ∧ (setFan s f d).phase = s.phase ∧
    (setFan s f d).gx2 = s.gx2 ∧ (setFan s f d).le = s.le ∧ (setFan s f d).saf = s.saf ∧ (setFan s f d).red = s.red ∧
    (setFan s f d).seq = s.seq ∧ (setFan s f d).tsu = s.tsu ∧ (setFan s f d).hpr = s.hpr ∧
    (setFan s f d).net = s.net ∧ (setFan s f d).app = s.app ∧ (setFan s f d).icu = s.icu ∧
    (setFan s f d).flt = s.flt ∧ (setFan s f d).plg = s.plg ∧ (setFan s f d).upd = s.upd ∧
    (setFan s f d).mem = s.mem ∧ (setFan s f d).canRam = s.canRam ∧ (setFan s f d).free = s.free := by
  unfold setFan; (repeat' split) <;> simp

@[simp] theorem storeEf_keeps (s : State) (p : Bytes) :
    (storeEf s p).pending = s.pending ∧ (storeEf s p).variant = s.variant ∧ (storeEf s p).clk = s.clk ∧
    (storeEf s p).unit = s.unit ∧ (storeEf s p).str = s.str ∧ (storeEf s p).pwr = s.pwr ∧ (storeEf s p).hvi = s.hvi ∧
    (storeEf s p).hviStr = s.hviStr ∧ (storeEf s p).rings = s.rings ∧ (storeEf s p).cee = s.cee ∧
    (storeEf s p).tpe = s.tpe ∧ (storeEf s p).th = s.th ∧ (storeEf s p).bal = s.bal ∧ (storeEf s p).dsp = s.dsp ∧
    (storeEf s p).conv = s.conv ∧ (storeEf s p).phase = s.phase ∧ (storeEf s p).gx2 = s.gx2 ∧
    (storeEf s p).le = s.le ∧ (storeEf s p).saf = s.saf ∧ (storeEf s p).red = s.red ∧ (storeEf s p).seq = s.seq ∧
    (storeEf s p).tsu = s.tsu ∧ (storeEf s p).hpr = s.hpr ∧ (storeEf s p).net = s.net ∧ (storeEf s p).app = s.app ∧
    (storeEf s p).icu = s.icu ∧ (storeEf s p).flt = s.flt ∧ (storeEf s p).plg = s.plg ∧ (storeEf s p).upd = s.upd ∧
    (storeEf s p).mem = s.mem ∧ (storeEf s p).canRam = s.canRam ∧ (storeEf s p).free = s.free := by
  unfold storeEf; (repeat' split) <;> simp

@[simp] theorem efOff_keeps (s : State) (n : Nat) :
    (efOff s n).pending = s.pending ∧ (efOff s n).variant = s.variant ∧ (efOff s n).clk = s.clk ∧
    (efOff s n).unit = s.unit ∧ (efOff s n).str = s.str ∧ (efOff s n).pwr = s.pwr ∧ (efOff s n).hvi = s.hvi ∧
    (efOff s n).hviStr = s.hviStr ∧ (efOff s n).rings = s.rings ∧ (efOff s n).cee = s.cee ∧ (efOff s n).tpe = s.tpe ∧
    (efOff s n).th = s.th ∧ (efOff s n).bal = s.bal ∧ (efOff s n).dsp = s.dsp ∧ (efOff s n).conv = s.conv ∧
    (efOff s n).phase = s.phase ∧ (efOff s n).gx2 = s.gx2 ∧ (efOff s n).le = s.le ∧ (efOff s n).saf = s.saf ∧
    (efOff s n).red = s.red ∧ (efOff s n).seq = s.seq ∧ (efOff s n).tsu = s.tsu ∧ (efOff s n).hpr = s.hpr ∧
    (efOff s n).net = s.net ∧ (efOff s n).app = s.app ∧ (efOff s n).icu = s.icu ∧ (efOff s n).flt = s.flt ∧
    (efOff s n).plg = s.plg ∧ (efOff s n).upd = s.upd ∧ (efOff s n).mem = s.mem ∧ (efOff s n).canRam = s.canRam ∧
    (efOff s n).free = s.free := by
  unfold efOff; (repeat' split) <;> simp

end Sys2Proof.Machine
end

