-- ==== Sys2Proof/Laws/Loop.lean ====
section
/-! SUPPORT. What the operations of Loop leave alone. -/

namespace Sys2Proof.Machine

@[simp] theorem storeDesc_keeps (s : State) (p : Bytes) :
    (storeDesc s p).pending = s.pending ∧ (storeDesc s p).variant = s.variant ∧ (storeDesc s p).clk = s.clk ∧
    (storeDesc s p).hviStr = s.hviStr ∧ (storeDesc s p).cee = s.cee ∧ (storeDesc s p).tpe = s.tpe ∧
    (storeDesc s p).th = s.th ∧ (storeDesc s p).dsp = s.dsp ∧ (storeDesc s p).gx2 = s.gx2 ∧
    (storeDesc s p).rack = s.rack ∧ (storeDesc s p).seq = s.seq ∧ (storeDesc s p).tsu = s.tsu ∧
    (storeDesc s p).net = s.net ∧ (storeDesc s p).upd = s.upd ∧ (storeDesc s p).canRam = s.canRam ∧
    (storeDesc s p).free = s.free := by
  unfold storeDesc; (repeat' split) <;> simp

@[simp] theorem emptySlot_keeps (s : State) (p : Bytes) :
    (emptySlot s p).pending = s.pending ∧ (emptySlot s p).variant = s.variant ∧ (emptySlot s p).clk = s.clk ∧
    (emptySlot s p).hviStr = s.hviStr ∧ (emptySlot s p).cee = s.cee ∧ (emptySlot s p).tpe = s.tpe ∧
    (emptySlot s p).th = s.th ∧ (emptySlot s p).dsp = s.dsp ∧ (emptySlot s p).gx2 = s.gx2 ∧
    (emptySlot s p).rack = s.rack ∧ (emptySlot s p).seq = s.seq ∧ (emptySlot s p).tsu = s.tsu ∧
    (emptySlot s p).net = s.net ∧ (emptySlot s p).upd = s.upd ∧ (emptySlot s p).canRam = s.canRam ∧
    (emptySlot s p).free = s.free := by
  unfold emptySlot; (repeat' split) <;> simp

@[simp] theorem storeCoef_keeps (s : State) (p : Bytes) :
    (storeCoef s p).pending = s.pending ∧ (storeCoef s p).variant = s.variant ∧ (storeCoef s p).clk = s.clk ∧
    (storeCoef s p).unit = s.unit ∧ (storeCoef s p).str = s.str ∧ (storeCoef s p).pwr = s.pwr ∧
    (storeCoef s p).hvi = s.hvi ∧ (storeCoef s p).hviStr = s.hviStr ∧ (storeCoef s p).rings = s.rings ∧
    (storeCoef s p).cee = s.cee ∧ (storeCoef s p).tpe = s.tpe ∧ (storeCoef s p).th = s.th ∧
    (storeCoef s p).bal = s.bal ∧ (storeCoef s p).dsp = s.dsp ∧ (storeCoef s p).conv = s.conv ∧
    (storeCoef s p).phase = s.phase ∧ (storeCoef s p).gx2 = s.gx2 ∧ (storeCoef s p).saf = s.saf ∧
    (storeCoef s p).red = s.red ∧ (storeCoef s p).rack = s.rack ∧ (storeCoef s p).seq = s.seq ∧
    (storeCoef s p).tsu = s.tsu ∧ (storeCoef s p).hpr = s.hpr ∧ (storeCoef s p).net = s.net ∧
    (storeCoef s p).app = s.app ∧ (storeCoef s p).icu = s.icu ∧ (storeCoef s p).flt = s.flt ∧
    (storeCoef s p).plg = s.plg ∧ (storeCoef s p).upd = s.upd ∧ (storeCoef s p).mem = s.mem ∧
    (storeCoef s p).canRam = s.canRam ∧ (storeCoef s p).free = s.free := by
  unfold storeCoef; (repeat' split) <;> simp

@[simp] theorem storeSwap_keeps (s : State) (p : Bytes) :
    (storeSwap s p).pending = s.pending ∧ (storeSwap s p).variant = s.variant ∧ (storeSwap s p).clk = s.clk ∧
    (storeSwap s p).unit = s.unit ∧ (storeSwap s p).str = s.str ∧ (storeSwap s p).pwr = s.pwr ∧
    (storeSwap s p).hvi = s.hvi ∧ (storeSwap s p).hviStr = s.hviStr ∧ (storeSwap s p).rings = s.rings ∧
    (storeSwap s p).cee = s.cee ∧ (storeSwap s p).tpe = s.tpe ∧ (storeSwap s p).th = s.th ∧
    (storeSwap s p).bal = s.bal ∧ (storeSwap s p).dsp = s.dsp ∧ (storeSwap s p).conv = s.conv ∧
    (storeSwap s p).phase = s.phase ∧ (storeSwap s p).gx2 = s.gx2 ∧ (storeSwap s p).saf = s.saf ∧
    (storeSwap s p).red = s.red ∧ (storeSwap s p).rack = s.rack ∧ (storeSwap s p).seq = s.seq ∧
    (storeSwap s p).tsu = s.tsu ∧ (storeSwap s p).hpr = s.hpr ∧ (storeSwap s p).net = s.net ∧
    (storeSwap s p).app = s.app ∧ (storeSwap s p).icu = s.icu ∧ (storeSwap s p).flt = s.flt ∧
    (storeSwap s p).plg = s.plg ∧ (storeSwap s p).upd = s.upd ∧ (storeSwap s p).mem = s.mem ∧
    (storeSwap s p).canRam = s.canRam ∧ (storeSwap s p).free = s.free := by
  unfold storeSwap; (repeat' split) <;> simp

@[simp] theorem storeLut_keeps (s : State) (p : Bytes) :
    (storeLut s p).pending = s.pending ∧ (storeLut s p).variant = s.variant ∧ (storeLut s p).clk = s.clk ∧
    (storeLut s p).unit = s.unit ∧ (storeLut s p).str = s.str ∧ (storeLut s p).pwr = s.pwr ∧
    (storeLut s p).hvi = s.hvi ∧ (storeLut s p).hviStr = s.hviStr ∧ (storeLut s p).rings = s.rings ∧
    (storeLut s p).cee = s.cee ∧ (storeLut s p).tpe = s.tpe ∧ (storeLut s p).th = s.th ∧ (storeLut s p).bal = s.bal ∧
    (storeLut s p).dsp = s.dsp ∧ (storeLut s p).conv = s.conv ∧ (storeLut s p).phase = s.phase ∧
    (storeLut s p).gx2 = s.gx2 ∧ (storeLut s p).saf = s.saf ∧ (storeLut s p).red = s.red ∧
    (storeLut s p).rack = s.rack ∧ (storeLut s p).seq = s.seq ∧ (storeLut s p).tsu = s.tsu ∧
    (storeLut s p).hpr = s.hpr ∧ (storeLut s p).net = s.net ∧ (storeLut s p).app = s.app ∧
    (storeLut s p).icu = s.icu ∧ (storeLut s p).flt = s.flt ∧ (storeLut s p).plg = s.plg ∧
    (storeLut s p).upd = s.upd ∧ (storeLut s p).mem = s.mem ∧ (storeLut s p).canRam = s.canRam ∧
    (storeLut s p).free = s.free := by
  unfold storeLut; (repeat' split) <;> simp

@[simp] theorem storeParam_keeps (s : State) (p : Bytes) :
    (storeParam s p).pending = s.pending ∧ (storeParam s p).variant = s.variant ∧ (storeParam s p).clk = s.clk ∧
    (storeParam s p).unit = s.unit ∧ (storeParam s p).str = s.str ∧ (storeParam s p).pwr = s.pwr ∧
    (storeParam s p).hvi = s.hvi ∧ (storeParam s p).hviStr = s.hviStr ∧ (storeParam s p).rings = s.rings ∧
    (storeParam s p).cee = s.cee ∧ (storeParam s p).tpe = s.tpe ∧ (storeParam s p).th = s.th ∧
    (storeParam s p).bal = s.bal ∧ (storeParam s p).dsp = s.dsp ∧ (storeParam s p).conv = s.conv ∧
    (storeParam s p).phase = s.phase ∧ (storeParam s p).gx2 = s.gx2 ∧ (storeParam s p).saf = s.saf ∧
    (storeParam s p).red = s.red ∧ (storeParam s p).rack = s.rack ∧ (storeParam s p).seq = s.seq ∧
    (storeParam s p).tsu = s.tsu ∧ (storeParam s p).hpr = s.hpr ∧ (storeParam s p).net = s.net ∧
    (storeParam s p).app = s.app ∧ (storeParam s p).icu = s.icu ∧ (storeParam s p).flt = s.flt ∧
    (storeParam s p).plg = s.plg ∧ (storeParam s p).upd = s.upd ∧ (storeParam s p).mem = s.mem ∧
    (storeParam s p).canRam = s.canRam ∧ (storeParam s p).free = s.free := by
  unfold storeParam; (repeat' split) <;> simp

@[simp] theorem writeDst_keeps (s : State) (dst : Nat) (v : Int) :
    (writeDst s dst v).pending = s.pending ∧ (writeDst s dst v).variant = s.variant ∧
    (writeDst s dst v).clk = s.clk ∧ (writeDst s dst v).unit = s.unit ∧ (writeDst s dst v).str = s.str ∧
    (writeDst s dst v).pwr = s.pwr ∧ (writeDst s dst v).hvi = s.hvi ∧ (writeDst s dst v).hviStr = s.hviStr ∧
    (writeDst s dst v).rings = s.rings ∧ (writeDst s dst v).cee = s.cee ∧ (writeDst s dst v).tpe = s.tpe ∧
    (writeDst s dst v).th = s.th ∧ (writeDst s dst v).bal = s.bal ∧ (writeDst s dst v).dsp = s.dsp ∧
    (writeDst s dst v).conv = s.conv ∧ (writeDst s dst v).gx2 = s.gx2 ∧ (writeDst s dst v).saf = s.saf ∧
    (writeDst s dst v).red = s.red ∧ (writeDst s dst v).rack = s.rack ∧ (writeDst s dst v).seq = s.seq ∧
    (writeDst s dst v).tsu = s.tsu ∧ (writeDst s dst v).hpr = s.hpr ∧ (writeDst s dst v).net = s.net ∧
    (writeDst s dst v).app = s.app ∧ (writeDst s dst v).icu = s.icu ∧ (writeDst s dst v).flt = s.flt ∧
    (writeDst s dst v).plg = s.plg ∧ (writeDst s dst v).upd = s.upd ∧ (writeDst s dst v).mem = s.mem ∧
    (writeDst s dst v).canRam = s.canRam ∧ (writeDst s dst v).free = s.free := by
  unfold writeDst; (repeat' split) <;> simp

@[simp] theorem slewRef_keeps (s : State) (i : Nat) :
    (slewRef s i).pending = s.pending ∧ (slewRef s i).variant = s.variant ∧ (slewRef s i).clk = s.clk ∧
    (slewRef s i).unit = s.unit ∧ (slewRef s i).str = s.str ∧ (slewRef s i).pwr = s.pwr ∧ (slewRef s i).hvi = s.hvi ∧
    (slewRef s i).hviStr = s.hviStr ∧ (slewRef s i).rings = s.rings ∧ (slewRef s i).cee = s.cee ∧
    (slewRef s i).tpe = s.tpe ∧ (slewRef s i).th = s.th ∧ (slewRef s i).bal = s.bal ∧ (slewRef s i).dsp = s.dsp ∧
    (slewRef s i).phase = s.phase ∧ (slewRef s i).gx2 = s.gx2 ∧ (slewRef s i).le = s.le ∧ (slewRef s i).saf = s.saf ∧
    (slewRef s i).red = s.red ∧ (slewRef s i).rack = s.rack ∧ (slewRef s i).seq = s.seq ∧ (slewRef s i).tsu = s.tsu ∧
    (slewRef s i).hpr = s.hpr ∧ (slewRef s i).net = s.net ∧ (slewRef s i).app = s.app ∧ (slewRef s i).icu = s.icu ∧
    (slewRef s i).flt = s.flt ∧ (slewRef s i).plg = s.plg ∧ (slewRef s i).upd = s.upd ∧ (slewRef s i).mem = s.mem ∧
    (slewRef s i).canRam = s.canRam ∧ (slewRef s i).free = s.free := by
  unfold slewRef; (repeat' split) <;> simp

@[simp] theorem capture_keeps (n : Nat) (catchUp : Bool) (flags : Nat) (nodes : List Int) (s : State) (k : Nat) :
    (capture n catchUp flags nodes s k).pending = s.pending ∧
    (capture n catchUp flags nodes s k).variant = s.variant ∧ (capture n catchUp flags nodes s k).clk = s.clk ∧
    (capture n catchUp flags nodes s k).unit = s.unit ∧ (capture n catchUp flags nodes s k).str = s.str ∧
    (capture n catchUp flags nodes s k).pwr = s.pwr ∧ (capture n catchUp flags nodes s k).hvi = s.hvi ∧
    (capture n catchUp flags nodes s k).hviStr = s.hviStr ∧ (capture n catchUp flags nodes s k).rings = s.rings ∧
    (capture n catchUp flags nodes s k).cee = s.cee ∧ (capture n catchUp flags nodes s k).tpe = s.tpe ∧
    (capture n catchUp flags nodes s k).th = s.th ∧ (capture n catchUp flags nodes s k).bal = s.bal ∧
    (capture n catchUp flags nodes s k).dsp = s.dsp ∧ (capture n catchUp flags nodes s k).conv = s.conv ∧
    (capture n catchUp flags nodes s k).phase = s.phase ∧ (capture n catchUp flags nodes s k).gx2 = s.gx2 ∧
    (capture n catchUp flags nodes s k).saf = s.saf ∧ (capture n catchUp flags nodes s k).red = s.red ∧
    (capture n catchUp flags nodes s k).rack = s.rack ∧ (capture n catchUp flags nodes s k).seq = s.seq ∧
    (capture n catchUp flags nodes s k).tsu = s.tsu ∧ (capture n catchUp flags nodes s k).hpr = s.hpr ∧
    (capture n catchUp flags nodes s k).net = s.net ∧ (capture n catchUp flags nodes s k).app = s.app ∧
    (capture n catchUp flags nodes s k).icu = s.icu ∧ (capture n catchUp flags nodes s k).flt = s.flt ∧
    (capture n catchUp flags nodes s k).plg = s.plg ∧ (capture n catchUp flags nodes s k).upd = s.upd ∧
    (capture n catchUp flags nodes s k).mem = s.mem ∧ (capture n catchUp flags nodes s k).canRam = s.canRam ∧
    (capture n catchUp flags nodes s k).free = s.free := by
  unfold capture; (repeat' split) <;> simp

@[simp] theorem slotPeriod_keeps (s : State) (n cycles : Nat) (late : Bool) :
    (slotPeriod s n cycles late).pending = s.pending ∧ (slotPeriod s n cycles late).variant = s.variant ∧
    (slotPeriod s n cycles late).clk = s.clk ∧ (slotPeriod s n cycles late).unit = s.unit ∧
    (slotPeriod s n cycles late).str = s.str ∧ (slotPeriod s n cycles late).pwr = s.pwr ∧
    (slotPeriod s n cycles late).hvi = s.hvi ∧ (slotPeriod s n cycles late).hviStr = s.hviStr ∧
    (slotPeriod s n cycles late).rings = s.rings ∧ (slotPeriod s n cycles late).cee = s.cee ∧
    (slotPeriod s n cycles late).tpe = s.tpe ∧ (slotPeriod s n cycles late).th = s.th ∧
    (slotPeriod s n cycles late).bal = s.bal ∧ (slotPeriod s n cycles late).dsp = s.dsp ∧
    (slotPeriod s n cycles late).gx2 = s.gx2 ∧ (slotPeriod s n cycles late).saf = s.saf ∧
    (slotPeriod s n cycles late).red = s.red ∧ (slotPeriod s n cycles late).rack = s.rack ∧
    (slotPeriod s n cycles late).seq = s.seq ∧ (slotPeriod s n cycles late).tsu = s.tsu ∧
    (slotPeriod s n cycles late).hpr = s.hpr ∧ (slotPeriod s n cycles late).net = s.net ∧
    (slotPeriod s n cycles late).app = s.app ∧ (slotPeriod s n cycles late).icu = s.icu ∧
    (slotPeriod s n cycles late).flt = s.flt ∧ (slotPeriod s n cycles late).plg = s.plg ∧
    (slotPeriod s n cycles late).upd = s.upd ∧ (slotPeriod s n cycles late).mem = s.mem ∧
    (slotPeriod s n cycles late).canRam = s.canRam ∧ (slotPeriod s n cycles late).free = s.free := by
  unfold slotPeriod; (repeat' split) <;> simp

@[simp] theorem onProbes_keeps (s : State) (mask : Nat) (f : Probe → Probe) :
    (onProbes s mask f).pending = s.pending ∧ (onProbes s mask f).variant = s.variant ∧
    (onProbes s mask f).clk = s.clk ∧ (onProbes s mask f).unit = s.unit ∧ (onProbes s mask f).str = s.str ∧
    (onProbes s mask f).pwr = s.pwr ∧ (onProbes s mask f).hvi = s.hvi ∧ (onProbes s mask f).hviStr = s.hviStr ∧
    (onProbes s mask f).rings = s.rings ∧ (onProbes s mask f).cee = s.cee ∧ (onProbes s mask f).tpe = s.tpe ∧
    (onProbes s mask f).th = s.th ∧ (onProbes s mask f).bal = s.bal ∧ (onProbes s mask f).dsp = s.dsp ∧
    (onProbes s mask f).conv = s.conv ∧ (onProbes s mask f).phase = s.phase ∧ (onProbes s mask f).gx2 = s.gx2 ∧
    (onProbes s mask f).saf = s.saf ∧ (onProbes s mask f).red = s.red ∧ (onProbes s mask f).rack = s.rack ∧
    (onProbes s mask f).seq = s.seq ∧ (onProbes s mask f).tsu = s.tsu ∧ (onProbes s mask f).hpr = s.hpr ∧
    (onProbes s mask f).net = s.net ∧ (onProbes s mask f).app = s.app ∧ (onProbes s mask f).icu = s.icu ∧
    (onProbes s mask f).flt = s.flt ∧ (onProbes s mask f).plg = s.plg ∧ (onProbes s mask f).upd = s.upd ∧
    (onProbes s mask f).mem = s.mem ∧ (onProbes s mask f).canRam = s.canRam ∧ (onProbes s mask f).free = s.free := by
  unfold onProbes; (repeat' split) <;> simp

end Sys2Proof.Machine
end

