-- ==== Sys2Proof/Laws/Channels.lean ====
section
/-! SUPPORT. What the operations of Channels leave alone. -/

namespace Sys2Proof.Machine

@[simp] theorem latchString_keeps (s : State) (i cause : Nat) :
    (latchString s i cause).pending = s.pending ∧ (latchString s i cause).variant = s.variant ∧
    (latchString s i cause).clk = s.clk ∧ (latchString s i cause).unit = s.unit ∧
    (latchString s i cause).hvi = s.hvi ∧ (latchString s i cause).hviStr = s.hviStr ∧
    (latchString s i cause).cee = s.cee ∧ (latchString s i cause).tpe = s.tpe ∧ (latchString s i cause).th = s.th ∧
    (latchString s i cause).dsp = s.dsp ∧ (latchString s i cause).gx2 = s.gx2 ∧ (latchString s i cause).le = s.le ∧
    (latchString s i cause).red = s.red ∧ (latchString s i cause).rack = s.rack ∧
    (latchString s i cause).seq = s.seq ∧ (latchString s i cause).tsu = s.tsu ∧ (latchString s i cause).net = s.net ∧
    (latchString s i cause).app = s.app ∧ (latchString s i cause).flt = s.flt ∧ (latchString s i cause).upd = s.upd ∧
    (latchString s i cause).canRam = s.canRam ∧ (latchString s i cause).free = s.free := by
  unfold latchString; (repeat' split) <;> simp

@[simp] theorem trip_keeps (s : State) (c : Channel) (i : Nat) (f : SafetyFn) :
    (trip s c i f).pending = s.pending ∧ (trip s c i f).variant = s.variant ∧ (trip s c i f).clk = s.clk ∧
    (trip s c i f).unit = s.unit ∧ (trip s c i f).hvi = s.hvi ∧ (trip s c i f).hviStr = s.hviStr ∧
    (trip s c i f).cee = s.cee ∧ (trip s c i f).tpe = s.tpe ∧ (trip s c i f).th = s.th ∧ (trip s c i f).dsp = s.dsp ∧
    (trip s c i f).gx2 = s.gx2 ∧ (trip s c i f).le = s.le ∧ (trip s c i f).red = s.red ∧
    (trip s c i f).rack = s.rack ∧ (trip s c i f).seq = s.seq ∧ (trip s c i f).tsu = s.tsu ∧
    (trip s c i f).net = s.net ∧ (trip s c i f).app = s.app ∧ (trip s c i f).flt = s.flt ∧
    (trip s c i f).upd = s.upd ∧ (trip s c i f).canRam = s.canRam ∧ (trip s c i f).free = s.free := by
  unfold trip; (repeat' split) <;> simp

@[simp] theorem tripBoth_keeps (s : State) (i : Nat) (f : SafetyFn) :
    (tripBoth s i f).pending = s.pending ∧ (tripBoth s i f).variant = s.variant ∧ (tripBoth s i f).clk = s.clk ∧
    (tripBoth s i f).unit = s.unit ∧ (tripBoth s i f).hvi = s.hvi ∧ (tripBoth s i f).hviStr = s.hviStr ∧
    (tripBoth s i f).cee = s.cee ∧ (tripBoth s i f).tpe = s.tpe ∧ (tripBoth s i f).th = s.th ∧
    (tripBoth s i f).dsp = s.dsp ∧ (tripBoth s i f).gx2 = s.gx2 ∧ (tripBoth s i f).le = s.le ∧
    (tripBoth s i f).red = s.red ∧ (tripBoth s i f).rack = s.rack ∧ (tripBoth s i f).seq = s.seq ∧
    (tripBoth s i f).tsu = s.tsu ∧ (tripBoth s i f).net = s.net ∧ (tripBoth s i f).app = s.app ∧
    (tripBoth s i f).flt = s.flt ∧ (tripBoth s i f).upd = s.upd ∧ (tripBoth s i f).canRam = s.canRam ∧
    (tripBoth s i f).free = s.free := by
  unfold tripBoth; (repeat' split) <;> simp

@[simp] theorem requestClose_keeps (s : State) (i : Nat) (coils : BitVec 4) :
    (requestClose s i coils).pending = s.pending ∧ (requestClose s i coils).variant = s.variant ∧
    (requestClose s i coils).clk = s.clk ∧ (requestClose s i coils).unit = s.unit ∧
    (requestClose s i coils).str = s.str ∧ (requestClose s i coils).pwr = s.pwr ∧
    (requestClose s i coils).hvi = s.hvi ∧ (requestClose s i coils).hviStr = s.hviStr ∧
    (requestClose s i coils).rings = s.rings ∧ (requestClose s i coils).cee = s.cee ∧
    (requestClose s i coils).tpe = s.tpe ∧ (requestClose s i coils).th = s.th ∧
    (requestClose s i coils).bal = s.bal ∧ (requestClose s i coils).dsp = s.dsp ∧
    (requestClose s i coils).conv = s.conv ∧ (requestClose s i coils).phase = s.phase ∧
    (requestClose s i coils).gx2 = s.gx2 ∧ (requestClose s i coils).le = s.le ∧
    (requestClose s i coils).red = s.red ∧ (requestClose s i coils).rack = s.rack ∧
    (requestClose s i coils).seq = s.seq ∧ (requestClose s i coils).tsu = s.tsu ∧
    (requestClose s i coils).hpr = s.hpr ∧ (requestClose s i coils).net = s.net ∧
    (requestClose s i coils).app = s.app ∧ (requestClose s i coils).icu = s.icu ∧
    (requestClose s i coils).flt = s.flt ∧ (requestClose s i coils).plg = s.plg ∧
    (requestClose s i coils).upd = s.upd ∧ (requestClose s i coils).mem = s.mem ∧
    (requestClose s i coils).canRam = s.canRam ∧ (requestClose s i coils).free = s.free := by
  unfold requestClose; (repeat' split) <;> simp

@[simp] theorem grantClose_keeps (s : State) (i : Nat) (coils : BitVec 4) (c : Channel) :
    (grantClose s i coils c).pending = s.pending ∧ (grantClose s i coils c).variant = s.variant ∧
    (grantClose s i coils c).clk = s.clk ∧ (grantClose s i coils c).unit = s.unit ∧
    (grantClose s i coils c).str = s.str ∧ (grantClose s i coils c).pwr = s.pwr ∧
    (grantClose s i coils c).hvi = s.hvi ∧ (grantClose s i coils c).hviStr = s.hviStr ∧
    (grantClose s i coils c).rings = s.rings ∧ (grantClose s i coils c).cee = s.cee ∧
    (grantClose s i coils c).tpe = s.tpe ∧ (grantClose s i coils c).th = s.th ∧
    (grantClose s i coils c).bal = s.bal ∧ (grantClose s i coils c).dsp = s.dsp ∧
    (grantClose s i coils c).conv = s.conv ∧ (grantClose s i coils c).phase = s.phase ∧
    (grantClose s i coils c).gx2 = s.gx2 ∧ (grantClose s i coils c).le = s.le ∧
    (grantClose s i coils c).red = s.red ∧ (grantClose s i coils c).rack = s.rack ∧
    (grantClose s i coils c).seq = s.seq ∧ (grantClose s i coils c).tsu = s.tsu ∧
    (grantClose s i coils c).hpr = s.hpr ∧ (grantClose s i coils c).net = s.net ∧
    (grantClose s i coils c).app = s.app ∧ (grantClose s i coils c).icu = s.icu ∧
    (grantClose s i coils c).flt = s.flt ∧ (grantClose s i coils c).plg = s.plg ∧
    (grantClose s i coils c).upd = s.upd ∧ (grantClose s i coils c).mem = s.mem ∧
    (grantClose s i coils c).canRam = s.canRam ∧ (grantClose s i coils c).free = s.free := by
  unfold grantClose; (repeat' split) <;> simp

@[simp] theorem prechargeFail_keeps (s : State) (i detail : Nat) :
    (prechargeFail s i detail).pending = s.pending ∧ (prechargeFail s i detail).variant = s.variant ∧
    (prechargeFail s i detail).clk = s.clk ∧ (prechargeFail s i detail).unit = s.unit ∧
    (prechargeFail s i detail).hvi = s.hvi ∧ (prechargeFail s i detail).hviStr = s.hviStr ∧
    (prechargeFail s i detail).rings = s.rings ∧ (prechargeFail s i detail).cee = s.cee ∧
    (prechargeFail s i detail).tpe = s.tpe ∧ (prechargeFail s i detail).th = s.th ∧
    (prechargeFail s i detail).bal = s.bal ∧ (prechargeFail s i detail).dsp = s.dsp ∧
    (prechargeFail s i detail).phase = s.phase ∧ (prechargeFail s i detail).gx2 = s.gx2 ∧
    (prechargeFail s i detail).le = s.le ∧ (prechargeFail s i detail).red = s.red ∧
    (prechargeFail s i detail).rack = s.rack ∧ (prechargeFail s i detail).seq = s.seq ∧
    (prechargeFail s i detail).tsu = s.tsu ∧ (prechargeFail s i detail).net = s.net ∧
    (prechargeFail s i detail).app = s.app ∧ (prechargeFail s i detail).flt = s.flt ∧
    (prechargeFail s i detail).upd = s.upd ∧ (prechargeFail s i detail).canRam = s.canRam ∧
    (prechargeFail s i detail).free = s.free := by
  unfold prechargeFail; (repeat' split) <;> simp

@[simp] theorem adoptString_keeps (s : State) (i : Nat) :
    (adoptString s i).pending = s.pending ∧ (adoptString s i).variant = s.variant ∧ (adoptString s i).clk = s.clk ∧
    (adoptString s i).unit = s.unit ∧ (adoptString s i).hvi = s.hvi ∧ (adoptString s i).hviStr = s.hviStr ∧
    (adoptString s i).cee = s.cee ∧ (adoptString s i).tpe = s.tpe ∧ (adoptString s i).th = s.th ∧
    (adoptString s i).dsp = s.dsp ∧ (adoptString s i).gx2 = s.gx2 ∧ (adoptString s i).le = s.le ∧
    (adoptString s i).red = s.red ∧ (adoptString s i).rack = s.rack ∧ (adoptString s i).seq = s.seq ∧
    (adoptString s i).tsu = s.tsu ∧ (adoptString s i).net = s.net ∧ (adoptString s i).app = s.app ∧
    (adoptString s i).flt = s.flt ∧ (adoptString s i).upd = s.upd ∧ (adoptString s i).canRam = s.canRam ∧
    (adoptString s i).free = s.free := by
  unfold adoptString; (repeat' split) <;> simp

@[simp] theorem bkrAssert_keeps (s : State) (c : Channel) :
    (bkrAssert s c).pending = s.pending ∧ (bkrAssert s c).variant = s.variant ∧ (bkrAssert s c).clk = s.clk ∧
    (bkrAssert s c).unit = s.unit ∧ (bkrAssert s c).str = s.str ∧ (bkrAssert s c).pwr = s.pwr ∧
    (bkrAssert s c).hvi = s.hvi ∧ (bkrAssert s c).hviStr = s.hviStr ∧ (bkrAssert s c).rings = s.rings ∧
    (bkrAssert s c).cee = s.cee ∧ (bkrAssert s c).tpe = s.tpe ∧ (bkrAssert s c).th = s.th ∧
    (bkrAssert s c).bal = s.bal ∧ (bkrAssert s c).dsp = s.dsp ∧ (bkrAssert s c).conv = s.conv ∧
    (bkrAssert s c).phase = s.phase ∧ (bkrAssert s c).gx2 = s.gx2 ∧ (bkrAssert s c).le = s.le ∧
    (bkrAssert s c).red = s.red ∧ (bkrAssert s c).rack = s.rack ∧ (bkrAssert s c).seq = s.seq ∧
    (bkrAssert s c).tsu = s.tsu ∧ (bkrAssert s c).hpr = s.hpr ∧ (bkrAssert s c).net = s.net ∧
    (bkrAssert s c).app = s.app ∧ (bkrAssert s c).icu = s.icu ∧ (bkrAssert s c).flt = s.flt ∧
    (bkrAssert s c).plg = s.plg ∧ (bkrAssert s c).upd = s.upd ∧ (bkrAssert s c).mem = s.mem ∧
    (bkrAssert s c).canRam = s.canRam ∧ (bkrAssert s c).free = s.free := by
  unfold bkrAssert; (repeat' split) <;> simp

@[simp] theorem bkrBoth_keeps (s : State) :
    (bkrBoth s).pending = s.pending ∧ (bkrBoth s).variant = s.variant ∧ (bkrBoth s).clk = s.clk ∧
    (bkrBoth s).unit = s.unit ∧ (bkrBoth s).str = s.str ∧ (bkrBoth s).pwr = s.pwr ∧ (bkrBoth s).hvi = s.hvi ∧
    (bkrBoth s).hviStr = s.hviStr ∧ (bkrBoth s).rings = s.rings ∧ (bkrBoth s).cee = s.cee ∧ (bkrBoth s).tpe = s.tpe ∧
    (bkrBoth s).th = s.th ∧ (bkrBoth s).bal = s.bal ∧ (bkrBoth s).dsp = s.dsp ∧ (bkrBoth s).conv = s.conv ∧
    (bkrBoth s).phase = s.phase ∧ (bkrBoth s).gx2 = s.gx2 ∧ (bkrBoth s).le = s.le ∧ (bkrBoth s).red = s.red ∧
    (bkrBoth s).rack = s.rack ∧ (bkrBoth s).seq = s.seq ∧ (bkrBoth s).tsu = s.tsu ∧ (bkrBoth s).hpr = s.hpr ∧
    (bkrBoth s).net = s.net ∧ (bkrBoth s).app = s.app ∧ (bkrBoth s).icu = s.icu ∧ (bkrBoth s).flt = s.flt ∧
    (bkrBoth s).plg = s.plg ∧ (bkrBoth s).upd = s.upd ∧ (bkrBoth s).mem = s.mem ∧ (bkrBoth s).canRam = s.canRam ∧
    (bkrBoth s).free = s.free := by
  unfold bkrBoth; (repeat' split) <;> simp

@[simp] theorem weldPulseStep_keeps (s : State) (i : Nat) :
    (weldPulseStep s i).pending = s.pending ∧ (weldPulseStep s i).variant = s.variant ∧
    (weldPulseStep s i).clk = s.clk ∧ (weldPulseStep s i).unit = s.unit ∧ (weldPulseStep s i).str = s.str ∧
    (weldPulseStep s i).pwr = s.pwr ∧ (weldPulseStep s i).hvi = s.hvi ∧ (weldPulseStep s i).hviStr = s.hviStr ∧
    (weldPulseStep s i).rings = s.rings ∧ (weldPulseStep s i).cee = s.cee ∧ (weldPulseStep s i).tpe = s.tpe ∧
    (weldPulseStep s i).th = s.th ∧ (weldPulseStep s i).bal = s.bal ∧ (weldPulseStep s i).dsp = s.dsp ∧
    (weldPulseStep s i).conv = s.conv ∧ (weldPulseStep s i).phase = s.phase ∧ (weldPulseStep s i).gx2 = s.gx2 ∧
    (weldPulseStep s i).le = s.le ∧ (weldPulseStep s i).red = s.red ∧ (weldPulseStep s i).rack = s.rack ∧
    (weldPulseStep s i).seq = s.seq ∧ (weldPulseStep s i).tsu = s.tsu ∧ (weldPulseStep s i).hpr = s.hpr ∧
    (weldPulseStep s i).net = s.net ∧ (weldPulseStep s i).app = s.app ∧ (weldPulseStep s i).icu = s.icu ∧
    (weldPulseStep s i).flt = s.flt ∧ (weldPulseStep s i).plg = s.plg ∧ (weldPulseStep s i).upd = s.upd ∧
    (weldPulseStep s i).mem = s.mem ∧ (weldPulseStep s i).canRam = s.canRam ∧ (weldPulseStep s i).free = s.free := by
  unfold weldPulseStep; (repeat' split) <;> simp

@[simp] theorem weldFound_keeps (s : State) (i k : Nat) :
    (weldFound s i k).pending = s.pending ∧ (weldFound s i k).variant = s.variant ∧ (weldFound s i k).clk = s.clk ∧
    (weldFound s i k).unit = s.unit ∧ (weldFound s i k).hvi = s.hvi ∧ (weldFound s i k).hviStr = s.hviStr ∧
    (weldFound s i k).cee = s.cee ∧ (weldFound s i k).tpe = s.tpe ∧ (weldFound s i k).th = s.th ∧
    (weldFound s i k).dsp = s.dsp ∧ (weldFound s i k).gx2 = s.gx2 ∧ (weldFound s i k).le = s.le ∧
    (weldFound s i k).red = s.red ∧ (weldFound s i k).rack = s.rack ∧ (weldFound s i k).seq = s.seq ∧
    (weldFound s i k).tsu = s.tsu ∧ (weldFound s i k).net = s.net ∧ (weldFound s i k).app = s.app ∧
    (weldFound s i k).flt = s.flt ∧ (weldFound s i k).upd = s.upd ∧ (weldFound s i k).canRam = s.canRam ∧
    (weldFound s i k).free = s.free := by
  unfold weldFound; (repeat' split) <;> simp

@[simp] theorem judgeCoil_keeps (i : Nat) (cmd mir was fresh : Bool) (since k : Nat) (s : State) (c : Channel) :
    (judgeCoil i cmd mir was fresh since k s c).pending = s.pending ∧
    (judgeCoil i cmd mir was fresh since k s c).variant = s.variant ∧
    (judgeCoil i cmd mir was fresh since k s c).clk = s.clk ∧
    (judgeCoil i cmd mir was fresh since k s c).unit = s.unit ∧
    (judgeCoil i cmd mir was fresh since k s c).hvi = s.hvi ∧
    (judgeCoil i cmd mir was fresh since k s c).hviStr = s.hviStr ∧
    (judgeCoil i cmd mir was fresh since k s c).cee = s.cee ∧
    (judgeCoil i cmd mir was fresh since k s c).tpe = s.tpe ∧ (judgeCoil i cmd mir was fresh since k s c).th = s.th ∧
    (judgeCoil i cmd mir was fresh since k s c).dsp = s.dsp ∧
    (judgeCoil i cmd mir was fresh since k s c).gx2 = s.gx2 ∧ (judgeCoil i cmd mir was fresh since k s c).le = s.le ∧
    (judgeCoil i cmd mir was fresh since k s c).red = s.red ∧
    (judgeCoil i cmd mir was fresh since k s c).rack = s.rack ∧
    (judgeCoil i cmd mir was fresh since k s c).seq = s.seq ∧
    (judgeCoil i cmd mir was fresh since k s c).tsu = s.tsu ∧
    (judgeCoil i cmd mir was fresh since k s c).net = s.net ∧
    (judgeCoil i cmd mir was fresh since k s c).app = s.app ∧
    (judgeCoil i cmd mir was fresh since k s c).flt = s.flt ∧
    (judgeCoil i cmd mir was fresh since k s c).upd = s.upd ∧
    (judgeCoil i cmd mir was fresh since k s c).canRam = s.canRam ∧
    (judgeCoil i cmd mir was fresh since k s c).free = s.free := by
  unfold judgeCoil; (repeat' split) <;> simp

@[simp] theorem prechargeMirrors_keeps (s : State) (i : Nat) :
    (prechargeMirrors s i).pending = s.pending ∧ (prechargeMirrors s i).variant = s.variant ∧
    (prechargeMirrors s i).clk = s.clk ∧ (prechargeMirrors s i).unit = s.unit ∧ (prechargeMirrors s i).str = s.str ∧
    (prechargeMirrors s i).pwr = s.pwr ∧ (prechargeMirrors s i).hvi = s.hvi ∧
    (prechargeMirrors s i).hviStr = s.hviStr ∧ (prechargeMirrors s i).rings = s.rings ∧
    (prechargeMirrors s i).cee = s.cee ∧ (prechargeMirrors s i).tpe = s.tpe ∧ (prechargeMirrors s i).th = s.th ∧
    (prechargeMirrors s i).bal = s.bal ∧ (prechargeMirrors s i).dsp = s.dsp ∧
    (prechargeMirrors s i).phase = s.phase ∧ (prechargeMirrors s i).gx2 = s.gx2 ∧ (prechargeMirrors s i).le = s.le ∧
    (prechargeMirrors s i).red = s.red ∧ (prechargeMirrors s i).rack = s.rack ∧ (prechargeMirrors s i).seq = s.seq ∧
    (prechargeMirrors s i).tsu = s.tsu ∧ (prechargeMirrors s i).hpr = s.hpr ∧ (prechargeMirrors s i).net = s.net ∧
    (prechargeMirrors s i).app = s.app ∧ (prechargeMirrors s i).icu = s.icu ∧ (prechargeMirrors s i).flt = s.flt ∧
    (prechargeMirrors s i).plg = s.plg ∧ (prechargeMirrors s i).upd = s.upd ∧ (prechargeMirrors s i).mem = s.mem ∧
    (prechargeMirrors s i).canRam = s.canRam ∧ (prechargeMirrors s i).free = s.free := by
  unfold prechargeMirrors; (repeat' split) <;> simp

@[simp] theorem openedStep_keeps (s : State) (i : Nat) :
    (openedStep s i).pending = s.pending ∧ (openedStep s i).variant = s.variant ∧ (openedStep s i).clk = s.clk ∧
    (openedStep s i).unit = s.unit ∧ (openedStep s i).pwr = s.pwr ∧ (openedStep s i).hvi = s.hvi ∧
    (openedStep s i).hviStr = s.hviStr ∧ (openedStep s i).rings = s.rings ∧ (openedStep s i).cee = s.cee ∧
    (openedStep s i).tpe = s.tpe ∧ (openedStep s i).th = s.th ∧ (openedStep s i).bal = s.bal ∧
    (openedStep s i).dsp = s.dsp ∧ (openedStep s i).phase = s.phase ∧ (openedStep s i).gx2 = s.gx2 ∧
    (openedStep s i).le = s.le ∧ (openedStep s i).saf = s.saf ∧ (openedStep s i).rack = s.rack ∧
    (openedStep s i).seq = s.seq ∧ (openedStep s i).tsu = s.tsu ∧ (openedStep s i).net = s.net ∧
    (openedStep s i).app = s.app ∧ (openedStep s i).flt = s.flt ∧ (openedStep s i).upd = s.upd ∧
    (openedStep s i).canRam = s.canRam ∧ (openedStep s i).free = s.free := by
  unfold openedStep; (repeat' split) <;> simp

@[simp] theorem cdbOne_keeps (s : State) (i : Nat) (mir : BitVec 4) :
    (cdbOne s i mir).pending = s.pending ∧ (cdbOne s i mir).variant = s.variant ∧ (cdbOne s i mir).clk = s.clk ∧
    (cdbOne s i mir).unit = s.unit ∧ (cdbOne s i mir).hvi = s.hvi ∧ (cdbOne s i mir).hviStr = s.hviStr ∧
    (cdbOne s i mir).cee = s.cee ∧ (cdbOne s i mir).tpe = s.tpe ∧ (cdbOne s i mir).th = s.th ∧
    (cdbOne s i mir).dsp = s.dsp ∧ (cdbOne s i mir).gx2 = s.gx2 ∧ (cdbOne s i mir).le = s.le ∧
    (cdbOne s i mir).rack = s.rack ∧ (cdbOne s i mir).seq = s.seq ∧ (cdbOne s i mir).tsu = s.tsu ∧
    (cdbOne s i mir).net = s.net ∧ (cdbOne s i mir).app = s.app ∧ (cdbOne s i mir).flt = s.flt ∧
    (cdbOne s i mir).upd = s.upd ∧ (cdbOne s i mir).canRam = s.canRam ∧ (cdbOne s i mir).free = s.free := by
  unfold cdbOne; (repeat' split) <;> simp

@[simp] theorem releaseLatches_keeps (s : State) (i : Nat) :
    (releaseLatches s i).pending = s.pending ∧ (releaseLatches s i).variant = s.variant ∧
    (releaseLatches s i).clk = s.clk ∧ (releaseLatches s i).unit = s.unit ∧ (releaseLatches s i).str = s.str ∧
    (releaseLatches s i).pwr = s.pwr ∧ (releaseLatches s i).hvi = s.hvi ∧ (releaseLatches s i).rings = s.rings ∧
    (releaseLatches s i).cee = s.cee ∧ (releaseLatches s i).tpe = s.tpe ∧ (releaseLatches s i).th = s.th ∧
    (releaseLatches s i).bal = s.bal ∧ (releaseLatches s i).dsp = s.dsp ∧ (releaseLatches s i).conv = s.conv ∧
    (releaseLatches s i).phase = s.phase ∧ (releaseLatches s i).gx2 = s.gx2 ∧ (releaseLatches s i).le = s.le ∧
    (releaseLatches s i).red = s.red ∧ (releaseLatches s i).rack = s.rack ∧ (releaseLatches s i).seq = s.seq ∧
    (releaseLatches s i).tsu = s.tsu ∧ (releaseLatches s i).hpr = s.hpr ∧ (releaseLatches s i).net = s.net ∧
    (releaseLatches s i).app = s.app ∧ (releaseLatches s i).icu = s.icu ∧ (releaseLatches s i).flt = s.flt ∧
    (releaseLatches s i).plg = s.plg ∧ (releaseLatches s i).upd = s.upd ∧ (releaseLatches s i).mem = s.mem ∧
    (releaseLatches s i).canRam = s.canRam ∧ (releaseLatches s i).free = s.free := by
  unfold releaseLatches; (repeat' split) <;> simp

@[simp] theorem isoJudge_keeps (rIso : Nat) (s : State) (c : Channel) :
    (isoJudge rIso s c).pending = s.pending ∧ (isoJudge rIso s c).variant = s.variant ∧
    (isoJudge rIso s c).clk = s.clk ∧ (isoJudge rIso s c).unit = s.unit ∧ (isoJudge rIso s c).hvi = s.hvi ∧
    (isoJudge rIso s c).hviStr = s.hviStr ∧ (isoJudge rIso s c).cee = s.cee ∧ (isoJudge rIso s c).tpe = s.tpe ∧
    (isoJudge rIso s c).th = s.th ∧ (isoJudge rIso s c).dsp = s.dsp ∧ (isoJudge rIso s c).gx2 = s.gx2 ∧
    (isoJudge rIso s c).le = s.le ∧ (isoJudge rIso s c).red = s.red ∧ (isoJudge rIso s c).rack = s.rack ∧
    (isoJudge rIso s c).seq = s.seq ∧ (isoJudge rIso s c).tsu = s.tsu ∧ (isoJudge rIso s c).net = s.net ∧
    (isoJudge rIso s c).app = s.app ∧ (isoJudge rIso s c).flt = s.flt ∧ (isoJudge rIso s c).upd = s.upd ∧
    (isoJudge rIso s c).canRam = s.canRam ∧ (isoJudge rIso s c).free = s.free := by
  unfold isoJudge; (repeat' split) <;> simp

@[simp] theorem isoToChannels_keeps (s : State) (rIso : Nat) :
    (isoToChannels s rIso).pending = s.pending ∧ (isoToChannels s rIso).variant = s.variant ∧
    (isoToChannels s rIso).clk = s.clk ∧ (isoToChannels s rIso).unit = s.unit ∧ (isoToChannels s rIso).hvi = s.hvi ∧
    (isoToChannels s rIso).hviStr = s.hviStr ∧ (isoToChannels s rIso).cee = s.cee ∧
    (isoToChannels s rIso).tpe = s.tpe ∧ (isoToChannels s rIso).th = s.th ∧ (isoToChannels s rIso).dsp = s.dsp ∧
    (isoToChannels s rIso).gx2 = s.gx2 ∧ (isoToChannels s rIso).le = s.le ∧ (isoToChannels s rIso).red = s.red ∧
    (isoToChannels s rIso).rack = s.rack ∧ (isoToChannels s rIso).seq = s.seq ∧ (isoToChannels s rIso).tsu = s.tsu ∧
    (isoToChannels s rIso).net = s.net ∧ (isoToChannels s rIso).app = s.app ∧ (isoToChannels s rIso).flt = s.flt ∧
    (isoToChannels s rIso).upd = s.upd ∧ (isoToChannels s rIso).canRam = s.canRam ∧
    (isoToChannels s rIso).free = s.free := by
  unfold isoToChannels; (repeat' split) <;> simp

@[simp] theorem ocJudge_keeps (i : Nat) (s : State) (c : Channel) :
    (ocJudge i s c).pending = s.pending ∧ (ocJudge i s c).variant = s.variant ∧ (ocJudge i s c).clk = s.clk ∧
    (ocJudge i s c).unit = s.unit ∧ (ocJudge i s c).hvi = s.hvi ∧ (ocJudge i s c).hviStr = s.hviStr ∧
    (ocJudge i s c).cee = s.cee ∧ (ocJudge i s c).tpe = s.tpe ∧ (ocJudge i s c).th = s.th ∧
    (ocJudge i s c).dsp = s.dsp ∧ (ocJudge i s c).gx2 = s.gx2 ∧ (ocJudge i s c).le = s.le ∧
    (ocJudge i s c).red = s.red ∧ (ocJudge i s c).rack = s.rack ∧ (ocJudge i s c).seq = s.seq ∧
    (ocJudge i s c).tsu = s.tsu ∧ (ocJudge i s c).net = s.net ∧ (ocJudge i s c).app = s.app ∧
    (ocJudge i s c).flt = s.flt ∧ (ocJudge i s c).upd = s.upd ∧ (ocJudge i s c).canRam = s.canRam ∧
    (ocJudge i s c).free = s.free := by
  unfold ocJudge; (repeat' split) <;> simp

@[simp] theorem ocStale_keeps (i : Nat) (s : State) (c : Channel) :
    (ocStale i s c).pending = s.pending ∧ (ocStale i s c).variant = s.variant ∧ (ocStale i s c).clk = s.clk ∧
    (ocStale i s c).unit = s.unit ∧ (ocStale i s c).hvi = s.hvi ∧ (ocStale i s c).hviStr = s.hviStr ∧
    (ocStale i s c).cee = s.cee ∧ (ocStale i s c).tpe = s.tpe ∧ (ocStale i s c).th = s.th ∧
    (ocStale i s c).dsp = s.dsp ∧ (ocStale i s c).gx2 = s.gx2 ∧ (ocStale i s c).le = s.le ∧
    (ocStale i s c).red = s.red ∧ (ocStale i s c).rack = s.rack ∧ (ocStale i s c).seq = s.seq ∧
    (ocStale i s c).tsu = s.tsu ∧ (ocStale i s c).net = s.net ∧ (ocStale i s c).app = s.app ∧
    (ocStale i s c).flt = s.flt ∧ (ocStale i s c).upd = s.upd ∧ (ocStale i s c).canRam = s.canRam ∧
    (ocStale i s c).free = s.free := by
  unfold ocStale; (repeat' split) <;> simp

@[simp] theorem inputFault_keeps (s : State) (c : Channel) (k : Nat) :
    (inputFault s c k).pending = s.pending ∧ (inputFault s c k).variant = s.variant ∧
    (inputFault s c k).clk = s.clk ∧ (inputFault s c k).unit = s.unit ∧ (inputFault s c k).str = s.str ∧
    (inputFault s c k).pwr = s.pwr ∧ (inputFault s c k).hvi = s.hvi ∧ (inputFault s c k).hviStr = s.hviStr ∧
    (inputFault s c k).rings = s.rings ∧ (inputFault s c k).cee = s.cee ∧ (inputFault s c k).tpe = s.tpe ∧
    (inputFault s c k).th = s.th ∧ (inputFault s c k).bal = s.bal ∧ (inputFault s c k).dsp = s.dsp ∧
    (inputFault s c k).conv = s.conv ∧ (inputFault s c k).phase = s.phase ∧ (inputFault s c k).gx2 = s.gx2 ∧
    (inputFault s c k).le = s.le ∧ (inputFault s c k).red = s.red ∧ (inputFault s c k).rack = s.rack ∧
    (inputFault s c k).seq = s.seq ∧ (inputFault s c k).tsu = s.tsu ∧ (inputFault s c k).hpr = s.hpr ∧
    (inputFault s c k).net = s.net ∧ (inputFault s c k).app = s.app ∧ (inputFault s c k).flt = s.flt ∧
    (inputFault s c k).upd = s.upd ∧ (inputFault s c k).mem = s.mem ∧ (inputFault s c k).canRam = s.canRam ∧
    (inputFault s c k).free = s.free := by
  unfold inputFault; (repeat' split) <;> simp

@[simp] theorem judgeInput_keeps (s : State) (c : Channel) (k : Nat) (high : Bool) :
    (judgeInput s c k high).pending = s.pending ∧ (judgeInput s c k high).variant = s.variant ∧
    (judgeInput s c k high).clk = s.clk ∧ (judgeInput s c k high).unit = s.unit ∧
    (judgeInput s c k high).str = s.str ∧ (judgeInput s c k high).pwr = s.pwr ∧ (judgeInput s c k high).hvi = s.hvi ∧
    (judgeInput s c k high).hviStr = s.hviStr ∧ (judgeInput s c k high).rings = s.rings ∧
    (judgeInput s c k high).cee = s.cee ∧ (judgeInput s c k high).tpe = s.tpe ∧ (judgeInput s c k high).th = s.th ∧
    (judgeInput s c k high).bal = s.bal ∧ (judgeInput s c k high).dsp = s.dsp ∧
    (judgeInput s c k high).conv = s.conv ∧ (judgeInput s c k high).phase = s.phase ∧
    (judgeInput s c k high).gx2 = s.gx2 ∧ (judgeInput s c k high).le = s.le ∧ (judgeInput s c k high).red = s.red ∧
    (judgeInput s c k high).rack = s.rack ∧ (judgeInput s c k high).seq = s.seq ∧
    (judgeInput s c k high).tsu = s.tsu ∧ (judgeInput s c k high).hpr = s.hpr ∧ (judgeInput s c k high).net = s.net ∧
    (judgeInput s c k high).app = s.app ∧ (judgeInput s c k high).flt = s.flt ∧ (judgeInput s c k high).upd = s.upd ∧
    (judgeInput s c k high).mem = s.mem ∧ (judgeInput s c k high).canRam = s.canRam ∧
    (judgeInput s c k high).free = s.free := by
  unfold judgeInput; dsimp only; (repeat' split) <;> simp

@[simp] theorem judgePair_keeps (s : State) (c : Channel) (k : Nat) :
    (judgePair s c k).pending = s.pending ∧ (judgePair s c k).variant = s.variant ∧ (judgePair s c k).clk = s.clk ∧
    (judgePair s c k).unit = s.unit ∧ (judgePair s c k).str = s.str ∧ (judgePair s c k).pwr = s.pwr ∧
    (judgePair s c k).hvi = s.hvi ∧ (judgePair s c k).hviStr = s.hviStr ∧ (judgePair s c k).rings = s.rings ∧
    (judgePair s c k).cee = s.cee ∧ (judgePair s c k).tpe = s.tpe ∧ (judgePair s c k).th = s.th ∧
    (judgePair s c k).bal = s.bal ∧ (judgePair s c k).dsp = s.dsp ∧ (judgePair s c k).conv = s.conv ∧
    (judgePair s c k).phase = s.phase ∧ (judgePair s c k).gx2 = s.gx2 ∧ (judgePair s c k).le = s.le ∧
    (judgePair s c k).red = s.red ∧ (judgePair s c k).rack = s.rack ∧ (judgePair s c k).seq = s.seq ∧
    (judgePair s c k).tsu = s.tsu ∧ (judgePair s c k).hpr = s.hpr ∧ (judgePair s c k).net = s.net ∧
    (judgePair s c k).app = s.app ∧ (judgePair s c k).icu = s.icu ∧ (judgePair s c k).flt = s.flt ∧
    (judgePair s c k).plg = s.plg ∧ (judgePair s c k).upd = s.upd ∧ (judgePair s c k).mem = s.mem ∧
    (judgePair s c k).canRam = s.canRam ∧ (judgePair s c k).free = s.free := by
  unfold judgePair; (repeat' split) <;> simp

@[simp] theorem stageSet_keeps (s : State) (b : Bytes) :
    (stageSet s b).pending = s.pending ∧ (stageSet s b).variant = s.variant ∧ (stageSet s b).clk = s.clk ∧
    (stageSet s b).unit = s.unit ∧ (stageSet s b).str = s.str ∧ (stageSet s b).pwr = s.pwr ∧
    (stageSet s b).hvi = s.hvi ∧ (stageSet s b).hviStr = s.hviStr ∧ (stageSet s b).rings = s.rings ∧
    (stageSet s b).cee = s.cee ∧ (stageSet s b).tpe = s.tpe ∧ (stageSet s b).th = s.th ∧ (stageSet s b).bal = s.bal ∧
    (stageSet s b).dsp = s.dsp ∧ (stageSet s b).conv = s.conv ∧ (stageSet s b).phase = s.phase ∧
    (stageSet s b).gx2 = s.gx2 ∧ (stageSet s b).le = s.le ∧ (stageSet s b).red = s.red ∧
    (stageSet s b).rack = s.rack ∧ (stageSet s b).seq = s.seq ∧ (stageSet s b).tsu = s.tsu ∧
    (stageSet s b).hpr = s.hpr ∧ (stageSet s b).net = s.net ∧ (stageSet s b).app = s.app ∧
    (stageSet s b).icu = s.icu ∧ (stageSet s b).flt = s.flt ∧ (stageSet s b).plg = s.plg ∧
    (stageSet s b).upd = s.upd ∧ (stageSet s b).mem = s.mem ∧ (stageSet s b).canRam = s.canRam ∧
    (stageSet s b).free = s.free := by
  unfold stageSet; (repeat' split) <;> simp

@[simp] theorem discardStaged_keeps (s : State) :
    (discardStaged s).pending = s.pending ∧ (discardStaged s).variant = s.variant ∧ (discardStaged s).clk = s.clk ∧
    (discardStaged s).unit = s.unit ∧ (discardStaged s).str = s.str ∧ (discardStaged s).pwr = s.pwr ∧
    (discardStaged s).hvi = s.hvi ∧ (discardStaged s).hviStr = s.hviStr ∧ (discardStaged s).rings = s.rings ∧
    (discardStaged s).cee = s.cee ∧ (discardStaged s).tpe = s.tpe ∧ (discardStaged s).th = s.th ∧
    (discardStaged s).bal = s.bal ∧ (discardStaged s).dsp = s.dsp ∧ (discardStaged s).conv = s.conv ∧
    (discardStaged s).phase = s.phase ∧ (discardStaged s).gx2 = s.gx2 ∧ (discardStaged s).le = s.le ∧
    (discardStaged s).red = s.red ∧ (discardStaged s).rack = s.rack ∧ (discardStaged s).seq = s.seq ∧
    (discardStaged s).tsu = s.tsu ∧ (discardStaged s).hpr = s.hpr ∧ (discardStaged s).net = s.net ∧
    (discardStaged s).app = s.app ∧ (discardStaged s).icu = s.icu ∧ (discardStaged s).flt = s.flt ∧
    (discardStaged s).plg = s.plg ∧ (discardStaged s).upd = s.upd ∧ (discardStaged s).mem = s.mem ∧
    (discardStaged s).canRam = s.canRam ∧ (discardStaged s).free = s.free := by
  unfold discardStaged; (repeat' split) <;> simp

@[simp] theorem updateMismatch_keeps (s : State) :
    (updateMismatch s).pending = s.pending ∧ (updateMismatch s).variant = s.variant ∧
    (updateMismatch s).clk = s.clk ∧ (updateMismatch s).unit = s.unit ∧ (updateMismatch s).str = s.str ∧
    (updateMismatch s).pwr = s.pwr ∧ (updateMismatch s).hvi = s.hvi ∧ (updateMismatch s).hviStr = s.hviStr ∧
    (updateMismatch s).rings = s.rings ∧ (updateMismatch s).cee = s.cee ∧ (updateMismatch s).tpe = s.tpe ∧
    (updateMismatch s).th = s.th ∧ (updateMismatch s).bal = s.bal ∧ (updateMismatch s).dsp = s.dsp ∧
    (updateMismatch s).conv = s.conv ∧ (updateMismatch s).phase = s.phase ∧ (updateMismatch s).gx2 = s.gx2 ∧
    (updateMismatch s).le = s.le ∧ (updateMismatch s).red = s.red ∧ (updateMismatch s).rack = s.rack ∧
    (updateMismatch s).seq = s.seq ∧ (updateMismatch s).tsu = s.tsu ∧ (updateMismatch s).hpr = s.hpr ∧
    (updateMismatch s).net = s.net ∧ (updateMismatch s).app = s.app ∧ (updateMismatch s).flt = s.flt ∧
    (updateMismatch s).upd = s.upd ∧ (updateMismatch s).mem = s.mem ∧ (updateMismatch s).canRam = s.canRam ∧
    (updateMismatch s).free = s.free := by
  unfold updateMismatch; (repeat' split) <;> simp

@[simp] theorem commFresh_keeps (s : State) (c : Channel) (b : Bytes) (seqKept : Bool) :
    (commFresh s c b seqKept).pending = s.pending ∧ (commFresh s c b seqKept).variant = s.variant ∧
    (commFresh s c b seqKept).clk = s.clk ∧ (commFresh s c b seqKept).unit = s.unit ∧
    (commFresh s c b seqKept).str = s.str ∧ (commFresh s c b seqKept).pwr = s.pwr ∧
    (commFresh s c b seqKept).hvi = s.hvi ∧ (commFresh s c b seqKept).hviStr = s.hviStr ∧
    (commFresh s c b seqKept).rings = s.rings ∧ (commFresh s c b seqKept).cee = s.cee ∧
    (commFresh s c b seqKept).tpe = s.tpe ∧ (commFresh s c b seqKept).th = s.th ∧
    (commFresh s c b seqKept).bal = s.bal ∧ (commFresh s c b seqKept).dsp = s.dsp ∧
    (commFresh s c b seqKept).conv = s.conv ∧ (commFresh s c b seqKept).phase = s.phase ∧
    (commFresh s c b seqKept).gx2 = s.gx2 ∧ (commFresh s c b seqKept).le = s.le ∧
    (commFresh s c b seqKept).red = s.red ∧ (commFresh s c b seqKept).rack = s.rack ∧
    (commFresh s c b seqKept).seq = s.seq ∧ (commFresh s c b seqKept).tsu = s.tsu ∧
    (commFresh s c b seqKept).hpr = s.hpr ∧ (commFresh s c b seqKept).net = s.net ∧
    (commFresh s c b seqKept).app = s.app ∧ (commFresh s c b seqKept).icu = s.icu ∧
    (commFresh s c b seqKept).flt = s.flt ∧ (commFresh s c b seqKept).plg = s.plg ∧
    (commFresh s c b seqKept).upd = s.upd ∧ (commFresh s c b seqKept).mem = s.mem ∧
    (commFresh s c b seqKept).canRam = s.canRam ∧ (commFresh s c b seqKept).free = s.free := by
  unfold commFresh; (repeat' split) <;> simp

@[simp] theorem activateSet_keeps (s : State) (c : Channel) (b : Bytes) :
    (activateSet s c b).pending = s.pending ∧ (activateSet s c b).variant = s.variant ∧
    (activateSet s c b).clk = s.clk ∧ (activateSet s c b).unit = s.unit ∧ (activateSet s c b).str = s.str ∧
    (activateSet s c b).hvi = s.hvi ∧ (activateSet s c b).hviStr = s.hviStr ∧ (activateSet s c b).cee = s.cee ∧
    (activateSet s c b).tpe = s.tpe ∧ (activateSet s c b).th = s.th ∧ (activateSet s c b).bal = s.bal ∧
    (activateSet s c b).dsp = s.dsp ∧ (activateSet s c b).conv = s.conv ∧ (activateSet s c b).phase = s.phase ∧
    (activateSet s c b).gx2 = s.gx2 ∧ (activateSet s c b).le = s.le ∧ (activateSet s c b).red = s.red ∧
    (activateSet s c b).rack = s.rack ∧ (activateSet s c b).seq = s.seq ∧ (activateSet s c b).tsu = s.tsu ∧
    (activateSet s c b).hpr = s.hpr ∧ (activateSet s c b).net = s.net ∧ (activateSet s c b).app = s.app ∧
    (activateSet s c b).flt = s.flt ∧ (activateSet s c b).upd = s.upd ∧ (activateSet s c b).mem = s.mem ∧
    (activateSet s c b).canRam = s.canRam ∧ (activateSet s c b).free = s.free := by
  unfold activateSet; (repeat' split) <;> simp

@[simp] theorem kzvPdu_keeps (s : State) (net : Nat) :
    (kzvPdu s net).pending = s.pending ∧ (kzvPdu s net).variant = s.variant ∧ (kzvPdu s net).clk = s.clk ∧
    (kzvPdu s net).unit = s.unit ∧ (kzvPdu s net).str = s.str ∧ (kzvPdu s net).pwr = s.pwr ∧
    (kzvPdu s net).hvi = s.hvi ∧ (kzvPdu s net).hviStr = s.hviStr ∧ (kzvPdu s net).rings = s.rings ∧
    (kzvPdu s net).cee = s.cee ∧ (kzvPdu s net).tpe = s.tpe ∧ (kzvPdu s net).th = s.th ∧ (kzvPdu s net).bal = s.bal ∧
    (kzvPdu s net).dsp = s.dsp ∧ (kzvPdu s net).conv = s.conv ∧ (kzvPdu s net).phase = s.phase ∧
    (kzvPdu s net).gx2 = s.gx2 ∧ (kzvPdu s net).le = s.le ∧ (kzvPdu s net).red = s.red ∧
    (kzvPdu s net).rack = s.rack ∧ (kzvPdu s net).seq = s.seq ∧ (kzvPdu s net).tsu = s.tsu ∧
    (kzvPdu s net).hpr = s.hpr ∧ (kzvPdu s net).net = s.net ∧ (kzvPdu s net).app = s.app ∧
    (kzvPdu s net).icu = s.icu ∧ (kzvPdu s net).flt = s.flt ∧ (kzvPdu s net).plg = s.plg ∧
    (kzvPdu s net).upd = s.upd ∧ (kzvPdu s net).mem = s.mem ∧ (kzvPdu s net).canRam = s.canRam ∧
    (kzvPdu s net).free = s.free := by
  unfold kzvPdu; (repeat' split) <;> simp

@[simp] theorem plantActs_keeps (s : State) (c : Channel) (p : Bytes) :
    (plantActs s c p).pending = s.pending ∧ (plantActs s c p).variant = s.variant ∧ (plantActs s c p).clk = s.clk ∧
    (plantActs s c p).unit = s.unit ∧ (plantActs s c p).hvi = s.hvi ∧ (plantActs s c p).hviStr = s.hviStr ∧
    (plantActs s c p).cee = s.cee ∧ (plantActs s c p).tpe = s.tpe ∧ (plantActs s c p).th = s.th ∧
    (plantActs s c p).dsp = s.dsp ∧ (plantActs s c p).gx2 = s.gx2 ∧ (plantActs s c p).le = s.le ∧
    (plantActs s c p).red = s.red ∧ (plantActs s c p).rack = s.rack ∧ (plantActs s c p).seq = s.seq ∧
    (plantActs s c p).tsu = s.tsu ∧ (plantActs s c p).net = s.net ∧ (plantActs s c p).app = s.app ∧
    (plantActs s c p).flt = s.flt ∧ (plantActs s c p).upd = s.upd ∧ (plantActs s c p).canRam = s.canRam ∧
    (plantActs s c p).free = s.free := by
  unfold plantActs; (repeat' split) <;> simp

@[simp] theorem acceptPdu_keeps (s : State) (c : Channel) (net seq : Nat) (p : Bytes) :
    (acceptPdu s c net seq p).pending = s.pending ∧ (acceptPdu s c net seq p).variant = s.variant ∧
    (acceptPdu s c net seq p).clk = s.clk ∧ (acceptPdu s c net seq p).unit = s.unit ∧
    (acceptPdu s c net seq p).hvi = s.hvi ∧ (acceptPdu s c net seq p).hviStr = s.hviStr ∧
    (acceptPdu s c net seq p).cee = s.cee ∧ (acceptPdu s c net seq p).tpe = s.tpe ∧
    (acceptPdu s c net seq p).th = s.th ∧ (acceptPdu s c net seq p).dsp = s.dsp ∧
    (acceptPdu s c net seq p).gx2 = s.gx2 ∧ (acceptPdu s c net seq p).le = s.le ∧
    (acceptPdu s c net seq p).red = s.red ∧ (acceptPdu s c net seq p).rack = s.rack ∧
    (acceptPdu s c net seq p).seq = s.seq ∧ (acceptPdu s c net seq p).tsu = s.tsu ∧
    (acceptPdu s c net seq p).net = s.net ∧ (acceptPdu s c net seq p).app = s.app ∧
    (acceptPdu s c net seq p).flt = s.flt ∧ (acceptPdu s c net seq p).upd = s.upd ∧
    (acceptPdu s c net seq p).canRam = s.canRam ∧ (acceptPdu s c net seq p).free = s.free := by
  unfold acceptPdu; (repeat' split) <;> simp

@[simp] theorem pduLoss_keeps (s : State) (c : Channel) :
    (pduLoss s c).pending = s.pending ∧ (pduLoss s c).variant = s.variant ∧ (pduLoss s c).clk = s.clk ∧
    (pduLoss s c).unit = s.unit ∧ (pduLoss s c).str = s.str ∧ (pduLoss s c).pwr = s.pwr ∧ (pduLoss s c).hvi = s.hvi ∧
    (pduLoss s c).hviStr = s.hviStr ∧ (pduLoss s c).rings = s.rings ∧ (pduLoss s c).cee = s.cee ∧
    (pduLoss s c).tpe = s.tpe ∧ (pduLoss s c).th = s.th ∧ (pduLoss s c).bal = s.bal ∧ (pduLoss s c).dsp = s.dsp ∧
    (pduLoss s c).conv = s.conv ∧ (pduLoss s c).phase = s.phase ∧ (pduLoss s c).gx2 = s.gx2 ∧
    (pduLoss s c).le = s.le ∧ (pduLoss s c).red = s.red ∧ (pduLoss s c).rack = s.rack ∧ (pduLoss s c).seq = s.seq ∧
    (pduLoss s c).tsu = s.tsu ∧ (pduLoss s c).hpr = s.hpr ∧ (pduLoss s c).net = s.net ∧ (pduLoss s c).app = s.app ∧
    (pduLoss s c).icu = s.icu ∧ (pduLoss s c).flt = s.flt ∧ (pduLoss s c).plg = s.plg ∧ (pduLoss s c).upd = s.upd ∧
    (pduLoss s c).mem = s.mem ∧ (pduLoss s c).canRam = s.canRam ∧ (pduLoss s c).free = s.free := by
  unfold pduLoss; (repeat' split) <;> simp

@[simp] theorem pairedUp_keeps (s : State) (c : Channel) :
    (pairedUp s c).pending = s.pending ∧ (pairedUp s c).variant = s.variant ∧ (pairedUp s c).clk = s.clk ∧
    (pairedUp s c).unit = s.unit ∧ (pairedUp s c).str = s.str ∧ (pairedUp s c).pwr = s.pwr ∧
    (pairedUp s c).hvi = s.hvi ∧ (pairedUp s c).hviStr = s.hviStr ∧ (pairedUp s c).rings = s.rings ∧
    (pairedUp s c).cee = s.cee ∧ (pairedUp s c).tpe = s.tpe ∧ (pairedUp s c).th = s.th ∧ (pairedUp s c).bal = s.bal ∧
    (pairedUp s c).dsp = s.dsp ∧ (pairedUp s c).conv = s.conv ∧ (pairedUp s c).phase = s.phase ∧
    (pairedUp s c).gx2 = s.gx2 ∧ (pairedUp s c).le = s.le ∧ (pairedUp s c).red = s.red ∧
    (pairedUp s c).rack = s.rack ∧ (pairedUp s c).seq = s.seq ∧ (pairedUp s c).tsu = s.tsu ∧
    (pairedUp s c).hpr = s.hpr ∧ (pairedUp s c).net = s.net ∧ (pairedUp s c).app = s.app ∧
    (pairedUp s c).icu = s.icu ∧ (pairedUp s c).flt = s.flt ∧ (pairedUp s c).plg = s.plg ∧
    (pairedUp s c).upd = s.upd ∧ (pairedUp s c).mem = s.mem ∧ (pairedUp s c).canRam = s.canRam ∧
    (pairedUp s c).free = s.free := by
  unfold pairedUp; (repeat' split) <;> simp

@[simp] theorem judgeSeq_keeps (s : State) (c : Channel) (net : Nat) (b : Bytes) :
    (judgeSeq s c net b).pending = s.pending ∧ (judgeSeq s c net b).variant = s.variant ∧
    (judgeSeq s c net b).clk = s.clk ∧ (judgeSeq s c net b).unit = s.unit ∧ (judgeSeq s c net b).hvi = s.hvi ∧
    (judgeSeq s c net b).hviStr = s.hviStr ∧ (judgeSeq s c net b).cee = s.cee ∧ (judgeSeq s c net b).tpe = s.tpe ∧
    (judgeSeq s c net b).th = s.th ∧ (judgeSeq s c net b).dsp = s.dsp ∧ (judgeSeq s c net b).gx2 = s.gx2 ∧
    (judgeSeq s c net b).le = s.le ∧ (judgeSeq s c net b).red = s.red ∧ (judgeSeq s c net b).rack = s.rack ∧
    (judgeSeq s c net b).seq = s.seq ∧ (judgeSeq s c net b).tsu = s.tsu ∧ (judgeSeq s c net b).net = s.net ∧
    (judgeSeq s c net b).app = s.app ∧ (judgeSeq s c net b).flt = s.flt ∧ (judgeSeq s c net b).upd = s.upd ∧
    (judgeSeq s c net b).canRam = s.canRam ∧ (judgeSeq s c net b).free = s.free := by
  unfold judgeSeq; (repeat' split) <;> simp

@[simp] theorem acceptSingle_keeps (s : State) (c : Channel) (net : Nat) (b : Bytes) :
    (acceptSingle s c net b).pending = s.pending ∧ (acceptSingle s c net b).variant = s.variant ∧
    (acceptSingle s c net b).clk = s.clk ∧ (acceptSingle s c net b).unit = s.unit ∧
    (acceptSingle s c net b).hvi = s.hvi ∧ (acceptSingle s c net b).hviStr = s.hviStr ∧
    (acceptSingle s c net b).cee = s.cee ∧ (acceptSingle s c net b).tpe = s.tpe ∧
    (acceptSingle s c net b).th = s.th ∧ (acceptSingle s c net b).dsp = s.dsp ∧
    (acceptSingle s c net b).gx2 = s.gx2 ∧ (acceptSingle s c net b).le = s.le ∧
    (acceptSingle s c net b).red = s.red ∧ (acceptSingle s c net b).rack = s.rack ∧
    (acceptSingle s c net b).seq = s.seq ∧ (acceptSingle s c net b).tsu = s.tsu ∧
    (acceptSingle s c net b).net = s.net ∧ (acceptSingle s c net b).app = s.app ∧
    (acceptSingle s c net b).flt = s.flt ∧ (acceptSingle s c net b).upd = s.upd ∧
    (acceptSingle s c net b).canRam = s.canRam ∧ (acceptSingle s c net b).free = s.free := by
  unfold acceptSingle; (repeat' split) <;> simp

@[simp] theorem secondCopy_keeps (s : State) (c : Channel) (net : Nat) (b : Bytes) :
    (secondCopy s c net b).pending = s.pending ∧ (secondCopy s c net b).variant = s.variant ∧
    (secondCopy s c net b).clk = s.clk ∧ (secondCopy s c net b).unit = s.unit ∧ (secondCopy s c net b).str = s.str ∧
    (secondCopy s c net b).pwr = s.pwr ∧ (secondCopy s c net b).hvi = s.hvi ∧
    (secondCopy s c net b).hviStr = s.hviStr ∧ (secondCopy s c net b).rings = s.rings ∧
    (secondCopy s c net b).cee = s.cee ∧ (secondCopy s c net b).tpe = s.tpe ∧ (secondCopy s c net b).th = s.th ∧
    (secondCopy s c net b).bal = s.bal ∧ (secondCopy s c net b).dsp = s.dsp ∧ (secondCopy s c net b).conv = s.conv ∧
    (secondCopy s c net b).phase = s.phase ∧ (secondCopy s c net b).gx2 = s.gx2 ∧ (secondCopy s c net b).le = s.le ∧
    (secondCopy s c net b).red = s.red ∧ (secondCopy s c net b).rack = s.rack ∧ (secondCopy s c net b).seq = s.seq ∧
    (secondCopy s c net b).tsu = s.tsu ∧ (secondCopy s c net b).hpr = s.hpr ∧ (secondCopy s c net b).net = s.net ∧
    (secondCopy s c net b).app = s.app ∧ (secondCopy s c net b).icu = s.icu ∧ (secondCopy s c net b).flt = s.flt ∧
    (secondCopy s c net b).plg = s.plg ∧ (secondCopy s c net b).upd = s.upd ∧ (secondCopy s c net b).mem = s.mem ∧
    (secondCopy s c net b).canRam = s.canRam ∧ (secondCopy s c net b).free = s.free := by
  unfold secondCopy; (repeat' split) <;> simp

@[simp] theorem nativeCopy_keeps (s : State) (c : Channel) (net : Nat) (b : Bytes) :
    (nativeCopy s c net b).pending = s.pending ∧ (nativeCopy s c net b).variant = s.variant ∧
    (nativeCopy s c net b).clk = s.clk ∧ (nativeCopy s c net b).unit = s.unit ∧ (nativeCopy s c net b).hvi = s.hvi ∧
    (nativeCopy s c net b).hviStr = s.hviStr ∧ (nativeCopy s c net b).cee = s.cee ∧
    (nativeCopy s c net b).tpe = s.tpe ∧ (nativeCopy s c net b).th = s.th ∧ (nativeCopy s c net b).dsp = s.dsp ∧
    (nativeCopy s c net b).gx2 = s.gx2 ∧ (nativeCopy s c net b).le = s.le ∧ (nativeCopy s c net b).red = s.red ∧
    (nativeCopy s c net b).rack = s.rack ∧ (nativeCopy s c net b).seq = s.seq ∧ (nativeCopy s c net b).tsu = s.tsu ∧
    (nativeCopy s c net b).net = s.net ∧ (nativeCopy s c net b).app = s.app ∧ (nativeCopy s c net b).flt = s.flt ∧
    (nativeCopy s c net b).upd = s.upd ∧ (nativeCopy s c net b).canRam = s.canRam ∧
    (nativeCopy s c net b).free = s.free := by
  unfold nativeCopy; dsimp only; (repeat' split) <;> simp

@[simp] theorem readRx_keeps (s : State) (c : Channel) (net : Nat) (pdu : Bytes) :
    (readRx s c net pdu).pending = s.pending ∧ (readRx s c net pdu).variant = s.variant ∧
    (readRx s c net pdu).clk = s.clk ∧ (readRx s c net pdu).unit = s.unit ∧ (readRx s c net pdu).str = s.str ∧
    (readRx s c net pdu).pwr = s.pwr ∧ (readRx s c net pdu).hvi = s.hvi ∧ (readRx s c net pdu).hviStr = s.hviStr ∧
    (readRx s c net pdu).rings = s.rings ∧ (readRx s c net pdu).cee = s.cee ∧ (readRx s c net pdu).tpe = s.tpe ∧
    (readRx s c net pdu).th = s.th ∧ (readRx s c net pdu).bal = s.bal ∧ (readRx s c net pdu).dsp = s.dsp ∧
    (readRx s c net pdu).conv = s.conv ∧ (readRx s c net pdu).phase = s.phase ∧ (readRx s c net pdu).gx2 = s.gx2 ∧
    (readRx s c net pdu).le = s.le ∧ (readRx s c net pdu).red = s.red ∧ (readRx s c net pdu).rack = s.rack ∧
    (readRx s c net pdu).seq = s.seq ∧ (readRx s c net pdu).tsu = s.tsu ∧ (readRx s c net pdu).hpr = s.hpr ∧
    (readRx s c net pdu).net = s.net ∧ (readRx s c net pdu).app = s.app ∧ (readRx s c net pdu).icu = s.icu ∧
    (readRx s c net pdu).flt = s.flt ∧ (readRx s c net pdu).plg = s.plg ∧ (readRx s c net pdu).upd = s.upd ∧
    (readRx s c net pdu).mem = s.mem ∧ (readRx s c net pdu).canRam = s.canRam ∧ (readRx s c net pdu).free = s.free := by
  unfold readRx; dsimp only; split <;> simp

end Sys2Proof.Machine
end

