-- ==== Sys2Proof/Laws/Converter.lean ====
section
/-! SUPPORT. What the operations of Converter leave alone. -/

namespace Sys2Proof.Machine

@[simp] theorem stopConverter_keeps (s : State) (i : Nat) :
    (stopConverter s i).pending = s.pending ∧ (stopConverter s i).variant = s.variant ∧
    (stopConverter s i).clk = s.clk ∧ (stopConverter s i).unit = s.unit ∧ (stopConverter s i).str = s.str ∧
    (stopConverter s i).pwr = s.pwr ∧ (stopConverter s i).hvi = s.hvi ∧ (stopConverter s i).hviStr = s.hviStr ∧
    (stopConverter s i).rings = s.rings ∧ (stopConverter s i).cee = s.cee ∧ (stopConverter s i).tpe = s.tpe ∧
    (stopConverter s i).th = s.th ∧ (stopConverter s i).bal = s.bal ∧ (stopConverter s i).dsp = s.dsp ∧
    (stopConverter s i).gx2 = s.gx2 ∧ (stopConverter s i).le = s.le ∧ (stopConverter s i).saf = s.saf ∧
    (stopConverter s i).red = s.red ∧ (stopConverter s i).rack = s.rack ∧ (stopConverter s i).seq = s.seq ∧
    (stopConverter s i).tsu = s.tsu ∧ (stopConverter s i).hpr = s.hpr ∧ (stopConverter s i).net = s.net ∧
    (stopConverter s i).app = s.app ∧ (stopConverter s i).icu = s.icu ∧ (stopConverter s i).flt = s.flt ∧
    (stopConverter s i).plg = s.plg ∧ (stopConverter s i).upd = s.upd ∧ (stopConverter s i).mem = s.mem ∧
    (stopConverter s i).canRam = s.canRam ∧ (stopConverter s i).free = s.free := by
  unfold stopConverter; (repeat' split) <;> simp

@[simp] theorem rampDone_keeps (s : State) (i : Nat) (dest : StrState) :
    (rampDone s i dest).pending = s.pending ∧ (rampDone s i dest).variant = s.variant ∧
    (rampDone s i dest).clk = s.clk ∧ (rampDone s i dest).unit = s.unit ∧ (rampDone s i dest).pwr = s.pwr ∧
    (rampDone s i dest).hvi = s.hvi ∧ (rampDone s i dest).hviStr = s.hviStr ∧ (rampDone s i dest).rings = s.rings ∧
    (rampDone s i dest).cee = s.cee ∧ (rampDone s i dest).tpe = s.tpe ∧ (rampDone s i dest).th = s.th ∧
    (rampDone s i dest).bal = s.bal ∧ (rampDone s i dest).dsp = s.dsp ∧ (rampDone s i dest).gx2 = s.gx2 ∧
    (rampDone s i dest).le = s.le ∧ (rampDone s i dest).rack = s.rack ∧ (rampDone s i dest).seq = s.seq ∧
    (rampDone s i dest).tsu = s.tsu ∧ (rampDone s i dest).net = s.net ∧ (rampDone s i dest).app = s.app ∧
    (rampDone s i dest).flt = s.flt ∧ (rampDone s i dest).upd = s.upd ∧ (rampDone s i dest).canRam = s.canRam ∧
    (rampDone s i dest).free = s.free := by
  unfold rampDone; (repeat' split) <;> simp

@[simp] theorem enterPause_keeps (s : State) (i : Nat) (cause : PauseCause) :
    (enterPause s i cause).pending = s.pending ∧ (enterPause s i cause).variant = s.variant ∧
    (enterPause s i cause).clk = s.clk ∧ (enterPause s i cause).unit = s.unit ∧ (enterPause s i cause).pwr = s.pwr ∧
    (enterPause s i cause).hvi = s.hvi ∧ (enterPause s i cause).hviStr = s.hviStr ∧
    (enterPause s i cause).rings = s.rings ∧ (enterPause s i cause).cee = s.cee ∧
    (enterPause s i cause).tpe = s.tpe ∧ (enterPause s i cause).th = s.th ∧ (enterPause s i cause).bal = s.bal ∧
    (enterPause s i cause).dsp = s.dsp ∧ (enterPause s i cause).gx2 = s.gx2 ∧ (enterPause s i cause).le = s.le ∧
    (enterPause s i cause).rack = s.rack ∧ (enterPause s i cause).seq = s.seq ∧ (enterPause s i cause).tsu = s.tsu ∧
    (enterPause s i cause).net = s.net ∧ (enterPause s i cause).app = s.app ∧ (enterPause s i cause).flt = s.flt ∧
    (enterPause s i cause).upd = s.upd ∧ (enterPause s i cause).canRam = s.canRam ∧
    (enterPause s i cause).free = s.free := by
  unfold enterPause; dsimp only; (repeat' split) <;> simp

@[simp] theorem startConverter_keeps (s : State) (i : Nat) :
    (startConverter s i).pending = s.pending ∧ (startConverter s i).variant = s.variant ∧
    (startConverter s i).clk = s.clk ∧ (startConverter s i).unit = s.unit ∧ (startConverter s i).pwr = s.pwr ∧
    (startConverter s i).hvi = s.hvi ∧ (startConverter s i).hviStr = s.hviStr ∧
    (startConverter s i).rings = s.rings ∧ (startConverter s i).cee = s.cee ∧ (startConverter s i).tpe = s.tpe ∧
    (startConverter s i).th = s.th ∧ (startConverter s i).bal = s.bal ∧ (startConverter s i).dsp = s.dsp ∧
    (startConverter s i).gx2 = s.gx2 ∧ (startConverter s i).rack = s.rack ∧ (startConverter s i).seq = s.seq ∧
    (startConverter s i).tsu = s.tsu ∧ (startConverter s i).net = s.net ∧ (startConverter s i).app = s.app ∧
    (startConverter s i).flt = s.flt ∧ (startConverter s i).upd = s.upd ∧ (startConverter s i).canRam = s.canRam ∧
    (startConverter s i).free = s.free := by
  unfold startConverter; (repeat' split) <;> simp

@[simp] theorem softStartStep_keeps (s : State) (i : Nat) :
    (softStartStep s i).pending = s.pending ∧ (softStartStep s i).variant = s.variant ∧
    (softStartStep s i).clk = s.clk ∧ (softStartStep s i).unit = s.unit ∧ (softStartStep s i).str = s.str ∧
    (softStartStep s i).pwr = s.pwr ∧ (softStartStep s i).hvi = s.hvi ∧ (softStartStep s i).hviStr = s.hviStr ∧
    (softStartStep s i).rings = s.rings ∧ (softStartStep s i).cee = s.cee ∧ (softStartStep s i).tpe = s.tpe ∧
    (softStartStep s i).th = s.th ∧ (softStartStep s i).bal = s.bal ∧ (softStartStep s i).dsp = s.dsp ∧
    (softStartStep s i).phase = s.phase ∧ (softStartStep s i).gx2 = s.gx2 ∧ (softStartStep s i).le = s.le ∧
    (softStartStep s i).saf = s.saf ∧ (softStartStep s i).red = s.red ∧ (softStartStep s i).rack = s.rack ∧
    (softStartStep s i).seq = s.seq ∧ (softStartStep s i).tsu = s.tsu ∧ (softStartStep s i).hpr = s.hpr ∧
    (softStartStep s i).net = s.net ∧ (softStartStep s i).app = s.app ∧ (softStartStep s i).icu = s.icu ∧
    (softStartStep s i).flt = s.flt ∧ (softStartStep s i).plg = s.plg ∧ (softStartStep s i).upd = s.upd ∧
    (softStartStep s i).mem = s.mem ∧ (softStartStep s i).canRam = s.canRam ∧ (softStartStep s i).free = s.free := by
  unfold softStartStep; (repeat' split) <;> simp

@[simp] theorem disconnectNow_keeps (s : State) (i : Nat) :
    (disconnectNow s i).pending = s.pending ∧ (disconnectNow s i).variant = s.variant ∧
    (disconnectNow s i).clk = s.clk ∧ (disconnectNow s i).unit = s.unit ∧ (disconnectNow s i).str = s.str ∧
    (disconnectNow s i).pwr = s.pwr ∧ (disconnectNow s i).hvi = s.hvi ∧ (disconnectNow s i).hviStr = s.hviStr ∧
    (disconnectNow s i).rings = s.rings ∧ (disconnectNow s i).cee = s.cee ∧ (disconnectNow s i).tpe = s.tpe ∧
    (disconnectNow s i).th = s.th ∧ (disconnectNow s i).bal = s.bal ∧ (disconnectNow s i).dsp = s.dsp ∧
    (disconnectNow s i).gx2 = s.gx2 ∧ (disconnectNow s i).le = s.le ∧ (disconnectNow s i).red = s.red ∧
    (disconnectNow s i).rack = s.rack ∧ (disconnectNow s i).seq = s.seq ∧ (disconnectNow s i).tsu = s.tsu ∧
    (disconnectNow s i).hpr = s.hpr ∧ (disconnectNow s i).net = s.net ∧ (disconnectNow s i).app = s.app ∧
    (disconnectNow s i).icu = s.icu ∧ (disconnectNow s i).flt = s.flt ∧ (disconnectNow s i).plg = s.plg ∧
    (disconnectNow s i).upd = s.upd ∧ (disconnectNow s i).mem = s.mem ∧ (disconnectNow s i).canRam = s.canRam ∧
    (disconnectNow s i).free = s.free := by
  unfold disconnectNow; (repeat' split) <;> simp

@[simp] theorem dropPhase_keeps (s : State) (p : Nat) :
    (dropPhase s p).pending = s.pending ∧ (dropPhase s p).variant = s.variant ∧ (dropPhase s p).clk = s.clk ∧
    (dropPhase s p).unit = s.unit ∧ (dropPhase s p).str = s.str ∧ (dropPhase s p).pwr = s.pwr ∧
    (dropPhase s p).hvi = s.hvi ∧ (dropPhase s p).hviStr = s.hviStr ∧ (dropPhase s p).rings = s.rings ∧
    (dropPhase s p).cee = s.cee ∧ (dropPhase s p).tpe = s.tpe ∧ (dropPhase s p).th = s.th ∧
    (dropPhase s p).bal = s.bal ∧ (dropPhase s p).dsp = s.dsp ∧ (dropPhase s p).gx2 = s.gx2 ∧
    (dropPhase s p).le = s.le ∧ (dropPhase s p).saf = s.saf ∧ (dropPhase s p).red = s.red ∧
    (dropPhase s p).rack = s.rack ∧ (dropPhase s p).seq = s.seq ∧ (dropPhase s p).tsu = s.tsu ∧
    (dropPhase s p).hpr = s.hpr ∧ (dropPhase s p).net = s.net ∧ (dropPhase s p).app = s.app ∧
    (dropPhase s p).icu = s.icu ∧ (dropPhase s p).flt = s.flt ∧ (dropPhase s p).plg = s.plg ∧
    (dropPhase s p).upd = s.upd ∧ (dropPhase s p).mem = s.mem ∧ (dropPhase s p).canRam = s.canRam ∧
    (dropPhase s p).free = s.free := by
  unfold dropPhase; dsimp only; (repeat' split) <;> simp

@[simp] theorem faultPhase_keeps (s : State) (p rule detail : Nat) :
    (faultPhase s p rule detail).pending = s.pending ∧ (faultPhase s p rule detail).variant = s.variant ∧
    (faultPhase s p rule detail).clk = s.clk ∧ (faultPhase s p rule detail).unit = s.unit ∧
    (faultPhase s p rule detail).str = s.str ∧ (faultPhase s p rule detail).pwr = s.pwr ∧
    (faultPhase s p rule detail).hvi = s.hvi ∧ (faultPhase s p rule detail).hviStr = s.hviStr ∧
    (faultPhase s p rule detail).rings = s.rings ∧ (faultPhase s p rule detail).cee = s.cee ∧
    (faultPhase s p rule detail).tpe = s.tpe ∧ (faultPhase s p rule detail).th = s.th ∧
    (faultPhase s p rule detail).bal = s.bal ∧ (faultPhase s p rule detail).dsp = s.dsp ∧
    (faultPhase s p rule detail).gx2 = s.gx2 ∧ (faultPhase s p rule detail).le = s.le ∧
    (faultPhase s p rule detail).saf = s.saf ∧ (faultPhase s p rule detail).red = s.red ∧
    (faultPhase s p rule detail).rack = s.rack ∧ (faultPhase s p rule detail).seq = s.seq ∧
    (faultPhase s p rule detail).tsu = s.tsu ∧ (faultPhase s p rule detail).hpr = s.hpr ∧
    (faultPhase s p rule detail).net = s.net ∧ (faultPhase s p rule detail).app = s.app ∧
    (faultPhase s p rule detail).upd = s.upd ∧ (faultPhase s p rule detail).mem = s.mem ∧
    (faultPhase s p rule detail).canRam = s.canRam ∧ (faultPhase s p rule detail).free = s.free := by
  unfold faultPhase; (repeat' split) <;> simp

@[simp] theorem periodBoundary_keeps (s : State) (p : Nat) (code : Int) :
    (periodBoundary s p code).pending = s.pending ∧ (periodBoundary s p code).variant = s.variant ∧
    (periodBoundary s p code).clk = s.clk ∧ (periodBoundary s p code).unit = s.unit ∧
    (periodBoundary s p code).str = s.str ∧ (periodBoundary s p code).pwr = s.pwr ∧
    (periodBoundary s p code).hvi = s.hvi ∧ (periodBoundary s p code).hviStr = s.hviStr ∧
    (periodBoundary s p code).rings = s.rings ∧ (periodBoundary s p code).cee = s.cee ∧
    (periodBoundary s p code).tpe = s.tpe ∧ (periodBoundary s p code).th = s.th ∧
    (periodBoundary s p code).bal = s.bal ∧ (periodBoundary s p code).dsp = s.dsp ∧
    (periodBoundary s p code).gx2 = s.gx2 ∧ (periodBoundary s p code).le = s.le ∧
    (periodBoundary s p code).red = s.red ∧ (periodBoundary s p code).rack = s.rack ∧
    (periodBoundary s p code).seq = s.seq ∧ (periodBoundary s p code).tsu = s.tsu ∧
    (periodBoundary s p code).hpr = s.hpr ∧ (periodBoundary s p code).net = s.net ∧
    (periodBoundary s p code).app = s.app ∧ (periodBoundary s p code).icu = s.icu ∧
    (periodBoundary s p code).flt = s.flt ∧ (periodBoundary s p code).plg = s.plg ∧
    (periodBoundary s p code).upd = s.upd ∧ (periodBoundary s p code).mem = s.mem ∧
    (periodBoundary s p code).canRam = s.canRam ∧ (periodBoundary s p code).free = s.free := by
  unfold periodBoundary; dsimp only; split <;> simp

@[simp] theorem ambiguous_keeps (s : State) (i : Nat) :
    (ambiguous s i).pending = s.pending ∧ (ambiguous s i).variant = s.variant ∧ (ambiguous s i).clk = s.clk ∧
    (ambiguous s i).unit = s.unit ∧ (ambiguous s i).pwr = s.pwr ∧ (ambiguous s i).hvi = s.hvi ∧
    (ambiguous s i).hviStr = s.hviStr ∧ (ambiguous s i).rings = s.rings ∧ (ambiguous s i).cee = s.cee ∧
    (ambiguous s i).tpe = s.tpe ∧ (ambiguous s i).th = s.th ∧ (ambiguous s i).bal = s.bal ∧
    (ambiguous s i).dsp = s.dsp ∧ (ambiguous s i).gx2 = s.gx2 ∧ (ambiguous s i).le = s.le ∧
    (ambiguous s i).rack = s.rack ∧ (ambiguous s i).seq = s.seq ∧ (ambiguous s i).tsu = s.tsu ∧
    (ambiguous s i).net = s.net ∧ (ambiguous s i).app = s.app ∧ (ambiguous s i).upd = s.upd ∧
    (ambiguous s i).canRam = s.canRam ∧ (ambiguous s i).free = s.free := by
  unfold ambiguous; (repeat' split) <;> simp

@[simp] theorem senseFault_keeps (s : State) (p : Nat) :
    (senseFault s p).pending = s.pending ∧ (senseFault s p).variant = s.variant ∧ (senseFault s p).clk = s.clk ∧
    (senseFault s p).unit = s.unit ∧ (senseFault s p).pwr = s.pwr ∧ (senseFault s p).hvi = s.hvi ∧
    (senseFault s p).hviStr = s.hviStr ∧ (senseFault s p).rings = s.rings ∧ (senseFault s p).cee = s.cee ∧
    (senseFault s p).tpe = s.tpe ∧ (senseFault s p).th = s.th ∧ (senseFault s p).bal = s.bal ∧
    (senseFault s p).dsp = s.dsp ∧ (senseFault s p).gx2 = s.gx2 ∧ (senseFault s p).le = s.le ∧
    (senseFault s p).rack = s.rack ∧ (senseFault s p).seq = s.seq ∧ (senseFault s p).tsu = s.tsu ∧
    (senseFault s p).net = s.net ∧ (senseFault s p).app = s.app ∧ (senseFault s p).upd = s.upd ∧
    (senseFault s p).canRam = s.canRam ∧ (senseFault s p).free = s.free := by
  unfold senseFault; (repeat' split) <;> simp

@[simp] theorem phaseEvaluation_keeps (s : State) (i : Nat) :
    (phaseEvaluation s i).pending = s.pending ∧ (phaseEvaluation s i).variant = s.variant ∧
    (phaseEvaluation s i).clk = s.clk ∧ (phaseEvaluation s i).unit = s.unit ∧ (phaseEvaluation s i).pwr = s.pwr ∧
    (phaseEvaluation s i).hvi = s.hvi ∧ (phaseEvaluation s i).hviStr = s.hviStr ∧
    (phaseEvaluation s i).rings = s.rings ∧ (phaseEvaluation s i).cee = s.cee ∧ (phaseEvaluation s i).tpe = s.tpe ∧
    (phaseEvaluation s i).th = s.th ∧ (phaseEvaluation s i).bal = s.bal ∧ (phaseEvaluation s i).dsp = s.dsp ∧
    (phaseEvaluation s i).gx2 = s.gx2 ∧ (phaseEvaluation s i).le = s.le ∧ (phaseEvaluation s i).rack = s.rack ∧
    (phaseEvaluation s i).seq = s.seq ∧ (phaseEvaluation s i).tsu = s.tsu ∧ (phaseEvaluation s i).net = s.net ∧
    (phaseEvaluation s i).app = s.app ∧ (phaseEvaluation s i).upd = s.upd ∧ (phaseEvaluation s i).canRam = s.canRam ∧
    (phaseEvaluation s i).free = s.free := by
  unfold phaseEvaluation; dsimp only; split <;> simp

@[simp] theorem syncEdgeAt_keeps (s : State) :
    (syncEdgeAt s).pending = s.pending ∧ (syncEdgeAt s).variant = s.variant ∧ (syncEdgeAt s).clk = s.clk ∧
    (syncEdgeAt s).unit = s.unit ∧ (syncEdgeAt s).str = s.str ∧ (syncEdgeAt s).pwr = s.pwr ∧
    (syncEdgeAt s).hvi = s.hvi ∧ (syncEdgeAt s).hviStr = s.hviStr ∧ (syncEdgeAt s).rings = s.rings ∧
    (syncEdgeAt s).cee = s.cee ∧ (syncEdgeAt s).tpe = s.tpe ∧ (syncEdgeAt s).th = s.th ∧ (syncEdgeAt s).bal = s.bal ∧
    (syncEdgeAt s).dsp = s.dsp ∧ (syncEdgeAt s).phase = s.phase ∧ (syncEdgeAt s).gx2 = s.gx2 ∧
    (syncEdgeAt s).le = s.le ∧ (syncEdgeAt s).saf = s.saf ∧ (syncEdgeAt s).red = s.red ∧
    (syncEdgeAt s).rack = s.rack ∧ (syncEdgeAt s).seq = s.seq ∧ (syncEdgeAt s).tsu = s.tsu ∧
    (syncEdgeAt s).hpr = s.hpr ∧ (syncEdgeAt s).net = s.net ∧ (syncEdgeAt s).app = s.app ∧
    (syncEdgeAt s).icu = s.icu ∧ (syncEdgeAt s).flt = s.flt ∧ (syncEdgeAt s).plg = s.plg ∧
    (syncEdgeAt s).upd = s.upd ∧ (syncEdgeAt s).mem = s.mem ∧ (syncEdgeAt s).canRam = s.canRam ∧
    (syncEdgeAt s).free = s.free := by
  unfold syncEdgeAt; (repeat' split) <;> simp

@[simp] theorem gx2Fault_keeps (s : State) (p code : Nat) :
    (gx2Fault s p code).pending = s.pending ∧ (gx2Fault s p code).variant = s.variant ∧
    (gx2Fault s p code).clk = s.clk ∧ (gx2Fault s p code).unit = s.unit ∧ (gx2Fault s p code).str = s.str ∧
    (gx2Fault s p code).pwr = s.pwr ∧ (gx2Fault s p code).hvi = s.hvi ∧ (gx2Fault s p code).hviStr = s.hviStr ∧
    (gx2Fault s p code).rings = s.rings ∧ (gx2Fault s p code).cee = s.cee ∧ (gx2Fault s p code).tpe = s.tpe ∧
    (gx2Fault s p code).th = s.th ∧ (gx2Fault s p code).bal = s.bal ∧ (gx2Fault s p code).dsp = s.dsp ∧
    (gx2Fault s p code).conv = s.conv ∧ (gx2Fault s p code).phase = s.phase ∧ (gx2Fault s p code).le = s.le ∧
    (gx2Fault s p code).saf = s.saf ∧ (gx2Fault s p code).red = s.red ∧ (gx2Fault s p code).rack = s.rack ∧
    (gx2Fault s p code).seq = s.seq ∧ (gx2Fault s p code).tsu = s.tsu ∧ (gx2Fault s p code).hpr = s.hpr ∧
    (gx2Fault s p code).net = s.net ∧ (gx2Fault s p code).app = s.app ∧ (gx2Fault s p code).icu = s.icu ∧
    (gx2Fault s p code).flt = s.flt ∧ (gx2Fault s p code).plg = s.plg ∧ (gx2Fault s p code).upd = s.upd ∧
    (gx2Fault s p code).mem = s.mem ∧ (gx2Fault s p code).canRam = s.canRam ∧ (gx2Fault s p code).free = s.free := by
  unfold gx2Fault; (repeat' split) <;> simp

@[simp] theorem gx2Reply_keeps (s : State) (p : Nat) (r : Gx2Reply) :
    (gx2Reply s p r).pending = s.pending ∧ (gx2Reply s p r).variant = s.variant ∧ (gx2Reply s p r).clk = s.clk ∧
    (gx2Reply s p r).unit = s.unit ∧ (gx2Reply s p r).str = s.str ∧ (gx2Reply s p r).pwr = s.pwr ∧
    (gx2Reply s p r).hvi = s.hvi ∧ (gx2Reply s p r).hviStr = s.hviStr ∧ (gx2Reply s p r).rings = s.rings ∧
    (gx2Reply s p r).cee = s.cee ∧ (gx2Reply s p r).tpe = s.tpe ∧ (gx2Reply s p r).th = s.th ∧
    (gx2Reply s p r).bal = s.bal ∧ (gx2Reply s p r).dsp = s.dsp ∧ (gx2Reply s p r).le = s.le ∧
    (gx2Reply s p r).saf = s.saf ∧ (gx2Reply s p r).rack = s.rack ∧ (gx2Reply s p r).seq = s.seq ∧
    (gx2Reply s p r).tsu = s.tsu ∧ (gx2Reply s p r).hpr = s.hpr ∧ (gx2Reply s p r).net = s.net ∧
    (gx2Reply s p r).app = s.app ∧ (gx2Reply s p r).upd = s.upd ∧ (gx2Reply s p r).mem = s.mem ∧
    (gx2Reply s p r).canRam = s.canRam ∧ (gx2Reply s p r).free = s.free := by
  unfold gx2Reply; (repeat' split) <;> simp

@[simp] theorem storeCnv_keeps (s : State) (p : Bytes) :
    (storeCnv s p).pending = s.pending ∧ (storeCnv s p).variant = s.variant ∧ (storeCnv s p).clk = s.clk ∧
    (storeCnv s p).hviStr = s.hviStr ∧ (storeCnv s p).cee = s.cee ∧ (storeCnv s p).tpe = s.tpe ∧
    (storeCnv s p).th = s.th ∧ (storeCnv s p).dsp = s.dsp ∧ (storeCnv s p).le = s.le ∧ (storeCnv s p).rack = s.rack ∧
    (storeCnv s p).seq = s.seq ∧ (storeCnv s p).tsu = s.tsu ∧ (storeCnv s p).net = s.net ∧
    (storeCnv s p).upd = s.upd ∧ (storeCnv s p).canRam = s.canRam ∧ (storeCnv s p).free = s.free := by
  unfold storeCnv; (repeat' split) <;> simp

@[simp] theorem storeShift_keeps (s : State) (p : Bytes) :
    (storeShift s p).pending = s.pending ∧ (storeShift s p).variant = s.variant ∧ (storeShift s p).clk = s.clk ∧
    (storeShift s p).unit = s.unit ∧ (storeShift s p).str = s.str ∧ (storeShift s p).pwr = s.pwr ∧
    (storeShift s p).hvi = s.hvi ∧ (storeShift s p).hviStr = s.hviStr ∧ (storeShift s p).rings = s.rings ∧
    (storeShift s p).cee = s.cee ∧ (storeShift s p).tpe = s.tpe ∧ (storeShift s p).th = s.th ∧
    (storeShift s p).bal = s.bal ∧ (storeShift s p).dsp = s.dsp ∧ (storeShift s p).phase = s.phase ∧
    (storeShift s p).gx2 = s.gx2 ∧ (storeShift s p).le = s.le ∧ (storeShift s p).saf = s.saf ∧
    (storeShift s p).red = s.red ∧ (storeShift s p).rack = s.rack ∧ (storeShift s p).seq = s.seq ∧
    (storeShift s p).tsu = s.tsu ∧ (storeShift s p).hpr = s.hpr ∧ (storeShift s p).net = s.net ∧
    (storeShift s p).app = s.app ∧ (storeShift s p).icu = s.icu ∧ (storeShift s p).flt = s.flt ∧
    (storeShift s p).plg = s.plg ∧ (storeShift s p).upd = s.upd ∧ (storeShift s p).mem = s.mem ∧
    (storeShift s p).canRam = s.canRam ∧ (storeShift s p).free = s.free := by
  unfold storeShift; (repeat' split) <;> simp

end Sys2Proof.Machine
end

