-- ==== Sys2Proof/Laws/Hvi.lean ====
section
/-! SUPPORT. What the operations of Hvi leave alone. -/

namespace Sys2Proof.Machine

@[simp] theorem publishAligned_keeps (s : State) (i : Nat) :
    (publishAligned s i).pending = s.pending ∧ (publishAligned s i).variant = s.variant ∧
    (publishAligned s i).clk = s.clk ∧ (publishAligned s i).unit = s.unit ∧ (publishAligned s i).str = s.str ∧
    (publishAligned s i).pwr = s.pwr ∧ (publishAligned s i).hvi = s.hvi ∧ (publishAligned s i).rings = s.rings ∧
    (publishAligned s i).cee = s.cee ∧ (publishAligned s i).tpe = s.tpe ∧ (publishAligned s i).th = s.th ∧
    (publishAligned s i).bal = s.bal ∧ (publishAligned s i).dsp = s.dsp ∧ (publishAligned s i).conv = s.conv ∧
    (publishAligned s i).phase = s.phase ∧ (publishAligned s i).gx2 = s.gx2 ∧ (publishAligned s i).le = s.le ∧
    (publishAligned s i).saf = s.saf ∧ (publishAligned s i).red = s.red ∧ (publishAligned s i).rack = s.rack ∧
    (publishAligned s i).seq = s.seq ∧ (publishAligned s i).tsu = s.tsu ∧ (publishAligned s i).hpr = s.hpr ∧
    (publishAligned s i).net = s.net ∧ (publishAligned s i).app = s.app ∧ (publishAligned s i).icu = s.icu ∧
    (publishAligned s i).flt = s.flt ∧ (publishAligned s i).plg = s.plg ∧ (publishAligned s i).upd = s.upd ∧
    (publishAligned s i).mem = s.mem ∧ (publishAligned s i).canRam = s.canRam ∧ (publishAligned s i).free = s.free := by
  unfold publishAligned; dsimp only; split <;> simp

@[simp] theorem convSample_keeps (s : State) (i : Nat) :
    (convSample s i).pending = s.pending ∧ (convSample s i).variant = s.variant ∧ (convSample s i).clk = s.clk ∧
    (convSample s i).unit = s.unit ∧ (convSample s i).str = s.str ∧ (convSample s i).pwr = s.pwr ∧
    (convSample s i).hvi = s.hvi ∧ (convSample s i).hviStr = s.hviStr ∧ (convSample s i).rings = s.rings ∧
    (convSample s i).cee = s.cee ∧ (convSample s i).tpe = s.tpe ∧ (convSample s i).th = s.th ∧
    (convSample s i).bal = s.bal ∧ (convSample s i).dsp = s.dsp ∧ (convSample s i).phase = s.phase ∧
    (convSample s i).gx2 = s.gx2 ∧ (convSample s i).le = s.le ∧ (convSample s i).saf = s.saf ∧
    (convSample s i).red = s.red ∧ (convSample s i).rack = s.rack ∧ (convSample s i).seq = s.seq ∧
    (convSample s i).tsu = s.tsu ∧ (convSample s i).hpr = s.hpr ∧ (convSample s i).net = s.net ∧
    (convSample s i).app = s.app ∧ (convSample s i).icu = s.icu ∧ (convSample s i).flt = s.flt ∧
    (convSample s i).plg = s.plg ∧ (convSample s i).upd = s.upd ∧ (convSample s i).mem = s.mem ∧
    (convSample s i).canRam = s.canRam ∧ (convSample s i).free = s.free := by
  unfold convSample; (repeat' split) <;> simp

@[simp] theorem writeCheck_keeps (s : State) :
    (writeCheck s).pending = s.pending ∧ (writeCheck s).variant = s.variant ∧ (writeCheck s).clk = s.clk ∧
    (writeCheck s).unit = s.unit ∧ (writeCheck s).str = s.str ∧ (writeCheck s).hviStr = s.hviStr ∧
    (writeCheck s).rings = s.rings ∧ (writeCheck s).cee = s.cee ∧ (writeCheck s).tpe = s.tpe ∧
    (writeCheck s).th = s.th ∧ (writeCheck s).bal = s.bal ∧ (writeCheck s).dsp = s.dsp ∧
    (writeCheck s).conv = s.conv ∧ (writeCheck s).phase = s.phase ∧ (writeCheck s).gx2 = s.gx2 ∧
    (writeCheck s).le = s.le ∧ (writeCheck s).saf = s.saf ∧ (writeCheck s).red = s.red ∧
    (writeCheck s).rack = s.rack ∧ (writeCheck s).seq = s.seq ∧ (writeCheck s).tsu = s.tsu ∧
    (writeCheck s).hpr = s.hpr ∧ (writeCheck s).net = s.net ∧ (writeCheck s).app = s.app ∧
    (writeCheck s).icu = s.icu ∧ (writeCheck s).flt = s.flt ∧ (writeCheck s).plg = s.plg ∧
    (writeCheck s).upd = s.upd ∧ (writeCheck s).mem = s.mem ∧ (writeCheck s).canRam = s.canRam ∧
    (writeCheck s).free = s.free := by
  unfold writeCheck; (repeat' split) <;> simp

@[simp] theorem loadCheck_keeps (s : State) :
    (loadCheck s).pending = s.pending ∧ (loadCheck s).variant = s.variant ∧ (loadCheck s).clk = s.clk ∧
    (loadCheck s).unit = s.unit ∧ (loadCheck s).str = s.str ∧ (loadCheck s).pwr = s.pwr ∧ (loadCheck s).hvi = s.hvi ∧
    (loadCheck s).rings = s.rings ∧ (loadCheck s).cee = s.cee ∧ (loadCheck s).tpe = s.tpe ∧ (loadCheck s).th = s.th ∧
    (loadCheck s).bal = s.bal ∧ (loadCheck s).dsp = s.dsp ∧ (loadCheck s).conv = s.conv ∧
    (loadCheck s).phase = s.phase ∧ (loadCheck s).gx2 = s.gx2 ∧ (loadCheck s).le = s.le ∧ (loadCheck s).saf = s.saf ∧
    (loadCheck s).red = s.red ∧ (loadCheck s).rack = s.rack ∧ (loadCheck s).seq = s.seq ∧ (loadCheck s).tsu = s.tsu ∧
    (loadCheck s).hpr = s.hpr ∧ (loadCheck s).net = s.net ∧ (loadCheck s).app = s.app ∧ (loadCheck s).flt = s.flt ∧
    (loadCheck s).upd = s.upd ∧ (loadCheck s).mem = s.mem ∧ (loadCheck s).canRam = s.canRam ∧
    (loadCheck s).free = s.free := by
  unfold loadCheck; (repeat' split) <;> simp

@[simp] theorem busWatch_keeps (s : State) :
    (busWatch s).pending = s.pending ∧ (busWatch s).variant = s.variant ∧ (busWatch s).clk = s.clk ∧
    (busWatch s).unit = s.unit ∧ (busWatch s).str = s.str ∧ (busWatch s).pwr = s.pwr ∧ (busWatch s).hvi = s.hvi ∧
    (busWatch s).hviStr = s.hviStr ∧ (busWatch s).rings = s.rings ∧ (busWatch s).cee = s.cee ∧
    (busWatch s).tpe = s.tpe ∧ (busWatch s).th = s.th ∧ (busWatch s).bal = s.bal ∧ (busWatch s).dsp = s.dsp ∧
    (busWatch s).phase = s.phase ∧ (busWatch s).gx2 = s.gx2 ∧ (busWatch s).le = s.le ∧ (busWatch s).saf = s.saf ∧
    (busWatch s).red = s.red ∧ (busWatch s).rack = s.rack ∧ (busWatch s).seq = s.seq ∧ (busWatch s).tsu = s.tsu ∧
    (busWatch s).hpr = s.hpr ∧ (busWatch s).net = s.net ∧ (busWatch s).app = s.app ∧ (busWatch s).icu = s.icu ∧
    (busWatch s).flt = s.flt ∧ (busWatch s).plg = s.plg ∧ (busWatch s).upd = s.upd ∧ (busWatch s).mem = s.mem ∧
    (busWatch s).canRam = s.canRam ∧ (busWatch s).free = s.free := by
  unfold busWatch; (repeat' split) <;> simp

@[simp] theorem noteDiscard_keeps (s : State) (ch : Nat) :
    (noteDiscard s ch).pending = s.pending ∧ (noteDiscard s ch).variant = s.variant ∧
    (noteDiscard s ch).clk = s.clk ∧ (noteDiscard s ch).unit = s.unit ∧ (noteDiscard s ch).str = s.str ∧
    (noteDiscard s ch).pwr = s.pwr ∧ (noteDiscard s ch).rings = s.rings ∧ (noteDiscard s ch).cee = s.cee ∧
    (noteDiscard s ch).tpe = s.tpe ∧ (noteDiscard s ch).th = s.th ∧ (noteDiscard s ch).bal = s.bal ∧
    (noteDiscard s ch).dsp = s.dsp ∧ (noteDiscard s ch).conv = s.conv ∧ (noteDiscard s ch).phase = s.phase ∧
    (noteDiscard s ch).gx2 = s.gx2 ∧ (noteDiscard s ch).le = s.le ∧ (noteDiscard s ch).saf = s.saf ∧
    (noteDiscard s ch).red = s.red ∧ (noteDiscard s ch).rack = s.rack ∧ (noteDiscard s ch).seq = s.seq ∧
    (noteDiscard s ch).tsu = s.tsu ∧ (noteDiscard s ch).hpr = s.hpr ∧ (noteDiscard s ch).net = s.net ∧
    (noteDiscard s ch).app = s.app ∧ (noteDiscard s ch).upd = s.upd ∧ (noteDiscard s ch).mem = s.mem ∧
    (noteDiscard s ch).canRam = s.canRam ∧ (noteDiscard s ch).free = s.free := by
  unfold noteDiscard; (repeat' split) <;> simp

@[simp] theorem setIso_keeps (s : State) (mode : IsoMode) (thr : Nat) :
    (setIso s mode thr).pending = s.pending ∧ (setIso s mode thr).variant = s.variant ∧
    (setIso s mode thr).clk = s.clk ∧ (setIso s mode thr).unit = s.unit ∧ (setIso s mode thr).str = s.str ∧
    (setIso s mode thr).pwr = s.pwr ∧ (setIso s mode thr).hviStr = s.hviStr ∧ (setIso s mode thr).rings = s.rings ∧
    (setIso s mode thr).cee = s.cee ∧ (setIso s mode thr).tpe = s.tpe ∧ (setIso s mode thr).th = s.th ∧
    (setIso s mode thr).bal = s.bal ∧ (setIso s mode thr).dsp = s.dsp ∧ (setIso s mode thr).conv = s.conv ∧
    (setIso s mode thr).phase = s.phase ∧ (setIso s mode thr).gx2 = s.gx2 ∧ (setIso s mode thr).le = s.le ∧
    (setIso s mode thr).saf = s.saf ∧ (setIso s mode thr).red = s.red ∧ (setIso s mode thr).rack = s.rack ∧
    (setIso s mode thr).seq = s.seq ∧ (setIso s mode thr).tsu = s.tsu ∧ (setIso s mode thr).hpr = s.hpr ∧
    (setIso s mode thr).net = s.net ∧ (setIso s mode thr).app = s.app ∧ (setIso s mode thr).icu = s.icu ∧
    (setIso s mode thr).flt = s.flt ∧ (setIso s mode thr).plg = s.plg ∧ (setIso s mode thr).upd = s.upd ∧
    (setIso s mode thr).mem = s.mem ∧ (setIso s mode thr).canRam = s.canRam ∧ (setIso s mode thr).free = s.free := by
  unfold setIso; (repeat' split) <;> simp

end Sys2Proof.Machine
end

