-- ==== Sys2Proof/Laws/Thermal.lean ====
section
/-! SUPPORT. What the operations of Thermal leave alone. -/

namespace Sys2Proof.Machine

@[simp] theorem syncWarnings_keeps (s : State) :
    (syncWarnings s).pending = s.pending ∧ (syncWarnings s).variant = s.variant ∧ (syncWarnings s).clk = s.clk ∧
    (syncWarnings s).unit = s.unit ∧ (syncWarnings s).str = s.str ∧ (syncWarnings s).pwr = s.pwr ∧
    (syncWarnings s).hvi = s.hvi ∧ (syncWarnings s).hviStr = s.hviStr ∧ (syncWarnings s).rings = s.rings ∧
    (syncWarnings s).cee = s.cee ∧ (syncWarnings s).tpe = s.tpe ∧ (syncWarnings s).bal = s.bal ∧
    (syncWarnings s).dsp = s.dsp ∧ (syncWarnings s).conv = s.conv ∧ (syncWarnings s).phase = s.phase ∧
    (syncWarnings s).gx2 = s.gx2 ∧ (syncWarnings s).le = s.le ∧ (syncWarnings s).saf = s.saf ∧
    (syncWarnings s).red = s.red ∧ (syncWarnings s).rack = s.rack ∧ (syncWarnings s).seq = s.seq ∧
    (syncWarnings s).tsu = s.tsu ∧ (syncWarnings s).hpr = s.hpr ∧ (syncWarnings s).net = s.net ∧
    (syncWarnings s).app = s.app ∧ (syncWarnings s).flt = s.flt ∧ (syncWarnings s).upd = s.upd ∧
    (syncWarnings s).mem = s.mem ∧ (syncWarnings s).canRam = s.canRam ∧ (syncWarnings s).free = s.free := by
  unfold syncWarnings; (repeat' split) <;> simp

@[simp] theorem tiSafety_keeps (s : State) (n : Nat) (v : Option Int) (c : Channel) :
    (tiSafety s n v c).pending = s.pending ∧ (tiSafety s n v c).variant = s.variant ∧
    (tiSafety s n v c).clk = s.clk ∧ (tiSafety s n v c).unit = s.unit ∧ (tiSafety s n v c).hvi = s.hvi ∧
    (tiSafety s n v c).hviStr = s.hviStr ∧ (tiSafety s n v c).cee = s.cee ∧ (tiSafety s n v c).tpe = s.tpe ∧
    (tiSafety s n v c).dsp = s.dsp ∧ (tiSafety s n v c).gx2 = s.gx2 ∧ (tiSafety s n v c).le = s.le ∧
    (tiSafety s n v c).red = s.red ∧ (tiSafety s n v c).rack = s.rack ∧ (tiSafety s n v c).seq = s.seq ∧
    (tiSafety s n v c).tsu = s.tsu ∧ (tiSafety s n v c).net = s.net ∧ (tiSafety s n v c).app = s.app ∧
    (tiSafety s n v c).flt = s.flt ∧ (tiSafety s n v c).upd = s.upd ∧ (tiSafety s n v c).canRam = s.canRam ∧
    (tiSafety s n v c).free = s.free := by
  unfold tiSafety; (repeat' split) <;> simp

@[simp] theorem tiJudge_keeps (s : State) (n : Nat) (v : Option Int) :
    (tiJudge s n v).pending = s.pending ∧ (tiJudge s n v).variant = s.variant ∧ (tiJudge s n v).clk = s.clk ∧
    (tiJudge s n v).unit = s.unit ∧ (tiJudge s n v).hvi = s.hvi ∧ (tiJudge s n v).hviStr = s.hviStr ∧
    (tiJudge s n v).cee = s.cee ∧ (tiJudge s n v).tpe = s.tpe ∧ (tiJudge s n v).dsp = s.dsp ∧
    (tiJudge s n v).gx2 = s.gx2 ∧ (tiJudge s n v).le = s.le ∧ (tiJudge s n v).red = s.red ∧
    (tiJudge s n v).seq = s.seq ∧ (tiJudge s n v).tsu = s.tsu ∧ (tiJudge s n v).net = s.net ∧
    (tiJudge s n v).app = s.app ∧ (tiJudge s n v).flt = s.flt ∧ (tiJudge s n v).upd = s.upd ∧
    (tiJudge s n v).canRam = s.canRam ∧ (tiJudge s n v).free = s.free := by
  unfold tiJudge; dsimp only; split <;> simp

@[simp] theorem sensorSample_keeps (slow : Bool) (crc : Nat) (s : State) (key : Nat) (raw : Int) :
    (sensorSample slow crc s key raw).pending = s.pending ∧ (sensorSample slow crc s key raw).variant = s.variant ∧
    (sensorSample slow crc s key raw).clk = s.clk ∧ (sensorSample slow crc s key raw).unit = s.unit ∧
    (sensorSample slow crc s key raw).hvi = s.hvi ∧ (sensorSample slow crc s key raw).hviStr = s.hviStr ∧
    (sensorSample slow crc s key raw).cee = s.cee ∧ (sensorSample slow crc s key raw).tpe = s.tpe ∧
    (sensorSample slow crc s key raw).dsp = s.dsp ∧ (sensorSample slow crc s key raw).gx2 = s.gx2 ∧
    (sensorSample slow crc s key raw).le = s.le ∧ (sensorSample slow crc s key raw).red = s.red ∧
    (sensorSample slow crc s key raw).rack = s.rack ∧ (sensorSample slow crc s key raw).seq = s.seq ∧
    (sensorSample slow crc s key raw).tsu = s.tsu ∧ (sensorSample slow crc s key raw).net = s.net ∧
    (sensorSample slow crc s key raw).app = s.app ∧ (sensorSample slow crc s key raw).flt = s.flt ∧
    (sensorSample slow crc s key raw).upd = s.upd ∧ (sensorSample slow crc s key raw).canRam = s.canRam ∧
    (sensorSample slow crc s key raw).free = s.free := by
  unfold sensorSample; (repeat' split) <;> simp

@[simp] theorem sensorRound_keeps (s : State) (i m : Nat) (d : RoundData) :
    (sensorRound s i m d).pending = s.pending ∧ (sensorRound s i m d).variant = s.variant ∧
    (sensorRound s i m d).clk = s.clk ∧ (sensorRound s i m d).unit = s.unit ∧ (sensorRound s i m d).hvi = s.hvi ∧
    (sensorRound s i m d).hviStr = s.hviStr ∧ (sensorRound s i m d).cee = s.cee ∧ (sensorRound s i m d).tpe = s.tpe ∧
    (sensorRound s i m d).dsp = s.dsp ∧ (sensorRound s i m d).gx2 = s.gx2 ∧ (sensorRound s i m d).le = s.le ∧
    (sensorRound s i m d).red = s.red ∧ (sensorRound s i m d).rack = s.rack ∧ (sensorRound s i m d).seq = s.seq ∧
    (sensorRound s i m d).tsu = s.tsu ∧ (sensorRound s i m d).net = s.net ∧ (sensorRound s i m d).app = s.app ∧
    (sensorRound s i m d).flt = s.flt ∧ (sensorRound s i m d).upd = s.upd ∧ (sensorRound s i m d).canRam = s.canRam ∧
    (sensorRound s i m d).free = s.free := by
  unfold sensorRound; (repeat' split) <;> simp

@[simp] theorem storeTi_keeps (s : State) (p : Bytes) :
    (storeTi s p).pending = s.pending ∧ (storeTi s p).variant = s.variant ∧ (storeTi s p).clk = s.clk ∧
    (storeTi s p).unit = s.unit ∧ (storeTi s p).str = s.str ∧ (storeTi s p).pwr = s.pwr ∧ (storeTi s p).hvi = s.hvi ∧
    (storeTi s p).hviStr = s.hviStr ∧ (storeTi s p).rings = s.rings ∧ (storeTi s p).cee = s.cee ∧
    (storeTi s p).tpe = s.tpe ∧ (storeTi s p).bal = s.bal ∧ (storeTi s p).dsp = s.dsp ∧ (storeTi s p).conv = s.conv ∧
    (storeTi s p).phase = s.phase ∧ (storeTi s p).gx2 = s.gx2 ∧ (storeTi s p).le = s.le ∧ (storeTi s p).saf = s.saf ∧
    (storeTi s p).red = s.red ∧ (storeTi s p).rack = s.rack ∧ (storeTi s p).seq = s.seq ∧ (storeTi s p).tsu = s.tsu ∧
    (storeTi s p).hpr = s.hpr ∧ (storeTi s p).net = s.net ∧ (storeTi s p).app = s.app ∧ (storeTi s p).flt = s.flt ∧
    (storeTi s p).upd = s.upd ∧ (storeTi s p).mem = s.mem ∧ (storeTi s p).canRam = s.canRam ∧
    (storeTi s p).free = s.free := by
  unfold storeTi; (repeat' split) <;> simp

@[simp] theorem setWarn_keeps (s : State) (p : Bytes) :
    (setWarn s p).pending = s.pending ∧ (setWarn s p).variant = s.variant ∧ (setWarn s p).clk = s.clk ∧
    (setWarn s p).unit = s.unit ∧ (setWarn s p).str = s.str ∧ (setWarn s p).pwr = s.pwr ∧ (setWarn s p).hvi = s.hvi ∧
    (setWarn s p).hviStr = s.hviStr ∧ (setWarn s p).rings = s.rings ∧ (setWarn s p).cee = s.cee ∧
    (setWarn s p).tpe = s.tpe ∧ (setWarn s p).bal = s.bal ∧ (setWarn s p).dsp = s.dsp ∧ (setWarn s p).conv = s.conv ∧
    (setWarn s p).phase = s.phase ∧ (setWarn s p).gx2 = s.gx2 ∧ (setWarn s p).le = s.le ∧ (setWarn s p).saf = s.saf ∧
    (setWarn s p).red = s.red ∧ (setWarn s p).rack = s.rack ∧ (setWarn s p).seq = s.seq ∧ (setWarn s p).tsu = s.tsu ∧
    (setWarn s p).hpr = s.hpr ∧ (setWarn s p).net = s.net ∧ (setWarn s p).app = s.app ∧ (setWarn s p).icu = s.icu ∧
    (setWarn s p).flt = s.flt ∧ (setWarn s p).plg = s.plg ∧ (setWarn s p).upd = s.upd ∧ (setWarn s p).mem = s.mem ∧
    (setWarn s p).canRam = s.canRam ∧ (setWarn s p).free = s.free := by
  unfold setWarn; (repeat' split) <;> simp

end Sys2Proof.Machine
end

