-- ==== Sys2Proof/Laws/Pair.lean ====
section
/-! SUPPORT. What the operations of Pair leave alone. -/

namespace Sys2Proof.Machine

@[simp] theorem issueClaim_keeps (s : State) :
    (issueClaim s).pending = s.pending ∧ (issueClaim s).variant = s.variant ∧ (issueClaim s).clk = s.clk ∧
    (issueClaim s).unit = s.unit ∧ (issueClaim s).str = s.str ∧ (issueClaim s).hvi = s.hvi ∧
    (issueClaim s).hviStr = s.hviStr ∧ (issueClaim s).rings = s.rings ∧ (issueClaim s).cee = s.cee ∧
    (issueClaim s).tpe = s.tpe ∧ (issueClaim s).th = s.th ∧ (issueClaim s).bal = s.bal ∧ (issueClaim s).dsp = s.dsp ∧
    (issueClaim s).conv = s.conv ∧ (issueClaim s).phase = s.phase ∧ (issueClaim s).gx2 = s.gx2 ∧
    (issueClaim s).le = s.le ∧ (issueClaim s).saf = s.saf ∧ (issueClaim s).rack = s.rack ∧
    (issueClaim s).seq = s.seq ∧ (issueClaim s).tsu = s.tsu ∧ (issueClaim s).hpr = s.hpr ∧
    (issueClaim s).net = s.net ∧ (issueClaim s).app = s.app ∧ (issueClaim s).icu = s.icu ∧
    (issueClaim s).flt = s.flt ∧ (issueClaim s).plg = s.plg ∧ (issueClaim s).upd = s.upd ∧
    (issueClaim s).mem = s.mem ∧ (issueClaim s).canRam = s.canRam ∧ (issueClaim s).free = s.free := by
  unfold issueClaim; (repeat' split) <;> simp

@[simp] theorem sendBeat_keeps (s : State) (dormant : Bool) :
    (sendBeat s dormant).pending = s.pending ∧ (sendBeat s dormant).variant = s.variant ∧
    (sendBeat s dormant).clk = s.clk ∧ (sendBeat s dormant).unit = s.unit ∧ (sendBeat s dormant).str = s.str ∧
    (sendBeat s dormant).pwr = s.pwr ∧ (sendBeat s dormant).hvi = s.hvi ∧ (sendBeat s dormant).hviStr = s.hviStr ∧
    (sendBeat s dormant).rings = s.rings ∧ (sendBeat s dormant).cee = s.cee ∧ (sendBeat s dormant).tpe = s.tpe ∧
    (sendBeat s dormant).th = s.th ∧ (sendBeat s dormant).bal = s.bal ∧ (sendBeat s dormant).dsp = s.dsp ∧
    (sendBeat s dormant).conv = s.conv ∧ (sendBeat s dormant).phase = s.phase ∧ (sendBeat s dormant).gx2 = s.gx2 ∧
    (sendBeat s dormant).le = s.le ∧ (sendBeat s dormant).saf = s.saf ∧ (sendBeat s dormant).rack = s.rack ∧
    (sendBeat s dormant).seq = s.seq ∧ (sendBeat s dormant).tsu = s.tsu ∧ (sendBeat s dormant).hpr = s.hpr ∧
    (sendBeat s dormant).net = s.net ∧ (sendBeat s dormant).app = s.app ∧ (sendBeat s dormant).icu = s.icu ∧
    (sendBeat s dormant).flt = s.flt ∧ (sendBeat s dormant).plg = s.plg ∧ (sendBeat s dormant).upd = s.upd ∧
    (sendBeat s dormant).mem = s.mem ∧ (sendBeat s dormant).canRam = s.canRam ∧ (sendBeat s dormant).free = s.free := by
  unfold sendBeat; (repeat' split) <;> simp

@[simp] theorem setRole_keeps (s : State) (u : UnitState) (cause : Nat) (takeover : Bool) :
    (setRole s u cause takeover).pending = s.pending ∧ (setRole s u cause takeover).variant = s.variant ∧
    (setRole s u cause takeover).clk = s.clk ∧ (setRole s u cause takeover).str = s.str ∧
    (setRole s u cause takeover).pwr = s.pwr ∧ (setRole s u cause takeover).hviStr = s.hviStr ∧
    (setRole s u cause takeover).rings = s.rings ∧ (setRole s u cause takeover).cee = s.cee ∧
    (setRole s u cause takeover).tpe = s.tpe ∧ (setRole s u cause takeover).th = s.th ∧
    (setRole s u cause takeover).bal = s.bal ∧ (setRole s u cause takeover).dsp = s.dsp ∧
    (setRole s u cause takeover).conv = s.conv ∧ (setRole s u cause takeover).phase = s.phase ∧
    (setRole s u cause takeover).gx2 = s.gx2 ∧ (setRole s u cause takeover).le = s.le ∧
    (setRole s u cause takeover).saf = s.saf ∧ (setRole s u cause takeover).red = s.red ∧
    (setRole s u cause takeover).rack = s.rack ∧ (setRole s u cause takeover).seq = s.seq ∧
    (setRole s u cause takeover).tsu = s.tsu ∧ (setRole s u cause takeover).net = s.net ∧
    (setRole s u cause takeover).flt = s.flt ∧ (setRole s u cause takeover).upd = s.upd ∧
    (setRole s u cause takeover).mem = s.mem ∧ (setRole s u cause takeover).canRam = s.canRam ∧
    (setRole s u cause takeover).free = s.free := by
  unfold setRole; (repeat' split) <;> simp

@[simp] theorem enterResync_keeps (s : State) (cause : Nat) :
    (enterResync s cause).pending = s.pending ∧ (enterResync s cause).variant = s.variant ∧
    (enterResync s cause).clk = s.clk ∧ (enterResync s cause).pwr = s.pwr ∧ (enterResync s cause).hviStr = s.hviStr ∧
    (enterResync s cause).rings = s.rings ∧ (enterResync s cause).cee = s.cee ∧ (enterResync s cause).tpe = s.tpe ∧
    (enterResync s cause).th = s.th ∧ (enterResync s cause).bal = s.bal ∧ (enterResync s cause).dsp = s.dsp ∧
    (enterResync s cause).conv = s.conv ∧ (enterResync s cause).phase = s.phase ∧ (enterResync s cause).gx2 = s.gx2 ∧
    (enterResync s cause).le = s.le ∧ (enterResync s cause).saf = s.saf ∧ (enterResync s cause).rack = s.rack ∧
    (enterResync s cause).seq = s.seq ∧ (enterResync s cause).tsu = s.tsu ∧ (enterResync s cause).net = s.net ∧
    (enterResync s cause).flt = s.flt ∧ (enterResync s cause).upd = s.upd ∧ (enterResync s cause).canRam = s.canRam ∧
    (enterResync s cause).free = s.free := by
  unfold enterResync; (repeat' split) <;> simp

@[simp] theorem higherClaim_keeps (s : State) (claim : Nat) :
    (higherClaim s claim).pending = s.pending ∧ (higherClaim s claim).variant = s.variant ∧
    (higherClaim s claim).clk = s.clk ∧ (higherClaim s claim).pwr = s.pwr ∧ (higherClaim s claim).hviStr = s.hviStr ∧
    (higherClaim s claim).rings = s.rings ∧ (higherClaim s claim).cee = s.cee ∧ (higherClaim s claim).tpe = s.tpe ∧
    (higherClaim s claim).th = s.th ∧ (higherClaim s claim).bal = s.bal ∧ (higherClaim s claim).dsp = s.dsp ∧
    (higherClaim s claim).conv = s.conv ∧ (higherClaim s claim).phase = s.phase ∧ (higherClaim s claim).gx2 = s.gx2 ∧
    (higherClaim s claim).le = s.le ∧ (higherClaim s claim).saf = s.saf ∧ (higherClaim s claim).rack = s.rack ∧
    (higherClaim s claim).seq = s.seq ∧ (higherClaim s claim).tsu = s.tsu ∧ (higherClaim s claim).net = s.net ∧
    (higherClaim s claim).flt = s.flt ∧ (higherClaim s claim).upd = s.upd ∧ (higherClaim s claim).canRam = s.canRam ∧
    (higherClaim s claim).free = s.free := by
  unfold higherClaim; (repeat' split) <;> simp

@[simp] theorem applyReplica_keeps (s : State) :
    (applyReplica s).pending = s.pending ∧ (applyReplica s).variant = s.variant ∧ (applyReplica s).clk = s.clk ∧
    (applyReplica s).unit = s.unit ∧ (applyReplica s).hvi = s.hvi ∧ (applyReplica s).hviStr = s.hviStr ∧
    (applyReplica s).cee = s.cee ∧ (applyReplica s).tpe = s.tpe ∧ (applyReplica s).th = s.th ∧
    (applyReplica s).gx2 = s.gx2 ∧ (applyReplica s).le = s.le ∧ (applyReplica s).red = s.red ∧
    (applyReplica s).rack = s.rack ∧ (applyReplica s).seq = s.seq ∧ (applyReplica s).tsu = s.tsu ∧
    (applyReplica s).net = s.net ∧ (applyReplica s).app = s.app ∧ (applyReplica s).flt = s.flt ∧
    (applyReplica s).upd = s.upd ∧ (applyReplica s).canRam = s.canRam ∧ (applyReplica s).free = s.free := by
  unfold applyReplica; split
  · simp
  · dsimp only; simp (disch := intros; first | (split <;> simp; done) | simp)

@[simp] theorem assumeDuties_keeps (held : Option IsoResult) (s : State) :
    (assumeDuties held s).pending = s.pending ∧ (assumeDuties held s).variant = s.variant ∧
    (assumeDuties held s).clk = s.clk ∧ (assumeDuties held s).unit = s.unit ∧ (assumeDuties held s).str = s.str ∧
    (assumeDuties held s).pwr = s.pwr ∧ (assumeDuties held s).hviStr = s.hviStr ∧ (assumeDuties held s).cee = s.cee ∧
    (assumeDuties held s).th = s.th ∧ (assumeDuties held s).dsp = s.dsp ∧ (assumeDuties held s).conv = s.conv ∧
    (assumeDuties held s).phase = s.phase ∧ (assumeDuties held s).gx2 = s.gx2 ∧ (assumeDuties held s).le = s.le ∧
    (assumeDuties held s).saf = s.saf ∧ (assumeDuties held s).red = s.red ∧ (assumeDuties held s).rack = s.rack ∧
    (assumeDuties held s).seq = s.seq ∧ (assumeDuties held s).tsu = s.tsu ∧ (assumeDuties held s).hpr = s.hpr ∧
    (assumeDuties held s).net = s.net ∧ (assumeDuties held s).app = s.app ∧ (assumeDuties held s).icu = s.icu ∧
    (assumeDuties held s).flt = s.flt ∧ (assumeDuties held s).plg = s.plg ∧ (assumeDuties held s).upd = s.upd ∧
    (assumeDuties held s).mem = s.mem ∧ (assumeDuties held s).canRam = s.canRam ∧
    (assumeDuties held s).free = s.free := by
  unfold assumeDuties; (repeat' split) <;> simp

@[simp] theorem takeover_keeps (s : State) :
    (takeover s).pending = s.pending ∧ (takeover s).variant = s.variant ∧ (takeover s).clk = s.clk ∧
    (takeover s).hviStr = s.hviStr ∧ (takeover s).cee = s.cee ∧ (takeover s).th = s.th ∧ (takeover s).gx2 = s.gx2 ∧
    (takeover s).le = s.le ∧ (takeover s).rack = s.rack ∧ (takeover s).seq = s.seq ∧ (takeover s).tsu = s.tsu ∧
    (takeover s).net = s.net ∧ (takeover s).flt = s.flt ∧ (takeover s).upd = s.upd ∧ (takeover s).canRam = s.canRam ∧
    (takeover s).free = s.free := by
  unfold takeover; (repeat' split) <;> simp

@[simp] theorem proveXcl_keeps (s : State) :
    (proveXcl s).pending = s.pending ∧ (proveXcl s).variant = s.variant ∧ (proveXcl s).clk = s.clk ∧
    (proveXcl s).unit = s.unit ∧ (proveXcl s).str = s.str ∧ (proveXcl s).pwr = s.pwr ∧ (proveXcl s).hvi = s.hvi ∧
    (proveXcl s).hviStr = s.hviStr ∧ (proveXcl s).rings = s.rings ∧ (proveXcl s).cee = s.cee ∧
    (proveXcl s).tpe = s.tpe ∧ (proveXcl s).th = s.th ∧ (proveXcl s).bal = s.bal ∧ (proveXcl s).dsp = s.dsp ∧
    (proveXcl s).conv = s.conv ∧ (proveXcl s).phase = s.phase ∧ (proveXcl s).gx2 = s.gx2 ∧ (proveXcl s).le = s.le ∧
    (proveXcl s).saf = s.saf ∧ (proveXcl s).rack = s.rack ∧ (proveXcl s).seq = s.seq ∧ (proveXcl s).tsu = s.tsu ∧
    (proveXcl s).hpr = s.hpr ∧ (proveXcl s).net = s.net ∧ (proveXcl s).app = s.app ∧ (proveXcl s).icu = s.icu ∧
    (proveXcl s).flt = s.flt ∧ (proveXcl s).plg = s.plg ∧ (proveXcl s).upd = s.upd ∧ (proveXcl s).mem = s.mem ∧
    (proveXcl s).canRam = s.canRam ∧ (proveXcl s).free = s.free := by
  unfold proveXcl; (repeat' split) <;> simp

@[simp] theorem releaseAcks_keeps (s : State) (upTo : Option Nat) :
    (releaseAcks s upTo).pending = s.pending ∧ (releaseAcks s upTo).variant = s.variant ∧
    (releaseAcks s upTo).clk = s.clk ∧ (releaseAcks s upTo).unit = s.unit ∧ (releaseAcks s upTo).str = s.str ∧
    (releaseAcks s upTo).pwr = s.pwr ∧ (releaseAcks s upTo).hvi = s.hvi ∧ (releaseAcks s upTo).hviStr = s.hviStr ∧
    (releaseAcks s upTo).rings = s.rings ∧ (releaseAcks s upTo).cee = s.cee ∧ (releaseAcks s upTo).tpe = s.tpe ∧
    (releaseAcks s upTo).th = s.th ∧ (releaseAcks s upTo).bal = s.bal ∧ (releaseAcks s upTo).dsp = s.dsp ∧
    (releaseAcks s upTo).conv = s.conv ∧ (releaseAcks s upTo).phase = s.phase ∧ (releaseAcks s upTo).gx2 = s.gx2 ∧
    (releaseAcks s upTo).le = s.le ∧ (releaseAcks s upTo).saf = s.saf ∧ (releaseAcks s upTo).rack = s.rack ∧
    (releaseAcks s upTo).seq = s.seq ∧ (releaseAcks s upTo).tsu = s.tsu ∧ (releaseAcks s upTo).net = s.net ∧
    (releaseAcks s upTo).app = s.app ∧ (releaseAcks s upTo).flt = s.flt ∧ (releaseAcks s upTo).plg = s.plg ∧
    (releaseAcks s upTo).upd = s.upd ∧ (releaseAcks s upTo).canRam = s.canRam ∧ (releaseAcks s upTo).free = s.free := by
  unfold releaseAcks; (repeat' split) <;> simp

@[simp] theorem soloFromResync_keeps (s : State) :
    (soloFromResync s).pending = s.pending ∧ (soloFromResync s).variant = s.variant ∧
    (soloFromResync s).clk = s.clk ∧ (soloFromResync s).hviStr = s.hviStr ∧ (soloFromResync s).cee = s.cee ∧
    (soloFromResync s).tpe = s.tpe ∧ (soloFromResync s).th = s.th ∧ (soloFromResync s).dsp = s.dsp ∧
    (soloFromResync s).gx2 = s.gx2 ∧ (soloFromResync s).le = s.le ∧ (soloFromResync s).rack = s.rack ∧
    (soloFromResync s).seq = s.seq ∧ (soloFromResync s).tsu = s.tsu ∧ (soloFromResync s).net = s.net ∧
    (soloFromResync s).flt = s.flt ∧ (soloFromResync s).upd = s.upd ∧ (soloFromResync s).canRam = s.canRam ∧
    (soloFromResync s).free = s.free := by
  unfold soloFromResync; (repeat' split) <;> simp

@[simp] theorem requestSwap_keeps (s : State) :
    (requestSwap s).pending = s.pending ∧ (requestSwap s).variant = s.variant ∧ (requestSwap s).clk = s.clk ∧
    (requestSwap s).unit = s.unit ∧ (requestSwap s).str = s.str ∧ (requestSwap s).pwr = s.pwr ∧
    (requestSwap s).hvi = s.hvi ∧ (requestSwap s).hviStr = s.hviStr ∧ (requestSwap s).rings = s.rings ∧
    (requestSwap s).cee = s.cee ∧ (requestSwap s).tpe = s.tpe ∧ (requestSwap s).th = s.th ∧
    (requestSwap s).bal = s.bal ∧ (requestSwap s).dsp = s.dsp ∧ (requestSwap s).conv = s.conv ∧
    (requestSwap s).phase = s.phase ∧ (requestSwap s).gx2 = s.gx2 ∧ (requestSwap s).le = s.le ∧
    (requestSwap s).saf = s.saf ∧ (requestSwap s).rack = s.rack ∧ (requestSwap s).seq = s.seq ∧
    (requestSwap s).tsu = s.tsu ∧ (requestSwap s).hpr = s.hpr ∧ (requestSwap s).net = s.net ∧
    (requestSwap s).app = s.app ∧ (requestSwap s).icu = s.icu ∧ (requestSwap s).flt = s.flt ∧
    (requestSwap s).plg = s.plg ∧ (requestSwap s).upd = s.upd ∧ (requestSwap s).mem = s.mem ∧
    (requestSwap s).canRam = s.canRam ∧ (requestSwap s).free = s.free := by
  unfold requestSwap; (repeat' split) <;> simp

@[simp] theorem swapRefused_keeps (s : State) :
    (swapRefused s).pending = s.pending ∧ (swapRefused s).variant = s.variant ∧ (swapRefused s).clk = s.clk ∧
    (swapRefused s).unit = s.unit ∧ (swapRefused s).str = s.str ∧ (swapRefused s).pwr = s.pwr ∧
    (swapRefused s).hvi = s.hvi ∧ (swapRefused s).hviStr = s.hviStr ∧ (swapRefused s).rings = s.rings ∧
    (swapRefused s).cee = s.cee ∧ (swapRefused s).tpe = s.tpe ∧ (swapRefused s).th = s.th ∧
    (swapRefused s).bal = s.bal ∧ (swapRefused s).dsp = s.dsp ∧ (swapRefused s).conv = s.conv ∧
    (swapRefused s).phase = s.phase ∧ (swapRefused s).gx2 = s.gx2 ∧ (swapRefused s).le = s.le ∧
    (swapRefused s).saf = s.saf ∧ (swapRefused s).rack = s.rack ∧ (swapRefused s).seq = s.seq ∧
    (swapRefused s).tsu = s.tsu ∧ (swapRefused s).hpr = s.hpr ∧ (swapRefused s).net = s.net ∧
    (swapRefused s).app = s.app ∧ (swapRefused s).icu = s.icu ∧ (swapRefused s).flt = s.flt ∧
    (swapRefused s).plg = s.plg ∧ (swapRefused s).upd = s.upd ∧ (swapRefused s).mem = s.mem ∧
    (swapRefused s).canRam = s.canRam ∧ (swapRefused s).free = s.free := by
  unfold swapRefused; (repeat' split) <;> simp

@[simp] theorem shadowCompare_keeps (s : State) (v : ShadowValue) (discrepancy : Nat) :
    (shadowCompare s v discrepancy).pending = s.pending ∧ (shadowCompare s v discrepancy).variant = s.variant ∧
    (shadowCompare s v discrepancy).clk = s.clk ∧ (shadowCompare s v discrepancy).unit = s.unit ∧
    (shadowCompare s v discrepancy).str = s.str ∧ (shadowCompare s v discrepancy).pwr = s.pwr ∧
    (shadowCompare s v discrepancy).hvi = s.hvi ∧ (shadowCompare s v discrepancy).hviStr = s.hviStr ∧
    (shadowCompare s v discrepancy).rings = s.rings ∧ (shadowCompare s v discrepancy).cee = s.cee ∧
    (shadowCompare s v discrepancy).tpe = s.tpe ∧ (shadowCompare s v discrepancy).th = s.th ∧
    (shadowCompare s v discrepancy).bal = s.bal ∧ (shadowCompare s v discrepancy).dsp = s.dsp ∧
    (shadowCompare s v discrepancy).conv = s.conv ∧ (shadowCompare s v discrepancy).phase = s.phase ∧
    (shadowCompare s v discrepancy).gx2 = s.gx2 ∧ (shadowCompare s v discrepancy).le = s.le ∧
    (shadowCompare s v discrepancy).saf = s.saf ∧ (shadowCompare s v discrepancy).rack = s.rack ∧
    (shadowCompare s v discrepancy).seq = s.seq ∧ (shadowCompare s v discrepancy).tsu = s.tsu ∧
    (shadowCompare s v discrepancy).hpr = s.hpr ∧ (shadowCompare s v discrepancy).net = s.net ∧
    (shadowCompare s v discrepancy).app = s.app ∧ (shadowCompare s v discrepancy).upd = s.upd ∧
    (shadowCompare s v discrepancy).mem = s.mem ∧ (shadowCompare s v discrepancy).canRam = s.canRam ∧
    (shadowCompare s v discrepancy).free = s.free := by
  unfold shadowCompare; dsimp only; (repeat' split) <;> simp

end Sys2Proof.Machine
end

