-- ==== Sys2Proof/Laws/Rings.lean ====
section
/-! SUPPORT. What the operations of Rings leave alone. -/

namespace Sys2Proof.Machine

@[simp] theorem sendFrame_keeps (s : State) (i m type arg : Nat) (resent : Bool) :
    (sendFrame s i m type arg resent).pending = s.pending ∧ (sendFrame s i m type arg resent).variant = s.variant ∧
    (sendFrame s i m type arg resent).clk = s.clk ∧ (sendFrame s i m type arg resent).unit = s.unit ∧
    (sendFrame s i m type arg resent).str = s.str ∧ (sendFrame s i m type arg resent).pwr = s.pwr ∧
    (sendFrame s i m type arg resent).hvi = s.hvi ∧ (sendFrame s i m type arg resent).hviStr = s.hviStr ∧
    (sendFrame s i m type arg resent).cee = s.cee ∧ (sendFrame s i m type arg resent).tpe = s.tpe ∧
    (sendFrame s i m type arg resent).th = s.th ∧ (sendFrame s i m type arg resent).bal = s.bal ∧
    (sendFrame s i m type arg resent).dsp = s.dsp ∧ (sendFrame s i m type arg resent).conv = s.conv ∧
    (sendFrame s i m type arg resent).phase = s.phase ∧ (sendFrame s i m type arg resent).gx2 = s.gx2 ∧
    (sendFrame s i m type arg resent).le = s.le ∧ (sendFrame s i m type arg resent).saf = s.saf ∧
    (sendFrame s i m type arg resent).red = s.red ∧ (sendFrame s i m type arg resent).rack = s.rack ∧
    (sendFrame s i m type arg resent).seq = s.seq ∧ (sendFrame s i m type arg resent).tsu = s.tsu ∧
    (sendFrame s i m type arg resent).hpr = s.hpr ∧ (sendFrame s i m type arg resent).net = s.net ∧
    (sendFrame s i m type arg resent).app = s.app ∧ (sendFrame s i m type arg resent).icu = s.icu ∧
    (sendFrame s i m type arg resent).flt = s.flt ∧ (sendFrame s i m type arg resent).plg = s.plg ∧
    (sendFrame s i m type arg resent).upd = s.upd ∧ (sendFrame s i m type arg resent).mem = s.mem ∧
    (sendFrame s i m type arg resent).canRam = s.canRam ∧ (sendFrame s i m type arg resent).free = s.free := by
  unfold sendFrame; (repeat' split) <;> simp

@[simp] theorem creditBack_keeps (s : State) (i : Nat) (o : Outstanding) :
    (creditBack s i o).pending = s.pending ∧ (creditBack s i o).variant = s.variant ∧
    (creditBack s i o).clk = s.clk ∧ (creditBack s i o).unit = s.unit ∧ (creditBack s i o).str = s.str ∧
    (creditBack s i o).pwr = s.pwr ∧ (creditBack s i o).hvi = s.hvi ∧ (creditBack s i o).hviStr = s.hviStr ∧
    (creditBack s i o).cee = s.cee ∧ (creditBack s i o).tpe = s.tpe ∧ (creditBack s i o).th = s.th ∧
    (creditBack s i o).bal = s.bal ∧ (creditBack s i o).dsp = s.dsp ∧ (creditBack s i o).conv = s.conv ∧
    (creditBack s i o).phase = s.phase ∧ (creditBack s i o).gx2 = s.gx2 ∧ (creditBack s i o).le = s.le ∧
    (creditBack s i o).saf = s.saf ∧ (creditBack s i o).red = s.red ∧ (creditBack s i o).rack = s.rack ∧
    (creditBack s i o).seq = s.seq ∧ (creditBack s i o).tsu = s.tsu ∧ (creditBack s i o).hpr = s.hpr ∧
    (creditBack s i o).net = s.net ∧ (creditBack s i o).app = s.app ∧ (creditBack s i o).icu = s.icu ∧
    (creditBack s i o).flt = s.flt ∧ (creditBack s i o).plg = s.plg ∧ (creditBack s i o).upd = s.upd ∧
    (creditBack s i o).mem = s.mem ∧ (creditBack s i o).canRam = s.canRam ∧ (creditBack s i o).free = s.free := by
  unfold creditBack; (repeat' split) <;> simp

@[simp] theorem loseFrame_keeps (s : State) (i : Nat) (o : Outstanding) :
    (loseFrame s i o).pending = s.pending ∧ (loseFrame s i o).variant = s.variant ∧ (loseFrame s i o).clk = s.clk ∧
    (loseFrame s i o).unit = s.unit ∧ (loseFrame s i o).str = s.str ∧ (loseFrame s i o).pwr = s.pwr ∧
    (loseFrame s i o).hvi = s.hvi ∧ (loseFrame s i o).hviStr = s.hviStr ∧ (loseFrame s i o).cee = s.cee ∧
    (loseFrame s i o).tpe = s.tpe ∧ (loseFrame s i o).th = s.th ∧ (loseFrame s i o).bal = s.bal ∧
    (loseFrame s i o).dsp = s.dsp ∧ (loseFrame s i o).conv = s.conv ∧ (loseFrame s i o).phase = s.phase ∧
    (loseFrame s i o).gx2 = s.gx2 ∧ (loseFrame s i o).le = s.le ∧ (loseFrame s i o).saf = s.saf ∧
    (loseFrame s i o).red = s.red ∧ (loseFrame s i o).rack = s.rack ∧ (loseFrame s i o).seq = s.seq ∧
    (loseFrame s i o).tsu = s.tsu ∧ (loseFrame s i o).hpr = s.hpr ∧ (loseFrame s i o).net = s.net ∧
    (loseFrame s i o).app = s.app ∧ (loseFrame s i o).upd = s.upd ∧ (loseFrame s i o).mem = s.mem ∧
    (loseFrame s i o).canRam = s.canRam ∧ (loseFrame s i o).free = s.free := by
  unfold loseFrame; (repeat' split) <;> simp

@[simp] theorem enterTwoEnded_keeps (s : State) (i : Nat) :
    (enterTwoEnded s i).pending = s.pending ∧ (enterTwoEnded s i).variant = s.variant ∧
    (enterTwoEnded s i).clk = s.clk ∧ (enterTwoEnded s i).unit = s.unit ∧ (enterTwoEnded s i).str = s.str ∧
    (enterTwoEnded s i).pwr = s.pwr ∧ (enterTwoEnded s i).hvi = s.hvi ∧ (enterTwoEnded s i).hviStr = s.hviStr ∧
    (enterTwoEnded s i).cee = s.cee ∧ (enterTwoEnded s i).tpe = s.tpe ∧ (enterTwoEnded s i).th = s.th ∧
    (enterTwoEnded s i).bal = s.bal ∧ (enterTwoEnded s i).dsp = s.dsp ∧ (enterTwoEnded s i).conv = s.conv ∧
    (enterTwoEnded s i).phase = s.phase ∧ (enterTwoEnded s i).gx2 = s.gx2 ∧ (enterTwoEnded s i).le = s.le ∧
    (enterTwoEnded s i).saf = s.saf ∧ (enterTwoEnded s i).red = s.red ∧ (enterTwoEnded s i).rack = s.rack ∧
    (enterTwoEnded s i).seq = s.seq ∧ (enterTwoEnded s i).tsu = s.tsu ∧ (enterTwoEnded s i).hpr = s.hpr ∧
    (enterTwoEnded s i).net = s.net ∧ (enterTwoEnded s i).app = s.app ∧ (enterTwoEnded s i).icu = s.icu ∧
    (enterTwoEnded s i).flt = s.flt ∧ (enterTwoEnded s i).plg = s.plg ∧ (enterTwoEnded s i).upd = s.upd ∧
    (enterTwoEnded s i).mem = s.mem ∧ (enterTwoEnded s i).canRam = s.canRam ∧ (enterTwoEnded s i).free = s.free := by
  unfold enterTwoEnded; (repeat' split) <;> simp

@[simp] theorem reportBreak_keeps (s : State) (i : Nat) :
    (reportBreak s i).pending = s.pending ∧ (reportBreak s i).variant = s.variant ∧ (reportBreak s i).clk = s.clk ∧
    (reportBreak s i).unit = s.unit ∧ (reportBreak s i).str = s.str ∧ (reportBreak s i).pwr = s.pwr ∧
    (reportBreak s i).hvi = s.hvi ∧ (reportBreak s i).hviStr = s.hviStr ∧ (reportBreak s i).cee = s.cee ∧
    (reportBreak s i).tpe = s.tpe ∧ (reportBreak s i).th = s.th ∧ (reportBreak s i).bal = s.bal ∧
    (reportBreak s i).dsp = s.dsp ∧ (reportBreak s i).conv = s.conv ∧ (reportBreak s i).phase = s.phase ∧
    (reportBreak s i).gx2 = s.gx2 ∧ (reportBreak s i).le = s.le ∧ (reportBreak s i).saf = s.saf ∧
    (reportBreak s i).red = s.red ∧ (reportBreak s i).rack = s.rack ∧ (reportBreak s i).seq = s.seq ∧
    (reportBreak s i).tsu = s.tsu ∧ (reportBreak s i).hpr = s.hpr ∧ (reportBreak s i).net = s.net ∧
    (reportBreak s i).app = s.app ∧ (reportBreak s i).flt = s.flt ∧ (reportBreak s i).upd = s.upd ∧
    (reportBreak s i).mem = s.mem ∧ (reportBreak s i).canRam = s.canRam ∧ (reportBreak s i).free = s.free := by
  unfold reportBreak; (repeat' split) <;> simp

@[simp] theorem judgeReach_keeps (s : State) (i : Nat) :
    (judgeReach s i).pending = s.pending ∧ (judgeReach s i).variant = s.variant ∧ (judgeReach s i).clk = s.clk ∧
    (judgeReach s i).unit = s.unit ∧ (judgeReach s i).hvi = s.hvi ∧ (judgeReach s i).hviStr = s.hviStr ∧
    (judgeReach s i).cee = s.cee ∧ (judgeReach s i).tpe = s.tpe ∧ (judgeReach s i).th = s.th ∧
    (judgeReach s i).dsp = s.dsp ∧ (judgeReach s i).gx2 = s.gx2 ∧ (judgeReach s i).le = s.le ∧
    (judgeReach s i).red = s.red ∧ (judgeReach s i).rack = s.rack ∧ (judgeReach s i).seq = s.seq ∧
    (judgeReach s i).tsu = s.tsu ∧ (judgeReach s i).net = s.net ∧ (judgeReach s i).app = s.app ∧
    (judgeReach s i).upd = s.upd ∧ (judgeReach s i).canRam = s.canRam ∧ (judgeReach s i).free = s.free := by
  unfold judgeReach; (repeat' split) <;> simp

@[simp] theorem commandLink_keeps (s : State) (i pos port code : Nat) :
    (commandLink s i pos port code).pending = s.pending ∧ (commandLink s i pos port code).variant = s.variant ∧
    (commandLink s i pos port code).clk = s.clk ∧ (commandLink s i pos port code).unit = s.unit ∧
    (commandLink s i pos port code).str = s.str ∧ (commandLink s i pos port code).pwr = s.pwr ∧
    (commandLink s i pos port code).hvi = s.hvi ∧ (commandLink s i pos port code).hviStr = s.hviStr ∧
    (commandLink s i pos port code).cee = s.cee ∧ (commandLink s i pos port code).tpe = s.tpe ∧
    (commandLink s i pos port code).th = s.th ∧ (commandLink s i pos port code).bal = s.bal ∧
    (commandLink s i pos port code).dsp = s.dsp ∧ (commandLink s i pos port code).conv = s.conv ∧
    (commandLink s i pos port code).phase = s.phase ∧ (commandLink s i pos port code).gx2 = s.gx2 ∧
    (commandLink s i pos port code).le = s.le ∧ (commandLink s i pos port code).saf = s.saf ∧
    (commandLink s i pos port code).red = s.red ∧ (commandLink s i pos port code).rack = s.rack ∧
    (commandLink s i pos port code).seq = s.seq ∧ (commandLink s i pos port code).tsu = s.tsu ∧
    (commandLink s i pos port code).hpr = s.hpr ∧ (commandLink s i pos port code).net = s.net ∧
    (commandLink s i pos port code).app = s.app ∧ (commandLink s i pos port code).icu = s.icu ∧
    (commandLink s i pos port code).flt = s.flt ∧ (commandLink s i pos port code).plg = s.plg ∧
    (commandLink s i pos port code).upd = s.upd ∧ (commandLink s i pos port code).mem = s.mem ∧
    (commandLink s i pos port code).canRam = s.canRam ∧ (commandLink s i pos port code).free = s.free := by
  unfold commandLink; (repeat' split) <;> simp

@[simp] theorem alarmSp_keeps (s : State) (i m : Nat) :
    (alarmSp s i m).pending = s.pending ∧ (alarmSp s i m).variant = s.variant ∧ (alarmSp s i m).clk = s.clk ∧
    (alarmSp s i m).unit = s.unit ∧ (alarmSp s i m).hvi = s.hvi ∧ (alarmSp s i m).hviStr = s.hviStr ∧
    (alarmSp s i m).cee = s.cee ∧ (alarmSp s i m).tpe = s.tpe ∧ (alarmSp s i m).th = s.th ∧
    (alarmSp s i m).dsp = s.dsp ∧ (alarmSp s i m).gx2 = s.gx2 ∧ (alarmSp s i m).le = s.le ∧
    (alarmSp s i m).red = s.red ∧ (alarmSp s i m).rack = s.rack ∧ (alarmSp s i m).seq = s.seq ∧
    (alarmSp s i m).tsu = s.tsu ∧ (alarmSp s i m).net = s.net ∧ (alarmSp s i m).app = s.app ∧
    (alarmSp s i m).flt = s.flt ∧ (alarmSp s i m).upd = s.upd ∧ (alarmSp s i m).canRam = s.canRam ∧
    (alarmSp s i m).free = s.free := by
  unfold alarmSp; dsimp only; split <;> simp

@[simp] theorem judgeAlarms_keeps (s : State) (i : Nat) :
    (judgeAlarms s i).pending = s.pending ∧ (judgeAlarms s i).variant = s.variant ∧ (judgeAlarms s i).clk = s.clk ∧
    (judgeAlarms s i).unit = s.unit ∧ (judgeAlarms s i).hvi = s.hvi ∧ (judgeAlarms s i).hviStr = s.hviStr ∧
    (judgeAlarms s i).cee = s.cee ∧ (judgeAlarms s i).tpe = s.tpe ∧ (judgeAlarms s i).th = s.th ∧
    (judgeAlarms s i).dsp = s.dsp ∧ (judgeAlarms s i).gx2 = s.gx2 ∧ (judgeAlarms s i).le = s.le ∧
    (judgeAlarms s i).red = s.red ∧ (judgeAlarms s i).rack = s.rack ∧ (judgeAlarms s i).seq = s.seq ∧
    (judgeAlarms s i).tsu = s.tsu ∧ (judgeAlarms s i).net = s.net ∧ (judgeAlarms s i).app = s.app ∧
    (judgeAlarms s i).flt = s.flt ∧ (judgeAlarms s i).upd = s.upd ∧ (judgeAlarms s i).canRam = s.canRam ∧
    (judgeAlarms s i).free = s.free := by
  unfold judgeAlarms; (repeat' split) <;> simp

@[simp] theorem sendEnum_keeps (s : State) (i : Nat) :
    (sendEnum s i).pending = s.pending ∧ (sendEnum s i).variant = s.variant ∧ (sendEnum s i).clk = s.clk ∧
    (sendEnum s i).unit = s.unit ∧ (sendEnum s i).str = s.str ∧ (sendEnum s i).pwr = s.pwr ∧
    (sendEnum s i).hvi = s.hvi ∧ (sendEnum s i).hviStr = s.hviStr ∧ (sendEnum s i).cee = s.cee ∧
    (sendEnum s i).tpe = s.tpe ∧ (sendEnum s i).th = s.th ∧ (sendEnum s i).bal = s.bal ∧ (sendEnum s i).dsp = s.dsp ∧
    (sendEnum s i).conv = s.conv ∧ (sendEnum s i).phase = s.phase ∧ (sendEnum s i).gx2 = s.gx2 ∧
    (sendEnum s i).le = s.le ∧ (sendEnum s i).saf = s.saf ∧ (sendEnum s i).red = s.red ∧
    (sendEnum s i).rack = s.rack ∧ (sendEnum s i).seq = s.seq ∧ (sendEnum s i).tsu = s.tsu ∧
    (sendEnum s i).hpr = s.hpr ∧ (sendEnum s i).net = s.net ∧ (sendEnum s i).app = s.app ∧
    (sendEnum s i).icu = s.icu ∧ (sendEnum s i).flt = s.flt ∧ (sendEnum s i).plg = s.plg ∧
    (sendEnum s i).upd = s.upd ∧ (sendEnum s i).mem = s.mem ∧ (sendEnum s i).canRam = s.canRam ∧
    (sendEnum s i).free = s.free := by
  unfold sendEnum; (repeat' split) <;> simp

@[simp] theorem enumDone_keeps (s : State) (i : Nat) :
    (enumDone s i).pending = s.pending ∧ (enumDone s i).variant = s.variant ∧ (enumDone s i).clk = s.clk ∧
    (enumDone s i).unit = s.unit ∧ (enumDone s i).str = s.str ∧ (enumDone s i).pwr = s.pwr ∧
    (enumDone s i).hvi = s.hvi ∧ (enumDone s i).hviStr = s.hviStr ∧ (enumDone s i).cee = s.cee ∧
    (enumDone s i).tpe = s.tpe ∧ (enumDone s i).th = s.th ∧ (enumDone s i).bal = s.bal ∧ (enumDone s i).dsp = s.dsp ∧
    (enumDone s i).conv = s.conv ∧ (enumDone s i).phase = s.phase ∧ (enumDone s i).gx2 = s.gx2 ∧
    (enumDone s i).le = s.le ∧ (enumDone s i).saf = s.saf ∧ (enumDone s i).rack = s.rack ∧
    (enumDone s i).seq = s.seq ∧ (enumDone s i).tsu = s.tsu ∧ (enumDone s i).net = s.net ∧
    (enumDone s i).app = s.app ∧ (enumDone s i).plg = s.plg ∧ (enumDone s i).upd = s.upd ∧
    (enumDone s i).canRam = s.canRam ∧ (enumDone s i).free = s.free := by
  unfold enumDone; dsimp only; split <;> simp

@[simp] theorem takeData_keeps (s : State) (i m kind : Nat) (d : RoundData) :
    (takeData s i m kind d).pending = s.pending ∧ (takeData s i m kind d).variant = s.variant ∧
    (takeData s i m kind d).clk = s.clk ∧ (takeData s i m kind d).unit = s.unit ∧
    (takeData s i m kind d).hvi = s.hvi ∧ (takeData s i m kind d).hviStr = s.hviStr ∧
    (takeData s i m kind d).tpe = s.tpe ∧ (takeData s i m kind d).th = s.th ∧ (takeData s i m kind d).dsp = s.dsp ∧
    (takeData s i m kind d).gx2 = s.gx2 ∧ (takeData s i m kind d).le = s.le ∧ (takeData s i m kind d).red = s.red ∧
    (takeData s i m kind d).rack = s.rack ∧ (takeData s i m kind d).seq = s.seq ∧
    (takeData s i m kind d).tsu = s.tsu ∧ (takeData s i m kind d).net = s.net ∧ (takeData s i m kind d).app = s.app ∧
    (takeData s i m kind d).canRam = s.canRam ∧ (takeData s i m kind d).free = s.free := by
  unfold takeData; (repeat' split) <;> simp

@[simp] theorem voltJudge_keeps (s : State) (i m : Nat) (d : RoundData) :
    (voltJudge s i m d).pending = s.pending ∧ (voltJudge s i m d).variant = s.variant ∧
    (voltJudge s i m d).clk = s.clk ∧ (voltJudge s i m d).unit = s.unit ∧ (voltJudge s i m d).hvi = s.hvi ∧
    (voltJudge s i m d).hviStr = s.hviStr ∧ (voltJudge s i m d).cee = s.cee ∧ (voltJudge s i m d).tpe = s.tpe ∧
    (voltJudge s i m d).th = s.th ∧ (voltJudge s i m d).dsp = s.dsp ∧ (voltJudge s i m d).gx2 = s.gx2 ∧
    (voltJudge s i m d).le = s.le ∧ (voltJudge s i m d).red = s.red ∧ (voltJudge s i m d).rack = s.rack ∧
    (voltJudge s i m d).seq = s.seq ∧ (voltJudge s i m d).tsu = s.tsu ∧ (voltJudge s i m d).net = s.net ∧
    (voltJudge s i m d).app = s.app ∧ (voltJudge s i m d).flt = s.flt ∧ (voltJudge s i m d).upd = s.upd ∧
    (voltJudge s i m d).canRam = s.canRam ∧ (voltJudge s i m d).free = s.free := by
  unfold voltJudge; (repeat' split) <;> simp

@[simp] theorem dataJudge_keeps (s : State) (i m : Nat) :
    (dataJudge s i m).pending = s.pending ∧ (dataJudge s i m).variant = s.variant ∧ (dataJudge s i m).clk = s.clk ∧
    (dataJudge s i m).unit = s.unit ∧ (dataJudge s i m).hvi = s.hvi ∧ (dataJudge s i m).hviStr = s.hviStr ∧
    (dataJudge s i m).cee = s.cee ∧ (dataJudge s i m).tpe = s.tpe ∧ (dataJudge s i m).th = s.th ∧
    (dataJudge s i m).dsp = s.dsp ∧ (dataJudge s i m).gx2 = s.gx2 ∧ (dataJudge s i m).le = s.le ∧
    (dataJudge s i m).red = s.red ∧ (dataJudge s i m).rack = s.rack ∧ (dataJudge s i m).seq = s.seq ∧
    (dataJudge s i m).tsu = s.tsu ∧ (dataJudge s i m).net = s.net ∧ (dataJudge s i m).app = s.app ∧
    (dataJudge s i m).flt = s.flt ∧ (dataJudge s i m).upd = s.upd ∧ (dataJudge s i m).canRam = s.canRam ∧
    (dataJudge s i m).free = s.free := by
  unfold dataJudge; (repeat' split) <;> simp

@[simp] theorem closeMonitor_keeps (s : State) (i m : Nat) :
    (closeMonitor s i m).pending = s.pending ∧ (closeMonitor s i m).variant = s.variant ∧
    (closeMonitor s i m).clk = s.clk ∧ (closeMonitor s i m).unit = s.unit ∧ (closeMonitor s i m).hvi = s.hvi ∧
    (closeMonitor s i m).hviStr = s.hviStr ∧ (closeMonitor s i m).cee = s.cee ∧ (closeMonitor s i m).tpe = s.tpe ∧
    (closeMonitor s i m).dsp = s.dsp ∧ (closeMonitor s i m).gx2 = s.gx2 ∧ (closeMonitor s i m).le = s.le ∧
    (closeMonitor s i m).red = s.red ∧ (closeMonitor s i m).rack = s.rack ∧ (closeMonitor s i m).seq = s.seq ∧
    (closeMonitor s i m).tsu = s.tsu ∧ (closeMonitor s i m).net = s.net ∧ (closeMonitor s i m).app = s.app ∧
    (closeMonitor s i m).flt = s.flt ∧ (closeMonitor s i m).upd = s.upd ∧ (closeMonitor s i m).canRam = s.canRam ∧
    (closeMonitor s i m).free = s.free := by
  unfold closeMonitor; dsimp only; split <;> simp

@[simp] theorem closeRing_keeps (s : State) (i : Nat) :
    (closeRing s i).pending = s.pending ∧ (closeRing s i).variant = s.variant ∧ (closeRing s i).clk = s.clk ∧
    (closeRing s i).unit = s.unit ∧ (closeRing s i).hvi = s.hvi ∧ (closeRing s i).hviStr = s.hviStr ∧
    (closeRing s i).cee = s.cee ∧ (closeRing s i).tpe = s.tpe ∧ (closeRing s i).dsp = s.dsp ∧
    (closeRing s i).gx2 = s.gx2 ∧ (closeRing s i).le = s.le ∧ (closeRing s i).red = s.red ∧
    (closeRing s i).rack = s.rack ∧ (closeRing s i).seq = s.seq ∧ (closeRing s i).tsu = s.tsu ∧
    (closeRing s i).net = s.net ∧ (closeRing s i).app = s.app ∧ (closeRing s i).upd = s.upd ∧
    (closeRing s i).canRam = s.canRam ∧ (closeRing s i).free = s.free := by
  unfold closeRing; (repeat' split) <;> simp

@[simp] theorem ackWith_keeps (s : State) (i m code result : Nat) (f : Monitor → Monitor) :
    (ackWith s i m code result f).pending = s.pending ∧ (ackWith s i m code result f).variant = s.variant ∧
    (ackWith s i m code result f).clk = s.clk ∧ (ackWith s i m code result f).unit = s.unit ∧
    (ackWith s i m code result f).str = s.str ∧ (ackWith s i m code result f).pwr = s.pwr ∧
    (ackWith s i m code result f).hvi = s.hvi ∧ (ackWith s i m code result f).hviStr = s.hviStr ∧
    (ackWith s i m code result f).cee = s.cee ∧ (ackWith s i m code result f).tpe = s.tpe ∧
    (ackWith s i m code result f).th = s.th ∧ (ackWith s i m code result f).bal = s.bal ∧
    (ackWith s i m code result f).dsp = s.dsp ∧ (ackWith s i m code result f).conv = s.conv ∧
    (ackWith s i m code result f).phase = s.phase ∧ (ackWith s i m code result f).gx2 = s.gx2 ∧
    (ackWith s i m code result f).le = s.le ∧ (ackWith s i m code result f).saf = s.saf ∧
    (ackWith s i m code result f).red = s.red ∧ (ackWith s i m code result f).rack = s.rack ∧
    (ackWith s i m code result f).seq = s.seq ∧ (ackWith s i m code result f).tsu = s.tsu ∧
    (ackWith s i m code result f).hpr = s.hpr ∧ (ackWith s i m code result f).net = s.net ∧
    (ackWith s i m code result f).app = s.app ∧ (ackWith s i m code result f).icu = s.icu ∧
    (ackWith s i m code result f).flt = s.flt ∧ (ackWith s i m code result f).plg = s.plg ∧
    (ackWith s i m code result f).upd = s.upd ∧ (ackWith s i m code result f).mem = s.mem ∧
    (ackWith s i m code result f).canRam = s.canRam := by
  unfold ackWith; (repeat' split) <;> simp

@[simp] theorem cmdFrame_keeps (s : State) (i m : Nat) (own : Bool) (code : Nat) :
    ((cmdFrame s i m own code).1).pending = s.pending ∧ ((cmdFrame s i m own code).1).variant = s.variant ∧
    ((cmdFrame s i m own code).1).clk = s.clk ∧ ((cmdFrame s i m own code).1).unit = s.unit ∧
    ((cmdFrame s i m own code).1).str = s.str ∧ ((cmdFrame s i m own code).1).pwr = s.pwr ∧
    ((cmdFrame s i m own code).1).hvi = s.hvi ∧ ((cmdFrame s i m own code).1).hviStr = s.hviStr ∧
    ((cmdFrame s i m own code).1).cee = s.cee ∧ ((cmdFrame s i m own code).1).tpe = s.tpe ∧
    ((cmdFrame s i m own code).1).th = s.th ∧ ((cmdFrame s i m own code).1).bal = s.bal ∧
    ((cmdFrame s i m own code).1).dsp = s.dsp ∧ ((cmdFrame s i m own code).1).conv = s.conv ∧
    ((cmdFrame s i m own code).1).phase = s.phase ∧ ((cmdFrame s i m own code).1).gx2 = s.gx2 ∧
    ((cmdFrame s i m own code).1).le = s.le ∧ ((cmdFrame s i m own code).1).saf = s.saf ∧
    ((cmdFrame s i m own code).1).red = s.red ∧ ((cmdFrame s i m own code).1).rack = s.rack ∧
    ((cmdFrame s i m own code).1).seq = s.seq ∧ ((cmdFrame s i m own code).1).tsu = s.tsu ∧
    ((cmdFrame s i m own code).1).hpr = s.hpr ∧ ((cmdFrame s i m own code).1).net = s.net ∧
    ((cmdFrame s i m own code).1).app = s.app ∧ ((cmdFrame s i m own code).1).icu = s.icu ∧
    ((cmdFrame s i m own code).1).flt = s.flt ∧ ((cmdFrame s i m own code).1).plg = s.plg ∧
    ((cmdFrame s i m own code).1).upd = s.upd ∧ ((cmdFrame s i m own code).1).mem = s.mem ∧
    ((cmdFrame s i m own code).1).canRam = s.canRam ∧ ((cmdFrame s i m own code).1).free = s.free := by
  unfold cmdFrame; dsimp only; (repeat' split) <;> simp

@[simp] theorem portCmd_keeps (t i m : Nat) (own : Bool) (port code : Nat) (off : Bool) (s : State) :
    (portCmd t i m own port code off s).pending = s.pending ∧
    (portCmd t i m own port code off s).variant = s.variant ∧ (portCmd t i m own port code off s).unit = s.unit ∧
    (portCmd t i m own port code off s).str = s.str ∧ (portCmd t i m own port code off s).pwr = s.pwr ∧
    (portCmd t i m own port code off s).hvi = s.hvi ∧ (portCmd t i m own port code off s).hviStr = s.hviStr ∧
    (portCmd t i m own port code off s).cee = s.cee ∧ (portCmd t i m own port code off s).tpe = s.tpe ∧
    (portCmd t i m own port code off s).th = s.th ∧ (portCmd t i m own port code off s).bal = s.bal ∧
    (portCmd t i m own port code off s).dsp = s.dsp ∧ (portCmd t i m own port code off s).conv = s.conv ∧
    (portCmd t i m own port code off s).phase = s.phase ∧ (portCmd t i m own port code off s).gx2 = s.gx2 ∧
    (portCmd t i m own port code off s).le = s.le ∧ (portCmd t i m own port code off s).saf = s.saf ∧
    (portCmd t i m own port code off s).red = s.red ∧ (portCmd t i m own port code off s).rack = s.rack ∧
    (portCmd t i m own port code off s).seq = s.seq ∧ (portCmd t i m own port code off s).hpr = s.hpr ∧
    (portCmd t i m own port code off s).net = s.net ∧ (portCmd t i m own port code off s).app = s.app ∧
    (portCmd t i m own port code off s).icu = s.icu ∧ (portCmd t i m own port code off s).flt = s.flt ∧
    (portCmd t i m own port code off s).plg = s.plg ∧ (portCmd t i m own port code off s).upd = s.upd ∧
    (portCmd t i m own port code off s).mem = s.mem ∧ (portCmd t i m own port code off s).canRam = s.canRam := by
  unfold portCmd; dsimp only; split
  all_goals
    rename_i s' h
    have e := congrArg Prod.fst h
    simp only at e
    subst e
    simp

@[simp] theorem startEnum_keeps (s : State) (op : Nat) (q : Req) (i : Nat) (accept : Bool) :
    (startEnum s op q i accept).pending = s.pending ∧ (startEnum s op q i accept).variant = s.variant ∧
    (startEnum s op q i accept).clk = s.clk ∧ (startEnum s op q i accept).unit = s.unit ∧
    (startEnum s op q i accept).str = s.str ∧ (startEnum s op q i accept).pwr = s.pwr ∧
    (startEnum s op q i accept).hvi = s.hvi ∧ (startEnum s op q i accept).hviStr = s.hviStr ∧
    (startEnum s op q i accept).cee = s.cee ∧ (startEnum s op q i accept).tpe = s.tpe ∧
    (startEnum s op q i accept).th = s.th ∧ (startEnum s op q i accept).bal = s.bal ∧
    (startEnum s op q i accept).dsp = s.dsp ∧ (startEnum s op q i accept).conv = s.conv ∧
    (startEnum s op q i accept).phase = s.phase ∧ (startEnum s op q i accept).gx2 = s.gx2 ∧
    (startEnum s op q i accept).le = s.le ∧ (startEnum s op q i accept).saf = s.saf ∧
    (startEnum s op q i accept).red = s.red ∧ (startEnum s op q i accept).rack = s.rack ∧
    (startEnum s op q i accept).seq = s.seq ∧ (startEnum s op q i accept).tsu = s.tsu ∧
    (startEnum s op q i accept).net = s.net ∧ (startEnum s op q i accept).app = s.app ∧
    (startEnum s op q i accept).icu = s.icu ∧ (startEnum s op q i accept).flt = s.flt ∧
    (startEnum s op q i accept).plg = s.plg ∧ (startEnum s op q i accept).upd = s.upd ∧
    (startEnum s op q i accept).mem = s.mem ∧ (startEnum s op q i accept).canRam = s.canRam ∧
    (startEnum s op q i accept).free = s.free := by
  unfold startEnum; (repeat' split) <;> simp

@[simp] theorem storeRing_keeps (s : State) (p : Bytes) :
    (storeRing s p).pending = s.pending ∧ (storeRing s p).variant = s.variant ∧ (storeRing s p).clk = s.clk ∧
    (storeRing s p).unit = s.unit ∧ (storeRing s p).hvi = s.hvi ∧ (storeRing s p).hviStr = s.hviStr ∧
    (storeRing s p).cee = s.cee ∧ (storeRing s p).tpe = s.tpe ∧ (storeRing s p).th = s.th ∧
    (storeRing s p).dsp = s.dsp ∧ (storeRing s p).gx2 = s.gx2 ∧ (storeRing s p).le = s.le ∧
    (storeRing s p).red = s.red ∧ (storeRing s p).rack = s.rack ∧ (storeRing s p).seq = s.seq ∧
    (storeRing s p).tsu = s.tsu ∧ (storeRing s p).net = s.net ∧ (storeRing s p).app = s.app ∧
    (storeRing s p).upd = s.upd ∧ (storeRing s p).canRam = s.canRam ∧ (storeRing s p).free = s.free := by
  unfold storeRing; (repeat' split) <;> simp

@[simp] theorem response_keeps (s : State) (i m seq : Nat) :
    ((response s i m seq).1).pending = s.pending ∧ ((response s i m seq).1).variant = s.variant ∧
    ((response s i m seq).1).clk = s.clk ∧ ((response s i m seq).1).unit = s.unit ∧
    ((response s i m seq).1).str = s.str ∧ ((response s i m seq).1).pwr = s.pwr ∧
    ((response s i m seq).1).hvi = s.hvi ∧ ((response s i m seq).1).hviStr = s.hviStr ∧
    ((response s i m seq).1).cee = s.cee ∧ ((response s i m seq).1).tpe = s.tpe ∧
    ((response s i m seq).1).th = s.th ∧ ((response s i m seq).1).bal = s.bal ∧
    ((response s i m seq).1).dsp = s.dsp ∧ ((response s i m seq).1).conv = s.conv ∧
    ((response s i m seq).1).phase = s.phase ∧ ((response s i m seq).1).gx2 = s.gx2 ∧
    ((response s i m seq).1).le = s.le ∧ ((response s i m seq).1).saf = s.saf ∧
    ((response s i m seq).1).red = s.red ∧ ((response s i m seq).1).rack = s.rack ∧
    ((response s i m seq).1).seq = s.seq ∧ ((response s i m seq).1).tsu = s.tsu ∧
    ((response s i m seq).1).hpr = s.hpr ∧ ((response s i m seq).1).net = s.net ∧
    ((response s i m seq).1).app = s.app ∧ ((response s i m seq).1).upd = s.upd ∧
    ((response s i m seq).1).mem = s.mem ∧ ((response s i m seq).1).canRam = s.canRam ∧
    ((response s i m seq).1).free = s.free := by
  unfold response; dsimp only; (repeat' split) <;> simp

end Sys2Proof.Machine
end

