-- ==== Sys2Proof/Laws/Cee.lean ====
section
/-! SUPPORT. What the operations of Cee leave alone. -/

namespace Sys2Proof.Machine

@[simp] theorem changeBand_keeps (s : State) (i : Nat) (b : Band) (up : Bool) :
    (changeBand s i b up).pending = s.pending ∧ (changeBand s i b up).variant = s.variant ∧
    (changeBand s i b up).clk = s.clk ∧ (changeBand s i b up).unit = s.unit ∧ (changeBand s i b up).str = s.str ∧
    (changeBand s i b up).pwr = s.pwr ∧ (changeBand s i b up).hvi = s.hvi ∧ (changeBand s i b up).hviStr = s.hviStr ∧
    (changeBand s i b up).rings = s.rings ∧ (changeBand s i b up).tpe = s.tpe ∧ (changeBand s i b up).th = s.th ∧
    (changeBand s i b up).bal = s.bal ∧ (changeBand s i b up).dsp = s.dsp ∧ (changeBand s i b up).conv = s.conv ∧
    (changeBand s i b up).phase = s.phase ∧ (changeBand s i b up).gx2 = s.gx2 ∧ (changeBand s i b up).le = s.le ∧
    (changeBand s i b up).saf = s.saf ∧ (changeBand s i b up).red = s.red ∧ (changeBand s i b up).rack = s.rack ∧
    (changeBand s i b up).seq = s.seq ∧ (changeBand s i b up).tsu = s.tsu ∧ (changeBand s i b up).hpr = s.hpr ∧
    (changeBand s i b up).net = s.net ∧ (changeBand s i b up).app = s.app ∧ (changeBand s i b up).icu = s.icu ∧
    (changeBand s i b up).flt = s.flt ∧ (changeBand s i b up).plg = s.plg ∧ (changeBand s i b up).upd = s.upd ∧
    (changeBand s i b up).mem = s.mem ∧ (changeBand s i b up).canRam = s.canRam ∧
    (changeBand s i b up).free = s.free := by
  unfold changeBand; (repeat' split) <;> simp

@[simp] theorem startCell_keeps (s : State) (i k tk : Nat) (v : Rat) (vRaw : Nat) :
    (startCell s i k tk v vRaw).pending = s.pending ∧ (startCell s i k tk v vRaw).variant = s.variant ∧
    (startCell s i k tk v vRaw).clk = s.clk ∧ (startCell s i k tk v vRaw).unit = s.unit ∧
    (startCell s i k tk v vRaw).str = s.str ∧ (startCell s i k tk v vRaw).pwr = s.pwr ∧
    (startCell s i k tk v vRaw).hvi = s.hvi ∧ (startCell s i k tk v vRaw).hviStr = s.hviStr ∧
    (startCell s i k tk v vRaw).rings = s.rings ∧ (startCell s i k tk v vRaw).tpe = s.tpe ∧
    (startCell s i k tk v vRaw).th = s.th ∧ (startCell s i k tk v vRaw).bal = s.bal ∧
    (startCell s i k tk v vRaw).dsp = s.dsp ∧ (startCell s i k tk v vRaw).conv = s.conv ∧
    (startCell s i k tk v vRaw).phase = s.phase ∧ (startCell s i k tk v vRaw).gx2 = s.gx2 ∧
    (startCell s i k tk v vRaw).le = s.le ∧ (startCell s i k tk v vRaw).saf = s.saf ∧
    (startCell s i k tk v vRaw).red = s.red ∧ (startCell s i k tk v vRaw).rack = s.rack ∧
    (startCell s i k tk v vRaw).seq = s.seq ∧ (startCell s i k tk v vRaw).tsu = s.tsu ∧
    (startCell s i k tk v vRaw).hpr = s.hpr ∧ (startCell s i k tk v vRaw).net = s.net ∧
    (startCell s i k tk v vRaw).app = s.app ∧ (startCell s i k tk v vRaw).icu = s.icu ∧
    (startCell s i k tk v vRaw).flt = s.flt ∧ (startCell s i k tk v vRaw).plg = s.plg ∧
    (startCell s i k tk v vRaw).upd = s.upd ∧ (startCell s i k tk v vRaw).mem = s.mem ∧
    (startCell s i k tk v vRaw).canRam = s.canRam := by
  unfold startCell; (repeat' split) <;> simp

@[simp] theorem resetCov_keeps (s : State) (idx : Nat) :
    (resetCov s idx).pending = s.pending ∧ (resetCov s idx).variant = s.variant ∧ (resetCov s idx).clk = s.clk ∧
    (resetCov s idx).unit = s.unit ∧ (resetCov s idx).str = s.str ∧ (resetCov s idx).pwr = s.pwr ∧
    (resetCov s idx).hvi = s.hvi ∧ (resetCov s idx).hviStr = s.hviStr ∧ (resetCov s idx).rings = s.rings ∧
    (resetCov s idx).tpe = s.tpe ∧ (resetCov s idx).th = s.th ∧ (resetCov s idx).bal = s.bal ∧
    (resetCov s idx).dsp = s.dsp ∧ (resetCov s idx).conv = s.conv ∧ (resetCov s idx).phase = s.phase ∧
    (resetCov s idx).gx2 = s.gx2 ∧ (resetCov s idx).le = s.le ∧ (resetCov s idx).saf = s.saf ∧
    (resetCov s idx).red = s.red ∧ (resetCov s idx).rack = s.rack ∧ (resetCov s idx).seq = s.seq ∧
    (resetCov s idx).tsu = s.tsu ∧ (resetCov s idx).hpr = s.hpr ∧ (resetCov s idx).net = s.net ∧
    (resetCov s idx).app = s.app ∧ (resetCov s idx).flt = s.flt ∧ (resetCov s idx).upd = s.upd ∧
    (resetCov s idx).mem = s.mem ∧ (resetCov s idx).canRam = s.canRam ∧ (resetCov s idx).free = s.free := by
  unfold resetCov; (repeat' split) <;> simp

@[simp] theorem measure_keeps (s : State) (n i k : Nat) (x p : List Rat) (pts : List (List Rat)) (v cur : Rat) (t : Int) :
    (measure s n i k x p pts v cur t).pending = s.pending ∧ (measure s n i k x p pts v cur t).variant = s.variant ∧
    (measure s n i k x p pts v cur t).clk = s.clk ∧ (measure s n i k x p pts v cur t).unit = s.unit ∧
    (measure s n i k x p pts v cur t).str = s.str ∧ (measure s n i k x p pts v cur t).pwr = s.pwr ∧
    (measure s n i k x p pts v cur t).hvi = s.hvi ∧ (measure s n i k x p pts v cur t).hviStr = s.hviStr ∧
    (measure s n i k x p pts v cur t).rings = s.rings ∧ (measure s n i k x p pts v cur t).tpe = s.tpe ∧
    (measure s n i k x p pts v cur t).th = s.th ∧ (measure s n i k x p pts v cur t).bal = s.bal ∧
    (measure s n i k x p pts v cur t).dsp = s.dsp ∧ (measure s n i k x p pts v cur t).conv = s.conv ∧
    (measure s n i k x p pts v cur t).phase = s.phase ∧ (measure s n i k x p pts v cur t).gx2 = s.gx2 ∧
    (measure s n i k x p pts v cur t).le = s.le ∧ (measure s n i k x p pts v cur t).saf = s.saf ∧
    (measure s n i k x p pts v cur t).red = s.red ∧ (measure s n i k x p pts v cur t).rack = s.rack ∧
    (measure s n i k x p pts v cur t).seq = s.seq ∧ (measure s n i k x p pts v cur t).tsu = s.tsu ∧
    (measure s n i k x p pts v cur t).net = s.net ∧ (measure s n i k x p pts v cur t).app = s.app ∧
    (measure s n i k x p pts v cur t).flt = s.flt ∧ (measure s n i k x p pts v cur t).upd = s.upd ∧
    (measure s n i k x p pts v cur t).canRam = s.canRam ∧ (measure s n i k x p pts v cur t).free = s.free := by
  unfold measure; (repeat' split) <;> simp

@[simp] theorem anchorStep_keeps (s : State) (i idx : Nat) (dq : Int) :
    (anchorStep s i idx dq).pending = s.pending ∧ (anchorStep s i idx dq).variant = s.variant ∧
    (anchorStep s i idx dq).clk = s.clk ∧ (anchorStep s i idx dq).unit = s.unit ∧
    (anchorStep s i idx dq).str = s.str ∧ (anchorStep s i idx dq).pwr = s.pwr ∧ (anchorStep s i idx dq).hvi = s.hvi ∧
    (anchorStep s i idx dq).hviStr = s.hviStr ∧ (anchorStep s i idx dq).rings = s.rings ∧
    (anchorStep s i idx dq).tpe = s.tpe ∧ (anchorStep s i idx dq).th = s.th ∧ (anchorStep s i idx dq).bal = s.bal ∧
    (anchorStep s i idx dq).dsp = s.dsp ∧ (anchorStep s i idx dq).conv = s.conv ∧
    (anchorStep s i idx dq).phase = s.phase ∧ (anchorStep s i idx dq).gx2 = s.gx2 ∧
    (anchorStep s i idx dq).le = s.le ∧ (anchorStep s i idx dq).saf = s.saf ∧ (anchorStep s i idx dq).red = s.red ∧
    (anchorStep s i idx dq).rack = s.rack ∧ (anchorStep s i idx dq).seq = s.seq ∧
    (anchorStep s i idx dq).tsu = s.tsu ∧ (anchorStep s i idx dq).hpr = s.hpr ∧ (anchorStep s i idx dq).net = s.net ∧
    (anchorStep s i idx dq).app = s.app ∧ (anchorStep s i idx dq).icu = s.icu ∧ (anchorStep s i idx dq).flt = s.flt ∧
    (anchorStep s i idx dq).plg = s.plg ∧ (anchorStep s i idx dq).upd = s.upd ∧ (anchorStep s i idx dq).mem = s.mem ∧
    (anchorStep s i idx dq).canRam = s.canRam ∧ (anchorStep s i idx dq).free = s.free := by
  unfold anchorStep; (repeat' split) <;> simp

@[simp] theorem ohmStep_keeps (s : State) (mt : Bytes) (t : Int) (idx : Nat) :
    (ohmStep s mt t idx).pending = s.pending ∧ (ohmStep s mt t idx).variant = s.variant ∧
    (ohmStep s mt t idx).clk = s.clk ∧ (ohmStep s mt t idx).unit = s.unit ∧ (ohmStep s mt t idx).str = s.str ∧
    (ohmStep s mt t idx).pwr = s.pwr ∧ (ohmStep s mt t idx).hvi = s.hvi ∧ (ohmStep s mt t idx).hviStr = s.hviStr ∧
    (ohmStep s mt t idx).rings = s.rings ∧ (ohmStep s mt t idx).tpe = s.tpe ∧ (ohmStep s mt t idx).th = s.th ∧
    (ohmStep s mt t idx).bal = s.bal ∧ (ohmStep s mt t idx).dsp = s.dsp ∧ (ohmStep s mt t idx).conv = s.conv ∧
    (ohmStep s mt t idx).phase = s.phase ∧ (ohmStep s mt t idx).gx2 = s.gx2 ∧ (ohmStep s mt t idx).le = s.le ∧
    (ohmStep s mt t idx).saf = s.saf ∧ (ohmStep s mt t idx).red = s.red ∧ (ohmStep s mt t idx).rack = s.rack ∧
    (ohmStep s mt t idx).seq = s.seq ∧ (ohmStep s mt t idx).tsu = s.tsu ∧ (ohmStep s mt t idx).hpr = s.hpr ∧
    (ohmStep s mt t idx).net = s.net ∧ (ohmStep s mt t idx).app = s.app ∧ (ohmStep s mt t idx).icu = s.icu ∧
    (ohmStep s mt t idx).flt = s.flt ∧ (ohmStep s mt t idx).plg = s.plg ∧ (ohmStep s mt t idx).upd = s.upd ∧
    (ohmStep s mt t idx).mem = s.mem ∧ (ohmStep s mt t idx).canRam = s.canRam ∧ (ohmStep s mt t idx).free = s.free := by
  unfold ohmStep; (repeat' split) <;> simp

@[simp] theorem stepCell_keeps (i tk : Nat) (dInt : Int) (dt cur : Rat) (curMa : Int) (s : State) (k : Nat) :
    (stepCell i tk dInt dt cur curMa s k).pending = s.pending ∧
    (stepCell i tk dInt dt cur curMa s k).variant = s.variant ∧ (stepCell i tk dInt dt cur curMa s k).clk = s.clk ∧
    (stepCell i tk dInt dt cur curMa s k).unit = s.unit ∧ (stepCell i tk dInt dt cur curMa s k).str = s.str ∧
    (stepCell i tk dInt dt cur curMa s k).pwr = s.pwr ∧ (stepCell i tk dInt dt cur curMa s k).hvi = s.hvi ∧
    (stepCell i tk dInt dt cur curMa s k).hviStr = s.hviStr ∧ (stepCell i tk dInt dt cur curMa s k).rings = s.rings ∧
    (stepCell i tk dInt dt cur curMa s k).tpe = s.tpe ∧ (stepCell i tk dInt dt cur curMa s k).th = s.th ∧
    (stepCell i tk dInt dt cur curMa s k).bal = s.bal ∧ (stepCell i tk dInt dt cur curMa s k).dsp = s.dsp ∧
    (stepCell i tk dInt dt cur curMa s k).conv = s.conv ∧ (stepCell i tk dInt dt cur curMa s k).phase = s.phase ∧
    (stepCell i tk dInt dt cur curMa s k).gx2 = s.gx2 ∧ (stepCell i tk dInt dt cur curMa s k).le = s.le ∧
    (stepCell i tk dInt dt cur curMa s k).saf = s.saf ∧ (stepCell i tk dInt dt cur curMa s k).red = s.red ∧
    (stepCell i tk dInt dt cur curMa s k).rack = s.rack ∧ (stepCell i tk dInt dt cur curMa s k).seq = s.seq ∧
    (stepCell i tk dInt dt cur curMa s k).tsu = s.tsu ∧ (stepCell i tk dInt dt cur curMa s k).net = s.net ∧
    (stepCell i tk dInt dt cur curMa s k).app = s.app ∧ (stepCell i tk dInt dt cur curMa s k).flt = s.flt ∧
    (stepCell i tk dInt dt cur curMa s k).upd = s.upd ∧ (stepCell i tk dInt dt cur curMa s k).canRam = s.canRam := by
  unfold stepCell; dsimp only; (repeat' split) <;> simp

@[simp] theorem booksCheck_keeps (s0 s1 : State) (i : Nat) (dInt : Int) :
    (booksCheck s0 s1 i dInt).pending = s1.pending ∧ (booksCheck s0 s1 i dInt).variant = s1.variant ∧
    (booksCheck s0 s1 i dInt).clk = s1.clk ∧ (booksCheck s0 s1 i dInt).unit = s1.unit ∧
    (booksCheck s0 s1 i dInt).str = s1.str ∧ (booksCheck s0 s1 i dInt).pwr = s1.pwr ∧
    (booksCheck s0 s1 i dInt).hvi = s1.hvi ∧ (booksCheck s0 s1 i dInt).hviStr = s1.hviStr ∧
    (booksCheck s0 s1 i dInt).rings = s1.rings ∧ (booksCheck s0 s1 i dInt).tpe = s1.tpe ∧
    (booksCheck s0 s1 i dInt).th = s1.th ∧ (booksCheck s0 s1 i dInt).bal = s1.bal ∧
    (booksCheck s0 s1 i dInt).dsp = s1.dsp ∧ (booksCheck s0 s1 i dInt).conv = s1.conv ∧
    (booksCheck s0 s1 i dInt).phase = s1.phase ∧ (booksCheck s0 s1 i dInt).gx2 = s1.gx2 ∧
    (booksCheck s0 s1 i dInt).le = s1.le ∧ (booksCheck s0 s1 i dInt).saf = s1.saf ∧
    (booksCheck s0 s1 i dInt).red = s1.red ∧ (booksCheck s0 s1 i dInt).rack = s1.rack ∧
    (booksCheck s0 s1 i dInt).seq = s1.seq ∧ (booksCheck s0 s1 i dInt).tsu = s1.tsu ∧
    (booksCheck s0 s1 i dInt).hpr = s1.hpr ∧ (booksCheck s0 s1 i dInt).net = s1.net ∧
    (booksCheck s0 s1 i dInt).app = s1.app ∧ (booksCheck s0 s1 i dInt).upd = s1.upd ∧
    (booksCheck s0 s1 i dInt).mem = s1.mem ∧ (booksCheck s0 s1 i dInt).canRam = s1.canRam ∧
    (booksCheck s0 s1 i dInt).free = s1.free := by
  unfold booksCheck; dsimp only; split <;> simp

@[simp] theorem stepString_keeps (s : State) (i : Nat) :
    (stepString s i).pending = s.pending ∧ (stepString s i).variant = s.variant ∧ (stepString s i).clk = s.clk ∧
    (stepString s i).unit = s.unit ∧ (stepString s i).str = s.str ∧ (stepString s i).pwr = s.pwr ∧
    (stepString s i).hvi = s.hvi ∧ (stepString s i).hviStr = s.hviStr ∧ (stepString s i).rings = s.rings ∧
    (stepString s i).tpe = s.tpe ∧ (stepString s i).th = s.th ∧ (stepString s i).bal = s.bal ∧
    (stepString s i).dsp = s.dsp ∧ (stepString s i).conv = s.conv ∧ (stepString s i).phase = s.phase ∧
    (stepString s i).gx2 = s.gx2 ∧ (stepString s i).le = s.le ∧ (stepString s i).saf = s.saf ∧
    (stepString s i).red = s.red ∧ (stepString s i).rack = s.rack ∧ (stepString s i).seq = s.seq ∧
    (stepString s i).tsu = s.tsu ∧ (stepString s i).net = s.net ∧ (stepString s i).app = s.app ∧
    (stepString s i).upd = s.upd ∧ (stepString s i).canRam = s.canRam := by
  unfold stepString; dsimp only; simp

@[simp] theorem judgeStale_keeps (s : State) (i : Nat) :
    (judgeStale s i).pending = s.pending ∧ (judgeStale s i).variant = s.variant ∧ (judgeStale s i).clk = s.clk ∧
    (judgeStale s i).unit = s.unit ∧ (judgeStale s i).str = s.str ∧ (judgeStale s i).pwr = s.pwr ∧
    (judgeStale s i).hvi = s.hvi ∧ (judgeStale s i).hviStr = s.hviStr ∧ (judgeStale s i).rings = s.rings ∧
    (judgeStale s i).tpe = s.tpe ∧ (judgeStale s i).th = s.th ∧ (judgeStale s i).bal = s.bal ∧
    (judgeStale s i).dsp = s.dsp ∧ (judgeStale s i).conv = s.conv ∧ (judgeStale s i).phase = s.phase ∧
    (judgeStale s i).gx2 = s.gx2 ∧ (judgeStale s i).le = s.le ∧ (judgeStale s i).saf = s.saf ∧
    (judgeStale s i).red = s.red ∧ (judgeStale s i).rack = s.rack ∧ (judgeStale s i).seq = s.seq ∧
    (judgeStale s i).tsu = s.tsu ∧ (judgeStale s i).hpr = s.hpr ∧ (judgeStale s i).net = s.net ∧
    (judgeStale s i).app = s.app ∧ (judgeStale s i).icu = s.icu ∧ (judgeStale s i).flt = s.flt ∧
    (judgeStale s i).plg = s.plg ∧ (judgeStale s i).upd = s.upd ∧ (judgeStale s i).mem = s.mem ∧
    (judgeStale s i).canRam = s.canRam ∧ (judgeStale s i).free = s.free := by
  unfold judgeStale; (repeat' split) <;> simp

@[simp] theorem sopString_keeps (optional : Bool) (s : State) (i : Nat) :
    (sopString optional s i).pending = s.pending ∧ (sopString optional s i).variant = s.variant ∧
    (sopString optional s i).clk = s.clk ∧ (sopString optional s i).unit = s.unit ∧
    (sopString optional s i).str = s.str ∧ (sopString optional s i).pwr = s.pwr ∧
    (sopString optional s i).hvi = s.hvi ∧ (sopString optional s i).hviStr = s.hviStr ∧
    (sopString optional s i).rings = s.rings ∧ (sopString optional s i).tpe = s.tpe ∧
    (sopString optional s i).th = s.th ∧ (sopString optional s i).bal = s.bal ∧
    (sopString optional s i).dsp = s.dsp ∧ (sopString optional s i).conv = s.conv ∧
    (sopString optional s i).phase = s.phase ∧ (sopString optional s i).gx2 = s.gx2 ∧
    (sopString optional s i).le = s.le ∧ (sopString optional s i).saf = s.saf ∧
    (sopString optional s i).red = s.red ∧ (sopString optional s i).rack = s.rack ∧
    (sopString optional s i).seq = s.seq ∧ (sopString optional s i).tsu = s.tsu ∧
    (sopString optional s i).hpr = s.hpr ∧ (sopString optional s i).net = s.net ∧
    (sopString optional s i).app = s.app ∧ (sopString optional s i).icu = s.icu ∧
    (sopString optional s i).flt = s.flt ∧ (sopString optional s i).plg = s.plg ∧
    (sopString optional s i).upd = s.upd ∧ (sopString optional s i).mem = s.mem ∧
    (sopString optional s i).canRam = s.canRam := by
  unfold sopString; (repeat' split) <;> simp

@[simp] theorem beginJournal_keeps (s : State) :
    (beginJournal s).pending = s.pending ∧ (beginJournal s).variant = s.variant ∧ (beginJournal s).clk = s.clk ∧
    (beginJournal s).unit = s.unit ∧ (beginJournal s).str = s.str ∧ (beginJournal s).pwr = s.pwr ∧
    (beginJournal s).hvi = s.hvi ∧ (beginJournal s).hviStr = s.hviStr ∧ (beginJournal s).rings = s.rings ∧
    (beginJournal s).tpe = s.tpe ∧ (beginJournal s).th = s.th ∧ (beginJournal s).bal = s.bal ∧
    (beginJournal s).dsp = s.dsp ∧ (beginJournal s).conv = s.conv ∧ (beginJournal s).phase = s.phase ∧
    (beginJournal s).gx2 = s.gx2 ∧ (beginJournal s).le = s.le ∧ (beginJournal s).saf = s.saf ∧
    (beginJournal s).red = s.red ∧ (beginJournal s).rack = s.rack ∧ (beginJournal s).seq = s.seq ∧
    (beginJournal s).tsu = s.tsu ∧ (beginJournal s).hpr = s.hpr ∧ (beginJournal s).net = s.net ∧
    (beginJournal s).app = s.app ∧ (beginJournal s).icu = s.icu ∧ (beginJournal s).flt = s.flt ∧
    (beginJournal s).plg = s.plg ∧ (beginJournal s).upd = s.upd ∧ (beginJournal s).mem = s.mem ∧
    (beginJournal s).canRam = s.canRam := by
  unfold beginJournal; (repeat' split) <;> simp

@[simp] theorem triggerJournal_keeps (s : State) (reason : Nat) :
    (triggerJournal s reason).pending = s.pending ∧ (triggerJournal s reason).variant = s.variant ∧
    (triggerJournal s reason).clk = s.clk ∧ (triggerJournal s reason).unit = s.unit ∧
    (triggerJournal s reason).str = s.str ∧ (triggerJournal s reason).hvi = s.hvi ∧
    (triggerJournal s reason).hviStr = s.hviStr ∧ (triggerJournal s reason).rings = s.rings ∧
    (triggerJournal s reason).tpe = s.tpe ∧ (triggerJournal s reason).th = s.th ∧
    (triggerJournal s reason).bal = s.bal ∧ (triggerJournal s reason).dsp = s.dsp ∧
    (triggerJournal s reason).conv = s.conv ∧ (triggerJournal s reason).phase = s.phase ∧
    (triggerJournal s reason).gx2 = s.gx2 ∧ (triggerJournal s reason).le = s.le ∧
    (triggerJournal s reason).saf = s.saf ∧ (triggerJournal s reason).red = s.red ∧
    (triggerJournal s reason).rack = s.rack ∧ (triggerJournal s reason).seq = s.seq ∧
    (triggerJournal s reason).tsu = s.tsu ∧ (triggerJournal s reason).hpr = s.hpr ∧
    (triggerJournal s reason).net = s.net ∧ (triggerJournal s reason).app = s.app ∧
    (triggerJournal s reason).icu = s.icu ∧ (triggerJournal s reason).flt = s.flt ∧
    (triggerJournal s reason).plg = s.plg ∧ (triggerJournal s reason).upd = s.upd ∧
    (triggerJournal s reason).mem = s.mem ∧ (triggerJournal s reason).canRam = s.canRam := by
  unfold triggerJournal; (repeat' split) <;> simp

@[simp] theorem loadJournal_keeps (s : State) :
    (loadJournal s).pending = s.pending ∧ (loadJournal s).variant = s.variant ∧ (loadJournal s).clk = s.clk ∧
    (loadJournal s).unit = s.unit ∧ (loadJournal s).str = s.str ∧ (loadJournal s).pwr = s.pwr ∧
    (loadJournal s).hvi = s.hvi ∧ (loadJournal s).hviStr = s.hviStr ∧ (loadJournal s).rings = s.rings ∧
    (loadJournal s).tpe = s.tpe ∧ (loadJournal s).th = s.th ∧ (loadJournal s).bal = s.bal ∧
    (loadJournal s).dsp = s.dsp ∧ (loadJournal s).conv = s.conv ∧ (loadJournal s).phase = s.phase ∧
    (loadJournal s).gx2 = s.gx2 ∧ (loadJournal s).le = s.le ∧ (loadJournal s).saf = s.saf ∧
    (loadJournal s).red = s.red ∧ (loadJournal s).rack = s.rack ∧ (loadJournal s).seq = s.seq ∧
    (loadJournal s).tsu = s.tsu ∧ (loadJournal s).hpr = s.hpr ∧ (loadJournal s).net = s.net ∧
    (loadJournal s).app = s.app ∧ (loadJournal s).flt = s.flt ∧ (loadJournal s).upd = s.upd ∧
    (loadJournal s).mem = s.mem ∧ (loadJournal s).canRam = s.canRam ∧ (loadJournal s).free = s.free := by
  unfold loadJournal; (repeat' split) <;> simp

@[simp] theorem ageing_keeps (s : State) (idx : Nat) :
    (ageing s idx).pending = s.pending ∧ (ageing s idx).variant = s.variant ∧ (ageing s idx).clk = s.clk ∧
    (ageing s idx).unit = s.unit ∧ (ageing s idx).str = s.str ∧ (ageing s idx).pwr = s.pwr ∧
    (ageing s idx).hvi = s.hvi ∧ (ageing s idx).hviStr = s.hviStr ∧ (ageing s idx).rings = s.rings ∧
    (ageing s idx).tpe = s.tpe ∧ (ageing s idx).th = s.th ∧ (ageing s idx).bal = s.bal ∧ (ageing s idx).dsp = s.dsp ∧
    (ageing s idx).conv = s.conv ∧ (ageing s idx).phase = s.phase ∧ (ageing s idx).gx2 = s.gx2 ∧
    (ageing s idx).le = s.le ∧ (ageing s idx).saf = s.saf ∧ (ageing s idx).red = s.red ∧
    (ageing s idx).rack = s.rack ∧ (ageing s idx).seq = s.seq ∧ (ageing s idx).tsu = s.tsu ∧
    (ageing s idx).hpr = s.hpr ∧ (ageing s idx).net = s.net ∧ (ageing s idx).app = s.app ∧
    (ageing s idx).flt = s.flt ∧ (ageing s idx).upd = s.upd ∧ (ageing s idx).mem = s.mem ∧
    (ageing s idx).canRam = s.canRam ∧ (ageing s idx).free = s.free := by
  unfold ageing; (repeat' split) <;> simp

@[simp] theorem restTrack_keeps (s : State) (i : Nat) :
    (restTrack s i).pending = s.pending ∧ (restTrack s i).variant = s.variant ∧ (restTrack s i).clk = s.clk ∧
    (restTrack s i).unit = s.unit ∧ (restTrack s i).str = s.str ∧ (restTrack s i).pwr = s.pwr ∧
    (restTrack s i).hvi = s.hvi ∧ (restTrack s i).hviStr = s.hviStr ∧ (restTrack s i).rings = s.rings ∧
    (restTrack s i).tpe = s.tpe ∧ (restTrack s i).th = s.th ∧ (restTrack s i).bal = s.bal ∧
    (restTrack s i).dsp = s.dsp ∧ (restTrack s i).conv = s.conv ∧ (restTrack s i).phase = s.phase ∧
    (restTrack s i).gx2 = s.gx2 ∧ (restTrack s i).le = s.le ∧ (restTrack s i).saf = s.saf ∧
    (restTrack s i).red = s.red ∧ (restTrack s i).rack = s.rack ∧ (restTrack s i).seq = s.seq ∧
    (restTrack s i).tsu = s.tsu ∧ (restTrack s i).hpr = s.hpr ∧ (restTrack s i).net = s.net ∧
    (restTrack s i).app = s.app ∧ (restTrack s i).icu = s.icu ∧ (restTrack s i).flt = s.flt ∧
    (restTrack s i).plg = s.plg ∧ (restTrack s i).upd = s.upd ∧ (restTrack s i).mem = s.mem ∧
    (restTrack s i).canRam = s.canRam ∧ (restTrack s i).free = s.free := by
  unfold restTrack; (repeat' split) <;> simp

@[simp] theorem periodString_keeps (optional : Bool) (s : State) (i : Nat) :
    (periodString optional s i).pending = s.pending ∧ (periodString optional s i).variant = s.variant ∧
    (periodString optional s i).clk = s.clk ∧ (periodString optional s i).unit = s.unit ∧
    (periodString optional s i).str = s.str ∧ (periodString optional s i).pwr = s.pwr ∧
    (periodString optional s i).hvi = s.hvi ∧ (periodString optional s i).hviStr = s.hviStr ∧
    (periodString optional s i).rings = s.rings ∧ (periodString optional s i).tpe = s.tpe ∧
    (periodString optional s i).th = s.th ∧ (periodString optional s i).bal = s.bal ∧
    (periodString optional s i).dsp = s.dsp ∧ (periodString optional s i).conv = s.conv ∧
    (periodString optional s i).phase = s.phase ∧ (periodString optional s i).gx2 = s.gx2 ∧
    (periodString optional s i).le = s.le ∧ (periodString optional s i).saf = s.saf ∧
    (periodString optional s i).red = s.red ∧ (periodString optional s i).rack = s.rack ∧
    (periodString optional s i).seq = s.seq ∧ (periodString optional s i).tsu = s.tsu ∧
    (periodString optional s i).net = s.net ∧ (periodString optional s i).app = s.app ∧
    (periodString optional s i).upd = s.upd ∧ (periodString optional s i).canRam = s.canRam := by
  unfold periodString; dsimp only; (repeat' split) <;> simp

@[simp] theorem ceeDeadline_keeps (s : State) :
    (ceeDeadline s).pending = s.pending ∧ (ceeDeadline s).variant = s.variant ∧ (ceeDeadline s).clk = s.clk ∧
    (ceeDeadline s).unit = s.unit ∧ (ceeDeadline s).str = s.str ∧ (ceeDeadline s).pwr = s.pwr ∧
    (ceeDeadline s).hvi = s.hvi ∧ (ceeDeadline s).hviStr = s.hviStr ∧ (ceeDeadline s).rings = s.rings ∧
    (ceeDeadline s).tpe = s.tpe ∧ (ceeDeadline s).th = s.th ∧ (ceeDeadline s).bal = s.bal ∧
    (ceeDeadline s).dsp = s.dsp ∧ (ceeDeadline s).conv = s.conv ∧ (ceeDeadline s).phase = s.phase ∧
    (ceeDeadline s).gx2 = s.gx2 ∧ (ceeDeadline s).le = s.le ∧ (ceeDeadline s).saf = s.saf ∧
    (ceeDeadline s).red = s.red ∧ (ceeDeadline s).rack = s.rack ∧ (ceeDeadline s).seq = s.seq ∧
    (ceeDeadline s).tsu = s.tsu ∧ (ceeDeadline s).hpr = s.hpr ∧ (ceeDeadline s).net = s.net ∧
    (ceeDeadline s).app = s.app ∧ (ceeDeadline s).upd = s.upd ∧ (ceeDeadline s).mem = s.mem ∧
    (ceeDeadline s).canRam = s.canRam ∧ (ceeDeadline s).free = s.free := by
  unfold ceeDeadline; (repeat' split) <;> simp

@[simp] theorem storeEst_keeps (s : State) (p : Bytes) :
    (storeEst s p).pending = s.pending ∧ (storeEst s p).variant = s.variant ∧ (storeEst s p).clk = s.clk ∧
    (storeEst s p).unit = s.unit ∧ (storeEst s p).str = s.str ∧ (storeEst s p).pwr = s.pwr ∧
    (storeEst s p).hvi = s.hvi ∧ (storeEst s p).hviStr = s.hviStr ∧ (storeEst s p).rings = s.rings ∧
    (storeEst s p).tpe = s.tpe ∧ (storeEst s p).th = s.th ∧ (storeEst s p).bal = s.bal ∧ (storeEst s p).dsp = s.dsp ∧
    (storeEst s p).conv = s.conv ∧ (storeEst s p).phase = s.phase ∧ (storeEst s p).gx2 = s.gx2 ∧
    (storeEst s p).le = s.le ∧ (storeEst s p).saf = s.saf ∧ (storeEst s p).red = s.red ∧
    (storeEst s p).rack = s.rack ∧ (storeEst s p).seq = s.seq ∧ (storeEst s p).tsu = s.tsu ∧
    (storeEst s p).hpr = s.hpr ∧ (storeEst s p).net = s.net ∧ (storeEst s p).app = s.app ∧
    (storeEst s p).icu = s.icu ∧ (storeEst s p).flt = s.flt ∧ (storeEst s p).plg = s.plg ∧
    (storeEst s p).upd = s.upd ∧ (storeEst s p).mem = s.mem ∧ (storeEst s p).canRam = s.canRam ∧
    (storeEst s p).free = s.free := by
  unfold storeEst; (repeat' split) <;> simp

@[simp] theorem storeSoc_keeps (s : State) (p : Bytes) :
    (storeSoc s p).pending = s.pending ∧ (storeSoc s p).variant = s.variant ∧ (storeSoc s p).clk = s.clk ∧
    (storeSoc s p).unit = s.unit ∧ (storeSoc s p).str = s.str ∧ (storeSoc s p).pwr = s.pwr ∧
    (storeSoc s p).hvi = s.hvi ∧ (storeSoc s p).hviStr = s.hviStr ∧ (storeSoc s p).rings = s.rings ∧
    (storeSoc s p).tpe = s.tpe ∧ (storeSoc s p).th = s.th ∧ (storeSoc s p).bal = s.bal ∧ (storeSoc s p).dsp = s.dsp ∧
    (storeSoc s p).conv = s.conv ∧ (storeSoc s p).phase = s.phase ∧ (storeSoc s p).gx2 = s.gx2 ∧
    (storeSoc s p).le = s.le ∧ (storeSoc s p).saf = s.saf ∧ (storeSoc s p).red = s.red ∧
    (storeSoc s p).rack = s.rack ∧ (storeSoc s p).seq = s.seq ∧ (storeSoc s p).tsu = s.tsu ∧
    (storeSoc s p).hpr = s.hpr ∧ (storeSoc s p).net = s.net ∧ (storeSoc s p).app = s.app ∧
    (storeSoc s p).icu = s.icu ∧ (storeSoc s p).flt = s.flt ∧ (storeSoc s p).plg = s.plg ∧
    (storeSoc s p).upd = s.upd ∧ (storeSoc s p).mem = s.mem ∧ (storeSoc s p).canRam = s.canRam ∧
    (storeSoc s p).free = s.free := by
  unfold storeSoc; (repeat' split) <;> simp

@[simp] theorem storeReset_keeps (s : State) (p : Bytes) :
    (storeReset s p).pending = s.pending ∧ (storeReset s p).variant = s.variant ∧ (storeReset s p).clk = s.clk ∧
    (storeReset s p).unit = s.unit ∧ (storeReset s p).str = s.str ∧ (storeReset s p).pwr = s.pwr ∧
    (storeReset s p).hvi = s.hvi ∧ (storeReset s p).hviStr = s.hviStr ∧ (storeReset s p).rings = s.rings ∧
    (storeReset s p).tpe = s.tpe ∧ (storeReset s p).th = s.th ∧ (storeReset s p).bal = s.bal ∧
    (storeReset s p).dsp = s.dsp ∧ (storeReset s p).conv = s.conv ∧ (storeReset s p).phase = s.phase ∧
    (storeReset s p).gx2 = s.gx2 ∧ (storeReset s p).le = s.le ∧ (storeReset s p).saf = s.saf ∧
    (storeReset s p).red = s.red ∧ (storeReset s p).rack = s.rack ∧ (storeReset s p).seq = s.seq ∧
    (storeReset s p).tsu = s.tsu ∧ (storeReset s p).hpr = s.hpr ∧ (storeReset s p).net = s.net ∧
    (storeReset s p).app = s.app ∧ (storeReset s p).icu = s.icu ∧ (storeReset s p).flt = s.flt ∧
    (storeReset s p).plg = s.plg ∧ (storeReset s p).upd = s.upd ∧ (storeReset s p).mem = s.mem ∧
    (storeReset s p).canRam = s.canRam ∧ (storeReset s p).free = s.free := by
  unfold storeReset; (repeat' split) <;> simp

end Sys2Proof.Machine
end

