-- ==== Sys2Proof/Laws/Tpe.lean ====
section
/-! SUPPORT. What the operations of Tpe leave alone. -/

namespace Sys2Proof.Machine

@[simp] theorem modPair_keeps (s : State) (k : Nat) (f : Pair → Pair) :
    (modPair s k f).pending = s.pending ∧ (modPair s k f).variant = s.variant ∧ (modPair s k f).clk = s.clk ∧
    (modPair s k f).unit = s.unit ∧ (modPair s k f).str = s.str ∧ (modPair s k f).pwr = s.pwr ∧
    (modPair s k f).hvi = s.hvi ∧ (modPair s k f).hviStr = s.hviStr ∧ (modPair s k f).rings = s.rings ∧
    (modPair s k f).cee = s.cee ∧ (modPair s k f).th = s.th ∧ (modPair s k f).bal = s.bal ∧
    (modPair s k f).dsp = s.dsp ∧ (modPair s k f).conv = s.conv ∧ (modPair s k f).phase = s.phase ∧
    (modPair s k f).gx2 = s.gx2 ∧ (modPair s k f).le = s.le ∧ (modPair s k f).saf = s.saf ∧
    (modPair s k f).red = s.red ∧ (modPair s k f).rack = s.rack ∧ (modPair s k f).seq = s.seq ∧
    (modPair s k f).tsu = s.tsu ∧ (modPair s k f).hpr = s.hpr ∧ (modPair s k f).net = s.net ∧
    (modPair s k f).app = s.app ∧ (modPair s k f).icu = s.icu ∧ (modPair s k f).flt = s.flt ∧
    (modPair s k f).plg = s.plg ∧ (modPair s k f).upd = s.upd ∧ (modPair s k f).mem = s.mem ∧
    (modPair s k f).canRam = s.canRam ∧ (modPair s k f).free = s.free := by
  unfold modPair; (repeat' split) <;> simp

@[simp] theorem stopPair_keeps (s : State) (k : Nat) :
    (stopPair s k).pending = s.pending ∧ (stopPair s k).variant = s.variant ∧ (stopPair s k).clk = s.clk ∧
    (stopPair s k).unit = s.unit ∧ (stopPair s k).str = s.str ∧ (stopPair s k).pwr = s.pwr ∧
    (stopPair s k).hvi = s.hvi ∧ (stopPair s k).hviStr = s.hviStr ∧ (stopPair s k).rings = s.rings ∧
    (stopPair s k).cee = s.cee ∧ (stopPair s k).th = s.th ∧ (stopPair s k).bal = s.bal ∧ (stopPair s k).dsp = s.dsp ∧
    (stopPair s k).conv = s.conv ∧ (stopPair s k).phase = s.phase ∧ (stopPair s k).gx2 = s.gx2 ∧
    (stopPair s k).le = s.le ∧ (stopPair s k).saf = s.saf ∧ (stopPair s k).red = s.red ∧
    (stopPair s k).rack = s.rack ∧ (stopPair s k).seq = s.seq ∧ (stopPair s k).tsu = s.tsu ∧
    (stopPair s k).hpr = s.hpr ∧ (stopPair s k).net = s.net ∧ (stopPair s k).app = s.app ∧
    (stopPair s k).icu = s.icu ∧ (stopPair s k).flt = s.flt ∧ (stopPair s k).plg = s.plg ∧
    (stopPair s k).upd = s.upd ∧ (stopPair s k).mem = s.mem ∧ (stopPair s k).canRam = s.canRam ∧
    (stopPair s k).free = s.free := by
  unfold stopPair; (repeat' split) <;> simp

@[simp] theorem toneMonitors_keeps (s : State) (i : Nat) (f : Monitor → Monitor) :
    (toneMonitors s i f).pending = s.pending ∧ (toneMonitors s i f).variant = s.variant ∧
    (toneMonitors s i f).clk = s.clk ∧ (toneMonitors s i f).unit = s.unit ∧ (toneMonitors s i f).str = s.str ∧
    (toneMonitors s i f).pwr = s.pwr ∧ (toneMonitors s i f).hvi = s.hvi ∧ (toneMonitors s i f).hviStr = s.hviStr ∧
    (toneMonitors s i f).cee = s.cee ∧ (toneMonitors s i f).tpe = s.tpe ∧ (toneMonitors s i f).th = s.th ∧
    (toneMonitors s i f).bal = s.bal ∧ (toneMonitors s i f).dsp = s.dsp ∧ (toneMonitors s i f).conv = s.conv ∧
    (toneMonitors s i f).phase = s.phase ∧ (toneMonitors s i f).gx2 = s.gx2 ∧ (toneMonitors s i f).le = s.le ∧
    (toneMonitors s i f).saf = s.saf ∧ (toneMonitors s i f).red = s.red ∧ (toneMonitors s i f).rack = s.rack ∧
    (toneMonitors s i f).seq = s.seq ∧ (toneMonitors s i f).tsu = s.tsu ∧ (toneMonitors s i f).hpr = s.hpr ∧
    (toneMonitors s i f).net = s.net ∧ (toneMonitors s i f).app = s.app ∧ (toneMonitors s i f).icu = s.icu ∧
    (toneMonitors s i f).flt = s.flt ∧ (toneMonitors s i f).plg = s.plg ∧ (toneMonitors s i f).upd = s.upd ∧
    (toneMonitors s i f).mem = s.mem ∧ (toneMonitors s i f).canRam = s.canRam ∧ (toneMonitors s i f).free = s.free := by
  unfold toneMonitors; (repeat' split) <;> simp

@[simp] theorem ohmResult_keeps (s : State) (idx : Nat) (re : Int) :
    (ohmResult s idx re).pending = s.pending ∧ (ohmResult s idx re).variant = s.variant ∧
    (ohmResult s idx re).clk = s.clk ∧ (ohmResult s idx re).unit = s.unit ∧ (ohmResult s idx re).str = s.str ∧
    (ohmResult s idx re).pwr = s.pwr ∧ (ohmResult s idx re).hvi = s.hvi ∧ (ohmResult s idx re).hviStr = s.hviStr ∧
    (ohmResult s idx re).rings = s.rings ∧ (ohmResult s idx re).tpe = s.tpe ∧ (ohmResult s idx re).th = s.th ∧
    (ohmResult s idx re).bal = s.bal ∧ (ohmResult s idx re).dsp = s.dsp ∧ (ohmResult s idx re).conv = s.conv ∧
    (ohmResult s idx re).phase = s.phase ∧ (ohmResult s idx re).gx2 = s.gx2 ∧ (ohmResult s idx re).le = s.le ∧
    (ohmResult s idx re).saf = s.saf ∧ (ohmResult s idx re).red = s.red ∧ (ohmResult s idx re).rack = s.rack ∧
    (ohmResult s idx re).seq = s.seq ∧ (ohmResult s idx re).tsu = s.tsu ∧ (ohmResult s idx re).hpr = s.hpr ∧
    (ohmResult s idx re).net = s.net ∧ (ohmResult s idx re).app = s.app ∧ (ohmResult s idx re).icu = s.icu ∧
    (ohmResult s idx re).flt = s.flt ∧ (ohmResult s idx re).plg = s.plg ∧ (ohmResult s idx re).upd = s.upd ∧
    (ohmResult s idx re).mem = s.mem ∧ (ohmResult s idx re).canRam = s.canRam ∧ (ohmResult s idx re).free = s.free := by
  unfold ohmResult; (repeat' split) <;> simp

@[simp] theorem coreLevels_keeps (s : State) (idx : Nat) :
    (coreLevels s idx).pending = s.pending ∧ (coreLevels s idx).variant = s.variant ∧
    (coreLevels s idx).clk = s.clk ∧ (coreLevels s idx).unit = s.unit ∧ (coreLevels s idx).hvi = s.hvi ∧
    (coreLevels s idx).hviStr = s.hviStr ∧ (coreLevels s idx).cee = s.cee ∧ (coreLevels s idx).tpe = s.tpe ∧
    (coreLevels s idx).dsp = s.dsp ∧ (coreLevels s idx).gx2 = s.gx2 ∧ (coreLevels s idx).le = s.le ∧
    (coreLevels s idx).red = s.red ∧ (coreLevels s idx).rack = s.rack ∧ (coreLevels s idx).seq = s.seq ∧
    (coreLevels s idx).tsu = s.tsu ∧ (coreLevels s idx).net = s.net ∧ (coreLevels s idx).app = s.app ∧
    (coreLevels s idx).flt = s.flt ∧ (coreLevels s idx).upd = s.upd ∧ (coreLevels s idx).canRam = s.canRam ∧
    (coreLevels s idx).free = s.free := by
  unfold coreLevels; (repeat' split) <;> simp

@[simp] theorem takeResults_keeps (s : State) (idx : Nat) (zs : List ToneZ) :
    (takeResults s idx zs).pending = s.pending ∧ (takeResults s idx zs).variant = s.variant ∧
    (takeResults s idx zs).clk = s.clk ∧ (takeResults s idx zs).unit = s.unit ∧ (takeResults s idx zs).hvi = s.hvi ∧
    (takeResults s idx zs).hviStr = s.hviStr ∧ (takeResults s idx zs).tpe = s.tpe ∧
    (takeResults s idx zs).dsp = s.dsp ∧ (takeResults s idx zs).gx2 = s.gx2 ∧ (takeResults s idx zs).le = s.le ∧
    (takeResults s idx zs).red = s.red ∧ (takeResults s idx zs).rack = s.rack ∧ (takeResults s idx zs).seq = s.seq ∧
    (takeResults s idx zs).tsu = s.tsu ∧ (takeResults s idx zs).net = s.net ∧ (takeResults s idx zs).app = s.app ∧
    (takeResults s idx zs).flt = s.flt ∧ (takeResults s idx zs).upd = s.upd ∧
    (takeResults s idx zs).canRam = s.canRam ∧ (takeResults s idx zs).free = s.free := by
  unfold takeResults; dsimp only; split <;> simp

@[simp] theorem publishBlock_keeps (s : State) (e : (Nat × Nat × Nat) × ImpBlock) :
    (publishBlock s e).pending = s.pending ∧ (publishBlock s e).variant = s.variant ∧
    (publishBlock s e).clk = s.clk ∧ (publishBlock s e).unit = s.unit ∧ (publishBlock s e).hvi = s.hvi ∧
    (publishBlock s e).hviStr = s.hviStr ∧ (publishBlock s e).dsp = s.dsp ∧ (publishBlock s e).gx2 = s.gx2 ∧
    (publishBlock s e).le = s.le ∧ (publishBlock s e).red = s.red ∧ (publishBlock s e).rack = s.rack ∧
    (publishBlock s e).seq = s.seq ∧ (publishBlock s e).tsu = s.tsu ∧ (publishBlock s e).net = s.net ∧
    (publishBlock s e).app = s.app ∧ (publishBlock s e).flt = s.flt ∧ (publishBlock s e).upd = s.upd ∧
    (publishBlock s e).canRam = s.canRam ∧ (publishBlock s e).free = s.free := by
  unfold publishBlock; (repeat' split) <;> simp

end Sys2Proof.Machine
end

