-- ==== Sys2Proof/Laws/Alloc.lean ====
section
/-! SUPPORT. What the operations of Alloc leave alone. -/

namespace Sys2Proof.Machine

@[simp] theorem dropArmed_keeps (s : State) :
    (dropArmed s).pending = s.pending ∧ (dropArmed s).variant = s.variant ∧ (dropArmed s).clk = s.clk ∧
    (dropArmed s).unit = s.unit ∧ (dropArmed s).str = s.str ∧ (dropArmed s).pwr = s.pwr ∧ (dropArmed s).hvi = s.hvi ∧
    (dropArmed s).hviStr = s.hviStr ∧ (dropArmed s).rings = s.rings ∧ (dropArmed s).cee = s.cee ∧
    (dropArmed s).tpe = s.tpe ∧ (dropArmed s).th = s.th ∧ (dropArmed s).bal = s.bal ∧ (dropArmed s).conv = s.conv ∧
    (dropArmed s).phase = s.phase ∧ (dropArmed s).gx2 = s.gx2 ∧ (dropArmed s).saf = s.saf ∧
    (dropArmed s).red = s.red ∧ (dropArmed s).rack = s.rack ∧ (dropArmed s).seq = s.seq ∧ (dropArmed s).tsu = s.tsu ∧
    (dropArmed s).hpr = s.hpr ∧ (dropArmed s).net = s.net ∧ (dropArmed s).app = s.app ∧ (dropArmed s).icu = s.icu ∧
    (dropArmed s).flt = s.flt ∧ (dropArmed s).plg = s.plg ∧ (dropArmed s).upd = s.upd ∧ (dropArmed s).mem = s.mem ∧
    (dropArmed s).canRam = s.canRam ∧ (dropArmed s).free = s.free := by
  unfold dropArmed; (repeat' split) <;> simp

@[simp] theorem rampTo_keeps (s : State) (t : Nat) :
    (rampTo s t).pending = s.pending ∧ (rampTo s t).variant = s.variant ∧ (rampTo s t).clk = s.clk ∧
    (rampTo s t).unit = s.unit ∧ (rampTo s t).str = s.str ∧ (rampTo s t).pwr = s.pwr ∧ (rampTo s t).hvi = s.hvi ∧
    (rampTo s t).hviStr = s.hviStr ∧ (rampTo s t).rings = s.rings ∧ (rampTo s t).cee = s.cee ∧
    (rampTo s t).tpe = s.tpe ∧ (rampTo s t).th = s.th ∧ (rampTo s t).bal = s.bal ∧ (rampTo s t).conv = s.conv ∧
    (rampTo s t).phase = s.phase ∧ (rampTo s t).gx2 = s.gx2 ∧ (rampTo s t).le = s.le ∧ (rampTo s t).saf = s.saf ∧
    (rampTo s t).red = s.red ∧ (rampTo s t).rack = s.rack ∧ (rampTo s t).seq = s.seq ∧ (rampTo s t).tsu = s.tsu ∧
    (rampTo s t).hpr = s.hpr ∧ (rampTo s t).net = s.net ∧ (rampTo s t).app = s.app ∧ (rampTo s t).icu = s.icu ∧
    (rampTo s t).flt = s.flt ∧ (rampTo s t).plg = s.plg ∧ (rampTo s t).upd = s.upd ∧ (rampTo s t).mem = s.mem ∧
    (rampTo s t).canRam = s.canRam ∧ (rampTo s t).free = s.free := by
  unfold rampTo; dsimp only; split <;> simp

@[simp] theorem takeRequest_keeps (s : State) (e : DspEntry) (t : Nat) :
    (takeRequest s e t).pending = s.pending ∧ (takeRequest s e t).variant = s.variant ∧
    (takeRequest s e t).clk = s.clk ∧ (takeRequest s e t).unit = s.unit ∧ (takeRequest s e t).str = s.str ∧
    (takeRequest s e t).hvi = s.hvi ∧ (takeRequest s e t).hviStr = s.hviStr ∧ (takeRequest s e t).rings = s.rings ∧
    (takeRequest s e t).cee = s.cee ∧ (takeRequest s e t).tpe = s.tpe ∧ (takeRequest s e t).th = s.th ∧
    (takeRequest s e t).bal = s.bal ∧ (takeRequest s e t).conv = s.conv ∧ (takeRequest s e t).phase = s.phase ∧
    (takeRequest s e t).gx2 = s.gx2 ∧ (takeRequest s e t).le = s.le ∧ (takeRequest s e t).saf = s.saf ∧
    (takeRequest s e t).rack = s.rack ∧ (takeRequest s e t).seq = s.seq ∧ (takeRequest s e t).tsu = s.tsu ∧
    (takeRequest s e t).net = s.net ∧ (takeRequest s e t).app = s.app ∧ (takeRequest s e t).flt = s.flt ∧
    (takeRequest s e t).upd = s.upd ∧ (takeRequest s e t).mem = s.mem ∧ (takeRequest s e t).canRam = s.canRam ∧
    (takeRequest s e t).free = s.free := by
  unfold takeRequest; (repeat' split) <;> simp

@[simp] theorem switchOuter_keeps (vbus : Bool) (s : State) (i : Nat) :
    (switchOuter vbus s i).pending = s.pending ∧ (switchOuter vbus s i).variant = s.variant ∧
    (switchOuter vbus s i).clk = s.clk ∧ (switchOuter vbus s i).unit = s.unit ∧ (switchOuter vbus s i).str = s.str ∧
    (switchOuter vbus s i).pwr = s.pwr ∧ (switchOuter vbus s i).hvi = s.hvi ∧
    (switchOuter vbus s i).hviStr = s.hviStr ∧ (switchOuter vbus s i).rings = s.rings ∧
    (switchOuter vbus s i).cee = s.cee ∧ (switchOuter vbus s i).tpe = s.tpe ∧ (switchOuter vbus s i).th = s.th ∧
    (switchOuter vbus s i).bal = s.bal ∧ (switchOuter vbus s i).dsp = s.dsp ∧ (switchOuter vbus s i).conv = s.conv ∧
    (switchOuter vbus s i).phase = s.phase ∧ (switchOuter vbus s i).gx2 = s.gx2 ∧
    (switchOuter vbus s i).saf = s.saf ∧ (switchOuter vbus s i).red = s.red ∧ (switchOuter vbus s i).rack = s.rack ∧
    (switchOuter vbus s i).seq = s.seq ∧ (switchOuter vbus s i).tsu = s.tsu ∧ (switchOuter vbus s i).hpr = s.hpr ∧
    (switchOuter vbus s i).net = s.net ∧ (switchOuter vbus s i).app = s.app ∧ (switchOuter vbus s i).icu = s.icu ∧
    (switchOuter vbus s i).flt = s.flt ∧ (switchOuter vbus s i).plg = s.plg ∧ (switchOuter vbus s i).upd = s.upd ∧
    (switchOuter vbus s i).mem = s.mem ∧ (switchOuter vbus s i).canRam = s.canRam ∧
    (switchOuter vbus s i).free = s.free := by
  unfold switchOuter; (repeat' split) <;> simp

@[simp] theorem applyPlan_keeps (s : State) (mode : Nat) (p : Plan) :
    (applyPlan s mode p).pending = s.pending ∧ (applyPlan s mode p).variant = s.variant ∧
    (applyPlan s mode p).clk = s.clk ∧ (applyPlan s mode p).unit = s.unit ∧ (applyPlan s mode p).pwr = s.pwr ∧
    (applyPlan s mode p).hvi = s.hvi ∧ (applyPlan s mode p).hviStr = s.hviStr ∧
    (applyPlan s mode p).rings = s.rings ∧ (applyPlan s mode p).tpe = s.tpe ∧ (applyPlan s mode p).th = s.th ∧
    (applyPlan s mode p).bal = s.bal ∧ (applyPlan s mode p).phase = s.phase ∧ (applyPlan s mode p).gx2 = s.gx2 ∧
    (applyPlan s mode p).saf = s.saf ∧ (applyPlan s mode p).red = s.red ∧ (applyPlan s mode p).rack = s.rack ∧
    (applyPlan s mode p).seq = s.seq ∧ (applyPlan s mode p).tsu = s.tsu ∧ (applyPlan s mode p).hpr = s.hpr ∧
    (applyPlan s mode p).net = s.net ∧ (applyPlan s mode p).app = s.app ∧ (applyPlan s mode p).icu = s.icu ∧
    (applyPlan s mode p).flt = s.flt ∧ (applyPlan s mode p).plg = s.plg ∧ (applyPlan s mode p).upd = s.upd ∧
    (applyPlan s mode p).mem = s.mem ∧ (applyPlan s mode p).canRam = s.canRam ∧ (applyPlan s mode p).free = s.free := by
  unfold applyPlan; (repeat' split) <;> simp

@[simp] theorem takeDue_keeps (s : State) (l : List DspEntry) :
    (takeDue s l).pending = s.pending ∧ (takeDue s l).variant = s.variant ∧ (takeDue s l).clk = s.clk ∧
    (takeDue s l).unit = s.unit ∧ (takeDue s l).str = s.str ∧ (takeDue s l).hvi = s.hvi ∧
    (takeDue s l).hviStr = s.hviStr ∧ (takeDue s l).rings = s.rings ∧ (takeDue s l).cee = s.cee ∧
    (takeDue s l).tpe = s.tpe ∧ (takeDue s l).th = s.th ∧ (takeDue s l).bal = s.bal ∧ (takeDue s l).conv = s.conv ∧
    (takeDue s l).phase = s.phase ∧ (takeDue s l).gx2 = s.gx2 ∧ (takeDue s l).le = s.le ∧ (takeDue s l).saf = s.saf ∧
    (takeDue s l).rack = s.rack ∧ (takeDue s l).seq = s.seq ∧ (takeDue s l).tsu = s.tsu ∧ (takeDue s l).net = s.net ∧
    (takeDue s l).app = s.app ∧ (takeDue s l).flt = s.flt ∧ (takeDue s l).upd = s.upd ∧ (takeDue s l).mem = s.mem ∧
    (takeDue s l).canRam = s.canRam ∧ (takeDue s l).free = s.free := by
  induction l generalizing s with
  | nil => simp [takeDue]
  | cons e l ih => unfold takeDue; dsimp only; (repeat' split) <;> simp [ih]

end Sys2Proof.Machine
end

