-- ==== Sys2Proof/Laws/Command.lean ====
section
/-! SUPPORT. The command path: what a taken request runs, what completes it, and what the two leave alone. -/

namespace Sys2Proof.Machine

@[simp] theorem touch_hpr (s : State) : (touch s).hpr = s.hpr := rfl
@[simp] theorem touch_unit (s : State) : (touch s).unit = s.unit := rfl
@[simp] theorem touch_power (s : State) : (touch s).pwr.state = s.pwr.state := rfl

theorem touch_eq (s : State) : touch s = { s with pwr := (touch s).pwr } := rfl

theorem noteDesc_eq (sp : Spec) (s : State) (q : Req) : noteDesc sp s q = { s with hpr := (noteDesc sp s q).hpr } := by
  unfold noteDesc; split <;> rfl

theorem giveBack_eq (sp : Spec) (s : State) (q : Req) : giveBack sp s q = { s with hpr := (giveBack sp s q).hpr } := by
  unfold giveBack; split <;> rfl

@[simp] theorem noteDesc_none (sp : Spec) (s : State) (q : Req) (h : sp.desc s q = none) : noteDesc sp s q = s := by
  simp [noteDesc, h]

/-- A taken request that no check rejects runs. -/
theorem command_run (sp : Spec) (run : State → Req → State) (q : Req) (s : State) (h : Taken s q)
    (hr : rejection sp s q = none) :
    command sp run q s = .next (run (noteDesc sp (touch s) q) q) := by
  obtain ⟨h1, h2, h3⟩ := h
  unfold command
  simp [h1, h2, cacheHit, execHit, hr]

/-- A taken request that a check rejects is answered with the status and detail of the check. -/
theorem command_reject (sp : Spec) (run : State → Req → State) (q : Req) (s : State) (st d : Nat) (h : Taken s q)
    (hr : rejection sp s q = some (st, d)) :
    command sp run q s = .next (rejectCmd (giveBack sp (touch s) q) sp.op q st d) := by
  obtain ⟨h1, h2, h3⟩ := h
  unfold command
  simp [h1, h2, cacheHit, execHit, hr]

/-- A completed request is the newest completion. -/
theorem finish1_lastDone (s : State) (op : Nat) (q : Req) (st d : Nat) (p : Bytes) :
    (finish1 s op q st d p).hpr.lastDone =
      some { port := q.port, slot := q.slot, seq := q.seq, opcode := op, status := st, detail := d, payload := p, at_ := s.clk } := by
  unfold finish1
  cases q.slot with
  | none => simp
  | some n =>
    cases q.port <;> simp only [] <;> (repeat' split) <;> simp [mgmtRespond, slotRespond]

theorem finish1_answered (s : State) (op : Nat) (q : Req) (st d : Nat) (p : Bytes) : Answered (finish1 s op q st d p) q op st d p := by
  unfold Answered; rw [finish1_lastDone]; simp

theorem ok_answered (s : State) (op : Nat) (q : Req) (p : Bytes) : Answered (ok s op q p) q op stOk 0 p :=
  finish1_answered s op q stOk 0 p

/-- What a command can answer: nothing (not taken), the cached result, waiting for the one that executes, a rejection, or
what it runs. -/
theorem command_cases {sp : Spec} {run : State → Req → State} {q : Req} {s u : State} (h : command sp run q s = .next u) :
    u = s ∨ (∃ d : Done, u = finish1 (touch s) sp.op q d.status d.detail d.payload) ∨ u = follow (touch s) sp.op q ∨
      (∃ st d, rejection sp s q = some (st, d) ∧ u = rejectCmd (giveBack sp (touch s) q) sp.op q st d) ∨
      (rejection sp s q = none ∧ u = run (noteDesc sp (touch s) q) q) := by
  unfold command at h
  split at h
  · simp only [Host.Outcome.next.injEq] at h; exact .inl h.symm
  · split at h
    · rename_i d _; simp only [Host.Outcome.next.injEq] at h; exact .inr (.inl ⟨d, h.symm⟩)
    · split at h
      · simp only [Host.Outcome.next.injEq] at h; exact .inr (.inr (.inl h.symm))
      · split at h
        · rename_i st d hr; simp only [Host.Outcome.next.injEq] at h; exact .inr (.inr (.inr (.inl ⟨st, d, hr, h.symm⟩)))
        · rename_i hr; simp only [Host.Outcome.next.injEq] at h; exact .inr (.inr (.inr (.inr ⟨hr, h.symm⟩)))

/-- A command always answers a next state. -/
theorem command_next (sp : Spec) (run : State → Req → State) (q : Req) (s : State) : ∃ u, command sp run q s = .next u := by
  unfold command
  split
  · exact ⟨_, rfl⟩
  · split
    · exact ⟨_, rfl⟩
    · split
      · exact ⟨_, rfl⟩
      · split <;> exact ⟨_, rfl⟩

end Sys2Proof.Machine
end

