-- ==== Sys2Proof/Laws/Memory.lean ====
section
/-! SUPPORT. The byte memory: every write keeps its canonical form, a byte reads as last written, and a write leaves every
other byte alone. -/

namespace Sys2Proof.Machine

theorem memRead_write_ne (m : List Host.Cell) (a x : Nat) (v : Byte) (h : x ≠ a) :
    memRead (memWrite a v m) x = memRead m x := by
  induction m with
  | nil => unfold memWrite; split <;> simp [memRead, tblGet, Ne.symm h]
  | cons e t ih =>
    obtain ⟨b, w⟩ := e
    unfold memWrite
    simp only [memRead] at *
    split
    · split
      · rfl
      · simp [tblGet, Ne.symm h]
    · split
      · split
        · simp [tblGet]; intro hb; omega
        · subst_vars; simp [tblGet, Ne.symm h]
      · simp only [tblGet]; split
        · rfl
        · exact ih

theorem memRead_writes_out (b : Bytes) : ∀ (m : List Host.Cell) (a x : Nat), (x < a ∨ a + b.length ≤ x) →
    memRead (memWrites m a b) x = memRead m x := by
  induction b with
  | nil => intros; rfl
  | cons v t ih =>
    intro m a x h
    simp only [memWrites, List.length_cons] at *
    rw [ih _ _ _ (by omega), memRead_write_ne _ _ _ _ (by omega)]

theorem Memory.wf_tail (e : Host.Cell) (t : List Host.Cell) (h : Memory.wf (e :: t) = true) : Memory.wf t = true := by
  obtain ⟨b, w⟩ := e
  cases t with
  | nil => rfl
  | cons f t => obtain ⟨c, x⟩ := f; simp [Memory.wf] at h ⊢; exact h.2

/-- Below its first entry a memory reads as unlisted. -/
theorem Memory.wf_below (t : List Host.Cell) : ∀ (b : Nat) (w : Byte), Memory.wf ((b, w) :: t) = true →
    ∀ a, a ≤ b → memRead t a = memDefault := by
  induction t with
  | nil => intros; rfl
  | cons f t ih =>
    obtain ⟨c, x⟩ := f
    intro b w h a ha
    simp [Memory.wf] at h
    simp only [memRead, tblGet]
    rw [if_neg (by omega)]
    exact ih c x h.2 a (by omega)

theorem memRead_write_eq (m : List Host.Cell) (hm : Memory.wf m = true) (a : Nat) (v : Byte) :
    memRead (memWrite a v m) a = v := by
  induction m with
  | nil => unfold memWrite; split <;> simp_all [memRead, tblGet, memDefault]
  | cons e t ih =>
    obtain ⟨b, w⟩ := e
    unfold memWrite
    split
    · split
      · next h1 h2 =>
        simp only [memRead, tblGet]; rw [if_neg (by omega)]
        have := Memory.wf_below t b w hm a (by omega)
        simp only [memRead] at this; rw [this, h2]
      · simp [memRead, tblGet]
    · split
      · split
        · next h1 h2 h3 => subst h2; rw [Memory.wf_below t a w hm a (by omega), h3]
        · simp [memRead, tblGet]
      · simp only [memRead, tblGet]; rw [if_neg (by omega)]; exact ih (Memory.wf_tail _ _ hm)

theorem Memory.wf_cons (a : Nat) (v : Byte) (t : List Host.Cell) (hv : v ≠ memDefault) (ht : Memory.wf t = true)
    (h : ∀ e ∈ t, a < e.1) : Memory.wf ((a, v) :: t) = true := by
  cases t with
  | nil => simp [Memory.wf, hv]
  | cons f t => obtain ⟨c, x⟩ := f; simp [Memory.wf, hv, ht]; exact h _ (List.mem_cons_self ..)

theorem Memory.wf_above (t : List Host.Cell) : ∀ (b : Nat) (w : Byte), Memory.wf ((b, w) :: t) = true → ∀ e ∈ t, b < e.1 := by
  induction t with
  | nil => intro _ _ _ e h; cases h
  | cons f t ih =>
    obtain ⟨c, x⟩ := f
    intro b w h e he
    simp [Memory.wf] at h
    rcases List.mem_cons.1 he with rfl | he
    · exact h.1.2
    · have := ih c x h.2 e he; omega

theorem memWrite_mem (a : Nat) (v : Byte) (m : List Host.Cell) : ∀ e ∈ memWrite a v m, e.1 = a ∨ e ∈ m := by
  induction m with
  | nil =>
    intro e h; unfold memWrite at h; split at h
    · cases h
    · left; rw [List.mem_singleton.1 h]
  | cons f t ih =>
    obtain ⟨c, x⟩ := f
    intro e h; unfold memWrite at h
    split at h
    · split at h
      · exact Or.inr h
      · rcases List.mem_cons.1 h with rfl | h
        · exact Or.inl rfl
        · exact Or.inr h
    · split at h
      · split at h
        · exact Or.inr (List.mem_cons_of_mem _ h)
        · rcases List.mem_cons.1 h with rfl | h
          · exact Or.inl rfl
          · exact Or.inr (List.mem_cons_of_mem _ h)
      · rcases List.mem_cons.1 h with rfl | h
        · exact Or.inr (List.mem_cons_self ..)
        · rcases ih e h with h | h
          · exact Or.inl h
          · exact Or.inr (List.mem_cons_of_mem _ h)

theorem memWrite_wf (a : Nat) (v : Byte) (m : List Host.Cell) (h : Memory.wf m = true) :
    Memory.wf (memWrite a v m) = true := by
  induction m with
  | nil => unfold memWrite; split <;> simp_all [Memory.wf]
  | cons e t ih =>
    obtain ⟨b, w⟩ := e
    have ht := Memory.wf_tail _ _ h
    have hb := Memory.wf_above t b w h
    have hw : w ≠ memDefault := by cases t <;> simp_all [Memory.wf]
    unfold memWrite
    split
    · split
      · exact h
      · refine Memory.wf_cons _ _ _ ‹_› h ?_
        intro e he; rcases List.mem_cons.1 he with rfl | he
        · assumption
        · have := hb e he; omega
    · split
      · split
        · exact ht
        · subst_vars; exact Memory.wf_cons _ _ _ ‹_› ht hb
      · refine Memory.wf_cons _ _ _ hw (ih ht) ?_
        intro e he; rcases memWrite_mem a v t e he with h | h
        · omega
        · exact hb e h

theorem memWrites_wf (b : Bytes) : ∀ (m : List Host.Cell) (a :
    Nat), Memory.wf m = true → Memory.wf (memWrites m a b) = true := by
  induction b with
  | nil => intro m a h; exact h
  | cons v t ih => intro m a h; exact ih _ _ (memWrite_wf _ _ _ h)

theorem memReads_writes (b : Bytes) : ∀ (m : List Host.Cell) (a :
    Nat), Memory.wf m = true → memReads (memWrites m a b) a b.length = b := by
  induction b with
  | nil => intros; rfl
  | cons v t ih =>
    intro m a h
    simp only [memWrites, List.length_cons, memReads]
    rw [ih _ _ (memWrite_wf _ _ _ h), memRead_writes_out _ _ _ _ (by omega), memRead_write_eq _ h]

theorem memReads_congr (m m' : List Host.Cell) (n : Nat) :
    ∀ a, (∀ x, a ≤ x → memRead m x = memRead m' x) → memReads m a n = memReads m' a n := by
  induction n with
  | zero => intros; rfl
  | succ n ih => intro a h; simp only [memReads]; rw [h a (by omega), ih (a+1) (fun x hx => h x (by omega))]

end Sys2Proof.Machine
end

