-- ==== Sys2Proof/Laws/Answers.lean ====
section
/-! SUPPORT. What completing a command writes: its slot and nothing else of memory, and the buffer it names; memory keeps its
canonical form. -/

namespace Sys2Proof.Machine

theorem State.eq_host (a b : State)
    (h0 : a.pending = b.pending)
    (h1 : a.variant = b.variant)
    (h2 : a.clk = b.clk)
    (h3 : a.unit = b.unit)
    (h4 : a.str = b.str)
    (h5 : a.pwr = b.pwr)
    (h6 : a.hvi = b.hvi)
    (h7 : a.hviStr = b.hviStr)
    (h8 : a.rings = b.rings)
    (h9 : a.cee = b.cee)
    (h10 : a.tpe = b.tpe)
    (h11 : a.th = b.th)
    (h12 : a.bal = b.bal)
    (h13 : a.dsp = b.dsp)
    (h14 : a.conv = b.conv)
    (h15 : a.phase = b.phase)
    (h16 : a.gx2 = b.gx2)
    (h17 : a.le = b.le)
    (h18 : a.saf = b.saf)
    (h19 : a.red = b.red)
    (h20 : a.rack = b.rack)
    (h21 : a.seq = b.seq)
    (h22 : a.tsu = b.tsu)
    (h23 : a.net = b.net)
    (h24 : a.app = b.app)
    (h25 : a.flt = b.flt)
    (h26 : a.plg = b.plg)
    (h27 : a.upd = b.upd)
    (h28 : a.canRam = b.canRam)
    (h29 : a.free = b.free) :
    a = { b with hpr := a.hpr, mem := a.mem, icu := a.icu } := by
  cases a; cases b; simp_all

theorem finish1_hostOnly (s : State) (op : Nat) (q : Req) (st d : Nat) (p : Bytes) :
    finish1 s op q st d p = { s with hpr := (finish1 s op q st d p).hpr, mem := (finish1 s op q st d p).mem
                                     icu := (finish1 s op q st d p).icu } := by
  apply State.eq_host <;> simp

@[simp] theorem leU_length (n v : Nat) : (leU n v).length = n := by
  induction n generalizing v with
  | zero => rfl
  | succ n ih => simp [leU, ih]

theorem slotRespond_out (s : State) (n st d : Nat) (p : Port) (b : Bytes) (hb : b.length ≤ 240) (x : Nat)
    (h : x < slotAddr n ∨ slotAddr n + 256 ≤ x) : memRead (slotRespond s n st d p b).mem x = memRead s.mem x := by
  unfold slotRespond
  simp only []
  rw [memRead_writes_out, memRead_writes_out, memRead_writes_out, memRead_writes_out] <;>
    (try simp only [List.length_append, leU_length, List.length_cons, List.length_nil]) <;> omega

theorem finish1_mem (s : State) (op : Nat) (q : Req) (st d : Nat) (p : Bytes) :
    (finish1 s op q st d p).mem = match q.slot with | none => s.mem | some n => (slotRespond s n st d q.port p).mem := by
  unfold finish1
  cases q.slot with
  | none => rfl
  | some n => cases q.port <;> simp only [] <;> (repeat' split) <;> simp [mgmtRespond] <;> rfl

theorem finish1_slotOnly (s : State) (op : Nat) (q : Req) (st d : Nat) (p : Bytes) (hb : p.length ≤ 240) :
    SlotOnly s q (finish1 s op q st d p) := by
  intro a h
  rw [finish1_mem]
  cases hq : q.slot with
  | none => rfl
  | some n => exact slotRespond_out s n st d q.port p hb a (h n hq)

theorem anyRole_rolesOk (sp : Spec) (s : State) (h : AnyRole s) (hr : sp.roles = .all) : rolesOk sp s.unit = true := by
  unfold AnyRole UnitState.isRole at h; unfold rolesOk
  cases hu : s.unit <;> simp_all

theorem getNone_does (op : Nat) (v : Bool) (resp : State → Bytes) (q : Req) (s : State) (h : Taken s q) (hr : AnyRole s)
    (hp : q.payload = []) : getNone op v resp q s = .next (ok (touch s) op q (resp (touch s))) := by
  unfold getNone
  rw [command_run _ _ q s h]
  · rfl
  · rw [rejection]
    simp only [lenIs, hp, List.length_nil, if_true, firstBad, h.2.2, ownerBad]
    rw [anyRole_rolesOk _ _ hr rfl]; rfl

theorem getNone_all (op : Nat) (v : Bool) (resp : State → Bytes) (ht : ∀ s, resp (touch s) = resp s) (q : Req)
    (s : State) (h : Taken s q) (hr : AnyRole s)
    (hp : q.payload = []) :
    ∃ u, getNone op v resp q s = .next u ∧ Answered u q op stOk 0 (resp s) ∧ HostOnly s u ∧
      ((resp s).length ≤ 240 → SlotOnly s q u) := by
  refine ⟨_, getNone_does op v resp q s h hr hp, ?_⟩
  rw [ht]
  exact ⟨ok_answered _ _ _ _, finish1_hostOnly _ _ _ _ _ _, fun hl => finish1_slotOnly (touch s) op q stOk 0 _ hl⟩

theorem slotRespond_window (s : State) (n st d : Nat) (p : Port) (b : Bytes) (hn : n < 16) (hb : b.length ≤ 240) (x : Nat)
    (h : windowBase ≤ x) : memRead (slotRespond s n st d p b).mem x = memRead s.mem x := by
  refine slotRespond_out s n st d p b hb x (Or.inr ?_)
  unfold slotAddr windowBase at *; omega

theorem descOk_noDesc (s : State) (q : Req) (d n : Nat) (h : descOk s q d n = true) : d ≠ noDesc := by
  unfold descOk at h; simp at h; unfold noDesc; omega

@[simp] theorem touch_desc (s : State) (d : Nat) : (touch s).desc d = s.desc d := rfl

theorem desc_modDesc (s : State) (d k : Nat) (f : Desc → Desc) :
    (s.modDesc d f).desc k = if k = d ∧ k < s.hpr.desc.length then f (s.desc k) else s.desc k := by
  unfold State.modDesc State.desc State.setHpr
  simp only [List.getD_eq_getElem?_getD, List.getElem?_modify]
  by_cases h : d = k
  · subst h; by_cases hl : d < s.hpr.desc.length
    · simp [hl]
    · simp [hl]
  · simp [h, Ne.symm h]

theorem noteDesc_desc (sp : Spec) (s : State) (q : Req) (k : Nat) :
    ((noteDesc sp s q).desc k).offset = (s.desc k).offset ∧ ((noteDesc sp s q).desc k).own = (s.desc k).own := by
  unfold noteDesc; split
  · simp
  · rw [desc_modDesc]; split
    · split <;> simp
    · simp

theorem finish1_desc (s : State) (op : Nat) (q : Req) (st d : Nat) (p : Bytes) (k : Nat) :
    ((finish1 s op q st d p).desc k).used = (s.desc k).used := by
  have h : (finish1 s op q st d p).hpr.desc = s.hpr.desc.map fun e =>
               if e.kind = 1 ∧ e.own ∧ e.requester = portCode q.port ∧ e.opcode = op ∧ e.seq = q.seq then
                 { e with own := false } else e := by
    unfold finish1
    cases q.slot with
    | none => rfl
    | some n => cases q.port <;> simp only [] <;> (repeat' split) <;> simp [mgmtRespond, slotRespond] <;> rfl
  unfold State.desc
  rw [h]
  simp only [List.getD_eq_getElem?_getD, List.getElem?_map]
  cases s.hpr.desc[k]? <;> simp
  split <;> rfl

theorem ok_window (s : State) (op : Nat) (q : Req) (p : Bytes) (hq : SlotOk q) (hp : p.length ≤ 240) (x : Nat)
    (hx : windowBase ≤ x) :
    memRead (ok s op q p).mem x = memRead s.mem x := by
  unfold ok; rw [finish1_mem]
  cases h : q.slot with
  | none => rfl
  | some n => exact slotRespond_window s n _ _ _ p (by simpa [SlotOk, h] using hq) hp x hx

theorem respondBuf_all (sp : Spec) (s : State) (op : Nat) (q : Req) (d : Nat) (b : Bytes) (hm : MemOk s)
    (hq : SlotOk q) (hd : d < 256) :
    Answered (respondBuf (noteDesc sp (touch s) q) op q d b) q op stOk 0 (leU 4 b.length) ∧
    HostOnly s (respondBuf (noteDesc sp (touch s) q) op q d b) ∧
    BufHolds s (respondBuf (noteDesc sp (touch s) q) op q d b) d b := by
  have hn := noteDesc_eq sp (touch s) q
  have ho := (noteDesc_desc sp (touch s) q d).1
  have hl : (noteDesc sp (touch s) q).hpr.desc.length = s.hpr.desc.length := by
    unfold noteDesc; split
    · rfl
    · simp [State.modDesc, State.setHpr, touch, State.setPwr]
  generalize noteDesc sp (touch s) q = x at *
  refine ⟨ok_answered _ _ _ _, ?_, ?_, ?_⟩
  · unfold HostOnly
    unfold respondBuf ok
    rw [finish1_hostOnly]
    rw [hn]
    rfl
  · unfold respondBuf
    have e : memReads (ok (bufWrite x d b) op q (leU 4 b.length)).mem (windowBase + (s.desc d).offset) b.length =
        memReads (bufWrite x d b).mem (windowBase + (s.desc d).offset) b.length := by
      apply memReads_congr
      intro y hy
      exact ok_window _ op q _ hq (by simp) y (by omega)
    rw [e]
    unfold bufWrite
    have hx : x.mem = s.mem := by rw [hn]; rfl
    rw [touch_desc] at ho
    simp only [State.modDesc, State.setHpr, ho]
    rw [hx]; exact memReads_writes b _ _ hm.1
  · intro hlen
    unfold respondBuf ok
    rw [finish1_desc]
    unfold bufWrite
    simp only []
    rw [desc_modDesc]
    have : d = d ∧ d < x.hpr.desc.length := ⟨rfl, by omega⟩
    rw [if_pos this]

/-- The response reads nothing that taking a command changes. -/
abbrev Settled (resp : State → Bytes) : Prop :=
  ∀ (s : State) (h : Hpr) (p : Power),
    resp { s with hpr := h, pwr := { s.pwr with lastCmdT := p.lastCmdT, floatRaised := p.floatRaised } } = resp s

theorem resp_note (resp : State → Bytes) (ht : Settled resp)
    (s : State) (q : Req) (sp : Spec) : resp (noteDesc sp (touch s) q) = resp s := by
  rw [noteDesc_eq]
  exact ht s _ (touch s).pwr

theorem getW_all (op : Nat) (v : Bool) (resp : State → Bytes) (ht : Settled resp) (q : Req) (s : State) (h : Taken s q)
    (hr : AnyRole s)
    (hm : MemOk s) (hq : SlotOk q) (hp : q.payload.length = 2) (hd : descOk s q (getU q.payload 0 2) (resp s).length = true) :
    ∃ u, getW op v resp q s = .next u ∧ Answered u q op stOk 0 (leU 4 (resp s).length) ∧ HostOnly s u ∧
      BufHolds s u (getU q.payload 0 2) (resp s) := by
  have hne := descOk_noDesc _ _ _ _ hd
  have hlt : getU q.payload 0 2 < 256 := by unfold descOk at hd; simp at hd; exact hd.1.1.1.1
  unfold getW
  refine ⟨_, command_run _ _ q s h ?_, ?_⟩
  · rw [rejection]
    have ha : firstBad [q.envBad, must (getU q.payload 0 2 != noDesc) 0] = none := by
      simp [firstBad, h.2.2, must, hne]
    simp only [lenIs, hp, if_true, ha, ownerBad, descAt, hne, if_false]
    rw [anyRole_rolesOk _ _ hr rfl]; simp [hd]
  · have e := resp_note resp ht s q
    simp only [e]
    exact respondBuf_all _ s op q _ _ hm hq hlt

/-! ## Memory keeps its form -/

theorem slotRespond_memOk (s : State) (n st d : Nat) (p : Port) (b : Bytes)
    (h : MemOk s) : MemOk (slotRespond s n st d p b) := by
  refine ⟨?_, h.2⟩
  unfold slotRespond
  exact memWrites_wf _ _ _ (memWrites_wf _ _ _ (memWrites_wf _ _ _ (memWrites_wf _ _ _ h.1)))

theorem finish1_memOk (s : State) (op : Nat) (q : Req) (st d : Nat) (p : Bytes) (h : MemOk s) :
    MemOk (finish1 s op q st d p) := by
  unfold MemOk
  rw [finish1_mem]
  refine ⟨?_, by simpa using h.2⟩
  cases q.slot with
  | none => exact h.1
  | some n => exact (slotRespond_memOk s n st d q.port p h).1

theorem bufWrite_memOk (s : State) (d : Nat) (b : Bytes) (h : MemOk s) : MemOk (bufWrite s d b) :=
  ⟨memWrites_wf _ _ _ h.1, h.2⟩

theorem ok_memOk (s : State) (op : Nat) (q : Req) (p : Bytes) (h : MemOk s) :
    MemOk (ok s op q p) := finish1_memOk _ _ _ _ _ _ h

theorem respondBuf_memOk (s : State) (op : Nat) (q : Req) (d : Nat) (b : Bytes)
    (h : MemOk s) : MemOk (respondBuf s op q d b) :=
  ok_memOk _ _ _ _ (bufWrite_memOk _ _ _ h)

theorem respond_memOk (s : State) (op : Nat) (q : Req) (d : Nat) (b : Bytes) (h : MemOk s) : MemOk (respond s op q d b) := by
  unfold respond; split
  · exact ok_memOk _ _ _ _ h
  · exact respondBuf_memOk _ _ _ _ _ h

/-- What leaves both memories alone keeps their form. -/
theorem MemOk.of_same {s u : State} (h : MemOk s) (h1 : u.mem = s.mem) (h2 : u.canRam = s.canRam) : MemOk u := by
  unfold MemOk; rw [h1, h2]; exact h

theorem rejectCmd_memOk (s : State) (op : Nat) (q : Req) (st d : Nat) (h : MemOk s) : MemOk (rejectCmd s op q st d) := by
  unfold rejectCmd; split
  · exact finish1_memOk _ _ _ _ _ _ (h.of_same (by simp) (by simp))
  · exact finish1_memOk _ _ _ _ _ _ h

/-- A command keeps the form of memory where what it runs does. -/
theorem command_memOk {sp : Spec} {run : State → Req → State} {q : Req} {s u : State}
    (hr : ∀ s, MemOk s → MemOk (run s q)) (h : MemOk s) (e : command sp run q s = .next u) : MemOk u := by
  have ht : MemOk (touch s) := h.of_same rfl rfl
  have hn : MemOk (noteDesc sp (touch s) q) := by rw [noteDesc_eq]; exact ht.of_same rfl rfl
  have hg : MemOk (giveBack sp (touch s) q) := by rw [giveBack_eq]; exact ht.of_same rfl rfl
  rcases command_cases e with rfl | ⟨d, rfl⟩ | rfl | ⟨st, d, _, rfl⟩ | ⟨_, rfl⟩
  · exact h
  · exact finish1_memOk _ _ _ _ _ _ ht
  · exact ht.of_same rfl rfl
  · exact rejectCmd_memOk _ _ _ _ _ hg
  · exact hr _ hn

end Sys2Proof.Machine
end

