-- ==== Sys2Proof/Laws/Balance.lean ====
section
/-! SUPPORT. What the operations of Balance leave alone. -/

namespace Sys2Proof.Machine

@[simp] theorem dropShuttles_keeps (s : State) (i : Nat) (keep : List Transfer) :
    (dropShuttles s i keep).pending = s.pending ∧ (dropShuttles s i keep).variant = s.variant ∧
    (dropShuttles s i keep).clk = s.clk ∧ (dropShuttles s i keep).unit = s.unit ∧
    (dropShuttles s i keep).str = s.str ∧ (dropShuttles s i keep).pwr = s.pwr ∧ (dropShuttles s i keep).hvi = s.hvi ∧
    (dropShuttles s i keep).hviStr = s.hviStr ∧ (dropShuttles s i keep).cee = s.cee ∧
    (dropShuttles s i keep).tpe = s.tpe ∧ (dropShuttles s i keep).th = s.th ∧ (dropShuttles s i keep).dsp = s.dsp ∧
    (dropShuttles s i keep).conv = s.conv ∧ (dropShuttles s i keep).phase = s.phase ∧
    (dropShuttles s i keep).gx2 = s.gx2 ∧ (dropShuttles s i keep).le = s.le ∧ (dropShuttles s i keep).saf = s.saf ∧
    (dropShuttles s i keep).red = s.red ∧ (dropShuttles s i keep).rack = s.rack ∧
    (dropShuttles s i keep).seq = s.seq ∧ (dropShuttles s i keep).tsu = s.tsu ∧ (dropShuttles s i keep).hpr = s.hpr ∧
    (dropShuttles s i keep).net = s.net ∧ (dropShuttles s i keep).app = s.app ∧ (dropShuttles s i keep).icu = s.icu ∧
    (dropShuttles s i keep).flt = s.flt ∧ (dropShuttles s i keep).plg = s.plg ∧ (dropShuttles s i keep).upd = s.upd ∧
    (dropShuttles s i keep).mem = s.mem ∧ (dropShuttles s i keep).canRam = s.canRam ∧
    (dropShuttles s i keep).free = s.free := by
  unfold dropShuttles; (repeat' split) <;> simp

@[simp] theorem planString_keeps (s : State) (i : Nat) :
    (planString s i).pending = s.pending ∧ (planString s i).variant = s.variant ∧ (planString s i).clk = s.clk ∧
    (planString s i).unit = s.unit ∧ (planString s i).str = s.str ∧ (planString s i).pwr = s.pwr ∧
    (planString s i).hvi = s.hvi ∧ (planString s i).hviStr = s.hviStr ∧ (planString s i).cee = s.cee ∧
    (planString s i).tpe = s.tpe ∧ (planString s i).th = s.th ∧ (planString s i).dsp = s.dsp ∧
    (planString s i).conv = s.conv ∧ (planString s i).phase = s.phase ∧ (planString s i).gx2 = s.gx2 ∧
    (planString s i).le = s.le ∧ (planString s i).saf = s.saf ∧ (planString s i).red = s.red ∧
    (planString s i).rack = s.rack ∧ (planString s i).seq = s.seq ∧ (planString s i).tsu = s.tsu ∧
    (planString s i).hpr = s.hpr ∧ (planString s i).net = s.net ∧ (planString s i).app = s.app ∧
    (planString s i).icu = s.icu ∧ (planString s i).flt = s.flt ∧ (planString s i).plg = s.plg ∧
    (planString s i).upd = s.upd ∧ (planString s i).mem = s.mem ∧ (planString s i).canRam = s.canRam ∧
    (planString s i).free = s.free := by
  unfold planString; (repeat' split) <;> simp

@[simp] theorem storeHold_keeps (s : State) (p : Bytes) :
    (storeHold s p).pending = s.pending ∧ (storeHold s p).variant = s.variant ∧ (storeHold s p).clk = s.clk ∧
    (storeHold s p).unit = s.unit ∧ (storeHold s p).str = s.str ∧ (storeHold s p).pwr = s.pwr ∧
    (storeHold s p).hvi = s.hvi ∧ (storeHold s p).hviStr = s.hviStr ∧ (storeHold s p).cee = s.cee ∧
    (storeHold s p).tpe = s.tpe ∧ (storeHold s p).th = s.th ∧ (storeHold s p).dsp = s.dsp ∧
    (storeHold s p).conv = s.conv ∧ (storeHold s p).phase = s.phase ∧ (storeHold s p).gx2 = s.gx2 ∧
    (storeHold s p).le = s.le ∧ (storeHold s p).saf = s.saf ∧ (storeHold s p).red = s.red ∧
    (storeHold s p).rack = s.rack ∧ (storeHold s p).seq = s.seq ∧ (storeHold s p).tsu = s.tsu ∧
    (storeHold s p).hpr = s.hpr ∧ (storeHold s p).net = s.net ∧ (storeHold s p).app = s.app ∧
    (storeHold s p).icu = s.icu ∧ (storeHold s p).flt = s.flt ∧ (storeHold s p).plg = s.plg ∧
    (storeHold s p).upd = s.upd ∧ (storeHold s p).mem = s.mem ∧ (storeHold s p).canRam = s.canRam ∧
    (storeHold s p).free = s.free := by
  unfold storeHold; (repeat' split) <;> simp

@[simp] theorem trimTo_keeps (o : Bool) (l n : Nat) (s : State) :
    (trimTo o l n s).pending = s.pending ∧ (trimTo o l n s).variant = s.variant ∧ (trimTo o l n s).clk = s.clk ∧
    (trimTo o l n s).unit = s.unit ∧ (trimTo o l n s).str = s.str ∧ (trimTo o l n s).pwr = s.pwr ∧
    (trimTo o l n s).hvi = s.hvi ∧ (trimTo o l n s).hviStr = s.hviStr ∧ (trimTo o l n s).cee = s.cee ∧
    (trimTo o l n s).tpe = s.tpe ∧ (trimTo o l n s).th = s.th ∧ (trimTo o l n s).dsp = s.dsp ∧
    (trimTo o l n s).conv = s.conv ∧ (trimTo o l n s).phase = s.phase ∧ (trimTo o l n s).gx2 = s.gx2 ∧
    (trimTo o l n s).le = s.le ∧ (trimTo o l n s).saf = s.saf ∧ (trimTo o l n s).red = s.red ∧
    (trimTo o l n s).rack = s.rack ∧ (trimTo o l n s).seq = s.seq ∧ (trimTo o l n s).tsu = s.tsu ∧
    (trimTo o l n s).hpr = s.hpr ∧ (trimTo o l n s).net = s.net ∧ (trimTo o l n s).app = s.app ∧
    (trimTo o l n s).icu = s.icu ∧ (trimTo o l n s).flt = s.flt ∧ (trimTo o l n s).plg = s.plg ∧
    (trimTo o l n s).upd = s.upd ∧ (trimTo o l n s).mem = s.mem ∧ (trimTo o l n s).canRam = s.canRam ∧
    (trimTo o l n s).free = s.free := by
  induction n generalizing s with
  | zero => simp [trimTo]
  | succ n ih => unfold trimTo; (repeat' split) <;> simp [ih]

end Sys2Proof.Machine
end

