-- ==== Sys2Proof/Laws/Can.lean ====
section
/-! SUPPORT. What the operations of Can leave alone. -/

namespace Sys2Proof.Machine

@[simp] theorem canRamWrite_keeps (s : State) (off : Nat) (b : Bytes) :
    (canRamWrite s off b).pending = s.pending ∧ (canRamWrite s off b).variant = s.variant ∧
    (canRamWrite s off b).clk = s.clk ∧ (canRamWrite s off b).unit = s.unit ∧ (canRamWrite s off b).str = s.str ∧
    (canRamWrite s off b).pwr = s.pwr ∧ (canRamWrite s off b).hvi = s.hvi ∧ (canRamWrite s off b).hviStr = s.hviStr ∧
    (canRamWrite s off b).rings = s.rings ∧ (canRamWrite s off b).cee = s.cee ∧ (canRamWrite s off b).tpe = s.tpe ∧
    (canRamWrite s off b).th = s.th ∧ (canRamWrite s off b).bal = s.bal ∧ (canRamWrite s off b).dsp = s.dsp ∧
    (canRamWrite s off b).conv = s.conv ∧ (canRamWrite s off b).phase = s.phase ∧ (canRamWrite s off b).gx2 = s.gx2 ∧
    (canRamWrite s off b).le = s.le ∧ (canRamWrite s off b).saf = s.saf ∧ (canRamWrite s off b).red = s.red ∧
    (canRamWrite s off b).rack = s.rack ∧ (canRamWrite s off b).seq = s.seq ∧ (canRamWrite s off b).tsu = s.tsu ∧
    (canRamWrite s off b).hpr = s.hpr ∧ (canRamWrite s off b).net = s.net ∧ (canRamWrite s off b).app = s.app ∧
    (canRamWrite s off b).icu = s.icu ∧ (canRamWrite s off b).flt = s.flt ∧ (canRamWrite s off b).plg = s.plg ∧
    (canRamWrite s off b).upd = s.upd ∧ (canRamWrite s off b).mem = s.mem ∧ (canRamWrite s off b).free = s.free := by
  unfold canRamWrite; (repeat' split) <;> simp

@[simp] theorem canSource_keeps (s : State) (c k : Nat) :
    (canSource s c k).pending = s.pending ∧ (canSource s c k).variant = s.variant ∧ (canSource s c k).clk = s.clk ∧
    (canSource s c k).unit = s.unit ∧ (canSource s c k).str = s.str ∧ (canSource s c k).pwr = s.pwr ∧
    (canSource s c k).hvi = s.hvi ∧ (canSource s c k).hviStr = s.hviStr ∧ (canSource s c k).rings = s.rings ∧
    (canSource s c k).cee = s.cee ∧ (canSource s c k).tpe = s.tpe ∧ (canSource s c k).th = s.th ∧
    (canSource s c k).bal = s.bal ∧ (canSource s c k).dsp = s.dsp ∧ (canSource s c k).conv = s.conv ∧
    (canSource s c k).phase = s.phase ∧ (canSource s c k).gx2 = s.gx2 ∧ (canSource s c k).le = s.le ∧
    (canSource s c k).saf = s.saf ∧ (canSource s c k).red = s.red ∧ (canSource s c k).rack = s.rack ∧
    (canSource s c k).seq = s.seq ∧ (canSource s c k).tsu = s.tsu ∧ (canSource s c k).hpr = s.hpr ∧
    (canSource s c k).net = s.net ∧ (canSource s c k).app = s.app ∧ (canSource s c k).flt = s.flt ∧
    (canSource s c k).upd = s.upd ∧ (canSource s c k).mem = s.mem ∧ (canSource s c k).canRam = s.canRam ∧
    (canSource s c k).free = s.free := by
  unfold canSource; (repeat' split) <;> simp

@[simp] theorem canEvent_keeps (s : State) (c b : Nat) :
    (canEvent s c b).pending = s.pending ∧ (canEvent s c b).variant = s.variant ∧ (canEvent s c b).clk = s.clk ∧
    (canEvent s c b).unit = s.unit ∧ (canEvent s c b).str = s.str ∧ (canEvent s c b).pwr = s.pwr ∧
    (canEvent s c b).hvi = s.hvi ∧ (canEvent s c b).hviStr = s.hviStr ∧ (canEvent s c b).rings = s.rings ∧
    (canEvent s c b).cee = s.cee ∧ (canEvent s c b).tpe = s.tpe ∧ (canEvent s c b).th = s.th ∧
    (canEvent s c b).bal = s.bal ∧ (canEvent s c b).dsp = s.dsp ∧ (canEvent s c b).conv = s.conv ∧
    (canEvent s c b).phase = s.phase ∧ (canEvent s c b).gx2 = s.gx2 ∧ (canEvent s c b).le = s.le ∧
    (canEvent s c b).saf = s.saf ∧ (canEvent s c b).red = s.red ∧ (canEvent s c b).rack = s.rack ∧
    (canEvent s c b).seq = s.seq ∧ (canEvent s c b).tsu = s.tsu ∧ (canEvent s c b).hpr = s.hpr ∧
    (canEvent s c b).app = s.app ∧ (canEvent s c b).flt = s.flt ∧ (canEvent s c b).upd = s.upd ∧
    (canEvent s c b).mem = s.mem ∧ (canEvent s c b).canRam = s.canRam ∧ (canEvent s c b).free = s.free := by
  unfold canEvent; (repeat' split) <;> simp

@[simp] theorem accErr_keeps (s : State) (c : Nat) :
    (accErr s c).pending = s.pending ∧ (accErr s c).variant = s.variant ∧ (accErr s c).clk = s.clk ∧
    (accErr s c).unit = s.unit ∧ (accErr s c).str = s.str ∧ (accErr s c).pwr = s.pwr ∧ (accErr s c).hvi = s.hvi ∧
    (accErr s c).hviStr = s.hviStr ∧ (accErr s c).rings = s.rings ∧ (accErr s c).cee = s.cee ∧
    (accErr s c).tpe = s.tpe ∧ (accErr s c).th = s.th ∧ (accErr s c).bal = s.bal ∧ (accErr s c).dsp = s.dsp ∧
    (accErr s c).conv = s.conv ∧ (accErr s c).phase = s.phase ∧ (accErr s c).gx2 = s.gx2 ∧ (accErr s c).le = s.le ∧
    (accErr s c).saf = s.saf ∧ (accErr s c).red = s.red ∧ (accErr s c).rack = s.rack ∧ (accErr s c).seq = s.seq ∧
    (accErr s c).tsu = s.tsu ∧ (accErr s c).hpr = s.hpr ∧ (accErr s c).app = s.app ∧ (accErr s c).flt = s.flt ∧
    (accErr s c).upd = s.upd ∧ (accErr s c).mem = s.mem ∧ (accErr s c).canRam = s.canRam ∧
    (accErr s c).free = s.free := by
  unfold accErr; (repeat' split) <;> simp

@[simp] theorem writeCtrl_keeps (s : State) (c : Nat) (v : BitVec 32) :
    (writeCtrl s c v).pending = s.pending ∧ (writeCtrl s c v).variant = s.variant ∧ (writeCtrl s c v).clk = s.clk ∧
    (writeCtrl s c v).unit = s.unit ∧ (writeCtrl s c v).str = s.str ∧ (writeCtrl s c v).pwr = s.pwr ∧
    (writeCtrl s c v).hvi = s.hvi ∧ (writeCtrl s c v).hviStr = s.hviStr ∧ (writeCtrl s c v).rings = s.rings ∧
    (writeCtrl s c v).cee = s.cee ∧ (writeCtrl s c v).tpe = s.tpe ∧ (writeCtrl s c v).th = s.th ∧
    (writeCtrl s c v).bal = s.bal ∧ (writeCtrl s c v).dsp = s.dsp ∧ (writeCtrl s c v).conv = s.conv ∧
    (writeCtrl s c v).phase = s.phase ∧ (writeCtrl s c v).gx2 = s.gx2 ∧ (writeCtrl s c v).le = s.le ∧
    (writeCtrl s c v).saf = s.saf ∧ (writeCtrl s c v).red = s.red ∧ (writeCtrl s c v).rack = s.rack ∧
    (writeCtrl s c v).seq = s.seq ∧ (writeCtrl s c v).tsu = s.tsu ∧ (writeCtrl s c v).hpr = s.hpr ∧
    (writeCtrl s c v).app = s.app ∧ (writeCtrl s c v).flt = s.flt ∧ (writeCtrl s c v).upd = s.upd ∧
    (writeCtrl s c v).mem = s.mem ∧ (writeCtrl s c v).canRam = s.canRam ∧ (writeCtrl s c v).free = s.free := by
  unfold writeCtrl; (repeat' split) <;> simp

@[simp] theorem writeTxPut_keeps (s : State) (c put : Nat) :
    (writeTxPut s c put).pending = s.pending ∧ (writeTxPut s c put).variant = s.variant ∧
    (writeTxPut s c put).clk = s.clk ∧ (writeTxPut s c put).unit = s.unit ∧ (writeTxPut s c put).str = s.str ∧
    (writeTxPut s c put).pwr = s.pwr ∧ (writeTxPut s c put).hvi = s.hvi ∧ (writeTxPut s c put).hviStr = s.hviStr ∧
    (writeTxPut s c put).rings = s.rings ∧ (writeTxPut s c put).cee = s.cee ∧ (writeTxPut s c put).tpe = s.tpe ∧
    (writeTxPut s c put).th = s.th ∧ (writeTxPut s c put).bal = s.bal ∧ (writeTxPut s c put).dsp = s.dsp ∧
    (writeTxPut s c put).conv = s.conv ∧ (writeTxPut s c put).phase = s.phase ∧ (writeTxPut s c put).gx2 = s.gx2 ∧
    (writeTxPut s c put).le = s.le ∧ (writeTxPut s c put).saf = s.saf ∧ (writeTxPut s c put).red = s.red ∧
    (writeTxPut s c put).rack = s.rack ∧ (writeTxPut s c put).seq = s.seq ∧ (writeTxPut s c put).tsu = s.tsu ∧
    (writeTxPut s c put).hpr = s.hpr ∧ (writeTxPut s c put).app = s.app ∧ (writeTxPut s c put).flt = s.flt ∧
    (writeTxPut s c put).upd = s.upd ∧ (writeTxPut s c put).mem = s.mem ∧ (writeTxPut s c put).canRam = s.canRam ∧
    (writeTxPut s c put).free = s.free := by
  unfold writeTxPut; (repeat' split) <;> simp

@[simp] theorem writeCancel_keeps (s : State) (c : Nat) :
    (writeCancel s c).pending = s.pending ∧ (writeCancel s c).variant = s.variant ∧ (writeCancel s c).clk = s.clk ∧
    (writeCancel s c).unit = s.unit ∧ (writeCancel s c).str = s.str ∧ (writeCancel s c).pwr = s.pwr ∧
    (writeCancel s c).hvi = s.hvi ∧ (writeCancel s c).hviStr = s.hviStr ∧ (writeCancel s c).rings = s.rings ∧
    (writeCancel s c).cee = s.cee ∧ (writeCancel s c).tpe = s.tpe ∧ (writeCancel s c).th = s.th ∧
    (writeCancel s c).bal = s.bal ∧ (writeCancel s c).dsp = s.dsp ∧ (writeCancel s c).conv = s.conv ∧
    (writeCancel s c).phase = s.phase ∧ (writeCancel s c).gx2 = s.gx2 ∧ (writeCancel s c).le = s.le ∧
    (writeCancel s c).saf = s.saf ∧ (writeCancel s c).red = s.red ∧ (writeCancel s c).rack = s.rack ∧
    (writeCancel s c).seq = s.seq ∧ (writeCancel s c).tsu = s.tsu ∧ (writeCancel s c).hpr = s.hpr ∧
    (writeCancel s c).app = s.app ∧ (writeCancel s c).icu = s.icu ∧ (writeCancel s c).flt = s.flt ∧
    (writeCancel s c).plg = s.plg ∧ (writeCancel s c).upd = s.upd ∧ (writeCancel s c).mem = s.mem ∧
    (writeCancel s c).canRam = s.canRam ∧ (writeCancel s c).free = s.free := by
  unfold writeCancel; (repeat' split) <;> simp

@[simp] theorem receiveFrame_keeps (s : State) (c : Nat) (f : CanFrame) :
    (receiveFrame s c f).pending = s.pending ∧ (receiveFrame s c f).variant = s.variant ∧
    (receiveFrame s c f).clk = s.clk ∧ (receiveFrame s c f).unit = s.unit ∧ (receiveFrame s c f).str = s.str ∧
    (receiveFrame s c f).pwr = s.pwr ∧ (receiveFrame s c f).hvi = s.hvi ∧ (receiveFrame s c f).hviStr = s.hviStr ∧
    (receiveFrame s c f).rings = s.rings ∧ (receiveFrame s c f).cee = s.cee ∧ (receiveFrame s c f).tpe = s.tpe ∧
    (receiveFrame s c f).th = s.th ∧ (receiveFrame s c f).bal = s.bal ∧ (receiveFrame s c f).dsp = s.dsp ∧
    (receiveFrame s c f).conv = s.conv ∧ (receiveFrame s c f).phase = s.phase ∧ (receiveFrame s c f).gx2 = s.gx2 ∧
    (receiveFrame s c f).le = s.le ∧ (receiveFrame s c f).saf = s.saf ∧ (receiveFrame s c f).red = s.red ∧
    (receiveFrame s c f).rack = s.rack ∧ (receiveFrame s c f).seq = s.seq ∧ (receiveFrame s c f).tsu = s.tsu ∧
    (receiveFrame s c f).hpr = s.hpr ∧ (receiveFrame s c f).app = s.app ∧ (receiveFrame s c f).flt = s.flt ∧
    (receiveFrame s c f).upd = s.upd ∧ (receiveFrame s c f).mem = s.mem := by
  unfold receiveFrame; (repeat' split) <;> simp

@[simp] theorem writeRxGet_keeps (s : State) (c k get : Nat) :
    (writeRxGet s c k get).pending = s.pending ∧ (writeRxGet s c k get).variant = s.variant ∧
    (writeRxGet s c k get).clk = s.clk ∧ (writeRxGet s c k get).unit = s.unit ∧ (writeRxGet s c k get).str = s.str ∧
    (writeRxGet s c k get).pwr = s.pwr ∧ (writeRxGet s c k get).hvi = s.hvi ∧
    (writeRxGet s c k get).hviStr = s.hviStr ∧ (writeRxGet s c k get).rings = s.rings ∧
    (writeRxGet s c k get).cee = s.cee ∧ (writeRxGet s c k get).tpe = s.tpe ∧ (writeRxGet s c k get).th = s.th ∧
    (writeRxGet s c k get).bal = s.bal ∧ (writeRxGet s c k get).dsp = s.dsp ∧ (writeRxGet s c k get).conv = s.conv ∧
    (writeRxGet s c k get).phase = s.phase ∧ (writeRxGet s c k get).gx2 = s.gx2 ∧ (writeRxGet s c k get).le = s.le ∧
    (writeRxGet s c k get).saf = s.saf ∧ (writeRxGet s c k get).red = s.red ∧ (writeRxGet s c k get).rack = s.rack ∧
    (writeRxGet s c k get).seq = s.seq ∧ (writeRxGet s c k get).tsu = s.tsu ∧ (writeRxGet s c k get).hpr = s.hpr ∧
    (writeRxGet s c k get).app = s.app ∧ (writeRxGet s c k get).flt = s.flt ∧ (writeRxGet s c k get).upd = s.upd ∧
    (writeRxGet s c k get).mem = s.mem ∧ (writeRxGet s c k get).canRam = s.canRam ∧
    (writeRxGet s c k get).free = s.free := by
  unfold writeRxGet; (repeat' split) <;> simp

@[simp] theorem initOnly_keeps (s : State) (c : Nat) (f : Can → Can) :
    (initOnly s c f).pending = s.pending ∧ (initOnly s c f).variant = s.variant ∧ (initOnly s c f).clk = s.clk ∧
    (initOnly s c f).unit = s.unit ∧ (initOnly s c f).str = s.str ∧ (initOnly s c f).pwr = s.pwr ∧
    (initOnly s c f).hvi = s.hvi ∧ (initOnly s c f).hviStr = s.hviStr ∧ (initOnly s c f).rings = s.rings ∧
    (initOnly s c f).cee = s.cee ∧ (initOnly s c f).tpe = s.tpe ∧ (initOnly s c f).th = s.th ∧
    (initOnly s c f).bal = s.bal ∧ (initOnly s c f).dsp = s.dsp ∧ (initOnly s c f).conv = s.conv ∧
    (initOnly s c f).phase = s.phase ∧ (initOnly s c f).gx2 = s.gx2 ∧ (initOnly s c f).le = s.le ∧
    (initOnly s c f).saf = s.saf ∧ (initOnly s c f).red = s.red ∧ (initOnly s c f).rack = s.rack ∧
    (initOnly s c f).seq = s.seq ∧ (initOnly s c f).tsu = s.tsu ∧ (initOnly s c f).hpr = s.hpr ∧
    (initOnly s c f).app = s.app ∧ (initOnly s c f).flt = s.flt ∧ (initOnly s c f).upd = s.upd ∧
    (initOnly s c f).mem = s.mem ∧ (initOnly s c f).canRam = s.canRam ∧ (initOnly s c f).free = s.free := by
  unfold initOnly; (repeat' split) <;> simp

@[simp] theorem canHeldWrite_keeps (s : State) (c off : Nat) (v : BitVec 32) :
    (canHeldWrite s c off v).pending = s.pending ∧ (canHeldWrite s c off v).variant = s.variant ∧
    (canHeldWrite s c off v).clk = s.clk ∧ (canHeldWrite s c off v).unit = s.unit ∧
    (canHeldWrite s c off v).str = s.str ∧ (canHeldWrite s c off v).pwr = s.pwr ∧
    (canHeldWrite s c off v).hvi = s.hvi ∧ (canHeldWrite s c off v).hviStr = s.hviStr ∧
    (canHeldWrite s c off v).rings = s.rings ∧ (canHeldWrite s c off v).cee = s.cee ∧
    (canHeldWrite s c off v).tpe = s.tpe ∧ (canHeldWrite s c off v).th = s.th ∧
    (canHeldWrite s c off v).bal = s.bal ∧ (canHeldWrite s c off v).dsp = s.dsp ∧
    (canHeldWrite s c off v).conv = s.conv ∧ (canHeldWrite s c off v).phase = s.phase ∧
    (canHeldWrite s c off v).gx2 = s.gx2 ∧ (canHeldWrite s c off v).le = s.le ∧
    (canHeldWrite s c off v).saf = s.saf ∧ (canHeldWrite s c off v).red = s.red ∧
    (canHeldWrite s c off v).rack = s.rack ∧ (canHeldWrite s c off v).seq = s.seq ∧
    (canHeldWrite s c off v).tsu = s.tsu ∧ (canHeldWrite s c off v).hpr = s.hpr ∧
    (canHeldWrite s c off v).app = s.app ∧ (canHeldWrite s c off v).flt = s.flt ∧
    (canHeldWrite s c off v).upd = s.upd ∧ (canHeldWrite s c off v).mem = s.mem ∧
    (canHeldWrite s c off v).canRam = s.canRam ∧ (canHeldWrite s c off v).free = s.free := by
  unfold canHeldWrite; (repeat' split) <;> simp

theorem canOwned_proj {γ : Type} (p : State → γ) (s : State) (a : Bool) (c : Nat) (f : State → State)
    (e : p (accErr s c) = p s)
    (h : ∀ s, p (f s) = p s) : p (canOwned s a c f) = p s := by
  unfold canOwned; (repeat' split) <;> simp [h, e]

@[simp] theorem canOwned_pending (s : State) (a : Bool) (c : Nat) (f : State → State)
    (h : ∀ s, (f s).pending = s.pending) : (canOwned s a c f).pending = s.pending :=
  canOwned_proj State.pending s a c f (by simp) h

@[simp] theorem canOwned_variant (s : State) (a : Bool) (c : Nat) (f : State → State)
    (h : ∀ s, (f s).variant = s.variant) : (canOwned s a c f).variant = s.variant :=
  canOwned_proj State.variant s a c f (by simp) h

@[simp] theorem canOwned_clk (s : State) (a : Bool) (c : Nat) (f : State → State)
    (h : ∀ s, (f s).clk = s.clk) : (canOwned s a c f).clk = s.clk :=
  canOwned_proj State.clk s a c f (by simp) h

@[simp] theorem canOwned_unit (s : State) (a : Bool) (c : Nat) (f : State → State)
    (h : ∀ s, (f s).unit = s.unit) : (canOwned s a c f).unit = s.unit :=
  canOwned_proj State.unit s a c f (by simp) h

@[simp] theorem canOwned_str (s : State) (a : Bool) (c : Nat) (f : State → State)
    (h : ∀ s, (f s).str = s.str) : (canOwned s a c f).str = s.str :=
  canOwned_proj State.str s a c f (by simp) h

@[simp] theorem canOwned_pwr (s : State) (a : Bool) (c : Nat) (f : State → State)
    (h : ∀ s, (f s).pwr = s.pwr) : (canOwned s a c f).pwr = s.pwr :=
  canOwned_proj State.pwr s a c f (by simp) h

@[simp] theorem canOwned_hvi (s : State) (a : Bool) (c : Nat) (f : State → State)
    (h : ∀ s, (f s).hvi = s.hvi) : (canOwned s a c f).hvi = s.hvi :=
  canOwned_proj State.hvi s a c f (by simp) h

@[simp] theorem canOwned_hviStr (s : State) (a : Bool) (c : Nat) (f : State → State)
    (h : ∀ s, (f s).hviStr = s.hviStr) : (canOwned s a c f).hviStr = s.hviStr :=
  canOwned_proj State.hviStr s a c f (by simp) h

@[simp] theorem canOwned_rings (s : State) (a : Bool) (c : Nat) (f : State → State)
    (h : ∀ s, (f s).rings = s.rings) : (canOwned s a c f).rings = s.rings :=
  canOwned_proj State.rings s a c f (by simp) h

@[simp] theorem canOwned_cee (s : State) (a : Bool) (c : Nat) (f : State → State)
    (h : ∀ s, (f s).cee = s.cee) : (canOwned s a c f).cee = s.cee :=
  canOwned_proj State.cee s a c f (by simp) h

@[simp] theorem canOwned_tpe (s : State) (a : Bool) (c : Nat) (f : State → State)
    (h : ∀ s, (f s).tpe = s.tpe) : (canOwned s a c f).tpe = s.tpe :=
  canOwned_proj State.tpe s a c f (by simp) h

@[simp] theorem canOwned_th (s : State) (a : Bool) (c : Nat) (f : State → State)
    (h : ∀ s, (f s).th = s.th) : (canOwned s a c f).th = s.th :=
  canOwned_proj State.th s a c f (by simp) h

@[simp] theorem canOwned_bal (s : State) (a : Bool) (c : Nat) (f : State → State)
    (h : ∀ s, (f s).bal = s.bal) : (canOwned s a c f).bal = s.bal :=
  canOwned_proj State.bal s a c f (by simp) h

@[simp] theorem canOwned_dsp (s : State) (a : Bool) (c : Nat) (f : State → State)
    (h : ∀ s, (f s).dsp = s.dsp) : (canOwned s a c f).dsp = s.dsp :=
  canOwned_proj State.dsp s a c f (by simp) h

@[simp] theorem canOwned_conv (s : State) (a : Bool) (c : Nat) (f : State → State)
    (h : ∀ s, (f s).conv = s.conv) : (canOwned s a c f).conv = s.conv :=
  canOwned_proj State.conv s a c f (by simp) h

@[simp] theorem canOwned_phase (s : State) (a : Bool) (c : Nat) (f : State → State)
    (h : ∀ s, (f s).phase = s.phase) : (canOwned s a c f).phase = s.phase :=
  canOwned_proj State.phase s a c f (by simp) h

@[simp] theorem canOwned_gx2 (s : State) (a : Bool) (c : Nat) (f : State → State)
    (h : ∀ s, (f s).gx2 = s.gx2) : (canOwned s a c f).gx2 = s.gx2 :=
  canOwned_proj State.gx2 s a c f (by simp) h

@[simp] theorem canOwned_le (s : State) (a : Bool) (c : Nat) (f : State → State)
    (h : ∀ s, (f s).le = s.le) : (canOwned s a c f).le = s.le :=
  canOwned_proj State.le s a c f (by simp) h

@[simp] theorem canOwned_saf (s : State) (a : Bool) (c : Nat) (f : State → State)
    (h : ∀ s, (f s).saf = s.saf) : (canOwned s a c f).saf = s.saf :=
  canOwned_proj State.saf s a c f (by simp) h

@[simp] theorem canOwned_red (s : State) (a : Bool) (c : Nat) (f : State → State)
    (h : ∀ s, (f s).red = s.red) : (canOwned s a c f).red = s.red :=
  canOwned_proj State.red s a c f (by simp) h

@[simp] theorem canOwned_rack (s : State) (a : Bool) (c : Nat) (f : State → State)
    (h : ∀ s, (f s).rack = s.rack) : (canOwned s a c f).rack = s.rack :=
  canOwned_proj State.rack s a c f (by simp) h

@[simp] theorem canOwned_seq (s : State) (a : Bool) (c : Nat) (f : State → State)
    (h : ∀ s, (f s).seq = s.seq) : (canOwned s a c f).seq = s.seq :=
  canOwned_proj State.seq s a c f (by simp) h

@[simp] theorem canOwned_tsu (s : State) (a : Bool) (c : Nat) (f : State → State)
    (h : ∀ s, (f s).tsu = s.tsu) : (canOwned s a c f).tsu = s.tsu :=
  canOwned_proj State.tsu s a c f (by simp) h

@[simp] theorem canOwned_hpr (s : State) (a : Bool) (c : Nat) (f : State → State)
    (h : ∀ s, (f s).hpr = s.hpr) : (canOwned s a c f).hpr = s.hpr :=
  canOwned_proj State.hpr s a c f (by simp) h

@[simp] theorem canOwned_app (s : State) (a : Bool) (c : Nat) (f : State → State)
    (h : ∀ s, (f s).app = s.app) : (canOwned s a c f).app = s.app :=
  canOwned_proj State.app s a c f (by simp) h

@[simp] theorem canOwned_flt (s : State) (a : Bool) (c : Nat) (f : State → State)
    (h : ∀ s, (f s).flt = s.flt) : (canOwned s a c f).flt = s.flt :=
  canOwned_proj State.flt s a c f (by simp) h

@[simp] theorem canOwned_upd (s : State) (a : Bool) (c : Nat) (f : State → State)
    (h : ∀ s, (f s).upd = s.upd) : (canOwned s a c f).upd = s.upd :=
  canOwned_proj State.upd s a c f (by simp) h

@[simp] theorem canOwned_mem (s : State) (a : Bool) (c : Nat) (f : State → State)
    (h : ∀ s, (f s).mem = s.mem) : (canOwned s a c f).mem = s.mem :=
  canOwned_proj State.mem s a c f (by simp) h

@[simp] theorem canOwned_canRam (s : State) (a : Bool) (c : Nat) (f : State → State)
    (h : ∀ s, (f s).canRam = s.canRam) : (canOwned s a c f).canRam = s.canRam :=
  canOwned_proj State.canRam s a c f (by simp) h

@[simp] theorem canOwned_free (s : State) (a : Bool) (c : Nat) (f : State → State)
    (h : ∀ s, (f s).free = s.free) : (canOwned s a c f).free = s.free :=
  canOwned_proj State.free s a c f (by simp) h

@[simp] theorem canWrite_keeps (s : State) (app : Bool) (c off : Nat) (v : BitVec 32) :
    (canWrite s app c off v).pending = s.pending ∧ (canWrite s app c off v).variant = s.variant ∧
    (canWrite s app c off v).clk = s.clk ∧ (canWrite s app c off v).unit = s.unit ∧
    (canWrite s app c off v).str = s.str ∧ (canWrite s app c off v).pwr = s.pwr ∧
    (canWrite s app c off v).hvi = s.hvi ∧ (canWrite s app c off v).hviStr = s.hviStr ∧
    (canWrite s app c off v).rings = s.rings ∧ (canWrite s app c off v).cee = s.cee ∧
    (canWrite s app c off v).tpe = s.tpe ∧ (canWrite s app c off v).th = s.th ∧
    (canWrite s app c off v).bal = s.bal ∧ (canWrite s app c off v).dsp = s.dsp ∧
    (canWrite s app c off v).conv = s.conv ∧ (canWrite s app c off v).phase = s.phase ∧
    (canWrite s app c off v).gx2 = s.gx2 ∧ (canWrite s app c off v).le = s.le ∧
    (canWrite s app c off v).saf = s.saf ∧ (canWrite s app c off v).red = s.red ∧
    (canWrite s app c off v).rack = s.rack ∧ (canWrite s app c off v).seq = s.seq ∧
    (canWrite s app c off v).tsu = s.tsu ∧ (canWrite s app c off v).hpr = s.hpr ∧
    (canWrite s app c off v).app = s.app ∧ (canWrite s app c off v).flt = s.flt ∧
    (canWrite s app c off v).upd = s.upd ∧ (canWrite s app c off v).mem = s.mem ∧
    (canWrite s app c off v).canRam = s.canRam ∧ (canWrite s app c off v).free = s.free := by
  unfold canWrite; split <;> simp

@[simp] theorem canRamPut_keeps (s : State) (app : Bool) (off : Nat) (v : BitVec 32) :
    (canRamPut s app off v).pending = s.pending ∧ (canRamPut s app off v).variant = s.variant ∧
    (canRamPut s app off v).clk = s.clk ∧ (canRamPut s app off v).unit = s.unit ∧
    (canRamPut s app off v).str = s.str ∧ (canRamPut s app off v).pwr = s.pwr ∧ (canRamPut s app off v).hvi = s.hvi ∧
    (canRamPut s app off v).hviStr = s.hviStr ∧ (canRamPut s app off v).rings = s.rings ∧
    (canRamPut s app off v).cee = s.cee ∧ (canRamPut s app off v).tpe = s.tpe ∧ (canRamPut s app off v).th = s.th ∧
    (canRamPut s app off v).bal = s.bal ∧ (canRamPut s app off v).dsp = s.dsp ∧
    (canRamPut s app off v).conv = s.conv ∧ (canRamPut s app off v).phase = s.phase ∧
    (canRamPut s app off v).gx2 = s.gx2 ∧ (canRamPut s app off v).le = s.le ∧ (canRamPut s app off v).saf = s.saf ∧
    (canRamPut s app off v).red = s.red ∧ (canRamPut s app off v).rack = s.rack ∧
    (canRamPut s app off v).seq = s.seq ∧ (canRamPut s app off v).tsu = s.tsu ∧ (canRamPut s app off v).hpr = s.hpr ∧
    (canRamPut s app off v).app = s.app ∧ (canRamPut s app off v).flt = s.flt ∧ (canRamPut s app off v).upd = s.upd ∧
    (canRamPut s app off v).mem = s.mem ∧ (canRamPut s app off v).free = s.free := by
  unfold canRamPut; (repeat' split) <;> simp

end Sys2Proof.Machine
end

