-- ==== Sys2Proof/Laws/Net.lean ====
section
/-! SUPPORT. What the operations of Net leave alone. -/

namespace Sys2Proof.Machine

@[simp] theorem pushSafe_keeps (s : State) (n : Nat) (b : Bytes) :
    (pushSafe s n b).pending = s.pending ∧ (pushSafe s n b).variant = s.variant ∧ (pushSafe s n b).clk = s.clk ∧
    (pushSafe s n b).unit = s.unit ∧ (pushSafe s n b).str = s.str ∧ (pushSafe s n b).pwr = s.pwr ∧
    (pushSafe s n b).hvi = s.hvi ∧ (pushSafe s n b).hviStr = s.hviStr ∧ (pushSafe s n b).rings = s.rings ∧
    (pushSafe s n b).cee = s.cee ∧ (pushSafe s n b).tpe = s.tpe ∧ (pushSafe s n b).th = s.th ∧
    (pushSafe s n b).bal = s.bal ∧ (pushSafe s n b).dsp = s.dsp ∧ (pushSafe s n b).conv = s.conv ∧
    (pushSafe s n b).phase = s.phase ∧ (pushSafe s n b).gx2 = s.gx2 ∧ (pushSafe s n b).le = s.le ∧
    (pushSafe s n b).red = s.red ∧ (pushSafe s n b).rack = s.rack ∧ (pushSafe s n b).seq = s.seq ∧
    (pushSafe s n b).tsu = s.tsu ∧ (pushSafe s n b).hpr = s.hpr ∧ (pushSafe s n b).net = s.net ∧
    (pushSafe s n b).app = s.app ∧ (pushSafe s n b).icu = s.icu ∧ (pushSafe s n b).flt = s.flt ∧
    (pushSafe s n b).plg = s.plg ∧ (pushSafe s n b).upd = s.upd ∧ (pushSafe s n b).mem = s.mem ∧
    (pushSafe s n b).canRam = s.canRam ∧ (pushSafe s n b).free = s.free := by
  unfold pushSafe; (repeat' split) <;> simp

@[simp] theorem discardFrame_keeps (s : State) (n : Nat) :
    (discardFrame s n).pending = s.pending ∧ (discardFrame s n).variant = s.variant ∧
    (discardFrame s n).clk = s.clk ∧ (discardFrame s n).unit = s.unit ∧ (discardFrame s n).str = s.str ∧
    (discardFrame s n).pwr = s.pwr ∧ (discardFrame s n).hvi = s.hvi ∧ (discardFrame s n).hviStr = s.hviStr ∧
    (discardFrame s n).rings = s.rings ∧ (discardFrame s n).cee = s.cee ∧ (discardFrame s n).tpe = s.tpe ∧
    (discardFrame s n).th = s.th ∧ (discardFrame s n).bal = s.bal ∧ (discardFrame s n).dsp = s.dsp ∧
    (discardFrame s n).conv = s.conv ∧ (discardFrame s n).phase = s.phase ∧ (discardFrame s n).gx2 = s.gx2 ∧
    (discardFrame s n).le = s.le ∧ (discardFrame s n).saf = s.saf ∧ (discardFrame s n).red = s.red ∧
    (discardFrame s n).rack = s.rack ∧ (discardFrame s n).seq = s.seq ∧ (discardFrame s n).tsu = s.tsu ∧
    (discardFrame s n).hpr = s.hpr ∧ (discardFrame s n).app = s.app ∧ (discardFrame s n).icu = s.icu ∧
    (discardFrame s n).flt = s.flt ∧ (discardFrame s n).plg = s.plg ∧ (discardFrame s n).upd = s.upd ∧
    (discardFrame s n).mem = s.mem ∧ (discardFrame s n).canRam = s.canRam ∧ (discardFrame s n).free = s.free := by
  unfold discardFrame; (repeat' split) <;> simp

@[simp] theorem classify_keeps (s : State) (n : Nat) (f : EthFrame) :
    (classify s n f).pending = s.pending ∧ (classify s n f).variant = s.variant ∧ (classify s n f).clk = s.clk ∧
    (classify s n f).unit = s.unit ∧ (classify s n f).str = s.str ∧ (classify s n f).pwr = s.pwr ∧
    (classify s n f).hvi = s.hvi ∧ (classify s n f).hviStr = s.hviStr ∧ (classify s n f).rings = s.rings ∧
    (classify s n f).cee = s.cee ∧ (classify s n f).tpe = s.tpe ∧ (classify s n f).th = s.th ∧
    (classify s n f).bal = s.bal ∧ (classify s n f).dsp = s.dsp ∧ (classify s n f).conv = s.conv ∧
    (classify s n f).phase = s.phase ∧ (classify s n f).gx2 = s.gx2 ∧ (classify s n f).le = s.le ∧
    (classify s n f).red = s.red ∧ (classify s n f).rack = s.rack ∧ (classify s n f).seq = s.seq ∧
    (classify s n f).hpr = s.hpr ∧ (classify s n f).app = s.app ∧ (classify s n f).icu = s.icu ∧
    (classify s n f).flt = s.flt ∧ (classify s n f).plg = s.plg ∧ (classify s n f).upd = s.upd ∧
    (classify s n f).mem = s.mem ∧ (classify s n f).canRam = s.canRam ∧ (classify s n f).free = s.free := by
  unfold classify; (repeat' split) <;> simp

end Sys2Proof.Machine
end

