-- ==== Sys2Proof/Laws/Boot.lean ====
section
/-! SUPPORT. What the operations of Boot leave alone. -/

namespace Sys2Proof.Machine

@[simp] theorem bootState_keeps (s : State) (cold : Bool) (cause : Nat) :
    (bootState s cold cause).pending = s.pending ∧ (bootState s cold cause).variant = s.variant ∧
    (bootState s cold cause).clk = s.clk ∧ (bootState s cold cause).unit = s.unit ∧
    (bootState s cold cause).free = s.free := by
  unfold bootState; (repeat' split) <;> simp

@[simp] theorem enterBoot_keeps (s : State) (cause : Nat) :
    (enterBoot s cause).pending = s.pending ∧ (enterBoot s cause).variant = s.variant ∧
    (enterBoot s cause).clk = s.clk ∧ (enterBoot s cause).free = s.free := by
  unfold enterBoot; (repeat' split) <;> simp

@[simp] theorem flushUpdate_keeps (s : State) :
    (flushUpdate s).pending = s.pending ∧ (flushUpdate s).variant = s.variant ∧ (flushUpdate s).clk = s.clk ∧
    (flushUpdate s).unit = s.unit ∧ (flushUpdate s).str = s.str ∧ (flushUpdate s).pwr = s.pwr ∧
    (flushUpdate s).hvi = s.hvi ∧ (flushUpdate s).hviStr = s.hviStr ∧ (flushUpdate s).rings = s.rings ∧
    (flushUpdate s).cee = s.cee ∧ (flushUpdate s).tpe = s.tpe ∧ (flushUpdate s).th = s.th ∧
    (flushUpdate s).bal = s.bal ∧ (flushUpdate s).dsp = s.dsp ∧ (flushUpdate s).conv = s.conv ∧
    (flushUpdate s).phase = s.phase ∧ (flushUpdate s).gx2 = s.gx2 ∧ (flushUpdate s).le = s.le ∧
    (flushUpdate s).saf = s.saf ∧ (flushUpdate s).red = s.red ∧ (flushUpdate s).rack = s.rack ∧
    (flushUpdate s).seq = s.seq ∧ (flushUpdate s).tsu = s.tsu ∧ (flushUpdate s).hpr = s.hpr ∧
    (flushUpdate s).net = s.net ∧ (flushUpdate s).app = s.app ∧ (flushUpdate s).icu = s.icu ∧
    (flushUpdate s).flt = s.flt ∧ (flushUpdate s).plg = s.plg ∧ (flushUpdate s).mem = s.mem ∧
    (flushUpdate s).canRam = s.canRam ∧ (flushUpdate s).free = s.free := by
  unfold flushUpdate; (repeat' split) <;> simp

@[simp] theorem flushBuffer_keeps (s : State) :
    (flushBuffer s).pending = s.pending ∧ (flushBuffer s).variant = s.variant ∧ (flushBuffer s).clk = s.clk ∧
    (flushBuffer s).unit = s.unit ∧ (flushBuffer s).str = s.str ∧ (flushBuffer s).pwr = s.pwr ∧
    (flushBuffer s).hvi = s.hvi ∧ (flushBuffer s).hviStr = s.hviStr ∧ (flushBuffer s).rings = s.rings ∧
    (flushBuffer s).cee = s.cee ∧ (flushBuffer s).tpe = s.tpe ∧ (flushBuffer s).th = s.th ∧
    (flushBuffer s).bal = s.bal ∧ (flushBuffer s).dsp = s.dsp ∧ (flushBuffer s).conv = s.conv ∧
    (flushBuffer s).phase = s.phase ∧ (flushBuffer s).gx2 = s.gx2 ∧ (flushBuffer s).le = s.le ∧
    (flushBuffer s).saf = s.saf ∧ (flushBuffer s).red = s.red ∧ (flushBuffer s).rack = s.rack ∧
    (flushBuffer s).seq = s.seq ∧ (flushBuffer s).tsu = s.tsu ∧ (flushBuffer s).hpr = s.hpr ∧
    (flushBuffer s).net = s.net ∧ (flushBuffer s).app = s.app ∧ (flushBuffer s).flt = s.flt ∧
    (flushBuffer s).upd = s.upd ∧ (flushBuffer s).mem = s.mem ∧ (flushBuffer s).canRam = s.canRam ∧
    (flushBuffer s).free = s.free := by
  unfold flushBuffer; (repeat' split) <;> simp

@[simp] theorem writeback_keeps (s : State) :
    (writeback s).pending = s.pending ∧ (writeback s).variant = s.variant ∧ (writeback s).clk = s.clk ∧
    (writeback s).unit = s.unit ∧ (writeback s).str = s.str ∧ (writeback s).hviStr = s.hviStr ∧
    (writeback s).rings = s.rings ∧ (writeback s).tpe = s.tpe ∧ (writeback s).th = s.th ∧ (writeback s).bal = s.bal ∧
    (writeback s).dsp = s.dsp ∧ (writeback s).phase = s.phase ∧ (writeback s).gx2 = s.gx2 ∧ (writeback s).le = s.le ∧
    (writeback s).saf = s.saf ∧ (writeback s).red = s.red ∧ (writeback s).rack = s.rack ∧ (writeback s).seq = s.seq ∧
    (writeback s).tsu = s.tsu ∧ (writeback s).hpr = s.hpr ∧ (writeback s).net = s.net ∧ (writeback s).app = s.app ∧
    (writeback s).flt = s.flt ∧ (writeback s).mem = s.mem ∧ (writeback s).canRam = s.canRam := by
  unfold writeback; (repeat' split) <;> simp

@[simp] theorem disconnectAll_keeps (s : State) (cause : Nat) :
    (disconnectAll s cause).pending = s.pending ∧ (disconnectAll s cause).variant = s.variant ∧
    (disconnectAll s cause).clk = s.clk ∧ (disconnectAll s cause).unit = s.unit ∧
    (disconnectAll s cause).hvi = s.hvi ∧ (disconnectAll s cause).hviStr = s.hviStr ∧
    (disconnectAll s cause).rings = s.rings ∧ (disconnectAll s cause).cee = s.cee ∧
    (disconnectAll s cause).tpe = s.tpe ∧ (disconnectAll s cause).th = s.th ∧ (disconnectAll s cause).bal = s.bal ∧
    (disconnectAll s cause).dsp = s.dsp ∧ (disconnectAll s cause).gx2 = s.gx2 ∧ (disconnectAll s cause).le = s.le ∧
    (disconnectAll s cause).red = s.red ∧ (disconnectAll s cause).rack = s.rack ∧
    (disconnectAll s cause).seq = s.seq ∧ (disconnectAll s cause).tsu = s.tsu ∧ (disconnectAll s cause).net = s.net ∧
    (disconnectAll s cause).app = s.app ∧ (disconnectAll s cause).flt = s.flt ∧ (disconnectAll s cause).upd = s.upd ∧
    (disconnectAll s cause).canRam = s.canRam ∧ (disconnectAll s cause).free = s.free := by
  unfold disconnectAll; simp (disch := intros; split <;> simp)

@[simp] theorem goOff_keeps (s : State) (cause : Nat) (keep : Bool) :
    (goOff s cause keep).pending = s.pending ∧ (goOff s cause keep).variant = s.variant ∧
    (goOff s cause keep).clk = s.clk ∧ (goOff s cause keep).hviStr = s.hviStr ∧
    (goOff s cause keep).rings = s.rings ∧ (goOff s cause keep).cee = s.cee ∧ (goOff s cause keep).tpe = s.tpe ∧
    (goOff s cause keep).th = s.th ∧ (goOff s cause keep).bal = s.bal ∧ (goOff s cause keep).dsp = s.dsp ∧
    (goOff s cause keep).gx2 = s.gx2 ∧ (goOff s cause keep).le = s.le ∧ (goOff s cause keep).tsu = s.tsu ∧
    (goOff s cause keep).net = s.net ∧ (goOff s cause keep).flt = s.flt ∧ (goOff s cause keep).upd = s.upd ∧
    (goOff s cause keep).canRam = s.canRam ∧ (goOff s cause keep).free = s.free := by
  unfold goOff; (repeat' split) <;> simp

end Sys2Proof.Machine
end

