-- ==== Sys2Proof/Laws/PeatLog.lean ====
section
/-! SUPPORT. What the operations of PeatLog leave alone. -/

namespace Sys2Proof.Machine

@[simp] theorem clearLog_keeps (s : State) (port : Nat) :
    (clearLog s port).pending = s.pending ∧ (clearLog s port).variant = s.variant ∧ (clearLog s port).clk = s.clk ∧
    (clearLog s port).unit = s.unit ∧ (clearLog s port).str = s.str ∧ (clearLog s port).pwr = s.pwr ∧
    (clearLog s port).hvi = s.hvi ∧ (clearLog s port).hviStr = s.hviStr ∧ (clearLog s port).rings = s.rings ∧
    (clearLog s port).cee = s.cee ∧ (clearLog s port).tpe = s.tpe ∧ (clearLog s port).th = s.th ∧
    (clearLog s port).bal = s.bal ∧ (clearLog s port).dsp = s.dsp ∧ (clearLog s port).conv = s.conv ∧
    (clearLog s port).phase = s.phase ∧ (clearLog s port).gx2 = s.gx2 ∧ (clearLog s port).le = s.le ∧
    (clearLog s port).saf = s.saf ∧ (clearLog s port).red = s.red ∧ (clearLog s port).rack = s.rack ∧
    (clearLog s port).seq = s.seq ∧ (clearLog s port).tsu = s.tsu ∧ (clearLog s port).hpr = s.hpr ∧
    (clearLog s port).net = s.net ∧ (clearLog s port).app = s.app ∧ (clearLog s port).icu = s.icu ∧
    (clearLog s port).flt = s.flt ∧ (clearLog s port).upd = s.upd ∧ (clearLog s port).mem = s.mem ∧
    (clearLog s port).canRam = s.canRam ∧ (clearLog s port).free = s.free := by
  unfold clearLog; (repeat' split) <;> simp

end Sys2Proof.Machine
end

