-- ==== Sys2Proof/Laws/Seq.lean ====
section
/-! SUPPORT. What the operations of Seq leave alone. -/

namespace Sys2Proof.Machine

@[simp] theorem beginState_keeps (s : State) (n : Nat) :
    (beginState s n).pending = s.pending ∧ (beginState s n).variant = s.variant ∧ (beginState s n).clk = s.clk ∧
    (beginState s n).unit = s.unit ∧ (beginState s n).str = s.str ∧ (beginState s n).pwr = s.pwr ∧
    (beginState s n).hvi = s.hvi ∧ (beginState s n).hviStr = s.hviStr ∧ (beginState s n).rings = s.rings ∧
    (beginState s n).cee = s.cee ∧ (beginState s n).tpe = s.tpe ∧ (beginState s n).th = s.th ∧
    (beginState s n).bal = s.bal ∧ (beginState s n).dsp = s.dsp ∧ (beginState s n).conv = s.conv ∧
    (beginState s n).phase = s.phase ∧ (beginState s n).gx2 = s.gx2 ∧ (beginState s n).le = s.le ∧
    (beginState s n).saf = s.saf ∧ (beginState s n).red = s.red ∧ (beginState s n).rack = s.rack ∧
    (beginState s n).tsu = s.tsu ∧ (beginState s n).hpr = s.hpr ∧ (beginState s n).net = s.net ∧
    (beginState s n).app = s.app ∧ (beginState s n).icu = s.icu ∧ (beginState s n).flt = s.flt ∧
    (beginState s n).plg = s.plg ∧ (beginState s n).upd = s.upd ∧ (beginState s n).mem = s.mem ∧
    (beginState s n).canRam = s.canRam ∧ (beginState s n).free = s.free := by
  unfold beginState; (repeat' split) <;> simp

@[simp] theorem settle_keeps (n : Nat) (s : State) :
    (settle n s).pending = s.pending ∧ (settle n s).variant = s.variant ∧ (settle n s).clk = s.clk ∧
    (settle n s).hviStr = s.hviStr ∧ (settle n s).rings = s.rings ∧ (settle n s).cee = s.cee ∧
    (settle n s).tpe = s.tpe ∧ (settle n s).th = s.th ∧ (settle n s).bal = s.bal ∧ (settle n s).dsp = s.dsp ∧
    (settle n s).gx2 = s.gx2 ∧ (settle n s).le = s.le ∧ (settle n s).tsu = s.tsu ∧ (settle n s).net = s.net ∧
    (settle n s).flt = s.flt ∧ (settle n s).upd = s.upd ∧ (settle n s).canRam = s.canRam ∧
    (settle n s).free = s.free := by
  induction n generalizing s with
  | zero => simp [settle]
  | succ n ih => unfold settle; dsimp only; (repeat' split) <;> simp [ih]

@[simp] theorem settled_keeps (s : State) :
    (settled s).pending = s.pending ∧ (settled s).variant = s.variant ∧ (settled s).clk = s.clk ∧
    (settled s).hviStr = s.hviStr ∧ (settled s).rings = s.rings ∧ (settled s).cee = s.cee ∧ (settled s).tpe = s.tpe ∧
    (settled s).th = s.th ∧ (settled s).bal = s.bal ∧ (settled s).dsp = s.dsp ∧ (settled s).gx2 = s.gx2 ∧
    (settled s).le = s.le ∧ (settled s).tsu = s.tsu ∧ (settled s).net = s.net ∧ (settled s).flt = s.flt ∧
    (settled s).upd = s.upd ∧ (settled s).canRam = s.canRam ∧ (settled s).free = s.free := by
  simp [settled]

@[simp] theorem beginPowerup_keeps (s : State) (system : Bool) :
    (beginPowerup s system).pending = s.pending ∧ (beginPowerup s system).variant = s.variant ∧
    (beginPowerup s system).clk = s.clk ∧ (beginPowerup s system).str = s.str ∧
    (beginPowerup s system).hviStr = s.hviStr ∧ (beginPowerup s system).rings = s.rings ∧
    (beginPowerup s system).cee = s.cee ∧ (beginPowerup s system).tpe = s.tpe ∧ (beginPowerup s system).th = s.th ∧
    (beginPowerup s system).bal = s.bal ∧ (beginPowerup s system).dsp = s.dsp ∧
    (beginPowerup s system).conv = s.conv ∧ (beginPowerup s system).phase = s.phase ∧
    (beginPowerup s system).gx2 = s.gx2 ∧ (beginPowerup s system).le = s.le ∧ (beginPowerup s system).saf = s.saf ∧
    (beginPowerup s system).red = s.red ∧ (beginPowerup s system).rack = s.rack ∧
    (beginPowerup s system).tsu = s.tsu ∧ (beginPowerup s system).net = s.net ∧ (beginPowerup s system).flt = s.flt ∧
    (beginPowerup s system).upd = s.upd ∧ (beginPowerup s system).mem = s.mem ∧
    (beginPowerup s system).canRam = s.canRam ∧ (beginPowerup s system).free = s.free := by
  unfold beginPowerup; (repeat' split) <;> simp

@[simp] theorem serveOn_keeps (s : State) (src : OnSource) :
    (serveOn s src).pending = s.pending ∧ (serveOn s src).variant = s.variant ∧ (serveOn s src).clk = s.clk ∧
    (serveOn s src).str = s.str ∧ (serveOn s src).hviStr = s.hviStr ∧ (serveOn s src).rings = s.rings ∧
    (serveOn s src).cee = s.cee ∧ (serveOn s src).tpe = s.tpe ∧ (serveOn s src).th = s.th ∧
    (serveOn s src).bal = s.bal ∧ (serveOn s src).dsp = s.dsp ∧ (serveOn s src).conv = s.conv ∧
    (serveOn s src).phase = s.phase ∧ (serveOn s src).gx2 = s.gx2 ∧ (serveOn s src).le = s.le ∧
    (serveOn s src).saf = s.saf ∧ (serveOn s src).red = s.red ∧ (serveOn s src).rack = s.rack ∧
    (serveOn s src).tsu = s.tsu ∧ (serveOn s src).net = s.net ∧ (serveOn s src).flt = s.flt ∧
    (serveOn s src).upd = s.upd ∧ (serveOn s src).mem = s.mem ∧ (serveOn s src).canRam = s.canRam ∧
    (serveOn s src).free = s.free := by
  unfold serveOn; (repeat' split) <;> simp

@[simp] theorem onRequest_keeps (s : State) (src : OnSource) :
    (onRequest s src).pending = s.pending ∧ (onRequest s src).variant = s.variant ∧ (onRequest s src).clk = s.clk ∧
    (onRequest s src).str = s.str ∧ (onRequest s src).hviStr = s.hviStr ∧ (onRequest s src).rings = s.rings ∧
    (onRequest s src).cee = s.cee ∧ (onRequest s src).tpe = s.tpe ∧ (onRequest s src).th = s.th ∧
    (onRequest s src).bal = s.bal ∧ (onRequest s src).dsp = s.dsp ∧ (onRequest s src).conv = s.conv ∧
    (onRequest s src).phase = s.phase ∧ (onRequest s src).gx2 = s.gx2 ∧ (onRequest s src).le = s.le ∧
    (onRequest s src).saf = s.saf ∧ (onRequest s src).red = s.red ∧ (onRequest s src).rack = s.rack ∧
    (onRequest s src).tsu = s.tsu ∧ (onRequest s src).net = s.net ∧ (onRequest s src).flt = s.flt ∧
    (onRequest s src).upd = s.upd ∧ (onRequest s src).mem = s.mem ∧ (onRequest s src).canRam = s.canRam ∧
    (onRequest s src).free = s.free := by
  unfold onRequest; dsimp only; (repeat' split) <;> simp

@[simp] theorem powerUpFailure_keeps (s : State) :
    (powerUpFailure s).pending = s.pending ∧ (powerUpFailure s).variant = s.variant ∧
    (powerUpFailure s).clk = s.clk ∧ (powerUpFailure s).hviStr = s.hviStr ∧ (powerUpFailure s).rings = s.rings ∧
    (powerUpFailure s).cee = s.cee ∧ (powerUpFailure s).tpe = s.tpe ∧ (powerUpFailure s).th = s.th ∧
    (powerUpFailure s).bal = s.bal ∧ (powerUpFailure s).dsp = s.dsp ∧ (powerUpFailure s).gx2 = s.gx2 ∧
    (powerUpFailure s).le = s.le ∧ (powerUpFailure s).tsu = s.tsu ∧ (powerUpFailure s).net = s.net ∧
    (powerUpFailure s).flt = s.flt ∧ (powerUpFailure s).upd = s.upd ∧ (powerUpFailure s).canRam = s.canRam ∧
    (powerUpFailure s).free = s.free := by
  unfold powerUpFailure; (repeat' split) <;> simp

@[simp] theorem railOn_keeps (s : State) (e : Bytes) :
    (railOn s e).pending = s.pending ∧ (railOn s e).variant = s.variant ∧ (railOn s e).clk = s.clk ∧
    (railOn s e).unit = s.unit ∧ (railOn s e).str = s.str ∧ (railOn s e).pwr = s.pwr ∧ (railOn s e).hvi = s.hvi ∧
    (railOn s e).hviStr = s.hviStr ∧ (railOn s e).rings = s.rings ∧ (railOn s e).cee = s.cee ∧
    (railOn s e).tpe = s.tpe ∧ (railOn s e).th = s.th ∧ (railOn s e).bal = s.bal ∧ (railOn s e).dsp = s.dsp ∧
    (railOn s e).conv = s.conv ∧ (railOn s e).phase = s.phase ∧ (railOn s e).gx2 = s.gx2 ∧ (railOn s e).le = s.le ∧
    (railOn s e).saf = s.saf ∧ (railOn s e).red = s.red ∧ (railOn s e).tsu = s.tsu ∧ (railOn s e).hpr = s.hpr ∧
    (railOn s e).net = s.net ∧ (railOn s e).app = s.app ∧ (railOn s e).icu = s.icu ∧ (railOn s e).flt = s.flt ∧
    (railOn s e).plg = s.plg ∧ (railOn s e).upd = s.upd ∧ (railOn s e).mem = s.mem ∧ (railOn s e).canRam = s.canRam ∧
    (railOn s e).free = s.free := by
  unfold railOn; (repeat' split) <;> simp

@[simp] theorem railOff_keeps (s : State) (e : Bytes) :
    (railOff s e).pending = s.pending ∧ (railOff s e).variant = s.variant ∧ (railOff s e).clk = s.clk ∧
    (railOff s e).unit = s.unit ∧ (railOff s e).str = s.str ∧ (railOff s e).pwr = s.pwr ∧ (railOff s e).hvi = s.hvi ∧
    (railOff s e).hviStr = s.hviStr ∧ (railOff s e).rings = s.rings ∧ (railOff s e).cee = s.cee ∧
    (railOff s e).tpe = s.tpe ∧ (railOff s e).th = s.th ∧ (railOff s e).bal = s.bal ∧ (railOff s e).dsp = s.dsp ∧
    (railOff s e).conv = s.conv ∧ (railOff s e).phase = s.phase ∧ (railOff s e).gx2 = s.gx2 ∧
    (railOff s e).le = s.le ∧ (railOff s e).saf = s.saf ∧ (railOff s e).red = s.red ∧ (railOff s e).tsu = s.tsu ∧
    (railOff s e).hpr = s.hpr ∧ (railOff s e).net = s.net ∧ (railOff s e).app = s.app ∧ (railOff s e).icu = s.icu ∧
    (railOff s e).flt = s.flt ∧ (railOff s e).plg = s.plg ∧ (railOff s e).upd = s.upd ∧ (railOff s e).mem = s.mem ∧
    (railOff s e).canRam = s.canRam ∧ (railOff s e).free = s.free := by
  unfold railOff; (repeat' split) <;> simp

@[simp] theorem releaseUnready_keeps (s : State) :
    (releaseUnready s).pending = s.pending ∧ (releaseUnready s).variant = s.variant ∧
    (releaseUnready s).clk = s.clk ∧ (releaseUnready s).unit = s.unit ∧ (releaseUnready s).str = s.str ∧
    (releaseUnready s).pwr = s.pwr ∧ (releaseUnready s).hvi = s.hvi ∧ (releaseUnready s).hviStr = s.hviStr ∧
    (releaseUnready s).rings = s.rings ∧ (releaseUnready s).cee = s.cee ∧ (releaseUnready s).tpe = s.tpe ∧
    (releaseUnready s).th = s.th ∧ (releaseUnready s).bal = s.bal ∧ (releaseUnready s).dsp = s.dsp ∧
    (releaseUnready s).conv = s.conv ∧ (releaseUnready s).phase = s.phase ∧ (releaseUnready s).gx2 = s.gx2 ∧
    (releaseUnready s).le = s.le ∧ (releaseUnready s).saf = s.saf ∧ (releaseUnready s).red = s.red ∧
    (releaseUnready s).tsu = s.tsu ∧ (releaseUnready s).hpr = s.hpr ∧ (releaseUnready s).net = s.net ∧
    (releaseUnready s).app = s.app ∧ (releaseUnready s).icu = s.icu ∧ (releaseUnready s).flt = s.flt ∧
    (releaseUnready s).plg = s.plg ∧ (releaseUnready s).upd = s.upd ∧ (releaseUnready s).mem = s.mem ∧
    (releaseUnready s).canRam = s.canRam ∧ (releaseUnready s).free = s.free := by
  unfold releaseUnready; (repeat' split) <;> simp

@[simp] theorem preOffDone_keeps (s : State) :
    (preOffDone s).pending = s.pending ∧ (preOffDone s).variant = s.variant ∧ (preOffDone s).clk = s.clk ∧
    (preOffDone s).hviStr = s.hviStr ∧ (preOffDone s).rings = s.rings ∧ (preOffDone s).cee = s.cee ∧
    (preOffDone s).tpe = s.tpe ∧ (preOffDone s).th = s.th ∧ (preOffDone s).bal = s.bal ∧ (preOffDone s).dsp = s.dsp ∧
    (preOffDone s).gx2 = s.gx2 ∧ (preOffDone s).le = s.le ∧ (preOffDone s).tsu = s.tsu ∧ (preOffDone s).net = s.net ∧
    (preOffDone s).flt = s.flt ∧ (preOffDone s).upd = s.upd ∧ (preOffDone s).canRam = s.canRam ∧
    (preOffDone s).free = s.free := by
  unfold preOffDone; (repeat' split) <;> simp

@[simp] theorem startDescent_keeps (s : State) (n : Nat) (system : Bool) :
    (startDescent s n system).pending = s.pending ∧ (startDescent s n system).variant = s.variant ∧
    (startDescent s n system).clk = s.clk ∧ (startDescent s n system).hviStr = s.hviStr ∧
    (startDescent s n system).rings = s.rings ∧ (startDescent s n system).cee = s.cee ∧
    (startDescent s n system).tpe = s.tpe ∧ (startDescent s n system).th = s.th ∧
    (startDescent s n system).bal = s.bal ∧ (startDescent s n system).dsp = s.dsp ∧
    (startDescent s n system).gx2 = s.gx2 ∧ (startDescent s n system).le = s.le ∧
    (startDescent s n system).tsu = s.tsu ∧ (startDescent s n system).net = s.net ∧
    (startDescent s n system).flt = s.flt ∧ (startDescent s n system).upd = s.upd ∧
    (startDescent s n system).canRam = s.canRam ∧ (startDescent s n system).free = s.free := by
  unfold startDescent; (repeat' split) <;> simp

@[simp] theorem offRequest_keeps (s : State) (system : Bool) :
    (offRequest s system).pending = s.pending ∧ (offRequest s system).variant = s.variant ∧
    (offRequest s system).clk = s.clk ∧ (offRequest s system).hviStr = s.hviStr ∧
    (offRequest s system).rings = s.rings ∧ (offRequest s system).cee = s.cee ∧ (offRequest s system).tpe = s.tpe ∧
    (offRequest s system).th = s.th ∧ (offRequest s system).bal = s.bal ∧ (offRequest s system).dsp = s.dsp ∧
    (offRequest s system).gx2 = s.gx2 ∧ (offRequest s system).le = s.le ∧ (offRequest s system).tsu = s.tsu ∧
    (offRequest s system).net = s.net ∧ (offRequest s system).flt = s.flt ∧ (offRequest s system).upd = s.upd ∧
    (offRequest s system).canRam = s.canRam ∧ (offRequest s system).free = s.free := by
  unfold offRequest; (repeat' split) <;> simp

@[simp] theorem railFault_keeps (s : State) (code cause : Nat) (rail : Option Nat) :
    (railFault s code cause rail).pending = s.pending ∧ (railFault s code cause rail).variant = s.variant ∧
    (railFault s code cause rail).clk = s.clk ∧ (railFault s code cause rail).hviStr = s.hviStr ∧
    (railFault s code cause rail).rings = s.rings ∧ (railFault s code cause rail).cee = s.cee ∧
    (railFault s code cause rail).tpe = s.tpe ∧ (railFault s code cause rail).th = s.th ∧
    (railFault s code cause rail).bal = s.bal ∧ (railFault s code cause rail).dsp = s.dsp ∧
    (railFault s code cause rail).gx2 = s.gx2 ∧ (railFault s code cause rail).le = s.le ∧
    (railFault s code cause rail).tsu = s.tsu ∧ (railFault s code cause rail).net = s.net ∧
    (railFault s code cause rail).flt = s.flt ∧ (railFault s code cause rail).upd = s.upd ∧
    (railFault s code cause rail).canRam = s.canRam ∧ (railFault s code cause rail).free = s.free := by
  unfold railFault; (repeat' split) <;> simp

end Sys2Proof.Machine
end

