-- ==== Sys2Proof/Laws/Sys.lean ====
section
/-! SUPPORT. What the operations of Sys leave alone. -/

namespace Sys2Proof.Machine

@[simp] theorem updateEnergy_keeps (s : State) (vbak : Nat) :
    (updateEnergy s vbak).pending = s.pending ∧ (updateEnergy s vbak).variant = s.variant ∧
    (updateEnergy s vbak).clk = s.clk ∧ (updateEnergy s vbak).unit = s.unit ∧ (updateEnergy s vbak).str = s.str ∧
    (updateEnergy s vbak).hvi = s.hvi ∧ (updateEnergy s vbak).hviStr = s.hviStr ∧
    (updateEnergy s vbak).rings = s.rings ∧ (updateEnergy s vbak).cee = s.cee ∧ (updateEnergy s vbak).tpe = s.tpe ∧
    (updateEnergy s vbak).th = s.th ∧ (updateEnergy s vbak).bal = s.bal ∧ (updateEnergy s vbak).dsp = s.dsp ∧
    (updateEnergy s vbak).conv = s.conv ∧ (updateEnergy s vbak).phase = s.phase ∧ (updateEnergy s vbak).gx2 = s.gx2 ∧
    (updateEnergy s vbak).le = s.le ∧ (updateEnergy s vbak).saf = s.saf ∧ (updateEnergy s vbak).red = s.red ∧
    (updateEnergy s vbak).rack = s.rack ∧ (updateEnergy s vbak).seq = s.seq ∧ (updateEnergy s vbak).tsu = s.tsu ∧
    (updateEnergy s vbak).hpr = s.hpr ∧ (updateEnergy s vbak).net = s.net ∧ (updateEnergy s vbak).app = s.app ∧
    (updateEnergy s vbak).flt = s.flt ∧ (updateEnergy s vbak).upd = s.upd ∧ (updateEnergy s vbak).mem = s.mem ∧
    (updateEnergy s vbak).canRam = s.canRam ∧ (updateEnergy s vbak).free = s.free := by
  unfold updateEnergy; (repeat' split) <;> simp

@[simp] theorem setPolicy_keeps (s : State) (p : Bytes) :
    (setPolicy s p).pending = s.pending ∧ (setPolicy s p).variant = s.variant ∧ (setPolicy s p).clk = s.clk ∧
    (setPolicy s p).unit = s.unit ∧ (setPolicy s p).str = s.str ∧ (setPolicy s p).hvi = s.hvi ∧
    (setPolicy s p).hviStr = s.hviStr ∧ (setPolicy s p).rings = s.rings ∧ (setPolicy s p).cee = s.cee ∧
    (setPolicy s p).tpe = s.tpe ∧ (setPolicy s p).th = s.th ∧ (setPolicy s p).bal = s.bal ∧
    (setPolicy s p).dsp = s.dsp ∧ (setPolicy s p).conv = s.conv ∧ (setPolicy s p).phase = s.phase ∧
    (setPolicy s p).gx2 = s.gx2 ∧ (setPolicy s p).le = s.le ∧ (setPolicy s p).saf = s.saf ∧
    (setPolicy s p).red = s.red ∧ (setPolicy s p).rack = s.rack ∧ (setPolicy s p).seq = s.seq ∧
    (setPolicy s p).tsu = s.tsu ∧ (setPolicy s p).net = s.net ∧ (setPolicy s p).app = s.app ∧
    (setPolicy s p).flt = s.flt ∧ (setPolicy s p).upd = s.upd ∧ (setPolicy s p).mem = s.mem ∧
    (setPolicy s p).canRam = s.canRam ∧ (setPolicy s p).free = s.free := by
  unfold setPolicy; (repeat' split) <;> simp

end Sys2Proof.Machine
end

