-- ==== Sys2Proof/Laws/Power.lean ====
section
/-! SUPPORT. What the operations of Power leave alone. -/

namespace Sys2Proof.Machine

@[simp] theorem enterHoldup_keeps (s : State) :
    (enterHoldup s).pending = s.pending ∧ (enterHoldup s).variant = s.variant ∧ (enterHoldup s).clk = s.clk ∧
    (enterHoldup s).unit = s.unit ∧ (enterHoldup s).str = s.str ∧ (enterHoldup s).hvi = s.hvi ∧
    (enterHoldup s).hviStr = s.hviStr ∧ (enterHoldup s).cee = s.cee ∧ (enterHoldup s).tpe = s.tpe ∧
    (enterHoldup s).th = s.th ∧ (enterHoldup s).dsp = s.dsp ∧ (enterHoldup s).conv = s.conv ∧
    (enterHoldup s).phase = s.phase ∧ (enterHoldup s).gx2 = s.gx2 ∧ (enterHoldup s).le = s.le ∧
    (enterHoldup s).saf = s.saf ∧ (enterHoldup s).red = s.red ∧ (enterHoldup s).rack = s.rack ∧
    (enterHoldup s).seq = s.seq ∧ (enterHoldup s).tsu = s.tsu ∧ (enterHoldup s).net = s.net ∧
    (enterHoldup s).app = s.app ∧ (enterHoldup s).flt = s.flt ∧ (enterHoldup s).upd = s.upd ∧
    (enterHoldup s).mem = s.mem ∧ (enterHoldup s).canRam = s.canRam ∧ (enterHoldup s).free = s.free := by
  unfold enterHoldup; (repeat' split) <;> simp

@[simp] theorem abandonRamps_keeps (s : State) :
    (abandonRamps s).pending = s.pending ∧ (abandonRamps s).variant = s.variant ∧ (abandonRamps s).clk = s.clk ∧
    (abandonRamps s).unit = s.unit ∧ (abandonRamps s).str = s.str ∧ (abandonRamps s).hvi = s.hvi ∧
    (abandonRamps s).hviStr = s.hviStr ∧ (abandonRamps s).rings = s.rings ∧ (abandonRamps s).cee = s.cee ∧
    (abandonRamps s).tpe = s.tpe ∧ (abandonRamps s).th = s.th ∧ (abandonRamps s).bal = s.bal ∧
    (abandonRamps s).dsp = s.dsp ∧ (abandonRamps s).phase = s.phase ∧ (abandonRamps s).gx2 = s.gx2 ∧
    (abandonRamps s).le = s.le ∧ (abandonRamps s).saf = s.saf ∧ (abandonRamps s).red = s.red ∧
    (abandonRamps s).rack = s.rack ∧ (abandonRamps s).seq = s.seq ∧ (abandonRamps s).tsu = s.tsu ∧
    (abandonRamps s).hpr = s.hpr ∧ (abandonRamps s).net = s.net ∧ (abandonRamps s).app = s.app ∧
    (abandonRamps s).icu = s.icu ∧ (abandonRamps s).flt = s.flt ∧ (abandonRamps s).plg = s.plg ∧
    (abandonRamps s).upd = s.upd ∧ (abandonRamps s).mem = s.mem ∧ (abandonRamps s).canRam = s.canRam ∧
    (abandonRamps s).free = s.free := by
  unfold abandonRamps; (repeat' split) <;> simp

@[simp] theorem wakeTsu_keeps (s : State) :
    (wakeTsu s).pending = s.pending ∧ (wakeTsu s).variant = s.variant ∧ (wakeTsu s).clk = s.clk ∧
    (wakeTsu s).unit = s.unit ∧ (wakeTsu s).str = s.str ∧ (wakeTsu s).pwr = s.pwr ∧ (wakeTsu s).hvi = s.hvi ∧
    (wakeTsu s).hviStr = s.hviStr ∧ (wakeTsu s).rings = s.rings ∧ (wakeTsu s).cee = s.cee ∧ (wakeTsu s).tpe = s.tpe ∧
    (wakeTsu s).th = s.th ∧ (wakeTsu s).bal = s.bal ∧ (wakeTsu s).dsp = s.dsp ∧ (wakeTsu s).conv = s.conv ∧
    (wakeTsu s).phase = s.phase ∧ (wakeTsu s).gx2 = s.gx2 ∧ (wakeTsu s).le = s.le ∧ (wakeTsu s).saf = s.saf ∧
    (wakeTsu s).red = s.red ∧ (wakeTsu s).rack = s.rack ∧ (wakeTsu s).seq = s.seq ∧ (wakeTsu s).hpr = s.hpr ∧
    (wakeTsu s).net = s.net ∧ (wakeTsu s).app = s.app ∧ (wakeTsu s).icu = s.icu ∧ (wakeTsu s).flt = s.flt ∧
    (wakeTsu s).plg = s.plg ∧ (wakeTsu s).upd = s.upd ∧ (wakeTsu s).mem = s.mem ∧ (wakeTsu s).canRam = s.canRam ∧
    (wakeTsu s).free = s.free := by
  unfold wakeTsu; (repeat' split) <;> simp

@[simp] theorem leaveDormant_keeps (s : State) :
    (leaveDormant s).pending = s.pending ∧ (leaveDormant s).variant = s.variant ∧ (leaveDormant s).clk = s.clk ∧
    (leaveDormant s).unit = s.unit ∧ (leaveDormant s).str = s.str ∧ (leaveDormant s).hvi = s.hvi ∧
    (leaveDormant s).hviStr = s.hviStr ∧ (leaveDormant s).rings = s.rings ∧ (leaveDormant s).cee = s.cee ∧
    (leaveDormant s).tpe = s.tpe ∧ (leaveDormant s).th = s.th ∧ (leaveDormant s).bal = s.bal ∧
    (leaveDormant s).dsp = s.dsp ∧ (leaveDormant s).conv = s.conv ∧ (leaveDormant s).phase = s.phase ∧
    (leaveDormant s).gx2 = s.gx2 ∧ (leaveDormant s).le = s.le ∧ (leaveDormant s).saf = s.saf ∧
    (leaveDormant s).rack = s.rack ∧ (leaveDormant s).seq = s.seq ∧ (leaveDormant s).net = s.net ∧
    (leaveDormant s).app = s.app ∧ (leaveDormant s).flt = s.flt ∧ (leaveDormant s).upd = s.upd ∧
    (leaveDormant s).mem = s.mem ∧ (leaveDormant s).canRam = s.canRam ∧ (leaveDormant s).free = s.free := by
  unfold leaveDormant; (repeat' split) <;> simp

@[simp] theorem resumeActive_keeps (s : State) :
    (resumeActive s).pending = s.pending ∧ (resumeActive s).variant = s.variant ∧ (resumeActive s).clk = s.clk ∧
    (resumeActive s).unit = s.unit ∧ (resumeActive s).str = s.str ∧ (resumeActive s).hvi = s.hvi ∧
    (resumeActive s).hviStr = s.hviStr ∧ (resumeActive s).rings = s.rings ∧ (resumeActive s).cee = s.cee ∧
    (resumeActive s).tpe = s.tpe ∧ (resumeActive s).th = s.th ∧ (resumeActive s).bal = s.bal ∧
    (resumeActive s).dsp = s.dsp ∧ (resumeActive s).conv = s.conv ∧ (resumeActive s).phase = s.phase ∧
    (resumeActive s).gx2 = s.gx2 ∧ (resumeActive s).le = s.le ∧ (resumeActive s).saf = s.saf ∧
    (resumeActive s).rack = s.rack ∧ (resumeActive s).seq = s.seq ∧ (resumeActive s).net = s.net ∧
    (resumeActive s).app = s.app ∧ (resumeActive s).flt = s.flt ∧ (resumeActive s).upd = s.upd ∧
    (resumeActive s).mem = s.mem ∧ (resumeActive s).canRam = s.canRam ∧ (resumeActive s).free = s.free := by
  unfold resumeActive; (repeat' split) <;> simp

@[simp] theorem retryWrite_keeps (s : State) (k : Nat) :
    (retryWrite s k).pending = s.pending ∧ (retryWrite s k).variant = s.variant ∧ (retryWrite s k).clk = s.clk ∧
    (retryWrite s k).unit = s.unit ∧ (retryWrite s k).str = s.str ∧ (retryWrite s k).hviStr = s.hviStr ∧
    (retryWrite s k).rings = s.rings ∧ (retryWrite s k).tpe = s.tpe ∧ (retryWrite s k).th = s.th ∧
    (retryWrite s k).bal = s.bal ∧ (retryWrite s k).dsp = s.dsp ∧ (retryWrite s k).phase = s.phase ∧
    (retryWrite s k).gx2 = s.gx2 ∧ (retryWrite s k).le = s.le ∧ (retryWrite s k).rack = s.rack ∧
    (retryWrite s k).seq = s.seq ∧ (retryWrite s k).tsu = s.tsu ∧ (retryWrite s k).hpr = s.hpr ∧
    (retryWrite s k).net = s.net ∧ (retryWrite s k).app = s.app ∧ (retryWrite s k).icu = s.icu ∧
    (retryWrite s k).flt = s.flt ∧ (retryWrite s k).plg = s.plg ∧ (retryWrite s k).upd = s.upd ∧
    (retryWrite s k).mem = s.mem ∧ (retryWrite s k).canRam = s.canRam := by
  unfold retryWrite; dsimp only; (repeat' split) <;> simp

@[simp] theorem wakeUp_keeps (s : State) (w : WakeCause) :
    (wakeUp s w).pending = s.pending ∧ (wakeUp s w).variant = s.variant ∧ (wakeUp s w).clk = s.clk ∧
    (wakeUp s w).unit = s.unit ∧ (wakeUp s w).str = s.str ∧ (wakeUp s w).hvi = s.hvi ∧
    (wakeUp s w).hviStr = s.hviStr ∧ (wakeUp s w).rings = s.rings ∧ (wakeUp s w).cee = s.cee ∧
    (wakeUp s w).tpe = s.tpe ∧ (wakeUp s w).th = s.th ∧ (wakeUp s w).bal = s.bal ∧ (wakeUp s w).dsp = s.dsp ∧
    (wakeUp s w).conv = s.conv ∧ (wakeUp s w).phase = s.phase ∧ (wakeUp s w).gx2 = s.gx2 ∧ (wakeUp s w).le = s.le ∧
    (wakeUp s w).saf = s.saf ∧ (wakeUp s w).rack = s.rack ∧ (wakeUp s w).seq = s.seq ∧ (wakeUp s w).net = s.net ∧
    (wakeUp s w).app = s.app ∧ (wakeUp s w).flt = s.flt ∧ (wakeUp s w).upd = s.upd ∧ (wakeUp s w).mem = s.mem ∧
    (wakeUp s w).canRam = s.canRam ∧ (wakeUp s w).free = s.free := by
  unfold wakeUp; (repeat' split) <;> simp

@[simp] theorem loopStops_keeps (s : State) :
    (loopStops s).pending = s.pending ∧ (loopStops s).variant = s.variant ∧ (loopStops s).clk = s.clk ∧
    (loopStops s).unit = s.unit ∧ (loopStops s).pwr = s.pwr ∧ (loopStops s).hvi = s.hvi ∧
    (loopStops s).hviStr = s.hviStr ∧ (loopStops s).rings = s.rings ∧ (loopStops s).cee = s.cee ∧
    (loopStops s).th = s.th ∧ (loopStops s).bal = s.bal ∧ (loopStops s).dsp = s.dsp ∧ (loopStops s).gx2 = s.gx2 ∧
    (loopStops s).le = s.le ∧ (loopStops s).rack = s.rack ∧ (loopStops s).seq = s.seq ∧ (loopStops s).tsu = s.tsu ∧
    (loopStops s).net = s.net ∧ (loopStops s).app = s.app ∧ (loopStops s).flt = s.flt ∧ (loopStops s).upd = s.upd ∧
    (loopStops s).canRam = s.canRam ∧ (loopStops s).free = s.free := by
  unfold loopStops; (repeat' split) <;> simp

@[simp] theorem supStart_keeps (s : State) (cause : Nat) :
    (supStart s cause).pending = s.pending ∧ (supStart s cause).variant = s.variant ∧
    (supStart s cause).clk = s.clk ∧ (supStart s cause).unit = s.unit ∧ (supStart s cause).str = s.str ∧
    (supStart s cause).hvi = s.hvi ∧ (supStart s cause).hviStr = s.hviStr ∧ (supStart s cause).rings = s.rings ∧
    (supStart s cause).cee = s.cee ∧ (supStart s cause).tpe = s.tpe ∧ (supStart s cause).th = s.th ∧
    (supStart s cause).bal = s.bal ∧ (supStart s cause).dsp = s.dsp ∧ (supStart s cause).conv = s.conv ∧
    (supStart s cause).phase = s.phase ∧ (supStart s cause).gx2 = s.gx2 ∧ (supStart s cause).le = s.le ∧
    (supStart s cause).saf = s.saf ∧ (supStart s cause).red = s.red ∧ (supStart s cause).rack = s.rack ∧
    (supStart s cause).seq = s.seq ∧ (supStart s cause).tsu = s.tsu ∧ (supStart s cause).net = s.net ∧
    (supStart s cause).app = s.app ∧ (supStart s cause).flt = s.flt ∧ (supStart s cause).upd = s.upd ∧
    (supStart s cause).mem = s.mem ∧ (supStart s cause).canRam = s.canRam ∧ (supStart s cause).free = s.free := by
  unfold supStart; (repeat' split) <;> simp

end Sys2Proof.Machine
end

