-- ==== Sys2Proof/Laws/Strings.lean ====
section
/-! SUPPORT. What the operations of Strings leave alone. -/

namespace Sys2Proof.Machine

@[simp] theorem beginTrans_keeps (s : State) (op : Nat) (q : Req) (i : Nat) :
    (beginTrans s op q i).pending = s.pending ∧ (beginTrans s op q i).variant = s.variant ∧
    (beginTrans s op q i).clk = s.clk ∧ (beginTrans s op q i).unit = s.unit ∧ (beginTrans s op q i).pwr = s.pwr ∧
    (beginTrans s op q i).hvi = s.hvi ∧ (beginTrans s op q i).hviStr = s.hviStr ∧
    (beginTrans s op q i).rings = s.rings ∧ (beginTrans s op q i).cee = s.cee ∧ (beginTrans s op q i).tpe = s.tpe ∧
    (beginTrans s op q i).th = s.th ∧ (beginTrans s op q i).bal = s.bal ∧ (beginTrans s op q i).dsp = s.dsp ∧
    (beginTrans s op q i).conv = s.conv ∧ (beginTrans s op q i).phase = s.phase ∧ (beginTrans s op q i).gx2 = s.gx2 ∧
    (beginTrans s op q i).le = s.le ∧ (beginTrans s op q i).saf = s.saf ∧ (beginTrans s op q i).red = s.red ∧
    (beginTrans s op q i).rack = s.rack ∧ (beginTrans s op q i).seq = s.seq ∧ (beginTrans s op q i).tsu = s.tsu ∧
    (beginTrans s op q i).net = s.net ∧ (beginTrans s op q i).app = s.app ∧ (beginTrans s op q i).icu = s.icu ∧
    (beginTrans s op q i).flt = s.flt ∧ (beginTrans s op q i).plg = s.plg ∧ (beginTrans s op q i).upd = s.upd ∧
    (beginTrans s op q i).mem = s.mem ∧ (beginTrans s op q i).canRam = s.canRam ∧
    (beginTrans s op q i).free = s.free := by
  unfold beginTrans; (repeat' split) <;> simp

@[simp] theorem leaveRegulating_keeps (s : State) (i : Nat) (dest : StrState) :
    (leaveRegulating s i dest).pending = s.pending ∧ (leaveRegulating s i dest).variant = s.variant ∧
    (leaveRegulating s i dest).clk = s.clk ∧ (leaveRegulating s i dest).unit = s.unit ∧
    (leaveRegulating s i dest).pwr = s.pwr ∧ (leaveRegulating s i dest).hvi = s.hvi ∧
    (leaveRegulating s i dest).hviStr = s.hviStr ∧ (leaveRegulating s i dest).rings = s.rings ∧
    (leaveRegulating s i dest).cee = s.cee ∧ (leaveRegulating s i dest).th = s.th ∧
    (leaveRegulating s i dest).bal = s.bal ∧ (leaveRegulating s i dest).dsp = s.dsp ∧
    (leaveRegulating s i dest).gx2 = s.gx2 ∧ (leaveRegulating s i dest).le = s.le ∧
    (leaveRegulating s i dest).rack = s.rack ∧ (leaveRegulating s i dest).seq = s.seq ∧
    (leaveRegulating s i dest).tsu = s.tsu ∧ (leaveRegulating s i dest).net = s.net ∧
    (leaveRegulating s i dest).app = s.app ∧ (leaveRegulating s i dest).flt = s.flt ∧
    (leaveRegulating s i dest).upd = s.upd ∧ (leaveRegulating s i dest).canRam = s.canRam ∧
    (leaveRegulating s i dest).free = s.free := by
  unfold leaveRegulating; (repeat' split) <;> simp

@[simp] theorem leDeadline_keeps (s : State) (n : Nat) :
    (leDeadline s n).pending = s.pending ∧ (leDeadline s n).variant = s.variant ∧ (leDeadline s n).clk = s.clk ∧
    (leDeadline s n).unit = s.unit ∧ (leDeadline s n).pwr = s.pwr ∧ (leDeadline s n).hvi = s.hvi ∧
    (leDeadline s n).hviStr = s.hviStr ∧ (leDeadline s n).rings = s.rings ∧ (leDeadline s n).cee = s.cee ∧
    (leDeadline s n).th = s.th ∧ (leDeadline s n).bal = s.bal ∧ (leDeadline s n).dsp = s.dsp ∧
    (leDeadline s n).gx2 = s.gx2 ∧ (leDeadline s n).rack = s.rack ∧ (leDeadline s n).seq = s.seq ∧
    (leDeadline s n).tsu = s.tsu ∧ (leDeadline s n).net = s.net ∧ (leDeadline s n).app = s.app ∧
    (leDeadline s n).upd = s.upd ∧ (leDeadline s n).canRam = s.canRam ∧ (leDeadline s n).free = s.free := by
  unfold leDeadline; (repeat' split) <;> simp

end Sys2Proof.Machine
end

