-- ==== Sys2Proof/Laws/Time.lean ====
section
/-! SUPPORT. What the operations of Time leave alone. -/

namespace Sys2Proof.Machine

@[simp] theorem modTrig_keeps (s : State) (n : Nat) (f : Trigger → Trigger) :
    (modTrig s n f).pending = s.pending ∧ (modTrig s n f).variant = s.variant ∧ (modTrig s n f).clk = s.clk ∧
    (modTrig s n f).unit = s.unit ∧ (modTrig s n f).str = s.str ∧ (modTrig s n f).pwr = s.pwr ∧
    (modTrig s n f).hvi = s.hvi ∧ (modTrig s n f).hviStr = s.hviStr ∧ (modTrig s n f).rings = s.rings ∧
    (modTrig s n f).cee = s.cee ∧ (modTrig s n f).tpe = s.tpe ∧ (modTrig s n f).th = s.th ∧
    (modTrig s n f).bal = s.bal ∧ (modTrig s n f).dsp = s.dsp ∧ (modTrig s n f).conv = s.conv ∧
    (modTrig s n f).phase = s.phase ∧ (modTrig s n f).gx2 = s.gx2 ∧ (modTrig s n f).le = s.le ∧
    (modTrig s n f).saf = s.saf ∧ (modTrig s n f).red = s.red ∧ (modTrig s n f).rack = s.rack ∧
    (modTrig s n f).seq = s.seq ∧ (modTrig s n f).hpr = s.hpr ∧ (modTrig s n f).net = s.net ∧
    (modTrig s n f).app = s.app ∧ (modTrig s n f).icu = s.icu ∧ (modTrig s n f).flt = s.flt ∧
    (modTrig s n f).plg = s.plg ∧ (modTrig s n f).upd = s.upd ∧ (modTrig s n f).mem = s.mem ∧
    (modTrig s n f).canRam = s.canRam ∧ (modTrig s n f).free = s.free := by
  unfold modTrig; (repeat' split) <;> simp

@[simp] theorem modCap_keeps (s : State) (n : Nat) (f : Capture → Capture) :
    (modCap s n f).pending = s.pending ∧ (modCap s n f).variant = s.variant ∧ (modCap s n f).clk = s.clk ∧
    (modCap s n f).unit = s.unit ∧ (modCap s n f).str = s.str ∧ (modCap s n f).pwr = s.pwr ∧
    (modCap s n f).hvi = s.hvi ∧ (modCap s n f).hviStr = s.hviStr ∧ (modCap s n f).rings = s.rings ∧
    (modCap s n f).cee = s.cee ∧ (modCap s n f).tpe = s.tpe ∧ (modCap s n f).th = s.th ∧ (modCap s n f).bal = s.bal ∧
    (modCap s n f).dsp = s.dsp ∧ (modCap s n f).conv = s.conv ∧ (modCap s n f).phase = s.phase ∧
    (modCap s n f).gx2 = s.gx2 ∧ (modCap s n f).le = s.le ∧ (modCap s n f).saf = s.saf ∧ (modCap s n f).red = s.red ∧
    (modCap s n f).rack = s.rack ∧ (modCap s n f).seq = s.seq ∧ (modCap s n f).hpr = s.hpr ∧
    (modCap s n f).net = s.net ∧ (modCap s n f).app = s.app ∧ (modCap s n f).icu = s.icu ∧
    (modCap s n f).flt = s.flt ∧ (modCap s n f).plg = s.plg ∧ (modCap s n f).upd = s.upd ∧
    (modCap s n f).mem = s.mem ∧ (modCap s n f).canRam = s.canRam ∧ (modCap s n f).free = s.free := by
  unfold modCap; (repeat' split) <;> simp

@[simp] theorem modPtp_keeps (s : State) (n : Nat) (f : PtpPort → PtpPort) :
    (modPtp s n f).pending = s.pending ∧ (modPtp s n f).variant = s.variant ∧ (modPtp s n f).clk = s.clk ∧
    (modPtp s n f).unit = s.unit ∧ (modPtp s n f).str = s.str ∧ (modPtp s n f).pwr = s.pwr ∧
    (modPtp s n f).hvi = s.hvi ∧ (modPtp s n f).hviStr = s.hviStr ∧ (modPtp s n f).rings = s.rings ∧
    (modPtp s n f).cee = s.cee ∧ (modPtp s n f).tpe = s.tpe ∧ (modPtp s n f).th = s.th ∧ (modPtp s n f).bal = s.bal ∧
    (modPtp s n f).dsp = s.dsp ∧ (modPtp s n f).conv = s.conv ∧ (modPtp s n f).phase = s.phase ∧
    (modPtp s n f).gx2 = s.gx2 ∧ (modPtp s n f).le = s.le ∧ (modPtp s n f).saf = s.saf ∧ (modPtp s n f).red = s.red ∧
    (modPtp s n f).rack = s.rack ∧ (modPtp s n f).seq = s.seq ∧ (modPtp s n f).hpr = s.hpr ∧
    (modPtp s n f).net = s.net ∧ (modPtp s n f).app = s.app ∧ (modPtp s n f).icu = s.icu ∧
    (modPtp s n f).flt = s.flt ∧ (modPtp s n f).plg = s.plg ∧ (modPtp s n f).upd = s.upd ∧
    (modPtp s n f).mem = s.mem ∧ (modPtp s n f).canRam = s.canRam ∧ (modPtp s n f).free = s.free := by
  unfold modPtp; (repeat' split) <;> simp

@[simp] theorem fire_keeps (s : State) (n : Nat) (late : Bool) :
    (fire s n late).pending = s.pending ∧ (fire s n late).variant = s.variant ∧ (fire s n late).clk = s.clk ∧
    (fire s n late).unit = s.unit ∧ (fire s n late).str = s.str ∧ (fire s n late).pwr = s.pwr ∧
    (fire s n late).hvi = s.hvi ∧ (fire s n late).hviStr = s.hviStr ∧ (fire s n late).rings = s.rings ∧
    (fire s n late).cee = s.cee ∧ (fire s n late).tpe = s.tpe ∧ (fire s n late).th = s.th ∧
    (fire s n late).bal = s.bal ∧ (fire s n late).dsp = s.dsp ∧ (fire s n late).conv = s.conv ∧
    (fire s n late).phase = s.phase ∧ (fire s n late).gx2 = s.gx2 ∧ (fire s n late).le = s.le ∧
    (fire s n late).saf = s.saf ∧ (fire s n late).red = s.red ∧ (fire s n late).rack = s.rack ∧
    (fire s n late).seq = s.seq ∧ (fire s n late).hpr = s.hpr ∧ (fire s n late).net = s.net ∧
    (fire s n late).app = s.app ∧ (fire s n late).flt = s.flt ∧ (fire s n late).upd = s.upd ∧
    (fire s n late).mem = s.mem ∧ (fire s n late).canRam = s.canRam ∧ (fire s n late).free = s.free := by
  unfold fire; (repeat' split) <;> simp

@[simp] theorem armTrigger_keeps (s : State) (n : Nat) :
    (armTrigger s n).pending = s.pending ∧ (armTrigger s n).variant = s.variant ∧ (armTrigger s n).clk = s.clk ∧
    (armTrigger s n).unit = s.unit ∧ (armTrigger s n).str = s.str ∧ (armTrigger s n).pwr = s.pwr ∧
    (armTrigger s n).hvi = s.hvi ∧ (armTrigger s n).hviStr = s.hviStr ∧ (armTrigger s n).rings = s.rings ∧
    (armTrigger s n).cee = s.cee ∧ (armTrigger s n).tpe = s.tpe ∧ (armTrigger s n).th = s.th ∧
    (armTrigger s n).bal = s.bal ∧ (armTrigger s n).dsp = s.dsp ∧ (armTrigger s n).conv = s.conv ∧
    (armTrigger s n).phase = s.phase ∧ (armTrigger s n).gx2 = s.gx2 ∧ (armTrigger s n).le = s.le ∧
    (armTrigger s n).saf = s.saf ∧ (armTrigger s n).red = s.red ∧ (armTrigger s n).rack = s.rack ∧
    (armTrigger s n).seq = s.seq ∧ (armTrigger s n).hpr = s.hpr ∧ (armTrigger s n).net = s.net ∧
    (armTrigger s n).app = s.app ∧ (armTrigger s n).flt = s.flt ∧ (armTrigger s n).upd = s.upd ∧
    (armTrigger s n).mem = s.mem ∧ (armTrigger s n).canRam = s.canRam ∧ (armTrigger s n).free = s.free := by
  unfold armTrigger; (repeat' split) <;> simp

@[simp] theorem tsuAccErr_keeps (s : State) :
    (tsuAccErr s).pending = s.pending ∧ (tsuAccErr s).variant = s.variant ∧ (tsuAccErr s).clk = s.clk ∧
    (tsuAccErr s).unit = s.unit ∧ (tsuAccErr s).str = s.str ∧ (tsuAccErr s).pwr = s.pwr ∧ (tsuAccErr s).hvi = s.hvi ∧
    (tsuAccErr s).hviStr = s.hviStr ∧ (tsuAccErr s).rings = s.rings ∧ (tsuAccErr s).cee = s.cee ∧
    (tsuAccErr s).tpe = s.tpe ∧ (tsuAccErr s).th = s.th ∧ (tsuAccErr s).bal = s.bal ∧ (tsuAccErr s).dsp = s.dsp ∧
    (tsuAccErr s).conv = s.conv ∧ (tsuAccErr s).phase = s.phase ∧ (tsuAccErr s).gx2 = s.gx2 ∧
    (tsuAccErr s).le = s.le ∧ (tsuAccErr s).saf = s.saf ∧ (tsuAccErr s).red = s.red ∧ (tsuAccErr s).rack = s.rack ∧
    (tsuAccErr s).seq = s.seq ∧ (tsuAccErr s).hpr = s.hpr ∧ (tsuAccErr s).net = s.net ∧ (tsuAccErr s).app = s.app ∧
    (tsuAccErr s).flt = s.flt ∧ (tsuAccErr s).plg = s.plg ∧ (tsuAccErr s).upd = s.upd ∧ (tsuAccErr s).mem = s.mem ∧
    (tsuAccErr s).canRam = s.canRam ∧ (tsuAccErr s).free = s.free := by
  unfold tsuAccErr; (repeat' split) <;> simp

@[simp] theorem writeTrigCtrl_keeps (s : State) (n : Nat) (v : BitVec 32) :
    (writeTrigCtrl s n v).pending = s.pending ∧ (writeTrigCtrl s n v).variant = s.variant ∧
    (writeTrigCtrl s n v).clk = s.clk ∧ (writeTrigCtrl s n v).unit = s.unit ∧ (writeTrigCtrl s n v).str = s.str ∧
    (writeTrigCtrl s n v).pwr = s.pwr ∧ (writeTrigCtrl s n v).hvi = s.hvi ∧ (writeTrigCtrl s n v).hviStr = s.hviStr ∧
    (writeTrigCtrl s n v).rings = s.rings ∧ (writeTrigCtrl s n v).cee = s.cee ∧ (writeTrigCtrl s n v).tpe = s.tpe ∧
    (writeTrigCtrl s n v).th = s.th ∧ (writeTrigCtrl s n v).bal = s.bal ∧ (writeTrigCtrl s n v).dsp = s.dsp ∧
    (writeTrigCtrl s n v).conv = s.conv ∧ (writeTrigCtrl s n v).phase = s.phase ∧ (writeTrigCtrl s n v).gx2 = s.gx2 ∧
    (writeTrigCtrl s n v).le = s.le ∧ (writeTrigCtrl s n v).saf = s.saf ∧ (writeTrigCtrl s n v).red = s.red ∧
    (writeTrigCtrl s n v).rack = s.rack ∧ (writeTrigCtrl s n v).seq = s.seq ∧ (writeTrigCtrl s n v).hpr = s.hpr ∧
    (writeTrigCtrl s n v).net = s.net ∧ (writeTrigCtrl s n v).app = s.app ∧ (writeTrigCtrl s n v).flt = s.flt ∧
    (writeTrigCtrl s n v).upd = s.upd ∧ (writeTrigCtrl s n v).mem = s.mem ∧ (writeTrigCtrl s n v).canRam = s.canRam ∧
    (writeTrigCtrl s n v).free = s.free := by
  unfold writeTrigCtrl; (repeat' split) <;> simp

@[simp] theorem popCap_keeps (s : State) (n : Nat) :
    (popCap s n).pending = s.pending ∧ (popCap s n).variant = s.variant ∧ (popCap s n).clk = s.clk ∧
    (popCap s n).unit = s.unit ∧ (popCap s n).str = s.str ∧ (popCap s n).pwr = s.pwr ∧ (popCap s n).hvi = s.hvi ∧
    (popCap s n).hviStr = s.hviStr ∧ (popCap s n).rings = s.rings ∧ (popCap s n).cee = s.cee ∧
    (popCap s n).tpe = s.tpe ∧ (popCap s n).th = s.th ∧ (popCap s n).bal = s.bal ∧ (popCap s n).dsp = s.dsp ∧
    (popCap s n).conv = s.conv ∧ (popCap s n).phase = s.phase ∧ (popCap s n).gx2 = s.gx2 ∧ (popCap s n).le = s.le ∧
    (popCap s n).saf = s.saf ∧ (popCap s n).red = s.red ∧ (popCap s n).rack = s.rack ∧ (popCap s n).seq = s.seq ∧
    (popCap s n).hpr = s.hpr ∧ (popCap s n).net = s.net ∧ (popCap s n).app = s.app ∧ (popCap s n).icu = s.icu ∧
    (popCap s n).flt = s.flt ∧ (popCap s n).plg = s.plg ∧ (popCap s n).upd = s.upd ∧ (popCap s n).mem = s.mem ∧
    (popCap s n).canRam = s.canRam ∧ (popCap s n).free = s.free := by
  unfold popCap; (repeat' split) <;> simp

@[simp] theorem writeCapCtrl_keeps (s : State) (n : Nat) (v : Nat) :
    (writeCapCtrl s n v).pending = s.pending ∧ (writeCapCtrl s n v).variant = s.variant ∧
    (writeCapCtrl s n v).clk = s.clk ∧ (writeCapCtrl s n v).unit = s.unit ∧ (writeCapCtrl s n v).str = s.str ∧
    (writeCapCtrl s n v).pwr = s.pwr ∧ (writeCapCtrl s n v).hvi = s.hvi ∧ (writeCapCtrl s n v).hviStr = s.hviStr ∧
    (writeCapCtrl s n v).rings = s.rings ∧ (writeCapCtrl s n v).cee = s.cee ∧ (writeCapCtrl s n v).tpe = s.tpe ∧
    (writeCapCtrl s n v).th = s.th ∧ (writeCapCtrl s n v).bal = s.bal ∧ (writeCapCtrl s n v).dsp = s.dsp ∧
    (writeCapCtrl s n v).conv = s.conv ∧ (writeCapCtrl s n v).phase = s.phase ∧ (writeCapCtrl s n v).gx2 = s.gx2 ∧
    (writeCapCtrl s n v).le = s.le ∧ (writeCapCtrl s n v).saf = s.saf ∧ (writeCapCtrl s n v).red = s.red ∧
    (writeCapCtrl s n v).rack = s.rack ∧ (writeCapCtrl s n v).seq = s.seq ∧ (writeCapCtrl s n v).hpr = s.hpr ∧
    (writeCapCtrl s n v).net = s.net ∧ (writeCapCtrl s n v).app = s.app ∧ (writeCapCtrl s n v).icu = s.icu ∧
    (writeCapCtrl s n v).flt = s.flt ∧ (writeCapCtrl s n v).plg = s.plg ∧ (writeCapCtrl s n v).upd = s.upd ∧
    (writeCapCtrl s n v).mem = s.mem ∧ (writeCapCtrl s n v).canRam = s.canRam ∧ (writeCapCtrl s n v).free = s.free := by
  unfold writeCapCtrl; (repeat' split) <;> simp

@[simp] theorem tsuWrite_keeps (s : State) (app : Bool) (off : Nat) (v : BitVec 32) :
    (tsuWrite s app off v).pending = s.pending ∧ (tsuWrite s app off v).variant = s.variant ∧
    (tsuWrite s app off v).clk = s.clk ∧ (tsuWrite s app off v).unit = s.unit ∧ (tsuWrite s app off v).str = s.str ∧
    (tsuWrite s app off v).pwr = s.pwr ∧ (tsuWrite s app off v).hvi = s.hvi ∧
    (tsuWrite s app off v).hviStr = s.hviStr ∧ (tsuWrite s app off v).rings = s.rings ∧
    (tsuWrite s app off v).cee = s.cee ∧ (tsuWrite s app off v).tpe = s.tpe ∧ (tsuWrite s app off v).th = s.th ∧
    (tsuWrite s app off v).bal = s.bal ∧ (tsuWrite s app off v).dsp = s.dsp ∧ (tsuWrite s app off v).conv = s.conv ∧
    (tsuWrite s app off v).phase = s.phase ∧ (tsuWrite s app off v).gx2 = s.gx2 ∧ (tsuWrite s app off v).le = s.le ∧
    (tsuWrite s app off v).saf = s.saf ∧ (tsuWrite s app off v).red = s.red ∧ (tsuWrite s app off v).rack = s.rack ∧
    (tsuWrite s app off v).seq = s.seq ∧ (tsuWrite s app off v).hpr = s.hpr ∧ (tsuWrite s app off v).net = s.net ∧
    (tsuWrite s app off v).app = s.app ∧ (tsuWrite s app off v).flt = s.flt ∧ (tsuWrite s app off v).upd = s.upd ∧
    (tsuWrite s app off v).mem = s.mem ∧ (tsuWrite s app off v).canRam = s.canRam ∧
    (tsuWrite s app off v).free = s.free := by
  unfold tsuWrite; (repeat' split) <;> simp

@[simp] theorem setSourceFrom_keeps (was s : State) (new : Option TimeSource) :
    (setSourceFrom was s new).pending = s.pending ∧ (setSourceFrom was s new).variant = s.variant ∧
    (setSourceFrom was s new).clk = s.clk ∧ (setSourceFrom was s new).unit = s.unit ∧
    (setSourceFrom was s new).str = s.str ∧ (setSourceFrom was s new).pwr = s.pwr ∧
    (setSourceFrom was s new).hvi = s.hvi ∧ (setSourceFrom was s new).hviStr = s.hviStr ∧
    (setSourceFrom was s new).rings = s.rings ∧ (setSourceFrom was s new).cee = s.cee ∧
    (setSourceFrom was s new).tpe = s.tpe ∧ (setSourceFrom was s new).th = s.th ∧
    (setSourceFrom was s new).bal = s.bal ∧ (setSourceFrom was s new).dsp = s.dsp ∧
    (setSourceFrom was s new).conv = s.conv ∧ (setSourceFrom was s new).phase = s.phase ∧
    (setSourceFrom was s new).gx2 = s.gx2 ∧ (setSourceFrom was s new).le = s.le ∧
    (setSourceFrom was s new).saf = s.saf ∧ (setSourceFrom was s new).red = s.red ∧
    (setSourceFrom was s new).rack = s.rack ∧ (setSourceFrom was s new).seq = s.seq ∧
    (setSourceFrom was s new).hpr = s.hpr ∧ (setSourceFrom was s new).net = s.net ∧
    (setSourceFrom was s new).app = s.app ∧ (setSourceFrom was s new).icu = s.icu ∧
    (setSourceFrom was s new).flt = s.flt ∧ (setSourceFrom was s new).plg = s.plg ∧
    (setSourceFrom was s new).upd = s.upd ∧ (setSourceFrom was s new).mem = s.mem ∧
    (setSourceFrom was s new).canRam = s.canRam ∧ (setSourceFrom was s new).free = s.free := by
  unfold setSourceFrom; (repeat' split) <;> simp

@[simp] theorem setSource_keeps (s : State) (new : Option TimeSource) :
    (setSource s new).pending = s.pending ∧ (setSource s new).variant = s.variant ∧ (setSource s new).clk = s.clk ∧
    (setSource s new).unit = s.unit ∧ (setSource s new).str = s.str ∧ (setSource s new).pwr = s.pwr ∧
    (setSource s new).hvi = s.hvi ∧ (setSource s new).hviStr = s.hviStr ∧ (setSource s new).rings = s.rings ∧
    (setSource s new).cee = s.cee ∧ (setSource s new).tpe = s.tpe ∧ (setSource s new).th = s.th ∧
    (setSource s new).bal = s.bal ∧ (setSource s new).dsp = s.dsp ∧ (setSource s new).conv = s.conv ∧
    (setSource s new).phase = s.phase ∧ (setSource s new).gx2 = s.gx2 ∧ (setSource s new).le = s.le ∧
    (setSource s new).saf = s.saf ∧ (setSource s new).red = s.red ∧ (setSource s new).rack = s.rack ∧
    (setSource s new).seq = s.seq ∧ (setSource s new).hpr = s.hpr ∧ (setSource s new).net = s.net ∧
    (setSource s new).app = s.app ∧ (setSource s new).icu = s.icu ∧ (setSource s new).flt = s.flt ∧
    (setSource s new).plg = s.plg ∧ (setSource s new).upd = s.upd ∧ (setSource s new).mem = s.mem ∧
    (setSource s new).canRam = s.canRam ∧ (setSource s new).free = s.free := by
  unfold setSource; (repeat' split) <;> simp

@[simp] theorem reselectFrom_keeps (was s : State) :
    (reselectFrom was s).pending = s.pending ∧ (reselectFrom was s).variant = s.variant ∧
    (reselectFrom was s).clk = s.clk ∧ (reselectFrom was s).unit = s.unit ∧ (reselectFrom was s).str = s.str ∧
    (reselectFrom was s).pwr = s.pwr ∧ (reselectFrom was s).hvi = s.hvi ∧ (reselectFrom was s).hviStr = s.hviStr ∧
    (reselectFrom was s).rings = s.rings ∧ (reselectFrom was s).cee = s.cee ∧ (reselectFrom was s).tpe = s.tpe ∧
    (reselectFrom was s).th = s.th ∧ (reselectFrom was s).bal = s.bal ∧ (reselectFrom was s).dsp = s.dsp ∧
    (reselectFrom was s).conv = s.conv ∧ (reselectFrom was s).phase = s.phase ∧ (reselectFrom was s).gx2 = s.gx2 ∧
    (reselectFrom was s).le = s.le ∧ (reselectFrom was s).saf = s.saf ∧ (reselectFrom was s).red = s.red ∧
    (reselectFrom was s).rack = s.rack ∧ (reselectFrom was s).seq = s.seq ∧ (reselectFrom was s).hpr = s.hpr ∧
    (reselectFrom was s).net = s.net ∧ (reselectFrom was s).app = s.app ∧ (reselectFrom was s).icu = s.icu ∧
    (reselectFrom was s).flt = s.flt ∧ (reselectFrom was s).plg = s.plg ∧ (reselectFrom was s).upd = s.upd ∧
    (reselectFrom was s).mem = s.mem ∧ (reselectFrom was s).canRam = s.canRam ∧ (reselectFrom was s).free = s.free := by
  unfold reselectFrom; (repeat' split) <;> simp

@[simp] theorem reselect_keeps (s : State) :
    (reselect s).pending = s.pending ∧ (reselect s).variant = s.variant ∧ (reselect s).clk = s.clk ∧
    (reselect s).unit = s.unit ∧ (reselect s).str = s.str ∧ (reselect s).pwr = s.pwr ∧ (reselect s).hvi = s.hvi ∧
    (reselect s).hviStr = s.hviStr ∧ (reselect s).rings = s.rings ∧ (reselect s).cee = s.cee ∧
    (reselect s).tpe = s.tpe ∧ (reselect s).th = s.th ∧ (reselect s).bal = s.bal ∧ (reselect s).dsp = s.dsp ∧
    (reselect s).conv = s.conv ∧ (reselect s).phase = s.phase ∧ (reselect s).gx2 = s.gx2 ∧ (reselect s).le = s.le ∧
    (reselect s).saf = s.saf ∧ (reselect s).red = s.red ∧ (reselect s).rack = s.rack ∧ (reselect s).seq = s.seq ∧
    (reselect s).hpr = s.hpr ∧ (reselect s).net = s.net ∧ (reselect s).app = s.app ∧ (reselect s).icu = s.icu ∧
    (reselect s).flt = s.flt ∧ (reselect s).plg = s.plg ∧ (reselect s).upd = s.upd ∧ (reselect s).mem = s.mem ∧
    (reselect s).canRam = s.canRam ∧ (reselect s).free = s.free := by
  unfold reselect; (repeat' split) <;> simp

@[simp] theorem stepTrigger_keeps (s : State) (n : Nat) :
    (stepTrigger s n).pending = s.pending ∧ (stepTrigger s n).variant = s.variant ∧ (stepTrigger s n).clk = s.clk ∧
    (stepTrigger s n).unit = s.unit ∧ (stepTrigger s n).str = s.str ∧ (stepTrigger s n).pwr = s.pwr ∧
    (stepTrigger s n).hvi = s.hvi ∧ (stepTrigger s n).hviStr = s.hviStr ∧ (stepTrigger s n).rings = s.rings ∧
    (stepTrigger s n).cee = s.cee ∧ (stepTrigger s n).tpe = s.tpe ∧ (stepTrigger s n).th = s.th ∧
    (stepTrigger s n).bal = s.bal ∧ (stepTrigger s n).dsp = s.dsp ∧ (stepTrigger s n).conv = s.conv ∧
    (stepTrigger s n).phase = s.phase ∧ (stepTrigger s n).gx2 = s.gx2 ∧ (stepTrigger s n).le = s.le ∧
    (stepTrigger s n).saf = s.saf ∧ (stepTrigger s n).red = s.red ∧ (stepTrigger s n).rack = s.rack ∧
    (stepTrigger s n).seq = s.seq ∧ (stepTrigger s n).hpr = s.hpr ∧ (stepTrigger s n).net = s.net ∧
    (stepTrigger s n).app = s.app ∧ (stepTrigger s n).flt = s.flt ∧ (stepTrigger s n).upd = s.upd ∧
    (stepTrigger s n).mem = s.mem ∧ (stepTrigger s n).canRam = s.canRam ∧ (stepTrigger s n).free = s.free := by
  unfold stepTrigger; (repeat' split) <;> simp

@[simp] theorem stepTime_keeps (s : State) (new : Nat) :
    (stepTime s new).pending = s.pending ∧ (stepTime s new).variant = s.variant ∧ (stepTime s new).clk = s.clk ∧
    (stepTime s new).unit = s.unit ∧ (stepTime s new).str = s.str ∧ (stepTime s new).pwr = s.pwr ∧
    (stepTime s new).hvi = s.hvi ∧ (stepTime s new).hviStr = s.hviStr ∧ (stepTime s new).rings = s.rings ∧
    (stepTime s new).cee = s.cee ∧ (stepTime s new).tpe = s.tpe ∧ (stepTime s new).th = s.th ∧
    (stepTime s new).bal = s.bal ∧ (stepTime s new).conv = s.conv ∧ (stepTime s new).phase = s.phase ∧
    (stepTime s new).gx2 = s.gx2 ∧ (stepTime s new).le = s.le ∧ (stepTime s new).saf = s.saf ∧
    (stepTime s new).red = s.red ∧ (stepTime s new).rack = s.rack ∧ (stepTime s new).seq = s.seq ∧
    (stepTime s new).hpr = s.hpr ∧ (stepTime s new).net = s.net ∧ (stepTime s new).app = s.app ∧
    (stepTime s new).flt = s.flt ∧ (stepTime s new).upd = s.upd ∧ (stepTime s new).mem = s.mem ∧
    (stepTime s new).canRam = s.canRam ∧ (stepTime s new).free = s.free := by
  unfold stepTime; (repeat' split) <;> simp

@[simp] theorem removeOffset_keeps (s : State) (offset : Int) :
    (removeOffset s offset).pending = s.pending ∧ (removeOffset s offset).variant = s.variant ∧
    (removeOffset s offset).clk = s.clk ∧ (removeOffset s offset).unit = s.unit ∧
    (removeOffset s offset).str = s.str ∧ (removeOffset s offset).pwr = s.pwr ∧ (removeOffset s offset).hvi = s.hvi ∧
    (removeOffset s offset).hviStr = s.hviStr ∧ (removeOffset s offset).rings = s.rings ∧
    (removeOffset s offset).cee = s.cee ∧ (removeOffset s offset).tpe = s.tpe ∧ (removeOffset s offset).th = s.th ∧
    (removeOffset s offset).bal = s.bal ∧ (removeOffset s offset).conv = s.conv ∧
    (removeOffset s offset).phase = s.phase ∧ (removeOffset s offset).gx2 = s.gx2 ∧
    (removeOffset s offset).le = s.le ∧ (removeOffset s offset).saf = s.saf ∧ (removeOffset s offset).red = s.red ∧
    (removeOffset s offset).rack = s.rack ∧ (removeOffset s offset).seq = s.seq ∧
    (removeOffset s offset).hpr = s.hpr ∧ (removeOffset s offset).net = s.net ∧ (removeOffset s offset).app = s.app ∧
    (removeOffset s offset).flt = s.flt ∧ (removeOffset s offset).upd = s.upd ∧ (removeOffset s offset).mem = s.mem ∧
    (removeOffset s offset).canRam = s.canRam ∧ (removeOffset s offset).free = s.free := by
  unfold removeOffset; (repeat' split) <;> simp

@[simp] theorem storeTim_keeps (was : State) (p : Bytes) :
    (storeTim was p).pending = was.pending ∧ (storeTim was p).variant = was.variant ∧
    (storeTim was p).clk = was.clk ∧ (storeTim was p).unit = was.unit ∧ (storeTim was p).str = was.str ∧
    (storeTim was p).pwr = was.pwr ∧ (storeTim was p).hvi = was.hvi ∧ (storeTim was p).hviStr = was.hviStr ∧
    (storeTim was p).rings = was.rings ∧ (storeTim was p).cee = was.cee ∧ (storeTim was p).tpe = was.tpe ∧
    (storeTim was p).th = was.th ∧ (storeTim was p).bal = was.bal ∧ (storeTim was p).dsp = was.dsp ∧
    (storeTim was p).conv = was.conv ∧ (storeTim was p).phase = was.phase ∧ (storeTim was p).gx2 = was.gx2 ∧
    (storeTim was p).le = was.le ∧ (storeTim was p).saf = was.saf ∧ (storeTim was p).red = was.red ∧
    (storeTim was p).rack = was.rack ∧ (storeTim was p).seq = was.seq ∧ (storeTim was p).hpr = was.hpr ∧
    (storeTim was p).net = was.net ∧ (storeTim was p).app = was.app ∧ (storeTim was p).icu = was.icu ∧
    (storeTim was p).flt = was.flt ∧ (storeTim was p).plg = was.plg ∧ (storeTim was p).upd = was.upd ∧
    (storeTim was p).mem = was.mem ∧ (storeTim was p).canRam = was.canRam ∧ (storeTim was p).free = was.free := by
  unfold storeTim; (repeat' split) <;> simp

theorem inDomain_proj {γ : Type} (p : State → γ) (s : State) (n d : Nat) (f : State → State)
    (e : p (modPtp s n fun x => { x with ignored := x.ignored + 1 }) = p s)
    (h : ∀ s, p (f s) = p s) : p (inDomain s n d f) = p s := by
  unfold inDomain; (repeat' split) <;> simp [h, e]

@[simp] theorem inDomain_pending (s : State) (n d : Nat) (f : State → State)
    (h : ∀ s, (f s).pending = s.pending) : (inDomain s n d f).pending = s.pending :=
  inDomain_proj State.pending s n d f (by simp) h

@[simp] theorem inDomain_variant (s : State) (n d : Nat) (f : State → State)
    (h : ∀ s, (f s).variant = s.variant) : (inDomain s n d f).variant = s.variant :=
  inDomain_proj State.variant s n d f (by simp) h

@[simp] theorem inDomain_clk (s : State) (n d : Nat) (f : State → State)
    (h : ∀ s, (f s).clk = s.clk) : (inDomain s n d f).clk = s.clk :=
  inDomain_proj State.clk s n d f (by simp) h

@[simp] theorem inDomain_unit (s : State) (n d : Nat) (f : State → State)
    (h : ∀ s, (f s).unit = s.unit) : (inDomain s n d f).unit = s.unit :=
  inDomain_proj State.unit s n d f (by simp) h

@[simp] theorem inDomain_str (s : State) (n d : Nat) (f : State → State)
    (h : ∀ s, (f s).str = s.str) : (inDomain s n d f).str = s.str :=
  inDomain_proj State.str s n d f (by simp) h

@[simp] theorem inDomain_pwr (s : State) (n d : Nat) (f : State → State)
    (h : ∀ s, (f s).pwr = s.pwr) : (inDomain s n d f).pwr = s.pwr :=
  inDomain_proj State.pwr s n d f (by simp) h

@[simp] theorem inDomain_hvi (s : State) (n d : Nat) (f : State → State)
    (h : ∀ s, (f s).hvi = s.hvi) : (inDomain s n d f).hvi = s.hvi :=
  inDomain_proj State.hvi s n d f (by simp) h

@[simp] theorem inDomain_hviStr (s : State) (n d : Nat) (f : State → State)
    (h : ∀ s, (f s).hviStr = s.hviStr) : (inDomain s n d f).hviStr = s.hviStr :=
  inDomain_proj State.hviStr s n d f (by simp) h

@[simp] theorem inDomain_rings (s : State) (n d : Nat) (f : State → State)
    (h : ∀ s, (f s).rings = s.rings) : (inDomain s n d f).rings = s.rings :=
  inDomain_proj State.rings s n d f (by simp) h

@[simp] theorem inDomain_cee (s : State) (n d : Nat) (f : State → State)
    (h : ∀ s, (f s).cee = s.cee) : (inDomain s n d f).cee = s.cee :=
  inDomain_proj State.cee s n d f (by simp) h

@[simp] theorem inDomain_tpe (s : State) (n d : Nat) (f : State → State)
    (h : ∀ s, (f s).tpe = s.tpe) : (inDomain s n d f).tpe = s.tpe :=
  inDomain_proj State.tpe s n d f (by simp) h

@[simp] theorem inDomain_th (s : State) (n d : Nat) (f : State → State)
    (h : ∀ s, (f s).th = s.th) : (inDomain s n d f).th = s.th :=
  inDomain_proj State.th s n d f (by simp) h

@[simp] theorem inDomain_bal (s : State) (n d : Nat) (f : State → State)
    (h : ∀ s, (f s).bal = s.bal) : (inDomain s n d f).bal = s.bal :=
  inDomain_proj State.bal s n d f (by simp) h

@[simp] theorem inDomain_dsp (s : State) (n d : Nat) (f : State → State)
    (h : ∀ s, (f s).dsp = s.dsp) : (inDomain s n d f).dsp = s.dsp :=
  inDomain_proj State.dsp s n d f (by simp) h

@[simp] theorem inDomain_conv (s : State) (n d : Nat) (f : State → State)
    (h : ∀ s, (f s).conv = s.conv) : (inDomain s n d f).conv = s.conv :=
  inDomain_proj State.conv s n d f (by simp) h

@[simp] theorem inDomain_phase (s : State) (n d : Nat) (f : State → State)
    (h : ∀ s, (f s).phase = s.phase) : (inDomain s n d f).phase = s.phase :=
  inDomain_proj State.phase s n d f (by simp) h

@[simp] theorem inDomain_gx2 (s : State) (n d : Nat) (f : State → State)
    (h : ∀ s, (f s).gx2 = s.gx2) : (inDomain s n d f).gx2 = s.gx2 :=
  inDomain_proj State.gx2 s n d f (by simp) h

@[simp] theorem inDomain_le (s : State) (n d : Nat) (f : State → State)
    (h : ∀ s, (f s).le = s.le) : (inDomain s n d f).le = s.le :=
  inDomain_proj State.le s n d f (by simp) h

@[simp] theorem inDomain_saf (s : State) (n d : Nat) (f : State → State)
    (h : ∀ s, (f s).saf = s.saf) : (inDomain s n d f).saf = s.saf :=
  inDomain_proj State.saf s n d f (by simp) h

@[simp] theorem inDomain_red (s : State) (n d : Nat) (f : State → State)
    (h : ∀ s, (f s).red = s.red) : (inDomain s n d f).red = s.red :=
  inDomain_proj State.red s n d f (by simp) h

@[simp] theorem inDomain_rack (s : State) (n d : Nat) (f : State → State)
    (h : ∀ s, (f s).rack = s.rack) : (inDomain s n d f).rack = s.rack :=
  inDomain_proj State.rack s n d f (by simp) h

@[simp] theorem inDomain_seq (s : State) (n d : Nat) (f : State → State)
    (h : ∀ s, (f s).seq = s.seq) : (inDomain s n d f).seq = s.seq :=
  inDomain_proj State.seq s n d f (by simp) h

@[simp] theorem inDomain_hpr (s : State) (n d : Nat) (f : State → State)
    (h : ∀ s, (f s).hpr = s.hpr) : (inDomain s n d f).hpr = s.hpr :=
  inDomain_proj State.hpr s n d f (by simp) h

@[simp] theorem inDomain_net (s : State) (n d : Nat) (f : State → State)
    (h : ∀ s, (f s).net = s.net) : (inDomain s n d f).net = s.net :=
  inDomain_proj State.net s n d f (by simp) h

@[simp] theorem inDomain_app (s : State) (n d : Nat) (f : State → State)
    (h : ∀ s, (f s).app = s.app) : (inDomain s n d f).app = s.app :=
  inDomain_proj State.app s n d f (by simp) h

@[simp] theorem inDomain_icu (s : State) (n d : Nat) (f : State → State)
    (h : ∀ s, (f s).icu = s.icu) : (inDomain s n d f).icu = s.icu :=
  inDomain_proj State.icu s n d f (by simp) h

@[simp] theorem inDomain_flt (s : State) (n d : Nat) (f : State → State)
    (h : ∀ s, (f s).flt = s.flt) : (inDomain s n d f).flt = s.flt :=
  inDomain_proj State.flt s n d f (by simp) h

@[simp] theorem inDomain_plg (s : State) (n d : Nat) (f : State → State)
    (h : ∀ s, (f s).plg = s.plg) : (inDomain s n d f).plg = s.plg :=
  inDomain_proj State.plg s n d f (by simp) h

@[simp] theorem inDomain_upd (s : State) (n d : Nat) (f : State → State)
    (h : ∀ s, (f s).upd = s.upd) : (inDomain s n d f).upd = s.upd :=
  inDomain_proj State.upd s n d f (by simp) h

@[simp] theorem inDomain_mem (s : State) (n d : Nat) (f : State → State)
    (h : ∀ s, (f s).mem = s.mem) : (inDomain s n d f).mem = s.mem :=
  inDomain_proj State.mem s n d f (by simp) h

@[simp] theorem inDomain_canRam (s : State) (n d : Nat) (f : State → State)
    (h : ∀ s, (f s).canRam = s.canRam) : (inDomain s n d f).canRam = s.canRam :=
  inDomain_proj State.canRam s n d f (by simp) h

@[simp] theorem inDomain_free (s : State) (n d : Nat) (f : State → State)
    (h : ∀ s, (f s).free = s.free) : (inDomain s n d f).free = s.free :=
  inDomain_proj State.free s n d f (by simp) h

end Sys2Proof.Machine
end

