-- ==== Sys2Proof/Laws/Update.lean ====
section
/-! SUPPORT. What the operations of Update leave alone. -/

namespace Sys2Proof.Machine

@[simp] theorem beginXfer_keeps (s : State) (q : Req) :
    (beginXfer s q).pending = s.pending ∧ (beginXfer s q).variant = s.variant ∧ (beginXfer s q).clk = s.clk ∧
    (beginXfer s q).unit = s.unit ∧ (beginXfer s q).str = s.str ∧ (beginXfer s q).pwr = s.pwr ∧
    (beginXfer s q).hvi = s.hvi ∧ (beginXfer s q).hviStr = s.hviStr ∧ (beginXfer s q).rings = s.rings ∧
    (beginXfer s q).cee = s.cee ∧ (beginXfer s q).tpe = s.tpe ∧ (beginXfer s q).th = s.th ∧
    (beginXfer s q).bal = s.bal ∧ (beginXfer s q).dsp = s.dsp ∧ (beginXfer s q).conv = s.conv ∧
    (beginXfer s q).phase = s.phase ∧ (beginXfer s q).gx2 = s.gx2 ∧ (beginXfer s q).le = s.le ∧
    (beginXfer s q).saf = s.saf ∧ (beginXfer s q).red = s.red ∧ (beginXfer s q).rack = s.rack ∧
    (beginXfer s q).seq = s.seq ∧ (beginXfer s q).tsu = s.tsu ∧ (beginXfer s q).net = s.net ∧
    (beginXfer s q).app = s.app ∧ (beginXfer s q).flt = s.flt ∧ (beginXfer s q).plg = s.plg ∧
    (beginXfer s q).canRam = s.canRam ∧ (beginXfer s q).free = s.free := by
  unfold beginXfer; dsimp only; split <;> simp

@[simp] theorem eraseTarget_keeps (s : State) (p : Nat) :
    (eraseTarget s p).pending = s.pending ∧ (eraseTarget s p).variant = s.variant ∧ (eraseTarget s p).clk = s.clk ∧
    (eraseTarget s p).unit = s.unit ∧ (eraseTarget s p).str = s.str ∧ (eraseTarget s p).pwr = s.pwr ∧
    (eraseTarget s p).hvi = s.hvi ∧ (eraseTarget s p).hviStr = s.hviStr ∧ (eraseTarget s p).rings = s.rings ∧
    (eraseTarget s p).cee = s.cee ∧ (eraseTarget s p).tpe = s.tpe ∧ (eraseTarget s p).th = s.th ∧
    (eraseTarget s p).bal = s.bal ∧ (eraseTarget s p).dsp = s.dsp ∧ (eraseTarget s p).conv = s.conv ∧
    (eraseTarget s p).phase = s.phase ∧ (eraseTarget s p).gx2 = s.gx2 ∧ (eraseTarget s p).le = s.le ∧
    (eraseTarget s p).saf = s.saf ∧ (eraseTarget s p).red = s.red ∧ (eraseTarget s p).rack = s.rack ∧
    (eraseTarget s p).seq = s.seq ∧ (eraseTarget s p).tsu = s.tsu ∧ (eraseTarget s p).hpr = s.hpr ∧
    (eraseTarget s p).net = s.net ∧ (eraseTarget s p).app = s.app ∧ (eraseTarget s p).icu = s.icu ∧
    (eraseTarget s p).flt = s.flt ∧ (eraseTarget s p).plg = s.plg ∧ (eraseTarget s p).mem = s.mem ∧
    (eraseTarget s p).canRam = s.canRam ∧ (eraseTarget s p).free = s.free := by
  unfold eraseTarget; (repeat' split) <;> simp

@[simp] theorem loadModel_keeps (s : State) (n : Nat) (b : Bytes) :
    (loadModel s n b).pending = s.pending ∧ (loadModel s n b).variant = s.variant ∧ (loadModel s n b).clk = s.clk ∧
    (loadModel s n b).unit = s.unit ∧ (loadModel s n b).str = s.str ∧ (loadModel s n b).pwr = s.pwr ∧
    (loadModel s n b).hvi = s.hvi ∧ (loadModel s n b).hviStr = s.hviStr ∧ (loadModel s n b).rings = s.rings ∧
    (loadModel s n b).tpe = s.tpe ∧ (loadModel s n b).th = s.th ∧ (loadModel s n b).bal = s.bal ∧
    (loadModel s n b).dsp = s.dsp ∧ (loadModel s n b).conv = s.conv ∧ (loadModel s n b).phase = s.phase ∧
    (loadModel s n b).gx2 = s.gx2 ∧ (loadModel s n b).le = s.le ∧ (loadModel s n b).saf = s.saf ∧
    (loadModel s n b).red = s.red ∧ (loadModel s n b).rack = s.rack ∧ (loadModel s n b).seq = s.seq ∧
    (loadModel s n b).tsu = s.tsu ∧ (loadModel s n b).hpr = s.hpr ∧ (loadModel s n b).net = s.net ∧
    (loadModel s n b).app = s.app ∧ (loadModel s n b).icu = s.icu ∧ (loadModel s n b).flt = s.flt ∧
    (loadModel s n b).plg = s.plg ∧ (loadModel s n b).upd = s.upd ∧ (loadModel s n b).mem = s.mem ∧
    (loadModel s n b).canRam = s.canRam ∧ (loadModel s n b).free = s.free := by
  unfold loadModel; (repeat' split) <;> simp

theorem loadDescs_keeps (s u : State) (l : List Bytes) (h : loadDescs s l = some u) :
    u.pending = s.pending ∧ u.variant = s.variant ∧ u.clk = s.clk ∧ u.unit = s.unit ∧ u.str = s.str ∧ u.pwr = s.pwr ∧
    u.hvi = s.hvi ∧ u.hviStr = s.hviStr ∧ u.rings = s.rings ∧ u.cee = s.cee ∧ u.tpe = s.tpe ∧ u.th = s.th ∧
    u.bal = s.bal ∧ u.dsp = s.dsp ∧ u.conv = s.conv ∧ u.phase = s.phase ∧ u.gx2 = s.gx2 ∧ u.saf = s.saf ∧
    u.red = s.red ∧ u.rack = s.rack ∧ u.seq = s.seq ∧ u.tsu = s.tsu ∧ u.hpr = s.hpr ∧ u.net = s.net ∧ u.app = s.app ∧
    u.icu = s.icu ∧ u.flt = s.flt ∧ u.plg = s.plg ∧ u.upd = s.upd ∧ u.mem = s.mem ∧ u.canRam = s.canRam ∧
    u.free = s.free := by
  induction l generalizing s with
  | nil => simp only [loadDescs, Option.some.injEq] at h; subst h; simp
  | cons b bs ih =>
    unfold loadDescs at h; dsimp only at h; split at h
    · cases h
    · have e := ih _ h; simpa using e

@[simp] theorem loadDescs_pending (s : State) (l : List Bytes) : ((loadDescs s l).getD s).pending = s.pending := by
  cases h : loadDescs s l with
  | none => rfl
  | some u => have e := loadDescs_keeps s u l h; simp [e]

@[simp] theorem loadDescs_variant (s : State) (l : List Bytes) : ((loadDescs s l).getD s).variant = s.variant := by
  cases h : loadDescs s l with
  | none => rfl
  | some u => have e := loadDescs_keeps s u l h; simp [e]

@[simp] theorem loadDescs_clk (s : State) (l : List Bytes) : ((loadDescs s l).getD s).clk = s.clk := by
  cases h : loadDescs s l with
  | none => rfl
  | some u => have e := loadDescs_keeps s u l h; simp [e]

@[simp] theorem loadDescs_unit (s : State) (l : List Bytes) : ((loadDescs s l).getD s).unit = s.unit := by
  cases h : loadDescs s l with
  | none => rfl
  | some u => have e := loadDescs_keeps s u l h; simp [e]

@[simp] theorem loadDescs_str (s : State) (l : List Bytes) : ((loadDescs s l).getD s).str = s.str := by
  cases h : loadDescs s l with
  | none => rfl
  | some u => have e := loadDescs_keeps s u l h; simp [e]

@[simp] theorem loadDescs_pwr (s : State) (l : List Bytes) : ((loadDescs s l).getD s).pwr = s.pwr := by
  cases h : loadDescs s l with
  | none => rfl
  | some u => have e := loadDescs_keeps s u l h; simp [e]

@[simp] theorem loadDescs_hvi (s : State) (l : List Bytes) : ((loadDescs s l).getD s).hvi = s.hvi := by
  cases h : loadDescs s l with
  | none => rfl
  | some u => have e := loadDescs_keeps s u l h; simp [e]

@[simp] theorem loadDescs_hviStr (s : State) (l : List Bytes) : ((loadDescs s l).getD s).hviStr = s.hviStr := by
  cases h : loadDescs s l with
  | none => rfl
  | some u => have e := loadDescs_keeps s u l h; simp [e]

@[simp] theorem loadDescs_rings (s : State) (l : List Bytes) : ((loadDescs s l).getD s).rings = s.rings := by
  cases h : loadDescs s l with
  | none => rfl
  | some u => have e := loadDescs_keeps s u l h; simp [e]

@[simp] theorem loadDescs_cee (s : State) (l : List Bytes) : ((loadDescs s l).getD s).cee = s.cee := by
  cases h : loadDescs s l with
  | none => rfl
  | some u => have e := loadDescs_keeps s u l h; simp [e]

@[simp] theorem loadDescs_tpe (s : State) (l : List Bytes) : ((loadDescs s l).getD s).tpe = s.tpe := by
  cases h : loadDescs s l with
  | none => rfl
  | some u => have e := loadDescs_keeps s u l h; simp [e]

@[simp] theorem loadDescs_th (s : State) (l : List Bytes) : ((loadDescs s l).getD s).th = s.th := by
  cases h : loadDescs s l with
  | none => rfl
  | some u => have e := loadDescs_keeps s u l h; simp [e]

@[simp] theorem loadDescs_bal (s : State) (l : List Bytes) : ((loadDescs s l).getD s).bal = s.bal := by
  cases h : loadDescs s l with
  | none => rfl
  | some u => have e := loadDescs_keeps s u l h; simp [e]

@[simp] theorem loadDescs_dsp (s : State) (l : List Bytes) : ((loadDescs s l).getD s).dsp = s.dsp := by
  cases h : loadDescs s l with
  | none => rfl
  | some u => have e := loadDescs_keeps s u l h; simp [e]

@[simp] theorem loadDescs_conv (s : State) (l : List Bytes) : ((loadDescs s l).getD s).conv = s.conv := by
  cases h : loadDescs s l with
  | none => rfl
  | some u => have e := loadDescs_keeps s u l h; simp [e]

@[simp] theorem loadDescs_phase (s : State) (l : List Bytes) : ((loadDescs s l).getD s).phase = s.phase := by
  cases h : loadDescs s l with
  | none => rfl
  | some u => have e := loadDescs_keeps s u l h; simp [e]

@[simp] theorem loadDescs_gx2 (s : State) (l : List Bytes) : ((loadDescs s l).getD s).gx2 = s.gx2 := by
  cases h : loadDescs s l with
  | none => rfl
  | some u => have e := loadDescs_keeps s u l h; simp [e]

@[simp] theorem loadDescs_saf (s : State) (l : List Bytes) : ((loadDescs s l).getD s).saf = s.saf := by
  cases h : loadDescs s l with
  | none => rfl
  | some u => have e := loadDescs_keeps s u l h; simp [e]

@[simp] theorem loadDescs_red (s : State) (l : List Bytes) : ((loadDescs s l).getD s).red = s.red := by
  cases h : loadDescs s l with
  | none => rfl
  | some u => have e := loadDescs_keeps s u l h; simp [e]

@[simp] theorem loadDescs_rack (s : State) (l : List Bytes) : ((loadDescs s l).getD s).rack = s.rack := by
  cases h : loadDescs s l with
  | none => rfl
  | some u => have e := loadDescs_keeps s u l h; simp [e]

@[simp] theorem loadDescs_seq (s : State) (l : List Bytes) : ((loadDescs s l).getD s).seq = s.seq := by
  cases h : loadDescs s l with
  | none => rfl
  | some u => have e := loadDescs_keeps s u l h; simp [e]

@[simp] theorem loadDescs_tsu (s : State) (l : List Bytes) : ((loadDescs s l).getD s).tsu = s.tsu := by
  cases h : loadDescs s l with
  | none => rfl
  | some u => have e := loadDescs_keeps s u l h; simp [e]

@[simp] theorem loadDescs_hpr (s : State) (l : List Bytes) : ((loadDescs s l).getD s).hpr = s.hpr := by
  cases h : loadDescs s l with
  | none => rfl
  | some u => have e := loadDescs_keeps s u l h; simp [e]

@[simp] theorem loadDescs_net (s : State) (l : List Bytes) : ((loadDescs s l).getD s).net = s.net := by
  cases h : loadDescs s l with
  | none => rfl
  | some u => have e := loadDescs_keeps s u l h; simp [e]

@[simp] theorem loadDescs_app (s : State) (l : List Bytes) : ((loadDescs s l).getD s).app = s.app := by
  cases h : loadDescs s l with
  | none => rfl
  | some u => have e := loadDescs_keeps s u l h; simp [e]

@[simp] theorem loadDescs_icu (s : State) (l : List Bytes) : ((loadDescs s l).getD s).icu = s.icu := by
  cases h : loadDescs s l with
  | none => rfl
  | some u => have e := loadDescs_keeps s u l h; simp [e]

@[simp] theorem loadDescs_flt (s : State) (l : List Bytes) : ((loadDescs s l).getD s).flt = s.flt := by
  cases h : loadDescs s l with
  | none => rfl
  | some u => have e := loadDescs_keeps s u l h; simp [e]

@[simp] theorem loadDescs_plg (s : State) (l : List Bytes) : ((loadDescs s l).getD s).plg = s.plg := by
  cases h : loadDescs s l with
  | none => rfl
  | some u => have e := loadDescs_keeps s u l h; simp [e]

@[simp] theorem loadDescs_upd (s : State) (l : List Bytes) : ((loadDescs s l).getD s).upd = s.upd := by
  cases h : loadDescs s l with
  | none => rfl
  | some u => have e := loadDescs_keeps s u l h; simp [e]

@[simp] theorem loadDescs_mem (s : State) (l : List Bytes) : ((loadDescs s l).getD s).mem = s.mem := by
  cases h : loadDescs s l with
  | none => rfl
  | some u => have e := loadDescs_keeps s u l h; simp [e]

@[simp] theorem loadDescs_canRam (s : State) (l : List Bytes) : ((loadDescs s l).getD s).canRam = s.canRam := by
  cases h : loadDescs s l with
  | none => rfl
  | some u => have e := loadDescs_keeps s u l h; simp [e]

@[simp] theorem loadDescs_free (s : State) (l : List Bytes) : ((loadDescs s l).getD s).free = s.free := by
  cases h : loadDescs s l with
  | none => rfl
  | some u => have e := loadDescs_keeps s u l h; simp [e]

@[simp] theorem applyDirect_keeps (s : State) (x : Xfer) (target : Nat) :
    (applyDirect s x target).pending = s.pending ∧ (applyDirect s x target).variant = s.variant ∧
    (applyDirect s x target).clk = s.clk ∧ (applyDirect s x target).hviStr = s.hviStr ∧
    (applyDirect s x target).tpe = s.tpe ∧ (applyDirect s x target).th = s.th ∧
    (applyDirect s x target).dsp = s.dsp ∧ (applyDirect s x target).gx2 = s.gx2 ∧
    (applyDirect s x target).rack = s.rack ∧ (applyDirect s x target).seq = s.seq ∧
    (applyDirect s x target).tsu = s.tsu ∧ (applyDirect s x target).net = s.net ∧
    (applyDirect s x target).canRam = s.canRam ∧ (applyDirect s x target).free = s.free := by
  unfold applyDirect; dsimp only; (repeat' split) <;> simp

@[simp] theorem startHandover_keeps (s : State) (a : Activation) :
    (startHandover s a).pending = s.pending ∧ (startHandover s a).variant = s.variant ∧
    (startHandover s a).clk = s.clk ∧ (startHandover s a).unit = s.unit ∧ (startHandover s a).str = s.str ∧
    (startHandover s a).pwr = s.pwr ∧ (startHandover s a).hvi = s.hvi ∧ (startHandover s a).hviStr = s.hviStr ∧
    (startHandover s a).rings = s.rings ∧ (startHandover s a).cee = s.cee ∧ (startHandover s a).tpe = s.tpe ∧
    (startHandover s a).th = s.th ∧ (startHandover s a).bal = s.bal ∧ (startHandover s a).dsp = s.dsp ∧
    (startHandover s a).conv = s.conv ∧ (startHandover s a).phase = s.phase ∧ (startHandover s a).gx2 = s.gx2 ∧
    (startHandover s a).le = s.le ∧ (startHandover s a).saf = s.saf ∧ (startHandover s a).red = s.red ∧
    (startHandover s a).rack = s.rack ∧ (startHandover s a).seq = s.seq ∧ (startHandover s a).tsu = s.tsu ∧
    (startHandover s a).net = s.net ∧ (startHandover s a).app = s.app ∧ (startHandover s a).icu = s.icu ∧
    (startHandover s a).flt = s.flt ∧ (startHandover s a).plg = s.plg ∧ (startHandover s a).mem = s.mem ∧
    (startHandover s a).canRam = s.canRam ∧ (startHandover s a).free = s.free := by
  unfold startHandover; (repeat' split) <;> simp

@[simp] theorem startSp_keeps (s : State) (a : Activation) :
    (startSp s a).pending = s.pending ∧ (startSp s a).variant = s.variant ∧ (startSp s a).clk = s.clk ∧
    (startSp s a).unit = s.unit ∧ (startSp s a).str = s.str ∧ (startSp s a).pwr = s.pwr ∧ (startSp s a).hvi = s.hvi ∧
    (startSp s a).hviStr = s.hviStr ∧ (startSp s a).rings = s.rings ∧ (startSp s a).cee = s.cee ∧
    (startSp s a).tpe = s.tpe ∧ (startSp s a).th = s.th ∧ (startSp s a).bal = s.bal ∧ (startSp s a).dsp = s.dsp ∧
    (startSp s a).conv = s.conv ∧ (startSp s a).phase = s.phase ∧ (startSp s a).gx2 = s.gx2 ∧
    (startSp s a).le = s.le ∧ (startSp s a).red = s.red ∧ (startSp s a).rack = s.rack ∧ (startSp s a).seq = s.seq ∧
    (startSp s a).tsu = s.tsu ∧ (startSp s a).hpr = s.hpr ∧ (startSp s a).net = s.net ∧ (startSp s a).app = s.app ∧
    (startSp s a).icu = s.icu ∧ (startSp s a).flt = s.flt ∧ (startSp s a).plg = s.plg ∧ (startSp s a).mem = s.mem ∧
    (startSp s a).canRam = s.canRam ∧ (startSp s a).free = s.free := by
  unfold startSp; (repeat' split) <;> simp

@[simp] theorem recoverImage_keeps (s : State) (t : Nat) :
    (recoverImage s t).pending = s.pending ∧ (recoverImage s t).variant = s.variant ∧
    (recoverImage s t).clk = s.clk ∧ (recoverImage s t).unit = s.unit ∧ (recoverImage s t).str = s.str ∧
    (recoverImage s t).pwr = s.pwr ∧ (recoverImage s t).hvi = s.hvi ∧ (recoverImage s t).hviStr = s.hviStr ∧
    (recoverImage s t).rings = s.rings ∧ (recoverImage s t).cee = s.cee ∧ (recoverImage s t).tpe = s.tpe ∧
    (recoverImage s t).th = s.th ∧ (recoverImage s t).bal = s.bal ∧ (recoverImage s t).dsp = s.dsp ∧
    (recoverImage s t).conv = s.conv ∧ (recoverImage s t).phase = s.phase ∧ (recoverImage s t).gx2 = s.gx2 ∧
    (recoverImage s t).le = s.le ∧ (recoverImage s t).saf = s.saf ∧ (recoverImage s t).red = s.red ∧
    (recoverImage s t).rack = s.rack ∧ (recoverImage s t).seq = s.seq ∧ (recoverImage s t).tsu = s.tsu ∧
    (recoverImage s t).hpr = s.hpr ∧ (recoverImage s t).net = s.net ∧ (recoverImage s t).app = s.app ∧
    (recoverImage s t).icu = s.icu ∧ (recoverImage s t).flt = s.flt ∧ (recoverImage s t).plg = s.plg ∧
    (recoverImage s t).mem = s.mem ∧ (recoverImage s t).canRam = s.canRam ∧ (recoverImage s t).free = s.free := by
  unfold recoverImage; (repeat' split) <;> simp

@[simp] theorem activate_keeps (s : State) (q : Req) :
    (activate s q).pending = s.pending ∧ (activate s q).variant = s.variant ∧ (activate s q).clk = s.clk ∧
    (activate s q).free = s.free := by
  unfold activate; dsimp only; (repeat' split) <;> simp

@[simp] theorem enterRecovery_keeps (s : State) (cause : Nat) :
    (enterRecovery s cause).pending = s.pending ∧ (enterRecovery s cause).variant = s.variant ∧
    (enterRecovery s cause).clk = s.clk ∧ (enterRecovery s cause).hviStr = s.hviStr ∧
    (enterRecovery s cause).cee = s.cee ∧ (enterRecovery s cause).tpe = s.tpe ∧ (enterRecovery s cause).th = s.th ∧
    (enterRecovery s cause).dsp = s.dsp ∧ (enterRecovery s cause).gx2 = s.gx2 ∧ (enterRecovery s cause).le = s.le ∧
    (enterRecovery s cause).rack = s.rack ∧ (enterRecovery s cause).seq = s.seq ∧
    (enterRecovery s cause).tsu = s.tsu ∧ (enterRecovery s cause).net = s.net ∧ (enterRecovery s cause).flt = s.flt ∧
    (enterRecovery s cause).canRam = s.canRam ∧ (enterRecovery s cause).free = s.free := by
  unfold enterRecovery; (repeat' split) <;> simp

@[simp] theorem toRecovery_keeps (s : State) :
    (toRecovery s).pending = s.pending ∧ (toRecovery s).variant = s.variant ∧ (toRecovery s).clk = s.clk ∧
    (toRecovery s).hviStr = s.hviStr ∧ (toRecovery s).cee = s.cee ∧ (toRecovery s).tpe = s.tpe ∧
    (toRecovery s).th = s.th ∧ (toRecovery s).dsp = s.dsp ∧ (toRecovery s).gx2 = s.gx2 ∧ (toRecovery s).le = s.le ∧
    (toRecovery s).rack = s.rack ∧ (toRecovery s).seq = s.seq ∧ (toRecovery s).tsu = s.tsu ∧
    (toRecovery s).net = s.net ∧ (toRecovery s).flt = s.flt ∧ (toRecovery s).canRam = s.canRam ∧
    (toRecovery s).free = s.free := by
  unfold toRecovery; (repeat' split) <;> simp

@[simp] theorem noImage_keeps (s : State) (p : Nat) :
    (noImage s p).pending = s.pending ∧ (noImage s p).variant = s.variant ∧ (noImage s p).clk = s.clk ∧
    (noImage s p).hviStr = s.hviStr ∧ (noImage s p).cee = s.cee ∧ (noImage s p).tpe = s.tpe ∧
    (noImage s p).th = s.th ∧ (noImage s p).dsp = s.dsp ∧ (noImage s p).gx2 = s.gx2 ∧ (noImage s p).le = s.le ∧
    (noImage s p).rack = s.rack ∧ (noImage s p).seq = s.seq ∧ (noImage s p).tsu = s.tsu ∧ (noImage s p).net = s.net ∧
    (noImage s p).flt = s.flt ∧ (noImage s p).canRam = s.canRam ∧ (noImage s p).free = s.free := by
  unfold noImage; (repeat' split) <;> simp

@[simp] theorem fallBack_keeps (s : State) (p : Nat) :
    (fallBack s p).pending = s.pending ∧ (fallBack s p).variant = s.variant ∧ (fallBack s p).clk = s.clk ∧
    (fallBack s p).hviStr = s.hviStr ∧ (fallBack s p).cee = s.cee ∧ (fallBack s p).tpe = s.tpe ∧
    (fallBack s p).th = s.th ∧ (fallBack s p).dsp = s.dsp ∧ (fallBack s p).gx2 = s.gx2 ∧ (fallBack s p).le = s.le ∧
    (fallBack s p).rack = s.rack ∧ (fallBack s p).seq = s.seq ∧ (fallBack s p).flt = s.flt ∧
    (fallBack s p).canRam = s.canRam ∧ (fallBack s p).free = s.free := by
  unfold fallBack; (repeat' split) <;> simp

@[simp] theorem windowExceeded_keeps (s : State) (a : Activation) :
    (windowExceeded s a).pending = s.pending ∧ (windowExceeded s a).variant = s.variant ∧
    (windowExceeded s a).clk = s.clk ∧ (windowExceeded s a).hviStr = s.hviStr ∧ (windowExceeded s a).cee = s.cee ∧
    (windowExceeded s a).tpe = s.tpe ∧ (windowExceeded s a).th = s.th ∧ (windowExceeded s a).dsp = s.dsp ∧
    (windowExceeded s a).gx2 = s.gx2 ∧ (windowExceeded s a).le = s.le ∧ (windowExceeded s a).rack = s.rack ∧
    (windowExceeded s a).seq = s.seq ∧ (windowExceeded s a).tsu = s.tsu ∧ (windowExceeded s a).net = s.net ∧
    (windowExceeded s a).canRam = s.canRam ∧ (windowExceeded s a).free = s.free := by
  unfold windowExceeded; dsimp only; split <;> simp

@[simp] theorem confirm_keeps (s : State) (p : Nat) :
    (confirm s p).pending = s.pending ∧ (confirm s p).variant = s.variant ∧ (confirm s p).clk = s.clk ∧
    (confirm s p).unit = s.unit ∧ (confirm s p).str = s.str ∧ (confirm s p).pwr = s.pwr ∧ (confirm s p).hvi = s.hvi ∧
    (confirm s p).hviStr = s.hviStr ∧ (confirm s p).rings = s.rings ∧ (confirm s p).cee = s.cee ∧
    (confirm s p).tpe = s.tpe ∧ (confirm s p).th = s.th ∧ (confirm s p).bal = s.bal ∧ (confirm s p).dsp = s.dsp ∧
    (confirm s p).conv = s.conv ∧ (confirm s p).phase = s.phase ∧ (confirm s p).gx2 = s.gx2 ∧
    (confirm s p).le = s.le ∧ (confirm s p).saf = s.saf ∧ (confirm s p).rack = s.rack ∧ (confirm s p).seq = s.seq ∧
    (confirm s p).tsu = s.tsu ∧ (confirm s p).hpr = s.hpr ∧ (confirm s p).net = s.net ∧ (confirm s p).app = s.app ∧
    (confirm s p).icu = s.icu ∧ (confirm s p).flt = s.flt ∧ (confirm s p).plg = s.plg ∧ (confirm s p).mem = s.mem ∧
    (confirm s p).canRam = s.canRam ∧ (confirm s p).free = s.free := by
  unfold confirm; (repeat' split) <;> simp

@[simp] theorem bootTrial_keeps (s : State) (p : Nat) :
    (bootTrial s p).pending = s.pending ∧ (bootTrial s p).variant = s.variant ∧ (bootTrial s p).clk = s.clk ∧
    (bootTrial s p).unit = s.unit ∧ (bootTrial s p).str = s.str ∧ (bootTrial s p).pwr = s.pwr ∧
    (bootTrial s p).hvi = s.hvi ∧ (bootTrial s p).hviStr = s.hviStr ∧ (bootTrial s p).rings = s.rings ∧
    (bootTrial s p).cee = s.cee ∧ (bootTrial s p).tpe = s.tpe ∧ (bootTrial s p).th = s.th ∧
    (bootTrial s p).bal = s.bal ∧ (bootTrial s p).dsp = s.dsp ∧ (bootTrial s p).conv = s.conv ∧
    (bootTrial s p).phase = s.phase ∧ (bootTrial s p).gx2 = s.gx2 ∧ (bootTrial s p).le = s.le ∧
    (bootTrial s p).saf = s.saf ∧ (bootTrial s p).red = s.red ∧ (bootTrial s p).rack = s.rack ∧
    (bootTrial s p).seq = s.seq ∧ (bootTrial s p).tsu = s.tsu ∧ (bootTrial s p).hpr = s.hpr ∧
    (bootTrial s p).net = s.net ∧ (bootTrial s p).app = s.app ∧ (bootTrial s p).flt = s.flt ∧
    (bootTrial s p).mem = s.mem ∧ (bootTrial s p).canRam = s.canRam ∧ (bootTrial s p).free = s.free := by
  unfold bootTrial; (repeat' split) <;> simp

@[simp] theorem bootBank_keeps (s : State) (p : Nat) :
    (bootBank s p).pending = s.pending ∧ (bootBank s p).variant = s.variant ∧ (bootBank s p).clk = s.clk ∧
    (bootBank s p).unit = s.unit ∧ (bootBank s p).str = s.str ∧ (bootBank s p).pwr = s.pwr ∧
    (bootBank s p).hvi = s.hvi ∧ (bootBank s p).hviStr = s.hviStr ∧ (bootBank s p).rings = s.rings ∧
    (bootBank s p).cee = s.cee ∧ (bootBank s p).tpe = s.tpe ∧ (bootBank s p).th = s.th ∧ (bootBank s p).bal = s.bal ∧
    (bootBank s p).dsp = s.dsp ∧ (bootBank s p).conv = s.conv ∧ (bootBank s p).phase = s.phase ∧
    (bootBank s p).gx2 = s.gx2 ∧ (bootBank s p).le = s.le ∧ (bootBank s p).saf = s.saf ∧ (bootBank s p).red = s.red ∧
    (bootBank s p).rack = s.rack ∧ (bootBank s p).seq = s.seq ∧ (bootBank s p).tsu = s.tsu ∧
    (bootBank s p).hpr = s.hpr ∧ (bootBank s p).net = s.net ∧ (bootBank s p).app = s.app ∧
    (bootBank s p).flt = s.flt ∧ (bootBank s p).mem = s.mem ∧ (bootBank s p).canRam = s.canRam ∧
    (bootBank s p).free = s.free := by
  unfold bootBank; (repeat' split) <;> simp

@[simp] theorem fwFrame_keeps (s : State) (i m op result : Nat) (f : MonFw → MonFw) :
    (fwFrame s i m op result f).pending = s.pending ∧ (fwFrame s i m op result f).variant = s.variant ∧
    (fwFrame s i m op result f).clk = s.clk ∧ (fwFrame s i m op result f).unit = s.unit ∧
    (fwFrame s i m op result f).str = s.str ∧ (fwFrame s i m op result f).pwr = s.pwr ∧
    (fwFrame s i m op result f).hvi = s.hvi ∧ (fwFrame s i m op result f).hviStr = s.hviStr ∧
    (fwFrame s i m op result f).cee = s.cee ∧ (fwFrame s i m op result f).tpe = s.tpe ∧
    (fwFrame s i m op result f).th = s.th ∧ (fwFrame s i m op result f).bal = s.bal ∧
    (fwFrame s i m op result f).dsp = s.dsp ∧ (fwFrame s i m op result f).conv = s.conv ∧
    (fwFrame s i m op result f).phase = s.phase ∧ (fwFrame s i m op result f).gx2 = s.gx2 ∧
    (fwFrame s i m op result f).le = s.le ∧ (fwFrame s i m op result f).saf = s.saf ∧
    (fwFrame s i m op result f).red = s.red ∧ (fwFrame s i m op result f).rack = s.rack ∧
    (fwFrame s i m op result f).seq = s.seq ∧ (fwFrame s i m op result f).tsu = s.tsu ∧
    (fwFrame s i m op result f).hpr = s.hpr ∧ (fwFrame s i m op result f).net = s.net ∧
    (fwFrame s i m op result f).app = s.app ∧ (fwFrame s i m op result f).icu = s.icu ∧
    (fwFrame s i m op result f).flt = s.flt ∧ (fwFrame s i m op result f).plg = s.plg ∧
    (fwFrame s i m op result f).upd = s.upd ∧ (fwFrame s i m op result f).mem = s.mem ∧
    (fwFrame s i m op result f).canRam = s.canRam ∧ (fwFrame s i m op result f).free = s.free := by
  unfold fwFrame; (repeat' split) <;> simp

end Sys2Proof.Machine
end

