-- ==== Sys2Proof/Laws/Hostif.lean ====
section
/-! SUPPORT. What the operations of Hostif leave alone. -/

namespace Sys2Proof.Machine

@[simp] theorem hprErr_keeps (s : State) (port : Port) (bit : Nat) :
    (hprErr s port bit).pending = s.pending ∧ (hprErr s port bit).variant = s.variant ∧
    (hprErr s port bit).clk = s.clk ∧ (hprErr s port bit).unit = s.unit ∧ (hprErr s port bit).str = s.str ∧
    (hprErr s port bit).pwr = s.pwr ∧ (hprErr s port bit).hvi = s.hvi ∧ (hprErr s port bit).hviStr = s.hviStr ∧
    (hprErr s port bit).rings = s.rings ∧ (hprErr s port bit).cee = s.cee ∧ (hprErr s port bit).tpe = s.tpe ∧
    (hprErr s port bit).th = s.th ∧ (hprErr s port bit).bal = s.bal ∧ (hprErr s port bit).dsp = s.dsp ∧
    (hprErr s port bit).conv = s.conv ∧ (hprErr s port bit).phase = s.phase ∧ (hprErr s port bit).gx2 = s.gx2 ∧
    (hprErr s port bit).le = s.le ∧ (hprErr s port bit).saf = s.saf ∧ (hprErr s port bit).red = s.red ∧
    (hprErr s port bit).rack = s.rack ∧ (hprErr s port bit).seq = s.seq ∧ (hprErr s port bit).tsu = s.tsu ∧
    (hprErr s port bit).net = s.net ∧ (hprErr s port bit).app = s.app ∧ (hprErr s port bit).flt = s.flt ∧
    (hprErr s port bit).plg = s.plg ∧ (hprErr s port bit).upd = s.upd ∧ (hprErr s port bit).mem = s.mem ∧
    (hprErr s port bit).canRam = s.canRam ∧ (hprErr s port bit).free = s.free := by
  unfold hprErr; (repeat' split) <;> simp

@[simp] theorem postSlots_keeps (s : State) (port : Port) (mask : BitVec 16) :
    (postSlots s port mask).pending = s.pending ∧ (postSlots s port mask).variant = s.variant ∧
    (postSlots s port mask).clk = s.clk ∧ (postSlots s port mask).unit = s.unit ∧
    (postSlots s port mask).str = s.str ∧ (postSlots s port mask).pwr = s.pwr ∧ (postSlots s port mask).hvi = s.hvi ∧
    (postSlots s port mask).hviStr = s.hviStr ∧ (postSlots s port mask).rings = s.rings ∧
    (postSlots s port mask).cee = s.cee ∧ (postSlots s port mask).tpe = s.tpe ∧ (postSlots s port mask).th = s.th ∧
    (postSlots s port mask).bal = s.bal ∧ (postSlots s port mask).dsp = s.dsp ∧
    (postSlots s port mask).conv = s.conv ∧ (postSlots s port mask).phase = s.phase ∧
    (postSlots s port mask).gx2 = s.gx2 ∧ (postSlots s port mask).le = s.le ∧ (postSlots s port mask).saf = s.saf ∧
    (postSlots s port mask).red = s.red ∧ (postSlots s port mask).rack = s.rack ∧
    (postSlots s port mask).seq = s.seq ∧ (postSlots s port mask).tsu = s.tsu ∧ (postSlots s port mask).net = s.net ∧
    (postSlots s port mask).app = s.app ∧ (postSlots s port mask).flt = s.flt ∧ (postSlots s port mask).plg = s.plg ∧
    (postSlots s port mask).upd = s.upd ∧ (postSlots s port mask).mem = s.mem ∧
    (postSlots s port mask).canRam = s.canRam ∧ (postSlots s port mask).free = s.free := by
  unfold postSlots; (repeat' split) <;> simp

@[simp] theorem clearDone_keeps (s : State) (port : Port) (mask : BitVec 16) :
    (clearDone s port mask).pending = s.pending ∧ (clearDone s port mask).variant = s.variant ∧
    (clearDone s port mask).clk = s.clk ∧ (clearDone s port mask).unit = s.unit ∧
    (clearDone s port mask).str = s.str ∧ (clearDone s port mask).pwr = s.pwr ∧ (clearDone s port mask).hvi = s.hvi ∧
    (clearDone s port mask).hviStr = s.hviStr ∧ (clearDone s port mask).rings = s.rings ∧
    (clearDone s port mask).cee = s.cee ∧ (clearDone s port mask).tpe = s.tpe ∧ (clearDone s port mask).th = s.th ∧
    (clearDone s port mask).bal = s.bal ∧ (clearDone s port mask).dsp = s.dsp ∧
    (clearDone s port mask).conv = s.conv ∧ (clearDone s port mask).phase = s.phase ∧
    (clearDone s port mask).gx2 = s.gx2 ∧ (clearDone s port mask).le = s.le ∧ (clearDone s port mask).saf = s.saf ∧
    (clearDone s port mask).red = s.red ∧ (clearDone s port mask).rack = s.rack ∧
    (clearDone s port mask).seq = s.seq ∧ (clearDone s port mask).tsu = s.tsu ∧ (clearDone s port mask).net = s.net ∧
    (clearDone s port mask).app = s.app ∧ (clearDone s port mask).icu = s.icu ∧ (clearDone s port mask).flt = s.flt ∧
    (clearDone s port mask).plg = s.plg ∧ (clearDone s port mask).upd = s.upd ∧ (clearDone s port mask).mem = s.mem ∧
    (clearDone s port mask).canRam = s.canRam ∧ (clearDone s port mask).free = s.free := by
  unfold clearDone; (repeat' split) <;> simp

@[simp] theorem clearErr_keeps (s : State) (mask : BitVec 32) :
    (clearErr s mask).pending = s.pending ∧ (clearErr s mask).variant = s.variant ∧ (clearErr s mask).clk = s.clk ∧
    (clearErr s mask).unit = s.unit ∧ (clearErr s mask).str = s.str ∧ (clearErr s mask).pwr = s.pwr ∧
    (clearErr s mask).hvi = s.hvi ∧ (clearErr s mask).hviStr = s.hviStr ∧ (clearErr s mask).rings = s.rings ∧
    (clearErr s mask).cee = s.cee ∧ (clearErr s mask).tpe = s.tpe ∧ (clearErr s mask).th = s.th ∧
    (clearErr s mask).bal = s.bal ∧ (clearErr s mask).dsp = s.dsp ∧ (clearErr s mask).conv = s.conv ∧
    (clearErr s mask).phase = s.phase ∧ (clearErr s mask).gx2 = s.gx2 ∧ (clearErr s mask).le = s.le ∧
    (clearErr s mask).saf = s.saf ∧ (clearErr s mask).red = s.red ∧ (clearErr s mask).rack = s.rack ∧
    (clearErr s mask).seq = s.seq ∧ (clearErr s mask).tsu = s.tsu ∧ (clearErr s mask).net = s.net ∧
    (clearErr s mask).app = s.app ∧ (clearErr s mask).icu = s.icu ∧ (clearErr s mask).flt = s.flt ∧
    (clearErr s mask).plg = s.plg ∧ (clearErr s mask).upd = s.upd ∧ (clearErr s mask).mem = s.mem ∧
    (clearErr s mask).canRam = s.canRam ∧ (clearErr s mask).free = s.free := by
  unfold clearErr; (repeat' split) <;> simp

@[simp] theorem hostWrite_keeps (s : State) (off : Nat) (v : BitVec 32) :
    (hostWrite s off v).pending = s.pending ∧ (hostWrite s off v).variant = s.variant ∧
    (hostWrite s off v).clk = s.clk ∧ (hostWrite s off v).unit = s.unit ∧ (hostWrite s off v).str = s.str ∧
    (hostWrite s off v).pwr = s.pwr ∧ (hostWrite s off v).hvi = s.hvi ∧ (hostWrite s off v).hviStr = s.hviStr ∧
    (hostWrite s off v).rings = s.rings ∧ (hostWrite s off v).cee = s.cee ∧ (hostWrite s off v).tpe = s.tpe ∧
    (hostWrite s off v).th = s.th ∧ (hostWrite s off v).bal = s.bal ∧ (hostWrite s off v).dsp = s.dsp ∧
    (hostWrite s off v).conv = s.conv ∧ (hostWrite s off v).phase = s.phase ∧ (hostWrite s off v).gx2 = s.gx2 ∧
    (hostWrite s off v).le = s.le ∧ (hostWrite s off v).saf = s.saf ∧ (hostWrite s off v).red = s.red ∧
    (hostWrite s off v).rack = s.rack ∧ (hostWrite s off v).seq = s.seq ∧ (hostWrite s off v).tsu = s.tsu ∧
    (hostWrite s off v).net = s.net ∧ (hostWrite s off v).app = s.app ∧ (hostWrite s off v).flt = s.flt ∧
    (hostWrite s off v).plg = s.plg ∧ (hostWrite s off v).upd = s.upd ∧ (hostWrite s off v).mem = s.mem ∧
    (hostWrite s off v).canRam = s.canRam ∧ (hostWrite s off v).free = s.free := by
  unfold hostWrite; (repeat' split) <;> simp

@[simp] theorem appWrite_keeps (s : State) (off : Nat) (v : BitVec 32) :
    (appWrite s off v).pending = s.pending ∧ (appWrite s off v).variant = s.variant ∧
    (appWrite s off v).clk = s.clk ∧ (appWrite s off v).unit = s.unit ∧ (appWrite s off v).str = s.str ∧
    (appWrite s off v).pwr = s.pwr ∧ (appWrite s off v).hvi = s.hvi ∧ (appWrite s off v).hviStr = s.hviStr ∧
    (appWrite s off v).rings = s.rings ∧ (appWrite s off v).cee = s.cee ∧ (appWrite s off v).tpe = s.tpe ∧
    (appWrite s off v).th = s.th ∧ (appWrite s off v).bal = s.bal ∧ (appWrite s off v).dsp = s.dsp ∧
    (appWrite s off v).conv = s.conv ∧ (appWrite s off v).phase = s.phase ∧ (appWrite s off v).gx2 = s.gx2 ∧
    (appWrite s off v).le = s.le ∧ (appWrite s off v).saf = s.saf ∧ (appWrite s off v).red = s.red ∧
    (appWrite s off v).rack = s.rack ∧ (appWrite s off v).seq = s.seq ∧ (appWrite s off v).tsu = s.tsu ∧
    (appWrite s off v).net = s.net ∧ (appWrite s off v).flt = s.flt ∧ (appWrite s off v).plg = s.plg ∧
    (appWrite s off v).upd = s.upd ∧ (appWrite s off v).mem = s.mem ∧ (appWrite s off v).canRam = s.canRam ∧
    (appWrite s off v).free = s.free := by
  unfold appWrite; (repeat' split) <;> simp

@[simp] theorem hostRead_keeps (s : State) (off : Nat) :
    (hostRead s off).1.pending = s.pending ∧ (hostRead s off).1.variant = s.variant ∧
    (hostRead s off).1.clk = s.clk ∧ (hostRead s off).1.unit = s.unit ∧ (hostRead s off).1.str = s.str ∧
    (hostRead s off).1.pwr = s.pwr ∧ (hostRead s off).1.hvi = s.hvi ∧ (hostRead s off).1.hviStr = s.hviStr ∧
    (hostRead s off).1.rings = s.rings ∧ (hostRead s off).1.cee = s.cee ∧ (hostRead s off).1.tpe = s.tpe ∧
    (hostRead s off).1.th = s.th ∧ (hostRead s off).1.bal = s.bal ∧ (hostRead s off).1.dsp = s.dsp ∧
    (hostRead s off).1.conv = s.conv ∧ (hostRead s off).1.phase = s.phase ∧ (hostRead s off).1.gx2 = s.gx2 ∧
    (hostRead s off).1.le = s.le ∧ (hostRead s off).1.saf = s.saf ∧ (hostRead s off).1.red = s.red ∧
    (hostRead s off).1.rack = s.rack ∧ (hostRead s off).1.seq = s.seq ∧ (hostRead s off).1.tsu = s.tsu ∧
    (hostRead s off).1.hpr = s.hpr ∧ (hostRead s off).1.net = s.net ∧ (hostRead s off).1.app = s.app ∧
    (hostRead s off).1.flt = s.flt ∧ (hostRead s off).1.plg = s.plg ∧ (hostRead s off).1.upd = s.upd ∧
    (hostRead s off).1.mem = s.mem ∧ (hostRead s off).1.canRam = s.canRam ∧ (hostRead s off).1.free = s.free := by
  unfold hostRead; dsimp only; (repeat' split) <;> simp

@[simp] theorem writeOwn_keeps (s : State) (port : Port) (d v : Nat) :
    (writeOwn s port d v).1.pending = s.pending ∧ (writeOwn s port d v).1.variant = s.variant ∧
    (writeOwn s port d v).1.clk = s.clk ∧ (writeOwn s port d v).1.unit = s.unit ∧
    (writeOwn s port d v).1.str = s.str ∧ (writeOwn s port d v).1.pwr = s.pwr ∧ (writeOwn s port d v).1.hvi = s.hvi ∧
    (writeOwn s port d v).1.hviStr = s.hviStr ∧ (writeOwn s port d v).1.rings = s.rings ∧
    (writeOwn s port d v).1.cee = s.cee ∧ (writeOwn s port d v).1.tpe = s.tpe ∧ (writeOwn s port d v).1.th = s.th ∧
    (writeOwn s port d v).1.bal = s.bal ∧ (writeOwn s port d v).1.dsp = s.dsp ∧
    (writeOwn s port d v).1.conv = s.conv ∧ (writeOwn s port d v).1.phase = s.phase ∧
    (writeOwn s port d v).1.gx2 = s.gx2 ∧ (writeOwn s port d v).1.le = s.le ∧ (writeOwn s port d v).1.saf = s.saf ∧
    (writeOwn s port d v).1.red = s.red ∧ (writeOwn s port d v).1.rack = s.rack ∧
    (writeOwn s port d v).1.seq = s.seq ∧ (writeOwn s port d v).1.tsu = s.tsu ∧ (writeOwn s port d v).1.net = s.net ∧
    (writeOwn s port d v).1.app = s.app ∧ (writeOwn s port d v).1.flt = s.flt ∧ (writeOwn s port d v).1.plg = s.plg ∧
    (writeOwn s port d v).1.upd = s.upd ∧ (writeOwn s port d v).1.mem = s.mem ∧
    (writeOwn s port d v).1.canRam = s.canRam ∧ (writeOwn s port d v).1.free = s.free := by
  unfold writeOwn; dsimp only; split <;> simp

@[simp] theorem writeBuf_keeps (s : State) (port : Port) (o : Nat) (b : Byte) :
    (writeBuf s port o b).1.pending = s.pending ∧ (writeBuf s port o b).1.variant = s.variant ∧
    (writeBuf s port o b).1.clk = s.clk ∧ (writeBuf s port o b).1.unit = s.unit ∧
    (writeBuf s port o b).1.str = s.str ∧ (writeBuf s port o b).1.pwr = s.pwr ∧ (writeBuf s port o b).1.hvi = s.hvi ∧
    (writeBuf s port o b).1.hviStr = s.hviStr ∧ (writeBuf s port o b).1.rings = s.rings ∧
    (writeBuf s port o b).1.cee = s.cee ∧ (writeBuf s port o b).1.tpe = s.tpe ∧ (writeBuf s port o b).1.th = s.th ∧
    (writeBuf s port o b).1.bal = s.bal ∧ (writeBuf s port o b).1.dsp = s.dsp ∧
    (writeBuf s port o b).1.conv = s.conv ∧ (writeBuf s port o b).1.phase = s.phase ∧
    (writeBuf s port o b).1.gx2 = s.gx2 ∧ (writeBuf s port o b).1.le = s.le ∧ (writeBuf s port o b).1.saf = s.saf ∧
    (writeBuf s port o b).1.red = s.red ∧ (writeBuf s port o b).1.rack = s.rack ∧
    (writeBuf s port o b).1.seq = s.seq ∧ (writeBuf s port o b).1.tsu = s.tsu ∧ (writeBuf s port o b).1.net = s.net ∧
    (writeBuf s port o b).1.app = s.app ∧ (writeBuf s port o b).1.flt = s.flt ∧ (writeBuf s port o b).1.plg = s.plg ∧
    (writeBuf s port o b).1.upd = s.upd ∧ (writeBuf s port o b).1.canRam = s.canRam ∧
    (writeBuf s port o b).1.free = s.free := by
  unfold writeBuf; (repeat' split) <;> simp

@[simp] theorem winWrite_keeps (s : State) (port : Port) (o : Nat) (b : Bytes) :
    ((winWrite s port o b).1).pending = s.pending ∧ ((winWrite s port o b).1).variant = s.variant ∧
    ((winWrite s port o b).1).clk = s.clk ∧ ((winWrite s port o b).1).unit = s.unit ∧
    ((winWrite s port o b).1).str = s.str ∧ ((winWrite s port o b).1).pwr = s.pwr ∧
    ((winWrite s port o b).1).hvi = s.hvi ∧ ((winWrite s port o b).1).hviStr = s.hviStr ∧
    ((winWrite s port o b).1).rings = s.rings ∧ ((winWrite s port o b).1).cee = s.cee ∧
    ((winWrite s port o b).1).tpe = s.tpe ∧ ((winWrite s port o b).1).th = s.th ∧
    ((winWrite s port o b).1).bal = s.bal ∧ ((winWrite s port o b).1).dsp = s.dsp ∧
    ((winWrite s port o b).1).conv = s.conv ∧ ((winWrite s port o b).1).phase = s.phase ∧
    ((winWrite s port o b).1).gx2 = s.gx2 ∧ ((winWrite s port o b).1).le = s.le ∧
    ((winWrite s port o b).1).saf = s.saf ∧ ((winWrite s port o b).1).red = s.red ∧
    ((winWrite s port o b).1).rack = s.rack ∧ ((winWrite s port o b).1).seq = s.seq ∧
    ((winWrite s port o b).1).tsu = s.tsu ∧ ((winWrite s port o b).1).net = s.net ∧
    ((winWrite s port o b).1).app = s.app ∧ ((winWrite s port o b).1).flt = s.flt ∧
    ((winWrite s port o b).1).plg = s.plg ∧ ((winWrite s port o b).1).upd = s.upd ∧
    ((winWrite s port o b).1).canRam = s.canRam ∧ ((winWrite s port o b).1).free = s.free := by
  induction b generalizing s o with
  | nil => simp [winWrite]
  | cons a r ih => unfold winWrite; dsimp only; (repeat' split) <;> simp [ih]

@[simp] theorem writeWindow_keeps (s : State) (port : Port) (o : Nat) (b : Bytes) :
    (writeWindow s port o b).1.pending = s.pending ∧ (writeWindow s port o b).1.variant = s.variant ∧
    (writeWindow s port o b).1.clk = s.clk ∧ (writeWindow s port o b).1.unit = s.unit ∧
    (writeWindow s port o b).1.str = s.str ∧ (writeWindow s port o b).1.pwr = s.pwr ∧
    (writeWindow s port o b).1.hvi = s.hvi ∧ (writeWindow s port o b).1.hviStr = s.hviStr ∧
    (writeWindow s port o b).1.rings = s.rings ∧ (writeWindow s port o b).1.cee = s.cee ∧
    (writeWindow s port o b).1.tpe = s.tpe ∧ (writeWindow s port o b).1.th = s.th ∧
    (writeWindow s port o b).1.bal = s.bal ∧ (writeWindow s port o b).1.dsp = s.dsp ∧
    (writeWindow s port o b).1.conv = s.conv ∧ (writeWindow s port o b).1.phase = s.phase ∧
    (writeWindow s port o b).1.gx2 = s.gx2 ∧ (writeWindow s port o b).1.le = s.le ∧
    (writeWindow s port o b).1.saf = s.saf ∧ (writeWindow s port o b).1.red = s.red ∧
    (writeWindow s port o b).1.rack = s.rack ∧ (writeWindow s port o b).1.seq = s.seq ∧
    (writeWindow s port o b).1.tsu = s.tsu ∧ (writeWindow s port o b).1.net = s.net ∧
    (writeWindow s port o b).1.app = s.app ∧ (writeWindow s port o b).1.flt = s.flt ∧
    (writeWindow s port o b).1.plg = s.plg ∧ (writeWindow s port o b).1.upd = s.upd ∧
    (writeWindow s port o b).1.canRam = s.canRam ∧ (writeWindow s port o b).1.free = s.free := by
  unfold writeWindow; dsimp only; (repeat' split) <;> simp

@[simp] theorem readWords_keeps (s : State) (off n : Nat) :
    ((readWords s off n).1).pending = s.pending ∧ ((readWords s off n).1).variant = s.variant ∧
    ((readWords s off n).1).clk = s.clk ∧ ((readWords s off n).1).unit = s.unit ∧
    ((readWords s off n).1).str = s.str ∧ ((readWords s off n).1).pwr = s.pwr ∧ ((readWords s off n).1).hvi = s.hvi ∧
    ((readWords s off n).1).hviStr = s.hviStr ∧ ((readWords s off n).1).rings = s.rings ∧
    ((readWords s off n).1).cee = s.cee ∧ ((readWords s off n).1).tpe = s.tpe ∧ ((readWords s off n).1).th = s.th ∧
    ((readWords s off n).1).bal = s.bal ∧ ((readWords s off n).1).dsp = s.dsp ∧
    ((readWords s off n).1).conv = s.conv ∧ ((readWords s off n).1).phase = s.phase ∧
    ((readWords s off n).1).gx2 = s.gx2 ∧ ((readWords s off n).1).le = s.le ∧ ((readWords s off n).1).saf = s.saf ∧
    ((readWords s off n).1).red = s.red ∧ ((readWords s off n).1).rack = s.rack ∧
    ((readWords s off n).1).seq = s.seq ∧ ((readWords s off n).1).tsu = s.tsu ∧ ((readWords s off n).1).hpr = s.hpr ∧
    ((readWords s off n).1).net = s.net ∧ ((readWords s off n).1).app = s.app ∧ ((readWords s off n).1).flt = s.flt ∧
    ((readWords s off n).1).plg = s.plg ∧ ((readWords s off n).1).upd = s.upd ∧ ((readWords s off n).1).mem = s.mem ∧
    ((readWords s off n).1).canRam = s.canRam ∧ ((readWords s off n).1).free = s.free := by
  induction n generalizing s off with
  | zero => simp [readWords]
  | succ n ih => unfold readWords; dsimp only; simp [ih]

@[simp] theorem readRegion_keeps (s : State) (a n : Nat) :
    (readRegion s a n).1.pending = s.pending ∧ (readRegion s a n).1.variant = s.variant ∧
    (readRegion s a n).1.clk = s.clk ∧ (readRegion s a n).1.unit = s.unit ∧ (readRegion s a n).1.str = s.str ∧
    (readRegion s a n).1.pwr = s.pwr ∧ (readRegion s a n).1.hvi = s.hvi ∧ (readRegion s a n).1.hviStr = s.hviStr ∧
    (readRegion s a n).1.rings = s.rings ∧ (readRegion s a n).1.cee = s.cee ∧ (readRegion s a n).1.tpe = s.tpe ∧
    (readRegion s a n).1.th = s.th ∧ (readRegion s a n).1.bal = s.bal ∧ (readRegion s a n).1.dsp = s.dsp ∧
    (readRegion s a n).1.conv = s.conv ∧ (readRegion s a n).1.phase = s.phase ∧ (readRegion s a n).1.gx2 = s.gx2 ∧
    (readRegion s a n).1.le = s.le ∧ (readRegion s a n).1.saf = s.saf ∧ (readRegion s a n).1.red = s.red ∧
    (readRegion s a n).1.rack = s.rack ∧ (readRegion s a n).1.seq = s.seq ∧ (readRegion s a n).1.tsu = s.tsu ∧
    (readRegion s a n).1.net = s.net ∧ (readRegion s a n).1.app = s.app ∧ (readRegion s a n).1.flt = s.flt ∧
    (readRegion s a n).1.plg = s.plg ∧ (readRegion s a n).1.upd = s.upd ∧ (readRegion s a n).1.mem = s.mem ∧
    (readRegion s a n).1.canRam = s.canRam := by
  unfold readRegion; (repeat' split) <;> simp

@[simp] theorem writeWords_keeps (s : State) (off : Nat) (b : Bytes) :
    (writeWords s off b).pending = s.pending ∧ (writeWords s off b).variant = s.variant ∧
    (writeWords s off b).clk = s.clk ∧ (writeWords s off b).unit = s.unit ∧ (writeWords s off b).str = s.str ∧
    (writeWords s off b).pwr = s.pwr ∧ (writeWords s off b).hvi = s.hvi ∧ (writeWords s off b).hviStr = s.hviStr ∧
    (writeWords s off b).rings = s.rings ∧ (writeWords s off b).cee = s.cee ∧ (writeWords s off b).tpe = s.tpe ∧
    (writeWords s off b).th = s.th ∧ (writeWords s off b).bal = s.bal ∧ (writeWords s off b).dsp = s.dsp ∧
    (writeWords s off b).conv = s.conv ∧ (writeWords s off b).phase = s.phase ∧ (writeWords s off b).gx2 = s.gx2 ∧
    (writeWords s off b).le = s.le ∧ (writeWords s off b).saf = s.saf ∧ (writeWords s off b).red = s.red ∧
    (writeWords s off b).rack = s.rack ∧ (writeWords s off b).seq = s.seq ∧ (writeWords s off b).tsu = s.tsu ∧
    (writeWords s off b).net = s.net ∧ (writeWords s off b).app = s.app ∧ (writeWords s off b).flt = s.flt ∧
    (writeWords s off b).plg = s.plg ∧ (writeWords s off b).upd = s.upd ∧ (writeWords s off b).mem = s.mem ∧
    (writeWords s off b).canRam = s.canRam ∧ (writeWords s off b).free = s.free := by
  fun_induction writeWords s off b with
  | case1 s off a b c d r ih => simpa using ih
  | case2 => simp

@[simp] theorem writeSlots_keeps (s : State) (a : Nat) (b : Bytes) :
    (writeSlots s a b).pending = s.pending ∧ (writeSlots s a b).variant = s.variant ∧
    (writeSlots s a b).clk = s.clk ∧ (writeSlots s a b).unit = s.unit ∧ (writeSlots s a b).str = s.str ∧
    (writeSlots s a b).pwr = s.pwr ∧ (writeSlots s a b).hvi = s.hvi ∧ (writeSlots s a b).hviStr = s.hviStr ∧
    (writeSlots s a b).rings = s.rings ∧ (writeSlots s a b).cee = s.cee ∧ (writeSlots s a b).tpe = s.tpe ∧
    (writeSlots s a b).th = s.th ∧ (writeSlots s a b).bal = s.bal ∧ (writeSlots s a b).dsp = s.dsp ∧
    (writeSlots s a b).conv = s.conv ∧ (writeSlots s a b).phase = s.phase ∧ (writeSlots s a b).gx2 = s.gx2 ∧
    (writeSlots s a b).le = s.le ∧ (writeSlots s a b).saf = s.saf ∧ (writeSlots s a b).red = s.red ∧
    (writeSlots s a b).rack = s.rack ∧ (writeSlots s a b).seq = s.seq ∧ (writeSlots s a b).tsu = s.tsu ∧
    (writeSlots s a b).net = s.net ∧ (writeSlots s a b).app = s.app ∧ (writeSlots s a b).flt = s.flt ∧
    (writeSlots s a b).plg = s.plg ∧ (writeSlots s a b).upd = s.upd ∧ (writeSlots s a b).canRam = s.canRam ∧
    (writeSlots s a b).free = s.free := by
  induction b generalizing s a with
  | nil => simp [writeSlots]
  | cons x r ih => unfold writeSlots; dsimp only; (repeat' split) <;> simp [ih]

@[simp] theorem writeRegion_keeps (s : State) (a : Nat) (b : Bytes) :
    (writeRegion s a b).pending = s.pending ∧ (writeRegion s a b).variant = s.variant ∧
    (writeRegion s a b).clk = s.clk ∧ (writeRegion s a b).unit = s.unit ∧ (writeRegion s a b).str = s.str ∧
    (writeRegion s a b).pwr = s.pwr ∧ (writeRegion s a b).hvi = s.hvi ∧ (writeRegion s a b).hviStr = s.hviStr ∧
    (writeRegion s a b).rings = s.rings ∧ (writeRegion s a b).cee = s.cee ∧ (writeRegion s a b).tpe = s.tpe ∧
    (writeRegion s a b).th = s.th ∧ (writeRegion s a b).bal = s.bal ∧ (writeRegion s a b).dsp = s.dsp ∧
    (writeRegion s a b).conv = s.conv ∧ (writeRegion s a b).phase = s.phase ∧ (writeRegion s a b).gx2 = s.gx2 ∧
    (writeRegion s a b).le = s.le ∧ (writeRegion s a b).saf = s.saf ∧ (writeRegion s a b).red = s.red ∧
    (writeRegion s a b).rack = s.rack ∧ (writeRegion s a b).seq = s.seq ∧ (writeRegion s a b).tsu = s.tsu ∧
    (writeRegion s a b).net = s.net ∧ (writeRegion s a b).app = s.app ∧ (writeRegion s a b).flt = s.flt ∧
    (writeRegion s a b).plg = s.plg ∧ (writeRegion s a b).upd = s.upd ∧ (writeRegion s a b).canRam = s.canRam ∧
    (writeRegion s a b).free = s.free := by
  unfold writeRegion; (repeat' split) <;> simp

@[simp] theorem enterSlot_keeps (s : State) (n client net : Nat) (body : Bytes) :
    (enterSlot s n client net body).pending = s.pending ∧ (enterSlot s n client net body).variant = s.variant ∧
    (enterSlot s n client net body).clk = s.clk ∧ (enterSlot s n client net body).unit = s.unit ∧
    (enterSlot s n client net body).str = s.str ∧ (enterSlot s n client net body).pwr = s.pwr ∧
    (enterSlot s n client net body).hvi = s.hvi ∧ (enterSlot s n client net body).hviStr = s.hviStr ∧
    (enterSlot s n client net body).rings = s.rings ∧ (enterSlot s n client net body).cee = s.cee ∧
    (enterSlot s n client net body).tpe = s.tpe ∧ (enterSlot s n client net body).th = s.th ∧
    (enterSlot s n client net body).bal = s.bal ∧ (enterSlot s n client net body).dsp = s.dsp ∧
    (enterSlot s n client net body).conv = s.conv ∧ (enterSlot s n client net body).phase = s.phase ∧
    (enterSlot s n client net body).gx2 = s.gx2 ∧ (enterSlot s n client net body).le = s.le ∧
    (enterSlot s n client net body).saf = s.saf ∧ (enterSlot s n client net body).red = s.red ∧
    (enterSlot s n client net body).rack = s.rack ∧ (enterSlot s n client net body).seq = s.seq ∧
    (enterSlot s n client net body).tsu = s.tsu ∧ (enterSlot s n client net body).net = s.net ∧
    (enterSlot s n client net body).app = s.app ∧ (enterSlot s n client net body).icu = s.icu ∧
    (enterSlot s n client net body).flt = s.flt ∧ (enterSlot s n client net body).plg = s.plg ∧
    (enterSlot s n client net body).upd = s.upd ∧ (enterSlot s n client net body).canRam = s.canRam ∧
    (enterSlot s n client net body).free = s.free := by
  unfold enterSlot; (repeat' split) <;> simp

@[simp] theorem mgmtSend_keeps (s : State) (net k type : Nat) (body : Bytes) :
    (mgmtSend s net k type body).pending = s.pending ∧ (mgmtSend s net k type body).variant = s.variant ∧
    (mgmtSend s net k type body).clk = s.clk ∧ (mgmtSend s net k type body).unit = s.unit ∧
    (mgmtSend s net k type body).str = s.str ∧ (mgmtSend s net k type body).pwr = s.pwr ∧
    (mgmtSend s net k type body).hvi = s.hvi ∧ (mgmtSend s net k type body).hviStr = s.hviStr ∧
    (mgmtSend s net k type body).rings = s.rings ∧ (mgmtSend s net k type body).cee = s.cee ∧
    (mgmtSend s net k type body).tpe = s.tpe ∧ (mgmtSend s net k type body).th = s.th ∧
    (mgmtSend s net k type body).bal = s.bal ∧ (mgmtSend s net k type body).dsp = s.dsp ∧
    (mgmtSend s net k type body).conv = s.conv ∧ (mgmtSend s net k type body).phase = s.phase ∧
    (mgmtSend s net k type body).gx2 = s.gx2 ∧ (mgmtSend s net k type body).le = s.le ∧
    (mgmtSend s net k type body).saf = s.saf ∧ (mgmtSend s net k type body).red = s.red ∧
    (mgmtSend s net k type body).rack = s.rack ∧ (mgmtSend s net k type body).seq = s.seq ∧
    (mgmtSend s net k type body).tsu = s.tsu ∧ (mgmtSend s net k type body).net = s.net ∧
    (mgmtSend s net k type body).app = s.app ∧ (mgmtSend s net k type body).icu = s.icu ∧
    (mgmtSend s net k type body).flt = s.flt ∧ (mgmtSend s net k type body).plg = s.plg ∧
    (mgmtSend s net k type body).upd = s.upd ∧ (mgmtSend s net k type body).mem = s.mem ∧
    (mgmtSend s net k type body).canRam = s.canRam ∧ (mgmtSend s net k type body).free = s.free := by
  unfold mgmtSend; (repeat' split) <;> simp

@[simp] theorem mgmtError_keeps (s : State) (net k code : Nat) :
    (mgmtError s net k code).pending = s.pending ∧ (mgmtError s net k code).variant = s.variant ∧
    (mgmtError s net k code).clk = s.clk ∧ (mgmtError s net k code).unit = s.unit ∧
    (mgmtError s net k code).str = s.str ∧ (mgmtError s net k code).pwr = s.pwr ∧
    (mgmtError s net k code).hvi = s.hvi ∧ (mgmtError s net k code).hviStr = s.hviStr ∧
    (mgmtError s net k code).rings = s.rings ∧ (mgmtError s net k code).cee = s.cee ∧
    (mgmtError s net k code).tpe = s.tpe ∧ (mgmtError s net k code).th = s.th ∧
    (mgmtError s net k code).bal = s.bal ∧ (mgmtError s net k code).dsp = s.dsp ∧
    (mgmtError s net k code).conv = s.conv ∧ (mgmtError s net k code).phase = s.phase ∧
    (mgmtError s net k code).gx2 = s.gx2 ∧ (mgmtError s net k code).le = s.le ∧
    (mgmtError s net k code).saf = s.saf ∧ (mgmtError s net k code).red = s.red ∧
    (mgmtError s net k code).rack = s.rack ∧ (mgmtError s net k code).seq = s.seq ∧
    (mgmtError s net k code).tsu = s.tsu ∧ (mgmtError s net k code).net = s.net ∧
    (mgmtError s net k code).app = s.app ∧ (mgmtError s net k code).icu = s.icu ∧
    (mgmtError s net k code).flt = s.flt ∧ (mgmtError s net k code).plg = s.plg ∧
    (mgmtError s net k code).upd = s.upd ∧ (mgmtError s net k code).mem = s.mem ∧
    (mgmtError s net k code).canRam = s.canRam ∧ (mgmtError s net k code).free = s.free := by
  unfold mgmtError; (repeat' split) <;> simp

@[simp] theorem mgmtResource_keeps (s : State) (net k : Nat) (body : Bytes) :
    (mgmtResource s net k body).pending = s.pending ∧ (mgmtResource s net k body).variant = s.variant ∧
    (mgmtResource s net k body).clk = s.clk ∧ (mgmtResource s net k body).unit = s.unit ∧
    (mgmtResource s net k body).str = s.str ∧ (mgmtResource s net k body).pwr = s.pwr ∧
    (mgmtResource s net k body).hvi = s.hvi ∧ (mgmtResource s net k body).hviStr = s.hviStr ∧
    (mgmtResource s net k body).rings = s.rings ∧ (mgmtResource s net k body).cee = s.cee ∧
    (mgmtResource s net k body).tpe = s.tpe ∧ (mgmtResource s net k body).th = s.th ∧
    (mgmtResource s net k body).bal = s.bal ∧ (mgmtResource s net k body).dsp = s.dsp ∧
    (mgmtResource s net k body).conv = s.conv ∧ (mgmtResource s net k body).phase = s.phase ∧
    (mgmtResource s net k body).gx2 = s.gx2 ∧ (mgmtResource s net k body).le = s.le ∧
    (mgmtResource s net k body).saf = s.saf ∧ (mgmtResource s net k body).red = s.red ∧
    (mgmtResource s net k body).rack = s.rack ∧ (mgmtResource s net k body).seq = s.seq ∧
    (mgmtResource s net k body).tsu = s.tsu ∧ (mgmtResource s net k body).net = s.net ∧
    (mgmtResource s net k body).app = s.app ∧ (mgmtResource s net k body).icu = s.icu ∧
    (mgmtResource s net k body).flt = s.flt ∧ (mgmtResource s net k body).plg = s.plg ∧
    (mgmtResource s net k body).upd = s.upd ∧ (mgmtResource s net k body).mem = s.mem ∧
    (mgmtResource s net k body).canRam = s.canRam ∧ (mgmtResource s net k body).free = s.free := by
  unfold mgmtResource; (repeat' split) <;> simp

theorem mgmtFrame_proj {γ : Type} (p : State → γ) (s : State) (net src : Nat) (b : Bytes) (ty : Nat) (run : State → Nat → Bytes → State)
    (e1 : ∀ s f, p (State.setHpr s f) = p s) (e2 : ∀ s net k c, p (mgmtError s net k c) = p s)
    (e3 : True)
    (h : ∀ s k b, p (run s k b) = p s) : p (mgmtFrame s net src b ty run) = p s := by
  unfold mgmtFrame; (repeat' split) <;> simp [h, e1, e2, e3]

@[simp] theorem mgmtFrame_pending (s : State) (net src : Nat) (b : Bytes) (ty : Nat) (run : State → Nat → Bytes → State)
    (h : ∀ s k b, (run s k b).pending = s.pending) : (mgmtFrame s net src b ty run).pending = s.pending :=
  mgmtFrame_proj State.pending s net src b ty run (by simp) (by simp) (by simp) h

@[simp] theorem mgmtFrame_variant (s : State) (net src : Nat) (b : Bytes) (ty : Nat) (run : State → Nat → Bytes → State)
    (h : ∀ s k b, (run s k b).variant = s.variant) : (mgmtFrame s net src b ty run).variant = s.variant :=
  mgmtFrame_proj State.variant s net src b ty run (by simp) (by simp) (by simp) h

@[simp] theorem mgmtFrame_clk (s : State) (net src : Nat) (b : Bytes) (ty : Nat) (run : State → Nat → Bytes → State)
    (h : ∀ s k b, (run s k b).clk = s.clk) : (mgmtFrame s net src b ty run).clk = s.clk :=
  mgmtFrame_proj State.clk s net src b ty run (by simp) (by simp) (by simp) h

@[simp] theorem mgmtFrame_unit (s : State) (net src : Nat) (b : Bytes) (ty : Nat) (run : State → Nat → Bytes → State)
    (h : ∀ s k b, (run s k b).unit = s.unit) : (mgmtFrame s net src b ty run).unit = s.unit :=
  mgmtFrame_proj State.unit s net src b ty run (by simp) (by simp) (by simp) h

@[simp] theorem mgmtFrame_str (s : State) (net src : Nat) (b : Bytes) (ty : Nat) (run : State → Nat → Bytes → State)
    (h : ∀ s k b, (run s k b).str = s.str) : (mgmtFrame s net src b ty run).str = s.str :=
  mgmtFrame_proj State.str s net src b ty run (by simp) (by simp) (by simp) h

@[simp] theorem mgmtFrame_pwr (s : State) (net src : Nat) (b : Bytes) (ty : Nat) (run : State → Nat → Bytes → State)
    (h : ∀ s k b, (run s k b).pwr = s.pwr) : (mgmtFrame s net src b ty run).pwr = s.pwr :=
  mgmtFrame_proj State.pwr s net src b ty run (by simp) (by simp) (by simp) h

@[simp] theorem mgmtFrame_hvi (s : State) (net src : Nat) (b : Bytes) (ty : Nat) (run : State → Nat → Bytes → State)
    (h : ∀ s k b, (run s k b).hvi = s.hvi) : (mgmtFrame s net src b ty run).hvi = s.hvi :=
  mgmtFrame_proj State.hvi s net src b ty run (by simp) (by simp) (by simp) h

@[simp] theorem mgmtFrame_hviStr (s : State) (net src : Nat) (b : Bytes) (ty : Nat) (run : State → Nat → Bytes → State)
    (h : ∀ s k b, (run s k b).hviStr = s.hviStr) : (mgmtFrame s net src b ty run).hviStr = s.hviStr :=
  mgmtFrame_proj State.hviStr s net src b ty run (by simp) (by simp) (by simp) h

@[simp] theorem mgmtFrame_rings (s : State) (net src : Nat) (b : Bytes) (ty : Nat) (run : State → Nat → Bytes → State)
    (h : ∀ s k b, (run s k b).rings = s.rings) : (mgmtFrame s net src b ty run).rings = s.rings :=
  mgmtFrame_proj State.rings s net src b ty run (by simp) (by simp) (by simp) h

@[simp] theorem mgmtFrame_cee (s : State) (net src : Nat) (b : Bytes) (ty : Nat) (run : State → Nat → Bytes → State)
    (h : ∀ s k b, (run s k b).cee = s.cee) : (mgmtFrame s net src b ty run).cee = s.cee :=
  mgmtFrame_proj State.cee s net src b ty run (by simp) (by simp) (by simp) h

@[simp] theorem mgmtFrame_tpe (s : State) (net src : Nat) (b : Bytes) (ty : Nat) (run : State → Nat → Bytes → State)
    (h : ∀ s k b, (run s k b).tpe = s.tpe) : (mgmtFrame s net src b ty run).tpe = s.tpe :=
  mgmtFrame_proj State.tpe s net src b ty run (by simp) (by simp) (by simp) h

@[simp] theorem mgmtFrame_th (s : State) (net src : Nat) (b : Bytes) (ty : Nat) (run : State → Nat → Bytes → State)
    (h : ∀ s k b, (run s k b).th = s.th) : (mgmtFrame s net src b ty run).th = s.th :=
  mgmtFrame_proj State.th s net src b ty run (by simp) (by simp) (by simp) h

@[simp] theorem mgmtFrame_bal (s : State) (net src : Nat) (b : Bytes) (ty : Nat) (run : State → Nat → Bytes → State)
    (h : ∀ s k b, (run s k b).bal = s.bal) : (mgmtFrame s net src b ty run).bal = s.bal :=
  mgmtFrame_proj State.bal s net src b ty run (by simp) (by simp) (by simp) h

@[simp] theorem mgmtFrame_dsp (s : State) (net src : Nat) (b : Bytes) (ty : Nat) (run : State → Nat → Bytes → State)
    (h : ∀ s k b, (run s k b).dsp = s.dsp) : (mgmtFrame s net src b ty run).dsp = s.dsp :=
  mgmtFrame_proj State.dsp s net src b ty run (by simp) (by simp) (by simp) h

@[simp] theorem mgmtFrame_conv (s : State) (net src : Nat) (b : Bytes) (ty : Nat) (run : State → Nat → Bytes → State)
    (h : ∀ s k b, (run s k b).conv = s.conv) : (mgmtFrame s net src b ty run).conv = s.conv :=
  mgmtFrame_proj State.conv s net src b ty run (by simp) (by simp) (by simp) h

@[simp] theorem mgmtFrame_phase (s : State) (net src : Nat) (b : Bytes) (ty : Nat) (run : State → Nat → Bytes → State)
    (h : ∀ s k b, (run s k b).phase = s.phase) : (mgmtFrame s net src b ty run).phase = s.phase :=
  mgmtFrame_proj State.phase s net src b ty run (by simp) (by simp) (by simp) h

@[simp] theorem mgmtFrame_gx2 (s : State) (net src : Nat) (b : Bytes) (ty : Nat) (run : State → Nat → Bytes → State)
    (h : ∀ s k b, (run s k b).gx2 = s.gx2) : (mgmtFrame s net src b ty run).gx2 = s.gx2 :=
  mgmtFrame_proj State.gx2 s net src b ty run (by simp) (by simp) (by simp) h

@[simp] theorem mgmtFrame_le (s : State) (net src : Nat) (b : Bytes) (ty : Nat) (run : State → Nat → Bytes → State)
    (h : ∀ s k b, (run s k b).le = s.le) : (mgmtFrame s net src b ty run).le = s.le :=
  mgmtFrame_proj State.le s net src b ty run (by simp) (by simp) (by simp) h

@[simp] theorem mgmtFrame_saf (s : State) (net src : Nat) (b : Bytes) (ty : Nat) (run : State → Nat → Bytes → State)
    (h : ∀ s k b, (run s k b).saf = s.saf) : (mgmtFrame s net src b ty run).saf = s.saf :=
  mgmtFrame_proj State.saf s net src b ty run (by simp) (by simp) (by simp) h

@[simp] theorem mgmtFrame_red (s : State) (net src : Nat) (b : Bytes) (ty : Nat) (run : State → Nat → Bytes → State)
    (h : ∀ s k b, (run s k b).red = s.red) : (mgmtFrame s net src b ty run).red = s.red :=
  mgmtFrame_proj State.red s net src b ty run (by simp) (by simp) (by simp) h

@[simp] theorem mgmtFrame_rack (s : State) (net src : Nat) (b : Bytes) (ty : Nat) (run : State → Nat → Bytes → State)
    (h : ∀ s k b, (run s k b).rack = s.rack) : (mgmtFrame s net src b ty run).rack = s.rack :=
  mgmtFrame_proj State.rack s net src b ty run (by simp) (by simp) (by simp) h

@[simp] theorem mgmtFrame_seq (s : State) (net src : Nat) (b : Bytes) (ty : Nat) (run : State → Nat → Bytes → State)
    (h : ∀ s k b, (run s k b).seq = s.seq) : (mgmtFrame s net src b ty run).seq = s.seq :=
  mgmtFrame_proj State.seq s net src b ty run (by simp) (by simp) (by simp) h

@[simp] theorem mgmtFrame_tsu (s : State) (net src : Nat) (b : Bytes) (ty : Nat) (run : State → Nat → Bytes → State)
    (h : ∀ s k b, (run s k b).tsu = s.tsu) : (mgmtFrame s net src b ty run).tsu = s.tsu :=
  mgmtFrame_proj State.tsu s net src b ty run (by simp) (by simp) (by simp) h

@[simp] theorem mgmtFrame_net (s : State) (net src : Nat) (b : Bytes) (ty : Nat) (run : State → Nat → Bytes → State)
    (h : ∀ s k b, (run s k b).net = s.net) : (mgmtFrame s net src b ty run).net = s.net :=
  mgmtFrame_proj State.net s net src b ty run (by simp) (by simp) (by simp) h

@[simp] theorem mgmtFrame_app (s : State) (net src : Nat) (b : Bytes) (ty : Nat) (run : State → Nat → Bytes → State)
    (h : ∀ s k b, (run s k b).app = s.app) : (mgmtFrame s net src b ty run).app = s.app :=
  mgmtFrame_proj State.app s net src b ty run (by simp) (by simp) (by simp) h

@[simp] theorem mgmtFrame_icu (s : State) (net src : Nat) (b : Bytes) (ty : Nat) (run : State → Nat → Bytes → State)
    (h : ∀ s k b, (run s k b).icu = s.icu) : (mgmtFrame s net src b ty run).icu = s.icu :=
  mgmtFrame_proj State.icu s net src b ty run (by simp) (by simp) (by simp) h

@[simp] theorem mgmtFrame_flt (s : State) (net src : Nat) (b : Bytes) (ty : Nat) (run : State → Nat → Bytes → State)
    (h : ∀ s k b, (run s k b).flt = s.flt) : (mgmtFrame s net src b ty run).flt = s.flt :=
  mgmtFrame_proj State.flt s net src b ty run (by simp) (by simp) (by simp) h

@[simp] theorem mgmtFrame_plg (s : State) (net src : Nat) (b : Bytes) (ty : Nat) (run : State → Nat → Bytes → State)
    (h : ∀ s k b, (run s k b).plg = s.plg) : (mgmtFrame s net src b ty run).plg = s.plg :=
  mgmtFrame_proj State.plg s net src b ty run (by simp) (by simp) (by simp) h

@[simp] theorem mgmtFrame_upd (s : State) (net src : Nat) (b : Bytes) (ty : Nat) (run : State → Nat → Bytes → State)
    (h : ∀ s k b, (run s k b).upd = s.upd) : (mgmtFrame s net src b ty run).upd = s.upd :=
  mgmtFrame_proj State.upd s net src b ty run (by simp) (by simp) (by simp) h

@[simp] theorem mgmtFrame_mem (s : State) (net src : Nat) (b : Bytes) (ty : Nat) (run : State → Nat → Bytes → State)
    (h : ∀ s k b, (run s k b).mem = s.mem) : (mgmtFrame s net src b ty run).mem = s.mem :=
  mgmtFrame_proj State.mem s net src b ty run (by simp) (by simp) (by simp) h

@[simp] theorem mgmtFrame_canRam (s : State) (net src : Nat) (b : Bytes) (ty : Nat) (run : State → Nat → Bytes → State)
    (h : ∀ s k b, (run s k b).canRam = s.canRam) : (mgmtFrame s net src b ty run).canRam = s.canRam :=
  mgmtFrame_proj State.canRam s net src b ty run (by simp) (by simp) (by simp) h

@[simp] theorem mgmtFrame_free (s : State) (net src : Nat) (b : Bytes) (ty : Nat) (run : State → Nat → Bytes → State)
    (h : ∀ s k b, (run s k b).free = s.free) : (mgmtFrame s net src b ty run).free = s.free :=
  mgmtFrame_proj State.free s net src b ty run (by simp) (by simp) (by simp) h

end Sys2Proof.Machine
end

