-- ==== Sys2Proof/Laws/Peer.lean ====
section
/-! SUPPORT. What the operations of Peer leave alone. -/

namespace Sys2Proof.Machine

@[simp] theorem applyRecord_keeps (op : Nat) (p : Bytes) (s : State) :
    (applyRecord op p s).pending = s.pending ∧ (applyRecord op p s).variant = s.variant ∧
    (applyRecord op p s).clk = s.clk ∧ (applyRecord op p s).hviStr = s.hviStr ∧ (applyRecord op p s).seq = s.seq ∧
    (applyRecord op p s).tsu = s.tsu ∧ (applyRecord op p s).net = s.net ∧ (applyRecord op p s).upd = s.upd ∧
    (applyRecord op p s).canRam = s.canRam ∧ (applyRecord op p s).free = s.free := by
  unfold applyRecord; (repeat' split) <;> simp

@[simp] theorem takeHello_keeps (s : State) (m : PeerMsg) (identity variant floor : Nat) (levels : List (Nat × Nat × Nat × Nat)) (crc : Nat) :
    (takeHello s m identity variant floor levels crc).pending = s.pending ∧
    (takeHello s m identity variant floor levels crc).variant = s.variant ∧
    (takeHello s m identity variant floor levels crc).clk = s.clk ∧
    (takeHello s m identity variant floor levels crc).unit = s.unit ∧
    (takeHello s m identity variant floor levels crc).str = s.str ∧
    (takeHello s m identity variant floor levels crc).pwr = s.pwr ∧
    (takeHello s m identity variant floor levels crc).hvi = s.hvi ∧
    (takeHello s m identity variant floor levels crc).hviStr = s.hviStr ∧
    (takeHello s m identity variant floor levels crc).rings = s.rings ∧
    (takeHello s m identity variant floor levels crc).cee = s.cee ∧
    (takeHello s m identity variant floor levels crc).tpe = s.tpe ∧
    (takeHello s m identity variant floor levels crc).th = s.th ∧
    (takeHello s m identity variant floor levels crc).bal = s.bal ∧
    (takeHello s m identity variant floor levels crc).dsp = s.dsp ∧
    (takeHello s m identity variant floor levels crc).conv = s.conv ∧
    (takeHello s m identity variant floor levels crc).phase = s.phase ∧
    (takeHello s m identity variant floor levels crc).gx2 = s.gx2 ∧
    (takeHello s m identity variant floor levels crc).le = s.le ∧
    (takeHello s m identity variant floor levels crc).rack = s.rack ∧
    (takeHello s m identity variant floor levels crc).seq = s.seq ∧
    (takeHello s m identity variant floor levels crc).tsu = s.tsu ∧
    (takeHello s m identity variant floor levels crc).hpr = s.hpr ∧
    (takeHello s m identity variant floor levels crc).net = s.net ∧
    (takeHello s m identity variant floor levels crc).app = s.app ∧
    (takeHello s m identity variant floor levels crc).flt = s.flt ∧
    (takeHello s m identity variant floor levels crc).upd = s.upd ∧
    (takeHello s m identity variant floor levels crc).mem = s.mem ∧
    (takeHello s m identity variant floor levels crc).canRam = s.canRam ∧
    (takeHello s m identity variant floor levels crc).free = s.free := by
  unfold takeHello; (repeat' split) <;> simp

@[simp] theorem mirrorString_keeps (codes : List Nat) (s : State) (i : Nat) :
    (mirrorString codes s i).pending = s.pending ∧ (mirrorString codes s i).variant = s.variant ∧
    (mirrorString codes s i).clk = s.clk ∧ (mirrorString codes s i).unit = s.unit ∧
    (mirrorString codes s i).pwr = s.pwr ∧ (mirrorString codes s i).hvi = s.hvi ∧
    (mirrorString codes s i).hviStr = s.hviStr ∧ (mirrorString codes s i).rings = s.rings ∧
    (mirrorString codes s i).cee = s.cee ∧ (mirrorString codes s i).tpe = s.tpe ∧
    (mirrorString codes s i).th = s.th ∧ (mirrorString codes s i).bal = s.bal ∧
    (mirrorString codes s i).dsp = s.dsp ∧ (mirrorString codes s i).gx2 = s.gx2 ∧
    (mirrorString codes s i).le = s.le ∧ (mirrorString codes s i).saf = s.saf ∧
    (mirrorString codes s i).red = s.red ∧ (mirrorString codes s i).rack = s.rack ∧
    (mirrorString codes s i).seq = s.seq ∧ (mirrorString codes s i).tsu = s.tsu ∧
    (mirrorString codes s i).net = s.net ∧ (mirrorString codes s i).app = s.app ∧
    (mirrorString codes s i).flt = s.flt ∧ (mirrorString codes s i).upd = s.upd ∧
    (mirrorString codes s i).mem = s.mem ∧ (mirrorString codes s i).canRam = s.canRam ∧
    (mirrorString codes s i).free = s.free := by
  unfold mirrorString; (repeat' split) <;> simp

@[simp] theorem takeState_keeps (s : State) (m : PeerMsg) (strings tiers : List Nat) (vin : Bool) (e : List Nat) :
    (takeState s m strings tiers vin e).pending = s.pending ∧
    (takeState s m strings tiers vin e).variant = s.variant ∧ (takeState s m strings tiers vin e).clk = s.clk ∧
    (takeState s m strings tiers vin e).unit = s.unit ∧ (takeState s m strings tiers vin e).pwr = s.pwr ∧
    (takeState s m strings tiers vin e).hvi = s.hvi ∧ (takeState s m strings tiers vin e).hviStr = s.hviStr ∧
    (takeState s m strings tiers vin e).rings = s.rings ∧ (takeState s m strings tiers vin e).cee = s.cee ∧
    (takeState s m strings tiers vin e).tpe = s.tpe ∧ (takeState s m strings tiers vin e).th = s.th ∧
    (takeState s m strings tiers vin e).bal = s.bal ∧ (takeState s m strings tiers vin e).dsp = s.dsp ∧
    (takeState s m strings tiers vin e).gx2 = s.gx2 ∧ (takeState s m strings tiers vin e).le = s.le ∧
    (takeState s m strings tiers vin e).saf = s.saf ∧ (takeState s m strings tiers vin e).rack = s.rack ∧
    (takeState s m strings tiers vin e).seq = s.seq ∧ (takeState s m strings tiers vin e).tsu = s.tsu ∧
    (takeState s m strings tiers vin e).net = s.net ∧ (takeState s m strings tiers vin e).app = s.app ∧
    (takeState s m strings tiers vin e).flt = s.flt ∧ (takeState s m strings tiers vin e).upd = s.upd ∧
    (takeState s m strings tiers vin e).mem = s.mem ∧ (takeState s m strings tiers vin e).canRam = s.canRam ∧
    (takeState s m strings tiers vin e).free = s.free := by
  unfold takeState; (repeat' split) <;> simp

@[simp] theorem takeDispatch_keeps (s : State) (m : PeerMsg) (target : Int) (inForce : Option (Bytes × Nat × Bool)) (queue : List (Bytes × Nat × Bool)) :
    (takeDispatch s m target inForce queue).pending = s.pending ∧
    (takeDispatch s m target inForce queue).variant = s.variant ∧
    (takeDispatch s m target inForce queue).clk = s.clk ∧ (takeDispatch s m target inForce queue).unit = s.unit ∧
    (takeDispatch s m target inForce queue).str = s.str ∧ (takeDispatch s m target inForce queue).pwr = s.pwr ∧
    (takeDispatch s m target inForce queue).hvi = s.hvi ∧ (takeDispatch s m target inForce queue).hviStr = s.hviStr ∧
    (takeDispatch s m target inForce queue).rings = s.rings ∧ (takeDispatch s m target inForce queue).cee = s.cee ∧
    (takeDispatch s m target inForce queue).tpe = s.tpe ∧ (takeDispatch s m target inForce queue).th = s.th ∧
    (takeDispatch s m target inForce queue).bal = s.bal ∧ (takeDispatch s m target inForce queue).conv = s.conv ∧
    (takeDispatch s m target inForce queue).phase = s.phase ∧ (takeDispatch s m target inForce queue).gx2 = s.gx2 ∧
    (takeDispatch s m target inForce queue).le = s.le ∧ (takeDispatch s m target inForce queue).saf = s.saf ∧
    (takeDispatch s m target inForce queue).rack = s.rack ∧ (takeDispatch s m target inForce queue).seq = s.seq ∧
    (takeDispatch s m target inForce queue).tsu = s.tsu ∧ (takeDispatch s m target inForce queue).hpr = s.hpr ∧
    (takeDispatch s m target inForce queue).net = s.net ∧ (takeDispatch s m target inForce queue).app = s.app ∧
    (takeDispatch s m target inForce queue).icu = s.icu ∧ (takeDispatch s m target inForce queue).flt = s.flt ∧
    (takeDispatch s m target inForce queue).plg = s.plg ∧ (takeDispatch s m target inForce queue).upd = s.upd ∧
    (takeDispatch s m target inForce queue).mem = s.mem ∧ (takeDispatch s m target inForce queue).canRam = s.canRam ∧
    (takeDispatch s m target inForce queue).free = s.free := by
  unfold takeDispatch; (repeat' split) <;> simp

@[simp] theorem takeSwapRequest_keeps (s : State) (m : PeerMsg) (ts : Nat) :
    (takeSwapRequest s m ts).pending = s.pending ∧ (takeSwapRequest s m ts).variant = s.variant ∧
    (takeSwapRequest s m ts).clk = s.clk ∧ (takeSwapRequest s m ts).unit = s.unit ∧
    (takeSwapRequest s m ts).str = s.str ∧ (takeSwapRequest s m ts).pwr = s.pwr ∧
    (takeSwapRequest s m ts).hvi = s.hvi ∧ (takeSwapRequest s m ts).hviStr = s.hviStr ∧
    (takeSwapRequest s m ts).rings = s.rings ∧ (takeSwapRequest s m ts).cee = s.cee ∧
    (takeSwapRequest s m ts).tpe = s.tpe ∧ (takeSwapRequest s m ts).th = s.th ∧
    (takeSwapRequest s m ts).bal = s.bal ∧ (takeSwapRequest s m ts).dsp = s.dsp ∧
    (takeSwapRequest s m ts).conv = s.conv ∧ (takeSwapRequest s m ts).phase = s.phase ∧
    (takeSwapRequest s m ts).gx2 = s.gx2 ∧ (takeSwapRequest s m ts).le = s.le ∧
    (takeSwapRequest s m ts).saf = s.saf ∧ (takeSwapRequest s m ts).rack = s.rack ∧
    (takeSwapRequest s m ts).seq = s.seq ∧ (takeSwapRequest s m ts).tsu = s.tsu ∧
    (takeSwapRequest s m ts).hpr = s.hpr ∧ (takeSwapRequest s m ts).net = s.net ∧
    (takeSwapRequest s m ts).app = s.app ∧ (takeSwapRequest s m ts).icu = s.icu ∧
    (takeSwapRequest s m ts).flt = s.flt ∧ (takeSwapRequest s m ts).plg = s.plg ∧
    (takeSwapRequest s m ts).upd = s.upd ∧ (takeSwapRequest s m ts).mem = s.mem ∧
    (takeSwapRequest s m ts).canRam = s.canRam ∧ (takeSwapRequest s m ts).free = s.free := by
  unfold takeSwapRequest; (repeat' split) <;> simp

@[simp] theorem takeMeas_keeps (s : State) (m : PeerMsg) (rIso cE : Nat) (side : FaultSide) (below valid off : Bool) :
    (takeMeas s m rIso cE side below valid off).pending = s.pending ∧
    (takeMeas s m rIso cE side below valid off).variant = s.variant ∧
    (takeMeas s m rIso cE side below valid off).clk = s.clk ∧
    (takeMeas s m rIso cE side below valid off).unit = s.unit ∧
    (takeMeas s m rIso cE side below valid off).hviStr = s.hviStr ∧
    (takeMeas s m rIso cE side below valid off).cee = s.cee ∧
    (takeMeas s m rIso cE side below valid off).tpe = s.tpe ∧ (takeMeas s m rIso cE side below valid off).th = s.th ∧
    (takeMeas s m rIso cE side below valid off).dsp = s.dsp ∧
    (takeMeas s m rIso cE side below valid off).gx2 = s.gx2 ∧ (takeMeas s m rIso cE side below valid off).le = s.le ∧
    (takeMeas s m rIso cE side below valid off).red = s.red ∧
    (takeMeas s m rIso cE side below valid off).rack = s.rack ∧
    (takeMeas s m rIso cE side below valid off).seq = s.seq ∧
    (takeMeas s m rIso cE side below valid off).tsu = s.tsu ∧
    (takeMeas s m rIso cE side below valid off).net = s.net ∧
    (takeMeas s m rIso cE side below valid off).app = s.app ∧
    (takeMeas s m rIso cE side below valid off).flt = s.flt ∧
    (takeMeas s m rIso cE side below valid off).upd = s.upd ∧
    (takeMeas s m rIso cE side below valid off).canRam = s.canRam ∧
    (takeMeas s m rIso cE side below valid off).free = s.free := by
  unfold takeMeas; (repeat' split) <;> simp

@[simp] theorem takeBulk_keeps (s : State) (b : BulkPart) :
    (takeBulk s b).pending = s.pending ∧ (takeBulk s b).variant = s.variant ∧ (takeBulk s b).clk = s.clk ∧
    (takeBulk s b).hviStr = s.hviStr ∧ (takeBulk s b).seq = s.seq ∧ (takeBulk s b).tsu = s.tsu ∧
    (takeBulk s b).net = s.net ∧ (takeBulk s b).upd = s.upd ∧ (takeBulk s b).canRam = s.canRam ∧
    (takeBulk s b).free = s.free := by
  unfold takeBulk; (repeat' split) <;> simp

@[simp] theorem takeBody_keeps (s : State) (m : PeerMsg) :
    (takeBody s m).pending = s.pending ∧ (takeBody s m).variant = s.variant ∧ (takeBody s m).clk = s.clk ∧
    (takeBody s m).hviStr = s.hviStr ∧ (takeBody s m).seq = s.seq ∧ (takeBody s m).tsu = s.tsu ∧
    (takeBody s m).net = s.net ∧ (takeBody s m).upd = s.upd ∧ (takeBody s m).canRam = s.canRam ∧
    (takeBody s m).free = s.free := by
  unfold takeBody; (repeat' split) <;> simp

@[simp] theorem peerValid_keeps (s : State) (m : PeerMsg) :
    (peerValid s m).pending = s.pending ∧ (peerValid s m).variant = s.variant ∧ (peerValid s m).clk = s.clk ∧
    (peerValid s m).str = s.str ∧ (peerValid s m).pwr = s.pwr ∧ (peerValid s m).hviStr = s.hviStr ∧
    (peerValid s m).rings = s.rings ∧ (peerValid s m).cee = s.cee ∧ (peerValid s m).tpe = s.tpe ∧
    (peerValid s m).th = s.th ∧ (peerValid s m).bal = s.bal ∧ (peerValid s m).dsp = s.dsp ∧
    (peerValid s m).conv = s.conv ∧ (peerValid s m).phase = s.phase ∧ (peerValid s m).gx2 = s.gx2 ∧
    (peerValid s m).le = s.le ∧ (peerValid s m).saf = s.saf ∧ (peerValid s m).rack = s.rack ∧
    (peerValid s m).seq = s.seq ∧ (peerValid s m).tsu = s.tsu ∧ (peerValid s m).net = s.net ∧
    (peerValid s m).flt = s.flt ∧ (peerValid s m).upd = s.upd ∧ (peerValid s m).canRam = s.canRam ∧
    (peerValid s m).free = s.free := by
  unfold peerValid; (repeat' split) <;> simp

end Sys2Proof.Machine
end

