-- ==== Sys2Proof/Laws/MemoryKeeps.lean ====
section
/-! SUPPORT. Every operation that writes the window, the slots or the CAN message RAM keeps both memories in canonical form. -/

namespace Sys2Proof.Machine

theorem canRamWrite_memOk (s : State) (off : Nat) (b : Bytes) (h : MemOk s) : MemOk (canRamWrite s off b) :=
  ⟨h.1, memWrites_wf _ _ _ h.2⟩

theorem hprErr_memOk (s : State) (p : Port) (b : Nat) (h : MemOk s) : MemOk (hprErr s p b) := h.of_same (by simp) (by simp)

theorem writeOwn_memOk (s : State) (p : Port) (d v : Nat) (h : MemOk s) : MemOk (writeOwn s p d v).1 :=
  h.of_same (by simp) (by simp)

theorem writeBuf_memOk (s : State) (p : Port) (o : Nat) (b : Byte) (h : MemOk s) : MemOk (writeBuf s p o b).1 := by
  unfold writeBuf
  (repeat' split) <;> first | exact ⟨memWrite_wf _ _ _ h.1, h.2⟩ | exact hprErr_memOk _ _ _ h

theorem winWrite_memOk (p : Port) (b : Bytes) : ∀ (s : State) (o : Nat), MemOk s → MemOk (winWrite s p o b).1 := by
  induction b with
  | nil => intro s o h; exact h
  | cons a r ih =>
    intro s o h
    unfold winWrite
    dsimp only
    (repeat' split)
    · exact ih _ _ (writeBuf_memOk _ _ _ _ h)
    · exact ih _ _ (writeOwn_memOk _ _ _ _ h)
    · exact ih _ _ (hprErr_memOk _ _ _ (hprErr_memOk _ _ _ h))
    · exact ih _ _ h

theorem writeWindow_memOk (s : State) (p : Port) (o : Nat) (b : Bytes) (h : MemOk s) : MemOk (writeWindow s p o b).1 := by
  unfold writeWindow
  dsimp only
  apply winWrite_memOk
  have h1 : MemOk (hprErr s p errOwn) := hprErr_memOk _ _ _ h
  (repeat' split) <;> first | exact h | exact h1 | exact hprErr_memOk _ _ _ h | exact hprErr_memOk _ _ _ h1

theorem writeSlots_memOk (b : Bytes) : ∀ (s : State) (a : Nat), MemOk s → MemOk (writeSlots s a b) := by
  induction b with
  | nil => intro s a h; exact h
  | cons x r ih =>
    intro s a h
    unfold writeSlots
    refine ih _ _ ?_
    split
    · exact ⟨memWrite_wf _ _ _ h.1, h.2⟩
    · exact hprErr_memOk _ _ _ h

theorem writeRegion_memOk (s : State) (a : Nat) (b : Bytes) (h : MemOk s) : MemOk (writeRegion s a b) := by
  unfold writeRegion
  split
  · split
    · exact h.of_same (by simp) (by simp)
    · exact hprErr_memOk _ _ _ h
  · split
    · exact writeSlots_memOk _ _ _ h
    · exact writeWindow_memOk _ _ _ _ h

theorem enterSlot_memOk (s : State) (n k net : Nat) (b : Bytes) (h : MemOk s) : MemOk (enterSlot s n k net b) :=
  ⟨memWrites_wf _ _ _ h.1, h.2⟩

/-- BOOT keeps the memories or, from a cold start, empties them. -/
theorem bootState_memOk (s : State) (cold : Bool) (cause : Nat) (h : MemOk s) :
    MemOk (bootState s cold cause) := by
  cases cold
  · exact h
  · exact ⟨rfl, rfl⟩

end Sys2Proof.Machine
end

