-- ==== Sys2Proof/Tests/Slice0.lean ====
section
/-! SUPPORT. Tests: ill-formed terms each check refuses, small tests of single steps against the manual, and for every
statement with hypotheses a state and operands that meet them. -/

namespace Sys2Proof.Tests

open Sys2Proof Sys2Proof.Machine

set_option Elab.async false
set_option linter.unusedVariables false

/-! ## States the tests start from -/

/-- An ACTIVE unit whose command set runs. -/
def wS : State :=
  { State.reset with
    unit := .active
    pwr := { State.reset.pwr with state := .active, vinValid := true }
    hpr := { State.reset.hpr with ready := true } }

/-- The same, with a buffer of 1 MiB handed over by HOST as descriptor 0. -/
def wD : State := wS.modDesc 0 fun e => { e with own := true, kind := 1, requester := 0, offset := 0x10000, size := 0x100000 }

/-- A request of HOST with payload `p`, not carried by a slot. -/
def rq (p : List Nat) : Req :=
  { port := .host, slot := none, seq := 1, retry := false, noIrq := false, payload := p.map (BitVec.ofNat 8), envBad := none }

/-- The same of bytes. -/
def rqb (p : Bytes) : Req := { rq [] with payload := p }

/-- An ACTIVE unit with a partner of beat role `r` and beat flags `f`, heard of now. -/
def wP (r f : Nat) : State :=
  { wS with red := { wS.red with present := true, partnerVin := true, beatT := some 0, peerT := some 0
                                 beat := { wS.red.beat with role := r, flags := f } } }

/-- A record that passes its checks: its defaults, with a shelf shunt of 100 µΩ in the auxiliary bus configuration. -/
def okRecord (x : RecordSet) : Bytes :=
  if x.op = 0x0B01 then putAt (defaults busFields) 10 (leU 2 100) else fitTo x.size (defaults x.fields)

/-- An ACTIVE unit whose eight rings are declared and served with 16 monitors, each in its position and following it. -/
def gR (s : State) : State :=
  { s with rings := { s.rings with ring := (List.replicate 8 ({} : Ring)).map fun (r : Ring) =>
      { r with declared := true, served := true, ids := (List.range 16).map (· + 1)
               mons := (List.range 16).map fun k => { identity := k + 1, position := some k, fresh2 := true } } } }
def wR : State := gR wS

/-- A frame of type `ty` outstanding to monitor 3 of ring 7. -/
def wOut (ty arg : Nat) : Outstanding := { m := 3, seq := 9, type := ty, arg := arg, departed := 0, resent := false }
def gO (ty arg : Nat) (s : State) : State := (gR s).modRing 7 fun r => { r with outstanding := [wOut ty arg] }
def wO (ty arg : Nat) : State := gO ty arg wS

/-- A closed beacon copy of 16 monitors, and an ENUM_RETURN that counts `n`. -/
def wBC : BeaconCopy := ⟨1, 0x8000, 0xFFFF, false, false, true⟩
def wER (n : Nat) : EnumReturn := ⟨n, 0, false, (List.range 16).map (· + 1)⟩

/-- A reading of 3.3 V and 25 °C with no flag. -/
def wRD : RoundData :=
  ⟨0, 1, 0, 0, 0, 0, 0, 255, 0, List.replicate 32 33000, List.replicate 8 2500, 0, 0, 0, 10560, 0⟩

/-- An estimator configuration that passes its checks, and a unit whose rings have closed a round and whose model slot 0 holds
a table of 280 Ah. -/
def estOk : Bytes := putAt (defaults estFields) 24 ((List.range 8).flatMap fun k => leU 2 k)
def gE (s : State) : State :=
  { gR s with
    rings := { (gR s).rings with ring := (gR s).rings.ring.map fun (r : Ring) => { r with publishT := 5 } }
    cee := { s.cee with model := [List.replicate 64 1, [], [], []] } }

/-- The same with every string in F REGULATING at 1200 V, its phases enabled and 100 A allowed both ways. -/
def gG (s : State) : State :=
  { gE s with
    pwr := { s.pwr with state := .active, failedClocks := [], supLost := false, eAvail := 250000 }
    flt := { s.flt with retired := [], susp := [] }
    str := List.replicate 8 { state := .regulating, tier := .f, included := true }
    hviStr := List.replicate 8 { vs := 12000000 }
    phase := List.replicate 32 { enabled := true }
    conv := List.replicate 8 { running := true }
    tpe := { s.tpe with pairs := List.replicate 4 {} }
    cee := { (gE s).cee with est := List.replicate 8 { sop0 := { iChg := 100000, iDis := 100000 } } } }
def wG : State := gG wS

/-- A plan of one tone of 130 Hz at 0.2 % on every string, windows of 10 s from TSU second 5 on; and one with no tones. -/
def wPl : Bytes := [1, 1, 10, 50, 255, 255, 0, 0, 5, 0, 0, 0, 0, 0, 0, 0, 0, 0, 0, 0, 0, 0, 0, 0, 0xD0, 0xFB, 1, 0, 20, 0] ++ List.replicate 58 0
def wNo : Bytes := [1, 0] ++ List.replicate 86 0

/-- The unit with that plan in force, pair 3 injecting, and the window from 5 s on collected at 15 s. -/
def gT (s : State) : State :=
  { gG s with tpe := { s.tpe with plan := some wPl, windowT := 5000000000, pairs := [{}, {}, {}, { env := .on }]
                                  collecting := true, endT := 15000000000, res := { idx := 0, plan := wPl } } }
def wT : State := gT wS
def wIB : ImpBlock := ⟨0, 1, 0, 1, [⟨5, 6, 1, 1⟩]⟩

/-- Cell 3 at its core temperature plus its learned offset `o` on a steady surface, after half an hour of quiet. -/
def wLearn (o : Rat) : State :=
  { wT with
    th := { wT.th with sensors := [(0, { samples := [(20000000000, 2500), (5000000000, 2500)] })] }
    cee := { wT.cee with est := [{ quietSince := some 0 }], cells := [(3, { coreRaw := some (-o), offset := o, tSurface := 0 })] } }

/-- The last present cell with a steady surface, a history of results and SF-RUN enabled at thresholds of 0. -/
def wRun : State :=
  { wT with
    th := { wT.th with sensors := (List.range 8).map fun k => (1016 + k, { samples := [(20000000000, 2500), (5000000000, 2500)] }) }
    tpe := { wT.tpe with endT := 4000000000000 }
    saf := { wT.saf with sp := { wT.saf.sp with set := some ((List.replicate 17 0) ++ [1] ++ List.replicate 1006 0) } }
    cee := { wT.cee with cells := [(4090, { runHits := 1, history := (4000000000000, 5, 0) ::
                                            (List.range 10).map fun k => (1000000000000 + k, 5, 0) })] } }

/-- The same with one monitor on each ring, 32 eligible cells of string 7 of which cell 0 holds more charge, and string 7
in mode FULL with a shuttle of string 6 running. -/
def gB (s : State) : State :=
  { gG s with
    rings := { (gG s).rings with ring := (List.replicate 8 ({} : Ring)).map fun (r : Ring) =>
      { r with declared := true, served := true, n := 1, ids := [1]
               mons := [{ identity := 1, position := some 0, round := some { wRD with thrCrc := BitVec.ofNat 16 (thrCrc (thrOf [1] 7)) } }] } }
    saf := { s.saf with sp := { s.saf.sp with set := some [1] } }
    bal := [{}, {}, {}, {}, {}, {}, { shuttles := [{ m := 0, ch := 9, outOfCell := true, current := 3000, power := 9000, dev := 7 }] },
      { cfg := putAt (putAt (fitTo 24 (defaults balFields)) 0 [7]) 1 [2]
        shuttles := [{ m := 0, ch := 1, outOfCell := false, current := 3000, power := 2000000, dev := 8 }] }]
    cee := { (gG s).cee with cells := (List.range 32).map fun k =>
      (3584 + k, { started := true, stale := false, soc := if k = 0 then 6 / 10 else 5 / 10, q := 1000000, t := 2500 }) } }
def wB : State := gB wS

/-- A dispatch request for +100 kW on every string; and the same at TSU second 5. -/
def wDsp : Bytes := [1, 0, 0, 0, 0, 0, 255, 0] ++ List.replicate 12 0 ++ [0xA0, 0x86, 1, 0] ++ List.replicate 24 0
def wDspAt : Bytes := [2, 0, 0, 0, 0, 1, 255, 0, 5] ++ List.replicate 11 0 ++ [0xA0, 0x86, 1, 0] ++ List.replicate 24 0

/-- A descriptor of the auxiliary slot 127 at 10 kHz with law 0, and its coefficient block and gain table as commands bring them. -/
def wDesc : Bytes :=
  let p := putAt (putAt (putAt (fitTo 60 (defaults descFields)) 4 [127, 5, 255, 0, 0, 1, 1, 0]) 24 (leS 4 (-1000))) 28 (leS 4 1000)
  p ++ leU 4 (crc32c p)
def wCoef : Bytes :=
  let b : Bytes := List.replicate 40 0 ++ [255, 0, 9, 0]
  [127, 0, 0, 0] ++ b ++ [0, 0, 0, 0] |>.take 48 |> (· ++ leU 4 (crc32c b))
def wLut : Bytes := let b : Bytes := List.replicate 140 0; [63, 0, 0, 0] ++ b ++ leU 4 (crc32c b)
/-- The unit with that slot running on a valid bank, and probe 15 on it. -/
def gL (s : State) : State :=
  (gG s).modLoop 127 fun x =>
    { x with desc := wDesc, bankA := { block := wCoef.drop 4, valid := true, fresh := true }
             bankB := { block := wCoef.drop 4, valid := true, fresh := true }, activeB := false, computed := 77, busy := false, stopped := false }
def wL : State := gL wS

/-- A safety set that protects every string and gives it coil 3, and the unit with both channels granting every close. -/
def wSet : Bytes := (List.range 1024).map fun k => if 32 ≤ k ∧ k < 416 ∧ (k - 32) % 48 = 0 then 3 else 0
def gP (s : State) : State :=
  let ch (c : Chan) : Chan := { c with set := some wSet, alive := true, str := List.replicate 8 {}, inputs := List.replicate 16 {} }
  { gG s with
    saf := { s.saf with sp := ch s.saf.sp, sloe := ch s.saf.sloe, cont := List.replicate 8 {} }
    hvi := { s.hvi with iso := { s.hvi.iso with mode := .off }, vb := 14000000 }
    gx2 := List.replicate 32 { ready := true, followsUs := true } }
def wC : State := gP wS
/-- String 7 in state `x`; and string 7 with converter `c`. -/
def inState (x : StrState) (s : State) : State := s.modStr 7 fun y => { y with state := x }
def withConv (c : Conv) (s : State) : State := s.modConv 7 fun _ => c
/-- A converter configuration of string 7 at 100 kHz with its precharge resistor. -/
def wCnv : Bytes := putAt (putAt (fitTo 64 (defaults cnvFields)) 0 [7]) 32 (leU 4 100000)

/-- String 7 at 80 A shared by three phases, with phase 31 open at a low duty for one period less than it takes. -/
def wOpen : State :=
  { (wC.modConv 7 fun c => { c with cfg := wCnv, armedPeriods := 2, shuntSum := 60000000, shuntSums := 1 }).modHvi 7 fun h => { h with cur := 60000000 } with
    phase := List.replicate 28 {} ++ List.replicate 3 { sample := 2000, duty := 1000000000 } ++
      [{ sample := 0, duty := 100000000, openCount := 7 }] }

/-- The unit with safe communication in native mode, a PDU of sequence 9 with a stop demand, and one of the black channel. -/
def gQ (s : State) : State :=
  let ch (c : Chan) : Chan := { c with set := some (putAt wSet 421 [1]), alive := true, str := List.replicate 8 {} }
  { gP s with saf := { (gP s).saf with sp := ch {}, sloe := ch {} } }
def wQ : State := gQ wS
def wPdu : Bytes :=
  let b := [1, 0x53, 16, 0, 0, 0, 0, 0, 9, 0, 0, 0] ++ List.replicate 12 0 ++ [255, 1] ++ List.replicate 14 0
  b ++ leU 4 (safetyCrc b)
def wBlack : Bytes := let b := [9, 0, 0, 0, 127, 0] ++ List.replicate 14 0; b ++ leU 4 (safetyCrc (leU 4 0 ++ b))

/-- A STANDBY unit ready to take over, and an ACTIVE one whose partner is. -/
def wTk : State :=
  { wC with unit := .standby
            red := { wC.red with present := true, beatT := some 0, xclProven := true
                                 replica := some { strings := [3, 3, 3, 3, 3, 3, 3, 1], tiers := [], e := [], target := 0, vinValid := true, at_ := 0 } } }
def wSw : State := { wC with red := { wC.red with present := true, beat := { wC.red.beat with role := 2, flags := 8 } } }

/-- The unit with a shelf and sixteen rectifiers on segment 1, and every channel ON in class 1. -/
def gK (s : State) : State :=
  { gG s with
    rack := { s.rack with
      cfg := (List.range 16).foldl (fun p k => putAt p (24 + 4 * k) [1, BitVec.ofNat 8 k, 100, 0])
        (putAt (fitTo 120 (defaults busFields)) 8 [1, 0, 100, 0, 10, 0, 0, 0])
      shed := [], acLoss := false, cap := none, capUnmet := false, shelfLow := false, shelfCut := false
      rect := List.replicate 16 { good := true }
      ef := (List.range 16).map fun k =>
        { state := .on, commanded := true, pgood := true, cfg := putAt (fitTo 104 (defaults efFields)) 0 [BitVec.ofNat 8 k, 1, BitVec.ofNat 8 (15 - k), 1, 100, 0] } } }
def wK : State := gK wS

/-- A rail table of rail 31 in state 1 (of two) on SEQ_EN15, supervised by VMON 23; the unit that sequences it, in phase `p` at
state `n`; and one in OFF. -/
def wTbl : Bytes :=
  let b : Bytes := [0x53, 0x51, 0x52, 0x4C, 1, 0, 0, 0, 1, 2, 11, 0, 244, 1, 0, 0, 31, 1, 79, 23, 244, 1, 88, 2, 100, 0, 232, 3,
    100, 0, 10, 0, 50, 0, 100, 0, 0, 0, 0, 0]
  b ++ leU 4 (crc32c b)
def gZ (p : SeqPhase) (n : Nat) (s : State) : State :=
  { gP s with seq := { s.seq with table := wTbl, next := none, phase := p, pos := n, local_ := false, pulling := false, preOff := 0
                                  rails := List.replicate 32 {}, cin := false, cout := false } }
def wZ (p : SeqPhase) (n : Nat) : State := gZ p n wS
def gF (s : State) : State := { gZ .idle 0 s with unit := .off }
def wF : State := gF wS

/-- The unit with its TSU at 7 s, all triggers and captures at reset, and network port 0 with a master. -/
def gY (s : State) : State :=
  { gP s with tsu := { s.tsu with now := 7000000000, slew := 0, own := 0, sync := .freerun, src := none, evt := 0, stepCnt := 5
                                  trig := List.replicate 16 {}, cap := List.replicate 16 {}, cfg := putAt (fitTo 32 (defaults timFields)) 1 [3, 3]
                                  ports := [{ master := some ⟨[1], 1, none⟩ }, {}] } }
def wY : State := gY wS
def withTsu (f : Tsu → Tsu) (s : State) : State := s.setTsu f

/-- The unit with management client 1 enabled over network port 0, slots 8 to 15 of MGMT, and the window as `wD` has it. -/
def gH (s : State) : State :=
  { gP s with
    hpr := { s.hpr with
      ready := true, handover := false, own := 0, done := 0, order := [], exec := [], waiting := [], cache := []
      slotPort := 0x55550000
      desc := [{ own := true, kind := 1, requester := 0, offset := 0x10000, size := 0x1000 },
        { own := false, kind := 1, requester := 1, offset := 0x20000, size := 0x1000 }] ++ List.replicate 254 {}
      clients := {} :: { configured := true, enabled := true, ports := 3 } :: List.replicate 7 {} }
    net := { s.net with port := List.replicate 4 { cfg := (List.replicate 24 0).set 1 3, link := true } } }
def wH : State := gH wS

/-- A management frame of client 1 with sequence 5, type `ty` and body `b`, tagged under an empty key; what its checks find. -/
def mgHead (epoch ty : Nat) (b : Bytes) : Bytes :=
  leU 2 0x4D57 ++ [1] ++ leU 1 ty ++ [1, 0] ++ leU 2 b.length ++ leU 4 epoch ++ leU 4 5 ++ b
def mgFrame (epoch ty : Nat) (b : Bytes) : Bytes := mgHead epoch ty b ++ fitTo 16 (Config.hmac [] (mgHead epoch ty b))

theorem length_fitTo (n : Nat) (b : Bytes) : (fitTo n b).length = n := by
  simp [fitTo]; omega
theorem getU_append (a x : Bytes) : (n i : Nat) → i + n ≤ a.length → getU (a ++ x) i n = getU a i n
  | 0, _, _ => rfl
  | n + 1, i, h => by
    have hi : i < a.length := by omega
    simp only [getU, getU_append a x n (i + 1) (by omega), List.getD_eq_getElem?_getD, List.getElem?_append_left hi]

theorem mgFrame_ok (s : State) (net src epoch ty : Nat) (b : Bytes)
    (h : let c := s.hpr.clients.getD 1 {}; let g := mgHead epoch ty b
      g.length = 16 + b.length ∧ b.length ≤ 1032 ∧ getU g 6 2 = b.length ∧ getU g 0 2 = 0x4D57 ∧ getU g 2 1 = 1 ∧
        getU g 4 1 = 1 ∧ getU g 5 1 = 0 ∧ getU g 3 1 = ty ∧ getU g 8 4 = epoch ∧ getU g 12 4 = 5 ∧ c.configured = true ∧
        c.enabled = true ∧ c.ports.testBit net = true ∧ c.source = 0 ∧ c.key = [] ∧ g.drop 16 = b) :
    mgmtCheck s net src (mgFrame epoch ty b) =
      if epoch ≠ s.hpr.epoch then .stale 1
      else if 5 ≤ (s.hpr.clients.getD 1 {}).rxSeq then .discarded else .accepted 1 ty 5 b := by
  obtain ⟨hl, h0, h1, h2, h3, h4, h5, h6, h7, h8, h9, h10, h11, h12, h13, h14⟩ := h
  have e (i n : Nat) (h : i + n ≤ 16) : getU (mgFrame epoch ty b) i n = getU (mgHead epoch ty b) i n := getU_append _ _ _ _ (by omega)
  have d : (mgFrame epoch ty b).drop (16 + b.length) = fitTo 16 (Config.hmac [] (mgHead epoch ty b)) := by
    rw [← hl]; exact List.drop_left
  have tk : (mgFrame epoch ty b).take (16 + b.length) = mgHead epoch ty b := by
    rw [← hl]; exact List.take_left
  have ln : (mgFrame epoch ty b).length = 32 + b.length := by
    simp [mgFrame, hl, length_fitTo]; omega
  have sl : slice (mgFrame epoch ty b) 16 b.length = b := by
    simp only [slice, mgFrame]
    rw [List.drop_append_of_le_length (by omega), h14, List.take_left]
  have g1 : ¬ 1032 < b.length := by omega
  simp only [mgmtCheck, e, h1, h2, h3, h4, h5, h6, h7, h8, d, tk, ln, sl, h9, h10, h11, h12, h13, Nat.reduceAdd, Nat.reduceLeDiff]
  simp [g1]

/-- The unit with four ports up and CAN controllers on the bus with queues of four and 16 filter elements each. -/
def gN (s : State) : State :=
  { gH s with
    pwr := { (gH s).pwr with state := .active, failedClocks := [] }
    net :=
      { s.net with
        port := List.replicate 4 { cfg := putAt (putAt (List.replicate 24 0) 1 [19]) 4 [1, 2, 3, 4], link := true }
        can := (List.range 4).map fun c =>
          { init := false, state := 0, noMatch := 1, fltBase := 16 * c, fltCount := 16, ie := 15, txPut := 7, txGet := 7 } } }
def wN : State := gN wS
/-- An FD frame of 12 bytes, and a CAN configuration of controller 3 at 500 kb/s and 2 Mb/s. -/
def wFr : CanFrame := ⟨5, false, false, false, 9, true, true, List.replicate 12 7⟩
def wCan : Bytes := [3, 7, 2, 0] ++ leU 4 500000 ++ leU 4 2000000 ++ leU 2 800 ++ leU 2 800 ++ [1, 0, 0, 0, 48, 0, 16, 0]

/-- The unit with APP running; and with its target enabled and source 5 of its bank pending, unmasked, of priority 3. -/
def gA (s : State) : State := { gN s with app := { run := 1, restarts := 4 } }
def wA : State := gA wS
def gI (s : State) : State :=
  { gA s with icu := { ({} : Icu) with
      app := { en := true, hold := List.replicate 16 50 }
      papp := (List.range 32).map fun k => { route := .app, home := .app, pend := k == 5, mask := k != 5, prio := 3, group := 15 } } }
def wI : State := gI wS

/-- A container header of class `c`, part `p` and one chunk of image bytes with target bits of both variants; the unit with it
complete in transfer 4, and with images in force. -/
def wHdr (c p : Nat) : Bytes :=
  fitTo 40 (leU 4 0x5A524542 ++ leU 2 1 ++ leU 1 p ++ leU 1 c ++ [3, 0, 0, 0, 0, 0, 0, 0] ++ leU 4 7 ++ leU 4 0 ++ leU 4 9 ++ leU 4 1)
def gU (s : State) : State :=
  { gH s with
    rings := (gR s).rings
    upd := { s.upd with act := none, recT := none, sup := {}, sp := {}, app := {}, floor := 0, revoked := 0, store := []
                        xfer := List.replicate 5 { state := .ready, header := wHdr 0 1, got := [0] } } }
def wU : State := gU wS
/-- Part `p` on trial with both banks valid; and an activation of part `p`, monitor or driver `n` of target 1 next. -/
def onT : Part := { bankB := { present := true, valid := true }, active := 1, trial := true, deadline := 600000000000, okSince := some 0 }
def wAct (p : Nat) (n : Nat) : Activation := ⟨0, p, 0, 1, 5, 1, n, 0, none⟩
def withAct (p n : Nat) (s : State) : State := s.setUpd fun x => { x with act := some (wAct p n) }
/-- Monitor 15 of ring 0 served next by an SM-32 activation, every monitor with its latest round. -/
def gV (s : State) : State :=
  let s := withAct 5 15 (gU s)
  { s with
    rings := { s.rings with ring := s.rings.ring.map fun (r : Ring) => { r with n := 16, mons := r.mons.map fun (m : Monitor) => { m with round := some wRD } } }
    str := List.replicate 8 {}, cee := { s.cee with est := [] } }
def wV : State := gV wS

/-! ## Ill-formed terms -/

def wMsg : PeerMsg := ⟨1, 0, 0, 0, true, .state [] [] false []⟩
def wShV : ShadowValue := ⟨0, 0, 0, 0⟩

theorem test_wf_request_refused : ([{ rq [] with payload := List.replicate 241 0 }, { rq [] with seq := 65536 },
    { rq [] with slot := some 16 }] : List Req).all (fun q => !q.wf) = true := by decide +kernel

theorem test_wf_refuses_1 : (
    [.qspiRead 0 (2 ^ 32) 0, .qspiWrite 0 (2 ^ 32) [] false, .descriptorOwnWrite 0 .host 256 0 false,
     .descriptorOwnWrite 0 .host 0 (2 ^ 32) false, .mgmtRequest 0 4 0 [], .winRead 0 4 0 [], .winWrite 0 4 0 [],
     .wake 0 4 [], .monTimer 0 (2 ^ 64), .wdogSet 0 (2 ^ 32), .appRestart 0 0, .appRestart 0 6,
     .icuSourceEdge 0 .sup 256, .icuPendSet 0 .sup 8 0, .icuPendClr 0 .sup 8 0, .icuMaskSet 0 .sup 8 0,
     .icuMaskClr 0 .sup 8 0, .holdOffExpiry 0 .sup 16, .strandedTimeout 0 .sup 256, .sourceRetarget 0 256 .sup,
     .tsuTrgCtrlWrite 0 false 16 0, .tsuCapPop 0 false 16, .triggerFire 0 16, .captureEdge 0 16 false 0 0,
     .canTxqPutWrite 0 false 4 0, .canTxqPutWrite 0 false 0 256, .canCancel 0 false 4, .canRxqGetWrite 0 false 4 0 0,
     .canRxqGetWrite 0 false 0 2 0, .canRxqGetWrite 0 false 0 0 256, .canCtrlWrite 0 false 4 0,
     .canFrameReceived 0 4 wFr, .canFrameReceived 0 0 ({ wFr with id := 2 ^ 29 }),
     .canFrameReceived 0 0 ({ wFr with dlc := 16 }), .canFrameReceived 0 0 ({ wFr with bytes := List.replicate 65 0 }),
     .canTxComplete 0 4 0, .canTxComplete 0 0 3, .txHol 0 4, .busOff 0 4, .ethFrameReceived 0 4 ⟨64, none, 0, 0, .ptp 0⟩] : List Instr).all (fun c => !c.wf) = true := by decide +kernel

theorem test_wf_refuses_2 : (
    [.linkLossReturn 0 4 false, .syncMessage 0 4 0 0, .announce 0 4 0 ⟨[1], 1, none⟩, .announceTimeout 0 4,
     .pdelayReq 0 4 0 0, .pdelayMeasurement 0 4 0, .railStart 0 32, .railGood 0 32, .startFailure 0 32,
     .railDischarge 0 32 false, .runningRailFault 0 32, .railFaultHoldEnd 0 32, .shuntSample 0 8 0,
     .calibrationStep 0 8 0, .calibrationSwap 0 8 ⟨0, 0, 0⟩, .overlapRepeat 0 8 0, .voltageSample 0 11 0 false false,
     .fastTrip 0 8 false, .hviPlausibilityFailure 0 .activity 16, .roundRead 0 8 0, .roundRead 0 0 16, .beacon 0 8,
     .beaconReturn 0 8 wBC, .beaconReturn 0 0 ({ wBC with term := 2 }), .sched 0 8, .enumFrame 0 8,
     .enumReturn 0 8 (wER 1), .data 0 8 0 0 0 wRD, .data 0 0 16 0 0 wRD, .data 0 0 0 256 0 wRD, .data 0 0 0 0 4 wRD,
     .ack 0 8 0 0 0 0 0, .ack 0 0 16 0 0 0 0, .ack 0 0 0 256 0 0 0, .ack 0 0 0 0 256 0 0, .ack 0 0 0 0 0 256 0,
     .ack 0 0 0 0 0 0 (2 ^ 32), .frameLost 0 8 0 0, .frameLost 0 0 16 0, .frameLost 0 0 0 256] : List Instr).all (fun c => !c.wf) = true := by decide +kernel

theorem test_wf_refuses_3 : (
    [.turnedFrame 0 8 0 0, .turnedFrame 0 0 16 0, .turnedFrame 0 0 0 256, .delay 0 8 0 0, .delay 0 0 17 0,
     .portDown 0 8 0, .portDown 0 0 2, .portUp 0 8 0, .portUp 0 0 2, .twoEndedOperation 0 8, .twoEndedExit 0 8,
     .linkCrcBurst 0 8 0 0 0, .linkCrcBurst 0 0 16 0 0, .linkCrcBurst 0 0 0 2 0, .unaddressedMonitor 0 8,
     .alarmDetailRead 0 8 0, .alarmDetailRead 0 0 16, .bleedSet 0 8 0 false 0 0 0, .bleedSet 0 0 16 false 0 0 0,
     .bleedStop 0 8 0 false 0, .bleedStop 0 0 16 false 0, .shuttleSet 0 8 0 false ⟨0, false, 0, 0, 0, 0⟩,
     .shuttleSet 0 0 16 false ⟨0, false, 0, 0, 0, 0⟩, .shuttleStop 0 8 0 false, .shuttleStop 0 0 16 false,
     .thrLoad 0 8 0 false ⟨0, 0, 0, 0, 0⟩, .thrLoad 0 0 16 false ⟨0, 0, 0, 0, 0⟩, .linkDisable 0 8 0 false 0,
     .linkDisable 0 0 16 false 0, .linkDisable 0 0 0 false 2, .linkEnable 0 8 0 false 0, .linkEnable 0 0 16 false 0,
     .linkEnable 0 0 0 false 2, .thresholdReload 0 8, .balanceRead 0 8, .stepRateChange 0 8, .journalWrite 0 6,
     .restWindowRequest 0 8, .restWindowGrant 0 8, .restWindowEnd 0 8] : List Instr).all (fun c => !c.wf) = true := by decide +kernel

theorem test_wf_refuses_4 : (
    [.anchorOverdue 0 8, .coreOffsetLearning 0 4096, .impedanceRead 0 8 0 0 ⟨0, 0, 0, 0, []⟩,
     .impedanceRead 0 0 16 0 ⟨0, 0, 0, 0, []⟩, .impedanceRead 0 0 0 4 ⟨0, 0, 0, 0, []⟩, .blockMissing 0 8 0 0,
     .blockMissing 0 0 16 0, .blockMissing 0 0 0 4, .injectionStart 0 4, .injectionStop 0 4, .tonePlan 0 8,
     .phasor 0 8 0, .phasor 0 0 16, .toneHalt 0 8, .tiSample 0 24 ⟨0, false, false, true⟩, .sensorRecovery 0 1048,
     .planningCycle 0 8, .balancingStop 0 8, .slotPeriod 0 128 0 false, .bankSwap 0 128, .probeComplete 0 16,
     .periodBoundary 0 32 0, .pwmReadbackMismatch 0 32, .cycleByCycleLimit 0 32 false, .phaseInputImplausible 0 32,
     .braking 0 32, .brakingEnd 0 32, .phaseEvaluation 0 8, .estimateMode 0 32, .estimateModeEnd 0 32, .reInterleave 0 8,
     .slotShift 0 8, .syncInLoss 0 8, .syncInRelock 0 8, .gx2Poll 0 8 [], .gdbFlt 0 8, .converterPause 0 8 .headroom,
     .pauseEnd 0 8, .converterStart 0 8, .softStartTimeout 0 8] : List Instr).all (fun c => !c.wf) = true := by decide +kernel

theorem test_wf_refuses_5 : (
    [.rampComplete 0 8, .coolingWaitEnd 0 8 false, .prechargeComplete 0 8, .prechargeFault 0 8, .connectedEntry 0 8,
     .closeRequest 0 8, .closeRequestTimeout 0 8, .cdbCycle 0 2 [] false, .openSecondPole 0 8, .weld 0 8 0, .weld 0 0 4,
     .trip 0 .sp 8 .ov, .testPulse 0 8 false, .discrepancy 0 8 .ov, .safePduReceived 0 .sp 4 [],
     .commWindowExpiry 0 .sp 4, .blackChannelPdu 0 .sp 4 [], .networkDown 0 .sp 4,
     .beatReceived 0 (List.replicate 4097 0), .claimFrame 0 (.gx2 0) false (2 ^ 32), .claimFrame 0 (.gx2 32) false 0,
     .claimFrame 0 (.cx4 8) false 0, .dutyHoldExpiry 0 32, .coilHoldExpiry 0 8, .higherClaimSeen 0 (2 ^ 32),
     .peerMessage 0 ({ wMsg with seq := 2 ^ 32 }), .peerMessage 0 ({ wMsg with claim := 2 ^ 32 }),
     .peerMessage 0 ({ wMsg with role := 256 }), .peerMessage 0 ({ wMsg with ackSeq := 2 ^ 32 }),
     .shadow 0 ({ wShV with row := 6 }), .pmbusAlert 0 2 [], .rectifierRejoin 0 16, .efuseSample 0 16 ⟨0, 0, 0, false⟩,
     .insertionDelayEnd 0 16, .windowExit 0 16, .efuseFastTrip 0 16, .softStartExpiry 0 16, .powerGood 0 16,
     .gateFault 0 16, .efuseFault 0 16 .fastTrip] : List Instr).all (fun c => !c.wf) = true := by decide +kernel

theorem test_wf_refuses_6 : (
    [.retryTimerExpiry 0 16, .faultCountClear 0 16, .detectedError 0 65536 0 0, .selfTestOutcome 0 65536 0,
     .selfTestOutcome 0 0 3, .trialConfirmation 0 4, .trialWindowExpiry 0 4, .fallback 0 4, .fwBegin 0 8 0 0,
     .fwBegin 0 0 16 0, .fwBegin 0 0 0 (2 ^ 32), .fwData 0 8 0 0 [], .fwData 0 0 16 0 [], .fwData 0 0 0 (2 ^ 32) [],
     .fwEnd 0 8 0 0, .fwEnd 0 0 16 0, .fwEnd 0 0 0 (2 ^ 32), .fwSwitch 0 8 0 false, .fwSwitch 0 0 16 false,
     .monitorReturnTimeout 0 8 0, .monitorReturnTimeout 0 0 16, .driverConfigLoad 0 false 32 false, .beaconTimeout 0 8 0,
     .beaconTimeout 0 0 16, .monitorRestart 0 8 0, .monitorRestart 0 0 16, .hardwareComparatorAlarm 0 8 0 .ov 0,
     .hardwareComparatorAlarm 0 0 16 .ov 0, .hardwareComparatorAlarm 0 0 0 .ov 32, .bleedEnd 0 8 0 0 0,
     .bleedEnd 0 0 16 0 0, .bleedEnd 0 0 0 32 0, .shuttleEnd 0 8 0 0, .shuttleEnd 0 0 16 0, .busOffRecovery 0 4] : List Instr).all (fun c => !c.wf) = true := by decide +kernel

/-! ## Small tests against the manual's worked examples -/

/-- The check value of CRC-32C (R444): the nine digits. -/
theorem test_crc32c_check_value : crc32c ("123456789".toList.map fun c => BitVec.ofNat 8 c.toNat) = 0xE3069283 := by
  decide +kernel

/-- 03, *from code to charge*: offset 4, gain 1.0005, code −11,796 over 100.000 µΩ. -/
theorem test_code_to_current : calibrated 100000 { offset := 4, gain := 10005 / 10000 } (-11796) = -180143738 := by
  decide +kernel

/-- The same sample in the accumulator, and the published count after one sample and after two. -/
theorem test_sample_to_charge :
    let h : HviStr := { mod0 := { offset := 4, gain := 10005 / 10000 } }
    ((h.addSample 0 (-11796)).acc, (h.addSample 0 (-11796)).acc / 10000,
      ((h.addSample 0 (-11796)).addSample 12800 (-11796)).acc / 10000) = (-23058398464, -2305840, -4611680) := by
  decide +kernel

/-- 02, *sizing VBAK*: 0.07 F at 15 V holds 5.04 J above 9 V. -/
theorem test_usable_energy : energyOf { wS with pwr := { wS.pwr with cmeas := some 70000 } } 15000 = 5040000 := by
  decide +kernel

/-- 07, *a discharge request over four strings*. -/
theorem test_shares : sharesOf (-1200000) [⟨0, 96 / 10, 389075⟩, ⟨1, 64 / 10, 900000⟩, ⟨2, 48 / 10, 900000⟩, ⟨3, 7, 900000⟩] =
    [(0, -389075), (1, -285160), (2, -213870), (3, -311895)] := by
  decide +kernel

/-- 06, *a plan on S1 and S5*: the plan satisfies its rules; with tone 0 at 41 its amplitudes sum past 200; tone 4 at 201 Hz
lies too near the grid's harmonic. -/
def examplePlan (f4 a0 : Nat) : Bytes :=
  [1, 7, 10, 50, 0x22, 3, 0, 0] ++ leU 8 (2 * nsS) ++ leU 8 0 ++
    ([(100, a0), (1000, 30), (10000, 20), (37000, 30), (f4, 20), (730000, 20), (1130000, 40)].flatMap fun e =>
      leU 4 e.1 ++ leU 2 e.2 ++ leU 2 0) ++ leU 8 0
theorem test_plan_checks : (planBad wS (examplePlan 210000 40), planBad wS (examplePlan 210000 41),
    planBad wS (examplePlan 201000 40)) = (none, some 28, some 56) := by
  decide +kernel

/-- The same chapter's impedance: re 2,445 and im −520 at z_scale 0. -/
theorem test_impedance_scale :
    let z := toneResult wS 5 ⟨0, 1, 0, 1, [⟨2445, -520, 100, 1⟩]⟩ 0 0
    (z.re, z.im) = (24450, -5200) := by
  decide +kernel

/-- 16, *a filter list on CAN1*: 11-bit 0x205 goes to queue 1 by element 65; 29-bit 0x150 takes NOMATCH, here reject; 29-bit
0x18FF50E6 is rejected by element 66. -/
def canList : State :=
  let ws := leU 4 0x40000100 ++ leU 4 0x0000017F ++ leU 4 0xC0000200 ++ leU 4 0x400007F0 ++ leU 4 0xB8FF50E5 ++ leU 4 0x98FF50E6
  { wS.modCan 1 (fun x => { x with fltBase := 64, fltCount := 3, noMatch := 2 }) with canRam := memWrites wS.canRam 512 ws }
theorem test_filter_list : (filterFate canList 1 0x205 false, filterFate canList 1 0x17F false, filterFate canList 1 0x150 true,
    filterFate canList 1 0x18FF50E6 true) = (some (1, some 65), some (0, some 64), none, none) := by
  decide +kernel
theorem test_filter_nomatch : filterFate (canList.modCan 1 fun x => { x with noMatch := 0 }) 1 0x150 true = some (0, none) := by
  decide +kernel

theorem witness_NoArgumentGetsAnswer_1 : ∃ (s : State) (q : Req), Taken s q ∧ AnyRole s ∧ q.payload = [] ∧ (sysInfo s).length
    ≤ 240 := ⟨wS, rq [], by decide +kernel⟩

theorem witness_BufferGetsFillTheBuffer_1 : ∃ (s : State) (q : Req), Taken s q ∧ AnyRole s ∧ MemOk s ∧ q.payload.length = 2 ∧
    SlotOk q ∧ descOk s q (getU q.payload 0 2) (redStatus s).length = true := ⟨wD, rq [0, 0], by decide +kernel⟩

theorem witness_IndexGetsAnswerTheObject_1 : ∃ (s : State) (q : Req) (i : Nat), Taken s q ∧ AnyRole s ∧ MemOk s ∧ i <
    State.strings s ∧ FormI s q i ∧ (strInfo s i).length ≤ 240 := ⟨wS, rq [7, 0, 255, 255], 7, by decide +kernel⟩

theorem witness_IndexGetsAnswerTheObject_2 : ∃ (s : State) (q : Req) (i : Nat), Taken s q ∧ AnyRole s ∧ MemOk s ∧ i <
    State.strings s ∧ FormI s q i ∧ 240 < (roundInfo s i).length ∧ SlotOk q ∧ descOk s q (getU q.payload 2 2) (roundInfo s
    i).length = true := ⟨wD.modRing 7 (fun r => { r with declared := true }), rq [7, 0, 0, 0], 7, by decide +kernel⟩

theorem witness_CopyGetsFillTheBuffer_1 : ∃ (s : State) (q : Req) (first count : Nat) (b : Bytes), Taken s q ∧ AnyRole s ∧
    MemOk s ∧ q.payload.length = 12 ∧ getU q.payload 2 2 = 0 ∧ getU q.payload 4 4 = first ∧ getU q.payload 8 4 = count ∧ b =
    ((List.range count).map (first + ·)).flatMap (cellEntry s) ∧ 0 < count ∧ first + count ≤ State.cells s ∧ SlotOk q ∧ descOk
    s q (getU q.payload 0 2) b.length = true := ⟨wD, rq [0, 0, 0, 0, 255, 15, 0, 0, 1, 0, 0, 0], 4095, 1, cellEntry wD 4095 ++
    [], by decide +kernel⟩

theorem witness_MapGetsAnswerALiveDescriptor_1 : ∃ (s : State) (q : Req) (d : Nat), Taken s q ∧ AnyRole s ∧ q.payload = [] ∧
    liveDesc s q.port 0x03000000 = some d := ⟨wD.modDesc 1 (fun e => { e with kind := 2, offset := 0x03000000 }), rq [], 1, by
    decide +kernel⟩

theorem witness_MapGetsAnswerALiveDescriptor_2 : ∃ (s : State) (q : Req) (d : Nat), Taken s q ∧ AnyRole s ∧ q.payload = [] ∧
    liveDesc s q.port 0x03000000 = none ∧ freeDesc s = some d ∧ s.hpr.desc.length = 256 := ⟨wD, rq [], 1, by decide +kernel⟩

theorem witness_RecordsAreStored_1 : ∃ (s : State), ∀ x ∈ recordSets, Taken s (rqb (okRecord x)) ∧ Commands s ∧ (okRecord
    x).length = x.size ∧ badField x.fields (okRecord x) = none ∧ x.pop s (okRecord x) = none ∧ x.chk (okRecord x) = none :=
    ⟨wS, by decide +kernel⟩

theorem witness_RecordsAreStored_2 : ∃ (s : State) (q : Req), Taken s q ∧ Commands s ∧ q.payload.length = 16 ∧ badField
    pairFields q.payload = none := ⟨wS, rqb (defaults pairFields), by decide +kernel⟩

theorem witness_VbakAndHoldup_1 : ∃ (s : State) (q : Req), (Taken s q) ∧ (AnyRole s) ∧ (q.payload.length = 4) ∧ (24 ≤ getU
    q.payload 0 1) ∧ (getU q.payload 0 1 ≤ 30) ∧ (getU q.payload 1 1 = 0) := ⟨wS, rq [28, 0, 70, 0], by decide +kernel⟩

theorem witness_VbakAndHoldup_2 : ∃ (s : State) (q : Req), (Taken s q) ∧ (AnyRole s) ∧ (q.payload.length = 8) := ⟨wS, rq [1,
    0, 0, 0, 0, 0, 0, 0], by decide +kernel⟩

theorem witness_VbakAndHoldup_3 : ∃ (s : State) (q : Req), (Taken s q) ∧ (AnyRole s) ∧ (q.payload.length ≤ 240) := ⟨wS, rq [1,
    2, 3], by decide +kernel⟩

theorem witness_VbakAndHoldup_4 : ∃ (t : Nat) (s : State) (vin : Nat), let b := s.advance t; (b.pwr.vinValid = true) ∧ (vin <
    33000) ∧ (b.unit ≠ .off) ∧ (b.unit ≠ .powerup) ∧ (b.pwr.state = .active ∨ b.pwr.state = .float ∨ b.pwr.state = .dormant)
    := ⟨0, wS, 32000, by decide +kernel⟩

theorem witness_VbakAndHoldup_5 : ∃ (t : Nat) (s : State), let b := s.advance t; (b.pwr.state = .holdup) ∧ (b.pwr.holdStep =
    0) ∧ (5 * nsMs ≤ b.clk - b.pwr.holdT0) ∧ (b.unit = .active) ∧ (partnerReady b = true) ∧ (b.red.partnerVin = true) ∧
    (b.red.swapAt = none) ∧ (b.pwr.holdSwap = false) := ⟨5000000, { (wP 2 8) with pwr := { wS.pwr with state := .holdup } },
    by decide +kernel⟩

theorem witness_VbakAndHoldup_6 : ∃ (t : Nat) (s : State), let b := s.advance t; (b.pwr.state = .holdup) ∧ (b.pwr.holdStep =
    0) ∧ (20 * nsMs ≤ b.clk - b.pwr.holdT0) ∧ (Commands b) := ⟨20000000, { wS with pwr := { wS.pwr with state := .holdup } },
    by decide +kernel⟩

theorem witness_VbakAndHoldup_7 : ∃ (t : Nat) (s : State), let b := s.advance t; (b.pwr.state = .holdup) ∧ (b.pwr.holdStep <
    2) ∧ (80 * nsMs ≤ b.clk - b.pwr.holdT0) := ⟨80000000, { wS with pwr := { wS.pwr with state := .holdup } }, by
    decide +kernel⟩

theorem witness_VbakAndHoldup_8 : ∃ (t : Nat) (s : State), let b := s.advance t; (b.pwr.state = .holdup) ∧ (b.pwr.holdStep =
    2) ∧ (100 * nsMs ≤ b.clk - b.pwr.holdT0) := ⟨100000000,
    { wS with pwr := { wS.pwr with state := .holdup, holdStep := 2 } }, by decide +kernel⟩

theorem witness_VbakAndHoldup_9 : ∃ (t : Nat) (s : State), let b := s.advance t; (b.pwr.state = .holdup) ∧ (b.pwr.holdStep =
    3) ∧ (120 * nsMs ≤ b.clk - b.pwr.holdT0) := ⟨120000000,
    { wS with pwr := { wS.pwr with state := .holdup, holdStep := 3 } }, by decide +kernel⟩

theorem witness_VbakAndHoldup_10 : ∃ (t : Nat) (s : State) (vbak : Nat), let b := s.advance t; (b.pwr.state = .holdup) ∧ (vbak
    < 9500) ∧ (b.pwr.holdStep < 2) := ⟨0, { wS with pwr := { wS.pwr with state := .holdup } }, 9000, by decide +kernel⟩

theorem witness_VbakAndHoldup_11 : ∃ (t : Nat) (s : State) (vin : Nat), let b := s.advance t; (b.pwr.vinValid = false) ∧
    (35000 < vin) ∧ (b.pwr.state = .holdup) ∧ (b.pwr.holdStep = 0) := ⟨0,
    { wS with pwr := { wS.pwr with state := .holdup, vinValid := false } }, 48000, by decide +kernel⟩

theorem witness_VbakAndHoldup_12 : ∃ (t : Nat) (s : State) (vin : Nat), let b := s.advance t; (b.pwr.vinValid = false) ∧
    (35000 < vin) ∧ (b.pwr.state = .holdup) ∧ (b.pwr.holdStep = 1) := ⟨0,
    { wS with pwr := { wS.pwr with state := .holdup, vinValid := false, holdStep := 1 } }, 48000, by decide +kernel⟩

theorem witness_VbakAndHoldup_13 : ∃ (t : Nat) (s : State) (vin : Nat), let b := s.advance t; (b.pwr.vinValid = false) ∧
    (35000 < vin) ∧ (b.pwr.state = .holdup) ∧ (b.pwr.holdStep = 2) := ⟨0,
    { wS with pwr := { wS.pwr with state := .holdup, vinValid := false, holdStep := 2 } }, 48000, by decide +kernel⟩

theorem witness_VbakAndHoldup_14 : ∃ (t : Nat) (s : State) (vbak : Nat), let b := s.advance t; (b.pwr.state = .retention) ∧
    (vbak < 8000) ∧ (b.pwr.vinValid = false) := ⟨0,
    { wS with unit := .off, pwr := { wS.pwr with state := .retention, vinValid := false } }, 7000, by decide +kernel⟩

theorem witness_VbakAndHoldup_15 : ∃ (t : Nat) (s : State) (vbak : Nat), let b := s.advance t; (b.pwr.state ≠ .unpowered) ∧
    (b.pwr.deferred = []) := ⟨0, wS, 14000, by decide +kernel⟩

theorem witness_VbakAndHoldup_16 : ∃ (t : Nat) (s : State) (droop esr : Nat), let b := s.advance t; (b.pwr.vinValid = true) ∧
    (b.unit ≠ .off) ∧ (b.unit ≠ .powerup) ∧ (droop ≠ 0) := ⟨0, wS, 286, 5, by decide +kernel⟩

theorem witness_FloatDormantAndClocks_1 : ∃ (t : Nat) (s : State), let b := s.advance t; (b.pwr.state = .active) ∧ (AnyRole
    b) ∧ (floatAllowed b = true) := ⟨20000000000,
    { wS with str := wS.str.set 0 { state := .connected }, pwr := { wS.pwr with floatEn := true }, cee := { wS.cee with est := wS.cee.est.map fun (e : Est) => { e with restSince := some 0 } } },
    by decide +kernel⟩

theorem witness_FloatDormantAndClocks_2 : ∃ (t : Nat) (s : State), let b := s.advance t; (b.pwr.state = .float) ∧
    (b.pwr.floatEn = false) := ⟨0, { wS with pwr := { wS.pwr with state := .float } }, by decide +kernel⟩

theorem witness_FloatDormantAndClocks_3 : ∃ (t : Nat) (s : State) (instant : Nat), let b := s.advance t; (b.pwr.state =
    .float) ∧ (b.tsu.now ≤ instant) ∧ (instant ≤ b.tsu.now + 300 * nsUs) := ⟨0,
    { wS with pwr := { wS.pwr with state := .float } }, 300000, by decide +kernel⟩

theorem witness_FloatDormantAndClocks_4 : ∃ (t : Nat) (s : State), let b := s.advance t; (b.pwr.state = .active ∨ b.pwr.state
    = .float) ∧ (dormantAllowed b = true) := ⟨60000000000, { wS with pwr := { wS.pwr with dormantEn := true } }, by
    decide +kernel⟩

theorem witness_FloatDormantAndClocks_5 : ∃ (t : Nat) (s : State) (w : WakeCause), let b := s.advance t; (b.pwr.state =
    .dormant) ∧ (wakes b w = true) := ⟨0, { wS with pwr := { wS.pwr with state := .dormant } }, .pbN, by decide +kernel⟩

theorem witness_FloatDormantAndClocks_6 : ∃ (t : Nat) (s : State) (d : ClockDomain), let b := s.advance t; (domRuns b d =
    true) ∧ (d ≠ .aon) := ⟨0, wS, .can, by decide +kernel⟩

theorem witness_FloatDormantAndClocks_7 : ∃ (t : Nat) (s : State), let b := s.advance t; (domRuns b .aon = true) := ⟨0, wS, by
    decide +kernel⟩

theorem witness_FloatDormantAndClocks_8 : ∃ (t : Nat) (s : State) (d : ClockDomain) (unit : Nat), let b := s.advance t;
    (domRuns b d = true) ∧ ((d, unit) ∈ [(ClockDomain.loop, uLe), (ClockDomain.est, uCee), (ClockDomain.safe, uSp),
    (ClockDomain.sloe, uSloe), (ClockDomain.isoH, uHvi)]) := ⟨0, wS, .loop, uLe, by decide +kernel⟩

theorem witness_FloatDormantAndClocks_9 : ∃ (t : Nat) (s : State), let b := s.advance t; (domRuns b .sys = true) := ⟨0, wS, by
    decide +kernel⟩

theorem witness_FloatDormantAndClocks_10 : ∃ (t : Nat) (s : State), let b := s.advance t; (domRuns b .xref = true) ∧ (AnyRole
    b) := ⟨0, wS, by decide +kernel⟩

theorem witness_FloatDormantAndClocks_11 : ∃ (t : Nat) (s : State), let b := s.advance t; (b.pwr.xrefFailed = true) := ⟨0,
    { wS with pwr := { wS.pwr with xrefFailed := true } }, by decide +kernel⟩

theorem witness_FloatDormantAndClocks_12 : ∃ (t : Nat) (s : State), let b := s.advance t; (b.pwr.supRestarting = true) ∧
    (ClockDomain.xref ∉ b.pwr.failedClocks) := ⟨0, { wS with pwr := { wS.pwr with supRestarting := true, supLost := true } },
    by decide +kernel⟩

theorem witness_FloatDormantAndClocks_13 : ∃ (t : Nat) (s : State) (row obj : Nat) (amount : Int), let b := s.advance t;
    (b.unit ≠ .off) ∧ (b.unit ≠ .powerup) ∧ (amount ≠ 0) ∧ (row ≤ 6) ∧ ((row = 0 ∧ 128 ≤ obj) ∨ (row ≠ 0 ∧ row ≠ 5)) := ⟨0,
    wS, 1, 0, 5, by decide +kernel⟩

theorem witness_FloatDormantAndClocks_14 : ∃ (t : Nat) (s : State) (obj : Nat) (amount : Int), let b := s.advance t; (b.unit ≠
    .off) ∧ (b.unit ≠ .powerup) ∧ (amount ≠ 0) ∧ (b.retired uCee = false) := ⟨0, wS, 0, 5, by decide +kernel⟩

theorem witness_ShuntAndCalibration_1 : ∃ (t : Nat) (s : State) (i : Nat) (code cur : Int), let b := s.advance t; (calibrated
    (b.hviAt i).rCfg (measMod (b.hviAt i)) code = cur) ∧ (b.isStr i = true) ∧ (hviRuns b = true) ∧ (b.retired (uMod (2 * i)) =
    false) ∧ (i < b.hviStr.length) ∧ (-32768 < code) ∧ (code < 32767) := ⟨12800, wS, 7, 1000, calibrated 100000 {} 1000, by
    decide +kernel⟩

theorem witness_ShuntAndCalibration_2 : ∃ (t : Nat) (s : State) (i : Nat), let b := s.advance t; (b.isStr i = true) ∧ (hviRuns
    b = true) ∧ (b.retired (uMod (2 * i)) = false) ∧ (i < b.hviStr.length) ∧ (1 ≤ (b.hviAt i).overCount) := ⟨12800, wS.modHvi
    7 (fun h => { h with overCount := 1 }), 7, by decide +kernel⟩

theorem witness_ShuntAndCalibration_3 : ∃ (t : Nat) (s : State), let b := s.advance t; (hostServed b = true) ∧ (timeRuns b =
    true) ∧ (b.hvi.checkT + 3600 * nsS ≤ b.clk) ∧ (energyOk b = true) := ⟨3600000000000,
    { wS with pwr := { wS.pwr with eAvail := 250000 } }, by decide +kernel⟩

theorem witness_ShuntAndCalibration_4 : ∃ (s : State) (q : Req), (Taken s q) ∧ (AnyRole s) ∧ (q.payload.length = 12) ∧
    (badField shuntFields q.payload = none) ∧ (popString s q.payload = none) ∧ (cnvState s (getU q.payload 0 1) [.isolated,
    .halted, .retired] = none) ∧ (getU q.payload 0 1 < s.hviStr.length) := ⟨wS, rqb (defaults shuntFields), by decide +kernel⟩

theorem witness_ShuntAndCalibration_5 : ∃ (s : State) (q : Req) (i : Nat), (Taken s q) ∧ (AnyRole s) ∧ (s.isStr i = true) ∧
    (FormI s q i) ∧ (i < s.hviStr.length) := ⟨wS, rq [7, 0, 255, 255], 7, by decide +kernel⟩

theorem witness_ShuntAndCalibration_6 : ∃ (t : Nat) (s : State) (i : Nat) (avg : Rat), let b := s.advance t; (calibrates b i =
    true) ∧ (i < b.hviStr.length) ∧ ((b.hviAt i).calStep < 4) ∧ ((b.hviAt i).calT0 + calStepEnd (b.hviAt i).calStep ≤ b.clk)
    := ⟨12000000000, wS, 7, 3, by decide +kernel⟩

theorem witness_ShuntAndCalibration_7 : ∃ (t : Nat) (s : State) (i : Nat) (ov : Overlap), let b := s.advance t; (calibrates b
    i = true) ∧ (i < b.hviStr.length) ∧ ((b.hviAt i).calStep = 4) ∧ (swapDue (b.hviAt i) ≤ b.clk) ∧ ((calChecks (b.hviAt i)
    ov).all id = true) := ⟨60000000000, wS.modHvi 7 (fun h => { h with calStep := 4, cPlus := 26214, cMinus := -26214 }), 7,
    ⟨0, 0, 0⟩, by decide +kernel⟩

theorem witness_ShuntAndCalibration_8 : ∃ (t : Nat) (s : State) (i : Nat) (ov : Overlap), let b := s.advance t; (calibrates b
    i = true) ∧ (i < b.hviStr.length) ∧ ((b.hviAt i).calStep = 4) ∧ (swapDue (b.hviAt i) ≤ b.clk) ∧ ((calChecks (b.hviAt i)
    ov).all id = false) ∧ ((calMod (b.hviAt i)).rejects = []) := ⟨60000000000, wS.modHvi 7 (fun h => { h with calStep := 4 }),
    7, ⟨0, 0, 0⟩, by decide +kernel⟩

theorem witness_ShuntAndCalibration_9 : ∃ (t : Nat) (s : State) (i : Nat) (dI : Int), let b := s.advance t; (calibrates b i =
    true) ∧ (i < b.hviStr.length) ∧ ((b.hviAt i).calStep = 4) ∧ (swapDue (b.hviAt i) ≤ b.clk) ∧ (20000000 < dI ∨ dI <
    -20000000) := ⟨60000000000, wS.modHvi 7 (fun h => { h with calStep := 4 }), 7, -20000001, by decide +kernel⟩

theorem witness_VoltagesInsulationAndTrips_1 : ∃ (t : Nat) (s : State) (ch : Nat) (value : Int) (beyond : Bool),
    let b := s.advance t; (hviRuns b = true) ∧ (b.isStr ch = true) ∧ (ch < b.hviStr.length) ∧ (b.unitOut (uVolt ch) = false)
    := ⟨5, wS, 7, 7500000, true, by decide +kernel⟩

theorem witness_VoltagesInsulationAndTrips_2 : ∃ (t : Nat) (s : State) (value : Int) (beyond : Bool), let b := s.advance t;
    (hviRuns b = true) ∧ (b.unitOut (uVolt 8) = false) := ⟨5, wS, 7500000, false, by decide +kernel⟩

theorem witness_VoltagesInsulationAndTrips_3 : ∃ (t : Nat) (s : State) (rIso cE : Nat) (side : FaultSide),
    let b := s.advance t; (hviRuns b = true) ∧ (b.hvi.iso.injecting = true) ∧ (b.hvi.iso.startT + 4 * nsS ≤ b.clk) ∧
    (b.unitOut (uVolt 9) = false) ∧ (b.unitOut (uVolt 10) = false) ∧ (10000 ≤ rIso) ∧ (rIso ≤ 50000000) := ⟨4000000000,
    { wS with hvi := { wS.hvi with iso := { wS.hvi.iso with injecting := true, lows := 2 } } }, 100000, 3, .positive, by
    decide +kernel⟩

theorem witness_VoltagesInsulationAndTrips_4 : ∃ (t : Nat) (s : State), let b := s.advance t; (b.hvi.iso.handoverWait =
    true) ∧ (Commands b) ∧ (b.hvi.iso.mode = .inject) := ⟨5,
    { wS with hvi := { wS.hvi with iso := { wS.hvi.iso with handoverWait := true } } }, by decide +kernel⟩

theorem witness_VoltagesInsulationAndTrips_5 : ∃ (s : State) (q : Req), (Taken s q) ∧ (AnyRole s) ∧ (q.payload.length = 8) ∧
    (getU q.payload 0 1 ≤ 1) ∧ (getU q.payload 1 1 = 0) ∧ (getU q.payload 2 2 = 0) ∧ (20000 ≤ getU q.payload 4 4) ∧ (getU
    q.payload 4 4 ≤ 10000000) ∧ (allOpenOr s = none) := ⟨wS, rq [1, 0, 0, 0, 128, 26, 6, 0], by decide +kernel⟩

theorem witness_VoltagesInsulationAndTrips_6 : ∃ (t : Nat) (s : State) (i : Nat) (charge : Bool), let b := s.advance t;
    (b.isStr i = true) ∧ (b.pwr.state ≠ .retention) ∧ (b.pwr.state ≠ .unpowered) ∧ (i < b.hviStr.length) := ⟨5, wS, 7, true,
    by decide +kernel⟩

theorem witness_VoltagesInsulationAndTrips_7 : ∃ (t : Nat) (s : State) (c : HviCheck) (i : Nat), let b := s.advance t;
    (hviRuns b = true) ∧ (c ≠ .delivery) ∧ (b.isStr (if c = .activity ∨ c = .density then i / 2 else i) = true) ∧
    (b.red.present = true) ∧ ((plausUnits c i).any b.unitOut = false) := ⟨5, wP 2 8, .agreement, 7, by decide +kernel⟩

theorem witness_VoltagesInsulationAndTrips_8 : ∃ (t : Nat) (s : State) (i : Nat), let b := s.advance t; (hviRuns b = true) ∧
    (deliveryLate b i = true) ∧ (b.unitOut uHvi = false) := ⟨1000001, wS, 8, by decide +kernel⟩

theorem witness_BeaconsAndBreaks_1 : ∃ (t : Nat) (s : State) (i : Nat), let b := s.advance t; (ringRuns b i = true) ∧
    (ringMaster b = true) ∧ (i < b.rings.ring.length) ∧ ((b.ringAt i).lastBeaconT + beaconPeriod b ≤ b.clk) := ⟨1000000, wR,
    7, by decide +kernel⟩

theorem witness_BeaconsAndBreaks_2 : ∃ (t : Nat) (s : State) (i : Nat) (c : BeaconCopy), let b := s.advance t; (ringRuns b i =
    true) ∧ (ringMaster b = true) ∧ (i < b.rings.ring.length) ∧ ((b.ringAt i).declared = true) ∧ (c.closed = true) ∧ (c.turned
    = false) := ⟨1000000, wR, 7, wBC, by decide +kernel⟩

theorem witness_BeaconsAndBreaks_3 : ∃ (t : Nat) (s : State) (i : Nat), let b := s.advance t; (ringRuns b i = true) ∧ (i <
    b.rings.ring.length) := ⟨5, wR, 7, by decide +kernel⟩

theorem witness_BeaconsAndBreaks_4 : ∃ (t : Nat) (s : State) (i : Nat), let b := s.advance t; (ringRuns b i = true) ∧ (i <
    b.rings.ring.length) := ⟨5, wR, 7, by decide +kernel⟩

theorem witness_BeaconsAndBreaks_5 : ∃ (t : Nat) (s : State) (i : Nat), let b := s.advance t; (ringRuns b i = true) ∧ (i <
    b.rings.ring.length) := ⟨5, wR, 7, by decide +kernel⟩

theorem witness_BeaconsAndBreaks_6 : ∃ (t : Nat) (s : State) (i : Nat), let b := s.advance t; (ringRuns b i = true) ∧ (i <
    b.rings.ring.length) := ⟨5, wR, 7, by decide +kernel⟩

theorem witness_BeaconsAndBreaks_7 : ∃ (t : Nat) (s : State) (i : Nat), let b := s.advance t; (ringRuns b i = true) ∧
    (ringMaster b = true) ∧ (i < b.rings.ring.length) ∧ (2 ≤ (b.ringAt i).lostBeacons) ∧ ((b.ringAt i).lastBeaconT + 200 *
    nsUs ≤ b.clk) := ⟨200000, wR.modRing 7 (fun r => { r with lostBeacons := 2 }), 7, by decide +kernel⟩

theorem witness_BeaconsAndBreaks_8 : ∃ (t : Nat) (s : State) (i : Nat), let b := s.advance t; (ringRuns b i = true) ∧ (i <
    b.rings.ring.length) ∧ ((b.ringAt i).twoEnded = true) ∧ (100 ≤ (b.ringAt i).closedCount) := ⟨5, wR.modRing 7 (fun r =>
    { r with twoEnded := true, closedCount := 100 }), 7, by decide +kernel⟩

theorem witness_BeaconsAndBreaks_9 : ∃ (t : Nat) (s : State) (i pos port count : Nat), let b := s.advance t; (ringRuns b i =
    true) ∧ (16 ≤ count) ∧ (pos < (b.ringAt i).n) ∧ (port < 2) := ⟨5, wR, 7, 15, 1, 16, by decide +kernel⟩

theorem witness_BeaconsAndBreaks_10 : ∃ (t : Nat) (s : State) (i link d : Nat), let b := s.advance t; (ringRuns b i = true) ∧
    (i < b.rings.ring.length) := ⟨5, wR, 7, 31, 900, by decide +kernel⟩

theorem witness_BeaconsAndBreaks_11 : ∃ (t : Nat) (s : State) (i m : Nat), let b := s.advance t; (b.isStr i = true) ∧ (HasMon
    b i m) ∧ ((b.monAt i m).lastBeaconT + 50 * nsMs ≤ b.clk) := ⟨50000000, wR, 7, 15, by decide +kernel⟩

theorem witness_BeaconsAndBreaks_12 : ∃ (t : Nat) (s : State) (i m : Nat), let b := s.advance t; (b.isStr i = true) ∧ (HasMon
    b i m) ∧ (m < 16) := ⟨5, wR, 7, 15, by decide +kernel⟩

theorem witness_EnumerationAndRounds_1 : ∃ (t : Nat) (s : State) (i : Nat), let b := s.advance t; (ringRuns b i = true) ∧
    (ringMaster b = true) ∧ (i < b.rings.ring.length) ∧ ((b.ringAt i).declared = true) ∧ ((b.ringAt i).enumPending = true) :=
    ⟨5, wR.modRing 7 (fun r => { r with enumPending := true }), 7, by decide +kernel⟩

theorem witness_EnumerationAndRounds_2 : ∃ (t : Nat) (s : State) (i m : Nat), let b := s.advance t; (ringRuns b i = true) ∧
    (ringMaster b = true) ∧ (i < b.rings.ring.length) ∧ ((b.ringAt i).declared = true) ∧ (m < (b.ringAt i).n) ∧ ((b.monAt i
    m).position = none) := ⟨5, wR.modMon 7 15 (fun x => { x with position := none }), 7, 15, by decide +kernel⟩

theorem witness_EnumerationAndRounds_3 : ∃ (t : Nat) (s : State) (i : Nat) (e : EnumReturn), let b := s.advance t; (ringRuns b
    i = true) ∧ (i < b.rings.ring.length) ∧ ((b.ringAt i).enumSent = true) ∧ ((b.ringAt i).enumAccept = false) ∧ ((b.ringAt
    i).enumReq = none) ∧ (e.turned = false) ∧ (e.count1 = (b.ringAt i).n) ∧ (e.ids = (b.ringAt i).ids) := ⟨5, wR.modRing 7
    (fun r => { r with enumSent := true }), 7, wER 16, by decide +kernel⟩

theorem witness_EnumerationAndRounds_4 : ∃ (t : Nat) (s : State) (i : Nat) (e : EnumReturn), let b := s.advance t; (ringRuns b
    i = true) ∧ (i < b.rings.ring.length) ∧ ((b.ringAt i).enumSent = true) ∧ ((b.ringAt i).enumReq = none) ∧ (e.turned =
    false) ∧ (e.count1 ≠ (b.ringAt i).n) := ⟨5, wR.modRing 7 (fun r => { r with enumSent := true }), 7, wER 15, by
    decide +kernel⟩

theorem witness_EnumerationAndRounds_5 : ∃ (t : Nat) (s : State) (i p : Nat), let b := s.advance t; (ringRuns b i = true) ∧
    (ringMaster b = true) ∧ (roundsRun b = true) ∧ (i < b.rings.ring.length) ∧ (wantedPeriod b = p) := ⟨5, wR, 7, 10000, by
    decide +kernel⟩

theorem witness_EnumerationAndRounds_6 : ∃ (t : Nat) (s : State) (i : Nat), let b := s.advance t; (roundsRun b = true) ∧
    (b.clockLost .ring = false) ∧ (i < b.rings.ring.length) ∧ (i < b.hviStr.length) ∧ ((b.ringAt i).declared = true) ∧
    ((b.ringAt i).served = true) ∧ ((b.ringAt i).newEpoch = none) := ⟨5, wR, 7, by decide +kernel⟩

theorem witness_EnumerationAndRounds_7 : ∃ (t : Nat) (s : State) (i m : Nat), let b := s.advance t; (ringRuns b i = true) ∧
    (ringMaster b = true) ∧ (HasMon b i m) ∧ ((b.ringAt i).roundOpen = true) ∧ (m < (b.ringAt i).n) ∧ ((b.ringAt i).roundT0 +
    100 * nsUs * (m + 1) ≤ b.clk) ∧ ((b.monAt i m).credits ≠ 0) := ⟨1600000, wR.modRing 7 (fun r =>
    { r with roundOpen := true }), 7, 15, by decide +kernel⟩

theorem witness_EnumerationAndRounds_8 : ∃ (t : Nat) (s : State) (i : Nat), let b := s.advance t; (b.isStr i = true) ∧
    (ringRuns b i = true) ∧ (i < b.rings.ring.length) ∧ ((b.ringAt i).roundOpen = true) ∧ ((b.ringAt i).roundT0 + 2 * nsMs ≤
    b.clk) := ⟨2000000, wR.modRing 7 (fun r => { r with roundOpen := true }), 7, by decide +kernel⟩

theorem witness_EnumerationAndRounds_9 : ∃ (s : State) (q : Req) (i : Nat), (Taken s q) ∧ (Commands s) ∧ (getU q.payload 0 1 =
    i) ∧ (q.payload.length = 8 + 8 * getU q.payload 2 1) ∧ (badField ringHead q.payload = none) ∧ ([10, 20, 25, 50,
    100].contains (getU q.payload 4 1) = true) ∧ (i < s.strings) ∧ (i < s.rings.ring.length) ∧ (ringConflict s i = none) :=
    ⟨wS, rq [7, 0, 2, 0, 100, 10, 0, 0, 1, 2, 3, 4, 5, 6, 7, 8, 9, 10, 11, 12, 13, 14, 15, 16], 7, by decide +kernel⟩

theorem witness_EnumerationAndRounds_10 : ∃ (s : State) (q : Req) (i : Nat), (Taken s q) ∧ (Commands s) ∧ (getU q.payload 0 1
    = i) ∧ (q.payload.length = 2) ∧ (getU q.payload 1 1 < 2) ∧ (i < s.strings) ∧ (i < s.rings.ring.length) ∧ (ringConflict s i
    = none) := ⟨wR, rq [7, 1], 7, by decide +kernel⟩

theorem witness_EnumerationAndRounds_11 : ∃ (s : State) (q : Req) (i pos port : Nat), (Taken s q) ∧ (Commands s) ∧ (getU
    q.payload 0 1 = i) ∧ (getU q.payload 1 1 = pos) ∧ (getU q.payload 2 1 = port) ∧ (getU q.payload 3 1 = 0) ∧
    (q.payload.length = 4) ∧ (i < s.strings) ∧ (pos < (s.ringAt i).n) ∧ (port < 2) ∧ (cutsOff (s.ringAt i) (pos + port) =
    false) ∧ (i < s.rings.ring.length) := ⟨wR, rq [7, 15, 1, 0], 7, 15, 1, by decide +kernel⟩

theorem witness_FramesReadingsAndCommands_1 : ∃ (t : Nat) (s : State) (i m seq : Nat) (o : Outstanding), let b := s.advance t;
    (matching b i m seq = some o) ∧ (ringRuns b i = true) ∧ (HasMon b i m) ∧ (o.departed + 250 * nsUs ≤ b.clk) := ⟨250000, wO
    4 0, 7, 3, 9, wOut 4 0, by decide +kernel⟩

theorem witness_FramesReadingsAndCommands_2 : ∃ (t : Nat) (s : State) (i m seq : Nat) (o : Outstanding), let b := s.advance t;
    (matching b i m seq = some o) ∧ (ringRuns b i = true) ∧ (HasMon b i m) ∧ (o.resent = false) := ⟨5, wO 4 0, 7, 3, 9, wOut 4
    0, by decide +kernel⟩

theorem witness_FramesReadingsAndCommands_3 : ∃ (t : Nat) (s : State) (i m seq : Nat) (d : RoundData) (o : Outstanding),
    let b := s.advance t; (ringRuns b i = true) ∧ (ringMaster b = true) ∧ (m < 16) ∧ (HasMon b i m) ∧ (matching b i m seq =
    some o) ∧ (o.type = 4) ∧ (b.clk ≤ o.departed + 250 * nsUs) := ⟨5, wO 4 0, 7, 3, 9, wRD, wOut 4 0, by decide +kernel⟩

theorem witness_FramesReadingsAndCommands_4 : ∃ (t : Nat) (s : State) (i m seq code result value : Nat) (o : Outstanding),
    let b := s.advance t; (ringRuns b i = true) ∧ (ringMaster b = true) ∧ (HasMon b i m) ∧ (matching b i m seq = some o) ∧
    (b.clk ≤ o.departed + 250 * nsUs) ∧ (result ≠ 0) := ⟨5, wO 6 1, 7, 3, 9, 1, 2, 0, wOut 6 1, by decide +kernel⟩

theorem witness_FramesReadingsAndCommands_5 : ∃ (t : Nat) (s : State) (i m : Nat), let b := s.advance t; (ringRuns b i =
    true) ∧ (ringMaster b = true) ∧ (HasMon b i m) ∧ ((b.monAt i m).alarmLine = true) ∧ ((b.monAt i m).credits ≠ 0) := ⟨5,
    wR.modMon 7 15 (fun x => { x with alarmLine := true }), 7, 15, by decide +kernel⟩

theorem witness_FramesReadingsAndCommands_6 : ∃ (t : Nat) (s : State) (i m : Nat), let b := s.advance t; (ringRuns b i =
    true) ∧ (ringMaster b = true) ∧ (HasMon b i m) ∧ (500000 < (b.ringAt i).period) ∧ ((List.range (b.ringAt i).n).filter (fun
    k => !((b.ringAt i).mon k).bleed.isEmpty || ((b.ringAt i).mon k).shuttle.isSome) = [m]) ∧ ((b.monAt i m).credits ≠ 0) :=
    ⟨5, (wR.modRing 7 (fun r => { r with period := 1000000 })).modMon 7 15 (fun x => { x with bleed := [⟨3, 3000, 9⟩] }), 7,
    15, by decide +kernel⟩

theorem witness_FramesReadingsAndCommands_7 : ∃ (t : Nat) (s : State) (i m ch : Nat), let b := s.advance t; (b.isStr i =
    true) ∧ (HasMon b i m) := ⟨5, wR.modMon 7 15 (fun x => { x with shuttle := some ⟨⟨31, false, 100, 9, 4000, 9⟩, 0, 0⟩ }),
    7, 15, 31, by decide +kernel⟩

theorem witness_FramesReadingsAndCommands_8 : ∃ (t : Nat) (s : State) (i m : Nat) (mask : BitVec 32) (floor duration : Nat),
    let b := s.advance t; (CanCommand b i m) ∧ ((b.monAt i m).fresh2 = true) ∧ ((b.balAt i).ringStopped = false) ∧ ((b.monAt i
    m).dieLimit = false) ∧ (bleedResult (b.monAt i m) mask floor duration = 0) := ⟨5, wR, 7, 15, 5, 3000, 10, by
    decide +kernel⟩

theorem witness_FramesReadingsAndCommands_9 : ∃ (t : Nat) (s : State) (i m : Nat) (mask : BitVec 32), let b := s.advance t;
    (CanCommand b i m) ∧ ((b.monAt i m).fresh2 = true) := ⟨5, wR, 7, 15, 5, by decide +kernel⟩

theorem witness_FramesReadingsAndCommands_10 : ∃ (t : Nat) (s : State) (i m : Nat) (a : ShuttleArgs), let b := s.advance t;
    (CanCommand b i m) ∧ ((b.monAt i m).fresh2 = true) ∧ ((b.balAt i).ringStopped = false) ∧ ((b.monAt i m).shuttle = none) ∧
    (a.channel ≤ 31) ∧ (100 ≤ a.current) ∧ (a.current ≤ 3000) ∧ (1 ≤ a.duration) ∧ (a.duration ≤ 600) := ⟨5, wR, 7, 15, ⟨31,
    false, 100, 9, 4000, 9⟩, by decide +kernel⟩

theorem witness_FramesReadingsAndCommands_11 : ∃ (t : Nat) (s : State) (i m : Nat) (a : ShuttleArgs) (sh : Shuttle),
    let b := s.advance t; (CanCommand b i m) ∧ ((b.monAt i m).fresh2 = true) ∧ ((b.balAt i).ringStopped = false) ∧ ((b.monAt i
    m).shuttle = some sh) ∧ (sh.args.channel ≠ a.channel) ∧ (a.channel ≤ 31) ∧ (100 ≤ a.current) ∧ (a.current ≤ 3000) ∧ (1 ≤
    a.duration) ∧ (a.duration ≤ 600) := ⟨5, wR.modMon 7 15 (fun x =>
    { x with shuttle := some ⟨⟨31, false, 100, 9, 4000, 9⟩, 0, 0⟩ }), 7, 15, ⟨30, false, 100, 9, 4000, 9⟩, ⟨⟨31, false, 100,
    9, 4000, 9⟩, 0, 0⟩, by decide +kernel⟩

theorem witness_FramesReadingsAndCommands_12 : ∃ (t : Nat) (s : State) (i m : Nat), let b := s.advance t; (CanCommand b i m) ∧
    ((b.monAt i m).fresh2 = true) := ⟨5, wR, 7, 15, by decide +kernel⟩

theorem witness_FramesReadingsAndCommands_13 : ∃ (t : Nat) (s : State) (i m : Nat), let b := s.advance t; (b.isStr i = true) ∧
    (m < 16) ∧ (HasMon b i m) ∧ ((b.monAt i m).position.isSome = true) ∧ ((b.monAt i m).followsUs = true) := ⟨5, wR, 7, 15, by
    decide +kernel⟩

theorem witness_FramesReadingsAndCommands_14 : ∃ (t : Nat) (s : State) (i m : Nat), let b := s.advance t; (CanCommand b i m)
    := ⟨5, wR, 7, 15, by decide +kernel⟩

theorem witness_FramesReadingsAndCommands_15 : ∃ (t : Nat) (s : State) (i m : Nat), let b := s.advance t; (CanCommand b i m)
    := ⟨5, wR, 7, 15, by decide +kernel⟩

theorem witness_FramesReadingsAndCommands_16 : ∃ (t : Nat) (s : State) (i m ch vMv : Nat), let b := s.advance t; (HasMon b i
    m) := ⟨5, wR, 7, 15, 3, 2000, by decide +kernel⟩

theorem witness_FramesReadingsAndCommands_17 : ∃ (t : Nat) (s : State) (i m vMv : Nat) (sh : Shuttle), let b := s.advance t;
    (HasMon b i m) ∧ ((b.monAt i m).shuttle = some sh) ∧ (sh.startT + sh.args.duration * nsS ≤ b.clk) := ⟨9000000000,
    wR.modMon 7 15 (fun x => { x with shuttle := some ⟨⟨31, false, 100, 9, 4000, 9⟩, 0, 0⟩ }), 7, 15, 3000, ⟨⟨31, false, 100,
    9, 4000, 9⟩, 0, 0⟩, by decide +kernel⟩

theorem witness_Estimator_1 : ∃ (s : State) (q : Req), (Taken s q) ∧ (Commands s) ∧ (q.payload.length = 128) ∧ (badField
    estFields q.payload = none) ∧ (estCheck q.payload = none) ∧ (getU q.payload 0 1 < s.strings) ∧ (getU q.payload 1 1 =
    modelSlot s (getU q.payload 0 1)) ∧ (slice q.payload 104 12 = slice (estCfg s (getU q.payload 0 1)) 104 12) := ⟨wS, rqb
    estOk, by decide +kernel⟩

theorem witness_Estimator_2 : ∃ (s : State) (q : Req), (Taken s q) ∧ (Commands s) ∧ (q.payload.length = 12) ∧ (0 < getU
    q.payload 2 2) ∧ (getU q.payload 0 2 + getU q.payload 2 2 ≤ s.cells) ∧ (rangeOpen s q.payload = none) := ⟨wR.modCell 3
    (fun c => { c with started := true }), rq [3, 0, 1, 0, 0, 0, 0, 0, 0, 0, 0, 0], by decide +kernel⟩

theorem witness_Estimator_3 : ∃ (s : State) (q : Req), (Taken s q) ∧ (Commands s) ∧ (q.payload.length = 4) ∧ (0 < getU
    q.payload 2 2) ∧ (getU q.payload 0 2 + getU q.payload 2 2 ≤ s.cells) ∧ (rangeOpen s q.payload = none) := ⟨wR, rq [3, 0, 1,
    0], by decide +kernel⟩

theorem witness_Estimator_4 : ∃ (s : State) (q : Req), (Taken s q) ∧ (AnyRole s) ∧ (q.payload.length = 1) ∧ (getU q.payload 0
    1 = 1) ∧ (energyOk s = true) ∧ (s.cee.journal.writing = none) := ⟨{ wS with pwr := { wS.pwr with eAvail := 250000 } }, rq
    [1], by decide +kernel⟩

theorem witness_Estimator_5 : ∃ (s : State) (q : Req), (Taken s q) ∧ (AnyRole s) ∧ (q.payload.length = 1) ∧ (getU q.payload 0
    1 = 0) := ⟨wS, rq [0], by decide +kernel⟩

theorem witness_Estimator_6 : ∃ (s : State) (q : Req) (i : Nat), (Taken s q) ∧ (Commands s) ∧ (q.payload.length = 4) ∧ (getU
    q.payload 0 1 = i) ∧ (getU q.payload 1 1 = 0) ∧ (i < s.strings) ∧ (i < s.cee.est.length) ∧ ((s.strAt i).state =
    .regulating) ∧ (estFlag s i 1 = true) ∧ (getBit (dspCfg s) 7 1 = true) := ⟨wS.modStr 7 (fun x =>
    { x with state := .regulating }), rq [7, 0, 0, 0], 7, by decide +kernel⟩

theorem witness_Estimator_7 : ∃ (t : Nat) (s : State), let b := s.advance t; (ceeRuns b = true) ∧ (b.tsu.now / (100 * nsMs) =
    b.cee.periodIdx) := ⟨5, wS, by decide +kernel⟩

theorem witness_Estimator_8 : ∃ (t : Nat) (s : State), let b := s.advance t; (ceeRuns b = true) ∧ (b.cee.periodIdx < b.tsu.now
    / (100 * nsMs)) ∧ (b.tsu.now / (100 * nsMs) ≤ b.cee.periodIdx + 8) ∧ (b.cee.periodIdx ≠ 0) := ⟨900000000, wS.setCee (fun c
    => { c with periodIdx := 1 }), by decide +kernel⟩

theorem witness_Estimator_9 : ∃ (t : Nat) (s : State) (i : Nat), let b := s.advance t; (ceeRuns b = true) ∧ (b.tsu.now / (100
    * nsMs) = b.cee.periodIdx) ∧ (b.isStr i = true) ∧ (i < b.cee.est.length) ∧ (stepDue b i = true) ∧ (mtQ (modelOf b i) ≠ 0)
    := ⟨5, { gE wS with clk := 5 }, 7, by decide +kernel⟩

theorem witness_Estimator_10 : ∃ (t : Nat) (s : State) (i : Nat), let b := s.advance t; (b.isStr i = true) ∧ (ceeRuns b =
    true) ∧ (oneC b i ≠ 0) ∧ (i < b.cee.est.length) ∧ ((b.estAt i).band = .mid ∨ (b.estAt i).band = .low) ∧ (atLeastC b i 50
    (alignedMean b i) = true) := ⟨5, (gE wS).modHvi 7 (fun h => { h with recent := [(0, 100000000)] }), 7, by decide +kernel⟩

theorem witness_Estimator_11 : ∃ (t : Nat) (s : State) (i : Nat), let b := s.advance t; (b.isStr i = true) ∧ (ceeRuns b =
    true) ∧ (oneC b i ≠ 0) ∧ (i < b.cee.est.length) ∧ ((b.estAt i).band = .high) ∧ (heldFor b (b.estAt i).lowSince (10 * nsS)
    = true) ∧ (belowBand b i = true) := ⟨10000000000, (gE wS).modEst 7 (fun e =>
    { e with band := .high, lowSince := some 0 }), 7, by decide +kernel⟩

theorem witness_Estimator_12 : ∃ (t : Nat) (s : State), let b := s.advance t; (hostServed b = true) ∧ (b.clockLost .est =
    false) ∧ (b.pwr.state ≠ .dormant) ∧ (b.cee.journal.lastT + 21600 * nsS ≤ b.clk) ∧ (energyOk b = true) ∧
    (b.cee.journal.writing = none) := ⟨21600000000000, { wS with pwr := { wS.pwr with eAvail := 250000 } }, by decide +kernel⟩

theorem witness_Estimator_13 : ∃ (t : Nat) (s : State), let b := s.advance t; (b.cee.journal.writing = some 0) ∧
    (b.cee.journal.again = none) := ⟨5, wS.setCee (fun c => { c with journal := { c.journal with writing := some 0 } }), by
    decide +kernel⟩

theorem witness_Estimator_14 : ∃ (t : Nat) (s : State) (i : Nat), let b := s.advance t; (b.isStr i = true) ∧ (i <
    b.cee.est.length) ∧ (Commands b) ∧ (b.pwr.state ≠ .float) ∧ (estFlag b i 1 = true) ∧ ((b.estAt i).rest = none) ∧
    (anchorInterval b i ≤ anchorAge b i) ∧ ((b.estAt i).requestT = 0) := ⟨86400000000000, wS, 7, by decide +kernel⟩

theorem witness_Estimator_15 : ∃ (t : Nat) (s : State) (i : Nat), let b := s.advance t; (b.isStr i = true) ∧ (i <
    b.cee.est.length) ∧ (ceeRuns b = true) ∧ ((b.estAt i).overdue = false) ∧ (2 * anchorInterval b i ≤ anchorAge b i) :=
    ⟨172800000000000, wS, 7, by decide +kernel⟩

theorem witness_ThermalInputs_1 : ∃ (t : Nat) (s : State) (n : Nat) (r : TiReading) (v : Int), let b := s.advance t; (n <
    24) ∧ (n < b.th.ti.length) ∧ (hostServed b = true) ∧ (tiMode b n ≠ 0) ∧ (b.pwr.state ≠ .dormant) ∧ (r.refOk = true) ∧
    (b.suspended (uTi n) = false) ∧ (b.retired (uTi n) = false) ∧ (r.openLead = false) ∧ (r.short = false) ∧ (v = r.temp +
    getS (b.tiAt n).cfg 24 2) ∧ (implausible b n v = false) ∧ ((b.tiAt n).broken = false) := ⟨5, wS.modTi 23 (fun x =>
    { x with cfg := [23, 1, 6, 255] ++ List.replicate 20 0 ++ [10, 0, 0, 0] }), 23, ⟨2500, false, false, true⟩, 2510, by
    decide +kernel⟩

theorem witness_ThermalInputs_2 : ∃ (t : Nat) (s : State) (n : Nat) (r : TiReading) (g : Int), let b := s.advance t; (n <
    24) ∧ (n < b.th.ti.length) ∧ (hostServed b = true) ∧ (tiMode b n ≠ 0) ∧ (b.pwr.state ≠ .dormant) ∧ (r.refOk = true) ∧
    (b.suspended (uTi n) = false) ∧ (b.retired (uTi n) = false) ∧ (r.short = true) ∧ ((b.tiAt n).bad < 2) ∧ ((b.tiAt n).good =
    some g) ∧ ((b.tiAt n).broken = false) := ⟨5, wS.modTi 23 (fun x =>
    { x with cfg := [23, 1, 6, 255] ++ List.replicate 24 0, good := some 7, bad := 1 }), 23, ⟨2500, false, true, true⟩, 7, by
    decide +kernel⟩

theorem witness_ThermalInputs_3 : ∃ (t : Nat) (s : State) (n : Nat) (r : TiReading), let b := s.advance t; (n < 24) ∧ (n <
    b.th.ti.length) ∧ (hostServed b = true) ∧ (tiMode b n ≠ 0) ∧ (b.pwr.state ≠ .dormant) ∧ (r.refOk = true) ∧ (b.suspended
    (uTi n) = false) ∧ (b.retired (uTi n) = false) ∧ (r.openLead = true) ∧ ((b.tiAt n).bad = 2) ∧ ((b.tiAt n).broken = false)
    := ⟨5, wS.modTi 23 (fun x => { x with cfg := [23, 1, 6, 255] ++ List.replicate 24 0, good := some 7, bad := 2 }), 23,
    ⟨2500, true, false, true⟩, by decide +kernel⟩

theorem witness_ThermalInputs_4 : ∃ (t : Nat) (s : State) (n : Nat), let b := s.advance t; (n < 24) ∧ (n < b.th.ti.length) ∧
    ((b.tiAt n).broken = true) ∧ (b.retired (uTi n) = false) ∧ ((b.tiAt n).badT + 60 * nsS ≤ b.clk) := ⟨60000000000, wS.modTi
    23 (fun x => { x with broken := true }), 23, by decide +kernel⟩

theorem witness_ThermalInputs_5 : ∃ (t : Nat) (s : State) (n : Nat), let b := s.advance t; (24 ≤ n) ∧ ((tblGet {} (n - 24)
    b.th.sensors).broken = true) ∧ ((tblGet {} (n - 24) b.th.sensors).okSince + 60 * nsS ≤ b.clk) := ⟨60000000000,
    { wS with th := { wS.th with sensors := [(5, { broken := true })] } }, 29, by decide +kernel⟩

theorem witness_ThermalInputs_6 : ∃ (s : State) (q : Req) (n : Nat), (Taken s q) ∧ (Commands s) ∧ (q.payload.length = 28) ∧
    (getU q.payload 0 1 = n) ∧ (badField tiFields q.payload = none) ∧ (tiCheck q.payload = none) ∧ (tiConflict s q.payload =
    none) ∧ (getU q.payload 2 1 ≤ 1 → getU q.payload 3 1 < s.strings) ∧ (s.retired (uTi n) = false) ∧ (n < s.th.ti.length) :=
    ⟨wS, rq ([23, 2, 0, 1, 0x60, 0x27] ++ List.replicate 22 0), 23, by decide +kernel⟩

theorem witness_ThermalInputs_7 : ∃ (s : State) (q : Req) (n : Nat), (Taken s q) ∧ (Commands s) ∧ (q.payload.length = 28) ∧
    (getU q.payload 0 1 = n) ∧ (badField tiFields q.payload = none) ∧ (tiCheck q.payload = none) ∧ (tiConflict s q.payload =
    none) ∧ (getU q.payload 2 1 ≤ 1 → getU q.payload 3 1 < s.strings) ∧ (s.retired (uTi n) = true) ∧ (tiMode s n = getU
    q.payload 1 1) ∧ (n < s.th.ti.length) :=
    ⟨{ (wS.modTi 23 fun x => { x with cfg := [23, 2] }) with flt := { wS.flt with retired := [(uTi 23, 0)] } }, rq ([23, 2, 0,
    1, 0x60, 0x27] ++ List.replicate 22 0), 23, by decide +kernel⟩

theorem witness_TonePlans_1 : ∃ (s : State) (q : Req), (Taken s q) ∧ (Commands s) ∧ (q.payload.length = 88) ∧ (planTones
    q.payload = 0 ∨ getU q.payload 4 1 < 2 ^ s.strings) ∧ (planBad s q.payload = none) :=
    ⟨{ wS with tsu := { wS.tsu with now := 5 } }, rqb wPl, by decide +kernel⟩

theorem witness_TonePlans_2 : ∃ (t : Nat) (s : State) (p : Bytes), let b := s.advance t; (b.tpe.pending = some p) ∧
    (b.tpe.plan = none) ∧ (planTones p ≠ 0) ∧ (planEpoch p ≤ b.tsu.now) ∧ (2 < b.tsu.trig.length) := ⟨5000000000,
    { wS with tpe := { wS.tpe with pending := some wPl } }, wPl, by decide +kernel⟩

theorem witness_TonePlans_3 : ∃ (t : Nat) (s : State) (p o : Bytes), let b := s.advance t; (b.tpe.pending = some p) ∧
    (b.tpe.plan = some o) ∧ (planTones p = 0) ∧ (windowAtOrAfter o (b.tpe.windowT + 1) ≤ b.tsu.now) := ⟨15000000000,
    { gT wS with tpe := { (gT wS).tpe with pending := some wNo } }, wNo, wPl, by decide +kernel⟩

theorem witness_TonePlans_4 : ∃ (t : Nat) (s : State) (pair : Nat) (p : Bytes), let b := s.advance t; (b.tpe.plan = some p) ∧
    (tpeRuns b = true) ∧ (pair < pairCount b) ∧ (pair < b.tpe.pairs.length) ∧ (pairHas p b pair = true) ∧ (injecting (b.pairAt
    pair) = false) ∧ (windowAtOrAfter p b.tsu.now ≤ b.tsu.now + 100 * nsMs) ∧ (b.tpe.startAt = none) ∧ ((pairStatus b p
    pair).blocked = false) := ⟨4950000000, wT, 2, wPl, by decide +kernel⟩

theorem witness_TonePlans_5 : ∃ (t : Nat) (s : State) (pair : Nat) (p : Bytes), let b := s.advance t; (b.tpe.plan = some p) ∧
    (tpeRuns b = true) ∧ (pair < pairCount b) ∧ (pair < b.tpe.pairs.length) ∧ (pairHas p b pair = true) ∧ (injecting (b.pairAt
    pair) = false) ∧ (windowAtOrAfter p b.tsu.now ≤ b.tsu.now + 100 * nsMs) ∧ (b.tpe.startAt = none) ∧ ((pairStatus b p
    pair).blocked = true) := ⟨4950000000, wT.modStr 6 (fun x => { x with state := .connected }), 2, wPl, by decide +kernel⟩

theorem witness_TonePlans_6 : ∃ (t : Nat) (s : State) (pair : Nat), let b := s.advance t; (pair < pairCount b) ∧ (pair <
    b.tpe.pairs.length) ∧ (mustStop b pair = true) ∧ (injecting (b.pairAt pair) = true) := ⟨5, wT.modStr 7 (fun x =>
    { x with state := .halted }), 3, by decide +kernel⟩

theorem witness_TonePlans_7 : ∃ (t : Nat) (s : State) (p : Bytes) (k : Nat), let b := s.advance t; (b.tpe.plan = some p) ∧
    (planEpoch p ≤ b.tsu.now) ∧ (timeRuns b = true) ∧ (k < pairCount b) ∧ (k < b.tpe.pairs.length) ∧ (injecting (b.pairAt k) =
    true) ∧ (tpeRuns b = true) ∧ ((pairStatus b p k).blocked = false) := ⟨25000000000, wT, wPl, 3, by decide +kernel⟩

theorem witness_TonePlans_8 : ∃ (t : Nat) (s : State) (i : Nat) (p : Bytes), let b := s.advance t; (ringRuns b i = true) ∧
    (tpeRuns b = true) ∧ (b.tpe.plan = some p) ∧ (planHas p i = true) ∧ (i < b.rings.ring.length) := ⟨5, wT, 7, wPl, by
    decide +kernel⟩

theorem witness_TonePlans_9 : ∃ (t : Nat) (s : State) (i m : Nat), let b := s.advance t; (b.isStr i = true) ∧
    (b.tpe.collecting = true) ∧ ((b.monAt i m).plan = true) ∧ (HasMon b i m) ∧ ((b.monAt i m).followsUs = b.unit.commands) :=
    ⟨5, wT.modMon 7 15 (fun x => { x with plan := true }), 7, 15, by decide +kernel⟩

theorem witness_TonePlans_10 : ∃ (t : Nat) (s : State) (i : Nat), let b := s.advance t; (ringRuns b i = true) ∧ (Commands b) ∧
    ((b.pairAt (pairOf b i)).aborted = true) ∧ (i < b.rings.ring.length) := ⟨5, modPair wT 3 (fun x =>
    { x with aborted := true }), 7, by decide +kernel⟩

theorem witness_ImpedanceResults_1 : ∃ (t : Nat) (s : State) (ph : List StringPhasor) (p : Bytes), let b := s.advance t;
    (b.tpe.plan = some p) ∧ (b.tpe.windowT + planWindow p ≤ b.tsu.now) ∧ (b.tpe.endT ≠ b.tpe.windowT + planWindow p) :=
    ⟨15000000000, { gT wS with tpe := { (gT wS).tpe with endT := 0 } }, [⟨7, [5], [6], 1000000000⟩], wPl, by decide +kernel⟩

theorem witness_ImpedanceResults_2 : ∃ (t : Nat) (s : State) (i m block : Nat) (x : ImpBlock), let b := s.advance t; (ringRuns
    b i = true) ∧ (b.tpe.collecting = true) ∧ (block < 4) ∧ (m < (b.ringAt i).n) ∧ (b.tpe.endT + 50 * nsMs ≤ b.tsu.now) ∧
    (x.window = b.tpe.res.idx) ∧ (x.planId = getU b.tpe.res.plan 0 1) ∧ (b.tpe.done.contains (i, m, block) = false) ∧
    (x.status.getLsbD 2 = false) := ⟨15050000000, wT, 7, 15, 3, wIB, by decide +kernel⟩

theorem witness_ImpedanceResults_3 : ∃ (t : Nat) (s : State) (i m block : Nat) (x : ImpBlock), let b := s.advance t; (ringRuns
    b i = true) ∧ (b.tpe.collecting = true) ∧ (block < 4) ∧ (m < (b.ringAt i).n) ∧ (b.tpe.endT + 50 * nsMs ≤ b.tsu.now) ∧
    (x.window = b.tpe.res.idx) ∧ (x.planId = getU b.tpe.res.plan 0 1) ∧ (b.tpe.done.contains (i, m, block) = false) ∧
    (x.status.getLsbD 2 = true) ∧ (b.tpe.retried.contains (i, m, block) = false) := ⟨15050000000, wT, 7, 15, 3,
    { wIB with status := 4 }, by decide +kernel⟩

theorem witness_ImpedanceResults_4 : ∃ (t : Nat) (s : State) (i m block : Nat) (x : ImpBlock), let b := s.advance t;
    (b.tpe.collecting = true) ∧ (b.tpe.blocks = [((i, m, block), x)]) := ⟨15060000000,
    { gT wS with tpe := { (gT wS).tpe with blocks := [((7, 15, 3), wIB)] } }, 7, 15, 3, wIB, by decide +kernel⟩

theorem witness_ImpedanceResults_5 : ∃ (t : Nat) (s : State) (i m block : Nat), let b := s.advance t; (b.isStr i = true) ∧
    (b.tpe.collecting = true) ∧ (block < 4) ∧ (m < (b.ringAt i).n) ∧ (b.tpe.endT + 5 * nsS ≤ b.tsu.now) ∧ (b.tpe.done.contains
    (i, m, block) = false) ∧ (b.tpe.blocks.any (fun e => e.1 == (i, m, block)) = false) := ⟨20000000000, wT, 7, 15, 3, by
    decide +kernel⟩

theorem witness_ImpedanceResults_6 : ∃ (t : Nat) (s : State) (c : Nat) (raw r o : Rat), let b := s.advance t; ((b.cellAt
    c).coreRaw = some raw) ∧ (surfaceRate b c = some r) ∧ (heldFor b (b.estAt (c / 512)).quietSince (1800 * nsS) = true) ∧
    (absR r < 10) ∧ (o = (b.cellAt c).offset + (((b.cellAt c).tSurface : Rat) - raw - (b.cellAt c).offset) * firstOrder
    (planWindow b.tpe.res.plan) 21600) ∧ (-1000 < o) ∧ (o < 1000) :=
  ⟨1800000000000, wLearn 0, 3, -0, 0, 0, by decide +kernel, by decide +kernel, by decide +kernel, by decide +kernel, by
      have h : ((((wLearn 0).advance 1800000000000).cellAt 3).tSurface : Rat) - (-0) -
        (((wLearn 0).advance 1800000000000).cellAt 3).offset = 0 := by decide +kernel
      rw [h, Rat.zero_mul]
      decide +kernel, by decide +kernel, by decide +kernel⟩

theorem witness_ImpedanceResults_7 : ∃ (t : Nat) (s : State) (c : Nat) (raw r o : Rat), let b := s.advance t; ((b.cellAt
    c).coreRaw = some raw) ∧ (surfaceRate b c = some r) ∧ (heldFor b (b.estAt (c / 512)).quietSince (1800 * nsS) = true) ∧
    (absR r < 10) ∧ (o = (b.cellAt c).offset + (((b.cellAt c).tSurface : Rat) - raw - (b.cellAt c).offset) * firstOrder
    (planWindow b.tpe.res.plan) 21600) ∧ (o ≤ -1000 ∨ 1000 ≤ o) :=
  ⟨1800000000000, wLearn 1000, 3, -1000, 0, 1000, by decide +kernel, by decide +kernel, by decide +kernel, by decide +kernel, by
      have h : ((((wLearn 1000).advance 1800000000000).cellAt 3).tSurface : Rat) - (-1000) -
        (((wLearn 1000).advance 1800000000000).cellAt 3).offset = 0 := by decide +kernel
      rw [h, Rat.zero_mul]
      decide +kernel, by decide +kernel⟩

theorem witness_ImpedanceResults_8 : ∃ (t : Nat) (s : State) (i c : Nat), let b := s.advance t; (b.tpe.collecting = true) ∧
    (ceeRuns b = true) ∧ (i < b.strings) ∧ (c ∈ presentCells b i) := ⟨5, wT, 7, 4090, by decide +kernel⟩

theorem witness_ImpedanceResults_9 : ∃ (t : Nat) (s : State) (i c : Nat), let b := s.advance t; (b.tpe.collecting = true) ∧
    (ceeRuns b = true) ∧ (i < b.strings) ∧ (c ∈ presentCells b i) ∧ (b.saf.sp.set.isSome = true) ∧ (getBit (b.setB .sp) 17 0 =
    true) ∧ (runCombination (b.setB .sp) i (indicators b c) = true) ∧ (1 ≤ (b.cellAt c).runHits) := ⟨5, wRun, 7, 4090, by
    decide +kernel⟩

theorem witness_DispatchCommands_1 : ∃ (s : State) (q : Req), (Taken s q) ∧ (Commands s) ∧ (q.payload.length = 48) ∧ (getU
    q.payload 6 1 = 255 ∨ getU q.payload 6 1 < 2 ^ s.strings) ∧ (badField (requestFields s.variant) q.payload = none) ∧
    (requestCheck s q.payload = none) ∧ ((accept s q.payload).queue.length ≤ 16) ∧ ((accept s q.payload).queued = false) :=
    ⟨wS, rqb wDsp, by decide +kernel⟩

theorem witness_DispatchCommands_2 : ∃ (s : State) (q : Req), (Taken s q) ∧ (Commands s) ∧ (q.payload.length = 48) ∧ (getU
    q.payload 6 1 = 255 ∨ getU q.payload 6 1 < 2 ^ s.strings) ∧ (badField (requestFields s.variant) q.payload = none) ∧
    (requestCheck s q.payload = none) ∧ ((accept s q.payload).queue.length ≤ 16) ∧ ((accept s q.payload).queued = true) :=
    ⟨wS, rqb wDspAt, by decide +kernel⟩

theorem witness_DispatchCommands_3 : ∃ (s : State) (q : Req), (Taken s q) ∧ (Commands s) ∧ (q.payload.length = 4) ∧ (getU
    q.payload 0 4 ≠ 0xFFFFFFFF) := ⟨wS.setDsp (fun d => { d with queue := [⟨wDspAt, 9, false⟩] }), rq [2, 0, 0, 0], by
    decide +kernel⟩

theorem witness_DispatchCommands_4 : ∃ (s : State) (q : Req), (Taken s q) ∧ (Commands s) ∧ (q.payload.length = 4) ∧ (getU
    q.payload 0 4 = 0xFFFFFFFF) := ⟨wS.setDsp (fun d =>
    { d with queue := [⟨wDspAt, 9, false⟩], armed := some (⟨wDspAt, 9, false⟩, []) }), rq [255, 255, 255, 255], by
    decide +kernel⟩

theorem witness_DispatchCommands_5 : ∃ (t : Nat) (s : State) (e : DspEntry), let b := s.advance t; (supRuns b = true) ∧
    (b.dsp.next = some e) ∧ (b.dsp.queue = []) ∧ (b.tsu.now / (10 * nsMs) ≠ b.dsp.allocT / (10 * nsMs)) := ⟨20000000,
    { wG with dsp := { wG.dsp with next := some ⟨wDsp, 0, false⟩ } }, ⟨wDsp, 0, false⟩, by decide +kernel⟩

theorem witness_DispatchCommands_6 : ∃ (t : Nat) (s : State) (e : DspEntry), let b := s.advance t; (supRuns b = true) ∧
    (b.dsp.next = none) ∧ (b.dsp.queue = [e]) ∧ (e.eff ≤ b.tsu.now) := ⟨20000000,
    { wG with dsp := { wG.dsp with queue := [⟨wDsp, 7000000, false⟩] } }, ⟨wDsp, 7000000, false⟩, by decide +kernel⟩

theorem witness_DispatchCommands_7 : ∃ (t : Nat) (s : State), let b := s.advance t; (supRuns b = true) ∧ (b.dsp.next = none) ∧
    (b.dsp.queue = []) ∧ (b.dsp.force = none) ∧ (b.le.commit = none) ∧ (b.tsu.now / (10 * nsMs) ≠ b.dsp.allocT / (10 * nsMs))
    := ⟨20000000, wG, by decide +kernel⟩

theorem witness_DispatchCommands_8 : ∃ (t : Nat) (s : State) (e : DspEntry) (rest : List DspEntry), let b := s.advance t;
    (supRuns b = true) ∧ (b.dsp.queue = e :: rest) ∧ (b.dsp.armed = none) ∧ (b.tsu.now < e.eff) ∧ (e.eff ≤ b.tsu.now + 2 *
    nsMs) ∧ (3 < b.tsu.trig.length) := ⟨5500000, { wG with dsp := { wG.dsp with queue := [⟨wDsp, 7000000, false⟩] } }, ⟨wDsp,
    7000000, false⟩, [], by decide +kernel⟩

theorem witness_DispatchCommands_9 : ∃ (t : Nat) (s : State) (c : Nat), let b := s.advance t; (b.le.commit = some c) ∧ (c ≤
    b.tsu.now) := ⟨7000000, { wG with le := { wG.le with commit := some 7000000, shadow := [5] } }, 7000000, by
    decide +kernel⟩

theorem witness_DispatchCommands_10 : ∃ (t : Nat) (s : State) (e : DspEntry), let b := s.advance t; (b.dsp.force = some e) ∧
    (supRuns b = true) ∧ (reqMode e.req ≠ 2) ∧ (b.dsp.expired = false) ∧ (b.dsp.forceT + reqExpiry b e.req ≤ b.clk) :=
    ⟨5000000000, { wG with dsp := { wG.dsp with force := some ⟨wDsp, 0, false⟩ } }, ⟨wDsp, 0, false⟩, by decide +kernel⟩

theorem witness_BalancingAndRest_1 : ∃ (t : Nat) (s : State) (i : Nat), let b := s.advance t; (planAllowed b i = true) ∧
    (ringMaster b = true) ∧ (ringRuns b i = true) ∧ (cycleDue b i = true) ∧ (i < b.bal.length) ∧ (balMode b i ≠ 0) ∧ (2 *
    (deviations b i).length < (presentCells b i).length) := ⟨5, wB.modMon 7 0 (fun m => { m with round := none }), 7, by
    decide +kernel⟩

theorem witness_BalancingAndRest_2 : ∃ (t : Nat) (s : State) (i : Nat), let b := s.advance t; (planAllowed b i = true) ∧
    (ringMaster b = true) ∧ (ringRuns b i = true) ∧ (cycleDue b i = true) ∧ (i < b.bal.length) ∧ (balMode b i ≠ 0) ∧
    ((presentCells b i).length ≤ 2 * (deviations b i).length) := ⟨5, wB, 7, by decide +kernel⟩

theorem witness_BalancingAndRest_3 : ∃ (t : Nat) (s : State) (i : Nat), let b := s.advance t; (planAllowed b i = true) ∧
    (ringMaster b = true) ∧ (ringRuns b i = true) ∧ (cycleDue b i = true) ∧ (i < b.bal.length) ∧ (balMode b i = 0) := ⟨5,
    wB.modBal 6 (fun b => { b with cfg := putAt (putAt (fitTo 24 (defaults balFields)) 0 [6]) 1 [0] }), 6, by decide +kernel⟩

theorem witness_BalancingAndRest_4 : ∃ (t : Nat) (s : State) (i : Nat), let b := s.advance t; (b.isStr i = true) ∧ (stopNow b
    i = true) := ⟨5, wB.modStr 7 (fun x => { x with state := .halted }), 7, by decide +kernel⟩

theorem witness_BalancingAndRest_5 : ∃ (t : Nat) (s : State), let b := s.advance t; (Commands b) ∧ (((List.range
    b.strings).map fun i => (b.balAt i).shuttles.length).sum ≤ 128) := ⟨5, wB, by decide +kernel⟩

theorem witness_BalancingAndRest_6 : ∃ (t : Nat) (s : State) (i : Nat), let b := s.advance t; (b.isStr i = true) ∧ (supRuns b
    = true) ∧ (restGrantable b i = true) ∧ (i < b.cee.est.length) := ⟨5, wG.modEst 7 (fun e =>
    { e with restRequested := true }), 7, by decide +kernel⟩

theorem witness_BalancingAndRest_7 : ∃ (t : Nat) (s : State) (i : Nat) (r : Rest), let b := s.advance t; (i <
    b.cee.est.length) ∧ ((b.estAt i).rest = some r) ∧ (heldFor b r.counted (restDuration b i) = true) := ⟨72000000000000,
    wG.modEst 7 (fun e => { e with rest := some ⟨0, 5, 1, some 5, none⟩, overdue := true }), 7, ⟨0, 5, 1, some 5, none⟩, by
    decide +kernel⟩

theorem witness_BalancingAndRest_8 : ∃ (t : Nat) (s : State) (i : Nat) (r : Rest), let b := s.advance t; (i <
    b.cee.est.length) ∧ ((b.estAt i).rest = some r) ∧ (r.counted = none) ∧ ((b.strAt i).state ≠ .regulating) := ⟨5, (wG.modEst
    7 (fun e => { e with rest := some ⟨0, 5, 1, none, none⟩ })).modStr 7 (fun x => { x with state := .connected }), 7, ⟨0, 5,
    1, none, none⟩, by decide +kernel⟩

theorem witness_StringCommands_1 : ∃ (s : State) (q : Req) (i : Nat), (Taken s q) ∧ (Commands s) ∧ (FormI s q i) ∧ (i <
    s.strings) ∧ (i < s.str.length) ∧ (i < s.conv.length) ∧ ((s.strAt i).state = .isolated) ∧ ((s.strAt i).trans = none) ∧ (1
    < (s.strAt i).tier.code) ∧ (permit s .sp i = true) ∧ (permit s .sloe i = true) ∧ ((s.hviAt i).testFailed = false) :=
    ⟨inState .isolated wC, rq [7, 0, 255, 255], 7, by decide +kernel⟩

theorem witness_StringCommands_2 : ∃ (s : State) (q : Req) (i : Nat), (Taken s q) ∧ (Commands s) ∧ (FormI s q i) ∧ (i <
    s.strings) ∧ (i < s.str.length) ∧ (i < s.conv.length) ∧ ((s.strAt i).state = .connected) ∧ ((s.strAt i).trans = none) ∧
    ((s.convAt i).rampThen = none) ∧ (i < s.saf.sp.str.length) ∧ (i < s.saf.sloe.str.length) := ⟨inState .connected wC, rq [7,
    0, 255, 255], 7, by decide +kernel⟩

theorem witness_StringCommands_3 : ∃ (s : State) (q : Req) (i : Nat), (Taken s q) ∧ (Commands s) ∧ (FormI s q i) ∧ (i <
    s.strings) ∧ (i < s.str.length) ∧ (i < s.conv.length) ∧ ((s.strAt i).state = .regulating) ∧ ((s.strAt i).trans = none) ∧
    ((s.convAt i).rampThen = none) ∧ ((s.convAt i).running = true) := ⟨wC, rq [7, 0, 255, 255], 7, by decide +kernel⟩

theorem witness_StringCommands_4 : ∃ (s : State) (q : Req) (i : Nat), (Taken s q) ∧ (Commands s) ∧ (FormI s q i) ∧ (i <
    s.strings) ∧ (i < s.str.length) ∧ (i < s.conv.length) ∧ ((s.strAt i).state = .precharge) := ⟨inState .precharge (withConv
    ⟨[], false, 0, none, 0, none, 3, none, none, 0, 0, none, true, 0, false, none, none, 0, 0, 0, none, none, 0, false, [], 0,
    0, 0, 0, 0, 0, false⟩ wC), rq [7, 0, 255, 255], 7, by decide +kernel⟩

theorem witness_StringCommands_5 : ∃ (s : State) (q : Req) (i : Nat), (Taken s q) ∧ (Commands s) ∧ (FormI s q i) ∧ (i <
    s.strings) ∧ (i < s.str.length) ∧ (i < s.conv.length) ∧ ((s.strAt i).state = .connected) ∧ ((s.strAt i).trans = none) ∧
    ((s.strAt i).tier = .f) ∧ (s.suspended uLe = false) ∧ ((s.convAt i).rampThen = none) := ⟨inState .connected wC, rq [7, 0,
    255, 255], 7, by decide +kernel⟩

theorem witness_StringCommands_6 : ∃ (s : State) (q : Req) (i : Nat), (Taken s q) ∧ (Commands s) ∧ (FormI s q i) ∧ (i <
    s.strings) ∧ (i < s.str.length) ∧ (i < s.conv.length) ∧ ((s.strAt i).state = .regulating) ∧ ((s.strAt i).trans = none) ∧
    ((s.convAt i).rampThen = none) ∧ ((s.convAt i).running = true) := ⟨wC, rq [7, 0, 255, 255], 7, by decide +kernel⟩

theorem witness_StringCommands_7 : ∃ (s : State) (q : Req) (i : Nat), (Taken s q) ∧ (Commands s) ∧ (FormI s q i) ∧ (i <
    s.strings) ∧ (i < s.str.length) ∧ (i < s.conv.length) ∧ ((s.strAt i).state = .regulating) ∧ ((s.strAt i).trans = none) ∧
    ((s.convAt i).rampThen = none) ∧ ((s.convAt i).running = false) := ⟨withConv {} wC, rq [7, 0, 255, 255], 7, by
    decide +kernel⟩

theorem witness_StringCommands_8 : ∃ (s : State) (q : Req) (i : Nat), (Taken s q) ∧ (Commands s) ∧ (FormI s q i) ∧ (i <
    s.strings) ∧ (i < s.str.length) ∧ (i < s.conv.length) ∧ ((s.strAt i).state = .halted) ∧ ((s.strAt i).trans = none) ∧
    (causesCleared s .sp i = true) ∧ (causesCleared s .sloe i = true) ∧ ((s.contAt i).mirror = 0) := ⟨inState .halted wC, rq
    [7, 0, 255, 255], 7, by decide +kernel⟩

theorem witness_StringCommands_9 : ∃ (s : State) (q : Req) (i : Nat), (Taken s q) ∧ (Commands s) ∧ (FormI s q i) ∧ (i <
    s.strings) ∧ (i < s.str.length) ∧ (i < s.conv.length) ∧ ((s.strAt i).state = .isolated ∨ (s.strAt i).state = .halted) ∧
    ((s.strAt i).trans = none) := ⟨inState .halted wC, rq [7, 0, 255, 255], 7, by decide +kernel⟩

theorem witness_StringCommands_10 : ∃ (s : State) (q : Req) (i : Nat), (Taken s q) ∧ (Commands s) ∧ (FormI s q i) ∧ (i <
    s.strings) ∧ (i < s.str.length) ∧ (i < s.conv.length) ∧ ((s.strAt i).state = .retired) ∧ ((s.strAt i).trans = none) ∧
    ((restoredBy i).filter s.retired = []) ∧ (i ∈ s.flt.retiredStr) ∧ (permanentLoss s i = false) :=
    ⟨{ inState .retired wC with flt := { wC.flt with retiredStr := [7] } }, rq [7, 0, 255, 255], 7, by decide +kernel⟩

theorem witness_StringCommands_11 : ∃ (s : State) (q : Req) (i : Nat), (Taken s q) ∧ (Commands s) ∧ (FormI s q i) ∧ (i <
    s.strings) ∧ (i < s.str.length) ∧ (i < s.conv.length) ∧ ((s.strAt i).state = .retired) ∧ ((s.strAt i).trans = none) ∧
    (s.retired (uGdb i) = true) := ⟨{ inState .retired wC with flt := { wC.flt with retired := [(uGdb 7, 0)] } }, rq [7, 0,
    255, 255], 7, by decide +kernel⟩

theorem witness_PrechargeAndConverter_1 : ∃ (t : Nat) (s : State) (i : Nat), let b := s.advance t; (i < b.conv.length) ∧ (i <
    b.saf.cont.length) ∧ ((b.convAt i).stage = 1) ∧ ((b.strAt i).state = .precharge) ∧ ((b.convAt i).e ≤ (ePcMax b i : Rat) /
    4) ∧ (((enabledPhases b i).all fun p => (b.gx2At p).ready) = true) ∧ (rPc b i ≠ 0) := ⟨5, inState .precharge (withConv
    { stage := 1, cfg := wCnv } wC), 7, by decide +kernel⟩

theorem witness_PrechargeAndConverter_2 : ∃ (t : Nat) (s : State) (i : Nat), let b := s.advance t; (i < b.conv.length) ∧ (i <
    b.str.length) ∧ ((b.convAt i).stage = 1) ∧ ((b.strAt i).state = .precharge) ∧ ((b.convAt i).e ≤ (ePcMax b i : Rat) / 4) ∧
    (b.retired uHvi = false) := ⟨5, inState .precharge (withConv { stage := 1, cfg := wCnv } wC), 7, by decide +kernel⟩

theorem witness_PrechargeAndConverter_3 : ∃ (t : Nat) (s : State) (i : Nat), let b := s.advance t; (i < b.conv.length) ∧ (i <
    b.saf.cont.length) ∧ ((b.convAt i).stage = 3) ∧ (currentDone b i = true) ∧ (busUp b i = true) := ⟨100000000, inState
    .precharge (withConv { stage := 3, cfg := wCnv, lowSince := some 0, tPc := some 0 } wC), 7, by decide +kernel⟩

theorem witness_PrechargeAndConverter_4 : ∃ (t : Nat) (s : State) (i : Nat), let b := s.advance t; (i < b.str.length) ∧
    ((b.convAt i).stage = 3) ∧ ((b.strAt i).state = .precharge) ∧ ((ePcMax b i : Rat) < (b.convAt i).e ∨ 2 ≤ (b.convAt i).peak
    ∨ (currentDone b i = true ∧ busUp b i = false)) := ⟨5, inState .precharge (withConv { stage := 3, cfg := wCnv, peak := 2 }
    wC), 7, by decide +kernel⟩

theorem witness_PrechargeAndConverter_5 : ∃ (t : Nat) (s : State) (i t0 : Nat), let b := s.advance t; (i < b.str.length) ∧
    ((b.convAt i).stage = 3) ∧ ((b.strAt i).state = .precharge) ∧ ((b.convAt i).tPc = some t0) ∧ (t0 + tPcMax b i * nsMs <
    b.clk) := ⟨2000000001, inState .precharge (withConv { stage := 3, cfg := wCnv, tPc := some 0 } wC), 7, 0, by
    decide +kernel⟩

theorem witness_PrechargeAndConverter_6 : ∃ (t : Nat) (s : State) (i : Nat), let b := s.advance t; (i < b.str.length) ∧ (i <
    b.conv.length) ∧ ((b.convAt i).stage = 4) ∧ ((b.contAt i).mirror.getLsbD 0 = true) ∧ ((b.contAt i).energised.getLsbD 2 =
    false) ∧ ((b.contAt i).mirror.getLsbD 2 = false) := ⟨5, inState .precharge ((withConv { stage := 4, cfg := wCnv }
    wC).modCont 7 fun c => { c with mirror := 11, energised := 11 }), 7, by decide +kernel⟩

theorem witness_PrechargeAndConverter_7 : ∃ (t : Nat) (s : State) (i : Nat), let b := s.advance t; (i < b.conv.length) ∧
    ((b.strAt i).state = .regulating) ∧ ((b.convAt i).running = false) ∧ ((b.convAt i).pause = none) ∧ ((b.convAt i).rampThen
    = none) ∧ (b.clockLost .loop = false) ∧ (headroom b i ≤ (b.hvi.vb : Rat)) := ⟨5, withConv {} wC, 7, by decide +kernel⟩

theorem witness_PrechargeAndConverter_8 : ∃ (t : Nat) (s : State) (i : Nat), let b := s.advance t; (i < b.conv.length) ∧
    (convRuns b i = true) ∧ ((b.convAt i).pause = none) ∧ ((b.convAt i).rampThen = none) ∧ ((b.hvi.vb : Rat) < headroom b i)
    := ⟨5, { wC with hvi := { wC.hvi with vb := 12000000 } }, 7, by decide +kernel⟩

theorem witness_PrechargeAndConverter_9 : ∃ (t : Nat) (s : State) (i : Nat), let b := s.advance t; (i < b.conv.length) ∧
    ((b.strAt i).state = .regulating) ∧ (pauseOver b i = true) ∧ (headroom b i ≤ (b.hvi.vb : Rat)) := ⟨10000000, withConv
    { pause := some .headroom, headroomSince := some 0 } wC, 7, by decide +kernel⟩

theorem witness_PrechargeAndConverter_10 : ∃ (t : Nat) (s : State) (i t0 delay : Nat) (r : Bytes), let b := s.advance t; (i <
    b.conv.length) ∧ ((b.strAt i).state = .regulating) ∧ ((b.convAt i).softStart = some t0) ∧ ((b.convAt i).pause = none) ∧
    (reqInForce b = some r) ∧ ((b.hvi.vb : Rat) < (reqV r : Rat) * 10 * (98 / 100)) ∧ (t0 + ((reqV r * 10 - (b.convAt
    i).ssVref) * nsS / (10000 * max 1 (ssRate b i))) + ssMargin b i * nsMs ≤ b.clk) ∧ (delay = (if (b.convAt i).ssRetry = 0
    then ssRetryS b i else (b.convAt i).ssRetry)) := ⟨20000000000,
    { withConv { running := true, softStart := some 0, ssVref := 14000000, ssRetry := 400 } wC with dsp := { wC.dsp with force := some ⟨[1, 0, 0, 0, 1, 0, 255, 0] ++ List.replicate 16 0 ++ leU 4 1500000 ++ List.replicate 20 0, 0, false⟩ } },
    7, 0, 400, [1, 0, 0, 0, 1, 0, 255, 0] ++ List.replicate 16 0 ++ leU 4 1500000 ++ List.replicate 20 0, by decide +kernel⟩

theorem witness_PrechargeAndConverter_11 : ∃ (t : Nat) (s : State) (i : Nat), let b := s.advance t; (i < b.conv.length) ∧ (i <
    b.str.length) ∧ ((b.convAt i).rampStop = true) ∧ ((b.convAt i).rampThen = some .connected) ∧ ((b.strAt i).state =
    .regulating) ∧ (absI (b.hviAt i).cur < iPcDone b i) ∧ (envelope b (pairOf b i) = 0) := ⟨5, withConv
    { running := true, rampStop := true, rampThen := some .connected } wC, 7, by decide +kernel⟩

theorem witness_PhasesAndDrivers_1 : ∃ (t : Nat) (s : State) (p : Nat) (code : Int), let b := s.advance t; (p < b.phases) ∧ (p
    < b.phase.length) ∧ (b.clockLost .loop = false) ∧ (b.pwr.state = .active ∨ b.pwr.state = .holdup) := ⟨5, withConv
    { cfg := wCnv } wC, 31, 500, by decide +kernel⟩

theorem witness_PhasesAndDrivers_2 : ∃ (t : Nat) (s : State) (p : Nat), let b := s.advance t; (p < b.phases) ∧ (p <
    b.phase.length) ∧ (legFitted b p = true) ∧ (b.retired (uPhase p) = false) := ⟨5, wC, 31, by decide +kernel⟩

theorem witness_PhasesAndDrivers_3 : ∃ (t : Nat) (s : State) (p : Nat), let b := s.advance t; (p < b.phases) ∧ (p <
    b.phase.length) ∧ ((b.phaseAt p).cbcRun = 15) ∧ (b.retired (uPhase p) = false) := ⟨5, wC.modPhase 31 (fun x =>
    { x with cbcRun := 15 }), 31, by decide +kernel⟩

theorem witness_PhasesAndDrivers_4 : ∃ (t : Nat) (s : State) (p : Nat), let b := s.advance t; (p < b.phases) ∧ (p <
    b.phase.length) := ⟨5, wC.modPhase 31 (fun x => { x with cbcRun := 15 }), 31, by decide +kernel⟩

theorem witness_PhasesAndDrivers_5 : ∃ (t : Nat) (s : State) (p : Nat), let b := s.advance t; (p < b.phases) ∧ (p <
    b.phase.length) ∧ (legFitted b p = true) ∧ ((b.phaseAt p).implausible = false) ∧ (b.retired (uPhase p) = false) ∧
    (otherEstimates b p = false) := ⟨5, wC, 31, by decide +kernel⟩

theorem witness_PhasesAndDrivers_6 : ∃ (t : Nat) (s : State) (p : Nat), let b := s.advance t; (p < b.phase.length) ∧
    ((b.phaseAt p).implausible = true) ∧ ((b.phaseAt p).estimate = none) := ⟨5, wC.modPhase 31 (fun x =>
    { x with implausible := true }), 31, by decide +kernel⟩

theorem witness_PhasesAndDrivers_7 : ∃ (t : Nat) (s : State) (p t0 : Nat), let b := s.advance t; (p < b.phase.length) ∧
    ((b.phaseAt p).estimate = some t0) ∧ (b.unitOut (uPhase p) = false) ∧ (heldFor b (b.phaseAt p).agreeSince nsS = true) ∧
    (b.clk ≤ t0 + 10 * nsS) := ⟨10000000000, wC.modPhase 31 (fun x =>
    { x with estimate := some 0, implausible := true, agreeSince := some 9000000000 }), 31, 0, by decide +kernel⟩

theorem witness_PhasesAndDrivers_8 : ∃ (t : Nat) (s : State) (p t0 : Nat), let b := s.advance t; (p < b.phase.length) ∧
    ((b.phaseAt p).estimate = some t0) ∧ ((b.phaseAt p).agreeSince = none) ∧ (t0 + 10 * nsS ≤ b.clk) ∧ (b.retired (uPhase p) =
    false) := ⟨10000000000, wC.modPhase 31 (fun x => { x with estimate := some 0, implausible := true }), 31, 0, by
    decide +kernel⟩

theorem witness_PhasesAndDrivers_9 : ∃ (t : Nat) (s : State) (i : Nat), let b := s.advance t; ((b.strAt i).state =
    .regulating) ∧ (evalArmed b i = false) ∧ (0 < detectN b i) ∧ (i < b.conv.length) := ⟨5, wC, 7, by decide +kernel⟩

theorem witness_PhasesAndDrivers_10 : ∃ (t : Nat) (s : State) (i p : Nat), let b := s.advance t; ((b.strAt i).state =
    .regulating) ∧ (evalArmed b i = true) ∧ (p ∈ splitPhases b i) ∧ (p < b.phase.length) ∧ ((b.phaseAt p).openCount + 1 =
    detectN b i) ∧ (openNow b p = true) ∧ (∀ r ∈ splitPhases b i, (b.phaseAt r).implausible = false ∧ senseNow b r = false ∧
    (r = p ∨ openNow b r = false)) ∧ (otherEstimates b p = false) ∧ (b.retired (uPhase p) = false) := ⟨5, wOpen, 7, 31, by
    decide +kernel⟩

theorem witness_PhasesAndDrivers_11 : ∃ (t : Nat) (s : State) (i n f : Nat), let b := s.advance t; (i < b.conv.length) ∧
    ((b.convAt i).reinterleave = some n) ∧ (firstPhase b i = some f) ∧ (n ≤ (b.phaseAt f).boundaries) := ⟨5, wC.modConv 7 (fun
    c => { c with reinterleave := some 0 }), 7, 0, 28, by decide +kernel⟩

theorem witness_PhasesAndDrivers_12 : ∃ (t : Nat) (s : State) (i flags slot phase at_ : Nat), let b := s.advance t; (i <
    b.conv.length) ∧ ((b.convAt i).shift = some (flags, slot, phase, at_)) ∧ (at_ ≤ b.tsu.now) ∧ ((b.convAt i).cfg.length =
    64) ∧ (getU (b.convAt i).cfg 0 1 = i) ∧ (flags = 1) ∧ (slot < 256) := ⟨5, wC.modConv 7 (fun c =>
    { c with cfg := wCnv, shift := some (1, 9, 0, 5) }), 7, 1, 9, 0, 5, by decide +kernel⟩

theorem witness_PhasesAndDrivers_13 : ∃ (t : Nat) (s : State) (i : Nat), let b := s.advance t; (i < b.conv.length) ∧ (syncMode
    b i = true) ∧ ((b.convAt i).syncHoldover = false) ∧ (2 * (b.convAt i).syncEdge + 3 * syncMean (b.convAt i) ≤ 2 * b.clk) :=
    ⟨15000, wC.modConv 7 (fun c => { c with cfg := putAt wCnv 1 [1], syncPeriods := [10000] }), 7, by decide +kernel⟩

theorem witness_PhasesAndDrivers_14 : ∃ (t : Nat) (s : State) (i : Nat), let b := s.advance t; (i < b.conv.length) ∧ (syncMode
    b i = true) ∧ ((b.convAt i).syncHoldover = true) ∧ (16 ≤ (b.convAt i).syncGood) := ⟨15000, wC.modConv 7 (fun c =>
    { c with cfg := putAt wCnv 1 [1], syncHoldover := true, syncGood := 16 }), 7, by decide +kernel⟩

theorem witness_PhasesAndDrivers_15 : ∃ (t : Nat) (s : State) (p : Nat), let b := s.advance t; (p < b.phases) ∧ (p <
    b.phase.length) ∧ ((b.phaseAt p).gatedOff = false) ∧ ((b.phaseAt p).braking = false) ∧ ((b.phaseAt p).estimate = none) ∧
    (0 < (b.phaseAt p).sample) ∧ (0 ≤ (b.phaseAt p).setpoint) ∧ ((brakeThr b (p / 4) : Int) < (b.phaseAt p).sample -
    (b.phaseAt p).setpoint) := ⟨5, wC.modPhase 31 (fun x => { x with gatedOff := false, sample := 9000 }), 31, by
    decide +kernel⟩

theorem witness_PhasesAndDrivers_16 : ∃ (t : Nat) (s : State) (p : Nat), let b := s.advance t; (p < b.phase.length) ∧
    ((b.phaseAt p).braking = true) ∧ (2 * absI ((b.phaseAt p).sample - (b.phaseAt p).setpoint) ≤ brakeThr b (p / 4) ∨
    (b.phaseAt p).sample = 0 ∨ brakeMax b (p / 4) ≤ (b.phaseAt p).brakePeriods) := ⟨5, wC.modPhase 31 (fun x =>
    { x with braking := true, sample := 1 }), 31, by decide +kernel⟩

theorem witness_PhasesAndDrivers_17 : ∃ (t : Nat) (s : State) (i : Nat), let b := s.advance t; (b.isStr i = true) ∧ (i <
    b.conv.length) ∧ ((b.strAt i).state = .regulating) ∧ ((b.convAt i).pause = none) ∧ ((b.convAt i).rampThen = none) := ⟨5,
    wC, 7, by decide +kernel⟩

theorem witness_PhasesAndDrivers_18 : ∃ (t : Nat) (s : State) (i : Nat) (r : List Gx2Reply), let b := s.advance t; (b.isStr i
    = true) ∧ (i < b.conv.length) ∧ (4 * i + 3 < b.gx2.length) ∧ (((List.range 4).all fun k => legFitted b (4 * i + k)) =
    true) ∧ (r = List.replicate 4 ⟨true, true, true, false, false, false, false, false, true, 9⟩) := ⟨5, wC.modConv 7 (fun c
    => { c with fltLine := true }), 7, List.replicate 4 ⟨true, true, true, false, false, false, false, false, true, 9⟩, by
    decide +kernel⟩

theorem witness_PhasesAndDrivers_19 : ∃ (t : Nat) (s : State) (p : Nat), let b := s.advance t; (p < b.phases) ∧ (p <
    b.phase.length) ∧ (p < b.gx2.length) ∧ (legFitted b p = true) ∧ ((b.gx2At p).followsUs = true) ∧ (b.unitOut (uPhase p) =
    false) := ⟨5, wC, 31, by decide +kernel⟩

theorem witness_ConverterCommands_1 : ∃ (s : State) (q : Req) (i : Nat), (Taken s q) ∧ (Commands s) ∧ (q.payload.length =
    64) ∧ (getU q.payload 0 1 = i) ∧ (i < s.strings) ∧ (i < s.conv.length) ∧ ((s.strAt i).state = .isolated) ∧ (badField
    cnvFields q.payload = none) ∧ (cnvCheck q.payload = none) ∧ (admitted (s.modConv i fun c => { c with cfg := q.payload }) =
    true) ∧ (4 * i + 3 < s.gx2.length) := ⟨inState .isolated wC, rqb wCnv, 7, by decide +kernel⟩

theorem witness_ConverterCommands_2 : ∃ (s : State) (q : Req) (i : Nat), (Taken s q) ∧ (Commands s) ∧ (q.payload.length =
    20) ∧ (getU q.payload 0 1 = i) ∧ (i < s.strings) ∧ (i < s.conv.length) ∧ (badField slotFields q.payload = none) := ⟨wC, rq
    ([7, 1, 9, 0, 0, 0, 0, 0, 5] ++ List.replicate 11 0), 7, by decide +kernel⟩

theorem witness_ConverterCommands_3 : ∃ (s : State) (q : Req) (p : Nat), (Taken s q) ∧ (Commands s) ∧ (q.payload.length = 1) ∧
    (getU q.payload 0 1 = p) ∧ (p < s.phases) ∧ (p < s.phase.length) ∧ (legFitted s p = true) ∧ (phaseEnabled s p = true) ∧
    ((s.strAt (p / 4)).state ≠ .regulating ∨ 3 ≤ (enabledPhases s (p / 4)).length) := ⟨wC, rq [31], 31, by decide +kernel⟩

theorem witness_ConverterCommands_4 : ∃ (s : State) (q : Req) (p : Nat), (Taken s q) ∧ (Commands s) ∧ (q.payload.length = 1) ∧
    (getU q.payload 0 1 = p) ∧ (p < s.phases) ∧ (legFitted s p = true) ∧ ((s.strAt (p / 4)).state = .connected) := ⟨inState
    .connected wC, rq [31], 31, by decide +kernel⟩

theorem witness_LoopLoadingAndTrace_1 : ∃ (s : State) (q : Req) (n : Nat), (Taken s q) ∧ (Commands s) ∧ (q.payload.length =
    64) ∧ (getU q.payload 4 1 = n) ∧ (slotPop s n 4 = none) ∧ (slotConflict s n = none) ∧ (descBad s q.payload = none) ∧ (n <
    s.le.slot.length) := ⟨wS, rqb wDesc, 127, by decide +kernel⟩

theorem witness_LoopLoadingAndTrace_2 : ∃ (s : State) (q : Req) (n : Nat), (Taken s q) ∧ (Commands s) ∧ (q.payload.length =
    1) ∧ (getU q.payload 0 1 = n) ∧ (slotPop s n 0 = none) ∧ (slotConflict s n = none) ∧ (n < 128) ∧ (n < s.le.slot.length) :=
    ⟨wL, rq [127], 127, by decide +kernel⟩

theorem witness_LoopLoadingAndTrace_3 : ∃ (s : State) (q : Req) (n : Nat), (Taken s q) ∧ (AnyRole s) ∧ (q.payload.length =
    1) ∧ (getU q.payload 0 1 = n) ∧ (n < 128) := ⟨wL, rq [127], 127, by decide +kernel⟩

theorem witness_LoopLoadingAndTrace_4 : ∃ (s : State) (q : Req) (n : Nat), (Taken s q) ∧ (Commands s) ∧ (q.payload.length =
    52) ∧ (getU q.payload 0 1 = n) ∧ ((s.loopAt n).swapAt = none) ∧ (coefBad s q.payload = none) ∧ (n < s.le.slot.length) :=
    ⟨wL, rqb wCoef, 127, by decide +kernel⟩

theorem witness_LoopLoadingAndTrace_5 : ∃ (s : State) (q : Req) (n : Nat), (Taken s q) ∧ (AnyRole s) ∧ (q.payload.length =
    1) ∧ (getU q.payload 0 1 = n) ∧ (n < 128) := ⟨wL, rq [127], 127, by decide +kernel⟩

theorem witness_LoopLoadingAndTrace_6 : ∃ (s : State) (q : Req) (n : Nat), (Taken s q) ∧ (Commands s) ∧ (q.payload.length =
    32) ∧ (∀ k ∈ maskSlots q.payload 16, (s.loopAt k).inactive.valid = true ∧ (s.loopAt k).inactive.fresh = true) ∧ (n ∈
    maskSlots q.payload 16) ∧ (s.tsu.now + 20 * nsMs ≤ instantAt q.payload 0) ∧ (getU q.payload 8 4 < nsS) ∧ (getU q.payload
    12 4 = 0) ∧ (n < s.le.slot.length) := ⟨wL, rq ([5] ++ List.replicate 30 0 ++ [128]), 127, by decide +kernel⟩

theorem witness_LoopLoadingAndTrace_7 : ∃ (s : State) (q : Req) (k : Nat), (Taken s q) ∧ (Commands s) ∧ (q.payload.length =
    148) ∧ (getU q.payload 0 1 = k) ∧ (lutInUse s k = false) ∧ (lutBad q.payload = none) ∧ (k < s.le.lut.length) := ⟨wS, rqb
    wLut, 63, by decide +kernel⟩

theorem witness_LoopLoadingAndTrace_8 : ∃ (s : State) (q : Req) (k : Nat), (Taken s q) ∧ (AnyRole s) ∧ (q.payload.length =
    1) ∧ (getU q.payload 0 1 = k) ∧ (k < 64) := ⟨wS, rq [63], 63, by decide +kernel⟩

theorem witness_LoopLoadingAndTrace_9 : ∃ (s : State) (q : Req) (k n : Nat), (Taken s q) ∧ (Commands s) ∧ (getU q.payload 0 1
    = k) ∧ (getU q.payload 1 1 = n) ∧ (q.payload.length = 4 + 4 * n) ∧ (n ≤ 59) ∧ (k + n ≤ 64) ∧ (k < 64) ∧ (getU q.payload 2
    2 = 0) ∧ (s.le.param.length = 64) := ⟨wS, rq [62, 2, 0, 0, 1, 0, 0, 0, 2, 0, 0, 128], 62, 2, by decide +kernel⟩

theorem witness_LoopLoadingAndTrace_10 : ∃ (s : State) (q : Req) (p : Nat), (Taken s q) ∧ (AnyRole s) ∧ (q.payload.length =
    32) ∧ (getU q.payload 0 1 = p) ∧ (badField probeFields q.payload = none) ∧ ((s.probeAt p).state ≠ 1) ∧ ((s.probeAt
    p).state ≠ 2) ∧ (p < s.le.probe.length) := ⟨wS, rqb (putAt (fitTo 32 (defaults probeFields)) 0 [15]), 15, by
    decide +kernel⟩

theorem witness_LoopLoadingAndTrace_11 : ∃ (s : State) (q : Req) (p : Nat), (Taken s q) ∧ (AnyRole s) ∧ (q.payload.length =
    2) ∧ ((getU q.payload 0 2).testBit p = true) ∧ (p < s.le.probe.length) ∧ ((s.probeAt p).cfg ≠ []) ∧ ((s.probeAt p).mode ≠
    0) := ⟨wS.setLe (fun l => { l with probe := List.replicate 16 { cfg := [15, 0, 0, 1] } }), rq [0, 128], 15, by
    decide +kernel⟩

theorem witness_LoopLoadingAndTrace_12 : ∃ (s : State) (q : Req) (p : Nat), (Taken s q) ∧ (AnyRole s) ∧ (q.payload.length =
    2) ∧ ((getU q.payload 0 2).testBit p = true) ∧ (p < s.le.probe.length) ∧ ((s.probeAt p).state = 1 ∨ (s.probeAt p).state =
    2) := ⟨wS.setLe (fun l => { l with probe := List.replicate 16 { state := 1 } }), rq [0, 128], 15, by decide +kernel⟩

theorem witness_LoopLoadingAndTrace_13 : ∃ (s : State) (q : Req) (k first count : Nat), (Taken s q) ∧ (AnyRole s) ∧ (MemOk
    s) ∧ (SlotOk q) ∧ (q.payload.length = 12) ∧ (getU q.payload 2 1 = k) ∧ (k < 16) ∧ (getU q.payload 3 1 = 0) ∧ (getU
    q.payload 4 4 = first) ∧ (getU q.payload 8 4 = count) ∧ (first < 65536) ∧ (first + count ≤ 65536) ∧ (descOk s q (getU
    q.payload 0 2) (8 * count) = true) := ⟨wD, rq [0, 0, 15, 0, 255, 255, 0, 0, 1, 0, 0, 0], 15, 65535, 1, by decide +kernel⟩

theorem witness_LoopLoadingAndTrace_14 : ∃ (t : Nat) (s : State) (p : Nat), let b := s.advance t; ((b.probeAt p).state = 2) ∧
    ((b.probeAt p).mode = 1) ∧ ((b.probeAt p).need ≤ (b.probeAt p).after) ∧ (p < b.le.probe.length) := ⟨5, wS.setLe (fun l =>
    { l with probe := List.replicate 16 { cfg := [15, 0, 0, 1], state := 2 } }), 15, by decide +kernel⟩

theorem witness_LoopPeriods_1 : ∃ (t : Nat) (s : State) (n cycles : Nat) (late : Bool), let b := s.advance t; (slotRuns b n =
    true) ∧ (slotDue b n = true) ∧ ((b.loopAt n).busy = false) ∧ (n < b.le.slot.length) := ⟨5, wL, 127, 20, true, by
    decide +kernel⟩

theorem witness_LoopPeriods_2 : ∃ (t : Nat) (s : State) (n cycles : Nat) (late : Bool), let b := s.advance t; (slotRuns b n =
    true) ∧ (slotDue b n = true) ∧ (n < b.le.slot.length) ∧ ((b.loopAt n).slewed = false) ∧ ((b.loopAt n).busy = true →
    (b.loopAt n).optional = false) ∧ ((outLimits b n (b.loopAt n)).1 ≤ (outLimits b n (b.loopAt n)).2) := ⟨5, wL, 127, 20,
    false, by decide +kernel⟩

theorem witness_LoopPeriods_3 : ∃ (t : Nat) (s : State) (n cycles : Nat) (late : Bool), let b := s.advance t; (slotRuns b n =
    true) ∧ (slotDue b n = true) ∧ ((b.loopAt n).busy = true) ∧ (n < b.le.slot.length) := ⟨5, wL.modLoop 127 (fun x =>
    { x with busy := true }), 127, 20, false, by decide +kernel⟩

theorem witness_LoopPeriods_4 : ∃ (t : Nat) (s : State) (n at_ : Nat), let b := s.advance t; (n < b.le.slot.length) ∧
    ((b.loopAt n).swapAt = some at_) ∧ (at_ ≤ b.tsu.now) := ⟨5, wL.modLoop 127 (fun x => { x with swapAt := some 5 }), 127, 5,
    by decide +kernel⟩

theorem witness_LoopPeriods_5 : ∃ (t : Nat) (s : State) (n : Nat), let b := s.advance t; (n < b.le.slot.length) ∧ (slotRuns b
    n = true) ∧ (slotKind n = 5) ∧ (8 < (b.loopAt n).lateRun) := ⟨5, wL.modLoop 127 (fun x => { x with lateRun := 9 }), 127,
    by decide +kernel⟩

theorem witness_LoopPeriods_6 : ∃ (t : Nat) (s : State) (n : Nat), let b := s.advance t; (n < b.le.slot.length) ∧ (slotRuns b
    n = true) ∧ (slotKind n ≠ 5) ∧ (8 < (b.loopAt n).lateRun) ∧ (b.retired uLe = false) := ⟨5, wL.modLoop 15 (fun x =>
    { x with desc := wDesc, bankA := { valid := true }, lateRun := 9, busy := true }), 15, by decide +kernel⟩

theorem witness_LoopPeriods_7 : ∃ (t : Nat) (s : State), let b := s.advance t; (ceeRuns b = true) ∧ (b.cee.periodIdx ≠ 0) ∧
    (b.cee.periodIdx + 8 < b.tsu.now / (100 * nsMs)) ∧ (b.retired uCee = false) := ⟨1000000000, wS.setCee (fun c =>
    { c with periodIdx := 1 }), by decide +kernel⟩

theorem witness_TripsAndContactors_1 : ∃ (t : Nat) (s : State) (c : Channel) (i : Nat) (f : SafetyFn), let b := s.advance t;
    (b.isStr i = true) ∧ (evaluates c f = true) ∧ (chanRuns b c = true) ∧ ((b.chan c).set.isSome = true) ∧ (((b.chan c).at
    i).latch = false) ∧ (Commands b) ∧ (i < b.str.length) ∧ (i < b.saf.sp.str.length) ∧ (i < b.saf.sloe.str.length) ∧
    (strConnected b i = true) := ⟨5, wC, .sloe, 7, .ov, by decide +kernel⟩

theorem witness_TripsAndContactors_2 : ∃ (t : Nat) (s : State) (c : Channel) (i : Nat) (f : SafetyFn), let b := s.advance t;
    (b.isStr i = true) ∧ (evaluates c f = true) ∧ (chanRuns b c = true) ∧ ((b.chan c).set.isSome = true) ∧ (((b.chan c).at
    i).latch = false) ∧ (b.unit = .standby) ∧ (i < (b.chan c).str.length) := ⟨5, { wC with unit := .standby }, .sp, 7, .run,
    by decide +kernel⟩

theorem witness_TripsAndContactors_3 : ∃ (t : Nat) (s : State) (i : Nat) (coils : BitVec 4) (t0 : Nat), let b := s.advance t;
    ((b.contAt i).request = some (coils, t0)) ∧ (permit b .sp i = true) ∧ (permit b .sloe i = true) ∧ (i <
    b.saf.sp.str.length) ∧ (i < b.saf.sloe.str.length) ∧ (i < b.saf.cont.length) := ⟨5, wC.modCont 7 (fun x =>
    { x with request := some (15, 5) }), 7, 15, 5, by decide +kernel⟩

theorem witness_TripsAndContactors_4 : ∃ (t : Nat) (s : State) (i : Nat) (coils : BitVec 4) (t0 : Nat), let b := s.advance t;
    ((b.contAt i).request = some (coils, t0)) ∧ (permit b .sp i = true) ∧ (permit b .sloe i = false) ∧ ((b.saf.sloe.at
    i).granted = false) ∧ (i < b.saf.sp.str.length) := ⟨5, (wC.modCont 7 (fun x =>
    { x with request := some (15, 5) })).modChanStr .sloe 7 (fun x => { x with latch := true }), 7, 15, 5, by decide +kernel⟩

theorem witness_TripsAndContactors_5 : ∃ (t : Nat) (s : State) (i t0 : Nat) (coils : BitVec 4), let b := s.advance t;
    ((b.contAt i).request = some (coils, t0)) ∧ (t0 + 100 * nsMs ≤ b.clk) ∧ ((b.saf.sp.at i).granted = true) ∧ (strConnected b
    i = true) ∧ (i < b.str.length) ∧ (i < b.saf.sp.str.length) ∧ (i < b.saf.sloe.str.length) := ⟨100000005, inState .precharge
    ((wC.modCont 7 (fun x => { x with request := some (15, 5) })).modChanStr .sp 7 (fun x => { x with granted := true })), 7,
    5, 15, by decide +kernel⟩

theorem witness_TripsAndContactors_6 : ∃ (t : Nat) (s : State) (bus k i : Nat) (mirrors : List (BitVec 4)) (mir : BitVec 4),
    let b := s.advance t; (k < 4) ∧ (i = 4 * bus + k) ∧ (b.isStr i = true) ∧ (chanRuns b .sp = true ∨ chanRuns b .sloe =
    true) ∧ (mirrors[k]? = some mir) ∧ (i < b.saf.cont.length) ∧ ((b.contAt i).followsUs = true) := ⟨5, wC, 1, 3, 7, [0, 0, 0,
    5], 5, by decide +kernel⟩

theorem witness_TripsAndContactors_7 : ∃ (t : Nat) (s : State) (bus k i : Nat), let b := s.advance t; (k < 4) ∧ (i = 4 * bus +
    k) ∧ (b.isStr i = true) ∧ (chanRuns b .sp = true) ∧ (i < b.saf.cont.length) ∧ ((b.contAt i).ackMissing = 2) ∧ (b.retired
    (uCdb bus) = false) := ⟨5, wC.modCont 7 (fun x => { x with ackMissing := 2 }), 1, 3, 7, by decide +kernel⟩

theorem witness_TripsAndContactors_8 : ∃ (t : Nat) (s : State) (i : Nat), let b := s.advance t; ((b.contAt i).opening.isSome =
    true) ∧ ((b.contAt i).mirror &&& 13 = 0) ∧ (i < b.saf.cont.length) ∧ (i < b.saf.sp.str.length) ∧ (i <
    b.saf.sloe.str.length) := ⟨5, (wC.modCont 7 (fun x => { x with opening := some 5 })).modChanStr .sp 7 (fun x =>
    { x with coils := 2 }), 7, by decide +kernel⟩

theorem witness_TripsAndContactors_9 : ∃ (t : Nat) (s : State) (i k : Nat), let b := s.advance t; ((b.contAt i).followsUs =
    true) ∧ (k < 4) ∧ (k ≠ 1) ∧ ((b.contAt i).energised.getLsbD k = false) ∧ ((b.contAt i).mirror.getLsbD k = true) ∧
    ((b.contAt i).confirmed.getLsbD k = true) ∧ ((b.chan .sp).set.isSome = true) ∧ ((b.contAt i).weld.getLsbD k = false) ∧ (i
    < b.saf.cont.length) ∧ (i < b.saf.sp.str.length) ∧ (i < b.saf.sloe.str.length) ∧ (i < b.str.length) := ⟨5, wC.modCont 7
    (fun x => { x with mirror := 1, confirmed := 1 }), 7, 0, by decide +kernel⟩

theorem witness_TripsAndContactors_10 : ∃ (t : Nat) (s : State), let b := s.advance t; (b.saf.bkrTrip = true) ∧ (b.saf.bkrEnd
    ≤ b.clk) := ⟨5, wC.setSaf (fun x => { x with bkrTrip := true }), by decide +kernel⟩

theorem witness_TripsAndContactors_11 : ∃ (t : Nat) (s : State) (c : Channel) (levels : BitVec 16) (k : Nat),
    let b := s.advance t; (chanRuns b c = true) ∧ ((b.chan c).set.isSome = true) ∧ (k < 16) ∧ (k < (b.chan c).inputs.length) ∧
    (siU (b.setB c) k 0 1 ≠ 0) ∧ (siU (b.setB c) k 1 1 = 2) ∧ (16 ≤ siU (b.setB c) k 3 1) ∧ (∀ j ∈ List.range 16, j = k ∨ siU
    (b.setB c) j 0 1 = 0) ∧ (levels.getLsbD k = false) ∧ (((b.chan c).inputs.getD k {}).high = false) ∧ (siU (b.setB c) k 6 2
    * nsMs ≤ ((b.chan c).inputs.getD k {}).lowNs + (b.clk - ((b.chan c).inputs.getD k {}).lastT)) := ⟨5000000,
    { wC with saf := { wC.saf with sp := { wC.saf.sp with set := some (putAt wSet 568 [1, 2, 255, 255, 128, 1, 5, 0]), inputs := List.replicate 16 { high := false } } } },
    .sp, 0, 15, by decide +kernel⟩

theorem witness_TripsAndContactors_12 : ∃ (t : Nat) (s : State) (n k : Nat), let b := s.advance t; (chanRuns b .sloe = true) ∧
    (tpEnabled (b.setB .sloe) n = true) ∧ (n < b.saf.tpT.length) ∧ (siU (b.setB .sp) k 0 1 ≠ 0) ∧ (siU (b.setB .sp) k 1 1 =
    0) ∧ (siU (b.setB .sp) k 2 1 = n) ∧ (((b.saf.sp.inputs.getD k {}).badCycle) = false) ∧ (k < b.saf.sp.inputs.length) := ⟨5,
    { wC with saf := { wC.saf with sp := { wC.saf.sp with set := some (putAt wSet 440 ([128] ++ List.replicate 127 0 ++ [1, 0, 7])) }, sloe := { wC.saf.sloe with set := some (putAt wSet 440 [128]) } } },
    7, 15, by decide +kernel⟩

theorem witness_TripsAndContactors_13 : ∃ (t : Nat) (s : State) (n k : Nat), let b := s.advance t; (chanRuns b .sloe = true) ∧
    (tpEnabled (b.setB .sloe) n = true) ∧ (k < 16) ∧ (siU (b.setB .sp) k 0 1 ≠ 0) ∧ (siU (b.setB .sp) k 1 1 = 0) ∧ (siU
    (b.setB .sp) k 2 1 = n) ∧ (k < b.saf.sp.inputs.length) := ⟨5,
    { wC with saf := { wC.saf with sp := { wC.saf.sp with set := some (putAt wSet 440 ([128] ++ List.replicate 127 0 ++ [1, 0, 7])) }, sloe := { wC.saf.sloe with set := some (putAt wSet 440 [128]) } } },
    7, 15, by decide +kernel⟩

theorem witness_TripsAndContactors_14 : ∃ (t : Nat) (s : State), let b := s.advance t; (chanRuns b .sp = true) ∧ (chanRuns b
    .sloe = true) := ⟨5, wC.modChanStr .sp 7 (fun x => { x with tripped := [.ov] }), by decide +kernel⟩

theorem witness_TripsAndContactors_15 : ∃ (t : Nat) (s : State) (i t0 : Nat) (f : SafetyFn), let b := s.advance t; (b.isStr i
    = true) ∧ (unmatched b .sp i f = true) ∧ ((b.saf.sp.at i).discSince.find? (fun e => e.1 == fnBit f) = some (fnBit f,
    t0)) ∧ (t0 + fnDebounce b i f + max (discrepancyNs (b.setB .sp)) (discrepancyNs (b.setB .sloe)) < b.clk) ∧ (Commands b) ∧
    (strConnected b i = true) ∧ (i < b.str.length) ∧ (i < b.saf.sp.str.length) ∧ (i < b.saf.sloe.str.length) ∧ (b.retired
    uSloe = false) := ⟨2000000, wC.modChanStr .sp 7 (fun x => { x with tripped := [.ov], discSince := [(0, 0)] }), 7, 0, .ov,
    by decide +kernel⟩

theorem witness_TripsAndContactors_16 : ∃ (t : Nat) (s : State) (i : Nat), let b := s.advance t; (b.saf.sp.crossT + 10 * nsMs
    ≤ b.clk) ∧ (b.saf.sloe.crossT + 10 * nsMs ≤ b.clk) ∧ (Commands b) ∧ (b.saf.sloe.singleUntil = none) ∧ (i < b.strings) ∧ (i
    < b.str.length) ∧ (strConnected b i = true) := ⟨10000000, wC, 7, by decide +kernel⟩

theorem witness_SafetySets_1 : ∃ (s : State) (q : Req), (Taken s q) ∧ (AnyRole s) ∧ (q.payload.length = 8) ∧ (getU q.payload 2
    2 = 0) ∧ (getU q.payload 4 4 = 1024) ∧ (descOk s q (getU q.payload 0 2) 1024 = true) := ⟨wD, rq [0, 0, 0, 0, 0, 4, 0, 0],
    by decide +kernel⟩

theorem witness_SafetySets_2 : ∃ (s : State) (q : Req), (Taken s q) ∧ (AnyRole s) ∧ (q.payload.length = 4) ∧
    (s.saf.activationPending = false) ∧ (commitBad s (getU q.payload 0 4) = none) :=
    ⟨{ wS with saf := { wS.saf with sp := { wS.saf.sp with staged := some [1] }, sloe := { wS.saf.sloe with staged := some [1] } } },
    rq [0, 0, 0, 0], by decide +kernel⟩

theorem witness_SafetySets_3 : ∃ (s : State) (q : Req), (Taken s q) ∧ (AnyRole s) ∧ (q.payload.length = 0) ∧
    (s.saf.activationPending = false) := ⟨{ wS with saf := { wS.saf with sp := { wS.saf.sp with staged := some [1] } } }, rq
    [], by decide +kernel⟩

theorem witness_SafetySets_4 : ∃ (t : Nat) (s : State), let b := s.advance t; (b.saf.sp.staged.isSome = true) ∧
    (b.saf.activationPending = false) ∧ (b.saf.stageT + 600 * nsS ≤ b.clk) := ⟨600000000000,
    { wS with saf := { wS.saf with sp := { wS.saf.sp with staged := some [1] } } }, by decide +kernel⟩

theorem witness_SafetySets_5 : ∃ (t : Nat) (s : State) (c : Channel) (a : Nat) (set : Bytes), let b := s.advance t; ((b.chan
    c).activateAt = some a) ∧ ((b.chan c).staged = some set) ∧ (a ≤ b.clk) ∧ (chanRuns b c = true) := ⟨20000000,
    { wC with saf := { wC.saf with sloe := { wC.saf.sloe with staged := some [1], activateAt := some 20000000 } } }, .sloe,
    20000000, [1], by decide +kernel⟩

theorem witness_SafetySets_6 : ∃ (t : Nat) (s : State) (e : Nat), let b := s.advance t; (b.saf.loadingEnd = some e) ∧ (e ≤
    b.clk) := ⟨5, wS.setSaf (fun x => { x with loadingEnd := some 5 }), 5, by decide +kernel⟩

theorem witness_SafetySets_7 : ∃ (t : Nat) (s : State) (i m : Nat) (thr : Thresholds), let b := s.advance t; ((b.monAt i
    m).followsUs = true) ∧ (HasMon b i m) := ⟨5, wR, 7, 15, ⟨3650, 2500, 6000, 50, 3⟩, by decide +kernel⟩

theorem witness_SafetySets_8 : ∃ (t : Nat) (s : State) (i m : Nat) (rest : List Nat), let b := s.advance t;
    (b.saf.sp.set.isSome = true) ∧ ((b.ringAt i).declared = true) ∧ ((b.ringAt i).thrTodo = m :: rest) ∧ (m ∉ rest) ∧
    (thrWrong b i = []) ∧ (HasMon b i m) ∧ ((b.monAt i m).unreachable = false) ∧ (0 < (b.monAt i m).credits) ∧ (ringRuns b i =
    true) ∧ (ringMaster b = true) := ⟨5, wC.modRing 7 (fun r => { r with thrTodo := [15, 14] }), 7, 15, [14], by
    decide +kernel⟩

theorem witness_SafeCommunication_1 : ∃ (t : Nat) (s : State) (c : Channel) (pdu : Bytes), let b := s.advance t; (chanRuns b c
    = true) ∧ ((b.chan c).set.isSome = true) ∧ (commMode (b.setB c) = 1) ∧ (pdu.length = 44) ∧ (getU pdu 0 2 = 0x5301) ∧ (getU
    pdu 2 2 = 16) ∧ (getU pdu 4 4 = getU (b.setB c) 428 4) ∧ (getU pdu 40 4 = safetyCrc (pdu.take 40)) ∧ ((b.chan c).lastSeq ≠
    some (getU pdu 8 4)) ∧ ((b.chan c).waitA = none) ∧ ((b.chan c).waitB = none) ∧ ((b.chan c).downB = false) := ⟨5, wQ,
    .sloe, wPdu, by decide +kernel⟩

theorem witness_SafeCommunication_2 : ∃ (t : Nat) (s : State) (c : Channel) (pdu : Bytes) (w : PduWait), let b := s.advance t;
    (chanRuns b c = true) ∧ ((b.chan c).set.isSome = true) ∧ (commMode (b.setB c) = 1) ∧ (pdu.length = 44) ∧ (getU pdu 0 2 =
    0x5301) ∧ (getU pdu 2 2 = 16) ∧ (getU pdu 4 4 = getU (b.setB c) 428 4) ∧ (getU pdu 40 4 = safetyCrc (pdu.take 40)) ∧
    ((b.chan c).lastSeq ≠ some (getU pdu 8 4)) ∧ ((b.chan c).waitA = some w) ∧ (w.bytes = pdu) ∧ ((b.chan c).downA = false) ∧
    (seqOk (b.chan c) (getU pdu 8 4) (2 ^ 32) = true) := ⟨5, wQ.modChan .sp (fun x =>
    { x with waitA := some ⟨wPdu, 5⟩, lastSeq := some 8 }), .sp, wPdu, ⟨wPdu, 5⟩, by decide +kernel⟩

theorem witness_SafeCommunication_3 : ∃ (t : Nat) (s : State) (c : Channel) (w : PduWait), let b := s.advance t; ((b.chan
    c).waitB = some w) ∧ (w.since + getU (b.setB c) 423 1 * nsMs ≤ b.clk) := ⟨5000000, wQ.modChan .sp (fun x =>
    { x with waitB := some ⟨wPdu, 5⟩ }), .sp, ⟨wPdu, 5⟩, by decide +kernel⟩

theorem witness_SafeCommunication_4 : ∃ (t : Nat) (s : State) (c : Channel) (net : Nat) (pdu : Bytes), let b := s.advance t;
    (chanRuns b c = true) ∧ ((b.chan c).set.isSome = true) ∧ (commMode (b.setB c) = net + 2) ∧ (pdu.length = 24) ∧ (getU pdu
    20 4 = safetyCrc (leU 4 (getU (b.setB c) 428 4) ++ pdu.take 20)) ∧ (seqOk (b.chan c) (getU pdu 0 2) 65536 = true) := ⟨5,
    wQ.modChan .sloe (fun x => { x with set := some (putAt wSet 421 [3]) }), .sloe, 1, wBlack, by decide +kernel⟩

theorem witness_SafeCommunication_5 : ∃ (t : Nat) (s : State) (c : Channel) (e : Nat), let b := s.advance t; ((b.chan c).wdEnd
    = some e) ∧ (e ≤ b.clk) ∧ (commMode (b.setB c) ≠ 0) ∧ (chanRuns b c = true) ∧ ((b.chan c).set.isSome = true) := ⟨5,
    wQ.modChan .sp (fun x => { x with set := some (putAt wSet 421 [1, 1]), wdEnd := some 5 }), .sp, 5, by decide +kernel⟩

theorem witness_SafeCommunication_6 : ∃ (t : Nat) (s : State) (c : Channel), let b := s.advance t; (chanRuns b c = true) ∧
    (commMode (b.setB c) = 1) ∧ (getU (b.setB c) 436 2 ≠ 0) ∧ ((b.chan c).downA = false) ∧ ((b.chan c).lastA + nsS ≤ b.clk) :=
    ⟨1000000000, wQ.modChan .sp (fun x => { x with set := some (putAt (putAt wSet 421 [1, 1]) 436 [1]) }), .sp, by
    decide +kernel⟩

theorem witness_SafeCommunication_7 : ∃ (t : Nat) (s : State) (c : Channel), let b := s.advance t; ((b.chan
    c).downSince.isSome = true) ∧ (getU (b.setB c) 436 2 * 60 * nsS ≤ degradeSpent b (b.chan c)) := ⟨60000000000, wQ.modChan
    .sp (fun x => { x with set := some (putAt (putAt wSet 421 [1, 1]) 436 [1]), downSince := some 0, downA := true }), .sp, by
    decide +kernel⟩

theorem witness_HeartbeatAndTakeover_1 : ∃ (t : Nat) (s : State), let b := s.advance t; (beats b = true) := ⟨5,
    { wC with saf := { wC.saf with sp := { wC.saf.sp with alive := true } } }, by decide +kernel⟩

theorem witness_HeartbeatAndTakeover_2 : ∃ (t : Nat) (s : State), let b := s.advance t; (beats b = false) := ⟨5,
    { wC with unit := .safeHold }, by decide +kernel⟩

theorem witness_HeartbeatAndTakeover_3 : ∃ (t : Nat) (s : State) (beat : Bytes), let b := s.advance t; (b.unit.isRole =
    true) ∧ (beatOk beat = true) ∧ ((getU beat 2 1).testBit 1 = false) ∧ (b.unit = .active) ∧ (getU beat 4 4 ≤ b.red.claim) :=
    ⟨5, wC, beatBytes { wC with unit := .standby } false, by decide +kernel⟩

theorem witness_HeartbeatAndTakeover_4 : ∃ (t : Nat) (s : State) (beat : Bytes), let b := s.advance t; (b.unit.isRole =
    true) ∧ (beatOk beat = false) := ⟨5, wC, [183], by decide +kernel⟩

theorem witness_HeartbeatAndTakeover_5 : ∃ (t : Nat) (s : State) (beat : Bytes), let b := s.advance t; (beatOk beat = true) ∧
    ((getU beat 2 1).testBit 1 = true) ∧ (b.unit = .standby) ∧ (takeoverReady b = true) ∧ (b.red.xclProven = true) ∧
    (claimFloor b < 4294967295) := ⟨5, wTk, beatBytes { wC with red := { wC.red with yield := true } } false, by
    decide +kernel⟩

theorem witness_HeartbeatAndTakeover_6 : ∃ (t : Nat) (s : State) (p claim : Nat) (own : Bool), let b := s.advance t; (p <
    b.gx2.length) ∧ ((b.gx2At p).claim < claim) := ⟨5, wC, 31, 9, false, by decide +kernel⟩

theorem witness_HeartbeatAndTakeover_7 : ∃ (t : Nat) (s : State) (i claim : Nat) (own : Bool), let b := s.advance t; (i <
    b.saf.cont.length) ∧ ((b.contAt i).claim < claim) ∧ ((b.contAt i).followsUs ≠ own) := ⟨5, wC, 7, 9, false, by
    decide +kernel⟩

theorem witness_HeartbeatAndTakeover_8 : ∃ (t : Nat) (s : State) (i claim : Nat) (own : Bool), let b := s.advance t; (claim ≤
    (b.contAt i).claim) := ⟨5, wC, 7, 0, false, by decide +kernel⟩

theorem witness_HeartbeatAndTakeover_9 : ∃ (t : Nat) (s : State) (i : Nat), let b := s.advance t; (heldFor b (b.contAt
    i).heldSince (100 * nsMs) = true) ∧ (i < b.saf.cont.length) := ⟨100000000, wC.modCont 7 (fun c =>
    { c with heldSince := some 0, energised := 15 }), 7, by decide +kernel⟩

theorem witness_HeartbeatAndTakeover_10 : ∃ (t : Nat) (s : State), let b := s.advance t; (takeoverReady b = true) ∧
    (b.red.partnerDormant = false) ∧ (heldFor b b.red.beatT (32 * nsUs) = true) := ⟨40000, wTk, by decide +kernel⟩

theorem witness_HeartbeatAndTakeover_11 : ∃ (t : Nat) (s : State), let b := s.advance t; (b.unit = .standby) ∧ (replicaFresh b
    = true) ∧ (someTierP b = true) ∧ (b.red.partnerDormant = false) ∧ (b.red.xclProven = false) ∧ (heldFor b b.red.peerBeatT
    (3 * nsMs) = true) := ⟨4000000, { wTk with red := { wTk.red with xclProven := false, peerBeatT := some 0 } }, by
    decide +kernel⟩

theorem witness_HeartbeatAndTakeover_12 : ∃ (t : Nat) (s : State), let b := s.advance t; (b.unit = .active) ∧ (yieldEnabled b
    = true) ∧ (b.red.partnerYieldT = none) ∧ (b.red.lowerSince.any (fun x => heldFor b x (100 * nsMs)) = true) := ⟨100000000,
    { wC with red := { wC.red with lowerSince := [none, some 0] } }, by decide +kernel⟩

theorem witness_HeartbeatAndTakeover_13 : ∃ (t : Nat) (s : State) (claim : Nat), let b := s.advance t; (b.unit = .active) ∧
    (b.red.claim < claim) ∧ (b.red.swapAt = none) := ⟨5, wC, 9, by decide +kernel⟩

theorem witness_HeartbeatAndTakeover_14 : ∃ (t : Nat) (s : State), let b := s.advance t; (beats b = true) ∧ (b.unit.isRole =
    true) := ⟨5, wC, by decide +kernel⟩

theorem witness_HeartbeatAndTakeover_15 : ∃ (t : Nat) (s : State), let b := s.advance t; (b.unit.isRole = true) ∧ (b.pwr.state
    = .active) := ⟨5, wC, by decide +kernel⟩

theorem witness_HeartbeatAndTakeover_16 : ∃ (t : Nat) (s : State), let b := s.advance t; (heldFor b b.red.peerT (10 * nsMs) =
    true) ∧ (heldFor b b.red.peerT nsS = false) := ⟨10000000, { wC with red := { wC.red with peerT := some 0 } }, by
    decide +kernel⟩

theorem witness_HeartbeatAndTakeover_17 : ∃ (t : Nat) (s : State), let b := s.advance t; (heldFor b b.red.peerT nsS = true) ∧
    (b.unit = .standby) ∧ (b.red.partnerDormant = false) := ⟨1000000000, { wTk with red := { wTk.red with peerT := some 0 } },
    by decide +kernel⟩

theorem witness_HeartbeatAndTakeover_18 : ∃ (t : Nat) (s : State), let b := s.advance t; (presentNow b = false) ∧ (b.unit =
    .active) := ⟨5, wC, by decide +kernel⟩

theorem witness_HeartbeatAndTakeover_19 : ∃ (t : Nat) (s : State), let b := s.advance t; (presentNow b = false) ∧ (b.unit =
    .resync) := ⟨5, { wC with unit := .resync }, by decide +kernel⟩

theorem witness_HeartbeatAndTakeover_20 : ∃ (t : Nat) (s : State), let b := s.advance t; (b.red.partnerDormant = true) ∧
    (heldFor b b.red.wakeT nsS = true) ∧ (b.unit = .active) := ⟨1000000000,
    { wC with red := { wC.red with partnerDormant := true, wakeT := some 0 } }, by decide +kernel⟩

theorem witness_SwapsResyncAndPeer_1 : ∃ (s : State) (q : Req), (Taken s q) ∧ (s.unit = .active) ∧ (q.payload.length = 0) ∧
    (swapAllowed s = true) ∧ (s.red.swapAt = none) := ⟨{ wSw with clk := 60000000000 }, rq [], by decide +kernel⟩

theorem witness_SwapsResyncAndPeer_2 : ∃ (s : State) (q : Req), (Taken s q) ∧ (s.unit = .active) ∧ (q.payload.length = 2) ∧ (1
    ≤ getU q.payload 0 2) ∧ (getU q.payload 0 2 ≤ 168) := ⟨wC, rq [168, 0], by decide +kernel⟩

theorem witness_SwapsResyncAndPeer_3 : ∃ (s : State) (q : Req), (Taken s q) ∧ (s.unit = .active ∨ s.unit = .standby) ∧
    (q.payload.length = 0) := ⟨{ wC with unit := .standby }, rq [], by decide +kernel⟩

theorem witness_SwapsResyncAndPeer_4 : ∃ (t : Nat) (s : State) (ts : Nat), let b := s.advance t; (b.red.swapAt = some ts) ∧
    (ts ≤ b.tsu.now) ∧ (b.unit = .standby) := ⟨5, { wTk with red := { wTk.red with swapAt := some 5 } }, 5, by decide +kernel⟩

theorem witness_SwapsResyncAndPeer_5 : ∃ (t : Nat) (s : State) (ts : Nat), let b := s.advance t; (b.red.swapAt = some ts) ∧
    (ts ≤ b.tsu.now) ∧ (b.unit = .active) ∧ (b.red.swapGranted = true) := ⟨5,
    { wC with red := { wC.red with swapAt := some 5, swapGranted := true } }, 5, by decide +kernel⟩

theorem witness_SwapsResyncAndPeer_6 : ∃ (t : Nat) (s : State), let b := s.advance t; (b.red.swapVerifyAt.isSome = true) ∧
    (b.unit = .active) ∧ (strayPhases b = []) := ⟨5, { wC with red := { wC.red with swapVerifyAt := some 5 } }, by
    decide +kernel⟩

theorem witness_SwapsResyncAndPeer_7 : ∃ (t : Nat) (s : State) (p : Nat), let b := s.advance t; (b.red.swapVerifyAt.isSome =
    true) ∧ (b.unit = .active) ∧ (strayPhases b = [p]) ∧ (sharedLost b = false) := ⟨5,
    { wC.modGx2 31 (fun g => { g with followsUs := false }) with red := { wC.red with swapVerifyAt := some 5 } }, 31, by
    decide +kernel⟩

theorem witness_SwapsResyncAndPeer_8 : ∃ (t : Nat) (s : State), let b := s.advance t; (b.unit = .active) ∧ (swapsEnabled b =
    true) ∧ (b.red.dueT ≤ b.clk) ∧ (inWindow b = true) ∧ (swapAllowed b = true) ∧ (b.red.postponeEnd = none) ∧
    (b.saf.setMismatch = false) ∧ (b.red.unresolved = false) ∧ (b.red.retryT ≤ b.clk) ∧ (b.red.swapAt = none) :=
    ⟨9000000000000, wSw, by decide +kernel⟩

theorem witness_SwapsResyncAndPeer_9 : ∃ (t : Nat) (s : State), let b := s.advance t; (heldFor b b.red.dueSince (getU (pairCfg
    b) 8 2 * 3600 * nsS) = true) ∧ (b.red.overdue = false) := ⟨86400000000000,
    { wC with red := { wC.red with dueSince := some 0 } }, by decide +kernel⟩

theorem witness_SwapsResyncAndPeer_10 : ∃ (t : Nat) (s : State), let b := s.advance t; (b.unit = .resync) ∧ (b.red.resyncStep
    = 1) ∧ (b.red.partnerIdentity.isSome = true) ∧ (b.red.partnerVariantOk = true) ∧ (b.red.partnerLevelsOk = true) := ⟨5,
    { wTk with unit := .resync, red := { wTk.red with resyncStep := 1, partnerIdentity := some 7, partnerVariantOk := true, partnerLevelsOk := true } },
    by decide +kernel⟩

theorem witness_SwapsResyncAndPeer_11 : ∃ (t : Nat) (s : State), let b := s.advance t; (b.unit = .resync) ∧ (b.red.resyncStep
    = 5) ∧ (cleanFor b (10 * nsS) = true) := ⟨10000000000,
    { wTk with unit := .resync, red := { wTk.red with resyncStep := 5 } }, by decide +kernel⟩

theorem witness_SwapsResyncAndPeer_12 : ∃ (t : Nat) (s : State), let b := s.advance t; (b.unit = .resync) ∧ (b.red.resyncStep
    ≠ 0) ∧ (b.red.resyncT + 300 * nsS ≤ b.clk) ∧ (b.red.restarts < 3) := ⟨300000000000,
    { wTk with unit := .resync, red := { wTk.red with resyncStep := 4 } }, by decide +kernel⟩

theorem witness_SwapsResyncAndPeer_13 : ∃ (t : Nat) (s : State), let b := s.advance t; (b.unit = .resync) ∧ (b.red.resyncStep
    ≠ 0) ∧ (b.red.resyncT + 300 * nsS ≤ b.clk) ∧ (3 ≤ b.red.restarts) := ⟨300000000000,
    { wTk with unit := .resync, red := { wTk.red with resyncStep := 4, restarts := 3 } }, by decide +kernel⟩

theorem witness_SwapsResyncAndPeer_14 : ∃ (t : Nat) (s : State) (v : ShadowValue), let b := s.advance t; (b.unit = .standby) ∧
    (absI (v.active - v.own) ≤ shadowTol v.row v.active) := ⟨5, wTk, ⟨2, 7, 5000, 5100⟩, by decide +kernel⟩

theorem witness_SwapsResyncAndPeer_15 : ∃ (t : Nat) (s : State) (v : ShadowValue), let b := s.advance t; (b.unit = .standby) ∧
    (shadowTol v.row v.active < absI (v.active - v.own)) ∧ (v.row = 1) ∧ (runGet b.red.runs (v.row, v.obj) = some (9, 0)) ∧
    (b.retired (uPhase v.obj) = false) := ⟨5, { wTk with red := { wTk.red with runs := [((1, 31), 9, 0)] } }, ⟨1, 31, 5000,
    6000⟩, by decide +kernel⟩

theorem witness_SwapsResyncAndPeer_16 : ∃ (t : Nat) (s : State) (m : PeerMsg), let b := s.advance t; (peerRuns b = true) ∧
    (m.crcOk = true) ∧ (b.red.peerRx = none) ∧ (b.unit = .standby) ∧ (m.body = .heartbeat) := ⟨5, wTk, ⟨9, 0, 3, 0, true,
    .heartbeat⟩, by decide +kernel⟩

theorem witness_SwapsResyncAndPeer_17 : ∃ (t : Nat) (s : State) (m : PeerMsg) (p : Bytes), let b := s.advance t; (peerRuns b =
    true) ∧ (m.crcOk = true) ∧ (b.red.peerRx = none) ∧ (b.unit = .standby) ∧ (m.role = 3) ∧ (m.body = .config 0x0603 p) := ⟨5,
    wTk, ⟨9, 0, 3, 0, true, .config 0x0603 [9, 0, 0, 0]⟩, [9, 0, 0, 0], by decide +kernel⟩

theorem witness_SwapsResyncAndPeer_18 : ∃ (t : Nat) (s : State) (m : PeerMsg), let b := s.advance t; (peerRuns b = true) ∧
    (m.crcOk = true) ∧ (b.red.peerRx = none) ∧ (b.unit = .active) ∧ (b.red.swapAsked = true) ∧ (m.body = .swapGrant) := ⟨5,
    { wSw with red := { wSw.red with swapAsked := true } }, ⟨9, 0, 2, 0, true, .swapGrant⟩, by decide +kernel⟩

theorem witness_SwapsResyncAndPeer_19 : ∃ (t : Nat) (s : State) (m : PeerMsg) (w : AckWait), let b := s.advance t; (peerRuns b
    = true) ∧ (m.crcOk = true) ∧ (b.red.peerRx = none) ∧ (b.unit = .active) ∧ (m.body = .ack) ∧ (b.red.ackWait = [w]) ∧
    (m.ackSeq = w.seq) ∧ (b.hpr.exec = [w.exec]) ∧ (w.exec.followers = []) := ⟨5,
    { wC with red := { wC.red with ackWait := [⟨⟨rq [], 0x0305, []⟩, 0, []⟩] }, hpr := { wC.hpr with exec := [⟨rq [], 0x0305, []⟩] } },
    ⟨9, 0, 2, 0, true, .ack⟩, ⟨⟨rq [], 0x0305, []⟩, 0, []⟩, by decide +kernel⟩

theorem witness_SwapsResyncAndPeer_20 : ∃ (t : Nat) (s : State) (m : PeerMsg), let b := s.advance t; (peerRuns b = true) ∧
    (m.crcOk = false) := ⟨5, wC, ⟨9, 0, 2, 0, false, .heartbeat⟩, by decide +kernel⟩

theorem witness_SwapsResyncAndPeer_21 : ∃ (t : Nat) (s : State) (m : PeerMsg) (n : Nat), let b := s.advance t; (peerRuns b =
    true) ∧ (m.crcOk = true) ∧ (b.red.peerRx = some n) ∧ (m.seq ≠ (n + 1) % 2 ^ 32) := ⟨5,
    { wC with red := { wC.red with peerRx := some 9 } }, ⟨9, 0, 2, 0, true, .heartbeat⟩, 9, by decide +kernel⟩

theorem witness_RackBusAndCap_1 : ∃ (t : Nat) (s : State) (vsns : Nat) (uv : Int) (ac : Bool), let b := s.advance t; (auxRuns
    b = true) := ⟨5, wK, 54000, -5000, true, by decide +kernel⟩

theorem witness_RackBusAndCap_2 : ∃ (t : Nat) (s : State), let b := s.advance t; (busFlag b 0 = true) ∧ (heldFor b
    b.rack.slowSince (3600 * nsS) = true) := ⟨3600000000000, { wK with rack := { wK.rack with slowSince := some 0 } }, by
    decide +kernel⟩

theorem witness_RackBusAndCap_3 : ∃ (t : Nat) (s : State) (k : Nat) (r : List RectReading), let b := s.advance t; (auxRuns b =
    true) ∧ (Commands b) ∧ (k < 16) ∧ (rectUsed b k = true) ∧ (k < b.rack.rect.length) ∧ (r = [] ∨ r = List.replicate 16
    ⟨false, 0, 0, 0, 0, 0, 0, false, false⟩) ∧ (r ≠ []) ∧ ((b.rack.rect.getD k {}).misses = 2) ∧ ((b.rack.rect.getD k {}).good
    = true) ∧ ((b.rack.rect.getD k {}).lost = false) := ⟨5,
    { wK with rack := { wK.rack with rect := List.replicate 16 { good := true, misses := 2 } } }, 15, List.replicate 16
    ⟨false, 0, 0, 0, 0, 0, 0, false, false⟩, by decide +kernel⟩

theorem witness_RackBusAndCap_4 : ∃ (t : Nat) (s : State) (k : Nat) (x : RectReading) (r : List RectReading),
    let b := s.advance t; (auxRuns b = true) ∧ (Commands b) ∧ (k < 16) ∧ (rectUsed b k = true) ∧ (k < b.rack.rect.length) ∧
    (r[k]? = some x) ∧ (x.answered = true) ∧ (readingGood b k x = true) := ⟨5, wK, 15, ⟨true, 0, 54000, 9000, 0, 230, 500,
    true, true⟩, List.replicate 16 ⟨true, 0, 54000, 9000, 0, 230, 500, true, true⟩, by decide +kernel⟩

theorem witness_RackBusAndCap_5 : ∃ (t : Nat) (s : State) (seg k : Nat) (w : BitVec 16) (x : RectReading),
    let b := s.advance t; (auxRuns b = true) ∧ (Commands b) ∧ (rectUsed b k = true) ∧ (rectSegment b k = seg) ∧ (k <
    b.rack.rect.length) ∧ ((b.rack.rect.getD k {}).reading = some x) := ⟨5,
    { wK with rack := { wK.rack with rect := List.replicate 16 { reading := some ⟨true, 0, 54000, 9000, 0, 230, 500, true, true⟩ } } },
    1, 15, 64, ⟨true, 0, 54000, 9000, 0, 230, 500, true, true⟩, by decide +kernel⟩

theorem witness_RackBusAndCap_6 : ∃ (t : Nat) (s : State) (k : Nat), let b := s.advance t; (k < b.rack.rect.length) ∧
    ((b.rack.rect.getD k {}).lost = true) ∧ ((b.rack.rect.getD k {}).good = true) ∧ (heldFor b (b.rack.rect.getD k
    {}).goodSince (10 * nsS) = true) := ⟨10000000000,
    { wK with rack := { wK.rack with rect := List.replicate 16 { good := true, lost := true, goodSince := some 0 } } }, 15, by
    decide +kernel⟩

theorem witness_RackBusAndCap_7 : ∃ (t : Nat) (s : State), let b := s.advance t; (auxRuns b = true) ∧ (b.rack.acLoss =
    false) ∧ (heldFor b b.rack.acOkLowSince (20 * nsMs) = true ∨ b.rack.inputFault = true ∨ heldFor b b.rack.lowVSince (20 *
    nsMs) = true) := ⟨5, { wK with rack := { wK.rack with inputFault := true } }, by decide +kernel⟩

theorem witness_RackBusAndCap_8 : ∃ (t : Nat) (s : State), let b := s.advance t; (auxRuns b = true) ∧ (b.rack.acLoss = true) ∧
    (heldFor b b.rack.noLossSince (5 * nsS) = true) ∧ (sharing b ≠ []) := ⟨5000000000,
    { wK with rack := { wK.rack with acLoss := true, noLossSince := some 0, rect := List.replicate 16 { good := true } } }, by
    decide +kernel⟩

theorem witness_RackBusAndCap_9 : ∃ (t : Nat) (s : State) (x : Nat), let b := s.advance t; (auxRuns b = true) ∧ (b.rack.acLoss
    = true) ∧ (b.rack.shelfLow = false) ∧ (remaining b = some x) ∧ (x ≤ tShelfLow b) := ⟨5,
    { wK with rack := { wK.rack with acLoss := true, iShelf := -5000, disch := [5000], shelf := 5000000 } }, 1, by
    decide +kernel⟩

theorem witness_RackBusAndCap_10 : ∃ (t : Nat) (s : State), let b := s.advance t; (auxRuns b = true) ∧ (b.rack.acLoss =
    true) ∧ (b.rack.shelfCut = false) ∧ (b.rack.vBus < vShelfCut b) := ⟨5,
    { wK with rack := { wK.rack with acLoss := true, vBus := 100 } }, by decide +kernel⟩

theorem witness_RackBusAndCap_11 : ∃ (t : Nat) (s : State) (c n : Nat), let b := s.advance t; (auxRuns b = true) ∧ (Commands
    b) ∧ ((capOf b).1 = some c) ∧ (1000 * c < b.rack.pAux) ∧ (nextShed b 1 = some n) ∧ (n < b.rack.ef.length) := ⟨5,
    { wK with rack := { wK.rack with cmdCap := 100, pAux := 900000 } }, 100, 15, by decide +kernel⟩

theorem witness_RackBusAndCap_12 : ∃ (t : Nat) (s : State), let b := s.advance t; (auxRuns b = true) ∧ (Commands b) ∧ ((capOf
    b).1 = none) := ⟨5, { wK with rack := { wK.rack with cfg := [] } }, by decide +kernel⟩

theorem witness_RackBusAndCap_13 : ∃ (t : Nat) (s : State) (x : Shed) (rest : List Shed), let b := s.advance t; (b.rack.shed =
    x :: rest) ∧ (b.rack.acLoss = false) ∧ (restorable b = true) ∧ (heldFor b b.rack.restoreSince (10 * nsS) = true) ∧ (x.kind
    = 0) ∧ (x.ch < b.rack.ef.length) := ⟨10000000000,
    { wK with rack := { wK.rack with cfg := [], shed := [⟨0, 15, 5⟩], restoreSince := some 0 } }, ⟨0, 15, 5⟩, [], by
    decide +kernel⟩

theorem witness_EfuseChannels_1 : ∃ (s : State) (q : Req) (n : Nat), (Taken s q) ∧ (Commands s) ∧ (q.payload.length = 104) ∧
    (getU q.payload 0 1 = n) ∧ (n < 16) ∧ (n < s.rack.ef.length) ∧ (efConflict s n [.off, .latched] = none) ∧ (badField
    efFields q.payload = none) ∧ (efCheck s q.payload = none) := ⟨wS, rqb (fitTo 104 (putAt (putAt (defaults efFields) 0 [15])
    4 [100, 0, 100, 10])), 15, by decide +kernel⟩

theorem witness_EfuseChannels_2 : ∃ (s : State) (q : Req) (n : Nat), (Taken s q) ∧ (Commands s) ∧ (FormI s q n) ∧ (n < 16) ∧
    (n < s.rack.ef.length) ∧ (efSequenced s n = false) ∧ ((s.efAt n).state = .off) ∧ ((s.efAt n).retired = false) ∧ (s.retired
    (uEf n) = false) := ⟨wK.modEf 15 (fun e => { e with state := .off, commanded := false, cfg := [15, 1, 0, 1] }), rq [15, 0,
    255, 255], 15, by decide +kernel⟩

theorem witness_EfuseChannels_3 : ∃ (s : State) (q : Req) (n : Nat), (Taken s q) ∧ (Commands s) ∧ (FormI s q n) ∧ (n < 16) ∧
    (n < s.rack.ef.length) ∧ (efSequenced s n = false) ∧ ((s.efAt n).state = .on) := ⟨wK, rq [15, 0, 255, 255], 15, by
    decide +kernel⟩

theorem witness_EfuseChannels_4 : ∃ (s : State) (q : Req) (n : Nat), (Taken s q) ∧ (Commands s) ∧ (FormI s q n) ∧ (n < 16) ∧
    (n < s.rack.ef.length) ∧ ((s.efAt n).state = .latched) ∧ (s.retired (uEf n) = false) ∧ ((s.efAt n).retired = false) ∧
    ((s.efAt n).commanded = false) := ⟨wK.modEf 15 (fun e => { e with state := .latched, commanded := false }), rq [15, 0,
    255, 255], 15, by decide +kernel⟩

theorem witness_EfuseChannels_5 : ∃ (s : State) (q : Req) (n : Nat), (Taken s q) ∧ (Commands s) ∧ (FormI s q n) ∧ (n < 16) ∧
    (n < s.rack.ef.length) ∧ (s.retired (uEf n) = true) ∧ ((s.efAt n).retired = true) :=
    ⟨{ wK.modEf 15 (fun e => { e with retired := true }) with flt := { wS.flt with retired := [(uEf 15, 0)] } }, rq [15, 0,
    255, 255], 15, by decide +kernel⟩

theorem witness_EfuseChannels_6 : ∃ (t : Nat) (s : State) (n : Nat) (v : EfReading), let b := s.advance t; (efcRuns b =
    true) ∧ (n < 16) ∧ (n < b.rack.ef.length) ∧ ((b.efAt n).state = .off) ∧ ((b.efAt n).commanded = true) ∧ ((b.efAt n).shed =
    false) ∧ ((b.efAt n).retired = false) ∧ (efEnabled b n = true) ∧ (efMayStart b n = true) := ⟨5, wK.modEf 15 (fun e =>
    { e with state := .off, commanded := true, cfg := putAt (fitTo 104 (defaults efFields)) 0 [15, 1, 0, 1] }), 15, ⟨0, 0, 0,
    true⟩, by decide +kernel⟩

theorem witness_EfuseChannels_7 : ∃ (t : Nat) (s : State) (n : Nat) (v : EfReading), let b := s.advance t; (efcRuns b =
    true) ∧ (n < 16) ∧ (n < b.rack.ef.length) ∧ (efGateOn (b.efAt n) = true) ∧ (1 ≤ curveStep (efCfg b n) (b.efAt n) v.i
    (efRated b n)) ∧ (steers b = true) ∧ ((b.efAt n).faults < efRetries b n) := ⟨5, wK.modEf 15 (fun e =>
    { e with acc := 1 }), 15, ⟨2000000, 0, 0, true⟩, by decide +kernel⟩

theorem witness_EfuseChannels_8 : ∃ (t : Nat) (s : State) (n : Nat), let b := s.advance t; (n < b.rack.ef.length) ∧ ((b.efAt
    n).state = .qualify) ∧ (heldFor b (b.efAt n).insertSince (efInsert b n) = true) ∧ (diodeHot b n = false) ∧ (efMayStart b n
    = true) := ⟨500000000, wK.modEf 15 (fun e => { e with state := .qualify, insertSince := some 0 }), 15, by decide +kernel⟩

theorem witness_EfuseChannels_9 : ∃ (t : Nat) (s : State) (n : Nat), let b := s.advance t; (n < b.rack.ef.length) ∧ (efGateOn
    (b.efAt n) = true) ∧ (heldFor b (b.efAt n).lowSince nsMs = true ∨ heldFor b (b.efAt n).highSince (10 * nsUs) = true ∨
    heldFor b (b.efAt n).presSince (10 * nsMs) = true) := ⟨1000000, wK.modEf 15 (fun e => { e with lowSince := some 0 }), 15,
    by decide +kernel⟩

theorem witness_EfuseChannels_10 : ∃ (t : Nat) (s : State) (n : Nat), let b := s.advance t; (efcRuns b = true) ∧ (n <
    b.rack.ef.length) ∧ (efGateOn (b.efAt n) = true) ∧ (efRetries b n ≤ (b.efAt n).faults) := ⟨5,
    { wK.modEf 15 (fun e => { e with faults := 3 }) with unit := .standby }, 15, by decide +kernel⟩

theorem witness_EfuseChannels_11 : ∃ (t : Nat) (s : State) (n : Nat), let b := s.advance t; (n < b.rack.ef.length) ∧
    (softExpired b n = true) ∧ (steers b = true) ∧ ((b.efAt n).faults < efRetries b n) := ⟨900000000, wK.modEf 15 (fun e =>
    { e with state := .ramp }), 15, by decide +kernel⟩

theorem witness_EfuseChannels_12 : ∃ (t : Nat) (s : State) (n : Nat), let b := s.advance t; (n < b.rack.ef.length) ∧
    (softExpired b n = true) ∧ (steers b = false) := ⟨900000000,
    { wK.modEf 15 (fun e => { e with state := .ramp }) with unit := .standby }, 15, by decide +kernel⟩

theorem witness_EfuseChannels_13 : ∃ (t : Nat) (s : State) (n : Nat), let b := s.advance t; (n < b.rack.ef.length) ∧ ((b.efAt
    n).state = .ramp) ∧ (heldFor b (b.efAt n).pgSince nsMs = true) := ⟨1000000, wK.modEf 15 (fun e =>
    { e with state := .ramp, pgSince := some 0 }), 15, by decide +kernel⟩

theorem witness_EfuseChannels_14 : ∃ (t : Nat) (s : State) (n : Nat), let b := s.advance t; (n < b.rack.ef.length) ∧ ((b.efAt
    n).state = .on) ∧ (heldFor b (b.efAt n).gfSince nsMs = true) ∧ (steers b = true) ∧ (efRetries b n ≤ (b.efAt n).faults) ∧
    (b.retired (uEf n) = false) := ⟨1000000, wK.modEf 15 (fun e => { e with gfSince := some 0, faults := 3 }), 15, by
    decide +kernel⟩

theorem witness_EfuseChannels_15 : ∃ (t : Nat) (s : State) (n : Nat), let b := s.advance t; (efcRuns b = true) ∧ (n <
    b.rack.ef.length) ∧ (efGateOn (b.efAt n) = true) ∧ (1 ≤ (b.efAt n).stress) ∧ (steers b = true) ∧ ((b.efAt n).faults <
    efRetries b n) := ⟨5, wK.modEf 15 (fun e => { e with stress := 1 }), 15, by decide +kernel⟩

theorem witness_EfuseChannels_16 : ∃ (t : Nat) (s : State) (n : Nat), let b := s.advance t; (n < b.rack.ef.length) ∧ ((b.efAt
    n).state = .retry) ∧ ((b.efAt n).retryEnd ≤ b.clk) ∧ ((b.efAt n).commanded = false) := ⟨5, wK.modEf 15 (fun e =>
    { e with state := .retry, commanded := false }), 15, by decide +kernel⟩

theorem witness_EfuseChannels_17 : ∃ (t : Nat) (s : State) (n : Nat), let b := s.advance t; (n < b.rack.ef.length) ∧ ((b.efAt
    n).state = .on) ∧ ((b.efAt n).onSince + 60 * nsS ≤ b.clk) := ⟨60000000000, wK.modEf 15 (fun e => { e with faults := 3 }),
    15, by decide +kernel⟩

theorem witness_SequencerRequests_1 : ∃ (s : State) (q : Req) (d len : Nat), (Taken s q) ∧ (AnyRole s) ∧ (q.payload.length =
    8) ∧ (getU q.payload 0 2 = d) ∧ (getU q.payload 2 2 = 0) ∧ (getU q.payload 4 4 = len) ∧ (20 ≤ len) ∧ (len ≤ 788) ∧ (descOk
    s q d len = true) ∧ (railTableBad s (bufRead s d len) len = none) :=
    ⟨{ wD with mem := memWrites [] (windowBase + 0x10000) wTbl }, rq [0, 0, 0, 0, 44, 0, 0, 0], 0, 44, by decide +kernel⟩

theorem witness_SequencerRequests_2 : ∃ (s : State) (q : Req) (d k : Nat), (Taken s q) ∧ (s.unit.isRole = true ∨ s.unit =
    .safeHold ∨ s.unit = .recovery) ∧ (q.payload.length = 4) ∧ (SlotOk q) ∧ (MemOk s) ∧ (getU q.payload 0 2 = d) ∧ (d ≠
    noDesc) ∧ (getU q.payload 2 1 = k) ∧ (k ≤ 1) ∧ (getU q.payload 3 1 = 0) ∧ (descOk s q d (if k = 0 then s.seq.table else
    s.seq.next.getD []).length = true) ∧ ((s.desc d).offset + (s.desc d).size ≤ 0x1000000) := ⟨wD, rq [0, 0, 1, 0], 0, 1, by
    decide +kernel⟩

theorem witness_SequencerRequests_3 : ∃ (s : State) (q : Req) (d : Nat), (Taken s q) ∧ (s.unit.isRole = true ∨ s.unit =
    .safeHold ∨ s.unit = .recovery) ∧ (q.payload.length = 2) ∧ (SlotOk q) ∧ (MemOk s) ∧ (getU q.payload 0 2 = d) ∧ (d ≠
    noDesc) ∧ (descOk s q d (seqStatus s).length = true) ∧ ((s.desc d).offset + (s.desc d).size ≤ 0x1000000) := ⟨wD, rq [0,
    0], 0, by decide +kernel⟩

theorem witness_SequencerRequests_4 : ∃ (s : State) (q : Req) (k : Nat), (Taken s q) ∧ (s.unit.isRole = true ∨ s.unit =
    .safeHold ∨ s.unit = .recovery) ∧ (s.unit ≠ .off) ∧ (s.unit ≠ .powerup) ∧ (q.payload.length = 1) ∧ (getU q.payload 0 1 =
    k) ∧ (k ≤ 1) ∧ (s.seq.phase = .up) ∧ (s.seq.preOff = 0) ∧ (k = 1 ∨ s.unit ≠ .active ∨ s.red.present = false) := ⟨wZ .up 2,
    rq [1], 1, by decide +kernel⟩

theorem witness_SequencerRequests_5 : ∃ (s : State) (q : Req), (Taken s q) ∧ (s.unit = .active) ∧ (q.payload.length = 1) ∧
    (getU q.payload 0 1 = 0) ∧ (s.red.present = true) ∧ (s.seq.phase = .up) ∧ (s.seq.preOff = 0) :=
    ⟨{ wZ .up 2 with red := { wS.red with present := true } }, rq [0], by decide +kernel⟩

theorem witness_SequencerRequests_6 : ∃ (s : State) (q : Req), (Taken s q) ∧ (s.unit.isRole = true ∨ s.unit = .safeHold ∨
    s.unit = .recovery) ∧ (q.payload.length = 0) ∧ (s.seq.pendingLocal = true) :=
    ⟨{ wS with seq := { wS.seq with pendingLocal := true } }, rq [], by decide +kernel⟩

theorem witness_SequencerRequests_7 : ∃ (t : Nat) (s : State) (src : OnSource), let b := s.advance t; (b.unit = .off) ∧
    (b.pwr.vinValid = true) ∧ (b.pwr.state ≠ .unpowered) ∧ (onAllowed b src = true) ∧ (b.clk < b.pwr.minOffEnd) ∧
    (b.seq.heldOn = none) := ⟨5, { wF with pwr := { wF.pwr with minOffEnd := 9 } }, .vinValid, by decide +kernel⟩

theorem witness_SequencerRequests_8 : ∃ (t : Nat) (s : State) (src : OnSource), let b := s.advance t; (b.unit = .off) ∧
    (b.pwr.vinValid = true) ∧ (b.pwr.state ≠ .unpowered) ∧ (onAllowed b src = true) ∧ (b.pwr.minOffEnd ≤ b.clk) ∧ (src ≠
    .seqLine) ∧ (b.seq.phase ≠ .watching) ∧ (onLine b = true) := ⟨5, { wF with pwr := { wF.pwr with rtcAlarm := some 0 } },
    .rtcAlarm, by decide +kernel⟩

theorem witness_SequencerRequests_9 : ∃ (t : Nat) (s : State) (src : OnSource), let b := s.advance t; (b.unit = .off) ∧
    (b.pwr.vinValid = true) ∧ (b.pwr.state ≠ .unpowered) ∧ (b.seq.heldOn = some src) ∧ (b.pwr.minOffEnd ≤ b.clk) ∧ (onLine b =
    false) ∧ (src ≠ .seqLine) := ⟨5, { wF with seq := { wF.seq with heldOn := some .pbN, table := putAt wTbl 10 [0] } }, .pbN,
    by decide +kernel⟩

theorem witness_SequencerRequests_10 : ∃ (t : Nat) (s : State) (seen : LineSeen), let b := s.advance t; (b.unit = .off) ∧
    (b.pwr.vinValid = true) ∧ (b.pwr.state ≠ .unpowered) ∧ (b.seq.phase = .watching) ∧ (b.seq.watchT + 3 * nsMs ≤ b.clk) ∧
    (seen ≠ .other) := ⟨3000000, { wF with seq := { wF.seq with phase := .watching } }, .idle, by decide +kernel⟩

theorem witness_SequencerRequests_11 : ∃ (t : Nat) (s : State), let b := s.advance t; (b.unit = .off) ∧ (b.pwr.vinValid =
    true) ∧ (b.pwr.state ≠ .unpowered) ∧ (seqFlag b 3 = true) ∧ (onLine b = true) ∧ (b.pwr.minOffEnd ≤ b.clk) := ⟨5, wF, by
    decide +kernel⟩

theorem witness_SequencerRequests_12 : ∃ (t : Nat) (s : State) (f : BitVec 8), let b := s.advance t; (b.unit = .powerup) ∧ (1
    ≤ b.seq.step) ∧ (b.seq.step < 6) ∧ (b.clk ≤ b.seq.stepT + stepLimit b.seq.step) := ⟨5,
    { wZ .ascending 0 with unit := .powerup, seq := { wS.seq with step := 5 } }, 3, by decide +kernel⟩

theorem witness_SequencerRequests_13 : ∃ (t : Nat) (s : State), let b := s.advance t; (b.unit = .powerup) ∧ (b.seq.step = 6) ∧
    (b.clk ≤ b.seq.stepT + stepLimit 6) ∧ (b.seq.phase = .ascending) := ⟨5,
    { wZ .ascending 0 with unit := .powerup, seq := { wS.seq with step := 6, phase := .ascending, local_ := true } }, by
    decide +kernel⟩

theorem witness_SequencerRequests_14 : ∃ (t : Nat) (s : State), let b := s.advance t; (b.unit = .powerup) ∧ (b.seq.stepT +
    stepLimit b.seq.step < b.clk) := ⟨50000000, { wZ .ascending 0 with unit := .powerup, seq := { wS.seq with step := 6 } },
    by decide +kernel⟩

theorem witness_SequencerRequests_15 : ∃ (t : Nat) (s : State), let b := s.advance t; (b.unit = .boot) ∧ (b.upd.checked =
    true) ∧ (b.red.listenT + 2 * nsS ≤ b.clk) ∧ (bootRole b ≠ .resync) ∧ (sharedLost b = false) := ⟨2000000000,
    { wC with unit := .boot, upd := { wC.upd with checked := true } }, by decide +kernel⟩

theorem witness_SequencerRequests_16 : ∃ (t : Nat) (s : State), let b := s.advance t; (b.unit = .boot) ∧ (b.upd.checked =
    true) ∧ (b.red.listenT + 2 * nsS ≤ b.clk) ∧ (bootRole b = .resync) ∧ (sharedLost b = false) := ⟨2000000000,
    { wP 3 0 with unit := .boot, upd := { wC.upd with checked := true }, red := { (wP 3 0).red with beatT := some 2000000000, peerT := some 2000000000 } },
    by decide +kernel⟩

theorem witness_SequencerRequests_17 : ∃ (t : Nat) (s : State) (h : Nat), let b := s.advance t; (50 ≤ h) ∧ (h ≤ 2000) ∧
    (b.unit = .solo) ∧ (b.seq.phase = .up) ∧ (b.pwr.state ≠ .unpowered) ∧ (b.seq.preOff = 0) := ⟨5,
    { wZ .up 2 with unit := .solo }, 2000, by decide +kernel⟩

theorem witness_SequencerRequests_18 : ∃ (t : Nat) (s : State) (h : Nat), let b := s.advance t; (h < 50 ∨ 2000 < h) ∧ (h <
    8000) ∧ (b.pwr.state ≠ .unpowered) := ⟨5, wZ .up 2, 7999, by decide +kernel⟩

theorem witness_SequencerRequests_19 : ∃ (t : Nat) (s : State), let b := s.advance t; (b.unit ≠ .off) ∧ (b.pwr.state ≠
    .unpowered) := ⟨5, wZ .up 2, by decide +kernel⟩

theorem witness_SequencerRequests_20 : ∃ (t : Nat) (s : State), let b := s.advance t; (b.unit.isRole = true) := ⟨5, wZ .up 2,
    by decide +kernel⟩

theorem witness_SequencerRequests_21 : ∃ (t : Nat) (s : State), let b := s.advance t; (b.seq.mrLow = true) ∧ (b.unit =
    .safeHold) ∧ (sharedLost b = false) := ⟨5, { wZ .up 2 with unit := .safeHold, seq := { wS.seq with mrLow := true } }, by
    decide +kernel⟩

theorem witness_RailsAndLine_1 : ∃ (t : Nat) (s : State) (r : Nat) (e : Bytes), let b := s.advance t; (railEntry b r = some
    e) ∧ (r < b.seq.rails.length) ∧ (b.seq.phase = .ascending) ∧ (b.unit ≠ .powerup) ∧ (b.unit ≠ .off) ∧ (b.seq.preOff = 0) ∧
    (enState e = b.seq.pos) ∧ ((b.railAt r).enabled = false) ∧ (waitsCin b = false) ∧ (b.seq.posT + enDelayOn e ≤ b.clk) :=
    ⟨10000000, wZ .ascending 1, 31, entryOf wTbl 0, by decide +kernel⟩

theorem witness_RailsAndLine_2 : ∃ (t : Nat) (s : State) (r : Nat) (e : Bytes), let b := s.advance t; (railEntry b r = some
    e) ∧ (r < b.seq.rails.length) ∧ ((b.railAt r).enabled = true) ∧ ((b.railAt r).good = false) ∧ (b.clk ≤ (b.railAt
    r).enableT + enTGood e) ∧ (enAct e = 2 → (b.efAt (enIdx e)).pgood = true) ∧ (b.seq.phase = .ascending) := ⟨10000000, (wZ
    .ascending 1).modRail 31 (fun x => { x with enabled := true }), 31, entryOf wTbl 0, by decide +kernel⟩

theorem witness_RailsAndLine_3 : ∃ (t : Nat) (s : State) (r : Nat) (e : Bytes), let b := s.advance t; (railEntry b r = some
    e) ∧ (r < b.seq.rails.length) ∧ (b.seq.phase = .ascending) ∧ (b.unit ≠ .powerup) ∧ (b.unit ≠ .off) ∧ ((b.railAt r).enabled
    = true) ∧ ((b.railAt r).good = false) ∧ (b.seq.preOff = 0) ∧ ((b.railAt r).enableT + enTGood e < b.clk) := ⟨10000001, (wZ
    .ascending 1).modRail 31 (fun x => { x with enabled := true }), 31, entryOf wTbl 0, by decide +kernel⟩

theorem witness_RailsAndLine_4 : ∃ (t : Nat) (s : State) (r : Nat) (e : Bytes), let b := s.advance t; (railEntry b r = some
    e) ∧ (r < b.seq.rails.length) ∧ (b.seq.phase = .descending) ∧ (b.seq.preOff = 3) ∧ (enState e = b.seq.pos) ∧ ((b.railAt
    r).downDone = false) ∧ (waitsCin b = false) ∧ ((b.railAt r).enabled = true) ∧ (b.seq.posT + enDelayOff e ≤ b.clk) ∧
    (noDischarge b e = false) ∧ (0 < enTDis e) := ⟨5000000,
    { (wZ .descending 1).modRail 31 (fun x => { x with enabled := true, downDone := false }) with seq := { ((wZ .descending 1).modRail 31 (fun x => { x with enabled := true, downDone := false })).seq with preOff := 3 } },
    31, entryOf wTbl 0, by decide +kernel⟩

theorem witness_RailsAndLine_5 : ∃ (t : Nat) (s : State) (r : Nat) (e : Bytes), let b := s.advance t; (railEntry b r = some
    e) ∧ (r < b.seq.rails.length) ∧ (b.seq.phase = .descending) ∧ (b.seq.preOff = 3) ∧ (enState e = b.seq.pos) ∧ ((b.railAt
    r).downDone = false) ∧ (waitsCin b = false) ∧ ((b.railAt r).enabled = false) := ⟨5,
    { (wZ .descending 1).modRail 31 (fun x => { x with downDone := false }) with seq := { ((wZ .descending 1).modRail 31 (fun x => { x with downDone := false })).seq with preOff := 3 } },
    31, entryOf wTbl 0, by decide +kernel⟩

theorem witness_RailsAndLine_6 : ∃ (t : Nat) (s : State), let b := s.advance t; (b.seq.local_ = false) ∧ (b.seq.pulling =
    false) ∧ (b.seq.preOff = 0) ∧ (b.seq.phase = .ascending) ∧ (b.unit ≠ .powerup) ∧ (b.seq.pos < tblTop b.seq.table) := ⟨5,
    wZ .ascending 1, by decide +kernel⟩

theorem witness_RailsAndLine_7 : ∃ (t : Nat) (s : State), let b := s.advance t; (b.seq.local_ = false) ∧ (b.seq.pulling =
    false) ∧ (b.seq.preOff = 0) ∧ (b.seq.phase = .ascending) ∧ (b.unit ≠ .powerup) ∧ (tblTop b.seq.table ≤ b.seq.pos) := ⟨5,
    wZ .ascending 2, by decide +kernel⟩

theorem witness_RailsAndLine_8 : ∃ (t : Nat) (s : State), let b := s.advance t; (b.seq.local_ = false) ∧ (b.seq.pulling =
    false) ∧ (b.seq.preOff = 3) ∧ (b.seq.phase = .descending) ∧ (2 ≤ b.seq.pos) := ⟨5,
    { wZ .descending 2 with seq := { (wZ .descending 2).seq with preOff := 3 } }, by decide +kernel⟩

theorem witness_RailsAndLine_9 : ∃ (t : Nat) (s : State), let b := s.advance t; (b.seq.phase = .ascending) ∧ (b.seq.local_ =
    false) ∧ (b.seq.pulling = false) ∧ (b.unit ≠ .powerup) ∧ (b.seq.preOff = 0) := ⟨5, wZ .ascending 1, by decide +kernel⟩

theorem witness_RailsAndLine_10 : ∃ (t : Nat) (s : State), let b := s.advance t; (b.seq.phase = .up) ∧ (onLine b = true) ∧
    (b.seq.beaconT + nsMs ≤ b.clk) := ⟨1000000, wZ .up 2, by decide +kernel⟩

theorem witness_RailsAndLine_11 : ∃ (t : Nat) (s : State), let b := s.advance t; (onLine b = true) ∧ (b.seq.ignoring =
    false) ∧ (b.unit ≠ .off) ∧ (b.unit ≠ .powerup) ∧ (b.seq.phase = .up) ∧ (b.seq.preOff = 0) := ⟨5, wZ .up 2, by
    decide +kernel⟩

theorem witness_RailsAndLine_12 : ∃ (t : Nat) (s : State), let b := s.advance t; (b.seq.local_ = false) ∧ (b.seq.phase =
    .ascending ∨ b.seq.phase = .descending) ∧ (b.seq.pos ≠ 0) ∧ (b.seq.lineT + tStateMax b ≤ b.clk) ∧ (b.unit ≠ .powerup) ∧
    (b.seq.preOff = 0) := ⟨500000000, wZ .ascending 1, by decide +kernel⟩

theorem witness_RailsAndLine_13 : ∃ (t : Nat) (s : State), let b := s.advance t; (b.seq.phase = .ascending) ∧ (waitsCin b =
    true) ∧ (b.seq.lineT + 2 * nsUs ≤ b.clk) := ⟨2000,
    { wZ .ascending 1 with seq := { (wZ .ascending 1).seq with table := putAt wTbl 37 [1] } }, by decide +kernel⟩

theorem witness_RailsAndLine_14 : ∃ (t : Nat) (s : State), let b := s.advance t; (b.seq.preOff = 1) ∧ (b.seq.pendingLocal =
    false) ∧ (b.unit.commands = true) ∧ (b.allOpen = false) := ⟨5,
    { wZ .descending 2 with seq := { (wZ .descending 2).seq with preOff := 1 } }, by decide +kernel⟩

theorem witness_RailsAndLine_15 : ∃ (t : Nat) (s : State), let b := s.advance t; (b.seq.preOff = 2) ∧ (b.seq.preOffT + 60 *
    nsMs ≤ b.clk) ∧ (b.seq.phase = .ascending) := ⟨60000000,
    { wZ .ascending 2 with seq := { (wZ .ascending 2).seq with preOff := 2 } }, by decide +kernel⟩

theorem witness_RailsAndLine_16 : ∃ (t : Nat) (s : State) (r : Nat) (e : Bytes), let b := s.advance t; (railEntry b r = some
    e) ∧ (r < b.seq.rails.length) ∧ ((b.railAt r).running = true) ∧ (b.unit ≠ .off) ∧ (heldKind e = false) ∧ (b.seq.phase ≠
    .descending) := ⟨5, (wZ .up 2).modRail 31 (fun x => { x with running := true }), 31, entryOf wTbl 0, by decide +kernel⟩

theorem witness_RailsAndLine_17 : ∃ (t : Nat) (s : State) (r : Nat) (e : Bytes), let b := s.advance t; (railEntry b r = some
    e) ∧ (r < b.seq.rails.length) ∧ ((b.railAt r).running = true) ∧ (b.unit ≠ .off) ∧ (b.pwr.state ≠ .holdup) ∧ (heldKind e =
    true) ∧ (b.seq.phase ≠ .descending) := ⟨5,
    { (wZ .up 2).modRail 31 (fun x => { x with running := true }) with seq := { ((wZ .up 2).modRail 31 (fun x => { x with running := true })).seq with table := putAt wTbl 37 [4] } },
    31, putAt (entryOf wTbl 0) 21 [4], by decide +kernel⟩

theorem witness_RailsAndLine_18 : ∃ (t : Nat) (s : State) (r : Nat), let b := s.advance t; (b.unit ≠ .off) ∧ (heldFor b
    (b.railAt r).faultHold (10 * nsUs) = true) := ⟨10000, (wZ .up 2).modRail 31 (fun x => { x with faultHold := some 0 }), 31,
    by decide +kernel⟩

theorem witness_TimeCommands_1 : ∃ (s : State) (q : Req), (Taken s q) ∧ (s.unit.isRole = true ∨ s.unit = .safeHold ∨ s.unit =
    .recovery) ∧ (q.payload.length = 32) ∧ (badField timFields q.payload = none) := ⟨wY, rqb (fitTo 32 (defaults timFields)),
    by decide +kernel⟩

theorem witness_TimeCommands_2 : ∃ (s : State) (q : Req), (Taken s q) ∧ (s.unit.isRole = true ∨ s.unit = .safeHold) ∧
    (q.payload.length = 12) ∧ (s.tsu.sync = .freerun) ∧ (getU (timCfg s) 2 1 = 0) ∧ (stepConflict s = none) ∧ (getU q.payload
    8 4 < nsS) := ⟨withTsu (fun x => { x with cfg := putAt x.cfg 2 [0] }) (wY.modStr 0 fun y => y) |> fun s =>
    { s with str := [] }, rq [9, 0, 0, 0, 0, 0, 0, 0, 5, 0, 0, 0], by decide +kernel⟩

theorem witness_TimeCommands_3 : ∃ (s : State) (q : Req) (n : Nat), (Taken s q) ∧ (AnyRole s) ∧ (q.payload.length = 28) ∧
    (getU q.payload 0 1 = n) ∧ (8 ≤ n) ∧ (n < 16) ∧ (n < s.tsu.trig.length) ∧ (getU q.payload 1 1 < 16) ∧ ((getU q.payload 1
    1).testBit 0 = true) ∧ (getU q.payload 2 2 = 0) ∧ (getU q.payload 12 4 < nsS) ∧ (getU q.payload 18 2 = 0) ∧ (getU
    q.payload 20 8 < 2 ^ 40) ∧ (s.tsu.own.getLsbD n = false) ∧ (s.tsu.now < getU q.payload 4 8 * nsS + getU q.payload 12 4) ∧
    ((s.tsu.trigAt n).firedT = none ∨ getU q.payload 20 8 ≠ 0) := ⟨wY, rq [15, 13, 0, 0, 9, 0, 0, 0, 0, 0, 0, 0, 5, 0, 0, 0,
    3, 0, 0, 0, 232, 3, 0, 0, 0, 0, 0, 0], 15, by decide +kernel⟩

theorem witness_TimeCommands_4 : ∃ (s : State) (q : Req) (n : Nat), (Taken s q) ∧ (s.unit.isRole = true ∨ s.unit =
    .safeHold) ∧ (q.payload.length = 1) ∧ (getU q.payload 0 1 = n) ∧ (8 ≤ n) ∧ (n < 16) := ⟨wY, rq [15], 15, by
    decide +kernel⟩

theorem witness_TimeCommands_5 : ∃ (s : State) (q : Req) (n : Nat), (Taken s q) ∧ (AnyRole s) ∧ (q.payload.length = 8) ∧ (getU
    q.payload 0 1 = n) ∧ (2 ≤ n) ∧ (n < 16) ∧ (n < s.tsu.cap.length) ∧ (s.tsu.own.getLsbD (16 + n) = false) ∧ (getU q.payload
    1 1 = 0) ∧ (getU q.payload 2 2 = 0) ∧ (getU q.payload 4 4 / 2 % 4 ≠ 0) ∧ (getU q.payload 4 4 / 8 % 32 ≤ 29) ∧ ((getU
    q.payload 4 4).testBit 14 = false) ∧ ((getU q.payload 4 4).testBit 15 = false) := ⟨wY, rq [15, 0, 0, 0, 235, 0, 10, 0],
    15, by decide +kernel⟩

theorem witness_TimeCommands_6 : ∃ (s : State) (q : Req) (n k : Nat), (Taken s q) ∧ (s.unit.isRole = true ∨ s.unit =
    .safeHold) ∧ (q.payload.length = 2) ∧ (getU q.payload 0 1 = n) ∧ (getU q.payload 1 1 = k) ∧ (n < 16) ∧ (n <
    s.tsu.cap.length) ∧ (1 ≤ k) ∧ (k ≤ 4) ∧ (s.tsu.own.getLsbD (16 + n) = false) := ⟨withTsu (fun x =>
    { x with cap := List.replicate 16 { fifo := [⟨1, 2, 3⟩, ⟨4, 5, 6⟩] } }) (wY.modStr 0 fun y => y), rq [15, 4], 15, 4, by
    decide +kernel⟩

theorem witness_TimeCommands_7 : ∃ (s : State) (q : Req), (Taken s q) ∧ (AnyRole s) ∧ (q.port ≠ .app) ∧ (q.payload.length =
    5) ∧ (getU q.payload 0 2 % 256 = 0) ∧ (getU q.payload 2 2 % 4 = 0) ∧ (getU q.payload 4 1 ≤ 1) ∧ (busyResource s (delegMask
    q.payload) = none) := ⟨wY, rq [0, 128, 0, 128, 1], by decide +kernel⟩

theorem witness_TimeEvents_1 : ∃ (t : Nat) (s : State) (n : Nat), let b := s.advance t; (n < 16) ∧ (n < b.tsu.trig.length) ∧
    (tsuRuns b = true) ∧ ((b.tsu.trigAt n).arm = true) ∧ ((b.tsu.trigAt n).at_ ≤ b.tsu.now) := ⟨5, withTsu (fun x =>
    { x with trig := List.replicate 16 { arm := true, icu := true, period := 9 } }) wY, 15, by decide +kernel⟩

theorem witness_TimeEvents_2 : ∃ (t : Nat) (s : State) (n f l : Nat) (r : Bool), let b := s.advance t; (n < 16) ∧ (n ≠ 1) ∧ (n
    < b.tsu.cap.length) ∧ (tsuRuns b = true) ∧ (edgeCounts b n r l = true) ∧ ((b.tsu.capAt n).fifo.length < 4) := ⟨5, withTsu
    (fun x => { x with cap := List.replicate 16 { en := true, edge := 3, icu := true } }) wY, 15, 7, 9, true, by
    decide +kernel⟩

theorem witness_TimeEvents_3 : ∃ (t : Nat) (s : State) (n f l : Nat) (r : Bool), let b := s.advance t; (n < 16) ∧ (n ≠ 1) ∧ (n
    < b.tsu.cap.length) ∧ (tsuRuns b = true) ∧ (edgeCounts b n r l = true) ∧ (4 ≤ (b.tsu.capAt n).fifo.length) := ⟨5, withTsu
    (fun x => { x with cap := List.replicate 16 { en := true, edge := 3, fifo := List.replicate 4 ⟨1, 2, 3⟩ } }) wY, 15, 7, 9,
    true, by decide +kernel⟩

theorem witness_TimeEvents_4 : ∃ (t : Nat) (s : State) (v : BitVec 32), let b := s.advance t; (v.getLsbD 0 = true) := ⟨5, wY,
    1, by decide +kernel⟩

theorem witness_TimeEvents_5 : ∃ (t : Nat) (s : State) (v : BitVec 32), let b := s.advance t; True := ⟨5, wY, 1, by
    decide +kernel⟩

theorem witness_TimeEvents_6 : ∃ (t : Nat) (s : State) (v : BitVec 32), let b := s.advance t; (v &&& b.tsu.own = v) := ⟨5, wY,
    0, by decide +kernel⟩

theorem witness_TimeEvents_7 : ∃ (t : Nat) (s : State) (app : Bool) (n : Nat) (v : BitVec 32), let b := s.advance t; (n <
    16) ∧ (n < b.tsu.trig.length) ∧ (hostServed b = true) ∧ (tsuMay b app n = true) ∧ (v.getLsbD 0 = false) := ⟨5, withTsu
    (fun x => { x with trig := List.replicate 16 { arm := true }, own := 0x8000 }) wY, true, 15, 4, by decide +kernel⟩

theorem witness_TimeEvents_8 : ∃ (t : Nat) (s : State) (n : Nat) (v : BitVec 32), let b := s.advance t; (n < 16) ∧ (hostServed
    b = true) ∧ (b.tsu.own.getLsbD n = false) := ⟨5, wY, 15, 1, by decide +kernel⟩

theorem witness_TimeEvents_9 : ∃ (t : Nat) (s : State) (app : Bool) (n : Nat), let b := s.advance t; (n < 16) ∧ (n <
    b.tsu.cap.length) ∧ (hostServed b = true) ∧ (tsuMay b app (16 + n) = true) := ⟨5, withTsu (fun x =>
    { x with cap := List.replicate 16 { fifo := [⟨1, 2, 3⟩] } }) wY, false, 15, by decide +kernel⟩

theorem witness_TimeEvents_10 : ∃ (t : Nat) (s : State) (p d : Nat) (o : Int), let b := s.advance t; (ptpTakes b p = true) ∧
    (p < b.tsu.ports.length) ∧ (d = getU (timCfg b) 0 1) ∧ ((b.tsu.portAt p).master.isSome = true) := ⟨5, wY, 0, 0, -70, by
    decide +kernel⟩

theorem witness_TimeEvents_11 : ∃ (t : Nat) (s : State) (p d : Nat) (o : Int), let b := s.advance t; (ptpTakes b p = true) ∧
    (p < b.tsu.ports.length) ∧ (d ≠ getU (timCfg b) 0 1) := ⟨5, wY, 1, 9, -70, by decide +kernel⟩

theorem witness_TimeEvents_12 : ∃ (t : Nat) (s : State) (p d : Nat) (m : Master), let b := s.advance t; (ptpTakes b p =
    true) ∧ (p < b.tsu.ports.length) ∧ (d = getU (timCfg b) 0 1) ∧ (b.tsu.src = none) ∧ (ptpCandidate b (1 - p) = false) :=
    ⟨5, wY.setTsu (fun x => { x with ports := [{}, {}] }), 1, 0, ⟨[1], 1, none⟩, by decide +kernel⟩

theorem witness_TimeEvents_13 : ∃ (t : Nat) (s : State) (p : Nat), let b := s.advance t; (p < 2) ∧ (p < b.tsu.ports.length) ∧
    ((b.tsu.portAt p).master.isSome = true) ∧ ((b.tsu.portAt p).announceT + 3 * nsS ≤ b.clk) ∧ (b.tsu.src = some (portSource
    p)) ∧ (b.tsu.sync = .locked) ∧ (ptpCandidate b (1 - p) = false) := ⟨3000000000, wY.setTsu (fun x =>
    { x with src := some .neta, sync := .locked }), 0, by decide +kernel⟩

theorem witness_TimeEvents_14 : ∃ (t : Nat) (s : State) (p d c : Nat), let b := s.advance t; (ptpTakes b p = true) ∧ (p <
    b.tsu.ports.length) ∧ (d = getU (timCfg b) 0 1) := ⟨5, wY, 1, 0, 77, by decide +kernel⟩

theorem witness_TimeEvents_15 : ∃ (t : Nat) (s : State) (p d : Nat), let b := s.advance t; (ptpTakes b p = true) ∧ (p <
    b.tsu.ports.length) := ⟨5, wY, 1, 77, by decide +kernel⟩

theorem witness_TimeEvents_16 : ∃ (t : Nat) (s : State) (x : TimeSource) (o : Int), let b := s.advance t; (tsuRuns b = true) ∧
    (b.tsu.src = some x) ∧ (b.tsu.sync = .locking) ∧ (absI o ≤ 100) ∧ (b.tsu.inLimit = 15) := ⟨5, wY.setTsu (fun x =>
    { x with src := some .neta, sync := .locking, inLimit := 15 }), .neta, -100, by decide +kernel⟩

theorem witness_TimeEvents_17 : ∃ (t : Nat) (s : State) (x : TimeSource) (o : Int), let b := s.advance t; (tsuRuns b = true) ∧
    (b.tsu.src = some x) ∧ (b.tsu.sync = .locked) ∧ (1000 < absI o) ∧ (b.tsu.overLimit = 2) := ⟨5, wY.setTsu (fun x =>
    { x with src := some .pps, sync := .locked, overLimit := 2 }), .pps, -1001, by decide +kernel⟩

theorem witness_TimeEvents_18 : ∃ (t : Nat) (s : State) (x : TimeSource) (o : Int), let b := s.advance t; (tsuRuns b = true) ∧
    (b.tsu.src = some x) ∧ (b.tsu.sync = .locking) ∧ ((getU (timCfg b) 16 4 * nsUs : Nat) < absI o) := ⟨5,
    { (wY.setTsu fun x => { x with src := some .pps, sync := .locking }) with str := [] }, .pps, -90000000000, by
    decide +kernel⟩

theorem witness_TimeEvents_19 : ∃ (t : Nat) (s : State), let b := s.advance t; (b.tsu.sync = .holdover) ∧ (b.tsu.holdT + getU
    (timCfg b) 20 4 * nsS ≤ b.clk) := ⟨9000000000000000, wY.setTsu (fun x => { x with sync := .holdover }), by decide +kernel⟩

theorem witness_TimeEvents_20 : ∃ (t : Nat) (s : State), let b := s.advance t; (tsuRuns b = true) ∧ (sourceOn b 1 = true) ∧
    (getU (timCfg b) 26 2 ≤ b.tsu.now) ∧ (b.tsu.src = none) ∧ ((b.tsu.now - getU (timCfg b) 26 2) % nsS ≤ 100 * nsMs) := ⟨5,
    wY, by decide +kernel⟩

theorem witness_TimeEvents_21 : ∃ (t : Nat) (s : State), let b := s.advance t; (tsuRuns b = true) ∧ (sourceOn b 1 = true) ∧
    (100 * nsMs < (b.tsu.now - getU (timCfg b) 26 2) % nsS) ∧ ((b.tsu.now - getU (timCfg b) 26 2) % nsS < 900 * nsMs) := ⟨5,
    wY.setTsu (fun x => { x with now := 7500000000 }), by decide +kernel⟩

theorem witness_WindowSlotsRestart_1 : ∃ (s : State) (q : Req) (d o : Nat), (Taken s q) ∧ (s.unit.isRole = true ∨ s.unit =
    .safeHold ∨ s.unit = .recovery) ∧ (q.payload.length = 4) ∧ (4096 ≤ allocSize q) ∧ (allocSize q ≤ 0x1000000) ∧ (firstFit s
    q.port (allocSize q) = some o) ∧ (freeDesc s = some d) ∧ (s.hpr.desc.length = 256) := ⟨wH, rq [1, 32, 0, 0], 2, 0x11000,
    by decide +kernel⟩

theorem witness_WindowSlotsRestart_2 : ∃ (s : State) (q : Req) (d : Nat), (Taken s q) ∧ (s.unit.isRole = true ∨ s.unit =
    .safeHold ∨ s.unit = .recovery) ∧ (q.payload.length = 2) ∧ (getU q.payload 0 2 = d) ∧ (d < 256) ∧ (s.hpr.desc.length =
    256) ∧ ((s.desc d).kind = 2 ∨ (s.desc d).kind = 1 ∧ (s.desc d).own = false) ∧ ((s.desc d).requester = portCode q.port) :=
    ⟨wH.modDesc 255 (fun e => { e with kind := 2, own := true, gen := 7 }), rq [255, 0], 255, by decide +kernel⟩

theorem witness_WindowSlotsRestart_3 : ∃ (s : State) (q : Req) (v : Nat), (Taken s q) ∧ (AnyRole s ∨ s.unit = .safeHold) ∧
    (q.port ≠ .app) ∧ (q.payload.length = 4) ∧ (getU q.payload 0 4 = v) ∧ (∀ n ∈ List.range 16, slotField v n ≠ 3) ∧ (∃ n ∈
    List.range 16, slotField v n = 0) ∧ (∀ n ∈ List.range 16, slotField v n = slotField s.hpr.slotPort.toNat n ∨ slotFree s n
    = true) := ⟨wH, rq [0, 0, 85, 0xA9], 0xA9550000, by decide +kernel⟩

theorem witness_WindowSlotsRestart_4 : ∃ (s : State) (q : Req), (Taken s q) ∧ (s.unit.isRole = true ∨ s.unit = .safeHold ∨
    s.unit = .recovery) ∧ (q.port ≠ .app) ∧ (q.payload.length = 0) ∧ (s.unit.commands = true → openConflict s = none) :=
    ⟨{ wH with str := List.replicate 8 {} }, rq [], by decide +kernel⟩

theorem witness_WindowSlotsRestart_5 : ∃ (t : Nat) (s : State) (p : Port) (d : Nat), let b := s.advance t; (hostServed b =
    true) ∧ (d < 256) ∧ (b.hpr.desc.length = 256) ∧ ((b.desc d).kind = 1) ∧ ((b.desc d).requester = portCode p) ∧ ((b.desc
    d).own = false) := ⟨5, wH, .mgmt, 1, by decide +kernel⟩

theorem witness_WindowSlotsRestart_6 : ∃ (t : Nat) (s : State) (p : Port) (d v : Nat), let b := s.advance t; (hostServed b =
    true) ∧ (d < 256) ∧ ((b.desc d).kind ≠ 1 ∨ (b.desc d).requester ≠ portCode p ∨ (b.desc d).own = true ∨ v ≠ 1) := ⟨5, wH,
    .mgmt, 1, 0, by decide +kernel⟩

theorem witness_WindowSlotsRestart_7 : ∃ (t : Nat) (s : State) (p : Port) (d v : Nat), let b := s.advance t; (hostServed b =
    true) ∧ (d < 256) := ⟨5, wH, .host, 255, 1, by decide +kernel⟩

theorem witness_QspiAndRegisters_1 : ∃ (t : Nat) (s : State) (a : Nat), let b := s.advance t; (hostServed b = true) ∧ (a <
    0x800) ∧ (a % 4 = 0) := ⟨5, wH, 0x28, by decide +kernel⟩

theorem witness_QspiAndRegisters_2 : ∃ (t : Nat) (s : State) (a n : Nat), let b := s.advance t; (hostServed b = true) ∧
    (0x1000 ≤ a) ∧ (a + n ≤ 0x2000) ∧ (n ≤ 4096) := ⟨5, wH, 0x1FF0, 16, by decide +kernel⟩

theorem witness_QspiAndRegisters_3 : ∃ (t : Nat) (s : State) (a n : Nat), let b := s.advance t; (hostServed b = true) ∧
    (0x04000000 ≤ a) ∧ (a + n ≤ 0x08000000) ∧ (n ≤ 4096) := ⟨5, wH, 0x04000020, 32, by decide +kernel⟩

theorem witness_QspiAndRegisters_4 : ∃ (t : Nat) (s : State) (a n : Nat), let b := s.advance t; (hostServed b = true) ∧
    (regionEnd a = none) ∧ (n ≤ 4096) := ⟨5, wH, 0x2000, 8, by decide +kernel⟩

theorem witness_QspiAndRegisters_5 : ∃ (t : Nat) (s : State) (a n : Nat) (x : List Byte), let b := s.advance t; (hostServed b
    = true) ∧ (MemOk b) ∧ (n < 16) ∧ (0x1000 + 256 * n ≤ a) ∧ (a + x.length ≤ 0x1000 + 256 * (n + 1)) ∧ (slotPort b n =
    .host) ∧ (b.hpr.own.getLsbD n = false) := ⟨5, wH, 0x17FC, 7, [1, 2, 3, 4], by decide +kernel⟩

theorem witness_QspiAndRegisters_6 : ∃ (t : Nat) (s : State) (a n m : Nat) (x : List Byte), (0x1000 + 256 * n ≤ a) ∧ (a +
    x.length ≤ 0x1000 + 256 * (n + 1)) ∧ (n < 16) ∧ (m < a ∨ a + x.length ≤ m) := ⟨5, wS, 0x17FC, 7, 0x17FB, [1, 2, 3, 4], by
    decide +kernel⟩

theorem witness_QspiAndRegisters_7 : ∃ (t : Nat) (s : State) (a n : Nat) (x : List Byte), let b := s.advance t; (hostServed b
    = true) ∧ (n < 16) ∧ (0x1000 + 256 * n ≤ a) ∧ (a + x.length ≤ 0x1000 + 256 * (n + 1)) ∧ (x ≠ []) ∧ (slotPort b n ≠ .host ∨
    b.hpr.own.getLsbD n = true) := ⟨5, wH, 0x1FFC, 15, [1, 2, 3, 4], by decide +kernel⟩

theorem witness_QspiAndRegisters_8 : ∃ (t : Nat) (s : State) (v : BitVec 32), let b := s.advance t; (hostServed b = true) :=
    ⟨5, wH, 0xFFFFFFFF, by decide +kernel⟩

theorem witness_QspiAndRegisters_9 : ∃ (t : Nat) (s : State), let b := s.advance t; (hostServed b = true) := ⟨5, wH, by
    decide +kernel⟩

theorem witness_QspiAndRegisters_10 : ∃ (t : Nat) (s : State) (p : Port) (n : Nat), let b := s.advance t; (hostServed b =
    true) ∧ (n < 16) ∧ (slotPort b n = p) ∧ (b.hpr.own.getLsbD n = false) := ⟨5, wH, .mgmt, 15, by decide +kernel⟩

theorem witness_QspiAndRegisters_11 : ∃ (t : Nat) (s : State) (p : Port) (n : Nat), let b := s.advance t; (hostServed b =
    true) ∧ (n < 16) ∧ (slotPort b n ≠ p ∨ b.hpr.own.getLsbD n = true) := ⟨5, wH, .host, 15, by decide +kernel⟩

theorem witness_QspiAndRegisters_12 : ∃ (t : Nat) (s : State) (n : Nat) (r : List Nat), let b := s.advance t; (takes b =
    true) ∧ (b.hpr.waiting = []) ∧ (b.hpr.order = n :: r) ∧ (byOpcode (envelopeAt b n).1 = none) := ⟨5,
    { wH with hpr := { wH.hpr with order := [15, 0], own := 0x8001 } }, 15, [0], by decide +kernel⟩

theorem witness_QspiAndRegisters_13 : ∃ (t : Nat) (s : State) (n : Nat) (r : List Nat) (run : Req → State → Machine.Out
    State), (takes (s.advance t) = true) ∧ (s.hpr.waiting = []) ∧ (s.hpr.order = n :: r) ∧ (byOpcode (envelopeAt s n).1 = some
    run) :=
  ⟨5, { wH with hpr := { wH.hpr with order := [0] }, mem := memWrites [] 0x1000 [1, 1] }, 0, [], execSysGetInfo,
    by decide +kernel, by decide +kernel, by decide +kernel, rfl⟩

theorem witness_QspiAndRegisters_14 : ∃ (t : Nat) (s : State) (m : BitVec 16), let b := s.advance t; (hostServed b = true) :=
    ⟨5, wH, 0xF0F0, by decide +kernel⟩

theorem witness_QspiAndRegisters_15 : ∃ (t : Nat) (s : State) (m : BitVec 32), let b := s.advance t; (hostServed b = true) :=
    ⟨5, wH, 0x1F, by decide +kernel⟩

theorem witness_QspiAndRegisters_16 : ∃ (t : Nat) (s : State), let b := s.advance t; (hostServed b = true) ∧ (b.hpr.handover =
    false) ∧ (b.pwr.supLost = false) ∧ (timeRuns b = true) ∧ (b.clockLost .sys = false) ∧ (b.pwr.state ≠ .dormant) ∧
    (b.pwr.state ≠ .retention) := ⟨5, wH, by decide +kernel⟩

theorem witness_QspiAndRegisters_17 : ∃ (t : Nat) (s : State) (f : Nat) (v : BitVec 32), let b := s.advance t; (hostServed b =
    true) ∧ (f % 4 = 0) ∧ (f < 0x800) := ⟨5, wH, 0x1C, 0x3FFFF, by decide +kernel⟩

theorem witness_QspiAndRegisters_18 : ∃ (t : Nat) (s : State) (f : Nat) (v : BitVec 32), let b := s.advance t; (hostServed b =
    true) ∧ (appRuns b = true) ∧ (f ≠ 0x10) ∧ (f ≠ 0x18) ∧ (f ≠ 0x20) := ⟨5, { wH with app := { wH.app with run := 1 } },
    0x28, 1, by decide +kernel⟩

theorem witness_QspiAndRegisters_19 : ∃ (t : Nat) (s : State) (f : Nat) (v : BitVec 32), let b := s.advance t; (hostServed b =
    true) := ⟨5, wH, 4, 0x60, by decide +kernel⟩

theorem witness_QspiAndRegisters_20 : ∃ (t : Nat) (s : State) (f : Nat) (v : BitVec 32), let b := s.advance t; (hostServed b =
    true) := ⟨5, wH, 0x20, 1, by decide +kernel⟩

theorem witness_QspiAndRegisters_21 : ∃ (t : Nat) (s : State) (c f : Nat) (v : BitVec 32), let b := s.advance t; (hostServed b
    = true) ∧ (c < 4) := ⟨5, wH, 3, 0, 1, by decide +kernel⟩

theorem witness_ManagementTransport_1 : ∃ (t : Nat) (s : State) (net src : Nat) (f : List Byte), let b := s.advance t;
    (mgmtServed b net = true) ∧ (mgmtCheck b net src f = .discarded) ∧ (b.hpr.waiting = []) := ⟨5, wH, 0, 9, [0x57], by
    decide +kernel⟩

theorem witness_ManagementTransport_2 : ∃ (t : Nat) (s : State) (net src k : Nat) (f : List Byte), let b := s.advance t;
    (mgmtServed b net = true) ∧ (mgmtCheck b net src f = .stale k) ∧ (b.hpr.waiting = []) :=
  ⟨5, wH, 0, 9, 1, mgFrame 3 1 [1, 1, 9, 0, 0, 0, 0, 0, 0, 0, 0, 0, 0, 0, 0, 0], by decide +kernel,
    (mgFrame_ok _ 0 9 3 1 [1, 1, 9, 0, 0, 0, 0, 0, 0, 0, 0, 0, 0, 0, 0, 0] (by decide +kernel)).trans (by decide +kernel), by decide +kernel⟩

theorem witness_ManagementTransport_3 : ∃ (t : Nat) (s : State) (net src k tseq : Nat) (f body : List Byte),
    let b := s.advance t; (mgmtServed b net = true) ∧ (mgmtCheck b net src f = .accepted k 1 tseq body) ∧ (k <
    b.hpr.clients.length) ∧ (b.hpr.waiting = []) ∧ (MemOk b) ∧ (body.length = 16 + getU body 4 2) ∧ (getU body 4 2 ≤ 240) ∧
    ((freeMgmtSlot b).isSome = true) :=
  ⟨5, wH, 0, 9, 1, 5, mgFrame 0 1 ([1, 1, 9, 0, 0, 0, 0, 0, 0, 0, 0, 0, 0, 0, 0, 0]), [1, 1, 9, 0, 0, 0, 0, 0, 0, 0, 0, 0, 0, 0, 0, 0], by decide +kernel,
    (mgFrame_ok _ 0 9 0 1 ([1, 1, 9, 0, 0, 0, 0, 0, 0, 0, 0, 0, 0, 0, 0, 0]) (by decide +kernel)).trans (by decide +kernel), by decide +kernel, by decide +kernel,
    by decide +kernel, by decide +kernel, by decide +kernel, by decide +kernel⟩

theorem witness_ManagementTransport_4 : ∃ (t : Nat) (s : State) (net src k tseq : Nat) (f body : List Byte),
    let b := s.advance t; (mgmtServed b net = true) ∧ (mgmtCheck b net src f = .accepted k 1 tseq body) ∧ (k <
    b.hpr.clients.length) ∧ (b.hpr.waiting = []) ∧ (body.length = 16 + getU body 4 2) ∧ (getU body 4 2 ≤ 240) ∧ (freeMgmtSlot
    b = none) :=
  ⟨5, { wH with hpr := { wH.hpr with own := 0xFFFF } }, 0, 9, 1, 5, mgFrame 0 1 ([1, 1, 9, 0, 0, 0, 0, 0, 0, 0, 0, 0, 0, 0, 0, 0]), [1, 1, 9, 0, 0, 0, 0, 0, 0, 0, 0, 0, 0, 0, 0, 0], by decide +kernel,
    (mgFrame_ok _ 0 9 0 1 ([1, 1, 9, 0, 0, 0, 0, 0, 0, 0, 0, 0, 0, 0, 0, 0]) (by decide +kernel)).trans (by decide +kernel), by decide +kernel, by decide +kernel,
    by decide +kernel, by decide +kernel, by decide +kernel⟩

theorem witness_ManagementTransport_5 : ∃ (t : Nat) (s : State) (w : MgmtWait) (r : List MgmtWait), let b := s.advance t;
    (b.hpr.waiting = w :: r) ∧ (w.since + 100 * nsMs ≤ b.clk) := ⟨100000000,
    { wH with hpr := { wH.hpr with waiting := [⟨1, 0, [1], 0⟩] } }, ⟨1, 0, [1], 0⟩, [], by decide +kernel⟩

theorem witness_ManagementTransport_6 : ∃ (t : Nat) (s : State) (net src k tseq : Nat) (f body : List Byte),
    let b := s.advance t; (mgmtServed b net = true) ∧ (mgmtCheck b net src f = .accepted k 3 tseq body) ∧ (k <
    b.hpr.clients.length) ∧ (b.hpr.waiting = []) ∧ (body.length = 8) ∧ (1 ≤ getU body 4 2) ∧ (getU body 4 2 ≤ 1024) ∧ (getU
    body 6 2 = 0) ∧ (getU body 0 4 + getU body 4 2 ≤ 0x4000000) :=
  ⟨5, wH, 0, 9, 1, 5, mgFrame 0 3 ([32, 0, 0, 0, 32, 0, 0, 0]), [32, 0, 0, 0, 32, 0, 0, 0], by decide +kernel,
    (mgFrame_ok _ 0 9 0 3 ([32, 0, 0, 0, 32, 0, 0, 0]) (by decide +kernel)).trans (by decide +kernel), by decide +kernel, by decide +kernel,
    by decide +kernel, by decide +kernel, by decide +kernel, by decide +kernel, by decide +kernel⟩

theorem witness_ManagementTransport_7 : ∃ (t : Nat) (s : State) (net src k tseq : Nat) (f body : List Byte),
    let b := s.advance t; (mgmtServed b net = true) ∧ (mgmtCheck b net src f = .accepted k 5 tseq body) ∧ (k <
    b.hpr.clients.length) ∧ (b.hpr.waiting = []) ∧ (MemOk b) ∧ (body.length = 8 + getU body 4 2) ∧ (1 ≤ getU body 4 2) ∧ (getU
    body 4 2 ≤ 1024) ∧ (getU body 6 2 = 0) ∧ (0x10000 ≤ getU body 0 4) ∧ (getU body 0 4 + getU body 4 2 ≤ 0x4000000) ∧ (∀ j ∈
    List.range (getU body 4 2), (bufferAt b (getU body 0 4 + j)).any (fun e => e.requester == portCode .mgmt && !e.own) =
    true) :=
  ⟨5, wH, 0, 9, 1, 5, mgFrame 0 5 ([0, 0, 2, 0, 2, 0, 0, 0, 7, 9]), [0, 0, 2, 0, 2, 0, 0, 0, 7, 9], by decide +kernel,
    (mgFrame_ok _ 0 9 0 5 ([0, 0, 2, 0, 2, 0, 0, 0, 7, 9]) (by decide +kernel)).trans (by decide +kernel), by decide +kernel, by decide +kernel,
    by decide +kernel, by decide +kernel, by decide +kernel, by decide +kernel, by decide +kernel, by decide +kernel, by decide +kernel, by decide +kernel⟩

theorem witness_ManagementTransport_8 : ∃ (t : Nat) (s : State) (net src k tseq : Nat) (f body : List Byte),
    let b := s.advance t; (mgmtServed b net = true) ∧ (mgmtCheck b net src f = .accepted k 5 tseq body) ∧ (k <
    b.hpr.clients.length) ∧ (b.hpr.waiting = []) ∧ (body.length = 8 + getU body 4 2) ∧ (1 ≤ getU body 4 2) ∧ (getU body 4 2 ≤
    1024) ∧ (getU body 6 2 = 0) ∧ (0x4000000 < getU body 0 4 + getU body 4 2) :=
  ⟨5, wH, 0, 9, 1, 5, mgFrame 0 5 ([255, 255, 255, 3, 2, 0, 0, 0, 7, 9]), [255, 255, 255, 3, 2, 0, 0, 0, 7, 9], by decide +kernel,
    (mgFrame_ok _ 0 9 0 5 ([255, 255, 255, 3, 2, 0, 0, 0, 7, 9]) (by decide +kernel)).trans (by decide +kernel), by decide +kernel, by decide +kernel,
    by decide +kernel, by decide +kernel, by decide +kernel, by decide +kernel, by decide +kernel⟩

theorem witness_ManagementTransport_9 : ∃ (t : Nat) (s : State) (net : Nat) (f : List Byte), let b := s.advance t; (getU f 0 2
    = 0x4D57) ∧ (getU f 3 1 = 7) ∧ (net < 4) ∧ (net ≠ 2) ∧ (portFlag b net 0 = true) ∧ (portFlag b net 1 = true) ∧ (hostServed
    b = true) ∧ (b.pwr.state = .dormant) := ⟨5, { wH with pwr := { wH.pwr with state := .dormant } }, 3, leU 2 0x4D57 ++ [1,
    7], by decide +kernel⟩

theorem witness_ManagementTransport_10 : ∃ (t : Nat) (s : State) (net : Nat) (f : List Byte), let b := s.advance t; (getU f 0
    2 = 0x4D57) ∧ (getU f 3 1 = 7) ∧ (net < 4) ∧ (net ≠ 2) ∧ (portFlag b net 0 = true) ∧ (portFlag b net 1 = true) ∧
    (hostServed b = true) ∧ (b.pwr.state ≠ .dormant) := ⟨5, wH, 3, leU 2 0x4D57 ++ [1, 7], by decide +kernel⟩

theorem witness_NetworkPorts_1 : ∃ (s : State) (q : Req) (n : Nat), (Taken s q) ∧ (s.unit.isRole = true ∨ s.unit =
    .safeHold) ∧ (q.payload.length = 24) ∧ (getU q.payload 0 1 = n) ∧ (n < s.net.port.length) ∧ (badField (portFields n)
    q.payload = none) ∧ (n = 2 → getBit q.payload 1 0 = true ∨ s.red.present = false) := ⟨wN, rqb (fitTo 24 [3, 3, 0, 0, 1, 2,
    3, 4, 24, 6, 2, 0, 0, 0, 0, 0, 1, 0]), 3, by decide +kernel⟩

theorem witness_NetworkPorts_2 : ∃ (s : State) (q : Req) (n : Nat), (Taken s q) ∧ (s.unit.isRole = true ∨ s.unit =
    .safeHold) ∧ (q.port ≠ .app) ∧ (q.payload.length = 40) ∧ (getU q.payload 0 1 = n) ∧ (badField clientFields q.payload =
    none) ∧ (getBit q.payload 2 2 = false) ∧ (n < s.hpr.clients.length) := ⟨wN, rqb (fitTo 40 [8, 1, 11, 0, 1, 2, 3, 4, 77]),
    8, by decide +kernel⟩

theorem witness_NetworkPorts_3 : ∃ (t : Nat) (s : State) (p : Nat) (f : EthFrame), let b := s.advance t; (ethRuns b = true) ∧
    (p < 4) ∧ (p < b.net.port.length) ∧ (portFlag b p 0 = true) ∧ ((b.portAt p).link = true) ∧ (1522 < f.len) := ⟨5, wN, 3,
    ⟨1523, none, 0, 0, .arp⟩, by decide +kernel⟩

theorem witness_NetworkPorts_4 : ∃ (t : Nat) (s : State) (p : Nat) (f : EthFrame) (x : List Byte), let b := s.advance t;
    (ethRuns b = true) ∧ (p < 4) ∧ (p ≠ 2) ∧ (p < b.net.port.length) ∧ (portFlag b p 0 = true) ∧ ((b.portAt p).link = true) ∧
    (f.len ≤ 1522) ∧ (f.kind = .udp 49411 x) ∧ (tagOk b p f.vlan = true) ∧ (ownIp b p f.dstIp = true) ∧ (safeNet b p =
    false) ∧ (portFlag b p 1 = true) := ⟨5, wN, 3, ⟨100, none, 0x04030201, 0, .udp 49411 [1]⟩, [1], by decide +kernel⟩

theorem witness_NetworkPorts_5 : ∃ (t : Nat) (s : State) (p : Nat) (f : EthFrame) (x : List Byte), let b := s.advance t;
    (ethRuns b = true) ∧ (p < 4) ∧ (p < b.net.port.length) ∧ (portFlag b p 0 = true) ∧ ((b.portAt p).link = true) ∧ (f.len ≤
    1522) ∧ (f.kind = .udp (getU (b.setB .sp) 426 2) x) ∧ (tagOk b p f.vlan = true) ∧ (ownIp b p f.dstIp = true) ∧ ((b.chan
    .sp).set.isSome = true) ∧ (safeNet b p = true) := ⟨5,
    (let ch (c : Chan) : Chan := { c with set := some (putAt (putAt wSet 421 [1]) 426 [1, 0]) };
    { wN with saf := { wN.saf with sp := ch {} } }), 1, ⟨100, none, 0x04030201, 0, .udp 1 [9]⟩, [9], by decide +kernel⟩

theorem witness_NetworkPorts_6 : ∃ (t : Nat) (s : State) (p : Nat) (f : EthFrame), let b := s.advance t; (ethRuns b = true) ∧
    (p < 4) ∧ (p < b.net.port.length) ∧ (portFlag b p 0 = true) ∧ ((b.portAt p).link = true) ∧ (f.len ≤ 1522) ∧ (f.kind =
    .arp) ∧ (tagOk b p f.vlan = true) ∧ (ownIp b p f.dstIp = true) := ⟨5, wN, 3, ⟨60, none, 0x04030201, 0, .arp⟩, by
    decide +kernel⟩

theorem witness_NetworkPorts_7 : ∃ (t : Nat) (s : State) (p : Nat) (f : EthFrame), let b := s.advance t; (ethRuns b = true) ∧
    (p < 4) ∧ (p < b.net.port.length) ∧ (portFlag b p 0 = true) ∧ ((b.portAt p).link = true) ∧ (f.len ≤ 1522) ∧ (f.kind =
    .ipv6 ∨ f.kind = .fragment ∨ f.kind = .other) := ⟨5, wN, 2, ⟨60, none, 0, 0, .fragment⟩, by decide +kernel⟩

theorem witness_NetworkPorts_8 : ∃ (t : Nat) (s : State) (p : Nat) (x : Bool), let b := s.advance t; (ethRuns b = true) ∧ (p <
    4) ∧ (p < b.net.port.length) ∧ ((b.portAt p).link ≠ x) := ⟨5, wN, 3, false, by decide +kernel⟩

theorem witness_CanFd_1 : ∃ (s : State) (q : Req) (c : Nat), (Taken s q) ∧ (s.unit.isRole = true ∨ s.unit = .safeHold) ∧
    (q.payload.length = 24) ∧ (getU q.payload 0 1 = c) ∧ (c < 4) ∧ (c < s.net.can.length) ∧ ((s.canAt c).delegated = false) ∧
    (canCfgBad s q.payload = none) := ⟨wN, rqb wCan, 3, by decide +kernel⟩

theorem witness_CanFd_2 : ∃ (s : State) (q : Req), (Taken s q) ∧ (s.unit.isRole = true ∨ s.unit = .safeHold) ∧
    (q.payload.length = 4) ∧ (getU q.payload 0 1 < 4 ∨ getU q.payload 0 1 = 255) ∧ (getU q.payload 1 1 = 0) ∧ (getU q.payload
    2 2 = noDesc ∨ descOk s q (getU q.payload 2 2) 0 = true) ∧ (∀ c ∈ namedBy (getU q.payload 0 1) 4, (s.canAt c).delegated =
    false) := ⟨wN, rq [255, 0, 255, 255], by decide +kernel⟩

theorem witness_CanFd_3 : ∃ (s : State) (q : Req), (Taken s q) ∧ (s.unit.isRole = true ∨ s.unit = .safeHold) ∧
    (q.payload.length = 4) ∧ (getU q.payload 0 1 < 4 ∨ getU q.payload 0 1 = 255) ∧ (getU q.payload 1 1 = 0) ∧ (getU q.payload
    2 2 = noDesc ∨ descOk s q (getU q.payload 2 2) 0 = true) ∧ (∀ c ∈ namedBy (getU q.payload 0 1) 4, (s.canAt c).delegated =
    false) := ⟨wN, rq [3, 0, 255, 255], by decide +kernel⟩

theorem witness_CanFd_4 : ∃ (s : State) (q : Req) (d len c : Nat), (Taken s q) ∧ (s.unit.isRole = true ∨ s.unit = .safeHold) ∧
    (MemOk s) ∧ (q.payload.length = 8) ∧ (getU q.payload 0 2 = d) ∧ (getU q.payload 2 2 = 0) ∧ (getU q.payload 4 4 = len) ∧ (4
    ≤ len) ∧ (len ≤ 4 + 8 * 2048) ∧ (descOk s q d len = true) ∧ (getU (bufRead s d len) 0 1 = c) ∧ (filterBufBad s (bufRead s
    d len) len = none) ∧ ((s.canAt c).delegated = false) ∧ ((s.canAt c).init = true) :=
    ⟨{ wN.modCan 3 (fun x => { x with init := true }) with mem := memWrites [] (windowBase + 0x10000) [3, 0, 1, 0, 5, 0, 0, 0x40, 9, 0, 0, 0x40] },
    rq [0, 0, 0, 0, 12, 0, 0, 0], 0, 12, 3, by decide +kernel⟩

theorem witness_CanFd_5 : ∃ (s : State) (q : Req) (c : Nat), (Taken s q) ∧ (AnyRole s) ∧ (MemOk s) ∧ (q.payload.length = 76) ∧
    (getU q.payload 0 1 = c) ∧ (c < 4) ∧ (c < s.net.can.length) ∧ (getU q.payload 1 1 = 0) ∧ (getU q.payload 2 2 = 0) ∧ (getU
    q.payload 10 2 = 0) ∧ ((s.canAt c).delegated = false) ∧ ((s.canAt c).queued < 32) := ⟨wN, rqb (fitTo 76 [3, 0, 0, 0, 7, 0,
    0, 0, 9, 0, 0, 0, 5]), 3, by decide +kernel⟩

theorem witness_CanFd_6 : ∃ (s : State) (q : Req) (i d n : Nat), (Taken s q) ∧ (s.unit.isRole = true ∨ s.unit = .safeHold) ∧
    (MemOk s) ∧ (SlotOk q) ∧ (q.payload.length = 4) ∧ (getU q.payload 0 1 = i) ∧ (i < 8) ∧ (i % 4 < s.net.can.length) ∧ (getU
    q.payload 1 1 = 0) ∧ (getU q.payload 2 2 = d) ∧ (descOk s q d 0 = true) ∧ ((s.canAt (i % 4)).delegated = false) ∧ (n = min
    ((s.desc d).size / 76) ((s.canAt (i % 4)).q (i / 4)).owned) ∧ (((s.canAt (i % 4)).q (i / 4)).put < 256) ∧ (((s.canAt (i %
    4)).q (i / 4)).get < 256) := ⟨wN.modCan 3 (fun x => { x with q1 := { put := 1, get := 255 } }), rq [7, 0, 0, 0], 7, 0, 2,
    by decide +kernel⟩

theorem witness_CanFd_7 : ∃ (s : State) (q : Req), (Taken s q) ∧ (AnyRole s) ∧ (q.port ≠ .app) ∧ (q.payload.length = 2) ∧
    (getU q.payload 0 1 < 16) ∧ (getU q.payload 1 1 ≤ 1) ∧ (s.net.can.length = 4) ∧ (∀ c ∈ List.range 4, (getU q.payload 0
    1).testBit c = true → (s.canAt c).init = true) := ⟨wN.modCan 3 (fun x => { x with init := true }), rq [8, 1], by
    decide +kernel⟩

theorem witness_CanFd_8 : ∃ (t : Nat) (s : State) (c k : Nat) (f : CanFrame) (e : Option Nat), let b := s.advance t; (c < 4) ∧
    (c < b.net.can.length) ∧ (MemOk b) ∧ (onBus b c = true) ∧ ((b.canAt c).loop = false) ∧ (f.fd = false ∨ (b.canAt c).fd =
    true) ∧ ((f.remote && f.fd) = false) ∧ (filterFate b c (f.id % 2 ^ 29) f.xtd = some (k, e)) ∧ (k < 2) ∧ (((b.canAt c).q
    k).owned ≠ ((b.canAt c).q k).depth) := ⟨5, wN, 3, 1, wFr, none, by decide +kernel⟩

theorem witness_CanFd_9 : ∃ (t : Nat) (s : State) (c k : Nat) (f : CanFrame) (e : Option Nat), let b := s.advance t; (c < 4) ∧
    (c < b.net.can.length) ∧ (onBus b c = true) ∧ ((b.canAt c).loop = false) ∧ (f.fd = false ∨ (b.canAt c).fd = true) ∧
    ((f.remote && f.fd) = false) ∧ (filterFate b c (f.id % 2 ^ 29) f.xtd = some (k, e)) ∧ (k < 2) ∧ (((b.canAt c).q k).owned =
    ((b.canAt c).q k).depth) := ⟨5, wN.modCan 3 (fun x => { x with q1 := { put := 2, get := 254 } }), 3, 1, wFr, none, by
    decide +kernel⟩

theorem witness_CanFd_10 : ∃ (t : Nat) (s : State) (c : Nat) (f : CanFrame), let b := s.advance t; (filterFate b c (f.id % 2 ^
    29) f.xtd = none) := ⟨5, wN.modCan 3 (fun x => { x with noMatch := 2 }), 3, wFr, by decide +kernel⟩

theorem witness_CanFd_11 : ∃ (t : Nat) (s : State) (c : Nat), let b := s.advance t; (c < 4) ∧ (c < b.net.can.length) ∧ (onBus
    b c = true) ∧ ((b.canAt c).listen = false) ∧ ((b.canAt c).queued ≠ 0) ∧ ((b.canAt c).loop = false) := ⟨5, wN.modCan 3 (fun
    x => { x with txPut := 0, txGet := 255 }), 3, by decide +kernel⟩

theorem witness_CanFd_12 : ∃ (t : Nat) (s : State) (c : Nat), let b := s.advance t; (c < 4) ∧ (c < b.net.can.length) ∧ (onBus
    b c = true) ∧ ((b.canAt c).listen = false) ∧ ((b.canAt c).queued ≠ 0) ∧ ((b.canAt c).cancel = true) := ⟨5, wN.modCan 3
    (fun x => { x with txPut := 0, txGet := 255, cancel := true }), 3, by decide +kernel⟩

theorem witness_CanFd_13 : ∃ (t : Nat) (s : State) (c : Nat), let b := s.advance t; (c < 4) ∧ (c < b.net.can.length) ∧ (onBus
    b c = true) ∧ ((b.canAt c).listen = false) ∧ ((b.canAt c).queued ≠ 0) ∧ ((b.canAt c).holLim ≠ 0) := ⟨5, wN.modCan 3 (fun x
    => { x with txPut := 0, txGet := 255, holLim := 9 }), 3, by decide +kernel⟩

theorem witness_CanFd_14 : ∃ (t : Nat) (s : State) (c : Nat), let b := s.advance t; (c < 4) ∧ (c < b.net.can.length) ∧ (onBus
    b c = true) ∧ ((b.canAt c).loop = false) := ⟨5, wN, 3, by decide +kernel⟩

theorem witness_CanFd_15 : ∃ (t : Nat) (s : State) (c : Nat), let b := s.advance t; (c < 4) ∧ (c < b.net.can.length) ∧
    (canRuns b = true) ∧ ((b.canAt c).state = 2) ∧ ((b.canAt c).abo = true) := ⟨5, wN.modCan 3 (fun x =>
    { x with state := 2 }), 3, by decide +kernel⟩

theorem witness_CanFd_16 : ∃ (t : Nat) (s : State) (a : Bool) (c p : Nat), let b := s.advance t; (c < 4) ∧ (c <
    b.net.can.length) ∧ (canRuns b = true) ∧ ((b.canAt c).delegated = a) ∧ ((p % 256 + 256 - (b.canAt c).txGet) % 256 ≤ 32) :=
    ⟨5, wN.modCan 3 (fun x => { x with delegated := true }), true, 3, 39, by decide +kernel⟩

theorem witness_CanFd_17 : ∃ (t : Nat) (s : State) (c p : Nat), let b := s.advance t; (c < 4) ∧ (c < b.net.can.length) ∧
    (canRuns b = true) ∧ ((b.canAt c).delegated = false) := ⟨5, wN, 3, 39, by decide +kernel⟩

theorem witness_CanFd_18 : ∃ (t : Nat) (s : State) (a : Bool) (c : Nat), let b := s.advance t; (c < 4) ∧ (c <
    b.net.can.length) ∧ (canRuns b = true) ∧ ((b.canAt c).delegated = a) ∧ ((b.canAt c).queued ≠ 0) := ⟨5, wN.modCan 3 (fun x
    => { x with txPut := 8 }), false, 3, by decide +kernel⟩

theorem witness_CanFd_19 : ∃ (t : Nat) (s : State) (a : Bool) (c k g : Nat), let b := s.advance t; (c < 4) ∧ (c <
    b.net.can.length) ∧ (canRuns b = true) ∧ ((b.canAt c).delegated = a) ∧ (k < 2) ∧ ((g % 256 + 256 - ((b.canAt c).q k).get)
    % 256 ≤ ((b.canAt c).q k).owned) := ⟨5, wN.modCan 3 (fun x => { x with q1 := { put := 1, get := 254 } }), false, 3, 1, 0,
    by decide +kernel⟩

theorem witness_CanFd_20 : ∃ (t : Nat) (s : State) (a : Bool) (c : Nat) (v : BitVec 32), let b := s.advance t; (c < 4) ∧ (c <
    b.net.can.length) ∧ (canRuns b = true) ∧ ((b.canAt c).delegated = a) ∧ (v.getLsbD 0 = true) := ⟨5, wN.modCan 3 (fun x =>
    { x with txPut := 8 }), false, 3, 1, by decide +kernel⟩

theorem witness_CanFd_21 : ∃ (t : Nat) (s : State) (a : Bool) (c : Nat) (v : BitVec 32), let b := s.advance t; (c < 4) ∧ (c <
    b.net.can.length) ∧ (canRuns b = true) ∧ ((b.canAt c).delegated = a) ∧ (v.getLsbD 0 = false) ∧ ((b.canAt c).init = true) ∧
    (timingOk (b.canAt c).nbt.toNat (b.canAt c).dbt.toNat (v.getLsbD 2) = true) := ⟨5, wN.modCan 3 (fun x =>
    { x with init := true, state := 3 }), false, 3, 0xE, by decide +kernel⟩

theorem witness_AppCore_1 : ∃ (t : Nat) (s : State), let b := s.advance t; (appRuns b = true) := ⟨5, wA, by decide +kernel⟩

theorem witness_AppCore_2 : ∃ (t : Nat) (s : State), let b := s.advance t; (appRuns b = true) := ⟨5, wA, by decide +kernel⟩

theorem witness_AppCore_3 : ∃ (t : Nat) (s : State) (us : Nat), let b := s.advance t; (appRuns b = true) := ⟨5, wA, 9, by
    decide +kernel⟩

theorem witness_AppCore_4 : ∃ (t : Nat) (s : State) (ms : Nat), let b := s.advance t; (appRuns b = true) := ⟨5, wA, 10, by
    decide +kernel⟩

theorem witness_AppCore_5 : ∃ (t : Nat) (s : State), let b := s.advance t; (appRuns b = true) := ⟨5, wA, by decide +kernel⟩

theorem witness_AppCore_6 : ∃ (t : Nat) (s : State), let b := s.advance t; (appRuns b = true) := ⟨5, wA, by decide +kernel⟩

theorem witness_AppCore_7 : ∃ (t : Nat) (s : State) (c : Nat), let b := s.advance t; (appRuns b = true) ∧ (c = 1 ∨ c = 3 ∨ c =
    4) ∧ ((b.app.faults.filter fun x => b.clk < x + 600 * nsS).length < 2) := ⟨600000000000,
    { wA with app := { run := 1, faults := [1, 0] } }, 4, by decide +kernel⟩

theorem witness_AppCore_8 : ∃ (t : Nat) (s : State) (c : Nat), let b := s.advance t; (appRuns b = true) ∧ (c = 1 ∨ c = 3 ∨ c =
    4) ∧ (2 ≤ (b.app.faults.filter fun x => b.clk < x + 600 * nsS).length) := ⟨599999999999,
    { wA with app := { run := 1, faults := [1, 0] } }, 3, by decide +kernel⟩

theorem witness_AppCore_9 : ∃ (t : Nat) (s : State), let b := s.advance t; (b.app.run = 2) := ⟨5,
    { wA with app := { run := 2 } }, by decide +kernel⟩

theorem witness_AppCore_10 : ∃ (t : Nat) (s : State), let b := s.advance t; (b.app.run = 0) ∧ (b.unit.isRole = true) := ⟨5,
    { wA with app := {} }, by decide +kernel⟩

theorem witness_AppCore_11 : ∃ (t : Nat) (s : State) (us : Nat), let b := s.advance t; (b.app.timer = some us) ∧ (us * nsUs ≤
    b.tsu.now) ∧ (BanksOk b) ∧ (hostServed b = true) ∧ ((b.srcAt .app 5).redirected = false) := ⟨5,
    { wI with app := { run := 1, timer := some 0 } }, 0, by decide +kernel⟩

theorem witness_AppCore_12 : ∃ (t : Nat) (s : State), let b := s.advance t; (appRuns b = true) ∧ (b.app.wdMs ≠ 0) ∧
    (b.app.wdWarned = false) ∧ (b.app.wdT + b.app.wdMs * nsMs / 2 ≤ b.clk) ∧ (BanksOk b) ∧ ((b.srcAt .app 6).redirected =
    false) := ⟨5000000, { wI with app := { run := 1, wdMs := 10 } }, by decide +kernel⟩

theorem witness_AppCore_13 : ∃ (t : Nat) (s : State), let b := s.advance t; (appRuns b = true) ∧ (b.app.wdMs ≠ 0) ∧ (b.app.wdT
    + b.app.wdMs * nsMs ≤ b.clk) := ⟨10000000, { wI with app := { run := 1, wdMs := 10 } }, by decide +kernel⟩

theorem witness_AppCore_14 : ∃ (t : Nat) (s : State) (a n : Nat) (w : Bool), let b := s.advance t; (appRuns b = true) := ⟨5,
    wA, 0x100000, 4, true, by decide +kernel⟩

theorem witness_AppCore_15 : ∃ (t : Nat) (s : State) (d : Bool), let b := s.advance t; True := ⟨5, wA, true, by
    decide +kernel⟩

theorem witness_AppCore_16 : ∃ (t : Nat) (s : State) (d : Bool), let b := s.advance t; (appRuns b = true) := ⟨5, wA, true, by
    decide +kernel⟩

theorem witness_InterruptControl_1 : ∃ (t : Nat) (s : State) (g : Target) (n : Nat), let b := s.advance t; (BanksOk b) ∧ (n <
    32) ∧ (icuReserved g n = false) ∧ (hostServed b = true) ∧ ((b.srcAt g n).redirected = false) := ⟨5, wI, .app, 6, by
    decide +kernel⟩

theorem witness_InterruptControl_2 : ∃ (t : Nat) (s : State) (g : Target) (n : Nat), let b := s.advance t; (BanksOk b) ∧ (32 ≤
    n) ∧ (n < 256) ∧ (icuReserved .sup n = false) ∧ (hostServed b = true) ∧ ((b.srcAt g n).redirected = false) := ⟨5, wI,
    .host, 84, by decide +kernel⟩

theorem witness_InterruptControl_3 : ∃ (t : Nat) (s : State) (g : Target) (n : Nat), let b := s.advance t; ((b.tgt g).deliv =
    none) ∧ (bestSource b g = some n) := ⟨5, wI, .app, 5, by decide +kernel⟩

theorem witness_InterruptControl_4 : ∃ (t : Nat) (s : State) (g : Target) (n : Nat), let b := s.advance t; ((b.tgt g).deliv =
    some n) := ⟨5, wI.modTgt .app (fun x => { x with deliv := some 5 }), .app, 5, by decide +kernel⟩

theorem witness_InterruptControl_5 : ∃ (t : Nat) (s : State) (g : Target) (n : Nat), let b := s.advance t; (BanksOk b) ∧ (n <
    256) ∧ ((b.tgt g).deliv = some n) ∧ (eligible b g n = true) ∧ ((b.srcAt g n).group < (b.tgt g).holdEnd.length) := ⟨5,
    wI.modTgt .app (fun x => { x with deliv := some 5 }), .app, 5, by decide +kernel⟩

theorem witness_InterruptControl_6 : ∃ (t : Nat) (s : State) (g : Target), let b := s.advance t; ((b.tgt g).deliv = none) :=
    ⟨5, wI, .app, by decide +kernel⟩

theorem witness_InterruptControl_7 : ∃ (t : Nat) (s : State) (g : Target) (v : BitVec 32) (n : Nat), let b := s.advance t;
    (BanksOk b) ∧ (n = v.toNat % 256) ∧ ((b.srcAt g n).active = some g) := ⟨5, wI.modSrc .app 5 (fun x =>
    { x with active := some .app }), .app, 0x105, 5, by decide +kernel⟩

theorem witness_InterruptControl_8 : ∃ (t : Nat) (s : State) (g : Target) (v : BitVec 32), let b := s.advance t; ((b.srcAt g
    (v.toNat % 256)).active ≠ some g) := ⟨5, wI, .app, 5, by decide +kernel⟩

theorem witness_InterruptControl_9 : ∃ (t : Nat) (s : State) (g : Target) (w : Nat) (m : BitVec 32), let b := s.advance t;
    (BanksOk b) ∧ (w < 8) := ⟨5, wI, .app, 0, 0xFFFF, by decide +kernel⟩

theorem witness_InterruptControl_10 : ∃ (t : Nat) (s : State) (g : Target) (w : Nat) (m : BitVec 32), let b := s.advance t;
    (BanksOk b) ∧ (w < 8) := ⟨5, wI, .app, 0, 0xFFFF, by decide +kernel⟩

theorem witness_InterruptControl_11 : ∃ (t : Nat) (s : State) (g : Target) (w : Nat) (m : BitVec 32), let b := s.advance t;
    (BanksOk b) ∧ (w < 8) := ⟨5, wI, .app, 0, 0xFFFF, by decide +kernel⟩

theorem witness_InterruptControl_12 : ∃ (t : Nat) (s : State) (g : Target) (w : Nat) (m : BitVec 32), let b := s.advance t;
    (BanksOk b) ∧ (w < 8) := ⟨5, wI, .app, 7, 0xFFFF, by decide +kernel⟩

theorem witness_InterruptControl_13 : ∃ (t : Nat) (s : State) (g : Target) (v : BitVec 32), let b := s.advance t; (v.getLsbD 0
    = true) := ⟨5, wI.modSrc .app 5 (fun x => { x with redirected := true, route := .sup }), .app, 3, by decide +kernel⟩

theorem witness_InterruptControl_14 : ∃ (t : Nat) (s : State) (g : Target) (v : BitVec 32), let b := s.advance t; (v.getLsbD 0
    = false) := ⟨5, wI, .app, 2, by decide +kernel⟩

theorem witness_InterruptControl_15 : ∃ (t : Nat) (s : State) (g : Target) (k : Nat), let b := s.advance t; ((b.tgt
    g).holdEnd.getD k 0 ≤ b.clk) ∧ (k < (b.tgt g).holdEnd.length) := ⟨5, wI, .app, 15, by decide +kernel⟩

theorem witness_InterruptControl_16 : ∃ (t : Nat) (s : State) (g : Target) (n : Nat), let b := s.advance t; (BanksOk b) ∧ (n <
    256) ∧ ((b.srcAt g n).route = g) ∧ (g ≠ .sup) ∧ ((b.tgt g).en = false) ∧ ((b.srcAt g n).pend = true) ∧ (heldFor b (b.srcAt
    g n).stranded nsMs = true) := ⟨1000000, (wI.modSrc .app 5 (fun x => { x with stranded := some 0 })).modTgt .app (fun x =>
    { x with en := false }), .app, 5, by decide +kernel⟩

theorem witness_InterruptControl_17 : ∃ (t : Nat) (s : State) (g : Target) (n : Nat), let b := s.advance t; (BanksOk b) ∧ (32
    ≤ n) ∧ (n < 256) ∧ (delegatedTo b n = g) ∧ ((b.srcAt g n).redirected = false) := ⟨5, wI, .host, 83, by decide +kernel⟩

theorem witness_FaultsAndTests_1 : ∃ (t : Nat) (s : State) (n r d : Nat), let b := s.advance t; (b.retired n = false) ∧
    (b.suspended n = false) ∧ (r ≠ 76) := ⟨5, wC, 0x0A00, 500, 3, by decide +kernel⟩

theorem witness_FaultsAndTests_2 : ∃ (t : Nat) (s : State) (n r d : Nat), let b := s.advance t; (b.retired n = true) ∧ (r ≠
    76) := ⟨5, { wC with flt := { wC.flt with retired := [(0x0A00, 0)] } }, 0x0A00, 500, 3, by decide +kernel⟩

theorem witness_FaultsAndTests_3 : ∃ (t : Nat) (s : State) (i : Nat), let b := s.advance t; (b.unit = .boot) ∧ (i < 8) ∧ (i <
    b.hviStr.length) := ⟨5, { wC with unit := .boot }, 7, by decide +kernel⟩

theorem witness_FaultsAndTests_4 : ∃ (t : Nat) (s : State) (n : Nat) (e : Susp), let b := s.advance t; (b.flt.susp.find? (fun
    x => x.unit = n ∧ x.testing) = some e) ∧ (e.restoring = false) ∧ (b.retired n = false) ∧ (transientsOf b n e.since < 2) :=
    ⟨5, { wC with flt := { wC.flt with susp := [⟨0x0A00, 3, true, false⟩, ⟨0x0100, 3, false, false⟩] } }, 0x0A00, ⟨0x0A00, 3,
    true, false⟩, by decide +kernel⟩

theorem witness_FaultsAndTests_5 : ∃ (t : Nat) (s : State) (n o : Nat) (e : Susp), let b := s.advance t; (b.flt.susp.find?
    (fun x => x.unit = n ∧ x.testing) = some e) ∧ (e.restoring = false) ∧ (b.retired n = false) ∧ (o ≠ 0 ∨ 2 ≤ transientsOf b
    n e.since) := ⟨5, { wC with flt := { wC.flt with susp := [⟨0x0A00, 3, true, false⟩] } }, 0x0A00, 1, ⟨0x0A00, 3, true,
    false⟩, by decide +kernel⟩

theorem witness_FaultsAndTests_6 : ∃ (t : Nat) (s : State) (n o : Nat), let b := s.advance t; (b.flt.susp.find? (fun x =>
    x.unit = n ∧ x.testing) = none) := ⟨5, wC, 0x0A00, 1, by decide +kernel⟩

theorem witness_FaultsAndTests_7 : ∃ (t : Nat) (s : State) (m : Memory) (w : Nat), let b := s.advance t; (m ≠ .appTcm) ∧ (m ≠
    .appDram) := ⟨5, wC, .sp, 9, by decide +kernel⟩

theorem witness_FaultsAndTests_8 : ∃ (t : Nat) (s : State) (w : Nat), let b := s.advance t; (b.retired uCee = false) ∧
    (b.suspended uCee = false) := ⟨5, wC, 9, by decide +kernel⟩

theorem witness_FaultsAndTests_9 : ∃ (t : Nat) (s : State) (w : Nat), let b := s.advance t; True := ⟨5, wC, 9, by
    decide +kernel⟩

theorem witness_FaultsAndTests_10 : ∃ (t : Nat) (s : State) (w : Nat), let b := s.advance t; True := ⟨5, wC, 9, by
    decide +kernel⟩

theorem witness_FaultsAndTests_11 : ∃ (t : Nat) (s : State) (a : Background), let b := s.advance t; (hostServed b = true) ∧
    (b.pwr.state ≠ .dormant) := ⟨5, wC, .verifyMram, by decide +kernel⟩

theorem witness_FaultsAndTests_12 : ∃ (t : Nat) (s : State) (k : Nat), let b := s.advance t; (hostServed b = true) ∧
    (b.pwr.state ≠ .dormant) := ⟨5, wC, 9, by decide +kernel⟩

theorem witness_PeatLog_1 : ∃ (t : Nat) (s : State) (r : PeatIn), let b := s.advance t; (plgRuns b = true) ∧ (b.pwr.state ≠
    .dormant) ∧ (b.plg.full = false) ∧ (1 ≤ r.level) ∧ (b.plg.nextIndex < 131071) := ⟨5, wC, ⟨0x31, 4, 3, 1, 2, 3⟩, by
    decide +kernel⟩

theorem witness_PeatLog_2 : ∃ (t : Nat) (s : State) (r : PeatIn), let b := s.advance t; (plgRuns b = true) ∧ (b.pwr.state ≠
    .dormant) ∧ (b.plg.full = false) ∧ (r.level = 0) ∧ (r.code ≠ 0x50) ∧ (b.plg.suppresses b.clk r.code r.source = true) :=
    ⟨5, { wC with plg := { wC.plg with recent := List.replicate 8 (0x31, 4, 0) } }, ⟨0x31, 4, 0, 1, 2, 3⟩, by decide +kernel⟩

theorem witness_PeatLog_3 : ∃ (t : Nat) (s : State) (r : PeatIn), let b := s.advance t; (plgRuns b = true) ∧ (b.pwr.state ≠
    .dormant) ∧ (b.plg.full = false) ∧ (r.level = 0) ∧ (126976 ≤ b.plg.nextIndex) ∧ (b.plg.suppresses b.clk r.code r.source =
    false) := ⟨5, { wC with plg := { wC.plg with nextIndex := 126976 } }, ⟨0x31, 4, 0, 1, 2, 3⟩, by decide +kernel⟩

theorem witness_PeatLog_4 : ∃ (t : Nat) (s : State) (r : PeatIn), let b := s.advance t; (plgRuns b = true) ∧ (b.pwr.state ≠
    .dormant) ∧ (b.plg.full = false) ∧ (1 ≤ r.level) ∧ (131071 ≤ b.plg.nextIndex) := ⟨5,
    { wC with plg := { wC.plg with nextIndex := 131071 } }, ⟨0x31, 4, 2, 1, 2, 3⟩, by decide +kernel⟩

theorem witness_PeatLog_5 : ∃ (t : Nat) (s : State) (r : PeatIn), let b := s.advance t; (b.pwr.state = .dormant) := ⟨5,
    { wC with pwr := { wC.pwr with state := .dormant } }, ⟨0x31, 4, 2, 1, 2, 3⟩, by decide +kernel⟩

theorem witness_PeatLog_6 : ∃ (t : Nat) (s : State) (r : Peat), let b := s.advance t; (plgRuns b = true) ∧ (b.pwr.state ≠
    .dormant) ∧ (b.plg.full = false) ∧ (b.plg.buffer = [r]) ∧ (1 ≤ r.severity % 8) ∧ (b.plg.nextIndex < 131071) := ⟨5,
    { wC with plg := { wC.plg with buffer := [⟨0, 0x31, 4, 130, 7, 1, 2, 3⟩] } }, ⟨0, 0x31, 4, 130, 7, 1, 2, 3⟩, by
    decide +kernel⟩

theorem witness_PeatLog_7 : ∃ (s : State) (q : Req) (d f c : Nat), (Taken s q) ∧ (s.unit.isRole = true ∨ s.unit = .safeHold ∨
    s.unit = .recovery) ∧ (MemOk s) ∧ (SlotOk q) ∧ (q.payload.length = 12) ∧ (getU q.payload 0 2 = d) ∧ (d ≠ noDesc) ∧ (getU
    q.payload 2 2 = 0) ∧ (getU q.payload 4 4 = f) ∧ (getU q.payload 8 4 = c) ∧ (descOk s q d (logSlice s f c).length = true)
    := ⟨{ wD with plg := { wD.plg with log := [⟨6, 0x31, 4, 130, 7, 1, 2, 3⟩, ⟨5, 0x31, 4, 130, 7, 1, 2, 3⟩] } }, rq [0, 0, 0,
    0, 1, 0, 0, 0, 9, 0, 0, 0], 0, 1, 9, by decide +kernel⟩

theorem witness_PeatLog_8 : ∃ (s : State) (q : Req), (Taken s q) ∧ (s.unit.isRole = true ∨ s.unit = .safeHold ∨ s.unit =
    .recovery) ∧ (q.payload.length = 0) :=
    ⟨{ wC with plg := { wC.plg with nextIndex := 131072, full := true, dropped := 4 } }, rq [], by decide +kernel⟩

theorem witness_UpdateCommands_1 : ∃ (s : State) (q : Req) (d k : Nat), (Taken s q) ∧ (s.unit.isRole = true ∨ s.unit =
    .safeHold ∨ s.unit = .recovery) ∧ (q.payload.length = 4) ∧ (getU q.payload 0 2 = d) ∧ (d ≠ noDesc) ∧ (getU q.payload 2 1 =
    k) ∧ (k ≤ 4) ∧ (k < s.upd.xfer.length) ∧ (getU q.payload 3 1 = 0) ∧ (descOk s q d 4096 = true) ∧ ((s.xferAt k).state ≠
    .activating) ∧ ((k == 0) = ((beginHeader s q).cls == 0)) ∧ (classConflict s (beginHeader s q).cls = none) ∧ (headerOk k
    (beginHeader s q) = true) := ⟨{ wD with mem := memWrites [] (windowBase + 0x10000) (wHdr 0 1) }, rq [0, 0, 0, 0], 0, 0, by
    decide +kernel⟩

theorem witness_UpdateCommands_2 : ∃ (s : State) (q : Req) (d len k first n : Nat) (x : Bytes), (Taken s q) ∧ (s.unit.isRole =
    true ∨ s.unit = .safeHold ∨ s.unit = .recovery) ∧ (q.payload.length = 8) ∧ (getU q.payload 0 2 = d) ∧ (d ≠ noDesc) ∧ (getU
    q.payload 2 2 = 0) ∧ (getU q.payload 4 4 = len) ∧ (len = 8 + 4112 * n) ∧ (descOk s q d len = true) ∧ (x = bufRead s d
    len) ∧ (getU x 0 1 = k) ∧ (k ≤ 4) ∧ (k < s.upd.xfer.length) ∧ (getU x 1 1 = 0) ∧ (getU x 2 2 = n) ∧ (1 ≤ n) ∧ (n ≤ 255) ∧
    (getU x 4 4 = first) ∧ (first + n ≤ (s.xferAt k).count) ∧ ((s.xferAt k).state = .receiving ∨ (s.xferAt k).state =
    .complete) :=
  let s : State :=
    State.modXfer { wD with mem := memWrites [] (windowBase + 0x10000) [4, 0, 1, 0], upd := wU.upd } 4 fun x => { x with state := .receiving }
  ⟨s, rq [0, 0, 0, 0, 24, 16, 0, 0], 0, 4120, 4, 0, 1, bufRead s 0 4120, by decide +kernel, by decide +kernel, rfl, rfl, by decide, rfl, rfl, rfl,
    by decide +kernel, rfl, by decide +kernel, by decide +kernel, by decide +kernel, by decide +kernel, by decide +kernel, by decide +kernel, by decide +kernel, by decide +kernel, by decide +kernel, by decide +kernel⟩

theorem witness_UpdateCommands_3 : ∃ (s : State) (q : Req) (k : Nat), (Taken s q) ∧ (s.unit.isRole = true ∨ s.unit = .safeHold
    ∨ s.unit = .recovery) ∧ (q.payload.length = 1) ∧ (getU q.payload 0 1 = k) ∧ (k ≤ 4) ∧ (k < s.upd.xfer.length) ∧ ((s.xferAt
    k).state = .complete) := ⟨wU.modXfer 4 (fun x => { x with state := .complete }), rq [4], 4, by decide +kernel⟩

theorem witness_UpdateCommands_4 : ∃ (s : State) (q : Req) (k : Nat), (Taken s q) ∧ (s.unit.isRole = true) ∧ (q.port ≠ .app) ∧
    (q.payload.length = 4) ∧ (getU q.payload 0 1 = k) ∧ (k ≤ 4) ∧ (k < s.upd.xfer.length) ∧ (getU q.payload 1 1 ≤ 3) ∧
    (targetOk s (s.xferAt k).part (getU q.payload 2 1) = true) ∧ (getU q.payload 3 1 ≤ 9) ∧ (activateConflict s k (getU
    q.payload 2 1) = false) := ⟨{ wU with unit := .solo, red := { wU.red with present := false } }, rq [0, 3, 0, 9], 0, by
    decide +kernel⟩

theorem witness_UpdateCommands_5 : ∃ (s : State) (q : Req), (Taken s q) ∧ (AnyRole s) ∧ (q.port ≠ .app) ∧ (q.payload.length =
    0) ∧ (s.upd.sp.trial = true) ∧ (s.upd.sp.needHost = true) := ⟨wU.setUpd (fun x =>
    { x with sp := { onT with needHost := true } }), rq [], by decide +kernel⟩

theorem witness_UpdateCommands_6 : ∃ (s : State) (q : Req) (k : Nat), (Taken s q) ∧ (s.unit.isRole = true ∨ s.unit = .safeHold
    ∨ s.unit = .recovery) ∧ (q.payload.length = 2) ∧ (getU q.payload 0 1 = k) ∧ (k ≤ 4) ∧ (k < s.upd.xfer.length) ∧ (getU
    q.payload 1 1 ≤ 1) ∧ ((s.xferAt k).state ≠ .activating) := ⟨wU, rq [4, 1], 4, by decide +kernel⟩

theorem witness_UpdateCommands_7 : ∃ (t : Nat) (s : State), let b := s.advance t; (b.upd.flushT + nsS ≤ b.clk) ∧
    (b.unit.isRole = true ∨ b.unit = .safeHold ∨ b.unit = .recovery) ∧ (energyOk b = true) := ⟨1000000000, wU, by
    decide +kernel⟩

theorem witness_UpdateCommands_8 : ∃ (t : Nat) (s : State), let b := s.advance t; (0 < b.upd.xfer.length) ∧ ((b.xferAt
    0).state = .verified) := ⟨5, wU.modXfer 0 (fun x => { x with state := .verified }), by decide +kernel⟩

theorem witness_UpdateEvents_1 : ∃ (t : Nat) (s : State) (a : Activation), let b := s.advance t; (b.upd.act = some a) ∧
    (a.part = 1) ∧ (a.stage = 1) ∧ (b.hpr.handover = true) ∧ (b.clk ≤ b.upd.handoverT + 2 * nsS) := ⟨2000000000,
    { withAct 1 0 wU with hpr := { wU.hpr with handover := true } }, wAct 1 0, by decide +kernel⟩

theorem witness_UpdateEvents_2 : ∃ (t : Nat) (s : State) (a : Activation), let b := s.advance t; (b.upd.act = some a) ∧
    (a.part = 1) ∧ (b.variant = .kzv4096) ∧ (b.hpr.handover = true) := ⟨5,
    { withAct 1 0 wU with hpr := { wU.hpr with handover := true } }, wAct 1 0, by decide +kernel⟩

theorem witness_UpdateEvents_3 : ∃ (t : Nat) (s : State) (a : Activation), let b := s.advance t; (b.upd.act = some a) ∧
    (a.part = 1) ∧ (b.variant = .kzv1024) ∧ (b.hpr.handover = true) ∧ (b.upd.handoverT + 2 * nsS ≤ b.clk) := ⟨2000000000,
    { withAct 1 0 wU with variant := .kzv1024, hpr := { wU.hpr with handover := true } }, wAct 1 0, by decide +kernel⟩

theorem witness_UpdateEvents_4 : ∃ (t : Nat) (s : State) (a : Activation) (e : Nat), let b := s.advance t; (b.upd.act = some
    a) ∧ (a.part = 2) ∧ (a.stage = 1) ∧ (b.variant = .kzv4096) ∧ (b.saf.sloe.singleUntil = some e) ∧ (b.saf.sp.alive =
    false) ∧ (e ≤ b.clk) ∧ (imageOk b (b.upd.sp.bank b.upd.sp.active) = true) ∧ (b.upd.sp.active ≤ 1) := ⟨300000000,
    { withAct 2 0 wU with saf := { wU.saf with sp := { wU.saf.sp with alive := false }, sloe := { wU.saf.sloe with singleUntil := some 300000000 } } },
    wAct 2 0, 300000000, by decide +kernel⟩

theorem witness_UpdateEvents_5 : ∃ (t : Nat) (s : State), let b := s.advance t; (b.upd.sup.trial = true) ∧ (b.hpr.handover =
    false) ∧ (b.clk < b.upd.sup.deadline) ∧ (healthy b 1 = true) ∧ (heldFor b b.upd.sup.okSince (b.upd.sup.dwell * 60 * nsS) =
    true) ∧ (b.upd.sup.needHost = false) ∧ (b.upd.sup.swapOn = false) := ⟨300000000000, wU.setUpd (fun x =>
    { x with sup := onT }), by decide +kernel⟩

theorem witness_UpdateEvents_6 : ∃ (t : Nat) (s : State), let b := s.advance t; (b.upd.app.trial = true) ∧ (b.hpr.handover =
    false) ∧ (b.clk < b.upd.app.deadline) ∧ (healthy b 3 = false) := ⟨300000000000, wU.setUpd (fun x =>
    { x with app := onT }), by decide +kernel⟩

theorem witness_UpdateEvents_7 : ∃ (t : Nat) (s : State), let b := s.advance t; (b.upd.app.trial = true) ∧ (b.upd.act =
    none) ∧ (b.upd.app.deadline ≤ b.clk) ∧ (b.upd.app.active ≤ 1) ∧ (fallbackOk b 3 = true) := ⟨600000000000, wU.setUpd (fun x
    => { x with app := onT }), by decide +kernel⟩

theorem witness_UpdateEvents_8 : ∃ (t : Nat) (s : State), let b := s.advance t; (b.upd.sup.trial = true) ∧ (b.upd.act =
    none) ∧ (b.pwr.supLost = true) ∧ (b.upd.sup.active ≤ 1) ∧ (fallbackOk b 1 = true) := ⟨5,
    { wU.setUpd (fun x => { x with sup := onT }) with pwr := { wU.pwr with supLost := true } }, by decide +kernel⟩

theorem witness_UpdateEvents_9 : ∃ (t : Nat) (s : State), let b := s.advance t; (b.unit.isRole = true) ∧ (b.unit.commands =
    false) ∧ (b.upd.recT = none) ∧ ((runnable b 1 && runnable b 2) = false) := ⟨5,
    { wU.setUpd (fun x => { x with sup := { bankA := {} } }) with unit := .standby }, by decide +kernel⟩

theorem witness_UpdateEvents_10 : ∃ (t : Nat) (s : State), let b := s.advance t; (b.unit.isRole = true) ∧ (b.upd.recT =
    none) ∧ (runnable b 1 = true) ∧ (runnable b 2 = true) := ⟨5, wU, by decide +kernel⟩

theorem witness_UpdateEvents_11 : ∃ (t : Nat) (s : State), let b := s.advance t; (b.unit = .boot) ∧ (b.upd.checked = false) ∧
    (b.upd.sup.trial = false) ∧ (b.upd.sp.trial = false) ∧ (b.upd.app.trial = false) ∧ (imageOk b b.upd.sup.inForce = true) ∧
    (imageOk b b.upd.sp.inForce = true) ∧ (imageOk b b.upd.app.inForce = true) := ⟨5, { wU with unit := .boot }, by
    decide +kernel⟩

theorem witness_UpdateEvents_12 : ∃ (t : Nat) (s : State), let b := s.advance t; (b.unit = .boot) ∧ (b.upd.checked = false) ∧
    (b.upd.sup.trial = false) ∧ (imageOk b b.upd.sup.inForce = false) ∧ (fallbackOk b 1 = false) := ⟨5,
    { wU.setUpd (fun x => { x with sup := { bankA := {} } }) with unit := .boot }, by decide +kernel⟩

theorem witness_UpdateEvents_13 : ∃ (t : Nat) (s : State) (i m len : Nat), let b := s.advance t; (b.isStr i = true) ∧
    (CanCommand b i m) ∧ (fwServed b i m = true) ∧ (0 < len) ∧ (len ≤ 1048576) := ⟨5, wV, 0, 15, 1048576, by decide +kernel⟩

theorem witness_UpdateEvents_14 : ∃ (t : Nat) (s : State) (i m : Nat) (x : List Byte), let b := s.advance t; (b.isStr i =
    true) ∧ (CanCommand b i m) ∧ (fwServed b i m = true) ∧ (0 < x.length) ∧ (x.length ≤ 256) ∧ ((b.monAt i m).fw.next +
    x.length ≤ (b.monAt i m).fw.len) ∧ (ackResult (b.monAt i m) true 0 = 0) := ⟨5, wV.modMon 0 15 (fun x =>
    { x with fw := { x.fw with len := 9, next := 4, bytes := [1, 2, 3, 4] } }), 0, 15, [5], by decide +kernel⟩

theorem witness_UpdateEvents_15 : ∃ (t : Nat) (s : State) (i m : Nat), let b := s.advance t; (b.isStr i = true) ∧ (CanCommand
    b i m) ∧ (fwServed b i m = true) ∧ ((b.monAt i m).fw.next = (b.monAt i m).fw.len) ∧ ((b.monAt i m).fw.len ≠ 0) ∧
    (ackResult (b.monAt i m) true 0 = 0) := ⟨5, wV.modMon 0 15 (fun x =>
    { x with fw := { x.fw with len := 4, next := 4, bytes := [1, 2, 3, 4] } }), 0, 15, by decide +kernel⟩

theorem witness_UpdateEvents_16 : ∃ (t : Nat) (s : State) (i m : Nat) (ok : Bool), let b := s.advance t; (b.isStr i = true) ∧
    (CanCommand b i m) ∧ (fwServed b i m = true) ∧ ((b.monAt i m).fw.checked = true) ∧ (ackResult (b.monAt i m) true 0 = 0) :=
    ⟨5, wV.modMon 0 15 (fun x => { x with fw := { x.fw with checked := true } }), 0, 15, true, by decide +kernel⟩

theorem witness_UpdateEvents_17 : ∃ (t : Nat) (s : State) (i m : Nat) (a : Activation), let b := s.advance t; (b.upd.act =
    some a) ∧ (a.part = 5) ∧ (b.isStr i = true) ∧ (HasMon b i m) ∧ (heldFor b (b.monAt i m).fw.switchedT (400 * nsMs) =
    true) ∧ (b.retired (uMon i m) = false) ∧ (b.suspended (uMon i m) = false) := ⟨400000000, wV.modMon 0 15 (fun x =>
    { x with fw := { x.fw with switchedT := some 0 } }), 0, 15, wAct 5 15, by decide +kernel⟩

theorem witness_UpdateEvents_18 : ∃ (t : Nat) (s : State) (n : Nat) (a : Activation), let b := s.advance t; (b.upd.act = some
    a) ∧ (a.part = 6) ∧ (n < b.gx2.length) ∧ ((driverOrder b 6 a.target)[a.count]? = some n) ∧ ((b.strAt (n / 4)).state ≠
    .regulating) ∧ (a.count + 1 < (driverOrder b 6 a.target).length) := ⟨5,
    { withAct 6 2 wU with str := List.replicate 8 {} }, 2, wAct 6 2, by decide +kernel⟩

theorem witness_UpdateEvents_19 : ∃ (t : Nat) (s : State) (n : Nat) (a : Activation), let b := s.advance t; (b.upd.act = some
    a) ∧ (a.part = 6) ∧ ((driverOrder b 6 a.target)[a.count]? = some n) ∧ ((b.strAt (n / 4)).state ≠ .regulating) := ⟨5,
    { withAct 6 2 wU with str := List.replicate 8 {} }, 2, wAct 6 2, by decide +kernel⟩

theorem witness_StepRunsTheFront_1 : ∃ (c : Instr) (s : State) (l : List Instr), (s.pending = c :: l) := ⟨.qspiStatus 5,
    { wS with pending := [.qspiStatus 5, .hprHbTick 6] }, [.hprHbTick 6], by decide +kernel⟩

theorem witness_StepRunsTheFront_2 : ∃ (s : State), (s.pending = []) := ⟨wS, by decide +kernel⟩

theorem witness_ResetState_1 : ∃ (i : Nat), (i < 8) := ⟨7, by decide +kernel⟩

theorem witness_ResetState_2 : ∃ (g : Target) (n : Nat), (n < 256) := ⟨.host, 255, by decide +kernel⟩

theorem witness_StepKeepsMemory_1 : ∃ (s u : State), (MemOk s) ∧ (step s = .next u) :=
  ⟨{ wS with pending := [.qspiStatus 5], mem := [(0x1000, 1), (0x1FFF, 2)] }, _, by decide +kernel, rfl⟩

theorem witness_StepKeepsSizes_1 : ∃ (s u : State), (Sized s) ∧ (step s = .next u) :=
  ⟨{ wS with pending := [.qspiStatus 5] }, _, by decide +kernel, rfl⟩

theorem witness_TheBooksBalance_1 : ∃ (s u : State), (BooksBalance s) ∧ (step s = .next u) :=
  ⟨{ wS with pending := [.qspiStatus 5] }, _, fun i => by
    rcases Nat.lt_or_ge i 8 with h | h
    · have e : ∀ k ∈ List.range 8, (wS.balAt k).ledger.balanced = true := by decide +kernel
      exact e i (List.mem_range.2 h)
    · have e : ({ wS with pending := [.qspiStatus 5] } : State).balAt i = {} := by
        simp [State.balAt, List.getD_eq_getElem?_getD, List.getElem?_eq_none (show wS.bal.length ≤ i from h)]
      rw [e]; decide, rfl⟩

theorem witness_TheBooksBalance_2 : ∃ (s : State) (i m : Nat) (p d : RoundData) (cmd : Int) (dt : Nat), (i < s.bal.length) ∧
    (m < 16) ∧ (p.shuttleCh = 255 ∨ p.shuttleCh < 32) ∧ (d.shuttleCh = 255 ∨ d.shuttleCh < 32) := ⟨wS, 7, 15, wRD,
    { wRD with shuttleCh := 31, qShuttle := -5 }, 100, 1000000000, by decide +kernel⟩

theorem witness_LogRecordsCountOn_1 : ∃ (s : State) (q : Req), (Taken s q) ∧ (s.unit.isRole = true ∨ s.unit = .safeHold ∨
    s.unit = .recovery) ∧ (q.payload = []) := ⟨wS, rq [], by decide +kernel⟩

theorem witness_LogRecordsCountOn_2 : ∃ (s u : State), (LogOk s.plg) ∧ (step s = .next u) :=
  ⟨{ wS with pending := [.recordSubmit 5 ⟨0x1000, 0, 1, 0, 0, 0⟩] }, _,
    ⟨rfl, by decide, by decide, rfl, fun i r h => by
      simpa using (show r ∈ ([] : List Peat)[i]? from h)⟩, rfl⟩

theorem witness_RetirementLasts_1 : ∃ (c : Instr) (s v : State) (u : Nat), (s.retired u = true) ∧ (exec c s = .next v) :=
  ⟨.qspiStatus 0, { State.reset with flt := { State.reset.flt with retired := [(0x0800, 0)] } }, _, 0x0800, by decide +kernel, rfl⟩

theorem witness_OnlyItsParts_1 : ∃ (c : Instr) (s u : State), (exec c s = .next u) :=
  ⟨.qspiStatus 0, State.reset, _, rfl⟩

theorem witness_AppIsDenied_1 : ∃ (s : State) (q : Req), (takes s = true) ∧ (cacheHit s 0x010F q = none) ∧ (execHit s 0x010F q
    = false) ∧ (q.port = .app) := ⟨wS, { rqb (List.replicate 4 0) with port := .app }, by decide +kernel⟩

theorem witness_AppIsDenied_2 : ∃ (s : State) (q : Req), (takes s = true) ∧ (cacheHit s 0x0104 q = none) ∧ (execHit s 0x0104 q
    = false) ∧ (q.port = .app) := ⟨wS, { rqb (List.replicate 0 0) with port := .app }, by decide +kernel⟩

theorem witness_AppIsDenied_3 : ∃ (s : State) (q : Req), (takes s = true) ∧ (cacheHit s 0x0E04 q = none) ∧ (execHit s 0x0E04 q
    = false) ∧ (q.port = .app) := ⟨wS, { rqb (List.replicate 40 0) with port := .app }, by decide +kernel⟩

theorem witness_AppIsDenied_4 : ∃ (s : State) (q : Req), (takes s = true) ∧ (cacheHit s 0x0D0A q = none) ∧ (execHit s 0x0D0A q
    = false) ∧ (q.port = .app) := ⟨wS, { rqb (List.replicate 5 0) with port := .app }, by decide +kernel⟩

theorem witness_AppIsDenied_5 : ∃ (s : State) (q : Req), (takes s = true) ∧ (cacheHit s 0x0F07 q = none) ∧ (execHit s 0x0F07 q
    = false) ∧ (q.port = .app) := ⟨wS, { rqb (List.replicate 2 0) with port := .app }, by decide +kernel⟩

theorem witness_AppIsDenied_6 : ∃ (s : State) (q : Req), (takes s = true) ∧ (cacheHit s 0x1106 q = none) ∧ (execHit s 0x1106 q
    = false) ∧ (q.port = .app) := ⟨wS, { rqb (List.replicate 4 0) with port := .app }, by decide +kernel⟩

theorem witness_AppIsDenied_7 : ∃ (s : State) (q : Req), (takes s = true) ∧ (cacheHit s 0x1107 q = none) ∧ (execHit s 0x1107 q
    = false) ∧ (q.port = .app) := ⟨wS, { rqb (List.replicate 0 0) with port := .app }, by decide +kernel⟩

theorem witness_MaskBits_1 : ∃ (s : State) (g : Target) (n : Nat), ((s.srcAt g n).mask = true) := ⟨wI.modSrc .app 5 (fun x =>
    { x with mask := true }), .app, 5, by decide +kernel⟩

theorem witness_MaskBits_2 : ∃ (t : Nat) (s : State) (g : Target) (w : Nat) (m : BitVec 32), let b := s.advance t; (BanksOk
    b) ∧ (w < 8) := ⟨5, wI, .app, 7, 0x80000000, by decide +kernel⟩

theorem witness_MaskBits_3 : ∃ (t : Nat) (s : State) (g : Target) (w : Nat) (m : BitVec 32), let b := s.advance t; (BanksOk
    b) ∧ (w < 8) := ⟨5, wI, .app, 0, 1, by decide +kernel⟩

theorem witness_MaskBits_4 : ∃ (s : State) (t t2 : Nat) (g : Target) (w n : Nat) (m : BitVec 32), (BanksOk s) ∧ (w < 8) ∧
    ((s.tgt g).deliv = some n) ∧ (InMask s g w m n) ∧ ((s.srcAt g n).pend = true) := ⟨wI.modTgt .app (fun x =>
    { x with deliv := some 5 }), 5, 6, .app, 0, 5, 0x20, by decide +kernel⟩

theorem witness_Rejections_1 : ∃ (sp : Spec) (run : State → Req → State) (s : State) (q : Req) (st d : Nat), (Taken s q) ∧
    (rejection sp s q = some (st, d)) :=
  ⟨{ op := 0x0104, len := lenIs 0, roles := .all }, fun s _ => s, wS, rq [1], stBadLength, 0, by decide +kernel, by decide +kernel⟩

theorem witness_Rejections_2 : ∃ (s : State) (q : Req), (Taken s q) ∧ (s.unit = .standby) ∧ (q.payload.length = 4) ∧ (getU
    q.payload 0 1 = 0xFF ∨ getU q.payload 0 1 < s.strings) := ⟨{ wS with unit := .standby }, rq [7, 0, 0, 0], by
    decide +kernel⟩

theorem witness_Rejections_3 : ∃ (s : State) (q : Req), (Taken s q) ∧ (s.unit = .standby) ∧ (q.payload.length = 4) ∧ (getU
    q.payload 0 1 = 0xFF ∨ getU q.payload 0 1 < s.strings) := ⟨{ wS with unit := .standby }, rq [7, 0, 0, 0], by
    decide +kernel⟩

theorem witness_Rejections_4 : ∃ (s : State) (q : Req), (Taken s q) ∧ (s.unit = .standby) ∧ (q.payload.length = 4) ∧ (getU
    q.payload 0 1 = 0xFF ∨ getU q.payload 0 1 < s.strings) := ⟨{ wS with unit := .standby }, rq [7, 0, 0, 0], by
    decide +kernel⟩

theorem witness_Rejections_5 : ∃ (s : State) (q : Req), (Taken s q) ∧ (s.unit = .standby) ∧ (q.payload.length = 4) ∧ (getU
    q.payload 0 1 = 0xFF ∨ getU q.payload 0 1 < s.strings) := ⟨{ wS with unit := .standby }, rq [7, 0, 0, 0], by
    decide +kernel⟩

theorem witness_Rejections_6 : ∃ (s : State) (q : Req), (Taken s q) ∧ (s.unit = .standby) ∧ (q.payload.length = 4) ∧ (getU
    q.payload 0 1 = 0xFF ∨ getU q.payload 0 1 < s.strings) := ⟨{ wS with unit := .standby }, rq [7, 0, 0, 0], by
    decide +kernel⟩

theorem witness_Rejections_7 : ∃ (s : State) (q : Req), (Taken s q) ∧ (s.unit = .standby) ∧ (q.payload.length = 4) ∧ (getU
    q.payload 0 1 = 0xFF ∨ getU q.payload 0 1 < s.strings) := ⟨{ wS with unit := .standby }, rq [7, 0, 0, 0], by
    decide +kernel⟩

theorem witness_Rejections_8 : ∃ (s : State) (q : Req), (Taken s q) ∧ (s.unit = .standby) ∧ (q.payload.length = 4) ∧ (getU
    q.payload 0 1 = 0xFF ∨ getU q.payload 0 1 < s.strings) := ⟨{ wS with unit := .standby }, rq [7, 0, 0, 0], by
    decide +kernel⟩

theorem witness_WindowAllocation_1 : ∃ (s : State) (q : Req) (n : Nat), (Taken s q) ∧ (s.unit.isRole = true ∨ s.unit =
    .safeHold ∨ s.unit = .recovery) ∧ (q.payload.length = 4) ∧ (getU q.payload 0 4 = n) ∧ (4096 ≤ (n + 4095) / 4096 * 4096) ∧
    ((n + 4095) / 4096 * 4096 ≤ 0x1000000) ∧ (s.hpr.desc.length = 256) ∧ (∃ o, FreeRun s q.port ((n + 4095) / 4096 * 4096)
    o) ∧ (∃ e ∈ s.hpr.desc, e.kind = 0) :=
  ⟨wS, rq [0, 0, 0, 1], 0x1000000, by decide +kernel, by decide +kernel, rfl, rfl, by decide, by decide, by decide +kernel,
    ⟨0x10000, by decide +kernel⟩, by decide +kernel⟩

theorem witness_WindowAllocation_2 : ∃ (s : State) (q : Req) (n : Nat), (Taken s q) ∧ (s.unit.isRole = true ∨ s.unit =
    .safeHold ∨ s.unit = .recovery) ∧ (q.payload.length = 4) ∧ (getU q.payload 0 4 = n) ∧ ((n + 4095) / 4096 * 4096 < 4096 ∨
    0x1000000 < (n + 4095) / 4096 * 4096) := ⟨wS, rq [1, 0, 0, 1], 0x1000001, by decide +kernel⟩

theorem witness_WindowAllocation_3 : ∃ (s : State) (q : Req) (n : Nat), (Taken s q) ∧ (s.unit.isRole = true ∨ s.unit =
    .safeHold ∨ s.unit = .recovery) ∧ (q.payload.length = 4) ∧ (getU q.payload 0 4 = n) ∧ (4096 ≤ (n + 4095) / 4096 * 4096) ∧
    ((n + 4095) / 4096 * 4096 ≤ 0x1000000) ∧ (s.hpr.desc.length = 256) ∧ ((∀ o, ¬ FreeRun s q.port ((n + 4095) / 4096 * 4096)
    o) ∨ (∀ e ∈ s.hpr.desc, e.kind ≠ 0)) :=
  ⟨{ wS with hpr := { wS.hpr with desc := List.replicate 256 { kind := 2 } } }, rq [0, 16, 0, 0], 4096, by decide +kernel,
    by decide +kernel, rfl, rfl, by decide, by decide, by decide +kernel, Or.inr (by decide +kernel)⟩

end Sys2Proof.Tests
end

section
/-! SUPPORT. The lengths of the lists a population fixes, gathered into one value, and what each update of a part of the
state does to that value. -/

namespace Sys2Proof.Machine

@[simp] abbrev Rings.sizes (r : Rings) : List Nat := r.ring.map fun x => x.mons.length
@[simp] abbrev Chan.sizes (c : Chan) : List Nat := [c.str.length, c.inputs.length]
@[simp] abbrev Saf.sizes (f : Saf) : List (List Nat) := [[f.cont.length], f.sp.sizes, f.sloe.sizes]
@[simp] abbrev Icu.sizes (u : Icu) : List Nat := [u.psup.length, u.papp.length, u.phost.length, u.shared.length]
@[simp] abbrev Rack.sizes (r : Rack) : List Nat := [r.rect.length, r.ef.length]
@[simp] abbrev Tsu.sizes (t : Tsu) : List Nat := [t.trig.length, t.cap.length, t.ports.length]
@[simp] abbrev Le.sizes (l : Le) : List Nat := [l.slot.length, l.probe.length]
@[simp] abbrev Hpr.sizes (h : Hpr) : List Nat := [h.desc.length, h.clients.length]

/-- The lengths `Sized` speaks of, part by part. -/
def State.sizes (s : State) : List (List Nat) :=
  [[s.str.length, s.hviStr.length, s.bal.length, s.conv.length, s.phase.length, s.gx2.length], s.rings.sizes,
    [s.cee.est.length], [s.tpe.pairs.length], [s.th.ti.length], [s.dsp.str.length], s.rack.sizes, [s.seq.rails.length],
    s.tsu.sizes, s.le.sizes, s.hpr.sizes, [s.net.port.length, s.net.can.length], s.icu.sizes, [s.upd.xfer.length]]
    ++ s.saf.sizes

/-- The lengths of the population (00_scope.md R2, R12, R13): those of a state right after reset. -/
def population : List (List Nat) := State.reset.sizes

theorem population_eq : population = [[8, 8, 8, 8, 32, 32], List.replicate 8 16, [8], [4], [24], [8], [16, 16], [32],
    [16, 16, 2], [128, 16], [256, 9], [4, 4], [32, 32, 32, 224], [5], [8], [8, 16], [8, 16]] := by
  decide +kernel

theorem rings_sizes_iff (r : Rings) :
    r.sizes = List.replicate 8 16 ↔ r.ring.length = 8 ∧ ∀ x ∈ r.ring, x.mons.length = 16 := by
  unfold Rings.sizes
  rw [List.eq_replicate_iff]
  simp only [List.length_map, List.forall_mem_map]

theorem sized_iff (s : State) : Sized s ↔ s.sizes = population := by
  simp only [Sized, State.sizes, population_eq, Saf.sizes, List.cons_append, List.nil_append, List.cons.injEq,
    rings_sizes_iff, Chan.sizes, Icu.sizes, Rack.sizes, Tsu.sizes, Le.sizes, Hpr.sizes, and_true]
  exact iff_of_eq (by ac_rfl)

@[simp] theorem foldl_sizes {β : Type} (f : State → β → State) (h : ∀ s b, (f s b).sizes = s.sizes) (l : List β)
    (s : State) : (l.foldl f s).sizes = s.sizes := foldl_proj State.sizes f h l s
@[simp] theorem ite_sizes (c : Prop) [Decidable c] (a b : State) :
    (if c then a else b).sizes = if c then a.sizes else b.sizes := by split <;> rfl

theorem map_modify_of_eq {α β : Type} (g : α → β) (f : α → α) (h : ∀ a, g (f a) = g a) (l : List α) (i : Nat) :
    (l.modify i f).map g = l.map g := by
  refine List.ext_getElem (by simp) fun k _ _ => ?_
  simp only [List.getElem_map, List.getElem_modify]
  split <;> simp [h]

/-! ## The elements of the indexed parts -/

@[simp] theorem State.modStr_sizes (s : State) (i : Nat) (f : Str → Str) : (s.modStr i f).sizes = s.sizes := by
  simp [State.modStr, State.sizes]
@[simp] theorem State.modHvi_sizes (s : State) (i : Nat) (f : HviStr → HviStr) : (s.modHvi i f).sizes = s.sizes := by
  simp [State.modHvi, State.sizes]
@[simp] theorem State.modRing_sizes (s : State) (i : Nat) (f : Ring → Ring) (h : ∀ r, (f r).mons.length = r.mons.length) :
    (s.modRing i f).sizes = s.sizes := by
  simp [State.modRing, State.sizes, map_modify_of_eq (fun x : Ring => x.mons.length) f h]
@[simp] theorem Ring.modMon_mons_length (r : Ring) (m : Nat) (f : Monitor → Monitor) :
    (r.modMon m f).mons.length = r.mons.length := by
  simp [Ring.modMon]
@[simp] theorem State.modMon_sizes (s : State) (i m : Nat) (f : Monitor → Monitor) : (s.modMon i m f).sizes = s.sizes := by
  simp [State.modMon]
@[simp] theorem State.modCell_sizes (s : State) (c : Nat) (f : Cell → Cell) : (s.modCell c f).sizes = s.sizes := (rfl)
@[simp] theorem State.modEst_sizes (s : State) (i : Nat) (f : Est → Est) : (s.modEst i f).sizes = s.sizes := by
  simp [State.modEst, State.sizes]
@[simp] theorem State.modBal_sizes (s : State) (i : Nat) (f : Bal → Bal) : (s.modBal i f).sizes = s.sizes := by
  simp [State.modBal, State.sizes]
@[simp] theorem State.modConv_sizes (s : State) (i : Nat) (f : Conv → Conv) : (s.modConv i f).sizes = s.sizes := by
  simp [State.modConv, State.sizes]
@[simp] theorem State.modPhase_sizes (s : State) (p : Nat) (f : Phase → Phase) : (s.modPhase p f).sizes = s.sizes := by
  simp [State.modPhase, State.sizes]
@[simp] theorem State.modGx2_sizes (s : State) (p : Nat) (f : Gx2 → Gx2) : (s.modGx2 p f).sizes = s.sizes := by
  simp [State.modGx2, State.sizes]
@[simp] theorem State.modCont_sizes (s : State) (i : Nat) (f : Cont → Cont) : (s.modCont i f).sizes = s.sizes := by
  simp [State.modCont, State.sizes]
@[simp] theorem State.modChan_sizes (s : State) (c : Channel) (f : Chan → Chan)
    (h : ∀ x, (f x).sizes = x.sizes) : (s.modChan c f).sizes = s.sizes := by
  cases c <;> simp_all [State.modChan, State.sizes]
@[simp] theorem Chan.mod_lengths (c : Chan) (i : Nat) (f : ChanStr → ChanStr) :
    (c.mod i f).str.length = c.str.length ∧ (c.mod i f).inputs = c.inputs := by
  simp [Chan.mod]
@[simp] theorem State.modChanStr_sizes (s : State) (c : Channel) (i : Nat) (f : ChanStr → ChanStr) :
    (s.modChanStr c i f).sizes = s.sizes := by
  simp [State.modChanStr]
@[simp] theorem State.modEf_sizes (s : State) (n : Nat) (f : Ef → Ef) : (s.modEf n f).sizes = s.sizes := by
  simp [State.modEf, State.sizes]
@[simp] theorem State.modTi_sizes (s : State) (n : Nat) (f : Ti → Ti) : (s.modTi n f).sizes = s.sizes := by
  simp [State.modTi, State.sizes]
@[simp] theorem State.modCan_sizes (s : State) (c : Nat) (f : Can → Can) : (s.modCan c f).sizes = s.sizes := by
  simp [State.modCan, State.sizes]
@[simp] theorem State.modPort_sizes (s : State) (n : Nat) (f : NetPort → NetPort) : (s.modPort n f).sizes = s.sizes := by
  simp [State.modPort, State.sizes]
@[simp] theorem State.modRail_sizes (s : State) (r : Nat) (f : Rail → Rail) : (s.modRail r f).sizes = s.sizes := by
  simp [State.modRail, State.sizes]
@[simp] theorem State.modLoop_sizes (s : State) (n : Nat) (f : LoopSlot → LoopSlot) : (s.modLoop n f).sizes = s.sizes := by
  simp [State.modLoop, State.sizes]

/-! ## The parts -/

@[simp] theorem State.setHpr_sizes (s : State) (f : Hpr → Hpr) (h : ∀ x, (f x).sizes = x.sizes) :
    (s.setHpr f).sizes = s.sizes := by
  simp_all [State.setHpr, State.sizes]
@[simp] theorem State.setPwr_sizes (s : State) (f : Power → Power) : (s.setPwr f).sizes = s.sizes := (rfl)
@[simp] theorem State.setRed_sizes (s : State) (f : Red → Red) : (s.setRed f).sizes = s.sizes := (rfl)
@[simp] theorem State.setPlg_sizes (s : State) (f : Plg → Plg) : (s.setPlg f).sizes = s.sizes := (rfl)
@[simp] theorem State.setFlt_sizes (s : State) (f : Flt → Flt) : (s.setFlt f).sizes = s.sizes := (rfl)
@[simp] theorem State.setDsp_sizes (s : State) (f : Dsp → Dsp) (h : ∀ x, (f x).str.length = x.str.length) :
    (s.setDsp f).sizes = s.sizes := by
  simp_all [State.setDsp, State.sizes]
@[simp] theorem State.setRack_sizes (s : State) (f : Rack → Rack) (h : ∀ x, (f x).sizes = x.sizes) :
    (s.setRack f).sizes = s.sizes := by
  simp_all [State.setRack, State.sizes]
@[simp] theorem State.setTsu_sizes (s : State) (f : Tsu → Tsu) (h : ∀ x, (f x).sizes = x.sizes) :
    (s.setTsu f).sizes = s.sizes := by
  simp_all [State.setTsu, State.sizes]
@[simp] theorem State.setSaf_sizes (s : State) (f : Saf → Saf) (h : ∀ x, (f x).sizes = x.sizes) :
    (s.setSaf f).sizes = s.sizes := by
  simp_all [State.setSaf, State.sizes]
@[simp] theorem State.setApp_sizes (s : State) (f : App → App) : (s.setApp f).sizes = s.sizes := (rfl)
@[simp] theorem State.setTpe_sizes (s : State) (f : Tpe → Tpe) (h : ∀ x, (f x).pairs.length = x.pairs.length) :
    (s.setTpe f).sizes = s.sizes := by
  simp_all [State.setTpe, State.sizes]
@[simp] theorem State.setCee_sizes (s : State) (f : Cee → Cee) (h : ∀ x, (f x).est.length = x.est.length) :
    (s.setCee f).sizes = s.sizes := by
  simp_all [State.setCee, State.sizes]
@[simp] theorem State.setSeq_sizes (s : State) (f : Seq → Seq) (h : ∀ x, (f x).rails.length = x.rails.length) :
    (s.setSeq f).sizes = s.sizes := by
  simp_all [State.setSeq, State.sizes]
@[simp] theorem State.setUpd_sizes (s : State) (f : Upd → Upd) (h : ∀ x, (f x).xfer.length = x.xfer.length) :
    (s.setUpd f).sizes = s.sizes := by
  simp_all [State.setUpd, State.sizes]
@[simp] theorem State.setLe_sizes (s : State) (f : Le → Le) (h : ∀ x, (f x).sizes = x.sizes) :
    (s.setLe f).sizes = s.sizes := by
  simp_all [State.setLe, State.sizes]

/-! ## Updates written out as a record -/

@[simp] theorem State.sizes_unsized (s : State) (pending : List Instr) (variant : Variant) (clk : Nat) (unit : UnitState)
    (pwr : Power) (hvi : Hvi) (red : Red) (app : App) (flt : Flt) (plg : Plg) (mem canRam : List Host.Cell) (free : Nat) :
    State.sizes { s with pending, variant, clk, unit, pwr, hvi, red, app, flt, plg, mem, canRam, free } = s.sizes := (rfl)
@[simp] theorem State.sizes_hviStr (s : State) (hvi : Hvi) (l : List HviStr) (h : l.length = s.hviStr.length) :
    State.sizes { s with hvi, hviStr := l } = s.sizes := by simp [State.sizes, h]
@[simp] theorem State.sizes_rings (s : State) (r : Rings) (h : r.sizes = s.rings.sizes) :
    State.sizes { s with rings := r } = s.sizes := by simp_all [State.sizes]
@[simp] theorem State.sizes_cee (s : State) (c : Cee) (h : c.est.length = s.cee.est.length) :
    State.sizes { s with cee := c } = s.sizes := by simp [State.sizes, h]
@[simp] theorem State.sizes_th (s : State) (t : Thermal) (h : t.ti.length = s.th.ti.length) :
    State.sizes { s with th := t } = s.sizes := by simp [State.sizes, h]
@[simp] theorem State.sizes_dsp (s : State) (d : Dsp) (h : d.str.length = s.dsp.str.length) :
    State.sizes { s with dsp := d } = s.sizes := by simp [State.sizes, h]
@[simp] theorem State.sizes_seq (s : State) (q : Seq) (h : q.rails.length = s.seq.rails.length) :
    State.sizes { s with seq := q } = s.sizes := by simp [State.sizes, h]
@[simp] theorem State.sizes_conv (s : State) (l : List Conv) (h : l.length = s.conv.length) :
    State.sizes { s with conv := l } = s.sizes := by simp [State.sizes, h]
@[simp] theorem State.sizes_phase (s : State) (l : List Phase) (h : l.length = s.phase.length) :
    State.sizes { s with phase := l } = s.sizes := by simp [State.sizes, h]
@[simp] theorem State.sizes_icu (s : State) (u : Icu) (h : u.sizes = s.icu.sizes) :
    State.sizes { s with icu := u } = s.sizes := by simp_all [State.sizes]
@[simp] theorem State.sizes_tsu (s : State) (t : Tsu) (h : t.sizes = s.tsu.sizes) :
    State.sizes { s with tsu := t } = s.sizes := by simp_all [State.sizes]
@[simp] theorem State.sizes_net (s : State) (n : Net)
    (h : n.port.length = s.net.port.length ∧ n.can.length = s.net.can.length) :
    State.sizes { s with net := n } = s.sizes := by simp [State.sizes, h]
@[simp] theorem State.sizes_hpr (s : State) (pwr : Power) (red : Red) (x : Hpr) (h : x.sizes = s.hpr.sizes) :
    State.sizes { s with pwr, red, hpr := x } = s.sizes := by simp_all [State.sizes]
@[simp] theorem State.sizes_rack (s : State) (x : Rack) (h : x.sizes = s.rack.sizes) :
    State.sizes { s with rack := x } = s.sizes := by simp_all [State.sizes]

end Sys2Proof.Machine
end

section
/-! SUPPORT. The lengths of the population under each operation of the model, in the order of the model's files. Where an
operation writes a list anew (the rails, the plan, the parts after a reset) the law has a hypothesis. -/

namespace Sys2Proof.Machine

/-! ## Ops -/

@[simp] theorem State.advance_sizes (s : State) (t : Nat) : (State.advance s t).sizes = s.sizes := by
  simp only [State.advance, State.sizes]; split <;> simp
@[simp] theorem progTrigger_sizes (s : State) (n at_ period : Nat) : (progTrigger s n at_ period).sizes = s.sizes := by
  simp [progTrigger]
@[simp] theorem State.draw_sizes (s : State) : (State.draw s).sizes = s.sizes := by
  simp [State.draw]
@[simp] theorem State.modTgt_sizes (s : State) (g : Target) (f : Tgt → Tgt) : (State.modTgt s g f).sizes = s.sizes := by
  unfold State.modTgt; (repeat' split) <;> simp
@[simp] theorem State.modSrc_sizes (s : State) (g : Target) (n : Nat) (f : Src → Src) :
    (State.modSrc s g n f).sizes = s.sizes := by
  unfold State.modSrc; (repeat' split) <;> simp
@[simp] theorem icuPend_sizes (s : State) (g : Target) (n : Nat) : (icuPend s g n).sizes = s.sizes := by
  simp [icuPend]
@[simp] theorem icuPrivate_sizes (s : State) (g : Target) (n : Nat) : (icuPrivate s g n).sizes = s.sizes := by
  simp [icuPrivate]
@[simp] theorem record_sizes (s : State) (code src lv p0 p1 p2 : Nat) : (record s code src lv p0 p1 p2).sizes = s.sizes := by
  simp [record]
@[simp] theorem groupRecord_sizes (s : State) (grp src lv rule obj val : Nat) :
    (groupRecord s grp src lv rule obj val).sizes = s.sizes := by
  simp [groupRecord]
@[simp] theorem redirRecord_sizes (s : State) (g : Target) (n : Nat) : (redirRecord s g n).sizes = s.sizes := by
  simp [redirRecord]
@[simp] theorem icuShared_sizes (s : State) (n : Nat) : (icuShared s n).sizes = s.sizes := by
  simp [icuShared]
@[simp] theorem syncUnit_sizes (s : State) : (syncUnit s).sizes = s.sizes := by
  simp [syncUnit]
@[simp] theorem setUnit_sizes (s : State) (u : UnitState) (cause : Nat) : (setUnit s u cause).sizes = s.sizes := by
  unfold setUnit; dsimp only; (repeat' split) <;> simp
@[simp] theorem roleRecord_sizes (s : State) (old : UnitState) (takeover : Bool) :
    (roleRecord s old takeover).sizes = s.sizes := by
  simp [roleRecord]
@[simp] theorem setPower_sizes (s : State) (p : PowerState) : (setPower s p).sizes = s.sizes := by
  simp [setPower]
@[simp] theorem exitFloat_sizes (s : State) : (exitFloat s).sizes = s.sizes := by
  simp [exitFloat]
@[simp] theorem State.modDesc_sizes (s : State) (d : Nat) (f : Desc → Desc) : (State.modDesc s d f).sizes = s.sizes := by
  simp [State.modDesc]
@[simp] theorem slotRespond_sizes (s : State) (n status detail : Nat) (port : Port) (payload : Bytes) :
    (slotRespond s n status detail port payload).sizes = s.sizes := by
  simp [slotRespond]
@[simp] theorem mgmtRespond_sizes (s : State) (n status detail : Nat) (op seq : Nat) (payload : Bytes) :
    (mgmtRespond s n status detail op seq payload).sizes = s.sizes := by
  simp [mgmtRespond]
@[simp] theorem finish1_sizes (s : State) (op : Nat) (q : Req) (status detail : Nat) (payload : Bytes) :
    (finish1 s op q status detail payload).sizes = s.sizes := by
  unfold finish1; (repeat' split) <;> simp
@[simp] theorem completeExec_sizes (s : State) (e : Exec) (status detail : Nat) (payload : Bytes) :
    (completeExec s e status detail payload).sizes = s.sizes := by
  simp [completeExec]
@[simp] theorem strayStr_sizes (s : State) (i : Nat) : (strayStr s i).sizes = s.sizes := by
  simp [strayStr]
@[simp] theorem setStr_sizes (s : State) (i : Nat) (new : StrState) (cause : Nat) :
    (setStr s i new cause).sizes = s.sizes := by
  simp [setStr]
@[simp] theorem endTrans_sizes (s : State) (i status detail : Nat) : (endTrans s i status detail).sizes = s.sizes := by
  unfold endTrans; (repeat' split) <;> simp
@[simp] theorem abortTrans_sizes (s : State) (i : Nat) : (abortTrans s i).sizes = s.sizes := by
  simp [abortTrans]
@[simp] theorem gateOffString_sizes (s : State) (i : Nat) : (gateOffString s i).sizes = s.sizes := by
  refine (State.sizes_phase (State.modConv _ _ _) _ (by simp)).trans ?_
  simp
@[simp] theorem openCoils_sizes (s : State) (i : Nat) : (openCoils s i).sizes = s.sizes := by
  simp [openCoils]
@[simp] theorem deferWrite_sizes (s : State) (k : Nat) : (deferWrite s k).sizes = s.sizes := by
  simp [deferWrite]
@[simp] theorem storeE_sizes (s : State) (i : Nat) : (storeE s i).sizes = s.sizes := by
  simp [storeE]
@[simp] theorem endPrecharge_sizes (s : State) (i : Nat) : (endPrecharge s i).sizes = s.sizes := by
  simp [endPrecharge]
@[simp] theorem stopBalancing_sizes (s : State) (i : Nat) : (stopBalancing s i).sizes = s.sizes := by
  simp [stopBalancing]
@[simp] theorem haltStr_sizes (s : State) (i cause : Nat) : (haltStr s i cause).sizes = s.sizes := by
  unfold haltStr; (repeat' split) <;> simp
@[simp] theorem retireStr_sizes (s : State) (i cause : Nat) : (retireStr s i cause).sizes = s.sizes := by
  unfold retireStr; dsimp only; (repeat' split) <;> simp
@[simp] theorem prechargeAbort_sizes (s : State) (i cause : Nat) : (prechargeAbort s i cause).sizes = s.sizes := by
  simp [prechargeAbort]
@[simp] theorem startRamp_sizes (s : State) (i : Nat) (dest : StrState) : (startRamp s i dest).sizes = s.sizes := by
  simp [startRamp]
@[simp] theorem enterSafeHold_sizes (s : State) (cause : Nat) : (enterSafeHold s cause).sizes = s.sizes := by
  simp [enterSafeHold]
@[simp] theorem forceTier_sizes (s : State) (i : Nat) (old new : Tier) : (forceTier s i old new).sizes = s.sizes := by
  unfold forceTier; (repeat' split) <;> simp
@[simp] theorem retierStr_sizes (s : State) (i : Nat) : (retierStr s i).sizes = s.sizes := by
  simp [retierStr]
@[simp] theorem retier_sizes (s : State) : (retier s).sizes = s.sizes := by
  simp [retier]
@[simp] theorem retireEffect_sizes (s : State) (u : Nat) : (retireEffect s u).sizes = s.sizes := by
  unfold retireEffect; (repeat' split) <;> simp
@[simp] theorem retireUnit_sizes (s : State) (u reason : Nat) : (retireUnit s u reason).sizes = s.sizes := by
  simp [retireUnit]
@[simp] theorem detected_sizes (s : State) (u rule detail : Nat) : (detected s u rule detail).sizes = s.sizes := by
  simp [detected]

/-! ## CommandKeeps -/

@[simp] theorem recordReject_sizes (s : State) (op : Nat) (q : Req) (detail : Nat) :
    (recordReject s op q detail).sizes = s.sizes := by
  unfold recordReject; dsimp only; (repeat' split) <;> simp
@[simp] theorem rejectCmd_sizes (s : State) (op : Nat) (q : Req) (status detail : Nat) :
    (rejectCmd s op q status detail).sizes = s.sizes := by
  simp [rejectCmd]
@[simp] theorem noteDesc_sizes (sp : Spec) (s : State) (q : Req) : (noteDesc sp s q).sizes = s.sizes := by
  unfold noteDesc; (repeat' split) <;> simp
@[simp] theorem giveBack_sizes (sp : Spec) (s : State) (q : Req) : (giveBack sp s q).sizes = s.sizes := by
  unfold giveBack; (repeat' split) <;> simp
@[simp] theorem follow_sizes (s : State) (op : Nat) (q : Req) : (follow s op q).sizes = s.sizes := by
  simp [follow]
@[simp] theorem touch_sizes (s : State) : (touch s).sizes = s.sizes := by
  simp [touch]
@[simp] theorem ok_sizes (s : State) (op : Nat) (q : Req) (payload : Bytes) : (ok s op q payload).sizes = s.sizes := by
  simp [ok]
@[simp] theorem bufWrite_sizes (s : State) (d : Nat) (b : Bytes) : (bufWrite s d b).sizes = s.sizes := by
  simp [bufWrite]
@[simp] theorem respond_sizes (s : State) (op : Nat) (q : Req) (d : Nat) (b : Bytes) :
    (respond s op q d b).sizes = s.sizes := by
  simp [respond]
@[simp] theorem respondBuf_sizes (s : State) (op : Nat) (q : Req) (d : Nat) (b : Bytes) :
    (respondBuf s op q d b).sizes = s.sizes := by
  simp [respondBuf]
@[simp] theorem keepExec_sizes (s : State) (op : Nat) (q : Req) : (keepExec s op q).sizes = s.sizes := by
  simp [keepExec]
@[simp] theorem peerSend_sizes (s : State) (ty : Nat) : (peerSend s ty).sizes = s.sizes := by
  simp [peerSend]
@[simp] theorem commit_sizes (s : State) (op : Nat) (q : Req) (ty : Nat) (payload : Bytes) :
    (commit s op q ty payload).sizes = s.sizes := by
  simp [commit]
@[simp] theorem commitExec_sizes (s : State) (e : Exec) (ty : Nat) (payload : Bytes) :
    (commitExec s e ty payload).sizes = s.sizes := by
  simp [commitExec]
@[simp] theorem endTransOk_sizes (s : State) (i : Nat) : (endTransOk s i).sizes = s.sizes := by
  unfold endTransOk; (repeat' split) <;> simp

/-! ## Icu -/

@[simp] theorem icuDecide_sizes (s : State) (g : Target) : (icuDecide s g).sizes = s.sizes := by
  unfold icuDecide; (repeat' split) <;> simp
@[simp] theorem icuClaim_sizes (s : State) (g : Target) : (icuClaim s g).sizes = s.sizes := by
  unfold icuClaim; (repeat' split) <;> simp
@[simp] theorem icuComplete_sizes (s : State) (g : Target) (value : BitVec 32) :
    (icuComplete s g value).sizes = s.sizes := by
  simp [icuComplete]
@[simp] theorem icuCtrl_sizes (s : State) (g : Target) (value : BitVec 32) : (icuCtrl s g value).sizes = s.sizes := by
  unfold icuCtrl; dsimp only
  split <;> exact (State.sizes_icu (State.modTgt _ _ _) _ (by simp)).trans (by simp)
@[simp] theorem retarget_sizes (s : State) (n : Nat) (g : Target) : (retarget s n g).sizes = s.sizes := by
  simp [retarget]

@[simp] theorem icuWord_sizes (s : State) (g : Target) (w : Nat) (m : BitVec 32) (f : State → Nat → State)
    (h : ∀ s n, (f s n).sizes = s.sizes) : (icuWord s g w m f).sizes = s.sizes :=
  icuWord_proj State.sizes s g w m f h
@[simp] theorem icuWrite_sizes (s : State) (g : Target) (off : Nat) (v : BitVec 32) :
    (icuWrite s g off v).sizes = s.sizes := by
  unfold icuWrite; simp

/-! ## AppCore -/

@[simp] theorem restartEffects_sizes (s : State) : (restartEffects s).sizes = s.sizes := by
  unfold restartEffects; dsimp only
  rw [State.setTsu_sizes _ _ (by simp), State.sizes_net _ _ (by simp)]
  simp
@[simp] theorem appRestart_sizes (s : State) (cause : Nat) : (appRestart s cause).sizes = s.sizes := by
  simp [appRestart]
@[simp] theorem monitorAnswer_sizes (s : State) (a0 : Int) (a1 : Nat) : (monitorAnswer s a0 a1).sizes = s.sizes := by
  simp [monitorAnswer]

/-! ## Faults -/

@[simp] theorem unsuspend_sizes (s : State) (u : Nat) : (unsuspend s u).sizes = s.sizes := by
  simp [unsuspend]
@[simp] theorem testUnit_sizes (s : State) (u : Nat) (restoring : Bool) : (testUnit s u restoring).sizes = s.sizes := by
  simp [testUnit]
@[simp] theorem restoreEffect_sizes (s : State) (u : Nat) : (restoreEffect s u).sizes = s.sizes := by
  unfold restoreEffect; (repeat' split) <;> simp
@[simp] theorem restoreUnit_sizes (s : State) (u port : Nat) : (restoreUnit s u port).sizes = s.sizes := by
  simp [restoreUnit]
@[simp] theorem restoreDone_sizes (s : State) (r : Restore) : (restoreDone s r).sizes = s.sizes := by
  unfold restoreDone; (repeat' split) <;> simp
@[simp] theorem restoreNote_sizes (s : State) (u : Nat) (pass : Bool) : (restoreNote s u pass).sizes = s.sizes := by
  simp [restoreNote]
@[simp] theorem selfTest_sizes (s : State) (u outcome : Nat) : (selfTest s u outcome).sizes = s.sizes := by
  unfold selfTest; (repeat' split) <;> simp
@[simp] theorem startRestore_sizes (s : State) (op : Nat) (q : Req) (units : List Nat) (string : Option Nat) :
    (startRestore s op q units string).sizes = s.sizes := by
  unfold startRestore; (repeat' split) <;> simp
@[simp] theorem loseSup_sizes (s : State) : (loseSup s).sizes = s.sizes := by
  simp [loseSup]
@[simp] theorem bankInvalid_sizes (s : State) (part bank : Nat) : (bankInvalid s part bank).sizes = s.sizes := by
  unfold bankInvalid; (repeat' split) <;> simp

/-! ## Ledger -/

@[simp] theorem bookShuttle_sizes (s : State) (i m ch : Nat) (dq : Int) (d : RoundData) :
    (bookShuttle s i m ch dq d).sizes = s.sizes := by
  simp [bookShuttle]
@[simp] theorem bookBleed_sizes (s : State) (i m q : Nat) (chs : List Nat) (d : RoundData) :
    (bookBleed s i m q chs d).sizes = s.sizes := by
  unfold bookBleed; dsimp only
  rw [foldl_sizes _ (by simp)]
  simp
@[simp] theorem bookUnattributedShuttle_sizes (s : State) (i m : Nat) (dq : Int) :
    (bookUnattributedShuttle s i m dq).sizes = s.sizes := by
  simp [bookUnattributedShuttle]
@[simp] theorem bookUnattributedBleed_sizes (s : State) (i m : Nat) (q : Nat) :
    (bookUnattributedBleed s i m q).sizes = s.sizes := by
  simp [bookUnattributedBleed]
@[simp] theorem bookIncrements_sizes (s : State) (i m : Nat) (prev now : RoundData) (qs : Int) (qb : Nat) :
    (bookIncrements s i m prev now qs qb).sizes = s.sizes := by
  unfold bookIncrements; (repeat' split) <;> simp
@[simp] theorem bookEstimate_sizes (s : State) (i m : Nat) (prev now : RoundData) (cmd : Int) (dt : Nat) :
    (bookEstimate s i m prev now cmd dt).sizes = s.sizes := by
  simp [bookEstimate]
@[simp] theorem bookReading_sizes (s : State) (i m : Nat) (prev : Option RoundData) (now : RoundData) (cmd : Int)
    (dt : Nat) : (bookReading s i m prev now cmd dt).sizes = s.sizes := by
  unfold bookReading; (repeat' split) <;> simp

/-! ## UpdAct -/

@[simp] theorem State.modXfer_sizes (s : State) (t : Nat) (f : Xfer → Xfer) : (State.modXfer s t f).sizes = s.sizes := by
  simp [State.modXfer]
@[simp] theorem State.modPart_sizes (s : State) (p : Nat) (f : Part → Part) : (State.modPart s p f).sizes = s.sizes := by
  unfold State.modPart; (repeat' split) <;> simp
@[simp] theorem startTrial_sizes (s : State) (a : Activation) : (startTrial s a).sizes = s.sizes := by
  simp [startTrial]
@[simp] theorem fellBack_sizes (s : State) (p : Nat) : (fellBack s p).sizes = s.sizes := by
  simp [fellBack]
@[simp] theorem actDone_sizes (s : State) (status detail : Nat) : (actDone s status detail).sizes = s.sizes := by
  unfold actDone; (repeat' split) <;> simp
@[simp] theorem actFailed_sizes (s : State) (detail : Nat) : (actFailed s detail).sizes = s.sizes := by
  unfold actFailed; (repeat' split) <;> simp
@[simp] theorem spResumed_sizes (s : State) : (spResumed s).sizes = s.sizes := by
  unfold spResumed; (repeat' split) <;> simp
@[simp] theorem storeImage_sizes (s : State) (x : Xfer) (n : Nat) : (storeImage s x n).sizes = s.sizes := by
  simp [storeImage]
@[simp] theorem distributed_sizes (s : State) (a : Activation) : (distributed s a).sizes = s.sizes := by
  simp [distributed]
@[simp] theorem fwReturned_sizes (s : State) (i m : Nat) : (fwReturned s i m).sizes = s.sizes := by
  unfold fwReturned; dsimp only; (repeat' split) <;> simp

/-! ## Rack -/

@[simp] theorem modRect_sizes (s : State) (k : Nat) (f : Rect → Rect) : (modRect s k f).sizes = s.sizes := by
  simp [modRect]
@[simp] theorem rectReply_sizes (s : State) (k : Nat) (x : RectReading) : (rectReply s k x).sizes = s.sizes := by
  simp [rectReply]
@[simp] theorem shareLoad_sizes (s : State) (replies : List RectReading) : (shareLoad s replies).sizes = s.sizes := by
  simp [shareLoad]
@[simp] theorem shedCh_sizes (s : State) (kind n : Nat) : (shedCh s kind n).sizes = s.sizes := by
  simp [shedCh]
@[simp] theorem shedClass_sizes (s : State) (kind c : Nat) : (shedClass s kind c).sizes = s.sizes := by
  simp [shedClass]
@[simp] theorem shedFans_sizes (s : State) : (shedFans s).sizes = s.sizes := by
  simp [shedFans]
@[simp] theorem efStart_sizes (s : State) (n : Nat) : (efStart s n).sizes = s.sizes := by
  simp [efStart]
@[simp] theorem acSources_sizes (s : State) : (acSources s).sizes = s.sizes := by
  simp [acSources]
@[simp] theorem efFault_sizes (s : State) (n : Nat) (f : EfFault) : (efFault s n f).sizes = s.sizes := by
  simp [efFault]
@[simp] theorem gateFault_sizes (s : State) (n : Nat) : (gateFault s n).sizes = s.sizes := by
  simp [gateFault]
@[simp] theorem setFan_sizes (s : State) (f d : Nat) : (setFan s f d).sizes = s.sizes := by
  simp [setFan]
@[simp] theorem storeEf_sizes (s : State) (p : Bytes) : (storeEf s p).sizes = s.sizes := by
  simp [storeEf]
@[simp] theorem efOff_sizes (s : State) (n : Nat) : (efOff s n).sizes = s.sizes := by
  simp [efOff]

/-! ## Loop -/

@[simp] theorem storeDesc_sizes (s : State) (p : Bytes) : (storeDesc s p).sizes = s.sizes := by
  simp [storeDesc]
@[simp] theorem emptySlot_sizes (s : State) (p : Bytes) : (emptySlot s p).sizes = s.sizes := by
  simp [emptySlot]
@[simp] theorem storeCoef_sizes (s : State) (p : Bytes) : (storeCoef s p).sizes = s.sizes := by
  simp [storeCoef]
@[simp] theorem storeSwap_sizes (s : State) (p : Bytes) : (storeSwap s p).sizes = s.sizes := by
  simp [storeSwap]
@[simp] theorem storeLut_sizes (s : State) (p : Bytes) : (storeLut s p).sizes = s.sizes := by
  simp [storeLut]
@[simp] theorem storeParam_sizes (s : State) (p : Bytes) : (storeParam s p).sizes = s.sizes := by
  simp [storeParam]
@[simp] theorem writeDst_sizes (s : State) (dst : Nat) (v : Int) : (writeDst s dst v).sizes = s.sizes := by
  unfold writeDst; (repeat' split) <;> simp
@[simp] theorem slewRef_sizes (s : State) (i : Nat) : (slewRef s i).sizes = s.sizes := by
  simp [slewRef]
@[simp] theorem capture_sizes (n : Nat) (catchUp : Bool) (flags : Nat) (nodes : List Int) (s : State) (k : Nat) :
    (capture n catchUp flags nodes s k).sizes = s.sizes := by
  simp [capture]
@[simp] theorem slotPeriod_sizes (s : State) (n cycles : Nat) (late : Bool) :
    (slotPeriod s n cycles late).sizes = s.sizes := by
  simp [slotPeriod]
@[simp] theorem onProbes_sizes (s : State) (mask : Nat) (f : Probe → Probe) : (onProbes s mask f).sizes = s.sizes := by
  simp [onProbes]

/-! ## Channels -/

@[simp] theorem latchString_sizes (s : State) (i cause : Nat) : (latchString s i cause).sizes = s.sizes := by
  simp [latchString]
@[simp] theorem trip_sizes (s : State) (c : Channel) (i : Nat) (f : SafetyFn) : (trip s c i f).sizes = s.sizes := by
  simp [trip]
@[simp] theorem tripBoth_sizes (s : State) (i : Nat) (f : SafetyFn) : (tripBoth s i f).sizes = s.sizes := by
  simp [tripBoth]
@[simp] theorem requestClose_sizes (s : State) (i : Nat) (coils : BitVec 4) : (requestClose s i coils).sizes = s.sizes := by
  simp [requestClose]
@[simp] theorem grantClose_sizes (s : State) (i : Nat) (coils : BitVec 4) (c : Channel) :
    (grantClose s i coils c).sizes = s.sizes := by
  simp [grantClose]
@[simp] theorem prechargeFail_sizes (s : State) (i detail : Nat) : (prechargeFail s i detail).sizes = s.sizes := by
  simp [prechargeFail]
@[simp] theorem adoptString_sizes (s : State) (i : Nat) : (adoptString s i).sizes = s.sizes := by
  unfold adoptString; (repeat' split) <;> simp
@[simp] theorem bkrAssert_sizes (s : State) (c : Channel) : (bkrAssert s c).sizes = s.sizes := by
  simp [bkrAssert]
@[simp] theorem bkrBoth_sizes (s : State) : (bkrBoth s).sizes = s.sizes := by
  simp [bkrBoth]
@[simp] theorem weldPulseStep_sizes (s : State) (i : Nat) : (weldPulseStep s i).sizes = s.sizes := by
  simp [weldPulseStep]
@[simp] theorem weldFound_sizes (s : State) (i k : Nat) : (weldFound s i k).sizes = s.sizes := by
  simp [weldFound]
@[simp] theorem judgeCoil_sizes (i : Nat) (cmd mir was fresh : Bool) (since k : Nat) (s : State) (c : Channel) :
    (judgeCoil i cmd mir was fresh since k s c).sizes = s.sizes := by
  simp [judgeCoil]
@[simp] theorem prechargeMirrors_sizes (s : State) (i : Nat) : (prechargeMirrors s i).sizes = s.sizes := by
  simp [prechargeMirrors]
@[simp] theorem openedStep_sizes (s : State) (i : Nat) : (openedStep s i).sizes = s.sizes := by
  simp [openedStep]
@[simp] theorem cdbOne_sizes (s : State) (i : Nat) (mir : BitVec 4) : (cdbOne s i mir).sizes = s.sizes := by
  simp [cdbOne]
@[simp] theorem releaseLatches_sizes (s : State) (i : Nat) : (releaseLatches s i).sizes = s.sizes := by
  simp [releaseLatches]
@[simp] theorem isoJudge_sizes (rIso : Nat) (s : State) (c : Channel) : (isoJudge rIso s c).sizes = s.sizes := by
  simp [isoJudge]
@[simp] theorem isoToChannels_sizes (s : State) (rIso : Nat) : (isoToChannels s rIso).sizes = s.sizes := by
  simp [isoToChannels]
@[simp] theorem ocJudge_sizes (i : Nat) (s : State) (c : Channel) : (ocJudge i s c).sizes = s.sizes := by
  simp [ocJudge]
@[simp] theorem inputFault_sizes (s : State) (c : Channel) (k : Nat) : (inputFault s c k).sizes = s.sizes := by
  simp [inputFault]
@[simp] theorem judgeInput_sizes (s : State) (c : Channel) (k : Nat) (high : Bool) :
    (judgeInput s c k high).sizes = s.sizes := by
  unfold judgeInput; dsimp only; (repeat' split) <;> simp
@[simp] theorem judgePair_sizes (s : State) (c : Channel) (k : Nat) : (judgePair s c k).sizes = s.sizes := by
  simp [judgePair]
@[simp] theorem stageSet_sizes (s : State) (b : Bytes) : (stageSet s b).sizes = s.sizes := by
  simp [stageSet]
@[simp] theorem discardStaged_sizes (s : State) : (discardStaged s).sizes = s.sizes := by
  simp [discardStaged]
@[simp] theorem updateMismatch_sizes (s : State) : (updateMismatch s).sizes = s.sizes := by
  simp [updateMismatch]
@[simp] theorem commFresh_sizes (s : State) (c : Channel) (b : Bytes) (seqKept : Bool) :
    (commFresh s c b seqKept).sizes = s.sizes := by
  simp [commFresh]
@[simp] theorem putSlot_lengths (b : Bytes) (c : Chan) :
    (putSlot b c).str.length = c.str.length ∧ (putSlot b c).inputs.length = c.inputs.length := by
  unfold putSlot; split <;> simp

@[simp] theorem activateSet_sizes (s : State) (c : Channel) (b : Bytes) : (activateSet s c b).sizes = s.sizes := by
  simp [activateSet]
@[simp] theorem kzvPdu_sizes (s : State) (net : Nat) : (kzvPdu s net).sizes = s.sizes := by
  simp [kzvPdu]
@[simp] theorem plantActs_sizes (s : State) (c : Channel) (p : Bytes) : (plantActs s c p).sizes = s.sizes := by
  simp [plantActs]
@[simp] theorem acceptPdu_sizes (s : State) (c : Channel) (net seq : Nat) (p : Bytes) :
    (acceptPdu s c net seq p).sizes = s.sizes := by
  simp [acceptPdu]
@[simp] theorem pduLoss_sizes (s : State) (c : Channel) : (pduLoss s c).sizes = s.sizes := by
  simp [pduLoss]
@[simp] theorem pairedUp_sizes (s : State) (c : Channel) : (pairedUp s c).sizes = s.sizes := by
  simp [pairedUp]
@[simp] theorem judgeSeq_sizes (s : State) (c : Channel) (net : Nat) (b : Bytes) : (judgeSeq s c net b).sizes = s.sizes := by
  simp [judgeSeq]
@[simp] theorem acceptSingle_sizes (s : State) (c : Channel) (net : Nat) (b : Bytes) :
    (acceptSingle s c net b).sizes = s.sizes := by
  simp [acceptSingle]
@[simp] theorem secondCopy_sizes (s : State) (c : Channel) (net : Nat) (b : Bytes) :
    (secondCopy s c net b).sizes = s.sizes := by
  unfold secondCopy; (repeat' split) <;> simp
@[simp] theorem nativeCopy_sizes (s : State) (c : Channel) (net : Nat) (b : Bytes) :
    (nativeCopy s c net b).sizes = s.sizes := by
  unfold nativeCopy; dsimp only; (repeat' split) <;> simp
@[simp] theorem readRx_sizes (s : State) (c : Channel) (net : Nat) (pdu : Bytes) : (readRx s c net pdu).sizes = s.sizes := by
  unfold readRx; dsimp only; (repeat' split) <;> simp

/-! ## Converter -/

@[simp] theorem stopConverter_sizes (s : State) (i : Nat) : (stopConverter s i).sizes = s.sizes := by
  refine (State.sizes_phase (State.modConv _ _ _) _ (by simp)).trans ?_
  simp
@[simp] theorem rampDone_sizes (s : State) (i : Nat) (dest : StrState) : (rampDone s i dest).sizes = s.sizes := by
  unfold rampDone; (repeat' split) <;> simp
@[simp] theorem enterPause_sizes (s : State) (i : Nat) (cause : PauseCause) : (enterPause s i cause).sizes = s.sizes := by
  unfold enterPause; dsimp only; (repeat' split) <;> simp
@[simp] theorem startConverter_sizes (s : State) (i : Nat) : (startConverter s i).sizes = s.sizes := by
  simp [startConverter]
@[simp] theorem softStartStep_sizes (s : State) (i : Nat) : (softStartStep s i).sizes = s.sizes := by
  unfold softStartStep; (repeat' split) <;> simp
@[simp] theorem disconnectNow_sizes (s : State) (i : Nat) : (disconnectNow s i).sizes = s.sizes := by
  simp [disconnectNow]
@[simp] theorem dropPhase_sizes (s : State) (p : Nat) : (dropPhase s p).sizes = s.sizes := by
  unfold dropPhase; dsimp only; (repeat' split) <;> simp
@[simp] theorem faultPhase_sizes (s : State) (p rule detail : Nat) : (faultPhase s p rule detail).sizes = s.sizes := by
  simp [faultPhase]
@[simp] theorem periodBoundary_sizes (s : State) (p : Nat) (code : Int) : (periodBoundary s p code).sizes = s.sizes := by
  unfold periodBoundary; dsimp only; (repeat' split) <;> simp
@[simp] theorem ambiguous_sizes (s : State) (i : Nat) : (ambiguous s i).sizes = s.sizes := by
  simp [ambiguous]
@[simp] theorem senseFault_sizes (s : State) (p : Nat) : (senseFault s p).sizes = s.sizes := by
  simp [senseFault]
@[simp] theorem phaseEvaluation_sizes (s : State) (i : Nat) : (phaseEvaluation s i).sizes = s.sizes := by
  unfold phaseEvaluation; dsimp only; (repeat' split) <;> simp
@[simp] theorem syncEdgeAt_sizes (s : State) : (syncEdgeAt s).sizes = s.sizes := by
  simp [syncEdgeAt]
@[simp] theorem gx2Fault_sizes (s : State) (p code : Nat) : (gx2Fault s p code).sizes = s.sizes := by
  simp [gx2Fault]
@[simp] theorem gx2Reply_sizes (s : State) (p : Nat) (r : Gx2Reply) : (gx2Reply s p r).sizes = s.sizes := by
  simp [gx2Reply]
@[simp] theorem storeCnv_sizes (s : State) (p : Bytes) : (storeCnv s p).sizes = s.sizes := by
  simp [storeCnv]
@[simp] theorem storeShift_sizes (s : State) (p : Bytes) : (storeShift s p).sizes = s.sizes := by
  simp [storeShift]

/-! ## Hvi -/

@[simp] theorem publishAligned_sizes (s : State) (i : Nat) : (publishAligned s i).sizes = s.sizes := by
  unfold publishAligned; dsimp only; (repeat' split) <;> simp
@[simp] theorem convSample_sizes (s : State) (i : Nat) : (convSample s i).sizes = s.sizes := by
  simp [convSample]
@[simp] theorem writeCheck_sizes (s : State) : (writeCheck s).sizes = s.sizes := by
  simp [writeCheck]
@[simp] theorem loadCheck_sizes (s : State) : (loadCheck s).sizes = s.sizes := by
  simp [loadCheck]
@[simp] theorem busWatch_sizes (s : State) : (busWatch s).sizes = s.sizes := by
  simp [busWatch]
@[simp] theorem noteDiscard_sizes (s : State) (ch : Nat) : (noteDiscard s ch).sizes = s.sizes := by
  simp [noteDiscard]
@[simp] theorem setIso_sizes (s : State) (mode : IsoMode) (thr : Nat) : (setIso s mode thr).sizes = s.sizes := by
  simp [setIso]

/-! ## Thermal -/

@[simp] theorem syncWarnings_sizes (s : State) : (syncWarnings s).sizes = s.sizes := by
  simp [syncWarnings]
@[simp] theorem tiSafety_sizes (s : State) (n : Nat) (v : Option Int) (c : Channel) :
    (tiSafety s n v c).sizes = s.sizes := by
  simp [tiSafety]
@[simp] theorem tiJudge_sizes (s : State) (n : Nat) (v : Option Int) : (tiJudge s n v).sizes = s.sizes := by
  unfold tiJudge; dsimp only; (repeat' split) <;> simp
@[simp] theorem sensorSample_sizes (slow : Bool) (crc : Nat) (s : State) (key : Nat) (raw : Int) :
    (sensorSample slow crc s key raw).sizes = s.sizes := by
  unfold sensorSample; dsimp only
  rw [ite_sizes, trip_sizes, ite_self, ite_sizes, trip_sizes, ite_self]
  refine (State.sizes_th (ite _ _ _) _ rfl).trans ?_
  simp
@[simp] theorem sensorRound_sizes (s : State) (i m : Nat) (d : RoundData) : (sensorRound s i m d).sizes = s.sizes := by
  unfold sensorRound; simp
@[simp] theorem storeTi_sizes (s : State) (p : Bytes) : (storeTi s p).sizes = s.sizes := by
  simp [storeTi]
@[simp] theorem setWarn_sizes (s : State) (p : Bytes) : (setWarn s p).sizes = s.sizes := by
  simp [setWarn]

/-! ## Pair -/

@[simp] theorem issueClaim_sizes (s : State) : (issueClaim s).sizes = s.sizes := by
  simp [issueClaim]
@[simp] theorem sendBeat_sizes (s : State) (dormant : Bool) : (sendBeat s dormant).sizes = s.sizes := by
  simp [sendBeat]
@[simp] theorem setRole_sizes (s : State) (u : UnitState) (cause : Nat) (takeover : Bool) :
    (setRole s u cause takeover).sizes = s.sizes := by
  simp [setRole]
@[simp] theorem enterResync_sizes (s : State) (cause : Nat) : (enterResync s cause).sizes = s.sizes := by
  simp [enterResync]
@[simp] theorem higherClaim_sizes (s : State) (claim : Nat) : (higherClaim s claim).sizes = s.sizes := by
  simp [higherClaim]
@[simp] theorem applyReplica_sizes (s : State) : (applyReplica s).sizes = s.sizes := by
  unfold applyReplica; dsimp only
  split
  · rfl
  · rw [foldl_sizes _ (by simp), foldl_sizes _ (fun s i => by split <;> simp), State.setDsp_sizes _ _ (by simp),
      foldl_sizes _ (fun s i => by split <;> simp)]
@[simp] theorem assumeDuties_sizes (held : Option IsoResult) (s : State) : (assumeDuties held s).sizes = s.sizes := by
  simp [assumeDuties, State.sizes, State.setTpe, Function.comp_def]
@[simp] theorem takeover_sizes (s : State) : (takeover s).sizes = s.sizes := by
  simp [takeover]
@[simp] theorem proveXcl_sizes (s : State) : (proveXcl s).sizes = s.sizes := by
  unfold proveXcl; split
  · rfl
  · exact State.setRed_sizes _ _
@[simp] theorem releaseAcks_sizes (s : State) (upTo : Option Nat) : (releaseAcks s upTo).sizes = s.sizes := by
  simp [releaseAcks]
@[simp] theorem soloFromResync_sizes (s : State) : (soloFromResync s).sizes = s.sizes := by
  simp [soloFromResync]
@[simp] theorem requestSwap_sizes (s : State) : (requestSwap s).sizes = s.sizes := by
  simp [requestSwap]
@[simp] theorem swapRefused_sizes (s : State) : (swapRefused s).sizes = s.sizes := by
  simp [swapRefused]
@[simp] theorem shadowCompare_sizes (s : State) (v : ShadowValue) (discrepancy : Nat) :
    (shadowCompare s v discrepancy).sizes = s.sizes := by
  unfold shadowCompare; dsimp only; (repeat' split) <;> simp

/-! ## Rings -/

@[simp] theorem sendFrame_sizes (s : State) (i m type arg : Nat) (resent : Bool) :
    (sendFrame s i m type arg resent).sizes = s.sizes := by
  simp [sendFrame]
@[simp] theorem creditBack_sizes (s : State) (i : Nat) (o : Outstanding) : (creditBack s i o).sizes = s.sizes := by
  simp [creditBack]
@[simp] theorem loseFrame_sizes (s : State) (i : Nat) (o : Outstanding) : (loseFrame s i o).sizes = s.sizes := by
  simp [loseFrame]
@[simp] theorem enterTwoEnded_sizes (s : State) (i : Nat) : (enterTwoEnded s i).sizes = s.sizes := by
  simp [enterTwoEnded]
@[simp] theorem reportBreak_sizes (s : State) (i : Nat) : (reportBreak s i).sizes = s.sizes := by
  simp [reportBreak]
@[simp] theorem judgeReach_sizes (s : State) (i : Nat) : (judgeReach s i).sizes = s.sizes := by
  simp [judgeReach]
@[simp] theorem commandLink_sizes (s : State) (i pos port code : Nat) : (commandLink s i pos port code).sizes = s.sizes := by
  simp [commandLink]
@[simp] theorem alarmSp_sizes (s : State) (i m : Nat) : (alarmSp s i m).sizes = s.sizes := by
  unfold alarmSp; dsimp only; (repeat' split) <;> simp
@[simp] theorem judgeAlarms_sizes (s : State) (i : Nat) : (judgeAlarms s i).sizes = s.sizes := by
  simp [judgeAlarms]
@[simp] theorem sendEnum_sizes (s : State) (i : Nat) : (sendEnum s i).sizes = s.sizes := by
  simp [sendEnum]
@[simp] theorem enumDone_sizes (s : State) (i : Nat) : (enumDone s i).sizes = s.sizes := by
  unfold enumDone; dsimp only; (repeat' split) <;> simp
@[simp] theorem takeData_sizes (s : State) (i m kind : Nat) (d : RoundData) : (takeData s i m kind d).sizes = s.sizes := by
  simp [takeData]
@[simp] theorem voltJudge_sizes (s : State) (i m : Nat) (d : RoundData) : (voltJudge s i m d).sizes = s.sizes := by
  simp [voltJudge]
@[simp] theorem dataJudge_sizes (s : State) (i m : Nat) : (dataJudge s i m).sizes = s.sizes := by
  simp [dataJudge]
@[simp] theorem closeMonitor_sizes (s : State) (i m : Nat) : (closeMonitor s i m).sizes = s.sizes := by
  unfold closeMonitor; dsimp only; (repeat' split) <;> simp
@[simp] theorem closeRing_sizes (s : State) (i : Nat) : (closeRing s i).sizes = s.sizes := by
  simp [closeRing]
@[simp] theorem ackWith_sizes (s : State) (i m code result : Nat) (f : Monitor → Monitor) :
    (ackWith s i m code result f).sizes = s.sizes := by
  simp [ackWith]
@[simp] theorem cmdFrame_sizes (s : State) (i m : Nat) (own : Bool) (code : Nat) :
    (cmdFrame s i m own code).1.sizes = s.sizes := by
  unfold cmdFrame; dsimp only; (repeat' split) <;> simp
@[simp] theorem startEnum_sizes (s : State) (op : Nat) (q : Req) (i : Nat) (accept : Bool) :
    (startEnum s op q i accept).sizes = s.sizes := by
  simp [startEnum]
@[simp] theorem storeRing_sizes (s : State) (p : Bytes) : (storeRing s p).sizes = s.sizes := by
  unfold storeRing; dsimp only
  rw [retierStr_sizes]
  refine (State.sizes_rings (State.modRing _ _ _) _ rfl).trans ?_
  simp
@[simp] theorem response_sizes (s : State) (i m seq : Nat) : (response s i m seq).1.sizes = s.sizes := by
  unfold response; (repeat' split) <;> simp

/-! ## Cee -/

@[simp] theorem changeBand_sizes (s : State) (i : Nat) (b : Band) (up : Bool) : (changeBand s i b up).sizes = s.sizes := by
  simp [changeBand]
@[simp] theorem startCell_sizes (s : State) (i k tk : Nat) (v : Rat) (vRaw : Nat) :
    (startCell s i k tk v vRaw).sizes = s.sizes := by
  simp [startCell]
@[simp] theorem resetCov_sizes (s : State) (idx : Nat) : (resetCov s idx).sizes = s.sizes := by
  simp [resetCov]
@[simp] theorem measure_sizes (s : State) (n i k : Nat) (x p : List Rat) (pts : List (List Rat)) (v cur : Rat) (t : Int) :
    (measure s n i k x p pts v cur t).sizes = s.sizes := by
  simp [measure]
@[simp] theorem anchorStep_sizes (s : State) (i idx : Nat) (dq : Int) : (anchorStep s i idx dq).sizes = s.sizes := by
  simp [anchorStep]
@[simp] theorem ohmStep_sizes (s : State) (mt : Bytes) (t : Int) (idx : Nat) : (ohmStep s mt t idx).sizes = s.sizes := by
  simp [ohmStep]
@[simp] theorem stepCell_sizes (i tk : Nat) (dInt : Int) (dt cur : Rat) (curMa : Int) (s : State) (k : Nat) :
    (stepCell i tk dInt dt cur curMa s k).sizes = s.sizes := by
  unfold stepCell; dsimp only; (repeat' split) <;> simp
@[simp] theorem booksCheck_sizes (s0 s1 : State) (i : Nat) (dInt : Int) : (booksCheck s0 s1 i dInt).sizes = s1.sizes := by
  simp [booksCheck]
@[simp] theorem stepString_sizes (s : State) (i : Nat) : (stepString s i).sizes = s.sizes := by
  simp [stepString]
@[simp] theorem judgeStale_sizes (s : State) (i : Nat) : (judgeStale s i).sizes = s.sizes := by
  simp [judgeStale]
@[simp] theorem sopString_sizes (optional : Bool) (s : State) (i : Nat) : (sopString optional s i).sizes = s.sizes := by
  simp only [sopString]
  split
  · simp
  · split <;> simp
@[simp] theorem beginJournal_sizes (s : State) : (beginJournal s).sizes = s.sizes := by
  simp [beginJournal]
@[simp] theorem triggerJournal_sizes (s : State) (reason : Nat) : (triggerJournal s reason).sizes = s.sizes := by
  simp [triggerJournal]
@[simp] theorem loadJournal_sizes (s : State) : (loadJournal s).sizes = s.sizes := by
  simp [loadJournal]
@[simp] theorem ageing_sizes (s : State) (idx : Nat) : (ageing s idx).sizes = s.sizes := by
  simp [ageing]
@[simp] theorem restTrack_sizes (s : State) (i : Nat) : (restTrack s i).sizes = s.sizes := by
  simp [restTrack]
@[simp] theorem periodString_sizes (optional : Bool) (s : State) (i : Nat) :
    (periodString optional s i).sizes = s.sizes := by
  simp [periodString]
@[simp] theorem ceeDeadline_sizes (s : State) : (ceeDeadline s).sizes = s.sizes := by
  simp [ceeDeadline]
@[simp] theorem storeEst_sizes (s : State) (p : Bytes) : (storeEst s p).sizes = s.sizes := by
  simp [storeEst]
@[simp] theorem storeSoc_sizes (s : State) (p : Bytes) : (storeSoc s p).sizes = s.sizes := by
  simp [storeSoc]
@[simp] theorem storeReset_sizes (s : State) (p : Bytes) : (storeReset s p).sizes = s.sizes := by
  simp [storeReset]

/-! ## Tpe -/

@[simp] theorem modPair_sizes (s : State) (k : Nat) (f : Pair → Pair) : (modPair s k f).sizes = s.sizes := by
  simp [modPair]
@[simp] theorem stopPair_sizes (s : State) (k : Nat) : (stopPair s k).sizes = s.sizes := by
  simp [stopPair]
@[simp] theorem toneMonitors_sizes (s : State) (i : Nat) (f : Monitor → Monitor) : (toneMonitors s i f).sizes = s.sizes := by
  simp [toneMonitors]
@[simp] theorem ohmResult_sizes (s : State) (idx : Nat) (re : Int) : (ohmResult s idx re).sizes = s.sizes := by
  simp [ohmResult]
@[simp] theorem coreLevels_sizes (s : State) (idx : Nat) : (coreLevels s idx).sizes = s.sizes := by
  simp [coreLevels]
@[simp] theorem takeResults_sizes (s : State) (idx : Nat) (zs : List ToneZ) : (takeResults s idx zs).sizes = s.sizes := by
  unfold takeResults; dsimp only; (repeat' split) <;> simp
@[simp] theorem publishBlock_sizes (s : State) (e : (Nat × Nat × Nat) × ImpBlock) : (publishBlock s e).sizes = s.sizes := by
  simp [publishBlock]

/-! ## Alloc -/

@[simp] theorem dropArmed_sizes (s : State) : (dropArmed s).sizes = s.sizes := by
  unfold dropArmed; (repeat' split) <;> simp
@[simp] theorem rampTo_sizes (s : State) (t : Nat) : (rampTo s t).sizes = s.sizes := by
  unfold rampTo; dsimp only; (repeat' split) <;> simp
@[simp] theorem takeRequest_sizes (s : State) (e : DspEntry) (t : Nat) : (takeRequest s e t).sizes = s.sizes := by
  simp [takeRequest]
@[simp] theorem switchOuter_sizes (vbus : Bool) (s : State) (i : Nat) : (switchOuter vbus s i).sizes = s.sizes := by
  simp [switchOuter]
theorem applyPlan_sizes (s : State) (mode : Nat) (p : Plan) (h : p.str.length = s.dsp.str.length) :
    (applyPlan s mode p).sizes = s.sizes := by
  simp only [applyPlan, State.setDsp]
  rw [State.sizes_dsp _ _ (by simpa)]
  rw [foldl_sizes _ (by simp)]
  rw [State.setLe_sizes _ _ (by simp)]
  split <;> simp
@[simp] theorem takeDue_sizes (s : State) (l : List DspEntry) : (takeDue s l).sizes = s.sizes := by
  induction l generalizing s with
  | nil => simp [takeDue]
  | cons e l ih => unfold takeDue; dsimp only; split <;> simp [ih]

/-! ## Balance -/

@[simp] theorem dropShuttles_sizes (s : State) (i : Nat) (keep : List Transfer) :
    (dropShuttles s i keep).sizes = s.sizes := by
  simp [dropShuttles]
@[simp] theorem planString_sizes (s : State) (i : Nat) : (planString s i).sizes = s.sizes := by
  simp [planString]
@[simp] theorem storeHold_sizes (s : State) (p : Bytes) : (storeHold s p).sizes = s.sizes := by
  simp [storeHold]
@[simp] theorem trimTo_sizes (o : Bool) (l n : Nat) (s : State) : (trimTo o l n s).sizes = s.sizes := by
  induction n generalizing s with
  | zero => simp [trimTo]
  | succ n ih => unfold trimTo; (repeat' split) <;> simp [ih]

/-! ## Can -/

@[simp] theorem canRamWrite_sizes (s : State) (off : Nat) (b : Bytes) : (canRamWrite s off b).sizes = s.sizes := by
  simp [canRamWrite]
@[simp] theorem canSource_sizes (s : State) (c k : Nat) : (canSource s c k).sizes = s.sizes := by
  simp [canSource]
@[simp] theorem canEvent_sizes (s : State) (c b : Nat) : (canEvent s c b).sizes = s.sizes := by
  simp [canEvent]
@[simp] theorem accErr_sizes (s : State) (c : Nat) : (accErr s c).sizes = s.sizes := by
  simp [accErr]
@[simp] theorem writeCtrl_sizes (s : State) (c : Nat) (v : BitVec 32) : (writeCtrl s c v).sizes = s.sizes := by
  simp [writeCtrl]
@[simp] theorem writeTxPut_sizes (s : State) (c put : Nat) : (writeTxPut s c put).sizes = s.sizes := by
  simp [writeTxPut]
@[simp] theorem writeCancel_sizes (s : State) (c : Nat) : (writeCancel s c).sizes = s.sizes := by
  simp [writeCancel]
@[simp] theorem receiveFrame_sizes (s : State) (c : Nat) (f : CanFrame) : (receiveFrame s c f).sizes = s.sizes := by
  unfold receiveFrame; (repeat' split) <;> simp
@[simp] theorem writeRxGet_sizes (s : State) (c k get : Nat) : (writeRxGet s c k get).sizes = s.sizes := by
  simp [writeRxGet]
@[simp] theorem initOnly_sizes (s : State) (c : Nat) (f : Can → Can) : (initOnly s c f).sizes = s.sizes := by
  simp [initOnly]
@[simp] theorem canHeldWrite_sizes (s : State) (c off : Nat) (v : BitVec 32) : (canHeldWrite s c off v).sizes = s.sizes := by
  unfold canHeldWrite; (repeat' split) <;> simp

@[simp] theorem canOwned_sizes (s : State) (a : Bool) (c : Nat) (f : State → State) (h : ∀ s, (f s).sizes = s.sizes) :
    (canOwned s a c f).sizes = s.sizes :=
  canOwned_proj State.sizes s a c f (by simp) h
@[simp] theorem canWrite_sizes (s : State) (app : Bool) (c off : Nat) (v : BitVec 32) :
    (canWrite s app c off v).sizes = s.sizes := by
  unfold canWrite; split <;> simp
@[simp] theorem canRamPut_sizes (s : State) (app : Bool) (off : Nat) (v : BitVec 32) :
    (canRamPut s app off v).sizes = s.sizes := by
  simp [canRamPut]

/-! ## Net -/

@[simp] theorem pushSafe_sizes (s : State) (n : Nat) (b : Bytes) : (pushSafe s n b).sizes = s.sizes := by
  simp [pushSafe]
@[simp] theorem discardFrame_sizes (s : State) (n : Nat) : (discardFrame s n).sizes = s.sizes := by
  simp [discardFrame]
@[simp] theorem classify_sizes (s : State) (n : Nat) (f : EthFrame) : (classify s n f).sizes = s.sizes := by
  unfold classify; (repeat' split) <;> simp

/-! ## Boot -/

/-- BOOT keeps the stored parts and gives the others the default lists of the population. -/
theorem bootState_population (s : State) (cold : Bool) (cause : Nat) (h : s.sizes = population) :
    (bootState s cold cause).sizes = population := by
  have hr : ∀ r, (bootRing cold r).mons.length = r.mons.length := by simp [bootRing]
  have hc : ∀ t c, (bootChan t c).sizes = [8, 16] := by simp [bootChan]
  rw [population_eq] at h ⊢
  simp only [State.sizes, Saf.sizes, List.cons_append, List.nil_append] at h
  simp only [bootState, State.sizes]
  simp_all [bootHpr, Function.comp_def]
theorem enterBoot_population (s : State) (cause : Nat) (h : s.sizes = population) :
    (enterBoot s cause).sizes = population := by
  have hb := bootState_population s (cause == 0) cause h
  unfold enterBoot; dsimp only
  simp [hb]
@[simp] theorem flushUpdate_sizes (s : State) : (flushUpdate s).sizes = s.sizes := by
  simp [flushUpdate]
@[simp] theorem flushBuffer_sizes (s : State) : (flushBuffer s).sizes = s.sizes := by
  simp [flushBuffer]
@[simp] theorem writeback_sizes (s : State) : (writeback s).sizes = s.sizes := by
  simp [writeback]
@[simp] theorem disconnectAll_sizes (s : State) (cause : Nat) : (disconnectAll s cause).sizes = s.sizes := by
  unfold disconnectAll
  refine foldl_sizes _ (fun s i => ?_) _ _
  split <;> simp
@[simp] theorem goOff_sizes (s : State) (cause : Nat) (keep : Bool) : (goOff s cause keep).sizes = s.sizes := by
  unfold goOff; dsimp only
  refine (State.sizes_hpr (setUnit _ _ _) _ _ _ rfl).trans ?_
  rw [setUnit_sizes, setPower_sizes, State.setSeq_sizes _ _ (by simp)]
  refine (State.sizes_rack (List.foldl _ _ _) _ (by simp)).trans ?_
  simp

/-! ## PeatLog -/

@[simp] theorem clearLog_sizes (s : State) (port : Nat) : (clearLog s port).sizes = s.sizes := by
  simp [clearLog]

/-! ## Seq -/

@[simp] theorem beginState_sizes (s : State) (n : Nat) : (beginState s n).sizes = s.sizes := by
  unfold beginState; dsimp only; split <;> simp
@[simp] theorem settle_sizes (n : Nat) (s : State) : (settle n s).sizes = s.sizes := by
  induction n generalizing s with
  | zero => rfl
  | succ n ih => unfold settle; dsimp only; (repeat' split) <;> simp [ih]
@[simp] theorem settled_sizes (s : State) : (settled s).sizes = s.sizes := by
  simp [settled]
theorem beginPowerup_sizes (s : State) (system : Bool) (h : s.seq.rails.length = 32) :
    (beginPowerup s system).sizes = s.sizes := by
  unfold beginPowerup; dsimp only
  rw [setPower_sizes, setUnit_sizes]
  split <;> rw [State.setSeq_sizes _ _ (by simp), State.setSeq, State.sizes_seq _ _ (by simp [h])]
theorem serveOn_sizes (s : State) (src : OnSource) (h : s.seq.rails.length = 32) : (serveOn s src).sizes = s.sizes := by
  unfold serveOn; (repeat' split) <;> simp [beginPowerup_sizes, h]
theorem onRequest_sizes (s : State) (src : OnSource) (h : s.seq.rails.length = 32) : (onRequest s src).sizes = s.sizes := by
  unfold onRequest; dsimp only; (repeat' split) <;> simp [serveOn_sizes, h]
@[simp] theorem powerUpFailure_sizes (s : State) : (powerUpFailure s).sizes = s.sizes := by
  simp [powerUpFailure]
@[simp] theorem railOn_sizes (s : State) (e : Bytes) : (railOn s e).sizes = s.sizes := by
  simp [railOn]
@[simp] theorem railOff_sizes (s : State) (e : Bytes) : (railOff s e).sizes = s.sizes := by
  simp [railOff]
@[simp] theorem releaseUnready_sizes (s : State) : (releaseUnready s).sizes = s.sizes := by
  simp [releaseUnready]
@[simp] theorem preOffDone_sizes (s : State) : (preOffDone s).sizes = s.sizes := by
  simp [preOffDone]
@[simp] theorem startDescent_sizes (s : State) (n : Nat) (system : Bool) : (startDescent s n system).sizes = s.sizes := by
  simp [startDescent]
@[simp] theorem offRequest_sizes (s : State) (system : Bool) : (offRequest s system).sizes = s.sizes := by
  unfold offRequest; (repeat' split) <;> simp
@[simp] theorem railFault_sizes (s : State) (code cause : Nat) (rail : Option Nat) :
    (railFault s code cause rail).sizes = s.sizes := by
  simp [railFault]

/-! ## Sys -/

@[simp] theorem updateEnergy_sizes (s : State) (vbak : Nat) : (updateEnergy s vbak).sizes = s.sizes := by
  simp [updateEnergy]
@[simp] theorem setPolicy_sizes (s : State) (p : Bytes) : (setPolicy s p).sizes = s.sizes := by
  simp [setPolicy]

/-! ## Power -/

@[simp] theorem enterHoldup_sizes (s : State) : (enterHoldup s).sizes = s.sizes := by
  simp [enterHoldup]
@[simp] theorem abandonRamps_sizes (s : State) : (abandonRamps s).sizes = s.sizes := by
  simp [abandonRamps]
@[simp] theorem wakeTsu_sizes (s : State) : (wakeTsu s).sizes = s.sizes := by
  unfold wakeTsu; dsimp only; (repeat' split) <;> simp
@[simp] theorem leaveDormant_sizes (s : State) : (leaveDormant s).sizes = s.sizes := by
  simp [leaveDormant]
@[simp] theorem resumeActive_sizes (s : State) : (resumeActive s).sizes = s.sizes := by
  simp [resumeActive]
@[simp] theorem retryWrite_sizes (s : State) (k : Nat) : (retryWrite s k).sizes = s.sizes := by
  unfold retryWrite
  split
  · simp
  · have put (s : State) (c : Channel) : State.sizes (match (s.chan c).set with
        | none => s
        | some b =>
          if ((newerSlot (s.chan c).slot0 (s.chan c).slot1).map (·.body)) == some b then s else s.modChan c (putSlot b)) =
        s.sizes := by
      split
      · rfl
      · split <;> simp
    exact (put _ _).trans ((put _ _).trans (by simp))
  · split <;> simp
  · simp
@[simp] theorem wakeUp_sizes (s : State) (w : WakeCause) : (wakeUp s w).sizes = s.sizes := by
  simp [wakeUp]
@[simp] theorem loopStops_sizes (s : State) : (loopStops s).sizes = s.sizes := by
  simp [loopStops]
@[simp] theorem supStart_sizes (s : State) (cause : Nat) : (supStart s cause).sizes = s.sizes := by
  simp [supStart]

/-! ## Strings -/

@[simp] theorem beginTrans_sizes (s : State) (op : Nat) (q : Req) (i : Nat) : (beginTrans s op q i).sizes = s.sizes := by
  simp [beginTrans]
@[simp] theorem leaveRegulating_sizes (s : State) (i : Nat) (dest : StrState) :
    (leaveRegulating s i dest).sizes = s.sizes := by
  simp [leaveRegulating]
@[simp] theorem leDeadline_sizes (s : State) (n : Nat) : (leDeadline s n).sizes = s.sizes := by
  simp [leDeadline]

/-! ## Time -/

@[simp] theorem modTrig_sizes (s : State) (n : Nat) (f : Trigger → Trigger) : (modTrig s n f).sizes = s.sizes := by
  simp [modTrig]
@[simp] theorem modCap_sizes (s : State) (n : Nat) (f : Capture → Capture) : (modCap s n f).sizes = s.sizes := by
  simp [modCap]
@[simp] theorem modPtp_sizes (s : State) (n : Nat) (f : PtpPort → PtpPort) : (modPtp s n f).sizes = s.sizes := by
  simp [modPtp]

@[simp] theorem inDomain_sizes (s : State) (n d : Nat) (f : State → State) (h : ∀ s, (f s).sizes = s.sizes) :
    (inDomain s n d f).sizes = s.sizes :=
  inDomain_proj State.sizes s n d f (by simp) h
@[simp] theorem fire_sizes (s : State) (n : Nat) (late : Bool) : (fire s n late).sizes = s.sizes := by
  simp [fire]
@[simp] theorem armTrigger_sizes (s : State) (n : Nat) : (armTrigger s n).sizes = s.sizes := by
  simp [armTrigger]
@[simp] theorem tsuAccErr_sizes (s : State) : (tsuAccErr s).sizes = s.sizes := by
  simp [tsuAccErr]
@[simp] theorem writeTrigCtrl_sizes (s : State) (n : Nat) (v : BitVec 32) : (writeTrigCtrl s n v).sizes = s.sizes := by
  simp [writeTrigCtrl]
@[simp] theorem popCap_sizes (s : State) (n : Nat) : (popCap s n).sizes = s.sizes := by
  simp [popCap]
@[simp] theorem writeCapCtrl_sizes (s : State) (n : Nat) (v : Nat) : (writeCapCtrl s n v).sizes = s.sizes := by
  simp [writeCapCtrl]
@[simp] theorem tsuWrite_sizes (s : State) (app : Bool) (off : Nat) (v : BitVec 32) :
    (tsuWrite s app off v).sizes = s.sizes := by
  simp [tsuWrite]
@[simp] theorem setSourceFrom_sizes (was s : State) (new : Option TimeSource) :
    (setSourceFrom was s new).sizes = s.sizes := by
  simp only [setSourceFrom]
  split
  · rfl
  · refine State.setTsu_sizes _ _ fun x => ?_
    (repeat' split) <;> simp [toLocking]
@[simp] theorem setSource_sizes (s : State) (new : Option TimeSource) : (setSource s new).sizes = s.sizes := by
  simp [setSource]
@[simp] theorem reselectFrom_sizes (was s : State) : (reselectFrom was s).sizes = s.sizes := by
  simp [reselectFrom]
@[simp] theorem reselect_sizes (s : State) : (reselect s).sizes = s.sizes := by
  simp [reselect]
@[simp] theorem stepTrigger_sizes (s : State) (n : Nat) : (stepTrigger s n).sizes = s.sizes := by
  simp [stepTrigger]
@[simp] theorem stepTime_sizes (s : State) (new : Nat) : (stepTime s new).sizes = s.sizes := by
  simp [stepTime]
@[simp] theorem removeOffset_sizes (s : State) (offset : Int) : (removeOffset s offset).sizes = s.sizes := by
  simp [removeOffset]
@[simp] theorem storeTim_sizes (was : State) (p : Bytes) : (storeTim was p).sizes = was.sizes := by
  simp [storeTim]

/-! ## Update -/

@[simp] theorem beginXfer_sizes (s : State) (q : Req) : (beginXfer s q).sizes = s.sizes := by
  unfold beginXfer; dsimp only; (repeat' split) <;> simp
@[simp] theorem eraseTarget_sizes (s : State) (p : Nat) : (eraseTarget s p).sizes = s.sizes := by
  simp [eraseTarget]
@[simp] theorem loadModel_sizes (s : State) (n : Nat) (b : Bytes) : (loadModel s n b).sizes = s.sizes := by
  simp [loadModel]
@[simp] theorem loadDescs_sizes (s : State) (l : List Bytes) : ((loadDescs s l).getD s).sizes = s.sizes := by
  suffices h : ∀ u, loadDescs s l = some u → u.sizes = s.sizes by
    cases e : loadDescs s l with
    | none => rfl
    | some u => exact h u e
  induction l generalizing s with
  | nil => simp [loadDescs]
  | cons b l ih =>
    intro u h
    unfold loadDescs at h; dsimp only at h; split at h
    · cases h
    · simpa using ih _ u h

@[simp] theorem applyDirect_sizes (s : State) (x : Xfer) (target : Nat) : (applyDirect s x target).sizes = s.sizes := by
  unfold applyDirect; dsimp only; (repeat' split) <;> simp
@[simp] theorem startHandover_sizes (s : State) (a : Activation) : (startHandover s a).sizes = s.sizes := by
  simp [startHandover]
@[simp] theorem startSp_sizes (s : State) (a : Activation) : (startSp s a).sizes = s.sizes := by
  simp [startSp]
@[simp] theorem recoverImage_sizes (s : State) (t : Nat) : (recoverImage s t).sizes = s.sizes := by
  simp [recoverImage]
theorem activate_population (s : State) (q : Req) (h : s.sizes = population) : (activate s q).sizes = population := by
  unfold activate; dsimp only; (repeat' split) <;> simp [enterBoot_population, h]
@[simp] theorem enterRecovery_sizes (s : State) (cause : Nat) : (enterRecovery s cause).sizes = s.sizes := by
  simp [enterRecovery]
@[simp] theorem toRecovery_sizes (s : State) : (toRecovery s).sizes = s.sizes := by
  simp [toRecovery]
@[simp] theorem noImage_sizes (s : State) (p : Nat) : (noImage s p).sizes = s.sizes := by
  simp [noImage]
@[simp] theorem fallBack_sizes (s : State) (p : Nat) : (fallBack s p).sizes = s.sizes := by
  unfold fallBack; (repeat' split) <;> simp
@[simp] theorem windowExceeded_sizes (s : State) (a : Activation) : (windowExceeded s a).sizes = s.sizes := by
  unfold windowExceeded; dsimp only; (repeat' split) <;> simp
@[simp] theorem confirm_sizes (s : State) (p : Nat) : (confirm s p).sizes = s.sizes := by
  simp [confirm]
@[simp] theorem bootTrial_sizes (s : State) (p : Nat) : (bootTrial s p).sizes = s.sizes := by
  simp [bootTrial]
@[simp] theorem bootBank_sizes (s : State) (p : Nat) : (bootBank s p).sizes = s.sizes := by
  simp [bootBank]
@[simp] theorem fwFrame_sizes (s : State) (i m op result : Nat) (f : MonFw → MonFw) :
    (fwFrame s i m op result f).sizes = s.sizes := by
  simp [fwFrame]

/-! ## Hostif -/

@[simp] theorem hprErr_sizes (s : State) (port : Port) (bit : Nat) : (hprErr s port bit).sizes = s.sizes := by
  simp [hprErr]
@[simp] theorem postSlots_sizes (s : State) (port : Port) (mask : BitVec 16) : (postSlots s port mask).sizes = s.sizes := by
  simp [postSlots]
@[simp] theorem clearDone_sizes (s : State) (port : Port) (mask : BitVec 16) : (clearDone s port mask).sizes = s.sizes := by
  simp [clearDone]
@[simp] theorem clearErr_sizes (s : State) (mask : BitVec 32) : (clearErr s mask).sizes = s.sizes := by
  simp [clearErr]
@[simp] theorem hostWrite_sizes (s : State) (off : Nat) (v : BitVec 32) : (hostWrite s off v).sizes = s.sizes := by
  unfold hostWrite; (repeat' split) <;> simp
@[simp] theorem appWrite_sizes (s : State) (off : Nat) (v : BitVec 32) : (appWrite s off v).sizes = s.sizes := by
  unfold appWrite; (repeat' split) <;> simp
@[simp] theorem hostRead_sizes (s : State) (off : Nat) : (hostRead s off).1.sizes = s.sizes := by
  unfold hostRead; (repeat' split) <;> simp
@[simp] theorem writeOwn_sizes (s : State) (port : Port) (d v : Nat) : (writeOwn s port d v).1.sizes = s.sizes := by
  unfold writeOwn; dsimp only; (repeat' split) <;> simp
@[simp] theorem writeBuf_sizes (s : State) (port : Port) (o : Nat) (b : Byte) : (writeBuf s port o b).1.sizes = s.sizes := by
  unfold writeBuf; (repeat' split) <;> simp
@[simp] theorem winWrite_sizes (s : State) (port : Port) (o : Nat) (b : Bytes) :
    (winWrite s port o b).1.sizes = s.sizes := by
  induction b generalizing s o with
  | nil => simp [winWrite]
  | cons a r ih => unfold winWrite; dsimp only; (repeat' split) <;> simp [ih]
@[simp] theorem writeWindow_sizes (s : State) (port : Port) (o : Nat) (b : Bytes) :
    (writeWindow s port o b).1.sizes = s.sizes := by
  simp [writeWindow]
@[simp] theorem readWords_sizes (s : State) (off n : Nat) : (readWords s off n).1.sizes = s.sizes := by
  induction n generalizing s off with
  | zero => simp [readWords]
  | succ n ih => simp [readWords, ih]
@[simp] theorem readRegion_sizes (s : State) (a n : Nat) : (readRegion s a n).1.sizes = s.sizes := by
  unfold readRegion; (repeat' split) <;> simp
@[simp] theorem writeWords_sizes (s : State) (off : Nat) (b : Bytes) : (writeWords s off b).sizes = s.sizes := by
  fun_induction writeWords s off b with
  | case1 s off a b c d r ih => simpa using ih
  | case2 => rfl
@[simp] theorem writeSlots_sizes (s : State) (a : Nat) (b : Bytes) : (writeSlots s a b).sizes = s.sizes := by
  induction b generalizing s a with
  | nil => rfl
  | cons x r ih => unfold writeSlots; dsimp only; split <;> simp [ih]
@[simp] theorem writeRegion_sizes (s : State) (a : Nat) (b : Bytes) : (writeRegion s a b).sizes = s.sizes := by
  simp [writeRegion]
@[simp] theorem enterSlot_sizes (s : State) (n client net : Nat) (body : Bytes) :
    (enterSlot s n client net body).sizes = s.sizes := by
  simp [enterSlot]
@[simp] theorem mgmtSend_sizes (s : State) (net k type : Nat) (body : Bytes) :
    (mgmtSend s net k type body).sizes = s.sizes := by
  simp [mgmtSend]
@[simp] theorem mgmtError_sizes (s : State) (net k code : Nat) : (mgmtError s net k code).sizes = s.sizes := by
  simp [mgmtError]
@[simp] theorem mgmtResource_sizes (s : State) (net k : Nat) (body : Bytes) :
    (mgmtResource s net k body).sizes = s.sizes := by
  simp [mgmtResource]

@[simp] theorem mgmtFrame_sizes (s : State) (net src : Nat) (b : Bytes) (ty : Nat) (run : State → Nat → Bytes → State)
    (h : ∀ s k b, (run s k b).sizes = s.sizes) : (mgmtFrame s net src b ty run).sizes = s.sizes := by
  unfold mgmtFrame; (repeat' split) <;> simp [h]

/-! ## Peer -/

@[simp] theorem applyRecord_sizes (op : Nat) (p : Bytes) (s : State) : (applyRecord op p s).sizes = s.sizes := by
  unfold applyRecord; (repeat' split) <;> simp
@[simp] theorem takeHello_sizes (s : State) (m : PeerMsg) (identity variant floor : Nat)
    (levels : List (Nat × Nat × Nat × Nat)) (crc : Nat) :
    (takeHello s m identity variant floor levels crc).sizes = s.sizes := by
  simp [takeHello]
@[simp] theorem mirrorString_sizes (codes : List Nat) (s : State) (i : Nat) : (mirrorString codes s i).sizes = s.sizes := by
  unfold mirrorString; (repeat' split) <;> simp
@[simp] theorem takeState_sizes (s : State) (m : PeerMsg) (strings tiers : List Nat) (vin : Bool) (e : List Nat) :
    (takeState s m strings tiers vin e).sizes = s.sizes := by
  simp [takeState]
@[simp] theorem takeDispatch_sizes (s : State) (m : PeerMsg) (target : Int) (inForce : Option (Bytes × Nat × Bool))
    (queue : List (Bytes × Nat × Bool)) : (takeDispatch s m target inForce queue).sizes = s.sizes := by
  simp [takeDispatch]
@[simp] theorem takeSwapRequest_sizes (s : State) (m : PeerMsg) (ts : Nat) : (takeSwapRequest s m ts).sizes = s.sizes := by
  simp [takeSwapRequest]
@[simp] theorem takeMeas_sizes (s : State) (m : PeerMsg) (rIso cE : Nat) (side : FaultSide) (below valid off : Bool) :
    (takeMeas s m rIso cE side below valid off).sizes = s.sizes := by
  simp [takeMeas]
@[simp] theorem takeBulk_sizes (s : State) (b : BulkPart) : (takeBulk s b).sizes = s.sizes := by
  unfold takeBulk; (repeat' split) <;> simp
@[simp] theorem takeBody_sizes (s : State) (m : PeerMsg) : (takeBody s m).sizes = s.sizes := by
  unfold takeBody; (repeat' split) <;> simp
@[simp] theorem peerValid_sizes (s : State) (m : PeerMsg) : (peerValid s m).sizes = s.sizes := by
  simp [peerValid]

end Sys2Proof.Machine
end

section
/-! SUPPORT. What every command does to the queue, the variant, the time and the population. -/

namespace Sys2Proof.Machine

/-- `u` may come after `s`: the queue and the variant as before, time not earlier, the population kept. -/
@[simp] def Later (s u : State) : Prop :=
  u.pending = s.pending ∧ u.variant = s.variant ∧ s.clk ≤ u.clk ∧ (s.sizes = population → u.sizes = population)

theorem Later.refl (s : State) : Later s s := ⟨rfl, rfl, Nat.le_refl _, id⟩

theorem Later.trans {s u v : State} (h₁ : Later s u) (h₂ : Later u v) : Later s v := by
  obtain ⟨hq, hv, ht, hp⟩ := h₁
  obtain ⟨hq', hv', ht', hp'⟩ := h₂
  exact ⟨hq'.trans hq, hv'.trans hv, Nat.le_trans ht ht', hp' ∘ hp⟩

/-- An operation that keeps the three fields and the sizes. -/
theorem Later.of_keeps {s u : State} (hq : u.pending = s.pending) (hv : u.variant = s.variant) (ht : u.clk = s.clk)
    (hn : u.sizes = s.sizes) : Later s u :=
  ⟨hq, hv, Nat.le_of_eq ht.symm, fun h => hn.trans h⟩

@[simp] theorem State.clk_le_advance (s : State) (t : Nat) : s.clk ≤ (s.advance t).clk := by simp [State.advance]

theorem State.later_advance (s : State) (t : Nat) : Later s (s.advance t) :=
  ⟨rfl, rfl, by simp, fun h => by simp [h]⟩

theorem Later.after {s u v : State} (h₂ : Later u v) (h₁ : Later s u) : Later s v := h₁.trans h₂

/-- A fold goes where each of its steps may go. -/
theorem Later.foldl {β : Type} {f : State → β → State} (h : ∀ s b, Later s (f s b)) (l : List β) :
    ∀ s : State, Later s (l.foldl f s) := by
  induction l with
  | nil => exact Later.refl
  | cons b l ih => exact fun s => (h s b).trans (ih _)

/-- The command answers a next state, and one that may come after `s`. -/
def GoesOn (s : State) (o : Out State) : Prop := ∃ u, o = .next u ∧ Later s u

@[simp] theorem goesOn_next (s u : State) : GoesOn s (.next u) ↔ Later s u := by
  simp [GoesOn]

/-- An event brings time to `t`, then runs. -/
theorem goesOn_at {s u : State} (t : Nat) (h : Later (s.advance t) u) : GoesOn s (.next u) :=
  (goesOn_next _ _).2 ((s.later_advance t).trans h)

theorem GoesOn.of_later {s u : State} {o : Out State} (h : Later s u) (ho : GoesOn u o) : GoesOn s o := by
  obtain ⟨v, e, hv⟩ := ho
  exact ⟨v, e, h.trans hv⟩

/-- A host command goes on when what it runs does: every other way it can end only touches the host interface, the log and
the time of the newest command. -/
theorem command_goesOn_of_later {sp : Spec} {run : State → Req → State} {q : Req} {s : State}
    (h : ∀ s, Later s (run s q)) : GoesOn s (command sp run q s) := by
  obtain ⟨u, hu⟩ := command_next sp run q s
  refine ⟨u, hu, ?_⟩
  obtain rfl | ⟨d, rfl⟩ | rfl | ⟨st, d, -, rfl⟩ | ⟨-, rfl⟩ := command_cases hu
  · exact Later.refl _
  · exact .of_keeps (by simp) (by simp) (by simp) (by simp)
  · exact .of_keeps (by simp) (by simp) (by simp) (by simp)
  · exact .of_keeps (by simp) (by simp) (by simp) (by simp)
  · exact (Later.of_keeps (by simp) (by simp) (by simp) (by simp)).trans (h _)

@[simp] theorem command_goesOn (sp : Spec) (run : State → Req → State) (q : Req) (s : State)
    (h : ∀ s, (run s q).pending = s.pending ∧ (run s q).variant = s.variant ∧ (run s q).clk = s.clk ∧
      (run s q).sizes = s.sizes) : GoesOn s (command sp run q s) :=
  command_goesOn_of_later fun s => by
    obtain ⟨hq, hv, ht, hn⟩ := h s
    exact .of_keeps hq hv ht hn

@[simp] theorem getI_goesOn (op : Nat) (v pop all : Bool) (n : State → Nat) (resp : State → Nat → Bytes) (q : Req)
    (s : State) : GoesOn s (getI op v pop all n resp q s) := by
  unfold getI; simp
@[simp] theorem getNone_goesOn (op : Nat) (v : Bool) (resp : State → Bytes) (q : Req) (s : State) :
    GoesOn s (getNone op v resp q s) := by
  unfold getNone; simp
@[simp] theorem getW_goesOn (op : Nat) (v : Bool) (resp : State → Bytes) (q : Req) (s : State) :
    GoesOn s (getW op v resp q s) := by
  unfold getW; simp
@[simp] theorem getC_goesOn (op : Nat) (v cells : Bool) (n : State → Nat) (resp : State → Nat → Bytes) (q : Req)
    (s : State) : GoesOn s (getC op v cells n resp q s) := by
  unfold getC; simp
@[simp] theorem mapM_goesOn (op off size : Nat) (q : Req) (s : State) : GoesOn s (mapM op off size q s) := by
  unfold mapM; dsimp only
  refine command_goesOn _ _ _ _ fun s => ?_
  split <;> simp
@[simp] theorem getByte_goesOn (op n : Nat) (resp : State → Nat → Bytes) (q : Req) (s : State) :
    GoesOn s (getByte op n resp q s) := by
  unfold getByte; simp
@[simp] theorem canGetI_goesOn (op : Nat) (resp : State → Nat → Bytes) (q : Req) (s : State) :
    GoesOn s (canGetI op resp q s) := by
  unfold canGetI; simp
@[simp] theorem setR_goesOn (op size : Nat) (fs : List Field) (pop chk : State → Bytes → Option Nat)
    (store : State → Bytes → State) (q : Req) (s : State) (h : ∀ s, (store s q.payload).pending = s.pending ∧
      (store s q.payload).variant = s.variant ∧ (store s q.payload).clk = s.clk ∧ (store s q.payload).sizes = s.sizes) :
    GoesOn s (setR op size fs pop chk store q s) := by
  unfold setR; simp [h]
@[simp] theorem strCommand_goesOn (op : Nat) (bad : State → Nat → Option Nat) (run : State → Req → Nat → State) (q : Req)
    (s : State) (h : ∀ s i, (run s q i).pending = s.pending ∧ (run s q i).variant = s.variant ∧ (run s q i).clk = s.clk ∧
      (run s q i).sizes = s.sizes) : GoesOn s (strCommand op bad run q s) := by
  unfold strCommand; simp [h]
@[simp] theorem efCommand_goesOn (op : Nat) (state : State → Nat → Option Nat) (run : State → Req → Nat → State) (q : Req)
    (s : State) (h : ∀ s i, (run s q i).pending = s.pending ∧ (run s q i).variant = s.variant ∧ (run s q i).clk = s.clk ∧
      (run s q i).sizes = s.sizes) : GoesOn s (efCommand op state run q s) := by
  unfold efCommand; simp [h]

/-! ## Operations under a condition: those that write the lists of the population anew -/

theorem rails_length {s : State} (h : s.sizes = population) : s.seq.rails.length = 32 := by
  rw [population_eq] at h
  simp_all [State.sizes]

theorem dsp_str_length {s : State} (h : s.sizes = population) : s.dsp.str.length = 8 := by
  rw [population_eq] at h
  simp_all [State.sizes]

theorem beginPowerup_later (s : State) (system : Bool) : Later s (beginPowerup s system) :=
  ⟨by simp, by simp, by simp, fun h => by rw [beginPowerup_sizes s system (rails_length h), h]⟩

theorem serveOn_later (s : State) (src : OnSource) : Later s (serveOn s src) :=
  ⟨by simp, by simp, by simp, fun h => by rw [serveOn_sizes s src (rails_length h), h]⟩

theorem onRequest_later (s : State) (src : OnSource) : Later s (onRequest s src) :=
  ⟨by simp, by simp, by simp, fun h => by rw [onRequest_sizes s src (rails_length h), h]⟩

theorem enterBoot_later (s : State) (cause : Nat) : Later s (enterBoot s cause) :=
  ⟨by simp, by simp, by simp, enterBoot_population s cause⟩

theorem activate_later (s : State) (q : Req) : Later s (activate s q) :=
  ⟨by simp, by simp, by simp, activate_population s q⟩

theorem applyPlan_later (s : State) (mode : Nat) (p : Plan) (h : p.str.length = 8) : Later s (applyPlan s mode p) :=
  ⟨by simp, by simp, by simp, fun hp => by rw [applyPlan_sizes s mode p (h.trans (dsp_str_length hp).symm), hp]⟩

@[simp] theorem powerPlan_str_length (s : State) (b : Bytes) (mode : Nat) (target : Rat) :
    (powerPlan s b mode target).str.length = 8 := by
  simp [powerPlan]

@[simp] theorem planOf_str_length (s : State) (b : Bytes) (mode : Nat) (target vTarget : Rat) :
    (planOf s b mode target vTarget).str.length = 8 := by
  unfold planOf; split <;> simp [vbusPlan]

/-! ## Operations that answer the state beside a result -/

theorem response_later {s u : State} {i m seq : Nat} {o : Option Outstanding} (h : response s i m seq = (u, o)) :
    Later s u := by
  have e : Later s (response s i m seq).1 := by simp
  rwa [h] at e

theorem cmdFrame_later {s u : State} {i m code : Nat} {own b : Bool} (h : cmdFrame s i m own code = (u, b)) : Later s u := by
  have e : Later s (cmdFrame s i m own code).1 := by simp
  rwa [h] at e

theorem portCmd_later (t i m : Nat) (own : Bool) (port code : Nat) (off : Bool) (s : State) :
    Later s (portCmd t i m own port code off s) := by
  unfold portCmd; dsimp only
  refine (s.later_advance t).trans ?_
  split
  next u h => exact cmdFrame_later h
  next u h => exact (cmdFrame_later h).trans (by simp)

theorem admitWaiting_later (n : Nat) (s : State) : Later s (admitWaiting s n) := by
  induction n generalizing s with
  | zero => exact Later.refl s
  | succ n ih =>
    unfold admitWaiting
    split
    · exact (ih _).after (by simp)
    · exact Later.refl s

/-- A frame is answered by the interface itself, or by what runs on it. -/
theorem mgmtFrame_later (s : State) (net src : Nat) (b : Bytes) (ty : Nat) (run : State → Nat → Bytes → State)
    (h : ∀ s k b, Later s (run s k b)) : Later s (mgmtFrame s net src b ty run) := by
  unfold mgmtFrame
  split
  · exact Later.refl s
  split
  · simp
  · simp
  · dsimp only
    split
    · exact (h _ _ _).after (by simp)
    · (repeat' split) <;> simp

/-! ## The rings -/

@[simp] theorem bridgeCopy_mons_length (now claim : Nat) (b : BeaconCopy) (r : Ring) :
    (bridgeCopy now claim b r).mons.length = r.mons.length := by
  simp [bridgeCopy]

@[simp] theorem copyMaps_mons (b : BeaconCopy) (r : Ring) : (copyMaps b r).mons = r.mons := by
  unfold copyMaps; (repeat' split) <;> rfl

@[simp] theorem ringTrigger_mons_length (now tsu : Nat) (r : Ring) :
    (ringTrigger now tsu r).mons.length = r.mons.length := by
  unfold ringTrigger; (repeat' split) <;> simp

end Sys2Proof.Machine
end

section
/-! SUPPORT. Every command goes on, one law per command, in the order of the model's files. -/

namespace Sys2Proof.Machine

/-! ## Icu -/

@[simp] theorem execIcuDecision_goesOn (t : Nat) (g : Target) (s : State) : GoesOn s (execIcuDecision t g s) := by
  unfold execIcuDecision; simp
@[simp] theorem execIcuClaimRead_goesOn (t : Nat) (g : Target) (s : State) : GoesOn s (execIcuClaimRead t g s) := by
  unfold execIcuClaimRead; simp
@[simp] theorem execIcuCompleteWrite_goesOn (t : Nat) (g : Target) (value : BitVec 32) (s : State) :
    GoesOn s (execIcuCompleteWrite t g value s) := by
  unfold execIcuCompleteWrite; simp
@[simp] theorem execIcuPendSet_goesOn (t : Nat) (g : Target) (w : Nat) (mask : BitVec 32) (s : State) :
    GoesOn s (execIcuPendSet t g w mask s) := by
  unfold execIcuPendSet; simp
@[simp] theorem execIcuPendClr_goesOn (t : Nat) (g : Target) (w : Nat) (mask : BitVec 32) (s : State) :
    GoesOn s (execIcuPendClr t g w mask s) := by
  unfold execIcuPendClr; simp
@[simp] theorem execIcuMaskSet_goesOn (t : Nat) (g : Target) (w : Nat) (mask : BitVec 32) (s : State) :
    GoesOn s (execIcuMaskSet t g w mask s) := by
  unfold execIcuMaskSet; simp
@[simp] theorem execIcuMaskClr_goesOn (t : Nat) (g : Target) (w : Nat) (mask : BitVec 32) (s : State) :
    GoesOn s (execIcuMaskClr t g w mask s) := by
  unfold execIcuMaskClr; simp
@[simp] theorem execIcuSourceEdge_goesOn (t : Nat) (g : Target) (n : Nat) (s : State) :
    GoesOn s (execIcuSourceEdge t g n s) := by
  unfold execIcuSourceEdge; simp
@[simp] theorem execIcuTgtEnWrite_goesOn (t : Nat) (g : Target) (value : BitVec 32) (s : State) :
    GoesOn s (execIcuTgtEnWrite t g value s) := by
  unfold execIcuTgtEnWrite; simp
@[simp] theorem execHoldOffExpiry_goesOn (t : Nat) (g : Target) (grp : Nat) (s : State) :
    GoesOn s (execHoldOffExpiry t g grp s) := by
  unfold execHoldOffExpiry; simp
@[simp] theorem execStrandedTimeout_goesOn (t : Nat) (g : Target) (n : Nat) (s : State) :
    GoesOn s (execStrandedTimeout t g n s) := by
  unfold execStrandedTimeout; simp
@[simp] theorem execSourceRetarget_goesOn (t : Nat) (n : Nat) (g : Target) (s : State) :
    GoesOn s (execSourceRetarget t n g s) := by
  unfold execSourceRetarget; simp

/-! ## AppCore -/

@[simp] theorem execAppStart_goesOn (t : Nat) (s : State) : GoesOn s (execAppStart t s) := by
  unfold execAppStart; simp
@[simp] theorem execAppRestart_goesOn (t : Nat) (cause : Nat) (s : State) : GoesOn s (execAppRestart t cause s) := by
  unfold execAppRestart; simp
@[simp] theorem execMonVersion_goesOn (t : Nat) (s : State) : GoesOn s (execMonVersion t s) := by
  unfold execMonVersion; simp
@[simp] theorem execMonTime_goesOn (t : Nat) (s : State) : GoesOn s (execMonTime t s) := by
  unfold execMonTime; simp
@[simp] theorem execMonTimer_goesOn (t : Nat) (us : Nat) (s : State) : GoesOn s (execMonTimer t us s) := by
  unfold execMonTimer; simp
@[simp] theorem execWdogSet_goesOn (t : Nat) (ms : Nat) (s : State) : GoesOn s (execWdogSet t ms s) := by
  unfold execWdogSet; simp
@[simp] theorem execWdogFeed_goesOn (t : Nat) (s : State) : GoesOn s (execWdogFeed t s) := by
  unfold execWdogFeed; simp
@[simp] theorem execMonRestart_goesOn (t : Nat) (s : State) : GoesOn s (execMonRestart t s) := by
  unfold execMonRestart; simp
@[simp] theorem execMonitorTimerFire_goesOn (t : Nat) (s : State) : GoesOn s (execMonitorTimerFire t s) := by
  unfold execMonitorTimerFire; dsimp only; (repeat' split) <;> simp
@[simp] theorem execWatchdogWarning_goesOn (t : Nat) (s : State) : GoesOn s (execWatchdogWarning t s) := by
  unfold execWatchdogWarning; simp
@[simp] theorem execWatchdogExpiry_goesOn (t : Nat) (s : State) : GoesOn s (execWatchdogExpiry t s) := by
  unfold execWatchdogExpiry; simp
@[simp] theorem execAccessFault_goesOn (t : Nat) (addr size : Nat) (write : Bool) (s : State) :
    GoesOn s (execAccessFault t addr size write s) := by
  unfold execAccessFault; simp
@[simp] theorem execAppMemoryError_goesOn (t : Nat) (dram correctable : Bool) (s : State) :
    GoesOn s (execAppMemoryError t dram correctable s) := by
  unfold execAppMemoryError; simp

/-! ## Faults -/

@[simp] theorem execSelfTestOutcome_goesOn (t : Nat) (unit outcome : Nat) (s : State) :
    GoesOn s (execSelfTestOutcome t unit outcome s) := by
  unfold execSelfTestOutcome; simp
@[simp] theorem execDetectedError_goesOn (t : Nat) (unit rule detail : Nat) (s : State) :
    GoesOn s (execDetectedError t unit rule detail s) := by
  unfold execDetectedError; simp
@[simp] theorem execMemoryError_goesOn (t : Nat) (mem : Memory) (word : Nat) (uncorrectable : Bool) (s : State) :
    GoesOn s (execMemoryError t mem word uncorrectable s) := by
  unfold execMemoryError; dsimp only; (repeat' split) <;> simp
@[simp] theorem execScrubPass_goesOn (t : Nat) (a : Background) (s : State) : GoesOn s (execScrubPass t a s) := by
  unfold execScrubPass; dsimp only; (repeat' split) <;> simp

/-! ## Channels -/

@[simp] theorem execTrip_goesOn (t : Nat) (ch : Channel) (i : Nat) (sf : SafetyFn) (s : State) :
    GoesOn s (execTrip t ch i sf s) := by
  unfold execTrip; simp
@[simp] theorem execCloseRequest_goesOn (t : Nat) (i : Nat) (s : State) : GoesOn s (execCloseRequest t i s) := by
  unfold execCloseRequest; dsimp only; (repeat' split) <;> simp
@[simp] theorem execCloseRequestTimeout_goesOn (t : Nat) (i : Nat) (s : State) :
    GoesOn s (execCloseRequestTimeout t i s) := by
  unfold execCloseRequestTimeout; dsimp only; (repeat' split) <;> simp
@[simp] theorem execWeld_goesOn (t : Nat) (i coil : Nat) (s : State) : GoesOn s (execWeld t i coil s) := by
  unfold execWeld; simp
@[simp] theorem execBkrTripEnd_goesOn (t : Nat) (s : State) : GoesOn s (execBkrTripEnd t s) := by
  unfold execBkrTripEnd; simp
@[simp] theorem execCdbCycle_goesOn (t : Nat) (bus : Nat) (mirrors : List (BitVec 4)) (crcOk : Bool) (s : State) :
    GoesOn s (execCdbCycle t bus mirrors crcOk s) := by
  unfold execCdbCycle; dsimp only
  refine goesOn_at t (Later.foldl (fun s k => ?_) _ _)
  (repeat' split) <;> simp
@[simp] theorem execOpenSecondPole_goesOn (t : Nat) (i : Nat) (s : State) : GoesOn s (execOpenSecondPole t i s) := by
  unfold execOpenSecondPole; simp
@[simp] theorem execCrossLinkPublish_goesOn (t : Nat) (s : State) : GoesOn s (execCrossLinkPublish t s) := by
  unfold execCrossLinkPublish; simp
@[simp] theorem execDiscrepancy_goesOn (t : Nat) (i : Nat) (sf : SafetyFn) (s : State) :
    GoesOn s (execDiscrepancy t i sf s) := by
  unfold execDiscrepancy; simp
@[simp] theorem execSilentPartner_goesOn (t : Nat) (s : State) : GoesOn s (execSilentPartner t s) := by
  unfold execSilentPartner; simp
@[simp] theorem execSafetyInputSample_goesOn (t : Nat) (ch : Channel) (levels : BitVec 16) (s : State) :
    GoesOn s (execSafetyInputSample t ch levels s) := by
  unfold execSafetyInputSample; simp
@[simp] theorem execTestPulse_goesOn (t : Nat) (n : Nat) (overload : Bool) (s : State) :
    GoesOn s (execTestPulse t n overload s) := by
  unfold execTestPulse; simp
@[simp] theorem execThrLoad_goesOn (t : Nat) (i m : Nat) (own : Bool) (thr : Thresholds) (s : State) :
    GoesOn s (execThrLoad t i m own thr s) := by
  unfold execThrLoad; simp
@[simp] theorem execThresholdReload_goesOn (t : Nat) (i : Nat) (s : State) : GoesOn s (execThresholdReload t i s) := by
  unfold execThresholdReload; dsimp only; (repeat' split) <;> simp
@[simp] theorem execLoadingWindowEnd_goesOn (t : Nat) (s : State) : GoesOn s (execLoadingWindowEnd t s) := by
  unfold execLoadingWindowEnd; dsimp only; (repeat' split) <;> simp
@[simp] theorem execSafStage_goesOn (q : Req) (s : State) : GoesOn s (execSafStage q s) := by
  unfold execSafStage; simp
@[simp] theorem execSafGetStaged_goesOn (q : Req) (s : State) : GoesOn s (execSafGetStaged q s) := by
  unfold execSafGetStaged; simp
@[simp] theorem execSafCommit_goesOn (q : Req) (s : State) : GoesOn s (execSafCommit q s) := by
  unfold execSafCommit; simp
@[simp] theorem execSafDiscard_goesOn (q : Req) (s : State) : GoesOn s (execSafDiscard q s) := by
  unfold execSafDiscard; simp
@[simp] theorem execSafGetSet_goesOn (q : Req) (s : State) : GoesOn s (execSafGetSet q s) := by
  unfold execSafGetSet; simp
@[simp] theorem execSetActivation_goesOn (t : Nat) (ch : Channel) (s : State) : GoesOn s (execSetActivation t ch s) := by
  unfold execSetActivation; dsimp only; (repeat' split) <;> simp
@[simp] theorem execStagedSetDiscard_goesOn (t : Nat) (s : State) : GoesOn s (execStagedSetDiscard t s) := by
  unfold execStagedSetDiscard; simp
@[simp] theorem execSafePduReceived_goesOn (t : Nat) (ch : Channel) (net : Nat) (pdu : List Byte) (s : State) :
    GoesOn s (execSafePduReceived t ch net pdu s) := by
  unfold execSafePduReceived; simp
@[simp] theorem execBlackChannelPdu_goesOn (t : Nat) (ch : Channel) (net : Nat) (pdu : List Byte) (s : State) :
    GoesOn s (execBlackChannelPdu t ch net pdu s) := by
  unfold execBlackChannelPdu; simp
@[simp] theorem execCommWindowExpiry_goesOn (t : Nat) (ch : Channel) (net : Nat) (s : State) :
    GoesOn s (execCommWindowExpiry t ch net s) := by
  unfold execCommWindowExpiry; dsimp only; (repeat' split) <;> simp
@[simp] theorem execCommWatchdogExpiry_goesOn (t : Nat) (ch : Channel) (s : State) :
    GoesOn s (execCommWatchdogExpiry t ch s) := by
  unfold execCommWatchdogExpiry; dsimp only; (repeat' split) <;> simp
@[simp] theorem execNetworkDown_goesOn (t : Nat) (ch : Channel) (net : Nat) (s : State) :
    GoesOn s (execNetworkDown t ch net s) := by
  unfold execNetworkDown; simp
@[simp] theorem execDegradeExpiry_goesOn (t : Nat) (ch : Channel) (s : State) : GoesOn s (execDegradeExpiry t ch s) := by
  unfold execDegradeExpiry; simp
@[simp] theorem execSafGetStatus_goesOn (q : Req) (s : State) : GoesOn s (execSafGetStatus q s) := by
  unfold execSafGetStatus; simp
@[simp] theorem execSafGetInputs_goesOn (q : Req) (s : State) : GoesOn s (execSafGetInputs q s) := by
  unfold execSafGetInputs; simp

/-! ## Pair -/

@[simp] theorem execClaimFrame_goesOn (t : Nat) (st : Stage) (own : Bool) (claim : Nat) (s : State) :
    GoesOn s (execClaimFrame t st own claim s) := by
  unfold execClaimFrame; dsimp only; (repeat' split) <;> simp
@[simp] theorem execCoilHoldExpiry_goesOn (t : Nat) (i : Nat) (s : State) : GoesOn s (execCoilHoldExpiry t i s) := by
  unfold execCoilHoldExpiry; simp
@[simp] theorem execHeartbeatSend_goesOn (t : Nat) (s : State) : GoesOn s (execHeartbeatSend t s) := by
  unfold execHeartbeatSend; simp
@[simp] theorem execHigherClaimSeen_goesOn (t : Nat) (claim : Nat) (s : State) :
    GoesOn s (execHigherClaimSeen t claim s) := by
  unfold execHigherClaimSeen; simp
@[simp] theorem execTakeover_goesOn (t : Nat) (s : State) : GoesOn s (execTakeover t s) := by
  unfold execTakeover; simp
@[simp] theorem execBeatReceived_goesOn (t : Nat) (beat : List Byte) (s : State) : GoesOn s (execBeatReceived t beat s) := by
  unfold execBeatReceived; simp
@[simp] theorem execYield_goesOn (t : Nat) (s : State) : GoesOn s (execYield t s) := by
  unfold execYield; simp
@[simp] theorem execHeartbeat_goesOn (t : Nat) (s : State) : GoesOn s (execHeartbeat t s) := by
  unfold execHeartbeat; simp
@[simp] theorem execPeerBeatLoss_goesOn (t : Nat) (s : State) : GoesOn s (execPeerBeatLoss t s) := by
  unfold execPeerBeatLoss; simp
@[simp] theorem execPeerDown_goesOn (t : Nat) (s : State) : GoesOn s (execPeerDown t s) := by
  unfold execPeerDown; simp
@[simp] theorem execPartnerAbsent_goesOn (t : Nat) (s : State) : GoesOn s (execPartnerAbsent t s) := by
  unfold execPartnerAbsent; dsimp only; (repeat' split) <;> simp
@[simp] theorem execDormantPartnerTimeout_goesOn (t : Nat) (s : State) : GoesOn s (execDormantPartnerTimeout t s) := by
  unfold execDormantPartnerTimeout; dsimp only; (repeat' split) <;> simp
@[simp] theorem execPeerState_goesOn (t : Nat) (s : State) : GoesOn s (execPeerState t s) := by
  unfold execPeerState; simp
@[simp] theorem execSwap_goesOn (t : Nat) (s : State) : GoesOn s (execSwap t s) := by
  unfold execSwap; dsimp only; (repeat' split) <;> simp
@[simp] theorem execSwapVerify_goesOn (t : Nat) (cdbAck gateOk : Bool) (s : State) :
    GoesOn s (execSwapVerify t cdbAck gateOk s) := by
  unfold execSwapVerify; simp
@[simp] theorem execScheduledSwapDue_goesOn (t : Nat) (s : State) : GoesOn s (execScheduledSwapDue t s) := by
  unfold execScheduledSwapDue; simp
@[simp] theorem execSwapOverdue_goesOn (t : Nat) (s : State) : GoesOn s (execSwapOverdue t s) := by
  unfold execSwapOverdue; simp
@[simp] theorem execResyncStep_goesOn (t : Nat) (s : State) : GoesOn s (execResyncStep t s) := by
  unfold execResyncStep; dsimp only; (repeat' split) <;> simp
@[simp] theorem execResyncTimeout_goesOn (t : Nat) (s : State) : GoesOn s (execResyncTimeout t s) := by
  unfold execResyncTimeout; simp
@[simp] theorem execRedSetConfig_goesOn (q : Req) (s : State) : GoesOn s (execRedSetConfig q s) := by
  unfold execRedSetConfig; simp
@[simp] theorem execRedGetConfig_goesOn (q : Req) (s : State) : GoesOn s (execRedGetConfig q s) := by
  unfold execRedGetConfig; simp
@[simp] theorem execRedGetStatus_goesOn (q : Req) (s : State) : GoesOn s (execRedGetStatus q s) := by
  unfold execRedGetStatus; simp
@[simp] theorem execRedSwap_goesOn (q : Req) (s : State) : GoesOn s (execRedSwap q s) := by
  unfold execRedSwap; simp
@[simp] theorem execRedPostpone_goesOn (q : Req) (s : State) : GoesOn s (execRedPostpone q s) := by
  unfold execRedPostpone; simp
@[simp] theorem execRedGetShadow_goesOn (q : Req) (s : State) : GoesOn s (execRedGetShadow q s) := by
  unfold execRedGetShadow; simp

/-! ## Loop -/

@[simp] theorem execLepLoadDesc_goesOn (q : Req) (s : State) : GoesOn s (execLepLoadDesc q s) := by
  unfold execLepLoadDesc; simp
@[simp] theorem execLepClearSlot_goesOn (q : Req) (s : State) : GoesOn s (execLepClearSlot q s) := by
  unfold execLepClearSlot; simp
@[simp] theorem execLepGetDesc_goesOn (q : Req) (s : State) : GoesOn s (execLepGetDesc q s) := by
  unfold execLepGetDesc; simp
@[simp] theorem execLepSetCoef_goesOn (q : Req) (s : State) : GoesOn s (execLepSetCoef q s) := by
  unfold execLepSetCoef; simp
@[simp] theorem execLepGetCoef_goesOn (q : Req) (s : State) : GoesOn s (execLepGetCoef q s) := by
  unfold execLepGetCoef; simp
@[simp] theorem execLepSwap_goesOn (q : Req) (s : State) : GoesOn s (execLepSwap q s) := by
  unfold execLepSwap; simp
@[simp] theorem execBankSwap_goesOn (t : Nat) (n : Nat) (s : State) : GoesOn s (execBankSwap t n s) := by
  unfold execBankSwap; simp
@[simp] theorem execLepLoadLut_goesOn (q : Req) (s : State) : GoesOn s (execLepLoadLut q s) := by
  unfold execLepLoadLut; simp
@[simp] theorem execLepGetLut_goesOn (q : Req) (s : State) : GoesOn s (execLepGetLut q s) := by
  unfold execLepGetLut; simp
@[simp] theorem execLepSetParam_goesOn (q : Req) (s : State) : GoesOn s (execLepSetParam q s) := by
  unfold execLepSetParam; simp
@[simp] theorem execLepGetOutput_goesOn (q : Req) (s : State) : GoesOn s (execLepGetOutput q s) := by
  unfold execLepGetOutput; simp
@[simp] theorem execLepGetStatus_goesOn (q : Req) (s : State) : GoesOn s (execLepGetStatus q s) := by
  unfold execLepGetStatus; simp
@[simp] theorem execSlotPeriod_goesOn (t : Nat) (n cycles : Nat) (late : Bool) (s : State) :
    GoesOn s (execSlotPeriod t n cycles late s) := by
  unfold execSlotPeriod; simp
@[simp] theorem execSetpointCommit_goesOn (t : Nat) (s : State) : GoesOn s (execSetpointCommit t s) := by
  unfold execSetpointCommit; dsimp only; (repeat' split) <;> simp
@[simp] theorem execProbeComplete_goesOn (t : Nat) (p : Nat) (s : State) : GoesOn s (execProbeComplete t p s) := by
  unfold execProbeComplete; simp
@[simp] theorem execTrcSetProbe_goesOn (q : Req) (s : State) : GoesOn s (execTrcSetProbe q s) := by
  unfold execTrcSetProbe; simp
@[simp] theorem execTrcArm_goesOn (q : Req) (s : State) : GoesOn s (execTrcArm q s) := by
  unfold execTrcArm; simp
@[simp] theorem execTrcStop_goesOn (q : Req) (s : State) : GoesOn s (execTrcStop q s) := by
  unfold execTrcStop; simp
@[simp] theorem execTrcGetStatus_goesOn (q : Req) (s : State) : GoesOn s (execTrcGetStatus q s) := by
  unfold execTrcGetStatus; simp
@[simp] theorem execTrcMap_goesOn (q : Req) (s : State) : GoesOn s (execTrcMap q s) := by
  unfold execTrcMap; simp
@[simp] theorem execTrcRead_goesOn (q : Req) (s : State) : GoesOn s (execTrcRead q s) := by
  unfold execTrcRead; simp

/-! ## Converter -/

@[simp] theorem execConverterStart_goesOn (t : Nat) (i : Nat) (s : State) : GoesOn s (execConverterStart t i s) := by
  unfold execConverterStart; simp
@[simp] theorem execConverterPause_goesOn (t : Nat) (i : Nat) (cause : PauseCause) (s : State) :
    GoesOn s (execConverterPause t i cause s) := by
  unfold execConverterPause; dsimp only; (repeat' split) <;> simp
@[simp] theorem execPauseEnd_goesOn (t : Nat) (i : Nat) (s : State) : GoesOn s (execPauseEnd t i s) := by
  unfold execPauseEnd; simp
@[simp] theorem execSoftStartTimeout_goesOn (t : Nat) (i : Nat) (s : State) : GoesOn s (execSoftStartTimeout t i s) := by
  unfold execSoftStartTimeout; dsimp only; (repeat' split) <;> simp
@[simp] theorem execRampComplete_goesOn (t : Nat) (i : Nat) (s : State) : GoesOn s (execRampComplete t i s) := by
  unfold execRampComplete; dsimp only; (repeat' split) <;> simp
@[simp] theorem execCoolingWaitEnd_goesOn (t : Nat) (i : Nat) (fastTripTestPasses : Bool) (s : State) :
    GoesOn s (execCoolingWaitEnd t i fastTripTestPasses s) := by
  unfold execCoolingWaitEnd; simp
@[simp] theorem execPrechargeComplete_goesOn (t : Nat) (i : Nat) (s : State) : GoesOn s (execPrechargeComplete t i s) := by
  unfold execPrechargeComplete; simp
@[simp] theorem execPrechargeFault_goesOn (t : Nat) (i : Nat) (s : State) : GoesOn s (execPrechargeFault t i s) := by
  unfold execPrechargeFault; simp
@[simp] theorem execConnectedEntry_goesOn (t : Nat) (i : Nat) (s : State) : GoesOn s (execConnectedEntry t i s) := by
  unfold execConnectedEntry; simp
@[simp] theorem execPeriodBoundary_goesOn (t : Nat) (p : Nat) (code : Int) (s : State) :
    GoesOn s (execPeriodBoundary t p code s) := by
  unfold execPeriodBoundary; simp
@[simp] theorem execPwmReadbackMismatch_goesOn (t : Nat) (p : Nat) (s : State) :
    GoesOn s (execPwmReadbackMismatch t p s) := by
  unfold execPwmReadbackMismatch; simp
@[simp] theorem execCycleByCycleLimit_goesOn (t : Nat) (p : Nat) (acted : Bool) (s : State) :
    GoesOn s (execCycleByCycleLimit t p acted s) := by
  unfold execCycleByCycleLimit; simp
@[simp] theorem execPhaseInputImplausible_goesOn (t : Nat) (p : Nat) (s : State) :
    GoesOn s (execPhaseInputImplausible t p s) := by
  unfold execPhaseInputImplausible; simp
@[simp] theorem execEstimateMode_goesOn (t : Nat) (p : Nat) (s : State) : GoesOn s (execEstimateMode t p s) := by
  unfold execEstimateMode; simp
@[simp] theorem execEstimateModeEnd_goesOn (t : Nat) (p : Nat) (s : State) : GoesOn s (execEstimateModeEnd t p s) := by
  unfold execEstimateModeEnd; dsimp only; (repeat' split) <;> simp
@[simp] theorem execPhaseEvaluation_goesOn (t : Nat) (i : Nat) (s : State) : GoesOn s (execPhaseEvaluation t i s) := by
  unfold execPhaseEvaluation; simp
@[simp] theorem execReInterleave_goesOn (t : Nat) (i : Nat) (s : State) : GoesOn s (execReInterleave t i s) := by
  unfold execReInterleave; dsimp only; (repeat' split) <;> simp
@[simp] theorem execSlotShift_goesOn (t : Nat) (i : Nat) (s : State) : GoesOn s (execSlotShift t i s) := by
  unfold execSlotShift; dsimp only; (repeat' split) <;> simp
@[simp] theorem execSyncInLoss_goesOn (t : Nat) (i : Nat) (s : State) : GoesOn s (execSyncInLoss t i s) := by
  unfold execSyncInLoss; simp
@[simp] theorem execSyncInRelock_goesOn (t : Nat) (i : Nat) (s : State) : GoesOn s (execSyncInRelock t i s) := by
  unfold execSyncInRelock; simp
@[simp] theorem execBraking_goesOn (t : Nat) (p : Nat) (s : State) : GoesOn s (execBraking t p s) := by
  unfold execBraking; simp
@[simp] theorem execBrakingEnd_goesOn (t : Nat) (p : Nat) (s : State) : GoesOn s (execBrakingEnd t p s) := by
  unfold execBrakingEnd; simp
@[simp] theorem execGx2Poll_goesOn (t : Nat) (i : Nat) (r : List Gx2Reply) (s : State) : GoesOn s (execGx2Poll t i r s) := by
  unfold execGx2Poll; dsimp only
  refine goesOn_at t ?_
  generalize s.advance t = s
  split
  · exact Later.refl _
  · generalize hu : List.foldl _ s _ = u
    have later : Later s u := hu ▸ Later.foldl (fun s k => by split <;> simp) _ _
    refine later.trans ?_
    split <;> simp
@[simp] theorem execGdbFlt_goesOn (t : Nat) (i : Nat) (s : State) : GoesOn s (execGdbFlt t i s) := by
  unfold execGdbFlt; dsimp only
  refine goesOn_at t ?_
  generalize s.advance t = s
  split
  · exact Later.refl _
  · refine Later.of_keeps (by simp) (by simp) (by simp) ?_
    rw [enterPause_sizes, State.sizes_phase (State.modConv _ _ _) _ (by simp), State.modConv_sizes]
@[simp] theorem execDutyHoldExpiry_goesOn (t : Nat) (p : Nat) (s : State) : GoesOn s (execDutyHoldExpiry t p s) := by
  unfold execDutyHoldExpiry; simp
@[simp] theorem execCnvSetConfig_goesOn (q : Req) (s : State) : GoesOn s (execCnvSetConfig q s) := by
  unfold execCnvSetConfig; simp
@[simp] theorem execCnvGetConfig_goesOn (q : Req) (s : State) : GoesOn s (execCnvGetConfig q s) := by
  unfold execCnvGetConfig; simp
@[simp] theorem execCnvSetSlot_goesOn (q : Req) (s : State) : GoesOn s (execCnvSetSlot q s) := by
  unfold execCnvSetSlot; simp
@[simp] theorem execCnvGetStatus_goesOn (q : Req) (s : State) : GoesOn s (execCnvGetStatus q s) := by
  unfold execCnvGetStatus; simp
@[simp] theorem execCnvPhaseDisable_goesOn (q : Req) (s : State) : GoesOn s (execCnvPhaseDisable q s) := by
  unfold execCnvPhaseDisable; simp
@[simp] theorem execCnvPhaseRestore_goesOn (q : Req) (s : State) : GoesOn s (execCnvPhaseRestore q s) := by
  unfold execCnvPhaseRestore; simp
@[simp] theorem execCnvGetDrivers_goesOn (q : Req) (s : State) : GoesOn s (execCnvGetDrivers q s) := by
  unfold execCnvGetDrivers; simp

/-! ## Hvi -/

@[simp] theorem execShuntSample_goesOn (t : Nat) (i : Nat) (code : Int) (s : State) :
    GoesOn s (execShuntSample t i code s) := by
  unfold execShuntSample; simp
@[simp] theorem execIntegratorCheckpoint_goesOn (t : Nat) (s : State) : GoesOn s (execIntegratorCheckpoint t s) := by
  unfold execIntegratorCheckpoint; simp
@[simp] theorem execCalibrationStep_goesOn (t : Nat) (i : Nat) (avg : Rat) (s : State) :
    GoesOn s (execCalibrationStep t i avg s) := by
  unfold execCalibrationStep; simp
@[simp] theorem execCalibrationSwap_goesOn (t : Nat) (i : Nat) (ov : Overlap) (s : State) :
    GoesOn s (execCalibrationSwap t i ov s) := by
  unfold execCalibrationSwap; simp
@[simp] theorem execOverlapRepeat_goesOn (t : Nat) (i : Nat) (dI : Int) (s : State) :
    GoesOn s (execOverlapRepeat t i dI s) := by
  unfold execOverlapRepeat; simp
@[simp] theorem execVoltageSample_goesOn (t : Nat) (ch : Nat) (value : Int) (discarded beyond : Bool) (s : State) :
    GoesOn s (execVoltageSample t ch value discarded beyond s) := by
  unfold execVoltageSample; dsimp only
  refine goesOn_at t ?_
  generalize s.advance t = s
  have noted : Later s (if discarded then noteDiscard s ch else s) := by split <;> simp
  split
  · exact Later.refl _
  · refine noted.trans ?_
    generalize (if discarded then noteDiscard s ch else s) = s
    (repeat' split) <;> simp
@[simp] theorem execInsulationResult_goesOn (t : Nat) (rIso cE : Nat) (side : FaultSide) (s : State) :
    GoesOn s (execInsulationResult t rIso cE side s) := by
  unfold execInsulationResult; dsimp only
  refine goesOn_at t ?_
  generalize s.advance t = s
  split
  · exact Later.refl _
  · refine Later.of_keeps (by simp) (by simp) (by simp) ?_
    rw [isoToChannels_sizes]; rfl
@[simp] theorem execInjectionHandover_goesOn (t : Nat) (s : State) : GoesOn s (execInjectionHandover t s) := by
  unfold execInjectionHandover; dsimp only
  refine goesOn_at t ?_
  generalize s.advance t = s
  split <;> simp
@[simp] theorem execFastTrip_goesOn (t : Nat) (i : Nat) (charge : Bool) (s : State) :
    GoesOn s (execFastTrip t i charge s) := by
  unfold execFastTrip; dsimp only
  refine goesOn_at t ?_
  split
  · exact Later.refl _
  · refine Later.of_keeps (by simp) (by simp) (by simp) ?_
    rw [tripBoth_sizes]
    refine (State.sizes_phase (ite _ _ _) _ (by simp)).trans ?_
    simp
@[simp] theorem execHviPlausibilityFailure_goesOn (t : Nat) (c : HviCheck) (i : Nat) (s : State) :
    GoesOn s (execHviPlausibilityFailure t c i s) := by
  unfold execHviPlausibilityFailure; simp
@[simp] theorem execStrGetMeas_goesOn (q : Req) (s : State) : GoesOn s (execStrGetMeas q s) := by
  unfold execStrGetMeas; simp
@[simp] theorem execStrSetShunt_goesOn (q : Req) (s : State) : GoesOn s (execStrSetShunt q s) := by
  unfold execStrSetShunt; simp
@[simp] theorem execStrGetCal_goesOn (q : Req) (s : State) : GoesOn s (execStrGetCal q s) := by
  unfold execStrGetCal; simp
@[simp] theorem execStrSetIso_goesOn (q : Req) (s : State) : GoesOn s (execStrSetIso q s) := by
  unfold execStrSetIso; simp
@[simp] theorem execStrGetIso_goesOn (q : Req) (s : State) : GoesOn s (execStrGetIso q s) := by
  unfold execStrGetIso; simp
@[simp] theorem execStrClearMeasFlags_goesOn (q : Req) (s : State) : GoesOn s (execStrClearMeasFlags q s) := by
  unfold execStrClearMeasFlags; simp

/-! ## Rack -/

@[simp] theorem execAuxSample_goesOn (t : Nat) (vsns : Nat) (shelfUv : Int) (acOk : Bool) (s : State) :
    GoesOn s (execAuxSample t vsns shelfUv acOk s) := by
  unfold execAuxSample; simp
@[simp] theorem execShelfFull_goesOn (t : Nat) (s : State) : GoesOn s (execShelfFull t s) := by
  unfold execShelfFull; simp
@[simp] theorem execPmbusPoll_goesOn (t : Nat) (r : List RectReading) (s : State) : GoesOn s (execPmbusPoll t r s) := by
  unfold execPmbusPoll; dsimp only
  refine goesOn_at t ?_
  generalize s.advance t = s
  split
  · exact Later.refl _
  · generalize hu : List.foldl _ s _ = u
    have later : Later s u := hu ▸ Later.foldl (fun s k => by split <;> simp) _ _
    refine later.trans ?_
    simp
@[simp] theorem execPmbusAlert_goesOn (t : Nat) (segment : Nat) (words : List (Nat × BitVec 16)) (s : State) :
    GoesOn s (execPmbusAlert t segment words s) := by
  unfold execPmbusAlert; dsimp only
  refine goesOn_at t ?_
  split
  · exact Later.refl _
  · refine Later.trans (by simp) (Later.foldl (fun s e => ?_) _ _)
    (repeat' split) <;> simp
@[simp] theorem execRectifierRejoin_goesOn (t : Nat) (r : Nat) (s : State) : GoesOn s (execRectifierRejoin t r s) := by
  unfold execRectifierRejoin; simp
@[simp] theorem execCapEvaluation_goesOn (t : Nat) (s : State) : GoesOn s (execCapEvaluation t s) := by
  unfold execCapEvaluation; dsimp only; (repeat' split) <;> simp
@[simp] theorem execShedRestore_goesOn (t : Nat) (s : State) : GoesOn s (execShedRestore t s) := by
  unfold execShedRestore; dsimp only; (repeat' split) <;> simp
@[simp] theorem execAcLoss_goesOn (t : Nat) (s : State) : GoesOn s (execAcLoss t s) := by
  unfold execAcLoss; simp
@[simp] theorem execAcReturn_goesOn (t : Nat) (s : State) : GoesOn s (execAcReturn t s) := by
  unfold execAcReturn; simp
@[simp] theorem execShelfLow_goesOn (t : Nat) (s : State) : GoesOn s (execShelfLow t s) := by
  unfold execShelfLow; simp
@[simp] theorem execShelfCut_goesOn (t : Nat) (s : State) : GoesOn s (execShelfCut t s) := by
  unfold execShelfCut; simp
@[simp] theorem execEfuseSample_goesOn (t : Nat) (n : Nat) (v : EfReading) (s : State) :
    GoesOn s (execEfuseSample t n v s) := by
  unfold execEfuseSample; simp
@[simp] theorem execInsertionDelayEnd_goesOn (t : Nat) (n : Nat) (s : State) : GoesOn s (execInsertionDelayEnd t n s) := by
  unfold execInsertionDelayEnd; simp
@[simp] theorem execWindowExit_goesOn (t : Nat) (n : Nat) (s : State) : GoesOn s (execWindowExit t n s) := by
  unfold execWindowExit; simp
@[simp] theorem execEfuseFastTrip_goesOn (t : Nat) (n : Nat) (s : State) : GoesOn s (execEfuseFastTrip t n s) := by
  unfold execEfuseFastTrip; simp
@[simp] theorem execSoftStartExpiry_goesOn (t : Nat) (n : Nat) (s : State) : GoesOn s (execSoftStartExpiry t n s) := by
  unfold execSoftStartExpiry; simp
@[simp] theorem execPowerGood_goesOn (t : Nat) (n : Nat) (s : State) : GoesOn s (execPowerGood t n s) := by
  unfold execPowerGood; simp
@[simp] theorem execGateFault_goesOn (t : Nat) (n : Nat) (s : State) : GoesOn s (execGateFault t n s) := by
  unfold execGateFault; simp
@[simp] theorem execEfuseFault_goesOn (t : Nat) (n : Nat) (f : EfFault) (s : State) : GoesOn s (execEfuseFault t n f s) := by
  unfold execEfuseFault; dsimp only; (repeat' split) <;> simp
@[simp] theorem execRetryTimerExpiry_goesOn (t : Nat) (n : Nat) (s : State) : GoesOn s (execRetryTimerExpiry t n s) := by
  unfold execRetryTimerExpiry; simp
@[simp] theorem execFaultCountClear_goesOn (t : Nat) (n : Nat) (s : State) : GoesOn s (execFaultCountClear t n s) := by
  unfold execFaultCountClear; simp
@[simp] theorem execAuxSetBus_goesOn (q : Req) (s : State) : GoesOn s (execAuxSetBus q s) := by
  unfold execAuxSetBus; simp
@[simp] theorem execAuxGetBus_goesOn (q : Req) (s : State) : GoesOn s (execAuxGetBus q s) := by
  unfold execAuxGetBus; simp
@[simp] theorem execAuxSetCap_goesOn (q : Req) (s : State) : GoesOn s (execAuxSetCap q s) := by
  unfold execAuxSetCap; simp
@[simp] theorem execAuxSetFan_goesOn (q : Req) (s : State) : GoesOn s (execAuxSetFan q s) := by
  unfold execAuxSetFan; simp
@[simp] theorem execAuxGetStatus_goesOn (q : Req) (s : State) : GoesOn s (execAuxGetStatus q s) := by
  unfold execAuxGetStatus; simp
@[simp] theorem execAuxSetEf_goesOn (q : Req) (s : State) : GoesOn s (execAuxSetEf q s) := by
  unfold execAuxSetEf; simp
@[simp] theorem execAuxGetEf_goesOn (q : Req) (s : State) : GoesOn s (execAuxGetEf q s) := by
  unfold execAuxGetEf; simp
@[simp] theorem execAuxEfOn_goesOn (q : Req) (s : State) : GoesOn s (execAuxEfOn q s) := by
  unfold execAuxEfOn; simp
@[simp] theorem execAuxEfOff_goesOn (q : Req) (s : State) : GoesOn s (execAuxEfOff q s) := by
  unfold execAuxEfOff; simp
@[simp] theorem execAuxEfReset_goesOn (q : Req) (s : State) : GoesOn s (execAuxEfReset q s) := by
  unfold execAuxEfReset; simp

/-! ## Thermal -/

@[simp] theorem execTiSample_goesOn (t : Nat) (n : Nat) (r : TiReading) (s : State) : GoesOn s (execTiSample t n r s) := by
  unfold execTiSample; simp
@[simp] theorem execSensorRecovery_goesOn (t : Nat) (n : Nat) (s : State) : GoesOn s (execSensorRecovery t n s) := by
  unfold execSensorRecovery; dsimp only
  refine goesOn_at t ?_
  generalize s.advance t = s
  (repeat' split) <;> simp
@[simp] theorem execSysSetTi_goesOn (q : Req) (s : State) : GoesOn s (execSysSetTi q s) := by
  unfold execSysSetTi; simp
@[simp] theorem execSysGetTi_goesOn (q : Req) (s : State) : GoesOn s (execSysGetTi q s) := by
  unfold execSysGetTi; simp
@[simp] theorem execSysSetThermalWarn_goesOn (q : Req) (s : State) : GoesOn s (execSysSetThermalWarn q s) := by
  unfold execSysSetThermalWarn; simp
@[simp] theorem execSysGetThermal_goesOn (q : Req) (s : State) : GoesOn s (execSysGetThermal q s) := by
  unfold execSysGetThermal; simp

/-! ## Rings -/

@[simp] theorem execFrameLost_goesOn (t : Nat) (i m seq : Nat) (s : State) : GoesOn s (execFrameLost t i m seq s) := by
  unfold execFrameLost; dsimp only; (repeat' split) <;> simp
@[simp] theorem execPortDown_goesOn (t : Nat) (i term : Nat) (s : State) : GoesOn s (execPortDown t i term s) := by
  unfold execPortDown; dsimp only; (repeat' split) <;> simp
@[simp] theorem execPortUp_goesOn (t : Nat) (i term : Nat) (s : State) : GoesOn s (execPortUp t i term s) := by
  unfold execPortUp; dsimp only; (repeat' split) <;> simp
@[simp] theorem execTwoEndedOperation_goesOn (t : Nat) (i : Nat) (s : State) : GoesOn s (execTwoEndedOperation t i s) := by
  unfold execTwoEndedOperation; simp
@[simp] theorem execTwoEndedExit_goesOn (t : Nat) (i : Nat) (s : State) : GoesOn s (execTwoEndedExit t i s) := by
  unfold execTwoEndedExit; simp
@[simp] theorem execTurnedFrame_goesOn (t : Nat) (i m seq : Nat) (s : State) : GoesOn s (execTurnedFrame t i m seq s) := by
  unfold execTurnedFrame; dsimp only; (repeat' split) <;> simp
@[simp] theorem execLinkCrcBurst_goesOn (t : Nat) (i pos port count : Nat) (s : State) :
    GoesOn s (execLinkCrcBurst t i pos port count s) := by
  unfold execLinkCrcBurst; simp
@[simp] theorem execDelay_goesOn (t : Nat) (i link delayNs : Nat) (s : State) : GoesOn s (execDelay t i link delayNs s) := by
  unfold execDelay; simp
@[simp] theorem execBeacon_goesOn (t : Nat) (i : Nat) (s : State) : GoesOn s (execBeacon t i s) := by
  unfold execBeacon; simp
@[simp] theorem execBeaconReturn_goesOn (t : Nat) (i : Nat) (b : BeaconCopy) (s : State) :
    GoesOn s (execBeaconReturn t i b s) := by
  unfold execBeaconReturn; dsimp only
  refine goesOn_at t ?_
  (repeat' split) <;> simp
@[simp] theorem execBeaconTimeout_goesOn (t : Nat) (i m : Nat) (s : State) : GoesOn s (execBeaconTimeout t i m s) := by
  unfold execBeaconTimeout; simp
@[simp] theorem execMonitorRestart_goesOn (t : Nat) (i m : Nat) (s : State) : GoesOn s (execMonitorRestart t i m s) := by
  unfold execMonitorRestart; simp
@[simp] theorem execHardwareComparatorAlarm_goesOn (t : Nat) (i m : Nat) (k : Comparator) (ch : Nat) (s : State) :
    GoesOn s (execHardwareComparatorAlarm t i m k ch s) := by
  unfold execHardwareComparatorAlarm; simp
@[simp] theorem execAlarmDetailRead_goesOn (t : Nat) (i m : Nat) (s : State) : GoesOn s (execAlarmDetailRead t i m s) := by
  unfold execAlarmDetailRead; simp
@[simp] theorem execEnumFrame_goesOn (t : Nat) (i : Nat) (s : State) : GoesOn s (execEnumFrame t i s) := by
  unfold execEnumFrame; simp
@[simp] theorem execUnaddressedMonitor_goesOn (t : Nat) (i : Nat) (s : State) : GoesOn s (execUnaddressedMonitor t i s) := by
  unfold execUnaddressedMonitor; simp
@[simp] theorem execEnumReturn_goesOn (t : Nat) (i : Nat) (e : EnumReturn) (s : State) :
    GoesOn s (execEnumReturn t i e s) := by
  unfold execEnumReturn; simp
@[simp] theorem execSched_goesOn (t : Nat) (i : Nat) (s : State) : GoesOn s (execSched t i s) := by
  unfold execSched; simp
@[simp] theorem execRoundTrigger_goesOn (t : Nat) (s : State) : GoesOn s (execRoundTrigger t s) := by
  unfold execRoundTrigger; dsimp only
  refine goesOn_at t ?_
  split <;> simp [State.sizes, Function.comp_def]
@[simp] theorem execRoundRead_goesOn (t : Nat) (i m : Nat) (s : State) : GoesOn s (execRoundRead t i m s) := by
  unfold execRoundRead; simp
@[simp] theorem execData_goesOn (t : Nat) (i m seq : Nat) (kind : Nat) (d : RoundData) (s : State) :
    GoesOn s (execData t i m seq kind d s) := by
  unfold execData; dsimp only
  refine goesOn_at t ?_
  generalize s.advance t = s
  have take (s : State) : Later s (if kind = 0 ∨ kind = 2 then takeData s i m kind d else s) := by split <;> simp
  split
  · exact Later.refl _
  split
  · split
    next u o h =>
      split
      · exact (response_later h).trans (take u)
      · exact response_later h
    next u h => exact response_later h
  · exact take s
@[simp] theorem execRoundClose_goesOn (t : Nat) (s : State) : GoesOn s (execRoundClose t s) := by
  unfold execRoundClose; simp
@[simp] theorem execBleedSet_goesOn (t : Nat) (i m : Nat) (own : Bool) (mask : BitVec 32) (floor duration : Nat)
    (s : State) : GoesOn s (execBleedSet t i m own mask floor duration s) := by
  unfold execBleedSet; dsimp only
  refine goesOn_at t ?_
  split
  next u h => exact cmdFrame_later h
  next u h => exact (cmdFrame_later h).trans (by simp)
@[simp] theorem execBleedStop_goesOn (t : Nat) (i m : Nat) (own : Bool) (mask : BitVec 32) (s : State) :
    GoesOn s (execBleedStop t i m own mask s) := by
  unfold execBleedStop; dsimp only
  refine goesOn_at t ?_
  split
  next u h => exact cmdFrame_later h
  next u h => exact (cmdFrame_later h).trans (by simp)
@[simp] theorem execShuttleSet_goesOn (t : Nat) (i m : Nat) (own : Bool) (a : ShuttleArgs) (s : State) :
    GoesOn s (execShuttleSet t i m own a s) := by
  unfold execShuttleSet; dsimp only
  refine goesOn_at t ?_
  split
  next u h => exact cmdFrame_later h
  next u h => exact (cmdFrame_later h).trans (by simp)
@[simp] theorem execShuttleStop_goesOn (t : Nat) (i m : Nat) (own : Bool) (s : State) :
    GoesOn s (execShuttleStop t i m own s) := by
  unfold execShuttleStop; dsimp only
  refine goesOn_at t ?_
  split
  next u h => exact cmdFrame_later h
  next u h => exact (cmdFrame_later h).trans (by simp)
@[simp] theorem execLinkDisable_goesOn (t : Nat) (i m : Nat) (own : Bool) (port : Nat) (s : State) :
    GoesOn s (execLinkDisable t i m own port s) :=
  (goesOn_next _ _).2 (portCmd_later ..)
@[simp] theorem execLinkEnable_goesOn (t : Nat) (i m : Nat) (own : Bool) (port : Nat) (s : State) :
    GoesOn s (execLinkEnable t i m own port s) :=
  (goesOn_next _ _).2 (portCmd_later ..)
@[simp] theorem execAck_goesOn (t : Nat) (i m seq code result value : Nat) (s : State) :
    GoesOn s (execAck t i m seq code result value s) := by
  unfold execAck; dsimp only
  refine goesOn_at t ?_
  split
  · exact Later.refl _
  split
  next u h => exact response_later h
  next u o h =>
    refine (response_later h).trans ?_
    (repeat' split) <;> simp
@[simp] theorem execBleedEnd_goesOn (t : Nat) (i m ch vMv : Nat) (s : State) : GoesOn s (execBleedEnd t i m ch vMv s) := by
  unfold execBleedEnd; simp
@[simp] theorem execShuttleEnd_goesOn (t : Nat) (i m vMv : Nat) (s : State) : GoesOn s (execShuttleEnd t i m vMv s) := by
  unfold execShuttleEnd; dsimp only; (repeat' split) <;> simp
@[simp] theorem execBalanceRead_goesOn (t : Nat) (i : Nat) (s : State) : GoesOn s (execBalanceRead t i s) := by
  unfold execBalanceRead; simp
@[simp] theorem execStrSetRing_goesOn (q : Req) (s : State) : GoesOn s (execStrSetRing q s) := by
  unfold execStrSetRing; simp
@[simp] theorem execStrEnumerate_goesOn (q : Req) (s : State) : GoesOn s (execStrEnumerate q s) := by
  unfold execStrEnumerate; simp
@[simp] theorem execStrRingLink_goesOn (q : Req) (s : State) : GoesOn s (execStrRingLink q s) := by
  unfold execStrRingLink; simp
@[simp] theorem execStrGetRing_goesOn (q : Req) (s : State) : GoesOn s (execStrGetRing q s) := by
  unfold execStrGetRing; simp
@[simp] theorem execStrGetRound_goesOn (q : Req) (s : State) : GoesOn s (execStrGetRound q s) := by
  unfold execStrGetRound; simp

/-! ## Cee -/

@[simp] theorem execStepRateChange_goesOn (t : Nat) (i : Nat) (s : State) : GoesOn s (execStepRateChange t i s) := by
  unfold execStepRateChange; dsimp only; (repeat' split) <;> simp
@[simp] theorem execJournalWrite_goesOn (t : Nat) (reason : Nat) (s : State) : GoesOn s (execJournalWrite t reason s) := by
  unfold execJournalWrite; simp
@[simp] theorem execJournalWriteDone_goesOn (t : Nat) (s : State) : GoesOn s (execJournalWriteDone t s) := by
  unfold execJournalWriteDone; dsimp only; (repeat' split) <;> simp
@[simp] theorem execRestWindowRequest_goesOn (t : Nat) (i : Nat) (s : State) : GoesOn s (execRestWindowRequest t i s) := by
  unfold execRestWindowRequest; simp
@[simp] theorem execAnchorOverdue_goesOn (t : Nat) (i : Nat) (s : State) : GoesOn s (execAnchorOverdue t i s) := by
  unfold execAnchorOverdue; simp
@[simp] theorem execCeePeriod_goesOn (t : Nat) (s : State) : GoesOn s (execCeePeriod t s) := by
  unfold execCeePeriod; simp
@[simp] theorem execEstSetConfig_goesOn (q : Req) (s : State) : GoesOn s (execEstSetConfig q s) := by
  unfold execEstSetConfig; simp
@[simp] theorem execEstGetConfig_goesOn (q : Req) (s : State) : GoesOn s (execEstGetConfig q s) := by
  unfold execEstGetConfig; simp
@[simp] theorem execEstGetCells_goesOn (q : Req) (s : State) : GoesOn s (execEstGetCells q s) := by
  unfold execEstGetCells; simp
@[simp] theorem execEstMapTable_goesOn (q : Req) (s : State) : GoesOn s (execEstMapTable q s) := by
  unfold execEstMapTable; simp
@[simp] theorem execEstGetSop_goesOn (q : Req) (s : State) : GoesOn s (execEstGetSop q s) := by
  unfold execEstGetSop; simp
@[simp] theorem execEstSetSoc_goesOn (q : Req) (s : State) : GoesOn s (execEstSetSoc q s) := by
  unfold execEstSetSoc; simp
@[simp] theorem execEstResetCell_goesOn (q : Req) (s : State) : GoesOn s (execEstResetCell q s) := by
  unfold execEstResetCell; simp
@[simp] theorem execEstJournal_goesOn (q : Req) (s : State) : GoesOn s (execEstJournal q s) := by
  unfold execEstJournal; simp
@[simp] theorem execEstRequestAnchor_goesOn (q : Req) (s : State) : GoesOn s (execEstRequestAnchor q s) := by
  unfold execEstRequestAnchor; simp
@[simp] theorem execEstGetStatus_goesOn (q : Req) (s : State) : GoesOn s (execEstGetStatus q s) := by
  unfold execEstGetStatus; simp

/-! ## Tpe -/

@[simp] theorem execTpeSetPlan_goesOn (q : Req) (s : State) : GoesOn s (execTpeSetPlan q s) := by
  unfold execTpeSetPlan; simp
@[simp] theorem execPlanEffect_goesOn (t : Nat) (s : State) : GoesOn s (execPlanEffect t s) := by
  unfold execPlanEffect; dsimp only; (repeat' split) <;> simp
@[simp] theorem execInjectionStart_goesOn (t : Nat) (pair : Nat) (s : State) : GoesOn s (execInjectionStart t pair s) := by
  unfold execInjectionStart; dsimp only; (repeat' split) <;> simp
@[simp] theorem execInjectionStop_goesOn (t : Nat) (pair : Nat) (s : State) : GoesOn s (execInjectionStop t pair s) := by
  unfold execInjectionStop; simp
@[simp] theorem execWindowStart_goesOn (t : Nat) (s : State) : GoesOn s (execWindowStart t s) := by
  unfold execWindowStart; dsimp only
  refine goesOn_at t ?_
  split
  · exact Later.refl _
  split
  · exact Later.refl _
  · refine Later.of_keeps (by simp) (by simp) (by simp) ?_
    rw [State.setTpe_sizes _ _ (by simp)]
    refine (State.sizes_hviStr (List.foldl _ _ _) _ _ (by simp)).trans ?_
    simp
@[simp] theorem execTonePlan_goesOn (t : Nat) (i : Nat) (s : State) : GoesOn s (execTonePlan t i s) := by
  unfold execTonePlan; simp
@[simp] theorem execPhasor_goesOn (t : Nat) (i m : Nat) (s : State) : GoesOn s (execPhasor t i m s) := by
  unfold execPhasor; simp
@[simp] theorem execToneHalt_goesOn (t : Nat) (i : Nat) (s : State) : GoesOn s (execToneHalt t i s) := by
  unfold execToneHalt; simp
@[simp] theorem execToneWindowEnd_goesOn (t : Nat) (ph : List StringPhasor) (s : State) :
    GoesOn s (execToneWindowEnd t ph s) := by
  unfold execToneWindowEnd; dsimp only; (repeat' split) <;> simp
@[simp] theorem execImpedanceRead_goesOn (t : Nat) (i m block : Nat) (b : ImpBlock) (s : State) :
    GoesOn s (execImpedanceRead t i m block b s) := by
  unfold execImpedanceRead; simp
@[simp] theorem execImpedancePublish_goesOn (t : Nat) (s : State) : GoesOn s (execImpedancePublish t s) := by
  unfold execImpedancePublish; dsimp only
  refine goesOn_at t ?_
  generalize s.advance t = s
  split
  · exact Later.refl _
  · generalize hu : List.foldl _ s _ = u
    have later : Later s u := hu ▸ Later.foldl (fun s k => by simp) _ _
    refine later.trans ?_
    simp
@[simp] theorem execBlockMissing_goesOn (t : Nat) (i m block : Nat) (s : State) :
    GoesOn s (execBlockMissing t i m block s) := by
  unfold execBlockMissing; simp
@[simp] theorem execCoreOffsetLearning_goesOn (t : Nat) (c : Nat) (s : State) : GoesOn s (execCoreOffsetLearning t c s) := by
  unfold execCoreOffsetLearning; dsimp only; (repeat' split) <;> simp
@[simp] theorem execPrecursorDelivery_goesOn (t : Nat) (s : State) : GoesOn s (execPrecursorDelivery t s) := by
  unfold execPrecursorDelivery; simp
@[simp] theorem execTpeGetPlan_goesOn (q : Req) (s : State) : GoesOn s (execTpeGetPlan q s) := by
  unfold execTpeGetPlan; simp
@[simp] theorem execTpeGetResults_goesOn (q : Req) (s : State) : GoesOn s (execTpeGetResults q s) := by
  unfold execTpeGetResults; simp
@[simp] theorem execTpeMapResults_goesOn (q : Req) (s : State) : GoesOn s (execTpeMapResults q s) := by
  unfold execTpeMapResults; simp
@[simp] theorem execTpeGetPrecursor_goesOn (q : Req) (s : State) : GoesOn s (execTpeGetPrecursor q s) := by
  unfold execTpeGetPrecursor; simp
@[simp] theorem execTpeGetStatus_goesOn (q : Req) (s : State) : GoesOn s (execTpeGetStatus q s) := by
  unfold execTpeGetStatus; simp

/-! ## Alloc -/

@[simp] theorem execDspSetRequest_goesOn (q : Req) (s : State) : GoesOn s (execDspSetRequest q s) := by
  unfold execDspSetRequest; simp
@[simp] theorem execDspCancel_goesOn (q : Req) (s : State) : GoesOn s (execDspCancel q s) := by
  unfold execDspCancel; simp
@[simp] theorem execAllocation_goesOn (t : Nat) (s : State) : GoesOn s (execAllocation t s) := by
  unfold execAllocation; extract_lets s₀ due s₁ s₂ s₃ s₄
  refine goesOn_at t ?_
  split
  · exact Later.refl _
  · have h₁ : Later s₀ s₁ := by simp only [s₁]; (repeat' split) <;> simp
    have h₂ : Later s₁ s₂ := by simp only [s₂]; split <;> simp
    have h₄ : Later s₂ s₄ := by simp [s₄, s₃]
    have h := (h₁.trans h₂).trans h₄
    split <;> exact (applyPlan_later _ _ _ (by simp)).after h
@[simp] theorem execArming_goesOn (t : Nat) (s : State) : GoesOn s (execArming t s) := by
  unfold execArming; dsimp only; (repeat' split) <;> simp
@[simp] theorem execRequestExpiry_goesOn (t : Nat) (s : State) : GoesOn s (execRequestExpiry t s) := by
  unfold execRequestExpiry; dsimp only; (repeat' split) <;> simp
@[simp] theorem execRestWindowGrant_goesOn (t : Nat) (i : Nat) (s : State) : GoesOn s (execRestWindowGrant t i s) := by
  unfold execRestWindowGrant; simp
@[simp] theorem execRestWindowEnd_goesOn (t : Nat) (i : Nat) (s : State) : GoesOn s (execRestWindowEnd t i s) := by
  unfold execRestWindowEnd; dsimp only; (repeat' split) <;> simp
@[simp] theorem execDspGetStatus_goesOn (q : Req) (s : State) : GoesOn s (execDspGetStatus q s) := by
  unfold execDspGetStatus; simp
@[simp] theorem execDspGetQueue_goesOn (q : Req) (s : State) : GoesOn s (execDspGetQueue q s) := by
  unfold execDspGetQueue; simp
@[simp] theorem execDspSetConfig_goesOn (q : Req) (s : State) : GoesOn s (execDspSetConfig q s) := by
  unfold execDspSetConfig; simp
@[simp] theorem execDspGetConfig_goesOn (q : Req) (s : State) : GoesOn s (execDspGetConfig q s) := by
  unfold execDspGetConfig; simp

/-! ## Balance -/

@[simp] theorem execPlanningCycle_goesOn (t : Nat) (i : Nat) (s : State) : GoesOn s (execPlanningCycle t i s) := by
  unfold execPlanningCycle; simp
@[simp] theorem execBalancingStop_goesOn (t : Nat) (i : Nat) (s : State) : GoesOn s (execBalancingStop t i s) := by
  unfold execBalancingStop; simp
@[simp] theorem execAllowanceChange_goesOn (t : Nat) (s : State) : GoesOn s (execAllowanceChange t s) := by
  unfold execAllowanceChange; simp
@[simp] theorem execBalSetConfig_goesOn (q : Req) (s : State) : GoesOn s (execBalSetConfig q s) := by
  unfold execBalSetConfig; simp
@[simp] theorem execBalGetConfig_goesOn (q : Req) (s : State) : GoesOn s (execBalGetConfig q s) := by
  unfold execBalGetConfig; simp
@[simp] theorem execBalSetBudget_goesOn (q : Req) (s : State) : GoesOn s (execBalSetBudget q s) := by
  unfold execBalSetBudget; simp
@[simp] theorem execBalHold_goesOn (q : Req) (s : State) : GoesOn s (execBalHold q s) := by
  unfold execBalHold; simp
@[simp] theorem execBalGetPlan_goesOn (q : Req) (s : State) : GoesOn s (execBalGetPlan q s) := by
  unfold execBalGetPlan; simp
@[simp] theorem execBalGetLedger_goesOn (q : Req) (s : State) : GoesOn s (execBalGetLedger q s) := by
  unfold execBalGetLedger; simp

/-! ## Can -/

@[simp] theorem execCanCtrlWrite_goesOn (t : Nat) (app : Bool) (c : Nat) (value : BitVec 32) (s : State) :
    GoesOn s (execCanCtrlWrite t app c value s) := by
  unfold execCanCtrlWrite; simp
@[simp] theorem execCanTxqPutWrite_goesOn (t : Nat) (app : Bool) (c put : Nat) (s : State) :
    GoesOn s (execCanTxqPutWrite t app c put s) := by
  unfold execCanTxqPutWrite; simp
@[simp] theorem execCanCancel_goesOn (t : Nat) (app : Bool) (c : Nat) (s : State) : GoesOn s (execCanCancel t app c s) := by
  unfold execCanCancel; simp
@[simp] theorem execTxHol_goesOn (t : Nat) (c : Nat) (s : State) : GoesOn s (execTxHol t c s) := by
  unfold execTxHol; simp
@[simp] theorem execCanFrameReceived_goesOn (t : Nat) (c : Nat) (f : CanFrame) (s : State) :
    GoesOn s (execCanFrameReceived t c f s) := by
  unfold execCanFrameReceived; simp
@[simp] theorem execCanRxqGetWrite_goesOn (t : Nat) (app : Bool) (c k get : Nat) (s : State) :
    GoesOn s (execCanRxqGetWrite t app c k get s) := by
  unfold execCanRxqGetWrite; simp
@[simp] theorem execCanTxComplete_goesOn (t : Nat) (c outcome : Nat) (s : State) :
    GoesOn s (execCanTxComplete t c outcome s) := by
  unfold execCanTxComplete; simp
@[simp] theorem execBusOff_goesOn (t : Nat) (c : Nat) (s : State) : GoesOn s (execBusOff t c s) := by
  unfold execBusOff; simp
@[simp] theorem execBusOffRecovery_goesOn (t : Nat) (c : Nat) (s : State) : GoesOn s (execBusOffRecovery t c s) := by
  unfold execBusOffRecovery; simp
@[simp] theorem execCanSetConfig_goesOn (q : Req) (s : State) : GoesOn s (execCanSetConfig q s) := by
  unfold execCanSetConfig; simp
@[simp] theorem execCanGetConfig_goesOn (q : Req) (s : State) : GoesOn s (execCanGetConfig q s) := by
  unfold execCanGetConfig; simp
@[simp] theorem execCanGetStatus_goesOn (q : Req) (s : State) : GoesOn s (execCanGetStatus q s) := by
  unfold execCanGetStatus; simp
@[simp] theorem execCanSetFilter_goesOn (q : Req) (s : State) : GoesOn s (execCanSetFilter q s) := by
  unfold execCanSetFilter; simp
@[simp] theorem execCanSend_goesOn (q : Req) (s : State) : GoesOn s (execCanSend q s) := by
  unfold execCanSend; simp
@[simp] theorem execCanRead_goesOn (q : Req) (s : State) : GoesOn s (execCanRead q s) := by
  unfold execCanRead; simp
@[simp] theorem execCanDelegate_goesOn (q : Req) (s : State) : GoesOn s (execCanDelegate q s) := by
  unfold execCanDelegate; dsimp only
  refine command_goesOn_of_later fun s => ?_
  generalize hu : List.foldl _ s _ = u
  have later : Later s u := hu ▸ Later.foldl (fun s c => (Later.foldl (fun s k => by simp) _ _).after (by simp)) _ _
  exact later.trans (by simp)

/-! ## Net -/

@[simp] theorem execNetSetPort_goesOn (q : Req) (s : State) : GoesOn s (execNetSetPort q s) := by
  unfold execNetSetPort; simp
@[simp] theorem execNetGetPort_goesOn (q : Req) (s : State) : GoesOn s (execNetGetPort q s) := by
  unfold execNetGetPort; simp
@[simp] theorem execNetGetStats_goesOn (q : Req) (s : State) : GoesOn s (execNetGetStats q s) := by
  unfold execNetGetStats; simp
@[simp] theorem execNetSetMgmt_goesOn (q : Req) (s : State) : GoesOn s (execNetSetMgmt q s) := by
  unfold execNetSetMgmt; simp
@[simp] theorem execNetGetMgmt_goesOn (q : Req) (s : State) : GoesOn s (execNetGetMgmt q s) := by
  unfold execNetGetMgmt; simp
@[simp] theorem execEthFrameReceived_goesOn (t : Nat) (port : Nat) (f : EthFrame) (s : State) :
    GoesOn s (execEthFrameReceived t port f s) := by
  unfold execEthFrameReceived; simp
@[simp] theorem execLinkLossReturn_goesOn (t : Nat) (port : Nat) (up : Bool) (s : State) :
    GoesOn s (execLinkLossReturn t port up s) := by
  unfold execLinkLossReturn; simp

/-! ## Boot -/

@[simp] theorem execBootListenEnd_goesOn (t : Nat) (s : State) : GoesOn s (execBootListenEnd t s) := by
  unfold execBootListenEnd; dsimp only; (repeat' split) <;> simp
@[simp] theorem execSysRestart_goesOn (q : Req) (s : State) : GoesOn s (execSysRestart q s) :=
  command_goesOn_of_later fun _ => (enterBoot_later _ _).after (by simp)

/-! ## PeatLog -/

@[simp] theorem execRecordSubmit_goesOn (t : Nat) (r : PeatIn) (s : State) : GoesOn s (execRecordSubmit t r s) := by
  unfold execRecordSubmit; simp
@[simp] theorem execDormantRecordFlush_goesOn (t : Nat) (s : State) : GoesOn s (execDormantRecordFlush t s) := by
  unfold execDormantRecordFlush; simp
@[simp] theorem execLogGetStatus_goesOn (q : Req) (s : State) : GoesOn s (execLogGetStatus q s) := by
  unfold execLogGetStatus; simp
@[simp] theorem execLogRead_goesOn (q : Req) (s : State) : GoesOn s (execLogRead q s) := by
  unfold execLogRead; simp
@[simp] theorem execLogClear_goesOn (q : Req) (s : State) : GoesOn s (execLogClear q s) := by
  unfold execLogClear; simp

/-! ## Seq -/

@[simp] theorem execOnRequest_goesOn (t : Nat) (src : OnSource) (s : State) : GoesOn s (execOnRequest t src s) :=
  goesOn_at t (onRequest_later _ _)
@[simp] theorem execMinimumOffTimeEnd_goesOn (t : Nat) (s : State) : GoesOn s (execMinimumOffTimeEnd t s) := by
  unfold execMinimumOffTimeEnd; dsimp only
  refine goesOn_at t ?_
  split
  · exact Later.refl _
  split
  · exact Later.trans (by simp) (serveOn_later _ _)
  · exact Later.refl _
@[simp] theorem execSeqWatchEnd_goesOn (t : Nat) (seen : LineSeen) (s : State) : GoesOn s (execSeqWatchEnd t seen s) := by
  unfold execSeqWatchEnd; dsimp only
  refine goesOn_at t ?_
  split
  · exact Later.refl _
  split
  · exact beginPowerup_later _ _
  · exact beginPowerup_later _ _
  · split <;> simp
@[simp] theorem execSystemPowerUpStart_goesOn (t : Nat) (s : State) : GoesOn s (execSystemPowerUpStart t s) := by
  unfold execSystemPowerUpStart; dsimp only
  refine goesOn_at t ?_
  split
  · exact onRequest_later _ _
  · exact Later.refl _
@[simp] theorem execPowerupStepDone_goesOn (t : Nat) (failing : BitVec 8) (s : State) :
    GoesOn s (execPowerupStepDone t failing s) := by
  unfold execPowerupStepDone; dsimp only
  refine goesOn_at t ?_
  generalize s.advance t = s
  split
  · exact Later.refl _
  split
  · simp
  · refine (Later.foldl (fun s i => by simp) _ _).after ?_
    generalize hu : enterBoot _ 0 = u
    have later : Later s u := hu ▸ (enterBoot_later _ _).after (by simp)
    exact later.trans (by simp)
@[simp] theorem execPowerUpFailure_goesOn (t : Nat) (s : State) : GoesOn s (execPowerUpFailure t s) := by
  unfold execPowerUpFailure; simp
@[simp] theorem execPreOffSteps_goesOn (t : Nat) (s : State) : GoesOn s (execPreOffSteps t s) := by
  unfold execPreOffSteps; simp
@[simp] theorem execPreOffDisconnect_goesOn (t : Nat) (s : State) : GoesOn s (execPreOffDisconnect t s) := by
  unfold execPreOffDisconnect; simp
@[simp] theorem execRailStart_goesOn (t : Nat) (r : Nat) (s : State) : GoesOn s (execRailStart t r s) := by
  unfold execRailStart; dsimp only; (repeat' split) <;> simp
@[simp] theorem execRailGood_goesOn (t : Nat) (r : Nat) (s : State) : GoesOn s (execRailGood t r s) := by
  unfold execRailGood; dsimp only; (repeat' split) <;> simp
@[simp] theorem execStartFailure_goesOn (t : Nat) (r : Nat) (s : State) : GoesOn s (execStartFailure t r s) := by
  unfold execStartFailure; dsimp only; (repeat' split) <;> simp
@[simp] theorem execRailDischarge_goesOn (t : Nat) (r : Nat) (below : Bool) (s : State) :
    GoesOn s (execRailDischarge t r below s) := by
  unfold execRailDischarge; dsimp only; (repeat' split) <;> simp
@[simp] theorem execSeqStep_goesOn (t : Nat) (s : State) : GoesOn s (execSeqStep t s) := by
  unfold execSeqStep; dsimp only; (repeat' split) <;> simp
@[simp] theorem execReverseMarker_goesOn (t : Nat) (s : State) : GoesOn s (execReverseMarker t s) := by
  unfold execReverseMarker; simp
@[simp] theorem execUpBeacon_goesOn (t : Nat) (s : State) : GoesOn s (execUpBeacon t s) := by
  unfold execUpBeacon; simp
@[simp] theorem execSystemPowerDownStart_goesOn (t : Nat) (s : State) : GoesOn s (execSystemPowerDownStart t s) := by
  unfold execSystemPowerDownStart; dsimp only; (repeat' split) <;> simp
@[simp] theorem execStuckLine_goesOn (t : Nat) (s : State) : GoesOn s (execStuckLine t s) := by
  unfold execStuckLine; simp
@[simp] theorem execSeqCinHigh_goesOn (t : Nat) (s : State) : GoesOn s (execSeqCinHigh t s) := by
  unfold execSeqCinHigh; simp
@[simp] theorem execRunningRailFault_goesOn (t : Nat) (r : Nat) (s : State) : GoesOn s (execRunningRailFault t r s) := by
  unfold execRunningRailFault; dsimp only; (repeat' split) <;> simp
@[simp] theorem execRailFaultHoldEnd_goesOn (t : Nat) (r : Nat) (s : State) : GoesOn s (execRailFaultHoldEnd t r s) := by
  unfold execRailFaultHoldEnd; simp
@[simp] theorem execPbNPress_goesOn (t : Nat) (heldMs : Nat) (s : State) : GoesOn s (execPbNPress t heldMs s) := by
  unfold execPbNPress; dsimp only
  refine goesOn_at t ?_
  split
  · exact Later.refl _
  split
  · split
    · split
      · exact onRequest_later _ _
      · exact Later.refl _
    · simp
  · simp
@[simp] theorem execForcedOff_goesOn (t : Nat) (s : State) : GoesOn s (execForcedOff t s) := by
  unfold execForcedOff; simp
@[simp] theorem execMrN_goesOn (t : Nat) (s : State) : GoesOn s (execMrN t s) := by
  unfold execMrN; simp
@[simp] theorem execMrNRelease_goesOn (t : Nat) (s : State) : GoesOn s (execMrNRelease t s) := by
  unfold execMrNRelease; dsimp only
  refine goesOn_at t ?_
  split
  · exact Later.refl _
  split
  · simp
  split
  · simp
  · exact Later.trans (by simp) (enterBoot_later _ _)
@[simp] theorem execSeqSetTable_goesOn (q : Req) (s : State) : GoesOn s (execSeqSetTable q s) := by
  unfold execSeqSetTable; simp
@[simp] theorem execSeqGetTable_goesOn (q : Req) (s : State) : GoesOn s (execSeqGetTable q s) := by
  unfold execSeqGetTable; simp
@[simp] theorem execSeqGetStatus_goesOn (q : Req) (s : State) : GoesOn s (execSeqGetStatus q s) := by
  unfold execSeqGetStatus; simp
@[simp] theorem execSeqOff_goesOn (q : Req) (s : State) : GoesOn s (execSeqOff q s) := by
  unfold execSeqOff; simp
@[simp] theorem execSeqCancelOff_goesOn (q : Req) (s : State) : GoesOn s (execSeqCancelOff q s) := by
  unfold execSeqCancelOff; simp

/-! ## Sys -/

@[simp] theorem execSysEcho_goesOn (q : Req) (s : State) : GoesOn s (execSysEcho q s) := by
  unfold execSysEcho; simp
@[simp] theorem execSysGetInfo_goesOn (q : Req) (s : State) : GoesOn s (execSysGetInfo q s) := by
  unfold execSysGetInfo; simp
@[simp] theorem execSysGetStatus_goesOn (q : Req) (s : State) : GoesOn s (execSysGetStatus q s) := by
  unfold execSysGetStatus; simp
@[simp] theorem execSysSetPowerPolicy_goesOn (q : Req) (s : State) : GoesOn s (execSysSetPowerPolicy q s) := by
  unfold execSysSetPowerPolicy; simp
@[simp] theorem execSysGetPowerState_goesOn (q : Req) (s : State) : GoesOn s (execSysGetPowerState q s) := by
  unfold execSysGetPowerState; simp
@[simp] theorem execSysSetVbak_goesOn (q : Req) (s : State) : GoesOn s (execSysSetVbak q s) := by
  unfold execSysSetVbak; simp
@[simp] theorem execSysSetAlarm_goesOn (q : Req) (s : State) : GoesOn s (execSysSetAlarm q s) := by
  unfold execSysSetAlarm; simp
@[simp] theorem execSysWinAlloc_goesOn (q : Req) (s : State) : GoesOn s (execSysWinAlloc q s) := by
  unfold execSysWinAlloc; simp
@[simp] theorem execSysWinFree_goesOn (q : Req) (s : State) : GoesOn s (execSysWinFree q s) := by
  unfold execSysWinFree; simp
@[simp] theorem execSysSetSlots_goesOn (q : Req) (s : State) : GoesOn s (execSysSetSlots q s) := by
  unfold execSysSetSlots; simp

/-! ## Power -/

@[simp] theorem execVinLoss_goesOn (t : Nat) (vin : Nat) (s : State) : GoesOn s (execVinLoss t vin s) := by
  unfold execVinLoss; dsimp only; (repeat' split) <;> simp
@[simp] theorem execVinReturn_goesOn (t : Nat) (vin : Nat) (s : State) : GoesOn s (execVinReturn t vin s) := by
  unfold execVinReturn; dsimp only
  refine goesOn_at t ?_
  split
  · exact Later.refl _
  split
  · split <;> simp
  · split
    · exact Later.trans (by simp) (onRequest_later _ _)
    · simp
  · simp
  · simp
@[simp] theorem execHoldupSwapRequest_goesOn (t : Nat) (s : State) : GoesOn s (execHoldupSwapRequest t s) := by
  unfold execHoldupSwapRequest; simp
@[simp] theorem execHoldupRampStep_goesOn (t : Nat) (s : State) : GoesOn s (execHoldupRampStep t s) := by
  unfold execHoldupRampStep; simp
@[simp] theorem execHoldupDisconnectStep_goesOn (t : Nat) (s : State) : GoesOn s (execHoldupDisconnectStep t s) := by
  unfold execHoldupDisconnectStep; simp
@[simp] theorem execMramWriteback_goesOn (t : Nat) (s : State) : GoesOn s (execMramWriteback t s) := by
  unfold execMramWriteback; simp
@[simp] theorem execRetentionEntry_goesOn (t : Nat) (s : State) : GoesOn s (execRetentionEntry t s) := by
  unfold execRetentionEntry; simp
@[simp] theorem execVbakCritical_goesOn (t : Nat) (vbak : Nat) (s : State) : GoesOn s (execVbakCritical t vbak s) := by
  unfold execVbakCritical; simp
@[simp] theorem execVbakRetentionFloor_goesOn (t : Nat) (vbak : Nat) (s : State) :
    GoesOn s (execVbakRetentionFloor t vbak s) := by
  unfold execVbakRetentionFloor; simp
@[simp] theorem execEAvailUpdate_goesOn (t : Nat) (vbak : Nat) (s : State) : GoesOn s (execEAvailUpdate t vbak s) := by
  unfold execEAvailUpdate; simp
@[simp] theorem execCapacitanceMeasurement_goesOn (t : Nat) (droop esr : Nat) (s : State) :
    GoesOn s (execCapacitanceMeasurement t droop esr s) := by
  unfold execCapacitanceMeasurement; simp
@[simp] theorem execFloatEntry_goesOn (t : Nat) (s : State) : GoesOn s (execFloatEntry t s) := by
  unfold execFloatEntry; simp
@[simp] theorem execFloatExit_goesOn (t : Nat) (s : State) : GoesOn s (execFloatExit t s) := by
  unfold execFloatExit; simp
@[simp] theorem execFloatClockRaise_goesOn (t : Nat) (instant : Nat) (s : State) :
    GoesOn s (execFloatClockRaise t instant s) := by
  unfold execFloatClockRaise; simp
@[simp] theorem execDormantEntry_goesOn (t : Nat) (s : State) : GoesOn s (execDormantEntry t s) := by
  unfold execDormantEntry; simp
@[simp] theorem execWakeEvent_goesOn (t : Nat) (w : WakeCause) (s : State) : GoesOn s (execWakeEvent t w s) := by
  unfold execWakeEvent; simp
@[simp] theorem execClockFailure_goesOn (t : Nat) (d : ClockDomain) (s : State) : GoesOn s (execClockFailure t d s) := by
  unfold execClockFailure; dsimp only; (repeat' split) <;> simp
@[simp] theorem execXrefRetry_goesOn (t : Nat) (ok : Bool) (s : State) : GoesOn s (execXrefRetry t ok s) := by
  unfold execXrefRetry; simp
@[simp] theorem execSupRestart_goesOn (t : Nat) (s : State) : GoesOn s (execSupRestart t s) := by
  unfold execSupRestart; simp
@[simp] theorem execImbalance_goesOn (t : Nat) (row obj : Nat) (amount : Int) (s : State) :
    GoesOn s (execImbalance t row obj amount s) := by
  unfold execImbalance; dsimp only; (repeat' split) <;> simp

/-! ## Strings -/

@[simp] theorem execStrGetState_goesOn (q : Req) (s : State) : GoesOn s (execStrGetState q s) := by
  unfold execStrGetState; simp
@[simp] theorem execStrConnect_goesOn (q : Req) (s : State) : GoesOn s (execStrConnect q s) := by
  unfold execStrConnect; simp
@[simp] theorem execStrDisconnect_goesOn (q : Req) (s : State) : GoesOn s (execStrDisconnect q s) := by
  unfold execStrDisconnect; dsimp only
  refine strCommand_goesOn _ _ _ _ _ fun s i => ?_
  split
  · simp
  · split <;> simp
@[simp] theorem execStrRegulate_goesOn (q : Req) (s : State) : GoesOn s (execStrRegulate q s) := by
  unfold execStrRegulate; simp
@[simp] theorem execStrIdle_goesOn (q : Req) (s : State) : GoesOn s (execStrIdle q s) := by
  unfold execStrIdle; simp
@[simp] theorem execStrReset_goesOn (q : Req) (s : State) : GoesOn s (execStrReset q s) := by
  unfold execStrReset; simp
@[simp] theorem execStrRetire_goesOn (q : Req) (s : State) : GoesOn s (execStrRetire q s) := by
  unfold execStrRetire; simp
@[simp] theorem execStrRestore_goesOn (q : Req) (s : State) : GoesOn s (execStrRestore q s) := by
  unfold execStrRestore; simp
@[simp] theorem execDeadlineFault_goesOn (t : Nat) (e : Engine) (s : State) : GoesOn s (execDeadlineFault t e s) := by
  unfold execDeadlineFault; dsimp only; (repeat' split) <;> simp

/-! ## Time -/

@[simp] theorem execTriggerFire_goesOn (t : Nat) (n : Nat) (s : State) : GoesOn s (execTriggerFire t n s) := by
  unfold execTriggerFire; simp
@[simp] theorem execTsuTrgCtrlWrite_goesOn (t : Nat) (app : Bool) (n : Nat) (value : BitVec 32) (s : State) :
    GoesOn s (execTsuTrgCtrlWrite t app n value s) := by
  unfold execTsuTrgCtrlWrite; simp
@[simp] theorem execTsuSnapWrite_goesOn (t : Nat) (value : BitVec 32) (s : State) :
    GoesOn s (execTsuSnapWrite t value s) := by
  unfold execTsuSnapWrite; simp
@[simp] theorem execTsuEvtClear_goesOn (t : Nat) (app : Bool) (mask : BitVec 32) (s : State) :
    GoesOn s (execTsuEvtClear t app mask s) := by
  unfold execTsuEvtClear; simp
@[simp] theorem execCaptureEdge_goesOn (t : Nat) (n : Nat) (rising : Bool) (frac levelNs : Nat) (s : State) :
    GoesOn s (execCaptureEdge t n rising frac levelNs s) := by
  unfold execCaptureEdge; simp
@[simp] theorem execTsuCapPop_goesOn (t : Nat) (app : Bool) (n : Nat) (s : State) : GoesOn s (execTsuCapPop t app n s) := by
  unfold execTsuCapPop; simp
@[simp] theorem execSyncMessage_goesOn (t : Nat) (port domain : Nat) (offset : Int) (s : State) :
    GoesOn s (execSyncMessage t port domain offset s) := by
  unfold execSyncMessage; simp
@[simp] theorem execAnnounce_goesOn (t : Nat) (port domain : Nat) (m : Master) (s : State) :
    GoesOn s (execAnnounce t port domain m s) := by
  unfold execAnnounce; simp
@[simp] theorem execAnnounceTimeout_goesOn (t : Nat) (port : Nat) (s : State) : GoesOn s (execAnnounceTimeout t port s) := by
  unfold execAnnounceTimeout; simp
@[simp] theorem execPdelayReq_goesOn (t : Nat) (port domain turnaround : Nat) (s : State) :
    GoesOn s (execPdelayReq t port domain turnaround s) := by
  unfold execPdelayReq; simp
@[simp] theorem execPdelayMeasurement_goesOn (t : Nat) (port delay : Nat) (s : State) :
    GoesOn s (execPdelayMeasurement t port delay s) := by
  unfold execPdelayMeasurement; simp
@[simp] theorem execServoUpdate_goesOn (t : Nat) (src : TimeSource) (offset : Int) (s : State) :
    GoesOn s (execServoUpdate t src offset s) := by
  unfold execServoUpdate; dsimp only
  refine goesOn_at t ?_
  split
  · exact Later.refl _
  · refine Later.of_keeps (by simp) (by simp) (by simp) ?_
    rw [State.setTsu_sizes]
    · simp
    · intro x; (repeat' split) <;> simp [toLocking]
@[simp] theorem execHoldoverExpiry_goesOn (t : Nat) (s : State) : GoesOn s (execHoldoverExpiry t s) := by
  unfold execHoldoverExpiry; simp
@[simp] theorem execPpsInEdge_goesOn (t : Nat) (s : State) : GoesOn s (execPpsInEdge t s) := by
  unfold execPpsInEdge; simp
@[simp] theorem execTimGetTime_goesOn (q : Req) (s : State) : GoesOn s (execTimGetTime q s) := by
  unfold execTimGetTime; simp
@[simp] theorem execTimGetStatus_goesOn (q : Req) (s : State) : GoesOn s (execTimGetStatus q s) := by
  unfold execTimGetStatus; simp
@[simp] theorem execTimSetConfig_goesOn (q : Req) (s : State) : GoesOn s (execTimSetConfig q s) := by
  unfold execTimSetConfig; simp
@[simp] theorem execTimGetConfig_goesOn (q : Req) (s : State) : GoesOn s (execTimGetConfig q s) := by
  unfold execTimGetConfig; simp
@[simp] theorem execTimSetTime_goesOn (q : Req) (s : State) : GoesOn s (execTimSetTime q s) := by
  unfold execTimSetTime; simp
@[simp] theorem execTimSetTrigger_goesOn (q : Req) (s : State) : GoesOn s (execTimSetTrigger q s) := by
  unfold execTimSetTrigger; simp
@[simp] theorem execTimGetTrigger_goesOn (q : Req) (s : State) : GoesOn s (execTimGetTrigger q s) := by
  unfold execTimGetTrigger; simp
@[simp] theorem execTimSetCapture_goesOn (q : Req) (s : State) : GoesOn s (execTimSetCapture q s) := by
  unfold execTimSetCapture; simp
@[simp] theorem execTimReadCapture_goesOn (q : Req) (s : State) : GoesOn s (execTimReadCapture q s) := by
  unfold execTimReadCapture; simp
@[simp] theorem execTimDelegate_goesOn (q : Req) (s : State) : GoesOn s (execTimDelegate q s) := by
  unfold execTimDelegate; simp

/-! ## Update -/

@[simp] theorem execUpdBegin_goesOn (q : Req) (s : State) : GoesOn s (execUpdBegin q s) := by
  unfold execUpdBegin; simp
@[simp] theorem execUpdChunk_goesOn (q : Req) (s : State) : GoesOn s (execUpdChunk q s) := by
  unfold execUpdChunk
  refine command_goesOn_of_later fun s => ?_
  extract_lets b t
  generalize takeChunks _ _ _ _ _ = r
  obtain ⟨x, stop⟩ := r
  cases stop <;> simp
@[simp] theorem execChunkFlush_goesOn (t : Nat) (s : State) : GoesOn s (execChunkFlush t s) := by
  unfold execChunkFlush; simp
@[simp] theorem execUpdVerify_goesOn (q : Req) (s : State) : GoesOn s (execUpdVerify q s) := by
  unfold execUpdVerify; dsimp only
  refine command_goesOn _ _ _ _ fun s => ?_
  (repeat' split) <;> simp
@[simp] theorem execPreEraseComplete_goesOn (t : Nat) (s : State) : GoesOn s (execPreEraseComplete t s) := by
  unfold execPreEraseComplete; simp
@[simp] theorem execUpdActivate_goesOn (q : Req) (s : State) : GoesOn s (execUpdActivate q s) := by
  unfold execUpdActivate; dsimp only
  exact command_goesOn_of_later fun s => activate_later s q
@[simp] theorem execRecoveryEntry_goesOn (t : Nat) (s : State) : GoesOn s (execRecoveryEntry t s) := by
  unfold execRecoveryEntry; dsimp only; (repeat' split) <;> simp
@[simp] theorem execSupHandoverAdopt_goesOn (t : Nat) (good : Bool) (s : State) :
    GoesOn s (execSupHandoverAdopt t good s) := by
  unfold execSupHandoverAdopt; dsimp only; (repeat' split) <;> simp
@[simp] theorem execHandoverWindowExceeded_goesOn (t : Nat) (s : State) : GoesOn s (execHandoverWindowExceeded t s) := by
  unfold execHandoverWindowExceeded; dsimp only; (repeat' split) <;> simp
@[simp] theorem execSpActivationTimeout_goesOn (t : Nat) (s : State) : GoesOn s (execSpActivationTimeout t s) := by
  unfold execSpActivationTimeout; dsimp only; (repeat' split) <;> simp
@[simp] theorem execTrialConfirmation_goesOn (t : Nat) (part : Nat) (s : State) :
    GoesOn s (execTrialConfirmation t part s) := by
  unfold execTrialConfirmation; simp
@[simp] theorem execTrialWindowExpiry_goesOn (t : Nat) (part : Nat) (s : State) :
    GoesOn s (execTrialWindowExpiry t part s) := by
  unfold execTrialWindowExpiry; simp
@[simp] theorem execFallback_goesOn (t : Nat) (part : Nat) (s : State) : GoesOn s (execFallback t part s) := by
  unfold execFallback; simp
@[simp] theorem execImageBootCheck_goesOn (t : Nat) (s : State) : GoesOn s (execImageBootCheck t s) := by
  unfold execImageBootCheck; dsimp only; (repeat' split) <;> simp
@[simp] theorem execFwBegin_goesOn (t : Nat) (i m len : Nat) (s : State) : GoesOn s (execFwBegin t i m len s) := by
  unfold execFwBegin; simp
@[simp] theorem execFwData_goesOn (t : Nat) (i m offset : Nat) (bytes : List Byte) (s : State) :
    GoesOn s (execFwData t i m offset bytes s) := by
  unfold execFwData; simp
@[simp] theorem execFwEnd_goesOn (t : Nat) (i m crc : Nat) (s : State) : GoesOn s (execFwEnd t i m crc s) := by
  unfold execFwEnd; simp
@[simp] theorem execFwSwitch_goesOn (t : Nat) (i m : Nat) (startsOk : Bool) (s : State) :
    GoesOn s (execFwSwitch t i m startsOk s) := by
  unfold execFwSwitch; simp
@[simp] theorem execMonitorReturnTimeout_goesOn (t : Nat) (i m : Nat) (s : State) :
    GoesOn s (execMonitorReturnTimeout t i m s) := by
  unfold execMonitorReturnTimeout; dsimp only; (repeat' split) <;> simp
@[simp] theorem execDriverConfigLoad_goesOn (t : Nat) (cx : Bool) (driver : Nat) (accepted : Bool) (s : State) :
    GoesOn s (execDriverConfigLoad t cx driver accepted s) := by
  unfold execDriverConfigLoad; dsimp only; (repeat' split) <;> simp
@[simp] theorem execUpdConfirm_goesOn (q : Req) (s : State) : GoesOn s (execUpdConfirm q s) := by
  unfold execUpdConfirm; simp
@[simp] theorem execUpdAbort_goesOn (q : Req) (s : State) : GoesOn s (execUpdAbort q s) := by
  unfold execUpdAbort; dsimp only
  refine command_goesOn _ _ _ _ fun s => ?_
  (repeat' split) <;> simp
@[simp] theorem execUpdGetStatus_goesOn (q : Req) (s : State) : GoesOn s (execUpdGetStatus q s) := by
  unfold execUpdGetStatus; simp
@[simp] theorem execUpdGetVersions_goesOn (q : Req) (s : State) : GoesOn s (execUpdGetVersions q s) := by
  unfold execUpdGetVersions; simp

/-! ## Hostif -/

@[simp] theorem execDescriptorOwnWrite_goesOn (t : Nat) (port : Port) (desc value : Nat) (partialWrite : Bool) (s : State) :
    GoesOn s (execDescriptorOwnWrite t port desc value partialWrite s) := by
  unfold execDescriptorOwnWrite; simp
@[simp] theorem execQspiRead_goesOn (t : Nat) (addr len : Nat) (s : State) : GoesOn s (execQspiRead t addr len s) := by
  unfold execQspiRead; dsimp only; (repeat' split) <;> simp
@[simp] theorem execQspiWrite_goesOn (t : Nat) (addr : Nat) (bytes : List Byte) (cut : Bool) (s : State) :
    GoesOn s (execQspiWrite t addr bytes cut s) := by
  unfold execQspiWrite; dsimp only; (repeat' split) <;> simp
@[simp] theorem execQspiStatus_goesOn (t : Nat) (s : State) : GoesOn s (execQspiStatus t s) := by
  unfold execQspiStatus; simp
@[simp] theorem execHprDoorbellWrite_goesOn (t : Nat) (port : Port) (mask : BitVec 16) (s : State) :
    GoesOn s (execHprDoorbellWrite t port mask s) := by
  unfold execHprDoorbellWrite; simp
@[simp] theorem execHprDoneClear_goesOn (t : Nat) (port : Port) (mask : BitVec 16) (s : State) :
    GoesOn s (execHprDoneClear t port mask s) := by
  unfold execHprDoneClear; simp
@[simp] theorem execHprErrClear_goesOn (t : Nat) (mask : BitVec 32) (s : State) : GoesOn s (execHprErrClear t mask s) := by
  unfold execHprErrClear; simp
@[simp] theorem execHprHbTick_goesOn (t : Nat) (s : State) : GoesOn s (execHprHbTick t s) := by
  unfold execHprHbTick; simp
@[simp] theorem execRegisterWrite_goesOn (t : Nat) (a : RegAgent) (r : RegAddr) (value : BitVec 32) (s : State) :
    GoesOn s (execRegisterWrite t a r value s) := by
  unfold execRegisterWrite; dsimp only; (repeat' split) <;> simp
theorem byOpcode_goesOn {op : Nat} {run : Req → State → Out State} (h : byOpcode op = some run) (q : Req) (s : State) :
    GoesOn s (run q s) := by
  unfold byOpcode at h
  split at h
  all_goals cases h
  all_goals simp

@[simp] theorem execSlotTake_goesOn (t : Nat) (s : State) : GoesOn s (execSlotTake t s) := by
  unfold execSlotTake; extract_lets s₁
  have h₁ : Later s s₁ := (admitWaiting_later 16 _).after (s.later_advance t)
  refine GoesOn.of_later h₁ ?_
  split
  · simp
  · split
    · simp
    · extract_lets s₂
      refine GoesOn.of_later (u := s₂) (by simp [s₂]) ?_
      dsimp only
      split
      next run h => exact byOpcode_goesOn h _ _
      next => simp
@[simp] theorem execMgmtRequest_goesOn (t : Nat) (net src : Nat) (frame : List Byte) (s : State) :
    GoesOn s (execMgmtRequest t net src frame s) := by
  unfold execMgmtRequest; extract_lets s₁
  refine (goesOn_next _ _).2 (Later.after ?_ ((admitWaiting_later 16 _).after (s.later_advance t)))
  refine mgmtFrame_later _ _ _ _ _ _ fun s k body => ?_
  split
  · simp
  split
  · simp
  · split <;> simp
@[simp] theorem execMgmtWaitTimeout_goesOn (t : Nat) (s : State) : GoesOn s (execMgmtWaitTimeout t s) := by
  unfold execMgmtWaitTimeout; dsimp only; (repeat' split) <;> simp
@[simp] theorem execWinRead_goesOn (t : Nat) (net src : Nat) (frame : List Byte) (s : State) :
    GoesOn s (execWinRead t net src frame s) := by
  unfold execWinRead; simp
@[simp] theorem execWinWrite_goesOn (t : Nat) (net src : Nat) (frame : List Byte) (s : State) :
    GoesOn s (execWinWrite t net src frame s) := by
  unfold execWinWrite; dsimp only
  refine goesOn_at t (mgmtFrame_later _ _ _ _ _ _ fun s k body => ?_)
  split
  · simp
  · split <;> simp
@[simp] theorem execWake_goesOn (t : Nat) (net : Nat) (frame : List Byte) (s : State) :
    GoesOn s (execWake t net frame s) := by
  unfold execWake; simp

/-! ## Peer -/

@[simp] theorem execPeerMessage_goesOn (t : Nat) (m : PeerMsg) (s : State) : GoesOn s (execPeerMessage t m s) := by
  unfold execPeerMessage; dsimp only; (repeat' split) <;> simp
@[simp] theorem execShadow_goesOn (t : Nat) (v : ShadowValue) (s : State) : GoesOn s (execShadow t v s) := by
  unfold execShadow; simp

end Sys2Proof.Machine
end

section
/-! SUPPORT. Every command and every step, and the two statements they settle. -/

namespace Sys2Proof.Machine

theorem exec_goesOn (c : Instr) (s : State) : GoesOn s (exec c s) := by
  cases c <;> (unfold exec; simp)

theorem step_population {s u : State} (h : step s = .next u) (hs : s.sizes = population) : u.sizes = population := by
  unfold step at h
  split at h
  · cases h; exact hs
  next c rest _ =>
    obtain ⟨v, hv, -, -, -, hp⟩ := exec_goesOn c { s with pending := rest }
    cases hv.symm.trans h
    exact hp hs

/-- Settles O51: no command changes a length of the population, and a step runs one. -/
theorem stepKeepsSizes : Obligations.StepKeepsSizes := by
  intro s u hs h
  rw [sized_iff] at hs ⊢
  exact step_population h hs

/-- Settles O56, by the law of each command. -/
theorem everyCommandGoesOn : Obligations.EveryCommandGoesOn := by
  intro c s
  obtain ⟨u, hu, hq, hv, ht, -⟩ := exec_goesOn c s
  exact ⟨u, hu, hq, hv, ht⟩

end Sys2Proof.Machine
end

section
/-! SUPPORT. The state after reset: its interrupt sources bank by bank, and the statement on it. -/

namespace Sys2Proof.Machine

/-- Of the private sources only 0 to 2 of HOST are unmasked after reset (17_app_core_icu.md R492). -/
theorem reset_private_source : ∀ g : Target, ∀ n < 32, (State.reset.srcAt g n).mask = !(g == .host && decide (n < 3)) ∧
    (State.reset.srcAt g n).pend = false ∧ (State.reset.srcAt g n).active = none := by
  intro g
  cases g <;> decide +kernel

theorem reset_shared_source (g : Target) (n : Nat) (h : 32 ≤ n) : (State.reset.srcAt g n).mask = true ∧
    (State.reset.srcAt g n).pend = false ∧ (State.reset.srcAt g n).active = none := by
  have hs : State.reset.srcAt g n = State.reset.icu.shared.getD (n - 32) {} := if_neg (by omega)
  have hall : ∀ x ∈ State.reset.icu.shared, x.mask = true ∧ x.pend = false ∧ x.active = none := by decide +kernel
  rw [hs, List.getD_eq_getElem?_getD]
  cases hx : State.reset.icu.shared[n - 32]? with
  | none => exact ⟨rfl, rfl, rfl⟩
  | some x => exact hall x (List.mem_of_getElem? hx)

theorem getD_replicate_default {α : Type} (n i : Nat) (d : α) : (List.replicate n d).getD i d = d := by
  rw [List.getD_eq_getElem?_getD, List.getElem?_replicate]
  split <;> rfl

theorem reset_balAt (i : Nat) : State.reset.balAt i = {} := getD_replicate_default 8 i ({} : Bal)

theorem reset_strAt (i : Nat) : State.reset.strAt i = {} := getD_replicate_default 8 i ({} : Str)

theorem reset_logOk : LogOk State.reset.plg :=
  ⟨rfl, by decide, by decide, rfl, fun _ _ h => by cases h⟩

/-- Settles O49: the parts stand at their defaults, and the sources of the private and of the shared banks as R492 has them. -/
theorem resetState : Obligations.ResetState := by
  refine ⟨fun i _ => ⟨rfl, rfl, rfl, rfl, rfl, (sized_iff _).mpr rfl, ?books, reset_logOk, ?str⟩, fun g n _ => ?src⟩
  case books => intro i; rw [reset_balAt]; decide
  case str => rw [reset_strAt]
  case src =>
    by_cases hn : n < 32
    · exact reset_private_source g n hn
    · obtain ⟨hm, hp, ha⟩ := reset_shared_source g n (by omega)
      have h3 : ¬ n < 3 := by omega
      simp [hm, hp, ha, h3]

end Sys2Proof.Machine
end

section
/-! SUPPORT. STR_RESTORE of a RETIRED string whose tier is below M (01_system.md R25, 18_faults_peat_log.md R497). -/

namespace Sys2Proof.Machine

/-- An ACTIVE unit with string 7 RETIRED, no unit retired, and no ring declared, so that every string is of tier SAFE (R28). -/
def ringlessUnit : State :=
  { State.reset with
    unit := .active
    pwr := { State.reset.pwr with state := .active }
    hpr := { State.reset.hpr with ready := true }
    str := List.replicate 7 {} ++ [{ state := .retired }]
    flt := { State.reset.flt with retiredStr := [7] } }

/-- A request of HOST that names object 7 and no descriptor. -/
def nameString7 : Req :=
  { port := .host, slot := none, seq := 1, retry := false, noIrq := false, payload := [7, 0, 255, 255], envBad := none }

/-- The command is over at once with FAILED, detail 1, and leaves the string RETIRED, as R497 has it for a tier below M. -/
theorem strRestore_belowTierM_fails : ∃ u, exec (.strRestore nameString7) ringlessUnit = .next u ∧
    (u.strAt 7).state = .retired ∧ Answered u nameString7 0x0208 stFailed 1 [] :=
  ⟨_, rfl, by decide +kernel⟩

/-- Refutes O20: its clause on STR_RESTORE of a RETIRED string with no unit to test leaves out the condition of R25 and R497
that the string's tier be M or F. Without its ring a string is of tier SAFE, with nothing lost for good; it stays RETIRED. -/
theorem not_stringCommands : ¬ Obligations.StringCommands := by
  unfold Obligations.StringCommands
  rintro ⟨-, -, -, -, -, -, -, -, -, endsRetirement, -⟩
  obtain ⟨u, hu, hisolated, -⟩ := endsRetirement ringlessUnit nameString7 7 (by decide +kernel) (by decide +kernel)
    (by decide +kernel) (by decide +kernel) (by decide +kernel) (by decide +kernel) (by decide +kernel) (by decide +kernel)
    (by decide +kernel) (by decide +kernel) (by decide +kernel)
  obtain ⟨v, hv, hretired, -⟩ := strRestore_belowTierM_fails
  cases hu.symm.trans hv
  exact absurd (hisolated.symm.trans hretired) (by decide)

end Sys2Proof.Machine
end

section
/-! SUPPORT. An element of an indexed part after an update of one element. -/

namespace Sys2Proof.Machine

theorem getD_modify_same {α : Type} (l : List α) (i : Nat) (f : α → α) (d : α) (h : i < l.length) :
    (l.modify i f).getD i d = f (l.getD i d) := by
  simp [List.getD_eq_getElem?_getD, h]

theorem getD_modify_ne {α : Type} (l : List α) {i k : Nat} (f : α → α) (d : α) (h : k ≠ i) :
    (l.modify i f).getD k d = l.getD k d := by
  simp [List.getD_eq_getElem?_getD, h.symm]

theorem loopAt_modLoop_same (s : State) (n : Nat) (f : LoopSlot → LoopSlot) (h : n < s.le.slot.length) :
    (s.modLoop n f).loopAt n = f (s.loopAt n) := getD_modify_same _ _ _ _ h

theorem convAt_modConv_same (s : State) (i : Nat) (f : Conv → Conv) (h : i < s.conv.length) :
    (s.modConv i f).convAt i = f (s.convAt i) := getD_modify_same _ _ _ _ h

theorem convAt_modConv_ne (s : State) {i k : Nat} (f : Conv → Conv) (h : k ≠ i) :
    (s.modConv i f).convAt k = s.convAt k := getD_modify_ne _ _ _ h

/-- A field that the update leaves alone is the same in every element. -/
theorem convAt_modConv_field {γ : Type} (p : Conv → γ) (s : State) (i k : Nat) (f : Conv → Conv) (h : ∀ c, p (f c) = p c) :
    p ((s.modConv i f).convAt k) = p (s.convAt k) := by
  by_cases hk : k = i
  · subst hk
    by_cases hl : k < s.conv.length
    · rw [convAt_modConv_same s k f hl, h]
    · simp [State.convAt, State.modConv, List.getD_eq_getElem?_getD, hl]
  · rw [convAt_modConv_ne s f hk]

theorem loopAt_congr {s u : State} (h : u.le.slot = s.le.slot) (n : Nat) : u.loopAt n = s.loopAt n :=
  congrArg (·.getD n {}) h

theorem strAt_congr {s u : State} (h : u.str = s.str) (i : Nat) : u.strAt i = s.strAt i := congrArg (·.getD i {}) h

theorem convAt_congr {s u : State} (h : u.conv = s.conv) (i : Nat) : u.convAt i = s.convAt i := congrArg (·.getD i {}) h

end Sys2Proof.Machine
end

section
/-! SUPPORT. A period of a loop slot: the sample instant and the law (09_loop_engine.md R262, R263, R269, R272). -/

namespace Sys2Proof.Machine

/-- The slot at a sample instant: a pending swap is taken, and the output computed last is applied, or the applied one is repeated
where the last period is not complete. -/
def sampled (now : Nat) (x : LoopSlot) : LoopSlot :=
  let x := swapBank now x
  if x.busy then { x with repeated := true, late := x.late + 1, lateRun := x.lateRun + 1, catchUp := x.catchUp + 1 }
  else { x with repeated := false, lateRun := 0, out := x.computed }

/-- What a swap of banks leaves alone: every field but the banks and the swap instant. -/
theorem swapBank_keeps (now : Nat) (x : LoopSlot) :
    (swapBank now x).desc = x.desc ∧ (swapBank now x).out = x.out ∧ (swapBank now x).computed = x.computed ∧
    (swapBank now x).integ = x.integ ∧ (swapBank now x).period = x.period ∧ (swapBank now x).busy = x.busy ∧
    (swapBank now x).late = x.late ∧ (swapBank now x).lateRun = x.lateRun ∧ (swapBank now x).catchUp = x.catchUp := by
  unfold swapBank
  split
  · exact ⟨rfl, rfl, rfl, rfl, rfl, rfl, rfl, rfl, rfl⟩
  · split <;> exact ⟨rfl, rfl, rfl, rfl, rfl, rfl, rfl, rfl, rfl⟩

@[simp] theorem sampled_keeps (now : Nat) (x : LoopSlot) :
    (sampled now x).desc = x.desc ∧ (sampled now x).computed = x.computed ∧ (sampled now x).integ = x.integ ∧
    (sampled now x).period = x.period ∧ (sampled now x).busy = x.busy := by
  obtain ⟨hdesc, -, hcomputed, hinteg, hperiod, hbusy, -⟩ := swapBank_keeps now x
  unfold sampled
  dsimp only
  split <;> exact ⟨hdesc, hcomputed, hinteg, hperiod, hbusy⟩

theorem sampled_applies (now : Nat) (x : LoopSlot) (h : x.busy = false) :
    (sampled now x).out = x.computed ∧ (sampled now x).repeated = false ∧ (sampled now x).late = x.late := by
  obtain ⟨-, -, hcomputed, -, -, hbusy, hlate, -⟩ := swapBank_keeps now x
  simp [sampled, hbusy, h, hcomputed, hlate]

theorem sampled_repeats (now : Nat) (x : LoopSlot) (h : x.busy = true) :
    (sampled now x).out = x.out ∧ (sampled now x).late = x.late + 1 ∧ (sampled now x).lateRun = x.lateRun + 1 ∧
      (sampled now x).catchUp = x.catchUp + 1 := by
  obtain ⟨-, hout, -, -, -, hbusy, hlate, hrun, hcatch⟩ := swapBank_keeps now x
  simp [sampled, hbusy, h, hout, hlate, hrun, hcatch]

/-- The law moves no field of the sample instant. -/
@[simp] theorem lawPeriod_keeps (s : State) (n cycles : Nat) (x : LoopSlot) :
    (lawPeriod s n cycles x).slot.out = x.out ∧ (lawPeriod s n cycles x).slot.repeated = x.repeated ∧
    (lawPeriod s n cycles x).slot.late = x.late ∧ (lawPeriod s n cycles x).slot.lateRun = x.lateRun ∧
    (lawPeriod s n cycles x).slot.catchUp = x.catchUp ∧ (lawPeriod s n cycles x).slot.period = x.period :=
  ⟨rfl, rfl, rfl, rfl, rfl, rfl⟩

theorem clampI_bounds (lo hi x : Int) (h : lo ≤ hi) : lo ≤ clampI lo hi x ∧ clampI lo hi x ≤ hi := by
  unfold clampI
  split
  · omega
  · split <;> omega

/-- A slot that is not slewed computes an output within its limits (R263). -/
theorem lawPeriod_computed (s : State) (n cycles : Nat) (x : LoopSlot) (hs : x.slewed = false)
    (h : (outLimits s n x).1 ≤ (outLimits s n x).2) :
    (outLimits s n x).1 ≤ (lawPeriod s n cycles x).slot.computed ∧
      (lawPeriod s n cycles x).slot.computed ≤ (outLimits s n x).2 := by
  simp only [lawPeriod, hs]
  exact clampI_bounds _ _ _ h

theorem outLimits_congr {s u : State} {x y : LoopSlot} (n : Nat) (hc : ∀ i, (u.convAt i).cfg = (s.convAt i).cfg)
    (hd : y.desc = x.desc) : outLimits u n y = outLimits s n x := by
  simp only [outLimits, dMin, dMax, cnvCfg, LoopSlot.outMin, LoopSlot.outMax, hc, hd]

@[simp] theorem capture_slot (n : Nat) (catchUp : Bool) (flags : Nat) (nodes : List Int) (s : State) (k : Nat) :
    (capture n catchUp flags nodes s k).le.slot = s.le.slot := by
  unfold capture
  dsimp only
  (repeat' split) <;> rfl

@[simp] theorem writeDst_slot (s : State) (dst : Nat) (v : Int) : (writeDst s dst v).le.slot = s.le.slot := by
  unfold writeDst
  dsimp only
  split <;> rfl

@[simp] theorem slewRef_cfg (s : State) (i k : Nat) : ((slewRef s i).convAt k).cfg = (s.convAt k).cfg :=
  convAt_modConv_field Conv.cfg s i k _ fun _ => rfl

/-- In a period of a string current slot the outer output is slewed into its junction first (08_converter_control.md R233). -/
def slewedFor (s : State) (n : Nat) : State := if slotKind n = 3 then slewRef s (n - 8) else s

@[simp] theorem slewedFor_keeps (s : State) (n : Nat) : (slewedFor s n).le = s.le ∧ (slewedFor s n).tsu = s.tsu := by
  unfold slewedFor; split <;> simp

theorem slewedFor_cfg (s : State) (n i : Nat) : ((slewedFor s n).convAt i).cfg = (s.convAt i).cfg := by
  unfold slewedFor
  split
  · exact slewRef_cfg s _ i
  · rfl

/-- The state over which slot `n` computes its law: the slot at its sample instant, and an output that was applied is written to
its destination. -/
def lawState (s : State) (n : Nat) : State :=
  let x := sampled s.tsu.now (s.loopAt n)
  let u := s.modLoop n fun _ => x
  if (swapBank s.tsu.now (s.loopAt n)).busy then u else writeDst u (getU x.desc 22 2) x.out

@[simp] theorem lawState_keeps (s : State) (n : Nat) :
    (lawState s n).tsu = s.tsu ∧ (lawState s n).conv = s.conv ∧ (lawState s n).le.slot.length = s.le.slot.length := by
  unfold lawState; dsimp only; split <;> simp [State.modLoop]

theorem lawState_loopAt (s : State) (n : Nat) (h : n < s.le.slot.length) :
    (lawState s n).loopAt n = sampled s.tsu.now (s.loopAt n) := by
  have hslot : (lawState s n).le.slot = (s.modLoop n fun _ => sampled s.tsu.now (s.loopAt n)).le.slot := by
    unfold lawState; dsimp only; split <;> simp
  rw [loopAt_congr hslot, loopAt_modLoop_same s n _ h]

/-- A period of slot `n` that runs: an optional slot in catch-up only counts on; any other computes its law and is captured. -/
theorem slotPeriod_eq (s : State) (n cycles : Nat) (late : Bool) (hr : slotRuns s n = true) (hd : slotDue s n = true) :
    slotPeriod s n cycles late =
      let s := slewedFor s n
      let v := lawState s n
      let x := sampled s.tsu.now (s.loopAt n)
      let behind := (swapBank s.tsu.now (s.loopAt n)).busy
      let r := lawPeriod v n cycles x
      if behind && x.optional then v.modLoop n fun y =>
        { y with period := y.period + 1, sampleT := v.tsu.now, secIdx := nextIndex v x, busy := late }
      else
        (List.range 16).foldl (capture n behind
            (r.clamped.toNat + 2 * x.repeated.toNat + 4 * x.activeB.toNat + 8 * r.saturated.toNat) r.nodes)
          (v.modLoop n fun _ => { r.slot with nodes := r.nodes, period := x.period + 1, sampleT := v.tsu.now
                                              secIdx := nextIndex v x, busy := late }) := by
  unfold slotPeriod
  rw [if_neg (by simp [hr, hd])]
  rfl

theorem captures_slot (n : Nat) (catchUp : Bool) (flags : Nat) (nodes : List Int) (l : List Nat) (s : State) :
    (l.foldl (capture n catchUp flags nodes) s).le.slot = s.le.slot :=
  foldl_proj (fun u : State => u.le.slot) _ (capture_slot n catchUp flags nodes) l s

/-- The slot once its period at `now` has run, `k` periods into its second; `late` says that this one will not be complete. -/
def LoopSlot.counted (x : LoopSlot) (now k : Nat) (late : Bool) : LoopSlot :=
  { x with period := x.period + 1, sampleT := now, secIdx := k, busy := late }

/-- What slot `n` computes in a period that runs now. -/
def lawNow (s : State) (n cycles : Nat) : Period :=
  lawPeriod (lawState (slewedFor s n) n) n cycles (sampled s.tsu.now (s.loopAt n))

/-- What a period that runs leaves in its slot: an optional slot in catch-up repeats, any other computes its law. -/
theorem slotPeriod_loopAt (s : State) (n cycles : Nat) (late : Bool) (hr : slotRuns s n = true) (hd : slotDue s n = true)
    (hn : n < s.le.slot.length) :
    ∃ k, (slotPeriod s n cycles late).loopAt n =
      LoopSlot.counted (if (s.loopAt n).busy && (s.loopAt n).optional then sampled s.tsu.now (s.loopAt n)
        else { (lawNow s n cycles).slot with nodes := (lawNow s n cycles).nodes }) s.tsu.now k late := by
  have hb : (slewedFor s n).loopAt n = s.loopAt n := loopAt_congr (by simp) n
  have hv : (lawState (slewedFor s n) n).loopAt n = sampled s.tsu.now (s.loopAt n) := by
    rw [lawState_loopAt _ _ (by simpa using hn), hb]; simp
  have hl : n < (lawState (slewedFor s n) n).le.slot.length := by simpa using hn
  obtain ⟨-, -, -, -, -, hbusy, -⟩ := swapBank_keeps s.tsu.now (s.loopAt n)
  obtain ⟨hdesc, -⟩ := sampled_keeps s.tsu.now (s.loopAt n)
  have hopt : (sampled s.tsu.now (s.loopAt n)).optional = (s.loopAt n).optional := by simp only [LoopSlot.optional, hdesc]
  refine ⟨nextIndex (lawState (slewedFor s n) n) (sampled s.tsu.now (s.loopAt n)), ?_⟩
  rw [slotPeriod_eq s n cycles late hr hd]
  simp only [hb, slewedFor_keeps, lawState_keeps, hbusy, hopt]
  split
  · rw [loopAt_modLoop_same _ _ _ hl, hv]
    rfl
  · rw [loopAt_congr (captures_slot ..), loopAt_modLoop_same _ _ _ hl]
    rfl

end Sys2Proof.Machine
end

section
/-! SUPPORT. Deadline faults: strings whose loops were late leave REGULATING (01_system.md R34; 09_loop_engine.md R276). -/

namespace Sys2Proof.Machine

/-- A detected error of a unit that is not retired leaves it suspended (18_faults_peat_log.md R495). -/
theorem detected_suspended (s : State) (u rule detail : Nat) (h : s.retired u = false) :
    (detected s u rule detail).suspended u = true := by
  have hr : (record s 0x20 (unitSource u) lvWarn u rule detail).retired u = false := by
    simpa [State.retired] using h
  unfold detected
  dsimp only
  rw [if_neg (by simp [hr])]
  split
  next hs => exact hs
  · simp [State.suspended]

theorem detected_str (s : State) (u rule detail : Nat) : (detected s u rule detail).str = s.str := by simp

theorem getD_of_length_le {α : Type} {l : List α} {i : Nat} (d : α) (h : l.length ≤ i) : l.getD i d = d := by
  rw [List.getD_eq_getElem?_getD, List.getElem?_eq_none h]
  rfl

/-- A string that is not at its default stands in the list of strings. -/
theorem lt_length_of_regulating {s : State} {i : Nat} (h : (s.strAt i).state = .regulating) : i < s.str.length := by
  refine Nat.lt_of_not_le fun hi => ?_
  have hs : s.strAt i = {} := getD_of_length_le ({} : Str) hi
  rw [hs] at h
  cases h

theorem setStr_strAt_ne (s : State) {i k : Nat} (new : StrState) (cause : Nat) (h : k ≠ i) :
    (setStr s i new cause).strAt k = s.strAt k := by
  unfold setStr strayStr
  dsimp only
  split
  · rfl
  · split <;> simp [State.strAt, State.modStr, h.symm]

theorem setStr_state (s : State) (i : Nat) (new : StrState) (cause : Nat) (h : i < s.str.length) :
    ((setStr s i new cause).strAt i).state = new := by
  unfold setStr strayStr
  dsimp only
  split
  next hs => exact eq_of_beq hs
  · split <;> simp [State.strAt, State.modStr, h]

theorem endTransOk_strAt_ne (s : State) {i k : Nat} (h : k ≠ i) : (endTransOk s i).strAt k = s.strAt k := by
  unfold endTransOk
  split
  · rfl
  · simp [State.strAt, State.modStr, h.symm]

theorem endTransOk_state (s : State) (i : Nat) : ((endTransOk s i).strAt i).state = (s.strAt i).state := by
  unfold endTransOk
  split
  · rfl
  · by_cases h : i < s.str.length <;> simp [State.strAt, State.modStr, h]

theorem openCoils_conv (s : State) (i : Nat) : (openCoils s i).conv = s.conv := by simp

/-- The end of a ramp moves no other string. -/
theorem rampDone_ne (s : State) {i k : Nat} (dest : StrState) (h : k ≠ i) :
    (rampDone s i dest).strAt k = s.strAt k ∧ (rampDone s i dest).convAt k = s.convAt k := by
  have hg : (gateOffString s i).strAt k = s.strAt k := strAt_congr (by simp) k
  have hc : (gateOffString s i).convAt k = s.convAt k := convAt_modConv_ne s _ h
  unfold rampDone
  dsimp only
  split
  · rw [← hg, ← hc]
    exact ⟨strAt_congr (by simp) k, (convAt_congr (openCoils_conv _ i) k).trans (convAt_modConv_ne _ _ h)⟩
  · rw [endTransOk_strAt_ne _ h, setStr_strAt_ne _ _ _ h]
    exact ⟨hg, (convAt_congr (by simp) k).trans hc⟩

/-- A string that opens stays in its state with that destination until its contactors are open. -/
theorem rampDone_isolated (s : State) (i : Nat) (h : i < s.conv.length) :
    ((rampDone s i .isolated).convAt i).rampThen = some .isolated := by
  simp [rampDone, gateOffString, State.convAt, State.modConv, h]

theorem rampDone_state (s : State) (i : Nat) (dest : StrState) (hd : dest ≠ .isolated) (h : i < s.str.length) :
    ((rampDone s i dest).strAt i).state = .connected := by
  unfold rampDone
  dsimp only
  split
  · exact absurd rfl hd
  · rw [endTransOk_state, setStr_state _ _ _ _ (by simpa using h)]

/-- A string whose loops were late leaves REGULATING for the destination of its ramp, CONNECTED without one. -/
def endLate (s : State) (i : Nat) : State :=
  if (s.strAt i).state == .regulating then
    rampDone (stopPair s (pairOf s i)) i ((s.convAt i).rampThen.getD .connected)
  else s

theorem endLate_ne (s : State) {i k : Nat} (h : k ≠ i) :
    (endLate s i).strAt k = s.strAt k ∧ (endLate s i).convAt k = s.convAt k := by
  unfold endLate
  split
  · obtain ⟨hstr, hconv⟩ := rampDone_ne (stopPair s (pairOf s i)) ((s.convAt i).rampThen.getD .connected) h
    exact ⟨hstr.trans (strAt_congr (by simp) k), hconv.trans (convAt_congr (by simp) k)⟩
  · exact ⟨rfl, rfl⟩

/-- A string still REGULATING after it was REGULATING before, on its way to ISOLATED. -/
theorem endLate_self (s : State) (i : Nat) (h : ((endLate s i).strAt i).state = .regulating) :
    (s.strAt i).state = .regulating ∧ (s.convAt i).rampThen = some .isolated ∧
      ((endLate s i).convAt i).rampThen = some .isolated := by
  by_cases hr : (s.strAt i).state = .regulating
  · have he : endLate s i = rampDone (stopPair s (pairOf s i)) i ((s.convAt i).rampThen.getD .connected) := by
      simp [endLate, hr]
    rw [he] at h ⊢
    by_cases hd : (s.convAt i).rampThen = some .isolated
    · have hi : i < s.conv.length := by
        refine Nat.lt_of_not_le fun hi => ?_
        have hc : s.convAt i = {} := getD_of_length_le ({} : Conv) hi
        rw [hc] at hd
        cases hd
      rw [hd]
      exact ⟨hr, rfl, rampDone_isolated _ i (by simpa using hi)⟩
    · have hdest : (s.convAt i).rampThen.getD .connected ≠ .isolated := by
        cases hx : (s.convAt i).rampThen with
        | none => simp
        | some d => simpa [hx] using hd
      rw [rampDone_state _ i _ hdest (by simpa using lt_length_of_regulating hr)] at h
      cases h
  · have he : endLate s i = s := by simp [endLate, hr]
    exact absurd (he ▸ h) hr

/-- No string becomes REGULATING. -/
theorem endLate_regulating (s : State) (i k : Nat) (h : ((endLate s i).strAt k).state = .regulating) :
    (s.strAt k).state = .regulating := by
  by_cases hk : k = i
  · subst hk; exact (endLate_self s k h).1
  · rwa [(endLate_ne s hk).1] at h

theorem endLates_regulating (k : Nat) (l : List Nat) : ∀ s : State, ((l.foldl endLate s).strAt k).state = .regulating →
    (s.strAt k).state = .regulating := by
  induction l with
  | nil => exact fun _ h => h
  | cons i t ih => exact fun s h => endLate_regulating s i k (ih (endLate s i) h)

/-- Every string that is REGULATING has the destination of its ramp that it has in `b`. -/
def KeepsRamps (b s : State) : Prop := ∀ i, (s.strAt i).state = .regulating → (s.convAt i).rampThen = (b.convAt i).rampThen

theorem KeepsRamps.endLate {b s : State} (h : KeepsRamps b s) (i : Nat) : KeepsRamps b (endLate s i) := by
  intro k hk
  by_cases hki : k = i
  · subst hki
    obtain ⟨hs, hramp, hramp'⟩ := endLate_self s k hk
    rw [hramp', ← hramp, h k hs]
  · obtain ⟨hstr, hconv⟩ := endLate_ne s hki
    rw [hconv]
    exact h k (hstr ▸ hk)

/-- Of the strings whose loops were late, those still REGULATING are on their way to ISOLATED. -/
theorem endLates_leave {b : State} (l : List Nat) : ∀ s : State, KeepsRamps b s → ∀ i ∈ l,
    ((l.foldl endLate s).strAt i).state ≠ .regulating ∨ (b.convAt i).rampThen = some .isolated := by
  induction l with
  | nil => exact fun _ _ i hi => nomatch hi
  | cons j t ih =>
    intro s h i hi
    rcases List.mem_cons.mp hi with rfl | hi
    · by_cases hreg : ((t.foldl Machine.endLate (Machine.endLate s i)).strAt i).state = .regulating
      · obtain ⟨hs, hramp, -⟩ := endLate_self s i (endLates_regulating i t _ hreg)
        exact .inr ((h i hs).symm.trans hramp)
      · exact .inl hreg
    · exact ih (Machine.endLate s j) (h.endLate j) i hi

/-- The slot after a deadline fault: counted, and stopped where it is an auxiliary slot. -/
def faulted (n : Nat) (x : LoopSlot) : LoopSlot :=
  { x with deadline := x.deadline + 1, lateRun := 0, busy := false, stopped := x.stopped || slotKind n == 5 }

theorem leDeadline_auxiliary (s : State) (n : Nat) (h : slotKind n = 5) : leDeadline s n = s.modLoop n (faulted n) := by
  unfold leDeadline
  exact if_pos (by simp [h])

theorem leDeadline_converter (s : State) (n : Nat) (h : slotKind n ≠ 5) :
    leDeadline s n = detected ((lateStrings s).foldl endLate (s.modLoop n (faulted n))) uLe 34 n := by
  unfold leDeadline
  exact if_neg (by simp [h])

@[simp] theorem endLate_keeps (s : State) (i : Nat) : (endLate s i).le = s.le ∧ (endLate s i).flt = s.flt := by
  unfold endLate; split <;> simp

/-- A deadline fault of an auxiliary slot stops it at its output. -/
theorem leDeadline_stops (s : State) (n : Nat) (hk : slotKind n = 5) (hn : n < s.le.slot.length) :
    ((leDeadline s n).loopAt n).stopped = true ∧ ((leDeadline s n).loopAt n).deadline = (s.loopAt n).deadline + 1 ∧
      ((leDeadline s n).loopAt n).out = (s.loopAt n).out ∧ (leDeadline s n).str = s.str := by
  rw [leDeadline_auxiliary s n hk, loopAt_modLoop_same s n _ hn]
  simp [faulted, hk]

/-- A deadline fault of a converter slot charges the LE, and every string that was late leaves REGULATING. -/
theorem leDeadline_charges (s : State) (n : Nat) (hk : slotKind n ≠ 5) (hn : n < s.le.slot.length)
    (hr : s.retired uLe = false) :
    (leDeadline s n).suspended uLe = true ∧ ((leDeadline s n).loopAt n).stopped = (s.loopAt n).stopped ∧
      ∀ i ∈ lateStrings s, ((leDeadline s n).strAt i).state ≠ .regulating ∨ (s.convAt i).rampThen = some .isolated := by
  rw [leDeadline_converter s n hk]
  refine ⟨detected_suspended _ _ _ _ ?_, ?_, fun i hi => ?_⟩
  · simpa [State.retired] using hr
  · rw [loopAt_congr (u := detected _ _ _ _) (s := s.modLoop n (faulted n)) (by simp), loopAt_modLoop_same s n _ hn]
    simp [faulted, hk]
  · rw [strAt_congr (detected_str ..) i]
    exact endLates_leave (b := s) (lateStrings s) (s.modLoop n (faulted n)) (fun _ _ => rfl) i hi

/-- A deadline fault of the CEE makes every cell stale and charges the engine. -/
theorem ceeDeadline_charges (s : State) (hr : s.retired uCee = false) :
    (ceeDeadline s).cee.deadlines = s.cee.deadlines + 1 ∧
      (ceeDeadline s).cee.cells = s.cee.cells.map (fun e => (e.1, { e.2 with stale := true })) ∧
      (ceeDeadline s).suspended uCee = true ∧ (ceeDeadline s).str = s.str :=
  ⟨by simp [ceeDeadline], by simp [ceeDeadline], detected_suspended _ _ _ _ hr, by simp⟩

end Sys2Proof.Machine
end

section
/-! SUPPORT. Slot periods, bank swaps and deadline faults, and the statement they settle. -/

namespace Sys2Proof.Machine

theorem swapBank_due {now at_ : Nat} {x : LoopSlot} (h : x.swapAt = some at_) (hd : at_ ≤ now) :
    swapBank now x = { x with swapAt := none, activeB := !x.activeB, bankA := { x.bankA with fresh := false }
                              bankB := { x.bankB with fresh := false } } := by
  unfold swapBank
  rw [h]
  exact if_pos hd

/-- A period that starts in time applies the output computed last at its sample instant. -/
theorem slotPeriod_applies (s : State) (n cycles : Nat) (late : Bool) (hr : slotRuns s n = true) (hd : slotDue s n = true)
    (hb : (s.loopAt n).busy = false) (hn : n < s.le.slot.length) :
    let u := slotPeriod s n cycles late
    (u.loopAt n).out = (s.loopAt n).computed ∧ (u.loopAt n).repeated = false ∧ (u.loopAt n).sampleT = s.tsu.now ∧
      (u.loopAt n).period = (s.loopAt n).period + 1 ∧ (u.loopAt n).busy = late ∧ (u.loopAt n).late = (s.loopAt n).late ∧
      u.str = s.str := by
  obtain ⟨k, hk⟩ := slotPeriod_loopAt s n cycles late hr hd hn
  obtain ⟨hout, hrep, hlate⟩ := sampled_applies s.tsu.now (s.loopAt n) hb
  simp [hk, hb, LoopSlot.counted, lawNow, hout, hrep, hlate]

/-- A slot that is not slewed, and not an optional one in catch-up, computes the next output within its limits. -/
theorem slotPeriod_withinLimits (s : State) (n cycles : Nat) (late : Bool) (hr : slotRuns s n = true)
    (hd : slotDue s n = true) (hn : n < s.le.slot.length) (hs : (s.loopAt n).slewed = false)
    (ho : (s.loopAt n).busy = true → (s.loopAt n).optional = false)
    (hl : (outLimits s n (s.loopAt n)).1 ≤ (outLimits s n (s.loopAt n)).2) :
    (outLimits s n (s.loopAt n)).1 ≤ ((slotPeriod s n cycles late).loopAt n).computed ∧
      ((slotPeriod s n cycles late).loopAt n).computed ≤ (outLimits s n (s.loopAt n)).2 := by
  obtain ⟨k, hk⟩ := slotPeriod_loopAt s n cycles late hr hd hn
  obtain ⟨hdesc, -⟩ := sampled_keeps s.tsu.now (s.loopAt n)
  obtain ⟨-, hconv, -⟩ := lawState_keeps (slewedFor s n) n
  have hlim : outLimits (lawState (slewedFor s n) n) n (sampled s.tsu.now (s.loopAt n)) = outLimits s n (s.loopAt n) :=
    outLimits_congr n (fun i => by rw [convAt_congr hconv, slewedFor_cfg]) hdesc
  have hcomputes : ((s.loopAt n).busy && (s.loopAt n).optional) = false := by simpa using ho
  rw [hk, hcomputes, ← hlim]
  exact lawPeriod_computed _ n cycles _ (by simpa only [LoopSlot.slewed, hdesc] using hs) (by rwa [hlim])

/-- A period whose last one is not complete repeats its output and counts as late. -/
theorem slotPeriod_repeats (s : State) (n cycles : Nat) (late : Bool) (hr : slotRuns s n = true) (hd : slotDue s n = true)
    (hb : (s.loopAt n).busy = true) (hn : n < s.le.slot.length) :
    let u := slotPeriod s n cycles late
    (u.loopAt n).out = (s.loopAt n).out ∧ (u.loopAt n).late = (s.loopAt n).late + 1 ∧
      (u.loopAt n).lateRun = (s.loopAt n).lateRun + 1 ∧ (u.loopAt n).catchUp = (s.loopAt n).catchUp + 1 ∧
      (u.loopAt n).busy = late ∧ ((s.loopAt n).optional = true →
        (u.loopAt n).computed = (s.loopAt n).computed ∧ (u.loopAt n).integ = (s.loopAt n).integ) := by
  obtain ⟨k, hk⟩ := slotPeriod_loopAt s n cycles late hr hd hn
  obtain ⟨hout, hlate, hrun, hcatch⟩ := sampled_repeats s.tsu.now (s.loopAt n) hb
  cases ho : (s.loopAt n).optional <;> simp [hk, hb, ho, LoopSlot.counted, lawNow, hout, hlate, hrun, hcatch]

/-- A bank swap is taken where its instant has come. -/
theorem modLoop_swapBank (s : State) (n at_ : Nat) (hn : n < s.le.slot.length) (hat : (s.loopAt n).swapAt = some at_)
    (hdue : at_ ≤ s.tsu.now) :
    let u := s.modLoop n (swapBank s.tsu.now)
    (u.loopAt n).activeB = (!(s.loopAt n).activeB) ∧ (u.loopAt n).swapAt = none ∧
      (u.loopAt n).bankA.block = (s.loopAt n).bankA.block ∧ (u.loopAt n).bankA.fresh = false ∧
      (u.loopAt n).bankB.fresh = false ∧ u.str = s.str := by
  dsimp only
  rw [loopAt_modLoop_same s n _ hn, swapBank_due hat hdue]
  exact ⟨rfl, rfl, rfl, rfl, rfl, rfl⟩

theorem exec_deadlineFault_le (t : Nat) (s : State) (n : Nat) (hr : slotRuns (s.advance t) n = true)
    (hl : 8 < ((s.advance t).loopAt n).lateRun) :
    exec (.deadlineFault t (.le n)) s = .next (leDeadline (s.advance t) n) := by
  change execDeadlineFault t (.le n) s = _
  simp [execDeadlineFault, hr, hl]

theorem exec_deadlineFault_cee (t : Nat) (s : State) (hr : ceeRuns (s.advance t) = true)
    (h0 : (s.advance t).cee.periodIdx ≠ 0)
    (hl : (s.advance t).cee.periodIdx + 8 < (s.advance t).tsu.now / (100 * nsMs)) :
    exec (.deadlineFault t .cee) s = .next (ceeDeadline (s.advance t)) := by
  have hlt : (s.advance t).cee.periodIdx < (s.advance t).tsu.now / (100 * nsMs) := by omega
  change execDeadlineFault t .cee s = _
  unfold execDeadlineFault
  dsimp only
  rw [if_pos (by simp only [hr, bne_iff_ne.mpr h0, hlt, hl, decide_true, Bool.true_or, Bool.and_self])]

/-- Settles O25: each clause is the law of its operation on the state at `t`. -/
theorem loopPeriods : Obligations.LoopPeriods :=
  ⟨fun t s n cycles late hr hd hb hn => ⟨_, rfl, slotPeriod_applies (s.advance t) n cycles late hr hd hb hn⟩,
    fun t s n cycles late hr hd hn hs ho hl => ⟨_, rfl, slotPeriod_withinLimits (s.advance t) n cycles late hr hd hn hs ho hl⟩,
    fun t s n cycles late hr hd hb hn => ⟨_, rfl, slotPeriod_repeats (s.advance t) n cycles late hr hd hb hn⟩,
    fun t s n at_ hn hat hdue => ⟨_, rfl, modLoop_swapBank (s.advance t) n at_ hn hat hdue⟩,
    fun t s n hn hr hk hlate => ⟨_, exec_deadlineFault_le t s n hr hlate, leDeadline_stops (s.advance t) n hk hn⟩,
    fun t s n hn hr hk hlate hret =>
      ⟨_, exec_deadlineFault_le t s n hr hlate, leDeadline_charges (s.advance t) n hk hn hret⟩,
    fun t s hr h0 hlate hret => ⟨_, exec_deadlineFault_cee t s hr h0 hlate, ceeDeadline_charges (s.advance t) hret⟩⟩

end Sys2Proof.Machine
end

section
/-! SUPPORT. A fold over the strings that establishes a fact at one of them; the conv list under an operation that keeps the
sizes. -/

namespace Sys2Proof.Machine

/-- A fold whose step at `i` establishes `P` ends with `P` where it passes `i`, if every step keeps `Q`, and `P` beside it. -/
theorem foldl_establishes {α β : Type} {f : α → β → α} {Q P : α → Prop} {i : β} (hQ : ∀ a b, Q a → Q (f a b))
    (hi : ∀ a, Q a → P (f a i)) (hP : ∀ a b, Q a → P a → P (f a b)) (l : List β) (hl : i ∈ l) :
    ∀ a, Q a → P (l.foldl f a) := by
  induction l with
  | nil => cases hl
  | cons b t ih =>
    intro a ha
    rcases List.mem_cons.mp hl with rfl | ht
    · exact (List.foldlRecOn (motive := fun a => Q a ∧ P a) t f ⟨hQ a i ha, hi a ha⟩
        fun a h b _ => ⟨hQ a b h.1, hP a b h.1 h.2⟩).2
    · exact ih ht (f a b) (hQ a b ha)

theorem conv_length_of_sizes {s u : State} (h : u.sizes = s.sizes) : u.conv.length = s.conv.length :=
  congrArg (fun l => (l.getD 0 []).getD 3 0) h

end Sys2Proof.Machine
end

section
/-! SUPPORT. The command path of a command without a population or state check, and the commands on VBAK, the alarm and the echo
(15_host_interface.md R447, R454). -/

namespace Sys2Proof.Machine

/-- A command that checks neither population nor state nor descriptors is refused for its length, the role or an argument only. -/
theorem rejection_of_argument {sp : Spec} {s : State} {q : Req} (hl : sp.len q.payload = none) (hr : AnyRole s)
    (he : q.envBad = none) (ha : sp.arg s q = none) (hroles : sp.roles = .all) (happ : sp.noApp = false)
    (hpop : sp.pop s q.payload = none) (hst : sp.state s q = none) (hown : ownerBad sp s q = none) (hres : sp.res s q = false) :
    rejection sp s q = none := by
  have hrole : rolesOk sp s.unit = true := anyRole_rolesOk sp s hr hroles
  simp [rejection, hl, hpop, happ, hrole, hst, firstBad, he, ha, hown, hres]

/-- SYS_SET_VBAK takes a target of 12 V to 15 V in half volts and a zero byte. -/
theorem badField_vbak {p : Bytes} (hlo : 24 ≤ getU p 0 1) (hhi : getU p 0 1 ≤ 30) (hz : getU p 1 1 = 0) :
    badField [uf 0 1 24 30 28, rsv 1 1] p = none := by
  simp [badField, Field.ok, Field.get, uf, rsv, hz, hhi]
  omega

/-- The VBAK_LOW alarm aside, the update of the energy writes VBAK and E_avail. -/
theorem updateEnergy_pwr (s : State) (vbak : Nat) :
    ∃ low, (updateEnergy s vbak).pwr = { s.pwr with vbak := vbak, eAvail := energyOf s vbak, vbakLow := low } := by
  unfold updateEnergy
  dsimp only
  split
  · exact ⟨true, by simp⟩
  · split
    · exact ⟨false, by simp⟩
    · exact ⟨s.pwr.vbakLow, by simp⟩

@[simp] theorem updateEnergy_settings (s : State) (vbak : Nat) :
    (updateEnergy s vbak).pwr.target = s.pwr.target ∧ (updateEnergy s vbak).pwr.cmin = s.pwr.cmin ∧
    (updateEnergy s vbak).pwr.deferred = s.pwr.deferred := by
  obtain ⟨low, h⟩ := updateEnergy_pwr s vbak
  rw [h]
  exact ⟨rfl, rfl, rfl⟩

/-- The settings of SYS_SET_VBAK: charger target and minimum end-of-life capacitance. -/
def setVbak (s : State) (p : Bytes) : State := s.setPwr fun w => { w with target := getU p 0 1, cmin := getU p 2 2 }

theorem exec_sysSetVbak {s : State} {q : Req} (h : Taken s q) (hr : AnyRole s) (hl : q.payload.length = 4)
    (hlo : 24 ≤ getU q.payload 0 1) (hhi : getU q.payload 0 1 ≤ 30) (hz : getU q.payload 1 1 = 0) :
    exec (.sysSetVbak q) s = .next (ok (updateEnergy (setVbak (touch s) q.payload) s.pwr.vbak) 0x0107 q []) := by
  have ⟨_, _, he⟩ := h
  change execSysSetVbak q s = _
  unfold execSysSetVbak
  rw [command_run _ _ q s h]
  · rfl
  · exact rejection_of_argument (if_pos hl) hr he (badField_vbak hlo hhi hz) rfl rfl rfl rfl rfl rfl

theorem exec_sysSetAlarm {s : State} {q : Req} (h : Taken s q) (hr : AnyRole s) (hl : q.payload.length = 8) :
    exec (.sysSetAlarm q) s = .next (ok ((touch s).setPwr fun p =>
      { p with rtcAlarm := if getU q.payload 0 8 = 0 then none else some (getU q.payload 0 8) }) 0x0108 q []) := by
  have ⟨_, _, he⟩ := h
  change execSysSetAlarm q s = _
  unfold execSysSetAlarm
  rw [command_run _ _ q s h]
  · rfl
  · exact rejection_of_argument (if_pos hl) hr he rfl rfl rfl rfl rfl rfl rfl

theorem exec_sysEcho {s : State} {q : Req} (h : Taken s q) (hr : AnyRole s) (hl : q.payload.length ≤ 240) :
    exec (.sysEcho q) s = .next (ok (touch s) 0x0103 q q.payload) := by
  have ⟨_, _, he⟩ := h
  change execSysEcho q s = _
  unfold execSysEcho
  rw [command_run _ _ q s h]
  · rfl
  · exact rejection_of_argument (if_pos hl) hr he rfl rfl rfl rfl rfl rfl rfl

theorem sysSetVbak_sets {s : State} {q : Req} (h : Taken s q) (hr : AnyRole s) (hl : q.payload.length = 4)
    (hlo : 24 ≤ getU q.payload 0 1) (hhi : getU q.payload 0 1 ≤ 30) (hz : getU q.payload 1 1 = 0) :
    Does (.sysSetVbak q) s fun u => Answered u q 0x0107 stOk 0 [] ∧ u.pwr.target = getU q.payload 0 1 ∧
      u.pwr.cmin = getU q.payload 2 2 := by
  refine ⟨_, exec_sysSetVbak h hr hl hlo hhi hz, ok_answered .., ?_⟩
  simp [ok, setVbak]

theorem sysSetAlarm_sets {s : State} {q : Req} (h : Taken s q) (hr : AnyRole s) (hl : q.payload.length = 8) :
    Does (.sysSetAlarm q) s fun u => Answered u q 0x0108 stOk 0 [] ∧
      u.pwr.rtcAlarm = (if getU q.payload 0 8 = 0 then none else some (getU q.payload 0 8)) ∧
      u.str = s.str ∧ u.conv = s.conv ∧ u.saf = s.saf := by
  refine ⟨_, exec_sysSetAlarm h hr hl, ok_answered .., ?_⟩
  simp [ok]

theorem sysEcho_returns {s : State} {q : Req} (h : Taken s q) (hr : AnyRole s) (hl : q.payload.length ≤ 240) :
    Does (.sysEcho q) s fun u => Answered u q 0x0103 stOk 0 q.payload ∧ HostOnly s u ∧ SlotOnly s q u :=
  ⟨_, exec_sysEcho h hr hl, ok_answered .., finish1_hostOnly .., finish1_slotOnly (touch s) 0x0103 q stOk 0 _ hl⟩

end Sys2Proof.Machine
end

section
/-! SUPPORT. VIN loss, the hold-up sequence and VIN return (02_power_states_clocks.md R41, R46 to R48). -/

namespace Sys2Proof.Machine

@[simp] theorem setPower_pwr (s : State) (p : PowerState) : (setPower s p).pwr = { s.pwr with state := p } := by
  unfold setPower
  split
  next h => rw [← eq_of_beq h]
  · simp

/-! ## VIN loss -/

theorem enterHoldup_pwr (s : State) : (enterHoldup s).pwr =
    { s.pwr with state := .holdup, prev := s.pwr.state, holdT0 := s.clk, holdStep := 0, holdSwap := false
                 returnPending := false } := by
  simp [enterHoldup]

/-- Nothing balances on string `i` as this unit commands it. -/
def Unbalanced (i : Nat) (s : State) : Prop := (s.balAt i).shuttles = [] ∧ (s.balAt i).bleeds = []

theorem balAt_stopBalancing_ne (s : State) {i k : Nat} (h : k ≠ i) : (stopBalancing s i).balAt k = s.balAt k :=
  getD_modify_ne s.bal _ _ h

theorem stopBalancing_unbalanced (s : State) (i : Nat) : Unbalanced i (stopBalancing s i) := by
  by_cases h : i < s.bal.length
  · have hb : (stopBalancing s i).balAt i = { s.balAt i with shuttles := [], bleeds := [] } := getD_modify_same _ _ _ _ h
    simp [Unbalanced, hb]
  · have hb : (stopBalancing s i).balAt i = {} :=
      getD_of_length_le ({} : Bal) (by simpa [stopBalancing, State.modBal, State.modRing] using h)
    simp [Unbalanced, hb]

theorem stopBalancing_keeps_unbalanced {i : Nat} (s : State) (k : Nat) (h : Unbalanced i s) :
    Unbalanced i (stopBalancing s k) := by
  by_cases hk : i = k
  · exact hk ▸ stopBalancing_unbalanced s i
  · simpa [Unbalanced, balAt_stopBalancing_ne s hk] using h

theorem stopBalancing_all {l : List Nat} {i : Nat} (hi : i ∈ l) (s : State) : Unbalanced i (l.foldl stopBalancing s) :=
  foldl_establishes (Q := fun _ => True) (fun _ _ _ => trivial) (fun s _ => stopBalancing_unbalanced s i)
    (fun s k _ => stopBalancing_keeps_unbalanced s k) l hi s trivial

theorem enterHoldup_unbalanced (s : State) {i : Nat} (h : i < s.strings) : Unbalanced i (enterHoldup s) := by
  refine stopBalancing_all (List.mem_range.mpr ?_) _
  simpa [State.strings] using h

section
variable {t : Nat} {s b : State} (hb : s.advance t = b)
include hb

theorem exec_vinLoss {vin : Nat} (hv : b.pwr.vinValid = true) (hl : vin < 33000)
    (hoff : b.unit ≠ .off) (hup : b.unit ≠ .powerup)
    (hp : b.pwr.state = .active ∨ b.pwr.state = .float ∨ b.pwr.state = .dormant) :
    exec (.vinLoss t vin) s =
      .next (enterHoldup (b.setPwr fun p => { p with vin := vin, vinValid := false, chargerOn := false })) := by
  change execVinLoss t vin s = _
  unfold execVinLoss
  simp only [hb]
  rw [if_neg (by simp [hv, hl])]
  split
  next h => exact absurd h hoff
  next h => exact absurd h hup
  · simp only [State.setPwr_pwr]
    rcases hp with h | h | h <;> rw [h]

theorem vinLoss_entersHoldup {vin : Nat} (hv : b.pwr.vinValid = true) (hl : vin < 33000)
    (hoff : b.unit ≠ .off) (hup : b.unit ≠ .powerup)
    (hp : b.pwr.state = .active ∨ b.pwr.state = .float ∨ b.pwr.state = .dormant) :
    Does (.vinLoss t vin) s fun u => u.pwr.state = .holdup ∧ u.pwr.prev = b.pwr.state ∧
      u.pwr.holdT0 = b.clk ∧ u.pwr.holdStep = 0 ∧ u.pwr.vinValid = false ∧ u.pwr.chargerOn = false ∧
      ∀ i, i < b.strings → (u.balAt i).shuttles = [] ∧ (u.balAt i).bleeds = [] := by
  refine ⟨_, exec_vinLoss hb hv hl hoff hup hp, ?_⟩
  dsimp only
  rw [enterHoldup_pwr]
  exact ⟨rfl, rfl, rfl, rfl, rfl, rfl, fun i hi => enterHoldup_unbalanced _ hi⟩

end

/-! ## The swap request and the ramp -/

section
variable {t : Nat} {s b : State} (hb : s.advance t = b)
include hb

theorem exec_holdupSwapRequest (hp : b.pwr.state = .holdup)
    (h0 : b.pwr.holdStep = 0) (ht : 5 * nsMs ≤ b.clk - b.pwr.holdT0)
    (hu : b.unit = .active) (hr : partnerReady b = true)
    (hvin : b.red.partnerVin = true) (hn : b.red.swapAt = none)
    (hs : b.pwr.holdSwap = false) :
    exec (.holdupSwapRequest t) s = .next ((requestSwap b).setPwr fun p => { p with holdSwap := true }) := by
  change execHoldupSwapRequest t s = _
  unfold execHoldupSwapRequest
  simp only [hb]
  rw [if_pos (by simp [hp, h0, sinceLoss, ht, hu, hr, hvin, hn, hs])]

theorem holdupSwapRequest_asks (hp : b.pwr.state = .holdup)
    (h0 : b.pwr.holdStep = 0) (ht : 5 * nsMs ≤ b.clk - b.pwr.holdT0)
    (hu : b.unit = .active) (hr : partnerReady b = true)
    (hvin : b.red.partnerVin = true) (hn : b.red.swapAt = none)
    (hs : b.pwr.holdSwap = false) :
    Does (.holdupSwapRequest t) s fun u => u.pwr.holdSwap = true ∧ u.red.swapAsked = true ∧
      u.red.swapAt = some (b.tsu.now + 2 * nsMs) ∧ u.str = s.str := by
  refine ⟨_, exec_holdupSwapRequest hb hp h0 ht hu hr hvin hn hs, rfl, rfl, rfl, ?_⟩
  simp [← hb]

end

/-- The zero setpoint of the 20 ms step for string `i`. -/
def rampStep (s : State) (i : Nat) : State :=
  if (s.strAt i).state == .regulating then s.modConv i fun c => { c with rampStop := true } else s

@[simp] theorem rampStep_keeps (s : State) (i : Nat) : (rampStep s i).str = s.str ∧ (rampStep s i).pwr = s.pwr ∧
    (rampStep s i).conv.length = s.conv.length := by
  unfold rampStep
  split <;> simp [State.modConv]

theorem rampStep_rampStop {s : State} {i : Nat} (hr : (s.strAt i).state = .regulating) (hi : i < s.conv.length) :
    ((rampStep s i).convAt i).rampStop = true := by
  simp [rampStep, hr, convAt_modConv_same s i _ hi]

theorem rampStep_keeps_rampStop {s : State} {i k : Nat} (h : (s.convAt i).rampStop = true) (hi : i < s.conv.length) :
    ((rampStep s k).convAt i).rampStop = true := by
  unfold rampStep
  split
  · by_cases hk : i = k
    · subst hk; simp [convAt_modConv_same s i _ hi]
    · rwa [convAt_modConv_ne s _ hk]
  · exact h

theorem rampSteps_rampStop {l : List Nat} {i : Nat} (hl : i ∈ l) {s : State} (hr : (s.strAt i).state = .regulating)
    (hi : i < s.conv.length) : ((l.foldl rampStep s).convAt i).rampStop = true :=
  foldl_establishes (Q := fun s : State => (s.strAt i).state = .regulating ∧ i < s.conv.length)
    (P := fun s : State => (s.convAt i).rampStop = true)
    (fun s k h => by simpa [State.strAt] using h) (fun _ h => rampStep_rampStop h.1 h.2)
    (fun _ _ h hp => rampStep_keeps_rampStop hp h.2) l hl s ⟨hr, hi⟩

theorem commands_of_role {s : State} (h : Commands s) : s.unit.commands = true := by
  rcases h with h | h <;> rw [h] <;> rfl

section
variable {t : Nat} {s b : State} (hb : s.advance t = b)
include hb

theorem exec_holdupRampStep (hp : b.pwr.state = .holdup)
    (h0 : b.pwr.holdStep = 0) (ht : 20 * nsMs ≤ b.clk - b.pwr.holdT0)
    (hc : Commands b) :
    exec (.holdupRampStep t) s = .next ((List.range b.strings).foldl rampStep
      (b.setPwr fun p => { p with holdStep := 1, dispatchUnavailable := true })) := by
  change execHoldupRampStep t s = _
  unfold execHoldupRampStep
  simp only [hb]
  rw [if_neg (by simp [hp, h0, sinceLoss, Nat.not_lt.mpr ht])]
  exact congrArg Host.Outcome.next (if_pos (commands_of_role hc))

theorem holdupRampStep_ramps (hp : b.pwr.state = .holdup)
    (h0 : b.pwr.holdStep = 0) (ht : 20 * nsMs ≤ b.clk - b.pwr.holdT0)
    (hc : Commands b) :
    Does (.holdupRampStep t) s fun u => u.pwr.holdStep = 1 ∧ u.pwr.dispatchUnavailable = true ∧
      u.str = b.str ∧ ∀ i, i < b.strings → (b.strAt i).state = .regulating →
        i < b.conv.length → (u.convAt i).rampStop = true := by
  refine ⟨_, exec_holdupRampStep hb hp h0 ht hc, by simp, by simp, by simp, fun i hi hr hl => ?_⟩
  exact rampSteps_rampStop (List.mem_range.mpr hi) hr hl

end

/-! ## Disconnection -/

/-- The disconnection of string `i` for the reason of rule `cause`. -/
def disconnectStep (cause : Nat) (s : State) (i : Nat) : State :=
  match (s.strAt i).state with
  | .precharge => prechargeAbort s i cause
  | .connected | .regulating => disconnectNow (if strayCause cause then strayStr s i else s) i
  | _ => s

theorem disconnectAll_eq (s : State) (cause : Nat) :
    disconnectAll s cause = (List.range s.strings).foldl (disconnectStep cause) s := rfl

/-- String `i` stands as in `s`, and its converter. -/
def SameString (i : Nat) (s u : State) : Prop := u.strAt i = s.strAt i ∧ u.convAt i = s.convAt i

theorem deferWrite_conv (s : State) (k : Nat) : (deferWrite s k).conv = s.conv := by simp

theorem completeExec_str (s : State) (e : Exec) (st d : Nat) (p : Bytes) : (completeExec s e st d p).str = s.str := by simp

theorem disconnectNow_str (s : State) (i : Nat) : (disconnectNow s i).str = s.str := by simp

theorem strAt_modStr_ne (s : State) {i k : Nat} (f : Str → Str) (h : k ≠ i) : (s.modStr i f).strAt k = s.strAt k :=
  getD_modify_ne s.str f _ h

theorem strayStr_state (s : State) (i : Nat) : ((strayStr s i).strAt i).state = (s.strAt i).state := by
  by_cases h : i < s.str.length <;> simp [strayStr, State.strAt, State.modStr, h]

theorem endPrecharge_convAt_ne (s : State) {i k : Nat} (h : k ≠ i) : (endPrecharge s i).convAt k = s.convAt k := by
  unfold endPrecharge storeE
  split
  · rfl
  · split
    · exact (convAt_modConv_ne _ _ h).trans (convAt_modConv_ne _ _ h)
    · rw [convAt_congr (deferWrite_conv ..)]
      exact convAt_modConv_ne s _ h

theorem abortTrans_strAt_ne (s : State) {i k : Nat} (h : k ≠ i) : (abortTrans s i).strAt k = s.strAt k := by
  unfold abortTrans endTrans
  split
  · rfl
  · exact (strAt_congr (completeExec_str ..) k).trans (strAt_modStr_ne s _ h)

theorem prechargeAbort_sameString (s : State) {i k : Nat} (cause : Nat) (h : k ≠ i) :
    SameString k s (prechargeAbort s i cause) := by
  unfold prechargeAbort
  split
  · constructor
    · rw [abortTrans_strAt_ne _ h, setStr_strAt_ne _ _ _ h]
      exact strAt_congr (by simp) k
    · exact (convAt_congr (by simp) k).trans (endPrecharge_convAt_ne s h)
  · exact ⟨rfl, rfl⟩

theorem disconnectNow_convAt_ne (s : State) {i k : Nat} (h : k ≠ i) : (disconnectNow s i).convAt k = s.convAt k := by
  unfold disconnectNow
  rw [convAt_congr (openCoils_conv _ i), convAt_modConv_ne _ _ h]
  exact convAt_modConv_ne s _ h

theorem disconnectStep_sameString (cause : Nat) (s : State) {i k : Nat} (h : k ≠ i) :
    SameString k s (disconnectStep cause s i) := by
  have hnow : SameString k s (disconnectNow (if strayCause cause then strayStr s i else s) i) := by
    refine ⟨(strAt_congr (disconnectNow_str ..) k).trans ?_, (disconnectNow_convAt_ne _ h).trans (convAt_congr (by simp) k)⟩
    split
    · exact strAt_modStr_ne s _ h
    · rfl
  unfold disconnectStep
  split
  · exact prechargeAbort_sameString s cause h
  · exact hnow
  · exact hnow
  · exact ⟨rfl, rfl⟩

/-- The converter of string `i` is off, and the string is ISOLATED once its contactors are open. -/
def Opening (i : Nat) (s : State) : Prop := (s.convAt i).running = false ∧ (s.convAt i).rampThen = some .isolated

theorem disconnectNow_opening (s : State) (i : Nat) (h : i < s.conv.length) : Opening i (disconnectNow s i) := by
  have hg : i < (gateOffString s i).conv.length := by simpa [gateOffString, State.modConv] using h
  have hc : (gateOffString s i).convAt i = _ := convAt_modConv_same s i _ h
  simp [Opening, disconnectNow, convAt_congr (openCoils_conv _ i), convAt_modConv_same _ i _ hg, hc]

theorem disconnectStep_regulating (cause : Nat) {s : State} {i : Nat} (hr : (s.strAt i).state = .regulating)
    (hi : i < s.conv.length) :
    ((disconnectStep cause s i).strAt i).state = .regulating ∧ Opening i (disconnectStep cause s i) := by
  have he : disconnectStep cause s i = disconnectNow (if strayCause cause then strayStr s i else s) i := by
    unfold disconnectStep
    rw [hr]
  rw [he]
  constructor
  · rw [strAt_congr (disconnectNow_str ..), ← hr]
    split
    · exact strayStr_state s i
    · rfl
  · exact disconnectNow_opening _ i (by simpa using hi)

theorem disconnectStep_sizes (cause : Nat) (s : State) (i : Nat) : (disconnectStep cause s i).sizes = s.sizes := by
  unfold disconnectStep
  split <;> simp

theorem disconnectAll_opening (cause : Nat) {s : State} {i : Nat} (hs : i < s.strings)
    (hr : (s.strAt i).state = .regulating) (hi : i < s.conv.length) : Opening i (disconnectAll s cause) := by
  rw [disconnectAll_eq]
  refine foldl_establishes (Q := fun s => (s.strAt i).state = .regulating ∧ i < s.conv.length) ?_
    (fun s h => (disconnectStep_regulating cause h.1 h.2).2) ?_ _ (List.mem_range.mpr hs) s ⟨hr, hi⟩
  · rintro s k ⟨hr, hi⟩
    refine ⟨?_, by rwa [conv_length_of_sizes (disconnectStep_sizes cause s k)]⟩
    by_cases hk : i = k
    · exact hk ▸ (disconnectStep_regulating cause hr hi).1
    · rwa [(disconnectStep_sameString cause s hk).1]
  · rintro s k ⟨hr, hi⟩ hp
    by_cases hk : i = k
    · exact hk ▸ (disconnectStep_regulating cause hr hi).2
    · simpa [Opening, (disconnectStep_sameString cause s hk).2] using hp

end Sys2Proof.Machine
end

section
/-! SUPPORT. What a halt, a change of tier and a retirement leave of the power part, of the commands that execute and wait, and of
the retired units (01_system.md R22, R26, R28; 18_faults_peat_log.md R497). -/

namespace Sys2Proof.Machine

/-- The power part but for the guarded writes that wait for R40. -/
def Power.core (p : Power) : Power := { p with deferred := [] }

/-- A field that deferred writes leave alone is the same where the rest of the power part is. -/
theorem field_of_core {γ : Type} (f : Power → γ) {p q : Power} (h : p.core = q.core)
    (hf : ∀ p, f p.core = f p := by exact fun _ => rfl) : f p = f q :=
  (hf p).symm.trans ((congrArg f h).trans (hf q))

/-- From `s` to `u` strings and tiers may have fallen and commands have ended: the power part stands but for deferred writes,
no command has begun, no unit retired has changed, and the unit stands or has entered SAFE-HOLD. -/
structure Degrades (s u : State) : Prop where
  power : u.pwr.core = s.pwr.core
  order : u.hpr.order = s.hpr.order
  exec : u.hpr.exec.Sublist s.hpr.exec
  retired : u.flt.retired = s.flt.retired
  unit : u.unit = s.unit ∨ u.unit = .safeHold

namespace Degrades

theorem refl (s : State) : Degrades s s := ⟨rfl, rfl, .refl _, rfl, .inl rfl⟩

theorem trans {s u v : State} (h : Degrades s u) (k : Degrades u v) : Degrades s v where
  power := k.power.trans h.power
  order := k.order.trans h.order
  exec := k.exec.trans h.exec
  retired := k.retired.trans h.retired
  unit := k.unit.elim (fun hk => hk ▸ h.unit) .inr

/-- An operation on none of the five. -/
theorem of_eq {s u : State} (hp : u.pwr = s.pwr) (ho : u.hpr.order = s.hpr.order) (he : u.hpr.exec = s.hpr.exec)
    (hr : u.flt.retired = s.flt.retired) (hu : u.unit = s.unit) : Degrades s u :=
  ⟨congrArg Power.core hp, ho, he ▸ .refl _, hr, .inl hu⟩

theorem foldl {β : Type} {f : State → β → State} (h : ∀ s b, Degrades s (f s b)) (l : List β) (s : State) :
    Degrades s (l.foldl f s) :=
  List.foldlRecOn (motive := Degrades s) l f (.refl s) fun u hu b _ => hu.trans (h u b)

end Degrades

/-! ## Completion -/

@[simp] theorem finish1_queue (s : State) (op : Nat) (q : Req) (st d : Nat) (p : Bytes) :
    (finish1 s op q st d p).hpr.exec = s.hpr.exec ∧ (finish1 s op q st d p).hpr.order = s.hpr.order := by
  unfold finish1
  cases q.slot with
  | none => exact ⟨rfl, rfl⟩
  | some n => cases q.port <;> dsimp only <;> (repeat' split) <;> simp [mgmtRespond]

theorem degrades_finish1 (s : State) (op : Nat) (q : Req) (st d : Nat) (p : Bytes) : Degrades s (finish1 s op q st d p) :=
  .of_eq (by simp) (by simp) (by simp) (by simp) (by simp)

theorem degrades_completeExec (s : State) (e : Exec) (st d : Nat) (p : Bytes) : Degrades s (completeExec s e st d p) := by
  have hdrop : Degrades s (s.setHpr fun h =>
      { h with exec := h.exec.filter fun x => x.req ≠ e.req ∨ x.opcode ≠ e.opcode }) :=
    ⟨rfl, rfl, List.filter_sublist, rfl, .inl rfl⟩
  exact (hdrop.trans (degrades_finish1 ..)).trans (.foldl (fun _ _ => degrades_finish1 ..) _ _)

theorem degrades_abortTrans (s : State) (i : Nat) : Degrades s (abortTrans s i) := by
  unfold abortTrans endTrans
  split
  · exact .refl s
  · refine .trans ?_ (degrades_completeExec ..)
    exact .of_eq rfl rfl rfl rfl rfl

/-! ## Strings -/

@[simp] theorem syncUnit_queue (s : State) :
    (syncUnit s).hpr.exec = s.hpr.exec ∧ (syncUnit s).hpr.order = s.hpr.order := by
  unfold syncUnit
  dsimp only
  split
  · exact ⟨rfl, rfl⟩
  · split <;> simp

@[simp] theorem setStr_queue (s : State) (i : Nat) (new : StrState) (cause : Nat) :
    (setStr s i new cause).hpr.exec = s.hpr.exec ∧ (setStr s i new cause).hpr.order = s.hpr.order := by
  unfold setStr
  dsimp only
  split
  · exact ⟨rfl, rfl⟩
  · split <;> simp

theorem degrades_setStr (s : State) (i : Nat) (new : StrState) (cause : Nat) : Degrades s (setStr s i new cause) :=
  .of_eq (by simp) (by simp) (by simp) (by simp) (by simp)

theorem degrades_gateOffString (s : State) (i : Nat) : Degrades s (gateOffString s i) := .of_eq rfl rfl rfl rfl rfl

theorem degrades_openCoils (s : State) (i : Nat) : Degrades s (openCoils s i) :=
  .of_eq (by simp) (by simp) (by simp) (by simp) (by simp)

theorem degrades_stopBalancing (s : State) (i : Nat) : Degrades s (stopBalancing s i) := .of_eq rfl rfl rfl rfl rfl

theorem degrades_deferWrite (s : State) (k : Nat) : Degrades s (deferWrite s k) := ⟨rfl, rfl, .refl _, rfl, .inl rfl⟩

theorem degrades_storeE (s : State) (i : Nat) : Degrades s (storeE s i) := by
  unfold storeE
  split
  · exact .of_eq rfl rfl rfl rfl rfl
  · exact degrades_deferWrite ..

theorem degrades_endPrecharge (s : State) (i : Nat) : Degrades s (endPrecharge s i) := by
  unfold endPrecharge
  split
  · exact .refl s
  · refine .trans ?_ (degrades_storeE ..)
    exact .of_eq rfl rfl rfl rfl rfl

theorem degrades_haltStr (s : State) (i cause : Nat) : Degrades s (haltStr s i cause) := by
  have hhalt : Degrades s (stopBalancing (abortTrans (setStr (openCoils (endPrecharge (gateOffString s i) i) i) i .halted
      cause) i) i) :=
    (degrades_gateOffString s i).trans <| (degrades_endPrecharge ..).trans <| (degrades_openCoils ..).trans <|
      (degrades_setStr ..).trans <| (degrades_abortTrans ..).trans <| degrades_stopBalancing ..
  unfold haltStr
  split
  · exact hhalt
  · exact hhalt
  · exact hhalt
  · exact .refl s

theorem degrades_retireStr (s : State) (i cause : Nat) : Degrades s (retireStr s i cause) := by
  have hretire (u : State) : Degrades u (stopBalancing (setStr (u.setFlt fun f =>
      { f with retiredStr := i :: f.retiredStr.filter (· ≠ i) }) i .retired cause) i) := by
    refine .trans ?_ ((degrades_setStr ..).trans (degrades_stopBalancing ..))
    exact .of_eq rfl rfl rfl rfl rfl
  refine (degrades_haltStr s i cause).trans ?_
  unfold retireStr
  dsimp only
  split
  · exact hretire _
  · exact hretire _
  · exact .refl _

theorem degrades_prechargeAbort (s : State) (i cause : Nat) : Degrades s (prechargeAbort s i cause) := by
  unfold prechargeAbort
  split
  · exact (degrades_endPrecharge s i).trans <| (degrades_openCoils ..).trans <| (degrades_setStr ..).trans <|
      degrades_abortTrans ..
  · exact .refl s

theorem degrades_disconnectNow (s : State) (i : Nat) : Degrades s (disconnectNow s i) :=
  .of_eq (by simp) (by simp) (by simp) (by simp) (by simp)

theorem degrades_disconnectAll (s : State) (cause : Nat) : Degrades s (disconnectAll s cause) := by
  rw [disconnectAll_eq]
  refine .foldl (fun s i => ?_) _ s
  have hnow : Degrades s (disconnectNow (if strayCause cause then strayStr s i else s) i) := by
    refine .trans ?_ (degrades_disconnectNow ..)
    split
    · exact .of_eq rfl rfl rfl rfl rfl
    · exact .refl s
  unfold disconnectStep
  split
  · exact degrades_prechargeAbort ..
  · exact hnow
  · exact hnow
  · exact .refl s

/-! ## Tiers -/

theorem degrades_forceTier (s : State) (i : Nat) (old new : Tier) : Degrades s (forceTier s i old new) := by
  have hramp : Degrades s (if (s.convAt i).rampThen.isSome then s else startRamp (strayStr s i) i .connected) := by
    split
    · exact .refl s
    · exact .of_eq rfl rfl rfl rfl rfl
  unfold forceTier
  split
  · exact .refl s
  · split
    · exact degrades_haltStr ..
    · exact degrades_prechargeAbort ..
    · exact hramp
    · exact hramp
    · exact .refl s

theorem degrades_retierStr (s : State) (i : Nat) : Degrades s (retierStr s i) := by
  have hretire (u : State) (hu : Degrades s u) : Degrades s (if permanentLoss u i then retireStr u i 28 else u) := by
    split
    · exact hu.trans (degrades_retireStr ..)
    · exact hu
  refine hretire _ ?_
  split
  · exact .refl s
  · refine .trans ?_ (degrades_forceTier ..)
    exact .of_eq (by simp) (by simp) (by simp) (by simp) (by simp)

theorem setUnit_unit (s : State) (u : UnitState) (cause : Nat) : (setUnit s u cause).unit = u := by
  unfold setUnit
  split
  next h => exact eq_of_beq h
  · dsimp only; split <;> simp

@[simp] theorem setUnit_queue (s : State) (u : UnitState) (cause : Nat) :
    (setUnit s u cause).hpr.exec = s.hpr.exec ∧ (setUnit s u cause).hpr.order = s.hpr.order := by
  unfold setUnit
  split
  · exact ⟨rfl, rfl⟩
  · dsimp only; split <;> simp

theorem degrades_setUnit (s : State) (cause : Nat) : Degrades s (setUnit s .safeHold cause) :=
  ⟨by simp, by simp, by simp, by simp, .inr (setUnit_unit ..)⟩

theorem degrades_enterSafeHold (s : State) (cause : Nat) : Degrades s (enterSafeHold s cause) := by
  unfold enterSafeHold
  split
  · refine .trans ?_ (degrades_setUnit ..)
    refine .trans (.foldl (fun s i => ?_) _ s) (.of_eq rfl rfl rfl rfl rfl)
    exact (degrades_haltStr s i cause).trans <| (degrades_gateOffString ..).trans <| (degrades_openCoils ..).trans <|
      degrades_abortTrans ..
  · exact .refl s

theorem enterSafeHold_unit {s : State} (cause : Nat) (h : AnyRole s) : (enterSafeHold s cause).unit = .safeHold := by
  unfold enterSafeHold
  rw [if_pos (by simp [h])]
  exact setUnit_unit ..

theorem degrades_retier (s : State) : Degrades s (retier s) := by
  have hhold (u : State) : Degrades u (if sharedLost u && u.unit.isRole then enterSafeHold u 567 else u) := by
    split
    · exact degrades_enterSafeHold ..
    · exact .refl u
  exact .trans (.foldl degrades_retierStr (List.range s.strings) s) (hhold _)

/-! ## Retirement of a unit -/

theorem degrades_retireEffect (s : State) (u : Nat) : Degrades s (retireEffect s u) :=
  .of_eq (by simp) (by simp) (by simp) (by simp) (by simp)

/-- Unit `u` among the retired, with its reason; it is suspended no longer. -/
def markRetired (s : State) (u reason : Nat) : State :=
  s.setFlt fun f => { f with retired := (u, reason) :: f.retired, susp := f.susp.filter (fun e => e.unit ≠ u)
                             transients := f.transients.filter fun e => e.1 ≠ u }

theorem degrades_retireUnit {s : State} {u : Nat} (reason : Nat) (h : s.retired u = false) :
    Degrades (markRetired s u reason) (retireUnit s u reason) := by
  unfold retireUnit
  rw [if_neg (by simp [h])]
  refine .trans ?_ ((degrades_retireEffect ..).trans (degrades_retier _))
  exact .of_eq (by simp; rfl) (by simp; rfl) (by simp; rfl) (by simp; rfl) (by simp; rfl)

theorem retireUnit_of_retired {s : State} {u : Nat} (reason : Nat) (h : s.retired u = true) : retireUnit s u reason = s :=
  if_pos h

theorem retireUnit_retired (s : State) (u reason : Nat) : (retireUnit s u reason).retired u = true := by
  cases h : s.retired u with
  | true => rwa [retireUnit_of_retired reason h]
  | false => simp [State.retired, (degrades_retireUnit reason h).retired, markRetired]

@[simp] theorem retireUnit_power (s : State) (u reason : Nat) : (retireUnit s u reason).pwr.core = s.pwr.core := by
  cases h : s.retired u with
  | true => rw [retireUnit_of_retired reason h]
  | false => exact (degrades_retireUnit reason h).power

theorem retireUnit_safeHold {s : State} (u reason : Nat) (hs : s.unit = .safeHold) :
    (retireUnit s u reason).unit = .safeHold := by
  cases h : s.retired u with
  | true => rwa [retireUnit_of_retired reason h]
  | false => exact (degrades_retireUnit reason h).unit.elim (·.trans hs) id

end Sys2Proof.Machine
end

section
/-! SUPPORT. The end of the hold-up sequence, the return of VIN, and the energy of VBAK (02_power_states_clocks.md R39, R45 to
R47). -/

namespace Sys2Proof.Machine

/-! ## The ACTIVE power state after HOLD-UP or DORMANT -/

theorem leaveDormant_pwr (s : State) : (leaveDormant s).pwr = { s.pwr with state := .active, lastCmdT := s.clk } := by
  unfold leaveDormant
  dsimp only
  split <;> simp

theorem resumeActive_conv (s : State) : (resumeActive s).conv = s.conv := by simp

theorem resumeActive_pwr (s : State) :
    ∃ t, (resumeActive s).pwr = { s.pwr with state := .active, lastCmdT := t } := by
  unfold resumeActive
  split
  · exact ⟨s.clk, leaveDormant_pwr s⟩
  · exact ⟨s.pwr.lastCmdT, setPower_pwr s .active⟩

/-! ## The writeback -/

@[simp] theorem triggerJournal_power (s : State) (reason : Nat) : (triggerJournal s reason).pwr.core = s.pwr.core := by
  unfold triggerJournal
  dsimp only
  split
  · rfl
  · split
    · simp
    · exact (degrades_deferWrite ..).power

@[simp] theorem writeCheck_power (s : State) : (writeCheck s).pwr.core = s.pwr.core := by
  unfold writeCheck
  split
  · rfl
  · exact (degrades_deferWrite ..).power

theorem writeback_power (s : State) : (writeback s).pwr.core = s.pwr.core := by
  have hstore (u : State) : ((List.range u.strings).foldl storeE u).pwr.core = u.pwr.core :=
    (Degrades.foldl degrades_storeE _ u).power
  simp [writeback, hstore]

/-! ## OFF -/

theorem goOff_off (s : State) (cause : Nat) (keep : Bool) :
    (goOff s cause keep).pwr.state = .retention ∧ (goOff s cause keep).unit = .off ∧ (goOff s cause keep).hpr.order = [] ∧
    (goOff s cause keep).hpr.exec = [] ∧ (goOff s cause keep).hpr.ready = false ∧ (goOff s cause keep).red.beatsOn = false ∧
    (goOff s cause keep).seq.rails.all (fun r => !r.enabled) = true := by
  unfold goOff
  simp [setUnit_unit]

/-! ## The abandoned ramps -/

/-- The ramp of string `i` is abandoned, unless it leads to another state. -/
def abandonRamp (s : State) (i : Nat) : State :=
  s.modConv i fun c => if c.rampThen.isNone then { c with rampStop := false } else c

theorem abandonRamps_eq (s : State) : abandonRamps s =
    (List.range s.strings).foldl abandonRamp (s.setPwr fun p => { p with dispatchUnavailable := false }) := rfl

theorem abandonRamp_rampThen (s : State) (i k : Nat) : ((abandonRamp s i).convAt k).rampThen = (s.convAt k).rampThen :=
  convAt_modConv_field Conv.rampThen s i k _ fun c => by split <;> rfl

theorem abandonRamps_rampStop {s : State} {i : Nat} (hs : i < s.strings) (hi : i < s.conv.length)
    (hr : (s.convAt i).rampThen = none) : ((abandonRamps s).convAt i).rampStop = false := by
  rw [abandonRamps_eq]
  refine foldl_establishes (Q := fun s : State => (s.convAt i).rampThen = none ∧ i < s.conv.length)
    (P := fun s : State => (s.convAt i).rampStop = false) ?_ ?_ ?_ _ (List.mem_range.mpr hs) _ ⟨hr, hi⟩
  · rintro s k ⟨hr, hi⟩
    exact ⟨(abandonRamp_rampThen s k i).trans hr, by simpa [abandonRamp, State.modConv] using hi⟩
  · rintro s ⟨hr, hi⟩
    simp [abandonRamp, convAt_modConv_same s i _ hi, hr]
  · rintro s k ⟨hr, hi⟩ hp
    by_cases hk : i = k
    · subst hk; simp [abandonRamp, convAt_modConv_same s i _ hi, hr]
    · rwa [abandonRamp, convAt_modConv_ne s _ hk]

theorem abandonRamps_pwr (s : State) : (abandonRamps s).pwr = { s.pwr with dispatchUnavailable := false } := by
  rw [abandonRamps_eq, foldl_pwr abandonRamp fun _ _ => rfl]
  rfl

/-! ## VIN return -/

/-- What the return of VIN does in HOLD-UP, by the step that the sequence has reached. -/
def vinBack (s : State) : State :=
  match s.pwr.holdStep with
  | 0 => setPower s s.pwr.prev
  | 1 => resumeActive (abandonRamps s)
  | 2 => s.setPwr fun p => { p with returnPending := true }
  | _ => resumeActive (s.setPwr fun p => { p with dispatchUnavailable := false })

theorem vinBack_inGrace {s : State} (h : s.pwr.holdStep = 0) : vinBack s = setPower s s.pwr.prev := by
  simp only [vinBack, h]

theorem vinBack_afterRamp {s : State} (h : s.pwr.holdStep = 1) : vinBack s = resumeActive (abandonRamps s) := by
  simp only [vinBack, h]

theorem vinBack_afterDisconnect {s : State} (h : s.pwr.holdStep = 2) :
    vinBack s = s.setPwr fun p => { p with returnPending := true } := by
  simp only [vinBack, h]

/-! ## Energy -/

theorem setPwr_deferred_nil {s : State} (h : s.pwr.deferred = []) : (s.setPwr fun p => { p with deferred := [] }) = s := by
  change { s with pwr := { s.pwr with deferred := [] } } = s
  rw [← h]

/-! ## The events, on the state `b` at their instant -/

/-- Where the unit commands strings, every REGULATING string opens; the sequence stands where it stood. -/
theorem disconnect_opens (cause : Nat) (v : State) :
    let u := if v.unit.commands then disconnectAll v cause else v
    u.pwr.core = v.pwr.core ∧ (Commands v → ∀ i, i < v.strings → i < v.conv.length → (v.strAt i).state = .regulating →
      (u.convAt i).running = false ∧ (u.convAt i).rampThen = some .isolated) := by
  dsimp only
  constructor
  · split
    · exact (degrades_disconnectAll ..).power
    · rfl
  · intro hc i hs hi hr
    rw [if_pos (commands_of_role hc)]
    exact disconnectAll_opening cause hs hr hi

section
variable {t : Nat} {s b : State} (hb : s.advance t = b)
include hb

theorem exec_holdupDisconnectStep (hp : b.pwr.state = .holdup) (h2 : b.pwr.holdStep < 2)
    (ht : 80 * nsMs ≤ b.clk - b.pwr.holdT0) : exec (.holdupDisconnectStep t) s =
      .next (if b.unit.commands then disconnectAll (b.setPwr fun p => { p with holdStep := 2 }) 46
        else b.setPwr fun p => { p with holdStep := 2 }) := by
  change execHoldupDisconnectStep t s = _
  unfold execHoldupDisconnectStep
  simp only [hb]
  rw [if_neg (by simp [hp, Nat.not_le.mpr h2, sinceLoss, Nat.not_lt.mpr ht])]
  rfl

theorem holdupDisconnectStep_opens (hp : b.pwr.state = .holdup) (h2 : b.pwr.holdStep < 2)
    (ht : 80 * nsMs ≤ b.clk - b.pwr.holdT0) : Does (.holdupDisconnectStep t) s fun u =>
      u.pwr.holdStep = 2 ∧ u.pwr.state = .holdup ∧ (Commands b → ∀ i, i < b.strings → i < b.conv.length →
        (b.strAt i).state = .regulating → (u.convAt i).running = false ∧ (u.convAt i).rampThen = some .isolated) := by
  obtain ⟨hcore, hopens⟩ := disconnect_opens 46 (b.setPwr fun p => { p with holdStep := 2 })
  exact ⟨_, exec_holdupDisconnectStep hb hp h2 ht, field_of_core Power.holdStep hcore,
    (field_of_core Power.state hcore).trans hp, hopens⟩

theorem exec_vbakCritical {vbak : Nat} (hp : b.pwr.state = .holdup) (hv : vbak < 9500) (h2 : b.pwr.holdStep < 2) :
    ∃ v, (v.pwr = { b.pwr with vbak := vbak, holdStep := 2, holdT0 := b.clk - 80 * nsMs } ∧ v.unit = b.unit ∧
      v.str = b.str ∧ v.conv = b.conv ∧ v.variant = b.variant) ∧
      exec (.vbakCritical t vbak) s = .next (if v.unit.commands then disconnectAll v 47 else v) := by
  refine ⟨(groupRecord (b.setPwr fun p => { p with vbak := vbak }) gSys srcAon lvInfo 47 0 vbak).setPwr fun p =>
    { p with holdStep := 2, holdT0 := b.clk - 80 * nsMs }, by simp, ?_⟩
  change execVbakCritical t vbak s = _
  unfold execVbakCritical
  simp only [hb]
  rw [if_pos (by simp [hp, hv]), if_neg (by simpa using h2)]
  simp

theorem vbakCritical_opens {vbak : Nat} (hp : b.pwr.state = .holdup) (hv : vbak < 9500) (h2 : b.pwr.holdStep < 2) :
    Does (.vbakCritical t vbak) s fun u => u.pwr.holdStep = 2 ∧ u.pwr.vbak = vbak ∧ u.pwr.state = .holdup ∧
      (Commands b → ∀ i, i < b.strings → i < b.conv.length → (b.strAt i).state = .regulating →
        (u.convAt i).running = false ∧ (u.convAt i).rampThen = some .isolated) := by
  obtain ⟨v, ⟨hpwr, hunit, hstr, hconv, hvar⟩, hexec⟩ := exec_vbakCritical hb hp hv h2
  obtain ⟨hcore, hopens⟩ := disconnect_opens 47 v
  rw [hpwr] at hcore
  refine ⟨_, hexec, field_of_core Power.holdStep hcore, field_of_core Power.vbak hcore,
    (field_of_core Power.state hcore).trans hp, ?_⟩
  simpa only [Commands, State.strings, State.strAt, hunit, hstr, hconv, hvar] using hopens

theorem exec_mramWriteback (hp : b.pwr.state = .holdup) (h2 : b.pwr.holdStep = 2)
    (ht : 100 * nsMs ≤ b.clk - b.pwr.holdT0) :
    let v := writeback (b.setPwr fun p => { p with holdStep := 3 })
    exec (.mramWriteback t) s = .next (if v.pwr.returnPending then
      resumeActive (v.setPwr fun p => { p with returnPending := false, dispatchUnavailable := false }) else v) := by
  change execMramWriteback t s = _
  unfold execMramWriteback
  simp only [hb]
  rw [if_neg (by simp [hp, h2, sinceLoss, Nat.not_lt.mpr ht])]

theorem mramWriteback_ends (hp : b.pwr.state = .holdup) (h2 : b.pwr.holdStep = 2)
    (ht : 100 * nsMs ≤ b.clk - b.pwr.holdT0) : Does (.mramWriteback t) s fun u =>
      u.pwr.holdStep = 3 ∧ u.pwr.state = (if b.pwr.returnPending then .active else .holdup) ∧ u.str = b.str := by
  have hcore := writeback_power (b.setPwr fun p => { p with holdStep := 3 })
  have hstep := field_of_core Power.holdStep hcore
  have hstate := field_of_core Power.state hcore
  have hret := field_of_core Power.returnPending hcore
  refine ⟨_, exec_mramWriteback hb hp h2 ht, ?_⟩
  rw [hret, State.setPwr_pwr]
  cases b.pwr.returnPending with
  | true =>
    obtain ⟨_, hres⟩ := resumeActive_pwr ((writeback (b.setPwr fun p => { p with holdStep := 3 })).setPwr fun p =>
      { p with returnPending := false, dispatchUnavailable := false })
    simp [hres, hstep]
  | false => simp [hstep, hstate, hp]

theorem retentionEntry_off (hp : b.pwr.state = .holdup) (h3 : b.pwr.holdStep = 3)
    (ht : 120 * nsMs ≤ b.clk - b.pwr.holdT0) : Does (.retentionEntry t) s fun u =>
      u.pwr.state = .retention ∧ u.unit = .off ∧ u.hpr.order = [] ∧ u.hpr.exec = [] ∧ u.hpr.ready = false ∧
        u.red.beatsOn = false ∧ u.seq.rails.all (fun r => !r.enabled) = true := by
  refine ⟨goOff b 46 false, ?_, goOff_off b 46 false⟩
  change execRetentionEntry t s = _
  unfold execRetentionEntry
  simp only [hb]
  rw [if_pos (by simp [hp, h3, sinceLoss, ht])]

theorem exec_vinReturn {vin : Nat} (hv : b.pwr.vinValid = false) (hl : 35000 < vin) (hp : b.pwr.state = .holdup) :
    exec (.vinReturn t vin) s =
      .next (vinBack (b.setPwr fun p => { p with vin := vin, vinValid := true, chargerOn := true })) := by
  change execVinReturn t vin s = _
  unfold execVinReturn
  simp only [hb]
  rw [if_neg (by simp [hv, hl])]
  simp only [State.setPwr_pwr, hp]
  rfl

theorem vinReturn_inGrace {vin : Nat} (hv : b.pwr.vinValid = false) (hl : 35000 < vin) (hp : b.pwr.state = .holdup)
    (h0 : b.pwr.holdStep = 0) : Does (.vinReturn t vin) s fun u =>
      u.pwr.vinValid = true ∧ u.pwr.chargerOn = true ∧ u.pwr.state = b.pwr.prev := by
  refine ⟨_, exec_vinReturn hb hv hl hp, ?_⟩
  rw [vinBack_inGrace (by simpa using h0)]
  simp

theorem vinReturn_afterRamp {vin : Nat} (hv : b.pwr.vinValid = false) (hl : 35000 < vin) (hp : b.pwr.state = .holdup)
    (h1 : b.pwr.holdStep = 1) : Does (.vinReturn t vin) s fun u =>
      u.pwr.state = .active ∧ u.pwr.dispatchUnavailable = false ∧ u.str = b.str ∧ ∀ i, i < b.strings →
        i < b.conv.length → (b.convAt i).rampThen = none → (u.convAt i).rampStop = false := by
  refine ⟨_, exec_vinReturn hb hv hl hp, ?_⟩
  rw [vinBack_afterRamp (by simpa using h1)]
  obtain ⟨_, hpwr⟩ := resumeActive_pwr
    (abandonRamps (b.setPwr fun p => { p with vin := vin, vinValid := true, chargerOn := true }))
  refine ⟨by rw [hpwr], by rw [hpwr, abandonRamps_pwr], by simp, fun i hs hi hr => ?_⟩
  rw [convAt_congr (resumeActive_conv _)]
  exact abandonRamps_rampStop hs hi hr

theorem vinReturn_afterDisconnect {vin : Nat} (hv : b.pwr.vinValid = false) (hl : 35000 < vin)
    (hp : b.pwr.state = .holdup) (h2 : b.pwr.holdStep = 2) : Does (.vinReturn t vin) s fun u =>
      u = { b with pwr := { b.pwr with vin := vin, vinValid := true, chargerOn := true, returnPending := true } } :=
  ⟨_, exec_vinReturn hb hv hl hp, vinBack_afterDisconnect h2⟩

theorem vbakRetentionFloor_unpowers {vbak : Nat} (hp : b.pwr.state = .retention) (hl : vbak < 8000)
    (hv : b.pwr.vinValid = false) : Does (.vbakRetentionFloor t vbak) s fun u =>
      u.pwr.state = .unpowered ∧ u.tsu.now = 0 ∧ u.tsu.timeLoaded = false ∧ u.pwr.rtcAlarm = none ∧ u.flt = b.flt := by
  have hcond : (b.pwr.state == .retention && decide (vbak < 8000) && !b.pwr.vinValid) = true := by simp [hp, hl, hv]
  refine ⟨_, rfl, ?_⟩
  simp only [hb]
  rw [if_pos hcond]
  simp

theorem eAvailUpdate_follows {vbak : Nat} (hp : b.pwr.state ≠ .unpowered) (hd : b.pwr.deferred = []) :
    Does (.eAvailUpdate t vbak) s fun u => u.pwr.vbak = vbak ∧
      u.pwr.eAvail = b.pwr.cmeas.getD (b.pwr.cmin * 1000) * (vbak * vbak - 81000000) / 2000000 := by
  obtain ⟨low, hpwr⟩ := updateEnergy_pwr b vbak
  refine ⟨updateEnergy b vbak, ?_, by rw [hpwr], by rw [hpwr]; rfl⟩
  change execEAvailUpdate t vbak s = _
  unfold execEAvailUpdate
  simp only [hb]
  rw [if_neg (by simpa using hp)]
  have hd' : (updateEnergy b vbak).pwr.deferred = [] := by simpa using hd
  rw [setPwr_deferred_nil hd', hd', List.foldl_nil, ite_self]

theorem exec_capacitanceMeasurement {droop esr : Nat} (hv : b.pwr.vinValid = true) (hoff : b.unit ≠ .off)
    (hup : b.unit ≠ .powerup) (hd : droop ≠ 0) : exec (.capacitanceMeasurement t droop esr) s =
      .next (updateEnergy (b.setPwr fun p => { p with cmeas := some (20000000 / droop), esr := esr, cmeasT := b.clk })
        b.pwr.vbak) := by
  change execCapacitanceMeasurement t droop esr s = _
  unfold execCapacitanceMeasurement
  simp only [hb]
  rw [if_pos (by simp [hv, hostServed, hoff, hup, hd])]
  rfl

theorem capacitanceMeasurement_sets {droop esr : Nat} (hv : b.pwr.vinValid = true) (hoff : b.unit ≠ .off)
    (hup : b.unit ≠ .powerup) (hd : droop ≠ 0) : Does (.capacitanceMeasurement t droop esr) s fun u =>
      u.pwr.cmeas = some (20000000 / droop) ∧ u.pwr.esr = esr ∧ u.pwr.cmeasT = b.clk ∧
        u.pwr.eAvail = 20000000 / droop * (b.pwr.vbak * b.pwr.vbak - 81000000) / 2000000 := by
  obtain ⟨low, hpwr⟩ := updateEnergy_pwr (b.setPwr fun p =>
    { p with cmeas := some (20000000 / droop), esr := esr, cmeasT := b.clk }) b.pwr.vbak
  refine ⟨_, exec_capacitanceMeasurement hb hv hoff hup hd, ?_⟩
  dsimp only
  rw [hpwr]
  exact ⟨rfl, rfl, rfl, rfl⟩

end

/-- Settles O7: each clause is the law of its command, or of its event on the state at the event's instant. -/
theorem vbakAndHoldup : Obligations.VbakAndHoldup :=
  ⟨fun _ _ h hr hl hlo hhi hz => sysSetVbak_sets h hr hl hlo hhi hz,
    fun _ _ h hr hl => sysSetAlarm_sets h hr hl,
    fun _ _ h hr hl => sysEcho_returns h hr hl,
    fun _ _ _ hv hl hoff hup hp => vinLoss_entersHoldup rfl hv hl hoff hup hp,
    fun _ _ hp h0 ht hu hr hvin hn hs => holdupSwapRequest_asks rfl hp h0 ht hu hr hvin hn hs,
    fun _ _ hp h0 ht hc => holdupRampStep_ramps rfl hp h0 ht hc,
    fun _ _ hp h2 ht => holdupDisconnectStep_opens rfl hp h2 ht,
    fun _ _ hp h2 ht => mramWriteback_ends rfl hp h2 ht,
    fun _ _ hp h3 ht => retentionEntry_off rfl hp h3 ht,
    fun _ _ _ hp hv h2 => vbakCritical_opens rfl hp hv h2,
    fun _ _ _ hv hl hp h0 => vinReturn_inGrace rfl hv hl hp h0,
    fun _ _ _ hv hl hp h1 => vinReturn_afterRamp rfl hv hl hp h1,
    fun _ _ _ hv hl hp h2 => vinReturn_afterDisconnect rfl hv hl hp h2,
    fun _ _ _ hp hl hv => vbakRetentionFloor_unpowers rfl hp hl hv,
    fun _ _ _ hp hd => eAvailUpdate_follows rfl hp hd,
    fun _ _ _ _ hv hoff hup hd => capacitanceMeasurement_sets rfl hv hoff hup hd⟩

end Sys2Proof.Machine
end

section
/-! SUPPORT. FLOAT, DORMANT and the wake from it (02_power_states_clocks.md R41, R45, R49; 14_time.md R420). -/

namespace Sys2Proof.Machine

theorem exitFloat_pwr {s : State} (h : s.pwr.state = .float) : (exitFloat s).pwr.state = .active := by
  simp [exitFloat, h]

theorem peerSend_newest (s : State) (ty : Nat) : (peerSend s ty).red.peerOut.head? = some ty := by
  simp [peerSend]

/-- TSU time is in HOLDOVER after DORMANT, or past the holdover limit in FREERUN, without a source. -/
theorem leaveDormant_tsu (s : State) :
    (leaveDormant s).tsu.sync =
      (if getU (timCfg s) 20 4 * nsS < s.clk - s.pwr.dormantT then .freerun else .holdover) ∧
    (leaveDormant s).tsu.src = none := by
  have htsu : (leaveDormant s).tsu = (wakeTsu s).tsu := by
    unfold leaveDormant
    dsimp only
    split <;> simp
  rw [htsu]
  unfold wakeTsu
  rw [State.setTsu_tsu]
  split <;> exact ⟨rfl, rfl⟩

/-- A wake ends DORMANT; the RTC alarm that caused it is cleared. -/
theorem wakeUp_eq {s : State} {w : WakeCause} (hp : s.pwr.state = .dormant) (hw : wakes s w = true) :
    ∃ alarm, wakeUp s w = leaveDormant (s.setPwr fun p => { p with rtcAlarm := alarm }) := by
  unfold wakeUp
  rw [if_neg (by simp [hp, hw])]
  dsimp only
  split
  · exact ⟨none, rfl⟩
  · exact ⟨s.pwr.rtcAlarm, rfl⟩

section
variable {t : Nat} {s b : State} (hb : s.advance t = b)
include hb

theorem floatEntry_enters (hp : b.pwr.state = .active) (hr : AnyRole b) (hf : floatAllowed b = true) :
    Does (.floatEntry t) s fun u => u.pwr.state = .float ∧ u.pwr.floatRaised = false ∧ u.str = b.str := by
  have hcond : (b.pwr.state == .active && b.unit.isRole && floatAllowed b) = true := by simp [hp, hr, hf]
  refine ⟨_, rfl, ?_⟩
  simp only [hb]
  rw [if_pos hcond]
  simp

theorem floatExit_leaves (hp : b.pwr.state = .float) (hf : b.pwr.floatEn = false) :
    Does (.floatExit t) s fun u => u.pwr.state = .active ∧ u.str = b.str := by
  refine ⟨exitFloat b, ?_, exitFloat_pwr hp, by simp⟩
  change execFloatExit t s = _
  unfold execFloatExit
  simp only [hb]
  rw [if_pos (by simp [hp, hf])]

theorem floatClockRaise_raises {instant : Nat} (hp : b.pwr.state = .float) (hlo : b.tsu.now ≤ instant)
    (hhi : instant ≤ b.tsu.now + 300 * nsUs) : Does (.floatClockRaise t instant) s fun u =>
      u = { b with pwr := { b.pwr with floatRaised := true } } := by
  have hcond : (b.pwr.state == .float && decide (b.tsu.now ≤ instant ∧ instant ≤ b.tsu.now + 300 * nsUs)) = true := by
    simp [hp, hlo, hhi]
  refine ⟨_, rfl, ?_⟩
  simp only [hb]
  exact if_pos hcond

theorem dormantEntry_enters (hp : b.pwr.state = .active ∨ b.pwr.state = .float) (hd : dormantAllowed b = true) :
    Does (.dormantEntry t) s fun u => u.pwr.state = .dormant ∧ u.pwr.dormantT = b.clk ∧ u.red.beatsOn = false ∧
      (b.red.present = true → u.red.peerOut.head? = some 2) := by
  have hcond : ((b.pwr.state == .active || b.pwr.state == .float) && dormantAllowed b) = true := by simp [hp, hd]
  refine ⟨_, rfl, ?_⟩
  simp only [hb]
  rw [if_pos hcond]
  refine ⟨by simp, by simp, by simp, fun hpres => ?_⟩
  simpa [hpres, peerState] using peerSend_newest (sendBeat ((List.range b.strings).foldl stopBalancing b) true) peerState

theorem wakeEvent_wakes {w : WakeCause} (hp : b.pwr.state = .dormant) (hw : wakes b w = true) :
    Does (.wakeEvent t w) s fun u => u.pwr.state = .active ∧ u.pwr.lastCmdT = b.clk ∧
      u.tsu.sync = (if getU (timCfg b) 20 4 * nsS < b.clk - b.pwr.dormantT then .freerun else .holdover) ∧
      u.tsu.src = none := by
  obtain ⟨alarm, hwake⟩ := wakeUp_eq hp hw
  obtain ⟨hsync, hsrc⟩ := leaveDormant_tsu (b.setPwr fun p => { p with rtcAlarm := alarm })
  refine ⟨_, rfl, ?_⟩
  rw [hb, hwake]
  dsimp only
  rw [leaveDormant_pwr]
  exact ⟨rfl, rfl, hsync, hsrc⟩

end

end Sys2Proof.Machine
end

section
/-! SUPPORT. Clock failures, the restarts after them, and imbalances (02_power_states_clocks.md R50 to R52; 01_system.md R36). -/

namespace Sys2Proof.Machine

/-- The state with the failure of domain `d` recorded, and `d` among the failed clocks. -/
def clockMarked (s : State) (d : ClockDomain) : State :=
  (groupRecord s gSys srcPmu lvErr 50 (domCode d) 0).setPwr fun p => { p with failedClocks := p.failedClocks ++ [d] }

/-- What the failure of XREF does before the units on its clocks are retired (R52). -/
def xrefLost (s : State) : State :=
  enterSafeHold (s.setPwr fun p => { p with xrefFailed := true, plgOnSloe := true }) 52

/-- The response to the failure of a domain other than AON (R51, R52). -/
def clockResponse (s : State) (d : ClockDomain) : State :=
  match d with
  | .sys => loseSup (s.setPwr fun p => { p with plgOnSloe := true })
  | .loop => retireUnit (loopStops s) uLe 3
  | .est => retireUnit ((List.range 4).foldl stopPair s) uCee 3
  | .safe => retireUnit s uSp 3
  | .sloe => retireUnit s uSloe 3
  | .isoH => retireUnit s uHvi 3
  | .xref => retireUnit (retireUnit (retireUnit (xrefLost s) uHvi 3) uLe 3) uCee 3
  | _ => retier s

@[simp] theorem clockMarked_keeps (s : State) (d : ClockDomain) : (clockMarked s d).unit = s.unit ∧
    (clockMarked s d).pwr = { s.pwr with failedClocks := s.pwr.failedClocks ++ [d] } := by
  simp [clockMarked]

theorem exec_clockFailure {t : Nat} {s b : State} {d : ClockDomain} (hb : s.advance t = b) (h : domRuns b d = true)
    (hd : d ≠ .aon) : exec (.clockFailure t d) s = .next (clockResponse (clockMarked b d) d) := by
  change execClockFailure t d s = _
  unfold execClockFailure
  simp only [hb]
  rw [if_neg (by simp [h]), if_neg (by simpa using hd)]
  cases d <;> rfl

theorem clockResponse_power_sys (s : State) : (clockResponse s .sys).pwr.core =
    { s.pwr with supLost := true, supRestarting := true, plgOnSloe := true }.core :=
  (degrades_retier _).power

theorem clockResponse_power_xref (s : State) : (clockResponse s .xref).pwr.core =
    { s.pwr with xrefFailed := true, plgOnSloe := true }.core :=
  (retireUnit_power ..).trans <| (retireUnit_power ..).trans <| (retireUnit_power ..).trans
    (degrades_enterSafeHold ..).power

/-- No response changes the failed clocks. -/
theorem clockResponse_failedClocks (s : State) (d : ClockDomain) :
    (clockResponse s d).pwr.failedClocks = s.pwr.failedClocks := by
  cases d with
  | sys => exact (field_of_core Power.failedClocks (clockResponse_power_sys s) :)
  | xref => exact (field_of_core Power.failedClocks (clockResponse_power_xref s) :)
  | loop | est | safe | sloe | isoH => exact field_of_core Power.failedClocks (by simp [clockResponse])
  | aon | time | eth | ring | can => exact field_of_core Power.failedClocks (degrades_retier s).power

/-- The unit that the clock of each of five domains carries (R51). -/
theorem clockResponse_retires (s : State) {d : ClockDomain} {unit : Nat} (h : (d, unit) ∈
    [(ClockDomain.loop, uLe), (ClockDomain.est, uCee), (ClockDomain.safe, uSp), (ClockDomain.sloe, uSloe),
      (ClockDomain.isoH, uHvi)]) : (clockResponse s d).retired unit = true ∧ d ≠ .aon := by
  simp only [List.mem_cons, Prod.mk.injEq, List.not_mem_nil, or_false] at h
  rcases h with ⟨rfl, rfl⟩ | ⟨rfl, rfl⟩ | ⟨rfl, rfl⟩ | ⟨rfl, rfl⟩ | ⟨rfl, rfl⟩ <;>
    exact ⟨retireUnit_retired .., by decide⟩

theorem clockResponse_sys (s : State) : (clockResponse s .sys).pwr.supLost = true ∧
    (clockResponse s .sys).pwr.supRestarting = true ∧ (clockResponse s .sys).pwr.plgOnSloe = true := by
  have hcore := clockResponse_power_sys s
  exact ⟨field_of_core Power.supLost hcore, field_of_core Power.supRestarting hcore, field_of_core Power.plgOnSloe hcore⟩

theorem clockResponse_xref {s : State} (h : AnyRole s) : (clockResponse s .xref).unit = .safeHold ∧
    (clockResponse s .xref).pwr.xrefFailed = true := by
  constructor
  · exact retireUnit_safeHold _ _ (retireUnit_safeHold _ _ (retireUnit_safeHold _ _ (enterSafeHold_unit 52 h)))
  · exact field_of_core Power.xrefFailed (clockResponse_power_xref s)

/-! ## SUP starts anew -/

theorem supStart_pwr (s : State) (cause : Nat) : (supStart s cause).pwr =
    { s.pwr with supLost := false, supRestarting := false, plgOnSloe := s.clockLost .sys } := by
  simp [supStart]

theorem supStart_queue (s : State) (cause : Nat) :
    (supStart s cause).hpr.exec = [] ∧ (supStart s cause).hpr.order = [] := by
  simp [supStart]

/-- A start of SUP and the tiers after it: nothing executes, nothing waits, and SUP runs. -/
theorem retier_supStart (s : State) (cause : Nat) :
    (retier (supStart s cause)).pwr.supLost = false ∧ (retier (supStart s cause)).pwr.supRestarting = false ∧
    (retier (supStart s cause)).pwr.failedClocks = s.pwr.failedClocks ∧
    (retier (supStart s cause)).pwr.xrefFailed = s.pwr.xrefFailed ∧
    (retier (supStart s cause)).hpr.exec = [] ∧ (retier (supStart s cause)).hpr.order = [] := by
  have hd := degrades_retier (supStart s cause)
  obtain ⟨hexec, horder⟩ := supStart_queue s cause
  have hcore := hd.power
  rw [supStart_pwr] at hcore
  have hclocks := field_of_core Power.failedClocks hcore
  have hx := field_of_core Power.xrefFailed hcore
  exact ⟨field_of_core Power.supLost hcore, field_of_core Power.supRestarting hcore, hclocks, hx,
    List.sublist_nil.mp (hexec ▸ hd.exec), hd.order.trans horder⟩

theorem clockLost_of_xref {s : State} (h : ClockDomain.xref ∉ s.pwr.failedClocks) : s.clockLost .xref = false := by
  simp [State.clockLost, h]

/-! ## Imbalances -/

/-- The state with an imbalance recorded. -/
def imbalanceRecorded (s : State) (row obj : Nat) (amount : Int) : State :=
  record s 0x24 srcSup lvErr row obj (amount % 2 ^ 32).toNat

/-- Whom an imbalance is charged to: the monitor whose credits are out, the CEE for the string charge, or no unit. -/
def imbalanceCharged (s : State) (row obj : Nat) : State :=
  match row with
  | 0 => if obj < 128 then detected s (0x0400 + obj) 36 row else s.setFlt fun f => { f with errors := f.errors + 1 }
  | 5 => detected s uCee 36 row
  | _ => s.setFlt fun f => { f with errors := f.errors + 1 }

theorem imbalanceCharged_noUnit (s : State) {row obj : Nat} (h : (row = 0 ∧ 128 ≤ obj) ∨ (row ≠ 0 ∧ row ≠ 5)) :
    imbalanceCharged s row obj = s.setFlt fun f => { f with errors := f.errors + 1 } := by
  unfold imbalanceCharged
  split
  · exact if_neg (by omega)
  · omega
  · rfl

/-- A detected error of a unit that is not retired counts once (18_faults_peat_log.md R493). -/
theorem detected_errors {s : State} {u : Nat} (rule detail : Nat) (h : s.retired u = false) :
    (detected s u rule detail).flt.errors = s.flt.errors + 1 := by
  have hr : (record s 0x20 (unitSource u) lvWarn u rule detail).retired u = false := by simpa [State.retired] using h
  unfold detected
  dsimp only
  rw [if_neg (by simp [hr])]
  split <;> simp

/-! ## The events, on the state `b` at their instant -/

section
variable {t : Nat} {s b : State} (hb : s.advance t = b)
include hb

theorem clockFailure_marks {d : ClockDomain} (h : domRuns b d = true) (hd : d ≠ .aon) : Does (.clockFailure t d) s fun u =>
    (∀ x ∈ b.pwr.failedClocks ++ [d], x ∈ u.pwr.failedClocks) ∧
      (∀ x ∈ u.pwr.failedClocks, x ∈ b.pwr.failedClocks ++ [d]) := by
  refine ⟨_, exec_clockFailure hb h hd, ?_⟩
  simp [clockResponse_failedClocks]

theorem clockFailure_aon (h : domRuns b .aon = true) : Does (.clockFailure t .aon) s fun u =>
    u.pwr.rtcDegraded = true ∧ u.pwr.failedClocks = b.pwr.failedClocks := by
  refine ⟨_, rfl, ?_⟩
  simp only [hb, h]
  simp

theorem clockFailure_retires {d : ClockDomain} {unit : Nat} (h : domRuns b d = true) (hu : (d, unit) ∈
    [(ClockDomain.loop, uLe), (ClockDomain.est, uCee), (ClockDomain.safe, uSp), (ClockDomain.sloe, uSloe),
      (ClockDomain.isoH, uHvi)]) : Does (.clockFailure t d) s fun u => u.retired unit = true := by
  obtain ⟨hret, hd⟩ := clockResponse_retires (clockMarked b d) hu
  exact ⟨_, exec_clockFailure hb h hd, hret⟩

theorem clockFailure_sys (h : domRuns b .sys = true) : Does (.clockFailure t .sys) s fun u =>
    u.pwr.supLost = true ∧ u.pwr.supRestarting = true ∧ u.pwr.plgOnSloe = true :=
  ⟨_, exec_clockFailure hb h (by decide), clockResponse_sys _⟩

theorem clockFailure_xref (h : domRuns b .xref = true) (hr : AnyRole b) : Does (.clockFailure t .xref) s fun u =>
    u.unit = .safeHold ∧ u.pwr.xrefFailed = true :=
  ⟨_, exec_clockFailure hb h (by decide), clockResponse_xref (by simpa [AnyRole] using hr)⟩

theorem xrefRetry_starts (h : b.pwr.xrefFailed = true) : Does (.xrefRetry t true) s fun u =>
    u.pwr.xrefFailed = false ∧ u.pwr.supLost = false ∧ u.hpr.exec = [] ∧ u.hpr.order = [] := by
  obtain ⟨hlost, -, -, hx, hexec, horder⟩ := retier_supStart (b.setPwr fun p =>
    { p with xrefFailed := false, failedClocks := p.failedClocks.filter (· != .xref) }) 3
  refine ⟨_, ?_, hx, hlost, hexec, horder⟩
  change execXrefRetry t true s = _
  unfold execXrefRetry
  simp only [hb]
  rw [if_pos (by simp [h])]

theorem supRestart_starts (h : b.pwr.supRestarting = true) (hx : ClockDomain.xref ∉ b.pwr.failedClocks) :
    Does (.supRestart t) s fun u => u.pwr.supLost = false ∧ u.pwr.supRestarting = false ∧
      ClockDomain.sys ∉ u.pwr.failedClocks ∧ u.hpr.exec = [] ∧ u.hpr.order = [] := by
  obtain ⟨hlost, hrestarting, hclocks, -, hexec, horder⟩ := retier_supStart (b.setPwr fun p =>
    { p with failedClocks := p.failedClocks.filter (· != .sys) }) 4
  refine ⟨_, ?_, hlost, hrestarting, by simp [hclocks], hexec, horder⟩
  change execSupRestart t s = _
  unfold execSupRestart
  simp only [hb]
  rw [if_pos (by simp [h, clockLost_of_xref hx])]

theorem exec_imbalance {row obj : Nat} {amount : Int} (hoff : b.unit ≠ .off) (hup : b.unit ≠ .powerup)
    (ha : amount ≠ 0) (h6 : row ≤ 6) :
    exec (.imbalance t row obj amount) s = .next (imbalanceCharged (imbalanceRecorded b row obj amount) row obj) := by
  change execImbalance t row obj amount s = _
  unfold execImbalance
  simp only [hb]
  rw [if_neg (by simp [hostServed, hoff, hup, ha, Nat.not_lt.mpr h6])]
  rfl

theorem imbalance_counts {row obj : Nat} {amount : Int} (hoff : b.unit ≠ .off) (hup : b.unit ≠ .powerup)
    (ha : amount ≠ 0) (h6 : row ≤ 6) (hrow : (row = 0 ∧ 128 ≤ obj) ∨ (row ≠ 0 ∧ row ≠ 5)) :
    Does (.imbalance t row obj amount) s fun u =>
      u.flt.errors = b.flt.errors + 1 ∧ u.flt.susp = b.flt.susp ∧ u.str = b.str := by
  refine ⟨_, exec_imbalance hb hoff hup ha h6, ?_⟩
  rw [imbalanceCharged_noUnit _ hrow]
  simp [imbalanceRecorded]

theorem imbalance_suspendsCee {obj : Nat} {amount : Int} (hoff : b.unit ≠ .off) (hup : b.unit ≠ .powerup)
    (ha : amount ≠ 0) (hr : b.retired uCee = false) : Does (.imbalance t 5 obj amount) s fun u =>
      u.flt.errors = b.flt.errors + 1 ∧ u.suspended uCee = true := by
  have hr' : (imbalanceRecorded b 5 obj amount).retired uCee = false := by simpa [State.retired, imbalanceRecorded] using hr
  refine ⟨_, exec_imbalance hb hoff hup ha (by decide), ?_, detected_suspended _ _ _ _ hr'⟩
  exact (detected_errors 36 5 hr').trans (by simp [imbalanceRecorded])

end

/-- Settles O8: each clause is the law of its event on the state at the event's instant. -/
theorem floatDormantAndClocks : Obligations.FloatDormantAndClocks :=
  ⟨fun _ _ hp hr hf => floatEntry_enters rfl hp hr hf,
    fun _ _ hp hf => floatExit_leaves rfl hp hf,
    fun _ _ _ hp hlo hhi => floatClockRaise_raises rfl hp hlo hhi,
    fun _ _ hp hd => dormantEntry_enters rfl hp hd,
    fun _ _ _ hp hw => wakeEvent_wakes rfl hp hw,
    fun _ _ _ h hd => clockFailure_marks rfl h hd,
    fun _ _ h => clockFailure_aon rfl h,
    fun _ _ _ _ h hu => clockFailure_retires rfl h hu,
    fun _ _ h => clockFailure_sys rfl h,
    fun _ _ h hr => clockFailure_xref rfl h hr,
    fun _ _ h => xrefRetry_starts rfl h,
    fun _ _ h hx => supRestart_starts rfl h hx,
    fun _ _ _ _ _ hoff hup ha h6 hrow => imbalance_counts rfl hoff hup ha h6 hrow,
    fun _ _ _ _ hoff hup ha hr => imbalance_suspendsCee rfl hoff hup ha hr⟩

end Sys2Proof.Machine
end

section
/-! SUPPORT. The integrator checkpoint in DORMANT (02_power_states_clocks.md R41; 03_string_measurement.md R60). -/

namespace Sys2Proof.Machine

/-- While the unit sleeps, no checkpoint is written: R60 counts its hour on TIME, which does not tick in DORMANT. -/
theorem integratorCheckpoint_asleep {t : Nat} {s : State} (h : (s.advance t).asleep = true) :
    exec (.integratorCheckpoint t) s = .next (s.advance t) := by
  change execIntegratorCheckpoint t s = _
  unfold execIntegratorCheckpoint
  dsimp only
  rw [if_neg (by simp [h])]

/-- An ACTIVE unit in DORMANT with energy for a guarded write (R40) and the last checkpoint at instant 0. -/
def dormantUnit : State :=
  { State.reset with
    unit := .active
    pwr := { State.reset.pwr with state := .dormant, eAvail := 250000 } }

/-- Refutes O9: its clause on the hourly checkpoint leaves out that the unit is awake. An hour after the last checkpoint a unit in
DORMANT meets the clause's conditions and writes none. -/
theorem not_shuntAndCalibration : ¬ Obligations.ShuntAndCalibration := by
  unfold Obligations.ShuntAndCalibration
  rintro ⟨-, -, writesCheckpoint, -⟩
  obtain ⟨u, hu, hcheckT, -⟩ := writesCheckpoint (3600 * nsS) dormantUnit (by decide +kernel) (by decide +kernel)
    (by decide +kernel) (by decide +kernel)
  cases hu.symm.trans (integratorCheckpoint_asleep (by decide +kernel))
  exact absurd hcheckT (by decide +kernel)

end Sys2Proof.Machine
end

section
/-! SUPPORT. A sample of VB beyond the range of its channel (03_string_measurement.md R67; log entry 32). -/

namespace Sys2Proof.Machine

/-- A VB sample beyond its range sets the voltage-overrange flag of every string. -/
theorem voltageSample_vbBeyond {t : Nat} {s b : State} {value : Int} (hb : s.advance t = b) (hr : hviRuns b = true)
    (hv : b.unitOut (uVolt 8) = false) : Does (.voltageSample t 8 value false true) s fun u =>
      u.hviStr = b.hviStr.map fun (h : HviStr) => { h with vOver := true } := by
  refine ⟨busWatch { b with hviStr := b.hviStr.map fun (h : HviStr) => { h with vOver := true },
                            hvi := { b.hvi with vb := value, vbT := b.clk } }, ?_, by simp⟩
  change execVoltageSample t 8 value false true s = _
  unfold execVoltageSample
  simp [hb, hr, hv]

/-- An ACTIVE unit with power, no voltage-overrange flag set. -/
def sampledUnit : State :=
  { State.reset with
    unit := .active
    pwr := { State.reset.pwr with state := .active } }

/-- Refutes O10: its clause on a VB sample has the strings' measurements unchanged for every sample, also for one beyond the
range, which sets the voltage-overrange flag of every string. -/
theorem not_voltagesInsulationAndTrips : ¬ Obligations.VoltagesInsulationAndTrips := by
  unfold Obligations.VoltagesInsulationAndTrips
  rintro ⟨-, keepsStrings, -⟩
  have hr : hviRuns (sampledUnit.advance 0) = true := by decide +kernel
  have hv : (sampledUnit.advance 0).unitOut (uVolt 8) = false := by decide +kernel
  obtain ⟨u, hu, -, -, hkept⟩ := keepsStrings 0 sampledUnit 0 true hr hv
  obtain ⟨v, hexec, hflags⟩ := voltageSample_vbBeyond (value := 0) rfl hr hv
  cases hu.symm.trans hexec
  exact absurd (congrArg (·.map (·.vOver)) (hkept.symm.trans hflags)) (by decide +kernel)

end Sys2Proof.Machine
end

section
/-! SUPPORT. A ring, and a monitor of it, after an update of one of them. -/

namespace Sys2Proof.Machine

-- One proof at a time: together their threads exceed the memory of the check.
set_option Elab.async false

theorem getD_mapIdx {α β : Type} (l : List α) (g : Nat → α → β) (d : α) (e : β) {m : Nat} (h : m < l.length) :
    (l.mapIdx g).getD m e = g m (l.getD m d) := by
  simp [List.getD_eq_getElem?_getD, h]

theorem getD_map_of_lt {α β : Type} (l : List α) (g : α → β) (d : α) (e : β) {i : Nat} (h : i < l.length) :
    (l.map g).getD i e = g (l.getD i d) := by
  simp [List.getD_eq_getElem?_getD, h]

theorem ringAt_modRing_same (s : State) {i : Nat} (f : Ring → Ring) (h : i < s.rings.ring.length) :
    (s.modRing i f).ringAt i = f (s.ringAt i) := getD_modify_same _ _ _ _ h

theorem ringAt_modRing_ne (s : State) {i k : Nat} (f : Ring → Ring) (h : k ≠ i) :
    (s.modRing i f).ringAt k = s.ringAt k := getD_modify_ne _ _ _ h

/-- A field that the update leaves alone is the same in every ring. -/
theorem ringAt_modRing_field {γ : Type} (p : Ring → γ) (s : State) (i k : Nat) (f : Ring → Ring) (h : ∀ r, p (f r) = p r) :
    p ((s.modRing i f).ringAt k) = p (s.ringAt k) := by
  by_cases hk : k = i
  · subst hk
    by_cases hl : k < s.rings.ring.length
    · rw [ringAt_modRing_same s f hl, h]
    · simp [State.ringAt, State.modRing, List.getD_eq_getElem?_getD, hl]
  · rw [ringAt_modRing_ne s f hk]

@[simp] theorem modRing_ring_length (s : State) (i : Nat) (f : Ring → Ring) :
    (s.modRing i f).rings.ring.length = s.rings.ring.length := List.length_modify ..

theorem mon_modMon_same (r : Ring) {m : Nat} (f : Monitor → Monitor) (h : m < r.mons.length) :
    (r.modMon m f).mon m = f (r.mon m) := getD_modify_same _ _ _ _ h

theorem ringAt_congr {s u : State} (h : u.rings = s.rings) (i : Nat) : u.ringAt i = s.ringAt i :=
  congrArg (fun r : Rings => r.ring.getD i {}) h

theorem monAt_congr {s u : State} (h : u.rings = s.rings) (i m : Nat) : u.monAt i m = s.monAt i m :=
  congrArg (·.mon m) (ringAt_congr h i)

theorem monAt_modMon_same (s : State) {i m : Nat} (f : Monitor → Monitor) (h : HasMon s i m) :
    (s.modMon i m f).monAt i m = f (s.monAt i m) := by
  unfold State.monAt State.modMon
  rw [ringAt_modRing_same s _ h.1, mon_modMon_same _ f h.2]

/-- The entry just set reads back. -/
theorem tblGet_tblSet {α : Type} (d : α) (k : Nat) (v : α) (l : List (Nat × α)) : tblGet d k (tblSet k v l) = v := by
  induction l with
  | nil => simp [tblSet, tblGet]
  | cons e t ih =>
    obtain ⟨j, w⟩ := e
    unfold tblSet
    split
    · simp [tblGet]
    · split
      · simp [tblGet]
      next h => simp [tblGet, Ne.symm h, ih]

end Sys2Proof.Machine
end

section
/-! SUPPORT. What a trip, a halt, a change of tier and a judgement of reach leave of the rings: everything but what the monitors
bleed and shuttle and their unreachable lines (04_fenline_rings.md R111; 07_balancing_dispatch.md R194). -/

namespace Sys2Proof.Machine

-- One proof at a time: together their threads exceed the memory of the check.
set_option Elab.async false

def Monitor.lasting (x : Monitor) : Monitor := { x with bleed := [], shuttle := none, unreachable := false }
def Ring.lasting (r : Ring) : Ring := { r with mons := r.mons.map Monitor.lasting }
def State.lastingRings (s : State) : Rings := { s.rings with ring := s.rings.ring.map Ring.lasting }

/-- What the events of a ring go on: its lasting part, which rings run, and the time. -/
def State.flc (s : State) : Rings × (Nat → Bool) × Nat := (s.lastingRings, ringRuns s, s.clk)

theorem lastingRings_ringAt (s : State) (i : Nat) : s.lastingRings.ring.getD i {} = (s.ringAt i).lasting :=
  List.getD_map s.rings.ring {} Ring.lasting

theorem lasting_mon (r : Ring) (m : Nat) : r.lasting.mon m = (r.mon m).lasting :=
  List.getD_map r.mons {} Monitor.lasting

/-- A field of a ring that its lasting part shows is the same where the FLC's view is. -/
theorem ringAt_of_flc {γ : Type} (p : Ring → γ) {s u : State} (h : u.flc = s.flc) (i : Nat)
    (hp : ∀ r : Ring, p r.lasting = p r := by exact fun _ => rfl) : p (u.ringAt i) = p (s.ringAt i) := by
  have hr : (u.ringAt i).lasting = (s.ringAt i).lasting := by
    rw [← lastingRings_ringAt, ← lastingRings_ringAt]
    exact congrArg (fun v => v.1.ring.getD i {}) h
  rw [← hp, hr, hp]

theorem monAt_of_flc {γ : Type} (p : Monitor → γ) {s u : State} (h : u.flc = s.flc) (i m : Nat)
    (hp : ∀ x : Monitor, p x.lasting = p x := by exact fun _ => rfl) : p (u.monAt i m) = p (s.monAt i m) :=
  ringAt_of_flc (fun r => p (r.mon m)) h i fun r => by rw [lasting_mon, hp]

theorem clk_of_flc {s u : State} (h : u.flc = s.flc) : u.clk = s.clk := congrArg (·.2.2) h
theorem ringRuns_of_flc {s u : State} (h : u.flc = s.flc) (i : Nat) : ringRuns u i = ringRuns s i :=
  congrFun (congrArg (·.2.1) h) i

theorem ring_length_of_flc {s u : State} (h : u.flc = s.flc) : u.rings.ring.length = s.rings.ring.length := by
  simpa [State.flc, State.lastingRings] using congrArg (fun v => v.1.ring.length) h

/-! ## Updates -/

theorem strings_congr {s u : State} (h : u.variant = s.variant) : u.strings = s.strings := by rw [State.strings, State.strings, h]

theorem flc_of_core {s u : State} (hr : u.lastingRings = s.lastingRings) (hp : u.pwr.core = s.pwr.core)
    (hu : u.unit = s.unit := by simp) (hv : u.variant = s.variant := by simp) (hc : u.clk = s.clk := by simp) :
    u.flc = s.flc := by
  have hstate : u.pwr.state = s.pwr.state := field_of_core (·.state) hp
  have hclocks : u.pwr.failedClocks = s.pwr.failedClocks := field_of_core (·.failedClocks) hp
  have hruns : ringRuns u = ringRuns s := by
    funext i
    simp only [ringRuns, State.isStr, State.clockLost, hstate, hclocks, hu, strings_congr hv]
  rw [State.flc, State.flc, hr, hruns, hc]

/-- An operation on neither the rings nor what decides whether their FLCs run. -/
theorem flc_of_eq {s u : State} (hr : u.rings = s.rings := by simp) (hp : u.pwr = s.pwr := by simp)
    (hu : u.unit = s.unit := by simp) (hv : u.variant = s.variant := by simp) (hc : u.clk = s.clk := by simp) :
    u.flc = s.flc :=
  flc_of_core (by rw [State.lastingRings, State.lastingRings, hr]) (by rw [hp]) hu hv hc

theorem modRing_lastingRings (s : State) (i : Nat) {f : Ring → Ring} (h : ∀ r, (f r).lasting = r.lasting) :
    (s.modRing i f).lastingRings = s.lastingRings := by
  simp only [State.lastingRings, State.modRing, map_modify_of_eq Ring.lasting f h]

theorem modRing_flc (s : State) (i : Nat) {f : Ring → Ring} (h : ∀ r, (f r).lasting = r.lasting) :
    (s.modRing i f).flc = s.flc :=
  flc_of_core (modRing_lastingRings s i h) rfl rfl rfl rfl

@[simp] theorem ite_flc (c : Prop) [Decidable c] (a b : State) :
    (if c then a else b).flc = if c then a.flc else b.flc := apply_ite State.flc c a b
@[simp] theorem foldl_flc {β : Type} (f : State → β → State) (h : ∀ s b, (f s b).flc = s.flc) (l : List β) (s : State) :
    (l.foldl f s).flc = s.flc := foldl_proj State.flc f h l s

@[simp] theorem modStr_flc (s : State) (i : Nat) (f : Str → Str) : (s.modStr i f).flc = s.flc := flc_of_eq
@[simp] theorem modChanStr_flc (s : State) (c : Channel) (i : Nat) (f : ChanStr → ChanStr) :
    (s.modChanStr c i f).flc = s.flc := flc_of_eq
@[simp] theorem setFlt_flc (s : State) (f : Flt → Flt) : (s.setFlt f).flc = s.flc := flc_of_eq
@[simp] theorem record_flc (s : State) (code src lv p0 p1 p2 : Nat) : (record s code src lv p0 p1 p2).flc = s.flc := flc_of_eq
@[simp] theorem groupRecord_flc (s : State) (grp src lv rule obj val : Nat) :
    (groupRecord s grp src lv rule obj val).flc = s.flc := flc_of_eq
@[simp] theorem detected_flc (s : State) (u rule detail : Nat) : (detected s u rule detail).flc = s.flc := flc_of_eq
@[simp] theorem setStr_flc (s : State) (i : Nat) (new : StrState) (cause : Nat) : (setStr s i new cause).flc = s.flc := flc_of_eq
@[simp] theorem strayStr_flc (s : State) (i : Nat) : (strayStr s i).flc = s.flc := flc_of_eq
@[simp] theorem startRamp_flc (s : State) (i : Nat) (dest : StrState) : (startRamp s i dest).flc = s.flc := flc_of_eq

/-! ## Halts, tiers and trips -/

theorem stopBalancing_lasting (x : Monitor) :
    (if x.followsUs then { x with bleed := [], shuttle := none } else x).lasting = x.lasting := by
  split <;> rfl

@[simp] theorem stopBalancing_lastingRings (s : State) (i : Nat) : (stopBalancing s i).lastingRings = s.lastingRings :=
  modRing_lastingRings (s.modBal i _) i fun r => by
    simp [Ring.lasting, Function.comp_def, stopBalancing_lasting]

@[simp] theorem stopBalancing_flc (s : State) (i : Nat) : (stopBalancing s i).flc = s.flc := flc_of_core (by simp) (by simp)

theorem lastingRings_congr {s u : State} (h : u.rings = s.rings := by simp) : u.lastingRings = s.lastingRings := by
  rw [State.lastingRings, State.lastingRings, h]

@[simp] theorem haltStr_flc (s : State) (i cause : Nat) : (haltStr s i cause).flc = s.flc := by
  refine flc_of_core ?_ (degrades_haltStr s i cause).power
  have hstops (u : State) (h : u.rings = s.rings) : (stopBalancing u i).lastingRings = s.lastingRings := by
    rw [stopBalancing_lastingRings, lastingRings_congr h]
  unfold haltStr
  split
  · exact hstops _ (by simp)
  · exact hstops _ (by simp)
  · exact hstops _ (by simp)
  · rfl

@[simp] theorem retireStr_flc (s : State) (i cause : Nat) : (retireStr s i cause).flc = s.flc := by
  unfold retireStr
  dsimp only
  split <;> simp

@[simp] theorem prechargeAbort_flc (s : State) (i cause : Nat) : (prechargeAbort s i cause).flc = s.flc :=
  flc_of_core (lastingRings_congr) (degrades_prechargeAbort s i cause).power

@[simp] theorem forceTier_flc (s : State) (i : Nat) (old new : Tier) : (forceTier s i old new).flc = s.flc := by
  unfold forceTier
  split
  · rfl
  · split <;> simp

@[simp] theorem retierStr_flc (s : State) (i : Nat) : (retierStr s i).flc = s.flc := by
  unfold retierStr
  simp

/-- FLOAT and ACTIVE are alike to the FLCs. -/
@[simp] theorem exitFloat_flc (s : State) : (exitFloat s).flc = s.flc := by
  have hruns : ringRuns (exitFloat s) = ringRuns s := by
    funext i
    have hstr : (exitFloat s).strings = s.strings := strings_congr (by simp)
    simp only [ringRuns, State.isStr, State.clockLost, hstr, exitFloat_keeps]
    unfold exitFloat
    split
    next h =>
      rw [setPower_pwr, eq_of_beq h]
      rfl
    · rfl
  have hrings : (exitFloat s).lastingRings = s.lastingRings := lastingRings_congr
  have hclk : (exitFloat s).clk = s.clk := by simp
  rw [State.flc, State.flc, hrings, hruns, hclk]

@[simp] theorem trip_flc (s : State) (c : Channel) (i : Nat) (f : SafetyFn) : (trip s c i f).flc = s.flc := by
  unfold trip latchString
  simp

@[simp] theorem tripBoth_flc (s : State) (i : Nat) (f : SafetyFn) : (tripBoth s i f).flc = s.flc := by
  unfold tripBoth
  simp

/-! ## Judgements -/

@[simp] theorem alarmSp_flc (s : State) (i m : Nat) : (alarmSp s i m).flc = s.flc := by
  unfold alarmSp
  dsimp only
  split <;> simp

@[simp] theorem judgeAlarms_flc (s : State) (i : Nat) : (judgeAlarms s i).flc = s.flc := by
  unfold judgeAlarms
  simp

theorem mapIdx_lasting {g : Nat → Monitor → Monitor} (h : ∀ m x, (g m x).lasting = x.lasting) (l : List Monitor) :
    (l.mapIdx g).map Monitor.lasting = l.map Monitor.lasting :=
  List.ext_getElem (by simp) fun m _ _ => by simp [h]

theorem unreachable_lasting (c : Prop) [Decidable c] (out : Bool) (x : Monitor) :
    (if c then { x with unreachable := out } else x).lasting = x.lasting := by
  split <;> rfl

@[simp] theorem judgeReach_flc (s : State) (i : Nat) : (judgeReach s i).flc = s.flc := by
  unfold judgeReach
  dsimp only
  split
  · rfl
  · rw [retierStr_flc, ite_flc, tripBoth_flc, tripBoth_flc, ite_self]
    exact modRing_flc s i fun r => by
      simp only [Ring.lasting, mapIdx_lasting fun m x => unreachable_lasting (m < r.n) _ x]

end Sys2Proof.Machine
end

section
/-! SUPPORT. Beacons, breaks and links, and the statement they settle (04_fenline_rings.md R94 to R98, R110 to R112). -/

namespace Sys2Proof.Machine

-- One proof at a time: together their threads exceed the memory of the check.
set_option Elab.async false

/-- A ring whose master sends a beacon now. -/
def Ring.beaconed (now : Nat) (r : Ring) : Ring :=
  { r with lastBeaconT := now, lostBeacons := r.lostBeacons + 1
           mons := r.mons.map fun (x : Monitor) => { x with absent := x.absent + 1 } }

/-- A ring of the master to which copy `c` returns; `full` where the copy holds every monitor. -/
def Ring.copied (now claim : Nat) (c : BeaconCopy) (full : Bool) (r : Ring) : Ring :=
  { copyMaps c r with
    mons := (copyMaps c r).mons.mapIdx fun m x => if m < (copyMaps c r).n then copyAtMonitor now claim c m x else x
    closedCount := if c.closed && full then (copyMaps c r).closedCount + 1 else 0
    lostBeacons := if c.closed then 0 else (copyMaps c r).lostBeacons
    enumPending := (copyMaps c r).enumPending || c.unaddressed }

/-- A ring with the port of terminal `term` up or down. -/
def Ring.withPort (term : Nat) (up : Bool) (r : Ring) : Ring :=
  if term = 0 then { r with headUp := up } else { r with tailUp := up }

/-- A ring back in operation around the whole of it. -/
def Ring.closed (r : Ring) : Ring := { r with twoEnded := false, breakAt := none }

/-- A ring with `count` more link errors under `key`. -/
def Ring.erred (key count : Nat) (r : Ring) : Ring :=
  { r with linkErrors := tblSet key (tblGet 0 key r.linkErrors + count) r.linkErrors }

/-- A monitor after a restart (R94). -/
def Monitor.restart (x : Monitor) : Monitor :=
  { x with position := none, synced := false, bleed := [], shuttle := none, restarted := true, thr := none
           ack := none, plan := false, phasorWindow := none, followClaim := 0
           ovActive := 0, uvActive := 0, openActive := 0, otActive := 0, selfActive := false
           ovMap := 0, uvMap := 0, openMap := 0, otMap := 0, alarmLatched := false }

theorem enterTwoEnded_twoEnded {s : State} {i : Nat} (hi : i < s.rings.ring.length) :
    ((enterTwoEnded s i).ringAt i).twoEnded = true := by
  unfold enterTwoEnded
  split
  next h => exact h
  · rw [ringAt_modRing_same s _ hi]

/-- A field that the entry into two-ended operation leaves alone. -/
theorem ringAt_enterTwoEnded_field {γ : Type} (p : Ring → γ) (s : State) (i k : Nat)
    (h : ∀ r : Ring, p { r with twoEnded := true, breakAt := none, closedCount := 0 } = p r := by exact fun _ => rfl) :
    p ((enterTwoEnded s i).ringAt k) = p (s.ringAt k) := by
  unfold enterTwoEnded
  split
  · rfl
  · exact ringAt_modRing_field p s i k _ h

/-- A detected error leaves its unit suspended. -/
theorem detected_suspends {s : State} {u : Nat} (rule detail : Nat) (h : s.retired u = false) :
    (detected s u rule detail).suspended u = true := by
  have hret : (record s 0x20 (unitSource u) lvWarn u rule detail).retired u = false := by simpa [State.retired] using h
  unfold detected
  dsimp only
  rw [if_neg (by simp [hret])]
  split
  next hs => exact hs
  · simp [State.suspended]

section
variable {t : Nat} {s b : State} (hb : s.advance t = b) {i : Nat}
include hb

theorem beacon_counts (hr : ringRuns b i = true) (hm : ringMaster b = true) (hi : i < b.rings.ring.length)
    (hdue : (b.ringAt i).lastBeaconT + beaconPeriod b ≤ b.clk) : Does (.beacon t i) s fun u =>
      (u.ringAt i).lastBeaconT = b.clk ∧ (u.ringAt i).lostBeacons = (b.ringAt i).lostBeacons + 1 ∧
        ∀ m, m < (b.ringAt i).mons.length → (u.monAt i m).absent = (b.monAt i m).absent + 1 := by
  have hflc : (judgeReach (b.modRing i (Ring.beaconed b.clk)) i).flc = (b.modRing i (Ring.beaconed b.clk)).flc := by simp
  have hring := ringAt_modRing_same b (Ring.beaconed b.clk) hi
  refine ⟨judgeReach (b.modRing i (Ring.beaconed b.clk)) i, ?_, ?_, ?_, fun m hlen => ?_⟩
  · change execBeacon t i s = _
    unfold execBeacon
    simp only [hb, hr, hm, hdue]
    rfl
  · rw [ringAt_of_flc (·.lastBeaconT) hflc, hring]; rfl
  · rw [ringAt_of_flc (·.lostBeacons) hflc, hring]; rfl
  · rw [monAt_of_flc (·.absent) hflc, State.monAt, hring]
    simp [Ring.beaconed, Ring.mon, State.monAt, List.getD_eq_getElem?_getD, hlen]

theorem beaconReturn_closes {c : BeaconCopy} (hr : ringRuns b i = true) (hm : ringMaster b = true)
    (hi : i < b.rings.ring.length) (hdecl : (b.ringAt i).declared = true) (hc : c.closed = true) (hturn : c.turned = false) :
    Does (.beaconReturn t i c) s fun u => (u.ringAt i).headMap = c.presenceMap ∧ (u.ringAt i).tailMap = c.presenceMap ∧
      (u.ringAt i).lostBeacons = 0 ∧ ∀ m, m < (b.ringAt i).n → m < (b.ringAt i).mons.length →
        c.presenceMap.getLsbD m = true → (u.monAt i m).absent = 0 ∧ (u.monAt i m).alarmLine = c.alarmMap.getLsbD m := by
  obtain ⟨v, hv⟩ : ∃ v, v = b.modRing i (Ring.copied b.clk b.red.claim c
      ((List.range (b.ringAt i).n).all fun m => c.presenceMap.getLsbD m)) := ⟨_, rfl⟩
  have hflc : (judgeAlarms (judgeReach v i) i).flc = v.flc := by simp
  have hring : v.ringAt i = _ := hv ▸ ringAt_modRing_same b _ hi
  refine ⟨judgeAlarms (judgeReach v i) i, ?_, ?_, ?_, ?_, fun m hn hlen hp => ?_⟩
  · change execBeaconReturn t i c s = _
    unfold execBeaconReturn
    simp only [hb, hr, hm, hdecl, hturn, hv]
    rfl
  · rw [ringAt_of_flc (·.headMap) hflc, hring]; simp [Ring.copied, copyMaps, hc]
  · rw [ringAt_of_flc (·.tailMap) hflc, hring]; simp [Ring.copied, copyMaps, hc]
  · rw [ringAt_of_flc (·.lostBeacons) hflc, hring]; simp [Ring.copied, hc]
  · have hmon : v.monAt i m = copyAtMonitor b.clk b.red.claim c m (b.monAt i m) := by
      rw [State.monAt, hring, Ring.mon, Ring.copied, getD_mapIdx _ _ {} _ (by simpa using hlen)]
      simp [copyMaps, hc, hn, State.monAt, Ring.mon]
    rw [monAt_of_flc (·.absent) hflc, monAt_of_flc (·.alarmLine) hflc, hmon]
    simp [copyAtMonitor, hp]

/-- The port of the terminal goes down, and the master enters two-ended operation. -/
theorem portDown_breaks (term : Nat) (hr : ringRuns b i = true) (hi : i < b.rings.ring.length) :
    Does (.portDown t i term) s fun u => (u.ringAt i).headUp = (Ring.withPort term false (b.ringAt i)).headUp ∧
      (u.ringAt i).tailUp = (Ring.withPort term false (b.ringAt i)).tailUp ∧
      (ringMaster b = true → (u.ringAt i).twoEnded = true) := by
  have hring := ringAt_modRing_same b (Ring.withPort term false) hi
  refine ⟨if ringMaster b then enterTwoEnded (b.modRing i (Ring.withPort term false)) i
    else b.modRing i (Ring.withPort term false), ?_, ?_⟩
  · change execPortDown t i term s = _
    unfold execPortDown
    simp only [hb, hr]
    rfl
  · split
    · rw [ringAt_enterTwoEnded_field (·.headUp), ringAt_enterTwoEnded_field (·.tailUp), hring]
      exact ⟨rfl, rfl, fun _ => enterTwoEnded_twoEnded (by simpa using hi)⟩
    next hm =>
      rw [hring]
      exact ⟨rfl, rfl, fun h => absurd h hm⟩

theorem portUp_restores (term : Nat) (hr : ringRuns b i = true) (hi : i < b.rings.ring.length) :
    Does (.portUp t i term) s fun u => (u.ringAt i).headUp = (Ring.withPort term true (b.ringAt i)).headUp ∧
      (u.ringAt i).tailUp = (Ring.withPort term true (b.ringAt i)).tailUp := by
  have hring := ringAt_modRing_same b (Ring.withPort term true) hi
  refine ⟨b.modRing i (Ring.withPort term true), ?_, congrArg _ hring, congrArg _ hring⟩
  change execPortUp t i term s = _
  unfold execPortUp
  simp only [hb, hr]
  rfl

theorem twoEndedOperation_enters (hr : ringRuns b i = true) (hm : ringMaster b = true) (hi : i < b.rings.ring.length)
    (hlost : 2 ≤ (b.ringAt i).lostBeacons) (hlate : (b.ringAt i).lastBeaconT + 200 * nsUs ≤ b.clk) :
    Does (.twoEndedOperation t i) s fun u => (u.ringAt i).twoEnded = true := by
  refine ⟨enterTwoEnded b i, ?_, enterTwoEnded_twoEnded hi⟩
  change execTwoEndedOperation t i s = _
  unfold execTwoEndedOperation
  simp only [hb, hr, hm, hlost, hlate]
  rfl

theorem twoEndedExit_leaves (hr : ringRuns b i = true) (hi : i < b.rings.ring.length) (htwo : (b.ringAt i).twoEnded = true)
    (hclosed : 100 ≤ (b.ringAt i).closedCount) :
    Does (.twoEndedExit t i) s fun u => (u.ringAt i).twoEnded = false ∧ (u.ringAt i).breakAt = none := by
  have hflc : (judgeReach (b.modRing i Ring.closed) i).flc = (b.modRing i Ring.closed).flc := by simp
  have hring := ringAt_modRing_same b Ring.closed hi
  refine ⟨judgeReach (b.modRing i Ring.closed) i, ?_, ?_, ?_⟩
  · change execTwoEndedExit t i s = _
    unfold execTwoEndedExit
    simp only [hb, hr, htwo, hclosed]
    rfl
  · rw [ringAt_of_flc (·.twoEnded) hflc, hring]; rfl
  · rw [ringAt_of_flc (·.breakAt) hflc, hring]; rfl

theorem linkCrcBurst_retires {pos port count : Nat} (hr : ringRuns b i = true) (hcount : 16 ≤ count)
    (hpos : pos < (b.ringAt i).n) (hport : port < 2) : Does (.linkCrcBurst t i pos port count) s fun u =>
      u.retired (linkUnit i (b.ringAt i).n (pos + port)) = true := by
  have hn : ((b.modRing i (Ring.erred (2 * pos + port) count)).ringAt i).n = (b.ringAt i).n :=
    ringAt_modRing_field (·.n) b i i _ fun _ => rfl
  rw [← hn] at hpos ⊢
  refine ⟨_, ?_, retireUnit_retired (commandLink (b.modRing i (Ring.erred (2 * pos + port) count)) i pos port 0x11) _ 2⟩
  change execLinkCrcBurst t i pos port count s = _
  unfold execLinkCrcBurst
  simp only [hb, hr, Bool.not_true, Bool.false_eq_true, if_false]
  exact congrArg Host.Outcome.next (if_pos ⟨hcount, hpos, hport⟩)

theorem delay_stores (link d : Nat) (hr : ringRuns b i = true) (hi : i < b.rings.ring.length) :
    Does (.delay t i link d) s fun u => tblGet 0 link (u.ringAt i).linkDelay = d ∧ u.str = b.str := by
  refine ⟨b.modRing i fun r => { r with linkDelay := tblSet link d r.linkDelay }, ?_, ?_, rfl⟩
  · change execDelay t i link d s = _
    unfold execDelay
    simp only [hb, hr]
    rfl
  · rw [ringAt_modRing_same b _ hi]
    exact tblGet_tblSet ..

theorem beaconTimeout_unsyncs {m : Nat} (hs : b.isStr i = true) (hmon : HasMon b i m)
    (hlate : (b.monAt i m).lastBeaconT + 50 * nsMs ≤ b.clk) :
    Does (.beaconTimeout t i m) s fun u => (u.monAt i m).synced = false := by
  refine ⟨b.modMon i m fun x => { x with synced := false }, ?_, ?_⟩
  · change execBeaconTimeout t i m s = _
    unfold execBeaconTimeout
    simp only [hb, hs, hlate]
    rfl
  · dsimp only
    rw [monAt_modMon_same b _ hmon]

theorem monitorRestart_clears {m : Nat} (hs : b.isStr i = true) (hmon : HasMon b i m) (hm : m < 16) :
    Does (.monitorRestart t i m) s fun u => (u.monAt i m).position = none ∧ (u.monAt i m).synced = false ∧
      (u.monAt i m).bleed = [] ∧ (u.monAt i m).shuttle = none ∧ (u.monAt i m).restarted = true ∧
      (b.retired (uMon i m) = false → u.suspended (uMon i m) = true) := by
  have hring : (detected (b.modMon i m Monitor.restart) (uMon i m) 94 0).monAt i m = (b.monAt i m).restart := by
    rw [monAt_congr (s := b.modMon i m Monitor.restart) (by simp), monAt_modMon_same b _ hmon]
  refine ⟨detected (b.modMon i m Monitor.restart) (uMon i m) 94 0, ?_, ?_⟩
  · change execMonitorRestart t i m s = _
    unfold execMonitorRestart
    simp only [hb, hs, hm]
    rfl
  · dsimp only
    rw [hring]
    exact ⟨rfl, rfl, rfl, rfl, rfl, fun hret => detected_suspends _ _ hret⟩

end

/-- Settles O11: each clause is the law of its event on the state at the event's instant. -/
theorem beaconsAndBreaks : Obligations.BeaconsAndBreaks :=
  ⟨fun _ _ _ hr hm hi hdue => beacon_counts rfl hr hm hi hdue,
    fun _ _ _ _ hr hm hi hdecl hc hturn => beaconReturn_closes rfl hr hm hi hdecl hc hturn,
    fun _ _ _ hr hi => (portDown_breaks rfl 0 hr hi).imp fun _ ⟨hu, hhead, _, htwo⟩ => ⟨hu, hhead, htwo⟩,
    fun _ _ _ hr hi => (portDown_breaks rfl 1 hr hi).imp fun _ ⟨hu, _, htail, htwo⟩ => ⟨hu, htail, htwo⟩,
    fun _ _ _ hr hi => (portUp_restores rfl 0 hr hi).imp fun _ ⟨hu, hhead, htail⟩ => ⟨hu, hhead, htail⟩,
    fun _ _ _ hr hi => (portUp_restores rfl 1 hr hi).imp fun _ ⟨hu, hhead, htail⟩ => ⟨hu, htail, hhead⟩,
    fun _ _ _ hr hm hi hlost hlate => twoEndedOperation_enters rfl hr hm hi hlost hlate,
    fun _ _ _ hr hi htwo hclosed => twoEndedExit_leaves rfl hr hi htwo hclosed,
    fun _ _ _ _ _ _ hr hcount hpos hport => linkCrcBurst_retires rfl hr hcount hpos hport,
    fun _ _ _ _ _ hr hi => delay_stores rfl _ _ hr hi,
    fun _ _ _ _ hs hmon hlate => beaconTimeout_unsyncs rfl hs hmon hlate,
    fun _ _ _ _ hs hmon hm => monitorRestart_clears rfl hs hmon hm⟩

end Sys2Proof.Machine
end

section
/-! SUPPORT. Frames and their credits (04_fenline_rings.md R106 to R108). -/

namespace Sys2Proof.Machine

-- One proof at a time: together their threads exceed the memory of the check.
set_option Elab.async false

/-- Monitor `x` with a frame sent to it on one of its credits. -/
def Monitor.charged (x : Monitor) : Monitor := { x with credits := x.credits - 1, seq := (x.seq + 1) % 256 }

/-- Monitor `x` with a credit returned. -/
def Monitor.credited (x : Monitor) : Monitor := { x with credits := min 4 (x.credits + 1) }

section
variable {s : State} {i m : Nat} (type arg : Nat) (resent : Bool) (hm : HasMon s i m) (hc : (s.monAt i m).credits ≠ 0)
include hm hc

theorem sendFrame_ringAt : ∃ f : Monitor → Monitor, f (s.monAt i m) = (s.monAt i m).charged ∧
    (sendFrame s i m type arg resent).ringAt i =
      { (s.ringAt i).modMon m f with
        outstanding := (s.ringAt i).outstanding ++ [{ m := m, seq := ((s.monAt i m).seq + 1) % 256, type := type, arg := arg
                                                      departed := s.clk, resent := resent }] } := by
  refine ⟨fun y => { y with credits := y.credits - 1, seq := ((s.monAt i m).seq + 1) % 256 }, rfl, ?_⟩
  unfold sendFrame
  dsimp only
  rw [if_neg hc, ringAt_modRing_same s _ hm.1]

theorem sendFrame_monAt : (sendFrame s i m type arg resent).monAt i m = (s.monAt i m).charged := by
  obtain ⟨f, hf, hring⟩ := sendFrame_ringAt type arg resent hm hc
  rw [State.monAt, hring]
  exact (mon_modMon_same (s.ringAt i) f hm.2).trans hf

theorem sendFrame_outstanding : ((sendFrame s i m type arg resent).ringAt i).outstanding = (s.ringAt i).outstanding ++
    [{ m := m, seq := ((s.monAt i m).seq + 1) % 256, type := type, arg := arg, departed := s.clk, resent := resent }] := by
  obtain ⟨f, -, hring⟩ := sendFrame_ringAt type arg resent hm hc
  rw [hring]

theorem sendFrame_sent : Sent s (sendFrame s i m type arg false) i m type arg :=
  ⟨sendFrame_outstanding type arg false hm hc, by rw [sendFrame_monAt type arg false hm hc]; rfl⟩

end

/-- A field of a ring that a frame sent leaves alone. -/
theorem ringAt_sendFrame_field {γ : Type} (p : Ring → γ) (s : State) (i m type arg : Nat) (resent : Bool) (k : Nat)
    (h : ∀ (r : Ring) (l : List Monitor) (o : List Outstanding), p { r with mons := l, outstanding := o } = p r := by
      exact fun _ _ _ => rfl) : p ((sendFrame s i m type arg resent).ringAt k) = p (s.ringAt k) := by
  unfold sendFrame
  dsimp only
  split
  · rfl
  · exact ringAt_modRing_field p s i k _ fun r => h r _ _

/-- The frame a response matches is one sent to its monitor. -/
theorem matching_frame {s : State} {i m seq : Nat} {o : Outstanding} (h : matching s i m seq = some o) : o.m = m := by
  have hboth : o.m = m ∧ o.seq = seq := by simpa using List.find?_some h
  exact hboth.1

theorem creditBack_ringAt {s : State} {i : Nat} (o : Outstanding) (hi : i < s.rings.ring.length) :
    (creditBack s i o).ringAt i = { (s.ringAt i).modMon o.m Monitor.credited with
      outstanding := (s.ringAt i).outstanding.filter fun x => x.m ≠ o.m ∨ x.seq ≠ o.seq } :=
  ringAt_modRing_same s _ hi

theorem creditBack_monAt {s : State} {i m : Nat} {o : Outstanding} (hm : HasMon s i m) (ho : o.m = m) :
    (creditBack s i o).monAt i m = (s.monAt i m).credited := by
  subst ho
  rw [State.monAt, creditBack_ringAt o hm.1]
  exact mon_modMon_same (s.ringAt i) _ hm.2

theorem mons_lengths_of_sizes {s u : State} (h : u.sizes = s.sizes) :
    (u.rings.ring.map fun r => r.mons.length) = s.rings.ring.map fun r => r.mons.length :=
  congrArg (fun l => l.getD 1 []) h

theorem ring_length_of_sizes {s u : State} (h : u.sizes = s.sizes) : u.rings.ring.length = s.rings.ring.length := by
  simpa using congrArg List.length (mons_lengths_of_sizes h)

theorem hasMon_of_sizes {s u : State} (h : u.sizes = s.sizes) {i m : Nat} (hm : HasMon s i m) : HasMon u i m := by
  have hmons (w : State) : (w.rings.ring.map fun r => r.mons.length).getD i 16 = (w.ringAt i).mons.length :=
    List.getD_map w.rings.ring {} fun r : Ring => r.mons.length
  refine ⟨ring_length_of_sizes h ▸ hm.1, ?_⟩
  rw [← hmons, mons_lengths_of_sizes h, hmons]
  exact hm.2

end Sys2Proof.Machine
end

section
/-! SUPPORT. The close of a round, ring by ring and monitor by monitor (04_fenline_rings.md R102, R105). -/

namespace Sys2Proof.Machine

-- One proof at a time: together their threads exceed the memory of the check.
set_option Elab.async false

/-- A fold that passes `i` once, where no other step changes what `p` shows, ends with what the step at `i` makes of it. -/
theorem foldl_once {α β γ : Type} {f : α → β → α} {p : α → γ} {P : γ → Prop} {i : β} {x : γ}
    (hne : ∀ a b, b ≠ i → p (f a b) = p a) (hat : ∀ a, p a = x → P (p (f a i))) {l : List β} (hl : l.Nodup) (hi : i ∈ l)
    {a : α} (ha : p a = x) : P (p (l.foldl f a)) := by
  have hkeeps (l : List β) (hl : i ∉ l) (a : α) : p (l.foldl f a) = p a :=
    List.foldlRecOn (motive := fun c => p c = p a) l f rfl fun c hc b hb => (hne c b fun h => hl (h ▸ hb)).trans hc
  obtain ⟨before, after, rfl⟩ := List.append_of_mem hi
  obtain ⟨-, hafter, hdisj⟩ := List.nodup_append.mp hl
  rw [List.foldl_append, List.foldl_cons, hkeeps after (List.nodup_cons.mp hafter).1]
  refine hat _ ?_
  rw [hkeeps before (fun h => hdisj i h i List.mem_cons_self rfl), ha]

/-- What the FLC of ring `i` goes on. -/
def State.flcAt (i : Nat) (s : State) : Ring × Bool × Nat := ((s.ringAt i).lasting, ringRuns s i, s.clk)

theorem flcAt_of_flc {s u : State} (h : u.flc = s.flc) (i : Nat) : u.flcAt i = s.flcAt i := by
  have hrings : u.lastingRings = s.lastingRings := congrArg Prod.fst h
  rw [State.flcAt, State.flcAt, ringRuns_of_flc h, clk_of_flc h, ← lastingRings_ringAt, ← lastingRings_ringAt, hrings]

theorem flcAt_modRing_ne (s : State) {i k : Nat} (f : Ring → Ring) (h : i ≠ k) : (s.modRing k f).flcAt i = s.flcAt i := by
  rw [State.flcAt, ringAt_modRing_ne s f h]
  rfl

@[simp] theorem voltJudge_flc (s : State) (i m : Nat) (d : RoundData) : (voltJudge s i m d).flc = s.flc := by
  unfold voltJudge
  simp

@[simp] theorem dataJudge_flc (s : State) (i m : Nat) : (dataJudge s i m).flc = s.flc := by
  unfold dataJudge
  simp

theorem th_flc (s : State) (th : Thermal) : State.flc { s with th := th } = s.flc := rfl

@[simp] theorem sensorSample_flc (slow : Bool) (crc : Nat) (s : State) (key : Nat) (raw : Int) :
    (sensorSample slow crc s key raw).flc = s.flc := by
  unfold sensorSample
  simp only [ite_flc, trip_flc, ite_self]
  exact (th_flc _ _).trans (by simp)

@[simp] theorem sensorRound_flc (s : State) (i m : Nat) (d : RoundData) : (sensorRound s i m d).flc = s.flc := by
  unfold sensorRound
  simp

/-- The close of a round at a monitor writes that monitor alone, and counts its DATA missing where none came. -/
theorem closeMonitor_flc (s : State) (i m : Nat) : ∃ f : Monitor → Monitor, (closeMonitor s i m).flc = (s.modMon i m f).flc ∧
    ((s.monAt i m).got = false → ∀ x, (f x).missing = x.missing + 1) := by
  unfold closeMonitor
  dsimp only
  split
  next hgot _ =>
    refine ⟨_, by rw [dataJudge_flc, sensorRound_flc, voltJudge_flc], fun h => ?_⟩
    exact absurd (h.symm.trans hgot) (by decide)
  · exact ⟨_, by rw [dataJudge_flc], fun _ _ => rfl⟩

theorem closeMonitor_flcAt_ne (s : State) {i k : Nat} (m : Nat) (h : i ≠ k) : (closeMonitor s k m).flcAt i = s.flcAt i := by
  obtain ⟨f, hf, -⟩ := closeMonitor_flc s k m
  rw [flcAt_of_flc hf, State.modMon, flcAt_modRing_ne s _ h]

theorem closeMonitor_monAt_ne (s : State) (i : Nat) {m k : Nat} (h : m ≠ k) :
    ((closeMonitor s i k).monAt i m).lasting = (s.monAt i m).lasting := by
  obtain ⟨f, hf, -⟩ := closeMonitor_flc s i k
  rw [monAt_of_flc Monitor.lasting hf]
  exact congrArg Monitor.lasting (ringAt_modRing_field (·.mon m) s i i _ fun r => getD_modify_ne _ _ _ h)

theorem closeMonitor_missing {s : State} {i m : Nat} (hm : HasMon s i m) (hgot : (s.monAt i m).got = false) :
    ((closeMonitor s i m).monAt i m).missing = (s.monAt i m).missing + 1 := by
  obtain ⟨f, hf, hmiss⟩ := closeMonitor_flc s i m
  rw [monAt_of_flc (·.missing) hf, monAt_modMon_same s f hm, hmiss hgot]

/-- The close of a round at every monitor counts each one missing that has sent no DATA. -/
theorem closeMonitors_missing {s : State} {i m n : Nat} (hm : HasMon s i m) (hn : m < n) (hgot : (s.monAt i m).got = false) :
    (((List.range n).foldl (fun s m => closeMonitor s i m) s).monAt i m).missing = (s.monAt i m).missing + 1 := by
  refine foldl_once (p := fun u : State => ((u.monAt i m).lasting, u.sizes))
    (P := fun v => v.1.missing = (s.monAt i m).missing + 1) (i := m) (fun u k hk => ?_) (fun u hu => ?_) List.nodup_range
    (List.mem_range.mpr hn) (a := s) rfl
  · simp only [closeMonitor_monAt_ne u i hk.symm, closeMonitor_sizes]
  · obtain ⟨hmon, hsizes⟩ := Prod.mk.inj hu
    have hgot' : (u.monAt i m).got = false := (congrArg Monitor.got hmon).trans hgot
    have hmissing : (u.monAt i m).missing = (s.monAt i m).missing := (congrArg Monitor.missing hmon :)
    exact (closeMonitor_missing (hasMon_of_sizes hsizes hm) hgot').trans (by rw [hmissing])

theorem closeRing_flcAt_ne (s : State) {i k : Nat} (h : i ≠ k) : (closeRing s k).flcAt i = s.flcAt i := by
  unfold closeRing
  dsimp only
  split
  · rfl
  · rw [flcAt_of_flc (retierStr_flc _ _), flcAt_modRing_ne _ _ h]
    exact foldl_proj (State.flcAt i) _ (fun u m => closeMonitor_flcAt_ne u m h) _ s

end Sys2Proof.Machine
end

section
/-! SUPPORT. Enumeration, schedules and rounds, and the statement they settle (04_fenline_rings.md R92 to R94, R101 to R105,
R121). -/

namespace Sys2Proof.Machine

-- One proof at a time: together their threads exceed the memory of the check.
set_option Elab.async false

/-! ## The close of a ring -/

/-- A ring whose round closes now. -/
def Ring.roundClosed (now : Nat) (r : Ring) : Ring :=
  { r with roundOpen := false, publishT := now
           missedTwice := (List.range r.n).any fun m => decide (2 ≤ (r.mon m).missing) }

/-- Ring `r` is `r₀` with its round closed at `now`: published, with each monitor missing that has sent no DATA. -/
def RoundClosed (now : Nat) (r₀ r : Ring) : Prop :=
  r.roundOpen = false ∧ r.publishT = now ∧
    ∀ m, m < r₀.n → m < r₀.mons.length → (r₀.mon m).got = false → (r.mon m).missing = (r₀.mon m).missing + 1

theorem roundClosed_lasting (now : Nat) (r₀ r : Ring) : RoundClosed now r₀.lasting r.lasting ↔ RoundClosed now r₀ r := by
  have hlen : r₀.lasting.mons.length = r₀.mons.length := List.length_map ..
  simp only [RoundClosed, lasting_mon, hlen]
  rfl

theorem closeRing_closes {s : State} {i : Nat} (hr : ringRuns s i = true) (hi : i < s.rings.ring.length)
    (hopen : (s.ringAt i).roundOpen = true) (hdue : (s.ringAt i).roundT0 + 2 * nsMs ≤ s.clk) :
    RoundClosed s.clk (s.ringAt i) ((closeRing s i).ringAt i) := by
  obtain ⟨w, hw⟩ : ∃ w, w = (List.range (s.ringAt i).n).foldl (fun s m => closeMonitor s i m) s := ⟨_, rfl⟩
  have hclose : closeRing s i = retierStr (w.modRing i (Ring.roundClosed w.clk)) i := by
    unfold closeRing
    dsimp only
    rw [if_neg (by simp [hopen, hr, Nat.not_lt.mpr hdue]), ← hw]
    rfl
  have hflc : (closeRing s i).flc = (w.modRing i (Ring.roundClosed w.clk)).flc := by rw [hclose, retierStr_flc]
  have hclk : w.clk = s.clk := by rw [hw]; simp
  have hsizes : w.sizes = s.sizes := by simp [hw]
  have hring := ringAt_modRing_same w (Ring.roundClosed w.clk) (by rwa [ring_length_of_sizes hsizes])
  refine ⟨?_, ?_, fun m hn hm hgot => ?_⟩
  · rw [ringAt_of_flc (·.roundOpen) hflc, hring]; rfl
  · rw [ringAt_of_flc (·.publishT) hflc, hring, hclk.symm]; rfl
  · have hmissing : (w.monAt i m).missing = (s.monAt i m).missing + 1 := hw ▸ closeMonitors_missing ⟨hi, hm⟩ hn hgot
    rw [ringAt_of_flc (fun r => (r.mon m).missing) hflc (hp := fun r => by rw [lasting_mon]; rfl), hring]
    exact hmissing

/-- ROUND_CLOSE closes each ring once, and no other ring's close touches it. -/
theorem closeRings_closes {s : State} {i : Nat} (hs : s.isStr i = true) (hr : ringRuns s i = true)
    (hi : i < s.rings.ring.length) (hopen : (s.ringAt i).roundOpen = true)
    (hdue : (s.ringAt i).roundT0 + 2 * nsMs ≤ s.clk) :
    RoundClosed s.clk (s.ringAt i) (((List.range s.strings).foldl closeRing s).ringAt i) := by
  rw [← roundClosed_lasting]
  refine foldl_once (p := fun u => (u.flcAt i, u.sizes)) (P := fun v => RoundClosed s.clk (s.ringAt i).lasting v.1.1)
    (fun u k hk => ?_) (fun u hu => ?_) List.nodup_range (List.mem_range.mpr (by simpa [State.isStr] using hs)) (a := s) rfl
  · rw [closeRing_flcAt_ne u hk.symm, closeRing_sizes]
  · obtain ⟨hflc, hsizes⟩ := Prod.mk.inj hu
    obtain ⟨hring, hrun⟩ := Prod.mk.inj hflc
    obtain ⟨hruns, hclk⟩ := Prod.mk.inj hrun
    have hopen' : (u.ringAt i).roundOpen = true := (congrArg Ring.roundOpen hring).trans hopen
    have ht0 : (u.ringAt i).roundT0 = (s.ringAt i).roundT0 := (congrArg Ring.roundT0 hring :)
    have hclosed := closeRing_closes (hruns.trans hr) (ring_length_of_sizes hsizes ▸ hi) hopen' (by rwa [ht0, hclk])
    rwa [← roundClosed_lasting, hring, hclk] at hclosed

/-! ## The events, on the state `b` at their instant -/

theorem sendEnum_position {s : State} {i m : Nat} (hm : HasMon s i m) (hn : m < (s.ringAt i).n) :
    ((sendEnum s i).monAt i m).position = some ((s.monAt i m).position.getD m) := by
  unfold sendEnum
  rw [State.monAt, ringAt_modRing_same s _ hm.1, Ring.mon, getD_mapIdx _ _ {} _ hm.2, if_pos hn]
  rfl

theorem sendEnum_flags {s : State} {i : Nat} (hi : i < s.rings.ring.length) :
    ((sendEnum s i).ringAt i).enumSent = true ∧ ((sendEnum s i).ringAt i).enumPending = false := by
  unfold sendEnum
  rw [ringAt_modRing_same s _ hi]
  exact ⟨rfl, rfl⟩

theorem enumDone_of_none {s : State} {i : Nat} (h : (s.ringAt i).enumReq = none) : enumDone s i = s := by
  unfold enumDone
  dsimp only
  rw [h]

/-- A ring whose ENUM has returned: whether the count is right (`good`), every identity is the one in `ids` (`all`), and the
monitors are to be loaded with thresholds (`load`). -/
def Ring.enumerated (e : EnumReturn) (good all load : Bool) (ids : List Nat) (r : Ring) : Ring :=
  { r with
    enumSent := false, enumAccept := false, served := good, enumFailed := !all, ids := ids
    thrTodo := if load then List.range r.n else []
    mons := r.mons.mapIdx fun m (x : Monitor) =>
      if good && decide (m < r.n) then { x with identity := e.ids.getD m 0, idMatch := e.ids.getD m 0 == ids.getD m 0 } else x }

/-- The first multiple of the period `p`, µs, at least 20 ms after `now` (R101). -/
def firstEpoch (now p : Nat) : Nat := (now + 20 * nsMs + p * nsUs - 1) / (p * nsUs) * (p * nsUs)

/-- A ring with a new schedule. -/
def Ring.scheduled (epoch period : Nat) (r : Ring) : Ring :=
  { r with newEpoch := some (epoch, period), schedId := (r.schedId + 1) % 256 }

/-- Every ring's round starts, and HVI forms the aligned samples (R102). -/
def triggered (s : State) : State :=
  { s with
    rings := { s.rings with ring := s.rings.ring.map (ringTrigger s.clk s.tsu.now) }
    hviStr := s.hviStr.map fun (h : HviStr) => { h with alignAt := some s.clk } }

section
variable {t : Nat} {s b : State} (hb : s.advance t = b) {i : Nat}
include hb

theorem enumFrame_assigns (hr : ringRuns b i = true) (hm : ringMaster b = true) (hi : i < b.rings.ring.length)
    (hdecl : (b.ringAt i).declared = true) (hpend : (b.ringAt i).enumPending = true) : Does (.enumFrame t i) s fun u =>
      (u.ringAt i).enumSent = true ∧ (u.ringAt i).enumPending = false ∧ ∀ m, m < (b.ringAt i).n →
        m < (b.ringAt i).mons.length → (u.monAt i m).position = some ((b.monAt i m).position.getD m) := by
  obtain ⟨hsent, hdone⟩ := sendEnum_flags hi
  refine ⟨sendEnum b i, ?_, hsent, hdone, fun m hn hlen => sendEnum_position ⟨hi, hlen⟩ hn⟩
  change execEnumFrame t i s = _
  unfold execEnumFrame
  simp only [hb, hr, hm, hdecl, hpend]
  rfl

theorem unaddressedMonitor_enumerates {m : Nat} (hr : ringRuns b i = true) (hm : ringMaster b = true)
    (hi : i < b.rings.ring.length) (hdecl : (b.ringAt i).declared = true) (hn : m < (b.ringAt i).n)
    (hpos : (b.monAt i m).position = none) : Does (.unaddressedMonitor t i) s fun u => (u.ringAt i).enumSent = true ∧
      (m < (b.ringAt i).mons.length → (u.monAt i m).position = some m) := by
  refine ⟨sendEnum b i, ?_, (sendEnum_flags hi).1, fun hlen => ?_⟩
  · have hany : (List.range (b.ringAt i).n).any (fun m => ((b.ringAt i).mon m).position.isNone) = true :=
      List.any_eq_true.mpr ⟨m, List.mem_range.mpr hn, by rw [← State.monAt, hpos]; rfl⟩
    change execUnaddressedMonitor t i s = _
    unfold execUnaddressedMonitor
    simp only [hb, hr, hm, hdecl, hany]
    rfl
  · rw [sendEnum_position ⟨hi, hlen⟩ hn, hpos]
    rfl

/-- The return of an ENUM with no command that waits for it, all around the ring: the outcome by its count and identities. -/
theorem enumReturn_outcome {e : EnumReturn} {good all : Bool} {ids : List Nat} (hr : ringRuns b i = true)
    (hi : i < b.rings.ring.length) (hsent : (b.ringAt i).enumSent = true) (hreq : (b.ringAt i).enumReq = none)
    (hturn : e.turned = false) (hgood : (e.count1 == (b.ringAt i).n) = good)
    (hids : (if (b.ringAt i).enumAccept && good then execEnumReturn.fitIds (b.ringAt i).n e.ids else (b.ringAt i).ids) = ids)
    (hall : (good && (List.range (b.ringAt i).n).all fun m => e.ids.getD m 0 == ids.getD m 0) = all) :
    ∃ u load, exec (.enumReturn t i e) s = .next u ∧
      u.flc = (b.modRing i (Ring.enumerated e good all load ids)).flc := by
  obtain ⟨w, hw⟩ : ∃ w, w = b.modRing i (Ring.enumerated e good all (good && ringMaster b) ids) := ⟨_, rfl⟩
  obtain ⟨v, hv⟩ : ∃ v, v = judgeReach (if ringMaster b then groupRecord w gStr (srcFlc i) lvInfo 93 i
      (e.count1 + 256 * good.toNat + 512 * all.toNat) else w) i := ⟨_, rfl⟩
  have hflc : v.flc = w.flc := by simp [hv]
  have hnone : (v.ringAt i).enumReq = none := by
    rw [ringAt_of_flc (·.enumReq) hflc, hw, ringAt_modRing_same b _ hi]
    exact hreq
  refine ⟨enumDone v i, good && ringMaster b, ?_, by rw [enumDone_of_none hnone, hflc, hw]⟩
  change execEnumReturn t i e s = _
  unfold execEnumReturn
  simp only [hb, hr, hsent, hturn, hv, hw]
  subst hgood hids hall
  rfl

theorem enumReturn_serves {e : EnumReturn} (hr : ringRuns b i = true) (hi : i < b.rings.ring.length)
    (hsent : (b.ringAt i).enumSent = true) (hacc : (b.ringAt i).enumAccept = false) (hreq : (b.ringAt i).enumReq = none)
    (hturn : e.turned = false) (hcount : e.count1 = (b.ringAt i).n) (hids : e.ids = (b.ringAt i).ids) :
    Does (.enumReturn t i e) s fun u => (u.ringAt i).served = true ∧ (u.ringAt i).enumFailed = false ∧
      (u.ringAt i).enumSent = false ∧ ∀ m, m < (b.ringAt i).n → m < (b.ringAt i).mons.length →
        (u.monAt i m).idMatch = true := by
  obtain ⟨u, load, hu, hflc⟩ := enumReturn_outcome hb (good := true) (all := true) (ids := e.ids) hr hi hsent hreq hturn
    (by simp [hcount]) (by simp [hacc, hids]) (by simp)
  have hring := ringAt_modRing_same b (Ring.enumerated e true true load e.ids) hi
  refine ⟨u, hu, ?_, ?_, ?_, fun m hn hlen => ?_⟩
  · rw [ringAt_of_flc (·.served) hflc, hring]; rfl
  · rw [ringAt_of_flc (·.enumFailed) hflc, hring]; rfl
  · rw [ringAt_of_flc (·.enumSent) hflc, hring]; rfl
  · rw [monAt_of_flc (·.idMatch) hflc, State.monAt, hring, Ring.mon, Ring.enumerated, getD_mapIdx _ _ {} _ hlen]
    simp [hn]

theorem enumReturn_fails {e : EnumReturn} (hr : ringRuns b i = true) (hi : i < b.rings.ring.length)
    (hsent : (b.ringAt i).enumSent = true) (hreq : (b.ringAt i).enumReq = none) (hturn : e.turned = false)
    (hcount : e.count1 ≠ (b.ringAt i).n) :
    Does (.enumReturn t i e) s fun u => (u.ringAt i).served = false ∧ (u.ringAt i).enumFailed = true := by
  obtain ⟨u, load, hu, hflc⟩ := enumReturn_outcome hb (good := false) (all := false) (ids := (b.ringAt i).ids) hr hi hsent
    hreq hturn (by simp [hcount]) (by simp) (by simp)
  have hring := ringAt_modRing_same b (Ring.enumerated e false false load (b.ringAt i).ids) hi
  refine ⟨u, hu, ?_, ?_⟩
  · rw [ringAt_of_flc (·.served) hflc, hring]; rfl
  · rw [ringAt_of_flc (·.enumFailed) hflc, hring]; rfl

theorem sched_schedules {p : Nat} (hr : ringRuns b i = true) (hm : ringMaster b = true) (hrounds : roundsRun b = true)
    (hi : i < b.rings.ring.length) (hp : wantedPeriod b = p) : Does (.sched t i) s fun u =>
      (u.ringAt i).newEpoch = some ((b.tsu.now + 20 * nsMs + p * nsUs - 1) / (p * nsUs) * (p * nsUs), p) ∧
        (u.ringAt i).schedId = ((b.ringAt i).schedId + 1) % 256 := by
  refine ⟨(progTrigger (progTrigger b 0 (firstEpoch b.tsu.now p) (p * nsUs)) 5 (firstEpoch b.tsu.now p)
    (100 * nsMs)).modRing i (Ring.scheduled (firstEpoch b.tsu.now p) p), ?_, ?_⟩
  · change execSched t i s = _
    unfold execSched
    simp only [hb, hr, hm, hrounds, hp]
    rfl
  · dsimp only
    rw [ringAt_modRing_same _ _ (by simpa using hi)]
    exact ⟨rfl, rfl⟩

theorem roundTrigger_opens (hrounds : roundsRun b = true) (hclock : b.clockLost .ring = false)
    (hi : i < b.rings.ring.length) (hh : i < b.hviStr.length) (hdecl : (b.ringAt i).declared = true)
    (hserved : (b.ringAt i).served = true) (hepoch : (b.ringAt i).newEpoch = none) : Does (.roundTrigger t) s fun u =>
      (u.ringAt i).roundOpen = true ∧ (u.ringAt i).roundT0 = b.clk ∧ (u.ringAt i).round = (b.ringAt i).round + 1 ∧
        (u.hviAt i).alignAt = some b.clk := by
  have hring : (triggered b).ringAt i = ringTrigger b.clk b.tsu.now (b.ringAt i) := getD_map_of_lt _ _ _ _ hi
  refine ⟨triggered b, ?_, ?_⟩
  · change execRoundTrigger t s = _
    unfold execRoundTrigger
    simp only [hb, hrounds, hclock]
    rfl
  · dsimp only
    rw [hring, State.hviAt, triggered, getD_map_of_lt _ _ {} _ hh]
    simp [ringTrigger, hepoch, hdecl, hserved]

theorem roundRead_reads {m : Nat} (hr : ringRuns b i = true) (hm : ringMaster b = true) (hmon : HasMon b i m)
    (hopen : (b.ringAt i).roundOpen = true) (hn : m < (b.ringAt i).n)
    (hdue : (b.ringAt i).roundT0 + 100 * nsUs * (m + 1) ≤ b.clk) (hc : (b.monAt i m).credits ≠ 0) :
    Does (.roundRead t i m) s fun u => Sent b u i m 4 0 := by
  refine ⟨sendFrame b i m 4 0 false, ?_, sendFrame_sent 4 0 hmon hc⟩
  change execRoundRead t i m s = _
  unfold execRoundRead
  simp only [hb, hr, hm, hopen, hn, hdue]
  rfl

theorem roundClose_publishes (hs : b.isStr i = true) (hr : ringRuns b i = true) (hi : i < b.rings.ring.length)
    (hopen : (b.ringAt i).roundOpen = true) (hdue : (b.ringAt i).roundT0 + 2 * nsMs ≤ b.clk) :
    Does (.roundClose t) s fun u => RoundClosed b.clk (b.ringAt i) (u.ringAt i) :=
  ⟨(List.range b.strings).foldl closeRing b, by subst hb; rfl, closeRings_closes hs hr hi hopen hdue⟩

end

/-! ## The commands -/

/-- A command of the roles A and S without a descriptor, whose length, population, state and argument pass, is not refused. -/
theorem rejection_of_commands {sp : Spec} {s : State} {q : Req} (hl : sp.len q.payload = none) (hc : Commands s)
    (he : q.envBad = none) (hpop : sp.pop s q.payload = none) (hst : sp.state s q = none) (ha : sp.arg s q = none)
    (hroles : sp.roles = .as) (happ : sp.noApp = false) (hown : ownerBad sp s q = none) (hres : sp.res s q = false) :
    rejection sp s q = none := by
  have hrole : rolesOk sp s.unit = true := by
    rcases hc with h | h <;> simp [rolesOk, h, hroles]
  simp [rejection, hl, hpop, happ, hrole, hst, firstBad, he, ha, hown, hres]

theorem popString_of_lt {s : State} {p : Bytes} (h : getU p 0 1 < s.strings) : popString s p = none := by
  simp [popString, must, h]

/-- A commit answers, or waits for the partner's acknowledgement of the message it sends. -/
theorem commit_done1 {s v : State} (h : ackNeeded v = ackNeeded s) (op : Nat) (q : Req) (ty : Nat) (p : Bytes) :
    Done1 s (commit v op q ty p) q op ty p := by
  unfold Done1 commit
  rw [h]
  split
  · refine ⟨rfl, ⟨_, List.mem_append_right _ List.mem_cons_self, rfl, rfl, rfl⟩,
      ⟨_, List.mem_append_right _ List.mem_cons_self, rfl, rfl⟩⟩
  · exact ok_answered ..

theorem ackNeeded_congr {s u : State} (hu : u.unit = s.unit) (hr : u.red = s.red) : ackNeeded u = ackNeeded s := by
  rw [ackNeeded, ackNeeded, hu, hr]

/-- A ring as STR_SET_RING declares it. -/
def Ring.declare (p : Bytes) (r : Ring) : Ring :=
  { r with declared := true, headEnd2 := getU p 1 1 == 1, n := getU p 2 1, served := false
           ids := (List.range (getU p 2 1)).map fun m => getU p (8 + 8 * m) 8 }

/-- The declared ring and the rates, before the string's tier is judged. -/
def declared (s : State) (p : Bytes) : State :=
  { s.modRing (getU p 0 1) (Ring.declare p) with
    rings := { (s.modRing (getU p 0 1) (Ring.declare p)).rings with rate := getU p 4 1, floatRate := getU p 5 1 } }

theorem storeRing_flc (s : State) (p : Bytes) : (storeRing s p).flc = (declared s p).flc := retierStr_flc ..

/-- A ring with an ENUM asked for by request `q` of opcode `op`. -/
def Ring.asked (op : Nat) (q : Req) (accept : Bool) (r : Ring) : Ring :=
  { r with enumPending := true, enumAccept := accept, enumReq := some { req := q, opcode := op } }

/-- A ring with the link of `key` disabled. -/
def Ring.withoutLink (key : Nat) (r : Ring) : Ring := { r with linksOff := key :: r.linksOff.filter (· ≠ key) }

/-- A field of a ring that the commands to the ends of a link leave alone. -/
theorem ringAt_commandLink_field {γ : Type} (p : Ring → γ) (s : State) (i pos port code k : Nat)
    (h : ∀ (r : Ring) (l : List Monitor) (o : List Outstanding), p { r with mons := l, outstanding := o } = p r := by
      exact fun _ _ _ => rfl) : p ((commandLink s i pos port code).ringAt k) = p (s.ringAt k) := by
  have hsend (u : State) (m : Nat) : p ((sendFrame u i m 6 code false).ringAt k) = p (u.ringAt k) :=
    ringAt_sendFrame_field p u i m 6 code false k h
  have hfirst : p ((if 0 < pos + port then sendFrame s i (pos + port - 1) 6 code false else s).ringAt k) = p (s.ringAt k) := by
    split
    · exact hsend s _
    · rfl
  unfold commandLink
  dsimp only
  split
  · exact (hsend _ _).trans hfirst
  · exact hfirst

theorem startEnum_ringAt {s : State} {i : Nat} (op : Nat) (q : Req) (accept : Bool) (hi : i < s.rings.ring.length) :
    (startEnum s op q i accept).ringAt i = Ring.asked op q accept (s.ringAt i) :=
  ringAt_modRing_same (keepExec s op q) _ hi

section
variable {s : State} {q : Req} {i : Nat} (h : Taken s q) (hc : Commands s) (hidx : getU q.payload 0 1 = i)
include h hc hidx

theorem strSetRing_declares (hl : q.payload.length = 8 + 8 * getU q.payload 2 1) (hf : badField ringHead q.payload = none)
    (hrate : [10, 20, 25, 50, 100].contains (getU q.payload 4 1) = true) (hs : i < s.strings)
    (hi : i < s.rings.ring.length) (hconf : ringConflict s i = none) : Does (.strSetRing q) s fun u =>
      (u.ringAt i).declared = true ∧ (u.ringAt i).n = getU q.payload 2 1 ∧
      (u.ringAt i).headEnd2 = (getU q.payload 1 1 == 1) ∧ (u.ringAt i).ids =
        (List.range (getU q.payload 2 1)).map (fun m => getU q.payload (8 + 8 * m) 8) ∧
      (u.ringAt i).enumPending = true ∧ (u.ringAt i).enumReq = some { req := q, opcode := 0x020F } ∧
      u.rings.rate = getU q.payload 4 1 ∧ u.rings.floatRate = getU q.payload 5 1 := by
  have ⟨_, _, henv⟩ := h
  subst hidx
  have hflc := storeRing_flc (touch s) q.payload
  have hlen : getU q.payload 0 1 < (storeRing (touch s) q.payload).rings.ring.length := by
    rw [ring_length_of_flc hflc]
    simpa [declared] using hi
  have hring : (declared (touch s) q.payload).ringAt (getU q.payload 0 1) = _ := ringAt_modRing_same s _ hi
  have hrates : (storeRing (touch s) q.payload).lastingRings = (declared (touch s) q.payload).lastingRings :=
    congrArg Prod.fst hflc
  refine ⟨startEnum (storeRing (touch s) q.payload) 0x020F q (getU q.payload 0 1) false, ?_, ?_⟩
  · change execStrSetRing q s = _
    unfold execStrSetRing
    rw [command_run _ _ q s h]
    · rfl
    · refine rejection_of_commands (if_pos hl) hc henv (popString_of_lt hs) ((if_pos hs).trans hconf) ?_ rfl rfl rfl rfl
      dsimp only
      rw [hf, must, if_pos hrate]
      rfl
  · dsimp only
    rw [startEnum_ringAt _ _ _ hlen]
    dsimp only [Ring.asked]
    refine ⟨?_, ?_, ?_, ?_, rfl, rfl, ?_, ?_⟩
    · rw [ringAt_of_flc (·.declared) hflc, hring]; rfl
    · rw [ringAt_of_flc (·.n) hflc, hring]; rfl
    · rw [ringAt_of_flc (·.headEnd2) hflc, hring]; rfl
    · rw [ringAt_of_flc (·.ids) hflc, hring]; rfl
    · exact (congrArg Rings.rate hrates :)
    · exact (congrArg Rings.floatRate hrates :)

theorem strEnumerate_asks (hl : q.payload.length = 2) (hacc : getU q.payload 1 1 < 2) (hs : i < s.strings)
    (hi : i < s.rings.ring.length) (hconf : ringConflict s i = none) : Does (.strEnumerate q) s fun u =>
      (u.ringAt i).enumPending = true ∧ (u.ringAt i).enumAccept = (getU q.payload 1 1 == 1) ∧
        (u.ringAt i).enumReq = some { req := q, opcode := 0x0210 } := by
  have ⟨_, _, henv⟩ := h
  subst hidx
  have hring := startEnum_ringAt (s := touch s) 0x0210 q (getU q.payload 1 1 == 1) hi
  refine ⟨startEnum (touch s) 0x0210 q (getU q.payload 0 1) (getU q.payload 1 1 == 1), ?_, ?_⟩
  · change execStrEnumerate q s = _
    unfold execStrEnumerate
    rw [command_run _ _ q s h]
    · rfl
    · refine rejection_of_commands (if_pos hl) hc henv (popString_of_lt hs) ((if_pos hs).trans hconf) ?_ rfl rfl rfl rfl
      simp [hs, hacc, must, firstBad]
  · dsimp only
    rw [hring]
    exact ⟨rfl, rfl, rfl⟩

theorem strRingLink_disables {pos port : Nat} (hpos : getU q.payload 1 1 = pos) (hport : getU q.payload 2 1 = port)
    (hdis : getU q.payload 3 1 = 0) (hl : q.payload.length = 4) (hs : i < s.strings) (hn : pos < (s.ringAt i).n)
    (hp2 : port < 2) (hcut : cutsOff (s.ringAt i) (pos + port) = false) (hi : i < s.rings.ring.length) :
    Does (.strRingLink q) s fun u => Done1 s u q 0x0211 3 [] ∧ (2 * pos + port) ∈ (u.ringAt i).linksOff ∧
      (u.ringAt i).twoEnded = true := by
  have ⟨_, _, henv⟩ := h
  subst hidx hpos hport
  obtain ⟨v, hv⟩ : ∃ v, v = (touch s).modRing (getU q.payload 0 1)
      (Ring.withoutLink (2 * getU q.payload 1 1 + getU q.payload 2 1)) := ⟨_, rfl⟩
  obtain ⟨w, hw⟩ : ∃ w, w = commandLink v (getU q.payload 0 1) (getU q.payload 1 1) (getU q.payload 2 1) 0x11 := ⟨_, rfl⟩
  obtain ⟨x, hx⟩ : ∃ x, x = retierStr (enterTwoEnded w (getU q.payload 0 1)) (getU q.payload 0 1) := ⟨_, rfl⟩
  have hflc : x.flc = (enterTwoEnded w (getU q.payload 0 1)).flc := by rw [hx, retierStr_flc]
  have hlen : getU q.payload 0 1 < w.rings.ring.length := by
    have hsizes : w.sizes = s.sizes := by simp [hw, hv, touch, Ring.withoutLink]
    rwa [ring_length_of_sizes hsizes]
  have hoff : (w.ringAt (getU q.payload 0 1)).linksOff = (v.ringAt (getU q.payload 0 1)).linksOff :=
    hw ▸ ringAt_commandLink_field (·.linksOff) ..
  have hring : v.ringAt (getU q.payload 0 1) = _ := hv ▸ ringAt_modRing_same (touch s) _ hi
  have hack : ackNeeded x = ackNeeded s := ackNeeded_congr (by simp [hx, hw, hv]) (by simp [hx, hw, hv, touch])
  refine ⟨commit x 0x0211 q peerConfig [], ?_, commit_done1 hack .., ?_, ?_⟩
  · change execStrRingLink q s = _
    unfold execStrRingLink
    rw [command_run _ _ q s h]
    · rw [noteDesc_none _ _ _ rfl, hx, hw, hv]
      exact congrArg Host.Outcome.next (if_pos hdis)
    · refine rejection_of_commands (if_pos hl) hc henv (popString_of_lt hs) ?_ ?_ rfl rfl rfl rfl
      · exact if_neg fun hbad => by simp [hcut] at hbad
      · simp [must, firstBad, hs, hn, hp2, hdis]
  · rw [ringAt_congr (s := x) (by simp), ringAt_of_flc (·.linksOff) hflc, ringAt_enterTwoEnded_field (·.linksOff), hoff, hring]
    exact List.mem_cons_self
  · rw [ringAt_congr (s := x) (by simp), ringAt_of_flc (·.twoEnded) hflc]
    exact enterTwoEnded_twoEnded hlen

end

/-- Settles O12: each clause is the law of its command, or of its event on the state at the event's instant. -/
theorem enumerationAndRounds : Obligations.EnumerationAndRounds :=
  ⟨fun _ _ _ hr hm hi hdecl hpend => enumFrame_assigns rfl hr hm hi hdecl hpend,
    fun _ _ _ _ hr hm hi hdecl hn hpos => unaddressedMonitor_enumerates rfl hr hm hi hdecl hn hpos,
    fun _ _ _ _ hr hi hsent hacc hreq hturn hcount hids => enumReturn_serves rfl hr hi hsent hacc hreq hturn hcount hids,
    fun _ _ _ _ hr hi hsent hreq hturn hcount => enumReturn_fails rfl hr hi hsent hreq hturn hcount,
    fun _ _ _ _ hr hm hrounds hi hp => sched_schedules rfl hr hm hrounds hi hp,
    fun _ _ _ hrounds hclock hi hh hdecl hserved hepoch =>
      roundTrigger_opens rfl hrounds hclock hi hh hdecl hserved hepoch,
    fun _ _ _ _ hr hm hmon hopen hn hdue hc => roundRead_reads rfl hr hm hmon hopen hn hdue hc,
    fun _ _ _ hs hr hi hopen hdue => roundClose_publishes rfl hs hr hi hopen hdue,
    fun _ _ _ h hc hidx hl hf hrate hs hi hconf => strSetRing_declares h hc hidx hl hf hrate hs hi hconf,
    fun _ _ _ h hc hidx hl hacc hs hi hconf => strEnumerate_asks h hc hidx hl hacc hs hi hconf,
    fun _ _ _ _ _ h hc hidx hpos hport hdis hl hs hn hp2 hcut hi =>
      strRingLink_disables h hc hidx hpos hport hdis hl hs hn hp2 hcut hi⟩

end Sys2Proof.Machine
end

section
/-! SUPPORT. Responses, readings and the commands to a monitor (04_fenline_rings.md R103, R106 to R108, R114 to R119). -/

namespace Sys2Proof.Machine

-- One proof at a time: together their threads exceed the memory of the check.
set_option Elab.async false

/-! ## Frames that are answered, lost or turned -/

theorem response_onTime {s : State} {i m seq : Nat} {o : Outstanding} (h : matching s i m seq = some o)
    (hclk : s.clk ≤ o.departed + 250 * nsUs) : response s i m seq = (creditBack s i o, some o) := by
  unfold response
  dsimp only
  rw [h]
  exact if_neg (Nat.not_lt.mpr hclk)

/-- A ring with one more frame lost. -/
def Ring.lostOne (r : Ring) : Ring := { r with lost := r.lost + 1 }

theorem loseFrame_rings (s : State) (i : Nat) (o : Outstanding) :
    (loseFrame s i o).rings = ((creditBack s i o).modRing i Ring.lostOne).rings :=
  foldl_proj State.rings _ (fun u k => by simp) _ _

/-- A ring with one more command refused. -/
def Ring.refusedOne (r : Ring) : Ring := { r with refusedCmds := r.refusedCmds + 1 }

/-- The planner of a ring stopped until its next cycle (07_balancing_dispatch.md R193). -/
def Bal.stopped (x : Bal) : Bal := { x with ringStopped := true }

/-! ## Readings -/

/-- Monitor `x` once DATA `d` of it is taken at `now`, with its round open or not. -/
def Monitor.read (now kind : Nat) (roundOpen : Bool) (d : RoundData) (x : Monitor) : Monitor :=
  { x with
    prevRead := some d, roundT := now, round := if kind = 0 then some d else x.round
    got := x.got || (kind == 0 && roundOpen), fresh2 := x.fresh2 || kind == 2
    ovActive := if d.status.getLsbD 1 then x.ovActive else 0, uvActive := if d.status.getLsbD 1 then x.uvActive else 0
    openActive := if d.status.getLsbD 1 then x.openActive else 0, otActive := if d.status.getLsbD 1 then x.otActive else 0
    selfActive := d.status.getLsbD 1 && x.selfActive
    ovMap := if d.status.getLsbD 1 then x.ovActive else 0, uvMap := if d.status.getLsbD 1 then x.uvActive else 0
    openMap := if d.status.getLsbD 1 then x.openActive else 0, otMap := if d.status.getLsbD 1 then x.otActive else 0
    alarmLatched := d.status.getLsbD 1, restarted := false, synced := d.status.getLsbD 0, dieLimit := d.status.getLsbD 7
    bleed := if d.status.getLsbD 7 then [] else x.bleed }

@[simp] theorem read_fields (now kind : Nat) (roundOpen : Bool) (d : RoundData) (x : Monitor) :
    (x.read now kind roundOpen d).round = (if kind = 0 then some d else x.round) ∧
    (x.read now kind roundOpen d).prevRead = some d ∧ (x.read now kind roundOpen d).roundT = now ∧
    (x.read now kind roundOpen d).synced = d.status.getLsbD 0 ∧
    (x.read now kind roundOpen d).alarmLatched = d.status.getLsbD 1 ∧
    (x.read now kind roundOpen d).ovMap = (if d.status.getLsbD 1 then x.ovActive else 0) ∧
    (x.read now kind roundOpen d).uvMap = (if d.status.getLsbD 1 then x.uvActive else 0) ∧
    (x.read now kind roundOpen d).credits = x.credits := ⟨rfl, rfl, rfl, rfl, rfl, rfl, rfl, rfl⟩

/-- The return of a monitor after its SWITCH writes its firmware state alone. -/
theorem fwReturned_rings (s : State) (i m : Nat) : (fwReturned s i m).rings = s.rings ∨
    (fwReturned s i m).rings = (s.modMon i m fun x => { x with fw := { x.fw with switchedT := none } }).rings := by
  unfold fwReturned
  dsimp only
  split
  · exact .inl rfl
  · refine .inr ?_
    split
    · rfl
    · split
      · rfl
      · split
        · simp
        · split <;> simp

theorem monAt_fwReturned_field {γ : Type} (p : Monitor → γ) {s : State} {i m : Nat} (hm : HasMon s i m)
    (hp : ∀ (x : Monitor) (f : MonFw), p { x with fw := f } = p x := by exact fun _ _ => rfl) :
    p ((fwReturned s i m).monAt i m) = p (s.monAt i m) := by
  rcases fwReturned_rings s i m with h | h
  · rw [monAt_congr h]
  · rw [monAt_congr h, monAt_modMon_same s _ hm, hp]

/-- What DATA makes of its monitor, beside a halt of the string and its firmware state. -/
theorem monAt_takeData_field {γ : Type} (p : Monitor → γ) {s : State} {i m : Nat} (kind : Nat) (d : RoundData)
    (hm : HasMon s i m) (hl : ∀ x : Monitor, p x.lasting = p x := by exact fun _ => rfl)
    (hp : ∀ (x : Monitor) (f : MonFw), p { x with fw := f } = p x := by exact fun _ _ => rfl) :
    p ((takeData s i m kind d).monAt i m) = p ((s.monAt i m).read s.clk kind (s.ringAt i).roundOpen d) := by
  obtain ⟨v, hv⟩ : ∃ v, v = bookReading s i m (s.monAt i m).prevRead d (s.monAt i m).cmdCur (s.clk - (s.monAt i m).roundT) :=
    ⟨_, rfl⟩
  have hrings : v.rings = s.rings := by simp [hv]
  have hclk : v.clk = s.clk := by simp [hv]
  obtain ⟨w, hw⟩ : ∃ w, w = v.modMon i m (Monitor.read v.clk kind (v.ringAt i).roundOpen d) := ⟨_, rfl⟩
  obtain ⟨u, hu⟩ : ∃ u, u = alarmSp (if d.status.getLsbD 5 then detected w (uMon i m) 103 0 else w) i m := ⟨_, rfl⟩
  have htake : takeData s i m kind d = fwReturned u i m := by rw [hu, hw, hv]; rfl
  have hflc : u.flc = w.flc := by simp [hu]
  have hmv : HasMon v i m := ⟨hrings ▸ hm.1, ringAt_congr hrings i ▸ hm.2⟩
  have hmu : HasMon u i m := hasMon_of_sizes (by simp [hu, hw]) hmv
  rw [htake, monAt_fwReturned_field p hmu hp, monAt_of_flc p hflc i m hl, hw, monAt_modMon_same v _ hmv,
    monAt_congr hrings, ringAt_congr hrings, hclk]

/-! ## Commands -/

/-- Monitor `x` with a CMD of this unit sent to it. -/
def Monitor.commanded (code : Nat) (x : Monitor) : Monitor :=
  { x.charged with fresh2 := x.fresh2 && decide (4 < code) }

/-- Monitor `x` once it has given this ACK. -/
def Monitor.acked (code result value : Nat) (x : Monitor) : Monitor := { x with ack := some (code, result, value) }

@[simp] theorem commanded_fields (code : Nat) (x : Monitor) : (x.commanded code).bleed = x.bleed ∧
    (x.commanded code).shuttle = x.shuttle ∧ (x.commanded code).dieLimit = x.dieLimit ∧
    (x.commanded code).fresh2 = (x.fresh2 && decide (4 < code)) ∧ (x.commanded code).followsUs = x.followsUs :=
  ⟨rfl, rfl, rfl, rfl, rfl⟩

@[simp] theorem acked_fields (code result value : Nat) (x : Monitor) :
    (x.acked code result value).ack = some (code, result, value) ∧
    (x.acked code result value).bleed = x.bleed ∧ (x.acked code result value).shuttle = x.shuttle ∧
    (x.acked code result value).cmdCur = x.cmdCur ∧ (x.acked code result value).fresh2 = x.fresh2 ∧
    (x.acked code result value).port0Off = x.port0Off ∧ (x.acked code result value).port1Off = x.port1Off :=
  ⟨rfl, rfl, rfl, rfl, rfl, rfl, rfl⟩

/-- A CMD of this unit has gone out. -/
def commanded (s : State) (i m code : Nat) : State :=
  (sendFrame s i m 6 code false).modMon i m fun x => { x with fresh2 := x.fresh2 && decide (4 < code) }

@[simp] theorem commanded_keeps (s : State) (i m code : Nat) : (commanded s i m code).clk = s.clk := by simp [commanded]

theorem isStr_of_ringRuns {s : State} {i : Nat} (h : ringRuns s i = true) : s.isStr i = true := by
  simp only [ringRuns, Bool.and_eq_true] at h
  obtain ⟨⟨⟨⟨hs, -⟩, -⟩, -⟩, -⟩ := h
  exact hs

theorem ackResult_own {x : Monitor} (h : x.followsUs = true) (r : Nat) : ackResult x true r = r := by simp [ackResult, h]

theorem ackResult_partner {x : Monitor} (h : x.followsUs = true) (r : Nat) : ackResult x false r = 2 := by simp [ackResult, h]

theorem shuttleResult_starts {x : Monitor} {a : ShuttleArgs} (h : x.shuttle = none) (hch : a.channel ≤ 31)
    (hlo : 100 ≤ a.current) (hhi : a.current ≤ 3000) (hd : 1 ≤ a.duration) (hdmax : a.duration ≤ 600) :
    shuttleResult x a = 0 := by
  unfold shuttleResult
  rw [if_neg (by omega), h]

theorem shuttleResult_busy {x : Monitor} {a : ShuttleArgs} {sh : Shuttle} (h : x.shuttle = some sh)
    (hne : sh.args.channel ≠ a.channel) (hch : a.channel ≤ 31) (hlo : 100 ≤ a.current) (hhi : a.current ≤ 3000)
    (hd : 1 ≤ a.duration) (hdmax : a.duration ≤ 600) : shuttleResult x a = 4 := by
  unfold shuttleResult
  rw [if_neg (by omega), h]
  exact if_neg fun hsame => hne hsame.1

/-- A frame of the partner reaches a monitor that holds a position. -/
theorem cmdFrame_partner {s : State} {i m : Nat} (code : Nat) (hs : s.isStr i = true) (hm : m < 16)
    (hpos : (s.monAt i m).position.isSome = true) : cmdFrame s i m false code = (s, true) := by
  simp [cmdFrame, hs, hm, hpos]

theorem ackWith_monAt {s : State} {i m : Nat} (code result : Nat) (f : Monitor → Monitor) (hm : HasMon s i m) :
    ∃ v, (ackWith s i m code result f).monAt i m =
      (if result = 0 then f (s.monAt i m) else s.monAt i m).acked code result v :=
  ⟨_, monAt_modMon_same s.draw _ hm⟩

section
variable {s : State} {i m : Nat} (h : CanCommand s i m)
include h

theorem cmdFrame_own {code : Nat} (hf : code ≤ 4 → (s.monAt i m).fresh2 = true)
    (hb : code = 1 ∨ code = 3 → (s.balAt i).ringStopped = false) :
    cmdFrame s i m true code = (commanded s i m code, true) := by
  obtain ⟨hr, hm, h16, hpos, hc, -, -⟩ := h
  have hfresh : (decide (code ≤ 4) && !(s.monAt i m).fresh2) = false := by simpa using hf
  have hstopped : ((code == 1 || code == 3) && (s.balAt i).ringStopped) = false := by simpa using hb
  unfold cmdFrame
  simp [hr, hm, h16, hpos, hc, hfresh, hstopped, isStr_of_ringRuns hr, commanded]

theorem commanded_monAt (code : Nat) : (commanded s i m code).monAt i m = (s.monAt i m).commanded code := by
  obtain ⟨-, -, -, -, hc, -, hm⟩ := h
  have hsent : HasMon (sendFrame s i m 6 code false) i m := hasMon_of_sizes (by simp) hm
  rw [commanded, monAt_modMon_same _ _ hsent, sendFrame_monAt 6 code false hm hc]
  rfl

theorem ackResult_commanded (code r : Nat) : ackResult ((commanded s i m code).monAt i m) true r = r := by
  have ⟨_, _, _, _, _, hfollows, _⟩ := h
  rw [commanded_monAt h]
  exact ackResult_own (by simpa using hfollows) r

/-- The command uses a credit, and its monitor, which then stands as `x`, acknowledges it. -/
theorem ackWith_commanded (code result : Nat) {f : Monitor → Monitor} {x : Monitor}
    (hx : (if result = 0 then f ((s.monAt i m).commanded code) else (s.monAt i m).commanded code) = x)
    (hcredits : x.credits = (s.monAt i m).credits - 1) :
    let u := ackWith (commanded s i m code) i m code result f
    Sent s u i m 6 code ∧ ∃ v, u.monAt i m = x.acked code result v := by
  have ⟨_, _, _, _, hc, _, hmon⟩ := h
  obtain ⟨v, hv⟩ := ackWith_monAt code result f (hasMon_of_sizes (u := commanded s i m code) (by simp [commanded]) hmon)
  rw [commanded_monAt h, hx] at hv
  refine ⟨⟨?_, by rw [hv]; exact hcredits⟩, v, hv⟩
  calc ((ackWith (commanded s i m code) i m code result f).ringAt i).outstanding
    _ = ((commanded s i m code).ringAt i).outstanding :=
      ringAt_modRing_field (·.outstanding) (commanded s i m code).draw i i _ fun _ => rfl
    _ = ((sendFrame s i m 6 code false).ringAt i).outstanding :=
      ringAt_modRing_field (·.outstanding) (sendFrame s i m 6 code false) i i _ fun _ => rfl
    _ = _ := sendFrame_outstanding 6 code false hmon hc

end

/-! ## What a command does to its monitor -/

/-- A BLEED_SET in force from `now` on (R117). -/
def Monitor.bleedOn (now : Nat) (mask : BitVec 32) (floor duration : Nat) (x : Monitor) : Monitor :=
  { x with bleed := if x.dieLimit then [] else
             (x.bleed.filter fun b => !(mapChannels mask).contains b.ch) ++
               (mapChannels mask).map fun c => { ch := c, floor := floor, endT := now + duration * 100 * nsMs } }

/-- A BLEED_STOP in force. -/
def Monitor.bleedOff (mask : BitVec 32) (x : Monitor) : Monitor := { x with bleed := x.bleed.filter fun b => !mask.getLsbD b.ch }

/-- A SHUTTLE_SET in force from `now` on (R118). -/
def Monitor.shuttleOn (now : Nat) (a : ShuttleArgs) (x : Monitor) : Monitor :=
  { x with shuttle := some { args := a, startT := now, q0 := 0 }
           cmdCur := if a.outOfCell then -(a.current : Int) else a.current }

/-- No shuttle any more. -/
def Monitor.shuttleOff (x : Monitor) : Monitor := { x with shuttle := none }

/-- A node with its port switched (R112). -/
def Monitor.switchPort (port : Nat) (off : Bool) (x : Monitor) : Monitor :=
  if port = 0 then { x with port0Off := off } else { x with port1Off := off }

@[simp] theorem bleedOn_fields (now : Nat) (mask : BitVec 32) (floor duration : Nat) (x : Monitor) :
    (x.bleedOn now mask floor duration).fresh2 = x.fresh2 ∧ (x.bleedOn now mask floor duration).bleed =
      if x.dieLimit then [] else (x.bleed.filter fun b => !(mapChannels mask).contains b.ch) ++
        (mapChannels mask).map fun c => { ch := c, floor := floor, endT := now + duration * 100 * nsMs } := ⟨rfl, rfl⟩

@[simp] theorem bleedOff_bleed (mask : BitVec 32) (x : Monitor) :
    (x.bleedOff mask).bleed = x.bleed.filter fun b => !mask.getLsbD b.ch := rfl

@[simp] theorem shuttleOn_fields (now : Nat) (a : ShuttleArgs) (x : Monitor) :
    (x.shuttleOn now a).shuttle = some { args := a, startT := now, q0 := 0 } ∧
    (x.shuttleOn now a).cmdCur = if a.outOfCell then -(a.current : Int) else a.current := ⟨rfl, rfl⟩

@[simp] theorem shuttleOff_shuttle (x : Monitor) : x.shuttleOff.shuttle = none := rfl

/-- The port switched, whatever the other fields are. -/
theorem switchPort_ports (port code : Nat) (off : Bool) (x : Monitor) :
    ((x.commanded code).switchPort port off).port0Off = (x.switchPort port off).port0Off ∧
    ((x.commanded code).switchPort port off).port1Off = (x.switchPort port off).port1Off := by
  unfold Monitor.switchPort
  split <;> exact ⟨rfl, rfl⟩

theorem switchPort_credits (port : Nat) (off : Bool) (x : Monitor) : (x.switchPort port off).credits = x.credits := by
  unfold Monitor.switchPort
  split <;> rfl

/-- The over-voltage comparator of channel `ch` is active and latched. -/
def Monitor.overVoltage (ch : Nat) (x : Monitor) : Monitor :=
  { x with alarmLatched := true, ovActive := x.ovActive ||| BitVec.twoPow 32 ch, ovMap := x.ovMap ||| BitVec.twoPow 32 ch }

/-- A shuttle on channel `ch` stops. -/
def Monitor.stopShuttleOn (ch : Nat) (x : Monitor) : Monitor :=
  if x.shuttle.any fun sh => sh.args.channel = ch then x.shuttleOff else x

theorem stopShuttleOn_shuttle (ch : Nat) (x : Monitor) {sh : Shuttle} (h : (x.stopShuttleOn ch).shuttle = some sh) :
    sh.args.channel ≠ ch := by
  unfold Monitor.stopShuttleOn at h
  split at h
  · cases h
  next hother =>
    intro hch
    rw [h] at hother
    simp [hch] at hother

theorem stopShuttleOn_maps (ch : Nat) (x : Monitor) : (x.stopShuttleOn ch).alarmLatched = x.alarmLatched ∧
    (x.stopShuttleOn ch).ovMap = x.ovMap ∧ (x.stopShuttleOn ch).ovActive = x.ovActive := by
  unfold Monitor.stopShuttleOn
  split <;> exact ⟨rfl, rfl, rfl⟩

/-! ## The events, on the state `b` at their instant -/

section
variable {t : Nat} {s b : State} (hb : s.advance t = b) {i m : Nat}
include hb

theorem frameLost_charges {seq : Nat} {o : Outstanding} (ho : matching b i m seq = some o) (hr : ringRuns b i = true)
    (hm : HasMon b i m) (hlate : o.departed + 250 * nsUs ≤ b.clk) : Does (.frameLost t i m seq) s fun u =>
      (u.ringAt i).lost = (b.ringAt i).lost + 1 ∧ (u.monAt i m).credits = min 4 ((b.monAt i m).credits + 1) ∧
        (u.ringAt i).outstanding = (b.ringAt i).outstanding.filter (fun x => x.m ≠ o.m ∨ x.seq ≠ o.seq) := by
  have hlen : i < (creditBack b i o).rings.ring.length := by simpa [creditBack] using hm.1
  have hring : (loseFrame b i o).ringAt i = ((creditBack b i o).ringAt i).lostOne := by
    rw [ringAt_congr (loseFrame_rings b i o), ringAt_modRing_same _ _ hlen]
  have hmon : (loseFrame b i o).monAt i m = (b.monAt i m).credited := by
    rw [State.monAt, hring]
    exact creditBack_monAt hm (matching_frame ho)
  refine ⟨loseFrame b i o, ?_, ?_, ?_, ?_⟩
  · change execFrameLost t i m seq s = _
    unfold execFrameLost
    simp only [hb, ho, hr, hlate]
    rfl
  · rw [hring, creditBack_ringAt o hm.1]; rfl
  · rw [hmon]; rfl
  · rw [hring, creditBack_ringAt o hm.1]; rfl

theorem turnedFrame_resends {seq : Nat} {o : Outstanding} (ho : matching b i m seq = some o) (hr : ringRuns b i = true)
    (hm : HasMon b i m) (hfirst : o.resent = false) : Does (.turnedFrame t i m seq) s fun u =>
      (u.ringAt i).twoEnded = true ∧ (u.ringAt i).outstanding =
        (b.ringAt i).outstanding.filter (fun x => x.m ≠ o.m ∨ x.seq ≠ o.seq) ++
        [{ m := m, seq := ((b.monAt i m).seq + 1) % 256, type := o.type, arg := o.arg, departed := b.clk, resent := true }] := by
  obtain ⟨v, hv⟩ : ∃ v, v = enterTwoEnded (creditBack b i o) i := ⟨_, rfl⟩
  have hmon : v.monAt i m = (b.monAt i m).credited := by
    rw [hv, State.monAt, ringAt_enterTwoEnded_field (·.mon m)]
    exact creditBack_monAt hm (matching_frame ho)
  have hmv : HasMon v i m := hasMon_of_sizes (by simp [hv]) hm
  have hcredit : (v.monAt i m).credits ≠ 0 := by
    rw [hmon]
    simp [Monitor.credited]
  have hclk : v.clk = b.clk := by simp [hv]
  have hout : (v.ringAt i).outstanding = (b.ringAt i).outstanding.filter (fun x => x.m ≠ o.m ∨ x.seq ≠ o.seq) := by
    rw [hv, ringAt_enterTwoEnded_field (·.outstanding), creditBack_ringAt o hm.1]
  refine ⟨sendFrame v i m o.type o.arg true, ?_, ?_, ?_⟩
  · change execTurnedFrame t i m seq s = _
    unfold execTurnedFrame
    simp only [hb, ho, hr, hfirst, hv]
    rfl
  · rw [ringAt_sendFrame_field (·.twoEnded), hv]
    exact enterTwoEnded_twoEnded (by simpa [creditBack] using hm.1)
  · rw [sendFrame_outstanding _ _ _ hmv hcredit, hout, hmon, hclk]
    rfl

theorem data_taken {seq : Nat} {d : RoundData} {o : Outstanding} (hr : ringRuns b i = true) (hmaster : ringMaster b = true)
    (h16 : m < 16) (hm : HasMon b i m) (ho : matching b i m seq = some o) (hread : o.type = 4)
    (htime : b.clk ≤ o.departed + 250 * nsUs) : Does (.data t i m seq 0 d) s fun u =>
      (u.monAt i m).round = some d ∧ (u.monAt i m).prevRead = some d ∧ (u.monAt i m).roundT = b.clk ∧
      (u.monAt i m).synced = d.status.getLsbD 0 ∧ (d.status.getLsbD 1 = false → (u.monAt i m).ovMap = 0 ∧
        (u.monAt i m).uvMap = 0 ∧ (u.monAt i m).alarmLatched = false) ∧
      (u.monAt i m).credits = min 4 ((b.monAt i m).credits + 1) := by
  have hmc : HasMon (creditBack b i o) i m := hasMon_of_sizes (by simp) hm
  refine ⟨takeData (creditBack b i o) i m 0 d, ?_, ?_, ?_, ?_, ?_, fun hinactive => ⟨?_, ?_, ?_⟩, ?_⟩
  · change execData t i m seq 0 d s = _
    unfold execData
    simp only [hb, hr, h16, hmaster, response_onTime ho htime, hread]
    rfl
  · simp [monAt_takeData_field (·.round) 0 d hmc]
  · simp [monAt_takeData_field (·.prevRead) 0 d hmc]
  · simp [monAt_takeData_field (·.roundT) 0 d hmc]
  · simp [monAt_takeData_field (·.synced) 0 d hmc]
  · simp only [monAt_takeData_field (·.ovMap) 0 d hmc, read_fields, hinactive, Bool.false_eq_true, if_false]
  · simp only [monAt_takeData_field (·.uvMap) 0 d hmc, read_fields, hinactive, Bool.false_eq_true, if_false]
  · simp only [monAt_takeData_field (·.alarmLatched) 0 d hmc, read_fields, hinactive]
  · rw [monAt_takeData_field (·.credits) 0 d hmc, creditBack_monAt hm (matching_frame ho)]
    simp [Monitor.credited]

theorem ack_refused {seq code result : Nat} (value : Nat) {o : Outstanding} (hr : ringRuns b i = true)
    (hmaster : ringMaster b = true) (hm : HasMon b i m) (ho : matching b i m seq = some o)
    (htime : b.clk ≤ o.departed + 250 * nsUs) (hres : result ≠ 0) : Does (.ack t i m seq code result value) s fun u =>
      (u.ringAt i).refusedCmds = (b.ringAt i).refusedCmds + 1 ∧
      (u.monAt i m).credits = min 4 ((b.monAt i m).credits + 1) ∧
      (result = 2 → 1 ≤ code → code ≤ 4 → i < b.bal.length → (u.balAt i).ringStopped = true) := by
  obtain ⟨v, hv⟩ : ∃ v, v = (creditBack b i o).modRing i Ring.refusedOne := ⟨_, rfl⟩
  obtain ⟨u, hu⟩ : ∃ u, u = if result = 2 ∧ 1 ≤ code ∧ code ≤ 4 then v.modBal i Bal.stopped else v := ⟨_, rfl⟩
  have hlen : i < (creditBack b i o).rings.ring.length := by simpa [creditBack] using hm.1
  have hring : u.ringAt i = ((creditBack b i o).ringAt i).refusedOne := by
    rw [ringAt_congr (s := v) (by simp [hu]), hv, ringAt_modRing_same _ _ hlen]
  have hmon : u.monAt i m = (b.monAt i m).credited := by
    rw [State.monAt, hring]
    exact creditBack_monAt hm (matching_frame ho)
  refine ⟨u, ?_, ?_, ?_, fun h2 h1 h4 hbal => ?_⟩
  · change execAck t i m seq code result value s = _
    unfold execAck
    simp only [hb, hr, hmaster, response_onTime ho htime, hres, hu, hv, false_and, and_false, if_false]
    rfl
  · rw [hring, creditBack_ringAt o hm.1]; rfl
  · rw [hmon]; rfl
  · rw [hu, if_pos ⟨h2, h1, h4⟩]
    exact congrArg Bal.ringStopped (getD_modify_same _ _ _ _ (by simpa [hv] using hbal))

theorem alarmDetailRead_reads (hr : ringRuns b i = true) (hmaster : ringMaster b = true) (hm : HasMon b i m)
    (halarm : (b.monAt i m).alarmLine = true) (hc : (b.monAt i m).credits ≠ 0) :
    Does (.alarmDetailRead t i m) s fun u => Sent b u i m 4 0 := by
  refine ⟨sendFrame b i m 4 0 false, ?_, sendFrame_sent 4 0 hm hc⟩
  change execAlarmDetailRead t i m s = _
  unfold execAlarmDetailRead
  simp only [hb, hr, hmaster, halarm]
  rfl

theorem balanceRead_reads (hr : ringRuns b i = true) (hmaster : ringMaster b = true) (hm : HasMon b i m)
    (hslow : 500000 < (b.ringAt i).period) (honly : (List.range (b.ringAt i).n).filter (fun k =>
      !((b.ringAt i).mon k).bleed.isEmpty || ((b.ringAt i).mon k).shuttle.isSome) = [m])
    (hc : (b.monAt i m).credits ≠ 0) : Does (.balanceRead t i) s fun u => Sent b u i m 4 2 := by
  refine ⟨sendFrame b i m 4 2 false, ?_, sendFrame_sent 4 2 hm hc⟩
  change execBalanceRead t i s = _
  unfold execBalanceRead
  simp only [hb, hr, hmaster, hslow, honly]
  rfl

theorem comparatorAlarm_latches (ch : Nat) (hs : b.isStr i = true) (hm : HasMon b i m) :
    Does (.hardwareComparatorAlarm t i m .ov ch) s fun u => (u.monAt i m).alarmLatched = true ∧
      (u.monAt i m).ovMap = (b.monAt i m).ovMap ||| BitVec.twoPow 32 ch ∧
      (u.monAt i m).ovActive = (b.monAt i m).ovActive ||| BitVec.twoPow 32 ch ∧
      ∀ sh, (u.monAt i m).shuttle = some sh → sh.args.channel ≠ ch := by
  have hmon : ((b.modMon i m (Monitor.overVoltage ch)).modMon i m (Monitor.stopShuttleOn ch)).monAt i m =
      ((b.monAt i m).overVoltage ch).stopShuttleOn ch := by
    rw [monAt_modMon_same _ _ (hasMon_of_sizes (by simp) hm), monAt_modMon_same b _ hm]
  obtain ⟨hlatched, hmap, hactive⟩ := stopShuttleOn_maps ch ((b.monAt i m).overVoltage ch)
  refine ⟨(b.modMon i m (Monitor.overVoltage ch)).modMon i m (Monitor.stopShuttleOn ch), ?_, ?_, ?_, ?_, ?_⟩
  · change execHardwareComparatorAlarm t i m .ov ch s = _
    unfold execHardwareComparatorAlarm
    simp only [hb, hs, Bool.not_true, Bool.false_eq_true, if_false]
    refine congrArg (fun f => Host.Outcome.next ((b.modMon i m (Monitor.overVoltage ch)).modMon i m f)) (funext fun x => ?_)
    unfold Monitor.stopShuttleOn
    cases x.shuttle <;> simp [Monitor.shuttleOff]
  · rw [hmon]; exact hlatched
  · rw [hmon]; exact hmap
  · rw [hmon]; exact hactive
  · rw [hmon]; exact fun sh => stopShuttleOn_shuttle ch _

theorem bleedSet_bleeds {mask : BitVec 32} {floor duration : Nat} (h : CanCommand b i m)
    (hfresh : (b.monAt i m).fresh2 = true) (hrun : (b.balAt i).ringStopped = false) (hcool : (b.monAt i m).dieLimit = false)
    (hres : bleedResult (b.monAt i m) mask floor duration = 0) : Does (.bleedSet t i m true mask floor duration) s fun u =>
      Sent b u i m 6 1 ∧ (u.monAt i m).ack.map (fun a => (a.1, a.2.1)) = some (1, 0) ∧ (u.monAt i m).fresh2 = false ∧
      (u.monAt i m).bleed = (b.monAt i m).bleed.filter (fun x => !(mapChannels mask).contains x.ch) ++
        (mapChannels mask).map (fun c => { ch := c, floor := floor, endT := b.clk + duration * 100 * nsMs }) := by
  have ⟨_, _, _, _, _, hfollows, _⟩ := h
  obtain ⟨hsent, v, hmon⟩ := ackWith_commanded h 1 0 (f := Monitor.bleedOn b.clk mask floor duration) (if_pos rfl) rfl
  refine ⟨_, ?_, hsent, by simp [hmon], by simp [hmon], by simp [hmon, hcool]⟩
  · change execBleedSet t i m true mask floor duration s = _
    unfold execBleedSet
    simp only [hb, cmdFrame_own h (fun _ => hfresh) (fun _ => hrun), ackResult_own hfollows, hres, commanded_keeps]
    rfl

theorem bleedStop_stops {mask : BitVec 32} (h : CanCommand b i m) (hfresh : (b.monAt i m).fresh2 = true) :
    Does (.bleedStop t i m true mask) s fun u => Sent b u i m 6 2 ∧
      (u.monAt i m).ack.map (fun a => (a.1, a.2.1)) = some (2, 0) ∧
      (u.monAt i m).bleed = (b.monAt i m).bleed.filter (fun x => !mask.getLsbD x.ch) := by
  obtain ⟨hsent, v, hmon⟩ := ackWith_commanded h 2 0 (f := Monitor.bleedOff mask) (if_pos rfl) rfl
  refine ⟨_, ?_, hsent, by simp [hmon], by simp [hmon]⟩
  change execBleedStop t i m true mask s = _
  unfold execBleedStop
  simp only [hb, cmdFrame_own (code := 2) h (fun _ => hfresh) (fun h13 => absurd h13 (by decide)), ackResult_commanded h]
  rfl

theorem shuttleSet_starts {a : ShuttleArgs} (h : CanCommand b i m) (hfresh : (b.monAt i m).fresh2 = true)
    (hrun : (b.balAt i).ringStopped = false) (hres : shuttleResult (b.monAt i m) a = 0) :
    Does (.shuttleSet t i m true a) s fun u => Sent b u i m 6 3 ∧
      (u.monAt i m).ack.map (fun a => (a.1, a.2.1)) = some (3, 0) ∧
      (u.monAt i m).shuttle = some { args := a, startT := b.clk, q0 := 0 } ∧
      (u.monAt i m).cmdCur = (if a.outOfCell then -(a.current : Int) else a.current) := by
  have ⟨_, _, _, _, _, hfollows, _⟩ := h
  obtain ⟨hsent, v, hmon⟩ := ackWith_commanded h 3 0 (f := Monitor.shuttleOn b.clk a) (if_pos rfl) rfl
  refine ⟨_, ?_, hsent, by simp [hmon], by simp [hmon], by simp [hmon]⟩
  change execShuttleSet t i m true a s = _
  unfold execShuttleSet
  simp only [hb, cmdFrame_own h (fun _ => hfresh) (fun _ => hrun), ackResult_own hfollows, hres, commanded_keeps]
  rfl

theorem shuttleSet_refused {a : ShuttleArgs} {sh : Shuttle} (h : CanCommand b i m) (hfresh : (b.monAt i m).fresh2 = true)
    (hrun : (b.balAt i).ringStopped = false) (hsh : (b.monAt i m).shuttle = some sh)
    (hres : shuttleResult (b.monAt i m) a = 4) : Does (.shuttleSet t i m true a) s fun u =>
      (u.monAt i m).ack.map (fun a => (a.1, a.2.1)) = some (3, 4) ∧ (u.monAt i m).shuttle = some sh := by
  have ⟨_, _, _, _, _, hfollows, _⟩ := h
  obtain ⟨-, v, hmon⟩ := ackWith_commanded h 3 4 (f := Monitor.shuttleOn b.clk a) (if_neg (by decide)) rfl
  refine ⟨_, ?_, by rw [hmon]; simp, by rw [hmon]; simpa using hsh⟩
  change execShuttleSet t i m true a s = _
  unfold execShuttleSet
  simp only [hb, cmdFrame_own h (fun _ => hfresh) (fun _ => hrun), ackResult_own hfollows, hres, commanded_keeps]
  rfl

theorem shuttleStop_stops (h : CanCommand b i m) (hfresh : (b.monAt i m).fresh2 = true) :
    Does (.shuttleStop t i m true) s fun u => Sent b u i m 6 4 ∧
      (u.monAt i m).ack.map (fun a => (a.1, a.2.1)) = some (4, 0) ∧ (u.monAt i m).shuttle = none := by
  obtain ⟨hsent, v, hmon⟩ := ackWith_commanded h 4 0 (f := Monitor.shuttleOff) (if_pos rfl) rfl
  refine ⟨_, ?_, hsent, by simp [hmon], by simp [hmon]⟩
  change execShuttleStop t i m true s = _
  unfold execShuttleStop
  simp only [hb, cmdFrame_own (code := 4) h (fun _ => hfresh) (fun h13 => absurd h13 (by decide)), ackResult_commanded h]
  rfl

/-- A monitor refuses a sender it does not follow (R99). -/
theorem shuttleStop_foreign (hs : b.isStr i = true) (h16 : m < 16) (hm : HasMon b i m)
    (hpos : (b.monAt i m).position.isSome = true) (hfollows : (b.monAt i m).followsUs = true) :
    Does (.shuttleStop t i m false) s fun u => (u.monAt i m).ack.map (fun a => (a.1, a.2.1)) = some (4, 2) ∧
      (u.monAt i m).shuttle = (b.monAt i m).shuttle := by
  obtain ⟨v, hmon⟩ := ackWith_monAt 4 2 Monitor.shuttleOff hm
  rw [if_neg (by decide)] at hmon
  refine ⟨_, ?_, by rw [hmon]; simp, by rw [hmon]; simp⟩
  change execShuttleStop t i m false s = _
  unfold execShuttleStop
  simp only [hb, cmdFrame_partner 4 hs h16 hpos, ackResult_partner hfollows]
  rfl

/-- LINK_DISABLE and LINK_ENABLE: the node switches its port. -/
theorem portCmd_switches {port code : Nat} (off : Bool) (h : CanCommand b i m) (hport : port < 2) (hcode : 4 < code) :
    let u := portCmd t i m true port code off s
    Sent b u i m 6 code ∧ (u.monAt i m).ack.map (fun a => (a.1, a.2.1)) = some (code, 0) ∧
      (u.monAt i m).port0Off = ((b.monAt i m).switchPort port off).port0Off ∧
      (u.monAt i m).port1Off = ((b.monAt i m).switchPort port off).port1Off := by
  obtain ⟨hsent, v, hmon⟩ := ackWith_commanded h code 0 (f := Monitor.switchPort port off) (if_pos rfl)
    (by rw [switchPort_credits]; rfl)
  have hu : portCmd t i m true port code off s =
      ackWith (commanded b i m code) i m code 0 (Monitor.switchPort port off) := by
    unfold portCmd
    simp only [hb, cmdFrame_own (code := code) h (fun h4 => absurd h4 (by omega)) (fun h13 => absurd h13 (by omega)),
      ackResult_commanded h, hport]
    rfl
  rw [hu]
  obtain ⟨hport0, hport1⟩ := switchPort_ports port code off (b.monAt i m)
  exact ⟨hsent, by simp [hmon], by simp [hmon, hport0], by simp [hmon, hport1]⟩

theorem bleedEnd_ends (ch vMv : Nat) (hm : HasMon b i m) : Does (.bleedEnd t i m ch vMv) s fun u =>
    (u.monAt i m).bleed = (b.monAt i m).bleed.filter (fun x => ¬ (x.ch = ch ∧ (vMv < x.floor ∨ x.endT ≤ b.clk))) ∧
      u.str = b.str := by
  subst hb
  exact ⟨_, rfl, congrArg Monitor.bleed (monAt_modMon_same (s.advance t) _ hm), rfl⟩

theorem shuttleEnd_ends {sh : Shuttle} (vMv : Nat) (hm : HasMon b i m) (hsh : (b.monAt i m).shuttle = some sh)
    (hdone : sh.startT + sh.args.duration * nsS ≤ b.clk) :
    Does (.shuttleEnd t i m vMv) s fun u => (u.monAt i m).shuttle = none := by
  refine ⟨b.modMon i m Monitor.shuttleOff, ?_, congrArg Monitor.shuttle (monAt_modMon_same b _ hm)⟩
  have hran : sh.args.duration * nsS ≤ b.clk - sh.startT := by omega
  change execShuttleEnd t i m vMv s = _
  unfold execShuttleEnd
  simp only [hb, hsh]
  exact congrArg Host.Outcome.next (if_pos (.inl hran))

end

/-- Settles O13: each clause is the law of its event on the state at the event's instant. -/
theorem framesReadingsAndCommands : Obligations.FramesReadingsAndCommands :=
  ⟨fun _ _ _ _ _ _ ho hr hm hlate => frameLost_charges rfl ho hr hm hlate,
    fun _ _ _ _ _ _ ho hr hm hfirst => turnedFrame_resends rfl ho hr hm hfirst,
    fun _ _ _ _ _ _ _ hr hmaster h16 hm ho hread htime => data_taken rfl hr hmaster h16 hm ho hread htime,
    fun _ _ _ _ _ _ _ _ _ hr hmaster hm ho htime hres => ack_refused rfl _ hr hmaster hm ho htime hres,
    fun _ _ _ _ hr hmaster hm halarm hc => alarmDetailRead_reads rfl hr hmaster hm halarm hc,
    fun _ _ _ _ hr hmaster hm hslow honly hc => balanceRead_reads rfl hr hmaster hm hslow honly hc,
    fun _ _ _ _ _ hs hm => comparatorAlarm_latches rfl _ hs hm,
    fun _ _ _ _ _ _ _ h hfresh hrun hcool hres => bleedSet_bleeds rfl h hfresh hrun hcool hres,
    fun _ _ _ _ _ h hfresh => bleedStop_stops rfl h hfresh,
    fun _ _ _ _ _ h hfresh hrun hsh hch hlo hhi hd hdmax =>
      shuttleSet_starts rfl h hfresh hrun (shuttleResult_starts hsh hch hlo hhi hd hdmax),
    fun _ _ _ _ _ _ h hfresh hrun hsh hne hch hlo hhi hd hdmax =>
      shuttleSet_refused rfl h hfresh hrun hsh (shuttleResult_busy hsh hne hch hlo hhi hd hdmax),
    fun _ _ _ _ h hfresh => shuttleStop_stops rfl h hfresh,
    fun _ _ _ _ hs h16 hm hpos hfollows => shuttleStop_foreign rfl hs h16 hm hpos hfollows,
    fun _ _ _ _ h => ⟨_, rfl, portCmd_switches rfl true h (by decide) (by decide)⟩,
    fun _ _ _ _ h =>
      have ⟨hsent, hack, hport0, hport1⟩ := portCmd_switches rfl false h (by decide) (by decide)
      ⟨_, rfl, hsent, hack, hport1, hport0⟩,
    fun _ _ _ _ _ _ hm => bleedEnd_ends rfl _ _ hm,
    fun _ _ _ _ _ _ hm hsh hdone => shuttleEnd_ends rfl _ hm hsh hdone⟩

end Sys2Proof.Machine
end

section
/-! SUPPORT. The journal in a HOLD-UP entered from DORMANT (02_power_states_clocks.md, *Power states*;
05_cell_estimation.md R149). -/

namespace Sys2Proof.Machine

/-- While the unit sleeps, no trigger writes the journal: the CEE does not run in DORMANT, nor in a HOLD-UP entered from it, in
which no more runs than in DORMANT. -/
theorem journalWrite_asleep {t : Nat} (reason : Nat) {s : State} (h : (s.advance t).asleep = true) :
    exec (.journalWrite t reason) s = .next (s.advance t) := by
  change execJournalWrite t reason s = _
  unfold execJournalWrite
  dsimp only
  rw [if_pos (by simp [h])]

/-- An ACTIVE unit in DORMANT with valid VIN, energy for a guarded write (R40) and the last journal write at instant 0. -/
def poweredDormantUnit : State := dormantUnit.setPwr fun p => { p with vinValid := true }

/-- The instant at which its journal write is due (R149). -/
def journalDue : Nat := 21600 * nsS

/-- The instant, 50 ms before, at which it loses VIN. -/
def vinLost : Nat := journalDue - 50 * nsMs

/-- The state in which the loss of VIN leaves it (`vinLoss_poweredDormantUnit`): HOLD-UP, entered from DORMANT. -/
def dormantHoldupUnit : State :=
  enterHoldup ((poweredDormantUnit.advance vinLost).setPwr fun p => { p with vin := 0, vinValid := false, chargerOn := false })

/-- The model's own VIN loss takes the unit from DORMANT to the counterexample's state. -/
theorem vinLoss_poweredDormantUnit : exec (.vinLoss vinLost 0) poweredDormantUnit = .next dormantHoldupUnit :=
  exec_vinLoss rfl (by decide +kernel) (by decide) (by decide +kernel) (by decide +kernel) (by decide +kernel)

/-- Refutes O14: its clause on the 6-hourly journal write excludes DORMANT, but not a HOLD-UP entered from it. A unit that
loses VIN in DORMANT 50 ms before the write is due meets the clause's conditions and starts none. -/
theorem not_estimator : ¬ Obligations.Estimator := by
  unfold Obligations.Estimator
  rintro ⟨-, -, -, -, -, -, -, -, -, -, -, startsWrite, -⟩
  obtain ⟨u, hu, hwriting, -⟩ := startsWrite journalDue dormantHoldupUnit (by decide +kernel) (by decide +kernel)
    (by decide +kernel) (by decide +kernel) (by decide +kernel) (by decide +kernel)
  cases hu.symm.trans (journalWrite_asleep 0 (by decide +kernel))
  have hidle : (dormantHoldupUnit.advance journalDue).cee.journal.writing = none := by decide +kernel
  exact absurd (hidle.symm.trans hwriting) nofun

end Sys2Proof.Machine
end

section
/-! SUPPORT. The antiphase pairs: their envelopes under the operations of the tone probe (06_impedance_thermal.md R158 to R163). -/

namespace Sys2Proof.Machine

-- One proof at a time: together their threads exceed the memory of the check.
set_option Elab.async false

theorem pairAt_modPair_same (s : State) {k : Nat} (f : Pair → Pair) (h : k < s.tpe.pairs.length) :
    (modPair s k f).pairAt k = f (s.pairAt k) := getD_modify_same _ _ _ _ h

theorem pairAt_modPair_ne (s : State) {j k : Nat} (f : Pair → Pair) (h : k ≠ j) :
    (modPair s j f).pairAt k = s.pairAt k := getD_modify_ne _ _ _ h

@[simp] theorem modPair_pairs_length (s : State) (k : Nat) (f : Pair → Pair) :
    (modPair s k f).tpe.pairs.length = s.tpe.pairs.length := List.length_modify ..

/-- A pair that the state does not list carries no tones. -/
theorem lt_of_injecting {s : State} {k : Nat} (h : injecting (s.pairAt k) = true) : k < s.tpe.pairs.length := by
  by_contra hk
  have hdefault : s.pairAt k = {} := getD_of_length_le ({} : Pair) (Nat.le_of_not_lt hk)
  exact absurd (hdefault ▸ h) (by decide)

theorem stopPair_pairAt {s : State} {k : Nat} (h : injecting (s.pairAt k) = true) :
    (stopPair s k).pairAt k = { s.pairAt k with env := .falling s.clk, aborted := true } := by
  rw [stopPair, if_pos h]
  exact pairAt_modPair_same s _ (lt_of_injecting h)

theorem stopPair_stops (s : State) (k : Nat) : injecting ((stopPair s k).pairAt k) = false := by
  by_cases h : injecting (s.pairAt k) = true
  · rw [stopPair_pairAt h]
    rfl
  · simp [stopPair, h]

/-- Stopping one pair starts no other. -/
theorem stopPair_keeps_stopped {s : State} {k : Nat} (j : Nat) (h : injecting (s.pairAt k) = false) :
    injecting ((stopPair s j).pairAt k) = false := by
  by_cases hk : k = j
  · exact hk ▸ stopPair_stops s k
  · unfold stopPair
    split
    · rw [pairAt_modPair_ne s _ hk, h]
    · exact h

/-- What keeps a pair from injecting is no matter of the other pairs. -/
theorem pairStatus_modPair_ne (s : State) (p : Bytes) {j k : Nat} (f : Pair → Pair) (h : k ≠ j) :
    pairStatus (modPair s j f) p k = pairStatus s p k := by
  unfold pairStatus
  rw [pairAt_modPair_ne s f h]
  rfl

@[simp] theorem pairStatus_env (s : State) (p : Bytes) (k : Nat) : (pairStatus s p k).env = (s.pairAt k).env := rfl

end Sys2Proof.Machine
end

section
/-! SUPPORT. The plan that takes effect, and TPE_SET_PLAN (06_impedance_thermal.md R155, R163). -/

namespace Sys2Proof.Machine

-- One proof at a time: together their threads exceed the memory of the check.
set_option Elab.async false

/-- What a commit leaves: all but the host interface, interrupt sources and what the pair exchanges. -/
theorem commit_sameBut (v : State) (op : Nat) (q : Req) (ty : Nat) (p : Bytes) : SameBut (commit v op q ty p) v := by
  unfold commit
  split
  · rfl
  · exact (finish1_hostOnly v op q stOk 0 p).trans (by simp [ok])

/-- The instant at which pending plan `p` takes effect (R163). -/
def planDue (s : State) (p : Bytes) : Nat :=
  match s.tpe.plan with
  | none => planEpoch p
  | some o => if planTones p = 0 then windowAtOrAfter o (s.tpe.windowT + 1) else windowAtOrAfter o (planEpoch p)

/-- Pair `k` goes on into plan `p` after plan `old`: both have its strings and the same tones. -/
def goesOn (p : Bytes) (old : Option Bytes) (s : State) (k : Nat) : Bool :=
  !(planTones p == 0) && pairHas p s k && match old with | none => true | some o => sameTones o p

/-- The pairs as plan `p` finds them: those that do not go on into it are stopped. -/
def stopLeft (s : State) (p : Bytes) : State :=
  (List.range (pairCount s)).foldl (fun u k => if goesOn p s.tpe.plan u k then u else stopPair u k) s

/-- Plan `p` in force, or none where it has no tones. -/
def planInForce (s : State) (p : Bytes) : State :=
  State.setTpe
    (if planTones p == 0 then stopLeft s p else progTrigger (stopLeft s p) 2 (planEpoch p) (planWindow p))
    fun x => { x with plan := if planTones p == 0 then none else some p, pending := none, windowIdx := 0
                      windowT := if planTones p == 0 then x.windowT else planEpoch p }

theorem stopLeft_str (s : State) (p : Bytes) : (stopLeft s p).str = s.str :=
  foldl_str _ (fun u k => by split <;> simp) _ _

theorem stopLeft_tsu (s : State) (p : Bytes) : (stopLeft s p).tsu = s.tsu :=
  foldl_tsu _ (fun u k => by split <;> simp) _ _

/-- No pair goes on into a plan without tones. -/
theorem stopLeft_stops {s : State} {p : Bytes} (hp : planTones p = 0) {k : Nat} (hk : k < pairCount s) :
    injecting ((stopLeft s p).pairAt k) = false := by
  have hnone (u : State) (j : Nat) : goesOn p s.tpe.plan u j = false := by simp [goesOn, hp]
  unfold stopLeft
  simp only [hnone, Bool.false_eq_true, if_false]
  exact foldl_establishes (P := fun u : State => injecting (u.pairAt k) = false) (Q := fun _ => True)
    (fun _ _ _ => trivial) (fun u _ => stopPair_stops u k) (fun _ j _ h => stopPair_keeps_stopped j h) _
    (List.mem_range.mpr hk) s trivial

/-- The trigger that SUP programs fires first at `at_`, then every `period`. -/
theorem progTrigger_trig (s : State) {n : Nat} (at_ period : Nat) (h : n < s.tsu.trig.length) :
    ((progTrigger s n at_ period).tsu.trig.getD n {}).at_ = at_ ∧
      ((progTrigger s n at_ period).tsu.trig.getD n {}).period = period ∧
      ((progTrigger s n at_ period).tsu.trig.getD n {}).arm = true := by
  have htrig : (progTrigger s n at_ period).tsu.trig.getD n {} = _ := getD_modify_same s.tsu.trig n _ {} h
  rw [htrig]
  exact ⟨rfl, rfl, rfl⟩

theorem tpeSetPlan_pends {s : State} {q : Req} (h : Taken s q) (hc : Commands s) (hl : q.payload.length = 88)
    (hpop : planTones q.payload = 0 ∨ getU q.payload 4 1 < 2 ^ s.strings) (hbad : planBad s q.payload = none) :
    Does (.tpeSetPlan q) s fun u => Done1 s u q 0x0501 3 [] ∧
      SameBut u ((touch s).setTpe fun x => { x with pending := some q.payload }) := by
  have ⟨_, _, henv⟩ := h
  have hack : ackNeeded ((touch s).setTpe fun x => { x with pending := some q.payload }) = ackNeeded s :=
    ackNeeded_congr rfl rfl
  refine ⟨_, ?_, commit_done1 hack 0x0501 q peerConfig [], commit_sameBut ..⟩
  change execTpeSetPlan q s = _
  unfold execTpeSetPlan
  rw [command_run _ _ q s h]
  · rfl
  · exact rejection_of_commands (if_pos hl) hc henv (by simp [must, hpop]) rfl hbad rfl rfl rfl rfl

section
variable {t : Nat} {s b : State} (hb : s.advance t = b)
include hb

theorem exec_planEffect {p : Bytes} (hp : b.tpe.pending = some p) (hdue : planDue b p ≤ b.tsu.now) :
    exec (.planEffect t) s = .next (planInForce b p) := by
  change execPlanEffect t s = _
  unfold execPlanEffect
  simp only [hb, hp]
  exact congrArg Host.Outcome.next (if_neg (Nat.not_lt.mpr hdue))

theorem planEffect_first {p : Bytes} (hp : b.tpe.pending = some p) (hplan : b.tpe.plan = none) (htones : planTones p ≠ 0)
    (hdue : planEpoch p ≤ b.tsu.now) (htrig : 2 < b.tsu.trig.length) : Does (.planEffect t) s fun u =>
      u.tpe.plan = some p ∧ u.tpe.pending = none ∧ u.tpe.windowT = planEpoch p ∧
      ((u.tsu.trig.getD 2 {}).at_ = planEpoch p ∧ (u.tsu.trig.getD 2 {}).period = planWindow p ∧
        (u.tsu.trig.getD 2 {}).arm = true) ∧ u.str = b.str := by
  refine ⟨planInForce b p, exec_planEffect hb hp ?_, ?_⟩
  · rwa [planDue, hplan]
  · simp only [planInForce, beq_iff_eq, htones, if_false]
    exact ⟨rfl, rfl, rfl, progTrigger_trig _ _ _ (by rwa [stopLeft_tsu]), stopLeft_str b p⟩

theorem planEffect_none {p o : Bytes} (hp : b.tpe.pending = some p) (hplan : b.tpe.plan = some o) (htones : planTones p = 0)
    (hdue : windowAtOrAfter o (b.tpe.windowT + 1) ≤ b.tsu.now) : Does (.planEffect t) s fun u =>
      u.tpe.plan = none ∧ u.tpe.pending = none ∧ ∀ k, k < pairCount b → injecting (u.pairAt k) = false := by
  refine ⟨planInForce b p, exec_planEffect hb hp ?_, ?_⟩
  · simpa only [planDue, hplan, htones, if_true] using hdue
  · simp only [planInForce, htones, beq_self_eq_true, if_true]
    exact ⟨rfl, rfl, fun k hk => stopLeft_stops htones hk⟩

end

end Sys2Proof.Machine
end
section
/-! SUPPORT. Injection and windows (06_impedance_thermal.md R159 to R164). -/

namespace Sys2Proof.Machine

-- One proof at a time: together their threads exceed the memory of the check.
set_option Elab.async false

/-- A window of plan `p` starts for pair `k`. -/
def startPair (p : Bytes) (s : State) (k : Nat) : State :=
  let x := s.pairAt k
  let y := pairStatus s p k
  let ended : Bool := match x.env with | .falling t => decide (t + 100 * nsMs ≤ s.clk) | _ => false
  modPair s k fun _ =>
    if injecting x then { y with env := if y.blocked || !tpeRuns s then .off else .on, aborted := false }
    else { y with env := if ended then .off else x.env, aborted := false }

/-- The state after window `j` of plan `p` has started. -/
def windowStarted (s : State) (p : Bytes) (j : Nat) : State :=
  let u := (List.range (pairCount s)).foldl (startPair p) s
  State.setTpe { u with hviStr := u.hviStr.map fun (h : HviStr) => { h with winSum := 0, winN := 0 } } fun x =>
    { x with windowIdx := j, windowT := planEpoch p + j * max 1 (planWindow p)
             startAt := match x.startAt with | some a => if a ≤ u.tsu.now then none else some a | none => none }

theorem windowStarted_pairAt (s : State) (p : Bytes) (j k : Nat) :
    (windowStarted s p j).pairAt k = ((List.range (pairCount s)).foldl (startPair p) s).pairAt k := rfl

theorem startPair_carries {p : Bytes} {s : State} {k : Nat} (hinj : injecting (s.pairAt k) = true) (hrun : tpeRuns s = true)
    (hfree : (pairStatus s p k).blocked = false) :
    ((startPair p s k).pairAt k).env = .on ∧ ((startPair p s k).pairAt k).aborted = false := by
  have hpair : (startPair p s k).pairAt k = { pairStatus s p k with env := .on, aborted := false } := by
    unfold startPair
    rw [pairAt_modPair_same s _ (lt_of_injecting hinj)]
    simp [hinj, hrun, hfree]
  rw [hpair]
  exact ⟨rfl, rfl⟩

theorem startPair_pairAt_ne (p : Bytes) (s : State) {j k : Nat} (h : k ≠ j) : (startPair p s j).pairAt k = s.pairAt k :=
  pairAt_modPair_ne s _ h

theorem startPair_pairStatus_ne (p : Bytes) (s : State) {j k : Nat} (h : k ≠ j) :
    pairStatus (startPair p s j) p k = pairStatus s p k := pairStatus_modPair_ne s p _ h

theorem startPair_tpeRuns (p : Bytes) (s : State) (k : Nat) : tpeRuns (startPair p s k) = tpeRuns s := rfl

/-- A window start at every pair gives a pair that injects and that nothing blocks the full envelope. -/
theorem startPairs_carry {p : Bytes} {s : State} {k n : Nat} (hk : k < n) (hinj : injecting (s.pairAt k) = true)
    (hrun : tpeRuns s = true) (hfree : (pairStatus s p k).blocked = false) :
    (((List.range n).foldl (startPair p) s).pairAt k).env = .on ∧
      (((List.range n).foldl (startPair p) s).pairAt k).aborted = false := by
  refine foldl_once (p := fun u : State => (u.pairAt k, pairStatus u p k, tpeRuns u))
    (P := fun v => v.1.env = .on ∧ v.1.aborted = false) (i := k) (fun u j hj => ?_) (fun u hu => ?_) List.nodup_range
    (List.mem_range.mpr hk) (a := s) rfl
  · simp only [startPair_tpeRuns, startPair_pairAt_ne p u hj.symm, startPair_pairStatus_ne p u hj.symm]
  · obtain ⟨hpair, hstatus, hruns⟩ : _ ∧ _ ∧ _ := by simpa only [Prod.mk.injEq] using hu
    exact startPair_carries (hpair ▸ hinj) (hruns.trans hrun) (hstatus ▸ hfree)

section
variable {t : Nat} {s b : State} (hb : s.advance t = b)
include hb

section
variable {k : Nat} {p : Bytes} (hp : b.tpe.plan = some p) (hrun : tpeRuns b = true) (hk : k < pairCount b)
  (hhas : pairHas p b k = true) (hinj : injecting (b.pairAt k) = false)
  (hwin : windowAtOrAfter p b.tsu.now ≤ b.tsu.now + 100 * nsMs) (hstart : b.tpe.startAt = none)
include hp hrun hk hhas hinj hwin hstart

theorem exec_injectionStart : exec (.injectionStart t k) s = .next (modPair b k fun _ =>
    if (pairStatus b p k).blocked then pairStatus b p k
    else { pairStatus b p k with env := .rising b.clk, aborted := false }) := by
  change execInjectionStart t k s = _
  unfold execInjectionStart
  simp only [hb, hp]
  refine congrArg Host.Outcome.next (if_neg ?_)
  simp [hrun, hk, hhas, hinj, hwin, hstart]

theorem injectionStart_rises (hl : k < b.tpe.pairs.length) (hfree : (pairStatus b p k).blocked = false) :
    Does (.injectionStart t k) s fun u => (u.pairAt k).env = .rising b.clk ∧ (u.pairAt k).aborted = false ∧
      (u.pairAt k).scaleLo = (pairStatus b p k).scaleLo ∧ (u.pairAt k).scaleHi = (pairStatus b p k).scaleHi ∧
      u.str = b.str := by
  refine ⟨_, exec_injectionStart hb hp hrun hk hhas hinj hwin hstart, ?_⟩
  dsimp only
  rw [pairAt_modPair_same b _ hl, if_neg (by simp [hfree])]
  exact ⟨rfl, rfl, rfl, rfl, rfl⟩

theorem injectionStart_blocked (hl : k < b.tpe.pairs.length) (hblocked : (pairStatus b p k).blocked = true) :
    Does (.injectionStart t k) s fun u => injecting (u.pairAt k) = false ∧ u.pairAt k = pairStatus b p k := by
  refine ⟨_, exec_injectionStart hb hp hrun hk hhas hinj hwin hstart, ?_⟩
  dsimp only
  rw [pairAt_modPair_same b _ hl, if_pos hblocked]
  exact ⟨hinj, rfl⟩

end

theorem injectionStop_falls {k : Nat} (hk : k < pairCount b) (hstop : mustStop b k = true)
    (hinj : injecting (b.pairAt k) = true) : Does (.injectionStop t k) s fun u =>
      (u.pairAt k).env = .falling b.clk ∧ (u.pairAt k).aborted = true ∧ u.str = b.str := by
  refine ⟨stopPair b k, ?_, ?_⟩
  · change execInjectionStop t k s = _
    unfold execInjectionStop
    simp only [hb, hk, hstop]
    rfl
  · dsimp only
    rw [stopPair_pairAt hinj]
    exact ⟨rfl, rfl, by simp⟩

theorem exec_windowStart {p : Bytes} (hp : b.tpe.plan = some p) (hepoch : planEpoch p ≤ b.tsu.now)
    (htime : timeRuns b = true) :
    exec (.windowStart t) s = .next (windowStarted b p ((b.tsu.now - planEpoch p) / max 1 (planWindow p))) := by
  change execWindowStart t s = _
  unfold execWindowStart
  simp only [hb, hp]
  rw [if_neg (by simp [hepoch, htime])]
  rfl

theorem windowStart_carries {p : Bytes} {k : Nat} (hp : b.tpe.plan = some p) (hepoch : planEpoch p ≤ b.tsu.now)
    (htime : timeRuns b = true) (hk : k < pairCount b) (hinj : injecting (b.pairAt k) = true) (hrun : tpeRuns b = true)
    (hfree : (pairStatus b p k).blocked = false) : Does (.windowStart t) s fun u =>
      (u.pairAt k).env = .on ∧ (u.pairAt k).aborted = false ∧
      u.tpe.windowIdx = (b.tsu.now - planEpoch p) / max 1 (planWindow p) ∧
      u.tpe.windowT = planEpoch p + u.tpe.windowIdx * max 1 (planWindow p) := by
  obtain ⟨hon, hab⟩ := startPairs_carry hk hinj hrun hfree
  refine ⟨_, exec_windowStart hb hp hepoch htime, ?_, ?_, rfl, rfl⟩
  · rw [windowStarted_pairAt]
    exact hon
  · rw [windowStarted_pairAt]
    exact hab

end

end Sys2Proof.Machine
end

section
/-! SUPPORT. TONE frames (06_impedance_thermal.md R165), and the statement the tone probe's laws settle. -/

namespace Sys2Proof.Machine

-- One proof at a time: together their threads exceed the memory of the check.
set_option Elab.async false

/-- A TONE frame reaches the monitors that follow this unit. -/
theorem toneMonitors_monAt {s : State} {i m : Nat} (f : Monitor → Monitor) (hm : HasMon s i m)
    (hf : (s.monAt i m).followsUs = true) : (toneMonitors s i f).monAt i m = f (s.monAt i m) := by
  obtain ⟨hi, hm⟩ := hm
  have hmon : (toneMonitors s i f).monAt i m = if (s.monAt i m).followsUs then f (s.monAt i m) else s.monAt i m := by
    unfold State.monAt toneMonitors
    rw [ringAt_modRing_same s _ hi]
    exact getD_map_of_lt (s.ringAt i).mons _ ({} : Monitor) ({} : Monitor) hm
  rw [hmon, if_pos hf]

section
variable {t : Nat} {s b : State} (hb : s.advance t = b) {i : Nat}
include hb

theorem tonePlan_reaches {p : Bytes} (hr : ringRuns b i = true) (hrun : tpeRuns b = true) (hp : b.tpe.plan = some p)
    (hhas : planHas p i = true) (hi : i < b.rings.ring.length) : Does (.tonePlan t i) s fun u =>
      ∀ m, m < (b.ringAt i).mons.length → (b.monAt i m).followsUs = true → (u.monAt i m).plan = true := by
  refine ⟨toneMonitors b i fun m => { m with plan := true }, ?_, fun m hm hf => ?_⟩
  · change execTonePlan t i s = _
    unfold execTonePlan
    simp only [hb, hp, hr, hrun, hhas]
    rfl
  · rw [toneMonitors_monAt _ ⟨hi, hm⟩ hf]

theorem phasor_reaches {m : Nat} (hs : b.isStr i = true) (hcol : b.tpe.collecting = true) (hplan : (b.monAt i m).plan = true)
    (hmon : HasMon b i m) (hf : (b.monAt i m).followsUs = b.unit.commands) : Does (.phasor t i m) s fun u =>
      (u.monAt i m).phasorWindow = some b.tpe.res.idx := by
  refine ⟨b.modMon i m fun x => { x with phasorWindow := some b.tpe.res.idx }, ?_, ?_⟩
  · change execPhasor t i m s = _
    unfold execPhasor
    simp only [hb, hs, hcol, hplan, hf, beq_self_eq_true]
    rfl
  · dsimp only
    rw [monAt_modMon_same b _ hmon]

theorem toneHalt_reaches (hr : ringRuns b i = true) (hc : Commands b) (hab : (b.pairAt (pairOf b i)).aborted = true)
    (hi : i < b.rings.ring.length) : Does (.toneHalt t i) s fun u =>
      ∀ m, m < (b.ringAt i).mons.length → (b.monAt i m).followsUs = true → (u.monAt i m).phasorWindow = none := by
  have hcmd : b.unit.commands = true := by rcases hc with h | h <;> rw [h] <;> rfl
  refine ⟨toneMonitors b i fun m => { m with phasorWindow := none }, ?_, fun m hm hf => ?_⟩
  · change execToneHalt t i s = _
    unfold execToneHalt
    simp only [hb, hr, hcmd, hab]
    rfl
  · rw [toneMonitors_monAt _ ⟨hi, hm⟩ hf]

end

/-- Settles O16: each clause is the law of its command, or of its event on the state at the event's instant. -/
theorem tonePlans : Obligations.TonePlans :=
  ⟨fun _ _ h hc hl hpop hbad => tpeSetPlan_pends h hc hl hpop hbad,
    fun _ _ _ hp hplan htones hdue htrig => planEffect_first rfl hp hplan htones hdue htrig,
    fun _ _ _ _ hp hplan htones hdue => planEffect_none rfl hp hplan htones hdue,
    fun _ _ _ _ hp hrun hk hl hhas hinj hwin hstart hfree =>
      injectionStart_rises rfl hp hrun hk hhas hinj hwin hstart hl hfree,
    fun _ _ _ _ hp hrun hk hl hhas hinj hwin hstart hblocked =>
      injectionStart_blocked rfl hp hrun hk hhas hinj hwin hstart hl hblocked,
    fun _ _ _ hk _ hstop hinj => injectionStop_falls rfl hk hstop hinj,
    fun _ _ _ _ hp hepoch htime hk _ hinj hrun hfree => windowStart_carries rfl hp hepoch htime hk hinj hrun hfree,
    fun _ _ _ _ hr hrun hp hhas hi => tonePlan_reaches rfl hr hrun hp hhas hi,
    fun _ _ _ _ hs hcol hplan hmon hf => phasor_reaches rfl hs hcol hplan hmon hf,
    fun _ _ _ hr hc hab hi => toneHalt_reaches rfl hr hc hab hi⟩

end Sys2Proof.Machine
end

section
/-! SUPPORT. A thermal input in a HOLD-UP entered from DORMANT (02_power_states_clocks.md, *Power states*; 06_impedance_thermal.md
R177). -/

namespace Sys2Proof.Machine

/-- While the unit sleeps, no input is sampled: R177 counts its 100 ms on TIME, which does not tick in DORMANT, nor in a HOLD-UP
entered from it. -/
theorem tiSample_asleep {t : Nat} (n : Nat) (r : TiReading) {s : State} (h : (s.advance t).asleep = true) :
    exec (.tiSample t n r) s = .next (s.advance t) := by
  change execTiSample t n r s = _
  unfold execTiSample
  dsimp only
  rw [if_pos (.inr (.inr (.inr h)))]

/-- Input 0 as a remote diode of class 6, the rest at its defaults. -/
def diodeConfig : Bytes := putAt (defaults tiFields) 1 [1]

/-- The unit in DORMANT with valid VIN, its input 0 configured. -/
def dormantDiodeUnit : State := poweredDormantUnit.modTi 0 fun x => { x with cfg := diodeConfig }

/-- The state in which a loss of VIN at instant 0 leaves it (`vinLoss_dormantDiodeUnit`). -/
def holdupDiodeUnit : State :=
  enterHoldup ((dormantDiodeUnit.advance 0).setPwr fun p => { p with vin := 0, vinValid := false, chargerOn := false })

/-- The model's own VIN loss takes the unit from DORMANT to the counterexample's state. -/
theorem vinLoss_dormantDiodeUnit : exec (.vinLoss 0 0) dormantDiodeUnit = .next holdupDiodeUnit :=
  exec_vinLoss rfl (by decide +kernel) (by decide) (by decide +kernel) (by decide +kernel) (by decide +kernel)

/-- 25 °C, with neither the open nor the short condition. -/
def plausibleReading : TiReading := { temp := 2500, openLead := false, short := false, refOk := true }

/-- Refutes O15: its clauses on samples exclude DORMANT, but not a HOLD-UP entered from it. A unit that has lost VIN in DORMANT meets
the conditions of the first, and its input keeps the value 0 where the clause has 25 °C. -/
theorem not_thermalInputs : ¬ Obligations.ThermalInputs := by
  unfold Obligations.ThermalInputs
  rintro ⟨publishes, -⟩
  obtain ⟨u, hu, hvalue, -⟩ := publishes (50 * nsMs) holdupDiodeUnit 0 plausibleReading 2500 (by decide) (by decide +kernel)
    (by decide +kernel) (by decide +kernel) (by decide +kernel) rfl (by decide +kernel) (by decide +kernel) rfl rfl
    (by decide +kernel) (by decide +kernel) (by decide +kernel)
  cases hu.symm.trans (tiSample_asleep 0 plausibleReading (by decide +kernel))
  have hkept : ((holdupDiodeUnit.advance (50 * nsMs)).tiAt 0).value = 0 := by decide +kernel
  exact absurd (hkept.symm.trans hvalue) (by decide)

end Sys2Proof.Machine
end

section
/-! SUPPORT. A block of a monitor that its ring no longer declares (00_scope.md R13; 04_fenline_rings.md R93;
06_impedance_thermal.md R170). -/

namespace Sys2Proof.Machine

/-- A block of cells none of which is present publishes nothing. -/
theorem publishBlock_absent {s : State} {i m blk : Nat} (x : ImpBlock)
    (h : ∀ c ∈ List.range 8, (presentCells s i).contains (512 * i + 32 * m + 8 * blk + c) = false) :
    publishBlock s ((i, m, blk), x) = s := by
  unfold publishBlock
  dsimp only
  refine List.foldlRecOn (motive := fun u => u = s) _ _ rfl fun u hu c hc => ?_
  subst hu
  rw [h c hc]
  rfl

/-- Publishing one block of cells none of which is present leaves the impedance table as it is. -/
theorem impedancePublish_absent {t : Nat} {s b : State} (hb : s.advance t = b) {i m blk : Nat} {x : ImpBlock}
    (hcol : b.tpe.collecting = true) (hblocks : b.tpe.blocks = [((i, m, blk), x)])
    (h : ∀ c ∈ List.range 8, (presentCells b i).contains (512 * i + 32 * m + 8 * blk + c) = false) :
    Does (.impedancePublish t) s fun u => u.tpe.imp = b.tpe.imp := by
  obtain ⟨w, hw⟩ : ∃ w, w = b.setTpe fun y => { y with blocks := [], done := y.done ++ [(i, m, blk)] } := ⟨_, rfl⟩
  have htpe : (icuShared (syncWarnings w) 84).tpe = w.tpe := by simp
  refine ⟨icuShared (syncWarnings w) 84, ?_, ?_⟩
  · change execImpedancePublish t s = _
    unfold execImpedancePublish
    dsimp only
    rw [hb, hcol, hblocks, if_neg (by simp), List.reverse_singleton, List.foldl_cons, List.foldl_nil, publishBlock_absent x h,
      hw]
    rfl
  · dsimp only
    rw [htpe, hw]
    rfl

/-- An ACTIVE unit that collects the results of a window, its ring 0 declared with 3 monitors. -/
def collectingUnit : State :=
  { State.reset with
    unit := .active
    pwr := { State.reset.pwr with state := .active }
    hpr := { State.reset.hpr with ready := true }
    rings := { State.reset.rings with
      ring := State.reset.rings.ring.modify 0 fun (r : Ring) => { r with declared := true, n := 3 } }
    tpe := { State.reset.tpe with collecting := true, res := { plan := [1] } } }

/-- Block 0 of monitor 2, with its PHASOR. -/
def lateBlock : ImpBlock := { window := 0, planId := 1, zScale := 0, status := 1, entries := [] }

def blockReadUnit : State := (collectingUnit.advance (50 * nsMs)).setTpe fun x => { x with blocks := [((0, 2, 0), lateBlock)] }

/-- The model reads the block, since its monitor is declared. -/
theorem impedanceRead_collectingUnit :
    exec (.impedanceRead (50 * nsMs) 0 2 0 lateBlock) collectingUnit = .next blockReadUnit := by
  change execImpedanceRead (50 * nsMs) 0 2 0 lateBlock collectingUnit = _
  unfold execImpedanceRead
  dsimp only
  rw [if_neg (by decide +kernel), if_neg (by decide +kernel)]
  rfl

/-- STR_SET_RING of ring 0 with 2 monitors, and rounds at 100 Hz. -/
def smallerRing : Req :=
  { port := .host, slot := none, seq := 1, retry := false, noIrq := false
    payload := [0, 0, 2, 0, 100, 10, 0, 0] ++ List.replicate 16 0 }

def smallerRingUnit : State := startEnum (storeRing (touch blockReadUnit) smallerRing.payload) 0x020F smallerRing 0 false

/-- The model declares the ring anew, without the monitor, before the block is published. -/
theorem strSetRing_blockReadUnit : exec (.strSetRing smallerRing) blockReadUnit = .next smallerRingUnit := by
  change execStrSetRing smallerRing blockReadUnit = _
  unfold execStrSetRing
  rw [command_run _ _ smallerRing blockReadUnit (by decide +kernel)]
  · rfl
  · exact rejection_of_commands (by decide +kernel) (.inl (by decide +kernel)) rfl (by decide +kernel) (by decide +kernel)
      (by decide +kernel) rfl rfl rfl rfl

/-- Refutes O17: its clause on publishing has every cell of a block that was read written, also where STR_SET_RING has declared
the ring without the block's monitor since: its cells are present no longer, and their entries stay as they were. -/
theorem not_impedanceResults : ¬ Obligations.ImpedanceResults := by
  unfold Obligations.ImpedanceResults
  rintro ⟨-, -, -, publishes, -⟩
  have hcol : (smallerRingUnit.advance (60 * nsMs)).tpe.collecting = true := by decide +kernel
  have hblocks : (smallerRingUnit.advance (60 * nsMs)).tpe.blocks = [((0, 2, 0), lateBlock)] := by decide +kernel
  obtain ⟨u, hu, -, -, hwritten⟩ := publishes (60 * nsMs) smallerRingUnit 0 2 0 lateBlock hcol hblocks
  obtain ⟨v, hv, hkept⟩ := impedancePublish_absent rfl hcol hblocks (by decide +kernel)
  cases hu.symm.trans hv
  obtain ⟨hgen, -⟩ := hwritten 0 (by decide)
  rw [hkept] at hgen
  omega

end Sys2Proof.Machine
end

section
/-! SUPPORT. By how much each ledger misses the first identity of 07_balancing_dispatch.md R200, and what each operation of the
model that writes the balancing part does to that: nothing. The other operations keep the part (`_keeps`). -/

namespace Sys2Proof.Machine

/-- By how much a ledger misses the first identity of R200. -/
def Ledger.imbalance (l : Ledger) : Int := (l.drawn : Int) - l.returned - ((l.intoCells : Int) - l.outOfCells + l.loss)

/-- The imbalances of the strings' ledgers. -/
def imbalances (l : List Bal) : List Int := l.map fun b => b.ledger.imbalance

theorem Ledger.balanced_iff (l : Ledger) : l.balanced = true ↔ l.imbalance = 0 := by
  simp only [Ledger.balanced, Ledger.imbalance, decide_eq_true_eq]
  omega

/-- The books of a state balance where no ledger misses the identity. -/
def AllZero (l : List Int) : Prop := ∀ x ∈ l, x = 0

theorem booksBalance_iff (s : State) : BooksBalance s ↔ AllZero (imbalances s.bal) := by
  have hd : (({} : Bal).ledger).balanced = true := by decide
  constructor
  · intro h x hx
    obtain ⟨b, hb, rfl⟩ := List.mem_map.mp hx
    obtain ⟨i, hi, rfl⟩ := List.getElem_of_mem hb
    have := (Ledger.balanced_iff _).mp (h i)
    simpa [State.balAt, hi] using this
  · intro h i
    rw [State.balAt, List.getD_eq_getElem?_getD]
    cases hb : s.bal[i]? with
    | none => exact hd
    | some b => exact (Ledger.balanced_iff _).mpr (h _ (List.mem_map.mpr ⟨b, List.mem_of_getElem? hb, rfl⟩))

@[simp] theorem imbalances_ite (c : Prop) [Decidable c] (a b : List Bal) :
    imbalances (if c then a else b) = if c then imbalances a else imbalances b := by split <;> rfl

@[simp] theorem foldl_imbalances {β : Type} (f : State → β → State)
    (h : ∀ s b, imbalances (f s b).bal = imbalances s.bal) (l : List β) (s : State) :
    imbalances (l.foldl f s).bal = imbalances s.bal := foldl_proj (fun s => imbalances s.bal) f h l s

@[simp] theorem State.modBal_imbalances (s : State) (i : Nat) (f : Bal → Bal)
    (h : ∀ b, (f b).ledger.imbalance = b.ledger.imbalance) : imbalances (s.modBal i f).bal = imbalances s.bal :=
  map_modify_of_eq (fun b : Bal => b.ledger.imbalance) f h s.bal i

/-- Booked shuttle charge goes to both sides of the identity, its residue to loss. -/
@[simp] theorem Ledger.bookShuttle_imbalance (l : Ledger) (ein eout : Rat) (dq : Int) (v : Option Nat) :
    (l.bookShuttle ein eout dq v).imbalance = l.imbalance := by
  unfold Ledger.bookShuttle Ledger.imbalance
  split
  · simp only [Nat.cast_add]; omega
  · simp only [Nat.cast_add]; omega

theorem Ledger.imbalance_congr {l k : Ledger} (h : (k.drawn, k.returned, k.intoCells, k.outOfCells, k.loss) =
    (l.drawn, l.returned, l.intoCells, l.outOfCells, l.loss)) : k.imbalance = l.imbalance :=
  congrArg (fun x : Nat × Nat × Nat × Nat × Int => (x.1 : Int) - x.2.1 - ((x.2.2.1 : Int) - x.2.2.2.1 + x.2.2.2.2)) h

@[simp] theorem stopBalancing_imbalances (s : State) (i : Nat) : imbalances (stopBalancing s i).bal = imbalances s.bal := by
  simp [stopBalancing]
@[simp] theorem haltStr_imbalances (s : State) (i cause : Nat) : imbalances (haltStr s i cause).bal = imbalances s.bal := by
  unfold haltStr; (repeat' split) <;> simp
@[simp] theorem retireStr_imbalances (s : State) (i cause : Nat) : imbalances (retireStr s i cause).bal = imbalances s.bal := by
  unfold retireStr; dsimp only; (repeat' split) <;> simp
@[simp] theorem enterSafeHold_imbalances (s : State) (cause : Nat) :
    imbalances (enterSafeHold s cause).bal = imbalances s.bal := by
  simp [enterSafeHold]
@[simp] theorem forceTier_imbalances (s : State) (i : Nat) (old new : Tier) :
    imbalances (forceTier s i old new).bal = imbalances s.bal := by
  unfold forceTier; (repeat' split) <;> simp
@[simp] theorem retierStr_imbalances (s : State) (i : Nat) : imbalances (retierStr s i).bal = imbalances s.bal := by
  simp [retierStr]
@[simp] theorem retier_imbalances (s : State) : imbalances (retier s).bal = imbalances s.bal := by
  simp [retier]
@[simp] theorem retireUnit_imbalances (s : State) (u reason : Nat) :
    imbalances (retireUnit s u reason).bal = imbalances s.bal := by
  simp [retireUnit]
@[simp] theorem restoreUnit_imbalances (s : State) (u port : Nat) :
    imbalances (restoreUnit s u port).bal = imbalances s.bal := by
  simp [restoreUnit]
@[simp] theorem restoreDone_imbalances (s : State) (r : Restore) : imbalances (restoreDone s r).bal = imbalances s.bal := by
  unfold restoreDone; (repeat' split) <;> simp
@[simp] theorem restoreNote_imbalances (s : State) (u : Nat) (pass : Bool) :
    imbalances (restoreNote s u pass).bal = imbalances s.bal := by
  simp [restoreNote]
@[simp] theorem selfTest_imbalances (s : State) (u outcome : Nat) :
    imbalances (selfTest s u outcome).bal = imbalances s.bal := by
  unfold selfTest; (repeat' split) <;> simp
@[simp] theorem startRestore_imbalances (s : State) (op : Nat) (q : Req) (units : List Nat) (string : Option Nat) :
    imbalances (startRestore s op q units string).bal = imbalances s.bal := by
  unfold startRestore; (repeat' split) <;> simp
@[simp] theorem loseSup_imbalances (s : State) : imbalances (loseSup s).bal = imbalances s.bal := by
  simp [loseSup]
@[simp] theorem bookShuttle_imbalances (s : State) (i m ch : Nat) (dq : Int) (d : RoundData) :
    imbalances (bookShuttle s i m ch dq d).bal = imbalances s.bal := by
  simp [bookShuttle]
@[simp] theorem bookBleed_imbalances (s : State) (i m q : Nat) (chs : List Nat) (d : RoundData) :
    imbalances (bookBleed s i m q chs d).bal = imbalances s.bal := by
  unfold bookBleed
  rw [foldl_imbalances _ (by simp)]
  exact s.modBal_imbalances i _ fun b => Ledger.imbalance_congr rfl
@[simp] theorem bookUnattributedShuttle_imbalances (s : State) (i m : Nat) (dq : Int) :
    imbalances (bookUnattributedShuttle s i m dq).bal = imbalances s.bal := by
  unfold bookUnattributedShuttle
  simp only [detected_keeps]
  exact s.modBal_imbalances i _ fun b =>
    (Ledger.imbalance_congr rfl).trans (b.ledger.bookShuttle_imbalance (etaIn s i) (etaOut s i) dq none)
@[simp] theorem bookUnattributedBleed_imbalances (s : State) (i m q : Nat) :
    imbalances (bookUnattributedBleed s i m q).bal = imbalances s.bal := by
  unfold bookUnattributedBleed
  simp only [detected_keeps]
  exact s.modBal_imbalances i _ fun b => Ledger.imbalance_congr rfl
@[simp] theorem bookIncrements_imbalances (s : State) (i m : Nat) (prev now : RoundData) (qs : Int) (qb : Nat) :
    imbalances (bookIncrements s i m prev now qs qb).bal = imbalances s.bal := by
  unfold bookIncrements; (repeat' split) <;> simp
@[simp] theorem bookEstimate_imbalances (s : State) (i m : Nat) (prev now : RoundData) (cmd : Int) (dt : Nat) :
    imbalances (bookEstimate s i m prev now cmd dt).bal = imbalances s.bal := by
  have hcount : ∀ b : Bal,
      { b.ledger with estimates := b.ledger.estimates + 1, estimated := true }.imbalance = b.ledger.imbalance :=
    fun b => Ledger.imbalance_congr rfl
  simp [bookEstimate, hcount]
@[simp] theorem bookReading_imbalances (s : State) (i m : Nat) (prev : Option RoundData) (now : RoundData) (cmd : Int)
    (dt : Nat) : imbalances (bookReading s i m prev now cmd dt).bal = imbalances s.bal := by
  have hstamp : ∀ (l : Ledger) (b : Bal) (t : Nat),
      (if b.ledger = l then b else { b with ledger := { b.ledger with time := t } }).ledger.imbalance = b.ledger.imbalance :=
    fun l b t => by split <;> rfl
  have hfail : ∀ b : Bal, { b.ledger with identityFailed := true }.imbalance = b.ledger.imbalance :=
    fun b => Ledger.imbalance_congr rfl
  cases prev with
  | none => rfl
  | some p =>
    unfold bookReading
    dsimp only
    split <;> split <;> simp [hstamp, hfail]
@[simp] theorem storeDesc_imbalances (s : State) (p : Bytes) : imbalances (storeDesc s p).bal = imbalances s.bal := by
  simp [storeDesc]
@[simp] theorem emptySlot_imbalances (s : State) (p : Bytes) : imbalances (emptySlot s p).bal = imbalances s.bal := by
  simp [emptySlot]
@[simp] theorem latchString_imbalances (s : State) (i cause : Nat) :
    imbalances (latchString s i cause).bal = imbalances s.bal := by
  simp [latchString]
@[simp] theorem trip_imbalances (s : State) (c : Channel) (i : Nat) (f : SafetyFn) :
    imbalances (trip s c i f).bal = imbalances s.bal := by
  simp [trip]
@[simp] theorem tripBoth_imbalances (s : State) (i : Nat) (f : SafetyFn) :
    imbalances (tripBoth s i f).bal = imbalances s.bal := by
  simp [tripBoth]
@[simp] theorem adoptString_imbalances (s : State) (i : Nat) : imbalances (adoptString s i).bal = imbalances s.bal := by
  unfold adoptString; (repeat' split) <;> simp
@[simp] theorem weldFound_imbalances (s : State) (i k : Nat) : imbalances (weldFound s i k).bal = imbalances s.bal := by
  simp [weldFound]
@[simp] theorem judgeCoil_imbalances (i : Nat) (cmd mir was fresh : Bool) (since k : Nat) (s : State) (c : Channel) :
    imbalances (judgeCoil i cmd mir was fresh since k s c).bal = imbalances s.bal := by
  simp [judgeCoil]
@[simp] theorem cdbOne_imbalances (s : State) (i : Nat) (mir : BitVec 4) :
    imbalances (cdbOne s i mir).bal = imbalances s.bal := by
  simp [cdbOne]
@[simp] theorem isoJudge_imbalances (rIso : Nat) (s : State) (c : Channel) :
    imbalances (isoJudge rIso s c).bal = imbalances s.bal := by
  simp [isoJudge]
@[simp] theorem isoToChannels_imbalances (s : State) (rIso : Nat) :
    imbalances (isoToChannels s rIso).bal = imbalances s.bal := by
  simp [isoToChannels]
@[simp] theorem ocJudge_imbalances (i : Nat) (s : State) (c : Channel) : imbalances (ocJudge i s c).bal = imbalances s.bal := by
  simp [ocJudge]
@[simp] theorem plantActs_imbalances (s : State) (c : Channel) (p : Bytes) :
    imbalances (plantActs s c p).bal = imbalances s.bal := by
  simp [plantActs]
@[simp] theorem acceptPdu_imbalances (s : State) (c : Channel) (net seq : Nat) (p : Bytes) :
    imbalances (acceptPdu s c net seq p).bal = imbalances s.bal := by
  simp [acceptPdu]
@[simp] theorem judgeSeq_imbalances (s : State) (c : Channel) (net : Nat) (b : Bytes) :
    imbalances (judgeSeq s c net b).bal = imbalances s.bal := by
  simp [judgeSeq]
@[simp] theorem acceptSingle_imbalances (s : State) (c : Channel) (net : Nat) (b : Bytes) :
    imbalances (acceptSingle s c net b).bal = imbalances s.bal := by
  simp [acceptSingle]
@[simp] theorem nativeCopy_imbalances (s : State) (c : Channel) (net : Nat) (b : Bytes) :
    imbalances (nativeCopy s c net b).bal = imbalances s.bal := by
  unfold nativeCopy; dsimp only; (repeat' split) <;> simp
@[simp] theorem storeCnv_imbalances (s : State) (p : Bytes) : imbalances (storeCnv s p).bal = imbalances s.bal := by
  simp [storeCnv]
@[simp] theorem tiSafety_imbalances (s : State) (n : Nat) (v : Option Int) (c : Channel) :
    imbalances (tiSafety s n v c).bal = imbalances s.bal := by
  simp [tiSafety]
@[simp] theorem tiJudge_imbalances (s : State) (n : Nat) (v : Option Int) :
    imbalances (tiJudge s n v).bal = imbalances s.bal := by
  unfold tiJudge; dsimp only; (repeat' split) <;> simp
@[simp] theorem sensorSample_imbalances (slow : Bool) (crc : Nat) (s : State) (key : Nat) (raw : Int) :
    imbalances (sensorSample slow crc s key raw).bal = imbalances s.bal := by
  unfold sensorSample; simp
@[simp] theorem sensorRound_imbalances (s : State) (i m : Nat) (d : RoundData) :
    imbalances (sensorRound s i m d).bal = imbalances s.bal := by
  unfold sensorRound; simp
@[simp] theorem applyReplica_imbalances (s : State) : imbalances (applyReplica s).bal = imbalances s.bal := by
  unfold applyReplica; dsimp only
  split
  · rfl
  · rw [foldl_imbalances _ (by simp), foldl_imbalances _ (fun s i => by split <;> simp)]
    exact foldl_imbalances _ (fun s i => by split <;> simp) _ _
@[simp] theorem assumeDuties_imbalances (held : Option IsoResult) (s : State) :
    imbalances (assumeDuties held s).bal = imbalances s.bal := by
  simp [assumeDuties, imbalances, Function.comp_def]
@[simp] theorem takeover_imbalances (s : State) : imbalances (takeover s).bal = imbalances s.bal := by
  simp [takeover]
@[simp] theorem soloFromResync_imbalances (s : State) : imbalances (soloFromResync s).bal = imbalances s.bal := by
  simp [soloFromResync]
@[simp] theorem judgeReach_imbalances (s : State) (i : Nat) : imbalances (judgeReach s i).bal = imbalances s.bal := by
  simp [judgeReach]
@[simp] theorem alarmSp_imbalances (s : State) (i m : Nat) : imbalances (alarmSp s i m).bal = imbalances s.bal := by
  unfold alarmSp; dsimp only; (repeat' split) <;> simp
@[simp] theorem judgeAlarms_imbalances (s : State) (i : Nat) : imbalances (judgeAlarms s i).bal = imbalances s.bal := by
  simp [judgeAlarms]
@[simp] theorem takeData_imbalances (s : State) (i m kind : Nat) (d : RoundData) :
    imbalances (takeData s i m kind d).bal = imbalances s.bal := by
  simp [takeData]
@[simp] theorem voltJudge_imbalances (s : State) (i m : Nat) (d : RoundData) :
    imbalances (voltJudge s i m d).bal = imbalances s.bal := by
  simp [voltJudge]
@[simp] theorem dataJudge_imbalances (s : State) (i m : Nat) : imbalances (dataJudge s i m).bal = imbalances s.bal := by
  simp [dataJudge]
@[simp] theorem closeMonitor_imbalances (s : State) (i m : Nat) : imbalances (closeMonitor s i m).bal = imbalances s.bal := by
  unfold closeMonitor; dsimp only; (repeat' split) <;> simp
@[simp] theorem closeRing_imbalances (s : State) (i : Nat) : imbalances (closeRing s i).bal = imbalances s.bal := by
  simp [closeRing]
@[simp] theorem storeRing_imbalances (s : State) (p : Bytes) : imbalances (storeRing s p).bal = imbalances s.bal := by
  simp [storeRing]
@[simp] theorem coreLevels_imbalances (s : State) (idx : Nat) : imbalances (coreLevels s idx).bal = imbalances s.bal := by
  simp [coreLevels]
@[simp] theorem takeResults_imbalances (s : State) (idx : Nat) (zs : List ToneZ) :
    imbalances (takeResults s idx zs).bal = imbalances s.bal := by
  unfold takeResults; dsimp only; (repeat' split) <;> simp
@[simp] theorem publishBlock_imbalances (s : State) (e : (Nat × Nat × Nat) × ImpBlock) :
    imbalances (publishBlock s e).bal = imbalances s.bal := by
  simp [publishBlock]
@[simp] theorem dropShuttles_imbalances (s : State) (i : Nat) (keep : List Transfer) :
    imbalances (dropShuttles s i keep).bal = imbalances s.bal := by
  simp [dropShuttles]
@[simp] theorem planString_imbalances (s : State) (i : Nat) : imbalances (planString s i).bal = imbalances s.bal := by
  simp [planString]
@[simp] theorem storeHold_imbalances (s : State) (p : Bytes) : imbalances (storeHold s p).bal = imbalances s.bal := by
  simp [storeHold]
@[simp] theorem trimTo_imbalances (o : Bool) (l n : Nat) (s : State) : imbalances (trimTo o l n s).bal = imbalances s.bal := by
  induction n generalizing s with
  | zero => simp [trimTo]
  | succ n ih => unfold trimTo; (repeat' split) <;> simp [ih]
@[simp] theorem enterHoldup_imbalances (s : State) : imbalances (enterHoldup s).bal = imbalances s.bal := by
  simp [enterHoldup]
@[simp] theorem applyDirect_imbalances (s : State) (x : Xfer) (target : Nat) :
    imbalances (applyDirect s x target).bal = imbalances s.bal := by
  unfold applyDirect; dsimp only; (repeat' split) <;> simp
@[simp] theorem enterRecovery_imbalances (s : State) (cause : Nat) :
    imbalances (enterRecovery s cause).bal = imbalances s.bal := by
  simp [enterRecovery]
@[simp] theorem toRecovery_imbalances (s : State) : imbalances (toRecovery s).bal = imbalances s.bal := by
  simp [toRecovery]
@[simp] theorem noImage_imbalances (s : State) (p : Nat) : imbalances (noImage s p).bal = imbalances s.bal := by
  simp [noImage]
@[simp] theorem fallBack_imbalances (s : State) (p : Nat) : imbalances (fallBack s p).bal = imbalances s.bal := by
  unfold fallBack; (repeat' split) <;> simp
@[simp] theorem windowExceeded_imbalances (s : State) (a : Activation) :
    imbalances (windowExceeded s a).bal = imbalances s.bal := by
  unfold windowExceeded; dsimp only; (repeat' split) <;> simp
@[simp] theorem applyRecord_imbalances (op : Nat) (p : Bytes) (s : State) :
    imbalances (applyRecord op p s).bal = imbalances s.bal := by
  unfold applyRecord; (repeat' split) <;> simp
@[simp] theorem takeMeas_imbalances (s : State) (m : PeerMsg) (rIso cE : Nat) (side : FaultSide) (below valid off : Bool) :
    imbalances (takeMeas s m rIso cE side below valid off).bal = imbalances s.bal := by
  simp [takeMeas]
@[simp] theorem takeBulk_imbalances (s : State) (b : BulkPart) : imbalances (takeBulk s b).bal = imbalances s.bal := by
  unfold takeBulk; (repeat' split) <;> simp
@[simp] theorem takeBody_imbalances (s : State) (m : PeerMsg) : imbalances (takeBody s m).bal = imbalances s.bal := by
  unfold takeBody; (repeat' split) <;> simp

end Sys2Proof.Machine
end

section
/-! SUPPORT. Every command keeps the books, one law per command, in the order of the model's files. BOOT clears every ledger. -/

namespace Sys2Proof.Machine

theorem bootState_allZero (s : State) (cold : Bool) (cause : Nat) : AllZero (imbalances (bootState s cold cause).bal) := by
  intro x hx
  obtain ⟨b, hb, rfl⟩ := List.mem_map.mp hx
  obtain ⟨c, -, rfl⟩ := List.mem_map.mp hb
  rfl

theorem enterBoot_allZero (s : State) (cause : Nat) : AllZero (imbalances (enterBoot s cause).bal) := by
  have h := bootState_allZero s (cause == 0) cause
  unfold enterBoot; dsimp only
  simp [h]

/-- The books of `u` balance if those of `s` do. -/
@[simp] def StaysBalanced (s u : State) : Prop := AllZero (imbalances s.bal) → AllZero (imbalances u.bal)

theorem StaysBalanced.refl (s : State) : StaysBalanced s s := id

theorem StaysBalanced.trans {s u v : State} (h : StaysBalanced s u) (k : StaysBalanced u v) : StaysBalanced s v := k ∘ h

theorem StaysBalanced.of_eq {s u : State} (h : imbalances u.bal = imbalances s.bal) : StaysBalanced s u := fun hs => h ▸ hs

theorem StaysBalanced.foldl {β : Type} {f : State → β → State} (h : ∀ s b, StaysBalanced s (f s b)) (l : List β) :
    ∀ s : State, StaysBalanced s (l.foldl f s) := by
  induction l with
  | nil => exact StaysBalanced.refl
  | cons b l ih => exact fun s => (h s b).trans (ih _)

/-- The command answers a next state, whose books balance if those of `s` do. -/
def KeepsBooks (s : State) (o : Out State) : Prop := ∃ u, o = .next u ∧ StaysBalanced s u

@[simp] theorem keepsBooks_next (s u : State) : KeepsBooks s (.next u) ↔ StaysBalanced s u := by
  simp [KeepsBooks]

/-- An event brings time to `t`, then runs. -/
theorem keepsBooks_at {s u : State} (t : Nat) (h : StaysBalanced (s.advance t) u) : KeepsBooks s (.next u) :=
  (keepsBooks_next _ _).2 h

theorem KeepsBooks.of_staysBalanced {s u : State} {o : Out State} (h : StaysBalanced s u) (ho : KeepsBooks u o) :
    KeepsBooks s o := by
  obtain ⟨v, e, hv⟩ := ho
  exact ⟨v, e, h.trans hv⟩

/-- A host command keeps the books when what it runs does. -/
theorem command_keepsBooks_of_staysBalanced {sp : Spec} {run : State → Req → State} {q : Req} {s : State}
    (h : ∀ s, StaysBalanced s (run s q)) : KeepsBooks s (command sp run q s) := by
  obtain ⟨u, hu⟩ := command_next sp run q s
  refine ⟨u, hu, ?_⟩
  obtain rfl | ⟨d, rfl⟩ | rfl | ⟨st, d, -, rfl⟩ | ⟨-, rfl⟩ := command_cases hu
  · exact .refl _
  · exact .of_eq (by simp)
  · exact .of_eq (by simp)
  · exact .of_eq (by simp)
  · exact (StaysBalanced.of_eq (by simp)).trans (h _)

@[simp] theorem command_keepsBooks (sp : Spec) (run : State → Req → State) (q : Req) (s : State)
    (h : ∀ s, imbalances (run s q).bal = imbalances s.bal) : KeepsBooks s (command sp run q s) :=
  command_keepsBooks_of_staysBalanced fun s => .of_eq (h s)

@[simp] theorem getI_keepsBooks (op : Nat) (v pop all : Bool) (n : State → Nat) (resp : State → Nat → Bytes) (q : Req)
    (s : State) : KeepsBooks s (getI op v pop all n resp q s) := by
  unfold getI; simp
@[simp] theorem getNone_keepsBooks (op : Nat) (v : Bool) (resp : State → Bytes) (q : Req) (s : State) :
    KeepsBooks s (getNone op v resp q s) := by
  unfold getNone; simp
@[simp] theorem getW_keepsBooks (op : Nat) (v : Bool) (resp : State → Bytes) (q : Req) (s : State) :
    KeepsBooks s (getW op v resp q s) := by
  unfold getW; simp
@[simp] theorem getC_keepsBooks (op : Nat) (v cells : Bool) (n : State → Nat) (resp : State → Nat → Bytes) (q : Req)
    (s : State) : KeepsBooks s (getC op v cells n resp q s) := by
  unfold getC; simp
@[simp] theorem mapM_keepsBooks (op off size : Nat) (q : Req) (s : State) : KeepsBooks s (mapM op off size q s) := by
  unfold mapM; dsimp only
  refine command_keepsBooks _ _ _ _ fun s => ?_
  split <;> simp
@[simp] theorem getByte_keepsBooks (op n : Nat) (resp : State → Nat → Bytes) (q : Req) (s : State) :
    KeepsBooks s (getByte op n resp q s) := by
  unfold getByte; simp
@[simp] theorem canGetI_keepsBooks (op : Nat) (resp : State → Nat → Bytes) (q : Req) (s : State) :
    KeepsBooks s (canGetI op resp q s) := by
  unfold canGetI; simp
@[simp] theorem setR_keepsBooks (op size : Nat) (fs : List Field) (pop chk : State → Bytes → Option Nat)
    (store : State → Bytes → State) (q : Req) (s : State)
    (h : ∀ s, imbalances (store s q.payload).bal = imbalances s.bal) :
    KeepsBooks s (setR op size fs pop chk store q s) := by
  unfold setR; simp [h]
@[simp] theorem strCommand_keepsBooks (op : Nat) (bad : State → Nat → Option Nat) (run : State → Req → Nat → State) (q : Req)
    (s : State) (h : ∀ s i, imbalances (run s q i).bal = imbalances s.bal) : KeepsBooks s (strCommand op bad run q s) := by
  unfold strCommand; simp [h]
@[simp] theorem efCommand_keepsBooks (op : Nat) (state : State → Nat → Option Nat) (run : State → Req → Nat → State) (q : Req)
    (s : State) (h : ∀ s i, imbalances (run s q i).bal = imbalances s.bal) : KeepsBooks s (efCommand op state run q s) := by
  unfold efCommand; simp [h]

theorem enterBoot_staysBalanced (s : State) (cause : Nat) : StaysBalanced s (enterBoot s cause) :=
  fun _ => enterBoot_allZero s cause

theorem activate_staysBalanced (s : State) (q : Req) : StaysBalanced s (activate s q) := by
  unfold activate; dsimp only; (repeat' split) <;> simp [enterBoot_allZero]

theorem response_bal {s u : State} {i m seq : Nat} {o : Option Outstanding} (h : response s i m seq = (u, o)) :
    u.bal = s.bal := by
  have e : (response s i m seq).1.bal = s.bal := by simp
  rwa [h] at e

theorem cmdFrame_bal {s u : State} {i m code : Nat} {own b : Bool} (h : cmdFrame s i m own code = (u, b)) :
    u.bal = s.bal := by
  have e : (cmdFrame s i m own code).1.bal = s.bal := by simp
  rwa [h] at e

@[simp] theorem admitWaiting_bal (n : Nat) (s : State) : (admitWaiting s n).bal = s.bal := by
  induction n generalizing s with
  | zero => rfl
  | succ n ih =>
    unfold admitWaiting
    split
    · simp [ih]
    · rfl


/-! ## Icu -/

@[simp] theorem execIcuDecision_keepsBooks (t : Nat) (g : Target) (s : State) : KeepsBooks s (execIcuDecision t g s) := by
  unfold execIcuDecision; simp
@[simp] theorem execIcuClaimRead_keepsBooks (t : Nat) (g : Target) (s : State) : KeepsBooks s (execIcuClaimRead t g s) := by
  unfold execIcuClaimRead; simp
@[simp] theorem execIcuCompleteWrite_keepsBooks (t : Nat) (g : Target) (value : BitVec 32) (s : State) :
    KeepsBooks s (execIcuCompleteWrite t g value s) := by
  unfold execIcuCompleteWrite; simp
@[simp] theorem execIcuPendSet_keepsBooks (t : Nat) (g : Target) (w : Nat) (mask : BitVec 32) (s : State) :
    KeepsBooks s (execIcuPendSet t g w mask s) := by
  unfold execIcuPendSet; simp
@[simp] theorem execIcuPendClr_keepsBooks (t : Nat) (g : Target) (w : Nat) (mask : BitVec 32) (s : State) :
    KeepsBooks s (execIcuPendClr t g w mask s) := by
  unfold execIcuPendClr; simp
@[simp] theorem execIcuMaskSet_keepsBooks (t : Nat) (g : Target) (w : Nat) (mask : BitVec 32) (s : State) :
    KeepsBooks s (execIcuMaskSet t g w mask s) := by
  unfold execIcuMaskSet; simp
@[simp] theorem execIcuMaskClr_keepsBooks (t : Nat) (g : Target) (w : Nat) (mask : BitVec 32) (s : State) :
    KeepsBooks s (execIcuMaskClr t g w mask s) := by
  unfold execIcuMaskClr; simp
@[simp] theorem execIcuSourceEdge_keepsBooks (t : Nat) (g : Target) (n : Nat) (s : State) :
    KeepsBooks s (execIcuSourceEdge t g n s) := by
  unfold execIcuSourceEdge; simp
@[simp] theorem execIcuTgtEnWrite_keepsBooks (t : Nat) (g : Target) (value : BitVec 32) (s : State) :
    KeepsBooks s (execIcuTgtEnWrite t g value s) := by
  unfold execIcuTgtEnWrite; simp
@[simp] theorem execHoldOffExpiry_keepsBooks (t : Nat) (g : Target) (grp : Nat) (s : State) :
    KeepsBooks s (execHoldOffExpiry t g grp s) := by
  unfold execHoldOffExpiry; simp
@[simp] theorem execStrandedTimeout_keepsBooks (t : Nat) (g : Target) (n : Nat) (s : State) :
    KeepsBooks s (execStrandedTimeout t g n s) := by
  unfold execStrandedTimeout; simp
@[simp] theorem execSourceRetarget_keepsBooks (t : Nat) (n : Nat) (g : Target) (s : State) :
    KeepsBooks s (execSourceRetarget t n g s) := by
  unfold execSourceRetarget; simp

/-! ## AppCore -/

@[simp] theorem execAppStart_keepsBooks (t : Nat) (s : State) : KeepsBooks s (execAppStart t s) := by
  unfold execAppStart; simp
@[simp] theorem execAppRestart_keepsBooks (t : Nat) (cause : Nat) (s : State) :
    KeepsBooks s (execAppRestart t cause s) := by
  unfold execAppRestart; simp
@[simp] theorem execMonVersion_keepsBooks (t : Nat) (s : State) : KeepsBooks s (execMonVersion t s) := by
  unfold execMonVersion; simp
@[simp] theorem execMonTime_keepsBooks (t : Nat) (s : State) : KeepsBooks s (execMonTime t s) := by
  unfold execMonTime; simp
@[simp] theorem execMonTimer_keepsBooks (t : Nat) (us : Nat) (s : State) : KeepsBooks s (execMonTimer t us s) := by
  unfold execMonTimer; simp
@[simp] theorem execWdogSet_keepsBooks (t : Nat) (ms : Nat) (s : State) : KeepsBooks s (execWdogSet t ms s) := by
  unfold execWdogSet; simp
@[simp] theorem execWdogFeed_keepsBooks (t : Nat) (s : State) : KeepsBooks s (execWdogFeed t s) := by
  unfold execWdogFeed; simp
@[simp] theorem execMonRestart_keepsBooks (t : Nat) (s : State) : KeepsBooks s (execMonRestart t s) := by
  unfold execMonRestart; simp
@[simp] theorem execMonitorTimerFire_keepsBooks (t : Nat) (s : State) : KeepsBooks s (execMonitorTimerFire t s) := by
  unfold execMonitorTimerFire; dsimp only; (repeat' split) <;> simp
@[simp] theorem execWatchdogWarning_keepsBooks (t : Nat) (s : State) : KeepsBooks s (execWatchdogWarning t s) := by
  unfold execWatchdogWarning; simp
@[simp] theorem execWatchdogExpiry_keepsBooks (t : Nat) (s : State) : KeepsBooks s (execWatchdogExpiry t s) := by
  unfold execWatchdogExpiry; simp
@[simp] theorem execAccessFault_keepsBooks (t : Nat) (addr size : Nat) (write : Bool) (s : State) :
    KeepsBooks s (execAccessFault t addr size write s) := by
  unfold execAccessFault; simp
@[simp] theorem execAppMemoryError_keepsBooks (t : Nat) (dram correctable : Bool) (s : State) :
    KeepsBooks s (execAppMemoryError t dram correctable s) := by
  unfold execAppMemoryError; simp

/-! ## Faults -/

@[simp] theorem execSelfTestOutcome_keepsBooks (t : Nat) (unit outcome : Nat) (s : State) :
    KeepsBooks s (execSelfTestOutcome t unit outcome s) := by
  unfold execSelfTestOutcome; simp
@[simp] theorem execDetectedError_keepsBooks (t : Nat) (unit rule detail : Nat) (s : State) :
    KeepsBooks s (execDetectedError t unit rule detail s) := by
  unfold execDetectedError; simp
@[simp] theorem execMemoryError_keepsBooks (t : Nat) (mem : Memory) (word : Nat) (uncorrectable : Bool) (s : State) :
    KeepsBooks s (execMemoryError t mem word uncorrectable s) := by
  unfold execMemoryError; dsimp only; (repeat' split) <;> simp
@[simp] theorem execScrubPass_keepsBooks (t : Nat) (a : Background) (s : State) : KeepsBooks s (execScrubPass t a s) := by
  unfold execScrubPass; dsimp only; (repeat' split) <;> simp

/-! ## Channels -/

@[simp] theorem execTrip_keepsBooks (t : Nat) (ch : Channel) (i : Nat) (sf : SafetyFn) (s : State) :
    KeepsBooks s (execTrip t ch i sf s) := by
  unfold execTrip; simp
@[simp] theorem execCloseRequest_keepsBooks (t : Nat) (i : Nat) (s : State) : KeepsBooks s (execCloseRequest t i s) := by
  unfold execCloseRequest; dsimp only; (repeat' split) <;> simp
@[simp] theorem execCloseRequestTimeout_keepsBooks (t : Nat) (i : Nat) (s : State) :
    KeepsBooks s (execCloseRequestTimeout t i s) := by
  unfold execCloseRequestTimeout; dsimp only; (repeat' split) <;> simp
@[simp] theorem execWeld_keepsBooks (t : Nat) (i coil : Nat) (s : State) : KeepsBooks s (execWeld t i coil s) := by
  unfold execWeld; simp
@[simp] theorem execBkrTripEnd_keepsBooks (t : Nat) (s : State) : KeepsBooks s (execBkrTripEnd t s) := by
  unfold execBkrTripEnd; simp
@[simp] theorem execCdbCycle_keepsBooks (t : Nat) (bus : Nat) (mirrors : List (BitVec 4)) (crcOk : Bool) (s : State) :
    KeepsBooks s (execCdbCycle t bus mirrors crcOk s) := by
  unfold execCdbCycle; dsimp only
  refine keepsBooks_at t (StaysBalanced.foldl (fun s k => ?_) _ _)
  (repeat' split) <;> simp
@[simp] theorem execOpenSecondPole_keepsBooks (t : Nat) (i : Nat) (s : State) :
    KeepsBooks s (execOpenSecondPole t i s) := by
  unfold execOpenSecondPole; simp
@[simp] theorem execCrossLinkPublish_keepsBooks (t : Nat) (s : State) : KeepsBooks s (execCrossLinkPublish t s) := by
  unfold execCrossLinkPublish; simp
@[simp] theorem execDiscrepancy_keepsBooks (t : Nat) (i : Nat) (sf : SafetyFn) (s : State) :
    KeepsBooks s (execDiscrepancy t i sf s) := by
  unfold execDiscrepancy; simp
@[simp] theorem execSilentPartner_keepsBooks (t : Nat) (s : State) : KeepsBooks s (execSilentPartner t s) := by
  unfold execSilentPartner; simp
@[simp] theorem execSafetyInputSample_keepsBooks (t : Nat) (ch : Channel) (levels : BitVec 16) (s : State) :
    KeepsBooks s (execSafetyInputSample t ch levels s) := by
  unfold execSafetyInputSample; simp
@[simp] theorem execTestPulse_keepsBooks (t : Nat) (n : Nat) (overload : Bool) (s : State) :
    KeepsBooks s (execTestPulse t n overload s) := by
  unfold execTestPulse; simp
@[simp] theorem execThrLoad_keepsBooks (t : Nat) (i m : Nat) (own : Bool) (thr : Thresholds) (s : State) :
    KeepsBooks s (execThrLoad t i m own thr s) := by
  unfold execThrLoad; simp
@[simp] theorem execThresholdReload_keepsBooks (t : Nat) (i : Nat) (s : State) :
    KeepsBooks s (execThresholdReload t i s) := by
  unfold execThresholdReload; dsimp only; (repeat' split) <;> simp
@[simp] theorem execLoadingWindowEnd_keepsBooks (t : Nat) (s : State) : KeepsBooks s (execLoadingWindowEnd t s) := by
  unfold execLoadingWindowEnd; dsimp only; (repeat' split) <;> simp
@[simp] theorem execSafStage_keepsBooks (q : Req) (s : State) : KeepsBooks s (execSafStage q s) := by
  unfold execSafStage; simp
@[simp] theorem execSafGetStaged_keepsBooks (q : Req) (s : State) : KeepsBooks s (execSafGetStaged q s) := by
  unfold execSafGetStaged; simp
@[simp] theorem execSafCommit_keepsBooks (q : Req) (s : State) : KeepsBooks s (execSafCommit q s) := by
  unfold execSafCommit; simp
@[simp] theorem execSafDiscard_keepsBooks (q : Req) (s : State) : KeepsBooks s (execSafDiscard q s) := by
  unfold execSafDiscard; simp
@[simp] theorem execSafGetSet_keepsBooks (q : Req) (s : State) : KeepsBooks s (execSafGetSet q s) := by
  unfold execSafGetSet; simp
@[simp] theorem execSetActivation_keepsBooks (t : Nat) (ch : Channel) (s : State) :
    KeepsBooks s (execSetActivation t ch s) := by
  unfold execSetActivation; dsimp only; (repeat' split) <;> simp
@[simp] theorem execStagedSetDiscard_keepsBooks (t : Nat) (s : State) : KeepsBooks s (execStagedSetDiscard t s) := by
  unfold execStagedSetDiscard; simp
@[simp] theorem execSafePduReceived_keepsBooks (t : Nat) (ch : Channel) (net : Nat) (pdu : List Byte) (s : State) :
    KeepsBooks s (execSafePduReceived t ch net pdu s) := by
  unfold execSafePduReceived; simp
@[simp] theorem execBlackChannelPdu_keepsBooks (t : Nat) (ch : Channel) (net : Nat) (pdu : List Byte) (s : State) :
    KeepsBooks s (execBlackChannelPdu t ch net pdu s) := by
  unfold execBlackChannelPdu; simp
@[simp] theorem execCommWindowExpiry_keepsBooks (t : Nat) (ch : Channel) (net : Nat) (s : State) :
    KeepsBooks s (execCommWindowExpiry t ch net s) := by
  unfold execCommWindowExpiry; dsimp only; (repeat' split) <;> simp
@[simp] theorem execCommWatchdogExpiry_keepsBooks (t : Nat) (ch : Channel) (s : State) :
    KeepsBooks s (execCommWatchdogExpiry t ch s) := by
  unfold execCommWatchdogExpiry; dsimp only; (repeat' split) <;> simp
@[simp] theorem execNetworkDown_keepsBooks (t : Nat) (ch : Channel) (net : Nat) (s : State) :
    KeepsBooks s (execNetworkDown t ch net s) := by
  unfold execNetworkDown; simp
@[simp] theorem execDegradeExpiry_keepsBooks (t : Nat) (ch : Channel) (s : State) :
    KeepsBooks s (execDegradeExpiry t ch s) := by
  unfold execDegradeExpiry; simp
@[simp] theorem execSafGetStatus_keepsBooks (q : Req) (s : State) : KeepsBooks s (execSafGetStatus q s) := by
  unfold execSafGetStatus; simp
@[simp] theorem execSafGetInputs_keepsBooks (q : Req) (s : State) : KeepsBooks s (execSafGetInputs q s) := by
  unfold execSafGetInputs; simp

/-! ## Pair -/

@[simp] theorem execClaimFrame_keepsBooks (t : Nat) (st : Stage) (own : Bool) (claim : Nat) (s : State) :
    KeepsBooks s (execClaimFrame t st own claim s) := by
  unfold execClaimFrame; dsimp only; (repeat' split) <;> simp
@[simp] theorem execCoilHoldExpiry_keepsBooks (t : Nat) (i : Nat) (s : State) :
    KeepsBooks s (execCoilHoldExpiry t i s) := by
  unfold execCoilHoldExpiry; simp
@[simp] theorem execHeartbeatSend_keepsBooks (t : Nat) (s : State) : KeepsBooks s (execHeartbeatSend t s) := by
  unfold execHeartbeatSend; simp
@[simp] theorem execHigherClaimSeen_keepsBooks (t : Nat) (claim : Nat) (s : State) :
    KeepsBooks s (execHigherClaimSeen t claim s) := by
  unfold execHigherClaimSeen; simp
@[simp] theorem execTakeover_keepsBooks (t : Nat) (s : State) : KeepsBooks s (execTakeover t s) := by
  unfold execTakeover; simp
@[simp] theorem execBeatReceived_keepsBooks (t : Nat) (beat : List Byte) (s : State) :
    KeepsBooks s (execBeatReceived t beat s) := by
  unfold execBeatReceived; simp
@[simp] theorem execYield_keepsBooks (t : Nat) (s : State) : KeepsBooks s (execYield t s) := by
  unfold execYield; simp
@[simp] theorem execHeartbeat_keepsBooks (t : Nat) (s : State) : KeepsBooks s (execHeartbeat t s) := by
  unfold execHeartbeat; simp
@[simp] theorem execPeerBeatLoss_keepsBooks (t : Nat) (s : State) : KeepsBooks s (execPeerBeatLoss t s) := by
  unfold execPeerBeatLoss; simp
@[simp] theorem execPeerDown_keepsBooks (t : Nat) (s : State) : KeepsBooks s (execPeerDown t s) := by
  unfold execPeerDown; simp
@[simp] theorem execPartnerAbsent_keepsBooks (t : Nat) (s : State) : KeepsBooks s (execPartnerAbsent t s) := by
  unfold execPartnerAbsent; dsimp only; (repeat' split) <;> simp
@[simp] theorem execDormantPartnerTimeout_keepsBooks (t : Nat) (s : State) :
    KeepsBooks s (execDormantPartnerTimeout t s) := by
  unfold execDormantPartnerTimeout; dsimp only; (repeat' split) <;> simp
@[simp] theorem execPeerState_keepsBooks (t : Nat) (s : State) : KeepsBooks s (execPeerState t s) := by
  unfold execPeerState; simp
@[simp] theorem execSwap_keepsBooks (t : Nat) (s : State) : KeepsBooks s (execSwap t s) := by
  unfold execSwap; dsimp only; (repeat' split) <;> simp
@[simp] theorem execSwapVerify_keepsBooks (t : Nat) (cdbAck gateOk : Bool) (s : State) :
    KeepsBooks s (execSwapVerify t cdbAck gateOk s) := by
  unfold execSwapVerify; simp
@[simp] theorem execScheduledSwapDue_keepsBooks (t : Nat) (s : State) : KeepsBooks s (execScheduledSwapDue t s) := by
  unfold execScheduledSwapDue; simp
@[simp] theorem execSwapOverdue_keepsBooks (t : Nat) (s : State) : KeepsBooks s (execSwapOverdue t s) := by
  unfold execSwapOverdue; simp
@[simp] theorem execResyncStep_keepsBooks (t : Nat) (s : State) : KeepsBooks s (execResyncStep t s) := by
  unfold execResyncStep; dsimp only; (repeat' split) <;> simp
@[simp] theorem execResyncTimeout_keepsBooks (t : Nat) (s : State) : KeepsBooks s (execResyncTimeout t s) := by
  unfold execResyncTimeout; simp
@[simp] theorem execRedSetConfig_keepsBooks (q : Req) (s : State) : KeepsBooks s (execRedSetConfig q s) := by
  unfold execRedSetConfig; simp
@[simp] theorem execRedGetConfig_keepsBooks (q : Req) (s : State) : KeepsBooks s (execRedGetConfig q s) := by
  unfold execRedGetConfig; simp
@[simp] theorem execRedGetStatus_keepsBooks (q : Req) (s : State) : KeepsBooks s (execRedGetStatus q s) := by
  unfold execRedGetStatus; simp
@[simp] theorem execRedSwap_keepsBooks (q : Req) (s : State) : KeepsBooks s (execRedSwap q s) := by
  unfold execRedSwap; simp
@[simp] theorem execRedPostpone_keepsBooks (q : Req) (s : State) : KeepsBooks s (execRedPostpone q s) := by
  unfold execRedPostpone; simp
@[simp] theorem execRedGetShadow_keepsBooks (q : Req) (s : State) : KeepsBooks s (execRedGetShadow q s) := by
  unfold execRedGetShadow; simp

/-! ## Loop -/

@[simp] theorem execLepLoadDesc_keepsBooks (q : Req) (s : State) : KeepsBooks s (execLepLoadDesc q s) := by
  unfold execLepLoadDesc; simp
@[simp] theorem execLepClearSlot_keepsBooks (q : Req) (s : State) : KeepsBooks s (execLepClearSlot q s) := by
  unfold execLepClearSlot; simp
@[simp] theorem execLepGetDesc_keepsBooks (q : Req) (s : State) : KeepsBooks s (execLepGetDesc q s) := by
  unfold execLepGetDesc; simp
@[simp] theorem execLepSetCoef_keepsBooks (q : Req) (s : State) : KeepsBooks s (execLepSetCoef q s) := by
  unfold execLepSetCoef; simp
@[simp] theorem execLepGetCoef_keepsBooks (q : Req) (s : State) : KeepsBooks s (execLepGetCoef q s) := by
  unfold execLepGetCoef; simp
@[simp] theorem execLepSwap_keepsBooks (q : Req) (s : State) : KeepsBooks s (execLepSwap q s) := by
  unfold execLepSwap; simp
@[simp] theorem execBankSwap_keepsBooks (t : Nat) (n : Nat) (s : State) : KeepsBooks s (execBankSwap t n s) := by
  unfold execBankSwap; simp
@[simp] theorem execLepLoadLut_keepsBooks (q : Req) (s : State) : KeepsBooks s (execLepLoadLut q s) := by
  unfold execLepLoadLut; simp
@[simp] theorem execLepGetLut_keepsBooks (q : Req) (s : State) : KeepsBooks s (execLepGetLut q s) := by
  unfold execLepGetLut; simp
@[simp] theorem execLepSetParam_keepsBooks (q : Req) (s : State) : KeepsBooks s (execLepSetParam q s) := by
  unfold execLepSetParam; simp
@[simp] theorem execLepGetOutput_keepsBooks (q : Req) (s : State) : KeepsBooks s (execLepGetOutput q s) := by
  unfold execLepGetOutput; simp
@[simp] theorem execLepGetStatus_keepsBooks (q : Req) (s : State) : KeepsBooks s (execLepGetStatus q s) := by
  unfold execLepGetStatus; simp
@[simp] theorem execSlotPeriod_keepsBooks (t : Nat) (n cycles : Nat) (late : Bool) (s : State) :
    KeepsBooks s (execSlotPeriod t n cycles late s) := by
  unfold execSlotPeriod; simp
@[simp] theorem execSetpointCommit_keepsBooks (t : Nat) (s : State) : KeepsBooks s (execSetpointCommit t s) := by
  unfold execSetpointCommit; dsimp only; (repeat' split) <;> simp
@[simp] theorem execProbeComplete_keepsBooks (t : Nat) (p : Nat) (s : State) : KeepsBooks s (execProbeComplete t p s) := by
  unfold execProbeComplete; simp
@[simp] theorem execTrcSetProbe_keepsBooks (q : Req) (s : State) : KeepsBooks s (execTrcSetProbe q s) := by
  unfold execTrcSetProbe; simp
@[simp] theorem execTrcArm_keepsBooks (q : Req) (s : State) : KeepsBooks s (execTrcArm q s) := by
  unfold execTrcArm; simp
@[simp] theorem execTrcStop_keepsBooks (q : Req) (s : State) : KeepsBooks s (execTrcStop q s) := by
  unfold execTrcStop; simp
@[simp] theorem execTrcGetStatus_keepsBooks (q : Req) (s : State) : KeepsBooks s (execTrcGetStatus q s) := by
  unfold execTrcGetStatus; simp
@[simp] theorem execTrcMap_keepsBooks (q : Req) (s : State) : KeepsBooks s (execTrcMap q s) := by
  unfold execTrcMap; simp
@[simp] theorem execTrcRead_keepsBooks (q : Req) (s : State) : KeepsBooks s (execTrcRead q s) := by
  unfold execTrcRead; simp

/-! ## Converter -/

@[simp] theorem execConverterStart_keepsBooks (t : Nat) (i : Nat) (s : State) :
    KeepsBooks s (execConverterStart t i s) := by
  unfold execConverterStart; simp
@[simp] theorem execConverterPause_keepsBooks (t : Nat) (i : Nat) (cause : PauseCause) (s : State) :
    KeepsBooks s (execConverterPause t i cause s) := by
  unfold execConverterPause; dsimp only; (repeat' split) <;> simp
@[simp] theorem execPauseEnd_keepsBooks (t : Nat) (i : Nat) (s : State) : KeepsBooks s (execPauseEnd t i s) := by
  unfold execPauseEnd; simp
@[simp] theorem execSoftStartTimeout_keepsBooks (t : Nat) (i : Nat) (s : State) :
    KeepsBooks s (execSoftStartTimeout t i s) := by
  unfold execSoftStartTimeout; dsimp only; (repeat' split) <;> simp
@[simp] theorem execRampComplete_keepsBooks (t : Nat) (i : Nat) (s : State) : KeepsBooks s (execRampComplete t i s) := by
  unfold execRampComplete; dsimp only; (repeat' split) <;> simp
@[simp] theorem execCoolingWaitEnd_keepsBooks (t : Nat) (i : Nat) (fastTripTestPasses : Bool) (s : State) :
    KeepsBooks s (execCoolingWaitEnd t i fastTripTestPasses s) := by
  unfold execCoolingWaitEnd; simp
@[simp] theorem execPrechargeComplete_keepsBooks (t : Nat) (i : Nat) (s : State) :
    KeepsBooks s (execPrechargeComplete t i s) := by
  unfold execPrechargeComplete; simp
@[simp] theorem execPrechargeFault_keepsBooks (t : Nat) (i : Nat) (s : State) :
    KeepsBooks s (execPrechargeFault t i s) := by
  unfold execPrechargeFault; simp
@[simp] theorem execConnectedEntry_keepsBooks (t : Nat) (i : Nat) (s : State) :
    KeepsBooks s (execConnectedEntry t i s) := by
  unfold execConnectedEntry; simp
@[simp] theorem execPeriodBoundary_keepsBooks (t : Nat) (p : Nat) (code : Int) (s : State) :
    KeepsBooks s (execPeriodBoundary t p code s) := by
  unfold execPeriodBoundary; simp
@[simp] theorem execPwmReadbackMismatch_keepsBooks (t : Nat) (p : Nat) (s : State) :
    KeepsBooks s (execPwmReadbackMismatch t p s) := by
  unfold execPwmReadbackMismatch; simp
@[simp] theorem execCycleByCycleLimit_keepsBooks (t : Nat) (p : Nat) (acted : Bool) (s : State) :
    KeepsBooks s (execCycleByCycleLimit t p acted s) := by
  unfold execCycleByCycleLimit; simp
@[simp] theorem execPhaseInputImplausible_keepsBooks (t : Nat) (p : Nat) (s : State) :
    KeepsBooks s (execPhaseInputImplausible t p s) := by
  unfold execPhaseInputImplausible; simp
@[simp] theorem execEstimateMode_keepsBooks (t : Nat) (p : Nat) (s : State) : KeepsBooks s (execEstimateMode t p s) := by
  unfold execEstimateMode; simp
@[simp] theorem execEstimateModeEnd_keepsBooks (t : Nat) (p : Nat) (s : State) :
    KeepsBooks s (execEstimateModeEnd t p s) := by
  unfold execEstimateModeEnd; dsimp only; (repeat' split) <;> simp
@[simp] theorem execPhaseEvaluation_keepsBooks (t : Nat) (i : Nat) (s : State) :
    KeepsBooks s (execPhaseEvaluation t i s) := by
  unfold execPhaseEvaluation; simp
@[simp] theorem execReInterleave_keepsBooks (t : Nat) (i : Nat) (s : State) : KeepsBooks s (execReInterleave t i s) := by
  unfold execReInterleave; dsimp only; (repeat' split) <;> simp
@[simp] theorem execSlotShift_keepsBooks (t : Nat) (i : Nat) (s : State) : KeepsBooks s (execSlotShift t i s) := by
  unfold execSlotShift; dsimp only; (repeat' split) <;> simp
@[simp] theorem execSyncInLoss_keepsBooks (t : Nat) (i : Nat) (s : State) : KeepsBooks s (execSyncInLoss t i s) := by
  unfold execSyncInLoss; simp
@[simp] theorem execSyncInRelock_keepsBooks (t : Nat) (i : Nat) (s : State) : KeepsBooks s (execSyncInRelock t i s) := by
  unfold execSyncInRelock; simp
@[simp] theorem execBraking_keepsBooks (t : Nat) (p : Nat) (s : State) : KeepsBooks s (execBraking t p s) := by
  unfold execBraking; simp
@[simp] theorem execBrakingEnd_keepsBooks (t : Nat) (p : Nat) (s : State) : KeepsBooks s (execBrakingEnd t p s) := by
  unfold execBrakingEnd; simp
@[simp] theorem execGx2Poll_keepsBooks (t : Nat) (i : Nat) (r : List Gx2Reply) (s : State) :
    KeepsBooks s (execGx2Poll t i r s) := by
  unfold execGx2Poll; dsimp only
  (repeat' split) <;> simp (disch := intros; split <;> simp)
@[simp] theorem execGdbFlt_keepsBooks (t : Nat) (i : Nat) (s : State) : KeepsBooks s (execGdbFlt t i s) := by
  unfold execGdbFlt; dsimp only; (repeat' split) <;> simp
@[simp] theorem execDutyHoldExpiry_keepsBooks (t : Nat) (p : Nat) (s : State) :
    KeepsBooks s (execDutyHoldExpiry t p s) := by
  unfold execDutyHoldExpiry; simp
@[simp] theorem execCnvSetConfig_keepsBooks (q : Req) (s : State) : KeepsBooks s (execCnvSetConfig q s) := by
  unfold execCnvSetConfig; simp
@[simp] theorem execCnvGetConfig_keepsBooks (q : Req) (s : State) : KeepsBooks s (execCnvGetConfig q s) := by
  unfold execCnvGetConfig; simp
@[simp] theorem execCnvSetSlot_keepsBooks (q : Req) (s : State) : KeepsBooks s (execCnvSetSlot q s) := by
  unfold execCnvSetSlot; simp
@[simp] theorem execCnvGetStatus_keepsBooks (q : Req) (s : State) : KeepsBooks s (execCnvGetStatus q s) := by
  unfold execCnvGetStatus; simp
@[simp] theorem execCnvPhaseDisable_keepsBooks (q : Req) (s : State) : KeepsBooks s (execCnvPhaseDisable q s) := by
  unfold execCnvPhaseDisable; simp
@[simp] theorem execCnvPhaseRestore_keepsBooks (q : Req) (s : State) : KeepsBooks s (execCnvPhaseRestore q s) := by
  unfold execCnvPhaseRestore; simp
@[simp] theorem execCnvGetDrivers_keepsBooks (q : Req) (s : State) : KeepsBooks s (execCnvGetDrivers q s) := by
  unfold execCnvGetDrivers; simp

/-! ## Hvi -/

@[simp] theorem execShuntSample_keepsBooks (t : Nat) (i : Nat) (code : Int) (s : State) :
    KeepsBooks s (execShuntSample t i code s) := by
  unfold execShuntSample; simp
@[simp] theorem execIntegratorCheckpoint_keepsBooks (t : Nat) (s : State) :
    KeepsBooks s (execIntegratorCheckpoint t s) := by
  unfold execIntegratorCheckpoint; simp
@[simp] theorem execCalibrationStep_keepsBooks (t : Nat) (i : Nat) (avg : Rat) (s : State) :
    KeepsBooks s (execCalibrationStep t i avg s) := by
  unfold execCalibrationStep; simp
@[simp] theorem execCalibrationSwap_keepsBooks (t : Nat) (i : Nat) (ov : Overlap) (s : State) :
    KeepsBooks s (execCalibrationSwap t i ov s) := by
  unfold execCalibrationSwap; simp
@[simp] theorem execOverlapRepeat_keepsBooks (t : Nat) (i : Nat) (dI : Int) (s : State) :
    KeepsBooks s (execOverlapRepeat t i dI s) := by
  unfold execOverlapRepeat; simp
@[simp] theorem execVoltageSample_keepsBooks (t : Nat) (ch : Nat) (value : Int) (discarded beyond : Bool) (s : State) :
    KeepsBooks s (execVoltageSample t ch value discarded beyond s) := by
  unfold execVoltageSample; dsimp only; (repeat' split) <;> simp
@[simp] theorem execInsulationResult_keepsBooks (t : Nat) (rIso cE : Nat) (side : FaultSide) (s : State) :
    KeepsBooks s (execInsulationResult t rIso cE side s) := by
  unfold execInsulationResult; dsimp only; (repeat' split) <;> simp
@[simp] theorem execInjectionHandover_keepsBooks (t : Nat) (s : State) : KeepsBooks s (execInjectionHandover t s) := by
  unfold execInjectionHandover; dsimp only; (repeat' split) <;> simp
@[simp] theorem execFastTrip_keepsBooks (t : Nat) (i : Nat) (charge : Bool) (s : State) :
    KeepsBooks s (execFastTrip t i charge s) := by
  unfold execFastTrip; dsimp only; (repeat' split) <;> simp
@[simp] theorem execHviPlausibilityFailure_keepsBooks (t : Nat) (c : HviCheck) (i : Nat) (s : State) :
    KeepsBooks s (execHviPlausibilityFailure t c i s) := by
  unfold execHviPlausibilityFailure; simp
@[simp] theorem execStrGetMeas_keepsBooks (q : Req) (s : State) : KeepsBooks s (execStrGetMeas q s) := by
  unfold execStrGetMeas; simp
@[simp] theorem execStrSetShunt_keepsBooks (q : Req) (s : State) : KeepsBooks s (execStrSetShunt q s) := by
  unfold execStrSetShunt; simp
@[simp] theorem execStrGetCal_keepsBooks (q : Req) (s : State) : KeepsBooks s (execStrGetCal q s) := by
  unfold execStrGetCal; simp
@[simp] theorem execStrSetIso_keepsBooks (q : Req) (s : State) : KeepsBooks s (execStrSetIso q s) := by
  unfold execStrSetIso; simp
@[simp] theorem execStrGetIso_keepsBooks (q : Req) (s : State) : KeepsBooks s (execStrGetIso q s) := by
  unfold execStrGetIso; simp
@[simp] theorem execStrClearMeasFlags_keepsBooks (q : Req) (s : State) : KeepsBooks s (execStrClearMeasFlags q s) := by
  unfold execStrClearMeasFlags; simp

/-! ## Rack -/

@[simp] theorem execAuxSample_keepsBooks (t : Nat) (vsns : Nat) (shelfUv : Int) (acOk : Bool) (s : State) :
    KeepsBooks s (execAuxSample t vsns shelfUv acOk s) := by
  unfold execAuxSample; simp
@[simp] theorem execShelfFull_keepsBooks (t : Nat) (s : State) : KeepsBooks s (execShelfFull t s) := by
  unfold execShelfFull; simp
@[simp] theorem execPmbusPoll_keepsBooks (t : Nat) (r : List RectReading) (s : State) :
    KeepsBooks s (execPmbusPoll t r s) := by
  unfold execPmbusPoll; dsimp only
  refine keepsBooks_at t (.of_eq ?_)
  split
  · rfl
  · simp only [State.setRack_keeps, shareLoad_keeps]
    exact foldl_imbalances _ (fun s k => by split <;> simp) _ _
@[simp] theorem execPmbusAlert_keepsBooks (t : Nat) (segment : Nat) (words : List (Nat × BitVec 16)) (s : State) :
    KeepsBooks s (execPmbusAlert t segment words s) := by
  unfold execPmbusAlert; dsimp only
  refine keepsBooks_at t ?_
  split
  · exact .refl _
  · refine (StaysBalanced.of_eq (by simp)).trans (StaysBalanced.foldl (fun s e => ?_) _ _)
    (repeat' split) <;> simp
@[simp] theorem execRectifierRejoin_keepsBooks (t : Nat) (r : Nat) (s : State) :
    KeepsBooks s (execRectifierRejoin t r s) := by
  unfold execRectifierRejoin; simp
@[simp] theorem execCapEvaluation_keepsBooks (t : Nat) (s : State) : KeepsBooks s (execCapEvaluation t s) := by
  unfold execCapEvaluation; dsimp only; (repeat' split) <;> simp
@[simp] theorem execShedRestore_keepsBooks (t : Nat) (s : State) : KeepsBooks s (execShedRestore t s) := by
  unfold execShedRestore; dsimp only; (repeat' split) <;> simp
@[simp] theorem execAcLoss_keepsBooks (t : Nat) (s : State) : KeepsBooks s (execAcLoss t s) := by
  unfold execAcLoss; simp
@[simp] theorem execAcReturn_keepsBooks (t : Nat) (s : State) : KeepsBooks s (execAcReturn t s) := by
  unfold execAcReturn; simp
@[simp] theorem execShelfLow_keepsBooks (t : Nat) (s : State) : KeepsBooks s (execShelfLow t s) := by
  unfold execShelfLow; simp
@[simp] theorem execShelfCut_keepsBooks (t : Nat) (s : State) : KeepsBooks s (execShelfCut t s) := by
  unfold execShelfCut; simp
@[simp] theorem execEfuseSample_keepsBooks (t : Nat) (n : Nat) (v : EfReading) (s : State) :
    KeepsBooks s (execEfuseSample t n v s) := by
  unfold execEfuseSample; simp
@[simp] theorem execInsertionDelayEnd_keepsBooks (t : Nat) (n : Nat) (s : State) :
    KeepsBooks s (execInsertionDelayEnd t n s) := by
  unfold execInsertionDelayEnd; simp
@[simp] theorem execWindowExit_keepsBooks (t : Nat) (n : Nat) (s : State) : KeepsBooks s (execWindowExit t n s) := by
  unfold execWindowExit; simp
@[simp] theorem execEfuseFastTrip_keepsBooks (t : Nat) (n : Nat) (s : State) : KeepsBooks s (execEfuseFastTrip t n s) := by
  unfold execEfuseFastTrip; simp
@[simp] theorem execSoftStartExpiry_keepsBooks (t : Nat) (n : Nat) (s : State) :
    KeepsBooks s (execSoftStartExpiry t n s) := by
  unfold execSoftStartExpiry; simp
@[simp] theorem execPowerGood_keepsBooks (t : Nat) (n : Nat) (s : State) : KeepsBooks s (execPowerGood t n s) := by
  unfold execPowerGood; simp
@[simp] theorem execGateFault_keepsBooks (t : Nat) (n : Nat) (s : State) : KeepsBooks s (execGateFault t n s) := by
  unfold execGateFault; simp
@[simp] theorem execEfuseFault_keepsBooks (t : Nat) (n : Nat) (f : EfFault) (s : State) :
    KeepsBooks s (execEfuseFault t n f s) := by
  unfold execEfuseFault; dsimp only; (repeat' split) <;> simp
@[simp] theorem execRetryTimerExpiry_keepsBooks (t : Nat) (n : Nat) (s : State) :
    KeepsBooks s (execRetryTimerExpiry t n s) := by
  unfold execRetryTimerExpiry; simp
@[simp] theorem execFaultCountClear_keepsBooks (t : Nat) (n : Nat) (s : State) :
    KeepsBooks s (execFaultCountClear t n s) := by
  unfold execFaultCountClear; simp
@[simp] theorem execAuxSetBus_keepsBooks (q : Req) (s : State) : KeepsBooks s (execAuxSetBus q s) := by
  unfold execAuxSetBus; simp
@[simp] theorem execAuxGetBus_keepsBooks (q : Req) (s : State) : KeepsBooks s (execAuxGetBus q s) := by
  unfold execAuxGetBus; simp
@[simp] theorem execAuxSetCap_keepsBooks (q : Req) (s : State) : KeepsBooks s (execAuxSetCap q s) := by
  unfold execAuxSetCap; simp
@[simp] theorem execAuxSetFan_keepsBooks (q : Req) (s : State) : KeepsBooks s (execAuxSetFan q s) := by
  unfold execAuxSetFan; simp
@[simp] theorem execAuxGetStatus_keepsBooks (q : Req) (s : State) : KeepsBooks s (execAuxGetStatus q s) := by
  unfold execAuxGetStatus; simp
@[simp] theorem execAuxSetEf_keepsBooks (q : Req) (s : State) : KeepsBooks s (execAuxSetEf q s) := by
  unfold execAuxSetEf; simp
@[simp] theorem execAuxGetEf_keepsBooks (q : Req) (s : State) : KeepsBooks s (execAuxGetEf q s) := by
  unfold execAuxGetEf; simp
@[simp] theorem execAuxEfOn_keepsBooks (q : Req) (s : State) : KeepsBooks s (execAuxEfOn q s) := by
  unfold execAuxEfOn; simp
@[simp] theorem execAuxEfOff_keepsBooks (q : Req) (s : State) : KeepsBooks s (execAuxEfOff q s) := by
  unfold execAuxEfOff; simp
@[simp] theorem execAuxEfReset_keepsBooks (q : Req) (s : State) : KeepsBooks s (execAuxEfReset q s) := by
  unfold execAuxEfReset; simp

/-! ## Thermal -/

@[simp] theorem execTiSample_keepsBooks (t : Nat) (n : Nat) (r : TiReading) (s : State) :
    KeepsBooks s (execTiSample t n r s) := by
  unfold execTiSample; simp
@[simp] theorem execSensorRecovery_keepsBooks (t : Nat) (n : Nat) (s : State) :
    KeepsBooks s (execSensorRecovery t n s) := by
  unfold execSensorRecovery; dsimp only; (repeat' split) <;> simp
@[simp] theorem execSysSetTi_keepsBooks (q : Req) (s : State) : KeepsBooks s (execSysSetTi q s) := by
  unfold execSysSetTi; simp
@[simp] theorem execSysGetTi_keepsBooks (q : Req) (s : State) : KeepsBooks s (execSysGetTi q s) := by
  unfold execSysGetTi; simp
@[simp] theorem execSysSetThermalWarn_keepsBooks (q : Req) (s : State) : KeepsBooks s (execSysSetThermalWarn q s) := by
  unfold execSysSetThermalWarn; simp
@[simp] theorem execSysGetThermal_keepsBooks (q : Req) (s : State) : KeepsBooks s (execSysGetThermal q s) := by
  unfold execSysGetThermal; simp

/-! ## Rings -/

@[simp] theorem execFrameLost_keepsBooks (t : Nat) (i m seq : Nat) (s : State) :
    KeepsBooks s (execFrameLost t i m seq s) := by
  unfold execFrameLost; dsimp only; (repeat' split) <;> simp
@[simp] theorem execPortDown_keepsBooks (t : Nat) (i term : Nat) (s : State) : KeepsBooks s (execPortDown t i term s) := by
  unfold execPortDown; dsimp only; (repeat' split) <;> simp
@[simp] theorem execPortUp_keepsBooks (t : Nat) (i term : Nat) (s : State) : KeepsBooks s (execPortUp t i term s) := by
  unfold execPortUp; dsimp only; (repeat' split) <;> simp
@[simp] theorem execTwoEndedOperation_keepsBooks (t : Nat) (i : Nat) (s : State) :
    KeepsBooks s (execTwoEndedOperation t i s) := by
  unfold execTwoEndedOperation; simp
@[simp] theorem execTwoEndedExit_keepsBooks (t : Nat) (i : Nat) (s : State) : KeepsBooks s (execTwoEndedExit t i s) := by
  unfold execTwoEndedExit; simp
@[simp] theorem execTurnedFrame_keepsBooks (t : Nat) (i m seq : Nat) (s : State) :
    KeepsBooks s (execTurnedFrame t i m seq s) := by
  unfold execTurnedFrame; dsimp only; (repeat' split) <;> simp
@[simp] theorem execLinkCrcBurst_keepsBooks (t : Nat) (i pos port count : Nat) (s : State) :
    KeepsBooks s (execLinkCrcBurst t i pos port count s) := by
  unfold execLinkCrcBurst; simp
@[simp] theorem execDelay_keepsBooks (t : Nat) (i link delayNs : Nat) (s : State) :
    KeepsBooks s (execDelay t i link delayNs s) := by
  unfold execDelay; simp
@[simp] theorem execBeacon_keepsBooks (t : Nat) (i : Nat) (s : State) : KeepsBooks s (execBeacon t i s) := by
  unfold execBeacon; simp
@[simp] theorem execBeaconReturn_keepsBooks (t : Nat) (i : Nat) (b : BeaconCopy) (s : State) :
    KeepsBooks s (execBeaconReturn t i b s) := by
  unfold execBeaconReturn; dsimp only; (repeat' split) <;> simp
@[simp] theorem execBeaconTimeout_keepsBooks (t : Nat) (i m : Nat) (s : State) :
    KeepsBooks s (execBeaconTimeout t i m s) := by
  unfold execBeaconTimeout; simp
@[simp] theorem execMonitorRestart_keepsBooks (t : Nat) (i m : Nat) (s : State) :
    KeepsBooks s (execMonitorRestart t i m s) := by
  unfold execMonitorRestart; simp
@[simp] theorem execHardwareComparatorAlarm_keepsBooks (t : Nat) (i m : Nat) (k : Comparator) (ch : Nat) (s : State) :
    KeepsBooks s (execHardwareComparatorAlarm t i m k ch s) := by
  unfold execHardwareComparatorAlarm; simp
@[simp] theorem execAlarmDetailRead_keepsBooks (t : Nat) (i m : Nat) (s : State) :
    KeepsBooks s (execAlarmDetailRead t i m s) := by
  unfold execAlarmDetailRead; simp
@[simp] theorem execEnumFrame_keepsBooks (t : Nat) (i : Nat) (s : State) : KeepsBooks s (execEnumFrame t i s) := by
  unfold execEnumFrame; simp
@[simp] theorem execUnaddressedMonitor_keepsBooks (t : Nat) (i : Nat) (s : State) :
    KeepsBooks s (execUnaddressedMonitor t i s) := by
  unfold execUnaddressedMonitor; simp
@[simp] theorem execEnumReturn_keepsBooks (t : Nat) (i : Nat) (e : EnumReturn) (s : State) :
    KeepsBooks s (execEnumReturn t i e s) := by
  unfold execEnumReturn; simp
@[simp] theorem execSched_keepsBooks (t : Nat) (i : Nat) (s : State) : KeepsBooks s (execSched t i s) := by
  unfold execSched; simp
@[simp] theorem execRoundTrigger_keepsBooks (t : Nat) (s : State) : KeepsBooks s (execRoundTrigger t s) := by
  unfold execRoundTrigger; dsimp only; (repeat' split) <;> simp
@[simp] theorem execRoundRead_keepsBooks (t : Nat) (i m : Nat) (s : State) : KeepsBooks s (execRoundRead t i m s) := by
  unfold execRoundRead; simp
@[simp] theorem execData_keepsBooks (t : Nat) (i m seq : Nat) (kind : Nat) (d : RoundData) (s : State) :
    KeepsBooks s (execData t i m seq kind d s) := by
  unfold execData; dsimp only
  refine keepsBooks_at t (StaysBalanced.of_eq ?_)
  split
  · rfl
  split
  · split
    next h => rw [← response_bal h]; (repeat' split) <;> simp
    next h => rw [response_bal h]
  · split <;> simp
@[simp] theorem execRoundClose_keepsBooks (t : Nat) (s : State) : KeepsBooks s (execRoundClose t s) := by
  unfold execRoundClose; simp
@[simp] theorem execBleedSet_keepsBooks (t : Nat) (i m : Nat) (own : Bool) (mask : BitVec 32) (floor duration : Nat)
    (s : State) :
    KeepsBooks s (execBleedSet t i m own mask floor duration s) := by
  unfold execBleedSet; dsimp only
  refine keepsBooks_at t (StaysBalanced.of_eq ?_)
  split
  next h => rw [cmdFrame_bal h]
  next h => simp [cmdFrame_bal h]
@[simp] theorem execBleedStop_keepsBooks (t : Nat) (i m : Nat) (own : Bool) (mask : BitVec 32) (s : State) :
    KeepsBooks s (execBleedStop t i m own mask s) := by
  unfold execBleedStop; dsimp only
  refine keepsBooks_at t (StaysBalanced.of_eq ?_)
  split
  next h => rw [cmdFrame_bal h]
  next h => simp [cmdFrame_bal h]
@[simp] theorem execShuttleSet_keepsBooks (t : Nat) (i m : Nat) (own : Bool) (a : ShuttleArgs) (s : State) :
    KeepsBooks s (execShuttleSet t i m own a s) := by
  unfold execShuttleSet; dsimp only
  refine keepsBooks_at t (StaysBalanced.of_eq ?_)
  split
  next h => rw [cmdFrame_bal h]
  next h => simp [cmdFrame_bal h]
@[simp] theorem execShuttleStop_keepsBooks (t : Nat) (i m : Nat) (own : Bool) (s : State) :
    KeepsBooks s (execShuttleStop t i m own s) := by
  unfold execShuttleStop; dsimp only
  refine keepsBooks_at t (StaysBalanced.of_eq ?_)
  split
  next h => rw [cmdFrame_bal h]
  next h => simp [cmdFrame_bal h]
@[simp] theorem execLinkDisable_keepsBooks (t : Nat) (i m : Nat) (own : Bool) (port : Nat) (s : State) :
    KeepsBooks s (execLinkDisable t i m own port s) := by
  unfold execLinkDisable; simp
@[simp] theorem execLinkEnable_keepsBooks (t : Nat) (i m : Nat) (own : Bool) (port : Nat) (s : State) :
    KeepsBooks s (execLinkEnable t i m own port s) := by
  unfold execLinkEnable; simp
@[simp] theorem execAck_keepsBooks (t : Nat) (i m seq code result value : Nat) (s : State) :
    KeepsBooks s (execAck t i m seq code result value s) := by
  unfold execAck; dsimp only
  refine keepsBooks_at t (StaysBalanced.of_eq ?_)
  split
  · rfl
  split
  next h => rw [response_bal h]
  next h => rw [← response_bal h]; (repeat' split) <;> simp
@[simp] theorem execBleedEnd_keepsBooks (t : Nat) (i m ch vMv : Nat) (s : State) :
    KeepsBooks s (execBleedEnd t i m ch vMv s) := by
  unfold execBleedEnd; simp
@[simp] theorem execShuttleEnd_keepsBooks (t : Nat) (i m vMv : Nat) (s : State) :
    KeepsBooks s (execShuttleEnd t i m vMv s) := by
  unfold execShuttleEnd; dsimp only; (repeat' split) <;> simp
@[simp] theorem execBalanceRead_keepsBooks (t : Nat) (i : Nat) (s : State) : KeepsBooks s (execBalanceRead t i s) := by
  unfold execBalanceRead; simp
@[simp] theorem execStrSetRing_keepsBooks (q : Req) (s : State) : KeepsBooks s (execStrSetRing q s) := by
  unfold execStrSetRing; simp
@[simp] theorem execStrEnumerate_keepsBooks (q : Req) (s : State) : KeepsBooks s (execStrEnumerate q s) := by
  unfold execStrEnumerate; simp
@[simp] theorem execStrRingLink_keepsBooks (q : Req) (s : State) : KeepsBooks s (execStrRingLink q s) := by
  unfold execStrRingLink; simp
@[simp] theorem execStrGetRing_keepsBooks (q : Req) (s : State) : KeepsBooks s (execStrGetRing q s) := by
  unfold execStrGetRing; simp
@[simp] theorem execStrGetRound_keepsBooks (q : Req) (s : State) : KeepsBooks s (execStrGetRound q s) := by
  unfold execStrGetRound; simp

/-! ## Cee -/

@[simp] theorem execStepRateChange_keepsBooks (t : Nat) (i : Nat) (s : State) :
    KeepsBooks s (execStepRateChange t i s) := by
  unfold execStepRateChange; dsimp only; (repeat' split) <;> simp
@[simp] theorem execJournalWrite_keepsBooks (t : Nat) (reason : Nat) (s : State) :
    KeepsBooks s (execJournalWrite t reason s) := by
  unfold execJournalWrite; simp
@[simp] theorem execJournalWriteDone_keepsBooks (t : Nat) (s : State) : KeepsBooks s (execJournalWriteDone t s) := by
  unfold execJournalWriteDone; dsimp only; (repeat' split) <;> simp
@[simp] theorem execRestWindowRequest_keepsBooks (t : Nat) (i : Nat) (s : State) :
    KeepsBooks s (execRestWindowRequest t i s) := by
  unfold execRestWindowRequest; simp
@[simp] theorem execAnchorOverdue_keepsBooks (t : Nat) (i : Nat) (s : State) : KeepsBooks s (execAnchorOverdue t i s) := by
  unfold execAnchorOverdue; simp
@[simp] theorem execCeePeriod_keepsBooks (t : Nat) (s : State) : KeepsBooks s (execCeePeriod t s) := by
  unfold execCeePeriod; simp
@[simp] theorem execEstSetConfig_keepsBooks (q : Req) (s : State) : KeepsBooks s (execEstSetConfig q s) := by
  unfold execEstSetConfig; simp
@[simp] theorem execEstGetConfig_keepsBooks (q : Req) (s : State) : KeepsBooks s (execEstGetConfig q s) := by
  unfold execEstGetConfig; simp
@[simp] theorem execEstGetCells_keepsBooks (q : Req) (s : State) : KeepsBooks s (execEstGetCells q s) := by
  unfold execEstGetCells; simp
@[simp] theorem execEstMapTable_keepsBooks (q : Req) (s : State) : KeepsBooks s (execEstMapTable q s) := by
  unfold execEstMapTable; simp
@[simp] theorem execEstGetSop_keepsBooks (q : Req) (s : State) : KeepsBooks s (execEstGetSop q s) := by
  unfold execEstGetSop; simp
@[simp] theorem execEstSetSoc_keepsBooks (q : Req) (s : State) : KeepsBooks s (execEstSetSoc q s) := by
  unfold execEstSetSoc; simp
@[simp] theorem execEstResetCell_keepsBooks (q : Req) (s : State) : KeepsBooks s (execEstResetCell q s) := by
  unfold execEstResetCell; simp
@[simp] theorem execEstJournal_keepsBooks (q : Req) (s : State) : KeepsBooks s (execEstJournal q s) := by
  unfold execEstJournal; simp
@[simp] theorem execEstRequestAnchor_keepsBooks (q : Req) (s : State) : KeepsBooks s (execEstRequestAnchor q s) := by
  unfold execEstRequestAnchor; simp
@[simp] theorem execEstGetStatus_keepsBooks (q : Req) (s : State) : KeepsBooks s (execEstGetStatus q s) := by
  unfold execEstGetStatus; simp

/-! ## Tpe -/

@[simp] theorem execTpeSetPlan_keepsBooks (q : Req) (s : State) : KeepsBooks s (execTpeSetPlan q s) := by
  unfold execTpeSetPlan; simp
@[simp] theorem execPlanEffect_keepsBooks (t : Nat) (s : State) : KeepsBooks s (execPlanEffect t s) := by
  unfold execPlanEffect; dsimp only; (repeat' split) <;> simp
@[simp] theorem execInjectionStart_keepsBooks (t : Nat) (pair : Nat) (s : State) :
    KeepsBooks s (execInjectionStart t pair s) := by
  unfold execInjectionStart; dsimp only; (repeat' split) <;> simp
@[simp] theorem execInjectionStop_keepsBooks (t : Nat) (pair : Nat) (s : State) :
    KeepsBooks s (execInjectionStop t pair s) := by
  unfold execInjectionStop; simp
@[simp] theorem execWindowStart_keepsBooks (t : Nat) (s : State) : KeepsBooks s (execWindowStart t s) := by
  unfold execWindowStart; dsimp only; (repeat' split) <;> simp
@[simp] theorem execTonePlan_keepsBooks (t : Nat) (i : Nat) (s : State) : KeepsBooks s (execTonePlan t i s) := by
  unfold execTonePlan; simp
@[simp] theorem execPhasor_keepsBooks (t : Nat) (i m : Nat) (s : State) : KeepsBooks s (execPhasor t i m s) := by
  unfold execPhasor; simp
@[simp] theorem execToneHalt_keepsBooks (t : Nat) (i : Nat) (s : State) : KeepsBooks s (execToneHalt t i s) := by
  unfold execToneHalt; simp
@[simp] theorem execToneWindowEnd_keepsBooks (t : Nat) (ph : List StringPhasor) (s : State) :
    KeepsBooks s (execToneWindowEnd t ph s) := by
  unfold execToneWindowEnd; dsimp only; (repeat' split) <;> simp
@[simp] theorem execImpedanceRead_keepsBooks (t : Nat) (i m block : Nat) (b : ImpBlock) (s : State) :
    KeepsBooks s (execImpedanceRead t i m block b s) := by
  unfold execImpedanceRead; simp
@[simp] theorem execImpedancePublish_keepsBooks (t : Nat) (s : State) : KeepsBooks s (execImpedancePublish t s) := by
  unfold execImpedancePublish; dsimp only
  refine keepsBooks_at t (.of_eq ?_)
  split
  · rfl
  · simp only [icuShared_keeps, syncWarnings_keeps, State.setTpe_keeps]
    exact foldl_imbalances _ (by simp) _ _
@[simp] theorem execBlockMissing_keepsBooks (t : Nat) (i m block : Nat) (s : State) :
    KeepsBooks s (execBlockMissing t i m block s) := by
  unfold execBlockMissing; simp
@[simp] theorem execCoreOffsetLearning_keepsBooks (t : Nat) (c : Nat) (s : State) :
    KeepsBooks s (execCoreOffsetLearning t c s) := by
  unfold execCoreOffsetLearning; dsimp only; (repeat' split) <;> simp
@[simp] theorem execPrecursorDelivery_keepsBooks (t : Nat) (s : State) : KeepsBooks s (execPrecursorDelivery t s) := by
  unfold execPrecursorDelivery; simp
@[simp] theorem execTpeGetPlan_keepsBooks (q : Req) (s : State) : KeepsBooks s (execTpeGetPlan q s) := by
  unfold execTpeGetPlan; simp
@[simp] theorem execTpeGetResults_keepsBooks (q : Req) (s : State) : KeepsBooks s (execTpeGetResults q s) := by
  unfold execTpeGetResults; simp
@[simp] theorem execTpeMapResults_keepsBooks (q : Req) (s : State) : KeepsBooks s (execTpeMapResults q s) := by
  unfold execTpeMapResults; simp
@[simp] theorem execTpeGetPrecursor_keepsBooks (q : Req) (s : State) : KeepsBooks s (execTpeGetPrecursor q s) := by
  unfold execTpeGetPrecursor; simp
@[simp] theorem execTpeGetStatus_keepsBooks (q : Req) (s : State) : KeepsBooks s (execTpeGetStatus q s) := by
  unfold execTpeGetStatus; simp

/-! ## Alloc -/

@[simp] theorem execDspSetRequest_keepsBooks (q : Req) (s : State) : KeepsBooks s (execDspSetRequest q s) := by
  unfold execDspSetRequest; simp
@[simp] theorem execDspCancel_keepsBooks (q : Req) (s : State) : KeepsBooks s (execDspCancel q s) := by
  unfold execDspCancel; simp
@[simp] theorem execAllocation_keepsBooks (t : Nat) (s : State) : KeepsBooks s (execAllocation t s) := by
  unfold execAllocation; dsimp only; (repeat' split) <;> simp
@[simp] theorem execArming_keepsBooks (t : Nat) (s : State) : KeepsBooks s (execArming t s) := by
  unfold execArming; dsimp only; (repeat' split) <;> simp
@[simp] theorem execRequestExpiry_keepsBooks (t : Nat) (s : State) : KeepsBooks s (execRequestExpiry t s) := by
  unfold execRequestExpiry; dsimp only; (repeat' split) <;> simp
@[simp] theorem execRestWindowGrant_keepsBooks (t : Nat) (i : Nat) (s : State) :
    KeepsBooks s (execRestWindowGrant t i s) := by
  unfold execRestWindowGrant; simp
@[simp] theorem execRestWindowEnd_keepsBooks (t : Nat) (i : Nat) (s : State) : KeepsBooks s (execRestWindowEnd t i s) := by
  unfold execRestWindowEnd; dsimp only; (repeat' split) <;> simp
@[simp] theorem execDspGetStatus_keepsBooks (q : Req) (s : State) : KeepsBooks s (execDspGetStatus q s) := by
  unfold execDspGetStatus; simp
@[simp] theorem execDspGetQueue_keepsBooks (q : Req) (s : State) : KeepsBooks s (execDspGetQueue q s) := by
  unfold execDspGetQueue; simp
@[simp] theorem execDspSetConfig_keepsBooks (q : Req) (s : State) : KeepsBooks s (execDspSetConfig q s) := by
  unfold execDspSetConfig; simp
@[simp] theorem execDspGetConfig_keepsBooks (q : Req) (s : State) : KeepsBooks s (execDspGetConfig q s) := by
  unfold execDspGetConfig; simp

/-! ## Balance -/

@[simp] theorem execPlanningCycle_keepsBooks (t : Nat) (i : Nat) (s : State) : KeepsBooks s (execPlanningCycle t i s) := by
  unfold execPlanningCycle; simp
@[simp] theorem execBalancingStop_keepsBooks (t : Nat) (i : Nat) (s : State) : KeepsBooks s (execBalancingStop t i s) := by
  unfold execBalancingStop; simp
@[simp] theorem execAllowanceChange_keepsBooks (t : Nat) (s : State) : KeepsBooks s (execAllowanceChange t s) := by
  unfold execAllowanceChange; simp
@[simp] theorem execBalSetConfig_keepsBooks (q : Req) (s : State) : KeepsBooks s (execBalSetConfig q s) := by
  unfold execBalSetConfig; simp
@[simp] theorem execBalGetConfig_keepsBooks (q : Req) (s : State) : KeepsBooks s (execBalGetConfig q s) := by
  unfold execBalGetConfig; simp
@[simp] theorem execBalSetBudget_keepsBooks (q : Req) (s : State) : KeepsBooks s (execBalSetBudget q s) := by
  unfold execBalSetBudget; simp
@[simp] theorem execBalHold_keepsBooks (q : Req) (s : State) : KeepsBooks s (execBalHold q s) := by
  unfold execBalHold; simp
@[simp] theorem execBalGetPlan_keepsBooks (q : Req) (s : State) : KeepsBooks s (execBalGetPlan q s) := by
  unfold execBalGetPlan; simp
@[simp] theorem execBalGetLedger_keepsBooks (q : Req) (s : State) : KeepsBooks s (execBalGetLedger q s) := by
  unfold execBalGetLedger; simp

/-! ## Can -/

@[simp] theorem execCanCtrlWrite_keepsBooks (t : Nat) (app : Bool) (c : Nat) (value : BitVec 32) (s : State) :
    KeepsBooks s (execCanCtrlWrite t app c value s) := by
  unfold execCanCtrlWrite; simp
@[simp] theorem execCanTxqPutWrite_keepsBooks (t : Nat) (app : Bool) (c put : Nat) (s : State) :
    KeepsBooks s (execCanTxqPutWrite t app c put s) := by
  unfold execCanTxqPutWrite; simp
@[simp] theorem execCanCancel_keepsBooks (t : Nat) (app : Bool) (c : Nat) (s : State) :
    KeepsBooks s (execCanCancel t app c s) := by
  unfold execCanCancel; simp
@[simp] theorem execTxHol_keepsBooks (t : Nat) (c : Nat) (s : State) : KeepsBooks s (execTxHol t c s) := by
  unfold execTxHol; simp
@[simp] theorem execCanFrameReceived_keepsBooks (t : Nat) (c : Nat) (f : CanFrame) (s : State) :
    KeepsBooks s (execCanFrameReceived t c f s) := by
  unfold execCanFrameReceived; simp
@[simp] theorem execCanRxqGetWrite_keepsBooks (t : Nat) (app : Bool) (c k get : Nat) (s : State) :
    KeepsBooks s (execCanRxqGetWrite t app c k get s) := by
  unfold execCanRxqGetWrite; simp
@[simp] theorem execCanTxComplete_keepsBooks (t : Nat) (c outcome : Nat) (s : State) :
    KeepsBooks s (execCanTxComplete t c outcome s) := by
  unfold execCanTxComplete; simp
@[simp] theorem execBusOff_keepsBooks (t : Nat) (c : Nat) (s : State) : KeepsBooks s (execBusOff t c s) := by
  unfold execBusOff; simp
@[simp] theorem execBusOffRecovery_keepsBooks (t : Nat) (c : Nat) (s : State) :
    KeepsBooks s (execBusOffRecovery t c s) := by
  unfold execBusOffRecovery; simp
@[simp] theorem execCanSetConfig_keepsBooks (q : Req) (s : State) : KeepsBooks s (execCanSetConfig q s) := by
  unfold execCanSetConfig; simp
@[simp] theorem execCanGetConfig_keepsBooks (q : Req) (s : State) : KeepsBooks s (execCanGetConfig q s) := by
  unfold execCanGetConfig; simp
@[simp] theorem execCanGetStatus_keepsBooks (q : Req) (s : State) : KeepsBooks s (execCanGetStatus q s) := by
  unfold execCanGetStatus; simp
@[simp] theorem execCanSetFilter_keepsBooks (q : Req) (s : State) : KeepsBooks s (execCanSetFilter q s) := by
  unfold execCanSetFilter; simp
@[simp] theorem execCanSend_keepsBooks (q : Req) (s : State) : KeepsBooks s (execCanSend q s) := by
  unfold execCanSend; simp
@[simp] theorem execCanRead_keepsBooks (q : Req) (s : State) : KeepsBooks s (execCanRead q s) := by
  unfold execCanRead; simp
@[simp] theorem execCanDelegate_keepsBooks (q : Req) (s : State) : KeepsBooks s (execCanDelegate q s) := by
  unfold execCanDelegate; dsimp only
  refine command_keepsBooks _ _ _ _ fun s => ?_
  simp only [ok_keeps]
  exact foldl_imbalances _ (by simp) _ _

/-! ## Net -/

@[simp] theorem execNetSetPort_keepsBooks (q : Req) (s : State) : KeepsBooks s (execNetSetPort q s) := by
  unfold execNetSetPort; simp
@[simp] theorem execNetGetPort_keepsBooks (q : Req) (s : State) : KeepsBooks s (execNetGetPort q s) := by
  unfold execNetGetPort; simp
@[simp] theorem execNetGetStats_keepsBooks (q : Req) (s : State) : KeepsBooks s (execNetGetStats q s) := by
  unfold execNetGetStats; simp
@[simp] theorem execNetSetMgmt_keepsBooks (q : Req) (s : State) : KeepsBooks s (execNetSetMgmt q s) := by
  unfold execNetSetMgmt; simp
@[simp] theorem execNetGetMgmt_keepsBooks (q : Req) (s : State) : KeepsBooks s (execNetGetMgmt q s) := by
  unfold execNetGetMgmt; simp
@[simp] theorem execEthFrameReceived_keepsBooks (t : Nat) (port : Nat) (f : EthFrame) (s : State) :
    KeepsBooks s (execEthFrameReceived t port f s) := by
  unfold execEthFrameReceived; simp
@[simp] theorem execLinkLossReturn_keepsBooks (t : Nat) (port : Nat) (up : Bool) (s : State) :
    KeepsBooks s (execLinkLossReturn t port up s) := by
  unfold execLinkLossReturn; simp

/-! ## Boot -/

@[simp] theorem execBootListenEnd_keepsBooks (t : Nat) (s : State) : KeepsBooks s (execBootListenEnd t s) := by
  unfold execBootListenEnd; dsimp only; (repeat' split) <;> simp
@[simp] theorem execSysRestart_keepsBooks (q : Req) (s : State) : KeepsBooks s (execSysRestart q s) :=
  command_keepsBooks_of_staysBalanced fun _ => (StaysBalanced.of_eq (by simp)).trans (enterBoot_staysBalanced _ _)

/-! ## PeatLog -/

@[simp] theorem execRecordSubmit_keepsBooks (t : Nat) (r : PeatIn) (s : State) : KeepsBooks s (execRecordSubmit t r s) := by
  unfold execRecordSubmit; simp
@[simp] theorem execDormantRecordFlush_keepsBooks (t : Nat) (s : State) : KeepsBooks s (execDormantRecordFlush t s) := by
  unfold execDormantRecordFlush; simp
@[simp] theorem execLogGetStatus_keepsBooks (q : Req) (s : State) : KeepsBooks s (execLogGetStatus q s) := by
  unfold execLogGetStatus; simp
@[simp] theorem execLogRead_keepsBooks (q : Req) (s : State) : KeepsBooks s (execLogRead q s) := by
  unfold execLogRead; simp
@[simp] theorem execLogClear_keepsBooks (q : Req) (s : State) : KeepsBooks s (execLogClear q s) := by
  unfold execLogClear; simp

/-! ## Seq -/

@[simp] theorem execOnRequest_keepsBooks (t : Nat) (src : OnSource) (s : State) : KeepsBooks s (execOnRequest t src s) := by
  unfold execOnRequest; simp
@[simp] theorem execMinimumOffTimeEnd_keepsBooks (t : Nat) (s : State) : KeepsBooks s (execMinimumOffTimeEnd t s) := by
  unfold execMinimumOffTimeEnd; dsimp only; (repeat' split) <;> simp
@[simp] theorem execSeqWatchEnd_keepsBooks (t : Nat) (seen : LineSeen) (s : State) :
    KeepsBooks s (execSeqWatchEnd t seen s) := by
  unfold execSeqWatchEnd; dsimp only; (repeat' split) <;> simp
@[simp] theorem execSystemPowerUpStart_keepsBooks (t : Nat) (s : State) : KeepsBooks s (execSystemPowerUpStart t s) := by
  unfold execSystemPowerUpStart; dsimp only; (repeat' split) <;> simp
@[simp] theorem execPowerupStepDone_keepsBooks (t : Nat) (failing : BitVec 8) (s : State) :
    KeepsBooks s (execPowerupStepDone t failing s) := by
  unfold execPowerupStepDone; dsimp only
  (repeat' split) <;> simp [enterBoot_allZero]
@[simp] theorem execPowerUpFailure_keepsBooks (t : Nat) (s : State) : KeepsBooks s (execPowerUpFailure t s) := by
  unfold execPowerUpFailure; simp
@[simp] theorem execPreOffSteps_keepsBooks (t : Nat) (s : State) : KeepsBooks s (execPreOffSteps t s) := by
  unfold execPreOffSteps; simp
@[simp] theorem execPreOffDisconnect_keepsBooks (t : Nat) (s : State) : KeepsBooks s (execPreOffDisconnect t s) := by
  unfold execPreOffDisconnect; simp
@[simp] theorem execRailStart_keepsBooks (t : Nat) (r : Nat) (s : State) : KeepsBooks s (execRailStart t r s) := by
  unfold execRailStart; dsimp only; (repeat' split) <;> simp
@[simp] theorem execRailGood_keepsBooks (t : Nat) (r : Nat) (s : State) : KeepsBooks s (execRailGood t r s) := by
  unfold execRailGood; dsimp only; (repeat' split) <;> simp
@[simp] theorem execStartFailure_keepsBooks (t : Nat) (r : Nat) (s : State) : KeepsBooks s (execStartFailure t r s) := by
  unfold execStartFailure; dsimp only; (repeat' split) <;> simp
@[simp] theorem execRailDischarge_keepsBooks (t : Nat) (r : Nat) (below : Bool) (s : State) :
    KeepsBooks s (execRailDischarge t r below s) := by
  unfold execRailDischarge; dsimp only; (repeat' split) <;> simp
@[simp] theorem execSeqStep_keepsBooks (t : Nat) (s : State) : KeepsBooks s (execSeqStep t s) := by
  unfold execSeqStep; dsimp only; (repeat' split) <;> simp
@[simp] theorem execReverseMarker_keepsBooks (t : Nat) (s : State) : KeepsBooks s (execReverseMarker t s) := by
  unfold execReverseMarker; simp
@[simp] theorem execUpBeacon_keepsBooks (t : Nat) (s : State) : KeepsBooks s (execUpBeacon t s) := by
  unfold execUpBeacon; simp
@[simp] theorem execSystemPowerDownStart_keepsBooks (t : Nat) (s : State) :
    KeepsBooks s (execSystemPowerDownStart t s) := by
  unfold execSystemPowerDownStart; dsimp only; (repeat' split) <;> simp
@[simp] theorem execStuckLine_keepsBooks (t : Nat) (s : State) : KeepsBooks s (execStuckLine t s) := by
  unfold execStuckLine; simp
@[simp] theorem execSeqCinHigh_keepsBooks (t : Nat) (s : State) : KeepsBooks s (execSeqCinHigh t s) := by
  unfold execSeqCinHigh; simp
@[simp] theorem execRunningRailFault_keepsBooks (t : Nat) (r : Nat) (s : State) :
    KeepsBooks s (execRunningRailFault t r s) := by
  unfold execRunningRailFault; dsimp only; (repeat' split) <;> simp
@[simp] theorem execRailFaultHoldEnd_keepsBooks (t : Nat) (r : Nat) (s : State) :
    KeepsBooks s (execRailFaultHoldEnd t r s) := by
  unfold execRailFaultHoldEnd; simp
@[simp] theorem execPbNPress_keepsBooks (t : Nat) (heldMs : Nat) (s : State) : KeepsBooks s (execPbNPress t heldMs s) := by
  unfold execPbNPress; dsimp only; (repeat' split) <;> simp
@[simp] theorem execForcedOff_keepsBooks (t : Nat) (s : State) : KeepsBooks s (execForcedOff t s) := by
  unfold execForcedOff; simp
@[simp] theorem execMrN_keepsBooks (t : Nat) (s : State) : KeepsBooks s (execMrN t s) := by
  unfold execMrN; simp
@[simp] theorem execMrNRelease_keepsBooks (t : Nat) (s : State) : KeepsBooks s (execMrNRelease t s) := by
  unfold execMrNRelease; dsimp only
  (repeat' split) <;> simp [enterBoot_allZero]
@[simp] theorem execSeqSetTable_keepsBooks (q : Req) (s : State) : KeepsBooks s (execSeqSetTable q s) := by
  unfold execSeqSetTable; simp
@[simp] theorem execSeqGetTable_keepsBooks (q : Req) (s : State) : KeepsBooks s (execSeqGetTable q s) := by
  unfold execSeqGetTable; simp
@[simp] theorem execSeqGetStatus_keepsBooks (q : Req) (s : State) : KeepsBooks s (execSeqGetStatus q s) := by
  unfold execSeqGetStatus; simp
@[simp] theorem execSeqOff_keepsBooks (q : Req) (s : State) : KeepsBooks s (execSeqOff q s) := by
  unfold execSeqOff; simp
@[simp] theorem execSeqCancelOff_keepsBooks (q : Req) (s : State) : KeepsBooks s (execSeqCancelOff q s) := by
  unfold execSeqCancelOff; simp

/-! ## Sys -/

@[simp] theorem execSysEcho_keepsBooks (q : Req) (s : State) : KeepsBooks s (execSysEcho q s) := by
  unfold execSysEcho; simp
@[simp] theorem execSysGetInfo_keepsBooks (q : Req) (s : State) : KeepsBooks s (execSysGetInfo q s) := by
  unfold execSysGetInfo; simp
@[simp] theorem execSysGetStatus_keepsBooks (q : Req) (s : State) : KeepsBooks s (execSysGetStatus q s) := by
  unfold execSysGetStatus; simp
@[simp] theorem execSysSetPowerPolicy_keepsBooks (q : Req) (s : State) : KeepsBooks s (execSysSetPowerPolicy q s) := by
  unfold execSysSetPowerPolicy; simp
@[simp] theorem execSysGetPowerState_keepsBooks (q : Req) (s : State) : KeepsBooks s (execSysGetPowerState q s) := by
  unfold execSysGetPowerState; simp
@[simp] theorem execSysSetVbak_keepsBooks (q : Req) (s : State) : KeepsBooks s (execSysSetVbak q s) := by
  unfold execSysSetVbak; simp
@[simp] theorem execSysSetAlarm_keepsBooks (q : Req) (s : State) : KeepsBooks s (execSysSetAlarm q s) := by
  unfold execSysSetAlarm; simp
@[simp] theorem execSysWinAlloc_keepsBooks (q : Req) (s : State) : KeepsBooks s (execSysWinAlloc q s) := by
  unfold execSysWinAlloc; simp
@[simp] theorem execSysWinFree_keepsBooks (q : Req) (s : State) : KeepsBooks s (execSysWinFree q s) := by
  unfold execSysWinFree; simp
@[simp] theorem execSysSetSlots_keepsBooks (q : Req) (s : State) : KeepsBooks s (execSysSetSlots q s) := by
  unfold execSysSetSlots; simp

/-! ## Power -/

@[simp] theorem execVinLoss_keepsBooks (t : Nat) (vin : Nat) (s : State) : KeepsBooks s (execVinLoss t vin s) := by
  unfold execVinLoss; dsimp only; (repeat' split) <;> simp
@[simp] theorem execVinReturn_keepsBooks (t : Nat) (vin : Nat) (s : State) : KeepsBooks s (execVinReturn t vin s) := by
  unfold execVinReturn; dsimp only; (repeat' split) <;> simp
@[simp] theorem execHoldupSwapRequest_keepsBooks (t : Nat) (s : State) : KeepsBooks s (execHoldupSwapRequest t s) := by
  unfold execHoldupSwapRequest; simp
@[simp] theorem execHoldupRampStep_keepsBooks (t : Nat) (s : State) : KeepsBooks s (execHoldupRampStep t s) := by
  unfold execHoldupRampStep; simp
@[simp] theorem execHoldupDisconnectStep_keepsBooks (t : Nat) (s : State) :
    KeepsBooks s (execHoldupDisconnectStep t s) := by
  unfold execHoldupDisconnectStep; simp
@[simp] theorem execMramWriteback_keepsBooks (t : Nat) (s : State) : KeepsBooks s (execMramWriteback t s) := by
  unfold execMramWriteback; simp
@[simp] theorem execRetentionEntry_keepsBooks (t : Nat) (s : State) : KeepsBooks s (execRetentionEntry t s) := by
  unfold execRetentionEntry; simp
@[simp] theorem execVbakCritical_keepsBooks (t : Nat) (vbak : Nat) (s : State) :
    KeepsBooks s (execVbakCritical t vbak s) := by
  unfold execVbakCritical; simp
@[simp] theorem execVbakRetentionFloor_keepsBooks (t : Nat) (vbak : Nat) (s : State) :
    KeepsBooks s (execVbakRetentionFloor t vbak s) := by
  unfold execVbakRetentionFloor; simp
@[simp] theorem execEAvailUpdate_keepsBooks (t : Nat) (vbak : Nat) (s : State) :
    KeepsBooks s (execEAvailUpdate t vbak s) := by
  unfold execEAvailUpdate; simp
@[simp] theorem execCapacitanceMeasurement_keepsBooks (t : Nat) (droop esr : Nat) (s : State) :
    KeepsBooks s (execCapacitanceMeasurement t droop esr s) := by
  unfold execCapacitanceMeasurement; simp
@[simp] theorem execFloatEntry_keepsBooks (t : Nat) (s : State) : KeepsBooks s (execFloatEntry t s) := by
  unfold execFloatEntry; simp
@[simp] theorem execFloatExit_keepsBooks (t : Nat) (s : State) : KeepsBooks s (execFloatExit t s) := by
  unfold execFloatExit; simp
@[simp] theorem execFloatClockRaise_keepsBooks (t : Nat) (instant : Nat) (s : State) :
    KeepsBooks s (execFloatClockRaise t instant s) := by
  unfold execFloatClockRaise; simp
@[simp] theorem execDormantEntry_keepsBooks (t : Nat) (s : State) : KeepsBooks s (execDormantEntry t s) := by
  unfold execDormantEntry; simp
@[simp] theorem execWakeEvent_keepsBooks (t : Nat) (w : WakeCause) (s : State) : KeepsBooks s (execWakeEvent t w s) := by
  unfold execWakeEvent; simp
@[simp] theorem execClockFailure_keepsBooks (t : Nat) (d : ClockDomain) (s : State) :
    KeepsBooks s (execClockFailure t d s) := by
  unfold execClockFailure; dsimp only; (repeat' split) <;> simp
@[simp] theorem execXrefRetry_keepsBooks (t : Nat) (ok : Bool) (s : State) : KeepsBooks s (execXrefRetry t ok s) := by
  unfold execXrefRetry; simp
@[simp] theorem execSupRestart_keepsBooks (t : Nat) (s : State) : KeepsBooks s (execSupRestart t s) := by
  unfold execSupRestart; simp
@[simp] theorem execImbalance_keepsBooks (t : Nat) (row obj : Nat) (amount : Int) (s : State) :
    KeepsBooks s (execImbalance t row obj amount s) := by
  unfold execImbalance; dsimp only; (repeat' split) <;> simp

/-! ## Strings -/

@[simp] theorem execStrGetState_keepsBooks (q : Req) (s : State) : KeepsBooks s (execStrGetState q s) := by
  unfold execStrGetState; simp
@[simp] theorem execStrConnect_keepsBooks (q : Req) (s : State) : KeepsBooks s (execStrConnect q s) := by
  unfold execStrConnect; simp
@[simp] theorem execStrDisconnect_keepsBooks (q : Req) (s : State) : KeepsBooks s (execStrDisconnect q s) := by
  unfold execStrDisconnect; dsimp only
  refine strCommand_keepsBooks _ _ _ _ _ fun s i => ?_
  (repeat' split) <;> simp
@[simp] theorem execStrRegulate_keepsBooks (q : Req) (s : State) : KeepsBooks s (execStrRegulate q s) := by
  unfold execStrRegulate; simp
@[simp] theorem execStrIdle_keepsBooks (q : Req) (s : State) : KeepsBooks s (execStrIdle q s) := by
  unfold execStrIdle; simp
@[simp] theorem execStrReset_keepsBooks (q : Req) (s : State) : KeepsBooks s (execStrReset q s) := by
  unfold execStrReset; simp
@[simp] theorem execStrRetire_keepsBooks (q : Req) (s : State) : KeepsBooks s (execStrRetire q s) := by
  unfold execStrRetire; simp
@[simp] theorem execStrRestore_keepsBooks (q : Req) (s : State) : KeepsBooks s (execStrRestore q s) := by
  unfold execStrRestore; simp
@[simp] theorem execDeadlineFault_keepsBooks (t : Nat) (e : Engine) (s : State) :
    KeepsBooks s (execDeadlineFault t e s) := by
  unfold execDeadlineFault; dsimp only; (repeat' split) <;> simp

/-! ## Time -/

@[simp] theorem execTriggerFire_keepsBooks (t : Nat) (n : Nat) (s : State) : KeepsBooks s (execTriggerFire t n s) := by
  unfold execTriggerFire; simp
@[simp] theorem execTsuTrgCtrlWrite_keepsBooks (t : Nat) (app : Bool) (n : Nat) (value : BitVec 32) (s : State) :
    KeepsBooks s (execTsuTrgCtrlWrite t app n value s) := by
  unfold execTsuTrgCtrlWrite; simp
@[simp] theorem execTsuSnapWrite_keepsBooks (t : Nat) (value : BitVec 32) (s : State) :
    KeepsBooks s (execTsuSnapWrite t value s) := by
  unfold execTsuSnapWrite; simp
@[simp] theorem execTsuEvtClear_keepsBooks (t : Nat) (app : Bool) (mask : BitVec 32) (s : State) :
    KeepsBooks s (execTsuEvtClear t app mask s) := by
  unfold execTsuEvtClear; simp
@[simp] theorem execCaptureEdge_keepsBooks (t : Nat) (n : Nat) (rising : Bool) (frac levelNs : Nat) (s : State) :
    KeepsBooks s (execCaptureEdge t n rising frac levelNs s) := by
  unfold execCaptureEdge; simp
@[simp] theorem execTsuCapPop_keepsBooks (t : Nat) (app : Bool) (n : Nat) (s : State) :
    KeepsBooks s (execTsuCapPop t app n s) := by
  unfold execTsuCapPop; simp
@[simp] theorem execSyncMessage_keepsBooks (t : Nat) (port domain : Nat) (offset : Int) (s : State) :
    KeepsBooks s (execSyncMessage t port domain offset s) := by
  unfold execSyncMessage; simp
@[simp] theorem execAnnounce_keepsBooks (t : Nat) (port domain : Nat) (m : Master) (s : State) :
    KeepsBooks s (execAnnounce t port domain m s) := by
  unfold execAnnounce; simp
@[simp] theorem execAnnounceTimeout_keepsBooks (t : Nat) (port : Nat) (s : State) :
    KeepsBooks s (execAnnounceTimeout t port s) := by
  unfold execAnnounceTimeout; simp
@[simp] theorem execPdelayReq_keepsBooks (t : Nat) (port domain turnaround : Nat) (s : State) :
    KeepsBooks s (execPdelayReq t port domain turnaround s) := by
  unfold execPdelayReq; simp
@[simp] theorem execPdelayMeasurement_keepsBooks (t : Nat) (port delay : Nat) (s : State) :
    KeepsBooks s (execPdelayMeasurement t port delay s) := by
  unfold execPdelayMeasurement; simp
@[simp] theorem execServoUpdate_keepsBooks (t : Nat) (src : TimeSource) (offset : Int) (s : State) :
    KeepsBooks s (execServoUpdate t src offset s) := by
  unfold execServoUpdate; dsimp only; (repeat' split) <;> simp
@[simp] theorem execHoldoverExpiry_keepsBooks (t : Nat) (s : State) : KeepsBooks s (execHoldoverExpiry t s) := by
  unfold execHoldoverExpiry; simp
@[simp] theorem execPpsInEdge_keepsBooks (t : Nat) (s : State) : KeepsBooks s (execPpsInEdge t s) := by
  unfold execPpsInEdge; simp
@[simp] theorem execTimGetTime_keepsBooks (q : Req) (s : State) : KeepsBooks s (execTimGetTime q s) := by
  unfold execTimGetTime; simp
@[simp] theorem execTimGetStatus_keepsBooks (q : Req) (s : State) : KeepsBooks s (execTimGetStatus q s) := by
  unfold execTimGetStatus; simp
@[simp] theorem execTimSetConfig_keepsBooks (q : Req) (s : State) : KeepsBooks s (execTimSetConfig q s) := by
  unfold execTimSetConfig; simp
@[simp] theorem execTimGetConfig_keepsBooks (q : Req) (s : State) : KeepsBooks s (execTimGetConfig q s) := by
  unfold execTimGetConfig; simp
@[simp] theorem execTimSetTime_keepsBooks (q : Req) (s : State) : KeepsBooks s (execTimSetTime q s) := by
  unfold execTimSetTime; simp
@[simp] theorem execTimSetTrigger_keepsBooks (q : Req) (s : State) : KeepsBooks s (execTimSetTrigger q s) := by
  unfold execTimSetTrigger; simp
@[simp] theorem execTimGetTrigger_keepsBooks (q : Req) (s : State) : KeepsBooks s (execTimGetTrigger q s) := by
  unfold execTimGetTrigger; simp
@[simp] theorem execTimSetCapture_keepsBooks (q : Req) (s : State) : KeepsBooks s (execTimSetCapture q s) := by
  unfold execTimSetCapture; simp
@[simp] theorem execTimReadCapture_keepsBooks (q : Req) (s : State) : KeepsBooks s (execTimReadCapture q s) := by
  unfold execTimReadCapture; simp
@[simp] theorem execTimDelegate_keepsBooks (q : Req) (s : State) : KeepsBooks s (execTimDelegate q s) := by
  unfold execTimDelegate; simp

/-! ## Update -/

@[simp] theorem execUpdBegin_keepsBooks (q : Req) (s : State) : KeepsBooks s (execUpdBegin q s) := by
  unfold execUpdBegin; simp
@[simp] theorem execUpdChunk_keepsBooks (q : Req) (s : State) : KeepsBooks s (execUpdChunk q s) := by
  unfold execUpdChunk
  refine command_keepsBooks _ _ _ _ fun s => ?_
  extract_lets b t
  generalize takeChunks _ _ _ _ _ = r
  obtain ⟨x, stop⟩ := r
  cases stop <;> simp
@[simp] theorem execChunkFlush_keepsBooks (t : Nat) (s : State) : KeepsBooks s (execChunkFlush t s) := by
  unfold execChunkFlush; simp
@[simp] theorem execUpdVerify_keepsBooks (q : Req) (s : State) : KeepsBooks s (execUpdVerify q s) := by
  unfold execUpdVerify; dsimp only
  refine command_keepsBooks _ _ _ _ fun s => ?_
  (repeat' split) <;> simp
@[simp] theorem execPreEraseComplete_keepsBooks (t : Nat) (s : State) : KeepsBooks s (execPreEraseComplete t s) := by
  unfold execPreEraseComplete; simp
@[simp] theorem execUpdActivate_keepsBooks (q : Req) (s : State) : KeepsBooks s (execUpdActivate q s) := by
  unfold execUpdActivate; dsimp only
  exact command_keepsBooks_of_staysBalanced fun s => activate_staysBalanced s q
@[simp] theorem execRecoveryEntry_keepsBooks (t : Nat) (s : State) : KeepsBooks s (execRecoveryEntry t s) := by
  unfold execRecoveryEntry; dsimp only; (repeat' split) <;> simp
@[simp] theorem execSupHandoverAdopt_keepsBooks (t : Nat) (good : Bool) (s : State) :
    KeepsBooks s (execSupHandoverAdopt t good s) := by
  unfold execSupHandoverAdopt; dsimp only; (repeat' split) <;> simp
@[simp] theorem execHandoverWindowExceeded_keepsBooks (t : Nat) (s : State) :
    KeepsBooks s (execHandoverWindowExceeded t s) := by
  unfold execHandoverWindowExceeded; dsimp only; (repeat' split) <;> simp
@[simp] theorem execSpActivationTimeout_keepsBooks (t : Nat) (s : State) : KeepsBooks s (execSpActivationTimeout t s) := by
  unfold execSpActivationTimeout; dsimp only; (repeat' split) <;> simp
@[simp] theorem execTrialConfirmation_keepsBooks (t : Nat) (part : Nat) (s : State) :
    KeepsBooks s (execTrialConfirmation t part s) := by
  unfold execTrialConfirmation; simp
@[simp] theorem execTrialWindowExpiry_keepsBooks (t : Nat) (part : Nat) (s : State) :
    KeepsBooks s (execTrialWindowExpiry t part s) := by
  unfold execTrialWindowExpiry; simp
@[simp] theorem execFallback_keepsBooks (t : Nat) (part : Nat) (s : State) : KeepsBooks s (execFallback t part s) := by
  unfold execFallback; simp
@[simp] theorem execImageBootCheck_keepsBooks (t : Nat) (s : State) : KeepsBooks s (execImageBootCheck t s) := by
  unfold execImageBootCheck; dsimp only; (repeat' split) <;> simp
@[simp] theorem execFwBegin_keepsBooks (t : Nat) (i m len : Nat) (s : State) : KeepsBooks s (execFwBegin t i m len s) := by
  unfold execFwBegin; simp
@[simp] theorem execFwData_keepsBooks (t : Nat) (i m offset : Nat) (bytes : List Byte) (s : State) :
    KeepsBooks s (execFwData t i m offset bytes s) := by
  unfold execFwData; simp
@[simp] theorem execFwEnd_keepsBooks (t : Nat) (i m crc : Nat) (s : State) : KeepsBooks s (execFwEnd t i m crc s) := by
  unfold execFwEnd; simp
@[simp] theorem execFwSwitch_keepsBooks (t : Nat) (i m : Nat) (startsOk : Bool) (s : State) :
    KeepsBooks s (execFwSwitch t i m startsOk s) := by
  unfold execFwSwitch; simp
@[simp] theorem execMonitorReturnTimeout_keepsBooks (t : Nat) (i m : Nat) (s : State) :
    KeepsBooks s (execMonitorReturnTimeout t i m s) := by
  unfold execMonitorReturnTimeout; dsimp only; (repeat' split) <;> simp
@[simp] theorem execDriverConfigLoad_keepsBooks (t : Nat) (cx : Bool) (driver : Nat) (accepted : Bool) (s : State) :
    KeepsBooks s (execDriverConfigLoad t cx driver accepted s) := by
  unfold execDriverConfigLoad; dsimp only; (repeat' split) <;> simp
@[simp] theorem execUpdConfirm_keepsBooks (q : Req) (s : State) : KeepsBooks s (execUpdConfirm q s) := by
  unfold execUpdConfirm; simp
@[simp] theorem execUpdAbort_keepsBooks (q : Req) (s : State) : KeepsBooks s (execUpdAbort q s) := by
  unfold execUpdAbort; dsimp only
  refine command_keepsBooks _ _ _ _ fun s => ?_
  (repeat' split) <;> simp
@[simp] theorem execUpdGetStatus_keepsBooks (q : Req) (s : State) : KeepsBooks s (execUpdGetStatus q s) := by
  unfold execUpdGetStatus; simp
@[simp] theorem execUpdGetVersions_keepsBooks (q : Req) (s : State) : KeepsBooks s (execUpdGetVersions q s) := by
  unfold execUpdGetVersions; simp

/-! ## Hostif -/

@[simp] theorem execDescriptorOwnWrite_keepsBooks (t : Nat) (port : Port) (desc value : Nat) (partialWrite : Bool) (s : State) :
    KeepsBooks s (execDescriptorOwnWrite t port desc value partialWrite s) := by
  unfold execDescriptorOwnWrite; simp
@[simp] theorem execQspiRead_keepsBooks (t : Nat) (addr len : Nat) (s : State) :
    KeepsBooks s (execQspiRead t addr len s) := by
  unfold execQspiRead; dsimp only; (repeat' split) <;> simp
@[simp] theorem execQspiWrite_keepsBooks (t : Nat) (addr : Nat) (bytes : List Byte) (cut : Bool) (s : State) :
    KeepsBooks s (execQspiWrite t addr bytes cut s) := by
  unfold execQspiWrite; dsimp only; (repeat' split) <;> simp
@[simp] theorem execQspiStatus_keepsBooks (t : Nat) (s : State) : KeepsBooks s (execQspiStatus t s) := by
  unfold execQspiStatus; simp
@[simp] theorem execHprDoorbellWrite_keepsBooks (t : Nat) (port : Port) (mask : BitVec 16) (s : State) :
    KeepsBooks s (execHprDoorbellWrite t port mask s) := by
  unfold execHprDoorbellWrite; simp
@[simp] theorem execHprDoneClear_keepsBooks (t : Nat) (port : Port) (mask : BitVec 16) (s : State) :
    KeepsBooks s (execHprDoneClear t port mask s) := by
  unfold execHprDoneClear; simp
@[simp] theorem execHprErrClear_keepsBooks (t : Nat) (mask : BitVec 32) (s : State) :
    KeepsBooks s (execHprErrClear t mask s) := by
  unfold execHprErrClear; simp
@[simp] theorem execHprHbTick_keepsBooks (t : Nat) (s : State) : KeepsBooks s (execHprHbTick t s) := by
  unfold execHprHbTick; simp
@[simp] theorem execRegisterWrite_keepsBooks (t : Nat) (a : RegAgent) (r : RegAddr) (value : BitVec 32) (s : State) :
    KeepsBooks s (execRegisterWrite t a r value s) := by
  unfold execRegisterWrite; dsimp only; (repeat' split) <;> simp
theorem byOpcode_keepsBooks {op : Nat} {run : Req → State → Out State} (h : byOpcode op = some run) (q : Req) (s : State) :
    KeepsBooks s (run q s) := by
  unfold byOpcode at h
  split at h
  all_goals cases h
  all_goals simp
@[simp] theorem execSlotTake_keepsBooks (t : Nat) (s : State) : KeepsBooks s (execSlotTake t s) := by
  unfold execSlotTake; extract_lets s₁
  refine KeepsBooks.of_staysBalanced (u := s₁) (.of_eq (by simp [s₁])) ?_
  split
  · simp
  · split
    · simp
    · extract_lets s₂
      refine KeepsBooks.of_staysBalanced (u := s₂) (.of_eq (by simp [s₂])) ?_
      dsimp only
      split
      next run h => exact byOpcode_keepsBooks h _ _
      next => simp
@[simp] theorem execMgmtRequest_keepsBooks (t : Nat) (net src : Nat) (frame : List Byte) (s : State) :
    KeepsBooks s (execMgmtRequest t net src frame s) := by
  unfold execMgmtRequest; dsimp only
  refine (keepsBooks_next _ _).2 (StaysBalanced.of_eq ?_)
  rw [mgmtFrame_bal]
  · simp
  · intro s k body
    (repeat' split) <;> simp
@[simp] theorem execMgmtWaitTimeout_keepsBooks (t : Nat) (s : State) : KeepsBooks s (execMgmtWaitTimeout t s) := by
  unfold execMgmtWaitTimeout; dsimp only; (repeat' split) <;> simp
@[simp] theorem execWinRead_keepsBooks (t : Nat) (net src : Nat) (frame : List Byte) (s : State) :
    KeepsBooks s (execWinRead t net src frame s) := by
  unfold execWinRead; simp
@[simp] theorem execWinWrite_keepsBooks (t : Nat) (net src : Nat) (frame : List Byte) (s : State) :
    KeepsBooks s (execWinWrite t net src frame s) := by
  unfold execWinWrite; dsimp only
  refine keepsBooks_at t (StaysBalanced.of_eq ?_)
  rw [mgmtFrame_bal]
  intro s k body
  (repeat' split) <;> simp
@[simp] theorem execWake_keepsBooks (t : Nat) (net : Nat) (frame : List Byte) (s : State) :
    KeepsBooks s (execWake t net frame s) := by
  unfold execWake; simp

/-! ## Peer -/

@[simp] theorem execPeerMessage_keepsBooks (t : Nat) (m : PeerMsg) (s : State) : KeepsBooks s (execPeerMessage t m s) := by
  unfold execPeerMessage; dsimp only; (repeat' split) <;> simp
@[simp] theorem execShadow_keepsBooks (t : Nat) (v : ShadowValue) (s : State) : KeepsBooks s (execShadow t v s) := by
  unfold execShadow; simp
theorem exec_keepsBooks (c : Instr) (s : State) : KeepsBooks s (exec c s) := by
  cases c <;> (unfold exec; simp)

end Sys2Proof.Machine
end

section
/-! SUPPORT. Booking: the charge that a ledger books to cells stands in the accounts of the string's cells
(07_balancing_dispatch.md R198, R201, R202). -/

namespace Sys2Proof.Machine

/-! ## The accounts of the cells -/

theorem tblGet_tblSet_ne {α : Type} (d : α) {j k : Nat} (v : α) (l : List (Nat × α)) (h : j ≠ k) :
    tblGet d j (tblSet k v l) = tblGet d j l := by
  induction l with
  | nil => simp [tblSet, tblGet, h.symm]
  | cons e t ih =>
    obtain ⟨i, w⟩ := e
    unfold tblSet
    split
    · simp [tblGet, h.symm]
    split
    · next hk => simp [tblGet, h.symm, ← hk]
    · simp [tblGet, ih]

theorem cellAt_modCell (s : State) (c k : Nat) (f : Cell → Cell) :
    (s.modCell c f).cellAt k = if k = c then f (s.cellAt c) else s.cellAt k := by
  split
  · next h => subst h; exact tblGet_tblSet ..
  · next h => exact tblGet_tblSet_ne _ _ _ h

/-- What an update adds to the account of one cell of a string, it adds to the string's. -/
theorem bookedToCells_modCell (s : State) (i : Nat) {k : Nat} (hk : k < 512) (f : Cell → Cell) (q : Int)
    (hf : ∀ c, (f c).dBal = c.dBal + q) : bookedToCells (s.modCell (512 * i + k) f) i = bookedToCells s i + q := by
  have hcell : ∀ j, ((s.modCell (512 * i + k) f).cellAt (512 * i + j)).dBal =
      if j = k then (s.cellAt (512 * i + j)).dBal + q else (s.cellAt (512 * i + j)).dBal := by
    intro j
    rw [cellAt_modCell]
    by_cases h : j = k
    · simp [h, hf]
    · simp [h]
  have hone : (List.range 512).count k = 1 := List.count_eq_one_of_mem List.nodup_range (List.mem_range.mpr hk)
  simp only [bookedToCells, hcell]
  rw [List.sum_map_ite_eq, hone, one_smul]
  omega

/-! ## What is booked without an account -/

/-- Charge a ledger has booked to the cells. -/
def Ledger.toCells (l : Ledger) : Int := (l.intoCells : Int) - l.outOfCells - l.bled - l.unattributed

/-- Charge in the accounts of the cells of string `i` beyond what its ledger has booked to them. -/
def State.unbooked (s : State) (i : Nat) : Int := bookedToCells s i - (s.balAt i).ledger.toCells

/-- From `s` to `u` the ledger of string `i` and the accounts of its cells have moved together. -/
structure Attributed (i : Nat) (s u : State) : Prop where
  length : u.bal.length = s.bal.length
  unbooked : i < s.bal.length → u.unbooked i = s.unbooked i

namespace Attributed

theorem refl (i : Nat) (s : State) : Attributed i s s := ⟨rfl, fun _ => rfl⟩

theorem trans {i : Nat} {s u v : State} (h : Attributed i s u) (k : Attributed i u v) : Attributed i s v where
  length := k.length.trans h.length
  unbooked hi := (k.unbooked (by rwa [h.length])).trans (h.unbooked hi)

theorem of_eq {i : Nat} {s u : State} (hb : u.bal = s.bal) (hc : u.cee = s.cee) : Attributed i s u where
  length := by rw [hb]
  unbooked _ := by simp only [State.unbooked, bookedToCells, State.cellAt, State.balAt, hb, hc]

theorem foldl {β : Type} {i : Nat} {f : State → β → State} (l : List β) (h : ∀ s, ∀ b ∈ l, Attributed i s (f s b))
    (s : State) : Attributed i s (l.foldl f s) :=
  List.foldlRecOn (motive := Attributed i s) l f (refl i s) fun u hu b hb => hu.trans (h u b hb)

end Attributed

theorem unbooked_modBal (s : State) {i : Nat} (f : Bal → Bal) (q : Int) (hi : i < s.bal.length)
    (hf : (f (s.balAt i)).ledger.toCells = (s.balAt i).ledger.toCells + q) : (s.modBal i f).unbooked i = s.unbooked i - q := by
  have hb : (s.modBal i f).balAt i = f (s.balAt i) := getD_modify_same _ _ _ _ hi
  have hc : bookedToCells (s.modBal i f) i = bookedToCells s i := rfl
  simp only [State.unbooked, hb, hc, hf]
  omega

@[simp] theorem modBal_bal_length (s : State) (i : Nat) (f : Bal → Bal) : (s.modBal i f).bal.length = s.bal.length := by
  simp [State.modBal]

/-- An update of the ledger that books nothing to the cells. -/
theorem attributed_modBal (s : State) (i : Nat) (f : Bal → Bal) (hf : ∀ b, (f b).ledger.toCells = b.ledger.toCells) :
    Attributed i s (s.modBal i f) :=
  ⟨modBal_bal_length .., fun hi => by simpa using unbooked_modBal s f 0 hi (by simp [hf])⟩

/-! ## Shuttles -/

/-- Shuttle charge is booked to the cells with its sign. -/
theorem Ledger.bookShuttle_toCells (l : Ledger) (ein eout : Rat) (dq : Int) (v : Option Nat) :
    (l.bookShuttle ein eout dq v).toCells = l.toCells + dq := by
  unfold Ledger.bookShuttle Ledger.toCells
  split
  · simp only [Nat.cast_add]; omega
  · simp only [Nat.cast_add]; omega

theorem Ledger.bookShuttle_unattributed (l : Ledger) (ein eout : Rat) (dq : Int) (v : Option Nat) :
    (l.bookShuttle ein eout dq v).unattributed = l.unattributed := by
  unfold Ledger.bookShuttle
  split <;> rfl

theorem bookShuttle_attributed (s : State) (i : Nat) {m ch : Nat} (hm : m < 16) (hch : ch < 32) (dq : Int) (d : RoundData) :
    Attributed i s (bookShuttle s i m ch dq d) := by
  refine ⟨modBal_bal_length .., fun hi => ?_⟩
  unfold bookShuttle
  extract_lets s₁
  have hledger : s₁.unbooked i = s.unbooked i - dq :=
    unbooked_modBal s _ dq hi (Ledger.bookShuttle_toCells ..)
  have hcells := bookedToCells_modCell s₁ i (k := 32 * m + ch) (by omega) (fun c => { c with dBal := c.dBal + dq }) dq
    fun _ => rfl
  rw [← Nat.add_assoc] at hcells
  have hbal : (s₁.modCell (512 * i + 32 * m + ch) fun c => { c with dBal := c.dBal + dq }).balAt i = s₁.balAt i := rfl
  simp only [State.unbooked] at hledger ⊢
  rw [hcells, hbal]
  omega

/-- Shuttle charge of no channel is unattributed. -/
theorem bookUnattributedShuttle_attributed (s : State) (i m : Nat) (dq : Int) :
    Attributed i s (bookUnattributedShuttle s i m dq) := by
  unfold bookUnattributedShuttle
  extract_lets s₁
  have h₁ : Attributed i s s₁ := attributed_modBal s i _ fun b => by
    have h := b.ledger.bookShuttle_toCells (etaIn s i) (etaOut s i) dq none
    have hun := b.ledger.bookShuttle_unattributed (etaIn s i) (etaOut s i) dq none
    simp only [Ledger.toCells] at h ⊢
    omega
  exact h₁.trans (.of_eq (by simp) (by simp))

/-! ## Bleeds -/

theorem sum_div_le (f : Nat → Nat) (t : Nat) (l : List Nat) : (l.map fun c => f c / t).sum ≤ (l.map f).sum / t := by
  induction l with
  | nil => simp
  | cons c l ih =>
    simp only [List.map_cons, List.sum_cons]
    exact (Nat.add_le_add_left ih _).trans (Nat.div_add_div_le_add_div ..)

/-- The shares of a bleed make up the increment. -/
theorem bleedShares_sum (d : RoundData) (q : Nat) {chs : List Nat} (h : chs ≠ []) :
    ((bleedShares d q chs).map (·.2)).sum = q := by
  unfold bleedShares
  extract_lets tot share rest
  have hle : (chs.map share).sum ≤ q := by
    by_cases ht : tot = 0
    · simp [share, ht]
    · have := sum_div_le (fun c => q * d.vCell.getD c 0) tot chs
      rw [List.sum_map_mul_left, Nat.mul_div_cancel _ (Nat.pos_of_ne_zero ht)] at this
      simpa [share, ht] using this
  cases chs with
  | nil => exact absurd rfl h
  | cons c t =>
    have hsum : ((c :: t).map share).sum = share c + (t.map share).sum := List.sum_cons
    rw [List.map_cons, List.sum_cons, List.map_map]
    change share c + rest + (t.map share).sum = q
    omega

theorem bleedShares_channels (d : RoundData) (q : Nat) (chs : List Nat) : (bleedShares d q chs).map (·.1) = chs := by
  unfold bleedShares
  cases chs <;> simp [Function.comp_def]

theorem bleedCells_booked (i : Nat) {m : Nat} (hm : m < 16) (l : List (Nat × Nat)) (hl : ∀ e ∈ l, e.1 < 32) (s : State) :
    bookedToCells (l.foldl (fun s e => s.modCell (512 * i + 32 * m + e.1) fun c => { c with dBal := c.dBal - e.2 }) s) i =
      bookedToCells s i - (l.map (·.2)).sum := by
  induction l generalizing s with
  | nil => simp
  | cons e l ih =>
    have he : e.1 < 32 := hl e List.mem_cons_self
    have hcell := bookedToCells_modCell s i (k := 32 * m + e.1) (by omega) (fun c => { c with dBal := c.dBal - e.2 }) (-e.2)
      fun _ => rfl
    rw [← Nat.add_assoc] at hcell
    rw [List.foldl_cons, ih (fun x hx => hl x (List.mem_cons_of_mem _ hx)), hcell]
    simp only [List.map_cons, List.sum_cons, Nat.cast_add]
    omega

theorem bookBleed_attributed (s : State) (i : Nat) {m : Nat} (hm : m < 16) (q : Nat) {chs : List Nat} (hne : chs ≠ [])
    (hchs : ∀ c ∈ chs, c < 32) (d : RoundData) : Attributed i s (bookBleed s i m q chs d) := by
  unfold bookBleed
  extract_lets s₁
  have hbal : ∀ l : List (Nat × Nat), (l.foldl (fun s e => s.modCell (512 * i + 32 * m + e.1) fun c =>
      { c with dBal := c.dBal - e.2 }) s₁).bal = s₁.bal := fun l =>
    foldl_bal _ (by intros; rfl) l s₁
  refine ⟨by rw [hbal]; exact modBal_bal_length .., fun hi => ?_⟩
  have hledger : s₁.unbooked i = s.unbooked i - (-q) :=
    unbooked_modBal s _ (-q) hi (by simp only [Ledger.toCells, Nat.cast_add]; omega)
  have hshares : ∀ e ∈ bleedShares d q chs, e.1 < 32 := fun e he =>
    hchs _ (bleedShares_channels d q chs ▸ List.mem_map_of_mem he)
  have hcells := bleedCells_booked i hm _ hshares s₁
  rw [bleedShares_sum d q hne] at hcells
  simp only [State.unbooked, State.balAt, hbal] at hledger ⊢
  rw [hcells]
  omega

theorem bookUnattributedBleed_attributed (s : State) (i m q : Nat) : Attributed i s (bookUnattributedBleed s i m q) := by
  unfold bookUnattributedBleed
  extract_lets s₁
  have h₁ : Attributed i s s₁ := attributed_modBal s i _ fun b => by
    simp only [Ledger.toCells, Nat.cast_add]
    omega
  exact h₁.trans (.of_eq (by simp) (by simp))

theorem mapChannels_lt (b : BitVec 32) : ∀ c ∈ mapChannels b, c < 32 := fun _ hc =>
  List.mem_range.mp (List.mem_filter.mp hc).1

/-! ## Readings -/

/-- A channel a reading names, or none (04_fenline_rings.md, 255). -/
abbrev ChannelOk (d : RoundData) : Prop := d.shuttleCh = 255 ∨ d.shuttleCh < 32

theorem shuttleChannel_lt {p d : RoundData} (hp : ChannelOk p) (hd : ChannelOk d) {ch : Nat}
    (h : shuttleChannel p d = some ch) : ch < 32 := by
  unfold shuttleChannel at h
  split at h
  · cases h; omega
  split at h
  · cases h; omega
  · cases h

section
variable {i m : Nat} {p d : RoundData} (hm : m < 16) (hp : ChannelOk p) (hd : ChannelOk d)
include hm hp

theorem bookEstimate_attributed (s : State) (cmd : Int) (dt : Nat) : Attributed i s (bookEstimate s i m p d cmd dt) := by
  unfold bookEstimate
  extract_lets s₁ s₂ s₃
  have h₁ : Attributed i s s₁ := by
    simp only [s₁]
    split
    · exact .refl i s
    · exact bookShuttle_attributed s i hm (by omega) _ d
  have h₂ : Attributed i s₁ s₂ := .foldl _ (fun _ c hc => bookBleed_attributed _ i hm _ (by simp)
    (by simpa using mapChannels_lt _ c hc) d) s₁
  have h₃ : Attributed i s₂ s₃ := attributed_modBal s₂ i _ fun _ => rfl
  exact ((h₁.trans h₂).trans h₃).trans (.of_eq (by simp) (by simp))

include hd

theorem bookIncrements_attributed (s : State) (qs : Int) (qb : Nat) : Attributed i s (bookIncrements s i m p d qs qb) := by
  unfold bookIncrements
  extract_lets s₁
  have h₁ : Attributed i s s₁ := by
    simp only [s₁]
    split
    · exact .refl i s
    split
    next ch h => exact bookShuttle_attributed s i hm (shuttleChannel_lt hp hd h) _ d
    next => exact bookUnattributedShuttle_attributed s i m _
  refine h₁.trans ?_
  split
  · exact .refl i s₁
  split
  next => exact bookUnattributedBleed_attributed s₁ i m _
  next h => exact bookBleed_attributed s₁ i hm _ h (mapChannels_lt _) d

theorem bookReading_attributed (s : State) (cmd : Int) (dt : Nat) : Attributed i s (bookReading s i m (some p) d cmd dt) := by
  have h₁ : Attributed i s (if d.status.getLsbD 6 then
      bookEstimate (bookIncrements s i m p d d.qShuttle.toInt d.qBleed.toNat) i m p d cmd dt
      else bookIncrements s i m p d (d.qShuttle - p.qShuttle).toInt (d.qBleed - p.qBleed).toNat) := by
    split
    · exact (bookIncrements_attributed hm hp hd s _ _).trans (bookEstimate_attributed hm hp _ cmd dt)
    · exact bookIncrements_attributed hm hp hd s _ _
  rw [bookReading]
  generalize (ite (d.status.getLsbD 6 = true) _ _ : State) = s₁ at h₁ ⊢
  have stamped (l : Ledger) (now : Nat) : Attributed i s (s₁.modBal i fun b =>
      if b.ledger = l then b else { b with ledger := { b.ledger with time := now } }) :=
    h₁.trans (attributed_modBal s₁ i _ fun b => by split <;> rfl)
  split
  · exact stamped (s.balAt i).ledger s₁.tsu.now
  · exact ((stamped (s.balAt i).ledger s₁.tsu.now).trans (attributed_modBal _ i
      (fun b => { b with ledger := { b.ledger with identityFailed := true } }) fun _ => rfl)).trans (.of_eq (by simp) (by simp))

end

theorem step_booksBalance {s u : State} (hs : BooksBalance s) (h : step s = .next u) : BooksBalance u := by
  unfold step at h
  split at h
  · cases h; exact hs
  next c rest _ =>
    obtain ⟨v, hv, hb⟩ := exec_keepsBooks c { s with pending := rest }
    cases hv.symm.trans h
    exact (booksBalance_iff _).mpr (hb ((booksBalance_iff _).mp hs))

/-- Settles O52: booking keeps the imbalance of every ledger, whatever else changes a ledger clears it, and what a reading books
to a ledger it books to the cells' accounts. -/
theorem theBooksBalance : Obligations.TheBooksBalance := by
  refine ⟨fun s u hs h => ?_, fun s i m p d cmd dt hi hm hp hd => ?_⟩
  · exact step_booksBalance hs h
  · have h := (bookReading_attributed hm hp hd s cmd dt).unbooked hi
    simp only [State.unbooked, Ledger.toCells] at h
    dsimp only
    omega

end Sys2Proof.Machine
end

section
/-! SUPPORT. Requests: what acceptance, ramp, allocation and expiry do to them (07_balancing_dispatch.md R204 to R206,
R212, R216). -/

namespace Sys2Proof.Machine

theorem mem_queueInsert_self (e : DspEntry) (l : List DspEntry) : e ∈ queueInsert e l := by
  induction l with
  | nil => simp [queueInsert]
  | cons x l ih => unfold queueInsert; split <;> simp [ih]

/-- A request is queued where its instant is 5 ms or more ahead; then it stands in the queue. -/
theorem mem_accept_queue {s : State} {p : Bytes} (h : (accept s p).queued = true) :
    { req := p, eff := instantAt p 8, late := false } ∈ (accept s p).queue := by
  unfold accept at h ⊢
  dsimp only at h ⊢
  split at h
  · cases h
  · split at h
    · cases h
    next hsched hahead =>
      rw [if_neg hsched, if_neg hahead]
      exact mem_queueInsert_self _ _

theorem exitFloat_state_ne (s : State) : (exitFloat s).pwr.state ≠ .float := by
  unfold exitFloat
  split
  · simp
  next h => simpa using h

/-- Disarming leaves the requests. -/
@[simp] theorem dropArmed_requests (s : State) :
    (dropArmed s).dsp.queue = s.dsp.queue ∧ (dropArmed s).dsp.next = s.dsp.next ∧
      (dropArmed s).dsp.force = s.dsp.force := by
  unfold dropArmed
  (repeat' split) <;> simp

/-- With an empty queue nothing stays armed. -/
theorem dropArmed_armed_of_queue_nil {s : State} (h : s.dsp.queue = []) : (dropArmed s).dsp.armed = none := by
  unfold dropArmed
  split
  next ha => exact ha
  · simp [h]

/-! ## The ramp -/

/-- Ramping moves the target and leaves the requests. -/
@[simp] theorem rampTo_requests (s : State) (t : Nat) :
    (rampTo s t).dsp.force = s.dsp.force ∧ (rampTo s t).dsp.forceT = s.dsp.forceT ∧
      (rampTo s t).dsp.expired = s.dsp.expired ∧ (rampTo s t).dsp.next = s.dsp.next ∧
      (rampTo s t).dsp.queue = s.dsp.queue ∧ (rampTo s t).dsp.armed = s.dsp.armed := by
  unfold rampTo
  dsimp only
  (repeat' split) <;> simp_all

/-- Without a request in force the target is 0. -/
theorem rampTo_target_of_none {s : State} (t : Nat) (h : s.dsp.force = none) : (rampTo s t).dsp.target = 0 := by
  simp [rampTo, h]

/-- A request that takes effect is in force from then on, and PEER hears of it. -/
@[simp] theorem takeRequest_requests (s : State) (e : DspEntry) (t : Nat) :
    (takeRequest s e t).dsp.force = some e ∧ (takeRequest s e t).dsp.forceT = t ∧
      (takeRequest s e t).dsp.expired = false ∧ (takeRequest s e t).dsp.queue = s.dsp.queue := by
  unfold takeRequest
  split <;> simp [peerSend]

theorem takeRequest_sends (s : State) (e : DspEntry) (t : Nat) :
    (takeRequest s e t).red.peerOut.head? = some peerDispatch := by
  unfold takeRequest
  exact peerSend_newest ..

/-! ## The plan written -/

/-- Writing a plan sets the figures of the dispatch status and leaves the rest of it. -/
theorem applyPlan_dsp (s : State) (mode : Nat) (p : Plan) : (applyPlan s mode p).dsp =
    { s.dsp with allocated := p.allocated, shortfall := p.shortfall, limited := p.limited, str := p.str
                 target := if mode = 1 then p.allocated else s.dsp.target } := by
  unfold applyPlan
  dsimp only
  rw [State.setDsp_dsp, foldl_dsp _ (fun u i => by split <;> simp)]
  split <;> simp

/-- Afterwards the outer loops of the plan's mode serve the strings. -/
theorem applyPlan_vbusMode (s : State) (mode : Nat) (p : Plan) :
    (applyPlan s mode p).le.vbusMode = decide (mode = 1) := by
  unfold applyPlan
  dsimp only
  simp only [State.setDsp_keeps]
  rw [foldl_le _ (fun u i => by split <;> simp)]
  split
  next h => exact h
  · rfl

/-! ## The allocation -/

/-- The shadow registers become the committed ones where the commit instant has come (R274). -/
def committed (s : State) : State :=
  match s.le.commit with
  | some c => if c ≤ s.tsu.now then s.setLe fun l => { l with setp := l.shadow, commit := none } else s
  | none => s

@[simp] theorem committed_dsp (s : State) : (committed s).dsp = s.dsp := by
  unfold committed; (repeat' split) <;> rfl
@[simp] theorem committed_tsu (s : State) : (committed s).tsu = s.tsu := by
  unfold committed; (repeat' split) <;> rfl
@[simp] theorem committed_clk (s : State) : (committed s).clk = s.clk := by
  unfold committed; (repeat' split) <;> rfl

/-- The waiting request, unscheduled or late, takes effect. -/
def takeNext (s : State) : State :=
  match s.dsp.next with
  | none => s
  | some e => (takeRequest s e s.clk).setDsp fun d => { d with next := none }

/-- The target reached by now, then the plan of the request in force. -/
def allocate (s : State) : State :=
  let s := (rampTo s s.clk).setDsp fun d => { d with allocT := s.tsu.now }
  match s.dsp.force with
  | none => applyPlan s 2 (powerPlan s (leU 48 0) 2 0)
  | some e => applyPlan s (modeNow s) (planOf s e.req (modeNow s) s.dsp.target s.dsp.vTarget)

/-- An allocation leaves the requests and notes its instant. -/
theorem allocate_requests (s : State) :
    (allocate s).dsp.force = s.dsp.force ∧ (allocate s).dsp.forceT = s.dsp.forceT ∧
      (allocate s).dsp.expired = s.dsp.expired ∧ (allocate s).dsp.next = s.dsp.next ∧
      (allocate s).dsp.queue = s.dsp.queue ∧ (allocate s).dsp.armed = s.dsp.armed ∧
      (allocate s).dsp.allocT = s.tsu.now ∧ (allocate s).red = s.red := by
  unfold allocate
  dsimp only
  split <;> simp [applyPlan_dsp]

/-- Without a request in force nothing is asked of the strings, and the power loops serve them. -/
theorem allocate_of_none {s : State} (h : s.dsp.force = none) :
    (allocate s).dsp.target = 0 ∧ (allocate s).le.vbusMode = false := by
  have ht := rampTo_target_of_none s.clk h
  unfold allocate
  dsimp only
  split
  · simp [applyPlan_dsp, applyPlan_vbusMode, ht]
  next hf => simp [h] at hf

/-- What an armed allocation writes into the setpoint registers: the plan of `e` at the target reached at its instant. -/
def armedWords (s : State) (e : DspEntry) : List Int :=
  let ahead := rampTo s (s.clk + (e.eff - s.tsu.now))
  let v := if modeNow s = 1 then ahead.dsp.vTarget else (s.hvi.vb : Rat) / 10
  let p := planOf s e.req (reqMode e.req) ahead.dsp.target v
  s.le.setp.mapIdx fun k v => (p.words.getD k none).getD v

/-- The allocation of `e` armed for its instant. -/
def armed (s : State) (e : DspEntry) : State :=
  ((progTrigger s 3 e.eff 0).setLe fun l => { l with shadow := armedWords s e, commit := some e.eff }).setDsp fun d =>
    { d with armed := some (e, armedWords s e) }

section
variable {t : Nat} {s b : State} (hb : s.advance t = b)
include hb

theorem exec_allocation (hr : supRuns b = true)
    (hdue : b.tsu.now / (10 * nsMs) ≠ b.dsp.allocT / (10 * nsMs) ∨ ∃ e ∈ b.dsp.queue, e.eff ≤ b.tsu.now) :
    exec (.allocation t) s =
      .next (allocate (takeDue (takeNext (committed b)) (takeNext (committed b)).dsp.queue)) := by
  change execAllocation t s = _
  unfold execAllocation
  simp only [hb, hr]
  refine congrArg Host.Outcome.next (if_neg ?_)
  rcases hdue with h | ⟨e, he, hle⟩
  · simp [h]
  · have : b.dsp.queue.any (fun e => decide (e.eff ≤ b.tsu.now)) = true :=
      List.any_eq_true.mpr ⟨e, he, decide_eq_true hle⟩
    simp [this]

/-- An allocation takes the waiting request. -/
theorem allocation_takesNext {e : DspEntry} (hr : supRuns b = true) (hn : b.dsp.next = some e) (hq : b.dsp.queue = [])
    (hdue : b.tsu.now / (10 * nsMs) ≠ b.dsp.allocT / (10 * nsMs)) : Does (.allocation t) s fun u =>
      u.dsp.force = some e ∧ u.dsp.forceT = b.clk ∧ u.dsp.expired = false ∧ u.dsp.next = none ∧
        u.dsp.allocT = b.tsu.now ∧ u.red.peerOut.head? = some peerDispatch := by
  have hnext : takeNext (committed b) =
      (takeRequest (committed b) e (committed b).clk).setDsp fun d => { d with next := none } := by
    unfold takeNext
    rw [committed_dsp, hn]
  refine ⟨_, exec_allocation hb hr (.inl hdue), ?_⟩
  rw [hnext]
  have hqueue : ((takeRequest (committed b) e (committed b).clk).setDsp fun d => { d with next := none }).dsp.queue = [] := by
    simp [hq]
  rw [hqueue, takeDue]
  simp [allocate_requests, takeRequest_sends]

/-- An allocation takes the queued request whose instant has come. -/
theorem allocation_takesDue {e : DspEntry} (hr : supRuns b = true) (hn : b.dsp.next = none) (hq : b.dsp.queue = [e])
    (hdue : e.eff ≤ b.tsu.now) : Does (.allocation t) s fun u =>
      u.dsp.force = some e ∧ u.dsp.forceT = (if e.late then b.clk else b.clk - (b.tsu.now - e.eff)) ∧
        u.dsp.queue = [] ∧ u.dsp.armed = none ∧ u.dsp.allocT = b.tsu.now := by
  have hnext : takeNext (committed b) = committed b := by
    unfold takeNext
    rw [committed_dsp, hn]
  refine ⟨_, exec_allocation hb hr (.inr ⟨e, by simp [hq], hdue⟩), ?_⟩
  rw [hnext, committed_dsp, hq, takeDue, committed_tsu, committed_clk, if_pos hdue, takeDue]
  simp [allocate_requests]

theorem allocation_idle (hr : supRuns b = true) (hn : b.dsp.next = none) (hq : b.dsp.queue = []) (hf : b.dsp.force = none)
    (hdue : b.tsu.now / (10 * nsMs) ≠ b.dsp.allocT / (10 * nsMs)) : Does (.allocation t) s fun u =>
      u.dsp.target = 0 ∧ u.dsp.allocT = b.tsu.now ∧ u.dsp.force = none ∧ u.le.vbusMode = false := by
  have hnext : takeNext (committed b) = committed b := by
    unfold takeNext
    rw [committed_dsp, hn]
  have hforce : (committed b).dsp.force = none := by rwa [committed_dsp]
  refine ⟨_, exec_allocation hb hr (.inl hdue), ?_⟩
  rw [hnext, committed_dsp, hq, takeDue]
  obtain ⟨htarget, hmode⟩ := allocate_of_none hforce
  exact ⟨htarget, by simp [allocate_requests], by simp [allocate_requests, hf], hmode⟩

/-- Arming keeps the allocation of the first queued request for its instant. -/
theorem arming_keeps {e : DspEntry} {rest : List DspEntry} (hr : supRuns b = true) (hq : b.dsp.queue = e :: rest)
    (ha : b.dsp.armed = none) (hahead : b.tsu.now < e.eff) (hnear : e.eff ≤ b.tsu.now + 2 * nsMs)
    (htrig : 3 < b.tsu.trig.length) : Does (.arming t) s fun u =>
      u.dsp.armed.map (·.1) = some e ∧ u.le.commit = some e.eff ∧ u.dsp.armed.map (·.2) = some u.le.shadow ∧
        u.le.setp = b.le.setp ∧ (u.tsu.trig.getD 3 {}).at_ = e.eff ∧ (u.tsu.trig.getD 3 {}).arm = true ∧
        u.dsp.queue = b.dsp.queue := by
  obtain ⟨hat, -, harm⟩ := progTrigger_trig b e.eff 0 htrig
  have hrun : exec (.arming t) s = .next (armed b e) := by
    change execArming t s = _
    unfold execArming
    simp only [hb, hr, hq, ha]
    exact congrArg Host.Outcome.next (if_neg (by simp; omega))
  exact ⟨_, hrun, rfl, rfl, rfl, rfl, hat, harm, rfl⟩

theorem setpointCommit_commits {c : Nat} (hc : b.le.commit = some c) (hdue : c ≤ b.tsu.now) :
    Does (.setpointCommit t) s fun u => u.le.setp = b.le.shadow ∧ u.le.commit = none ∧ u.str = b.str ∧ u.dsp = b.dsp := by
  refine ⟨b.setLe fun l => { l with setp := l.shadow, commit := none }, ?_, rfl, rfl, rfl, rfl⟩
  change execSetpointCommit t s = _
  unfold execSetpointCommit
  simp only [hb, hc, hdue, if_true]

/-- An expired request stays in force and counts as ZERO. -/
theorem requestExpiry_zero {e : DspEntry} (hf : b.dsp.force = some e) (hr : supRuns b = true) (hmode : reqMode e.req ≠ 2)
    (hx : b.dsp.expired = false) (hdue : b.dsp.forceT + reqExpiry b e.req ≤ b.clk) : Does (.requestExpiry t) s fun u =>
      u.dsp.expired = true ∧ u.dsp.force = b.dsp.force ∧ modeNow u = 2 := by
  refine ⟨groupRecord ((rampTo b b.clk).setDsp fun d => { d with expired := true }) gDsp srcSup lvInfo 206
    (getU e.req 0 4) 0, ?_, by simp, by simp, by simp [modeNow, hf]⟩
  change execRequestExpiry t s = _
  unfold execRequestExpiry
  simp only [hb, hf, hr, hx]
  exact congrArg Host.Outcome.next (if_pos (by simp [hmode, hdue]))

end

/-! ## The commands -/

/-- What DSP_SET_REQUEST sets of the requests. -/
def requestSet (s : State) (p : Bytes) : State :=
  let v := if nonzero p then exitFloat (touch s) else touch s
  v.setDsp fun d =>
    { d with queue := (accept s p).queue
             next := if (accept s p).queued then d.next
                     else some { req := p, eff := v.tsu.now, late := (accept s p).late } }

/-- The answer to DSP_SET_REQUEST `p`, queued or not. -/
def requestAnswer (s : State) (p : Bytes) (queued : Bool) : Bytes :=
  leU 1 (bitsToNat [(accept s p).late, queued, (accept s p).replaced, reqClears p]) ++ [0] ++
    leU 2 (accept s p).queue.length

theorem exec_dspSetRequest {s : State} {q : Req} (h : Taken s q) (hc : Commands s) (hl : q.payload.length = 48)
    (hm : getU q.payload 6 1 = 255 ∨ getU q.payload 6 1 < 2 ^ s.strings)
    (hf : badField (requestFields s.variant) q.payload = none) (hchk : requestCheck s q.payload = none)
    (hroom : (accept s q.payload).queue.length ≤ 16) : exec (.dspSetRequest q) s =
      .next (commit (dropArmed (requestSet s q.payload)) 0x0301 q peerDispatch
        (requestAnswer s q.payload (accept s q.payload).queued)) := by
  have ⟨_, _, henv⟩ := h
  change execDspSetRequest q s = _
  unfold execDspSetRequest
  rw [command_run _ _ q s h, noteDesc_none _ _ _ rfl]
  · rfl
  · exact rejection_of_commands (if_pos hl) hc henv (by simp [must, hm]) rfl (by simp [firstBad, hf, hchk]) rfl rfl rfl
      (decide_eq_false (Nat.not_lt.mpr hroom))

theorem requestSet_ackNeeded (s : State) (p : Bytes) : ackNeeded (dropArmed (requestSet s p)) = ackNeeded s :=
  ackNeeded_congr (by simp [requestSet]) (by simp [requestSet])

theorem requestSet_force (s : State) (p : Bytes) : (requestSet s p).dsp.force = s.dsp.force := by
  unfold requestSet
  split <;> simp

theorem requestSet_queue (s : State) (p : Bytes) : (requestSet s p).dsp.queue = (accept s p).queue := rfl

/-- A request other than zero ends FLOAT. -/
theorem requestSet_state_ne {s : State} {p : Bytes} (h : nonzero p = true) : (requestSet s p).pwr.state ≠ .float := by
  unfold requestSet
  rw [if_pos h]
  exact exitFloat_state_ne _

section
variable {s : State} {q : Req} (h : Taken s q) (hc : Commands s)
include h hc

theorem dspSetRequest_waits (hl : q.payload.length = 48)
    (hm : getU q.payload 6 1 = 255 ∨ getU q.payload 6 1 < 2 ^ s.strings)
    (hf : badField (requestFields s.variant) q.payload = none) (hchk : requestCheck s q.payload = none)
    (hroom : (accept s q.payload).queue.length ≤ 16) (hqd : (accept s q.payload).queued = false) :
    Does (.dspSetRequest q) s fun u => u.dsp.queue = (accept s q.payload).queue ∧
      u.dsp.next = some { req := q.payload, eff := s.tsu.now, late := (accept s q.payload).late } ∧
      u.dsp.force = s.dsp.force ∧ Done1 s u q 0x0301 4 (requestAnswer s q.payload false) ∧
      (nonzero q.payload = true → u.pwr.state ≠ .float) := by
  refine ⟨_, hqd ▸ exec_dspSetRequest h hc hl hm hf hchk hroom, ?_, ?_, ?_, ?_, ?_⟩
  · simp [requestSet_queue]
  · simp [requestSet, hqd]
  · simp [requestSet_force]
  · exact commit_done1 (requestSet_ackNeeded s q.payload) 0x0301 q peerDispatch _
  · intro hz
    simpa using requestSet_state_ne hz

theorem dspSetRequest_queues (hl : q.payload.length = 48)
    (hm : getU q.payload 6 1 = 255 ∨ getU q.payload 6 1 < 2 ^ s.strings)
    (hf : badField (requestFields s.variant) q.payload = none) (hchk : requestCheck s q.payload = none)
    (hroom : (accept s q.payload).queue.length ≤ 16) (hqd : (accept s q.payload).queued = true) :
    Does (.dspSetRequest q) s fun u => u.dsp.queue = (accept s q.payload).queue ∧
      { req := q.payload, eff := instantAt q.payload 8, late := false } ∈ u.dsp.queue ∧ u.dsp.next = s.dsp.next ∧
      u.dsp.force = s.dsp.force ∧ Done1 s u q 0x0301 4 (requestAnswer s q.payload true) := by
  refine ⟨_, hqd ▸ exec_dspSetRequest h hc hl hm hf hchk hroom, ?_, ?_, ?_, ?_, ?_⟩
  · simp [requestSet_queue]
  · simpa [requestSet_queue] using mem_accept_queue hqd
  · simp only [commit_keeps, dropArmed_requests, requestSet, State.setDsp_dsp, hqd, if_true]
    split <;> simp
  · simp [requestSet_force]
  · exact commit_done1 (requestSet_ackNeeded s q.payload) 0x0301 q peerDispatch _

/-- The state after DSP_CANCEL has left `l` in the queue. -/
def queueLeft (s : State) (l : List DspEntry) : State := dropArmed ((touch s).setDsp fun d => { d with queue := l })

theorem exec_dspCancel (hl : q.payload.length = 4) : exec (.dspCancel q) s = .next (commit
    (queueLeft s (if getU q.payload 0 4 = 0xFFFFFFFF then []
      else s.dsp.queue.filter fun e => getU e.req 0 4 ≠ getU q.payload 0 4)) 0x0302 q peerDispatch []) := by
  have ⟨_, _, henv⟩ := h
  change execDspCancel q s = _
  unfold execDspCancel
  rw [command_run _ _ q s h]
  · rfl
  · exact rejection_of_commands (if_pos hl) hc henv rfl rfl rfl rfl rfl rfl rfl

omit h hc in
theorem queueLeft_done (l : List DspEntry) :
    Done1 s (commit (queueLeft s l) 0x0302 q peerDispatch []) q 0x0302 4 [] :=
  commit_done1 (ackNeeded_congr (by simp [queueLeft]) (by simp [queueLeft])) 0x0302 q peerDispatch []

theorem dspCancel_removes (hl : q.payload.length = 4) (hid : getU q.payload 0 4 ≠ 0xFFFFFFFF) :
    Does (.dspCancel q) s fun u => Done1 s u q 0x0302 4 [] ∧
      u.dsp.queue = s.dsp.queue.filter (fun e => getU e.req 0 4 ≠ getU q.payload 0 4) ∧ u.dsp.force = s.dsp.force ∧
      u.str = s.str := by
  refine ⟨_, exec_dspCancel h hc hl, queueLeft_done _, ?_⟩
  rw [if_neg hid]
  simp [queueLeft]

theorem dspCancel_removesAll (hl : q.payload.length = 4) (hid : getU q.payload 0 4 = 0xFFFFFFFF) :
    Does (.dspCancel q) s fun u => Done1 s u q 0x0302 4 [] ∧ u.dsp.queue = [] ∧ u.dsp.armed = none ∧
      u.dsp.force = s.dsp.force := by
  refine ⟨_, exec_dspCancel h hc hl, queueLeft_done _, ?_⟩
  rw [if_pos hid]
  simp [queueLeft, dropArmed_armed_of_queue_nil]

end

/-- Settles O18: one law per clause; the waiting and the due request are taken by the same step, `takeRequest`. -/
theorem dispatchCommands : Obligations.DispatchCommands := by
  unfold Obligations.DispatchCommands
  exact ⟨fun _ _ h hc hl hm hf hchk hroom hqd => dspSetRequest_waits h hc hl hm hf hchk hroom hqd,
    fun _ _ h hc hl hm hf hchk hroom hqd => dspSetRequest_queues h hc hl hm hf hchk hroom hqd,
    fun _ _ h hc hl hid => dspCancel_removes h hc hl hid,
    fun _ _ h hc hl hid => dspCancel_removesAll h hc hl hid,
    fun _ _ _ hr hn hq hdue => allocation_takesNext rfl hr hn hq hdue,
    fun _ _ _ hr hn hq hdue => allocation_takesDue rfl hr hn hq hdue,
    fun _ _ hr hn hq hf _ hdue => allocation_idle rfl hr hn hq hf hdue,
    fun _ _ _ _ hr hq ha hahead hnear htrig => arming_keeps rfl hr hq ha hahead hnear htrig,
    fun _ _ _ hc hdue => setpointCommit_commits rfl hc hdue,
    fun _ _ _ hf hr hmode hx hdue => requestExpiry_zero rfl hf hr hmode hx hdue⟩

end Sys2Proof.Machine
end

section
/-! SUPPORT. The transfers in force: what the strings' lists of shuttles come to (07_balancing_dispatch.md R196, R197). -/

namespace Sys2Proof.Machine

theorem balAt_modBal_same (s : State) {i : Nat} (f : Bal → Bal) (h : i < s.bal.length) :
    (s.modBal i f).balAt i = f (s.balAt i) := getD_modify_same _ _ _ _ h

theorem balAt_modBal_ne (s : State) {i k : Nat} (f : Bal → Bal) (h : k ≠ i) : (s.modBal i f).balAt k = s.balAt k :=
  getD_modify_ne _ _ _ h

/-- A string that the state does not list has no transfers. -/
theorem balAt_of_length_le {s : State} {i : Nat} (h : s.bal.length ≤ i) : s.balAt i = {} :=
  getD_of_length_le ({} : Bal) h

theorem balAt_congr {s u : State} (h : u.bal = s.bal) (i : Nat) : u.balAt i = s.balAt i := congrArg (·.getD i {}) h

/-- A field that the update leaves alone is the same for every string. -/
theorem balAt_modBal_field {γ : Type} (p : Bal → γ) (s : State) (i k : Nat) (f : Bal → Bal) (h : ∀ x, p (f x) = p x) :
    p ((s.modBal i f).balAt k) = p (s.balAt k) := by
  by_cases hk : k = i
  · subst hk
    by_cases hl : k < s.bal.length
    · rw [balAt_modBal_same s f hl, h]
    · have hlen : (s.modBal k f).bal.length ≤ k := by simpa [State.modBal] using hl
      rw [balAt_of_length_le hlen, balAt_of_length_le (Nat.le_of_not_lt hl)]
  · rw [balAt_modBal_ne s f hk]

/-! ## Dropping shuttles -/

theorem dropShuttles_bal (s : State) (i : Nat) (keep : List Transfer) :
    (dropShuttles s i keep).bal = (s.modBal i fun b => { b with shuttles := keep }).bal := by
  unfold dropShuttles
  exact foldl_bal (fun u (x : Transfer) => u.modMon i x.m _) (fun _ _ => rfl) _ _

theorem dropShuttles_same (s : State) {i : Nat} (keep : List Transfer) (h : i < s.bal.length) :
    (dropShuttles s i keep).balAt i = { s.balAt i with shuttles := keep } :=
  (balAt_congr (dropShuttles_bal s i keep) i).trans (balAt_modBal_same s _ h)

theorem dropShuttles_ne (s : State) {i k : Nat} (keep : List Transfer) (h : k ≠ i) :
    (dropShuttles s i keep).balAt k = s.balAt k :=
  (balAt_congr (dropShuttles_bal s i keep) k).trans (balAt_modBal_ne s _ h)

@[simp] theorem dropShuttles_bal_length (s : State) (i : Nat) (keep : List Transfer) :
    (dropShuttles s i keep).bal.length = s.bal.length := by
  simp [dropShuttles_bal, State.modBal]

/-! ## Sums over the strings -/

/-- The sum over the strings of what `g` makes of their shuttles. -/
def shuttleSum (s : State) (g : List Transfer → Nat) : Nat :=
  ((List.range s.strings).map fun i => g (s.balAt i).shuttles).sum

/-- Estimated power of the shuttles of one direction in a list. -/
def powerOf (out : Bool) (l : List Transfer) : Nat := ((l.filter fun x => x.outOfCell == out).map (·.power)).sum

/-- Number of shuttles of one direction in a list. -/
def countOf (out : Bool) (l : List Transfer) : Nat := (l.filter fun x => x.outOfCell == out).length

theorem inUse_eq (s : State) (out : Bool) : inUse s out = shuttleSum s (powerOf out) := rfl

theorem shuttleSum_le {s u : State} {g g' : List Transfer → Nat} (hv : u.strings = s.strings)
    (h : ∀ i, g (u.balAt i).shuttles ≤ g' (s.balAt i).shuttles) : shuttleSum u g ≤ shuttleSum s g' := by
  unfold shuttleSum
  rw [hv]
  exact List.sum_le_sum fun i _ => h i

theorem shuttleSum_lt {s u : State} {g : List Transfer → Nat} {k : Nat} (hv : u.strings = s.strings) (hk : k < s.strings)
    (h : ∀ i, g (u.balAt i).shuttles ≤ g (s.balAt i).shuttles) (hlt : g (u.balAt k).shuttles < g (s.balAt k).shuttles) :
    shuttleSum u g < shuttleSum s g := by
  unfold shuttleSum
  rw [hv]
  exact List.sum_lt_sum _ _ (fun i _ => h i) ⟨k, List.mem_range.mpr hk, hlt⟩

theorem powerOf_mono (out : Bool) {l m : List Transfer} (h : l.Sublist m) : powerOf out l ≤ powerOf out m :=
  ((h.filter _).map _).sum_le_sum fun _ _ => Nat.zero_le _

theorem countOf_mono (out : Bool) {l m : List Transfer} (h : l.Sublist m) : countOf out l ≤ countOf out m :=
  (h.filter _).length_le

theorem countOf_le_length (out : Bool) (l : List Transfer) : countOf out l ≤ l.length := List.length_filter_le ..

/-- Without transfers of a direction nothing is in use. -/
theorem inUse_of_no_transfers {s : State} {out : Bool} (h : shuttleSum s (countOf out) = 0) : inUse s out = 0 := by
  rw [inUse_eq, shuttleSum, List.sum_eq_zero_iff] at *
  intro x hx
  obtain ⟨i, hi, rfl⟩ := List.mem_map.mp hx
  have : countOf out (s.balAt i).shuttles = 0 := h _ (List.mem_map.mpr ⟨i, hi, rfl⟩)
  rw [powerOf, List.eq_nil_of_length_eq_zero this]
  rfl

end Sys2Proof.Machine
end

section
/-! SUPPORT. When an allowance falls, transfers are stopped until the rest fit (07_balancing_dispatch.md R197). -/

namespace Sys2Proof.Machine

/-- The lesser |d| of two transfers, the earlier of equal ones. -/
def lesserDev (a : Option (Nat × Transfer)) (x : Nat × Transfer) : Option (Nat × Transfer) :=
  match a with
  | none => some x
  | some y => if x.2.dev < y.2.dev then some x else a

/-- The transfers of one direction, with their strings. -/
def transfersOf (s : State) (out : Bool) : List (Nat × Transfer) :=
  (List.range s.strings).flatMap fun i => ((s.balAt i).shuttles.filter fun x => x.outOfCell == out).map fun x => (i, x)

theorem leastDev_eq (s : State) (out : Bool) : leastDev s out = (transfersOf s out).foldl lesserDev none := rfl

theorem foldl_lesserDev (l : List (Nat × Transfer)) (y : Nat × Transfer) :
    ∃ z ∈ y :: l, l.foldl lesserDev (some y) = some z := by
  induction l generalizing y with
  | nil => exact ⟨y, List.mem_cons_self, rfl⟩
  | cons x l ih =>
    by_cases h : x.2.dev < y.2.dev
    · obtain ⟨z, hz, e⟩ := ih x
      exact ⟨z, List.mem_cons_of_mem _ hz, by simpa [lesserDev, h] using e⟩
    · obtain ⟨z, hz, e⟩ := ih y
      refine ⟨z, ?_, by simpa [lesserDev, h] using e⟩
      rcases List.mem_cons.mp hz with rfl | hz
      · exact List.mem_cons_self
      · exact List.mem_cons_of_mem _ (List.mem_cons_of_mem _ hz)

/-- The transfer chosen is one of the direction. -/
theorem leastDev_mem {s : State} {out : Bool} {i : Nat} {x : Transfer} (h : leastDev s out = some (i, x)) :
    i < s.strings ∧ x ∈ (s.balAt i).shuttles ∧ x.outOfCell = out := by
  have hmem : (i, x) ∈ transfersOf s out := by
    rw [leastDev_eq] at h
    cases hl : transfersOf s out with
    | nil => simp [hl] at h
    | cons y l =>
      obtain ⟨z, hz, e⟩ := foldl_lesserDev l y
      rw [hl] at h
      have : some z = some (i, x) := e.symm.trans h
      cases this
      exact hz
  obtain ⟨j, hj, hx⟩ := List.mem_flatMap.mp hmem
  obtain ⟨y, hy, e⟩ := List.mem_map.mp hx
  cases e
  obtain ⟨hin, hout⟩ := List.mem_filter.mp hy
  exact ⟨List.mem_range.mp hj, hin, eq_of_beq hout⟩

/-- None is chosen where there is none of the direction. -/
theorem no_transfers_of_leastDev {s : State} {out : Bool} (h : leastDev s out = none) :
    shuttleSum s (countOf out) = 0 := by
  have hnil : transfersOf s out = [] := by
    rw [leastDev_eq] at h
    cases hl : transfersOf s out with
    | nil => rfl
    | cons y l =>
      obtain ⟨z, -, e⟩ := foldl_lesserDev l y
      rw [hl] at h
      exact absurd (e.symm.trans h) (by simp)
  have hlen : (transfersOf s out).length = shuttleSum s (countOf out) := by
    simp [transfersOf, shuttleSum, countOf, List.length_flatMap]
  rw [← hlen, hnil]
  rfl

/-- The shuttles of string `i` without transfer `x`. -/
def without (s : State) (i : Nat) (x : Transfer) : List Transfer :=
  (s.balAt i).shuttles.filter fun y => ¬ (y.m = x.m ∧ y.ch = x.ch)

theorem dropShuttles_sublist (s : State) (i : Nat) (x : Transfer) (k : Nat) :
    ((dropShuttles s i (without s i x)).balAt k).shuttles.Sublist (s.balAt k).shuttles := by
  by_cases hk : k = i
  · subst hk
    by_cases hl : k < s.bal.length
    · rw [dropShuttles_same s _ hl]
      exact List.filter_sublist
    · rw [balAt_of_length_le (by simpa using hl)]
      exact List.nil_sublist _
  · rw [dropShuttles_ne s _ hk]

/-- Dropping the chosen transfer leaves fewer of its direction. -/
theorem dropShuttles_fewer {s : State} {out : Bool} {i : Nat} {x : Transfer} (h : leastDev s out = some (i, x)) :
    shuttleSum (dropShuttles s i (without s i x)) (countOf out) < shuttleSum s (countOf out) := by
  obtain ⟨hi, hx, hout⟩ := leastDev_mem h
  have hl : i < s.bal.length := by
    by_contra hl
    simp [balAt_of_length_le (Nat.le_of_not_lt hl)] at hx
  refine shuttleSum_lt (strings_congr (by simp)) hi (fun k => countOf_mono out (dropShuttles_sublist s i x k)) ?_
  rw [dropShuttles_same s _ hl]
  have hsub : ((without s i x).filter fun y => y.outOfCell == out).Sublist
      ((s.balAt i).shuttles.filter fun y => y.outOfCell == out) := List.filter_sublist.filter _
  refine Nat.lt_of_le_of_ne hsub.length_le fun heq => ?_
  have hin : x ∈ (without s i x).filter fun y => y.outOfCell == out := by
    rw [hsub.eq_of_length heq]
    exact List.mem_filter.mpr ⟨hx, by simp [hout]⟩
  simp [without] at hin

theorem trimTo_succ (out : Bool) (limit n : Nat) (s : State) : trimTo out limit (n + 1) s =
    if inUse s out ≤ limit ∧ 0 < limit then s
    else match leastDev s out with
      | none => s
      | some (i, x) => trimTo out limit n (dropShuttles s i (without s i x)) := rfl

/-- Trimming only takes transfers away. -/
theorem trimTo_sublist (out : Bool) (limit n : Nat) (s : State) (k : Nat) :
    ((trimTo out limit n s).balAt k).shuttles.Sublist (s.balAt k).shuttles := by
  induction n generalizing s with
  | zero => exact List.Sublist.refl _
  | succ n ih =>
    rw [trimTo_succ]
    split
    · exact List.Sublist.refl _
    · split
      · exact List.Sublist.refl _
      · exact (ih _).trans (dropShuttles_sublist ..)

/-- Trimming one direction lets neither rise. -/
theorem trimTo_inUse_le (out dir : Bool) (limit n : Nat) (s : State) :
    inUse (trimTo out limit n s) dir ≤ inUse s dir :=
  shuttleSum_le (strings_congr (by simp)) fun k => powerOf_mono dir (trimTo_sublist out limit n s k)

/-- With a step for each transfer, what trimming leaves fits. -/
theorem trimTo_fits (out : Bool) (limit n : Nat) (s : State) (h : shuttleSum s (countOf out) ≤ n) :
    inUse (trimTo out limit n s) out ≤ limit := by
  induction n generalizing s with
  | zero => exact (inUse_of_no_transfers (Nat.le_zero.mp h)).trans_le (Nat.zero_le _)
  | succ n ih =>
    rw [trimTo_succ]
    split
    next hfits => exact hfits.1
    · split
      next hnone => exact (inUse_of_no_transfers (no_transfers_of_leastDev hnone)).trans_le (Nat.zero_le _)
      next i x hsome => exact ih _ (by have := dropShuttles_fewer hsome; omega)

section
variable {t : Nat} {s b : State} (hb : s.advance t = b)
include hb

theorem allowanceChange_fits (hc : Commands b)
    (hn : ((List.range b.strings).map fun i => (b.balAt i).shuttles.length).sum ≤ 128) :
    Does (.allowanceChange t) s fun u =>
      inUse u false ≤ drawLimit b ∧ inUse u true ≤ returnLimit b ∧ u.str = b.str := by
  have hcommands : b.unit.commands = true := by rcases hc with h | h <;> simp [h, UnitState.commands]
  have hcount (out : Bool) : shuttleSum b (countOf out) ≤ 128 :=
    (shuttleSum_le rfl fun i => countOf_le_length out (b.balAt i).shuttles).trans hn
  have hdraw := trimTo_fits false (drawLimit b) 128 b (hcount false)
  have hleft : shuttleSum (trimTo false (drawLimit b) 128 b) (countOf true) ≤ 128 :=
    (shuttleSum_le (strings_congr (by simp)) fun k => countOf_mono true (trimTo_sublist ..)).trans (hcount true)
  refine ⟨trimTo true (returnLimit b) 128 (trimTo false (drawLimit b) 128 b), ?_, (trimTo_inUse_le ..).trans hdraw,
    trimTo_fits true _ 128 _ hleft, by simp⟩
  change execAllowanceChange t s = _
  unfold execAllowanceChange
  simp only [hb, hcommands]
  rfl

end

end Sys2Proof.Machine
end

section
/-! SUPPORT. The planning cycle (07_balancing_dispatch.md R191 to R196): what is granted fits the allowances. -/

namespace Sys2Proof.Machine

/-! ## Grants -/

/-- Bus power of offer `o` at current `cur`, mW. -/
def offerPower (s : State) (o : Offer) (cur : Nat) : Nat :=
  shuttlePower s o.i (512 * o.i + 32 * o.x.m + o.x.ch) o.x.outOfCell cur

theorem offerPower_le_of_fitting {s : State} {o : Offer} {room cur : Nat} (h : fitting s o room = some cur) :
    offerPower s o cur ≤ room := by
  unfold fitting at h
  dsimp only at h
  split at h
  next hfits =>
    cases h
    exact of_decide_eq_true hfits
  · split at h
    · exact of_decide_eq_true (List.find?_some h :)
    · cases h

/-- Offer `o` granted at current `cur`. -/
def granting (s : State) (o : Offer) (cur : Nat) : Offer :=
  { o with x := { o.x with current := cur, power := offerPower s o cur } }

/-- Power of the offers of one direction in a list. -/
def offeredPower (out : Bool) (l : List Offer) : Nat := powerOf out (l.map (·.x))

theorem powerOf_cons (out : Bool) (x : Transfer) (l : List Transfer) :
    powerOf out (x :: l) = (if x.outOfCell = out then x.power else 0) + powerOf out l := by
  unfold powerOf
  by_cases h : x.outOfCell = out <;> simp [h]

/-- What is granted of one direction fits that direction's allowance. -/
theorem grant_fits (s : State) (l : List Offer) (draw ret : Nat) (out : Bool) :
    offeredPower out (grant s l draw ret) ≤ if out then ret else draw := by
  induction l generalizing draw ret with
  | nil => exact Nat.zero_le _
  | cons o l ih =>
    unfold grant
    split
    · exact ih draw ret
    next cur hcur =>
      have hroom : offerPower s o cur ≤ _ := offerPower_le_of_fitting hcur
      change powerOf out ((granting s o cur).x :: List.map _ _) ≤ _
      rw [powerOf_cons]
      change (if o.x.outOfCell = out then offerPower s o cur else 0) + offeredPower out (if o.x.outOfCell then
        grant s l draw (ret - offerPower s o cur) else grant s l (draw - offerPower s o cur) ret) ≤ _
      generalize offerPower s o cur = p at hroom ⊢
      cases hdir : o.x.outOfCell with
      | true =>
        have hrest := ih draw (ret - p)
        cases out <;> simp [hdir] at hroom hrest ⊢ <;> omega
      | false =>
        have hrest := ih (draw - p) ret
        cases out <;> simp [hdir] at hroom hrest ⊢ <;> omega

/-- The grants of string `j`. -/
def grantsTo (l : List Offer) (j : Nat) : List Transfer := (l.filter fun o => o.i == j).map (·.x)

theorem powerOf_grantsTo_cons (out : Bool) (o : Offer) (l : List Offer) (j : Nat) :
    powerOf out (grantsTo (o :: l) j) =
      (if j = o.i then (if o.x.outOfCell = out then o.x.power else 0) else 0) + powerOf out (grantsTo l j) := by
  by_cases h : j = o.i
  · simp [grantsTo, h, powerOf_cons]
  · simp [grantsTo, h, Ne.symm h]

/-- A value counted for one string at most once. -/
theorem sum_range_single_le (k c n : Nat) : ((List.range n).map fun j => if j = k then c else 0).sum ≤ c := by
  have hsum : ((List.range n).map fun j => if j = k then c else 0).sum = if k < n then c else 0 := by
    induction n with
    | zero => rfl
    | succ n ih =>
      rw [List.range_succ, List.map_append, List.sum_append, ih]
      simp only [List.map_cons, List.map_nil, List.sum_cons, List.sum_nil]
      grind
  rw [hsum]
  split <;> omega

/-- The strings' grants together are no more than all the grants. -/
theorem sum_grantsTo_le (out : Bool) (l : List Offer) (n : Nat) :
    ((List.range n).map fun j => powerOf out (grantsTo l j)).sum ≤ offeredPower out l := by
  induction l with
  | nil => simp [grantsTo, powerOf]
  | cons o l ih =>
    simp only [powerOf_grantsTo_cons, List.sum_map_add]
    rw [offeredPower, List.map_cons, powerOf_cons]
    exact Nat.add_le_add (sum_range_single_le ..) ih

/-! ## The plan -/

/-- A planning cycle of string `i` has begun: its next one stands at the next 60 s point. -/
def cycleBegun (s : State) (i : Nat) : State :=
  s.modBal i fun b => { b with cycleT := nextCycle s i, ringStopped := false }

theorem cycleBegun_balCfg (s : State) (i : Nat) : balCfg (cycleBegun s i) i = balCfg s i :=
  congrArg (forString balFields i) (balAt_modBal_field Bal.cfg s i i _ fun _ => rfl)

/-- The schedule has no part in the deviations. -/
theorem cycleBegun_deviations (s : State) (i : Nat) : deviations (cycleBegun s i) i = deviations s i := by
  have helig : eligibleCell (cycleBegun s i) i = eligibleCell s i := by
    funext c
    simp only [eligibleCell, cycleBegun_balCfg]
    rfl
  simp only [deviations, balMode, cycleBegun_balCfg, helig]
  rfl

/-- What the plan of string `i` grants across the device. -/
def planGrants (s : State) (i : Nat) : List Offer :=
  grant s ((offersOf s i (deviations s i) ++ otherOffers s i).foldl (fun a o => insertOffer o a) []) (drawLimit s)
    (returnLimit s)

/-- The other strings keep of their shuttles what the plan grants them. -/
def othersPlanned (s : State) (i : Nat) : State :=
  ((List.range s.strings).filter (· ≠ i)).foldl (fun u j => dropShuttles u j (grantsTo (planGrants s i) j)) s

/-- The plan of string `i` in force. -/
def planned (s : State) (i : Nat) : State :=
  (othersPlanned s i).modBal i fun b =>
    { b with shuttles := grantsTo (planGrants s i) i
             bleeds := (List.range 16).flatMap
               (bleedsOf (othersPlanned s i) i (deviations s i) (grantsTo (planGrants s i) i)) }

/-- With half of the cells eligible or more, the plan goes into force and monitors are read. -/
theorem planString_bal {s : State} {i : Nat} (h : (presentCells s i).length ≤ 2 * (deviations s i).length) :
    (planString s i).bal = (planned s i).bal := by
  unfold planString
  dsimp only
  rw [if_neg (Nat.not_lt.mpr h)]
  exact foldl_bal (fun u m => sendFrame u i m 4 2 false) (fun u m => by simp) _ _

/-- String `j` has in force what the plan grants it, or nothing. -/
def Granted (l : List Offer) (j : Nat) (s : State) : Prop :=
  (s.balAt j).shuttles = grantsTo l j ∨ (s.balAt j).shuttles = []

theorem dropShuttles_granted (l : List Offer) (j : Nat) (s : State) : Granted l j (dropShuttles s j (grantsTo l j)) := by
  by_cases h : j < s.bal.length
  · exact .inl (by rw [dropShuttles_same s _ h])
  · exact .inr (by rw [balAt_of_length_le (by simpa using h)])

theorem dropShuttles_keeps_granted (l : List Offer) {j : Nat} (k : Nat) {s : State} (h : Granted l j s) :
    Granted l j (dropShuttles s k (grantsTo l k)) := by
  by_cases hk : j = k
  · exact hk ▸ dropShuttles_granted l j s
  · rwa [Granted, dropShuttles_ne s _ hk]

theorem othersPlanned_granted (s : State) {i j : Nat} (hj : j < s.strings) (h : j ≠ i) :
    Granted (planGrants s i) j (othersPlanned s i) := by
  unfold othersPlanned
  exact foldl_establishes (P := Granted (planGrants s i) j) (Q := fun _ => True) (i := j) (fun _ _ _ => trivial)
    (fun u _ => dropShuttles_granted _ j u) (fun _ k _ hu => dropShuttles_keeps_granted _ k hu) _ (by simp [hj, h]) s trivial

/-- The other strings' transfers are no matter of the planned string's. -/
theorem othersPlanned_balAt (s : State) (i : Nat) : (othersPlanned s i).balAt i = s.balAt i := by
  refine List.foldlRecOn (motive := fun u : State => u.balAt i = s.balAt i) _ _ rfl fun u hu j hj => ?_
  have hne : i ≠ j := fun e => by simp [e] at hj
  rw [dropShuttles_ne u _ hne, hu]

theorem othersPlanned_bal_length (s : State) (i : Nat) : (othersPlanned s i).bal.length = s.bal.length :=
  foldl_proj (fun u : State => u.bal.length) _ (fun _ _ => dropShuttles_bal_length ..) _ _

/-- The plan sets the transfers of its string and leaves the rest of its balancing. -/
theorem planned_balAt {s : State} {i : Nat} (hi : i < s.bal.length) : ∃ bleeds, (planned s i).balAt i =
    { s.balAt i with shuttles := grantsTo (planGrants s i) i, bleeds := bleeds } := by
  rw [planned, balAt_modBal_same _ _ (by rwa [othersPlanned_bal_length]), othersPlanned_balAt]
  exact ⟨_, rfl⟩

theorem planned_granted {s : State} {i j : Nat} (hi : i < s.bal.length) (hj : j < s.strings) :
    Granted (planGrants s i) j (planned s i) := by
  by_cases h : j = i
  · subst h
    obtain ⟨bleeds, e⟩ := planned_balAt hi
    exact .inl (by rw [e])
  · rw [Granted, planned, balAt_modBal_ne _ _ h]
    exact othersPlanned_granted s hj h

/-- The shuttles in force after a plan fit the allowances. -/
theorem planString_fits {s : State} {i : Nat} (hi : i < s.bal.length)
    (h : (presentCells s i).length ≤ 2 * (deviations s i).length) (out : Bool) :
    inUse (planString s i) out ≤ if out then returnLimit s else drawLimit s := by
  have hone (j : Nat) (hj : j < s.strings) :
      powerOf out ((planString s i).balAt j).shuttles ≤ powerOf out (grantsTo (planGrants s i) j) := by
    rw [balAt_congr (planString_bal h)]
    rcases planned_granted hi hj with e | e <;> rw [e]
    exact Nat.zero_le _
  calc inUse (planString s i) out
      ≤ ((List.range s.strings).map fun j => powerOf out (grantsTo (planGrants s i) j)).sum := by
        rw [inUse_eq, shuttleSum, strings_congr (s := s) (by simp)]
        exact List.sum_le_sum fun j hj => hone j (List.mem_range.mp hj)
    _ ≤ offeredPower out (planGrants s i) := sum_grantsTo_le ..
    _ ≤ _ := grant_fits ..

section
variable {t : Nat} {s b : State} (hb : s.advance t = b) {i : Nat} (ha : planAllowed b i = true)
  (hm : ringMaster b = true) (hr : ringRuns b i = true) (hdue : cycleDue b i = true)
include hb ha hm hr hdue

theorem exec_planningCycle : exec (.planningCycle t i) s =
    .next (if balMode (cycleBegun b i) i = 0 then stopBalancing (cycleBegun b i) i else planString (cycleBegun b i) i) := by
  change execPlanningCycle t i s = _
  unfold execPlanningCycle
  simp only [hb, ha, hm, hr, hdue]
  rfl

theorem exec_planningCycle_plans (hmode : balMode b i ≠ 0) :
    exec (.planningCycle t i) s = .next (planString (cycleBegun b i) i) := by
  rw [exec_planningCycle hb ha hm hr hdue, balMode, cycleBegun_balCfg]
  exact congrArg Host.Outcome.next (if_neg hmode)

/-- With fewer than half of the cells eligible the cycle is omitted and counted. -/
theorem planningCycle_omitted (hi : i < b.bal.length) (hmode : balMode b i ≠ 0)
    (hfew : 2 * (deviations b i).length < (presentCells b i).length) : Does (.planningCycle t i) s fun u =>
      (u.balAt i).omitted = (b.balAt i).omitted + 1 ∧ (u.balAt i).cycleT = nextCycle b i ∧
        (u.balAt i).shuttles = (b.balAt i).shuttles := by
  have hplan : planString (cycleBegun b i) i = (cycleBegun b i).modBal i fun x => { x with omitted := x.omitted + 1 } := by
    unfold planString
    dsimp only
    rw [cycleBegun_deviations]
    exact if_pos hfew
  refine ⟨_, exec_planningCycle_plans hb ha hm hr hdue hmode, ?_⟩
  dsimp only
  rw [hplan, balAt_modBal_same _ _ (by simpa [cycleBegun, State.modBal] using hi), cycleBegun,
    balAt_modBal_same b _ hi]
  exact ⟨rfl, rfl, rfl⟩

theorem planningCycle_fits (hi : i < b.bal.length) (hmode : balMode b i ≠ 0)
    (hmany : (presentCells b i).length ≤ 2 * (deviations b i).length) : Does (.planningCycle t i) s fun u =>
      inUse u false ≤ drawLimit b ∧ inUse u true ≤ returnLimit b ∧ (u.balAt i).omitted = (b.balAt i).omitted ∧
        (u.balAt i).cycleT = nextCycle b i ∧ u.str = b.str := by
  have hlen : i < (cycleBegun b i).bal.length := by simpa [cycleBegun, State.modBal] using hi
  have hmany' : (presentCells (cycleBegun b i) i).length ≤ 2 * (deviations (cycleBegun b i) i).length := by
    rw [cycleBegun_deviations]
    exact hmany
  have hbal : (planString (cycleBegun b i) i).balAt i = (planned (cycleBegun b i) i).balAt i :=
    balAt_congr (planString_bal hmany') i
  refine ⟨_, exec_planningCycle_plans hb ha hm hr hdue hmode, planString_fits hlen hmany' false,
    planString_fits hlen hmany' true, ?_⟩
  obtain ⟨bleeds, hplanned⟩ := planned_balAt hlen
  rw [hbal, hplanned, cycleBegun, balAt_modBal_same b _ hi]
  exact ⟨rfl, rfl, by simp⟩

/-- In mode OFF nothing is in force. -/
theorem planningCycle_off (hi : i < b.bal.length) (hmode : balMode b i = 0) : Does (.planningCycle t i) s fun u =>
    (u.balAt i).shuttles = [] ∧ (u.balAt i).bleeds = [] ∧ (u.balAt i).cycleT = nextCycle b i := by
  have hrun : exec (.planningCycle t i) s = .next (stopBalancing (cycleBegun b i) i) := by
    rw [exec_planningCycle hb ha hm hr hdue, balMode, cycleBegun_balCfg]
    exact congrArg Host.Outcome.next (if_pos hmode)
  obtain ⟨hshuttles, hbleeds⟩ := stopBalancing_unbalanced (cycleBegun b i) i
  have hkept : ((stopBalancing (cycleBegun b i) i).balAt i).cycleT = ((cycleBegun b i).balAt i).cycleT :=
    balAt_modBal_field Bal.cycleT _ i i (fun x => { x with shuttles := [], bleeds := [] }) fun _ => rfl
  refine ⟨_, hrun, hshuttles, hbleeds, ?_⟩
  rw [hkept, cycleBegun, balAt_modBal_same b _ hi]

end

end Sys2Proof.Machine
end
section
/-! SUPPORT. Balancing stops and rest windows (07_balancing_dispatch.md R194, R214, R215; 05_cell_estimation.md R148). -/

namespace Sys2Proof.Machine

/-- Stopping a string's balancing ends the transfers of every monitor that follows this unit. -/
theorem stopBalancing_monitors (s : State) {i m : Nat} (hm : m < (s.ringAt i).mons.length)
    (hf : (s.monAt i m).followsUs = true) :
    ((stopBalancing s i).monAt i m).bleed = [] ∧ ((stopBalancing s i).monAt i m).shuttle = none := by
  by_cases hi : i < s.rings.ring.length
  · have hring : (stopBalancing s i).ringAt i = { s.ringAt i with mons := (s.ringAt i).mons.map fun x =>
        if x.followsUs then { x with bleed := [], shuttle := none } else x } :=
      ringAt_modRing_same (s.modBal i fun b => { b with shuttles := [], bleeds := [] }) _ hi
    have hmon : (stopBalancing s i).monAt i m = { s.monAt i m with bleed := [], shuttle := none } := by
      rw [State.monAt, hring, Ring.mon, getD_map_of_lt _ _ {} _ hm]
      exact if_pos hf
    rw [hmon]
    exact ⟨rfl, rfl⟩
  · have hring : (stopBalancing s i).ringAt i = {} :=
      getD_of_length_le ({} : Ring) (by simpa [stopBalancing, State.modRing, State.modBal] using hi)
    have hmon : (stopBalancing s i).monAt i m = {} := by
      rw [State.monAt, hring]
      exact (List.getD_eq_getElem?_getD ..).trans (List.getElem?_getD_replicate_default_eq ({} : Monitor) 16 m)
    rw [hmon]
    exact ⟨rfl, rfl⟩

theorem estAt_modEst_same (s : State) {i : Nat} (f : Est → Est) (h : i < s.cee.est.length) :
    (s.modEst i f).estAt i = f (s.estAt i) := getD_modify_same _ _ _ _ h

theorem estAt_congr {s u : State} (h : u.cee = s.cee) (i : Nat) : u.estAt i = s.estAt i :=
  congrArg (fun c : Cee => c.est.getD i {}) h

/-- A change of band sets the band and the instants of its steps. -/
theorem changeBand_estAt (s : State) {i : Nat} (band : Band) (up : Bool) (h : i < s.cee.est.length) :
    ∃ round, (changeBand s i band up).estAt i = { s.estAt i with band := band, lowSince := none, rateRound := round } :=
  ⟨_, estAt_modEst_same s _ h⟩

theorem changeBand_est_length (s : State) (i : Nat) (band : Band) (up : Bool) :
    (changeBand s i band up).cee.est.length = s.cee.est.length := List.length_modify ..

/-- The rest window of string `i` in the state that grants it. -/
def restOpened (s : State) (i : Nat) : State :=
  s.modEst i fun e =>
    { e with restRequested := false, restEnd := none
             rest := some { t0 := s.clk, p0 := (s.dsp.str.getD i {}).setpoint, w := (s.dsp.str.getD i {}).weight
                            counted := none, limitedSince := none } }

/-- The state after a rest window is granted. -/
def restGranted (s : State) (i : Nat) : State :=
  stopPair (stopBalancing (changeBand (restOpened s i) i .rest true) i) (pairOf s i)

theorem restGranted_estAt {s : State} {i : Nat} (h : i < s.cee.est.length) :
    (((restGranted s i).estAt i).rest.map (·.t0)) = some s.clk ∧ ((restGranted s i).estAt i).restRequested = false ∧
      ((restGranted s i).estAt i).band = .rest := by
  obtain ⟨round, hest⟩ := changeBand_estAt (restOpened s i) .rest true (by simpa [restOpened, State.modEst] using h)
  have hstop : (restGranted s i).estAt i = (changeBand (restOpened s i) i .rest true).estAt i :=
    estAt_congr (by simp [restGranted]) i
  rw [hstop, hest, restOpened, estAt_modEst_same s _ h]
  exact ⟨rfl, rfl, rfl⟩

theorem restGranted_unbalanced (s : State) (i : Nat) : Unbalanced i (restGranted s i) := by
  have hbal : (restGranted s i).bal = (stopBalancing (changeBand (restOpened s i) i .rest true) i).bal := by
    simp [restGranted]
  rw [Unbalanced, balAt_congr hbal]
  exact stopBalancing_unbalanced ..

/-- The string's pair injects no longer. -/
theorem restGranted_pairAt {s : State} {i : Nat} (h : injecting (s.pairAt (pairOf s i)) = true) :
    ((restGranted s i).pairAt (pairOf s i)).env = .falling s.clk := by
  have hpair := stopPair_pairAt (s := stopBalancing (changeBand (restOpened s i) i .rest true) i) (k := pairOf s i) h
  rw [restGranted, hpair]
  rfl

section
variable {t : Nat} {s b : State} (hb : s.advance t = b) {i : Nat}
include hb

theorem balancingStop_stops (hs : b.isStr i = true) (hstop : stopNow b i = true) : Does (.balancingStop t i) s fun u =>
    (u.balAt i).shuttles = [] ∧ (u.balAt i).bleeds = [] ∧
      (∀ m, m < (b.ringAt i).mons.length → (b.monAt i m).followsUs = true →
        (u.monAt i m).bleed = [] ∧ (u.monAt i m).shuttle = none) ∧ u.str = b.str := by
  obtain ⟨hshuttles, hbleeds⟩ := stopBalancing_unbalanced b i
  refine ⟨stopBalancing b i, ?_, hshuttles, hbleeds, fun m hm hf => stopBalancing_monitors b hm hf, by simp⟩
  change execBalancingStop t i s = _
  unfold execBalancingStop
  simp only [hb, hs, hstop]
  rfl

theorem restWindowGrant_grants (hs : b.isStr i = true) (hr : supRuns b = true) (hg : restGrantable b i = true)
    (hi : i < b.cee.est.length) : Does (.restWindowGrant t i) s fun u =>
      ((u.estAt i).rest.map (·.t0)) = some b.clk ∧ (u.estAt i).restRequested = false ∧ (u.estAt i).band = .rest ∧
        (u.balAt i).shuttles = [] ∧ (u.balAt i).bleeds = [] ∧
        (injecting (b.pairAt (pairOf b i)) = true → pairOf b i < b.tpe.pairs.length →
          (u.pairAt (pairOf b i)).env = .falling b.clk) ∧ u.str = b.str := by
  obtain ⟨hrest, hrequested, hband⟩ := restGranted_estAt hi
  obtain ⟨hshuttles, hbleeds⟩ := restGranted_unbalanced b i
  refine ⟨restGranted b i, ?_, hrest, hrequested, hband, hshuttles, hbleeds, fun h _ => restGranted_pairAt h,
    by simp [restGranted, restOpened]⟩
  change execRestWindowGrant t i s = _
  unfold execRestWindowGrant
  simp only [hb, hs, hr, hg]
  rfl

/-- The end of the whole rest restarts the anchor age. -/
theorem restWindowEnd_whole {r : Rest} (hi : i < b.cee.est.length) (hrest : (b.estAt i).rest = some r)
    (hwhole : heldFor b r.counted (restDuration b i) = true) : Does (.restWindowEnd t i) s fun u =>
      (u.estAt i).rest = none ∧ (u.estAt i).restEnd = some b.clk ∧ (u.estAt i).anchorT = b.clk ∧
        (u.estAt i).overdue = false ∧ (u.estAt i).band = .low ∧ u.str = b.str := by
  obtain ⟨round, hest⟩ := changeBand_estAt b .low false hi
  refine ⟨(changeBand b i .low false).modEst i fun e =>
    { e with rest := none, restEnd := some b.clk, anchorT := b.clk, overdue := false }, ?_, ?_⟩
  · change execRestWindowEnd t i s = _
    unfold execRestWindowEnd
    simp only [hb, hrest, hwhole]
    rfl
  · dsimp only
    rw [estAt_modEst_same _ _ (by rwa [changeBand_est_length]), hest]
    exact ⟨rfl, rfl, rfl, rfl, rfl, rfl⟩

/-- A window that the string's leaving REGULATING cuts short is asked for again from now on. -/
theorem restWindowEnd_cut {r : Rest} (hi : i < b.cee.est.length) (hrest : (b.estAt i).rest = some r)
    (hcounted : r.counted = none) (hstate : (b.strAt i).state ≠ .regulating) : Does (.restWindowEnd t i) s fun u =>
      (u.estAt i).rest = none ∧ (u.estAt i).restEnd = some b.clk ∧ (u.estAt i).anchorT = (b.estAt i).anchorT ∧
        (u.estAt i).requestT = b.clk ∧ u.str = b.str := by
  obtain ⟨round, hest⟩ := changeBand_estAt b .low false hi
  have hwhole : heldFor b r.counted (restDuration b i) = false := by rw [hcounted, heldFor]
  refine ⟨(changeBand b i .low false).modEst i fun e =>
    { e with rest := none, restEnd := some b.clk, requestT := b.clk }, ?_, ?_⟩
  · change execRestWindowEnd t i s = _
    unfold execRestWindowEnd
    simp only [hb, hrest, hwhole, bne_iff_ne.mpr hstate, Bool.or_true]
    rfl
  · dsimp only
    rw [estAt_modEst_same _ _ (by rwa [changeBand_est_length]), hest]
    exact ⟨rfl, rfl, rfl, rfl, rfl⟩

end

/-- Settles O19: what is granted in one direction never exceeds its allowance (`grant_fits`), and trimming has a step for
each transfer (`trimTo_fits`). -/
theorem balancingAndRest : Obligations.BalancingAndRest := by
  unfold Obligations.BalancingAndRest
  exact ⟨fun _ _ _ ha hm hr hdue hi hmode hfew => planningCycle_omitted rfl ha hm hr hdue hi hmode hfew,
    fun _ _ _ ha hm hr hdue hi hmode hmany => planningCycle_fits rfl ha hm hr hdue hi hmode hmany,
    fun _ _ _ ha hm hr hdue hi hmode => planningCycle_off rfl ha hm hr hdue hi hmode,
    fun _ _ _ hs hstop => balancingStop_stops rfl hs hstop,
    fun _ _ hc hn => allowanceChange_fits rfl hc hn,
    fun _ _ _ hs hr hg hi => restWindowGrant_grants rfl hs hr hg hi,
    fun _ _ _ _ hi hrest hwhole => restWindowEnd_whole rfl hi hrest hwhole,
    fun _ _ _ _ hi hrest hcounted hstate => restWindowEnd_cut rfl hi hrest hcounted hstate⟩

end Sys2Proof.Machine
end

section
/-! SUPPORT. An element of the phases, the drivers and the contactors after an update; what decides whether a unit is in use. -/

namespace Sys2Proof.Machine

/-- A field that the update leaves alone is the same in every element. -/
theorem getD_modify_field {α γ : Type} (g : α → γ) (l : List α) (i k : Nat) {f : α → α} (d : α) (h : ∀ x, g (f x) = g x) :
    g ((l.modify i f).getD k d) = g (l.getD k d) := by
  by_cases hk : k = i
  · subst hk
    by_cases hl : k < l.length
    · rw [getD_modify_same l k f d hl, h]
    · simp [List.getD_eq_getElem?_getD, hl]
  · rw [getD_modify_ne l f d hk]

theorem getD_mapIdx_field {α γ : Type} (g : α → γ) (l : List α) {f : Nat → α → α} (k : Nat) (d : α)
    (h : ∀ k x, g (f k x) = g x) : g ((l.mapIdx f).getD k d) = g (l.getD k d) := by
  by_cases hl : k < l.length
  · rw [getD_mapIdx l f d d hl, h]
  · simp [List.getD_eq_getElem?_getD, hl]

theorem phaseAt_modPhase_same (s : State) {p : Nat} (f : Phase → Phase) (h : p < s.phase.length) :
    (s.modPhase p f).phaseAt p = f (s.phaseAt p) := getD_modify_same _ _ _ _ h

theorem phaseAt_modPhase_ne (s : State) {p k : Nat} (f : Phase → Phase) (h : k ≠ p) :
    (s.modPhase p f).phaseAt k = s.phaseAt k := getD_modify_ne _ _ _ h

theorem phaseAt_modPhase_field {γ : Type} (g : Phase → γ) (s : State) (p k : Nat) {f : Phase → Phase}
    (h : ∀ x, g (f x) = g x) : g ((s.modPhase p f).phaseAt k) = g (s.phaseAt k) := getD_modify_field g _ _ _ _ h

/-- The phases of string `i` after `f`. -/
def State.modPhases (s : State) (i : Nat) (f : Phase → Phase) : State :=
  { s with phase := s.phase.mapIdx fun p (x : Phase) => if p / 4 = i then f x else x }

theorem phaseAt_modPhases (s : State) {i p : Nat} (f : Phase → Phase) (hp : p / 4 = i) (h : p < s.phase.length) :
    (s.modPhases i f).phaseAt p = f (s.phaseAt p) := by
  have hat : (s.modPhases i f).phaseAt p = if p / 4 = i then f (s.phaseAt p) else s.phaseAt p :=
    getD_mapIdx s.phase (fun p x => if p / 4 = i then f x else x) {} {} h
  rw [hat, if_pos hp]

theorem gx2At_modGx2_same (s : State) {p : Nat} (f : Gx2 → Gx2) (h : p < s.gx2.length) :
    (s.modGx2 p f).gx2At p = f (s.gx2At p) := getD_modify_same _ _ _ _ h

theorem gx2At_modGx2_ne (s : State) {p k : Nat} (f : Gx2 → Gx2) (h : k ≠ p) :
    (s.modGx2 p f).gx2At k = s.gx2At k := getD_modify_ne _ _ _ h

theorem contAt_modCont_same (s : State) {i : Nat} (f : Cont → Cont) (h : i < s.saf.cont.length) :
    (s.modCont i f).contAt i = f (s.contAt i) := getD_modify_same _ _ _ _ h

theorem strAt_modStr_field {γ : Type} (g : Str → γ) (s : State) (i k : Nat) {f : Str → Str} (h : ∀ x, g (f x) = g x) :
    g ((s.modStr i f).strAt k) = g (s.strAt k) := getD_modify_field g _ _ _ _ h

theorem phaseAt_congr {s u : State} (h : u.phase = s.phase) (p : Nat) : u.phaseAt p = s.phaseAt p :=
  congrArg (·.getD p {}) h

theorem gx2At_congr {s u : State} (h : u.gx2 = s.gx2) (p : Nat) : u.gx2At p = s.gx2At p := congrArg (·.getD p {}) h

theorem suspended_congr {s u : State} (h : u.flt = s.flt) (n : Nat) : u.suspended n = s.suspended n := by
  rw [State.suspended, State.suspended, h]

theorem retired_congr {s u : State} (h : u.flt = s.flt) (n : Nat) : u.retired n = s.retired n := by
  rw [State.retired, State.retired, h]

theorem unitOut_eq_false {s : State} {n : Nat} (h : s.unitOut n = false) : s.retired n = false ∧ s.suspended n = false := by
  simpa [State.unitOut] using h

/-- A string in progress is not at its default: its converter stands in the list. -/
theorem lt_length_of_convAt {s : State} {i : Nat} (h : s.convAt i ≠ {}) : i < s.conv.length :=
  Nat.lt_of_not_le fun hi => h (getD_of_length_le ({} : Conv) hi)

end Sys2Proof.Machine
end

section
/-! SUPPORT. Precharge: how it goes on, fails, ends in CONNECTED or halts the string (08_converter_control.md R235 to R237). -/

namespace Sys2Proof.Machine

set_option Elab.async false

/-! ## The end of a precharge -/

theorem storeE_stage (s : State) (i k : Nat) : ((storeE s i).convAt k).stage = (s.convAt k).stage := by
  unfold storeE
  split
  · exact convAt_modConv_field (·.stage) s i k _ fun _ => rfl
  · rw [convAt_congr (deferWrite_conv ..)]

theorem endPrecharge_stage (s : State) (i : Nat) : ((endPrecharge s i).convAt i).stage = 0 := by
  unfold endPrecharge
  split
  next h => exact h
  next h =>
    have hi : i < s.conv.length := lt_length_of_convAt fun hd => h (by rw [hd])
    rw [storeE_stage, convAt_modConv_same s i _ hi]

theorem stopBalancing_str (s : State) (i : Nat) : (stopBalancing s i).str = s.str := by simp

theorem endTrans_state (s : State) (i k status detail : Nat) :
    ((endTrans s i status detail).strAt k).state = (s.strAt k).state := by
  unfold endTrans
  split
  · rfl
  · rw [strAt_congr (completeExec_str ..)]
    exact strAt_modStr_field (·.state) s i k fun _ => rfl

theorem stage_congr {s u : State} {i : Nat} (h : u.conv = (endPrecharge s i).conv) : (u.convAt i).stage = 0 := by
  rw [convAt_congr h, endPrecharge_stage]

/-- A precharge that fails leaves the string ISOLATED. -/
theorem prechargeFail_isolates (s : State) {i : Nat} (detail : Nat) (h : i < s.str.length) :
    ((prechargeFail s i detail).strAt i).state = .isolated ∧ ((prechargeFail s i detail).convAt i).stage = 0 := by
  refine ⟨?_, stage_congr (s := s) (by simp [prechargeFail])⟩
  unfold prechargeFail
  rw [endTrans_state, setStr_state _ _ _ _ (by simpa using h)]

/-- A halt takes a string in PRECHARGE to HALTED and ends its precharge. -/
theorem haltStr_precharge {s : State} {i : Nat} (cause : Nat) (hp : (s.strAt i).state = .precharge) (h : i < s.str.length) :
    ((haltStr s i cause).strAt i).state = .halted ∧ ((haltStr s i cause).convAt i).stage = 0 := by
  have hhalt : haltStr s i cause = stopBalancing (abortTrans (setStr (openCoils (endPrecharge (gateOffString s i) i) i) i
      .halted cause) i) i := by
    unfold haltStr
    rw [hp]
  refine ⟨?_, stage_congr (s := gateOffString s i) (by simp [hhalt])⟩
  rw [hhalt, strAt_congr (stopBalancing_str ..), abortTrans, endTrans_state, setStr_state _ _ _ _ (by simpa using h)]

/-! ## Requests to the contactors -/

theorem requestClose_contAt (s : State) {i : Nat} (coils : BitVec 4) (h : i < s.saf.cont.length) :
    (requestClose s i coils).contAt i = { s.contAt i with request := some (coils, s.clk), opening := none } :=
  contAt_modCont_same s _ h

/-- The contactors are asked for `coils` as the precharge goes on to the next stage. -/
theorem requestClose_stage (s : State) {i : Nat} (coils : BitVec 4) {f : Conv → Conv} (hi : i < s.conv.length)
    (hc : i < s.saf.cont.length) : let u := requestClose (s.modConv i f) i coils
      (u.convAt i).stage = (f (s.convAt i)).stage ∧ (u.contAt i).request = some (coils, s.clk) ∧ u.str = s.str := by
  refine ⟨?_, ?_, by simp⟩
  · rw [convAt_congr (s := s.modConv i f) (by simp), convAt_modConv_same s i f hi]
  · rw [requestClose_contAt _ coils (by simpa using hc)]
    rfl

/-! ## The events, on the state `b` at their instant -/

/-- Stage 3 has lasted longer than it may (08_converter_control.md R237). -/
def pathLate (b : State) (i : Nat) : Bool :=
  match (b.convAt i).tPc with | none => false | some t0 => decide (t0 + tPcMax b i * nsMs < b.clk)

section
variable {t i : Nat} {s b : State} (hb : s.advance t = b)
include hb

theorem coolingWaitEnd_requests (hi : i < b.conv.length) (hc : i < b.saf.cont.length) (hst : (b.convAt i).stage = 1)
    (hp : (b.strAt i).state = .precharge) (he : (b.convAt i).e ≤ (ePcMax b i : Rat) / 4)
    (hg : ((enabledPhases b i).all fun p => (b.gx2At p).ready) = true) (hr : rPc b i ≠ 0) :
    Does (.coolingWaitEnd t i true) s fun u => (u.convAt i).stage = 3 ∧ (u.contAt i).request = some (6, b.clk) ∧
      u.str = b.str := by
  refine ⟨requestClose (b.modConv i fun c => { c with stage := 3, tPc := none, lowSince := none, peak := 0 }) i 6, ?_,
    requestClose_stage b 6 hi hc⟩
  change execCoolingWaitEnd t i true s = _
  unfold execCoolingWaitEnd
  simp only [hb]
  rw [if_neg (by simp [hst, hp, not_lt.mpr he]), if_neg (by simp), if_neg (by simp only [hg]; simp), if_neg hr]

theorem coolingWaitEnd_fails (hi : i < b.str.length) (hst : (b.convAt i).stage = 1) (hp : (b.strAt i).state = .precharge)
    (he : (b.convAt i).e ≤ (ePcMax b i : Rat) / 4) (hr : b.retired uHvi = false) :
    Does (.coolingWaitEnd t i false) s fun u => (u.strAt i).state = .isolated ∧ (u.convAt i).stage = 0 ∧
      u.suspended uHvi = true := by
  obtain ⟨hstate, hstage⟩ := prechargeFail_isolates b 1 hi
  refine ⟨detected (prechargeFail b i 1) uHvi 76 i, ?_, ?_, ?_, detected_suspended _ _ _ _ ?_⟩
  · change execCoolingWaitEnd t i false s = _
    unfold execCoolingWaitEnd
    simp only [hb]
    rw [if_neg (by simp [hst, hp, not_lt.mpr he]), if_pos (by simp)]
  · rwa [strAt_congr (detected_str ..)]
  · rwa [convAt_congr (s := prechargeFail b i 1) (by simp)]
  · rwa [retired_congr (s := b) (by simp)]

theorem prechargeComplete_requests (hi : i < b.conv.length) (hc : i < b.saf.cont.length) (hst : (b.convAt i).stage = 3)
    (hd : currentDone b i = true) (hu : busUp b i = true) :
    Does (.prechargeComplete t i) s fun u => (u.convAt i).stage = 4 ∧ (u.contAt i).request = some (15, b.clk) ∧
      u.str = b.str := by
  refine ⟨requestClose (b.modConv i fun c => { c with stage := 4 }) i 15, ?_, requestClose_stage b 15 hi hc⟩
  change execPrechargeComplete t i s = _
  unfold execPrechargeComplete
  simp only [hb]
  rw [if_pos ⟨hst, hd, hu⟩]

theorem prechargeFault_halts (hi : i < b.str.length) (hst : (b.convAt i).stage = 3) (hp : (b.strAt i).state = .precharge)
    (hf : (ePcMax b i : Rat) < (b.convAt i).e ∨ pathLate b i = true ∨ 2 ≤ (b.convAt i).peak ∨
      (currentDone b i = true ∧ busUp b i = false)) :
    Does (.prechargeFault t i) s fun u => (u.strAt i).state = .halted ∧ (u.convAt i).stage = 0 := by
  refine ⟨haltStr b i 237, ?_, haltStr_precharge 237 hp hi⟩
  change execPrechargeFault t i s = _
  unfold execPrechargeFault
  simp only [hb]
  refine congrArg Host.Outcome.next (if_pos ?_)
  change _ ∧ (_ ∨ pathLate b i = true ∨ _ ∨ _)
  exact ⟨hst, by simpa using hf⟩

theorem connectedEntry_connects (hi : i < b.str.length) (hst : (b.convAt i).stage = 4)
    (h0 : (b.contAt i).mirror.getLsbD 0 = true) (h2 : (b.contAt i).energised.getLsbD 2 = false)
    (hm2 : (b.contAt i).mirror.getLsbD 2 = false) :
    Does (.connectedEntry t i) s fun u => (u.strAt i).state = .connected ∧ (u.convAt i).stage = 0 ∧
      ∀ k, k ≠ i → u.strAt k = b.strAt k := by
  refine ⟨endTransOk (setStr (endPrecharge b i) i .connected 25) i, ?_, ?_, stage_congr (s := b) (by simp), fun k hk => ?_⟩
  · change execConnectedEntry t i s = _
    unfold execConnectedEntry
    simp only [hb]
    rw [if_pos ⟨hst, h0, by simp only [h2, Bool.not_false], by simp only [hm2, Bool.not_false]⟩]
  · rw [endTransOk_state, setStr_state _ _ _ _ (by simpa using hi)]
  · rw [endTransOk_strAt_ne _ hk, setStr_strAt_ne _ _ _ hk]
    exact strAt_congr (by simp) k

end

end Sys2Proof.Machine
end

section
/-! SUPPORT. Start, pause, soft start and ramp of a converter, and the statement they settle (08_converter_control.md R234, R239
to R241). -/

namespace Sys2Proof.Machine

set_option Elab.async false

/-! ## Pauses -/

/-- The converter as a stop leaves it. -/
def Conv.stopped (c : Conv) : Conv := { c with running := false, ref := 0, softStart := none, headroomSince := none }

/-- The phase with its outputs held low. -/
def Phase.heldLow (x : Phase) : Phase := { x with gatedOff := true, low := 0, high := 0, braking := false }

theorem stopConverter_convAt (s : State) {i : Nat} (h : i < s.conv.length) :
    (stopConverter s i).convAt i = (s.convAt i).stopped := convAt_modConv_same s i Conv.stopped h

theorem stopConverter_phaseAt (s : State) {i p : Nat} (hp : p / 4 = i) (h : p < s.phase.length) :
    (stopConverter s i).phaseAt p = (s.phaseAt p).heldLow := phaseAt_modPhases s Phase.heldLow hp h

/-- The converter in a pause for `cause` from `now` on. -/
def Conv.pausedFor (cause : PauseCause) (now : Nat) (c : Conv) : Conv := { c with pause := some cause, pauseT := now }

/-- String `i` with its converter stopped and paused for `cause`. -/
def pausedAt (s : State) (i : Nat) (cause : PauseCause) : State :=
  (stopConverter s i).modConv i (Conv.pausedFor cause s.clk)

theorem pausedAt_convAt (s : State) {i : Nat} (cause : PauseCause) (h : i < s.conv.length) :
    (pausedAt s i cause).convAt i = (s.convAt i).stopped.pausedFor cause s.clk := by
  unfold pausedAt
  rw [convAt_modConv_same _ i _ (by simpa [stopConverter, State.modConv] using h), stopConverter_convAt s h]

theorem pausedAt_rampThen (s : State) (i : Nat) (cause : PauseCause) :
    ((pausedAt s i cause).convAt i).rampThen = (s.convAt i).rampThen :=
  (convAt_modConv_field (·.rampThen) (stopConverter s i) i i (Conv.pausedFor cause s.clk) fun _ => rfl).trans
    (convAt_modConv_field (·.rampThen) s i i Conv.stopped fun _ => rfl)

/-- A pause of a string without a ramp. -/
theorem enterPause_eq {s : State} {i : Nat} (cause : PauseCause) (hr : (s.strAt i).state = .regulating)
    (hp : (s.convAt i).pause = none) (hramp : (s.convAt i).rampThen = none) :
    enterPause s i cause = groupRecord (pausedAt s i cause) gCnv srcLe lvInfo 234 i (causeCode cause) := by
  have hthen (u : State) (hu : u.conv = (pausedAt s i cause).conv) : (u.convAt i).rampThen = none := by
    rw [convAt_congr hu, pausedAt_rampThen, hramp]
  unfold enterPause
  rw [if_neg (by simp [hr, hp])]
  dsimp only
  rw [hthen _ (by simp only [groupRecord_keeps]; rfl)]
  rfl

/-- A string that pauses stops at current 0 with its outputs low, and stays in its state. -/
theorem enterPause_pauses {s : State} {i : Nat} (cause : PauseCause) (hi : i < s.conv.length)
    (hr : (s.strAt i).state = .regulating) (hp : (s.convAt i).pause = none) (hramp : (s.convAt i).rampThen = none) :
    (enterPause s i cause).convAt i = (s.convAt i).stopped.pausedFor cause s.clk ∧
      (∀ p, p / 4 = i → p < s.phase.length → (enterPause s i cause).phaseAt p = (s.phaseAt p).heldLow) ∧
      (enterPause s i cause).str = s.str := by
  rw [enterPause_eq cause hr hp hramp]
  refine ⟨?_, fun p hp h => ?_, by simp [pausedAt]⟩
  · rw [convAt_congr (s := pausedAt s i cause) (by simp), pausedAt_convAt s cause hi]
  · rw [phaseAt_congr (s := stopConverter s i) (by simp [pausedAt]), stopConverter_phaseAt s hp h]

/-! ## Start -/

/-- A start above the headroom begins at current 0. -/
theorem startConverter_starts {s : State} {i : Nat} (hi : i < s.conv.length) (hv : headroom s i ≤ (s.hvi.vb : Rat)) :
    let u := startConverter s i
    (u.convAt i).running = true ∧ (u.convAt i).startT = s.clk ∧ (u.convAt i).ref = 0 ∧ (u.convAt i).pause = none ∧
      u.str = s.str := by
  unfold startConverter
  rw [if_neg (not_lt.mpr hv)]
  dsimp only
  rw [convAt_modConv_same _ i _ (by simpa using hi)]
  simp

/-- The headroom follows VS and the configuration. -/
theorem headroom_congr {s u : State} (i : Nat) (hv : u.hviStr = s.hviStr) (hc : (u.convAt i).cfg = (s.convAt i).cfg) :
    headroom u i = headroom s i := by
  simp only [headroom, cnvCfg, State.hviAt, hv, hc]

/-! ## The events, on the state `b` at their instant -/

/-- String `i` as its pause ends. -/
def unpaused (b : State) (i : Nat) : State :=
  groupRecord (b.modConv i fun c => { c with pause := none }) gCnv srcLe lvInfo 234 i 0

theorem unpaused_cfg (b : State) (i : Nat) : ((unpaused b i).convAt i).cfg = (b.convAt i).cfg := by
  rw [unpaused, convAt_congr (s := b.modConv i fun c => { c with pause := none }) (by simp)]
  exact convAt_modConv_field (·.cfg) b i i _ fun _ => rfl

/-- String `i` after a soft start that took too long, tried again after `delay` seconds. -/
def softStartPaused (b : State) (i delay : Nat) : State :=
  (enterPause b i .softStart).modConv i fun c =>
    { c with ssUntil := (enterPause b i .softStart).clk + delay * nsS, ssRetry := min 600 (2 * delay) }

section
variable {t i : Nat} {s b : State} (hb : s.advance t = b)
include hb

theorem converterStart_starts (hi : i < b.conv.length) (hr : (b.strAt i).state = .regulating)
    (hrun : (b.convAt i).running = false) (hp : (b.convAt i).pause = none) (hramp : (b.convAt i).rampThen = none)
    (hclk : b.clockLost .loop = false) (hv : headroom b i ≤ (b.hvi.vb : Rat)) :
    Does (.converterStart t i) s fun u => (u.convAt i).running = true ∧ (u.convAt i).startT = b.clk ∧
      (u.convAt i).ref = 0 ∧ (u.convAt i).pause = none ∧ u.str = b.str := by
  refine ⟨startConverter b i, ?_, startConverter_starts hi hv⟩
  change execConverterStart t i s = _
  unfold execConverterStart
  simp only [hb]
  rw [if_pos (by simp [hr, hrun, hp, hramp, hclk])]

theorem converterPause_pauses (hi : i < b.conv.length) (hrun : convRuns b i = true) (hp : (b.convAt i).pause = none)
    (hramp : (b.convAt i).rampThen = none) (hv : (b.hvi.vb : Rat) < headroom b i) :
    Does (.converterPause t i .headroom) s fun u => (u.convAt i).running = false ∧
      (u.convAt i).pause = some .headroom ∧ (u.convAt i).pauseT = b.clk ∧
      (∀ k ∈ List.range 4, 4 * i + k < b.phase.length → (u.phaseAt (4 * i + k)).gatedOff = true ∧
        (u.phaseAt (4 * i + k)).low = 0 ∧ (u.phaseAt (4 * i + k)).high = 0) ∧ u.str = b.str := by
  have hr : (b.strAt i).state = .regulating := eq_of_beq (Bool.and_elim_left hrun)
  obtain ⟨hconv, hphase, hstr⟩ := enterPause_pauses .headroom hi hr hp hramp
  refine ⟨enterPause b i .headroom, ?_, ?_⟩
  · change execConverterPause t i .headroom s = _
    unfold execConverterPause
    simp only [hb]
    rw [if_pos (by simp only [hrun, hv, decide_true, Bool.and_self])]
  · dsimp only
    rw [hconv]
    refine ⟨rfl, rfl, rfl, fun k hk h => ?_, hstr⟩
    have hstring : (4 * i + k) / 4 = i := by have := List.mem_range.mp hk; omega
    rw [hphase _ hstring h]
    exact ⟨rfl, rfl, rfl⟩

theorem pauseEnd_starts (hi : i < b.conv.length) (hr : (b.strAt i).state = .regulating) (ho : pauseOver b i = true)
    (hv : headroom b i ≤ (b.hvi.vb : Rat)) :
    Does (.pauseEnd t i) s fun u => (u.convAt i).pause = none ∧ (u.convAt i).running = true ∧
      (u.convAt i).startT = b.clk ∧ u.str = b.str := by
  have hlen : i < (unpaused b i).conv.length := by simpa [unpaused, State.modConv] using hi
  have hroom : headroom (unpaused b i) i ≤ ((unpaused b i).hvi.vb : Rat) := by
    rw [headroom_congr (s := b) i (by simp [unpaused]) (unpaused_cfg b i)]
    simpa [unpaused] using hv
  obtain ⟨hrun, hstart, -, hp, hstr⟩ := startConverter_starts hlen hroom
  refine ⟨startConverter (unpaused b i) i, ?_, hp, hrun, hstart.trans (by simp [unpaused]), hstr.trans (by simp [unpaused])⟩
  change execPauseEnd t i s = _
  unfold execPauseEnd
  simp only [hb]
  rw [if_pos (by simp [hr, ho])]
  rfl

theorem softStartTimeout_pauses {t0 delay : Nat} {r : Bytes} (hi : i < b.conv.length)
    (hr : (b.strAt i).state = .regulating) (hs : (b.convAt i).softStart = some t0) (hp : (b.convAt i).pause = none)
    (hreq : reqInForce b = some r) (hv : (b.hvi.vb : Rat) < (reqV r : Rat) * 10 * (98 / 100))
    (hlate : t0 + ((reqV r * 10 - (b.convAt i).ssVref) * nsS / (10000 * max 1 (ssRate b i))) + ssMargin b i * nsMs ≤ b.clk)
    (hdelay : delay = if (b.convAt i).ssRetry = 0 then ssRetryS b i else (b.convAt i).ssRetry) :
    Does (.softStartTimeout t i) s fun u =>
      ((b.convAt i).rampThen = none → (u.convAt i).pause = some .softStart ∧ (u.convAt i).running = false) ∧
      (u.convAt i).ssUntil = b.clk + delay * nsS ∧ (u.convAt i).ssRetry = min 600 (2 * delay) := by
  have hstep : softStartStep b i = b := by
    simp only [softStartStep, hs, hreq]
    exact if_neg (not_le.mpr hv)
  have hlen : i < (enterPause b i .softStart).conv.length := by
    rwa [conv_length_of_sizes (enterPause_sizes b i .softStart)]
  refine ⟨groupRecord (softStartPaused b i delay) gCnv srcLe lvInfo 240 i delay, ?_, ?_⟩
  · change execSoftStartTimeout t i s = _
    unfold execSoftStartTimeout
    simp only [hb, hstep, hs, hreq]
    rw [if_pos hlate, ← hdelay]
    rfl
  · have hrecord : (groupRecord (softStartPaused b i delay) gCnv srcLe lvInfo 240 i delay).convAt i =
        (softStartPaused b i delay).convAt i := convAt_congr (by simp) i
    dsimp only
    rw [hrecord, softStartPaused, convAt_modConv_same _ i _ hlen]
    refine ⟨fun hramp => ?_, by simp, rfl⟩
    rw [(enterPause_pauses .softStart hi hr hp hramp).1]
    exact ⟨rfl, rfl⟩

theorem rampComplete_connects (hi : i < b.conv.length) (hs : i < b.str.length) (hstop : (b.convAt i).rampStop = true)
    (hthen : (b.convAt i).rampThen = some .connected) (hcur : absI (b.hviAt i).cur < iPcDone b i)
    (henv : envelope b (pairOf b i) = 0) :
    Does (.rampComplete t i) s fun u => (u.strAt i).state = .connected ∧ (u.convAt i).running = false ∧
      (u.convAt i).rampThen = none ∧ ∀ k, k ≠ i → u.strAt k = b.strAt k := by
  have hconv : (rampDone b i .connected).convAt i = _ :=
    (convAt_congr (u := rampDone b i .connected) (s := gateOffString b i) (by simp [rampDone]) i).trans
      (convAt_modConv_same b i _ hi)
  refine ⟨rampDone b i .connected, ?_, rampDone_state b i .connected (by simp) hs, ?_, ?_,
    fun k hk => (rampDone_ne b .connected hk).1⟩
  · change execRampComplete t i s = _
    unfold execRampComplete
    simp only [hb]
    rw [if_pos (by simp [hstop, hcur, henv]), hthen]
  · rw [hconv]
  · rw [hconv]

end

/-- Settles O21: each clause is the law of its event on the state at the event's instant. -/
theorem prechargeAndConverter : Obligations.PrechargeAndConverter := by
  unfold Obligations.PrechargeAndConverter
  refine ⟨fun _ _ _ hi hc hst hp he hg hr => coolingWaitEnd_requests rfl hi hc hst hp he hg hr,
    fun _ _ _ _ hi hst hp he hr => coolingWaitEnd_fails rfl hi hst hp he hr,
    fun _ _ _ hi hc hst hd hu => prechargeComplete_requests rfl hi hc hst hd hu,
    fun _ _ _ hi hst hp hf => ?_,
    fun t s i t0 hi hst hp ht hlate => ?_,
    fun _ _ _ hi _ hst h0 h2 hm2 => connectedEntry_connects rfl hi hst h0 h2 hm2,
    fun _ _ _ hi hr hrun hp hramp hclk hv => converterStart_starts rfl hi hr hrun hp hramp hclk hv,
    fun _ _ _ hi hrun hp hramp hv => converterPause_pauses rfl hi hrun hp hramp hv,
    fun _ _ _ hi hr ho hv => pauseEnd_starts rfl hi hr ho hv,
    fun _ _ _ _ _ _ hi hr hs hp hreq hv hlate hdelay => softStartTimeout_pauses rfl hi hr hs hp hreq hv hlate hdelay,
    fun _ _ _ hi hs hstop hthen _ hcur henv => rampComplete_connects rfl hi hs hstop hthen hcur henv⟩
  · obtain ⟨u, hu, hstate, hstage⟩ := prechargeFault_halts rfl hi hst hp (hf.imp_right .inr)
    exact ⟨u, hu, hstate, fun _ => hstage⟩
  · have hpath : pathLate (s.advance t) i = true := by simpa only [pathLate, ht] using decide_eq_true hlate
    obtain ⟨u, hu, hstate, -⟩ := prechargeFault_halts rfl hi hst hp (.inr (.inl hpath))
    exact ⟨u, hu, hstate⟩

end Sys2Proof.Machine
end

section
/-! SUPPORT. Phases gated off for a fault, on their estimate, and braking (08_converter_control.md R220, R224, R242, R243, R247,
R248, R251). -/

namespace Sys2Proof.Machine

set_option Elab.async false

/-! ## A phase dropped -/

/-- The phase as a fault or CNV_PHASE_DISABLE leaves it: gated off, with its counts at 0. -/
def Phase.dropped (x : Phase) : Phase :=
  { x with gatedOff := true, low := 0, high := 0, braking := false, estimate := none, implausible := false, openCount := 0
           senseCount := 0 }

theorem dropPhase_phase (s : State) (p : Nat) : (dropPhase s p).phase = (s.modPhase p Phase.dropped).phase := by
  unfold dropPhase
  dsimp only
  split
  · split <;> rfl
  · rfl

theorem dropPhase_phaseAt (s : State) {p : Nat} (h : p < s.phase.length) :
    (dropPhase s p).phaseAt p = (s.phaseAt p).dropped :=
  (phaseAt_congr (dropPhase_phase s p) p).trans (phaseAt_modPhase_same s _ h)

/-- The phase that waits for the next start to rejoin. -/
def Phase.rejoining (x : Phase) : Phase := { x with rejoin := true }

/-- A fault of a phase that is not retired is a detected error that drops it (R224, R251). -/
theorem faultPhase_eq {s : State} {p : Nat} (rule detail : Nat) (hr : s.retired (uPhase p) = false) :
    faultPhase s p rule detail =
      dropPhase (detected (s.modPhase p Phase.rejoining) (uPhase p) rule detail) p := by
  unfold faultPhase
  rw [if_neg (by simp [hr])]
  rfl

/-- It is under test, and back only at the next start. -/
theorem faultPhase_drops {s : State} {p : Nat} (rule detail : Nat) (hr : s.retired (uPhase p) = false)
    (h : p < s.phase.length) : (faultPhase s p rule detail).suspended (uPhase p) = true ∧
      (faultPhase s p rule detail).phaseAt p = (s.phaseAt p).rejoining.dropped ∧
      (faultPhase s p rule detail).str = s.str := by
  refine ⟨?_, ?_, by simp⟩
  · rw [faultPhase_eq rule detail hr, suspended_congr (s := detected (s.modPhase p Phase.rejoining) (uPhase p) rule detail)
      (by simp)]
    exact detected_suspended _ _ _ _ hr
  · rw [faultPhase_eq rule detail hr, dropPhase_phaseAt _ (by simpa [State.modPhase] using h),
      phaseAt_congr (s := s.modPhase p Phase.rejoining) (by simp), phaseAt_modPhase_same s _ h]

/-! ## The events, on the state `b` at their instant -/

/-- The count of the periods in a row in which the limit acted, and of all of them. -/
def Phase.limited (acted : Bool) (x : Phase) : Phase :=
  { x with cbcRun := if acted then x.cbcRun + 1 else 0, cbcs := x.cbcs + acted.toNat }

section
variable {t p : Nat} {s b : State} (hb : s.advance t = b)
include hb

theorem pwmReadbackMismatch_drops (hn : p < b.phases) (h : p < b.phase.length) (hf : legFitted b p = true)
    (hr : b.retired (uPhase p) = false) :
    Does (.pwmReadbackMismatch t p) s fun u => u.suspended (uPhase p) = true ∧ (u.phaseAt p).gatedOff = true ∧
      (u.phaseAt p).rejoin = true ∧ (u.phaseAt p).low = 0 ∧ (u.phaseAt p).high = 0 ∧ u.str = b.str := by
  obtain ⟨hsusp, hphase, hstr⟩ := faultPhase_drops 224 0 hr h
  refine ⟨faultPhase b p 224 0, ?_, hsusp, ?_⟩
  · change execPwmReadbackMismatch t p s = _
    unfold execPwmReadbackMismatch
    simp only [hb]
    rw [if_pos ⟨hn, hf⟩]
  · rw [hphase]
    exact ⟨rfl, rfl, rfl, rfl, hstr⟩

theorem exec_cycleByCycleLimit (acted : Bool) (hn : p < b.phases) : exec (.cycleByCycleLimit t p acted) s =
    .next (let v := b.modPhase p (Phase.limited acted)
      if (v.phaseAt p).cbcRun = 16 then faultPhase v p 224 1 else v) := by
  change execCycleByCycleLimit t p acted s = _
  unfold execCycleByCycleLimit
  simp only [hb]
  rw [if_pos hn]
  rfl

theorem cycleByCycleLimit_drops (hn : p < b.phases) (h : p < b.phase.length) (hc : (b.phaseAt p).cbcRun = 15)
    (hr : b.retired (uPhase p) = false) :
    Does (.cycleByCycleLimit t p true) s fun u => u.suspended (uPhase p) = true ∧ (u.phaseAt p).gatedOff = true ∧
      (u.phaseAt p).cbcs = (b.phaseAt p).cbcs + 1 := by
  have hv : (b.modPhase p (Phase.limited true)).phaseAt p = (b.phaseAt p).limited true := phaseAt_modPhase_same b _ h
  obtain ⟨hsusp, hphase, -⟩ := faultPhase_drops (s := b.modPhase p (Phase.limited true)) (p := p) 224 1 hr
    (by simpa [State.modPhase] using h)
  refine ⟨faultPhase (b.modPhase p (Phase.limited true)) p 224 1, ?_, hsusp, ?_⟩
  · rw [exec_cycleByCycleLimit hb true hn]
    dsimp only
    rw [if_pos (by simp [hv, Phase.limited, hc])]
  · rw [hphase, hv]
    exact ⟨rfl, rfl⟩

theorem cycleByCycleLimit_restarts (hn : p < b.phases) (h : p < b.phase.length) :
    Does (.cycleByCycleLimit t p false) s fun u => (u.phaseAt p).cbcRun = 0 ∧ (u.phaseAt p).cbcs = (b.phaseAt p).cbcs ∧
      (u.phaseAt p).gatedOff = (b.phaseAt p).gatedOff := by
  have hv : (b.modPhase p (Phase.limited false)).phaseAt p = (b.phaseAt p).limited false := phaseAt_modPhase_same b _ h
  refine ⟨b.modPhase p (Phase.limited false), ?_, ?_⟩
  · rw [exec_cycleByCycleLimit hb false hn]
    dsimp only
    rw [if_neg (by simp [hv, Phase.limited])]
  · dsimp only
    rw [hv]
    exact ⟨rfl, rfl, rfl⟩

/-! ## Sense channels and estimates -/

theorem phaseInputImplausible_marks (hn : p < b.phases) (h : p < b.phase.length) (hf : legFitted b p = true)
    (hi : (b.phaseAt p).implausible = false) (hr : b.retired (uPhase p) = false) (ho : otherEstimates b p = false) :
    Does (.phaseInputImplausible t p) s fun u => (u.phaseAt p).implausible = true ∧ u.suspended (uPhase p) = true ∧
      (u.phaseAt p).gatedOff = (b.phaseAt p).gatedOff ∧ u.str = b.str := by
  refine ⟨detected (b.modPhase p fun x => { x with implausible := true }) (uPhase p) 247 0, ?_, ?_,
    detected_suspended _ _ _ _ hr, ?_, by simp⟩
  · change execPhaseInputImplausible t p s = _
    unfold execPhaseInputImplausible senseFault
    simp only [hb]
    rw [if_pos ⟨hn, hf⟩, if_neg (by simp [hi, hr]), if_neg (by simp [ho])]
  · rw [phaseAt_congr (s := b.modPhase p fun x => { x with implausible := true }) (by simp), phaseAt_modPhase_same b _ h]
  · rw [phaseAt_congr (s := b.modPhase p fun x => { x with implausible := true }) (by simp), phaseAt_modPhase_same b _ h]

theorem estimateMode_begins (h : p < b.phase.length) (hi : (b.phaseAt p).implausible = true)
    (he : (b.phaseAt p).estimate = none) :
    Does (.estimateMode t p) s fun u => (u.phaseAt p).estimate = some b.clk ∧ (u.phaseAt p).braking = false ∧
      u.str = b.str := by
  refine ⟨b.modPhase p fun x => { x with estimate := some b.clk, agreeSince := none, braking := false }, ?_, ?_⟩
  · change execEstimateMode t p s = _
    unfold execEstimateMode
    simp only [hb]
    rw [if_pos (by simp [hi, he])]
  · dsimp only
    rw [phaseAt_modPhase_same b _ h]
    exact ⟨rfl, rfl, rfl⟩

theorem estimateModeEnd_agrees {t0 : Nat} (h : p < b.phase.length) (he : (b.phaseAt p).estimate = some t0)
    (ho : b.unitOut (uPhase p) = false) (ha : heldFor b (b.phaseAt p).agreeSince nsS = true) (ht : b.clk ≤ t0 + 10 * nsS) :
    Does (.estimateModeEnd t p) s fun u => (u.phaseAt p).estimate = none ∧ (u.phaseAt p).implausible = false ∧
      (u.phaseAt p).gatedOff = (b.phaseAt p).gatedOff := by
  refine ⟨b.modPhase p fun x => { x with estimate := none, implausible := false, fullScale := 0, agreeSince := none }, ?_, ?_⟩
  · change execEstimateModeEnd t p s = _
    unfold execEstimateModeEnd
    simp only [hb, he]
    rw [if_pos (by simp [ho, ha, ht])]
  · dsimp only
    rw [phaseAt_modPhase_same b _ h]
    exact ⟨rfl, rfl, rfl⟩

theorem estimateModeEnd_drops {t0 : Nat} (h : p < b.phase.length) (he : (b.phaseAt p).estimate = some t0)
    (ha : (b.phaseAt p).agreeSince = none) (ht : t0 + 10 * nsS ≤ b.clk) (hr : b.retired (uPhase p) = false) :
    Does (.estimateModeEnd t p) s fun u => (u.phaseAt p).gatedOff = true ∧ (u.phaseAt p).estimate = none ∧
      u.suspended (uPhase p) = true := by
  obtain ⟨hsusp, hphase, -⟩ := faultPhase_drops 248 0 hr h
  refine ⟨faultPhase b p 248 0, ?_, ?_, ?_, hsusp⟩
  · change execEstimateModeEnd t p s = _
    unfold execEstimateModeEnd
    simp only [hb, he]
    rw [if_neg (by simp [ha, heldFor]), if_pos ht]
  · rw [hphase]; rfl
  · rw [hphase]; rfl

/-! ## Braking -/

theorem braking_begins (hn : p < b.phases) (h : p < b.phase.length) (hg : (b.phaseAt p).gatedOff = false)
    (hbr : (b.phaseAt p).braking = false) (he : (b.phaseAt p).estimate = none) (hpos : 0 < (b.phaseAt p).sample)
    (hset : 0 ≤ (b.phaseAt p).setpoint)
    (hthr : (brakeThr b (p / 4) : Int) < (b.phaseAt p).sample - (b.phaseAt p).setpoint) :
    Does (.braking t p) s fun u => (u.phaseAt p).braking = true ∧ (u.phaseAt p).low = 0 ∧ (u.phaseAt p).high = 0 ∧
      (u.phaseAt p).brakes = (b.phaseAt p).brakes + 1 ∧ u.str = b.str := by
  refine ⟨b.modPhase p fun x => { x with braking := true, braked := true, brakes := x.brakes + 1, brakePeriods := 0
                                         low := 0, high := 0 }, ?_, ?_⟩
  · change execBraking t p s = _
    unfold execBraking
    simp only [hb]
    rw [if_pos (by simp [hn, hg, hbr, he, hpos, hset, hthr])]
  · dsimp only
    rw [phaseAt_modPhase_same b _ h]
    exact ⟨rfl, rfl, rfl, rfl, rfl⟩

theorem brakingEnd_ends (h : p < b.phase.length) (hbr : (b.phaseAt p).braking = true)
    (hend : 2 * absI ((b.phaseAt p).sample - (b.phaseAt p).setpoint) ≤ brakeThr b (p / 4) ∨ (b.phaseAt p).sample = 0 ∨
      brakeMax b (p / 4) ≤ (b.phaseAt p).brakePeriods) :
    Does (.brakingEnd t p) s fun u => (u.phaseAt p).braking = false ∧ (u.phaseAt p).duty = (b.phaseAt p).duty ∧
      u.str = b.str := by
  refine ⟨b.modPhase p fun x => { x with braking := false }, ?_, ?_⟩
  · change execBrakingEnd t p s = _
    unfold execBrakingEnd
    simp only [hb]
    rw [if_pos ⟨hbr, hend⟩]
  · dsimp only
    rw [phaseAt_modPhase_same b _ h]
    exact ⟨rfl, rfl, rfl⟩

end

end Sys2Proof.Machine
end

section
/-! SUPPORT. The period boundary of a phase: its sample, its duty and the release of gate-off (08_converter_control.md R220 to
R223, R261). -/

namespace Sys2Proof.Machine

set_option Elab.async false

/-! ## What releases a phase -/

/-- What a phase shows of its use: fitted and enabled, in service, with a sense to be trusted, not waiting for the next start. -/
def Phase.use (x : Phase) : Bool × Bool × Bool × Bool := (x.enabled, x.disabled, x.implausible, x.rejoin)

/-- What a converter shows of the release of its phases. -/
def Conv.gate (c : Conv) : Bytes × Bool × Bool := (c.cfg, c.running, c.fltLine)

theorem splitPhases_congr {s u : State} (hc : ∀ i, (u.convAt i).gate = (s.convAt i).gate)
    (hp : ∀ p, (u.phaseAt p).use = (s.phaseAt p).use) (hf : u.flt = s.flt) (i : Nat) :
    splitPhases u i = splitPhases s i := by
  have hcfg (i : Nat) : (u.convAt i).cfg = (s.convAt i).cfg := congrArg (·.1) (hc i)
  have henabled (p : Nat) : (u.phaseAt p).enabled = (s.phaseAt p).enabled := congrArg (·.1) (hp p)
  have hdisabled (p : Nat) : (u.phaseAt p).disabled = (s.phaseAt p).disabled := congrArg (·.2.1) (hp p)
  have himplausible (p : Nat) : (u.phaseAt p).implausible = (s.phaseAt p).implausible := congrArg (·.2.2.1) (hp p)
  have hrejoin (p : Nat) : (u.phaseAt p).rejoin = (s.phaseAt p).rejoin := congrArg (·.2.2.2) (hp p)
  simp only [splitPhases, enabledPhases, legFitted, State.suspended, State.retired, hcfg, henabled, hdisabled, himplausible,
    hrejoin, hf]

theorem released_congr {s u : State} (hc : ∀ i, (u.convAt i).gate = (s.convAt i).gate)
    (hp : ∀ p, (u.phaseAt p).use = (s.phaseAt p).use) (hf : u.flt = s.flt) (hstr : u.str = s.str) (hsaf : u.saf = s.saf)
    (hhvi : u.hviStr = s.hviStr) (hpwr : u.pwr = s.pwr) (p : Nat) : released u p = released s p := by
  have hrun (i : Nat) : (u.convAt i).running = (s.convAt i).running := congrArg (·.2.1) (hc i)
  have hline (i : Nat) : (u.convAt i).fltLine = (s.convAt i).fltLine := congrArg (·.2.2) (hc i)
  simp only [released, convRuns, splitPhases_congr hc hp hf, State.strAt, State.hviAt, State.clockLost, hstr, hsaf, hhvi,
    hpwr, hrun, hline]

/-! ## The boundary in its steps -/

/-- Both channels release the gate-off line of the phase's string once the latch has released and the converter runs. -/
def lineFreed (s : State) (i : Nat) : State :=
  let free : ChanStr → ChanStr := fun x => { x with gateOff := x.gateOff && (x.latch || !(s.convAt i).running) }
  (s.modChanStr .sp i free).modChanStr .sloe i free

/-- The phase with its sample and with the duty of the period that begins. -/
def Phase.latched (s : State) (p : Nat) (code : Int) (x : Phase) : Phase :=
  { x with sample := phaseSample s (p / 4) code, sampleT := s.tsu.now
           fullScale := if decide (4096 ≤ absI code) = true then x.fullScale + 1 else 0
           boundaries := x.boundaries + 1, offset := x.newOffset.getD x.offset, newOffset := none
           duty := latchedDuty s p, nextDuty := none, brakePeriods := x.brakePeriods + x.braking.toNat }

/-- Phase `p` of `s` with its sample and its duty. -/
def sampledAt (s : State) (p : Nat) (code : Int) : State :=
  let v := lineFreed s (p / 4)
  v.modPhase p (Phase.latched v p code)

/-- The taps of the low-side pulse of phase `p`. -/
def tapsAt (v : State) (p : Nat) : Nat :=
  ((clampI (dMin v (p / 4)) (dMax v (p / 4)) (v.phaseAt p).duty * (nSw v (p / 4) : Int) + 2 ^ 30) / 2 ^ 31).toNat

/-- The phase with its pulses for the period, held low where it is not released or brakes. -/
def Phase.switched (v : State) (p : Nat) (x : Phase) : Phase :=
  { x with gatedOff := !released v p, taps := tapsAt v p, setpoint := roundR (phaseSet v p v.tsu.now * 100)
           low := if (released v p && !(v.phaseAt p).braking) = true then pulse (tapsAt v p : Int) else 0
           high := if (released v p && !(v.phaseAt p).braking) = true then
             pulse ((nSw v (p / 4) : Int) - (tapsAt v p : Int) - (getU (cnvCfg v (p / 4)) 10 2 : Int) -
               (getU (cnvCfg v (p / 4)) 12 2 : Int)) else 0
           sum := x.sum + x.sample, sums := x.sums + 1, dutySum := x.dutySum + x.duty }

/-- The phase of `w` on its estimate, as its reading in `v` agrees with that or does not. -/
def Phase.compared (v w : State) (p : Nat) (x : Phase) : Phase :=
  { x with agreeSince := track w (decide (absR (((v.phaseAt p).sample : Rat) - phaseCurrent w p * 100) ≤
      deltaThr (peerMean w p))) x.agreeSince }

/-- Phase `p` of `v` switching; on its estimate, its reading is compared with that. -/
def switchedAt (v : State) (p : Nat) : State :=
  let w := v.modPhase p (Phase.switched v p)
  match (v.phaseAt p).estimate with
  | none => w
  | some _ => w.modPhase p (Phase.compared v w p)

theorem periodBoundary_eq (s : State) (p : Nat) (code : Int) : periodBoundary s p code =
    let w := switchedAt (sampledAt s p code) p
    if firstPhase w (p / 4) = some p then w.modConv (p / 4) fun c => { c with shiftLeft := c.shiftLeft - 1 } else w := rfl

/-- Switching moves phases only. -/
@[simp] theorem switchedAt_keeps (v : State) (p : Nat) : (switchedAt v p).conv = v.conv ∧ (switchedAt v p).saf = v.saf := by
  unfold switchedAt
  dsimp only
  split <;> exact ⟨rfl, rfl⟩

theorem periodBoundary_phase (s : State) (p : Nat) (code : Int) :
    (periodBoundary s p code).phase = (switchedAt (sampledAt s p code) p).phase := by
  rw [periodBoundary_eq]
  dsimp only
  split <;> rfl

theorem periodBoundary_saf (s : State) (p : Nat) (code : Int) :
    (periodBoundary s p code).saf = (sampledAt s p code).saf := by
  rw [periodBoundary_eq]
  dsimp only
  split <;> simp

theorem periodBoundary_gate (s : State) (p : Nat) (code : Int) (i : Nat) :
    ((periodBoundary s p code).convAt i).gate = ((sampledAt s p code).convAt i).gate := by
  have hswitched : (switchedAt (sampledAt s p code) p).convAt i = (sampledAt s p code).convAt i := convAt_congr (by simp) i
  rw [periodBoundary_eq, ← hswitched]
  dsimp only
  split
  · exact convAt_modConv_field Conv.gate _ (p / 4) i (fun c => { c with shiftLeft := c.shiftLeft - 1 }) fun _ => rfl
  · rfl

/-- Switching leaves every phase in the use it is in. -/
theorem switchedAt_use (v : State) (p k : Nat) : ((switchedAt v p).phaseAt k).use = (v.phaseAt k).use := by
  have hw : ((v.modPhase p (Phase.switched v p)).phaseAt k).use = (v.phaseAt k).use :=
    phaseAt_modPhase_field Phase.use v p k fun _ => rfl
  unfold switchedAt
  split
  · exact hw
  · rw [← hw]
    exact phaseAt_modPhase_field Phase.use _ p k (f := Phase.compared v _ p) fun _ => rfl

/-- What phase `p` is after its boundary, but for the time it agrees with its estimate. -/
theorem switchedAt_phaseAt (v : State) {p : Nat} (h : p < v.phase.length) :
    ∃ since, (switchedAt v p).phaseAt p = { Phase.switched v p (v.phaseAt p) with agreeSince := since } := by
  have hw : (v.modPhase p (Phase.switched v p)).phaseAt p = (v.phaseAt p).switched v p := phaseAt_modPhase_same v _ h
  unfold switchedAt
  split
  · exact ⟨_, hw⟩
  · dsimp only
    rw [phaseAt_modPhase_same _ _ (by simpa [State.modPhase] using h), hw]
    exact ⟨_, rfl⟩

/-- The release of the line moves nothing that the sample and the duty go by. -/
theorem latched_lineFreed (s : State) (i p : Nat) (code : Int) :
    Phase.latched (lineFreed s i) p code = Phase.latched s p code := rfl

theorem sampledAt_phaseAt {s : State} {p : Nat} (code : Int) (h : p < s.phase.length) :
    (sampledAt s p code).phaseAt p = (s.phaseAt p).latched s p code := by
  rw [← latched_lineFreed s (p / 4)]
  exact phaseAt_modPhase_same (lineFreed s (p / 4)) _ h

/-- After its boundary a phase is gated off just where it is not released. -/
theorem released_periodBoundary (s : State) (p : Nat) (code : Int) :
    released (periodBoundary s p code) p = released (sampledAt s p code) p := by
  refine released_congr (s := sampledAt s p code) (fun i => periodBoundary_gate s p code i) (fun k => ?_) ?_ ?_
    (periodBoundary_saf s p code) ?_ ?_ p
  · rw [phaseAt_congr (periodBoundary_phase s p code), switchedAt_use]
  all_goals simp [sampledAt, lineFreed]

theorem periodBoundary_latches {s : State} {p : Nat} (code : Int) (h : p < s.phase.length) :
    let u := periodBoundary s p code
    (u.phaseAt p).sample = phaseSample s (p / 4) code ∧ (u.phaseAt p).sampleT = s.tsu.now ∧
      (u.phaseAt p).duty = latchedDuty s p ∧ (u.phaseAt p).boundaries = (s.phaseAt p).boundaries + 1 ∧
      (u.phaseAt p).gatedOff = (!released u p) ∧ ((u.phaseAt p).gatedOff = true ∨ (u.phaseAt p).braking = true →
        (u.phaseAt p).low = 0 ∧ (u.phaseAt p).high = 0) ∧ u.str = s.str := by
  have hv := sampledAt_phaseAt code h
  obtain ⟨since, hu⟩ := switchedAt_phaseAt (sampledAt s p code) (p := p) (by simpa [sampledAt, lineFreed, State.modPhase] using h)
  dsimp only
  rw [released_periodBoundary, phaseAt_congr (periodBoundary_phase s p code), hu]
  dsimp only [Phase.switched]
  refine ⟨by rw [hv]; rfl, by rw [hv]; rfl, by rw [hv]; rfl, by rw [hv]; rfl, rfl, fun hoff => ?_, by simp⟩
  have hlow : ¬ (released (sampledAt s p code) p && !((sampledAt s p code).phaseAt p).braking) = true := by
    rcases hoff with hoff | hbrake
    · simp only [Bool.not_eq_true'] at hoff
      simp [hoff]
    · simp [hbrake]
  exact ⟨if_neg hlow, if_neg hlow⟩

theorem periodBoundary_does {t p : Nat} {s b : State} (hb : s.advance t = b) (code : Int) (hn : p < b.phases)
    (h : p < b.phase.length) (hclk : b.clockLost .loop = false) (hp : b.pwr.state = .active ∨ b.pwr.state = .holdup) :
    Does (.periodBoundary t p code) s fun u => (u.phaseAt p).sample = phaseSample b (p / 4) code ∧
      (u.phaseAt p).sampleT = b.tsu.now ∧ (u.phaseAt p).duty = latchedDuty b p ∧
      (u.phaseAt p).boundaries = (b.phaseAt p).boundaries + 1 ∧ (u.phaseAt p).gatedOff = (!released u p) ∧
      ((u.phaseAt p).gatedOff = true ∨ (u.phaseAt p).braking = true → (u.phaseAt p).low = 0 ∧ (u.phaseAt p).high = 0) ∧
      u.str = b.str := by
  refine ⟨periodBoundary b p code, ?_, periodBoundary_latches code h⟩
  change execPeriodBoundary t p code s = _
  unfold execPeriodBoundary
  simp only [hb]
  rw [if_pos ⟨hn, by simp [hclk], hp⟩]

end Sys2Proof.Machine
end

section
/-! SUPPORT. The phase evaluation (08_converter_control.md R245 to R250; log entry 18). -/

namespace Sys2Proof.Machine

set_option Elab.async false

/-! ## The phases of a string -/

theorem mem_splitPhases {s : State} {i p : Nat} (h : p ∈ splitPhases s i) : p / 4 = i := by
  simp only [splitPhases, enabledPhases, List.mem_filter, List.mem_map, List.mem_range] at h
  obtain ⟨⟨⟨k, hk, rfl⟩, -⟩, -⟩ := h
  omega

theorem splitPhases_nodup (s : State) (i : Nat) : (splitPhases s i).Nodup := by
  refine ((List.nodup_range.map ?_).filter _).filter _
  exact fun a b h => Nat.add_left_cancel h

/-- A list without repetition of which just one element is kept. -/
theorem filter_eq_singleton {α : Type} [DecidableEq α] {l : List α} {q : α → Bool} {a : α} (hl : l.Nodup) (ha : a ∈ l)
    (hq : ∀ x ∈ l, q x = (x == a)) : l.filter q = [a] := by
  rw [List.filter_congr hq, List.filter_beq, List.count_eq_one_of_mem hl ha]
  rfl

/-! ## The evaluation in its steps -/

/-- The phases of string `i` that look open in this period. -/
def opensIn (s : State) (i : Nat) : List Nat :=
  (splitPhases s i).filter fun p =>
    evalArmed s i && !((splitPhases s i).any fun p => (s.phaseAt p).implausible) && openNow s p

/-- Those whose sense looks wrong in this period. -/
def sensesIn (s : State) (i : Nat) : List Nat := (splitPhases s i).filter fun p => evalArmed s i && senseNow s p

/-- The phase with its counts after the period, and its sums begun anew. -/
def Phase.counted (opens senses : List Nat) (p : Nat) (x : Phase) : Phase :=
  { x with openCount := if opens.contains p = true then x.openCount + 1 else 0
           senseCount := if senses.contains p = true then x.senseCount + 1 else 0
           sum := 0, sums := 0, dutySum := 0, braked := x.braking }

/-- The converter with residual `r` of the period, and its sum begun anew. -/
def Conv.counted (r : Rat) (c : Conv) : Conv :=
  { c with shuntSum := 0, shuntSums := 0, residual := roundR r, armedPeriods := if c.running then c.armedPeriods + 1 else 0 }

/-- String `i` with its counts after the period. -/
def evaluated (s : State) (i : Nat) : State :=
  State.modConv
    { s with phase := s.phase.mapIdx fun p (x : Phase) => if p / 4 = i then x.counted (opensIn s i) (sensesIn s i) p else x }
    i (Conv.counted (residual s i))

/-- The phases of string `i` that have looked open for as many periods as it takes. -/
def openFaults (s : State) (i : Nat) : List Nat :=
  (splitPhases s i).filter fun p => decide (detectN (evaluated s i) i ≤ ((evaluated s i).phaseAt p).openCount)

/-- Those whose sense has looked wrong for as many. -/
def senseFaults (s : State) (i : Nat) : List Nat :=
  (splitPhases s i).filter fun p => decide (detectN (evaluated s i) i ≤ ((evaluated s i).phaseAt p).senseCount) &&
    !((evaluated s i).phaseAt p).implausible

theorem phaseEvaluation_eq (s : State) (i : Nat) : phaseEvaluation s i =
    match openFaults s i ++ senseFaults s i with
    | [] => evaluated s i
    | [p] => if otherEstimates (evaluated s i) p then ambiguous (evaluated s i) i
        else if (openFaults s i).contains p then faultPhase (evaluated s i) p 246 0 else senseFault (evaluated s i) p
    | _ => ambiguous (evaluated s i) i := rfl

theorem evaluated_phaseAt {s : State} {i p : Nat} (hp : p / 4 = i) (h : p < s.phase.length) :
    (evaluated s i).phaseAt p = (s.phaseAt p).counted (opensIn s i) (sensesIn s i) p := by
  have hat : (evaluated s i).phaseAt p = if p / 4 = i then (s.phaseAt p).counted (opensIn s i) (sensesIn s i) p
      else s.phaseAt p :=
    getD_mapIdx s.phase (fun p x => if p / 4 = i then x.counted (opensIn s i) (sensesIn s i) p else x) {} {} h
  rw [hat, if_pos hp]

theorem evaluated_phaseAt_default {s : State} (i : Nat) {p : Nat} (h : s.phase.length ≤ p) :
    (evaluated s i).phaseAt p = {} :=
  getD_of_length_le ({} : Phase) (by simpa [evaluated, State.modConv] using h)

/-- A phase that does not look open starts its count again. -/
theorem evaluated_openCount {s : State} {i p : Nat} (hp : p / 4 = i) (h : p ∉ opensIn s i) :
    ((evaluated s i).phaseAt p).openCount = 0 := by
  by_cases hl : p < s.phase.length
  · rw [evaluated_phaseAt hp hl]
    exact if_neg (by simpa using h)
  · rw [evaluated_phaseAt_default i (Nat.le_of_not_lt hl)]

theorem evaluated_senseCount {s : State} {i p : Nat} (hp : p / 4 = i) (h : p ∉ sensesIn s i) :
    ((evaluated s i).phaseAt p).senseCount = 0 := by
  by_cases hl : p < s.phase.length
  · rw [evaluated_phaseAt hp hl]
    exact if_neg (by simpa using h)
  · rw [evaluated_phaseAt_default i (Nat.le_of_not_lt hl)]

theorem evaluated_implausible (s : State) (i p : Nat) :
    ((evaluated s i).phaseAt p).implausible = (s.phaseAt p).implausible := by
  refine getD_mapIdx_field (·.implausible) s.phase p {}
    (f := fun p x => if p / 4 = i then x.counted (opensIn s i) (sensesIn s i) p else x) fun k x => ?_
  split <;> rfl

theorem evaluated_detectN (s : State) (i : Nat) : detectN (evaluated s i) i = detectN s i := by
  have hcfg : ((evaluated s i).convAt i).cfg = (s.convAt i).cfg :=
    convAt_modConv_field (·.cfg) _ i i (Conv.counted (residual s i)) fun _ => rfl
  rw [detectN, detectN, cnvCfg, cnvCfg, hcfg]

/-- Where no sense looks wrong there is no sense fault. -/
theorem senseFaults_nil {s : State} {i : Nat} (hn : 0 < detectN s i) (h : sensesIn s i = []) : senseFaults s i = [] := by
  refine List.filter_eq_nil_iff.mpr fun p hp => ?_
  rw [evaluated_detectN, evaluated_senseCount (mem_splitPhases hp) (by simp [h])]
  simp [Nat.pos_iff_ne_zero.mp hn]

/-- A period that is not armed counts nothing. -/
theorem phaseEvaluation_unarmed {s : State} {i : Nat} (ha : evalArmed s i = false) (hn : 0 < detectN s i) :
    phaseEvaluation s i = evaluated s i := by
  have hopens : opensIn s i = [] := by simp [opensIn, ha]
  have hsenses : sensesIn s i = [] := by simp [sensesIn, ha]
  have hfaults : openFaults s i = [] := by
    refine List.filter_eq_nil_iff.mpr fun p hp => ?_
    rw [evaluated_detectN, evaluated_openCount (mem_splitPhases hp) (by simp [hopens])]
    simp [Nat.pos_iff_ne_zero.mp hn]
  rw [phaseEvaluation_eq, hfaults, senseFaults_nil hn hsenses]
  rfl

/-- One phase that has looked open for as many periods as it takes, while no other looks open and no sense looks wrong, is an open
phase (R246). -/
theorem phaseEvaluation_open {s : State} {i p : Nat} (ha : evalArmed s i = true) (hp : p ∈ splitPhases s i)
    (h : p < s.phase.length) (hc : (s.phaseAt p).openCount + 1 = detectN s i) (ho : openNow s p = true)
    (hothers : ∀ r ∈ splitPhases s i, (s.phaseAt r).implausible = false ∧ senseNow s r = false ∧
      (r = p ∨ openNow s r = false)) (hest : otherEstimates s p = false) :
    phaseEvaluation s i = faultPhase (evaluated s i) p 246 0 := by
  have hpi := mem_splitPhases hp
  have hopens : opensIn s i = [p] := by
    refine filter_eq_singleton (splitPhases_nodup s i) hp fun r hr => ?_
    have hnone : ((splitPhases s i).any fun p => (s.phaseAt p).implausible) = false :=
      List.any_eq_false.mpr fun r hr => by simp [(hothers r hr).1]
    obtain ⟨-, -, hr | hr⟩ := hothers r hr
    · simp [ha, hnone, hr, ho]
    · have hne : r ≠ p := fun he => by simp [← he, hr] at ho
      simp [hr, hne]
  have hsenses : sensesIn s i = [] := List.filter_eq_nil_iff.mpr fun r hr => by simp [(hothers r hr).2.1]
  have hfaults : openFaults s i = [p] := by
    refine filter_eq_singleton (splitPhases_nodup s i) hp fun r hr => ?_
    rw [evaluated_detectN]
    by_cases he : r = p
    · subst he
      simp [evaluated_phaseAt hpi h, Phase.counted, hopens, hc]
    · rw [evaluated_openCount (mem_splitPhases hr) (by simpa [hopens] using he)]
      simp [he, ← hc]
  have hestimates : otherEstimates (evaluated s i) p = false := by
    simpa only [otherEstimates, evaluated_implausible] using hest
  rw [phaseEvaluation_eq, hfaults, senseFaults_nil (by omega) hsenses]
  simp [hestimates]

/-! ## The event, on the state `b` at its instant -/

section
variable {t i : Nat} {s b : State} (hb : s.advance t = b)
include hb

theorem exec_phaseEvaluation (hr : (b.strAt i).state = .regulating) :
    exec (.phaseEvaluation t i) s = .next (phaseEvaluation b i) := by
  change execPhaseEvaluation t i s = _
  unfold execPhaseEvaluation
  simp only [hb]
  rw [if_pos (by simp [hr])]

theorem phaseEvaluation_restarts (hr : (b.strAt i).state = .regulating) (ha : evalArmed b i = false) (hn : 0 < detectN b i)
    (hi : i < b.conv.length) :
    Does (.phaseEvaluation t i) s fun u => (∀ k ∈ List.range 4, 4 * i + k < b.phase.length →
      (u.phaseAt (4 * i + k)).openCount = 0 ∧ (u.phaseAt (4 * i + k)).senseCount = 0 ∧ (u.phaseAt (4 * i + k)).sums = 0 ∧
      (u.phaseAt (4 * i + k)).gatedOff = (b.phaseAt (4 * i + k)).gatedOff) ∧ (u.convAt i).shuntSums = 0 := by
  refine ⟨evaluated b i, ?_, fun k hk h => ?_, ?_⟩
  · rw [exec_phaseEvaluation hb hr, phaseEvaluation_unarmed ha hn]
  · have hstring : (4 * i + k) / 4 = i := by have := List.mem_range.mp hk; omega
    refine ⟨evaluated_openCount hstring ?_, evaluated_senseCount hstring ?_, ?_, ?_⟩
    · simp [opensIn, ha]
    · simp [sensesIn, ha]
    · rw [evaluated_phaseAt hstring h]; rfl
    · rw [evaluated_phaseAt hstring h]; rfl
  · have hconv : (evaluated b i).convAt i = (b.convAt i).counted (residual b i) := convAt_modConv_same _ i _ hi
    rw [hconv]
    rfl

theorem phaseEvaluation_drops {p : Nat} (hr : (b.strAt i).state = .regulating) (ha : evalArmed b i = true)
    (hp : p ∈ splitPhases b i) (h : p < b.phase.length) (hc : (b.phaseAt p).openCount + 1 = detectN b i)
    (ho : openNow b p = true) (hothers : ∀ r ∈ splitPhases b i, (b.phaseAt r).implausible = false ∧ senseNow b r = false ∧
      (r = p ∨ openNow b r = false)) (hest : otherEstimates b p = false) (hret : b.retired (uPhase p) = false) :
    Does (.phaseEvaluation t i) s fun u => u.suspended (uPhase p) = true ∧ (u.phaseAt p).gatedOff = true ∧
      (u.phaseAt p).rejoin = true := by
  obtain ⟨hsusp, hphase, -⟩ := faultPhase_drops (s := evaluated b i) (p := p) 246 0 hret
    (by simpa [evaluated, State.modConv] using h)
  refine ⟨faultPhase (evaluated b i) p 246 0, ?_, hsusp, ?_, ?_⟩
  · rw [exec_phaseEvaluation hb hr, phaseEvaluation_open ha hp h hc ho hothers hest]
  · rw [hphase]; rfl
  · rw [hphase]; rfl

end

end Sys2Proof.Machine
end

section
/-! SUPPORT. Interleave and synchronisation, and the drivers (08_converter_control.md R226 to R229, R244, R251), and the statement
that the laws of phases and drivers settle. -/

namespace Sys2Proof.Machine

set_option Elab.async false

/-! ## New offsets -/

/-- The phase with a new offset, taken at its next boundary. -/
def Phase.offsetDue (n : Nat) (x : Phase) : Phase := { x with newOffset := some n }

/-- Each phase of `l` with its new offset. -/
def offsetsDue (s : State) (l : List (Nat × Nat)) : State := l.foldl (fun s e => s.modPhase e.1 (Phase.offsetDue e.2)) s

theorem offsetsDue_phaseAt_ne {p : Nat} (l : List (Nat × Nat)) (h : p ∉ l.map Prod.fst) (s : State) :
    (offsetsDue s l).phaseAt p = s.phaseAt p := by
  refine List.foldlRecOn (motive := fun u : State => u.phaseAt p = s.phaseAt p) l _ rfl fun u hu e he => ?_
  have hne : p ≠ e.1 := fun hp => h (hp ▸ List.mem_map_of_mem he)
  rw [phaseAt_modPhase_ne u _ hne, hu]

theorem offsetsDue_newOffset {e : Nat × Nat} (l : List (Nat × Nat)) (hl : (l.map Prod.fst).Nodup) (he : e ∈ l) :
    ∀ s : State, e.1 < s.phase.length → ((offsetsDue s l).phaseAt e.1).newOffset = some e.2 := by
  induction l with
  | nil => cases he
  | cons x l ih =>
    intro s h
    obtain ⟨hx, hl⟩ := List.nodup_cons.mp hl
    change ((offsetsDue (s.modPhase x.1 (Phase.offsetDue x.2)) l).phaseAt e.1).newOffset = some e.2
    rcases List.mem_cons.mp he with rfl | he
    · rw [offsetsDue_phaseAt_ne l hx, phaseAt_modPhase_same s _ h]
      rfl
    · exact ih hl he _ (by simpa [State.modPhase] using h)

theorem dueOffsets_fst (s : State) (i : Nat) : (dueOffsets s i).map Prod.fst = splitPhases s i :=
  List.ext_getElem (by simp [dueOffsets]) fun j _ _ => by simp [dueOffsets]

theorem offsetsDue_conv (s : State) (l : List (Nat × Nat)) : (offsetsDue s l).conv = s.conv := by simp [offsetsDue]

/-! ## Carrier slots -/

/-- The slot written is the slot read. -/
theorem getU_putAt_slot {b : Bytes} {slot : Nat} (h : 2 < b.length) (hs : slot < 256) :
    getU (putAt b 2 (leU 1 slot)) 2 1 = slot := by
  have hbyte : (putAt b 2 (leU 1 slot)).getD 2 0 = BitVec.ofNat 8 slot := by
    have hlen : (b.take 2).length = 2 := by simp; omega
    simp [putAt, leU, List.getD_eq_getElem?_getD, hlen]
  simp only [getU, hbyte, BitVec.toNat_ofNat]
  omega

theorem cnvCfg_of_length {s : State} {i n : Nat} (h : (s.convAt i).cfg.length = n + 1) : cnvCfg s i = (s.convAt i).cfg := by
  have hne : (s.convAt i).cfg.isEmpty = false := by
    cases hc : (s.convAt i).cfg with
    | nil => simp [hc] at h
    | cons => rfl
  simp [cnvCfg, forString, hne]

/-! ## Drivers -/

/-- The reply of a driver that is ready, follows this unit and reports no fault. -/
def readyReply (claim : Nat) : Gx2Reply := ⟨true, true, true, false, false, false, false, false, true, claim⟩

/-- The driver after that reply. -/
def Gx2.readyAs (claim : Nat) (g : Gx2) : Gx2 :=
  { g with unanswered := 0, ready := true, followsUs := true, claim := claim, overtempWarn := false }

theorem gx2Reply_ready (s : State) (p claim : Nat) : gx2Reply s p (readyReply claim) =
    (s.modGx2 p (Gx2.readyAs claim)).setRed fun x => { x with stageClaim := max x.stageClaim claim } := by
  simp [gx2Reply, readyReply]
  rfl

/-- The reply of driver `k` of string `i` taken, where there is one. -/
def replyTaken (i : Nat) (r : List Gx2Reply) (s : State) (k : Nat) : State :=
  match r[k]? with | none => s | some x => gx2Reply s (4 * i + k) x

/-- String `i` once each of its drivers has replied so. -/
def polledReady (s : State) (i claim : Nat) : State :=
  (List.range 4).foldl (fun s k => gx2Reply s (4 * i + k) (readyReply claim)) s

theorem replyTaken_ready (s : State) (i claim : Nat) :
    (List.range 4).foldl (replyTaken i (List.replicate 4 (readyReply claim))) s = polledReady s i claim := by
  refine List.foldl_ext _ _ s fun u k hk => ?_
  unfold replyTaken
  rw [List.getElem?_replicate_of_lt (List.mem_range.mp hk)]

theorem polledReady_gx2At (s : State) (i claim : Nat) {k : Nat} (hk : k ∈ List.range 4) (h : 4 * i + 3 < s.gx2.length) :
    (polledReady s i claim).gx2At (4 * i + k) = (s.gx2At (4 * i + k)).readyAs claim := by
  have hlt := List.mem_range.mp hk
  refine foldl_once (p := fun u : State => (u.gx2At (4 * i + k), u.gx2.length)) (i := k)
    (P := fun v => v.1 = (s.gx2At (4 * i + k)).readyAs claim) (fun u j hj => ?_) (fun u hu => ?_) List.nodup_range hk
    (a := s) rfl
  · have hat : (gx2Reply u (4 * i + j) (readyReply claim)).gx2At (4 * i + k) = u.gx2At (4 * i + k) := by
      rw [gx2Reply_ready]
      exact gx2At_modGx2_ne u _ (by omega)
    rw [hat, gx2Reply_ready]
    simp [State.modGx2]
  · obtain ⟨hat, hlen⟩ := Prod.mk.inj hu
    have hreply : (gx2Reply u (4 * i + k) (readyReply claim)).gx2At (4 * i + k) = (u.gx2At (4 * i + k)).readyAs claim := by
      rw [gx2Reply_ready]
      exact gx2At_modGx2_same u _ (by omega)
    rw [hreply, hat]

theorem polledReady_keeps (s : State) (i claim : Nat) :
    (polledReady s i claim).str = s.str ∧ (polledReady s i claim).conv = s.conv := by
  simp [polledReady, gx2Reply_ready]

/-! ## The events, on the state `b` at their instant -/

/-- String `i` with its fault line low, and all four phases gated off by it. -/
def faultLineLow (b : State) (i : Nat) : State :=
  (b.modConv i fun c => { c with fltLine := true }).modPhases i Phase.heldLow

/-- String `i` with its fault line released. -/
def lineReleased (v : State) (i : Nat) : State := v.modConv i fun c => { c with fltLine := false }

/-- The configuration with a new slot; the shift that asked for it is over. -/
def Conv.slotted (slot : Nat) (cfg : Bytes) (c : Conv) : Conv := { c with cfg := putAt cfg 2 (leU 1 slot), shift := none }

section
variable {t i : Nat} {s b : State} (hb : s.advance t = b)
include hb

theorem reInterleave_offsets {n f : Nat} (hi : i < b.conv.length) (hn : (b.convAt i).reinterleave = some n)
    (hf : firstPhase b i = some f) (hd : n ≤ (b.phaseAt f).boundaries) :
    Does (.reInterleave t i) s fun u => (u.convAt i).reinterleave = none ∧
      ∀ e ∈ dueOffsets b i, e.1 < b.phase.length → (u.phaseAt e.1).newOffset = some e.2 := by
  refine ⟨offsetsDue (b.modConv i fun c => { c with reinterleave := none }) (dueOffsets b i), ?_, ?_, fun e he h => ?_⟩
  · change execReInterleave t i s = _
    unfold execReInterleave
    simp only [hb, hn, hf]
    rw [if_pos hd]
    rfl
  · rw [convAt_congr (offsetsDue_conv ..), convAt_modConv_same b i _ hi]
  · exact offsetsDue_newOffset _ (dueOffsets_fst b i ▸ splitPhases_nodup b i) he _ h

theorem slotShift_shifts {slot phase at_ : Nat} (hi : i < b.conv.length) (hs : (b.convAt i).shift = some (1, slot, phase, at_))
    (hat : at_ ≤ b.tsu.now) (hl : (b.convAt i).cfg.length = 64) (hslot : slot < 256) :
    Does (.slotShift t i) s fun u => (u.convAt i).shift = none ∧ ilSlot u i = slot ∧ u.str = b.str := by
  obtain ⟨v, hv⟩ : ∃ v, v = b.modConv i (Conv.slotted slot (b.convAt i).cfg) := ⟨_, rfl⟩
  obtain ⟨u, hu⟩ : ∃ u, u = v.modConv i fun c =>
      { c with shiftLeft := shiftPeriods (nSw v i) (slotOffset b i) (slotOffset v i) } := ⟨_, rfl⟩
  have hvi : v.convAt i = (b.convAt i).slotted slot (b.convAt i).cfg := hv ▸ convAt_modConv_same b i _ hi
  have hui : u.convAt i = { v.convAt i with shiftLeft := shiftPeriods (nSw v i) (slotOffset b i) (slotOffset v i) } :=
    hu ▸ convAt_modConv_same v i _ (by simpa [hv, State.modConv] using hi)
  have hcfg : (u.convAt i).cfg = putAt (b.convAt i).cfg 2 (leU 1 slot) := by rw [hui, hvi]; rfl
  refine ⟨u, ?_, ?_, ?_, by simp [hu, hv]⟩
  · change execSlotShift t i s = _
    unfold execSlotShift
    simp only [hb, hs]
    rw [if_neg (Nat.not_lt.mpr hat), cnvCfg_of_length hl, hu, hv]
    rfl
  · rw [hui, hvi]; rfl
  · have hlen : (u.convAt i).cfg.length = 63 + 1 := by simp [hcfg, putAt, hl]
    rw [ilSlot, cnvCfg_of_length hlen, hcfg, getU_putAt_slot (by omega) hslot]

theorem syncInLoss_holds (hi : i < b.conv.length) (hm : syncMode b i = true) (hh : (b.convAt i).syncHoldover = false)
    (hlate : 2 * (b.convAt i).syncEdge + 3 * syncMean (b.convAt i) ≤ 2 * b.clk) :
    Does (.syncInLoss t i) s fun u => (u.convAt i).syncHoldover = true ∧ (u.convAt i).syncGood = 0 ∧ u.str = b.str := by
  refine ⟨b.modConv i fun c => { c with syncHoldover := true, syncGood := 0 }, ?_, ?_⟩
  · change execSyncInLoss t i s = _
    unfold execSyncInLoss
    simp only [hb]
    rw [if_pos (by simp [hm, hh, hlate])]
  · dsimp only
    rw [convAt_modConv_same b i _ hi]
    exact ⟨rfl, rfl, rfl⟩

theorem syncInRelock_relocks (hi : i < b.conv.length) (hm : syncMode b i = true) (hh : (b.convAt i).syncHoldover = true)
    (hg : 16 ≤ (b.convAt i).syncGood) :
    Does (.syncInRelock t i) s fun u => (u.convAt i).syncHoldover = false ∧ u.str = b.str := by
  refine ⟨b.modConv i fun c => { c with syncHoldover := false, shiftLeft := 50 }, ?_, ?_⟩
  · change execSyncInRelock t i s = _
    unfold execSyncInRelock
    simp only [hb]
    rw [if_pos (by simp [hm, hh, hg])]
  · dsimp only
    rw [convAt_modConv_same b i _ hi]
    exact ⟨rfl, rfl⟩

theorem gdbFlt_pauses (hs : b.isStr i = true) (hi : i < b.conv.length) (hr : (b.strAt i).state = .regulating)
    (hp : (b.convAt i).pause = none) (hramp : (b.convAt i).rampThen = none) :
    Does (.gdbFlt t i) s fun u => (u.convAt i).fltLine = true ∧ (u.convAt i).pause = some .desaturation ∧
      (u.convAt i).running = false ∧
      (∀ k ∈ List.range 4, 4 * i + k < b.phase.length → (u.phaseAt (4 * i + k)).gatedOff = true) ∧ u.str = b.str := by
  have hv : (faultLineLow b i).convAt i = { b.convAt i with fltLine := true } := convAt_modConv_same b i _ hi
  obtain ⟨hconv, hphase, hstr⟩ := enterPause_pauses (s := faultLineLow b i) (i := i) .desaturation
    (by simpa [faultLineLow, State.modPhases, State.modConv] using hi) hr (by rw [hv, hp]) (by rw [hv, hramp])
  refine ⟨enterPause (faultLineLow b i) i .desaturation, ?_, ?_, ?_, ?_, fun k hk h => ?_, hstr⟩
  · change execGdbFlt t i s = _
    unfold execGdbFlt
    simp only [hb]
    rw [if_neg (by simp [hs])]
    rfl
  · rw [hconv, hv]; rfl
  · rw [hconv]; rfl
  · rw [hconv]; rfl
  · have hstring : (4 * i + k) / 4 = i := by have := List.mem_range.mp hk; omega
    rw [hphase _ hstring (by simpa [faultLineLow, State.modPhases, State.modConv] using h)]
    rfl

/-- A poll of a string with every leg fitted: the status is read, and a bus on which no driver answers any more is lost. -/
theorem exec_gx2Poll (hs : b.isStr i = true) (r : List Gx2Reply)
    (hf : ((List.range 4).all fun k => legFitted b (4 * i + k)) = true) :
    exec (.gx2Poll t i r) s = .next (let v := lineReleased ((List.range 4).foldl (replyTaken i r) b) i
      if ((List.range 4).all fun k => decide (3 ≤ (v.gx2At (4 * i + k)).unanswered)) = true then retireUnit v (uGdb i) 2
      else v) := by
  have hlegs : (List.range 4).filter (fun k => legFitted b (4 * i + k)) = List.range 4 :=
    List.filter_eq_self.mpr (List.all_eq_true.mp hf)
  change execGx2Poll t i r s = _
  unfold execGx2Poll
  simp only [hb]
  rw [if_neg (by simp [hs]), hlegs]
  rfl

theorem gx2Poll_ready (hs : b.isStr i = true) (hi : i < b.conv.length) (hg : 4 * i + 3 < b.gx2.length)
    (hf : ((List.range 4).all fun k => legFitted b (4 * i + k)) = true) :
    Does (.gx2Poll t i (List.replicate 4 (readyReply 9))) s fun u => (u.convAt i).fltLine = false ∧
      (∀ k ∈ List.range 4, (u.gx2At (4 * i + k)).ready = true ∧ (u.gx2At (4 * i + k)).unanswered = 0 ∧
        (u.gx2At (4 * i + k)).followsUs = true ∧ (u.gx2At (4 * i + k)).claim = 9) ∧ u.str = b.str := by
  obtain ⟨hstr, hconv⟩ := polledReady_keeps b i 9
  have hat (k : Nat) (hk : k ∈ List.range 4) := polledReady_gx2At b i 9 hk hg
  have hpoll := exec_gx2Poll hb hs (List.replicate 4 (readyReply 9)) hf
  rw [replyTaken_ready] at hpoll
  generalize polledReady b i 9 = v at hstr hconv hat hpoll
  have hat (k : Nat) (hk : k ∈ List.range 4) : (lineReleased v i).gx2At (4 * i + k) = (b.gx2At (4 * i + k)).readyAs 9 :=
    hat k hk
  refine ⟨lineReleased v i, hpoll.trans (congrArg Host.Outcome.next (if_neg fun hall => ?_)), ?_, fun k hk => ?_, hstr⟩
  · have hzero := of_decide_eq_true (List.all_eq_true.mp hall 0 (by simp))
    rw [hat 0 (by simp)] at hzero
    simp [Gx2.readyAs] at hzero
  · rw [lineReleased, convAt_modConv_same _ i _ (by rwa [hconv])]
  · rw [hat k hk]
    exact ⟨rfl, rfl, rfl, rfl⟩

theorem dutyHoldExpiry_drops {p : Nat} (hn : p < b.phases) (h : p < b.phase.length) (hg : p < b.gx2.length)
    (hf : legFitted b p = true) (hu : (b.gx2At p).followsUs = true) (ho : b.unitOut (uPhase p) = false) :
    Does (.dutyHoldExpiry t p) s fun u => u.suspended (uPhase p) = true ∧ (u.phaseAt p).gatedOff = true ∧
      (u.gx2At p).faults.head? = some 4 := by
  obtain ⟨hsusp, hphase, -⟩ := faultPhase_drops (s := gx2Fault b p 4) (p := p) 244 0 (unitOut_eq_false ho).1 h
  refine ⟨faultPhase (gx2Fault b p 4) p 244 0, ?_, hsusp, ?_, ?_⟩
  · change execDutyHoldExpiry t p s = _
    unfold execDutyHoldExpiry
    simp only [hb]
    rw [if_pos ⟨hn, hf, hu, by simp [ho]⟩]
  · rw [hphase]; rfl
  · rw [gx2At_congr (s := gx2Fault b p 4) (by simp), gx2Fault, gx2At_modGx2_same b _ hg]
    rfl

end

/-- Settles O22: each clause is the law of its event on the state at the event's instant. -/
theorem phasesAndDrivers : Obligations.PhasesAndDrivers := by
  unfold Obligations.PhasesAndDrivers
  refine ⟨fun _ _ _ code hn h hclk hp => periodBoundary_does rfl code hn h hclk hp,
    fun _ _ _ hn h hf hr => pwmReadbackMismatch_drops rfl hn h hf hr,
    fun _ _ _ hn h hc hr => cycleByCycleLimit_drops rfl hn h hc hr,
    fun _ _ _ hn h => cycleByCycleLimit_restarts rfl hn h,
    fun _ _ _ hn h hf hi hr ho => phaseInputImplausible_marks rfl hn h hf hi hr ho,
    fun _ _ _ h hi he => estimateMode_begins rfl h hi he,
    fun _ _ _ _ h he ho ha ht => estimateModeEnd_agrees rfl h he ho ha ht,
    fun _ _ _ _ h he ha ht hr => estimateModeEnd_drops rfl h he ha ht hr,
    fun _ _ _ hr ha hn hi => phaseEvaluation_restarts rfl hr ha hn hi,
    fun _ _ _ _ hr ha hp h hc ho hothers hest hret => phaseEvaluation_drops rfl hr ha hp h hc ho hothers hest hret,
    fun _ _ _ _ _ hi hn hf hd => reInterleave_offsets rfl hi hn hf hd,
    fun _ _ _ _ _ _ _ hi hs hat hl _ hflags hslot => ?_,
    fun _ _ _ hi hm hh hlate => syncInLoss_holds rfl hi hm hh hlate,
    fun _ _ _ hi hm hh hg => syncInRelock_relocks rfl hi hm hh hg,
    fun _ _ _ hn h hg hbr he hpos hset hthr => braking_begins rfl hn h hg hbr he hpos hset hthr,
    fun _ _ _ h hbr hend => brakingEnd_ends rfl h hbr hend,
    fun _ _ _ hs hi hr hp hramp => gdbFlt_pauses rfl hs hi hr hp hramp,
    fun _ _ _ r hs hi hg hf hr => ?_,
    fun _ _ _ hn h hg hf hu ho => dutyHoldExpiry_drops rfl hn h hg hf hu ho⟩
  · subst hflags
    exact slotShift_shifts rfl hi hs hat hl hslot
  · subst hr
    exact gx2Poll_ready rfl hs hi hg hf

end Sys2Proof.Machine
end

section
/-! SUPPORT. What a halt and a change of tier leave of the converters and of the phases (01_system.md R22, R26, R28). -/

namespace Sys2Proof.Machine

set_option Elab.async false

/-- What the switching frequency of a converter goes by. -/
def Conv.settings (c : Conv) : Bytes × List Nat := (c.cfg, c.syncPeriods)

/-- A phase with its bridge switched off. -/
def Phase.gated (x : Phase) : Phase := { x with gatedOff := true }

/-- From `s` to `u` converters may have stopped: their settings stand, no phase has been released or changed its service. -/
structure Quiets (s u : State) : Prop where
  settings : ∀ i, (u.convAt i).settings = (s.convAt i).settings
  disabled : ∀ p, (u.phaseAt p).disabled = (s.phaseAt p).disabled
  gatedOff : ∀ p, (s.phaseAt p).gatedOff = true → (u.phaseAt p).gatedOff = true

namespace Quiets

theorem refl (s : State) : Quiets s s := ⟨fun _ => rfl, fun _ => rfl, fun _ h => h⟩

theorem trans {s u v : State} (h : Quiets s u) (k : Quiets u v) : Quiets s v where
  settings i := (k.settings i).trans (h.settings i)
  disabled p := (k.disabled p).trans (h.disabled p)
  gatedOff p hs := k.gatedOff p (h.gatedOff p hs)

/-- An operation that leaves the settings and the phases. -/
theorem of_settings {s u : State} (hc : ∀ i, (u.convAt i).settings = (s.convAt i).settings) (hp : u.phase = s.phase) :
    Quiets s u where
  settings := hc
  disabled p := by rw [phaseAt_congr hp]
  gatedOff p hs := by rwa [phaseAt_congr hp]

/-- An operation on neither converters nor phases. -/
theorem of_eq {s u : State} (hc : u.conv = s.conv) (hp : u.phase = s.phase) : Quiets s u :=
  of_settings (fun i => by rw [convAt_congr hc]) hp

theorem foldl {β : Type} {f : State → β → State} (h : ∀ s b, Quiets s (f s b)) (l : List β) (s : State) :
    Quiets s (l.foldl f s) :=
  List.foldlRecOn (motive := Quiets s) l f (.refl s) fun u hu b _ => hu.trans (h u b)

end Quiets

theorem quiets_modConv (s : State) (i : Nat) (f : Conv → Conv) (h : ∀ c, (f c).settings = c.settings) :
    Quiets s (s.modConv i f) := .of_settings (fun k => convAt_modConv_field Conv.settings s i k f h) rfl

theorem quiets_gateOffString (s : State) (i : Nat) : Quiets s (gateOffString s i) := by
  have hat (p : Nat) : (gateOffString s i).phaseAt p = (s.phaseAt p) ∨
      (gateOffString s i).phaseAt p = (s.phaseAt p).gated := by
    by_cases h : p < s.phase.length
    · have hp : (gateOffString s i).phaseAt p = if p / 4 = i then (s.phaseAt p).gated else s.phaseAt p :=
        getD_mapIdx s.phase (fun p x => if p / 4 = i then x.gated else x) {} {} h
      rw [hp]
      split
      · exact .inr rfl
      · exact .inl rfl
    · left
      rw [State.phaseAt, State.phaseAt, getD_of_length_le _ (Nat.le_of_not_lt h), getD_of_length_le]
      simpa [gateOffString] using h
  refine ⟨fun k => ?_, fun p => ?_, fun p hs => ?_⟩
  · exact convAt_modConv_field Conv.settings s i k (fun c => { c with running := false, ref := 0, rampStop := false
                                                                      rampThen := none, softStart := none, pause := none
                                                                      headroomSince := none }) fun _ => rfl
  · rcases hat p with h | h
    · rw [h]
    · rw [h, Phase.gated]
  · rcases hat p with h | h
    · rwa [h]
    · rw [h, Phase.gated]

theorem quiets_endPrecharge (s : State) (i : Nat) : Quiets s (endPrecharge s i) := by
  have hstore (u : State) : Quiets u (storeE u i) := by
    unfold storeE
    split
    · exact quiets_modConv u i (fun c => { c with stored := some (c.e, u.clk) }) fun _ => rfl
    · exact .of_eq (by simp) (by simp)
  unfold endPrecharge
  split
  · exact .refl s
  · exact (quiets_modConv s i (fun c => { c with stage := 0, tPc := none, lowSince := none, peak := 0 }) fun _ => rfl).trans
      (hstore _)

theorem quiets_haltStr (s : State) (i cause : Nat) : Quiets s (haltStr s i cause) := by
  have hhalt : Quiets s (stopBalancing (abortTrans (setStr (openCoils (endPrecharge (gateOffString s i) i) i) i .halted
      cause) i) i) :=
    ((quiets_gateOffString s i).trans (quiets_endPrecharge ..)).trans
      (.of_eq (s := endPrecharge (gateOffString s i) i) (by simp) (by simp))
  unfold haltStr
  split
  · exact hhalt
  · exact hhalt
  · exact hhalt
  · exact .refl s

theorem quiets_retireStr (s : State) (i cause : Nat) : Quiets s (retireStr s i cause) := by
  refine (quiets_haltStr s i cause).trans ?_
  unfold retireStr
  dsimp only
  split
  · exact .of_eq (by simp) (by simp)
  · exact .of_eq (by simp) (by simp)
  · exact .refl _

theorem quiets_prechargeAbort (s : State) (i cause : Nat) : Quiets s (prechargeAbort s i cause) := by
  unfold prechargeAbort
  split
  · exact (quiets_endPrecharge s i).trans (.of_eq (by simp) (by simp))
  · exact .refl s

theorem quiets_forceTier (s : State) (i : Nat) (old new : Tier) : Quiets s (forceTier s i old new) := by
  have hramp : Quiets s (if (s.convAt i).rampThen.isSome then s else startRamp (strayStr s i) i .connected) := by
    split
    · exact .refl s
    · exact (Quiets.of_eq (u := strayStr s i) (by simp) (by simp)).trans <|
        quiets_modConv (strayStr s i) i (fun c => { c with rampStop := true, rampThen := some .connected }) fun _ => rfl
  unfold forceTier
  split
  · exact .refl s
  · split
    · exact quiets_haltStr ..
    · exact quiets_prechargeAbort ..
    · exact hramp
    · exact hramp
    · exact .refl s

theorem quiets_retierStr (s : State) (i : Nat) : Quiets s (retierStr s i) := by
  have hretire (u : State) (hu : Quiets s u) : Quiets s (if permanentLoss u i then retireStr u i 28 else u) := by
    split
    · exact hu.trans (quiets_retireStr ..)
    · exact hu
  refine hretire _ ?_
  split
  · exact .refl s
  · exact .trans (.of_eq (by simp) (by simp)) (quiets_forceTier ..)

/-- What entry into SAFE-HOLD does to each string. -/
theorem quiets_safeHoldString (cause : Nat) (s : State) (i : Nat) :
    Quiets s (abortTrans (openCoils (gateOffString (haltStr s i cause) i) i) i) :=
  ((quiets_haltStr s i cause).trans (quiets_gateOffString ..)).trans
    (.of_eq (s := gateOffString (haltStr s i cause) i) (by simp) (by simp))

theorem quiets_enterSafeHold (s : State) (cause : Nat) : Quiets s (enterSafeHold s cause) := by
  unfold enterSafeHold
  split
  · have hstrings := Quiets.foldl (quiets_safeHoldString cause) (List.range s.strings) s
    exact hstrings.trans (.of_eq (by simp) (by simp))
  · exact .refl s

theorem quiets_retier (s : State) : Quiets s (retier s) := by
  have hhold (u : State) : Quiets u (if sharedLost u && u.unit.isRole then enterSafeHold u 567 else u) := by
    split
    · exact quiets_enterSafeHold ..
    · exact .refl u
  exact .trans (.foldl quiets_retierStr (List.range s.strings) s) (hhold _)

end Sys2Proof.Machine
end

section
/-! SUPPORT. The converter commands, and the statement they settle (08_converter_control.md R229, R251, R253, R254;
11_redundancy.md R334; 18_faults_peat_log.md R497). -/

namespace Sys2Proof.Machine

set_option Elab.async false

/-! ## CNV_SET_CONFIG -/

theorem fSw_congr {s u : State} {i : Nat} (h : (u.convAt i).settings = (s.convAt i).settings) : fSw u i = fSw s i := by
  have hcfg : (u.convAt i).cfg = (s.convAt i).cfg := congrArg (·.1) h
  have hsync : (u.convAt i).syncPeriods = (s.convAt i).syncPeriods := congrArg (·.2) h
  have hmode : syncMode u i = syncMode s i := by rw [syncMode, syncMode, cnvCfg, cnvCfg, hcfg]
  rw [fSw, fSw, hmode, hsync, cnvCfg, cnvCfg, hcfg]

/-- How long the drivers of string `i` hold a duty without input, ns (11_redundancy.md R334). -/
def dutyHold (s : State) (i : Nat) : Nat := 40 * nsUs + 5 * nsS / max 1 (fSw s i)

/-- The drivers of string `i` with the duty hold of its switching frequency. -/
def dutyHeld (s : State) (i : Nat) : State :=
  (List.range 4).foldl (fun s k => s.modGx2 (4 * i + k) fun g => { g with dutyHoldNs := dutyHold s i }) s

theorem storeCnv_eq (s : State) (p : Bytes) :
    storeCnv s p = retier (dutyHeld (s.modConv (getU p 0 1) fun c => { c with cfg := p }) (getU p 0 1)) := rfl

theorem dutyHeld_conv (s : State) (i : Nat) : (dutyHeld s i).conv = s.conv := by simp [dutyHeld]

theorem dutyHeld_dutyHoldNs (s : State) (i : Nat) {k : Nat} (hk : k ∈ List.range 4) (h : 4 * i + 3 < s.gx2.length) :
    ((dutyHeld s i).gx2At (4 * i + k)).dutyHoldNs = dutyHold s i := by
  have hlt := List.mem_range.mp hk
  refine foldl_once (p := fun u : State => (u.gx2At (4 * i + k), u.gx2.length, u.conv)) (i := k)
    (x := (s.gx2At (4 * i + k), s.gx2.length, s.conv)) (P := fun v => v.1.dutyHoldNs = dutyHold s i)
    (fun u j hj => ?_) (fun u hu => ?_) List.nodup_range hk rfl
  · rw [gx2At_modGx2_ne u _ (by omega)]
    simp [State.modGx2]
  · obtain ⟨-, hrest⟩ := Prod.mk.inj hu
    obtain ⟨hlen, hconv⟩ := Prod.mk.inj hrest
    have hsw : fSw u i = fSw s i := fSw_congr (by rw [convAt_congr hconv])
    rw [gx2At_modGx2_same u _ (by omega), dutyHold, dutyHold, hsw]

/-! ## CNV_PHASE_DISABLE -/

theorem phaseEnabled_of_disabled {s : State} {p : Nat} (h : (s.phaseAt p).disabled = true) : phaseEnabled s p = false := by
  simp [phaseEnabled, enabledPhases, h]

/-- Phase `p` disabled and dropped, and the tiers judged. -/
def phaseDisabled (s : State) (p : Nat) : State := retier (dropPhase (s.modPhase p fun x => { x with disabled := true }) p)

theorem phaseDisabled_drops (s : State) {p : Nat} (h : p < s.phase.length) :
    ((phaseDisabled s p).phaseAt p).disabled = true ∧ ((phaseDisabled s p).phaseAt p).gatedOff = true := by
  have hq := quiets_retier (dropPhase (s.modPhase p fun x => { x with disabled := true }) p)
  have hat : (dropPhase (s.modPhase p fun x => { x with disabled := true }) p).phaseAt p =
      Phase.dropped { s.phaseAt p with disabled := true } := by
    rw [dropPhase_phaseAt _ (by simpa [State.modPhase] using h), phaseAt_modPhase_same s _ h]
  exact ⟨(hq.disabled p).trans (by rw [hat]; rfl), hq.gatedOff p (by rw [hat]; rfl)⟩

/-! ## Restoring tests -/

/-- A test that waits or runs stays in the list, for the same purpose. -/
theorem mem_startTests {e : Susp} {l : List Susp} (h : e ∈ l) :
    ∀ n, ∃ x ∈ startTests l n, x.unit = e.unit ∧ x.restoring = e.restoring := by
  induction l with
  | nil => cases h
  | cons a l ih =>
    intro n
    unfold startTests
    rcases List.mem_cons.mp h with rfl | h
    · split
      · exact ⟨_, List.mem_cons_self, rfl, rfl⟩
      · split <;> exact ⟨_, List.mem_cons_self, rfl, rfl⟩
    · split
      · obtain ⟨x, hx, hu⟩ := ih h n
        exact ⟨x, List.mem_cons_of_mem _ hx, hu⟩
      · split
        · obtain ⟨x, hx, hu⟩ := ih h (n + 1)
          exact ⟨x, List.mem_cons_of_mem _ hx, hu⟩
        · obtain ⟨x, hx, hu⟩ := ih h n
          exact ⟨x, List.mem_cons_of_mem _ hx, hu⟩

/-- A unit put under test for a restoring command is suspended for it. -/
theorem testUnit_restoring (s : State) (n : Nat) : ∃ e ∈ (testUnit s n true).flt.susp, e.unit = n ∧ e.restoring = true := by
  unfold testUnit
  rw [State.setFlt_flt]
  split
  next h =>
    obtain ⟨e, he, hu⟩ := List.any_eq_true.mp h
    have hunit : e.unit = n := eq_of_beq hu
    exact ⟨_, List.mem_map_of_mem he, by simp [hunit]⟩
  · exact mem_startTests (List.mem_append_right _ List.mem_cons_self) _

theorem suspended_of_mem {s : State} {e : Susp} {n : Nat} (h : e ∈ s.flt.susp) (hu : e.unit = n) : s.suspended n = true :=
  List.any_eq_true.mpr ⟨e, h, beq_iff_eq.mpr hu⟩

/-! ## The commands -/

section
variable {s : State} {q : Req} (h : Taken s q) (hc : Commands s)
include h hc

theorem cnvSetConfig_stores {i : Nat} (hl : q.payload.length = 64) (hidx : getU q.payload 0 1 = i) (hs : i < s.strings)
    (hi : i < s.conv.length) (hst : (s.strAt i).state = .isolated) (hf : badField cnvFields q.payload = none)
    (hk : cnvCheck q.payload = none) (ha : admitted (s.modConv i fun c => { c with cfg := q.payload }) = true)
    (hg : 4 * i + 3 < s.gx2.length) :
    Does (.cnvSetConfig q) s fun u => (u.convAt i).cfg = q.payload ∧
      ∀ k ∈ List.range 4, (u.gx2At (4 * i + k)).dutyHoldNs = 40 * nsUs + 5 * nsS / max 1 (fSw u i) := by
  have ⟨_, _, henv⟩ := h
  subst hidx
  obtain ⟨v, hv⟩ : ∃ v, v = (touch s).modConv (getU q.payload 0 1) fun c => { c with cfg := q.payload } := ⟨_, rfl⟩
  have hvi : (v.convAt (getU q.payload 0 1)).cfg = q.payload := by
    rw [hv, convAt_modConv_same (touch s) _ _ hi]
  have hq := quiets_retier (dutyHeld v (getU q.payload 0 1))
  have hsettings : ((retier (dutyHeld v (getU q.payload 0 1))).convAt (getU q.payload 0 1)).settings =
      (v.convAt (getU q.payload 0 1)).settings := by
    rw [hq.settings, convAt_congr (dutyHeld_conv ..)]
  have hcfg : ((retier (dutyHeld v (getU q.payload 0 1))).convAt (getU q.payload 0 1)).cfg =
      (v.convAt (getU q.payload 0 1)).cfg := congrArg (·.1) hsettings
  refine ⟨commit (retier (dutyHeld v (getU q.payload 0 1))) 0x0701 q peerConfig [], ?_, ?_, fun k hk => ?_⟩
  · change execCnvSetConfig q s = _
    unfold execCnvSetConfig
    rw [command_run _ _ q s h, noteDesc_none _ _ _ rfl, storeCnv_eq, ← hv]
    refine rejection_of_commands (if_pos hl) hc henv (popString_of_lt hs) ?_ ?_ rfl rfl rfl rfl
    · simp [cnvState, hst]
    · simp [firstBad, hf, hk, must, ha]
  · rw [convAt_congr (s := retier (dutyHeld v (getU q.payload 0 1))) (by simp), hcfg, hvi]
  · have hsw : fSw (commit (retier (dutyHeld v (getU q.payload 0 1))) 0x0701 q peerConfig []) (getU q.payload 0 1) =
        fSw v (getU q.payload 0 1) :=
      fSw_congr ((congrArg Conv.settings (convAt_congr (by simp) _)).trans hsettings)
    rw [hsw, gx2At_congr (s := dutyHeld v (getU q.payload 0 1)) (by simp), dutyHeld_dutyHoldNs v _ hk (by simpa [hv] using hg)]
    rfl

theorem cnvSetSlot_keeps_shift {i : Nat} (hl : q.payload.length = 20) (hidx : getU q.payload 0 1 = i) (hs : i < s.strings)
    (hf : badField slotFields q.payload = none) :
    Does (.cnvSetSlot q) s fun u => Done1 s u q 0x0703 3 [] ∧ SameBut u ((touch s).modConv i fun c =>
      { c with shift := some (getU q.payload 1 1, getU q.payload 2 1, getU q.payload 4 2, instantAt q.payload 8) }) := by
  have ⟨_, _, henv⟩ := h
  subst hidx
  have hack : ackNeeded (storeShift (touch s) q.payload) = ackNeeded s := ackNeeded_congr rfl rfl
  refine ⟨commit (storeShift (touch s) q.payload) 0x0703 q peerConfig [], ?_, commit_done1 hack .., commit_sameBut ..⟩
  change execCnvSetSlot q s = _
  unfold execCnvSetSlot
  rw [command_run _ _ q s h]
  · rfl
  · exact rejection_of_commands (if_pos hl) hc henv (popString_of_lt hs) rfl hf rfl rfl rfl rfl

theorem cnvPhaseDisable_disables {p : Nat} (hl : q.payload.length = 1) (hidx : getU q.payload 0 1 = p) (hn : p < s.phases)
    (hp : p < s.phase.length) (hf : legFitted s p = true) (he : phaseEnabled s p = true)
    (hmany : (s.strAt (p / 4)).state ≠ .regulating ∨ 3 ≤ (enabledPhases s (p / 4)).length) :
    Does (.cnvPhaseDisable q) s fun u => Answered u q 0x0705 stOk 0 [] ∧ (u.phaseAt p).disabled = true ∧
      (u.phaseAt p).gatedOff = true ∧ phaseEnabled u p = false := by
  have ⟨_, _, henv⟩ := h
  subst hidx
  obtain ⟨hdis, hoff⟩ := phaseDisabled_drops (touch s) hp
  have hat : (ok (phaseDisabled (touch s) (getU q.payload 0 1)) 0x0705 q []).phaseAt (getU q.payload 0 1) =
      (phaseDisabled (touch s) (getU q.payload 0 1)).phaseAt (getU q.payload 0 1) := phaseAt_congr (by simp) _
  refine ⟨ok (phaseDisabled (touch s) (getU q.payload 0 1)) 0x0705 q [], ?_, ok_answered .., hat ▸ hdis, hat ▸ hoff,
    phaseEnabled_of_disabled (hat ▸ hdis)⟩
  change execCnvPhaseDisable q s = _
  unfold execCnvPhaseDisable
  rw [command_run _ _ q s h, noteDesc_none _ _ _ rfl]
  · exact congrArg Host.Outcome.next (if_pos he)
  · refine rejection_of_commands (if_pos hl) hc henv ?_ (if_neg ?_) ?_ rfl rfl rfl rfl
    · simp [popPhase, must, hn]
    · rcases hmany with hr | hlen
      · simp [hr]
      · simp [Nat.not_lt.mpr hlen]
    · simp [argPhase, must, hn, hf]

theorem cnvPhaseRestore_tests {p : Nat} (hl : q.payload.length = 1) (hidx : getU q.payload 0 1 = p) (hn : p < s.phases)
    (hf : legFitted s p = true) (hst : (s.strAt (p / 4)).state = .connected) :
    Does (.cnvPhaseRestore q) s fun u => u.suspended (uPhase p) = true ∧
      (∃ e ∈ u.flt.susp, e.unit = uPhase p ∧ e.restoring = true) ∧
      (∃ e ∈ u.hpr.exec, e.req = q ∧ e.opcode = 0x0706) ∧ u.str = s.str := by
  have ⟨_, _, henv⟩ := h
  subst hidx
  obtain ⟨v, hv⟩ : ∃ v, v = (keepExec (touch s) 0x0706 q).setFlt fun f =>
      { f with restores := f.restores ++ [{ exec := { req := q, opcode := 0x0706 }, units := [uPhase (getU q.payload 0 1)]
                                            failed := false, string := none }] } := ⟨_, rfl⟩
  obtain ⟨e, hmem, hu, hr⟩ := testUnit_restoring v (uPhase (getU q.payload 0 1))
  refine ⟨testUnit v (uPhase (getU q.payload 0 1)) true, ?_, suspended_of_mem hmem hu, ⟨e, hmem, hu, hr⟩,
    ⟨{ req := q, opcode := 0x0706 }, ?_, rfl, rfl⟩, by simp [hv]⟩
  · change execCnvPhaseRestore q s = _
    unfold execCnvPhaseRestore
    rw [command_run _ _ q s h, hv]
    · rfl
    · refine rejection_of_commands (if_pos hl) hc henv ?_ ?_ ?_ rfl rfl rfl rfl
      · simp [popPhase, must, hn]
      · simp [cnvState, hst]
      · simp [argPhase, must, hn, hf]
  · simp [hv, keepExec]

end

/-- Settles O23: each clause is the law of its command. -/
theorem converterCommands : Obligations.ConverterCommands := by
  unfold Obligations.ConverterCommands
  exact ⟨fun _ _ _ h hc hl hidx hs hi hst hf hk ha hg => cnvSetConfig_stores h hc hl hidx hs hi hst hf hk ha hg,
    fun _ _ _ h hc hl hidx hs _ hf => cnvSetSlot_keeps_shift h hc hl hidx hs hf,
    fun _ _ _ h hc hl hidx hn hp hf he hmany => cnvPhaseDisable_disables h hc hl hidx hn hp hf he hmany,
    fun _ _ _ h hc hl hidx hn hf hst => cnvPhaseRestore_tests h hc hl hidx hn hf hst⟩

end Sys2Proof.Machine
end

section
/-! SUPPORT. Slots, gain tables and parameter words of the loop engine as its commands leave them, and the statement they settle
(09_loop_engine.md R267 to R270, R274, R277 to R280). -/

namespace Sys2Proof.Machine

set_option Elab.async false

/-! ## The lists of the loop engine -/

theorem loopAt_modLoop_ne (s : State) {n k : Nat} (f : LoopSlot → LoopSlot) (h : k ≠ n) :
    (s.modLoop n f).loopAt k = s.loopAt k := getD_modify_ne _ _ _ h

theorem modLoop_length (s : State) (n : Nat) (f : LoopSlot → LoopSlot) :
    (s.modLoop n f).le.slot.length = s.le.slot.length := List.length_modify ..

theorem probeAt_congr {s u : State} (h : u.le.probe = s.le.probe) (p : Nat) : u.probeAt p = s.probeAt p :=
  congrArg (·.getD p {}) h

/-- The tiers judged after the update of a slot touch no slot. -/
theorem retier_modLoop_loopAt (s : State) (n : Nat) (f : LoopSlot → LoopSlot) (h : n < s.le.slot.length) :
    (retier (s.modLoop n f)).loopAt n = f (s.loopAt n) ∧ ∀ k, k ≠ n → (retier (s.modLoop n f)).loopAt k = s.loopAt k := by
  have hslots (k : Nat) : (retier (s.modLoop n f)).loopAt k = (s.modLoop n f).loopAt k := loopAt_congr (by simp) k
  exact ⟨by rw [hslots, loopAt_modLoop_same _ _ _ h], fun k hk => by rw [hslots, loopAt_modLoop_ne _ _ hk]⟩

/-- A descriptor loaded empties the history of its slot and moves no other slot (R267). -/
theorem storeDesc_loopAt (s : State) (p : Bytes) (h : getU p 4 1 < s.le.slot.length) :
    (storeDesc s p).loopAt (getU p 4 1) = { clearHistory (s.loopAt (getU p 4 1)) with desc := p } ∧
      ∀ k, k ≠ getU p 4 1 → (storeDesc s p).loopAt k = s.loopAt k := retier_modLoop_loopAt s _ _ h

theorem emptySlot_loopAt (s : State) (p : Bytes) (h : getU p 0 1 < s.le.slot.length) :
    (emptySlot s p).loopAt (getU p 0 1) = { clearHistory (s.loopAt (getU p 0 1)) with desc := [] } ∧
      ∀ k, k ≠ getU p 0 1 → (emptySlot s p).loopAt k = s.loopAt k := retier_modLoop_loopAt s _ _ h

/-- A slot that LEP_SWAP names takes the swap instant, and nothing else of it changes (R269). -/
theorem storeSwap_loopAt (s : State) (p : Bytes) {n : Nat} (hn : n ∈ maskSlots p 16) (h : n < s.le.slot.length) :
    (storeSwap s p).loopAt n = { s.loopAt n with swapAt := some (instantAt p 0) } := by
  have hnodup : (maskSlots p 16).Nodup := List.nodup_range.filter _
  refine foldl_once (p := fun u : State => (u.loopAt n, u.le.slot.length)) (i := n) (x := (s.loopAt n, s.le.slot.length))
    (P := fun v => v.1 = { s.loopAt n with swapAt := some (instantAt p 0) }) (fun u k hk => ?_) (fun u hu => ?_) hnodup hn rfl
  · rw [loopAt_modLoop_ne u _ hk.symm, modLoop_length]
  · obtain ⟨hat, hlen⟩ := Prod.mk.inj hu
    dsimp only
    rw [loopAt_modLoop_same u n _ (hlen ▸ h), hat]

/-- Writing `n` words in a row from `b` on leaves in each of them the word written there. -/
theorem getD_foldl_modify {α : Type} (f : Nat → α) (b n : Nat) (l : List α) (d : α) {j : Nat} (hj : j < n)
    (h : b + j < l.length) : ((List.range n).foldl (fun r k => r.modify (b + k) fun _ => f k) l).getD (b + j) d = f j := by
  refine foldl_once (p := fun r : List α => (r.getD (b + j) d, r.length)) (i := j) (x := (l.getD (b + j) d, l.length))
    (P := fun v => v.1 = f j) (fun r k hk => ?_) (fun r hr => ?_) List.nodup_range (List.mem_range.mpr hj) rfl
  · rw [getD_modify_ne r _ d (by omega), List.length_modify]
  · obtain ⟨-, hlen⟩ := Prod.mk.inj hr
    exact getD_modify_same r (b + j) _ d (hlen ▸ h)

theorem storeParam_param (s : State) (p : Bytes) {j : Nat} (hj : j < getU p 1 1) (h : getU p 0 1 + j < s.le.param.length) :
    (storeParam s p).le.param.getD (getU p 0 1 + j) 0 = getS p (4 + 4 * j) 4 :=
  getD_foldl_modify (fun k => getS p (4 + 4 * k) 4) _ _ _ 0 hj h

theorem storeLut_lut (s : State) (p : Bytes) (h : getU p 0 1 < s.le.lut.length) :
    (storeLut s p).le.lut.getD (getU p 0 1) [] = p.drop 4 := getD_modify_same _ _ _ _ h

theorem onProbes_probeAt (s : State) {mask p : Nat} (f : Probe → Probe) (hm : mask.testBit p = true)
    (h : p < s.le.probe.length) : (onProbes s mask f).probeAt p = f (s.probeAt p) :=
  (getD_mapIdx s.le.probe (fun k x => if mask.testBit k then f x else x) {} {} h).trans (if_pos hm)

/-! ## The commands that return one object -/

theorem fitTo_length (n : Nat) (b : Bytes) : (fitTo n b).length = n := by
  rw [fitTo, List.length_take, List.length_append, List.length_replicate]
  omega

/-- A get command of one index byte answers what the object is before it, in the slot. -/
theorem getByte_answers {op n k : Nat} {resp : State → Nat → Bytes} {s : State} {q : Req} (h : Taken s q) (hr : AnyRole s)
    (hl : q.payload.length = 1) (hidx : getU q.payload 0 1 = k) (hk : k < n) (ht : resp (touch s) k = resp s k)
    (hlen : (resp s k).length ≤ 240) : ∃ u, getByte op n resp q s = .next u ∧ Answered u q op stOk 0 (resp s k) ∧
      HostOnly s u ∧ SlotOnly s q u := by
  have ⟨_, _, henv⟩ := h
  refine ⟨ok (touch s) op q (resp s k), ?_, ok_answered .., finish1_hostOnly .., finish1_slotOnly (touch s) op q stOk 0 _ hlen⟩
  rw [← ht, ← hidx]
  exact command_run _ _ q s h (rejection_of_argument (if_pos hl) hr henv (by simp [hidx, must, hk]) rfl rfl rfl rfl rfl rfl)

section
variable {s : State} {q : Req} {n : Nat} (h : Taken s q) (hr : AnyRole s) (hl : q.payload.length = 1)
  (hidx : getU q.payload 0 1 = n)
include h hr hl hidx

theorem lepGetDesc_answers (hn : n < 128) : Does (.lepGetDesc q) s fun u =>
    Answered u q 0x0803 stOk 0 (fitTo 64 (s.loopAt n).desc) ∧ HostOnly s u ∧ SlotOnly s q u :=
  getByte_answers (resp := fun s n => fitTo 64 (s.loopAt n).desc) h hr hl hidx hn rfl (by simp [fitTo_length])

theorem lepGetCoef_answers (hn : n < 128) : Does (.lepGetCoef q) s fun u =>
    Answered u q 0x0805 stOk 0 (fitTo 48 (s.loopAt n).bankA.block ++ fitTo 48 (s.loopAt n).bankB.block ++
      leB (s.loopAt n).activeB) ∧ HostOnly s u ∧ SlotOnly s q u :=
  getByte_answers (resp := fun s n => fitTo 48 (s.loopAt n).bankA.block ++ fitTo 48 (s.loopAt n).bankB.block ++
    leB (s.loopAt n).activeB) h hr hl hidx hn rfl (by simp [fitTo_length, leB])

theorem lepGetLut_answers (hn : n < 64) : Does (.lepGetLut q) s fun u =>
    Answered u q 0x0808 stOk 0 (fitTo 144 (s.le.lut.getD n [])) ∧ HostOnly s u ∧ SlotOnly s q u :=
  getByte_answers (resp := fun s k => fitTo 144 (s.le.lut.getD k [])) h hr hl hidx hn rfl (by simp [fitTo_length])

end

/-! ## The commands that load -/

section
variable {s : State} {q : Req} {n : Nat} (h : Taken s q) (hc : Commands s)
include h hc

theorem lepLoadDesc_loads (hl : q.payload.length = 64) (hidx : getU q.payload 4 1 = n) (hpop : slotPop s n 4 = none)
    (hst : slotConflict s n = none) (ha : descBad s q.payload = none) (hn : n < s.le.slot.length) :
    Does (.lepLoadDesc q) s fun u => (u.loopAt n).desc = q.payload ∧ (u.loopAt n).out = 0 ∧ (u.loopAt n).integ = 0 ∧
      (u.loopAt n).e1 = 0 ∧ (u.loopAt n).y1 = 0 ∧ (u.loopAt n).bankA = (s.loopAt n).bankA ∧
      (u.loopAt n).bankB = (s.loopAt n).bankB ∧ ∀ k, k ≠ n → u.loopAt k = s.loopAt k := by
  have ⟨_, _, henv⟩ := h
  subst hidx
  have hslots (k : Nat) : (commit (storeDesc (touch s) q.payload) 0x0801 q peerConfig []).loopAt k =
      (storeDesc (touch s) q.payload).loopAt k := loopAt_congr (by simp) k
  obtain ⟨hat, hothers⟩ := storeDesc_loopAt (touch s) q.payload hn
  refine ⟨commit (storeDesc (touch s) q.payload) 0x0801 q peerConfig [], ?_, ?_⟩
  · change execLepLoadDesc q s = _
    refine command_run _ _ q s h ?_
    exact rejection_of_commands (if_pos hl) hc henv hpop hst ha rfl rfl rfl rfl
  · dsimp only
    rw [hslots, hat]
    exact ⟨rfl, rfl, rfl, rfl, rfl, rfl, rfl, fun k hk => (hslots k).trans (hothers k hk)⟩

theorem lepClearSlot_empties (hl : q.payload.length = 1) (hidx : getU q.payload 0 1 = n) (hpop : slotPop s n 0 = none)
    (hst : slotConflict s n = none) (hn : n < 128) (hlen : n < s.le.slot.length) : Does (.lepClearSlot q) s fun u =>
      (u.loopAt n).desc = [] ∧ (u.loopAt n).out = 0 ∧ ∀ k, k ≠ n → u.loopAt k = s.loopAt k := by
  have ⟨_, _, henv⟩ := h
  subst hidx
  have hslots (k : Nat) : (commit (emptySlot (touch s) q.payload) 0x0802 q peerConfig []).loopAt k =
      (emptySlot (touch s) q.payload).loopAt k := loopAt_congr (by simp) k
  obtain ⟨hat, hothers⟩ := emptySlot_loopAt (touch s) q.payload hlen
  refine ⟨commit (emptySlot (touch s) q.payload) 0x0802 q peerConfig [], ?_, ?_⟩
  · change execLepClearSlot q s = _
    refine command_run _ _ q s h ?_
    exact rejection_of_commands (if_pos hl) hc henv hpop hst (by simp [must, hn]) rfl rfl rfl rfl
  · dsimp only
    rw [hslots, hat]
    exact ⟨rfl, rfl, fun k hk => (hslots k).trans (hothers k hk)⟩

/-- The block of coefficients enters the bank that is not active (R268). -/
theorem lepSetCoef_fills (hl : q.payload.length = 52) (hidx : getU q.payload 0 1 = n) (hswap : (s.loopAt n).swapAt = none)
    (ha : coefBad s q.payload = none) : Does (.lepSetCoef q) s fun u => Done1 s u q 0x0804 3 [] ∧
      SameBut u ((touch s).modLoop n fun x => if x.activeB then { x with bankA := ⟨q.payload.drop 4, true, true⟩ }
        else { x with bankB := ⟨q.payload.drop 4, true, true⟩ }) := by
  have ⟨_, _, henv⟩ := h
  subst hidx
  have hack : ackNeeded (storeCoef (touch s) q.payload) = ackNeeded s := ackNeeded_congr rfl rfl
  refine ⟨commit (storeCoef (touch s) q.payload) 0x0804 q peerConfig [], ?_, commit_done1 hack .., commit_sameBut ..⟩
  change execLepSetCoef q s = _
  refine command_run _ _ q s h ?_
  exact rejection_of_commands (if_pos hl) hc henv rfl (if_neg (by simp [hswap])) ha rfl rfl rfl rfl

theorem lepSwap_schedules (hl : q.payload.length = 32) (hbanks : ∀ k ∈ maskSlots q.payload 16,
      (s.loopAt k).inactive.valid = true ∧ (s.loopAt k).inactive.fresh = true) (hn : n ∈ maskSlots q.payload 16)
    (hlead : s.tsu.now + 20 * nsMs ≤ instantAt q.payload 0) (hns : getU q.payload 8 4 < nsS)
    (hz : getU q.payload 12 4 = 0) (hlen : n < s.le.slot.length) : Does (.lepSwap q) s fun u => Done1 s u q 0x0806 3 [] ∧
      (u.loopAt n).swapAt = some (instantAt q.payload 0) ∧ (u.loopAt n).activeB = (s.loopAt n).activeB ∧
      u.str = s.str := by
  have ⟨_, _, henv⟩ := h
  have hready : ((maskSlots q.payload 16).find? fun k =>
      !((s.loopAt k).inactive.valid && (s.loopAt k).inactive.fresh)) = none :=
    List.find?_eq_none.mpr fun k hk => by simp [hbanks k hk]
  have hinstant : instantAt q.payload 0 ≠ 0 := by
    have : 0 < nsMs := by decide
    omega
  have hack : ackNeeded (storeSwap (touch s) q.payload) = ackNeeded s := ackNeeded_congr (by simp) (by simp [touch])
  have hat : (commit (storeSwap (touch s) q.payload) 0x0806 q peerConfig []).loopAt n =
      { s.loopAt n with swapAt := some (instantAt q.payload 0) } :=
    (loopAt_congr (by simp) n).trans (storeSwap_loopAt (touch s) q.payload hn hlen)
  refine ⟨commit (storeSwap (touch s) q.payload) 0x0806 q peerConfig [], ?_, commit_done1 hack .., ?_, ?_, by simp [touch]⟩
  · change execLepSwap q s = _
    refine command_run _ _ q s h ?_
    refine rejection_of_commands (if_pos hl) hc henv rfl ?_ ?_ rfl rfl rfl rfl
    · dsimp only
      rw [hready]
      exact if_neg fun hzero => hinstant hzero.1
    · simp [must, firstBad, zeroAt, hlead, hns, hz]
  · rw [hat]
  · rw [hat]

theorem lepLoadLut_loads (hl : q.payload.length = 148) (hidx : getU q.payload 0 1 = n) (huse : lutInUse s n = false)
    (ha : lutBad q.payload = none) (hlen : n < s.le.lut.length) : Does (.lepLoadLut q) s fun u => Done1 s u q 0x0807 3 [] ∧
      u.le.lut.getD n [] = q.payload.drop 4 ∧ u.le.slot = s.le.slot ∧ u.str = s.str := by
  have ⟨_, _, henv⟩ := h
  subst hidx
  have hack : ackNeeded (storeLut (touch s) q.payload) = ackNeeded s := ackNeeded_congr rfl rfl
  refine ⟨commit (storeLut (touch s) q.payload) 0x0807 q peerConfig [], ?_, commit_done1 hack .., ?_, ?_, by simp [touch]⟩
  · change execLepLoadLut q s = _
    refine command_run _ _ q s h ?_
    exact rejection_of_commands (if_pos hl) hc henv rfl (if_neg (by simp [huse])) ha rfl rfl rfl rfl
  · simpa using storeLut_lut (touch s) q.payload hlen
  · simp [storeLut, touch]

theorem lepSetParam_stores {k : Nat} (hidx : getU q.payload 0 1 = k) (hcount : getU q.payload 1 1 = n)
    (hl : q.payload.length = 4 + 4 * n) (hn : n ≤ 59) (hend : k + n ≤ 64) (hk : k < 64) (hz : getU q.payload 2 2 = 0)
    (hlen : s.le.param.length = 64) : Does (.lepSetParam q) s fun u => Done1 s u q 0x0809 3 [] ∧
      (∀ j, j < n → u.le.param.getD (k + j) 0 = getS q.payload (4 + 4 * j) 4) ∧ u.le.slot = s.le.slot ∧ u.str = s.str := by
  have ⟨_, _, henv⟩ := h
  subst hidx hcount
  have hack : ackNeeded (storeParam (touch s) q.payload) = ackNeeded s := ackNeeded_congr rfl rfl
  refine ⟨commit (storeParam (touch s) q.payload) 0x0809 q peerConfig [], ?_, commit_done1 hack .., fun j hj => ?_, ?_,
    by simp [touch]⟩
  · change execLepSetParam q s = _
    refine command_run _ _ q s h ?_
    refine rejection_of_commands (if_pos ⟨hl, by omega⟩) hc henv rfl rfl ?_ rfl rfl rfl rfl
    simp [must, firstBad, zeroAt, hk, hend, hz]
  · have hword : getU q.payload 0 1 + j < (touch s).le.param.length := by
      change _ < s.le.param.length
      omega
    simpa using storeParam_param (touch s) q.payload hj hword
  · simp [storeParam, touch]

end

/-! ## The probes -/

/-- What TRC_ARM and TRC_STOP answer: the operation on a probe that the mask names. -/
theorem onProbes_answers (op : Nat) (f : Probe → Probe) {s : State} {q : Req} {p : Nat}
    (hm : (getU q.payload 0 2).testBit p = true) (hp : p < s.le.probe.length) :
    let u := ok (onProbes (touch s) (getU q.payload 0 2) f) op q []
    Answered u q op stOk 0 [] ∧ u.probeAt p = f (s.probeAt p) ∧ u.le.slot = s.le.slot ∧ u.str = s.str := by
  refine ⟨ok_answered .., ?_, by simp [onProbes, touch], by simp [touch]⟩
  rw [probeAt_congr (s := onProbes (touch s) (getU q.payload 0 2) f) (by simp)]
  exact onProbes_probeAt (touch s) f hm hp

theorem lt_of_descOk {s : State} {q : Req} {d n : Nat} (h : descOk s q d n = true) : d < 256 := by
  simp only [descOk, Bool.and_eq_true, decide_eq_true_eq] at h
  obtain ⟨⟨⟨⟨hlt, -⟩, -⟩, -⟩, -⟩ := h
  exact hlt

/-- The samples that TRC_READ copies. -/
def traceSamples (k first count : Nat) (s : State) : Bytes :=
  (List.range count).flatMap fun j => traceSample s k (first + j)

/-- They are read from the loop engine alone. -/
theorem traceSamples_congr {s u : State} (h : u.le = s.le) (k first count : Nat) :
    traceSamples k first count u = traceSamples k first count s := by
  simp only [traceSamples, traceSample, State.probeAt, h]

section
variable {s : State} {q : Req} {p : Nat} (h : Taken s q) (hr : AnyRole s)
include h hr

theorem trcSetProbe_stores (hl : q.payload.length = 32) (hidx : getU q.payload 0 1 = p)
    (hf : badField probeFields q.payload = none) (h1 : (s.probeAt p).state ≠ 1) (h2 : (s.probeAt p).state ≠ 2)
    (hp : p < s.le.probe.length) : Does (.trcSetProbe q) s fun u => Answered u q 0x1201 stOk 0 [] ∧
      u.probeAt p = { cfg := q.payload } ∧ (∀ k, k ≠ p → u.probeAt k = s.probeAt k) ∧ u.le.slot = s.le.slot ∧
      u.str = s.str := by
  have ⟨_, _, henv⟩ := h
  subst hidx
  obtain ⟨v, hv⟩ : ∃ v, v = (touch s).setLe fun l =>
      { l with probe := l.probe.modify (getU q.payload 0 1) fun _ => { cfg := q.payload } } := ⟨_, rfl⟩
  have hprobes (k : Nat) : (ok v 0x1201 q []).probeAt k = v.probeAt k := probeAt_congr (by simp) k
  refine ⟨ok v 0x1201 q [], ?_, ok_answered .., ?_, fun k hk => ?_, by simp [hv, touch], by simp [hv, touch]⟩
  · rw [hv]
    change execTrcSetProbe q s = _
    refine command_run _ _ q s h ?_
    exact rejection_of_argument (if_pos hl) hr henv hf rfl rfl rfl (if_neg (by simp [h1, h2])) rfl rfl
  · rw [hprobes, hv]
    exact getD_modify_same _ _ _ _ hp
  · rw [hprobes, hv]
    exact getD_modify_ne _ _ _ hk

theorem trcArm_starts (hl : q.payload.length = 2) (hm : (getU q.payload 0 2).testBit p = true)
    (hp : p < s.le.probe.length) (hcfg : (s.probeAt p).cfg ≠ []) (hmode : (s.probeAt p).mode ≠ 0) :
    Does (.trcArm q) s fun u => Answered u q 0x1202 stOk 0 [] ∧
      u.probeAt p = { cfg := (s.probeAt p).cfg, state := 1 } ∧ u.le.slot = s.le.slot ∧ u.str = s.str := by
  have ⟨_, _, henv⟩ := h
  have harm : armProbe (s.probeAt p) = { cfg := (s.probeAt p).cfg, state := 1 } := if_neg (by simp [hcfg, hmode])
  refine ⟨ok (onProbes (touch s) (getU q.payload 0 2) armProbe) 0x1202 q [], ?_, harm ▸ onProbes_answers _ _ hm hp⟩
  change execTrcArm q s = _
  refine command_run _ _ q s h ?_
  exact rejection_of_argument (if_pos hl) hr henv rfl rfl rfl rfl rfl rfl rfl

theorem trcStop_stops (hl : q.payload.length = 2) (hm : (getU q.payload 0 2).testBit p = true)
    (hp : p < s.le.probe.length) (hrun : (s.probeAt p).state = 1 ∨ (s.probeAt p).state = 2) :
    Does (.trcStop q) s fun u => Answered u q 0x1203 stOk 0 [] ∧ u.probeAt p = { s.probeAt p with state := 4 } ∧
      u.le.slot = s.le.slot ∧ u.str = s.str := by
  have ⟨_, _, henv⟩ := h
  have hstop : stopProbe (s.probeAt p) = { s.probeAt p with state := 4 } := if_pos hrun
  refine ⟨ok (onProbes (touch s) (getU q.payload 0 2) stopProbe) 0x1203 q [], ?_, hstop ▸ onProbes_answers _ _ hm hp⟩
  change execTrcStop q s = _
  refine command_run _ _ q s h ?_
  exact rejection_of_argument (if_pos hl) hr henv rfl rfl rfl rfl rfl rfl rfl

theorem trcRead_copies {k first count : Nat} (hmem : MemOk s) (hq : SlotOk q) (hl : q.payload.length = 12)
    (hidx : getU q.payload 2 1 = k) (hk : k < 16) (hz : getU q.payload 3 1 = 0) (hfirst : getU q.payload 4 4 = first)
    (hcount : getU q.payload 8 4 = count) (hlt : first < 65536) (hend : first + count ≤ 65536)
    (hd : descOk s q (getU q.payload 0 2) (8 * count) = true) : Does (.trcRead q) s fun u =>
      Answered u q 0x1206 stOk 0 (leU 4 (traceSamples k first count s).length) ∧ HostOnly s u ∧
      BufHolds s u (getU q.payload 0 2) (traceSamples k first count s) := by
  have ⟨_, _, henv⟩ := h
  subst hidx hfirst hcount
  have hne : getU q.payload 0 2 ≠ noDesc := descOk_noDesc _ _ _ _ hd
  have hsettled : Settled (traceSamples (getU q.payload 2 1) (getU q.payload 4 4) (getU q.payload 8 4)) :=
    fun _ _ _ => traceSamples_congr rfl _ _ _
  obtain ⟨sp, hrun, hrej⟩ : ∃ sp, execTrcRead q s = command sp (fun u r => respondBuf u 0x1206 r (getU r.payload 0 2)
      (traceSamples (getU q.payload 2 1) (getU q.payload 4 4) (getU q.payload 8 4) u)) q s ∧ rejection sp s q = none := by
    refine ⟨_, rfl, rejection_of_argument (if_pos hl) hr henv ?_ rfl rfl rfl rfl ?_ rfl⟩
    · simp [firstBad, must, zeroAt, hne, hk, hz, hlt, hend]
    · simp [ownerBad, descAt, hne, hd]
  refine ⟨_, hrun.trans (command_run _ _ q s h hrej), ?_⟩
  dsimp only
  rw [← resp_note _ hsettled s q sp]
  exact respondBuf_all _ s 0x1206 q _ _ hmem hq (lt_of_descOk hd)

end

/-- A one-shot probe with its samples after the trigger is COMPLETE (R278). -/
theorem probeComplete_completes {t p : Nat} {s b : State} (hb : s.advance t = b) (hst : (b.probeAt p).state = 2)
    (hmode : (b.probeAt p).mode = 1) (hneed : (b.probeAt p).need ≤ (b.probeAt p).after) (hp : p < b.le.probe.length) :
    Does (.probeComplete t p) s fun u => u.probeAt p = { b.probeAt p with state := 3 } ∧
      (∀ k, k ≠ p → u.probeAt k = b.probeAt k) ∧ u.le.slot = b.le.slot ∧ u.str = b.str := by
  subst hb
  exact ⟨_, congrArg Host.Outcome.next (if_pos ⟨hst, hmode, hneed⟩), getD_modify_same _ _ _ _ hp,
    fun k hk => getD_modify_ne _ _ _ hk, rfl, rfl⟩

/-- Settles O24: each clause is the law of its command, or of its event on the state at the event's instant. -/
theorem loopLoadingAndTrace : Obligations.LoopLoadingAndTrace :=
  ⟨fun _ _ _ h hc hl hidx hpop hst ha hn => lepLoadDesc_loads h hc hl hidx hpop hst ha hn,
    fun _ _ _ h hc hl hidx hpop hst hn hlen => lepClearSlot_empties h hc hl hidx hpop hst hn hlen,
    fun _ _ _ h hr hl hidx hn => lepGetDesc_answers h hr hl hidx hn,
    fun _ _ _ h hc hl hidx hswap ha _ => lepSetCoef_fills h hc hl hidx hswap ha,
    fun _ _ _ h hr hl hidx hn => lepGetCoef_answers h hr hl hidx hn,
    fun _ _ _ h hc hl hbanks hn hlead hns hz hlen => lepSwap_schedules h hc hl hbanks hn hlead hns hz hlen,
    fun _ _ _ h hc hl hidx huse ha hlen => lepLoadLut_loads h hc hl hidx huse ha hlen,
    fun _ _ _ h hr hl hidx hn => lepGetLut_answers h hr hl hidx hn,
    fun _ _ _ _ h hc hidx hcount hl hn hend hk hz hlen => lepSetParam_stores h hc hidx hcount hl hn hend hk hz hlen,
    fun _ _ _ h hr hl hidx hf h1 h2 hp => trcSetProbe_stores h hr hl hidx hf h1 h2 hp,
    fun _ _ _ h hr hl hm hp hcfg hmode => trcArm_starts h hr hl hm hp hcfg hmode,
    fun _ _ _ h hr hl hm hp hrun => trcStop_stops h hr hl hm hp hrun,
    fun _ _ _ _ _ h hr hmem hq hl hidx hk hz hfirst hcount hlt hend hd =>
      trcRead_copies h hr hmem hq hl hidx hk hz hfirst hcount hlt hend hd,
    fun _ _ _ hst hmode hneed hp => probeComplete_completes rfl hst hmode hneed hp⟩

end Sys2Proof.Machine
end

section
/-! SUPPORT. A channel, its state of one string, and the contactors of a string after an update of one of them; what keeps a
channel running and its close permit as they are. -/

namespace Sys2Proof.Machine

set_option Elab.async false

@[simp] theorem chan_modChan_same (s : State) (c : Channel) (f : Chan → Chan) : (s.modChan c f).chan c = f (s.chan c) := by
  cases c <;> rfl

theorem chan_modChan_ne (s : State) {c d : Channel} (f : Chan → Chan) (h : d ≠ c) : (s.modChan c f).chan d = s.chan d :=
  match c, d, h with
  | .sp, .sloe, _ | .sloe, .sp, _ => rfl
  | .sp, .sp, h | .sloe, .sloe, h => absurd rfl h

@[simp] theorem contAt_modChan (s : State) (c : Channel) (f : Chan → Chan) (i : Nat) :
    (s.modChan c f).contAt i = s.contAt i := by
  cases c <;> rfl

@[simp] theorem chan_modCont (s : State) (i : Nat) (f : Cont → Cont) (c : Channel) : (s.modCont i f).chan c = s.chan c := by
  cases c <;> rfl

/-- An update of both channels' states of a string, one after the other. -/
@[simp] theorem chan_modChanStr_both (s : State) (i : Nat) (f : ChanStr → ChanStr) (c : Channel) :
    ((s.modChanStr .sp i f).modChanStr .sloe i f).chan c = (s.chan c).mod i f := by
  cases c <;> rfl

@[simp] theorem chan_modChanStr_same (s : State) (c : Channel) (i : Nat) (f : ChanStr → ChanStr) :
    (s.modChanStr c i f).chan c = (s.chan c).mod i f := chan_modChan_same ..

@[simp] theorem contAt_modChanStr (s : State) (c : Channel) (i : Nat) (f : ChanStr → ChanStr) (k : Nat) :
    (s.modChanStr c i f).contAt k = s.contAt k := contAt_modChan ..

theorem contAt_modCont_ne (s : State) {i k : Nat} (f : Cont → Cont) (h : k ≠ i) : (s.modCont i f).contAt k = s.contAt k :=
  getD_modify_ne _ _ _ h

theorem contAt_modCont_field {γ : Type} (g : Cont → γ) (s : State) (i k : Nat) {f : Cont → Cont} (h : ∀ x, g (f x) = g x) :
    g ((s.modCont i f).contAt k) = g (s.contAt k) := getD_modify_field g _ _ _ _ h

theorem chan_congr {s u : State} (h : u.saf = s.saf) (c : Channel) : u.chan c = s.chan c := by
  cases c <;> simp only [State.chan, h]

theorem contAt_congr {s u : State} (h : u.saf = s.saf) (i : Nat) : u.contAt i = s.contAt i := by
  rw [State.contAt, State.contAt, h]

theorem Chan.at_mod_same (c : Chan) {i : Nat} (f : ChanStr → ChanStr) (h : i < c.str.length) :
    (c.mod i f).at i = f (c.at i) := getD_modify_same _ _ _ _ h

theorem Chan.at_mod_ne (c : Chan) {i k : Nat} (f : ChanStr → ChanStr) (h : k ≠ i) : (c.mod i f).at k = c.at k :=
  getD_modify_ne _ _ _ h

theorem Chan.at_mod_field {γ : Type} (g : ChanStr → γ) (c : Chan) (i k : Nat) {f : ChanStr → ChanStr}
    (h : ∀ x, g (f x) = g x) : g ((c.mod i f).at k) = g (c.at k) := getD_modify_field g _ _ _ _ h

/-- The set of a channel is read from the channel alone. -/
theorem setB_congr {s u : State} {c : Channel} (h : (u.chan c).set = (s.chan c).set) : u.setB c = s.setB c := by
  rw [State.setB, State.setB, h]

/-- Deferred writes aside, the power part and the power of the channel decide whether it runs. -/
theorem chanRuns_congr {s u : State} {c : Channel} (ha : (u.chan c).alive = (s.chan c).alive)
    (hp : u.pwr.core = s.pwr.core) : chanRuns u c = chanRuns s c := by
  have hstate : u.pwr.state = s.pwr.state := field_of_core (·.state) hp
  have hprev : u.pwr.prev = s.pwr.prev := field_of_core (·.prev) hp
  have hclocks : u.pwr.failedClocks = s.pwr.failedClocks := field_of_core (·.failedClocks) hp
  simp only [chanRuns, State.asleep, ha, hstate, hprev, hclocks]

/-- FLOAT and ACTIVE are alike to the channels. -/
theorem chanRuns_exitFloat (s : State) (c : Channel) : chanRuns (exitFloat s) c = chanRuns s c := by
  have halive : ((exitFloat s).chan c).alive = (s.chan c).alive := by rw [chan_congr (s := s) (by simp) c]
  simp only [chanRuns, State.asleep, halive]
  unfold exitFloat
  split
  next h =>
    rw [setPower_pwr, eq_of_beq h]
    rfl
  · rfl

/-- A channel's permit rests on its own state, the insulation results and what keeps it running (10_safety.md R281). -/
theorem permit_congr {s u : State} {c : Channel} (hc : u.chan c = s.chan c) (hh : u.hvi = s.hvi) (ht : u.clk = s.clk)
    (hp : u.pwr = s.pwr) (hf : u.flt = s.flt) (i : Nat) : permit u c i = permit s c i := by
  have hruns : chanRuns u c = chanRuns s c := chanRuns_congr (by rw [hc]) (by rw [hp])
  have hset : u.setB c = s.setB c := setB_congr (by rw [hc])
  have hout : u.unitOut (chanUnit c) = s.unitOut (chanUnit c) := by
    rw [State.unitOut, State.unitOut, retired_congr hf, suspended_congr hf]
  simp only [permit, isoRecent, extForbids, hc, hset, hh, ht, hruns, hout]

end Sys2Proof.Machine
end

section
/-! SUPPORT. What a halt and a trip of one string do to the channels, and what they leave (10_safety.md R281 to R283, R286). -/

namespace Sys2Proof.Machine

set_option Elab.async false

/-- A channel but for what it holds of the strings. -/
def Chan.shared (c : Chan) : Chan := { c with str := [] }

/-- What a CX-4 is commanded and answers. -/
def Cont.answer (c : Cont) : BitVec 4 × BitVec 4 × Nat := (c.energised, c.mirror, c.ackMissing)

/-- A channel's state of a string but for its word. -/
def ChanStr.verdict (x : ChanStr) : ChanStr := { x with coils := 0, granted := false }

/-- A field that erasing a part of an element leaves is the same where the rest is. -/
theorem field_of_rest {α γ : Type} (rest : α → α) (p : α → γ) {x y : α} (h : rest x = rest y)
    (hp : ∀ x, p (rest x) = p x := by exact fun _ => rfl) : p x = p y :=
  (hp x).symm.trans ((congrArg p h).trans (hp y))

/-- From `s` to `u` the channels, contactors and states of no string but `i` have moved; the channels run as they did, hold
what they held beside the strings and every function they had tripped, and the CX-4 is commanded and answers as it did. -/
structure ActsOn (i : Nat) (s u : State) : Prop where
  variant : u.variant = s.variant
  runs : ∀ c, chanRuns u c = chanRuns s c
  shared : ∀ c, (u.chan c).shared = (s.chan c).shared
  length : ∀ c, (u.chan c).str.length = (s.chan c).str.length
  conts : u.saf.cont.length = s.saf.cont.length
  tripped : ∀ c f, f ∈ ((s.chan c).at i).tripped → f ∈ ((u.chan c).at i).tripped
  answer : (u.contAt i).answer = (s.contAt i).answer
  chanAt : ∀ c k, k ≠ i → (u.chan c).at k = (s.chan c).at k
  contAt : ∀ k, k ≠ i → u.contAt k = s.contAt k
  strAt : ∀ k, k ≠ i → u.strAt k = s.strAt k

namespace ActsOn

theorem refl (i : Nat) (s : State) : ActsOn i s s where
  variant := rfl
  runs _ := rfl
  shared _ := rfl
  length _ := rfl
  conts := rfl
  tripped _ _ := id
  answer := rfl
  chanAt _ _ _ := rfl
  contAt _ _ := rfl
  strAt _ _ := rfl

theorem trans {i : Nat} {s u v : State} (h : ActsOn i s u) (k : ActsOn i u v) : ActsOn i s v where
  variant := k.variant.trans h.variant
  runs c := (k.runs c).trans (h.runs c)
  shared c := (k.shared c).trans (h.shared c)
  length c := (k.length c).trans (h.length c)
  conts := k.conts.trans h.conts
  tripped c f := k.tripped c f ∘ h.tripped c f
  answer := k.answer.trans h.answer
  chanAt c j hj := (k.chanAt c j hj).trans (h.chanAt c j hj)
  contAt j hj := (k.contAt j hj).trans (h.contAt j hj)
  strAt j hj := (k.strAt j hj).trans (h.strAt j hj)

/-- An operation on neither channels nor contactors, nor on what lets the channels run. -/
theorem of_runs {i : Nat} {s u : State} (hr : ∀ c, chanRuns u c = chanRuns s c) (hs : ∀ k, k ≠ i → u.strAt k = s.strAt k)
    (hv : u.variant = s.variant := by simp) (hsaf : u.saf = s.saf := by simp) : ActsOn i s u where
  variant := hv
  runs := hr
  shared c := by rw [chan_congr hsaf]
  length c := by rw [chan_congr hsaf]
  conts := by rw [hsaf]
  tripped c f := by rw [chan_congr hsaf]; exact id
  answer := by rw [contAt_congr hsaf]
  chanAt c _ _ := by rw [chan_congr hsaf]
  contAt k _ := contAt_congr hsaf k
  strAt := hs

theorem of_core {i : Nat} {s u : State} (hp : u.pwr.core = s.pwr.core) (hs : ∀ k, k ≠ i → u.strAt k = s.strAt k)
    (hv : u.variant = s.variant := by simp) (hsaf : u.saf = s.saf := by simp) : ActsOn i s u :=
  .of_runs (fun c => chanRuns_congr (by rw [chan_congr hsaf]) hp) hs hv hsaf

/-- An operation on neither channels, contactors, power nor strings. -/
theorem of_eq {i : Nat} {s u : State} (hp : u.pwr = s.pwr := by simp) (hs : u.str = s.str := by simp)
    (hv : u.variant = s.variant := by simp) (hsaf : u.saf = s.saf := by simp) : ActsOn i s u :=
  .of_core (congrArg Power.core hp) (fun k _ => strAt_congr hs k) hv hsaf

theorem modCont {i : Nat} (s : State) {f : Cont → Cont} (h : ∀ x, (f x).answer = x.answer) : ActsOn i s (s.modCont i f) where
  variant := rfl
  runs c := chanRuns_congr (by rw [chan_modCont]) rfl
  shared c := by rw [chan_modCont]
  length c := by rw [chan_modCont]
  conts := List.length_modify ..
  tripped c f := by rw [chan_modCont]; exact id
  answer := contAt_modCont_field Cont.answer s i i h
  chanAt c _ _ := by rw [chan_modCont]
  contAt _ hk := contAt_modCont_ne s f hk
  strAt _ _ := rfl

/-- An update of one channel's state of the string. -/
theorem modChanStr {i : Nat} (s : State) (c : Channel) {f : ChanStr → ChanStr}
    (h : ∀ x g, g ∈ x.tripped → g ∈ (f x).tripped) : ActsOn i s (s.modChanStr c i f) := by
  have hchan (d : Channel) : (s.modChanStr c i f).chan d = s.chan d ∨ (s.modChanStr c i f).chan d = (s.chan d).mod i f := by
    by_cases hd : d = c
    · exact .inr (hd ▸ chan_modChanStr_same ..)
    · exact .inl (chan_modChan_ne s _ hd)
  have hfield {γ : Type} (p : Chan → γ) (hp : ∀ ch l, p { ch with str := l } = p ch) (d : Channel) :
      p ((s.modChanStr c i f).chan d) = p (s.chan d) := by
    rcases hchan d with hd | hd
    · rw [hd]
    · rw [hd]; exact hp _ _
  refine ⟨by simp, fun d => chanRuns_congr (hfield (·.alive) (fun _ _ => rfl) d) (by simp),
    hfield Chan.shared fun _ _ => rfl, fun d => ?_, by cases c <;> rfl, fun d g hg => ?_, by simp, fun d k hk => ?_, by simp,
    fun k _ => strAt_congr (by simp) k⟩
  · rcases hchan d with hd | hd <;> simp [hd, Chan.mod]
  · rcases hchan d with hd | hd
    · rwa [hd]
    · rw [hd]
      by_cases hi : i < (s.chan d).str.length
      · rw [Chan.at_mod_same _ f hi]
        exact h _ g hg
      · rw [Chan.at, getD_of_length_le _ (Nat.le_of_not_lt hi)] at hg
        cases hg
  · rcases hchan d with hd | hd
    · rw [hd]
    · rw [hd, Chan.at_mod_ne _ f hk]

theorem foldl {β : Type} {i : Nat} {f : State → β → State} (h : ∀ s b, ActsOn i s (f s b)) (l : List β) (s : State) :
    ActsOn i s (l.foldl f s) :=
  List.foldlRecOn (motive := ActsOn i s) l f (.refl i s) fun u hu b _ => hu.trans (h u b)

end ActsOn

/-! ## A halt -/

/-- A channel's word of a string that opens: coil 1 alone stays as it is (10_safety.md R289). -/
def ChanStr.opened (x : ChanStr) : ChanStr := { x with coils := x.coils &&& 2, granted := false }

theorem openCoils_chan (s : State) (i : Nat) (c : Channel) : (openCoils s i).chan c = (s.chan c).mod i ChanStr.opened := by
  cases c <;> rfl

theorem actsOn_openCoils (s : State) (i : Nat) : ActsOn i s (openCoils s i) :=
  (ActsOn.modCont s (f := fun c => { c with request := none, opening := _ }) fun _ => rfl).trans <|
    (ActsOn.modChanStr _ .sp (f := ChanStr.opened) fun _ _ => id).trans <|
      ActsOn.modChanStr _ .sloe (f := ChanStr.opened) fun _ _ => id

theorem haltStr_eq {s : State} {i : Nat} (cause : Nat) (h : strConnected s i = true) : haltStr s i cause =
    stopBalancing (abortTrans (setStr (openCoils (endPrecharge (gateOffString s i) i) i) i .halted cause) i) i := by
  unfold strConnected at h
  unfold haltStr
  split at h
  · rfl
  · rfl
  · rfl
  · cases h

theorem haltStr_of_not_connected {s : State} {i : Nat} (cause : Nat) (h : strConnected s i = false) :
    haltStr s i cause = s := by
  unfold strConnected at h
  unfold haltStr
  split at h
  · cases h
  · cases h
  · cases h
  · rfl

/-- A halt takes a string with a path closed or closing to HALTED. -/
theorem haltStr_halted {s : State} {i : Nat} (cause : Nat) (h : strConnected s i = true) (hi : i < s.str.length) :
    ((haltStr s i cause).strAt i).state = .halted := by
  rw [haltStr_eq cause h, strAt_congr (stopBalancing_str ..), abortTrans, endTrans_state,
    setStr_state _ _ _ _ (by simpa using hi)]

theorem haltStr_strAt_ne (s : State) {i k : Nat} (cause : Nat) (h : k ≠ i) : (haltStr s i cause).strAt k = s.strAt k := by
  by_cases hc : strConnected s i = true
  · rw [haltStr_eq cause hc, strAt_congr (stopBalancing_str ..), abortTrans_strAt_ne _ h, setStr_strAt_ne _ _ _ h]
    exact strAt_congr (by simp) k
  · rw [haltStr_of_not_connected cause (by simpa using hc)]

theorem endPrecharge_saf (s : State) (i : Nat) : (endPrecharge s i).saf = s.saf := by simp

/-- In each channel a halt opens the string's word. -/
theorem haltStr_chan {s : State} {i : Nat} (cause : Nat) (h : strConnected s i = true) (c : Channel) :
    (haltStr s i cause).chan c = (s.chan c).mod i ChanStr.opened := by
  have hopen : (haltStr s i cause).saf = (openCoils (endPrecharge (gateOffString s i) i) i).saf := by
    rw [haltStr_eq cause h]
    simp
  have hbefore : (endPrecharge (gateOffString s i) i).chan c = s.chan c := chan_congr (endPrecharge_saf ..) c
  rw [chan_congr hopen, openCoils_chan, hbefore]

theorem actsOn_haltStr (s : State) (i cause : Nat) : ActsOn i s (haltStr s i cause) := by
  by_cases hc : strConnected s i = true
  · have hbefore : ActsOn i s (endPrecharge (gateOffString s i) i) :=
      .of_core ((degrades_gateOffString s i).trans (degrades_endPrecharge ..)).power fun k _ => strAt_congr (by simp) k
    rw [haltStr_eq cause hc]
    refine hbefore.trans ((actsOn_openCoils _ i).trans ?_)
    refine .of_core ?_ fun k hk => ?_
    · exact ((degrades_setStr _ _ _ _).trans ((degrades_abortTrans ..).trans (degrades_stopBalancing ..))).power
    · rw [strAt_congr (stopBalancing_str ..), abortTrans_strAt_ne _ hk, setStr_strAt_ne _ _ _ hk]
  · rw [haltStr_of_not_connected cause (by simpa using hc)]
    exact .refl i s

theorem actsOn_exitFloat (s : State) (i : Nat) : ActsOn i s (exitFloat s) :=
  .of_runs (chanRuns_exitFloat s) fun k _ => strAt_congr (by simp) k

theorem actsOn_latchString (s : State) (i cause : Nat) : ActsOn i s (latchString s i cause) := by
  unfold latchString
  split
  · exact (actsOn_exitFloat s i).trans (actsOn_haltStr ..)
  · exact .refl i s

end Sys2Proof.Machine
end

section
/-! SUPPORT. Trips, and folds over the strings that act on one string at a time (10_safety.md R281, R282, R286). -/

namespace Sys2Proof.Machine

set_option Elab.async false

/-! ## The latch of a string -/

theorem Commands.latchString_eq {s : State} (h : Commands s) (i cause : Nat) :
    latchString s i cause = haltStr (exitFloat s) i cause := if_pos (commands_of_role h)

theorem exitFloat_saf (s : State) : (exitFloat s).saf = s.saf := by simp

theorem exitFloat_strAt (s : State) (i : Nat) : (exitFloat s).strAt i = s.strAt i := strAt_congr (by simp) i

theorem strConnected_congr {s u : State} {i : Nat} (h : u.strAt i = s.strAt i) : strConnected u i = strConnected s i := by
  rw [strConnected, strConnected, h]

/-- On a unit that commands strings a latched trip halts a string with a path closed. -/
theorem latchString_halted {s : State} {i : Nat} (cause : Nat) (h : Commands s) (hc : strConnected s i = true)
    (hi : i < s.str.length) : ((latchString s i cause).strAt i).state = .halted := by
  rw [Commands.latchString_eq h]
  exact haltStr_halted cause ((strConnected_congr (exitFloat_strAt s i)).trans hc) (by simpa using hi)

theorem latchString_chan {s : State} {i : Nat} (cause : Nat) (h : Commands s) (hc : strConnected s i = true) (c : Channel) :
    (latchString s i cause).chan c = (s.chan c).mod i ChanStr.opened := by
  rw [Commands.latchString_eq h, haltStr_chan cause ((strConnected_congr (exitFloat_strAt s i)).trans hc),
    chan_congr (exitFloat_saf s)]

/-- A latched trip changes nothing of a string in a channel but its word. -/
theorem latchString_verdict (s : State) (i cause : Nat) (c : Channel) (k : Nat) :
    (((latchString s i cause).chan c).at k).verdict = ((s.chan c).at k).verdict := by
  unfold latchString
  split
  · by_cases hc : strConnected (exitFloat s) i = true
    · rw [haltStr_chan cause hc, chan_congr (exitFloat_saf s)]
      exact Chan.at_mod_field ChanStr.verdict _ i k fun _ => rfl
    · rw [haltStr_of_not_connected cause (by simpa using hc), chan_congr (exitFloat_saf s)]
  · rfl

/-- Contactors but for what a channel asks of them. -/
def Cont.unasked (c : Cont) : Cont := { c with request := none, opening := none }

theorem openCoils_unasked (s : State) (i k : Nat) : ((openCoils s i).contAt k).unasked = (s.contAt k).unasked :=
  contAt_modCont_field Cont.unasked s i k fun _ => rfl

theorem latchString_unasked (s : State) (i cause k : Nat) :
    ((latchString s i cause).contAt k).unasked = (s.contAt k).unasked := by
  have hfloat : (exitFloat s).contAt k = s.contAt k := contAt_congr (exitFloat_saf s) k
  unfold latchString
  split
  · by_cases hc : strConnected (exitFloat s) i = true
    · have hopen : (haltStr (exitFloat s) i cause).saf =
          (openCoils (endPrecharge (gateOffString (exitFloat s) i) i) i).saf := by
        rw [haltStr_eq cause hc]
        simp
      rw [contAt_congr hopen, openCoils_unasked, contAt_congr (s := exitFloat s) (by simp), hfloat]
    · rw [haltStr_of_not_connected cause (by simpa using hc), hfloat]
  · rfl

/-! ## A trip -/

/-- A channel's state of a string after a trip of function `f`. -/
def ChanStr.trip (f : SafetyFn) (x : ChanStr) : ChanStr :=
  { x with latch := true, gateOff := true, tripped := if x.tripped.contains f then x.tripped else x.tripped ++ [f]
           commClear := if f == .comm then false else x.commClear }

theorem ChanStr.mem_trip (f : SafetyFn) (x : ChanStr) : f ∈ (x.trip f).tripped := by
  by_cases h : f ∈ x.tripped <;> simp [ChanStr.trip, h]

theorem ChanStr.tripped_trip (f : SafetyFn) (x : ChanStr) {g : SafetyFn} (h : g ∈ x.tripped) : g ∈ (x.trip f).tripped := by
  by_cases hf : f ∈ x.tripped <;> simp [ChanStr.trip, hf, h]

/-- The trip is latched and recorded, before it reaches the string's stages. -/
def tripLatched (s : State) (c : Channel) (i : Nat) (f : SafetyFn) : State :=
  record (s.modChanStr c i (ChanStr.trip f)) 0x30 (chanSrc c) lvWarn i (fnBit f) (chanBit c)

theorem tripLatched_chan (s : State) (c : Channel) (i : Nat) (f : SafetyFn) :
    (tripLatched s c i f).chan c = (s.chan c).mod i (ChanStr.trip f) := by
  rw [chan_congr (s := s.modChanStr c i (ChanStr.trip f)) (by simp [tripLatched]), chan_modChanStr_same]

theorem tripLatched_coils (s : State) (c : Channel) (i : Nat) (f : SafetyFn) (d : Channel) :
    (((tripLatched s c i f).chan d).at i).coils = ((s.chan d).at i).coils := by
  by_cases hd : d = c
  · rw [hd, tripLatched_chan]
    exact Chan.at_mod_field (·.coils) _ i i fun _ => rfl
  · rw [chan_congr (s := s.modChanStr c i (ChanStr.trip f)) (by simp [tripLatched]), State.modChanStr, chan_modChan_ne s _ hd]

theorem actsOn_tripLatched (s : State) (c : Channel) (i : Nat) (f : SafetyFn) : ActsOn i s (tripLatched s c i f) :=
  (ActsOn.modChanStr s c fun x _ => ChanStr.tripped_trip f x).trans <|
    .of_eq (by simp [tripLatched]) (by simp [tripLatched]) (by simp [tripLatched]) (by simp [tripLatched])

/-- A trip changes nothing: the channel does not evaluate the function or has latched it already. -/
def tripIdle (s : State) (c : Channel) (i : Nat) (f : SafetyFn) : Bool :=
  !evaluates c f || !chanRuns s c || (s.chan c).set.isNone || ((s.chan c).at i).latch && ((s.chan c).at i).tripped.contains f

theorem tripIdle_of_unlatched {s : State} {c : Channel} {i : Nat} {f : SafetyFn} (he : evaluates c f = true)
    (hr : chanRuns s c = true) (hset : (s.chan c).set.isSome = true) (hl : ((s.chan c).at i).latch = false) :
    tripIdle s c i f = false := by
  simp [tripIdle, he, hr, hset, hl]

theorem trip_of_idle {s : State} {c : Channel} {i : Nat} {f : SafetyFn} (h : tripIdle s c i f = true) :
    trip s c i f = s := if_pos h

theorem trip_of_due {s : State} {c : Channel} {i : Nat} {f : SafetyFn} (h : tripIdle s c i f = false) :
    trip s c i f = latchString (tripLatched s c i f) i 292 := if_neg (ne_true_of_eq_false h)

theorem actsOn_trip (s : State) (c : Channel) (i : Nat) (f : SafetyFn) : ActsOn i s (trip s c i f) := by
  cases h : tripIdle s c i f with
  | true =>
    rw [trip_of_idle h]
    exact .refl i s
  | false =>
    rw [trip_of_due h]
    exact (actsOn_tripLatched ..).trans (actsOn_latchString ..)

/-- What the channel that trips holds of the string, beside its word. -/
theorem trip_verdict {s : State} {c : Channel} {i : Nat} {f : SafetyFn} (h : tripIdle s c i f = false)
    (hi : i < (s.chan c).str.length) : (((trip s c i f).chan c).at i).verdict = (((s.chan c).at i).trip f).verdict := by
  rw [trip_of_due h, latchString_verdict, tripLatched_chan, Chan.at_mod_same _ _ hi]

/-- A channel that evaluates a function holds it tripped after the trip, whether it had tripped before or not. -/
theorem trip_tripped {s : State} {c : Channel} {i : Nat} {f : SafetyFn} (he : evaluates c f = true)
    (hr : chanRuns s c = true) (hs : (s.chan c).set.isSome = true) (hi : i < (s.chan c).str.length) :
    f ∈ (((trip s c i f).chan c).at i).tripped := by
  cases h : tripIdle s c i f with
  | false =>
    rw [field_of_rest ChanStr.verdict (·.tripped) (trip_verdict h hi)]
    exact ChanStr.mem_trip f _
  | true =>
    have hlatched : ((s.chan c).at i).latch = true ∧ f ∈ ((s.chan c).at i).tripped := by
      simpa [tripIdle, he, hr, Option.isSome_iff_ne_none.mp hs] using h
    rw [trip_of_idle h]
    exact hlatched.2

/-! ## Folds over the strings -/

/-- A fold without repetition that passes `i`: the other steps keep `Q` before it and `P` after it. -/
theorem foldl_passes {α β : Type} {f : α → β → α} {Q P : α → Prop} {i : β} (hQ : ∀ a b, b ≠ i → Q a → Q (f a b))
    (hi : ∀ a, Q a → P (f a i)) (hP : ∀ a b, b ≠ i → P a → P (f a b)) {l : List β} (hl : l.Nodup) (hmem : i ∈ l) {a : α}
    (ha : Q a) : P (l.foldl f a) := by
  obtain ⟨before, after, rfl⟩ := List.append_of_mem hmem
  obtain ⟨-, hafter, hdisj⟩ := List.nodup_append.mp hl
  have hbefore : Q (before.foldl f a) := List.foldlRecOn (motive := Q) before f ha fun c hc b hb =>
    hQ c b (hdisj b hb i List.mem_cons_self) hc
  rw [List.foldl_append, List.foldl_cons]
  exact List.foldlRecOn (motive := P) after f (hi _ hbefore) fun c hc b hb =>
    hP c b (fun h => (List.nodup_cons.mp hafter).1 (h ▸ hb)) hc

/-- What an operation on another string leaves: the population, the channels but for their strings, and all of string `i`. -/
structure SpareAt (i : Nat) (s u : State) : Prop where
  variant : u.variant = s.variant
  runs : ∀ c, chanRuns u c = chanRuns s c
  shared : ∀ c, (u.chan c).shared = (s.chan c).shared
  length : ∀ c, (u.chan c).str.length = (s.chan c).str.length
  conts : u.saf.cont.length = s.saf.cont.length
  chanAt : ∀ c, (u.chan c).at i = (s.chan c).at i
  contAt : u.contAt i = s.contAt i
  strAt : u.strAt i = s.strAt i

namespace SpareAt

theorem refl (i : Nat) (s : State) : SpareAt i s s :=
  ⟨rfl, fun _ => rfl, fun _ => rfl, fun _ => rfl, rfl, fun _ => rfl, rfl, rfl⟩

theorem trans {i : Nat} {s u v : State} (h : SpareAt i s u) (k : SpareAt i u v) : SpareAt i s v where
  variant := k.variant.trans h.variant
  runs c := (k.runs c).trans (h.runs c)
  shared c := (k.shared c).trans (h.shared c)
  length c := (k.length c).trans (h.length c)
  conts := k.conts.trans h.conts
  chanAt c := (k.chanAt c).trans (h.chanAt c)
  contAt := k.contAt.trans h.contAt
  strAt := k.strAt.trans h.strAt

theorem modCont {i k : Nat} (s : State) (f : Cont → Cont) (h : i ≠ k) : SpareAt i s (s.modCont k f) where
  variant := rfl
  runs c := chanRuns_congr (by rw [chan_modCont]) rfl
  shared c := by rw [chan_modCont]
  length c := by rw [chan_modCont]
  conts := List.length_modify ..
  chanAt c := by rw [chan_modCont]
  contAt := contAt_modCont_ne s f h
  strAt := rfl

end SpareAt

theorem ActsOn.spare {i k : Nat} {s u : State} (h : ActsOn k s u) (hk : i ≠ k) : SpareAt i s u :=
  ⟨h.variant, h.runs, h.shared, h.length, h.conts, fun c => h.chanAt c i hk, h.contAt i hk, h.strAt i hk⟩

section
variable {step : State → Nat → State} (h : ∀ s k, ActsOn k s (step s k))
include h

/-- What acts on one string after another leaves the channels beside their strings as they were. -/
theorem foldl_shared (l : List Nat) (s : State) (c : Channel) : ((l.foldl step s).chan c).shared = (s.chan c).shared :=
  foldl_proj (fun s => (s.chan c).shared) step (fun s k => (h s k).shared c) l s

/-- A function that the step at string `i` trips stays tripped. -/
theorem foldl_tripped {l : List Nat} {i : Nat} (hl : l.Nodup) (hi : i ∈ l) {s : State} {c : Channel} {f : SafetyFn}
    (hstep : ∀ a, SpareAt i s a → f ∈ (((step a i).chan c).at i).tripped) :
    f ∈ (((l.foldl step s).chan c).at i).tripped :=
  foldl_passes (Q := SpareAt i s) (P := fun a => f ∈ ((a.chan c).at i).tripped)
    (fun a k hk ha => ha.trans ((h a k).spare hk.symm)) hstep
    (fun a k hk ha => by rwa [(h a k).chanAt c i hk.symm]) hl hi (.refl i s)

end

/-- A channel that can trip string `i` after steps on other strings trips it. -/
theorem SpareAt.trip_tripped {s u : State} {c : Channel} {i : Nat} {f : SafetyFn} (h : SpareAt i s u)
    (he : evaluates c f = true) (hr : chanRuns s c = true) (hs : (s.chan c).set.isSome = true)
    (hi : i < (s.chan c).str.length) : f ∈ (((trip u c i f).chan c).at i).tripped :=
  Machine.trip_tripped he ((h.runs c).trans hr) (by rwa [field_of_rest Chan.shared (·.set) (h.shared c)]) (by rwa [h.length c])

end Sys2Proof.Machine
end

section
/-! SUPPORT. Trips, close requests and opening, as events (10_safety.md R281 to R284, R286, R289, R291). -/

namespace Sys2Proof.Machine

set_option Elab.async false

/-! ## Close requests -/

/-- The word a grant writes: coil 3 only where the channel's set fits it. -/
def ChanStr.closing (coil3 : Bool) (coils : BitVec 4) (x : ChanStr) : ChanStr :=
  { x with coils := if coil3 then coils else coils &&& 7, granted := true }

theorem grantClose_of_permit {s : State} {i : Nat} {c : Channel} (coils : BitVec 4) (h : permit s c i = true) :
    grantClose s i coils c = s.modChanStr c i (ChanStr.closing (coil3In (s.setB c) i) coils) := if_pos h

theorem grantClose_of_not_permit {s : State} {i : Nat} {c : Channel} (coils : BitVec 4) (h : permit s c i = false) :
    grantClose s i coils c = s := if_neg (ne_true_of_eq_false h)

/-- A grant of SP leaves Sloe as it is. -/
theorem grantClose_sloe (s : State) (i : Nat) (coils : BitVec 4) : (grantClose s i coils .sp).chan .sloe = s.chan .sloe := by
  unfold grantClose
  split
  · exact chan_modChan_ne s _ (by decide)
  · rfl

theorem permit_grantClose_sloe (s : State) (i : Nat) (coils : BitVec 4) :
    permit (grantClose s i coils .sp) .sloe i = permit s .sloe i :=
  permit_congr (grantClose_sloe s i coils) (by simp) (by simp) (by simp) (by simp) i

/-- Both channels judge a request to close, SP first. -/
def judgedClose (s : State) (i : Nat) (coils : BitVec 4) : State := grantClose (grantClose s i coils .sp) i coils .sloe

theorem judgedClose_both {s : State} {i : Nat} (coils : BitVec 4) (hsp : permit s .sp i = true)
    (hsloe : permit s .sloe i = true) : judgedClose s i coils =
      (s.modChanStr .sp i (ChanStr.closing (coil3In (s.setB .sp) i) coils)).modChanStr .sloe i
        (ChanStr.closing (coil3In (s.setB .sloe) i) coils) := by
  have hset : (grantClose s i coils .sp).setB .sloe = s.setB .sloe := setB_congr (by rw [grantClose_sloe])
  rw [judgedClose, grantClose_of_permit coils ((permit_grantClose_sloe ..).trans hsloe), hset,
    grantClose_of_permit coils hsp]

theorem judgedClose_sp {s : State} {i : Nat} (coils : BitVec 4) (hsp : permit s .sp i = true)
    (hsloe : permit s .sloe i = false) : judgedClose s i coils =
      s.modChanStr .sp i (ChanStr.closing (coil3In (s.setB .sp) i) coils) := by
  rw [judgedClose, grantClose_of_not_permit coils ((permit_grantClose_sloe ..).trans hsloe), grantClose_of_permit coils hsp]

/-- Two grants end the request; in stage 3 the precharge resistor heats from now (08_converter_control.md R236). -/
def requestGranted (s : State) (i : Nat) : State :=
  let s := s.modCont i fun c => { c with request := none }
  if (s.convAt i).stage = 3 then s.modConv i fun c => { c with heating := true } else s

@[simp] theorem requestGranted_keeps (s : State) (i : Nat) : (requestGranted s i).str = s.str ∧
    (requestGranted s i).saf = (s.modCont i fun c => { c with request := none }).saf := by
  unfold requestGranted
  dsimp only
  split <;> exact ⟨rfl, rfl⟩

/-! ## The events, on the state `b` at their instant -/

section
variable {t : Nat} {s b : State} (hb : s.advance t = b) {i : Nat}
include hb

theorem exec_trip {c : Channel} {f : SafetyFn} (hs : b.isStr i = true) : exec (.trip t c i f) s = .next (trip b c i f) := by
  subst hb
  exact congrArg Host.Outcome.next (if_pos hs)

theorem exec_closeRequest {coils : BitVec 4} {t0 : Nat} (hreq : (b.contAt i).request = some (coils, t0)) :
    exec (.closeRequest t i) s = .next (let v := judgedClose b i coils
      if (v.saf.sp.at i).granted && (v.saf.sloe.at i).granted then requestGranted v i else v) := by
  subst hb
  change execCloseRequest t i s = _
  simp only [execCloseRequest, hreq]
  rfl

theorem exec_closeRequestTimeout {coils : BitVec 4} {t0 : Nat} (hreq : (b.contAt i).request = some (coils, t0))
    (ht : t0 + 100 * nsMs ≤ b.clk) (hg : (b.saf.sp.at i).granted = true) :
    exec (.closeRequestTimeout t i) s = .next (haltStr (((openCoils b i).modChanStr .sp i fun x =>
      { x with disagreement := true }).modChanStr .sloe i fun x => { x with disagreement := true }) i 284) := by
  subst hb
  change execCloseRequestTimeout t i s = _
  simp only [execCloseRequestTimeout, hreq]
  rw [if_neg (Nat.not_lt.mpr ht), if_pos (by rw [hg, Bool.true_or])]

/-! ## Trips -/

theorem trip_halts {c : Channel} {f : SafetyFn} (hs : b.isStr i = true) (he : evaluates c f = true)
    (hr : chanRuns b c = true) (hset : (b.chan c).set.isSome = true) (hl : ((b.chan c).at i).latch = false) (hc : Commands b)
    (hi : i < b.str.length) (hsp : i < b.saf.sp.str.length) (hsloe : i < b.saf.sloe.str.length)
    (hconn : strConnected b i = true) : Does (.trip t c i f) s fun u => ((u.chan c).at i).latch = true ∧
      ((u.chan c).at i).gateOff = true ∧ f ∈ ((u.chan c).at i).tripped ∧ (u.strAt i).state = .halted ∧
      (u.saf.sp.at i).coils = (b.saf.sp.at i).coils &&& 2 ∧ (u.saf.sloe.at i).coils = (b.saf.sloe.at i).coils &&& 2 ∧
      (∀ k, k ≠ i → u.strAt k = b.strAt k) := by
  have hlen (d : Channel) : i < (b.chan d).str.length := by cases d <;> assumption
  have hdue : tripIdle b c i f = false := tripIdle_of_unlatched he hr hset hl
  have hverdict := trip_verdict hdue (hlen c)
  have hv : Commands (tripLatched b c i f) := by simpa [Commands, tripLatched] using hc
  have hvstr : (tripLatched b c i f).str = b.str := by simp [tripLatched]
  have hvconn : strConnected (tripLatched b c i f) i = true := (strConnected_congr (strAt_congr hvstr i)).trans hconn
  have hcoils (d : Channel) : (((trip b c i f).chan d).at i).coils = ((b.chan d).at i).coils &&& 2 := by
    rw [trip_of_due hdue, latchString_chan 292 hv hvconn,
      Chan.at_mod_same _ _ ((actsOn_tripLatched b c i f).length d ▸ hlen d)]
    exact congrArg (· &&& 2) (tripLatched_coils b c i f d)
  refine ⟨_, exec_trip hb hs, ?_, ?_, trip_tripped he hr hset (hlen c), ?_, hcoils .sp, hcoils .sloe,
    (actsOn_trip b c i f).strAt⟩
  · rw [field_of_rest ChanStr.verdict (·.latch) hverdict]
    rfl
  · rw [field_of_rest ChanStr.verdict (·.gateOff) hverdict]
    rfl
  · rw [trip_of_due hdue]
    exact latchString_halted 292 hv hvconn (by rwa [hvstr])

/-- On a STANDBY unit the latch alone stands (10_safety.md R286; log entry 22). -/
theorem trip_latches {c : Channel} {f : SafetyFn} (hs : b.isStr i = true) (he : evaluates c f = true)
    (hr : chanRuns b c = true) (hset : (b.chan c).set.isSome = true) (hl : ((b.chan c).at i).latch = false)
    (hu : b.unit = .standby) (hi : i < (b.chan c).str.length) : Does (.trip t c i f) s fun u =>
      ((u.chan c).at i).latch = true ∧ f ∈ ((u.chan c).at i).tripped ∧ u.str = b.str ∧ u.saf.cont = b.saf.cont := by
  have hdue : tripIdle b c i f = false := tripIdle_of_unlatched he hr hset hl
  have hlatched : trip b c i f = tripLatched b c i f := by
    rw [trip_of_due hdue]
    exact if_neg (by simp [tripLatched, hu, UnitState.commands])
  refine ⟨_, exec_trip hb hs, ?_, trip_tripped he hr hset hi, ?_, ?_⟩
  · rw [field_of_rest ChanStr.verdict (·.latch) (trip_verdict hdue hi)]
    rfl
  · simp [hlatched, tripLatched]
  · rw [hlatched]
    cases c <;> simp [tripLatched, State.modChanStr, State.modChan]

/-! ## Closing -/

theorem closeRequest_closes {coils : BitVec 4} {t0 : Nat} (hreq : (b.contAt i).request = some (coils, t0))
    (psp : permit b .sp i = true) (psloe : permit b .sloe i = true) (hsp : i < b.saf.sp.str.length)
    (hsloe : i < b.saf.sloe.str.length) (hi : i < b.saf.cont.length) : Does (.closeRequest t i) s fun u =>
      (u.contAt i).request = none ∧
      (u.saf.sp.at i).coils = (if coil3In (b.setB .sp) i then coils else coils &&& 7) ∧
      (u.saf.sloe.at i).coils = (if coil3In (b.setB .sloe) i then coils else coils &&& 7) ∧ u.str = b.str := by
  obtain ⟨v, hv⟩ : ∃ v, v = judgedClose b i coils := ⟨_, rfl⟩
  have hboth := judgedClose_both coils psp psloe
  have hvsp : v.saf.sp.at i = (b.saf.sp.at i).closing (coil3In (b.setB .sp) i) coils := by
    rw [hv, hboth]
    exact Chan.at_mod_same _ _ hsp
  have hvsloe : v.saf.sloe.at i = (b.saf.sloe.at i).closing (coil3In (b.setB .sloe) i) coils := by
    rw [hv, hboth]
    exact Chan.at_mod_same _ _ hsloe
  have hvcont : v.saf.cont = b.saf.cont := by
    rw [hv, hboth]
    rfl
  refine ⟨requestGranted v i, ?_, ?_, ?_, ?_, ?_⟩
  · rw [exec_closeRequest hb hreq, ← hv]
    exact congrArg Host.Outcome.next (if_pos (by rw [hvsp, hvsloe]; rfl))
  · rw [contAt_congr (requestGranted_keeps v i).2, contAt_modCont_same _ _ (hvcont ▸ hi)]
  · rw [(requestGranted_keeps v i).2]
    exact congrArg ChanStr.coils hvsp
  · rw [(requestGranted_keeps v i).2]
    exact congrArg ChanStr.coils hvsloe
  · rw [(requestGranted_keeps v i).1, hv, hboth]
    simp

theorem closeRequest_waits {coils : BitVec 4} {t0 : Nat} (hreq : (b.contAt i).request = some (coils, t0))
    (psp : permit b .sp i = true) (psloe : permit b .sloe i = false) (hg : (b.saf.sloe.at i).granted = false)
    (hsp : i < b.saf.sp.str.length) : Does (.closeRequest t i) s fun u =>
      (u.contAt i).request = some (coils, t0) ∧ (u.saf.sp.at i).granted = true ∧
      (u.saf.sloe.at i).coils = (b.saf.sloe.at i).coils := by
  have hone := judgedClose_sp coils psp psloe
  have hsloe : (judgedClose b i coils).saf.sloe = b.saf.sloe := by
    rw [hone]
    rfl
  refine ⟨judgedClose b i coils, ?_, ?_, ?_, by rw [hsloe]⟩
  · rw [exec_closeRequest hb hreq]
    exact congrArg Host.Outcome.next (if_neg (by rw [hsloe, hg, Bool.and_false]; exact Bool.false_ne_true))
  · rw [hone, contAt_modChanStr, hreq]
  · rw [hone]
    exact congrArg ChanStr.granted (Chan.at_mod_same b.saf.sp _ hsp)

theorem closeRequestTimeout_halts {t0 : Nat} {coils : BitVec 4} (hreq : (b.contAt i).request = some (coils, t0))
    (ht : t0 + 100 * nsMs ≤ b.clk) (hg : (b.saf.sp.at i).granted = true) (hconn : strConnected b i = true)
    (hi : i < b.str.length) (hsp : i < b.saf.sp.str.length) (hsloe : i < b.saf.sloe.str.length) :
    Does (.closeRequestTimeout t i) s fun u => (u.strAt i).state = .halted ∧ (u.saf.sp.at i).disagreement = true ∧
      (u.saf.sloe.at i).disagreement = true ∧ (u.saf.sp.at i).coils = (b.saf.sp.at i).coils &&& 2 := by
  obtain ⟨v, hv⟩ : ∃ v, v = ((openCoils b i).modChanStr .sp i fun x =>
      { x with disagreement := true }).modChanStr .sloe i fun x => { x with disagreement := true } := ⟨_, rfl⟩
  have hvstr : v.str = b.str := by simp [hv]
  have hvconn : strConnected v i = true := (strConnected_congr (strAt_congr hvstr i)).trans hconn
  have hlen (c : Channel) : i < (b.chan c).str.length := by cases c <;> assumption
  have hat (c : Channel) : ((haltStr v i 284).chan c).at i =
      ChanStr.opened { ((b.chan c).at i).opened with disagreement := true } := by
    rw [haltStr_chan 284 hvconn, hv, chan_modChanStr_both, openCoils_chan]
    rw [Chan.at_mod_same, Chan.at_mod_same, Chan.at_mod_same _ _ (hlen c)] <;> simpa [Chan.mod] using hlen c
  refine ⟨haltStr v i 284, ?_, haltStr_halted 284 hvconn (by rwa [hvstr]), congrArg ChanStr.disagreement (hat .sp),
    congrArg ChanStr.disagreement (hat .sloe), ?_⟩
  · rw [hv, exec_closeRequestTimeout hb hreq ht hg]
  · refine (congrArg ChanStr.coils (hat .sp)).trans ?_
    change ((b.saf.sp.at i).coils &&& 2) &&& 2 = _
    rw [BitVec.and_assoc, BitVec.and_self]

end

end Sys2Proof.Machine
end

section
/-! SUPPORT. The CDB cycle, the second pole, welds and BKR_TRIP (10_safety.md R288 to R291). -/

namespace Sys2Proof.Machine

set_option Elab.async false

/-! ## What the judgement of one CX-4's mirrors leaves -/

theorem actsOn_bkrAssert (s : State) (c : Channel) (i : Nat) : ActsOn i s (bkrAssert s c) := by
  unfold bkrAssert
  split
  · exact { ActsOn.refl i s with
      runs := fun d => chanRuns_congr (by cases d <;> rfl) rfl
      shared := fun d => by cases d <;> rfl
      length := fun d => by cases d <;> rfl
      conts := rfl
      tripped := fun d _ => by cases d <;> exact id
      answer := rfl
      chanAt := fun d _ _ => by cases d <;> rfl
      contAt := fun _ _ => rfl }
  · exact .refl i s

theorem actsOn_bkrBoth (s : State) (i : Nat) : ActsOn i s (bkrBoth s) :=
  (actsOn_bkrAssert s .sp i).trans (actsOn_bkrAssert ..)

theorem actsOn_weldPulseStep (s : State) (i : Nat) : ActsOn i s (weldPulseStep s i) := by
  unfold weldPulseStep
  dsimp only
  split
  · refine .trans ?_ (actsOn_bkrBoth ..)
    exact .modCont s fun _ => rfl
  · exact .refl i s

/-- Both channels' states of a string after the same update. -/
theorem ActsOn.modChanStr_both {i : Nat} (s : State) {f : ChanStr → ChanStr}
    (h : ∀ x g, g ∈ x.tripped → g ∈ (f x).tripped) : ActsOn i s ((s.modChanStr .sp i f).modChanStr .sloe i f) :=
  (ActsOn.modChanStr s .sp h).trans (.modChanStr _ .sloe h)

def Cont.welded (k now : Nat) (c : Cont) : Cont :=
  { c with weld := c.weld ||| BitVec.twoPow 4 k, weldPulse := k != 1, weldT := now }

/-- A weld found, latched in both channels and recorded, before it reaches the string's stages. -/
def weldLatched (s : State) (i k : Nat) : State :=
  let f : ChanStr → ChanStr := fun x => { x with latch := true, weld := true, gateOff := true }
  ((record (s.modCont i (Cont.welded k s.clk)) 0x31 srcSp lvErr i k 0).modChanStr .sp i f).modChanStr .sloe i f

/-- Both words of the string open every coil. -/
def wordsOpen (s : State) (i : Nat) : State :=
  let f : ChanStr → ChanStr := fun x => { x with coils := 0 }
  (s.modChanStr .sp i f).modChanStr .sloe i f

theorem weldFound_eq {s : State} {i k : Nat} (h : (s.contAt i).weld.getLsbD k = false) : weldFound s i k =
    if k = 1 then bkrBoth (openCoils (latchString (weldLatched s i k) i 291) i)
    else wordsOpen (openCoils (latchString (weldLatched s i k) i 291) i) i := if_neg (ne_true_of_eq_false h)

theorem actsOn_weldLatched (s : State) (i k : Nat) : ActsOn i s (weldLatched s i k) := by
  refine .trans ?_ (.modChanStr_both _ fun _ _ => id)
  exact (ActsOn.modCont (f := Cont.welded k s.clk) s fun _ => rfl).trans .of_eq

theorem actsOn_weldFound (s : State) (i k : Nat) : ActsOn i s (weldFound s i k) := by
  cases h : (s.contAt i).weld.getLsbD k with
  | true =>
    rw [show weldFound s i k = s from if_pos h]
    exact .refl i s
  | false =>
    have hopen : ActsOn i s (openCoils (latchString (weldLatched s i k) i 291) i) :=
      (actsOn_weldLatched s i k).trans ((actsOn_latchString ..).trans (actsOn_openCoils ..))
    rw [weldFound_eq h]
    split
    · exact hopen.trans (actsOn_bkrBoth ..)
    · exact hopen.trans (.modChanStr_both _ fun _ _ => id)

theorem actsOn_judgeCoil (i : Nat) (cmd mir was fresh : Bool) (since k : Nat) (s : State) (c : Channel) :
    ActsOn i s (judgeCoil i cmd mir was fresh since k s c) := by
  unfold judgeCoil
  dsimp only
  split
  · exact .refl i s
  · split
    · exact actsOn_trip ..
    · split
      · exact actsOn_weldFound ..
      · exact .refl i s

theorem actsOn_prechargeMirrors (s : State) (i : Nat) : ActsOn i s (prechargeMirrors s i) := by
  have hconv (u : State) (p : Prop) [Decidable p] (f : Conv → Conv) : ActsOn i u (if p then u.modConv i f else u) := by
    split
    · exact .of_eq
    · exact .refl i u
  have hwords (u : State) (p : Prop) [Decidable p] (f : ChanStr → ChanStr)
      (h : ∀ x g, g ∈ x.tripped → g ∈ (f x).tripped) :
      ActsOn i u (if p then (u.modChanStr .sp i f).modChanStr .sloe i f else u) := by
    split
    · exact .modChanStr_both u h
    · exact .refl i u
  unfold prechargeMirrors
  refine .trans ?_ (hconv _ _ _)
  refine .trans ?_ (hwords _ _ _ fun _ _ => id)
  exact hconv s _ _

theorem actsOn_openedStep (s : State) (i : Nat) : ActsOn i s (openedStep s i) := by
  unfold openedStep
  dsimp only
  split
  · refine .of_core (by simp) fun k hk => ?_
    rw [endTransOk_strAt_ne _ hk, setStr_strAt_ne _ _ _ hk]
    rfl
  · exact .refl i s

theorem actsOn_detected (s : State) (u rule detail i : Nat) : ActsOn i s (detected s u rule detail) := .of_eq

/-! ## One CX-4 in one cycle -/

/-- The CX-4 takes the command of both words and answers with its mirrors. -/
def wordsTaken (s : State) (i : Nat) (mir : BitVec 4) : State :=
  let cmd := (s.saf.sp.at i).coils &&& (s.saf.sloe.at i).coils
  let c := s.contAt i
  let fresh (k : Nat) : Bool := cmd.getLsbD k != c.energised.getLsbD k
  let agree (k : Nat) : Bool := cmd.getLsbD k == mir.getLsbD k
  let cmdT := (List.range 4).map fun k => if fresh k then s.clk else c.cmdT.getD k 0
  let conf := (List.range 4).map fun k => agree k || (!fresh k && c.confirmed.getLsbD k)
  s.modCont i fun c => { c with energised := cmd, mirror := mir, cmdT := cmdT
                                confirmed := BitVec.ofNat 4 (bitsToNat conf), ackMissing := 0, heldSince := none }

theorem wordsTaken_answer {s : State} {i : Nat} (mir : BitVec 4) (h : i < s.saf.cont.length) :
    ((wordsTaken s i mir).contAt i).answer = ((s.saf.sp.at i).coils &&& (s.saf.sloe.at i).coils, mir, 0) := by
  unfold wordsTaken
  dsimp only
  rw [contAt_modCont_same s _ h]
  rfl

theorem cdbOne_follows {s : State} {i : Nat} (mir : BitVec 4) (h : (s.contAt i).followsUs = true) :
    ActsOn i (wordsTaken s i mir) (cdbOne s i mir) := by
  unfold cdbOne
  dsimp only
  rw [if_neg (by simp [h])]
  refine .trans ?_ (actsOn_openedStep ..)
  refine .trans ?_ (actsOn_weldPulseStep ..)
  refine .trans ?_ (actsOn_prechargeMirrors ..)
  exact .foldl (fun s k => (actsOn_judgeCoil ..).trans (actsOn_judgeCoil ..)) _ (wordsTaken s i mir)

theorem spare_cdbOne (s : State) {i k : Nat} (mir : BitVec 4) (h : i ≠ k) : SpareAt i s (cdbOne s k mir) := by
  cases hf : (s.contAt k).followsUs with
  | true =>
    exact .trans (.modCont s _ h) ((cdbOne_follows mir hf).spare h)
  | false =>
    unfold cdbOne
    dsimp only
    rw [if_pos (by simp [hf])]
    exact .trans (.modCont s _ h) ((actsOn_openedStep ..).spare h)

/-! ## The cycle of a bus -/

/-- A CX-4 that gave no good answer: the third one in a row is a detected error of its bus (10_safety.md R288). -/
def unanswered (bus : Nat) (s : State) (i : Nat) : State :=
  let n := (s.contAt i).ackMissing + 1
  let s := s.modCont i fun c => { c with ackMissing := n }
  if n = 3 then detected s (uCdb bus) 498 0 else s

/-- One CX-4 of the bus in its cycle. -/
def cdbStep (bus : Nat) (mirrors : List (BitVec 4)) (s : State) (k : Nat) : State :=
  let i := 4 * bus + k
  if !s.isStr i || !(chanRuns s .sp || chanRuns s .sloe) then s
  else match mirrors[k]? with
    | some m => cdbOne s i m
    | none => unanswered bus s i

theorem exec_cdbCycle {t bus : Nat} {s b : State} (hb : s.advance t = b) (mirrors : List (BitVec 4)) :
    exec (.cdbCycle t bus mirrors true) s = .next ((List.range 4).foldl (cdbStep bus mirrors) b) := by
  subst hb
  change execCdbCycle t bus mirrors true s = _
  unfold execCdbCycle
  dsimp only
  congr 2
  funext s k
  unfold cdbStep unanswered
  dsimp only
  cases mirrors[k]? <;> rfl

theorem spare_unanswered (bus : Nat) (s : State) {i k : Nat} (h : i ≠ k) : SpareAt i s (unanswered bus s k) := by
  unfold unanswered
  dsimp only
  split
  · refine .trans ?_ ((actsOn_detected ..).spare h)
    exact .modCont s _ h
  · exact .modCont s _ h

theorem spare_cdbStep {bus : Nat} (mirrors : List (BitVec 4)) (s : State) {j k : Nat} (h : k ≠ j) :
    SpareAt (4 * bus + j) s (cdbStep bus mirrors s k) := by
  have hne : 4 * bus + j ≠ 4 * bus + k := by omega
  unfold cdbStep
  dsimp only
  split
  · exact .refl _ s
  · split
    · exact spare_cdbOne s _ hne
    · exact spare_unanswered bus s hne

end Sys2Proof.Machine
end

section
/-! SUPPORT. The CDB cycle, the second pole, welds and BKR_TRIP, as events (10_safety.md R288 to R291). -/

namespace Sys2Proof.Machine

set_option Elab.async false

theorem detected_keeps_suspended {s : State} {n : Nat} (u rule detail : Nat) (h : s.suspended n = true) :
    (detected s u rule detail).suspended n = true := by
  have hr : (record s 0x20 (unitSource u) lvWarn u rule detail).suspended n = true := by
    rwa [suspended_congr (s := s) (by simp)]
  unfold detected
  dsimp only
  split
  · exact hr
  · split
    · exact hr
    · simp only [State.suspended, State.setFlt, List.any_append] at hr ⊢
      rw [hr, Bool.true_or]

theorem detected_retired (s : State) (u rule detail n : Nat) : (detected s u rule detail).retired n = s.retired n := by
  unfold detected
  dsimp only
  split
  · exact retired_congr (by simp) n
  · split <;> simp [State.retired]

theorem isStr_congr {s u : State} (h : u.variant = s.variant) (i : Nat) : u.isStr i = s.isStr i := by
  rw [State.isStr, State.isStr, strings_congr h]

section
variable {bus : Nat} {s : State} {k i : Nat}

theorem cdbStep_of_runs {mirrors : List (BitVec 4)} (hi : i = 4 * bus + k) (hs : s.isStr i = true)
    (hr : chanRuns s .sp = true ∨ chanRuns s .sloe = true) : cdbStep bus mirrors s k = match mirrors[k]? with
      | some m => cdbOne s i m
      | none => unanswered bus s i := by
  subst hi
  refine if_neg ?_
  rw [hs]
  rcases hr with h | h <;> simp [h]

/-- A missing answer keeps the bus suspended, and retires nothing. -/
theorem unanswered_flt (n : Nat) (hr : s.retired n = false) : (unanswered bus s i).retired n = false ∧
    (s.suspended n = true → (unanswered bus s i).suspended n = true) := by
  unfold unanswered
  dsimp only
  split
  · exact ⟨(detected_retired ..).trans hr, fun h => detected_keeps_suspended _ _ _ h⟩
  · exact ⟨hr, id⟩

theorem unanswered_third (hi : i < s.saf.cont.length) (h2 : (s.contAt i).ackMissing = 2) (hr : s.retired (uCdb bus) = false) :
    ((unanswered bus s i).contAt i).ackMissing = 3 ∧ (unanswered bus s i).suspended (uCdb bus) = true := by
  have hthree : unanswered bus s i = detected (s.modCont i fun c => { c with ackMissing := 3 }) (uCdb bus) 498 0 := by
    unfold unanswered
    rw [h2]
    rfl
  rw [hthree]
  refine ⟨?_, detected_suspended _ _ _ _ hr⟩
  rw [contAt_congr (s := s.modCont i fun c => { c with ackMissing := 3 }) (by simp), contAt_modCont_same _ _ hi]

theorem unanswered_str : (unanswered bus s i).str = s.str := by
  unfold unanswered
  dsimp only
  split <;> simp

/-- In a cycle without an answer every step is that of a missing answer, or none. -/
theorem cdbStep_nil : cdbStep bus [] s k = s ∨ cdbStep bus [] s k = unanswered bus s (4 * bus + k) := by
  unfold cdbStep
  dsimp only
  split
  · exact .inl rfl
  · exact .inr rfl

end

/-! ## Welds -/

theorem bkrAssert_keeps_contactors (s : State) (d : Channel) :
    (∀ c, (bkrAssert s d).chan c = s.chan c) ∧ (bkrAssert s d).saf.cont = s.saf.cont := by
  unfold bkrAssert
  split
  · exact ⟨fun c => by cases c <;> rfl, rfl⟩
  · exact ⟨fun _ => rfl, rfl⟩

theorem weldPulseStep_chan (s : State) (i : Nat) (c : Channel) : (weldPulseStep s i).chan c = s.chan c := by
  unfold weldPulseStep bkrBoth
  dsimp only
  split
  · rw [(bkrAssert_keeps_contactors ..).1, (bkrAssert_keeps_contactors ..).1, chan_modCont]
  · rfl

theorem weldPulseStep_weld (s : State) (i k : Nat) : ((weldPulseStep s i).contAt k).weld = (s.contAt k).weld := by
  unfold weldPulseStep bkrBoth
  dsimp only
  split
  · rw [State.contAt, (bkrAssert_keeps_contactors ..).2, (bkrAssert_keeps_contactors ..).2]
    exact contAt_modCont_field (·.weld) s i k fun _ => rfl
  · rfl

/-- A channel's state of a string as a weld leaves it: latched, its word open. -/
def ChanStr.welded (x : ChanStr) : ChanStr := { x with latch := true, weld := true, gateOff := true }

section
variable {s : State} {i k : Nat}

theorem weldLatched_chan (c : Channel) : (weldLatched s i k).chan c = (s.chan c).mod i ChanStr.welded := by
  have hrec : (record (s.modCont i (Cont.welded k s.clk)) 0x31 srcSp lvErr i k 0).chan c = s.chan c := by
    rw [chan_congr (s := s.modCont i (Cont.welded k s.clk)) (by simp), chan_modCont]
  rw [← hrec]
  exact chan_modChanStr_both _ i ChanStr.welded c

theorem weldLatched_cont (hi : i < s.saf.cont.length) :
    (weldLatched s i k).contAt i = (s.contAt i).welded k s.clk := by
  have hrec : (record (s.modCont i (Cont.welded k s.clk)) 0x31 srcSp lvErr i k 0).contAt i = (s.contAt i).welded k s.clk := by
    rw [contAt_congr (s := s.modCont i (Cont.welded k s.clk)) (by simp), contAt_modCont_same _ _ hi]
  rw [← hrec]
  unfold weldLatched
  dsimp only
  rw [contAt_modChanStr, contAt_modChanStr]

theorem weldLatched_keeps : (weldLatched s i k).unit = s.unit ∧ (weldLatched s i k).str = s.str := by
  simp [weldLatched]

theorem wordsOpen_chan (c : Channel) : (wordsOpen s i).chan c = (s.chan c).mod i fun x => { x with coils := 0 } :=
  chan_modChanStr_both ..

variable (hw : (s.contAt i).weld.getLsbD k = false) (hk1 : k ≠ 1)
include hw hk1

theorem weldFound_chanAt {c : Channel} (hi : i < (s.chan c).str.length) :
    (((weldFound s i k).chan c).at i).coils = 0 ∧
      (((weldFound s i k).chan c).at i).verdict = ((s.chan c).at i).welded.verdict := by
  have hlen : i < ((openCoils (latchString (weldLatched s i k) i 291) i).chan c).str.length := by
    rwa [(actsOn_openCoils ..).length, (actsOn_latchString ..).length, (actsOn_weldLatched ..).length]
  rw [weldFound_eq hw, if_neg hk1, wordsOpen_chan, Chan.at_mod_same _ _ hlen]
  refine ⟨rfl, ?_⟩
  calc (((openCoils (latchString (weldLatched s i k) i 291) i).chan c).at i).verdict
      = (((latchString (weldLatched s i k) i 291).chan c).at i).verdict := by
        rw [openCoils_chan]
        exact Chan.at_mod_field ChanStr.verdict _ i i fun _ => rfl
    _ = (((weldLatched s i k).chan c).at i).verdict := latchString_verdict ..
    _ = ((s.chan c).at i).welded.verdict := by rw [weldLatched_chan, Chan.at_mod_same _ _ hi]

theorem weldFound_weld (hi : i < s.saf.cont.length) :
    ((weldFound s i k).contAt i).weld = (s.contAt i).weld ||| BitVec.twoPow 4 k := by
  have hunasked : ((openCoils (latchString (weldLatched s i k) i 291) i).contAt i).unasked =
      ((s.contAt i).welded k s.clk).unasked :=
    (openCoils_unasked ..).trans ((latchString_unasked ..).trans (congrArg Cont.unasked (weldLatched_cont hi)))
  have hopen : ((openCoils (latchString (weldLatched s i k) i 291) i).contAt i).weld = ((s.contAt i).welded k s.clk).weld :=
    field_of_rest Cont.unasked (·.weld) hunasked
  rw [weldFound_eq hw, if_neg hk1, wordsOpen, contAt_modChanStr, contAt_modChanStr, hopen]
  rfl

theorem weldFound_halted (hc : Commands s) (hconn : strConnected s i = true) (hi : i < s.str.length) :
    ((weldFound s i k).strAt i).state = .halted := by
  obtain ⟨hunit, hstr⟩ := weldLatched_keeps (s := s) (i := i) (k := k)
  rw [weldFound_eq hw, if_neg hk1, strAt_congr (s := latchString (weldLatched s i k) i 291) (by simp [wordsOpen])]
  refine latchString_halted 291 (by rwa [Commands, hunit]) ?_ (by rwa [hstr])
  rwa [strConnected_congr (strAt_congr hstr i)]

end

/-! ## The events, on the state `b` at their instant -/

section
variable {t : Nat} {s b : State} (hb : s.advance t = b) {i : Nat}
include hb

/-- The contactors follow both words (10_safety.md R283). -/
theorem cdbCycle_energises {bus k : Nat} {mirrors : List (BitVec 4)} {mir : BitVec 4} (hk : k < 4) (hik : i = 4 * bus + k)
    (hs : b.isStr i = true) (hr : chanRuns b .sp = true ∨ chanRuns b .sloe = true) (hm : mirrors[k]? = some mir)
    (hi : i < b.saf.cont.length) (hf : (b.contAt i).followsUs = true) : Does (.cdbCycle t bus mirrors true) s fun u =>
      (u.contAt i).energised = (b.saf.sp.at i).coils &&& (b.saf.sloe.at i).coils ∧ (u.contAt i).mirror = mir ∧
      (u.contAt i).ackMissing = 0 := by
  have hanswer : (((List.range 4).foldl (cdbStep bus mirrors) b).contAt i).answer =
      ((b.saf.sp.at i).coils &&& (b.saf.sloe.at i).coils, mir, 0) := by
    refine foldl_passes (Q := SpareAt i b) (i := k)
      (P := fun a => (a.contAt i).answer = ((b.saf.sp.at i).coils &&& (b.saf.sloe.at i).coils, mir, 0)) ?_ ?_ ?_
      List.nodup_range (List.mem_range.mpr hk) (.refl i b)
    · exact fun a j hj ha => ha.trans (hik ▸ spare_cdbStep mirrors a hj)
    · intro a ha
      have hsp : a.saf.sp.at i = b.saf.sp.at i := ha.chanAt .sp
      have hsloe : a.saf.sloe.at i = b.saf.sloe.at i := ha.chanAt .sloe
      rw [cdbStep_of_runs hik (by rwa [isStr_congr ha.variant]) (by rwa [ha.runs, ha.runs]), hm]
      dsimp only
      rw [(cdbOne_follows mir (by rwa [ha.contAt])).answer, wordsTaken_answer mir (ha.conts ▸ hi), hsp, hsloe]
    · intro a j hj ha
      have hspare : SpareAt i a (cdbStep bus mirrors a j) := hik ▸ spare_cdbStep mirrors a hj
      rwa [hspare.contAt]
  obtain ⟨he, hrest⟩ := Prod.mk.injEq .. ▸ hanswer
  obtain ⟨hmir, hn⟩ := Prod.mk.injEq .. ▸ hrest
  exact ⟨_, exec_cdbCycle hb mirrors, he, hmir, hn⟩

/-- Three missing answers in a row charge the bus (10_safety.md R288). -/
theorem cdbCycle_suspends {bus k : Nat} (hk : k < 4) (hik : i = 4 * bus + k) (hs : b.isStr i = true)
    (hr : chanRuns b .sp = true) (hi : i < b.saf.cont.length) (h2 : (b.contAt i).ackMissing = 2)
    (hret : b.retired (uCdb bus) = false) : Does (.cdbCycle t bus [] true) s fun u =>
      (u.contAt i).ackMissing = 3 ∧ u.suspended (uCdb bus) = true ∧ u.str = b.str := by
  have hflt (a : State) (j : Nat) (ha : a.retired (uCdb bus) = false) : (cdbStep bus [] a j).retired (uCdb bus) = false ∧
      (a.suspended (uCdb bus) = true → (cdbStep bus [] a j).suspended (uCdb bus) = true) := by
    rcases cdbStep_nil (bus := bus) (s := a) (k := j) with h | h <;> rw [h]
    · exact ⟨ha, id⟩
    · exact unanswered_flt _ ha
  have hthird : (((List.range 4).foldl (cdbStep bus []) b).contAt i).ackMissing = 3 ∧
      ((List.range 4).foldl (cdbStep bus []) b).suspended (uCdb bus) = true ∧
      ((List.range 4).foldl (cdbStep bus []) b).retired (uCdb bus) = false := by
    refine foldl_passes (Q := fun a => SpareAt i b a ∧ a.retired (uCdb bus) = false) (i := k)
      (P := fun a => (a.contAt i).ackMissing = 3 ∧ a.suspended (uCdb bus) = true ∧ a.retired (uCdb bus) = false) ?_ ?_ ?_
      List.nodup_range (List.mem_range.mpr hk) ⟨.refl i b, hret⟩
    · rintro a j hj ⟨ha, haret⟩
      exact ⟨ha.trans (hik ▸ spare_cdbStep [] a hj), (hflt a j haret).1⟩
    · rintro a ⟨ha, haret⟩
      rw [cdbStep_of_runs hik (by rwa [isStr_congr ha.variant]) (.inl ((ha.runs .sp).trans hr))]
      obtain ⟨hthree, hsus⟩ := unanswered_third (bus := bus) (ha.conts ▸ hi) (by rwa [ha.contAt]) haret
      exact ⟨hthree, hsus, (unanswered_flt _ haret).1⟩
    · rintro a j hj ⟨hthree, hsus, haret⟩
      have hspare : SpareAt i a (cdbStep bus [] a j) := hik ▸ spare_cdbStep [] a hj
      exact ⟨by rwa [hspare.contAt], (hflt a j haret).2 hsus, (hflt a j haret).1⟩
  obtain ⟨hthree, hsus, -⟩ := hthird
  refine ⟨_, exec_cdbCycle hb [], hthree, hsus, foldl_str _ (fun a j => ?_) _ b⟩
  rcases cdbStep_nil (bus := bus) (s := a) (k := j) with h | h <;> rw [h]
  exact unanswered_str

theorem openSecondPole_opens (hop : (b.contAt i).opening.isSome = true) (hm : (b.contAt i).mirror &&& 13 = 0)
    (hi : i < b.saf.cont.length) (hsp : i < b.saf.sp.str.length) (hsloe : i < b.saf.sloe.str.length) :
    Does (.openSecondPole t i) s fun u => (u.contAt i).opening = none ∧
      (u.saf.sp.at i).coils = (b.saf.sp.at i).coils &&& 13 ∧ (u.saf.sloe.at i).coils = (b.saf.sloe.at i).coils &&& 13 ∧
      u.str = b.str := by
  subst hb
  refine ⟨_, congrArg Host.Outcome.next (if_pos (by simp only [hop, hm]; rfl)), ?_, ?_, ?_, rfl⟩
  · rw [contAt_modChanStr, contAt_modChanStr, contAt_modCont_same _ _ hi]
  · exact congrArg ChanStr.coils (Chan.at_mod_same _ _ hsp)
  · exact congrArg ChanStr.coils (Chan.at_mod_same _ _ hsloe)

theorem bkrTripEnd_ends (hbkr : b.saf.bkrTrip = true) (he : b.saf.bkrEnd ≤ b.clk) : Does (.bkrTripEnd t) s fun u =>
    u.saf = { b.saf with bkrTrip := false } ∧ u.str = b.str := by
  subst hb
  exact ⟨_, congrArg Host.Outcome.next (if_pos (by simp only [hbkr, he]; rfl)), rfl, rfl⟩

theorem weld_latches {k : Nat} (hf : (b.contAt i).followsUs = true) (hk : k < 4) (hk1 : k ≠ 1)
    (he : (b.contAt i).energised.getLsbD k = false) (hm : (b.contAt i).mirror.getLsbD k = true)
    (hconf : (b.contAt i).confirmed.getLsbD k = true) (hset : (b.chan .sp).set.isSome = true)
    (hw : (b.contAt i).weld.getLsbD k = false) (hi : i < b.saf.cont.length) (hsp : i < b.saf.sp.str.length)
    (hsloe : i < b.saf.sloe.str.length) (hstr : i < b.str.length) : Does (.weld t i k) s fun u =>
      (u.contAt i).weld.getLsbD k = true ∧ (u.saf.sp.at i).latch = true ∧ (u.saf.sloe.at i).latch = true ∧
      (u.saf.sp.at i).weld = true ∧ (u.saf.sp.at i).coils = 0 ∧ (u.saf.sloe.at i).coils = 0 ∧
      (Commands b → strConnected b i = true → (u.strAt i).state = .halted) := by
  obtain ⟨u, hu⟩ : ∃ u, u = weldPulseStep (weldFound b i k) i := ⟨_, rfl⟩
  have hat (c : Channel) (hc : i < (b.chan c).str.length) : ((u.chan c).at i).coils = 0 ∧
      ((u.chan c).at i).verdict = ((b.chan c).at i).welded.verdict := by
    rw [hu, weldPulseStep_chan]
    exact weldFound_chanAt hw hk1 hc
  obtain ⟨hspCoils, hspVerdict⟩ := hat .sp hsp
  obtain ⟨hsloeCoils, hsloeVerdict⟩ := hat .sloe hsloe
  refine ⟨u, ?_, ?_, field_of_rest ChanStr.verdict (·.latch) hspVerdict, field_of_rest ChanStr.verdict (·.latch) hsloeVerdict,
    field_of_rest ChanStr.verdict (·.weld) hspVerdict, hspCoils, hsloeCoils, fun hc hconn => ?_⟩
  · subst hb hu
    refine congrArg Host.Outcome.next (if_pos ?_)
    simp only [hf, hk, he, hm, hconf, hset, List.any_cons, Bool.true_or]
    rfl
  · rw [hu, weldPulseStep_weld, weldFound_weld hw hk1 hi, BitVec.getLsbD_or, BitVec.getLsbD_twoPow]
    simp [hk]
  · rw [hu, strAt_congr (s := weldFound b i k) (by simp)]
    exact weldFound_halted hw hk1 hc hconn hstr

end

end Sys2Proof.Machine
end

section
/-! SUPPORT. Safety inputs, test pulses and the cross-link, and the statement they settle (10_safety.md R285, R300, R301). -/

namespace Sys2Proof.Machine

set_option Elab.async false

/-! ## Safety inputs -/

/-- Input `k` of channel `c` after `f`. -/
def State.modInput (s : State) (c : Channel) (k : Nat) (f : SafeIn → SafeIn) : State :=
  s.modChan c fun ch => { ch with inputs := ch.inputs.modify k f }

def State.inputAt (s : State) (c : Channel) (k : Nat) : SafeIn := (s.chan c).inputs.getD k {}

theorem inputAt_modInput_same (s : State) (c : Channel) {k : Nat} (f : SafeIn → SafeIn)
    (h : k < (s.chan c).inputs.length) : (s.modInput c k f).inputAt c k = f (s.inputAt c k) := by
  rw [State.inputAt, State.modInput, chan_modChan_same]
  exact getD_modify_same _ _ _ _ h

theorem inputAt_modInput_field {γ : Type} (g : SafeIn → γ) (s : State) (c : Channel) (k j : Nat) {f : SafeIn → SafeIn}
    (h : ∀ x, g (f x) = g x) : g ((s.modInput c k f).inputAt c j) = g (s.inputAt c j) := by
  rw [State.inputAt, State.modInput, chan_modChan_same]
  exact getD_modify_field g _ _ _ _ h

/-- A channel but for its inputs. -/
def Chan.uninput (c : Chan) : Chan := { c with inputs := [] }

/-- From `s` to `u` nothing but the inputs of channel `c` has moved. -/
structure InputsOnly (c : Channel) (s u : State) : Prop where
  clk : u.clk = s.clk
  str : u.str = s.str
  variant : u.variant = s.variant
  pwr : u.pwr = s.pwr
  chan : (u.chan c).uninput = (s.chan c).uninput
  length : (u.chan c).inputs.length = (s.chan c).inputs.length

theorem inputsOnly_modInput (s : State) (c : Channel) (k : Nat) (f : SafeIn → SafeIn) : InputsOnly c s (s.modInput c k f) := by
  refine ⟨by simp [State.modInput], by simp [State.modInput], by simp [State.modInput], by simp [State.modInput], ?_, ?_⟩
  · rw [State.modInput, chan_modChan_same]
    rfl
  · rw [State.modInput, chan_modChan_same]
    exact List.length_modify ..

theorem InputsOnly.trans {c : Channel} {s u v : State} (h : InputsOnly c s u) (k : InputsOnly c u v) : InputsOnly c s v :=
  ⟨k.clk.trans h.clk, k.str.trans h.str, k.variant.trans h.variant, k.pwr.trans h.pwr, k.chan.trans h.chan,
    k.length.trans h.length⟩

/-- An input in the third mode as its sample finds it, with `n` ns of a low level (10_safety.md R300). -/
def SafeIn.sampledLow (now n debounce : Nat) (x : SafeIn) : SafeIn :=
  { x with high := false, lowNs := n, lastT := now, lastLowT := some now
           demand := x.demand || decide (debounce ≤ n) }

theorem judgeInput_low {s : State} {c : Channel} {k : Nat} (h : siU (s.setB c) k 1 1 = 2)
    (hx : (s.inputAt c k).high = false) : judgeInput s c k false = s.modInput c k
      (SafeIn.sampledLow s.clk ((s.inputAt c k).lowNs + (s.clk - (s.inputAt c k).lastT)) (siU (s.setB c) k 6 2 * nsMs)) := by
  have hrun : lowRun s ((s.chan c).inputs.getD k {}) false = (s.inputAt c k).lowNs + (s.clk - (s.inputAt c k).lastT) :=
    (if_neg Bool.false_ne_true).trans (if_neg (by rw [State.inputAt] at hx; simp only [hx]; simp))
  unfold judgeInput
  simp only [h, hrun]
  rfl

/-- The pair's judgement keeps the demand and the instant of the sample. -/
theorem judgePair_input (s : State) (c : Channel) (k : Nat) : InputsOnly c s (judgePair s c k) ∧
    ∀ j, ((judgePair s c k).inputAt c j).demand = (s.inputAt c j).demand ∧
      ((judgePair s c k).inputAt c j).lastT = (s.inputAt c j).lastT :=
  ⟨inputsOnly_modInput .., fun j => ⟨inputAt_modInput_field (·.demand) s c k j fun _ => rfl,
    inputAt_modInput_field (·.lastT) s c k j fun _ => rfl⟩⟩

/-- What an acting input trips, over the strings it names. -/
def inputTrips (b : Bytes) (ch : Channel) (s : State) (k : Nat) : State :=
  if ((s.chan ch).inputs.getD k {}).acts && getBit b (448 + 8 * k + 5) 0 then
    (List.range s.strings).foldl (fun s i => if getBit b (448 + 8 * k + 4) i then trip s ch i .ext else s) s
  else s

theorem exec_safetyInputSample {t : Nat} {s b : State} (hb : s.advance t = b) {c : Channel} (levels : BitVec 16) {k : Nat}
    (hr : chanRuns b c = true) (hset : (b.chan c).set.isSome = true) (hk : k < 16) (hu : siU (b.setB c) k 0 1 ≠ 0)
    (hothers : ∀ j ∈ List.range 16, j = k ∨ siU (b.setB c) j 0 1 = 0) : exec (.safetyInputSample t c levels) s =
      .next (inputTrips (b.setB c) c (judgePair (judgeInput b c k (levels.getLsbD k)) c k) k) := by
  subst hb
  have hused : ((List.range 16).filter fun j => siU ((s.advance t).setB c) j 0 1 ≠ 0) = [k] :=
    filter_eq_singleton List.nodup_range (List.mem_range.mpr hk) fun j hj => by
      rcases hothers j hj with rfl | hz
      · simp [hu]
      · have hjk : j ≠ k := fun h => hu (h ▸ hz)
        simp [hz, hjk]
  change execSafetyInputSample t c levels s = _
  unfold execSafetyInputSample
  dsimp only
  rw [if_neg (by simp only [hr, Option.isNone_eq_false_iff.mpr hset]; simp), hused]
  rfl

theorem actsOn_extStep (b : Bytes) (c : Channel) (k : Nat) (s : State) (i : Nat) :
    ActsOn i s (if getBit b (448 + 8 * k + 4) i then trip s c i .ext else s) := by
  split
  · exact actsOn_trip ..
  · exact .refl i s

theorem inputTrips_shared (b : Bytes) (c : Channel) (s : State) (k : Nat) :
    ((inputTrips b c s k).chan c).shared = (s.chan c).shared := by
  unfold inputTrips
  split
  · exact foldl_shared (actsOn_extStep b c k) _ s c
  · rfl

/-- An input that acts and trips, trips every string it names (10_safety.md R303). -/
theorem inputTrips_tripped {b : Bytes} {c : Channel} {s : State} {k i : Nat} (hact : (s.inputAt c k).acts = true)
    (hflag : getBit b (448 + 8 * k + 5) 0 = true) (hnames : getBit b (448 + 8 * k + 4) i = true) (hs : s.isStr i = true)
    (hr : chanRuns s c = true) (hset : (s.chan c).set.isSome = true) (hi : i < (s.chan c).str.length) :
    .ext ∈ (((inputTrips b c s k).chan c).at i).tripped := by
  have hgo : inputTrips b c s k = (List.range s.strings).foldl (fun s i =>
      if getBit b (448 + 8 * k + 4) i then trip s c i .ext else s) s := by
    refine if_pos ?_
    rw [show ((s.chan c).inputs.getD k {}).acts = true from hact, hflag]
    rfl
  rw [hgo]
  refine foldl_tripped (actsOn_extStep b c k) List.nodup_range (List.mem_range.mpr (of_decide_eq_true hs)) fun a ha => ?_
  rw [if_pos hnames]
  exact ha.trip_tripped (by cases c <;> rfl) hr hset hi

/-! ## Test pulses -/

/-- An input at a test pulse of TP `n`: it notes its level before, and the cycle of an input that the TP feeds ends. -/
def SafeIn.pulsed (now n : Nat) (b : Bytes) (k : Nat) (x : SafeIn) : SafeIn :=
  let pre : Bool := x.high && match x.lastLowT with | none => true | some l => decide (l + 100 * nsUs ≤ now)
  let x := { x with preHigh := pre }
  if siU b k 0 1 != 0 && siU b k 1 1 == 0 && siU b k 2 1 == n then
    if x.badCycle then { x with badCycle := false, goodCycles := 0 }
    else { x with goodCycles := x.goodCycles + 1, fault := x.fault && decide (x.goodCycles + 1 < 20) }
  else x

/-- Every input of both channels after the pulse. -/
def inputsPulsed (s : State) (n : Nat) : State :=
  let cycle (s : State) (c : Channel) : State :=
    s.modChan c fun ch => { ch with inputs := ch.inputs.mapIdx (SafeIn.pulsed s.clk n (s.setB c)) }
  cycle (cycle s .sp) .sloe

/-- The pulse of TP `n` is noted. -/
def pulseNoted (s : State) (n : Nat) (overload : Bool) : State :=
  s.setSaf fun f => { f with
    tpT := f.tpT.modify n fun _ => s.clk
    tpOverload := if overload then f.tpOverload ||| BitVec.twoPow 8 n else f.tpOverload &&& ~~~ BitVec.twoPow 8 n }

/-- The inputs of channel `c` that TP `n` feeds. -/
def fedBy (s : State) (c : Channel) (n : Nat) : List Nat :=
  (List.range 16).filter fun k => siU (s.setB c) k 0 1 ≠ 0 ∧ siU (s.setB c) k 1 1 = 0 ∧ siU (s.setB c) k 2 1 = n

/-- An overload faults the inputs that the TP feeds. -/
def fedFaulted (n : Nat) (s : State) (c : Channel) : State := (fedBy s c n).foldl (fun s k => inputFault s c k) s

theorem exec_testPulse {t : Nat} {s b : State} (hb : s.advance t = b) {n : Nat} (overload : Bool)
    (hr : chanRuns b .sloe = true) (htp : tpEnabled (b.setB .sloe) n = true) : exec (.testPulse t n overload) s = .next
      (let v := pulseNoted (inputsPulsed b n) n overload
       if !overload then v else fedFaulted n (fedFaulted n v .sp) .sloe) := by
  subst hb
  change execTestPulse t n overload s = _
  unfold execTestPulse
  dsimp only
  rw [if_neg (by simp only [hr, htp]; simp)]
  rfl

end Sys2Proof.Machine
end

section
/-! SUPPORT. Safety inputs, test pulses and the cross-link, as events (10_safety.md R285, R300, R301). -/

namespace Sys2Proof.Machine

set_option Elab.async false

theorem groupRecord_saf (s : State) (grp src lv rule obj val : Nat) : (groupRecord s grp src lv rule obj val).saf = s.saf := by
  simp [groupRecord]

/-- An input's fault is set in that input alone, and recorded. -/
theorem inputFault_chan (s : State) (c d : Channel) (k : Nat) : (inputFault s c k).chan d = (s.modInput c k fun x =>
    { x with fault := true, goodCycles := 0, badCycle := true, crossLow := 0 }).chan d := by
  unfold inputFault
  dsimp only
  split
  · rfl
  · exact chan_congr (s := s.modInput c k _) (groupRecord_saf ..) d

theorem inputFault_overload (s : State) (c : Channel) (k : Nat) : (inputFault s c k).saf.tpOverload = s.saf.tpOverload := by
  unfold inputFault
  dsimp only
  split
  · cases c <;> rfl
  · cases c <;> simp [groupRecord, State.modChan]

theorem inputFault_length (s : State) (c : Channel) (k : Nat) :
    ((inputFault s c k).chan c).inputs.length = (s.chan c).inputs.length := by
  rw [inputFault_chan]
  exact (inputsOnly_modInput s c k _).length

/-- An input is found faulty. -/
def SafeIn.broken (x : SafeIn) : Prop := x.fault = true ∧ x.goodCycles = 0

theorem inputFault_breaks {s : State} {c : Channel} {k : Nat} (h : k < (s.chan c).inputs.length) :
    ((inputFault s c k).inputAt c k).broken := by
  have hat : (inputFault s c k).inputAt c k = (s.modInput c k _).inputAt c k :=
    congrArg (fun ch : Chan => ch.inputs.getD k {}) (inputFault_chan s c c k)
  rw [hat, inputAt_modInput_same _ _ _ h]
  exact ⟨rfl, rfl⟩

theorem inputFault_keeps_broken {s : State} {c : Channel} {j k : Nat} (h : (s.inputAt c k).broken) :
    ((inputFault s c j).inputAt c k).broken := by
  by_cases hlen : k < (s.chan c).inputs.length
  · by_cases hjk : k = j
    · exact hjk ▸ inputFault_breaks (hjk ▸ hlen)
    · have hat : (inputFault s c j).inputAt c k = s.inputAt c k := by
        rw [State.inputAt, inputFault_chan, State.modInput, chan_modChan_same]
        exact getD_modify_ne _ _ _ hjk
      rwa [hat]
  · rw [State.inputAt, getD_of_length_le _ (Nat.le_of_not_lt hlen)] at h
    exact absurd h.1 Bool.false_ne_true

theorem fedFaulted_overload (n : Nat) (s : State) (c : Channel) : (fedFaulted n s c).saf.tpOverload = s.saf.tpOverload :=
  foldl_proj (·.saf.tpOverload) _ (fun s k => inputFault_overload s c k) _ s

/-- An overload breaks each input that the TP feeds. -/
theorem fedFaulted_breaks {n : Nat} {s : State} {c : Channel} {k : Nat} (hk : k ∈ fedBy s c n)
    (h : k < (s.chan c).inputs.length) : ((fedFaulted n s c).inputAt c k).broken :=
  foldl_establishes (Q := fun a => k < (a.chan c).inputs.length) (P := fun a => (a.inputAt c k).broken)
    (fun a j ha => by rwa [inputFault_length]) (fun _ ha => inputFault_breaks ha)
    (fun _ _ _ ha => inputFault_keeps_broken ha) _ hk s h

/-- Faults of Sloe's inputs leave SP. -/
theorem fedFaulted_sp (n : Nat) (s : State) : (fedFaulted n s .sloe).saf.sp = s.saf.sp :=
  foldl_proj (·.saf.sp) _ (fun s k => (inputFault_chan s .sloe .sp k).trans rfl) _ s

/-! ## The cross-link -/

theorem str_length_of_sizes {s u : State} (h : u.sizes = s.sizes) : u.str.length = s.str.length :=
  congrArg (fun l : List (List Nat) => (l.headD []).headD 0) h

theorem exitHalt_str_length (s : State) (i cause : Nat) : (haltStr (exitFloat s) i cause).str.length = s.str.length :=
  str_length_of_sizes (by simp)

/-- Since when each trip of one channel on a string stands unmatched. -/
def ChanStr.unmatchedFor (now : Nat) (fns : List SafetyFn) (x : ChanStr) : ChanStr :=
  { x with discSince := fns.map fun f => (fnBit f, tblGet now (fnBit f) x.discSince) }

/-- Channel `c` notes since when its trips on string `i` stand unmatched. -/
def discNoted (c : Channel) (s : State) (i : Nat) : State :=
  s.modChanStr c i (ChanStr.unmatchedFor s.clk (commonFns.filter (unmatched s c i)))

/-- Channel `c` receives the other's message. -/
def published (s : State) (c : Channel) : State :=
  (List.range s.strings).foldl (discNoted c) (s.modChan c fun ch => { ch with crossT := s.clk })

theorem spResumed_of_runs {s : State} (h : chanRuns s .sp = true) : spResumed s = s := by
  have halive : s.saf.sp.alive = true := by
    simp only [chanRuns, Bool.and_eq_true] at h
    obtain ⟨⟨⟨halive, -⟩, -⟩, -⟩ := h
    exact halive
  unfold spResumed
  split
  · rfl
  · exact if_pos (by rw [halive]; simp)

theorem actsOn_discNoted (c : Channel) (s : State) (i : Nat) : ActsOn i s (discNoted c s i) := .modChanStr s c fun _ _ => id

theorem published_crossT (s : State) (c : Channel) : ((published s c).chan c).crossT = s.clk := by
  rw [published, field_of_rest Chan.shared (·.crossT) (foldl_shared (actsOn_discNoted c) ..), chan_modChan_same]

theorem discNoted_ne {c d : Channel} (h : d ≠ c) (s : State) (i : Nat) : (discNoted c s i).chan d = s.chan d :=
  chan_modChan_ne s _ h

theorem published_ne {c d : Channel} (h : d ≠ c) (s : State) : (published s c).chan d = s.chan d := by
  rw [published, foldl_proj (fun s => s.chan d) (discNoted c) (discNoted_ne h), chan_modChan_ne _ _ h]

theorem published_str (s : State) (c : Channel) : (published s c).str = s.str := by
  rw [published, foldl_str _ fun s i => by cases c <;> rfl]
  cases c <;> rfl

theorem published_clk (s : State) (c : Channel) : (published s c).clk = s.clk := by
  rw [published, foldl_proj State.clk _ fun s i => by cases c <;> rfl]
  cases c <;> rfl

/-- What a trip has no match for is read from the channels' trips alone. -/
theorem unmatched_congr {s u : State} {i : Nat} (h : ∀ c, ((u.chan c).at i).tripped = ((s.chan c).at i).tripped)
    (c : Channel) (f : SafetyFn) : unmatched u c i f = unmatched s c i f := by
  simp only [unmatched, h]

/-- An unmatched trip is noted with the instant since when it stands. -/
theorem discNoted_find {s : State} {c : Channel} {i : Nat} {f : SafetyFn} (hi : i < (s.chan c).str.length)
    (hf : f ∈ commonFns) (hu : unmatched s c i f = true) :
    ((((discNoted c s i).chan c).at i).discSince.find? fun e => e.1 == fnBit f).isSome = true := by
  rw [discNoted, chan_modChanStr_same, Chan.at_mod_same _ _ hi, List.find?_isSome]
  exact ⟨_, List.mem_map_of_mem (List.mem_filter.mpr ⟨hf, hu⟩), beq_self_eq_true _⟩

theorem published_find {s : State} {c : Channel} {i : Nat} {f : SafetyFn} (hs : i < s.strings)
    (hi : i < (s.chan c).str.length) (hf : f ∈ commonFns) (hu : unmatched s c i f = true) :
    ((((published s c).chan c).at i).discSince.find? fun e => e.1 == fnBit f).isSome = true := by
  have hat (d : Channel) : ((s.modChan c fun ch => { ch with crossT := s.clk }).chan d).at i = (s.chan d).at i := by
    by_cases hd : d = c
    · rw [hd, chan_modChan_same]
      rfl
    · rw [chan_modChan_ne s _ hd]
  refine foldl_passes (Q := SpareAt i (s.modChan c fun ch => { ch with crossT := s.clk }))
    (P := fun a => (((a.chan c).at i).discSince.find? fun e => e.1 == fnBit f).isSome = true) ?_ ?_ ?_ List.nodup_range
    (List.mem_range.mpr hs) (.refl i _)
  · exact fun a j hj ha => ha.trans ((actsOn_discNoted c a j).spare hj.symm)
  · intro a ha
    refine discNoted_find ?_ hf ?_
    · rw [ha.length c, chan_modChan_same]
      exact hi
    · rw [unmatched_congr (s := s) fun d => by rw [ha.chanAt d, hat d]]
      exact hu
  · intro a j hj ha
    rwa [(actsOn_discNoted c a j).chanAt c i hj.symm]

/-- What a lasting discrepancy does to both channels before the string opens (10_safety.md R285). -/
def discrepancyNoted (s : State) (c : Channel) (i : Nat) : State :=
  let f : ChanStr → ChanStr := fun x => { x with discrepancy := true, gateOff := true }
  ((s.modChanStr .sp i f).modChanStr .sloe i f).modChan c fun ch => { ch with discrepancies := ch.discrepancies + 1 }

theorem discrepancyNoted_at (s : State) (c d : Channel) (i : Nat) : ((discrepancyNoted s c i).chan d).at i =
    ((s.chan d).mod i fun x => { x with discrepancy := true, gateOff := true }).at i := by
  cases c <;> cases d <;> rfl

theorem discrepancyNoted_keeps (s : State) (c : Channel) (i : Nat) : (discrepancyNoted s c i).unit = s.unit ∧
    (discrepancyNoted s c i).str = s.str ∧ (discrepancyNoted s c i).flt = s.flt := by
  simp [discrepancyNoted, State.modChanStr]

/-- Since `t0` function `f` has stood unmatched longer than both debounces and windows allow (10_safety.md R285). -/
theorem exec_discrepancy {t i t0 : Nat} {f : SafetyFn} {s b : State} (hb : s.advance t = b) (hs : b.isStr i = true)
    (hu : unmatched b .sp i f = true)
    (hsince : (b.saf.sp.at i).discSince.find? (fun e => e.1 == fnBit f) = some (fnBit f, t0))
    (hlast : t0 + fnDebounce b i f + max (discrepancyNs (b.setB .sp)) (discrepancyNs (b.setB .sloe)) < b.clk) :
    exec (.discrepancy t i f) s = .next (detected (latchString (discrepancyNoted b .sp i) i 285) uSloe 285 (fnBit f)) := by
  subst hb
  refine congrArg Host.Outcome.next ((if_neg (by rw [hs]; simp)).trans (if_pos ?_))
  simp only [State.chan, hu, hsince, Bool.true_and]
  exact decide_eq_true hlast

/-! ## The events, on the state `b` at their instant -/

section
variable {t : Nat} {s b : State} (hb : s.advance t = b)
include hb

theorem safetyInputSample_acts {c : Channel} {levels : BitVec 16} {k : Nat} (hr : chanRuns b c = true)
    (hset : (b.chan c).set.isSome = true) (hk : k < 16) (hlen : k < (b.chan c).inputs.length) (hu : siU (b.setB c) k 0 1 ≠ 0)
    (hmode : siU (b.setB c) k 1 1 = 2) (hothers : ∀ j ∈ List.range 16, j = k ∨ siU (b.setB c) j 0 1 = 0)
    (hlow : levels.getLsbD k = false) (hx : ((b.chan c).inputs.getD k {}).high = false)
    (hdeb : siU (b.setB c) k 6 2 * nsMs ≤
      ((b.chan c).inputs.getD k {}).lowNs + (b.clk - ((b.chan c).inputs.getD k {}).lastT)) :
    Does (.safetyInputSample t c levels) s fun u => ((u.chan c).inputs.getD k {}).demand = true ∧
      ((u.chan c).inputs.getD k {}).lastT = b.clk ∧ (∀ i ∈ List.range 8, getBit (b.setB c) (448 + 8 * k + 5) 0 = true →
      getBit (b.setB c) (448 + 8 * k + 4) i = true → b.isStr i = true → i < (b.chan c).str.length →
      .ext ∈ ((u.chan c).at i).tripped) := by
  obtain ⟨v, hv⟩ : ∃ v, v = judgePair (judgeInput b c k (levels.getLsbD k)) c k := ⟨_, rfl⟩
  have hjudged := judgeInput_low hmode hx
  have honly : InputsOnly c b v := by
    rw [hv, hlow, hjudged]
    exact (inputsOnly_modInput ..).trans (judgePair_input ..).1
  obtain ⟨hdemand, hlast⟩ : (v.inputAt c k).demand = true ∧ (v.inputAt c k).lastT = b.clk := by
    obtain ⟨hd, hl⟩ := (judgePair_input (judgeInput b c k false) c k).2 k
    rw [hv, hlow, hd, hl, hjudged, inputAt_modInput_same _ _ _ hlen]
    exact ⟨Bool.or_eq_true_iff.mpr (.inr (decide_eq_true hdeb)), rfl⟩
  have hinputs : ((inputTrips (b.setB c) c v k).chan c).inputs = (v.chan c).inputs :=
    field_of_rest Chan.shared (·.inputs) (inputTrips_shared ..)
  refine ⟨_, hv ▸ exec_safetyInputSample hb levels hr hset hk hu hothers, ?_, ?_, ?_⟩
  · rw [hinputs]
    exact hdemand
  · rw [hinputs]
    exact hlast
  · intro i _ hflag hnames hs hi
    refine inputTrips_tripped ?_ hflag hnames ((isStr_congr honly.variant i).trans hs) ?_ ?_ ?_
    · simp [SafeIn.acts, hdemand]
    · rwa [chanRuns_congr (field_of_rest Chan.uninput (·.alive) honly.chan) (congrArg Power.core honly.pwr)]
    · rwa [field_of_rest Chan.uninput (·.set) honly.chan]
    · rwa [field_of_rest Chan.uninput (·.str) honly.chan]

/-- A good cycle of an input that the TP feeds is counted. -/
theorem testPulse_counts {n k : Nat} (hr : chanRuns b .sloe = true) (htp : tpEnabled (b.setB .sloe) n = true)
    (hn : n < b.saf.tpT.length) (hu : siU (b.setB .sp) k 0 1 ≠ 0) (hmode : siU (b.setB .sp) k 1 1 = 0)
    (hfed : siU (b.setB .sp) k 2 1 = n) (hgood : (b.saf.sp.inputs.getD k {}).badCycle = false)
    (hk : k < b.saf.sp.inputs.length) : Does (.testPulse t n false) s fun u => u.saf.tpT.getD n 0 = b.clk ∧
      (u.saf.sp.inputs.getD k {}).goodCycles = (b.saf.sp.inputs.getD k {}).goodCycles + 1 ∧
      (u.saf.sp.inputs.getD k {}).demand = (b.saf.sp.inputs.getD k {}).demand ∧ u.str = b.str := by
  have hx : (b.saf.sp.inputs.mapIdx (SafeIn.pulsed b.clk n (b.setB .sp))).getD k {} =
      SafeIn.pulsed b.clk n (b.setB .sp) k (b.saf.sp.inputs.getD k {}) := getD_mapIdx _ _ _ _ hk
  have hpulsed (x : SafeIn) (h : x.badCycle = false) :
      (SafeIn.pulsed b.clk n (b.setB .sp) k x).goodCycles = x.goodCycles + 1 ∧
        (SafeIn.pulsed b.clk n (b.setB .sp) k x).demand = x.demand := by
    simp [SafeIn.pulsed, hu, hmode, hfed, h]
  obtain ⟨hcycles, hdemand⟩ := hpulsed _ hgood
  refine ⟨_, exec_testPulse hb false hr htp, getD_modify_same _ _ _ _ hn, ?_, ?_, rfl⟩
  · exact (congrArg SafeIn.goodCycles hx).trans hcycles
  · exact (congrArg SafeIn.demand hx).trans hdemand

/-- An overload faults the inputs that the TP feeds. -/
theorem testPulse_faults {n k : Nat} (hr : chanRuns b .sloe = true) (htp : tpEnabled (b.setB .sloe) n = true)
    (hk16 : k < 16) (hu : siU (b.setB .sp) k 0 1 ≠ 0) (hmode : siU (b.setB .sp) k 1 1 = 0)
    (hfed : siU (b.setB .sp) k 2 1 = n) (hk : k < b.saf.sp.inputs.length) : Does (.testPulse t n true) s fun u =>
      (u.saf.sp.inputs.getD k {}).fault = true ∧ (u.saf.sp.inputs.getD k {}).goodCycles = 0 ∧
      u.saf.tpOverload = b.saf.tpOverload ||| BitVec.twoPow 8 n := by
  obtain ⟨v, hv⟩ : ∃ v, v = pulseNoted (inputsPulsed b n) n true := ⟨_, rfl⟩
  have hset : v.setB .sp = b.setB .sp := setB_congr (by rw [hv]; rfl)
  have hmem : k ∈ fedBy v .sp n := by
    simp only [fedBy, hset, List.mem_filter, List.mem_range, decide_eq_true_eq]
    exact ⟨hk16, hu, hmode, hfed⟩
  have hlen : k < (v.chan .sp).inputs.length := by
    rw [hv]
    exact (List.length_mapIdx (l := b.saf.sp.inputs)).symm ▸ hk
  obtain ⟨hfault, hcycles⟩ := fedFaulted_breaks hmem hlen
  refine ⟨fedFaulted n (fedFaulted n v .sp) .sloe, ?_, ?_, ?_, ?_⟩
  · rw [exec_testPulse hb true hr htp, hv]
    rfl
  · rw [fedFaulted_sp]
    exact hfault
  · rw [fedFaulted_sp]
    exact hcycles
  · rw [fedFaulted_overload, fedFaulted_overload, hv]
    rfl

theorem crossLinkPublish_notes (hsp : chanRuns b .sp = true) (hsloe : chanRuns b .sloe = true) : Does (.crossLinkPublish t) s
    fun u => u.saf.sp.crossT = b.clk ∧ u.saf.sloe.crossT = b.clk ∧ (∀ i, i < b.strings → i < b.saf.sp.str.length →
      ∀ f ∈ commonFns, unmatched b .sp i f = true →
        ((u.saf.sp.at i).discSince.find? (fun e => e.1 == fnBit f)).isSome = true) ∧ u.str = b.str := by
  have hlast : (published (published b .sp) .sloe).saf.sp = (published b .sp).saf.sp :=
    published_ne (c := .sloe) (d := .sp) (by decide) _
  refine ⟨published (published b .sp) .sloe, ?_, ?_, ?_, fun i hs hi f hf hu => ?_, ?_⟩
  · subst hb
    change Host.Outcome.next _ = _
    rw [spResumed_of_runs hsp, if_neg (by rw [hsp, hsloe]; decide)]
    rfl
  · rw [hlast]
    exact published_crossT b .sp
  · rw [← published_clk b .sp]
    exact published_crossT _ .sloe
  · rw [hlast]
    exact published_find (c := .sp) hs hi hf hu
  · rw [published_str, published_str]

theorem discrepancy_opens {i t0 : Nat} {f : SafetyFn} (hs : b.isStr i = true) (hu : unmatched b .sp i f = true)
    (hsince : (b.saf.sp.at i).discSince.find? (fun e => e.1 == fnBit f) = some (fnBit f, t0))
    (hlast : t0 + fnDebounce b i f + max (discrepancyNs (b.setB .sp)) (discrepancyNs (b.setB .sloe)) < b.clk)
    (hc : Commands b) (hconn : strConnected b i = true) (hi : i < b.str.length) (hsp : i < b.saf.sp.str.length)
    (hsloe : i < b.saf.sloe.str.length) (hret : b.retired uSloe = false) : Does (.discrepancy t i f) s fun u =>
      (u.strAt i).state = .halted ∧ (u.saf.sp.at i).discrepancy = true ∧ (u.saf.sloe.at i).discrepancy = true ∧
      u.suspended uSloe = true := by
  obtain ⟨v, hv⟩ : ∃ v, v = latchString (discrepancyNoted b .sp i) i 285 := ⟨_, rfl⟩
  obtain ⟨hunit, hstr, hflt⟩ := discrepancyNoted_keeps b .sp i
  have hdisc (c : Channel) (hlen : i < (b.chan c).str.length) :
      (((detected v uSloe 285 (fnBit f)).chan c).at i).discrepancy = true := by
    rw [chan_congr (s := v) (by simp), field_of_rest ChanStr.verdict (·.discrepancy) (hv ▸ latchString_verdict _ i 285 c i),
      discrepancyNoted_at, Chan.at_mod_same _ _ hlen]
  refine ⟨detected v uSloe 285 (fnBit f), ?_, ?_, hdisc .sp hsp, hdisc .sloe hsloe, detected_suspended _ _ _ _ ?_⟩
  · rw [hv]
    exact exec_discrepancy hb hs hu hsince hlast
  · rw [strAt_congr (s := v) (by simp), hv]
    exact latchString_halted 285 (by rwa [Commands, hunit]) ((strConnected_congr (strAt_congr hstr i)).trans hconn)
      (by rwa [hstr])
  · rw [hv, retired_congr (s := discrepancyNoted b .sp i) (by simp), retired_congr hflt]
    exact hret

theorem silentPartner_halts {i : Nat} (hsp : b.saf.sp.crossT + 10 * nsMs ≤ b.clk)
    (hsloe : b.saf.sloe.crossT + 10 * nsMs ≤ b.clk) (hc : Commands b) (hsingle : b.saf.sloe.singleUntil = none)
    (hs : i < b.strings) (hi : i < b.str.length) (hconn : strConnected b i = true) :
    Does (.silentPartner t) s fun u => (u.strAt i).state = .halted := by
  refine ⟨(List.range b.strings).foldl (fun s i => haltStr (exitFloat s) i 285) b, ?_, ?_⟩
  · subst hb
    refine congrArg Host.Outcome.next (if_pos ?_)
    simp only [hsp, hsloe, commands_of_role hc, hsingle]
    rfl
  · refine foldl_passes (Q := fun a : State => a.strAt i = b.strAt i ∧ a.str.length = b.str.length)
      (P := fun a : State => (a.strAt i).state = .halted) ?_ ?_ ?_ List.nodup_range (List.mem_range.mpr hs) ⟨rfl, rfl⟩
    · rintro a j hj ⟨hat, hlen⟩
      exact ⟨by rw [haltStr_strAt_ne _ _ hj.symm, exitFloat_strAt, hat], (exitHalt_str_length ..).trans hlen⟩
    · rintro a ⟨hat, hlen⟩
      refine haltStr_halted 285 ((strConnected_congr ((exitFloat_strAt a i).trans hat)).trans hconn) ?_
      simpa [hlen] using hi
    · intro a j hj ha
      rwa [haltStr_strAt_ne _ _ hj.symm, exitFloat_strAt]

end

/-- Settles O26: each clause is the law of its event. A trip, a weld or a lasting discrepancy is latched in the channels before
it halts the string, and an operation on one string leaves the others' channels and contactors as they were. -/
theorem tripsAndContactors : Obligations.TripsAndContactors :=
  ⟨fun _ _ _ _ _ => trip_halts rfl, fun _ _ _ _ _ => trip_latches rfl, fun _ _ _ _ _ => closeRequest_closes rfl,
    fun _ _ _ _ _ => closeRequest_waits rfl, fun _ _ _ _ _ => closeRequestTimeout_halts rfl,
    fun _ _ _ _ _ _ _ => cdbCycle_energises rfl, fun _ _ _ _ _ => cdbCycle_suspends rfl,
    fun _ _ _ => openSecondPole_opens rfl, fun _ _ _ _ => weld_latches rfl, fun _ _ => bkrTripEnd_ends rfl,
    fun _ _ _ _ _ hr hset hk hlen hu hm _ => safetyInputSample_acts rfl hr hset hk hlen hu hm,
    fun _ _ _ _ => testPulse_counts rfl, fun _ _ _ _ => testPulse_faults rfl,
    fun _ _ => crossLinkPublish_notes rfl, fun _ _ _ _ _ => discrepancy_opens rfl, fun _ _ _ => silentPartner_halts rfl⟩

end Sys2Proof.Machine
end

section
/-! SUPPORT. Safety parameter sets and monitor thresholds, and the statement they settle (10_safety.md R304 to R311). -/

namespace Sys2Proof.Machine

set_option Elab.async false

/-! ## Sets -/

theorem ok_saf (s : State) (op : Nat) (q : Req) (p : Bytes) : (ok s op q p).saf = s.saf := by simp

theorem bufRead_congr {s u : State} {d : Nat} (n : Nat) (hm : u.mem = s.mem) (hd : (u.desc d).offset = (s.desc d).offset) :
    bufRead u d n = bufRead s d n := by
  rw [bufRead, bufRead, hm, hd]

/-- The checks of a set read the variant and the TI configuration alone (10_safety.md R307). -/
theorem setBad_congr {s u : State} (hv : u.variant = s.variant) (ht : u.th = s.th) (b : Bytes) : setBad u b = setBad s b := by
  have hti (n : Nat) : u.tiAt n = s.tiAt n := by rw [State.tiAt, State.tiAt, ht]
  have hblock : blockBad u b = blockBad s b := by
    funext i
    simp only [blockBad, isStr_congr hv]
  have htiEntry : tiEntryBad u b = tiEntryBad s b := by
    funext n
    simp only [tiEntryBad, hti]
  simp only [setBad, hblock, htiEntry, hv]

theorem stageSet_stagedBad (s : State) (b : Bytes) : (stageSet s b).saf.sp.stagedBad = setBad s b := rfl

/-- What a channel holds in force and what it will activate. -/
def Chan.inForce (c : Chan) : Option Bytes × Option Bytes × Option Nat := (c.set, c.prevSet, c.activateAt)

theorem inForce_modChan (s : State) (c d : Channel) {f : Chan → Chan} (h : ∀ x, (f x).inForce = x.inForce) :
    ((s.modChan c f).chan d).inForce = (s.chan d).inForce := by
  by_cases hd : d = c
  · rw [hd, chan_modChan_same, h]
  · rw [chan_modChan_ne s f hd]

/-- From `s` to `u` both channels' sets in force stay, and so does the end of the loading window. -/
structure ForcesAs (s u : State) : Prop where
  sets : ∀ d, (u.chan d).inForce = (s.chan d).inForce
  loading : u.saf.loadingEnd = s.saf.loadingEnd
  clk : u.clk = s.clk

namespace ForcesAs

theorem refl (s : State) : ForcesAs s s := ⟨fun _ => rfl, rfl, rfl⟩

theorem trans {s u v : State} (h : ForcesAs s u) (k : ForcesAs u v) : ForcesAs s v :=
  ⟨fun d => (k.sets d).trans (h.sets d), k.loading.trans h.loading, k.clk.trans h.clk⟩

theorem of_saf {s u : State} (h : u.saf = s.saf := by simp) (hc : u.clk = s.clk := by simp) : ForcesAs s u :=
  ⟨fun d => by rw [chan_congr h], by rw [h], hc⟩

theorem modChan (s : State) (c : Channel) {f : Chan → Chan} (h : ∀ x, (f x).inForce = x.inForce) :
    ForcesAs s (s.modChan c f) :=
  ⟨fun d => inForce_modChan s c d h, by cases c <;> rfl, by cases c <;> rfl⟩

theorem modChan_both (s : State) {f : Chan → Chan} (h : ∀ x, (f x).inForce = x.inForce) :
    ForcesAs s ((s.modChan .sp f).modChan .sloe f) := (ForcesAs.modChan s .sp h).trans (.modChan _ .sloe h)

theorem record (s : State) (code src lv p0 p1 p2 : Nat) : ForcesAs s (Machine.record s code src lv p0 p1 p2) := .of_saf

theorem deferWrite (s : State) (k : Nat) : ForcesAs s (Machine.deferWrite s k) := .of_saf

theorem ite {s u v : State} {c : Prop} [Decidable c] (hu : ForcesAs s u) (hv : ForcesAs s v) :
    ForcesAs s (if c then u else v) := by
  split
  · exact hu
  · exact hv

end ForcesAs

theorem putSlot_inForce (b : Bytes) (ch : Chan) : (putSlot b ch).inForce = ch.inForce := by
  unfold putSlot
  split <;> rfl

theorem updateMismatch_forces (s : State) : ForcesAs s (updateMismatch s) :=
  .trans (u := s.setSaf _) ⟨fun d => by cases d <;> rfl, rfl, rfl⟩ (.ite (.record ..) (.refl _))

theorem discardStaged_forces (s : State) : ForcesAs s (discardStaged s) := .modChan_both s fun _ => rfl

/-- A channel takes set `b` and keeps the former one. -/
def setTaken (s : State) (c : Channel) (b : Bytes) : State :=
  s.modChan c fun ch => { ch with
    prevSet := ch.set, set := some b, activateAt := none, degradeUsed := 0, downSince := ch.downSince.map fun _ => s.clk }

/-- The communication restarts where the set changes it (10_safety.md R298, R315). -/
def commRestarted (old b : Bytes) (s : State) (c : Channel) : State :=
  let same (off n : Nat) : Bool := getU old off n == getU b off n
  if same 421 1 && same 426 2 && same 428 4 && same 432 4 && !old.isEmpty then s
  else commFresh s c b (same 421 1 && same 428 4 && !old.isEmpty)

/-- The set is stored in a slot, at once or when there is the energy, and the activation is recorded (10_safety.md R311). -/
def setStored (b : Bytes) (s : State) (c : Channel) : State :=
  record (if energyOk s then s.modChan c (putSlot b) else deferWrite s wrConfig) 0x32 (chanSrc c) lvInfo (getU b 12 4)
    (setCrc b) (chanBit c)

def loadingOpened (s : State) : State := s.setSaf fun f => { f with loadingEnd := some (s.clk + 5 * nsS) }

/-- The second channel to activate ends the activation: the rings whose thresholds moved reload. -/
def activationEnded (old b : Bytes) (s : State) : State :=
  let s := (List.range s.strings).foldl (fun s i =>
    if thrOf old i = thrOf b i ∧ !old.isEmpty then s
    else s.modRing i fun r => { r with thrTodo := List.range r.n }) s
  updateMismatch ((discardStaged s).setSaf fun f => { f with activationPending := false })

theorem activateSet_eq (s : State) (c : Channel) (b : Bytes) : activateSet s c b =
    (let v := loadingOpened (setStored b (commRestarted (s.setB c) b (setTaken s c b) c) c)
     if (v.chan (otherChan c)).activateAt.isSome then v else activationEnded (s.setB c) b v) := rfl

theorem commRestarted_forces (old b : Bytes) (s : State) (c : Channel) : ForcesAs s (commRestarted old b s c) :=
  .ite (.refl s) (.modChan s c fun _ => rfl)

theorem setStored_forces (b : Bytes) (s : State) (c : Channel) : ForcesAs s (setStored b s c) :=
  .trans (.ite (.modChan s c (putSlot_inForce b)) (.deferWrite s _)) (.record ..)

theorem activationEnded_forces (old b : Bytes) (s : State) : ForcesAs s (activationEnded old b s) := by
  have hrings (v : State) (i : Nat) : ForcesAs v (if thrOf old i = thrOf b i ∧ !old.isEmpty then v
      else v.modRing i fun r => { r with thrTodo := List.range r.n }) := .ite (.refl v) .of_saf
  refine (List.foldlRecOn (motive := ForcesAs s) (List.range s.strings) _ (.refl s) fun v hv i _ => hv.trans (hrings v i)).trans
    ((discardStaged_forces _).trans (.trans ?_ (updateMismatch_forces _)))
  exact ⟨fun d => by cases d <;> rfl, rfl, rfl⟩

/-- A channel that activates takes the set, and the window in which the former one counts opens. -/
theorem activateSet_takes (s : State) (c : Channel) (b : Bytes) :
    ((activateSet s c b).chan c).inForce = (some b, (s.chan c).set, none) ∧
      ((activateSet s c b).chan (otherChan c)).inForce = (s.chan (otherChan c)).inForce ∧
      (activateSet s c b).saf.loadingEnd = some (s.clk + 5 * nsS) := by
  have htaken : ((setTaken s c b).chan c).inForce = (some b, (s.chan c).set, none) := by
    rw [setTaken, chan_modChan_same]
    rfl
  have hother : (setTaken s c b).chan (otherChan c) = s.chan (otherChan c) := chan_modChan_ne s _ (by cases c <;> decide)
  have hclk : (setTaken s c b).clk = s.clk := by cases c <;> rfl
  obtain ⟨v, hv⟩ : ∃ v, v = setStored b (commRestarted (s.setB c) b (setTaken s c b) c) c := ⟨_, rfl⟩
  have hstored : ForcesAs (setTaken s c b) v := hv ▸ (commRestarted_forces ..).trans (setStored_forces ..)
  have hopened (d : Channel) : (loadingOpened v).chan d = v.chan d := by cases d <;> rfl
  have hend : ForcesAs (loadingOpened v) (activateSet s c b) := by
    rw [activateSet_eq, ← hv]
    exact .ite (.refl _) (activationEnded_forces ..)
  refine ⟨?_, ?_, ?_⟩
  · rw [hend.sets, hopened, hstored.sets, htaken]
  · rw [hend.sets, hopened, hstored.sets, hother]
  · rw [hend.loading, loadingOpened, State.setSaf_saf, hstored.clk, hclk]

/-! ## The commands -/

section
variable {s : State} {q : Req} (h : Taken s q) (hr : AnyRole s)
include h hr

theorem safStage_stages (hl : q.payload.length = 8) (hz : getU q.payload 2 2 = 0) (hn : getU q.payload 4 4 = 1024)
    (hd : descOk s q (getU q.payload 0 2) 1024 = true) : Does (.safStage q) s fun u => Answered u q 0x0901 stOk 0 [] ∧
      u.saf.sp.staged = some (bufRead s (getU q.payload 0 2) 1024) ∧ u.saf.sloe.staged = u.saf.sp.staged ∧
      u.saf.sp.stagedBad = setBad s (bufRead s (getU q.payload 0 2) 1024) ∧ u.saf.sp.set = s.saf.sp.set ∧
      u.saf.stageT = s.clk ∧ u.str = s.str := by
  have ⟨_, _, henv⟩ := h
  have hne : getU q.payload 0 2 ≠ noDesc := descOk_noDesc _ _ _ _ hd
  obtain ⟨sp, hrun, hrej⟩ : ∃ sp, execSafStage q s = command sp (fun s q =>
      ok (stageSet s (bufRead s (getU q.payload 0 2) 1024)) 0x0901 q []) q s ∧ rejection sp s q = none := by
    refine ⟨_, rfl, rejection_of_argument (if_pos hl) hr henv ?_ rfl rfl rfl rfl ?_ rfl⟩
    · simp [firstBad, must, zeroAt, hne, hz, hn]
    · simp [ownerBad, descAt, hne, hd, hn]
  obtain ⟨v, hv⟩ : ∃ v, v = noteDesc sp (touch s) q := ⟨_, rfl⟩
  have hbuf : bufRead v (getU q.payload 0 2) 1024 = bufRead s (getU q.payload 0 2) 1024 :=
    bufRead_congr 1024 (by simp [hv, touch]) (hv ▸ (noteDesc_desc sp (touch s) q _).1)
  have hsaf : v.saf = s.saf := by simp [hv, touch]
  refine ⟨ok (stageSet v (bufRead s (getU q.payload 0 2) 1024)) 0x0901 q [], ?_, ok_answered .., ?_⟩
  · rw [← hbuf, hv]
    exact hrun.trans (command_run _ _ q s h hrej)
  · rw [ok_saf]
    refine ⟨rfl, rfl, ?_, congrArg (·.sp.set) hsaf, ?_, ?_⟩
    · rw [stageSet_stagedBad, setBad_congr (s := s) (u := v) (by simp [hv, touch]) (by simp [hv, touch])]
    · simp [stageSet, hv, touch]
    · simp [stageSet, hv, touch]

theorem safCommit_commits (hl : q.payload.length = 4) (hp : s.saf.activationPending = false)
    (ha : commitBad s (getU q.payload 0 4) = none) : Does (.safCommit q) s fun u => Answered u q 0x0903 stOk 0 [] ∧
      u.saf.sp.activateAt = some (s.clk + 20 * nsMs) ∧ u.saf.sloe.activateAt = some (s.clk + 20 * nsMs) ∧
      u.saf.activationPending = true ∧ u.saf.sp.set = s.saf.sp.set ∧ u.str = s.str := by
  have ⟨_, _, henv⟩ := h
  obtain ⟨v, hv⟩ : ∃ v, v = (((touch s).modChan .sp fun ch => { ch with activateAt := some (s.clk + 20 * nsMs) }).modChan .sloe
    fun ch => { ch with activateAt := some (s.clk + 20 * nsMs) }).setSaf fun f => { f with activationPending := true } :=
    ⟨_, rfl⟩
  refine ⟨ok v 0x0903 q [], ?_, ok_answered .., ?_⟩
  · rw [hv]
    change execSafCommit q s = _
    refine command_run _ _ q s h ?_
    exact rejection_of_argument (if_pos hl) hr henv ha rfl rfl rfl (if_neg (ne_true_of_eq_false hp)) rfl rfl
  · rw [ok_saf, hv]
    exact ⟨rfl, rfl, rfl, rfl, by simp [touch]⟩

theorem safDiscard_drops (hl : q.payload.length = 0) (hp : s.saf.activationPending = false) :
    Does (.safDiscard q) s fun u => Answered u q 0x0904 stOk 0 [] ∧ u.saf.sp.staged = none ∧ u.saf.sloe.staged = none ∧
      u.saf.sp.set = s.saf.sp.set ∧ u.str = s.str := by
  have ⟨_, _, henv⟩ := h
  have hgo : (if (touch s).saf.activationPending then touch s else discardStaged (touch s)) = discardStaged (touch s) :=
    if_neg (ne_true_of_eq_false hp)
  refine ⟨ok (discardStaged (touch s)) 0x0904 q [], ?_, ok_answered .., ?_⟩
  · rw [← hgo]
    change execSafDiscard q s = _
    refine command_run _ _ q s h ?_
    exact rejection_of_argument (if_pos hl) hr henv rfl rfl rfl rfl rfl rfl rfl
  · rw [ok_saf]
    exact ⟨rfl, rfl, rfl, by simp [touch]⟩

end

/-! ## The events, on the state `b` at their instant -/

section
variable {t : Nat} {s b : State} (hb : s.advance t = b)
include hb

theorem stagedSetDiscard_drops (hst : b.saf.sp.staged.isSome = true) (hp : b.saf.activationPending = false)
    (ht : b.saf.stageT + 600 * nsS ≤ b.clk) : Does (.stagedSetDiscard t) s fun u => u.saf.sp.staged = none ∧
      u.saf.sloe.staged = none ∧ u.saf.sp.set = b.saf.sp.set ∧ u.str = b.str := by
  subst hb
  exact ⟨_, congrArg Host.Outcome.next (if_pos (by simp only [hst, hp, ht]; rfl)), rfl, rfl, rfl, rfl⟩

theorem setActivation_takes {c : Channel} {a : Nat} {set : Bytes} (hat : (b.chan c).activateAt = some a)
    (hst : (b.chan c).staged = some set) (ht : a ≤ b.clk) (hr : chanRuns b c = true) : Does (.setActivation t c) s fun u =>
      (u.chan c).set = some set ∧ (u.chan c).prevSet = (b.chan c).set ∧ (u.chan c).activateAt = none ∧
      u.saf.loadingEnd = some (b.clk + 5 * nsS) ∧ (u.chan (otherChan c)).set = (b.chan (otherChan c)).set ∧ u.str = b.str := by
  obtain ⟨hmine, hother, hloading⟩ := activateSet_takes b c set
  refine ⟨activateSet b c set, ?_, congrArg (·.1) hmine, congrArg (·.2.1) hmine, congrArg (·.2.2) hmine, hloading,
    congrArg (·.1) hother, by simp⟩
  subst hb
  change execSetActivation t c s = _
  simp only [execSetActivation, hat, hst]
  exact congrArg Host.Outcome.next (if_pos (by simp only [ht, hr]; rfl))

theorem loadingWindowEnd_drops {e : Nat} (he : b.saf.loadingEnd = some e) (ht : e ≤ b.clk) :
    Does (.loadingWindowEnd t) s fun u => u.saf.loadingEnd = none ∧ u.saf.sp.prevSet = none ∧ u.saf.sloe.prevSet = none ∧
      u.saf.sp.set = b.saf.sp.set ∧ u.str = b.str := by
  obtain ⟨v, hv⟩ : ∃ v, v = ((b.setSaf fun x => { x with loadingEnd := none }).modChan .sp fun c =>
    { c with prevSet := none }).modChan .sloe fun c => { c with prevSet := none } := ⟨_, rfl⟩
  refine ⟨v, ?_, by rw [hv]; exact ⟨rfl, rfl, rfl, rfl, rfl⟩⟩
  subst hb hv
  change execLoadingWindowEnd t s = _
  simp only [execLoadingWindowEnd, he]
  rw [if_pos ht]

/-- A monitor that follows this unit takes the thresholds, and acknowledges with their CRC. -/
theorem thrLoad_loads {i m : Nat} {thr : Thresholds} (hf : (b.monAt i m).followsUs = true) (hm : HasMon b i m) :
    Does (.thrLoad t i m true thr) s fun u => (u.monAt i m).thr = some thr ∧
      (u.monAt i m).ack.map (fun a => (a.1, a.2.1)) = some (0x10, 0) ∧
      (u.monAt i m).ack.map (·.2.2) = some (thrCrc thr) ∧ u.str = b.str := by
  subst hb
  refine ⟨_, congrArg Host.Outcome.next (if_pos (by rw [hf]; rfl)), ?_, ?_, ?_, rfl⟩ <;> rw [monAt_modMon_same _ _ hm] <;> rfl

/-- The ring sends THR_LOAD to monitor `m`, which then waits behind the others. -/
def thrSent (m now : Nat) (todo : List Nat) (r : Ring) : Ring :=
  { (r.modMon m fun x => { x with credits := x.credits - 1, seq := (x.seq + 1) % 256 }) with
    thrTodo := todo.filter (· ≠ m) ++ [m]
    outstanding := r.outstanding ++ [{ m := m, seq := ((r.mon m).seq + 1) % 256, type := 6, arg := 0x10
                                       departed := now, resent := false }] }

theorem exec_thresholdReload {i m : Nat} {rest : List Nat} (hset : b.saf.sp.set.isSome = true)
    (hdecl : (b.ringAt i).declared = true) (htodo : (b.ringAt i).thrTodo = m :: rest) (hwrong : thrWrong b i = [])
    (hm : HasMon b i m) (hreach : (b.monAt i m).unreachable = false) (hcred : 0 < (b.monAt i m).credits)
    (hr : ringRuns b i = true) (hmaster : ringMaster b = true) : exec (.thresholdReload t i) s =
      .next ((b.modRing i fun r => { r with thrTodo := m :: rest }).modRing i (thrSent m b.clk (m :: rest))) := by
  have hmon : (b.modRing i fun r => { r with thrTodo := m :: rest }).monAt i m = b.monAt i m := by
    rw [State.monAt, ringAt_modRing_same _ _ hm.1]
    rfl
  have hfind : (m :: rest).find? (fun k => !((b.modRing i fun r => { r with thrTodo := m :: rest }).monAt i k).unreachable &&
      decide (0 < ((b.modRing i fun r => { r with thrTodo := m :: rest }).monAt i k).credits)) = some m :=
    List.find?_cons_of_pos (by rw [hmon, hreach, decide_eq_true hcred]; rfl)
  subst hb
  refine congrArg Host.Outcome.next ((if_neg ?_).trans ?_)
  · simp only [Option.isNone_eq_false_iff.mpr hset, hdecl, hr, hmaster]
    decide
  · simp only [htodo, hwrong, List.filter_nil, List.append_nil, hfind]
    rfl

theorem thresholdReload_sends {i m : Nat} {rest : List Nat} (hset : b.saf.sp.set.isSome = true)
    (hdecl : (b.ringAt i).declared = true) (htodo : (b.ringAt i).thrTodo = m :: rest) (hnew : m ∉ rest)
    (hwrong : thrWrong b i = []) (hm : HasMon b i m) (hreach : (b.monAt i m).unreachable = false)
    (hcred : 0 < (b.monAt i m).credits) (hr : ringRuns b i = true) (hmaster : ringMaster b = true) :
    Does (.thresholdReload t i) s fun u => (u.ringAt i).thrTodo = rest ++ [m] ∧ Sent b u i m 6 0x10 ∧ u.str = b.str := by
  obtain ⟨u, hu⟩ : ∃ u, u = (b.modRing i fun r => { r with thrTodo := m :: rest }).modRing i (thrSent m b.clk (m :: rest)) :=
    ⟨_, rfl⟩
  have hring : u.ringAt i = thrSent m b.clk (m :: rest) { b.ringAt i with thrTodo := m :: rest } := by
    rw [hu, ringAt_modRing_same, ringAt_modRing_same _ _ hm.1]
    simpa [State.modRing] using hm.1
  have hrest : (m :: rest).filter (· ≠ m) = rest := by
    rw [List.filter_cons_of_neg (by simp), List.filter_eq_self]
    intro k hk
    simpa using fun hkm : k = m => hnew (hkm ▸ hk)
  refine ⟨u, hu ▸ exec_thresholdReload hb hset hdecl htodo hwrong hm hreach hcred hr hmaster, ?_, ⟨?_, ?_⟩, by rw [hu]; rfl⟩
  · rw [hring]
    exact congrArg (· ++ [m]) hrest
  · rw [hring]
    rfl
  · rw [State.monAt, hring]
    exact congrArg Monitor.credits (mon_modMon_same (b.ringAt i) _ hm.2)

end

/-- Settles O27: each clause is the law of its command or event. A set moves from the buffer to the channels' staged field and,
with a commit, into force; the rest of the activation leaves what is in force. -/
theorem safetySets : Obligations.SafetySets :=
  ⟨fun _ _ => safStage_stages, fun _ _ => safCommit_commits, fun _ _ => safDiscard_drops,
    fun _ _ => stagedSetDiscard_drops rfl, fun _ _ _ _ _ => setActivation_takes rfl, fun _ _ _ => loadingWindowEnd_drops rfl,
    fun _ _ _ _ _ => thrLoad_loads rfl, fun _ _ _ _ _ => thresholdReload_sends rfl⟩

end Sys2Proof.Machine
end

section
/-! SUPPORT. Safe communication, and the statement it settles (10_safety.md R298, R313 to R318). -/

namespace Sys2Proof.Machine

set_option Elab.async false

/-! ## The payload -/

theorem getU_slice_byte (b : Bytes) (off : Nat) {n k : Nat} (h : k < n) : getU (slice b off n) k 1 = getU b (off + k) 1 := by
  simp [getU, slice, List.getD_eq_getElem?_getD, h]

theorem getBit_slice (b : Bytes) (off : Nat) {n k j : Nat} (h : k + j / 8 < n) :
    getBit (slice b off n) k j = getBit b (off + k) j := by
  rw [getBit, getBit, getU_slice_byte b off h, Nat.add_assoc]

/-! ## Acceptance -/

/-- Reading an entry of the receive ring leaves the channels. -/
theorem readRx_chan (s : State) (c : Channel) (net : Nat) (pdu : Bytes) (d : Channel) :
    (readRx s c net pdu).chan d = s.chan d := by
  unfold readRx
  dsimp only
  split
  · rfl
  · cases d <;> rfl

theorem kzvPdu_chan (s : State) (net : Nat) (c : Channel) : (kzvPdu s net).chan c = s.chan c := by
  unfold kzvPdu
  dsimp only
  split <;> cases c <;> rfl

/-- What a plant payload asks of one string (10_safety.md R317). -/
def plantStep (p : Bytes) (c : Channel) (s : State) (i : Nat) : State :=
  if getBit p 1 0 || !getBit p 0 i then trip s c i .comm
  else s.modChanStr c i fun x => { x with commClear := true }

theorem actsOn_plantStep (p : Bytes) (c : Channel) (s : State) (i : Nat) : ActsOn i s (plantStep p c s i) := by
  unfold plantStep
  split
  · exact actsOn_trip ..
  · exact .modChanStr s c fun _ _ => id

theorem plantActs_chan (s : State) (c d : Channel) (p : Bytes) :
    (plantActs s c p).chan d = ((List.range s.strings).foldl (plantStep p c) s).chan d := by
  unfold plantActs
  dsimp only
  split
  · exact (bkrAssert_keeps_contactors ..).1 d
  · rfl

/-- The network, the sequence and the permits of a channel that has accepted a PDU, with its watchdog set to `wd`. -/
def Chan.accepting (seq permits wd : Nat) (ch : Chan) : Chan :=
  { ch with lastSeq := some seq, accepted := ch.accepted + 1, commForbid := false, permits := BitVec.ofNat 8 permits
            wdEnd := some wd }

/-- The acceptance of a PDU, before its payload acts. -/
def pduTaken (s : State) (c : Channel) (seq : Nat) (p : Bytes) : State :=
  s.modChan c (Chan.accepting seq (getU p 0 1) (s.clk + getU (s.setB c) 424 2 * nsMs))

theorem acceptPdu_chan (s : State) (c : Channel) (net seq : Nat) (p : Bytes) (d : Channel) :
    (acceptPdu s c net seq p).chan d = (plantActs (pduTaken s c seq p) c p).chan d := by
  unfold acceptPdu
  dsimp only
  split
  · exact kzvPdu_chan ..
  · rfl

/-- What an accepted PDU leaves in its channel beside the strings. -/
theorem acceptPdu_shared (s : State) (c : Channel) (net seq : Nat) (p : Bytes) : ((acceptPdu s c net seq p).chan c).shared =
    ((s.chan c).accepting seq (getU p 0 1) (s.clk + getU (s.setB c) 424 2 * nsMs)).shared := by
  rw [acceptPdu_chan, plantActs_chan, foldl_shared (actsOn_plantStep p c), pduTaken, chan_modChan_same]

/-- A stop demand trips every string (10_safety.md R317). -/
theorem acceptPdu_trips {s : State} {c : Channel} (net seq : Nat) {p : Bytes} {i : Nat} (hstop : getBit p 1 0 = true)
    (hi : i < s.strings) (hr : chanRuns s c = true) (hset : (s.chan c).set.isSome = true) (hlen : i < (s.chan c).str.length) :
    .comm ∈ (((acceptPdu s c net seq p).chan c).at i).tripped := by
  obtain ⟨v, hv⟩ : ∃ v, v = pduTaken s c seq p := ⟨_, rfl⟩
  have hchan : v.chan c = (s.chan c).accepting seq (getU p 0 1) (s.clk + getU (s.setB c) 424 2 * nsMs) := by
    rw [hv, pduTaken, chan_modChan_same]
  have hruns : chanRuns v c = true := by
    rwa [chanRuns_congr (s := s) (by rw [hchan]; rfl) (by rw [hv]; cases c <;> rfl)]
  have hstrings : v.strings = s.strings := strings_congr (by rw [hv]; cases c <;> rfl)
  rw [acceptPdu_chan, ← hv, plantActs_chan]
  refine foldl_tripped (actsOn_plantStep p c) List.nodup_range (List.mem_range.mpr (hstrings ▸ hi)) fun a ha => ?_
  have hgo : plantStep p c a i = trip a c i .comm := if_pos (by rw [hstop]; rfl)
  rw [hgo]
  exact ha.trip_tripped (by cases c <;> rfl) hruns (by rw [hchan]; exact hset) (by rw [hchan]; exact hlen)

/-! ## The networks -/

/-- A channel but for the state of the two networks. -/
def Chan.unpaired (ch : Chan) : Chan :=
  { ch with downA := false, downB := false, upSince := none, degradeUsed := 0, downSince := none, bothUpSince := 0 }

theorem pairedUp_chan (s : State) (c : Channel) : ((pairedUp s c).chan c).unpaired = (s.chan c).unpaired := by
  unfold pairedUp
  dsimp only
  split
  · rfl
  · split <;> rw [chan_modChan_same] <;> rfl

/-- With the other network up no single copy is accepted (10_safety.md R316). -/
theorem singleOk_of_up_b {s : State} {c : Channel} (h : (s.chan c).downB = false) : singleOk s c 0 = false := by
  simp [singleOk, h]

/-- With the minutes spent no single copy is accepted (10_safety.md R316). -/
theorem singleOk_of_spent {s : State} {c : Channel} {net : Nat}
    (h : getU (s.setB c) 436 2 * 60 * nsS ≤ degradeSpent s (s.chan c)) : singleOk s c net = false := by
  simp [singleOk, h]

/-- A native PDU passes the checks of its form (10_safety.md R314). -/
theorem exec_safePduReceived {t : Nat} {s b : State} (hb : s.advance t = b) {c : Channel} {net : Nat} {pdu : Bytes}
    (hr : chanRuns b c = true) (hset : (b.chan c).set.isSome = true) (hmode : commMode (b.setB c) = 1) (hnet : net < 2)
    (hl : pdu.length = 44) (htype : getU pdu 0 2 = 0x5301) (hlen : getU pdu 2 2 = 16)
    (hconn : getU pdu 4 4 = getU (b.setB c) 428 4) (hcrc : getU pdu 40 4 = safetyCrc (pdu.take 40)) :
    exec (.safePduReceived t c net pdu) s = .next (nativeCopy (readRx b c net pdu) c net pdu) := by
  have hchan := readRx_chan b c net pdu c
  have hsetB : (readRx b c net pdu).setB c = b.setB c := setB_congr (by rw [hchan])
  have hruns : chanRuns (readRx b c net pdu) c = chanRuns b c := chanRuns_congr (by rw [hchan]) (by simp)
  subst hb
  change execSafePduReceived t c net pdu s = _
  unfold execSafePduReceived
  dsimp only
  rw [if_pos hr]
  refine congrArg Host.Outcome.next (if_pos ?_)
  rw [hchan, hsetB, hruns]
  simp [hr, hset, hmode, hnet, hl, htype, hlen, hconn, hcrc]

/-- A first copy of a PDU has come on network A. -/
def copySeen (s : State) (c : Channel) : State := s.modChan c fun ch => { ch with lastA := s.clk }

/-- The first copy of a PDU waits for the second. -/
theorem nativeCopy_waits {s : State} {c : Channel} {pdu : Bytes} (hseq : (s.chan c).lastSeq ≠ some (getU pdu 8 4))
    (hA : (s.chan c).waitA = none) (hB : (s.chan c).waitB = none) (hdown : (s.chan c).downB = false) :
    nativeCopy s c 0 pdu = (copySeen s c).modChan c fun ch =>
      { ch with waitA := some { bytes := pdu, since := (copySeen s c).clk } } := by
  have hsingle : singleOk (s.modChan c fun ch => { ch with lastA := s.clk }) c 0 = false :=
    singleOk_of_up_b (by rw [chan_modChan_same]; exact hdown)
  simp only [nativeCopy, ↓reduceIte, chan_modChan_same, beq_iff_eq, hseq, hA, hB, hsingle, Bool.false_eq_true]
  rfl

/-- The two copies of a PDU have met. -/
def copiesMet (s : State) (c : Channel) : State :=
  (s.modChan c fun ch => { ch with lastB := s.clk }).modChan c fun ch => { ch with waitA := none, waitB := none }

theorem copiesMet_chan (s : State) (c : Channel) : (copiesMet s c).chan c =
    { s.chan c with lastB := s.clk, waitA := none, waitB := none } := by
  rw [copiesMet, chan_modChan_same, chan_modChan_same]

theorem copiesMet_keeps (s : State) (c : Channel) : (copiesMet s c).clk = s.clk ∧ (copiesMet s c).pwr = s.pwr ∧
    (copiesMet s c).variant = s.variant := by
  simp [copiesMet]

/-- The equal copy from the other network accepts the PDU. -/
theorem nativeCopy_accepts {s : State} {c : Channel} {pdu : Bytes} {w : PduWait}
    (hseq : (s.chan c).lastSeq ≠ some (getU pdu 8 4)) (hA : (s.chan c).waitA = some w) (hw : w.bytes = pdu)
    (hnext : seqOk (s.chan c) (getU pdu 8 4) (2 ^ 32) = true) : nativeCopy s c 1 pdu =
      pairedUp (acceptPdu (copiesMet s c) c 1 (getU pdu 8 4) (slice pdu 24 16)) c := by
  have hmet : seqOk ((copiesMet s c).chan c) (getU pdu 8 4) (2 ^ 32) = true := by
    rw [copiesMet_chan]
    exact hnext
  have hjudge : judgeSeq (copiesMet s c) c 1 pdu = acceptPdu (copiesMet s c) c 1 (getU pdu 8 4) (slice pdu 24 16) :=
    if_pos hmet
  rw [← hjudge]
  simp only [nativeCopy, Nat.one_ne_zero, ↓reduceIte, chan_modChan_same, beq_iff_eq, hseq, hA, hw]
  rfl

/-! ## The watchdog -/

/-- A watchdog that has expired, before it trips. -/
def Chan.watchdogOut (ch : Chan) : Chan := { ch with commForbid := true, wdEnd := none, expiries := ch.expiries + 1 }

/-- What an expired watchdog asks of one string where it is configured to trip. -/
def watchdogStep (c : Channel) (s : State) (i : Nat) : State := if strConnected s i then trip s c i .comm else s

theorem actsOn_watchdogStep (c : Channel) (s : State) (i : Nat) : ActsOn i s (watchdogStep c s i) := by
  unfold watchdogStep
  split
  · exact actsOn_trip ..
  · exact .refl i s

/-! ## The events, on the state `b` at their instant -/

section
variable {t : Nat} {s b : State} (hb : s.advance t = b) {c : Channel}
include hb

theorem safePduReceived_waits {pdu : Bytes} (hr : chanRuns b c = true) (hset : (b.chan c).set.isSome = true)
    (hmode : commMode (b.setB c) = 1) (hl : pdu.length = 44) (htype : getU pdu 0 2 = 0x5301) (hlen : getU pdu 2 2 = 16)
    (hconn : getU pdu 4 4 = getU (b.setB c) 428 4) (hcrc : getU pdu 40 4 = safetyCrc (pdu.take 40))
    (hseq : (b.chan c).lastSeq ≠ some (getU pdu 8 4)) (hA : (b.chan c).waitA = none) (hB : (b.chan c).waitB = none)
    (hdown : (b.chan c).downB = false) : Does (.safePduReceived t c 0 pdu) s fun u =>
      ((u.chan c).waitA.map (·.bytes)) = some pdu ∧ (u.chan c).waitB = none ∧ (u.chan c).accepted = (b.chan c).accepted ∧
      (u.chan c).permits = (b.chan c).permits ∧ u.str = b.str := by
  have hchan := readRx_chan b c 0 pdu c
  refine ⟨nativeCopy (readRx b c 0 pdu) c 0 pdu,
    exec_safePduReceived hb hr hset hmode Nat.two_pos hl htype hlen hconn hcrc, ?_⟩
  rw [nativeCopy_waits (by rwa [hchan]) (by rwa [hchan]) (by rwa [hchan]) (by rwa [hchan])]
  dsimp only
  rw [chan_modChan_same, copySeen, chan_modChan_same, hchan]
  exact ⟨rfl, hB, rfl, rfl, by simp⟩

theorem safePduReceived_accepts {pdu : Bytes} {w : PduWait} (hr : chanRuns b c = true) (hset : (b.chan c).set.isSome = true)
    (hmode : commMode (b.setB c) = 1) (hl : pdu.length = 44) (htype : getU pdu 0 2 = 0x5301) (hlen : getU pdu 2 2 = 16)
    (hconn : getU pdu 4 4 = getU (b.setB c) 428 4) (hcrc : getU pdu 40 4 = safetyCrc (pdu.take 40))
    (hseq : (b.chan c).lastSeq ≠ some (getU pdu 8 4)) (hA : (b.chan c).waitA = some w) (hw : w.bytes = pdu)
    (hnext : seqOk (b.chan c) (getU pdu 8 4) (2 ^ 32) = true) : Does (.safePduReceived t c 1 pdu) s fun u =>
      (u.chan c).accepted = (b.chan c).accepted + 1 ∧ (u.chan c).lastSeq = some (getU pdu 8 4) ∧
      (u.chan c).permits = BitVec.ofNat 8 (getU pdu 24 1) ∧ (u.chan c).commForbid = false ∧
      (u.chan c).wdEnd = some (b.clk + getU (b.setB c) 424 2 * nsMs) ∧ (u.chan c).waitA = none ∧
      (getBit pdu 25 0 = true → ∀ i, i < b.strings → i < (b.chan c).str.length → .comm ∈ ((u.chan c).at i).tripped) := by
  have hread := readRx_chan b c 1 pdu c
  obtain ⟨v, hv⟩ : ∃ v, v = copiesMet (readRx b c 1 pdu) c := ⟨_, rfl⟩
  obtain ⟨hclk, hpwr, hvariant⟩ : v.clk = b.clk ∧ v.pwr = b.pwr ∧ v.variant = b.variant := by
    obtain ⟨hclk, hpwr, hvariant⟩ := copiesMet_keeps (readRx b c 1 pdu) c
    rw [hv, hclk, hpwr, hvariant]
    simp
  have hchan : v.chan c = { b.chan c with lastB := (readRx b c 1 pdu).clk, waitA := none, waitB := none } := by
    rw [hv, copiesMet_chan, hread]
  have hsetB : v.setB c = b.setB c := setB_congr (by rw [hchan])
  obtain ⟨u, hu⟩ : ∃ u, u = acceptPdu v c 1 (getU pdu 8 4) (slice pdu 24 16) := ⟨_, rfl⟩
  have hshared : (u.chan c).shared = ((v.chan c).accepting (getU pdu 8 4) (getU pdu 24 1)
      (b.clk + getU (b.setB c) 424 2 * nsMs)).shared := by
    rw [hu, acceptPdu_shared, hclk, hsetB, getU_slice_byte pdu 24 (by decide)]
  have htaken {γ : Type} (p : Chan → γ) (hs : ∀ ch, p ch.shared = p ch := by exact fun _ => rfl)
      (hp : ∀ ch, p ch.unpaired = p ch := by exact fun _ => rfl) : p ((pairedUp u c).chan c) = p ((v.chan c).accepting
        (getU pdu 8 4) (getU pdu 24 1) (b.clk + getU (b.setB c) 424 2 * nsMs)) :=
    (field_of_rest Chan.unpaired p (pairedUp_chan u c) hp).trans (field_of_rest Chan.shared p hshared hs)
  refine ⟨pairedUp u c, ?_, (htaken (·.accepted)).trans ?_, htaken (·.lastSeq), htaken (·.permits), htaken (·.commForbid),
    htaken (·.wdEnd), (htaken (·.waitA)).trans ?_, fun hstop i hi hlen => ?_⟩
  · rw [exec_safePduReceived hb hr hset hmode Nat.one_lt_two hl htype hlen hconn hcrc,
      nativeCopy_accepts (by rwa [hread]) (by rwa [hread]) hw (by rwa [hread]), ← hv, ← hu]
  · rw [hchan]
    rfl
  · rw [hchan]
    rfl
  · rw [field_of_rest Chan.unpaired (fun ch => (ch.at i).tripped) (pairedUp_chan u c), hu]
    refine acceptPdu_trips 1 _ ?_ (by rwa [strings_congr hvariant]) ?_ (by rwa [hchan]) (by rwa [hchan])
    · rwa [getBit_slice pdu 24 (by decide)]
    · rwa [chanRuns_congr (s := b) (by rw [hchan]) (by rw [hpwr])]

theorem commWindowExpiry_loses {w : PduWait} (hB : (b.chan c).waitB = some w)
    (ht : w.since + getU (b.setB c) 423 1 * nsMs ≤ b.clk) : Does (.commWindowExpiry t c 1) s fun u =>
      (u.chan c).waitB = none ∧ (u.chan c).losses = (b.chan c).losses + 1 ∧ (u.chan c).accepted = (b.chan c).accepted ∧
      u.str = b.str := by
  obtain ⟨u, hu⟩ : ∃ u, u = pduLoss (b.modChan c fun ch => { ch with waitB := none }) c := ⟨_, rfl⟩
  have hchan : u.chan c = { b.chan c with waitB := none, losses := (b.chan c).losses + 1, upSince := none } := by
    rw [hu, pduLoss, chan_modChan_same, chan_modChan_same]
  refine ⟨u, ?_, by rw [hchan], by rw [hchan], by rw [hchan], by simp [hu, pduLoss]⟩
  subst hb hu
  change execCommWindowExpiry t c 1 s = _
  simp only [execCommWindowExpiry, if_neg Nat.one_ne_zero, hB]
  rw [if_pos ht]

theorem blackChannelPdu_accepts {net : Nat} {pdu : Bytes} (hr : chanRuns b c = true) (hset : (b.chan c).set.isSome = true)
    (hmode : commMode (b.setB c) = net + 2) (hl : pdu.length = 24)
    (hcrc : getU pdu 20 4 = safetyCrc (leU 4 (getU (b.setB c) 428 4) ++ pdu.take 20))
    (hnext : seqOk (b.chan c) (getU pdu 0 2) 65536 = true) : Does (.blackChannelPdu t c net pdu) s fun u =>
      (u.chan c).accepted = (b.chan c).accepted + 1 ∧ (u.chan c).lastSeq = some (getU pdu 0 2) ∧
      (u.chan c).permits = BitVec.ofNat 8 (getU pdu 4 1) ∧ (u.chan c).commForbid = false := by
  have hchan := readRx_chan b c net pdu c
  have hsetB : (readRx b c net pdu).setB c = b.setB c := setB_congr (by rw [hchan])
  have hruns : chanRuns (readRx b c net pdu) c = chanRuns b c := chanRuns_congr (by rw [hchan]) (by simp)
  have hshared := acceptPdu_shared (readRx b c net pdu) c net (getU pdu 0 2) (slice pdu 4 16)
  rw [hchan, getU_slice_byte pdu 4 (by decide)] at hshared
  refine ⟨acceptPdu (readRx b c net pdu) c net (getU pdu 0 2) (slice pdu 4 16), ?_,
    field_of_rest Chan.shared (·.accepted) hshared, field_of_rest Chan.shared (·.lastSeq) hshared,
    field_of_rest Chan.shared (·.permits) hshared, field_of_rest Chan.shared (·.commForbid) hshared⟩
  subst hb
  change execBlackChannelPdu t c net pdu s = _
  unfold execBlackChannelPdu
  dsimp only
  rw [if_pos hr]
  refine congrArg Host.Outcome.next (if_pos ?_)
  rw [hchan, hsetB, hruns]
  simp [hr, hset, hmode, hl, hcrc, hnext]

theorem commWatchdogExpiry_forbids {e : Nat} (he : (b.chan c).wdEnd = some e) (ht : e ≤ b.clk)
    (hmode : commMode (b.setB c) ≠ 0) (hr : chanRuns b c = true) (hset : (b.chan c).set.isSome = true) :
    Does (.commWatchdogExpiry t c) s fun u => (u.chan c).commForbid = true ∧ (u.chan c).wdEnd = none ∧
      (u.chan c).expiries = (b.chan c).expiries + 1 ∧ (getU (b.setB c) 422 1 = 1 → ∀ i, i < b.strings →
      i < (b.chan c).str.length → strConnected b i = true → .comm ∈ ((u.chan c).at i).tripped) := by
  obtain ⟨v, hv⟩ : ∃ v, v = b.modChan c Chan.watchdogOut := ⟨_, rfl⟩
  have hchan : v.chan c = (b.chan c).watchdogOut := by rw [hv, chan_modChan_same]
  have hsetB : v.setB c = b.setB c := setB_congr (by rw [hchan]; rfl)
  have hrun : exec (.commWatchdogExpiry t c) s =
      .next (if getU (b.setB c) 422 1 = 1 then (List.range v.strings).foldl (watchdogStep c) v else v) := by
    rw [← hsetB, hv]
    subst hb
    change execCommWatchdogExpiry t c s = _
    simp only [execCommWatchdogExpiry, he]
    rw [if_neg (by simp [Nat.not_lt.mpr ht, hmode, hr])]
    rfl
  by_cases htrips : getU (b.setB c) 422 1 = 1
  · have hshared := foldl_shared (actsOn_watchdogStep c) (List.range v.strings) v c
    rw [hchan] at hshared
    refine ⟨_, hrun.trans (congrArg Host.Outcome.next (if_pos htrips)), field_of_rest Chan.shared (·.commForbid) hshared,
      field_of_rest Chan.shared (·.wdEnd) hshared, field_of_rest Chan.shared (·.expiries) hshared, fun _ i hi hlen hconn => ?_⟩
    have hstrings : v.strings = b.strings := strings_congr (by rw [hv]; simp)
    refine foldl_tripped (actsOn_watchdogStep c) List.nodup_range (List.mem_range.mpr (hstrings ▸ hi)) fun a ha => ?_
    have hgo : watchdogStep c a i = trip a c i .comm :=
      if_pos ((strConnected_congr (ha.strAt.trans (strAt_congr (by rw [hv]; simp) i))).trans hconn)
    rw [hgo]
    refine ha.trip_tripped (by cases c <;> rfl) ?_ (by rw [hchan]; exact hset) (by rw [hchan]; exact hlen)
    rwa [chanRuns_congr (s := b) (by rw [hchan]; rfl) (by rw [hv]; simp)]
  · refine ⟨v, hrun.trans (congrArg Host.Outcome.next (if_neg htrips)), ?_⟩
    dsimp only
    rw [hchan]
    exact ⟨rfl, rfl, rfl, fun h => absurd h htrips⟩

theorem networkDown_starts (hr : chanRuns b c = true) (hmode : commMode (b.setB c) = 1) (hmin : getU (b.setB c) 436 2 ≠ 0)
    (hup : (b.chan c).downA = false) (ht : (b.chan c).lastA + nsS ≤ b.clk) : Does (.networkDown t c 0) s fun u =>
      (u.chan c).downA = true ∧ (u.chan c).downB = (b.chan c).downB ∧
      (u.chan c).downSince = some ((b.chan c).downSince.getD b.clk) ∧ u.str = b.str := by
  subst hb
  refine ⟨_, congrArg Host.Outcome.next (if_pos ?_), ?_⟩
  · simp [hr, hmode, hmin, hup, ht]
  · dsimp only
    rw [chan_congr (groupRecord_saf ..), chan_modChan_same]
    exact ⟨Bool.or_true _, Bool.or_false _, rfl, by simp [groupRecord]⟩

theorem degradeExpiry_ends (hdown : (b.chan c).downSince.isSome = true)
    (hspent : getU (b.setB c) 436 2 * 60 * nsS ≤ degradeSpent b (b.chan c)) : Does (.degradeExpiry t c) s fun u =>
      (u.chan c).degradeUsed = getU (b.setB c) 436 2 * 60 * nsS ∧ (u.chan c).downSince = some b.clk ∧
      singleOk u c 0 = false ∧ singleOk u c 1 = false := by
  obtain ⟨u, hu⟩ : ∃ u, u = b.modChan c fun ch =>
    { ch with degradeUsed := getU (b.setB c) 436 2 * 60 * nsS, downSince := some b.clk } := ⟨_, rfl⟩
  have hchan : u.chan c =
      { b.chan c with degradeUsed := getU (b.setB c) 436 2 * 60 * nsS, downSince := some b.clk } := by
    rw [hu, chan_modChan_same]
  have hout : getU (u.setB c) 436 2 * 60 * nsS ≤ degradeSpent u (u.chan c) := by
    rw [setB_congr (s := b) (by rw [hchan]), hchan]
    exact Nat.le_add_right _ _
  refine ⟨u, ?_, by rw [hchan], by rw [hchan], singleOk_of_spent hout, singleOk_of_spent hout⟩
  rw [hu]
  subst hb
  exact congrArg Host.Outcome.next (if_pos (by rw [hdown, decide_eq_true hspent]; rfl))

end

/-- Settles O28: each clause is the law of its event. What a channel takes of a PDU or of an expired watchdog stands beside its
strings, and the trips that follow leave it there. -/
theorem safeCommunication : Obligations.SafeCommunication :=
  ⟨fun _ _ _ _ => safePduReceived_waits rfl,
    fun _ _ _ _ _ hr hset hmode hl htype hlen hconn hcrc hseq hA hw _ =>
      safePduReceived_accepts rfl hr hset hmode hl htype hlen hconn hcrc hseq hA hw,
    fun _ _ _ _ => commWindowExpiry_loses rfl, fun _ _ _ _ _ => blackChannelPdu_accepts rfl,
    fun _ _ _ _ => commWatchdogExpiry_forbids rfl, fun _ _ _ => networkDown_starts rfl,
    fun _ _ _ => degradeExpiry_ends rfl⟩

end Sys2Proof.Machine
end

section
/-! SUPPORT. Folds that keep a relation. -/

namespace Sys2Proof.Machine

/-- A relation that each step of a fold keeps, the fold keeps. -/
theorem foldl_rel {α β γ : Type} {R : γ → γ → Prop} (hr : ∀ x, R x x) (ht : ∀ x y z, R x y → R y z → R x z) (g : α → γ)
    (f : α → β → α) (h : ∀ s b, R (g s) (g (f s b))) (l : List β) : ∀ s : α, R (g s) (g (l.foldl f s)) := by
  induction l with
  | nil => exact fun s => hr _
  | cons b l ih => exact fun s => ht _ _ _ (h s b) (ih _)

end Sys2Proof.Machine
end

section
/-! SUPPORT. The commands that return data and the commands that store a record (15_host_interface.md R440, R441, R452;
11_redundancy.md R344). -/

namespace Sys2Proof.Machine

-- One proof at a time: together their threads exceed the memory of the check.
set_option Elab.async false

/-! ## Checks that find nothing (15_host_interface.md R447) -/

theorem firstBad_cons {o : Option Nat} {l : List (Option Nat)} (ho : o = none) (hl : firstBad l = none) : firstBad (o :: l) = none := by
  rw [ho]
  exact hl

theorem must_holds {c : Bool} (off : Nat) (h : c = true) : must c off = none := if_pos h

theorem must_decide {p : Prop} [Decidable p] (off : Nat) (h : p) : must (decide p) off = none := if_pos (decide_eq_true h)

theorem zeroAt_holds {b : Bytes} {off n : Nat} (h : getU b off n = 0) : zeroAt b off n = none := if_pos (beq_iff_eq.2 h)

theorem inBuf_none {o : Option Nat} (h : o = none) : inBuf o = none := congrArg inBuf h

theorem ite_none {α : Type} {c : Prop} [Decidable c] {o : Option α} (h : o = none) : (if c then o else none) = none := by
  rw [h, ite_self]

theorem named_passes {n off : Nat} (h : n ≠ noDesc) : must (n != noDesc) off = none := must_holds _ (bne_iff_ne.2 h)

/-- A command whose descriptor is in order passes the check of R447 on buffers. -/
theorem ownerBad_descAt {sp : Spec} {s : State} {q : Req} {off n : Nat} (hsp : sp.desc s q = descAt q off n)
    (hne : getU q.payload off 2 ≠ noDesc) (h : descOk s q (getU q.payload off 2) n = true) : ownerBad sp s q = none := by
  unfold ownerBad
  rw [hsp, descAt, if_neg hne]
  exact if_pos h

/-! ## Responses without an argument -/

theorem noneGets_run : ∀ x ∈ noneGets, ∃ v, ∀ q s, exec (x.1 q) s = getNone x.2.1 v x.2.2 q s := by
  simp only [noneGets, List.forall_mem_cons, List.not_mem_nil, false_imp_iff, implies_true, and_true]
  refine ⟨?_, ?_, ?_, ?_, ?_, ?_, ?_, ?_, ?_, ?_, ?_, ?_, ?_, ?_, ?_, ?_, ?_, ?_, ?_⟩ <;> exact ⟨_, fun _ _ => rfl⟩

theorem noneGets_touch : ∀ x ∈ noneGets, ∀ s, x.2.2 (touch s) = x.2.2 s := by
  simp only [noneGets, List.forall_mem_cons, List.not_mem_nil, false_imp_iff, implies_true, and_true]
  refine ⟨?_, ?_, ?_, ?_, ?_, ?_, ?_, ?_, ?_, ?_, ?_, ?_, ?_, ?_, ?_, ?_, ?_, ?_, ?_⟩ <;> exact fun _ => rfl

/-- Settles O1: the 19 commands are of one form, and no record reads what taking a command changes. -/
theorem noArgumentGetsAnswer : Obligations.NoArgumentGetsAnswer := by
  intro x hx s q h hr hp
  obtain ⟨v, hrun⟩ := noneGets_run x hx
  obtain ⟨u, hu, hans⟩ := getNone_all x.2.1 v x.2.2 (noneGets_touch x hx) q s h hr hp
  exact ⟨u, (hrun q s).trans hu, hans⟩

/-! ## Responses in a buffer -/

/-- The response reads nothing that taking a command and noting its descriptor changes. -/
def Rests (resp : State → Bytes) : Prop := ∀ sp s q, resp (noteDesc sp (touch s) q) = resp s

theorem Rests.of_settled {resp : State → Bytes} (h : Settled resp) : Rests resp := fun sp s q => resp_note resp h s q sp

theorem rateOf_congr {s u : State} (htsu : u.tsu = s.tsu) (hle : u.le = s.le) (hconv : u.conv = s.conv) (fuel : Nat) (d : Bytes) :
    rateOf u fuel d = rateOf s fuel d := by
  induction fuel generalizing d with
  | zero => rfl
  | succ fuel ih =>
    have hfsw (i : Nat) : fSw u i = fSw s i := fSw_congr (by simp [State.convAt, hconv])
    have hloop (n : Nat) : u.loopAt n = s.loopAt n := loopAt_congr (by rw [hle]) n
    simp only [rateOf, htsu, hfsw, hloop, ih]

theorem slotRate_noted (sp : Spec) (s : State) (q : Req) (n : Nat) : slotRate (noteDesc sp (touch s) q) n = slotRate s n := by
  have hloop : (noteDesc sp (touch s) q).loopAt n = s.loopAt n := loopAt_congr (by simp) n
  have hrate := rateOf_congr (u := noteDesc sp (touch s) q) (s := s) (by simp) (by simp) (by simp)
  simp only [slotRate, hloop, hrate]

theorem probeHeaders_rest : Rests fun s => (List.range 16).flatMap (probeHeader s) := fun sp s q => by
  have hprobe (k : Nat) : probeHeader (noteDesc sp (touch s) q) k = probeHeader s k := by
    simp [probeHeader, slotRate_noted, State.probeAt]
  simp only [funext hprobe]

theorem lepStatus_rests : Rests lepStatus := fun sp s q => by
  have hload (k : Nat) : pathLoad (noteDesc sp (touch s) q) k = pathLoad s k := by
    simp [pathLoad, slotRate_noted, State.loopAt]
  simp [lepStatus, hload]

theorem noteDesc_handover (sp : Spec) (s : State) (q : Req) : (noteDesc sp s q).hpr.handover = s.hpr.handover := by
  unfold noteDesc; split <;> rfl

theorem redStatus_rests : Rests redStatus := fun sp s q => by
  simp [redStatus, takeoverReady, replicaFresh, someTierP, State.strings, noteDesc_handover]

theorem bufferGets_run : ∀ x ∈ bufferGets, ∃ v, ∀ q s, exec (x.1 q) s = getW x.2.1 v x.2.2 q s := by
  simp only [bufferGets, List.forall_mem_cons, List.not_mem_nil, false_imp_iff, implies_true, and_true]
  refine ⟨?_, ?_, ?_, ?_, ?_, ?_, ?_, ?_⟩ <;> exact ⟨_, fun _ _ => rfl⟩

theorem bufferGets_rest : ∀ x ∈ bufferGets, Rests x.2.2 := by
  simp only [bufferGets, List.forall_mem_cons, List.not_mem_nil, false_imp_iff, implies_true, and_true]
  exact ⟨.of_settled fun _ _ _ => rfl, .of_settled fun _ _ _ => rfl, lepStatus_rests, probeHeaders_rest,
    .of_settled fun _ _ _ => rfl, redStatus_rests, .of_settled fun _ _ _ => rfl, .of_settled fun _ _ _ => rfl⟩

theorem getW_fills {resp : State → Bytes} (hrest : Rests resp) (op : Nat) (v : Bool) {q : Req} {s : State} (h : Taken s q)
    (hr : AnyRole s) (hm : MemOk s) (hq : SlotOk q) (hl : q.payload.length = 2)
    (hd : descOk s q (getU q.payload 0 2) (resp s).length = true) :
    ∃ u, getW op v resp q s = .next u ∧ Answered u q op stOk 0 (leU 4 (resp s).length) ∧ HostOnly s u ∧
      BufHolds s u (getU q.payload 0 2) (resp s) := by
  have ⟨_, _, henv⟩ := h
  have hne := descOk_noDesc _ _ _ _ hd
  unfold getW
  refine ⟨_, command_run _ _ q s h ?_, ?_⟩
  · refine rejection_of_argument (if_pos hl) hr henv ?_ rfl rfl rfl rfl ?_ rfl
    · simp [must, hne]
    · simp [ownerBad, descAt, hne, hd]
  · rw [hrest]
    exact respondBuf_all _ s op q _ _ hm hq (lt_of_descOk hd)

/-- Settles O2: the 8 commands are of one form, and no response reads what taking a command changes. -/
theorem bufferGetsFillTheBuffer : Obligations.BufferGetsFillTheBuffer := by
  intro x hx s q h hr hm hl hq hd
  obtain ⟨v, hrun⟩ := bufferGets_run x hx
  obtain ⟨u, hu, hans⟩ := getW_fills (bufferGets_rest x hx) x.2.1 v h hr hm hq hl hd
  exact ⟨u, (hrun q s).trans hu, hans⟩

/-! ## Responses of one object -/

theorem indexGets_run : ∀ x ∈ indexGets, ∃ v pop all, ∀ q s, exec (x.1 q) s = getI x.2.1 v pop all x.2.2.1 x.2.2.2 q s := by
  simp only [indexGets, List.forall_mem_cons, List.not_mem_nil, false_imp_iff, implies_true, and_true]
  refine ⟨?_, ?_, ?_, ?_, ?_, ?_, ?_, ?_, ?_, ?_, ?_, ?_, ?_, ?_, ?_, ?_, ?_, ?_⟩ <;> exact ⟨_, _, _, fun _ _ => rfl⟩

theorem indexGets_rest : ∀ x ∈ indexGets, ∀ i, Rests (x.2.2.2 · i) := by
  simp only [indexGets, List.forall_mem_cons, List.not_mem_nil, false_imp_iff, implies_true, and_true]
  refine ⟨?_, ?_, ?_, ?_, ?_, ?_, ?_, ?_, ?_, ?_, ?_, ?_, ?_, ?_, ?_, ?_, ?_, ?_⟩ <;> exact fun i => .of_settled fun _ _ _ => rfl

/-- No population has an object 0xFF, the index that names them all. -/
theorem indexGets_count : ∀ x ∈ indexGets, ∀ s, x.2.2.1 s ≤ 255 := by
  have hstr (s : State) : s.strings ≤ 255 := by unfold State.strings; split <;> omega
  simp [indexGets, hstr]

section
variable {n : State → Nat} {resp : State → Nat → Bytes} {s : State} {q : Req} {i : Nat} (hrest : Rests (resp · i))
  (h : Taken s q) (hr : AnyRole s) (hi : i < n s) (hn : n s ≤ 255) (hform : FormI s q i) (op : Nat) (v pop all : Bool)
include hrest h hr hi hn hform

theorem getI_answers (hlen : (resp s i).length ≤ 240) : ∃ u, getI op v pop all n resp q s = .next u ∧
    Answered u q op stOk 0 (resp s i) ∧ HostOnly s u ∧ SlotOnly s q u := by
  have ⟨_, _, henv⟩ := h
  obtain ⟨hl, hidx, hz, hd⟩ := hform
  have hall : i ≠ 255 := by omega
  unfold getI
  refine ⟨_, command_run _ _ q s h ?_, ?_⟩
  · refine rejection_of_argument (if_pos hl) hr henv ?_ rfl rfl ?_ rfl ?_ rfl
    · simp [argI, hidx, hz, zeroAt, namedBy, hall, hlen, firstBad, must, hi]
    · simp [must, hidx, hi]
    · rcases hd with hd | hd
      · simp [ownerBad, descAt, hd]
      · simp [ownerBad, descAt, descOk_noDesc _ _ _ _ hd, hidx, namedBy, hall, hlen, hd]
  · simp only [hidx, namedBy, hall, if_false, List.flatMap_cons, List.flatMap_nil, List.append_nil, hrest _ s q, respond, hlen,
      if_true]
    generalize hx : noteDesc _ (touch s) q = x
    have hxs : x = { touch s with hpr := x.hpr } := hx ▸ noteDesc_eq ..
    refine ⟨ok_answered .., ?_, ?_⟩
    · refine (finish1_hostOnly x ..).trans ?_
      rw [hxs]
      rfl
    · have hmem : x.mem = s.mem := by rw [hxs]; rfl
      intro a ha
      exact (finish1_slotOnly x op q stOk 0 _ hlen a ha).trans (by rw [hmem])

theorem getI_fills (hm : MemOk s) (hq : SlotOk q) (hlen : 240 < (resp s i).length)
    (hd : descOk s q (getU q.payload 2 2) (resp s i).length = true) : ∃ u, getI op v pop all n resp q s = .next u ∧
      Answered u q op stOk 0 (leU 4 (resp s i).length) ∧ HostOnly s u ∧ BufHolds s u (getU q.payload 2 2) (resp s i) := by
  have ⟨_, _, henv⟩ := h
  obtain ⟨hl, hidx, hz, -⟩ := hform
  have hall : i ≠ 255 := by omega
  have hlong : ¬(resp s i).length ≤ 240 := by omega
  have hne := descOk_noDesc _ _ _ _ hd
  unfold getI
  refine ⟨_, command_run _ _ q s h ?_, ?_⟩
  · refine rejection_of_argument (if_pos hl) hr henv ?_ rfl rfl ?_ rfl ?_ rfl
    · simp [argI, hidx, hz, zeroAt, namedBy, hall, firstBad, must, hi, hne]
    · simp [must, hidx, hi]
    · simp [ownerBad, descAt, hne, hidx, namedBy, hall, hlong, hd]
  · simp only [hidx, namedBy, hall, if_false, List.flatMap_cons, List.flatMap_nil, List.append_nil, hrest _ s q, respond, hlong]
    exact respondBuf_all _ s op q _ _ hm hq (lt_of_descOk hd)

end

/-- Settles O3: the 18 commands are of one form; the response's length decides between the slot and the buffer. -/
theorem indexGetsAnswerTheObject : Obligations.IndexGetsAnswerTheObject := by
  intro x hx s q i h hr hm hi hform
  obtain ⟨v, pop, all, hrun⟩ := indexGets_run x hx
  have hrest := indexGets_rest x hx i
  have hn := indexGets_count x hx s
  refine ⟨fun hlen => ?_, fun hlen hq hd => ?_⟩
  · obtain ⟨u, hu, hans⟩ := getI_answers hrest h hr hi hn hform x.2.1 v pop all hlen
    exact ⟨u, (hrun q s).trans hu, hans⟩
  · obtain ⟨u, hu, hans⟩ := getI_fills hrest h hr hi hn hform x.2.1 v pop all hm hq hlen hd
    exact ⟨u, (hrun q s).trans hu, hans⟩

/-! ## Copied entries -/

theorem copyGets_run : ∀ x ∈ copyGets, ∃ v cells, ∀ q s, exec (x.1 q) s = getC x.2.1 v cells x.2.2.1 x.2.2.2 q s := by
  simp only [copyGets, List.forall_mem_cons, List.not_mem_nil, false_imp_iff, implies_true, and_true]
  refine ⟨?_, ?_, ?_, ?_⟩ <;> exact ⟨_, _, fun _ _ => rfl⟩

theorem copyGets_rest : ∀ x ∈ copyGets, ∀ k, Rests (x.2.2.2 · k) := by
  simp only [copyGets, List.forall_mem_cons, List.not_mem_nil, false_imp_iff, implies_true, and_true]
  refine ⟨?_, ?_, ?_, ?_⟩ <;> exact fun k => .of_settled fun _ _ _ => rfl

theorem getC_fills {n : State → Nat} {resp : State → Nat → Bytes} {s : State} {q : Req} {b : Bytes}
    (hrest : ∀ k, Rests (resp · k)) (op : Nat) (v cells : Bool) (h : Taken s q) (hr : AnyRole s) (hm : MemOk s) (hq : SlotOk q)
    (hl : q.payload.length = 12) (hz : getU q.payload 2 2 = 0)
    (hb : b = ((List.range (getU q.payload 8 4)).map (getU q.payload 4 4 + ·)).flatMap (resp s))
    (hcount : 0 < getU q.payload 8 4) (hend : getU q.payload 4 4 + getU q.payload 8 4 ≤ n s)
    (hd : descOk s q (getU q.payload 0 2) b.length = true) :
    ∃ u, getC op v cells n resp q s = .next u ∧ Answered u q op stOk 0 (leU 4 b.length) ∧ HostOnly s u ∧
      BufHolds s u (getU q.payload 0 2) b := by
  have ⟨_, _, henv⟩ := h
  have hne := descOk_noDesc _ _ _ _ hd
  have hresp (sp : Spec) : resp (noteDesc sp (touch s) q) = resp s := funext fun k => hrest k sp s q
  have hinside : ¬(n s < getU q.payload 4 4 ∨ getU q.payload 4 4 = n s ∧ 0 < getU q.payload 8 4) := by omega
  have hfits : ¬n s < getU q.payload 4 4 + getU q.payload 8 4 := by omega
  unfold getC
  refine ⟨_, command_run _ _ q s h ?_, ?_⟩
  · refine rejection_of_argument (if_pos hl) hr henv ?_ rfl rfl ?_ rfl ?_ rfl
    · simp only [if_neg hinside, if_neg hfits, ite_self]
      simp [firstBad, must, hne, zeroAt, hz]
    · simp only [if_neg hinside, if_neg hfits, ite_self]
    · simp only [ownerBad, descAt, hne, if_false, ← hb, hd, if_true]
  · simp only [hresp, ← hb]
    exact respondBuf_all _ s op q _ _ hm hq (lt_of_descOk hd)

/-- Settles O4: the 4 commands are of one form, and no entry reads what taking a command changes. -/
theorem copyGetsFillTheBuffer : Obligations.CopyGetsFillTheBuffer := by
  intro x hx s q first count b h hr hm hl hz hfirst hcount hb hpos hend hq hd
  obtain ⟨v, cells, hrun⟩ := copyGets_run x hx
  subst hfirst hcount
  obtain ⟨u, hu, hans⟩ := getC_fills (copyGets_rest x hx) x.2.1 v cells h hr hm hq hl hz hb hpos hend hd
  exact ⟨u, (hrun q s).trans hu, hans⟩

/-! ## Live regions -/

theorem mapGets_run : ∀ x ∈ mapGets, ∀ q s, exec (x.1 q) s = mapM x.2.1 x.2.2.1 (x.2.2.2 s) q s := by
  simp only [mapGets, List.forall_mem_cons, List.not_mem_nil, false_imp_iff, implies_true, and_true]
  exact ⟨fun _ _ => rfl, fun _ _ => rfl, fun _ _ => rfl⟩

theorem finish1_descs (s : State) (op : Nat) (q : Req) (st d : Nat) (p : Bytes) : (finish1 s op q st d p).hpr.desc =
    s.hpr.desc.map fun e => if e.kind = 1 ∧ e.own ∧ e.requester = portCode q.port ∧ e.opcode = op ∧ e.seq = q.seq then
      { e with own := false } else e := by
  unfold finish1
  cases q.slot with
  | none => rfl
  | some n => cases q.port <;> simp only [] <;> (repeat' split) <;> simp [mgmtRespond, slotRespond] <;> rfl

/-- A completed request leaves a descriptor that is no buffer of the device's as it is. -/
theorem finish1_desc_same {s : State} {k : Nat} (h : ¬((s.desc k).kind = 1 ∧ (s.desc k).own = true)) (op : Nat) (q : Req)
    (st d : Nat) (p : Bytes) : (finish1 s op q st d p).desc k = s.desc k := by
  unfold State.desc at h ⊢
  rw [finish1_descs]
  simp only [List.getD_eq_getElem?_getD, List.getElem?_map] at h ⊢
  cases hk : s.hpr.desc[k]? with
  | none => rfl
  | some e =>
    refine if_neg fun hback => h ?_
    rw [hk]
    exact ⟨hback.1, hback.2.1⟩

section
variable {s : State} {q : Req} {d : Nat} (h : Taken s q) (hr : AnyRole s) (hp : q.payload = []) (op off size : Nat)
include h hr hp

theorem mapM_answers (hlive : liveDesc s q.port off = some d) : ∃ u, mapM op off size q s = .next u ∧
    Answered u q op stOk 0 (leU 2 d ++ leU 2 0 ++ leU 4 off ++ leU 4 size) ∧ HostOnly s u := by
  have ⟨_, _, henv⟩ := h
  have hlive' : liveDesc (touch s) q.port off = some d := hlive
  unfold mapM
  refine ⟨_, command_run _ _ q s h ?_, ?_⟩
  · exact rejection_of_argument (by simp [hp, lenIs]) hr henv rfl rfl rfl rfl rfl rfl (by simp [hlive])
  · rw [noteDesc_none _ _ _ rfl, hlive']
    exact ⟨ok_answered .., finish1_hostOnly ..⟩

theorem mapM_maps (hlive : liveDesc s q.port off = none) (hfree : freeDesc s = some d) (hlen : s.hpr.desc.length = 256) :
    ∃ u, mapM op off size q s = .next u ∧
      Answered u q op stOk 0 (leU 2 d ++ leU 2 0 ++ leU 4 off ++ leU 4 size) ∧ HostOnly s u ∧
      (u.desc d).kind = 2 ∧ (u.desc d).own = true ∧ (u.desc d).requester = portCode q.port ∧
      (u.desc d).offset = off ∧ (u.desc d).size = size ∧ (u.desc d).gen = ((s.desc d).gen + 1) % 65536 := by
  have ⟨_, _, henv⟩ := h
  have hlive' : liveDesc (touch s) q.port off = none := hlive
  have hfree' : freeDesc (touch s) = some d := hfree
  have hd : d < 256 := List.mem_range.mp (List.mem_of_find?_eq_some hfree)
  unfold mapM
  refine ⟨_, command_run _ _ q s h ?_, ?_⟩
  · exact rejection_of_argument (by simp [hp, lenIs]) hr henv rfl rfl rfl rfl rfl rfl (by simp [hfree])
  · rw [noteDesc_none _ _ _ rfl, hlive']
    simp only [hfree', Option.getD_some]
    refine ⟨ok_answered .., finish1_hostOnly .., ?_⟩
    unfold ok
    rw [finish1_desc_same] <;> rw [desc_modDesc, if_pos ⟨rfl, by simpa [hlen] using hd⟩] <;> simp

end

/-- Settles O5: the 3 commands are of one form; a live descriptor is answered, and else a free one is taken. -/
theorem mapGetsAnswerALiveDescriptor : Obligations.MapGetsAnswerALiveDescriptor := by
  intro x hx s q d h hr hp
  refine ⟨fun hlive => ?_, fun hlive hfree hlen => ?_⟩
  · obtain ⟨u, hu, hans⟩ := mapM_answers h hr hp x.2.1 x.2.2.1 (x.2.2.2 s) hlive
    exact ⟨u, (mapGets_run x hx q s).trans hu, hans⟩
  · obtain ⟨u, hu, hans⟩ := mapM_maps h hr hp x.2.1 x.2.2.1 (x.2.2.2 s) hlive hfree hlen
    exact ⟨u, (mapGets_run x hx q s).trans hu, hans⟩

/-! ## Stored records -/

theorem setR_stores {op size : Nat} {fs : List Field} {pop chk : State → Bytes → Option Nat} {store : State → Bytes → State}
    {s : State} {q : Req} (h : Taken s q) (hc : Commands s) (hl : q.payload.length = size)
    (hf : badField fs q.payload = none) (hpop : pop s q.payload = none) (hchk : chk s q.payload = none)
    (hack : ackNeeded (store (touch s) q.payload) = ackNeeded s) : ∃ u, setR op size fs pop chk store q s = .next u ∧
      u = commit (store (touch s) q.payload) op q peerConfig [] ∧
      Done1 s u q op 3 [] ∧ SameBut u (store (touch s) q.payload) := by
  have ⟨_, _, henv⟩ := h
  unfold setR
  refine ⟨_, command_run _ _ q s h ?_, rfl, commit_done1 hack .., commit_sameBut ..⟩
  exact rejection_of_commands (if_pos hl) hc henv hpop rfl (by simp [firstBad, hf, hchk]) rfl rfl rfl rfl

theorem commit_pairCfg (s : State) (op : Nat) (q : Req) (ty : Nat) (p : Bytes) : (commit s op q ty p).red.cfg = s.red.cfg := by
  unfold commit
  split
  · rfl
  · simp [ok]

theorem recordSets_run : ∀ x ∈ recordSets, ∀ q s,
    exec (x.cmd q) s = setR x.op x.size x.fields x.pop (fun _ => x.chk) x.store q s := by
  simp only [recordSets, List.forall_mem_cons, List.not_mem_nil, false_imp_iff, implies_true, and_true]
  refine ⟨?_, ?_, ?_, ?_, ?_, ?_, ?_, ?_, ?_⟩ <;> exact fun _ _ => rfl

theorem recordSets_ackNeeded : ∀ x ∈ recordSets, ∀ s p, ackNeeded (x.store s p) = ackNeeded s := by
  have hpolicy (s : State) (p : Bytes) : ackNeeded (setPolicy s p) = ackNeeded s := ackNeeded_congr (by simp) (by simp)
  have hhold (s : State) (p : Bytes) : ackNeeded (storeHold s p) = ackNeeded s := ackNeeded_congr (by simp) (by simp)
  simp only [recordSets, List.forall_mem_cons, List.not_mem_nil, false_imp_iff, implies_true, and_true]
  exact ⟨hpolicy, fun _ _ => rfl, fun _ _ => rfl, fun _ _ => rfl, fun _ _ => rfl, hhold, fun _ _ => rfl,
    fun _ _ => rfl, fun _ _ => rfl⟩

/-- Settles O6: the 9 commands are of one form, and no record decides whether the partner must acknowledge. -/
theorem recordsAreStored : Obligations.RecordsAreStored := by
  refine ⟨fun x hx s q h hc hl hf hpop hchk => ?_, fun s q h hc hl hf => ?_⟩
  · obtain ⟨u, hu, -, hdone⟩ := setR_stores (op := x.op) (chk := fun _ => x.chk) h hc hl hf hpop hchk (recordSets_ackNeeded x hx (touch s) q.payload)
    exact ⟨u, (recordSets_run x hx q s).trans hu, hdone⟩
  · obtain ⟨u, hu, hcommit, hdone, hsame⟩ := setR_stores (op := 0x0A02) (pop := fun _ _ => none) (chk := fun _ _ => none)
      (store := fun s p => s.setRed fun r => { r with cfg := p }) h hc hl hf rfl rfl rfl
    refine ⟨u, hu, hdone, ?_, hsame⟩
    rw [hcommit, commit_pairCfg]
    rfl

end Sys2Proof.Machine
end

section
/-! SUPPORT. Rejected commands, what APP may not command, and window buffers (15_host_interface.md R440, R441, R447, R448, R453). -/

namespace Sys2Proof.Machine

-- One proof at a time: together their threads exceed the memory of the check.
set_option Elab.async false

/-- Settles O48: the two cases of the step. -/
theorem stepRunsTheFront : Obligations.StepRunsTheFront :=
  ⟨fun _ _ _ h => by rw [step, h], fun _ h => by rw [step, h]⟩

/-! ## Rejections -/

theorem rejectCmd_answered (s : State) (op : Nat) (q : Req) (st d : Nat) :
    Answered (rejectCmd s op q st d) q op st d (if st = stState then leU 4 (hprUnit s) else []) := by
  unfold rejectCmd
  split <;> exact finish1_answered ..

theorem command_rejects {sp : Spec} (run : State → Req → State) {s : State} {q : Req} {st d : Nat} (h : Taken s q)
    (hr : rejection sp s q = some (st, d)) : ∃ u, command sp run q s = .next u ∧
      Answered u q sp.op st d (if st = stState then leU 4 (hprUnit s) else []) ∧
      u = { touch s with hpr := u.hpr, mem := u.mem, icu := u.icu, plg := u.plg } ∧ (st ≠ stState → u.plg = s.plg) := by
  refine ⟨_, command_reject sp run q s st d h hr, ?_, ?_, ?_⟩
  · have hunit : hprUnit (giveBack sp (touch s) q) = hprUnit s := by rw [giveBack_eq]; rfl
    rw [← hunit]
    exact rejectCmd_answered ..
  · apply State.eq_host _ { touch s with plg := (rejectCmd (giveBack sp (touch s) q) sp.op q st d).plg } <;> simp
  · intro hst
    simp [rejectCmd, hst]

/-- A STANDBY unit refuses a command for one string for its role, once length and population pass. -/
theorem strCommand_standby {op : Nat} {bad : State → Nat → Option Nat} {run : State → Req → Nat → State} {s : State} {q : Req}
    {c : Instr} (hc : exec c s = strCommand op bad run q s) (h : Taken s q) (hu : s.unit = .standby) (hl : q.payload.length = 4)
    (hpop : getU q.payload 0 1 = 0xFF ∨ getU q.payload 0 1 < s.strings) : Does c s fun u => Answered u q op stState 4 (leU 4 (hprUnit s)) ∧
      u = { touch s with hpr := u.hpr, mem := u.mem, icu := u.icu, plg := u.plg } := by
  rw [Does, hc, strCommand]
  refine Exists.imp (fun u ⟨hnext, hans, hsame, _⟩ => ⟨hnext, hans, hsame⟩) (command_rejects _ h ?_)
  have hcode : conflictUnit s = 4 := by rw [conflictUnit, hu]; rfl
  simp [rejection, lenIs, hl, must, hpop, rolesOk, hu, hcode]

/-- Settles O59: a rejection is answered on the state it finds, and a STANDBY unit holds none of the roles of the string
commands. -/
theorem rejections : Obligations.Rejections :=
  ⟨fun _ run _ _ _ _ h hr => command_rejects run h hr,
    fun s q h hu hl hpop => strCommand_standby (by change execStrConnect q s = _; unfold execStrConnect; rfl) h hu hl hpop,
    fun s q h hu hl hpop => strCommand_standby (by change execStrDisconnect q s = _; unfold execStrDisconnect; rfl) h hu hl hpop,
    fun s q h hu hl hpop => strCommand_standby (by change execStrRegulate q s = _; unfold execStrRegulate; rfl) h hu hl hpop,
    fun s q h hu hl hpop => strCommand_standby (by change execStrIdle q s = _; unfold execStrIdle; rfl) h hu hl hpop,
    fun s q h hu hl hpop => strCommand_standby (by change execStrReset q s = _; unfold execStrReset; rfl) h hu hl hpop,
    fun s q h hu hl hpop => strCommand_standby (by change execStrRetire q s = _; unfold execStrRetire; rfl) h hu hl hpop,
    fun s q h hu hl hpop => strCommand_standby (by change execStrRestore q s = _; unfold execStrRestore; rfl) h hu hl hpop⟩

/-! ## What APP may not command -/

/-- A command that APP may not issue answers the length it expects, or PORT_DENIED. -/
theorem command_denied {sp : Spec} {op n : Nat} {run : State → Req → State} {s : State} {q : Req} {c : Instr}
    (hc : exec c s = command sp run q s) (ht : takes s = true)
    (hcache : cacheHit s op q = none) (hexec : execHit s op q = false) (hport : q.port = .app) (hop : sp.op = op) (hdeny : sp.noApp = true)
    (hlen : sp.len = lenIs n) (hpop : sp.pop s q.payload = none) (hdesc : sp.desc (touch s) q = none) :
    Does c s fun u => (if q.payload.length = n then Answered u q op stPort 0 []
      else Answered u q op stBadLength n []) ∧ HostOnly s u := by
  have hback : giveBack sp (touch s) q = touch s := by simp [giveBack, hdesc]
  subst hop
  rw [Does, hc]
  unfold command
  by_cases hl : q.payload.length = n
  · have hreject : rejection sp s q = some (stPort, 0) := by simp [rejection, hlen, lenIs, hl, hpop, hdeny, hport]
    simp only [ht, hcache, hexec, hreject, hback, if_pos hl]
    exact ⟨_, rfl, finish1_answered .., finish1_hostOnly ..⟩
  · have hreject : rejection sp s q = some (stBadLength, n) := by simp [rejection, hlen, lenIs, hl]
    simp only [ht, hcache, hexec, hreject, hback, if_neg hl]
    exact ⟨_, rfl, finish1_answered .., finish1_hostOnly ..⟩

/-- Settles O57: the seven commands deny APP, and none of them has a check of the population. -/
theorem appIsDenied : Obligations.AppIsDenied :=
  ⟨fun s q ht hcache hexec hport =>
      command_denied (by change execSysSetSlots q s = _; unfold execSysSetSlots; rfl) ht hcache hexec hport rfl rfl rfl rfl rfl,
    fun s q ht hcache hexec hport =>
      command_denied (by change execSysRestart q s = _; unfold execSysRestart; rfl) ht hcache hexec hport rfl rfl rfl rfl rfl,
    fun s q ht hcache hexec hport =>
      command_denied (by change execNetSetMgmt q s = _; unfold execNetSetMgmt; rfl) ht hcache hexec hport rfl rfl rfl rfl rfl,
    fun s q ht hcache hexec hport =>
      command_denied (by change execTimDelegate q s = _; unfold execTimDelegate; rfl) ht hcache hexec hport rfl rfl rfl rfl rfl,
    fun s q ht hcache hexec hport =>
      command_denied (by change execCanDelegate q s = _; unfold execCanDelegate; rfl) ht hcache hexec hport rfl rfl rfl rfl rfl,
    fun s q ht hcache hexec hport =>
      command_denied (by change execUpdActivate q s = _; unfold execUpdActivate; rfl) ht hcache hexec hport rfl rfl rfl rfl rfl,
    fun s q ht hcache hexec hport =>
      command_denied (by change execUpdConfirm q s = _; unfold execUpdConfirm; rfl) ht hcache hexec hport rfl rfl rfl rfl rfl⟩

/-! ## Window buffers -/

/-- The lower of the best offset so far and the next one, as `firstFit` folds. -/
def lowerOf (b : Option Nat) (o : Nat) : Option Nat := match b with | none => some o | some x => some (min x o)

theorem foldl_lowerOf_mem (l : List Nat) (b : Option Nat) {o : Nat} (h : l.foldl lowerOf b = some o) : some o = b ∨ o ∈ l := by
  induction l generalizing b with
  | nil => exact .inl h.symm
  | cons x l ih =>
    rcases ih _ h with hb | hl
    · cases b with
      | none => cases hb; exact .inr List.mem_cons_self
      | some y =>
        obtain rfl : o = min y x := Option.some.inj hb
        rcases Nat.le_total y x with hyx | hxy
        · exact .inl (by rw [Nat.min_eq_left hyx])
        · exact .inr (by rw [Nat.min_eq_right hxy]; exact List.mem_cons_self)
    · exact .inr (List.mem_cons_of_mem x hl)

theorem foldl_lowerOf_isSome (l : List Nat) (b : Option Nat) (h : b.isSome = true ∨ l ≠ []) : (l.foldl lowerOf b).isSome = true := by
  induction l generalizing b with
  | nil => simpa using h
  | cons x l ih => exact ih _ (.inl (by cases b <;> rfl))

/-- The buffers in the pool of a port. -/
def poolBuffers (s : State) (port : Port) : List Desc :=
  s.hpr.desc.filter fun d => d.kind = 1 ∧ (poolOf port).1 ≤ d.offset ∧ d.offset < (poolOf port).2

theorem mem_poolBuffers {s : State} {port : Port} {d : Desc} : d ∈ poolBuffers s port ↔
    d ∈ s.hpr.desc ∧ d.kind = 1 ∧ (poolOf port).1 ≤ d.offset ∧ d.offset < (poolOf port).2 := by
  simp [poolBuffers]

/-- Where a buffer can start: at the start of the pool, or behind a buffer. -/
def starts (s : State) (port : Port) : List Nat := (poolOf port).1 :: (poolBuffers s port).map fun d => d.offset + d.size

def fits (s : State) (port : Port) (size o : Nat) : Bool :=
  decide (o + size ≤ (poolOf port).2) && (poolBuffers s port).all fun d =>
    decide (o + size ≤ d.offset) || decide (d.offset + d.size ≤ o)

theorem fits_iff {s : State} {port : Port} {size o : Nat} : fits s port size o = true ↔
    o + size ≤ (poolOf port).2 ∧ ∀ d ∈ poolBuffers s port, o + size ≤ d.offset ∨ d.offset + d.size ≤ o := by
  simp [fits]

theorem firstFit_eq (s : State) (port : Port) (size : Nat) :
    firstFit s port size = ((starts s port).filter (fits s port size)).foldl lowerOf none := rfl

theorem lo_le_of_mem_starts {s : State} {port : Port} {o : Nat} (h : o ∈ starts s port) : (poolOf port).1 ≤ o := by
  rcases List.mem_cons.mp h with rfl | h
  · exact Nat.le_refl _
  · obtain ⟨d, hd, rfl⟩ := List.mem_map.mp h
    obtain ⟨-, -, hlo, -⟩ := mem_poolBuffers.mp hd
    omega

theorem freeRun_of_firstFit {s : State} {port : Port} {size o : Nat} (h : firstFit s port size = some o) : FreeRun s port size o := by
  rw [firstFit_eq] at h
  rcases foldl_lowerOf_mem _ _ h with h | h
  · cases h
  · obtain ⟨hstart, hfits⟩ := List.mem_filter.mp h
    obtain ⟨hend, hfree⟩ := fits_iff.mp hfits
    exact ⟨lo_le_of_mem_starts hstart, hend, fun d hd hk hlo hhi => hfree d (mem_poolBuffers.mpr ⟨hd, hk, hlo, hhi⟩)⟩

/-- Free space holds a buffer at the last start that is not behind its own. -/
theorem firstFit_of_freeRun {s : State} {port : Port} {size o : Nat} (h : FreeRun s port size o) :
    (firstFit s port size).isSome = true := by
  obtain ⟨hlo, hend, hfree⟩ := h
  have hne : (starts s port).filter (fun x => decide (x ≤ o)) ≠ [] :=
    List.ne_nil_of_mem (List.mem_filter.mpr ⟨List.mem_cons_self, by simpa using hlo⟩)
  obtain ⟨x, hx, hlast⟩ : ∃ x ∈ (starts s port).filter (fun x => decide (x ≤ o)),
      ∀ y ∈ (starts s port).filter (fun x => decide (x ≤ o)), y ≤ x :=
    ⟨_, List.max_mem hne, fun y hy => List.le_max_of_mem hy⟩
  obtain ⟨hstart, hxo⟩ := List.mem_filter.mp hx
  have hxo : x ≤ o := by simpa using hxo
  rw [firstFit_eq]
  refine foldl_lowerOf_isSome _ _ (.inr (List.ne_nil_of_mem (List.mem_filter.mpr ⟨hstart, fits_iff.mpr ⟨by omega, ?_⟩⟩)))
  intro d hd
  obtain ⟨hmem, hk, hdlo, hdhi⟩ := mem_poolBuffers.mp hd
  rcases hfree d hmem hk hdlo hdhi with hbefore | hbehind
  · exact .inl (by omega)
  · refine .inr (hlast _ (List.mem_filter.mpr ⟨List.mem_cons_of_mem _ (List.mem_map.mpr ⟨d, hd, rfl⟩), ?_⟩))
    simpa using hbehind

theorem freeDesc_some {s : State} {d : Nat} (h : freeDesc s = some d) : d < 256 ∧ (s.desc d).kind = 0 :=
  ⟨List.mem_range.mp (List.mem_of_find?_eq_some h), by simpa using List.find?_some h⟩

theorem freeDesc_isSome {s : State} (hlen : s.hpr.desc.length = 256) (h : ∃ e ∈ s.hpr.desc, e.kind = 0) :
    (freeDesc s).isSome = true := by
  obtain ⟨e, he, hk⟩ := h
  obtain ⟨d, hd, rfl⟩ := List.mem_iff_getElem.mp he
  refine List.find?_isSome.mpr ⟨d, List.mem_range.mpr (hlen ▸ hd), ?_⟩
  simpa [State.desc, List.getD_eq_getElem?_getD, hd] using hk

theorem freeDesc_none {s : State} (hlen : s.hpr.desc.length = 256) (h : ∀ e ∈ s.hpr.desc, e.kind ≠ 0) : freeDesc s = none := by
  refine List.find?_eq_none.mpr fun d hd => ?_
  have hd : d < s.hpr.desc.length := hlen ▸ List.mem_range.mp hd
  simpa [State.desc, List.getD_eq_getElem?_getD, hd] using h _ (List.getElem_mem hd)

/-- The state after SYS_WIN_ALLOC has taken descriptor `d` at offset `o`, and answered. -/
def allocated (s : State) (q : Req) (d o : Nat) : State :=
  ok ((touch s).modDesc d fun e => { own := false, kind := 1, requester := portCode q.port, gen := (e.gen + 1) % 65536, offset := o
                                     size := allocSize q, used := 0, opcode := 0x010D, seq := q.seq })
    0x010D q (leU 2 d ++ leU 2 0 ++ leU 4 o ++ leU 4 (allocSize q))

theorem allocated_desc {s : State} {d : Nat} (hd : d < s.hpr.desc.length) (q : Req) (o : Nat) : (allocated s q d o).desc d =
    { own := false, kind := 1, requester := portCode q.port, gen := ((s.desc d).gen + 1) % 65536, offset := o
      size := allocSize q, used := 0, opcode := 0x010D, seq := q.seq } := by
  have hnew := desc_modDesc (touch s) d d fun e =>
    { own := false, kind := 1, requester := portCode q.port, gen := (e.gen + 1) % 65536, offset := o, size := allocSize q
      used := 0, opcode := 0x010D, seq := q.seq }
  rw [if_pos ⟨rfl, hd⟩] at hnew
  unfold allocated ok
  rw [finish1_desc_same (by rw [hnew]; simp), hnew]
  rfl

/-- The unit is in a state whose role, or whose rows, admit the commands on the window. -/
theorem rolesOk_window {sp : Spec} {s : State} (h : s.unit.isRole = true ∨ s.unit = .safeHold ∨ s.unit = .recovery)
    (hroles : sp.roles = .all) (hh : sp.h = true) (hv : sp.v = true) : rolesOk sp s.unit = true := by
  rcases h with h | h | h
  · exact anyRole_rolesOk sp s h hroles
  · simp [h, rolesOk, hh]
  · simp [h, rolesOk, hv]

section
variable {s : State} {q : Req} (h : Taken s q) (hr : s.unit.isRole = true ∨ s.unit = .safeHold ∨ s.unit = .recovery)
  (hl : q.payload.length = 4)
include h hr hl

theorem sysWinAlloc_allocates {d o : Nat} (hlo : 4096 ≤ allocSize q) (hhi : allocSize q ≤ 0x1000000)
    (hfit : firstFit s q.port (allocSize q) = some o) (hfree : freeDesc s = some d) :
    exec (.sysWinAlloc q) s = .next (allocated s q d o) := by
  have ⟨_, _, henv⟩ := h
  change execSysWinAlloc q s = _
  unfold execSysWinAlloc
  rw [command_run _ _ q s h, noteDesc_none _ _ _ rfl]
  · change Host.Outcome.next (allocated s q ((freeDesc s).getD 0) ((firstFit s q.port (allocSize q)).getD 0)) = _
    rw [hfit, hfree]
    rfl
  · simp [rejection, lenIs, hl, rolesOk_window hr, firstBad, henv, must, hlo, hhi, ownerBad, hfit, hfree]

theorem sysWinAlloc_refuses (hsize : allocSize q < 4096 ∨ 0x1000000 < allocSize q) :
    Does (.sysWinAlloc q) s fun u => Answered u q 0x010D stArg 0 [] ∧ HostOnly s u := by
  have ⟨_, _, henv⟩ := h
  have hbad : ¬(4096 ≤ allocSize q ∧ allocSize q ≤ 0x1000000) := by omega
  change ∃ u, execSysWinAlloc q s = _ ∧ _
  unfold execSysWinAlloc
  refine ⟨_, command_reject _ _ q s stArg 0 h ?_, finish1_answered .., finish1_hostOnly ..⟩
  simp [rejection, lenIs, hl, rolesOk_window hr, firstBad, henv, must, hbad]

theorem sysWinAlloc_lacks (hlo : 4096 ≤ allocSize q) (hhi : allocSize q ≤ 0x1000000)
    (hnone : firstFit s q.port (allocSize q) = none ∨ freeDesc s = none) :
    Does (.sysWinAlloc q) s fun u => Answered u q 0x010D stResource 0 [] ∧ HostOnly s u := by
  have ⟨_, _, henv⟩ := h
  change ∃ u, execSysWinAlloc q s = _ ∧ _
  unfold execSysWinAlloc
  refine ⟨_, command_reject _ _ q s stResource 0 h ?_, finish1_answered .., finish1_hostOnly ..⟩
  rcases hnone with hnone | hnone <;>
    simp [rejection, lenIs, hl, rolesOk_window hr, firstBad, henv, must, hlo, hhi, ownerBad, hnone]

end

/-- Settles O60: the lowest fit is free space, and where there is free space there is a fit. -/
theorem windowAllocation : Obligations.WindowAllocation := by
  refine ⟨?_, ?_, ?_⟩
  · intro s q n h hr hl hn hlo hhi hlen ⟨x, hx⟩ hdesc
    subst hn
    obtain ⟨o, ho⟩ := Option.isSome_iff_exists.mp (firstFit_of_freeRun hx)
    obtain ⟨d, hd⟩ := Option.isSome_iff_exists.mp (freeDesc_isSome hlen hdesc)
    obtain ⟨hlt, hkind⟩ := freeDesc_some hd
    have hnew := allocated_desc (s := s) (hlen ▸ hlt) q o
    refine ⟨_, sysWinAlloc_allocates h hr hl hlo hhi ho hd, d, hlt, hkind, ?_⟩
    rw [hnew]
    exact ⟨rfl, rfl, rfl, rfl, freeRun_of_firstFit ho, ok_answered .., finish1_hostOnly ..⟩
  · intro s q n h hr hl hn hsize
    subst hn
    exact sysWinAlloc_refuses h hr hl hsize
  · intro s q n h hr hl hn hlo hhi hlen hnone
    subst hn
    refine sysWinAlloc_lacks h hr hl hlo hhi (hnone.imp (fun hrun => ?_) (freeDesc_none hlen))
    by_contra hfit
    obtain ⟨o, ho⟩ := Option.ne_none_iff_exists'.mp hfit
    exact hrun o (freeRun_of_firstFit ho)

/-! ## A command repeated under the same number -/

/-- An ACTIVE unit that takes commands. -/
def servingUnit : State :=
  { State.reset with
    unit := .active
    pwr := { State.reset.pwr with state := .active }
    hpr := { State.reset.hpr with ready := true } }

/-- SYS_WIN_ALLOC of 4 KiB by HOST, with number 1. -/
def allocRequest : Req :=
  { port := .host, slot := none, seq := 1, retry := false, noIrq := false, payload := [0, 16, 0, 0] }

/-- The unit after SYS_WIN_ALLOC has handed out a buffer and HOST has given it to the device. -/
def bufferOwnedUnit : State := (allocated servingUnit allocRequest 0 0x10000).modDesc 0 fun e => { e with own := true }

/-- Refutes O37: its clause on SYS_WIN_ALLOC has every other descriptor as before, also where the command has the number of the
one that allocated a buffer which the device owns since: completing gives back every buffer of its opcode and number (R440). -/
theorem not_windowSlotsRestart : ¬ Obligations.WindowSlotsRestart := by
  unfold Obligations.WindowSlotsRestart
  rintro ⟨keepsOthers, -⟩
  have hfit : firstFit bufferOwnedUnit .host (allocSize allocRequest) = some 0x11000 := by decide +kernel
  have hfree : freeDesc bufferOwnedUnit = some 1 := by decide +kernel
  have htaken : Taken bufferOwnedUnit allocRequest := by decide +kernel
  have hrole : bufferOwnedUnit.unit.isRole = true := by decide +kernel
  obtain ⟨u, hu, -, -, hkept, -⟩ := keepsOthers bufferOwnedUnit allocRequest 1 0x11000 htaken (.inl hrole) (by decide)
    (by decide) (by decide) hfit hfree (by decide +kernel)
  cases hu.symm.trans (sysWinAlloc_allocates htaken (.inl hrole) (by decide) (by decide) (by decide) hfit hfree)
  exact absurd (congrArg Desc.own (hkept 0 (by decide))) (by decide +kernel)

end Sys2Proof.Machine
end

section
/-! SUPPORT. The interrupt sources and targets after an operation of the interrupt control unit (17_app_core_icu.md R482 to R492). -/

namespace Sys2Proof.Machine

-- One proof at a time: together their threads exceed the memory of the check.
set_option Elab.async false

/-! ## A source, and a target, after an update -/

theorem srcAt_modSrc_same {s : State} (hb : BanksOk s) (g : Target) {n : Nat} (hn : n < 256) (f : Src → Src) :
    (s.modSrc g n f).srcAt g n = f (s.srcAt g n) := by
  obtain ⟨hs, ha, hh, hsh⟩ := hb
  unfold State.modSrc State.srcAt
  by_cases h32 : n < 32
  · simp only [if_pos h32]
    cases g <;> exact getD_modify_same _ _ _ _ (by omega)
  · simp only [if_neg h32]
    exact getD_modify_same _ _ _ _ (by omega)

theorem srcAt_modSrc_ne (s : State) (g h : Target) {n k : Nat} (hk : k ≠ n) (f : Src → Src) :
    (s.modSrc g n f).srcAt h k = s.srcAt h k := by
  unfold State.modSrc State.srcAt
  by_cases h32 : n < 32
  · simp only [if_pos h32]
    split
    · cases g <;> cases h <;> first | rfl | exact getD_modify_ne _ _ _ hk
    · cases g <;> rfl
  · simp only [if_neg h32]
    split
    · rfl
    · exact getD_modify_ne _ _ _ (by omega)

theorem banksOk_modSrc {s : State} (h : BanksOk s) (g : Target) (n : Nat) (f : Src → Src) : BanksOk (s.modSrc g n f) := by
  unfold State.modSrc
  split
  · cases g <;> simpa [BanksOk] using h
  · simpa [BanksOk] using h

@[simp] theorem srcAt_modTgt (s : State) (g h : Target) (n : Nat) (f : Tgt → Tgt) : (s.modTgt g f).srcAt h n = s.srcAt h n := by
  cases g <;> rfl

@[simp] theorem tgt_modTgt_same (s : State) (g : Target) (f : Tgt → Tgt) : (s.modTgt g f).tgt g = f (s.tgt g) := by
  cases g <;> rfl

@[simp] theorem tgt_modSrc (s : State) (g h : Target) (n : Nat) (f : Src → Src) : (s.modSrc g n f).tgt h = s.tgt h := by
  unfold State.modSrc
  split
  · cases g <;> rfl
  · rfl

@[simp] theorem clk_modTgt (s : State) (g : Target) (f : Tgt → Tgt) : (s.modTgt g f).clk = s.clk := by cases g <;> rfl

@[simp] theorem srcAt_advance (s : State) (t : Nat) (g : Target) (n : Nat) : (s.advance t).srcAt g n = s.srcAt g n := rfl
@[simp] theorem tgt_advance (s : State) (t : Nat) (g : Target) : (s.advance t).tgt g = s.tgt g := by cases g <;> rfl

/-- What changes the interrupt sources of no bank leaves each as it is. -/
theorem srcAt_congr {s u : State} (h : u.icu = s.icu) (g : Target) (n : Nat) : u.srcAt g n = s.srcAt g n := by
  unfold State.srcAt
  rw [h]

theorem tgt_congr {s u : State} (h : u.icu = s.icu) (g : Target) : u.tgt g = s.tgt g := by
  cases g <;> simp only [State.tgt, h]

theorem banksOk_congr {s u : State} (hb : BanksOk s) (h : u.icu = s.icu) : BanksOk u := by
  rw [BanksOk, h]
  exact hb

/-- An operation on source `n` of the frame of `g` leaves its route and every other source. -/
def ActsAlone (g : Target) (f : State → Nat → State) : Prop :=
  ∀ s n, BanksOk s → n < 256 → BanksOk (f s n) ∧ ((f s n).srcAt g n).route = (s.srcAt g n).route ∧
    ∀ k, k ≠ n → (f s n).srcAt g k = s.srcAt g k

theorem actsAlone_modSrc {g : Target} (f : State → Nat → Src → Src) (h : ∀ s n x, (f s n x).route = x.route) :
    ActsAlone g fun s n => s.modSrc g n (f s n) := fun s n hb hn =>
  ⟨banksOk_modSrc hb .., by rw [srcAt_modSrc_same hb g hn, h], fun _ hk => srcAt_modSrc_ne s g g hk _⟩

theorem actsAlone_icuPend (g : Target) : ActsAlone g fun s n => icuPend s g n :=
  actsAlone_modSrc _ fun _ _ _ => rfl

theorem icuPend_same {s : State} (hb : BanksOk s) (g : Target) {n : Nat} (hn : n < 256) :
    ((icuPend s g n).srcAt g n).pend = true ∧ ((icuPend s g n).srcAt g n).mask = (s.srcAt g n).mask ∧
      ((icuPend s g n).srcAt g n).active = (s.srcAt g n).active := by
  unfold icuPend
  rw [srcAt_modSrc_same hb g hn]
  exact ⟨rfl, rfl, rfl⟩

/-! ## The mask words -/

/-- One bit of a mask word. -/
def wordStep (g : Target) (w : Nat) (m : BitVec 32) (f : State → Nat → State) (s : State) (b : Nat) : State :=
  if m.getLsbD b && decide (w < 8) && (s.srcAt g (32 * w + b)).route == g then f s (32 * w + b) else s

theorem icuWord_eq (s : State) (g : Target) (w : Nat) (m : BitVec 32) (f : State → Nat → State) :
    icuWord s g w m f = (List.range 32).foldl (wordStep g w m f) s := rfl

section
variable {g : Target} {w : Nat} {m : BitVec 32} {f : State → Nat → State} (hf : ActsAlone g f) (hw : w < 8)
include hf hw

theorem wordStep_acts {s : State} (hb : BanksOk s) {b : Nat} (hlt : b < 32) : BanksOk (wordStep g w m f s b) ∧
    ((wordStep g w m f s b).srcAt g (32 * w + b)).route = (s.srcAt g (32 * w + b)).route ∧
    ∀ k, k ≠ 32 * w + b → (wordStep g w m f s b).srcAt g k = s.srcAt g k := by
  unfold wordStep
  split
  · exact hf s _ hb (by omega)
  · exact ⟨hb, rfl, fun _ _ => rfl⟩

/-- The word's bits act one after the other, each on its own source: source `k` is as its own bit leaves it. -/
theorem wordFold_srcAt (k : Nat) (l : List Nat) (hl : ∀ b ∈ l, b < 32) (hnd : l.Nodup) {s : State} (hb : BanksOk s) :
    BanksOk (l.foldl (wordStep g w m f) s) ∧
    if k / 32 = w ∧ k % 32 ∈ l ∧ m.getLsbD (k % 32) = true ∧ (s.srcAt g k).route = g then
      ∃ x, BanksOk x ∧ x.srcAt g k = s.srcAt g k ∧ (l.foldl (wordStep g w m f) s).srcAt g k = (f x k).srcAt g k
    else (l.foldl (wordStep g w m f) s).srcAt g k = s.srcAt g k := by
  induction l generalizing s with
  | nil => exact ⟨hb, by simp⟩
  | cons b l ih =>
    have hlt : b < 32 := hl b List.mem_cons_self
    obtain ⟨hbl, hnd⟩ := List.nodup_cons.mp hnd
    obtain ⟨hb1, hroute, hother⟩ := wordStep_acts hf hw (m := m) hb hlt
    obtain ⟨hb2, hrest⟩ := ih (fun x hx => hl x (List.mem_cons_of_mem b hx)) hnd hb1
    refine ⟨hb2, ?_⟩
    rw [List.foldl_cons]
    by_cases hk : k = 32 * w + b
    · have hmod : k % 32 = b := by omega
      have hdiv : k / 32 = w := by omega
      rw [if_neg (by rw [hmod]; exact fun h => hbl h.2.1)] at hrest
      rw [hrest, hmod, hdiv]
      subst hk
      unfold wordStep
      by_cases hbit : m.getLsbD b = true ∧ (s.srcAt g (32 * w + b)).route = g
      · rw [if_pos ⟨rfl, List.mem_cons_self, hbit.1, hbit.2⟩]
        exact ⟨s, hb, rfl, by simp [hbit.1, hbit.2, hw]⟩
      · rw [if_neg (fun h => hbit h.2.2), if_neg (by simpa [hw] using hbit)]
    · have hsame := hother k hk
      have hmem : k / 32 = w → (k % 32 ∈ b :: l ↔ k % 32 ∈ l) := fun hdiv => by
        rw [List.mem_cons]
        exact or_iff_right (by omega)
      rw [hsame] at hrest
      by_cases hin : k / 32 = w ∧ k % 32 ∈ l ∧ m.getLsbD (k % 32) = true ∧ (s.srcAt g k).route = g
      · rw [if_pos hin] at hrest
        rwa [if_pos ⟨hin.1, (hmem hin.1).mpr hin.2.1, hin.2.2⟩]
      · rw [if_neg hin] at hrest
        rwa [if_neg fun h => hin ⟨h.1, (hmem h.1).mp h.2.1, h.2.2⟩]

theorem icuWord_srcAt {s : State} (hb : BanksOk s) (k : Nat) : if InMask s g w m k then
      ∃ x, BanksOk x ∧ x.srcAt g k = s.srcAt g k ∧ (icuWord s g w m f).srcAt g k = (f x k).srcAt g k
    else (icuWord s g w m f).srcAt g k = s.srcAt g k := by
  obtain ⟨-, h⟩ := wordFold_srcAt hf hw (m := m) k (List.range 32) (fun b => List.mem_range.mp) List.nodup_range hb
  have hmod : k % 32 ∈ List.range 32 := List.mem_range.mpr (Nat.mod_lt _ (by decide))
  simpa only [icuWord_eq, InMask, hmod, true_and] using h

/-- A field that the operation sets to `v` is `v` in every source the word names, and as before in every other. -/
theorem icuWord_field {α : Type} (p : Src → α) (v : α) {s : State} (hb : BanksOk s)
    (hp : ∀ x n, BanksOk x → n < 256 → p ((f x n).srcAt g n) = v) {k : Nat} (hk : k < 256) :
    p ((icuWord s g w m f).srcAt g k) = if InMask s g w m k then v else p (s.srcAt g k) := by
  have h := icuWord_srcAt hf hw (m := m) hb k
  split at h
  next hin =>
    obtain ⟨x, hx, -, heq⟩ := h
    rw [if_pos hin, heq, hp x k hx hk]
  next hin => rw [if_neg hin, h]

/-- A field that the operation leaves is in every source as before. -/
theorem icuWord_keeps_field {α : Type} (p : Src → α) {s : State} (hb : BanksOk s)
    (hp : ∀ x n, BanksOk x → n < 256 → p ((f x n).srcAt g n) = p (x.srcAt g n)) {k : Nat} (hk : k < 256) :
    p ((icuWord s g w m f).srcAt g k) = p (s.srcAt g k) := by
  have h := icuWord_srcAt hf hw (m := m) hb k
  split at h
  next =>
    obtain ⟨x, hx, hsame, heq⟩ := h
    rw [heq, hp x k hx hk, hsame]
  next => rw [h]

end

theorem foldl_tgt {α : Type} {f : State → α → State} {g : Target} (hf : ∀ s a, (f s a).tgt g = s.tgt g) (l : List α) (s : State) :
    (l.foldl f s).tgt g = s.tgt g := by
  induction l generalizing s with
  | nil => rfl
  | cons a l ih => rw [List.foldl_cons, ih, hf]

theorem icuWord_tgt {g h : Target} {w : Nat} {m : BitVec 32} {f : State → Nat → State} (hf : ∀ s n, (f s n).tgt h = s.tgt h)
    (s : State) : (icuWord s g w m f).tgt h = s.tgt h :=
  foldl_tgt (f := wordStep g w m f) (fun s b => by unfold wordStep; split <;> simp [hf]) _ s

/-! ## The source that goes first -/

/-- Source `n` goes first, before or with `m`: by PRIO, on a tie the one that completed active-and-pending, then by number. -/
def GoesFirst (s : State) (g : Target) (n m : Nat) : Prop :=
  (s.srcAt g m).prio < (s.srcAt g n).prio ∨ (s.srcAt g m).prio = (s.srcAt g n).prio ∧
    ((s.srcAt g m).reentry = false ∧ (s.srcAt g n).reentry = true ∨ (s.srcAt g m).reentry = (s.srcAt g n).reentry ∧ n ≤ m)

/-- `n` may be decided for: eligible, and moderation permits it. -/
def Candidate (s : State) (g : Target) (n : Nat) : Prop := eligible s g n = true ∧ permitted s g n = true

/-- The best of the sources below `k`. -/
def IsBest (s : State) (g : Target) (k : Nat) : Option Nat → Prop
  | none => ∀ j, j < k → ¬Candidate s g j
  | some n => n < k ∧ Candidate s g n ∧ ∀ j, j < k → Candidate s g j → GoesFirst s g n j

def bestStep (s : State) (g : Target) (b : Option Nat) (n : Nat) : Option Nat :=
  if eligible s g n && permitted s g n then
    match b with
    | none => some n
    | some m => if precedes s g n m then some n else b
  else b

theorem bestSource_eq (s : State) (g : Target) : bestSource s g = (List.range 256).foldl (bestStep s g) none := rfl

theorem goesFirst_refl (s : State) (g : Target) (n : Nat) : GoesFirst s g n n := by simp [GoesFirst]

theorem goesFirst_of_precedes {s : State} {g : Target} {n m j : Nat} (h : precedes s g n m = true) (hj : GoesFirst s g m j) :
    GoesFirst s g n j := by
  simp only [precedes, Bool.or_eq_true, decide_eq_true_eq, Bool.and_eq_true, beq_iff_eq, Bool.not_eq_true'] at h
  unfold GoesFirst at hj ⊢
  rcases h with h | ⟨⟨h, hn⟩, hm⟩
  · omega
  · rcases hj with hj | ⟨hj, ⟨-, hm'⟩ | ⟨hjm, -⟩⟩
    · omega
    · simp [hm] at hm'
    · exact .inr ⟨by omega, .inl ⟨by rw [hjm, hm], hn⟩⟩

theorem goesFirst_of_not_precedes {s : State} {g : Target} {n m : Nat} (h : precedes s g n m = false) (hlt : m < n) :
    GoesFirst s g m n := by
  simp only [precedes, Bool.or_eq_false_iff, decide_eq_false_iff_not, Bool.and_eq_false_iff, Bool.not_eq_false'] at h
  obtain ⟨hle, htie⟩ := h
  unfold GoesFirst
  by_cases heq : (s.srcAt g n).prio = (s.srcAt g m).prio
  · refine .inr ⟨heq, ?_⟩
    cases hn : (s.srcAt g n).reentry <;> cases hm : (s.srcAt g m).reentry <;> simp_all [Nat.le_of_lt hlt]
  · exact .inl (by omega)

theorem isBest_step {s : State} {g : Target} {k : Nat} {b : Option Nat} (h : IsBest s g k b) : IsBest s g (k + 1) (bestStep s g b k) := by
  unfold bestStep
  by_cases hk : Candidate s g k
  · rw [if_pos (by simp [hk.1, hk.2])]
    cases b with
    | none =>
      refine ⟨Nat.lt_succ_self k, hk, fun j hj hc => ?_⟩
      obtain rfl : j = k := by
        by_contra hne
        exact h j (by omega) hc
      exact goesFirst_refl s g j
    | some m =>
      obtain ⟨hm, hcm, hfirst⟩ := h
      dsimp only
      split
      next hp =>
        refine ⟨Nat.lt_succ_self k, hk, fun j hj hc => ?_⟩
        by_cases hjk : j = k
        · exact hjk ▸ goesFirst_refl s g k
        · exact goesFirst_of_precedes hp (hfirst j (by omega) hc)
      next hp =>
        refine ⟨by omega, hcm, fun j hj hc => ?_⟩
        by_cases hjk : j = k
        · exact hjk ▸ goesFirst_of_not_precedes (by simpa using hp) hm
        · exact hfirst j (by omega) hc
  · have hno : (eligible s g k && permitted s g k) = false := by simpa [Candidate] using hk
    rw [hno]
    simp only [Bool.false_eq_true, if_false]
    cases b with
    | none => exact fun j hj hc => if hjk : j = k then hk (hjk ▸ hc) else h j (by omega) hc
    | some m =>
      obtain ⟨hm, hcm, hfirst⟩ := h
      exact ⟨by omega, hcm, fun j hj hc => if hjk : j = k then absurd (hjk ▸ hc) hk else hfirst j (by omega) hc⟩

theorem isBest_range (s : State) (g : Target) (k : Nat) : IsBest s g k ((List.range k).foldl (bestStep s g) none) := by
  induction k with
  | zero => exact fun j hj => absurd hj (Nat.not_lt_zero j)
  | succ k ih =>
    rw [List.range_succ, List.foldl_append]
    exact isBest_step ih

theorem bestSource_best {s : State} {g : Target} {n : Nat} (h : bestSource s g = some n) :
    n < 256 ∧ Candidate s g n ∧ ∀ m, m < 256 → Candidate s g m → GoesFirst s g n m := by
  have hbest := isBest_range s g 256
  rwa [← bestSource_eq, h] at hbest

theorem masked_not_eligible {s : State} {g : Target} {n : Nat} (h : (s.srcAt g n).mask = true) : eligible s g n = false := by
  simp [eligible, h]

/-- A claim of a decision whose source is no longer eligible reads 0 and leaves every source. -/
theorem icuClaim_lapsed {s : State} {g : Target} {n : Nat} (hd : (s.tgt g).deliv = some n) (he : eligible s g n = false) :
    ((icuClaim s g).tgt g).claim = 0 ∧ ((icuClaim s g).tgt g).deliv = none ∧ ∀ k, (icuClaim s g).srcAt g k = s.srcAt g k := by
  unfold icuClaim
  simp [hd, he]

section
variable {t : Nat} {s b : State} {g : Target} {w : Nat} {m : BitVec 32} (hb : s.advance t = b) (hok : BanksOk b) (hw : w < 8)
include hb hok hw

theorem icuMaskSet_masks : Does (.icuMaskSet t g w m) s fun u =>
    (∀ k ∈ List.range 256, (u.srcAt g k).mask = if InMask b g w m k then true else (b.srcAt g k).mask) ∧
    ∀ k ∈ List.range 256, (u.srcAt g k).pend = (b.srcAt g k).pend ∧ (u.srcAt g k).active = (b.srcAt g k).active := by
  subst hb
  have hf : ActsAlone g fun s n => s.modSrc g n fun x => { x with mask := true } := actsAlone_modSrc _ fun _ _ _ => rfl
  refine ⟨_, rfl, fun k hk => ?_, fun k hk => ⟨?_, ?_⟩⟩ <;> have hk := List.mem_range.mp hk
  · exact icuWord_field hf hw (·.mask) true hok (fun x n hx hn => by rw [srcAt_modSrc_same hx g hn]) hk
  · exact icuWord_keeps_field hf hw (·.pend) hok (fun x n hx hn => by rw [srcAt_modSrc_same hx g hn]) hk
  · exact icuWord_keeps_field hf hw (·.active) hok (fun x n hx hn => by rw [srcAt_modSrc_same hx g hn]) hk

theorem icuMaskClr_unmasks : Does (.icuMaskClr t g w m) s fun u =>
    (∀ k ∈ List.range 256, (u.srcAt g k).mask = if InMask b g w m k then false else (b.srcAt g k).mask) ∧
    ∀ k ∈ List.range 256, (u.srcAt g k).pend = (b.srcAt g k).pend ∧ (u.srcAt g k).active = (b.srcAt g k).active := by
  subst hb
  have hf : ActsAlone g fun s n => s.modSrc g n fun x => { x with mask := false } := actsAlone_modSrc _ fun _ _ _ => rfl
  refine ⟨_, rfl, fun k hk => ?_, fun k hk => ⟨?_, ?_⟩⟩ <;> have hk := List.mem_range.mp hk
  · exact icuWord_field hf hw (·.mask) false hok (fun x n hx hn => by rw [srcAt_modSrc_same hx g hn]) hk
  · exact icuWord_keeps_field hf hw (·.pend) hok (fun x n hx hn => by rw [srcAt_modSrc_same hx g hn]) hk
  · exact icuWord_keeps_field hf hw (·.active) hok (fun x n hx hn => by rw [srcAt_modSrc_same hx g hn]) hk

theorem icuPendSet_pends : Does (.icuPendSet t g w m) s fun u =>
    ∀ k ∈ List.range 256, (u.srcAt g k).pend = if InMask b g w m k then true else (b.srcAt g k).pend := by
  subst hb
  exact ⟨_, rfl, fun k hk => icuWord_field (actsAlone_icuPend g) hw (·.pend) true hok
    (fun x n hx hn => (icuPend_same hx g hn).1) (List.mem_range.mp hk)⟩

theorem icuPendClr_clears : Does (.icuPendClr t g w m) s fun u =>
    ∀ k ∈ List.range 256, (u.srcAt g k).pend = if InMask b g w m k then false else (b.srcAt g k).pend := by
  subst hb
  have hf : ActsAlone g fun s n => s.modSrc g n fun x => { x with pend := false, stranded := none, reentry := false } :=
    actsAlone_modSrc _ fun _ _ _ => rfl
  exact ⟨_, rfl, fun k hk => icuWord_field hf hw (·.pend) false hok (fun x n hx hn => by rw [srcAt_modSrc_same hx g hn])
    (List.mem_range.mp hk)⟩

end

/-- Masking the source of the latched decision: the next claim reads 0, and the source stays pending. -/
theorem icuMaskSet_lapses {s : State} (t t2 : Nat) {g : Target} {w n : Nat} {m : BitVec 32} (hb : BanksOk s) (hw : w < 8)
    (hd : (s.tgt g).deliv = some n) (hin : InMask s g w m n) (hp : (s.srcAt g n).pend = true) :
    ∃ u v, exec (.icuMaskSet t g w m) s = .next u ∧ exec (.icuClaimRead t2 g) u = .next v ∧ (v.tgt g).claim = 0 ∧
      (v.tgt g).deliv = none ∧ (v.srcAt g n).pend = true := by
  have hn : n ∈ List.range 256 := List.mem_range.mpr (by have := hin.1; omega)
  obtain ⟨u, hu, hmask, hkept⟩ := icuMaskSet_masks (b := s.advance t) (g := g) (m := m) rfl hb hw
  have hdeliv : ((u.advance t2).tgt g).deliv = some n := by
    cases hu
    rw [tgt_advance, icuWord_tgt (fun _ _ => tgt_modSrc ..), tgt_advance, hd]
  have helig : eligible (u.advance t2) g n = false := by
    refine masked_not_eligible ?_
    rw [srcAt_advance, hmask n hn]
    exact if_pos hin
  obtain ⟨hclaim, hdel, hsrc⟩ := icuClaim_lapsed hdeliv helig
  exact ⟨u, _, hu, rfl, hclaim, hdel, by rw [hsrc, srcAt_advance, (hkept n hn).1]; exact hp⟩

/-- Settles O58: a mask word sets or clears the mask of the sources it names, and eligibility asks for a clear mask. -/
theorem maskBits : Obligations.MaskBits :=
  ⟨fun _ _ _ h => ⟨masked_not_eligible h, fun hbest =>
      Bool.false_ne_true ((masked_not_eligible h).symm.trans (bestSource_best hbest).2.1.1)⟩,
    fun _ _ _ _ _ hok hw => icuMaskSet_masks rfl hok hw, fun _ _ _ _ _ hok hw => icuMaskClr_unmasks rfl hok hw,
    fun _ t t2 _ _ _ _ hb hw hd hin hp => icuMaskSet_lapses t t2 hb hw hd hin hp⟩

/-! ## A target enabled or disabled -/

/-- A target is enabled: each source redirected from it returns, and each stranded on it no longer is. -/
def Src.enabled (g : Target) (x : Src) : Src :=
  if x.redirected && x.home == g then { x with route := x.home, redirected := false, pend := false, stranded := none }
  else if x.route == g then { x with stranded := none } else x

/-- A target is disabled at instant `now`: what is pending on it is stranded. -/
def Src.disabled (g : Target) (now : Nat) (x : Src) : Src :=
  if x.route == g && x.pend && g != .sup then { x with stranded := some (x.stranded.getD now) } else x

theorem getD_map_default {α : Type} (l : List α) (f : α → α) {d : α} (h : f d = d) (k : Nat) :
    (l.map f).getD k d = f (l.getD k d) := by
  rw [List.getD_eq_getElem?_getD, List.getD_eq_getElem?_getD, List.getElem?_map]
  cases l[k]? <;> simp [h]

theorem enabled_default (g : Target) : Src.enabled g {} = {} := by cases g <;> rfl
theorem disabled_default (g : Target) (now : Nat) : Src.disabled g now {} = {} := by cases g <;> rfl

/-- The banks of all three targets and the shared one after `f` has run over them. -/
def mapBanks (s : State) (f : Src → Src) : State :=
  { s with icu := { s.icu with psup := s.icu.psup.map f, papp := s.icu.papp.map f, phost := s.icu.phost.map f
                               shared := s.icu.shared.map f } }

theorem icuCtrl_enable (s : State) (g : Target) {v : BitVec 32} (hv : v.getLsbD 0 = true) : icuCtrl s g v =
    mapBanks (s.modTgt g fun t => { t with en := true, idleByp := v.getLsbD 1 }) (Src.enabled g) := by
  unfold icuCtrl
  simp only [hv]
  rfl

theorem srcAt_enabled (s : State) (g : Target) {v : BitVec 32} (hv : v.getLsbD 0 = true) (h : Target) (n : Nat) :
    (icuCtrl s g v).srcAt h n = (s.srcAt h n).enabled g := by
  rw [icuCtrl_enable s g hv, ← srcAt_modTgt s g h n fun t => { t with en := true, idleByp := v.getLsbD 1 }]
  unfold State.srcAt mapBanks
  split
  · cases h <;> exact getD_map_default _ _ (enabled_default g) _
  · exact getD_map_default _ _ (enabled_default g) _

theorem icuCtrl_disable (s : State) (g : Target) {v : BitVec 32} (hv : v.getLsbD 0 = false) : icuCtrl s g v =
    let u := s.modTgt g fun t => { t with en := false, idleByp := v.getLsbD 1 }
    { u with icu := { u.icu with papp := u.icu.papp.map (Src.disabled g u.clk), phost := u.icu.phost.map (Src.disabled g u.clk)
                                 shared := u.icu.shared.map (Src.disabled g u.clk) } } := by
  unfold icuCtrl
  simp only [hv]
  rfl

theorem srcAt_disabled (s : State) (g : Target) {v : BitVec 32} (hv : v.getLsbD 0 = false) (h : Target) (n : Nat) :
    (icuCtrl s g v).srcAt h n = s.srcAt h n ∨ (icuCtrl s g v).srcAt h n = (s.srcAt h n).disabled g s.clk := by
  rw [icuCtrl_disable s g hv, ← srcAt_modTgt s g h n fun t => { t with en := false, idleByp := v.getLsbD 1 }]
  simp only [clk_modTgt]
  unfold State.srcAt
  split
  · cases h
    · exact .inl rfl
    · exact .inr (getD_map_default _ _ (disabled_default g _) _)
    · exact .inr (getD_map_default _ _ (disabled_default g _) _)
  · exact .inr (getD_map_default _ _ (disabled_default g _) _)

theorem disabled_fields (g : Target) (now : Nat) (x : Src) : (x.disabled g now).pend = x.pend ∧ (x.disabled g now).route = x.route := by
  unfold Src.disabled
  split <;> exact ⟨rfl, rfl⟩

/-! ## Edges -/

/-- An edge of a source that fires and is not redirected sets it pending, and touches no other. -/
theorem icuPrivate_pends {s : State} {g : Target} {n : Nat} (hres : icuReserved g n = false)
    (hserved : hostServed s = true) (hred : (s.srcAt g n).redirected = false) : icuPrivate s g n = icuPend s g n := by
  simp [icuPrivate, hres, hserved, hred]

theorem icuPend_others (s : State) (g h : Target) {n k : Nat} (hk : k ≠ n) : (icuPend s g n).srcAt h k = s.srcAt h k :=
  srcAt_modSrc_ne s g h hk _

@[simp] theorem icuPend_tgt (s : State) (g h : Target) (n : Nat) : (icuPend s g n).tgt h = s.tgt h := tgt_modSrc ..

theorem icuShared_pends {s : State} {n : Nat} (hres : icuReserved .sup n = false)
    (hserved : hostServed s = true) (hred : (s.srcAt .sup n).redirected = false) : icuShared s n = icuPend s .sup n := by
  unfold icuShared
  rw [icuPrivate_pends hres hserved hred]
  simp [hred]

/-- A shared source is one in every frame. -/
theorem srcAt_shared (s : State) (g h : Target) {n : Nat} (hn : 32 ≤ n) : s.srcAt g n = s.srcAt h n := by
  unfold State.srcAt
  rw [if_neg (by omega), if_neg (by omega)]

/-- An information record moves no interrupt source. -/
theorem groupRecord_info_icu (s : State) (grp src rule obj val : Nat) : (groupRecord s grp src lvInfo rule obj val).icu = s.icu := by
  unfold groupRecord record
  split
  · rfl
  · dsimp only
    (repeat' split) <;> first | rfl | contradiction

/-- The record of a redirected source notes its instant in the source, and changes nothing else of the ICU. -/
theorem redirRecord_icu {s : State} (hb : BanksOk s) (g : Target) {n : Nat} (hn : n < 256) :
    (∃ x, (redirRecord s g n).srcAt g n = { s.srcAt g n with redirRecT := x }) ∧
      (∀ k, k ≠ n → (redirRecord s g n).srcAt g k = s.srcAt g k) ∧ (redirRecord s g n).tgt g = s.tgt g := by
  unfold redirRecord
  dsimp only
  split
  · have hicu := groupRecord_info_icu (s.modSrc g n fun y => { y with redirRecT := some s.clk }) gSys srcIcu 491 n
      (s.srcAt g n).redirCount
    refine ⟨⟨some s.clk, ?_⟩, fun k hk => ?_, ?_⟩
    · rw [srcAt_congr hicu, srcAt_modSrc_same hb g hn]
    · rw [srcAt_congr hicu, srcAt_modSrc_ne s g g hk]
    · rw [tgt_congr hicu, tgt_modSrc]
  · exact ⟨⟨_, rfl⟩, fun _ _ => rfl, rfl⟩

/-- Source `n` of target `g` goes to SUP, and the target counts it. -/
def redirected (s : State) (g : Target) (n : Nat) : State :=
  (s.modSrc g n fun y =>
      { y with route := .sup, redirected := true, pend := false, stranded := none, redirCount := y.redirCount + 1 }).modTgt g
    fun y => { y with redirCnt := (y.redirCnt + 1) % 65536 }

theorem redirected_icu {s : State} (hb : BanksOk s) (g : Target) {n : Nat} (hn : n < 256) :
    (redirected s g n).srcAt g n = { s.srcAt g n with
      route := .sup, redirected := true, pend := false, stranded := none, redirCount := (s.srcAt g n).redirCount + 1 } ∧
    (∀ k, k ≠ n → (redirected s g n).srcAt g k = s.srcAt g k) ∧
    (redirected s g n).tgt g = { s.tgt g with redirCnt := ((s.tgt g).redirCnt + 1) % 65536 } := by
  refine ⟨?_, fun k hk => ?_, ?_⟩
  · rw [redirected, srcAt_modTgt, srcAt_modSrc_same hb g hn]
  · rw [redirected, srcAt_modTgt, srcAt_modSrc_ne s g g hk]
  · rw [redirected, tgt_modTgt_same, tgt_modSrc]

theorem redirected_banksOk {s : State} (h : BanksOk s) (g : Target) (n : Nat) : BanksOk (redirected s g n) := by
  have h' : BanksOk (s.modSrc g n fun y =>
      { y with route := .sup, redirected := true, pend := false, stranded := none, redirCount := y.redirCount + 1 }) :=
    banksOk_modSrc h ..
  unfold redirected
  cases g <;> exact h'

section
variable {t : Nat} {s b : State} {g : Target} {n : Nat} (hb : s.advance t = b)
include hb

theorem icuSourceEdge_private (hok : BanksOk b) (hn : n < 32) (hres : icuReserved g n = false) (hserved : hostServed b = true)
    (hred : (b.srcAt g n).redirected = false) : Does (.icuSourceEdge t g n) s fun u => (u.srcAt g n).pend = true ∧
      (u.srcAt g n).mask = (b.srcAt g n).mask ∧ (u.srcAt g n).active = (b.srcAt g n).active ∧ u.icu.sup = b.icu.sup ∧
      u.icu.app = b.icu.app ∧ ∀ k, k ≠ n → u.srcAt g k = b.srcAt g k := by
  have hlt : n < 256 := by omega
  refine ⟨icuPend b g n, ?_, ?_⟩
  · change execIcuSourceEdge t g n s = _
    unfold execIcuSourceEdge
    rw [hb]
    dsimp only
    rw [if_pos hn, icuPrivate_pends hres hserved hred]
  · obtain ⟨hp, hm, ha⟩ := icuPend_same hok g hlt
    exact ⟨hp, hm, ha, icuPend_tgt b g .sup n, icuPend_tgt b g .app n, fun k hk => icuPend_others b g g hk⟩

theorem icuSourceEdge_shared (hok : BanksOk b) (hlo : 32 ≤ n) (hn : n < 256) (hres : icuReserved .sup n = false)
    (hserved : hostServed b = true) (hred : (b.srcAt g n).redirected = false) : Does (.icuSourceEdge t g n) s fun u =>
      (u.srcAt g n).pend = true ∧ ∀ k, k ≠ n → u.srcAt g k = b.srcAt g k := by
  rw [srcAt_shared b g .sup hlo] at hred
  refine ⟨icuPend b .sup n, ?_, ?_, fun k hk => icuPend_others b .sup g hk⟩
  · change execIcuSourceEdge t g n s = _
    unfold execIcuSourceEdge
    rw [hb]
    dsimp only
    rw [if_neg (Nat.not_lt.mpr hlo), if_pos hn, icuShared_pends hres hserved hred]
  · rw [srcAt_shared _ g .sup hlo]
    exact (icuPend_same hok .sup hn).1

/-! ## Decision, claim and completion -/

theorem icuDecision_latches (hd : (b.tgt g).deliv = none) (hbest : bestSource b g = some n) :
    Does (.icuDecision t g) s fun u => (u.tgt g).deliv = some n ∧ (u.tgt g).line = true ∧ (u.tgt g).sleep = false ∧
      eligible b g n = true ∧ permitted b g n = true ∧ (∀ m ∈ List.range 256, eligible b g m = true → permitted b g m = true →
        GoesFirst b g n m) ∧ u.srcAt g n = b.srcAt g n := by
  obtain ⟨-, ⟨he, hp⟩, hfirst⟩ := bestSource_best hbest
  refine ⟨_, rfl, ?_⟩
  rw [hb]
  unfold icuDecide
  simp only [hd, hbest, Option.isSome_none, Bool.false_eq_true, if_false, tgt_modTgt_same, srcAt_modTgt, true_and, and_true]
  exact ⟨he, hp, fun m hm hem hpm => hfirst m (List.mem_range.mp hm) ⟨hem, hpm⟩⟩

theorem icuDecision_keeps (hd : (b.tgt g).deliv = some n) : Does (.icuDecision t g) s fun u => u = b := by
  refine ⟨_, rfl, ?_⟩
  rw [hb, icuDecide, hd]
  rfl

theorem icuClaimRead_claims (hok : BanksOk b) (hn : n < 256) (hd : (b.tgt g).deliv = some n) (he : eligible b g n = true)
    (hgrp : (b.srcAt g n).group < (b.tgt g).holdEnd.length) : Does (.icuClaimRead t g) s fun u =>
      (u.tgt g).claim = 0x80000000 + n ∧ (u.tgt g).deliv = none ∧ (u.tgt g).line = false ∧ (u.srcAt g n).pend = false ∧
      (u.srcAt g n).active = some g ∧ (u.tgt g).holdEnd.getD (b.srcAt g n).group 0 =
        b.clk + (b.tgt g).hold.getD (b.srcAt g n).group 0 * nsUs ∧ ∀ k, k ≠ n → u.srcAt g k = b.srcAt g k := by
  refine ⟨_, rfl, ?_⟩
  rw [hb]
  unfold icuClaim
  simp only [hd, he, if_true, tgt_modTgt_same, tgt_modSrc, srcAt_modTgt, srcAt_modSrc_same hok g hn,
    getD_modify_same _ _ _ _ hgrp, true_and]
  exact ⟨congrArg (· + _) (by simp), fun k hk => srcAt_modSrc_ne b g g hk _⟩

theorem icuClaimRead_empty (hd : (b.tgt g).deliv = none) : Does (.icuClaimRead t g) s fun u => (u.tgt g).claim = 0 ∧
    (u.tgt g).line = false ∧ u.icu.shared = b.icu.shared ∧ u.icu.papp = b.icu.papp := by
  refine ⟨_, rfl, ?_⟩
  rw [hb]
  unfold icuClaim
  simp only [hd, tgt_modTgt_same, true_and]
  cases g <;> exact ⟨rfl, rfl⟩

theorem icuCompleteWrite_completes {v : BitVec 32} (hok : BanksOk b) (hn : n = v.toNat % 256) (ha : (b.srcAt g n).active = some g) :
    Does (.icuCompleteWrite t g v) s fun u => (u.srcAt g n).active = none ∧ (u.srcAt g n).reentry = (b.srcAt g n).pend ∧
      (u.srcAt g n).pend = (b.srcAt g n).pend ∧ (u.tgt g).accErr = (b.tgt g).accErr ∧ ∀ k, k ≠ n → u.srcAt g k = b.srcAt g k := by
  have hlt : n < 256 := by omega
  refine ⟨_, rfl, ?_⟩
  rw [hb]
  unfold icuComplete
  simp only [← hn, ha, beq_self_eq_true, if_true, srcAt_modSrc_same hok g hlt, tgt_modSrc, true_and]
  exact fun k hk => srcAt_modSrc_ne b g g hk _

theorem icuCompleteWrite_errs {v : BitVec 32} (ha : (b.srcAt g (v.toNat % 256)).active ≠ some g) :
    Does (.icuCompleteWrite t g v) s fun u => (u.tgt g).accErr = true ∧ u.icu.shared = b.icu.shared ∧ u.icu.papp = b.icu.papp ∧
      u.icu.psup = b.icu.psup ∧ u.icu.phost = b.icu.phost := by
  refine ⟨_, rfl, ?_⟩
  rw [hb]
  unfold icuComplete
  simp only [beq_iff_eq, ha, if_false, tgt_modTgt_same, true_and]
  cases g <;> exact ⟨rfl, rfl, rfl, rfl⟩

/-! ## Targets -/

theorem holdOffExpiry_ends {k : Nat} (hend : (b.tgt g).holdEnd.getD k 0 ≤ b.clk) (hk : k < (b.tgt g).holdEnd.length) :
    Does (.holdOffExpiry t g k) s fun u => (u.tgt g).holdEnd.getD k 0 = 0 ∧ (u.tgt g).hold = (b.tgt g).hold ∧
      (u.tgt g).en = (b.tgt g).en := by
  refine ⟨b.modTgt g fun x => { x with holdEnd := x.holdEnd.modify k fun _ => 0 }, ?_, ?_⟩
  · change execHoldOffExpiry t g k s = _
    unfold execHoldOffExpiry
    rw [hb]
    dsimp only
    rw [if_pos hend]
  · simp only [tgt_modTgt_same, getD_modify_same _ _ _ _ hk, true_and]

theorem icuTgtEnWrite_enables {v : BitVec 32} (hv : v.getLsbD 0 = true) : Does (.icuTgtEnWrite t g v) s fun u =>
    (u.tgt g).en = true ∧ (u.tgt g).idleByp = v.getLsbD 1 ∧ ∀ k ∈ List.range 256, (b.srcAt g k).redirected = true →
      (b.srcAt g k).home = g → (u.srcAt g k).route = g ∧ (u.srcAt g k).redirected = false ∧ (u.srcAt g k).pend = false := by
  refine ⟨_, rfl, ?_⟩
  rw [hb]
  refine ⟨?_, ?_, fun k _ hred hhome => ?_⟩
  · cases g <;> simp [icuCtrl, hv, State.tgt, State.modTgt]
  · cases g <;> simp [icuCtrl, hv, State.tgt, State.modTgt]
  · rw [srcAt_enabled b g hv]
    simp [Src.enabled, hred, hhome]

theorem icuTgtEnWrite_disables {v : BitVec 32} (hv : v.getLsbD 0 = false) : Does (.icuTgtEnWrite t g v) s fun u =>
    (u.tgt g).en = false ∧ (u.tgt g).idleByp = v.getLsbD 1 ∧
    ∀ k ∈ List.range 256, (u.srcAt g k).pend = (b.srcAt g k).pend ∧ (u.srcAt g k).route = (b.srcAt g k).route := by
  refine ⟨_, rfl, ?_⟩
  rw [hb]
  refine ⟨?_, ?_, fun k _ => ?_⟩
  · rw [icuCtrl_disable b g hv]
    cases g <;> rfl
  · rw [icuCtrl_disable b g hv]
    cases g <;> rfl
  · rcases srcAt_disabled b g hv g k with h | h
    · rw [h]
      exact ⟨rfl, rfl⟩
    · rw [h]
      exact disabled_fields g b.clk _

/-! ## Routes -/

theorem strandedTimeout_redirects (hok : BanksOk b) (hn : n < 256) (hroute : (b.srcAt g n).route = g) (hg : g ≠ .sup)
    (hen : (b.tgt g).en = false) (hp : (b.srcAt g n).pend = true) (hheld : heldFor b (b.srcAt g n).stranded nsMs = true) :
    Does (.strandedTimeout t g n) s fun u => (u.srcAt g n).route = .sup ∧ (u.srcAt g n).redirected = true ∧
      (u.srcAt g n).pend = false ∧ (u.srcAt g n).stranded = none ∧ (u.tgt g).redirCnt = ((b.tgt g).redirCnt + 1) % 65536 ∧
      ∀ k, k ≠ n → u.srcAt g k = b.srcAt g k := by
  refine ⟨redirRecord (redirected b g n) g n, ?_, ?_⟩
  · change execStrandedTimeout t g n s = _
    unfold execStrandedTimeout
    rw [hb]
    dsimp only
    rw [if_pos (by simp [hroute, hg, hen, hp, hheld])]
    rfl
  · have hok' : BanksOk (redirected b g n) := redirected_banksOk hok g n
    obtain ⟨⟨x, hsame⟩, hother, htgt⟩ := redirRecord_icu hok' g hn
    obtain ⟨hsrc, hne, hcount⟩ := redirected_icu hok g hn
    dsimp only
    rw [htgt, hsame, hsrc, hcount]
    exact ⟨rfl, rfl, rfl, rfl, rfl, fun k hk => (hother k hk).trans (hne k hk)⟩

theorem sourceRetarget_routes (hok : BanksOk b) (hlo : 32 ≤ n) (hn : n < 256) (hown : delegatedTo b n = g)
    (hred : (b.srcAt g n).redirected = false) : Does (.sourceRetarget t n g) s fun u => (u.srcAt g n).route = g ∧
      (u.srcAt g n).home = g ∧ (u.srcAt g n).pend = (b.srcAt g n).pend ∧ (u.srcAt g n).active = (b.srcAt g n).active ∧
      ∀ k, k ≠ n → u.srcAt g k = b.srcAt g k := by
  refine ⟨retarget b n g, ?_, ?_⟩
  · change execSourceRetarget t n g s = _
    unfold execSourceRetarget
    rw [hb]
    dsimp only
    rw [if_pos ⟨hlo, hn, hown⟩]
  · dsimp only
    unfold retarget
    rw [srcAt_shared _ g .sup hlo, srcAt_shared b g .sup hlo, srcAt_modSrc_same hok .sup hn]
    rw [srcAt_shared b g .sup hlo] at hred
    simp only [hred, Bool.false_eq_true, if_false, true_and]
    exact fun k hk => srcAt_modSrc_ne b .sup g hk _

end

/-- Settles O43: each clause is the law of its event on the state at the event's instant. -/
theorem interruptControl : Obligations.InterruptControl :=
  ⟨fun _ _ _ _ hok hn hres hserved hred => icuSourceEdge_private rfl hok hn hres hserved hred,
    fun _ _ _ _ hok hlo hn hres hserved hred => icuSourceEdge_shared rfl hok hlo hn hres hserved hred,
    fun _ _ _ _ hd hbest => icuDecision_latches rfl hd hbest, fun _ _ _ _ hd => icuDecision_keeps rfl hd,
    fun _ _ _ _ hok hn hd he hgrp => icuClaimRead_claims rfl hok hn hd he hgrp, fun _ _ _ hd => icuClaimRead_empty rfl hd,
    fun _ _ _ _ _ hok hn ha => icuCompleteWrite_completes rfl hok hn ha, fun _ _ _ _ ha => icuCompleteWrite_errs rfl ha,
    fun _ _ _ _ _ hok hw => icuPendSet_pends rfl hok hw, fun _ _ _ _ _ hok hw => icuPendClr_clears rfl hok hw,
    fun _ _ _ _ _ hok hw => Exists.imp (fun _ h => ⟨h.1, h.2.1⟩) (icuMaskSet_masks rfl hok hw),
    fun _ _ _ _ _ hok hw => Exists.imp (fun _ h => ⟨h.1, h.2.1⟩) (icuMaskClr_unmasks rfl hok hw),
    fun _ _ _ _ hv => icuTgtEnWrite_enables rfl hv, fun _ _ _ _ hv => icuTgtEnWrite_disables rfl hv,
    fun _ _ _ _ hend hk => holdOffExpiry_ends rfl hend hk,
    fun _ _ _ _ hok hn hroute hg hen hp hheld => strandedTimeout_redirects rfl hok hn hroute hg hen hp hheld,
    fun _ _ _ _ hok hlo hn hown hred => sourceRetarget_routes rfl hok hlo hn hown hred⟩

end Sys2Proof.Machine
end

section
/-! SUPPORT. The application core: monitor calls, watchdog and restarts (17_app_core_icu.md R475 to R480). -/

namespace Sys2Proof.Machine

-- One proof at a time: together their threads exceed the memory of the check.
set_option Elab.async false

/-! ## Restarts -/

/-- The fault restarts within 600 s, with that of `cause` where it is one. -/
def faultsAfter (s : State) (cause : Nat) : List Nat :=
  if cause = 1 ∨ cause = 3 ∨ cause = 4 then s.clk :: s.app.faults.filter fun x => s.clk < x + 600 * nsS
  else s.app.faults.filter fun x => s.clk < x + 600 * nsS

/-- A fault restart, and the third within 600 s. -/
def stopsApp (s : State) (cause : Nat) : Bool :=
  decide ((cause = 1 ∨ cause = 3 ∨ cause = 4) ∧ 3 ≤ (faultsAfter s cause).length)

theorem appRestart_app (s : State) (cause : Nat) : (appRestart s cause).app =
    { s.app with
      run := if stopsApp s cause then 2 else 1, cause := cause, restarts := s.app.restarts + 1, faults := faultsAfter s cause
      wdMs := 0, wdWarned := false, a0 := cause, a1 := s.app.restarts + 1 } := by
  have happ : (restartEffects s).app = s.app := by simp
  have hclk : (restartEffects s).clk = s.clk := by simp
  unfold appRestart
  simp only [happ, hclk]
  change (if stopsApp s cause = true then _ else _ : State).app = _
  have hrecord (v : State) (grp src lv rule obj val : Nat) : (groupRecord v grp src lv rule obj val).app = v.app := by simp
  rw [apply_ite State.app, hrecord, ite_self, State.setApp_app, happ]
  rfl

theorem stopsApp_of_few {s : State} {cause : Nat} (h : (s.app.faults.filter fun x => s.clk < x + 600 * nsS).length < 2) :
    stopsApp s cause = false := by
  have hlen : ¬3 ≤ (faultsAfter s cause).length := by
    unfold faultsAfter
    split
    · rw [List.length_cons]
      omega
    · omega
  simp [stopsApp, hlen]

theorem stopsApp_of_no_fault {s : State} {cause : Nat} (h : ¬(cause = 1 ∨ cause = 3 ∨ cause = 4)) : stopsApp s cause = false := by
  simp [stopsApp, h]

/-- A restart frees every descriptor that APP holds. -/
theorem restartEffects_descs (s : State) : ∀ d ∈ (restartEffects s).hpr.desc, d.requester = 2 → d.kind = 0 := by
  intro d hd hreq
  have hmap : (restartEffects s).hpr.desc =
      s.hpr.desc.map fun d => if d.kind ≠ 0 ∧ d.requester = 2 then { gen := d.gen } else d := by
    simp [restartEffects]
  rw [hmap] at hd
  obtain ⟨e, -, rfl⟩ := List.mem_map.mp hd
  split at hreq
  next => simp at hreq
  next hno =>
    rw [if_neg hno]
    by_contra hk
    exact hno ⟨hk, hreq⟩

theorem appRestart_descs (s : State) (cause : Nat) : (appRestart s cause).hpr.desc = (restartEffects s).hpr.desc := by
  unfold appRestart
  dsimp only
  split <;> simp

section
variable {t : Nat} {s b : State} (hb : s.advance t = b)
include hb

theorem monRestart_restarts (hr : appRuns b = true) : Does (.monRestart t) s fun u => u.app.run = 1 ∧ u.app.cause = 2 ∧
    u.app.restarts = b.app.restarts + 1 ∧ u.app.a0 = 2 ∧ u.app.wdMs = 0 ∧
    (∀ d ∈ u.hpr.desc, d.requester = 2 → d.kind = 0) ∧ u.str = b.str := by
  refine ⟨appRestart b 2, ?_, ?_⟩
  · change execMonRestart t s = _
    unfold execMonRestart
    rw [hb]
    dsimp only
    rw [if_pos hr]
  · have hstop : stopsApp b 2 = false := stopsApp_of_no_fault (by decide)
    dsimp only
    rw [appRestart_descs, appRestart_app, hstop]
    exact ⟨rfl, rfl, rfl, rfl, rfl, restartEffects_descs b, by simp⟩

theorem exec_appRestart {c : Nat} (hc : 1 ≤ c ∧ c ≤ 5) (hr : appRuns b = true ∨ c = 5 ∧ b.app.run = 2) :
    exec (.appRestart t c) s = .next (appRestart b c) := by
  change execAppRestart t c s = _
  unfold execAppRestart
  rw [hb]
  dsimp only
  rw [if_pos ⟨hc, hr⟩]

theorem appRestart_starts {c : Nat} (hr : appRuns b = true) (hc : c = 1 ∨ c = 3 ∨ c = 4)
    (hfew : (b.app.faults.filter fun x => b.clk < x + 600 * nsS).length < 2) : Does (.appRestart t c) s fun u =>
      u.app.run = 1 ∧ u.app.cause = c ∧ u.app.restarts = b.app.restarts + 1 ∧
      u.app.faults = b.clk :: b.app.faults.filter fun x => b.clk < x + 600 * nsS := by
  refine ⟨_, exec_appRestart hb (by omega) (.inl hr), ?_⟩
  dsimp only
  rw [appRestart_app, stopsApp_of_few hfew]
  exact ⟨rfl, rfl, rfl, if_pos hc⟩

/-- The third fault restart within 600 s leaves APP stopped. -/
theorem appRestart_stops {c : Nat} (hr : appRuns b = true) (hc : c = 1 ∨ c = 3 ∨ c = 4)
    (hmany : 2 ≤ (b.app.faults.filter fun x => b.clk < x + 600 * nsS).length) : Does (.appRestart t c) s fun u =>
      u.app.run = 2 ∧ u.app.cause = c ∧ appRuns u = false := by
  have hstop : stopsApp b c = true := by simp [stopsApp, faultsAfter, hc]; omega
  have hrun : (appRestart b c).app.run = 2 := by rw [appRestart_app, hstop]; rfl
  refine ⟨_, exec_appRestart hb (by omega) (.inl hr), hrun, by rw [appRestart_app], ?_⟩
  simp [appRuns, hrun]

theorem appRestart_newImage (h2 : b.app.run = 2) : Does (.appRestart t 5) s fun u => u.app.run = 1 ∧ u.app.cause = 5 := by
  refine ⟨_, exec_appRestart hb (by decide) (.inr ⟨rfl, h2⟩), ?_⟩
  dsimp only
  rw [appRestart_app, stopsApp_of_no_fault (by decide)]
  exact ⟨rfl, rfl⟩

theorem appStart_starts (h0 : b.app.run = 0) (hrole : b.unit.isRole = true) : Does (.appStart t) s fun u => u.app.run = 1 ∧
    u.app.cause = 0 ∧ u.app.restarts = 0 ∧ u.app.faults = [] ∧ u.app.wdMs = 0 ∧ u.app.dramZeroed = true ∧ u.app.a0 = 0 ∧
    u.app.a1 = 0 ∧ u.str = b.str := by
  refine ⟨b.setApp fun a => { a with run := 1, cause := 0, restarts := 0, faults := [], wdMs := 0, wdWarned := false
                                     dramZeroed := true, a0 := 0, a1 := 0 }, ?_, rfl, rfl, rfl, rfl, rfl, rfl, rfl, rfl, rfl⟩
  change execAppStart t s = _
  unfold execAppStart
  rw [hb]
  dsimp only
  rw [if_pos ⟨h0, hrole⟩]

/-! ## Monitor calls -/

theorem monVersion_answers (hr : appRuns b = true) : Does (.monVersion t) s fun u =>
    u = b.setApp fun a => { a with a0 := 0, a1 := Config.monitorVersion } := by
  refine ⟨_, ?_, rfl⟩
  change execMonVersion t s = _
  unfold execMonVersion
  rw [hb]
  dsimp only
  rw [if_pos hr]
  rfl

theorem monTime_answers (hr : appRuns b = true) : Does (.monTime t) s fun u =>
    u = b.setApp fun a => { a with a0 := (b.tsu.now / nsS : Nat), a1 := b.tsu.now % nsS } := by
  refine ⟨_, ?_, rfl⟩
  change execMonTime t s = _
  unfold execMonTime
  rw [hb]
  dsimp only
  rw [if_pos hr]
  rfl

theorem monTimer_sets {us : Nat} (hr : appRuns b = true) : Does (.monTimer t us) s fun u =>
    u = b.setApp fun a => { a with a0 := 0, timer := if us = 0 then none else some us } := by
  refine ⟨_, ?_, rfl⟩
  change execMonTimer t us s = _
  unfold execMonTimer
  rw [hb]
  dsimp only
  rw [if_pos hr]
  rfl

theorem wdogSet_sets {ms : Nat} (hr : appRuns b = true) : Does (.wdogSet t ms) s fun u => u =
    if ms = 0 ∨ 10 ≤ ms ∧ ms ≤ 10000 then b.setApp fun a => { a with a0 := 0, wdMs := ms, wdT := b.clk, wdWarned := false }
    else b.setApp fun a => { a with a0 := -1 } := by
  refine ⟨_, ?_, rfl⟩
  change execWdogSet t ms s = _
  unfold execWdogSet
  rw [hb]
  dsimp only
  rw [if_pos hr]
  split <;> rfl

theorem wdogFeed_feeds (hr : appRuns b = true) : Does (.wdogFeed t) s fun u =>
    u = b.setApp fun a => { a with a0 := 0, wdT := b.clk, wdWarned := false } := by
  refine ⟨_, ?_, rfl⟩
  change execWdogFeed t s = _
  unfold execWdogFeed
  rw [hb]
  dsimp only
  rw [if_pos hr]
  rfl

/-! ## Timer and watchdog -/

theorem monitorTimerFire_fires {us : Nat} (ht : b.app.timer = some us) (hdue : us * nsUs ≤ b.tsu.now) (hok : BanksOk b)
    (hs : hostServed b = true) (hred : (b.srcAt .app 5).redirected = false) : Does (.monitorTimerFire t) s fun u =>
      u.app.timer = none ∧ (u.srcAt .app 5).pend = true ∧ ∀ k, k ≠ 5 → u.srcAt .app k = b.srcAt .app k := by
  refine ⟨icuPend (b.setApp fun a => { a with timer := none }) .app 5, ?_, by simp, ?_, fun k hk => icuPend_others _ _ _ hk⟩
  · change execMonitorTimerFire t s = _
    unfold execMonitorTimerFire
    rw [hb]
    simp only [ht, if_pos hdue]
    exact congrArg Host.Outcome.next (icuPrivate_pends rfl hs hred)
  · exact (icuPend_same (s := b.setApp fun a => { a with timer := none }) hok .app (by decide)).1

theorem watchdogWarning_warns (hr : appRuns b = true) (hms : b.app.wdMs ≠ 0) (hw : b.app.wdWarned = false)
    (hdue : b.app.wdT + b.app.wdMs * nsMs / 2 ≤ b.clk) (hok : BanksOk b) (hred : (b.srcAt .app 6).redirected = false) :
    Does (.watchdogWarning t) s fun u => u.app.wdWarned = true ∧ (u.srcAt .app 6).pend = true ∧ u.app.run = 1 := by
  have hrun : b.app.run = 1 ∧ b.unit.isRole = true := by
    simp only [appRuns, Bool.and_eq_true, beq_iff_eq] at hr
    exact hr.1
  have hs : hostServed b = true := by
    cases hu : b.unit <;> simp_all [hostServed, UnitState.isRole]
  refine ⟨icuPend (b.setApp fun a => { a with wdWarned := true }) .app 6, ?_, by simp, ?_, by simpa using hrun.1⟩
  · change execWatchdogWarning t s = _
    unfold execWatchdogWarning
    rw [hb]
    dsimp only
    rw [if_pos ⟨hms, by simpa using hw, hr, hdue⟩]
    exact congrArg Host.Outcome.next (icuPrivate_pends rfl hs hred)
  · exact (icuPend_same (s := b.setApp fun a => { a with wdWarned := true }) hok .app (by decide)).1

theorem watchdogExpiry_restarts (hr : appRuns b = true) (hms : b.app.wdMs ≠ 0) (hdue : b.app.wdT + b.app.wdMs * nsMs ≤ b.clk) :
    Does (.watchdogExpiry t) s fun u => u.app.cause = 1 ∧ u.app.restarts = b.app.restarts + 1 ∧ u.app.wdMs = 0 ∧
      u.app.wdWarned = false := by
  refine ⟨appRestart b 1, ?_, ?_⟩
  · change execWatchdogExpiry t s = _
    unfold execWatchdogExpiry
    rw [hb]
    dsimp only
    rw [if_pos ⟨hms, hr, hdue⟩]
  · dsimp only
    rw [appRestart_app]
    exact ⟨rfl, rfl, rfl, rfl⟩

/-! ## Accesses and memory errors -/

theorem accessFault_counts {a n : Nat} {w : Bool} (hr : appRuns b = true) : Does (.accessFault t a n w) s fun u =>
    u = if appReaches a n w then b else b.setApp fun x => { x with accessFaults := x.accessFaults + 1 } := by
  refine ⟨_, ?_, rfl⟩
  change execAccessFault t a n w s = _
  unfold execAccessFault
  rw [hb]
  dsimp only
  rw [hr]
  cases appReaches a n w <;> rfl

theorem appMemoryError_corrected {d : Bool} : Does (.appMemoryError t d true) s fun u =>
    u = b.setApp fun x => { x with corrected := x.corrected + 1 } := by
  refine ⟨_, ?_, rfl⟩
  change execAppMemoryError t d true s = _
  unfold execAppMemoryError
  rw [hb]
  dsimp only
  rfl

theorem appMemoryError_restarts {d : Bool} (hr : appRuns b = true) : Does (.appMemoryError t d false) s fun u =>
    u.app.cause = 3 ∧ u.app.restarts = b.app.restarts + 1 ∧ u.app.a0 = 3 := by
  refine ⟨appRestart (groupRecord b gSys srcApp lvInfo 477 d.toNat 0) 3, ?_, ?_⟩
  · have hr' : appRuns (groupRecord b gSys srcApp lvInfo 477 d.toNat 0) = true := by simpa [appRuns] using hr
    change execAppMemoryError t d false s = _
    unfold execAppMemoryError
    rw [hb]
    dsimp only
    exact congrArg Host.Outcome.next (if_pos hr')
  · dsimp only
    rw [appRestart_app]
    exact ⟨rfl, by simp, rfl⟩

end

/-- Settles O42: each clause is the law of its call, or of its event on the state at the event's instant. -/
theorem appCore : Obligations.AppCore :=
  ⟨fun _ _ hr => monVersion_answers rfl hr, fun _ _ hr => monTime_answers rfl hr, fun _ _ _ hr => monTimer_sets rfl hr,
    fun _ _ _ hr => wdogSet_sets rfl hr, fun _ _ hr => wdogFeed_feeds rfl hr, fun _ _ hr => monRestart_restarts rfl hr,
    fun _ _ _ hr hc hfew => appRestart_starts rfl hr hc hfew, fun _ _ _ hr hc hmany => appRestart_stops rfl hr hc hmany,
    fun _ _ h2 => appRestart_newImage rfl h2, fun _ _ h0 hrole => appStart_starts rfl h0 hrole,
    fun _ _ _ ht hdue hok hs hred => monitorTimerFire_fires rfl ht hdue hok hs hred,
    fun _ _ hr hms hw hdue hok hred => watchdogWarning_warns rfl hr hms hw hdue hok hred,
    fun _ _ hr hms hdue => watchdogExpiry_restarts rfl hr hms hdue, fun _ _ _ _ _ hr => accessFault_counts rfl hr,
    fun _ _ _ => appMemoryError_corrected rfl, fun _ _ _ hr => appMemoryError_restarts rfl hr⟩

end Sys2Proof.Machine
end

section
/-! SUPPORT. The QSPI port and the management transport (15_host_interface.md R430, R442 to R445). -/

namespace Sys2Proof.Machine

-- One proof at a time: together their threads exceed the memory of the check.
set_option Elab.async false

/-! ## A READ at the end of a region -/

/-- A READ from an unmapped address leaves zeros, and ADDR_ERR. -/
theorem qspiRead_unmapped {t : Nat} {s b : State} (hb : s.advance t = b) (hs : hostServed b = true) {a : Nat}
    (ha : regionEnd a = none) (n : Nat) : exec (.qspiRead t a n) s = .next ((hprErr b .host errAddr).setHpr fun h =>
      { h with readData := List.replicate (min n 4096) 0 }) := by
  change execQspiRead t a n s = _
  unfold execQspiRead
  rw [hb]
  simp only [hs, ha, Bool.not_true, Bool.false_eq_true, if_false]

/-- Refutes O38: its clause on a READ of the slots admits a READ of no bytes from the address behind them, which is unmapped: it
sets ADDR_ERR, where the clause has nothing but the data change. -/
theorem not_qspiAndRegisters : ¬ Obligations.QspiAndRegisters := by
  unfold Obligations.QspiAndRegisters
  rintro ⟨-, readsSlots, -⟩
  have hs : hostServed (servingUnit.advance 0) = true := by decide +kernel
  obtain ⟨u, hu, hdata⟩ := readsSlots 0 servingUnit 0x2000 0 hs (by decide) (by decide) (by decide)
  cases hu.symm.trans (qspiRead_unmapped rfl hs (by decide) 0)
  exact absurd (congrArg (·.hpr.err) hdata) (by decide +kernel)

/-! ## Frames of the management transport -/

theorem admitWaiting_none {s : State} (h : s.hpr.waiting = []) (k : Nat) : admitWaiting s k = s := by
  cases k with
  | zero => rfl
  | succ k => simp [admitWaiting, h]

theorem mgmtFrame_discarded {s : State} {net src : Nat} {f : Bytes} (hs : mgmtServed s net = true)
    (hc : mgmtCheck s net src f = .discarded) (type : Nat) (run : State → Nat → Bytes → State) :
    mgmtFrame s net src f type run = s.setHpr fun h => { h with mgmtDiscards := h.mgmtDiscards + 1 } := by
  simp [mgmtFrame, hs, hc]

theorem mgmtFrame_stale {s : State} {net src k : Nat} {f : Bytes} (hs : mgmtServed s net = true)
    (hc : mgmtCheck s net src f = .stale k) (type : Nat) (run : State → Nat → Bytes → State) :
    mgmtFrame s net src f type run = mgmtError s net k 1 := by
  simp [mgmtFrame, hs, hc]

/-- The state with sequence number `tseq` as the last that client `k` was accepted with. -/
def heard (s : State) (k tseq : Nat) : State :=
  s.setHpr fun h => { h with clients := h.clients.modify k fun (c : Client) => { c with rxSeq := tseq } }

theorem mgmtFrame_accepted {s : State} {net src k tseq type : Nat} {f body : Bytes} (hs : mgmtServed s net = true)
    (hc : mgmtCheck s net src f = .accepted k type tseq body) (run : State → Nat → Bytes → State) :
    mgmtFrame s net src f type run = run (heard s k tseq) k body := by
  simp [mgmtFrame, hs, hc, heard]

theorem heard_rxSeq {s : State} {k : Nat} (hk : k < s.hpr.clients.length) (tseq : Nat) :
    ((heard s k tseq).hpr.clients.getD k {}).rxSeq = tseq := by
  have h := getD_modify_same s.hpr.clients k (fun (c : Client) => { c with rxSeq := tseq }) {} hk
  exact congrArg Client.rxSeq h

@[simp] theorem freeMgmtSlot_heard (s : State) (k tseq : Nat) : freeMgmtSlot (heard s k tseq) = freeMgmtSlot s := rfl

/-- A frame sent to client `k` leaves the number it was last accepted with. -/
theorem mgmtSend_rxSeq (s : State) (net k type : Nat) (body : Bytes) (j : Nat) :
    ((mgmtSend s net k type body).hpr.clients.getD j {}).rxSeq = (s.hpr.clients.getD j {}).rxSeq :=
  getD_modify_field Client.rxSeq s.hpr.clients k j {} fun _ => rfl

/-! ## REQUEST -/

theorem memReads_take (m : List Host.Cell) {k n : Nat} (h : k ≤ n) (a : Nat) : (memReads m a n).take k = memReads m a k := by
  induction k generalizing n a with
  | zero => rfl
  | succ k ih =>
    obtain ⟨n, rfl⟩ : ∃ n', n = n' + 1 := ⟨n - 1, by omega⟩
    simp only [memReads, List.take_succ_cons, ih (by omega : k ≤ n)]

theorem memReads_writes_append (b c : Bytes) (m : List Host.Cell) (a : Nat) (hm : Memory.wf m = true) :
    memReads (memWrites m a (b ++ c)) a b.length = b := by
  have h := congrArg (List.take b.length) (memReads_writes (b ++ c) m a hm)
  rwa [memReads_take _ (by simp), List.take_left] at h

theorem enterSlot_first (s : State) (n k net : Nat) {body : Bytes} (hm : MemOk s) (hl : 16 ≤ body.length) :
    memReads (enterSlot s n k net body).mem (slotAddr n) 8 = body.take 8 := by
  have htake : (body.take 8).length = 8 := by rw [List.length_take]; omega
  have hread := memReads_writes_append (body.take 8) ([0, 0, 0, 0] ++ [1] ++ slice body 13 3 ++ body.drop 16) s.mem (slotAddr n) hm.1
  rw [htake] at hread
  simpa [enterSlot] using hread

section
variable {t : Nat} {s b : State} {net src k tseq : Nat} {f body : Bytes} (hb : s.advance t = b) (hs : mgmtServed b net = true)
  (hw : b.hpr.waiting = [])
include hb hs hw

theorem mgmtRequest_discards (hc : mgmtCheck b net src f = .discarded) : Does (.mgmtRequest t net src f) s fun u =>
    u = b.setHpr fun h => { h with mgmtDiscards := h.mgmtDiscards + 1 } := by
  refine ⟨_, ?_, rfl⟩
  change execMgmtRequest t net src f s = _
  unfold execMgmtRequest
  rw [hb]
  dsimp only
  rw [admitWaiting_none hw, mgmtFrame_discarded hs hc]

theorem mgmtRequest_stale (hc : mgmtCheck b net src f = .stale k) : Does (.mgmtRequest t net src f) s fun u =>
    u.hpr.mgmtTx = { net := net, client := k, type := 8, body := leU 2 1 ++ [0, 0] ++ leU 4 b.hpr.epoch } :: b.hpr.mgmtTx ∧
    u.hpr.order = b.hpr.order ∧ u.mem = b.mem := by
  refine ⟨mgmtError b net k 1, ?_, rfl, rfl, rfl⟩
  change execMgmtRequest t net src f s = _
  unfold execMgmtRequest
  rw [hb]
  dsimp only
  rw [admitWaiting_none hw, mgmtFrame_stale hs hc]

section
variable (hc : mgmtCheck b net src f = .accepted k 1 tseq body) (hk : k < b.hpr.clients.length)
  (hl : body.length = 16 + getU body 4 2) (hmax : getU body 4 2 ≤ 240)
include hc hk hl hmax

theorem mgmtRequest_enters (hm : MemOk b) (hfree : (freeMgmtSlot b).isSome = true) : Does (.mgmtRequest t net src f) s fun u =>
    (u.hpr.clients.getD k {}).rxSeq = tseq ∧ u.hpr.order = b.hpr.order ++ [(freeMgmtSlot b).getD 0] ∧
    u.hpr.own = b.hpr.own ||| BitVec.twoPow 16 ((freeMgmtSlot b).getD 0) ∧ u.hpr.waiting = [] ∧
    memReads u.mem (slotAddr ((freeMgmtSlot b).getD 0)) 8 = body.take 8 := by
  obtain ⟨n, hn⟩ := Option.isSome_iff_exists.mp hfree
  refine ⟨enterSlot (heard b k tseq) n k net body, ?_, ?_⟩
  · change execMgmtRequest t net src f s = _
    unfold execMgmtRequest
    simp only [hb, admitWaiting_none hw, mgmtFrame_accepted hs hc, freeMgmtSlot_heard, hn]
    rw [if_neg (by omega)]
  · rw [hn]
    exact ⟨heard_rxSeq hk tseq, rfl, rfl, hw, enterSlot_first (heard b k tseq) n k net hm (by omega)⟩

theorem mgmtRequest_waits (hfree : freeMgmtSlot b = none) : Does (.mgmtRequest t net src f) s fun u =>
    (u.hpr.clients.getD k {}).rxSeq = tseq ∧ u.hpr.waiting = [{ client := k, net := net, body := body, since := b.clk }] ∧
    u.hpr.order = b.hpr.order ∧ u.mem = b.mem := by
  refine ⟨(heard b k tseq).setHpr fun h =>
    { h with waiting := h.waiting ++ [{ client := k, net := net, body := body, since := b.clk }] }, ?_, heard_rxSeq hk tseq, ?_, rfl, rfl⟩
  · have hw' : (heard b k tseq).hpr.waiting.length < 16 := by
      change b.hpr.waiting.length < 16
      rw [hw]
      decide
    change execMgmtRequest t net src f s = _
    unfold execMgmtRequest
    simp only [hb, admitWaiting_none hw, mgmtFrame_accepted hs hc, freeMgmtSlot_heard, hfree, if_pos hw']
    rw [if_neg (by omega)]
    rfl
  · change b.hpr.waiting ++ _ = _
    rw [hw]
    rfl

end

end

theorem mgmtWaitTimeout_answers {t : Nat} {s b : State} (hb : s.advance t = b) {w : MgmtWait} {r : List MgmtWait}
    (hw : b.hpr.waiting = w :: r) (hdue : w.since + 100 * nsMs ≤ b.clk) : Does (.mgmtWaitTimeout t) s fun u =>
      u = mgmtResource (b.setHpr fun h => { h with waiting := r }) w.net w.client w.body ∧ u.hpr.waiting = r ∧
      u.hpr.mgmtTx.length = b.hpr.mgmtTx.length + 1 := by
  refine ⟨_, ?_, rfl, rfl, rfl⟩
  change execMgmtWaitTimeout t s = _
  unfold execMgmtWaitTimeout
  rw [hb]
  dsimp only
  rw [hw]
  exact congrArg Host.Outcome.next (if_neg (Nat.not_lt.mpr hdue))

/-! ## WIN_READ and WIN_WRITE -/

theorem traceByte_heard (s : State) (k tseq o : Nat) : traceByte (heard s k tseq) o = traceByte s o := by
  have hrate := rateOf_congr (s := s) (u := heard s k tseq) rfl rfl rfl
  have hslot (n : Nat) : slotRate (heard s k tseq) n = slotRate s n := by
    rw [slotRate, slotRate]
    simp only [hrate]
    rfl
  have hprobe (n : Nat) : probeHeader (heard s k tseq) n = probeHeader s n := by
    unfold probeHeader
    simp only [hslot]
    rfl
  unfold traceByte
  simp only [hprobe]
  rfl

theorem cellTableByte_heard (s : State) (k tseq o : Nat) : cellTableByte (heard s k tseq) o = cellTableByte s o := rfl

theorem impTableByte_heard (s : State) (k tseq o : Nat) : impTableByte (heard s k tseq) o = impTableByte s o := rfl

theorem winBytes_heard (s : State) (k tseq o n : Nat) : winBytes (heard s k tseq) o n = winBytes s o n := by
  unfold winBytes
  refine List.map_congr_left fun j _ => ?_
  unfold winByte
  simp only [traceByte_heard, cellTableByte_heard, impTableByte_heard]
  rfl

theorem winBytes_length (s : State) (o n : Nat) : (winBytes s o n).length = n := by simp [winBytes]

theorem fitTo_self {n : Nat} {b : Bytes} (h : b.length = n) : fitTo n b = b := by simp [fitTo, h]

/-- A byte of a buffer that `port` owns is written. -/
theorem writeBuf_taken {s : State} {port : Port} {o : Nat} (b : Byte)
    (h : (bufferAt s o).any (fun e => e.requester == portCode port && !e.own) = true) :
    writeBuf s port o b = ({ s with mem := memWrite (windowBase + o) b s.mem }, true) := by
  unfold writeBuf
  cases he : bufferAt s o with
  | none => simp [he] at h
  | some e =>
    rw [he] at h
    exact if_pos h

/-- Bytes that lie in buffers of `port`, which owns them, are all written. -/
theorem winWrite_taken {port : Port} (bytes : Bytes) {s : State} {o : Nat} (ho : 0x2000 ≤ o)
    (hbuf : ∀ j, j < bytes.length → (bufferAt s (o + j)).any (fun e => e.requester == portCode port && !e.own) = true) :
    winWrite s port o bytes = ({ s with mem := memWrites s.mem (windowBase + o) bytes }, true) := by
  induction bytes generalizing s o with
  | nil => rfl
  | cons a r ih =>
    have hrest := ih (s := { s with mem := memWrite (windowBase + o) a s.mem }) (o := o + 1) (by omega) fun j hj => by
      have h := hbuf (j + 1) (by simpa using hj)
      rwa [show o + (j + 1) = o + 1 + j by omega] at h
    have hfirst := writeBuf_taken (o := o) a (hbuf 0 (by simp))
    unfold winWrite
    simp only [if_pos ho, hfirst, hrest, memWrites]
    rfl

/-- A write behind the descriptor table touches none of it. -/
theorem tableRest_behind {o : Nat} (ho : 0x2000 ≤ o) (n : Nat) : tableRest o n = (false, false) := by
  have hnone : ((List.range n).map fun k => o + k).filter (fun x => decide (x < 0x2000)) = [] := by
    refine List.filter_eq_nil_iff.mpr fun x hx => ?_
    obtain ⟨k, -, rfl⟩ := List.mem_map.mp hx
    simpa using Nat.le_trans ho (Nat.le_add_right o k)
  simp [tableRest, hnone]

theorem writeWindow_taken {s : State} {port : Port} {o : Nat} {bytes : Bytes} (ho : 0x2000 ≤ o)
    (hbuf : ∀ j, j < bytes.length → (bufferAt s (o + j)).any (fun e => e.requester == portCode port && !e.own) = true) :
    writeWindow s port o bytes = ({ s with mem := memWrites s.mem (windowBase + o) bytes }, true) := by
  unfold writeWindow
  rw [tableRest_behind ho]
  simp only [Bool.false_eq_true, if_false, winWrite_taken bytes ho hbuf]
  rfl

theorem or_twoPow_of_set {e : BitVec 5} {bit : Nat} (h : e.getLsbD bit = true) : e ||| BitVec.twoPow 5 bit = e := by
  ext j hj
  by_cases hbit : bit = j
  · subst hbit
    simp_all
  · simp [hbit, Ne.symm hbit]

/-- An access error sets its bit of HPR_ERR. -/
theorem hprErr_hpr (s : State) (port : Port) (bit : Nat) :
    (hprErr s port bit).hpr = { s.hpr with err := s.hpr.err ||| BitVec.twoPow 5 bit } := by
  unfold hprErr
  split
  next h => rw [or_twoPow_of_set h]
  · dsimp only
    (repeat' split) <;> simp

section
variable {t : Nat} {s b : State} {net src k tseq : Nat} {f body : Bytes} (hb : s.advance t = b) (hs : mgmtServed b net = true)
  (hk : k < b.hpr.clients.length)
include hb hs hk

theorem winRead_answers (hc : mgmtCheck b net src f = .accepted k 3 tseq body) (hl : body.length = 8) (hlo : 1 ≤ getU body 4 2)
    (hhi : getU body 4 2 ≤ 1024) (hz : getU body 6 2 = 0) (hend : getU body 0 4 + getU body 4 2 ≤ 0x4000000) :
    Does (.winRead t net src f) s fun u => (u.hpr.clients.getD k {}).rxSeq = tseq ∧ u.hpr.mgmtTx =
      { net := net, client := k, type := 4, body := leU 4 (getU body 0 4) ++ leU 2 (getU body 4 2) ++ [0, 0] ++
          winBytes b (getU body 0 4) (getU body 4 2) } :: b.hpr.mgmtTx ∧ u.mem = b.mem := by
  have hbad : ¬(body.length ≠ 8 ∨ getU body 4 2 < 1 ∨ 1024 < getU body 4 2 ∨ getU body 6 2 ≠ 0) := by omega
  have hmin : min (getU body 4 2) (0x04000000 - getU body 0 4) = getU body 4 2 := by omega
  refine ⟨mgmtSend { heard b k tseq with free := b.free + getU body 4 2 } net k 4 (leU 4 (getU body 0 4) ++
    leU 2 (getU body 4 2) ++ leU 2 0 ++ winBytes b (getU body 0 4) (getU body 4 2)), ?_, ?_, rfl, rfl⟩
  · change execWinRead t net src f s = _
    unfold execWinRead
    rw [hb]
    dsimp only
    rw [mgmtFrame_accepted hs hc, if_neg hbad, hmin, winBytes_heard, fitTo_self (winBytes_length _ _ _)]
    rfl
  · rw [mgmtSend_rxSeq]
    exact heard_rxSeq hk tseq

section
variable (hc : mgmtCheck b net src f = .accepted k 5 tseq body) (hl : body.length = 8 + getU body 4 2)
  (hlo : 1 ≤ getU body 4 2) (hhi : getU body 4 2 ≤ 1024) (hz : getU body 6 2 = 0)
include hc hl hlo hhi hz

theorem winWrite_writes (hm : MemOk b) (hstart : 0x10000 ≤ getU body 0 4) (hend : getU body 0 4 + getU body 4 2 ≤ 0x4000000)
    (hbuf : ∀ j ∈ List.range (getU body 4 2), (bufferAt b (getU body 0 4 + j)).any (fun e =>
      e.requester == portCode .mgmt && !e.own) = true) : Does (.winWrite t net src f) s fun u =>
      (u.hpr.clients.getD k {}).rxSeq = tseq ∧ u.hpr.mgmtTx =
        { net := net, client := k, type := 6, body := leU 4 (getU body 0 4) ++ leU 2 (getU body 4 2) ++ [0, 0] } :: b.hpr.mgmtTx ∧
      memReads u.mem (windowBase + getU body 0 4) (getU body 4 2) = body.drop 8 ∧ u.hpr.desc = b.hpr.desc := by
  have hbad : ¬(body.length ≠ 8 + getU body 4 2 ∨ getU body 4 2 < 1 ∨ 1024 < getU body 4 2 ∨ getU body 6 2 ≠ 0) := by omega
  have hlen : (body.drop 8).length = getU body 4 2 := by rw [List.length_drop]; omega
  have htaken := writeWindow_taken (s := heard b k tseq) (port := .mgmt) (o := getU body 0 4) (bytes := body.drop 8) (by omega)
    fun j hj => hbuf j (List.mem_range.mpr (hlen ▸ hj))
  refine ⟨mgmtSend { heard b k tseq with mem := memWrites b.mem (windowBase + getU body 0 4) (body.drop 8) } net k 6
    (leU 4 (getU body 0 4) ++ leU 2 (getU body 4 2) ++ leU 2 0), ?_, ?_, rfl, ?_, rfl⟩
  · change execWinWrite t net src f s = _
    unfold execWinWrite
    rw [hb]
    dsimp only
    rw [mgmtFrame_accepted hs hc, if_neg hbad, if_neg (Nat.not_lt.mpr hend), htaken]
    rfl
  · rw [mgmtSend_rxSeq]
    exact heard_rxSeq hk tseq
  · have hread := memReads_writes (body.drop 8) b.mem (windowBase + getU body 0 4) hm.1
    rwa [hlen] at hread

theorem winWrite_outside (hend : 0x4000000 < getU body 0 4 + getU body 4 2) : Does (.winWrite t net src f) s fun u =>
    (u.hpr.clients.getD k {}).rxSeq = tseq ∧ u.hpr.mgmtTx =
      { net := net, client := k, type := 6, body := leU 4 (getU body 0 4) ++ leU 2 (getU body 4 2) ++ [2, 0] } :: b.hpr.mgmtTx ∧
    u.mem = b.mem ∧ u.hpr.err = b.hpr.err ||| 1 := by
  have hbad : ¬(body.length ≠ 8 + getU body 4 2 ∨ getU body 4 2 < 1 ∨ 1024 < getU body 4 2 ∨ getU body 6 2 ≠ 0) := by omega
  have herr := hprErr_hpr (heard b k tseq) .mgmt errAddr
  refine ⟨mgmtSend (hprErr (heard b k tseq) .mgmt errAddr) net k 6 (leU 4 (getU body 0 4) ++ leU 2 (getU body 4 2) ++ leU 2 2),
    ?_, ?_, ?_, ?_, ?_⟩
  · change execWinWrite t net src f s = _
    unfold execWinWrite
    rw [hb]
    dsimp only
    rw [mgmtFrame_accepted hs hc, if_neg hbad, if_pos hend]
  · rw [mgmtSend_rxSeq, herr]
    exact heard_rxSeq hk tseq
  · simp only [mgmtSend, State.setHpr_hpr, herr]
    rfl
  · simp [mgmtSend, heard]
  · simp only [mgmtSend, State.setHpr_hpr, herr]
    rfl

end

end

/-! ## WAKE -/

section
variable {t : Nat} {s b : State} {net : Nat} {f : Bytes} (hb : s.advance t = b) (hmagic : getU f 0 2 = 0x4D57)
  (htype : getU f 3 1 = 7) (hn : net < 4) (hpeer : net ≠ 2) (h0 : portFlag b net 0 = true) (h1 : portFlag b net 1 = true)
  (hs : hostServed b = true)
include hb hmagic htype hn hpeer h0 h1 hs

theorem exec_wake : exec (.wake t net f) s = .next (if b.pwr.state == .dormant then wakeUp b .mgmtFrame
    else b.setHpr fun h => { h with mgmtDiscards := h.mgmtDiscards + 1 }) := by
  change execWake t net f s = _
  unfold execWake
  rw [hb]
  dsimp only
  rw [if_neg (by simp [hmagic, htype, hn, hpeer, h0, h1, hs])]

theorem wake_wakes (hp : b.pwr.state = .dormant) : Does (.wake t net f) s fun u => u.pwr.state = .active ∧
    u.pwr.lastCmdT = b.clk ∧ u.unit = b.unit ∧ u.str = b.str := by
  obtain ⟨alarm, hwake⟩ := wakeUp_eq (w := .mgmtFrame) hp rfl
  refine ⟨wakeUp b .mgmtFrame, ?_, ?_, ?_, by simp, by simp⟩
  · rw [exec_wake hb hmagic htype hn hpeer h0 h1 hs, hp]
    rfl
  · rw [hwake, leaveDormant_pwr]
  · rw [hwake, leaveDormant_pwr]
    rfl

theorem wake_discards (hp : b.pwr.state ≠ .dormant) : Does (.wake t net f) s fun u =>
    u = b.setHpr fun h => { h with mgmtDiscards := h.mgmtDiscards + 1 } := by
  refine ⟨_, ?_, rfl⟩
  rw [exec_wake hb hmagic htype hn hpeer h0 h1 hs, if_neg (by simpa using hp)]

end

/-- Settles O39: each clause is the law of its frame on the state at the frame's instant. -/
theorem managementTransport : Obligations.ManagementTransport :=
  ⟨fun _ _ _ _ _ hs hc hw => mgmtRequest_discards rfl hs hw hc, fun _ _ _ _ _ _ hs hc hw => mgmtRequest_stale rfl hs hw hc,
    fun _ _ _ _ _ _ _ _ hs hc hk hw hm hl hmax hfree => mgmtRequest_enters rfl hs hw hc hk hl hmax hm hfree,
    fun _ _ _ _ _ _ _ _ hs hc hk hw hl hmax hfree => mgmtRequest_waits rfl hs hw hc hk hl hmax hfree,
    fun _ _ _ _ hw hdue => mgmtWaitTimeout_answers rfl hw hdue,
    fun _ _ _ _ _ _ _ _ hs hc hk _ hl hlo hhi hz hend => winRead_answers rfl hs hk hc hl hlo hhi hz hend,
    fun _ _ _ _ _ _ _ _ hs hc hk _ hm hl hlo hhi hz hstart hend hbuf =>
      winWrite_writes rfl hs hk hc hl hlo hhi hz hm hstart hend hbuf,
    fun _ _ _ _ _ _ _ _ hs hc hk _ hl hlo hhi hz hend => winWrite_outside rfl hs hk hc hl hlo hhi hz hend,
    fun _ _ _ _ hmagic htype hn hpeer h0 h1 hs hp => wake_wakes rfl hmagic htype hn hpeer h0 h1 hs hp,
    fun _ _ _ _ hmagic htype hn hpeer h0 h1 hs hp => wake_discards rfl hmagic htype hn hpeer h0 h1 hs hp⟩

end Sys2Proof.Machine
end

section
/-! SUPPORT. The Ethernet ports and the management clients (16_ethernet_can.md R456 to R464). -/

namespace Sys2Proof.Machine

-- One proof at a time: together their threads exceed the memory of the check.
set_option Elab.async false

theorem portAt_modPort_same {s : State} {n : Nat} (h : n < s.net.port.length) (f : NetPort → NetPort) :
    (s.modPort n f).portAt n = f (s.portAt n) := getD_modify_same _ _ _ _ h

theorem portAt_modPort_ne (s : State) {n k : Nat} (h : k ≠ n) (f : NetPort → NetPort) : (s.modPort n f).portAt k = s.portAt k :=
  getD_modify_ne _ _ _ h

theorem portAt_congr {s u : State} (h : u.net = s.net) (n : Nat) : u.portAt n = s.portAt n := by rw [State.portAt, State.portAt, h]

/-! ## The commands -/

/-- A command of the roles "all" whose row has H is admitted in a role and in SAFE-HOLD. -/
theorem rolesOk_net {sp : Spec} {s : State} (h : s.unit.isRole = true ∨ s.unit = .safeHold) (hroles : sp.roles = .all)
    (hh : sp.h = true) : rolesOk sp s.unit = true := by
  rcases h with h | h
  · exact anyRole_rolesOk sp s h hroles
  · simp [h, rolesOk, hh]

theorem icuPrivate_hpr (s : State) (g : Target) (n : Nat) : (icuPrivate s g n).hpr = s.hpr := by
  simp

theorem unlessRaised_hpr (c : Bool) (s : State) (g : Target) (n : Nat) : (if c then s else icuPrivate s g n).hpr = s.hpr := by
  rw [apply_ite State.hpr, icuPrivate_hpr, ite_self]

theorem ok_clients_length (s : State) (op : Nat) (q : Req) (p : Bytes) :
    (ok s op q p).hpr.clients.length = s.hpr.clients.length := by
  unfold ok finish1
  cases q.slot with
  | none => rfl
  | some n =>
    cases q.port with
    | host => exact congrArg (·.clients.length) (unlessRaised_hpr ..)
    | app => exact congrArg (·.clients.length) (unlessRaised_hpr ..)
    | mgmt => exact List.length_modify ..

section
variable {s : State} {q : Req} {n : Nat} (h : Taken s q) (hr : s.unit.isRole = true ∨ s.unit = .safeHold)
  (hidx : getU q.payload 0 1 = n)
include h hr hidx

theorem netSetPort_stores (hl : q.payload.length = 24) (hn : n < s.net.port.length) (hf : badField (portFields n) q.payload = none)
    (hpeer : n = 2 → getBit q.payload 1 0 = true ∨ s.red.present = false) : Does (.netSetPort q) s fun u =>
      Answered u q 0x0E01 stOk 0 [] ∧ (u.portAt n).cfg = q.payload ∧ (u.portAt n).link = (s.portAt n).link ∧
      (∀ k, k ≠ n → u.portAt k = s.portAt k) ∧ u.str = s.str := by
  have ⟨_, _, henv⟩ := h
  subst hidx
  have hnet : (ok (touch s) 0x0E01 q []).net = s.net := by simp [ok]
  refine ⟨(ok (touch s) 0x0E01 q []).modPort (getU q.payload 0 1) fun p => { p with cfg := q.payload }, ?_, ok_answered .., ?_⟩
  · have hfree : ¬(getU q.payload 0 1 = 2 ∧ getBit q.payload 1 0 = false ∧ s.red.present = true) := by
      rintro ⟨h2, hbit, hpres⟩
      rcases hpeer h2 with hp | hp
      · rw [hp] at hbit
        cases hbit
      · rw [hp] at hpres
        cases hpres
    change execNetSetPort q s = _
    unfold execNetSetPort
    rw [command_run _ _ q s h, noteDesc_none _ _ _ rfl]
    simp only [rejection, lenIs, hl, rolesOk_net hr, firstBad, henv, hf, ownerBad, if_neg hfree]
    rfl
  · rw [portAt_modPort_same (by rw [hnet]; exact hn), portAt_congr hnet]
    refine ⟨rfl, rfl, fun k hk => ?_, by simp [ok]⟩
    rw [portAt_modPort_ne _ hk, portAt_congr hnet]

theorem netSetMgmt_stores (happ : q.port ≠ .app) (hl : q.payload.length = 40) (hf : badField clientFields q.payload = none)
    (hbit : getBit q.payload 2 2 = false) (hn : n < s.hpr.clients.length) : Does (.netSetMgmt q) s fun u =>
      Answered u q 0x0E04 stOk 0 [] ∧ (let c := u.hpr.clients.getD n {}; c.configured = true ∧ c.enabled = getBit q.payload 1 0 ∧
        c.ports = getU q.payload 2 1 ∧ c.source = getU q.payload 4 4 ∧ c.key = slice q.payload 8 32) ∧ u.net = s.net := by
  have ⟨_, _, henv⟩ := h
  subst hidx
  have hlen : getU q.payload 0 1 < (ok (touch s) 0x0E04 q []).hpr.clients.length := by rw [ok_clients_length]; exact hn
  refine ⟨(ok (touch s) 0x0E04 q []).setHpr fun h =>
    { h with clients := h.clients.modify (getU q.payload 0 1) fun (c : Client) =>
        { c with configured := true, enabled := getBit q.payload 1 0, ports := getU q.payload 2 1, source := getU q.payload 4 4
                 key := slice q.payload 8 32 } }, ?_, ok_answered .., ?_, by simp [ok]⟩
  · change execNetSetMgmt q s = _
    unfold execNetSetMgmt
    rw [command_run _ _ q s h, noteDesc_none _ _ _ rfl]
    simp [rejection, lenIs, hl, rolesOk_net hr, firstBad, henv, hf, ownerBad, happ, must, hbit]
  · dsimp only [State.setHpr]
    rw [getD_modify_same _ _ _ _ hlen]
    exact ⟨rfl, rfl, rfl, rfl, rfl⟩

end

/-! ## Reception -/

/-- The state with the frame on port `p` counted. -/
def countedIn (s : State) (p : Nat) : State := s.modPort p fun x => { x with rx := (x.rx + 1) % 2 ^ 32 }

theorem portCfg_countedIn (s : State) (p : Nat) : portCfg (countedIn s p) = portCfg s := by
  funext k
  have hcfg : ((countedIn s p).portAt k).cfg = (s.portAt k).cfg := getD_modify_field NetPort.cfg s.net.port p k {} fun _ => rfl
  rw [portCfg, portCfg, hcfg]

theorem portFlag_countedIn (s : State) (p : Nat) : portFlag (countedIn s p) = portFlag s := by
  funext k j
  rw [portFlag, portFlag, portCfg_countedIn]

theorem tagOk_countedIn (s : State) (p k : Nat) (v : Option Nat) : tagOk (countedIn s p) k v = tagOk s k v := by
  unfold tagOk
  rw [portFlag_countedIn, portCfg_countedIn]

theorem ownIp_countedIn (s : State) (p k ip : Nat) : ownIp (countedIn s p) k ip = ownIp s k ip := by
  unfold ownIp
  rw [portCfg_countedIn]
  rfl

/-- What is done with a counted frame touches only the port's own counters. -/
theorem countedIn_modPort {b : State} {p : Nat} (hlen : p < b.net.port.length) (g : NetPort → NetPort) : ((countedIn b p).modPort p g).portAt p =
    g { b.portAt p with rx := ((b.portAt p).rx + 1) % 2 ^ 32 } ∧ ∀ k, k ≠ p → ((countedIn b p).modPort p g).portAt k = b.portAt k := by
  refine ⟨?_, fun k hk => ?_⟩
  · rw [portAt_modPort_same (by simpa [countedIn, State.modPort] using hlen), countedIn, portAt_modPort_same hlen]
  · rw [portAt_modPort_ne _ hk, countedIn, portAt_modPort_ne _ hk]

section
variable {t : Nat} {s b : State} {p : Nat} {f : EthFrame} (hb : s.advance t = b) (he : ethRuns b = true) (hp : p < 4)
  (hlen : p < b.net.port.length) (hen : portFlag b p 0 = true) (hlink : (b.portAt p).link = true)
include hb he hp hen hlink

theorem exec_ethFrameReceived : exec (.ethFrameReceived t p f) s = .next (if 1522 < f.len then discardFrame (countedIn b p) p
    else classify (countedIn b p) p f) := by
  change execEthFrameReceived t p f s = _
  unfold execEthFrameReceived
  rw [hb]
  dsimp only
  rw [if_pos (by simp [he, hp, hen, hlink])]
  rfl

include hlen

theorem ethFrameReceived_tooLong (hlong : 1522 < f.len) : Does (.ethFrameReceived t p f) s fun u =>
    (u.portAt p).rx = ((b.portAt p).rx + 1) % 2 ^ 32 ∧ (u.portAt p).discards = ((b.portAt p).discards + 1) % 2 ^ 32 ∧
    u.saf = b.saf ∧ u.mem = b.mem ∧ ∀ k, k ≠ p → u.portAt k = b.portAt k := by
  obtain ⟨hsame, hother⟩ := countedIn_modPort hlen fun x => { x with discards := (x.discards + 1) % 2 ^ 32 }
  refine ⟨discardFrame (countedIn b p) p, ?_, ?_⟩
  · rw [exec_ethFrameReceived hb he hp hen hlink, if_pos hlong]
  · dsimp only [discardFrame]
    rw [hsame]
    exact ⟨rfl, rfl, rfl, rfl, hother⟩

section
variable (hshort : f.len ≤ 1522)
include hshort

theorem ethFrameReceived_unsupported (hkind : f.kind = .ipv6 ∨ f.kind = .fragment ∨ f.kind = .other) :
    Does (.ethFrameReceived t p f) s fun u => (u.portAt p).discards = ((b.portAt p).discards + 1) % 2 ^ 32 ∧
      (u.portAt p).rx = ((b.portAt p).rx + 1) % 2 ^ 32 ∧ u.saf = b.saf ∧ ∀ k, k ≠ p → u.portAt k = b.portAt k := by
  obtain ⟨hsame, hother⟩ := countedIn_modPort hlen fun x => { x with discards := (x.discards + 1) % 2 ^ 32 }
  refine ⟨discardFrame (countedIn b p) p, ?_, ?_⟩
  · rw [exec_ethFrameReceived hb he hp hen hlink, if_neg (Nat.not_lt.mpr hshort)]
    rcases hkind with hkind | hkind | hkind <;> simp [classify, hkind]
  · dsimp only [discardFrame]
    rw [hsame]
    exact ⟨rfl, rfl, rfl, hother⟩

section
variable (htag : tagOk b p f.vlan = true) (hip : ownIp b p f.dstIp = true)
include htag hip

theorem ethFrameReceived_arp (hkind : f.kind = .arp) : Does (.ethFrameReceived t p f) s fun u =>
    (u.portAt p).arpAnswers = ((b.portAt p).arpAnswers + 1) % 2 ^ 32 ∧ (u.portAt p).toSup = ((b.portAt p).toSup + 1) % 2 ^ 32 ∧
    u.saf = b.saf ∧ ∀ k, k ≠ p → u.portAt k = b.portAt k := by
  obtain ⟨hsame, hother⟩ := countedIn_modPort hlen fun x =>
    { x with toSup := (x.toSup + 1) % 2 ^ 32, arpAnswers := (x.arpAnswers + 1) % 2 ^ 32 }
  refine ⟨(countedIn b p).modPort p fun x =>
    { x with toSup := (x.toSup + 1) % 2 ^ 32, arpAnswers := (x.arpAnswers + 1) % 2 ^ 32 }, ?_, ?_⟩
  · rw [exec_ethFrameReceived hb he hp hen hlink, if_neg (Nat.not_lt.mpr hshort)]
    simp [classify, hkind, tagOk_countedIn, ownIp_countedIn, htag, hip]
  · dsimp only
    rw [hsame]
    exact ⟨rfl, rfl, rfl, hother⟩

theorem ethFrameReceived_mgmt {x : Bytes} (hpeer : p ≠ 2) (hkind : f.kind = .udp 49411 x) (hsafe : safeNet b p = false)
    (hmgmt : portFlag b p 1 = true) : Does (.ethFrameReceived t p f) s fun u =>
      (u.portAt p).toMgmt = ((b.portAt p).toMgmt + 1) % 2 ^ 32 ∧ (u.portAt p).rx = ((b.portAt p).rx + 1) % 2 ^ 32 ∧
      (u.portAt p).discards = (b.portAt p).discards ∧ u.saf = b.saf ∧ ∀ k, k ≠ p → u.portAt k = b.portAt k := by
  have hsafe' : safeNet (countedIn b p) p = false := hsafe
  obtain ⟨hsame, hother⟩ := countedIn_modPort hlen fun x => { x with toMgmt := (x.toMgmt + 1) % 2 ^ 32 }
  refine ⟨(countedIn b p).modPort p fun x => { x with toMgmt := (x.toMgmt + 1) % 2 ^ 32 }, ?_, ?_⟩
  · rw [exec_ethFrameReceived hb he hp hen hlink, if_neg (Nat.not_lt.mpr hshort)]
    simp [classify, hkind, tagOk_countedIn, ownIp_countedIn, portFlag_countedIn, htag, hip, hsafe', hpeer, hmgmt]
  · dsimp only
    rw [hsame]
    exact ⟨rfl, rfl, rfl, rfl, hother⟩

/-- A safe PDU enters the ring of its network while fewer than 16 of it stand there, and else is counted. -/
theorem ethFrameReceived_safe {x : Bytes} (hkind : f.kind = .udp (getU (b.setB .sp) 426 2) x)
    (hset : (b.chan .sp).set.isSome = true) (hsafe : safeNet b p = true) : Does (.ethFrameReceived t p f) s fun u =>
      (u.portAt p).toSafe = ((b.portAt p).toSafe + 1) % 2 ^ 32 ∧
      if (b.saf.rxRing.filter fun e => e.net = p).length < 16 then
        u.saf.rxRing = b.saf.rxRing ++ [{ net := p, bytes := x }] ∧ u.saf.rxDrops = b.saf.rxDrops
      else u.saf.rxRing = b.saf.rxRing ∧ u.saf.rxDrops = b.saf.rxDrops + 1 := by
  have hsafe' : safeNet (countedIn b p) p = true := hsafe
  have hset' : ((countedIn b p).chan .sp).set.isSome = true := hset
  obtain ⟨hsame, -⟩ := countedIn_modPort hlen fun x => { x with toSafe := (x.toSafe + 1) % 2 ^ 32 }
  refine ⟨pushSafe ((countedIn b p).modPort p fun x => { x with toSafe := (x.toSafe + 1) % 2 ^ 32 }) p x, ?_, ?_⟩
  · rw [exec_ethFrameReceived hb he hp hen hlink, if_neg (Nat.not_lt.mpr hshort)]
    unfold classify
    simp only [hkind, tagOk_countedIn, ownIp_countedIn, htag, hip, hset', hsafe']
    rw [if_neg (by decide), if_pos (by exact ⟨rfl, trivial, trivial⟩)]
  · have hnet : (pushSafe ((countedIn b p).modPort p fun x => { x with toSafe := (x.toSafe + 1) % 2 ^ 32 }) p x).net =
        ((countedIn b p).modPort p fun x => { x with toSafe := (x.toSafe + 1) % 2 ^ 32 }).net := by simp
    dsimp only
    rw [portAt_congr hnet, hsame]
    refine ⟨rfl, ?_⟩
    have hring : (((countedIn b p).modPort p fun x => { x with toSafe := (x.toSafe + 1) % 2 ^ 32 }).saf) = b.saf := rfl
    rw [pushSafe, hring]
    split
    next hroom =>
      rw [if_neg (Nat.not_le.mpr hroom)]
      exact ⟨rfl, rfl⟩
    next hfull =>
      rw [if_pos (Nat.not_lt.mp hfull)]
      exact ⟨rfl, rfl⟩

end

end

end

theorem linkLossReturn_counts {t : Nat} {s b : State} (hb : s.advance t = b) {p : Nat} {x : Bool} (he : ethRuns b = true)
    (hp : p < 4) (hlen : p < b.net.port.length) (hchange : (b.portAt p).link ≠ x) : Does (.linkLossReturn t p x) s fun u =>
      (u.portAt p).link = x ∧ (u.portAt p).linkChanges = ((b.portAt p).linkChanges + 1) % 2 ^ 32 ∧ u.str = b.str ∧
      ∀ k, k ≠ p → u.portAt k = b.portAt k := by
  refine ⟨icuShared (groupRecord (b.modPort p fun y => { y with link := x, linkChanges := (y.linkChanges + 1) % 2 ^ 32 }) gNet
    srcEmac lvInfo 463 p x.toNat) (80 + p), ?_, ?_⟩
  · change execLinkLossReturn t p x s = _
    unfold execLinkLossReturn
    rw [hb]
    dsimp only
    rw [if_pos (by simp [he, hp, hchange])]
  · have hnet : (icuShared (groupRecord (b.modPort p fun y => { y with link := x, linkChanges := (y.linkChanges + 1) % 2 ^ 32 })
        gNet srcEmac lvInfo 463 p x.toNat) (80 + p)).net =
        (b.modPort p fun y => { y with link := x, linkChanges := (y.linkChanges + 1) % 2 ^ 32 }).net := by simp
    dsimp only
    rw [portAt_congr hnet, portAt_modPort_same hlen]
    refine ⟨rfl, rfl, by simp, fun k hk => ?_⟩
    rw [portAt_congr hnet, portAt_modPort_ne _ hk]

/-- Settles O40: each clause is the law of its command, or of its event on the state at the event's instant. -/
theorem networkPorts : Obligations.NetworkPorts :=
  ⟨fun _ _ _ h hr hl hidx hn hf hpeer => netSetPort_stores h hr hidx hl hn hf hpeer,
    fun _ _ _ h hr happ hl hidx hf hbit hn => netSetMgmt_stores h hr hidx happ hl hf hbit hn,
    fun _ _ _ _ he hp hlen hen hlink hlong => ethFrameReceived_tooLong rfl he hp hlen hen hlink hlong,
    fun _ _ _ _ _ he hp hpeer hlen hen hlink hshort hkind htag hip hsafe hmgmt =>
      ethFrameReceived_mgmt rfl he hp hlen hen hlink hshort htag hip hpeer hkind hsafe hmgmt,
    fun _ _ _ _ _ he hp hlen hen hlink hshort hkind htag hip hset hsafe =>
      ethFrameReceived_safe rfl he hp hlen hen hlink hshort htag hip hkind hset hsafe,
    fun _ _ _ _ he hp hlen hen hlink hshort hkind htag hip =>
      ethFrameReceived_arp rfl he hp hlen hen hlink hshort htag hip hkind,
    fun _ _ _ _ he hp hlen hen hlink hshort hkind => ethFrameReceived_unsupported rfl he hp hlen hen hlink hshort hkind,
    fun _ _ _ _ he hp hlen hchange => linkLossReturn_counts rfl he hp hlen hchange⟩

end Sys2Proof.Machine
end

section
/-! SUPPORT. The CAN FD controllers: commands, frames and registers (16_ethernet_can.md R465 to R474). -/

namespace Sys2Proof.Machine

-- One proof at a time: together their threads exceed the memory of the check.
set_option Elab.async false

/-! ## Access to a controller -/

theorem canAt_modCan_same {s : State} {c : Nat} (h : c < s.net.can.length) (f : Can → Can) : (s.modCan c f).canAt c = f (s.canAt c) :=
  getD_modify_same _ _ _ _ h

theorem canAt_modCan_ne (s : State) {c k : Nat} (h : k ≠ c) (f : Can → Can) : (s.modCan c f).canAt k = s.canAt k :=
  getD_modify_ne _ _ _ h

theorem canAt_congr {s u : State} (h : u.net = s.net) (c : Nat) : u.canAt c = s.canAt c := by rw [State.canAt, State.canAt, h]

/-- What a step does with the registers of controller `c`, and that it leaves the others. -/
abbrev CanMoved (s u : State) (c : Nat) (f : Can → Can) : Prop := u.canAt c = f (s.canAt c) ∧ ∀ k, k ≠ c → u.canAt k = s.canAt k

theorem CanMoved.of_net {s u : State} {c : Nat} {f : Can → Can} (hlen : c < s.net.can.length)
    (h : u.net = (s.modCan c f).net) : CanMoved s u c f :=
  ⟨(canAt_congr h c).trans (canAt_modCan_same hlen f), fun k hk => (canAt_congr h k).trans (canAt_modCan_ne s hk f)⟩

theorem CanMoved.trans {s u v : State} {c : Nat} {f g : Can → Can} (h : CanMoved s u c f) (hv : CanMoved u v c g) :
    CanMoved s v c (g ∘ f) :=
  ⟨by rw [hv.1, h.1]; rfl, fun k hk => (hv.2 k hk).trans (h.2 k hk)⟩

theorem desc_congr {s u : State} (h : u.hpr = s.hpr) (d : Nat) : u.desc d = s.desc d := by rw [State.desc, State.desc, h]

theorem canSource_net (s : State) (c k : Nat) : (canSource s c k).net = s.net := by simp

theorem canEvent_moves {s : State} {c : Nat} (hlen : c < s.net.can.length) (b : Nat) :
    CanMoved s (canEvent s c b) c fun x => { x with evt := x.evt ||| BitVec.twoPow 6 b } :=
  .of_net hlen (by simp [canEvent])

theorem modCan_can_length (s : State) (c : Nat) (f : Can → Can) : (s.modCan c f).net.can.length = s.net.can.length := by
  simp [State.modCan]

/-! ## The commands -/

/-- A command that passes each check of R447 in turn is not refused. -/
theorem rejection_passes {sp : Spec} {s : State} {q : Req} (hl : sp.len q.payload = none) (hrole : rolesOk sp s.unit = true)
    (he : q.envBad = none) (ha : sp.arg s q = none) (happ : (sp.noApp && q.port == .app) = false)
    (hpop : sp.pop s q.payload = none) (hst : sp.state s q = none) (hown : ownerBad sp s q = none) (hres : sp.res s q = false) :
    rejection sp s q = none := by
  simp [rejection, hl, hpop, happ, hrole, hst, firstBad, he, ha, hown, hres]

theorem ok_net (s : State) (op : Nat) (q : Req) (p : Bytes) : (ok s op q p).net = s.net := by simp [ok]

theorem ownedEntries_congr {s u : State} (hnet : u.net = s.net) (hram : u.canRam = s.canRam) (c k n : Nat) :
    ownedEntries u c k n = ownedEntries s c k n := by
  rw [ownedEntries, ownedEntries, canAt_congr hnet, hram]

theorem CanQ.owned_get {x : CanQ} {n : Nat} (hn : n ≤ x.owned) : (((x.get + n) % 256) % 256 + 256 - x.get) % 256 ≤ x.owned := by
  unfold CanQ.owned at *
  omega

/-- A read pointer moved within the owned entries. -/
theorem writeRxGet_moves {s : State} {c k g : Nat} (hlen : c < s.net.can.length)
    (hg : (g % 256 + 256 - ((s.canAt c).q k).get) % 256 ≤ ((s.canAt c).q k).owned) :
    CanMoved s (writeRxGet s c k g) c fun x => x.modQ k fun y => { y with get := g % 256 } := by
  refine .of_net hlen ?_
  unfold writeRxGet
  rw [if_pos hg]
  dsimp only
  split
  · rfl
  · simp

theorem writeRxGet_mem (s : State) (c k g : Nat) : (writeRxGet s c k g).mem = s.mem := by
  unfold writeRxGet accErr canEvent
  dsimp only
  (repeat' split) <;> simp

theorem writeRxGet_hpr (s : State) (c k g : Nat) : (writeRxGet s c k g).hpr = s.hpr := by
  unfold writeRxGet accErr canEvent
  dsimp only
  (repeat' split) <;> simp

theorem respondBuf_net (s : State) (op : Nat) (q : Req) (d : Nat) (b : Bytes) : (respondBuf s op q d b).net = s.net := by
  simp [respondBuf, ok]

/-- CAN_DELEGATE's change of one controller: its holder, and with it the owner of its four sources. -/
def delegateCan (give : Bool) (s : State) (c : Nat) : State :=
  (List.range 4).foldl (fun s k => retarget s (64 + 4 * c + k) (if give then .app else .sup))
    (s.modCan c fun x => { x with delegated := give })

theorem delegateCan_net (give : Bool) (s : State) (c : Nat) :
    (delegateCan give s c).net = (s.modCan c fun x => { x with delegated := give }).net := by
  simp [delegateCan, List.range_succ]

theorem delegate_gives {give : Bool} {l : List Nat} : ∀ {s : State} {c : Nat}, c < s.net.can.length →
    (l.foldl (delegateCan give) s).canAt c = { s.canAt c with delegated := if c ∈ l then give else (s.canAt c).delegated } := by
  induction l with
  | nil => exact fun _ => rfl
  | cons k l ih =>
    intro s c hc
    have hlen : c < (delegateCan give s k).net.can.length := by
      rw [delegateCan_net, modCan_can_length]
      exact hc
    rw [List.foldl_cons, ih hlen]
    by_cases hk : c = k
    · subst hk
      obtain ⟨hsame, -⟩ := CanMoved.of_net hc (delegateCan_net give s c)
      simp [hsame]
    · rw [canAt_congr (delegateCan_net ..), canAt_modCan_ne s hk]
      simp [hk]

/-- The registers after a write of CAN_CTRL that is taken. -/
def ctrlTaken (v : BitVec 32) (x : Can) : Can :=
  let x := { x with fd := v.getLsbD 1, tdc := v.getLsbD 2, abo := v.getLsbD 3, listen := v.getLsbD 4, loop := v.getLsbD 5
                    noMatch := if v.toNat / 64 % 4 = 3 then x.noMatch else v.toNat / 64 % 4 }
  if v.getLsbD 0 then enterInit x else leaveInit x

theorem writeCtrl_taken {s : State} {c : Nat} {v : BitVec 32} (h : v.getLsbD 0 = true ∨
    timingOk (s.canAt c).nbt.toNat (s.canAt c).dbt.toNat (v.getLsbD 2) = true) : writeCtrl s c v = s.modCan c (ctrlTaken v) := by
  have hok : ¬(!v.getLsbD 0 && (s.canAt c).init && !timingOk (s.canAt c).nbt.toNat (s.canAt c).dbt.toNat (v.getLsbD 2)) = true := by
    rcases h with h | h <;> rw [h] <;> simp
  unfold writeCtrl
  dsimp only
  rw [if_neg hok]
  rfl

theorem canStatusBytes_length (s : State) (c : Nat) : (canStatusBytes s c).length = 30 := by
  simp [canStatusBytes]

theorem modQ_q (x : Can) {k : Nat} (hk : k < 2) (f : CanQ → CanQ) : (x.modQ k f).q k = f (x.q k) := by
  unfold Can.modQ Can.q
  split <;> rfl

theorem leaveInit_init (x : Can) : (leaveInit x).init = false := by
  unfold leaveInit
  split
  next => rfl
  next hinit => exact Bool.eq_false_iff.mpr hinit

theorem leaveInit_cfg (x : Can) : leaveInit x = { x with init := (leaveInit x).init, state := (leaveInit x).state } := by
  unfold leaveInit
  split <;> rfl

/-- The registers after a configuration. -/
theorem applyCanCfg_gives (p : Bytes) (x : Can) : (applyCanCfg p x).cfg = p ∧ (applyCanCfg p x).fd = getBit p 1 1 ∧
    (applyCanCfg p x).tdc = getBit p 1 2 ∧ (applyCanCfg p x).fltBase = getU p 20 2 ∧
    (applyCanCfg p x).fltCount = getU p 22 2 ∧
    (applyCanCfg p x).nbt = BitVec.ofNat 32 (nbtWord ((nominalTiming p).getD (1, 1, 1))) ∧
    (applyCanCfg p x).init = !getBit p 1 0 := by
  unfold applyCanCfg
  cases getBit p 1 0 with
  | false => simp [enterInit]
  | true =>
    dsimp only
    rw [if_pos rfl, leaveInit_init, leaveInit_cfg]
    exact ⟨rfl, rfl, rfl, rfl, rfl, rfl, rfl⟩

theorem firstBad_head {o : Option Nat} {l : List (Option Nat)} (h : firstBad (o :: l) = none) : o = none := by
  cases o with
  | none => rfl
  | some n =>
    rw [firstBad] at h
    split at h <;> cases h

theorem noted_desc_length (sp : Spec) (s : State) (q : Req) : (noteDesc sp (touch s) q).hpr.desc.length = s.hpr.desc.length := by
  unfold noteDesc
  split
  · rfl
  · simp [State.modDesc, State.setHpr, touch, State.setPwr]

theorem noted_desc_size (sp : Spec) (s : State) (q : Req) (d : Nat) :
    ((noteDesc sp (touch s) q).desc d).size = (s.desc d).size := by
  unfold noteDesc
  split
  · rfl
  · rw [desc_modDesc]
    split
    · split <;> rfl
    · rfl

theorem noted_mem (sp : Spec) (s : State) (q : Req) : (noteDesc sp (touch s) q).mem = s.mem := by
  rw [noteDesc_eq]
  rfl

theorem bufRead_length (s : State) (d n : Nat) : (bufRead s d n).length = n := by
  have hlen (m : List Host.Cell) (n : Nat) : ∀ a, (memReads m a n).length = n := by
    induction n with
    | zero => exact fun _ => rfl
    | succ n ih => exact fun a => congrArg (· + 1) (ih (a + 1))
  exact hlen ..

/-- Taking a command and noting its descriptor moves no byte of a buffer. -/
theorem bufRead_noted (sp : Spec) (s : State) (q : Req) (d n : Nat) : bufRead (noteDesc sp (touch s) q) d n = bufRead s d n := by
  have hoff := (noteDesc_desc sp (touch s) q d).1
  rw [touch_desc] at hoff
  rw [bufRead, bufRead, hoff, noted_mem]

theorem noted_net (sp : Spec) (s : State) (q : Req) : (noteDesc sp (touch s) q).net = s.net := by
  rw [noteDesc_eq]
  rfl

/-- A response put into a buffer stands there, whatever else than memory and descriptors the command has moved before. -/
theorem respondBuf_holds {s x : State} {q : Req} {d : Nat} (hmem : x.mem = s.mem) (hoff : (x.desc d).offset = (s.desc d).offset)
    (hlen : x.hpr.desc.length = s.hpr.desc.length) (hm : MemOk s) (hq : SlotOk q) (hd : d < 256) (op : Nat) (b : Bytes) :
    BufHolds s (respondBuf x op q d b) d b := by
  refine ⟨?_, fun h256 => ?_⟩
  · have hwin : memReads (respondBuf x op q d b).mem (windowBase + (s.desc d).offset) b.length =
        memReads (bufWrite x d b).mem (windowBase + (s.desc d).offset) b.length :=
      memReads_congr _ _ _ _ fun a ha => ok_window _ op q _ hq (by simp) a (by omega)
    have hbuf : (bufWrite x d b).mem = memWrites s.mem (windowBase + (s.desc d).offset) b := by
      rw [bufWrite, hoff, hmem]
      rfl
    rw [hwin, hbuf]
    exact memReads_writes b _ _ hm.1
  · rw [respondBuf, ok, finish1_desc, bufWrite]
    rw [desc_modDesc, if_pos ⟨rfl, by change d < x.hpr.desc.length; omega⟩]

theorem argI_short {n m : Nat} {p : Bytes} (hm : m ≤ 240) (hidx : getU p 0 1 < n ∨ getU p 0 1 = 255) (hz : getU p 1 1 = 0) :
    argI n true false m p = none := by
  have hi : (if getU p 0 1 = 0xFF then true else false || decide (getU p 0 1 < n)) = true := by
    split
    · rfl
    · simpa using hidx.resolve_right ‹_›
  unfold argI
  dsimp only
  rw [hi]
  simp [zeroAt, hz, hm, firstBad, must]

section
variable {s : State} {q : Req} (h : Taken s q) (hr : s.unit.isRole = true ∨ s.unit = .safeHold)
include h hr

theorem canSetConfig_sets {c : Nat} (hl : q.payload.length = 24) (hidx : getU q.payload 0 1 = c) (hlen : c < s.net.can.length)
    (hdel : (s.canAt c).delegated = false) (hok : canCfgBad s q.payload = none) : Does (.canSetConfig q) s fun u =>
      Answered u q 0x0F01 stOk 0 [] ∧ (u.canAt c).cfg = q.payload ∧ (u.canAt c).fd = getBit q.payload 1 1 ∧
      (u.canAt c).tdc = getBit q.payload 1 2 ∧ (u.canAt c).fltBase = getU q.payload 20 2 ∧
      (u.canAt c).fltCount = getU q.payload 22 2 ∧
      (u.canAt c).nbt = BitVec.ofNat 32 (nbtWord ((nominalTiming q.payload).getD (1, 1, 1))) ∧
      (u.canAt c).init = !getBit q.payload 1 0 ∧ ∀ k, k ≠ c → u.canAt k = s.canAt k := by
  have ⟨_, _, henv⟩ := h
  subst hidx
  refine ⟨ok ((touch s).modCan (getU q.payload 0 1) (applyCanCfg q.payload)) 0x0F01 q [], ?_, ok_answered .., ?_⟩
  · change execCanSetConfig q s = _
    unfold execCanSetConfig
    rw [command_run _ _ q s h, noteDesc_none _ _ _ rfl]
    exact rejection_passes (if_pos hl) (rolesOk_net hr rfl rfl) henv hok rfl rfl (by simp [canConflict, hdel]) rfl rfl
  · have hnet : (ok ((touch s).modCan (getU q.payload 0 1) (applyCanCfg q.payload)) 0x0F01 q []).net =
        (s.modCan (getU q.payload 0 1) (applyCanCfg q.payload)).net := ok_net ..
    obtain ⟨hsame, hother⟩ := CanMoved.of_net hlen hnet
    obtain ⟨hcfg, hfd, htdc, hbase, hcount, hnbt, hinit⟩ := applyCanCfg_gives q.payload (s.canAt (getU q.payload 0 1))
    rw [hsame]
    exact ⟨hcfg, hfd, htdc, hbase, hcount, hnbt, hinit, hother⟩

/-- The commands that return a record of one controller or of all four. -/
theorem canGetI_answers (op : Nat) {resp : State → Nat → Bytes} (hrest : ∀ k, Rests (resp · k)) {n : Nat}
    (hn : ∀ k, (resp s k).length = n) (hn60 : n ≤ 60) (hl : q.payload.length = 4)
    (hidx : getU q.payload 0 1 < 4 ∨ getU q.payload 0 1 = 255) (hz : getU q.payload 1 1 = 0)
    (hd : getU q.payload 2 2 = noDesc ∨ descOk s q (getU q.payload 2 2) 0 = true)
    (hfree : ∀ c ∈ namedBy (getU q.payload 0 1) 4, (s.canAt c).delegated = false) : ∃ u, canGetI op resp q s = .next u ∧
      Answered u q op stOk 0 ((namedBy (getU q.payload 0 1) 4).flatMap (resp s)) ∧ HostOnly s u := by
  have ⟨_, _, henv⟩ := h
  have hlen : ((namedBy (getU q.payload 0 1) 4).flatMap (resp s)).length ≤ 240 := by
    unfold namedBy
    split <;> simp [List.length_flatMap, hn] <;> omega
  have hst : (namedBy (getU q.payload 0 1) 4).findSome? (canConflict s) = none :=
    List.findSome?_eq_none_iff.mpr fun c hc => by simp [canConflict, hfree c hc]
  have harg := argI_short hlen hidx hz
  unfold canGetI
  refine ⟨_, command_run _ _ q s h ?_, ?_⟩
  · refine rejection_passes (if_pos hl) (rolesOk_net hr rfl rfl) henv harg rfl rfl hst ?_ rfl
    rcases hd with hd | hd
    · simp [ownerBad, descAt, hd]
    · simp only [ownerBad, descAt, descOk_noDesc _ _ _ _ hd, if_false, if_pos hlen, hd, if_true]
  · have hresp (sp : Spec) : resp (noteDesc sp (touch s) q) = resp s := funext fun k => hrest k sp s q
    simp only [hresp, respond, if_pos hlen]
    refine ⟨ok_answered .., (finish1_hostOnly ..).trans ?_⟩
    rw [noteDesc_eq]
    rfl

theorem canSetFilter_writes {d len c : Nat} (hm : MemOk s) (hl : q.payload.length = 8) (hdesc : getU q.payload 0 2 = d)
    (hz : getU q.payload 2 2 = 0) (hlen : getU q.payload 4 4 = len) (hlo : 4 ≤ len) (hhi : len ≤ 4 + 8 * 2048)
    (hd : descOk s q d len = true) (hc : getU (bufRead s d len) 0 1 = c) (hbuf : filterBufBad s (bufRead s d len) len = none)
    (hdel : (s.canAt c).delegated = false) (hinit : (s.canAt c).init = true) : Does (.canSetFilter q) s fun u =>
      Answered u q 0x0F03 stOk 0 [] ∧ memReads u.canRam (8 * (s.canAt c).fltBase) (len - 4) = (bufRead s d len).drop 4 ∧
      u.net = s.net := by
  have ⟨_, _, henv⟩ := h
  have hhead : getU (bufRead s d 1) 0 1 = c := by
    rw [← hc, bufRead, bufRead, ← memReads_take s.mem (Nat.le_trans (by decide : 1 ≤ 4) hlo)]
    simp [getU]
  have hc4 : c < 4 := by
    by_contra hge
    have hbad := firstBad_head hbuf
    simp [must, hc, hge] at hbad
  subst hdesc hlen hc
  change ∃ u, execCanSetFilter q s = _ ∧ _
  unfold execCanSetFilter
  refine ⟨_, command_run _ _ q s h ?_, ok_answered .., ?_, ?_⟩
  · refine rejection_passes (if_pos hl) (rolesOk_net hr rfl rfl) henv ?_ rfl rfl ?_ ?_ rfl
    · simp [hd, hbuf, zeroAt, hz, must, firstBad, hlo, hhi, inBuf]
    · simp [hd, hhead, canConflict, hdel, hinit, Nat.not_le.mpr hc4]
    · simp [ownerBad, hd]
  · dsimp only
    rw [bufRead_noted, canAt_congr (noted_net _ s q)]
    have hram := memReads_writes ((bufRead s (getU q.payload 0 2) (getU q.payload 4 4)).drop 4) s.canRam
      (8 * (s.canAt (getU (bufRead s (getU q.payload 0 2) (getU q.payload 4 4)) 0 1)).fltBase) hm.2
    rw [List.length_drop, bufRead_length] at hram
    simpa [ok, canRamWrite] using hram
  · simp [ok]

end

section
variable {s : State} {q : Req} (h : Taken s q)
include h

theorem canSend_queues {c : Nat} (hr : AnyRole s) (hm : MemOk s) (hl : q.payload.length = 76) (hidx : getU q.payload 0 1 = c)
    (hc : c < 4) (hlen : c < s.net.can.length) (hz1 : getU q.payload 1 1 = 0) (hz2 : getU q.payload 2 2 = 0)
    (hz10 : getU q.payload 10 2 = 0) (hdel : (s.canAt c).delegated = false) (hroom : (s.canAt c).queued < 32) :
    Does (.canSend q) s fun u => Answered u q 0x0F04 stOk 0 [] ∧ (u.canAt c).txPut = ((s.canAt c).txPut + 1) % 256 ∧
      memReads u.canRam (canTxAddr c (s.canAt c).txPut) 72 = q.payload.drop 4 ∧ ∀ k, k ≠ c → u.canAt k = s.canAt k := by
  have ⟨_, _, henv⟩ := h
  subst hidx
  refine ⟨ok ((canRamWrite (touch s) (canTxAddr (getU q.payload 0 1) (s.canAt (getU q.payload 0 1)).txPut) (q.payload.drop 4)).modCan
    (getU q.payload 0 1) fun x => { x with txPut := (x.txPut + 1) % 256 }) 0x0F04 q [], ?_, ok_answered .., ?_⟩
  · change execCanSend q s = _
    unfold execCanSend
    rw [command_run _ _ q s h, noteDesc_none _ _ _ rfl]
    · rfl
    · refine rejection_passes (if_pos hl) (anyRole_rolesOk _ s hr rfl) henv ?_ rfl rfl (by simp [canConflict, hdel]) rfl ?_
      · simp [firstBad, must, zeroAt, hc, hz1, hz2, hz10]
      · simpa using hroom
  · obtain ⟨hsame, hother⟩ := CanMoved.of_net (s := s) (f := fun x => { x with txPut := (x.txPut + 1) % 256 }) hlen
      (ok_net ((canRamWrite (touch s) (canTxAddr (getU q.payload 0 1) (s.canAt (getU q.payload 0 1)).txPut)
        (q.payload.drop 4)).modCan (getU q.payload 0 1) fun x => { x with txPut := (x.txPut + 1) % 256 }) 0x0F04 q [])
    have hram := memReads_writes (q.payload.drop 4) s.canRam (canTxAddr (getU q.payload 0 1) (s.canAt (getU q.payload 0 1)).txPut) hm.2
    rw [hsame]
    refine ⟨rfl, ?_, hother⟩
    rw [List.length_drop, hl] at hram
    simpa [ok, canRamWrite] using hram

theorem canRead_takes {i d n : Nat} (hr : s.unit.isRole = true ∨ s.unit = .safeHold) (hm : MemOk s) (hq : SlotOk q)
    (hl : q.payload.length = 4) (hidx : getU q.payload 0 1 = i) (hi : i < 8) (hlen : i % 4 < s.net.can.length)
    (hz : getU q.payload 1 1 = 0) (hdesc : getU q.payload 2 2 = d) (hd : descOk s q d 0 = true)
    (hdel : (s.canAt (i % 4)).delegated = false) (hn : n = min ((s.desc d).size / 76) ((s.canAt (i % 4)).q (i / 4)).owned)
    (hput : ((s.canAt (i % 4)).q (i / 4)).put < 256) (hget : ((s.canAt (i % 4)).q (i / 4)).get < 256) :
    Does (.canRead q) s fun u => Answered u q 0x0F05 stOk 0 (leU 4 (ownedEntries s (i % 4) (i / 4) n).length) ∧
      BufHolds s u d (ownedEntries s (i % 4) (i / 4) n) ∧
      ((u.canAt (i % 4)).q (i / 4)).get = (((s.canAt (i % 4)).q (i / 4)).get + n) % 256 ∧
      ((u.canAt (i % 4)).q (i / 4)).put = ((s.canAt (i % 4)).q (i / 4)).put := by
  have ⟨_, _, henv⟩ := h
  have hne := descOk_noDesc _ _ _ _ hd
  change ∃ u, execCanRead q s = _ ∧ _
  unfold execCanRead
  rw [hidx, hdesc]
  refine ⟨_, command_run _ _ q s h ?_, ?_⟩
  · refine rejection_passes (if_pos hl) (rolesOk_net hr rfl rfl) henv ?_ rfl rfl ?_ ?_ rfl
    · simp [firstBad, must, zeroAt, hi, hz, hne]
    · simp [canConflict, hdel]
    · simp [ownerBad, descAt, hdesc, hne, hd]
  · generalize hx : noteDesc _ (touch s) q = x
    have hnet : x.net = s.net := by rw [← hx, noted_net]
    have hram : x.canRam = s.canRam := by rw [← hx, noteDesc_eq]; rfl
    have hentries : ownedEntries x = ownedEntries s := by
      funext c k n
      exact ownedEntries_congr hnet hram c k n
    have hsize : (x.desc d).size = (s.desc d).size := by rw [← hx, noted_desc_size]
    have hcan : x.canAt = s.canAt := funext (canAt_congr hnet)
    simp only [hentries, hsize, hcan, ← hn]
    have hown : n ≤ ((x.canAt (i % 4)).q (i / 4)).owned := by
      rw [hcan, hn]
      exact Nat.min_le_right ..
    obtain ⟨hsame, -⟩ := writeRxGet_moves (c := i % 4) (k := i / 4) (by rw [hnet]; exact hlen) (CanQ.owned_get hown)
    refine ⟨ok_answered .., ?_, ?_⟩
    · refine respondBuf_holds ?_ ?_ ?_ hm hq (lt_of_descOk hd) _ _
      · rw [writeRxGet_mem, ← hx, noted_mem]
      · rw [desc_congr (writeRxGet_hpr ..), ← hx, (noteDesc_desc ..).1, touch_desc]
      · rw [writeRxGet_hpr, ← hx, noted_desc_length]
    · have hk : i / 4 < 2 := by omega
      rw [canAt_congr (respondBuf_net ..), ← hcan, hsame, modQ_q _ hk]
      exact ⟨Nat.mod_mod .., rfl⟩

theorem canDelegate_gives (hr : AnyRole s) (happ : q.port ≠ .app) (hl : q.payload.length = 2) (hset : getU q.payload 0 1 < 16)
    (hgive : getU q.payload 1 1 ≤ 1) (hlen : s.net.can.length = 4)
    (hinit : ∀ c ∈ List.range 4, (getU q.payload 0 1).testBit c = true → (s.canAt c).init = true) :
    Does (.canDelegate q) s fun u => Answered u q 0x0F07 stOk 0 [] ∧ ∀ c ∈ List.range 4, u.canAt c =
      { s.canAt c with delegated := if (getU q.payload 0 1).testBit c then getU q.payload 1 1 == 1 else (s.canAt c).delegated } := by
  have ⟨_, _, henv⟩ := h
  change ∃ u, execCanDelegate q s = _ ∧ _
  unfold execCanDelegate
  refine ⟨_, command_run _ _ q s h ?_, ok_answered .., ?_⟩
  · refine rejection_passes (if_pos hl) (anyRole_rolesOk _ s hr rfl) henv ?_ ?_ rfl ?_ rfl rfl
    · simp [firstBad, must, hset, hgive]
    · simp [happ]
    · simp only [Option.map_eq_none_iff, List.find?_eq_none, List.mem_filter]
      intro c hc
      simp [hinit c hc.1 hc.2]
  · intro c hc
    have hc4 : c < s.net.can.length := hlen ▸ List.mem_range.mp hc
    refine (canAt_congr (ok_net ..) c).trans ((delegate_gives (give := getU q.payload 1 1 == 1) (by rw [noted_net]; exact hc4)).trans ?_)
    rw [canAt_congr (noted_net ..)]
    simp [List.mem_filter, List.mem_range.mp hc]

end

/-! ## Frames -/

theorem dlcLen_le (dlc : Nat) (fd remote : Bool) : dlcLen dlc fd remote ≤ 64 := by
  unfold dlcLen
  split
  · omega
  · split
    · omega
    · split
      · omega
      · rw [List.getD_eq_getElem?_getD]
        rcases Nat.lt_or_ge (dlc - 9) 7 with hd | hd
        · interval_cases dlc - 9 <;> simp
        · simp [List.getElem?_eq_none, hd]

theorem rxEntry_length (s : State) (f : CanFrame) (e : Option Nat) : (rxEntry s f e).length = 76 := by
  have hn := dlcLen_le f.dlc f.fd f.remote
  simp [rxEntry, fitTo_length]
  omega

section
variable {t : Nat} {s b : State} {c : Nat} (hb : s.advance t = b)
include hb

/-- A frame that the filters reject changes nothing, on the bus or not. -/
theorem canFrameReceived_rejected {f : CanFrame} (hfate : filterFate b c (f.id % 2 ^ 29) f.xtd = none) :
    Does (.canFrameReceived t c f) s fun u => u = b := by
  refine ⟨b, ?_, rfl⟩
  change execCanFrameReceived t c f s = _
  unfold execCanFrameReceived
  rw [hb]
  dsimp only
  rw [receiveFrame, hfate, ite_self]

variable (hlen : c < b.net.can.length)
include hlen

section
variable {f : CanFrame} {k : Nat} {e : Option Nat} (hbus : onBus b c = true) (hloop : (b.canAt c).loop = false)
  (hfd : f.fd = false ∨ (b.canAt c).fd = true) (hrem : (f.remote && f.fd) = false)
  (hfate : filterFate b c (f.id % 2 ^ 29) f.xtd = some (k, e)) (hk : k < 2)
include hbus hloop hfd hrem

omit hlen in
theorem exec_canFrameReceived : exec (.canFrameReceived t c f) s = .next (receiveFrame b c f) := by
  have hfd' : ((b.canAt c).fd || !f.fd) = true := by
    rcases hfd with hfd | hfd <;> simp [hfd]
  change execCanFrameReceived t c f s = _
  unfold execCanFrameReceived
  rw [hb]
  dsimp only
  rw [if_pos (by simp [hbus, hloop, hfd', hrem])]

include hfate hk

theorem canFrameReceived_stands (hm : MemOk b) (hroom : ((b.canAt c).q k).owned ≠ ((b.canAt c).q k).depth) :
    Does (.canFrameReceived t c f) s fun u => ((u.canAt c).q k).put = (((b.canAt c).q k).put + 1) % 256 ∧
      ((u.canAt c).q k).get = ((b.canAt c).q k).get ∧ (u.canAt c).received = ((b.canAt c).received + 1) % 2 ^ 32 ∧
      memReads u.canRam (canRxAddr c k (((b.canAt c).q k).put % ((b.canAt c).q k).depth)) 76 = rxEntry b f e ∧
      u.mem = b.mem ∧ ∀ k, k ≠ c → u.canAt k = b.canAt k := by
  refine ⟨_, exec_canFrameReceived hb hbus hloop hfd hrem, ?_⟩
  have hnet : (receiveFrame b c f).net = (b.modCan c fun x =>
      { x.modQ k (fun q => { q with put := (q.put + 1) % 256 }) with received := (x.received + 1) % 2 ^ 32 }).net := by
    unfold receiveFrame
    simp only [hfate, if_neg hroom]
    split <;> simp [canRamWrite, State.draw, State.modCan]
  have hram : (receiveFrame b c f).canRam =
      memWrites b.canRam (canRxAddr c k (((b.canAt c).q k).put % ((b.canAt c).q k).depth)) (rxEntry b f e) := by
    unfold receiveFrame
    simp only [hfate, if_neg hroom]
    split <;> simp [canRamWrite, State.draw, State.modCan]
  have hmem : (receiveFrame b c f).mem = b.mem := by
    unfold receiveFrame
    simp only [hfate, if_neg hroom]
    split <;> simp [canRamWrite, State.draw, State.modCan]
  obtain ⟨hsame, hother⟩ := CanMoved.of_net hlen hnet
  have hstands := memReads_writes (rxEntry b f e) b.canRam
    (canRxAddr c k (((b.canAt c).q k).put % ((b.canAt c).q k).depth)) hm.2
  rw [rxEntry_length] at hstands
  have hq : ((receiveFrame b c f).canAt c).q k =
      { (b.canAt c).q k with put := (((b.canAt c).q k).put + 1) % 256 } := by
    rw [hsame]
    exact modQ_q (b.canAt c) hk _
  dsimp only
  rw [hq, hsame, hram]
  exact ⟨rfl, rfl, rfl, hstands, hmem, hother⟩

theorem canFrameReceived_lost (hfull : ((b.canAt c).q k).owned = ((b.canAt c).q k).depth) :
    Does (.canFrameReceived t c f) s fun u => ((u.canAt c).q k).ovf = (((b.canAt c).q k).ovf + 1) % 2 ^ 32 ∧
      ((u.canAt c).q k).put = ((b.canAt c).q k).put ∧ (u.canAt c).evt = (b.canAt c).evt ||| BitVec.twoPow 6 k ∧
      u.canRam = b.canRam ∧ ∀ k, k ≠ c → u.canAt k = b.canAt k := by
  refine ⟨_, exec_canFrameReceived hb hbus hloop hfd hrem, ?_⟩
  have hrun : receiveFrame b c f =
      canEvent (b.modCan c fun x => x.modQ k fun q => { q with ovf := (q.ovf + 1) % 2 ^ 32 }) c k := by
    unfold receiveFrame
    simp only [hfate, if_pos hfull]
  obtain ⟨hsame, hother⟩ := (CanMoved.of_net hlen rfl).trans (canEvent_moves (s := b.modCan c fun x =>
    x.modQ k fun q => { q with ovf := (q.ovf + 1) % 2 ^ 32 }) (by rw [modCan_can_length]; exact hlen) k)
  rw [hrun]
  have hq : (({ (b.canAt c).modQ k fun q => { q with ovf := (q.ovf + 1) % 2 ^ 32 } with
      evt := ((b.canAt c).modQ k fun q => { q with ovf := (q.ovf + 1) % 2 ^ 32 }).evt ||| BitVec.twoPow 6 k } : Can)).q k =
      { (b.canAt c).q k with ovf := (((b.canAt c).q k).ovf + 1) % 2 ^ 32 } := modQ_q (b.canAt c) hk _
  have hevt : ((b.canAt c).modQ k fun q => { q with ovf := (q.ovf + 1) % 2 ^ 32 }).evt = (b.canAt c).evt := by
    unfold Can.modQ
    split <;> rfl
  dsimp only [Function.comp] at hsame ⊢
  rw [hsame, hq, hevt]
  exact ⟨rfl, rfl, rfl, by simp [canEvent, State.modCan], hother⟩

end

/-! ## The transmit queue and the bus -/

section
variable (hbus : onBus b c = true)
include hbus

section
variable (hlisten : (b.canAt c).listen = false) (hqueue : (b.canAt c).queued ≠ 0)
include hlisten hqueue

theorem canTxComplete_sent (hloop : (b.canAt c).loop = false) : Does (.canTxComplete t c 0) s fun u =>
    (u.canAt c).txGet = ((b.canAt c).txGet + 1) % 256 ∧ (u.canAt c).sent = ((b.canAt c).sent + 1) % 2 ^ 32 ∧
    (u.canAt c).lastOutcome = 0 ∧ (u.canAt c).txTs = b.tsu.now % 2 ^ 32 ∧ (u.canAt c).cancel = false ∧ u.canRam = b.canRam ∧
    ∀ k, k ≠ c → u.canAt k = b.canAt k := by
  refine ⟨canSource (b.modCan c fun x => { x with
      txGet := (x.txGet + 1) % 256, cancel := false, lastOutcome := 0, txTs := b.tsu.now % 2 ^ 32, sent := (x.sent + 1) % 2 ^ 32
      lastMarker := getU (memReads b.canRam (canTxAddr c (b.canAt c).txGet + 4) 4) 0 4 / 256 % 256 }) c 2, ?_, ?_⟩
  · change execCanTxComplete t c 0 s = _
    unfold execCanTxComplete
    rw [hb]
    dsimp only
    rw [if_pos (by simp [hbus, hlisten, hqueue]), if_neg (by simp [hloop])]
    rfl
  · obtain ⟨hsame, hother⟩ := CanMoved.of_net hlen (canSource_net ..)
    rw [hsame]
    exact ⟨rfl, rfl, rfl, rfl, rfl, by simp [State.modCan], hother⟩

theorem canTxComplete_cancelled (hcancel : (b.canAt c).cancel = true) : Does (.canTxComplete t c 1) s fun u =>
    (u.canAt c).txGet = ((b.canAt c).txGet + 1) % 256 ∧ (u.canAt c).sent = (b.canAt c).sent ∧
    (u.canAt c).lastOutcome = 1 ∧ (u.canAt c).cancel = false ∧ ∀ k, k ≠ c → u.canAt k = b.canAt k := by
  refine ⟨canSource (b.modCan c fun x => { x with
      txGet := (x.txGet + 1) % 256, cancel := false, lastOutcome := 1
      lastMarker := getU (memReads b.canRam (canTxAddr c (b.canAt c).txGet + 4) 4) 0 4 / 256 % 256 }) c 2, ?_, ?_⟩
  · change execCanTxComplete t c 1 s = _
    unfold execCanTxComplete
    rw [hb]
    dsimp only
    rw [if_pos (by simp [hbus, hlisten, hqueue, hcancel]), if_neg (by simp)]
    rfl
  · obtain ⟨hsame, hother⟩ := CanMoved.of_net hlen (canSource_net ..)
    rw [hsame]
    exact ⟨rfl, rfl, rfl, rfl, hother⟩

theorem txHol_notes (hlim : (b.canAt c).holLim ≠ 0) : Does (.txHol t c) s fun u =>
    (u.canAt c).evt = (b.canAt c).evt ||| BitVec.twoPow 6 2 ∧ (u.canAt c).txGet = (b.canAt c).txGet ∧
    ∀ k, k ≠ c → u.canAt k = b.canAt k := by
  refine ⟨canSource (canEvent b c 2) c 2, ?_, ?_⟩
  · change execTxHol t c s = _
    unfold execTxHol
    rw [hb]
    dsimp only
    rw [if_pos (by simp [hbus, hlisten, hqueue, hlim])]
  · obtain ⟨hsame, hother⟩ := canEvent_moves hlen 2
    rw [canAt_congr (canSource_net ..), hsame]
    exact ⟨rfl, rfl, fun k hk => (canAt_congr (canSource_net ..) k).trans (hother k hk)⟩

end

theorem busOff_leaves (hloop : (b.canAt c).loop = false) : Does (.busOff t c) s fun u => (u.canAt c).state = 2 ∧
    (u.canAt c).evt = (b.canAt c).evt ||| BitVec.twoPow 6 4 ∧ onBus u c = false ∧ ∀ k, k ≠ c → u.canAt k = b.canAt k := by
  refine ⟨canEvent (b.modCan c fun x => { x with state := 2 }) c 4, ?_, ?_⟩
  · change execBusOff t c s = _
    unfold execBusOff
    rw [hb]
    dsimp only
    rw [if_pos (by simp [hbus, hloop])]
  · obtain ⟨hsame, hother⟩ := (CanMoved.of_net hlen rfl).trans (canEvent_moves (s := b.modCan c fun x => { x with state := 2 })
      (by rw [modCan_can_length]; exact hlen) 4)
    dsimp only [Function.comp] at hsame
    have hoff : onBus (canEvent (b.modCan c fun x => { x with state := 2 }) c 4) c = false := by simp [onBus, hsame]
    rw [hsame]
    exact ⟨rfl, rfl, hoff, hother⟩

end

/-! ## The registers -/

section
variable (hc : c < 4) (hruns : canRuns b = true)
include hc hruns

theorem busOffRecovery_joins (hstate : (b.canAt c).state = 2) (habo : (b.canAt c).abo = true) : Does (.busOffRecovery t c) s fun u =>
    (u.canAt c).state = 0 ∧ (u.canAt c).tec = 0 ∧ (u.canAt c).recCnt = 0 ∧ ∀ k, k ≠ c → u.canAt k = b.canAt k := by
  refine ⟨b.modCan c fun x => { x with state := 0, tec := 0, recCnt := 0, recPassive := false }, ?_, ?_⟩
  · change execBusOffRecovery t c s = _
    unfold execBusOffRecovery
    rw [hb]
    dsimp only
    rw [if_pos (by simp [hruns, hc, hstate, habo])]
  · obtain ⟨hsame, hother⟩ := CanMoved.of_net hlen rfl
    rw [hsame]
    exact ⟨rfl, rfl, rfl, hother⟩

omit hb hlen hruns in
theorem canOwned_held {a : Bool} (hheld : (b.canAt c).delegated = a) (f : State → State) : canOwned b a c f = f b := by
  simp [canOwned, Nat.not_le.mpr hc, hheld]

/-- A write of APP to a controller it does not hold. -/
theorem canTxqPutWrite_refused (hheld : (b.canAt c).delegated = false) (p : Nat) : Does (.canTxqPutWrite t true c p) s fun u =>
    u.canAt c = { b.canAt c with evt := (b.canAt c).evt ||| BitVec.twoPow 6 5 } ∧ ∀ k, k ≠ c → u.canAt k = b.canAt k := by
  refine ⟨accErr b c, ?_, canEvent_moves hlen 5⟩
  change execCanTxqPutWrite t true c p s = _
  unfold execCanTxqPutWrite
  rw [hb]
  dsimp only
  rw [if_pos hruns]
  simp [canOwned, Nat.not_le.mpr hc, hheld]

variable {a : Bool} (hheld : (b.canAt c).delegated = a)
include hheld

theorem canTxqPutWrite_moves {p : Nat} (hp : (p % 256 + 256 - (b.canAt c).txGet) % 256 ≤ 32) :
    Does (.canTxqPutWrite t a c p) s fun u => (u.canAt c).txPut = p % 256 ∧ (u.canAt c).evt = (b.canAt c).evt ∧
      ∀ k, k ≠ c → u.canAt k = b.canAt k := by
  refine ⟨b.modCan c fun x => { x with txPut := p % 256 }, ?_, ?_⟩
  · change execCanTxqPutWrite t a c p s = _
    unfold execCanTxqPutWrite
    rw [hb]
    dsimp only
    rw [if_pos hruns, canOwned_held hc hheld, writeTxPut, if_neg (Nat.not_lt.mpr hp)]
  · obtain ⟨hsame, hother⟩ := CanMoved.of_net hlen rfl
    rw [hsame]
    exact ⟨rfl, rfl, hother⟩

theorem canCancel_marks (hqueue : (b.canAt c).queued ≠ 0) : Does (.canCancel t a c) s fun u =>
    u.canAt c = { b.canAt c with cancel := true } ∧ ∀ k, k ≠ c → u.canAt k = b.canAt k := by
  refine ⟨b.modCan c fun x => { x with cancel := true }, ?_, CanMoved.of_net hlen rfl⟩
  change execCanCancel t a c s = _
  unfold execCanCancel
  rw [hb]
  dsimp only
  rw [if_pos hruns, canOwned_held hc hheld, writeCancel, if_neg hqueue]

theorem canRxqGetWrite_moves {k g : Nat} (hk : k < 2)
    (hg : (g % 256 + 256 - ((b.canAt c).q k).get) % 256 ≤ ((b.canAt c).q k).owned) : Does (.canRxqGetWrite t a c k g) s fun u =>
      ((u.canAt c).q k).get = g % 256 ∧ ((u.canAt c).q k).put = ((b.canAt c).q k).put ∧
      (u.canAt c).evt = (b.canAt c).evt ∧ ∀ k, k ≠ c → u.canAt k = b.canAt k := by
  refine ⟨writeRxGet b c k g, ?_, ?_⟩
  · change execCanRxqGetWrite t a c k g s = _
    unfold execCanRxqGetWrite
    rw [hb]
    dsimp only
    rw [if_pos (by simp [hruns, hk]), canOwned_held hc hheld]
  · obtain ⟨hsame, hother⟩ := writeRxGet_moves hlen hg
    have hevt : ((b.canAt c).modQ k fun q => { q with get := g % 256 }).evt = (b.canAt c).evt := by
      unfold Can.modQ
      split <;> rfl
    rw [hsame, modQ_q _ hk, hevt]
    exact ⟨rfl, rfl, rfl, hother⟩

section
variable {v : BitVec 32}

theorem exec_canCtrlWrite : exec (.canCtrlWrite t a c v) s = .next (writeCtrl b c v) := by
  change execCanCtrlWrite t a c v s = _
  unfold execCanCtrlWrite
  rw [hb]
  dsimp only
  rw [if_pos hruns, canOwned_held hc hheld]

theorem canCtrlWrite_enters (hv : v.getLsbD 0 = true) : Does (.canCtrlWrite t a c v) s fun u => (u.canAt c).init = true ∧
    (u.canAt c).state = 3 ∧ (u.canAt c).txGet = (b.canAt c).txPut ∧ (u.canAt c).q0.get = (b.canAt c).q0.put ∧
    (u.canAt c).q1.get = (b.canAt c).q1.put ∧ ∀ k, k ≠ c → u.canAt k = b.canAt k := by
  refine ⟨_, exec_canCtrlWrite hb hlen hc hruns hheld, ?_⟩
  rw [writeCtrl_taken (Or.inl hv)]
  obtain ⟨hsame, hother⟩ := CanMoved.of_net (f := ctrlTaken v) hlen rfl
  rw [hsame, ctrlTaken]
  simp only [hv, if_true]
  exact ⟨rfl, rfl, rfl, rfl, rfl, hother⟩

theorem canCtrlWrite_leaves (hv : v.getLsbD 0 = false) (hinit : (b.canAt c).init = true)
    (htiming : timingOk (b.canAt c).nbt.toNat (b.canAt c).dbt.toNat (v.getLsbD 2) = true) :
    Does (.canCtrlWrite t a c v) s fun u => (u.canAt c).init = false ∧ (u.canAt c).state = 0 ∧
      (u.canAt c).fd = v.getLsbD 1 ∧ (u.canAt c).listen = v.getLsbD 4 ∧ (u.canAt c).loop = v.getLsbD 5 ∧
      ∀ k, k ≠ c → u.canAt k = b.canAt k := by
  refine ⟨_, exec_canCtrlWrite hb hlen hc hruns hheld, ?_⟩
  rw [writeCtrl_taken (Or.inr htiming)]
  obtain ⟨hsame, hother⟩ := CanMoved.of_net (f := ctrlTaken v) hlen rfl
  rw [hsame, ctrlTaken]
  simp only [hv, leaveInit, hinit, Bool.false_eq_true, if_false, if_true]
  exact ⟨trivial, trivial, trivial, trivial, trivial, hother⟩

end

end

end

theorem fitTo_rests (c : Nat) : Rests fun s => fitTo 24 (s.canAt c).cfg := .of_settled fun _ _ _ => rfl

/-- Settles O41: the commands, the frames and the registers each by the law of its own. -/
theorem canFd : Obligations.CanFd :=
  ⟨fun _ _ _ h hr hl hidx _ hlen hdel hok => canSetConfig_sets h hr hl hidx hlen hdel hok,
    fun _ _ h hr hl hidx hz hd hfree => canGetI_answers h hr 0x0F02 fitTo_rests (n := 24)
      (fun _ => fitTo_length 24 _) (by decide) hl hidx hz hd hfree,
    fun _ _ h hr hl hidx hz hd hfree => canGetI_answers h hr 0x0F06 (fun _ => .of_settled fun _ _ _ => rfl)
      (n := 30) (canStatusBytes_length _) (by decide) hl hidx hz hd hfree,
    fun _ _ _ _ _ h hr hm hl hdesc hz hlen hlo hhi hd hc hbuf hdel hinit =>
      canSetFilter_writes h hr hm hl hdesc hz hlen hlo hhi hd hc hbuf hdel hinit,
    fun _ _ _ h hr hm hl hidx hc hlen hz1 hz2 hz10 hdel hroom =>
      canSend_queues h hr hm hl hidx hc hlen hz1 hz2 hz10 hdel hroom,
    fun _ _ _ _ _ h hr hm hq hl hidx hi hlen hz hdesc hd hdel hn hput hget =>
      canRead_takes h hr hm hq hl hidx hi hlen hz hdesc hd hdel hn hput hget,
    fun _ _ h hr happ hl hset hgive hlen hinit => canDelegate_gives h hr happ hl hset hgive hlen hinit,
    fun _ _ _ _ _ _ _ hlen hm hbus hloop hfd hrem hfate hk hroom =>
      canFrameReceived_stands rfl hlen hbus hloop hfd hrem hfate hk hm hroom,
    fun _ _ _ _ _ _ _ hlen hbus hloop hfd hrem hfate hk hfull =>
      canFrameReceived_lost rfl hlen hbus hloop hfd hrem hfate hk hfull,
    fun _ _ _ _ hfate => canFrameReceived_rejected rfl hfate,
    fun _ _ _ _ hlen hbus hlisten hqueue hloop => canTxComplete_sent rfl hlen hbus hlisten hqueue hloop,
    fun _ _ _ _ hlen hbus hlisten hqueue hcancel => canTxComplete_cancelled rfl hlen hbus hlisten hqueue hcancel,
    fun _ _ _ _ hlen hbus hlisten hqueue hlim => txHol_notes rfl hlen hbus hlisten hqueue hlim,
    fun _ _ _ _ hlen hbus hloop => busOff_leaves rfl hlen hbus hloop,
    fun _ _ _ hc hlen hruns hstate habo => busOffRecovery_joins rfl hlen hc hruns hstate habo,
    fun _ _ _ _ _ hc hlen hruns hheld hp => canTxqPutWrite_moves rfl hlen hc hruns hheld hp,
    fun _ _ _ p hc hlen hruns hheld => canTxqPutWrite_refused rfl hlen hc hruns hheld p,
    fun _ _ _ _ hc hlen hruns hheld hqueue => canCancel_marks rfl hlen hc hruns hheld hqueue,
    fun _ _ _ _ _ _ hc hlen hruns hheld hk hg => canRxqGetWrite_moves rfl hlen hc hruns hheld hk hg,
    fun _ _ _ _ _ hc hlen hruns hheld hv => canCtrlWrite_enters rfl hlen hc hruns hheld hv,
    fun _ _ _ _ _ hc hlen hruns hheld hv hinit htiming => canCtrlWrite_leaves rfl hlen hc hruns hheld hv hinit htiming⟩

end Sys2Proof.Machine
end

section
/-! SUPPORT. A unit in HOLD-UP that it entered from DORMANT: it sleeps on, although its state is no longer DORMANT
(02_power_states_clocks.md R40, R44; 18_faults_peat_log.md R502, R505). -/

namespace Sys2Proof.Machine

-- One proof at a time: together their threads exceed the memory of the check.
set_option Elab.async false

/-- An ACTIVE unit that was in DORMANT when its supply failed. -/
def sleepingHoldUp : State := { servingUnit with pwr := { servingUnit.pwr with state := .holdup, prev := .dormant } }

/-- A record of warning level. -/
def warningRecord : PeatIn := { code := 0x21, source := 0, level := 1, p0 := 0, p1 := 0, p2 := 0 }

/-- Refutes O45: its clause on a written record excludes DORMANT only; in HOLD-UP entered from DORMANT the record goes to the
buffer of 64 as well, and the log stays empty. -/
theorem not_peatLog : ¬ Obligations.PeatLog := by
  unfold Obligations.PeatLog
  rintro ⟨written, -⟩
  obtain ⟨u, hu, hlog, -⟩ := written 0 sleepingHoldUp warningRecord (by decide +kernel) (by decide +kernel) (by decide +kernel)
    (by decide) (by decide +kernel)
  cases hu
  exact absurd (congrArg List.length hlog) (by decide +kernel)

/-- Refutes O44: its clause on a background pass excludes DORMANT only; in HOLD-UP entered from DORMANT no pass runs, and the
time of the last one stays as it was. -/
theorem not_faultsAndTests : ¬ Obligations.FaultsAndTests := by
  unfold Obligations.FaultsAndTests
  rintro ⟨-, -, -, -, -, -, -, -, -, -, pass, -⟩
  obtain ⟨u, hu, hnoted, -⟩ := pass 5 sleepingHoldUp .scrubSup (by decide +kernel) (by decide +kernel)
  cases hu
  exact absurd hnoted (by decide +kernel)

end Sys2Proof.Machine
end

section
/-! SUPPORT. The TSU: triggers, captures, PTP ports and the TIM commands (14_time.md R412 to R427). -/

namespace Sys2Proof.Machine

-- One proof at a time: together their threads exceed the memory of the check.
set_option Elab.async false

/-! ## One trigger, one capture, one port -/

/-- What a step does with trigger `n`, and that it leaves the others. -/
abbrev TrigMoved (x y : Tsu) (n : Nat) (f : Trigger → Trigger) : Prop := y.trigAt n = f (x.trigAt n) ∧ ∀ k, k ≠ n → y.trigAt k = x.trigAt k

/-- What a step does with capture `n`, and that it leaves the others. -/
abbrev CapMoved (x y : Tsu) (n : Nat) (f : Capture → Capture) : Prop := y.capAt n = f (x.capAt n) ∧ ∀ k, k ≠ n → y.capAt k = x.capAt k

theorem TrigMoved.of_modify {x y : Tsu} {n : Nat} {f : Trigger → Trigger} (hn : n < x.trig.length) (h : y.trig = x.trig.modify n f) :
    TrigMoved x y n f := by
  unfold TrigMoved Tsu.trigAt
  rw [h]
  exact ⟨getD_modify_same _ _ _ _ hn, fun k hk => getD_modify_ne _ _ _ hk⟩

theorem TrigMoved.trans {x y z : Tsu} {n : Nat} {f g : Trigger → Trigger} (h : TrigMoved x y n f) (hz : TrigMoved y z n g) :
    TrigMoved x z n (g ∘ f) :=
  ⟨by rw [hz.1, h.1]; rfl, fun k hk => (hz.2 k hk).trans (h.2 k hk)⟩

theorem CapMoved.of_modify {x y : Tsu} {n : Nat} {f : Capture → Capture} (hn : n < x.cap.length) (h : y.cap = x.cap.modify n f) :
    CapMoved x y n f := by
  unfold CapMoved Tsu.capAt
  rw [h]
  exact ⟨getD_modify_same _ _ _ _ hn, fun k hk => getD_modify_ne _ _ _ hk⟩

theorem portAt_modPtp_same {s : State} {p : Nat} (h : p < s.tsu.ports.length) (f : PtpPort → PtpPort) :
    (modPtp s p f).tsu.portAt p = f (s.tsu.portAt p) := getD_modify_same _ _ _ _ h

theorem portAt_modPtp_ne (s : State) {p k : Nat} (h : k ≠ p) (f : PtpPort → PtpPort) :
    (modPtp s p f).tsu.portAt k = s.tsu.portAt k := getD_modify_ne _ _ _ h

theorem ok_tsu (s : State) (op : Nat) (q : Req) (p : Bytes) : (ok s op q p).tsu = s.tsu := by simp [ok]

theorem ok_str (s : State) (op : Nat) (q : Req) (p : Bytes) : (ok s op q p).str = s.str := by simp [ok]

theorem ok_clk (s : State) (op : Nat) (q : Req) (p : Bytes) : (ok s op q p).clk = s.clk := by simp [ok]

/-! ## Sources and steps -/

/-- What taking or losing a source leaves. -/
def Tsu.apart (x : Tsu) : Nat × List Trigger × List PtpPort × Bytes × Nat := (x.now, x.trig, x.ports, x.cfg, x.ppsDiscards)

theorem setSourceFrom_apart (was s : State) (new : Option TimeSource) : (setSourceFrom was s new).tsu.apart = s.tsu.apart := by
  unfold setSourceFrom State.setTsu
  dsimp only
  (repeat' split) <;> rfl

/-- Taking or losing a source moves neither the time, nor triggers, captures and ports. -/
theorem setSourceFrom_tsu (was s : State) (new : Option TimeSource) : (setSourceFrom was s new).tsu.now = s.tsu.now ∧
    (setSourceFrom was s new).tsu.trig = s.tsu.trig ∧ (setSourceFrom was s new).tsu.ports = s.tsu.ports ∧
    (setSourceFrom was s new).tsu.cfg = s.tsu.cfg ∧ (setSourceFrom was s new).tsu.ppsDiscards = s.tsu.ppsDiscards := by
  have hapart := setSourceFrom_apart was s new
  simp only [Tsu.apart, Prod.mk.injEq] at hapart
  exact hapart

/-- Without a source, a new one puts the TSU into LOCKING. -/
theorem setSourceFrom_takes {s : State} (was : State) (h : s.tsu.src = none) (x : TimeSource) :
    setSourceFrom was s (some x) = s.setTsu fun y => toLocking { y with src := some x } := by
  unfold setSourceFrom
  rw [h]
  rfl

/-- A LOCKED TSU that loses its source holds over from now on. -/
theorem setSourceFrom_loses {s : State} (was : State) {x : TimeSource} (h : s.tsu.src = some x) (hsync : s.tsu.sync = .locked) :
    setSourceFrom was s none = s.setTsu fun y =>
      { y with src := none, sync := .holdover, holdT := s.clk, errEst := 0, slew := 0, converging := false } := by
  unfold setSourceFrom
  rw [h, if_neg (by simp)]
  simp only [State.setTsu, hsync]

/-- Firing and realigning triggers moves neither the time, its counters nor the source. -/
abbrev TimeKept (s u : State) : Prop := u.tsu.now = s.tsu.now ∧ u.tsu.frac = s.tsu.frac ∧ u.tsu.stepCnt = s.tsu.stepCnt ∧
  u.tsu.stepped = s.tsu.stepped ∧ u.tsu.sync = s.tsu.sync ∧ u.tsu.src = s.tsu.src ∧ u.tsu.inLimit = s.tsu.inLimit ∧
  u.clk = s.clk ∧ u.str = s.str

theorem fire_time (s : State) (n : Nat) (late : Bool) : TimeKept s (fire s n late) := by
  unfold TimeKept fire modTrig State.setTsu
  dsimp only
  split <;> simp

theorem stepTrigger_time (s : State) (n : Nat) : TimeKept s (stepTrigger s n) := by
  unfold stepTrigger
  dsimp only
  (repeat' split)
  · exact ⟨rfl, rfl, rfl, rfl, rfl, rfl, rfl, rfl, rfl⟩
  · exact fire_time s n true
  · exact ⟨rfl, rfl, rfl, rfl, rfl, rfl, rfl, rfl, rfl⟩
  · exact ⟨rfl, rfl, rfl, rfl, rfl, rfl, rfl, rfl, rfl⟩

theorem stepTriggers_time (l : List Nat) (s : State) : TimeKept s (l.foldl stepTrigger s) := by
  induction l generalizing s with
  | nil => exact ⟨rfl, rfl, rfl, rfl, rfl, rfl, rfl, rfl, rfl⟩
  | cons n l ih =>
    have h := stepTrigger_time s n
    have ih := ih (stepTrigger s n)
    simp only [TimeKept, h] at ih
    exact ih

/-- A step of the time: the new time, counted, and nothing of the clock, the strings and the source. -/
theorem stepTime_steps (s : State) (new : Nat) : (stepTime s new).tsu.now = new ∧ (stepTime s new).tsu.frac = 0 ∧
    (stepTime s new).tsu.stepCnt = (s.tsu.stepCnt + 1) % 65536 ∧ (stepTime s new).tsu.stepped = true ∧
    (stepTime s new).tsu.sync = s.tsu.sync ∧ (stepTime s new).tsu.src = s.tsu.src ∧
    (stepTime s new).tsu.inLimit = s.tsu.inLimit ∧ (stepTime s new).clk = s.clk ∧ (stepTime s new).str = s.str := by
  simp only [stepTime, State.setDsp, stepTriggers_time]
  simp [State.setTsu]

/-! ## The commands -/

theorem armTrigger_ahead {s : State} {n : Nat} (h : s.tsu.now < (s.tsu.trigAt n).at_) :
    armTrigger s n = modTrig s n fun x => { x with arm := true, count := 0 } := if_pos h

/-- Trigger `x` as TIM_SET_TRIGGER programs it before its control is written. -/
def programmed (p : Bytes) (x : Trigger) : Trigger :=
  { x with arm := false, at_ := instantAt p 4, frac := getU p 16 2, period := getU p 20 8 }

/-- Trigger `x` after a write of its control that does not arm it. -/
def trigCtrl (n : Nat) (v : BitVec 32) (fired : Bool) (x : Trigger) : Trigger :=
  { x with icu := v.getLsbD 2, le := if n < 8 then true else v.getLsbD 3
           late := if v.getLsbD 1 && !fired then false else x.late
           arm := x.arm && v.getLsbD 0 }

/-- A one-shot that fired in this cycle. -/
def firedNow (s : State) (x : Trigger) : Bool :=
  match x.firedT with | none => false | some t => sameCycle t s.clk && x.period == 0

theorem writeTrigCtrl_idle {s : State} {n : Nat} {v : BitVec 32} (h : v.getLsbD 0 = false) :
    writeTrigCtrl s n v = modTrig s n (trigCtrl n v (firedNow s (s.tsu.trigAt n))) :=
  if_neg (by rw [h]; simp)

theorem writeTrigCtrl_arms {s : State} {n : Nat} {v : BitVec 32} (hn : n < s.tsu.trig.length) (h : v.getLsbD 0 = true)
    (harm : (s.tsu.trigAt n).arm = false) (hfired : firedNow s (s.tsu.trigAt n) = false)
    (hat : s.tsu.now < (s.tsu.trigAt n).at_) :
    TrigMoved s.tsu (writeTrigCtrl s n v).tsu n fun x => { trigCtrl n v false x with arm := true, count := 0 } := by
  have hctl : TrigMoved s.tsu (modTrig s n (trigCtrl n v false)).tsu n (trigCtrl n v false) := .of_modify hn rfl
  have hwrite : writeTrigCtrl s n v = armTrigger (modTrig s n (trigCtrl n v (firedNow s (s.tsu.trigAt n)))) n :=
    if_pos (show (_ && _ && !firedNow s (s.tsu.trigAt n)) = true by rw [h, harm, hfired]; rfl)
  rw [hwrite, hfired, armTrigger_ahead (by rw [hctl.1]; exact hat)]
  exact hctl.trans (.of_modify (f := fun x => { x with arm := true, count := 0 }) (by simpa [modTrig, State.setTsu] using hn) rfl)

/-- Capture `c` after a write `v` of its control. -/
def capCtrl (s : State) (n v : Nat) (c : Capture) : Capture :=
  { c with en := v.testBit 0, edge := v / 2 % 4, src := if n < 2 then none else some (v / 8 % 32), icu := v.testBit 10
           ovf := c.ovf && (!v.testBit 9 || overflowNow s c), filt := v / 65536 % 65536
           count := if v.testBit 0 && !c.en then 0 else c.count }

theorem writeCapCtrl_moves (s : State) {n : Nat} (hn : n < s.tsu.cap.length) (v : Nat) :
    CapMoved s.tsu (writeCapCtrl s n v).tsu n fun c =>
      capCtrl s n v (if v.testBit 8 then { c with fifo := c.fifo.drop 1 } else c) := by
  unfold writeCapCtrl
  cases h8 : v.testBit 8 with
  | false => exact .of_modify (f := capCtrl s n v) hn rfl
  | true =>
    have hpop : CapMoved s.tsu (popCap s n).tsu n fun c => { c with fifo := c.fifo.drop 1 } := .of_modify hn rfl
    have hctl : CapMoved (popCap s n).tsu (modCap (popCap s n) n (capCtrl s n v)).tsu n (capCtrl s n v) :=
      .of_modify (by simpa [popCap, modCap, State.setTsu] using hn) rfl
    exact ⟨hctl.1.trans (congrArg _ hpop.1), fun k hk => (hctl.2 k hk).trans (hpop.2 k hk)⟩

theorem storeTim_stores (s : State) (p : Bytes) : (storeTim s p).tsu.cfg = p ∧ (storeTim s p).tsu.now = s.tsu.now ∧
    (storeTim s p).tsu.trig = s.tsu.trig ∧ (storeTim s p).str = s.str := by
  unfold storeTim reselectFrom
  dsimp only
  generalize hw : s.setTsu _ = w
  obtain ⟨hnow, htrig, -, hcfg, -⟩ := setSourceFrom_tsu s w (chooseSource w)
  rw [hcfg, hnow, htrig, show (setSourceFrom s w (chooseSource w)).str = w.str by simp, ← hw]
  exact ⟨rfl, rfl, rfl, rfl⟩

section
variable {s : State} {q : Req} (h : Taken s q)
include h

theorem timSetConfig_stores (hr : s.unit.isRole = true ∨ s.unit = .safeHold ∨ s.unit = .recovery) (hl : q.payload.length = 32)
    (hb : badField timFields q.payload = none) : Does (.timSetConfig q) s fun u => Answered u q 0x0D03 stOk 0 [] ∧
      u.tsu.cfg = q.payload ∧ u.tsu.now = s.tsu.now ∧ u.tsu.trig = s.tsu.trig ∧ u.str = s.str := by
  have ⟨_, _, henv⟩ := h
  refine ⟨ok (storeTim (touch s) q.payload) 0x0D03 q [], ?_, ok_answered .., ?_⟩
  · change execTimSetConfig q s = _
    unfold execTimSetConfig
    rw [command_run _ _ q s h, noteDesc_none _ _ _ rfl]
    exact rejection_passes (if_pos hl) (rolesOk_window hr rfl rfl rfl) henv hb rfl rfl rfl rfl rfl
  · rw [ok_tsu, ok_str]
    exact storeTim_stores ..

theorem timSetTime_steps (hr : s.unit.isRole = true ∨ s.unit = .safeHold) (hl : q.payload.length = 12)
    (hsync : s.tsu.sync = .freerun) (hsrc : getU (timCfg s) 2 1 = 0) (hstr : stepConflict s = none)
    (hns : getU q.payload 8 4 < nsS) : Does (.timSetTime q) s fun u => Answered u q 0x0D05 stOk 0 [] ∧
      u.tsu.now = getU q.payload 0 8 * nsS + getU q.payload 8 4 ∧ u.tsu.frac = 0 ∧
      u.tsu.stepCnt = (s.tsu.stepCnt + 1) % 65536 ∧ u.tsu.stepped = true ∧ u.clk = s.clk ∧ u.str = s.str := by
  have ⟨_, _, henv⟩ := h
  refine ⟨ok (stepTime (touch s) (instantAt q.payload 0)) 0x0D05 q [], ?_, ok_answered .., ?_⟩
  · change execTimSetTime q s = _
    unfold execTimSetTime
    rw [command_run _ _ q s h, noteDesc_none _ _ _ rfl]
    refine rejection_passes (if_pos hl) (rolesOk_net hr rfl rfl) henv (if_pos (by simpa using hns)) rfl rfl ?_ rfl rfl
    dsimp only
    rw [if_neg (by simp [hsync, hsrc]), hstr]
  · rw [ok_tsu, ok_str, ok_clk]
    simp only [stepTime_steps]
    exact ⟨rfl, trivial, rfl, trivial, rfl, rfl⟩

theorem timSetTrigger_arms {n : Nat} (hr : AnyRole s) (hl : q.payload.length = 28) (hidx : getU q.payload 0 1 = n) (hlo : 8 ≤ n)
    (hhi : n < 16) (hn : n < s.tsu.trig.length) (hctl : getU q.payload 1 1 < 16) (harm : (getU q.payload 1 1).testBit 0 = true)
    (hz2 : getU q.payload 2 2 = 0) (hns : getU q.payload 12 4 < nsS) (hz18 : getU q.payload 18 2 = 0)
    (hper : getU q.payload 20 8 < 2 ^ 40) (hown : s.tsu.own.getLsbD n = false)
    (hat : s.tsu.now < getU q.payload 4 8 * nsS + getU q.payload 12 4)
    (hfired : (s.tsu.trigAt n).firedT = none ∨ getU q.payload 20 8 ≠ 0) : Does (.timSetTrigger q) s fun u =>
      Answered u q 0x0D06 stOk 0 [] ∧ (u.tsu.trigAt n).arm = true ∧
      (u.tsu.trigAt n).at_ = getU q.payload 4 8 * nsS + getU q.payload 12 4 ∧ (u.tsu.trigAt n).frac = getU q.payload 16 2 ∧
      (u.tsu.trigAt n).period = getU q.payload 20 8 ∧ (u.tsu.trigAt n).count = 0 ∧
      (u.tsu.trigAt n).icu = (getU q.payload 1 1).testBit 2 ∧ (u.tsu.trigAt n).le = (getU q.payload 1 1).testBit 3 ∧
      ∀ k, k ≠ n → u.tsu.trigAt k = s.tsu.trigAt k := by
  have ⟨_, _, henv⟩ := h
  have huser : userTrigger q.payload = none := if_pos (by simp [hidx, hlo, hhi])
  refine ⟨ok (writeTrigCtrl (modTrig (touch s) n (programmed q.payload)) n (BitVec.ofNat 32 (getU q.payload 1 1))) 0x0D06 q [], ?_,
    ok_answered .., ?_⟩
  · subst hidx
    change execTimSetTrigger q s = _
    unfold execTimSetTrigger
    rw [command_run _ _ q s h, noteDesc_none _ _ _ rfl]
    · rfl
    · refine rejection_passes (if_pos hl) (anyRole_rolesOk _ s hr rfl) henv ?_ rfl rfl ?_ rfl rfl
      · simp only [firstBad, huser, must, zeroAt, hctl, hz2, hns, hz18, hper, decide_true, beq_self_eq_true, if_true]
      · simp [huser, notDelegated, hown]
  · have hset : TrigMoved s.tsu (modTrig (touch s) n (programmed q.payload)).tsu n (programmed q.payload) := .of_modify hn rfl
    have hbit (k : Nat) (hk : k < 32) : (BitVec.ofNat 32 (getU q.payload 1 1)).getLsbD k = (getU q.payload 1 1).testBit k := by
      rw [BitVec.getLsbD_ofNat]
      simp [hk]
    have hnot : firedNow (touch s) (programmed q.payload (s.tsu.trigAt n)) = false := by
      unfold firedNow
      split
      · rfl
      · rcases hfired with hf | hf
        · simp_all [programmed]
        · simp [programmed, hf]
    have harms := writeTrigCtrl_arms (s := modTrig (touch s) n (programmed q.payload)) (v := BitVec.ofNat 32 (getU q.payload 1 1))
      (by simpa [modTrig, State.setTsu] using hn) (by rw [hbit 0 (by omega), harm]) (by rw [hset.1]; rfl)
      (by rw [hset.1]; exact hnot) (by rw [hset.1]; exact hat)
    obtain ⟨hsame, hother⟩ := hset.trans harms
    rw [ok_tsu, hsame]
    refine ⟨rfl, rfl, rfl, rfl, rfl, hbit 2 (by omega), ?_, hother⟩
    exact (if_neg (Nat.not_lt.mpr hlo)).trans (hbit 3 (by omega))

theorem timGetTrigger_answers {n : Nat} (hr : s.unit.isRole = true ∨ s.unit = .safeHold) (hl : q.payload.length = 1)
    (hidx : getU q.payload 0 1 = n) (hlo : 8 ≤ n) (hhi : n < 16) : Does (.timGetTrigger q) s fun u =>
      Answered u q 0x0D07 stOk 0 (trigBytes s n) ∧ HostOnly s u := by
  have ⟨_, _, henv⟩ := h
  refine ⟨ok (touch s) 0x0D07 q (trigBytes s n), ?_, ok_answered .., finish1_hostOnly ..⟩
  subst hidx
  change execTimGetTrigger q s = _
  unfold execTimGetTrigger
  rw [command_run _ _ q s h, noteDesc_none _ _ _ rfl]
  · rfl
  · exact rejection_passes (if_pos hl) (rolesOk_net hr rfl rfl) henv (if_pos (by simp [hlo, hhi])) rfl rfl rfl rfl rfl

theorem timSetCapture_programs {n : Nat} (hr : AnyRole s) (hl : q.payload.length = 8) (hidx : getU q.payload 0 1 = n) (hlo : 2 ≤ n)
    (hhi : n < 16) (hn : n < s.tsu.cap.length) (hown : s.tsu.own.getLsbD (16 + n) = false) (hz1 : getU q.payload 1 1 = 0)
    (hz2 : getU q.payload 2 2 = 0) (hedge : getU q.payload 4 4 / 2 % 4 ≠ 0) (hsrc : getU q.payload 4 4 / 8 % 32 ≤ 29)
    (h14 : (getU q.payload 4 4).testBit 14 = false) (h15 : (getU q.payload 4 4).testBit 15 = false) :
    Does (.timSetCapture q) s fun u => Answered u q 0x0D08 stOk 0 [] ∧
      (u.tsu.capAt n).en = (getU q.payload 4 4).testBit 0 ∧ (u.tsu.capAt n).edge = getU q.payload 4 4 / 2 % 4 ∧
      (u.tsu.capAt n).src = some (getU q.payload 4 4 / 8 % 32) ∧ (u.tsu.capAt n).icu = (getU q.payload 4 4).testBit 10 ∧
      (u.tsu.capAt n).filt = getU q.payload 4 4 / 65536 % 65536 ∧ ∀ k, k ≠ n → u.tsu.capAt k = s.tsu.capAt k := by
  have ⟨_, _, henv⟩ := h
  refine ⟨ok (writeCapCtrl (touch s) n (getU q.payload 4 4)) 0x0D08 q [], ?_, ok_answered .., ?_⟩
  · subst hidx
    change execTimSetCapture q s = _
    unfold execTimSetCapture
    rw [command_run _ _ q s h, noteDesc_none _ _ _ rfl]
    refine rejection_passes (if_pos hl) (anyRole_rolesOk _ s hr rfl) henv ?_ rfl rfl ?_ rfl rfl
    · simp [firstBad, must, zeroAt, hlo, hhi, hz1, hz2, hedge, hsrc, h14, h15]
    · simp [must, hlo, hhi, notDelegated, hown]
  · obtain ⟨hsame, hother⟩ := writeCapCtrl_moves (touch s) hn (getU q.payload 4 4)
    rw [ok_tsu, hsame]
    exact ⟨rfl, rfl, if_neg (Nat.not_lt.mpr hlo), rfl, rfl, hother⟩

theorem timReadCapture_takes {n k : Nat} (hr : s.unit.isRole = true ∨ s.unit = .safeHold) (hl : q.payload.length = 2)
    (hidx : getU q.payload 0 1 = n) (hcount : getU q.payload 1 1 = k) (hhi : n < 16) (hn : n < s.tsu.cap.length) (hlo : 1 ≤ k)
    (hk : k ≤ 4) (hown : s.tsu.own.getLsbD (16 + n) = false) : Does (.timReadCapture q) s fun u =>
      Answered u q 0x0D09 stOk 0 (((s.tsu.capAt n).fifo.take k).flatMap capBytes) ∧
      (u.tsu.capAt n).fifo = (s.tsu.capAt n).fifo.drop k ∧ ∀ k, k ≠ n → u.tsu.capAt k = s.tsu.capAt k := by
  have ⟨_, _, henv⟩ := h
  refine ⟨ok (modCap (touch s) n fun c => { c with fifo := c.fifo.drop k }) 0x0D09 q
    (((s.tsu.capAt n).fifo.take k).flatMap capBytes), ?_, ok_answered .., ?_⟩
  · subst hidx hcount
    change execTimReadCapture q s = _
    unfold execTimReadCapture
    rw [command_run _ _ q s h, noteDesc_none _ _ _ rfl]
    · rfl
    · refine rejection_passes (if_pos hl) (rolesOk_net hr rfl rfl) henv ?_ rfl rfl ?_ rfl rfl
      · simp [firstBad, must, hhi, hlo, hk]
      · simp [must, hhi, notDelegated, hown]
  · rw [ok_tsu]
    obtain ⟨hsame, hother⟩ := CapMoved.of_modify (y := (modCap (touch s) n fun c => { c with fifo := c.fifo.drop k }).tsu)
      (f := fun c => { c with fifo := c.fifo.drop k }) hn rfl
    rw [hsame]
    exact ⟨rfl, hother⟩

theorem timDelegate_delegates (hr : AnyRole s) (happ : q.port ≠ .app) (hl : q.payload.length = 5)
    (htrig : getU q.payload 0 2 % 256 = 0) (hcap : getU q.payload 2 2 % 4 = 0) (hgive : getU q.payload 4 1 ≤ 1)
    (hbusy : busyResource s (delegMask q.payload) = none) : Does (.timDelegate q) s fun u => Answered u q 0x0D0A stOk 0 [] ∧
      u.tsu = { s.tsu with own := if getU q.payload 4 1 = 1 then s.tsu.own ||| delegMask q.payload
                                  else s.tsu.own &&& ~~~ delegMask q.payload } := by
  have ⟨_, _, henv⟩ := h
  change ∃ u, execTimDelegate q s = _ ∧ _
  unfold execTimDelegate
  refine ⟨_, command_run _ _ q s h ?_, ok_answered .., ?_⟩
  · refine rejection_passes (if_pos hl) (anyRole_rolesOk _ s hr rfl) henv ?_ ?_ rfl ?_ rfl rfl
    · simp [firstBad, must, htrig, hcap, hgive]
    · simpa using happ
    · simp [hbusy]
  · rw [noteDesc_none _ _ _ rfl, ok_tsu]
    have hfold (give : Bool) (l : List Nat) : ∀ v : State, (l.foldl (fun v b =>
        if (delegMask q.payload).getLsbD b then retarget v (32 + b) (if give then .app else .sup) else v) v).tsu = v.tsu := by
      induction l with
      | nil => exact fun _ => rfl
      | cons b l ih =>
        intro v
        rw [List.foldl_cons, ih]
        split <;> simp
    rw [hfold]
    simp [State.setTsu]

end

/-- Settles O35: each command passes its checks and does its clause. -/
theorem timeCommands : Obligations.TimeCommands :=
  ⟨fun _ _ h => timSetConfig_stores h, fun _ _ h => timSetTime_steps h, fun _ _ _ h => timSetTrigger_arms h,
    fun _ _ _ h => timGetTrigger_answers h, fun _ _ _ h => timSetCapture_programs h, fun _ _ _ _ h => timReadCapture_takes h,
    fun _ _ h => timDelegate_delegates h⟩

end Sys2Proof.Machine
end

section
/-! SUPPORT. The events of the TSU: triggers, edges, register writes, PTP messages and the servo (14_time.md R412 to R425). -/

namespace Sys2Proof.Machine

-- One proof at a time: together their threads exceed the memory of the check.
set_option Elab.async false

/-! ## Triggers and captures -/

/-- Trigger `x` after it fired at `clk`. -/
def firedAt (clk : Nat) (late : Bool) (x : Trigger) : Trigger :=
  { x with count := (x.count + 1) % 2 ^ 32, firedT := some clk, late := x.late || late
           arm := decide (x.period ≠ 0), at_ := x.at_ + x.period }

theorem fire_tsu (s : State) (n : Nat) (late : Bool) : (fire s n late).tsu = { (modTrig s n (firedAt s.clk late)).tsu with
    evt := s.tsu.evt ||| BitVec.twoPow 32 n, ppsOuts := if n = 4 then s.tsu.ppsOuts + 1 else s.tsu.ppsOuts } := by
  unfold fire
  dsimp only
  split
  · exact (icuShared_keeps _ _).2.2.2.2.2.2.2.2.2.2.2.2.2.2.2.2.2.2.2.2.2.2.1
  · rfl

theorem icuShared_if (c : Bool) (s : State) (n : Nat) :
    (if c then icuShared s n else s).tsu = s.tsu ∧ (if c then icuShared s n else s).str = s.str := by
  cases c <;> simp

/-- The registers of capture `c` after an edge that it counts; `full` is a full FIFO. -/
def edgeTaken (s : State) (frac : Nat) (full : Bool) (c : Capture) : Capture :=
  { c with fifo := if full then c.fifo else c.fifo ++ [{ time := s.tsu.now, frac := frac % 65536, steps := s.tsu.stepCnt % 65536 }]
           ovf := c.ovf || full, ovfT := if full then some s.clk else c.ovfT, count := (c.count + 1) % 2 ^ 32 }

/-- The TSU with such an edge at capture `n`. -/
def edgeSeen (s : State) (n frac : Nat) (full : Bool) : State :=
  let u := modCap s n (edgeTaken s frac full)
  if full then u else u.setTsu fun x => { x with evt := x.evt ||| BitVec.twoPow 32 (16 + n) }

theorem edgeSeen_str (s : State) (n frac : Nat) (full : Bool) : (edgeSeen s n frac full).str = s.str := by
  cases full <;> rfl

section
variable {t : Nat} {s b : State} (hb : s.advance t = b)
include hb

theorem triggerFire_fires {n : Nat} (hn : n < 16) (hlen : n < b.tsu.trig.length) (hrun : tsuRuns b = true)
    (harm : (b.tsu.trigAt n).arm = true) (hat : (b.tsu.trigAt n).at_ ≤ b.tsu.now) : Does (.triggerFire t n) s fun u =>
      (u.tsu.trigAt n).arm = decide ((b.tsu.trigAt n).period ≠ 0) ∧
      (u.tsu.trigAt n).at_ = (b.tsu.trigAt n).at_ + (b.tsu.trigAt n).period ∧
      (u.tsu.trigAt n).count = ((b.tsu.trigAt n).count + 1) % 2 ^ 32 ∧ (u.tsu.trigAt n).late = (b.tsu.trigAt n).late ∧
      u.tsu.evt = b.tsu.evt ||| BitVec.twoPow 32 n ∧
      u.tsu.ppsOuts = (if n = 4 then b.tsu.ppsOuts + 1 else b.tsu.ppsOuts) ∧ u.str = b.str ∧
      ∀ k, k ≠ n → u.tsu.trigAt k = b.tsu.trigAt k := by
  refine ⟨fire b n false, ?_, ?_⟩
  · change execTriggerFire t n s = _
    unfold execTriggerFire
    rw [hb]
    dsimp only
    rw [if_pos (by simp [hn, hrun, harm, hat])]
  · obtain ⟨hsame, hother⟩ := TrigMoved.of_modify (y := (fire b n false).tsu) (f := firedAt b.clk false) hlen (by rw [fire_tsu]; rfl)
    rw [hsame, fire_tsu]
    exact ⟨rfl, rfl, rfl, Bool.or_false _, rfl, rfl, (fire_time b n false).2.2.2.2.2.2.2.2, by rwa [fire_tsu] at hother⟩

/-- An edge that capture `n`, not the string clock's, counts. -/
theorem captureEdge_counts {n f l : Nat} {r : Bool} (hn : n < 16) (h1 : n ≠ 1) (hlen : n < b.tsu.cap.length)
    (hrun : tsuRuns b = true) (hcounts : edgeCounts b n r l = true) : Does (.captureEdge t n r f l) s fun u =>
      CapMoved b.tsu u.tsu n (edgeTaken b f (decide (4 ≤ (b.tsu.capAt n).fifo.length))) ∧
      (¬ 4 ≤ (b.tsu.capAt n).fifo.length → u.tsu.evt = b.tsu.evt ||| BitVec.twoPow 32 (16 + n)) ∧ u.str = b.str := by
  have hfull : (n != 1 && decide (4 ≤ (b.tsu.capAt n).fifo.length)) = decide (4 ≤ (b.tsu.capAt n).fifo.length) := by simp [h1]
  have hrun : ∃ u, exec (.captureEdge t n r f l) s = .next u ∧
      u.tsu = (edgeSeen b n f (decide (4 ≤ (b.tsu.capAt n).fifo.length))).tsu ∧ u.str = b.str := by
    change ∃ u, execCaptureEdge t n r f l s = _ ∧ _
    unfold execCaptureEdge
    rw [hb]
    dsimp only
    rw [if_neg (by simp [hn, hrun, hcounts])]
    simp only [hfull, if_neg h1]
    obtain ⟨htsu, hstr⟩ := icuShared_if ((edgeSeen b n f (decide (4 ≤ (b.tsu.capAt n).fifo.length))).tsu.capAt n).icu
      (edgeSeen b n f (decide (4 ≤ (b.tsu.capAt n).fifo.length))) (48 + n)
    exact ⟨_, rfl, htsu, hstr.trans (edgeSeen_str ..)⟩
  obtain ⟨u, hu, htsu, hstr⟩ := hrun
  refine ⟨u, hu, .of_modify hlen ?_, fun h4 => ?_, hstr⟩
  · rw [htsu]
    rcases decide (4 ≤ (b.tsu.capAt n).fifo.length) <;> rfl
  · rw [htsu, decide_eq_false h4]
    rfl

theorem captureEdge_entered {n f l : Nat} {r : Bool} (hn : n < 16) (h1 : n ≠ 1) (hlen : n < b.tsu.cap.length)
    (hrun : tsuRuns b = true) (hcounts : edgeCounts b n r l = true) (hroom : (b.tsu.capAt n).fifo.length < 4) :
    Does (.captureEdge t n r f l) s fun u =>
      (u.tsu.capAt n).fifo = (b.tsu.capAt n).fifo ++ [⟨b.tsu.now, f % 65536, b.tsu.stepCnt % 65536⟩] ∧
      (u.tsu.capAt n).ovf = (b.tsu.capAt n).ovf ∧ (u.tsu.capAt n).count = ((b.tsu.capAt n).count + 1) % 2 ^ 32 ∧
      u.tsu.evt = b.tsu.evt ||| BitVec.twoPow 32 (16 + n) ∧ u.str = b.str ∧ ∀ k, k ≠ n → u.tsu.capAt k = b.tsu.capAt k := by
  obtain ⟨u, hu, ⟨hsame, hother⟩, hevt, hstr⟩ := captureEdge_counts hb (f := f) hn h1 hlen hrun hcounts
  rw [decide_eq_false (Nat.not_le.mpr hroom)] at hsame
  refine ⟨u, hu, ?_⟩
  dsimp only
  rw [hsame]
  exact ⟨rfl, Bool.or_false _, rfl, hevt (Nat.not_le.mpr hroom), hstr, hother⟩

theorem captureEdge_lost {n f l : Nat} {r : Bool} (hn : n < 16) (h1 : n ≠ 1) (hlen : n < b.tsu.cap.length)
    (hrun : tsuRuns b = true) (hcounts : edgeCounts b n r l = true) (hfull : 4 ≤ (b.tsu.capAt n).fifo.length) :
    Does (.captureEdge t n r f l) s fun u => (u.tsu.capAt n).fifo = (b.tsu.capAt n).fifo ∧ (u.tsu.capAt n).ovf = true ∧
      (u.tsu.capAt n).count = ((b.tsu.capAt n).count + 1) % 2 ^ 32 ∧ ∀ k, k ≠ n → u.tsu.capAt k = b.tsu.capAt k := by
  obtain ⟨u, hu, ⟨hsame, hother⟩, -⟩ := captureEdge_counts hb (f := f) hn h1 hlen hrun hcounts
  rw [decide_eq_true hfull] at hsame
  refine ⟨u, hu, ?_⟩
  dsimp only
  rw [hsame]
  exact ⟨rfl, Bool.or_true _, rfl, hother⟩

theorem tsuSnapWrite_snaps {v : BitVec 32} (hv : v.getLsbD 0 = true) : Does (.tsuSnapWrite t v) s fun u =>
    u = b.setTsu fun x => { x with snap := x.now, snapFrac := x.frac } := by
  refine ⟨_, ?_, rfl⟩
  change execTsuSnapWrite t v s = _
  unfold execTsuSnapWrite
  rw [hb]
  dsimp only
  rw [hv]
  rfl

/-- TSU_EVT written by a port that holds every bit it clears. -/
theorem tsuEvtClear_clears (app : Bool) {v : BitVec 32} (hv : app = true → v &&& b.tsu.own = v) : Does (.tsuEvtClear t app v) s
    fun u => u = b.setTsu fun x => { x with evt := x.evt &&& ~~~ (v &&& ~~~ eventNow b) } := by
  refine ⟨_, ?_, rfl⟩
  change execTsuEvtClear t app v s = _
  unfold execTsuEvtClear
  rw [hb]
  dsimp only
  have hm : (if app then v &&& b.tsu.own else v) = v := by
    split
    · exact hv ‹_›
    · rfl
  rw [hm, if_neg (by simp)]

theorem tsuTrgCtrlWrite_disarms {app : Bool} {n : Nat} {v : BitVec 32} (hn : n < 16) (hlen : n < b.tsu.trig.length)
    (hs : hostServed b = true) (hmay : tsuMay b app n = true) (hv : v.getLsbD 0 = false) :
    Does (.tsuTrgCtrlWrite t app n v) s fun u => (u.tsu.trigAt n).arm = false ∧ (u.tsu.trigAt n).icu = v.getLsbD 2 ∧
      (u.tsu.trigAt n).le = (decide (n < 8) || v.getLsbD 3) ∧ (u.tsu.trigAt n).at_ = (b.tsu.trigAt n).at_ ∧
      (u.tsu.trigAt n).period = (b.tsu.trigAt n).period ∧ ∀ k, k ≠ n → u.tsu.trigAt k = b.tsu.trigAt k := by
  refine ⟨writeTrigCtrl b n v, ?_, ?_⟩
  · change execTsuTrgCtrlWrite t app n v s = _
    unfold execTsuTrgCtrlWrite
    rw [hb]
    dsimp only
    rw [if_neg (by simp [hn, hs]), if_pos hmay]
  · rw [writeTrigCtrl_idle hv]
    obtain ⟨hsame, hother⟩ := TrigMoved.of_modify hlen
      (rfl : (modTrig b n (trigCtrl n v (firedNow b (b.tsu.trigAt n)))).tsu.trig = _)
    rw [hsame]
    refine ⟨(congrArg _ hv).trans (Bool.and_false _), rfl, ?_, rfl, rfl, hother⟩
    by_cases h8 : n < 8 <;> simp [trigCtrl, h8]

theorem tsuTrgCtrlWrite_refuses {n : Nat} {v : BitVec 32} (hn : n < 16) (hs : hostServed b = true)
    (hown : b.tsu.own.getLsbD n = false) : Does (.tsuTrgCtrlWrite t true n v) s fun u =>
      u.tsu = { b.tsu with accErr := true } ∧ u.str = b.str := by
  refine ⟨tsuAccErr b, ?_, by simp [tsuAccErr, State.setTsu], by simp [tsuAccErr]⟩
  change execTsuTrgCtrlWrite t true n v s = _
  unfold execTsuTrgCtrlWrite
  rw [hb]
  dsimp only
  rw [if_neg (by simp [hn, hs]), if_neg (by rw [tsuMay, hown]; decide)]

theorem tsuCapPop_pops {app : Bool} {n : Nat} (hn : n < 16) (hlen : n < b.tsu.cap.length) (hs : hostServed b = true)
    (hmay : tsuMay b app (16 + n) = true) : Does (.tsuCapPop t app n) s fun u =>
      (u.tsu.capAt n).fifo = (b.tsu.capAt n).fifo.drop 1 ∧ u.tsu.evt = b.tsu.evt ∧
      ∀ k, k ≠ n → u.tsu.capAt k = b.tsu.capAt k := by
  refine ⟨popCap b n, ?_, ?_⟩
  · change execTsuCapPop t app n s = _
    unfold execTsuCapPop
    rw [hb]
    dsimp only
    rw [if_neg (by simp [hn, hs]), if_pos hmay]
  · obtain ⟨hsame, hother⟩ := CapMoved.of_modify (y := (popCap b n).tsu) (f := fun c => { c with fifo := c.fifo.drop 1 }) hlen rfl
    rw [hsame]
    exact ⟨rfl, rfl, hother⟩

end

/-! ## PTP messages -/

theorem ptpTakes_iff {s : State} {p : Nat} : ptpTakes s p = true ↔
    p < 2 ∧ tsuRuns s = true ∧ getBit (timCfg s) 1 p = true ∧ sourceOn s 0 = true := by
  simp [ptpTakes, and_assoc]

theorem inDomain_takes {s : State} {p d : Nat} (hp : ptpTakes s p = true) (hd : d = getU (timCfg s) 0 1) (f : State → State) :
    inDomain s p d f = f s := by
  unfold inDomain
  rw [if_neg (by simp [hp]), if_neg (not_not_intro hd)]

/-- The one port that is a candidate is selected where no source is. -/
theorem chooseSource_port {s : State} {p : Nat} (hp : p < 2) (hsrc : s.tsu.src = none) (hc : ptpCandidate s p = true)
    (hother : ptpCandidate s (1 - p) = false) : chooseSource s = some (portSource p) := by
  have hfirst : firstChoice s = some p := by
    unfold firstChoice
    rcases (by omega : p = 0 ∨ p = 1) with rfl | rfl
    · rw [hc, hother]
    · rw [hc, hother]
  simp [chooseSource, hsrc, hfirst]

/-- Where no port is a candidate, a port that was selected gives way to no source. -/
theorem chooseSource_none {s : State} {p : Nat} (hp : p < 2) (hsrc : s.tsu.src = some (portSource p)) (hc : ptpCandidate s p = false)
    (hother : ptpCandidate s (1 - p) = false) : chooseSource s = none := by
  have hfirst : firstChoice s = none := by
    unfold firstChoice
    rcases (by omega : p = 0 ∨ p = 1) with rfl | rfl
    · rw [hc, hother]
    · rw [hc, hother]
  rcases (by omega : p = 0 ∨ p = 1) with rfl | rfl <;> simp [chooseSource, hsrc, hfirst, hc, portSource, srcPort]

section
variable {t : Nat} {s b : State} (hb : s.advance t = b)
include hb

theorem syncMessage_offsets {p d : Nat} {o : Int} (hp : ptpTakes b p = true) (hlen : p < b.tsu.ports.length)
    (hd : d = getU (timCfg b) 0 1) (hm : (b.tsu.portAt p).master.isSome = true) : Does (.syncMessage t p d o) s fun u =>
      (u.tsu.portAt p).offset = o ∧ (u.tsu.portAt p).offsetKnown = true ∧ u.tsu.portAt (1 - p) = b.tsu.portAt (1 - p) ∧
      u.tsu.now = b.tsu.now := by
  refine ⟨modPtp b p fun x => { x with offset := o, offsetKnown := true }, ?_, ?_⟩
  · change execSyncMessage t p d o s = _
    unfold execSyncMessage
    rw [hb, inDomain_takes hp hd, if_neg (by rw [Option.isNone_iff_eq_none, ← Option.not_isSome_iff_eq_none]; simp [hm])]
  · obtain ⟨hp2, -⟩ := ptpTakes_iff.mp hp
    rw [portAt_modPtp_same hlen, portAt_modPtp_ne _ (by omega)]
    exact ⟨rfl, rfl, rfl, rfl⟩

theorem syncMessage_ignored {p d : Nat} {o : Int} (hp : ptpTakes b p = true) (hlen : p < b.tsu.ports.length)
    (hd : d ≠ getU (timCfg b) 0 1) : Does (.syncMessage t p d o) s fun u =>
      (u.tsu.portAt p).ignored = (b.tsu.portAt p).ignored + 1 ∧ (u.tsu.portAt p).offset = (b.tsu.portAt p).offset := by
  refine ⟨modPtp b p fun x => { x with ignored := x.ignored + 1 }, ?_, ?_⟩
  · change execSyncMessage t p d o s = _
    unfold execSyncMessage inDomain
    rw [hb, if_neg (by simp [hp]), if_pos hd]
  · dsimp only
    rw [portAt_modPtp_same hlen]
    exact ⟨rfl, rfl⟩

theorem announce_selects {p d : Nat} {m : Master} (hp : ptpTakes b p = true) (hlen : p < b.tsu.ports.length)
    (hd : d = getU (timCfg b) 0 1) (hsrc : b.tsu.src = none) (hother : ptpCandidate b (1 - p) = false) :
    Does (.announce t p d m) s fun u => (u.tsu.portAt p).master = some m ∧ (u.tsu.portAt p).announceT = b.clk ∧
      u.tsu.src = some (portSource p) ∧ u.tsu.sync = .locking ∧ u.tsu.now = b.tsu.now := by
  obtain ⟨hp2, -, hport, hon⟩ := ptpTakes_iff.mp hp
  have hsame := portAt_modPtp_same hlen fun x => { x with master := some m, announceT := b.clk }
  have hchoose : chooseSource (modPtp b p fun x => { x with master := some m, announceT := b.clk }) = some (portSource p) := by
    refine chooseSource_port hp2 hsrc ?_ ?_
    · unfold ptpCandidate
      rw [hsame]
      change (sourceOn b 0 && getBit (timCfg b) 1 p && true) = true
      rw [hon, hport]
      rfl
    · unfold ptpCandidate
      rw [portAt_modPtp_ne _ (by omega)]
      exact hother
  have hrun : exec (.announce t p d m) s = .next ((modPtp b p fun x => { x with master := some m, announceT := b.clk }).setTsu
      fun y => toLocking { y with src := some (portSource p) }) := by
    change execAnnounce t p d m s = _
    unfold execAnnounce
    rw [hb, inDomain_takes hp hd, reselect, reselectFrom, hchoose]
    exact congrArg _ (setSourceFrom_takes (s := modPtp b p fun x => { x with master := some m, announceT := b.clk }) _ hsrc _)
  refine ⟨_, hrun, ?_⟩
  change ((modPtp b p fun x => { x with master := some m, announceT := b.clk }).tsu.portAt p).master = _ ∧
    ((modPtp b p fun x => { x with master := some m, announceT := b.clk }).tsu.portAt p).announceT = _ ∧ _
  rw [hsame]
  exact ⟨rfl, rfl, rfl, rfl, rfl⟩

theorem announceTimeout_holdsOver {p : Nat} (hp : p < 2) (hlen : p < b.tsu.ports.length)
    (hm : (b.tsu.portAt p).master.isSome = true) (hlate : (b.tsu.portAt p).announceT + 3 * nsS ≤ b.clk)
    (hsrc : b.tsu.src = some (portSource p)) (hsync : b.tsu.sync = .locked) (hother : ptpCandidate b (1 - p) = false) :
    Does (.announceTimeout t p) s fun u => (u.tsu.portAt p).master = none ∧ u.tsu.src = none ∧ u.tsu.sync = .holdover ∧
      u.tsu.holdT = b.clk ∧ u.tsu.slew = 0 := by
  have hsame := portAt_modPtp_same hlen fun x => { x with master := none, offsetKnown := false }
  have hchoose : chooseSource (modPtp b p fun x => { x with master := none, offsetKnown := false }) = none := by
    refine chooseSource_none hp hsrc ?_ ?_
    · unfold ptpCandidate
      rw [hsame]
      simp
    · unfold ptpCandidate
      rw [portAt_modPtp_ne _ (by omega)]
      exact hother
  have hrun : exec (.announceTimeout t p) s = .next ((modPtp b p fun x => { x with master := none, offsetKnown := false }).setTsu
      fun y => { y with src := none, sync := .holdover, holdT := b.clk, errEst := 0, slew := 0, converging := false }) := by
    change execAnnounceTimeout t p s = _
    unfold execAnnounceTimeout
    rw [hb]
    dsimp only
    rw [if_pos (by simp [hp, hm, hlate]), reselectFrom, hchoose]
    exact congrArg _ (setSourceFrom_loses _ hsrc hsync)
  refine ⟨_, hrun, ?_⟩
  change ((modPtp b p fun x => { x with master := none, offsetKnown := false }).tsu.portAt p).master = _ ∧ _
  rw [hsame]
  exact ⟨rfl, rfl, rfl, rfl, rfl⟩

theorem pdelayReq_answered {p d c : Nat} (hp : ptpTakes b p = true) (hlen : p < b.tsu.ports.length)
    (hd : d = getU (timCfg b) 0 1) : Does (.pdelayReq t p d c) s fun u =>
      (u.tsu.portAt p).responses = (b.tsu.portAt p).responses + 1 ∧ (u.tsu.portAt p).lastCorrection = c := by
  refine ⟨modPtp b p fun x => { x with responses := x.responses + 1, lastCorrection := c }, ?_, ?_⟩
  · change execPdelayReq t p d c s = _
    unfold execPdelayReq
    rw [hb, inDomain_takes hp hd]
  · dsimp only
    rw [portAt_modPtp_same hlen]
    exact ⟨rfl, rfl⟩

theorem pdelayMeasurement_measures {p d : Nat} (hp : ptpTakes b p = true) (hlen : p < b.tsu.ports.length) :
    Does (.pdelayMeasurement t p d) s fun u =>
      (u.tsu.portAt p).delay = d ∧ (u.tsu.portAt p).master = (b.tsu.portAt p).master := by
  refine ⟨modPtp b p fun x => { x with delay := d, pdelays := x.pdelays + 1 }, ?_, ?_⟩
  · change execPdelayMeasurement t p d s = _
    unfold execPdelayMeasurement
    rw [hb]
    dsimp only
    rw [if_pos hp]
  · dsimp only
    rw [portAt_modPtp_same hlen]
    exact ⟨rfl, rfl⟩

end

/-! ## The servo -/

/-- Removing an offset leaves the servo's state and its count of near updates, and notes the offset or steps the time. -/
theorem removeOffset_tsu (s : State) (o : Int) : (removeOffset s o).tsu.sync = s.tsu.sync ∧
    (removeOffset s o).tsu.src = s.tsu.src ∧ (removeOffset s o).tsu.inLimit = s.tsu.inLimit := by
  unfold removeOffset
  dsimp only
  split
  · simp only [stepTime_steps, and_self]
  · exact ⟨rfl, rfl, rfl⟩

/-- Where the time does not step, an offset is slewed. -/
theorem removeOffset_slews {s : State} {o : Int}
    (h : ¬ (s.tsu.sync = .locking ∧ (getU (timCfg s) 16 4 * nsUs : Nat) < absI o ∧ mayStep s = true)) :
    ∃ c, removeOffset s o = s.setTsu fun x => { x with slew := o, converging := c } :=
  ⟨_, if_neg (by simpa [and_assoc] using h)⟩

theorem removeOffset_stepsTime {s : State} {o : Int} (hsync : s.tsu.sync = .locking)
    (hbig : (getU (timCfg s) 16 4 * nsUs : Nat) < absI o) (hmay : mayStep s = true) :
    removeOffset s o = stepTime s ((s.tsu.now : Int) - o).toNat :=
  if_pos (by simp [hsync, hmay]; simpa using hbig)

/-- The servo after update `o` of its source: its state and counts; 16 near updates lock it, 3 far ones unlock it. -/
def servoed (o : Int) (x : Tsu) : Tsu :=
  match x.sync with
  | .locking =>
    let k := if decide (absI o ≤ 100) then x.inLimit + 1 else 0
    if 16 ≤ k then { x with sync := .locked, inLimit := 0, overLimit := 0, converging := false } else { x with inLimit := k }
  | .locked =>
    let k := if decide (1000 < absI o) then x.overLimit + 1 else 0
    if 3 ≤ k then toLocking x else { x with overLimit := k }
  | _ => x

/-- An update moves the servo's state and its counts alone. -/
theorem servoed_keeps (o : Int) (x : Tsu) : (servoed o x).now = x.now ∧ (servoed o x).stepCnt = x.stepCnt ∧
    (servoed o x).stepped = x.stepped ∧ (servoed o x).src = x.src ∧ (servoed o x).slew = x.slew := by
  unfold servoed toLocking
  dsimp only
  (repeat' split) <;> exact ⟨rfl, rfl, rfl, rfl, rfl⟩

section
variable {t : Nat} {s b : State} (hb : s.advance t = b)
include hb

theorem servoUpdate_serves {x : TimeSource} (hrun : tsuRuns b = true) (hsrc : b.tsu.src = some x) (o : Int) :
    exec (.servoUpdate t x o) s = .next (((removeOffset b o).setTsu fun x => { x with timeLoaded := true }).setTsu (servoed o)) := by
  change execServoUpdate t x o s = _
  unfold execServoUpdate
  rw [hb]
  dsimp only
  rw [if_neg (by simp [hrun, hsrc])]
  rfl

theorem servoUpdate_locks {x : TimeSource} {o : Int} (hrun : tsuRuns b = true) (hsrc : b.tsu.src = some x)
    (hsync : b.tsu.sync = .locking) (hnear : absI o ≤ 100) (hcount : b.tsu.inLimit = 15) : Does (.servoUpdate t x o) s fun u =>
      u.tsu.sync = .locked ∧ u.tsu.src = some x ∧ u.tsu.converging = false := by
  obtain ⟨hs, hr, hl⟩ := removeOffset_tsu b o
  refine ⟨_, servoUpdate_serves hb hrun hsrc o, ?_⟩
  simp [State.setTsu, servoed, hs, hsync, hl, hcount, hnear, hr, hsrc]

theorem servoUpdate_unlocks {x : TimeSource} {o : Int} (hrun : tsuRuns b = true) (hsrc : b.tsu.src = some x)
    (hsync : b.tsu.sync = .locked) (hfar : 1000 < absI o) (hcount : b.tsu.overLimit = 2) : Does (.servoUpdate t x o) s fun u =>
      u.tsu.sync = .locking ∧ u.tsu.slew = o ∧ u.tsu.now = b.tsu.now := by
  obtain ⟨c, hslew⟩ := removeOffset_slews (s := b) (o := o) (by simp [hsync])
  refine ⟨_, servoUpdate_serves hb hrun hsrc o, ?_⟩
  rw [hslew]
  simp [State.setTsu, servoed, hsync, hcount, hfar, toLocking]

theorem servoUpdate_removes {x : TimeSource} {o : Int} (hrun : tsuRuns b = true) (hsrc : b.tsu.src = some x)
    (hsync : b.tsu.sync = .locking) (hbig : (getU (timCfg b) 16 4 * nsUs : Nat) < absI o) : Does (.servoUpdate t x o) s fun u =>
      if mayStep b = true then u.tsu.now = ((b.tsu.now : Int) - o).toNat ∧ u.tsu.stepCnt = (b.tsu.stepCnt + 1) % 65536 ∧
        u.tsu.stepped = true
      else u.tsu.now = b.tsu.now ∧ u.tsu.stepCnt = b.tsu.stepCnt ∧ u.tsu.slew = o := by
  refine ⟨_, servoUpdate_serves hb hrun hsrc o, ?_⟩
  simp only [State.setTsu, servoed_keeps]
  split
  · rw [removeOffset_stepsTime hsync hbig ‹_›]
    simp only [stepTime_steps, and_self]
  · obtain ⟨c, hslew⟩ := removeOffset_slews (s := b) (o := o) (by simp [*])
    rw [hslew]
    exact ⟨rfl, rfl, rfl⟩

theorem holdoverExpiry_ends (hsync : b.tsu.sync = .holdover) (hlate : b.tsu.holdT + getU (timCfg b) 20 4 * nsS ≤ b.clk) :
    Does (.holdoverExpiry t) s fun u => u = b.setTsu fun x => { x with sync := .freerun } := by
  refine ⟨_, ?_, rfl⟩
  change execHoldoverExpiry t s = _
  unfold execHoldoverExpiry
  rw [hb]
  dsimp only
  rw [if_pos (by simp [hsync, hlate])]

theorem ppsInEdge_serves (hrun : tsuRuns b = true) (hon : sourceOn b 1 = true) (_ : getU (timCfg b) 26 2 ≤ b.tsu.now)
    (hsrc : b.tsu.src = none)
    (hnear : (b.tsu.now - getU (timCfg b) 26 2) % nsS ≤ 100 * nsMs) : Does (.ppsInEdge t) s fun u =>
      u.tsu.src = some .pps ∧ u.tsu.sync = .locking ∧ u.tsu.ppsDiscards = b.tsu.ppsDiscards := by
  refine ⟨b.setTsu fun y => toLocking { y with src := some .pps }, ?_, rfl, rfl, rfl⟩
  change execPpsInEdge t s = _
  unfold execPpsInEdge
  rw [hb]
  dsimp only
  rw [if_neg (by simp [hrun, hon]), if_neg (by omega), if_pos (by simp [hsrc]), setSource, setSourceFrom_takes _ hsrc]

theorem ppsInEdge_discarded (hrun : tsuRuns b = true) (hon : sourceOn b 1 = true)
    (hlo : 100 * nsMs < (b.tsu.now - getU (timCfg b) 26 2) % nsS) (hhi : (b.tsu.now - getU (timCfg b) 26 2) % nsS < 900 * nsMs) :
    Does (.ppsInEdge t) s fun u => u = b.setTsu fun x => { x with ppsDiscards := x.ppsDiscards + 1 } := by
  have hs : nsS = 1000 * nsMs := rfl
  refine ⟨_, ?_, rfl⟩
  change execPpsInEdge t s = _
  unfold execPpsInEdge
  rw [hb]
  dsimp only
  rw [if_neg (by simp [hrun, hon]), if_pos (by omega)]

end

/-- Settles O36: each event does its clause. -/
theorem timeEvents : Obligations.TimeEvents :=
  ⟨fun _ _ _ => triggerFire_fires rfl, fun _ _ _ _ _ _ => captureEdge_entered rfl, fun _ _ _ _ _ _ => captureEdge_lost rfl,
    fun _ _ _ => tsuSnapWrite_snaps rfl, fun _ _ _ => tsuEvtClear_clears rfl false (by simp),
    fun _ _ _ h => tsuEvtClear_clears rfl true fun _ => h, fun _ _ _ _ _ => tsuTrgCtrlWrite_disarms rfl,
    fun _ _ _ _ => tsuTrgCtrlWrite_refuses rfl, fun _ _ _ _ => tsuCapPop_pops rfl, fun _ _ _ _ _ => syncMessage_offsets rfl,
    fun _ _ _ _ _ => syncMessage_ignored rfl, fun _ _ _ _ _ => announce_selects rfl, fun _ _ _ => announceTimeout_holdsOver rfl,
    fun _ _ _ _ _ => pdelayReq_answered rfl, fun _ _ _ _ => pdelayMeasurement_measures rfl,
    fun _ _ _ _ => servoUpdate_locks rfl, fun _ _ _ _ => servoUpdate_unlocks rfl, fun _ _ _ _ => servoUpdate_removes rfl,
    fun _ _ => holdoverExpiry_ends rfl, fun _ _ => ppsInEdge_serves rfl, fun _ _ => ppsInEdge_discarded rfl⟩

end Sys2Proof.Machine
end

section
/-! SUPPORT. The e-fuse channels: commands, conditions and faults (12_rack_power.md R368 to R382). -/

namespace Sys2Proof.Machine

-- One proof at a time: together their threads exceed the memory of the check.
set_option Elab.async false

/-! ## One channel -/

/-- What a step does with channel `n`, and that it leaves the others. -/
abbrev EfMoved (s u : State) (n : Nat) (f : Ef → Ef) : Prop := u.efAt n = f (s.efAt n) ∧ ∀ k, k ≠ n → u.efAt k = s.efAt k

theorem efAt_congr {s u : State} (h : u.rack = s.rack) (n : Nat) : u.efAt n = s.efAt n := by rw [State.efAt, State.efAt, h]

theorem EfMoved.of_rack {s u : State} {n : Nat} {f : Ef → Ef} (hn : n < s.rack.ef.length) (h : u.rack = (s.modEf n f).rack) :
    EfMoved s u n f :=
  ⟨(efAt_congr h n).trans (getD_modify_same _ _ _ _ hn), fun k hk => (efAt_congr h k).trans (getD_modify_ne _ _ _ hk)⟩

theorem EfMoved.trans {s u v : State} {n : Nat} {f g : Ef → Ef} (h : EfMoved s u n f) (hv : EfMoved u v n g) :
    EfMoved s v n (g ∘ f) :=
  ⟨by rw [hv.1, h.1]; rfl, fun k hk => (hv.2 k hk).trans (h.2 k hk)⟩

theorem EfMoved.congr {s u v : State} {n : Nat} {f : Ef → Ef} (h : EfMoved s u n f) (hv : v.rack = u.rack) : EfMoved s v n f :=
  ⟨(efAt_congr hv n).trans h.1, fun k hk => (efAt_congr hv k).trans (h.2 k hk)⟩

theorem modEf_ef_length (s : State) (n : Nat) (f : Ef → Ef) : (s.modEf n f).rack.ef.length = s.rack.ef.length := by
  simp [State.modEf, State.setRack]

theorem efCfg_congr {s u : State} {n : Nat} (h : (u.efAt n).cfg = (s.efAt n).cfg) : efCfg u n = efCfg s n := by
  rw [efCfg, efCfg, h]

/-! ## Start and fault -/

/-- A channel starts that is OFF, enabled, commanded, neither shed nor retired, and may. -/
theorem efStart_starts {s : State} {n : Nat} (hoff : (s.efAt n).state = .off) (hen : efEnabled s n = true)
    (hcmd : (s.efAt n).commanded = true) (hshed : (s.efAt n).shed = false) (hret : (s.efAt n).retired = false)
    (hmay : efMayStart s n = true) : efStart s n = s.modEf n fun e => { e with state := .qualify, insertSince := none } :=
  if_pos (by simp [hoff, hen, hcmd, hshed, hret, hmay])

theorem efStart_idle {s : State} {n : Nat} (hcmd : (s.efAt n).commanded = false) : efStart s n = s :=
  if_neg (by simp [hcmd])

/-- Starting touches a channel's state alone. -/
theorem efStart_moves (s : State) {n : Nat} (hn : n < s.rack.ef.length) : ∃ f, EfMoved s (efStart s n) n f ∧
    ∀ e, (f e).cfg = e.cfg ∧ (f e).commanded = e.commanded ∧ (f e).shed = e.shed := by
  unfold efStart
  dsimp only
  split
  · exact ⟨fun e => { e with state := .qualify, insertSince := none }, .of_rack hn rfl, fun _ => ⟨rfl, rfl, rfl⟩⟩
  · exact ⟨id, ⟨rfl, fun _ _ => rfl⟩, fun _ => ⟨rfl, rfl, rfl⟩⟩

/-- Channel `e` after a fault that opens it: for a retry, or latched once `retries` are spent. -/
def efFaulted (retries retryEnd : Nat) (e : Ef) : Ef :=
  { e with faults := e.faults + 1, pgood := false, pgSince := none, gfSince := none
           state := if e.faults + 1 ≤ retries then .retry else .latched, retryEnd := retryEnd }

/-- The state after the fault of channel `n` is counted and recorded. -/
def efCounted (s : State) (n code : Nat) : State :=
  groupRecord (s.modEf n fun e => { e with faults := (s.efAt n).faults + 1 }) gAux srcEfc lvInfo 377 n code

theorem efCounted_moves {s : State} {n : Nat} (hn : n < s.rack.ef.length) (code : Nat) :
    EfMoved s (efCounted s n code) n fun e => { e with faults := (s.efAt n).faults + 1 } := .of_rack hn (by simp [efCounted])

theorem steers_congr {s u : State} (h : u.unit = s.unit) : steers u = steers s := by rw [steers, steers, h]

/-- A fault in RAMP or ON opens the channel on the unit that steers its gates; a fast trip does on every unit. -/
theorem efFault_opens {s : State} {n : Nat} {f : EfFault} (hn : n < s.rack.ef.length) (hgate : efGateOn (s.efAt n) = true)
    (hact : steers s = true ∨ f = .fastTrip) :
    EfMoved s (efFault s n f) n (efFaulted (efRetries s n) (s.clk + efRetry s n)) := by
  obtain ⟨code, hcode⟩ : ∃ code, efFault s n f = if !steers (efCounted s n code) && f != .fastTrip then efCounted s n code
      else (efCounted s n code).modEf n fun e => { e with
        pgood := false, pgSince := none, gfSince := none
        state := if (s.efAt n).faults + 1 ≤ efRetries (efCounted s n code) n then .retry else .latched
        retryEnd := (efCounted s n code).clk + efRetry (efCounted s n code) n } :=
    ⟨_, if_neg (by simp [hgate])⟩
  have hcount := efCounted_moves hn code
  have hcfg : efCfg (efCounted s n code) n = efCfg s n := efCfg_congr (by rw [hcount.1])
  have hclk : (efCounted s n code).clk = s.clk := by simp [efCounted]
  rw [hcode, if_neg]
  · have hopen := EfMoved.of_rack (s := efCounted s n code) (by simpa [efCounted, modEf_ef_length] using hn)
      (rfl : ((efCounted s n code).modEf n fun e => { e with
        pgood := false, pgSince := none, gfSince := none
        state := if (s.efAt n).faults + 1 ≤ efRetries (efCounted s n code) n then .retry else .latched
        retryEnd := (efCounted s n code).clk + efRetry (efCounted s n code) n }).rack = _)
    obtain ⟨hsame, hother⟩ := hcount.trans hopen
    refine ⟨hsame.trans ?_, hother⟩
    rw [efRetries, efRetry, hcfg, hclk]
    rfl
  · rw [steers_congr (s := s) (by simp [efCounted])]
    rcases hact with h | h <;> simp [h]

/-- On the unit that does not steer the gates a fault other than a fast trip only counts. -/
theorem efFault_counts {s : State} {n : Nat} {f : EfFault} (hn : n < s.rack.ef.length) (hgate : efGateOn (s.efAt n) = true)
    (hact : steers s = false) (hf : f ≠ .fastTrip) :
    EfMoved s (efFault s n f) n fun e => { e with faults := (s.efAt n).faults + 1 } := by
  obtain ⟨code, hcode⟩ : ∃ code, efFault s n f = if !steers (efCounted s n code) && f != .fastTrip then efCounted s n code
      else (efCounted s n code).modEf n fun e => { e with
        pgood := false, pgSince := none, gfSince := none
        state := if (s.efAt n).faults + 1 ≤ efRetries (efCounted s n code) n then .retry else .latched
        retryEnd := (efCounted s n code).clk + efRetry (efCounted s n code) n } :=
    ⟨_, if_neg (by simp [hgate])⟩
  rw [hcode, if_pos]
  · exact efCounted_moves hn code
  · rw [steers_congr (s := s) (by simp [efCounted]), hact]
    simpa using hf

/-- The clauses on a fault that leaves retries, and on one that does not. -/
theorem efFault_retries {s : State} {n : Nat} {f : EfFault} (hn : n < s.rack.ef.length) (hgate : efGateOn (s.efAt n) = true)
    (hact : steers s = true ∨ f = .fastTrip) (hleft : (s.efAt n).faults < efRetries s n) :
    ((efFault s n f).efAt n).state = .retry ∧ ((efFault s n f).efAt n).retryEnd = s.clk + efRetry s n ∧
      ((efFault s n f).efAt n).faults = (s.efAt n).faults + 1 ∧ ((efFault s n f).efAt n).pgood = false ∧
      ∀ k, k ≠ n → (efFault s n f).efAt k = s.efAt k := by
  obtain ⟨hsame, hother⟩ := efFault_opens hn hgate hact
  rw [hsame]
  exact ⟨if_pos hleft, rfl, rfl, rfl, hother⟩

theorem efFault_latches {s : State} {n : Nat} {f : EfFault} (hn : n < s.rack.ef.length) (hgate : efGateOn (s.efAt n) = true)
    (hact : steers s = true ∨ f = .fastTrip) (hspent : efRetries s n ≤ (s.efAt n).faults) :
    ((efFault s n f).efAt n).state = .latched ∧ ((efFault s n f).efAt n).faults = (s.efAt n).faults + 1 ∧
      ((efFault s n f).efAt n).pgood = false ∧ ∀ k, k ≠ n → (efFault s n f).efAt k = s.efAt k := by
  obtain ⟨hsame, hother⟩ := efFault_opens hn hgate hact
  rw [hsame]
  exact ⟨if_neg (by omega), rfl, rfl, hother⟩

/-! ## The events -/

section
variable {t : Nat} {s b : State} (hb : s.advance t = b)
include hb

theorem insertionDelayEnd_ramps {n : Nat} (hn : n < b.rack.ef.length) (hst : (b.efAt n).state = .qualify)
    (hheld : heldFor b (b.efAt n).insertSince (efInsert b n) = true) (hhot : diodeHot b n = false)
    (hmay : efMayStart b n = true) : Does (.insertionDelayEnd t n) s fun u => (u.efAt n).state = .ramp ∧
      (u.efAt n).rampT = b.clk ∧ ∀ k, k ≠ n → u.efAt k = b.efAt k := by
  refine ⟨b.modEf n fun e => { e with state := .ramp, rampT := b.clk, pgSince := none, gfSince := none }, ?_, ?_⟩
  · change execInsertionDelayEnd t n s = _
    unfold execInsertionDelayEnd
    rw [hb]
    dsimp only
    rw [if_pos (by simp [hst, hheld, hhot, hmay])]
  · obtain ⟨hsame, hother⟩ := EfMoved.of_rack hn (rfl : (b.modEf n fun e =>
      { e with state := .ramp, rampT := b.clk, pgSince := none, gfSince := none }).rack = _)
    rw [hsame]
    exact ⟨rfl, rfl, hother⟩

theorem windowExit_qualifies {n : Nat} (hn : n < b.rack.ef.length) (hgate : efGateOn (b.efAt n) = true)
    (hleft : heldFor b (b.efAt n).lowSince nsMs = true ∨ heldFor b (b.efAt n).highSince (10 * nsUs) = true ∨
      heldFor b (b.efAt n).presSince (10 * nsMs) = true) : Does (.windowExit t n) s fun u => (u.efAt n).state = .qualify ∧
      (u.efAt n).pgood = false ∧ (u.efAt n).faults = (b.efAt n).faults ∧ ∀ k, k ≠ n → u.efAt k = b.efAt k := by
  let exited (e : Ef) : Ef := { e with
    state := .qualify, pgood := false, insertSince := none
    needRegain := e.needRegain || (heldFor b (b.efAt n).lowSince nsMs || heldFor b (b.efAt n).highSince (10 * nsUs)) }
  refine ⟨b.modEf n exited, ?_, ?_⟩
  · change execWindowExit t n s = _
    unfold execWindowExit
    rw [hb]
    dsimp only
    rw [if_pos (by simpa [hgate, or_assoc] using hleft)]
  · obtain ⟨hsame, hother⟩ := EfMoved.of_rack hn (rfl : (b.modEf n exited).rack = _)
    rw [hsame]
    exact ⟨rfl, rfl, rfl, hother⟩

theorem efuseFastTrip_latches {n : Nat} (hrun : efcRuns b = true) (hn : n < b.rack.ef.length) (hgate : efGateOn (b.efAt n) = true)
    (hspent : efRetries b n ≤ (b.efAt n).faults) : Does (.efuseFastTrip t n) s fun u => (u.efAt n).state = .latched ∧
      (u.efAt n).faults = (b.efAt n).faults + 1 ∧ (u.efAt n).pgood = false ∧ ∀ k, k ≠ n → u.efAt k = b.efAt k := by
  refine ⟨efFault b n .fastTrip, ?_, efFault_latches hn hgate (.inr rfl) hspent⟩
  change execEfuseFastTrip t n s = _
  unfold execEfuseFastTrip
  rw [hb]
  dsimp only
  rw [if_pos hrun]

theorem softStartExpiry_faults {n : Nat} (hexp : softExpired b n = true) :
    exec (.softStartExpiry t n) s = .next (efFault b n .softStart) := by
  change execSoftStartExpiry t n s = _
  unfold execSoftStartExpiry
  rw [hb]
  dsimp only
  rw [if_pos hexp]

omit hb in
theorem ramp_of_softExpired {n : Nat} (h : softExpired b n = true) : (b.efAt n).state = .ramp := by
  simp only [softExpired, Bool.and_eq_true, beq_iff_eq] at h
  exact h.1

omit hb in
theorem efGateOn_of_ramp {e : Ef} (h : e.state = .ramp) : efGateOn e = true := by simp [efGateOn, h]

omit hb in
theorem efGateOn_of_on {e : Ef} (h : e.state = .on) : efGateOn e = true := by simp [efGateOn, h]

theorem softStartExpiry_retries {n : Nat} (hn : n < b.rack.ef.length) (hexp : softExpired b n = true) (hsteer : steers b = true)
    (hleft : (b.efAt n).faults < efRetries b n) : Does (.softStartExpiry t n) s fun u => (u.efAt n).state = .retry ∧
      (u.efAt n).retryEnd = b.clk + efRetry b n ∧ ∀ k, k ≠ n → u.efAt k = b.efAt k := by
  obtain ⟨hst, hend, -, -, hother⟩ :=
    efFault_retries (f := .softStart) hn (efGateOn_of_ramp (ramp_of_softExpired hexp)) (.inl hsteer) hleft
  exact ⟨_, softStartExpiry_faults hb hexp, hst, hend, hother⟩

theorem softStartExpiry_counts {n : Nat} (hn : n < b.rack.ef.length) (hexp : softExpired b n = true) (hsteer : steers b = false) :
    Does (.softStartExpiry t n) s fun u => (u.efAt n).state = .ramp ∧ (u.efAt n).faults = (b.efAt n).faults + 1 ∧
      ∀ k, k ≠ n → u.efAt k = b.efAt k := by
  have hramp := ramp_of_softExpired hexp
  obtain ⟨hsame, hother⟩ := efFault_counts (f := .softStart) hn (efGateOn_of_ramp hramp) hsteer (by decide)
  refine ⟨_, softStartExpiry_faults hb hexp, ?_⟩
  dsimp only
  rw [hsame]
  exact ⟨hramp, rfl, hother⟩

theorem powerGood_turnsOn {n : Nat} (hn : n < b.rack.ef.length) (hst : (b.efAt n).state = .ramp)
    (hheld : heldFor b (b.efAt n).pgSince nsMs = true) : Does (.powerGood t n) s fun u => (u.efAt n).state = .on ∧
      (u.efAt n).pgood = true ∧ (u.efAt n).onSince = b.clk ∧ ∀ k, k ≠ n → u.efAt k = b.efAt k := by
  refine ⟨b.modEf n fun e => { e with state := .on, pgood := true, onSince := b.clk, gfSince := none }, ?_, ?_⟩
  · change execPowerGood t n s = _
    unfold execPowerGood
    rw [hb]
    dsimp only
    rw [if_pos (by simp [hst, hheld])]
  · obtain ⟨hsame, hother⟩ := EfMoved.of_rack hn (rfl : (b.modEf n fun e =>
      { e with state := .on, pgood := true, onSince := b.clk, gfSince := none }).rack = _)
    rw [hsame]
    exact ⟨rfl, rfl, rfl, hother⟩

theorem gateFault_latches {n : Nat} (hn : n < b.rack.ef.length) (hst : (b.efAt n).state = .on)
    (hheld : heldFor b (b.efAt n).gfSince nsMs = true) (hsteer : steers b = true) (hspent : efRetries b n ≤ (b.efAt n).faults)
    (hret : b.retired (uEf n) = false) : Does (.gateFault t n) s fun u => (u.efAt n).state = .latched ∧
      u.suspended (uEf n) = true ∧ ∀ k, k ≠ n → u.efAt k = b.efAt k := by
  obtain ⟨v, hv⟩ : ∃ v, v = b.modEf n fun e => { e with pgood := false, gfSince := none } := ⟨_, rfl⟩
  obtain ⟨hsame, hother⟩ := EfMoved.of_rack (u := v) hn (by rw [hv])
  have hlen : n < v.rack.ef.length := by rw [hv, modEf_ef_length]; exact hn
  have hcfg : efRetries v n = efRetries b n := by
    unfold efRetries
    rw [efCfg_congr (s := b) (by rw [hsame])]
  have hfault := efFault_latches (f := .gate) hlen (by rw [hsame]; exact efGateOn_of_on hst)
    (.inl (by rw [hv]; exact hsteer)) (by rw [hcfg, hsame]; exact hspent)
  obtain ⟨hlatched, -, -, hrest⟩ := hfault
  refine ⟨detected (efFault v n .gate) (uEf n) 376 n, ?_, ?_, detected_suspends _ _ ?_, fun k hk => ?_⟩
  · change execGateFault t n s = _
    unfold execGateFault gateFault
    rw [hb, if_pos (by simp [hst, hheld]), hv]
  · rw [efAt_congr (s := efFault v n .gate) (by simp)]
    exact hlatched
  · have hflt : (efFault v n .gate).flt = b.flt := by simp [hv]
    rw [State.retired, hflt]
    exact hret
  · rw [efAt_congr (s := efFault v n .gate) (by simp), hrest k hk, hother k hk]

theorem efuseFault_stress {n : Nat} (hrun : efcRuns b = true) (hn : n < b.rack.ef.length) (hgate : efGateOn (b.efAt n) = true)
    (hstress : 1 ≤ (b.efAt n).stress) (hsteer : steers b = true) (hleft : (b.efAt n).faults < efRetries b n) :
    Does (.efuseFault t n .stress) s fun u => (u.efAt n).state = .retry ∧ (u.efAt n).faults = (b.efAt n).faults + 1 ∧
      ∀ k, k ≠ n → u.efAt k = b.efAt k := by
  obtain ⟨hst, -, hfaults, -, hother⟩ := efFault_retries (f := .stress) hn hgate (.inl hsteer) hleft
  refine ⟨efFault b n .stress, ?_, hst, hfaults, hother⟩
  change execEfuseFault t n .stress s = _
  unfold execEfuseFault
  rw [hb]
  dsimp only
  rw [if_neg (by simp [hrun]), if_pos hstress]

theorem retryTimerExpiry_stays_off {n : Nat} (hn : n < b.rack.ef.length) (hst : (b.efAt n).state = .retry)
    (hend : (b.efAt n).retryEnd ≤ b.clk) (hcmd : (b.efAt n).commanded = false) : Does (.retryTimerExpiry t n) s fun u =>
      (u.efAt n).state = .off ∧ (u.efAt n).faults = (b.efAt n).faults ∧ ∀ k, k ≠ n → u.efAt k = b.efAt k := by
  obtain ⟨hsame, hother⟩ := EfMoved.of_rack hn (rfl : (b.modEf n fun e => { e with state := .off, insertSince := none }).rack = _)
  refine ⟨b.modEf n fun e => { e with state := .off, insertSince := none }, ?_, ?_⟩
  · change execRetryTimerExpiry t n s = _
    unfold execRetryTimerExpiry
    rw [hb]
    dsimp only
    rw [if_pos (by simp [hst, hend]), efStart_idle (by rw [hsame]; exact hcmd)]
  · dsimp only
    rw [hsame]
    exact ⟨rfl, rfl, hother⟩

theorem faultCountClear_clears {n : Nat} (hn : n < b.rack.ef.length) (hst : (b.efAt n).state = .on)
    (hsince : (b.efAt n).onSince + 60 * nsS ≤ b.clk) : Does (.faultCountClear t n) s fun u => (u.efAt n).faults = 0 ∧
      (u.efAt n).state = .on ∧ ∀ k, k ≠ n → u.efAt k = b.efAt k := by
  refine ⟨b.modEf n fun e => { e with faults := 0 }, ?_, ?_⟩
  · change execFaultCountClear t n s = _
    unfold execFaultCountClear
    rw [hb]
    dsimp only
    rw [if_pos (by simp [hst, hsince])]
  · obtain ⟨hsame, hother⟩ := EfMoved.of_rack hn (rfl : (b.modEf n fun e => { e with faults := 0 }).rack = _)
    rw [hsame]
    exact ⟨rfl, hst, hother⟩

/-- Channel `e` with the readings, models and conditions of one sample. -/
def efSampled (s : State) (n : Nat) (v : EfReading) (e : Ef) : Ef :=
  { e with
    reading := v, acc := curveStep (efCfg s n) e v.i (efRated s n)
    dTj := (thermalStep s n (s.efAt n) v).1, tCase := (thermalStep s n (s.efAt n) v).2.1
    stress := (thermalStep s n (s.efAt n) v).2.2
    needRegain := e.needRegain && !inEfWindow s n (s.efAt n)
    insertSince := track s (e.state == .qualify && inEfWindow s n (s.efAt n) && (!efPresUsed s n || v.presentLow)) e.insertSince
    presSince := track s (!(!efPresUsed s n || v.presentLow)) e.presSince
    lowSince := track s (decide (s.rack.vBus + 1000 < efUvOn s n)) e.lowSince
    highSince := track s (decide (efOvOff s n < s.rack.vBus)) e.highSince
    pgSince := track s (e.state == .ramp && decide (10000 < v.vgs) && decide (v.vds < 200)) e.pgSince
    gfSince := track s (e.state == .on && (decide (v.vgs < 9000) || decide (300 < v.vds))) e.gfSince }

/-- The trips and the start that follow a sample. -/
def afterSample (was s : State) (n : Nat) (v : EfReading) : State :=
  if efGateOn (s.efAt n) && decide (1 ≤ (s.efAt n).acc) then efFault s n .curve
  else if efGateOn (s.efAt n) && decide (1 ≤ (thermalStep was n (was.efAt n) v).2.2) then efFault s n .stress
  else efStart (if !efGateOn (s.efAt n) && decide ((efRated s n : Int) < 20 * absI v.i) && !s.unitOut (uEf n)
    then detected s (uEf n) 498 n else s) n

theorem efuseSample_samples {n : Nat} (hrun : efcRuns b = true) (hn : n < 16) (v : EfReading) :
    exec (.efuseSample t n v) s = .next (afterSample b (b.modEf n (efSampled b n v)) n v) := by
  change execEfuseSample t n v s = _
  unfold execEfuseSample
  rw [hb]
  dsimp only
  rw [if_neg (by simp [hrun, hn])]
  rfl

theorem efuseSample_qualifies {n : Nat} {v : EfReading} (hrun : efcRuns b = true) (hn : n < 16) (hlen : n < b.rack.ef.length)
    (hoff : (b.efAt n).state = .off) (hcmd : (b.efAt n).commanded = true) (hshed : (b.efAt n).shed = false)
    (hret : (b.efAt n).retired = false) (hen : efEnabled b n = true) (hmay : efMayStart b n = true) :
    Does (.efuseSample t n v) s fun u => (u.efAt n).reading = v ∧ (u.efAt n).state = .qualify ∧
      ∀ k, k ≠ n → u.efAt k = b.efAt k := by
  have hsample := EfMoved.of_rack hlen (rfl : (b.modEf n (efSampled b n v)).rack = _)
  obtain ⟨w, hw⟩ : ∃ w, w = if !efGateOn ((b.modEf n (efSampled b n v)).efAt n) &&
      decide ((efRated (b.modEf n (efSampled b n v)) n : Int) < 20 * absI v.i) && !(b.modEf n (efSampled b n v)).unitOut (uEf n)
    then detected (b.modEf n (efSampled b n v)) (uEf n) 498 n else b.modEf n (efSampled b n v) := ⟨_, rfl⟩
  have hrack : w.rack = (b.modEf n (efSampled b n v)).rack := by
    rw [hw]
    split <;> simp
  have hunit : w.unit = b.unit := by
    rw [hw]
    split <;> simp
  have hmoved := hsample.congr hrack
  have hcfg : efCfg w n = efCfg b n := efCfg_congr (by rw [hmoved.1]; rfl)
  have hstart : efStart w n = w.modEf n fun e => { e with state := .qualify, insertSince := none } := by
    refine efStart_starts (by rw [hmoved.1]; exact hoff) ?_ (by rw [hmoved.1]; exact hcmd) (by rw [hmoved.1]; exact hshed)
      (by rw [hmoved.1]; exact hret) ?_
    · rw [efEnabled, hcfg]
      exact hen
    · rw [efMayStart, efSequenced, hcfg, hunit]
      exact hmay
  have hgate : efGateOn ((b.modEf n (efSampled b n v)).efAt n) = false := by
    rw [hsample.1]
    exact show efGateOn { b.efAt n with .. } = false by simp [efGateOn, hoff]
  have hlast : afterSample b (b.modEf n (efSampled b n v)) n v = efStart w n := by
    unfold afterSample
    rw [if_neg (by simp [hgate]), if_neg (by simp [hgate]), ← hw]
  refine ⟨efStart w n, by rw [efuseSample_samples hb hrun hn, hlast], ?_⟩
  obtain ⟨hsame, hother⟩ := hmoved.trans (.of_rack (by rw [hrack, modEf_ef_length]; exact hlen)
    (rfl : (w.modEf n fun e => { e with state := .qualify, insertSince := none }).rack = _))
  rw [hstart, hsame]
  exact ⟨rfl, rfl, hother⟩

theorem efuseSample_trips {n : Nat} {v : EfReading} (hrun : efcRuns b = true) (hn : n < 16) (hlen : n < b.rack.ef.length)
    (hgate : efGateOn (b.efAt n) = true) (hcurve : 1 ≤ curveStep (efCfg b n) (b.efAt n) v.i (efRated b n))
    (hsteer : steers b = true) (hleft : (b.efAt n).faults < efRetries b n) : Does (.efuseSample t n v) s fun u =>
      (u.efAt n).state = .retry ∧ (u.efAt n).retryEnd = b.clk + efRetry b n ∧ (u.efAt n).faults = (b.efAt n).faults + 1 ∧
      (u.efAt n).pgood = false ∧ ∀ k, k ≠ n → u.efAt k = b.efAt k := by
  obtain ⟨w, hw⟩ : ∃ w, w = b.modEf n (efSampled b n v) := ⟨_, rfl⟩
  have hmoved := EfMoved.of_rack (u := w) (f := efSampled b n v) hlen (by rw [hw])
  have hwgate : efGateOn (w.efAt n) = true := by rw [hmoved.1]; exact hgate
  have hcfg : efCfg w n = efCfg b n := efCfg_congr (by rw [hmoved.1]; rfl)
  have hretries : efRetries w n = efRetries b n := by rw [efRetries, hcfg]; rfl
  have hretry : efRetry w n = efRetry b n := by rw [efRetry, hcfg]; rfl
  have hfaults : (w.efAt n).faults = (b.efAt n).faults := by rw [hmoved.1]; rfl
  have hlast : afterSample b w n v = efFault w n .curve := if_pos (by rw [hwgate, hmoved.1]; exact decide_eq_true hcurve)
  obtain ⟨hst, hend, hcount, hpg, hother⟩ := efFault_retries (f := .curve) (by rw [hw, modEf_ef_length]; exact hlen) hwgate
    (.inl (by rw [hw]; exact hsteer)) (by rw [hfaults, hretries]; exact hleft)
  refine ⟨efFault w n .curve, by rw [efuseSample_samples hb hrun hn, ← hw, hlast], hst, ?_, ?_, hpg, fun k hk => ?_⟩
  · rw [hend, hretry, hw]
    rfl
  · rw [hcount, hfaults]
  · rw [hother k hk, hmoved.2 k hk]

end

/-! ## The commands -/

section
variable {s : State} {q : Req} (h : Taken s q) (hc : Commands s)
include h hc

/-- A command of form I for one channel that its state allows runs, with the descriptor it names noted. -/
theorem efCommand_runs {op n : Nat} {state : State → Nat → Option Nat} {run : State → Req → Nat → State} {c : Instr}
    (hexec : exec c s = efCommand op state run q s) (hf : FormI s q n) (hn : n < 16) (hst : state s n = none) :
    ∃ x, exec c s = .next (run { touch s with hpr := x } q n) := by
  have ⟨_, _, henv⟩ := h
  obtain ⟨hl, rfl, hz, hd⟩ := hf
  refine ⟨_, hexec.trans (Eq.trans (command_run _ _ q s h ?_) (by rw [noteDesc_eq]))⟩
  have harg : argI 16 false false 0 q.payload = none := by
    have hi : getU q.payload 0 1 ≠ 0xFF := by omega
    simp [argI, firstBad, must, zeroAt, hz, hi, hn]
  refine rejection_of_commands (if_pos hl) hc henv rfl ?_ harg rfl rfl ?_ rfl
  · simp [Nat.not_le.mpr hn, hst]
  · rcases hd with hd | hd
    · simp [ownerBad, descAt, hd]
    · simp only [ownerBad, descAt, descOk_noDesc _ _ _ _ hd, if_false, hd, if_true]

theorem auxSetEf_stores {n : Nat} (hl : q.payload.length = 104) (hidx : getU q.payload 0 1 = n) (hn : n < 16)
    (hlen : n < s.rack.ef.length) (hst : efConflict s n [.off, .latched] = none) (hf : badField efFields q.payload = none)
    (hk : efCheck s q.payload = none) : Does (.auxSetEf q) s fun u => Done1 s u q 0x0B06 3 [] ∧ (u.efAt n).cfg = q.payload ∧
      (∀ k, k ≠ n → u.efAt k = s.efAt k) ∧ u.str = s.str := by
  have ⟨_, _, henv⟩ := h
  subst hidx
  have hack : ackNeeded (storeEf (touch s) q.payload) = ackNeeded s := ackNeeded_congr (by simp [storeEf]) (by simp [storeEf, touch])
  refine ⟨commit (storeEf (touch s) q.payload) 0x0B06 q peerConfig [], ?_, commit_done1 hack .., ?_⟩
  · change execAuxSetEf q s = _
    unfold execAuxSetEf
    rw [command_run _ _ q s h, noteDesc_none _ _ _ rfl]
    refine rejection_of_commands (if_pos hl) hc henv rfl ?_ ?_ rfl rfl rfl rfl
    · simp [Nat.not_le.mpr hn, hst]
    · simp [firstBad, hf, hk]
  · have hset := EfMoved.of_rack (s := s) hlen
      (rfl : ((touch s).modEf (getU q.payload 0 1) fun e => { e with cfg := q.payload }).rack = _)
    obtain ⟨f, hstart, hkeeps⟩ := efStart_moves ((touch s).modEf (getU q.payload 0 1) fun e => { e with cfg := q.payload })
      (by rw [modEf_ef_length]; exact hlen)
    obtain ⟨hsame, hother⟩ := (hset.trans hstart).congr
      (v := commit (storeEf (touch s) q.payload) 0x0B06 q peerConfig []) (by simp [storeEf])
    refine ⟨?_, hother, by simp [storeEf]⟩
    rw [hsame]
    exact (hkeeps _).1

theorem auxEfOn_starts {n : Nat} (hf : FormI s q n) (hn : n < 16) (hlen : n < s.rack.ef.length) (hseq : efSequenced s n = false)
    (hoff : (s.efAt n).state = .off) (hret : (s.efAt n).retired = false) : Does (.auxEfOn q) s fun u =>
      Done1 s u q 0x0B08 3 [] ∧ (u.efAt n).commanded = true ∧
      (efEnabled s n = true → (s.efAt n).shed = false → (u.efAt n).state = .qualify) ∧ ∀ k, k ≠ n → u.efAt k = s.efAt k := by
  obtain ⟨x, hx⟩ := efCommand_runs h hc (c := .auxEfOn q) (by change execAuxEfOn q s = _; unfold execAuxEfOn; rfl) hf hn (by simp [hseq, hoff, hret])
  obtain ⟨v, hv⟩ : ∃ v, v = State.modEf { touch s with hpr := x } n fun e => { e with commanded := true } := ⟨_, rfl⟩
  have hset := EfMoved.of_rack (u := v) (f := fun e => { e with commanded := true }) hlen (by rw [hv]; rfl)
  obtain ⟨f, hstart, hkeeps⟩ := efStart_moves v (n := n) (by rw [hv, modEf_ef_length]; exact hlen)
  have hack : ackNeeded (efStart v n) = ackNeeded s := ackNeeded_congr (by simp [hv]) (by simp [hv, touch])
  refine ⟨commit (efStart v n) 0x0B08 q peerConfig [], by rw [hx, hv], commit_done1 hack .., ?_⟩
  have hrack : (commit (efStart v n) 0x0B08 q peerConfig []).rack = (efStart v n).rack := by simp
  obtain ⟨hsame, hother⟩ := (hset.trans hstart).congr hrack
  refine ⟨by rw [hsame]; exact (hkeeps _).2.1, fun hen hshed => ?_, hother⟩
  have hmay : efMayStart v n = true := by
    have hunit : v.unit = s.unit := by rw [hv]; rfl
    rcases hc with hu | hu <;> simp [efMayStart, hunit, hu]
  rw [efAt_congr hrack, efStart_starts (by rw [hset.1]; exact hoff) ?_ (by rw [hset.1]) (by rw [hset.1]; exact hshed)
    (by rw [hset.1]; exact hret) hmay, (EfMoved.of_rack (by rw [hv, modEf_ef_length]; exact hlen) rfl).1]
  rw [efEnabled, efCfg_congr (s := s) (by rw [hset.1])]
  exact hen

theorem auxEfOff_opens {n : Nat} (hf : FormI s q n) (hn : n < 16) (hlen : n < s.rack.ef.length) (hseq : efSequenced s n = false)
    (hon : (s.efAt n).state = .on) : Does (.auxEfOff q) s fun u => Done1 s u q 0x0B09 3 [] ∧ (u.efAt n).commanded = false ∧
      (u.efAt n).state = .off ∧ (u.efAt n).pgood = false ∧ ∀ k, k ≠ n → u.efAt k = s.efAt k := by
  obtain ⟨x, hx⟩ := efCommand_runs h hc (c := .auxEfOff q) (by change execAuxEfOff q s = _; unfold execAuxEfOff; rfl) hf hn (by simp [hseq])
  have hack : ackNeeded (efOff { touch s with hpr := x } n) = ackNeeded s := ackNeeded_congr rfl rfl
  refine ⟨commit (efOff { touch s with hpr := x } n) 0x0B09 q peerConfig [], hx, commit_done1 hack .., ?_⟩
  obtain ⟨hsame, hother⟩ := (EfMoved.of_rack (s := s) hlen (rfl : (efOff { touch s with hpr := x } n).rack = _)).congr
    (v := commit (efOff { touch s with hpr := x } n) 0x0B09 q peerConfig []) (by simp)
  rw [hsame]
  exact ⟨rfl, by simp [hon], by simp [hon], hother⟩

theorem auxEfReset_resets {n : Nat} (hf : FormI s q n) (hn : n < 16) (hlen : n < s.rack.ef.length)
    (hst : (s.efAt n).state = .latched) (hret : s.retired (uEf n) = false) (hcmd : (s.efAt n).commanded = false) :
    Does (.auxEfReset q) s fun u => Done1 s u q 0x0B0A 3 [] ∧ (u.efAt n).state = .off ∧ (u.efAt n).faults = 0 ∧
      ∀ k, k ≠ n → u.efAt k = s.efAt k := by
  obtain ⟨x, hx⟩ := efCommand_runs h hc (c := .auxEfReset q) (by change execAuxEfReset q s = _; unfold execAuxEfReset; rfl) hf hn (by simp [efConflict, hst])
  obtain ⟨v, hv⟩ : ∃ v, v = (State.modEf { touch s with hpr := x } n fun e => { e with faults := 0 }).modEf n
    fun e => { e with state := .off } := ⟨_, rfl⟩
  have hmoved : EfMoved s v n ((fun e => { e with state := .off }) ∘ fun e => { e with faults := 0 }) := by
    have hzero := EfMoved.of_rack (s := s) hlen
      (rfl : (State.modEf { touch s with hpr := x } n fun e => { e with faults := 0 }).rack = _)
    exact hzero.trans (.of_rack (by rw [modEf_ef_length]; exact hlen) (by rw [hv]))
  have hack : ackNeeded v = ackNeeded s := by rw [hv]; exact ackNeeded_congr rfl rfl
  refine ⟨commit v 0x0B0A q peerConfig [], ?_, commit_done1 hack .., ?_⟩
  · rw [hx]
    have hnot : ¬ (State.modEf { touch s with hpr := x } n fun e => { e with faults := 0 }).retired (uEf n) = true :=
      Bool.not_eq_true _ ▸ hret
    have hidle : efStart v n = v := efStart_idle (by rw [hmoved.1]; exact hcmd)
    exact congrArg Host.Outcome.next ((if_neg hnot).trans (by rw [← hv, hidle]))
  · obtain ⟨hsame, hother⟩ := hmoved.congr (v := commit v 0x0B0A q peerConfig []) (by simp)
    rw [hsame]
    exact ⟨rfl, rfl, hother⟩

theorem auxEfReset_restores {n : Nat} (hf : FormI s q n) (hn : n < 16) (hlen : n < s.rack.ef.length)
    (hret : s.retired (uEf n) = true) (hefret : (s.efAt n).retired = true) : Does (.auxEfReset q) s fun u =>
      (∃ e ∈ u.flt.susp, e.unit = uEf n ∧ e.restoring = true) ∧ (u.efAt n).retired = true ∧
      (∃ e ∈ u.hpr.exec, e.req = q ∧ e.opcode = 0x0B0A) ∧ ∀ k, k ≠ n → u.efAt k = s.efAt k := by
  obtain ⟨x, hx⟩ := efCommand_runs h hc (c := .auxEfReset q) (by change execAuxEfReset q s = _; unfold execAuxEfReset; rfl) hf hn (by simp [efConflict, hefret])
  obtain ⟨v, hv⟩ : ∃ v, v = State.modEf { touch s with hpr := x } n fun e => { e with faults := 0 } := ⟨_, rfl⟩
  obtain ⟨w, hw⟩ : ∃ w, w = (keepExec v 0x0B0A q).setFlt fun f => { f with restores := f.restores ++
    [{ exec := { req := q, opcode := 0x0B0A }, units := [uEf n], failed := false, string := none }] } := ⟨_, rfl⟩
  obtain ⟨e, hmem, hu, hr⟩ := testUnit_restoring w (uEf n)
  obtain ⟨hsame, hother⟩ := EfMoved.of_rack (s := s) (u := testUnit w (uEf n) true) (f := fun e => { e with faults := 0 }) hlen
    (by simp [hw, hv, keepExec]; rfl)
  refine ⟨testUnit w (uEf n) true, ?_, ⟨e, hmem, hu, hr⟩, by rw [hsame]; exact hefret, ⟨{ req := q, opcode := 0x0B0A }, ?_, rfl, rfl⟩,
    hother⟩
  · rw [hx, hw, hv]
    exact congrArg Host.Outcome.next (if_pos hret)
  · simp [hw, keepExec]

end

/-- Settles O32: the commands and the events of a channel, clause by clause. -/
theorem efuseChannels : Obligations.EfuseChannels :=
  ⟨fun _ _ _ h hc => auxSetEf_stores h hc, fun _ _ _ h hc hf hn hlen hseq hoff hret _ => auxEfOn_starts h hc hf hn hlen hseq hoff hret,
    fun _ _ _ h hc => auxEfOff_opens h hc,
    fun _ _ _ h hc hf hn hlen hst hret _ hcmd => auxEfReset_resets h hc hf hn hlen hst hret hcmd,
    fun _ _ _ h hc => auxEfReset_restores h hc, fun _ _ _ _ => efuseSample_qualifies rfl, fun _ _ _ _ => efuseSample_trips rfl,
    fun _ _ _ => insertionDelayEnd_ramps rfl, fun _ _ _ => windowExit_qualifies rfl, fun _ _ _ => efuseFastTrip_latches rfl,
    fun _ _ _ => softStartExpiry_retries rfl, fun _ _ _ => softStartExpiry_counts rfl, fun _ _ _ => powerGood_turnsOn rfl,
    fun _ _ _ => gateFault_latches rfl, fun _ _ _ => efuseFault_stress rfl, fun _ _ _ => retryTimerExpiry_stays_off rfl,
    fun _ _ _ => faultCountClear_clears rfl⟩

end Sys2Proof.Machine
end

section
/-! SUPPORT. The auxiliary bus: rectifiers, capping, loss of AC (12_rack_power.md R351 to R366). -/

namespace Sys2Proof.Machine

-- One proof at a time: together their threads exceed the memory of the check.
set_option Elab.async false

/-! ## Rectifiers -/

def rectAt (s : State) (k : Nat) : Rect := s.rack.rect.getD k {}

/-- Rectifier `k` after reply `x`. -/
def replied (s : State) (k : Nat) (x : RectReading) (r : Rect) : Rect :=
  let old := rectAt s k
  let misses := if x.answered then 0 else old.misses + 1
  let good := if x.answered then readingGood s k x else old.good && decide (misses < 3)
  { r with misses := misses, good := good, lost := old.lost || (old.good && !good)
           reading := if x.answered then some x else r.reading, goodSince := track s (good && x.answered) r.goodSince }

theorem groupRecord_if (c : Bool) (s : State) (grp src lv rule obj val : Nat) :
    (if c then groupRecord s grp src lv rule obj val else s).rack = s.rack ∧
      (if c then groupRecord s grp src lv rule obj val else s).str = s.str := by
  cases c <;> simp

/-- A reply is noted with its rectifier; for the rest it is only recorded. -/
theorem rectReply_notes (s : State) (k : Nat) (x : RectReading) :
    (rectReply s k x).rack = (modRect s k (replied s k x)).rack ∧ (rectReply s k x).str = s.str := by
  unfold rectReply
  dsimp only
  simp only [groupRecord_if]
  exact ⟨rfl, rfl⟩

theorem rectAt_congr {s u : State} (h : u.rack = s.rack) (k : Nat) : rectAt u k = rectAt s k := by rw [rectAt, rectAt, h]

theorem rectAt_modRect_same {s : State} {k : Nat} (h : k < s.rack.rect.length) (f : Rect → Rect) :
    rectAt (modRect s k f) k = f (rectAt s k) := getD_modify_same _ _ _ _ h

theorem rectAt_modRect_ne (s : State) {j k : Nat} (h : k ≠ j) (f : Rect → Rect) : rectAt (modRect s j f) k = rectAt s k :=
  getD_modify_ne _ _ _ h

/-- The configuration, the number of rectifiers, the strings and rectifier `k` stay. -/
def RectStays (k : Nat) (s u : State) : Prop :=
  u.rack.cfg = s.rack.cfg ∧ u.rack.rect.length = s.rack.rect.length ∧ u.str = s.str ∧ rectAt u k = rectAt s k ∧
    u.rack.alerts = s.rack.alerts

theorem RectStays.refl (k : Nat) (s : State) : RectStays k s s := ⟨rfl, rfl, rfl, rfl, rfl⟩

theorem RectStays.trans {k : Nat} {s u v : State} (h : RectStays k s u) (hv : RectStays k u v) : RectStays k s v := by
  obtain ⟨hcfg, hlen, hstr, hrect, halerts⟩ := h
  obtain ⟨hcfg', hlen', hstr', hrect', halerts'⟩ := hv
  exact ⟨hcfg'.trans hcfg, hlen'.trans hlen, hstr'.trans hstr, hrect'.trans hrect, halerts'.trans halerts⟩

theorem rectReply_stays (s : State) {j k : Nat} (h : k ≠ j) (x : RectReading) : RectStays k s (rectReply s j x) := by
  obtain ⟨hrack, hstr⟩ := rectReply_notes s j x
  refine ⟨?_, ?_, hstr, (rectAt_congr hrack k).trans (rectAt_modRect_ne s h _), ?_⟩
  · rw [hrack]
    rfl
  · rw [hrack]
    simp [modRect, State.setRack]
  · rw [hrack]
    rfl

/-- The replies of one poll, in the order of the rectifiers. -/
def replies (r : List RectReading) (s : State) (k : Nat) : State :=
  match r[k]? with | none => s | some x => rectReply s k x

theorem replies_stay (r : List RectReading) {k : Nat} {l : List Nat} (h : k ∉ l) : ∀ s, RectStays k s (l.foldl (replies r) s) := by
  induction l with
  | nil => exact .refl k
  | cons j l ih =>
    intro s
    have hj : k ≠ j := fun hk => h (hk ▸ List.mem_cons_self)
    refine .trans ?_ (ih (fun hk => h (List.mem_cons_of_mem _ hk)) _)
    unfold replies
    split
    · exact .refl k s
    · exact rectReply_stays s hj _

theorem readingGood_congr {s u : State} {k : Nat} (hcfg : u.rack.cfg = s.rack.cfg) (hrect : rectAt u k = rectAt s k) (x : RectReading) :
    readingGood u k x = readingGood s k x := by
  change readingGood { u with rack := { u.rack with } } k x = _
  have hset : vBusSet u = vBusSet s := by rw [vBusSet, vBusSet, busCfg, busCfg, hcfg]
  have hcom : (u.rack.rect.getD k {}).commanded = (s.rack.rect.getD k {}).commanded := congrArg Rect.commanded hrect
  unfold readingGood
  rw [hset, hcom]

/-- What a poll notes of a rectifier, trims and commands aside. -/
def noted (r : Rect) : Nat × Bool × Bool × Option RectReading := (r.misses, r.good, r.lost, r.reading)

/-- The poll of a declared rectifier notes its reply. -/
theorem replies_note {s : State} {r : List RectReading} {k : Nat} {x : RectReading} (hk : k < 16) (hu : rectUsed s k = true)
    (hlen : k < s.rack.rect.length) (hx : r[k]? = some x) :
    noted (rectAt ((declaredRects s).foldl (replies r) s) k) = noted (replied s k x (rectAt s k)) ∧
      ((declaredRects s).foldl (replies r) s).str = s.str := by
  have hmem : k ∈ declaredRects s := List.mem_filter.mpr ⟨List.mem_range.mpr hk, hu⟩
  have hnodup : (declaredRects s).Nodup := List.nodup_range.filter _
  obtain ⟨l₁, l₂, hl⟩ := List.append_of_mem hmem
  rw [hl] at hnodup ⊢
  have hnot₁ : k ∉ l₁ := fun h => (List.nodup_append.mp hnodup).2.2 k h k List.mem_cons_self rfl
  have hnot₂ : k ∉ l₂ := (List.nodup_cons.mp (List.nodup_append.mp hnodup).2.1).1
  rw [List.foldl_append, List.foldl_cons]
  obtain ⟨v, hv⟩ : ∃ v, v = l₁.foldl (replies r) s := ⟨_, rfl⟩
  have hbefore : RectStays k s v := hv ▸ replies_stay r hnot₁ s
  obtain ⟨hcfg, hlen', hstr, hrect, -⟩ := hbefore
  obtain ⟨hrack, hreply⟩ := rectReply_notes v k x
  have hself : replies r v k = rectReply v k x := by
    unfold replies
    rw [hx]
  rw [← hv, hself]
  obtain ⟨-, -, hafter, hlast, -⟩ := replies_stay r hnot₂ (rectReply v k x)
  refine ⟨?_, hafter.trans (hreply.trans hstr)⟩
  rw [hlast, rectAt_congr hrack, rectAt_modRect_same (by rw [hlen']; exact hlen), hrect]
  unfold noted replied
  dsimp only
  rw [hrect, readingGood_congr hcfg hrect]

/-- What is noted of rectifier `k`, and the strings, stay. -/
abbrev NotedStays (k : Nat) (s u : State) : Prop := noted (rectAt u k) = noted (rectAt s k) ∧ u.str = s.str

theorem NotedStays.trans {k : Nat} {s u v : State} (h : NotedStays k s u) (hv : NotedStays k u v) : NotedStays k s v :=
  ⟨hv.1.trans h.1, hv.2.trans h.2⟩

theorem NotedStays.foldl {k : Nat} {F : State → Nat → State} (h : ∀ v j, NotedStays k v (F v j)) (l : List Nat) (s : State) :
    NotedStays k s (l.foldl F s) :=
  foldl_rel (R := NotedStays k) (fun _ => ⟨rfl, rfl⟩) (fun _ _ _ => .trans) id F h l s

theorem modRect_notes (s : State) (j k : Nat) {f : Rect → Rect} (h : ∀ x, noted (f x) = noted x) : NotedStays k s (modRect s j f) :=
  ⟨getD_modify_field noted s.rack.rect j k {} h, rfl⟩

/-- Sharing the load trims and commands rectifiers, and notes nothing else of them. -/
theorem shareLoad_notes (s : State) (r : List RectReading) (k : Nat) : NotedStays k s (shareLoad s r) := by
  unfold shareLoad
  dsimp only
  refine NotedStays.trans ?_ (NotedStays.foldl ?_ _ _)
  · exact ⟨rfl, rfl⟩
  · exact fun v j => modRect_notes v j k fun _ => rfl

/-- So does what a poll does after the replies. -/
theorem pollEnd_notes (s : State) (r : List RectReading) (k : Nat) {F G : Rack → Rack} (hF : ∀ y, (F y).rect = y.rect)
    (hG : ∀ y, (G y).rect = y.rect) : NotedStays k s ((shareLoad (s.setRack F) r).setRack G) := by
  have hset (v : State) {H : Rack → Rack} (hH : ∀ y, (H y).rect = y.rect) : NotedStays k v (v.setRack H) := by
    refine ⟨?_, rfl⟩
    rw [rectAt, State.setRack, hH, rectAt]
  exact ((hset s hF).trans (shareLoad_notes _ r k)).trans (hset _ hG)

section
variable {t : Nat} {s b : State} (hb : s.advance t = b)
include hb

theorem pmbusPoll_notes {k : Nat} {x : RectReading} {r : List RectReading} (hrun : auxRuns b = true) (hc : Commands b)
    (hk : k < 16) (hu : rectUsed b k = true) (hlen : k < b.rack.rect.length) (hx : r[k]? = some x) :
    Does (.pmbusPoll t r) s fun u => noted (u.rack.rect.getD k {}) = noted (replied b k x (rectAt b k)) ∧ u.str = b.str := by
  have hcmd : b.unit.commands = true := by rcases hc with h | h <;> rw [h] <;> rfl
  change ∃ u, execPmbusPoll t r s = _ ∧ _
  unfold execPmbusPoll
  rw [hb]
  dsimp only
  refine ⟨_, rfl, ?_⟩
  rw [if_neg (by simp [hrun, hcmd])]
  obtain ⟨hnote, hstr⟩ := replies_note hk hu hlen hx
  refine And.imp (fun h => Eq.trans h hnote) (fun h => Eq.trans h hstr)
    (?_ : NotedStays k ((declaredRects b).foldl (replies r) b) (State.setRack (shareLoad (State.setRack _ _) r) _))
  exact pollEnd_notes ((declaredRects b).foldl (replies r) b) r k (fun _ => rfl) (fun _ => rfl)

theorem pmbusPoll_loses {k : Nat} {r : List RectReading} (hrun : auxRuns b = true) (hc : Commands b) (hk : k < 16)
    (hu : rectUsed b k = true) (hlen : k < b.rack.rect.length)
    (hr : r = [] ∨ r = List.replicate 16 ⟨false, 0, 0, 0, 0, 0, 0, false, false⟩) (hne : r ≠ [])
    (hmiss : (b.rack.rect.getD k {}).misses = 2) (hgood : (b.rack.rect.getD k {}).good = true)
    (_ : (b.rack.rect.getD k {}).lost = false) : Does (.pmbusPoll t r) s fun u => (u.rack.rect.getD k {}).lost = true ∧
      (u.rack.rect.getD k {}).good = false ∧ (u.rack.rect.getD k {}).misses = 3 ∧ u.str = b.str := by
  have hx : r[k]? = some ⟨false, 0, 0, 0, 0, 0, 0, false, false⟩ := by
    rw [hr.resolve_left hne, List.getElem?_replicate, if_pos hk]
  obtain ⟨u, hexec, hnote, hstr⟩ := pmbusPoll_notes hb hrun hc hk hu hlen hx
  have hm : (rectAt b k).misses = 2 := hmiss
  have hg : (rectAt b k).good = true := hgood
  simp only [noted, replied, hm, hg, Prod.mk.injEq] at hnote
  obtain ⟨hmisses, hgood', hlost, -⟩ := hnote
  exact ⟨u, hexec, hlost.trans (Bool.or_true _), hgood', hmisses, hstr⟩

theorem pmbusPoll_reads {k : Nat} {x : RectReading} {r : List RectReading} (hrun : auxRuns b = true) (hc : Commands b)
    (hk : k < 16) (hu : rectUsed b k = true) (hlen : k < b.rack.rect.length) (hx : r[k]? = some x) (hans : x.answered = true)
    (hread : readingGood b k x = true) : Does (.pmbusPoll t r) s fun u => (u.rack.rect.getD k {}).good = true ∧
      (u.rack.rect.getD k {}).misses = 0 ∧ (u.rack.rect.getD k {}).reading = some x ∧
      (u.rack.rect.getD k {}).lost = (b.rack.rect.getD k {}).lost ∧ u.str = b.str := by
  obtain ⟨u, hexec, hnote, hstr⟩ := pmbusPoll_notes hb hrun hc hk hu hlen hx
  simp only [noted, replied, hans, hread, if_true, Bool.not_true, Bool.and_false, Bool.or_false, Prod.mk.injEq] at hnote
  obtain ⟨hmisses, hgood, hlost, hreading⟩ := hnote
  exact ⟨u, hexec, hgood, hmisses, hreading, hlost, hstr⟩

theorem pmbusAlert_reads {seg k : Nat} {w : BitVec 16} {x : RectReading} (hrun : auxRuns b = true) (hc : Commands b)
    (hu : rectUsed b k = true) (hseg : rectSegment b k = seg) (hlen : k < b.rack.rect.length)
    (hread : (b.rack.rect.getD k {}).reading = some x) : Does (.pmbusAlert t seg [(k, w)]) s fun u =>
      u.rack.alerts = b.rack.alerts + 1 ∧
      (u.rack.rect.getD k {}).reading = some { x with statusWord := w, answered := true } ∧
      (u.rack.rect.getD k {}).misses = 0 := by
  have hcmd : b.unit.commands = true := by rcases hc with h | h <;> rw [h] <;> rfl
  obtain ⟨v, hv⟩ : ∃ v, v = b.setRack fun r => { r with alerts := r.alerts + 1 } := ⟨_, rfl⟩
  obtain ⟨hrack, -⟩ := rectReply_notes v k { x with statusWord := w, answered := true }
  refine ⟨rectReply v k { x with statusWord := w, answered := true }, ?_, ?_⟩
  · change execPmbusAlert t seg [(k, w)] s = _
    unfold execPmbusAlert
    rw [hb]
    dsimp only
    rw [if_neg (by simp [hrun, hcmd]), ← hv, List.foldl_cons, List.foldl_nil]
    have hvrect : (v.rack.rect.getD k {}).reading = some x := by rw [hv]; exact hread
    have hused : rectUsed v k = true ∧ rectSegment v k = seg := by rw [hv]; exact ⟨hu, hseg⟩
    simp only [hvrect]
    rw [if_pos (by simp [hused])]
  · change _ ∧ (rectAt _ k).reading = _ ∧ (rectAt _ k).misses = _
    rw [rectAt_congr hrack, rectAt_modRect_same (by rw [hv]; exact hlen), hrack, hv]
    exact ⟨rfl, rfl, rfl⟩

theorem rectifierRejoin_rejoins {k : Nat} (hlen : k < b.rack.rect.length) (hlost : (b.rack.rect.getD k {}).lost = true)
    (hgood : (b.rack.rect.getD k {}).good = true) (hheld : heldFor b (b.rack.rect.getD k {}).goodSince (10 * nsS) = true) :
    Does (.rectifierRejoin t k) s fun u => (u.rack.rect.getD k {}).lost = false ∧ (u.rack.rect.getD k {}).trim = 0 := by
  refine ⟨modRect b k fun x => { x with lost := false, trim := 0 }, ?_, ?_⟩
  · change execRectifierRejoin t k s = _
    unfold execRectifierRejoin
    rw [hb]
    dsimp only
    rw [if_pos (by rw [hlost, hgood, hheld]; rfl)]
  · change (rectAt _ k).lost = _ ∧ (rectAt _ k).trim = _
    rw [rectAt_modRect_same hlen]
    exact ⟨rfl, rfl⟩

/-! ## Samples of the bus -/

theorem auxSample_samples {vsns : Nat} {uv : Int} {ac : Bool} (hrun : auxRuns b = true) : Does (.auxSample t vsns uv ac) s fun u =>
    u.rack.vBus = vsns ∧ u.rack.iShelf = (if busFlag b 0 = true ∧ rShelf b ≠ 0
      then clampI (-100000) 100000 uv * 1000 / (rShelf b : Int) else 0) ∧
    u.rack.shelf = (if busFlag b 0 then clampI 0 (shelfFull b) (b.rack.shelf + u.rack.iShelf) else 0) ∧
    u.rack.vCount = b.rack.vCount + 1 ∧ u.str = b.str := by
  change ∃ u, execAuxSample t vsns uv ac s = _ ∧ _
  unfold execAuxSample
  rw [hb]
  dsimp only
  rw [if_neg (by simp [hrun])]
  exact ⟨_, rfl, rfl, rfl, rfl, rfl, rfl⟩

theorem shelfFull_fills (hfit : busFlag b 0 = true) (hheld : heldFor b b.rack.slowSince (3600 * nsS) = true) :
    Does (.shelfFull t) s fun u => u.rack.shelf = shelfFull b ∧ u.rack.ef = b.rack.ef := by
  refine ⟨b.setRack fun r => { r with shelf := shelfFull b }, ?_, rfl, rfl⟩
  change execShelfFull t s = _
  unfold execShelfFull
  rw [hb]
  dsimp only
  rw [if_pos (by rw [hfit, hheld]; rfl)]

end

/-! ## Shedding -/

/-- What a channel's state is once the cap has switched it off. -/
def shedMark (e : Ef) : Ef :=
  { e with shed := true, pgood := false, insertSince := none
           state := match e.state with | .qualify | .ramp | .on => .off | x => x }

theorem shedCh_rack (s : State) (kind n : Nat) : (shedCh s kind n).rack =
    { (s.modEf n shedMark).rack with shed := { kind := kind, ch := n, power := efPower s n } :: s.rack.shed } := rfl

theorem efAt_of_ef {s u : State} (h : u.rack.ef = s.rack.ef) (k : Nat) : u.efAt k = s.efAt k := by rw [State.efAt, State.efAt, h]

theorem shedCh_moves {s : State} {n : Nat} (hn : n < s.rack.ef.length) (kind : Nat) : EfMoved s (shedCh s kind n) n shedMark := by
  obtain ⟨hsame, hother⟩ := EfMoved.of_rack hn (rfl : (s.modEf n shedMark).rack = _)
  have hef : (shedCh s kind n).rack.ef = (s.modEf n shedMark).rack.ef := by rw [shedCh_rack]
  exact ⟨(efAt_of_ef hef n).trans hsame, fun k hk => (efAt_of_ef hef k).trans (hother k hk)⟩

theorem shedCh_ne (s : State) {n k : Nat} (hk : k ≠ n) (kind : Nat) : (shedCh s kind n).efAt k = s.efAt k :=
  getD_modify_ne _ _ _ hk

theorem efRunning_congr {s u : State} {n : Nat} (h : (u.efAt n).state = (s.efAt n).state) : efRunning u n = efRunning s n := by
  unfold efRunning
  rw [h]

/-- A channel that the cap has switched off does not run; one that is not in the list never does. -/
theorem shedCh_stops (s : State) (kind n : Nat) : efRunning (shedCh s kind n) n = false := by
  by_cases hn : n < s.rack.ef.length
  · unfold efRunning
    rw [(shedCh_moves hn kind).1]
    cases hst : (s.efAt n).state <;> simp [shedMark, hst]
  · have hdef : (shedCh s kind n).efAt n = {} := by
      rw [State.efAt, shedCh_rack]
      simp [State.modEf, Nat.not_lt.mp hn]
    unfold efRunning
    rw [hdef]

/-- One channel of the class, if it runs and is not shed. -/
def shedIf (kind c : Nat) (s : State) (n : Nat) : State :=
  if efClass s n == c && efRunning s n && !(s.efAt n).shed then shedCh s kind n else s

theorem shedIf_ne (s : State) {n k : Nat} (hk : k ≠ n) (kind c : Nat) : (shedIf kind c s n).efAt k = s.efAt k := by
  unfold shedIf
  split
  · exact shedCh_ne s hk kind
  · rfl

/-- A channel of class `c` that runs is shed. -/
def ClassShed (c : Nat) (s : State) (n : Nat) : Prop := efClass s n = c → efRunning s n = true → (s.efAt n).shed = true

theorem efClass_congr {s u : State} {n : Nat} (h : (u.efAt n).cfg = (s.efAt n).cfg) : efClass u n = efClass s n := by
  rw [efClass, efClass, efCfg_congr h]

theorem ClassShed.congr {c : Nat} {s u : State} {n : Nat} (h : ClassShed c s n) (hu : u.efAt n = s.efAt n) : ClassShed c u n := by
  unfold ClassShed
  rw [efClass_congr (congrArg Ef.cfg hu), efRunning_congr (congrArg Ef.state hu), hu]
  exact h

theorem shedIf_sheds (s : State) (kind c n : Nat) : ClassShed c (shedIf kind c s n) n := by
  unfold shedIf
  split
  · intro _ hrun
    rw [shedCh_stops] at hrun
    cases hrun
  next hnot =>
    intro hclass hrun
    simpa [hclass, hrun] using hnot

theorem shedIfs_shed (kind c : Nat) {n : Nat} {l : List Nat} (h : n ∈ l) : ∀ s, ClassShed c (l.foldl (shedIf kind c) s) n := by
  have hkeep (l : List Nat) : ∀ s, ClassShed c s n → ClassShed c (l.foldl (shedIf kind c) s) n := by
    induction l with
    | nil => exact fun _ => id
    | cons k l ih =>
      intro s hs
      refine ih _ ?_
      by_cases hk : n = k
      · exact hk ▸ shedIf_sheds s kind c n
      · exact hs.congr (shedIf_ne s hk kind c)
  induction l with
  | nil => cases h
  | cons k l ih =>
    intro s
    rcases List.mem_cons.mp h with rfl | hl
    · exact hkeep l _ (shedIf_sheds s kind c n)
    · exact ih hl _

theorem shedIf_cfg (s : State) (kind c n k : Nat) : ((shedIf kind c s n).efAt k).cfg = (s.efAt k).cfg := by
  unfold shedIf
  split
  · exact getD_modify_field Ef.cfg s.rack.ef n k {} fun _ => rfl
  · rfl

/-- Once a class is shed, no channel of it runs without its mark; the classes stay. -/
theorem shedClass_sheds (s : State) (kind c : Nat) : ∀ n ∈ List.range 16, efClass s n = c →
    efRunning (shedClass s kind c) n = true → ((shedClass s kind c).efAt n).shed = true := by
  intro n hn hclass
  have hcfg : ((shedClass s kind c).efAt n).cfg = (s.efAt n).cfg :=
    foldl_rel (R := fun a b : State => (b.efAt n).cfg = (a.efAt n).cfg) (fun _ => rfl) (fun _ _ _ h h' => h'.trans h) id
      (shedIf kind c) (fun v k => shedIf_cfg v kind c k n) (List.range 16) s
  exact shedIfs_shed kind c hn s ((efClass_congr hcfg).trans hclass)

/-- The marks of a loss of AC, the dispatch and the strings: what shedding a class leaves. -/
def lossMarks (s : State) : Bool × Bool × Bool × Dsp × List Str := (s.rack.acLoss, s.rack.shelfLow, s.rack.shelfCut, s.dsp, s.str)

theorem shedIf_lossMarks (s : State) (kind c n : Nat) : lossMarks (shedIf kind c s n) = lossMarks s := by
  unfold shedIf
  split <;> rfl

theorem shedClass_lossMarks (s : State) (kind c : Nat) : lossMarks (shedClass s kind c) = lossMarks s :=
  foldl_rel (R := fun a b => b = a) (fun _ => rfl) (fun _ _ _ h h' => h'.trans h) lossMarks (shedIf kind c)
    (fun v n => shedIf_lossMarks v kind c n) (List.range 16) s

/-- The state in which a loss of AC begins to shed. -/
def acLost (s : State) : State :=
  let s := groupRecord (s.setRack fun r => { r with acLoss := true }) gAux srcAux lvInfo 360 0 1
  let s := s.setRack fun r => { r with cap := (capOf s).1 }
  (acSources s).setDsp fun d => { d with drawAllow := some 0 }

theorem acLost_notes (s : State) : (acLost s).rack.ef = s.rack.ef ∧ (acLost s).rack.acLoss = true ∧
    (acLost s).dsp.drawAllow = some 0 ∧ (acLost s).str = s.str := by
  simp [acLost, acSources, State.setRack, State.setDsp]

theorem shedFans_ef (s : State) : (shedFans s).rack.ef = s.rack.ef ∧ (shedFans s).rack.shelfLow = s.rack.shelfLow := ⟨rfl, rfl⟩

/-- The channel that the cap switches off next is judged by the channels alone. -/
theorem nextShed_congr {s u : State} (h : u.rack.ef = s.rack.ef) (c : Nat) : nextShed u c = nextShed s c := by
  have hat := efAt_of_ef h
  have hclass (n : Nat) : efClass u n = efClass s n := efClass_congr (congrArg Ef.cfg (hat n))
  have hrun (n : Nat) : efRunning u n = efRunning s n := efRunning_congr (congrArg Ef.state (hat n))
  have hrank (n : Nat) : efRank u n = efRank s n := by rw [efRank, efRank, efCfg_congr (congrArg Ef.cfg (hat n))]
  simp only [nextShed, hclass, hrun, hrank, hat]

section
variable {t : Nat} {s b : State} (hb : s.advance t = b)
include hb

theorem acLoss_sheds (hrun : auxRuns b = true) (hloss : b.rack.acLoss = false)
    (hwhy : heldFor b b.rack.acOkLowSince (20 * nsMs) = true ∨ b.rack.inputFault = true ∨
      heldFor b b.rack.lowVSince (20 * nsMs) = true) : Does (.acLoss t) s fun u => u.rack.acLoss = true ∧
      u.dsp.drawAllow = some 0 ∧
      (∀ n ∈ List.range 16, efClass b n = 1 → efRunning u n = true → (u.efAt n).shed = true) ∧ u.str = b.str := by
  change ∃ u, execAcLoss t s = _ ∧ _
  unfold execAcLoss
  rw [hb]
  dsimp only
  rw [if_pos (by simpa [hrun, hloss, or_assoc] using hwhy)]
  refine ⟨shedClass (acLost b) 0 1, rfl, ?_⟩
  obtain ⟨hef, hacLoss, hdraw, hstr⟩ := acLost_notes b
  have hmarks := shedClass_lossMarks (acLost b) 0 1
  simp only [lossMarks, Prod.mk.injEq] at hmarks
  obtain ⟨hl, -, -, hd, hs⟩ := hmarks
  exact ⟨hl.trans hacLoss, by rw [hd, hdraw], fun n hn hc =>
    shedClass_sheds (acLost b) 0 1 n hn ((efClass_congr (congrArg Ef.cfg (efAt_of_ef hef n))).trans hc), hs.trans hstr⟩

theorem acReturn_ends (hrun : auxRuns b = true) (hloss : b.rack.acLoss = true)
    (hheld : heldFor b b.rack.noLossSince (5 * nsS) = true) (hshare : sharing b ≠ []) : Does (.acReturn t) s fun u =>
      u.rack.acLoss = false ∧ u.rack.shelfLow = false ∧ u.rack.shelfCut = false ∧ u.rack.shed = b.rack.shed := by
  change ∃ u, execAcReturn t s = _ ∧ _
  unfold execAcReturn
  rw [hb]
  dsimp only
  rw [if_pos (by simp [hrun, hloss, hheld, hshare])]
  exact ⟨_, rfl, by simp [acSources, State.setRack]⟩

theorem shelfLow_sheds {x : Nat} (hrun : auxRuns b = true) (hloss : b.rack.acLoss = true) (hlow : b.rack.shelfLow = false)
    (hrem : remaining b = some x) (hx : x ≤ tShelfLow b) : Does (.shelfLow t) s fun u => u.rack.shelfLow = true ∧
      ∀ n ∈ List.range 16, efClass b n = 3 → efRunning u n = true → (u.efAt n).shed = true := by
  change ∃ u, execShelfLow t s = _ ∧ _
  unfold execShelfLow
  rw [hb]
  dsimp only
  rw [hrem]
  rw [if_pos (by simp [hrun, hloss, hlow, hx])]
  refine ⟨_, rfl, ?_⟩
  have hfans (l : List Nat) : ∀ v : State, (l.foldl (fun s _ => if fanCanFall s then shedFans s else s) v).rack.ef = v.rack.ef ∧
      (l.foldl (fun s _ => if fanCanFall s then shedFans s else s) v).rack.shelfLow = v.rack.shelfLow := by
    induction l with
    | nil => exact fun _ => ⟨rfl, rfl⟩
    | cons a l ih =>
      intro v
      obtain ⟨hef, hlow⟩ := ih (if fanCanFall v then shedFans v else v)
      rw [List.foldl_cons, hef, hlow]
      split
      · exact shedFans_ef v
      · exact ⟨rfl, rfl⟩
  obtain ⟨hef, hmark⟩ := hfans (List.range 10) (b.setRack fun r => { r with shelfLow := true })
  obtain ⟨v, hv⟩ : ∃ v, v = (List.range 10).foldl (fun s _ => if fanCanFall s then shedFans s else s)
    (b.setRack fun r => { r with shelfLow := true }) := ⟨_, rfl⟩
  rw [← hv] at hef hmark ⊢
  have hmarks := shedClass_lossMarks v 2 3
  simp only [lossMarks, Prod.mk.injEq] at hmarks
  obtain ⟨-, hl, -⟩ := hmarks
  exact ⟨hl.trans hmark, fun n hn hc =>
    shedClass_sheds v 2 3 n hn ((efClass_congr (congrArg Ef.cfg (efAt_of_ef (s := b) hef n))).trans hc)⟩

theorem shelfCut_sheds (hrun : auxRuns b = true) (hloss : b.rack.acLoss = true) (hcut : b.rack.shelfCut = false)
    (hv : b.rack.vBus < vShelfCut b) : Does (.shelfCut t) s fun u => u.rack.shelfCut = true ∧
      ∀ n ∈ List.range 16, efClass b n = 3 → efRunning u n = true → (u.efAt n).shed = true := by
  change ∃ u, execShelfCut t s = _ ∧ _
  unfold execShelfCut
  rw [hb]
  dsimp only
  rw [if_pos (by simp [hrun, hloss, hcut, hv])]
  obtain ⟨v, hv, hef, hmark⟩ : ∃ v : State,
      v = groupRecord (b.setRack fun r => { r with shelfCut := true }) gAux srcAux lvWarn 360 0 b.rack.vBus ∧
      v.rack.ef = b.rack.ef ∧ v.rack.shelfCut = true := ⟨_, rfl, by simp [State.setRack], by simp [State.setRack]⟩
  refine ⟨shedClass v 2 3, by rw [hv], ?_⟩
  have hmarks := shedClass_lossMarks v 2 3
  simp only [lossMarks, Prod.mk.injEq] at hmarks
  obtain ⟨-, -, hl, -⟩ := hmarks
  exact ⟨hl.trans hmark, fun n hn hc =>
    shedClass_sheds v 2 3 n hn ((efClass_congr (congrArg Ef.cfg (efAt_of_ef hef n))).trans hc)⟩

omit hb in
/-- Without AC the shelf's limit is a cap. -/
theorem acLoss_of_uncapped (h : (capOf b).1 = none) : b.rack.acLoss = false := by
  rw [← Bool.not_eq_true]
  intro hloss
  have hstep (l : List (Nat × Nat)) (e : Nat × Nat) (f : Option Nat × Nat → Nat × Nat → Option Nat × Nat)
      (hf : ∀ a e, (f a e).1 ≠ none) : ((l ++ [e]).foldl f (none, 0)).1 ≠ none := by
    rw [List.foldl_append]
    exact hf _ _
  unfold capOf at h
  simp only [hloss, if_true] at h
  refine hstep _ _ _ (fun a e => ?_) h
  split
  · simp
  · split <;> simp_all

/-- The state in which CAP_EVALUATION judges the cap: the allowances set, the cap noted. -/
def capNoted (s : State) : State :=
  let cap := (capOf s).1
  let draw : Option Nat :=
    if s.rack.acLoss then some 0
    else cap.map fun c => (((95 * 10 * c : Nat) : Int) - ((s.rack.pAux : Int) - (pBal s : Int))).toNat / 1000
  let ret := if s.rack.vBus ≤ vBusSet s + 500 then s.rack.pRet else 0
  let s := s.setDsp fun d => { d with drawAllow := draw, returnAllow := ret }
  s.setRack fun r => { r with cap := cap, restoreSince := track s (restorable s) r.restoreSince }

theorem capEvaluation_sheds {c n : Nat} (hrun : auxRuns b = true) (hc : Commands b) (hcap : (capOf b).1 = some c)
    (habove : 1000 * c < b.rack.pAux) (hnext : nextShed b 1 = some n) (hn : n < b.rack.ef.length) :
    Does (.capEvaluation t) s fun u => (u.efAt n).shed = true ∧ (u.efAt n).state ≠ .on ∧ (∀ k, k ≠ n → u.efAt k = b.efAt k) ∧
      u.rack.shed.length = b.rack.shed.length + 1 ∧ u.rack.cap = some c := by
  have hcmd : b.unit.commands = true := by rcases hc with h | h <;> rw [h] <;> rfl
  have hnextNoted : nextShed (capNoted b) 1 = some n := (nextShed_congr (s := b) rfl 1).trans hnext
  obtain ⟨hsame, hother⟩ := shedCh_moves (s := capNoted b) hn 0
  have hat (k : Nat) : (capNoted b).efAt k = b.efAt k := efAt_of_ef rfl k
  refine ⟨shedCh (capNoted b) 0 n, ?_, ?_, ?_, fun k hk => (hother k hk).trans (hat k), rfl, hcap⟩
  · change execCapEvaluation t s = _
    unfold execCapEvaluation
    rw [hb]
    dsimp only
    rw [if_neg (by simp [hrun, hcmd]), if_neg (by simp [hcap, habove])]
    change Host.Outcome.next (match nextShed (capNoted b) 1 with | some n => shedCh (capNoted b) 0 n | none => _) = _
    rw [hnextNoted]
  · rw [hsame]
    rfl
  · rw [hsame]
    cases hst : ((capNoted b).efAt n).state <;> simp [shedMark, hst]

theorem capEvaluation_frees (hrun : auxRuns b = true) (hc : Commands b) (hcap : (capOf b).1 = none) :
    Does (.capEvaluation t) s fun u => u.dsp.drawAllow = none ∧ u.rack.cap = none ∧ u.rack.capUnmet = false ∧
      u.rack.ef = b.rack.ef ∧ u.str = b.str := by
  have hcmd : b.unit.commands = true := by rcases hc with h | h <;> rw [h] <;> rfl
  refine ⟨(capNoted b).setRack fun r => { r with capUnmet := false }, ?_, ?_, hcap, rfl, rfl, rfl⟩
  · change execCapEvaluation t s = _
    unfold execCapEvaluation
    rw [hb]
    dsimp only
    rw [if_neg (by simp [hrun, hcmd]), if_pos (by simp [hcap])]
    rfl
  · change (if b.rack.acLoss then some 0 else (capOf b).1.map _) = none
    rw [hcap, acLoss_of_uncapped hcap]
    rfl

theorem shedRestore_restores {x : Shed} {rest : List Shed} (hshed : b.rack.shed = x :: rest) (hloss : b.rack.acLoss = false)
    (hrest : restorable b = true) (hheld : heldFor b b.rack.restoreSince (10 * nsS) = true) (hkind : x.kind = 0)
    (hn : x.ch < b.rack.ef.length) : Does (.shedRestore t) s fun u => u.rack.shed = rest ∧ (u.efAt x.ch).shed = false ∧
      ∀ k, k ≠ x.ch → u.efAt k = b.efAt k := by
  obtain ⟨v, hv⟩ : ∃ v, v = (b.setRack fun r => { r with shed := rest, restoreSince := none }).modEf x.ch
    fun e => { e with shed := false } := ⟨_, rfl⟩
  have hmoved : EfMoved b v x.ch fun e => { e with shed := false } := by
    rw [hv]
    exact EfMoved.of_rack (s := b.setRack fun r => { r with shed := rest, restoreSince := none }) hn rfl
  obtain ⟨f, hstart, hkeeps⟩ := efStart_moves v (n := x.ch) (by rw [hv, modEf_ef_length]; exact hn)
  obtain ⟨hsame, hother⟩ := hmoved.trans hstart
  refine ⟨efStart v x.ch, ?_, ?_, ?_, hother⟩
  · change execShedRestore t s = _
    unfold execShedRestore
    rw [hb]
    simp only [hshed]
    rw [if_neg (by simp [hloss, hrest, hheld]), if_neg (by simp [hkind]), hv]
  · have hrack : v.rack.shed = rest := by rw [hv]; rfl
    unfold efStart
    dsimp only
    split <;> exact hrack
  · rw [hsame]
    exact (hkeeps _).2.2

end

/-- Settles O31: the events of the bus, the rectifiers and the cap, clause by clause. -/
theorem rackBusAndCap : Obligations.RackBusAndCap :=
  ⟨fun _ _ _ _ _ => auxSample_samples rfl, fun _ _ => shelfFull_fills rfl, fun _ _ _ _ => pmbusPoll_loses rfl,
    fun _ _ _ _ _ => pmbusPoll_reads rfl, fun _ _ _ _ _ _ => pmbusAlert_reads rfl, fun _ _ _ => rectifierRejoin_rejoins rfl,
    fun _ _ => acLoss_sheds rfl, fun _ _ => acReturn_ends rfl, fun _ _ _ => shelfLow_sheds rfl, fun _ _ => shelfCut_sheds rfl,
    fun _ _ _ _ => capEvaluation_sheds rfl, fun _ _ => capEvaluation_frees rfl, fun _ _ _ _ => shedRestore_restores rfl⟩

end Sys2Proof.Machine
end

section
/-! SUPPORT. Beats, claims, takeover and roles (11_redundancy.md R322 to R335, R345). -/

namespace Sys2Proof.Machine

-- One proof at a time: together their threads exceed the memory of the check.
set_option Elab.async false

/-! ## A well-formed beat -/

/-- A bit of the shift register leaves a value of its width. -/
theorem crcStepL_lt {w poly : Nat} (hp : poly < 2 ^ w) (k : Nat) : ∀ c, crcStepL w poly c (k + 1) < 2 ^ w := by
  have hbit (c : Nat) : (if c.testBit (w - 1) then (2 * c) % 2 ^ w ^^^ poly else (2 * c) % 2 ^ w) < 2 ^ w := by
    have hm : (2 * c) % 2 ^ w < 2 ^ w := Nat.mod_lt _ (Nat.two_pow_pos w)
    split
    · exact Nat.xor_lt_two_pow hm hp
    · exact hm
  induction k with
  | zero => exact hbit
  | succ k ih => exact fun c => ih _

theorem crc8_lt (b : Bytes) : crc8 b < 256 := by
  unfold crc8 crcL
  induction b using List.reverseRecOn with
  | nil => exact Nat.zero_lt_succ _
  | append_singleton b x _ =>
    rw [List.foldl_append, List.foldl_cons, List.foldl_nil]
    exact lt_of_lt_of_eq (crcStepL_lt (w := 8) (poly := 7) (by decide) 7 _) (by decide)

theorem beatCode_le (u : UnitState) : u.beatCode ≤ 4 := by cases u <;> decide

theorem toNat_le_one (b : Bool) : b.toNat ≤ 1 := Bool.toNat_le b

/-- Sync, role, flags, reserved byte and check byte of a sent beat are as R327 demands. -/
theorem beatOk_beatBytes (s : State) (dormant : Bool) : beatOk (beatBytes s dormant) = true := by
  have hrole := beatCode_le s.unit
  have hv := toNat_le_one s.pwr.vinValid
  have hy := toNat_le_one s.red.yield
  have ha := toNat_le_one s.red.swapAsked
  have ht := toNat_le_one (takeoverReady s)
  have hh := toNat_le_one s.hpr.handover
  have hd := toNat_le_one dormant
  simp only [beatOk, beatBytes, leU, getU, List.cons_append, List.nil_append, List.length_cons, List.length_nil, List.getD_cons_zero,
    List.getD_cons_succ, BitVec.toNat_ofNat, Bool.and_eq_true, beq_iff_eq, decide_eq_true_eq, List.take_succ_cons, List.take_zero,
    Nat.mod_eq_of_lt (crc8_lt _), Nat.mul_zero, Nat.add_zero, Nat.zero_mod]
  exact ⟨⟨⟨⟨⟨trivial, trivial⟩, by omega⟩, by omega⟩, rfl⟩, trivial⟩

/-! ## Claims -/

theorem issueClaim_claim (s : State) : (issueClaim s).red.claim = claimFloor s + 1 := by
  unfold issueClaim; dsimp only; split <;> rfl

theorem claim_le_floor (s : State) : s.red.claim ≤ claimFloor s :=
  (Nat.le_max_left _ _).trans (Nat.le_max_left _ _)

theorem partnerClaim_le_floor (s : State) : s.red.partnerClaim ≤ claimFloor s :=
  (Nat.le_max_right _ _).trans (Nat.le_max_right _ _)

theorem setRole_unit (s : State) (u : UnitState) (cause : Nat) (takeover : Bool) : (setRole s u cause takeover).unit = u := by
  unfold setRole
  dsimp only
  split
  · exact setUnit_unit ..
  · exact ((roleRecord_keeps ..).2.2.2.1).trans (setUnit_unit ..)

/-! ## The new active unit -/

/-- The unit is ACTIVE on a claim above every known one, starts injection a second later and every planner at once. -/
def TookOver (b u : State) : Prop :=
  u.unit = .active ∧ u.red.claim = claimFloor b + 1 ∧ u.tpe.startAt = some (b.tsu.now + nsS) ∧ (∀ x ∈ u.tpe.pairs, x.env = .off) ∧
    (∀ x ∈ u.bal, x.cycleT = 0) ∧ u.red.lastTakeoverT = b.clk ∧ u.red.swapAt = none

theorem assumeDuties_pairs (held : Option IsoResult) (s : State) : ∀ x ∈ (assumeDuties held s).tpe.pairs, x.env = .off := by
  intro x hx
  obtain ⟨y, -, rfl⟩ := List.mem_map.1 hx
  rfl

theorem assumeDuties_bal (held : Option IsoResult) (s : State) : ∀ x ∈ (assumeDuties held s).bal, x.cycleT = 0 := by
  intro x hx
  obtain ⟨y, -, rfl⟩ := List.mem_map.1 hx
  rfl

/-- The unit in the ACTIVE role with the partner's strings. -/
def withStrings (b : State) (cause : Nat) (record : Bool) : State := applyReplica (setRole (issueClaim b) .active cause record)

theorem withStrings_unit (b : State) (cause : Nat) (record : Bool) : (withStrings b cause record).unit = .active :=
  ((applyReplica_keeps _).2.2.2.1).trans (setRole_unit ..)

theorem withStrings_red (b : State) (cause : Nat) (record : Bool) : (withStrings b cause record).red = (issueClaim b).red := by
  simp [withStrings]
theorem withStrings_tsu (b : State) (cause : Nat) (record : Bool) : (withStrings b cause record).tsu = b.tsu := by
  simp [withStrings]
theorem withStrings_clk (b : State) (cause : Nat) (record : Bool) : (withStrings b cause record).clk = b.clk := by
  simp [withStrings]

theorem withStrings_claim (b : State) (cause : Nat) (record : Bool) : (withStrings b cause record).red.claim = claimFloor b + 1 :=
  (congrArg Red.claim (withStrings_red ..)).trans (issueClaim_claim b)

theorem takeover_takes (b : State) : TookOver b (takeover b) := by
  have heq : takeover b = (assumeDuties (issueClaim b).hvi.iso.result (withStrings b 333 true)).setRed fun r =>
      { r with lastTakeoverT := (withStrings b 333 true).clk
               dueT := (withStrings b 333 true).clk + swapInterval (withStrings b 333 true), dueSince := none
               overdue := false, swapAt := none, swapAsked := false, swapGranted := false, yield := false
               swapVerifyAt := none } := rfl
  rw [heq]
  refine ⟨withStrings_unit b 333 true, withStrings_claim b 333 true, ?_, assumeDuties_pairs (issueClaim b).hvi.iso.result (withStrings b 333 true),
    assumeDuties_bal (issueClaim b).hvi.iso.result (withStrings b 333 true), withStrings_clk b 333 true, rfl⟩
  exact congrArg (fun y : Tsu => some (y.now + nsS)) (withStrings_tsu b 333 true)

/-! ## Stages, strings and roles -/

/-- A CX-4 after a higher claim: where it changes unit, its coils wait for valid words. -/
def coilFollows (claim : Nat) (own : Bool) (now : Nat) (c : Cont) : Cont :=
  { c with claim := claim, followsUs := own, heldSince := if c.followsUs == own then c.heldSince else some now }

theorem haltStr_disconnects (s : State) {i k : Nat} (cause : Nat) (hi : i < s.str.length)
    (h : k = i ∨ strConnected s i = false) : strConnected (haltStr s k cause) i = false := by
  by_cases hk : k = i
  · subst hk
    by_cases hc : strConnected s k = true
    · rw [strConnected, haltStr_halted cause hc hi]
    · rwa [haltStr_of_not_connected cause (by simpa using hc), ← Bool.not_eq_true]
  · rw [strConnected_congr (haltStr_strAt_ne s cause (Ne.symm hk)), h.resolve_left hk]

/-- Halting a list of strings leaves none of them connected. -/
theorem haltAll_disconnects (cause i : Nat) (l : List Nat) : ∀ s : State, i < s.str.length → i ∈ l ∨ strConnected s i = false →
    strConnected (l.foldl (fun s k => haltStr s k cause) s) i = false := by
  induction l with
  | nil => exact fun s _ h => h.resolve_left (List.not_mem_nil)
  | cons k l ih =>
    intro s hi h
    refine ih _ (by rwa [str_length_of_sizes (haltStr_sizes ..)]) ?_
    rcases h with h | h
    · rcases List.mem_cons.1 h with rfl | h
      · exact .inr (haltStr_disconnects s cause hi (.inl rfl))
      · exact .inl h
    · exact .inr (haltStr_disconnects s cause hi (.inr h))

/-- What RESYNC starts from. -/
theorem enterResync_enters (s : State) (cause : Nat) : (enterResync s cause).unit = .resync ∧
    (enterResync s cause).red.resyncStep = 1 ∧ (enterResync s cause).red.resyncT = s.clk ∧
    (enterResync s cause).red.partnerClaim = s.red.partnerClaim ∧ (enterResync s cause).red.peerDown = s.red.peerDown := by
  refine ⟨setRole_unit .., ?_⟩
  simp [enterResync, peerSend]

/-! ## Events -/

section
variable {t : Nat} {s b : State} (hb : s.advance t = b)
include hb

theorem heartbeatSend_sends (h : beats b = true) : Does (.heartbeatSend t) s fun u => u.red.lastBeatTx = beatBytes b false ∧
    beatOk u.red.lastBeatTx = true ∧ u.red.beatSeq = (b.red.beatSeq + 1) % 256 ∧ u.red.beatsSent = b.red.beatsSent + 1 ∧
    u.unit = b.unit := by
  refine ⟨sendBeat b false, ?_, rfl, beatOk_beatBytes b false, rfl, rfl, rfl⟩
  change execHeartbeatSend t s = _
  unfold execHeartbeatSend
  rw [hb]
  dsimp only
  rw [if_pos h]

theorem heartbeatSend_silent (h : beats b = false) : Does (.heartbeatSend t) s fun u => u.red.beatsOn = false ∧
    u.red.beatsSent = b.red.beatsSent ∧ u.red.lastBeatTx = b.red.lastBeatTx := by
  refine ⟨b.setRed fun r => { r with beatsOn := false }, ?_, rfl, rfl, rfl⟩
  change execHeartbeatSend t s = _
  unfold execHeartbeatSend
  rw [hb]
  dsimp only
  rw [if_neg (by simp [h])]

theorem claimFrame_gx2 {p claim : Nat} {own : Bool} (hp : p < b.gx2.length) (hc : (b.gx2At p).claim < claim) :
    Does (.claimFrame t (.gx2 p) own claim) s fun u => (u.gx2At p).claim = claim ∧ (u.gx2At p).followsUs = own ∧
      u.str = b.str := by
  have hat := getD_modify_same b.gx2 p (fun g : Gx2 => { g with claim := claim, followsUs := own }) {} hp
  refine ⟨(b.modGx2 p fun g => { g with claim := claim, followsUs := own }).setRed fun r =>
    { r with stageClaim := max r.stageClaim claim }, ?_, congrArg Gx2.claim hat, congrArg Gx2.followsUs hat, rfl⟩
  change execClaimFrame t (.gx2 p) own claim s = _
  unfold execClaimFrame
  rw [hb]
  dsimp only
  rw [if_pos hc]

theorem claimFrame_cx4 {i claim : Nat} {own : Bool} (hi : i < b.saf.cont.length) (hc : (b.contAt i).claim < claim)
    (hown : (b.contAt i).followsUs ≠ own) : Does (.claimFrame t (.cx4 i) own claim) s fun u => (u.contAt i).claim = claim ∧
      (u.contAt i).followsUs = own ∧ (u.contAt i).heldSince = some b.clk ∧
      (u.contAt i).energised = (b.contAt i).energised := by
  refine ⟨(b.modCont i (coilFollows claim own b.clk)).setRed fun r => { r with stageClaim := max r.stageClaim claim }, ?_, ?_⟩
  rotate_left
  · have hat : ((b.modCont i (coilFollows claim own b.clk)).setRed fun r => { r with stageClaim := max r.stageClaim claim }).contAt i =
        coilFollows claim own b.clk (b.contAt i) := getD_modify_same _ _ _ _ hi
    beta_reduce
    rw [hat]
    exact ⟨rfl, rfl, if_neg fun h => hown (eq_of_beq h), rfl⟩
  change execClaimFrame t (.cx4 i) own claim s = _
  unfold execClaimFrame
  rw [hb]
  dsimp only
  rw [if_pos hc]
  rfl

theorem claimFrame_ignored {i claim : Nat} {own : Bool} (hc : claim ≤ (b.contAt i).claim) :
    Does (.claimFrame t (.cx4 i) own claim) s fun u => u = b := by
  refine ⟨b, ?_, rfl⟩
  change execClaimFrame t (.cx4 i) own claim s = _
  unfold execClaimFrame
  rw [hb]
  dsimp only
  rw [if_neg (by omega)]

theorem coilHoldExpiry_opens {i : Nat} (hh : heldFor b (b.contAt i).heldSince (100 * nsMs) = true) (hi : i < b.saf.cont.length) :
    Does (.coilHoldExpiry t i) s fun u => (u.contAt i).energised = 0 ∧ (u.contAt i).heldSince = none ∧ u.str = b.str := by
  have hat := getD_modify_same b.saf.cont i (fun c : Cont => { c with energised := 0, heldSince := none }) {} hi
  refine ⟨b.modCont i fun c => { c with energised := 0, heldSince := none }, ?_, congrArg Cont.energised hat,
    congrArg Cont.heldSince hat, rfl⟩
  change execCoilHoldExpiry t i s = _
  unfold execCoilHoldExpiry
  rw [hb]
  dsimp only
  rw [if_pos hh]

theorem takeover_silence (hr : takeoverReady b = true) (hd : b.red.partnerDormant = false)
    (hh : heldFor b b.red.beatT (32 * nsUs) = true) : Does (.takeover t) s (TookOver b) := by
  refine ⟨takeover b, ?_, takeover_takes b⟩
  change execTakeover t s = _
  unfold execTakeover
  rw [hb]
  dsimp only
  rw [if_pos (by simp [hr, hd, hh])]

theorem peerBeatLoss_takes (hu : b.unit = .standby) (hf : replicaFresh b = true) (ht : someTierP b = true)
    (hd : b.red.partnerDormant = false) (hx : b.red.xclProven = false) (hh : heldFor b b.red.peerBeatT (3 * nsMs) = true) :
    Does (.peerBeatLoss t) s fun u => u.unit = .active ∧ u.red.claim = claimFloor b + 1 ∧ u.red.lastTakeoverT = b.clk := by
  obtain ⟨hunit, hclaim, -, -, -, hlast, -⟩ := takeover_takes b
  refine ⟨takeover b, ?_, hunit, hclaim, hlast⟩
  change execPeerBeatLoss t s = _
  unfold execPeerBeatLoss
  rw [hb]
  dsimp only
  rw [if_pos (by simp [hu, hf, ht, hd, hx, hh])]

theorem yield_yields (hu : b.unit = .active) (hy : yieldEnabled b = true) (hp : b.red.partnerYieldT = none)
    (hl : b.red.lowerSince.any (fun x => heldFor b x (100 * nsMs)) = true) :
    Does (.yield t) s fun u => u.red.yield = true ∧ u.unit = .active ∧ u.str = b.str := by
  refine ⟨b.setRed fun r => { r with yield := true }, ?_, rfl, hu, rfl⟩
  change execYield t s = _
  unfold execYield
  rw [hb]
  dsimp only
  rw [if_pos (by simp [hu, hy, hp, hl])]

theorem heartbeat_sends (h : beats b = true) (hr : b.unit.isRole = true) : Does (.heartbeat t) s fun u =>
    u.red.peerOut.head? = some 7 ∧ u.red.peerTx = (b.red.peerTx + 1) % 2 ^ 32 ∧ u.unit = b.unit := by
  refine ⟨peerSend b 7, ?_, peerSend_newest b 7, rfl, rfl⟩
  change execHeartbeat t s = _
  unfold execHeartbeat
  rw [hb]
  dsimp only
  rw [if_pos (by simp [h, hr])]

theorem peerState_sends (hr : b.unit.isRole = true) (hp : b.pwr.state = .active) : Does (.peerState t) s fun u =>
    u.red.peerOut.head? = some peerState ∧ u.red.peerTx = (b.red.peerTx + 1) % 2 ^ 32 ∧ u.str = b.str := by
  refine ⟨peerSend b peerState, ?_, peerSend_newest b peerState, rfl, rfl⟩
  change execPeerState t s = _
  unfold execPeerState
  rw [hb]
  dsimp only
  rw [if_pos (by simp [hr, hp, State.asleep])]

theorem higherClaimSeen_resyncs {claim : Nat} (hu : b.unit = .active) (hc : b.red.claim < claim) (hs : b.red.swapAt = none) :
    Does (.higherClaimSeen t claim) s fun u => u.unit = .resync ∧ u.red.resyncStep = 1 ∧ u.red.resyncT = b.clk ∧
      claim ≤ u.red.partnerClaim := by
  obtain ⟨hunit, hstep, ht, hp, -⟩ := enterResync_enters (b.setRed fun r => { r with partnerClaim := max r.partnerClaim claim }) 323
  refine ⟨_, ?_, hunit, hstep, ht, hp ▸ Nat.le_max_right ..⟩
  change execHigherClaimSeen t claim s = _
  unfold execHigherClaimSeen higherClaim
  rw [hb]
  rw [if_pos (by simp [hu, hc, hs])]

end

theorem heldFor_congr {s u : State} (h : u.clk = s.clk) (since : Option Nat) (d : Nat) : heldFor u since d = heldFor s since d := by
  unfold heldFor
  rw [h]

theorem heldFor_mono {s : State} {since : Option Nat} {d e : Nat} (hde : d ≤ e) (h : heldFor s since e = true) :
    heldFor s since d = true := by
  unfold heldFor at *
  split at h
  · cases h
  · simp only [decide_eq_true_eq] at *
    omega

/-- A unit that gives up waiting for acknowledgements. -/
theorem releaseAcks_none (s : State) : (releaseAcks s none).red = { s.red with ackWait := [] } := by
  simp [releaseAcks]

section
variable {t : Nat} {s b : State} (hb : s.advance t = b)
include hb

theorem peerDown_releases (h : heldFor b b.red.peerT (10 * nsMs) = true) (h' : heldFor b b.red.peerT nsS = false) :
    Does (.peerDown t) s fun u => u.red.peerDown = true ∧ u.red.ackWait = [] ∧ u.unit = b.unit := by
  obtain ⟨v, hv⟩ : ∃ v, v = releaseAcks (b.setRed fun r => { r with peerDown := true }) none := ⟨_, rfl⟩
  have hred : v.red = { b.red with peerDown := true, ackWait := [] } := by rw [hv, releaseAcks_none]; rfl
  have hclk : v.clk = b.clk := by rw [hv]; simp
  refine ⟨v, ?_, by rw [hred], by rw [hred], by rw [hv]; simp⟩
  change execPeerDown t s = _
  unfold execPeerDown
  rw [hb]
  dsimp only
  rw [if_pos h, ← hv, if_neg (by rw [heldFor_congr hclk, hred]; simp [h'])]

theorem peerDown_resyncs (h' : heldFor b b.red.peerT nsS = true) (hu : b.unit = .standby) (hd : b.red.partnerDormant = false) :
    Does (.peerDown t) s fun u => u.red.peerDown = true ∧ u.unit = .resync ∧ u.red.resyncStep = 1 := by
  obtain ⟨v, hv⟩ : ∃ v, v = releaseAcks (b.setRed fun r => { r with peerDown := true }) none := ⟨_, rfl⟩
  have hred : v.red = { b.red with peerDown := true, ackWait := [] } := by rw [hv, releaseAcks_none]; rfl
  have hclk : v.clk = b.clk := by rw [hv]; simp
  have hunit : v.unit = .standby := by rw [hv]; simp [hu]
  obtain ⟨hresync, hstep, -, -, hdown⟩ := enterResync_enters v 345
  refine ⟨enterResync v 345, ?_, by rw [hdown, hred], hresync, hstep⟩
  change execPeerDown t s = _
  unfold execPeerDown
  rw [hb]
  dsimp only
  rw [if_pos (heldFor_mono (by decide) h'), ← hv, if_pos (by rw [heldFor_congr hclk, hunit, hred]; simp [h', hd])]

/-- The unit that knows its partner is gone. -/
def alone (b : State) : State :=
  releaseAcks (b.setRed fun r =>
    { r with present := false, swapAsked := false, swapGranted := false, swapAt := none, peerRx := none }) none

omit hb in
theorem alone_red (b : State) : (alone b).red =
    { b.red with present := false, swapAsked := false, swapGranted := false, swapAt := none, peerRx := none, ackWait := [] } :=
  releaseAcks_none _

omit hb in
theorem alone_unit (b : State) : (alone b).unit = b.unit := by simp [alone]

omit hb in
theorem alone_str (b : State) : (alone b).str = b.str := by simp [alone]

omit hb in
theorem alone_strings (b : State) : (alone b).strings = b.strings := by simp [alone, State.strings]

theorem partnerAbsent_alone (hp : presentNow b = false) : exec (.partnerAbsent t) s = .next (match (alone b).unit with
    | .active => setRole (alone b) .solo 323 false
    | .resync => soloFromResync (alone b)
    | _ => alone b) := by
  change execPartnerAbsent t s = _
  unfold execPartnerAbsent
  rw [hb]
  dsimp only
  rw [if_neg (by simp [hp])]
  rfl

theorem partnerAbsent_solo (hp : presentNow b = false) (hu : b.unit = .active) : Does (.partnerAbsent t) s fun u =>
    u.unit = .solo ∧ u.red.present = false ∧ u.red.ackWait = [] ∧ u.str = b.str := by
  have hred : (setRole (alone b) .solo 323 false).red = (alone b).red := by simp
  refine ⟨setRole (alone b) .solo 323 false, ?_, setRole_unit .., by rw [hred, alone_red], by rw [hred, alone_red], ?_⟩
  · rw [partnerAbsent_alone hb hp, alone_unit, hu]
  · simp [alone_str]

theorem partnerAbsent_halts (hp : presentNow b = false) (hu : b.unit = .resync) : Does (.partnerAbsent t) s fun u =>
    u.unit = .solo ∧ u.red.claim = claimFloor b + 1 ∧ ∀ i, i < b.strings → i < b.str.length → strConnected u i = false := by
  obtain ⟨v, hv⟩ : ∃ v, v = (List.range (alone b).strings).foldl (fun s i => haltStr s i 323) (alone b) := ⟨_, rfl⟩
  have hred : v.red = (alone b).red := by rw [hv]; simp
  refine ⟨soloFromResync (alone b), ?_, setRole_unit .., ?_, fun i hi hl => ?_⟩
  · rw [partnerAbsent_alone hb hp, alone_unit, hu]
  · have hclaim : (soloFromResync (alone b)).red.claim = claimFloor v + 1 := by
      unfold soloFromResync
      rw [← hv, ← issueClaim_claim]
      simp
    rw [hclaim, claimFloor, hred, alone_red]
    rfl
  · have hstr : (soloFromResync (alone b)).str = v.str := by
      unfold soloFromResync
      rw [← hv]
      simp
    rw [strConnected_congr (strAt_congr hstr i), hv]
    exact haltAll_disconnects 323 i _ _ (by rwa [alone_str]) (.inl (List.mem_range.2 (by rwa [alone_strings])))

theorem dormantPartnerTimeout_solo (hd : b.red.partnerDormant = true) (hh : heldFor b b.red.wakeT nsS = true)
    (hu : b.unit = .active) : Does (.dormantPartnerTimeout t) s fun u => u.unit = .solo ∧ u.red.partnerDormant = false ∧
      u.red.present = false ∧ u.str = b.str := by
  obtain ⟨v, hv⟩ : ∃ v, v = b.setRed fun r => { r with partnerDormant := false, present := false, wakeT := none } := ⟨_, rfl⟩
  have hred : (setRole v .solo 332 false).red = { b.red with partnerDormant := false, present := false, wakeT := none } := by
    rw [hv]; simp
  refine ⟨setRole v .solo 332 false, ?_, setRole_unit .., by rw [hred], by rw [hred], by rw [hv]; simp⟩
  change execDormantPartnerTimeout t s = _
  unfold execDormantPartnerTimeout
  rw [hb]
  dsimp only
  rw [if_pos (by simp [hd, hh]), ← hv, show v.unit = .active by rw [hv]; exact hu]

end

/-! ## A beat from the partner -/

/-- The unit after it has noted a good beat. -/
structure Noted (beat : Bytes) (b n : State) : Prop where
  beatT : n.red.beatT = some b.clk
  beatsRx : n.red.beatsRx = b.red.beatsRx + 1
  role : n.red.beat.role = getU beat 1 1
  claim : n.red.beat.claim = getU beat 4 4
  partner : n.red.partnerClaim = getU beat 4 4
  dormant : n.red.partnerDormant = (getU beat 2 1).testBit 5
  present : n.red.present = true
  own : n.red.claim = b.red.claim
  replica : n.red.replica = b.red.replica
  proven : b.red.xclProven = true → n.red.xclProven = true
  rest : n = { b with red := n.red }

/-- Proving XCL touches its own two fields of the pair. -/
theorem proveXcl_sets (s : State) : ∃ since proven, (s.red.xclProven = true → proven = true) ∧
    proveXcl s = s.setRed fun r => { r with provenSince := since, xclProven := proven } := by
  by_cases h : s.red.xclProven = true
  · exact ⟨s.red.provenSince, s.red.xclProven, id, if_pos h⟩
  · exact ⟨_, _, fun hx => absurd hx h, if_neg h⟩

/-- A unit of higher tier than the partner's beat says the partner's string `i` has. -/
def outTiered (beat : Bytes) (s : State) (i : Nat) : Bool :=
  s.unit == .active && decide (i < s.strings) && decide ((s.strAt i).tier.code < beatTier (getU beat 8 2) i)

/-- What a good beat leaves of itself. -/
def noteBeat (beat : Bytes) (s : State) : State :=
  s.setRed fun r =>
    { r with beat := { role := getU beat 1 1, flags := getU beat 2 1, seq := getU beat 3 1, claim := getU beat 4 4
                       tiers := getU beat 8 2 }
             beatT := some s.clk, beatsRx := r.beatsRx + 1, partnerClaim := getU beat 4 4
             partnerDormant := (getU beat 2 1).testBit 5, wakeT := if (getU beat 2 1).testBit 5 then r.wakeT else none
             present := true, lowerSince := r.lowerSince.mapIdx fun i x => track s (outTiered beat s i) x
             partnerYieldT := if (getU beat 2 1).testBit 1 then some s.clk else r.partnerYieldT }

theorem noteBeat_notes (beat : Bytes) (b : State) : Noted beat b (noteBeat beat (proveXcl b)) := by
  obtain ⟨since, proven, hproven, hset⟩ := proveXcl_sets b
  rw [hset]
  exact ⟨rfl, rfl, rfl, rfl, rfl, rfl, rfl, rfl, rfl, hproven, rfl⟩

/-- A good beat is noted; then a higher claim, a yield or a lost partner may move the unit. -/
theorem beatReceived_notes {t : Nat} {s b : State} (hb : s.advance t = b) {beat : Bytes} (hr : b.unit.isRole = true)
    (hok : beatOk beat = true) : exec (.beatReceived t beat) s = .next
      (let v := higherClaim (noteBeat beat (proveXcl b)) (getU beat 4 4)
       if ((getU beat 2 1).testBit 1 && takeoverReady v) || takesBack v ((proveXcl b).red.beat.role == 3) (getU beat 1 1) then
         takeover v
       else if v.unit == .solo && getU beat 1 1 == 2 then setRole v .active 323 false else v) := by
  change execBeatReceived t beat s = _
  unfold execBeatReceived
  rw [hb]
  dsimp only
  rw [if_neg (by simp [hr]), if_neg (by simp [hok])]
  rfl

section
variable {t : Nat} {s b : State} {beat : Bytes} (hb : s.advance t = b)
include hb

theorem beatReceived_bad (hr : b.unit.isRole = true) (hbad : beatOk beat = false) : Does (.beatReceived t beat) s fun u =>
    u.red.beatsBad = b.red.beatsBad + 1 ∧ u.red.beat = b.red.beat ∧ u.red.beatT = b.red.beatT ∧ u.unit = b.unit := by
  obtain ⟨v, hv⟩ : ∃ v, v = b.setRed fun r => { r with beatsBad := r.beatsBad + 1 } := ⟨_, rfl⟩
  have hred : (groupRecord v gRed srcSup lvWarn 331 0 b.red.beatsBad).red = { b.red with beatsBad := b.red.beatsBad + 1 } := by
    rw [hv]; simp
  refine ⟨groupRecord v gRed srcSup lvWarn 331 0 b.red.beatsBad, ?_, by rw [hred], by rw [hred], by rw [hred], ?_⟩
  · change execBeatReceived t beat s = _
    unfold execBeatReceived
    rw [hb]
    dsimp only
    rw [if_neg (by simp [hr]), if_pos (by simp [hbad]), ← hv]
  · rw [hv]; simp

theorem beatReceived_takes (hr : b.unit.isRole = true) (hok : beatOk beat = true) (hy : (getU beat 2 1).testBit 1 = false)
    (hu : b.unit = .active) (hc : getU beat 4 4 ≤ b.red.claim) : Does (.beatReceived t beat) s fun u =>
      u.red.beatT = some b.clk ∧ u.red.beatsRx = b.red.beatsRx + 1 ∧ u.red.beat.role = getU beat 1 1 ∧
      u.red.beat.claim = getU beat 4 4 ∧ u.red.partnerDormant = (getU beat 2 1).testBit 5 ∧ u.red.present = true ∧
      u.unit = .active ∧ u.str = b.str := by
  have hn := noteBeat_notes beat b
  have hnotes := beatReceived_notes hb hr hok
  generalize noteBeat beat (proveXcl b) = n at hn hnotes
  have hunit : n.unit = .active := by rw [hn.rest]; exact hu
  have hsame : higherClaim n (getU beat 4 4) = n := if_neg (by rw [hn.own]; simp [hc])
  refine ⟨n, ?_, hn.beatT, hn.beatsRx, hn.role, hn.claim, hn.dormant, hn.present, hunit, by rw [hn.rest]⟩
  rw [hnotes, hsame]
  dsimp only
  rw [if_neg (by simp [hy, takesBack, hunit]), if_neg (by simp [hunit])]

theorem beatReceived_yields (hok : beatOk beat = true) (hy : (getU beat 2 1).testBit 1 = true) (hu : b.unit = .standby)
    (hready : takeoverReady b = true) (hx : b.red.xclProven = true) (_ : claimFloor b < 4294967295) :
    Does (.beatReceived t beat) s fun u => u.unit = .active ∧ b.red.claim < u.red.claim ∧ getU beat 4 4 < u.red.claim := by
  have hn := noteBeat_notes beat b
  have hnotes := beatReceived_notes hb (by rw [hu]; rfl) hok
  generalize noteBeat beat (proveXcl b) = n at hn hnotes
  have hunit : n.unit = .standby := by rw [hn.rest]; exact hu
  have hsame : higherClaim n (getU beat 4 4) = n := if_neg (by simp [hunit])
  have hnready : takeoverReady n = true := by
    have hfresh : replicaFresh n = replicaFresh b := by rw [replicaFresh, hn.replica, replicaFresh, hn.rest]
    have htier : someTierP n = someTierP b := by rw [hn.rest]; rfl
    have hhand : n.hpr = b.hpr := by rw [hn.rest]
    rw [takeoverReady, hu, hx] at hready
    rw [takeoverReady, hunit, hfresh, htier, hhand, hn.proven hx, hready]
  obtain ⟨hactive, hclaim, -⟩ := takeover_takes n
  have hfloor := partnerClaim_le_floor n
  rw [hn.partner] at hfloor
  refine ⟨takeover n, ?_, hactive, ?_, ?_⟩
  · rw [hnotes, hsame]
    dsimp only
    rw [if_pos (by simp [hy, hnready])]
  · have hown := claim_le_floor n
    rw [hn.own] at hown
    omega
  · omega

end

/-- Settles O29, clause by clause: what each event of the pair does. -/
theorem heartbeatAndTakeover : Obligations.HeartbeatAndTakeover :=
  ⟨fun _ _ => heartbeatSend_sends rfl, fun _ _ => heartbeatSend_silent rfl, fun _ _ _ => beatReceived_takes rfl,
    fun _ _ _ => beatReceived_bad rfl, fun _ _ _ => beatReceived_yields rfl, fun _ _ _ _ _ => claimFrame_gx2 rfl,
    fun _ _ _ _ _ => claimFrame_cx4 rfl, fun _ _ _ _ _ => claimFrame_ignored rfl, fun _ _ _ => coilHoldExpiry_opens rfl,
    fun _ _ => takeover_silence rfl, fun _ _ => peerBeatLoss_takes rfl, fun _ _ => yield_yields rfl,
    fun _ _ _ => higherClaimSeen_resyncs rfl, fun _ _ => heartbeat_sends rfl, fun _ _ => peerState_sends rfl,
    fun _ _ => peerDown_releases rfl, fun _ _ => peerDown_resyncs rfl, fun _ _ => partnerAbsent_solo rfl,
    fun _ _ => partnerAbsent_halts rfl, fun _ _ => dormantPartnerTimeout_solo rfl⟩

end Sys2Proof.Machine
end

section
/-! SUPPORT. Role swaps, resync, shadow comparison and PEER messages (11_redundancy.md R337 to R350). -/

namespace Sys2Proof.Machine

-- One proof at a time: together their threads exceed the memory of the check.
set_option Elab.async false

/-! ## The commands -/

section
variable {s : State} {q : Req} (h : Taken s q)
include h

theorem redSwap_asks (hu : s.unit = .active) (hl : q.payload.length = 0) (hallowed : swapAllowed s = true)
    (hat : s.red.swapAt = none) : Does (.redSwap q) s fun u => Answered u q 0x0A04 stOk 0 [] ∧ u.red.swapAsked = true ∧
      u.red.swapAt = some (s.tsu.now + 2 * nsMs) ∧ u.red.peerOut.head? = some 8 ∧ u.unit = .active ∧ u.str = s.str := by
  have ⟨_, _, henv⟩ := h
  obtain ⟨v, hv⟩ : ∃ v, v = (requestSwap (touch s)).setRed fun r => { r with unresolved := false } := ⟨_, rfl⟩
  have hred : (ok v 0x0A04 q []).red = v.red := by simp [ok]
  refine ⟨ok v 0x0A04 q [], ?_, ok_answered .., by rw [hred, hv]; rfl, by rw [hred, hv]; rfl, ?_, ?_, ?_⟩
  · change execRedSwap q s = _
    unfold execRedSwap
    rw [command_run _ _ q s h, noteDesc_none _ _ _ rfl, hv]
    exact rejection_passes (if_pos hl) (by rw [hu]; rfl) henv rfl rfl rfl (if_pos (by simp [hallowed, hat])) rfl rfl
  · rw [hred, hv]
    exact peerSend_newest (touch s) 8
  · rw [ok, (finish1_keeps ..).2.2.2.1, hv]
    exact hu
  · rw [ok, (finish1_keeps ..).2.2.2.2.1, hv]
    rfl

theorem redPostpone_postpones (hu : s.unit = .active) (hl : q.payload.length = 2) (hlo : 1 ≤ getU q.payload 0 2)
    (hhi : getU q.payload 0 2 ≤ 168) : Does (.redPostpone q) s fun u => Answered u q 0x0A05 stOk 0 [] ∧
      u.red.postponeEnd = some (s.clk + getU q.payload 0 2 * 3600 * nsS) ∧ u.red.dueT = s.red.dueT ∧ u.str = s.str := by
  have ⟨_, _, henv⟩ := h
  obtain ⟨v, hv⟩ : ∃ v, v = (touch s).setRed fun r =>
      { r with postponeEnd := some ((touch s).clk + getU q.payload 0 2 * 3600 * nsS) } := ⟨_, rfl⟩
  have hred : (ok v 0x0A05 q []).red = v.red := by simp [ok]
  refine ⟨ok v 0x0A05 q [], ?_, ok_answered .., by rw [hred, hv]; rfl, by rw [hred, hv]; rfl, ?_⟩
  · change execRedPostpone q s = _
    unfold execRedPostpone
    rw [command_run _ _ q s h, noteDesc_none _ _ _ rfl, hv]
    exact rejection_passes (if_pos hl) (by rw [hu]; rfl) henv (if_pos (by simp [hlo, hhi])) rfl rfl rfl rfl rfl
  · rw [ok, (finish1_keeps ..).2.2.2.2.1, hv]
    rfl

theorem redGetShadow_answers (hu : s.unit = .active ∨ s.unit = .standby) (hl : q.payload.length = 0) :
    Does (.redGetShadow q) s fun u => Answered u q 0x0A06 stOk 0 (redShadow s) ∧ HostOnly s u := by
  have ⟨_, _, henv⟩ := h
  refine ⟨ok (touch s) 0x0A06 q (redShadow s), ?_, ok_answered .., finish1_hostOnly ..⟩
  change execRedGetShadow q s = _
  unfold execRedGetShadow
  rw [command_run _ _ q s h, noteDesc_none _ _ _ rfl]
  · rfl
  · exact rejection_passes (if_pos hl) (by rcases hu with hu | hu <;> rw [hu] <;> rfl) henv rfl rfl rfl rfl rfl rfl

end

/-! ## The swap -/

theorem groupRecord_red (s : State) (grp src lv rule obj val : Nat) : (groupRecord s grp src lv rule obj val).red = s.red := by
  simp

theorem groupRecord_flt (s : State) (grp src lv rule obj val : Nat) : (groupRecord s grp src lv rule obj val).flt = s.flt := by
  simp

theorem setRole_red (s : State) (u : UnitState) (cause : Nat) (takeover : Bool) : (setRole s u cause takeover).red = s.red := by
  simp

/-- SAFE-HOLD stops the beats, and nothing else of the pair. -/
theorem enterSafeHold_red (s : State) (cause : Nat) : ∃ on, (enterSafeHold s cause).red = { s.red with beatsOn := on } := by
  unfold enterSafeHold
  split
  · exact ⟨false, by simp⟩
  · exact ⟨s.red.beatsOn, rfl⟩

theorem retier_red (s : State) : ∃ on, (retier s).red = { s.red with beatsOn := on } := by
  have hstr : ((List.range s.strings).foldl retierStr s).red = s.red := by simp
  unfold retier
  dsimp only
  split
  · obtain ⟨on, hon⟩ := enterSafeHold_red ((List.range s.strings).foldl retierStr s) 567
    exact ⟨on, by rw [hon, hstr]⟩
  · exact ⟨s.red.beatsOn, hstr⟩

theorem retireUnit_failedSwaps (s : State) (u reason : Nat) : (retireUnit s u reason).red.failedSwaps = s.red.failedSwaps := by
  unfold retireUnit
  split
  · rfl
  · dsimp only
    obtain ⟨on, hon⟩ := retier_red (retireEffect (record _ 0x22 (unitSource u) lvErr u reason 0) u)
    rw [hon]
    simp

theorem abortTrans_trans (s : State) {i : Nat} (hi : i < s.str.length) : ((abortTrans s i).strAt i).trans = none := by
  unfold abortTrans endTrans
  split
  next hnone => exact hnone
  next => rw [strAt_congr (completeExec_str ..), show (s.modStr i _).strAt i = _ from getD_modify_same _ _ _ _ hi]

theorem abortTrans_none (s : State) {i : Nat} (k : Nat) (h : (s.strAt i).trans = none) : ((abortTrans s k).strAt i).trans = none := by
  by_cases hk : k = i
  · subst hk
    unfold abortTrans endTrans
    rw [h]
    exact h
  · rw [abortTrans_strAt_ne s (Ne.symm hk)]
    exact h

/-- Ending the commands in progress on a list of strings takes them away and moves no string. -/
theorem abortAll_ends (i : Nat) (l : List Nat) : ∀ s : State, i < s.str.length →
    ((l.foldl abortTrans s).strAt i).state = (s.strAt i).state ∧
    (i ∈ l ∨ (s.strAt i).trans = none → ((l.foldl abortTrans s).strAt i).trans = none) := by
  induction l with
  | nil => exact fun s _ => ⟨rfl, fun h => h.resolve_left (List.not_mem_nil)⟩
  | cons k l ih =>
    intro s hi
    have hlen : i < (abortTrans s k).str.length := by rwa [str_length_of_sizes (abortTrans_sizes ..)]
    obtain ⟨hstate, htrans⟩ := ih (abortTrans s k) hlen
    refine ⟨hstate.trans (endTrans_state ..), fun h => htrans ?_⟩
    rcases h with h | h
    · rcases List.mem_cons.1 h with rfl | h
      · exact .inr (abortTrans_trans s hi)
      · exact .inl h
    · exact .inr (abortTrans_none s k h)

section
variable {t : Nat} {s b : State} (hb : s.advance t = b)
include hb

theorem swap_becomesActive {ts : Nat} (hat : b.red.swapAt = some ts) (hts : ts ≤ b.tsu.now) (hu : b.unit = .standby) :
    Does (.swap t) s fun u => u.unit = .active ∧ u.red.claim = claimFloor b + 1 ∧ u.red.swapAt = none ∧
      u.red.swapVerifyAt = some (b.clk + 20 * nsMs) ∧ u.red.lastSwapT = b.clk := by
  obtain ⟨v, hv⟩ : ∃ v, v = assumeDuties b.hvi.iso.result (withStrings b 338 false) := ⟨_, rfl⟩
  have hclk : v.clk = b.clk := by rw [hv]; exact withStrings_clk b 338 false
  refine ⟨v.setRed fun r => { r with swapAt := none, swapVerifyAt := some (v.clk + 20 * nsMs), lastSwapT := v.clk
                                     dueT := v.clk + swapInterval v, dueSince := none, overdue := false }, ?_, ?_, ?_, rfl, ?_, hclk⟩
  · change execSwap t s = _
    unfold execSwap
    rw [hb]
    simp only [hat]
    rw [if_neg (by omega), if_pos (by simp [hu]), hv]
    rfl
  · rw [hv]
    exact withStrings_unit b 338 false
  · rw [hv]
    exact withStrings_claim b 338 false
  · exact congrArg (fun x => some (x + 20 * nsMs)) hclk

theorem swap_becomesStandby {ts : Nat} (hat : b.red.swapAt = some ts) (hts : ts ≤ b.tsu.now) (hu : b.unit = .active)
    (hg : b.red.swapGranted = true) : Does (.swap t) s fun u => u.unit = .standby ∧ u.red.swapAt = none ∧
      u.red.swapGranted = false ∧ u.red.claim = b.red.claim ∧ ∀ i, i < b.strings → i < b.str.length →
        (u.strAt i).trans = none ∧ (u.strAt i).state = (b.strAt i).state := by
  obtain ⟨v, hv⟩ : ∃ v, v = setRole ((List.range b.strings).foldl abortTrans b) .standby 338 false := ⟨_, rfl⟩
  refine ⟨v.setRed fun r => { r with swapAt := none, swapAsked := false, swapGranted := false, lastSwapT := v.clk
                                     swapVerifyAt := some (v.clk + 20 * nsMs), replica := some (ownReplica v)
                                     dueT := v.clk + swapInterval v, dueSince := none, overdue := false }, ?_, ?_, rfl, rfl, ?_,
    fun i hi hlen => ?_⟩
  · change execSwap t s = _
    unfold execSwap
    rw [hb]
    simp only [hat]
    rw [if_neg (by omega), if_neg (by simp [hu]), if_pos (by simp [hu, hg]), hv]
  · rw [hv]
    exact setRole_unit ..
  · change v.red.claim = _
    rw [hv]
    simp
  · have hstr : v.str = ((List.range b.strings).foldl abortTrans b).str := by rw [hv]; simp
    obtain ⟨hstate, htrans⟩ := abortAll_ends i (List.range b.strings) b hlen
    exact ⟨(congrArg Str.trans (strAt_congr hstr i)).trans (htrans (.inl (List.mem_range.2 hi))),
      (congrArg Str.state (strAt_congr hstr i)).trans hstate⟩

theorem swapVerify_passes (hat : b.red.swapVerifyAt.isSome = true) (hu : b.unit = .active) (hs : strayPhases b = []) :
    Does (.swapVerify t true true) s fun u => u.red.swapVerifyAt = none ∧ u.unit = .active ∧
      u.red.failedSwaps = b.red.failedSwaps := by
  refine ⟨b.setRed fun r => { r with swapVerifyAt := none }, ?_, rfl, hu, rfl⟩
  change execSwapVerify t true true s = _
  unfold execSwapVerify
  rw [hb]
  dsimp only
  rw [if_neg (by simp [hu, Option.isSome_iff_ne_none.1 hat]), if_pos (by simp [hs])]

theorem swapVerify_undoes {p : Nat} (hat : b.red.swapVerifyAt.isSome = true) (hu : b.unit = .active) (hs : strayPhases b = [p])
    (_ : sharedLost b = false) : Does (.swapVerify t true true) s fun u => u.unit = .standby ∧ u.retired (uPhase p) = true ∧
      u.red.failedSwaps = b.red.failedSwaps + 1 := by
  obtain ⟨v, hv⟩ : ∃ v, v = retireUnit (b.setRed fun r => { r with swapVerifyAt := none }) (uPhase p) 2 := ⟨_, rfl⟩
  obtain ⟨w, hw⟩ : ∃ w, w = (setRole v .standby 339 false) := ⟨_, rfl⟩
  have hwred : w.red.failedSwaps = b.red.failedSwaps := by
    rw [hw, setRole_red, hv]
    exact retireUnit_failedSwaps ..
  refine ⟨groupRecord (w.setRed fun r => { r with failedSwaps := r.failedSwaps + 1, replica := some (ownReplica w) })
    gRed srcSup lvInfo 339 0 (w.red.failedSwaps + 1), ?_, ?_, ?_, ?_⟩
  · change execSwapVerify t true true s = _
    unfold execSwapVerify
    rw [hb]
    dsimp only
    rw [if_neg (by simp [hu, Option.isSome_iff_ne_none.1 hat]), if_neg (by simp [hs]), hs, hw, hv]
    rfl
  · rw [(groupRecord_keeps ..).2.2.2.1, hw]
    exact setRole_unit ..
  · have hflt : w.flt = v.flt := by rw [hw]; simp
    have hret : v.retired (uPhase p) = true := by rw [hv]; exact retireUnit_retired ..
    rw [State.retired, groupRecord_flt]
    exact (congrArg (fun f : Flt => f.retired.any fun e => e.1 == uPhase p) hflt).trans hret
  · rw [groupRecord_red]
    exact congrArg (· + 1) hwred

theorem scheduledSwapDue_asks (hu : b.unit = .active) (hen : swapsEnabled b = true) (hdue : b.red.dueT ≤ b.clk)
    (hwin : inWindow b = true) (hallowed : swapAllowed b = true) (hpost : b.red.postponeEnd = none)
    (hset : b.saf.setMismatch = false) (hunres : b.red.unresolved = false) (hretry : b.red.retryT ≤ b.clk)
    (hat : b.red.swapAt = none) : Does (.scheduledSwapDue t) s fun u => u.red.swapAsked = true ∧
      u.red.swapAt = some (b.tsu.now + 2 * nsMs) ∧ u.red.dueSince = some (b.red.dueSince.getD b.clk) ∧ u.str = b.str := by
  obtain ⟨v, hv⟩ : ∃ v, v = b.setRed fun r => { r with dueSince := some (r.dueSince.getD b.clk) } := ⟨_, rfl⟩
  have hvwin : inWindow v = true := by rw [hv]; exact hwin
  have hvallowed : swapAllowed v = true := by rw [hv]; exact hallowed
  refine ⟨requestSwap v, ?_, rfl, by rw [hv]; rfl, by rw [hv]; rfl, by rw [hv]; rfl⟩
  change execScheduledSwapDue t s = _
  unfold execScheduledSwapDue
  rw [hb]
  dsimp only
  rw [if_pos (by simp [hu, hen, hdue]), ← hv, if_pos]
  rw [hvwin, hvallowed, hv]
  simp [State.setRed, hpost, hset, hunres, hretry, hat]

theorem swapOverdue_records (hheld : heldFor b b.red.dueSince (getU (pairCfg b) 8 2 * 3600 * nsS) = true)
    (hover : b.red.overdue = false) : Does (.swapOverdue t) s fun u => u.red.overdue = true ∧
      u.red.dueSince = b.red.dueSince ∧ u.unit = b.unit := by
  obtain ⟨v, hv⟩ : ∃ v, v = b.setRed fun r => { r with overdue := true } := ⟨_, rfl⟩
  refine ⟨groupRecord v gRed srcSup lvWarn 340 0 0, ?_, ?_, ?_, ?_⟩
  · change execSwapOverdue t s = _
    unfold execSwapOverdue
    rw [hb]
    dsimp only
    rw [if_pos (by simp [hheld, hover]), hv]
  · rw [groupRecord_red, hv]; rfl
  · rw [groupRecord_red, hv]; rfl
  · rw [(groupRecord_keeps ..).2.2.2.1, hv]; rfl

/-! ## Resync -/

theorem resyncStep_greets (hu : b.unit = .resync) (hstep : b.red.resyncStep = 1) (hid : b.red.partnerIdentity.isSome = true)
    (hvar : b.red.partnerVariantOk = true) (hlev : b.red.partnerLevelsOk = true) : Does (.resyncStep t) s fun u =>
      u.red.resyncStep = 2 ∧ u.unit = .resync ∧ u.str = b.str := by
  refine ⟨b.setRed fun r => { r with resyncStep := 2 }, ?_, rfl, hu, rfl⟩
  change execResyncStep t s = _
  unfold execResyncStep
  rw [hb]
  dsimp only
  rw [if_neg (by simp [hu]), hstep]
  rw [if_neg (by simp [Option.isSome_iff_ne_none.1 hid]), if_pos (by simp [hvar, hlev])]
  rfl

theorem resyncStep_ends (hu : b.unit = .resync) (hstep : b.red.resyncStep = 5) (hclean : cleanFor b (10 * nsS) = true) :
    Does (.resyncStep t) s fun u => u.unit = .standby ∧ u.red.resyncStep = 0 ∧ u.str = b.str := by
  refine ⟨setRole (b.setRed fun r => { r with resyncStep := 0 }) .standby 346 false, ?_, setRole_unit .., ?_, ?_⟩
  · change execResyncStep t s = _
    unfold execResyncStep
    rw [hb]
    dsimp only
    rw [if_neg (by simp [hu]), hstep]
    rw [if_pos hclean]
    rfl
  · rw [setRole_red]; rfl
  · rw [(setRole_keeps ..).2.2.2.1]; rfl

theorem resyncTimeout_restarts (hu : b.unit = .resync) (hstep : b.red.resyncStep ≠ 0) (ht : b.red.resyncT + 300 * nsS ≤ b.clk)
    (hn : b.red.restarts < 3) : Does (.resyncTimeout t) s fun u => u.red.restarts = b.red.restarts + 1 ∧
      u.red.resyncStep = 1 ∧ u.red.resyncT = b.clk ∧ u.unit = .resync := by
  refine ⟨b.setRed fun r => { r with restarts := r.restarts + 1, resyncStep := 1, resyncT := b.clk }, ?_, rfl, rfl, rfl, hu⟩
  change execResyncTimeout t s = _
  unfold execResyncTimeout
  rw [hb]
  dsimp only
  rw [if_pos (by simp [hu, hstep, ht]), if_pos hn]

theorem resyncTimeout_stays (hu : b.unit = .resync) (hstep : b.red.resyncStep ≠ 0) (ht : b.red.resyncT + 300 * nsS ≤ b.clk)
    (hn : 3 ≤ b.red.restarts) : Does (.resyncTimeout t) s fun u => u.red.resyncStep = 0 ∧ u.unit = .resync := by
  obtain ⟨v, hv⟩ : ∃ v, v = b.setRed fun r => { r with resyncStep := 0 } := ⟨_, rfl⟩
  refine ⟨groupRecord v gRed srcSup lvErr 346 0 b.red.restarts, ?_, ?_, ?_⟩
  · change execResyncTimeout t s = _
    unfold execResyncTimeout
    rw [hb]
    dsimp only
    rw [if_pos (by simp [hu, hstep, ht]), if_neg (by omega), hv]
  · rw [groupRecord_red, hv]; rfl
  · rw [(groupRecord_keeps ..).2.2.2.1, hv]; exact hu

/-! ## Shadow comparison -/

theorem shadow_agrees {v : ShadowValue} (hu : b.unit = .standby) (hv : absI (v.active - v.own) ≤ shadowTol v.row v.active) :
    Does (.shadow t v) s fun u => u.red.runs = b.red.runs.filter (fun e => e.1 ≠ (v.row, v.obj)) ∧
      u.red.mismatches = b.red.mismatches ∧ u.red.shadowCleanSince = b.red.shadowCleanSince := by
  refine ⟨b.setRed fun r => { r with runs := b.red.runs.filter fun e => e.1 ≠ (v.row, v.obj)
                                     unresolved := r.unresolved && !cleanFor b (3600 * nsS) }, ?_, rfl, rfl, rfl⟩
  change execShadow t v s = _
  unfold execShadow shadowCompare
  rw [hb]
  dsimp only
  rw [if_pos (by simp [hu]), if_pos (by simpa using hv)]

/-- The unit that counts a mismatch of `v`, and what it remembers. -/
def mismatched (v : ShadowValue) (s : State) : State :=
  s.setRed fun r =>
    { r with runs := s.red.runs.filter fun e => e.1 ≠ (v.row, v.obj), shadowCleanSince := s.clk, mismatches := r.mismatches + 1
             lastMismatch := some (v.row, v.obj)
             unresolved := r.unresolved || s.red.mismatchT.any fun e => e.1 == (v.row, v.obj) && decide (s.clk < e.2 + 600 * nsS)
             mismatchT := ((v.row, v.obj), s.clk) :: r.mismatchT.filter fun e => e.1 ≠ (v.row, v.obj) }

theorem shadow_mismatches {v : ShadowValue} (hu : b.unit = .standby) (hv : shadowTol v.row v.active < absI (v.active - v.own))
    (hrow : v.row = 1) (hrun : runGet b.red.runs (v.row, v.obj) = some (9, 0)) (hret : b.retired (uPhase v.obj) = false) :
    Does (.shadow t v) s fun u => u.red.mismatches = b.red.mismatches + 1 ∧ u.red.lastMismatch = some (1, v.obj) ∧
      u.red.shadowCleanSince = b.clk ∧ u.suspended (uPhase v.obj) = true := by
  obtain ⟨again, hagain⟩ : ∃ c : Bool, c = b.red.mismatchT.any fun e => e.1 == (v.row, v.obj) && decide (b.clk < e.2 + 600 * nsS) :=
    ⟨_, rfl⟩
  obtain ⟨w, hw⟩ : ∃ w, w = if again then groupRecord (mismatched v b) gRed srcSup lvWarn 348 v.row v.obj else mismatched v b :=
    ⟨_, rfl⟩
  have hred : w.red = (mismatched v b).red := by rw [hw]; split <;> simp
  have hflt : w.flt = b.flt := by rw [hw]; split <;> simp [mismatched, State.setRed]
  obtain ⟨x, hx⟩ : ∃ x, x = w.setRed fun r => { r with shadowTests := (uPhase v.obj, 255) :: r.shadowTests.take 15 } := ⟨_, rfl⟩
  have hres : (detected x (uPhase v.obj) 348 v.row).red = x.red := by simp
  have hxret : x.retired (uPhase v.obj) = false := by
    rw [State.retired, show x.flt = b.flt by rw [hx]; exact hflt]
    exact hret
  refine ⟨detected x (uPhase v.obj) 348 v.row, ?_, ?_, ?_, ?_, detected_suspends 348 v.row hxret⟩
  · change execShadow t v s = _
    unfold execShadow shadowCompare
    rw [hb]
    dsimp only
    rw [if_pos (by simp [hu]), if_neg (by simp [hv]), hrun, if_neg (by simp [hrow, shadowPersist]),
      show shadowUnit v.row v.obj = some (uPhase v.obj) by rw [hrow]; rfl, hx, hw, hagain]
    rfl
  · rw [hres, hx]
    exact congrArg Red.mismatches hred
  · rw [hres, hx, ← hrow]
    exact congrArg Red.lastMismatch hred
  · rw [hres, hx]
    exact congrArg Red.shadowCleanSince hred

end

/-! ## PEER messages -/

/-- The commands that message `m` acknowledges no longer wait. -/
def stillWaits (m : PeerMsg) (w : AckWait) : Bool := !decide ((m.ackSeq + 2 ^ 32 - w.seq) % 2 ^ 32 < 2 ^ 31)

theorem releaseAcks_some (s : State) (m : PeerMsg) :
    (releaseAcks s (some m.ackSeq)).red = { s.red with ackWait := s.red.ackWait.filter (stillWaits m) } := by
  simp [releaseAcks]
  rfl

/-- What a valid message leaves on a unit that holds no SOLO role. -/
structure Heard (m : PeerMsg) (b v : State) : Prop where
  rx : v.red.peerRx = some m.seq
  at_ : v.red.peerT = some b.clk
  up : v.red.peerDown = false
  asked : v.red.swapAsked = b.red.swapAsked
  wait : v.red.ackWait = b.red.ackWait.filter (stillWaits m)
  clk : v.clk = b.clk
  unit : v.unit = b.unit
  str : v.str = b.str
  dsp : v.dsp = b.dsp

/-- The unit that has noted the message and has not yet completed what it acknowledges. -/
def heardFrom (m : PeerMsg) (b : State) : State :=
  b.setRed fun r =>
    { r with peerRx := some m.seq, peerT := some b.clk, peerDown := false, present := true, partnerClaim := m.claim
             beat := if (match b.red.beatT with | none => false | some t => decide (b.clk < t + nsMs)) then r.beat
                     else { r.beat with role := m.role, claim := m.claim } }

theorem peerValid_eq {m : PeerMsg} {b : State} (hu : b.unit ≠ .solo) :
    peerValid b m = releaseAcks (heardFrom m b) (some m.ackSeq) := by
  unfold peerValid
  dsimp only
  rw [if_neg]
  · rfl
  · have hunit : (releaseAcks (heardFrom m b) (some m.ackSeq)).unit = b.unit := (releaseAcks_keeps ..).2.2.2.1
    intro hc
    have hsolo : (releaseAcks (heardFrom m b) (some m.ackSeq)).unit = .solo := eq_of_beq (Bool.and_eq_true _ _ ▸ hc).1
    exact hu (hunit ▸ hsolo)

theorem peerValid_hears (m : PeerMsg) {b : State} (hu : b.unit ≠ .solo) : Heard m b (peerValid b m) := by
  have hred := releaseAcks_some (heardFrom m b) m
  rw [peerValid_eq hu]
  constructor
  case rx => rw [hred]; rfl
  case at_ => rw [hred]; rfl
  case up => rw [hred]; rfl
  case asked => rw [hred]; rfl
  case wait => rw [hred]; rfl
  all_goals simp [heardFrom, State.setRed]

section
variable {t : Nat} {s b : State} {m : PeerMsg} (hb : s.advance t = b)
include hb

/-- The first message that arrives is taken. -/
theorem peerMessage_taken (hr : peerRuns b = true) (hcrc : m.crcOk = true) (hrx : b.red.peerRx = none) :
    exec (.peerMessage t m) s = .next (takeBody (peerValid b m) m) := by
  change execPeerMessage t m s = _
  unfold execPeerMessage
  rw [hb]
  dsimp only
  rw [if_neg (by simp [hr]), if_neg (by simp [hcrc]), hrx]

theorem peerMessage_heartbeat (hr : peerRuns b = true) (hcrc : m.crcOk = true) (hrx : b.red.peerRx = none) (hu : b.unit = .standby)
    (hbody : m.body = .heartbeat) : Does (.peerMessage t m) s fun u => u.red.peerRx = some m.seq ∧ u.red.peerT = some b.clk ∧
      u.red.peerDown = false ∧ u.red.peerBeatT = some b.clk ∧ u.unit = .standby ∧ u.str = b.str := by
  have hh := peerValid_hears m (b := b) (by simp [hu])
  refine ⟨_, peerMessage_taken hb hr hcrc hrx, ?_⟩
  rw [takeBody, hbody]
  exact ⟨hh.rx, hh.at_, hh.up, congrArg some hh.clk, hh.unit.trans hu, hh.str⟩

theorem peerMessage_config {p : Bytes} (hr : peerRuns b = true) (hcrc : m.crcOk = true) (hrx : b.red.peerRx = none)
    (hu : b.unit = .standby) (hrole : m.role = 3) (hbody : m.body = .config 0x0603 p) : Does (.peerMessage t m) s fun u =>
      u.red.peerRx = some m.seq ∧ u.red.peerT = some b.clk ∧ u.red.peerDown = false ∧ u.dsp.budget = getU p 0 4 ∧
      u.red.peerOut.head? = some 10 ∧ u.unit = .standby := by
  have hh := peerValid_hears m (b := b) (by simp [hu])
  have hunit := hh.unit.trans hu
  refine ⟨_, peerMessage_taken hb hr hcrc hrx, ?_⟩
  rw [takeBody, hbody]
  dsimp only
  rw [if_pos (by simp [follows, hunit, hrole])]
  exact ⟨hh.rx, hh.at_, hh.up, rfl, peerSend_newest .., hunit⟩

theorem peerMessage_grant (hr : peerRuns b = true) (hcrc : m.crcOk = true) (hrx : b.red.peerRx = none) (hu : b.unit = .active)
    (hasked : b.red.swapAsked = true) (hbody : m.body = .swapGrant) : Does (.peerMessage t m) s fun u =>
      u.red.peerRx = some m.seq ∧ u.red.peerT = some b.clk ∧ u.red.peerDown = false ∧ u.red.swapGranted = true ∧
      u.unit = .active := by
  have hh := peerValid_hears m (b := b) (by simp [hu])
  have hunit := hh.unit.trans hu
  refine ⟨_, peerMessage_taken hb hr hcrc hrx, ?_⟩
  rw [takeBody, hbody]
  dsimp only
  rw [if_pos (by simp [hunit, hh.asked, hasked])]
  exact ⟨hh.rx, hh.at_, hh.up, rfl, hunit⟩

theorem peerMessage_discarded (hr : peerRuns b = true) (hcrc : m.crcOk = false) : Does (.peerMessage t m) s fun u =>
    u.red.peerDiscards = b.red.peerDiscards + 1 ∧ u.red.peerRx = b.red.peerRx ∧ u.str = b.str ∧ u.dsp = b.dsp := by
  refine ⟨b.setRed fun r => { r with peerDiscards := r.peerDiscards + 1 }, ?_, rfl, rfl, rfl, rfl⟩
  change execPeerMessage t m s = _
  unfold execPeerMessage
  rw [hb]
  dsimp only
  rw [if_neg (by simp [hr]), if_pos (by simp [hcrc])]

theorem peerMessage_outOfSequence {n : Nat} (hr : peerRuns b = true) (hcrc : m.crcOk = true) (hrx : b.red.peerRx = some n)
    (hseq : m.seq ≠ (n + 1) % 2 ^ 32) : Does (.peerMessage t m) s fun u => u.red.peerDiscards = b.red.peerDiscards + 1 ∧
      u.red.peerRx = b.red.peerRx ∧ u.str = b.str ∧ u.dsp = b.dsp := by
  refine ⟨b.setRed fun r =>
    { r with peerDiscards := r.peerDiscards + 1
             resends := if (m.seq + 2 ^ 32 - n) % 2 ^ 32 < 2 ^ 31 ∧ m.seq ≠ n then r.resends + 1 else r.resends },
    ?_, rfl, rfl, rfl, rfl⟩
  change execPeerMessage t m s = _
  unfold execPeerMessage
  rw [hb]
  dsimp only
  rw [if_neg (by simp [hr]), if_neg (by simp [hcrc]), hrx]
  dsimp only
  rw [if_neg hseq]

/-- The command that waits for the acknowledged message completes. -/
theorem peerMessage_acknowledges {w : AckWait} (hr : peerRuns b = true) (hcrc : m.crcOk = true) (hrx : b.red.peerRx = none)
    (hu : b.unit = .active) (hbody : m.body = .ack) (hwait : b.red.ackWait = [w]) (hseq : m.ackSeq = w.seq)
    (hexec : b.hpr.exec = [w.exec]) (hfol : w.exec.followers = []) : Does (.peerMessage t m) s fun u =>
      u.red.peerRx = some m.seq ∧ u.red.peerT = some b.clk ∧ u.red.peerDown = false ∧ u.red.ackWait = [] ∧ u.hpr.exec = [] ∧
      Answered u w.exec.req w.exec.opcode stOk 0 w.payload ∧ u.str = b.str := by
  have hne : b.unit ≠ .solo := by simp [hu]
  have hh := peerValid_hears m hne
  have hdone : stillWaits m w = false := by simp [stillWaits, hseq]
  have hdue : decide ((m.ackSeq + 2 ^ 32 - w.seq) % 2 ^ 32 < 2 ^ 31) = true := by simp [hseq]
  obtain ⟨v, hv⟩ : ∃ v : State, v = (heardFrom m b).setRed fun r => { r with ackWait := [] } := ⟨_, rfl⟩
  have hrel : releaseAcks (heardFrom m b) (some m.ackSeq) = completeExec v w.exec stOk 0 w.payload := by
    have hw : (heardFrom m b).red.ackWait = [w] := hwait
    rw [hv]
    simp only [releaseAcks, State.setRed, hw, List.filter_cons, List.filter_nil, hdue, if_true, Bool.not_true, Bool.false_eq_true,
      if_false, List.foldl_cons, List.foldl_nil]
  have hvexec : v.hpr.exec = [w.exec] := by rw [hv]; exact hexec
  obtain ⟨x, hx⟩ : ∃ x : State, x = v.setHpr fun h => { h with exec := [] } := ⟨_, rfl⟩
  have heq : peerValid b m = finish1 x w.exec.opcode w.exec.req stOk 0 w.payload := by
    rw [peerValid_eq hne, hrel, hx]
    simp [completeExec, hvexec, hfol, State.setHpr]
  refine ⟨_, peerMessage_taken hb hr hcrc hrx, ?_⟩
  rw [takeBody, hbody]
  refine ⟨hh.rx, hh.at_, hh.up, by rw [hh.wait, hwait]; simp [hdone], ?_, ?_, hh.str⟩
  · rw [heq, (finish1_queue ..).1, hx]
    rfl
  · rw [heq]
    exact finish1_answered ..

end

/-- Settles O30, clause by clause: the commands, the swap and its verification, resync, comparison and messages. -/
theorem swapsResyncAndPeer : Obligations.SwapsResyncAndPeer :=
  ⟨fun _ _ => redSwap_asks, fun _ _ => redPostpone_postpones, fun _ _ => redGetShadow_answers, fun _ _ _ => swap_becomesActive rfl,
    fun _ _ _ => swap_becomesStandby rfl, fun _ _ => swapVerify_passes rfl, fun _ _ _ => swapVerify_undoes rfl,
    fun _ _ => scheduledSwapDue_asks rfl, fun _ _ => swapOverdue_records rfl, fun _ _ => resyncStep_greets rfl,
    fun _ _ => resyncStep_ends rfl, fun _ _ => resyncTimeout_restarts rfl, fun _ _ => resyncTimeout_stays rfl,
    fun _ _ _ => shadow_agrees rfl, fun _ _ _ => shadow_mismatches rfl, fun _ _ _ => peerMessage_heartbeat rfl,
    fun _ _ _ _ => peerMessage_config rfl, fun _ _ _ => peerMessage_grant rfl, fun _ _ _ _ => peerMessage_acknowledges rfl,
    fun _ _ _ => peerMessage_discarded rfl, fun _ _ _ _ => peerMessage_outOfSequence rfl⟩

end Sys2Proof.Machine
end

section
/-! SUPPORT. The update commands (19_update.md R516 to R524, R535, R537). -/

namespace Sys2Proof.Machine

-- One proof at a time: together their threads exceed the memory of the check.
set_option Elab.async false

/-! ## One transfer -/

theorem xferAt_congr {s u : State} (h : u.upd = s.upd) (k : Nat) : u.xferAt k = s.xferAt k := by
  rw [State.xferAt, State.xferAt, h]

/-- What a step does with transfer `k`, and that it leaves the others. -/
abbrev XferMoved (s u : State) (k : Nat) (f : Xfer → Xfer) : Prop := u.xferAt k = f (s.xferAt k) ∧ ∀ j, j ≠ k → u.xferAt j = s.xferAt j

theorem XferMoved.of_xfer {s u : State} {k : Nat} {f : Xfer → Xfer} (hk : k < s.upd.xfer.length)
    (h : u.upd.xfer = s.upd.xfer.modify k f) : XferMoved s u k f := by
  unfold XferMoved State.xferAt
  rw [h]
  exact ⟨getD_modify_same _ _ _ _ hk, fun j hj => getD_modify_ne _ _ _ hj⟩

theorem finish1_upd (s : State) (op : Nat) (q : Req) (st d : Nat) (p : Bytes) : (finish1 s op q st d p).upd = s.upd := by simp
theorem finish1_strings (s : State) (op : Nat) (q : Req) (st d : Nat) (p : Bytes) : (finish1 s op q st d p).str = s.str := by simp

/-- Taking a command and noting its descriptor leaves all but power and the host interface. -/
theorem noted_rests (sp : Spec) (s : State) (q : Req) : ∃ p x, noteDesc sp (touch s) q = { s with pwr := p, hpr := x } :=
  ⟨_, _, noteDesc_eq sp (touch s) q⟩

theorem modPart_xfer (s : State) (p : Nat) (f : Part → Part) : (s.modPart p f).upd.xfer = s.upd.xfer := by
  unfold State.modPart
  dsimp only [State.setUpd]
  split <;> rfl

theorem eraseTarget_xfer (s : State) (p : Nat) : (eraseTarget s p).upd.xfer = s.upd.xfer := modPart_xfer ..

/-- A container has at least one chunk. -/
theorem count_ne_zero_of_headerOk {k : Nat} {x : Xfer} (h : headerOk k x = true) : x.count ≠ 0 := by
  simp only [headerOk, Bool.and_eq_true, bne_iff_ne, beq_iff_eq] at h
  obtain ⟨⟨⟨⟨⟨⟨⟨-, hlen⟩, hcount⟩, -⟩, -⟩, -⟩, -⟩, -⟩ := h
  omega

/-- UPD_BEGIN on a sound header opens the transfer anew. -/
theorem beginXfer_opens {v : State} {q : Req} {k : Nat} {x : Xfer} (hk : getU q.payload 2 1 = k) (hz : getU q.payload 3 1 = 0)
    (hx : x = { header := bufRead v (getU q.payload 0 2) 4096 }) (hok : headerOk k x = true) (hsigned : signedBad v x = none) :
    beginXfer v q = ok (v.modXfer k fun _ => { x with state := .receiving }) 0x1102 q [] := by
  have hcount : ([] : List Nat).length ≠ x.count := (count_ne_zero_of_headerOk hok).symm
  subst hx hk
  unfold beginXfer
  simp only [hok, hz, hsigned, Bool.not_true, Bool.false_eq_true, if_false, Nat.zero_ne_one, beq_eq_false_iff_ne.2, Bool.false_and,
    ne_eq, not_false_eq_true]
  rw [if_neg fun hc => hcount (eq_of_beq hc)]

theorem beginXfer_rejects {v : State} {q : Req} {k n : Nat} {x : Xfer} (hk : getU q.payload 2 1 = k)
    (hx : x = { header := bufRead v (getU q.payload 0 2) 4096 }) (hok : headerOk k x = true) (hsigned : signedBad v x = some n) :
    beginXfer v q = finish1 v 0x1102 q stIntegrity n [] := by
  subst hx hk
  unfold beginXfer
  simp only [hok, hsigned, Bool.not_true, Bool.false_eq_true, if_false]

/-- What UPD_CHUNK's buffer `b` of `len` bytes has against it. -/
def chunksBad (s : State) (b : Bytes) (len : Nat) : Option Nat :=
  firstBad [inBuf (must (decide (getU b 0 1 ≤ 4)) 0), inBuf (zeroAt b 1 1),
    inBuf (must (decide (1 ≤ getU b 2 2 ∧ getU b 2 2 ≤ 255)) 2),
    inBuf (must (decide (getU b 4 4 + getU b 2 2 ≤ (s.xferAt (getU b 0 1)).count)) 4), must (len == 8 + 4112 * getU b 2 2) 4]

theorem chunksBad_passes {s : State} {b : Bytes} {len : Nat} (hk4 : getU b 0 1 ≤ 4) (hz : getU b 1 1 = 0) (hlo : 1 ≤ getU b 2 2)
    (hhi : getU b 2 2 ≤ 255) (hfit : getU b 4 4 + getU b 2 2 ≤ (s.xferAt (getU b 0 1)).count)
    (hlen : len = 8 + 4112 * getU b 2 2) : chunksBad s b len = none :=
  firstBad_cons (inBuf_none (must_decide _ hk4)) (firstBad_cons (inBuf_none (zeroAt_holds hz))
    (firstBad_cons (inBuf_none (must_decide _ ⟨hlo, hhi⟩)) (firstBad_cons (inBuf_none (must_decide _ hfit))
      (firstBad_cons (must_holds _ (beq_iff_eq.2 hlen)) rfl))))

/-- The transfer `k` when it takes no chunks. -/
def receivesBad (s : State) (k : Nat) : Option Nat :=
  match (s.xferAt k).state with
  | .receiving | .complete => none
  | _ => some (conflictObj k)

theorem receivesBad_passes {s : State} {k : Nat} (h : (s.xferAt k).state = .receiving ∨ (s.xferAt k).state = .complete) :
    receivesBad s k = none := by
  unfold receivesBad
  rcases h with h | h <;> rw [h]

/-- The answer to UPD_CHUNK, by the chunk that stopped it. -/
def answerChunks (w : State) (q : Req) (stop : Option (Nat × Nat)) : State :=
  match stop with
  | none => ok w 0x1103 q []
  | some (st, n) => finish1 w 0x1103 q st n []

theorem answerChunks_answers (w : State) (q : Req) (stop : Option (Nat × Nat)) : (answerChunks w q stop).upd = w.upd ∧
    (stop = none → Answered (answerChunks w q stop) q 0x1103 stOk 0 []) ∧
    ∀ a m, stop = some (a, m) → Answered (answerChunks w q stop) q 0x1103 a m [] := by
  match stop with
  | none => exact ⟨finish1_upd .., fun _ => finish1_answered .., fun _ _ hm => nomatch hm⟩
  | some (a, m) =>
    refine ⟨finish1_upd .., fun hm => (nomatch hm), fun _ _ hm => ?_⟩
    cases hm
    exact finish1_answered ..

/-- A transfer is complete with its last chunk. -/
def Xfer.counted (x : Xfer) : Xfer := { x with state := if x.got.length = x.count then .complete else x.state }

theorem answerChunks_moves {s v : State} {k : Nat} {y : Xfer} (hk : k < s.upd.xfer.length) (hv : v.upd = s.upd) (q : Req)
    (stop : Option (Nat × Nat)) :
    XferMoved s (answerChunks (v.modXfer k fun _ => y) q stop) k fun _ => y :=
  .of_xfer hk ((congrArg Upd.xfer (answerChunks_answers ..).1).trans (congrArg (fun u : Upd => u.xfer.modify k fun _ => y) hv))

/-! ## The commands -/

section
variable {s : State} {q : Req} (h : Taken s q)
include h

section
variable (hr : s.unit.isRole = true ∨ s.unit = .safeHold ∨ s.unit = .recovery)
include hr

theorem updBegin_begins {d k : Nat} (hl : q.payload.length = 4) (hd : getU q.payload 0 2 = d) (hne : d ≠ noDesc)
    (hk : getU q.payload 2 1 = k) (hk4 : k ≤ 4) (hlen : k < s.upd.xfer.length) (hz : getU q.payload 3 1 = 0)
    (hdesc : descOk s q d 4096 = true) (hact : (s.xferAt k).state ≠ .activating)
    (hcls : (k == 0) = ((beginHeader s q).cls == 0)) (hfit : classConflict s (beginHeader s q).cls = none)
    (hok : headerOk k (beginHeader s q) = true) : Does (.updBegin q) s fun u =>
      (∀ n, signedBad s (beginHeader s q) = some n → Answered u q 0x1102 stIntegrity n [] ∧ u.upd = s.upd) ∧
      (signedBad s (beginHeader s q) = none → Answered u q 0x1102 stOk 0 [] ∧ (u.xferAt k).header = bufRead s d 4096 ∧
        (u.xferAt k).got = [] ∧ (u.xferAt k).state = .receiving ∧ ∀ j, j ≠ k → u.xferAt j = s.xferAt j) ∧ u.str = s.str := by
  have ⟨_, _, henv⟩ := h
  subst hd
  change ∃ u, execUpdBegin q s = _ ∧ _
  unfold execUpdBegin
  refine ⟨_, command_run _ _ q s h ?_, ?_⟩
  · refine rejection_passes (if_pos hl) (rolesOk_window hr rfl rfl rfl) henv ?_ rfl rfl ?_ ?_ rfl
    · simp [firstBad, must, hne, hk, hk4, hdesc, hz, hcls]
    · dsimp only
      rw [hk, if_neg fun hc => hact hc.2, if_pos hdesc, hfit]
    · simp [ownerBad, descAt, hne, hdesc]
  · generalize hv : noteDesc _ (touch s) q = v
    have hbuf : beginHeader v q = beginHeader s q := by
      rw [beginHeader, ← hv, bufRead_noted, beginHeader]
    obtain ⟨p, x, hrest⟩ := noted_rests _ s q
    rw [hv] at hrest
    have hsigned : signedBad v (beginHeader s q) = signedBad s (beginHeader s q) := by rw [hrest]; rfl
    cases hbad : signedBad s (beginHeader s q) with
    | some n =>
      rw [beginXfer_rejects hk hbuf.symm hok (hsigned.trans hbad), finish1_strings, hrest]
      refine ⟨fun m hm => ?_, fun hm => (by cases hm), rfl⟩
      cases hm
      exact ⟨finish1_answered .., finish1_upd ..⟩
    | none =>
      rw [beginXfer_opens hk hz hbuf.symm hok (hsigned.trans hbad), ok, finish1_strings]
      have hmoved := XferMoved.of_xfer (s := s) (u := finish1 (v.modXfer k fun _ =>
        { beginHeader s q with state := .receiving }) 0x1102 q stOk 0 []) hlen (by rw [finish1_upd, hrest]; rfl)
      refine ⟨fun m hm => (by cases hm), fun _ => ⟨finish1_answered .., ?_⟩, by rw [hrest]; rfl⟩
      exact ⟨congrArg Xfer.header hmoved.1, congrArg Xfer.got hmoved.1, congrArg Xfer.state hmoved.1, hmoved.2⟩

/-- UPD_CHUNK's own work on a transfer. -/
theorem updChunk_takes {d len k first n : Nat} {x : Bytes} (hl : q.payload.length = 8) (hd : getU q.payload 0 2 = d) (hne : d ≠ noDesc)
    (hz : getU q.payload 2 2 = 0) (hlen : getU q.payload 4 4 = len) (hn : len = 8 + 4112 * n) (hdesc : descOk s q d len = true)
    (hx : x = bufRead s d len) (hk : getU x 0 1 = k) (hk4 : k ≤ 4) (hkl : k < s.upd.xfer.length) (hz1 : getU x 1 1 = 0)
    (hxn : getU x 2 2 = n) (hlo : 1 ≤ n) (hhi : n ≤ 255) (hfirst : getU x 4 4 = first)
    (hfit : first + n ≤ (s.xferAt k).count) (hst : (s.xferAt k).state = .receiving ∨ (s.xferAt k).state = .complete) :
    Does (.updChunk q) s fun u =>
      (let r := takeChunks x first 0 n (s.xferAt k)
       u.xferAt k = { r.1 with state := if r.1.got.length = r.1.count then .complete else r.1.state } ∧
       (r.2 = none → Answered u q 0x1103 stOk 0 []) ∧ ∀ a m, r.2 = some (a, m) → Answered u q 0x1103 a m []) ∧
      ∀ j, j ≠ k → u.xferAt j = s.xferAt j := by
  have ⟨_, _, henv⟩ := h
  subst hd hk hxn hfirst hlen
  have hbuf : bufRead s (getU q.payload 0 2) (min (getU q.payload 4 4) (8 + 255 * 4112)) = x := by
    rw [hx, Nat.min_eq_left (hn.le.trans (Nat.add_le_add_left (Nat.mul_le_mul_left 4112 hhi) 8))]
  change ∃ u, execUpdChunk q s = _ ∧ _
  unfold execUpdChunk
  refine ⟨_, command_run _ _ q s h ?_, ?_⟩
  · refine rejection_passes (if_pos hl) (rolesOk_window hr rfl rfl rfl) henv ?_ rfl rfl ?_ (ownerBad_descAt rfl hne hdesc) rfl
    · refine firstBad_cons (named_passes hne) (firstBad_cons (zeroAt_holds hz) (firstBad_cons (ite_none ?_) rfl))
      exact (congrArg (chunksBad s · _) hbuf).trans (chunksBad_passes hk4 hz1 hlo hhi hfit hn)
    · refine (congrArg (fun b => if descOk s q _ _ && decide (getU b 0 1 < 5) then receivesBad s (getU b 0 1) else none) hbuf).trans
        (ite_none ?_)
      exact receivesBad_passes hst
  · generalize hv : noteDesc _ (touch s) q = v
    have hupd : v.upd = s.upd := by
      obtain ⟨p, y, hrest⟩ := noted_rests _ s q
      rw [← hv, hrest]
    beta_reduce
    rw [show bufRead v _ _ = x from hv ▸ (bufRead_noted ..).trans hbuf, show v.xferAt = s.xferAt from funext (xferAt_congr hupd)]
    dsimp only
    generalize takeChunks x _ 0 _ (s.xferAt _) = r
    have hmoved := answerChunks_moves (y := r.1.counted) hkl hupd q r.2
    obtain ⟨-, hnone, hsome⟩ := answerChunks_answers (v.modXfer (getU x 0 1) fun _ => r.1.counted) q r.2
    exact ⟨⟨hmoved.1, hnone, hsome⟩, hmoved.2⟩

theorem updAbort_empties {k : Nat} (hl : q.payload.length = 2) (hk : getU q.payload 0 1 = k) (hk4 : k ≤ 4)
    (hkl : k < s.upd.xfer.length) (hflags : getU q.payload 1 1 ≤ 1) (hact : (s.xferAt k).state ≠ .activating) :
    Does (.updAbort q) s fun u => Answered u q 0x1108 stOk 0 [] ∧ (u.xferAt k).state = .empty ∧
      (if getU q.payload 1 1 = 1 then u.xferAt k = {} else (u.xferAt k).got = (s.xferAt k).got) ∧
      ∀ j, j ≠ k → u.xferAt j = s.xferAt j := by
  have ⟨_, _, henv⟩ := h
  have hnow : (getU q.payload 1 1).testBit 1 = false := Nat.testBit_lt_two_pow (by omega)
  subst hk
  change ∃ u, execUpdAbort q s = _ ∧ _
  unfold execUpdAbort
  simp only [hnow]
  refine ⟨_, command_run _ _ q s h ?_, ?_⟩
  · refine rejection_passes (if_pos hl) (rolesOk_window hr rfl rfl rfl) henv ?_ rfl rfl ?_ rfl rfl
    · simp [firstBad, must, hk4, Nat.le_trans hflags]
    · simp [Nat.not_lt.2 hk4, hact]
  · rw [noteDesc_none _ _ _ rfl]
    have hlast : (getU q.payload 1 1).testBit 0 = decide (getU q.payload 1 1 = 1) := by
      rcases Nat.le_one_iff_eq_zero_or_eq_one.1 hflags with h0 | h1
      · rw [h0]; rfl
      · rw [h1]; rfl
    refine ⟨ok_answered .., ?_⟩
    by_cases h1 : getU q.payload 1 1 = 1
    · have hmoved := XferMoved.of_xfer (s := s) (f := (fun _ => {}) ∘ fun x => { x with state := .empty })
        (u := ok (((touch s).modXfer (getU q.payload 0 1) fun x => { x with state := .empty }).modXfer (getU q.payload 0 1)
          fun _ => {}) 0x1108 q []) hkl (by rw [ok, finish1_upd]; exact List.modify_modify_eq ..)
      rw [hlast, if_pos (by simp [h1]), if_pos h1, hmoved.1]
      exact ⟨rfl, rfl, hmoved.2⟩
    · have hmoved := XferMoved.of_xfer (s := s) (f := fun x => { x with state := .empty })
        (u := ok ((touch s).modXfer (getU q.payload 0 1) fun x => { x with state := .empty }) 0x1108 q []) hkl
        (by rw [ok, finish1_upd]; rfl)
      rw [hlast, if_neg (by simp [h1]), if_neg h1, hmoved.1]
      exact ⟨rfl, rfl, hmoved.2⟩

theorem updVerify_verifies {k : Nat} (hl : q.payload.length = 1) (hk : getU q.payload 0 1 = k) (hk4 : k ≤ 4)
    (hkl : k < s.upd.xfer.length) (hst : (s.xferAt k).state = .complete) : Does (.updVerify q) s fun u =>
      (∀ d, verifyBad s k = some d → Answered u q 0x1105 stIntegrity d [] ∧ (u.xferAt k).state = .receiving ∧
        (u.xferAt k).got = []) ∧
      (verifyBad s k = none → (u.xferAt k).state = (if (s.xferAt k).cls = 0 then .verified else .ready) ∧
        Answered u q 0x1105 (if compatible s (s.xferAt k) then stOk else stIntegrity) (if compatible s (s.xferAt k) then 0 else 11) []) ∧
      ∀ j, j ≠ k → u.xferAt j = s.xferAt j := by
  have ⟨_, _, henv⟩ := h
  subst hk
  change ∃ u, execUpdVerify q s = _ ∧ _
  unfold execUpdVerify
  refine ⟨_, command_run _ _ q s h ?_, ?_⟩
  · refine rejection_passes (if_pos hl) (rolesOk_window hr rfl rfl rfl) henv (if_pos (by simpa using hk4)) rfl rfl ?_ rfl rfl
    simp [hst]
  · rw [noteDesc_none _ _ _ rfl]
    have hbad : verifyBad (touch s) (getU q.payload 0 1) = verifyBad s (getU q.payload 0 1) := rfl
    have hfit : compatible (touch s) ((touch s).xferAt (getU q.payload 0 1)) = compatible s (s.xferAt (getU q.payload 0 1)) := rfl
    dsimp only
    rw [hbad, hfit]
    cases verifyBad s (getU q.payload 0 1) with
    | some d =>
      have hmoved := XferMoved.of_xfer (s := s) (f := fun x => { x with state := .receiving, got := [], flushed := [] })
        (u := finish1 ((touch s).modXfer (getU q.payload 0 1) fun x => { x with state := .receiving, got := [], flushed := [] })
          0x1105 q stIntegrity d []) hkl (by rw [finish1_upd]; rfl)
      refine ⟨fun _ hd => ?_, fun hd => (by cases hd), hmoved.2⟩
      cases hd
      exact ⟨finish1_answered .., congrArg Xfer.state hmoved.1, congrArg Xfer.got hmoved.1⟩
    | none =>
      dsimp only
      obtain ⟨w, hw⟩ : ∃ w, w = (touch s).modXfer (getU q.payload 0 1) fun x => { x with state := if x.cls = 0 then .verified else .ready } :=
        ⟨_, rfl⟩
      obtain ⟨y, hy⟩ : ∃ y, y = if ((touch s).xferAt (getU q.payload 0 1)).cls = 0 then
          eraseTarget w ((touch s).xferAt (getU q.payload 0 1)).part else w := ⟨_, rfl⟩
      have hxfer : y.upd.xfer = w.upd.xfer := by
        rw [hy]
        split
        · exact eraseTarget_xfer ..
        · rfl
      have hmoved (st d : Nat) := XferMoved.of_xfer (s := s) (f := fun x => { x with state := if x.cls = 0 then .verified else .ready })
        (u := finish1 y 0x1105 q st d []) hkl (by rw [finish1_upd, hxfer, hw]; rfl)
      rw [← hw, ← hy]
      have hend (fit : Bool) : (if fit then ok y 0x1105 q [] else finish1 y 0x1105 q stIntegrity 11 []) =
          finish1 y 0x1105 q (if fit then stOk else stIntegrity) (if fit then 0 else 11) [] := by
        cases fit <;> rfl
      rw [hend]
      exact ⟨fun _ hd => (by cases hd), fun _ => ⟨congrArg Xfer.state (hmoved ..).1, finish1_answered ..⟩, (hmoved ..).2⟩

end

theorem updConfirm_confirms (hra : AnyRole s) (happ : q.port ≠ .app) (hl : q.payload.length = 0) (htrial : s.upd.sp.trial = true)
    (hhost : s.upd.sp.needHost = true) : Does (.updConfirm q) s fun u => Answered u q 0x1107 stOk 0 [] ∧
      u.upd.sp = { s.upd.sp with confirmed := true } ∧ u.str = s.str := by
  have ⟨_, _, henv⟩ := h
  change ∃ u, execUpdConfirm q s = _ ∧ _
  unfold execUpdConfirm
  refine ⟨_, command_run _ _ q s h ?_, ok_answered .., ?_, ?_⟩
  · refine rejection_passes (if_pos hl) (anyRole_rolesOk _ s hra rfl) henv rfl ?_ rfl ?_ rfl rfl
    · simpa using happ
    · simp [htrial, hhost]
  · rw [ok, finish1_upd, noteDesc_none _ _ _ rfl]
    exact if_pos (by simp [touch, State.setPwr, htrial, hhost])
  · rw [ok, finish1_strings, noteDesc_none _ _ _ rfl]
    rfl

/-- UPD_ACTIVATE of a container that passes its checks, by its part. -/
theorem updActivate_activates {k : Nat} (hra : AnyRole s) (happ : q.port ≠ .app) (hl : q.payload.length = 4)
    (hk : getU q.payload 0 1 = k) (hk4 : k ≤ 4) (hkl : k < s.upd.xfer.length) (hflags : getU q.payload 1 1 ≤ 3)
    (htarget : targetOk s (s.xferAt k).part (getU q.payload 2 1) = true) (hdwell : getU q.payload 3 1 ≤ 9)
    (hconf : activateConflict s k (getU q.payload 2 1) = false) : Does (.updActivate q) s fun u =>
      (∀ d, verifyBad s k = some d → Answered u q 0x1106 stIntegrity d [] ∧ u.upd = s.upd) ∧
      (verifyBad s k = none →
        ((s.xferAt k).part = 1 → u.hpr.handover = true ∧ u.upd.handoverT = s.clk ∧ (u.xferAt k).state = .activating ∧
          u.upd.act.isSome = true) ∧
        ((s.xferAt k).part = 2 → u.saf.sp.alive = false ∧ u.saf.sloe.singleUntil = some (s.clk + 300 * nsMs) ∧
          (u.xferAt k).state = .activating) ∧
        ((s.xferAt k).part = 9 → Answered u q 0x1106 stOk 0 [] ∧
          u.cee.core = s.cee.core.set (getU q.payload 2 1) ((s.xferAt k).payload.getD []))) := by
  have ⟨_, _, henv⟩ := h
  subst hk
  change ∃ u, execUpdActivate q s = _ ∧ _
  unfold execUpdActivate
  refine ⟨_, command_run _ _ q s h ?_, ?_⟩
  · refine rejection_passes (if_pos hl) (anyRole_rolesOk _ s hra rfl) henv ?_ ?_ rfl ?_ rfl rfl
    · simp [firstBad, must, hk4, hflags, htarget, hdwell]
    · simpa using happ
    · simp [hconf]
  · rw [noteDesc_none _ _ _ rfl]
    have hbad : verifyBad (touch s) (getU q.payload 0 1) = verifyBad s (getU q.payload 0 1) := rfl
    have hpart : ((touch s).xferAt (getU q.payload 0 1)).part = (s.xferAt (getU q.payload 0 1)).part := rfl
    have hrec : ¬((touch s).unit == .recovery) = true := fun hc => by
      rw [AnyRole, show s.unit = .recovery from eq_of_beq hc] at hra
      cases hra
    have hmoved (u : State) (hu : u.upd.xfer = s.upd.xfer.modify (getU q.payload 0 1) fun x => { x with state := .activating }) :=
      XferMoved.of_xfer hkl hu
    unfold activate
    dsimp only
    rw [hbad]
    cases hv : verifyBad s (getU q.payload 0 1) with
    | some d =>
      refine ⟨fun _ hd => ?_, fun hd => (by cases hd)⟩
      cases hd
      exact ⟨finish1_answered .., finish1_upd ..⟩
    | none =>
      dsimp only
      rw [if_neg hrec, hpart]
      refine ⟨fun _ hd => (by cases hd), fun _ => ⟨fun h1 => ?_, fun h2 => ?_, fun h9 => ?_⟩⟩
      · rw [h1]
        exact ⟨rfl, rfl, congrArg Xfer.state (hmoved _ rfl).1, rfl⟩
      · rw [h2]
        exact ⟨rfl, rfl, congrArg Xfer.state (hmoved _ rfl).1⟩
      · rw [h9]
        refine ⟨ok_answered .., ?_⟩
        change (ok (applyDirect (touch s) ((touch s).xferAt (getU q.payload 0 1)) (getU q.payload 2 1)) 0x1106 q []).cee.core = _
        unfold applyDirect
        rw [hpart, h9, ok, (finish1_keeps ..).2.2.2.2.2.2.2.2.2.1]
        rfl

end

/-! ## Background work -/

section
variable {t : Nat} {s b : State} (hb : s.advance t = b)
include hb

theorem chunkFlush_flushes (ht : b.upd.flushT + nsS ≤ b.clk) (hr : b.unit.isRole = true ∨ b.unit = .safeHold ∨ b.unit = .recovery)
    (he : energyOk b = true) : Does (.chunkFlush t) s fun u => u = b.setUpd (fun x =>
      { x with xfer := x.xfer.map (fun y => { y with flushed := y.got }), flushT := b.clk }) := by
  refine ⟨flushUpdate b, ?_, if_pos he⟩
  change execChunkFlush t s = _
  unfold execChunkFlush
  simp only [hb]
  rw [if_pos]
  rcases hr with hr | hr | hr <;> simp [ht, hr]

theorem preEraseComplete_readies (hl : 0 < b.upd.xfer.length) (hst : (b.xferAt 0).state = .verified) :
    Does (.preEraseComplete t) s fun u => (u.xferAt 0).state = .ready ∧ (u.xferAt 0).got = (b.xferAt 0).got ∧
      ∀ j, j ≠ 0 → u.xferAt j = b.xferAt j := by
  have hmoved := XferMoved.of_xfer (s := b) (f := fun x => if x.state = .verified then { x with state := .ready } else x)
    (u := b.modXfer 0 fun x => if x.state = .verified then { x with state := .ready } else x) hl rfl
  refine ⟨b.modXfer 0 fun x => if x.state = .verified then { x with state := .ready } else x, ?_, ?_⟩
  · change execPreEraseComplete t s = _
    unfold execPreEraseComplete
    rw [hb]
  · beta_reduce
    rw [hmoved.1]
    beta_reduce
    rw [if_pos hst]
    exact ⟨rfl, rfl, hmoved.2⟩

end

/-- Settles O46, command by command. -/
theorem updateCommands : Obligations.UpdateCommands :=
  ⟨fun _ _ _ _ h hr => updBegin_begins h hr, fun _ _ _ _ _ _ _ _ h hr => updChunk_takes h hr,
    fun _ _ _ h hr => updVerify_verifies h hr, fun _ _ _ h => updActivate_activates h, fun _ _ h => updConfirm_confirms h,
    fun _ _ _ h hr => updAbort_empties h hr,
    fun _ _ => chunkFlush_flushes rfl, fun _ _ => preEraseComplete_readies rfl⟩

end Sys2Proof.Machine
end

section
/-! SUPPORT. Handover, trial, fallback, recovery and distribution (19_update.md R523 to R534). -/

namespace Sys2Proof.Machine

-- One proof at a time: together their threads exceed the memory of the check.
set_option Elab.async false

/-! ## What leaves HANDOVER as it is -/

@[simp] theorem finish1_handover (s : State) (op : Nat) (q : Req) (st d : Nat) (p : Bytes) :
    (finish1 s op q st d p).hpr.handover = s.hpr.handover := by
  unfold finish1
  cases q.slot with
  | none => rfl
  | some n => cases q.port <;> dsimp only <;> (repeat' split) <;> simp [mgmtRespond]

@[simp] theorem foldl_handover {β : Type} (f : State → β → State) (h : ∀ s b, (f s b).hpr.handover = s.hpr.handover) (l : List β)
    (s : State) : (l.foldl f s).hpr.handover = s.hpr.handover := foldl_proj (·.hpr.handover) f h l s

@[simp] theorem completeExec_handover (s : State) (e : Exec) (st d : Nat) (p : Bytes) :
    (completeExec s e st d p).hpr.handover = s.hpr.handover := by
  simp [completeExec]

@[simp] theorem syncUnit_handover (s : State) : (syncUnit s).hpr.handover = s.hpr.handover := by
  unfold syncUnit
  dsimp only
  repeat' split
  all_goals simp

@[simp] theorem setStr_handover (s : State) (i : Nat) (new : StrState) (cause : Nat) :
    (setStr s i new cause).hpr.handover = s.hpr.handover := by
  unfold setStr
  dsimp only
  repeat' split
  all_goals simp

@[simp] theorem endTrans_handover (s : State) (i st d : Nat) : (endTrans s i st d).hpr.handover = s.hpr.handover := by
  unfold endTrans
  split
  · rfl
  · simp

@[simp] theorem haltStr_handover (s : State) (i cause : Nat) : (haltStr s i cause).hpr.handover = s.hpr.handover := by
  unfold haltStr
  split
  all_goals simp [abortTrans]

@[simp] theorem prechargeAbort_handover (s : State) (i cause : Nat) : (prechargeAbort s i cause).hpr.handover = s.hpr.handover := by
  unfold prechargeAbort
  split
  all_goals simp [abortTrans]

@[simp] theorem setUnit_handover (s : State) (u : UnitState) (cause : Nat) : (setUnit s u cause).hpr.handover = s.hpr.handover := by
  unfold setUnit
  split
  · rfl
  · dsimp only
    split
    all_goals simp

@[simp] theorem forceTier_handover (s : State) (i : Nat) (old new : Tier) : (forceTier s i old new).hpr.handover = s.hpr.handover := by
  unfold forceTier
  split
  · rfl
  split
  · simp
  · simp
  · split <;> simp
  · split <;> simp
  · rfl

@[simp] theorem retireStr_handover (s : State) (i cause : Nat) : (retireStr s i cause).hpr.handover = s.hpr.handover := by
  unfold retireStr
  dsimp only
  split
  · simp
  · simp
  · simp

@[simp] theorem retierStr_handover (s : State) (i : Nat) : (retierStr s i).hpr.handover = s.hpr.handover := by
  unfold retierStr
  dsimp only
  rw [apply_ite (fun s : State => s.hpr.handover), retireStr_handover, ite_self]
  split
  · rfl
  · simp

theorem retier_handover (s : State) : (retier s).hpr.handover = s.hpr.handover := by
  unfold retier enterSafeHold
  dsimp only
  repeat' split
  all_goals simp [abortTrans]

/-! ## The end of an activation -/

theorem actDone_upd (s : State) (st d : Nat) : (actDone s st d).upd = { s.upd with act := none } := by
  unfold actDone
  split
  next hnone => rw [← hnone]
  next =>
    dsimp only
    split
    · rfl
    · simp

theorem actDone_handover (s : State) (st d : Nat) : (actDone s st d).hpr.handover = s.hpr.handover := by
  unfold actDone
  split
  · rfl
  · dsimp only
    split
    · rfl
    · simp

theorem actDone_saf (s : State) (st d : Nat) : (actDone s st d).saf = s.saf := by simp
theorem actDone_unit (s : State) (st d : Nat) : (actDone s st d).unit = s.unit := by simp

theorem setUnit_red (s : State) (u : UnitState) (cause : Nat) : (setUnit s u cause).red = s.red := by simp
theorem setUnit_upd (s : State) (u : UnitState) (cause : Nat) : (setUnit s u cause).upd = s.upd := by simp

/-- RECOVERY drives nothing, sends no beats and holds no handover. -/
theorem enterRecovery_enters (s : State) (cause : Nat) : (enterRecovery s cause).unit = .recovery ∧
    (enterRecovery s cause).red.beatsOn = false ∧ (enterRecovery s cause).hpr.handover = false ∧
    (enterRecovery s cause).upd.act = none := by
  unfold enterRecovery
  dsimp only
  generalize (List.range s.strings).foldl _ s = v
  have hnone : (actDone v stFailed 1).upd.act = none := by rw [actDone_upd]
  generalize actDone v stFailed 1 = w at hnone ⊢
  exact ⟨setUnit_unit .., by rw [setUnit_red]; rfl, by rw [setUnit_handover]; rfl, by rw [setUnit_upd]; exact hnone⟩

/-- A lost SUP restarts; the rest of the host interface's unit word stays. -/
theorem loseSup_loses (s : State) : (loseSup s).pwr.supLost = true ∧ (loseSup s).pwr.supRestarting = true ∧
    (loseSup s).hpr.handover = s.hpr.handover ∧ (loseSup s).upd = s.upd := by
  have hcore := (degrades_retier (s.setPwr fun p => { p with supLost := true, supRestarting := true })).power
  exact ⟨field_of_core Power.supLost hcore, field_of_core Power.supRestarting hcore, retier_handover _, by simp⟩

theorem bank_setBank_same (p : Part) (k : Nat) (i : BankImage) : ({ p.setBank k i with active := k } : Part).bank k = i := by
  unfold Part.setBank Part.bank
  split <;> rfl

/-- On the KZV-4096 PMU restarts a SUP that missed its window. -/
theorem windowExceeded_restarts {b : State} (a : Activation) (hvar : b.variant = .kzv4096) :
    (windowExceeded b a).hpr.handover = false ∧ (windowExceeded b a).upd.act = none ∧
      (windowExceeded b a).pwr.supLost = true ∧ (windowExceeded b a).pwr.supRestarting = true := by
  obtain ⟨w, hw⟩ : ∃ w, w = (b.setHpr fun h => { h with handover := false }).modXfer a.transfer fun x => { x with state := .verified } :=
    ⟨_, rfl⟩
  obtain ⟨x, hx⟩ : ∃ x, x = if a.stage = 2 then fellBack w 1
      else w.modPart 1 fun p => p.setBank (1 - p.active) { (w.xferAt a.transfer).image with valid := false } := ⟨_, rfl⟩
  have hhand : x.hpr.handover = false := by
    rw [hx, hw]
    split <;> simp [State.modXfer, State.setHpr, State.setUpd]
  have heq : windowExceeded b a = loseSup (actDone x stFailed 1) := by
    unfold windowExceeded
    dsimp only
    rw [← hw, show w.variant = .kzv4096 by rw [hw]; exact hvar, hx]
  obtain ⟨hlost, hrestarting, hkept, hupd⟩ := loseSup_loses (actDone x stFailed 1)
  rw [heq, hkept, actDone_handover, hupd, actDone_upd]
  exact ⟨hhand, rfl, hlost, hrestarting⟩

section
variable {t : Nat} {s b : State} (hb : s.advance t = b)
include hb

theorem supHandoverAdopt_adopts {a : Activation} (hact : b.upd.act = some a) (hpart : a.part = 1) (hstage : a.stage = 1)
    (hh : b.hpr.handover = true) (ht : b.clk ≤ b.upd.handoverT + 2 * nsS) : Does (.supHandoverAdopt t true) s fun u =>
      u.hpr.handover = false ∧ u.upd.act = none ∧ u.upd.sup.trial = true ∧ u.upd.sup.active = targetBank b 1 ∧
      u.upd.sup.deadline = b.clk + 600 * nsS ∧ u.upd.sup.inForce = (b.xferAt a.transfer).image ∧ u.unit = b.unit := by
  obtain ⟨v, hv⟩ : ∃ v, v = startTrial (b.setHpr fun h => { h with handover := false }) a := ⟨_, rfl⟩
  have hupd := actDone_upd v stOk 0
  have hsup : v.upd.sup = { (b.upd.sup.setBank (targetBank b 1) (b.xferAt a.transfer).image) with
      active := targetBank b 1, trial := true, deadline := b.clk + trialWindow, restarted := false, okSince := some b.clk
      confirmed := false, needHost := a.flags % 2 = 1, swapOn := a.flags / 2 % 2 = 1, dwell := a.dwell
      transfer := a.transfer } := by
    rw [hv, startTrial, hpart]
    rfl
  refine ⟨actDone v stOk 0, ?_, ?_, by rw [hupd], ?_, ?_, ?_, ?_, ?_⟩
  · change execSupHandoverAdopt t true s = _
    unfold execSupHandoverAdopt
    rw [hb]
    simp only [hact]
    rw [if_neg (by simp [hpart, hh]), if_neg (by simp [ht]), if_neg (by simp [hstage]), hv]
  · rw [actDone_handover, hv]
    simp [State.setHpr]
  · rw [hupd, hsup]
  · rw [hupd, hsup]
  · rw [hupd, hsup]; rfl
  · rw [hupd, hsup, Part.inForce]
    exact bank_setBank_same ..
  · rw [actDone_unit, hv]
    simp [State.setHpr]

theorem supHandoverAdopt_fails {a : Activation} (hact : b.upd.act = some a) (hpart : a.part = 1) (hvar : b.variant = .kzv4096)
    (hh : b.hpr.handover = true) : Does (.supHandoverAdopt t false) s fun u => u.hpr.handover = false ∧ u.upd.act = none ∧
      u.pwr.supLost = true ∧ u.pwr.supRestarting = true := by
  refine ⟨windowExceeded b a, ?_, windowExceeded_restarts a hvar⟩
  change execSupHandoverAdopt t false s = _
  unfold execSupHandoverAdopt
  rw [hb]
  simp only [hact]
  rw [if_neg (by simp [hpart, hh]), if_pos (by simp)]

theorem handoverWindowExceeded_recovers {a : Activation} (hact : b.upd.act = some a) (hpart : a.part = 1)
    (hvar : b.variant = .kzv1024) (hh : b.hpr.handover = true) (ht : b.upd.handoverT + 2 * nsS ≤ b.clk) :
    Does (.handoverWindowExceeded t) s fun u => u.hpr.handover = false ∧ u.upd.act = none ∧ u.unit = .recovery ∧
      u.red.beatsOn = false := by
  obtain ⟨w, hw⟩ : ∃ w, w = (b.setHpr fun h => { h with handover := false }).modXfer a.transfer fun x => { x with state := .verified } :=
    ⟨_, rfl⟩
  have heq : windowExceeded b a = enterRecovery (actDone w stFailed 1) 523 := by
    unfold windowExceeded
    dsimp only
    rw [← hw, show w.variant = .kzv1024 by rw [hw]; exact hvar]
  obtain ⟨hunit, hbeats, hhand, hnone⟩ := enterRecovery_enters (actDone w stFailed 1) 523
  refine ⟨enterRecovery (actDone w stFailed 1) 523, ?_, hhand, hnone, hunit, hbeats⟩
  change execHandoverWindowExceeded t s = _
  unfold execHandoverWindowExceeded
  rw [hb]
  simp only [hact]
  rw [if_pos (by simp [hpart, hh, ht]), heq]

end

/-! ## SP not back in time -/

theorem haltStr_halts (s : State) {i k : Nat} (cause : Nat) (hi : i < s.str.length)
    (h : k = i ∧ strConnected s i = true ∨ (s.strAt i).state = .halted) : ((haltStr s k cause).strAt i).state = .halted := by
  rcases h with ⟨rfl, hc⟩ | h
  · exact haltStr_halted cause hc hi
  · by_cases hk : i = k
    · subst hk
      rw [haltStr_of_not_connected cause (by rw [strConnected, h])]
      exact h
    · rw [haltStr_strAt_ne s cause hk]
      exact h

/-- Halting a list of strings takes those of them with a path closed or closing to HALTED. -/
theorem haltAll_halts (cause i : Nat) (l : List Nat) : ∀ s : State, i < s.str.length →
    i ∈ l ∧ strConnected s i = true ∨ (s.strAt i).state = .halted →
    ((l.foldl (fun s k => haltStr s k cause) s).strAt i).state = .halted := by
  induction l with
  | nil => exact fun s _ h => h.resolve_left fun h => List.not_mem_nil h.1
  | cons k l ih =>
    intro s hi h
    refine ih _ (by rwa [str_length_of_sizes (haltStr_sizes ..)]) ?_
    by_cases hk : k = i
    · exact .inr (haltStr_halts s cause hi (h.imp_left fun h => ⟨hk, h.2⟩))
    · have hsame := haltStr_strAt_ne s cause (Ne.symm hk)
      rw [strConnected_congr hsame, hsame]
      exact h.imp_left fun h => ⟨(List.mem_cons.1 h.1).resolve_left (Ne.symm hk), h.2⟩

theorem bank_setBank_other {p : Part} (h : p.active ≤ 1) (i : BankImage) : (p.setBank (1 - p.active) i).inForce = p.inForce := by
  rcases Nat.le_one_iff_eq_zero_or_eq_one.1 h with h | h <;> simp [Part.inForce, Part.setBank, Part.bank, h]

/-- A trial that fails leaves its slot invalid and the other image active. -/
theorem fellBack_upd (s : State) (p : Nat) : (fellBack s p).upd = (((s.modPart p fun x =>
    { (x.setBank (s.partAt p).active { x.inForce with valid := false }) with active := 1 - (s.partAt p).active, trial := false }).modXfer
      (s.partAt p).transfer fun y => { y with state := .verified })).upd := by
  simp [fellBack]

theorem bank_of_setBank {p : Part} {k : Nat} {i : BankImage} {a : Nat} {c : Bool} :
    ({ p.setBank k i with active := a, trial := c } : Part).bank k = i := by
  unfold Part.setBank Part.bank
  split <;> rfl

/-- A confirmation without a swap: the floor rises, a key set may be revoked, and the transfer is EMPTY. -/
theorem confirm_noSwap {s : State} {p : Nat} (h : (s.partAt p).swapOn = false) : confirm s p =
    ((s.modPart p fun x => { x with trial := false }).setUpd fun u =>
      { u with
        floor := if (s.partAt p).inForce.flags.testBit 0 then max u.floor (s.partAt p).inForce.svn else u.floor
        revoked := if (s.partAt p).inForce.flags.testBit 1 then
            u.revoked ||| BitVec.ofNat 4 (2 ^ (s.partAt p).inForce.keySet - 1) else u.revoked }).modXfer
      (s.partAt p).transfer fun _ => {} := by
  unfold confirm
  dsimp only
  rw [if_pos (by rw [h]; rfl)]

theorem setBank_bank {p : Part} {k : Nat} (i : BankImage) : (p.setBank k i).bank k = i := by
  unfold Part.setBank Part.bank
  split <;> rfl

section
variable {t : Nat} {s b : State} (hb : s.advance t = b)
include hb

theorem spActivationTimeout_resumes {a : Activation} {e : Nat} (hact : b.upd.act = some a) (hpart : a.part = 2)
    (hstage : a.stage = 1) (hvar : b.variant = .kzv4096) (huntil : b.saf.sloe.singleUntil = some e)
    (halive : b.saf.sp.alive = false) (he : e ≤ b.clk) (hok : imageOk b (b.upd.sp.bank b.upd.sp.active) = true)
    (hactive : b.upd.sp.active ≤ 1) : Does (.spActivationTimeout t) s fun u => u.saf.sp.alive = true ∧
      u.saf.sloe.singleUntil = none ∧ u.upd.act = none ∧ (u.upd.sp.bank (1 - b.upd.sp.active)).valid = false ∧
      ∀ i, i < b.strings → i < b.str.length → (b.strAt i).state = .regulating → (u.strAt i).state = .halted := by
  obtain ⟨v, hv⟩ : ∃ v, v = (List.range b.strings).foldl (fun s i => haltStr s i 285) b := ⟨_, rfl⟩
  have hvupd : v.upd = b.upd := by rw [hv]; simp
  obtain ⟨w, hw⟩ : ∃ w, w = (v.modChan .sloe fun c => { c with singleUntil := none }).modXfer a.transfer fun x =>
      { x with state := .verified } := ⟨_, rfl⟩
  obtain ⟨y, hy⟩ : ∃ y, y = groupRecord (w.modPart 2 fun p =>
      p.setBank (1 - p.active) { (w.xferAt a.transfer).image with valid := false }) gUpd srcSup lvErr 527 2 0 := ⟨_, rfl⟩
  have hysp : y.upd.sp = b.upd.sp.setBank (1 - b.upd.sp.active) { (w.xferAt a.transfer).image with valid := false } := by
    have hyupd : y.upd = (w.modPart 2 fun p => p.setBank (1 - p.active) { (w.xferAt a.transfer).image with valid := false }).upd := by
      rw [hy]; simp
    have hwsp : w.upd.sp = b.upd.sp := by rw [hw, ← hvupd]; rfl
    rw [hyupd, ← hwsp]
    rfl
  have hyok : imageOk y y.upd.sp.inForce = true := by
    rw [hysp, bank_setBank_other hactive]
    have hrev : y.upd.revoked = b.upd.revoked := by rw [hy, ← hvupd, hw]; simp [State.modPart, State.setUpd, State.modXfer, State.modChan]
    have hfloor : y.upd.floor = b.upd.floor := by rw [hy, ← hvupd, hw]; simp [State.modPart, State.setUpd, State.modXfer, State.modChan]
    rw [imageOk, hrev, hfloor]
    exact hok
  have hystr : y.str = v.str := by rw [hy, hw]; simp [State.modPart, State.setUpd, State.modXfer, State.modChan]
  have hysaf : y.saf.sloe.singleUntil = none := by rw [hy, hw]; simp [State.modPart, State.setUpd, State.modXfer, State.modChan]
  refine ⟨actDone (y.modChan .sp fun c => { c with alive := true, crossT := y.clk }) stFailed 1, ?_, ?_, ?_, ?_, ?_, ?_⟩
  · change execSpActivationTimeout t s = _
    unfold execSpActivationTimeout
    rw [hb]
    simp only [hact, huntil]
    rw [if_neg (by simp [hpart, halive, he]), ← hv, ← hw, if_pos ⟨hstage, by rw [hw, hv]; simpa using hvar⟩, ← hy, if_pos hyok]
  · rw [actDone_saf]; rfl
  · rw [actDone_saf]; exact hysaf
  · rw [actDone_upd]
  · rw [actDone_upd]
    change (y.upd.sp.bank (1 - b.upd.sp.active)).valid = false
    rw [hysp, setBank_bank]
  · intro i hi hlen hreg
    have hstr : (actDone (y.modChan .sp fun c => { c with alive := true, crossT := y.clk }) stFailed 1).str = v.str := by
      rw [← hystr]; simp [State.modChan]
    rw [strAt_congr hstr, hv]
    exact haltAll_halts 285 i _ b hlen (.inl ⟨List.mem_range.2 hi, by rw [strConnected, hreg]⟩)

/-! ## Trial and fallback -/

theorem trialConfirmation_confirms (htrial : b.upd.sup.trial = true) (hhand : b.hpr.handover = false)
    (hdead : b.clk < b.upd.sup.deadline) (hgood : healthy b 1 = true)
    (hheld : heldFor b b.upd.sup.okSince (b.upd.sup.dwell * 60 * nsS) = true) (hhost : b.upd.sup.needHost = false)
    (hswap : b.upd.sup.swapOn = false) : Does (.trialConfirmation t 1) s fun u => u.upd.sup.trial = false ∧
      u.upd.sup.active = b.upd.sup.active ∧ u.upd.floor = (if b.upd.sup.inForce.flags.testBit 0 then
        max b.upd.floor b.upd.sup.inForce.svn else b.upd.floor) ∧ u.unit = b.unit := by
  obtain ⟨v, hv⟩ : ∃ v, v = b.modPart 1 fun x => { x with okSince := track b true x.okSince } := ⟨_, rfl⟩
  have hclk : v.clk = b.clk := by rw [hv]; rfl
  have hswap' : (v.partAt 1).swapOn = false := by rw [hv]; exact hswap
  refine ⟨confirm v 1, ?_, ?_⟩
  · change execTrialConfirmation t 1 s = _
    unfold execTrialConfirmation
    rw [hb]
    dsimp only
    rw [hgood]
    rw [if_neg (by simp [State.partAt, htrial, hhand, hdead]), ← hv, heldFor_congr hclk, if_pos]
    simp only [State.partAt, hheld, hhost, Bool.not_false, Bool.true_or, Bool.and_self]
  · have hforce : (v.partAt 1).inForce = b.upd.sup.inForce := by rw [hv]; rfl
    have hfloor : v.upd.floor = b.upd.floor := by rw [hv]; rfl
    have hactive : v.upd.sup.active = b.upd.sup.active := by rw [hv]; rfl
    have hunit : v.unit = b.unit := by rw [hv]; rfl
    rw [← hforce, ← hfloor, ← hactive, ← hunit, confirm_noSwap hswap']
    exact ⟨rfl, rfl, rfl, rfl⟩

theorem trialConfirmation_breaks (htrial : b.upd.app.trial = true) (hhand : b.hpr.handover = false)
    (hdead : b.clk < b.upd.app.deadline) (hbad : healthy b 3 = false) : Does (.trialConfirmation t 3) s fun u =>
      u.upd.app.trial = true ∧ u.upd.app.okSince = none ∧ u.unit = b.unit := by
  refine ⟨b.modPart 3 fun x => { x with okSince := track b false x.okSince }, ?_, htrial, rfl, rfl⟩
  change execTrialConfirmation t 3 s = _
  unfold execTrialConfirmation
  rw [hb]
  dsimp only
  rw [hbad]
  rw [if_neg (by simp [State.partAt, htrial, hhand, hdead]), if_neg (by simp)]

theorem trialWindowExpiry_fallsBack (htrial : b.upd.app.trial = true) (hact : b.upd.act = none) (hdead : b.upd.app.deadline ≤ b.clk)
    (_ : b.upd.app.active ≤ 1) (hfall : fallbackOk b 3 = true) : Does (.trialWindowExpiry t 3) s fun u =>
      u.upd.app.trial = false ∧ u.upd.app.active = 1 - b.upd.app.active ∧ (u.upd.app.bank b.upd.app.active).valid = false := by
  have hupd : (fallBack b 3).upd = (fellBack b 3).upd := by
    unfold fallBack
    rw [if_neg (by simp [hfall])]
    change (if (fellBack b 3).unit.isRole = true then appRestart (fellBack b 3) 5 else fellBack b 3).upd = _
    split
    · exact (appRestart_keeps ..).2.2.2.2.2.2.2.2.2.2.2.2.2.2.2.2.2.2.2.2.2.2.2.1
    · rfl
  refine ⟨fallBack b 3, ?_, ?_⟩
  · change execTrialWindowExpiry t 3 s = _
    unfold execTrialWindowExpiry
    rw [hb]
    dsimp only
    rw [if_neg (by simp [State.partAt, htrial, hact, hdead])]
  · beta_reduce
    rw [hupd, fellBack_upd]
    exact ⟨rfl, rfl, congrArg BankImage.valid bank_of_setBank⟩

theorem fallback_fallsBack (htrial : b.upd.sup.trial = true) (hact : b.upd.act = none) (hlost : b.pwr.supLost = true)
    (_ : b.upd.sup.active ≤ 1) (hfall : fallbackOk b 1 = true) : Does (.fallback t 1) s fun u => u.upd.sup.trial = false ∧
      u.upd.sup.active = 1 - b.upd.sup.active ∧ (u.upd.sup.bank b.upd.sup.active).valid = false ∧
      u.hpr.handover = b.hpr.handover := by
  have heq : fallBack b 1 = fellBack b 1 := by
    unfold fallBack
    rw [if_neg (by simp [hfall])]
    exact if_pos hlost
  refine ⟨fellBack b 1, ?_, ?_⟩
  · change execFallback t 1 s = _
    unfold execFallback
    rw [hb]
    dsimp only
    rw [if_neg (by simp [State.partAt, htrial, hact, processorFault, hlost]), heq]
  · beta_reduce
    rw [fellBack_upd]
    exact ⟨rfl, rfl, congrArg BankImage.valid bank_of_setBank, by simp⟩

/-! ## Recovery and BOOT -/

theorem recoveryEntry_recovers (hr : b.unit.isRole = true) (hc : b.unit.commands = false) (hrec : b.upd.recT = none)
    (hrun : (runnable b 1 && runnable b 2) = false) : Does (.recoveryEntry t) s fun u => u.unit = .recovery ∧
      u.red.beatsOn = false ∧ u.hpr.handover = false := by
  obtain ⟨hunit, hbeats, hhand, -⟩ := enterRecovery_enters b 528
  refine ⟨enterRecovery b 528, ?_, hunit, hbeats, hhand⟩
  change execRecoveryEntry t s = _
  unfold execRecoveryEntry
  rw [hb]
  dsimp only
  rw [hrec]
  rw [if_neg (by simp [hr]), if_neg (by simp only [hrun, Bool.false_eq_true, not_false_eq_true]), toRecovery, if_pos (by simp [hc])]

theorem recoveryEntry_idle (hr : b.unit.isRole = true) (hrec : b.upd.recT = none) (h1 : runnable b 1 = true)
    (h2 : runnable b 2 = true) : Does (.recoveryEntry t) s fun u => u = b := by
  refine ⟨b, ?_, rfl⟩
  change execRecoveryEntry t s = _
  unfold execRecoveryEntry
  rw [hb]
  dsimp only
  rw [hrec]
  rw [if_neg (by simp [hr]), if_pos (by simp [h1, h2])]

omit hb in
theorem bootTrial_off {s : State} {p : Nat} (h : (s.partAt p).trial = false) : bootTrial s p = s := if_pos (by simp [h])

omit hb in
theorem bootBank_ok {s : State} {p : Nat} (h : imageOk s (s.partAt p).inForce = true) : bootBank s p = s := if_pos h

theorem imageBootCheck_passes (hu : b.unit = .boot) (hch : b.upd.checked = false) (h1 : b.upd.sup.trial = false)
    (h2 : b.upd.sp.trial = false) (h3 : b.upd.app.trial = false) (hok1 : imageOk b b.upd.sup.inForce = true)
    (hok2 : imageOk b b.upd.sp.inForce = true) (hok3 : imageOk b b.upd.app.inForce = true) : Does (.imageBootCheck t) s fun u =>
      u = b.setUpd (fun x => { x with checked := true }) := by
  refine ⟨b.setUpd fun x => { x with checked := true }, ?_, rfl⟩
  change execImageBootCheck t s = _
  unfold execImageBootCheck
  rw [hb]
  dsimp only
  rw [if_neg (by simp [hu, hch])]
  simp only [List.foldl_cons, List.foldl_nil, bootTrial_off (s := b) (p := 1) h1, bootTrial_off (s := b) (p := 2) h2,
    bootTrial_off (s := b) (p := 3) h3, bootBank_ok (s := b) (p := 1) hok1, bootBank_ok (s := b) (p := 2) hok2,
    bootBank_ok (s := b) (p := 3) hok3, hok1, hok2, hok3, if_true, Bool.and_self]

end

/-- From `s` to `u` the image of SUP, what may run and the variant stand. -/
structure SameSup (s u : State) : Prop where
  sup : u.upd.sup = s.upd.sup
  revoked : u.upd.revoked = s.upd.revoked
  floor : u.upd.floor = s.upd.floor
  variant : u.variant = s.variant

theorem SameSup.refl (s : State) : SameSup s s := ⟨rfl, rfl, rfl, rfl⟩

theorem SameSup.trans {s u v : State} (h : SameSup s u) (k : SameSup u v) : SameSup s v :=
  ⟨k.sup.trans h.sup, k.revoked.trans h.revoked, k.floor.trans h.floor, k.variant.trans h.variant⟩

theorem SameSup.imageOk {s u : State} (h : SameSup s u) (i : BankImage) : imageOk u i = Machine.imageOk s i := by
  rw [Machine.imageOk, Machine.imageOk, h.revoked, h.floor]

theorem SameSup.fallbackOk {s u : State} (h : SameSup s u) : fallbackOk u 1 = Machine.fallbackOk s 1 := by
  rw [Machine.fallbackOk, Machine.fallbackOk, h.variant, h.imageOk, State.partAt, State.partAt, h.sup]

/-- The parts beside SUP. -/
def BesideSup (p : Nat) : Prop := p = 2 ∨ p = 3

theorem sameSup_modPart (s : State) {p : Nat} (hp : BesideSup p) (f : Part → Part) : SameSup s (s.modPart p f) := by
  rcases hp with rfl | rfl
  · exact ⟨rfl, rfl, rfl, rfl⟩
  · exact ⟨rfl, rfl, rfl, rfl⟩

theorem sameSup_fellBack (s : State) {p : Nat} (hp : BesideSup p) : SameSup s (fellBack s p) := by
  have hupd := fellBack_upd s p
  have hpart := sameSup_modPart s hp fun x =>
    { (x.setBank (s.partAt p).active { x.inForce with valid := false }) with active := 1 - (s.partAt p).active, trial := false }
  exact ⟨(congrArg Upd.sup hupd).trans hpart.sup, (congrArg Upd.revoked hupd).trans hpart.revoked,
    (congrArg Upd.floor hupd).trans hpart.floor, (fellBack_keeps ..).2.1⟩

theorem sameSup_bootTrial (s : State) {p : Nat} (hp : BesideSup p) : SameSup s (bootTrial s p) := by
  unfold bootTrial
  dsimp only
  split
  · exact .refl s
  · split
    · exact sameSup_modPart s hp _
    · split
      · exact sameSup_fellBack s hp
      · exact sameSup_modPart s hp _

theorem sameSup_bootBank (s : State) {p : Nat} (hp : BesideSup p) : SameSup s (bootBank s p) := by
  unfold bootBank
  split
  · exact .refl s
  · split
    · exact sameSup_fellBack s hp
    · exact .refl s

theorem imageBootCheck_recovers {t : Nat} {s b : State} (hb : s.advance t = b) (hu : b.unit = .boot) (hch : b.upd.checked = false)
    (h1 : b.upd.sup.trial = false) (hbad : imageOk b b.upd.sup.inForce = false) (hfall : fallbackOk b 1 = false) :
    Does (.imageBootCheck t) s fun u => u.unit = .recovery := by
  have h2 : BesideSup 2 := .inl rfl
  have h3 : BesideSup 3 := .inr rfl
  have htrials := (sameSup_bootTrial b h2).trans (sameSup_bootTrial (bootTrial b 2) h3)
  obtain ⟨v, hv⟩ : ∃ v, v = bootTrial (bootTrial b 2) 3 := ⟨_, rfl⟩
  rw [← hv] at htrials
  have hbank : bootBank v 1 = v := by
    unfold bootBank
    rw [if_neg (by rw [htrials.imageOk, State.partAt, htrials.sup, hbad]; simp), if_neg (by rw [htrials.fallbackOk, hfall]; simp)]
  have hbanks := htrials.trans ((sameSup_bootBank v h2).trans (sameSup_bootBank (bootBank v 2) h3))
  obtain ⟨w, hw⟩ : ∃ w, w = bootBank (bootBank v 2) 3 := ⟨_, rfl⟩
  rw [← hw] at hbanks
  obtain ⟨y, hy⟩ : ∃ y, y = if imageOk w w.upd.app.inForce then w else w.setApp fun a => { a with run := 2 } := ⟨_, rfl⟩
  have hyupd : y.upd = w.upd := by
    rw [hy]
    split <;> rfl
  have hyok : imageOk y y.upd.sup.inForce = false := by
    rw [imageOk, hyupd, hbanks.revoked, hbanks.floor, hbanks.sup]
    exact hbad
  refine ⟨enterRecovery y 530, ?_, (enterRecovery_enters y 530).1⟩
  change execImageBootCheck t s = _
  unfold execImageBootCheck
  rw [hb]
  dsimp only
  rw [if_neg (by simp [hu, hch])]
  simp only [List.foldl_cons, List.foldl_nil, bootTrial_off (s := b) (p := 1) h1, ← hv, hbank, ← hw, ← hy, hyok, Bool.false_and,
    Bool.false_eq_true, if_false]

/-! ## Distribution -/

/-- An FW frame goes out to the monitor that is served, which answers with its result. -/
theorem fwFrame_sends {b : State} {i m : Nat} (op result : Nat) (f : MonFw → MonFw) (hs : b.isStr i = true) (hc : CanCommand b i m)
    (hserved : fwServed b i m = true) : Sent b (fwFrame b i m op result f) i m 10 op ∧ HasMon (fwFrame b i m op result f) i m ∧
      ∃ v, (fwFrame b i m op result f).monAt i m =
        { (b.monAt i m).charged with
          fw := if ackResult (b.monAt i m) true result = 0 then f (b.monAt i m).fw else (b.monAt i m).fw, ack := v } := by
  obtain ⟨hruns, hmaster, -, hpos, hcred, -, hmon⟩ := hc
  have heq : fwFrame b i m op result f = (sendFrame b i m 10 op false).modMon i m fun x =>
      let fw := if ackResult (b.monAt i m) true result = 0 then f x.fw else x.fw
      { x with fw := fw, ack := some (op, ackResult (b.monAt i m) true result, fw.next) } := by
    unfold fwFrame
    rw [if_neg (by simp [hs, hruns, hmaster, hserved, hcred, Option.isSome_iff_ne_none.1 hpos])]
  have hsent : HasMon (sendFrame b i m 10 op false) i m := hasMon_of_sizes (by simp) hmon
  have hat := (monAt_modMon_same (sendFrame b i m 10 op false) (fun x =>
      let fw := if ackResult (b.monAt i m) true result = 0 then f x.fw else x.fw
      { x with fw := fw, ack := some (op, ackResult (b.monAt i m) true result, fw.next) }) hsent)
  rw [sendFrame_monAt 10 op false hmon hcred, ← heq] at hat
  refine ⟨⟨?_, by rw [hat]; rfl⟩, hasMon_of_sizes (by simp) hmon, _, hat⟩
  rw [heq, ← sendFrame_outstanding 10 op false hmon hcred]
  exact ringAt_modRing_field (·.outstanding) (sendFrame b i m 10 op false) i i _ fun _ => rfl

section
variable {t : Nat} {s b : State} {i m : Nat} (hb : s.advance t = b)
include hb

section
variable (hs : b.isStr i = true) (hc : CanCommand b i m) (hserved : fwServed b i m = true)
include hs hc hserved

theorem fwBegin_begins {len : Nat} (hlo : 0 < len) (hhi : len ≤ 1048576) : Does (.fwBegin t i m len) s fun u => Sent b u i m 10 1 ∧
    (if ackResult (b.monAt i m) true 0 = 0 then (u.monAt i m).fw = { len := len } else (u.monAt i m).fw = (b.monAt i m).fw) ∧
    u.str = b.str := by
  obtain ⟨hsent, -, v, hat⟩ := fwFrame_sends 1 0 (fun _ => { len := len }) hs hc hserved
  refine ⟨fwFrame b i m 1 0 fun _ => { len := len }, ?_, hsent, ?_, by simp⟩
  · change execFwBegin t i m len s = _
    unfold execFwBegin
    rw [hb, if_pos ⟨hlo, hhi⟩]
  · have hfw := congrArg Monitor.fw hat
    by_cases hack : ackResult (b.monAt i m) true 0 = 0
    · rw [if_pos hack]
      exact hfw.trans (if_pos hack)
    · rw [if_neg hack]
      exact hfw.trans (if_neg hack)

theorem fwData_writes {x : Bytes} (hlo : 0 < x.length) (hhi : x.length ≤ 256)
    (hfit : (b.monAt i m).fw.next + x.length ≤ (b.monAt i m).fw.len) (hack : ackResult (b.monAt i m) true 0 = 0) :
    Does (.fwData t i m (b.monAt i m).fw.next x) s fun u => Sent b u i m 10 2 ∧
      (u.monAt i m).fw.bytes = (b.monAt i m).fw.bytes ++ x ∧ (u.monAt i m).fw.next = (b.monAt i m).fw.next + x.length := by
  obtain ⟨hsent, -, v, hat⟩ := fwFrame_sends 2 0
    (fun w => { w with bytes := w.bytes ++ x, next := w.next + x.length, checked := false }) hs hc hserved
  rw [if_pos hack] at hat
  refine ⟨fwFrame b i m 2 0 fun w => { w with bytes := w.bytes ++ x, next := w.next + x.length, checked := false }, ?_, hsent,
    by rw [hat], by rw [hat]⟩
  change execFwData t i m (b.monAt i m).fw.next x s = _
  unfold execFwData
  rw [hb]
  dsimp only
  rw [if_pos (by simp [hlo, hhi, hfit])]

theorem fwEnd_checks (hnext : (b.monAt i m).fw.next = (b.monAt i m).fw.len) (hlen : (b.monAt i m).fw.len ≠ 0)
    (hack : ackResult (b.monAt i m) true 0 = 0) : Does (.fwEnd t i m (crc32c (b.monAt i m).fw.bytes)) s fun u =>
      Sent b u i m 10 3 ∧ (u.monAt i m).fw.checked = true ∧ (u.monAt i m).fw.bytes = (b.monAt i m).fw.bytes := by
  obtain ⟨hsent, -, v, hat⟩ := fwFrame_sends 3 0 (fun w => { w with checked := true }) hs hc hserved
  rw [if_pos hack] at hat
  refine ⟨fwFrame b i m 3 0 fun w => { w with checked := true }, ?_, hsent, by rw [hat], by rw [hat]⟩
  change execFwEnd t i m _ s = _
  unfold execFwEnd
  rw [hb]
  dsimp only
  rw [if_pos (by simp [hnext, hlen])]

theorem fwSwitch_switches {ok : Bool} (hch : (b.monAt i m).fw.checked = true) (hack : ackResult (b.monAt i m) true 0 = 0) :
    Does (.fwSwitch t i m ok) s fun u => Sent b u i m 10 4 ∧ (u.monAt i m).fw.switchedT = some b.clk ∧
      (u.monAt i m).fw.failed = !ok ∧ (u.monAt i m).position = none ∧ (u.monAt i m).restarted = true := by
  obtain ⟨f, hf⟩ : ∃ f : MonFw → MonFw, f = fun w =>
      { w with len := 0, next := 0, bytes := [], checked := false, failed := !ok, switchedT := some b.clk } := ⟨_, rfl⟩
  obtain ⟨hsent, hmon, v, hat⟩ := fwFrame_sends 4 0 f hs hc hserved
  rw [if_pos hack] at hat
  obtain ⟨w, hw⟩ : ∃ w, w = fwFrame b i m 4 0 f := ⟨_, rfl⟩
  rw [← hw] at hsent hmon hat
  have hoff := monAt_modMon_same w (fun x =>
    { x with position := none, synced := false, bleed := [], shuttle := none, restarted := true, plan := false }) hmon
  refine ⟨w.modMon i m fun x =>
    { x with position := none, synced := false, bleed := [], shuttle := none, restarted := true, plan := false }, ?_, ⟨?_, ?_⟩, ?_⟩
  · change execFwSwitch t i m ok s = _
    unfold execFwSwitch
    rw [hb]
    dsimp only
    rw [if_pos hch, ← hf, ← hw, if_pos (by simp [hat, hf, hch])]
  · rw [← hsent.1]
    exact ringAt_modRing_field (·.outstanding) w i i _ fun _ => rfl
  · rw [hoff, ← hsent.2]
  · rw [hoff, hat, hf]
    exact ⟨rfl, rfl, rfl, rfl⟩

end

theorem monitorReturnTimeout_stops {a : Activation} (hact : b.upd.act = some a) (hpart : a.part = 5) (hs : b.isStr i = true)
    (hmon : HasMon b i m) (hh : heldFor b (b.monAt i m).fw.switchedT (400 * nsMs) = true) (hret : b.retired (uMon i m) = false)
    (_ : b.suspended (uMon i m) = false) : Does (.monitorReturnTimeout t i m) s fun u => u.upd.act = none ∧
      (u.monAt i m).fw.switchedT = none ∧ u.suspended (uMon i m) = true := by
  obtain ⟨v, hv⟩ : ∃ v, v = b.modMon i m fun x => { x with fw := { x.fw with switchedT := none } } := ⟨_, rfl⟩
  have hvact : v.upd.act = some a := by rw [hv]; exact hact
  have hvret : (actFailed v 1).retired (uMon i m) = false := by
    rw [State.retired, show (actFailed v 1).flt = b.flt by rw [hv]; simp [State.modMon, State.modRing]]
    exact hret
  refine ⟨detected (actFailed v 1) (uMon i m) 94 0, ?_, ?_, ?_, detected_suspends 94 0 hvret⟩
  · change execMonitorReturnTimeout t i m s = _
    unfold execMonitorReturnTimeout
    rw [hb]
    dsimp only
    rw [if_pos (by simp [hs, hh]), ← hv, hvact]
    dsimp only
    rw [if_pos hpart]
  · have hupd : (detected (actFailed v 1) (uMon i m) 94 0).upd = (actFailed v 1).upd := by simp
    rw [hupd, actFailed, hvact]
    dsimp only
    rw [actDone_upd]
  · have hrings : (detected (actFailed v 1) (uMon i m) 94 0).rings = v.rings := by simp
    rw [monAt_congr hrings, hv, monAt_modMon_same b _ hmon]

theorem driverConfigLoad_loads {n : Nat} {a : Activation} (hact : b.upd.act = some a) (hpart : a.part = 6) (hn : n < b.gx2.length)
    (hnext : (driverOrder b 6 a.target)[a.count]? = some n) (hidle : (b.strAt (n / 4)).state ≠ .regulating)
    (hmore : a.count + 1 < (driverOrder b 6 a.target).length) : Does (.driverConfigLoad t false n true) s fun u =>
      (u.gx2At n).configLoaded = true ∧ u.upd.act = some { a with count := a.count + 1 } ∧ u.str = b.str := by
  have hat := getD_modify_same b.gx2 n (fun g : Gx2 => { g with configLoaded := true }) {} hn
  refine ⟨(b.modGx2 n fun g => { g with configLoaded := true }).setUpd fun u => { u with act := some { a with count := a.count + 1 } },
    ?_, congrArg Gx2.configLoaded hat, rfl, rfl⟩
  change execDriverConfigLoad t false n true s = _
  unfold execDriverConfigLoad
  rw [hb]
  simp only [hact, hpart]
  rw [if_neg (by simp [hnext, driverIdle, hidle]), if_neg (by simp), if_pos hmore]
  rfl

theorem driverConfigLoad_refused {n : Nat} {a : Activation} (hact : b.upd.act = some a) (hpart : a.part = 6)
    (hnext : (driverOrder b 6 a.target)[a.count]? = some n) (hidle : (b.strAt (n / 4)).state ≠ .regulating) :
    Does (.driverConfigLoad t false n false) s fun u => u.upd.act = none ∧ u.gx2 = b.gx2 ∧ u.str = b.str := by
  refine ⟨actFailed b 3, ?_, ?_, by simp, by simp⟩
  · change execDriverConfigLoad t false n false s = _
    unfold execDriverConfigLoad
    rw [hb]
    simp only [hact, hpart]
    rw [if_neg (by simp [hnext, driverIdle, hidle]), if_pos (by simp)]
  · rw [actFailed, hact]
    dsimp only
    rw [actDone_upd]

end

/-- Settles O47, event by event. -/
theorem updateEvents : Obligations.UpdateEvents :=
  ⟨fun _ _ _ => supHandoverAdopt_adopts rfl, fun _ _ _ => supHandoverAdopt_fails rfl,
    fun _ _ _ => handoverWindowExceeded_recovers rfl, fun _ _ _ _ => spActivationTimeout_resumes rfl,
    fun _ _ => trialConfirmation_confirms rfl, fun _ _ => trialConfirmation_breaks rfl, fun _ _ => trialWindowExpiry_fallsBack rfl,
    fun _ _ => fallback_fallsBack rfl, fun _ _ => recoveryEntry_recovers rfl, fun _ _ => recoveryEntry_idle rfl,
    fun _ _ => imageBootCheck_passes rfl, fun _ _ => imageBootCheck_recovers rfl, fun _ _ _ _ _ hs hc hf => fwBegin_begins rfl hs hc hf,
    fun _ _ _ _ _ hs hc hf => fwData_writes rfl hs hc hf, fun _ _ _ _ hs hc hf => fwEnd_checks rfl hs hc hf,
    fun _ _ _ _ _ hs hc hf => fwSwitch_switches rfl hs hc hf,
    fun _ _ _ _ _ => monitorReturnTimeout_stops rfl, fun _ _ _ _ => driverConfigLoad_loads rfl,
    fun _ _ _ _ => driverConfigLoad_refused rfl⟩

end Sys2Proof.Machine
end

section
/-! SUPPORT. Rails, numbered states and the SEQ line (13_sequencing.md R387 to R405). -/

namespace Sys2Proof.Machine

-- One proof at a time: together their threads exceed the memory of the check.
set_option Elab.async false

/-! ## One rail -/

/-- The entry of rail `r` names rail `r`. -/
theorem enRail_of_railEntry {s : State} {r : Nat} {e : Bytes} (h : railEntry s r = some e) : enRail e = r := by
  simpa using List.find?_some h

theorem railAt_congr {s u : State} (h : u.seq.rails = s.seq.rails) (k : Nat) : u.railAt k = s.railAt k := by
  rw [State.railAt, State.railAt, h]

/-- What a step does with rail `r`, and that it leaves the others. -/
abbrev RailMoved (s u : State) (r : Nat) (f : Rail → Rail) : Prop :=
  u.railAt r = f (s.railAt r) ∧ ∀ k, k ≠ r → u.railAt k = s.railAt k

theorem RailMoved.of_rails {s u : State} {r : Nat} {f : Rail → Rail} (hr : r < s.seq.rails.length)
    (h : u.seq.rails = s.seq.rails.modify r f) : RailMoved s u r f :=
  ⟨by rw [State.railAt, h]; exact getD_modify_same _ _ _ _ hr,
    fun k hk => by rw [State.railAt, h]; exact getD_modify_ne _ _ _ hk⟩

/-- A rail whose enable is asserted at `now`. -/
def Rail.started (now : Nat) (x : Rail) : Rail :=
  { x with enabled := true, good := false, running := false, enableT := now
           downDone := false, leftWindow := false, faultHold := none }

/-- A rail whose enable is released at `now`, done where it has no discharge wait. -/
def Rail.released (now : Nat) (quick : Bool) (x : Rail) : Rail :=
  { x with enabled := false, good := false, running := false, downT := now, downDone := x.downDone || quick }

theorem railOn_seq (s : State) (e : Bytes) :
    (railOn s e).seq = { s.seq with rails := s.seq.rails.modify (enRail e) (Rail.started s.clk) } := by
  unfold railOn
  dsimp only
  split
  · simp
    rfl
  · rfl

theorem railOff_seq (s : State) (e : Bytes) :
    (railOff s e).seq = { s.seq with rails := s.seq.rails.modify (enRail e) (Rail.released s.clk (noDischarge s e)) } := by
  unfold railOff
  dsimp only
  split <;> rfl

/-- Releasing the rails not yet good touches the rails alone. -/
theorem releaseUnready_seq (s : State) : ∃ l, (releaseUnready s).seq = { s.seq with rails := l } :=
  List.foldlRecOn (motive := fun u => ∃ l, u.seq = { s.seq with rails := l }) _ railOff ⟨s.seq.rails, rfl⟩
    fun u ⟨l, hl⟩ e _ => ⟨_, (railOff_seq u e).trans (by rw [hl])⟩

/-! ## Numbered states -/

theorem beginState_eq (s : State) (n : Nat) : ∃ i o, beginState s n = s.setSeq fun q =>
    { q with pos := n, posT := s.clk, lineT := s.clk, pulling := !q.local_, cin := i, cout := o } := by
  unfold beginState
  dsimp only
  split
  · exact ⟨false, false, rfl⟩
  · exact ⟨s.seq.cin, s.seq.cin, rfl⟩

theorem settle_pending {s : State} (h : stateDone s = false) (n : Nat) : settle n s = s := by
  cases n with
  | zero => rfl
  | succ n => exact if_pos (by simp [h])

theorem settled_pending {s : State} (h : stateDone s = false) : settled s = s := settle_pending h 65

/-- An ascending state is not done during an off request, and a descending one not before its pre-off steps are. -/
theorem stateDone_ascending {s : State} (hp : s.seq.phase = .ascending) (h : s.seq.preOff ≠ 0) : stateDone s = false := by
  simp [stateDone, hp, h]

theorem stateDone_descending {s : State} (hp : s.seq.phase = .descending) (h : s.seq.preOff ≠ 3) : stateDone s = false := by
  simp [stateDone, hp, h]

/-- Where a state is done, the line is released first. -/
def pullEnded (s : State) : State :=
  s.setSeq fun q => { q with pulling := false, cout := q.cin || (cascaded s && !q.local_) }

theorem settle_done {s : State} (h : stateDone s = true) (n : Nat) : settle (n + 1) s =
    match s.seq.phase with
    | .descending => if s.seq.pos = 0 then goOff (pullEnded s) 400 false
        else if s.seq.local_ then settle n (beginState (pullEnded s) (s.seq.pos - 1)) else pullEnded s
    | .ascending => if !s.seq.local_ then pullEnded s
        else if tblTop s.seq.table ≤ s.seq.pos then (pullEnded s).setSeq fun q => { q with phase := .up, beaconT := s.clk }
        else settle n (beginState (pullEnded s) (s.seq.pos + 1))
    | _ => pullEnded s :=
  (if_neg (by simp [h])).trans rfl

/-- Settling moves the sequencer alone and no rail, unless a descent below state 0 turns the unit off. -/
theorem settle_moves (n : Nat) (s : State) : ∃ q : Seq, q.rails = s.seq.rails ∧ q.step = s.seq.step ∧
    (settle n s = { s with seq := q } ∨ s.seq.phase = .descending ∧ settle n s = goOff { s with seq := q } 400 false) := by
  induction n generalizing s with
  | zero => exact ⟨s.seq, rfl, rfl, .inl rfl⟩
  | succ n ih =>
    cases hd : stateDone s with
    | false => exact ⟨s.seq, rfl, rfl, .inl (settle_pending hd _)⟩
    | true =>
      rw [settle_done hd]
      split
      next hp =>
        split
        · exact ⟨(pullEnded s).seq, rfl, rfl, .inr ⟨hp, rfl⟩⟩
        · split
          · obtain ⟨i, o, hb⟩ := beginState_eq (pullEnded s) (s.seq.pos - 1)
            obtain ⟨q, hrails, hstep, h⟩ := ih (beginState (pullEnded s) (s.seq.pos - 1))
            rw [hb] at h hrails hstep ⊢
            exact ⟨q, hrails, hstep, h.imp id fun h => ⟨hp, h.2⟩⟩
          · exact ⟨(pullEnded s).seq, rfl, rfl, .inl rfl⟩
      next hp =>
        split
        · exact ⟨(pullEnded s).seq, rfl, rfl, .inl rfl⟩
        · split
          · exact ⟨{ (pullEnded s).seq with phase := .up, beaconT := s.clk }, rfl, rfl, .inl rfl⟩
          · obtain ⟨i, o, hb⟩ := beginState_eq (pullEnded s) (s.seq.pos + 1)
            obtain ⟨q, hrails, hstep, h⟩ := ih (beginState (pullEnded s) (s.seq.pos + 1))
            rw [hb] at h hrails hstep ⊢
            refine ⟨q, hrails, hstep, .inl (h.resolve_right fun h => ?_)⟩
            exact SeqPhase.noConfusion (hp.symm.trans h.1)
      next => exact ⟨(pullEnded s).seq, rfl, rfl, .inl rfl⟩

/-- An ascending sequence settles within the sequencer. -/
theorem settled_ascending {s : State} (hp : s.seq.phase = .ascending) :
    ∃ q : Seq, q.rails = s.seq.rails ∧ q.step = s.seq.step ∧ settled s = { s with seq := q } := by
  obtain ⟨q, hrails, hstep, h⟩ := settle_moves 65 s
  exact ⟨q, hrails, hstep, h.resolve_right fun h => SeqPhase.noConfusion (hp.symm.trans h.1)⟩

/-- On the line a state that is done is at most released: the step is the line's. -/
theorem settled_onLine {s : State} (hline : s.seq.local_ = false)
    (hp : s.seq.phase = .ascending ∨ s.seq.phase = .descending ∧ s.seq.pos ≠ 0) :
    ∃ p o, settled s = s.setSeq fun q => { q with pulling := p, cout := o } := by
  cases hd : stateDone s with
  | false => exact ⟨s.seq.pulling, s.seq.cout, settled_pending hd⟩
  | true =>
    refine ⟨false, s.seq.cin || (cascaded s && !s.seq.local_), (settle_done hd 64).trans ?_⟩
    rcases hp with hp | ⟨hp, h0⟩
    · rw [hp]
      exact if_pos (by simp [hline])
    · rw [hp]
      exact (if_neg h0).trans (if_neg (by simp [hline]))

/-- A descent starts with its pre-off steps, and so no state of it is done. -/
theorem startDescent_eq {s : State} (h : s.seq.preOff = 0) (n : Nat) (system : Bool) :
    ∃ i o, startDescent s n system = s.setSeq fun q =>
      { q with phase := .descending, local_ := !system, pendingLocal := false, preOff := 1, preOffT := s.clk
               pos := n, posT := s.clk, lineT := s.clk, pulling := system, cin := i, cout := o } := by
  obtain ⟨v, hv⟩ : ∃ v, v = s.setSeq fun q => { q with
      phase := .descending, local_ := !system, pendingLocal := false, preOff := 1, preOffT := s.clk } := ⟨_, rfl⟩
  have hd : startDescent s n system = settled (beginState v n) := by
    simp only [startDescent, hv, State.setSeq, h, if_pos]
  obtain ⟨i, o, hb⟩ := beginState_eq v n
  refine ⟨i, o, ?_⟩
  rw [hd, hb, settled_pending (stateDone_descending (by rw [hv]; rfl) (by rw [hv]; exact Nat.succ_ne_succ_iff.mpr (by decide))), hv]
  simp only [State.setSeq, Bool.not_not]

/-! ## Off requests -/

/-- An off request of a unit that is up: only a local one of an ACTIVE unit with a partner waits. -/
theorem offRequest_up {s : State} (hoff : s.unit ≠ .off) (hup : s.unit ≠ .powerup) (hp : s.seq.phase = .up)
    (system : Bool) : offRequest s system =
      if !system && s.unit == .active && s.red.present then s.setSeq fun q => { q with pendingLocal := true }
      else startDescent s (tblTop s.seq.table) (system && onLine s) := by
  unfold offRequest
  split
  next h => exact absurd h hoff
  next h => exact absurd h hup
  next => simp [hp]

/-- An off request of system scope in a sequence that ascends. -/
theorem offRequest_ascending {s : State} (hoff : s.unit ≠ .off) (hup : s.unit ≠ .powerup) (hp : s.seq.phase = .ascending)
    (h0 : s.seq.preOff = 0) : offRequest s true =
      if s.seq.local_ then startDescent (releaseUnready s) s.seq.pos false
      else (releaseUnready s).setSeq fun q => { q with preOff := 1, preOffT := s.clk } := by
  unfold offRequest
  split
  next h => exact absurd h hoff
  next h => exact absurd h hup
  next => simp [hp, h0]

/-! ## OFF -/

/-- A rail of a unit that is off. -/
def Rail.down (x : Rail) : Rail :=
  { x with enabled := false, good := false, running := false, downDone := true, leftWindow := false, faultHold := none }

theorem goOff_seq (s : State) (cause : Nat) (keep : Bool) : (goOff s cause keep).seq =
    { s.seq with phase := .idle, pulling := false, step := 0, pendingLocal := false, preOff := 0, ignoring := false
                 rails := s.seq.rails.map Rail.down } := by
  unfold goOff
  simp
  exact fun _ _ => rfl

theorem goOff_minOff (s : State) (cause : Nat) (keep : Bool) : (goOff s cause keep).pwr.minOffEnd = s.clk + 2 * nsS ∧
    (goOff s cause keep).pwr.aonFault = s.pwr.aonFault := by
  unfold goOff
  simp

/-- A rail fault turns the unit off, with its cause and code. -/
theorem railFault_off (s : State) (code cause : Nat) (rail : Option Nat) :
    (railFault s code cause rail).unit = .off ∧ (railFault s code cause rail).seq.faultRail = rail ∧
    (railFault s code cause rail).seq.faultCause = cause ∧ (railFault s code cause rail).pwr.aonFault = code ∧
    (railFault s code cause rail).pwr.minOffEnd = s.clk + 2 * nsS ∧ (railFault s code cause rail).red.beatsOn = false := by
  obtain ⟨v, hv⟩ : ∃ v, v = (s.setSeq fun q => { q with faultRail := rail, faultCause := cause }).setPwr fun p =>
    { p with aonFault := code } := ⟨_, rfl⟩
  obtain ⟨keep, hf⟩ : ∃ keep, railFault s code cause rail = goOff v 403 keep := ⟨_, by rw [hv]; rfl⟩
  obtain ⟨_, hunit, _, _, _, hbeats, _⟩ := goOff_off v 403 keep
  obtain ⟨hmin, haon⟩ := goOff_minOff v 403 keep
  have hseq := goOff_seq v 403 keep
  rw [hf, hseq, hmin, haon, hv]
  exact ⟨hv ▸ hunit, rfl, rfl, rfl, rfl, hv ▸ hbeats⟩

/-! ## The strings in the pre-off steps -/

/-- The zero setpoint of string `i`. -/
def zeroSetpoint (s : State) (i : Nat) : State :=
  if (s.strAt i).state == .regulating then
    s.modConv i fun c => { c with rampStop := true, rampThen := some (c.rampThen.getD .connected) }
  else s

/-- String `i`, REGULATING, has its zero setpoint and goes to `dest`. -/
def Ramping (i : Nat) (dest : StrState) (s : State) : Prop :=
  (s.convAt i).rampStop = true ∧ (s.convAt i).rampThen = some dest

theorem zeroSetpoint_eq (s : State) : ∀ i, ∃ c, zeroSetpoint s i = { s with conv := c } ∧ c.length = s.conv.length := by
  intro i
  unfold zeroSetpoint
  split
  · exact ⟨_, rfl, List.length_modify ..⟩
  · exact ⟨s.conv, rfl, rfl⟩

/-- The zero setpoints touch the converters alone. -/
theorem zeroSetpoints_eq (s : State) (l : List Nat) : ∃ c, l.foldl zeroSetpoint s = { s with conv := c } :=
  List.foldlRecOn (motive := fun u => ∃ c, u = { s with conv := c }) l zeroSetpoint ⟨s.conv, rfl⟩ fun u ⟨c, hc⟩ i _ => by
    obtain ⟨c', h, _⟩ := zeroSetpoint_eq u i
    exact ⟨c', h.trans (by rw [hc])⟩

theorem zeroSetpoint_ramping {s : State} {i : Nat} (hr : (s.strAt i).state = .regulating) (hi : i < s.conv.length) :
    Ramping i ((s.convAt i).rampThen.getD .connected) (zeroSetpoint s i) := by
  have h : zeroSetpoint s i = _ := if_pos (by simp [hr])
  rw [Ramping, h, convAt_modConv_same s i _ hi]
  exact ⟨rfl, rfl⟩

theorem zeroSetpoint_convAt_ne (s : State) {i k : Nat} (hk : k ≠ i) : (zeroSetpoint s i).convAt k = s.convAt k := by
  unfold zeroSetpoint
  split
  · exact convAt_modConv_ne s _ hk
  · rfl

theorem zeroSetpoints_ramping {s : State} {i : Nat} (hs : i < s.strings) (hi : i < s.conv.length)
    (hr : (s.strAt i).state = .regulating) :
    Ramping i ((s.convAt i).rampThen.getD .connected) ((List.range s.strings).foldl zeroSetpoint s) := by
  refine foldl_establishes (Q := fun u => (u.strAt i).state = .regulating ∧ i < u.conv.length ∧
      (u.convAt i).rampThen.getD .connected = (s.convAt i).rampThen.getD .connected) ?_ ?_ ?_ _ (List.mem_range.mpr hs) s
    ⟨hr, hi, rfl⟩
  · rintro u k ⟨hr, hi, hd⟩
    obtain ⟨c, h, hlen⟩ := zeroSetpoint_eq u k
    refine ⟨by rw [h]; exact hr, by rw [h, hlen]; exact hi, ?_⟩
    by_cases hk : i = k
    · subst hk
      rw [(zeroSetpoint_ramping hr hi).2, ← hd]
      rfl
    · rw [zeroSetpoint_convAt_ne u hk, hd]
  · rintro u ⟨hr, hi, hd⟩
    exact hd ▸ zeroSetpoint_ramping hr hi
  · rintro u k ⟨hr, hi, hd⟩ hp
    by_cases hk : i = k
    · subst hk
      exact hd ▸ zeroSetpoint_ramping hr hi
    · simpa only [Ramping, zeroSetpoint_convAt_ne u hk] using hp

/-- A string with closed contactors opens at its disconnection. -/
theorem disconnectStep_closed (cause : Nat) {s : State} {i : Nat}
    (hr : (s.strAt i).state = .connected ∨ (s.strAt i).state = .regulating) (hi : i < s.conv.length) :
    ((disconnectStep cause s i).strAt i).state = (s.strAt i).state ∧ Opening i (disconnectStep cause s i) := by
  have he : disconnectStep cause s i = disconnectNow (if strayCause cause then strayStr s i else s) i := by
    unfold disconnectStep
    rcases hr with hr | hr <;> rw [hr]
  rw [he]
  constructor
  · rw [strAt_congr (disconnectNow_str ..)]
    split
    · exact strayStr_state s i
    · rfl
  · exact disconnectNow_opening _ i (by simpa using hi)

theorem disconnectAll_closed (cause : Nat) {s : State} {i : Nat} (hs : i < s.strings) (hi : i < s.conv.length)
    (hr : (s.strAt i).state = .connected ∨ (s.strAt i).state = .regulating) : Opening i (disconnectAll s cause) := by
  rw [disconnectAll_eq]
  refine foldl_establishes (Q := fun u => ((u.strAt i).state = .connected ∨ (u.strAt i).state = .regulating) ∧
      i < u.conv.length) ?_ (fun u h => (disconnectStep_closed cause h.1 h.2).2) ?_ _ (List.mem_range.mpr hs) s ⟨hr, hi⟩
  · rintro u k ⟨hr, hi⟩
    refine ⟨?_, by rwa [conv_length_of_sizes (disconnectStep_sizes cause u k)]⟩
    by_cases hk : i = k
    · rwa [← hk, (disconnectStep_closed cause hr hi).1]
    · rwa [(disconnectStep_sameString cause u hk).1]
  · rintro u k ⟨hr, hi⟩ hp
    by_cases hk : i = k
    · exact hk ▸ (disconnectStep_closed cause hr hi).2
    · simpa [Opening, (disconnectStep_sameString cause u hk).2] using hp

/-- A converter whose resistor model is stored at `now`. -/
def Conv.saved (now : Nat) (c : Conv) : Conv := { c with stored := some (c.e, now) }

theorem storeE_opening {s : State} {i : Nat} (k : Nat) (h : Opening i s) : Opening i (storeE s k) := by
  unfold storeE
  split
  · exact ⟨(convAt_modConv_field Conv.running s k i (Conv.saved s.clk) fun _ => rfl).trans h.1,
      (convAt_modConv_field Conv.rampThen s k i (Conv.saved s.clk) fun _ => rfl).trans h.2⟩
  · exact h

theorem opening_congr {s u : State} {i : Nat} (hc : u.conv = s.conv) (h : Opening i s) : Opening i u := by
  rwa [Opening, convAt_congr hc]

/-- The writeback stores the resistor models and leaves the converters. -/
theorem writeback_opening {s : State} {i : Nat} (h : Opening i s) : Opening i (writeback s) := by
  obtain ⟨v, hv⟩ : ∃ v, v = (List.range (triggerJournal s 2).strings).foldl storeE (triggerJournal s 2) := ⟨_, rfl⟩
  have hstored : Opening i v := hv ▸ List.foldlRecOn (motive := Opening i) _ storeE (opening_congr (by simp) h)
    fun u hu k _ => storeE_opening k hu
  refine opening_congr ?_ hstored
  rw [hv]
  simp [writeback]

/-! ## The events -/

section
variable {t : Nat} {s b : State} (hb : s.advance t = b) {r : Nat} {e : Bytes}
include hb

theorem railStart_enables (he : railEntry b r = some e) (hr : r < b.seq.rails.length) (hp : b.seq.phase = .ascending)
    (hup : b.unit ≠ .powerup) (hoff : b.unit ≠ .off) (h0 : b.seq.preOff = 0) (hst : enState e = b.seq.pos)
    (hen : (b.railAt r).enabled = false) (hcin : waitsCin b = false) (ht : b.seq.posT + enDelayOn e ≤ b.clk) :
    Does (.railStart t r) s fun u => (u.railAt r).enabled = true ∧ (u.railAt r).good = false ∧
      (u.railAt r).enableT = b.clk ∧ u.str = b.str ∧ ∀ k, k ≠ r → u.railAt k = b.railAt k := by
  have hmove : RailMoved b (railOn b e) r (Rail.started b.clk) :=
    .of_rails hr (by rw [railOn_seq, enRail_of_railEntry he])
  refine ⟨railOn b e, ?_, by rw [hmove.1]; rfl, by rw [hmove.1]; rfl, by rw [hmove.1]; rfl, by simp, hmove.2⟩
  change execRailStart t r s = _
  unfold execRailStart
  rw [hb]
  simp only [he]
  rw [if_pos (by simp [*])]

theorem railGood_runs (he : railEntry b r = some e) (hr : r < b.seq.rails.length) (hen : (b.railAt r).enabled = true)
    (hg : (b.railAt r).good = false) (ht : b.clk ≤ (b.railAt r).enableT + enTGood e)
    (hef : enAct e = 2 → (b.efAt (enIdx e)).pgood = true) (hp : b.seq.phase = .ascending) :
    Does (.railGood t r) s fun u => (u.railAt r).good = true ∧ (u.railAt r).running = true ∧ u.str = b.str ∧
      ∀ k, k ≠ r → u.railAt k = b.railAt k := by
  obtain ⟨q, hrails, _, hq⟩ := settled_ascending (s := b.modRail r fun y => { y with good := true, running := true }) hp
  have hmove : RailMoved b (settled (b.modRail r fun y => { y with good := true, running := true })) r
      fun y => { y with good := true, running := true } := .of_rails hr (by rw [hq]; exact hrails)
  refine ⟨_, ?_, by rw [hmove.1], by rw [hmove.1], by rw [hq]; rfl, hmove.2⟩
  change execRailGood t r s = _
  unfold execRailGood
  rw [hb]
  simp only [he]
  rw [if_pos (by simpa [hen, hg, ht, hp, ← imp_iff_not_or] using hef)]

theorem startFailure_descends (he : railEntry b r = some e) (hp : b.seq.phase = .ascending) (hup : b.unit ≠ .powerup)
    (hoff : b.unit ≠ .off) (hen : (b.railAt r).enabled = true) (hg : (b.railAt r).good = false) (h0 : b.seq.preOff = 0)
    (ht : (b.railAt r).enableT + enTGood e < b.clk) :
    Does (.startFailure t r) s fun u => u.seq.faultRail = some r ∧ u.seq.faultCause = 1 ∧ u.seq.preOff = 1 ∧
      u.seq.preOffT = b.clk ∧ u.seq.phase = (if b.seq.local_ then .descending else .ascending) := by
  obtain ⟨v, hv⟩ : ∃ v, v = (groupRecord b gSeq srcPmu lvInfo 391 r 0).setSeq fun q =>
    { q with faultRail := some r, faultCause := 1 } := ⟨_, rfl⟩
  have hseq : v.seq = { b.seq with faultRail := some r, faultCause := 1 } := by rw [hv]; simp
  have hunit : v.unit = b.unit := by rw [hv]; simp
  have hclk : v.clk = b.clk := by rw [hv]; simp
  obtain ⟨l, hl⟩ := releaseUnready_seq v
  refine ⟨offRequest v true, ?_, ?_⟩
  · change execStartFailure t r s = _
    unfold execStartFailure
    rw [hb]
    simp only [he]
    rw [if_pos (by simp [hp, hen, hg, h0, ht]), hv]
  · have hrail : (releaseUnready v).seq.faultRail = some r ∧ (releaseUnready v).seq.faultCause = 1 := by
      rw [hl, hseq]; exact ⟨rfl, rfl⟩
    have hphase : (releaseUnready v).seq.phase = .ascending := by rw [hl, hseq]; exact hp
    have hlocal : v.seq.local_ = b.seq.local_ := by rw [hseq]
    have hrclk : (releaseUnready v).clk = b.clk := by simp [hclk]
    obtain ⟨i, o, hd⟩ := startDescent_eq (s := releaseUnready v) (by rw [hl, hseq]; exact h0) v.seq.pos false
    rw [offRequest_ascending (hunit ▸ hoff) (hunit ▸ hup) (by rw [hseq]; exact hp) (by rw [hseq]; exact h0), hd, hlocal]
    beta_reduce
    split
    · exact ⟨hrail.1, hrail.2, rfl, hrclk, rfl⟩
    · exact ⟨hrail.1, hrail.2, rfl, hclk, hphase⟩

theorem railDischarge_releases (he : railEntry b r = some e) (hr : r < b.seq.rails.length)
    (hp : b.seq.phase = .descending) (h3 : b.seq.preOff = 3) (hst : enState e = b.seq.pos)
    (hd : (b.railAt r).downDone = false) (hcin : waitsCin b = false) (hen : (b.railAt r).enabled = true)
    (ht : b.seq.posT + enDelayOff e ≤ b.clk) (hno : noDischarge b e = false) (hdis : 0 < enTDis e) :
    Does (.railDischarge t r false) s fun u => (u.railAt r).enabled = false ∧ (u.railAt r).running = false ∧
      (u.railAt r).downT = b.clk ∧ (u.railAt r).downDone = false ∧ ∀ k, k ≠ r → u.railAt k = b.railAt k := by
  have hmove : RailMoved b (railOff b e) r (Rail.released b.clk (noDischarge b e)) :=
    .of_rails hr (by rw [railOff_seq, enRail_of_railEntry he])
  have hclk : (railOff b e).clk = b.clk := by simp
  have hno' : noDischarge (railOff b e) e = false := by
    rw [← hno, noDischarge, noDischarge, enRail_of_railEntry he, hmove.1, railOff_seq]
    rfl
  have hat := hmove.1
  refine ⟨railOff b e, ?_, by rw [hat]; rfl, by rw [hat]; rfl, by rw [hat]; rfl, by rw [hat]; simp [Rail.released, hd, hno],
    hmove.2⟩
  change execRailDischarge t r false s = _
  unfold execRailDischarge
  have hdue : ((b.railAt r).enabled && ((b.railAt r).leftWindow || decide (b.seq.posT + enDelayOff e ≤ b.clk))) = true := by
    simp [hen, ht]
  rw [hb]
  simp only [he, hdue, ↓reduceIte]
  rw [if_neg (by simp [hp, h3, hst, hd, hcin]), hat, if_neg (by simp [Rail.released]), if_neg (by simp [hno']),
    if_neg (by simp [hclk, Rail.released, Nat.ne_of_gt hdis])]

theorem railDischarge_ends (he : railEntry b r = some e) (hr : r < b.seq.rails.length)
    (hp : b.seq.phase = .descending) (h3 : b.seq.preOff = 3) (hst : enState e = b.seq.pos)
    (hd : (b.railAt r).downDone = false) (hcin : waitsCin b = false) (hen : (b.railAt r).enabled = false) :
    Does (.railDischarge t r true) s fun u => (u.railAt r).downDone = true ∧ (u.railAt r).enabled = false := by
  obtain ⟨v, hv⟩ : ∃ v, v = b.modRail r fun y => { y with downDone := true } := ⟨_, rfl⟩
  have hat : v.railAt r = { b.railAt r with downDone := true } := by rw [hv]; exact getD_modify_same _ _ _ _ hr
  refine ⟨settled v, ?_, ?_⟩
  · change execRailDischarge t r true s = _
    unfold execRailDischarge
    rw [hb]
    simp only [he, hen, Bool.false_and, Bool.false_eq_true, ↓reduceIte]
    rw [if_neg (by simp [hp, h3, hst, hd, hcin]), if_pos (by simp), hv]
  · obtain ⟨q, hrails, _, h | ⟨_, h⟩⟩ := settle_moves 65 v
    · have hsame : (settled v).railAt r = v.railAt r := railAt_congr (by rw [settled, h, hrails]) r
      rw [hsame, hat]
      exact ⟨rfl, hen⟩
    · have hdown : (settled v).railAt r = (v.railAt r).down := by
        rw [settled, h, State.railAt, goOff_seq, State.railAt, ← hrails]
        have hlt : r < q.rails.length := by rw [hrails, hv]; simpa [State.modRail] using hr
        simp [List.getD_eq_getElem?_getD, hlt]
      rw [hdown]
      exact ⟨rfl, rfl⟩

theorem seqStep_ascends (hline : b.seq.local_ = false) (hpull : b.seq.pulling = false) (h0 : b.seq.preOff = 0)
    (hp : b.seq.phase = .ascending) (hup : b.unit ≠ .powerup) (htop : b.seq.pos < tblTop b.seq.table) :
    Does (.seqStep t) s fun u => u.seq.pos = b.seq.pos + 1 ∧ u.seq.posT = b.clk ∧ u.seq.lineT = b.clk ∧
      u.seq.phase = .ascending ∧ u.seq.rails = b.seq.rails ∧ u.str = b.str := by
  obtain ⟨i, o, hbegin⟩ := beginState_eq b (b.seq.pos + 1)
  obtain ⟨p, o', hset⟩ := settled_onLine (s := beginState b (b.seq.pos + 1)) (by rw [hbegin]; exact hline)
    (.inl (by rw [hbegin]; exact hp))
  refine ⟨settled (beginState b (b.seq.pos + 1)), ?_, ?_⟩
  · change execSeqStep t s = _
    unfold execSeqStep
    rw [hb]
    dsimp only
    rw [if_neg (by simp [hline, hpull, h0]), hp]
    dsimp only
    rw [if_neg (by simp [hup, h0]), if_neg (Nat.not_le.mpr htop)]
  · rw [hset, hbegin]
    exact ⟨rfl, rfl, rfl, hp, rfl, rfl⟩

theorem seqStep_up (hline : b.seq.local_ = false) (hpull : b.seq.pulling = false) (h0 : b.seq.preOff = 0)
    (hp : b.seq.phase = .ascending) (hup : b.unit ≠ .powerup) (htop : tblTop b.seq.table ≤ b.seq.pos) :
    Does (.seqStep t) s fun u => u.seq = { b.seq with phase := .up, beaconT := b.clk } := by
  refine ⟨b.setSeq fun q => { q with phase := .up, beaconT := b.clk }, ?_, rfl⟩
  change execSeqStep t s = _
  unfold execSeqStep
  rw [hb]
  dsimp only
  rw [if_neg (by simp [hline, hpull, h0]), hp]
  dsimp only
  rw [if_neg (by simp [hup, h0]), if_pos htop]

theorem seqStep_descends (hline : b.seq.local_ = false) (hpull : b.seq.pulling = false) (h3 : b.seq.preOff = 3)
    (hp : b.seq.phase = .descending) (h2 : 2 ≤ b.seq.pos) :
    Does (.seqStep t) s fun u => u.seq.pos = b.seq.pos - 1 ∧ u.seq.posT = b.clk ∧ u.seq.phase = .descending ∧
      u.unit = b.unit := by
  obtain ⟨i, o, hbegin⟩ := beginState_eq b (b.seq.pos - 1)
  obtain ⟨p, o', hset⟩ := settled_onLine (s := beginState b (b.seq.pos - 1)) (by rw [hbegin]; exact hline)
    (.inr ⟨by rw [hbegin]; exact hp, by rw [hbegin]; exact Nat.sub_ne_zero_of_lt h2⟩)
  refine ⟨settled (beginState b (b.seq.pos - 1)), ?_, ?_⟩
  · change execSeqStep t s = _
    unfold execSeqStep
    rw [hb]
    dsimp only
    rw [if_neg (by simp [hline, hpull, h3]), hp]
  · rw [hset, hbegin]
    exact ⟨rfl, rfl, hp, rfl⟩

theorem reverseMarker_descends (hp : b.seq.phase = .ascending) (hline : b.seq.local_ = false)
    (hpull : b.seq.pulling = false) (hup : b.unit ≠ .powerup) (h0 : b.seq.preOff = 0) :
    Does (.reverseMarker t) s fun u => u.seq.phase = .descending ∧ u.seq.pos = b.seq.pos ∧ u.seq.preOff = 1 ∧
      u.seq.pulling = true ∧ u.seq.local_ = false ∧ u.unit = b.unit := by
  obtain ⟨i, o, hd⟩ := startDescent_eq h0 b.seq.pos true
  refine ⟨startDescent b b.seq.pos true, ?_, ?_⟩
  · change execReverseMarker t s = _
    unfold execReverseMarker
    rw [hb]
    dsimp only
    rw [if_pos (by simp [hp, hline, hpull, hup])]
  · rw [hd]
    exact ⟨rfl, rfl, rfl, rfl, rfl, rfl⟩

theorem upBeacon_beacons (hp : b.seq.phase = .up) (hon : onLine b = true) (ht : b.seq.beaconT + nsMs ≤ b.clk) :
    Does (.upBeacon t) s fun u => u = b.setSeq (fun x => { x with beaconT := b.clk }) := by
  refine ⟨_, ?_, rfl⟩
  change execUpBeacon t s = _
  unfold execUpBeacon
  rw [hb]
  dsimp only
  rw [if_pos (by simp [hp, hon, ht])]

theorem systemPowerDownStart_descends (hon : onLine b = true) (hig : b.seq.ignoring = false) (hoff : b.unit ≠ .off)
    (hup : b.unit ≠ .powerup) (hp : b.seq.phase = .up) (h0 : b.seq.preOff = 0) :
    Does (.systemPowerDownStart t) s fun u => u.seq.phase = .descending ∧ u.seq.pos = tblTop b.seq.table ∧
      u.seq.preOff = 1 ∧ u.seq.preOffT = b.clk ∧ u.seq.local_ = false ∧ u.unit = b.unit := by
  obtain ⟨i, o, hd⟩ := startDescent_eq h0 (tblTop b.seq.table) true
  refine ⟨startDescent b (tblTop b.seq.table) true, ?_, ?_⟩
  · change execSystemPowerDownStart t s = _
    unfold execSystemPowerDownStart
    rw [hb]
    dsimp only
    rw [if_neg (by simp [hon, hig]), hp]
    cases hu : b.unit <;> simp_all
  · rw [hd]
    exact ⟨rfl, rfl, rfl, rfl, rfl, rfl⟩

theorem stuckLine_ignores (hline : b.seq.local_ = false) (hp : b.seq.phase = .ascending ∨ b.seq.phase = .descending)
    (hpos : b.seq.pos ≠ 0) (ht : b.seq.lineT + tStateMax b ≤ b.clk) (hup : b.unit ≠ .powerup) (h0 : b.seq.preOff = 0) :
    Does (.stuckLine t) s fun u => u.seq.ignoring = true ∧ u.seq.pulling = false ∧ u.seq.local_ = true ∧
      u.seq.phase = .descending ∧ u.seq.faultCause = 3 ∧ u.seq.preOff = 1 := by
  obtain ⟨v, hv⟩ : ∃ v, v = (groupRecord b gSeq srcPmu lvErr 396 b.seq.pos 0).setSeq fun q =>
    { q with ignoring := true, pulling := false, faultCause := 3 } := ⟨_, rfl⟩
  have hseq : v.seq = { b.seq with ignoring := true, pulling := false, faultCause := 3 } := by rw [hv]; simp
  have hunit : v.unit = b.unit := by rw [hv]; simp
  obtain ⟨w, hw⟩ : ∃ w, w = v.setSeq fun q => { q with
    phase := .descending, local_ := true, preOff := if q.preOff = 0 then 1 else q.preOff
    preOffT := if q.preOff = 0 then v.clk else q.preOffT } := ⟨_, rfl⟩
  have hwseq : w.seq = { b.seq with
      ignoring := true, pulling := false, faultCause := 3, phase := .descending, local_ := true, preOff := 1
      preOffT := v.clk } := by simp [hw, State.setSeq, hseq, h0]
  refine ⟨w, ?_, by beta_reduce; rw [hwseq]; exact ⟨rfl, rfl, rfl, rfl, rfl, rfl⟩⟩
  have hset : settled w = w := settled_pending (stateDone_descending (by rw [hwseq]) (by rw [hwseq]; simp))
  change execStuckLine t s = _
  unfold execStuckLine
  rw [hb]
  dsimp only
  rw [if_neg ?_, ← hv, if_neg (by simp [hunit, hup]), ← hw, hset]
  rw [if_neg (by simp [hpos])]
  rcases hp with hp | hp <;> simp [hline, hp, ht]

theorem seqCinHigh_ascends (hp : b.seq.phase = .ascending) (hcin : waitsCin b = true)
    (ht : b.seq.lineT + 2 * nsUs ≤ b.clk) :
    Does (.seqCinHigh t) s fun u => u.seq.cin = true ∧ u.seq.posT = b.clk ∧ u.seq.pos = b.seq.pos ∧
      u.seq.rails = b.seq.rails := by
  have hline : b.seq.local_ = false := by
    simp only [waitsCin, Bool.and_eq_true, Bool.not_eq_true'] at hcin
    exact hcin.1.1
  obtain ⟨p, o, hset⟩ := settled_onLine (s := b.setSeq fun q => { q with cin := true, posT := b.clk }) hline (.inl hp)
  refine ⟨settled (b.setSeq fun q => { q with cin := true, posT := b.clk }), ?_, by rw [hset]; exact ⟨rfl, rfl, rfl, rfl⟩⟩
  change execSeqCinHigh t s = _
  unfold execSeqCinHigh
  rw [hb]
  dsimp only
  rw [if_pos (by simp [hp, hcin]), if_pos ht]

theorem preOffSteps_ramp (h1 : b.seq.preOff = 1) (hpend : b.seq.pendingLocal = false) (hcmd : b.unit.commands = true)
    (hopen : b.allOpen = false) :
    Does (.preOffSteps t) s fun u => u.seq = { b.seq with preOff := 2 } ∧ u.str = b.str ∧ ∀ i, i < b.strings →
      i < b.conv.length → (b.strAt i).state = .regulating → (u.convAt i).rampStop = true ∧
      (u.convAt i).rampThen = some ((b.convAt i).rampThen.getD .connected) := by
  refine ⟨((List.range b.strings).foldl zeroSetpoint b).setSeq fun q => { q with preOff := 2 }, ?_, ?_⟩
  · change execPreOffSteps t s = _
    unfold execPreOffSteps
    rw [hb]
    simp only [hpend, Bool.false_and, Bool.false_eq_true, ↓reduceIte]
    rw [if_neg (by simp [h1]), if_pos (by simp [hcmd, hopen])]
    rfl
  · obtain ⟨c, hc⟩ := zeroSetpoints_eq b (List.range b.strings)
    exact ⟨by rw [hc]; rfl, by rw [hc]; rfl, fun i hs hi hr => zeroSetpoints_ramping hs hi hr⟩

theorem preOffDisconnect_opens (h2 : b.seq.preOff = 2) (ht : b.seq.preOffT + 60 * nsMs ≤ b.clk)
    (hp : b.seq.phase = .ascending) :
    Does (.preOffDisconnect t) s fun u => u.seq.preOff = 3 ∧ u.seq.posT = b.clk ∧ u.unit = b.unit ∧ ∀ i, i < b.strings →
      i < b.conv.length → (b.strAt i).state = .connected ∨ (b.strAt i).state = .regulating →
      (u.convAt i).running = false ∧ (u.convAt i).rampThen = some .isolated := by
  obtain ⟨v, hv⟩ : ∃ v, v = writeback (disconnectAll b 400) := ⟨_, rfl⟩
  have hseq : v.seq = b.seq := by rw [hv]; simp
  have hclk : v.clk = b.clk := by rw [hv]; simp
  have hunit : v.unit = b.unit := by rw [hv]; simp
  have hdone : preOffDone v = v.setSeq fun q =>
      { q with preOff := 3, posT := v.clk, pulling := q.pulling && q.phase != .ascending } :=
    settled_pending (stateDone_ascending (by simp [hseq, hp]) (by simp))
  refine ⟨preOffDone v, ?_, ?_⟩
  · change execPreOffDisconnect t s = _
    unfold execPreOffDisconnect
    rw [hb]
    dsimp only
    rw [if_pos (by simp [h2, ht]), hv]
  · rw [hdone]
    refine ⟨rfl, hclk, hunit, fun i hs hi hr => ?_⟩
    have hopen : Opening i v := hv ▸ writeback_opening (disconnectAll_closed 400 hs hi hr)
    exact hopen

theorem runningRailFault_off (he : railEntry b r = some e) (hrun : (b.railAt r).running = true) (hoff : b.unit ≠ .off)
    (hk : heldKind e = false) (hp : b.seq.phase ≠ .descending) :
    Does (.runningRailFault t r) s fun u => u.unit = .off ∧ u.seq.faultRail = some r ∧ u.seq.faultCause = 2 ∧
      u.pwr.aonFault = 0x100 + r ∧ u.pwr.minOffEnd = b.clk + 2 * nsS ∧ u.red.beatsOn = false := by
  refine ⟨railFault b (0x100 + r) 2 (some r), ?_, railFault_off b (0x100 + r) 2 (some r)⟩
  change execRunningRailFault t r s = _
  unfold execRunningRailFault
  rw [hb]
  simp only [he]
  rw [if_neg (by simp [hrun, hoff, downWork, hp]), if_neg (by simp [hk]), if_neg (by simp [hp]), if_neg (by simp [hk])]

theorem runningRailFault_holds (he : railEntry b r = some e) (hr : r < b.seq.rails.length)
    (hrun : (b.railAt r).running = true) (hoff : b.unit ≠ .off) (hhold : b.pwr.state ≠ .holdup)
    (hk : heldKind e = true) (hp : b.seq.phase ≠ .descending) :
    Does (.runningRailFault t r) s fun u => (u.railAt r).faultHold = some b.clk ∧ u.unit = b.unit ∧ u.str = b.str ∧
      ∀ k, k ≠ r → u.railAt k = b.railAt k := by
  have hmove : RailMoved b (b.modRail r fun y => { y with faultHold := some b.clk }) r
      fun y => { y with faultHold := some b.clk } := .of_rails hr rfl
  refine ⟨b.modRail r fun y => { y with faultHold := some b.clk }, ?_, by rw [hmove.1], rfl, rfl, hmove.2⟩
  change execRunningRailFault t r s = _
  unfold execRunningRailFault
  rw [hb]
  simp only [he]
  rw [if_neg (by simp [hrun, hoff, downWork, hp]), if_neg (by simp [hhold]), if_neg (by simp [hp]), if_pos hk]

theorem railFaultHoldEnd_judges (hoff : b.unit ≠ .off) (hh : heldFor b (b.railAt r).faultHold (10 * nsUs) = true) :
    Does (.railFaultHoldEnd t r) s fun u => if b.pwr.state = .holdup then (u.railAt r).faultHold = none ∧ u.unit = b.unit
      else u.unit = .off ∧ u.seq.faultRail = some r ∧ u.pwr.aonFault = 0x100 + r := by
  obtain ⟨v, hv⟩ : ∃ v, v = (groupRecord b gSeq srcPmu lvInfo 404 r 0).modRail r fun y => { y with faultHold := none } :=
    ⟨_, rfl⟩
  refine ⟨if b.pwr.state = .holdup then v else railFault b (0x100 + r) 2 (some r), ?_, ?_⟩
  · change execRailFaultHoldEnd t r s = _
    unfold execRailFaultHoldEnd
    rw [hb]
    dsimp only
    rw [if_pos (by simp [hoff, hh]), hv]
    simp only [beq_iff_eq]
  · beta_reduce
    split
    · have hheld : (b.railAt r).faultHold ≠ none := fun h => by rw [h] at hh; exact Bool.noConfusion hh
      have hr : r < b.seq.rails.length := by
        by_contra hlt
        exact hheld (by rw [State.railAt, List.getD_eq_default _ _ (Nat.le_of_not_lt hlt)])
      have hmove : RailMoved (groupRecord b gSeq srcPmu lvInfo 404 r 0) v r fun y => { y with faultHold := none } :=
        .of_rails (by simpa using hr) (by rw [hv]; rfl)
      exact ⟨by rw [hmove.1], by rw [hv]; simp⟩
    · obtain ⟨hu, hrail, _, haon, _, _⟩ := railFault_off b (0x100 + r) 2 (some r)
      exact ⟨hu, hrail, haon⟩

end

/-- Settles O34: rails follow the numbered states, the states the line or the local sequence, and faults take the unit off. -/
theorem railsAndLine : Obligations.RailsAndLine := by
  unfold Obligations.RailsAndLine
  exact ⟨fun _ _ _ _ he hr hp hup hoff h0 hst hen hcin ht => railStart_enables rfl he hr hp hup hoff h0 hst hen hcin ht,
    fun _ _ _ _ he hr hen hg ht hef hp => railGood_runs rfl he hr hen hg ht hef hp,
    fun _ _ _ _ he _ hp hup hoff hen hg h0 ht => startFailure_descends rfl he hp hup hoff hen hg h0 ht,
    fun _ _ _ _ he hr hp h3 hst hd hcin hen ht hno hdis =>
      railDischarge_releases rfl he hr hp h3 hst hd hcin hen ht hno hdis,
    fun _ _ _ _ he hr hp h3 hst hd hcin hen => railDischarge_ends rfl he hr hp h3 hst hd hcin hen,
    fun _ _ hl hpull h0 hp hup htop => seqStep_ascends rfl hl hpull h0 hp hup htop,
    fun _ _ hl hpull h0 hp hup htop => seqStep_up rfl hl hpull h0 hp hup htop,
    fun _ _ hl hpull h3 hp h2 => seqStep_descends rfl hl hpull h3 hp h2,
    fun _ _ hp hl hpull hup h0 => reverseMarker_descends rfl hp hl hpull hup h0,
    fun _ _ hp hon ht => upBeacon_beacons rfl hp hon ht,
    fun _ _ hon hig hoff hup hp h0 => systemPowerDownStart_descends rfl hon hig hoff hup hp h0,
    fun _ _ hl hp hpos ht hup h0 => stuckLine_ignores rfl hl hp hpos ht hup h0,
    fun _ _ hp hcin ht => seqCinHigh_ascends rfl hp hcin ht,
    fun _ _ h1 hpend hcmd hopen => preOffSteps_ramp rfl h1 hpend hcmd hopen,
    fun _ _ h2 ht hp => preOffDisconnect_opens rfl h2 ht hp,
    fun _ _ _ _ he _ hrun hoff hk hp => runningRailFault_off rfl he hrun hoff hk hp,
    fun _ _ _ _ he hr hrun hoff hhold hk hp => runningRailFault_holds rfl he hr hrun hoff hhold hk hp,
    fun _ _ _ hoff hh => railFaultHoldEnd_judges rfl hoff hh⟩

end Sys2Proof.Machine
end

section
/-! SUPPORT. Requests, the module power-up and BOOT (13_sequencing.md R383 to R409; 11_redundancy.md R324). -/

namespace Sys2Proof.Machine

-- One proof at a time: together their threads exceed the memory of the check.
set_option Elab.async false

/-! ## The SEQ commands -/

theorem ok_seq (s : State) (op : Nat) (q : Req) (p : Bytes) : (ok s op q p).seq = s.seq := by simp [ok]

theorem ok_unit (s : State) (op : Nat) (q : Req) (p : Bytes) : (ok s op q p).unit = s.unit := by simp [ok]

theorem seqStatus_rests : Rests seqStatus := .of_settled fun _ _ _ => rfl

section
variable {s : State} {q : Req} (h : Taken s q)
include h

theorem seqSetTable_keeps {d len : Nat} (hr : AnyRole s) (hl : q.payload.length = 8) (hd : getU q.payload 0 2 = d)
    (hz : getU q.payload 2 2 = 0) (hlen : getU q.payload 4 4 = len) (hlo : 20 ≤ len) (hhi : len ≤ 788)
    (hdesc : descOk s q d len = true) (hbad : railTableBad s (bufRead s d len) len = none) :
    Does (.seqSetTable q) s fun u => Answered u q 0x0C01 stOk 0 [] ∧
      u.seq = { s.seq with next := some (bufRead s d len) } ∧ u.str = s.str := by
  have ⟨_, _, henv⟩ := h
  subst hd hlen
  change ∃ u, execSeqSetTable q s = _ ∧ _
  unfold execSeqSetTable
  refine ⟨_, command_run _ _ q s h ?_, ok_answered .., ?_, ?_⟩
  · refine rejection_passes (if_pos hl) (anyRole_rolesOk _ s hr rfl) henv ?_ rfl rfl rfl ?_ rfl
    · simp [firstBad, must, zeroAt, hz, hlo, hhi, hdesc, Nat.min_eq_left hhi, hbad, inBuf]
    · simp [ownerBad, hdesc]
  · obtain ⟨p, x, hrest⟩ := noted_rests _ s q
    rw [ok_seq, bufRead_noted, hrest]
    rfl
  · obtain ⟨p, x, hrest⟩ := noted_rests _ s q
    rw [ok_str, hrest]
    rfl

variable (hr : s.unit.isRole = true ∨ s.unit = .safeHold ∨ s.unit = .recovery)
include hr

theorem seqGetTable_fills {d k : Nat} (hl : q.payload.length = 4) (hq : SlotOk q) (hm : MemOk s)
    (hd : getU q.payload 0 2 = d) (hne : d ≠ noDesc) (hk : getU q.payload 2 1 = k) (hk1 : k ≤ 1)
    (hz : getU q.payload 3 1 = 0)
    (hdesc : descOk s q d (if k = 0 then s.seq.table else s.seq.next.getD []).length = true) :
    Does (.seqGetTable q) s fun u => (let x := (if k = 0 then s.seq.table else s.seq.next.getD [])
      Answered u q 0x0C02 stOk 0 (leU 4 x.length) ∧ BufHolds s u d x) ∧ HostOnly s u := by
  have ⟨_, _, henv⟩ := h
  subst hd hk
  change ∃ u, execSeqGetTable q s = _ ∧ _
  unfold execSeqGetTable
  refine ⟨_, command_run _ _ q s h ?_, ?_⟩
  · refine rejection_passes (if_pos hl) (rolesOk_window hr rfl rfl rfl) henv ?_ rfl rfl rfl ?_ rfl
    · simp [firstBad, must, zeroAt, hne, hk1, hz]
    · simp [ownerBad, descAt, hne, hdesc]
  · have hseq (sp : Spec) : (noteDesc sp (touch s) q).seq = s.seq := by rw [noteDesc_eq]; rfl
    simp only [hseq]
    obtain ⟨hans, hhost, hbuf⟩ := respondBuf_all _ s 0x0C02 q (getU q.payload 0 2)
      (if getU q.payload 2 1 = 0 then s.seq.table else s.seq.next.getD []) hm hq (lt_of_descOk hdesc)
    exact ⟨⟨hans, hbuf⟩, hhost⟩

theorem seqGetStatus_fills {d : Nat} (hl : q.payload.length = 2) (hq : SlotOk q) (hm : MemOk s)
    (hd : getU q.payload 0 2 = d) (hne : d ≠ noDesc) (hdesc : descOk s q d (seqStatus s).length = true) :
    Does (.seqGetStatus q) s fun u => Answered u q 0x0C03 stOk 0 (leU 4 (seqStatus s).length) ∧
      BufHolds s u d (seqStatus s) ∧ u.seq = s.seq ∧ u.str = s.str := by
  have ⟨_, _, henv⟩ := h
  subst hd
  change ∃ u, execSeqGetStatus q s = _ ∧ _
  unfold execSeqGetStatus
  refine ⟨_, command_run _ _ q s h ?_, ?_⟩
  · refine rejection_passes (if_pos hl) (rolesOk_window hr rfl rfl rfl) henv ?_ rfl rfl rfl ?_ rfl
    · simp [must, hne]
    · simp [ownerBad, descAt, hne, hdesc]
  · rw [seqStatus_rests _ s q]
    generalize hv : noteDesc _ (touch s) q = v
    have hmem : v.mem = s.mem := by rw [← hv, noted_mem]
    have hoff : (v.desc (getU q.payload 0 2)).offset = (s.desc (getU q.payload 0 2)).offset := by
      rw [← hv, (noteDesc_desc ..).1, touch_desc]
    have hcount : v.hpr.desc.length = s.hpr.desc.length := by rw [← hv, noted_desc_length]
    have hsame : v.seq = s.seq ∧ v.str = s.str := by rw [← hv, noteDesc_eq]; exact ⟨rfl, rfl⟩
    have hbuf := respondBuf_holds (x := { v with free := v.free + 24 }) hmem hoff hcount hm hq (lt_of_descOk hdesc) 0x0C03
      (seqStatus s)
    exact ⟨ok_answered .., hbuf, by simp [hsame.1], by simp [hsame.2]⟩

theorem seqOff_descends {k : Nat} (hoff : s.unit ≠ .off) (hup : s.unit ≠ .powerup) (hl : q.payload.length = 1)
    (hk : getU q.payload 0 1 = k) (hk1 : k ≤ 1) (hp : s.seq.phase = .up) (h0 : s.seq.preOff = 0)
    (hnow : k = 1 ∨ s.unit ≠ .active ∨ s.red.present = false) :
    Does (.seqOff q) s fun u => Answered u q 0x0C04 stOk 0 [] ∧ u.seq.phase = .descending ∧ u.seq.preOff = 1 ∧
      u.seq.preOffT = s.clk ∧ u.seq.pos = tblTop s.seq.table ∧ u.seq.local_ = !(k == 1 && onLine s) := by
  have ⟨_, _, henv⟩ := h
  subst hk
  change ∃ u, execSeqOff q s = _ ∧ _
  unfold execSeqOff
  refine ⟨_, command_run _ _ q s h ?_, ?_⟩
  · refine rejection_passes (if_pos hl) (rolesOk_window hr rfl rfl rfl) henv ?_ rfl rfl ?_ rfl rfl
    · simp [must, hk1]
    · simp [hp, h0]
  · rw [noteDesc_none _ _ _ rfl]
    obtain ⟨v, hv⟩ : ∃ v, v = ok (touch s) 0x0C04 q [] := ⟨_, rfl⟩
    have hseq : v.seq = s.seq := by rw [hv, ok_seq]; rfl
    have hunit : v.unit = s.unit := by rw [hv, ok_unit]; rfl
    have hclk : v.clk = s.clk := by rw [hv, ok_clk]; rfl
    have hred : v.red = s.red := by rw [hv]; simp [touch]
    have hans : Answered v q 0x0C04 stOk 0 [] := hv ▸ ok_answered ..
    have hline : onLine v = onLine s := by rw [onLine, onLine, seqFlag, seqFlag, hseq]
    obtain ⟨i, o, hd⟩ := startDescent_eq (hseq ▸ h0) (tblTop v.seq.table) (getU q.payload 0 1 == 1 && onLine v)
    rw [← hv, offRequest_up (hunit ▸ hoff) (hunit ▸ hup) (hseq ▸ hp), if_neg (by rw [hunit, hred]; rcases hnow with h | h | h <;> simp [h]),
      hd, hseq, hline]
    exact ⟨hans, rfl, rfl, hclk, rfl, rfl⟩

omit hr in
theorem seqOff_waits (hu : s.unit = .active) (hl : q.payload.length = 1) (hk : getU q.payload 0 1 = 0)
    (hpres : s.red.present = true) (hp : s.seq.phase = .up) (h0 : s.seq.preOff = 0) :
    Does (.seqOff q) s fun u => Answered u q 0x0C04 stOk 0 [] ∧ u.seq = { s.seq with pendingLocal := true } ∧
      u.unit = .active := by
  have ⟨_, _, henv⟩ := h
  change ∃ u, execSeqOff q s = _ ∧ _
  unfold execSeqOff
  refine ⟨_, command_run _ _ q s h ?_, ?_⟩
  · refine rejection_passes (if_pos hl) (rolesOk_window (.inl (by rw [hu]; rfl)) rfl rfl rfl) henv ?_ rfl rfl ?_ rfl rfl
    · simp [must, hk]
    · simp [hp, h0]
  · rw [noteDesc_none _ _ _ rfl]
    obtain ⟨v, hv⟩ : ∃ v, v = ok (touch s) 0x0C04 q [] := ⟨_, rfl⟩
    have hseq : v.seq = s.seq := by rw [hv, ok_seq]; rfl
    have hunit : v.unit = .active := by rw [hv, ok_unit]; exact hu
    have hred : v.red = s.red := by rw [hv]; simp [touch]
    have hans : Answered v q 0x0C04 stOk 0 [] := hv ▸ ok_answered ..
    rw [← hv, offRequest_up (by simp [hunit]) (by simp [hunit]) (hseq ▸ hp), if_pos (by simp [hunit, hred, hk, hpres])]
    exact ⟨hans, by rw [← hseq]; rfl, hunit⟩

theorem seqCancelOff_cancels (hl : q.payload.length = 0) (hpend : s.seq.pendingLocal = true) :
    Does (.seqCancelOff q) s fun u => Answered u q 0x0C05 stOk 0 [] ∧ u.seq = { s.seq with pendingLocal := false } ∧
      u.str = s.str := by
  have ⟨_, _, henv⟩ := h
  change ∃ u, execSeqCancelOff q s = _ ∧ _
  unfold execSeqCancelOff
  refine ⟨_, command_run _ _ q s h ?_, ok_answered .., ?_, ?_⟩
  · exact rejection_passes (if_pos hl) (rolesOk_window hr rfl rfl rfl) henv rfl rfl rfl (if_pos hpend) rfl rfl
  · rw [noteDesc_none _ _ _ rfl, ok_seq]
    rfl
  · rw [noteDesc_none _ _ _ rfl, ok_str]
    rfl

end

/-! ## On requests -/

/-- The sequencer at the start of a power-up; the levels of SEQ_CIN and SEQ_COUT are the state's. -/
theorem beginPowerup_seq (s : State) (system : Bool) : ∃ i o, (beginPowerup s system).seq =
    { s.seq with table := s.seq.next.getD s.seq.table, next := none, phase := .ascending, pos := 0, posT := s.clk
                 local_ := !system, pulling := system, lineT := if s.seq.pulling then s.seq.lineT else s.clk
                 heldOn := none, step := 1, stepT := s.clk, preOff := 0, pendingLocal := false, ignoring := false
                 rails := List.replicate 32 {}, cin := i, cout := o } := by
  unfold beginPowerup
  dsimp only
  have hseq (x : State) : (setPower (setUnit x .powerup 383) .active).seq = x.seq := by simp
  rw [hseq]
  split
  · exact ⟨false, false, rfl⟩
  · exact ⟨s.seq.cin, s.seq.cin, rfl⟩

theorem beginPowerup_unit (s : State) (system : Bool) : (beginPowerup s system).unit = .powerup := by
  simp [beginPowerup, setUnit_unit]

/-- An on request in OFF, where its own source allows it: held within the minimum off time, and served after it. -/
theorem onRequest_off {s : State} {src : OnSource} (hoff : s.unit = .off) (hvin : s.pwr.vinValid = true)
    (hpwr : s.pwr.state ≠ .unpowered) (hon : onAllowed s src = true) : ∃ v, v.seq = s.seq ∧ v.unit = .off ∧ v.clk = s.clk ∧
      v.str = s.str ∧ onRequest s src =
        if s.clk < s.pwr.minOffEnd then
          v.setSeq fun q => { q with heldOn := some (if src == .seqLine then src else q.heldOn.getD src)
                                     pulling := q.pulling || src == .seqLine
                                     lineT := if src == .seqLine && !q.pulling then v.clk else q.lineT }
        else if s.seq.phase == .watching && src != .seqLine then v
        else serveOn v src := by
  obtain ⟨v, hv⟩ : ∃ v, v = if src == .rtcAlarm then s.setPwr fun p => { p with rtcAlarm := none } else s := ⟨_, rfl⟩
  have hseq : v.seq = s.seq := by rw [hv]; split <;> rfl
  have hunit : v.unit = .off := by rw [hv]; split <;> exact hoff
  have hclk : v.clk = s.clk := by rw [hv]; split <;> rfl
  have hmin : v.pwr.minOffEnd = s.pwr.minOffEnd := by rw [hv]; split <;> rfl
  refine ⟨v, hseq, hunit, hclk, by rw [hv]; split <;> rfl, ?_⟩
  unfold onRequest
  rw [if_neg (by simp [hvin, hpwr, hon])]
  simp only [← hv, hunit, hclk, hmin, hseq]

/-! ## The end of a power-up and a reset -/

/-- Every string is isolated or retired. -/
def Parked (s : State) : Prop := ∀ i, (s.strAt i).state = .isolated ∨ (s.strAt i).state = .retired

theorem Parked.congr {s u : State} (h : Parked s) (hs : u.str = s.str) : Parked u := fun i => strAt_congr hs i ▸ h i

theorem Parked.all {s : State} (h : Parked s) : ∀ x ∈ s.str, x.state = .isolated ∨ x.state = .retired := by
  intro x hx
  obtain ⟨i, hi, rfl⟩ := List.getElem_of_mem hx
  have hat := h i
  rwa [State.strAt, List.getD_eq_getElem _ _ hi] at hat

theorem Parked.of_all {s : State} (h : ∀ x ∈ s.str, x.state = .isolated ∨ x.state = .retired) : Parked s := by
  intro i
  by_cases hi : i < s.str.length
  · rw [State.strAt, List.getD_eq_getElem _ _ hi]
    exact h _ (List.getElem_mem hi)
  · rw [State.strAt, List.getD_eq_default _ _ (Nat.le_of_not_lt hi)]
    exact .inl rfl

theorem Parked.not_connected {s : State} (h : Parked s) (i : Nat) : strConnected s i = false := by
  unfold strConnected
  rcases h i with h | h <;> rw [h]

theorem Parked.setStr {s : State} (h : Parked s) (i cause : Nat) : Parked (setStr s i .retired cause) := by
  intro k
  by_cases hk : k = i
  · subst hk
    by_cases hlt : k < s.str.length
    · exact .inr (setStr_state s k .retired cause hlt)
    · have hlen : (Machine.setStr s k .retired cause).str.length = s.str.length := str_length_of_sizes (by simp)
      rw [State.strAt, List.getD_eq_default _ _ (by omega)]
      exact .inl rfl
  · exact setStr_strAt_ne s .retired cause hk ▸ h k

theorem syncUnit_epoch (s : State) : (syncUnit s).hpr.epoch = s.hpr.epoch := by
  unfold syncUnit
  dsimp only
  (repeat' split) <;> simp

theorem setStr_epoch (s : State) (i : Nat) (new : StrState) (cause : Nat) :
    (setStr s i new cause).hpr.epoch = s.hpr.epoch := by
  unfold setStr
  dsimp only
  split
  · rfl
  · rw [syncUnit_epoch]
    split <;> simp

theorem setUnit_epoch (s : State) (u : UnitState) (cause : Nat) : (setUnit s u cause).hpr.epoch = s.hpr.epoch := by
  unfold setUnit
  dsimp only
  split
  · rfl
  · rw [syncUnit_epoch]
    split
    · simp
    · simp

theorem setPower_epoch (s : State) (p : PowerState) : (setPower s p).hpr.epoch = s.hpr.epoch := by
  unfold setPower
  dsimp only
  split
  · rfl
  · rw [syncUnit_epoch]
    split <;> simp

/-- Of parked strings a change of tier moves none but into RETIRED, and no command and no memory. -/
structure StaysParked (s u : State) : Prop where
  parked : Parked u
  mem : u.mem = s.mem
  epoch : u.hpr.epoch = s.hpr.epoch

theorem forceTier_parked {s : State} (h : Parked s) (i : Nat) (old new : Tier) : forceTier s i old new = s := by
  unfold forceTier
  split
  · rfl
  · split
    next => exact haltStr_of_not_connected 28 (h.not_connected i)
    next hst _ => rcases h i with h | h <;> rw [h] at hst <;> cases hst
    next hst _ => rcases h i with h | h <;> rw [h] at hst <;> cases hst
    next hst _ => rcases h i with h | h <;> rw [h] at hst <;> cases hst
    next => rfl

theorem retireStr_parked {s : State} (h : Parked s) (i : Nat) : StaysParked s (retireStr s i 28) := by
  unfold retireStr
  rw [haltStr_of_not_connected 28 (h.not_connected i)]
  dsimp only
  obtain ⟨v, hv⟩ : ∃ v, v = s.setFlt fun f => { f with retiredStr := i :: f.retiredStr.filter (· ≠ i) } := ⟨_, rfl⟩
  have hpv : Parked v := h.congr (by rw [hv]; rfl)
  have hret : StaysParked s (stopBalancing (setStr v i .retired 28) i) :=
    ⟨(hpv.setStr i 28).congr (by simp), by rw [hv]; simp, by simp [setStr_epoch, hv]⟩
  rw [← hv]
  split
  · exact hret
  · exact hret
  · exact ⟨h, rfl, rfl⟩

theorem retierStr_parked {s : State} (h : Parked s) (i : Nat) : StaysParked s (retierStr s i) := by
  unfold retierStr
  dsimp only
  obtain ⟨v, hv⟩ : ∃ v, v = if (s.strAt i).tier == tierOf s i then s else
      forceTier (record (s.modStr i fun x => { x with tier := tierOf s i }) 0x12 srcSup
        (if (tierOf s i).code < (s.strAt i).tier.code then lvWarn else lvInfo) i (s.strAt i).tier.code (tierOf s i).code)
        i (s.strAt i).tier (tierOf s i) := ⟨_, rfl⟩
  have hstays : StaysParked s v := by
    rw [hv]
    split
    · exact ⟨h, rfl, rfl⟩
    · have hmod : Parked (s.modStr i fun x => { x with tier := tierOf s i }) := fun k => by
        rw [strAt_modStr_field Str.state s i k (f := fun x => { x with tier := tierOf s i }) fun _ => rfl]; exact h k
      rw [forceTier_parked (hmod.congr (by simp))]
      exact ⟨hmod.congr (by simp), by simp, by simp⟩
  rw [← hv]
  split
  · obtain ⟨hp, hm, he⟩ := retireStr_parked hstays.parked i
    exact ⟨hp, hm.trans hstays.mem, he.trans hstays.epoch⟩
  · exact hstays

/-- No loss of a shared unit comes of a change that keeps the retired units and the clocks. -/
theorem sharedLost_congr {s u : State} (hf : u.flt.retired = s.flt.retired) (hp : u.pwr.failedClocks = s.pwr.failedClocks) :
    sharedLost u = sharedLost s := by
  simp only [sharedLost, State.retired, State.clockLost, hf, hp]

theorem sharedLost_of_degrades {s u : State} (h : Degrades s u) : sharedLost u = sharedLost s :=
  sharedLost_congr h.retired (field_of_core Power.failedClocks h.power)

/-- Where no shared unit is lost, or in no role, the tiers' change is the strings' alone. -/
theorem retier_strings {s : State} (h : sharedLost s = false ∨ s.unit.isRole = false) :
    retier s = (List.range s.strings).foldl retierStr s := by
  have hlost := sharedLost_of_degrades (.foldl degrades_retierStr (List.range s.strings) s)
  have hunit : ((List.range s.strings).foldl retierStr s).unit = s.unit := by simp
  refine if_neg ?_
  rw [hlost, hunit]
  rcases h with h | h <;> simp [h]

/-- What the beginning of BOOT decides and the preparations after it leave. -/
def bootView (s : State) : UnitState × Seq × Nat × List Host.Cell × Nat × List Str × Nat :=
  (s.unit, s.seq, s.pwr.bootCause, s.mem, s.hpr.epoch, s.str, s.red.listenT)

theorem testUnit_view (s : State) (u : Nat) (b : Bool) : bootView (testUnit s u b) = bootView s := by
  simp [bootView]

theorem progTrigger_view (s : State) (n a p : Nat) : bootView (progTrigger s n a p) = bootView s := by
  simp [bootView]

theorem loaded_view (s : State) : bootView (loadJournal (loadCheck s)) = bootView s := by
  simp [bootView]

theorem told_view (s : State) : bootView (s.setPwr fun p => { p with aonFault := 0 }) = bootView s := rfl

theorem record_view (s : State) (ty src lv a b c : Nat) : bootView (record s ty src lv a b c) = bootView s := by
  simp [bootView]

theorem powered_view (c : Prop) [Decidable c] (s : State) (p : PowerState) :
    bootView (if c then s else setPower s p) = bootView s := by
  have h : bootView (setPower s p) = bootView s := by
    simp [bootView, setPower_epoch]
  rw [apply_ite bootView, h, ite_self]

theorem setUnit_view (s : State) (u : UnitState) (cause : Nat) : bootView (setUnit s u cause) = (u, (bootView s).2) := by
  simp [bootView, setUnit_unit, setUnit_epoch]

theorem bootState_view (s : State) (cause : Nat) : bootView (bootState s (cause == 0) cause) = (s.unit, s.seq, cause,
    if cause == 0 then [] else s.mem, (s.hpr.epoch + 1) % 2 ^ 32, (bootState s (cause == 0) cause).str, s.clk) := rfl

/-- What BOOT starts from, before it tiers the strings. -/
theorem enterBoot_view (s : State) (cause : Nat) : ∃ v, enterBoot s cause = retier v ∧ bootView v = (.boot, s.seq, cause,
    if cause == 0 then [] else s.mem, (s.hpr.epoch + 1) % 2 ^ 32, (bootState s (cause == 0) cause).str, s.clk) := by
  refine ⟨_, rfl, ?_⟩
  rw [foldl_proj bootView _ fun _ _ => testUnit_view .., progTrigger_view, progTrigger_view, progTrigger_view, loaded_view, told_view,
    record_view, powered_view, setUnit_view, bootState_view]

/-- What BOOT starts from. -/
theorem enterBoot_boots (s : State) (cause : Nat) : (enterBoot s cause).unit = .boot ∧ (enterBoot s cause).seq = s.seq ∧
    (enterBoot s cause).pwr.bootCause = cause ∧ (enterBoot s cause).mem = (if cause == 0 then [] else s.mem) ∧
    (enterBoot s cause).hpr.epoch = (s.hpr.epoch + 1) % 2 ^ 32 ∧ Parked (enterBoot s cause) ∧
    (enterBoot s cause).red.listenT = s.clk := by
  obtain ⟨v, he, hview⟩ := enterBoot_view s cause
  simp only [bootView, Prod.mk.injEq] at hview
  obtain ⟨hunit, hseq, hcause, hmem, hepoch, hstr, hlisten⟩ := hview
  have hparked : Parked v := .of_all (by
    rw [hstr]
    simp only [bootState, List.mem_mapIdx]
    rintro x ⟨i, _, rfl⟩
    split
    · exact .inr rfl
    · exact .inl rfl)
  have hfolds := retier_strings (s := v) (.inr (by rw [hunit]; rfl))
  have hstays : StaysParked v (retier v) := by
    rw [hfolds]
    exact List.foldlRecOn (motive := StaysParked v) _ retierStr ⟨hparked, rfl, rfl⟩ fun u hu i _ => by
      obtain ⟨hp, hm, hep⟩ := retierStr_parked hu.parked i
      exact ⟨hp, hm.trans hu.mem, hep.trans hu.epoch⟩
  obtain ⟨on, hred⟩ := retier_red v
  have hfold : (retier v).unit = v.unit ∧ (retier v).seq = v.seq := by
    rw [hfolds]
    simp
  rw [he]
  exact ⟨hfold.1.trans hunit, hfold.2.trans hseq, (field_of_core Power.bootCause (degrades_retier v).power).trans hcause,
    hstays.mem.trans hmem, hstays.epoch.trans hepoch, hstays.parked, by rw [hred]; exact hlisten⟩

/-! ## The events -/

section
variable {t : Nat} {s b : State} (hb : s.advance t = b)
include hb

theorem onRequest_holds {src : OnSource} (hoff : b.unit = .off) (hvin : b.pwr.vinValid = true)
    (hpwr : b.pwr.state ≠ .unpowered) (hon : onAllowed b src = true) (hmin : b.clk < b.pwr.minOffEnd)
    (hheld : b.seq.heldOn = none) : Does (.onRequest t src) s fun u =>
      u.seq.heldOn = some src ∧ u.unit = .off ∧ u.str = b.str := by
  obtain ⟨v, hseq, hunit, _, hstr, he⟩ := onRequest_off hoff hvin hpwr hon
  refine ⟨onRequest b src, by change execOnRequest t src s = _; rw [execOnRequest, hb], ?_⟩
  rw [he, if_pos hmin]
  refine ⟨?_, hunit, hstr⟩
  simp [State.setSeq, hseq, hheld]

theorem onRequest_watches {src : OnSource} (hoff : b.unit = .off) (hvin : b.pwr.vinValid = true)
    (hpwr : b.pwr.state ≠ .unpowered) (hon : onAllowed b src = true) (hmin : b.pwr.minOffEnd ≤ b.clk)
    (hsrc : src ≠ .seqLine) (hp : b.seq.phase ≠ .watching) (hline : onLine b = true) :
    Does (.onRequest t src) s fun u => u.seq.phase = .watching ∧ u.seq.watchT = b.clk ∧ u.seq.heldOn = none ∧
      u.unit = .off := by
  obtain ⟨v, hseq, hunit, hclk, _, he⟩ := onRequest_off hoff hvin hpwr hon
  have hline' : onLine v = true := by rw [← hline, onLine, onLine, seqFlag, seqFlag, hseq]
  refine ⟨onRequest b src, by change execOnRequest t src s = _; rw [execOnRequest, hb], ?_⟩
  rw [he, if_neg (Nat.not_lt.mpr hmin), if_neg (by simp [hp]), serveOn, if_neg (by simp [hsrc]), if_pos hline']
  exact ⟨rfl, hclk, rfl, hunit⟩

theorem minimumOffTimeEnd_serves {src : OnSource} (hoff : b.unit = .off) (hvin : b.pwr.vinValid = true)
    (hheld : b.seq.heldOn = some src) (hmin : b.pwr.minOffEnd ≤ b.clk) (hline : onLine b = false) (hsrc : src ≠ .seqLine) :
    Does (.minimumOffTimeEnd t) s fun u => u.unit = .powerup ∧ u.seq.phase = .ascending ∧ u.seq.local_ = true ∧
      u.seq.step = 1 ∧ u.seq.stepT = b.clk ∧ u.seq.table = b.seq.next.getD b.seq.table ∧ u.seq.heldOn = none ∧
      ∀ x ∈ u.seq.rails, x.enabled = false := by
  obtain ⟨v, hv⟩ : ∃ v, v = b.setSeq fun q => { q with heldOn := none } := ⟨_, rfl⟩
  have hserve : serveOn v src = beginPowerup v false := by
    rw [serveOn, if_neg (by simp [hsrc]), if_neg (by rw [hv]; exact Bool.eq_false_iff.mp hline)]
  refine ⟨serveOn v src, ?_, ?_⟩
  · change execMinimumOffTimeEnd t s = _
    unfold execMinimumOffTimeEnd
    rw [hb]
    simp only [hheld]
    rw [if_pos (by simp [hoff, hvin, hmin]), hv]
  · obtain ⟨i, o, hseq⟩ := beginPowerup_seq v false
    rw [hserve, hseq]
    refine ⟨beginPowerup_unit v false, rfl, rfl, rfl, by rw [hv]; rfl, by rw [hv]; rfl, rfl, fun x hx => ?_⟩
    rw [(List.mem_replicate.mp hx).2]

theorem seqWatchEnd_begins {seen : LineSeen} (hoff : b.unit = .off) (hvin : b.pwr.vinValid = true)
    (hp : b.seq.phase = .watching) (ht : b.seq.watchT + 3 * nsMs ≤ b.clk) (hseen : seen ≠ .other) :
    Does (.seqWatchEnd t seen) s fun u => u.unit = .powerup ∧ u.seq.step = 1 ∧ u.seq.pos = 0 ∧
      u.seq.phase = .ascending ∧ u.seq.local_ = (seen == .beacons) ∧ u.seq.pulling = (seen == .idle) := by
  refine ⟨beginPowerup b (seen == .idle), ?_, ?_⟩
  · change execSeqWatchEnd t seen s = _
    unfold execSeqWatchEnd
    rw [hb]
    dsimp only
    rw [if_neg (by simp [hoff, hp, hvin, ht])]
    cases seen with
    | beacons => rfl
    | idle => rfl
    | other => exact absurd rfl hseen
  · obtain ⟨i, o, hseq⟩ := beginPowerup_seq b (seen == .idle)
    rw [hseq]
    refine ⟨beginPowerup_unit b _, rfl, rfl, rfl, ?_, rfl⟩
    cases seen with
    | beacons => rfl
    | idle => rfl
    | other => exact absurd rfl hseen

theorem systemPowerUpStart_joins (hoff : b.unit = .off) (hvin : b.pwr.vinValid = true)
    (hpwr : b.pwr.state ≠ .unpowered) (hflag : seqFlag b 3 = true) (hline : onLine b = true)
    (hmin : b.pwr.minOffEnd ≤ b.clk) : Does (.systemPowerUpStart t) s fun u => u.unit = .powerup ∧
      u.seq.local_ = false ∧ u.seq.pulling = true ∧ u.seq.pos = 0 ∧ u.seq.step = 1 := by
  obtain ⟨v, _, _, _, _, he⟩ := onRequest_off (src := .seqLine) hoff hvin hpwr (by simp [onAllowed, hflag, hline])
  obtain ⟨i, o, hpow⟩ := beginPowerup_seq v true
  have hserve : onRequest b .seqLine = beginPowerup v true := by
    rw [he, if_neg (Nat.not_lt.mpr hmin), if_neg (by simp)]
    rfl
  refine ⟨beginPowerup v true, ?_, ?_⟩
  · change execSystemPowerUpStart t s = _
    unfold execSystemPowerUpStart
    rw [hb]
    dsimp only
    rw [if_pos (by simp [hoff]), hserve]
  · beta_reduce
    rw [hpow]
    exact ⟨beginPowerup_unit v true, rfl, rfl, rfl, rfl⟩

theorem powerupStepDone_steps (f : BitVec 8) (hu : b.unit = .powerup) (h1 : 1 ≤ b.seq.step) (h6 : b.seq.step < 6)
    (ht : b.clk ≤ b.seq.stepT + stepLimit b.seq.step) :
    Does (.powerupStepDone t f) s fun u => u = b.setSeq (fun x => { x with step := b.seq.step + 1 }) := by
  refine ⟨_, ?_, rfl⟩
  change execPowerupStepDone t f s = _
  unfold execPowerupStepDone
  rw [hb]
  dsimp only
  rw [if_neg (by simp [hu, ht]; omega), if_pos h6]

theorem powerupStepDone_boots (hu : b.unit = .powerup) (h6 : b.seq.step = 6) (ht : b.clk ≤ b.seq.stepT + stepLimit 6)
    (hp : b.seq.phase = .ascending) : Does (.powerupStepDone t 0) s fun u => u.unit = .boot ∧ u.seq.step = 0 ∧
      u.pwr.bootCause = 0 ∧ u.mem = [] ∧ u.hpr.epoch = (b.hpr.epoch + 1) % 2 ^ 32 ∧
      (∀ x ∈ u.str, x.state = .isolated ∨ x.state = .retired) ∧ u.red.listenT = b.clk := by
  obtain ⟨v, hv⟩ : ∃ v, v = enterBoot (b.setSeq fun q => { q with step := 0, posT := b.clk }) 0 := ⟨_, rfl⟩
  obtain ⟨hunit, hseq, hcause, hmem, hepoch, hparked, hlisten⟩ :=
    enterBoot_boots (b.setSeq fun q => { q with step := 0, posT := b.clk }) 0
  rw [← hv] at hunit hseq hcause hmem hepoch hparked hlisten
  obtain ⟨q, _, hstep, hsettled⟩ := settled_ascending (s := v) (by rw [hseq]; exact hp)
  refine ⟨settled v, ?_, ?_⟩
  · change execPowerupStepDone t 0 s = _
    unfold execPowerupStepDone
    rw [hb]
    dsimp only
    rw [h6]
    rw [if_neg (by simp [hu, ht]), if_neg (by decide)]
    simp [hv]
  · rw [hsettled]
    exact ⟨hunit, hstep.trans (by rw [hseq]; rfl), hcause, hmem, hepoch, hparked.all, hlisten⟩

theorem powerUpFailure_undoes (hu : b.unit = .powerup) (ht : b.seq.stepT + stepLimit b.seq.step < b.clk) :
    Does (.powerUpFailure t) s fun u => u.unit = .off ∧ u.pwr.aonFault = b.seq.step ∧
      u.pwr.minOffEnd = b.clk + 2 * nsS ∧ u.seq.phase = .idle := by
  obtain ⟨v, hv⟩ : ∃ v, v = b.setPwr fun p => { p with aonFault := b.seq.step } := ⟨_, rfl⟩
  obtain ⟨_, hunit, _⟩ := goOff_off v 385 false
  obtain ⟨hmin, haon⟩ := goOff_minOff v 385 false
  refine ⟨goOff v 385 false, ?_, hunit, by rw [haon, hv]; rfl, by rw [hmin, hv]; rfl, by rw [goOff_seq]⟩
  change execPowerUpFailure t s = _
  unfold execPowerUpFailure
  rw [hb]
  dsimp only
  rw [if_pos (by simp [hu, ht]), powerUpFailure, hv]

theorem bootListenEnd_takes (hu : b.unit = .boot) (hchk : b.upd.checked = true) (ht : b.red.listenT + 2 * nsS ≤ b.clk)
    (hrole : bootRole b ≠ .resync) (hlost : sharedLost b = false) :
    Does (.bootListenEnd t) s fun u => u.unit = bootRole b ∧ b.red.storedClaim < u.red.claim ∧
      u.red.listenT = b.red.listenT := by
  obtain ⟨v, hv⟩ : ∃ v, v = setRole (issueClaim b) (bootRole b) 324 false := ⟨_, rfl⟩
  have hunit : v.unit = bootRole b := hv ▸ setRole_unit ..
  have hred : v.red = (issueClaim b).red := hv ▸ setRole_red ..
  have hlist : (issueClaim b).red.listenT = b.red.listenT := by unfold issueClaim; dsimp only; split <;> rfl
  have hclaim : b.red.storedClaim < (issueClaim b).red.claim := by
    rw [issueClaim_claim]
    exact Nat.lt_succ_of_le ((Nat.le_max_right _ _).trans (Nat.le_max_left _ _))
  have hvlost : sharedLost v = false := by
    rw [← hlost]
    have hpwr : v.pwr = (issueClaim b).pwr := by rw [hv]; simp
    refine sharedLost_congr (by rw [hv]; simp) ?_
    rw [hpwr]
    unfold issueClaim
    dsimp only
    split <;> rfl
  have hrunit : (retier v).unit = v.unit := by
    rw [retier_strings (.inl hvlost)]
    simp
  have hrlost : sharedLost (retier v) = false := (sharedLost_of_degrades (degrades_retier v)).trans hvlost
  obtain ⟨on, hrred⟩ := retier_red v
  refine ⟨retier v, ?_, hrunit.trans hunit, ?_, ?_⟩
  · change execBootListenEnd t s = _
    unfold execBootListenEnd
    simp only [hb]
    rw [if_neg (by simp [hu, hchk, ht]), ← hv, if_neg (by simp [hrlost])]
  · rw [hrred]
    simpa only [hred] using hclaim
  · rw [hrred]
    simpa only [hred] using hlist

theorem bootListenEnd_resyncs (hu : b.unit = .boot) (hchk : b.upd.checked = true)
    (ht : b.red.listenT + 2 * nsS ≤ b.clk) (hrole : bootRole b = .resync) (hlost : sharedLost b = false) :
    Does (.bootListenEnd t) s fun u => u.unit = .resync ∧ u.red.resyncStep = 1 ∧ u.red.resyncT = b.clk := by
  obtain ⟨hunit, hstep, hT, _⟩ := enterResync_enters b 324
  have hrlost : sharedLost (enterResync b 324) = false :=
    (sharedLost_congr (by simp) (by simp)).trans hlost
  refine ⟨enterResync b 324, ?_, hunit, hstep, hT⟩
  change execBootListenEnd t s = _
  unfold execBootListenEnd
  rw [hb]
  dsimp only
  rw [hrole]
  rw [if_neg (by simp [hu, hchk, ht]), if_neg (by simp [hrlost])]

theorem pbNPress_requests {h : Nat} (hlo : 50 ≤ h) (hhi : h ≤ 2000) (hu : b.unit = .solo) (hp : b.seq.phase = .up)
    (hpwr : b.pwr.state ≠ .unpowered) (h0 : b.seq.preOff = 0) :
    Does (.pbNPress t h) s fun u => u.seq.phase = .descending ∧ u.seq.preOff = 1 ∧
      u.seq.local_ = !(seqFlag b 2 && onLine b) := by
  obtain ⟨i, o, hd⟩ := startDescent_eq h0 (tblTop b.seq.table) (seqFlag b 2 && onLine b)
  refine ⟨startDescent b (tblTop b.seq.table) (seqFlag b 2 && onLine b), ?_, by rw [hd]; exact ⟨rfl, rfl, rfl⟩⟩
  change execPbNPress t h s = _
  unfold execPbNPress
  rw [hb]
  dsimp only
  rw [if_neg (by simp [hpwr]; omega), if_pos ⟨hlo, hhi⟩, if_neg (by simp [hu, hp]),
    offRequest_up (by simp [hu]) (by simp [hu]) hp, if_neg (by simp [hu])]

theorem pbNPress_counts {h : Nat} (hother : h < 50 ∨ 2000 < h) (hlong : h < 8000) (hpwr : b.pwr.state ≠ .unpowered) :
    Does (.pbNPress t h) s fun u => u.seq = { b.seq with otherPresses := b.seq.otherPresses + 1 } ∧ u.unit = b.unit := by
  refine ⟨groupRecord (b.setSeq fun q => { q with otherPresses := q.otherPresses + 1 }) gSeq srcAon lvInfo 407 0 h,
    ?_, by simp, by simp⟩
  change execPbNPress t h s = _
  unfold execPbNPress
  rw [hb]
  dsimp only
  rw [if_neg (by simp [hpwr]; omega), if_neg (by omega)]

theorem forcedOff_off (hoff : b.unit ≠ .off) (hpwr : b.pwr.state ≠ .unpowered) :
    Does (.forcedOff t) s fun u => u.unit = .off ∧ u.seq.faultCause = 4 ∧ u.pwr.aonFault = 0x200 ∧
      u.pwr.minOffEnd = b.clk + 2 * nsS ∧ u.red.beatsOn = false := by
  obtain ⟨hu, _, hcause, haon, hmin, hbeats⟩ := railFault_off b 0x200 4 none
  refine ⟨railFault b 0x200 4 none, ?_, hu, hcause, haon, hmin, hbeats⟩
  change execForcedOff t s = _
  unfold execForcedOff
  rw [hb]
  dsimp only
  rw [if_neg (by simp [hoff, hpwr])]

theorem mrN_holds (hrole : b.unit.isRole = true) :
    Does (.mrN t) s fun u => u.unit = .safeHold ∧ u.seq.mrLow = true ∧ u.hpr.ready = false := by
  have hunit : (enterSafeHold b 408).unit = .safeHold := by
    rw [enterSafeHold, if_pos (by simp [hrole])]
    exact setUnit_unit ..
  refine ⟨((enterSafeHold b 408).setSeq fun q => { q with mrLow := true }).setHpr fun h => { h with ready := false }, ?_,
    hunit, rfl, rfl⟩
  change execMrN t s = _
  unfold execMrN
  rw [hb]
  simp only [hrole, ↓reduceIte]
  rw [if_neg]
  intro h
  cases hu : b.unit <;> simp_all [UnitState.isRole]

theorem mrNRelease_boots (hlow : b.seq.mrLow = true) (hu : b.unit = .safeHold) (hlost : sharedLost b = false) :
    Does (.mrNRelease t) s fun u => u.unit = .boot ∧ u.seq.mrLow = false ∧ u.pwr.bootCause = 2 ∧ u.mem = b.mem := by
  obtain ⟨v, hv⟩ : ∃ v, v = b.setSeq fun q => { q with mrLow := false } := ⟨_, rfl⟩
  have hunit : v.unit = .safeHold := by rw [hv]; exact hu
  have hvlost : sharedLost v = false := by rw [hv]; exact hlost
  obtain ⟨hboot, hseq, hcause, hmem, _⟩ := enterBoot_boots v 2
  refine ⟨enterBoot v 2, ?_, hboot, by rw [hseq, hv]; rfl, hcause, hmem.trans (by rw [hv]; rfl)⟩
  change execMrNRelease t s = _
  unfold execMrNRelease
  rw [hb]
  dsimp only
  rw [← hv]
  rw [if_neg (by simp [hlow]), if_neg (by simp [hunit]), if_neg (by simp [hvlost])]

end

/-- Settles O33: on and off requests, the six steps of the power-up, BOOT's listening, PB_N and MR_N. -/
theorem sequencerRequests : Obligations.SequencerRequests := by
  unfold Obligations.SequencerRequests
  exact ⟨fun _ _ _ _ h hr hl hd hz hlen hlo hhi hdesc hbad => seqSetTable_keeps h hr hl hd hz hlen hlo hhi hdesc hbad,
    fun _ _ _ _ h hr hl hq hm hd hne hk hk1 hz hdesc _ => seqGetTable_fills h hr hl hq hm hd hne hk hk1 hz hdesc,
    fun _ _ _ h hr hl hq hm hd hne hdesc _ => seqGetStatus_fills h hr hl hq hm hd hne hdesc,
    fun _ _ _ h hr hoff hup hl hk hk1 hp h0 hnow => seqOff_descends h hr hoff hup hl hk hk1 hp h0 hnow,
    fun _ _ h hu hl hk hpres hp h0 => seqOff_waits h hu hl hk hpres hp h0,
    fun _ _ h hr hl hpend => seqCancelOff_cancels h hr hl hpend,
    fun _ _ _ hoff hvin hpwr hon hmin hheld => onRequest_holds rfl hoff hvin hpwr hon hmin hheld,
    fun _ _ _ hoff hvin hpwr hon hmin hsrc hp hl => onRequest_watches rfl hoff hvin hpwr hon hmin hsrc hp hl,
    fun _ _ _ hoff hvin _ hheld hmin hl hsrc => minimumOffTimeEnd_serves rfl hoff hvin hheld hmin hl hsrc,
    fun _ _ _ hoff hvin _ hp ht hseen => seqWatchEnd_begins rfl hoff hvin hp ht hseen,
    fun _ _ hoff hvin hpwr hflag hl hmin => systemPowerUpStart_joins rfl hoff hvin hpwr hflag hl hmin,
    fun _ _ f hu h1 h6 ht => powerupStepDone_steps rfl f hu h1 h6 ht,
    fun _ _ hu h6 ht hp => powerupStepDone_boots rfl hu h6 ht hp,
    fun _ _ hu ht => powerUpFailure_undoes rfl hu ht,
    fun _ _ hu hchk ht hrole hlost => bootListenEnd_takes rfl hu hchk ht hrole hlost,
    fun _ _ hu hchk ht hrole hlost => bootListenEnd_resyncs rfl hu hchk ht hrole hlost,
    fun _ _ _ hlo hhi hu hp hpwr h0 => pbNPress_requests rfl hlo hhi hu hp hpwr h0,
    fun _ _ _ hother hlong hpwr => pbNPress_counts rfl hother hlong hpwr,
    fun _ _ hoff hpwr => forcedOff_off rfl hoff hpwr,
    fun _ _ hrole => mrN_holds rfl hrole,
    fun _ _ hlow hu hlost => mrNRelease_boots rfl hlow hu hlost⟩

end Sys2Proof.Machine
end

section
/-! SUPPORT. What a change of the state keeps (15_host_interface.md R433, R440; 18_faults_peat_log.md R497, R509): the rules by
which the law of a function follows from the laws of those it calls. -/

namespace Sys2Proof.Machine

-- One proof at a time: together their threads exceed the memory of the check.
set_option Elab.async false

/-- `s` with every part that is in `l` as it is after reset: what two states have in common outside `l`. -/
def State.outside (l : List Piece) (s : State) : State :=
  { s with
    clk := bif l.elem .clk then 0 else s.clk, unit := bif l.elem .unit then .off else s.unit
    str := bif l.elem .str then [] else s.str, pwr := bif l.elem .pwr then {} else s.pwr
    hvi := bif l.elem .hvi then {} else s.hvi, hviStr := bif l.elem .hviStr then [] else s.hviStr
    rings := bif l.elem .rings then {} else s.rings, cee := bif l.elem .cee then {} else s.cee
    tpe := bif l.elem .tpe then {} else s.tpe, th := bif l.elem .th then {} else s.th
    bal := bif l.elem .bal then [] else s.bal, dsp := bif l.elem .dsp then {} else s.dsp
    conv := bif l.elem .conv then [] else s.conv, phase := bif l.elem .phase then [] else s.phase
    gx2 := bif l.elem .gx2 then [] else s.gx2, le := bif l.elem .le then {} else s.le
    saf := bif l.elem .saf then {} else s.saf, red := bif l.elem .red then {} else s.red
    rack := bif l.elem .rack then {} else s.rack, seq := bif l.elem .seq then {} else s.seq
    tsu := bif l.elem .tsu then {} else s.tsu, hpr := bif l.elem .hpr then {} else s.hpr
    net := bif l.elem .net then {} else s.net, app := bif l.elem .app then {} else s.app
    icu := bif l.elem .icu then {} else s.icu, flt := bif l.elem .flt then {} else s.flt
    plg := bif l.elem .plg then {} else s.plg, upd := bif l.elem .upd then {} else s.upd
    mem := bif l.elem .mem then [] else s.mem, canRam := bif l.elem .canRam then [] else s.canRam
    free := bif l.elem .free then 0 else s.free }

/-- Every part in `l` is in `m`. -/
def among (l m : List Piece) : Bool := l.all m.elem

theorem among_trans {l m n : List Piece} (h : among l m = true) (k : among m n = true) : among l n = true :=
  List.all_eq_true.mpr fun p hp => List.all_eq_true.mp k p (by simpa using List.all_eq_true.mp h p hp)

/-- What the obligations on every step keep: the memories, the log and the retired units. -/
def State.held (s : State) : List Host.Cell × List Host.Cell × Plg × List (Nat × Nat) :=
  (s.mem, s.canRam, s.plg, s.flt.retired)

/-- `u` has both memories in canonical form and the log in order if `s` has them so. -/
structure Orderly (s u : State) : Prop where
  mem : Memory.wf s.mem = true → Memory.wf u.mem = true
  canRam : Memory.wf s.canRam = true → Memory.wf u.canRam = true
  log : LogOk s.plg → LogOk u.plg

/-- From `s` to `u` only parts in `l` change, and memories and log stay in order. -/
structure Changes (l : List Piece) (s u : State) : Prop where
  rest : u.outside l = s.outside l
  orderly : Orderly s u

/-- So it is, and units retired in `s` are retired in `u`. -/
structure Within (l : List Piece) (s u : State) : Prop extends Changes l s u where
  retired : ∀ x, s.retired x = true → u.retired x = true

theorem outside_outside {l m : List Piece} (h : among l m = true) (s : State) : (s.outside l).outside m = s.outside m := by
  have hp (p : Piece) : l.elem p = true → m.elem p = true := fun hl =>
    List.all_eq_true.mp h p (by simpa using hl)
  have keep {α : Type} (p : Piece) (d x : α) :
      (bif m.elem p then d else bif l.elem p then d else x) = bif m.elem p then d else x := by
    cases hl : l.elem p
    · rfl
    · rw [hp p hl]; rfl
  simp only [State.outside, keep]

theorem eq_of_bif {α : Type} {c : Bool} {d x y : α} (hc : c = false) (h : (bif c then d else x) = bif c then d else y) : x =
    y := by
  rwa [hc] at h

theorem Piece.same_of_outside {l : List Piece} {s u : State} (h : u.outside l = s.outside l) {p : Piece} (hp : p ∉ l) :
    p.same s u := by
  have hl : l.elem p = false := by simpa using hp
  cases p with
  | clk => exact eq_of_bif hl (congrArg State.clk h)
  | unit => exact eq_of_bif hl (congrArg State.unit h)
  | str => exact eq_of_bif hl (congrArg State.str h)
  | pwr => exact eq_of_bif hl (congrArg State.pwr h)
  | hvi => exact eq_of_bif hl (congrArg State.hvi h)
  | hviStr => exact eq_of_bif hl (congrArg State.hviStr h)
  | rings => exact eq_of_bif hl (congrArg State.rings h)
  | cee => exact eq_of_bif hl (congrArg State.cee h)
  | tpe => exact eq_of_bif hl (congrArg State.tpe h)
  | th => exact eq_of_bif hl (congrArg State.th h)
  | bal => exact eq_of_bif hl (congrArg State.bal h)
  | dsp => exact eq_of_bif hl (congrArg State.dsp h)
  | conv => exact eq_of_bif hl (congrArg State.conv h)
  | phase => exact eq_of_bif hl (congrArg State.phase h)
  | gx2 => exact eq_of_bif hl (congrArg State.gx2 h)
  | le => exact eq_of_bif hl (congrArg State.le h)
  | saf => exact eq_of_bif hl (congrArg State.saf h)
  | red => exact eq_of_bif hl (congrArg State.red h)
  | rack => exact eq_of_bif hl (congrArg State.rack h)
  | seq => exact eq_of_bif hl (congrArg State.seq h)
  | tsu => exact eq_of_bif hl (congrArg State.tsu h)
  | hpr => exact eq_of_bif hl (congrArg State.hpr h)
  | net => exact eq_of_bif hl (congrArg State.net h)
  | app => exact eq_of_bif hl (congrArg State.app h)
  | icu => exact eq_of_bif hl (congrArg State.icu h)
  | flt => exact eq_of_bif hl (congrArg State.flt h)
  | plg => exact eq_of_bif hl (congrArg State.plg h)
  | upd => exact eq_of_bif hl (congrArg State.upd h)
  | mem => exact eq_of_bif hl (congrArg State.mem h)
  | canRam => exact eq_of_bif hl (congrArg State.canRam h)
  | free => exact eq_of_bif hl (congrArg State.free h)

theorem Orderly.refl (s : State) : Orderly s s := ⟨id, id, id⟩
theorem Orderly.trans {s u v : State} (h : Orderly s u) (k : Orderly u v) : Orderly s v :=
  ⟨k.mem ∘ h.mem, k.canRam ∘ h.canRam, k.log ∘ h.log⟩

section
variable {l m : List Piece} {s u v : State}

theorem Changes.trans (h : Changes l s u) (k : Changes l u v) : Changes l s v :=
  ⟨k.rest.trans h.rest, h.orderly.trans k.orderly⟩

theorem Changes.mono (h : Changes l s u) (e : among l m = true := by exact Eq.refl true) : Changes m s u :=
  ⟨by rw [← outside_outside e u, h.rest, outside_outside e], h.orderly⟩

theorem Within.refl : Within l s s := ⟨⟨rfl, .refl s⟩, fun _ => id⟩

theorem Within.trans (h : Within l s u) (k : Within l u v) : Within l s v :=
  ⟨h.toChanges.trans k.toChanges, fun x => k.retired x ∘ h.retired x⟩

theorem Within.mono (h : Within l s u) (e : among l m = true := by exact Eq.refl true) : Within m s u :=
  ⟨h.toChanges.mono e, h.retired⟩

/-- The last call of a chain comes first: what it starts from is read off its law. -/
theorem Within.after (k : Within l u v) (h : Within m s u) (e : among l m = true := by exact Eq.refl true) : Within m s v :=
  h.trans (k.mono e)

/-- What is done from `u` on comes first: `u` is read off it. -/
theorem Within.then (k : Within l u v) (h : Within l s u) : Within l s v := h.trans k

/-- A change that leaves what is held as it is. -/
theorem Within.of (h : u.outside l = s.outside l) (k : u.held = s.held) : Within l s u := by
  obtain ⟨hmem, hcan, hplg, hret⟩ : u.mem = s.mem ∧ u.canRam = s.canRam ∧ u.plg = s.plg ∧ u.flt.retired = s.flt.retired := by
    simpa only [State.held, Prod.mk.injEq] using k
  exact ⟨⟨h, ⟨by rw [hmem]; exact id, by rw [hcan]; exact id, by rw [hplg]; exact id⟩⟩, by simp [State.retired, hret]⟩

theorem Within.ite {c : Prop} [Decidable c] (h : Within l s u) (k : Within l s v) : Within l s (if c then u else v) := by
  split
  · exact h
  · exact k

theorem Within.iteFst {α : Type} {c : Prop} [Decidable c] {x y : State × α} (h : Within l s x.1) (k : Within l s y.1) :
    Within l s (if c then x else y).1 := by
  split
  · exact h
  · exact k

/-- The state a pair starts with. -/
theorem Within.start {α : Type} {x : State × α} {a : α} (e : x = (u, a)) (h : Within l s x.1) (k : Within l u v) :
    Within l s v := by
  subst e
  exact h.trans k

theorem Within.cond {c : Bool} (h : Within l s u) (k : Within l s v) : Within l s (bif c then u else v) := by
  cases c
  · exact k
  · exact h

/-- `m` is a match that takes `a` without a value and `f` with one. -/
structure ByOption {α : Type} (m : Option α → (Unit → State) → (α → State) → State) : Prop where
  none : ∀ a f, m none a f = a ()
  some : ∀ a f x, m (some x) a f = f x

theorem Within.option {α : Type} {m : Option α → (Unit → State) → (α → State) → State} {o : Option α} {a : Unit → State}
    {f : α → State} (h : Within l s (a ())) (k : ∀ x, Within l s (f x))
    (e : ByOption m := by exact ⟨fun _ _ => rfl, fun _ _ _ => rfl⟩) : Within l s (m o a f) := by
  cases o
  · rw [e.none]; exact h
  · rw [e.some]; exact k _

/-- As above, where the match has the value first. -/
theorem Within.optionSwap {α : Type} {m : Option α → (α → State) → (Unit → State) → State} {o : Option α} {a : Unit → State}
    {f : α → State} (k : ∀ x, Within l s (f x)) (h : Within l s (a ()))
    (e : ByOption fun o a f => m o f a := by exact ⟨fun _ _ => rfl, fun _ _ _ => rfl⟩) : Within l s (m o f a) :=
  .option h k e

/-! A match `m` on `o` answers what one of its alternatives answers: what holds of each alternative holds of it. -/

theorem Within.alts {ο α β : Type} {m : ο → (α → State) → (β → State) → State} {o : ο}
    {a : α → State} {b : β → State}
    (ha : ∀ x, Within l s (a x)) (hb : ∀ x, Within l s (b x))
    (e : ∀ (P : State → Prop) a b, (∀ x, P (a x)) → (∀ x, P (b x)) → ∀ o, P (m o a b) := by
      intros; next o => induction o <;> apply_assumption) :
    Within l s (m o a b) := e _ _ _ ha hb o

theorem Within.alts3 {ο α β γ : Type} {m : ο → (α → State) → (β → State) → (γ → State) → State} {o : ο}
    {a : α → State} {b : β → State} {c : γ → State}
    (ha : ∀ x, Within l s (a x)) (hb : ∀ x, Within l s (b x)) (hc : ∀ x, Within l s (c x))
    (e : ∀ (P : State → Prop) a b c, (∀ x, P (a x)) → (∀ x, P (b x)) → (∀ x, P (c x)) → ∀ o, P (m o a b c) := by
      intros; next o => induction o <;> apply_assumption) :
    Within l s (m o a b c) := e _ _ _ _ ha hb hc o

theorem Within.alts4 {ο α β γ δ : Type} {m : ο → (α → State) → (β → State) → (γ → State) → (δ → State) → State} {o : ο}
    {a : α → State} {b : β → State} {c : γ → State} {d : δ → State}
    (ha : ∀ x, Within l s (a x)) (hb : ∀ x, Within l s (b x)) (hc : ∀ x, Within l s (c x)) (hd : ∀ x, Within l s (d x))
    (e : ∀ (P : State → Prop) a b c d, (∀ x, P (a x)) → (∀ x, P (b x)) → (∀ x, P (c x)) → (∀ x, P (d x)) → ∀ o, P
      (m o a b c d) := by
      intros; next o => induction o <;> apply_assumption) :
    Within l s (m o a b c d) := e _ _ _ _ _ ha hb hc hd o

theorem Within.alts5 {ο α β γ δ ε : Type} {m : ο → (α → State) → (β → State) → (γ → State) → (δ → State) → (ε → State) → State}
    {o : ο}
    {a : α → State} {b : β → State} {c : γ → State} {d : δ → State} {f : ε → State}
    (ha : ∀ x, Within l s (a x)) (hb : ∀ x, Within l s (b x)) (hc : ∀ x, Within l s (c x)) (hd : ∀ x, Within l s (d x))
      (hf : ∀ x, Within l s (f x))
    (e : ∀ (P : State → Prop) a b c d f, (∀ x, P (a x)) → (∀ x, P (b x)) → (∀ x, P (c x)) → (∀ x, P (d x)) → (∀ x, P (f x)) → ∀ o,
      P (m o a b c d f) := by
      intros; next o => induction o <;> apply_assumption) :
    Within l s (m o a b c d f) := e _ _ _ _ _ _ ha hb hc hd hf o

theorem Within.alts6 {ο α β γ δ ε ζ : Type} {m : ο → (α → State) → (β → State) → (γ → State) → (δ → State) → (ε → State) →
    (ζ → State) → State} {o : ο}
    {a : α → State} {b : β → State} {c : γ → State} {d : δ → State} {f : ε → State} {g : ζ → State}
    (ha : ∀ x, Within l s (a x)) (hb : ∀ x, Within l s (b x)) (hc : ∀ x, Within l s (c x)) (hd : ∀ x, Within l s (d x))
      (hf : ∀ x, Within l s (f x)) (hg : ∀ x, Within l s (g x))
    (e : ∀ (P : State → Prop) a b c d f g, (∀ x, P (a x)) → (∀ x, P (b x)) → (∀ x, P (c x)) → (∀ x, P (d x)) → (∀ x, P (f x)) →
      (∀ x, P (g x)) → ∀ o, P (m o a b c d f g) := by
      intros; next o => induction o <;> apply_assumption) :
    Within l s (m o a b c d f g) := e _ _ _ _ _ _ _ ha hb hc hd hf hg o

/-- As above, of a match on two values that takes the first alternative with both and the second without. -/
theorem Within.altsPair {ο π α β γ δ : Type} {m : ο → π → (α → β → State) → (γ → δ → State) → State} {o : ο} {p : π}
    {a : α → β → State} {b : γ → δ → State} (ha : ∀ x y, Within l s (a x y)) (hb : ∀ x y, Within l s (b x y))
    (e : ∀ (P : State → Prop) a b, (∀ x y, P (a x y)) → (∀ x y, P (b x y)) → ∀ o p, P (m o p a b) := by
      intros; next o p => induction o <;> induction p <;> apply_assumption) :
    Within l s (m o p a b) := e _ _ _ ha hb o p

/-- One number of a match on numbers: the case that it is, and the case that it is another. -/
theorem Within.lit {a : State} {n k : Nat} {g : ¬ n = k → State} (h : Within l s a) (j : ∀ hn, Within l s (g hn)) :
    Within l s (if h : n = k then Eq.ndrec_symm (motive := fun _ => State) a h else g h) := by
  split
  next h => subst h; exact ‹Within l s a›
  next h => exact j h

theorem Within.foldl {β : Type} {f : State → β → State} {bs : List β} (h : Within l s u)
    (k : ∀ u b, Within l u (f u b)) : Within l s (bs.foldl f u) := by
  induction bs generalizing u with
  | nil => exact h
  | cons b bs ih => exact ih (h.trans (k u b))

end

/-- Where `o` is a next state, it is `s` moved within `l`. -/
structure Yields (l : List Piece) (s : State) (o : Out State) : Prop where
  within : ∀ u, o = .next u → Within l s u

section
variable {l m : List Piece} {s u v : State} {o p : Out State}

theorem Yields.next (h : Within l s u) : Yields l s (.next u) := ⟨fun _ hu => Host.Outcome.next.inj hu ▸ h⟩

theorem Yields.mono (h : Yields l s o) (e : among l m = true := by exact Eq.refl true) :
    Yields m s o := ⟨fun u hu => (h.within u hu).mono e⟩

theorem among_everything (l : List Piece) : among l everything = true :=
  List.all_eq_true.mpr fun p _ => by cases p <;> rfl

theorem Yields.widen (h : Yields l s o) : Yields everything s o := h.mono (among_everything l)

theorem Yields.from (k : Yields l u o) (h : Within l s u) : Yields l s o := ⟨fun v hv => h.trans (k.within v hv)⟩

theorem State.advance_within (s : State) (t : Nat) : Within (timed []) s (s.advance t) := by
  delta State.advance
  exact .of rfl rfl

theorem Yields.advance {t : Nat} (h : Yields l (s.advance t) o) (e : among (timed []) l = true := by exact Eq.refl true) :
    Yields l s o := h.from (.mono (State.advance_within s t) e)

theorem Yields.ite {c : Prop} [Decidable c] (h : Yields l s o) (k : Yields l s p) : Yields l s (if c then o else p) := by
  split
  · exact h
  · exact k

end

end Sys2Proof.Machine
end

section
/-! SUPPORT. What each function of the model changes, and that it keeps the memories, the log and the retired units in order: the law
of a function follows its own definition, by the laws of those it calls (95_what_each_step_holds.md). Then every command and every
step. -/

namespace Sys2Proof.Machine

-- One proof at a time: together their threads exceed the memory of the check.
set_option Elab.async false

/-! ## The parts of the state -/

theorem within_unit (s : State) (x : UnitState) : Within [.unit] s { s with unit := x } := .of rfl rfl

theorem within_app (s : State) (x : App) : Within [.app] s { s with app := x } := .of rfl rfl

theorem within_hvi (s : State) (x : Hvi) : Within [.hvi] s { s with hvi := x } := .of rfl rfl

theorem within_hviStr (s : State) (x : List HviStr) : Within [.hviStr] s { s with hviStr := x } := .of rfl rfl

theorem within_tpe (s : State) (x : Tpe) : Within [.tpe] s { s with tpe := x } := .of rfl rfl

theorem within_th (s : State) (x : Thermal) : Within [.th] s { s with th := x } := .of rfl rfl

theorem within_rings (s : State) (x : Rings) : Within [.rings] s { s with rings := x } := .of rfl rfl

theorem within_net (s : State) (x : Net) : Within [.net] s { s with net := x } := .of rfl rfl

theorem within_phase (s : State) (x : List Phase) : Within [.phase] s { s with phase := x } := .of rfl rfl

theorem within_icu (s : State) (x : Icu) : Within [.icu] s { s with icu := x } := .of rfl rfl

theorem within_bal (s : State) (x : List Bal) : Within [.bal] s { s with bal := x } := .of rfl rfl

theorem within_cee (s : State) (x : Cee) : Within [.cee] s { s with cee := x } := .of rfl rfl

theorem within_rack (s : State) (x : Rack) : Within [.rack] s { s with rack := x } := .of rfl rfl

/-! ## Flags of the state -/

theorem State.modStr_within (s : State) (i : Nat) (f : Str → Str) : Within [.str] s (State.modStr s i f) := by
  delta State.modStr
  exact .of rfl rfl

theorem State.modHvi_within (s : State) (i : Nat) (f : HviStr → HviStr) : Within [.hviStr] s (State.modHvi s i f) := by
  delta State.modHvi
  exact .of rfl rfl

theorem State.modRing_within (s : State) (i : Nat) (f : Ring → Ring) : Within [.rings] s (State.modRing s i f) := by
  delta State.modRing
  exact .of rfl rfl

theorem State.modMon_within (s : State) (i m : Nat) (f : Monitor → Monitor) : Within [.rings] s (State.modMon s i m f) :=
  State.modRing_within ..

theorem State.modCell_within (s : State) (c : Nat) (f : Cell → Cell) : Within [.cee] s (State.modCell s c f) := by
  delta State.modCell
  exact .of rfl rfl

theorem State.modEst_within (s : State) (i : Nat) (f : Est → Est) : Within [.cee] s (State.modEst s i f) := by
  delta State.modEst
  exact .of rfl rfl

theorem State.modBal_within (s : State) (i : Nat) (f : Bal → Bal) : Within [.bal] s (State.modBal s i f) := by
  delta State.modBal
  exact .of rfl rfl

theorem State.modConv_within (s : State) (i : Nat) (f : Conv → Conv) : Within [.conv] s (State.modConv s i f) := by
  delta State.modConv
  exact .of rfl rfl

theorem State.modPhase_within (s : State) (p : Nat) (f : Phase → Phase) : Within [.phase] s (State.modPhase s p f) := by
  delta State.modPhase
  exact .of rfl rfl

theorem State.modGx2_within (s : State) (p : Nat) (f : Gx2 → Gx2) : Within [.gx2] s (State.modGx2 s p f) := by
  delta State.modGx2
  exact .of rfl rfl

theorem State.modCont_within (s : State) (i : Nat) (f : Cont → Cont) : Within [.saf] s (State.modCont s i f) := by
  delta State.modCont
  exact .of rfl rfl

theorem State.modChan_within (s : State) (c : Channel) (f : Chan → Chan) : Within [.saf] s (State.modChan s c f) :=
  .alts (fun _ => .of rfl rfl) fun _ => .of rfl rfl

theorem State.modChanStr_within (s : State) (c : Channel) (i : Nat) (f : ChanStr → ChanStr) :
    Within [.saf] s (State.modChanStr s c i f) :=
  State.modChan_within ..

theorem State.modEf_within (s : State) (n : Nat) (f : Ef → Ef) : Within [.rack] s (State.modEf s n f) := by
  delta State.modEf
  exact .of rfl rfl

theorem State.modTi_within (s : State) (n : Nat) (f : Ti → Ti) : Within [.th] s (State.modTi s n f) := by
  delta State.modTi
  exact .of rfl rfl

theorem State.modCan_within (s : State) (c : Nat) (f : Can → Can) : Within [.net] s (State.modCan s c f) := by
  delta State.modCan
  exact .of rfl rfl

theorem State.modPort_within (s : State) (n : Nat) (f : NetPort → NetPort) : Within [.net] s (State.modPort s n f) := by
  delta State.modPort
  exact .of rfl rfl

theorem State.modRail_within (s : State) (r : Nat) (f : Rail → Rail) : Within [.seq] s (State.modRail s r f) := by
  delta State.modRail
  exact .of rfl rfl

theorem State.modLoop_within (s : State) (n : Nat) (f : LoopSlot → LoopSlot) : Within [.le] s (State.modLoop s n f) := by
  delta State.modLoop
  exact .of rfl rfl

theorem State.setHpr_within (s : State) (f : Hpr → Hpr) : Within [.hpr] s (State.setHpr s f) := by
  delta State.setHpr
  exact .of rfl rfl

theorem State.setPwr_within (s : State) (f : Power → Power) : Within [.pwr] s (State.setPwr s f) := by
  delta State.setPwr
  exact .of rfl rfl

theorem State.setRed_within (s : State) (f : Red → Red) : Within [.red] s (State.setRed s f) := by
  delta State.setRed
  exact .of rfl rfl

theorem State.setPlg_within (s : State) (f : Plg → Plg) (h : LogOk s.plg → LogOk (f s.plg) := by exact id) :
    Within [.plg] s (State.setPlg s f) := ⟨⟨rfl, ⟨id, id, h⟩⟩, fun _ => id⟩

theorem State.setFlt_within (s : State) (f : Flt → Flt)
    (h : ∀ x, (s.flt.retired.any fun e => e.1 == x) = true → ((f s.flt).retired.any fun e => e.1 == x) = true := by
      exact fun _ => id) :
    Within [.flt] s (State.setFlt s f) := ⟨⟨rfl, ⟨id, id, id⟩⟩, h⟩

theorem State.setDsp_within (s : State) (f : Dsp → Dsp) : Within [.dsp] s (State.setDsp s f) := by
  delta State.setDsp
  exact .of rfl rfl

theorem State.setRack_within (s : State) (f : Rack → Rack) : Within [.rack] s (State.setRack s f) := by
  delta State.setRack
  exact .of rfl rfl

theorem State.setTsu_within (s : State) (f : Tsu → Tsu) : Within [.tsu] s (State.setTsu s f) := by
  delta State.setTsu
  exact .of rfl rfl

theorem State.setSaf_within (s : State) (f : Saf → Saf) : Within [.saf] s (State.setSaf s f) := by
  delta State.setSaf
  exact .of rfl rfl

theorem State.setApp_within (s : State) (f : App → App) : Within [.app] s (State.setApp s f) := by
  delta State.setApp
  exact .of rfl rfl

theorem State.setTpe_within (s : State) (f : Tpe → Tpe) : Within [.tpe] s (State.setTpe s f) := by
  delta State.setTpe
  exact .of rfl rfl

theorem State.setCee_within (s : State) (f : Cee → Cee) : Within [.cee] s (State.setCee s f) := by
  delta State.setCee
  exact .of rfl rfl

theorem State.setSeq_within (s : State) (f : Seq → Seq) : Within [.seq] s (State.setSeq s f) := by
  delta State.setSeq
  exact .of rfl rfl

theorem State.setUpd_within (s : State) (f : Upd → Upd) : Within [.upd] s (State.setUpd s f) := by
  delta State.setUpd
  exact .of rfl rfl

theorem State.setLe_within (s : State) (f : Le → Le) : Within [.le] s (State.setLe s f) := by
  delta State.setLe
  exact .of rfl rfl

/-! ## Operations that several families share -/

theorem progTrigger_within (s : State) (n at_ period : Nat) : Within [.tsu] s (progTrigger s n at_ period) := by
  delta progTrigger
  exact .of rfl rfl

theorem State.draw_within (s : State) : Within [.free] s (State.draw s) := by
  delta State.draw
  exact .of rfl rfl

theorem State.modTgt_within (s : State) (g : Target) (f : Tgt → Tgt) : Within [.icu] s (State.modTgt s g f) := by
  delta State.modTgt
  split
  · exact .of rfl rfl
  · exact .of rfl rfl
  · exact .of rfl rfl

theorem State.modSrc_within (s : State) (g : Target) (n : Nat) (f : Src → Src) : Within [.icu] s (State.modSrc s g n f) :=
  .ite (.alts3 (fun _ => .of rfl rfl) (fun _ => .of rfl rfl) fun _ => .of rfl rfl) (.of rfl rfl)

theorem icuPend_within (s : State) (g : Target) (n : Nat) : Within [.icu] s (icuPend s g n) :=
  State.modSrc_within ..

theorem icuPrivate_within (s : State) (g : Target) (n : Nat) : Within [.icu] s (icuPrivate s g n) :=
  .ite .refl (.ite (State.modSrc_within ..) (icuPend_within ..))

/-- A record put at the next index of a log with room takes the next number; the one that fills the log marks it full. -/
theorem logOk_put {p : Plg} (h : LogOk p) (hroom : p.nextIndex < 131072) (r : Peat) {full : Bool}
    (hfull : p.nextIndex + 1 = 131072 → full = true) : LogOk { p.put r with full := full } := by
  obtain ⟨hlen, -, -, hnext, hseq⟩ := h
  refine ⟨by simp [Plg.put, hlen], by simp only [Plg.put]; omega, hfull, by simp only [Plg.put, hnext]; omega, ?_⟩
  intro i x hx
  simp only [Plg.put, List.reverse_cons, List.getElem?_append, List.length_reverse] at hx ⊢
  split at hx
  · exact hseq i x hx
  · simp only [List.getElem?_singleton, Option.mem_def, Option.ite_none_right_eq_some, Option.some.injEq] at hx
    obtain ⟨hi, rfl⟩ := hx
    have hi : i = p.nextIndex := by omega
    simp [hnext, hi]

theorem logOk_write {p : Plg} (h : LogOk p) (lv : Nat) (r : Peat) : LogOk (p.write lv r) := by
  obtain ⟨-, hmax, hfull, -⟩ := id h
  unfold Plg.write
  split
  · exact h
  next hopen =>
  have hroom : p.nextIndex < 131072 := Nat.lt_of_le_of_ne hmax fun heq => hopen (hfull heq)
  split
  · exact h
  split
  · exact logOk_put (p := p.drop) h hroom _ fun _ => rfl
  · exact logOk_put h hroom r fun _ => by omega

theorem record_within (s : State) (code src lv p0 p1 p2 : Nat) : Within [.icu, .plg] s (record s code src lv p0 p1 p2) := by
  have write (r : Peat) : Within [.icu, .plg] s (s.setPlg fun p => (p.write lv r).remember s.clk code src) :=
    .mono (State.setPlg_within _ _ fun h => logOk_write h _ _)
  delta record
  exact .ite .refl (.ite (.ite (.mono (State.setPlg_within ..)) (.mono (State.setPlg_within ..)))
    (.ite (.mono (State.setPlg_within ..)) (.ite (write _) (.after (icuPrivate_within ..) (write _)))))

theorem groupRecord_within (s : State) (grp src lv rule obj val : Nat) :
    Within [.icu, .plg] s (groupRecord s grp src lv rule obj val) :=
  record_within ..

theorem redirRecord_within (s : State) (g : Target) (n : Nat) : Within [.icu, .plg] s (redirRecord s g n) :=
  .ite (.after (groupRecord_within ..) (.mono (State.modSrc_within ..))) .refl

theorem icuShared_within (s : State) (n : Nat) : Within [.icu, .plg] s (icuShared s n) :=
  .ite (.after (redirRecord_within ..) (.mono (icuPrivate_within ..))) (.mono (icuPrivate_within ..))

theorem syncUnit_within (s : State) : Within [.hpr, .icu] s (syncUnit s) :=
  .ite .refl (.ite (.after (icuPrivate_within ..) (.after (icuPrivate_within ..) (.mono (State.setHpr_within ..))))
    (.after (icuPrivate_within ..) (.mono (State.setHpr_within ..))))

theorem isoRole_within (s : State) : Within [.hvi] s (isoRole s) :=
  .ite (.of rfl rfl) (.ite (.of rfl rfl) .refl)

theorem setUnit_within (s : State) (u : UnitState) (cause : Nat) :
    Within [.unit, .hvi, .hpr, .app, .icu, .plg] s (setUnit s u cause) := by
  delta setUnit
  refine .ite .refl ?_
  dsimp only
  refine .after (syncUnit_within ..) ?_
  split
  · exact .after (record_within ..)
      (.after (State.setHpr_within ..) (.after (within_app ..) (.after (isoRole_within ..) (.of rfl rfl))))
  · exact .after (State.setHpr_within ..) (.after (within_app ..) (.after (isoRole_within ..) (.of rfl rfl)))

theorem roleRecord_within (s : State) (old : UnitState) (takeover : Bool) : Within [.icu, .plg] s (roleRecord s old takeover) :=
  record_within ..

theorem setPower_within (s : State) (p : PowerState) : Within [.pwr, .hpr, .icu, .plg] s (setPower s p) := by
  delta setPower
  refine .ite .refl ?_
  extract_lets +onlyGivenNames _ s1
  exact .then (u := s1) (.after (syncUnit_within ..) (.ite (.mono (record_within ..)) .refl)) (.mono (State.setPwr_within ..))

theorem exitFloat_within (s : State) : Within [.pwr, .hpr, .icu, .plg] s (exitFloat s) :=
  .ite (.after (setPower_within ..) (.mono (State.setPwr_within ..))) .refl

theorem State.modDesc_within (s : State) (d : Nat) (f : Desc → Desc) : Within [.hpr] s (State.modDesc s d f) :=
  State.setHpr_within ..

theorem slotRespond_within (s : State) (n status detail : Nat) (port : Port) (payload : Bytes) :
    Within [.mem] s (slotRespond s n status detail port payload) :=
  ⟨⟨rfl, ⟨fun h => memWrites_wf _ _ _ (memWrites_wf _ _ _ (memWrites_wf _ _ _ (memWrites_wf _ _ _ h))), id, id⟩⟩, fun _ => id⟩

theorem mgmtRespond_within (s : State) (n status detail op seq : Nat) (payload : Bytes) :
    Within [.hpr] s (mgmtRespond s n status detail op seq payload) := by
  delta mgmtRespond
  split
  · exact State.setHpr_within ..

theorem finish1_within (s : State) (op : Nat) (q : Req) (status detail : Nat) (payload : Bytes) :
    Within [.hpr, .icu, .mem] s (finish1 s op q status detail payload) := by
  delta finish1
  extract_lets +onlyGivenNames _ s1
  refine .then (u := s1) (.option .refl fun _ => ?_) (.mono (State.setHpr_within ..))
  extract_lets +onlyGivenNames s2 s3
  exact .then (u := s3) (.alts3 (fun _ => .mono (mgmtRespond_within ..)) (fun _ => .ite .refl (.mono (icuPrivate_within ..)))
    fun _ => .ite .refl (.mono (icuPrivate_within ..))) (.then (u := s2) (.mono (State.setHpr_within ..))
    (.mono (slotRespond_within ..)))

theorem completeExec_within (s : State) (e : Exec) (status detail : Nat) (payload : Bytes) :
    Within [.hpr, .icu, .mem] s (completeExec s e status detail payload) :=
  .foldl (.after (finish1_within ..) (.mono (State.setHpr_within ..))) fun s x => finish1_within ..

theorem strayStr_within (s : State) (i : Nat) : Within [.str] s (strayStr s i) :=
  State.modStr_within ..

theorem setStr_within (s : State) (i : Nat) (new : StrState) (cause : Nat) :
    Within [.str, .hpr, .icu, .plg] s (setStr s i new cause) :=
  .ite .refl (.after (syncUnit_within ..)
    (.after (record_within ..) (.after (State.modStr_within ..) (.ite (.mono (strayStr_within ..)) .refl))))

theorem endTrans_within (s : State) (i status detail : Nat) : Within [.str, .hpr, .icu, .mem] s (endTrans s i status detail) :=
  .option .refl fun _ => .after (completeExec_within ..) (.mono (State.modStr_within ..))

theorem abortTrans_within (s : State) (i : Nat) : Within [.str, .hpr, .icu, .mem] s (abortTrans s i) :=
  endTrans_within ..

theorem gateOffString_within (s : State) (i : Nat) : Within [.conv, .phase] s (gateOffString s i) :=
  .after (within_phase ..) (.mono (State.modConv_within ..))

theorem openCoils_within (s : State) (i : Nat) : Within [.saf] s (openCoils s i) :=
  .after (State.modChanStr_within ..) (.after (State.modChanStr_within ..) (State.modCont_within ..))

theorem deferWrite_within (s : State) (k : Nat) : Within [.pwr] s (deferWrite s k) :=
  State.setPwr_within ..

theorem storeE_within (s : State) (i : Nat) : Within [.pwr, .conv] s (storeE s i) :=
  .ite (.mono (State.modConv_within ..)) (.mono (deferWrite_within ..))

theorem endPrecharge_within (s : State) (i : Nat) : Within [.pwr, .conv] s (endPrecharge s i) :=
  .ite .refl (.after (storeE_within ..) (.mono (State.modConv_within ..)))

theorem stopBalancing_within (s : State) (i : Nat) : Within [.rings, .bal] s (stopBalancing s i) :=
  .after (State.modRing_within ..) (.mono (State.modBal_within ..))

theorem haltStr_within (s : State) (i cause : Nat) :
    Within [.str, .pwr, .rings, .bal, .conv, .phase, .saf, .hpr, .icu, .plg, .mem] s (haltStr s i cause) := by
  delta haltStr
  refine .alts4 (fun _ => ?_) (fun _ => ?_) (fun _ => ?_) fun _ => .refl
  · extract_lets +onlyGivenNames s1 s2
    exact .then (u := s2) (.after (stopBalancing_within ..) (.mono (abortTrans_within ..)))
      (.then (u := s1) (.mono (setStr_within ..))
      (.after (openCoils_within ..) (.after (endPrecharge_within ..) (.mono (gateOffString_within ..)))))
  · extract_lets +onlyGivenNames s1 s2
    exact .then (u := s2) (.after (stopBalancing_within ..) (.mono (abortTrans_within ..)))
      (.then (u := s1) (.mono (setStr_within ..))
      (.after (openCoils_within ..) (.after (endPrecharge_within ..) (.mono (gateOffString_within ..)))))
  · extract_lets +onlyGivenNames s1 s2
    exact .then (u := s2) (.after (stopBalancing_within ..) (.mono (abortTrans_within ..)))
      (.then (u := s1) (.mono (setStr_within ..))
      (.after (openCoils_within ..) (.after (endPrecharge_within ..) (.mono (gateOffString_within ..)))))

theorem retireStr_within (s : State) (i cause : Nat) :
    Within [.str, .pwr, .rings, .bal, .conv, .phase, .saf, .hpr, .icu, .flt, .plg, .mem] s (retireStr s i cause) := by
  delta retireStr
  extract_lets +onlyGivenNames s1
  exact .then (u := s1) (.alts3
    (fun _ => .after (stopBalancing_within ..) (.after (setStr_within ..) (.mono (State.setFlt_within ..))))
    (fun _ => .after (stopBalancing_within ..) (.after (setStr_within ..) (.mono (State.setFlt_within ..)))) fun _ => .refl)
    (.mono (haltStr_within ..))

theorem prechargeAbort_within (s : State) (i cause : Nat) :
    Within [.str, .pwr, .conv, .saf, .hpr, .icu, .plg, .mem] s (prechargeAbort s i cause) :=
  .ite (.after (abortTrans_within ..) (.after (setStr_within ..) (.after (openCoils_within ..) (.mono (endPrecharge_within ..)))))
    .refl

theorem startRamp_within (s : State) (i : Nat) (dest : StrState) : Within [.conv] s (startRamp s i dest) :=
  State.modConv_within ..

theorem enterSafeHold_within (s : State) (cause : Nat) :
    Within [.unit, .str, .pwr, .hvi, .rings, .bal, .conv, .phase, .saf, .red, .hpr, .app, .icu, .plg, .mem] s
    (enterSafeHold s cause) :=
  .ite (.after (setUnit_within ..) (.after (State.setRed_within ..) (.foldl .refl fun s x => .after (abortTrans_within ..)
    (.after (openCoils_within ..) (.after (gateOffString_within ..) (.mono (haltStr_within ..))))))) .refl

theorem forceTier_within (s : State) (i : Nat) (old new : Tier) :
    Within [.str, .pwr, .rings, .bal, .conv, .phase, .saf, .hpr, .icu, .plg, .mem] s (forceTier s i old new) := by
  delta forceTier
  refine .ite .refl ?_
  split
  · exact haltStr_within ..
  · exact .mono (prechargeAbort_within ..)
  · exact .ite .refl (.after (startRamp_within ..) (.mono (strayStr_within ..)))
  · exact .ite .refl (.after (startRamp_within ..) (.mono (strayStr_within ..)))
  · exact .refl

theorem retierStr_within (s : State) (i : Nat) :
    Within [.str, .pwr, .rings, .bal, .conv, .phase, .saf, .hpr, .icu, .flt, .plg, .mem] s (retierStr s i) :=
  .ite (.after (retireStr_within ..)
    (.ite .refl (.after (forceTier_within ..) (.after (record_within ..) (.mono (State.modStr_within ..))))))
    (.ite .refl (.after (forceTier_within ..) (.after (record_within ..) (.mono (State.modStr_within ..)))))

theorem retier_within (s : State) :
    Within [.unit, .str, .pwr, .hvi, .rings, .bal, .conv, .phase, .saf, .red, .hpr, .app, .icu, .flt, .plg, .mem] s (retier s) :=
  .ite (.after (enterSafeHold_within ..) (.foldl .refl fun s x => .mono (retierStr_within ..)))
    (.foldl .refl fun s x => .mono (retierStr_within ..))

theorem retireEffect_within (s : State) (u : Nat) : Within [.hviStr, .rings, .cee, .th, .phase, .rack] s (retireEffect s u) := by
  delta retireEffect retireEffect.match_1
  refine .lit ?_ fun _ => .lit ?_ fun _ => .lit (.mono (State.modPhase_within ..)) fun _ => .lit (.mono (State.modTi_within ..))
    fun _ => .lit (.mono (State.modEf_within ..)) fun _ => .lit (.mono (State.setCee_within ..)) fun _ => .refl
  · beta_reduce
    extract_lets +onlyGivenNames _
    exact .mono (State.modHvi_within ..)
  · beta_reduce
    extract_lets +onlyGivenNames _
    exact .mono (State.modRing_within ..)

theorem retireUnit_within (s : State) (u reason : Nat) : Within [.unit, .str, .pwr, .hvi, .hviStr, .rings, .cee, .th, .bal,
    .conv, .phase, .saf, .red, .rack, .hpr, .app, .icu, .flt, .plg, .mem] s (retireUnit s u reason) := by
  delta retireUnit
  exact .ite .refl (.after (retier_within ..) (.after (retireEffect_within ..) (.after (record_within ..)
    (.mono (State.setFlt_within _ _ fun x hx => by simp only [List.any_cons, hx, Bool.or_true])))))

theorem detected_within (s : State) (u rule detail : Nat) : Within [.icu, .flt, .plg] s (detected s u rule detail) :=
  .ite (.mono (record_within ..)) (.ite (.after (State.setFlt_within ..) (.mono (record_within ..)))
    (.after (State.setFlt_within ..) (.mono (record_within ..))))

/-! ## The path of a command (15_host_interface.md R447, R449) -/

theorem recordReject_within (s : State) (op : Nat) (q : Req) (detail : Nat) :
    Within [.hpr, .icu, .plg] s (recordReject s op q detail) := by
  delta recordReject
  extract_lets +onlyGivenNames _
  refine .optionSwap (fun _ => .ite (.mono (State.setHpr_within ..)) ?_) ?_
  · extract_lets +onlyGivenNames s1
    exact .then (u := s1) (.mono (record_within ..)) (.mono (State.setHpr_within ..))
  · extract_lets +onlyGivenNames s1
    exact .then (u := s1) (.mono (record_within ..)) (.mono (State.setHpr_within ..))

theorem rejectCmd_within (s : State) (op : Nat) (q : Req) (status detail : Nat) :
    Within [.hpr, .icu, .plg, .mem] s (rejectCmd s op q status detail) :=
  .ite (.after (finish1_within ..) (.mono (recordReject_within ..))) (.mono (finish1_within ..))

theorem noteDesc_within (sp : Spec) (s : State) (q : Req) : Within [.hpr] s (noteDesc sp s q) := by
  delta noteDesc
  split
  · exact .refl
  · exact State.modDesc_within ..

theorem giveBack_within (sp : Spec) (s : State) (q : Req) : Within [.hpr] s (giveBack sp s q) := by
  delta giveBack
  split
  · exact .refl
  · exact State.modDesc_within ..

theorem follow_within (s : State) (op : Nat) (q : Req) : Within [.hpr] s (follow s op q) :=
  State.setHpr_within ..

theorem touch_within (s : State) : Within [.pwr] s (touch s) :=
  State.setPwr_within ..

theorem command_yields {l : List Piece} {sp : Spec} {run : State → Req → State} {q : Req} {s : State}
    (h : ∀ s, Within l s (run s q)) (e : among (answered []) l = true := by exact Eq.refl true) : Yields l s
      (command sp run q s) := by
  have e : among (answered []) l = true := e
  have touch : Within l s (touch s) := .mono (.mono (touch_within s) (m := answered [])) e
  delta command
  refine .ite (.next .refl) ?_
  split
  · exact .next (.then (.mono (.mono (finish1_within ..) (m := answered [])) e) touch)
  · refine .ite (.next (.then (.mono (.mono (follow_within ..) (m := answered [])) e) touch)) ?_
    split
    · exact .next (.then (.mono (.mono (rejectCmd_within ..) (m := answered [])) e)
        (.then (.mono (.mono (giveBack_within ..) (m := answered [])) e) touch))
    · exact .next (.then (h _) (.then (.mono (.mono (noteDesc_within ..) (m := answered [])) e) touch))

theorem ok_within (s : State) (op : Nat) (q : Req) (payload : Bytes) : Within [.hpr, .icu, .mem] s (ok s op q payload) :=
  finish1_within ..

theorem writeMem_within (s : State) (a : Nat) (b : Bytes) : Within [.mem] s { s with mem := memWrites s.mem a b } :=
  ⟨⟨rfl, ⟨memWrites_wf _ _ _, id, id⟩⟩, fun _ => id⟩

theorem bufWrite_within (s : State) (d : Nat) (b : Bytes) : Within [.hpr, .mem] s (bufWrite s d b) := by
  delta bufWrite
  exact .after (State.modDesc_within ..) (.mono (writeMem_within ..))

theorem respond_within (s : State) (op : Nat) (q : Req) (d : Nat) (b : Bytes) :
    Within [.hpr, .icu, .mem] s (respond s op q d b) :=
  .ite (ok_within ..) (.after (ok_within ..) (.mono (bufWrite_within ..)))

theorem respondBuf_within (s : State) (op : Nat) (q : Req) (d : Nat) (b : Bytes) :
    Within [.hpr, .icu, .mem] s (respondBuf s op q d b) :=
  .after (ok_within ..) (.mono (bufWrite_within ..))

theorem keepExec_within (s : State) (op : Nat) (q : Req) : Within [.hpr] s (keepExec s op q) :=
  State.setHpr_within ..

theorem peerSend_within (s : State) (ty : Nat) : Within [.red] s (peerSend s ty) :=
  State.setRed_within ..

theorem commit_within (s : State) (op : Nat) (q : Req) (ty : Nat) (payload : Bytes) :
    Within [.red, .hpr, .icu, .mem] s (commit s op q ty payload) :=
  .ite (.after (State.setRed_within ..) (.after (keepExec_within ..) (.mono (peerSend_within ..)))) (.mono (ok_within ..))

theorem commitExec_within (s : State) (e : Exec) (ty : Nat) (payload : Bytes) :
    Within [.red, .hpr, .icu, .mem] s (commitExec s e ty payload) :=
  .ite (.after (State.setRed_within ..) (.mono (peerSend_within ..))) (.mono (completeExec_within ..))

theorem endTransOk_within (s : State) (i : Nat) : Within [.str, .red, .hpr, .icu, .mem] s (endTransOk s i) :=
  .option .refl fun _ => .after (commitExec_within ..) (.mono (State.modStr_within ..))

/-! ## The interrupt control unit (17_app_core_icu.md R482 to R492) -/

theorem icuDecide_within (s : State) (g : Target) : Within [.icu] s (icuDecide s g) :=
  .ite .refl (.option .refl fun _ => State.modTgt_within ..)

theorem execIcuDecision_yields (t : Nat) (g : Target) (s : State) : Yields (timed [.icu]) s (execIcuDecision t g s) :=
  .next (.after (icuDecide_within ..) (.mono (State.advance_within ..)))

theorem icuClaim_within (s : State) (g : Target) : Within [.icu] s (icuClaim s g) := by
  delta icuClaim
  refine .option (State.modTgt_within ..) fun _ => .ite ?_ (State.modTgt_within ..)
  extract_lets +onlyGivenNames _ s1
  exact .then (u := s1) (State.modTgt_within ..) (State.modSrc_within ..)

theorem execIcuClaimRead_yields (t : Nat) (g : Target) (s : State) : Yields (timed [.icu]) s (execIcuClaimRead t g s) :=
  .next (.after (icuClaim_within ..) (.mono (State.advance_within ..)))

theorem icuComplete_within (s : State) (g : Target) (value : BitVec 32) : Within [.icu] s (icuComplete s g value) :=
  .ite (State.modSrc_within ..) (State.modTgt_within ..)

theorem execIcuCompleteWrite_yields (t : Nat) (g : Target) (value : BitVec 32) (s : State) :
    Yields (timed [.icu]) s (execIcuCompleteWrite t g value s) :=
  .next (.after (icuComplete_within ..) (.mono (State.advance_within ..)))

theorem icuWord_within {l : List Piece} {s : State} {g : Target} {w : Nat} {mask : BitVec 32} {f : State → Nat → State}
    (h : ∀ s n, Within l s (f s n)) : Within l s (icuWord s g w mask f) :=
  .foldl .refl fun s _ => .ite (h s _) .refl

theorem execIcuPendSet_yields (t : Nat) (g : Target) (w : Nat) (mask : BitVec 32) (s : State) :
    Yields (timed [.icu]) s (execIcuPendSet t g w mask s) :=
  .next (.then (icuWord_within fun s x => .mono (icuPend_within ..)) (.mono (State.advance_within ..)))

theorem execIcuPendClr_yields (t : Nat) (g : Target) (w : Nat) (mask : BitVec 32) (s : State) :
    Yields (timed [.icu]) s (execIcuPendClr t g w mask s) :=
  .next (.then (icuWord_within fun s x => .mono (State.modSrc_within ..)) (.mono (State.advance_within ..)))

theorem execIcuMaskSet_yields (t : Nat) (g : Target) (w : Nat) (mask : BitVec 32) (s : State) :
    Yields (timed [.icu]) s (execIcuMaskSet t g w mask s) :=
  .next (.then (icuWord_within fun s x => .mono (State.modSrc_within ..)) (.mono (State.advance_within ..)))

theorem execIcuMaskClr_yields (t : Nat) (g : Target) (w : Nat) (mask : BitVec 32) (s : State) :
    Yields (timed [.icu]) s (execIcuMaskClr t g w mask s) :=
  .next (.then (icuWord_within fun s x => .mono (State.modSrc_within ..)) (.mono (State.advance_within ..)))

theorem execIcuSourceEdge_yields (t : Nat) (g : Target) (n : Nat) (s : State) :
    Yields (timed [.icu, .plg]) s (execIcuSourceEdge t g n s) :=
  .next (.ite (.after (icuPrivate_within ..) (.mono (State.advance_within ..)))
    (.ite (.after (icuShared_within ..) (.mono (State.advance_within ..))) (.mono (State.advance_within ..))))

theorem icuCtrl_within (s : State) (g : Target) (value : BitVec 32) : Within [.icu] s (icuCtrl s g value) := by
  delta icuCtrl
  extract_lets +onlyGivenNames _ s1
  refine .then (u := s1) (.ite ?_ ?_) (State.modTgt_within ..)
  · extract_lets +onlyGivenNames _
    exact .of rfl rfl
  · extract_lets +onlyGivenNames _
    exact .of rfl rfl

theorem execIcuTgtEnWrite_yields (t : Nat) (g : Target) (value : BitVec 32) (s : State) :
    Yields (timed [.icu]) s (execIcuTgtEnWrite t g value s) :=
  .next (.after (icuCtrl_within ..) (.mono (State.advance_within ..)))

theorem execHoldOffExpiry_yields (t : Nat) (g : Target) (grp : Nat) (s : State) :
    Yields (timed [.icu]) s (execHoldOffExpiry t g grp s) :=
  .next (.ite (.after (State.modTgt_within ..) (.mono (State.advance_within ..))) (.mono (State.advance_within ..)))

theorem execStrandedTimeout_yields (t : Nat) (g : Target) (n : Nat) (s : State) :
    Yields (timed [.icu, .plg]) s (execStrandedTimeout t g n s) :=
  .next (.ite (.after (redirRecord_within ..)
    (.after (State.modTgt_within ..) (.after (State.modSrc_within ..) (.mono (State.advance_within ..)))))
    (.mono (State.advance_within ..)))

theorem retarget_within (s : State) (n : Nat) (g : Target) : Within [.icu] s (retarget s n g) :=
  State.modSrc_within ..

theorem execSourceRetarget_yields (t n : Nat) (g : Target) (s : State) : Yields (timed [.icu]) s (execSourceRetarget t n g s) :=
  .next (.ite (.after (retarget_within ..) (.mono (State.advance_within ..))) (.mono (State.advance_within ..)))

theorem icuWrite_within (s : State) (g : Target) (off : Nat) (v : BitVec 32) : Within [.icu] s (icuWrite s g off v) := by
  delta icuWrite
  refine .ite (icuCtrl_within ..) (.ite (.ite (State.modTgt_within ..) .refl)
    (.ite (icuComplete_within ..)
    (.ite (State.modTgt_within ..)
    (.ite ?_ (.ite (icuWord_within fun s x => icuPend_within ..) (.ite (icuWord_within fun s x => State.modSrc_within ..)
    (.ite (icuWord_within fun s x => State.modSrc_within ..) (.ite (icuWord_within fun s x => State.modSrc_within ..)
    (.ite ?_ .refl)))))))))
  · extract_lets +onlyGivenNames _
    exact State.modTgt_within ..
  · extract_lets +onlyGivenNames _
    exact .ite (State.modSrc_within ..) .refl

/-! ## The application core (17_app_core_icu.md R475 to R481) -/

theorem restartEffects_within (s : State) : Within [.tsu, .hpr, .net, .icu] s (restartEffects s) := by
  delta restartEffects
  dsimp only
  exact .after (State.setTsu_within ..) (.after (within_net ..) (.after (State.setHpr_within ..) (.mono (icuCtrl_within ..))))

theorem appRestart_within (s : State) (cause : Nat) : Within [.tsu, .hpr, .net, .app, .icu, .plg] s (appRestart s cause) :=
  .ite (.after (groupRecord_within ..) (.after (State.setApp_within ..) (.mono (restartEffects_within ..))))
    (.after (State.setApp_within ..) (.mono (restartEffects_within ..)))

theorem execAppStart_yields (t : Nat) (s : State) : Yields (timed [.app]) s (execAppStart t s) :=
  .next (.ite (.after (State.setApp_within ..) (.mono (State.advance_within ..))) (.mono (State.advance_within ..)))

theorem execAppRestart_yields (t cause : Nat) (s : State) :
    Yields (timed [.hpr, .net, .app, .icu, .plg]) s (execAppRestart t cause s) :=
  .next (.ite (.after (appRestart_within ..) (.mono (State.advance_within ..))) (.mono (State.advance_within ..)))

theorem monitorAnswer_within (s : State) (a0 : Int) (a1 : Nat) : Within [.app] s (monitorAnswer s a0 a1) :=
  State.setApp_within ..

theorem execMonVersion_yields (t : Nat) (s : State) : Yields (timed [.app]) s (execMonVersion t s) :=
  .next (.ite (.after (monitorAnswer_within ..) (.mono (State.advance_within ..))) (.mono (State.advance_within ..)))

theorem execMonTime_yields (t : Nat) (s : State) : Yields (timed [.app]) s (execMonTime t s) :=
  .next (.ite (.after (monitorAnswer_within ..) (.mono (State.advance_within ..))) (.mono (State.advance_within ..)))

theorem execMonTimer_yields (t us : Nat) (s : State) : Yields (timed [.app]) s (execMonTimer t us s) :=
  .next (.ite (.after (State.setApp_within ..) (.after (monitorAnswer_within ..) (.mono (State.advance_within ..))))
    (.mono (State.advance_within ..)))

theorem execWdogSet_yields (t ms : Nat) (s : State) : Yields (timed [.app]) s (execWdogSet t ms s) :=
  .next (.ite (.ite (.after (State.setApp_within ..) (.after (monitorAnswer_within ..) (.mono (State.advance_within ..))))
    (.after (monitorAnswer_within ..) (.mono (State.advance_within ..)))) (.mono (State.advance_within ..)))

theorem execWdogFeed_yields (t : Nat) (s : State) : Yields (timed [.app]) s (execWdogFeed t s) :=
  .next (.ite (.after (State.setApp_within ..) (.after (monitorAnswer_within ..) (.mono (State.advance_within ..))))
    (.mono (State.advance_within ..)))

theorem execMonRestart_yields (t : Nat) (s : State) : Yields (timed [.hpr, .net, .app, .icu, .plg]) s (execMonRestart t s) :=
  .next (.ite (.after (appRestart_within ..) (.mono (State.advance_within ..))) (.mono (State.advance_within ..)))

theorem execMonitorTimerFire_yields (t : Nat) (s : State) : Yields (timed [.app, .icu]) s (execMonitorTimerFire t s) := by
  delta execMonitorTimerFire
  extract_lets +onlyGivenNames _
  exact .advance (t := t) (.next (.option .refl fun _ => .ite (.after (icuPrivate_within ..) (.mono (State.setApp_within ..)))
    .refl))

theorem execWatchdogWarning_yields (t : Nat) (s : State) : Yields (timed [.app, .icu]) s (execWatchdogWarning t s) :=
  .next (.ite (.after (icuPrivate_within ..) (.after (State.setApp_within ..) (.mono (State.advance_within ..))))
    (.mono (State.advance_within ..)))

theorem execWatchdogExpiry_yields (t : Nat) (s : State) :
    Yields (timed [.hpr, .net, .app, .icu, .plg]) s (execWatchdogExpiry t s) :=
  .next (.ite (.after (appRestart_within ..) (.mono (State.advance_within ..))) (.mono (State.advance_within ..)))

theorem execAccessFault_yields (t addr size : Nat) (write : Bool) (s : State) :
    Yields (timed [.app]) s (execAccessFault t addr size write s) :=
  .next (.ite (.after (State.setApp_within ..) (.mono (State.advance_within ..))) (.mono (State.advance_within ..)))

theorem execAppMemoryError_yields (t : Nat) (dram correctable : Bool) (s : State) :
    Yields (timed [.hpr, .net, .app, .icu, .plg]) s (execAppMemoryError t dram correctable s) :=
  .next (.ite (.after (State.setApp_within ..) (.mono (State.advance_within ..)))
    (.ite (.after (appRestart_within ..) (.after (groupRecord_within ..) (.mono (State.advance_within ..))))
    (.after (groupRecord_within ..) (.mono (State.advance_within ..)))))

/-! ## Detected errors, self-tests and retirement (18_faults_peat_log.md R493 to R502) -/

theorem unsuspend_within (s : State) (u : Nat) : Within [.flt] s (unsuspend s u) :=
  State.setFlt_within ..

theorem testUnit_within (s : State) (u : Nat) (restoring : Bool) : Within [.flt] s (testUnit s u restoring) :=
  State.setFlt_within _ _ fun _ hx => by split <;> exact hx

theorem restoreEffect_within (s : State) (u : Nat) : Within [.hviStr, .rings, .th, .phase, .rack] s (restoreEffect s u) := by
  delta restoreEffect restoreEffect.match_1
  refine .lit ?_ fun _ => .lit ?_ fun _ => .lit (.mono (State.modPhase_within ..)) fun _ => .lit (.mono (State.modTi_within ..))
    fun _ => .lit (.mono (State.modEf_within ..)) fun _ => .refl
  · beta_reduce
    extract_lets +onlyGivenNames _
    exact .mono (State.modHvi_within ..)
  · beta_reduce
    extract_lets +onlyGivenNames _
    exact .mono (State.modRing_within ..)

/-- From the state without the unit among the retired ones on, it retires units only. -/
theorem restoreUnit_within (s : State) (u port : Nat) :
    Within [.unit, .str, .pwr, .hvi, .hviStr, .rings, .th, .bal, .conv, .phase, .saf, .red, .rack, .hpr, .app, .icu, .flt, .plg,
      .mem]
      (s.setFlt fun f => { f with
        retired := f.retired.filter (fun e => e.1 ≠ u), transients := f.transients.filter fun e => e.1 ≠ u })
      (restoreUnit s u port) := by
  delta restoreUnit
  exact .ite (.after (retier_within ..) (.after (record_within ..) (.mono (restoreEffect_within ..))))
    (.mono (restoreEffect_within ..))

theorem restoreUnit_changes (s : State) (u port : Nat) :
    Changes [.unit, .str, .pwr, .hvi, .hviStr, .rings, .th, .bal, .conv, .phase, .saf, .red, .rack, .hpr, .app, .icu, .flt, .plg,
      .mem]
      s (restoreUnit s u port) :=
  .trans (u := s.setFlt _) ⟨rfl, ⟨id, id, id⟩⟩ (restoreUnit_within s u port).toChanges

theorem restoreUnit_retired {s : State} {u x : Nat} (hx : s.retired x = true) (hne : x ≠ u) (port : Nat) :
    (restoreUnit s u port).retired x = true := by
  refine (restoreUnit_within s u port).retired x ?_
  obtain ⟨e, he, hex⟩ := List.any_eq_true.mp hx
  have hex : e.1 = x := by simpa using hex
  exact List.any_eq_true.mpr ⟨e, List.mem_filter.mpr ⟨he, by simpa [hex] using hne⟩, by simpa using hex⟩

theorem restoreDone_within (s : State) (r : Restore) :
    Within [.str, .pwr, .rings, .bal, .conv, .phase, .saf, .red, .hpr, .icu, .flt, .plg, .mem] s (restoreDone s r) := by
  delta restoreDone
  extract_lets +onlyGivenNames s1
  refine .then (u := s1) (.option (.mono (completeExec_within ..)) fun _ => .ite ?_
    (.after (completeExec_within ..) (.mono (State.modStr_within ..)))) (.mono (State.setFlt_within ..))
  extract_lets +onlyGivenNames s2
  refine .then (u := s2) (.ite (.mono (completeExec_within ..)) ?_) (.mono (State.modStr_within ..))
  extract_lets +onlyGivenNames s3
  refine .then (u := s3) (.ite (.mono (completeExec_within ..)) ?_) (.mono (retierStr_within ..))
  extract_lets +onlyGivenNames s4
  exact .then (u := s4) (.after (commitExec_within ..) (.mono (setStr_within ..))) (.mono (State.setFlt_within ..))

theorem restoreNote_within (s : State) (u : Nat) (pass : Bool) :
    Within [.str, .pwr, .rings, .bal, .conv, .phase, .saf, .red, .hpr, .icu, .flt, .plg, .mem] s (restoreNote s u pass) :=
  .foldl (.mono (State.setFlt_within ..)) fun s x => restoreDone_within ..

/-- The parts that the outcome of a test may change. -/
abbrev testParts : List Piece := [.unit, .str, .pwr, .hvi, .hviStr, .rings, .cee, .th, .bal, .conv, .phase, .saf, .red, .rack,
  .hpr,
  .app, .icu, .flt, .plg, .mem]

/-- A test outcome only retires units, unless it passes under a restoring command: then it restores its own unit on the way. -/
theorem selfTest_cases (s : State) (u outcome : Nat) :
    Within testParts s (selfTest s u outcome) ∨
      (outcome = 0 ∧ ∃ e ∈ s.flt.susp, e.unit = u ∧ e.testing = true ∧ e.restoring = true) ∧
        ∃ v port, Within testParts s v ∧ Within testParts (restoreUnit v u port) (selfTest s u outcome) := by
  delta selfTest
  split
  · exact .inl .refl
  next e he =>
    extract_lets pass restoring wasRetired s1 n s2 s3 port s4 s5
    have start : Within testParts s s3 :=
      .after (record_within ..) (.after (State.setRed_within ..) (.ite (.mono (State.setFlt_within ..)) .refl))
    by_cases hr : restoring = true
    · rw [if_pos hr]
      have free : Within testParts s s4 := .then (.mono (unsuspend_within ..)) start
      by_cases hp : pass = true
      · have hmem := List.mem_of_find?_eq_some he
        obtain ⟨hu, ht⟩ : e.unit = u ∧ e.testing = true := by simpa using List.find?_some he
        have hs5 : s5 = restoreUnit s4 u port := if_pos hp
        exact .inr ⟨⟨by simpa [pass] using hp, e, hmem, hu, ht, hr⟩, s4, port, free, hs5 ▸ .mono (restoreNote_within ..)⟩
      · have hs5 : s5 = if wasRetired then s4 else detected s4 u 497 0 := if_neg hp
        exact .inl (.after (restoreNote_within ..) (hs5 ▸ .then (.ite .refl (.mono (detected_within ..))) free))
    · rw [if_neg hr]
      exact .inl (.then (.ite (.mono (unsuspend_within ..)) (.ite (.after (unsuspend_within ..) (retireUnit_within ..))
        (.ite (.after (unsuspend_within ..) (retireUnit_within ..)) (.mono (unsuspend_within ..))))) start)

theorem selfTest_changes (s : State) (u outcome : Nat) : Changes testParts s (selfTest s u outcome) := by
  obtain h | ⟨-, v, port, h, k⟩ := selfTest_cases s u outcome
  · exact h.toChanges
  · exact h.toChanges.trans (.trans (restoreUnit_changes v u port).mono k.toChanges)

/-- A unit that is retired stays so after the outcome of a test, unless it is that unit that passes under a restoring command
(18_faults_peat_log.md R497). -/
theorem selfTest_retired {s : State} {u outcome x : Nat} (hx : s.retired x = true) :
    (selfTest s u outcome).retired x = true ∨
      x = u ∧ outcome = 0 ∧ ∃ e ∈ s.flt.susp, e.unit = u ∧ e.testing = true ∧ e.restoring = true := by
  obtain h | ⟨hpass, v, port, h, k⟩ := selfTest_cases s u outcome
  · exact .inl (h.retired x hx)
  · by_cases hne : x = u
    · exact .inr ⟨hne, hpass⟩
    · exact .inl (k.retired x (restoreUnit_retired (h.retired x hx) hne port))

theorem execDetectedError_yields (t unit rule detail : Nat) (s : State) :
    Yields (timed [.hviStr, .icu, .flt, .plg]) s (execDetectedError t unit rule detail s) :=
  .next (.after (detected_within ..) (.ite (.after (State.modHvi_within ..) (.mono (State.advance_within ..)))
    (.mono (State.advance_within ..))))

theorem startRestore_within (s : State) (op : Nat) (q : Req) (units : List Nat) (string : Option Nat) :
    Within [.str, .pwr, .rings, .bal, .conv, .phase, .saf, .red, .hpr, .icu, .flt, .plg, .mem] s
    (startRestore s op q units string) := by
  delta startRestore
  extract_lets +onlyGivenNames _ s1 s2 _ s3 s4
  exact .then (u := s4) (.ite (restoreDone_within ..) .refl) (.then (u := s3) (.foldl .refl fun s x => .mono (testUnit_within ..))
    (.then (u := s2) (.mono (State.setFlt_within ..)) (.then (u := s1) (.option .refl fun _ => .mono (State.modStr_within ..))
    (.mono (keepExec_within ..)))))

theorem loseSup_within (s : State) :
    Within [.unit, .str, .pwr, .hvi, .rings, .bal, .conv, .phase, .saf, .red, .hpr, .app, .icu, .flt, .plg, .mem] s (loseSup s) :=
  .after (retier_within ..) (.mono (State.setPwr_within ..))

theorem bankInvalid_within (s : State) (part bank : Nat) : Within [.icu, .plg, .upd] s (bankInvalid s part bank) := by
  delta bankInvalid
  extract_lets +onlyGivenNames _ s1
  exact .then (u := s1) (.mono (groupRecord_within ..)) (.mono (State.setUpd_within ..))

theorem execMemoryError_yields (t : Nat) (mem : Memory) (word : Nat) (uncorrectable : Bool) (s : State) :
    Yields (allBut [.hviStr, .cee, .tpe, .th, .dsp, .gx2, .le, .rack, .seq, .canRam, .free]) s
    (execMemoryError t mem word uncorrectable s) := by
  delta execMemoryError
  extract_lets +onlyGivenNames _
  refine .advance (t := t) (.next (.ite ?_ ?_))
  · extract_lets +onlyGivenNames _ _ s2 s3 s4
    exact .then (u := s4) (.ite (.mono (groupRecord_within ..)) .refl)
      (.then (u := s3) (.alts3 (fun _ => .mono (State.setApp_within ..)) (fun _ => .mono (State.setApp_within ..)) fun _ => .refl)
      (.then (u := s2) (.mono (State.setFlt_within ..)) (.mono (State.setFlt_within ..))))
  · split
    · exact .mono (loseSup_within ..)
    · exact .mono (detected_within ..)
    · exact .mono (detected_within ..)
    · exact .mono (detected_within ..)
    · extract_lets +onlyGivenNames s2
      exact .then (u := s2) (.ite (.mono (appRestart_within ..)) .refl) (.mono (groupRecord_within ..))
    · extract_lets +onlyGivenNames s2
      exact .then (u := s2) (.ite (.mono (appRestart_within ..)) .refl) (.mono (groupRecord_within ..))
    · exact .mono (detected_within ..)
    · exact .mono (bankInvalid_within ..)

theorem execScrubPass_yields (t : Nat) (a : Background) (s : State) :
    Yields (timed [.icu, .flt, .plg]) s (execScrubPass t a s) := by
  delta execScrubPass
  extract_lets +onlyGivenNames _
  refine .advance (t := t) ?_
  split
  · refine .next (.ite .refl ?_)
    extract_lets +onlyGivenNames _ s2
    refine .then (u := s2) (.alts3 (fun _ => ?_) (fun _ => .refl) fun _ => .ite (.mono (groupRecord_within ..)) .refl)
      (.mono (State.setFlt_within ..))
    extract_lets +onlyGivenNames _ s3
    exact .then (u := s3) (.ite (.mono (groupRecord_within ..)) .refl) (.mono (State.setFlt_within ..))

/-! ## The charge ledger (07_balancing_dispatch.md R198 to R203) -/

theorem bookShuttle_within (s : State) (i m ch : Nat) (dq : Int) (d : RoundData) :
    Within [.cee, .bal] s (bookShuttle s i m ch dq d) := by
  delta bookShuttle
  exact .after (State.modCell_within ..) (.mono (State.modBal_within ..))

theorem bookBleed_within (s : State) (i m q : Nat) (chs : List Nat) (d : RoundData) :
    Within [.cee, .bal] s (bookBleed s i m q chs d) :=
  .foldl (.mono (State.modBal_within ..)) fun s x => .mono (State.modCell_within ..)

theorem bookUnattributedShuttle_within (s : State) (i m : Nat) (dq : Int) :
    Within [.bal, .icu, .flt, .plg] s (bookUnattributedShuttle s i m dq) :=
  .after (detected_within ..) (.mono (State.modBal_within ..))

theorem bookUnattributedBleed_within (s : State) (i m q : Nat) :
    Within [.bal, .icu, .flt, .plg] s (bookUnattributedBleed s i m q) := by
  delta bookUnattributedBleed
  extract_lets +onlyGivenNames s1
  exact .then (u := s1) (.mono (detected_within ..)) (.mono (State.modBal_within ..))

theorem bookIncrements_within (s : State) (i m : Nat) (prev now : RoundData) (qs : Int) (qb : Nat) :
    Within [.cee, .bal, .icu, .flt, .plg] s (bookIncrements s i m prev now qs qb) := by
  delta bookIncrements
  extract_lets +onlyGivenNames s1
  exact .then (u := s1) (.ite .refl (.alts (fun _ => .mono (bookUnattributedBleed_within ..)) fun _ => .mono
    (bookBleed_within ..)))
    (.ite .refl (.optionSwap (fun _ => .mono (bookShuttle_within ..)) (.mono (bookUnattributedShuttle_within ..))))

theorem bookEstimate_within (s : State) (i m : Nat) (prev now : RoundData) (cmd : Int) (dt : Nat) :
    Within [.cee, .bal, .icu, .plg] s (bookEstimate s i m prev now cmd dt) :=
  .after (groupRecord_within ..) (.after (State.modBal_within ..) (.foldl (.ite .refl (.mono (bookShuttle_within ..))) fun s x =>
    .mono (bookBleed_within ..)))

theorem bookReading_within (s : State) (i m : Nat) (prev : Option RoundData) (now : RoundData) (cmd : Int) (dt : Nat) :
    Within [.cee, .bal, .icu, .flt, .plg] s (bookReading s i m prev now cmd dt) := by
  delta bookReading
  split
  · exact .refl
  · exact .ite (.after (State.modBal_within ..) (.ite (.after (bookEstimate_within ..) (bookIncrements_within ..))
      (bookIncrements_within ..)))
      (.after (groupRecord_within ..)
      (.after (State.modBal_within ..)
      (.after (State.modBal_within ..) (.ite (.after (bookEstimate_within ..) (bookIncrements_within ..))
      (bookIncrements_within ..)))))

/-! ## The argument forms (15_host_interface.md R452) -/

theorem getI_yields (op : Nat) (v pop all : Bool) (n : State → Nat) (resp : State → Nat → Bytes) (q : Req) (s : State) :
    Yields (answered []) s (getI op v pop all n resp q s) := by
  delta getI
  extract_lets +onlyGivenNames _
  exact command_yields fun s => .mono (respond_within ..)

theorem getNone_yields (op : Nat) (v : Bool) (resp : State → Bytes) (q : Req) (s : State) :
    Yields (answered []) s (getNone op v resp q s) :=
  command_yields fun s => .mono (ok_within ..)

theorem getW_yields (op : Nat) (v : Bool) (resp : State → Bytes) (q : Req) (s : State) :
    Yields (answered []) s (getW op v resp q s) :=
  command_yields fun s => .mono (respondBuf_within ..)

theorem getC_yields (op : Nat) (v cells : Bool) (n : State → Nat) (resp : State → Nat → Bytes) (q : Req) (s : State) :
    Yields (answered []) s (getC op v cells n resp q s) := by
  delta getC
  exact command_yields fun s => .mono (respondBuf_within ..)

theorem mapM_yields (op off size : Nat) (q : Req) (s : State) : Yields (answered []) s (mapM op off size q s) := by
  delta mapM
  extract_lets +onlyGivenNames _
  refine command_yields fun s => .optionSwap (fun _ => .mono (ok_within ..)) ?_
  extract_lets +onlyGivenNames _ s1
  exact .then (u := s1) (.mono (ok_within ..)) (.mono (State.modDesc_within ..))

theorem setR_yields {l : List Piece} {op size : Nat} {fs : List Field} {pop chk : State → Bytes → Option Nat}
    {store : State → Bytes → State} {q : Req} {s : State} (h : ∀ s p, Within l s (store s p))
    (e : among (answered [.red]) l = true := by exact Eq.refl true) : Yields l s (setR op size fs pop chk store q s) :=
  command_yields (fun s => .then (.mono (.mono (commit_within ..) (m := answered [.red])) e) (h s _)) (among_trans rfl e)

/-! ## The ends of an activation (19_update.md R513, R521 to R527) -/

theorem State.modXfer_within (s : State) (t : Nat) (f : Xfer → Xfer) : Within [.upd] s (State.modXfer s t f) :=
  State.setUpd_within ..

theorem State.modPart_within (s : State) (p : Nat) (f : Part → Part) : Within [.upd] s (State.modPart s p f) :=
  State.setUpd_within ..

theorem startTrial_within (s : State) (a : Activation) : Within [.upd] s (startTrial s a) := by
  delta startTrial
  exact State.modPart_within ..

theorem fellBack_within (s : State) (p : Nat) : Within [.icu, .plg, .upd] s (fellBack s p) :=
  .after (groupRecord_within ..) (.after (State.modXfer_within ..) (.mono (State.modPart_within ..)))

theorem actDone_within (s : State) (status detail : Nat) : Within [.hpr, .icu, .upd, .mem] s (actDone s status detail) := by
  delta actDone
  refine .option .refl fun _ => ?_
  extract_lets +onlyGivenNames s1
  exact .then (u := s1) (.option .refl fun _ => .mono (completeExec_within ..)) (.mono (State.setUpd_within ..))

theorem actFailed_within (s : State) (detail : Nat) : Within [.hpr, .icu, .upd, .mem] s (actFailed s detail) :=
  .option .refl fun _ => .after (actDone_within ..) (.mono (State.modXfer_within ..))

theorem spResumed_within (s : State) : Within [.saf, .hpr, .icu, .plg, .upd, .mem] s (spResumed s) := by
  delta spResumed
  refine .option .refl fun _ => ?_
  extract_lets +onlyGivenNames _
  refine .ite .refl ?_
  extract_lets +onlyGivenNames s1 s2
  exact .then (u := s2) (.after (actDone_within ..) (.ite (.mono (fellBack_within ..)) (.mono (startTrial_within ..))))
    (.then (u := s1) (.mono (State.modChan_within ..)) (.mono (State.modChan_within ..)))

theorem storeImage_within (s : State) (x : Xfer) (n : Nat) : Within [.upd] s (storeImage s x n) :=
  State.setUpd_within ..

theorem distributed_within (s : State) (a : Activation) : Within [.hpr, .icu, .upd, .mem] s (distributed s a) :=
  .after (actDone_within ..) (.after (State.modXfer_within ..) (.mono (storeImage_within ..)))

theorem fwReturned_within (s : State) (i m : Nat) : Within [.rings, .hpr, .icu, .upd, .mem] s (fwReturned s i m) := by
  delta fwReturned
  extract_lets +onlyGivenNames _
  refine .ite .refl ?_
  extract_lets +onlyGivenNames s1
  refine .then (u := s1) (.option .refl fun _ => .ite .refl (.ite (.mono (actFailed_within ..)) ?_))
    (.mono (State.modMon_within ..))
  extract_lets +onlyGivenNames s2
  exact .then (u := s2) (.ite .refl (.mono (distributed_within ..))) (.mono (State.setUpd_within ..))

/-! ## The safety channels (10_safety.md R281 to R318) -/

theorem latchString_within (s : State) (i cause : Nat) :
    Within [.str, .pwr, .rings, .bal, .conv, .phase, .saf, .hpr, .icu, .plg, .mem] s (latchString s i cause) :=
  .ite (.after (haltStr_within ..) (.mono (exitFloat_within ..))) .refl

theorem trip_within (s : State) (c : Channel) (i : Nat) (f : SafetyFn) :
    Within [.str, .pwr, .rings, .bal, .conv, .phase, .saf, .hpr, .icu, .plg, .mem] s (trip s c i f) := by
  delta trip
  extract_lets +onlyGivenNames _
  refine .ite .refl ?_
  extract_lets +onlyGivenNames s1
  exact .then (u := s1) (.after (latchString_within ..) (.mono (record_within ..))) (.mono (State.modChanStr_within ..))

theorem execTrip_yields (t : Nat) (ch : Channel) (i : Nat) (sf : SafetyFn) (s : State) :
    Yields (timedAnswer [.str, .rings, .bal, .conv, .phase, .saf]) s (execTrip t ch i sf s) := by
  delta execTrip
  extract_lets +onlyGivenNames _
  exact .advance (t := t) (.next (.ite (.mono (trip_within ..)) .refl))

theorem tripBoth_within (s : State) (i : Nat) (f : SafetyFn) :
    Within [.str, .pwr, .rings, .bal, .conv, .phase, .saf, .hpr, .icu, .plg, .mem] s (tripBoth s i f) :=
  .after (trip_within ..) (trip_within ..)

theorem requestClose_within (s : State) (i : Nat) (coils : BitVec 4) : Within [.saf] s (requestClose s i coils) :=
  .after (State.modChanStr_within ..) (.after (State.modChanStr_within ..) (State.modCont_within ..))

theorem grantClose_within (s : State) (i : Nat) (coils : BitVec 4) (c : Channel) : Within [.saf] s (grantClose s i coils c) :=
  .ite (State.modChanStr_within ..) .refl

theorem execCloseRequest_yields (t i : Nat) (s : State) : Yields (timed [.conv, .saf]) s (execCloseRequest t i s) := by
  delta execCloseRequest
  extract_lets +onlyGivenNames _
  refine .advance (t := t) (.next ?_)
  split
  · exact .refl
  · extract_lets +onlyGivenNames s2
    refine .then (u := s2) (.ite ?_ .refl) (.after (grantClose_within ..) (.mono (grantClose_within ..)))
    extract_lets +onlyGivenNames s3
    exact .then (u := s3) (.ite (.mono (State.modConv_within ..)) .refl) (.mono (State.modCont_within ..))

theorem prechargeFail_within (s : State) (i detail : Nat) :
    Within [.str, .pwr, .conv, .saf, .hpr, .icu, .plg, .mem] s (prechargeFail s i detail) :=
  .after (endTrans_within ..) (.after (setStr_within ..) (.after (openCoils_within ..) (.mono (endPrecharge_within ..))))

theorem execCloseRequestTimeout_yields (t i : Nat) (s : State) :
    Yields (timedAnswer [.str, .rings, .bal, .conv, .phase, .saf]) s (execCloseRequestTimeout t i s) := by
  delta execCloseRequestTimeout
  extract_lets +onlyGivenNames _
  refine .advance (t := t) (.next ?_)
  split
  · exact .refl
  · refine .ite .refl (.ite ?_ (.ite (.mono (prechargeFail_within ..)) (.mono (State.modCont_within ..))))
    extract_lets +onlyGivenNames _
    exact .after (haltStr_within ..)
      (.after (State.modChanStr_within ..) (.after (State.modChanStr_within ..) (.mono (openCoils_within ..))))

theorem adoptString_within (s : State) (i : Nat) :
    Within [.str, .pwr, .rings, .bal, .conv, .phase, .saf, .hpr, .icu, .plg, .mem] s (adoptString s i) :=
  .alts3 (fun _ => .ite (.after (grantClose_within ..) (.mono (grantClose_within ..))) (haltStr_within ..))
    (fun _ => .ite (.after (grantClose_within ..) (.mono (grantClose_within ..))) (haltStr_within ..)) fun _ => .refl

theorem bkrAssert_within (s : State) (c : Channel) : Within [.saf] s (bkrAssert s c) :=
  .ite (State.setSaf_within ..) .refl

theorem bkrBoth_within (s : State) : Within [.saf] s (bkrBoth s) :=
  .after (bkrAssert_within ..) (bkrAssert_within ..)

theorem weldPulseStep_within (s : State) (i : Nat) : Within [.saf] s (weldPulseStep s i) :=
  .ite (.after (bkrBoth_within ..) (State.modCont_within ..)) .refl

theorem weldFound_within (s : State) (i k : Nat) :
    Within [.str, .pwr, .rings, .bal, .conv, .phase, .saf, .hpr, .icu, .plg, .mem] s (weldFound s i k) :=
  .ite .refl (.ite (.after (bkrBoth_within ..)
    (.after (openCoils_within ..)
    (.after (latchString_within ..)
    (.after (State.modChanStr_within ..)
    (.after (State.modChanStr_within ..) (.after (record_within ..) (.mono (State.modCont_within ..))))))))
    (.after (State.modChanStr_within ..)
    (.after (State.modChanStr_within ..)
    (.after (openCoils_within ..)
    (.after (latchString_within ..)
    (.after (State.modChanStr_within ..)
    (.after (State.modChanStr_within ..) (.after (record_within ..) (.mono (State.modCont_within ..))))))))))

theorem execWeld_yields (t i coil : Nat) (s : State) :
    Yields (timedAnswer [.str, .rings, .bal, .conv, .phase, .saf]) s (execWeld t i coil s) :=
  .next (.ite (.after (weldPulseStep_within ..) (.after (weldFound_within ..) (.mono (State.advance_within ..))))
    (.after (weldPulseStep_within ..) (.mono (State.advance_within ..))))

theorem execBkrTripEnd_yields (t : Nat) (s : State) : Yields (timed [.saf]) s (execBkrTripEnd t s) :=
  .next (.ite (.after (State.setSaf_within ..) (.mono (State.advance_within ..))) (.mono (State.advance_within ..)))

theorem judgeCoil_within (i : Nat) (cmd mir was fresh : Bool) (since k : Nat) (s : State) (c : Channel) :
    Within [.str, .pwr, .rings, .bal, .conv, .phase, .saf, .hpr, .icu, .plg, .mem] s
    (judgeCoil i cmd mir was fresh since k s c) :=
  .ite .refl (.ite (trip_within ..) (.ite (weldFound_within ..) .refl))

theorem prechargeMirrors_within (s : State) (i : Nat) : Within [.conv, .saf] s (prechargeMirrors s i) :=
  .ite (.after (State.modConv_within ..)
    (.ite (.after (State.modChanStr_within ..)
    (.after (State.modChanStr_within ..) (.ite (.mono (State.modConv_within ..)) .refl)))
    (.ite (.mono (State.modConv_within ..)) .refl)))
    (.ite (.after (State.modChanStr_within ..)
    (.after (State.modChanStr_within ..) (.ite (.mono (State.modConv_within ..)) .refl)))
    (.ite (.mono (State.modConv_within ..)) .refl))

theorem openedStep_within (s : State) (i : Nat) : Within [.str, .conv, .red, .hpr, .icu, .plg, .mem] s (openedStep s i) :=
  .ite (.after (endTransOk_within ..) (.after (setStr_within ..) (.mono (State.modConv_within ..)))) .refl

theorem cdbOne_within (s : State) (i : Nat) (mir : BitVec 4) :
    Within [.str, .pwr, .rings, .bal, .conv, .phase, .saf, .red, .hpr, .icu, .plg, .mem] s (cdbOne s i mir) :=
  .ite (.after (openedStep_within ..) (.mono (State.modCont_within ..)))
    (.after (openedStep_within ..)
    (.after (weldPulseStep_within ..) (.after (prechargeMirrors_within ..) (.foldl (.mono (State.modCont_within ..)) fun s x =>
    .after (judgeCoil_within ..) (.mono (judgeCoil_within ..))))))

theorem execCdbCycle_yields (t bus : Nat) (mirrors : List (BitVec 4)) (crcOk : Bool) (s : State) :
    Yields (timedAnswer [.str, .rings, .bal, .conv, .phase, .saf, .red, .flt]) s (execCdbCycle t bus mirrors crcOk s) := by
  delta execCdbCycle
  extract_lets +onlyGivenNames _
  refine .advance (t := t) (.next (.foldl .refl fun s x => ?_))
  extract_lets +onlyGivenNames _
  refine .ite .refl ?_
  split
  · exact .mono (cdbOne_within ..)
  · extract_lets +onlyGivenNames _ s2
    exact .then (u := s2) (.ite (.mono (detected_within ..)) .refl) (.mono (State.modCont_within ..))

theorem execOpenSecondPole_yields (t i : Nat) (s : State) : Yields (timed [.saf]) s (execOpenSecondPole t i s) :=
  .next (.ite (.after (State.modChanStr_within ..)
    (.after (State.modChanStr_within ..) (.after (State.modCont_within ..) (.mono (State.advance_within ..)))))
    (.mono (State.advance_within ..)))

theorem execCrossLinkPublish_yields (t : Nat) (s : State) :
    Yields (timed [.saf, .hpr, .icu, .plg, .upd, .mem]) s (execCrossLinkPublish t s) :=
  .next (.ite (.after (spResumed_within ..) (.mono (State.advance_within ..)))
    (.foldl (.after (spResumed_within ..) (.mono (State.advance_within ..))) fun s x => .foldl (.mono (State.modChan_within ..))
    fun s x => .mono (State.modChanStr_within ..)))

theorem execDiscrepancy_yields (t i : Nat) (sf : SafetyFn) (s : State) :
    Yields (timedAnswer [.str, .rings, .bal, .conv, .phase, .saf, .flt]) s (execDiscrepancy t i sf s) :=
  .next (.ite (.mono (State.advance_within ..))
    (.ite (.after (detected_within ..)
    (.after (latchString_within ..)
    (.after (State.modChan_within ..)
    (.after (State.modChanStr_within ..) (.after (State.modChanStr_within ..) (.mono (State.advance_within ..)))))))
    (.ite (.after (detected_within ..)
    (.after (latchString_within ..)
    (.after (State.modChan_within ..)
    (.after (State.modChanStr_within ..) (.after (State.modChanStr_within ..) (.mono (State.advance_within ..)))))))
    (.mono (State.advance_within ..)))))

theorem execSilentPartner_yields (t : Nat) (s : State) :
    Yields (timedAnswer [.str, .rings, .bal, .conv, .phase, .saf]) s (execSilentPartner t s) :=
  .next (.ite (.foldl (.mono (State.advance_within ..)) fun s x => .after (haltStr_within ..) (.mono (exitFloat_within ..)))
    (.mono (State.advance_within ..)))

theorem releaseLatches_within (s : State) (i : Nat) : Within [.hviStr, .saf] s (releaseLatches s i) :=
  .after (State.modHvi_within ..)
    (.after (State.setSaf_within ..)
    (.after (State.modCont_within ..)
    (.after (State.modChan_within ..)
    (.after (State.modChan_within ..) (.after (State.modChanStr_within ..) (.mono (State.modChanStr_within ..)))))))

theorem isoJudge_within (rIso : Nat) (s : State) (c : Channel) :
    Within [.str, .pwr, .rings, .bal, .conv, .phase, .saf, .hpr, .icu, .plg, .mem] s (isoJudge rIso s c) := by
  delta isoJudge
  extract_lets +onlyGivenNames _
  refine .ite .refl ?_
  extract_lets +onlyGivenNames _ _ _ s1 s2
  exact .then (u := s2) (.ite
    (.ite (.foldl .refl fun s x => .ite .refl (.ite (trip_within ..) (.mono (State.modChanStr_within ..))))
    (.mono (State.modChan_within ..))) .refl) (.then (u := s1) (.ite (.mono (State.modChan_within ..)) .refl)
    (.mono (State.modChan_within ..)))

theorem isoToChannels_within (s : State) (rIso : Nat) :
    Within [.str, .pwr, .rings, .bal, .conv, .phase, .saf, .hpr, .icu, .plg, .mem] s (isoToChannels s rIso) :=
  .after (isoJudge_within ..) (isoJudge_within ..)

theorem ocJudge_within (i : Nat) (s : State) (c : Channel) :
    Within [.str, .pwr, .rings, .bal, .conv, .phase, .saf, .hpr, .icu, .plg, .mem] s (ocJudge i s c) := by
  delta ocJudge
  extract_lets +onlyGivenNames _
  refine .ite .refl ?_
  extract_lets +onlyGivenNames _ s1
  exact .then (u := s1) (.ite (trip_within ..) .refl) (.mono (State.modChanStr_within ..))

theorem inputFault_within (s : State) (c : Channel) (k : Nat) : Within [.saf, .icu, .plg] s (inputFault s c k) :=
  .ite (.mono (State.modChan_within ..)) (.after (groupRecord_within ..) (.mono (State.modChan_within ..)))

theorem judgeInput_within (s : State) (c : Channel) (k : Nat) (high : Bool) :
    Within [.saf, .icu, .plg] s (judgeInput s c k high) := by
  delta judgeInput
  dsimp only
  split
  · split
    · exact .ite (.after (State.modChan_within ..)
        (.ite (.after (inputFault_within ..) (.ite (.mono (State.modChan_within ..)) (.mono (State.modChan_within ..))))
        (.ite (.mono (State.modChan_within ..)) (.mono (State.modChan_within ..)))))
        (.ite (.after (inputFault_within ..) (.ite (.mono (State.modChan_within ..)) (.mono (State.modChan_within ..))))
        (.ite (.mono (State.modChan_within ..)) (.mono (State.modChan_within ..))))
    · exact .ite (.ite (.after (inputFault_within ..) (.ite (.mono (State.modChan_within ..)) (.mono (State.modChan_within ..))))
        (.ite (.mono (State.modChan_within ..)) (.mono (State.modChan_within ..))))
        (.ite (.ite (.after (inputFault_within ..) (.ite (.mono (State.modChan_within ..)) (.mono (State.modChan_within ..))))
        (.ite (.mono (State.modChan_within ..)) (.mono (State.modChan_within ..))))
        (.ite (.after (inputFault_within ..)
        (.ite (.after (inputFault_within ..) (.ite (.mono (State.modChan_within ..)) (.mono (State.modChan_within ..))))
        (.ite (.mono (State.modChan_within ..)) (.mono (State.modChan_within ..)))))
        (.after (State.modChan_within ..)
        (.ite (.after (inputFault_within ..) (.ite (.mono (State.modChan_within ..)) (.mono (State.modChan_within ..))))
        (.ite (.mono (State.modChan_within ..)) (.mono (State.modChan_within ..)))))))
  · exact .mono (State.modChan_within ..)
  · exact .mono (State.modChan_within ..)

theorem judgePair_within (s : State) (c : Channel) (k : Nat) : Within [.saf] s (judgePair s c k) := by
  delta judgePair
  exact State.modChan_within ..

theorem execSafetyInputSample_yields (t : Nat) (ch : Channel) (levels : BitVec 16) (s : State) :
    Yields (timedAnswer [.str, .rings, .bal, .conv, .phase, .saf]) s (execSafetyInputSample t ch levels s) := by
  delta execSafetyInputSample
  extract_lets +onlyGivenNames _
  refine .advance (t := t) (.next (.ite .refl ?_))
  extract_lets +onlyGivenNames _ _ s2 s3
  exact .then (u := s3) (.foldl .refl fun s x => .ite (.foldl .refl fun s x => .ite (.mono (trip_within ..)) .refl) .refl)
    (.then (u := s2) (.foldl .refl fun s x => .mono (judgePair_within ..)) (.foldl .refl fun s x => .mono (judgeInput_within ..)))

theorem execTestPulse_yields (t n : Nat) (overload : Bool) (s : State) :
    Yields (timed [.saf, .icu, .plg]) s (execTestPulse t n overload s) :=
  .next (.ite (.mono (State.advance_within ..))
    (.ite (.after (State.setSaf_within ..)
    (.after (State.modChan_within ..) (.after (State.modChan_within ..) (.mono (State.advance_within ..)))))
    (.foldl (.after (State.setSaf_within ..)
    (.after (State.modChan_within ..) (.after (State.modChan_within ..) (.mono (State.advance_within ..))))) fun s x => .foldl
    .refl fun s x => .mono (inputFault_within ..))))

theorem execThrLoad_yields (t i m : Nat) (own : Bool) (thr : Thresholds) (s : State) :
    Yields (timed [.rings]) s (execThrLoad t i m own thr s) :=
  .next (.ite (.after (State.modMon_within ..) (.mono (State.advance_within ..))) (.mono (State.advance_within ..)))

theorem execThresholdReload_yields (t i : Nat) (s : State) : Yields (timed [.rings]) s (execThresholdReload t i s) := by
  delta execThresholdReload
  extract_lets +onlyGivenNames _
  refine .advance (t := t) (.next (.ite .refl ?_))
  extract_lets +onlyGivenNames _ s2
  exact .then (u := s2) (.option .refl fun _ => .mono (State.modRing_within ..)) (.mono (State.modRing_within ..))

theorem execLoadingWindowEnd_yields (t : Nat) (s : State) : Yields (timed [.saf]) s (execLoadingWindowEnd t s) := by
  delta execLoadingWindowEnd
  extract_lets +onlyGivenNames _
  refine .advance (t := t) (.next (.optionSwap (fun _ => .ite ?_ .refl) .refl))
  extract_lets +onlyGivenNames _
  exact .after (State.modChan_within ..) (.after (State.modChan_within ..) (.mono (State.setSaf_within ..)))

theorem stageSet_within (s : State) (b : Bytes) : Within [.saf] s (stageSet s b) := by
  delta stageSet
  exact .after (State.setSaf_within ..) (.after (State.modChan_within ..) (State.modChan_within ..))

theorem discardStaged_within (s : State) : Within [.saf] s (discardStaged s) := by
  delta discardStaged
  exact .after (State.modChan_within ..) (State.modChan_within ..)

theorem execSafStage_yields (q : Req) (s : State) : Yields (answered [.saf]) s (execSafStage q s) := by
  delta execSafStage
  exact command_yields fun s => .after (ok_within ..) (.mono (stageSet_within ..))

theorem execSafGetStaged_yields (q : Req) (s : State) : Yields (answered []) s (execSafGetStaged q s) :=
  .mono (getNone_yields ..)

theorem execSafCommit_yields (q : Req) (s : State) : Yields (answered [.saf]) s (execSafCommit q s) :=
  command_yields fun s => .after (ok_within ..)
    (.after (State.setSaf_within ..) (.after (State.modChan_within ..) (.mono (State.modChan_within ..))))

theorem execSafDiscard_yields (q : Req) (s : State) : Yields (answered [.saf]) s (execSafDiscard q s) :=
  command_yields fun s => .after (ok_within ..) (.ite .refl (.mono (discardStaged_within ..)))

theorem execSafGetSet_yields (q : Req) (s : State) : Yields (answered []) s (execSafGetSet q s) :=
  .mono (getW_yields ..)

theorem updateMismatch_within (s : State) : Within [.saf, .icu, .plg] s (updateMismatch s) :=
  .ite (.after (groupRecord_within ..) (.mono (State.setSaf_within ..))) (.mono (State.setSaf_within ..))

theorem commFresh_within (s : State) (c : Channel) (b : Bytes) (seqKept : Bool) : Within [.saf] s (commFresh s c b seqKept) :=
  State.modChan_within ..

theorem activateSet_within (s : State) (c : Channel) (b : Bytes) :
    Within [.pwr, .rings, .saf, .icu, .plg] s (activateSet s c b) :=
  .ite (.after (State.setSaf_within ..)
    (.after (record_within ..)
    (.ite (.after (State.modChan_within ..)
    (.ite (.mono (State.modChan_within ..)) (.after (commFresh_within ..) (.mono (State.modChan_within ..)))))
    (.after (deferWrite_within ..)
    (.ite (.mono (State.modChan_within ..)) (.after (commFresh_within ..) (.mono (State.modChan_within ..))))))))
    (.after (updateMismatch_within ..)
    (.after (State.setSaf_within ..)
    (.after (discardStaged_within ..)
    (.foldl (.after (State.setSaf_within ..)
    (.after (record_within ..)
    (.ite (.after (State.modChan_within ..)
    (.ite (.mono (State.modChan_within ..)) (.after (commFresh_within ..) (.mono (State.modChan_within ..)))))
    (.after (deferWrite_within ..)
    (.ite (.mono (State.modChan_within ..)) (.after (commFresh_within ..) (.mono (State.modChan_within ..)))))))) fun s x => .ite
    .refl (.mono (State.modRing_within ..))))))

theorem execSetActivation_yields (t : Nat) (ch : Channel) (s : State) :
    Yields (timed [.pwr, .rings, .saf, .icu, .plg]) s (execSetActivation t ch s) := by
  delta execSetActivation
  extract_lets +onlyGivenNames _
  exact .advance (t := t) (.next (.altsPair (fun _ _ => .ite (.mono (activateSet_within ..)) .refl) fun _ _ => .refl))

theorem execStagedSetDiscard_yields (t : Nat) (s : State) : Yields (timed [.saf]) s (execStagedSetDiscard t s) :=
  .next (.ite (.after (discardStaged_within ..) (.mono (State.advance_within ..))) (.mono (State.advance_within ..)))

theorem kzvPdu_within (s : State) (net : Nat) : Within [.saf] s (kzvPdu s net) := by
  delta kzvPdu
  extract_lets +onlyGivenNames _ _
  refine .ite ?_ ?_
  · extract_lets +onlyGivenNames _ _
    exact State.setSaf_within ..
  · extract_lets +onlyGivenNames _
    exact State.setSaf_within ..

theorem plantActs_within (s : State) (c : Channel) (p : Bytes) :
    Within [.str, .pwr, .rings, .bal, .conv, .phase, .saf, .hpr, .icu, .plg, .mem] s (plantActs s c p) :=
  .ite (.after (bkrAssert_within ..) (.foldl .refl fun s x => .ite (trip_within ..) (.mono (State.modChanStr_within ..))))
    (.foldl .refl fun s x => .ite (trip_within ..) (.mono (State.modChanStr_within ..)))

theorem acceptPdu_within (s : State) (c : Channel) (net seq : Nat) (p : Bytes) :
    Within [.str, .pwr, .rings, .bal, .conv, .phase, .saf, .hpr, .icu, .plg, .mem] s (acceptPdu s c net seq p) := by
  delta acceptPdu
  extract_lets +onlyGivenNames s1 s2
  exact .then (u := s2) (.ite (.mono (kzvPdu_within ..)) .refl)
    (.then (u := s1) (plantActs_within ..) (.mono (State.modChan_within ..)))

theorem pduLoss_within (s : State) (c : Channel) : Within [.saf] s (pduLoss s c) :=
  State.modChan_within ..

theorem pairedUp_within (s : State) (c : Channel) : Within [.saf] s (pairedUp s c) :=
  .ite .refl (.ite (State.modChan_within ..) (State.modChan_within ..))

theorem judgeSeq_within (s : State) (c : Channel) (net : Nat) (b : Bytes) :
    Within [.str, .pwr, .rings, .bal, .conv, .phase, .saf, .hpr, .icu, .plg, .mem] s (judgeSeq s c net b) :=
  .ite (acceptPdu_within ..) (.mono (pduLoss_within ..))

theorem acceptSingle_within (s : State) (c : Channel) (net : Nat) (b : Bytes) :
    Within [.str, .pwr, .rings, .bal, .conv, .phase, .saf, .hpr, .icu, .plg, .mem] s (acceptSingle s c net b) :=
  .after (judgeSeq_within ..) (.mono (State.modChan_within ..))

theorem secondCopy_within (s : State) (c : Channel) (net : Nat) (b : Bytes) : Within [.saf] s (secondCopy s c net b) := by
  delta secondCopy
  split
  · exact .refl
  · exact .ite (.after (pairedUp_within ..) (State.modChan_within ..)) .refl

theorem nativeCopy_within (s : State) (c : Channel) (net : Nat) (b : Bytes) :
    Within [.str, .pwr, .rings, .bal, .conv, .phase, .saf, .hpr, .icu, .plg, .mem] s (nativeCopy s c net b) := by
  delta nativeCopy
  dsimp only
  refine .ite (.after (secondCopy_within ..) (.mono (State.modChan_within ..))) ?_
  split
  · exact .ite (.after (pairedUp_within ..)
      (.after (judgeSeq_within ..) (.after (State.modChan_within ..) (.mono (State.modChan_within ..)))))
      (.ite (.after (acceptSingle_within ..)
      (.after (pduLoss_within ..) (.after (State.modChan_within ..) (.mono (State.modChan_within ..)))))
      (.after (pduLoss_within ..) (.after (State.modChan_within ..) (.mono (State.modChan_within ..)))))
  · exact .ite (.after (acceptSingle_within ..)
      (.after (State.modChan_within ..)
      (.ite (.mono (State.modChan_within ..)) (.after (pduLoss_within ..) (.mono (State.modChan_within ..))))))
      (.ite (.mono (State.modChan_within ..))
      (.after (State.modChan_within ..) (.after (pduLoss_within ..) (.mono (State.modChan_within ..)))))
  · exact .ite (.after (acceptSingle_within ..) (.mono (State.modChan_within ..)))
      (.after (State.modChan_within ..) (.mono (State.modChan_within ..)))

theorem readRx_within (s : State) (c : Channel) (net : Nat) (pdu : Bytes) : Within [.saf] s (readRx s c net pdu) := by
  delta readRx
  extract_lets +onlyGivenNames _
  exact .option .refl fun _ => State.setSaf_within ..

theorem execSafePduReceived_yields (t : Nat) (ch : Channel) (net : Nat) (pdu : List Byte) (s : State) :
    Yields (timedAnswer [.str, .rings, .bal, .conv, .phase, .saf]) s (execSafePduReceived t ch net pdu s) :=
  .next (.ite (.after (nativeCopy_within ..) (.ite (.after (readRx_within ..) (.mono (State.advance_within ..)))
    (.mono (State.advance_within ..)))) (.ite (.after (readRx_within ..) (.mono (State.advance_within ..)))
    (.mono (State.advance_within ..))))

theorem execBlackChannelPdu_yields (t : Nat) (ch : Channel) (net : Nat) (pdu : List Byte) (s : State) :
    Yields (timedAnswer [.str, .rings, .bal, .conv, .phase, .saf]) s (execBlackChannelPdu t ch net pdu s) :=
  .next (.ite (.after (acceptPdu_within ..) (.ite (.after (readRx_within ..) (.mono (State.advance_within ..)))
    (.mono (State.advance_within ..)))) (.ite (.after (readRx_within ..) (.mono (State.advance_within ..)))
    (.mono (State.advance_within ..))))

theorem execCommWindowExpiry_yields (t : Nat) (ch : Channel) (net : Nat) (s : State) :
    Yields (timed [.saf]) s (execCommWindowExpiry t ch net s) := by
  delta execCommWindowExpiry
  extract_lets +onlyGivenNames _ _
  exact .advance (t := t) (.next (.option .refl fun _ => .ite (.after (pduLoss_within ..) (.mono (State.modChan_within ..)))
    .refl))

theorem execCommWatchdogExpiry_yields (t : Nat) (ch : Channel) (s : State) :
    Yields (timedAnswer [.str, .rings, .bal, .conv, .phase, .saf]) s (execCommWatchdogExpiry t ch s) := by
  delta execCommWatchdogExpiry
  extract_lets +onlyGivenNames _
  refine .advance (t := t) (.next (.option .refl fun _ => .ite .refl ?_))
  extract_lets +onlyGivenNames s2
  exact .then (u := s2) (.ite (.foldl .refl fun s x => .ite (.mono (trip_within ..)) .refl) .refl)
    (.mono (State.modChan_within ..))

theorem execNetworkDown_yields (t : Nat) (ch : Channel) (net : Nat) (s : State) :
    Yields (timed [.saf, .icu, .plg]) s (execNetworkDown t ch net s) :=
  .next (.ite (.after (groupRecord_within ..) (.after (State.modChan_within ..) (.mono (State.advance_within ..))))
    (.mono (State.advance_within ..)))

theorem execDegradeExpiry_yields (t : Nat) (ch : Channel) (s : State) : Yields (timed [.saf]) s (execDegradeExpiry t ch s) :=
  .next (.ite (.after (State.modChan_within ..) (.mono (State.advance_within ..))) (.mono (State.advance_within ..)))

theorem execSafGetStatus_yields (q : Req) (s : State) : Yields (answered []) s (execSafGetStatus q s) :=
  .mono (getI_yields ..)

theorem execSafGetInputs_yields (q : Req) (s : State) : Yields (answered []) s (execSafGetInputs q s) :=
  .mono (getNone_yields ..)

/-! ## The redundant pair (11_redundancy.md R322 to R350) -/

theorem issueClaim_within (s : State) : Within [.pwr, .red] s (issueClaim s) :=
  .ite (.after (State.setRed_within ..) (.mono (State.setRed_within ..)))
    (.after (deferWrite_within ..) (.mono (State.setRed_within ..)))

theorem execClaimFrame_yields (t : Nat) (st : Stage) (own : Bool) (claim : Nat) (s : State) :
    Yields (timed [.gx2, .saf, .red]) s (execClaimFrame t st own claim s) := by
  delta execClaimFrame
  extract_lets +onlyGivenNames _
  refine .advance (t := t) (.next (.alts (fun _ => .ite (.after (State.setRed_within ..) (.mono (State.modGx2_within ..))) .refl)
    fun _ => ?_))
  extract_lets +onlyGivenNames _
  exact .ite (.after (State.setRed_within ..) (.mono (State.modCont_within ..))) .refl

theorem execCoilHoldExpiry_yields (t i : Nat) (s : State) : Yields (timed [.saf]) s (execCoilHoldExpiry t i s) :=
  .next (.ite (.after (State.modCont_within ..) (.mono (State.advance_within ..))) (.mono (State.advance_within ..)))

theorem sendBeat_within (s : State) (dormant : Bool) : Within [.red] s (sendBeat s dormant) :=
  State.setRed_within ..

theorem execHeartbeatSend_yields (t : Nat) (s : State) : Yields (timed [.red]) s (execHeartbeatSend t s) :=
  .next (.ite (.after (sendBeat_within ..) (.mono (State.advance_within ..)))
    (.after (State.setRed_within ..) (.mono (State.advance_within ..))))

theorem setRole_within (s : State) (u : UnitState) (cause : Nat) (takeover : Bool) :
    Within [.unit, .hvi, .hpr, .app, .icu, .plg] s (setRole s u cause takeover) :=
  .ite (setUnit_within ..) (.after (roleRecord_within ..) (setUnit_within ..))

theorem enterResync_within (s : State) (cause : Nat) :
    Within [.unit, .str, .hvi, .red, .hpr, .app, .icu, .plg, .mem] s (enterResync s cause) :=
  .after (setRole_within ..)
    (.after (peerSend_within ..) (.after (State.setRed_within ..) (.foldl .refl fun s x => .mono (abortTrans_within ..))))

theorem higherClaim_within (s : State) (claim : Nat) :
    Within [.unit, .str, .hvi, .red, .hpr, .app, .icu, .plg, .mem] s (higherClaim s claim) :=
  .ite (.after (enterResync_within ..) (.mono (State.setRed_within ..))) .refl

theorem execHigherClaimSeen_yields (t claim : Nat) (s : State) :
    Yields (timed [.unit, .str, .hvi, .red, .hpr, .app, .icu, .plg, .mem]) s (execHigherClaimSeen t claim s) :=
  .next (.after (higherClaim_within ..) (.mono (State.advance_within ..)))

theorem applyReplica_within (s : State) :
    Within [.str, .pwr, .rings, .bal, .dsp, .conv, .phase, .saf, .hpr, .icu, .plg, .mem] s (applyReplica s) := by
  delta applyReplica
  refine .option .refl fun _ => ?_
  extract_lets +onlyGivenNames s1 s2 s3
  refine .then (u := s3) (.foldl .refl fun s x => .mono (adoptString_within ..))
    (.then (u := s2) (.foldl .refl fun s x => .option .refl fun _ => .mono (State.modConv_within ..))
    (.then (u := s1) (.mono (State.setDsp_within ..)) (.foldl .refl fun s x => ?_)))
  split
  · exact .refl
  · exact .after (prechargeAbort_within ..) (.mono (setStr_within ..))
  · exact .mono (setStr_within ..)

theorem assumeDuties_within (held : Option IsoResult) (s : State) :
    Within [.hvi, .rings, .tpe, .bal] s (assumeDuties held s) := by
  delta assumeDuties
  extract_lets s1 inj
  exact .then (u := s1) (.of rfl rfl) (.mono (State.setTpe_within ..))

theorem takeover_within (s : State) :
    Within [.unit, .str, .pwr, .hvi, .rings, .tpe, .bal, .dsp, .conv, .phase, .saf, .red, .hpr, .app, .icu, .plg, .mem] s
    (takeover s) := by
  delta takeover
  exact .after (State.setRed_within ..)
    (.after (assumeDuties_within ..)
    (.after (applyReplica_within ..) (.after (setRole_within ..) (.mono (issueClaim_within ..)))))

theorem execTakeover_yields (t : Nat) (s : State) :
    Yields (allBut [.hviStr, .cee, .th, .gx2, .le, .rack, .seq, .net, .flt, .upd, .canRam, .free]) s (execTakeover t s) :=
  .next (.ite (.after (takeover_within ..) (.mono (State.advance_within ..))) (.mono (State.advance_within ..)))

theorem proveXcl_within (s : State) : Within [.red] s (proveXcl s) := by
  delta proveXcl
  refine .ite .refl ?_
  extract_lets +onlyGivenNames _ _
  exact State.setRed_within ..

theorem execBeatReceived_yields (t : Nat) (beat : List Byte) (s : State) :
    Yields (allBut [.hviStr, .cee, .th, .gx2, .le, .rack, .seq, .net, .flt, .upd, .canRam, .free]) s
    (execBeatReceived t beat s) :=
  .next (.ite (.mono (State.advance_within ..))
    (.ite (.after (groupRecord_within ..) (.after (State.setRed_within ..) (.mono (State.advance_within ..))))
    (.ite (.after (takeover_within ..)
    (.after (higherClaim_within ..)
    (.after (State.setRed_within ..) (.after (proveXcl_within ..) (.mono (State.advance_within ..))))))
    (.ite (.after (setRole_within ..)
    (.after (higherClaim_within ..)
    (.after (State.setRed_within ..) (.after (proveXcl_within ..) (.mono (State.advance_within ..))))))
    (.after (higherClaim_within ..)
    (.after (State.setRed_within ..) (.after (proveXcl_within ..) (.mono (State.advance_within ..)))))))))

theorem execYield_yields (t : Nat) (s : State) : Yields (timed [.red]) s (execYield t s) :=
  .next (.ite (.after (State.setRed_within ..) (.mono (State.advance_within ..))) (.mono (State.advance_within ..)))

theorem execHeartbeat_yields (t : Nat) (s : State) : Yields (timed [.red]) s (execHeartbeat t s) :=
  .next (.ite (.after (peerSend_within ..) (.mono (State.advance_within ..))) (.mono (State.advance_within ..)))

theorem execPeerBeatLoss_yields (t : Nat) (s : State) :
    Yields (allBut [.hviStr, .cee, .th, .gx2, .le, .rack, .seq, .net, .flt, .upd, .canRam, .free]) s (execPeerBeatLoss t s) :=
  .next (.ite (.after (takeover_within ..) (.mono (State.advance_within ..))) (.mono (State.advance_within ..)))

theorem releaseAcks_within (s : State) (upTo : Option Nat) : Within [.red, .hpr, .icu, .mem] s (releaseAcks s upTo) :=
  .foldl (.mono (State.setRed_within ..)) fun s x => .mono (completeExec_within ..)

theorem execPeerDown_yields (t : Nat) (s : State) :
    Yields (timed [.unit, .str, .hvi, .red, .hpr, .app, .icu, .plg, .mem]) s (execPeerDown t s) := by
  delta execPeerDown
  extract_lets +onlyGivenNames _
  refine .advance (t := t) (.next (.ite ?_ .refl))
  extract_lets +onlyGivenNames s2
  exact .then (u := s2) (.ite (.mono (enterResync_within ..)) .refl)
    (.after (releaseAcks_within ..) (.mono (State.setRed_within ..)))

theorem soloFromResync_within (s : State) :
    Within [.unit, .str, .pwr, .hvi, .rings, .bal, .conv, .phase, .saf, .red, .hpr, .app, .icu, .plg, .mem] s
    (soloFromResync s) :=
  .after (setRole_within ..) (.after (issueClaim_within ..) (.foldl .refl fun s x => .mono (haltStr_within ..)))

theorem execPartnerAbsent_yields (t : Nat) (s : State) :
    Yields (timedAnswer [.unit, .str, .hvi, .rings, .bal, .conv, .phase, .saf, .red, .app]) s (execPartnerAbsent t s) := by
  delta execPartnerAbsent
  extract_lets +onlyGivenNames _
  refine .advance (t := t) (.next (.ite .refl ?_))
  extract_lets +onlyGivenNames s2 s3
  exact .then (u := s3) (.alts3 (fun _ => .mono (setRole_within ..)) (fun _ => .mono (soloFromResync_within ..)) fun _ => .refl)
    (.then (u := s2) (.mono (releaseAcks_within ..)) (.mono (State.setRed_within ..)))

theorem execDormantPartnerTimeout_yields (t : Nat) (s : State) :
    Yields (allBut [.hviStr, .cee, .th, .gx2, .le, .rack, .seq, .net, .flt, .upd, .canRam, .free]) s
    (execDormantPartnerTimeout t s) := by
  delta execDormantPartnerTimeout
  extract_lets +onlyGivenNames _
  refine .advance (t := t) (.next (.ite ?_ .refl))
  extract_lets +onlyGivenNames s2
  exact .then (u := s2) (.alts3 (fun _ => .mono (setRole_within ..))
    (fun _ => .after (assumeDuties_within ..)
    (.after (applyReplica_within ..) (.after (setRole_within ..) (.mono (issueClaim_within ..))))) fun _ => .refl)
    (.mono (State.setRed_within ..))

theorem execPeerState_yields (t : Nat) (s : State) : Yields (timed [.red]) s (execPeerState t s) :=
  .next (.ite (.after (peerSend_within ..) (.mono (State.advance_within ..))) (.mono (State.advance_within ..)))

theorem requestSwap_within (s : State) : Within [.red] s (requestSwap s) :=
  .after (State.setRed_within ..) (peerSend_within ..)

theorem swapRefused_within (s : State) : Within [.red] s (swapRefused s) :=
  .ite (State.setRed_within ..) .refl

theorem execSwap_yields (t : Nat) (s : State) :
    Yields (allBut [.hviStr, .cee, .th, .gx2, .le, .rack, .seq, .net, .flt, .upd, .canRam, .free]) s (execSwap t s) := by
  delta execSwap
  extract_lets +onlyGivenNames _
  refine .advance (t := t) (.next (.option .refl fun _ => .ite .refl (.ite ?_ (.ite ?_ (.mono (swapRefused_within ..))))))
  · extract_lets +onlyGivenNames _ s2 s3
    exact .then (u := s3) (.mono (State.setRed_within ..))
      (.then (u := s2) (.after (assumeDuties_within ..) (.mono (applyReplica_within ..)))
      (.after (setRole_within ..) (.mono (issueClaim_within ..))))
  · extract_lets +onlyGivenNames s2 s3
    exact .then (u := s3) (.mono (State.setRed_within ..)) (.then (u := s2) (.mono (setRole_within ..))
      (.foldl .refl fun s x => .mono (abortTrans_within ..)))

theorem execSwapVerify_yields (t : Nat) (cdbAck gateOk : Bool) (s : State) :
    Yields (allBut [.tpe, .dsp, .gx2, .le, .seq, .net, .upd, .canRam, .free]) s (execSwapVerify t cdbAck gateOk s) :=
  .next (.ite (.mono (State.advance_within ..)) (.ite (.after (State.setRed_within ..) (.mono (State.advance_within ..)))
    (.after (groupRecord_within ..)
    (.after (State.setRed_within ..)
    (.after (setRole_within ..)
    (.ite (.ite (.foldl (.after (State.setRed_within ..) (.mono (State.advance_within ..))) fun s x => .mono
    (retireUnit_within ..)) (.foldl (.foldl (.after (State.setRed_within ..) (.mono (State.advance_within ..))) fun s x => .mono
    (retireUnit_within ..)) fun s x => .mono (retireUnit_within ..)))
    (.foldl (.ite (.foldl (.after (State.setRed_within ..) (.mono (State.advance_within ..))) fun s x => .mono
    (retireUnit_within ..)) (.foldl (.foldl (.after (State.setRed_within ..) (.mono (State.advance_within ..))) fun s x => .mono
    (retireUnit_within ..)) fun s x => .mono (retireUnit_within ..))) fun s x => .mono (retireUnit_within ..))))))))

theorem execScheduledSwapDue_yields (t : Nat) (s : State) : Yields (timed [.red]) s (execScheduledSwapDue t s) := by
  delta execScheduledSwapDue
  extract_lets +onlyGivenNames _
  refine .advance (t := t) (.next (.ite ?_ .refl))
  extract_lets +onlyGivenNames s2 _
  exact .then (u := s2) (.ite (.mono (requestSwap_within ..)) .refl) (.mono (State.setRed_within ..))

theorem execSwapOverdue_yields (t : Nat) (s : State) : Yields (timed [.red, .icu, .plg]) s (execSwapOverdue t s) :=
  .next (.ite (.after (groupRecord_within ..) (.after (State.setRed_within ..) (.mono (State.advance_within ..))))
    (.mono (State.advance_within ..)))

theorem execResyncStep_yields (t : Nat) (s : State) :
    Yields (timed [.unit, .hvi, .red, .hpr, .app, .icu, .plg]) s (execResyncStep t s) := by
  delta execResyncStep execResyncStep.match_1
  extract_lets +onlyGivenNames _
  exact .advance (t := t)
    (.next (.ite .refl (.lit
    (.ite .refl (.ite (.mono (State.setRed_within ..)) (.after (groupRecord_within ..) (.mono (State.setRed_within ..)))))
    fun _ => .lit (.mono (State.setRed_within ..)) fun _ => .lit (.mono (State.setRed_within ..)) fun _ => .lit
    (.mono (State.setRed_within ..)) fun _ => .lit (.ite (.after (setRole_within ..) (.mono (State.setRed_within ..))) .refl)
    fun _ => .refl)))

theorem execResyncTimeout_yields (t : Nat) (s : State) : Yields (timed [.red, .icu, .plg]) s (execResyncTimeout t s) := by
  delta execResyncTimeout
  extract_lets +onlyGivenNames _
  exact .advance (t := t)
    (.next (.ite (.ite (.mono (State.setRed_within ..)) (.after (groupRecord_within ..) (.mono (State.setRed_within ..)))) .refl))

theorem shadowCompare_within (s : State) (v : ShadowValue) (discrepancy : Nat) :
    Within [.red, .icu, .flt, .plg] s (shadowCompare s v discrepancy) := by
  delta shadowCompare
  dsimp only
  refine .ite (.mono (State.setRed_within ..)) (.ite (.mono (State.setRed_within ..)) ?_)
  split
  · exact .ite (.after (groupRecord_within ..) (.after (State.setRed_within ..) (.mono (State.setRed_within ..))))
      (.after (State.setRed_within ..) (.mono (State.setRed_within ..)))
  · exact .after (detected_within ..) (.after (State.setRed_within ..) (.ite
      (.after (groupRecord_within ..) (.after (State.setRed_within ..) (.mono (State.setRed_within ..))))
      (.after (State.setRed_within ..) (.mono (State.setRed_within ..)))))

theorem execRedSetConfig_yields (q : Req) (s : State) : Yields (answered [.red]) s (execRedSetConfig q s) :=
  setR_yields fun s p => .mono (State.setRed_within ..)

theorem execRedGetConfig_yields (q : Req) (s : State) : Yields (answered []) s (execRedGetConfig q s) :=
  .mono (getNone_yields ..)

theorem execRedGetStatus_yields (q : Req) (s : State) : Yields (answered []) s (execRedGetStatus q s) :=
  .mono (getW_yields ..)

theorem execRedSwap_yields (q : Req) (s : State) : Yields (answered [.red]) s (execRedSwap q s) :=
  command_yields fun s => .after (ok_within ..) (.after (State.setRed_within ..) (.mono (requestSwap_within ..)))

theorem execRedPostpone_yields (q : Req) (s : State) : Yields (answered [.red]) s (execRedPostpone q s) :=
  command_yields fun s => .after (ok_within ..) (.mono (State.setRed_within ..))

theorem execRedGetShadow_yields (q : Req) (s : State) : Yields (answered []) s (execRedGetShadow q s) :=
  command_yields fun s => .mono (ok_within ..)

/-! ## The loop engine (09_loop_engine.md R255 to R280) -/

theorem storeDesc_within (s : State) (p : Bytes) :
    Within [.unit, .str, .pwr, .hvi, .rings, .bal, .conv, .phase, .le, .saf, .red, .hpr, .app, .icu, .flt, .plg, .mem] s
    (storeDesc s p) :=
  .after (retier_within ..) (.mono (State.modLoop_within ..))

theorem emptySlot_within (s : State) (p : Bytes) :
    Within [.unit, .str, .pwr, .hvi, .rings, .bal, .conv, .phase, .le, .saf, .red, .hpr, .app, .icu, .flt, .plg, .mem] s
    (emptySlot s p) :=
  .after (retier_within ..) (.mono (State.modLoop_within ..))

theorem execLepLoadDesc_yields (q : Req) (s : State) :
    Yields (answered [.unit, .str, .hvi, .rings, .bal, .conv, .phase, .le, .saf, .red, .app, .flt]) s (execLepLoadDesc q s) :=
  command_yields fun s => .after (commit_within ..) (.mono (storeDesc_within ..))

theorem execLepClearSlot_yields (q : Req) (s : State) :
    Yields (answered [.unit, .str, .hvi, .rings, .bal, .conv, .phase, .le, .saf, .red, .app, .flt]) s (execLepClearSlot q s) :=
  command_yields fun s => .after (commit_within ..) (.mono (emptySlot_within ..))

theorem getByte_yields (op n : Nat) (resp : State → Nat → Bytes) (q : Req) (s : State) :
    Yields (answered []) s (getByte op n resp q s) :=
  command_yields fun s => .mono (ok_within ..)

theorem execLepGetDesc_yields (q : Req) (s : State) : Yields (answered []) s (execLepGetDesc q s) :=
  .mono (getByte_yields ..)

theorem storeCoef_within (s : State) (p : Bytes) : Within [.le] s (storeCoef s p) :=
  State.modLoop_within ..

theorem execLepSetCoef_yields (q : Req) (s : State) : Yields (answered [.le, .red]) s (execLepSetCoef q s) :=
  command_yields fun s => .after (commit_within ..) (.mono (storeCoef_within ..))

theorem execLepGetCoef_yields (q : Req) (s : State) : Yields (answered []) s (execLepGetCoef q s) :=
  .mono (getByte_yields ..)

theorem storeSwap_within (s : State) (p : Bytes) : Within [.le] s (storeSwap s p) :=
  .foldl .refl fun s x => State.modLoop_within ..

theorem execLepSwap_yields (q : Req) (s : State) : Yields (answered [.le, .red]) s (execLepSwap q s) :=
  command_yields fun s => .after (commit_within ..) (.mono (storeSwap_within ..))

theorem execBankSwap_yields (t n : Nat) (s : State) : Yields (timed [.le]) s (execBankSwap t n s) := by
  delta execBankSwap
  extract_lets +onlyGivenNames _
  exact .advance (t := t) (.next (.mono (State.modLoop_within ..)))

theorem storeLut_within (s : State) (p : Bytes) : Within [.le] s (storeLut s p) :=
  State.setLe_within ..

theorem execLepLoadLut_yields (q : Req) (s : State) : Yields (answered [.le, .red]) s (execLepLoadLut q s) :=
  command_yields fun s => .after (commit_within ..) (.mono (storeLut_within ..))

theorem execLepGetLut_yields (q : Req) (s : State) : Yields (answered []) s (execLepGetLut q s) :=
  .mono (getByte_yields ..)

theorem storeParam_within (s : State) (p : Bytes) : Within [.le] s (storeParam s p) :=
  State.setLe_within ..

theorem execLepSetParam_yields (q : Req) (s : State) : Yields (answered [.le, .red]) s (execLepSetParam q s) :=
  command_yields fun s => .after (commit_within ..) (.mono (storeParam_within ..))

theorem execLepGetOutput_yields (q : Req) (s : State) : Yields (answered []) s (execLepGetOutput q s) :=
  .mono (getC_yields ..)

theorem execLepGetStatus_yields (q : Req) (s : State) : Yields (answered []) s (execLepGetStatus q s) :=
  .mono (getW_yields ..)

theorem writeDst_within (s : State) (dst : Nat) (v : Int) : Within [.phase, .le] s (writeDst s dst v) := by
  delta writeDst shadowTol.match_1
  extract_lets +onlyGivenNames _
  exact .lit (.mono (State.modPhase_within ..)) fun _ => .lit (.mono (State.setLe_within ..)) fun _ => .lit
    (.mono (State.setLe_within ..)) fun _ => .lit (.mono (State.setLe_within ..)) fun _ => .refl

theorem slewRef_within (s : State) (i : Nat) : Within [.conv] s (slewRef s i) :=
  State.modConv_within ..

theorem capture_within (n : Nat) (catchUp : Bool) (flags : Nat) (nodes : List Int) (s : State) (k : Nat) :
    Within [.le] s (capture n catchUp flags nodes s k) := by
  delta capture
  extract_lets +onlyGivenNames _
  refine .ite .refl (.ite (State.setLe_within ..) (.ite (State.setLe_within ..) ?_))
  extract_lets +onlyGivenNames _ _ _
  exact State.setLe_within ..

theorem slotPeriod_within (s : State) (n cycles : Nat) (late : Bool) :
    Within [.conv, .phase, .le] s (slotPeriod s n cycles late) :=
  .ite .refl (.ite (.after (State.modLoop_within ..)
    (.ite (.after (State.modLoop_within ..) (.ite (.mono (slewRef_within ..)) .refl))
    (.after (writeDst_within ..) (.after (State.modLoop_within ..) (.ite (.mono (slewRef_within ..)) .refl)))))
    (.foldl (.after (State.modLoop_within ..) (.ite (.after (State.modLoop_within ..) (.ite (.mono (slewRef_within ..)) .refl))
    (.after (writeDst_within ..) (.after (State.modLoop_within ..) (.ite (.mono (slewRef_within ..)) .refl))))) fun s x => .mono
    (capture_within ..)))

theorem execSlotPeriod_yields (t n cycles : Nat) (late : Bool) (s : State) :
    Yields (timed [.conv, .phase, .le]) s (execSlotPeriod t n cycles late s) :=
  .next (.after (slotPeriod_within ..) (.mono (State.advance_within ..)))

theorem execSetpointCommit_yields (t : Nat) (s : State) : Yields (timed [.le]) s (execSetpointCommit t s) := by
  delta execSetpointCommit
  extract_lets +onlyGivenNames _
  exact .advance (t := t) (.next (.optionSwap (fun _ => .ite (.mono (State.setLe_within ..)) .refl) .refl))

theorem execProbeComplete_yields (t p : Nat) (s : State) : Yields (timed [.le]) s (execProbeComplete t p s) := by
  delta execProbeComplete
  extract_lets +onlyGivenNames _ _
  exact .advance (t := t) (.next (.ite (.mono (State.setLe_within ..)) .refl))

theorem execTrcSetProbe_yields (q : Req) (s : State) : Yields (answered [.le]) s (execTrcSetProbe q s) :=
  command_yields fun s => .after (ok_within ..) (.mono (State.setLe_within ..))

theorem onProbes_within (s : State) (mask : Nat) (f : Probe → Probe) : Within [.le] s (onProbes s mask f) :=
  State.setLe_within ..

theorem execTrcArm_yields (q : Req) (s : State) : Yields (answered [.le]) s (execTrcArm q s) :=
  command_yields fun s => .after (ok_within ..) (.mono (onProbes_within ..))

theorem execTrcStop_yields (q : Req) (s : State) : Yields (answered [.le]) s (execTrcStop q s) :=
  command_yields fun s => .after (ok_within ..) (.mono (onProbes_within ..))

theorem execTrcGetStatus_yields (q : Req) (s : State) : Yields (answered []) s (execTrcGetStatus q s) :=
  .mono (getW_yields ..)

theorem execTrcMap_yields (q : Req) (s : State) : Yields (answered []) s (execTrcMap q s) :=
  .mono (mapM_yields ..)

theorem execTrcRead_yields (q : Req) (s : State) : Yields (answered []) s (execTrcRead q s) := by
  delta execTrcRead
  extract_lets +onlyGivenNames _ _ _ _
  exact command_yields fun s => .mono (respondBuf_within ..)

/-! ## The string converters (08_converter_control.md R217 to R254) -/

theorem stopConverter_within (s : State) (i : Nat) : Within [.conv, .phase] s (stopConverter s i) :=
  .after (within_phase ..) (.mono (State.modConv_within ..))

theorem rampDone_within (s : State) (i : Nat) (dest : StrState) :
    Within [.str, .conv, .phase, .saf, .red, .hpr, .icu, .plg, .mem] s (rampDone s i dest) := by
  delta rampDone
  extract_lets +onlyGivenNames s1
  exact .then (u := s1) (.alts (fun _ => .after (openCoils_within ..) (.mono (State.modConv_within ..))) fun _ => .after
    (endTransOk_within ..) (.mono (setStr_within ..))) (.mono (gateOffString_within ..))

theorem enterPause_within (s : State) (i : Nat) (cause : PauseCause) :
    Within [.str, .conv, .phase, .saf, .red, .hpr, .icu, .plg, .mem] s (enterPause s i cause) := by
  delta enterPause
  refine .ite .refl ?_
  extract_lets +onlyGivenNames s1 s2 s3
  exact .then (u := s3) (.optionSwap (fun _ => rampDone_within ..) .refl) (.then (u := s2) (.mono (groupRecord_within ..))
    (.then (u := s1) (.mono (State.modConv_within ..)) (.mono (stopConverter_within ..))))

theorem startConverter_within (s : State) (i : Nat) :
    Within [.str, .conv, .phase, .le, .saf, .red, .hpr, .icu, .plg, .mem] s (startConverter s i) := by
  delta startConverter
  refine .ite (.mono (enterPause_within ..)) ?_
  extract_lets +onlyGivenNames s1 _ s2 s3 _
  exact .then (u := s3) (.mono (State.modConv_within ..))
    (.then (u := s2) (.foldl .refl fun s x => .mono (State.modLoop_within ..))
    (.then (u := s1) (.foldl .refl fun s x => .mono (State.modPhase_within ..)) (.of rfl rfl)))

theorem execConverterStart_yields (t i : Nat) (s : State) :
    Yields (timed [.str, .conv, .phase, .le, .saf, .red, .hpr, .icu, .plg, .mem]) s (execConverterStart t i s) :=
  .next (.ite (.after (startConverter_within ..) (.mono (State.advance_within ..))) (.mono (State.advance_within ..)))

theorem execConverterPause_yields (t i : Nat) (cause : PauseCause) (s : State) :
    Yields (timed [.str, .conv, .phase, .saf, .red, .hpr, .icu, .plg, .mem]) s (execConverterPause t i cause s) := by
  delta execConverterPause
  extract_lets +onlyGivenNames _
  exact .advance (t := t)
    (.next (.alts (fun _ => .ite (.mono (enterPause_within ..)) .refl) fun _ => .ite (.mono (enterPause_within ..)) .refl))

theorem execPauseEnd_yields (t i : Nat) (s : State) :
    Yields (timed [.str, .conv, .phase, .le, .saf, .red, .hpr, .icu, .plg, .mem]) s (execPauseEnd t i s) :=
  .next (.ite (.after (startConverter_within ..)
    (.after (groupRecord_within ..) (.after (State.modConv_within ..) (.mono (State.advance_within ..)))))
    (.mono (State.advance_within ..)))

theorem softStartStep_within (s : State) (i : Nat) : Within [.conv] s (softStartStep s i) := by
  delta softStartStep
  split
  · exact .ite (State.modConv_within ..) .refl
  · exact .refl

theorem execSoftStartTimeout_yields (t i : Nat) (s : State) :
    Yields (timed [.str, .conv, .phase, .saf, .red, .hpr, .icu, .plg, .mem]) s (execSoftStartTimeout t i s) := by
  delta execSoftStartTimeout
  extract_lets +onlyGivenNames s1 s2 _
  refine .from (u := s2) (.next (.altsPair (fun _ _ => ?_) fun _ _ => .refl)) (.then (u := s1) (.mono (softStartStep_within ..))
    (.mono (State.advance_within ..)))
  extract_lets +onlyGivenNames _
  refine .ite ?_ .refl
  extract_lets +onlyGivenNames _ s3 s4
  exact .then (u := s4) (.mono (groupRecord_within ..)) (.then (u := s3) (.mono (State.modConv_within ..))
    (.mono (enterPause_within ..)))

theorem execRampComplete_yields (t i : Nat) (s : State) :
    Yields (timed [.str, .conv, .phase, .saf, .red, .hpr, .icu, .plg, .mem]) s (execRampComplete t i s) := by
  delta execRampComplete
  extract_lets +onlyGivenNames _ _
  exact .advance (t := t) (.next (.ite (.option .refl fun _ => .mono (rampDone_within ..)) .refl))

theorem disconnectNow_within (s : State) (i : Nat) : Within [.conv, .phase, .saf] s (disconnectNow s i) :=
  .after (openCoils_within ..) (.after (State.modConv_within ..) (.mono (gateOffString_within ..)))

theorem execCoolingWaitEnd_yields (t i : Nat) (fastTripTestPasses : Bool) (s : State) :
    Yields (timedAnswer [.str, .conv, .saf, .flt]) s (execCoolingWaitEnd t i fastTripTestPasses s) := by
  delta execCoolingWaitEnd
  extract_lets +onlyGivenNames _ _
  exact .advance (t := t)
    (.next (.ite .refl (.ite (.after (detected_within ..) (.mono (prechargeFail_within ..)))
    (.ite (.mono (prechargeFail_within ..))
    (.ite (.mono (prechargeFail_within ..)) (.after (requestClose_within ..) (.mono (State.modConv_within ..))))))))

theorem execPrechargeComplete_yields (t i : Nat) (s : State) : Yields (timed [.conv, .saf]) s (execPrechargeComplete t i s) := by
  delta execPrechargeComplete
  extract_lets +onlyGivenNames _
  exact .advance (t := t) (.next (.ite (.after (requestClose_within ..) (.mono (State.modConv_within ..))) .refl))

theorem execPrechargeFault_yields (t i : Nat) (s : State) :
    Yields (timedAnswer [.str, .rings, .bal, .conv, .phase, .saf]) s (execPrechargeFault t i s) :=
  .next (.ite (.after (haltStr_within ..) (.mono (State.advance_within ..))) (.mono (State.advance_within ..)))

theorem execConnectedEntry_yields (t i : Nat) (s : State) :
    Yields (timedAnswer [.str, .conv, .red]) s (execConnectedEntry t i s) :=
  .next (.ite (.after (endTransOk_within ..)
    (.after (setStr_within ..) (.after (endPrecharge_within ..) (.mono (State.advance_within ..)))))
    (.mono (State.advance_within ..)))

theorem dropPhase_within (s : State) (p : Nat) : Within [.conv, .phase] s (dropPhase s p) := by
  delta dropPhase
  extract_lets +onlyGivenNames _ s1
  exact .then (u := s1) (.ite (.option .refl fun _ => .mono (State.modConv_within ..)) .refl) (.mono (State.modPhase_within ..))

theorem faultPhase_within (s : State) (p rule detail : Nat) :
    Within [.conv, .phase, .icu, .flt, .plg] s (faultPhase s p rule detail) :=
  .ite .refl (.after (dropPhase_within ..) (.after (detected_within ..) (.mono (State.modPhase_within ..))))

theorem periodBoundary_within (s : State) (p : Nat) (code : Int) : Within [.conv, .phase, .saf] s (periodBoundary s p code) := by
  delta periodBoundary
  dsimp only
  refine .ite (.after (State.modConv_within ..) ?_) ?_
  · split
    · exact .after (State.modPhase_within ..)
        (.after (State.modPhase_within ..) (.after (State.modChanStr_within ..) (.mono (State.modChanStr_within ..))))
    · exact .after (State.modPhase_within ..)
        (.after (State.modPhase_within ..)
        (.after (State.modPhase_within ..) (.after (State.modChanStr_within ..) (.mono (State.modChanStr_within ..)))))
  · split
    · exact .after (State.modPhase_within ..)
        (.after (State.modPhase_within ..) (.after (State.modChanStr_within ..) (.mono (State.modChanStr_within ..))))
    · exact .after (State.modPhase_within ..)
        (.after (State.modPhase_within ..)
        (.after (State.modPhase_within ..) (.after (State.modChanStr_within ..) (.mono (State.modChanStr_within ..)))))

theorem execPeriodBoundary_yields (t p : Nat) (code : Int) (s : State) :
    Yields (timed [.conv, .phase, .saf]) s (execPeriodBoundary t p code s) :=
  .next (.ite (.after (periodBoundary_within ..) (.mono (State.advance_within ..))) (.mono (State.advance_within ..)))

theorem execPwmReadbackMismatch_yields (t p : Nat) (s : State) :
    Yields (timed [.conv, .phase, .icu, .flt, .plg]) s (execPwmReadbackMismatch t p s) :=
  .next (.ite (.after (faultPhase_within ..) (.mono (State.advance_within ..))) (.mono (State.advance_within ..)))

theorem execCycleByCycleLimit_yields (t p : Nat) (acted : Bool) (s : State) :
    Yields (timed [.conv, .phase, .icu, .flt, .plg]) s (execCycleByCycleLimit t p acted s) :=
  .next (.ite (.ite (.after (faultPhase_within ..) (.after (State.modPhase_within ..) (.mono (State.advance_within ..))))
    (.after (State.modPhase_within ..) (.mono (State.advance_within ..)))) (.mono (State.advance_within ..)))

theorem ambiguous_within (s : State) (i : Nat) :
    Within [.str, .conv, .phase, .saf, .red, .hpr, .icu, .flt, .plg, .mem] s (ambiguous s i) :=
  .foldl (.mono (enterPause_within ..)) fun s x => .after (testUnit_within ..) (.mono (State.modPhase_within ..))

theorem senseFault_within (s : State) (p : Nat) :
    Within [.str, .conv, .phase, .saf, .red, .hpr, .icu, .flt, .plg, .mem] s (senseFault s p) :=
  .ite .refl (.ite (ambiguous_within ..) (.after (detected_within ..) (.mono (State.modPhase_within ..))))

theorem execPhaseInputImplausible_yields (t p : Nat) (s : State) :
    Yields (timed [.str, .conv, .phase, .saf, .red, .hpr, .icu, .flt, .plg, .mem]) s (execPhaseInputImplausible t p s) :=
  .next (.ite (.after (senseFault_within ..) (.mono (State.advance_within ..))) (.mono (State.advance_within ..)))

theorem execEstimateMode_yields (t p : Nat) (s : State) : Yields (timed [.phase]) s (execEstimateMode t p s) :=
  .next (.ite (.after (State.modPhase_within ..) (.mono (State.advance_within ..))) (.mono (State.advance_within ..)))

theorem execEstimateModeEnd_yields (t p : Nat) (s : State) :
    Yields (timed [.conv, .phase, .icu, .flt, .plg]) s (execEstimateModeEnd t p s) := by
  delta execEstimateModeEnd
  extract_lets +onlyGivenNames _ _
  exact .advance (t := t)
    (.next (.option .refl fun _ => .ite (.mono (State.modPhase_within ..)) (.ite (.mono (faultPhase_within ..)) .refl)))

theorem phaseEvaluation_within (s : State) (i : Nat) :
    Within [.str, .conv, .phase, .saf, .red, .hpr, .icu, .flt, .plg, .mem] s (phaseEvaluation s i) := by
  delta phaseEvaluation
  extract_lets +onlyGivenNames _ _ _ _ _ _ s1 s2 _ _ _
  refine .then (u := s2) ?_ (.then (u := s1) (.mono (State.modConv_within ..)) (.of rfl rfl))
  split
  · exact .refl
  · exact .ite (ambiguous_within ..) (.ite (.mono (faultPhase_within ..)) (senseFault_within ..))
  · exact ambiguous_within ..

theorem execPhaseEvaluation_yields (t i : Nat) (s : State) :
    Yields (timed [.str, .conv, .phase, .saf, .red, .hpr, .icu, .flt, .plg, .mem]) s (execPhaseEvaluation t i s) :=
  .next (.ite (.after (phaseEvaluation_within ..) (.mono (State.advance_within ..))) (.mono (State.advance_within ..)))

theorem execReInterleave_yields (t i : Nat) (s : State) : Yields (timed [.conv, .phase]) s (execReInterleave t i s) := by
  delta execReInterleave
  extract_lets +onlyGivenNames _
  exact .advance (t := t)
    (.next (.altsPair (fun _ _ => .ite (.foldl (.mono (State.modConv_within ..)) fun s x => .mono (State.modPhase_within ..))
    .refl) fun _ _ => .refl))

theorem execSlotShift_yields (t i : Nat) (s : State) : Yields (timed [.conv]) s (execSlotShift t i s) := by
  delta execSlotShift
  extract_lets +onlyGivenNames _
  refine .advance (t := t) (.next ?_)
  split
  · exact .refl
  · refine .ite .refl ?_
    extract_lets +onlyGivenNames _ _ _ _ s2
    exact .then (u := s2) (.mono (State.modConv_within ..)) (.mono (State.modConv_within ..))

theorem execSyncInLoss_yields (t i : Nat) (s : State) : Yields (timed [.conv]) s (execSyncInLoss t i s) :=
  .next (.ite (.after (State.modConv_within ..) (.mono (State.advance_within ..))) (.mono (State.advance_within ..)))

theorem execSyncInRelock_yields (t i : Nat) (s : State) : Yields (timed [.conv]) s (execSyncInRelock t i s) :=
  .next (.ite (.after (State.modConv_within ..) (.mono (State.advance_within ..))) (.mono (State.advance_within ..)))

theorem syncEdgeAt_within (s : State) : Within [.conv] s (syncEdgeAt s) := by
  delta syncEdgeAt
  exact .of rfl rfl

theorem execBraking_yields (t p : Nat) (s : State) : Yields (timed [.phase]) s (execBraking t p s) :=
  .next (.ite (.after (State.modPhase_within ..) (.mono (State.advance_within ..))) (.mono (State.advance_within ..)))

theorem execBrakingEnd_yields (t p : Nat) (s : State) : Yields (timed [.phase]) s (execBrakingEnd t p s) :=
  .next (.ite (.after (State.modPhase_within ..) (.mono (State.advance_within ..))) (.mono (State.advance_within ..)))

theorem gx2Fault_within (s : State) (p code : Nat) : Within [.gx2] s (gx2Fault s p code) :=
  State.modGx2_within ..

theorem gx2Reply_within (s : State) (p : Nat) (r : Gx2Reply) :
    Within [.conv, .phase, .gx2, .red, .icu, .flt, .plg] s (gx2Reply s p r) := by
  delta gx2Reply
  refine .ite ?_ (.ite (.mono (detected_within ..)) ?_)
  · extract_lets +onlyGivenNames _ s1
    exact .then (u := s1) (.ite (.mono (detected_within ..)) .refl) (.mono (State.modGx2_within ..))
  · extract_lets +onlyGivenNames _ s1 s2 s3
    exact .then (u := s3) (.ite .refl (.ite (.after (faultPhase_within ..) (.mono (gx2Fault_within ..)))
      (.ite (.after (faultPhase_within ..) (.mono (gx2Fault_within ..)))
      (.ite (.after (faultPhase_within ..) (.mono (gx2Fault_within ..)))
      (.ite (.after (faultPhase_within ..) (.mono (gx2Fault_within ..))) .refl)))))
      (.then (u := s2) (.ite (.mono (groupRecord_within ..)) .refl) (.then (u := s1) (.mono (State.setRed_within ..))
      (.mono (State.modGx2_within ..))))

theorem execGx2Poll_yields (t i : Nat) (r : List Gx2Reply) (s : State) :
    Yields (allBut [.tpe, .dsp, .le, .seq, .net, .upd, .canRam, .free]) s (execGx2Poll t i r s) := by
  delta execGx2Poll
  extract_lets +onlyGivenNames _
  refine .advance (t := t) (.next (.ite .refl ?_))
  extract_lets +onlyGivenNames _ s2 s3
  exact .then (u := s3) (.ite (.mono (retireUnit_within ..)) .refl) (.then (u := s2) (.mono (State.modConv_within ..))
    (.foldl .refl fun s x => .option .refl fun _ => .mono (gx2Reply_within ..)))

theorem execGdbFlt_yields (t i : Nat) (s : State) :
    Yields (timed [.str, .conv, .phase, .saf, .red, .hpr, .icu, .plg, .mem]) s (execGdbFlt t i s) := by
  delta execGdbFlt
  dsimp only
  exact .next (.ite (.mono (State.advance_within ..))
    (.after (enterPause_within ..)
    (.after (within_phase ..) (.after (State.modConv_within ..) (.mono (State.advance_within ..))))))

theorem execDutyHoldExpiry_yields (t p : Nat) (s : State) :
    Yields (timed [.conv, .phase, .gx2, .icu, .flt, .plg]) s (execDutyHoldExpiry t p s) :=
  .next (.ite (.after (faultPhase_within ..) (.after (gx2Fault_within ..) (.mono (State.advance_within ..))))
    (.mono (State.advance_within ..)))

theorem storeCnv_within (s : State) (p : Bytes) :
    Within [.unit, .str, .pwr, .hvi, .rings, .bal, .conv, .phase, .gx2, .saf, .red, .hpr, .app, .icu, .flt, .plg, .mem] s
    (storeCnv s p) :=
  .after (retier_within ..) (.foldl (.mono (State.modConv_within ..)) fun s x => .mono (State.modGx2_within ..))

theorem execCnvSetConfig_yields (q : Req) (s : State) :
    Yields (answered [.unit, .str, .hvi, .rings, .bal, .conv, .phase, .gx2, .saf, .red, .app, .flt]) s (execCnvSetConfig q s) :=
  command_yields fun s => .after (commit_within ..) (.mono (storeCnv_within ..))

theorem execCnvGetConfig_yields (q : Req) (s : State) : Yields (answered []) s (execCnvGetConfig q s) :=
  .mono (getI_yields ..)

theorem storeShift_within (s : State) (p : Bytes) : Within [.conv] s (storeShift s p) :=
  State.modConv_within ..

theorem execCnvSetSlot_yields (q : Req) (s : State) : Yields (answered [.conv, .red]) s (execCnvSetSlot q s) :=
  command_yields fun s => .after (commit_within ..) (.mono (storeShift_within ..))

theorem execCnvGetStatus_yields (q : Req) (s : State) : Yields (answered []) s (execCnvGetStatus q s) :=
  .mono (getI_yields ..)

theorem execCnvPhaseDisable_yields (q : Req) (s : State) :
    Yields (answered [.unit, .str, .hvi, .rings, .bal, .conv, .phase, .saf, .red, .app, .flt]) s (execCnvPhaseDisable q s) :=
  command_yields fun s => .ite
    (.after (ok_within ..) (.after (retier_within ..) (.after (dropPhase_within ..) (.mono (State.modPhase_within ..)))))
    (.mono (ok_within ..))

theorem execCnvPhaseRestore_yields (q : Req) (s : State) :
    Yields (answered [.str, .rings, .bal, .conv, .phase, .saf, .red, .flt]) s (execCnvPhaseRestore q s) :=
  command_yields fun s => .mono (startRestore_within ..)

theorem execCnvGetDrivers_yields (q : Req) (s : State) : Yields (answered []) s (execCnvGetDrivers q s) :=
  .mono (getI_yields ..)

/-! ## The HV island (03_string_measurement.md R54 to R82) -/

theorem publishAligned_within (s : State) (i : Nat) : Within [.hviStr] s (publishAligned s i) := by
  delta publishAligned
  extract_lets +onlyGivenNames _
  refine .option .refl fun _ => .ite .refl ?_
  extract_lets +onlyGivenNames _ _
  exact State.modHvi_within ..

theorem convSample_within (s : State) (i : Nat) : Within [.conv] s (convSample s i) :=
  State.modConv_within ..

theorem execShuntSample_yields (t i : Nat) (code : Int) (s : State) :
    Yields (timedAnswer [.str, .hviStr, .rings, .bal, .conv, .phase, .saf]) s (execShuntSample t i code s) :=
  .next (.ite (.mono (State.advance_within ..))
    (.after (ocJudge_within ..)
    (.after (ocJudge_within ..)
    (.after (publishAligned_within ..)
    (.after (convSample_within ..)
    (.after (State.modHvi_within ..) (.after (State.modHvi_within ..) (.mono (State.advance_within ..)))))))))

theorem writeCheck_within (s : State) : Within [.pwr, .hvi] s (writeCheck s) :=
  .ite (.of rfl rfl) (.mono (deferWrite_within ..))

theorem execIntegratorCheckpoint_yields (t : Nat) (s : State) : Yields (timed [.pwr, .hvi]) s (execIntegratorCheckpoint t s) :=
  .next (.ite (.after (writeCheck_within ..) (.mono (State.advance_within ..))) (.mono (State.advance_within ..)))

theorem loadCheck_within (s : State) : Within [.hviStr, .icu, .plg] s (loadCheck s) :=
  .ite (.after (groupRecord_within ..) (.foldl .refl fun s x => .mono (State.modHvi_within ..)))
    (.foldl .refl fun s x => .mono (State.modHvi_within ..))

theorem execCalibrationStep_yields (t i : Nat) (avg : Rat) (s : State) :
    Yields (timed [.hviStr]) s (execCalibrationStep t i avg s) :=
  .next (.ite (.after (State.modHvi_within ..) (.mono (State.advance_within ..))) (.mono (State.advance_within ..)))

theorem execCalibrationSwap_yields (t i : Nat) (ov : Overlap) (s : State) :
    Yields (allBut [.tpe, .dsp, .gx2, .le, .seq, .net, .upd, .canRam, .free]) s (execCalibrationSwap t i ov s) := by
  delta execCalibrationSwap
  extract_lets +onlyGivenNames _ _
  refine .advance (t := t) (.next (.ite .refl ?_))
  extract_lets +onlyGivenNames _ _
  refine .ite ?_ ?_
  · extract_lets +onlyGivenNames _
    exact .mono (State.modHvi_within ..)
  · extract_lets +onlyGivenNames _ _ _ s2
    exact .then (u := s2) (.ite (.mono (retireUnit_within ..)) (.mono (detected_within ..))) (.mono (State.modHvi_within ..))

theorem execOverlapRepeat_yields (t i : Nat) (dI : Int) (s : State) : Yields (timed [.hviStr]) s (execOverlapRepeat t i dI s) :=
  .next (.ite (.after (State.modHvi_within ..) (.mono (State.advance_within ..))) (.mono (State.advance_within ..)))

theorem busWatch_within (s : State) : Within [.conv] s (busWatch s) :=
  .foldl .refl fun s x => .after (softStartStep_within ..) (State.modConv_within ..)

theorem noteDiscard_within (s : State) (ch : Nat) : Within [.hvi, .hviStr, .icu, .flt, .plg] s (noteDiscard s ch) :=
  .ite (.after (detected_within ..) (.ite (.mono (State.modHvi_within ..)) (.ite (.of rfl rfl) (.of rfl rfl))))
    (.ite (.mono (State.modHvi_within ..)) (.ite (.of rfl rfl) (.of rfl rfl)))

theorem execVoltageSample_yields (t ch : Nat) (value : Int) (discarded beyond : Bool) (s : State) :
    Yields (timed [.hvi, .hviStr, .conv, .icu, .flt, .plg]) s (execVoltageSample t ch value discarded beyond s) := by
  delta execVoltageSample
  dsimp only
  exact .next (.ite (.mono (State.advance_within ..))
    (.ite (.ite (.after (noteDiscard_within ..) (.mono (State.advance_within ..))) (.mono (State.advance_within ..)))
    (.ite (.after (busWatch_within ..)
    (.after (State.modHvi_within ..) (.ite (.after (noteDiscard_within ..) (.mono (State.advance_within ..)))
    (.mono (State.advance_within ..)))))
    (.ite (.after (busWatch_within ..)
    (.after (within_hvi ..)
    (.ite (.after (within_hviStr ..) (.ite (.after (noteDiscard_within ..) (.mono (State.advance_within ..)))
    (.mono (State.advance_within ..)))) (.ite (.after (noteDiscard_within ..) (.mono (State.advance_within ..)))
    (.mono (State.advance_within ..)))))) (.ite (.after (noteDiscard_within ..) (.mono (State.advance_within ..)))
    (.mono (State.advance_within ..)))))))

theorem execInsulationResult_yields (t rIso cE : Nat) (side : FaultSide) (s : State) :
    Yields (timedAnswer [.str, .hvi, .rings, .bal, .conv, .phase, .saf]) s (execInsulationResult t rIso cE side s) :=
  .next (.ite (.mono (State.advance_within ..))
    (.after (isoToChannels_within ..) (.after (within_hvi ..) (.mono (State.advance_within ..)))))

theorem execInjectionHandover_yields (t : Nat) (s : State) : Yields (timed [.hvi]) s (execInjectionHandover t s) := by
  delta execInjectionHandover
  extract_lets +onlyGivenNames _ _
  exact .advance (t := t) (.next (.ite (.of rfl rfl) .refl))

theorem execFastTrip_yields (t i : Nat) (charge : Bool) (s : State) :
    Yields (timedAnswer [.str, .hviStr, .rings, .bal, .conv, .phase, .saf]) s (execFastTrip t i charge s) := by
  delta execFastTrip
  dsimp only
  exact .next (.ite (.mono (State.advance_within ..))
    (.after (tripBoth_within ..)
    (.after (within_phase ..)
    (.ite (.after (groupRecord_within ..) (.after (State.modHvi_within ..) (.mono (State.advance_within ..))))
    (.after (State.modHvi_within ..) (.mono (State.advance_within ..)))))))

theorem execHviPlausibilityFailure_yields (t : Nat) (c : HviCheck) (i : Nat) (s : State) :
    Yields (timed [.hviStr, .icu, .flt, .plg]) s (execHviPlausibilityFailure t c i s) :=
  .next (.ite (.mono (State.advance_within ..)) (.ite (.after (State.modHvi_within ..) (.mono (State.advance_within ..)))
    (.foldl (.mono (State.advance_within ..)) fun s x => .mono (detected_within ..))))

theorem execStrGetMeas_yields (q : Req) (s : State) : Yields (answered []) s (execStrGetMeas q s) :=
  .mono (getI_yields ..)

theorem execStrSetShunt_yields (q : Req) (s : State) : Yields (answered [.hviStr]) s (execStrSetShunt q s) :=
  command_yields fun s => .after (ok_within ..) (.mono (State.modHvi_within ..))

theorem execStrGetCal_yields (q : Req) (s : State) : Yields (answered []) s (execStrGetCal q s) :=
  .mono (getI_yields ..)

theorem setIso_within (s : State) (mode : IsoMode) (thr : Nat) : Within [.hvi] s (setIso s mode thr) :=
  .ite (.of rfl rfl) (.of rfl rfl)

theorem execStrSetIso_yields (q : Req) (s : State) : Yields (answered [.hvi]) s (execStrSetIso q s) :=
  command_yields fun s => .after (ok_within ..) (.mono (setIso_within ..))

theorem execStrGetIso_yields (q : Req) (s : State) : Yields (answered []) s (execStrGetIso q s) :=
  .mono (getNone_yields ..)

theorem execStrClearMeasFlags_yields (q : Req) (s : State) : Yields (answered [.hviStr]) s (execStrClearMeasFlags q s) :=
  command_yields fun s => .after (ok_within ..) (.mono (State.modHvi_within ..))

/-! ## Rack auxiliary power (12_rack_power.md R351 to R382) -/

theorem execAuxSample_yields (t vsns : Nat) (shelfUv : Int) (acOk : Bool) (s : State) :
    Yields (timed [.rack]) s (execAuxSample t vsns shelfUv acOk s) := by
  delta execAuxSample
  extract_lets +onlyGivenNames _
  refine .advance (t := t) (.next (.ite .refl ?_))
  extract_lets +onlyGivenNames _ _ _ _ _
  exact .mono (State.setRack_within ..)

theorem execShelfFull_yields (t : Nat) (s : State) : Yields (timed [.rack]) s (execShelfFull t s) :=
  .next (.ite (.after (State.setRack_within ..) (.mono (State.advance_within ..))) (.mono (State.advance_within ..)))

theorem modRect_within (s : State) (k : Nat) (f : Rect → Rect) : Within [.rack] s (modRect s k f) :=
  State.setRack_within ..

theorem rectReply_within (s : State) (k : Nat) (x : RectReading) : Within [.rack, .icu, .plg] s (rectReply s k x) :=
  .ite (.after (groupRecord_within ..) (.ite (.after (groupRecord_within ..) (.mono (modRect_within ..)))
    (.mono (modRect_within ..)))) (.ite (.after (groupRecord_within ..) (.mono (modRect_within ..))) (.mono (modRect_within ..)))

theorem shareLoad_within (s : State) (replies : List RectReading) : Within [.rack] s (shareLoad s replies) :=
  .foldl (State.setRack_within ..) fun s x => modRect_within ..

theorem execPmbusPoll_yields (t : Nat) (r : List RectReading) (s : State) :
    Yields (timed [.rack, .icu, .plg]) s (execPmbusPoll t r s) := by
  delta execPmbusPoll
  dsimp only
  exact .next (.ite (.mono (State.advance_within ..))
    (.after (State.setRack_within ..)
    (.after (shareLoad_within ..) (.after (State.setRack_within ..) (.foldl (.mono (State.advance_within ..)) fun s x => .option
    .refl fun _ => .mono (rectReply_within ..))))))

theorem execPmbusAlert_yields (t segment : Nat) (words : List (Nat × BitVec 16)) (s : State) :
    Yields (timed [.rack, .icu, .plg]) s (execPmbusAlert t segment words s) := by
  delta execPmbusAlert
  extract_lets +onlyGivenNames _
  exact .advance (t := t)
    (.next (.ite .refl (.foldl (.mono (State.setRack_within ..)) fun s x => .ite
    (.option .refl fun _ => .mono (rectReply_within ..)) .refl)))

theorem execRectifierRejoin_yields (t r : Nat) (s : State) : Yields (timed [.rack]) s (execRectifierRejoin t r s) :=
  .next (.ite (.after (modRect_within ..) (.mono (State.advance_within ..))) (.mono (State.advance_within ..)))

theorem shedCh_within (s : State) (kind n : Nat) : Within [.rack] s (shedCh s kind n) := by
  delta shedCh
  extract_lets +onlyGivenNames _ s1
  exact .then (u := s1) (State.setRack_within ..) (State.modEf_within ..)

theorem shedClass_within (s : State) (kind c : Nat) : Within [.rack] s (shedClass s kind c) :=
  .foldl .refl fun s x => .ite (shedCh_within ..) .refl

theorem shedFans_within (s : State) : Within [.rack] s (shedFans s) := by
  delta shedFans
  extract_lets +onlyGivenNames _
  exact State.setRack_within ..

theorem execCapEvaluation_yields (t : Nat) (s : State) : Yields (timed [.dsp, .rack, .icu, .plg]) s (execCapEvaluation t s) := by
  delta execCapEvaluation
  extract_lets +onlyGivenNames _
  refine .advance (t := t) (.next (.ite .refl ?_))
  extract_lets +onlyGivenNames _ _ _ s2 _ s3
  exact .then (u := s3) (.ite (.mono (State.setRack_within ..)) (.optionSwap (fun _ => .mono (shedCh_within ..))
    (.ite (.mono (shedFans_within ..)) (.optionSwap (fun _ => .mono (shedCh_within ..))
    (.ite .refl (.after (icuPrivate_within ..) (.after (groupRecord_within ..) (.mono (State.setRack_within ..)))))))))
    (.then (u := s2) (.mono (State.setRack_within ..)) (.mono (State.setDsp_within ..)))

theorem efStart_within (s : State) (n : Nat) : Within [.rack] s (efStart s n) := by
  delta efStart
  extract_lets +onlyGivenNames _
  exact .ite (State.modEf_within ..) .refl

theorem execShedRestore_yields (t : Nat) (s : State) : Yields (timed [.rack]) s (execShedRestore t s) := by
  delta execShedRestore
  extract_lets +onlyGivenNames _
  refine .advance (t := t) (.next ?_)
  split
  · exact .refl
  · refine .ite .refl ?_
    extract_lets +onlyGivenNames s2
    refine .then (u := s2) (.ite ?_ (.after (efStart_within ..) (.mono (State.modEf_within ..))))
      (.mono (State.setRack_within ..))
    extract_lets +onlyGivenNames _
    exact .mono (State.setRack_within ..)

theorem acSources_within (s : State) : Within [.icu] s (acSources s) :=
  .after (icuPrivate_within ..) (icuPrivate_within ..)

theorem execAcLoss_yields (t : Nat) (s : State) : Yields (timed [.dsp, .rack, .icu, .plg]) s (execAcLoss t s) :=
  .next (.ite (.after (shedClass_within ..)
    (.after (State.setDsp_within ..)
    (.after (acSources_within ..)
    (.after (State.setRack_within ..)
    (.after (groupRecord_within ..) (.after (State.setRack_within ..) (.mono (State.advance_within ..))))))))
    (.mono (State.advance_within ..)))

theorem execAcReturn_yields (t : Nat) (s : State) : Yields (timed [.rack, .icu]) s (execAcReturn t s) :=
  .next (.ite (.after (acSources_within ..)
    (.after (State.setRack_within ..) (.after (State.setRack_within ..) (.mono (State.advance_within ..)))))
    (.mono (State.advance_within ..)))

theorem execShelfLow_yields (t : Nat) (s : State) : Yields (timed [.rack]) s (execShelfLow t s) :=
  .next (.ite (.after (shedClass_within ..) (.foldl (.after (State.setRack_within ..) (.mono (State.advance_within ..)))
    fun s x => .ite (.mono (shedFans_within ..)) .refl)) (.mono (State.advance_within ..)))

theorem execShelfCut_yields (t : Nat) (s : State) : Yields (timed [.rack, .icu, .plg]) s (execShelfCut t s) :=
  .next (.ite (.after (shedClass_within ..)
    (.after (groupRecord_within ..) (.after (State.setRack_within ..) (.mono (State.advance_within ..)))))
    (.mono (State.advance_within ..)))

theorem efFault_within (s : State) (n : Nat) (f : EfFault) : Within [.rack, .icu, .plg] s (efFault s n f) := by
  delta efFault
  extract_lets +onlyGivenNames _
  refine .ite .refl ?_
  extract_lets +onlyGivenNames _ _ s1
  exact .then (u := s1) (.ite .refl (.mono (State.modEf_within ..)))
    (.after (groupRecord_within ..) (.mono (State.modEf_within ..)))

theorem execEfuseSample_yields (t n : Nat) (v : EfReading) (s : State) :
    Yields (timed [.rack, .icu, .flt, .plg]) s (execEfuseSample t n v s) := by
  delta execEfuseSample
  extract_lets _
  refine .advance (t := t) (.next (.ite .refl ?_))
  extract_lets _ _
  split
  · exact .ite (.after (efFault_within ..) (.mono (State.modEf_within ..)))
      (.ite (.after (efFault_within ..) (.mono (State.modEf_within ..)))
      (.after (efStart_within ..) (.ite (.after (detected_within ..) (.mono (State.modEf_within ..)))
      (.mono (State.modEf_within ..)))))

theorem execInsertionDelayEnd_yields (t n : Nat) (s : State) : Yields (timed [.rack]) s (execInsertionDelayEnd t n s) :=
  .next (.ite (.after (State.modEf_within ..) (.mono (State.advance_within ..))) (.mono (State.advance_within ..)))

theorem execWindowExit_yields (t n : Nat) (s : State) : Yields (timed [.rack]) s (execWindowExit t n s) :=
  .next (.ite (.after (State.modEf_within ..) (.mono (State.advance_within ..))) (.mono (State.advance_within ..)))

theorem execEfuseFastTrip_yields (t n : Nat) (s : State) : Yields (timed [.rack, .icu, .plg]) s (execEfuseFastTrip t n s) := by
  delta execEfuseFastTrip
  extract_lets +onlyGivenNames _
  exact .advance (t := t) (.next (.ite (.mono (efFault_within ..)) .refl))

theorem execSoftStartExpiry_yields (t n : Nat) (s : State) :
    Yields (timed [.rack, .icu, .plg]) s (execSoftStartExpiry t n s) := by
  delta execSoftStartExpiry
  extract_lets +onlyGivenNames _
  exact .advance (t := t) (.next (.ite (.mono (efFault_within ..)) .refl))

theorem execPowerGood_yields (t n : Nat) (s : State) : Yields (timed [.rack]) s (execPowerGood t n s) :=
  .next (.ite (.after (State.modEf_within ..) (.mono (State.advance_within ..))) (.mono (State.advance_within ..)))

theorem gateFault_within (s : State) (n : Nat) : Within [.rack, .icu, .flt, .plg] s (gateFault s n) :=
  .ite (.after (detected_within ..) (.after (efFault_within ..) (.mono (State.modEf_within ..)))) .refl

theorem execGateFault_yields (t n : Nat) (s : State) : Yields (timed [.rack, .icu, .flt, .plg]) s (execGateFault t n s) :=
  .next (.after (gateFault_within ..) (.mono (State.advance_within ..)))

theorem execEfuseFault_yields (t n : Nat) (f : EfFault) (s : State) :
    Yields (timed [.rack, .icu, .flt, .plg]) s (execEfuseFault t n f s) := by
  delta execEfuseFault
  extract_lets +onlyGivenNames _ _
  exact .advance (t := t)
    (.next (.ite .refl (.alts6 (fun _ => .mono (efFault_within ..)) (fun _ => .ite (.mono (efFault_within ..)) .refl)
    (fun _ => .ite (.mono (efFault_within ..)) .refl) (fun _ => .ite (.mono (efFault_within ..)) .refl)
    (fun _ => .ite (.mono (efFault_within ..)) .refl) fun _ => .mono (gateFault_within ..))))

theorem execRetryTimerExpiry_yields (t n : Nat) (s : State) : Yields (timed [.rack]) s (execRetryTimerExpiry t n s) :=
  .next (.ite (.after (efStart_within ..) (.after (State.modEf_within ..) (.mono (State.advance_within ..))))
    (.mono (State.advance_within ..)))

theorem execFaultCountClear_yields (t n : Nat) (s : State) : Yields (timed [.rack]) s (execFaultCountClear t n s) :=
  .next (.ite (.after (State.modEf_within ..) (.mono (State.advance_within ..))) (.mono (State.advance_within ..)))

theorem execAuxSetBus_yields (q : Req) (s : State) : Yields (answered [.red, .rack]) s (execAuxSetBus q s) :=
  setR_yields fun s p => .mono (State.setRack_within ..)

theorem execAuxGetBus_yields (q : Req) (s : State) : Yields (answered []) s (execAuxGetBus q s) :=
  .mono (getNone_yields ..)

theorem execAuxSetCap_yields (q : Req) (s : State) : Yields (answered [.red, .rack]) s (execAuxSetCap q s) :=
  setR_yields fun s p => .mono (State.setRack_within ..)

theorem setFan_within (s : State) (f d : Nat) : Within [.rack] s (setFan s f d) :=
  State.setRack_within ..

theorem execAuxSetFan_yields (q : Req) (s : State) : Yields (answered [.red, .rack]) s (execAuxSetFan q s) :=
  setR_yields fun s p => .mono (setFan_within ..)

theorem execAuxGetStatus_yields (q : Req) (s : State) : Yields (answered []) s (execAuxGetStatus q s) :=
  .mono (getW_yields ..)

theorem storeEf_within (s : State) (p : Bytes) : Within [.rack] s (storeEf s p) :=
  .after (efStart_within ..) (State.modEf_within ..)

theorem execAuxSetEf_yields (q : Req) (s : State) : Yields (answered [.red, .rack]) s (execAuxSetEf q s) :=
  command_yields fun s => .after (commit_within ..) (.mono (storeEf_within ..))

theorem execAuxGetEf_yields (q : Req) (s : State) : Yields (answered []) s (execAuxGetEf q s) :=
  .mono (getI_yields ..)

theorem efCommand_yields {l : List Piece} {op : Nat} {state : State → Nat → Option Nat} {run : State → Req → Nat → State}
    {q : Req}
    {s : State} (h : ∀ s n, Within l s (run s q n)) (e : among (answered []) l = true := by exact Eq.refl true) :
    Yields l s (efCommand op state run q s) :=
  command_yields (fun s => h s _) e

theorem execAuxEfOn_yields (q : Req) (s : State) : Yields (answered [.red, .rack]) s (execAuxEfOn q s) :=
  efCommand_yields fun s n => .after (commit_within ..) (.after (efStart_within ..) (.mono (State.modEf_within ..)))

theorem efOff_within (s : State) (n : Nat) : Within [.rack] s (efOff s n) :=
  State.modEf_within ..

theorem execAuxEfOff_yields (q : Req) (s : State) : Yields (answered [.red, .rack]) s (execAuxEfOff q s) :=
  efCommand_yields fun s n => .after (commit_within ..) (.mono (efOff_within ..))

theorem execAuxEfReset_yields (q : Req) (s : State) :
    Yields (answered [.str, .rings, .bal, .conv, .phase, .saf, .red, .rack, .flt]) s (execAuxEfReset q s) :=
  efCommand_yields fun s n => .ite (.after (startRestore_within ..) (.mono (State.modEf_within ..)))
    (.after (commit_within ..) (.after (efStart_within ..) (.after (State.modEf_within ..) (.mono (State.modEf_within ..)))))

/-! ## Thermal inputs (06_impedance_thermal.md R177 to R187) -/

theorem syncWarnings_within (s : State) : Within [.th, .icu, .plg] s (syncWarnings s) :=
  .foldl .refl fun s x => .ite .refl (.after (groupRecord_within ..) (.of rfl rfl))

theorem tiSafety_within (s : State) (n : Nat) (v : Option Int) (c : Channel) :
    Within [.str, .pwr, .rings, .th, .bal, .conv, .phase, .saf, .hpr, .icu, .plg, .mem] s (tiSafety s n v c) := by
  delta tiSafety
  extract_lets +onlyGivenNames _
  refine .ite .refl (.foldl .refl fun s x => .ite .refl ?_)
  extract_lets +onlyGivenNames _ _ s1
  exact .then (u := s1) (.ite (.mono (trip_within ..)) .refl) (.mono (State.modTi_within ..))

theorem tiJudge_within (s : State) (n : Nat) (v : Option Int) :
    Within [.str, .pwr, .rings, .th, .bal, .conv, .phase, .saf, .rack, .hpr, .icu, .plg, .mem] s (tiJudge s n v) := by
  delta tiJudge
  extract_lets +onlyGivenNames s1 _ s2 s3
  refine .then (u := s3) (.ite ?_ .refl) (.then (u := s2) (.after (tiSafety_within ..) (.mono (tiSafety_within ..)))
    (.then (u := s1) (.option .refl fun _ => .after (syncWarnings_within ..) (.mono (State.modTi_within ..)))
    (.mono (State.modTi_within ..))))
  extract_lets +onlyGivenNames _ _ s4
  exact .then (u := s4) (.ite (.mono (efFault_within ..)) .refl) (.mono (State.modTi_within ..))

theorem execTiSample_yields (t n : Nat) (r : TiReading) (s : State) :
    Yields (timedAnswer [.str, .rings, .th, .bal, .conv, .phase, .saf, .rack, .flt, .free]) s (execTiSample t n r s) := by
  delta execTiSample
  extract_lets +onlyGivenNames _
  refine .advance (t := t) (.next (.ite .refl ?_))
  extract_lets +onlyGivenNames s2
  refine .then (u := s2) (.ite .refl ?_) (.ite .refl (.mono (detected_within ..)))
  extract_lets +onlyGivenNames _ _ _ _ s3
  refine .then (u := s3) (.ite (.mono (tiJudge_within ..))
    (.ite ?_ (.ite ?_ (.after (tiJudge_within ..) (.mono (State.modTi_within ..)))))) (.mono (State.modTi_within ..))
  · extract_lets +onlyGivenNames s4
    exact .then (u := s4) (.after (tiJudge_within ..) (.mono (State.modTi_within ..))) (.mono (groupRecord_within ..))
  · extract_lets +onlyGivenNames _
    exact .after (tiJudge_within ..) (.after (State.modTi_within ..) (.mono (State.draw_within ..)))

theorem execSensorRecovery_yields (t n : Nat) (s : State) : Yields (timed [.th]) s (execSensorRecovery t n s) := by
  delta execSensorRecovery
  extract_lets +onlyGivenNames _
  refine .advance (t := t) (.next (.ite ?_ ?_))
  · extract_lets +onlyGivenNames _
    exact .ite (.mono (State.modTi_within ..)) .refl
  · extract_lets +onlyGivenNames _
    exact .ite (.of rfl rfl) .refl

theorem sensorSample_within (slow : Bool) (crc : Nat) (s : State) (key : Nat) (raw : Int) :
    Within [.str, .pwr, .rings, .th, .bal, .conv, .phase, .saf, .hpr, .icu, .plg, .mem] s (sensorSample slow crc s key raw) :=
  .ite (.after (trip_within ..)
    (.ite (.after (trip_within ..) (.after (within_th ..) (.ite (.mono (groupRecord_within ..)) .refl)))
    (.after (within_th ..) (.ite (.mono (groupRecord_within ..)) .refl))))
    (.ite (.after (trip_within ..) (.after (within_th ..) (.ite (.mono (groupRecord_within ..)) .refl)))
    (.after (within_th ..) (.ite (.mono (groupRecord_within ..)) .refl)))

theorem sensorRound_within (s : State) (i m : Nat) (d : RoundData) :
    Within [.str, .pwr, .rings, .th, .bal, .conv, .phase, .saf, .hpr, .icu, .plg, .mem] s (sensorRound s i m d) :=
  .foldl .refl fun s x => sensorSample_within ..

theorem storeTi_within (s : State) (p : Bytes) : Within [.th, .icu, .plg] s (storeTi s p) :=
  .after (syncWarnings_within ..) (.mono (State.modTi_within ..))

theorem execSysSetTi_yields (q : Req) (s : State) :
    Yields (answered [.str, .rings, .th, .bal, .conv, .phase, .saf, .red, .flt]) s (execSysSetTi q s) :=
  command_yields fun s => .ite (.after (startRestore_within ..) (.mono (storeTi_within ..)))
    (.after (commit_within ..) (.mono (storeTi_within ..)))

theorem execSysGetTi_yields (q : Req) (s : State) : Yields (answered []) s (execSysGetTi q s) :=
  .mono (getI_yields ..)

theorem setWarn_within (s : State) (p : Bytes) : Within [.th] s (setWarn s p) := by
  delta setWarn
  exact .of rfl rfl

theorem execSysSetThermalWarn_yields (q : Req) (s : State) : Yields (answered [.th, .red]) s (execSysSetThermalWarn q s) :=
  setR_yields fun s p => .mono (setWarn_within ..)

theorem execSysGetThermal_yields (q : Req) (s : State) : Yields (answered []) s (execSysGetThermal q s) :=
  .mono (getW_yields ..)

/-! ## Fenline rings (04_fenline_rings.md) -/

theorem sendFrame_within (s : State) (i m type arg : Nat) (resent : Bool) :
    Within [.rings] s (sendFrame s i m type arg resent) := by
  delta sendFrame
  extract_lets +onlyGivenNames _
  refine .ite .refl ?_
  extract_lets +onlyGivenNames _
  exact State.modRing_within ..

theorem creditBack_within (s : State) (i : Nat) (o : Outstanding) : Within [.rings] s (creditBack s i o) :=
  State.modRing_within ..

theorem loseFrame_within (s : State) (i : Nat) (o : Outstanding) : Within [.rings, .icu, .flt, .plg] s (loseFrame s i o) :=
  .foldl (.after (State.modRing_within ..) (.mono (creditBack_within ..))) fun s x => .mono (detected_within ..)

theorem execFrameLost_yields (t i m seq : Nat) (s : State) :
    Yields (timed [.rings, .icu, .flt, .plg]) s (execFrameLost t i m seq s) := by
  delta execFrameLost
  extract_lets +onlyGivenNames _
  exact .advance (t := t) (.next (.optionSwap (fun _ => .ite (.mono (loseFrame_within ..)) .refl) .refl))

theorem response_within (s : State) (i m seq : Nat) : Within [.rings, .icu, .flt, .plg] s (response s i m seq).1 := by
  delta response
  extract_lets late
  split
  · exact .mono (State.modRing_within ..)
  · exact .iteFst (.after (State.modRing_within ..) (loseFrame_within ..)) (.mono (creditBack_within ..))

theorem enterTwoEnded_within (s : State) (i : Nat) : Within [.rings] s (enterTwoEnded s i) :=
  .ite .refl (State.modRing_within ..)

theorem reportBreak_within (s : State) (i : Nat) : Within [.rings, .icu, .plg] s (reportBreak s i) :=
  .ite .refl (.after (groupRecord_within ..) (.mono (State.modRing_within ..)))

theorem judgeReach_within (s : State) (i : Nat) :
    Within [.str, .pwr, .rings, .bal, .conv, .phase, .saf, .hpr, .icu, .flt, .plg, .mem] s (judgeReach s i) := by
  delta judgeReach
  extract_lets +onlyGivenNames _
  refine .ite .refl ?_
  extract_lets +onlyGivenNames _ s1 s2
  exact .then (u := s2) (retierStr_within ..)
    (.then (u := s1) (.ite (.after (tripBoth_within ..) (.mono (tripBoth_within ..))) .refl) (.mono (State.modRing_within ..)))

theorem execPortDown_yields (t i term : Nat) (s : State) : Yields (timed [.rings]) s (execPortDown t i term s) := by
  delta execPortDown
  extract_lets +onlyGivenNames _
  refine .advance (t := t) (.next (.ite ?_ .refl))
  extract_lets +onlyGivenNames s2
  exact .then (u := s2) (.ite (.mono (enterTwoEnded_within ..)) .refl) (.mono (State.modRing_within ..))

theorem execPortUp_yields (t i term : Nat) (s : State) : Yields (timed [.rings]) s (execPortUp t i term s) := by
  delta execPortUp
  extract_lets +onlyGivenNames _
  exact .advance (t := t) (.next (.ite (.mono (State.modRing_within ..)) .refl))

theorem execTwoEndedOperation_yields (t i : Nat) (s : State) : Yields (timed [.rings]) s (execTwoEndedOperation t i s) :=
  .next (.ite (.after (enterTwoEnded_within ..) (.mono (State.advance_within ..))) (.mono (State.advance_within ..)))

theorem execTwoEndedExit_yields (t i : Nat) (s : State) :
    Yields (timedAnswer [.str, .rings, .bal, .conv, .phase, .saf, .flt]) s (execTwoEndedExit t i s) :=
  .next (.ite (.after (judgeReach_within ..) (.after (State.modRing_within ..) (.mono (State.advance_within ..))))
    (.mono (State.advance_within ..)))

theorem execTurnedFrame_yields (t i m seq : Nat) (s : State) : Yields (timed [.rings]) s (execTurnedFrame t i m seq s) := by
  delta execTurnedFrame
  extract_lets +onlyGivenNames _
  refine .advance (t := t) (.next (.optionSwap (fun _ => .ite ?_ .refl) .refl))
  extract_lets +onlyGivenNames s2
  exact .then (u := s2) (.ite .refl (.mono (sendFrame_within ..)))
    (.after (enterTwoEnded_within ..) (.mono (creditBack_within ..)))

theorem commandLink_within (s : State) (i pos port code : Nat) : Within [.rings] s (commandLink s i pos port code) :=
  .ite (.after (sendFrame_within ..) (.ite (sendFrame_within ..) .refl)) (.ite (sendFrame_within ..) .refl)

theorem execLinkCrcBurst_yields (t i pos port count : Nat) (s : State) :
    Yields (allBut [.tpe, .dsp, .gx2, .le, .seq, .net, .upd, .canRam, .free]) s (execLinkCrcBurst t i pos port count s) :=
  .next (.ite (.mono (State.advance_within ..))
    (.ite (.after (retireUnit_within ..)
    (.after (commandLink_within ..) (.after (State.modRing_within ..) (.mono (State.advance_within ..)))))
    (.after (State.modRing_within ..) (.mono (State.advance_within ..)))))

theorem execDelay_yields (t i link delayNs : Nat) (s : State) : Yields (timed [.rings]) s (execDelay t i link delayNs s) :=
  .next (.ite (.after (State.modRing_within ..) (.mono (State.advance_within ..))) (.mono (State.advance_within ..)))

theorem execBeacon_yields (t i : Nat) (s : State) :
    Yields (timedAnswer [.str, .rings, .bal, .conv, .phase, .saf, .flt]) s (execBeacon t i s) :=
  .next (.ite (.mono (State.advance_within ..))
    (.ite (.ite (.after (judgeReach_within ..) (.after (State.modRing_within ..) (.mono (State.advance_within ..))))
    (.mono (State.advance_within ..))) (.ite (.after (State.modRing_within ..) (.mono (State.advance_within ..)))
    (.mono (State.advance_within ..)))))

theorem alarmSp_within (s : State) (i m : Nat) :
    Within [.str, .pwr, .rings, .bal, .conv, .phase, .saf, .hpr, .icu, .plg, .mem] s (alarmSp s i m) := by
  delta alarmSp
  extract_lets +onlyGivenNames _
  exact .option .refl fun _ => .ite (.foldl .refl fun s x => trip_within ..) .refl

theorem judgeAlarms_within (s : State) (i : Nat) :
    Within [.str, .pwr, .rings, .bal, .conv, .phase, .saf, .hpr, .icu, .plg, .mem] s (judgeAlarms s i) :=
  .foldl (.ite .refl (trip_within ..)) fun s x => alarmSp_within ..

theorem execBeaconReturn_yields (t i : Nat) (b : BeaconCopy) (s : State) :
    Yields (timedAnswer [.str, .rings, .bal, .conv, .phase, .saf, .flt]) s (execBeaconReturn t i b s) :=
  .next (.ite (.mono (State.advance_within ..))
    (.ite (.ite (.after (judgeAlarms_within ..)
    (.after (judgeReach_within ..) (.after (State.modRing_within ..) (.mono (State.advance_within ..)))))
    (.mono (State.advance_within ..)))
    (.after (judgeAlarms_within ..)
    (.after (judgeReach_within ..)
    (.ite (.after (reportBreak_within ..)
    (.after (enterTwoEnded_within ..) (.after (State.modRing_within ..) (.mono (State.advance_within ..)))))
    (.after (State.modRing_within ..) (.mono (State.advance_within ..))))))))

theorem execBeaconTimeout_yields (t i m : Nat) (s : State) : Yields (timed [.rings]) s (execBeaconTimeout t i m s) :=
  .next (.ite (.after (State.modMon_within ..) (.mono (State.advance_within ..))) (.mono (State.advance_within ..)))

theorem execMonitorRestart_yields (t i m : Nat) (s : State) :
    Yields (timed [.rings, .icu, .flt, .plg]) s (execMonitorRestart t i m s) :=
  .next (.ite (.after (detected_within ..) (.after (State.modMon_within ..) (.mono (State.advance_within ..))))
    (.mono (State.advance_within ..)))

theorem execHardwareComparatorAlarm_yields (t i m : Nat) (k : Comparator) (ch : Nat) (s : State) :
    Yields (timed [.rings]) s (execHardwareComparatorAlarm t i m k ch s) :=
  .next (.ite (.mono (State.advance_within ..))
    (.after (State.modMon_within ..) (.after (State.modMon_within ..) (.mono (State.advance_within ..)))))

theorem execAlarmDetailRead_yields (t i m : Nat) (s : State) : Yields (timed [.rings]) s (execAlarmDetailRead t i m s) := by
  delta execAlarmDetailRead
  extract_lets +onlyGivenNames _
  exact .advance (t := t) (.next (.ite (.mono (sendFrame_within ..)) .refl))

theorem sendEnum_within (s : State) (i : Nat) : Within [.rings] s (sendEnum s i) :=
  State.modRing_within ..

theorem execEnumFrame_yields (t i : Nat) (s : State) : Yields (timed [.rings]) s (execEnumFrame t i s) :=
  .next (.ite (.after (sendEnum_within ..) (.mono (State.advance_within ..))) (.mono (State.advance_within ..)))

theorem execUnaddressedMonitor_yields (t i : Nat) (s : State) : Yields (timed [.rings]) s (execUnaddressedMonitor t i s) :=
  .next (.ite (.after (sendEnum_within ..) (.mono (State.advance_within ..))) (.mono (State.advance_within ..)))

theorem enumDone_within (s : State) (i : Nat) : Within [.rings, .red, .hpr, .icu, .flt, .mem] s (enumDone s i) := by
  delta enumDone
  extract_lets +onlyGivenNames _
  refine .option .refl fun _ => ?_
  extract_lets +onlyGivenNames s1 _
  refine .then (u := s1) (.ite ?_ (.mono (commitExec_within ..))) (.mono (State.modRing_within ..))
  extract_lets +onlyGivenNames s2
  exact .then (u := s2) (.foldl .refl fun s x => .mono (testUnit_within ..)) (.mono (State.setFlt_within ..))

theorem execEnumReturn_yields (t i : Nat) (e : EnumReturn) (s : State) :
    Yields (timedAnswer [.str, .rings, .bal, .conv, .phase, .saf, .red, .flt]) s (execEnumReturn t i e s) := by
  delta execEnumReturn
  extract_lets +onlyGivenNames _ _
  refine .advance (t := t) (.next (.ite .refl ?_))
  extract_lets +onlyGivenNames _ _ _ _ _ s2 s3
  exact .then (u := s3) (.after (enumDone_within ..) (.mono (judgeReach_within ..)))
    (.then (u := s2) (.ite (.mono (groupRecord_within ..)) .refl) (.mono (State.modRing_within ..)))

theorem execSched_yields (t i : Nat) (s : State) : Yields (timed [.rings]) s (execSched t i s) :=
  .next (.ite (.after (State.modRing_within ..)
    (.after (progTrigger_within ..) (.after (progTrigger_within ..) (.mono (State.advance_within ..)))))
    (.mono (State.advance_within ..)))

theorem execRoundTrigger_yields (t : Nat) (s : State) : Yields (timed [.hviStr, .rings]) s (execRoundTrigger t s) := by
  delta execRoundTrigger
  extract_lets s1
  exact .from (u := s1) (.next (.ite (.of rfl rfl) .refl)) (.mono (State.advance_within ..))

theorem execRoundRead_yields (t i m : Nat) (s : State) : Yields (timed [.rings]) s (execRoundRead t i m s) :=
  .next (.ite (.after (sendFrame_within ..) (.mono (State.advance_within ..))) (.mono (State.advance_within ..)))

theorem takeData_within (s : State) (i m kind : Nat) (d : RoundData) :
    Within [.str, .pwr, .rings, .cee, .bal, .conv, .phase, .saf, .hpr, .icu, .flt, .plg, .upd, .mem] s (takeData s i m kind d) :=
  .after (fwReturned_within ..)
    (.after (alarmSp_within ..)
    (.ite (.after (detected_within ..) (.after (State.modMon_within ..) (.mono (bookReading_within ..))))
    (.after (State.modMon_within ..) (.mono (bookReading_within ..)))))

theorem execData_yields (t i m seq kind : Nat) (d : RoundData) (s : State) :
    Yields (timedAnswer [.str, .rings, .cee, .bal, .conv, .phase, .saf, .flt, .upd]) s (execData t i m seq kind d s) := by
  delta execData
  refine .from (.next (.ite .refl (.ite ?_ (.ite (.mono (takeData_within ..)) .refl)))) (.mono (State.advance_within s t))
  split
  next e => exact .start e (.mono (response_within ..)) (.ite (.ite (.mono (takeData_within ..)) .refl) .refl)
  next e => exact .start e (.mono (response_within ..)) .refl

theorem voltJudge_within (s : State) (i m : Nat) (d : RoundData) :
    Within [.str, .pwr, .rings, .bal, .conv, .phase, .saf, .hpr, .icu, .plg, .mem] s (voltJudge s i m d) :=
  .ite .refl (.ite (.after (trip_within ..) (.ite (.after (trip_within ..) (.mono (State.modChanStr_within ..)))
    (.mono (State.modChanStr_within ..)))) (.ite (.after (trip_within ..) (.mono (State.modChanStr_within ..)))
    (.mono (State.modChanStr_within ..))))

theorem dataJudge_within (s : State) (i m : Nat) :
    Within [.str, .pwr, .rings, .bal, .conv, .phase, .saf, .hpr, .icu, .plg, .mem] s (dataJudge s i m) :=
  .ite (.after (trip_within ..)
    (.after (trip_within ..)
    (.after (trip_within ..)
    (.after (trip_within ..) (.ite (.after (trip_within ..) (.after (trip_within ..) (.after (trip_within ..) (trip_within ..))))
    .refl))))) (.ite (.after (trip_within ..) (.after (trip_within ..) (.after (trip_within ..) (trip_within ..)))) .refl)

theorem closeMonitor_within (s : State) (i m : Nat) :
    Within [.str, .pwr, .rings, .th, .bal, .conv, .phase, .saf, .hpr, .icu, .plg, .mem] s (closeMonitor s i m) := by
  delta closeMonitor
  extract_lets _ _ _
  split
  · exact .after (dataJudge_within ..)
      (.after (sensorRound_within ..) (.after (voltJudge_within ..) (.mono (State.modMon_within ..))))
  · exact .after (dataJudge_within ..) (.mono (State.modMon_within ..))

theorem closeRing_within (s : State) (i : Nat) :
    Within [.str, .pwr, .rings, .th, .bal, .conv, .phase, .saf, .hpr, .icu, .flt, .plg, .mem] s (closeRing s i) :=
  .ite .refl (.after (retierStr_within ..)
    (.after (State.modRing_within ..) (.foldl .refl fun s x => .mono (closeMonitor_within ..))))

theorem execRoundClose_yields (t : Nat) (s : State) :
    Yields (timedAnswer [.str, .rings, .th, .bal, .conv, .phase, .saf, .flt]) s (execRoundClose t s) :=
  .next (.foldl (.mono (State.advance_within ..)) fun s x => .mono (closeRing_within ..))

theorem cmdFrame_within (s : State) (i m : Nat) (own : Bool) (code : Nat) : Within [.rings] s (cmdFrame s i m own code).1 := by
  delta cmdFrame
  exact .iteFst .refl (.iteFst .refl (.after (State.modMon_within ..) (sendFrame_within ..)))

theorem ackWith_within (s : State) (i m code result : Nat) (f : Monitor → Monitor) :
    Within [.rings, .free] s (ackWith s i m code result f) :=
  .after (State.modMon_within ..) (.mono (State.draw_within ..))

theorem execBleedSet_yields (t i m : Nat) (own : Bool) (mask : BitVec 32) (floor duration : Nat) (s : State) :
    Yields (timed [.rings, .free]) s (execBleedSet t i m own mask floor duration s) := by
  delta execBleedSet
  refine .from (.next ?_) (.mono (State.advance_within s t))
  split
  next e => exact .start e (.mono (cmdFrame_within ..)) .refl
  next e => exact .start e (.mono (cmdFrame_within ..)) (.mono (ackWith_within ..))

theorem execBleedStop_yields (t i m : Nat) (own : Bool) (mask : BitVec 32) (s : State) :
    Yields (timed [.rings, .free]) s (execBleedStop t i m own mask s) := by
  delta execBleedStop
  refine .from (.next ?_) (.mono (State.advance_within s t))
  split
  next e => exact .start e (.mono (cmdFrame_within ..)) .refl
  next e => exact .start e (.mono (cmdFrame_within ..)) (.mono (ackWith_within ..))

theorem execShuttleSet_yields (t i m : Nat) (own : Bool) (a : ShuttleArgs) (s : State) :
    Yields (timed [.rings, .free]) s (execShuttleSet t i m own a s) := by
  delta execShuttleSet
  refine .from (.next ?_) (.mono (State.advance_within s t))
  split
  next e => exact .start e (.mono (cmdFrame_within ..)) .refl
  next e => exact .start e (.mono (cmdFrame_within ..)) (.mono (ackWith_within ..))

theorem execShuttleStop_yields (t i m : Nat) (own : Bool) (s : State) :
    Yields (timed [.rings, .free]) s (execShuttleStop t i m own s) := by
  delta execShuttleStop
  refine .from (.next ?_) (.mono (State.advance_within s t))
  split
  next e => exact .start e (.mono (cmdFrame_within ..)) .refl
  next e => exact .start e (.mono (cmdFrame_within ..)) (.mono (ackWith_within ..))

theorem portCmd_within (t i m : Nat) (own : Bool) (port code : Nat) (off : Bool) (s : State) :
    Within [.clk, .rings, .tsu, .free] s (portCmd t i m own port code off s) := by
  delta portCmd
  refine .then ?_ (.mono (State.advance_within s t))
  dsimp only
  split
  next e => exact .start e (.mono (cmdFrame_within ..)) .refl
  next e => exact .start e (.mono (cmdFrame_within ..)) (.mono (ackWith_within ..))

theorem execLinkDisable_yields (t i m : Nat) (own : Bool) (port : Nat) (s : State) :
    Yields (timed [.rings, .free]) s (execLinkDisable t i m own port s) :=
  .next (.mono (portCmd_within ..))

theorem execLinkEnable_yields (t i m : Nat) (own : Bool) (port : Nat) (s : State) :
    Yields (timed [.rings, .free]) s (execLinkEnable t i m own port s) :=
  .next (.mono (portCmd_within ..))

theorem execAck_yields (t i m seq code result value : Nat) (s : State) :
    Yields (timed [.rings, .bal, .icu, .flt, .plg]) s (execAck t i m seq code result value s) := by
  delta execAck
  refine .from (.next (.ite .refl ?_)) (.mono (State.advance_within s t))
  split
  next e => exact .start e (.mono (response_within ..)) .refl
  next u _ e =>
    refine .start e (.mono (response_within ..)) ?_
    extract_lets u1 u2
    exact .then (u := u2) (.ite (.mono (State.modRing_within ..)) .refl) (.then (u := u1)
      (.ite (.mono (State.modBal_within ..)) .refl) (.ite .refl (.mono (State.modRing_within ..))))

theorem execBleedEnd_yields (t i m ch vMv : Nat) (s : State) : Yields (timed [.rings]) s (execBleedEnd t i m ch vMv s) :=
  .next (.after (State.modMon_within ..) (.mono (State.advance_within ..)))

theorem execShuttleEnd_yields (t i m vMv : Nat) (s : State) : Yields (timed [.rings]) s (execShuttleEnd t i m vMv s) := by
  delta execShuttleEnd
  extract_lets +onlyGivenNames _
  refine .advance (t := t) (.next (.option .refl fun _ => ?_))
  extract_lets +onlyGivenNames _ _
  exact .ite (.mono (State.modMon_within ..)) .refl

theorem execBalanceRead_yields (t i : Nat) (s : State) : Yields (timed [.rings]) s (execBalanceRead t i s) :=
  .next (.ite (.foldl (.mono (State.advance_within ..)) fun s x => .mono (sendFrame_within ..)) (.mono (State.advance_within ..)))

theorem startEnum_within (s : State) (op : Nat) (q : Req) (i : Nat) (accept : Bool) :
    Within [.rings, .hpr] s (startEnum s op q i accept) :=
  .after (State.modRing_within ..) (.mono (keepExec_within ..))

theorem storeRing_within (s : State) (p : Bytes) :
    Within [.str, .pwr, .rings, .bal, .conv, .phase, .saf, .hpr, .icu, .flt, .plg, .mem] s (storeRing s p) :=
  .after (retierStr_within ..) (.after (within_rings ..) (.mono (State.modRing_within ..)))

theorem execStrSetRing_yields (q : Req) (s : State) :
    Yields (answered [.str, .rings, .bal, .conv, .phase, .saf, .flt]) s (execStrSetRing q s) :=
  command_yields fun s => .after (startEnum_within ..) (.mono (storeRing_within ..))

theorem execStrEnumerate_yields (q : Req) (s : State) : Yields (answered [.rings]) s (execStrEnumerate q s) :=
  command_yields fun s => .mono (startEnum_within ..)

theorem execStrRingLink_yields (q : Req) (s : State) :
    Yields (answered [.str, .rings, .bal, .conv, .phase, .saf, .red, .flt]) s (execStrRingLink q s) := by
  delta execStrRingLink
  refine command_yields fun s => ?_
  extract_lets +onlyGivenNames _ _ _ _ _ _
  refine .ite ?_ ?_
  · extract_lets +onlyGivenNames s1
    exact .then (u := s1) (.after (commit_within ..)
      (.after (retierStr_within ..) (.after (enterTwoEnded_within ..) (.mono (commandLink_within ..)))))
      (.mono (State.modRing_within ..))
  · extract_lets +onlyGivenNames _ _ s1 s2
    exact .then (u := s2) (.ite (.after (commit_within ..) (.mono (retierStr_within ..))) (.mono (startRestore_within ..)))
      (.then (u := s1) (.mono (commandLink_within ..)) (.mono (State.modRing_within ..)))

theorem execStrGetRing_yields (q : Req) (s : State) : Yields (answered []) s (execStrGetRing q s) :=
  .mono (getI_yields ..)

theorem execStrGetRound_yields (q : Req) (s : State) : Yields (answered []) s (execStrGetRound q s) :=
  .mono (getI_yields ..)

/-! ## The Cell Estimation Engine (05_cell_estimation.md) -/

theorem changeBand_within (s : State) (i : Nat) (b : Band) (up : Bool) : Within [.cee] s (changeBand s i b up) :=
  State.modEst_within ..

theorem execStepRateChange_yields (t i : Nat) (s : State) : Yields (timed [.cee]) s (execStepRateChange t i s) := by
  delta execStepRateChange
  extract_lets +onlyGivenNames _ _ _
  exact .advance (t := t)
    (.next (.ite .refl (.alts4 (fun _ => .refl) (fun _ => .ite (.mono (changeBand_within ..)) .refl)
    (fun _ => .ite (.mono (changeBand_within ..)) (.ite (.mono (changeBand_within ..)) .refl)) fun _ => .ite
    (.mono (changeBand_within ..)) (.ite (.mono (changeBand_within ..)) .refl))))

theorem startCell_within (s : State) (i k tk : Nat) (v : Rat) (vRaw : Nat) :
    Within [.cee, .free] s (startCell s i k tk v vRaw) := by
  delta startCell
  extract_lets +onlyGivenNames _ _ _ _ _ _ _ _ _
  split
  · extract_lets +onlyGivenNames _ _ _ _ _ _ _ _ _ _ _ _ s1
    exact .then (u := s1) (.mono (State.modCell_within ..)) (.after (State.draw_within ..) (.mono (State.draw_within ..)))

theorem resetCov_within (s : State) (idx : Nat) : Within [.cee, .icu, .plg] s (resetCov s idx) :=
  .after (groupRecord_within ..) (.after (State.setCee_within ..) (.mono (State.modCell_within ..)))

theorem measure_within (s : State) (n i k : Nat) (x p : List Rat) (pts : List (List Rat)) (v cur : Rat) (t : Int) :
    Within [.cee, .icu, .plg] s (measure s n i k x p pts v cur t) := by
  delta measure
  extract_lets _ _ _
  split
  · exact .ite (.mono (State.modCell_within ..)) (.ite (.after (resetCov_within ..) (.mono (State.modCell_within ..)))
      (.mono (State.modCell_within ..)))

theorem anchorStep_within (s : State) (i idx : Nat) (dq : Int) : Within [.cee] s (anchorStep s i idx dq) :=
  State.modCell_within ..

theorem ohmStep_within (s : State) (mt : Bytes) (t : Int) (idx : Nat) : Within [.cee] s (ohmStep s mt t idx) :=
  State.modCell_within ..

theorem stepCell_within (i tk : Nat) (dInt : Int) (dt cur : Rat) (curMa : Int) (s : State) (k : Nat) :
    Within [.cee, .icu, .plg, .free] s (stepCell i tk dInt dt cur curMa s k) := by
  delta stepCell
  dsimp only
  refine .ite (.option (.mono (State.modCell_within ..)) fun _ => .after (startCell_within ..) (.mono (State.modCell_within ..)))
    (.after (State.modCell_within ..) (.after (anchorStep_within ..) ?_))
  split
  · exact .after (resetCov_within ..) (.after (State.draw_within ..) (.mono (ohmStep_within ..)))
  · exact .ite (.option (.after (resetCov_within ..)
      (.after (State.modCell_within ..) (.after (State.draw_within ..) (.mono (ohmStep_within ..))))) fun _ => .after
      (measure_within ..) (.after (State.modCell_within ..) (.after (State.draw_within ..) (.mono (ohmStep_within ..)))))
      (.after (State.modCell_within ..)
      (.after (State.modCell_within ..) (.after (State.draw_within ..) (.mono (ohmStep_within ..)))))

theorem booksCheck_within (s0 s1 : State) (i : Nat) (dInt : Int) : Within [.cee, .icu, .flt, .plg] s1 (booksCheck s0 s1 i dInt) :=
  .ite (.mono (State.modEst_within ..))
    (.after (detected_within ..) (.after (State.modEst_within ..) (.mono (State.modEst_within ..))))

theorem stepString_within (s : State) (i : Nat) : Within [.cee, .icu, .flt, .plg, .free] s (stepString s i) :=
  .after (State.modEst_within ..) (.after (booksCheck_within ..) (.foldl .refl fun s x => .mono (stepCell_within ..)))

theorem judgeStale_within (s : State) (i : Nat) : Within [.cee] s (judgeStale s i) :=
  .foldl .refl fun s x => .ite (State.modCell_within ..) .refl

theorem sopString_within (optional : Bool) (s : State) (i : Nat) : Within [.cee, .free] s (sopString optional s i) := by
  delta sopString
  extract_lets +onlyGivenNames _ _
  refine .ite (.mono (State.modEst_within ..)) ?_
  extract_lets +onlyGivenNames _ s1 _ _ _ s2
  refine .then (u := s2) (.ite ?_ .refl) (.then (u := s1) (.mono (State.modEst_within ..)) (.mono (State.draw_within ..)))
  extract_lets +onlyGivenNames _
  exact .foldl .refl fun s x => .mono (State.modCell_within ..)

theorem beginJournal_within (s : State) : Within [.cee, .free] s (beginJournal s) := by
  delta beginJournal
  exact .after (State.setCee_within ..) (.of rfl rfl)

theorem triggerJournal_within (s : State) (reason : Nat) : Within [.pwr, .cee, .free] s (triggerJournal s reason) := by
  delta triggerJournal
  extract_lets +onlyGivenNames _
  exact .ite (.mono (State.setCee_within ..))
    (.ite (.mono (beginJournal_within ..)) (.after (deferWrite_within ..) (.mono (State.setCee_within ..))))

theorem execJournalWrite_yields (t reason : Nat) (s : State) :
    Yields (timed [.pwr, .cee, .free]) s (execJournalWrite t reason s) :=
  .next (.ite (.mono (State.advance_within ..))
    (.after (triggerJournal_within ..) (.ite (.after (State.setCee_within ..) (.mono (State.advance_within ..)))
    (.mono (State.advance_within ..)))))

theorem execJournalWriteDone_yields (t : Nat) (s : State) : Yields (timed [.pwr, .cee, .free]) s (execJournalWriteDone t s) := by
  delta execJournalWriteDone
  extract_lets _ _
  refine .advance (t := t) (.next ?_)
  split
  · exact .refl
  · extract_lets s2
    refine .then (u := s2) ?_ (.mono (State.setCee_within ..))
    split
    · exact .refl
    · exact .mono (triggerJournal_within ..)

theorem loadJournal_within (s : State) : Within [.cee, .icu, .plg] s (loadJournal s) :=
  .ite (.after (groupRecord_within ..) (.after (within_cee ..) (.mono (State.setCee_within ..))))
    (.after (within_cee ..) (.mono (State.setCee_within ..)))

theorem ageing_within (s : State) (idx : Nat) : Within [.cee, .icu, .plg] s (ageing s idx) :=
  .ite .refl (.ite (.after (groupRecord_within ..) (.mono (State.modCell_within ..))) .refl)

theorem restTrack_within (s : State) (i : Nat) : Within [.cee] s (restTrack s i) :=
  .ite (.after (State.modEst_within ..) (State.modEst_within ..)) (State.modEst_within ..)

theorem execRestWindowRequest_yields (t i : Nat) (s : State) : Yields (timed [.cee]) s (execRestWindowRequest t i s) :=
  .next (.ite (.after (State.modEst_within ..) (.mono (State.advance_within ..))) (.mono (State.advance_within ..)))

theorem execAnchorOverdue_yields (t i : Nat) (s : State) : Yields (timed [.cee, .icu, .plg]) s (execAnchorOverdue t i s) :=
  .next (.ite (.after (groupRecord_within ..) (.after (State.modEst_within ..) (.mono (State.advance_within ..))))
    (.mono (State.advance_within ..)))

theorem periodString_within (optional : Bool) (s : State) (i : Nat) :
    Within [.cee, .icu, .flt, .plg, .free] s (periodString optional s i) :=
  .ite (.foldl (.after (sopString_within ..)
    (.after (judgeStale_within ..) (.ite (.after (stepString_within ..) (.mono (restTrack_within ..)))
    (.mono (restTrack_within ..))))) fun s x => .mono (ageing_within ..))
    (.after (sopString_within ..)
    (.after (judgeStale_within ..) (.ite (.after (stepString_within ..) (.mono (restTrack_within ..)))
    (.mono (restTrack_within ..)))))

theorem execCeePeriod_yields (t : Nat) (s : State) :
    Yields (timed [.cee, .hpr, .icu, .flt, .plg, .mem, .free]) s (execCeePeriod t s) := by
  delta execCeePeriod
  extract_lets +onlyGivenNames _ _ _
  refine .advance (t := t) (.next (.ite .refl ?_))
  extract_lets +onlyGivenNames _ _ s2
  exact .then (u := s2) (.after (icuShared_within ..) (.foldl .refl fun s x => .mono (periodString_within ..)))
    (.after (State.setCee_within ..) (.mono (State.draw_within ..)))

theorem ceeDeadline_within (s : State) : Within [.cee, .icu, .flt, .plg] s (ceeDeadline s) :=
  .after (detected_within ..) (.mono (State.setCee_within ..))

theorem storeEst_within (s : State) (p : Bytes) : Within [.cee] s (storeEst s p) :=
  State.modEst_within ..

theorem execEstSetConfig_yields (q : Req) (s : State) : Yields (answered [.cee, .red]) s (execEstSetConfig q s) :=
  command_yields fun s => .after (commit_within ..) (.mono (storeEst_within ..))

theorem execEstGetConfig_yields (q : Req) (s : State) : Yields (answered []) s (execEstGetConfig q s) :=
  .mono (getI_yields ..)

theorem execEstGetCells_yields (q : Req) (s : State) : Yields (answered []) s (execEstGetCells q s) :=
  .mono (getC_yields ..)

theorem execEstMapTable_yields (q : Req) (s : State) : Yields (answered []) s (execEstMapTable q s) :=
  .mono (mapM_yields ..)

theorem execEstGetSop_yields (q : Req) (s : State) : Yields (answered []) s (execEstGetSop q s) :=
  .mono (getI_yields ..)

theorem storeSoc_within (s : State) (p : Bytes) : Within [.cee] s (storeSoc s p) :=
  .foldl .refl fun s x => .ite (State.modCell_within ..) .refl

theorem execEstSetSoc_yields (q : Req) (s : State) : Yields (answered [.cee, .red]) s (execEstSetSoc q s) :=
  command_yields fun s => .after (commit_within ..) (.mono (storeSoc_within ..))

theorem storeReset_within (s : State) (p : Bytes) : Within [.cee] s (storeReset s p) :=
  .foldl .refl fun s x => .ite (State.modCell_within ..) .refl

theorem execEstResetCell_yields (q : Req) (s : State) : Yields (answered [.cee, .red]) s (execEstResetCell q s) :=
  command_yields fun s => .after (commit_within ..) (.mono (storeReset_within ..))

theorem execEstJournal_yields (q : Req) (s : State) : Yields (answered [.cee, .free]) s (execEstJournal q s) :=
  command_yields fun s => .after (ok_within ..) (.ite (.mono (triggerJournal_within ..)) .refl)

theorem execEstRequestAnchor_yields (q : Req) (s : State) : Yields (answered [.cee]) s (execEstRequestAnchor q s) :=
  command_yields fun s => .after (ok_within ..) (.mono (State.modEst_within ..))

theorem execEstGetStatus_yields (q : Req) (s : State) : Yields (answered []) s (execEstGetStatus q s) :=
  .mono (getNone_yields ..)

/-! ## The tone probe (06_impedance_thermal.md R155 to R176) -/

theorem execTpeSetPlan_yields (q : Req) (s : State) : Yields (answered [.tpe, .red]) s (execTpeSetPlan q s) :=
  command_yields fun s => .after (commit_within ..) (.mono (State.setTpe_within ..))

theorem modPair_within (s : State) (k : Nat) (f : Pair → Pair) : Within [.tpe] s (modPair s k f) :=
  State.setTpe_within ..

theorem stopPair_within (s : State) (k : Nat) : Within [.tpe] s (stopPair s k) :=
  .ite (modPair_within ..) .refl

theorem execPlanEffect_yields (t : Nat) (s : State) : Yields (timed [.tpe]) s (execPlanEffect t s) := by
  delta execPlanEffect
  extract_lets +onlyGivenNames _
  refine .advance (t := t) (.next (.option .refl fun _ => ?_))
  extract_lets +onlyGivenNames _
  refine .ite .refl ?_
  extract_lets +onlyGivenNames _ _ s2 s3
  refine .then (u := s3) (.mono (State.setTpe_within ..)) (.then (u := s2) (.ite .refl (.mono (progTrigger_within ..)))
    (.foldl .refl fun s x => ?_))
  extract_lets +onlyGivenNames _
  exact .ite .refl (.mono (stopPair_within ..))

theorem execInjectionStart_yields (t pair : Nat) (s : State) : Yields (timed [.tpe]) s (execInjectionStart t pair s) := by
  delta execInjectionStart
  extract_lets +onlyGivenNames _
  refine .advance (t := t) (.next (.option .refl fun _ => ?_))
  extract_lets +onlyGivenNames _ _
  exact .ite .refl (.mono (modPair_within ..))

theorem execInjectionStop_yields (t pair : Nat) (s : State) : Yields (timed [.tpe]) s (execInjectionStop t pair s) := by
  delta execInjectionStop
  extract_lets +onlyGivenNames _
  exact .advance (t := t) (.next (.ite (.mono (stopPair_within ..)) .refl))

theorem execWindowStart_yields (t : Nat) (s : State) : Yields (timed [.hviStr, .tpe]) s (execWindowStart t s) := by
  delta execWindowStart
  dsimp only
  exact .next (.option (.mono (State.advance_within ..)) fun _ => .ite (.mono (State.advance_within ..))
    (.after (State.setTpe_within ..)
    (.after (within_hviStr ..) (.foldl (.mono (State.advance_within ..)) fun s x => .mono (modPair_within ..)))))

theorem toneMonitors_within (s : State) (i : Nat) (f : Monitor → Monitor) : Within [.rings] s (toneMonitors s i f) :=
  State.modRing_within ..

theorem execTonePlan_yields (t i : Nat) (s : State) : Yields (timed [.rings]) s (execTonePlan t i s) :=
  .next (.ite (.after (toneMonitors_within ..) (.mono (State.advance_within ..))) (.mono (State.advance_within ..)))

theorem execPhasor_yields (t i m : Nat) (s : State) : Yields (timed [.rings]) s (execPhasor t i m s) :=
  .next (.ite (.after (State.modMon_within ..) (.mono (State.advance_within ..))) (.mono (State.advance_within ..)))

theorem execToneHalt_yields (t i : Nat) (s : State) : Yields (timed [.rings]) s (execToneHalt t i s) :=
  .next (.ite (.after (toneMonitors_within ..) (.mono (State.advance_within ..))) (.mono (State.advance_within ..)))

theorem execToneWindowEnd_yields (t : Nat) (ph : List StringPhasor) (s : State) :
    Yields (timed [.tpe]) s (execToneWindowEnd t ph s) := by
  delta execToneWindowEnd
  extract_lets +onlyGivenNames _
  refine .advance (t := t) (.next (.option .refl fun _ => ?_))
  extract_lets +onlyGivenNames _
  refine .ite .refl ?_
  extract_lets +onlyGivenNames _ _ _ _
  exact .mono (State.setTpe_within ..)

theorem execImpedanceRead_yields (t i m block : Nat) (b : ImpBlock) (s : State) :
    Yields (timed [.tpe]) s (execImpedanceRead t i m block b s) := by
  delta execImpedanceRead
  extract_lets +onlyGivenNames _ _ _
  exact .advance (t := t) (.next (.ite .refl (.ite (.mono (State.setTpe_within ..)) (.mono (State.setTpe_within ..)))))

theorem ohmResult_within (s : State) (idx : Nat) (re : Int) : Within [.cee] s (ohmResult s idx re) := by
  delta ohmResult
  exact State.modCell_within ..

theorem coreLevels_within (s : State) (idx : Nat) :
    Within [.str, .pwr, .rings, .th, .bal, .conv, .phase, .saf, .hpr, .icu, .plg, .mem] s (coreLevels s idx) :=
  .ite (.after (trip_within ..) (.of rfl rfl)) (.of rfl rfl)

theorem takeResults_within (s : State) (idx : Nat) (zs : List ToneZ) :
    Within [.str, .pwr, .rings, .cee, .th, .bal, .conv, .phase, .saf, .hpr, .icu, .plg, .mem] s (takeResults s idx zs) := by
  delta takeResults
  dsimp only
  exact .after (coreLevels_within ..)
    (.after (State.modCell_within ..) (.optionSwap (fun _ => .ite (.mono (ohmResult_within ..)) .refl) .refl))

theorem publishBlock_within (s : State) (e : (Nat × Nat × Nat) × ImpBlock) :
    Within [.str, .pwr, .rings, .cee, .tpe, .th, .bal, .conv, .phase, .saf, .hpr, .icu, .plg, .mem] s (publishBlock s e) := by
  delta publishBlock
  split
  · extract_lets +onlyGivenNames _ _
    refine .foldl .refl fun s x => ?_
    extract_lets +onlyGivenNames _ _
    refine .ite .refl ?_
    extract_lets +onlyGivenNames _ s1
    exact .then (u := s1) (.mono (takeResults_within ..)) (.mono (State.setTpe_within ..))

theorem execImpedancePublish_yields (t : Nat) (s : State) :
    Yields (timedAnswer [.str, .rings, .cee, .tpe, .th, .bal, .conv, .phase, .saf]) s (execImpedancePublish t s) :=
  .next (.ite (.mono (State.advance_within ..))
    (.after (icuShared_within ..)
    (.after (syncWarnings_within ..) (.after (State.setTpe_within ..) (.foldl (.mono (State.advance_within ..)) fun s x => .mono
    (publishBlock_within ..))))))

theorem execBlockMissing_yields (t i m block : Nat) (s : State) :
    Yields (timed [.cee, .tpe]) s (execBlockMissing t i m block s) :=
  .next (.ite (.mono (State.advance_within ..))
    (.after (State.setTpe_within ..) (.foldl (.mono (State.advance_within ..)) fun s x => .after (State.modCell_within ..)
    (.mono (State.setTpe_within ..)))))

theorem execCoreOffsetLearning_yields (t c : Nat) (s : State) :
    Yields (timed [.cee, .icu, .plg]) s (execCoreOffsetLearning t c s) := by
  delta execCoreOffsetLearning
  extract_lets +onlyGivenNames _ _ _
  refine .advance (t := t) (.next (.altsPair (fun _ _ => .ite ?_ .refl) fun _ _ => .refl))
  extract_lets +onlyGivenNames _ _ _ s2
  exact .then (u := s2) (.ite (.mono (groupRecord_within ..)) .refl) (.mono (State.modCell_within ..))

theorem execPrecursorDelivery_yields (t : Nat) (s : State) :
    Yields (timedAnswer [.str, .rings, .cee, .bal, .conv, .phase, .saf]) s (execPrecursorDelivery t s) := by
  delta execPrecursorDelivery
  extract_lets +onlyGivenNames _
  refine .advance (t := t) (.next (.ite .refl ?_))
  extract_lets +onlyGivenNames _ _
  refine .foldl .refl fun s x => ?_
  extract_lets +onlyGivenNames _ s2 s3
  refine .then (u := s3) (.ite ?_ .refl) (.then (u := s2) (.mono (State.modChanStr_within ..)) (.foldl .refl fun s x => ?_))
  · extract_lets +onlyGivenNames _ s4
    exact .then (u := s4) (.ite (.mono (groupRecord_within ..)) .refl) (.after (trip_within ..) (.mono (State.setSaf_within ..)))
  · extract_lets +onlyGivenNames _ _
    exact .mono (State.modCell_within ..)

theorem execTpeGetPlan_yields (q : Req) (s : State) : Yields (answered []) s (execTpeGetPlan q s) :=
  .mono (getNone_yields ..)

theorem execTpeGetResults_yields (q : Req) (s : State) : Yields (answered []) s (execTpeGetResults q s) :=
  .mono (getC_yields ..)

theorem execTpeMapResults_yields (q : Req) (s : State) : Yields (answered []) s (execTpeMapResults q s) :=
  .mono (mapM_yields ..)

theorem execTpeGetPrecursor_yields (q : Req) (s : State) : Yields (answered []) s (execTpeGetPrecursor q s) :=
  .mono (getC_yields ..)

theorem execTpeGetStatus_yields (q : Req) (s : State) : Yields (answered []) s (execTpeGetStatus q s) :=
  .mono (getNone_yields ..)

/-! ## Dispatch (07_balancing_dispatch.md R204 to R215) -/

theorem dropArmed_within (s : State) : Within [.dsp, .le] s (dropArmed s) := by
  delta dropArmed
  split
  · exact .refl
  · exact .ite .refl (.after (State.setLe_within ..) (.mono (State.setDsp_within ..)))

theorem execDspSetRequest_yields (q : Req) (s : State) : Yields (answered [.dsp, .le, .red]) s (execDspSetRequest q s) :=
  command_yields fun s => .after (commit_within ..)
    (.after (dropArmed_within ..) (.after (State.setDsp_within ..) (.ite (.mono (exitFloat_within ..)) .refl)))

theorem execDspCancel_yields (q : Req) (s : State) : Yields (answered [.dsp, .le, .red]) s (execDspCancel q s) :=
  command_yields fun s => .after (commit_within ..) (.after (dropArmed_within ..) (.mono (State.setDsp_within ..)))

theorem rampTo_within (s : State) (t : Nat) : Within [.dsp] s (rampTo s t) := by
  delta rampTo
  extract_lets +onlyGivenNames _ _
  refine .option (State.setDsp_within ..) fun _ => ?_
  extract_lets +onlyGivenNames _ _ _
  refine .ite (State.setDsp_within ..) ?_
  extract_lets +onlyGivenNames _
  exact State.setDsp_within ..

theorem takeRequest_within (s : State) (e : DspEntry) (t : Nat) :
    Within [.pwr, .dsp, .red, .hpr, .icu, .plg] s (takeRequest s e t) :=
  .after (peerSend_within ..)
    (.after (State.setDsp_within ..) (.after (rampTo_within ..) (.ite (.mono (exitFloat_within ..)) .refl)))

theorem takeDue_within (s : State) (es : List DspEntry) : Within [.pwr, .dsp, .red, .hpr, .icu, .plg] s (takeDue s es) := by
  induction es generalizing s with
  | nil => exact .refl
  | cons e es ih =>
    unfold takeDue
    exact .ite (.then (ih _) (.after (State.setDsp_within ..) (takeRequest_within ..))) .refl

theorem switchOuter_within (vbus : Bool) (s : State) (i : Nat) : Within [.le] s (switchOuter vbus s i) := by
  delta switchOuter
  split
  · extract_lets +onlyGivenNames _
    exact State.modLoop_within ..

theorem applyPlan_within (s : State) (mode : Nat) (p : Plan) : Within [.str, .cee, .dsp, .conv, .le] s (applyPlan s mode p) := by
  delta applyPlan
  exact .after (State.setDsp_within ..)
    (.foldl (.after (State.setLe_within ..)
    (.ite .refl (.after (State.setLe_within ..) (.foldl .refl fun s x => .mono (switchOuter_within ..))))) fun s x => .ite
    (.after (State.modConv_within ..) (.after (State.modEst_within ..) (.mono (State.modStr_within ..))))
    (.after (State.modEst_within ..) (.mono (State.modStr_within ..))))

theorem execAllocation_yields (t : Nat) (s : State) :
    Yields (timed [.str, .pwr, .cee, .dsp, .conv, .le, .red, .hpr, .icu, .plg]) s (execAllocation t s) := by
  delta execAllocation
  extract_lets +onlyGivenNames _ _
  refine .advance (t := t) (.next (.ite .refl ?_))
  extract_lets +onlyGivenNames s2 s3 s4 s5
  exact .then (u := s5) (.option (.mono (applyPlan_within ..)) fun _ => .mono (applyPlan_within ..))
    (.then (u := s4) (.after (State.setDsp_within ..) (.mono (rampTo_within ..))) (.then (u := s3) (.mono (takeDue_within ..))
    (.then (u := s2) (.option .refl fun _ => .after (State.setDsp_within ..) (.mono (takeRequest_within ..)))
    (.optionSwap (fun _ => .ite (.mono (State.setLe_within ..)) .refl) .refl))))

theorem execArming_yields (t : Nat) (s : State) : Yields (timed [.dsp, .le]) s (execArming t s) := by
  delta execArming
  extract_lets +onlyGivenNames _
  refine .advance (t := t) (.next ?_)
  split
  · exact .refl
  · refine .ite .refl ?_
    extract_lets +onlyGivenNames _ _ _ _ _
    exact .after (State.setDsp_within ..) (.after (State.setLe_within ..) (.mono (progTrigger_within ..)))

theorem execRequestExpiry_yields (t : Nat) (s : State) : Yields (timed [.dsp, .icu, .plg]) s (execRequestExpiry t s) := by
  delta execRequestExpiry
  extract_lets +onlyGivenNames _
  exact .advance (t := t)
    (.next (.option .refl fun _ => .ite
    (.after (groupRecord_within ..) (.after (State.setDsp_within ..) (.mono (rampTo_within ..)))) .refl))

theorem execRestWindowGrant_yields (t i : Nat) (s : State) :
    Yields (timed [.rings, .cee, .tpe, .bal]) s (execRestWindowGrant t i s) := by
  delta execRestWindowGrant
  extract_lets +onlyGivenNames _
  refine .advance (t := t) (.next (.ite ?_ .refl))
  extract_lets +onlyGivenNames _ s2
  exact .then (u := s2) (.after (stopPair_within ..) (.after (stopBalancing_within ..) (.mono (changeBand_within ..))))
    (.mono (State.modEst_within ..))

theorem execRestWindowEnd_yields (t i : Nat) (s : State) : Yields (timed [.cee]) s (execRestWindowEnd t i s) := by
  delta execRestWindowEnd
  extract_lets +onlyGivenNames _
  refine .advance (t := t) (.next (.option .refl fun _ => ?_))
  extract_lets +onlyGivenNames _ _
  refine .ite .refl ?_
  extract_lets +onlyGivenNames s2
  exact .then (u := s2) (.mono (State.modEst_within ..)) (.mono (changeBand_within ..))

theorem execDspGetStatus_yields (q : Req) (s : State) : Yields (answered []) s (execDspGetStatus q s) :=
  .mono (getNone_yields ..)

theorem execDspGetQueue_yields (q : Req) (s : State) : Yields (answered []) s (execDspGetQueue q s) :=
  .mono (getW_yields ..)

theorem execDspSetConfig_yields (q : Req) (s : State) : Yields (answered [.dsp, .red]) s (execDspSetConfig q s) :=
  setR_yields fun s p => .mono (State.setDsp_within ..)

theorem execDspGetConfig_yields (q : Req) (s : State) : Yields (answered []) s (execDspGetConfig q s) :=
  .mono (getNone_yields ..)

/-! ## The balancing planner (07_balancing_dispatch.md R188 to R197) -/

theorem dropShuttles_within (s : State) (i : Nat) (keep : List Transfer) : Within [.rings, .bal] s (dropShuttles s i keep) :=
  .foldl (.mono (State.modBal_within ..)) fun s x => .mono (State.modMon_within ..)

theorem planString_within (s : State) (i : Nat) : Within [.rings, .bal] s (planString s i) := by
  delta planString
  extract_lets +onlyGivenNames _
  refine .ite (.mono (State.modBal_within ..)) ?_
  extract_lets +onlyGivenNames _ _ _ _ _ s1 _ s2 _
  exact .then (u := s2) (.foldl .refl fun s x => .mono (sendFrame_within ..)) (.then (u := s1) (.mono (State.modBal_within ..))
    (.foldl .refl fun s x => dropShuttles_within ..))

theorem execPlanningCycle_yields (t i : Nat) (s : State) : Yields (timed [.rings, .bal]) s (execPlanningCycle t i s) :=
  .next (.ite (.mono (State.advance_within ..))
    (.ite (.after (stopBalancing_within ..) (.after (State.modBal_within ..) (.mono (State.advance_within ..))))
    (.after (planString_within ..) (.after (State.modBal_within ..) (.mono (State.advance_within ..))))))

theorem execBalancingStop_yields (t i : Nat) (s : State) : Yields (timed [.rings, .bal]) s (execBalancingStop t i s) :=
  .next (.ite (.after (stopBalancing_within ..) (.mono (State.advance_within ..))) (.mono (State.advance_within ..)))

theorem trimTo_within (out : Bool) (limit n : Nat) (s : State) : Within [.rings, .bal] s (trimTo out limit n s) := by
  induction n generalizing s with
  | zero => exact .refl
  | succ n ih =>
    unfold trimTo
    refine .ite .refl ?_
    split
    · exact .refl
    · exact .then (ih _) (dropShuttles_within ..)

theorem execAllowanceChange_yields (t : Nat) (s : State) : Yields (timed [.rings, .bal]) s (execAllowanceChange t s) :=
  .next (.ite (.mono (State.advance_within ..))
    (.after (trimTo_within ..) (.after (trimTo_within ..) (.mono (State.advance_within ..)))))

theorem execBalSetConfig_yields (q : Req) (s : State) : Yields (answered [.bal, .red]) s (execBalSetConfig q s) :=
  setR_yields fun s p => .mono (State.modBal_within ..)

theorem execBalGetConfig_yields (q : Req) (s : State) : Yields (answered []) s (execBalGetConfig q s) :=
  .mono (getI_yields ..)

theorem execBalSetBudget_yields (q : Req) (s : State) : Yields (answered [.dsp, .red]) s (execBalSetBudget q s) :=
  setR_yields fun s p => .mono (State.setDsp_within ..)

theorem storeHold_within (s : State) (p : Bytes) : Within [.rings, .bal] s (storeHold s p) :=
  .ite (.mono (State.modBal_within ..)) (.after (stopBalancing_within ..) (.mono (State.modBal_within ..)))

theorem execBalHold_yields (q : Req) (s : State) : Yields (answered [.rings, .bal, .red]) s (execBalHold q s) :=
  setR_yields fun s p => .mono (storeHold_within ..)

theorem execBalGetPlan_yields (q : Req) (s : State) : Yields (answered []) s (execBalGetPlan q s) :=
  .mono (getI_yields ..)

theorem execBalGetLedger_yields (q : Req) (s : State) : Yields (answered []) s (execBalGetLedger q s) :=
  .mono (getI_yields ..)

/-! ## The CAN FD controllers (16_ethernet_can.md R465 to R474) -/

theorem canRamWrite_within (s : State) (off : Nat) (b : Bytes) : Within [.canRam] s (canRamWrite s off b) :=
  ⟨⟨rfl, ⟨id, memWrites_wf _ _ _, id⟩⟩, fun _ => id⟩

theorem canSource_within (s : State) (c k : Nat) : Within [.icu, .plg] s (canSource s c k) :=
  .ite (icuShared_within ..) .refl

theorem canEvent_within (s : State) (c b : Nat) : Within [.net, .icu, .plg] s (canEvent s c b) :=
  .after (canSource_within ..) (.mono (State.modCan_within ..))

theorem accErr_within (s : State) (c : Nat) : Within [.net, .icu, .plg] s (accErr s c) :=
  canEvent_within ..

theorem canOwned_within {l : List Piece} {s : State} {app : Bool} {c : Nat} {f : State → State} (h : ∀ s, Within l s (f s))
    (e : among [.net, .icu, .plg] l = true := by exact Eq.refl true) : Within l s (canOwned s app c f) := by
  delta canOwned
  exact .ite .refl (.ite (h s) (.ite (.mono (accErr_within ..) e) .refl))

theorem writeCtrl_within (s : State) (c : Nat) (v : BitVec 32) : Within [.net, .icu, .plg] s (writeCtrl s c v) := by
  delta writeCtrl
  extract_lets +onlyGivenNames _
  refine .ite (accErr_within ..) ?_
  extract_lets +onlyGivenNames _
  exact .mono (State.modCan_within ..)

theorem execCanCtrlWrite_yields (t : Nat) (app : Bool) (c : Nat) (value : BitVec 32) (s : State) :
    Yields (timed [.net, .icu, .plg]) s (execCanCtrlWrite t app c value s) :=
  .next (.ite (.then (canOwned_within fun s => .mono (writeCtrl_within ..)) (.mono (State.advance_within ..)))
    (.mono (State.advance_within ..)))

theorem writeTxPut_within (s : State) (c put : Nat) : Within [.net, .icu, .plg] s (writeTxPut s c put) :=
  .ite (accErr_within ..) (.mono (State.modCan_within ..))

theorem execCanTxqPutWrite_yields (t : Nat) (app : Bool) (c put : Nat) (s : State) :
    Yields (timed [.net, .icu, .plg]) s (execCanTxqPutWrite t app c put s) :=
  .next (.ite (.then (canOwned_within fun s => .mono (writeTxPut_within ..)) (.mono (State.advance_within ..)))
    (.mono (State.advance_within ..)))

theorem writeCancel_within (s : State) (c : Nat) : Within [.net] s (writeCancel s c) :=
  .ite .refl (State.modCan_within ..)

theorem execCanCancel_yields (t : Nat) (app : Bool) (c : Nat) (s : State) :
    Yields (timed [.net, .icu, .plg]) s (execCanCancel t app c s) := by
  delta execCanCancel
  extract_lets +onlyGivenNames _
  exact .advance (t := t) (.next (.ite (canOwned_within fun s => .mono (writeCancel_within ..)) .refl))

theorem execTxHol_yields (t c : Nat) (s : State) : Yields (timed [.net, .icu, .plg]) s (execTxHol t c s) :=
  .next (.ite (.after (canSource_within ..) (.after (canEvent_within ..) (.mono (State.advance_within ..))))
    (.mono (State.advance_within ..)))

theorem receiveFrame_within (s : State) (c : Nat) (f : CanFrame) :
    Within [.net, .icu, .plg, .canRam, .free] s (receiveFrame s c f) := by
  delta receiveFrame
  split
  · exact .refl
  · exact .ite (.after (canEvent_within ..) (.mono (State.modCan_within ..)))
      (.ite (.after (canSource_within ..)
      (.after (State.modCan_within ..)
      (.after (State.draw_within ..) (.after (State.draw_within ..) (.mono (canRamWrite_within ..))))))
      (.after (State.modCan_within ..)
      (.after (State.draw_within ..) (.after (State.draw_within ..) (.mono (canRamWrite_within ..))))))

theorem execCanFrameReceived_yields (t c : Nat) (f : CanFrame) (s : State) :
    Yields (timed [.net, .icu, .plg, .canRam, .free]) s (execCanFrameReceived t c f s) :=
  .next (.ite (.after (receiveFrame_within ..) (.mono (State.advance_within ..))) (.mono (State.advance_within ..)))

theorem writeRxGet_within (s : State) (c k get : Nat) : Within [.net, .icu, .plg] s (writeRxGet s c k get) :=
  .ite (.ite (.mono (State.modCan_within ..)) (.after (canSource_within ..) (.mono (State.modCan_within ..)))) (accErr_within ..)

theorem execCanRxqGetWrite_yields (t : Nat) (app : Bool) (c k get : Nat) (s : State) :
    Yields (timed [.net, .icu, .plg]) s (execCanRxqGetWrite t app c k get s) := by
  delta execCanRxqGetWrite
  extract_lets +onlyGivenNames _
  exact .advance (t := t) (.next (.ite (canOwned_within fun s => .mono (writeRxGet_within ..)) .refl))

theorem execCanTxComplete_yields (t c outcome : Nat) (s : State) :
    Yields (timed [.net, .icu, .plg, .canRam, .free]) s (execCanTxComplete t c outcome s) :=
  .next (.ite (.ite (.after (receiveFrame_within ..)
    (.after (canSource_within ..) (.after (State.modCan_within ..) (.mono (State.advance_within ..)))))
    (.after (canSource_within ..) (.after (State.modCan_within ..) (.mono (State.advance_within ..)))))
    (.mono (State.advance_within ..)))

theorem execBusOff_yields (t c : Nat) (s : State) : Yields (timed [.net, .icu, .plg]) s (execBusOff t c s) :=
  .next (.ite (.after (canEvent_within ..) (.after (State.modCan_within ..) (.mono (State.advance_within ..))))
    (.mono (State.advance_within ..)))

theorem execBusOffRecovery_yields (t c : Nat) (s : State) : Yields (timed [.net]) s (execBusOffRecovery t c s) :=
  .next (.ite (.after (State.modCan_within ..) (.mono (State.advance_within ..))) (.mono (State.advance_within ..)))

theorem initOnly_within (s : State) (c : Nat) (f : Can → Can) : Within [.net, .icu, .plg] s (initOnly s c f) :=
  .ite (.mono (State.modCan_within ..)) (accErr_within ..)

theorem canHeldWrite_within (s : State) (c off : Nat) (v : BitVec 32) : Within [.net, .icu, .plg] s (canHeldWrite s c off v) := by
  delta canHeldWrite canHeldWrite.match_1
  extract_lets +onlyGivenNames _
  exact .lit (writeCtrl_within ..) fun _ => .lit (initOnly_within ..) fun _ => .lit (initOnly_within ..) fun _ => .lit
    (initOnly_within ..) fun _ => .lit (.mono (State.modCan_within ..)) fun _ => .lit (.mono (State.modCan_within ..)) fun _ =>
    .lit (initOnly_within ..) fun _ => .lit (writeTxPut_within ..) fun _ => .lit (.ite (.mono (writeCancel_within ..)) .refl)
    fun _ => .lit (.mono (State.modCan_within ..)) fun _ => .lit (initOnly_within ..) fun _ => .lit (writeRxGet_within ..)
    fun _ => .lit (initOnly_within ..) fun _ => .lit (writeRxGet_within ..) fun _ => .refl

theorem canWrite_within (s : State) (app : Bool) (c off : Nat) (v : BitVec 32) :
    Within [.net, .icu, .plg] s (canWrite s app c off v) :=
  .ite (canOwned_within fun s => canHeldWrite_within ..) .refl

theorem canRamPut_within (s : State) (app : Bool) (off : Nat) (v : BitVec 32) :
    Within [.net, .icu, .plg, .canRam] s (canRamPut s app off v) := by
  delta canRamPut
  extract_lets +onlyGivenNames _ _
  refine .ite .refl (.ite ?_ ?_)
  · extract_lets +onlyGivenNames _ _
    exact .ite (.mono (canRamWrite_within ..))
      (.ite (.mono (canRamWrite_within ..)) (.ite (.foldl .refl fun s x => .mono (accErr_within ..))
      (.foldl .refl fun s x => .mono (accErr_within ..))))
  · extract_lets +onlyGivenNames _
    exact .ite (.mono (canRamWrite_within ..)) (.mono (accErr_within ..))

theorem execCanSetConfig_yields (q : Req) (s : State) : Yields (answered [.net]) s (execCanSetConfig q s) :=
  command_yields fun s => .after (ok_within ..) (.mono (State.modCan_within ..))

theorem canGetI_yields (op : Nat) (resp : State → Nat → Bytes) (q : Req) (s : State) :
    Yields (answered []) s (canGetI op resp q s) := by
  delta canGetI
  exact command_yields fun s => .mono (respond_within ..)

theorem execCanGetConfig_yields (q : Req) (s : State) : Yields (answered []) s (execCanGetConfig q s) :=
  .mono (canGetI_yields ..)

theorem execCanGetStatus_yields (q : Req) (s : State) : Yields (answered []) s (execCanGetStatus q s) :=
  .mono (canGetI_yields ..)

theorem execCanSetFilter_yields (q : Req) (s : State) : Yields (answered [.canRam]) s (execCanSetFilter q s) := by
  delta execCanSetFilter
  exact command_yields fun s => .after (ok_within ..) (.mono (canRamWrite_within ..))

theorem execCanSend_yields (q : Req) (s : State) : Yields (answered [.net, .canRam]) s (execCanSend q s) :=
  command_yields fun s => .after (ok_within ..) (.after (State.modCan_within ..) (.mono (canRamWrite_within ..)))

theorem execCanRead_yields (q : Req) (s : State) : Yields (answered [.net]) s (execCanRead q s) := by
  delta execCanRead
  extract_lets +onlyGivenNames _ _
  refine command_yields fun s => ?_
  extract_lets +onlyGivenNames _ _ _ _ _
  exact .after (respondBuf_within ..) (.mono (writeRxGet_within ..))

theorem execCanDelegate_yields (q : Req) (s : State) : Yields (answered [.net]) s (execCanDelegate q s) := by
  delta execCanDelegate
  exact command_yields fun s => .after (ok_within ..) (.foldl .refl fun s x => .foldl (.mono (State.modCan_within ..)) fun s x =>
    .mono (retarget_within ..))

/-! ## The Ethernet ports (16_ethernet_can.md R456 to R464) -/

theorem execNetSetPort_yields (q : Req) (s : State) : Yields (answered [.net]) s (execNetSetPort q s) := by
  delta execNetSetPort
  exact command_yields fun s => .after (State.modPort_within ..) (.mono (ok_within ..))

theorem execNetGetPort_yields (q : Req) (s : State) : Yields (answered []) s (execNetGetPort q s) :=
  .mono (getI_yields ..)

theorem execNetGetStats_yields (q : Req) (s : State) : Yields (answered []) s (execNetGetStats q s) :=
  .mono (getI_yields ..)

theorem execNetSetMgmt_yields (q : Req) (s : State) : Yields (answered []) s (execNetSetMgmt q s) := by
  delta execNetSetMgmt
  exact command_yields fun s => .after (State.setHpr_within ..) (.mono (ok_within ..))

theorem execNetGetMgmt_yields (q : Req) (s : State) : Yields (answered []) s (execNetGetMgmt q s) :=
  .mono (getNone_yields ..)

theorem pushSafe_within (s : State) (n : Nat) (b : Bytes) : Within [.saf] s (pushSafe s n b) :=
  .ite (State.setSaf_within ..) (State.setSaf_within ..)

theorem discardFrame_within (s : State) (n : Nat) : Within [.net] s (discardFrame s n) :=
  State.modPort_within ..

theorem classify_within (s : State) (n : Nat) (f : EthFrame) : Within [.saf, .tsu, .net] s (classify s n f) := by
  delta classify
  extract_lets +onlyGivenNames _
  split
  · refine .ite (.mono (State.modPort_within ..)) ?_
    extract_lets +onlyGivenNames s1
    exact .then (u := s1) (.ite (.mono (State.setTsu_within ..)) .refl) (.mono (discardFrame_within ..))
  · exact .ite (.mono (discardFrame_within ..)) (.ite (.after (pushSafe_within ..) (.mono (State.modPort_within ..)))
      (.ite (.mono (State.modPort_within ..)) (.ite (.mono (State.modPort_within ..)) (.mono (discardFrame_within ..)))))
  · exact .ite (.mono (discardFrame_within ..)) (.mono (State.modPort_within ..))
  · exact .ite (.mono (discardFrame_within ..)) (.mono (State.modPort_within ..))
  · exact .mono (State.modPort_within ..)
  · exact .mono (discardFrame_within ..)
  · exact .mono (discardFrame_within ..)
  · exact .mono (discardFrame_within ..)

theorem execEthFrameReceived_yields (t port : Nat) (f : EthFrame) (s : State) :
    Yields (timed [.saf, .net]) s (execEthFrameReceived t port f s) :=
  .next (.ite (.ite (.after (discardFrame_within ..) (.after (State.modPort_within ..) (.mono (State.advance_within ..))))
    (.after (classify_within ..) (.after (State.modPort_within ..) (.mono (State.advance_within ..)))))
    (.mono (State.advance_within ..)))

theorem execLinkLossReturn_yields (t port : Nat) (up : Bool) (s : State) :
    Yields (timed [.net, .icu, .plg]) s (execLinkLossReturn t port up s) :=
  .next (.ite (.after (icuShared_within ..)
    (.after (groupRecord_within ..) (.after (State.modPort_within ..) (.mono (State.advance_within ..)))))
    (.mono (State.advance_within ..)))

/-! ## BOOT and OFF (11_redundancy.md R324; 13_sequencing.md R384, R400, R408) -/

theorem bootState_within (s : State) (cold : Bool) (cause : Nat) : Within [.str, .pwr, .hvi, .hviStr, .rings, .cee, .tpe, .th,
    .bal, .dsp, .conv, .phase, .gx2, .le, .saf, .red, .rack, .tsu, .hpr, .net, .app, .icu, .flt, .plg, .upd, .mem, .canRam] s
    (bootState s cold cause) := by
  cases cold
  · exact ⟨⟨rfl, ⟨id, id, id⟩⟩, fun _ => id⟩
  · exact ⟨⟨rfl, ⟨fun _ => rfl, fun _ => rfl, id⟩⟩, fun _ => id⟩

theorem enterBoot_within (s : State) (cause : Nat) :
    Within [.unit, .str, .pwr, .hvi, .hviStr, .rings, .cee, .tpe, .th, .bal, .dsp, .conv, .phase, .gx2, .le, .saf, .red, .rack,
    .tsu, .hpr, .net, .app, .icu, .flt, .plg, .upd, .mem, .canRam] s (enterBoot s cause) := by
  delta enterBoot
  extract_lets +onlyGivenNames _ s1 s2 s3 s4 s5 _ s6
  exact .then (u := s6) (.after (retier_within ..) (.foldl .refl fun s x => .mono (testUnit_within ..)))
    (.then (u := s5) (.after (progTrigger_within ..) (.after (progTrigger_within ..) (.mono (progTrigger_within ..))))
    (.then (u := s4) (.after (loadJournal_within ..) (.mono (loadCheck_within ..)))
    (.then (u := s3) (.mono (State.setPwr_within ..)) (.then (u := s2) (.mono (record_within ..))
    (.then (u := s1) (.ite .refl (.mono (setPower_within ..))) (.after (setUnit_within ..) (.mono (bootState_within ..))))))))

theorem execBootListenEnd_yields (t : Nat) (s : State) :
    Yields (timedAnswer [.unit, .str, .hvi, .rings, .bal, .conv, .phase, .saf, .red, .app, .flt]) s (execBootListenEnd t s) := by
  delta execBootListenEnd
  extract_lets +onlyGivenNames _
  refine .advance (t := t) (.next (.ite .refl ?_))
  extract_lets +onlyGivenNames s2
  exact .then (u := s2) (.ite (.mono (enterSafeHold_within ..)) .refl) (.alts (fun _ => .mono (enterResync_within ..)) fun _ =>
    .after (retier_within ..) (.after (setRole_within ..) (.mono (issueClaim_within ..))))

theorem execSysRestart_yields (q : Req) (s : State) : Yields (allBut [.clk, .free]) s (execSysRestart q s) :=
  command_yields fun s => .after (enterBoot_within ..) (.mono (ok_within ..))

theorem flushUpdate_within (s : State) : Within [.upd] s (flushUpdate s) :=
  .ite (State.setUpd_within ..) .refl

theorem flushBuffer_within (s : State) : Within [.icu, .plg] s (flushBuffer s) := by
  have write (s : State) (r : Peat) : Within [.icu, .plg] s
      (s.setPlg fun p => (p.write (r.severity % 8) r).remember r.time r.code r.source) :=
    .mono (State.setPlg_within _ _ fun h => logOk_write h _ _)
  delta flushBuffer
  exact .foldl (.mono (State.setPlg_within ..)) fun s r => .ite (.mono (State.setPlg_within ..))
    (.ite (write s r) (.after (icuPrivate_within ..) (write s r)))

theorem writeback_within (s : State) : Within [.pwr, .hvi, .cee, .conv, .icu, .plg, .upd, .free] s (writeback s) :=
  .after (flushBuffer_within ..)
    (.after (record_within ..)
    (.after (flushUpdate_within ..) (.after (writeCheck_within ..) (.foldl (.mono (triggerJournal_within ..)) fun s x => .mono
    (storeE_within ..)))))

theorem disconnectAll_within (s : State) (cause : Nat) :
    Within [.str, .pwr, .conv, .phase, .saf, .hpr, .icu, .plg, .mem] s (disconnectAll s cause) :=
  .foldl .refl fun s x => .alts4 (fun _ => .mono (prechargeAbort_within ..))
    (fun _ => .after (disconnectNow_within ..) (.ite (.mono (strayStr_within ..)) .refl))
    (fun _ => .after (disconnectNow_within ..) (.ite (.mono (strayStr_within ..)) .refl)) fun _ => .refl

theorem goOff_within (s : State) (cause : Nat) (keep : Bool) : Within [.unit, .str, .pwr, .hvi, .conv, .phase, .saf, .red, .rack,
    .seq, .hpr, .app, .icu, .plg, .mem] s (goOff s cause keep) := by
  delta goOff
  extract_lets s1 _ s2 s3 s4
  exact .then (u := s4) (.of rfl rfl) (.after (setUnit_within ..) (.after (setPower_within ..) (.after (State.setSeq_within ..)
    (.after (within_rack ..) (.foldl .refl fun s i =>
      .after (abortTrans_within ..)
        (.ite (.mono (gateOffString_within ..)) (.after (openCoils_within ..) (.mono (gateOffString_within ..)))))))))

/-! ## The Peat log (18_faults_peat_log.md R503 to R511) -/

theorem execRecordSubmit_yields (t : Nat) (r : PeatIn) (s : State) : Yields (timed [.icu, .plg]) s (execRecordSubmit t r s) :=
  .next (.after (record_within ..) (.mono (State.advance_within ..)))

theorem execDormantRecordFlush_yields (t : Nat) (s : State) : Yields (timed [.icu, .plg]) s (execDormantRecordFlush t s) :=
  .next (.ite (.mono (State.advance_within ..)) (.after (flushBuffer_within ..) (.mono (State.advance_within ..))))

theorem execLogGetStatus_yields (q : Req) (s : State) : Yields (answered []) s (execLogGetStatus q s) :=
  .mono (getNone_yields ..)

theorem execLogRead_yields (q : Req) (s : State) : Yields (answered []) s (execLogRead q s) := by
  delta execLogRead
  extract_lets +onlyGivenNames _
  exact command_yields fun s => .mono (respondBuf_within ..)

/-- A cleared log starts from the number that was next (18_faults_peat_log.md R508). -/
theorem clearLog_within (s : State) (port : Nat) : Within [.plg] s (clearLog s port) := by
  refine ⟨⟨rfl, ⟨id, id, ?_⟩⟩, fun _ => id⟩
  rintro ⟨-, -, -, hnext, -⟩
  have hlt : s.plg.nextSeq % 2 ^ 32 = s.plg.nextSeq := by rw [hnext, Nat.mod_mod]
  refine ⟨rfl, by simp [clearLog, Plg.put], by simp [clearLog, Plg.put], by simp [clearLog, Plg.put], ?_⟩
  intro i x hx
  simp only [clearLog, Plg.put, State.setPlg_plg, List.reverse_singleton, List.getElem?_singleton, Option.mem_def,
    Option.ite_none_right_eq_some, Option.some.injEq] at hx ⊢
  obtain ⟨rfl, rfl⟩ := hx
  exact hlt.symm

theorem execLogClear_yields (q : Req) (s : State) : Yields (answered []) s (execLogClear q s) :=
  command_yields fun s => .after (ok_within ..) (.mono (clearLog_within ..))

/-! ## The sequencer (13_sequencing.md R383 to R409) -/

theorem beginState_within (s : State) (n : Nat) : Within [.seq] s (beginState s n) := by
  delta beginState
  extract_lets +onlyGivenNames s1
  exact .then (u := s1) (.ite (State.setSeq_within ..) (State.setSeq_within ..)) (State.setSeq_within ..)

theorem settle_within (fuel : Nat) (s : State) :
    Within [.unit, .str, .pwr, .hvi, .conv, .phase, .saf, .red, .rack, .seq, .hpr, .app, .icu, .plg, .mem] s (settle fuel s) := by
  induction fuel generalizing s with
  | zero => exact .refl
  | succ n ih =>
    unfold settle
    refine .ite .refl ?_
    extract_lets s1 _
    refine .then (u := s1) ?_ (.mono (State.setSeq_within ..))
    split
    · exact .ite (goOff_within ..) (.ite (.then (ih _) (.mono (beginState_within ..))) .refl)
    · exact .ite .refl (.ite (.mono (State.setSeq_within ..)) (.then (ih _) (.mono (beginState_within ..))))
    · exact .refl

theorem settled_within (s : State) :
    Within [.unit, .str, .pwr, .hvi, .conv, .phase, .saf, .red, .rack, .seq, .hpr, .app, .icu, .plg, .mem] s (settled s) :=
  settle_within ..

theorem beginPowerup_within (s : State) (system : Bool) :
    Within [.unit, .pwr, .hvi, .seq, .hpr, .app, .icu, .plg] s (beginPowerup s system) :=
  .after (setPower_within ..) (.after (setUnit_within ..) (.ite (.after (State.setSeq_within ..) (.mono (State.setSeq_within ..)))
    (.after (State.setSeq_within ..) (.mono (State.setSeq_within ..)))))

theorem serveOn_within (s : State) (src : OnSource) :
    Within [.unit, .pwr, .hvi, .seq, .hpr, .app, .icu, .plg] s (serveOn s src) :=
  .ite (beginPowerup_within ..) (.ite (.mono (State.setSeq_within ..)) (beginPowerup_within ..))

theorem onRequest_within (s : State) (src : OnSource) :
    Within [.unit, .pwr, .hvi, .seq, .hpr, .app, .icu, .plg] s (onRequest s src) := by
  delta onRequest
  refine .ite .refl ?_
  extract_lets +onlyGivenNames s1
  exact .then (u := s1) (.alts (fun _ => .ite (.mono (State.setSeq_within ..)) (.ite .refl (serveOn_within ..))) fun _ => .ite
    (.mono (State.setSeq_within ..)) .refl) (.ite (.mono (State.setPwr_within ..)) .refl)

theorem execOnRequest_yields (t : Nat) (src : OnSource) (s : State) :
    Yields (timed [.unit, .pwr, .hvi, .seq, .hpr, .app, .icu, .plg]) s (execOnRequest t src s) :=
  .next (.after (onRequest_within ..) (.mono (State.advance_within ..)))

theorem execMinimumOffTimeEnd_yields (t : Nat) (s : State) :
    Yields (timed [.unit, .pwr, .hvi, .seq, .hpr, .app, .icu, .plg]) s (execMinimumOffTimeEnd t s) := by
  delta execMinimumOffTimeEnd
  extract_lets +onlyGivenNames _
  exact .advance (t := t) (.next (.option .refl fun _ => .ite (.after (serveOn_within ..) (.mono (State.setSeq_within ..)))
    .refl))

theorem execSeqWatchEnd_yields (t : Nat) (seen : LineSeen) (s : State) :
    Yields (timed [.unit, .pwr, .hvi, .seq, .hpr, .app, .icu, .plg]) s (execSeqWatchEnd t seen s) := by
  delta execSeqWatchEnd
  extract_lets +onlyGivenNames _
  exact .advance (t := t)
    (.next (.ite .refl (.alts3 (fun _ => .mono (beginPowerup_within ..)) (fun _ => .mono (beginPowerup_within ..)) fun _ => .ite
    (.mono (State.setSeq_within ..)) .refl)))

theorem execSystemPowerUpStart_yields (t : Nat) (s : State) :
    Yields (timed [.unit, .pwr, .hvi, .seq, .hpr, .app, .icu, .plg]) s (execSystemPowerUpStart t s) :=
  .next (.ite (.after (onRequest_within ..) (.mono (State.advance_within ..))) (.mono (State.advance_within ..)))

theorem execPowerupStepDone_yields (t : Nat) (failing : BitVec 8) (s : State) :
    Yields (allBut [.free]) s (execPowerupStepDone t failing s) :=
  .next (.ite (.mono (State.advance_within ..)) (.ite (.after (State.setSeq_within ..) (.mono (State.advance_within ..)))
    (.foldl (.after (settled_within ..)
    (.after (enterBoot_within ..) (.after (State.setSeq_within ..) (.mono (State.advance_within ..))))) fun s x => .after
    (detected_within ..) (.mono (State.modHvi_within ..)))))

theorem powerUpFailure_within (s : State) :
    Within [.unit, .str, .pwr, .hvi, .conv, .phase, .saf, .red, .rack, .seq, .hpr, .app, .icu, .plg, .mem] s (powerUpFailure s) :=
  .after (goOff_within ..) (.mono (State.setPwr_within ..))

theorem execPowerUpFailure_yields (t : Nat) (s : State) :
    Yields (timedAnswer [.unit, .str, .hvi, .conv, .phase, .saf, .red, .rack, .seq, .app]) s (execPowerUpFailure t s) :=
  .next (.ite (.after (powerUpFailure_within ..) (.mono (State.advance_within ..))) (.mono (State.advance_within ..)))

theorem railOn_within (s : State) (e : Bytes) : Within [.rack, .seq] s (railOn s e) :=
  .ite (.after (efStart_within ..) (.after (State.modEf_within ..) (.mono (State.modRail_within ..))))
    (.mono (State.modRail_within ..))

theorem railOff_within (s : State) (e : Bytes) : Within [.rack, .seq] s (railOff s e) :=
  .ite (.after (efOff_within ..) (.mono (State.modRail_within ..))) (.mono (State.modRail_within ..))

theorem releaseUnready_within (s : State) : Within [.rack, .seq] s (releaseUnready s) :=
  .foldl .refl fun s x => railOff_within ..

theorem preOffDone_within (s : State) :
    Within [.unit, .str, .pwr, .hvi, .conv, .phase, .saf, .red, .rack, .seq, .hpr, .app, .icu, .plg, .mem] s (preOffDone s) :=
  .after (settled_within ..) (.mono (State.setSeq_within ..))

theorem startDescent_within (s : State) (n : Nat) (system : Bool) :
    Within [.unit, .str, .pwr, .hvi, .conv, .phase, .saf, .red, .rack, .seq, .hpr, .app, .icu, .plg, .mem] s
    (startDescent s n system) :=
  .after (settled_within ..) (.after (beginState_within ..) (.mono (State.setSeq_within ..)))

theorem offRequest_within (s : State) (system : Bool) :
    Within [.unit, .str, .pwr, .hvi, .conv, .phase, .saf, .red, .rack, .seq, .hpr, .app, .icu, .plg, .mem] s
    (offRequest s system) :=
  .alts3 (fun _ => .refl) (fun _ => goOff_within ..) fun _ => .ite .refl
    (.ite (.mono (State.setSeq_within ..))
    (.alts (fun _ => .ite (.after (startDescent_within ..) (.mono (releaseUnready_within ..)))
    (.ite (.after (State.setSeq_within ..) (.mono (releaseUnready_within ..))) .refl)) fun _ => startDescent_within ..))

theorem execPreOffSteps_yields (t : Nat) (s : State) :
    Yields (allBut [.hviStr, .rings, .tpe, .th, .bal, .dsp, .gx2, .le, .net, .flt, .canRam]) s (execPreOffSteps t s) :=
  .next (.ite (.ite (.after (offRequest_within ..) (.after (State.setSeq_within ..) (.mono (State.advance_within ..))))
    (.mono (State.advance_within ..)))
    (.ite (.after (State.setSeq_within ..)
    (.foldl (.ite (.after (offRequest_within ..) (.after (State.setSeq_within ..) (.mono (State.advance_within ..))))
    (.mono (State.advance_within ..))) fun s x => .ite (.mono (State.modConv_within ..)) .refl))
    (.after (preOffDone_within ..)
    (.after (writeback_within ..)
    (.ite (.after (offRequest_within ..) (.after (State.setSeq_within ..) (.mono (State.advance_within ..))))
    (.mono (State.advance_within ..)))))))

theorem execPreOffDisconnect_yields (t : Nat) (s : State) :
    Yields (allBut [.hviStr, .rings, .tpe, .th, .bal, .dsp, .gx2, .le, .net, .flt, .canRam]) s (execPreOffDisconnect t s) :=
  .next (.ite (.after (preOffDone_within ..)
    (.after (writeback_within ..) (.after (disconnectAll_within ..) (.mono (State.advance_within ..)))))
    (.mono (State.advance_within ..)))

theorem execRailStart_yields (t r : Nat) (s : State) : Yields (timed [.rack, .seq]) s (execRailStart t r s) := by
  delta execRailStart
  extract_lets +onlyGivenNames _
  exact .advance (t := t) (.next (.option .refl fun _ => .ite (.mono (railOn_within ..)) .refl))

theorem execRailGood_yields (t r : Nat) (s : State) :
    Yields (timedAnswer [.unit, .str, .hvi, .conv, .phase, .saf, .red, .rack, .seq, .app]) s (execRailGood t r s) := by
  delta execRailGood
  extract_lets +onlyGivenNames _
  refine .advance (t := t) (.next (.option .refl fun _ => ?_))
  extract_lets +onlyGivenNames _
  exact .ite (.after (settled_within ..) (.mono (State.modRail_within ..))) .refl

theorem execStartFailure_yields (t r : Nat) (s : State) :
    Yields (timedAnswer [.unit, .str, .hvi, .conv, .phase, .saf, .red, .rack, .seq, .app]) s (execStartFailure t r s) := by
  delta execStartFailure
  extract_lets +onlyGivenNames _
  refine .advance (t := t) (.next (.option .refl fun _ => ?_))
  extract_lets +onlyGivenNames _
  refine .ite ?_ .refl
  extract_lets +onlyGivenNames s2
  exact .then (u := s2) (.after (offRequest_within ..) (.mono (State.setSeq_within ..))) (.mono (groupRecord_within ..))

theorem execRailDischarge_yields (t r : Nat) (below : Bool) (s : State) :
    Yields (timedAnswer [.unit, .str, .hvi, .conv, .phase, .saf, .red, .rack, .seq, .app]) s (execRailDischarge t r below s) := by
  delta execRailDischarge
  extract_lets +onlyGivenNames _
  refine .advance (t := t) (.next (.option .refl fun _ => .ite .refl ?_))
  extract_lets +onlyGivenNames _ s2 _
  exact .then (u := s2) (.ite .refl (.ite (.after (settled_within ..) (.mono (State.modRail_within ..)))
    (.ite (.after (settled_within ..) (.after (State.modRail_within ..) (.mono (groupRecord_within ..)))) .refl)))
    (.ite (.mono (railOff_within ..)) .refl)

theorem execSeqStep_yields (t : Nat) (s : State) :
    Yields (timedAnswer [.unit, .str, .hvi, .conv, .phase, .saf, .red, .rack, .seq, .app]) s (execSeqStep t s) := by
  delta execSeqStep
  extract_lets +onlyGivenNames _
  exact .advance (t := t)
    (.next (.ite .refl (.alts3
    (fun _ => .ite .refl (.ite (.mono (State.setSeq_within ..)) (.after (settled_within ..) (.mono (beginState_within ..)))))
    (fun _ => .after (settled_within ..) (.mono (beginState_within ..))) fun _ => .refl)))

theorem execReverseMarker_yields (t : Nat) (s : State) :
    Yields (timedAnswer [.unit, .str, .hvi, .conv, .phase, .saf, .red, .rack, .seq, .app]) s (execReverseMarker t s) :=
  .next (.ite (.after (startDescent_within ..) (.mono (State.advance_within ..))) (.mono (State.advance_within ..)))

theorem execUpBeacon_yields (t : Nat) (s : State) : Yields (timed [.seq]) s (execUpBeacon t s) :=
  .next (.ite (.after (State.setSeq_within ..) (.mono (State.advance_within ..))) (.mono (State.advance_within ..)))

theorem execSystemPowerDownStart_yields (t : Nat) (s : State) :
    Yields (timedAnswer [.unit, .str, .hvi, .conv, .phase, .saf, .red, .rack, .seq, .app]) s (execSystemPowerDownStart t s) := by
  delta execSystemPowerDownStart
  extract_lets +onlyGivenNames _
  refine .advance (t := t) (.next (.ite .refl ?_))
  split
  · exact .refl
  · exact .ite (.mono (goOff_within ..)) .refl
  · exact .mono (startDescent_within ..)
  · exact .ite (.mono (startDescent_within ..)) .refl
  · exact .refl

theorem execStuckLine_yields (t : Nat) (s : State) :
    Yields (timedAnswer [.unit, .str, .hvi, .conv, .phase, .saf, .red, .rack, .seq, .app]) s (execStuckLine t s) :=
  .next (.ite (.mono (State.advance_within ..))
    (.ite (.after (goOff_within ..)
    (.after (State.setSeq_within ..) (.after (groupRecord_within ..) (.mono (State.advance_within ..)))))
    (.after (settled_within ..)
    (.after (State.setSeq_within ..)
    (.after (State.setSeq_within ..) (.after (groupRecord_within ..) (.mono (State.advance_within ..))))))))

theorem execSeqCinHigh_yields (t : Nat) (s : State) :
    Yields (timedAnswer [.unit, .str, .hvi, .conv, .phase, .saf, .red, .rack, .seq, .app]) s (execSeqCinHigh t s) :=
  .next (.ite (.ite (.after (settled_within ..) (.after (State.setSeq_within ..) (.mono (State.advance_within ..))))
    (.mono (State.advance_within ..))) (.after (State.setSeq_within ..) (.mono (State.advance_within ..))))

theorem railFault_within (s : State) (code cause : Nat) (rail : Option Nat) :
    Within [.unit, .str, .pwr, .hvi, .conv, .phase, .saf, .red, .rack, .seq, .hpr, .app, .icu, .plg, .mem] s
    (railFault s code cause rail) :=
  .after (goOff_within ..) (.after (State.setPwr_within ..) (.mono (State.setSeq_within ..)))

theorem execRunningRailFault_yields (t r : Nat) (s : State) :
    Yields (timedAnswer [.unit, .str, .hvi, .conv, .phase, .saf, .red, .rack, .seq, .app]) s (execRunningRailFault t r s) := by
  delta execRunningRailFault
  extract_lets +onlyGivenNames _
  exact .advance (t := t)
    (.next (.option .refl fun _ => .ite .refl
    (.ite .refl (.ite (.after (State.modRail_within ..) (.mono (groupRecord_within ..)))
    (.ite (.mono (State.modRail_within ..)) (.mono (railFault_within ..)))))))

theorem execRailFaultHoldEnd_yields (t r : Nat) (s : State) :
    Yields (timedAnswer [.unit, .str, .hvi, .conv, .phase, .saf, .red, .rack, .seq, .app]) s (execRailFaultHoldEnd t r s) :=
  .next (.ite (.ite (.after (State.modRail_within ..) (.after (groupRecord_within ..) (.mono (State.advance_within ..))))
    (.after (railFault_within ..) (.mono (State.advance_within ..)))) (.mono (State.advance_within ..)))

theorem execPbNPress_yields (t heldMs : Nat) (s : State) :
    Yields (timedAnswer [.unit, .str, .hvi, .conv, .phase, .saf, .red, .rack, .seq, .app]) s (execPbNPress t heldMs s) :=
  .next (.ite (.mono (State.advance_within ..))
    (.ite (.ite (.ite (.after (onRequest_within ..) (.mono (State.advance_within ..))) (.mono (State.advance_within ..)))
    (.after (offRequest_within ..) (.mono (State.advance_within ..))))
    (.after (groupRecord_within ..) (.after (State.setSeq_within ..) (.mono (State.advance_within ..))))))

theorem execForcedOff_yields (t : Nat) (s : State) :
    Yields (timedAnswer [.unit, .str, .hvi, .conv, .phase, .saf, .red, .rack, .seq, .app]) s (execForcedOff t s) :=
  .next (.ite (.mono (State.advance_within ..)) (.after (railFault_within ..) (.mono (State.advance_within ..))))

theorem execMrN_yields (t : Nat) (s : State) :
    Yields (timedAnswer [.unit, .str, .hvi, .rings, .bal, .conv, .phase, .saf, .red, .seq, .app]) s (execMrN t s) :=
  .next (.ite (.mono (State.advance_within ..))
    (.after (State.setHpr_within ..)
    (.after (State.setSeq_within ..) (.ite (.after (enterSafeHold_within ..) (.mono (State.advance_within ..)))
    (.mono (State.advance_within ..))))))

theorem execMrNRelease_yields (t : Nat) (s : State) : Yields (allBut [.free]) s (execMrNRelease t s) :=
  .next (.ite (.mono (State.advance_within ..)) (.ite (.after (State.setSeq_within ..) (.mono (State.advance_within ..)))
    (.ite (.after (State.setHpr_within ..) (.after (State.setSeq_within ..) (.mono (State.advance_within ..))))
    (.after (enterBoot_within ..) (.after (State.setSeq_within ..) (.mono (State.advance_within ..)))))))

theorem execSeqSetTable_yields (q : Req) (s : State) : Yields (answered [.seq]) s (execSeqSetTable q s) := by
  delta execSeqSetTable
  exact command_yields fun s => .after (ok_within ..) (.mono (State.setSeq_within ..))

theorem execSeqGetTable_yields (q : Req) (s : State) : Yields (answered []) s (execSeqGetTable q s) := by
  delta execSeqGetTable
  extract_lets +onlyGivenNames _ _
  exact command_yields fun s => .mono (respondBuf_within ..)

theorem execSeqGetStatus_yields (q : Req) (s : State) : Yields (answered [.free]) s (execSeqGetStatus q s) := by
  delta execSeqGetStatus
  exact command_yields fun s => .after (respondBuf_within ..) (.of rfl rfl)

theorem execSeqOff_yields (q : Req) (s : State) :
    Yields (answered [.unit, .str, .hvi, .conv, .phase, .saf, .red, .rack, .seq, .app]) s (execSeqOff q s) :=
  command_yields fun s => .after (offRequest_within ..) (.mono (ok_within ..))

theorem execSeqCancelOff_yields (q : Req) (s : State) : Yields (answered [.seq]) s (execSeqCancelOff q s) :=
  command_yields fun s => .after (ok_within ..) (.mono (State.setSeq_within ..))

/-! ## The SYS commands -/

theorem execSysEcho_yields (q : Req) (s : State) : Yields (answered []) s (execSysEcho q s) :=
  command_yields fun s => .mono (ok_within ..)

theorem execSysGetInfo_yields (q : Req) (s : State) : Yields (answered []) s (execSysGetInfo q s) :=
  .mono (getNone_yields ..)

theorem execSysGetStatus_yields (q : Req) (s : State) : Yields (answered []) s (execSysGetStatus q s) :=
  .mono (getNone_yields ..)

theorem updateEnergy_within (s : State) (vbak : Nat) : Within [.pwr, .icu, .plg] s (updateEnergy s vbak) :=
  .ite (.after (groupRecord_within ..) (.after (State.setPwr_within ..) (.mono (State.setPwr_within ..))))
    (.ite (.after (State.setPwr_within ..) (.mono (State.setPwr_within ..))) (.mono (State.setPwr_within ..)))

theorem setPolicy_within (s : State) (p : Bytes) : Within [.pwr, .hpr, .icu, .plg] s (setPolicy s p) :=
  .ite (.mono (State.setPwr_within ..)) (.after (exitFloat_within ..) (.mono (State.setPwr_within ..)))

theorem execSysSetPowerPolicy_yields (q : Req) (s : State) : Yields (answered [.red]) s (execSysSetPowerPolicy q s) :=
  setR_yields fun s p => .mono (setPolicy_within ..)

theorem execSysGetPowerState_yields (q : Req) (s : State) : Yields (answered []) s (execSysGetPowerState q s) :=
  .mono (getNone_yields ..)

theorem execSysSetVbak_yields (q : Req) (s : State) : Yields (answered []) s (execSysSetVbak q s) :=
  command_yields fun s => .after (ok_within ..) (.after (updateEnergy_within ..) (.mono (State.setPwr_within ..)))

theorem execSysSetAlarm_yields (q : Req) (s : State) : Yields (answered []) s (execSysSetAlarm q s) :=
  command_yields fun s => .after (ok_within ..) (.mono (State.setPwr_within ..))

theorem execSysWinAlloc_yields (q : Req) (s : State) : Yields (answered []) s (execSysWinAlloc q s) :=
  command_yields fun s => .after (ok_within ..) (.mono (State.modDesc_within ..))

theorem execSysWinFree_yields (q : Req) (s : State) : Yields (answered []) s (execSysWinFree q s) :=
  command_yields fun s => .after (ok_within ..) (.mono (State.modDesc_within ..))

theorem execSysSetSlots_yields (q : Req) (s : State) : Yields (answered []) s (execSysSetSlots q s) :=
  command_yields fun s => .after (ok_within ..) (.mono (State.setHpr_within ..))

/-! ## Power states (02_power_states_clocks.md R36 to R52) -/

theorem enterHoldup_within (s : State) : Within [.pwr, .rings, .bal, .hpr, .icu, .plg] s (enterHoldup s) :=
  .foldl (.after (icuPrivate_within ..)
    (.after (icuPrivate_within ..) (.after (setPower_within ..) (.mono (State.setPwr_within ..))))) fun s x => .mono
    (stopBalancing_within ..)

theorem execVinLoss_yields (t vin : Nat) (s : State) :
    Yields (allBut [.hviStr, .cee, .tpe, .th, .dsp, .gx2, .le, .net, .flt, .upd, .canRam, .free]) s (execVinLoss t vin s) := by
  delta execVinLoss
  extract_lets +onlyGivenNames _
  refine .advance (t := t) (.next (.ite .refl ?_))
  extract_lets +onlyGivenNames s2
  exact .then (u := s2) (.alts3 (fun _ => .mono (State.setSeq_within ..)) (fun _ => .mono (powerUpFailure_within ..)) fun _ =>
    .alts4 (fun _ => .mono (enterHoldup_within ..)) (fun _ => .mono (enterHoldup_within ..))
    (fun _ => .mono (enterHoldup_within ..)) fun _ => .refl) (.mono (State.setPwr_within ..))

theorem abandonRamps_within (s : State) : Within [.pwr, .conv] s (abandonRamps s) :=
  .foldl (.mono (State.setPwr_within ..)) fun s x => .mono (State.modConv_within ..)

theorem wakeTsu_within (s : State) : Within [.tsu] s (wakeTsu s) := by
  delta wakeTsu
  exact State.setTsu_within ..

theorem leaveDormant_within (s : State) : Within [.pwr, .red, .tsu, .hpr, .icu, .plg] s (leaveDormant s) := by
  delta leaveDormant
  exact .after (State.setRed_within ..)
    (.ite (.after (sendBeat_within ..)
    (.after (State.setPwr_within ..) (.after (flushBuffer_within ..) (.after (setPower_within ..) (.mono (wakeTsu_within ..))))))
    (.after (State.setPwr_within ..) (.after (flushBuffer_within ..) (.after (setPower_within ..) (.mono (wakeTsu_within ..))))))

theorem resumeActive_within (s : State) : Within [.pwr, .red, .tsu, .hpr, .icu, .plg] s (resumeActive s) :=
  .ite (leaveDormant_within ..) (.mono (setPower_within ..))

theorem execVinReturn_yields (t vin : Nat) (s : State) :
    Yields (timed [.unit, .pwr, .hvi, .conv, .red, .seq, .hpr, .app, .icu, .plg]) s (execVinReturn t vin s) := by
  delta execVinReturn calStepEnd.match_1
  extract_lets +onlyGivenNames _
  refine .advance (t := t) (.next (.ite .refl ?_))
  extract_lets +onlyGivenNames s2
  exact .then (u := s2) (.alts4 (fun _ => .lit (.mono (setPower_within ..)) fun _ => .lit
    (.after (resumeActive_within ..) (.mono (abandonRamps_within ..))) fun _ => .lit (.mono (State.setPwr_within ..)) fun _ =>
    .after (resumeActive_within ..) (.mono (State.setPwr_within ..))) (fun _ => .ite (.mono (onRequest_within ..)) .refl)
    (fun _ => .mono (setPower_within ..)) fun _ => .refl) (.mono (State.setPwr_within ..))

theorem execHoldupSwapRequest_yields (t : Nat) (s : State) : Yields (timed [.pwr, .red]) s (execHoldupSwapRequest t s) :=
  .next (.ite (.after (State.setPwr_within ..) (.after (requestSwap_within ..) (.mono (State.advance_within ..))))
    (.mono (State.advance_within ..)))

theorem execHoldupRampStep_yields (t : Nat) (s : State) : Yields (timed [.pwr, .conv]) s (execHoldupRampStep t s) := by
  delta execHoldupRampStep
  extract_lets +onlyGivenNames _
  refine .advance (t := t) (.next (.ite .refl ?_))
  extract_lets +onlyGivenNames s2
  exact .then (u := s2) (.ite (.foldl (.mono (State.setPwr_within ..)) fun s x => .ite (.mono (State.modConv_within ..)) .refl)
    .refl) (.mono (State.setPwr_within ..))

theorem execHoldupDisconnectStep_yields (t : Nat) (s : State) :
    Yields (timedAnswer [.str, .conv, .phase, .saf]) s (execHoldupDisconnectStep t s) := by
  delta execHoldupDisconnectStep
  extract_lets +onlyGivenNames _
  refine .advance (t := t) (.next (.ite .refl ?_))
  extract_lets +onlyGivenNames s2
  exact .then (u := s2) (.ite (.mono (disconnectAll_within ..)) .refl) (.mono (State.setPwr_within ..))

theorem execMramWriteback_yields (t : Nat) (s : State) :
    Yields (timed [.pwr, .hvi, .cee, .conv, .red, .hpr, .icu, .plg, .upd, .free]) s (execMramWriteback t s) :=
  .next (.ite (.mono (State.advance_within ..))
    (.ite (.after (resumeActive_within ..)
    (.after (State.setPwr_within ..)
    (.after (writeback_within ..) (.after (State.setPwr_within ..) (.mono (State.advance_within ..))))))
    (.after (writeback_within ..) (.after (State.setPwr_within ..) (.mono (State.advance_within ..))))))

theorem execRetentionEntry_yields (t : Nat) (s : State) :
    Yields (timedAnswer [.unit, .str, .hvi, .conv, .phase, .saf, .red, .rack, .seq, .app]) s (execRetentionEntry t s) :=
  .next (.ite (.after (goOff_within ..) (.mono (State.advance_within ..))) (.mono (State.advance_within ..)))

theorem execVbakCritical_yields (t vbak : Nat) (s : State) :
    Yields (timedAnswer [.str, .conv, .phase, .saf]) s (execVbakCritical t vbak s) := by
  delta execVbakCritical
  extract_lets +onlyGivenNames _
  refine .advance (t := t) (.next (.ite ?_ .refl))
  extract_lets +onlyGivenNames s2
  refine .then (u := s2) (.ite .refl ?_) (.after (groupRecord_within ..) (.mono (State.setPwr_within ..)))
  extract_lets +onlyGivenNames s3
  exact .then (u := s3) (.ite (.mono (disconnectAll_within ..)) .refl) (.mono (State.setPwr_within ..))

theorem execVbakRetentionFloor_yields (t vbak : Nat) (s : State) :
    Yields (timed [.pwr, .seq, .hpr, .icu, .plg]) s (execVbakRetentionFloor t vbak s) :=
  .next (.ite (.after (setPower_within ..)
    (.after (State.setSeq_within ..)
    (.after (State.setTsu_within ..) (.after (State.setPwr_within ..) (.mono (State.advance_within ..))))))
    (.mono (State.advance_within ..)))

theorem retryWrite_within (s : State) (k : Nat) : Within [.pwr, .hvi, .cee, .conv, .saf, .red, .free] s (retryWrite s k) := by
  delta retryWrite calStepEnd.match_1
  refine .lit (.mono (State.setRed_within ..)) fun _ => .lit ?_ fun _ => .lit
    (.option .refl fun _ => .mono (triggerJournal_within ..)) fun _ => .mono (writeCheck_within ..)
  beta_reduce
  extract_lets +onlyGivenNames s1 _
  exact .then (u := s1) (.option (.option .refl fun _ => .ite .refl (.mono (State.modChan_within ..))) fun _ => .ite
    (.option .refl fun _ => .ite .refl (.mono (State.modChan_within ..)))
    (.after (State.modChan_within ..) (.option .refl fun _ => .ite .refl (.mono (State.modChan_within ..)))))
    (.foldl .refl fun s x => .mono (storeE_within ..))

theorem execEAvailUpdate_yields (t vbak : Nat) (s : State) :
    Yields (timed [.pwr, .hvi, .cee, .conv, .saf, .red, .icu, .plg, .free]) s (execEAvailUpdate t vbak s) :=
  .next (.ite (.mono (State.advance_within ..))
    (.ite (.foldl (.after (State.setPwr_within ..) (.after (updateEnergy_within ..) (.mono (State.advance_within ..)))) fun s x =>
    .mono (retryWrite_within ..)) (.after (updateEnergy_within ..) (.mono (State.advance_within ..)))))

theorem execCapacitanceMeasurement_yields (t droop esr : Nat) (s : State) :
    Yields (timed [.pwr, .icu, .plg]) s (execCapacitanceMeasurement t droop esr s) :=
  .next (.ite (.after (updateEnergy_within ..) (.after (State.setPwr_within ..) (.mono (State.advance_within ..))))
    (.mono (State.advance_within ..)))

theorem execFloatEntry_yields (t : Nat) (s : State) : Yields (timed [.pwr, .hpr, .icu, .plg]) s (execFloatEntry t s) :=
  .next (.ite (.after (setPower_within ..) (.after (State.setPwr_within ..) (.mono (State.advance_within ..))))
    (.mono (State.advance_within ..)))

theorem execFloatExit_yields (t : Nat) (s : State) : Yields (timed [.pwr, .hpr, .icu, .plg]) s (execFloatExit t s) :=
  .next (.ite (.after (exitFloat_within ..) (.mono (State.advance_within ..))) (.mono (State.advance_within ..)))

theorem execFloatClockRaise_yields (t instant : Nat) (s : State) : Yields (timed [.pwr]) s (execFloatClockRaise t instant s) :=
  .next (.ite (.after (State.setPwr_within ..) (.mono (State.advance_within ..))) (.mono (State.advance_within ..)))

theorem execDormantEntry_yields (t : Nat) (s : State) :
    Yields (timed [.pwr, .rings, .bal, .red, .hpr, .icu, .plg]) s (execDormantEntry t s) := by
  delta execDormantEntry
  extract_lets +onlyGivenNames _
  refine .advance (t := t) (.next (.ite ?_ .refl))
  extract_lets +onlyGivenNames s2 s3 s4
  exact .then (u := s4) (.after (setPower_within ..) (.mono (State.setPwr_within ..)))
    (.then (u := s3) (.mono (State.setRed_within ..))
    (.then (u := s2) (.ite (.after (peerSend_within ..) (.mono (sendBeat_within ..))) .refl)
    (.foldl .refl fun s x => .mono (stopBalancing_within ..))))

theorem wakeUp_within (s : State) (w : WakeCause) : Within [.pwr, .red, .tsu, .hpr, .icu, .plg] s (wakeUp s w) :=
  .ite .refl (.after (leaveDormant_within ..) (.ite (.mono (State.setPwr_within ..)) .refl))

theorem execWakeEvent_yields (t : Nat) (w : WakeCause) (s : State) :
    Yields (timed [.pwr, .red, .hpr, .icu, .plg]) s (execWakeEvent t w s) :=
  .next (.after (wakeUp_within ..) (.mono (State.advance_within ..)))

theorem loopStops_within (s : State) : Within [.str, .tpe, .conv, .phase, .saf, .red, .hpr, .icu, .plg, .mem] s (loopStops s) :=
  .foldl .refl fun s x => .ite (.after (rampDone_within ..) (.mono (stopPair_within ..))) (.mono (gateOffString_within ..))

theorem execClockFailure_yields (t : Nat) (d : ClockDomain) (s : State) :
    Yields (allBut [.dsp, .gx2, .le, .seq, .net, .upd, .canRam, .free]) s (execClockFailure t d s) := by
  delta execClockFailure
  extract_lets +onlyGivenNames _
  refine .advance (t := t) (.next (.ite .refl ?_))
  extract_lets +onlyGivenNames s2
  refine .then (u := s2) (.ite (.mono (State.setPwr_within ..)) ?_) (.mono (groupRecord_within ..))
  extract_lets +onlyGivenNames s3
  refine .then (u := s3) ?_ (.mono (State.setPwr_within ..))
  split
  · exact .after (loseSup_within ..) (.mono (State.setPwr_within ..))
  · exact .after (retireUnit_within ..) (.mono (loopStops_within ..))
  · exact .after (retireUnit_within ..) (.foldl .refl fun s x => .mono (stopPair_within ..))
  · exact .mono (retireUnit_within ..)
  · exact .mono (retireUnit_within ..)
  · exact .mono (retireUnit_within ..)
  · extract_lets +onlyGivenNames s4 s5
    exact .then (u := s5) (.after (retireUnit_within ..) (.after (retireUnit_within ..) (.mono (retireUnit_within ..))))
      (.then (u := s4) (.mono (enterSafeHold_within ..)) (.mono (State.setPwr_within ..)))
  · exact .mono (retier_within ..)

theorem supStart_within (s : State) (cause : Nat) : Within [.pwr, .hpr, .icu, .plg] s (supStart s cause) :=
  .after (record_within ..) (.after (State.setHpr_within ..) (.mono (State.setPwr_within ..)))

theorem execXrefRetry_yields (t : Nat) (ok : Bool) (s : State) :
    Yields (timedAnswer [.unit, .str, .hvi, .rings, .bal, .conv, .phase, .saf, .red, .app, .flt]) s (execXrefRetry t ok s) :=
  .next (.ite (.after (retier_within ..)
    (.after (supStart_within ..) (.after (State.setPwr_within ..) (.mono (State.advance_within ..)))))
    (.mono (State.advance_within ..)))

theorem execSupRestart_yields (t : Nat) (s : State) :
    Yields (timedAnswer [.unit, .str, .hvi, .rings, .bal, .conv, .phase, .saf, .red, .app, .flt]) s (execSupRestart t s) :=
  .next (.ite (.after (retier_within ..)
    (.after (supStart_within ..) (.after (State.setPwr_within ..) (.mono (State.advance_within ..)))))
    (.mono (State.advance_within ..)))

theorem execImbalance_yields (t row obj : Nat) (amount : Int) (s : State) :
    Yields (timed [.icu, .flt, .plg]) s (execImbalance t row obj amount s) := by
  delta execImbalance execImbalance.match_1
  extract_lets +onlyGivenNames _
  refine .advance (t := t) (.next (.ite .refl ?_))
  extract_lets +onlyGivenNames s2
  exact .then (u := s2) (.lit (.ite (.mono (detected_within ..)) (.mono (State.setFlt_within ..))) fun _ => .lit
    (.mono (detected_within ..)) fun _ => .mono (State.setFlt_within ..)) (.mono (record_within ..))

/-! ## The commands that move a string (01_system.md R24 to R28, R34) -/

theorem execStrGetState_yields (q : Req) (s : State) : Yields (answered []) s (execStrGetState q s) :=
  .mono (getI_yields ..)

theorem strCommand_yields {l : List Piece} {op : Nat} {bad : State → Nat → Option Nat} {run : State → Req → Nat → State} {q : Req}
    {s : State} (h : ∀ s n, Within l s (run s q n)) (e : among (answered []) l = true := by exact Eq.refl true) :
    Yields l s (strCommand op bad run q s) := by
  delta strCommand
  exact command_yields (fun s => h s _) e

theorem beginTrans_within (s : State) (op : Nat) (q : Req) (i : Nat) : Within [.str, .hpr] s (beginTrans s op q i) :=
  .after (State.modStr_within ..) (.mono (keepExec_within ..))

theorem execStrConnect_yields (q : Req) (s : State) : Yields (answered [.str, .conv]) s (execStrConnect q s) :=
  strCommand_yields fun s n => .after (State.modConv_within ..)
    (.after (setStr_within ..) (.after (exitFloat_within ..) (.mono (beginTrans_within ..))))

theorem leaveRegulating_within (s : State) (i : Nat) (dest : StrState) :
    Within [.str, .tpe, .conv, .phase, .saf, .red, .hpr, .icu, .plg, .mem] s (leaveRegulating s i dest) :=
  .ite (.after (startRamp_within ..) (.mono (stopPair_within ..))) (.after (rampDone_within ..) (.mono (stopPair_within ..)))

theorem execStrDisconnect_yields (q : Req) (s : State) :
    Yields (answered [.str, .tpe, .conv, .phase, .saf, .red]) s (execStrDisconnect q s) := by
  delta execStrDisconnect
  refine strCommand_yields fun s n => .alts (fun _ => .after (commit_within ..) (.mono (prechargeAbort_within ..))) fun _ => ?_
  extract_lets +onlyGivenNames s1
  exact .then (u := s1) (.ite (.mono (leaveRegulating_within ..)) (.mono (disconnectNow_within ..)))
    (.after (beginTrans_within ..) (.mono (abortTrans_within ..)))

theorem execStrRegulate_yields (q : Req) (s : State) : Yields (answered [.str, .red]) s (execStrRegulate q s) :=
  strCommand_yields fun s n => .after (commit_within ..) (.after (exitFloat_within ..) (.mono (setStr_within ..)))

theorem execStrIdle_yields (q : Req) (s : State) :
    Yields (answered [.str, .tpe, .conv, .phase, .saf, .red]) s (execStrIdle q s) :=
  strCommand_yields fun s n => .after (leaveRegulating_within ..) (.mono (beginTrans_within ..))

theorem execStrReset_yields (q : Req) (s : State) : Yields (answered [.str, .hviStr, .saf, .red]) s (execStrReset q s) :=
  strCommand_yields fun s n => .after (commit_within ..) (.after (setStr_within ..) (.mono (releaseLatches_within ..)))

theorem execStrRetire_yields (q : Req) (s : State) :
    Yields (answered [.str, .rings, .bal, .conv, .phase, .saf, .red, .flt]) s (execStrRetire q s) :=
  strCommand_yields fun s n => .after (commit_within ..) (.mono (retireStr_within ..))

theorem execStrRestore_yields (q : Req) (s : State) :
    Yields (answered [.str, .rings, .bal, .conv, .phase, .saf, .red, .flt]) s (execStrRestore q s) := by
  delta execStrRestore
  extract_lets +onlyGivenNames _
  exact strCommand_yields fun s n => .mono (startRestore_within ..)

theorem leDeadline_within (s : State) (n : Nat) :
    Within [.str, .tpe, .conv, .phase, .le, .saf, .red, .hpr, .icu, .flt, .plg, .mem] s (leDeadline s n) :=
  .ite (.mono (State.modLoop_within ..)) (.after (detected_within ..) (.foldl (.mono (State.modLoop_within ..)) fun s x => .ite
    (.after (rampDone_within ..) (.mono (stopPair_within ..))) .refl))

theorem execDeadlineFault_yields (t : Nat) (e : Engine) (s : State) :
    Yields (timed [.str, .cee, .tpe, .conv, .phase, .le, .saf, .red, .hpr, .icu, .flt, .plg, .mem]) s
    (execDeadlineFault t e s) := by
  delta execDeadlineFault
  extract_lets +onlyGivenNames _
  refine .advance (t := t) (.next (.alts (fun _ => ?_) fun _ => .ite (.mono (leDeadline_within ..)) .refl))
  extract_lets +onlyGivenNames _ _
  exact .ite (.mono (ceeDeadline_within ..)) .refl

/-! ## The TSU (14_time.md R410 to R427) -/

theorem modTrig_within (s : State) (n : Nat) (f : Trigger → Trigger) : Within [.tsu] s (modTrig s n f) :=
  State.setTsu_within ..

theorem modCap_within (s : State) (n : Nat) (f : Capture → Capture) : Within [.tsu] s (modCap s n f) :=
  State.setTsu_within ..

theorem modPtp_within (s : State) (n : Nat) (f : PtpPort → PtpPort) : Within [.tsu] s (modPtp s n f) :=
  State.setTsu_within ..

theorem fire_within (s : State) (n : Nat) (late : Bool) : Within [.tsu, .icu, .plg] s (fire s n late) :=
  .ite (.after (icuShared_within ..) (.after (State.setTsu_within ..) (.mono (modTrig_within ..))))
    (.after (State.setTsu_within ..) (.mono (modTrig_within ..)))

theorem armTrigger_within (s : State) (n : Nat) : Within [.tsu, .icu, .plg] s (armTrigger s n) :=
  .ite (.mono (modTrig_within ..)) (.ite (.after (fire_within ..) (.mono (modTrig_within ..)))
    (.after (modTrig_within ..) (.mono (modTrig_within ..))))

theorem execTriggerFire_yields (t n : Nat) (s : State) : Yields (timed [.icu, .plg]) s (execTriggerFire t n s) :=
  .next (.ite (.after (fire_within ..) (.mono (State.advance_within ..))) (.mono (State.advance_within ..)))

theorem tsuAccErr_within (s : State) : Within [.tsu, .icu] s (tsuAccErr s) :=
  .after (icuPrivate_within ..) (.mono (State.setTsu_within ..))

theorem writeTrigCtrl_within (s : State) (n : Nat) (v : BitVec 32) : Within [.tsu, .icu, .plg] s (writeTrigCtrl s n v) :=
  .ite (.after (armTrigger_within ..) (.mono (modTrig_within ..))) (.mono (modTrig_within ..))

theorem execTsuTrgCtrlWrite_yields (t : Nat) (app : Bool) (n : Nat) (value : BitVec 32) (s : State) :
    Yields (timed [.icu, .plg]) s (execTsuTrgCtrlWrite t app n value s) :=
  .next (.ite (.mono (State.advance_within ..)) (.ite (.after (writeTrigCtrl_within ..) (.mono (State.advance_within ..)))
    (.after (tsuAccErr_within ..) (.mono (State.advance_within ..)))))

theorem execTsuSnapWrite_yields (t : Nat) (value : BitVec 32) (s : State) : Yields (timed []) s (execTsuSnapWrite t value s) :=
  .next (.ite (.after (State.setTsu_within ..) (.mono (State.advance_within ..))) (.mono (State.advance_within ..)))

theorem execTsuEvtClear_yields (t : Nat) (app : Bool) (mask : BitVec 32) (s : State) :
    Yields (timed [.icu]) s (execTsuEvtClear t app mask s) :=
  .next (.ite (.after (tsuAccErr_within ..) (.after (State.setTsu_within ..) (.mono (State.advance_within ..))))
    (.after (State.setTsu_within ..) (.mono (State.advance_within ..))))

theorem execCaptureEdge_yields (t n : Nat) (rising : Bool) (frac levelNs : Nat) (s : State) :
    Yields (timed [.conv, .icu, .plg]) s (execCaptureEdge t n rising frac levelNs s) :=
  .next (.ite (.mono (State.advance_within ..))
    (.ite (.after (syncEdgeAt_within ..)
    (.ite (.after (icuShared_within ..) (.ite (.after (modCap_within ..) (.mono (State.advance_within ..)))
    (.after (State.setTsu_within ..) (.after (modCap_within ..) (.mono (State.advance_within ..))))))
    (.ite (.after (modCap_within ..) (.mono (State.advance_within ..)))
    (.after (State.setTsu_within ..) (.after (modCap_within ..) (.mono (State.advance_within ..)))))))
    (.ite (.after (icuShared_within ..) (.ite (.after (modCap_within ..) (.mono (State.advance_within ..)))
    (.after (State.setTsu_within ..) (.after (modCap_within ..) (.mono (State.advance_within ..))))))
    (.ite (.after (modCap_within ..) (.mono (State.advance_within ..)))
    (.after (State.setTsu_within ..) (.after (modCap_within ..) (.mono (State.advance_within ..))))))))

theorem popCap_within (s : State) (n : Nat) : Within [.tsu] s (popCap s n) :=
  modCap_within ..

theorem execTsuCapPop_yields (t : Nat) (app : Bool) (n : Nat) (s : State) : Yields (timed [.icu]) s (execTsuCapPop t app n s) :=
  .next (.ite (.mono (State.advance_within ..)) (.ite (.after (popCap_within ..) (.mono (State.advance_within ..)))
    (.after (tsuAccErr_within ..) (.mono (State.advance_within ..)))))

theorem writeCapCtrl_within (s : State) (n v : Nat) : Within [.tsu] s (writeCapCtrl s n v) := by
  delta writeCapCtrl
  extract_lets +onlyGivenNames s1
  exact .then (u := s1) (modCap_within ..) (.ite (popCap_within ..) .refl)

theorem tsuWrite_within (s : State) (app : Bool) (off : Nat) (v : BitVec 32) :
    Within [.tsu, .icu, .plg] s (tsuWrite s app off v) := by
  delta tsuWrite
  extract_lets +onlyGivenNames _
  refine .ite (.mono (State.setTsu_within ..)) (.ite ?_ (.ite ?_ .refl))
  · extract_lets +onlyGivenNames _ _
    exact .ite .refl (.ite (.mono (tsuAccErr_within ..)) (.ite (writeTrigCtrl_within ..) (.mono (modTrig_within ..))))
  · extract_lets +onlyGivenNames _
    exact .ite .refl (.ite (.mono (writeCapCtrl_within ..)) (.mono (tsuAccErr_within ..)))

theorem setSourceFrom_within (was s : State) (new : Option TimeSource) : Within [.tsu] s (setSourceFrom was s new) := by
  delta setSourceFrom
  extract_lets +onlyGivenNames _
  exact .ite .refl (State.setTsu_within ..)

theorem setSource_within (s : State) (new : Option TimeSource) : Within [.tsu] s (setSource s new) :=
  setSourceFrom_within ..

theorem reselectFrom_within (was s : State) : Within [.tsu] s (reselectFrom was s) :=
  setSourceFrom_within ..

theorem reselect_within (s : State) : Within [.tsu] s (reselect s) :=
  reselectFrom_within ..

theorem inDomain_within {l : List Piece} {s : State} {port domain : Nat} {f : State → State} (h : ∀ s, Within l s (f s))
    (e : among [.tsu] l = true := by exact Eq.refl true) : Within l s (inDomain s port domain f) := by
  delta inDomain
  exact .ite .refl (.ite (.mono (modPtp_within ..) e) (h s))

theorem execSyncMessage_yields (t port domain : Nat) (offset : Int) (s : State) :
    Yields (timed []) s (execSyncMessage t port domain offset s) :=
  .next (.then (inDomain_within fun s => .ite .refl (.mono (modPtp_within ..))) (.mono (State.advance_within ..)))

theorem execAnnounce_yields (t port domain : Nat) (m : Master) (s : State) :
    Yields (timed []) s (execAnnounce t port domain m s) :=
  .next (.then (inDomain_within fun s => .after (reselect_within ..) (.mono (modPtp_within ..)))
    (.mono (State.advance_within ..)))

theorem execAnnounceTimeout_yields (t port : Nat) (s : State) : Yields (timed []) s (execAnnounceTimeout t port s) :=
  .next (.ite (.after (reselectFrom_within ..) (.after (modPtp_within ..) (.mono (State.advance_within ..))))
    (.mono (State.advance_within ..)))

theorem execPdelayReq_yields (t port domain turnaround : Nat) (s : State) :
    Yields (timed []) s (execPdelayReq t port domain turnaround s) :=
  .next (.then (inDomain_within fun s => .mono (modPtp_within ..)) (.mono (State.advance_within ..)))

theorem execPdelayMeasurement_yields (t port delay : Nat) (s : State) :
    Yields (timed []) s (execPdelayMeasurement t port delay s) :=
  .next (.ite (.after (modPtp_within ..) (.mono (State.advance_within ..))) (.mono (State.advance_within ..)))

theorem stepTrigger_within (s : State) (n : Nat) : Within [.tsu, .icu, .plg] s (stepTrigger s n) :=
  .ite .refl (.ite (.ite (fire_within ..) .refl) (.mono (modTrig_within ..)))

theorem stepTime_within (s : State) (new : Nat) : Within [.dsp, .tsu, .icu, .plg] s (stepTime s new) := by
  delta stepTime
  exact .after (State.setDsp_within ..) (.foldl (.after (groupRecord_within ..) (.mono (State.setTsu_within ..))) fun s x => .mono
    (stepTrigger_within ..))

theorem removeOffset_within (s : State) (offset : Int) : Within [.dsp, .tsu, .icu, .plg] s (removeOffset s offset) := by
  delta removeOffset
  exact .ite (stepTime_within ..) (.mono (State.setTsu_within ..))

theorem execServoUpdate_yields (t : Nat) (src : TimeSource) (offset : Int) (s : State) :
    Yields (timed [.dsp, .icu, .plg]) s (execServoUpdate t src offset s) := by
  delta execServoUpdate
  extract_lets +onlyGivenNames _
  refine .advance (t := t) (.next (.ite .refl ?_))
  extract_lets +onlyGivenNames _ _ s2
  exact .then (u := s2) (.mono (State.setTsu_within ..)) (.after (State.setTsu_within ..) (.mono (removeOffset_within ..)))

theorem execHoldoverExpiry_yields (t : Nat) (s : State) : Yields (timed []) s (execHoldoverExpiry t s) :=
  .next (.ite (.after (State.setTsu_within ..) (.mono (State.advance_within ..))) (.mono (State.advance_within ..)))

theorem execPpsInEdge_yields (t : Nat) (s : State) : Yields (timed []) s (execPpsInEdge t s) := by
  delta execPpsInEdge
  extract_lets +onlyGivenNames _
  refine .advance (t := t) (.next (.ite .refl ?_))
  extract_lets +onlyGivenNames _
  exact .ite (.mono (State.setTsu_within ..)) (.ite (.mono (setSource_within ..)) .refl)

theorem execTimGetTime_yields (q : Req) (s : State) : Yields (answered []) s (execTimGetTime q s) :=
  .mono (getNone_yields ..)

theorem execTimGetStatus_yields (q : Req) (s : State) : Yields (answered []) s (execTimGetStatus q s) :=
  .mono (getNone_yields ..)

theorem storeTim_within (was : State) (p : Bytes) : Within [.tsu] was (storeTim was p) :=
  .after (reselectFrom_within ..) (State.setTsu_within ..)

theorem execTimSetConfig_yields (q : Req) (s : State) : Yields (answered [.tsu]) s (execTimSetConfig q s) :=
  command_yields fun s => .after (ok_within ..) (.mono (storeTim_within ..))

theorem execTimGetConfig_yields (q : Req) (s : State) : Yields (answered []) s (execTimGetConfig q s) :=
  .mono (getNone_yields ..)

theorem execTimSetTime_yields (q : Req) (s : State) : Yields (answered [.dsp, .tsu]) s (execTimSetTime q s) := by
  delta execTimSetTime
  exact command_yields fun s => .after (ok_within ..) (.mono (stepTime_within ..))

theorem execTimSetTrigger_yields (q : Req) (s : State) : Yields (answered [.tsu]) s (execTimSetTrigger q s) :=
  command_yields fun s => .after (ok_within ..) (.after (writeTrigCtrl_within ..) (.mono (modTrig_within ..)))

theorem execTimGetTrigger_yields (q : Req) (s : State) : Yields (answered []) s (execTimGetTrigger q s) :=
  command_yields fun s => .mono (ok_within ..)

theorem execTimSetCapture_yields (q : Req) (s : State) : Yields (answered [.tsu]) s (execTimSetCapture q s) := by
  delta execTimSetCapture
  extract_lets +onlyGivenNames _
  exact command_yields fun s => .after (ok_within ..) (.mono (writeCapCtrl_within ..))

theorem execTimReadCapture_yields (q : Req) (s : State) : Yields (answered [.tsu]) s (execTimReadCapture q s) := by
  delta execTimReadCapture
  extract_lets +onlyGivenNames _
  refine command_yields fun s => ?_
  extract_lets +onlyGivenNames _ _ _
  exact .after (ok_within ..) (.mono (modCap_within ..))

theorem execTimDelegate_yields (q : Req) (s : State) : Yields (answered [.tsu]) s (execTimDelegate q s) :=
  command_yields fun s => .after (ok_within ..) (.foldl (.mono (State.setTsu_within ..)) fun s x => .ite
    (.mono (retarget_within ..)) .refl)

/-! ## Update (19_update.md R512 to R537) -/

theorem beginXfer_within (s : State) (q : Req) : Within [.hpr, .icu, .upd, .mem] s (beginXfer s q) := by
  delta beginXfer
  dsimp only
  split
  · exact .mono (finish1_within ..)
  · exact .after (ok_within ..) (.mono (State.modXfer_within ..))

theorem execUpdBegin_yields (q : Req) (s : State) : Yields (answered [.upd]) s (execUpdBegin q s) :=
  command_yields fun s => .mono (beginXfer_within ..)

theorem execUpdChunk_yields (q : Req) (s : State) : Yields (answered [.upd]) s (execUpdChunk q s) := by
  delta execUpdChunk
  extract_lets +onlyGivenNames _ _ _ _
  refine command_yields fun s => ?_
  extract_lets +onlyGivenNames _ _
  split
  · extract_lets +onlyGivenNames s1
    refine .then (u := s1) ?_ (.mono (State.modXfer_within ..))
    split
    · exact .mono (ok_within ..)
    · exact .mono (finish1_within ..)

theorem execChunkFlush_yields (t : Nat) (s : State) : Yields (timed [.upd]) s (execChunkFlush t s) := by
  delta execChunkFlush
  extract_lets +onlyGivenNames _
  exact .advance (t := t) (.next (.ite (.mono (flushUpdate_within ..)) .refl))

theorem eraseTarget_within (s : State) (p : Nat) : Within [.upd] s (eraseTarget s p) := by
  delta eraseTarget
  exact State.modPart_within ..

theorem execUpdVerify_yields (q : Req) (s : State) : Yields (answered [.upd]) s (execUpdVerify q s) := by
  delta execUpdVerify
  extract_lets +onlyGivenNames _
  refine command_yields fun s => .optionSwap (fun _ => .after (finish1_within ..) (.mono (State.modXfer_within ..))) ?_
  extract_lets +onlyGivenNames _ _ s1 s2
  exact .then (u := s2) (.ite (.mono (ok_within ..)) (.mono (finish1_within ..)))
    (.then (u := s1) (.ite (.mono (eraseTarget_within ..)) .refl) (.mono (State.modXfer_within ..)))

theorem execPreEraseComplete_yields (t : Nat) (s : State) : Yields (timed [.upd]) s (execPreEraseComplete t s) := by
  delta execPreEraseComplete
  extract_lets +onlyGivenNames _
  exact .advance (t := t) (.next (.mono (State.modXfer_within ..)))

theorem loadDescs_within {s u : State} {bs : List Bytes} (h : loadDescs s bs = some u) : Within [.le] s u := by
  induction bs generalizing s with
  | nil => cases h; exact .refl
  | cons b bs ih =>
    simp only [loadDescs, Option.ite_none_left_eq_some] at h
    exact .then (ih h.2) (State.modLoop_within ..)

theorem loadModel_within (s : State) (n : Nat) (b : Bytes) : Within [.cee] s (loadModel s n b) := by
  delta loadModel
  exact State.setCee_within ..

theorem applyDirect_within (s : State) (x : Xfer) (target : Nat) :
    Within [.unit, .str, .pwr, .hvi, .rings, .cee, .bal, .conv, .phase, .le, .saf, .red, .hpr, .app, .icu, .flt, .plg, .upd, .mem]
    s (applyDirect s x target) := by
  have descs (bs : List Bytes) : Within [.le] s ((loadDescs s bs).getD s) := by
    cases h : loadDescs s bs with
    | none => exact .refl
    | some u => exact loadDescs_within h
  delta applyDirect
  dsimp only
  split
  · exact .after (storeImage_within ..) (.mono (loadModel_within ..))
  · exact .after (storeImage_within ..) (.mono (State.setCee_within ..))
  · exact .after (retier_within ..) (.mono (descs _))
  · exact .mono (stageSet_within ..)

theorem startHandover_within (s : State) (a : Activation) : Within [.hpr, .upd] s (startHandover s a) := by
  delta startHandover
  exact .after (State.setUpd_within ..) (.mono (State.setHpr_within ..))

theorem startSp_within (s : State) (a : Activation) : Within [.saf, .upd] s (startSp s a) := by
  delta startSp
  exact .after (State.setUpd_within ..) (.after (State.modChan_within ..) (.mono (State.modChan_within ..)))

theorem recoverImage_within (s : State) (t : Nat) : Within [.upd] s (recoverImage s t) := by
  delta recoverImage
  exact .after (State.modPart_within ..) (State.modXfer_within ..)

theorem activate_within (s : State) (q : Req) :
    Within [.unit, .str, .pwr, .hvi, .hviStr, .rings, .cee, .tpe, .th, .bal, .dsp, .conv, .phase, .gx2, .le, .saf, .red, .rack,
    .tsu, .hpr, .net, .app, .icu, .flt, .plg, .upd, .mem, .canRam] s (activate s q) := by
  delta activate activate.match_1
  extract_lets +onlyGivenNames _ _ _ _ _
  refine .optionSwap (fun _ => .mono (finish1_within ..))
    (.ite (.after (enterBoot_within ..) (.after (ok_within ..) (.mono (recoverImage_within ..)))) ?_)
  extract_lets +onlyGivenNames _ _ _
  refine .lit (.after (startHandover_within ..) (.after (State.modXfer_within ..) (.mono (keepExec_within ..)))) fun _ => .lit
    (.after (startSp_within ..) (.after (State.modXfer_within ..) (.mono (keepExec_within ..)))) fun _ => .lit ?_ fun _ => .lit ?_
    fun _ => .lit ?_ fun _ => .lit ?_ fun _ => .after (ok_within ..) (.mono (applyDirect_within ..))
  · beta_reduce
    extract_lets +onlyGivenNames s2
    exact .then (u := s2) (.after (actDone_within ..) (.after (appRestart_within ..) (.mono (startTrial_within ..))))
      (.after (State.setUpd_within ..) (.after (State.modXfer_within ..) (.mono (keepExec_within ..))))
  · beta_reduce
    extract_lets +onlyGivenNames s2
    exact .then (u := s2) (.ite (.mono (distributed_within ..)) .refl)
      (.after (State.setUpd_within ..) (.after (State.modXfer_within ..) (.mono (keepExec_within ..))))
  · beta_reduce
    extract_lets +onlyGivenNames s2
    exact .then (u := s2) (.ite (.mono (distributed_within ..)) .refl)
      (.after (State.setUpd_within ..) (.after (State.modXfer_within ..) (.mono (keepExec_within ..))))
  · beta_reduce
    extract_lets +onlyGivenNames s2
    exact .then (u := s2) (.ite (.mono (distributed_within ..)) .refl)
      (.after (State.setUpd_within ..) (.after (State.modXfer_within ..) (.mono (keepExec_within ..))))

theorem execUpdActivate_yields (q : Req) (s : State) : Yields (allBut [.clk, .free]) s (execUpdActivate q s) := by
  delta execUpdActivate
  extract_lets +onlyGivenNames _
  exact command_yields fun s => .mono (activate_within ..)

theorem enterRecovery_within (s : State) (cause : Nat) :
    Within [.unit, .str, .pwr, .hvi, .rings, .bal, .conv, .phase, .saf, .red, .hpr, .app, .icu, .plg, .upd, .mem] s
    (enterRecovery s cause) :=
  .after (setUnit_within ..)
    (.after (State.setRed_within ..)
    (.after (State.setHpr_within ..)
    (.after (State.setUpd_within ..)
    (.after (actDone_within ..) (.foldl .refl fun s x => .after (abortTrans_within ..)
    (.after (openCoils_within ..) (.after (gateOffString_within ..) (.mono (haltStr_within ..)))))))))

theorem toRecovery_within (s : State) :
    Within [.unit, .str, .pwr, .hvi, .rings, .bal, .conv, .phase, .saf, .red, .hpr, .app, .icu, .plg, .upd, .mem] s
    (toRecovery s) :=
  .ite (enterRecovery_within ..)
    (.ite .refl (.after (State.setUpd_within ..) (.foldl .refl fun s x => .ite (.mono (startRamp_within ..)) .refl)))

theorem execRecoveryEntry_yields (t : Nat) (s : State) :
    Yields (timedAnswer [.unit, .str, .hvi, .rings, .bal, .conv, .phase, .saf, .red, .app, .upd]) s (execRecoveryEntry t s) := by
  delta execRecoveryEntry
  extract_lets +onlyGivenNames _
  exact .advance (t := t)
    (.next (.ite .refl (.optionSwap (fun _ => .ite (.after (enterRecovery_within ..) (.mono (disconnectAll_within ..))) .refl)
    (.ite .refl (.mono (toRecovery_within ..))))))

theorem noImage_within (s : State) (p : Nat) :
    Within [.unit, .str, .pwr, .hvi, .rings, .bal, .conv, .phase, .saf, .red, .hpr, .app, .icu, .plg, .upd, .mem] s
    (noImage s p) :=
  .ite (.after (State.setApp_within ..)
    (.after (groupRecord_within ..) (.after (State.modXfer_within ..) (.mono (State.modPart_within ..)))))
    (.after (toRecovery_within ..)
    (.after (groupRecord_within ..) (.after (State.modXfer_within ..) (.mono (State.modPart_within ..)))))

theorem fallBack_within (s : State) (p : Nat) :
    Within [.unit, .str, .pwr, .hvi, .rings, .bal, .conv, .phase, .saf, .red, .tsu, .hpr, .net, .app, .icu, .plg, .upd, .mem] s
    (fallBack s p) := by
  delta fallBack State.partAt.match_1
  refine .ite (.mono (noImage_within ..)) ?_
  extract_lets +onlyGivenNames _ _
  refine .lit (.ite (.mono (fellBack_within ..)) (.mono (startHandover_within ..))) fun _ => .lit (.mono (startSp_within ..))
    fun _ => ?_
  beta_reduce
  extract_lets +onlyGivenNames s1
  exact .then (u := s1) (.ite (.mono (appRestart_within ..)) .refl) (.mono (fellBack_within ..))

theorem windowExceeded_within (s : State) (a : Activation) :
    Within [.unit, .str, .pwr, .hvi, .rings, .bal, .conv, .phase, .saf, .red, .hpr, .app, .icu, .flt, .plg, .upd, .mem] s
    (windowExceeded s a) := by
  delta windowExceeded
  extract_lets s1 s2
  refine .then (u := s2) ?_ (.then (u := s1) (.mono (State.modXfer_within ..)) (.mono (State.setHpr_within ..)))
  split
  · exact .after (enterRecovery_within ..) (.mono (actDone_within ..))
  · exact .after (loseSup_within ..)
      (.after (actDone_within ..) (.ite (.mono (fellBack_within ..)) (.mono (State.modPart_within ..))))

theorem execSupHandoverAdopt_yields (t : Nat) (good : Bool) (s : State) :
    Yields (allBut [.hviStr, .cee, .tpe, .th, .dsp, .gx2, .le, .rack, .seq, .net, .canRam, .free]) s
    (execSupHandoverAdopt t good s) := by
  delta execSupHandoverAdopt
  extract_lets +onlyGivenNames _
  refine .advance (t := t) (.next (.optionSwap (fun _ => .ite .refl (.ite (.mono (windowExceeded_within ..)) ?_)) .refl))
  extract_lets +onlyGivenNames s2
  exact .then (u := s2) (.after (actDone_within ..) (.ite (.mono (fellBack_within ..)) (.mono (startTrial_within ..))))
    (.mono (State.setHpr_within ..))

theorem execHandoverWindowExceeded_yields (t : Nat) (s : State) :
    Yields (allBut [.hviStr, .cee, .tpe, .th, .dsp, .gx2, .le, .rack, .seq, .net, .canRam, .free]) s
    (execHandoverWindowExceeded t s) := by
  delta execHandoverWindowExceeded
  extract_lets +onlyGivenNames _
  exact .advance (t := t) (.next (.optionSwap (fun _ => .ite (.mono (windowExceeded_within ..)) .refl) .refl))

theorem execSpActivationTimeout_yields (t : Nat) (s : State) :
    Yields (timedAnswer [.unit, .str, .hvi, .rings, .bal, .conv, .phase, .saf, .red, .app, .upd]) s
    (execSpActivationTimeout t s) := by
  delta execSpActivationTimeout
  extract_lets _
  refine .advance (t := t) (.next ?_)
  split
  · exact .ite .refl (.ite (.ite
      (.after (actDone_within ..)
      (.after (State.modChan_within ..)
      (.after (groupRecord_within ..)
      (.after (State.modPart_within ..)
      (.after (State.modXfer_within ..)
      (.after (State.modChan_within ..) (.foldl .refl fun s x => .mono (haltStr_within ..))))))))
      (.after (toRecovery_within ..)
      (.after (actDone_within ..)
      (.after (groupRecord_within ..)
      (.after (State.modPart_within ..)
      (.after (State.modXfer_within ..)
      (.after (State.modChan_within ..) (.foldl .refl fun s x => .mono (haltStr_within ..)))))))))
      (.after (toRecovery_within ..)
      (.after (actDone_within ..)
      (.after (State.modXfer_within ..) (.after (State.modChan_within ..) (.foldl .refl fun s x => .mono (haltStr_within ..)))))))
  · exact .refl

theorem confirm_within (s : State) (p : Nat) : Within [.red, .upd] s (confirm s p) :=
  .ite (.after (State.modXfer_within ..) (.after (State.setUpd_within ..) (.mono (State.modPart_within ..))))
    (.ite (.ite (.after (requestSwap_within ..)
    (.after (State.modXfer_within ..) (.after (State.setUpd_within ..) (.mono (State.modPart_within ..)))))
    (.after (State.modXfer_within ..) (.after (State.setUpd_within ..) (.mono (State.modPart_within ..)))))
    (.ite (.after (peerSend_within ..)
    (.after (State.modXfer_within ..) (.after (State.setUpd_within ..) (.mono (State.modPart_within ..)))))
    (.after (State.modXfer_within ..) (.after (State.setUpd_within ..) (.mono (State.modPart_within ..))))))

theorem execTrialConfirmation_yields (t part : Nat) (s : State) :
    Yields (timed [.red, .upd]) s (execTrialConfirmation t part s) :=
  .next (.ite (.mono (State.advance_within ..))
    (.ite (.after (confirm_within ..) (.after (State.modPart_within ..) (.mono (State.advance_within ..))))
    (.after (State.modPart_within ..) (.mono (State.advance_within ..)))))

theorem execTrialWindowExpiry_yields (t part : Nat) (s : State) :
    Yields (allBut [.hviStr, .cee, .tpe, .th, .dsp, .gx2, .le, .rack, .seq, .flt, .canRam, .free]) s
    (execTrialWindowExpiry t part s) :=
  .next (.ite (.mono (State.advance_within ..)) (.after (fallBack_within ..) (.mono (State.advance_within ..))))

theorem execFallback_yields (t part : Nat) (s : State) :
    Yields (allBut [.hviStr, .cee, .tpe, .th, .dsp, .gx2, .le, .rack, .seq, .flt, .canRam, .free]) s (execFallback t part s) :=
  .next (.ite (.mono (State.advance_within ..)) (.after (fallBack_within ..) (.mono (State.advance_within ..))))

theorem bootTrial_within (s : State) (p : Nat) : Within [.icu, .plg, .upd] s (bootTrial s p) :=
  .ite .refl (.ite (.mono (State.modPart_within ..)) (.ite (fellBack_within ..) (.mono (State.modPart_within ..))))

theorem bootBank_within (s : State) (p : Nat) : Within [.icu, .plg, .upd] s (bootBank s p) :=
  .ite .refl (.ite (fellBack_within ..) .refl)

theorem execImageBootCheck_yields (t : Nat) (s : State) :
    Yields (timedAnswer [.unit, .str, .hvi, .rings, .bal, .conv, .phase, .saf, .red, .app, .upd]) s (execImageBootCheck t s) := by
  delta execImageBootCheck
  extract_lets +onlyGivenNames _
  refine .advance (t := t) (.next (.ite .refl ?_))
  extract_lets +onlyGivenNames s2 s3 s4
  exact .then (u := s4) (.ite (.mono (State.setUpd_within ..)) (.mono (enterRecovery_within ..)))
    (.then (u := s3) (.ite .refl (.mono (State.setApp_within ..)))
    (.then (u := s2) (.foldl .refl fun s x => .mono (bootBank_within ..)) (.foldl .refl fun s x => .mono (bootTrial_within ..))))

theorem fwFrame_within (s : State) (i m op result : Nat) (f : MonFw → MonFw) : Within [.rings] s (fwFrame s i m op result f) := by
  delta fwFrame
  extract_lets +onlyGivenNames _
  refine .ite .refl ?_
  extract_lets +onlyGivenNames _
  exact .after (State.modMon_within ..) (sendFrame_within ..)

theorem execFwBegin_yields (t i m len : Nat) (s : State) : Yields (timed [.rings]) s (execFwBegin t i m len s) :=
  .next (.after (fwFrame_within ..) (.mono (State.advance_within ..)))

theorem execFwData_yields (t i m offset : Nat) (bytes : List Byte) (s : State) :
    Yields (timed [.rings]) s (execFwData t i m offset bytes s) :=
  .next (.after (fwFrame_within ..) (.mono (State.advance_within ..)))

theorem execFwEnd_yields (t i m crc : Nat) (s : State) : Yields (timed [.rings]) s (execFwEnd t i m crc s) :=
  .next (.after (fwFrame_within ..) (.mono (State.advance_within ..)))

theorem execFwSwitch_yields (t i m : Nat) (startsOk : Bool) (s : State) :
    Yields (timed [.rings]) s (execFwSwitch t i m startsOk s) :=
  .next (.ite (.after (State.modMon_within ..) (.after (fwFrame_within ..) (.mono (State.advance_within ..))))
    (.after (fwFrame_within ..) (.mono (State.advance_within ..))))

theorem execMonitorReturnTimeout_yields (t i m : Nat) (s : State) :
    Yields (timed [.rings, .hpr, .icu, .flt, .plg, .upd, .mem]) s (execMonitorReturnTimeout t i m s) := by
  delta execMonitorReturnTimeout
  extract_lets +onlyGivenNames _
  refine .advance (t := t) (.next (.ite ?_ .refl))
  extract_lets +onlyGivenNames s2
  exact .then (u := s2) (.after (detected_within ..) (.optionSwap (fun _ => .ite (.mono (actFailed_within ..)) .refl) .refl))
    (.mono (State.modMon_within ..))

theorem execDriverConfigLoad_yields (t : Nat) (cx : Bool) (driver : Nat) (accepted : Bool) (s : State) :
    Yields (timed [.gx2, .saf, .hpr, .icu, .upd, .mem]) s (execDriverConfigLoad t cx driver accepted s) := by
  delta execDriverConfigLoad
  extract_lets +onlyGivenNames _
  refine .advance (t := t) (.next (.option .refl fun _ => ?_))
  extract_lets +onlyGivenNames _
  refine .ite .refl (.ite (.mono (actFailed_within ..)) ?_)
  extract_lets +onlyGivenNames s2 s3
  exact .then (u := s3) (.ite .refl (.mono (distributed_within ..))) (.then (u := s2) (.mono (State.setUpd_within ..))
    (.ite (.mono (State.modCont_within ..)) (.mono (State.modGx2_within ..))))

theorem execUpdConfirm_yields (q : Req) (s : State) : Yields (answered [.upd]) s (execUpdConfirm q s) := by
  delta execUpdConfirm
  exact command_yields fun s => .after (ok_within ..) (.mono (State.setUpd_within ..))

theorem execUpdAbort_yields (q : Req) (s : State) :
    Yields (answered [.unit, .str, .hvi, .rings, .bal, .conv, .phase, .saf, .red, .tsu, .net, .app, .upd]) s
    (execUpdAbort q s) := by
  delta execUpdAbort
  dsimp only
  refine command_yields fun s => ?_
  split
  · exact .after (ok_within ..) (.mono (fallBack_within ..))
  · exact .after (ok_within ..) (.ite (.after (State.modXfer_within ..) (.mono (State.modXfer_within ..)))
      (.mono (State.modXfer_within ..)))

theorem execUpdGetStatus_yields (q : Req) (s : State) : Yields (answered []) s (execUpdGetStatus q s) :=
  .mono (getNone_yields ..)

theorem execUpdGetVersions_yields (q : Req) (s : State) : Yields (answered []) s (execUpdGetVersions q s) :=
  .mono (getW_yields ..)

/-! ## The host interface (15_host_interface.md R428 to R445) -/

theorem hprErr_within (s : State) (port : Port) (bit : Nat) : Within [.hpr, .icu] s (hprErr s port bit) := by
  delta hprErr
  refine .ite .refl ?_
  extract_lets +onlyGivenNames s1 s2
  exact .then (u := s2) (.ite (.mono (icuPrivate_within ..)) .refl) (.then (u := s1) (.ite (.mono (icuPrivate_within ..)) .refl)
    (.mono (State.setHpr_within ..)))

theorem postSlots_within (s : State) (port : Port) (mask : BitVec 16) : Within [.hpr, .icu] s (postSlots s port mask) :=
  .foldl .refl fun s x => .ite (hprErr_within ..) (.mono (State.setHpr_within ..))

theorem clearDone_within (s : State) (port : Port) (mask : BitVec 16) : Within [.hpr] s (clearDone s port mask) := by
  delta clearDone
  exact State.setHpr_within ..

theorem clearErr_within (s : State) (mask : BitVec 32) : Within [.hpr] s (clearErr s mask) :=
  State.setHpr_within ..

theorem hostWrite_within (s : State) (off : Nat) (v : BitVec 32) : Within [.hpr, .icu] s (hostWrite s off v) := by
  delta hostWrite hostWrite.match_1
  exact .lit (postSlots_within ..) fun _ => .lit (.mono (clearDone_within ..)) fun _ => .lit (.mono (State.setHpr_within ..))
    fun _ => .lit (.mono (clearErr_within ..)) fun _ => .lit (.mono (State.setHpr_within ..)) fun _ => .ite
    (.mono (icuWrite_within ..)) .refl

theorem appWrite_within (s : State) (off : Nat) (v : BitVec 32) : Within [.hpr, .app, .icu] s (appWrite s off v) := by
  delta appWrite appWrite.match_1
  exact .lit (.mono (postSlots_within ..)) fun _ => .lit (.mono (clearDone_within ..)) fun _ => .lit (.mono (clearErr_within ..))
    fun _ => .mono (State.setApp_within ..)

theorem hostRead_within (s : State) (off : Nat) : Within [.icu] s (hostRead s off).1 := by
  delta hostRead
  exact .iteFst (icuClaim_within ..) (.iteFst .refl .refl)

theorem writeOwn_within (s : State) (port : Port) (d v : Nat) : Within [.hpr, .icu] s (writeOwn s port d v).1 := by
  delta writeOwn
  exact .iteFst (.mono (State.modDesc_within ..)) (hprErr_within ..)

theorem pokeMem_within (s : State) (a : Nat) (v : Byte) : Within [.mem] s { s with mem := memWrite a v s.mem } :=
  ⟨⟨rfl, ⟨memWrite_wf _ _ _, id, id⟩⟩, fun _ => id⟩

theorem writeBuf_within (s : State) (port : Port) (o : Nat) (b : Byte) : Within [.hpr, .icu, .mem] s (writeBuf s port o b).1 := by
  delta writeBuf
  split
  · exact .iteFst (.mono (pokeMem_within ..)) (.mono (hprErr_within ..))
  · exact .mono (hprErr_within ..)

theorem winWrite_within (s : State) (port : Port) (o : Nat) (b : Bytes) :
    Within [.hpr, .icu, .mem] s (winWrite s port o b).1 := by
  induction b generalizing s o with
  | nil => exact .refl
  | cons a r ih =>
    unfold winWrite
    exact .iteFst (.then (ih (writeBuf s port o a).1 (o + 1)) (writeBuf_within ..))
      (.iteFst (.then (ih (writeOwn s port (o / 32) (getU (a :: r) 0 4)).1 (o + 1)) (.mono (writeOwn_within ..)))
        (.iteFst (.then (ih (hprErr (hprErr s port errOwn) port errAlign) (o + 1))
          (.after (hprErr_within ..) (.mono (hprErr_within ..))))
          (ih s (o + 1))))

theorem writeWindow_within (s : State) (port : Port) (o : Nat) (b : Bytes) :
    Within [.hpr, .icu, .mem] s (writeWindow s port o b).1 := by
  delta writeWindow
  split
  · exact .after (winWrite_within ..) (.ite (.after (hprErr_within ..) (.ite (.mono (hprErr_within ..)) .refl))
      (.ite (.mono (hprErr_within ..)) .refl))

theorem execDescriptorOwnWrite_yields (t : Nat) (port : Port) (desc value : Nat) (partialWrite : Bool) (s : State) :
    Yields (timed [.hpr, .icu]) s (execDescriptorOwnWrite t port desc value partialWrite s) :=
  .next (.ite (.mono (State.advance_within ..))
    (.ite (.after (hprErr_within ..) (.after (hprErr_within ..) (.mono (State.advance_within ..))))
    (.after (writeOwn_within ..) (.mono (State.advance_within ..)))))

theorem readWords_within (s : State) (off n : Nat) : Within [.icu] s (readWords s off n).1 := by
  induction n generalizing s off with
  | zero => exact .refl
  | succ n ih => exact .then (ih (hostRead s off).1 (off + 4)) (hostRead_within ..)

theorem writeWords_within (s : State) (off : Nat) (b : Bytes) : Within [.hpr, .icu] s (writeWords s off b) := by
  induction s, off, b using writeWords.induct with
  | case1 s off a b c d r ih =>
    unfold writeWords
    exact .then ih (hostWrite_within ..)
  | case2 s off b h =>
    unfold writeWords
    split
    · exact absurd rfl (h _ _ _ _ _)
    · exact .refl

theorem readRegion_within (s : State) (a n : Nat) : Within [.hpr, .icu, .free] s (readRegion s a n).1 := by
  delta readRegion
  exact .iteFst (.iteFst (.mono (readWords_within ..)) (.mono (hprErr_within ..))) (.iteFst .refl (.of rfl rfl))

theorem execQspiRead_yields (t addr len : Nat) (s : State) :
    Yields (timed [.hpr, .icu, .free]) s (execQspiRead t addr len s) := by
  delta execQspiRead
  extract_lets _
  refine .advance (t := t) (.next (.ite (.mono (State.setHpr_within ..)) ?_))
  extract_lets _
  split
  · exact .after (State.setHpr_within ..) (.mono (hprErr_within ..))
  · exact .after (State.setHpr_within ..) (.ite (.after (hprErr_within ..) (.mono (readRegion_within ..)))
      (.mono (readRegion_within ..)))

theorem writeSlots_within (s : State) (a : Nat) (b : Bytes) : Within [.hpr, .icu, .mem] s (writeSlots s a b) := by
  induction b generalizing s a with
  | nil => exact .refl
  | cons b r ih =>
    unfold writeSlots
    exact .then (ih ..) (.ite (.mono (pokeMem_within ..)) (.mono (hprErr_within ..)))

theorem writeRegion_within (s : State) (a : Nat) (b : Bytes) : Within [.hpr, .icu, .mem] s (writeRegion s a b) :=
  .ite (.ite (.mono (writeWords_within ..)) (.mono (hprErr_within ..))) (.ite (writeSlots_within ..) (writeWindow_within ..))

theorem execQspiWrite_yields (t addr : Nat) (bytes : List Byte) (cut : Bool) (s : State) :
    Yields (timed [.hpr, .icu, .mem]) s (execQspiWrite t addr bytes cut s) := by
  delta execQspiWrite
  extract_lets +onlyGivenNames _
  refine .advance (t := t) (.next (.ite .refl ?_))
  extract_lets +onlyGivenNames _ _ s2
  refine .then (u := s2) (.option (.mono (hprErr_within ..)) fun _ => ?_) (.ite (.mono (hprErr_within ..)) .refl)
  extract_lets +onlyGivenNames _ s3
  exact .then (u := s3) (.ite (.mono (hprErr_within ..)) .refl) (.mono (writeRegion_within ..))

theorem execQspiStatus_yields (t : Nat) (s : State) : Yields (timed [.hpr]) s (execQspiStatus t s) := by
  delta execQspiStatus
  extract_lets +onlyGivenNames _
  exact .advance (t := t) (.next (.ite (.mono (State.setHpr_within ..)) .refl))

theorem execHprDoorbellWrite_yields (t : Nat) (port : Port) (mask : BitVec 16) (s : State) :
    Yields (timed [.hpr, .icu]) s (execHprDoorbellWrite t port mask s) :=
  .next (.ite (.after (postSlots_within ..) (.mono (State.advance_within ..))) (.mono (State.advance_within ..)))

theorem execHprDoneClear_yields (t : Nat) (port : Port) (mask : BitVec 16) (s : State) :
    Yields (timed [.hpr]) s (execHprDoneClear t port mask s) :=
  .next (.ite (.after (clearDone_within ..) (.mono (State.advance_within ..))) (.mono (State.advance_within ..)))

theorem execHprErrClear_yields (t : Nat) (mask : BitVec 32) (s : State) : Yields (timed [.hpr]) s (execHprErrClear t mask s) := by
  delta execHprErrClear
  extract_lets +onlyGivenNames _
  exact .advance (t := t) (.next (.ite (.mono (clearErr_within ..)) .refl))

theorem execHprHbTick_yields (t : Nat) (s : State) : Yields (timed [.hpr]) s (execHprHbTick t s) := by
  delta execHprHbTick
  extract_lets +onlyGivenNames _
  exact .advance (t := t) (.next (.ite (.mono (State.setHpr_within ..)) .refl))

theorem execRegisterWrite_yields (t : Nat) (a : RegAgent) (r : RegAddr) (value : BitVec 32) (s : State) :
    Yields (timed [.hpr, .net, .app, .icu, .plg, .canRam]) s (execRegisterWrite t a r value s) := by
  delta execRegisterWrite
  extract_lets +onlyGivenNames _
  refine .advance (t := t) (.next (.ite .refl ?_))
  split
  · exact .ite (.mono (hostWrite_within ..)) (.mono (hprErr_within ..))
  · exact .ite (.mono (appWrite_within ..)) .refl
  · exact .refl
  · exact .mono (icuWrite_within ..)
  · exact .ite (.mono (icuWrite_within ..)) .refl
  · exact .mono (icuWrite_within ..)
  · exact .refl
  · exact .ite (.mono (tsuWrite_within ..)) .refl
  · exact .mono (tsuWrite_within ..)
  · exact .refl
  · exact .ite (.mono (canWrite_within ..)) .refl
  · exact .ite (.mono (canWrite_within ..)) .refl
  · exact .refl
  · exact .ite (.mono (canRamPut_within ..)) .refl
  · exact .mono (canRamPut_within ..)
  · exact .refl

theorem enterSlot_within (s : State) (n client net : Nat) (body : Bytes) :
    Within [.hpr, .mem] s (enterSlot s n client net body) := by
  delta enterSlot
  exact .after (State.setHpr_within ..) (.mono (writeMem_within ..))

theorem admitWaiting_within (s : State) (k : Nat) : Within [.hpr, .mem] s (admitWaiting s k) := by
  induction k generalizing s with
  | zero => exact .refl
  | succ k ih =>
    unfold admitWaiting
    split
    · exact .then (ih _) (.after (enterSlot_within ..) (.mono (State.setHpr_within ..)))
    · exact .refl

/-! ## Every command -/

/-- What holds of every command, if any, that `o` names. -/
def Named (o : Option (Req → State → Out State)) : Prop := ∀ run, o = some run → ∀ q s, Yields everything s (run q s)

theorem named_some {l : List Piece} {run : Req → State → Out State} (h : ∀ q s, Yields l s (run q s)) : Named (some run) := by
  rintro _ ⟨⟩ q s
  exact (h q s).widen

/-- One opcode of a table: the case that it is, and the case that it is another. -/
theorem Named.opcode {n k : Nat} {o : Option (Req → State → Out State)} {g : ¬ n = k → Option (Req → State → Out State)}
    (h : Named o) (j : ∀ hn, Named (g hn)) :
    Named (if h : n = k then Eq.ndrec_symm (motive := fun _ => Option (Req → State → Out State)) o h else g h) := by
  split
  next h => subst h; exact ‹Named o›
  next h => exact j h

theorem byOpcode_named (op : Nat) : Named (byOpcode op) := by
  delta byOpcode byOpcode.match_1
  exact .opcode (named_some execSysGetInfo_yields) fun _ =>
    .opcode (named_some execSysGetStatus_yields) fun _ =>
    .opcode (named_some execSysEcho_yields) fun _ =>
    .opcode (named_some execSysRestart_yields) fun _ =>
    .opcode (named_some execSysSetPowerPolicy_yields) fun _ =>
    .opcode (named_some execSysGetPowerState_yields) fun _ =>
    .opcode (named_some execSysSetVbak_yields) fun _ =>
    .opcode (named_some execSysSetAlarm_yields) fun _ =>
    .opcode (named_some execSysSetTi_yields) fun _ =>
    .opcode (named_some execSysGetTi_yields) fun _ =>
    .opcode (named_some execSysSetThermalWarn_yields) fun _ =>
    .opcode (named_some execSysGetThermal_yields) fun _ =>
    .opcode (named_some execSysWinAlloc_yields) fun _ =>
    .opcode (named_some execSysWinFree_yields) fun _ =>
    .opcode (named_some execSysSetSlots_yields) fun _ =>
    .opcode (named_some execStrGetState_yields) fun _ =>
    .opcode (named_some execStrConnect_yields) fun _ =>
    .opcode (named_some execStrDisconnect_yields) fun _ =>
    .opcode (named_some execStrRegulate_yields) fun _ =>
    .opcode (named_some execStrIdle_yields) fun _ =>
    .opcode (named_some execStrReset_yields) fun _ =>
    .opcode (named_some execStrRetire_yields) fun _ =>
    .opcode (named_some execStrRestore_yields) fun _ =>
    .opcode (named_some execStrGetMeas_yields) fun _ =>
    .opcode (named_some execStrSetShunt_yields) fun _ =>
    .opcode (named_some execStrGetCal_yields) fun _ =>
    .opcode (named_some execStrSetIso_yields) fun _ =>
    .opcode (named_some execStrGetIso_yields) fun _ =>
    .opcode (named_some execStrClearMeasFlags_yields) fun _ =>
    .opcode (named_some execStrSetRing_yields) fun _ =>
    .opcode (named_some execStrEnumerate_yields) fun _ =>
    .opcode (named_some execStrRingLink_yields) fun _ =>
    .opcode (named_some execStrGetRing_yields) fun _ =>
    .opcode (named_some execStrGetRound_yields) fun _ =>
    .opcode (named_some execDspSetRequest_yields) fun _ =>
    .opcode (named_some execDspCancel_yields) fun _ =>
    .opcode (named_some execDspGetStatus_yields) fun _ =>
    .opcode (named_some execDspGetQueue_yields) fun _ =>
    .opcode (named_some execDspSetConfig_yields) fun _ =>
    .opcode (named_some execDspGetConfig_yields) fun _ =>
    .opcode (named_some execEstSetConfig_yields) fun _ =>
    .opcode (named_some execEstGetConfig_yields) fun _ =>
    .opcode (named_some execEstGetCells_yields) fun _ =>
    .opcode (named_some execEstMapTable_yields) fun _ =>
    .opcode (named_some execEstGetSop_yields) fun _ =>
    .opcode (named_some execEstSetSoc_yields) fun _ =>
    .opcode (named_some execEstResetCell_yields) fun _ =>
    .opcode (named_some execEstJournal_yields) fun _ =>
    .opcode (named_some execEstRequestAnchor_yields) fun _ =>
    .opcode (named_some execEstGetStatus_yields) fun _ =>
    .opcode (named_some execTpeSetPlan_yields) fun _ =>
    .opcode (named_some execTpeGetPlan_yields) fun _ =>
    .opcode (named_some execTpeGetResults_yields) fun _ =>
    .opcode (named_some execTpeMapResults_yields) fun _ =>
    .opcode (named_some execTpeGetPrecursor_yields) fun _ =>
    .opcode (named_some execTpeGetStatus_yields) fun _ =>
    .opcode (named_some execBalSetConfig_yields) fun _ =>
    .opcode (named_some execBalGetConfig_yields) fun _ =>
    .opcode (named_some execBalSetBudget_yields) fun _ =>
    .opcode (named_some execBalHold_yields) fun _ =>
    .opcode (named_some execBalGetPlan_yields) fun _ =>
    .opcode (named_some execBalGetLedger_yields) fun _ =>
    .opcode (named_some execCnvSetConfig_yields) fun _ =>
    .opcode (named_some execCnvGetConfig_yields) fun _ =>
    .opcode (named_some execCnvSetSlot_yields) fun _ =>
    .opcode (named_some execCnvGetStatus_yields) fun _ =>
    .opcode (named_some execCnvPhaseDisable_yields) fun _ =>
    .opcode (named_some execCnvPhaseRestore_yields) fun _ =>
    .opcode (named_some execCnvGetDrivers_yields) fun _ =>
    .opcode (named_some execLepLoadDesc_yields) fun _ =>
    .opcode (named_some execLepClearSlot_yields) fun _ =>
    .opcode (named_some execLepGetDesc_yields) fun _ =>
    .opcode (named_some execLepSetCoef_yields) fun _ =>
    .opcode (named_some execLepGetCoef_yields) fun _ =>
    .opcode (named_some execLepSwap_yields) fun _ =>
    .opcode (named_some execLepLoadLut_yields) fun _ =>
    .opcode (named_some execLepGetLut_yields) fun _ =>
    .opcode (named_some execLepSetParam_yields) fun _ =>
    .opcode (named_some execLepGetOutput_yields) fun _ =>
    .opcode (named_some execLepGetStatus_yields) fun _ =>
    .opcode (named_some execSafStage_yields) fun _ =>
    .opcode (named_some execSafGetStaged_yields) fun _ =>
    .opcode (named_some execSafCommit_yields) fun _ =>
    .opcode (named_some execSafDiscard_yields) fun _ =>
    .opcode (named_some execSafGetSet_yields) fun _ =>
    .opcode (named_some execSafGetStatus_yields) fun _ =>
    .opcode (named_some execSafGetInputs_yields) fun _ =>
    .opcode (named_some execRedGetStatus_yields) fun _ =>
    .opcode (named_some execRedSetConfig_yields) fun _ =>
    .opcode (named_some execRedGetConfig_yields) fun _ =>
    .opcode (named_some execRedSwap_yields) fun _ =>
    .opcode (named_some execRedPostpone_yields) fun _ =>
    .opcode (named_some execRedGetShadow_yields) fun _ =>
    .opcode (named_some execAuxSetBus_yields) fun _ =>
    .opcode (named_some execAuxGetBus_yields) fun _ =>
    .opcode (named_some execAuxSetCap_yields) fun _ =>
    .opcode (named_some execAuxSetFan_yields) fun _ =>
    .opcode (named_some execAuxGetStatus_yields) fun _ =>
    .opcode (named_some execAuxSetEf_yields) fun _ =>
    .opcode (named_some execAuxGetEf_yields) fun _ =>
    .opcode (named_some execAuxEfOn_yields) fun _ =>
    .opcode (named_some execAuxEfOff_yields) fun _ =>
    .opcode (named_some execAuxEfReset_yields) fun _ =>
    .opcode (named_some execSeqSetTable_yields) fun _ =>
    .opcode (named_some execSeqGetTable_yields) fun _ =>
    .opcode (named_some execSeqGetStatus_yields) fun _ =>
    .opcode (named_some execSeqOff_yields) fun _ =>
    .opcode (named_some execSeqCancelOff_yields) fun _ =>
    .opcode (named_some execTimGetTime_yields) fun _ =>
    .opcode (named_some execTimGetStatus_yields) fun _ =>
    .opcode (named_some execTimSetConfig_yields) fun _ =>
    .opcode (named_some execTimGetConfig_yields) fun _ =>
    .opcode (named_some execTimSetTime_yields) fun _ =>
    .opcode (named_some execTimSetTrigger_yields) fun _ =>
    .opcode (named_some execTimGetTrigger_yields) fun _ =>
    .opcode (named_some execTimSetCapture_yields) fun _ =>
    .opcode (named_some execTimReadCapture_yields) fun _ =>
    .opcode (named_some execTimDelegate_yields) fun _ =>
    .opcode (named_some execNetSetPort_yields) fun _ =>
    .opcode (named_some execNetGetPort_yields) fun _ =>
    .opcode (named_some execNetGetStats_yields) fun _ =>
    .opcode (named_some execNetSetMgmt_yields) fun _ =>
    .opcode (named_some execNetGetMgmt_yields) fun _ =>
    .opcode (named_some execCanSetConfig_yields) fun _ =>
    .opcode (named_some execCanGetConfig_yields) fun _ =>
    .opcode (named_some execCanSetFilter_yields) fun _ =>
    .opcode (named_some execCanSend_yields) fun _ =>
    .opcode (named_some execCanRead_yields) fun _ =>
    .opcode (named_some execCanGetStatus_yields) fun _ =>
    .opcode (named_some execCanDelegate_yields) fun _ =>
    .opcode (named_some execLogGetStatus_yields) fun _ =>
    .opcode (named_some execLogRead_yields) fun _ =>
    .opcode (named_some execLogClear_yields) fun _ =>
    .opcode (named_some execUpdGetVersions_yields) fun _ =>
    .opcode (named_some execUpdBegin_yields) fun _ =>
    .opcode (named_some execUpdChunk_yields) fun _ =>
    .opcode (named_some execUpdGetStatus_yields) fun _ =>
    .opcode (named_some execUpdVerify_yields) fun _ =>
    .opcode (named_some execUpdActivate_yields) fun _ =>
    .opcode (named_some execUpdConfirm_yields) fun _ =>
    .opcode (named_some execUpdAbort_yields) fun _ =>
    .opcode (named_some execTrcSetProbe_yields) fun _ =>
    .opcode (named_some execTrcArm_yields) fun _ =>
    .opcode (named_some execTrcStop_yields) fun _ =>
    .opcode (named_some execTrcGetStatus_yields) fun _ =>
    .opcode (named_some execTrcMap_yields) fun _ =>
    .opcode (named_some execTrcRead_yields) fun _ => fun _ h => nomatch h

theorem execSlotTake_yields (t : Nat) (s : State) : Yields everything s (execSlotTake t s) := by
  delta execSlotTake
  extract_lets s1
  refine .from (u := s1) ?_ (.after (admitWaiting_within ..) (.mono (State.advance_within ..)))
  split
  · exact .next .refl
  · refine .ite (.next .refl) ?_
    extract_lets s2
    refine .from (u := s2) ?_ (.mono (State.setHpr_within ..))
    dsimp only
    split
    next run h => exact byOpcode_named _ run h _ _
    next => exact .next (.after (finish1_within ..) (.mono (State.setPwr_within ..)))

theorem mgmtSend_within (s : State) (net k type : Nat) (body : Bytes) : Within [.hpr] s (mgmtSend s net k type body) :=
  State.setHpr_within ..

theorem mgmtError_within (s : State) (net k code : Nat) : Within [.hpr] s (mgmtError s net k code) :=
  mgmtSend_within ..

theorem mgmtFrame_within {l : List Piece} {s : State} {net src : Nat} {f : Bytes} {type : Nat} {run : State → Nat → Bytes → State}
    (h : ∀ s k b, Within l s (run s k b)) (e : among [.hpr] l = true := by exact Eq.refl true) :
    Within l s (mgmtFrame s net src f type run) := by
  delta mgmtFrame
  refine .ite .refl ?_
  split
  · exact .mono (State.setHpr_within ..) e
  · exact .mono (mgmtError_within ..) e
  next k ty tseq body _ =>
    have note : Within l s (s.setHpr fun h => { h with clients := h.clients.modify k fun (c : Client) => { c with rxSeq := tseq }
      }) :=
      .mono (State.setHpr_within ..) e
    exact .ite (.then (h _ _ _) note) (.ite (.then (.mono (mgmtError_within ..) e) note)
      (.ite (.then (.mono (State.setHpr_within ..) e) note) note))

theorem mgmtResource_within (s : State) (net k : Nat) (body : Bytes) : Within [.hpr] s (mgmtResource s net k body) :=
  mgmtSend_within ..

theorem execMgmtRequest_yields (t net src : Nat) (frame : List Byte) (s : State) :
    Yields (timed [.hpr, .mem]) s (execMgmtRequest t net src frame s) := by
  delta execMgmtRequest
  extract_lets +onlyGivenNames s1
  exact .from (u := s1) (.next (mgmtFrame_within fun s x y => .ite (.mono (State.setHpr_within ..))
    (.optionSwap (fun _ => .mono (enterSlot_within ..))
    (.ite (.mono (State.setHpr_within ..)) (.mono (mgmtResource_within ..))))))
    (.after (admitWaiting_within ..) (.mono (State.advance_within ..)))

theorem execMgmtWaitTimeout_yields (t : Nat) (s : State) : Yields (timed [.hpr]) s (execMgmtWaitTimeout t s) := by
  delta execMgmtWaitTimeout
  extract_lets +onlyGivenNames _
  refine .advance (t := t) (.next ?_)
  split
  · exact .refl
  · exact .ite .refl (.after (mgmtResource_within ..) (.mono (State.setHpr_within ..)))

theorem execWinRead_yields (t net src : Nat) (frame : List Byte) (s : State) :
    Yields (timed [.hpr, .free]) s (execWinRead t net src frame s) := by
  delta execWinRead
  extract_lets +onlyGivenNames _
  refine .advance (t := t) (.next (mgmtFrame_within fun s x y => ?_))
  extract_lets +onlyGivenNames _ _
  refine .ite (.mono (State.setHpr_within ..)) ?_
  extract_lets +onlyGivenNames _
  exact .after (mgmtSend_within ..) (.of rfl rfl)

theorem execWinWrite_yields (t net src : Nat) (frame : List Byte) (s : State) :
    Yields (timed [.hpr, .icu, .mem]) s (execWinWrite t net src frame s) := by
  delta execWinWrite
  exact .next (.then (mgmtFrame_within fun s k body => .ite (.mono (State.setHpr_within ..)) (.after (mgmtSend_within ..)
    (.iteFst (.mono (hprErr_within ..)) (.mono (writeWindow_within ..))))) (.mono (State.advance_within ..)))

theorem execWake_yields (t net : Nat) (frame : List Byte) (s : State) :
    Yields (timed [.pwr, .red, .hpr, .icu, .plg]) s (execWake t net frame s) :=
  .next (.ite (.mono (State.advance_within ..)) (.ite (.after (wakeUp_within ..) (.mono (State.advance_within ..)))
    (.after (State.setHpr_within ..) (.mono (State.advance_within ..)))))

theorem applyRecord_within (op : Nat) (p : Bytes) (s : State) :
    Within [.unit, .str, .pwr, .hvi, .rings, .cee, .tpe, .th, .bal, .dsp, .conv, .phase, .gx2, .le, .saf, .red, .rack, .hpr, .app,
    .icu, .flt, .plg, .mem] s (applyRecord op p s) := by
  delta applyRecord applyRecord.match_1
  refine .lit (.mono (setPolicy_within ..)) fun _ => .lit (.ite (.mono (storeTi_within ..)) .refl) fun _ => .lit
    (.mono (setWarn_within ..)) fun _ => .lit (.ite (.mono (storeRing_within ..)) .refl) fun _ => .lit ?_ fun _ => .lit
    (.mono (State.setDsp_within ..)) fun _ => .lit (.mono (storeEst_within ..)) fun _ => .lit (.mono (storeSoc_within ..))
    fun _ => .lit (.mono (storeReset_within ..)) fun _ => .lit (.mono (State.setTpe_within ..)) fun _ => .lit
    (.mono (State.modBal_within ..)) fun _ => .lit (.mono (State.setDsp_within ..)) fun _ => .lit (.mono (storeHold_within ..))
    fun _ => .lit (.mono (storeCnv_within ..)) fun _ => .lit (.mono (storeShift_within ..)) fun _ => .lit
    (.mono (storeDesc_within ..)) fun _ => .lit (.mono (emptySlot_within ..)) fun _ => .lit (.mono (storeCoef_within ..)) fun _ =>
    .lit (.mono (storeSwap_within ..)) fun _ => .lit (.mono (storeLut_within ..)) fun _ => .lit (.mono (storeParam_within ..))
    fun _ => .lit (.mono (State.setRed_within ..)) fun _ => .lit (.mono (State.setRack_within ..)) fun _ => .lit
    (.mono (State.setRack_within ..)) fun _ => .lit (.mono (setFan_within ..)) fun _ => .lit (.mono (storeEf_within ..)) fun _ =>
    .lit (.after (efStart_within ..) (.mono (State.modEf_within ..))) fun _ => .lit (.mono (efOff_within ..)) fun _ => .lit
    (.mono (State.modEf_within ..)) fun _ => .refl
  beta_reduce
  extract_lets +onlyGivenNames _
  exact .mono (State.modRing_within ..)

theorem takeHello_within (s : State) (m : PeerMsg) (identity variant floor : Nat) (levels : List (Nat × Nat × Nat × Nat))
    (crc : Nat) : Within [.saf, .red, .icu, .plg] s (takeHello s m identity variant floor levels crc) :=
  .after (updateMismatch_within ..) (.ite (.after (peerSend_within ..) (.mono (State.setRed_within ..)))
    (.mono (State.setRed_within ..)))

theorem mirrorString_within (codes : List Nat) (s : State) (i : Nat) :
    Within [.str, .conv, .phase, .hpr, .icu, .plg] s (mirrorString codes s i) :=
  .option .refl fun _ => .ite .refl (.after (setStr_within ..) (.ite (.mono (gateOffString_within ..)) .refl))

theorem takeState_within (s : State) (m : PeerMsg) (strings tiers : List Nat) (vin : Bool) (e : List Nat) :
    Within [.str, .conv, .phase, .red, .hpr, .icu, .plg] s (takeState s m strings tiers vin e) :=
  .after (peerSend_within ..) (.ite (.foldl (.after (State.setRed_within ..) (.mono (State.setRed_within ..))) fun s x => .mono
    (mirrorString_within ..)) (.mono (State.setRed_within ..)))

theorem takeDispatch_within (s : State) (m : PeerMsg) (target : Int) (inForce : Option (Bytes × Nat × Bool))
    (queue : List (Bytes × Nat × Bool)) : Within [.dsp, .red] s (takeDispatch s m target inForce queue) :=
  .after (peerSend_within ..) (.ite (.after (State.setRed_within ..) (.mono (State.setDsp_within ..))) .refl)

theorem takeSwapRequest_within (s : State) (m : PeerMsg) (ts : Nat) : Within [.red] s (takeSwapRequest s m ts) := by
  delta takeSwapRequest
  refine .ite ?_ (.ite (requestSwap_within ..) .refl)
  extract_lets +onlyGivenNames _ _ s1
  exact .then (u := s1) (.ite (State.setRed_within ..) .refl) (peerSend_within ..)

theorem takeMeas_within (s : State) (m : PeerMsg) (rIso cE : Nat) (side : FaultSide) (below valid off : Bool) :
    Within [.str, .pwr, .hvi, .rings, .bal, .conv, .phase, .saf, .hpr, .icu, .plg, .mem] s
    (takeMeas s m rIso cE side below valid off) :=
  .ite (.of rfl rfl) (.ite (.after (within_hvi ..) (.of rfl rfl))
    (.after (isoToChannels_within ..) (.after (within_hvi ..) (.of rfl rfl))))

theorem takeBulk_within (s : State) (b : BulkPart) :
    Within [.unit, .str, .pwr, .hvi, .rings, .cee, .tpe, .th, .bal, .dsp, .conv, .phase, .gx2, .le, .saf, .red, .rack, .hpr, .app,
    .icu, .flt, .plg, .mem] s (takeBulk s b) := by
  delta takeBulk
  extract_lets +onlyGivenNames _
  split
  · exact .ite (applyRecord_within ..) .refl
  · exact .ite (.mono (State.modCell_within ..)) .refl
  · exact .ite (.mono (State.modCell_within ..)) .refl
  · exact .ite (.mono (State.modLoop_within ..)) .refl
  · exact .ite (.mono (State.modCell_within ..)) .refl

theorem takeBody_within (s : State) (m : PeerMsg) :
    Within [.unit, .str, .pwr, .hvi, .rings, .cee, .tpe, .th, .bal, .dsp, .conv, .phase, .gx2, .le, .saf, .red, .rack, .hpr, .app,
    .icu, .flt, .plg, .mem] s (takeBody s m) := by
  delta takeBody
  split
  · exact .mono (takeHello_within ..)
  · exact .mono (takeState_within ..)
  · exact .after (peerSend_within ..) (.ite (applyRecord_within ..) .refl)
  · exact .mono (takeDispatch_within ..)
  · exact .refl
  · exact takeBulk_within ..
  · exact .mono (State.setRed_within ..)
  · exact .mono (takeSwapRequest_within ..)
  · exact .ite (.mono (State.setRed_within ..)) .refl
  · exact .mono (swapRefused_within ..)
  · exact .mono (takeMeas_within ..)
  · exact .refl

theorem peerValid_within (s : State) (m : PeerMsg) : Within [.unit, .hvi, .red, .hpr, .app, .icu, .plg, .mem] s (peerValid s m) :=
  .ite (.after (setRole_within ..) (.after (releaseAcks_within ..) (.mono (State.setRed_within ..))))
    (.after (releaseAcks_within ..) (.mono (State.setRed_within ..)))

theorem execPeerMessage_yields (t : Nat) (m : PeerMsg) (s : State) :
    Yields (allBut [.hviStr, .seq, .net, .upd, .canRam, .free]) s (execPeerMessage t m s) := by
  delta execPeerMessage
  extract_lets +onlyGivenNames _
  exact .advance (t := t)
    (.next (.ite .refl (.ite (.mono (State.setRed_within ..)) (.option (.after (takeBody_within ..) (.mono (peerValid_within ..)))
    fun _ => .ite (.after (takeBody_within ..) (.mono (peerValid_within ..))) (.mono (State.setRed_within ..))))))

theorem execShadow_yields (t : Nat) (v : ShadowValue) (s : State) :
    Yields (timed [.red, .icu, .flt, .plg]) s (execShadow t v s) :=
  .next (.ite (.after (shadowCompare_within ..) (.mono (State.advance_within ..))) (.mono (State.advance_within ..)))

/-- What a next state `u` of the command `c` on `s` keeps: the parts that `c` may not change, and the units that are retired, but
for the one whose test under a restoring command passes. -/
structure Keeps (c : Instr) (s u : State) : Prop where
  changes : Changes (changes c) s u
  retired : ∀ x, s.retired x = true → u.retired x = true ∨
    ∃ t, c = .selfTestOutcome t x 0 ∧ ∃ e ∈ s.flt.susp, e.unit = x ∧ e.testing = true ∧ e.restoring = true

def Lawful (c : Instr) (s : State) : Prop := ∀ u, exec c s = .next u → Keeps c s u

theorem Lawful.of {c : Instr} {s : State} (h : Yields (changes c) s (exec c s)) : Lawful c s := fun u hu =>
  ⟨(h.within u hu).toChanges, fun x hx => .inl ((h.within u hu).retired x hx)⟩

theorem selfTestOutcome_lawful (t x o : Nat) (s : State) : Lawful (.selfTestOutcome t x o) s := by
  rintro _ ⟨⟩
  refine ⟨.trans (Within.mono (State.advance_within s t)).toChanges (selfTest_changes (s.advance t) x o).mono, fun y hy => ?_⟩
  obtain h | ⟨rfl, rfl, hsusp⟩ := selfTest_retired (s := s.advance t) (u := x) (outcome := o) hy
  · exact .inl h
  · exact .inr ⟨t, rfl, hsusp⟩

theorem exec_lawful (c : Instr) (s : State) : Lawful c s := by
  induction c with
  | sysGetInfo => exact .of (execSysGetInfo_yields ..)
  | sysGetStatus => exact .of (execSysGetStatus_yields ..)
  | sysEcho => exact .of (execSysEcho_yields ..)
  | sysRestart => exact .of (execSysRestart_yields ..)
  | sysSetPowerPolicy => exact .of (execSysSetPowerPolicy_yields ..)
  | sysGetPowerState => exact .of (execSysGetPowerState_yields ..)
  | sysSetVbak => exact .of (execSysSetVbak_yields ..)
  | sysSetAlarm => exact .of (execSysSetAlarm_yields ..)
  | sysSetTi => exact .of (execSysSetTi_yields ..)
  | sysGetTi => exact .of (execSysGetTi_yields ..)
  | sysSetThermalWarn => exact .of (execSysSetThermalWarn_yields ..)
  | sysGetThermal => exact .of (execSysGetThermal_yields ..)
  | sysWinAlloc => exact .of (execSysWinAlloc_yields ..)
  | sysWinFree => exact .of (execSysWinFree_yields ..)
  | sysSetSlots => exact .of (execSysSetSlots_yields ..)
  | strGetState => exact .of (execStrGetState_yields ..)
  | strConnect => exact .of (execStrConnect_yields ..)
  | strDisconnect => exact .of (execStrDisconnect_yields ..)
  | strRegulate => exact .of (execStrRegulate_yields ..)
  | strIdle => exact .of (execStrIdle_yields ..)
  | strReset => exact .of (execStrReset_yields ..)
  | strRetire => exact .of (execStrRetire_yields ..)
  | strRestore => exact .of (execStrRestore_yields ..)
  | strGetMeas => exact .of (execStrGetMeas_yields ..)
  | strSetShunt => exact .of (execStrSetShunt_yields ..)
  | strGetCal => exact .of (execStrGetCal_yields ..)
  | strSetIso => exact .of (execStrSetIso_yields ..)
  | strGetIso => exact .of (execStrGetIso_yields ..)
  | strClearMeasFlags => exact .of (execStrClearMeasFlags_yields ..)
  | strSetRing => exact .of (execStrSetRing_yields ..)
  | strEnumerate => exact .of (execStrEnumerate_yields ..)
  | strRingLink => exact .of (execStrRingLink_yields ..)
  | strGetRing => exact .of (execStrGetRing_yields ..)
  | strGetRound => exact .of (execStrGetRound_yields ..)
  | dspSetRequest => exact .of (execDspSetRequest_yields ..)
  | dspCancel => exact .of (execDspCancel_yields ..)
  | dspGetStatus => exact .of (execDspGetStatus_yields ..)
  | dspGetQueue => exact .of (execDspGetQueue_yields ..)
  | dspSetConfig => exact .of (execDspSetConfig_yields ..)
  | dspGetConfig => exact .of (execDspGetConfig_yields ..)
  | estSetConfig => exact .of (execEstSetConfig_yields ..)
  | estGetConfig => exact .of (execEstGetConfig_yields ..)
  | estGetCells => exact .of (execEstGetCells_yields ..)
  | estMapTable => exact .of (execEstMapTable_yields ..)
  | estGetSop => exact .of (execEstGetSop_yields ..)
  | estSetSoc => exact .of (execEstSetSoc_yields ..)
  | estResetCell => exact .of (execEstResetCell_yields ..)
  | estJournal => exact .of (execEstJournal_yields ..)
  | estRequestAnchor => exact .of (execEstRequestAnchor_yields ..)
  | estGetStatus => exact .of (execEstGetStatus_yields ..)
  | tpeSetPlan => exact .of (execTpeSetPlan_yields ..)
  | tpeGetPlan => exact .of (execTpeGetPlan_yields ..)
  | tpeGetResults => exact .of (execTpeGetResults_yields ..)
  | tpeMapResults => exact .of (execTpeMapResults_yields ..)
  | tpeGetPrecursor => exact .of (execTpeGetPrecursor_yields ..)
  | tpeGetStatus => exact .of (execTpeGetStatus_yields ..)
  | balSetConfig => exact .of (execBalSetConfig_yields ..)
  | balGetConfig => exact .of (execBalGetConfig_yields ..)
  | balSetBudget => exact .of (execBalSetBudget_yields ..)
  | balHold => exact .of (execBalHold_yields ..)
  | balGetPlan => exact .of (execBalGetPlan_yields ..)
  | balGetLedger => exact .of (execBalGetLedger_yields ..)
  | cnvSetConfig => exact .of (execCnvSetConfig_yields ..)
  | cnvGetConfig => exact .of (execCnvGetConfig_yields ..)
  | cnvSetSlot => exact .of (execCnvSetSlot_yields ..)
  | cnvGetStatus => exact .of (execCnvGetStatus_yields ..)
  | cnvPhaseDisable => exact .of (execCnvPhaseDisable_yields ..)
  | cnvPhaseRestore => exact .of (execCnvPhaseRestore_yields ..)
  | cnvGetDrivers => exact .of (execCnvGetDrivers_yields ..)
  | lepLoadDesc => exact .of (execLepLoadDesc_yields ..)
  | lepClearSlot => exact .of (execLepClearSlot_yields ..)
  | lepGetDesc => exact .of (execLepGetDesc_yields ..)
  | lepSetCoef => exact .of (execLepSetCoef_yields ..)
  | lepGetCoef => exact .of (execLepGetCoef_yields ..)
  | lepSwap => exact .of (execLepSwap_yields ..)
  | lepLoadLut => exact .of (execLepLoadLut_yields ..)
  | lepGetLut => exact .of (execLepGetLut_yields ..)
  | lepSetParam => exact .of (execLepSetParam_yields ..)
  | lepGetOutput => exact .of (execLepGetOutput_yields ..)
  | lepGetStatus => exact .of (execLepGetStatus_yields ..)
  | safStage => exact .of (execSafStage_yields ..)
  | safGetStaged => exact .of (execSafGetStaged_yields ..)
  | safCommit => exact .of (execSafCommit_yields ..)
  | safDiscard => exact .of (execSafDiscard_yields ..)
  | safGetSet => exact .of (execSafGetSet_yields ..)
  | safGetStatus => exact .of (execSafGetStatus_yields ..)
  | safGetInputs => exact .of (execSafGetInputs_yields ..)
  | redGetStatus => exact .of (execRedGetStatus_yields ..)
  | redSetConfig => exact .of (execRedSetConfig_yields ..)
  | redGetConfig => exact .of (execRedGetConfig_yields ..)
  | redSwap => exact .of (execRedSwap_yields ..)
  | redPostpone => exact .of (execRedPostpone_yields ..)
  | redGetShadow => exact .of (execRedGetShadow_yields ..)
  | auxSetBus => exact .of (execAuxSetBus_yields ..)
  | auxGetBus => exact .of (execAuxGetBus_yields ..)
  | auxSetCap => exact .of (execAuxSetCap_yields ..)
  | auxSetFan => exact .of (execAuxSetFan_yields ..)
  | auxGetStatus => exact .of (execAuxGetStatus_yields ..)
  | auxSetEf => exact .of (execAuxSetEf_yields ..)
  | auxGetEf => exact .of (execAuxGetEf_yields ..)
  | auxEfOn => exact .of (execAuxEfOn_yields ..)
  | auxEfOff => exact .of (execAuxEfOff_yields ..)
  | auxEfReset => exact .of (execAuxEfReset_yields ..)
  | seqSetTable => exact .of (execSeqSetTable_yields ..)
  | seqGetTable => exact .of (execSeqGetTable_yields ..)
  | seqGetStatus => exact .of (execSeqGetStatus_yields ..)
  | seqOff => exact .of (execSeqOff_yields ..)
  | seqCancelOff => exact .of (execSeqCancelOff_yields ..)
  | timGetTime => exact .of (execTimGetTime_yields ..)
  | timGetStatus => exact .of (execTimGetStatus_yields ..)
  | timSetConfig => exact .of (execTimSetConfig_yields ..)
  | timGetConfig => exact .of (execTimGetConfig_yields ..)
  | timSetTime => exact .of (execTimSetTime_yields ..)
  | timSetTrigger => exact .of (execTimSetTrigger_yields ..)
  | timGetTrigger => exact .of (execTimGetTrigger_yields ..)
  | timSetCapture => exact .of (execTimSetCapture_yields ..)
  | timReadCapture => exact .of (execTimReadCapture_yields ..)
  | timDelegate => exact .of (execTimDelegate_yields ..)
  | netSetPort => exact .of (execNetSetPort_yields ..)
  | netGetPort => exact .of (execNetGetPort_yields ..)
  | netGetStats => exact .of (execNetGetStats_yields ..)
  | netSetMgmt => exact .of (execNetSetMgmt_yields ..)
  | netGetMgmt => exact .of (execNetGetMgmt_yields ..)
  | canSetConfig => exact .of (execCanSetConfig_yields ..)
  | canGetConfig => exact .of (execCanGetConfig_yields ..)
  | canSetFilter => exact .of (execCanSetFilter_yields ..)
  | canSend => exact .of (execCanSend_yields ..)
  | canRead => exact .of (execCanRead_yields ..)
  | canGetStatus => exact .of (execCanGetStatus_yields ..)
  | canDelegate => exact .of (execCanDelegate_yields ..)
  | logGetStatus => exact .of (execLogGetStatus_yields ..)
  | logRead => exact .of (execLogRead_yields ..)
  | logClear => exact .of (execLogClear_yields ..)
  | updGetVersions => exact .of (execUpdGetVersions_yields ..)
  | updBegin => exact .of (execUpdBegin_yields ..)
  | updChunk => exact .of (execUpdChunk_yields ..)
  | updGetStatus => exact .of (execUpdGetStatus_yields ..)
  | updVerify => exact .of (execUpdVerify_yields ..)
  | updActivate => exact .of (execUpdActivate_yields ..)
  | updConfirm => exact .of (execUpdConfirm_yields ..)
  | updAbort => exact .of (execUpdAbort_yields ..)
  | trcSetProbe => exact .of (execTrcSetProbe_yields ..)
  | trcArm => exact .of (execTrcArm_yields ..)
  | trcStop => exact .of (execTrcStop_yields ..)
  | trcGetStatus => exact .of (execTrcGetStatus_yields ..)
  | trcMap => exact .of (execTrcMap_yields ..)
  | trcRead => exact .of (execTrcRead_yields ..)
  | qspiRead => exact .of (execQspiRead_yields ..)
  | qspiWrite => exact .of (execQspiWrite_yields ..)
  | qspiStatus => exact .of (execQspiStatus_yields ..)
  | hprDoorbellWrite => exact .of (execHprDoorbellWrite_yields ..)
  | slotTake => exact .of (execSlotTake_yields ..)
  | hprDoneClear => exact .of (execHprDoneClear_yields ..)
  | hprErrClear => exact .of (execHprErrClear_yields ..)
  | hprHbTick => exact .of (execHprHbTick_yields ..)
  | descriptorOwnWrite => exact .of (execDescriptorOwnWrite_yields ..)
  | registerWrite => exact .of (execRegisterWrite_yields ..)
  | mgmtRequest => exact .of (execMgmtRequest_yields ..)
  | mgmtWaitTimeout => exact .of (execMgmtWaitTimeout_yields ..)
  | winRead => exact .of (execWinRead_yields ..)
  | winWrite => exact .of (.mono (execWinWrite_yields ..))
  | wake => exact .of (execWake_yields ..)
  | monVersion => exact .of (execMonVersion_yields ..)
  | monTime => exact .of (execMonTime_yields ..)
  | monTimer => exact .of (execMonTimer_yields ..)
  | wdogSet => exact .of (execWdogSet_yields ..)
  | wdogFeed => exact .of (execWdogFeed_yields ..)
  | monRestart => exact .of (execMonRestart_yields ..)
  | monitorTimerFire => exact .of (execMonitorTimerFire_yields ..)
  | watchdogWarning => exact .of (execWatchdogWarning_yields ..)
  | watchdogExpiry => exact .of (execWatchdogExpiry_yields ..)
  | appStart => exact .of (execAppStart_yields ..)
  | appRestart => exact .of (execAppRestart_yields ..)
  | accessFault => exact .of (execAccessFault_yields ..)
  | appMemoryError => exact .of (execAppMemoryError_yields ..)
  | icuSourceEdge => exact .of (execIcuSourceEdge_yields ..)
  | icuDecision => exact .of (execIcuDecision_yields ..)
  | icuClaimRead => exact .of (execIcuClaimRead_yields ..)
  | icuCompleteWrite => exact .of (execIcuCompleteWrite_yields ..)
  | icuPendSet => exact .of (execIcuPendSet_yields ..)
  | icuPendClr => exact .of (execIcuPendClr_yields ..)
  | icuMaskSet => exact .of (execIcuMaskSet_yields ..)
  | icuMaskClr => exact .of (execIcuMaskClr_yields ..)
  | icuTgtEnWrite => exact .of (execIcuTgtEnWrite_yields ..)
  | holdOffExpiry => exact .of (execHoldOffExpiry_yields ..)
  | strandedTimeout => exact .of (execStrandedTimeout_yields ..)
  | sourceRetarget => exact .of (execSourceRetarget_yields ..)
  | tsuSnapWrite => exact .of (execTsuSnapWrite_yields ..)
  | tsuEvtClear => exact .of (execTsuEvtClear_yields ..)
  | tsuTrgCtrlWrite => exact .of (execTsuTrgCtrlWrite_yields ..)
  | tsuCapPop => exact .of (execTsuCapPop_yields ..)
  | triggerFire => exact .of (execTriggerFire_yields ..)
  | captureEdge => exact .of (execCaptureEdge_yields ..)
  | canTxqPutWrite => exact .of (execCanTxqPutWrite_yields ..)
  | canCancel => exact .of (execCanCancel_yields ..)
  | canRxqGetWrite => exact .of (execCanRxqGetWrite_yields ..)
  | canCtrlWrite => exact .of (execCanCtrlWrite_yields ..)
  | canFrameReceived => exact .of (execCanFrameReceived_yields ..)
  | canTxComplete => exact .of (execCanTxComplete_yields ..)
  | txHol => exact .of (execTxHol_yields ..)
  | busOff => exact .of (execBusOff_yields ..)
  | ethFrameReceived => exact .of (execEthFrameReceived_yields ..)
  | linkLossReturn => exact .of (execLinkLossReturn_yields ..)
  | syncMessage => exact .of (execSyncMessage_yields ..)
  | announce => exact .of (execAnnounce_yields ..)
  | announceTimeout => exact .of (execAnnounceTimeout_yields ..)
  | pdelayReq => exact .of (execPdelayReq_yields ..)
  | pdelayMeasurement => exact .of (execPdelayMeasurement_yields ..)
  | servoUpdate => exact .of (execServoUpdate_yields ..)
  | holdoverExpiry => exact .of (execHoldoverExpiry_yields ..)
  | ppsInEdge => exact .of (execPpsInEdge_yields ..)
  | vinLoss => exact .of (execVinLoss_yields ..)
  | vinReturn => exact .of (execVinReturn_yields ..)
  | holdupRampStep => exact .of (execHoldupRampStep_yields ..)
  | holdupSwapRequest => exact .of (execHoldupSwapRequest_yields ..)
  | holdupDisconnectStep => exact .of (execHoldupDisconnectStep_yields ..)
  | mramWriteback => exact .of (execMramWriteback_yields ..)
  | retentionEntry => exact .of (execRetentionEntry_yields ..)
  | vbakCritical => exact .of (execVbakCritical_yields ..)
  | vbakRetentionFloor => exact .of (execVbakRetentionFloor_yields ..)
  | eAvailUpdate => exact .of (execEAvailUpdate_yields ..)
  | capacitanceMeasurement => exact .of (execCapacitanceMeasurement_yields ..)
  | floatEntry => exact .of (execFloatEntry_yields ..)
  | dormantEntry => exact .of (execDormantEntry_yields ..)
  | floatExit => exact .of (execFloatExit_yields ..)
  | wakeEvent => exact .of (execWakeEvent_yields ..)
  | floatClockRaise => exact .of (execFloatClockRaise_yields ..)
  | clockFailure => exact .of (execClockFailure_yields ..)
  | xrefRetry => exact .of (execXrefRetry_yields ..)
  | onRequest => exact .of (execOnRequest_yields ..)
  | minimumOffTimeEnd => exact .of (execMinimumOffTimeEnd_yields ..)
  | powerupStepDone => exact .of (execPowerupStepDone_yields ..)
  | powerUpFailure => exact .of (execPowerUpFailure_yields ..)
  | bootListenEnd => exact .of (execBootListenEnd_yields ..)
  | imageBootCheck => exact .of (execImageBootCheck_yields ..)
  | railStart => exact .of (execRailStart_yields ..)
  | railGood => exact .of (execRailGood_yields ..)
  | startFailure => exact .of (execStartFailure_yields ..)
  | railDischarge => exact .of (execRailDischarge_yields ..)
  | systemPowerUpStart => exact .of (execSystemPowerUpStart_yields ..)
  | seqStep => exact .of (execSeqStep_yields ..)
  | reverseMarker => exact .of (execReverseMarker_yields ..)
  | upBeacon => exact .of (execUpBeacon_yields ..)
  | systemPowerDownStart => exact .of (execSystemPowerDownStart_yields ..)
  | seqWatchEnd => exact .of (execSeqWatchEnd_yields ..)
  | stuckLine => exact .of (execStuckLine_yields ..)
  | seqCinHigh => exact .of (execSeqCinHigh_yields ..)
  | preOffSteps => exact .of (execPreOffSteps_yields ..)
  | preOffDisconnect => exact .of (execPreOffDisconnect_yields ..)
  | runningRailFault => exact .of (execRunningRailFault_yields ..)
  | railFaultHoldEnd => exact .of (execRailFaultHoldEnd_yields ..)
  | pbNPress => exact .of (execPbNPress_yields ..)
  | forcedOff => exact .of (execForcedOff_yields ..)
  | mrN => exact .of (execMrN_yields ..)
  | mrNRelease => exact .of (execMrNRelease_yields ..)
  | shuntSample => exact .of (execShuntSample_yields ..)
  | integratorCheckpoint => exact .of (execIntegratorCheckpoint_yields ..)
  | calibrationStep => exact .of (execCalibrationStep_yields ..)
  | calibrationSwap => exact .of (execCalibrationSwap_yields ..)
  | overlapRepeat => exact .of (execOverlapRepeat_yields ..)
  | voltageSample => exact .of (execVoltageSample_yields ..)
  | insulationResult => exact .of (execInsulationResult_yields ..)
  | injectionHandover => exact .of (execInjectionHandover_yields ..)
  | fastTrip => exact .of (execFastTrip_yields ..)
  | hviPlausibilityFailure => exact .of (execHviPlausibilityFailure_yields ..)
  | roundTrigger => exact .of (.mono (execRoundTrigger_yields ..))
  | roundRead => exact .of (execRoundRead_yields ..)
  | roundClose => exact .of (execRoundClose_yields ..)
  | beacon => exact .of (execBeacon_yields ..)
  | beaconReturn => exact .of (execBeaconReturn_yields ..)
  | sched => exact .of (execSched_yields ..)
  | enumFrame => exact .of (execEnumFrame_yields ..)
  | enumReturn => exact .of (execEnumReturn_yields ..)
  | data => exact .of (execData_yields ..)
  | ack => exact .of (execAck_yields ..)
  | frameLost => exact .of (execFrameLost_yields ..)
  | turnedFrame => exact .of (execTurnedFrame_yields ..)
  | delay => exact .of (execDelay_yields ..)
  | portDown => exact .of (execPortDown_yields ..)
  | portUp => exact .of (execPortUp_yields ..)
  | twoEndedOperation => exact .of (execTwoEndedOperation_yields ..)
  | twoEndedExit => exact .of (execTwoEndedExit_yields ..)
  | linkCrcBurst => exact .of (execLinkCrcBurst_yields ..)
  | unaddressedMonitor => exact .of (execUnaddressedMonitor_yields ..)
  | alarmDetailRead => exact .of (execAlarmDetailRead_yields ..)
  | bleedSet => exact .of (execBleedSet_yields ..)
  | bleedStop => exact .of (execBleedStop_yields ..)
  | shuttleSet => exact .of (execShuttleSet_yields ..)
  | shuttleStop => exact .of (execShuttleStop_yields ..)
  | thrLoad => exact .of (execThrLoad_yields ..)
  | linkDisable => exact .of (execLinkDisable_yields ..)
  | linkEnable => exact .of (execLinkEnable_yields ..)
  | thresholdReload => exact .of (execThresholdReload_yields ..)
  | loadingWindowEnd => exact .of (execLoadingWindowEnd_yields ..)
  | balanceRead => exact .of (execBalanceRead_yields ..)
  | ceePeriod => exact .of (execCeePeriod_yields ..)
  | deadlineFault => exact .of (execDeadlineFault_yields ..)
  | stepRateChange => exact .of (execStepRateChange_yields ..)
  | journalWrite => exact .of (execJournalWrite_yields ..)
  | journalWriteDone => exact .of (execJournalWriteDone_yields ..)
  | restWindowRequest => exact .of (execRestWindowRequest_yields ..)
  | restWindowGrant => exact .of (execRestWindowGrant_yields ..)
  | restWindowEnd => exact .of (execRestWindowEnd_yields ..)
  | anchorOverdue => exact .of (execAnchorOverdue_yields ..)
  | coreOffsetLearning => exact .of (execCoreOffsetLearning_yields ..)
  | toneWindowEnd => exact .of (execToneWindowEnd_yields ..)
  | impedanceRead => exact .of (execImpedanceRead_yields ..)
  | impedancePublish => exact .of (execImpedancePublish_yields ..)
  | blockMissing => exact .of (execBlockMissing_yields ..)
  | precursorDelivery => exact .of (execPrecursorDelivery_yields ..)
  | planEffect => exact .of (execPlanEffect_yields ..)
  | injectionStart => exact .of (execInjectionStart_yields ..)
  | injectionStop => exact .of (execInjectionStop_yields ..)
  | windowStart => exact .of (execWindowStart_yields ..)
  | tonePlan => exact .of (execTonePlan_yields ..)
  | phasor => exact .of (execPhasor_yields ..)
  | toneHalt => exact .of (execToneHalt_yields ..)
  | tiSample => exact .of (execTiSample_yields ..)
  | sensorRecovery => exact .of (execSensorRecovery_yields ..)
  | planningCycle => exact .of (execPlanningCycle_yields ..)
  | balancingStop => exact .of (execBalancingStop_yields ..)
  | allowanceChange => exact .of (execAllowanceChange_yields ..)
  | allocation => exact .of (execAllocation_yields ..)
  | arming => exact .of (execArming_yields ..)
  | setpointCommit => exact .of (execSetpointCommit_yields ..)
  | requestExpiry => exact .of (execRequestExpiry_yields ..)
  | slotPeriod => exact .of (execSlotPeriod_yields ..)
  | bankSwap => exact .of (execBankSwap_yields ..)
  | probeComplete => exact .of (execProbeComplete_yields ..)
  | periodBoundary => exact .of (execPeriodBoundary_yields ..)
  | pwmReadbackMismatch => exact .of (execPwmReadbackMismatch_yields ..)
  | cycleByCycleLimit => exact .of (execCycleByCycleLimit_yields ..)
  | phaseInputImplausible => exact .of (execPhaseInputImplausible_yields ..)
  | braking => exact .of (execBraking_yields ..)
  | brakingEnd => exact .of (execBrakingEnd_yields ..)
  | phaseEvaluation => exact .of (execPhaseEvaluation_yields ..)
  | estimateMode => exact .of (execEstimateMode_yields ..)
  | estimateModeEnd => exact .of (execEstimateModeEnd_yields ..)
  | reInterleave => exact .of (execReInterleave_yields ..)
  | slotShift => exact .of (execSlotShift_yields ..)
  | syncInLoss => exact .of (execSyncInLoss_yields ..)
  | syncInRelock => exact .of (execSyncInRelock_yields ..)
  | gx2Poll => exact .of (execGx2Poll_yields ..)
  | gdbFlt => exact .of (execGdbFlt_yields ..)
  | converterPause => exact .of (execConverterPause_yields ..)
  | pauseEnd => exact .of (execPauseEnd_yields ..)
  | converterStart => exact .of (execConverterStart_yields ..)
  | softStartTimeout => exact .of (execSoftStartTimeout_yields ..)
  | rampComplete => exact .of (execRampComplete_yields ..)
  | coolingWaitEnd => exact .of (execCoolingWaitEnd_yields ..)
  | prechargeComplete => exact .of (execPrechargeComplete_yields ..)
  | prechargeFault => exact .of (execPrechargeFault_yields ..)
  | connectedEntry => exact .of (execConnectedEntry_yields ..)
  | closeRequest => exact .of (execCloseRequest_yields ..)
  | closeRequestTimeout => exact .of (execCloseRequestTimeout_yields ..)
  | cdbCycle => exact .of (execCdbCycle_yields ..)
  | openSecondPole => exact .of (execOpenSecondPole_yields ..)
  | weld => exact .of (execWeld_yields ..)
  | bkrTripEnd => exact .of (execBkrTripEnd_yields ..)
  | trip => exact .of (execTrip_yields ..)
  | safetyInputSample => exact .of (execSafetyInputSample_yields ..)
  | testPulse => exact .of (execTestPulse_yields ..)
  | crossLinkPublish => exact .of (execCrossLinkPublish_yields ..)
  | discrepancy => exact .of (execDiscrepancy_yields ..)
  | silentPartner => exact .of (execSilentPartner_yields ..)
  | setActivation => exact .of (execSetActivation_yields ..)
  | stagedSetDiscard => exact .of (execStagedSetDiscard_yields ..)
  | safePduReceived => exact .of (execSafePduReceived_yields ..)
  | commWindowExpiry => exact .of (execCommWindowExpiry_yields ..)
  | blackChannelPdu => exact .of (execBlackChannelPdu_yields ..)
  | commWatchdogExpiry => exact .of (execCommWatchdogExpiry_yields ..)
  | networkDown => exact .of (execNetworkDown_yields ..)
  | degradeExpiry => exact .of (execDegradeExpiry_yields ..)
  | heartbeatSend => exact .of (execHeartbeatSend_yields ..)
  | beatReceived => exact .of (execBeatReceived_yields ..)
  | takeover => exact .of (execTakeover_yields ..)
  | claimFrame => exact .of (execClaimFrame_yields ..)
  | dutyHoldExpiry => exact .of (execDutyHoldExpiry_yields ..)
  | coilHoldExpiry => exact .of (execCoilHoldExpiry_yields ..)
  | yield => exact .of (execYield_yields ..)
  | higherClaimSeen => exact .of (execHigherClaimSeen_yields ..)
  | peerMessage => exact .of (execPeerMessage_yields ..)
  | heartbeat => exact .of (execHeartbeat_yields ..)
  | peerBeatLoss => exact .of (execPeerBeatLoss_yields ..)
  | peerDown => exact .of (execPeerDown_yields ..)
  | partnerAbsent => exact .of (execPartnerAbsent_yields ..)
  | dormantPartnerTimeout => exact .of (execDormantPartnerTimeout_yields ..)
  | peerState => exact .of (execPeerState_yields ..)
  | swap => exact .of (execSwap_yields ..)
  | swapVerify => exact .of (execSwapVerify_yields ..)
  | scheduledSwapDue => exact .of (execScheduledSwapDue_yields ..)
  | swapOverdue => exact .of (execSwapOverdue_yields ..)
  | resyncStep => exact .of (execResyncStep_yields ..)
  | resyncTimeout => exact .of (execResyncTimeout_yields ..)
  | shadow => exact .of (execShadow_yields ..)
  | pmbusPoll => exact .of (execPmbusPoll_yields ..)
  | pmbusAlert => exact .of (execPmbusAlert_yields ..)
  | rectifierRejoin => exact .of (execRectifierRejoin_yields ..)
  | acLoss => exact .of (execAcLoss_yields ..)
  | acReturn => exact .of (execAcReturn_yields ..)
  | shelfLow => exact .of (execShelfLow_yields ..)
  | shelfCut => exact .of (execShelfCut_yields ..)
  | shelfFull => exact .of (execShelfFull_yields ..)
  | capEvaluation => exact .of (execCapEvaluation_yields ..)
  | shedRestore => exact .of (execShedRestore_yields ..)
  | efuseSample => exact .of (execEfuseSample_yields ..)
  | insertionDelayEnd => exact .of (execInsertionDelayEnd_yields ..)
  | windowExit => exact .of (execWindowExit_yields ..)
  | efuseFastTrip => exact .of (execEfuseFastTrip_yields ..)
  | softStartExpiry => exact .of (execSoftStartExpiry_yields ..)
  | powerGood => exact .of (execPowerGood_yields ..)
  | gateFault => exact .of (execGateFault_yields ..)
  | efuseFault => exact .of (execEfuseFault_yields ..)
  | retryTimerExpiry => exact .of (execRetryTimerExpiry_yields ..)
  | faultCountClear => exact .of (execFaultCountClear_yields ..)
  | detectedError => exact .of (execDetectedError_yields ..)
  | selfTestOutcome => exact selfTestOutcome_lawful _ _ _ s
  | memoryError => exact .of (execMemoryError_yields ..)
  | scrubPass => exact .of (execScrubPass_yields ..)
  | imbalance => exact .of (execImbalance_yields ..)
  | recordSubmit => exact .of (execRecordSubmit_yields ..)
  | dormantRecordFlush => exact .of (execDormantRecordFlush_yields ..)
  | chunkFlush => exact .of (execChunkFlush_yields ..)
  | preEraseComplete => exact .of (execPreEraseComplete_yields ..)
  | supHandoverAdopt => exact .of (execSupHandoverAdopt_yields ..)
  | handoverWindowExceeded => exact .of (execHandoverWindowExceeded_yields ..)
  | spActivationTimeout => exact .of (execSpActivationTimeout_yields ..)
  | trialConfirmation => exact .of (execTrialConfirmation_yields ..)
  | trialWindowExpiry => exact .of (execTrialWindowExpiry_yields ..)
  | fallback => exact .of (execFallback_yields ..)
  | recoveryEntry => exact .of (execRecoveryEntry_yields ..)
  | fwBegin => exact .of (execFwBegin_yields ..)
  | fwData => exact .of (execFwData_yields ..)
  | fwEnd => exact .of (execFwEnd_yields ..)
  | fwSwitch => exact .of (execFwSwitch_yields ..)
  | monitorReturnTimeout => exact .of (execMonitorReturnTimeout_yields ..)
  | driverConfigLoad => exact .of (execDriverConfigLoad_yields ..)
  | beaconTimeout => exact .of (execBeaconTimeout_yields ..)
  | monitorRestart => exact .of (execMonitorRestart_yields ..)
  | hardwareComparatorAlarm => exact .of (execHardwareComparatorAlarm_yields ..)
  | bleedEnd => exact .of (execBleedEnd_yields ..)
  | shuttleEnd => exact .of (execShuttleEnd_yields ..)
  | busOffRecovery => exact .of (execBusOffRecovery_yields ..)
  | supRestart => exact .of (execSupRestart_yields ..)
  | auxSample => exact .of (execAuxSample_yields ..)

theorem step_orderly {s u : State} (h : step s = .next u) : Orderly s u := by
  unfold step at h
  split at h
  · cases h; exact .refl s
  next c rest _ =>
    obtain ⟨hmem, hcan, hlog⟩ := (exec_lawful c { s with pending := rest } u h).changes.orderly
    exact ⟨hmem, hcan, hlog⟩

/-- Settles O50: every write to a memory keeps its form, whatever command makes it. -/
theorem stepKeepsMemory : Obligations.StepKeepsMemory := fun _ _ hs h =>
  ⟨(step_orderly h).mem hs.1, (step_orderly h).canRam hs.2⟩

/-- Settles O54: but for a test under a restoring command that passes, no command takes a unit from the retired ones. -/
theorem retirementLasts : Obligations.RetirementLasts := fun c s v x hx h => (exec_lawful c s v h).retired x hx

/-- Settles O55, by the law of each command. -/
theorem onlyItsParts : Obligations.OnlyItsParts := fun c s u h _ hp =>
  Piece.same_of_outside (exec_lawful c s u h).changes.rest hp

theorem logGetStatus_answers {s : State} {q : Req} (h : Taken s q) (hr : s.unit.isRole = true ∨ s.unit = .safeHold ∨ s.unit = .recovery)
    (hp : q.payload = []) : Does (.logGetStatus q) s fun u => Answered u q 0x1001 stOk 0 (logStatus s) ∧ u.plg = s.plg := by
  have ⟨_, _, henv⟩ := h
  refine ⟨ok (touch s) 0x1001 q (logStatus s), ?_, ok_answered .., by simp [ok]⟩
  change getNone 0x1001 true logStatus q s = _
  unfold getNone
  rw [command_run _ _ q s h, noteDesc_none _ _ _ rfl]
  · rfl
  · exact rejection_passes (if_pos (by rw [hp]; rfl)) (rolesOk_window hr rfl rfl rfl) henv rfl rfl rfl rfl rfl rfl

/-- Settles O53: a record is put with the number that is next, and a cleared log counts from it. -/
theorem logRecordsCountOn : Obligations.LogRecordsCountOn :=
  ⟨fun _ _ => logGetStatus_answers, fun _ _ hs h => (step_orderly h).log hs⟩

end Sys2Proof.Machine
end
